-- ==== Sys2Proof/Word.lean ====
section
/-! DEFINITION. Words and bytes, and their plainest arithmetic. -/

namespace Sys2Proof

/-- One byte of a register, a frame or a memory. -/
abbrev Byte := BitVec 8

/-- A raw dictionary object identifier: area [31:24], index [23:8], sub-index [7:0] (R171). -/
abbrev RawOid := BitVec 32

/-- The number that a byte string spells, least significant byte first (R10). -/
def leNat : List Byte → Nat
  | [] => 0
  | b :: bs => b.toNat + 256 * leNat bs

/-- The first `n` bytes of a number, least significant byte first (R10). -/
def leBytes : Nat → Nat → List Byte
  | 0, _ => []
  | n + 1, v => BitVec.ofNat 8 v :: leBytes n (v / 256)

/-- Two's complement reading of the low `w` bits of a number (R9). -/
def signed (w v : Nat) : Int :=
  let u := v % 2 ^ w
  if u < 2 ^ (w - 1) then (u : Int) else (u : Int) - (2 ^ w : Nat)

/-- The low `w` bits of an integer as a natural number (R9). -/
def unsigned (w : Nat) (v : Int) : Nat := (v % (2 ^ w : Nat)).toNat

/-- Bit `i` of a number. -/
def bitOf (v i : Nat) : Bool := v.testBit i

/-- The field [hi:lo] of a number. -/
def field (v hi lo : Nat) : Nat := v / 2 ^ lo % 2 ^ (hi + 1 - lo)

/-- A number with bit `i` set to `b`. -/
def withBit (v i : Nat) (b : Bool) : Nat :=
  if v.testBit i = b then v else if b then v + 2 ^ i else v - 2 ^ i

/-- 1 for true, 0 for false (R9). -/
def boolNat (b : Bool) : Nat := if b then 1 else 0

/-- A value held inside a closed interval. -/
def clampInt (lo hi v : Int) : Int := if v < lo then lo else if hi < v then hi else v

/-- Division rounding halves away from zero, for a positive divisor. -/
def divRound (a : Int) (d : Nat) : Int :=
  if a ≥ 0 then ((2 * a.toNat + d) / (2 * d) : Nat)
  else -(((2 * (-a).toNat + d) / (2 * d) : Nat) : Int)

/-- The absolute value of an integer, as a natural number. -/
abbrev mag (a : Int) : Nat := a.natAbs

end Sys2Proof
end

