-- ==== Sys2Proof/Operand.lean ====
section
/-! DEFINITION. The operand types of the commands: what a step carries in from outside the module (frames, messages,
measurements), as plain data. -/

namespace Sys2Proof

/-- The twelve domains, in the order of the table Domain bit layout (R109). -/
inductive Domain where
  | aon | sla | safe | app | ce | met | pos | dl | bus | net | mem | twin
deriving DecidableEq, Repr

/-- An on-demand test that R20 and R21 bound: what runs it. -/
inductive TestKind where
  /-- Metering calibration on island `i` (R474). -/
  | calibration (i : Fin 4)
  /-- Line test of door channel `k` (R372). -/
  | lineTest (k : Fin 24)
  /-- Full self-test of the safety functions (R546). -/
  | selfTest
deriving DecidableEq, Repr

/-- What wakes a sleeping application core (R82). -/
inductive WakeEvent where
  | work | frame | launch | canWindow | timer
deriving DecidableEq, Repr

/-- Outputs that have read-back windows of their own (R567). -/
inductive BlockKind where
  | field | safety | fp | pt
deriving DecidableEq, Repr

/-- What the header of a received twin link frame says (R578), with the outcome of its CRC-32C check. -/
structure TwinHdr where
  /-- Lane the copy arrived on. -/
  lane : Fin 2
  /-- The CRC-32C over header and payload is good. -/
  crcGood : Bool
  /-- GEN. -/
  gen : BitVec 32
  /-- Sender's PAIR_ID. -/
  pairId : BitVec 8
  /-- Sender's POSITION. -/
  position : BitVec 8
  /-- Sender's ID_SERIAL, exchanged at step 10 of the table Start-up after COLD (R133). -/
  serial : BitVec 64
  /-- Sender's MIRROR_VER. -/
  mirrorVer : BitVec 16
  /-- FLAGS bit 0, FINAL. -/
  final : Bool
  /-- FLAGS bit 1, RETRY. -/
  retry : Bool
deriving DecidableEq, Repr

/-- The payload of a HEALTH frame (R579). -/
structure HealthMsg where
  state : BitVec 8
  summary : BitVec 8
  checks : BitVec 32
  fw : BitVec 32
  time : BitVec 64
deriving DecidableEq, Repr

/-- One item of a mirror batch (R581). The items that carry present values of one subsystem carry them as values of the
dictionary objects that hold them. -/
inductive BatchItem where
  /-- 0x0001 Write: order position, session, REQ_ID, fingerprint, OID, priority, RELINQUISH, DEFAULT, value. -/
  | write (pos : Nat) (ses : Nat) (req : BitVec 32) (fpr : BitVec 256) (oid : RawOid) (prio : Nat) (relinquish dflt : Bool)
      (value : List Byte)
  /-- 0x0002 Launch, accepted: partition and descriptor. -/
  | launchAccept (part : Nat) (desc : List Byte)
  /-- 0x0002 Launch, cancelled: partition and tag. -/
  | launchCancel (part : Nat) (tag : BitVec 32)
  /-- 0x0002 Launch, outcome at the commit point or at emission: refused, or applied or emitted. -/
  | launchOutcome (part : Nat) (tag : BitVec 32) (refused : Bool)
  /-- 0x0003 Ledger: an item admitted, named by its kind and number, with its class, and its accounts and loads. -/
  | ledgerAdmit (kind num : Nat) (cls : Nat) (charges : List (Nat × Nat))
  /-- 0x0003 Ledger: an item removed. -/
  | ledgerRemove (kind num : Nat)
  /-- 0x0003 Ledger: an item degraded, or restored. -/
  | ledgerDegrade (kind num : Nat) (degraded : Bool)
  /-- 0x0003 Ledger: a subscription admitted: handle, partition, fingerprint, point, SUB_INDEX, class, MIN_INTERVAL, COV_INCREMENT,
  LIFETIME, port, and whether it is BACnet's (R243). -/
  | subscribe (handle part : Nat) (fpr : BitVec 256) (point sub cls minInt inc life port : Nat) (bacnet : Bool)
  /-- 0x0003 Ledger: a subscription removed. -/
  | unsubscribe (handle : Nat)
  /-- 0x0004 Dispatch: the registered hall calls (group, landing, down, car) and destination calls (group, terminal, SEQ, source,
  destination, flags, car, status, channel, picked up, over), and the cars whose start waits under emergency power (R449). -/
  | dispatch (halls : List (Nat × Nat × Bool × Nat)) (calls : List (List Nat)) (waits : List Nat)
  /-- 0x0004 to 0x0009 and 0x000C: present values of a subsystem's objects, by OID. -/
  | values (kind : Nat) (nums : List (Nat × Int)) (blobs : List (Nat × List Byte))
  /-- 0x000A Digest: the output digest of the tick, as (item kind, item, value) triples (R584). -/
  | digest (d : List (Nat × Nat × Int))
  /-- 0x000B Committed write: fingerprint, REQ_ID and status for QUERY (R204). -/
  | committed (fpr : BitVec 256) (req : BitVec 32) (status : BitVec 8)
  /-- 0x000D Request: a block reset word (R129). -/
  | blockReset (v : BitVec 64)
  /-- 0x000D Request: a test asked of the standby (R372, R546). -/
  | testRequest (t : TestKind)
  /-- 0x000D Request: data or a request for the twin's firmware bank, as the write that asks for it (R634). -/
  | firmware (oid : Nat) (value : List Byte)
  /-- 0x000E Time state: TIME_STATUS, grandmaster role, TIME64 of the start of any holdover (R156). -/
  | timeState (status : BitVec 8) (grandmaster : Bool) (holdoverAt : Nat)
  /-- 0x000F Withdraw: fingerprint and REQ_ID of a host write removed by an ABORT (R674). -/
  | withdraw (fpr : BitVec 256) (req : BitVec 32)
deriving DecidableEq, Repr

/-- A mirror batch on the link: TIME64 at its sending, and its items (R155, R580). -/
structure BatchMsg where
  sentAt : BitVec 64
  items : List BatchItem
deriving DecidableEq, Repr

/-- A delay request: the port that sends one, or that has received one with a sequence number (R143, R146). -/
structure DelayReq where
  port : Fin 4
  received : Option (BitVec 16)
deriving DecidableEq, Repr

/-- What a PTP Announce message says of its grandmaster (R145, R149). -/
structure AnnounceMsg where
  gmId : BitVec 64
  priority1 : BitVec 8
  clockClass : BitVec 8
  accuracy : BitVec 8
  variance : BitVec 16
  priority2 : BitVec 8
  stepsRemoved : BitVec 16
  domain : BitVec 8
  /-- Present time of the grandmaster, as the accompanying Sync gives it (R151). -/
  time : BitVec 64
deriving DecidableEq, Repr

/-- The three loop classes, with their codes in loop references (R380). -/
inductive LoopClass where
  | fast | medium | slow
deriving DecidableEq, Repr

/-- The cipher suites of TLS 1.3 that R187 names, and any other. -/
inductive TlsSuite where
  | aes256GcmSha384 | aes128GcmSha256 | other
deriving DecidableEq, Repr

/-- The key exchange groups that R187 names, and any other. -/
inductive TlsGroup where
  | secp384r1 | secp256r1 | other
deriving DecidableEq, Repr

/-- The signature algorithms that R187 names, and any other. -/
inductive TlsSig where
  | ecdsaSecp384r1Sha384 | ecdsaSecp256r1Sha256 | rsaPssRsaeSha256 | other
deriving DecidableEq, Repr

/-- What a host offers in its TLS handshake (R187). -/
structure TlsHello where
  tcpPort : BitVec 16 := 4260
  /-- TLS 1.3 is among the versions offered. -/
  tls13 : Bool := true
  suites : List TlsSuite := [.aes256GcmSha384]
  groups : List TlsGroup := [.secp384r1]
  /-- Signature algorithms that it accepts of the module. -/
  sigs : List TlsSig := [.ecdsaSecp384r1Sha384]
deriving DecidableEq, Repr

/-- A host's end-entity certificate, as far as R187 to R189 read it, and what the host offers. -/
structure HostCert where
  /-- The peer proves possession of the certificate's key, and the handshake's own checks pass (RFC 8446, R187). -/
  handshakeOk : Bool
  /-- The trust anchor its chain ends at, if any of HOST_CA0 to HOST_CA7 (R188). -/
  anchor : Option (Fin 8)
  notBefore : BitVec 64
  notAfter : BitVec 64
  /-- SHA-256 fingerprint (R189). -/
  fpr : BitVec 256
  /-- Subject common name (R189). -/
  commonName : List Byte
  /-- A certificate was given at all (R187). -/
  present : Bool := true
  /-- The algorithm that the host signs with (R187). -/
  sig : TlsSig := .ecdsaSecp384r1Sha384
  hello : TlsHello := {}
deriving DecidableEq, Repr

/-- A PDP frame as received (R195). -/
structure Frame where
  magic : BitVec 16
  version : BitVec 8
  op : BitVec 8
  reqId : BitVec 32
  /-- LENGTH as the header states it. -/
  length : BitVec 32
  flags : BitVec 8
  payload : List Byte
  /-- STATUS, 0 in host-to-module frames, and the reserved field; both are ignored (R11). -/
  status : BitVec 8 := 0
  rsv : BitVec 16 := 0
deriving DecidableEq, Repr

/-- A CANopen SDO request (R206, R207). -/
structure SdoReq where
  index : BitVec 16
  sub : BitVec 8
  /-- `none` reads; `some` writes the bytes, of an expedited or a segmented download as a whole (R206). -/
  write : Option (List Byte)
  /-- COB-ID of the request: 0x600 and the node-ID it addresses (R206). -/
  cob : BitVec 11 := 0x601
  /-- The request starts a block transfer (R206). -/
  block : Bool := false
deriving DecidableEq, Repr

/-- A frame that a CAN channel receives (R257, R263), or the end of one by a protocol error. -/
structure CanFrame where
  /-- Identifier: 11 bits, or 29 where `ide`. -/
  id : BitVec 29
  ide : Bool
  fdf : Bool
  brs : Bool
  esi : Bool
  rtr : Bool
  /-- Data length that the DLC states, in bytes. -/
  len : Fin 65
  data : List Byte
  /-- TIME64 of the start of frame. -/
  start : BitVec 64
  /-- The frame is valid; false where it ended in a bit, stuff, form or CRC error. -/
  ok : Bool
  /-- Of an erroneous frame, how often its error flags met a condition that counts 8 more in REC: a dominant bit after the receiver's own flag, a
  bit error in that flag, or eight dominant bits more (ISO 11898-1, R257). -/
  flags : Nat := 0
deriving DecidableEq, Repr

/-- What a channel was transmitting. -/
inductive CanTx where
  | reference
  | entry (e : Fin 256)
  | buffer (t : Fin 64)
deriving DecidableEq, Repr

/-- How a transmission ended (R269, R274, R284, R285). -/
inductive CanTxRes where
  /-- Complete and acknowledged; `late` of a reference message that started later than one nominal bit time. -/
  | complete (late : Bool)
  | error
  /-- No acknowledge came while error-passive, and no dominant bit during the passive error flag: TEC stays (ISO 11898-1, R257). -/
  | noAck
  /-- Lost arbitration. -/
  | lost
  /-- A bit error after the arbitration field: the bits of the other frame received up to it. -/
  | collision (bits : Nat) (other : List Byte)
deriving DecidableEq, Repr

/-- The end of a transmission: what, how, and the TIME64 of its start of frame. -/
structure CanTxEnd where
  what : CanTx
  res : CanTxRes
  start : BitVec 64
deriving DecidableEq, Repr

/-- Where an event buffer's frame stands when a cancel of it is accepted (R270). -/
inductive TxPhase where
  | offBus | arbitrationLost | arbitrationWon | pastArbitration
deriving DecidableEq, Repr

/-- A machine encoder line (R305). -/
inductive EncLine where
  | a | b | z
deriving DecidableEq, Repr

/-- What a complete SSI frame reads (R313 to R315), or its absence. -/
structure SsiReading where
  /-- SSI_DAT was high at the start of the frame. -/
  idleHigh : Bool
  /-- The measured line delay d, ns; none where no acknowledge came. -/
  delayNs : Option Nat
  /-- The SSI_BITS data bits, the first one most significant. -/
  data : BitVec 32
  /-- The error bit and the parity bit, where SSI_FORMAT asks for them. -/
  errBit : Bool
  parity : Bool
  /-- First falling clock edge: TIME64, and on the unit's clock, ns. -/
  time : BitVec 64
  now : Nat
deriving DecidableEq, Repr

/-- What the handshake of a door link waits for (R352, R353). -/
inductive HsEvent where
  /-- Steps 1 to 3: uplink PRBS seen, or not seen within 5 ms of t0. -/
  | prbs (seen : Bool)
  /-- Steps 4 and 5: FRAME_LOCK in both directions and the identity words read twice, or not within 100 ms of t0. -/
  | lock (got : Bool)
  /-- Step 6: d measured, ns. -/
  | delay (dNs : Nat)
  /-- Step 7: phase alignment reached, or not within 1 ms; equalisation in 0.1 dB. -/
  | align (reached : Bool) (eq : Nat)
  /-- Step 7: the last bit of an uplink frame arrives so many bit times too late for its window; the module sends CMD 0x02. -/
  | shift (late : BitVec 16)
  /-- Step 8: the remaining checks. -/
  | finish
deriving DecidableEq, Repr

/-- What a line test counted: frames sent, frames returned good and equal, d in ns, equalisation (R373). -/
structure LineTest where
  sent : Nat
  good : Nat
  dNs : Nat
  eq : Nat
deriving DecidableEq, Repr

/-- Who asks a closing door to reopen (R371): a door open button, a photocell or other sensor point, or a new call for the landing. -/
inductive ReopenSrc where
  | button | sensor | call
deriving DecidableEq, Repr

/-- The link that a BACnet request comes by (R246, R249, R250): BACnet/IP on a NET or T1L port, encoded as PORT of the table Binding
layout; BACnet/SC with the peer's certificate; MS/TP on an RS-485 channel. -/
inductive BacLink where
  | ip (port : Nat)
  | sc (fpr : BitVec 256) (anchor : Option (Fin 8)) (commonName : List Byte)
  | mstp (m : Fin 8)
deriving DecidableEq, Repr

/-- The properties of a point object (R248); Priority_Array names a slot 1 to 16, or the whole array; and those of the Device object whose
values R246 gives. -/
inductive BacProp where
  | presentValue | priorityArray (slot : Option (Fin 16)) | relinquishDefault | objectName | units | covIncrement | outOfService | statusFlags
  | objectIdentifier | maxApduLength | segmentationSupported
deriving DecidableEq, Repr

/-- One property of one object that a BACnet request names, with what it writes: the object by the TYPE of R215 that its object type stands
for and its instance; the value as the property's type spells it, a null to relinquish, and the priority if one is given. -/
structure BacItem where
  type : Fin 12
  inst : Nat
  prop : BacProp
  value : List Byte := []
  null : Bool := false
  prio : Option (Fin 17) := none
deriving DecidableEq, Repr

/-- A BACnet request as received (R246 to R251), with the fields of every service. -/
structure BacReq where
  link : BacLink
  /-- Its invoke number; 0 for an unconfirmed request. -/
  invoke : Nat
  /-- The device instance it is addressed to, on a link whose network holds the one device (R249). -/
  device : Nat
  /-- On BACnet/SC: the destination network and MAC address (R250). -/
  dest : Option (Nat × List Byte) := none
  /-- The network address of the peer on its link, and the process that a SubscribeCOV names (R251). -/
  peer : List Byte := []
  process : Nat := 0
  items : List BacItem := []
  /-- SubscribeCOV: lifetime in s, 0 for none; true cancels the subscription. -/
  life : Nat := 0
  cancel : Bool := false
  /-- Who-Is and Who-Has: the range of device instances asked for. -/
  lo : Nat := 0
  hi : Nat := 4194303
  /-- Who-Has by name. -/
  name : Option (List Byte) := none
  /-- DeviceCommunicationControl: 0 enable, 1 disable, 2 disable initiation; its duration in minutes, 0 for no end. -/
  comm : Fin 3 := 0
  minutes : Nat := 0
deriving DecidableEq, Repr

/-- One corrected sample of a current channel, as the metering engine forms it (R461, R466): powers in µW, µvar and µVA, the
one-cycle RMS current in primary µA. -/
structure SampleIn where
  /-- One-cycle mean of p ending at the sample (R487). -/
  pMean : Int
  p1 : Int
  q1 : Int
  s : Nat
  iRms : Nat
  /-- The sample is at the clip level of its sensor; peak at the contact, REAL32 (R469). -/
  clip : Bool
  peak : BitVec 32
  /-- TIME64 of the sample (R455). -/
  stamp : BitVec 64
deriving DecidableEq, Repr

/-- The 512 modulator bits of the 125 µs of one sample, oldest first: of a current channel and of its voltage channel, with the TIME64 at which the
input was sampled, the group delay removed (R454, R455). -/
structure StreamIn where
  bits : List Bool
  vbits : List Bool
  stamp : BitVec 64
deriving DecidableEq, Repr

/-- Where a sample comes from: formed already, or from the bitstreams through the signal chain (R454). -/
inductive SampleSrc where
  | formed (d : SampleIn)
  | stream (x : StreamIn)
deriving DecidableEq, Repr

/-- What a 200 ms window measured of a current channel (R461): REAL32 values, and the RMS current in mA after ADC calibration and
before segment correction (R464). -/
structure CurWin where
  ch : Fin 64
  rawMa : Nat
  irms : BitVec 32
  i1 : BitVec 32
  p : BitVec 32
  p1 : BitVec 32
  q1 : BitVec 32
  s : BitVec 32
  thd : BitVec 32
deriving DecidableEq, Repr

/-- What a window measured of a voltage channel (R461): REAL32 values, and whether a sample was at the clip level (R469). -/
structure VolWin where
  ch : Fin 16
  clip : Bool
  peak : BitVec 32
  rms : BitVec 32
  v1 : BitVec 32
  thd : BitVec 32
deriving DecidableEq, Repr

/-- What a window measured (R460, R461): the channels, the frequency of the channel that the PLL tracks, and whether it is in lock. -/
structure WindowIn where
  cur : List CurWin
  vol : List VolWin
  milliHz : Nat
  locked : Bool
deriving DecidableEq, Repr

/-- What a calibration step measured (R473): the channel ADC's new gain and phase (FIX32), and its differences from the shadow in ppm
and µrad. -/
structure CalMeas where
  gain : Int
  phase : Int
  dg : Int
  dp : Int
deriving DecidableEq, Repr

/-- The power-up check of one ADC (R472): offset in ppm of full scale, gain difference in ppm, phase difference in µrad. -/
structure AdcCheck where
  offset : Int
  gain : Int
  phase : Int
deriving DecidableEq, Repr

/-- A word of a save snapshot that fails its code check (R500). -/
inductive SaveWord where
  | reg (c : Fin 64) (r : Fin 16)
  | residue (x : Fin 20)
  | owed (x : Fin 20)
deriving DecidableEq, Repr

/-- The two technologies of the safety functions (R515, R523). -/
inductive SwTech where
  | sPair | sla
deriving DecidableEq, Repr

end Sys2Proof
end

