-- ==== Sys2Proof/Syntax.lean ====
section
/-! DEFINITION. The commands of the module: one constructor per row of the table of operations and events. -/

namespace Sys2Proof

/-- The steps of the module. The constructors' docstrings name the row and the rule that governs it. A host write carries the session
slot and the REQ_ID of the request that asks for it. -/
inductive Instr where
  /-- MODULE_STATE_REQ_SERVICE (R6): MODULE_STATE_REQ written with 1 requests SERVICE; refused with BUSY while a car is busy, otherwise idle cars park and the module enters SERVICE. -/
  | moduleStateReqService (ses : Fin 64) (req : BitVec 32)
  /-- MODULE_STATE_REQ_ACTIVE (R37): MODULE_STATE_REQ written with 3 moves a SERVICE module to ACTIVE if a valid signed configuration set is present, otherwise it is refused with INTEGRITY. -/
  | moduleStateReqActive (ses : Fin 64) (req : BitVec 32)
  /-- HANDOVER_REQ (R575): A write of 1 on the ACTIVE module starts a planned handover: new items are held, a FINAL batch is sent, and the module releases with cause 0 after its CONFIRM. -/
  | handoverReq (ses : Fin 64) (req : BitVec 32)
  /-- HANDOVER_CONFIRM_TIMEOUT (R575): No CONFIRM of the FINAL batch within 2 ms refuses the handover with BUSY, and the held items proceed. -/
  | handoverConfirmTimeout
  /-- STATE_DECISION (R5): Once start-up is complete and ACTIVE_IN permits, the module chooses STANDBY, SERVICE or ACTIVE and asserts ACTIVE_OUT by position under R135. -/
  | stateDecision
  /-- LAUNCH_SUBMIT (R159): A write of 1 to 64 launch descriptors is checked in the order of R160 and accepted or refused as a whole. -/
  | launchSubmit (ses : Fin 64) (req : BitVec 32) (data : List Byte)
  /-- LAUNCH_CANCEL (R162): A cancel by tag removes the launch before its commit point (OK), returns TOO_LATE after it, or NO_OBJECT for a tag that is not held. -/
  | launchCancel (ses : Fin 64) (req : BitVec 32) (tag : BitVec 32)
  /-- LAUNCH_COMMIT (R17): 100 µs before its launch time, a launch is handed to its emitting block after access is checked again. -/
  | launchCommit (part : Fin 1024) (tag : BitVec 32)
  /-- LAUNCH_EMIT (R164): At its launch time or target window, the emitting module applies or emits the launch's absolute value. -/
  | launchEmit (part : Fin 1024) (tag : BitVec 32)
  /-- TAG_RELEASE (R162): 10 s after its launch time a launch tag stops being held in its partition. -/
  | tagRelease (part : Fin 1024) (tag : BitVec 32)
  /-- TEST_START (R20): A queued on-demand test starts once its power and heat predictions both hold. -/
  | testStart (kind : TestKind) (consMw : Nat) (addMw : Nat)
  /-- TEST_STOP (R21): A running test is stopped, recorded and counted as not run when consumption exceeds 55 W or the die comes within 5 K of the thermal limit. -/
  | testStop (kind : TestKind) (consMw : Nat) (dieTemp : Int)
  /-- ACCOUNT_SHRINK (R235): When an account loses capacity, items move to their ALT_PORT, then items are degraded by class until every ceiling holds again. -/
  | accountShrink (acct : BitVec 16)
  /-- ACCOUNT_GROW (R237): When an account grows, degraded items that pass both tests again are restored in class order, earliest accepted first. -/
  | accountGrow (acct : BitVec 16)
  /-- ACTIVE_OUT_REFRESH (R554): Every 1,000 µs the S-pair retriggers the ACTIVE_OUT hold while its state permits. -/
  | activeOutRefresh
  /-- REFRESH_LAPSE (R36): The ACTIVE_OUT hold expires without a refresh: ACTIVE_OUT falls, outputs hold in their latches, and a CORE reset source is asserted. -/
  | refreshLapse
  /-- ACTIVE_IN_FALL (R563): A STANDBY module recognises the fall of ACTIVE_IN and starts the 50 µs guard; a running test pulse or full test ends. -/
  | activeInFall (recogNs : Nat) (rel : Option (BitVec 8 × BitVec 64))
  /-- EQUINOX (R563): At the end of the guard a healthy standby asserts ACTIVE_OUT, applies its confirmed batches and drives each output to the level it reads. -/
  | equinox (levels : BitVec 128)
  /-- ACTIVE_IN_RISE (R121): A module sees ACTIVE_IN asserted: a releasing module enters its pending reset, and a standby in its guard abandons the takeover. -/
  | activeInRise (recogNs : Nat)
  /-- READBACK_WINDOW_END (R567): At the end of an output's read-back window the new active module checks the match, and after the last window it sends PASS. -/
  | readbackWindowEnd (kind : BlockKind) (sense : BitVec 128) (contact : BitVec 128)
  /-- PASS (R570): The releasing module receives PASS, opens the latches named in it, and answers PASS_ACK. -/
  | passMap (map : BitVec 128)
  /-- PASS_ACK (R571): The new active module receives PASS_ACK and may change the outputs named in it. -/
  | passAck (map : BitVec 128)
  /-- LATCH_TIMEOUT (R570): A held latch opens 500 µs after ACTIVE_IN is asserted, or after its 20 ms limit when there is no takeover. -/
  | latchTimeout (bit : Fin 128)
  /-- ABORT_HO (R576): A standby receiving ABORT_HO before EQUINOX stops its guard and answers ABORT_ACK. -/
  | abortHo
  /-- ABORT_ACK (R576): The releasing module reasserts ACTIVE_OUT, returns to ACTIVE with its outputs still latched, and answers the ABORT with OK. -/
  | abortAck
  /-- HEALTH_SEND (R557): Every 1 ms each module sends a HEALTH frame on both lanes. -/
  | healthSend
  /-- HEALTH (R557): A received HEALTH frame updates the twin's state, summary, check bits and firmware version. -/
  | health (hdr : TwinHdr) (h : HealthMsg)
  /-- HEALTH_TIMEOUT (R557): 10 ms without a HEALTH frame reports the twin as ABSENT, unless its last frame reported FROZEN. -/
  | healthTimeout
  /-- BATCH_SEND (R580): At each medium tick the module driving outputs closes the generation's mirror batch and sends it within 10 µs. -/
  | batchSend
  /-- BATCH (R582): The standby receives a batch, applies its items in generation order, stages its Write items and sends CONFIRM. -/
  | batch (hdr : TwinHdr) (b : BatchMsg)
  /-- CONFIRM (R674): The active module receives CONFIRM: the host writes of that batch reach their commit point, are applied, journalled and answered. -/
  | confirm (hdr : TwinHdr) (gen : BitVec 32)
  /-- NAK (R583): The active module resends the missing kept batches with RETRY set. -/
  | nak (hdr : TwinHdr) (first : BitVec 32) (count : Nat)
  /-- MIRROR_TIMEOUT (R583): A standby that has lacked a batch for 2 ms clears MIRROR and starts resynchronisation. -/
  | mirrorTimeout
  /-- STANDBY_LOST (R583): 2 ms without a CONFIRM: the active module records STANDBY_LOST, treats the twin as no healthy standby and commits pending writes. -/
  | standbyLost
  /-- DIVERGE (R585): A module receiving DIVERGE runs its diagnosis of at most 100 ms, leaving its outputs untouched. -/
  | diverge (hdr : TwinHdr) (kind : Byte) (item : BitVec 32) (gen : BitVec 32)
  /-- DIAGNOSIS_END (R585): A module completes its divergence diagnosis and sends its result in DIAG. -/
  | diagnosisEnd (fail : Bool) (check : Byte)
  /-- DIAG (R585): On receipt of the twin's diagnosis result, the outcome of the table Divergence outcome is applied. -/
  | diag (hdr : TwinHdr) (fail : Bool) (check : Byte)
  /-- DIAG_TIMEOUT (R585): A diagnosis result not received within 200 ms counts as fail. -/
  | diagTimeout
  /-- RESYNC_REQ (R588): The active module fixes g0, streams the relevant state as at g0 and keeps later batches for the standby. -/
  | resyncReq (hdr : TwinHdr) (fw : BitVec 32)
  /-- RESYNC_DATA (R589): The standby stores a received piece of streamed state. -/
  | resyncData (hdr : TwinHdr) (region : Nat) (offset : Nat) (data : List BatchItem)
  /-- RESYNC_END (R588): The end of phase 1 sets MIRROR after the stored batches are applied; the end of phase 2 sets FULL_STATE. -/
  | resyncEnd (hdr : TwinHdr) (phase : Nat) (g0 : BitVec 32)
  /-- PULSE_TEST (R586): Once per TW_PULSE_PERIOD a standby pulse-tests one of its own outputs and checks that its switch conducts and blocks. -/
  | pulseTest (bit : Fin 128) (conducts : Bool) (blocks : Bool)
  /-- TWIN_TIME_FRAME (R155): A TIME frame measures the link delay by round trip every 1 s, which the standby uses to discipline its time base. -/
  | twinTimeFrame (hdr : TwinHdr) (rttNs : Nat) (twinTime : BitVec 64)
  /-- ILK_LOOP_FAULT (R71): An interlock loop current out of range leaves the gate as it is, reads ACTIVE_IN by own ACTIVE_OUT, and records TW_ILK_FAULT. -/
  | ilkLoopFault (microAmps : Nat)
  /-- TW_LANE (R577): A lane that loses or regains training changes its account health, and all frames use the other lane. -/
  | twLane (lane : Fin 2) (up : Bool) (swapped : Bool) (inverted : Bool)
  /-- FEED_VALID (R95): A feed above 18.5 V for 100 ms counts as present and starts SPRING when it is the first valid feed. -/
  | feedValid (f : Fin 2) (mv : Nat) (forUs : Nat)
  /-- FEED_LOST (R95): A feed below 17.0 V for 100 µs is recorded; the other feed carries the module. -/
  | feedLost (f : Fin 2) (mv : Nat) (forUs : Nat)
  /-- FEED_OVERVOLT (R95): A feed above 32.0 V for 50 µs is disconnected and recorded. -/
  | feedOvervolt (f : Fin 2) (mv : Nat) (forUs : Nat)
  /-- FEED_RECONNECT (R95): A disconnected feed is reconnected after 100 ms below 31.0 V. -/
  | feedReconnect (f : Fin 2) (mv : Nat) (forUs : Nat)
  /-- SUPPLY_FAIL (R101): Both feeds below 17.0 V for 20 µs start AUTUMN: the hold is released, domains switch off and the save sequencer writes the shadow. -/
  | supplyFail (mvA : Nat) (mvB : Nat) (forUs : Nat)
  /-- AUTUMN_DONE (R101): The save sequencer completes the save, closes the slot set, records AUTUMN_DONE and switches off SRAM, MRAM and PD-SLA. -/
  | autumnDone (durUs : Nat)
  /-- AUTUMN_INCOMPLETE (R102): The bank falling below 12 V before the save ends stops the sequencer at the last complete word and leaves the slot set open. -/
  | autumnIncomplete (words : Nat)
  /-- BANK_MEASURE (R98): Every 500 ms the bank capacitance is measured, and BANK_OK is cleared below 1.8 mF. -/
  | bankMeasure (mv : Nat) (capUf : Nat)
  /-- SPRING_STEP (R105): SPRING switches on the next domain or sub-unit once its time has come and the power account allows it. -/
  | springStep
  /-- CORE_GROUP_RETRY (R106): Every 1 s a held-back core group is switched on if the die is at least 10 K below the limit. -/
  | coreGroupRetry
  /-- BANK_OK_TIMEOUT (R107): BANK_OK not true by t0 + 2 s records BANK_NOT_READY and start-up continues from step 13. -/
  | bankOkTimeout
  /-- CORE_SLEEP (R81): An application core whose queue has been empty for APP_SLEEP_DELAY is power-gated, keeping APP_MIN_AWAKE awake. -/
  | coreSleep (core : Fin 16)
  /-- CORE_WAKE (R82): A wake event runs a sleeping core within 40 µs. -/
  | coreWake (core : Fin 16) (ev : WakeEvent)
  /-- CLOCK_LOST (R89): Loss of a domain's clock-good asserts its blocks' reset, records CLOCK_LOST and, on an ACTIVE module with a healthy standby, releases. -/
  | clockLost (dom : Domain) (cause : Bool)
  /-- CLOCK_RESTORED (R125): Clock-good asserted again releases the blocks waiting in RST_PEND on the next CK-AON edge. -/
  | clockRestored (dom : Domain)
  /-- AON_FALLBACK (R88): Loss or return of the crystal's clock-good switches CK-AON to or from the burst oscillator and records the change-over. -/
  | aonFallback (good : Bool)
  /-- DIE_TEMP_READING (R675): Each die temperature reading recomputes the heat account capacity. -/
  | dieTempReading (t : Int)
  /-- THERMAL_RESET (R663): PD-AON sees the die at 115 °C, releases the hold and asserts the WARM source THERMAL. -/
  | thermalReset (t : Int)
  /-- THERMAL_RELEASE (R114): The THERMAL source is released after DIE_TEMP has been below 100 °C for 10 s. -/
  | thermalRelease (t : Int)
  /-- RESET_REQ_COLD (R121): RESET_REQ written with 1 asserts HOST_COLD after releasing ACTIVE_OUT, or is refused under R122. -/
  | resetReqCold (ses : Fin 64) (req : BitVec 32)
  /-- RESET_REQ_WARM (R121): RESET_REQ written with 2 asserts HOST_WARM after releasing ACTIVE_OUT, or is refused under R122. -/
  | resetReqWarm (ses : Fin 64) (req : BitVec 32)
  /-- RESET_REQ_CORE (R121): RESET_REQ written with 3 asserts HOST_CORE after releasing ACTIVE_OUT, or is refused under R122. -/
  | resetReqCore (ses : Fin 64) (req : BitVec 32)
  /-- RESET_N_PRESS (R114): RESET_N low for 20 ms asserts a WARM reset source, stopping any start-up in progress. -/
  | resetNPress (forMs : Nat)
  /-- RESET_N_RELEASE (R114): RESET_N high for 20 ms releases its source. -/
  | resetNRelease (forMs : Nat)
  /-- RESET_N_STUCK (R123): RESET_N low for 8 s sets cause bit 3, is treated as released and is ignored until high for 100 ms. -/
  | resetNStuck (forMs : Nat)
  /-- LOCKSTEP_MISMATCH (R549): An S-pair lockstep disagreement releases ACTIVE_OUT and asserts a CORE reset. -/
  | lockstepMismatch
  /-- APP_WDOG (R114): Expiry of the 50 ms application cluster watchdog asserts a CORE reset. -/
  | appWdog
  /-- CRIT_DSE (R626): An uncorrectable error in a critical region releases ACTIVE_OUT, records MEM_CRITICAL and asserts a WARM reset. -/
  | critDse (region : Byte) (addr : BitVec 32)
  /-- RESET_RELEASE (R117): When every asserted source is released, start-up of the widest reach seen runs. -/
  | resetRelease (strapRatio : Nat)
  /-- STRAP_RETRY (R132): After a strap fault the measurement is repeated every 1 s, and start-up continues once it falls in a band. -/
  | strapRetry (strapRatio : Nat)
  /-- BLOCK_RST (R128): A write asserts or releases software resets of the selected blocks, refused whole with BUSY if a block is in use. -/
  | blockRst (ses : Fin 64) (req : BitVec 32) (v : BitVec 64)
  /-- SYNC (R148): A PTP Sync on the follower port updates offset and rate by slewing and may take the status to LOCKED. -/
  | sync (port : Fin 4) (offsetNs : Int) (valid : Bool)
  /-- ANNOUNCE (R149): An Announce message may select a grandmaster; the first selection while UNSET steps the time base. -/
  | announce (port : Fin 4) (m : AnnounceMsg)
  /-- ANNOUNCE_TIMEOUT (R146): An announce receipt timeout moves the follower role to the passive port, or enters HOLDOVER when no port has valid Sync. -/
  | announceTimeout (port : Fin 4)
  /-- HOLDOVER_LIMIT (R153): Holdover lasting HOLDOVER_LIMIT sets FREE, keeping the rate correction. -/
  | holdoverLimit
  /-- TIME_STEP_REQ (R150): A write of 1 in SERVICE after a TIME_FAULT steps the time base to the grandmaster under R151. -/
  | timeStepReq (ses : Fin 64) (req : BitVec 32)
  /-- TIME_SET (R152): A host TIME64 in SERVICE, with status UNSET or FREE and no grandmaster, steps the time base and sets FREE. -/
  | timeSet (ses : Fin 64) (req : BitVec 32) (t : BitVec 64)
  /-- SOLSTICE (R168): OPTIME40 wrapping to 0 increments SOLSTICE_COUNT and writes a SOLSTICE record. -/
  | solstice
  /-- LAST_KNOWN_TIME_SAVE (R210): Every 600 s while time is set, LAST_KNOWN_TIME is written to MRAM. -/
  | lastKnownTimeSave
  /-- TIME_MARK (R647): At each TIME_STATUS change and every REC_MARK_INTERVAL, a TIME_MARK record with TIME64 is written. -/
  | timeMark
  /-- CE_FAST_TICK (R386): Each 2 µs fast tick evaluates the HP loops of configured door channels. -/
  | ceFastTick
  /-- CE_MEDIUM_TICK (R387): Each 100 µs medium tick runs mode commands, inputs, ramps, laws, groups, supervision and outputs of medium loops, plus car and door supervision. -/
  | ceMediumTick
  /-- CE_SLOW_TICK (R379): A slow loop falling due on its slow tick is evaluated in due order within 36 ms. -/
  | ceSlowTick (j : Fin 65536)
  /-- CE_DEADLINE (R398): An evaluation not complete at its deadline is abandoned, MISS is set and recorded, and MISS_TRIP consecutive misses trip the loop. -/
  | ceDeadline (cls : LoopClass) (j : Fin 65536)
  /-- TLS_HANDSHAKE (R189): A host TLS handshake is checked against the trust anchors and the host map, and is refused with an alert when no entry matches. -/
  | tlsHandshake (port : Fin 4) (cert : HostCert)
  /-- OPEN (R191): OPEN names a partition and opens a session, or is refused with PARTITION, BUSY or NO_BUDGET. -/
  | openSession (ses : Fin 128) (f : Frame)
  /-- CLOSE (R193): CLOSE ends the session, and the module closes the connection. -/
  | closeSession (ses : Fin 64) (f : Frame)
  /-- PING (R198): PING returns TIME_NOW. -/
  | ping (ses : Fin 64) (f : Frame)
  /-- READ (R173): READ returns an object's value taken at one instant, or a snapshot. -/
  | readObject (ses : Fin 64) (f : Frame)
  /-- WRITE (R674): A host WRITE is checked, placed in the single order and the open mirror batch, and applied at its commit point. -/
  | writeObject (ses : Fin 64) (f : Frame)
  /-- READ_MANY (R199): READ_MANY returns a status and value for each of 1 to 64 OIDs. -/
  | readMany (ses : Fin 64) (f : Frame)
  /-- WRITE_MANY (R199): WRITE_MANY writes 1 to 64 entries all or nothing in one mirror batch. -/
  | writeMany (ses : Fin 64) (f : Frame)
  /-- ABORT (R200): ABORT removes a pending request before its commit point, or returns TOO_LATE or NO_OBJECT. -/
  | abortRequest (ses : Fin 64) (f : Frame)
  /-- QUERY (R204): QUERY returns the recorded status of a host's committed write, or NO_OBJECT. -/
  | query (ses : Fin 64) (f : Frame)
  /-- SUBSCRIBE (R239): SUBSCRIBE admits 1 to 2,048 change-of-value entries all or nothing and returns their handles. -/
  | subscribe (ses : Fin 64) (f : Frame)
  /-- UNSUBSCRIBE (R242): UNSUBSCRIBE removes the named handles all or nothing and frees their charge. -/
  | unsubscribe (ses : Fin 64) (f : Frame)
  /-- NOTIFY (R241): A change, or the end of MIN_INTERVAL after one, sends a NOTIFY for a subscription. -/
  | notify (handle : Nat)
  /-- SAFETY_OPEN (R537): SAFETY_OPEN opens a safety session on a matching password, or stores the first password in SERVICE. -/
  | safetyOpen (ses : Fin 64) (f : Frame) (salt : BitVec 128)
  /-- SAFETY_CLOSE (R194): SAFETY_CLOSE ends the safety session and discards pending changes. -/
  | safetyClose (ses : Fin 64) (f : Frame)
  /-- SAFETY_SESSION_TIMEOUT (R540): 900 s without a safety operation ends the safety session and logs the discard. -/
  | safetySessionTimeout
  /-- SESSION_IDLE_TIMEOUT (R193): No frame for SESSION_IDLE closes the session and records the cause. -/
  | sessionIdleTimeout (ses : Fin 64)
  /-- SESS_CLOSE (R193): An owner write of 1 closes session s, or is refused with NO_OBJECT for a free slot. -/
  | sessClose (ses : Fin 64) (req : BitVec 32) (target : Fin 64) (v : Byte)
  /-- SUBSCRIPTION_HOLD_EXPIRY (R243): Subscriptions of a closed session not taken over within 30 s are removed. -/
  | subscriptionHoldExpiry (handle : Nat)
  /-- SUBSCRIPTION_LIFETIME_EXPIRY (R243): A subscription whose LIFETIME ends is removed. -/
  | subscriptionLifetimeExpiry (handle : Nat)
  /-- SDO_REQUEST (R208): A CANopen SDO request reads or writes an object through SDO_WINDOW as an owner session, answering within 10 ms. -/
  | sdoRequest (r : SdoReq)
  /-- SDO_WINDOW (R207): A write of SDO_WINDOW selects the area and index range that CANopen indexes 0x3000 to 0x3FFF reach. -/
  | sdoWindow (v : BitVec 16)
  /-- BROADCAST_WRITE (R185): A write to a broadcast OID checks every member and writes all of them in one mirror batch, or none. -/
  | broadcastWrite (ses : Fin 64) (req : BitVec 32) (oid : BitVec 32) (prio : Byte) (val : List Byte)
  /-- REGISTER_WRITE (R12): A write to an object with no row of its own is checked against access code, partition, type and range, then stored and mirrored. -/
  | registerWrite (ses : Fin 64) (req : BitVec 32) (oid : BitVec 32) (prio : Byte) (val : List Byte)
  /-- KEPT_VALUE_WRITE (R177): Within 1 s of a change, a live value is written to the kept-values area in MRAM. -/
  | keptValueWrite (oid : BitVec 32)
  /-- POINT_STORE_WRITE (R220): Within 1 s of a change, a point's priority slot is written to the point store in MRAM. -/
  | pointStoreWrite (p : Fin 262144) (slot : Fin 17)
  /-- POINT_ENABLE (R212): A write to ENABLE admits or removes a point in service, refused with BUSY beyond 250,000 points. -/
  | pointEnable (ses : Fin 64) (req : BitVec 32) (p : Fin 262144) (v : Byte)
  /-- POINT_TYPE_WRITE (R676): A new TYPE empties the priority array and resets RELINQUISH_DEFAULT, PV and LAST_CHANGE. -/
  | pointTypeWrite (ses : Fin 64) (req : BitVec 32) (p : Fin 262144) (v : Byte)
  /-- BINDING_WRITE (R222): A SOURCE or SINK binding write is checked for kind, port and class and admitted under the ledger. -/
  | bindingWrite (ses : Fin 64) (req : BitVec 32) (p : Fin 262144) (sink : Bool) (b : List Byte)
  /-- SOURCE_POLL (R223): A source with PERIOD not 0 is polled at its period. -/
  | sourcePoll (p : Fin 262144)
  /-- SOURCE_DELIVERY (R223): A valid value from a source sets PV or enters the priority array at priority 16. -/
  | sourceDelivery (p : Fin 262144) (v : List Byte) (ok : Bool)
  /-- SINK_WRITE (R223): A change of PV is written to the sink, no more often than its charged rate. -/
  | sinkWrite (p : Fin 262144)
  /-- SOURCE_TIMEOUT (R224): A polled source with no valid value for 3 × PERIOD sets FAULT. -/
  | sourceTimeout (p : Fin 262144)
  /-- MODBUS_TIMEOUT (R253): No Modbus response within 1 s counts as a failed delivery and the poll is retried at the next period. -/
  | modbusTimeout (p : Fin 262144)
  /-- READ_PROPERTY (R248): A BACnet ReadProperty returns the mapped point property. -/
  | readProperty (r : BacReq)
  /-- READ_PROPERTY_MULTIPLE (R248): A BACnet ReadPropertyMultiple returns several mapped properties. -/
  | readPropertyMultiple (r : BacReq)
  /-- WRITE_PROPERTY (R248): A BACnet WriteProperty is checked as a PDP write and enters the single order, at priority 16 when none is given. -/
  | writeProperty (r : BacReq)
  /-- WRITE_PROPERTY_MULTIPLE (R248): A BACnet WritePropertyMultiple writes several properties as PDP writes. -/
  | writePropertyMultiple (r : BacReq)
  /-- SUBSCRIBE_COV (R251): A BACnet SubscribeCOV is admitted as a subscription, or answered NO_SPACE_TO_ADD_LIST_ELEMENT. -/
  | subscribeCov (r : BacReq)
  /-- WHO_IS (R246): A BACnet Who-Is is answered with I-Am. -/
  | whoIs (r : BacReq)
  /-- WHO_HAS (R246): A BACnet Who-Has is answered with I-Have. -/
  | whoHas (r : BacReq)
  /-- DEVICE_COMMUNICATION_CONTROL (R246): A BACnet DeviceCommunicationControl request is served. -/
  | deviceCommunicationControl (r : BacReq)
  /-- TIME_SYNCHRONIZATION (R246): A received BACnet TimeSynchronization has no effect. -/
  | timeSynchronization (r : BacReq)
  /-- CAN_CYCLE_START (R274): At each cycle start a SCHEDULED channel sends the reference message, and pending entry descriptors take effect on row 0. -/
  | canCycleStart (c : Fin 8)
  /-- TX_COPY (R283): 20 µs before a transmit window, mapped values are copied into the entry's buffer. -/
  | txCopy (c : Fin 8) (e : Fin 256)
  /-- CAN_FRAME_RECEIVE (R263): A valid received frame is stored in the matching buffer, or counted as unmatched. -/
  | canFrameReceive (c : Fin 8) (f : CanFrame)
  /-- CAN_WINDOW_END (R284): A receive window ending without a valid frame is a failed occurrence; three in a row set FAILED and FAULT. -/
  | canWindowEnd (c : Fin 8) (e : Fin 256)
  /-- CAN_TRANSMIT_END (R269): A transmission completes, ends in error or collides, and TXB_STATUS is updated. -/
  | canTransmitEnd (c : Fin 8) (r : CanTxEnd)
  /-- CAN_BUS_OFF (R262): Bus-off makes the channel's account unhealthy and starts recovery when CAN_BUSOFF_AUTO allows it. -/
  | canBusOff (c : Fin 8)
  /-- CAN_BUS_ON (R262): Recovery ends after 128 idle sequences and the channel transmits again. -/
  | canBusOn (c : Fin 8) (idles : Nat)
  /-- CAN_BUSOFF_REQ (R262): A write of 1 starts bus-off recovery. -/
  | canBusoffReq (ses : Fin 64) (req : BitVec 32) (c : Fin 8) (v : Byte)
  /-- TXB_REQUEST (R268): TXB_CTRL written with 1 requests transmission of an event buffer. -/
  | txbRequest (ses : Fin 64) (req : BitVec 32) (c : Fin 8) (t : Fin 64)
  /-- TXB_CANCEL (R270): TXB_CTRL written with 2 cancels an event buffer before it wins arbitration, or returns TOO_LATE. -/
  | txbCancel (ses : Fin 64) (req : BitVec 32) (c : Fin 8) (t : Fin 64) (ph : TxPhase)
  /-- RXB_ACK (R266): Writing the UPDATES value clears NEW and OVERRUN if it still matches, otherwise returns BUSY. -/
  | rxbAck (ses : Fin 64) (req : BitVec 32) (c : Fin 8) (b : Fin 256) (v : Byte)
  /-- ENT_DESC (R277): A schedule entry write is admitted and takes effect at the next cycle whose row is 0. -/
  | entDesc (ses : Fin 64) (req : BitVec 32) (c : Fin 8) (e : Fin 256) (d : List Byte)
  /-- ENT_ACK (R286): A write of 1 clears CONFLICT on the entry. -/
  | entAck (ses : Fin 64) (req : BitVec 32) (c : Fin 8) (e : Fin 256) (v : Byte)
  /-- CAN_MODE (R259): A write selects the channel mode, taking effect at once or at the next cycle start for SCHEDULED. -/
  | canMode (ses : Fin 64) (req : BitVec 32) (c : Fin 8) (v : Byte)
  /-- CAN_DETECT_DWELL (R291): CAN_DETECT_DWELL without a valid frame moves detection to the next candidate. -/
  | canDetectDwell (c : Fin 8)
  /-- ENCODER_EDGE (R302): An accepted quadrature change updates ENC_RAW, the edge history and SPEED, or counts an illegal or fast change. -/
  | encoderEdge (n : Fin 12) (ab : BitVec 2) (now : Nat)
  /-- ENC_LINE_FAULT (R305): A differential input inside ±200 mV for over 1 µs on A or B sets LINE_FAULT; on Z it is recorded only. -/
  | encLineFault (n : Fin 12) (line : EncLine) (forNs : Nat)
  /-- ZERO_TIMEOUT (R312): No accepted edge for ZERO_TIMEOUT sets SPEED to 0, clears MOVING and discards the edge set. -/
  | zeroTimeout (n : Fin 12) (now : Nat)
  /-- INDEX_EDGE (R309): A rising edge of ENC_Z latches Z_POS and increments Z_COUNT. -/
  | indexEdge (n : Fin 12)
  /-- SSI_FRAME_START (R313): At each SSI_PERIOD instant the active module clocks an SSI frame. -/
  | ssiFrameStart (n : Fin 12)
  /-- SSI_FRAME_END (R319): A complete absolute reading is checked and sets ABS_POS, referencing or SLIP, or is discarded. -/
  | ssiFrameEnd (n : Fin 12) (r : SsiReading)
  /-- SLIP_FAULT (R321): |SLIP| above SLIP_LIMIT for SLIP_TIME sets SLIP_FAULT and is recorded. -/
  | slipFault (n : Fin 12) (forMs : Nat)
  /-- PROBE_EDGE (R323): A probe input edge latches PROBE_POS and PROBE_TIME and is matched to a landing for correction or learning. -/
  | probeEdge (n : Fin 12) (input : Fin 4) (rising : Bool) (now : Nat)
  /-- POS_ACK (R306): A write of 1 clears the fault bits whose condition is absent. -/
  | posAck (ses : Fin 64) (req : BitVec 32) (n : Fin 12) (v : Byte)
  /-- REF_LANDING (R320): A write of a landing references ENC_POS to its LAND_PROBE_UP when the car is still in the door zone. -/
  | refLanding (ses : Fin 64) (req : BitVec 32) (n : Fin 12) (v : Byte)
  /-- LEARN_UP (R327): LEARN written with 1 starts an upward learning run. -/
  | learnUp (ses : Fin 64) (req : BitVec 32) (n : Fin 12)
  /-- LEARN_DOWN (R327): LEARN written with 2 starts a downward learning run. -/
  | learnDown (ses : Fin 64) (req : BitVec 32) (n : Fin 12)
  /-- LEARN_STOP (R327): LEARN written with 0 ends a learning run, keeping the entries stored. -/
  | learnStop (ses : Fin 64) (req : BitVec 32) (n : Fin 12)
  /-- CMP_ARM (R329): CMP_ARM written with 1 checks and arms a compare, firing at once or waiting if the car is already past. -/
  | cmpArm (ses : Fin 64) (req : BitVec 32) (n : Fin 12) (k : Fin 8)
  /-- CMP_DISARM (R330): CMP_ARM written with 0 disarms a compare, leaving FIRED as it stands. -/
  | cmpDisarm (ses : Fin 64) (req : BitVec 32) (n : Fin 12) (k : Fin 8)
  /-- CMP_REARM (R329): A write to CMP_POS or CMP_MODE of an armed compare re-arms it with the new values. -/
  | cmpRearm (ses : Fin 64) (req : BitVec 32) (n : Fin 12) (k : Fin 8) (mode : Bool) (v : BitVec 32)
  /-- UPLINK_FRAME (R346): A received uplink frame is checked and delivers currents, door counter, stage slots and status to the channel. -/
  | uplinkFrame (k : Fin 24) (line : BitVec 64) (offBits : Int)
  /-- UPLINK_GAP (R369): An uplink gap of more than 50 ms takes the door to HANDSHAKE. -/
  | uplinkGap (k : Fin 24) (forUs : Nat)
  /-- DL_HANDSHAKE_STEP (R352): A door link handshake step runs when its time or condition is reached, ending with TRAINED and MODE OFF. -/
  | dlHandshakeStep (k : Fin 24) (ev : HsEvent)
  /-- DL_HANDSHAKE_RETRY (R353): After a failed handshake the handshake restarts from step 1 every 1 s. -/
  | dlHandshakeRetry (k : Fin 24)
  /-- DL_RETRAIN (R374): A write of 1 restarts the handshake when the door is LOCKED or in FAULT. -/
  | dlRetrain (ses : Fin 64) (req : BitVec 32) (k : Fin 24) (v : Byte)
  /-- DOOR_ENABLE (R364): A write of true is an admission request computing DL_OVS_MA; a write of false disables the channel when allowed. -/
  | doorEnable (ses : Fin 64) (req : BitVec 32) (k : Fin 24) (v : Byte)
  /-- DL_LT_REQ_OWN (R372): DL_LT_REQ written with 1 starts a line test of the module's own port. -/
  | dlLtReqOwn (ses : Fin 64) (req : BitVec 32) (k : Fin 24)
  /-- DL_LT_REQ_TWIN (R372): DL_LT_REQ written with 2 starts a line test of the twin's port. -/
  | dlLtReqTwin (ses : Fin 64) (req : BitVec 32) (k : Fin 24)
  /-- DL_LINETEST_END (R373): After 5,000 loopback frames the result is stored in DL_LT_RESULT and recorded. -/
  | dlLinetestEnd (k : Fin 24) (r : LineTest)
  /-- DL_ACK (R374): A write of 1 clears the door fault bits whose cause is absent. -/
  | dlAck (ses : Fin 64) (req : BitVec 32) (k : Fin 24) (v : Byte)
  /-- LOCK_CONFIRMED (R371): LOCK_CH closed within DOOR_CLOSED_WIN is the close commit point: the door becomes LOCKED and switches go off. -/
  | lockConfirmed (k : Fin 24)
  /-- DOOR_REOPEN_REQUEST (R371): A reopen request before the lock commit point reopens the door; after it, it returns TOO_LATE. -/
  | doorReopenRequest (k : Fin 24) (src : ReopenSrc)
  /-- DL_VBUS_HIGH (R363): DL_VBUS_MV above 1.1 × DOOR_VBUS_MV for 10 ms sets VBUS_HIGH and is recorded. -/
  | dlVbusHigh (k : Fin 24) (forMs : Nat)
  /-- LOOP_CLOSE (R391): LOOP_CMD 1 closes an OPEN, enabled loop with valid feedback at its next tick. -/
  | loopClose (ses : Fin 64) (req : BitVec 32) (cls : LoopClass) (j : Fin 65536)
  /-- LOOP_OPEN (R391): LOOP_CMD 2 opens a CLOSED loop, copying its applied output into MANUAL. -/
  | loopOpen (ses : Fin 64) (req : BitVec 32) (cls : LoopClass) (j : Fin 65536)
  /-- LOOP_CLEAR_TRIP (R391): LOOP_CMD 3 returns a TRIPPED loop to OPEN with MANUAL unchanged. -/
  | loopClearTrip (ses : Fin 64) (req : BitVec 32) (cls : LoopClass) (j : Fin 65536)
  /-- LOOP_ENABLE (R393): A write enables a loop under the slot account, or disables it, frees its slot and relinquishes its target. -/
  | loopEnable (ses : Fin 64) (req : BitVec 32) (cls : LoopClass) (j : Fin 65536) (v : Byte)
  /-- LOOP_FLAGS (R383): Writing 1 to a sticky flag bit clears it. -/
  | loopFlags (ses : Fin 64) (req : BitVec 32) (cls : LoopClass) (j : Fin 65536) (v : Byte)
  /-- GRP_MEMBERS (R395): A write defines or removes a competition group while every member is OPEN. -/
  | grpMembers (ses : Fin 64) (req : BitVec 32) (g : Fin 16384) (members : List Byte)
  /-- CAR_CMD_OUT_OF_SERVICE (R418): CAR_CMD written 0 takes the car OUT_OF_SERVICE at its next rest with doors locked. -/
  | carCmdOutOfService (ses : Fin 64) (req : BitVec 32) (n : Fin 12)
  /-- CAR_CMD_PARK (R418): CAR_CMD written 1 parks the car, returning it from OUT_OF_SERVICE under R446. -/
  | carCmdPark (ses : Fin 64) (req : BitVec 32) (n : Fin 12)
  /-- CAR_CMD_SERVE (R418): CAR_CMD written 2 brings the car into service, to IDLE while ACTIVE. -/
  | carCmdServe (ses : Fin 64) (req : BitVec 32) (n : Fin 12)
  /-- CAR_FAULT_ACK (R430): A write of 1 clears every car fault bit whose cause is absent. -/
  | carFaultAck (ses : Fin 64) (req : BitVec 32) (n : Fin 12) (v : Byte)
  /-- CALL_POINT_CHANGE (R432): A call point going true registers the call, lights its lamp and places or assigns it in a stop queue. -/
  | callPointChange (p : Fin 262144) (v : Bool)
  /-- DESTINATION_CALL (R436): A terminal call record is assigned to the lowest-cost car and answered with an assignment record within 10 ms. -/
  | destinationCall (g : Fin 4) (rec : BitVec 64) (chan : Nat)
  /-- CAR_OPEN_REQUEST (R421): A door open request or new call for the present landing cancels a start before its commit point, or returns TOO_LATE. -/
  | carOpenRequest (n : Fin 12)
  /-- CAR_PROFILE (R427): Every 2 ms the jerk-limited speed profile is computed and the drive command is sent. -/
  | carProfile (n : Fin 12)
  /-- CAR_START_TIMEOUT (R429): STARTING lasting longer than CAR_START_TIME sets fault START. -/
  | carStartTimeout (n : Fin 12)
  /-- CAR_DWELL_EXPIRY (R418): CAR_DWELL after the doors reach OPEN sends the close command. -/
  | carDwellExpiry (n : Fin 12)
  /-- CAR_NUDGE_EXPIRY (R418): Doors held open for CAR_NUDGE_TIME are nudged closed. -/
  | carNudgeExpiry (n : Fin 12)
  /-- RELEVEL_TRIGGER (R418): ENC_POS outside CAR_RELEVEL_WIN for 100 ms with doors open starts relevelling. -/
  | relevelTrigger (n : Fin 12) (forMs : Nat)
  /-- REF_TRIP_TIMEOUT (R429): A reference trip exceeding CAR_REF_TIME sets fault REFERENCE. -/
  | refTripTimeout (n : Fin 12)
  /-- CAR_RETURN_STEP (R447): After start-up, the next car returns once the previous one is parked, idle, failed or 30 s in. -/
  | carReturnStep
  /-- EP_START_CHECK (R444): At each phase change and at least every 100 ms, waiting starts are admitted in evacuation order under the generator budget. -/
  | epStartCheck
  /-- EP_RETURN (R448): EP_ACTIVE false for EP_RETURN_TIME returns emergency power cars to IDLE one at a time. -/
  | epReturn
  /-- ENERGY_SAMPLE (R487): Each corrected 8 kHz sample adds its energies to the shadow registers and pulse residues. -/
  | energySample (c : Fin 64) (x : SampleSrc)
  /-- PULSE_EMIT (R491): PO_LATENCY after the residue crossing, a field-channel pulse output rises for PO_WIDTH. -/
  | pulseEmit (x : Fin 20)
  /-- PULSE_EMIT_FP (R494): PO_LATENCY after the crossing sample, an FP output rises with a width set by the predicted period. -/
  | pulseEmitFp (x : Fin 20)
  /-- PULSE_WIDTH_END (R492): The pulse ends; an owed pulse is released once PO_WIDTH has passed since the falling edge. -/
  | pulseWidthEnd (x : Fin 20)
  /-- METER_WINDOW_END (R461): At each 200 ms window end the window quantities are published and the next window's corrections and configuration take effect. -/
  | meterWindowEnd (w : WindowIn)
  /-- BSG_CHECK (R456): Every 10 ms each bitstream clock is measured, and an absent or off clock sets SENSOR_FAULT on its group. -/
  | bsgCheck (k : Fin 4) (milliHz : Nat) (absent : Bool) (stuck : Bool)
  /-- ISLAND_CHECK (R472): At island power-up each ADC is checked on the internal reference, and failing channel ADCs are replaced by the shadow. -/
  | islandCheck (i : Fin 4) (r : List AdcCheck)
  /-- MI_CAL_REQ (R474): A calibration request is queued in arrival order, or refused with BUSY. -/
  | miCalReq (ses : Fin 64) (req : BitVec 32) (i : Fin 4) (v : Byte)
  /-- MI_CAL_ABORT (R475): An abort removes a queued calibration, stops one before its commit point, or returns TOO_LATE or NO_OBJECT. -/
  | miCalAbort (ses : Fin 64) (req : BitVec 32) (i : Fin 4) (v : Byte)
  /-- CAL_STEP (R473): A calibration step runs at its window boundary, ending at the commit point with the new calibration or a held shadow. -/
  | calStep (i : Fin 4) (m : CalMeas)
  /-- ROTATION_CHECK (R477): With the shadow free, a channel is compared with the shadow for one window, and a disagreement queues a calibration. -/
  | rotationCheck (i : Fin 4) (k : Fin 12) (dg : Int) (dp : Int)
  /-- CAL_INTERVAL (R478): MET_CAL_INTERVAL queues a calibration of each configured channel. -/
  | calInterval (i : Fin 4)
  /-- CH_REG_CLEAR (R489): A write of 1 in SERVICE clears the channel's registers and pulse residues at the next sample. -/
  | chRegClear (ses : Fin 64) (req : BitVec 32) (c : Fin 64) (v : Byte)
  /-- PULSE_CONFIG (R490): A write of PO_SRC or PO_CONST resets residue and PO_OWED at the next sample and is recorded. -/
  | pulseConfig (ses : Fin 64) (req : BitVec 32) (x : Fin 20) (const : Bool) (v : BitVec 64)
  /-- PERIODIC_SAVE (R499): At each whole second the shadow is snapshotted and written to the next slot set. -/
  | periodicSave (bad : List SaveWord)
  /-- SAVE_LATE (R499): A periodic save not CLOSED within 100 ms is recorded. -/
  | saveLate (us : Nat)
  /-- INTERVAL_CLOSE (R495): At each INT_LEN boundary an interval record is closed for each selected channel. -/
  | intervalClose
  /-- INT_LEN (R495): A write closes the open interval at once with SHORT set and applies the new length. -/
  | intLen (ses : Fin 64) (req : BitVec 32) (v : Byte)
  /-- ENERGY_ACK (R503): A write of 1 clears ENERGY_RESTORE and the register flags. -/
  | energyAck (ses : Fin 64) (req : BitVec 32) (v : Byte)
  /-- CM_RESET (R511): A write of 1 resets a car's energy model and clears CM_VALID. -/
  | cmReset (ses : Fin 64) (req : BitVec 32) (n : Fin 12) (v : Byte)
  /-- HEARTBEAT_RECEIVE (R518): The SLA checks a received heartbeat and takes its LOW_SPEED, WIN_REQ and RST_REQ bits. -/
  | heartbeatReceive (hb : BitVec 96)
  /-- HB_LOST (R518): 2 ms without a valid heartbeat opens every L switch and is recorded. -/
  | hbLost
  /-- SIN_CHANGE (R522): A stable change of a car's safety input is evaluated by the S-pair and the SLA against the safety functions. -/
  | sinChange (n : Fin 12) (input : Nat) (level : Bool)
  /-- SF_RESET (R524): A write of 1 clears lockouts whose condition is absent and requests the SLA's reset. -/
  | sfReset (ses : Fin 64) (req : BitVec 32) (n : Fin 12) (v : Byte)
  /-- WINDOW_MAX (R527): A door-bypass window open for WIN_MAX_MS is closed. -/
  | windowMax (n : Fin 12)
  /-- SLA_CRC_CHECK (R521): Every 10 ms the SLA recomputes the CRC of its loaded block, and a mismatch is an SLA fault. -/
  | slaCrcCheck (crc : BitVec 32)
  /-- SLA_FAULT (R549): An SLA fault releases the hold at once, opens every L switch 250 µs later and stays safe until a COLD reset. -/
  | slaFault (cause : Byte)
  /-- DST_SEND (R533): Each PERIOD the active module sends each send telegram on both carriers. -/
  | dstSend (t : Fin 64)
  /-- DST_COPY (R534): A received telegram copy is validated and accepted, compared, or discarded. -/
  | dstCopy (t : Fin 64) (carrier : Fin 2) (b : List Byte)
  /-- DST_COPY_WAIT (R535): 5 ms without the second copy accepts the telegram on one copy and counts the missing carrier. -/
  | dstCopyWait (t : Fin 64)
  /-- DST_SINGLE (R535): A carrier that has missed every copy for 1 s sets SINGLE, is recorded and degrades health. -/
  | dstSingle (t : Fin 64) (carrier : Fin 2)
  /-- DST_TIMEOUT (R536): 20 ms with no valid copy trips SF4 on CARS and is recorded. -/
  | dstTimeout (t : Fin 64)
  /-- SAFETY_PW (R540): A write within a safety session changes the password at once and logs KIND 3. -/
  | safetyPw (ses : Fin 64) (req : BitVec 32) (pw : List Byte) (salt : BitVec 128)
  /-- SAFETY_PARAM_WRITE (R541): A write to an RWS parameter within a safety session is range-checked and held pending, logging KIND 0. -/
  | safetyParamWrite (ses : Fin 64) (req : BitVec 32) (oid : BitVec 32) (val : List Byte)
  /-- SAFETY_COMMIT (R542): SAFETY_COMMIT written with 1 in SERVICE builds, checks and loads a new SLA block and switches to it. -/
  | safetyCommit (ses : Fin 64) (req : BitVec 32)
  /-- SAFETY_DISCARD (R542): SAFETY_COMMIT written with 2 discards the pending changes. -/
  | safetyDiscard (ses : Fin 64) (req : BitVec 32)
  /-- CFG_ACTIVATE (R543): A write of 1 activates the verified configuration set through the commit sequence and empties the journal. -/
  | cfgActivate (ses : Fin 64) (req : BitVec 32) (v : Byte)
  /-- SWITCH_TEST (R545): Once per second each safety switch is pulsed alone and checked from the read-back. -/
  | switchTest (n : Fin 12) (sw : Nat) (ok : Bool)
  /-- INPUT_DISAGREE (R545): An S-pair and SLA input difference lasting 100 ms is recorded. -/
  | inputDisagree (n : Fin 12) (input : Nat) (forMs : Nat)
  /-- SAFETY_TEST_REQ_TWIN (R546): SAFETY_TEST_REQ written with 1 runs a full self-test on the healthy twin. -/
  | safetyTestReqTwin (ses : Fin 64) (req : BitVec 32)
  /-- SAFETY_TEST_REQ_SELF (R546): SAFETY_TEST_REQ written with 2 runs a full self-test in SERVICE, or queues it on an ACTIVE module. -/
  | safetyTestReqSelf (ses : Fin 64) (req : BitVec 32)
  /-- SAFETY_TEST_PERIODIC (R547): A STANDBY module runs the full self-test every SAFETY_TEST_INTERVAL hours. -/
  | safetyTestPeriodic
  /-- SAFETY_TEST_DONE (R546): A full self-test ends within 2 s and its result is reported. -/
  | safetyTestDone (pass : Bool)
  /-- FG_SAMPLE_TICK (R599): At each FG_SAMPLE instant the group's inputs are sampled and filtered, and FIO_IN changes after FIO_FILTER agreeing samples. -/
  | fgSampleTick (g : Fin 8) (levels : BitVec 8)
  /-- FIO_OUT (R605): A host or launch write of FIO_OUT reaches the switch within 2 µs, refused with BUSY if the channel is not host-owned. -/
  | fioOut (ses : Fin 64) (req : BitVec 32) (x : Fin 64) (v : Byte)
  /-- FIO_MODE (R596): A mode write takes effect at the next sample instant, refused with BUSY if the channel is in use. -/
  | fioMode (ses : Fin 64) (req : BitVec 32) (x : Fin 64) (v : Byte)
  /-- FG_ACK (R607): A write of 1 clears FAULT when no cause holds and clears RESTORE_WAIT when the supply is good. -/
  | fgAck (ses : Fin 64) (req : BitVec 32) (g : Fin 8) (v : Byte)
  /-- FIO_SAG (R609): Group supply below 18.0 V for 1 ms switches outputs off and sets SUPPLY_LOW and FAULT. -/
  | fioSag (g : Fin 8) (mv : Nat) (forUs : Nat)
  /-- FIO_SUPPLY_RESTORED (R610): Supply above 19.5 V for 50 ms clears SUPPLY_LOW and restores outputs or waits for acknowledgement. -/
  | fioSupplyRestored (g : Fin 8) (mv : Nat) (forUs : Nat)
  /-- INPUTS_SUSPEND (R611): Supply below 15 V suspends input evaluation and marks the group's inputs invalid. -/
  | inputsSuspend (g : Fin 8) (mv : Nat)
  /-- INPUTS_RESUME (R611): Supply at 15 V or more for 10 ms resumes input evaluation. -/
  | inputsResume (g : Fin 8) (mv : Nat) (forUs : Nat)
  /-- THERMAL_SHUTDOWN (R603): An overheating output switches off by itself and sets the group's fault bit. -/
  | thermalShutdown (x : Fin 64)
  /-- CURRENT_LIMIT (R607): A channel held in current limit for 10 ms sets the group's fault bit. -/
  | currentLimit (x : Fin 64) (forMs : Nat)
  /-- READBACK_DISAGREE (R606): An output whose contact disagrees with its switch for 2 ms sets the group's fault bit. -/
  | readbackDisagree (x : Fin 64) (contact : Bool) (forUs : Nat)
  /-- OUTPUT_COMMIT (R612): Each 1 ms the output image is committed and retriggers the silence watchdog when the gate permits and the image is fresh. -/
  | outputCommit (fresh : Bool)
  /-- FIO_WD_EXPIRED (R613): FIO_WD_TIME without a retrigger takes held channels to FIO_SAFE and is recorded. -/
  | fioWdExpired
  /-- GROUP_POWER_UP (R677): Group logic powering up from L+ starts with SUPPLY_LOW set and follows the sag end rules. -/
  | groupPowerUp (g : Fin 8) (mv : Nat)
  /-- SCRUB_PASS (R623): A scrub pass reads every word of a memory in its period and writes back corrected words. -/
  | scrubPass (mem : Fin 3) (words : List (Nat × BitVec 280)) (forMs : Nat)
  /-- MEM_DSE_CONTAINED (R627): An uncorrectable error outside critical regions is contained per its region, recorded, and clears MEMORY for 1 h. -/
  | memDseContained (region : Byte) (addr : BitVec 32)
  /-- CRIT_PARITY_CHECK (R625): Every 1 ms the S-pair checks the parity of every critical register. -/
  | critParityCheck (bad : Bool)
  /-- FW_LOAD (R634): Image data is written into the non-running bank of the target and FW_STATE becomes loading. -/
  | fwLoad (ses : Fin 64) (req : BitVec 32) (data : List Byte)
  /-- FW_VERIFY (R634): A write of 1 starts verification of the loaded image. -/
  | fwVerify (ses : Fin 64) (req : BitVec 32) (v : Byte)
  /-- FW_VERIFY_END (R634): Within 5 s FW_STATE becomes verified, or refused with FW_REFUSED recorded. -/
  | fwVerifyEnd
  /-- FW_SWITCH (R635): A write of 1 with a verified image writes the boot bank pointer and asserts BANK_SWITCH. -/
  | fwSwitch (ses : Fin 64) (req : BitVec 32) (v : Byte)
  /-- CFG_LOAD (R637): Set data is written into the inactive configuration slot and mirrored. -/
  | cfgLoad (ses : Fin 64) (req : BitVec 32) (data : List Byte)
  /-- CFG_VERIFY (R638): A write of 1 verifies the inactive set, giving verified or refused with CFG_REFUSED recorded. -/
  | cfgVerify (ses : Fin 64) (req : BitVec 32) (v : Byte)
  /-- OPC_CERT (R631): An operational certificate write is checked on the module of its position and accepted or rejected. -/
  | opcCert (ses : Fin 64) (req : BitVec 32) (k : Fin 8) (q : Fin 2) (cert : List Byte)
  /-- OPC_USE (R632): A write selects the certificate for PDP or BACnet/SC for new handshakes, refused with BUSY if the use is taken. -/
  | opcUse (ses : Fin 64) (req : BitVec 32) (k : Fin 8) (q : Fin 2) (v : Byte)
  /-- EVENT_OFFER (R644): A block offers a record, which is merged, accepted with the next sequence number, or dropped. -/
  | eventOffer (code : BitVec 16) (src : BitVec 16) (p0 : BitVec 32) (p1 : BitVec 32) (p2 : BitVec 32)
  /-- RECORD_FLUSH (R645): Within 10 ms of acceptance a pending record is written to its MRAM slot. -/
  | recordFlush
  /-- REC_RECORDS_DROPPED (R645): Once space has been free for 100 ms, the number of dropped records is recorded. -/
  | recRecordsDropped
  /-- WINTER_N_LOW (R650): A qualified low on WINTER_N freezes at once, releases first with cause 9, or is refused, by state. -/
  | winterNLow (forNs : Nat)
  /-- FREEZE_ENTRY (R652): Freeze starts: MODULE_STATE becomes FROZEN, requests are answered FROZEN, records flushed and clocks gated. -/
  | freezeEntry
  /-- WINTER_N_HIGH (R655): WINTER_N high ends a freeze with a WARM reset, or cancels a freeze still waiting for its handover. -/
  | winterNHigh (forNs : Nat)
  /-- TAP_RESET (R656): TRST_N or the TAP reset state resets the readout TAP controller. -/
  | tapReset
  /-- IDCODE (R656): The IDCODE instruction returns the 32-bit identification register. -/
  | idcode
  /-- FRZ_STATUS (R656): The FRZ_STATUS instruction returns the 64-bit freeze status. -/
  | frzStatus
  /-- FRZ_ADDR (R657): FRZ_ADDR written at Update-DR sets the readout address and reads the word there while frozen. -/
  | frzAddr (v : BitVec 64)
  /-- FRZ_DATA (R657): FRZ_DATA returns the readout word with its result and CRC, then advances the address. -/
  | frzData
  /-- BYPASS (R656): BYPASS, or any unlisted code, selects the 1-bit bypass register. -/
  | bypassTap (code : Nat)
  /-- POWER_ON (R114): PD-AON powers up from below 10 V: the POWER_ON source is asserted, REC_NEXT is rebuilt from the head words, the silence watchdog starts expired and an open slot set records AUTUMN_INCOMPLETE. -/
  | powerOn
  /-- PD_AON_OFF (R101): After AUTUMN the bank falls below 10 V and PD-AON stops, ending operating time and the always-on path. -/
  | pdAonOff (mv : Nat)
  /-- RELEASE_RESET_TIMEOUT (R121): An ACTIVE module that released for a reset source asserts the reset 1.2 ms after the release when ACTIVE_IN has not been seen asserted. -/
  | releaseResetTimeout
  /-- PASS_ACK_TIMEOUT (R571): At EQUINOX + 520 µs the new active module may change held outputs for which no PASS_ACK has arrived. -/
  | passAckTimeout
  /-- CONTACTOR_FEEDBACK_TIMEOUT (R522): A KFB input that has not followed its output within KFB_TIME_MS trips SF4, with a lockout if the contactor stays pulled. -/
  | contactorFeedbackTimeout (n : Fin 12) (which : Nat)
  /-- BRAKE_FEEDBACK_TIMEOUT (R522): BRK inputs not applied, or in disagreement, BRK_TIME_MS after their trigger trip SF7 with a lockout. -/
  | brakeFeedbackTimeout (n : Fin 12)
  /-- STOP_CONDITION_ABSENT (R523): Once a stop condition has been absent for 100 ms, the tripping technology closes its switches again. -/
  | stopConditionAbsent (n : Fin 12) (tech : SwTech)
  /-- THERMAL_RESTART (R603): An output in thermal shutdown that has cooled switches on again if its state is still on. -/
  | thermalRestart (x : Fin 64)
  /-- COV_SUBSCRIPTION_RENEWAL (R224): The module renews its BACnet SubscribeCOV on a source device, and sets FAULT when the renewal fails. -/
  | covSubscriptionRenewal (p : Fin 262144) (ok : Bool)
  /-- SINK_WRITE_REFUSED (R224): A device refuses a sink write, which sets FAULT on the point while PV keeps its value. -/
  | sinkWriteRefused (p : Fin 262144)
  /-- SINK_WRITE_TIMEOUT (R224): A sink write not answered within its class bound sets FAULT on the point. -/
  | sinkWriteTimeout (p : Fin 262144)
  /-- SYNC_INTERVAL (R145): As grandmaster, the module sends a two-step Sync and Follow_Up on every enabled port at each Sync interval. -/
  | syncInterval
  /-- ANNOUNCE_INTERVAL (R147): As grandmaster, the module sends Announce every 1 s unless its TIME_STATUS forbids it. -/
  | announceInterval
  /-- DELAY_REQUEST (R146): The follower and passive ports send delay requests (Delay_Req or Pdelay_Req) periodically to measure path delay. -/
  | delayRequest (q : DelayReq)
  /-- GRATUITOUS_ARP (R573): The new active module sends a gratuitous ARP for each pair address at EQUINOX + 1 ms, + 100 ms and + 1 s. -/
  | gratuitousArp (port : Fin 4) (nth : Fin 3)
deriving DecidableEq, Repr

end Sys2Proof
end

