-- ==== Sys2Proof/Decode.lean ====
section
/-! DEFINITION. The command that a word spells by the table's bits. The block is no processor: its commands are frames, events, ticks and
writes from outside, and the table of operations gives none of them bits. -/

namespace Sys2Proof

/-- No row of the table gives bits, so no word spells a command. (DESIGN CHOICE, log entry 14.) -/
def decodeTableWord (_nbits _w : Nat) : Option Instr := none

end Sys2Proof
end

