-- ==== Sys2Proof/Machine/Check.lean ====
section
/-! DEFINITION. Check codes and hashes the manual names: CRC-32 (R643), CRC-32C (R530), CRC-8 and the scrambler (R341),
SHA-256 (R189), and HMAC and PBKDF2 over it (R537). -/

namespace Sys2Proof.Machine

/-- One bit of a reflected CRC of 32 bits. -/
def crc32Bit (poly c : Nat) : Nat := if c % 2 = 1 then (c / 2) ^^^ poly else c / 2

/-- One byte of a reflected CRC of 32 bits. -/
def crc32Byte (poly c : Nat) (b : Byte) : Nat :=
  let x := c ^^^ b.toNat
  crc32Bit poly (crc32Bit poly (crc32Bit poly (crc32Bit poly
    (crc32Bit poly (crc32Bit poly (crc32Bit poly (crc32Bit poly x)))))))

/-- A reflected CRC of 32 bits with start value and final exclusive-or of all ones. -/
def crc32With (poly : Nat) (l : List Byte) : Nat :=
  (l.foldl (crc32Byte poly) 0xFFFFFFFF) ^^^ 0xFFFFFFFF

/-- CRC-32 of IEEE 802.3 (R643). -/
def crc32 (l : List Byte) : Nat := crc32With 0xEDB88320 l

/-- CRC-32C (R530). -/
def crc32c (l : List Byte) : Nat := crc32With 0x82F63B78 l

/-! ### SHA-256 (FIPS 180-4) -/

/-- Addition modulo 2^32. -/
def add32 (a b : Nat) : Nat := (a + b) % 4294967296

/-- Rotation of 32 bits to the right. -/
def rotr32 (x n : Nat) : Nat := (x / 2 ^ n) ||| (x * 2 ^ (32 - n) % 4294967296)

/-- The largest `x` below 2^`k` + `r` of which the power `e` is at most `n`, the bits of `r` above `k` being settled. -/
def rootBits (e n : Nat) : Nat → Nat → Nat
  | 0, r => r
  | k + 1, r => rootBits e n k (if (r + 2 ^ k) ^ e ≤ n then r + 2 ^ k else r)

/-- The first 32 bits of the fraction of the root of degree `e` of a number below 2^9. -/
def rootFraction (e p : Nat) : Nat := rootBits e (p * 2 ^ (32 * e)) 37 0 % 4294967296

/-- A number of at least 2 with no divisor from 2 up to itself. -/
def isPrime (n : Nat) : Bool := decide (2 ≤ n) && (List.range n).all (fun d => decide (d < 2) || n % d != 0)

/-- The first 64 prime numbers. -/
def primes64 : List Nat := (List.range 312).filter isPrime

/-- The round constants of SHA-256: the fractions of the cube roots of the first 64 primes. -/
def sha256K : List Nat := primes64.map (rootFraction 3)

/-- The eight working words of SHA-256. -/
structure ShaState where
  a : Nat
  b : Nat
  c : Nat
  d : Nat
  e : Nat
  f : Nat
  g : Nat
  h : Nat
deriving DecidableEq, Repr

/-- The eight words of a list. -/
def ShaState.ofList (l : List Nat) : ShaState :=
  ⟨l.getD 0 0, l.getD 1 0, l.getD 2 0, l.getD 3 0, l.getD 4 0, l.getD 5 0, l.getD 6 0, l.getD 7 0⟩

/-- The start value of SHA-256: the fractions of the square roots of the first 8 primes. -/
def sha256Init : ShaState := ShaState.ofList ((primes64.take 8).map (rootFraction 2))

/-- One round of SHA-256 with schedule word `w` and constant `k`. -/
def sha256Round (s : ShaState) (w k : Nat) : ShaState :=
  let s1 := rotr32 s.e 6 ^^^ rotr32 s.e 11 ^^^ rotr32 s.e 25
  let ch := (s.e &&& s.f) ^^^ ((4294967295 - s.e) &&& s.g)
  let t1 := add32 (add32 (add32 s.h s1) (add32 ch k)) w
  let s0 := rotr32 s.a 2 ^^^ rotr32 s.a 13 ^^^ rotr32 s.a 22
  let mj := (s.a &&& s.b) ^^^ (s.a &&& s.c) ^^^ (s.b &&& s.c)
  ⟨add32 t1 (add32 s0 mj), s.a, s.b, s.c, add32 s.d t1, s.e, s.f, s.g⟩

/-- The next schedule word from the last sixteen, newest first. -/
def sha256Next (l : List Nat) : Nat :=
  let w15 := l.getD 14 0
  let w2 := l.getD 1 0
  let s0 := rotr32 w15 7 ^^^ rotr32 w15 18 ^^^ (w15 / 8)
  let s1 := rotr32 w2 17 ^^^ rotr32 w2 19 ^^^ (w2 / 1024)
  add32 (add32 (l.getD 15 0) s0) (add32 (l.getD 6 0) s1)

/-- Extends the schedule, newest word first, by `n` words. -/
def sha256Extend : Nat → List Nat → List Nat
  | 0, l => l
  | n + 1, l => sha256Extend n (sha256Next l :: l)

/-- Big-endian 32-bit words of a byte string. -/
def beWords : List Byte → List Nat
  | a :: b :: c :: d :: t => (a.toNat * 16777216 + b.toNat * 65536 + c.toNat * 256 + d.toNat) :: beWords t
  | _ => []

/-- The compression of one block of 16 words. -/
def sha256Block (s : ShaState) (ws : List Nat) : ShaState :=
  let sched := (sha256Extend 48 ws.reverse).reverse
  let r := (sched.zip sha256K).foldl (fun st p => sha256Round st p.1 p.2) s
  ⟨add32 s.a r.a, add32 s.b r.b, add32 s.c r.c, add32 s.d r.d,
   add32 s.e r.e, add32 s.f r.f, add32 s.g r.g, add32 s.h r.h⟩

/-- All blocks in order, `n` of them at most. -/
def sha256Blocks : Nat → ShaState → List Nat → ShaState
  | 0, s, _ => s
  | n + 1, s, ws => if ws = [] then s else sha256Blocks n (sha256Block s (ws.take 16)) (ws.drop 16)

/-- Big-endian bytes of a number, `n` of them. -/
def beBytes (n v : Nat) : List Byte := (leBytes n v).reverse

/-- The SHA-256 hash of a byte string, 32 bytes (R189). -/
def sha256 (m : List Byte) : List Byte :=
  let z := (119 - m.length % 64) % 64
  let p := m ++ [0x80] ++ List.replicate z 0 ++ beBytes 8 (8 * m.length)
  let s := sha256Blocks (p.length / 64) sha256Init (beWords p)
  beBytes 4 s.a ++ beBytes 4 s.b ++ beBytes 4 s.c ++ beBytes 4 s.d
    ++ beBytes 4 s.e ++ beBytes 4 s.f ++ beBytes 4 s.g ++ beBytes 4 s.h

/-- HMAC-SHA-256 (RFC 2104), for keys of at most 64 bytes (R537). -/
def hmacSha256 (key msg : List Byte) : List Byte :=
  let k := key ++ List.replicate (64 - key.length) 0
  sha256 (k.map (· ^^^ 0x5C) ++ sha256 (k.map (· ^^^ 0x36) ++ msg))

/-- Exclusive-or of two byte strings. -/
def xorBytes (a b : List Byte) : List Byte := (a.zip b).map (fun p => p.1 ^^^ p.2)

/-- The later iterations of PBKDF2: last block `u`, running value `t`. -/
def pbkdf2Loop (key : List Byte) : Nat → List Byte → List Byte → List Byte
  | 0, _, t => t
  | n + 1, u, t =>
    let u' := hmacSha256 key u
    pbkdf2Loop key n u' (xorBytes t u')

/-- PBKDF2-HMAC-SHA-256 with an output of one block, 32 bytes (RFC 8018, R537). -/
def pbkdf2 (pw salt : List Byte) (iterations : Nat) : List Byte :=
  let u := hmacSha256 pw (salt ++ [0, 0, 0, 1])
  pbkdf2Loop pw (iterations - 1) u u

/-! ### The code of the memories (R620, R621) -/

/-- Multiplication by x in GF(2^8) with the field polynomial x^8 + x^4 + x^3 + x^2 + 1 (R620). -/
def gfDouble (a : Nat) : Nat := if a < 128 then 2 * a else (2 * a - 256) ^^^ 0x1D

/-- Multiplication in GF(2^8), over the low `n` bits of `b`. -/
def gfMulN : Nat → Nat → Nat → Nat
  | 0, _, _ => 0
  | n + 1, a, b => (if b % 2 = 1 then a else 0) ^^^ gfMulN n (gfDouble a) (b / 2)

/-- Multiplication in GF(2^8). -/
def gfMul (a b : Nat) : Nat := gfMulN 8 a b

/-- α^n, with α 0x02. -/
def gfExp : Nat → Nat
  | 0 => 1
  | n + 1 => gfDouble (gfExp n)

/-- The value of a polynomial at a point, its coefficients from the highest. -/
def gfEval (l : List Nat) (x : Nat) : Nat := l.foldl (fun v c => gfMul v x ^^^ c) 0

/-- The bytes of a number, most significant first. -/
def symbols (n v : Nat) : List Nat := ((leBytes n v).reverse).map (·.toNat)

/-- What a read of a word finds (R621): clean, one stored symbol bad at a power of x, or uncorrectable. -/
inductive CodeResult where
  | clean
  | corrected (pos : Nat)
  | uncorrectable
deriving DecidableEq, Repr

/-- Reading a stored word of `n` data symbols at a word address: four address symbols, the data and the three check symbols, against
the syndromes at α^0, α^1 and α^2 (R620, R621). -/
def readCode (n addr word : Nat) : CodeResult :=
  let l := symbols 4 addr ++ symbols (n + 3) word
  let s0 := gfEval l 1
  let s1 := gfEval l 2
  let s2 := gfEval l 4
  if s0 = 0 ∧ s1 = 0 ∧ s2 = 0 then .clean
  else
    match (List.range (n + 3)).find? (fun p => decide (s0 ≠ 0) && gfMul s0 (gfExp p) == s1 && gfMul s1 (gfExp p) == s2) with
    | some p => .corrected p
    | none => .uncorrectable

end Sys2Proof.Machine
end

