-- ==== Sys2Proof/Config.lean ====
section
/-! DEFINITION. What one unit or one firmware fixes, the primitives outside the model, and the free values: constants without a
body, so that no proof can see what they are. -/

namespace Sys2Proof

/-- The unit is a PX4260-X and not a PX4260-C (R1): fixed at manufacture, per unit. (DESIGN CHOICE, log entry 9.) -/
opaque Config.isX : Bool

/-- ORDER_CODE: 0x01 for PX4260-C, 0x02 for PX4260-X (R1, R2). -/
def Config.orderCode : Nat := if Config.isX then 2 else 1

/-- ID_SERIAL, per unit (R629, R639). (DESIGN CHOICE, log entry 9.) -/
opaque Config.serial : BitVec 64

/-- ID_PUBKEY, per unit (R629, R639). (DESIGN CHOICE, log entry 9.) -/
opaque Config.pubKey : List Byte

/-- ID_CERT, per unit (R629, R639). -/
opaque Config.idCert : List Byte

/-- CH_PROD_START of a channel, per unit (R481). -/
opaque Config.prodStart : Nat → BitVec 16

/-- The MAC address of a NET port, per unit (R144). -/
opaque Config.mac : Nat → BitVec 48

/-- The firmware version this module runs, per firmware image (R557). -/
opaque Config.fwVersion : BitVec 32

/-- TW_MIRROR_VER, per firmware (R592, R593). -/
opaque Config.mirrorVer : BitVec 16

/-- The reset value of SLA_CAR: DZ_OFFSET_MM 50, V_ZONE_MAX 1,150, V_LOW_MAX 630, V_WIN_MAX 800, WIN_MAX_MS 10,000, BRK_TIME_MS 500,
KFB_TIME_MS 200, no flag (R520, R550). -/
def Config.slaCarReset : List Byte :=
  leBytes 16 (50 * 2 ^ 104 + 1150 * 2 ^ 88 + 630 * 2 ^ 72 + 800 * 2 ^ 56 + 10000 * 2 ^ 40 + 500 * 2 ^ 28 + 200 * 2 ^ 16)

/-- The length in bits of the window that a NETp opens for a telegram of so many bytes: R532 charges the window and gives no length.
(DESIGN CHOICE, log entry 152.) -/
opaque Config.dstWindow : Nat → Nat

/-- Ticks of CK-SLA, nominally of 25 ns, that the SLA counts in so many ns: it carries a tolerance of 5 % (R528).
(DESIGN CHOICE, log entry 152.) -/
opaque Config.slaTicks : Nat → Nat

/-- A free value of 64 bits: the `n`-th one the machine draws. Nothing constrains it. (DESIGN CHOICE, log entry 8.) -/
opaque Config.free : Nat → BitVec 64

/-- The outcome of verifying a signature over a message under a public key (ECDSA over the message's hash): a primitive whose
arithmetic the manual leaves to its standard (R634, R637). (DESIGN CHOICE, log entry 10.) -/
opaque Config.verifySig : (key msg sig : List Byte) → Bool

/-- The four firmware verification keys in die ROM (R633). -/
opaque Config.fwKey : Nat → List Byte

/-- The object values that the body of a configuration set carries, as OIDs and bytes; none where its format is bad: the manual gives
no format of the body (R637, R638). (DESIGN CHOICE, log entry 11.) -/
opaque Config.decodeSet : List Byte → Option (List (Nat × List Byte))

/-- Whether a DER certificate chain is one the module accepts as an operational certificate of a key (R631).
(DESIGN CHOICE, log entry 10.) -/
opaque Config.verifyCert : (chain pubKey : List Byte) → Bool

/-- A certificate signing request for a subject, signed by the unit's key (R630). (DESIGN CHOICE, log entry 10.) -/
opaque Config.makeCsr : (subject : List Byte) → List Byte

/-- RS485_MODE of a channel: MS/TP, or else Modbus RTU (R255). The manual names the object without an OID, so no command writes it.
(DESIGN CHOICE, log entry 63.) -/
opaque Config.rsMstp : Nat → Bool

/-- The configured baud rate of an RS-485 channel (R229, R252). (DESIGN CHOICE, log entry 63.) -/
opaque Config.rsBaud : Nat → Fin 5

/-- The number of masters configured on an MS/TP segment, and Max_Info_Frames of the channel (R247). (DESIGN CHOICE, log entry 63.) -/
opaque Config.mstpMasters : Nat → Nat
opaque Config.mstpFrames : Nat → Nat

/-- BACNET_IP_WRITE, BACNET_DEV_BASE and BACNET_VNET, which R249 and R250 name without an OID. -/
opaque Config.bacIpWrite : Bool
opaque Config.bacDevBase : Nat
opaque Config.bacVnet : Nat

/-- The FIR decimator of the metering engine: its length, and its coefficients in 2^-16; the manual gives its passband, its stop band and an equal
group delay, and no coefficient (R454). (DESIGN CHOICE, log entry 148.) -/
opaque Config.firTaps : Nat
opaque Config.firTap : Nat → Int

/-- The coefficient, in 2^-32, of the first-order high-pass with its corner at 0.5 Hz (R454). (DESIGN CHOICE, log entry 148.) -/
opaque Config.highPass : Int

/-- The coil integrator in 2^-32: the leak that puts its corner at 0.3 Hz, and the gain that makes it 1 at a nominal frequency; and, for a tracked
frequency in mHz, the gain (FIX32) and the phase that remove the leak's error there (R459). (DESIGN CHOICE, log entry 148.) -/
opaque Config.coilLeak : Int
opaque Config.coilGain : Nat → Int
opaque Config.leakFix : Nat → Int × Int

/-- The 24-bit code at the clip level of a sensor: 1 a current transformer, 2 a coil, 4 a voltage channel (R457). (DESIGN CHOICE, log entry 148.) -/
opaque Config.clipCode : Nat → Nat

/-- The latest samples, newest first, advanced by a phase (FIX32 mrad) at a frequency in mHz: a fractional shift whose interpolation the manual does
not give (R464). (DESIGN CHOICE, log entry 148.) -/
opaque Config.shift : Nat → Int → List Int → Int

/-- The latest samples of a bitstream channel placed onto the module's own sampling instants, a delay in ns removed (R456).
(DESIGN CHOICE, log entry 148.) -/
opaque Config.resample : Nat → List Int → Int

/-- Cosine and sine, in 2^-30, of the phase `k` samples of 8 kHz back at a frequency in mHz (R461). (DESIGN CHOICE, log entry 148.) -/
opaque Config.unitPhasor : Nat → Nat → Int × Int

/-- The sums of a window with cosine and sine at the h-th harmonic of the tracked frequency in mHz, the window resampled to a whole number of
cycles (R461). (DESIGN CHOICE, log entry 148.) -/
opaque Config.harmonic : Nat → Nat → List Int → Int × Int

/-- SHA-384 of a byte string (R637): a primitive whose arithmetic the manual leaves to its standard. -/
opaque Config.sha384 : List Byte → List Byte

end Sys2Proof
end

