-- ==== Sys2Proof/Machine/Table.lean ====
section
/-! DEFINITION. Sparse tables by number, in one canonical form: keys strictly rising. The registers of the dictionary and the
per-unit state of the machine are held in them. -/

namespace Sys2Proof.Machine

/-- A sparse table: number and content pairs, numbers strictly rising (see `Tbl.wf`). -/
abbrev Tbl (α : Type) := List (Nat × α)

/-- The canonical form of a table: numbers strictly rising. -/
def Tbl.wf {α : Type} (t : Tbl α) : Prop := t.Pairwise (fun a b => a.1 < b.1)

/-- What a table lists under a number. -/
def Tbl.find {α : Type} : Tbl α → Nat → Option α
  | [], _ => none
  | (k, a) :: t, n => if k = n then some a else Tbl.find t n

/-- The table with `a` listed under `n`. -/
def Tbl.ins {α : Type} : Tbl α → Nat → α → Tbl α
  | [], n, a => [(n, a)]
  | (k, b) :: t, n, a =>
    if k = n then (n, a) :: t else if n < k then (n, a) :: (k, b) :: t else (k, b) :: Tbl.ins t n a

/-- The table with nothing listed under `n`. -/
def Tbl.del {α : Type} (t : Tbl α) (n : Nat) : Tbl α := t.filter (fun e => e.1 != n)

/-- What a table holds under a number, `d` where it lists nothing. -/
def Tbl.get {α : Type} (d : α) (t : Tbl α) (n : Nat) : α := (t.find n).getD d

/-- The table holding `a` under `n`, where an unlisted number reads `d`: an entry equal to `d` is not listed. -/
def Tbl.put {α : Type} [DecidableEq α] (d : α) (t : Tbl α) (n : Nat) (a : α) : Tbl α :=
  if a = d then t.del n else t.ins n a

/-- The table without the entries whose number `p` picks out. -/
def Tbl.without {α : Type} (t : Tbl α) (p : Nat → Bool) : Tbl α := t.filter (fun e => !p e.1)

end Sys2Proof.Machine
end

