-- ==== Sys2Proof/Machine/State.lean ====
section
/-! DEFINITION. The state of the module as plain data: every register of the object dictionary, the state behind them that the
manual names without an object, the commands that wait, and what the last command sent out. -/

namespace Sys2Proof.Machine

/-- Why a command would stop the machine. -/
inductive Fault where
  /-- Raised by no meaning: every command of the table answers a next state, since a command that the module refuses, or that its
  present condition ignores, still leaves a state (safe). -/
  | none
deriving DecidableEq, Repr

/-- Why the model would refuse a command. -/
inductive Refusal where
  /-- Raised by an arm of `exec` whose command has no meaning yet (safe). -/
  | notModelled (mnemonic : String)
deriving DecidableEq, Repr

/-- The module states (R4). -/
inductive Mode where
  | boot | service | standby | active | frozen
deriving DecidableEq, Repr

/-- MODULE_STATE's code of a module state (R2). -/
def Mode.code : Mode → Nat
  | .boot => 0
  | .service => 1
  | .standby => 2
  | .active => 3
  | .frozen => 4

/-! ### Recorder and freeze (chapter 19) -/

/-- One record of the ring, as accepted (R641), with where it lies. -/
structure Rec where
  /-- Sequence number (R642). -/
  seq : Nat
  /-- CODE (R641). -/
  code : Nat
  /-- SOURCE (R641). -/
  src : Nat
  /-- OPTIME at acceptance (R641). -/
  optime : Nat
  /-- POWER_CYCLES at acceptance (R641). -/
  cycles : Nat
  p0 : Nat
  p1 : Nat
  p2 : Nat
  /-- REPEAT (R644). -/
  repeats : Nat := 0
  /-- Accepted on the always-on path (R642). -/
  always : Bool := false
  /-- Still in the pending area, SRAM region 0x0A (R645). -/
  waiting : Bool := true
  /-- REPEAT of the MRAM copy (R644). -/
  mramRepeats : Nat := 0
  /-- Model instant of the last MRAM write of the copy (R644). -/
  mramAt : Nat := 0
  /-- Its word in MRAM is uncorrectable (R648). -/
  bad : Bool := false
deriving DecidableEq, Repr

/-- The recorder's own state (R642 to R648). -/
structure Recorder where
  /-- REC_NEXT, in PD-AON (R646). -/
  next : Nat := 0
  /-- The records of the ring, newest first (R642, R643). -/
  ring : List Rec := []
  /-- The eight head words in MRAM; the empty mark is all ones (R646). -/
  heads : List Nat := List.replicate 8 0xFFFFFFFFFFFFFFFF
  /-- Which head word is written next, in rotation (R646). -/
  headAt : Nat := 0
  /-- Records dropped since the last REC_RECORDS_DROPPED record (R645). -/
  droppedRun : Nat := 0
  /-- REC_NEXT at the first drop of the run (R645). -/
  firstDrop : Nat := 0
  /-- Model instant since which the pending area has had space (R645). -/
  freeSince : Nat := 0
  /-- Model instant of the last TIME_MARK (R647). -/
  lastMark : Nat := 0
deriving DecidableEq, Repr

/-- The freeze controller and the readout port (R650 to R658). -/
structure Freeze where
  /-- MODULE_STATE before freeze (FRZ_STATUS PRIOR_STATE). -/
  prior : Nat := 0
  /-- OPTIME40 at t_f (FRZ_STATUS OPTIME). -/
  optime : Nat := 0
  /-- FRZ_READOUT_ENABLE at t_f (FRZ_STATUS READOUT_ENABLED). -/
  readout : Bool := false
  /-- LPDDR5 in self-refresh (FRZ_STATUS SELF_REFRESH). -/
  selfRefresh : Bool := false
  /-- Step 4 of Freeze entry complete (FRZ_STATUS CLOCKS_STOPPED). -/
  clocksStopped : Bool := false
  /-- A freeze has been requested and waits for its handover, or for start-up to complete (R650). -/
  waiting : Bool := false
  /-- WINTER_N is low (R73). -/
  low : Bool := false
  /-- A request was refused: WINTER_N is ignored until high for 1 ms (R650). -/
  ignored : Bool := false
  /-- Model instant of t_f, for FREEZE_RELEASED. -/
  since : Nat := 0
  /-- Words read through the port, for FREEZE_RELEASED. -/
  wordsRead : Nat := 0
  /-- FREEZE_RELEASED is due as the first record after START_COMPLETE (R655): ms frozen, words read. -/
  releasedDue : Option (Nat × Nat) := none
  /-- The instruction register of the TAP (R656). -/
  ir : Nat := 0x01
  /-- FRZ_ADDR: SPACE and ADDR (R656). -/
  addr : BitVec 64 := 0
  /-- The readout word read at the last Update-DR (R657). -/
  word : BitVec 384 := 0
deriving DecidableEq, Repr

/-! ### Power, clocks and reset (chapters 03 and 04) -/

/-- One supply feed (R95). -/
structure Feed where
  /-- Counts as present (Feed valid). -/
  valid : Bool := false
  /-- Disconnected by its ideal-diode controller after over-voltage. -/
  disconnected : Bool := false
deriving DecidableEq, Repr

/-- Where AUTUMN stands (R101). -/
inductive Autumn where
  | none | running | done
deriving DecidableEq, Repr

/-- Power and clock state behind the objects of R108. (DESIGN CHOICE, log entry 5.) -/
structure Power where
  feedA : Feed := {}
  feedB : Feed := {}
  autumn : Autumn := .none
  /-- Model instant of the supply fail, t0 of the table AUTUMN sequence. -/
  autumnAt : Nat := 0
  /-- A slot set that AUTUMN left open: slot set, MRAM words written; recorded when PD-AON powers up (R102). -/
  openSet : Option (Nat × Nat) := none
  /-- The holdup charger draws (R97). -/
  charging : Bool := false
  /-- A reset of reach COLD or the return of supply has started SPRING; its t0 (R105). -/
  springT0 : Nat := 0
  /-- SPRING or the start-up after a reset runs. -/
  springOn : Bool := false
  /-- Sub-step within SPRING step 6, 13 or 14: groups, islands or channels already switched (R105). -/
  springSub : Nat := 0
  /-- The CE domain was already on and the step is skipped, and so on: domains the reach kept, as PD_STATE bits (R112). -/
  kept : BitVec 16 := 0
  /-- Application cores running and not asleep, bit c (R81). -/
  awake : BitVec 16 := 0
  /-- Application cores in service, awake or asleep (R81, R106). -/
  inService : BitVec 16 := 0
  /-- Model instant at which each core last had work (R81). -/
  coreWork : Tbl Nat := []
  /-- Core groups 1 to 3 held back for heat, bit g (R106). -/
  heldGroups : BitVec 4 := 0
  /-- Model instant of the last retry of held-back groups (R106). -/
  retryAt : Nat := 0
  /-- LPDDR5, a sub-unit of PD-MEM, is on (R78). -/
  lpddr : Bool := false
  /-- Position units on, bit n (R78). -/
  puOn : BitVec 12 := 0
  /-- CK-AON is taken from the AON burst oscillator (R88). -/
  aonFallback : Bool := true
  /-- BANK_NOT_READY of R107 has been recorded and start-up continues. -/
  bankGiveUp : Bool := false
  /-- THERMAL_FAULT of R111 has been recorded while the die stays at or above the limit. -/
  hot : Bool := false
  /-- Measured module consumption, mW (R20). -/
  consMw : Nat := 0
  /-- The TCXO runs (R86, R90). -/
  tcxo : Bool := true
  /-- Model instant at which PD-SLA was last switched off by a COLD reset (R112). -/
  slaOffAt : Option Nat := none
  /-- Model instant of the last island or door channel that SPRING switched on (R105). -/
  subAt : Nat := 0
  /-- Channels whose sample in progress at the supply fail has been added (R101). -/
  sampled : BitVec 64 := 0
deriving DecidableEq, Repr

/-- The condition of RESET_N (R123). -/
inductive ResetN where
  | high | low | stuck
deriving DecidableEq, Repr

/-- The reset controller (R114 to R119, R131). -/
structure ResetCtl where
  /-- Sources asserted now, by cause bit (R114). -/
  asserted : BitVec 32 := 1
  /-- Model instant at which each asserted source was asserted, by cause bit (R114). -/
  atNs : Tbl Nat := []
  /-- Causes seen since the last completed start-up (R119). -/
  seen : BitVec 32 := 0
  /-- Widest reach seen since the last completed start-up: 1 COLD, 2 WARM, 3 CORE, 0 none (R117). -/
  reach : Nat := 0
  /-- A module-level reset is held (R114). -/
  inReset : Bool := true
  /-- Sources that wait for ACTIVE_IN or for 1.2 ms after the release (R121): cause bits, instant of the release. -/
  pendingRel : Option (List Nat × Nat) := none
  /-- Start-up has completed: START_COMPLETE is recorded (R118). -/
  complete : Bool := false
  /-- Model instant of the release of the reset, t0 of Start-up after COLD (R134). -/
  t0 : Nat := 0
  resetN : ResetN := .high
  /-- The strap measurement failed and is repeated every 1 s (R132). -/
  strapFault : Bool := false
  /-- Model instant of the last strap measurement (R132). -/
  strapAt : Nat := 0
  /-- Both boot banks failed their check (R134). -/
  bootFail : Bool := false
  /-- Software block resets asserted for each block: model instant (R127). -/
  blockAt : Tbl Nat := []
  /-- DIE_TEMP has been below 100 °C since this model instant, while THERMAL is asserted (R114). -/
  coolSince : Option Nat := none
  /-- LPDDR5, kept by a CORE reset, waits for its full scrub pass before use (R112). -/
  scrubDue : Bool := false
deriving DecidableEq, Repr

/-! ### Time base and launches (chapter 05) -/

/-- The time base and its PTP instance (R141 to R157). -/
structure TimeBase where
  /-- TIME64 with a 32-bit binary fraction, modulo 2^96 (R141). -/
  now : BitVec 96 := 0
  /-- Rate correction r per CK-NET cycle, in 2^-32 ns, within ±100 ppm (R141). -/
  rate : Int := 0
  /-- TIME_STATUS: 0 UNSET to 5 TWIN (R148). -/
  status : Nat := 0
  /-- A TIME_FAULT that no step or reset has cleared (R150). -/
  fault : Bool := false
  /-- Consecutive Sync messages within 1 µs (R148). -/
  good : Nat := 0
  /-- TIME64 of the start of the present holdover (R153, R156). -/
  holdoverAt : Nat := 0
  /-- A grandmaster is selected (R149). -/
  gm : Bool := false
  /-- The module acts as grandmaster (R145, R152). -/
  master : Bool := false
  /-- TIME64 of the grandmaster at the last Announce, and the model instant it was taken (R150, R151). -/
  gmTime : Nat := 0
  gmAt : Nat := 0
  /-- The follower port, 0 or 1 (R145). -/
  follower : Nat := 0
  /-- Best Announce seen on each port: port, rank, clockIdentity (R149). -/
  ranks : Tbl (List Nat) := []
  /-- Model instants, counted from 1, of the last valid Sync and the last Announce on each port (R146, R148). -/
  heard : Tbl Nat := []
  annHeard : Tbl Nat := []
  /-- Time of the twin as its last TIME frame gave it, and the model instant it was taken (R155). -/
  twinTime : Nat := 0
  twinAt : Nat := 0
  /-- Offset last measured on each port, ns (R146). -/
  portOffset : Tbl (Option Int) := []
  /-- PTP sequenceId of Sync, Announce and delay requests sent (R167). -/
  seqSync : BitVec 16 := 0
  seqAnn : BitVec 16 := 0
  seqDelay : BitVec 16 := 0
  /-- Standby: PTP offset beyond 1 µs of the twin-disciplined base (R157). -/
  ptpDiffers : Bool := false
  /-- Model instants of the last Sync and the last Announce sent (R143). -/
  syncAt : Nat := 0
  annAt : Nat := 0
  /-- Model instant of the last write of LAST_KNOWN_TIME (R210). -/
  knownAt : Nat := 0
  /-- SYNC status of the releasing module, as the last batch applied gave it (R156): status, master, holdover start. -/
  twinStatus : Nat := 0
  twinMaster : Bool := false
  twinHoldover : Nat := 0
  /-- OPTIME40, operating time (R168). -/
  op : BitVec 40 := 0
  /-- Operating time below one count, in 1/1024 ns (R168). -/
  opFrac : Nat := 0
  /-- OPTIME40 has wrapped and its SOLSTICE record is due (R168). -/
  wrapped : Bool := false
deriving DecidableEq, Repr

/-- Where a launch stands (R162, R163). -/
inductive LaunchState where
  | waiting | committed | emitted | cancelled | refused
deriving DecidableEq, Repr

/-- One launch of the queue, or one held tag (R159, R162). -/
structure Launch where
  /-- Partition of the session that submitted it. -/
  part : Nat
  tag : Nat
  /-- LAUNCH_TIME, TIME64. -/
  time : Nat
  /-- TARGET. -/
  target : Nat
  prio : Nat
  /-- VALUE, LENGTH bytes. -/
  value : List Byte
  /-- Place in the order of acceptance (R165). -/
  order : Nat
  state : LaunchState := .waiting
  /-- Class of its emission, 0 A to 3 D: that of the point it targets (R161). -/
  cls : Nat := 3
  /-- Accounts charged in its emission slot beside the launch account: account and load (R161). -/
  charges : List (Nat × Nat) := []
deriving DecidableEq, Repr

/-! ### Dictionary and host access (chapter 06) -/

/-- One write of one object, as a request names it (R195, R198). -/
structure WEntry where
  oid : Nat
  prio : Nat := 0
  relinq : Bool := false
  dflt : Bool := false
  data : List Byte := []
  /-- Where an event buffer's frame stands when a cancel of it is accepted, as the row gives it (R270). -/
  ph : Option TxPhase := none
  /-- The random salt of a new password, as the row gives it (R537). -/
  salt : Option (BitVec 128) := none
deriving DecidableEq, Repr

/-- By which route a write enters (R674). -/
inductive Route where
  | pdp | sdo | bacnet
  /-- A part of a request that is answered elsewhere, and a write applied from the mirror. -/
  | silent
deriving DecidableEq, Repr

/-- A request placed in the order of R181 that waits for its commit point (R674). -/
structure PendReq where
  /-- Place in the order of R181. -/
  pos : Nat
  route : Route
  /-- Session slot (PDP). -/
  ses : Nat
  req : BitVec 32
  /-- OP of the PDP request, for its response. -/
  op : Nat
  fpr : BitVec 256
  /-- Single writes, in entry order. -/
  entries : List WEntry
  /-- Session partition rights under which it was accepted. -/
  part : Nat
  /-- Generation of the batch that carries it, `none` while that batch is open. -/
  gen : Option Nat := none
  /-- Payload of its response. -/
  payload : List Byte := []
deriving DecidableEq, Repr

/-- One entry of a SUBSCRIBE request (R239). -/
structure SubEntry where
  point : Nat
  sub : Nat
  cls : Nat
  minInt : Nat
  inc : Nat
  life : Nat
deriving DecidableEq, Repr

/-- What a PDP request asks, by its operation (R198). -/
inductive PdpReq where
  | openSes (part : Nat)
  | closeSes
  | ping
  | read (oid : Nat)
  | write (e : WEntry)
  | readMany (oids : List Nat)
  | writeMany (l : List WEntry)
  | abort (req : BitVec 32)
  | query (req : BitVec 32)
  | subscribe (l : List SubEntry)
  | unsubscribe (l : List Nat)
  | safetyOpen (pw : List Byte) (salt : BitVec 128)
  | safetyClose
  /-- An operation code that no operation has (R196). -/
  | unknown
deriving DecidableEq, Repr

/-- A request that waits behind an earlier write of its session (R182). -/
structure LaterReq where
  ses : Nat
  req : BitVec 32
  op : Nat
  what : PdpReq
deriving DecidableEq, Repr

/-- An ABORT whose Withdraw item waits for its confirmation (R674). -/
structure PendAbort where
  ses : Nat
  req : BitVec 32
  fpr : BitVec 256
  /-- REQ_ID of the removed write. -/
  victim : BitVec 32
  gen : Option Nat := none
deriving DecidableEq, Repr

/-- One host session or TLS connection (R191 to R194, R210). -/
structure Session where
  /-- SESS_STATE: 0 free, 1 TLS up, 2 open, 3 open with safety session. -/
  state : Nat := 0
  /-- SESS_PARTITION. -/
  part : Nat := 0
  /-- SESS_PORT. -/
  port : Nat := 0
  /-- SESS_FPR. -/
  fpr : BitVec 256 := 0
  /-- SESS_OPENED, TIME64. -/
  opened : Nat := 0
  /-- The host map entry its certificate matched (R189); none for a claim session. -/
  entry : Option Nat := none
  /-- The trust anchor and subject common name of its certificate (R189). -/
  anchor : Option Nat := none
  cn : List Byte := []
  /-- A commissioning claim session (R190). -/
  claim : Bool := false
  /-- A further connection admitted while a claim session is open, whose OPEN is refused (R190). -/
  refuseOpen : Bool := false
  /-- The module's certificate of its handshake, which the session keeps (R187, R632). -/
  cert : List Byte := []
  /-- On a pair address (R573). -/
  pairAddr : Bool := true
  /-- Model instant of its last frame (R193). -/
  lastFrame : Nat := 0
  /-- REC_SEL, INT_SEL and LOG_SEL, kept per session (R648, R497, R544). -/
  recSel : Nat := 0
  intSel : Nat := 0
  logSel : Nat := 0
deriving DecidableEq, Repr

/-- A committed write kept for QUERY (R204). -/
structure Committed where
  fpr : BitVec 256
  req : BitVec 32
  status : Nat
  /-- Model instant at which it was recorded. -/
  atNs : Nat
deriving DecidableEq, Repr

/-- Host access state behind the objects of R210. -/
structure Access where
  /-- Sessions by slot, 0 to 63; connections beyond, whose OPEN finds no slot, above (R191). -/
  sessions : Tbl Session := []
  /-- Next place in the order of R181. -/
  pos : Nat := 0
  /-- Writes that wait for their commit point, oldest first (R674). -/
  waits : List PendReq := []
  /-- Aborts that wait for the confirmation of their Withdraw item (R674). -/
  aborts : List PendAbort := []
  /-- Requests held at step 1 of a planned handover, oldest first (R575). -/
  held : List PendReq := []
  /-- The change journal, oldest first (R178). -/
  journal : List WEntry := []
  /-- Committed writes for QUERY, newest first (R204). -/
  committed : List Committed := []
  /-- The kept-values area in MRAM: live values by OID (R177). -/
  live : Tbl Int := []
  /-- Model instant of the last write of each to it (R177). -/
  liveAt : Tbl Nat := []
  /-- SDO_WINDOW (R207). -/
  sdoWindow : Nat := 0
  /-- LOOP_CMD writes past their commit point, which wait for the loop's next tick (R391). -/
  slow : List PendReq := []
  /-- Frames of a session that wait behind an earlier write of it (R182, R674), oldest first. -/
  later : List LaterReq := []
deriving DecidableEq, Repr

/-! ### Points, ledger and subscriptions (chapter 07) -/

/-- What the ledger accepted (R26): who the item belongs to. -/
inductive ItemKind where
  | pointSource (p : Nat) | pointSink (p : Nat) | subscription (h : Nat) | session (s : Nat) | launch (part tag : Nat)
  | loop (c j : Nat) | canEntry (c e : Nat) | test (t : Nat) | batches | telegram (t : Nat)
deriving DecidableEq, Repr

/-- One accepted item of the ledger (R26, R228). -/
structure Item where
  /-- Number, in order of acceptance. -/
  id : Nat
  kind : ItemKind
  /-- Class 0 A to 3 D. -/
  cls : Nat
  /-- Accounts and the load on each. -/
  charges : List (Nat × Nat)
  /-- Emission wait and frame time of R231, µs. -/
  waitUs : Nat := 0
  /-- Charges and wait on the other of its two paths: on ALT_PORT, or once moved on PORT (R234). -/
  altCharges : List (Nat × Nat) := []
  altWaitUs : Nat := 0
  /-- PORT and ALT_PORT of its binding, 0xFF for none (R221). -/
  port : Nat := 0xFF
  alt : Nat := 0xFF
  /-- Carried on ALT_PORT (R234). -/
  moved : Bool := false
  degraded : Bool := false
deriving DecidableEq, Repr

/-- One subscription (R239 to R243, R251). -/
structure Sub where
  handle : Nat
  part : Nat
  fpr : BitVec 256
  point : Nat
  /-- 0x00 PV or 0x05 STATUS. -/
  sub : Nat
  cls : Nat
  /-- MIN_INTERVAL, ms. -/
  minInt : Nat
  /-- COV_INCREMENT, REAL32 pattern. -/
  inc : Nat
  /-- LIFETIME, s; 0 lasts until the session closes. -/
  life : Nat
  /-- Model instant of acceptance. -/
  atNs : Nat
  /-- The session that holds it; none while it waits for a take-over (R243). -/
  ses : Option Nat
  /-- Model instant at which its session closed (R243). -/
  closedAt : Nat := 0
  /-- Port of its session. -/
  port : Nat := 0
  /-- Last notified value and STATUS. -/
  lastVal : Int := 0
  lastStatus : Nat := 0
  /-- Model instant of the last notification. -/
  lastSent : Nat := 0
  /-- The RESYNC notification is due (R241). -/
  resync : Bool := true
  /-- A change waits to be notified, and how many changes were merged (R240). -/
  changes : Nat := 0
  /-- A BACnet COV subscription (R251). -/
  bacnet : Bool := false
  /-- The subscriber process and the network address of a BACnet subscriber (R251). -/
  process : Nat := 0
  peer : List Byte := []
deriving DecidableEq, Repr

/-- What the point service holds of a point beside its objects (R223, R224). -/
structure PtAux where
  /-- Model instant of the last valid source delivery. -/
  srcAt : Nat := 0
  /-- Model instant of the last poll sent. -/
  pollAt : Nat := 0
  /-- A poll awaits its response. -/
  polling : Bool := false
  srcFault : Bool := false
  sinkFault : Bool := false
  /-- Model instant of the last sink write. -/
  sinkAt : Nat := 0
  /-- PV has changed since the last sink write (R223). -/
  sinkDue : Bool := false
  /-- A sink write awaits its answer, since the model instant. -/
  sinkWait : Option Nat := none
  /-- A host delivered value that came while OUT_OF_SERVICE: the source is read but not applied (R219). -/
  srcLast : Int := 0
  /-- The stored value failed its code check (INVALID, R216). -/
  invalid : Bool := false
  /-- Slots changed and not yet in the point store, bit n - 1; bit 16 the relinquish default (R220). -/
  dirty : Nat := 0
  /-- The point store's copy: mask, slots 1 to 16, relinquish default (R220). -/
  storeMask : Nat := 0
  storeSlots : Tbl Int := []
  storeDflt : Int := 0
  /-- TIME64 of the last change of STATUS (R240). -/
  statusAt : Nat := 0
  /-- Model instant of the last delivery that was applied (R223). -/
  delAt : Option Nat := none
deriving DecidableEq, Repr

/-- Point service state beside the point objects. (DESIGN CHOICE, log entry 5.) -/
structure Points where
  /-- Points with ENABLE true (R212). -/
  enabled : Nat := 0
  /-- Per point. -/
  aux : Tbl PtAux := []
  /-- Ledger items, earliest accepted first (R26). -/
  items : List Item := []
  nextItem : Nat := 0
  /-- Health of each account, by account number (R233). -/
  healthy : Tbl Bool := []
  subs : List Sub := []
  nextHandle : Nat := 1
  /-- BACNET_DEV_BASE, BACNET_VNET, BACNET_IP_WRITE, BACNET_IP_PORT: named by R246, R249 and R250 without an OID, so no command
  writes them. -/
  bacDevBase : Nat := Config.bacDevBase
  bacVnet : Nat := Config.bacVnet
  bacIpWrite : Bool := Config.bacIpWrite
  bacIpPort : Nat := 47808
  /-- RS485_MODE of each channel, true MS/TP (R255), and the place of its configured baud in the list of its mode (R229, R246, R252), where
  they differ from `Config`'s: named without an OID. -/
  rsMstp : Tbl Bool := []
  rsBaud : Tbl (Fin 5) := []
  /-- DeviceCommunicationControl: communication disabled, initiation disabled (R246). -/
  dccDisabled : Bool := false
  dccNoInit : Bool := false
  /-- Model instant at which that ends; 0 for no end (R246). -/
  dccUntil : Nat := 0
  /-- The Modbus TCP connections held: port and IPv4 address, the latest used first (R252). -/
  modbusTcp : List (Nat × Nat) := []
deriving DecidableEq, Repr

/-! ### Twin (chapter 16) -/

/-- What the module knows of its twin's frames, and its own hand-over machinery (chapter 16). -/
structure Twin where
  /-- ACTIVE_OUT is asserted by the hold (R554). -/
  activeOut : Bool := false
  /-- Model instant of the last refresh (R554). -/
  refreshAt : Nat := 0
  /-- ACTIVE_IN at the contact (R553). -/
  activeIn : Bool := false
  /-- An interlock loop fault holds: 2 open, 3 short, 4 out of range; 0 none (R71). -/
  ilkFault : Nat := 0
  /-- While a loop fault holds: the gate was shut by ACTIVE_IN when it began (R71). -/
  ilkShut : Bool := false
  /-- Model instant since which ACTIVE_IN has been asserted (R570). -/
  inSince : Nat := 0
  /-- A guard runs since this model instant (R563). -/
  guard : Option Nat := none
  /-- The module has been a healthy standby in its own reckoning throughout the guard (R563). -/
  guardHealthy : Bool := true
  /-- Waiting under R38. -/
  waiting : Bool := false
  /-- Position B watches ACTIVE_IN since this model instant (R135). -/
  watch : Option Nat := none
  /-- Released: cause and model instant of the release (R561). -/
  released : Option (Nat × Nat) := none
  /-- The module released and took STANDBY with summary FAILED (R562). -/
  failed : Bool := false
  /-- Output levels that the latches hold, as the pass map (R569). -/
  heldLevels : BitVec 128 := 0
  /-- Level each output is driven to, as the pass map (R567). -/
  driven : BitVec 128 := 0
  /-- After EQUINOX: outputs driven and not yet free to change (R571). -/
  frozenOut : BitVec 128 := 0
  /-- Outputs matched so far, and checked so far (R567). -/
  matched : BitVec 128 := 0
  checked : BitVec 128 := 0
  /-- Read-back windows that have ended, by kind: field, safety, FP, PT. -/
  windows : BitVec 4 := 0
  /-- Model instant of EQUINOX, while a takeover runs (R565). -/
  equinoxAt : Option Nat := none
  /-- Model instant of the last EQUINOX of this module (R573). -/
  tookAt : Option Nat := none
  /-- Model instant at which the start-up decision asserted ACTIVE_OUT (R135). -/
  assertedAt : Option Nat := none
  /-- PASS has been sent for this takeover (R565). -/
  passSent : Bool := false
  /-- The takeover was abandoned by ABORT_ACK: this module checks its own outputs (R576). -/
  reverting : Bool := false
  /-- RELEASE's cause and TIME64 of detection, as received (R561). -/
  relCause : Nat := 0
  relTime : Nat := 0
  /-- Twin's lanes, last HEALTH frame and its model instant (R557). -/
  healthAt : Nat := 0
  /-- Any HEALTH frame has been received. -/
  seen : Bool := false
  twinPosition : Nat := 0
  twinSerial : Nat := 0
  /-- PAIR_MISMATCH, POSITION_CLASH and PAIR_VERSION hold (R133, R592). -/
  pairMismatch : Bool := false
  clash : Bool := false
  versionBad : Bool := false
  /-- The batch that is open, newest item first (R580). -/
  openBatch : List BatchItem := []
  /-- Generation of the last batch closed (R580). -/
  gen : Nat := 0
  /-- The last 256 batches, newest first (R583). -/
  kept : List (Nat × List BatchItem) := []
  /-- Model instant of the last CONFIRM received (R560). -/
  confirmAt : Nat := 0
  /-- The standby has confirmed a batch within 2 ms (R560, R583). -/
  inStep : Bool := false
  /-- Standby: writes staged, with their generation (R674). -/
  staged : List (Nat × BatchItem) := []
  /-- Standby: generation of the last batch applied. -/
  applied : Nat := 0
  /-- Standby: the next batch starts the order, after a handover took this module to STANDBY (R562, R591). -/
  joining : Bool := false
  /-- Standby: region and offset of the pieces of state received, one copy of each lane's (R577, R589). -/
  pieces : List (Nat × Nat) := []
  /-- Standby: batches held but not applied yet (R583, R588). -/
  stored : List (Nat × List BatchItem) := []
  /-- Standby: model instant since which a batch has been lacking (R583). -/
  lacking : Option Nat := none
  /-- MIRROR, FULL_STATE and NOT_DIVERGED of the health check bits (R558). -/
  mirror : Bool := false
  fullState : Bool := false
  notDiverged : Bool := true
  /-- The standby's own configuration and journal equal the active's (R558 CONFIG). -/
  configEq : Bool := true
  /-- OUTPUT_TEST and SELF_TEST bits (R558). -/
  outputTest : Bool := true
  selfTest : Bool := true
  /-- Model instant of the last contained double-symbol error (MEMORY bit, R627). -/
  dseAt : Option Nat := none
  /-- Model instant of the last INPUT_DISAGREE (INPUTS bit). -/
  disagreeAt : Option Nat := none
  /-- S-pair lockstep check passes (SAFETY bit). -/
  lockstep : Bool := true
  /-- Consecutive ticks on which an item of the digest differed: item kind, item, count (R584). -/
  diffs : List (Nat × Nat × Nat) := []
  /-- A divergence diagnosis runs: item kind, item, generation (R585). -/
  diag : Option (Nat × Nat × Nat) := none
  /-- Model instant at which the diagnosis began. -/
  diagAt : Nat := 0
  /-- Own and twin's result: fail, failed check (R585). -/
  diagOwn : Option (Bool × Nat) := none
  diagTwin : Option (Bool × Nat) := none
  /-- Resynchronisation: cause, generation g0, model instant of RESYNC_REQ, phase 1 time (R588). -/
  resyncCause : Nat := 0
  g0 : Nat := 0
  resyncAt : Nat := 0
  phase1Ms : Nat := 0
  /-- Streamed state received, in order (R589). -/
  streamed : List BatchItem := []
  /-- Planned handover in progress: step 1 holding since, FINAL generation, requester (R575). -/
  plan : Option (Nat × Nat) := none
  planReq : Option PendReq := none
  /-- An ABORT_HO was sent: session and REQ_ID of the ABORT (R576). -/
  abortHo : Option (Nat × BitVec 32) := none
  /-- Model instant of the last pulse test of each output, by pass map bit (R586). -/
  pulseAt : Tbl Nat := []
  lastPulse : Nat := 0
  /-- Outputs whose last pulse test failed, as the pass map (R587). -/
  pulseBad : BitVec 128 := 0
  /-- Gratuitous ARPs sent, bit 3 p + nth (R573). -/
  arpSent : BitVec 12 := 0
deriving DecidableEq, Repr

/-! ### Field inputs and outputs (chapter 17) -/

/-- The field I/O controller, the group logic, the latches and the silence watchdog (chapter 17). -/
structure FieldIo where
  /-- Channel mode in effect since the last sample instant, by channel (R596). -/
  mode : Tbl Nat := []
  /-- Agreeing samples of each channel that differ from FIO_IN, by channel (R599). -/
  run : Tbl Nat := []
  /-- Samples taken since the filter started afresh, by channel, up to 16 (R599, R611). -/
  since : Tbl Nat := []
  /-- Channels in thermal shutdown (R603). -/
  thermal : BitVec 64 := 0
  /-- Channels held in current limit for 10 ms (R607). -/
  limit : BitVec 64 := 0
  /-- Channels whose contact disagrees with their switch (R606). -/
  disagree : BitVec 64 := 0
  /-- Model instant of the last change of FIO_OUT, by channel (R606). -/
  changedAt : Tbl Nat := []
  /-- The committed output image (R612). -/
  image : BitVec 64 := 0
  /-- Model instant of the last retrigger of the silence watchdog (R613). -/
  wdAt : Nat := 0
  /-- Model instant of the expiry (R614). -/
  expiredAt : Nat := 0
  /-- Channels that took their safe state at the expiry, and the level each then has (R613). -/
  safeHeld : BitVec 64 := 0
  safeLevel : BitVec 64 := 0
deriving DecidableEq, Repr

/-! ### Memory integrity, identity, firmware (chapter 18) -/

/-- What FW_LOAD and FW_VERIFY have made of one target's bank (R634, R639). -/
structure FwLoad where
  /-- The bytes written by FW_LOAD. -/
  image : Tbl Byte := []
  /-- Model instant at which the verification began. -/
  verifyAt : Option Nat := none
  /-- FW_STATE of the target. -/
  state : Nat := 0
deriving DecidableEq, Repr

/-- Firmware banks, configuration slots, memory error history and certificates (chapter 18). -/
structure MemId where
  /-- Both firmware banks carry a valid signature, bit b for bank b (R558, R636). -/
  bankOk : BitVec 2 := 3
  /-- The boot bank pointer in MRAM (R635). -/
  bootBank : Nat := 0
  /-- Image data written by FW_LOAD, by byte offset; an unlisted byte is 0 (R634). -/
  image : Tbl Byte := []
  /-- The headers of the images in the boot banks, as verified (R633, R636). -/
  bankHdr : Tbl (List Byte) := []
  /-- Firmware keys revoked in the one-time fuses (R636). -/
  revoked : BitVec 4 := 0
  /-- The bytes of the inactive configuration slot written by CFG_LOAD, and of the active slot (R637). -/
  slot : Tbl Byte := []
  active : Tbl Byte := []
  /-- Uncorrectable bytes of the inactive slot, and whether the active slot holds one (R619, R638). -/
  slotBad : List Nat := []
  activeBad : Bool := false
  /-- The journal entry at which start-up stops applying the journal (R619). -/
  journalBad : Option Nat := none
  /-- Interval records, by SEQ, and kept values, by OID, that read INTEGRITY (R619). -/
  badInts : List Nat := []
  badObjs : List Nat := []
  /-- Model instant at which the verification of FW_VERIFY began (R634). -/
  verifyAt : Option Nat := none
  /-- The image, its verification and FW_STATE are those of the twin, not of this module (R634). -/
  forTwin : Bool := false
  /-- Those of the other target (R634, R639). -/
  other : FwLoad := {}
  /-- Points whose record is being rebuilt, with the model instant of the error, and that of the last reload of the car and door tables (R619). -/
  rebuild : List (Nat × Nat) := []
  tablesAt : Option Nat := none
  /-- Corrections of each word in the last 24 h: memory, word address, model instants (R624). -/
  corrected : List (Nat × Nat × List Nat) := []
deriving DecidableEq, Repr

/-! ### Safety (chapter 15) -/

/-- The S-pair's and the SLA's own state for one car (chapter 15). -/
structure CarSafe where
  /-- SIN levels of the car as the two technologies read them, by input number. -/
  sin : BitVec 16 := 0
  /-- SIN levels as the SLA last took them. -/
  sla : BitVec 16 := 0
  /-- S switches commanded closed: bit 0 A, bit 1 B (R515). -/
  sSw : BitVec 2 := 0
  /-- L switches closed: bit 0 A, bit 1 B (R515). -/
  lSw : BitVec 2 := 0
  /-- Functions tripping now by the S-pair, and by the SLA, bit f - 1 (R551). -/
  tripS : BitVec 7 := 0
  tripL : BitVec 7 := 0
  /-- Lockouts by the S-pair, and by the SLA, bit f - 1 (R523). -/
  lockS : BitVec 7 := 0
  lockL : BitVec 7 := 0
  /-- The SLA's door-bypass window is open, since the model instant (R527). -/
  window : Option Nat := none
  /-- The window has been open for WIN_MAX_MS, and its conditions have held since then (R527). -/
  winSpent : Bool := false
  /-- WIN_REQ, LOW_SPEED and RST_REQ as the last valid heartbeat gave them (R518). -/
  winReq : Bool := false
  lowSpeed : Bool := false
  rstReq : Bool := false
  /-- The zone-entry speed of the present stay, mm/s, and the model instants of the last rising edges of DZ_A and DZ_B (R522, R528). -/
  zoneSpeed : Nat := 0
  dzA : Nat := 0
  dzB : Nat := 0
  /-- Model instant since which the trip conditions have been absent, S-pair and SLA (R523). -/
  clearS : Nat := 0
  clearL : Nat := 0
  /-- Model instant of the last change of each output, for KFB_TIME_MS (R522). -/
  outAt : Nat := 0
  /-- Model instants that start BRK_TIME_MS: the last change of BRK_1 or BRK_2, of KFB_A or KFB_B, and the last report of BRAKE_OPEN (R522). -/
  brakeAt : Nat := 0
  kfbAt : Nat := 0
  liftAt : Nat := 0
  /-- The last test of the switch failed: bit 0 S_A, 1 S_B, 2 L_A, 3 L_B (R545). -/
  stuck : BitVec 4 := 0
  /-- Model instant, counted from 1, of the last SF_RESET; RST_REQ is sent for 100 ms from it (R524). -/
  rstAt : Nat := 0
  /-- The reading of ABS_POS from which SF3 measures its rate: model instant and counts (R522). -/
  absRef : Option (Nat × Int) := none
  /-- Force of each side's door has been 150 N or more since the model instant (R522). -/
  force0 : Option Nat := none
  force1 : Option Nat := none
deriving DecidableEq, Repr

/-- One DST telegram's receiver and sender (chapter 15). -/
structure Dst where
  /-- Copies that wait for their companions, oldest first: carrier, model instant, bytes (R535). -/
  wait : List (Nat × Nat × List Byte) := []
  /-- The remote chain is open (R535). -/
  chain : Bool := false
  /-- Model instant of the last valid copy of each carrier (R535). -/
  at0 : Nat := 0
  at1 : Nat := 0
  /-- Any telegram has been accepted. -/
  any : Bool := false
  /-- Model instant of the last telegram sent (R533). -/
  sentAt : Option Nat := none
  /-- How often each carrier has been missing (R535). -/
  miss0 : Nat := 0
  miss1 : Nat := 0
deriving DecidableEq, Repr

/-- One entry of the safety change log (R544). -/
structure LogEntry where
  seq : Nat
  bytes : List Byte
deriving DecidableEq, Repr

/-- Safety state beyond the objects of R550 (chapter 15). -/
structure Safety where
  cars : Tbl CarSafe := []
  dst : Tbl Dst := []
  /-- The parameter block the SLA has loaded (R520). -/
  block : List Byte := []
  /-- Model instant and counter of the last valid heartbeat (R518). -/
  hbAt : Nat := 0
  hbCount : Option Nat := none
  /-- The heartbeat is lost: every L switch is open (R518). -/
  hbLost : Bool := true
  /-- Counter of the last heartbeat sent (R518). -/
  hbSent : Nat := 0
  /-- Stored password: salt and PBKDF2 hash; none while none is set (R537). -/
  pw : Option (BitVec 128 × List Byte) := none
  /-- Wrong passwords per fingerprint: model instants, newest first (R539). -/
  wrong : List (BitVec 256 × List Nat) := []
  /-- Model instant at which a lock-out of a fingerprint began (R539). -/
  locked : List (BitVec 256 × Nat) := []
  /-- The safety session: PDP session slot, and model instant of its last safety operation (R194, R540). -/
  session : Option (Nat × Nat) := none
  /-- Pending RWS changes: OID and value bytes, oldest first (R541). -/
  pend : List (Nat × List Byte) := []
  /-- The change log, newest first (R544). -/
  log : List LogEntry := []
  /-- Model instant at which a full self-test started (R546). -/
  testAt : Option Nat := none
  /-- Model instant of the last periodic self-test (R547). -/
  periodAt : Nat := 0
  /-- GENERATION of the block committed last, in MRAM (R520, R542). -/
  gen : Nat := 0
  /-- Model instant of an SLA fault: the L switches open 250 µs later (R549). -/
  faultAt : Option Nat := none
deriving DecidableEq, Repr

/-! ### CAN channels (chapter 08) -/

/-- One CAN channel beyond its objects (chapter 08). -/
structure CanCh where
  /-- The mode in effect (R259). -/
  mode : Nat := 0
  /-- Bus-off (R262). -/
  busOff : Bool := false
  /-- Recovery has started (R262). -/
  recovering : Bool := false
  /-- Model instants of the bus-offs of the last 60 s, newest first (R262). -/
  offs : List Nat := []
  /-- After bus-off in SCHEDULED mode, transmission waits for the next cycle start (R262). -/
  waitCycle : Bool := false
  /-- Descriptors in effect, by entry (R277). -/
  desc : Tbl Nat := []
  /-- Entries whose written descriptor waits for row 0 (R277). -/
  pendDesc : List Nat := []
  /-- Consecutive failed occurrences, by entry (R284). -/
  run : Tbl Nat := []
  /-- Entries whose occurrence in the present window has a valid frame (R284). -/
  seen : List Nat := []
  /-- The normal frame of an SRDO entry, received and waiting for its complement: entry, row, data (R298). -/
  srdo : List (Nat × Nat × List Byte) := []
  /-- Event buffers whose cancel came too late (R270). -/
  tooLate : BitVec 64 := 0
  /-- Time of each event buffer's request, TIME64, for the order at the start of a frame (R268). -/
  reqAt : Tbl Nat := []
  /-- The last collision: identifier word and cycle number (R285). -/
  coll : Option (Nat × Nat) := none
  /-- Detection: present candidate, consecutive valid frames, a frame with BRS among them, model instant of the last valid frame or
  change of candidate (R291, R292). -/
  cand : Nat := 0
  good : Nat := 0
  brs : Bool := false
  dwellAt : Nat := 0
  /-- CiA 301 SYNC counter of the ROLE 3 entry (R275). -/
  sync : Nat := 0
  /-- Error-passive has been recorded and holds (R300). -/
  passive : Bool := false
  /-- Frames received in transmit windows of the active module in this tick, for the output comparison: entry, data (R290). -/
  heard : List (Nat × List Byte) := []
deriving DecidableEq, Repr


/-! ### Position units (chapter 09) -/

/-- One position unit beyond its objects (chapter 09). -/
structure PosUnit where
  /-- Decoder state (A, B), A in bit 1, and the state before the last accepted edge (R302). -/
  st : BitVec 2 := 0
  prevSt : BitVec 2 := 0
  /-- The lines A and B as last sampled, A in bit 1 (R333). -/
  raw : BitVec 2 := 0
  /-- Time of the last accepted edge on the unit's clock, ns (R302). -/
  tLast : Nat := 0
  /-- A change waits for MIN_EDGE (R302). -/
  pending : Bool := false
  lastStep : Int := 0
  /-- The edge history: time and ENC_RAW, newest first, 256 edges deep (R302). -/
  hist : List (Nat × Int) := []
  /-- Times of the accepted edges since the last reversal or pause, newest first, 65 deep (R310, R312). -/
  set : List Nat := []
  /-- Model instant of the last accepted edge, and Δt and N of its SPEED (R310, R311). -/
  edgeAt : Nat := 0
  spanNs : Nat := 0
  spanN : Nat := 0
  /-- Model instants of illegal samples and of rejected changes, newest first (R304). -/
  quads : List Nat := []
  fasts : List Nat := []
  /-- A line fault on A or B is present: bit 0 A, bit 1 B (R305). -/
  line : BitVec 2 := 0
  /-- Discarded absolute readings in a row (R319). -/
  absBad : Nat := 0
  /-- An absolute reading has been accepted since the unit started (R319). -/
  absSeen : Bool := false
  /-- ENC_RAW at the last probe edge, while its hold-off lasts (R324). -/
  hold : Option Int := none
  /-- Compares that fired while the module was standby: compare, model instant, newest first (R336). -/
  fired : List (Nat × Nat) := []
deriving DecidableEq, Repr


/-! ### Control engine (chapter 11) -/

/-- What an enabled loop keeps beside its objects (chapter 11). -/
structure LoopRt where
  /-- H2: output HIGH, and the dwell counter (R384). -/
  high : Bool := false
  dwell : Nat := 0
  /-- H3: the accumulator (R385). -/
  acc : Int := 0
  /-- Law output of the last tick. -/
  law : Int := 0
  /-- Setpoint last taken; none since the loop was enabled or reset; and one was taken from SP_SOURCE since then (R388, R399). -/
  sp : Option Int := none
  taken : Bool := false
  /-- Ticks for which RAMP stays set after SP_EFF has reached the setpoint, and FIRST_DWELL (R399). -/
  rampT : Nat := 0
  firstT : Nat := 0
  /-- Ticks at one H2 level (R399). -/
  level : Nat := 0
  /-- Supervision path: 0 none, 1 FE, 2 PL, 3 both; and what is left of the overlap (R402). -/
  path : Nat := 0
  overlap : Nat := 0
  feCount : Nat := 0
  /-- Plausibility model (R401). -/
  ym : Int := 0
  y0 : Int := 0
  u0 : Int := 0
  plCount : Nat := 0
  /-- Applied outputs of the last 64 ticks, newest first (R401). -/
  u : List Int := []
  /-- Ticks in a row with invalid feedback while CLOSED (R403). -/
  invalid : Nat := 0
  fbValid : Bool := false
  /-- Consecutive missed deadlines, and the evaluation of the coming fast or medium tick will not complete (R397, R398). -/
  misses : Nat := 0
  stalled : Bool := false
  /-- The loop is to close on its first tick with valid feedback (R406). -/
  autoDue : Bool := false
  /-- The last write of its target was refused; and what the loop last wrote (R389). -/
  refused : Bool := false
  wrote : Option Int := none
  /-- Trip decided on this tick, cause code (R404). -/
  tripNow : Nat := 0
  /-- The loop closed at step 1 of this tick (R402). -/
  justClosed : Bool := false
  /-- Setpoint and feedback of a lift-side loop, given by its door channel or car (R366, R378). -/
  extSp : Int := 0
  extFb : Option Int := none
deriving DecidableEq, Repr

/-- What a competition group keeps beside its objects (R389, R394). -/
structure GrpRt where
  refused : Bool := false
  wrote : Option Int := none
deriving DecidableEq, Repr

/-- What emits an action. -/
inductive EmitSrc where
  | compare (n k : Nat)
  | launch (part tag : Nat)
  | loop (key : Nat)
  | group (g : Nat)
  | point (p : Nat)
  | internal
deriving DecidableEq, Repr

/-- An action that a compare, a launch, a loop or another internal producer emits, not yet applied: target object, priority, value
(R164, R330, R389). -/
structure Emit where
  oid : Nat
  prio : Nat
  /-- The value as the target's type carries it. -/
  value : List Byte
  relinq : Bool := false
  src : EmitSrc
  /-- Launch time, TIME64, of a launch or compare. -/
  time : Nat := 0
  late : Bool := false
deriving DecidableEq, Repr

/-! ### Door link and door drive (chapter 10) -/

/-- What a door channel keeps beside its objects (chapter 10). -/
structure DoorRt where
  /-- Downlink MODE: 0 TRAIN, 1 OFF, 2 RUN, 3 LOOPBACK (R343). -/
  mode : Nat := 0
  /-- Switch states of phases U, V, W: 0 off, 1 low, 2 high (R360). -/
  sw : List Nat := [0, 0, 0]
  /-- The last 64 sent, newest first (R345). -/
  sent : List (List Nat) := []
  /-- A CMD slot to send: command and argument (R344). -/
  cmd : Option (Nat × Nat) := none
  /-- PRBS of a line test (R344). -/
  prbs : Nat := 0
  /-- Handshake step, 0 while none runs; t0 and the instant of a failure (R352, R353). -/
  hs : Nat := 0
  hsAt : Nat := 0
  failAt : Nat := 0
  /-- Identity words, and how often each has been read alike, by index (R352). -/
  words : Tbl Nat := []
  alike : Tbl Nat := []
  /-- Sector offset k0 (R360). -/
  k0 : Nat := 0
  /-- Uplink: consecutive good and bad frames, last new SEQ (R342, R351). -/
  good : Nat := 0
  bad : Nat := 0
  seq : Option Nat := none
  /-- DOOR_RAW, its value at the last lock confirmation, and the last POS4 (R348, R367). -/
  raw : Int := 0
  zero : Int := 0
  pos4 : Nat := 0
  /-- Counts: model instant and direction of the last one (R367). -/
  countAt : Nat := 0
  countUp : Bool := false
  /-- Slots of the present rotation: nibbles of VBUS and TEMP (R347). -/
  vbus : List Nat := []
  temp : List Nat := []
  /-- STAT_B as last received, and FLT of the last frame (R347, R346). -/
  statB : Nat := 0
  flt : Bool := false
  /-- Model instant at which the stage entered HOLD or COAST. -/
  holdAt : Nat := 0
  /-- Arrival out of its window for so many frames; correction from the trained phase, bit times (R362). -/
  off : Nat := 0
  corr : Int := 0
  /-- Sum over this tick's frames of |I_U| + |I_V| + |I_W|, mA, and their number (R367). -/
  iSum : Nat := 0
  iN : Nat := 0
  /-- Profile: start position (counts), model instant, target, speed mm/s, acceleration mm/s² (R366, R369). -/
  x0 : Int := 0
  t0 : Nat := 0
  target : Int := 0
  v : Nat := 0
  a : Nat := 0
  /-- Model instants since which the force, and the following error, meet the obstruction test (R370). -/
  forceAt : Option Nat := none
  feAt : Option Nat := none
  /-- The medium tick in which the last obstruction was declared (R371). -/
  obsTick : Option Nat := none
  /-- Opening was obstructed once: model instant of STOPPED; the door opens again at DOOR_V_NUDGE (R370). -/
  stopAt : Option Nat := none
  retried : Bool := false
  /-- An open command waits for the end of a line test (R373). -/
  openAfter : Bool := false
deriving DecidableEq, Repr



/-! ### Metering (chapter 13) -/

/-- A current channel beyond its objects (chapter 13). -/
structure MetCh where
  /-- CH_SENSOR, CH_VREF, CH_SCALE, CH_IN and CH_BS_DELAY in effect (R458). -/
  eff : List Int := [0, 0, 1065353216, 1000, 0]
  /-- Windows for which OVERRANGE stays set, the present one counted (R469). -/
  overFor : Nat := 0
  /-- The power-up check of the ADC in use failed and no shadow stands in (R472). -/
  adcBad : Bool := false
  /-- Fractions of registers 0 to 9 in 2^-32 EQ, by register (R486). -/
  frac : Tbl Nat := []
  /-- Samples counted towards the next ms of VALID_MS and of CREEP_MS (R488). -/
  nValid : Nat := 0
  nCreep : Nat := 0
  /-- CH_REG_CLEAR waits for the next sample: the session that wrote it (R489). -/
  clear : Option Nat := none
  /-- What the open interval has seen, as the table Interval flags, and registers 0 to 9 and VALID_MS at its start (R495, R496). -/
  flags : Nat := 0
  base : Tbl Nat := []
deriving DecidableEq, Repr

/-- A voltage channel beyond its objects (chapter 13). -/
structure MetV where
  /-- VCH_ENABLE and VCH_SCALE in effect (R458). -/
  eff : List Int := [0, 1065353216]
  overFor : Nat := 0
  adcBad : Bool := false
deriving DecidableEq, Repr

/-- A metering island's shadow and its calibration (R472 to R478). -/
structure Island where
  /-- A request of the queue has passed both predictions of R20 and starts at the next window boundary (R473, R474). -/
  due : Bool := false
  /-- Channel being calibrated. -/
  cal : Option Nat := none
  /-- Last step of the table Calibration carried out, and the model instant of step 6. -/
  step : Nat := 0
  endAt : Nat := 0
  /-- The new gain and phase formed in step 4. -/
  gain : Int := 0
  phase : Int := 0
  /-- An abort before step 6: the shadow is free at the next window boundary (R475). -/
  aborted : Bool := false
  /-- Channel of the last calibration that committed, until a newer request for it (R475). -/
  last : Option Nat := none
  /-- Model instant of the last calibration of all channels under MET_CAL_INTERVAL (R478). -/
  calAt : Nat := 0
deriving DecidableEq, Repr

/-- A pulse output beyond its objects (R490 to R494). -/
structure PulseRt where
  /-- PO_SRC and PO_CONST in effect (R490). -/
  src : Nat := 0xFFFF
  const : Nat := 1048576
  /-- A write of either waits for the next sample (R490). -/
  dirty : Bool := false
  /-- Fraction of the residue in 2^-32 EQ (R486, R490). -/
  frac : Nat := 0
  /-- Pulses due: TIME64 of the rising edge, and width in ns (R491, R494). -/
  due : List (Nat × Nat) := []
  /-- TIME64 of the last falling edge, and of the end of the present pulse (R492). -/
  fell : Nat := 0
  offAt : Nat := 0
  /-- An FP output turned off for a pulse that fell due while it was on (R494). -/
  again : Bool := false
deriving DecidableEq, Repr

/-- One slot set of the saves in MRAM (R499). -/
structure SaveSlot where
  num : Nat := 0
  /-- 0 periodic, 1 AUTUMN, 2 before a WARM reset. -/
  kind : Nat := 0
  time : Nat := 0
  /-- The TIME64 was taken while TIME_STATUS was UNSET (R505). -/
  unset : Bool := true
  optime : Nat := 0
  cycles : Nat := 0
  /-- Header state CLOSED. -/
  closed : Bool := false
  crcGood : Bool := false
  /-- Registers by 16 c + r, residues in whole EQ and PO_OWED by output. -/
  regs : Tbl Nat := []
  residue : Tbl Nat := []
  owed : Tbl Nat := []
  /-- The failed-channel map. -/
  failed : BitVec 64 := 0
deriving DecidableEq, Repr

/-- A trip in progress (R509). -/
structure Trip where
  /-- TIME64, ENC_POS and CAR_LOAD (FIX32) at STARTING. -/
  start : Nat := 0
  pos : Int := 0
  load : Int := 0
  /-- Up. -/
  up : Bool := true
  /-- AI_TOT and AE_TOT at STARTING. -/
  ai : Nat := 0
  ae : Nat := 0
  /-- Largest one-cycle mean of p and of −p, µW. -/
  peakIn : Nat := 0
  peakEx : Nat := 0
  /-- What would make the trip contribute holds so far (R23, R509). -/
  good : Bool := true
deriving DecidableEq, Repr

/-- A car's energy model beyond CM_COEF (R510): the covariance P of each direction, 16 REAL32 patterns, row by row. -/
structure CarModel where
  up : List Nat := []
  dn : List Nat := []
deriving DecidableEq, Repr

/-- One modulator's stream on its way through the signal chain (R454): the last bits, the 64 kHz samples, the 24-bit samples, the high-pass, the
coil's integrator and the scaled samples; every history newest first. -/
structure Leg where
  bits : List Bool := []
  dec : List Int := []
  codes : List Int := []
  dc : Int := 0
  ac : Int := 0
  acWas : Int := 0
  coil : Int := 0
  sums : List Int := []
  scaled : List Int := []
deriving DecidableEq, Repr

/-- What the samples of the present window have summed to: their number, p, p1, q1 and s in µW, the squares and the fundamentals of current
and voltage, the square of the current before segment correction, and both sample rows, newest first (R461, R464). -/
structure WinSum where
  n : Nat := 0
  p : Int := 0
  p1 : Int := 0
  q1 : Int := 0
  s : Nat := 0
  i2 : Nat := 0
  v2 : Nat := 0
  raw2 : Nat := 0
  i1 : Nat := 0
  v1 : Nat := 0
  is' : List Int := []
  vs : List Int := []
  /-- A voltage sample was at the clip level; its peak at the contact, µV (R469). -/
  vClip : Bool := false
  vPeak : Nat := 0
deriving DecidableEq, Repr

/-- The signal of a current channel: its current, its voltage, one cycle of corrected samples of both, in µA and µV, and its window
(R454, R461). -/
structure Chain where
  cur : Leg := {}
  vol : Leg := {}
  is' : List Int := []
  vs : List Int := []
  win : WinSum := {}
deriving DecidableEq, Repr

/-- Metering and energy (chapters 13 and 14). -/
structure Metering where
  ch : Tbl MetCh := []
  vch : Tbl MetV := []
  islands : Tbl Island := []
  /-- Windows for which the PLL has been acquiring (R460). -/
  acquiring : Nat := 0
  /-- The signals of the channels whose samples are formed here (R454). -/
  chains : Tbl Chain := []
  pulses : Tbl PulseRt := []
  /-- The eight slot sets (R499). -/
  slots : Tbl SaveSlot := []
  /-- Words of the energy shadow that fail their code check (R113). -/
  shadowBad : List SaveWord := []
  /-- Number of the last save opened (R499). -/
  lastNum : Nat := 0
  /-- TIME64 at which the open interval began (R495). -/
  intStart : Nat := 0
  /-- What the open interval has seen for every channel, as the table Interval flags (R496). -/
  flagsAll : Nat := 0
  /-- An interval has been open over a time in UNSET (R498). -/
  wasUnset : Bool := true
  /-- What a standby has added to its own registers since the last whole second: the sample's stamp, channel, register, and energy in
  2^-32 EQ, newest first (R506). -/
  recent : List (Nat × Nat × Nat × Nat) := []
  /-- Next SEQ of an interval record (R496). -/
  intSeq : Nat := 0
  /-- The interval store, newest first: SEQ and 128 bytes (R497). -/
  store : List (Nat × List Byte) := []
  trips : Tbl Trip := []
  models : Tbl CarModel := []
  /-- The shadow stopped for a reset or supply loss and counts no energy until the restore: cause of R513, OPTIME at the stop (R505). -/
  stopped : Option (Nat × Nat) := none
  /-- The gap of R505 waits for the time base to leave UNSET: TIME64 of the restored header, OPTIME of the stop, cause, and the
  model instant at which metering restarted. -/
  gapDue : Option (Nat × Nat × Nat × Nat) := none
deriving DecidableEq, Repr



/-! ### Dispatch and cars (chapter 12) -/

/-- One entry of a car's stop queue (R431): landing, sides as bit 0 front and bit 1 rear, kinds as bit 0 car call, 1 hall up, 2 hall
down, 3 pickup, 4 drop, 5 evacuation, 6 reference. -/
structure QEntry where
  landing : Nat
  side : Nat
  kinds : Nat
deriving DecidableEq, Repr

/-- A destination call (R434 to R437). -/
structure DtCall where
  group : Nat
  terminal : Nat
  seq : Nat
  source : Nat
  dest : Nat
  flags : Nat
  /-- Car assigned, 0xFF for none. -/
  car : Nat
  /-- STATUS of its assignment record. -/
  status : Nat
  /-- CAN channel of its terminal, and model instant of the last bit of the call frame. -/
  chan : Nat
  atNs : Nat
  /-- The passenger is on board, and has left. -/
  picked : Bool := false
  gone : Bool := false
deriving DecidableEq, Repr

/-- A registered hall call and the car it is assigned to, 0xFF for none (R432, R433). -/
structure HallCall where
  group : Nat
  landing : Nat
  down : Bool
  car : Nat
deriving DecidableEq, Repr

/-- An assignment record that waits for its transmit window (R436): channel, record, model instant of its call; an unsolicited record
has none. -/
structure DtOut where
  chan : Nat
  bytes : List Byte
  callAt : Option Nat
deriving DecidableEq, Repr

/-- What leaves the module only once the standby has confirmed the decision behind it (R449). -/
inductive HeldAct where
  | lamp (e : Emit)
  | record (r : DtOut)
deriving DecidableEq, Repr

/-- What dispatch and supervision keep of a car beside its objects (chapter 12). -/
structure CarRt where
  /-- The stop queue, in order of placing (R431). -/
  queue : List QEntry := []
  /-- Present direction: 0 none, 1 up, 2 down (R431). -/
  dir : Nat := 0
  /-- Model instant of entry to the present CAR_STATE; of the last door reaching OPEN or the last reopen; since which the doors have
  been held open (R418). -/
  since : Nat := 0
  dwellAt : Nat := 0
  openAt : Nat := 0
  /-- Sides of the present stop (R424), and CAR_DWELL doubled for it (ACCESSIBLE, R435). -/
  side : Nat := 3
  slow : Bool := false
  /-- The speed segment in progress: from and to in 0.01 mm/s, model instant of its start (R427). -/
  v0 : Nat := 0
  v1 : Nat := 0
  segAt : Nat := 0
  /-- RUN is requested, QUICK_STOP and CAR_STOP are set, LOW_SPEED is set, FAULT_RESET is due (R426). -/
  run : Bool := false
  quick : Bool := false
  low : Bool := false
  faultReset : Bool := false
  /-- Start of frame of the first drive command that carries RUN (R421). -/
  runAt : Option Nat := none
  /-- Compares of the trip that dispatch has seen fire, bit k (R418). -/
  fired : Nat := 0
  /-- A trip to no landing: 0 no, 1 inspection or rescue run, 2 relevelling, 3 stopping short (R417, R423, R429). -/
  special : Nat := 0
  /-- CAR_CMD 0 waits for rest; STOP_NEXT or STOP_END waits for its end: fault cause (R418, R429). -/
  outDue : Bool := false
  endDue : Bool := false
  /-- Reference trip: 0 none, 1 down to the bottom input, 2 to the door zone, 3 stopping; model instant of its start (R446). -/
  ref : Nat := 0
  refAt : Nat := 0
  /-- The SLA's window is asked for, since the model instant; the doors of the stop have been opened ahead (R422, R423). -/
  window : Option Nat := none
  preopened : Bool := false
  /-- The car is a candidate whose start waits for R443, EP_WAIT of the present wait has been recorded; the doors were opened where the car
  stood; it has been served (R443 to R445). -/
  waiting : Bool := false
  waitRec : Bool := false
  epOpened : Bool := false
  epDone : Bool := false
  /-- A service car of R445. -/
  epService : Bool := false
  /-- Return after start-up: waits, or under way since the model instant (R447). -/
  returnDue : Bool := false
  returnAt : Option Nat := none
  /-- Firefighters' phase 2: the doors move back without a button, since one was released too soon (R442). -/
  ffAuto : Bool := false
  /-- Last valid values of the sources of R417: bit 0 inspection, 1 rescue, 2 access-level switch, 3 car switch. -/
  src : Nat := 0
  /-- Generation of the batch that carries the start, until it is confirmed (R449). -/
  decGen : Option Nat := none
deriving DecidableEq, Repr

/-- Dispatch as a whole (chapter 12). -/
structure Dispatch where
  cars : Tbl CarRt := []
  halls : List HallCall := []
  calls : List DtCall := []
  /-- Assignment records that wait for a window, in order of their calls (R436). -/
  outs : List DtOut := []
  /-- Actions that wait for the standby to confirm a generation (R449). -/
  held : List (Nat × HeldAct) := []
  /-- Model instant at which EP_ACTIVE last became false (R448). -/
  epOffAt : Nat := 0
  /-- The service cars of R445 have returned to NORMAL. -/
  epServed : Bool := false
deriving DecidableEq, Repr


/-- How a BACnet request is refused (R249 to R251); a refusal for which the manual names no class and code keeps the PDP status. -/
inductive BacErr where
  /-- Class PROPERTY, code WRITE_ACCESS_DENIED (R249). -/
  | writeAccessDenied
  /-- Class SECURITY, code ACCESS_DENIED (R250). -/
  | accessDenied
  /-- Class RESOURCES, code NO_SPACE_TO_ADD_LIST_ELEMENT (R251). -/
  | noSpace
  /-- Any other refusal, with its PDP status (R248). -/
  | status (st : Nat)
deriving DecidableEq, Repr

/-- What the module sends or drives outward in one step: the effects of a command that leave the module. `State.out` lists those
of the last command, oldest first. -/
inductive Out where
  /-- A PDP response: session slot, OP, REQ_ID, STATUS, payload (R195). -/
  | resp (ses op : Nat) (req : BitVec 32) (status : Nat) (payload : List Byte)
  /-- The module closes a TLS connection (R193). -/
  | close (ses : Nat)
  /-- A TLS alert: port, alert description (R189). -/
  | alert (port code : Nat)
  /-- A NOTIFY frame: session slot, handle, payload (R240). -/
  | notify (ses handle : Nat) (payload : List Byte)
  /-- An SDO response: COB-ID, index, sub-index, abort code or 0, data, expedited up to 4 bytes and segmented above (R206, R209). -/
  | sdo (cob index sub abort : Nat) (data : List Byte)
  /-- A BACnet answer: invoke number, error or none, data (R246 to R251). -/
  | bacnet (invoke : Nat) (error : Option BacErr) (data : List Byte)
  /-- A mirror batch: generation, TIME64 of sending, FINAL, RETRY, items in order (R155, R579, R580). -/
  | batch (gen time : Nat) (final retry : Bool) (items : List BatchItem)
  /-- Another twin link frame: KIND, GEN, payload (R578, R579). -/
  | twin (kind gen : Nat) (payload : List Byte)
  /-- A piece of streamed state: region, offset, and the state as items of a mirror batch (R588, R589). -/
  | stream (region offset : Nat) (items : List BatchItem)
  /-- A PTP message: port, transport (0 UDP/IPv4, 1 IEEE 802.3), domain, kind (0 Sync and Follow_Up, 1 Announce, 2 Delay_Req, 3 Pdelay_Req,
  4 Delay_Resp, 5 Pdelay_Resp), sequenceId, body (R143 to R147). -/
  | ptp (port transport domain kind seq : Nat) (body : List Byte)
  /-- A gratuitous ARP: port, address (R573). -/
  | arp (port ip : Nat)
  /-- A frame placed on a CAN channel: channel, identifier, frame bits, data (chapter 08). -/
  | can (c id frame : Nat) (data : List Byte)
  /-- A poll of a point's source (R223). -/
  | poll (p : Nat)
  /-- A write of a point's value to its sink: the value of the point's type, or the registers of its Modbus format (R223, R252). -/
  | sink (p : Nat) (v : List Byte)
  /-- A SubscribeCOV to the source device of a point (R223, R245). -/
  | covSubscribe (p : Nat)
  /-- A door link downlink line, 64 bits (R341, R350). -/
  | door (k : Nat) (line : BitVec 64)
  /-- An SSI clock burst of a car (R313). -/
  | ssi (n rate clocks : Nat)
  /-- The S-pair heartbeat to the SLA (R518). -/
  | heartbeat (hb : BitVec 96)
  /-- A safety telegram copy: telegram, carrier, bytes (R530, R533). -/
  | dst (t carrier : Nat) (b : List Byte)
  /-- What leaves TDO: register length in bits, value, bit 0 first (R656). -/
  | tdo (len : Nat) (v : Nat)
  /-- A pulse on a pulse output: output, level (R491, R494). -/
  | pulse (x : Nat) (level : Bool)
deriving DecidableEq, Repr

/-- A key of the dictionary: the object's identifier and the value an unlisted entry reads, the default of its table. -/
structure Key where
  oid : Nat
  dflt : Int
deriving DecidableEq, Repr

/-- A key of an OCTETS or STRING object. -/
structure BKey where
  oid : Nat
  dflt : List Byte
deriving DecidableEq, Repr

/-- The module's state. -/
structure State where
  /-- The commands that wait, first in first out (the model's queue; DESIGN CHOICE, log entry 1). -/
  pending : List Instr := []
  /-- What the last command sent out (the model's record of effects that leave the module; DESIGN CHOICE, log entry 7). -/
  out : List Out := []
  /-- Elapsed time in ns, counted by idle steps and timer rows (the model's clock; DESIGN CHOICE, log entries 2 and 3). -/
  clk : Nat := 0
  /-- How many free values have been drawn (the model's counter; DESIGN CHOICE, log entry 8). -/
  freeCtr : Nat := 0
  /-- MODULE_STATE (R2, R4). -/
  mode : Mode := .boot
  /-- The scalar registers of the dictionary by OID; an unlisted one holds the default of its table (R171, R177). -/
  objs : Tbl Int := []
  /-- The OCTETS and STRING registers of the dictionary by OID (R171, R177). -/
  blobs : Tbl (List Byte) := []
  /-- The recorder (chapter 19). -/
  rcd : Recorder := {}
  /-- The freeze controller and readout port (chapter 19). -/
  frz : Freeze := {}
  /-- Power domains and supply (chapter 03). -/
  pow : Power := {}
  /-- The reset controller (chapter 04). -/
  rst : ResetCtl := {}
  /-- The time base (chapter 05). -/
  tb : TimeBase := {}
  /-- The launch queue and held tags, in order of acceptance (R159, R162). -/
  launches : List Launch := []
  /-- Next place in the order of launch acceptance (R165). -/
  launchSeq : Nat := 0
  /-- Sessions and the order of writes (chapter 06). -/
  acc : Access := {}
  /-- Point service and ledger (chapter 07). -/
  pts : Points := {}
  /-- The twin link (chapter 16). -/
  tw : Twin := {}
  /-- A valid signed configuration set is present in the active slot (R5, R638). -/
  cfgValid : Bool := false
  /-- On-demand tests accepted and not started: number, kind, predicted mW (R20). -/
  testQueue : List (TestKind × Nat) := []
  /-- On-demand tests running (R20, R21). -/
  testsOn : List TestKind := []
  /-- Field inputs and outputs (chapter 17). -/
  fio : FieldIo := {}
  /-- Memory integrity, identity and firmware (chapter 18). -/
  mem : MemId := {}
  /-- Safety (chapter 15). -/
  saf : Safety := {}
  /-- CAN channels (chapter 08). -/
  can : Tbl CanCh := []
  /-- Position units (chapter 09). -/
  pos : Tbl PosUnit := []
  /-- Actions emitted by the present command and not yet applied (the model's own; empty between commands). -/
  emits : List Emit := []
  /-- Enabled loops, by 4 × j + class (chapter 11). -/
  loops : Tbl LoopRt := []
  /-- Competition groups that are defined (chapter 11). -/
  grps : Tbl GrpRt := []
  /-- Door channels (chapter 10). -/
  doors : Tbl DoorRt := []
  /-- Metering and energy (chapters 13 and 14). -/
  met : Metering := {}
  /-- Dispatch and cars (chapter 12). -/
  dsp : Dispatch := {}
deriving DecidableEq, Repr

/-- The module right after reset: PD-AON has just powered up, every register at the default of its table, no command waiting
(R108, R139, R148, R593). (DESIGN CHOICE, log entry 5.) -/
def State.reset : State := {}

end Sys2Proof.Machine
end

