-- ==== Sys2Proof/Machine/Oid.lean ====
section
/-! DEFINITION. The named objects of the dictionary: one key per row of the object tables of the manual, with the object
identifier and the default of its table. -/

namespace Sys2Proof.Machine

/-- MODULE_STATE, U8, RO (R2, spec/00_scope.md). -/
def Oid.MODULE_STATE : Key := ⟨0x00000100, 0⟩
/-- ORDER_CODE, U8, CONST (R2, spec/00_scope.md). -/
def Oid.ORDER_CODE : Key := ⟨0x00000200, 0⟩
/-- MODULE_STATE_REQ, U8, RWP (R41, spec/01_architecture.md). -/
def Oid.MODULE_STATE_REQ : Key := ⟨0x00000110, 0⟩
/-- HANDOVER_REQ, U8, RWP (R41, spec/01_architecture.md). -/
def Oid.HANDOVER_REQ : Key := ⟨0x00000120, 0⟩
/-- PD_STATE, U16, RO (R108, spec/03_power_and_clock_domains.md). -/
def Oid.PD_STATE : Key := ⟨0x00000400, 1⟩
/-- CK_GOOD, U16, RO (R108, spec/03_power_and_clock_domains.md). -/
def Oid.CK_GOOD : Key := ⟨0x00000401, 0⟩
/-- APP_CORES_ON, U16, RO (R108, spec/03_power_and_clock_domains.md). -/
def Oid.APP_CORES_ON : Key := ⟨0x00000402, 0⟩
/-- DL_ON, U32, RO (R108, spec/03_power_and_clock_domains.md). -/
def Oid.DL_ON : Key := ⟨0x00000403, 0⟩
/-- MI_ON, U8, RO (R108, spec/03_power_and_clock_domains.md). -/
def Oid.MI_ON : Key := ⟨0x00000404, 0⟩
/-- FEED_A_MV, U16, RO (R108, spec/03_power_and_clock_domains.md). -/
def Oid.FEED_A_MV : Key := ⟨0x00000410, 0⟩
/-- FEED_B_MV, U16, RO (R108, spec/03_power_and_clock_domains.md). -/
def Oid.FEED_B_MV : Key := ⟨0x00000411, 0⟩
/-- BANK_MV, U16, RO (R108, spec/03_power_and_clock_domains.md). -/
def Oid.BANK_MV : Key := ⟨0x00000412, 0⟩
/-- BANK_OK, BOOL, RO (R108, spec/03_power_and_clock_domains.md). -/
def Oid.BANK_OK : Key := ⟨0x00000413, 0⟩
/-- BANK_CAP, U16, RO (R108, spec/03_power_and_clock_domains.md). -/
def Oid.BANK_CAP : Key := ⟨0x00000414, 0⟩
/-- DIE_TEMP, I16, RO (R108, spec/03_power_and_clock_domains.md). -/
def Oid.DIE_TEMP : Key := ⟨0x00000415, 0⟩
/-- SPRING_STEP, U8, RO (R108, spec/03_power_and_clock_domains.md). -/
def Oid.SPRING_STEP : Key := ⟨0x00000420, 0⟩
/-- APP_MIN_AWAKE, U8, RWP (R108, spec/03_power_and_clock_domains.md). -/
def Oid.APP_MIN_AWAKE : Key := ⟨0x00000421, 2⟩
/-- APP_SLEEP_DELAY, U32, RWP (R108, spec/03_power_and_clock_domains.md). -/
def Oid.APP_SLEEP_DELAY : Key := ⟨0x00000422, 2000⟩
/-- RESET_CAUSE, U32, RO (R139, spec/04_reset_and_start_up.md). -/
def Oid.RESET_CAUSE : Key := ⟨0x00000500, 0⟩
/-- RESET_REACH, U8, RO (R139, spec/04_reset_and_start_up.md). -/
def Oid.RESET_REACH : Key := ⟨0x00000501, 0⟩
/-- RESET_REQ, U8, RWP (R139, spec/04_reset_and_start_up.md). -/
def Oid.RESET_REQ : Key := ⟨0x00000502, 0⟩
/-- POWER_CYCLES, U32, RO (R139, spec/04_reset_and_start_up.md). -/
def Oid.POWER_CYCLES : Key := ⟨0x00000503, 0⟩
/-- RESET_N_STATE, U8, RO (R139, spec/04_reset_and_start_up.md). -/
def Oid.RESET_N_STATE : Key := ⟨0x00000504, 0⟩
/-- STRAP_VALUE, U8, RO (R139, spec/04_reset_and_start_up.md). -/
def Oid.STRAP_VALUE : Key := ⟨0x00000510, 255⟩
/-- STRAP_RATIO, U16, RO (R139, spec/04_reset_and_start_up.md). -/
def Oid.STRAP_RATIO : Key := ⟨0x00000511, 0⟩
/-- BLOCK_RST, U64, RWP (R139, spec/04_reset_and_start_up.md). -/
def Oid.BLOCK_RST : Key := ⟨0x00000520, 0⟩
/-- RST_PEND, U64, RO (R139, spec/04_reset_and_start_up.md). -/
def Oid.RST_PEND : Key := ⟨0x00000521, 0⟩
/-- BLOCK_IN_RST, U64, RO (R139, spec/04_reset_and_start_up.md). -/
def Oid.BLOCK_IN_RST : Key := ⟨0x00000522, 0⟩
/-- TIME_NOW, TIME64, RO (R169, spec/05_time_base_and_launch.md). -/
def Oid.TIME_NOW : Key := ⟨0x08000100, 0⟩
/-- TIME_STATUS, U8, RO (R169, spec/05_time_base_and_launch.md). -/
def Oid.TIME_STATUS : Key := ⟨0x08000101, 0⟩
/-- TIME_OFFSET_NS, I32, RO (R169, spec/05_time_base_and_launch.md). -/
def Oid.TIME_OFFSET_NS : Key := ⟨0x08000102, 0⟩
/-- TIME_RATE_PPB, I32, RO (R169, spec/05_time_base_and_launch.md). -/
def Oid.TIME_RATE_PPB : Key := ⟨0x08000103, 0⟩
/-- OPTIME_NOW, OPTIME40, RO (R169, spec/05_time_base_and_launch.md). -/
def Oid.OPTIME_NOW : Key := ⟨0x08000104, 0⟩
/-- SOLSTICE_COUNT, U16, RO (R169, spec/05_time_base_and_launch.md). -/
def Oid.SOLSTICE_COUNT : Key := ⟨0x08000105, 0⟩
/-- TIME_SET, TIME64, RWP (R169, spec/05_time_base_and_launch.md). -/
def Oid.TIME_SET : Key := ⟨0x08000110, 0⟩
/-- TIME_STEP_REQ, U8, RWP (R169, spec/05_time_base_and_launch.md). -/
def Oid.TIME_STEP_REQ : Key := ⟨0x08000111, 0⟩
/-- HOLDOVER_LIMIT, U32, RWP (R169, spec/05_time_base_and_launch.md). -/
def Oid.HOLDOVER_LIMIT : Key := ⟨0x08000112, 3600⟩
/-- PTP_ROLE, U8, RWP (R169, spec/05_time_base_and_launch.md). -/
def Oid.PTP_ROLE (p : Nat) : Key := ⟨0x08000200 + p, 1⟩
/-- PTP_PROFILE, U8, RWP (R169, spec/05_time_base_and_launch.md). -/
def Oid.PTP_PROFILE : Key := ⟨0x08000300, 0⟩
/-- PTP_DOMAIN, U8, RWP (R169, spec/05_time_base_and_launch.md). -/
def Oid.PTP_DOMAIN : Key := ⟨0x08000301, 0⟩
/-- PTP_PRIORITY1, U8, RWP (R169, spec/05_time_base_and_launch.md). -/
def Oid.PTP_PRIORITY1 : Key := ⟨0x08000302, 248⟩
/-- PTP_PRIORITY2, U8, RWP (R169, spec/05_time_base_and_launch.md). -/
def Oid.PTP_PRIORITY2 : Key := ⟨0x08000303, 248⟩
/-- PTP_SYNC_LOG, I8, RWP (R169, spec/05_time_base_and_launch.md). -/
def Oid.PTP_SYNC_LOG : Key := ⟨0x08000304, -3⟩
/-- PTP_TRANSPORT, U8, RWP (R169, spec/05_time_base_and_launch.md). -/
def Oid.PTP_TRANSPORT : Key := ⟨0x08000305, 0⟩
/-- PTP_GM_ID, OCTETS, RO (R169, spec/05_time_base_and_launch.md). -/
def Oid.PTP_GM_ID : BKey := ⟨0x08000310, List.replicate 8 0⟩
/-- PTP_PORT_STATE, U8, RO (R169, spec/05_time_base_and_launch.md). -/
def Oid.PTP_PORT_STATE (p : Nat) : Key := ⟨0x08000400 + p, 0⟩
/-- LAUNCH_SUBMIT, OCTETS, WO (R169, spec/05_time_base_and_launch.md). -/
def Oid.LAUNCH_SUBMIT : BKey := ⟨0x08001000, []⟩
/-- LAUNCH_CANCEL, U32, WO (R169, spec/05_time_base_and_launch.md). -/
def Oid.LAUNCH_CANCEL : Key := ⟨0x08001001, 0⟩
/-- LAUNCH_FREE, U16, RO (R169, spec/05_time_base_and_launch.md). -/
def Oid.LAUNCH_FREE : Key := ⟨0x08001002, 16384⟩
/-- LAUNCH_PENDING, U16, RO (R169, spec/05_time_base_and_launch.md). -/
def Oid.LAUNCH_PENDING : Key := ⟨0x08001003, 0⟩
/-- LAUNCH_MIN_LEAD, U32, CONST (R169, spec/05_time_base_and_launch.md). -/
def Oid.LAUNCH_MIN_LEAD : Key := ⟨0x08001004, 2000⟩
/-- LAUNCH_MAX_LEAD, U32, CONST (R169, spec/05_time_base_and_launch.md). -/
def Oid.LAUNCH_MAX_LEAD : Key := ⟨0x08001005, 2678400⟩
/-- SESSION_COUNT, U8, RO (R210, spec/06_object_dictionary.md). -/
def Oid.SESSION_COUNT : Key := ⟨0x01000100, 0⟩
/-- SESSION_MAX, U8, RWP (R210, spec/06_object_dictionary.md). -/
def Oid.SESSION_MAX : Key := ⟨0x01000101, 64⟩
/-- SESSION_IDLE, U16, RWP (R210, spec/06_object_dictionary.md). -/
def Oid.SESSION_IDLE : Key := ⟨0x01000102, 60⟩
/-- PDP_PORTS, U8, RWP (R210, spec/06_object_dictionary.md). -/
def Oid.PDP_PORTS : Key := ⟨0x01000103, 15⟩
/-- SDO_ENABLE, U8, RWP (R210, spec/06_object_dictionary.md). -/
def Oid.SDO_ENABLE : Key := ⟨0x01000104, 1⟩
/-- SDO_CHANNEL, U8, RWP (R210, spec/06_object_dictionary.md). -/
def Oid.SDO_CHANNEL : Key := ⟨0x01000105, 0⟩
/-- SDO_NODE_ID, U8, RWP (R210, spec/06_object_dictionary.md). -/
def Oid.SDO_NODE_ID : Key := ⟨0x01000106, 1⟩
/-- SDO_LAST_STATUS, U8, RO (R210, spec/06_object_dictionary.md). -/
def Oid.SDO_LAST_STATUS : Key := ⟨0x01000107, 0⟩
/-- LAST_KNOWN_TIME, TIME64, RO (R210, spec/06_object_dictionary.md). -/
def Oid.LAST_KNOWN_TIME : Key := ⟨0x01000108, 0⟩
/-- JOURNAL_USED, U32, RO (R210, spec/06_object_dictionary.md). -/
def Oid.JOURNAL_USED : Key := ⟨0x01000109, 0⟩
/-- MAP_TYPE, U8, RWP (R210, spec/06_object_dictionary.md). -/
def Oid.MAP_TYPE (e : Nat) : Key := ⟨0x01100000 + e * 0x100, 0⟩
/-- MAP_FPR, OCTETS, RWP (R210, spec/06_object_dictionary.md). -/
def Oid.MAP_FPR (e : Nat) : BKey := ⟨0x01100001 + e * 0x100, List.replicate 32 0⟩
/-- MAP_CA, U8, RWP (R210, spec/06_object_dictionary.md). -/
def Oid.MAP_CA (e : Nat) : Key := ⟨0x01100002 + e * 0x100, 0⟩
/-- MAP_CN, STRING, RWP (R210, spec/06_object_dictionary.md). -/
def Oid.MAP_CN (e : Nat) : BKey := ⟨0x01100003 + e * 0x100, []⟩
/-- MAP_PARTS, OCTETS, RWP (R210, spec/06_object_dictionary.md). -/
def Oid.MAP_PARTS (e : Nat) : BKey := ⟨0x01100004 + e * 0x100, List.replicate 128 0⟩
/-- MAP_SESSIONS, U8, RWP (R210, spec/06_object_dictionary.md). -/
def Oid.MAP_SESSIONS (e : Nat) : Key := ⟨0x01100005 + e * 0x100, 4⟩
/-- MAP_SAFETY, BOOL, RWP (R210, spec/06_object_dictionary.md). -/
def Oid.MAP_SAFETY (e : Nat) : Key := ⟨0x01100006 + e * 0x100, 0⟩
/-- HOST_CA, OCTETS, RWP (R210, spec/06_object_dictionary.md). -/
def Oid.HOST_CA (c : Nat) : BKey := ⟨0x01110000 + c * 0x100, []⟩
/-- HOST_CA_FPR, OCTETS, RO (R210, spec/06_object_dictionary.md). -/
def Oid.HOST_CA_FPR (c : Nat) : BKey := ⟨0x01110001 + c * 0x100, []⟩
/-- PART_ENABLE, BOOL, RWP (R210, spec/06_object_dictionary.md). -/
def Oid.PART_ENABLE (p : Nat) : Key := ⟨0x01200000 + p * 0x100, 0⟩
/-- PART_NAME, STRING, RWP (R210, spec/06_object_dictionary.md). -/
def Oid.PART_NAME (p : Nat) : BKey := ⟨0x01200001 + p * 0x100, []⟩
/-- PART_POINTS, U32, RO (R210, spec/06_object_dictionary.md). -/
def Oid.PART_POINTS (p : Nat) : Key := ⟨0x01200002 + p * 0x100, 0⟩
/-- SESS_STATE, U8, RO (R210, spec/06_object_dictionary.md). -/
def Oid.SESS_STATE (s : Nat) : Key := ⟨0x01400000 + s * 0x100, 0⟩
/-- SESS_PARTITION, U16, RO (R210, spec/06_object_dictionary.md). -/
def Oid.SESS_PARTITION (s : Nat) : Key := ⟨0x01400001 + s * 0x100, 0⟩
/-- SESS_PORT, U8, RO (R210, spec/06_object_dictionary.md). -/
def Oid.SESS_PORT (s : Nat) : Key := ⟨0x01400002 + s * 0x100, 0⟩
/-- SESS_FPR, OCTETS, RO (R210, spec/06_object_dictionary.md). -/
def Oid.SESS_FPR (s : Nat) : BKey := ⟨0x01400003 + s * 0x100, List.replicate 32 0⟩
/-- SESS_OPENED, TIME64, RO (R210, spec/06_object_dictionary.md). -/
def Oid.SESS_OPENED (s : Nat) : Key := ⟨0x01400004 + s * 0x100, 0⟩
/-- SESS_CLOSE, U8, WO (R210, spec/06_object_dictionary.md). -/
def Oid.SESS_CLOSE (s : Nat) : Key := ⟨0x01400005 + s * 0x100, 0⟩
/-- GRP_PARTITION, U16, RW (R210, spec/06_object_dictionary.md). -/
def Oid.PGRP_PARTITION (g : Nat) : Key := ⟨0x01500000 + g * 0x100, 0⟩
/-- GRP_MEMBERS, OCTETS, RW (R210, spec/06_object_dictionary.md). -/
def Oid.PGRP_MEMBERS (g : Nat) : BKey := ⟨0x01500001 + g * 0x100, []⟩
/-- PV, value type, RW (R215, spec/07_point_service_and_delivery_classes.md). -/
def Oid.PT_PV (p : Nat) : Key := ⟨0x80000000 + p * 0x100, 0⟩
/-- TYPE, U8, RWP (R215, spec/07_point_service_and_delivery_classes.md). -/
def Oid.PT_TYPE (p : Nat) : Key := ⟨0x80000001 + p * 0x100, 0⟩
/-- PARTITION, U16, RWP (R215, spec/07_point_service_and_delivery_classes.md). -/
def Oid.PT_PARTITION (p : Nat) : Key := ⟨0x80000002 + p * 0x100, 0⟩
/-- ENABLE, BOOL, RWP (R215, spec/07_point_service_and_delivery_classes.md). -/
def Oid.PT_ENABLE (p : Nat) : Key := ⟨0x80000003 + p * 0x100, 0⟩
/-- CLASS, U8, RWP (R215, spec/07_point_service_and_delivery_classes.md). -/
def Oid.PT_CLASS (p : Nat) : Key := ⟨0x80000004 + p * 0x100, 3⟩
/-- STATUS, U8, RO (R215, spec/07_point_service_and_delivery_classes.md). -/
def Oid.PT_STATUS (p : Nat) : Key := ⟨0x80000005 + p * 0x100, 0⟩
/-- SOURCE, OCTETS, RWP (R215, spec/07_point_service_and_delivery_classes.md). -/
def Oid.PT_SOURCE (p : Nat) : BKey := ⟨0x80000006 + p * 0x100, List.replicate 16 0⟩
/-- SINK, OCTETS, RWP (R215, spec/07_point_service_and_delivery_classes.md). -/
def Oid.PT_SINK (p : Nat) : BKey := ⟨0x80000007 + p * 0x100, List.replicate 16 0⟩
/-- RELINQUISH_DEFAULT, value type, RW (R215, spec/07_point_service_and_delivery_classes.md). -/
def Oid.PT_RELINQUISH_DEFAULT (p : Nat) : Key := ⟨0x80000008 + p * 0x100, 0⟩
/-- PRIORITY_SLOT, value type, RO (R215, spec/07_point_service_and_delivery_classes.md). -/
def Oid.PT_PRIORITY_SLOT (p : Nat) (r : Nat) : Key := ⟨0x80000010 + p * 0x100 + r, 0⟩
/-- PA_MASK, U16, RO (R215, spec/07_point_service_and_delivery_classes.md). -/
def Oid.PT_PA_MASK (p : Nat) : Key := ⟨0x80000020 + p * 0x100, 0⟩
/-- ACTIVE_PRIORITY, U8, RO (R215, spec/07_point_service_and_delivery_classes.md). -/
def Oid.PT_ACTIVE_PRIORITY (p : Nat) : Key := ⟨0x80000021 + p * 0x100, 0⟩
/-- COV_INCREMENT, REAL32, RW (R215, spec/07_point_service_and_delivery_classes.md). -/
def Oid.PT_COV_INCREMENT (p : Nat) : Key := ⟨0x80000022 + p * 0x100, 0⟩
/-- NAME, STRING, RW (R215, spec/07_point_service_and_delivery_classes.md). -/
def Oid.PT_NAME (p : Nat) : BKey := ⟨0x80000023 + p * 0x100, []⟩
/-- UNITS, U16, RWP (R215, spec/07_point_service_and_delivery_classes.md). -/
def Oid.PT_UNITS (p : Nat) : Key := ⟨0x80000024 + p * 0x100, 95⟩
/-- LAST_CHANGE, TIME64, RO (R215, spec/07_point_service_and_delivery_classes.md). -/
def Oid.PT_LAST_CHANGE (p : Nat) : Key := ⟨0x80000025 + p * 0x100, 0⟩
/-- STATE_COUNT, U16, RWP (R215, spec/07_point_service_and_delivery_classes.md). -/
def Oid.PT_STATE_COUNT (p : Nat) : Key := ⟨0x80000026 + p * 0x100, 2⟩
/-- OUT_OF_SERVICE, BOOL, RW (R215, spec/07_point_service_and_delivery_classes.md). -/
def Oid.PT_OUT_OF_SERVICE (p : Nat) : Key := ⟨0x80000027 + p * 0x100, 0⟩
/-- BACNET_INSTANCE, U32, RWP (R215, spec/07_point_service_and_delivery_classes.md). -/
def Oid.PT_BACNET_INSTANCE (p : Nat) : Key := ⟨0x80000028 + p * 0x100, p⟩
/-- SCALE, REAL32, RWP (R215, spec/07_point_service_and_delivery_classes.md). -/
def Oid.PT_SCALE (p : Nat) : Key := ⟨0x80000029 + p * 0x100, 1065353216⟩
/-- OFFSET, REAL32, RWP (R215, spec/07_point_service_and_delivery_classes.md). -/
def Oid.PT_OFFSET (p : Nat) : Key := ⟨0x8000002A + p * 0x100, 0⟩
/-- ACC_CAPACITY, U32, RO (R233, spec/07_point_service_and_delivery_classes.md). -/
def Oid.ACC_CAPACITY (a : Nat) : Key := ⟨0x7E000000 + a * 0x100, 0⟩
/-- ACC_LOAD_A to ACC_LOAD_D, U32, RO (R233, spec/07_point_service_and_delivery_classes.md). -/
def Oid.ACC_LOAD (a : Nat) (r : Nat) : Key := ⟨0x7E000001 + a * 0x100 + r, 0⟩
/-- ACC_HEALTHY, BOOL, RO (R233, spec/07_point_service_and_delivery_classes.md). -/
def Oid.ACC_HEALTHY (a : Nat) : Key := ⟨0x7E000005 + a * 0x100, 0⟩
/-- ACC_ITEMS, U32, RO (R233, spec/07_point_service_and_delivery_classes.md). -/
def Oid.ACC_ITEMS (a : Nat) : Key := ⟨0x7E000006 + a * 0x100, 0⟩
/-- ACC_DEGRADED, U32, RO (R233, spec/07_point_service_and_delivery_classes.md). -/
def Oid.ACC_DEGRADED (a : Nat) : Key := ⟨0x7E000007 + a * 0x100, 0⟩
/-- ACC_REFUSALS, U32, RO (R233, spec/07_point_service_and_delivery_classes.md). -/
def Oid.ACC_REFUSALS (a : Nat) : Key := ⟨0x7E000008 + a * 0x100, 0⟩
/-- CAN_MODE, U8, RWP (R299, spec/08_can_channels.md). -/
def Oid.CAN_MODE (c : Nat) : Key := ⟨0x01300000 + c * 0x100, 0⟩
/-- CAN_NBR, U32, RWP (R299, spec/08_can_channels.md). -/
def Oid.CAN_NBR (c : Nat) : Key := ⟨0x01300001 + c * 0x100, 500000⟩
/-- CAN_DBR, U32, RWP (R299, spec/08_can_channels.md). -/
def Oid.CAN_DBR (c : Nat) : Key := ⟨0x01300002 + c * 0x100, 0⟩
/-- CAN_NSP, U16, RWP (R299, spec/08_can_channels.md). -/
def Oid.CAN_NSP (c : Nat) : Key := ⟨0x01300003 + c * 0x100, 800⟩
/-- CAN_DSP, U16, RWP (R299, spec/08_can_channels.md). -/
def Oid.CAN_DSP (c : Nat) : Key := ⟨0x01300004 + c * 0x100, 750⟩
/-- CAN_STATE, U8, RO (R299, spec/08_can_channels.md). -/
def Oid.CAN_STATE (c : Nat) : Key := ⟨0x01300005 + c * 0x100, 0⟩
/-- CAN_TEC, U8, RO (R299, spec/08_can_channels.md). -/
def Oid.CAN_TEC (c : Nat) : Key := ⟨0x01300006 + c * 0x100, 0⟩
/-- CAN_REC, U8, RO (R299, spec/08_can_channels.md). -/
def Oid.CAN_REC (c : Nat) : Key := ⟨0x01300007 + c * 0x100, 0⟩
/-- CAN_BUSOFF_AUTO, BOOL, RWP (R299, spec/08_can_channels.md). -/
def Oid.CAN_BUSOFF_AUTO (c : Nat) : Key := ⟨0x01300008 + c * 0x100, 1⟩
/-- CAN_BUSOFF_REQ, U8, WO (R299, spec/08_can_channels.md). -/
def Oid.CAN_BUSOFF_REQ (c : Nat) : Key := ⟨0x01300009 + c * 0x100, 0⟩
/-- CAN_T_CYCLE, U32, RWP (R299, spec/08_can_channels.md). -/
def Oid.CAN_T_CYCLE (c : Nat) : Key := ⟨0x0130000A + c * 0x100, 10000⟩
/-- CAN_PHASE, U32, RWP (R299, spec/08_can_channels.md). -/
def Oid.CAN_PHASE (c : Nat) : Key := ⟨0x0130000B + c * 0x100, 0⟩
/-- CAN_ROWS, U8, RWP (R299, spec/08_can_channels.md). -/
def Oid.CAN_ROWS (c : Nat) : Key := ⟨0x0130000C + c * 0x100, 1⟩
/-- CAN_REF_ID, U16, RWP (R299, spec/08_can_channels.md). -/
def Oid.CAN_REF_ID (c : Nat) : Key := ⟨0x0130000D + c * 0x100, 1⟩
/-- CAN_COLUMNS, OCTETS, RWP (R299, spec/08_can_channels.md). -/
def Oid.CAN_COLUMNS (c : Nat) : BKey := ⟨0x0130000E + c * 0x100, []⟩
/-- CAN_CYCLE, U8, RO (R299, spec/08_can_channels.md). -/
def Oid.CAN_CYCLE (c : Nat) : Key := ⟨0x0130000F + c * 0x100, 0⟩
/-- CAN_UNMATCHED, U32, RO (R299, spec/08_can_channels.md). -/
def Oid.CAN_UNMATCHED (c : Nat) : Key := ⟨0x01300010 + c * 0x100, 0⟩
/-- CAN_COLLISIONS, U32, RO (R299, spec/08_can_channels.md). -/
def Oid.CAN_COLLISIONS (c : Nat) : Key := ⟨0x01300011 + c * 0x100, 0⟩
/-- CAN_COLL_OWN, OCTETS, RO (R299, spec/08_can_channels.md). -/
def Oid.CAN_COLL_OWN (c : Nat) : BKey := ⟨0x01300012 + c * 0x100, []⟩
/-- CAN_COLL_OTHER, OCTETS, RO (R299, spec/08_can_channels.md). -/
def Oid.CAN_COLL_OTHER (c : Nat) : BKey := ⟨0x01300013 + c * 0x100, []⟩
/-- CAN_DETECT_TABLE, OCTETS, RWP (R299, spec/08_can_channels.md). -/
def Oid.CAN_DETECT_TABLE (c : Nat) : BKey := ⟨0x01300014 + c * 0x100, []⟩
/-- CAN_DETECT_DWELL, U16, RWP (R299, spec/08_can_channels.md). -/
def Oid.CAN_DETECT_DWELL (c : Nat) : Key := ⟨0x01300015 + c * 0x100, 500⟩
/-- CAN_DETECT_RESULT, U8, RO (R299, spec/08_can_channels.md). -/
def Oid.CAN_DETECT_RESULT (c : Nat) : Key := ⟨0x01300016 + c * 0x100, 255⟩
/-- CAN_DETECT_FLAGS, U8, RO (R299, spec/08_can_channels.md). -/
def Oid.CAN_DETECT_FLAGS (c : Nat) : Key := ⟨0x01300017 + c * 0x100, 0⟩
/-- CAN_NMT_MASTER, BOOL, RWP (R299, spec/08_can_channels.md). -/
def Oid.CAN_NMT_MASTER (c : Nat) : Key := ⟨0x01300018 + c * 0x100, 0⟩
/-- ENT_DESC, OCTETS, RWP (R299, spec/08_can_channels.md). -/
def Oid.ENT_DESC (c : Nat) (e : Nat) : BKey := ⟨0x01600000 + c * 0x10000 + e * 0x100, List.replicate 16 0⟩
/-- ENT_STATE, U8, RO (R299, spec/08_can_channels.md). -/
def Oid.ENT_STATE (c : Nat) (e : Nat) : Key := ⟨0x01600001 + c * 0x10000 + e * 0x100, 0⟩
/-- ENT_MISSED, U32, RO (R299, spec/08_can_channels.md). -/
def Oid.ENT_MISSED (c : Nat) (e : Nat) : Key := ⟨0x01600002 + c * 0x10000 + e * 0x100, 0⟩
/-- ENT_CONFLICTS, U32, RO (R299, spec/08_can_channels.md). -/
def Oid.ENT_CONFLICTS (c : Nat) (e : Nat) : Key := ⟨0x01600003 + c * 0x10000 + e * 0x100, 0⟩
/-- ENT_ACK, U8, WO (R299, spec/08_can_channels.md). -/
def Oid.ENT_ACK (c : Nat) (e : Nat) : Key := ⟨0x01600004 + c * 0x10000 + e * 0x100, 0⟩
/-- RXB, OCTETS, RO (R299, spec/08_can_channels.md). -/
def Oid.RXB (c : Nat) (b : Nat) : BKey := ⟨0x01700000 + c * 0x10000 + b * 0x100, []⟩
/-- RXB_STATUS, U32, RO (R299, spec/08_can_channels.md). -/
def Oid.RXB_STATUS (c : Nat) (b : Nat) : Key := ⟨0x01700001 + c * 0x10000 + b * 0x100, 0⟩
/-- RXB_ID, U32, RO (R299, spec/08_can_channels.md). -/
def Oid.RXB_ID (c : Nat) (b : Nat) : Key := ⟨0x01700002 + c * 0x10000 + b * 0x100, 0⟩
/-- RXB_TIME, TIME64, RO (R299, spec/08_can_channels.md). -/
def Oid.RXB_TIME (c : Nat) (b : Nat) : Key := ⟨0x01700003 + c * 0x10000 + b * 0x100, 0⟩
/-- RXB_DATA, OCTETS, RO (R299, spec/08_can_channels.md). -/
def Oid.RXB_DATA (c : Nat) (b : Nat) : BKey := ⟨0x01700004 + c * 0x10000 + b * 0x100, []⟩
/-- RXB_FILTER, U64, RWP (R299, spec/08_can_channels.md). -/
def Oid.RXB_FILTER (c : Nat) (b : Nat) : Key := ⟨0x01700005 + c * 0x10000 + b * 0x100, 0⟩
/-- RXB_ACK, U8, WO (R299, spec/08_can_channels.md). -/
def Oid.RXB_ACK (c : Nat) (b : Nat) : Key := ⟨0x01700006 + c * 0x10000 + b * 0x100, 0⟩
/-- TXB_DATA, OCTETS, RWP (R299, spec/08_can_channels.md). -/
def Oid.TXB_DATA (c : Nat) (t : Nat) : BKey := ⟨0x01780000 + c * 0x10000 + t * 0x100, []⟩
/-- TXB_ID, U32, RWP (R299, spec/08_can_channels.md). -/
def Oid.TXB_ID (c : Nat) (t : Nat) : Key := ⟨0x01780001 + c * 0x10000 + t * 0x100, 0⟩
/-- TXB_FRAME, U8, RWP (R299, spec/08_can_channels.md). -/
def Oid.TXB_FRAME (c : Nat) (t : Nat) : Key := ⟨0x01780002 + c * 0x10000 + t * 0x100, 0⟩
/-- TXB_CTRL, U8, WO (R299, spec/08_can_channels.md). -/
def Oid.TXB_CTRL (c : Nat) (t : Nat) : Key := ⟨0x01780003 + c * 0x10000 + t * 0x100, 0⟩
/-- TXB_STATUS, U8, RO (R299, spec/08_can_channels.md). -/
def Oid.TXB_STATUS (c : Nat) (t : Nat) : Key := ⟨0x01780004 + c * 0x10000 + t * 0x100, 0⟩
/-- TXB_TIME, TIME64, RO (R299, spec/08_can_channels.md). -/
def Oid.TXB_TIME (c : Nat) (t : Nat) : Key := ⟨0x01780005 + c * 0x10000 + t * 0x100, 0⟩
/-- MAP_DESC, OCTETS, RWP (R299, spec/08_can_channels.md). -/
def Oid.MAP_DESC (h : Nat) : BKey := ⟨0x01800000 + h * 0x100, List.replicate 8 0⟩
/-- ENC_POS, I32, RO (R337, spec/09_car_position_and_speed.md). -/
def Oid.ENC_POS (n : Nat) : Key := ⟨0x10010000 + n * 0x1000000, 0⟩
/-- ENC_RAW, I64, RO (R337, spec/09_car_position_and_speed.md). -/
def Oid.ENC_RAW (n : Nat) : Key := ⟨0x10010001 + n * 0x1000000, 0⟩
/-- ENC_NUM, U32, RWP (R337, spec/09_car_position_and_speed.md). -/
def Oid.ENC_NUM (n : Nat) : Key := ⟨0x10010002 + n * 0x1000000, 64⟩
/-- ENC_DEN, U32, RWP (R337, spec/09_car_position_and_speed.md). -/
def Oid.ENC_DEN (n : Nat) : Key := ⟨0x10010003 + n * 0x1000000, 1⟩
/-- ENC_INVERT, BOOL, RWP (R337, spec/09_car_position_and_speed.md). -/
def Oid.ENC_INVERT (n : Nat) : Key := ⟨0x10010004 + n * 0x1000000, 0⟩
/-- ENC_OFFSET, I32, RO (R337, spec/09_car_position_and_speed.md). -/
def Oid.ENC_OFFSET (n : Nat) : Key := ⟨0x10010005 + n * 0x1000000, 0⟩
/-- MIN_EDGE, U16, RWP (R337, spec/09_car_position_and_speed.md). -/
def Oid.MIN_EDGE (n : Nat) : Key := ⟨0x10010006 + n * 0x1000000, 100⟩
/-- EDGE_FAST, U32, RO (R337, spec/09_car_position_and_speed.md). -/
def Oid.EDGE_FAST (n : Nat) : Key := ⟨0x10010007 + n * 0x1000000, 0⟩
/-- EDGE_FAST_LIMIT, U16, RWP (R337, spec/09_car_position_and_speed.md). -/
def Oid.EDGE_FAST_LIMIT (n : Nat) : Key := ⟨0x10010008 + n * 0x1000000, 16⟩
/-- QUAD_ERR, U32, RO (R337, spec/09_car_position_and_speed.md). -/
def Oid.QUAD_ERR (n : Nat) : Key := ⟨0x10010009 + n * 0x1000000, 0⟩
/-- QUAD_ERR_LIMIT, U16, RWP (R337, spec/09_car_position_and_speed.md). -/
def Oid.QUAD_ERR_LIMIT (n : Nat) : Key := ⟨0x1001000A + n * 0x1000000, 4⟩
/-- QUAD_WINDOW, U16, RWP (R337, spec/09_car_position_and_speed.md). -/
def Oid.QUAD_WINDOW (n : Nat) : Key := ⟨0x1001000B + n * 0x1000000, 1000⟩
/-- SPEED, I32, RO (R337, spec/09_car_position_and_speed.md). -/
def Oid.SPEED (n : Nat) : Key := ⟨0x1001000C + n * 0x1000000, 0⟩
/-- SPEED_EDGES, U8, RWP (R337, spec/09_car_position_and_speed.md). -/
def Oid.SPEED_EDGES (n : Nat) : Key := ⟨0x1001000D + n * 0x1000000, 4⟩
/-- ZERO_TIMEOUT, U16, RWP (R337, spec/09_car_position_and_speed.md). -/
def Oid.ZERO_TIMEOUT (n : Nat) : Key := ⟨0x1001000E + n * 0x1000000, 100⟩
/-- POS_STATUS, U16, RO (R337, spec/09_car_position_and_speed.md). -/
def Oid.POS_STATUS (n : Nat) : Key := ⟨0x1001000F + n * 0x1000000, 0⟩
/-- POS_ACK, U8, WO (R337, spec/09_car_position_and_speed.md). -/
def Oid.POS_ACK (n : Nat) : Key := ⟨0x10010010 + n * 0x1000000, 0⟩
/-- Z_POS, I32, RO (R337, spec/09_car_position_and_speed.md). -/
def Oid.Z_POS (n : Nat) : Key := ⟨0x10010011 + n * 0x1000000, 0⟩
/-- Z_COUNT, U32, RO (R337, spec/09_car_position_and_speed.md). -/
def Oid.Z_COUNT (n : Nat) : Key := ⟨0x10010012 + n * 0x1000000, 0⟩
/-- ABS_SOURCE, U8, RWP (R337, spec/09_car_position_and_speed.md). -/
def Oid.ABS_SOURCE (n : Nat) : Key := ⟨0x10010013 + n * 0x1000000, 0⟩
/-- SSI_RATE, U32, RWP (R337, spec/09_car_position_and_speed.md). -/
def Oid.SSI_RATE (n : Nat) : Key := ⟨0x10010014 + n * 0x1000000, 1000000⟩
/-- SSI_BITS, U8, RWP (R337, spec/09_car_position_and_speed.md). -/
def Oid.SSI_BITS (n : Nat) : Key := ⟨0x10010015 + n * 0x1000000, 25⟩
/-- SSI_FORMAT, U8, RWP (R337, spec/09_car_position_and_speed.md). -/
def Oid.SSI_FORMAT (n : Nat) : Key := ⟨0x10010016 + n * 0x1000000, 1⟩
/-- SSI_PERIOD, U16, RWP (R337, spec/09_car_position_and_speed.md). -/
def Oid.SSI_PERIOD (n : Nat) : Key := ⟨0x10010017 + n * 0x1000000, 1000⟩
/-- SSI_DELAY_NS, U32, RO (R337, spec/09_car_position_and_speed.md). -/
def Oid.SSI_DELAY_NS (n : Nat) : Key := ⟨0x10010018 + n * 0x1000000, 0⟩
/-- ABS_CAN_MAP, U16, RWP (R337, spec/09_car_position_and_speed.md). -/
def Oid.ABS_CAN_MAP (n : Nat) : Key := ⟨0x10010019 + n * 0x1000000, 0⟩
/-- ABS_CAN_LAT, U32, RWP (R337, spec/09_car_position_and_speed.md). -/
def Oid.ABS_CAN_LAT (n : Nat) : Key := ⟨0x1001001A + n * 0x1000000, 0⟩
/-- ABS_RAW, U32, RO (R337, spec/09_car_position_and_speed.md). -/
def Oid.ABS_RAW (n : Nat) : Key := ⟨0x1001001B + n * 0x1000000, 0⟩
/-- ABS_NUM, I32, RWP (R337, spec/09_car_position_and_speed.md). -/
def Oid.ABS_NUM (n : Nat) : Key := ⟨0x1001001C + n * 0x1000000, 1⟩
/-- ABS_DEN, U32, RWP (R337, spec/09_car_position_and_speed.md). -/
def Oid.ABS_DEN (n : Nat) : Key := ⟨0x1001001D + n * 0x1000000, 1⟩
/-- ABS_OFFSET, I32, RWP (R337, spec/09_car_position_and_speed.md). -/
def Oid.ABS_OFFSET (n : Nat) : Key := ⟨0x1001001E + n * 0x1000000, 0⟩
/-- ABS_POS, I32, RO (R337, spec/09_car_position_and_speed.md). -/
def Oid.ABS_POS (n : Nat) : Key := ⟨0x1001001F + n * 0x1000000, 0⟩
/-- ABS_TIME, TIME64, RO (R337, spec/09_car_position_and_speed.md). -/
def Oid.ABS_TIME (n : Nat) : Key := ⟨0x10010020 + n * 0x1000000, 0⟩
/-- ABS_JUMP_LIMIT, U32, RWP (R337, spec/09_car_position_and_speed.md). -/
def Oid.ABS_JUMP_LIMIT (n : Nat) : Key := ⟨0x10010021 + n * 0x1000000, 640⟩
/-- SLIP, I32, RO (R337, spec/09_car_position_and_speed.md). -/
def Oid.SLIP (n : Nat) : Key := ⟨0x10010022 + n * 0x1000000, 0⟩
/-- SLIP_LIMIT, U32, RWP (R337, spec/09_car_position_and_speed.md). -/
def Oid.SLIP_LIMIT (n : Nat) : Key := ⟨0x10010023 + n * 0x1000000, 6400⟩
/-- SLIP_TIME, U16, RWP (R337, spec/09_car_position_and_speed.md). -/
def Oid.SLIP_TIME (n : Nat) : Key := ⟨0x10010024 + n * 0x1000000, 200⟩
/-- CAR_INPUTS, U16, RO (R337, spec/09_car_position_and_speed.md). -/
def Oid.CAR_INPUTS (n : Nat) : Key := ⟨0x10010025 + n * 0x1000000, 0⟩
/-- PROBE_SEL, U8, RWP (R337, spec/09_car_position_and_speed.md). -/
def Oid.PROBE_SEL (n : Nat) : Key := ⟨0x10010026 + n * 0x1000000, 4⟩
/-- PROBE_POS, I32, RO (R337, spec/09_car_position_and_speed.md). -/
def Oid.PROBE_POS (n : Nat) : Key := ⟨0x10010027 + n * 0x1000000, 0⟩
/-- PROBE_TIME, TIME64, RO (R337, spec/09_car_position_and_speed.md). -/
def Oid.PROBE_TIME (n : Nat) : Key := ⟨0x10010028 + n * 0x1000000, 0⟩
/-- PROBE_HOLDOFF, U32, RWP (R337, spec/09_car_position_and_speed.md). -/
def Oid.PROBE_HOLDOFF (n : Nat) : Key := ⟨0x10010029 + n * 0x1000000, 640⟩
/-- PROBE_WINDOW, U32, RWP (R337, spec/09_car_position_and_speed.md). -/
def Oid.PROBE_WINDOW (n : Nat) : Key := ⟨0x1001002A + n * 0x1000000, 6400⟩
/-- PROBE_CORR_LIMIT, U32, RWP (R337, spec/09_car_position_and_speed.md). -/
def Oid.PROBE_CORR_LIMIT (n : Nat) : Key := ⟨0x1001002B + n * 0x1000000, 1280⟩
/-- PROBE_CORR, I32, RO (R337, spec/09_car_position_and_speed.md). -/
def Oid.PROBE_CORR (n : Nat) : Key := ⟨0x1001002C + n * 0x1000000, 0⟩
/-- PROBE_LANDING, U8, RO (R337, spec/09_car_position_and_speed.md). -/
def Oid.PROBE_LANDING (n : Nat) : Key := ⟨0x1001002D + n * 0x1000000, 0⟩
/-- PROBE_MISS, U32, RO (R337, spec/09_car_position_and_speed.md). -/
def Oid.PROBE_MISS (n : Nat) : Key := ⟨0x1001002E + n * 0x1000000, 0⟩
/-- REF_LANDING, U8, WO (R337, spec/09_car_position_and_speed.md). -/
def Oid.REF_LANDING (n : Nat) : Key := ⟨0x1001002F + n * 0x1000000, 0⟩
/-- LANDINGS, U16, RWP (R337, spec/09_car_position_and_speed.md). -/
def Oid.LANDINGS (n : Nat) : Key := ⟨0x10010030 + n * 0x1000000, 2⟩
/-- LEARN, U8, RW (R337, spec/09_car_position_and_speed.md). -/
def Oid.LEARN (n : Nat) : Key := ⟨0x10010031 + n * 0x1000000, 0⟩
/-- LEARN_COUNT, U16, RO (R337, spec/09_car_position_and_speed.md). -/
def Oid.LEARN_COUNT (n : Nat) : Key := ⟨0x10010032 + n * 0x1000000, 0⟩
/-- PT_MODE, U8, RWP (R337, spec/09_car_position_and_speed.md). -/
def Oid.PT_MODE (n : Nat) : Key := ⟨0x10010033 + n * 0x1000000, 0⟩
/-- CMP_POS, I32, RWP (R337, spec/09_car_position_and_speed.md). -/
def Oid.CMP_POS (n : Nat) (k : Nat) : Key := ⟨0x10011000 + n * 0x1000000 + k * 0x100, 0⟩
/-- CMP_MODE, U8, RWP (R337, spec/09_car_position_and_speed.md). -/
def Oid.CMP_MODE (n : Nat) (k : Nat) : Key := ⟨0x10011001 + n * 0x1000000 + k * 0x100, 3⟩
/-- CMP_TARGET, U32, RWP (R337, spec/09_car_position_and_speed.md). -/
def Oid.CMP_TARGET (n : Nat) (k : Nat) : Key := ⟨0x10011002 + n * 0x1000000 + k * 0x100, 0⟩
/-- CMP_VALUE, U64, RWP (R337, spec/09_car_position_and_speed.md). -/
def Oid.CMP_VALUE (n : Nat) (k : Nat) : Key := ⟨0x10011003 + n * 0x1000000 + k * 0x100, 0⟩
/-- CMP_FIELD, U8, RWP (R337, spec/09_car_position_and_speed.md). -/
def Oid.CMP_FIELD (n : Nat) (k : Nat) : Key := ⟨0x10011004 + n * 0x1000000 + k * 0x100, 255⟩
/-- CMP_ARM, U8, RWP (R337, spec/09_car_position_and_speed.md). -/
def Oid.CMP_ARM (n : Nat) (k : Nat) : Key := ⟨0x10011005 + n * 0x1000000 + k * 0x100, 0⟩
/-- CMP_STATE, U8, RO (R337, spec/09_car_position_and_speed.md). -/
def Oid.CMP_STATE (n : Nat) (k : Nat) : Key := ⟨0x10011006 + n * 0x1000000 + k * 0x100, 0⟩
/-- CMP_LATCH_POS, I32, RO (R337, spec/09_car_position_and_speed.md). -/
def Oid.CMP_LATCH_POS (n : Nat) (k : Nat) : Key := ⟨0x10011007 + n * 0x1000000 + k * 0x100, 0⟩
/-- CMP_LATCH_TIME, TIME64, RO (R337, spec/09_car_position_and_speed.md). -/
def Oid.CMP_LATCH_TIME (n : Nat) (k : Nat) : Key := ⟨0x10011008 + n * 0x1000000 + k * 0x100, 0⟩
/-- LAND_PROBE_UP, I32, RWP (R337, spec/09_car_position_and_speed.md). -/
def Oid.LAND_PROBE_UP (n : Nat) (L : Nat) : Key := ⟨0x10020000 + n * 0x1000000 + L * 0x100, 0⟩
/-- LAND_PROBE_DN, I32, RWP (R337, spec/09_car_position_and_speed.md). -/
def Oid.LAND_PROBE_DN (n : Nat) (L : Nat) : Key := ⟨0x10020001 + n * 0x1000000 + L * 0x100, 0⟩
/-- DOOR_ENABLE, BOOL, RWP (R374, spec/10_door_link_and_door_drive.md). -/
def Oid.DOOR_ENABLE (k : Nat) : Key := ⟨0x20000100 + k * 0x10000, 0⟩
/-- DOOR_CABLE_M, U16, RWP (R374, spec/10_door_link_and_door_drive.md). -/
def Oid.DOOR_CABLE_M (k : Nat) : Key := ⟨0x20000101 + k * 0x10000, 100⟩
/-- DOOR_VBUS_MV, U32, RWP (R374, spec/10_door_link_and_door_drive.md). -/
def Oid.DOOR_VBUS_MV (k : Nat) : Key := ⟨0x20000102 + k * 0x10000, 48000⟩
/-- DOOR_LPH_UH, U32, RWP (R374, spec/10_door_link_and_door_drive.md). -/
def Oid.DOOR_LPH_UH (k : Nat) : Key := ⟨0x20000103 + k * 0x10000, 1000⟩
/-- DOOR_BAND_MA, U16, RWP (R374, spec/10_door_link_and_door_drive.md). -/
def Oid.DOOR_BAND_MA (k : Nat) : Key := ⟨0x20000104 + k * 0x10000, 200⟩
/-- DOOR_OVS_LIMIT, U16, RWP (R374, spec/10_door_link_and_door_drive.md). -/
def Oid.DOOR_OVS_LIMIT (k : Nat) : Key := ⟨0x20000105 + k * 0x10000, 800⟩
/-- DOOR_I_MAX, U16, RWP (R374, spec/10_door_link_and_door_drive.md). -/
def Oid.DOOR_I_MAX (k : Nat) : Key := ⟨0x20000106 + k * 0x10000, 5000⟩
/-- DOOR_LIM_RUN, U16, RWP (R374, spec/10_door_link_and_door_drive.md). -/
def Oid.DOOR_LIM_RUN (k : Nat) : Key := ⟨0x20000107 + k * 0x10000, 7000⟩
/-- DOOR_LIM_HOLD, U16, RWP (R374, spec/10_door_link_and_door_drive.md). -/
def Oid.DOOR_LIM_HOLD (k : Nat) : Key := ⟨0x20000108 + k * 0x10000, 3000⟩
/-- DOOR_WIDTH, U32, RWL (R374, spec/10_door_link_and_door_drive.md). -/
def Oid.DOOR_WIDTH (k : Nat) : Key := ⟨0x20000109 + k * 0x10000, 2200⟩
/-- DOOR_SCALE, FIX32, RWL (R374, spec/10_door_link_and_door_drive.md). -/
def Oid.DOOR_SCALE (k : Nat) : Key := ⟨0x2000010A + k * 0x10000, 32768⟩
/-- DOOR_MASS, FIX32, RWL (R374, spec/10_door_link_and_door_drive.md). -/
def Oid.DOOR_MASS (k : Nat) : Key := ⟨0x2000010B + k * 0x10000, 6553600⟩
/-- DOOR_KF, FIX32, RWL (R374, spec/10_door_link_and_door_drive.md). -/
def Oid.DOOR_KF (k : Nat) : Key := ⟨0x2000010C + k * 0x10000, 1310720⟩
/-- DOOR_F_FRIC, FIX32, RWL (R374, spec/10_door_link_and_door_drive.md). -/
def Oid.DOOR_F_FRIC (k : Nat) : Key := ⟨0x2000010D + k * 0x10000, 0⟩
/-- DOOR_V_OPEN, U16, RWL (R374, spec/10_door_link_and_door_drive.md). -/
def Oid.DOOR_V_OPEN (k : Nat) : Key := ⟨0x20000110 + k * 0x10000, 500⟩
/-- DOOR_V_CLOSE, U16, RWL (R374, spec/10_door_link_and_door_drive.md). -/
def Oid.DOOR_V_CLOSE (k : Nat) : Key := ⟨0x20000111 + k * 0x10000, 300⟩
/-- DOOR_V_NUDGE, U16, RWL (R374, spec/10_door_link_and_door_drive.md). -/
def Oid.DOOR_V_NUDGE (k : Nat) : Key := ⟨0x20000112 + k * 0x10000, 150⟩
/-- DOOR_ACCEL, U16, RWL (R374, spec/10_door_link_and_door_drive.md). -/
def Oid.DOOR_ACCEL (k : Nat) : Key := ⟨0x20000113 + k * 0x10000, 1000⟩
/-- DOOR_V_REOPEN, U16, RWL (R374, spec/10_door_link_and_door_drive.md). -/
def Oid.DOOR_V_REOPEN (k : Nat) : Key := ⟨0x20000114 + k * 0x10000, 500⟩
/-- DOOR_A_REOPEN, U16, RWL (R374, spec/10_door_link_and_door_drive.md). -/
def Oid.DOOR_A_REOPEN (k : Nat) : Key := ⟨0x20000115 + k * 0x10000, 2000⟩
/-- DOOR_F_LIMIT, FIX32, RWL (R374, spec/10_door_link_and_door_drive.md). -/
def Oid.DOOR_F_LIMIT (k : Nat) : Key := ⟨0x20000116 + k * 0x10000, 9830400⟩
/-- DOOR_F_OBS, FIX32, RWL (R374, spec/10_door_link_and_door_drive.md). -/
def Oid.DOOR_F_OBS (k : Nat) : Key := ⟨0x20000117 + k * 0x10000, 7864320⟩
/-- DOOR_OBS_TIME, U16, RWL (R374, spec/10_door_link_and_door_drive.md). -/
def Oid.DOOR_OBS_TIME (k : Nat) : Key := ⟨0x20000118 + k * 0x10000, 20⟩
/-- DOOR_OBS_FE, U32, RWL (R374, spec/10_door_link_and_door_drive.md). -/
def Oid.DOOR_OBS_FE (k : Nat) : Key := ⟨0x20000119 + k * 0x10000, 40⟩
/-- DOOR_OBS_FE_TIME, U16, RWL (R374, spec/10_door_link_and_door_drive.md). -/
def Oid.DOOR_OBS_FE_TIME (k : Nat) : Key := ⟨0x2000011A + k * 0x10000, 50⟩
/-- DOOR_CLOSED_WIN, U32, RWL (R374, spec/10_door_link_and_door_drive.md). -/
def Oid.DOOR_CLOSED_WIN (k : Nat) : Key := ⟨0x2000011B + k * 0x10000, 20⟩
/-- DOOR_STATE, U8, RO (R374, spec/10_door_link_and_door_drive.md). -/
def Oid.DOOR_STATE (k : Nat) : Key := ⟨0x20000200 + k * 0x10000, 0⟩
/-- DL_STATUS, U16, RO (R374, spec/10_door_link_and_door_drive.md). -/
def Oid.DL_STATUS (k : Nat) : Key := ⟨0x20000201 + k * 0x10000, 0⟩
/-- DOOR_POS, I32, RO (R374, spec/10_door_link_and_door_drive.md). -/
def Oid.DOOR_POS (k : Nat) : Key := ⟨0x20000202 + k * 0x10000, 0⟩
/-- DOOR_SPEED, I32, RO (R374, spec/10_door_link_and_door_drive.md). -/
def Oid.DOOR_SPEED (k : Nat) : Key := ⟨0x20000203 + k * 0x10000, 0⟩
/-- DOOR_FORCE, FIX32, RO (R374, spec/10_door_link_and_door_drive.md). -/
def Oid.DOOR_FORCE (k : Nat) : Key := ⟨0x20000204 + k * 0x10000, 0⟩
/-- DOOR_ENERGY, FIX32, RO (R374, spec/10_door_link_and_door_drive.md). -/
def Oid.DOOR_ENERGY (k : Nat) : Key := ⟨0x20000205 + k * 0x10000, 0⟩
/-- DOOR_I_DEM, I32, RO (R374, spec/10_door_link_and_door_drive.md). -/
def Oid.DOOR_I_DEM (k : Nat) : Key := ⟨0x20000206 + k * 0x10000, 0⟩
/-- DOOR_I_U, DOOR_I_V, DOOR_I_W, I16, RO (R374, spec/10_door_link_and_door_drive.md). -/
def Oid.DOOR_I_PH (k : Nat) (r : Nat) : Key := ⟨0x20000207 + k * 0x10000 + r, 0⟩
/-- DL_VBUS_MV, U32, RO (R374, spec/10_door_link_and_door_drive.md). -/
def Oid.DL_VBUS_MV (k : Nat) : Key := ⟨0x2000020A + k * 0x10000, 0⟩
/-- DL_TEMP, I16, RO (R374, spec/10_door_link_and_door_drive.md). -/
def Oid.DL_TEMP (k : Nat) : Key := ⟨0x2000020B + k * 0x10000, 0⟩
/-- DL_DELAY_NS, U32, RO (R374, spec/10_door_link_and_door_drive.md). -/
def Oid.DL_DELAY_NS (k : Nat) : Key := ⟨0x2000020C + k * 0x10000, 0⟩
/-- DL_LAT_NS, U32, RO (R374, spec/10_door_link_and_door_drive.md). -/
def Oid.DL_LAT_NS (k : Nat) : Key := ⟨0x2000020D + k * 0x10000, 0⟩
/-- DL_OVS_MA, U32, RO (R374, spec/10_door_link_and_door_drive.md). -/
def Oid.DL_OVS_MA (k : Nat) : Key := ⟨0x2000020E + k * 0x10000, 0⟩
/-- DL_EQ, U16, RO (R374, spec/10_door_link_and_door_drive.md). -/
def Oid.DL_EQ (k : Nat) : Key := ⟨0x2000020F + k * 0x10000, 0⟩
/-- DL_BAD, U32, RO (R374, spec/10_door_link_and_door_drive.md). -/
def Oid.DL_BAD (k : Nat) : Key := ⟨0x20000210 + k * 0x10000, 0⟩
/-- DL_HOLDS, U32, RO (R374, spec/10_door_link_and_door_drive.md). -/
def Oid.DL_HOLDS (k : Nat) : Key := ⟨0x20000211 + k * 0x10000, 0⟩
/-- DOOR_OBS_COUNT, U32, RO (R374, spec/10_door_link_and_door_drive.md). -/
def Oid.DOOR_OBS_COUNT (k : Nat) : Key := ⟨0x20000212 + k * 0x10000, 0⟩
/-- STAGE_IDENT, OCTETS, RO (R374, spec/10_door_link_and_door_drive.md). -/
def Oid.STAGE_IDENT (k : Nat) : BKey := ⟨0x20000213 + k * 0x10000, List.replicate 32 0⟩
/-- DL_LT_RESULT, OCTETS, RO (R374, spec/10_door_link_and_door_drive.md). -/
def Oid.DL_LT_RESULT (k : Nat) : BKey := ⟨0x20000214 + k * 0x10000, List.replicate 16 0⟩
/-- DL_LT_REQ, U8, WO (R374, spec/10_door_link_and_door_drive.md). -/
def Oid.DL_LT_REQ (k : Nat) : Key := ⟨0x20000300 + k * 0x10000, 0⟩
/-- DL_ACK, U8, WO (R374, spec/10_door_link_and_door_drive.md). -/
def Oid.DL_ACK (k : Nat) : Key := ⟨0x20000301 + k * 0x10000, 0⟩
/-- DL_RETRAIN, U8, WO (R374, spec/10_door_link_and_door_drive.md). -/
def Oid.DL_RETRAIN (k : Nat) : Key := ⟨0x20000302 + k * 0x10000, 0⟩
/-- CE_MISSES, U32, RO (R408, spec/11_control_engine.md). -/
def Oid.CE_MISSES : Key := ⟨0x400000C0, 0⟩
/-- CE_TRIPS, U32, RO (R408, spec/11_control_engine.md). -/
def Oid.CE_TRIPS : Key := ⟨0x400000C1, 0⟩
/-- CE_SLOW_LAG, U32, RO (R408, spec/11_control_engine.md). -/
def Oid.CE_SLOW_LAG : Key := ⟨0x400000C2, 0⟩
/-- GRP_MEMBERS, OCTETS, RWL (R408, spec/11_control_engine.md). -/
def Oid.CGRP_MEMBERS (g : Nat) : BKey := ⟨0x400000C0 + g * 0x100, []⟩
/-- GRP_TARGET, U32, RWL (R408, spec/11_control_engine.md). -/
def Oid.CGRP_TARGET (g : Nat) : Key := ⟨0x400000C1 + g * 0x100, 0⟩
/-- GRP_PRIO, U8, RWL (R408, spec/11_control_engine.md). -/
def Oid.CGRP_PRIO (g : Nat) : Key := ⟨0x400000C2 + g * 0x100, 16⟩
/-- GRP_MARGIN, FIX32, RWL (R408, spec/11_control_engine.md). -/
def Oid.CGRP_MARGIN (g : Nat) : Key := ⟨0x400000C3 + g * 0x100, 0⟩
/-- GRP_OUT, FIX32, RO (R408, spec/11_control_engine.md). -/
def Oid.CGRP_OUT (g : Nat) : Key := ⟨0x400000C4 + g * 0x100, 0⟩
/-- GRP_WINNER, U8, RO (R408, spec/11_control_engine.md). -/
def Oid.CGRP_WINNER (g : Nat) : Key := ⟨0x400000C5 + g * 0x100, 0⟩
/-- GRP_CHANGES, U32, RO (R408, spec/11_control_engine.md). -/
def Oid.CGRP_CHANGES (g : Nat) : Key := ⟨0x400000C6 + g * 0x100, 0⟩
/-- LOOP_ENABLE, BOOL, RWP (R409, spec/11_control_engine.md). -/
def Oid.LOOP_ENABLE (j : Nat) (c : Nat) : Key := ⟨0x40000000 + j * 0x100 + c * 0x40, 0⟩
/-- LOOP_LAW, U8, RWL (R409, spec/11_control_engine.md). -/
def Oid.LOOP_LAW (j : Nat) (c : Nat) : Key := ⟨0x40000001 + j * 0x100 + c * 0x40, 0⟩
/-- LOOP_MODE, U8, RO (R409, spec/11_control_engine.md). -/
def Oid.LOOP_MODE (j : Nat) (c : Nat) : Key := ⟨0x40000002 + j * 0x100 + c * 0x40, 0⟩
/-- LOOP_CMD, U8, WO (R409, spec/11_control_engine.md). -/
def Oid.LOOP_CMD (j : Nat) (c : Nat) : Key := ⟨0x40000003 + j * 0x100 + c * 0x40, 0⟩
/-- LOOP_STATUS, U16, RO (R409, spec/11_control_engine.md). -/
def Oid.LOOP_STATUS (j : Nat) (c : Nat) : Key := ⟨0x40000004 + j * 0x100 + c * 0x40, 0⟩
/-- LOOP_FLAGS, U8, RW (R409, spec/11_control_engine.md). -/
def Oid.LOOP_FLAGS (j : Nat) (c : Nat) : Key := ⟨0x40000005 + j * 0x100 + c * 0x40, 0⟩
/-- SP_SOURCE, U32, RWL (R409, spec/11_control_engine.md). -/
def Oid.SP_SOURCE (j : Nat) (c : Nat) : Key := ⟨0x40000006 + j * 0x100 + c * 0x40, 0⟩
/-- FB_SOURCE, U32, RWL (R409, spec/11_control_engine.md). -/
def Oid.FB_SOURCE (j : Nat) (c : Nat) : Key := ⟨0x40000007 + j * 0x100 + c * 0x40, 0⟩
/-- OUT_TARGET, U32, RWL (R409, spec/11_control_engine.md). -/
def Oid.OUT_TARGET (j : Nat) (c : Nat) : Key := ⟨0x40000008 + j * 0x100 + c * 0x40, 0⟩
/-- OUT_PRIO, U8, RWL (R409, spec/11_control_engine.md). -/
def Oid.OUT_PRIO (j : Nat) (c : Nat) : Key := ⟨0x40000009 + j * 0x100 + c * 0x40, 16⟩
/-- LOOP_SP, FIX32, RW (R409, spec/11_control_engine.md). -/
def Oid.LOOP_SP (j : Nat) (c : Nat) : Key := ⟨0x4000000A + j * 0x100 + c * 0x40, 0⟩
/-- SP_RATE, FIX32, RWL (R409, spec/11_control_engine.md). -/
def Oid.SP_RATE (j : Nat) (c : Nat) : Key := ⟨0x4000000B + j * 0x100 + c * 0x40, 0⟩
/-- SP_EFF, FIX32, RO (R409, spec/11_control_engine.md). -/
def Oid.SP_EFF (j : Nat) (c : Nat) : Key := ⟨0x4000000C + j * 0x100 + c * 0x40, 0⟩
/-- FB, FIX32, RO (R409, spec/11_control_engine.md). -/
def Oid.FB (j : Nat) (c : Nat) : Key := ⟨0x4000000D + j * 0x100 + c * 0x40, 0⟩
/-- ERR, FIX32, RO (R409, spec/11_control_engine.md). -/
def Oid.ERR (j : Nat) (c : Nat) : Key := ⟨0x4000000E + j * 0x100 + c * 0x40, 0⟩
/-- OUT, FIX32, RO (R409, spec/11_control_engine.md). -/
def Oid.OUT (j : Nat) (c : Nat) : Key := ⟨0x4000000F + j * 0x100 + c * 0x40, 0⟩
/-- MANUAL, FIX32, RW (R409, spec/11_control_engine.md). -/
def Oid.MANUAL (j : Nat) (c : Nat) : Key := ⟨0x40000010 + j * 0x100 + c * 0x40, 0⟩
/-- TRIP_OUT, FIX32, RWL (R409, spec/11_control_engine.md). -/
def Oid.TRIP_OUT (j : Nat) (c : Nat) : Key := ⟨0x40000011 + j * 0x100 + c * 0x40, 0⟩
/-- BAND, FIX32, RWL (R409, spec/11_control_engine.md). -/
def Oid.BAND (j : Nat) (c : Nat) : Key := ⟨0x40000012 + j * 0x100 + c * 0x40, 65536⟩
/-- ACTION, U8, RWL (R409, spec/11_control_engine.md). -/
def Oid.ACTION (j : Nat) (c : Nat) : Key := ⟨0x40000013 + j * 0x100 + c * 0x40, 0⟩
/-- OUT_MIN, FIX32, RWL (R409, spec/11_control_engine.md). -/
def Oid.OUT_MIN (j : Nat) (c : Nat) : Key := ⟨0x40000014 + j * 0x100 + c * 0x40, 0⟩
/-- OUT_MAX, FIX32, RWL (R409, spec/11_control_engine.md). -/
def Oid.OUT_MAX (j : Nat) (c : Nat) : Key := ⟨0x40000015 + j * 0x100 + c * 0x40, 6553600⟩
/-- RATE_UP, FIX32, RWL (R409, spec/11_control_engine.md). -/
def Oid.RATE_UP (j : Nat) (c : Nat) : Key := ⟨0x40000016 + j * 0x100 + c * 0x40, 65536⟩
/-- RATE_DN, FIX32, RWL (R409, spec/11_control_engine.md). -/
def Oid.RATE_DN (j : Nat) (c : Nat) : Key := ⟨0x40000017 + j * 0x100 + c * 0x40, 65536⟩
/-- MIN_ON, U16, RWL (R409, spec/11_control_engine.md). -/
def Oid.MIN_ON (j : Nat) (c : Nat) : Key := ⟨0x40000018 + j * 0x100 + c * 0x40, 0⟩
/-- MIN_OFF, U16, RWL (R409, spec/11_control_engine.md). -/
def Oid.MIN_OFF (j : Nat) (c : Nat) : Key := ⟨0x40000019 + j * 0x100 + c * 0x40, 0⟩
/-- H2_SAT_TIME, U16, RWL (R409, spec/11_control_engine.md). -/
def Oid.H2_SAT_TIME (j : Nat) (c : Nat) : Key := ⟨0x4000001A + j * 0x100 + c * 0x40, 0⟩
/-- FE_LIMIT, FIX32, RWL (R409, spec/11_control_engine.md). -/
def Oid.FE_LIMIT (j : Nat) (c : Nat) : Key := ⟨0x4000001B + j * 0x100 + c * 0x40, 655360⟩
/-- FE_TIME, U16, RWL (R409, spec/11_control_engine.md). -/
def Oid.FE_TIME (j : Nat) (c : Nat) : Key := ⟨0x4000001C + j * 0x100 + c * 0x40, 100⟩
/-- MODEL_K, FIX32, RWL (R409, spec/11_control_engine.md). -/
def Oid.MODEL_K (j : Nat) (c : Nat) : Key := ⟨0x4000001D + j * 0x100 + c * 0x40, 0⟩
/-- MODEL_TAU, FIX32, RWL (R409, spec/11_control_engine.md). -/
def Oid.MODEL_TAU (j : Nat) (c : Nat) : Key := ⟨0x4000001E + j * 0x100 + c * 0x40, 65536⟩
/-- MODEL_DEAD, U8, RWL (R409, spec/11_control_engine.md). -/
def Oid.MODEL_DEAD (j : Nat) (c : Nat) : Key := ⟨0x4000001F + j * 0x100 + c * 0x40, 0⟩
/-- PL_LIMIT, FIX32, RWL (R409, spec/11_control_engine.md). -/
def Oid.PL_LIMIT (j : Nat) (c : Nat) : Key := ⟨0x40000020 + j * 0x100 + c * 0x40, 655360⟩
/-- PL_TIME, U16, RWL (R409, spec/11_control_engine.md). -/
def Oid.PL_TIME (j : Nat) (c : Nat) : Key := ⟨0x40000021 + j * 0x100 + c * 0x40, 100⟩
/-- MISS_TRIP, U8, RWL (R409, spec/11_control_engine.md). -/
def Oid.MISS_TRIP (j : Nat) (c : Nat) : Key := ⟨0x40000022 + j * 0x100 + c * 0x40, 3⟩
/-- MISS_COUNT, U32, RO (R409, spec/11_control_engine.md). -/
def Oid.MISS_COUNT (j : Nat) (c : Nat) : Key := ⟨0x40000023 + j * 0x100 + c * 0x40, 0⟩
/-- TRIP_COUNT, U32, RO (R409, spec/11_control_engine.md). -/
def Oid.TRIP_COUNT (j : Nat) (c : Nat) : Key := ⟨0x40000024 + j * 0x100 + c * 0x40, 0⟩
/-- TRIP_CAUSE, U8, RO (R409, spec/11_control_engine.md). -/
def Oid.TRIP_CAUSE (j : Nat) (c : Nat) : Key := ⟨0x40000025 + j * 0x100 + c * 0x40, 0⟩
/-- LOOP_GROUP, U16, RO (R409, spec/11_control_engine.md). -/
def Oid.LOOP_GROUP (j : Nat) (c : Nat) : Key := ⟨0x40000026 + j * 0x100 + c * 0x40, 0⟩
/-- PL_RESID, FIX32, RO (R409, spec/11_control_engine.md). -/
def Oid.PL_RESID (j : Nat) (c : Nat) : Key := ⟨0x40000027 + j * 0x100 + c * 0x40, 0⟩
/-- AUTO_CLOSE, BOOL, RW (R409, spec/11_control_engine.md). -/
def Oid.AUTO_CLOSE (j : Nat) (c : Nat) : Key := ⟨0x40000028 + j * 0x100 + c * 0x40, 0⟩
/-- SLOW_PERIOD, U16, RWL (R409, spec/11_control_engine.md). -/
def Oid.SLOW_PERIOD (j : Nat) (c : Nat) : Key := ⟨0x40000029 + j * 0x100 + c * 0x40, 1000⟩
/-- SLOW_PHASE, U16, RWL (R409, spec/11_control_engine.md). -/
def Oid.SLOW_PHASE (j : Nat) (c : Nat) : Key := ⟨0x4000002A + j * 0x100 + c * 0x40, 0⟩
/-- LAND_DOORS, U8, RWP (R450, spec/12_dispatch_and_car_supervision.md). -/
def Oid.LAND_DOORS (n : Nat) (L : Nat) : Key := ⟨0x10020002 + n * 0x1000000 + L * 0x100, 1⟩
/-- CAR_STATE, U8, RO (R450, spec/12_dispatch_and_car_supervision.md). -/
def Oid.CAR_STATE (n : Nat) : Key := ⟨0x10030000 + n * 0x1000000, 0⟩
/-- CAR_OPER, U8, RO (R450, spec/12_dispatch_and_car_supervision.md). -/
def Oid.CAR_OPER (n : Nat) : Key := ⟨0x10030001 + n * 0x1000000, 0⟩
/-- CAR_CMD, U8, RWP (R450, spec/12_dispatch_and_car_supervision.md). -/
def Oid.CAR_CMD (n : Nat) : Key := ⟨0x10030002 + n * 0x1000000, 0⟩
/-- CAR_FAULT, U32, RO (R450, spec/12_dispatch_and_car_supervision.md). -/
def Oid.CAR_FAULT (n : Nat) : Key := ⟨0x10030003 + n * 0x1000000, 0⟩
/-- CAR_FAULT_ACK, U8, WO (R450, spec/12_dispatch_and_car_supervision.md). -/
def Oid.CAR_FAULT_ACK (n : Nat) : Key := ⟨0x10030004 + n * 0x1000000, 0⟩
/-- CAR_PERMIT, BOOL, RO (R450, spec/12_dispatch_and_car_supervision.md). -/
def Oid.CAR_PERMIT (n : Nat) : Key := ⟨0x10030005 + n * 0x1000000, 0⟩
/-- CAR_GROUP, U8, RWP (R450, spec/12_dispatch_and_car_supervision.md). -/
def Oid.CAR_GROUP (n : Nat) : Key := ⟨0x10030006 + n * 0x1000000, 255⟩
/-- CAR_LANDING, U8, RO (R450, spec/12_dispatch_and_car_supervision.md). -/
def Oid.CAR_LANDING (n : Nat) : Key := ⟨0x10030007 + n * 0x1000000, 0⟩
/-- CAR_TARGET, U8, RO (R450, spec/12_dispatch_and_car_supervision.md). -/
def Oid.CAR_TARGET (n : Nat) : Key := ⟨0x10030008 + n * 0x1000000, 0⟩
/-- CAR_QUEUE, OCTETS, RO (R450, spec/12_dispatch_and_car_supervision.md). -/
def Oid.CAR_QUEUE (n : Nat) : BKey := ⟨0x10030009 + n * 0x1000000, []⟩
/-- CAR_LOAD_SRC, U32, RWP (R450, spec/12_dispatch_and_car_supervision.md). -/
def Oid.CAR_LOAD_SRC (n : Nat) : Key := ⟨0x1003000A + n * 0x1000000, 0⟩
/-- CAR_LOAD, FIX32, RO (R450, spec/12_dispatch_and_car_supervision.md). -/
def Oid.CAR_LOAD (n : Nat) : Key := ⟨0x1003000B + n * 0x1000000, 0⟩
/-- CAR_RATED_LOAD, U16, RWP (R450, spec/12_dispatch_and_car_supervision.md). -/
def Oid.CAR_RATED_LOAD (n : Nat) : Key := ⟨0x1003000C + n * 0x1000000, 1000⟩
/-- CAR_LOAD_FULL, U8, RWP (R450, spec/12_dispatch_and_car_supervision.md). -/
def Oid.CAR_LOAD_FULL (n : Nat) : Key := ⟨0x1003000D + n * 0x1000000, 80⟩
/-- CAR_LOAD_EMPTY, U16, RWP (R450, spec/12_dispatch_and_car_supervision.md). -/
def Oid.CAR_LOAD_EMPTY (n : Nat) : Key := ⟨0x1003000E + n * 0x1000000, 40⟩
/-- CAR_V_RATED, U32, RWP (R450, spec/12_dispatch_and_car_supervision.md). -/
def Oid.CAR_V_RATED (n : Nat) : Key := ⟨0x1003000F + n * 0x1000000, 100000⟩
/-- CAR_ACCEL, U16, RWP (R450, spec/12_dispatch_and_car_supervision.md). -/
def Oid.CAR_ACCEL (n : Nat) : Key := ⟨0x10030010 + n * 0x1000000, 800⟩
/-- CAR_JERK, U16, RWP (R450, spec/12_dispatch_and_car_supervision.md). -/
def Oid.CAR_JERK (n : Nat) : Key := ⟨0x10030011 + n * 0x1000000, 1000⟩
/-- CAR_V_LEVEL, U32, RWP (R450, spec/12_dispatch_and_car_supervision.md). -/
def Oid.CAR_V_LEVEL (n : Nat) : Key := ⟨0x10030012 + n * 0x1000000, 5000⟩
/-- CAR_V_PREOPEN, U32, RWP (R450, spec/12_dispatch_and_car_supervision.md). -/
def Oid.CAR_V_PREOPEN (n : Nat) : Key := ⟨0x10030013 + n * 0x1000000, 50000⟩
/-- CAR_V_RELEVEL, U32, RWP (R450, spec/12_dispatch_and_car_supervision.md). -/
def Oid.CAR_V_RELEVEL (n : Nat) : Key := ⟨0x10030014 + n * 0x1000000, 10000⟩
/-- CAR_V_REF, U32, RWP (R450, spec/12_dispatch_and_car_supervision.md). -/
def Oid.CAR_V_REF (n : Nat) : Key := ⟨0x10030015 + n * 0x1000000, 30000⟩
/-- CAR_V_INSP, U32, RWP (R450, spec/12_dispatch_and_car_supervision.md). -/
def Oid.CAR_V_INSP (n : Nat) : Key := ⟨0x10030016 + n * 0x1000000, 30000⟩
/-- CAR_V_RESCUE, U32, RWP (R450, spec/12_dispatch_and_car_supervision.md). -/
def Oid.CAR_V_RESCUE (n : Nat) : Key := ⟨0x10030017 + n * 0x1000000, 30000⟩
/-- CAR_LEVEL_WIN, U32, RWP (R450, spec/12_dispatch_and_car_supervision.md). -/
def Oid.CAR_LEVEL_WIN (n : Nat) : Key := ⟨0x10030018 + n * 0x1000000, 640⟩
/-- CAR_RELEVEL_WIN, U32, RWP (R450, spec/12_dispatch_and_car_supervision.md). -/
def Oid.CAR_RELEVEL_WIN (n : Nat) : Key := ⟨0x10030019 + n * 0x1000000, 1280⟩
/-- CAR_LEVEL_UP, I32, RWP (R450, spec/12_dispatch_and_car_supervision.md). -/
def Oid.CAR_LEVEL_UP (n : Nat) : Key := ⟨0x1003001A + n * 0x1000000, 0⟩
/-- CAR_LEVEL_DN, I32, RWP (R450, spec/12_dispatch_and_car_supervision.md). -/
def Oid.CAR_LEVEL_DN (n : Nat) : Key := ⟨0x1003001B + n * 0x1000000, 0⟩
/-- CAR_PREOPEN, BOOL, RWP (R450, spec/12_dispatch_and_car_supervision.md). -/
def Oid.CAR_PREOPEN (n : Nat) : Key := ⟨0x1003001C + n * 0x1000000, 0⟩
/-- CAR_PREOPEN_DIST, U32, RWP (R450, spec/12_dispatch_and_car_supervision.md). -/
def Oid.CAR_PREOPEN_DIST (n : Nat) : Key := ⟨0x1003001D + n * 0x1000000, 12800⟩
/-- CAR_LEVEL_START, U32, RWP (R450, spec/12_dispatch_and_car_supervision.md). -/
def Oid.CAR_LEVEL_START (n : Nat) : Key := ⟨0x1003001E + n * 0x1000000, 6400⟩
/-- CAR_OVERTRAVEL, U32, RWP (R450, spec/12_dispatch_and_car_supervision.md). -/
def Oid.CAR_OVERTRAVEL (n : Nat) : Key := ⟨0x1003001F + n * 0x1000000, 3200⟩
/-- CAR_START_TIME, U16, RWP (R450, spec/12_dispatch_and_car_supervision.md). -/
def Oid.CAR_START_TIME (n : Nat) : Key := ⟨0x10030020 + n * 0x1000000, 3000⟩
/-- CAR_DWELL, U16, RWP (R450, spec/12_dispatch_and_car_supervision.md). -/
def Oid.CAR_DWELL (n : Nat) : Key := ⟨0x10030021 + n * 0x1000000, 4000⟩
/-- CAR_NUDGE_TIME, U16, RWP (R450, spec/12_dispatch_and_car_supervision.md). -/
def Oid.CAR_NUDGE_TIME (n : Nat) : Key := ⟨0x10030022 + n * 0x1000000, 30⟩
/-- CAR_STOP_TIME, U16, RWP (R450, spec/12_dispatch_and_car_supervision.md). -/
def Oid.CAR_STOP_TIME (n : Nat) : Key := ⟨0x10030023 + n * 0x1000000, 10000⟩
/-- CAR_FE_LIMIT, FIX32, RWP (R450, spec/12_dispatch_and_car_supervision.md). -/
def Oid.CAR_FE_LIMIT (n : Nat) : Key := ⟨0x10030024 + n * 0x1000000, 19661⟩
/-- CAR_FE_TIME, U16, RWP (R450, spec/12_dispatch_and_car_supervision.md). -/
def Oid.CAR_FE_TIME (n : Nat) : Key := ⟨0x10030025 + n * 0x1000000, 200⟩
/-- CAR_MODEL_TAU, FIX32, RWP (R450, spec/12_dispatch_and_car_supervision.md). -/
def Oid.CAR_MODEL_TAU (n : Nat) : Key := ⟨0x10030026 + n * 0x1000000, 6553600⟩
/-- CAR_MODEL_DEAD, U8, RWP (R450, spec/12_dispatch_and_car_supervision.md). -/
def Oid.CAR_MODEL_DEAD (n : Nat) : Key := ⟨0x10030027 + n * 0x1000000, 10⟩
/-- CAR_PL_LIMIT, FIX32, RWP (R450, spec/12_dispatch_and_car_supervision.md). -/
def Oid.CAR_PL_LIMIT (n : Nat) : Key := ⟨0x10030028 + n * 0x1000000, 32768⟩
/-- CAR_PL_TIME, U16, RWP (R450, spec/12_dispatch_and_car_supervision.md). -/
def Oid.CAR_PL_TIME (n : Nat) : Key := ⟨0x10030029 + n * 0x1000000, 300⟩
/-- CAR_PROF_SPEED, FIX32, RO (R450, spec/12_dispatch_and_car_supervision.md). -/
def Oid.CAR_PROF_SPEED (n : Nat) : Key := ⟨0x1003002A + n * 0x1000000, 0⟩
/-- CAR_SPEED_MS, FIX32, RO (R450, spec/12_dispatch_and_car_supervision.md). -/
def Oid.CAR_SPEED_MS (n : Nat) : Key := ⟨0x1003002B + n * 0x1000000, 0⟩
/-- CAR_DRV_CTRL, U16, RO (R450, spec/12_dispatch_and_car_supervision.md). -/
def Oid.CAR_DRV_CTRL (n : Nat) : Key := ⟨0x1003002C + n * 0x1000000, 0⟩
/-- CAR_DRV_TARGET, I32, RO (R450, spec/12_dispatch_and_car_supervision.md). -/
def Oid.CAR_DRV_TARGET (n : Nat) : Key := ⟨0x1003002D + n * 0x1000000, 0⟩
/-- CAR_DRV_STATUS, U16, RO (R450, spec/12_dispatch_and_car_supervision.md). -/
def Oid.CAR_DRV_STATUS (n : Nat) : Key := ⟨0x1003002E + n * 0x1000000, 0⟩
/-- CAR_STOP, BOOL, RO (R450, spec/12_dispatch_and_car_supervision.md). -/
def Oid.CAR_STOP (n : Nat) : Key := ⟨0x1003002F + n * 0x1000000, 0⟩
/-- CAR_P_RATED, U32, RWP (R450, spec/12_dispatch_and_car_supervision.md). -/
def Oid.CAR_P_RATED (n : Nat) : Key := ⟨0x10030030 + n * 0x1000000, 30000⟩
/-- CAR_EP_LANDING, U8, RWP (R450, spec/12_dispatch_and_car_supervision.md). -/
def Oid.CAR_EP_LANDING (n : Nat) : Key := ⟨0x10030031 + n * 0x1000000, 0⟩
/-- CAR_FF, BOOL, RWP (R450, spec/12_dispatch_and_car_supervision.md). -/
def Oid.CAR_FF (n : Nat) : Key := ⟨0x10030032 + n * 0x1000000, 0⟩
/-- CAR_FF_CAR_SW, U32, RWP (R450, spec/12_dispatch_and_car_supervision.md). -/
def Oid.CAR_FF_CAR_SW (n : Nat) : Key := ⟨0x10030033 + n * 0x1000000, 0⟩
/-- CAR_FF_OPEN, U32, RWP (R450, spec/12_dispatch_and_car_supervision.md). -/
def Oid.CAR_FF_OPEN (n : Nat) : Key := ⟨0x10030034 + n * 0x1000000, 0⟩
/-- CAR_FF_CLOSE, U32, RWP (R450, spec/12_dispatch_and_car_supervision.md). -/
def Oid.CAR_FF_CLOSE (n : Nat) : Key := ⟨0x10030035 + n * 0x1000000, 0⟩
/-- CAR_INSP_SRC, U32, RWP (R450, spec/12_dispatch_and_car_supervision.md). -/
def Oid.CAR_INSP_SRC (n : Nat) : Key := ⟨0x10030036 + n * 0x1000000, 0⟩
/-- CAR_RESCUE_SRC, U32, RWP (R450, spec/12_dispatch_and_car_supervision.md). -/
def Oid.CAR_RESCUE_SRC (n : Nat) : Key := ⟨0x10030037 + n * 0x1000000, 0⟩
/-- CAR_INSP_UP, U32, RWP (R450, spec/12_dispatch_and_car_supervision.md). -/
def Oid.CAR_INSP_UP (n : Nat) : Key := ⟨0x10030038 + n * 0x1000000, 0⟩
/-- CAR_INSP_DN, U32, RWP (R450, spec/12_dispatch_and_car_supervision.md). -/
def Oid.CAR_INSP_DN (n : Nat) : Key := ⟨0x10030039 + n * 0x1000000, 0⟩
/-- CAR_BOTTOM_SRC, U32, RWP (R450, spec/12_dispatch_and_car_supervision.md). -/
def Oid.CAR_BOTTOM_SRC (n : Nat) : Key := ⟨0x1003003A + n * 0x1000000, 0⟩
/-- CAR_REF_TIME, U16, RWP (R450, spec/12_dispatch_and_car_supervision.md). -/
def Oid.CAR_REF_TIME (n : Nat) : Key := ⟨0x1003003B + n * 0x1000000, 120⟩
/-- CAR_CC_BASE, U32, RWP (R450, spec/12_dispatch_and_car_supervision.md). -/
def Oid.CAR_CC_BASE (n : Nat) : Key := ⟨0x1003003C + n * 0x1000000, 4294967295⟩
/-- CAR_CL_BASE, U32, RWP (R450, spec/12_dispatch_and_car_supervision.md). -/
def Oid.CAR_CL_BASE (n : Nat) : Key := ⟨0x1003003D + n * 0x1000000, 4294967295⟩
/-- GRP_MODE, U8, RWP (R451, spec/12_dispatch_and_car_supervision.md). -/
def Oid.GRP_MODE (g : Nat) : Key := ⟨0x100F0000 + g * 0x100, 0⟩
/-- GRP_DT_LANDINGS, OCTETS, RWP (R451, spec/12_dispatch_and_car_supervision.md). -/
def Oid.GRP_DT_LANDINGS (g : Nat) : BKey := ⟨0x100F0001 + g * 0x100, List.replicate 32 0⟩
/-- GRP_HC_BASE, U32, RWP (R451, spec/12_dispatch_and_car_supervision.md). -/
def Oid.GRP_HC_BASE (g : Nat) : Key := ⟨0x100F0002 + g * 0x100, 4294967295⟩
/-- GRP_HL_BASE, U32, RWP (R451, spec/12_dispatch_and_car_supervision.md). -/
def Oid.GRP_HL_BASE (g : Nat) : Key := ⟨0x100F0003 + g * 0x100, 4294967295⟩
/-- GRP_DT_RX, OCTETS, RWP (R451, spec/12_dispatch_and_car_supervision.md). -/
def Oid.GRP_DT_RX (g : Nat) : BKey := ⟨0x100F0004 + g * 0x100, []⟩
/-- GRP_DT_TX, OCTETS, RWP (R451, spec/12_dispatch_and_car_supervision.md). -/
def Oid.GRP_DT_TX (g : Nat) : BKey := ⟨0x100F0005 + g * 0x100, []⟩
/-- GRP_W_WAIT, FIX32, RWP (R451, spec/12_dispatch_and_car_supervision.md). -/
def Oid.GRP_W_WAIT (g : Nat) : Key := ⟨0x100F0006 + g * 0x100, 65536⟩
/-- GRP_W_RIDE, FIX32, RWP (R451, spec/12_dispatch_and_car_supervision.md). -/
def Oid.GRP_W_RIDE (g : Nat) : Key := ⟨0x100F0007 + g * 0x100, 32768⟩
/-- GRP_W_ENERGY, FIX32, RWP (R451, spec/12_dispatch_and_car_supervision.md). -/
def Oid.GRP_W_ENERGY (g : Nat) : Key := ⟨0x100F0008 + g * 0x100, 0⟩
/-- GRP_FF_SW, U32, RWP (R451, spec/12_dispatch_and_car_supervision.md). -/
def Oid.GRP_FF_SW (g : Nat) : Key := ⟨0x100F0009 + g * 0x100, 0⟩
/-- GRP_FF_LANDING, U8, RWP (R451, spec/12_dispatch_and_car_supervision.md). -/
def Oid.GRP_FF_LANDING (g : Nat) : Key := ⟨0x100F000A + g * 0x100, 0⟩
/-- GRP_ASSIGN_LAT, U32, RO (R451, spec/12_dispatch_and_car_supervision.md). -/
def Oid.GRP_ASSIGN_LAT (g : Nat) : Key := ⟨0x100F000B + g * 0x100, 0⟩
/-- EP_SRC, U32, RWP (R451, spec/12_dispatch_and_car_supervision.md). -/
def Oid.EP_SRC : Key := ⟨0x100F1000, 0⟩
/-- EP_ACTIVE, BOOL, RO (R451, spec/12_dispatch_and_car_supervision.md). -/
def Oid.EP_ACTIVE : Key := ⟨0x100F1001, 0⟩
/-- EP_BUDGET, U32, RWP (R451, spec/12_dispatch_and_car_supervision.md). -/
def Oid.EP_BUDGET : Key := ⟨0x100F1002, 0⟩
/-- EP_CREDIT, U8, RWP (R451, spec/12_dispatch_and_car_supervision.md). -/
def Oid.EP_CREDIT : Key := ⟨0x100F1003, 50⟩
/-- EP_SERVICE_CARS, U8, RWP (R451, spec/12_dispatch_and_car_supervision.md). -/
def Oid.EP_SERVICE_CARS : Key := ⟨0x100F1004, 0⟩
/-- EP_RETURN_TIME, U16, RWP (R451, spec/12_dispatch_and_car_supervision.md). -/
def Oid.EP_RETURN_TIME : Key := ⟨0x100F1005, 30⟩
/-- EP_PREDICTED, U32, RO (R451, spec/12_dispatch_and_car_supervision.md). -/
def Oid.EP_PREDICTED : Key := ⟨0x100F1006, 0⟩
/-- EP_MEASURED, U32, RO (R451, spec/12_dispatch_and_car_supervision.md). -/
def Oid.EP_MEASURED : Key := ⟨0x100F1007, 0⟩
/-- MET_FNOM, U8, RWP (R481, spec/13_metering_front_end.md). -/
def Oid.MET_FNOM : Key := ⟨0x50000000, 50⟩
/-- MET_PLL_SRC, OCTETS, RWP (R481, spec/13_metering_front_end.md). -/
def Oid.MET_PLL_SRC : BKey := ⟨0x50000001, []⟩
/-- MET_PLL_STATE, U8, RO (R481, spec/13_metering_front_end.md). -/
def Oid.MET_PLL_STATE : Key := ⟨0x50000002, 0⟩
/-- MET_PLL_CH, U8, RO (R481, spec/13_metering_front_end.md). -/
def Oid.MET_PLL_CH : Key := ⟨0x50000003, 255⟩
/-- MET_FREQ, REAL32, RO (R481, spec/13_metering_front_end.md). -/
def Oid.MET_FREQ : Key := ⟨0x50000004, 0⟩
/-- MET_CAL_INTERVAL, U16, RWP (R481, spec/13_metering_front_end.md). -/
def Oid.MET_CAL_INTERVAL : Key := ⟨0x50000005, 168⟩
/-- MET_CHECK_ENABLE, BOOL, RWP (R481, spec/13_metering_front_end.md). -/
def Oid.MET_CHECK_ENABLE : Key := ⟨0x50000006, 1⟩
/-- VCH_ENABLE, BOOL, RWP (R481, spec/13_metering_front_end.md). -/
def Oid.VCH_ENABLE (v : Nat) : Key := ⟨0x50010000 + v * 0x100, 0⟩
/-- VCH_SCALE, REAL32, RWP (R481, spec/13_metering_front_end.md). -/
def Oid.VCH_SCALE (v : Nat) : Key := ⟨0x50010001 + v * 0x100, 1065353216⟩
/-- VCH_GAIN, FIX32, RWP (R481, spec/13_metering_front_end.md). -/
def Oid.VCH_GAIN (v : Nat) : Key := ⟨0x50010002 + v * 0x100, 65536⟩
/-- VCH_PHASE, FIX32, RWP (R481, spec/13_metering_front_end.md). -/
def Oid.VCH_PHASE (v : Nat) : Key := ⟨0x50010003 + v * 0x100, 0⟩
/-- VCH_STATUS, U8, RO (R481, spec/13_metering_front_end.md). -/
def Oid.VCH_STATUS (v : Nat) : Key := ⟨0x50010004 + v * 0x100, 0⟩
/-- VCH_RMS, REAL32, RO (R481, spec/13_metering_front_end.md). -/
def Oid.VCH_RMS (v : Nat) : Key := ⟨0x50010005 + v * 0x100, 0⟩
/-- VCH_V1, REAL32, RO (R481, spec/13_metering_front_end.md). -/
def Oid.VCH_V1 (v : Nat) : Key := ⟨0x50010006 + v * 0x100, 0⟩
/-- VCH_THD, REAL32, RO (R481, spec/13_metering_front_end.md). -/
def Oid.VCH_THD (v : Nat) : Key := ⟨0x50010007 + v * 0x100, 0⟩
/-- CH_SENSOR, U8, RWP (R481, spec/13_metering_front_end.md). -/
def Oid.CH_SENSOR (c : Nat) : Key := ⟨0x50020000 + c * 0x100, 0⟩
/-- CH_VREF, U8, RWP (R481, spec/13_metering_front_end.md). -/
def Oid.CH_VREF (c : Nat) : Key := ⟨0x50020001 + c * 0x100, 0⟩
/-- CH_SCALE, REAL32, RWP (R481, spec/13_metering_front_end.md). -/
def Oid.CH_SCALE (c : Nat) : Key := ⟨0x50020002 + c * 0x100, 1065353216⟩
/-- CH_IN, U32, RWP (R481, spec/13_metering_front_end.md). -/
def Oid.CH_IN (c : Nat) : Key := ⟨0x50020003 + c * 0x100, 1000⟩
/-- CH_CREEP, U16, RWP (R481, spec/13_metering_front_end.md). -/
def Oid.CH_CREEP (c : Nat) : Key := ⟨0x50020004 + c * 0x100, 400⟩
/-- CH_CORR, OCTETS, RWP (R481, spec/13_metering_front_end.md). -/
def Oid.CH_CORR (c : Nat) : BKey := ⟨0x50020005 + c * 0x100, []⟩
/-- CH_CAR, U8, RWP (R481, spec/13_metering_front_end.md). -/
def Oid.CH_CAR (c : Nat) : Key := ⟨0x50020006 + c * 0x100, 255⟩
/-- CH_BS_DELAY, U32, RWP (R481, spec/13_metering_front_end.md). -/
def Oid.CH_BS_DELAY (c : Nat) : Key := ⟨0x50020007 + c * 0x100, 0⟩
/-- CH_STATUS, U16, RO (R481, spec/13_metering_front_end.md). -/
def Oid.CH_STATUS (c : Nat) : Key := ⟨0x50020008 + c * 0x100, 0⟩
/-- CH_IRMS, REAL32, RO (R481, spec/13_metering_front_end.md). -/
def Oid.CH_IRMS (c : Nat) : Key := ⟨0x50020009 + c * 0x100, 0⟩
/-- CH_I1, REAL32, RO (R481, spec/13_metering_front_end.md). -/
def Oid.CH_I1 (c : Nat) : Key := ⟨0x5002000A + c * 0x100, 0⟩
/-- CH_P, REAL32, RO (R481, spec/13_metering_front_end.md). -/
def Oid.CH_P (c : Nat) : Key := ⟨0x5002000B + c * 0x100, 0⟩
/-- CH_P1, REAL32, RO (R481, spec/13_metering_front_end.md). -/
def Oid.CH_P1 (c : Nat) : Key := ⟨0x5002000C + c * 0x100, 0⟩
/-- CH_Q1, REAL32, RO (R481, spec/13_metering_front_end.md). -/
def Oid.CH_Q1 (c : Nat) : Key := ⟨0x5002000D + c * 0x100, 0⟩
/-- CH_S, REAL32, RO (R481, spec/13_metering_front_end.md). -/
def Oid.CH_S (c : Nat) : Key := ⟨0x5002000E + c * 0x100, 0⟩
/-- CH_THD, REAL32, RO (R481, spec/13_metering_front_end.md). -/
def Oid.CH_THD (c : Nat) : Key := ⟨0x5002000F + c * 0x100, 0⟩
/-- CH_SEG_GAIN, FIX32, RO (R481, spec/13_metering_front_end.md). -/
def Oid.CH_SEG_GAIN (c : Nat) : Key := ⟨0x50020010 + c * 0x100, 65536⟩
/-- CH_SEG_PHASE, FIX32, RO (R481, spec/13_metering_front_end.md). -/
def Oid.CH_SEG_PHASE (c : Nat) : Key := ⟨0x50020011 + c * 0x100, 0⟩
/-- CH_ADC_GAIN, FIX32, RO (R481, spec/13_metering_front_end.md). -/
def Oid.CH_ADC_GAIN (c : Nat) : Key := ⟨0x50020012 + c * 0x100, 65536⟩
/-- CH_ADC_PHASE, FIX32, RO (R481, spec/13_metering_front_end.md). -/
def Oid.CH_ADC_PHASE (c : Nat) : Key := ⟨0x50020013 + c * 0x100, 0⟩
/-- CH_CAL_TIME, TIME64, RO (R481, spec/13_metering_front_end.md). -/
def Oid.CH_CAL_TIME (c : Nat) : Key := ⟨0x50020014 + c * 0x100, 0⟩
/-- CH_PROD_START, U16, CONST (R481, spec/13_metering_front_end.md). -/
def Oid.CH_PROD_START (c : Nat) : Key := ⟨0x50020015 + c * 0x100, 0⟩
/-- MI_STATE, U8, RO (R481, spec/13_metering_front_end.md). -/
def Oid.MI_STATE (i : Nat) : Key := ⟨0x50030000 + i * 0x100, 0⟩
/-- MI_SHADOW, U8, RO (R481, spec/13_metering_front_end.md). -/
def Oid.MI_SHADOW (i : Nat) : Key := ⟨0x50030001 + i * 0x100, 255⟩
/-- MI_CAL_REQ, U8, WO (R481, spec/13_metering_front_end.md). -/
def Oid.MI_CAL_REQ (i : Nat) : Key := ⟨0x50030002 + i * 0x100, 0⟩
/-- MI_CAL_ABORT, U8, WO (R481, spec/13_metering_front_end.md). -/
def Oid.MI_CAL_ABORT (i : Nat) : Key := ⟨0x50030003 + i * 0x100, 0⟩
/-- MI_CAL_QUEUE, OCTETS, RO (R481, spec/13_metering_front_end.md). -/
def Oid.MI_CAL_QUEUE (i : Nat) : BKey := ⟨0x50030004 + i * 0x100, []⟩
/-- MI_CAL_RESULT, U8, RO (R481, spec/13_metering_front_end.md). -/
def Oid.MI_CAL_RESULT (i : Nat) : Key := ⟨0x50030005 + i * 0x100, 0⟩
/-- BSG_FREQ, U32, RO (R481, spec/13_metering_front_end.md). -/
def Oid.BSG_FREQ (k : Nat) : Key := ⟨0x50030400 + k * 0x100, 0⟩
/-- BSG_STATE, U8, RO (R481, spec/13_metering_front_end.md). -/
def Oid.BSG_STATE (k : Nat) : Key := ⟨0x50030401 + k * 0x100, 0⟩
/-- REG, U64, RO (R512, spec/14_energy_registers_pulses_and_saves.md). -/
def Oid.REG (c : Nat) (r : Nat) : Key := ⟨0x50040000 + c * 0x100 + r, 0⟩
/-- CH_REG_FLAGS, U16, RO (R512, spec/14_energy_registers_pulses_and_saves.md). -/
def Oid.CH_REG_FLAGS (c : Nat) : Key := ⟨0x50040010 + c * 0x100, 0⟩
/-- CH_REG_CLEAR, U8, WO (R512, spec/14_energy_registers_pulses_and_saves.md). -/
def Oid.CH_REG_CLEAR (c : Nat) : Key := ⟨0x50040011 + c * 0x100, 0⟩
/-- PO_SRC, U16, RWP (R512, spec/14_energy_registers_pulses_and_saves.md). -/
def Oid.PO_SRC (x : Nat) : Key := ⟨0x50050000 + x * 0x100, 65535⟩
/-- PO_CONST, U64, RWP (R512, spec/14_energy_registers_pulses_and_saves.md). -/
def Oid.PO_CONST (x : Nat) : Key := ⟨0x50050001 + x * 0x100, 1048576⟩
/-- PO_FIELD, U8, RWP (R512, spec/14_energy_registers_pulses_and_saves.md). -/
def Oid.PO_FIELD (x : Nat) : Key := ⟨0x50050002 + x * 0x100, 255⟩
/-- PO_WIDTH, U32, RWP (R512, spec/14_energy_registers_pulses_and_saves.md). -/
def Oid.PO_WIDTH (x : Nat) : Key := ⟨0x50050003 + x * 0x100, 10000⟩
/-- PO_RESIDUE, U64, RO (R512, spec/14_energy_registers_pulses_and_saves.md). -/
def Oid.PO_RESIDUE (x : Nat) : Key := ⟨0x50050004 + x * 0x100, 0⟩
/-- PO_COUNT, U32, RO (R512, spec/14_energy_registers_pulses_and_saves.md). -/
def Oid.PO_COUNT (x : Nat) : Key := ⟨0x50050005 + x * 0x100, 0⟩
/-- PO_OWED, U16, RO (R512, spec/14_energy_registers_pulses_and_saves.md). -/
def Oid.PO_OWED (x : Nat) : Key := ⟨0x50050006 + x * 0x100, 0⟩
/-- PO_STATUS, U8, RO (R512, spec/14_energy_registers_pulses_and_saves.md). -/
def Oid.PO_STATUS (x : Nat) : Key := ⟨0x50050007 + x * 0x100, 0⟩
/-- INT_LEN, U8, RWP (R512, spec/14_energy_registers_pulses_and_saves.md). -/
def Oid.INT_LEN : Key := ⟨0x50060000, 15⟩
/-- INT_CHANNELS, OCTETS, RWP (R512, spec/14_energy_registers_pulses_and_saves.md). -/
def Oid.INT_CHANNELS : BKey := ⟨0x50060001, List.replicate 8 0⟩
/-- INT_FIRST, U64, RO (R512, spec/14_energy_registers_pulses_and_saves.md). -/
def Oid.INT_FIRST : Key := ⟨0x50060002, 0⟩
/-- INT_LAST, U64, RO (R512, spec/14_energy_registers_pulses_and_saves.md). -/
def Oid.INT_LAST : Key := ⟨0x50060003, 0⟩
/-- INT_SEL, U64, RW (R512, spec/14_energy_registers_pulses_and_saves.md). -/
def Oid.INT_SEL : Key := ⟨0x50060004, 0⟩
/-- INT_DATA, OCTETS, RO (R512, spec/14_energy_registers_pulses_and_saves.md). -/
def Oid.INT_DATA : BKey := ⟨0x50060005, []⟩
/-- SAVE_NUMBER, U64, RO (R512, spec/14_energy_registers_pulses_and_saves.md). -/
def Oid.SAVE_NUMBER : Key := ⟨0x50060010, 0⟩
/-- SAVE_TIME, TIME64, RO (R512, spec/14_energy_registers_pulses_and_saves.md). -/
def Oid.SAVE_TIME : Key := ⟨0x50060011, 0⟩
/-- ENERGY_RESTORE, U8, RO (R512, spec/14_energy_registers_pulses_and_saves.md). -/
def Oid.ENERGY_RESTORE : Key := ⟨0x50060012, 0⟩
/-- ENERGY_ACK, U8, WO (R512, spec/14_energy_registers_pulses_and_saves.md). -/
def Oid.ENERGY_ACK : Key := ⟨0x50060013, 0⟩
/-- LAST_GAP_MS, U32, RO (R512, spec/14_energy_registers_pulses_and_saves.md). -/
def Oid.LAST_GAP_MS : Key := ⟨0x50060014, 0⟩
/-- SAVE_LATE_COUNT, U32, RO (R512, spec/14_energy_registers_pulses_and_saves.md). -/
def Oid.SAVE_LATE_COUNT : Key := ⟨0x50060015, 0⟩
/-- CM_CHANNEL, U8, RO (R512, spec/14_energy_registers_pulses_and_saves.md). -/
def Oid.CM_CHANNEL (n : Nat) : Key := ⟨0x50080000 + n * 0x100, 255⟩
/-- CM_TRIPS_UP, U32, RO (R512, spec/14_energy_registers_pulses_and_saves.md). -/
def Oid.CM_TRIPS_UP (n : Nat) : Key := ⟨0x50080001 + n * 0x100, 0⟩
/-- CM_TRIPS_DN, U32, RO (R512, spec/14_energy_registers_pulses_and_saves.md). -/
def Oid.CM_TRIPS_DN (n : Nat) : Key := ⟨0x50080002 + n * 0x100, 0⟩
/-- CM_VALID, BOOL, RO (R512, spec/14_energy_registers_pulses_and_saves.md). -/
def Oid.CM_VALID (n : Nat) : Key := ⟨0x50080003 + n * 0x100, 0⟩
/-- CM_FORGET, FIX32, RWP (R512, spec/14_energy_registers_pulses_and_saves.md). -/
def Oid.CM_FORGET (n : Nat) : Key := ⟨0x50080004 + n * 0x100, 64881⟩
/-- CM_RESET, U8, WO (R512, spec/14_energy_registers_pulses_and_saves.md). -/
def Oid.CM_RESET (n : Nat) : Key := ⟨0x50080005 + n * 0x100, 0⟩
/-- CM_COEF, OCTETS, RO (R512, spec/14_energy_registers_pulses_and_saves.md). -/
def Oid.CM_COEF (n : Nat) : BKey := ⟨0x50080006 + n * 0x100, List.replicate 128 0⟩
/-- CM_LAST_TRIP, OCTETS, RO (R512, spec/14_energy_registers_pulses_and_saves.md). -/
def Oid.CM_LAST_TRIP (n : Nat) : BKey := ⟨0x50080007 + n * 0x100, List.replicate 44 0⟩
/-- SLA_STATE, U8, RO (R550, spec/15_safety.md). -/
def Oid.SLA_STATE : Key := ⟨0x70000000, 0⟩
/-- SLA_GEN, U32, RO (R550, spec/15_safety.md). -/
def Oid.SLA_GEN : Key := ⟨0x70000001, 0⟩
/-- SLA_CRC, U32, RO (R550, spec/15_safety.md). -/
def Oid.SLA_CRC : Key := ⟨0x70000002, 0⟩
/-- SAFETY_COMMIT, U8, RWS (R550, spec/15_safety.md). -/
def Oid.SAFETY_COMMIT : Key := ⟨0x70000003, 0⟩
/-- SAFETY_PENDING, U16, RO (R550, spec/15_safety.md). -/
def Oid.SAFETY_PENDING : Key := ⟨0x70000004, 0⟩
/-- SAFETY_PW, STRING, RWS (R550, spec/15_safety.md). -/
def Oid.SAFETY_PW : BKey := ⟨0x70000005, []⟩
/-- CFG_ACTIVATE, U8, RWS (R550, spec/15_safety.md). -/
def Oid.CFG_ACTIVATE : Key := ⟨0x70000006, 0⟩
/-- SAFETY_TEST_REQ, U8, RWP (R550, spec/15_safety.md). -/
def Oid.SAFETY_TEST_REQ : Key := ⟨0x70000007, 0⟩
/-- SAFETY_TEST_STATE, U8, RO (R550, spec/15_safety.md). -/
def Oid.SAFETY_TEST_STATE : Key := ⟨0x70000008, 0⟩
/-- SAFETY_TEST_TIME, TIME64, RO (R550, spec/15_safety.md). -/
def Oid.SAFETY_TEST_TIME : Key := ⟨0x70000009, 0⟩
/-- SAFETY_TEST_INTERVAL, U16, RWS (R550, spec/15_safety.md). -/
def Oid.SAFETY_TEST_INTERVAL : Key := ⟨0x7000000A, 24⟩
/-- PW_SET, BOOL, RO (R550, spec/15_safety.md). -/
def Oid.PW_SET : Key := ⟨0x7000000B, 0⟩
/-- SF_STATE, U32, RO (R550, spec/15_safety.md). -/
def Oid.SF_STATE (n : Nat) : Key := ⟨0x70010000 + n * 0x100, 0⟩
/-- SF_RESET, U8, RWS (R550, spec/15_safety.md). -/
def Oid.SF_RESET (n : Nat) : Key := ⟨0x70010001 + n * 0x100, 0⟩
/-- SLA_CAR, OCTETS, RWS (R550, spec/15_safety.md). -/
def Oid.SLA_CAR (n : Nat) : BKey := ⟨0x70010002 + n * 0x100, Config.slaCarReset⟩
/-- SF_V_MAX, U32, RWS (R550, spec/15_safety.md). -/
def Oid.SF_V_MAX (n : Nat) : Key := ⟨0x70010003 + n * 0x100, 115000⟩
/-- SF_UCM_DIST, U32, RWS (R550, spec/15_safety.md). -/
def Oid.SF_UCM_DIST (n : Nat) : Key := ⟨0x70010004 + n * 0x100, 6400⟩
/-- SF_TRIPS, U32, RO (R550, spec/15_safety.md). -/
def Oid.SF_TRIPS (n : Nat) : Key := ⟨0x70010005 + n * 0x100, 0⟩
/-- DST_DESC, OCTETS, RWS (R550, spec/15_safety.md). -/
def Oid.DST_DESC (t : Nat) : BKey := ⟨0x70020000 + t * 0x100, List.replicate 16 0⟩
/-- DST_CHAIN, U8, RWS (R550, spec/15_safety.md). -/
def Oid.DST_CHAIN (t : Nat) : Key := ⟨0x70020001 + t * 0x100, 1⟩
/-- DST_STATE, U8, RO (R550, spec/15_safety.md). -/
def Oid.DST_STATE (t : Nat) : Key := ⟨0x70020002 + t * 0x100, 0⟩
/-- DST_RX_DATA, OCTETS, RO (R550, spec/15_safety.md). -/
def Oid.DST_RX_DATA (t : Nat) : BKey := ⟨0x70020003 + t * 0x100, []⟩
/-- DST_ERRORS, U32, RO (R550, spec/15_safety.md). -/
def Oid.DST_ERRORS (t : Nat) : Key := ⟨0x70020004 + t * 0x100, 0⟩
/-- DST_SEQ, U16, RO (R550, spec/15_safety.md). -/
def Oid.DST_SEQ (t : Nat) : Key := ⟨0x70020005 + t * 0x100, 0⟩
/-- LOG_FIRST, U64, RO (R550, spec/15_safety.md). -/
def Oid.LOG_FIRST : Key := ⟨0x70030000, 0⟩
/-- LOG_LAST, U64, RO (R550, spec/15_safety.md). -/
def Oid.LOG_LAST : Key := ⟨0x70030001, 0⟩
/-- LOG_SEL, U64, RW (R550, spec/15_safety.md). -/
def Oid.LOG_SEL : Key := ⟨0x70030002, 0⟩
/-- LOG_DATA, OCTETS, RO (R550, spec/15_safety.md). -/
def Oid.LOG_DATA : BKey := ⟨0x70030003, []⟩
/-- LOG_ANCHOR, OCTETS, RO (R550, spec/15_safety.md). -/
def Oid.LOG_ANCHOR : BKey := ⟨0x70030004, List.replicate 32 0⟩
/-- TW_MODE, U8, RWP (R593, spec/16_twin_operation.md). -/
def Oid.TW_MODE : Key := ⟨0x78000100, 1⟩
/-- TW_SUMMARY, U8, RO (R593, spec/16_twin_operation.md). -/
def Oid.TW_SUMMARY : Key := ⟨0x78000101, 3⟩
/-- TW_CHECKS, U32, RO (R593, spec/16_twin_operation.md). -/
def Oid.TW_CHECKS : Key := ⟨0x78000102, 0⟩
/-- TW_TWIN_STATE, U8, RO (R593, spec/16_twin_operation.md). -/
def Oid.TW_TWIN_STATE : Key := ⟨0x78000103, 255⟩
/-- TW_TWIN_SUMMARY, U8, RO (R593, spec/16_twin_operation.md). -/
def Oid.TW_TWIN_SUMMARY : Key := ⟨0x78000104, 6⟩
/-- TW_TWIN_CHECKS, U32, RO (R593, spec/16_twin_operation.md). -/
def Oid.TW_TWIN_CHECKS : Key := ⟨0x78000105, 0⟩
/-- TW_TWIN_FW, U32, RO (R593, spec/16_twin_operation.md). -/
def Oid.TW_TWIN_FW : Key := ⟨0x78000106, 0⟩
/-- TW_MIRROR_VER, U16, RO (R593, spec/16_twin_operation.md). -/
def Oid.TW_MIRROR_VER : Key := ⟨0x78000107, 0⟩
/-- TW_GEN, U32, RO (R593, spec/16_twin_operation.md). -/
def Oid.TW_GEN : Key := ⟨0x78000108, 0⟩
/-- TW_CONFIRMED, U32, RO (R593, spec/16_twin_operation.md). -/
def Oid.TW_CONFIRMED : Key := ⟨0x78000109, 0⟩
/-- TW_LANES, U8, RO (R593, spec/16_twin_operation.md). -/
def Oid.TW_LANES : Key := ⟨0x7800010A, 0⟩
/-- TW_RTT_NS, U32, RO (R593, spec/16_twin_operation.md). -/
def Oid.TW_RTT_NS : Key := ⟨0x7800010B, 0⟩
/-- TW_INTERLOCK, U8, RO (R593, spec/16_twin_operation.md). -/
def Oid.TW_INTERLOCK : Key := ⟨0x7800010C, 0⟩
/-- TW_RECOG_NS, U32, RO (R593, spec/16_twin_operation.md). -/
def Oid.TW_RECOG_NS : Key := ⟨0x7800010D, 0⟩
/-- TW_HANDOVERS, U32, RO (R593, spec/16_twin_operation.md). -/
def Oid.TW_HANDOVERS : Key := ⟨0x7800010E, 0⟩
/-- TW_LAST_GAP, U32, RO (R593, spec/16_twin_operation.md). -/
def Oid.TW_LAST_GAP : Key := ⟨0x7800010F, 0⟩
/-- TW_LAST_BOUND, U32, RO (R593, spec/16_twin_operation.md). -/
def Oid.TW_LAST_BOUND : Key := ⟨0x78000110, 0⟩
/-- TW_HELD, OCTETS, RO (R593, spec/16_twin_operation.md). -/
def Oid.TW_HELD : BKey := ⟨0x78000111, List.replicate 16 0⟩
/-- TW_LAST_PASS, OCTETS, RO (R593, spec/16_twin_operation.md). -/
def Oid.TW_LAST_PASS : BKey := ⟨0x78000112, List.replicate 16 0⟩
/-- TW_DIVERGENCES, U32, RO (R593, spec/16_twin_operation.md). -/
def Oid.TW_DIVERGENCES : Key := ⟨0x78000113, 0⟩
/-- TW_RESYNC, U8, RO (R593, spec/16_twin_operation.md). -/
def Oid.TW_RESYNC : Key := ⟨0x78000114, 0⟩
/-- TW_RESYNC_MS, U32, RO (R593, spec/16_twin_operation.md). -/
def Oid.TW_RESYNC_MS : Key := ⟨0x78000115, 0⟩
/-- TW_PULSE_PERIOD, U16, RWP (R593, spec/16_twin_operation.md). -/
def Oid.TW_PULSE_PERIOD : Key := ⟨0x78000116, 10⟩
/-- TW_PAIR_IP, U32, RWP (R593, spec/16_twin_operation.md). -/
def Oid.TW_PAIR_IP (p : Nat) : Key := ⟨0x78000200 + p, 0⟩
/-- TW_PAIR_PREFIX, U8, RWP (R593, spec/16_twin_operation.md). -/
def Oid.TW_PAIR_PREFIX (p : Nat) : Key := ⟨0x78000300 + p, 24⟩
/-- FIO_MODE, U8, RWP (R616, spec/17_field_io.md). -/
def Oid.FIO_MODE (k : Nat) : Key := ⟨0x60000000 + k * 0x100, 0⟩
/-- FIO_OUT, BOOL, RW (R616, spec/17_field_io.md). -/
def Oid.FIO_OUT (k : Nat) : Key := ⟨0x60000001 + k * 0x100, 0⟩
/-- FIO_IN, BOOL, RO (R616, spec/17_field_io.md). -/
def Oid.FIO_IN (k : Nat) : Key := ⟨0x60000002 + k * 0x100, 0⟩
/-- FIO_LEVEL, BOOL, RO (R616, spec/17_field_io.md). -/
def Oid.FIO_LEVEL (k : Nat) : Key := ⟨0x60000003 + k * 0x100, 0⟩
/-- FIO_SAFE, U8, RWP (R616, spec/17_field_io.md). -/
def Oid.FIO_SAFE (k : Nat) : Key := ⟨0x60000004 + k * 0x100, 0⟩
/-- FIO_FILTER, U8, RWP (R616, spec/17_field_io.md). -/
def Oid.FIO_FILTER (k : Nat) : Key := ⟨0x60000005 + k * 0x100, 2⟩
/-- FIO_CONT, BOOL, RWP (R616, spec/17_field_io.md). -/
def Oid.FIO_CONT (k : Nat) : Key := ⟨0x60000006 + k * 0x100, 0⟩
/-- FIO_OWNER, U8, RO (R616, spec/17_field_io.md). -/
def Oid.FIO_OWNER (k : Nat) : Key := ⟨0x60000007 + k * 0x100, 0⟩
/-- FIO_VALID, BOOL, RO (R616, spec/17_field_io.md). -/
def Oid.FIO_VALID (k : Nat) : Key := ⟨0x60000008 + k * 0x100, 0⟩
/-- FIO_CHANGES, U32, RO (R616, spec/17_field_io.md). -/
def Oid.FIO_CHANGES (k : Nat) : Key := ⟨0x60000009 + k * 0x100, 0⟩
/-- FG_STATUS, U8, RO (R616, spec/17_field_io.md). -/
def Oid.FG_STATUS (g : Nat) : Key := ⟨0x60010000 + g * 0x100, 0⟩
/-- FG_ACK, U8, WO (R616, spec/17_field_io.md). -/
def Oid.FG_ACK (g : Nat) : Key := ⟨0x60010001 + g * 0x100, 0⟩
/-- FG_SAMPLE, U16, RWP (R616, spec/17_field_io.md). -/
def Oid.FG_SAMPLE (g : Nat) : Key := ⟨0x60010002 + g * 0x100, 1000⟩
/-- FG_RESTORE, U8, RWP (R616, spec/17_field_io.md). -/
def Oid.FG_RESTORE (g : Nat) : Key := ⟨0x60010003 + g * 0x100, 0⟩
/-- FG_SUPPLY_MV, U16, RO (R616, spec/17_field_io.md). -/
def Oid.FG_SUPPLY_MV (g : Nat) : Key := ⟨0x60010004 + g * 0x100, 0⟩
/-- FG_FAULTS, U32, RO (R616, spec/17_field_io.md). -/
def Oid.FG_FAULTS (g : Nat) : Key := ⟨0x60010005 + g * 0x100, 0⟩
/-- FIO_WD_TIME, U16, RWP (R616, spec/17_field_io.md). -/
def Oid.FIO_WD_TIME : Key := ⟨0x60020000, 100⟩
/-- FIO_WD_STATE, U8, RO (R616, spec/17_field_io.md). -/
def Oid.FIO_WD_STATE : Key := ⟨0x60020001, 1⟩
/-- FIO_WD_EXPIRIES, U32, RO (R616, spec/17_field_io.md). -/
def Oid.FIO_WD_EXPIRIES : Key := ⟨0x60020002, 0⟩
/-- MEM_CE_COUNT, U32, RO (R639, spec/18_memory_integrity_and_identity.md). -/
def Oid.MEM_CE_COUNT : Key := ⟨0x00000600, 0⟩
/-- MEM_DSE_COUNT, U32, RO (R639, spec/18_memory_integrity_and_identity.md). -/
def Oid.MEM_DSE_COUNT : Key := ⟨0x00000601, 0⟩
/-- MEM_LAST_DSE, OCTETS, RO (R639, spec/18_memory_integrity_and_identity.md). -/
def Oid.MEM_LAST_DSE : BKey := ⟨0x00000602, List.replicate 16 0⟩
/-- MRAM_MAX_WRITES, U64, RO (R639, spec/18_memory_integrity_and_identity.md). -/
def Oid.MRAM_MAX_WRITES : Key := ⟨0x00000603, 0⟩
/-- ID_SERIAL, U64, CONST (R639, spec/18_memory_integrity_and_identity.md). -/
def Oid.ID_SERIAL : Key := ⟨0x00000700, 0⟩
/-- ID_PUBKEY, OCTETS, CONST (R639, spec/18_memory_integrity_and_identity.md). -/
def Oid.ID_PUBKEY : BKey := ⟨0x00000701, []⟩
/-- ID_CERT, OCTETS, CONST (R639, spec/18_memory_integrity_and_identity.md). -/
def Oid.ID_CERT : BKey := ⟨0x00000702, []⟩
/-- ID_CSR_SUBJECT, STRING, RWP (R639, spec/18_memory_integrity_and_identity.md). -/
def Oid.ID_CSR_SUBJECT : BKey := ⟨0x00000703, []⟩
/-- ID_CSR, OCTETS, RO (R639, spec/18_memory_integrity_and_identity.md). -/
def Oid.ID_CSR : BKey := ⟨0x00000704, []⟩
/-- OPC_CERT, OCTETS, RWP (R639, spec/18_memory_integrity_and_identity.md). -/
def Oid.OPC_CERT (k : Nat) (q : Nat) : BKey := ⟨0x00001000 + k * 0x100 + q * 0x10, []⟩
/-- OPC_USE, U8, RWP (R639, spec/18_memory_integrity_and_identity.md). -/
def Oid.OPC_USE (k : Nat) (q : Nat) : Key := ⟨0x00001001 + k * 0x100 + q * 0x10, 0⟩
/-- OPC_STATE, U8, RO (R639, spec/18_memory_integrity_and_identity.md). -/
def Oid.OPC_STATE (k : Nat) (q : Nat) : Key := ⟨0x00001002 + k * 0x100 + q * 0x10, 0⟩
/-- FW_TARGET, U8, RWP (R639, spec/18_memory_integrity_and_identity.md). -/
def Oid.FW_TARGET : Key := ⟨0x00000800, 0⟩
/-- FW_LOAD, OCTETS, WO (R639, spec/18_memory_integrity_and_identity.md). -/
def Oid.FW_LOAD : BKey := ⟨0x00000801, []⟩
/-- FW_VERIFY, U8, WO (R639, spec/18_memory_integrity_and_identity.md). -/
def Oid.FW_VERIFY : Key := ⟨0x00000802, 0⟩
/-- FW_STATE, U8, RO (R639, spec/18_memory_integrity_and_identity.md). -/
def Oid.FW_STATE : Key := ⟨0x00000803, 0⟩
/-- FW_SWITCH, U8, WO (R639, spec/18_memory_integrity_and_identity.md). -/
def Oid.FW_SWITCH : Key := ⟨0x00000804, 0⟩
/-- FW_BANK, U8, RO (R639, spec/18_memory_integrity_and_identity.md). -/
def Oid.FW_BANK : Key := ⟨0x00000805, 0⟩
/-- FW_VERSION, OCTETS, RO (R639, spec/18_memory_integrity_and_identity.md). -/
def Oid.FW_VERSION : BKey := ⟨0x00000806, List.replicate 8 0⟩
/-- FW_MIN_SVN, U16, RO (R639, spec/18_memory_integrity_and_identity.md). -/
def Oid.FW_MIN_SVN : Key := ⟨0x00000807, 0⟩
/-- CFG_LOAD, OCTETS, WO (R639, spec/18_memory_integrity_and_identity.md). -/
def Oid.CFG_LOAD : BKey := ⟨0x00000900, []⟩
/-- CFG_VERIFY, U8, WO (R639, spec/18_memory_integrity_and_identity.md). -/
def Oid.CFG_VERIFY : Key := ⟨0x00000901, 0⟩
/-- CFG_STATE, U8, RO (R639, spec/18_memory_integrity_and_identity.md). -/
def Oid.CFG_STATE : Key := ⟨0x00000902, 0⟩
/-- CFG_ACTIVE_SLOT, U8, RO (R639, spec/18_memory_integrity_and_identity.md). -/
def Oid.CFG_ACTIVE_SLOT : Key := ⟨0x00000903, 0⟩
/-- CFG_HASH, OCTETS, RO (R639, spec/18_memory_integrity_and_identity.md). -/
def Oid.CFG_HASH : BKey := ⟨0x00000904, List.replicate 16 0⟩
/-- CFG_SIGNER_KEY, OCTETS, RWS (R639, spec/18_memory_integrity_and_identity.md). -/
def Oid.CFG_SIGNER_KEY (k : Nat) : BKey := ⟨0x00000910 + k, []⟩
/-- REC_NEXT, U64, RO (R659, spec/19_event_recorder_and_freeze.md). -/
def Oid.REC_NEXT : Key := ⟨0x7C000100, 0⟩
/-- REC_FIRST, U64, RO (R659, spec/19_event_recorder_and_freeze.md). -/
def Oid.REC_FIRST : Key := ⟨0x7C000101, 0⟩
/-- REC_LAST, U64, RO (R659, spec/19_event_recorder_and_freeze.md). -/
def Oid.REC_LAST : Key := ⟨0x7C000102, 0⟩
/-- REC_SEL, U64, RW (R659, spec/19_event_recorder_and_freeze.md). -/
def Oid.REC_SEL : Key := ⟨0x7C000103, 0⟩
/-- REC_DATA, OCTETS, RO (R659, spec/19_event_recorder_and_freeze.md). -/
def Oid.REC_DATA : BKey := ⟨0x7C000104, []⟩
/-- REC_PENDING, U16, RO (R659, spec/19_event_recorder_and_freeze.md). -/
def Oid.REC_PENDING : Key := ⟨0x7C000105, 0⟩
/-- REC_DROPPED, U32, RO (R659, spec/19_event_recorder_and_freeze.md). -/
def Oid.REC_DROPPED : Key := ⟨0x7C000106, 0⟩
/-- REC_REPEAT_WINDOW, U16, RWP (R659, spec/19_event_recorder_and_freeze.md). -/
def Oid.REC_REPEAT_WINDOW : Key := ⟨0x7C000107, 3600⟩
/-- REC_MARK_INTERVAL, U32, RWP (R659, spec/19_event_recorder_and_freeze.md). -/
def Oid.REC_MARK_INTERVAL : Key := ⟨0x7C000108, 3600⟩
/-- FRZ_READOUT_ENABLE, BOOL, RWP (R659, spec/19_event_recorder_and_freeze.md). -/
def Oid.FRZ_READOUT_ENABLE : Key := ⟨0x7C000200, 0⟩
/-- FRZ_COUNT, U32, RO (R659, spec/19_event_recorder_and_freeze.md). -/
def Oid.FRZ_COUNT : Key := ⟨0x7C000201, 0⟩
/-- WINTER_N_STATE, U8, RO (R659, spec/19_event_recorder_and_freeze.md). -/
def Oid.WINTER_N_STATE : Key := ⟨0x7C000202, 0⟩

end Sys2Proof.Machine
end

