-- ==== Sys2Proof/Machine/Dict.lean ====
section
/-! DEFINITION. The dictionary: type, access code, default, range and persistence of every object (R9, R12, R171, R177),
one row per row of the object tables, grouped by area. -/

namespace Sys2Proof.Machine

/-- The data types of the dictionary (R9); `point` is the value type of a point, set by its TYPE (R215). -/
inductive Ty where
  | bool | u8 | u16 | u32 | u64 | i8 | i16 | i32 | i64 | fix32 | real32 | time64 | optime40 | octets | string | point
deriving DecidableEq, Repr

/-- The access codes (R12). -/
inductive Acc where
  | ro | rw | wo | const | rwl | rws | rwp
deriving DecidableEq, Repr

/-- The values that a description allows. -/
inductive Rng where
  | any
  | span (lo hi : Int)
  | oneOf (l : List Int)
  | spanOr (lo hi x : Int)
  | step (lo hi d : Int)
  | nonzero
  | len (lo hi : Nat)
  | lenOneOf (l : List Nat)
deriving DecidableEq, Repr

/-- Where a written value lives (R177). -/
inductive Kept where
  | none | config | live | request | safety | point
deriving DecidableEq, Repr

/-- A value of the dictionary: a number of one of the scalar types (REAL32 as its pattern, FIX32 raw), or a byte string (R9). -/
inductive Val where
  | num (v : Int)
  | oct (b : List Byte)
deriving DecidableEq, Repr

/-- One row of an object table: first OID, steps and counts of its indices, type, access code, default, whether the table gives a
default, range, persistence. -/
structure ObjRow where
  base : Nat
  strides : List (Nat × Nat)
  ty : Ty
  acc : Acc
  dflt : Val
  hasDflt : Bool
  rng : Rng
  kept : Kept
deriving DecidableEq, Repr

/-- Rows of area 0x00, part 1 (R171). -/
def dictRows00p1 : List ObjRow :=
  [ ⟨0x00000100, [], .u8, .ro, .num 0, true, .any, .none⟩,
    ⟨0x00000200, [], .u8, .const, .num 0, false, .any, .none⟩,
    ⟨0x00000110, [], .u8, .rwp, .num 0, true, (.oneOf [1, 3]), .request⟩,
    ⟨0x00000120, [], .u8, .rwp, .num 0, true, (.oneOf [1]), .request⟩,
    ⟨0x00000400, [], .u16, .ro, .num 1, true, .any, .none⟩,
    ⟨0x00000401, [], .u16, .ro, .num 0, true, .any, .none⟩,
    ⟨0x00000402, [], .u16, .ro, .num 0, true, .any, .none⟩,
    ⟨0x00000403, [], .u32, .ro, .num 0, true, .any, .none⟩,
    ⟨0x00000404, [], .u8, .ro, .num 0, true, .any, .none⟩,
    ⟨0x00000410, [], .u16, .ro, .num 0, true, .any, .none⟩,
    ⟨0x00000411, [], .u16, .ro, .num 0, true, .any, .none⟩,
    ⟨0x00000412, [], .u16, .ro, .num 0, true, .any, .none⟩,
    ⟨0x00000413, [], .bool, .ro, .num 0, true, .any, .none⟩,
    ⟨0x00000414, [], .u16, .ro, .num 0, true, .any, .none⟩,
    ⟨0x00000415, [], .i16, .ro, .num 0, true, .any, .none⟩,
    ⟨0x00000420, [], .u8, .ro, .num 0, true, .any, .none⟩,
    ⟨0x00000421, [], .u8, .rwp, .num 2, true, (.span 2 16), .config⟩,
    ⟨0x00000422, [], .u32, .rwp, .num 2000, true, (.span 100 100000), .config⟩,
    ⟨0x00000500, [], .u32, .ro, .num 0, true, .any, .none⟩,
    ⟨0x00000501, [], .u8, .ro, .num 0, true, .any, .none⟩,
    ⟨0x00000502, [], .u8, .rwp, .num 0, true, (.span 1 3), .request⟩,
    ⟨0x00000503, [], .u32, .ro, .num 0, true, .any, .none⟩,
    ⟨0x00000504, [], .u8, .ro, .num 0, true, .any, .none⟩,
    ⟨0x00000510, [], .u8, .ro, .num 255, true, .any, .none⟩,
    ⟨0x00000511, [], .u16, .ro, .num 0, true, .any, .none⟩,
    ⟨0x00000520, [], .u64, .rwp, .num 0, true, .any, .request⟩,
    ⟨0x00000521, [], .u64, .ro, .num 0, true, .any, .none⟩,
    ⟨0x00000522, [], .u64, .ro, .num 0, true, .any, .none⟩,
    ⟨0x00000600, [], .u32, .ro, .num 0, true, .any, .none⟩,
    ⟨0x00000601, [], .u32, .ro, .num 0, true, .any, .none⟩,
    ⟨0x00000602, [], .octets, .ro, .oct (List.replicate 16 0), true, .any, .none⟩,
    ⟨0x00000603, [], .u64, .ro, .num 0, true, .any, .none⟩,
    ⟨0x00000700, [], .u64, .const, .num 0, false, .any, .none⟩,
    ⟨0x00000701, [], .octets, .const, .oct [], false, .any, .none⟩,
    ⟨0x00000702, [], .octets, .const, .oct [], false, .any, .none⟩,
    ⟨0x00000703, [], .string, .rwp, .oct [], true, (.len 1 64), .config⟩,
    ⟨0x00000704, [], .octets, .ro, .oct [], true, .any, .none⟩,
    ⟨0x00001000, [(0x100, 8), (0x10, 2)], .octets, .rwp, .oct [], true, (.len 0 8192), .config⟩,
    ⟨0x00001001, [(0x100, 8), (0x10, 2)], .u8, .rwp, .num 0, true, (.span 0 3), .config⟩,
    ⟨0x00001002, [(0x100, 8), (0x10, 2)], .u8, .ro, .num 0, true, .any, .none⟩ ]

/-- Rows of area 0x00, part 2 (R171). -/
def dictRows00p2 : List ObjRow :=
  [ ⟨0x00000800, [], .u8, .rwp, .num 0, true, .any, .config⟩,
    ⟨0x00000801, [], .octets, .wo, .oct [], false, (.len 5 65540), .request⟩,
    ⟨0x00000802, [], .u8, .wo, .num 0, false, (.oneOf [1]), .request⟩,
    ⟨0x00000803, [], .u8, .ro, .num 0, true, .any, .none⟩,
    ⟨0x00000804, [], .u8, .wo, .num 0, false, (.oneOf [1]), .request⟩,
    ⟨0x00000805, [], .u8, .ro, .num 0, true, .any, .none⟩,
    ⟨0x00000806, [], .octets, .ro, .oct (List.replicate 8 0), true, .any, .none⟩,
    ⟨0x00000807, [], .u16, .ro, .num 0, true, .any, .none⟩,
    ⟨0x00000900, [], .octets, .wo, .oct [], false, (.len 5 65540), .request⟩,
    ⟨0x00000901, [], .u8, .wo, .num 0, false, (.oneOf [1]), .request⟩,
    ⟨0x00000902, [], .u8, .ro, .num 0, true, .any, .none⟩,
    ⟨0x00000903, [], .u8, .ro, .num 0, true, .any, .none⟩,
    ⟨0x00000904, [], .octets, .ro, .oct (List.replicate 16 0), true, .any, .none⟩,
    ⟨0x00000910, [(0x1, 4)], .octets, .rws, .oct [], true, (.lenOneOf [65, 97]), .safety⟩ ]

/-- The rows of area 0x00 (R171). -/
def dictRows00 : List ObjRow := dictRows00p1 ++ dictRows00p2

/-- Rows of area 0x08, part 1 (R171). -/
def dictRows08p1 : List ObjRow :=
  [ ⟨0x08000100, [], .time64, .ro, .num 0, true, .any, .none⟩,
    ⟨0x08000101, [], .u8, .ro, .num 0, true, .any, .none⟩,
    ⟨0x08000102, [], .i32, .ro, .num 0, true, .any, .none⟩,
    ⟨0x08000103, [], .i32, .ro, .num 0, true, .any, .none⟩,
    ⟨0x08000104, [], .optime40, .ro, .num 0, true, .any, .none⟩,
    ⟨0x08000105, [], .u16, .ro, .num 0, true, .any, .none⟩,
    ⟨0x08000110, [], .time64, .rwp, .num 0, true, .any, .request⟩,
    ⟨0x08000111, [], .u8, .rwp, .num 0, true, (.oneOf [1]), .request⟩,
    ⟨0x08000112, [], .u32, .rwp, .num 3600, true, (.span 60 86400), .config⟩,
    ⟨0x08000200, [(0x1, 2)], .u8, .rwp, .num 1, true, (.span 0 2), .config⟩,
    ⟨0x08000300, [], .u8, .rwp, .num 0, true, (.span 0 1), .config⟩,
    ⟨0x08000301, [], .u8, .rwp, .num 0, true, (.span 0 127), .config⟩,
    ⟨0x08000302, [], .u8, .rwp, .num 248, true, .any, .config⟩,
    ⟨0x08000303, [], .u8, .rwp, .num 248, true, .any, .config⟩,
    ⟨0x08000304, [], .i8, .rwp, .num (-3), true, (.span (-3) 0), .config⟩,
    ⟨0x08000305, [], .u8, .rwp, .num 0, true, (.span 0 1), .config⟩,
    ⟨0x08000310, [], .octets, .ro, .oct (List.replicate 8 0), true, .any, .none⟩,
    ⟨0x08000400, [(0x1, 2)], .u8, .ro, .num 0, true, .any, .none⟩,
    ⟨0x08001000, [], .octets, .wo, .oct [], false, (.len 32 2048), .request⟩,
    ⟨0x08001001, [], .u32, .wo, .num 0, false, .any, .request⟩,
    ⟨0x08001002, [], .u16, .ro, .num 16384, true, .any, .none⟩,
    ⟨0x08001003, [], .u16, .ro, .num 0, true, .any, .none⟩,
    ⟨0x08001004, [], .u32, .const, .num 2000, true, .any, .none⟩,
    ⟨0x08001005, [], .u32, .const, .num 2678400, true, .any, .none⟩ ]

/-- The rows of area 0x08 (R171). -/
def dictRows08 : List ObjRow := dictRows08p1

/-- Rows of area 0x01, part 1 (R171). -/
def dictRows01p1 : List ObjRow :=
  [ ⟨0x01000100, [], .u8, .ro, .num 0, true, .any, .none⟩,
    ⟨0x01000101, [], .u8, .rwp, .num 64, true, (.span 1 64), .config⟩,
    ⟨0x01000102, [], .u16, .rwp, .num 60, true, (.span 10 3600), .config⟩,
    ⟨0x01000103, [], .u8, .rwp, .num 15, true, .any, .config⟩,
    ⟨0x01000104, [], .u8, .rwp, .num 1, true, (.span 0 2), .config⟩,
    ⟨0x01000105, [], .u8, .rwp, .num 0, true, (.span 0 7), .config⟩,
    ⟨0x01000106, [], .u8, .rwp, .num 1, true, (.span 1 127), .config⟩,
    ⟨0x01000107, [], .u8, .ro, .num 0, true, .any, .none⟩,
    ⟨0x01000108, [], .time64, .ro, .num 0, true, .any, .none⟩,
    ⟨0x01000109, [], .u32, .ro, .num 0, true, .any, .none⟩,
    ⟨0x01100000, [(0x100, 256)], .u8, .rwp, .num 0, true, (.span 0 2), .config⟩,
    ⟨0x01100001, [(0x100, 256)], .octets, .rwp, .oct (List.replicate 32 0), true, (.len 32 32), .config⟩,
    ⟨0x01100002, [(0x100, 256)], .u8, .rwp, .num 0, true, (.span 0 7), .config⟩,
    ⟨0x01100003, [(0x100, 256)], .string, .rwp, .oct [], true, (.len 1 64), .config⟩,
    ⟨0x01100004, [(0x100, 256)], .octets, .rwp, .oct (List.replicate 128 0), true, (.len 128 128), .config⟩,
    ⟨0x01100005, [(0x100, 256)], .u8, .rwp, .num 4, true, (.span 1 64), .config⟩,
    ⟨0x01100006, [(0x100, 256)], .bool, .rwp, .num 0, true, .any, .config⟩,
    ⟨0x01110000, [(0x100, 8)], .octets, .rwp, .oct [], true, (.len 0 4096), .config⟩,
    ⟨0x01110001, [(0x100, 8)], .octets, .ro, .oct [], true, .any, .none⟩,
    ⟨0x01200000, [(0x100, 1024)], .bool, .rwp, .num 0, true, .any, .config⟩,
    ⟨0x01200001, [(0x100, 1024)], .string, .rwp, .oct [], true, (.len 0 64), .config⟩,
    ⟨0x01200002, [(0x100, 1024)], .u32, .ro, .num 0, true, .any, .none⟩,
    ⟨0x01400000, [(0x100, 64)], .u8, .ro, .num 0, true, .any, .none⟩,
    ⟨0x01400001, [(0x100, 64)], .u16, .ro, .num 0, true, .any, .none⟩,
    ⟨0x01400002, [(0x100, 64)], .u8, .ro, .num 0, true, .any, .none⟩,
    ⟨0x01400003, [(0x100, 64)], .octets, .ro, .oct (List.replicate 32 0), true, .any, .none⟩,
    ⟨0x01400004, [(0x100, 64)], .time64, .ro, .num 0, true, .any, .none⟩,
    ⟨0x01400005, [(0x100, 64)], .u8, .wo, .num 0, false, (.oneOf [1]), .request⟩,
    ⟨0x01500000, [(0x100, 256)], .u16, .rw, .num 0, true, (.span 0 1023), .config⟩,
    ⟨0x01500001, [(0x100, 256)], .octets, .rw, .oct [], true, (.len 0 4096), .config⟩,
    ⟨0x01300000, [(0x100, 8)], .u8, .rwp, .num 0, true, (.span 0 4), .config⟩,
    ⟨0x01300001, [(0x100, 8)], .u32, .rwp, .num 500000, true, .any, .config⟩,
    ⟨0x01300002, [(0x100, 8)], .u32, .rwp, .num 0, true, .any, .config⟩,
    ⟨0x01300003, [(0x100, 8)], .u16, .rwp, .num 800, true, (.span 500 900), .config⟩,
    ⟨0x01300004, [(0x100, 8)], .u16, .rwp, .num 750, true, (.span 500 900), .config⟩,
    ⟨0x01300005, [(0x100, 8)], .u8, .ro, .num 0, true, .any, .none⟩,
    ⟨0x01300006, [(0x100, 8)], .u8, .ro, .num 0, true, .any, .none⟩,
    ⟨0x01300007, [(0x100, 8)], .u8, .ro, .num 0, true, .any, .none⟩,
    ⟨0x01300008, [(0x100, 8)], .bool, .rwp, .num 1, true, .any, .config⟩,
    ⟨0x01300009, [(0x100, 8)], .u8, .wo, .num 0, false, (.oneOf [1]), .request⟩ ]

/-- Rows of area 0x01, part 2 (R171). -/
def dictRows01p2 : List ObjRow :=
  [ ⟨0x0130000A, [(0x100, 8)], .u32, .rwp, .num 10000, true, (.span 1000 50000), .config⟩,
    ⟨0x0130000B, [(0x100, 8)], .u32, .rwp, .num 0, true, .any, .config⟩,
    ⟨0x0130000C, [(0x100, 8)], .u8, .rwp, .num 1, true, (.oneOf [1, 2, 4, 8, 16, 32, 64]), .config⟩,
    ⟨0x0130000D, [(0x100, 8)], .u16, .rwp, .num 1, true, (.span 0 2047), .config⟩,
    ⟨0x0130000E, [(0x100, 8)], .octets, .rwp, .oct [], true, (.len 24 384), .config⟩,
    ⟨0x0130000F, [(0x100, 8)], .u8, .ro, .num 0, true, .any, .none⟩,
    ⟨0x01300010, [(0x100, 8)], .u32, .ro, .num 0, true, .any, .none⟩,
    ⟨0x01300011, [(0x100, 8)], .u32, .ro, .num 0, true, .any, .none⟩,
    ⟨0x01300012, [(0x100, 8)], .octets, .ro, .oct [], true, .any, .none⟩,
    ⟨0x01300013, [(0x100, 8)], .octets, .ro, .oct [], true, .any, .none⟩,
    ⟨0x01300014, [(0x100, 8)], .octets, .rwp, .oct [], true, (.len 8 128), .config⟩,
    ⟨0x01300015, [(0x100, 8)], .u16, .rwp, .num 500, true, (.span 10 10000), .config⟩,
    ⟨0x01300016, [(0x100, 8)], .u8, .ro, .num 255, true, .any, .none⟩,
    ⟨0x01300017, [(0x100, 8)], .u8, .ro, .num 0, true, .any, .none⟩,
    ⟨0x01300018, [(0x100, 8)], .bool, .rwp, .num 0, true, .any, .config⟩,
    ⟨0x01600000, [(0x10000, 8), (0x100, 256)], .octets, .rwp, .oct (List.replicate 16 0), true, (.len 16 16), .config⟩,
    ⟨0x01600001, [(0x10000, 8), (0x100, 256)], .u8, .ro, .num 0, true, .any, .none⟩,
    ⟨0x01600002, [(0x10000, 8), (0x100, 256)], .u32, .ro, .num 0, true, .any, .none⟩,
    ⟨0x01600003, [(0x10000, 8), (0x100, 256)], .u32, .ro, .num 0, true, .any, .none⟩,
    ⟨0x01600004, [(0x10000, 8), (0x100, 256)], .u8, .wo, .num 0, false, (.oneOf [1]), .request⟩,
    ⟨0x01700000, [(0x10000, 8), (0x100, 256)], .octets, .ro, .oct [], true, .any, .none⟩,
    ⟨0x01700001, [(0x10000, 8), (0x100, 256)], .u32, .ro, .num 0, true, .any, .none⟩,
    ⟨0x01700002, [(0x10000, 8), (0x100, 256)], .u32, .ro, .num 0, true, .any, .none⟩,
    ⟨0x01700003, [(0x10000, 8), (0x100, 256)], .time64, .ro, .num 0, true, .any, .none⟩,
    ⟨0x01700004, [(0x10000, 8), (0x100, 256)], .octets, .ro, .oct [], true, .any, .none⟩,
    ⟨0x01700005, [(0x10000, 8), (0x100, 256)], .u64, .rwp, .num 0, true, .any, .config⟩,
    ⟨0x01700006, [(0x10000, 8), (0x100, 256)], .u8, .wo, .num 0, false, .any, .request⟩,
    ⟨0x01780000, [(0x10000, 8), (0x100, 64)], .octets, .rwp, .oct [], true, (.len 0 64), .config⟩,
    ⟨0x01780001, [(0x10000, 8), (0x100, 64)], .u32, .rwp, .num 0, true, .any, .config⟩,
    ⟨0x01780002, [(0x10000, 8), (0x100, 64)], .u8, .rwp, .num 0, true, .any, .config⟩,
    ⟨0x01780003, [(0x10000, 8), (0x100, 64)], .u8, .wo, .num 0, false, (.span 1 2), .request⟩,
    ⟨0x01780004, [(0x10000, 8), (0x100, 64)], .u8, .ro, .num 0, true, .any, .none⟩,
    ⟨0x01780005, [(0x10000, 8), (0x100, 64)], .time64, .ro, .num 0, true, .any, .none⟩,
    ⟨0x01800000, [(0x100, 16384)], .octets, .rwp, .oct (List.replicate 8 0), true, (.len 8 8), .config⟩ ]

/-- The rows of area 0x01 (R171). -/
def dictRows01 : List ObjRow := dictRows01p1 ++ dictRows01p2

/-- Rows of area 0x80, part 1 (R171). -/
def dictRows80p1 : List ObjRow :=
  [ ⟨0x80000000, [(0x100, 262144)], .point, .rw, .num 0, false, .any, .point⟩,
    ⟨0x80000001, [(0x100, 262144)], .u8, .rwp, .num 0, true, (.span 0 11), .config⟩,
    ⟨0x80000002, [(0x100, 262144)], .u16, .rwp, .num 0, true, (.span 0 1023), .config⟩,
    ⟨0x80000003, [(0x100, 262144)], .bool, .rwp, .num 0, true, .any, .config⟩,
    ⟨0x80000004, [(0x100, 262144)], .u8, .rwp, .num 3, true, (.span 0 3), .config⟩,
    ⟨0x80000005, [(0x100, 262144)], .u8, .ro, .num 0, true, .any, .none⟩,
    ⟨0x80000006, [(0x100, 262144)], .octets, .rwp, .oct (List.replicate 16 0), true, (.len 16 16), .config⟩,
    ⟨0x80000007, [(0x100, 262144)], .octets, .rwp, .oct (List.replicate 16 0), true, (.len 16 16), .config⟩,
    ⟨0x80000008, [(0x100, 262144)], .point, .rw, .num 0, true, .any, .point⟩,
    ⟨0x80000010, [(0x100, 262144), (0x1, 16)], .point, .ro, .num 0, true, .any, .none⟩,
    ⟨0x80000020, [(0x100, 262144)], .u16, .ro, .num 0, true, .any, .none⟩,
    ⟨0x80000021, [(0x100, 262144)], .u8, .ro, .num 0, true, .any, .none⟩,
    ⟨0x80000022, [(0x100, 262144)], .real32, .rw, .num 0, true, .any, .config⟩,
    ⟨0x80000023, [(0x100, 262144)], .string, .rw, .oct [], true, (.len 0 64), .config⟩,
    ⟨0x80000024, [(0x100, 262144)], .u16, .rwp, .num 95, true, .any, .config⟩,
    ⟨0x80000025, [(0x100, 262144)], .time64, .ro, .num 0, true, .any, .none⟩,
    ⟨0x80000026, [(0x100, 262144)], .u16, .rwp, .num 2, true, (.span 2 1024), .config⟩,
    ⟨0x80000027, [(0x100, 262144)], .bool, .rw, .num 0, true, .any, .config⟩,
    ⟨0x80000028, [(0x100, 262144)], .u32, .rwp, .num 0, true, (.span 0 4194302), .config⟩,
    ⟨0x80000029, [(0x100, 262144)], .real32, .rwp, .num 1065353216, true, .any, .config⟩,
    ⟨0x8000002A, [(0x100, 262144)], .real32, .rwp, .num 0, true, .any, .config⟩ ]

/-- The rows of area 0x80 (R171). -/
def dictRows80 : List ObjRow := dictRows80p1

/-- Rows of area 0x7E, part 1 (R171). -/
def dictRows7Ep1 : List ObjRow :=
  [ ⟨0x7E000000, [(0x100, 65536)], .u32, .ro, .num 0, false, .any, .none⟩,
    ⟨0x7E000001, [(0x100, 65536), (0x1, 4)], .u32, .ro, .num 0, true, .any, .none⟩,
    ⟨0x7E000005, [(0x100, 65536)], .bool, .ro, .num 0, true, .any, .none⟩,
    ⟨0x7E000006, [(0x100, 65536)], .u32, .ro, .num 0, true, .any, .none⟩,
    ⟨0x7E000007, [(0x100, 65536)], .u32, .ro, .num 0, true, .any, .none⟩,
    ⟨0x7E000008, [(0x100, 65536)], .u32, .ro, .num 0, true, .any, .none⟩ ]

/-- The rows of area 0x7E (R171). -/
def dictRows7E : List ObjRow := dictRows7Ep1

/-- Rows of area 0x10, part 1 (R171). -/
def dictRows10p1 : List ObjRow :=
  [ ⟨0x10010000, [(0x1000000, 12)], .i32, .ro, .num 0, true, .any, .none⟩,
    ⟨0x10010001, [(0x1000000, 12)], .i64, .ro, .num 0, true, .any, .none⟩,
    ⟨0x10010002, [(0x1000000, 12)], .u32, .rwp, .num 64, true, .any, .config⟩,
    ⟨0x10010003, [(0x1000000, 12)], .u32, .rwp, .num 1, true, .any, .config⟩,
    ⟨0x10010004, [(0x1000000, 12)], .bool, .rwp, .num 0, true, .any, .config⟩,
    ⟨0x10010005, [(0x1000000, 12)], .i32, .ro, .num 0, true, .any, .none⟩,
    ⟨0x10010006, [(0x1000000, 12)], .u16, .rwp, .num 100, true, (.span 20 10000), .config⟩,
    ⟨0x10010007, [(0x1000000, 12)], .u32, .ro, .num 0, true, .any, .none⟩,
    ⟨0x10010008, [(0x1000000, 12)], .u16, .rwp, .num 16, true, (.span 1 65535), .config⟩,
    ⟨0x10010009, [(0x1000000, 12)], .u32, .ro, .num 0, true, .any, .none⟩,
    ⟨0x1001000A, [(0x1000000, 12)], .u16, .rwp, .num 4, true, (.span 1 65535), .config⟩,
    ⟨0x1001000B, [(0x1000000, 12)], .u16, .rwp, .num 1000, true, (.span 10 60000), .config⟩,
    ⟨0x1001000C, [(0x1000000, 12)], .i32, .ro, .num 0, true, .any, .none⟩,
    ⟨0x1001000D, [(0x1000000, 12)], .u8, .rwp, .num 4, true, (.oneOf [1, 2, 4, 8, 16, 32, 64]), .config⟩,
    ⟨0x1001000E, [(0x1000000, 12)], .u16, .rwp, .num 100, true, (.span 1 1000), .config⟩,
    ⟨0x1001000F, [(0x1000000, 12)], .u16, .ro, .num 0, true, .any, .none⟩,
    ⟨0x10010010, [(0x1000000, 12)], .u8, .wo, .num 0, false, (.oneOf [1]), .request⟩,
    ⟨0x10010011, [(0x1000000, 12)], .i32, .ro, .num 0, true, .any, .none⟩,
    ⟨0x10010012, [(0x1000000, 12)], .u32, .ro, .num 0, true, .any, .none⟩,
    ⟨0x10010013, [(0x1000000, 12)], .u8, .rwp, .num 0, true, (.span 0 2), .config⟩,
    ⟨0x10010014, [(0x1000000, 12)], .u32, .rwp, .num 1000000, true, (.span 100000 2000000), .config⟩,
    ⟨0x10010015, [(0x1000000, 12)], .u8, .rwp, .num 25, true, (.span 13 32), .config⟩,
    ⟨0x10010016, [(0x1000000, 12)], .u8, .rwp, .num 1, true, (.span 0 7), .config⟩,
    ⟨0x10010017, [(0x1000000, 12)], .u16, .rwp, .num 1000, true, (.step 100 10000 100), .config⟩,
    ⟨0x10010018, [(0x1000000, 12)], .u32, .ro, .num 0, true, .any, .none⟩,
    ⟨0x10010019, [(0x1000000, 12)], .u16, .rwp, .num 0, true, .any, .config⟩,
    ⟨0x1001001A, [(0x1000000, 12)], .u32, .rwp, .num 0, true, (.span 0 1000000), .config⟩,
    ⟨0x1001001B, [(0x1000000, 12)], .u32, .ro, .num 0, true, .any, .none⟩,
    ⟨0x1001001C, [(0x1000000, 12)], .i32, .rwp, .num 1, true, .nonzero, .config⟩,
    ⟨0x1001001D, [(0x1000000, 12)], .u32, .rwp, .num 1, true, (.span 1 2147483648), .config⟩,
    ⟨0x1001001E, [(0x1000000, 12)], .i32, .rwp, .num 0, true, .any, .config⟩,
    ⟨0x1001001F, [(0x1000000, 12)], .i32, .ro, .num 0, true, .any, .none⟩,
    ⟨0x10010020, [(0x1000000, 12)], .time64, .ro, .num 0, true, .any, .none⟩,
    ⟨0x10010021, [(0x1000000, 12)], .u32, .rwp, .num 640, true, .any, .config⟩,
    ⟨0x10010022, [(0x1000000, 12)], .i32, .ro, .num 0, true, .any, .none⟩,
    ⟨0x10010023, [(0x1000000, 12)], .u32, .rwp, .num 6400, true, .any, .config⟩,
    ⟨0x10010024, [(0x1000000, 12)], .u16, .rwp, .num 200, true, (.span 10 10000), .config⟩,
    ⟨0x10010025, [(0x1000000, 12)], .u16, .ro, .num 0, true, .any, .none⟩,
    ⟨0x10010026, [(0x1000000, 12)], .u8, .rwp, .num 4, true, .any, .config⟩,
    ⟨0x10010027, [(0x1000000, 12)], .i32, .ro, .num 0, true, .any, .none⟩ ]

/-- Rows of area 0x10, part 2 (R171). -/
def dictRows10p2 : List ObjRow :=
  [ ⟨0x10010028, [(0x1000000, 12)], .time64, .ro, .num 0, true, .any, .none⟩,
    ⟨0x10010029, [(0x1000000, 12)], .u32, .rwp, .num 640, true, .any, .config⟩,
    ⟨0x1001002A, [(0x1000000, 12)], .u32, .rwp, .num 6400, true, .any, .config⟩,
    ⟨0x1001002B, [(0x1000000, 12)], .u32, .rwp, .num 1280, true, .any, .config⟩,
    ⟨0x1001002C, [(0x1000000, 12)], .i32, .ro, .num 0, true, .any, .none⟩,
    ⟨0x1001002D, [(0x1000000, 12)], .u8, .ro, .num 0, true, .any, .none⟩,
    ⟨0x1001002E, [(0x1000000, 12)], .u32, .ro, .num 0, true, .any, .none⟩,
    ⟨0x1001002F, [(0x1000000, 12)], .u8, .wo, .num 0, false, .any, .request⟩,
    ⟨0x10010030, [(0x1000000, 12)], .u16, .rwp, .num 2, true, (.span 2 256), .config⟩,
    ⟨0x10010031, [(0x1000000, 12)], .u8, .rw, .num 0, true, (.span 0 2), .request⟩,
    ⟨0x10010032, [(0x1000000, 12)], .u16, .ro, .num 0, true, .any, .none⟩,
    ⟨0x10010033, [(0x1000000, 12)], .u8, .rwp, .num 0, true, (.span 0 2), .config⟩,
    ⟨0x10011000, [(0x1000000, 12), (0x100, 8)], .i32, .rwp, .num 0, true, .any, .config⟩,
    ⟨0x10011001, [(0x1000000, 12), (0x100, 8)], .u8, .rwp, .num 3, true, .any, .config⟩,
    ⟨0x10011002, [(0x1000000, 12), (0x100, 8)], .u32, .rwp, .num 0, true, .any, .config⟩,
    ⟨0x10011003, [(0x1000000, 12), (0x100, 8)], .u64, .rwp, .num 0, true, .any, .config⟩,
    ⟨0x10011004, [(0x1000000, 12), (0x100, 8)], .u8, .rwp, .num 255, true, (.spanOr 0 63 255), .config⟩,
    ⟨0x10011005, [(0x1000000, 12), (0x100, 8)], .u8, .rwp, .num 0, true, (.span 0 1), .request⟩,
    ⟨0x10011006, [(0x1000000, 12), (0x100, 8)], .u8, .ro, .num 0, true, .any, .none⟩,
    ⟨0x10011007, [(0x1000000, 12), (0x100, 8)], .i32, .ro, .num 0, true, .any, .none⟩,
    ⟨0x10011008, [(0x1000000, 12), (0x100, 8)], .time64, .ro, .num 0, true, .any, .none⟩,
    ⟨0x10020000, [(0x1000000, 12), (0x100, 256)], .i32, .rwp, .num 0, true, .any, .config⟩,
    ⟨0x10020001, [(0x1000000, 12), (0x100, 256)], .i32, .rwp, .num 0, true, .any, .config⟩,
    ⟨0x10020002, [(0x1000000, 12), (0x100, 256)], .u8, .rwp, .num 1, true, (.span 0 255), .config⟩,
    ⟨0x10030000, [(0x1000000, 12)], .u8, .ro, .num 0, true, .any, .none⟩,
    ⟨0x10030001, [(0x1000000, 12)], .u8, .ro, .num 0, true, .any, .none⟩,
    ⟨0x10030002, [(0x1000000, 12)], .u8, .rwp, .num 0, true, (.span 0 2), .request⟩,
    ⟨0x10030003, [(0x1000000, 12)], .u32, .ro, .num 0, true, .any, .none⟩,
    ⟨0x10030004, [(0x1000000, 12)], .u8, .wo, .num 0, false, (.oneOf [1]), .request⟩,
    ⟨0x10030005, [(0x1000000, 12)], .bool, .ro, .num 0, true, .any, .none⟩,
    ⟨0x10030006, [(0x1000000, 12)], .u8, .rwp, .num 255, true, (.spanOr 0 3 255), .config⟩,
    ⟨0x10030007, [(0x1000000, 12)], .u8, .ro, .num 0, true, .any, .none⟩,
    ⟨0x10030008, [(0x1000000, 12)], .u8, .ro, .num 0, true, .any, .none⟩,
    ⟨0x10030009, [(0x1000000, 12)], .octets, .ro, .oct [], true, .any, .none⟩,
    ⟨0x1003000A, [(0x1000000, 12)], .u32, .rwp, .num 0, true, .any, .config⟩,
    ⟨0x1003000B, [(0x1000000, 12)], .fix32, .ro, .num 0, true, .any, .none⟩,
    ⟨0x1003000C, [(0x1000000, 12)], .u16, .rwp, .num 1000, true, .any, .config⟩,
    ⟨0x1003000D, [(0x1000000, 12)], .u8, .rwp, .num 80, true, (.span 50 100), .config⟩,
    ⟨0x1003000E, [(0x1000000, 12)], .u16, .rwp, .num 40, true, .any, .config⟩,
    ⟨0x1003000F, [(0x1000000, 12)], .u32, .rwp, .num 100000, true, (.span 10000 2000000), .config⟩ ]

/-- Rows of area 0x10, part 3 (R171). -/
def dictRows10p3 : List ObjRow :=
  [ ⟨0x10030010, [(0x1000000, 12)], .u16, .rwp, .num 800, true, (.span 100 2000), .config⟩,
    ⟨0x10030011, [(0x1000000, 12)], .u16, .rwp, .num 1000, true, (.span 100 5000), .config⟩,
    ⟨0x10030012, [(0x1000000, 12)], .u32, .rwp, .num 5000, true, (.span 500 30000), .config⟩,
    ⟨0x10030013, [(0x1000000, 12)], .u32, .rwp, .num 50000, true, (.span 0 80000), .config⟩,
    ⟨0x10030014, [(0x1000000, 12)], .u32, .rwp, .num 10000, true, (.span 0 30000), .config⟩,
    ⟨0x10030015, [(0x1000000, 12)], .u32, .rwp, .num 30000, true, (.span 0 30000), .config⟩,
    ⟨0x10030016, [(0x1000000, 12)], .u32, .rwp, .num 30000, true, (.span 0 63000), .config⟩,
    ⟨0x10030017, [(0x1000000, 12)], .u32, .rwp, .num 30000, true, (.span 0 30000), .config⟩,
    ⟨0x10030018, [(0x1000000, 12)], .u32, .rwp, .num 640, true, .any, .config⟩,
    ⟨0x10030019, [(0x1000000, 12)], .u32, .rwp, .num 1280, true, .any, .config⟩,
    ⟨0x1003001A, [(0x1000000, 12)], .i32, .rwp, .num 0, true, .any, .config⟩,
    ⟨0x1003001B, [(0x1000000, 12)], .i32, .rwp, .num 0, true, .any, .config⟩,
    ⟨0x1003001C, [(0x1000000, 12)], .bool, .rwp, .num 0, true, .any, .config⟩,
    ⟨0x1003001D, [(0x1000000, 12)], .u32, .rwp, .num 12800, true, .any, .config⟩,
    ⟨0x1003001E, [(0x1000000, 12)], .u32, .rwp, .num 6400, true, .any, .config⟩,
    ⟨0x1003001F, [(0x1000000, 12)], .u32, .rwp, .num 3200, true, .any, .config⟩,
    ⟨0x10030020, [(0x1000000, 12)], .u16, .rwp, .num 3000, true, (.span 500 10000), .config⟩,
    ⟨0x10030021, [(0x1000000, 12)], .u16, .rwp, .num 4000, true, (.span 1000 60000), .config⟩,
    ⟨0x10030022, [(0x1000000, 12)], .u16, .rwp, .num 30, true, (.span 5 300), .config⟩,
    ⟨0x10030023, [(0x1000000, 12)], .u16, .rwp, .num 10000, true, .any, .config⟩,
    ⟨0x10030024, [(0x1000000, 12)], .fix32, .rwp, .num 19661, true, .any, .config⟩,
    ⟨0x10030025, [(0x1000000, 12)], .u16, .rwp, .num 200, true, .any, .config⟩,
    ⟨0x10030026, [(0x1000000, 12)], .fix32, .rwp, .num 6553600, true, .any, .config⟩,
    ⟨0x10030027, [(0x1000000, 12)], .u8, .rwp, .num 10, true, .any, .config⟩,
    ⟨0x10030028, [(0x1000000, 12)], .fix32, .rwp, .num 32768, true, .any, .config⟩,
    ⟨0x10030029, [(0x1000000, 12)], .u16, .rwp, .num 300, true, .any, .config⟩,
    ⟨0x1003002A, [(0x1000000, 12)], .fix32, .ro, .num 0, true, .any, .none⟩,
    ⟨0x1003002B, [(0x1000000, 12)], .fix32, .ro, .num 0, true, .any, .none⟩,
    ⟨0x1003002C, [(0x1000000, 12)], .u16, .ro, .num 0, true, .any, .none⟩,
    ⟨0x1003002D, [(0x1000000, 12)], .i32, .ro, .num 0, true, .any, .none⟩,
    ⟨0x1003002E, [(0x1000000, 12)], .u16, .ro, .num 0, true, .any, .none⟩,
    ⟨0x1003002F, [(0x1000000, 12)], .bool, .ro, .num 0, true, .any, .none⟩,
    ⟨0x10030030, [(0x1000000, 12)], .u32, .rwp, .num 30000, true, .any, .config⟩,
    ⟨0x10030031, [(0x1000000, 12)], .u8, .rwp, .num 0, true, .any, .config⟩,
    ⟨0x10030032, [(0x1000000, 12)], .bool, .rwp, .num 0, true, .any, .config⟩,
    ⟨0x10030033, [(0x1000000, 12)], .u32, .rwp, .num 0, true, .any, .config⟩,
    ⟨0x10030034, [(0x1000000, 12)], .u32, .rwp, .num 0, true, .any, .config⟩,
    ⟨0x10030035, [(0x1000000, 12)], .u32, .rwp, .num 0, true, .any, .config⟩,
    ⟨0x10030036, [(0x1000000, 12)], .u32, .rwp, .num 0, true, .any, .config⟩,
    ⟨0x10030037, [(0x1000000, 12)], .u32, .rwp, .num 0, true, .any, .config⟩ ]

/-- Rows of area 0x10, part 4 (R171). -/
def dictRows10p4 : List ObjRow :=
  [ ⟨0x10030038, [(0x1000000, 12)], .u32, .rwp, .num 0, true, .any, .config⟩,
    ⟨0x10030039, [(0x1000000, 12)], .u32, .rwp, .num 0, true, .any, .config⟩,
    ⟨0x1003003A, [(0x1000000, 12)], .u32, .rwp, .num 0, true, .any, .config⟩,
    ⟨0x1003003B, [(0x1000000, 12)], .u16, .rwp, .num 120, true, .any, .config⟩,
    ⟨0x1003003C, [(0x1000000, 12)], .u32, .rwp, .num 4294967295, true, .any, .config⟩,
    ⟨0x1003003D, [(0x1000000, 12)], .u32, .rwp, .num 4294967295, true, .any, .config⟩,
    ⟨0x100F0000, [(0x100, 4)], .u8, .rwp, .num 0, true, .any, .config⟩,
    ⟨0x100F0001, [(0x100, 4)], .octets, .rwp, .oct (List.replicate 32 0), true, (.len 32 32), .config⟩,
    ⟨0x100F0002, [(0x100, 4)], .u32, .rwp, .num 4294967295, true, .any, .config⟩,
    ⟨0x100F0003, [(0x100, 4)], .u32, .rwp, .num 4294967295, true, .any, .config⟩,
    ⟨0x100F0004, [(0x100, 4)], .octets, .rwp, .oct [], true, (.len 0 64), .config⟩,
    ⟨0x100F0005, [(0x100, 4)], .octets, .rwp, .oct [], true, (.len 0 16), .config⟩,
    ⟨0x100F0006, [(0x100, 4)], .fix32, .rwp, .num 65536, true, (.span 0 2147483647), .config⟩,
    ⟨0x100F0007, [(0x100, 4)], .fix32, .rwp, .num 32768, true, (.span 0 2147483647), .config⟩,
    ⟨0x100F0008, [(0x100, 4)], .fix32, .rwp, .num 0, true, (.span 0 2147483647), .config⟩,
    ⟨0x100F0009, [(0x100, 4)], .u32, .rwp, .num 0, true, .any, .config⟩,
    ⟨0x100F000A, [(0x100, 4)], .u8, .rwp, .num 0, true, .any, .config⟩,
    ⟨0x100F000B, [(0x100, 4)], .u32, .ro, .num 0, true, .any, .none⟩,
    ⟨0x100F1000, [], .u32, .rwp, .num 0, true, .any, .config⟩,
    ⟨0x100F1001, [], .bool, .ro, .num 0, true, .any, .none⟩,
    ⟨0x100F1002, [], .u32, .rwp, .num 0, true, .any, .config⟩,
    ⟨0x100F1003, [], .u8, .rwp, .num 50, true, (.span 0 100), .config⟩,
    ⟨0x100F1004, [], .u8, .rwp, .num 0, true, (.span 0 12), .config⟩,
    ⟨0x100F1005, [], .u16, .rwp, .num 30, true, (.span 5 600), .config⟩,
    ⟨0x100F1006, [], .u32, .ro, .num 0, true, .any, .none⟩,
    ⟨0x100F1007, [], .u32, .ro, .num 0, true, .any, .none⟩ ]

/-- The rows of area 0x10 (R171). -/
def dictRows10 : List ObjRow := dictRows10p1 ++ dictRows10p2 ++ dictRows10p3 ++ dictRows10p4

/-- Rows of area 0x20, part 1 (R171). -/
def dictRows20p1 : List ObjRow :=
  [ ⟨0x20000100, [(0x10000, 24)], .bool, .rwp, .num 0, true, .any, .config⟩,
    ⟨0x20000101, [(0x10000, 24)], .u16, .rwp, .num 100, true, (.span 1 600), .config⟩,
    ⟨0x20000102, [(0x10000, 24)], .u32, .rwp, .num 48000, true, (.span 12000 80000), .config⟩,
    ⟨0x20000103, [(0x10000, 24)], .u32, .rwp, .num 1000, true, (.span 50 100000), .config⟩,
    ⟨0x20000104, [(0x10000, 24)], .u16, .rwp, .num 200, true, (.span 20 4000), .config⟩,
    ⟨0x20000105, [(0x10000, 24)], .u16, .rwp, .num 800, true, (.span 10 5000), .config⟩,
    ⟨0x20000106, [(0x10000, 24)], .u16, .rwp, .num 5000, true, (.span 100 20000), .config⟩,
    ⟨0x20000107, [(0x10000, 24)], .u16, .rwp, .num 7000, true, .any, .config⟩,
    ⟨0x20000108, [(0x10000, 24)], .u16, .rwp, .num 3000, true, .any, .config⟩,
    ⟨0x20000109, [(0x10000, 24)], .u32, .rwl, .num 2200, true, .any, .config⟩,
    ⟨0x2000010A, [(0x10000, 24)], .fix32, .rwl, .num 32768, true, .any, .config⟩,
    ⟨0x2000010B, [(0x10000, 24)], .fix32, .rwl, .num 6553600, true, .any, .config⟩,
    ⟨0x2000010C, [(0x10000, 24)], .fix32, .rwl, .num 1310720, true, .any, .config⟩,
    ⟨0x2000010D, [(0x10000, 24)], .fix32, .rwl, .num 0, true, .any, .config⟩,
    ⟨0x20000110, [(0x10000, 24)], .u16, .rwl, .num 500, true, .any, .config⟩,
    ⟨0x20000111, [(0x10000, 24)], .u16, .rwl, .num 300, true, .any, .config⟩,
    ⟨0x20000112, [(0x10000, 24)], .u16, .rwl, .num 150, true, .any, .config⟩,
    ⟨0x20000113, [(0x10000, 24)], .u16, .rwl, .num 1000, true, .any, .config⟩,
    ⟨0x20000114, [(0x10000, 24)], .u16, .rwl, .num 500, true, .any, .config⟩,
    ⟨0x20000115, [(0x10000, 24)], .u16, .rwl, .num 2000, true, .any, .config⟩,
    ⟨0x20000116, [(0x10000, 24)], .fix32, .rwl, .num 9830400, true, (.span 655360 9830400), .config⟩,
    ⟨0x20000117, [(0x10000, 24)], .fix32, .rwl, .num 7864320, true, .any, .config⟩,
    ⟨0x20000118, [(0x10000, 24)], .u16, .rwl, .num 20, true, (.span 5 500), .config⟩,
    ⟨0x20000119, [(0x10000, 24)], .u32, .rwl, .num 40, true, .any, .config⟩,
    ⟨0x2000011A, [(0x10000, 24)], .u16, .rwl, .num 50, true, (.span 5 1000), .config⟩,
    ⟨0x2000011B, [(0x10000, 24)], .u32, .rwl, .num 20, true, .any, .config⟩,
    ⟨0x20000200, [(0x10000, 24)], .u8, .ro, .num 0, true, .any, .none⟩,
    ⟨0x20000201, [(0x10000, 24)], .u16, .ro, .num 0, true, .any, .none⟩,
    ⟨0x20000202, [(0x10000, 24)], .i32, .ro, .num 0, true, .any, .none⟩,
    ⟨0x20000203, [(0x10000, 24)], .i32, .ro, .num 0, true, .any, .none⟩,
    ⟨0x20000204, [(0x10000, 24)], .fix32, .ro, .num 0, true, .any, .none⟩,
    ⟨0x20000205, [(0x10000, 24)], .fix32, .ro, .num 0, true, .any, .none⟩,
    ⟨0x20000206, [(0x10000, 24)], .i32, .ro, .num 0, true, .any, .none⟩,
    ⟨0x20000207, [(0x10000, 24), (0x1, 3)], .i16, .ro, .num 0, true, .any, .none⟩,
    ⟨0x2000020A, [(0x10000, 24)], .u32, .ro, .num 0, true, .any, .none⟩,
    ⟨0x2000020B, [(0x10000, 24)], .i16, .ro, .num 0, true, .any, .none⟩,
    ⟨0x2000020C, [(0x10000, 24)], .u32, .ro, .num 0, true, .any, .none⟩,
    ⟨0x2000020D, [(0x10000, 24)], .u32, .ro, .num 0, true, .any, .none⟩,
    ⟨0x2000020E, [(0x10000, 24)], .u32, .ro, .num 0, true, .any, .none⟩,
    ⟨0x2000020F, [(0x10000, 24)], .u16, .ro, .num 0, true, .any, .none⟩ ]

/-- Rows of area 0x20, part 2 (R171). -/
def dictRows20p2 : List ObjRow :=
  [ ⟨0x20000210, [(0x10000, 24)], .u32, .ro, .num 0, true, .any, .none⟩,
    ⟨0x20000211, [(0x10000, 24)], .u32, .ro, .num 0, true, .any, .none⟩,
    ⟨0x20000212, [(0x10000, 24)], .u32, .ro, .num 0, true, .any, .none⟩,
    ⟨0x20000213, [(0x10000, 24)], .octets, .ro, .oct (List.replicate 32 0), true, .any, .none⟩,
    ⟨0x20000214, [(0x10000, 24)], .octets, .ro, .oct (List.replicate 16 0), true, .any, .none⟩,
    ⟨0x20000300, [(0x10000, 24)], .u8, .wo, .num 0, false, (.span 1 2), .request⟩,
    ⟨0x20000301, [(0x10000, 24)], .u8, .wo, .num 0, false, (.oneOf [1]), .request⟩,
    ⟨0x20000302, [(0x10000, 24)], .u8, .wo, .num 0, false, (.oneOf [1]), .request⟩ ]

/-- The rows of area 0x20 (R171). -/
def dictRows20 : List ObjRow := dictRows20p1 ++ dictRows20p2

/-- Rows of area 0x40, part 1 (R171). -/
def dictRows40p1 : List ObjRow :=
  [ ⟨0x400000C0, [], .u32, .ro, .num 0, true, .any, .none⟩,
    ⟨0x400000C1, [], .u32, .ro, .num 0, true, .any, .none⟩,
    ⟨0x400000C2, [], .u32, .ro, .num 0, true, .any, .none⟩,
    ⟨0x400000C0, [(0x100, 16384)], .octets, .rwl, .oct [], true, (.len 0 32), .config⟩,
    ⟨0x400000C1, [(0x100, 16384)], .u32, .rwl, .num 0, true, .any, .config⟩,
    ⟨0x400000C2, [(0x100, 16384)], .u8, .rwl, .num 16, true, (.span 1 16), .config⟩,
    ⟨0x400000C3, [(0x100, 16384)], .fix32, .rwl, .num 0, true, (.span 0 2147483647), .config⟩,
    ⟨0x400000C4, [(0x100, 16384)], .fix32, .ro, .num 0, true, .any, .none⟩,
    ⟨0x400000C5, [(0x100, 16384)], .u8, .ro, .num 0, true, .any, .none⟩,
    ⟨0x400000C6, [(0x100, 16384)], .u32, .ro, .num 0, true, .any, .none⟩,
    ⟨0x40000000, [(0x100, 65536), (0x40, 3)], .bool, .rwp, .num 0, true, .any, .config⟩,
    ⟨0x40000001, [(0x100, 65536), (0x40, 3)], .u8, .rwl, .num 0, true, (.span 0 2), .config⟩,
    ⟨0x40000002, [(0x100, 65536), (0x40, 3)], .u8, .ro, .num 0, true, .any, .none⟩,
    ⟨0x40000003, [(0x100, 65536), (0x40, 3)], .u8, .wo, .num 0, false, (.span 1 3), .request⟩,
    ⟨0x40000004, [(0x100, 65536), (0x40, 3)], .u16, .ro, .num 0, true, .any, .none⟩,
    ⟨0x40000005, [(0x100, 65536), (0x40, 3)], .u8, .rw, .num 0, true, .any, .live⟩,
    ⟨0x40000006, [(0x100, 65536), (0x40, 3)], .u32, .rwl, .num 0, true, .any, .config⟩,
    ⟨0x40000007, [(0x100, 65536), (0x40, 3)], .u32, .rwl, .num 0, true, .any, .config⟩,
    ⟨0x40000008, [(0x100, 65536), (0x40, 3)], .u32, .rwl, .num 0, true, .any, .config⟩,
    ⟨0x40000009, [(0x100, 65536), (0x40, 3)], .u8, .rwl, .num 16, true, (.span 1 16), .config⟩,
    ⟨0x4000000A, [(0x100, 65536), (0x40, 3)], .fix32, .rw, .num 0, true, .any, .live⟩,
    ⟨0x4000000B, [(0x100, 65536), (0x40, 3)], .fix32, .rwl, .num 0, true, (.span 0 2147483647), .config⟩,
    ⟨0x4000000C, [(0x100, 65536), (0x40, 3)], .fix32, .ro, .num 0, true, .any, .none⟩,
    ⟨0x4000000D, [(0x100, 65536), (0x40, 3)], .fix32, .ro, .num 0, true, .any, .none⟩,
    ⟨0x4000000E, [(0x100, 65536), (0x40, 3)], .fix32, .ro, .num 0, true, .any, .none⟩,
    ⟨0x4000000F, [(0x100, 65536), (0x40, 3)], .fix32, .ro, .num 0, true, .any, .none⟩,
    ⟨0x40000010, [(0x100, 65536), (0x40, 3)], .fix32, .rw, .num 0, true, .any, .live⟩,
    ⟨0x40000011, [(0x100, 65536), (0x40, 3)], .fix32, .rwl, .num 0, true, .any, .config⟩,
    ⟨0x40000012, [(0x100, 65536), (0x40, 3)], .fix32, .rwl, .num 65536, true, (.span 0 2147483647), .config⟩,
    ⟨0x40000013, [(0x100, 65536), (0x40, 3)], .u8, .rwl, .num 0, true, (.span 0 1), .config⟩,
    ⟨0x40000014, [(0x100, 65536), (0x40, 3)], .fix32, .rwl, .num 0, true, .any, .config⟩,
    ⟨0x40000015, [(0x100, 65536), (0x40, 3)], .fix32, .rwl, .num 6553600, true, .any, .config⟩,
    ⟨0x40000016, [(0x100, 65536), (0x40, 3)], .fix32, .rwl, .num 65536, true, (.span 0 2147483647), .config⟩,
    ⟨0x40000017, [(0x100, 65536), (0x40, 3)], .fix32, .rwl, .num 65536, true, (.span 0 2147483647), .config⟩,
    ⟨0x40000018, [(0x100, 65536), (0x40, 3)], .u16, .rwl, .num 0, true, .any, .config⟩,
    ⟨0x40000019, [(0x100, 65536), (0x40, 3)], .u16, .rwl, .num 0, true, .any, .config⟩,
    ⟨0x4000001A, [(0x100, 65536), (0x40, 3)], .u16, .rwl, .num 0, true, .any, .config⟩,
    ⟨0x4000001B, [(0x100, 65536), (0x40, 3)], .fix32, .rwl, .num 655360, true, (.span 1 2147483647), .config⟩,
    ⟨0x4000001C, [(0x100, 65536), (0x40, 3)], .u16, .rwl, .num 100, true, (.span 1 65535), .config⟩,
    ⟨0x4000001D, [(0x100, 65536), (0x40, 3)], .fix32, .rwl, .num 0, true, .any, .config⟩ ]

/-- Rows of area 0x40, part 2 (R171). -/
def dictRows40p2 : List ObjRow :=
  [ ⟨0x4000001E, [(0x100, 65536), (0x40, 3)], .fix32, .rwl, .num 65536, true, (.span 65536 2147418112), .config⟩,
    ⟨0x4000001F, [(0x100, 65536), (0x40, 3)], .u8, .rwl, .num 0, true, (.span 0 63), .config⟩,
    ⟨0x40000020, [(0x100, 65536), (0x40, 3)], .fix32, .rwl, .num 655360, true, (.span 1 2147483647), .config⟩,
    ⟨0x40000021, [(0x100, 65536), (0x40, 3)], .u16, .rwl, .num 100, true, (.span 1 65535), .config⟩,
    ⟨0x40000022, [(0x100, 65536), (0x40, 3)], .u8, .rwl, .num 3, true, (.span 1 255), .config⟩,
    ⟨0x40000023, [(0x100, 65536), (0x40, 3)], .u32, .ro, .num 0, true, .any, .none⟩,
    ⟨0x40000024, [(0x100, 65536), (0x40, 3)], .u32, .ro, .num 0, true, .any, .none⟩,
    ⟨0x40000025, [(0x100, 65536), (0x40, 3)], .u8, .ro, .num 0, true, .any, .none⟩,
    ⟨0x40000026, [(0x100, 65536), (0x40, 3)], .u16, .ro, .num 0, true, .any, .none⟩,
    ⟨0x40000027, [(0x100, 65536), (0x40, 3)], .fix32, .ro, .num 0, true, .any, .none⟩,
    ⟨0x40000028, [(0x100, 65536), (0x40, 3)], .bool, .rw, .num 0, true, .any, .config⟩,
    ⟨0x40000029, [(0x100, 65536), (0x40, 3)], .u16, .rwl, .num 1000, true, (.step 100 10000 100), .config⟩,
    ⟨0x4000002A, [(0x100, 65536), (0x40, 3)], .u16, .rwl, .num 0, true, .any, .config⟩ ]

/-- The rows of area 0x40 (R171). -/
def dictRows40 : List ObjRow := dictRows40p1 ++ dictRows40p2

/-- Rows of area 0x50, part 1 (R171). -/
def dictRows50p1 : List ObjRow :=
  [ ⟨0x50000000, [], .u8, .rwp, .num 50, true, (.oneOf [50, 60]), .config⟩,
    ⟨0x50000001, [], .octets, .rwp, .oct [], true, (.len 1 4), .config⟩,
    ⟨0x50000002, [], .u8, .ro, .num 0, true, .any, .none⟩,
    ⟨0x50000003, [], .u8, .ro, .num 255, true, .any, .none⟩,
    ⟨0x50000004, [], .real32, .ro, .num 0, true, .any, .none⟩,
    ⟨0x50000005, [], .u16, .rwp, .num 168, true, (.span 0 8760), .config⟩,
    ⟨0x50000006, [], .bool, .rwp, .num 1, true, .any, .config⟩,
    ⟨0x50010000, [(0x100, 16)], .bool, .rwp, .num 0, true, .any, .config⟩,
    ⟨0x50010001, [(0x100, 16)], .real32, .rwp, .num 1065353216, true, .any, .config⟩,
    ⟨0x50010002, [(0x100, 16)], .fix32, .rwp, .num 65536, true, (.span 58983 72089), .config⟩,
    ⟨0x50010003, [(0x100, 16)], .fix32, .rwp, .num 0, true, (.span (-3276800) 3276800), .config⟩,
    ⟨0x50010004, [(0x100, 16)], .u8, .ro, .num 0, true, .any, .none⟩,
    ⟨0x50010005, [(0x100, 16)], .real32, .ro, .num 0, true, .any, .none⟩,
    ⟨0x50010006, [(0x100, 16)], .real32, .ro, .num 0, true, .any, .none⟩,
    ⟨0x50010007, [(0x100, 16)], .real32, .ro, .num 0, true, .any, .none⟩,
    ⟨0x50020000, [(0x100, 64)], .u8, .rwp, .num 0, true, .any, .config⟩,
    ⟨0x50020001, [(0x100, 64)], .u8, .rwp, .num 0, true, (.span 0 15), .config⟩,
    ⟨0x50020002, [(0x100, 64)], .real32, .rwp, .num 1065353216, true, .any, .config⟩,
    ⟨0x50020003, [(0x100, 64)], .u32, .rwp, .num 1000, true, .any, .config⟩,
    ⟨0x50020004, [(0x100, 64)], .u16, .rwp, .num 400, true, (.span 100 10000), .config⟩,
    ⟨0x50020005, [(0x100, 64)], .octets, .rwp, .oct [], true, (.len 0 96), .config⟩,
    ⟨0x50020006, [(0x100, 64)], .u8, .rwp, .num 255, true, (.spanOr 0 11 255), .config⟩,
    ⟨0x50020007, [(0x100, 64)], .u32, .rwp, .num 0, true, (.span 0 100000), .config⟩,
    ⟨0x50020008, [(0x100, 64)], .u16, .ro, .num 0, true, .any, .none⟩,
    ⟨0x50020009, [(0x100, 64)], .real32, .ro, .num 0, true, .any, .none⟩,
    ⟨0x5002000A, [(0x100, 64)], .real32, .ro, .num 0, true, .any, .none⟩,
    ⟨0x5002000B, [(0x100, 64)], .real32, .ro, .num 0, true, .any, .none⟩,
    ⟨0x5002000C, [(0x100, 64)], .real32, .ro, .num 0, true, .any, .none⟩,
    ⟨0x5002000D, [(0x100, 64)], .real32, .ro, .num 0, true, .any, .none⟩,
    ⟨0x5002000E, [(0x100, 64)], .real32, .ro, .num 0, true, .any, .none⟩,
    ⟨0x5002000F, [(0x100, 64)], .real32, .ro, .num 0, true, .any, .none⟩,
    ⟨0x50020010, [(0x100, 64)], .fix32, .ro, .num 65536, true, .any, .none⟩,
    ⟨0x50020011, [(0x100, 64)], .fix32, .ro, .num 0, true, .any, .none⟩,
    ⟨0x50020012, [(0x100, 64)], .fix32, .ro, .num 65536, true, .any, .none⟩,
    ⟨0x50020013, [(0x100, 64)], .fix32, .ro, .num 0, true, .any, .none⟩,
    ⟨0x50020014, [(0x100, 64)], .time64, .ro, .num 0, true, .any, .none⟩,
    ⟨0x50020015, [(0x100, 64)], .u16, .const, .num 0, false, .any, .none⟩,
    ⟨0x50030000, [(0x100, 4)], .u8, .ro, .num 0, true, .any, .none⟩,
    ⟨0x50030001, [(0x100, 4)], .u8, .ro, .num 255, true, .any, .none⟩,
    ⟨0x50030002, [(0x100, 4)], .u8, .wo, .num 0, false, (.span 0 11), .request⟩ ]

/-- Rows of area 0x50, part 2 (R171). -/
def dictRows50p2 : List ObjRow :=
  [ ⟨0x50030003, [(0x100, 4)], .u8, .wo, .num 0, false, (.span 0 11), .request⟩,
    ⟨0x50030004, [(0x100, 4)], .octets, .ro, .oct [], true, .any, .none⟩,
    ⟨0x50030005, [(0x100, 4)], .u8, .ro, .num 0, true, .any, .none⟩,
    ⟨0x50030400, [(0x100, 4)], .u32, .ro, .num 0, true, .any, .none⟩,
    ⟨0x50030401, [(0x100, 4)], .u8, .ro, .num 0, true, .any, .none⟩,
    ⟨0x50040000, [(0x100, 64), (0x1, 16)], .u64, .ro, .num 0, true, .any, .none⟩,
    ⟨0x50040010, [(0x100, 64)], .u16, .ro, .num 0, true, .any, .none⟩,
    ⟨0x50040011, [(0x100, 64)], .u8, .wo, .num 0, false, (.oneOf [1]), .request⟩,
    ⟨0x50050000, [(0x100, 20)], .u16, .rwp, .num 65535, true, .any, .config⟩,
    ⟨0x50050001, [(0x100, 20)], .u64, .rwp, .num 1048576, true, (.span 1024 1099511627776), .config⟩,
    ⟨0x50050002, [(0x100, 20)], .u8, .rwp, .num 255, true, (.spanOr 0 63 255), .config⟩,
    ⟨0x50050003, [(0x100, 20)], .u32, .rwp, .num 10000, true, (.span 2000 500000), .config⟩,
    ⟨0x50050004, [(0x100, 20)], .u64, .ro, .num 0, true, .any, .none⟩,
    ⟨0x50050005, [(0x100, 20)], .u32, .ro, .num 0, true, .any, .none⟩,
    ⟨0x50050006, [(0x100, 20)], .u16, .ro, .num 0, true, .any, .none⟩,
    ⟨0x50050007, [(0x100, 20)], .u8, .ro, .num 0, true, .any, .none⟩,
    ⟨0x50060000, [], .u8, .rwp, .num 15, true, (.oneOf [1, 5, 10, 15, 30, 60]), .config⟩,
    ⟨0x50060001, [], .octets, .rwp, .oct (List.replicate 8 0), true, (.len 8 8), .config⟩,
    ⟨0x50060002, [], .u64, .ro, .num 0, true, .any, .none⟩,
    ⟨0x50060003, [], .u64, .ro, .num 0, true, .any, .none⟩,
    ⟨0x50060004, [], .u64, .rw, .num 0, true, .any, .request⟩,
    ⟨0x50060005, [], .octets, .ro, .oct [], true, .any, .none⟩,
    ⟨0x50060010, [], .u64, .ro, .num 0, true, .any, .none⟩,
    ⟨0x50060011, [], .time64, .ro, .num 0, true, .any, .none⟩,
    ⟨0x50060012, [], .u8, .ro, .num 0, true, .any, .none⟩,
    ⟨0x50060013, [], .u8, .wo, .num 0, false, (.oneOf [1]), .request⟩,
    ⟨0x50060014, [], .u32, .ro, .num 0, true, .any, .none⟩,
    ⟨0x50060015, [], .u32, .ro, .num 0, true, .any, .none⟩,
    ⟨0x50080000, [(0x100, 12)], .u8, .ro, .num 255, true, .any, .none⟩,
    ⟨0x50080001, [(0x100, 12)], .u32, .ro, .num 0, true, .any, .none⟩,
    ⟨0x50080002, [(0x100, 12)], .u32, .ro, .num 0, true, .any, .none⟩,
    ⟨0x50080003, [(0x100, 12)], .bool, .ro, .num 0, true, .any, .none⟩,
    ⟨0x50080004, [(0x100, 12)], .fix32, .rwp, .num 64881, true, (.span 62259 65536), .config⟩,
    ⟨0x50080005, [(0x100, 12)], .u8, .wo, .num 0, false, (.oneOf [1]), .request⟩,
    ⟨0x50080006, [(0x100, 12)], .octets, .ro, .oct (List.replicate 128 0), true, .any, .none⟩,
    ⟨0x50080007, [(0x100, 12)], .octets, .ro, .oct (List.replicate 44 0), true, .any, .none⟩ ]

/-- The rows of area 0x50 (R171). -/
def dictRows50 : List ObjRow := dictRows50p1 ++ dictRows50p2

/-- Rows of area 0x70, part 1 (R171). -/
def dictRows70p1 : List ObjRow :=
  [ ⟨0x70000000, [], .u8, .ro, .num 0, true, .any, .none⟩,
    ⟨0x70000001, [], .u32, .ro, .num 0, true, .any, .none⟩,
    ⟨0x70000002, [], .u32, .ro, .num 0, true, .any, .none⟩,
    ⟨0x70000003, [], .u8, .rws, .num 0, true, (.span 1 2), .request⟩,
    ⟨0x70000004, [], .u16, .ro, .num 0, true, .any, .none⟩,
    ⟨0x70000005, [], .string, .rws, .oct [], true, (.len 8 32), .request⟩,
    ⟨0x70000006, [], .u8, .rws, .num 0, true, (.oneOf [1]), .request⟩,
    ⟨0x70000007, [], .u8, .rwp, .num 0, true, (.span 1 2), .request⟩,
    ⟨0x70000008, [], .u8, .ro, .num 0, true, .any, .none⟩,
    ⟨0x70000009, [], .time64, .ro, .num 0, true, .any, .none⟩,
    ⟨0x7000000A, [], .u16, .rws, .num 24, true, (.span 0 168), .safety⟩,
    ⟨0x7000000B, [], .bool, .ro, .num 0, true, .any, .none⟩,
    ⟨0x70010000, [(0x100, 12)], .u32, .ro, .num 0, true, .any, .none⟩,
    ⟨0x70010001, [(0x100, 12)], .u8, .rws, .num 0, true, (.oneOf [1]), .request⟩,
    ⟨0x70010002, [(0x100, 12)], .octets, .rws, .oct Config.slaCarReset, true, (.len 16 16), .safety⟩,
    ⟨0x70010003, [(0x100, 12)], .u32, .rws, .num 115000, true, .any, .safety⟩,
    ⟨0x70010004, [(0x100, 12)], .u32, .rws, .num 6400, true, (.span 640 64000), .safety⟩,
    ⟨0x70010005, [(0x100, 12)], .u32, .ro, .num 0, true, .any, .none⟩,
    ⟨0x70020000, [(0x100, 64)], .octets, .rws, .oct (List.replicate 16 0), true, (.len 16 16), .safety⟩,
    ⟨0x70020001, [(0x100, 64)], .u8, .rws, .num 1, true, .any, .safety⟩,
    ⟨0x70020002, [(0x100, 64)], .u8, .ro, .num 0, true, .any, .none⟩,
    ⟨0x70020003, [(0x100, 64)], .octets, .ro, .oct [], true, .any, .none⟩,
    ⟨0x70020004, [(0x100, 64)], .u32, .ro, .num 0, true, .any, .none⟩,
    ⟨0x70020005, [(0x100, 64)], .u16, .ro, .num 0, true, .any, .none⟩,
    ⟨0x70030000, [], .u64, .ro, .num 0, true, .any, .none⟩,
    ⟨0x70030001, [], .u64, .ro, .num 0, true, .any, .none⟩,
    ⟨0x70030002, [], .u64, .rw, .num 0, true, .any, .request⟩,
    ⟨0x70030003, [], .octets, .ro, .oct [], true, .any, .none⟩,
    ⟨0x70030004, [], .octets, .ro, .oct (List.replicate 32 0), true, .any, .none⟩ ]

/-- The rows of area 0x70 (R171). -/
def dictRows70 : List ObjRow := dictRows70p1

/-- Rows of area 0x78, part 1 (R171). -/
def dictRows78p1 : List ObjRow :=
  [ ⟨0x78000100, [], .u8, .rwp, .num 1, true, (.span 0 1), .config⟩,
    ⟨0x78000101, [], .u8, .ro, .num 3, true, .any, .none⟩,
    ⟨0x78000102, [], .u32, .ro, .num 0, true, .any, .none⟩,
    ⟨0x78000103, [], .u8, .ro, .num 255, true, .any, .none⟩,
    ⟨0x78000104, [], .u8, .ro, .num 6, true, .any, .none⟩,
    ⟨0x78000105, [], .u32, .ro, .num 0, true, .any, .none⟩,
    ⟨0x78000106, [], .u32, .ro, .num 0, true, .any, .none⟩,
    ⟨0x78000107, [], .u16, .ro, .num 0, false, .any, .none⟩,
    ⟨0x78000108, [], .u32, .ro, .num 0, true, .any, .none⟩,
    ⟨0x78000109, [], .u32, .ro, .num 0, true, .any, .none⟩,
    ⟨0x7800010A, [], .u8, .ro, .num 0, true, .any, .none⟩,
    ⟨0x7800010B, [], .u32, .ro, .num 0, true, .any, .none⟩,
    ⟨0x7800010C, [], .u8, .ro, .num 0, true, .any, .none⟩,
    ⟨0x7800010D, [], .u32, .ro, .num 0, true, .any, .none⟩,
    ⟨0x7800010E, [], .u32, .ro, .num 0, true, .any, .none⟩,
    ⟨0x7800010F, [], .u32, .ro, .num 0, true, .any, .none⟩,
    ⟨0x78000110, [], .u32, .ro, .num 0, true, .any, .none⟩,
    ⟨0x78000111, [], .octets, .ro, .oct (List.replicate 16 0), true, .any, .none⟩,
    ⟨0x78000112, [], .octets, .ro, .oct (List.replicate 16 0), true, .any, .none⟩,
    ⟨0x78000113, [], .u32, .ro, .num 0, true, .any, .none⟩,
    ⟨0x78000114, [], .u8, .ro, .num 0, true, .any, .none⟩,
    ⟨0x78000115, [], .u32, .ro, .num 0, true, .any, .none⟩,
    ⟨0x78000116, [], .u16, .rwp, .num 10, true, (.span 1 3600), .config⟩,
    ⟨0x78000200, [(0x1, 4)], .u32, .rwp, .num 0, true, .any, .config⟩,
    ⟨0x78000300, [(0x1, 4)], .u8, .rwp, .num 24, true, (.span 8 30), .config⟩ ]

/-- The rows of area 0x78 (R171). -/
def dictRows78 : List ObjRow := dictRows78p1

/-- Rows of area 0x60, part 1 (R171). -/
def dictRows60p1 : List ObjRow :=
  [ ⟨0x60000000, [(0x100, 64)], .u8, .rwp, .num 0, true, (.span 0 3), .config⟩,
    ⟨0x60000001, [(0x100, 64)], .bool, .rw, .num 0, true, .any, .live⟩,
    ⟨0x60000002, [(0x100, 64)], .bool, .ro, .num 0, true, .any, .none⟩,
    ⟨0x60000003, [(0x100, 64)], .bool, .ro, .num 0, true, .any, .none⟩,
    ⟨0x60000004, [(0x100, 64)], .u8, .rwp, .num 0, true, (.span 0 2), .config⟩,
    ⟨0x60000005, [(0x100, 64)], .u8, .rwp, .num 2, true, (.span 1 16), .config⟩,
    ⟨0x60000006, [(0x100, 64)], .bool, .rwp, .num 0, true, .any, .config⟩,
    ⟨0x60000007, [(0x100, 64)], .u8, .ro, .num 0, true, .any, .none⟩,
    ⟨0x60000008, [(0x100, 64)], .bool, .ro, .num 0, true, .any, .none⟩,
    ⟨0x60000009, [(0x100, 64)], .u32, .ro, .num 0, true, .any, .none⟩,
    ⟨0x60010000, [(0x100, 8)], .u8, .ro, .num 0, true, .any, .none⟩,
    ⟨0x60010001, [(0x100, 8)], .u8, .wo, .num 0, false, (.oneOf [1]), .request⟩,
    ⟨0x60010002, [(0x100, 8)], .u16, .rwp, .num 1000, true, (.oneOf [250, 500, 1000, 2000, 5000, 10000]), .config⟩,
    ⟨0x60010003, [(0x100, 8)], .u8, .rwp, .num 0, true, (.span 0 1), .config⟩,
    ⟨0x60010004, [(0x100, 8)], .u16, .ro, .num 0, true, .any, .none⟩,
    ⟨0x60010005, [(0x100, 8)], .u32, .ro, .num 0, true, .any, .none⟩,
    ⟨0x60020000, [], .u16, .rwp, .num 100, true, (.span 10 1000), .config⟩,
    ⟨0x60020001, [], .u8, .ro, .num 1, true, .any, .none⟩,
    ⟨0x60020002, [], .u32, .ro, .num 0, true, .any, .none⟩ ]

/-- The rows of area 0x60 (R171). -/
def dictRows60 : List ObjRow := dictRows60p1

/-- Rows of area 0x7C, part 1 (R171). -/
def dictRows7Cp1 : List ObjRow :=
  [ ⟨0x7C000100, [], .u64, .ro, .num 0, true, .any, .none⟩,
    ⟨0x7C000101, [], .u64, .ro, .num 0, true, .any, .none⟩,
    ⟨0x7C000102, [], .u64, .ro, .num 0, true, .any, .none⟩,
    ⟨0x7C000103, [], .u64, .rw, .num 0, true, .any, .request⟩,
    ⟨0x7C000104, [], .octets, .ro, .oct [], true, .any, .none⟩,
    ⟨0x7C000105, [], .u16, .ro, .num 0, true, .any, .none⟩,
    ⟨0x7C000106, [], .u32, .ro, .num 0, true, .any, .none⟩,
    ⟨0x7C000107, [], .u16, .rwp, .num 3600, true, (.span 0 3600), .config⟩,
    ⟨0x7C000108, [], .u32, .rwp, .num 3600, true, (.span 60 86400), .config⟩,
    ⟨0x7C000200, [], .bool, .rwp, .num 0, true, .any, .config⟩,
    ⟨0x7C000201, [], .u32, .ro, .num 0, true, .any, .none⟩,
    ⟨0x7C000202, [], .u8, .ro, .num 0, true, .any, .none⟩ ]

/-- The rows of area 0x7C (R171). -/
def dictRows7C : List ObjRow := dictRows7Cp1

/-- The rows that may hold an object of an area; an area not listed holds none (R171). -/
def dictArea (area : Nat) : List ObjRow :=
  if area = 0x00 then dictRows00
  else if area = 0x01 then dictRows01
  else if area = 0x08 then dictRows08
  else if 0x10 ≤ area ∧ area ≤ 0x1B then dictRows10
  else if area = 0x20 then dictRows20
  else if area = 0x40 then dictRows40
  else if area = 0x50 then dictRows50
  else if area = 0x60 then dictRows60
  else if area = 0x70 then dictRows70
  else if area = 0x78 then dictRows78
  else if area = 0x7C then dictRows7C
  else if area = 0x7E then dictRows7E
  else if 0x80 ≤ area ∧ area ≤ 0x83 then dictRows80
  else []

/-- The indices that an offset spells over the strides of a row, larger strides first; `none` where it names no object of the row. -/
def splitIdx : List (Nat × Nat) → Nat → Option (List Nat)
  | [], off => if off = 0 then some [] else none
  | (st, n) :: t, off =>
    if off / st < n then
      match splitIdx t (off % st) with
      | some l => some ((off / st) :: l)
      | none => none
    else none

/-- The indices of an OID in a row. -/
def ObjRow.index (r : ObjRow) (oid : Nat) : Option (List Nat) :=
  if r.base ≤ oid then splitIdx r.strides (oid - r.base) else none

/-- The row and the indices of an OID among some rows. -/
def findRow : List ObjRow → Nat → Option (ObjRow × List Nat)
  | [], _ => none
  | r :: t, oid =>
    match r.index oid with
    | some l => some (r, l)
    | none => findRow t oid

/-- The row and the indices of an OID; none where no chapter defines the object (R171). -/
def lookup (oid : Nat) : Option (ObjRow × List Nat) := findRow (dictArea (oid / 16777216)) oid

/-- The size in bytes of a scalar type (R9). -/
def Ty.size : Ty → Nat
  | .bool | .u8 | .i8 => 1
  | .u16 | .i16 => 2
  | .u32 | .i32 | .fix32 | .real32 => 4
  | .u64 | .i64 | .time64 => 8
  | .optime40 => 5
  | .octets | .string | .point => 0

/-- A type whose objects are byte strings (R9). -/
def Ty.isBytes : Ty → Bool
  | .octets | .string => true
  | _ => false

/-- A type read as two's complement (R9). -/
def Ty.isSigned : Ty → Bool
  | .i8 | .i16 | .i32 | .i64 | .fix32 => true
  | _ => false

/-- The bytes of a number of a type, least significant first (R9, R10). -/
def Ty.enc (t : Ty) (v : Int) : List Byte := leBytes t.size (unsigned (8 * t.size) v)

/-- The number that bytes spell in a type (R9, R10). -/
def Ty.dec (t : Ty) (b : List Byte) : Int :=
  if t.isSigned then signed (8 * t.size) (leNat b) else (leNat b : Int)

/-- The value lies in the range of its description. -/
def Rng.allows : Rng → Val → Bool
  | .any, _ => true
  | .span lo hi, .num v => decide (lo ≤ v ∧ v ≤ hi)
  | .oneOf l, .num v => l.contains v
  | .spanOr lo hi x, .num v => decide ((lo ≤ v ∧ v ≤ hi) ∨ v = x)
  | .step lo hi d, .num v => decide (lo ≤ v ∧ v ≤ hi ∧ v % d = 0)
  | .nonzero, .num v => v != 0
  | .len lo hi, .oct b => decide (lo ≤ b.length ∧ b.length ≤ hi)
  | .lenOneOf l, .oct b => l.contains b.length
  | _, _ => false

end Sys2Proof.Machine
end

