-- ==== Sys2Proof/Machine/Ops.lean ====
section
/-! DEFINITION. The named operations over the state: registers of the dictionary, time, records, frames out, and what the twin is
told. Every read or write of a register goes through these. -/

namespace Sys2Proof.Machine

/-- The answer of one command. -/
abbrev Answer := Host.Outcome State Fault Refusal

/-- The state with which a command begins: nothing sent out yet. -/
def State.start (s : State) : State := { s with out := [] }

/-! ### Registers of the dictionary -/

/-- The value of a scalar register (R171, R177). (DESIGN CHOICE, log entry 15.) -/
def State.get (s : State) (k : Key) : Int := Tbl.get k.dflt s.objs k.oid

/-- The state with a scalar register changed. -/
def State.set (s : State) (k : Key) (v : Int) : State := { s with objs := s.objs.put k.dflt k.oid v }

/-- The value of a register that holds a natural number. -/
def State.nat (s : State) (k : Key) : Nat := (s.get k).toNat

/-- The value of a BOOL register. -/
def State.flag (s : State) (k : Key) : Bool := s.get k != 0

/-- The state with a natural number in a register. -/
def State.setN (s : State) (k : Key) (v : Nat) : State := s.set k v

/-- The state with a BOOL register changed. -/
def State.setFlag (s : State) (k : Key) (b : Bool) : State := s.set k (if b then 1 else 0)

/-- The value of an OCTETS or STRING register. -/
def State.blob (s : State) (k : BKey) : List Byte := Tbl.get k.dflt s.blobs k.oid

/-- The state with an OCTETS or STRING register changed. -/
def State.setBlob (s : State) (k : BKey) (v : List Byte) : State := { s with blobs := s.blobs.put k.dflt k.oid v }

/-- Bit `i` of a register. -/
def State.bit (s : State) (k : Key) (i : Nat) : Bool := (s.nat k).testBit i

/-- The state with bit `i` of a register changed. -/
def State.setBit (s : State) (k : Key) (i : Nat) (b : Bool) : State := s.setN k (withBit (s.nat k) i b)

/-- A counter of `w` bits increased by `n`; it saturates (R167). -/
def State.count (s : State) (k : Key) (w : Nat) (n : Nat := 1) : State :=
  s.setN k (min (s.nat k + n) (2 ^ w - 1))

/-! ### Sending out -/

/-- The state with one more effect sent out. (DESIGN CHOICE, log entry 7.) -/
def State.emit (s : State) (o : Out) : State := { s with out := s.out ++ [o] }

/-! ### Free values -/

/-- A value that the manual leaves open, and the state after drawing it: nothing constrains it. (DESIGN CHOICE, log entry 8.) -/
def State.free (s : State) : BitVec 64 × State := (Config.free s.freeCtr, { s with freeCtr := s.freeCtr + 1 })

/-! ### Time -/

/-- TIME_NOW: the whole nanoseconds of the time base (R141). -/
def State.time (s : State) : Nat := s.tb.now.toNat / 4294967296

/-- OPTIME_NOW (R168). -/
def State.optime (s : State) : Nat := s.tb.op.toNat

/-- Nanoseconds of a whole number of microseconds. -/
abbrev us (n : Nat) : Nat := n * 1000

/-- Nanoseconds of a whole number of milliseconds. -/
abbrev ms (n : Nat) : Nat := n * 1000000

/-- Nanoseconds of a whole number of seconds. -/
abbrev sec (n : Nat) : Nat := n * 1000000000

/-- At least `ns` nanoseconds have passed since the model instant `t`. -/
def State.passed (s : State) (t ns : Nat) : Bool := decide (t + ns ≤ s.clk)

/-- A domain's bit in PD_STATE and CK_GOOD (R109). -/
def domBit : Domain → Nat
  | .aon => 0
  | .sla => 1
  | .safe => 2
  | .app => 3
  | .ce => 4
  | .met => 5
  | .pos => 6
  | .dl => 7
  | .bus => 8
  | .net => 9
  | .mem => 10
  | .twin => 11

/-- A power domain is on (R108). -/
def State.pd (s : State) (d : Domain) : Bool := s.bit Oid.PD_STATE (domBit d)

/-- Clock-good of a domain is asserted (R87, R108). -/
def State.ck (s : State) (d : Domain) : Bool := s.bit Oid.CK_GOOD (domBit d)

/-- The blocks of a domain run: the domain is on, its clock is good, and it is not gated by a freeze (R80, R89, R652). CK-AON runs
from the burst oscillator where the crystal is not good (R88). -/
def State.up (s : State) (d : Domain) : Bool :=
  s.pd d && (s.ck d || d == .aon) && (s.mode != .frozen || d == .aon || d == .sla)

/-- `n` CK-NET cycles of 8 ns pass: elapsed time, the time base with its rate correction, and the operating time (R141, R168).
(DESIGN CHOICE, log entry 3.) -/
def State.cycles (s : State) (n : Nat) : State :=
  let now := if s.up .net then s.tb.now + BitVec.ofInt 96 ((8 * 4294967296 + s.tb.rate) * n) else s.tb.now
  let f := if s.pd .aon then s.tb.opFrac + 8192 * n else s.tb.opFrac
  { s with
    clk := s.clk + 8 * n
    tb := { s.tb with now := now, opFrac := f % 1000000000, op := s.tb.op + BitVec.ofNat 40 (f / 1000000000)
                      wrapped := s.tb.wrapped || decide (2 ^ 40 ≤ s.tb.op.toNat + f / 1000000000) } }

/-- A row comes when its time has come: where the model's clock has not reached the instant `t`, that time passes first.
(DESIGN CHOICE, log entries 3 and 128.) -/
def State.reach (s : State) (t : Nat) : State := s.cycles ((t - s.clk + 7) / 8)

/-- What comes at the multiples of a period of the time base: time passes to the first one that is not past. (DESIGN CHOICE, log entry 128.) -/
def State.toMultiple (s : State) (p : Nat) : State := s.cycles (((s.time + p - 1) / p * p - s.time + 7) / 8)

/-- What comes `off` ns after the multiples of a period of the time base: time passes to the first such instant that is not past.
(DESIGN CHOICE, log entry 128.) -/
def State.toPhase (s : State) (p off : Nat) : State := s.cycles ((p - 1 - (s.time + 2 * p - 1 - off) % p + 7) / 8)

/-! ### Blocks -/

/-- The bit of a block in BLOCK_RST, RST_PEND and BLOCK_IN_RST (R127). -/
inductive Blk where
  | pu (n : Nat) | dl (k : Nat) | can (c : Nat) | rs485 (m : Nat) | netPort (p : Nat) | t1l (q : Nat) | island (i : Nat)
deriving DecidableEq, Repr

/-- Block bit layout (R127). -/
def Blk.num : Blk → Nat
  | .pu n => n
  | .dl k => 12 + k
  | .can c => 36 + c
  | .rs485 m => 44 + m
  | .netPort p => 52 + p
  | .t1l q => 56 + q
  | .island i => 60 + i

/-- The domain of a block bit (R14, R127). -/
def blockDomain (b : Nat) : Domain :=
  if b < 12 then .pos else if b < 36 then .dl else if b < 52 then .bus else if b < 60 then .net else .met

/-- A block runs: its domain runs and its own reset is not asserted (R80, R127). -/
def State.runs (s : State) (b : Blk) : Bool :=
  s.up (blockDomain b.num) && !s.bit Oid.BLOCK_IN_RST b.num

/-- The control software runs: the S-pair and the application cluster run, start-up has been completed (R4). -/
def State.serving (s : State) : Bool :=
  s.up .safe && s.up .app && s.up .mem && (s.mode == .service || s.mode == .standby || s.mode == .active)

/-- The firmware runs on the S-pair, in BOOT as well (R134). -/
def State.booted (s : State) : Bool := s.up .safe && s.up .mem && s.mode != .frozen

/-! ### The gate and the twin -/

/-- ACTIVE_IN as the gate reads it: under a loop fault, deasserted by a module whose own ACTIVE_OUT is asserted, and asserted by
another (R71). -/
def State.activeIn (s : State) : Bool := if s.tw.ilkFault = 0 then s.tw.activeIn else !s.tw.activeOut

/-- The hardware gate permits this module's outputs (R553); a loop fault leaves it as it is (R71). -/
def State.gate (s : State) : Bool := s.tw.activeOut && !(if s.tw.ilkFault = 0 then s.tw.activeIn else s.tw.ilkShut)

/-- The module drives outputs: ACTIVE or SERVICE (R4). -/
def State.drives (s : State) : Bool := s.mode == .active || s.mode == .service

/-- The twin is a healthy standby: STANDBY, HEALTHY or DEGRADED, and confirming (R560). -/
def State.healthyStandby (s : State) : Bool :=
  s.nat Oid.TW_TWIN_STATE == 2 && decide (s.nat Oid.TW_TWIN_SUMMARY ≤ 1) && s.tw.inStep

/-- Adds an item to the mirror batch that is open; only the module that drives outputs mirrors (R580). -/
def State.mirror (s : State) (b : BatchItem) : State :=
  if s.drives then { s with tw := { s.tw with openBatch := b :: s.tw.openBatch } } else s

/-- Mirrors the present values of some registers as one item of a kind (R581). -/
def State.mirrorRegs (s : State) (kind : Nat) (ks : List Key) (bs : List BKey := []) : State :=
  s.mirror (.values kind (ks.map (fun k => (k.oid, s.get k))) (bs.map (fun k => (k.oid, s.blob k))))

/-! ### Records -/

/-- The record with the highest sequence number. -/
def Recorder.last (r : Recorder) : Option Rec := r.ring.head?

/-- How many records lie in the pending area (REC_PENDING, R645). -/
def Recorder.waitingCount (r : Recorder) : Nat := (r.ring.filter (·.waiting)).length

/-- Writes a head word each time REC_NEXT reaches a multiple of 4,096 (R646). -/
def Recorder.advance (r : Recorder) : Recorder :=
  let n := r.next + 1
  if n % 4096 = 0 then { r with next := n, heads := r.heads.set r.headAt n, headAt := (r.headAt + 1) % 8 }
  else { r with next := n }

/-- Appends an accepted record with an operating time (R642). -/
def State.acceptAt (s : State) (op code src p0 p1 p2 : Nat) (always : Bool) : State :=
  let r : Rec :=
    { seq := s.rcd.next, code := code, src := src, optime := op, cycles := s.nat Oid.POWER_CYCLES
      p0 := p0 % 4294967296, p1 := p1 % 4294967296, p2 := p2 % 4294967296
      always := always, waiting := !always }
  { s with rcd := { s.rcd.advance with ring := r :: s.rcd.ring } }

/-- Appends an accepted record at the present operating time (R642). -/
def State.accept (s : State) (code src p0 p1 p2 : Nat) (always : Bool) : State := s.acceptAt s.optime code src p0 p1 p2 always

/-- Whether an offered record merges into the last one (R644). -/
def State.merges (s : State) (code src p0 p1 p2 : Nat) : Bool :=
  match s.rcd.last with
  | none => false
  | some r =>
    r.code == code && r.src == src && r.p0 == p0 % 4294967296 && r.p1 == p1 % 4294967296 && r.p2 == p2 % 4294967296
      && !r.always && r.cycles == s.nat Oid.POWER_CYCLES
      && s.nat Oid.REC_REPEAT_WINDOW != 0
      && decide (s.optime ≤ r.optime + 1024 * s.nat Oid.REC_REPEAT_WINDOW)

/-- The last record with its REPEAT increased, saturating at 65,535 (R644). -/
def Recorder.mergeLast (r : Recorder) : Recorder :=
  match r.ring with
  | [] => r
  | x :: t => { r with ring := { x with repeats := min (x.repeats + 1) 65535 } :: t }

/-- A record offered on the recorder path: merged, accepted, or dropped while the pending area is full (R644, R645). -/
def State.offer (s : State) (code src p0 p1 p2 : Nat) : State :=
  if s.merges code src p0 p1 p2 then { s with rcd := s.rcd.mergeLast }
  else if s.rcd.waitingCount ≥ 32768 then
    let r := s.rcd
    { (s.count Oid.REC_DROPPED 32) with
      rcd := { r with droppedRun := r.droppedRun + 1, firstDrop := if r.droppedRun = 0 then r.next else r.firstDrop } }
  else s.accept code src p0 p1 p2 false

/-- An event of the module as a whole, SOURCE 0xFFFF, offered on the recorder path (R641, R642). -/
def State.event (s : State) (code : Nat) (p0 : Nat := 0) (p1 : Nat := 0) (p2 : Nat := 0) : State :=
  s.offer code 0xFFFF p0 p1 p2

/-- An event with a source of its own, offered on the recorder path (R641, R642). -/
def State.eventOf (s : State) (code src : Nat) (p0 : Nat := 0) (p1 : Nat := 0) (p2 : Nat := 0) : State :=
  s.offer code src p0 p1 p2

/-- An event on the always-on path, written to MRAM directly (R642). -/
def State.eventAon (s : State) (code : Nat) (p0 : Nat := 0) (p1 : Nat := 0) (p2 : Nat := 0) : State :=
  s.accept code 0xFFFF p0 p1 p2 true

/-- A signed value as the 32 bits of a record parameter. -/
def par (v : Int) : Nat := unsigned 32 v

/-- MODULE_STATE takes a new value outside a reset: recorded with its trigger (R37). -/
def State.enter (s : State) (m : Mode) (trigger : Nat) : State :=
  { s with mode := m }.event 0x010A s.mode.code m.code trigger

/-- Writes every pending record to MRAM (R113, R645). -/
def State.flushRecords (s : State) : State :=
  { s with rcd := { s.rcd with
      ring := s.rcd.ring.map (fun r =>
        if r.waiting || r.repeats != r.mramRepeats then { r with waiting := false, mramRepeats := r.repeats, mramAt := s.clk } else r) } }

/-- Loses the records that no MRAM slot holds (R112). -/
def State.losePending (s : State) : State :=
  { s with rcd := { s.rcd with ring := (s.rcd.ring.filter (fun r => !r.waiting)).map (fun r => { r with repeats := r.mramRepeats }) } }

end Sys2Proof.Machine
end

