-- ==== Sys2Proof/Machine/Ledger.lean ====
section
/-! DEFINITION. The admission ledger: accounts, the two tests, refusal, degradation and restoration (R26 to R28, R228 to R237). -/

namespace Sys2Proof.Machine

/-- The status codes of every route into the dictionary (R201). -/
inductive Status where
  | ok | noObject | access | type | range | loopClosed | noBudget | partition | safetyLocked | busy | tooLate | standby | frozen
  | integrity
deriving DecidableEq, Repr

/-- The code of a status (R201). -/
def Status.code : Status → Nat
  | .ok => 0x00
  | .noObject => 0x01
  | .access => 0x02
  | .type => 0x03
  | .range => 0x04
  | .loopClosed => 0x05
  | .noBudget => 0x06
  | .partition => 0x07
  | .safetyLocked => 0x08
  | .busy => 0x09
  | .tooLate => 0x0A
  | .standby => 0x0B
  | .frozen => 0x0C
  | .integrity => 0x0D

/-- A refusal: its status, and the payload of its response. -/
structure Refuse where
  st : Status
  payload : List Byte := []
  /-- Of a NO_BUDGET refusal: account, headroom, need (R232). -/
  excess : Option (Nat × Nat × Nat) := none
deriving DecidableEq, Repr

/-- A refusal with a status alone. (DEDUCED, log entry 70.) -/
def refuse (st : Status) : Option Refuse := some { st := st }

/-- A check that passes where its condition holds, and refuses with a status elsewhere. -/
def need (c : Bool) (st : Status) : Option Refuse := if c then none else refuse st

/-- The first refusal of two checks made in order. -/
def andThen (a b : Option Refuse) : Option Refuse :=
  match a with
  | some r => some r
  | none => b

/-- The first refusal of some checks made in order. -/
def firstOf : List (Option Refuse) → Option Refuse
  | [] => none
  | a :: t => andThen a (firstOf t)

/-- An account of a link, bus or core share, whose load counts by class (R230). -/
def acctClassed (a : Nat) : Bool := decide (a < 0x10) || (decide (0x10 ≤ a) && decide (a ≤ 0x21))

/-- A core-share account (R231). -/
def acctCore (a : Nat) : Bool := a == 0x20 || a == 0x21

/-- The number of set bits of a word. -/
def popCount (v n : Nat) : Nat := ((List.range n).filter (fun i => v.testBit i)).length

/-- The heat headroom of R675, mK: from DIE_TEMP (0.1 °C) to 95.0 °C, 0 at or above it. -/
def heatCapacity (dieTemp : Int) : Nat := ((950 - dieTemp) * 100).toNat

/-- A CAN channel beyond its objects. -/
def State.canCh (s : State) (c : Nat) : CanCh := Tbl.get {} s.can c

/-- That changed. -/
def State.setCan (s : State) (c : Nat) (x : CanCh) : State := { s with can := s.can.put {} c x }

/-- RS485_MODE of a channel is MS/TP (R255). -/
def State.rsMstp (s : State) (m : Nat) : Bool := Tbl.get (Config.rsMstp m) s.pts.rsMstp m

/-- The baud rates of MS/TP and of Modbus RTU (R246, R252). -/
def rsRates (mstp : Bool) : List Nat := if mstp then [9600, 19200, 38400, 76800, 115200] else [9600, 19200, 38400, 57600, 115200]

/-- Configured baud of an RS-485 channel: one of those that its mode allows (R229, R246, R252); each octet takes 11 bit-times, with even
parity and 1 stop bit or with 2 stop bits. (DESIGN CHOICE, log entry 63.) -/
def State.rsBaud (s : State) (m : Nat) : Nat :=
  (rsRates (s.rsMstp m)).getD (Tbl.get (Config.rsBaud m) s.pts.rsBaud m).val 9600

/-- The path or resource behind an account is usable (ACC_HEALTHY, R229, R233); power and heat are PD-AON's, before the S-pair runs as well
(R105, R675). (DESIGN CHOICE, log entry 35.) -/
def State.acctHealthy (s : State) (a : Nat) : Bool :=
  if a < 0x04 then s.runs (.netPort a) && Tbl.get true s.pts.healthy a
  else if a < 0x08 then s.runs (.t1l (a - 0x04)) && Tbl.get true s.pts.healthy a
  else if a = 0x08 then s.up .twin && s.bit Oid.TW_LANES 0
  else if a = 0x09 then s.up .twin && s.bit Oid.TW_LANES 1
  else if 0x10 ≤ a ∧ a < 0x18 then s.runs (.can (a - 0x10)) && (s.canCh (a - 0x10)).mode == 4 && !(s.canCh (a - 0x10)).busOff
  else if 0x18 ≤ a ∧ a < 0x20 then s.runs (.rs485 (a - 0x18)) && Tbl.get true s.pts.healthy a
  else if a = 0x20 then s.up .app
  else if 0x30 ≤ a ∧ a ≤ 0x32 then s.up .ce
  else if a = 0x40 ∨ a = 0x48 then s.pd .aon
  else s.booted

/-- The capacity of an account while it is healthy (R229). -/
def State.acctSize (s : State) (a : Nat) : Nat :=
  if a < 0x04 then 1000000000
  else if a < 0x08 then 10000000
  else if a < 0x0A then 9600000000
  else if 0x10 ≤ a ∧ a < 0x18 then s.nat (Oid.CAN_NBR (a - 0x10))
  else if 0x18 ≤ a ∧ a < 0x20 then s.rsBaud (a - 0x18)
  else if a = 0x20 then 300000 * popCount s.pow.inService.toNat 16
  else if a = 0x21 then 100000
  else if a = 0x30 then 96
  else if a = 0x31 then 1024
  else if a = 0x32 then 65536
  else if a = 0x38 then 16384
  else if a = 0x40 then 55000
  else if a = 0x41 then (if s.flag Oid.EP_ACTIVE then s.nat Oid.EP_BUDGET else 0xFFFFFFFF)
  else if a = 0x48 then heatCapacity (s.get Oid.DIE_TEMP)
  else 0

/-- ACC_CAPACITY: the present capacity, 0 while the account is not healthy (R233). -/
def State.acctCap (s : State) (a : Nat) : Nat := if s.acctHealthy a then s.acctSize a else 0

/-- The load that some charges put on an account. -/
def chargeOn (l : List (Nat × Nat)) (a : Nat) : Nat := ((l.filter (·.1 == a)).map (·.2)).sum

/-- The load of an item on an account. -/
def Item.load (i : Item) (a : Nat) : Nat := chargeOn i.charges a

/-! ### Launches in their emission slots (R161) -/

/-- A launch of the queue that has not been applied, emitted, cancelled or refused. -/
def Launch.live (l : Launch) : Bool := l.state == .waiting || l.state == .committed

/-- The emission slot of a launch time: the second that holds it, as the capacities of links and buses count by the second (R161, R229).
(DEDUCED, log entry 54.) -/
def slotOf (time : Nat) : Nat := time / 1000000000

/-- The load that the launches of one slot, of the classes that `p` picks out, put on an account (R161). -/
def State.slotLoad (s : State) (p : Nat → Bool) (a slot : Nat) : Nat :=
  ((s.launches.filter (fun l => l.live && p l.cls && slotOf l.time == slot)).map (fun l => chargeOn l.charges a)).sum

/-- The load of the fullest slot (R161). -/
def State.slotPeak (s : State) (p : Nat → Bool) (a : Nat) : Nat :=
  ((s.launches.filter (fun l => l.live && l.charges.any (·.1 == a))).map (fun l => s.slotLoad p a (slotOf l.time))).foldl max 0

/-! ### The power account in SPRING and the generator account (R105, R443, R665) -/

/-- The maximum figure of a domain, mW, and the sub-units over which it is split: cores, islands, door channels (R665). -/
def domMax : Domain → Nat × Nat
  | .aon => (500, 1)
  | .sla => (600, 1)
  | .safe => (1600, 1)
  | .app => (18000, 16)
  | .ce => (4500, 1)
  | .met => (5000, 4)
  | .pos => (2000, 1)
  | .dl => (7000, 24)
  | .bus => (4000, 1)
  | .net => (4500, 1)
  | .mem => (4000, 1)
  | .twin => (1000, 1)

/-- The charge of a domain with `n` of its sub-units on, mW: the maximum figure in equal shares, rounded up (R105, R665).
(DESIGN CHOICE, log entry 35.) -/
def domMw (d : Domain) (n : Nat) : Nat := ((domMax d).1 * n + (domMax d).2 - 1) / (domMax d).2

/-- How many sub-units of a domain are charged: cores, islands, door channels; one for any other domain that is on (R105). -/
def State.unitsOn (s : State) (d : Domain) : Nat :=
  match d with
  | .app => popCount s.pow.inService.toNat 16
  | .met => popCount (s.nat Oid.MI_ON) 4
  | .dl => popCount (s.nat Oid.DL_ON) 24
  | _ => boolNat (s.pd d)

/-- Every domain. -/
def allDomains : List Domain := [.aon, .sla, .safe, .app, .ce, .met, .pos, .dl, .bus, .net, .mem, .twin]

/-- What SPRING has charged to the power account, mW: the domains that are on, and the holdup charger (R97, R105).
(DESIGN CHOICE, log entry 35.) -/
def State.springMw (s : State) : Nat :=
  (allDomains.map (fun d => domMw d (s.unitsOn d))).sum + (if s.pow.charging then 8000 else 0)

/-- How many SPRING steps the power account carries (R26, R105). -/
def State.springCharges (s : State) : Nat := (allDomains.filter (fun d => s.unitsOn d != 0)).length + boolNat s.pow.charging

/-- The cars whose start is charged to the generator account: STARTING, RUNNING, RELEVELLING, and a run in INSPECTION or RESCUE, while
EP_ACTIVE is true (R26, R443). -/
def State.epCars (s : State) : List Nat :=
  if s.flag Oid.EP_ACTIVE then
    (List.range 12).filter (fun n =>
      let c := s.nat (Oid.CAR_STATE n)
      c == 3 || c == 4 || c == 10 || ((c == 11 || c == 14) && (Tbl.get {} s.dsp.cars n).run))
  else []

/-- What an account carries beside its items: the power account the steps of SPRING, the generator account the predicted load of the moving
cars, EP_PREDICTED (R26, R105, R443). -/
def State.acctExtra (s : State) (a : Nat) : Nat :=
  if a = 0x40 then s.springMw else if a = 0x41 then (if s.flag Oid.EP_ACTIVE then s.nat Oid.EP_PREDICTED else 0) else 0

/-- The items charged to an account: those of the ledger, the steps of SPRING, and the starts of cars (ACC_ITEMS, R233, R443). -/
def State.acctItems (s : State) (a : Nat) : Nat :=
  (s.pts.items.filter (fun (x : Item) => x.charges.any (fun c => c.1 == a))).length
    + (if a = 0x40 then s.springCharges else if a = 0x41 then s.epCars.length else 0)

/-! ### Loads and headroom -/

/-- The charged load of the items of one class on an account; a degraded item holds none (R236). -/
def State.itemLoad (s : State) (a cls : Nat) : Nat :=
  ((s.pts.items.filter (fun i => i.cls == cls && !i.degraded)).map (·.load a)).sum

/-- The charged load of one class alone on an account (ACC_LOAD): its items, and the launches of its fullest slot (R161, R233). -/
def State.acctLoad (s : State) (a cls : Nat) : Nat := s.itemLoad a cls + s.slotPeak (· == cls) a

/-- The used amount of an account over all classes (R230). -/
def State.acctUsed (s : State) (a : Nat) : Nat := ((s.pts.items.filter (!·.degraded)).map (·.load a)).sum + s.acctExtra a

/-- The load of the items of classes A to j on an account. -/
def State.itemSum (s : State) (a j : Nat) : Nat := ((List.range (j + 1)).map (s.itemLoad a)).sum

/-- S(j): the charged load of classes A to j together, with the launches of the fullest slot (R161, R230). -/
def State.acctSum (s : State) (a j : Nat) : Nat := s.itemSum a j + s.slotPeak (fun c => decide (c ≤ j)) a

/-- U(j) in hundredths (R230). -/
def ceilPct (j : Nat) : Nat := if j = 0 then 25 else if j = 1 then 50 else if j = 2 then 75 else 90

/-- U(j) × capacity; the whole capacity of an account that does not count by class (R230). -/
def State.ceiling (s : State) (a j : Nat) : Nat := if acctClassed a then s.acctCap a * ceilPct j / 100 else s.acctCap a

/-- The classes from `k` to D. -/
def classesFrom (k : Nat) : List Nat := (List.range 4).filter (fun j => decide (k ≤ j))

/-- The headroom of an account for an item of class `k` (R230). -/
def State.headroom (s : State) (a k : Nat) : Nat :=
  if acctClassed a then
    ((classesFrom k).map (fun j => s.ceiling a j - s.acctSum a j)).foldl min (s.acctCap a)
  else s.acctCap a - s.acctUsed a

/-- The headroom that one emission slot leaves on an account for a launch of class `k` (R161, R230). -/
def State.slotHeadroom (s : State) (a k slot : Nat) : Nat :=
  ((classesFrom k).map (fun j => s.ceiling a j - (s.itemSum a j + s.slotLoad (fun c => decide (c ≤ j)) a slot))).foldl min (s.acctCap a)

/-- An unhealthy lane account is left out of every test while the other lane is healthy (R577). -/
def State.leftOut (s : State) (a : Nat) : Bool :=
  (a == 0x08 && !s.acctHealthy 0x08 && s.acctHealthy 0x09) || (a == 0x09 && !s.acctHealthy 0x09 && s.acctHealthy 0x08)

/-- The load test of one account for an item (R230). -/
def State.loadOk (s : State) (a k load : Nat) : Bool :=
  s.leftOut a || decide (load ≤ s.headroom a k)

/-- The queueing term Q of an account for a class, µs (R231). -/
def queueUs (a k : Nat) : Nat :=
  if acctCore a then (if k = 0 then 250 else if k = 1 then 2000 else if k = 2 then 50000 else 1000000)
  else if acctClassed a then (if k = 0 then 200 else if k = 1 then 1000 else if k = 2 then 20000 else 500000)
  else 0

/-- The class bound, µs (R225). -/
def boundUs (k : Nat) : Nat := if k = 0 then 2000 else if k = 1 then 10000 else if k = 2 then 200000 else 5000000

/-- The accounts on an item's path; the two lanes are alternatives of one path and count once (R231, R577). -/
def Item.path (i : Item) : List Nat :=
  let l := (i.charges.map (·.1)).eraseDups
  if l.contains 0x08 then l.filter (· != 0x09) else l

/-- The latency of an item along its path, µs (R231). -/
def Item.latencyUs (i : Item) : Nat := (i.path.map (fun a => queueUs a i.cls)).sum + i.waitUs

/-- The worse of two failing accounts: the one whose headroom divided by the load on it is smaller (R232). -/
def worse (x y : Nat × Nat × Nat) : Nat × Nat × Nat :=
  if y.2.1 * x.2.2 < x.2.1 * y.2.2 then y else x

/-- The account a refusal names, its headroom and the need; none where the item passes both tests (R230 to R232). -/
def State.refusedBy (s : State) (i : Item) : Option (Nat × Nat × Nat) :=
  let bad := (i.charges.filter (fun c => !s.loadOk c.1 i.cls (i.load c.1))).map (fun c => (c.1, s.headroom c.1 i.cls, i.load c.1))
  match bad with
  | x :: t => some (t.foldl worse x)
  | [] =>
    if i.latencyUs ≤ boundUs i.cls then none
    else
      match i.path with
      | [] => none
      | a :: t => some (t.foldl (fun b c => if queueUs c i.cls > queueUs b i.cls then c else b) a, boundUs i.cls, i.latencyUs)

/-- The response of a NO_BUDGET refusal (R27, R202). (DEDUCED, log entry 70.) -/
def noBudget (r : Nat × Nat × Nat) : Refuse :=
  { st := .noBudget
    payload := leBytes 4 (0x7E000000 + r.1 * 256) ++ leBytes 4 (min r.2.1 0xFFFFFFFF) ++ leBytes 4 (min r.2.2 0xFFFFFFFF)
    excess := some r }

/-- The state after a refusal: the account's refusal counter, and the record (R232, R256). -/
def State.noteRefusal (s : State) (r : Nat × Nat × Nat) : State :=
  (s.count (Oid.ACC_REFUSALS r.1) 32).event 0x0F05 r.1 r.2.1 r.2.2

/-- An item's kind and number, as the mirror names it (R581). -/
def itemCode (k : ItemKind) : Nat × Nat :=
  match k with
  | .pointSource p => (1, p)
  | .pointSink p => (2, p)
  | .subscription h => (3, h)
  | .session n => (4, n)
  | .launch part tag => (5, part * 2 ^ 32 + tag)
  | .loop c j => (6, j * 4 + c)
  | .canEntry c e => (7, e * 8 + c)
  | .test t => (8, t)
  | .batches => (9, 0)
  | .telegram t => (10, t)

/-- The state with an item added to the ledger, and told to the twin (R26, R581). -/
def State.addItem (s : State) (i : Item) : State :=
  let i := { i with id := s.pts.nextItem }
  { s with pts := { s.pts with items := s.pts.items ++ [i], nextItem := s.pts.nextItem + 1 } }.mirror
    (.ledgerAdmit (itemCode i.kind).1 (itemCode i.kind).2 i.cls i.charges)

/-- The sum of some items of one class, for the check of a request as a whole (R239). -/
def sumItem (cls : Nat) (l : List Item) : Item :=
  { id := 0, kind := .batches, cls := cls, charges := (l.filter (·.cls == cls)).flatMap (·.charges)
    waitUs := ((l.filter (·.cls == cls)).map (·.waitUs)).foldl max 0 }

/-- Checks some items together, class by class; the first refusal (R239). -/
def State.admitCheck (s : State) (l : List Item) : Option (Nat × Nat × Nat) :=
  ([0, 1, 2, 3].filter (fun c => l.any (·.cls == c))).findSome? (fun c =>
    let before := l.filter (fun i => decide (i.cls < c))
    { s with pts := { s.pts with items := s.pts.items ++ before } }.refusedBy (sumItem c l))

/-- Whether some items would be admitted once the items that `drop` picks out are gone; the refusal if not (R26). -/
def State.admits (s : State) (drop : Item → Bool) (l : List Item) : Option Refuse :=
  ({ s with pts := { s.pts with items := s.pts.items.filter (fun i => !drop i) } }.admitCheck l).map noBudget

/-- Admits some items all or nothing (R26, R239): the refusal and its record, or the ledger with them. -/
def State.tryAdmit (s : State) (l : List Item) : Option Refuse × State :=
  match s.admitCheck l with
  | some r => (some (noBudget r), s.noteRefusal r)
  | none => (none, l.foldl State.addItem s)

/-- The state without the items that `p` picks out; their charge is free at once (R213, R242). -/
def State.dropItems (s : State) (p : Item → Bool) : State :=
  let gone := s.pts.items.filter p
  gone.foldl (fun s i => s.mirror (.ledgerRemove (itemCode i.kind).1 (itemCode i.kind).2))
    { s with pts := { s.pts with items := s.pts.items.filter (fun i => !p i) } }

/-- The account of a binding's PORT, none for a path without a port (R221, R229); BACnet/SC rides on NET0's account. -/
def portAcct (port : Nat) : Option Nat :=
  if port ≤ 0x03 then some port
  else if 0x10 ≤ port ∧ port ≤ 0x13 then some (port - 0x10 + 0x04)
  else if 0x20 ≤ port ∧ port ≤ 0x27 then some (port - 0x20 + 0x18)
  else if 0x30 ≤ port ∧ port ≤ 0x37 then some (port - 0x30 + 0x10)
  else if port = 0xFE then some 0x00
  else none

/-- The point or handle that a DEGRADE or RESTORE record names (R256). -/
def Item.record (i : Item) : Nat :=
  match i.kind with
  | .pointSource p => p
  | .pointSink p => p
  | .subscription h => h
  | .session n => n
  | .launch _ t => t
  | .loop c j => c * 65536 + j
  | .canEntry c e => c * 256 + e
  | .test t => t
  | .batches => 0
  | .telegram t => 0x100 + t

/-- What the point service holds of a point beside its objects. -/
def State.ptAux (s : State) (p : Nat) : PtAux := Tbl.get {} s.pts.aux p

/-- The state with that changed. -/
def State.setPtAux (s : State) (p : Nat) (a : PtAux) : State :=
  { s with pts := { s.pts with aux := s.pts.aux.put {} p a } }

/-- Marks the subscriptions that observe a changed object of a point (R240, R241). -/
def State.markSubs (s : State) (p sub : Nat) : State :=
  { s with pts := { s.pts with
      subs := s.pts.subs.map (fun x => if x.point = p ∧ x.sub = sub then { x with changes := x.changes + 1 } else x) } }

/-- STATUS takes a bit; the subscriptions to STATUS follow a change (R216, R240). -/
def State.ptStatusBit (s : State) (p i : Nat) (b : Bool) : State :=
  if s.bit (Oid.PT_STATUS p) i = b then s
  else
    let s := s.setBit (Oid.PT_STATUS p) i b
    (s.setPtAux p { s.ptAux p with statusAt := s.time }).markSubs p 5

/-- The deliveries of a point are degraded: its source's item or its sink's (R216). -/
def State.pointDegraded (s : State) (p : Nat) : Bool :=
  s.pts.items.any (fun i => i.degraded && (i.kind == .pointSource p || i.kind == .pointSink p))

/-- DEGRADED in the status of an item's point follows the point's items (R216, R236). -/
def State.markDegraded (s : State) (k : ItemKind) : State :=
  match k with
  | .pointSource p => s.ptStatusBit p 4 (s.pointDegraded p)
  | .pointSink p => s.ptStatusBit p 4 (s.pointDegraded p)
  | _ => s

/-- An item changed in the ledger. -/
def State.setItem (s : State) (i : Item) : State :=
  { s with pts := { s.pts with items := s.pts.items.map (fun x => if x.id = i.id then i else x) } }

/-- Degrades one item on account `a` (R236). -/
def State.degrade (s : State) (a : Nat) (i : Item) : State :=
  (((s.setItem { i with degraded := true }).markDegraded i.kind).event 0x0F02 i.record i.cls a).mirror
    (.ledgerDegrade (itemCode i.kind).1 (itemCode i.kind).2 true)

/-- The latest class whose ceiling fails on an account (R235). -/
def State.failingClass (s : State) (a : Nat) : Option Nat :=
  if s.leftOut a then none
  else ([3, 2, 1, 0].find? (fun j => decide (s.ceiling a j < s.acctSum a j)))

/-- An item that may be degraded on an account: not degraded yet, and no running test, which only R21 stops. -/
def Item.candidate (i : Item) (a j : Nat) : Bool :=
  i.cls == j && !i.degraded && decide (0 < i.load a) && (match i.kind with
    | .test _ => false
    | _ => true)

/-- The most recently accepted item, not degraded, of class `j` on account `a`, else of the class before, towards A (R235). -/
def State.victim (s : State) (a : Nat) : Nat → Option Item
  | 0 => (s.pts.items.filter (fun i => i.candidate a 0)).getLast?
  | j + 1 =>
    match (s.pts.items.filter (fun i => i.candidate a (j + 1))).getLast? with
    | some i => some i
    | none => s.victim a j

/-- Repeats the step of R235 on one account, at most `n` times. -/
def State.degradeOn (a : Nat) : Nat → State → State
  | 0, s => s
  | n + 1, s =>
    match s.failingClass a with
    | none => s
    | some j =>
      match s.victim a j with
      | none => s
      | some i => State.degradeOn a n (s.degrade a i)

/-- An item on the other of its two paths, with what it charges there (R234, R237). -/
def Item.swap (i : Item) : Item :=
  { i with charges := i.altCharges, waitUs := i.altWaitUs, altCharges := i.charges, altWaitUs := i.waitUs, moved := !i.moved }

/-- The account of the path that carries an item, and that of its other path (R221, R234). -/
def Item.acct (i : Item) : Option Nat := portAcct (if i.moved then i.alt else i.port)
def Item.otherAcct (i : Item) : Option Nat := portAcct (if i.moved then i.port else i.alt)

/-- An account whose path is lost to an item that uses it: unhealthy, and not a lane left out (R235, R577). -/
def State.pathLost (s : State) (a : Nat) : Bool := acctClassed a && !s.acctHealthy a && !s.leftOut a

/-- The state without one item of the ledger, for a test of what would take its place. -/
def State.withoutItem (s : State) (i : Item) : State := { s with pts := { s.pts with items := s.pts.items.filter (·.id != i.id) } }

/-- An item's other path is healthy and takes it under the tests of R230 and R231 (R234). -/
def State.swapFits (s : State) (i : Item) : Bool :=
  (match i.otherAcct with
    | some b => s.acctHealthy b
    | none => false)
    && !i.swap.charges.any (fun c => s.pathLost c.1) && ((s.withoutItem i).refusedBy i.swap).isNone

/-- An item goes to the other of its two paths; recorded, and the twin is told what it charges now (R30, R234, R237, R256). -/
def State.swapItem (s : State) (i : Item) : State :=
  ((s.setItem i.swap).event 0x0F04 i.record (if i.moved then i.alt else i.port) (if i.moved then i.port else i.alt)).mirror
    (.ledgerAdmit (itemCode i.kind).1 (itemCode i.kind).2 i.cls i.swap.charges)

/-- Moves one item of account `a` to its ALT_PORT where that is healthy and takes it (R234). -/
def State.moveItem (a : Nat) (s : State) (i : Item) : State :=
  if i.moved || i.acct != some a || !s.swapFits i then s else s.swapItem i

/-- The items of the latest class first, and in a class the most recently accepted first (R28, R235). -/
def latestFirst (l : List Item) : List Item := [3, 2, 1, 0].flatMap (fun c => (l.filter (·.cls == c)).reverse)

/-- Degrades every item on a path with no healthy account, from class D towards A: the items that use `a` once it is lost (R28, R235). -/
def State.degradePathless (s : State) (a : Nat) : State :=
  if !s.pathLost a then s
  else (latestFirst (s.pts.items.filter (fun i => !i.degraded && i.charges.any (fun c => c.1 == a)))).foldl (fun s i => s.degrade a i) s

/-- What happens when account `a` has shrunk (R28, R234, R235). -/
def State.shrink (s : State) (a : Nat) : State :=
  let s := s.pts.items.foldl (State.moveItem a) s
  let s := s.degradePathless a
  State.degradeOn a s.pts.items.length s

/-- A degraded item passes both tests again on the path it is on (R136, R237). -/
def State.returns (s : State) (i : Item) : Bool := !i.charges.any (fun c => s.pathLost c.1) && (s.refusedBy i).isNone

/-- A degraded item returns; recorded, and the twin is told (R236, R237). -/
def State.undegrade (s : State) (a : Nat) (i : Item) : State :=
  (((s.setItem { i with degraded := false }).markDegraded i.kind).event 0x0F03 i.record i.cls a).mirror
    (.ledgerDegrade (itemCode i.kind).1 (itemCode i.kind).2 false)

/-- Restores one degraded item if a path of it works and takes it under both tests: the path it is on, or the other (R28, R136, R237). -/
def State.restoreItem (a : Nat) (s : State) (i : Item) : State :=
  if !i.degraded then s
  else if s.returns i then s.undegrade a i
  else if s.swapFits i then (s.swapItem i).undegrade a i.swap
  else s

/-- Moves an item back to its PORT while its PORT account can take it without degrading anything (R237). -/
def State.moveBack (a : Nat) (s : State) (i : Item) : State :=
  if i.moved && portAcct i.port == some a && s.swapFits i then s.swapItem i else s

/-- The items of the earliest class first, and in a class the earliest accepted first (R237). -/
def earliestFirst (l : List Item) : List Item := [0, 1, 2, 3].flatMap (fun c => l.filter (·.cls == c))

/-- What happens when account `a` has grown: moved items go back, and degraded items return in the order A to D (R237). -/
def State.grow (s : State) (a : Nat) : State :=
  let s := s.pts.items.foldl (State.moveBack a) s
  (earliestFirst s.pts.items).foldl (State.restoreItem a) s

/-- The health of a path's account as measured at its port (R234, R237). -/
def State.setHealthy (s : State) (a : Nat) (b : Bool) : State :=
  { s with pts := { s.pts with healthy := s.pts.healthy.put true a b } }

/-- The account's path fails, or its capacity has fallen (R28). -/
def State.acctDown (s : State) (a : Nat) : State := (s.setHealthy a false).shrink a

/-- The account's path is back, or its capacity has risen (R237). -/
def State.acctUp (s : State) (a : Nat) : State := (s.setHealthy a true).grow a

/-- The account that keeps an item off the path it is on: one that is lost, or one whose test it fails (R136, R235). -/
def State.keptOff (s : State) (i : Item) : Option Nat :=
  match i.charges.find? (fun c => s.pathLost c.1) with
  | some c => some c.1
  | none => (s.refusedBy i).map (·.1)

/-- Admits one configured item on its PORT, else on a healthy ALT_PORT that takes it, or holds it degraded with its record (R28, R136, R234). -/
def State.readmit (s : State) (i : Item) : State :=
  match s.keptOff i with
  | none => s.addItem i
  | some a =>
    if s.swapFits { i with id := s.pts.nextItem } then (s.addItem i).swapItem { i with id := s.pts.nextItem }
    else ((s.addItem { i with degraded := true }).markDegraded i.kind).event 0x0F02 i.record i.cls a

/-! ### On-demand tests -/

/-- The number of an on-demand test in the ledger: calibrations by island, line tests by door channel, the self-test. -/
def testNum : TestKind → Nat
  | .calibration i => i.val
  | .lineTest k => 4 + k.val
  | .selfTest => 28

/-- A running test has ended: its charges on the power and heat accounts are free at once (R19, R20, R675). -/
def State.endTest (s : State) (n : Nat) : State :=
  { s with testsOn := s.testsOn.filter (fun t => testNum t != n) }.dropItems (fun i => i.kind == ItemKind.test n)

end Sys2Proof.Machine
end

