-- ==== Sys2Proof/Machine/Num.lean ====
section
/-! DEFINITION. The arithmetic of REAL32 (R9) and FIX32 (R9, R381): exact intermediate results, one rounding at the end. -/

namespace Sys2Proof.Machine

/-! ### FIX32: Q16.16 held as its raw integer (R381) -/

/-- The least FIX32 value, raw (R9). -/
def fixMin : Int := -2147483648

/-- The largest FIX32 value, raw (R9). -/
def fixMax : Int := 2147483647

/-- Saturation to the FIX32 range (R381). -/
def fixSat (v : Int) : Int := clampInt fixMin fixMax v

/-- A whole number as FIX32, saturated (R381). -/
def fixOfInt (v : Int) : Int := fixSat (v * 65536)

/-- The saturating sum (R381). -/
def sadd (a b : Int) : Int := fixSat (a + b)

/-- The saturating difference (R381). -/
def ssub (a b : Int) : Int := fixSat (a - b)

/-- The saturating negation (R381). -/
def sneg (a : Int) : Int := fixSat (-a)

/-- The product at 64 bits, shifted right by 16 bits rounding half away from zero, saturated (R381). -/
def smul (a b : Int) : Int := fixSat (divRound (a * b) 65536)

/-- The quotient rounded half away from zero and saturated; a divisor of 0 gives the saturated value with the sign of the
dividend (R381). -/
def sdiv (a b : Int) : Int :=
  if b = 0 then (if a < 0 then fixMin else fixMax)
  else if b < 0 then fixSat (divRound (-(a * 65536)) b.natAbs)
  else fixSat (divRound (a * 65536) b.natAbs)

/-- The saturating absolute value (R381). -/
def sabs (a : Int) : Int := if a < 0 then sneg a else a

/-! ### REAL32: IEEE 754 binary32 held as its 32-bit pattern (R9) -/

/-- The exact value of a finite pattern as `m * 2 ^ (e - 149)`: sign, m and e (R9). -/
structure RealVal where
  neg : Bool
  m : Nat
  e : Nat
deriving DecidableEq, Repr

/-- The sign, significand and scaled exponent of a finite REAL32 pattern (R9). -/
def realVal (b : Nat) : RealVal :=
  let ex := field b 30 23
  let fr := field b 22 0
  if ex = 0 then ⟨b.testBit 31, fr, 0⟩ else ⟨b.testBit 31, fr + 8388608, ex - 1⟩

/-- A REAL32 pattern that is NaN or infinity (R9). -/
def realSpecial (b : Nat) : Bool := field b 30 23 == 255

/-- Round-to-nearest-even of `n / d` (d > 0). -/
def divRne (n d : Nat) : Nat :=
  let q := n / d
  let r := n % d
  if 2 * r < d then q else if d < 2 * r then q + 1 else if q % 2 = 0 then q else q + 1

/-- The REAL32 pattern nearest, ties to even, to ± n / d (IEEE 754 binary32, R9); overflow gives the infinity pattern.
(DEDUCED, log entry 132.) -/
def realOfRat (neg : Bool) (n d : Nat) : Nat :=
  let sign := if neg then 2147483648 else 0
  if n = 0 then sign
  else
    -- e is the exponent with 2^e ≤ n/d < 2^(e+1), offset by 4096
    let l := (Nat.log2 n + 4096) - Nat.log2 d
    let ge : Bool := if l ≥ 4096 then decide (d * 2 ^ (l - 4096) ≤ n) else decide (d ≤ n * 2 ^ (4096 - l))
    let e := if ge then l else l - 1
    -- the unit in the last place is 2^(u - 4096)
    let u := max (e - 23) (4096 - 149)
    let m := if u ≥ 4096 then divRne n (d * 2 ^ (u - 4096)) else divRne (n * 2 ^ (4096 - u)) d
    let biased := u - (4096 - 149)
    -- m has at most 24 bits, or is 2^24 after rounding up
    let pat := if m < 8388608 then m else biased * 8388608 + m
    if pat ≥ 2139095040 then sign + 2139095040 else sign + pat

/-- The exact value of a finite pattern as numerator over 2^149. -/
def realNum (b : Nat) : Int :=
  let v := realVal b
  let n : Int := (v.m * 2 ^ v.e : Nat)
  if v.neg then -n else n

/-- The REAL32 nearest to an exact rational `a / d`. -/
def realOf (a : Int) (d : Nat) : Nat := realOfRat (a < 0) a.natAbs d

/-- The REAL32 nearest to an integer. -/
def realOfInt (a : Int) : Nat := realOf a 1

/-- The sum of two REAL32 values, rounded once. (DEDUCED, log entry 132.) -/
def realAdd (a b : Nat) : Nat := realOf (realNum a + realNum b) (2 ^ 149)

/-- The difference of two REAL32 values, rounded once. -/
def realSub (a b : Nat) : Nat := realOf (realNum a - realNum b) (2 ^ 149)

/-- The product of two REAL32 values, rounded once. (DEDUCED, log entry 132.) -/
def realMul (a b : Nat) : Nat := realOf (realNum a * realNum b) (2 ^ 298)

/-- The quotient of two REAL32 values, rounded once; a divisor of 0 gives the infinity of the dividend's sign. -/
def realDiv (a b : Nat) : Nat :=
  let x := realNum a
  let y := realNum b
  if y = 0 then (if x < 0 then 0xFF800000 else 0x7F800000) else realOfRat (decide (x < 0) != decide (y < 0)) x.natAbs y.natAbs

/-- Whether one REAL32 value is less than another. -/
def realLt (a b : Nat) : Bool := decide (realNum a < realNum b)

/-- The absolute value of a REAL32. -/
def realAbs (a : Nat) : Nat := a % 2147483648

/-- The integer nearest to a REAL32 value, halves away from zero. -/
def realToInt (a : Nat) : Int := divRound (realNum a) (2 ^ 149)

/-- A REAL32 value as raw FIX32, rounding half away from zero and saturating (R381). -/
def realToFix (a : Nat) : Int := fixSat (divRound (realNum a * 65536) (2 ^ 149))

/-- A raw FIX32 value as REAL32. -/
def fixToReal (a : Int) : Nat := realOf a 65536

/-- The integer square root, rounded down (by bisection on 2^k bits). -/
def isqrtAux : Nat → Nat → Nat → Nat
  | 0, _, r => r
  | k + 1, n, r => if (r + 2 ^ k) * (r + 2 ^ k) ≤ n then isqrtAux k n (r + 2 ^ k) else isqrtAux k n r

/-- The integer square root, rounded down. -/
def isqrt (n : Nat) : Nat := isqrtAux (Nat.log2 n / 2 + 1) n 0

end Sys2Proof.Machine
end

