-- ==== Sys2Proof/Machine/PointOps.lean ====
section
/-! DEFINITION. The operations of the point service on one point: value types, the priority array, changes of value, bindings and
faults (R215 to R224, R676). -/

namespace Sys2Proof.Machine

/-- TYPE of a point (R215). -/
def State.ptType (s : State) (p : Nat) : Nat := s.nat (Oid.PT_TYPE p)

/-- The value type that a TYPE gives a point; none for an unused slot (R215, R676). -/
def pointTy (t : Nat) : Option Ty :=
  if t = 0 then none else if t ≤ 3 then some .real32 else if t ≤ 6 then some .bool else if t ≤ 9 then some .u16
  else if t ≤ 11 then some .u64 else none

/-- An input point: types 1, 4, 7 and 10 have PV from their source alone (R215, R222). -/
def isInput (t : Nat) : Bool := t == 1 || t == 4 || t == 7 || t == 10

/-- An output point: types 2, 5 and 8 (R222). -/
def isOutput (t : Nat) : Bool := t == 2 || t == 5 || t == 8

/-- Output and value points of the analog, binary and multistate types carry a priority array (R217). -/
def hasArray (t : Nat) : Bool := t == 2 || t == 3 || t == 5 || t == 6 || t == 8 || t == 9

/-- A value that a point's type can hold (R224). -/
def State.ptValid (s : State) (p : Nat) (v : Int) : Bool :=
  let t := s.ptType p
  if t = 0 then false
  else if t ≤ 3 then decide (0 ≤ v ∧ v < 4294967296) && !realSpecial v.toNat
  else if t ≤ 6 then v == 0 || v == 1
  else if t ≤ 9 then decide (1 ≤ v ∧ v ≤ s.get (Oid.PT_STATE_COUNT p))
  else decide (0 ≤ v ∧ v < 18446744073709551616)

/-- The lowest-numbered slot that holds a value, 1 to 16, or 0 (R217). -/
def State.topSlot (s : State) (p : Nat) : Nat :=
  match (List.range 16).find? (fun n => s.bit (Oid.PT_PA_MASK p) n) with
  | some n => n + 1
  | none => 0

/-- INVALID of a point: the stored value behind sub-index `sub` is lost; the setting is recorded (R216, R256). -/
def State.setInvalid (s : State) (p sub : Nat) : State :=
  let x := s.bit (Oid.PT_STATUS p) 3
  let s := (s.setPtAux p { s.ptAux p with invalid := true }).ptStatusBit p 3 true
  if x then s else s.event 0x0F06 p sub

/-- PV takes a value: LAST_CHANGE, the sink and the subscriptions follow a change (R215, R223, R240). -/
def State.changePv (s : State) (p : Nat) (v : Int) : State :=
  let s0 := s.ptStatusBit p 3 false
  if v = s.get (Oid.PT_PV p) then s0
  else
    let s1 := ((s0.set (Oid.PT_PV p) v).setN (Oid.PT_LAST_CHANGE p) s.time)
    (s1.setPtAux p { s1.ptAux p with sinkDue := true, invalid := false }).markSubs p 0

/-- PV, ACTIVE_PRIORITY and OVERRIDDEN follow the array (R216, R217). -/
def State.refreshPv (s : State) (p : Nat) : State :=
  let n := s.topSlot p
  let v := if n = 0 then s.get (Oid.PT_RELINQUISH_DEFAULT p) else s.get (Oid.PT_PRIORITY_SLOT p (n - 1))
  (((s.setN (Oid.PT_ACTIVE_PRIORITY p) n).ptStatusBit p 1 (n == 1 || n == 2))).changePv p v

/-- A change of slot `n` (1 to 16; 17 the relinquish default) that the point store has not seen (R220). -/
def State.markDirty (s : State) (p n : Nat) : State :=
  s.setPtAux p { s.ptAux p with dirty := withBit (s.ptAux p).dirty (n - 1) true }

/-- Slot `n` takes a value (R217). -/
def State.setSlot (s : State) (p n : Nat) (v : Int) : State :=
  (((s.set (Oid.PT_PRIORITY_SLOT p (n - 1)) v).setBit (Oid.PT_PA_MASK p) (n - 1) true).markDirty p n).refreshPv p

/-- Slot `n` is emptied (R217). -/
def State.clearSlot (s : State) (p n : Nat) : State :=
  (((s.set (Oid.PT_PRIORITY_SLOT p (n - 1)) 0).setBit (Oid.PT_PA_MASK p) (n - 1) false).markDirty p n).refreshPv p

/-- A write to PV at priority `n` by any producer: into the array, or directly where the point has none (R217, R219, R223).
(DEDUCED, log entry 57.) -/
def State.writePv (s : State) (p n : Nat) (v : Int) : State :=
  if hasArray (s.ptType p) then s.setSlot p n v else s.changePv p v

/-- FAULT of a point's source or sink set or cleared; each is recorded (R224, R256). -/
def State.setPtFault (s : State) (p : Nat) (sink b : Bool) : State :=
  let a := s.ptAux p
  if (if sink then a.sinkFault else a.srcFault) = b then s
  else
    let a' := if sink then { a with sinkFault := b } else { a with srcFault := b }
    ((s.setPtAux p a').ptStatusBit p 0 (a'.srcFault || a'.sinkFault)).event 0x0F01 p (boolNat sink) (boolNat (!b))

/-- A delivery of a point whose record is being rebuilt waits until it is, at most 100 ms (R619). (DESIGN CHOICE, log entry 156.) -/
def State.rebuilt (s : State) (p : Nat) : State :=
  match s.mem.rebuild.find? (fun x => x.1 == p) with
  | none => s
  | some (_, t) =>
    let f := s.free
    let s := f.2.reach (t + f.1.toNat % (ms 100 + 1))
    { s with mem := { s.mem with rebuild := s.mem.rebuild.filter (fun x => x.1 != p) } }

/-- A valid value arrives from a point's source (R219, R223, R224). -/
def State.deliver (s : State) (p : Nat) (v : Int) : State :=
  let s := s.rebuilt p
  let s := s.setPtFault p false false
  let s := s.setPtAux p { s.ptAux p with srcAt := s.clk, polling := false, srcLast := v, delAt := some s.clk }
  if isInput (s.ptType p) then (if s.flag (Oid.PT_OUT_OF_SERVICE p) then s else s.changePv p v)
  else if hasArray (s.ptType p) then s.setSlot p 16 v
  else s.changePv p v

/-- A value from a point's source that is not valid is discarded (R224); a source with PERIOD 0 sets FAULT at once. -/
def State.deliverBad (s : State) (p : Nat) (period : Nat) : State :=
  let s := s.setPtAux p { s.ptAux p with polling := false }
  if period = 0 then s.setPtFault p false true else s

/-! ### Bindings (R221) -/

/-- The fields of a 16-byte binding (R221). -/
structure Binding where
  kind : Nat
  port : Nat
  alt : Nat
  addr1 : Nat
  addr2 : Nat
  addr3 : Nat
  period : Nat
deriving DecidableEq, Repr

/-- The fields of a binding's bytes (R221). (DESIGN CHOICE, log entry 60.) -/
def bindingOf (b : List Byte) : Binding :=
  let v := leNat b
  { kind := field v 127 120, port := field v 119 112, alt := field v 111 104, addr1 := field v 95 64, addr2 := field v 63 32
    addr3 := field v 31 16, period := field v 15 0 }

/-- A point's source binding. (DESIGN CHOICE, log entry 60.) -/
def State.srcOf (s : State) (p : Nat) : Binding := bindingOf (s.blob (Oid.PT_SOURCE p))

/-- A point's sink binding. (DESIGN CHOICE, log entry 60.) -/
def State.sinkOf (s : State) (p : Nat) : Binding := bindingOf (s.blob (Oid.PT_SINK p))

/-- The bindings that the registers list: point, sink or source, fields. -/
def State.bindings (s : State) : List (Nat × Bool × Binding) :=
  s.blobs.filterMap (fun e =>
    if 0x80000000 ≤ e.1 ∧ e.1 < 0x84000000 ∧ (e.1 % 256 = 6 ∨ e.1 % 256 = 7) then
      some ((e.1 - 0x80000000) / 256, e.1 % 256 == 7, bindingOf e.2)
    else none)

/-- The points that are enabled (R212). -/
def State.enabledPt (s : State) (p : Nat) : Bool := s.flag (Oid.PT_ENABLE p)

/-- The field channel is bound to an enabled point, by source or sink (R596). -/
def State.fioBound (s : State) (x : Nat) : Bool :=
  s.bindings.any (fun b => b.2.2.kind == 1 && b.2.2.addr1 == x && s.enabledPt b.1)

/-- The points whose SINK binds a field channel (R605). -/
def State.fioSinks (s : State) (x : Nat) : List Nat :=
  (s.bindings.filter (fun b => b.2.1 && b.2.2.kind == 1 && b.2.2.addr1 == x)).map (·.1)

/-- The points whose SOURCE is a field channel (R602). -/
def State.fioSources (s : State) (x : Nat) : List Nat :=
  (s.bindings.filter (fun b => !b.2.1 && b.2.2.kind == 1 && b.2.2.addr1 == x && s.enabledPt b.1)).map (·.1)

/-- The sources of a path that turn invalid take FAULT at once (R224, R602). -/
def State.faultSources (s : State) (l : List Nat) : State := l.foldl (fun s p => s.setPtFault p false true) s

/-! ### TYPE (R676) -/

/-- What a write of a new TYPE does (R676); a write of the present value changes nothing. -/
def State.retype (s : State) (p t : Nat) : State :=
  if t = s.ptType p then s
  else
    let s := (List.range 16).foldl (fun s n => s.set (Oid.PT_PRIORITY_SLOT p n) 0) s
    let s := ((((s.setN (Oid.PT_PA_MASK p) 0).set (Oid.PT_RELINQUISH_DEFAULT p) 0).setN (Oid.PT_ACTIVE_PRIORITY p) 0).setBit
      (Oid.PT_STATUS p) 1 false)
    let s := ((s.setN (Oid.PT_TYPE p) t).set (Oid.PT_PV p) 0).setN (Oid.PT_LAST_CHANGE p) 0
    s.setPtAux p { s.ptAux p with dirty := 0x1FFFF, srcLast := 0 }

/-- Slot `n` (1 to 16, 17 the relinquish default) written to the point store in MRAM (R220). (DEDUCED, log entry 21.) -/
def State.storeSlot (s : State) (p n : Nat) : State :=
  let a := s.ptAux p
  let a := { a with dirty := withBit a.dirty (n - 1) false }
  if n = 17 then s.setPtAux p { a with storeDflt := s.get (Oid.PT_RELINQUISH_DEFAULT p) }
  else s.setPtAux p
    { a with
      storeMask := withBit a.storeMask (n - 1) (s.bit (Oid.PT_PA_MASK p) (n - 1))
      storeSlots := a.storeSlots.put 0 n (s.get (Oid.PT_PRIORITY_SLOT p (n - 1))) }

/-- A reset of reach COLD, WARM or CORE restores the array and the relinquish default from the point store; input points restart with
INVALID set, and are recorded so (R220, R256). (DEDUCED, log entry 48.) -/
def State.restorePoint (s : State) (p : Nat) : State :=
  let a := s.ptAux p
  if hasArray (s.ptType p) then
    let s := (List.range 16).foldl (fun s n => s.set (Oid.PT_PRIORITY_SLOT p n) (Tbl.get 0 a.storeSlots (n + 1))) s
    let s := (s.setN (Oid.PT_PA_MASK p) a.storeMask).set (Oid.PT_RELINQUISH_DEFAULT p) a.storeDflt
    (s.setPtAux p { a with dirty := 0, sinkWait := none, polling := false }).refreshPv p
  else if isInput (s.ptType p) then
    (s.setPtAux p { a with sinkWait := none, polling := false }).setInvalid p 0
  else s

end Sys2Proof.Machine
end

