-- ==== Sys2Proof/Machine/FieldIo.lean ====
section
/-! DEFINITION. Field inputs and outputs: modes, sampling, supply, output state, group faults and the silence watchdog (chapter 17). -/

namespace Sys2Proof.Machine

/-- The mode of a channel in effect (R595, R596). -/
def State.fioMode (s : State) (x : Nat) : Nat := Tbl.get 0 s.fio.mode x

/-- A compare that is armed or waiting names the channel (R596, R605). -/
def State.fioArmed (s : State) (x : Nat) : Bool :=
  (List.range 12).any (fun n => (List.range 8).any (fun k =>
    (s.nat (Oid.CMP_STATE n k) == 1 || s.nat (Oid.CMP_STATE n k) == 2) && s.nat (Oid.CMP_FIELD n k) == x))

/-- A pulse output names the channel (R493). -/
def State.fioPulse (s : State) (x : Nat) : Bool := (List.range 16).any (fun k => s.nat (Oid.PO_FIELD k) == x)

/-- FIO_OWNER: 0 host, 1 point, 2 pulse output (R605). -/
def State.fioOwner (s : State) (x : Nat) : Nat := if s.fioPulse x then 2 else if s.fioSinks x = [] then 0 else 1

/-- FIO_VALID: an input channel whose group's inputs are evaluated, with PD-BUS running (R602). -/
def State.fioValid (s : State) (x : Nat) : Bool :=
  (s.fioMode x == 1 || s.fioMode x == 2) && s.up .bus && !s.bit (Oid.FG_STATUS (x / 8)) 2

/-- The filter of an input has seen its samples since it started afresh (R599, R611). -/
def State.fioPrimed (s : State) (x : Nat) : Bool := decide (s.nat (Oid.FIO_FILTER x) ≤ Tbl.get 0 s.fio.since x)

/-- This module's latch holds the channel: it drives it, or holds it after a release (R569, R613). -/
def State.latchHolds (s : State) (x : Nat) : Bool :=
  s.gate || (leNat (s.blob Oid.TW_HELD)).testBit x

/-- The switch of an output channel: the first row of the table Output state that holds (R604); a takeover drives the level it read
until the output is free (R567, R571). -/
def State.switchOn (s : State) (x : Nat) : Bool :=
  if s.fioMode x != 3 then false
  else if s.bit (Oid.FG_STATUS (x / 8)) 1 || s.bit (Oid.FG_STATUS (x / 8)) 3 then false
  else if s.fio.thermal.getLsbD x then false
  else if s.fio.safeHeld.getLsbD x then s.fio.safeLevel.getLsbD x
  else if s.tw.released.isSome && (leNat (s.blob Oid.TW_HELD)).testBit x then s.tw.heldLevels.getLsbD x
  else if !s.gate then false
  else if s.tw.frozenOut.getLsbD x then s.tw.driven.getLsbD x
  else s.flag (Oid.FIO_OUT x)

/-- The channel is driven by this module under row 6 of the table Output state (R606). -/
def State.drivenByRow6 (s : State) (x : Nat) : Bool :=
  s.fioMode x == 3 && !s.bit (Oid.FG_STATUS (x / 8)) 1 && !s.bit (Oid.FG_STATUS (x / 8)) 3 && !s.fio.thermal.getLsbD x
    && !s.fio.safeHeld.getLsbD x && s.gate && !s.tw.frozenOut.getLsbD x

/-- FAULT of a group is set; a setting is counted and recorded (R607). -/
def State.groupFault (s : State) (g : Nat) : State :=
  if s.bit (Oid.FG_STATUS g) 0 then s
  else
    let s := (s.setBit (Oid.FG_STATUS g) 0 true).count (Oid.FG_FAULTS g) 32
    s.eventOf 0x0E01 g (s.nat (Oid.FG_STATUS g))

/-- A cause of a group's FAULT holds (R607). -/
def State.groupCause (s : State) (g : Nat) : Bool :=
  s.bit (Oid.FG_STATUS g) 1
    || (List.range 8).any (fun k => s.fio.thermal.getLsbD (8 * g + k) || s.fio.limit.getLsbD (8 * g + k)
      || s.fio.disagree.getLsbD (8 * g + k))

/-- FIO_OUT takes a level (R605). -/
def State.setOut (s : State) (x : Nat) (b : Bool) : State :=
  if s.flag (Oid.FIO_OUT x) = b then s
  else { (s.setFlag (Oid.FIO_OUT x) b) with fio := { s.fio with changedAt := s.fio.changedAt.put 0 x s.clk } }

/-- A mode written before takes effect at the sample instant (R596). (DEDUCED, log entry 84.) -/
def State.takeMode (s : State) (x : Nat) : State :=
  let m := s.nat (Oid.FIO_MODE x)
  if m = s.fioMode x then s
  else
    { s with fio := { s.fio with mode := s.fio.mode.put 0 x m, run := s.fio.run.put 0 x 0, since := s.fio.since.put 0 x 0 } }.eventOf
      0x0E07 (x + 0x100) (s.fioMode x) m

/-- One sample of one channel (R597, R599). -/
def State.sampleChannel (s : State) (x : Nat) (level : Bool) : State :=
  let s := (s.takeMode x).setFlag (Oid.FIO_LEVEL x) level
  if s.fioValid x then
    let n := Tbl.get 0 s.fio.run x + 1
    let since := min (Tbl.get 0 s.fio.since x + 1) 16
    let s := { s with fio := { s.fio with since := s.fio.since.put 0 x since } }
    if s.flag (Oid.FIO_IN x) = level then { s with fio := { s.fio with run := s.fio.run.put 0 x 0 } }
    else if s.nat (Oid.FIO_FILTER x) ≤ n then
      ({ s with fio := { s.fio with run := s.fio.run.put 0 x 0 } }.setFlag (Oid.FIO_IN x) level).count (Oid.FIO_CHANGES x) 32
    else { s with fio := { s.fio with run := s.fio.run.put 0 x n } }
  else s

/-- The sample instant of a group, 50 µs after a multiple of FG_SAMPLE: every channel in order (R597 to R599). -/
def State.sampleGroup (s : State) (g : Nat) (levels : BitVec 8) : State :=
  if s.up .bus then
    (List.range 8).foldl (fun s k => s.sampleChannel (8 * g + k) (levels.getLsbD k)) (s.toPhase (us (s.nat (Oid.FG_SAMPLE g))) (us 50))
  else s

/-- FG_SAMPLE_TICK (R597 to R599). -/
def execFgSampleTick (g : Fin 8) (levels : BitVec 8) (s : State) : Answer := .next (s.start.sampleGroup g levels)

/-- The group's L+ as last measured (R608). -/
def State.measureSupply (s : State) (g mv : Nat) : State := if s.up .bus then s.setN (Oid.FG_SUPPLY_MV g) mv else s

/-- Supply below 18.0 V for 1 ms: outputs off, SUPPLY_LOW and FAULT (R609). -/
def State.sag (s : State) (g mv forUs : Nat) : State :=
  let s := s.measureSupply g mv
  if s.up .bus && decide (mv < 18000) && decide (1000 ≤ forUs) && !s.bit (Oid.FG_STATUS g) 1 then
    ((s.setBit (Oid.FG_STATUS g) 1 true).groupFault g).eventOf 0x0E02 g mv
  else s

/-- FIO_SAG (R609). -/
def execFioSag (g : Fin 8) (mv forUs : Nat) (s : State) : Answer := .next (s.start.sag g mv forUs)

/-- Supply above 19.5 V for 50 ms: SUPPLY_LOW clears (R610). -/
def State.sagEnds (s : State) (g mv forUs : Nat) : State :=
  let s := s.measureSupply g mv
  if s.up .bus && decide (19500 < mv) && decide (50000 ≤ forUs) && s.bit (Oid.FG_STATUS g) 1 then
    let s := s.setBit (Oid.FG_STATUS g) 1 false
    let s := if s.nat (Oid.FG_RESTORE g) = 1 then s.setBit (Oid.FG_STATUS g) 3 true else s
    s.eventOf 0x0E03 g (s.nat (Oid.FG_RESTORE g))
  else s

/-- FIO_SUPPLY_RESTORED (R610). -/
def execFioSupplyRestored (g : Fin 8) (mv forUs : Nat) (s : State) : Answer := .next (s.start.sagEnds g mv forUs)

/-- The input channels of a group, those in mode 1 or 2. -/
def State.groupInputs (s : State) (g : Nat) : List Nat :=
  ((List.range 8).map (8 * g + ·)).filter (fun x => s.fioMode x == 1 || s.fioMode x == 2)

/-- Supply below 15 V at a sample instant: evaluation suspended, inputs invalid (R611, R602). -/
def State.suspendInputs (s : State) (g mv : Nat) : State :=
  let s := s.measureSupply g mv
  if s.up .bus && decide (mv < 15000) && !s.bit (Oid.FG_STATUS g) 2 then
    let s := (s.setBit (Oid.FG_STATUS g) 2 true).eventOf 0x0E04 g 0 mv
    s.faultSources ((s.groupInputs g).flatMap s.fioSources)
  else s

/-- INPUTS_SUSPEND (R611). -/
def execInputsSuspend (g : Fin 8) (mv : Nat) (s : State) : Answer := .next (s.start.suspendInputs g mv)

/-- Supply at 15 V or more for 10 ms: evaluation resumes, the filters start afresh (R611). -/
def State.resumeInputs (s : State) (g mv forUs : Nat) : State :=
  let s := s.measureSupply g mv
  if s.up .bus && decide (15000 ≤ mv) && decide (10000 ≤ forUs) && s.bit (Oid.FG_STATUS g) 2 then
    let xs := (List.range 8).map (8 * g + ·)
    let f := xs.foldl (fun f x => { f with run := f.run.put 0 x 0, since := f.since.put 0 x 0 }) s.fio
    ({ s with fio := f }.setBit (Oid.FG_STATUS g) 2 false).eventOf 0x0E04 g 1 mv
  else s

/-- INPUTS_RESUME (R611). -/
def execInputsResume (g : Fin 8) (mv forUs : Nat) (s : State) : Answer := .next (s.start.resumeInputs g mv forUs)

/-- An output that overheats switches off by itself; each thermal shutdown sets the group's fault bit (R603). -/
def State.thermalOff (s : State) (x : Nat) : State :=
  if s.fioMode x == 3 then
    { s with fio := { s.fio with thermal := s.fio.thermal ||| BitVec.twoPow 64 x } }.groupFault (x / 8)
  else s

/-- THERMAL_SHUTDOWN (R603). -/
def execThermalShutdown (x : Fin 64) (s : State) : Answer := .next (s.start.thermalOff x)

/-- THERMAL_RESTART: the output has cooled and follows R604 again (R603). -/
def execThermalRestart (x : Fin 64) (s : State) : Answer :=
  .next { s.start with fio := { s.fio with thermal := s.fio.thermal &&& ~~~ BitVec.twoPow 64 x } }

/-- A channel in current limit for `forMs`; 0 says that the limit has ended (R607). -/
def State.limitFor (s : State) (x forMs : Nat) : State :=
  if forMs = 0 then { s with fio := { s.fio with limit := s.fio.limit &&& ~~~ BitVec.twoPow 64 x } }
  else if 10 ≤ forMs ∧ s.switchOn x then
    { s with fio := { s.fio with limit := s.fio.limit ||| BitVec.twoPow 64 x } }.groupFault (x / 8)
  else s

/-- CURRENT_LIMIT (R607). -/
def execCurrentLimit (x : Fin 64) (forMs : Nat) (s : State) : Answer := .next (s.start.limitFor x forMs)

/-- The contact of a channel that this module drives itself, against its switch (R606). -/
def State.readback (s : State) (x : Nat) (contact : Bool) (forUs : Nat) : State :=
  if !s.drivenByRow6 x then s
  else if contact = s.switchOn x then
    { s with fio := { s.fio with disagree := s.fio.disagree &&& ~~~ BitVec.twoPow 64 x } }
  else if 2000 ≤ forUs ∧ s.passed (Tbl.get 0 s.fio.changedAt x) (ms 2) then
    { s with fio := { s.fio with disagree := s.fio.disagree ||| BitVec.twoPow 64 x } }.groupFault (x / 8)
  else s

/-- READBACK_DISAGREE (R606). -/
def execReadbackDisagree (x : Fin 64) (contact : Bool) (forUs : Nat) (s : State) : Answer :=
  .next (s.start.readback x contact forUs)

/-- The image of FIO_OUT over all channels (R612). -/
def State.outImage (s : State) : BitVec 64 :=
  (List.range 64).foldl (fun v x => if s.flag (Oid.FIO_OUT x) then v ||| BitVec.twoPow 64 x else v) 0

/-- The first retrigger after an expiry ends the safe state (R614). -/
def State.wdRestore (s : State) : State :=
  if s.nat Oid.FIO_WD_STATE = 0 then s
  else
    let s1 := (List.range 8).foldl (fun s g => s.setBit (Oid.FG_STATUS g) 4 false) (s.setN Oid.FIO_WD_STATE 0)
    { s1 with fio := { s1.fio with safeHeld := 0 } }.event 0x0E06 ((s.clk - s.fio.expiredAt) / 1000000)

/-- The commit of the output image at a multiple of 1 ms; it retriggers the silence watchdog while the gate permits and the image is fresh (R612). -/
def State.commitOutputs (s : State) (fresh : Bool) : State :=
  if s.up .bus then
    let s := s.toMultiple (ms 1)
    let s := { s with fio := { s.fio with image := s.outImage } }
    if s.gate && fresh then { s.wdRestore with fio := { s.wdRestore.fio with wdAt := s.clk } } else s
  else s

/-- OUTPUT_COMMIT (R612, R614). -/
def execOutputCommit (fresh : Bool) (s : State) : Answer := .next (s.start.commitOutputs fresh)

/-- The safe level of a channel at the expiry: off, on, or the level it has (R613). -/
def State.safeLevelOf (s : State) (x : Nat) : Bool :=
  if s.nat (Oid.FIO_SAFE x) = 0 then false else if s.nat (Oid.FIO_SAFE x) = 1 then true else s.switchOn x

/-- A set of outputs as pass map bytes (R568). -/
def mapBytes (v : BitVec 128) : List Byte := leBytes 16 v.toNat

/-- TW_HELD as a pass map (R569). -/
def State.heldMap (s : State) : BitVec 128 := BitVec.ofNat 128 (leNat (s.blob Oid.TW_HELD))

/-- The latch of output bit `b` is closed: it holds the level of the release, or the safe state of a channel (R569, R604, R613). -/
def State.latched (s : State) (b : Nat) : Bool := s.heldMap.getLsbD b || s.fio.safeHeld.getLsbD b

/-- The latch of output bit `b` opens; by a timeout it is recorded with its cause. What the silence watchdog ends is the hold alone: the
channel is in its safe state (R570, R613). -/
def State.openLatch (s : State) (b : Nat) (cause : Option Nat) : State :=
  if s.latched b then
    let s := s.setBlob Oid.TW_HELD (mapBytes (s.heldMap &&& ~~~ BitVec.twoPow 128 b))
    let s := if cause = some 2 then s else { s with fio := { s.fio with safeHeld := s.fio.safeHeld &&& ~~~ BitVec.twoPow 64 b } }
    match cause with
    | some c => s.event 0x060D b c
    | none => s
  else s

/-- FIO_WD_TIME without a retrigger: each channel whose latch this module holds takes its safe state (R613). -/
def State.wdExpire (s : State) : State :=
  if s.pd .aon && s.nat Oid.FIO_WD_STATE == 0 then
    let s := s.reach (s.fio.wdAt + ms (s.nat Oid.FIO_WD_TIME))
    let xs := (List.range 64).filter (fun x => s.fioMode x == 3 && s.latchHolds x)
    let held := xs.foldl (fun v x => v ||| BitVec.twoPow 64 x) (0 : BitVec 64)
    let lev := xs.foldl (fun v x => if s.safeLevelOf x then v ||| BitVec.twoPow 64 x else v) (0 : BitVec 64)
    let s1 := { s with fio := { s.fio with safeHeld := held, safeLevel := lev, expiredAt := s.clk } }
    let s1 := (s1.setN Oid.FIO_WD_STATE 1).count Oid.FIO_WD_EXPIRIES 32
    let s1 := xs.foldl (fun s x => s.setBit (Oid.FG_STATUS (x / 8)) 4 true) s1
    let s1 := s1.event 0x0E05 (s.nat Oid.FIO_WD_TIME) xs.length
    (xs.filter (fun x => s.heldMap.getLsbD x)).foldl (fun s x => s.openLatch x (some 2)) s1
  else s

/-- FIO_WD_EXPIRED (R613). -/
def execFioWdExpired (s : State) : Answer := .next s.start.wdExpire

/-- The group logic powers up from L+: SUPPLY_LOW alone is set, its latches start open (R613, R677). -/
def State.groupUp (s : State) (g mv : Nat) : State :=
  let m : BitVec 64 := (0xFF : BitVec 64) <<< (8 * g)
  let f := { s.fio with thermal := s.fio.thermal &&& ~~~ m, limit := s.fio.limit &&& ~~~ m, disagree := s.fio.disagree &&& ~~~ m,
                        safeHeld := s.fio.safeHeld &&& ~~~ m }
  let s := ({ s with fio := f }.setN (Oid.FG_STATUS g) 2).setN (Oid.FG_SUPPLY_MV g) (if s.up .bus then mv else 0)
  s.setBlob Oid.TW_HELD (mapBytes (s.heldMap &&& ~~~ (m.setWidth 128)))

/-- GROUP_POWER_UP (R677). -/
def execGroupPowerUp (g : Fin 8) (mv : Nat) (s : State) : Answer := .next (s.start.groupUp g mv)

/-! ### Host writes of this chapter -/

/-- What an accepted FG_ACK of 1 does (R607, R610). -/
def State.ackGroup (s : State) (g : Nat) : State :=
  let s := if s.groupCause g then s else s.setBit (Oid.FG_STATUS g) 0 false
  if 19500 < s.nat (Oid.FG_SUPPLY_MV g) then s.setBit (Oid.FG_STATUS g) 3 false else s

/-- A write of FIO_MODE is refused while the channel is in use (R596). -/
def State.modeBusy (s : State) (x : Nat) : Bool := s.fioBound x || s.fioPulse x || s.fioArmed x

/-- A fifth channel with FIO_CONT true in a group (R600). -/
def State.contFifth (s : State) (x : Nat) (v : Int) : Bool :=
  v != 0 && !s.flag (Oid.FIO_CONT x)
    && decide (4 ≤ ((List.range 8).filter (fun k => s.flag (Oid.FIO_CONT (8 * (x / 8) + k)))).length)

end Sys2Proof.Machine
end

