-- ==== Sys2Proof/Machine/TwinOps.lean ====
section
/-! DEFINITION. What the twin chapter gives the other chapters: the health check bits and the summary, the release of ACTIVE_OUT, the
outputs held and passed (R557 to R562, R566 to R571). -/

namespace Sys2Proof.Machine

/-! ### Health (R558, R559) -/

/-- The binding of an enabled point names a port, as PORT or as ALT_PORT (R79, R221). -/
def State.portBound (s : State) (port : Nat) : Bool :=
  s.bindings.any (fun b => (b.2.2.port == port || b.2.2.alt == port) && b.2.2.kind != 0 && s.enabledPt b.1)

/-- A NET port is configured: PDP, PTP, a pair address or an enabled point's binding uses it (R79). (DEDUCED, log entry 146.) -/
def State.netConfigured (s : State) (p : Nat) : Bool :=
  s.bit Oid.PDP_PORTS p || s.portBound p || (decide (p < 2) && s.nat (Oid.PTP_ROLE p) != 0) || s.nat (Oid.TW_PAIR_IP p) != 0

/-- A 10BASE-T1L port is configured: an enabled point's binding names it (R79). -/
def State.t1lConfigured (s : State) (q : Nat) : Bool := s.portBound (0x10 + q)

/-- A sub-unit of a domain is on: a position unit, a door channel and an island as SPRING and the configuration switched them, a port or a
channel while it is configured (R78, R79). (DEDUCED, log entry 146.) -/
def State.subUnitOn (s : State) (b : Blk) : Bool :=
  s.pd (blockDomain b.num) && (match b with
    | .pu n => s.pow.puOn.getLsbD n
    | .dl k => s.bit Oid.DL_ON k
    | .can c => s.nat (Oid.CAN_MODE c) != 0
    | .rs485 m => s.rsMstp m || s.portBound (0x20 + m)
    | .netPort p => s.netConfigured p
    | .t1l q => s.t1lConfigured q
    | .island i => s.bit Oid.MI_ON i)

/-- Every configured NET and T1L port has link (NET). -/
def State.netOk (s : State) : Bool :=
  (List.range 4).all (fun p => !s.netConfigured p || Tbl.get true s.pts.healthy p)
    && (List.range 4).all (fun q => !s.t1lConfigured q || Tbl.get true s.pts.healthy (4 + q))

/-- Clock-good is asserted in every domain that has a configured block (CLOCKS): every domain that is switched on, CK-AON apart
(R88). -/
def State.clocksOk (s : State) : Bool :=
  [Domain.sla, .safe, .app, .ce, .met, .pos, .dl, .bus, .net, .mem, .twin].all (fun d => !s.pd d || s.ck d)

/-- The health check bits, bit 0 first (R558). -/
def State.checkList (s : State) : List Bool :=
  [ s.nat Oid.SLA_STATE == 2 && s.tw.lockstep,
    (match s.tw.dseAt with | none => true | some t => s.passed t (sec 3600)),
    s.clocksOk,
    s.pow.feedA.valid && s.pow.feedB.valid,
    s.flag Oid.BANK_OK,
    decide (s.get Oid.DIE_TEMP ≤ 950),
    !s.tb.ptpDiffers,
    s.bit Oid.TW_LANES 0,
    s.bit Oid.TW_LANES 1,
    s.tw.ilkFault == 0,
    s.drives || s.tw.mirror,
    s.tw.selfTest,
    s.tw.outputTest,
    (match s.tw.disagreeAt with | none => true | some t => s.passed t (sec 60)),
    (List.range 24).all (fun k => !s.flag (Oid.DOOR_ENABLE k) || s.bit (Oid.DL_STATUS k) 0),
    (List.range 8).all (fun c => s.nat (Oid.CAN_MODE c) == 0 || !(s.canCh c).busOff),
    s.netOk,
    (List.range 64).all (fun c => !s.bit (Oid.CH_STATUS c) 10 && !s.bit (Oid.CH_STATUS c) 2),
    (List.range 64).all (fun t => s.nat (Oid.DST_STATE t) != 5),
    s.nat Oid.STRAP_VALUE != 0xFF && !s.tw.pairMismatch && !s.tw.clash,
    s.drives || s.tw.configEq,
    s.tw.notDiverged,
    s.drives || s.tw.fullState,
    s.nat Oid.TW_TWIN_FW == Config.fwVersion.toNat,
    s.mem.bankOk == 3 ]

/-- TW_CHECKS as a word (R558). -/
def bitsNat : List Bool → Nat
  | [] => 0
  | b :: t => boolNat b + 2 * bitsNat t

/-- The check bits of class F and of class D (R558). -/
def classF : List Nat := [0, 2, 11, 12, 19, 20]
def classD : List Nat := [1, 3, 4, 5, 6, 7, 8, 9, 10, 13, 14, 15, 16, 17, 18, 21, 22, 24]

/-- The summary: the first value of the table Health summary whose condition holds (R559). -/
def summaryOf (mode : Mode) (waiting failed mirror : Bool) (checks : Nat) : Nat :=
  if mode = .frozen then 5
  else if waiting then 3
  else if mode = .standby ∧ !mirror then 4
  else if failed ∨ classF.any (fun b => !checks.testBit b) then 2
  else if classD.any (fun b => !checks.testBit b) then 1
  else 0

/-- The module's own check bits now (R558). (DEDUCED, log entry 123.) -/
def State.checks (s : State) : Nat := bitsNat s.checkList

/-- The module's own summary now (R559); a module that released on a fault stays FAILED (R562), as does one whose boot or strap failed
(R132, R134). (DEDUCED, log entry 123.) -/
def State.summary (s : State) : Nat :=
  summaryOf s.mode s.tw.waiting (s.tw.failed || s.rst.bootFail || s.rst.strapFault) s.tw.mirror s.checks

/-- The module is a healthy standby in its own reckoning (R560, R563). -/
def State.selfHealthy (s : State) : Bool := s.mode == .standby && decide (s.summary ≤ 1)

/-- TW_SUMMARY and TW_CHECKS as reported (R557). -/
def State.reportHealth (s : State) : State := (s.setN Oid.TW_SUMMARY s.summary).setN Oid.TW_CHECKS s.checks

/-- A HEALTH frame (R557, R579). (DEDUCED, log entry 123.) -/
def State.sendHealth (s : State) : State :=
  let s := s.reportHealth
  if s.up .twin then
    s.emit (.twin 0x04 s.tw.gen
      (leBytes 1 s.mode.code ++ leBytes 1 (s.nat Oid.TW_SUMMARY) ++ [0, 0] ++ leBytes 4 (s.nat Oid.TW_CHECKS)
        ++ leBytes 4 Config.fwVersion.toNat ++ leBytes 8 s.time))
  else s

/-! ### Outputs: what is driven, held and passed -/

/-- A car's record in the SLA block has CONFIGURED set (R516, R520). -/
def State.safeConfigured (s : State) (n : Nat) : Bool := (leNat (s.blob (Oid.SLA_CAR n))).testBit 120

/-- A car is configured: an object of its area is not at its default (R79). (DEDUCED, log entry 41.) -/
def State.carConfigured (s : State) (n : Nat) : Bool :=
  s.objs.any (fun (e : Nat × Int) => e.1 / 16777216 == 0x10 + n
    && (match lookup e.1 with
        | some (row, _) => row.kept == .config
        | none => false))

/-- A car is configured, here or in the SLA; the contacts of any other are ignored (R51). -/
def State.hasCar (s : State) (n : Nat) : Bool := s.safeConfigured n || s.carConfigured n

/-- The state of a car in the safety functions. -/
def State.carSafe (s : State) (n : Nat) : CarSafe := Tbl.get {} s.saf.cars n

/-- That changed. -/
def State.setCarSafe (s : State) (n : Nat) (c : CarSafe) : State :=
  { s with saf := { s.saf with cars := s.saf.cars.put {} n c } }

/-- The PLS switch of FPx: at the level of the release while its latch holds it, off while the gate does not permit outputs, at the level read
until a takeover frees it, else as PO_STATUS has it (R75, R567, R569). -/
def State.pulseSwitch (s : State) (x : Nat) : Bool :=
  if s.tw.released.isSome && s.heldMap.getLsbD (88 + x) then s.tw.heldLevels.getLsbD (88 + x)
  else if !s.gate then false
  else if s.tw.frozenOut.getLsbD (88 + x) then s.tw.driven.getLsbD (88 + x)
  else s.bit (Oid.PO_STATUS (x + 16)) 0

/-- The PT drivers of car `n` are enabled: by PT_MODE, while the gate permits outputs or the latch holds them (R53, R333). -/
def State.ptDriven (s : State) (n : Nat) : Bool :=
  s.nat (Oid.PT_MODE n) != 0 && (s.gate || (s.tw.released.isSome && s.heldMap.getLsbD (92 + n)))

/-- Output `b` of the pass map is one that the module drives by its configuration (R568). -/
def State.outputBit (s : State) (b : Nat) : Bool :=
  if b < 64 then s.fioMode b == 3
  else if b < 88 then s.safeConfigured ((b - 64) / 2)
  else if b < 92 then s.nat (Oid.PO_SRC (b - 88 + 16)) != 0xFFFF
  else if b < 104 then s.nat (Oid.PT_MODE (b - 92)) != 0
  else false

/-- The level of output `b` as this module drives it (R53, R75, R567, R604). -/
def State.outputLevel (s : State) (b : Nat) : Bool :=
  if b < 64 then s.switchOn b
  else if b < 88 then
    let c := s.carSafe ((b - 64) / 2)
    c.sSw.getLsbD (b % 2) && c.lSw.getLsbD (b % 2)
  else if b < 92 then s.pulseSwitch (b - 88)
  else s.ptDriven (b - 92)

/-- A set of output bits as a word. -/
def mapOf (p : Nat → Bool) : BitVec 128 :=
  (List.range 104).foldl (fun v b => if p b then v ||| BitVec.twoPow 128 b else v) 0

/-- The outputs driven by configuration, as a pass map. -/
def State.outputMap (s : State) : BitVec 128 := mapOf s.outputBit

/-- The trips in progress do not contribute to their models: a handover, an AUTUMN save, a reset or a freeze (R23). -/
def State.spoilTrips (s : State) : State :=
  { s with met := { s.met with trips := s.met.trips.map (fun t => (t.1, { t.2 with good := false })) } }

/-- Releases ACTIVE_OUT for a cause: the gate closes, the latches hold every output at its level, RELEASE goes out, and the release is
recorded (R556, R561, R569). -/
def State.release (s : State) (cause : Nat) : State :=
  if !s.tw.activeOut then s
  else
    let held := s.outputMap
    let levels := mapOf (fun b => s.outputBit b && s.outputLevel b)
    let s1 := { s with tw := { s.tw with
      activeOut := false, inSince := if s.tw.ilkFault = 0 then s.tw.inSince else s.clk, released := some (cause, s.clk), heldLevels := levels, frozenOut := 0, equinoxAt := none } }
    let s1 := (s1.spoilTrips.setBlob Oid.TW_HELD (mapBytes held)).event 0x0601 cause (s.nat Oid.TW_GEN)
    let s1 := if s.up .twin then s1.emit (.twin 0x05 s.tw.gen (leBytes 1 cause ++ [0, 0, 0] ++ leBytes 8 s.time)) else s1
    if cause = 0 ∨ (4 ≤ cause ∧ cause ≤ 8) then
      let s2 := { s1 with tw := { s1.tw with failed := decide (cause ≠ 0) } }
      if s2.drives then s2.enter .standby 2 else s2
    else s1

/-- A release that is made only while a healthy standby exists (R561). -/
def State.releaseIfHealthy (s : State) (cause : Nat) : State :=
  if s.mode == .active && s.healthyStandby then s.release cause else s

end Sys2Proof.Machine
end

