-- ==== Sys2Proof/Machine/Can.lean ====
section
/-! DEFINITION. CAN channels and the schedule matrix: modes, buffers, the schedule, collisions, detection (chapter 08). -/

namespace Sys2Proof.Machine

/-! ### Channels -/

/-- The channel's sub-unit runs: it is not OFF and not in reset (R79, R259). -/
def State.canRuns (s : State) (c : Nat) : Bool := s.runs (.can c) && (s.canCh c).mode != 0

/-- The channel drives the bus: EVENT or SCHEDULED, in a module that drives outputs with its gate open (R259, R260, R287). -/
def State.canDrives (s : State) (c : Nat) : Bool :=
  s.canRuns c && 3 ≤ (s.canCh c).mode && s.drives && s.gate && !(s.canCh c).busOff && !(s.canCh c).waitCycle

/-- CAN_STATE (R299). -/
def State.canState (s : State) (c : Nat) : Nat :=
  let x := s.canCh c
  if !s.canRuns c then 0
  else if x.mode = 2 then 5
  else if x.busOff then 3
  else if x.mode = 1 ∨ !(s.drives && s.gate) then 4
  else if 128 ≤ s.nat (Oid.CAN_TEC c) ∨ 128 ≤ s.nat (Oid.CAN_REC c) then 2
  else 1

/-- Sets the error counters and records the passage to error-passive (R257, R300). -/
def State.canCounters (s : State) (c tec rec' : Nat) : State :=
  let s := (s.setN (Oid.CAN_TEC c) (min tec 255)).setN (Oid.CAN_REC c) (min rec' 255)
  let p := decide (128 ≤ tec ∨ 128 ≤ rec')
  let x := s.canCh c
  if p = x.passive then s
  else
    let s := s.setCan c { x with passive := p }
    if p then s.event 0x0703 c (min tec 255) (min rec' 255) else s

/-! ### Bit rates and bit timing (R257, R258) -/

/-- The nominal rates, bit/s (R257). -/
def nominalRates : List Nat := [50000, 100000, 125000, 250000, 500000, 800000, 1000000]

/-- The data rates, bit/s; 0 is no bit rate switch (R257). -/
def dataRates : List Nat := [0, 1000000, 2000000, 4000000, 5000000, 8000000]

/-- A nominal and a data rate that R257 supports: the data rate is none, or not below the nominal one. -/
def ratesOk (nbr dbr : Nat) : Bool := nominalRates.contains nbr && dataRates.contains dbr && (dbr == 0 || decide (nbr ≤ dbr))

/-- The timing of one phase: prescaler, time quanta of a bit, time quanta before the sample point, and the synchronisation jump width, which is
phase segment 2 (R258). -/
structure BitTiming where
  prescaler : Nat
  quanta : Nat
  sample : Nat
  sjw : Nat
deriving DecidableEq, Repr

/-- The timing of a phase at `rate` bit/s with at most `most` time quanta and its sample point in ‰: the smallest prescaler of 80 MHz that gives a
whole number of quanta (R258). -/
def bitTiming (rate most permil : Nat) : Option BitTiming :=
  ((List.range 1600).map (· + 1)).find? (fun p => 80000000 % (p * rate) == 0 && decide (80000000 / (p * rate) ≤ most)) |>.map (fun p =>
    let n := 80000000 / (p * rate)
    let k := (2 * n * permil + 1000) / 2000
    ⟨p, n, k, n - k⟩)

/-- The timing of a channel's nominal phase, and of its data phase where it switches the bit rate (R258). -/
def State.canTiming (s : State) (c : Nat) : Option BitTiming × Option BitTiming :=
  (bitTiming (s.nat (Oid.CAN_NBR c)) 80 (s.nat (Oid.CAN_NSP c)),
   if s.nat (Oid.CAN_DBR c) = 0 then none else bitTiming (s.nat (Oid.CAN_DBR c)) 40 (s.nat (Oid.CAN_DSP c)))

/-! ### The schedule -/

/-- One column descriptor (R272). -/
structure Column where
  start : Nat
  len : Nat
  type : Nat
deriving DecidableEq, Repr

/-- The columns that bytes list, 12 bytes each (R272). -/
def columnsOf : Nat → List Byte → List Column
  | 0, _ => []
  | n + 1, b =>
    if b.length < 12 then []
    else { start := leNat (b.take 4), len := leNat ((b.drop 4).take 4), type := leNat ((b.drop 8).take 1) } :: columnsOf n (b.drop 12)

/-- CAN_COLUMNS of a channel. -/
def State.columns (s : State) (c : Nat) : List Column := columnsOf 32 (s.blob (Oid.CAN_COLUMNS c))

/-- The columns stand in order of start and do not overlap (R272). -/
def columnsOrdered : List Column → Bool
  | [] => true
  | [_] => true
  | a :: b :: t => decide (a.start + a.len ≤ b.start) && columnsOrdered (b :: t)

/-- The conditions of R272 on CAN_COLUMNS, for a cycle of `cycleUs`. -/
def columnsOk (b : List Byte) (cycleUs : Nat) : Bool :=
  let l := columnsOf 32 b
  b.length % 12 == 0 && decide (24 ≤ b.length ∧ b.length ≤ 384)
    && (match l with
        | [] => false
        | x :: t => x.type == 0 && x.start == 0 && t.all (fun y => y.type == 1 || y.type == 2))
    && columnsOrdered l && l.all (fun y => decide (y.start + y.len ≤ cycleUs * 1000))

/-- The fields of an entry descriptor (R275). -/
structure Entry where
  type : Nat
  column : Nat
  offset : Nat
  every : Nat
  cls : Nat
  ide : Bool
  fdf : Bool
  brs : Bool
  len : Nat
  buffer : Nat
  id : Nat
  role : Nat
deriving DecidableEq, Repr

/-- The entry that a descriptor spells (R275). -/
def entryOf (d : Nat) : Entry :=
  { type := field d 127 120, column := field d 119 112, offset := field d 111 104, every := field d 103 96, cls := field d 95 88
    ide := d.testBit 80, fdf := d.testBit 81, brs := d.testBit 82, len := field d 79 72, buffer := field d 71 64
    id := field d 60 32, role := field d 7 0 }

/-- A descriptor with its reserved bits read as 0 (R11). -/
def entryMask (d : Nat) : Nat :=
  field d 127 88 * 2 ^ 88 + field d 82 80 * 2 ^ 80 + field d 79 64 * 2 ^ 64 + field d 60 32 * 2 ^ 32 + field d 7 0

/-- ENT_DESC as written. -/
def State.entWritten (s : State) (c e : Nat) : Entry := entryOf (leNat (s.blob (Oid.ENT_DESC c e)))

/-- The entry in effect (R277). -/
def State.entHeld (s : State) (c e : Nat) : Entry := entryOf (Tbl.get 0 (s.canCh c).desc e)

/-- A descriptor apart from its BUFFER field (R297). -/
def descBar (d : Nat) : Nat := field d 127 72 * 2 ^ 72 + field d 63 0

/-- An SRDO entry waits while the paired channel does not hold the same descriptor apart from BUFFER (R297). (DEDUCED, log entry 77.) -/
def State.pairWait (s : State) (c e : Nat) : Bool :=
  let d := Tbl.get 0 (s.canCh c).desc e
  let r := (entryOf d).role
  (r == 1 || r == 2) && !(decide (c < 4)
    && descBar (leNat (s.blob (Oid.ENT_DESC (if c % 2 = 0 then c + 1 else c - 1) e))) == descBar d)

/-- The entry takes part in the schedule (R277, R297). -/
def State.entActive (s : State) (c e : Nat) : Bool :=
  (s.canCh c).mode == 4 && (s.entHeld c e).type != 0 && !s.pairWait c e

/-- The entries of a channel that have a descriptor in effect. -/
def State.entries (s : State) (c : Nat) : List Nat := (s.canCh c).desc.map (·.1)

/-- ENT_STATE (R299): bits 3 and 4 are kept, the others follow. -/
def State.entState (s : State) (c e : Nat) : Nat :=
  boolNat (s.entActive c e) + 2 * boolNat ((s.canCh c).pendDesc.contains e)
    + 4 * boolNat ((s.entHeld c e).type != 0 && s.pairWait c e) + (s.nat (Oid.ENT_STATE c e) &&& 0x18)

/-- The length of a cycle, ns (R271). -/
def State.cycleNs (s : State) (c : Nat) : Nat := s.nat (Oid.CAN_T_CYCLE c) * 1000

/-- The number of the cycle that holds an instant, 0 before the first (R271). -/
def State.cycleAt (s : State) (c t : Nat) : Nat := (t - s.nat (Oid.CAN_PHASE c) * 1000) / s.cycleNs c

/-- The place of an instant in its cycle, ns. -/
def State.cycleOff (s : State) (c t : Nat) : Nat := (t - s.nat (Oid.CAN_PHASE c) * 1000) % s.cycleNs c

/-- The row of a cycle (R271). -/
def State.rowOf (s : State) (c k : Nat) : Nat := k % 64 % s.nat (Oid.CAN_ROWS c)

/-- An instant lies in the entry's window (R264, R276). -/
def State.inWindow (s : State) (c : Nat) (d : Entry) (t : Nat) : Bool :=
  match (s.columns c)[d.column]? with
  | none => false
  | some col =>
    let o := s.cycleOff c t
    s.rowOf c (s.cycleAt c t) % d.every == d.offset && decide (col.start ≤ o ∧ o < col.start + col.len)

/-- The window that starts `ago` ns before an instant started after the gate opened at a takeover (R287). -/
def State.windowFresh (s : State) (t ago : Nat) : Bool :=
  match s.tw.tookAt with
  | some a => decide (s.time + ago ≤ t + (s.clk - a))
  | none => true

/-- A transmit entry's frame may start at an instant: in the entry's window, which started after the gate opened (R267, R287). -/
def State.mayStart (s : State) (c : Nat) (d : Entry) (t : Nat) : Bool :=
  s.inWindow c d t && s.windowFresh t (match (s.columns c)[d.column]? with
    | some col => s.cycleOff c t - col.start
    | none => 0)

/-- The column that holds an instant, 0xFF in silent time (R300). -/
def State.columnAt (s : State) (c t : Nat) : Nat :=
  let o := s.cycleOff c t
  match (s.columns c).findIdx? (fun x => decide (x.start ≤ o ∧ o < x.start + x.len)) with
  | some i => i
  | none => 0xFF

/-- Bit times of a frame at the nominal rate, and at the data rate (R278). -/
def frameBits (ide fdf : Bool) (n : Nat) : Nat × Nat :=
  let cc := if n ≤ 16 then 32 else 37
  if fdf then (if ide then 57 else 34, cc + 8 * n + (5 + 8 * n) / 4)
  else if ide then (67 + 8 * n + (53 + 8 * n) / 4, 0)
  else (47 + 8 * n + (33 + 8 * n) / 4, 0)

/-- The worst-case frame time in units of 1 / (nominal × data rate) s: nominal bits × data rate + data bits × nominal rate (R278). -/
def frameUnits (ide fdf brs : Bool) (n nbr dbr : Nat) : Nat :=
  let b := frameBits ide fdf n
  let d := if brs then dbr else nbr
  b.1 * d + b.2 * nbr

/-- A column of `len` ns holds the frame plus 2 nominal bit times (R278). -/
def columnHolds (len : Nat) (ide fdf brs : Bool) (n nbr dbr : Nat) : Bool :=
  let d := if brs then dbr else nbr
  decide ((frameUnits ide fdf brs n nbr dbr + 2 * d) * 1000000000 ≤ len * (nbr * d))

/-- The worst-case frame time, µs, rounded up, for the latency test (R231, R281). -/
def frameUs (ide fdf brs : Bool) (n nbr dbr : Nat) : Nat :=
  let d := if brs then dbr else nbr
  (frameUnits ide fdf brs n nbr dbr * 1000000 + nbr * d - 1) / (nbr * d)

/-- The lengths that an entry may have (R275). -/
def entryLen (fdf : Bool) (n : Nat) : Bool := decide (n ≤ 8) || (fdf && [12, 16, 20, 24, 32, 48, 64].contains n)

/-! ### Charges (R280) -/

/-- The charge of a column held once every `rows` cycles, bit-times/s, rounded up. (DEDUCED, log entry 79.) -/
def columnLoad (len nbr cycleUs rows : Nat) : Nat :=
  let d := cycleUs * rows * 1000
  (len * nbr + d - 1) / d

/-- The items of the reference and arbitrating columns of a channel (R280). (DEDUCED, log entry 79.) -/
def State.columnItems (s : State) (c : Nat) : List Item :=
  let nbr := s.nat (Oid.CAN_NBR c)
  let t := s.nat (Oid.CAN_T_CYCLE c)
  ((s.columns c).zipIdx.filter (fun x => x.1.type != 1)).map (fun x =>
    { id := 0, kind := .canEntry c (256 + x.2), cls := if x.1.type = 0 then 0 else 3
      charges := [(0x10 + c, columnLoad x.1.len nbr t 1)] })

/-- The item of an entry (R280). -/
def State.entryItem (s : State) (c e : Nat) (d : Entry) : Item :=
  let nbr := s.nat (Oid.CAN_NBR c)
  let t := s.nat (Oid.CAN_T_CYCLE c)
  let len := match (s.columns c)[d.column]? with
    | some x => x.len
    | none => 0
  let core := if d.role = 1 ∨ d.role = 2 then 0x21 else 0x20
  { id := 0, kind := .canEntry c e, cls := d.cls
    charges := [(0x10 + c, columnLoad len nbr t d.every), (core, (1000000 + t * d.every - 1) / (t * d.every))]
    waitUs := t * d.every + (if d.type = 1 then frameUs d.ide d.fdf d.brs d.len nbr (s.nat (Oid.CAN_DBR c)) else 0) }

/-- The ledger item of an entry or column of a channel. -/
def isCanItem (c : Nat) (p : Nat → Bool) (i : Item) : Bool :=
  match i.kind with
  | .canEntry c' e => c' == c && p e
  | _ => false

/-! ### Mappings (R281, R282) -/

/-- The fields of a mapping descriptor (R282). -/
structure Mapping where
  chan : Nat
  entry : Nat
  byte : Nat
  bit : Nat
  width : Nat
  format : Nat
  order : Nat
deriving DecidableEq, Repr

/-- The mapping that a descriptor spells (R282). -/
def mappingOf (d : Nat) : Mapping :=
  { chan := field d 63 56, entry := field d 55 48, byte := field d 47 40, bit := field d 39 32, width := field d 31 24
    format := field d 23 16, order := field d 15 8 }

/-- MAP_DESC of a handle. -/
def State.mapping (s : State) (h : Nat) : Mapping := mappingOf (leNat (s.blob (Oid.MAP_DESC h)))

/-- The place of the field's bit `i` in the frame: byte and bit (R282). -/
def Mapping.place (m : Mapping) (i : Nat) : Nat × Nat :=
  let t := m.bit + i
  (if m.order = 0 then m.byte + t / 8 else m.byte - t / 8, t % 8)

/-- The raw field of a frame (R282). -/
def Mapping.extract (m : Mapping) (b : List Byte) : Nat :=
  (List.range m.width).foldl (fun v i =>
    let p := m.place i
    if (b.getD p.1 0).getLsbD p.2 then v + 2 ^ i else v) 0

/-- A frame with the field set to a raw value (R282). -/
def Mapping.insert (m : Mapping) (v : Nat) (b : List Byte) : List Byte :=
  (List.range m.width).foldl (fun b i =>
    let p := m.place i
    if v.testBit i then b.set p.1 (b.getD p.1 0 ||| BitVec.twoPow 8 p.2) else b) b

/-- A format suits a point type (R282): REAL32 and integers an analog point, binary a binary point, unsigned up to 16 bits a
multistate point, unsigned an accumulator. -/
def formatSuits (m : Mapping) (t : Nat) : Bool :=
  if t = 0 then false
  else if t ≤ 3 then decide (m.format ≤ 2)
  else if t ≤ 6 then m.format == 3
  else if t ≤ 9 then m.format == 0 && decide (m.width ≤ 16)
  else m.format == 0

/-- The point value of a raw integer: value = raw × SCALE + OFFSET on an analog point, rounded once to REAL32 (R282). -/
def State.scaleRaw (s : State) (p : Nat) (raw : Int) : Int :=
  (realOf (raw * realNum (s.nat (Oid.PT_SCALE p)) + realNum (s.nat (Oid.PT_OFFSET p))) (2 ^ 149) : Nat)

/-- The value that a field gives a point (R282). -/
def State.fieldValue (s : State) (p : Nat) (m : Mapping) (raw : Nat) : Int :=
  if m.format = 0 then (if s.ptType p ≤ 3 then s.scaleRaw p raw else raw)
  else if m.format = 1 then s.scaleRaw p (signed m.width raw)
  else raw

/-- The raw integer nearest to (value − OFFSET) / SCALE, for an integer field of `w` bits; none where SCALE is 0 or the field cannot
hold it, which the manual leaves open (R282). (DESIGN CHOICE, log entry 29.) -/
def rawOf (v scale off : Nat) (sgn : Bool) (w : Nat) : Option Nat :=
  let n := realNum v - realNum off
  let d := realNum scale
  if d = 0 then none
  else
    let r := if d < 0 then divRound (-n) d.natAbs else divRound n d.natAbs
    if sgn then (if -(2 ^ (w - 1) : Nat) ≤ r ∧ r < (2 ^ (w - 1) : Nat) then some (unsigned w r) else none)
    else if 0 ≤ r ∧ r < (2 ^ w : Nat) then some r.toNat else none

/-- The points mapped to an entry: point, sink or source, mapping. -/
def State.mapped (s : State) (c e : Nat) : List (Nat × Bool × Mapping) :=
  s.bindings.filterMap (fun b =>
    if b.2.2.kind = 2 then
      let m := s.mapping b.2.2.addr1
      if m.chan = c ∧ m.entry = e ∧ m.width ≠ 0 then some (b.1, b.2.1, m) else none
    else none)

/-- The enabled points mapped to an entry as sources, or as sinks. -/
def State.mappedOn (s : State) (c e : Nat) (sink : Bool) : List (Nat × Mapping) :=
  (s.mapped c e).filterMap (fun x => if x.2.1 == sink && s.enabledPt x.1 then some (x.1, x.2.2) else none)

/-- A module's own consumer reads the entry's buffer: a mapped point, an absolute sensor, the safety functions or a terminal's calls
(R281, R296, R317, R434). -/
def State.hasConsumer (s : State) (c e : Nat) : Bool :=
  s.mappedOn c e false != [] || (s.entHeld c e).role == 1 || (s.entHeld c e).role == 2
    || (List.range 12).any (fun n =>
      let m := s.mapping (s.nat (Oid.ABS_CAN_MAP n))
      s.nat (Oid.ABS_SOURCE n) == 2 && m.width != 0 && m.chan == c && m.entry == e)
    || (List.range 8).any (fun g =>
      let b := s.blob (Oid.GRP_DT_RX g)
      (List.range (b.length / 2)).any (fun i => leNat ((b.drop (2 * i)).take 2) == c * 256 + e))

/-- RXB_ACK clears NEW and OVERRUN (R266). -/
def State.rxbAck (s : State) (c b : Nat) : State :=
  (s.setBit (Oid.RXB_STATUS c b) 0 false).setBit (Oid.RXB_STATUS c b) 1 false

/-- A received entry delivers its fields to the points mapped to it, and an internal consumer acknowledges the buffer (R223, R266,
R281). -/
def State.deliverEntry (s : State) (c e : Nat) (b : List Byte) : State :=
  let s := if s.hasConsumer c e then s.rxbAck c (s.entHeld c e).buffer else s
  (s.mappedOn c e false).foldl (fun s x =>
    let v := s.fieldValue x.1 x.2 (x.2.extract b)
    if s.ptValid x.1 v then s.deliver x.1 v else s.deliverBad x.1 0) s

/-- The field of a point's present value, put into a frame; a value that the field cannot hold leaves a free value there (R282).
(DESIGN CHOICE, log entry 29.) -/
def State.packField (s : State) (x : Nat × Mapping) (b : List Byte) : State × List Byte :=
  let v := s.nat (Oid.PT_PV x.1)
  if x.2.format = 0 ∨ x.2.format = 1 then
    let raw := if s.ptType x.1 ≤ 3 then rawOf v (s.nat (Oid.PT_SCALE x.1)) (s.nat (Oid.PT_OFFSET x.1)) (x.2.format == 1) x.2.width
               else if v < 2 ^ x.2.width then some v else none
    match raw with
    | some r => (s, x.2.insert r b)
    | none => let f := s.free; (f.2, x.2.insert (f.1.toNat % 2 ^ x.2.width) b)
  else (s, x.2.insert v b)

/-! ### Failure and success of occurrences (R284) -/

/-- FAULT of every point mapped to an entry (R284). -/
def State.entryFault (s : State) (c e : Nat) (b : Bool) : State :=
  let s := (s.mappedOn c e false).foldl (fun s x => s.setPtFault x.1 false b) s
  (s.mappedOn c e true).foldl (fun s x => s.setPtFault x.1 true b) s

/-- A failed occurrence of an entry (R284). -/
def State.entryFails (s : State) (c e : Nat) : State :=
  let s := s.count (Oid.ENT_MISSED c e) 32
  let x := s.canCh c
  let n := Tbl.get 0 x.run e + 1
  let s := s.setCan c { x with run := x.run.put 0 e (min n 3) }
  if n = 3 then
    ((s.setBit (Oid.ENT_STATE c e) 4 true).entryFault c e true).event 0x0706 c e (s.nat (Oid.ENT_MISSED c e))
  else s

/-- A successful occurrence of an entry (R284). -/
def State.entryWorks (s : State) (c e : Nat) : State :=
  let x := s.canCh c
  let s := s.setCan c { x with run := x.run.put 0 e 0 }
  if s.bit (Oid.ENT_STATE c e) 4 then (s.setBit (Oid.ENT_STATE c e) 4 false).entryFault c e false else s

/-! ### Modes (R259) -/

/-- The channel's mode in effect becomes `m` (R259, R280, R291). -/
def State.canTakeMode (s : State) (c m : Nat) : State :=
  let x := s.canCh c
  if x.mode = m then s
  else
    let s := s.setCan c { x with mode := m, cand := 0, good := 0, brs := false, dwellAt := s.clk, seen := [], srdo := [] }
    let s := if m = 2 then (s.setN (Oid.CAN_DETECT_RESULT c) 0xFF).setN (Oid.CAN_DETECT_FLAGS c) 0 else s
    if x.mode = 4 then (s.dropItems (isCanItem c (fun e => decide (256 ≤ e)))).shrink (0x10 + c)
    else if m = 4 then s.grow (0x10 + c)
    else s

/-- A reset of the channel's block leaves the controller as after reset; its objects stay (R127). -/
def State.canReset (s : State) (c : Nat) : State :=
  let x := s.canCh c
  ((s.setCan c { x with busOff := false, recovering := false, offs := [], waitCycle := false, run := [], seen := [], srdo := [], tooLate := 0, reqAt := [], coll := none, passive := false }).setN
    (Oid.CAN_TEC c) 0).setN (Oid.CAN_REC c) 0

/-! ### Receiving -/

/-- A frame format: the extended and FD bits agree with an entry, and it is no remote frame (R264). -/
def entryTakes (d : Entry) (f : CanFrame) : Bool := d.id == f.id.toNat && d.ide == f.ide && d.fdf == f.fdf && !f.rtr

/-- A filter takes a frame (R263, R299). -/
def filterTakes (v : Nat) (f : CanFrame) : Bool :=
  let m := field v 60 32
  v.testBit 63 && (field v 28 0 &&& m) == (f.id.toNat &&& m) && (!v.testBit 62 || v.testBit 61 == f.ide)

/-- The receive buffer is held by a receive entry of the schedule (R264). -/
def State.rxbHeld (s : State) (c b : Nat) : Bool :=
  (s.entries c).any (fun e => (s.entHeld c e).type == 2 && (s.entHeld c e).buffer == b)

/-- The transmit buffer is held by a transmit entry (R267). -/
def State.txbHeld (s : State) (c t : Nat) : Bool :=
  (s.entries c).any (fun e => (s.entHeld c e).type == 1 && (s.entHeld c e).buffer == t)

/-- The buffers that the registers enable, in order (R263). -/
def State.enabledRxb (s : State) (c : Nat) : List Nat :=
  (s.objs.filter (fun x => decide (x.1 / 65536 = 0x170 + c) && x.1 % 256 == 5 && x.2.toNat.testBit 63)).map (fun x => x.1 / 256 % 256)

/-- A frame is stored in a buffer: status, identifier, time and data in one step (R263, R265). -/
def State.storeFrame (s : State) (c b : Nat) (f : CanFrame) : State :=
  let st := s.nat (Oid.RXB_STATUS c b)
  let upd := (field st 31 24 + 1) % 256
  let n := if f.rtr then f.len.val else f.data.length
  let st' := upd * 2 ^ 24 + n * 2 ^ 16 + boolNat f.esi * 64 + boolNat f.brs * 32 + boolNat f.fdf * 16 + boolNat f.rtr * 8
    + boolNat f.ide * 4 + boolNat (st.testBit 0) * 2 + 1
  (((s.setN (Oid.RXB_STATUS c b) st').setN (Oid.RXB_ID c b) f.id.toNat).setN (Oid.RXB_TIME c b) f.start.toNat).setBlob
    (Oid.RXB_DATA c b) (if f.rtr then [] else f.data)

/-- An identifier word: bit 31 IDE (R299). -/
def idWord (id : Nat) (ide : Bool) : Nat := id + (if ide then 2147483648 else 0)

/-- A capture of a collision in the layout of CAN_COLL_OWN (R299). -/
def collBytes (t id bits flags : Nat) (d : List Byte) : List Byte :=
  leBytes 8 t ++ leBytes 4 id ++ leBytes 2 bits ++ leBytes 1 flags ++ leBytes 1 d.length ++ d

/-- The other node's retransmission of a collided identifier, received complete within the same cycle (R285). -/
def State.collComplete (s : State) (c : Nat) (f : CanFrame) : State :=
  match (s.canCh c).coll with
  | none => s
  | some (w, k) =>
    if w = idWord f.id.toNat f.ide ∧ k = s.cycleAt c f.start.toNat then
      (s.setBlob (Oid.CAN_COLL_OTHER c) (collBytes f.start.toNat w (8 * f.data.length) 1 f.data)).setCan c
        { s.canCh c with coll := none }
    else s

/-- A frame with an entry's identifier outside that entry's window (R286). -/
def State.outOfWindow (s : State) (c e : Nat) (f : CanFrame) : State :=
  ((s.setBit (Oid.ENT_STATE c e) 3 true).count (Oid.ENT_CONFLICTS c e) 32).event 0x0705 c f.id.toNat (s.columnAt c f.start.toNat)

/-- The other frame of an SRDO pair: the complement must be the bitwise complement of the normal frame, of the same row (R298).
(DEDUCED, log entry 77.) -/
def State.srdoFrame (s : State) (c e : Nat) (d : Entry) (f : CanFrame) : State :=
  let x := s.canCh c
  let row := s.rowOf c (s.cycleAt c f.start.toNat)
  if d.role = 1 then s.setCan c { x with srdo := (e, row, f.data) :: x.srdo.filter (fun y => y.1 != e) }
  else if d.role = 2 then
    let normal := x.srdo.find? (fun y => y.1 == e - 1)
    let s := s.setCan c { x with srdo := x.srdo.filter (fun y => y.1 != e - 1) }
    match normal with
    | some (_, r, b) =>
      if r ≠ row then s.event 0x0709 c (e - 1) 1 else if f.data = b.map (~~~ ·) then s else s.event 0x0709 c (e - 1) 0
    | none => s.event 0x0709 c (e - 1) 1
  else s

/-- The event buffer whose frame the listening standby receives complete from the active module: the lowest-numbered PENDING one of that
identifier, format and data, as the active module sends it first (R268, R289). -/
def State.mirroredBuffer (s : State) (c : Nat) (f : CanFrame) : Option Nat :=
  (List.range 64).find? (fun t =>
    let fr := s.nat (Oid.TXB_FRAME c t)
    s.nat (Oid.TXB_STATUS c t) == 1 && !s.txbHeld c t && s.nat (Oid.TXB_ID c t) == idWord f.id.toNat f.ide && fr.testBit 0 == f.fdf
      && fr.testBit 2 == f.rtr && s.blob (Oid.TXB_DATA c t) == f.data)

/-- On the standby that buffer is TRANSMITTED (R289). -/
def State.standbySent (s : State) (c : Nat) (f : CanFrame) : State :=
  if s.mode == .standby then
    match s.mirroredBuffer c f with
    | some t => s.setN (Oid.TXB_STATUS c t) 2
    | none => s
  else s

/-- The active entry in whose window a frame starts, with its identifier and format (R264). -/
def State.entryOfFrame (s : State) (c : Nat) (f : CanFrame) : Option Nat :=
  (s.entries c).find? (fun e => s.entActive c e && entryTakes (s.entHeld c e) f && s.inWindow c (s.entHeld c e) f.start.toNat)

/-- The buffer whose receive entry takes the frame (R264). -/
def State.entryBuffer (s : State) (c : Nat) (f : CanFrame) : Option Nat :=
  match s.entryOfFrame c f with
  | some e => if (s.entHeld c e).type = 2 then some (s.entHeld c e).buffer else none
  | none => none

/-- The lowest-numbered event buffer whose filter takes the frame (R263, R264). -/
def State.filterBuffer (s : State) (c : Nat) (f : CanFrame) : Option Nat :=
  (s.enabledRxb c).find? (fun b => !s.rxbHeld c b && filterTakes (s.nat (Oid.RXB_FILTER c b)) f)

/-- The buffer that stores a valid frame: the lowest-numbered that takes it, of the entry's and the event buffers (R263, R264). -/
def State.frameBuffer (s : State) (c : Nat) (f : CanFrame) : Option Nat :=
  match s.entryBuffer c f, s.filterBuffer c f with
  | some a, some b => some (min a b)
  | some a, none => some a
  | none, b => b

/-- The frame is stored, or counted where no buffer takes it (R263). -/
def State.bufferFrame (s : State) (c : Nat) (f : CanFrame) : State :=
  match s.frameBuffer c f with
  | some b => s.storeFrame c b f
  | none => s.count (Oid.CAN_UNMATCHED c) 32

/-- A valid frame on a channel that carries receive buffers (R263, R264, R286, R290); EMCY messages are recorded (R293).
(PRESUMED, log entry 78.) -/
def State.canStore (s : State) (c : Nat) (f : CanFrame) : State :=
  let s := (s.collComplete c f).standbySent c f
  match s.entryOfFrame c f with
  | some e =>
    let d := s.entHeld c e
    let own := s.frameBuffer c f == some d.buffer
    let s := s.bufferFrame c f
    if d.type = 2 then
      let s := s.srdoFrame c e d f
      let x := s.canCh c
      let s := (s.setCan c { x with seen := e :: x.seen.filter (· != e) }).entryWorks c e
      if own then s.deliverEntry c e f.data else s
    else
      let x := s.canCh c
      s.setCan c { x with heard := (e, f.data) :: x.heard }
  | none =>
    let act := (s.entries c).filter (fun e => s.entActive c e && entryTakes (s.entHeld c e) f)
    let s := act.foldl (fun s e => s.outOfWindow c e f) s
    let s := if !f.ide && !f.rtr && decide (0x081 ≤ f.id.toNat ∧ f.id.toNat ≤ 0x0FF) then
        s.event 0x070A c (f.id.toNat - 0x080) (leNat (f.data.take 4))
      else s
    s.bufferFrame c f

/-! ### Bit rate detection (R291, R292) -/

/-- The candidates: nominal and data rate (R299). -/
def candidatesOf : Nat → List Byte → List (Nat × Nat)
  | 0, _ => []
  | n + 1, b => if b.length < 8 then [] else (leNat (b.take 4), leNat ((b.drop 4).take 4)) :: candidatesOf n (b.drop 8)

/-- CAN_DETECT_TABLE of a channel. -/
def State.candidates (s : State) (c : Nat) : List (Nat × Nat) := candidatesOf 16 (s.blob (Oid.CAN_DETECT_TABLE c))

/-- Detection moves to the next candidate (R291). -/
def State.nextCandidate (s : State) (c : Nat) : State :=
  let x := s.canCh c
  let n := (s.candidates c).length
  s.setCan c { x with cand := if n = 0 then 0 else (x.cand + 1) % n, good := 0, brs := false, dwellAt := s.clk }

/-- A frame, or a protocol error, while the channel detects (R291, R292). -/
def State.detectFrame (s : State) (c : Nat) (f : CanFrame) : State :=
  let x := s.canCh c
  let noData := match (s.candidates c)[x.cand]? with
    | some r => r.2 == 0
    | none => true
  let bad := !f.ok || (f.brs && noData)
  if s.bit (Oid.CAN_DETECT_FLAGS c) 0 then
    if f.brs && !s.bit (Oid.CAN_DETECT_FLAGS c) 1 then
      if bad then ((s.setN (Oid.CAN_DETECT_RESULT c) 0xFF).setN (Oid.CAN_DETECT_FLAGS c) 0).nextCandidate c
      else s.setBit (Oid.CAN_DETECT_FLAGS c) 1 true
    else s
  else if s.candidates c = [] then s
  else if bad then s.nextCandidate c
  else
    let n := x.good + 1
    let brs := x.brs || f.brs
    let s := s.setCan c { x with good := n, brs := brs, dwellAt := s.clk }
    if n = 8 then
      let fl := 1 + 2 * boolNat brs
      ((s.setN (Oid.CAN_DETECT_RESULT c) x.cand).setN (Oid.CAN_DETECT_FLAGS c) fl).event 0x0708 c x.cand fl
    else s

/-- REC after a valid frame: one less, and from above 127 a value between 119 and 127 that ISO 11898-1 leaves to the controller
(R257). (DESIGN CHOICE, log entry 30.) -/
def State.recGood (s : State) (c : Nat) : State :=
  let r := s.nat (Oid.CAN_REC c)
  if r = 0 then s
  else if r ≤ 127 then s.canCounters c (s.nat (Oid.CAN_TEC c)) (r - 1)
  else
    let f := s.free
    f.2.canCounters c (s.nat (Oid.CAN_TEC c)) (119 + f.1.toNat % 9)

/-- A frame arrives on a channel (R257, R259, R263, R291). -/
def State.canReceive (s : State) (c : Nat) (f : CanFrame) : State :=
  if !s.canRuns c then s
  else if (s.canCh c).mode = 2 then s.detectFrame c f
  else if (s.canCh c).busOff then s
  else if !f.ok then
    if s.canState c = 4 then s else s.canCounters c (s.nat (Oid.CAN_TEC c)) (s.nat (Oid.CAN_REC c) + 1 + 8 * f.flags)
  else (if s.canState c = 4 then s else s.recGood c).canStore c f

/-- CAN_DETECT_DWELL (R291). -/
def execCanDetectDwell (c : Fin 8) (s : State) : Answer :=
  let s := s.start
  .next (if s.canRuns c && (s.canCh c).mode == 2 && !s.bit (Oid.CAN_DETECT_FLAGS c) 0
    then (s.reach ((s.canCh c).dwellAt + ms (s.nat (Oid.CAN_DETECT_DWELL c)))).nextCandidate c else s)

/-- The end of an entry's window: a receive entry without a valid frame fails (R284); an SRDO copy of which one frame alone came is
invalid (R298). -/
def State.windowEnd (s : State) (c e : Nat) : State :=
  let d := s.entHeld c e
  if !(s.canRuns c && s.entActive c e && d.type == 2) then s
  else
    let x := s.canCh c
    if x.seen.contains e then s.setCan c { x with seen := x.seen.filter (· != e) }
    else
      let s := s.entryFails c e
      let x := s.canCh c
      if d.role = 2 ∧ x.srdo.any (fun y => y.1 == e - 1) then
        (s.setCan c { x with srdo := x.srdo.filter (fun y => y.1 != e - 1) }).event 0x0709 c (e - 1) 1
      else s

/-! ### Transmitting -/

/-- The order of arbitration of a frame: a lower number wins (R268). -/
def arbKey (w fr : Nat) : Nat :=
  let id := w % 536870912
  if w.testBit 31 then (id / 262144 % 2048) * 2097152 + 1048576 + 524288 + (id % 262144) * 2 + boolNat (fr.testBit 2)
  else (id % 2048) * 2097152 + boolNat (fr.testBit 2) * 1048576

/-- The event buffer whose frame starts at `at'`: of those requested by then the one that wins arbitration, the lowest-numbered among equal
identifiers (R268). -/
def State.nextBuffer (s : State) (c at' : Nat) : Option Nat :=
  ((List.range 64).filter (fun t => s.nat (Oid.TXB_STATUS c t) == 1 && !s.txbHeld c t && decide (Tbl.get 0 (s.canCh c).reqAt t ≤ at'))).foldl (fun b t =>
    match b with
    | none => some t
    | some u =>
      if arbKey (s.nat (Oid.TXB_ID c t)) (s.nat (Oid.TXB_FRAME c t)) < arbKey (s.nat (Oid.TXB_ID c u)) (s.nat (Oid.TXB_FRAME c u))
      then some t else some u) none

/-- In SCHEDULED mode an event frame starts only in an arbitrating window in which its worst-case frame time ends (R268), and which started after
the gate opened (R287). -/
def State.bufferFits (s : State) (c t start : Nat) : Bool :=
  (s.canCh c).mode == 3 ||
    (let o := s.cycleOff c start
     let fr := s.nat (Oid.TXB_FRAME c t)
     let nbr := s.nat (Oid.CAN_NBR c)
     let dbr := s.nat (Oid.CAN_DBR c)
     let d := if fr.testBit 1 then dbr else nbr
     (s.columns c).any (fun col => col.type == 2 && decide (col.start ≤ o ∧ o < col.start + col.len
       ∧ frameUnits ((s.nat (Oid.TXB_ID c t)).testBit 31) (fr.testBit 0) (fr.testBit 1) (s.blob (Oid.TXB_DATA c t)).length nbr dbr
           * 1000000000 ≤ (col.start + col.len - o) * (nbr * d)) && s.windowFresh start (o - col.start)))

/-- The content of a transmit buffer goes out on the bus. -/
def State.sendBuffer (s : State) (c t : Nat) : State :=
  s.emit (.can c (s.nat (Oid.TXB_ID c t)) (s.nat (Oid.TXB_FRAME c t)) (s.blob (Oid.TXB_DATA c t)))

/-- A transmission is complete: TEC one less (R257), status and time (R269). -/
def State.txDone (s : State) (c t st start : Nat) : State :=
  let s := s.canCounters c (s.nat (Oid.CAN_TEC c) - 1) (s.nat (Oid.CAN_REC c))
  ((s.sendBuffer c t).setN (Oid.TXB_STATUS c t) st).setN (Oid.TXB_TIME c t) start

/-- Bus-off of a channel. -/
def State.goBusOff (s : State) (c : Nat) : State :=
  if !(s.canRuns c && 3 ≤ (s.canCh c).mode && !(s.canCh c).busOff) then s
  else
    let x := s.canCh c
    let offs := s.clk :: x.offs.filter (fun t => !s.passed t (sec 60))
    let s := s.event 0x0701 c (s.nat (Oid.CAN_TEC c)) offs.length
    let s := s.setCan c { x with busOff := true, offs := offs, recovering := s.flag (Oid.CAN_BUSOFF_AUTO c) && decide (offs.length < 4) }
    s.shrink (0x10 + c)

/-- A transmission ends in error: TEC eight more, and bus-off above 255 (R257, R262). -/
def State.txError (s : State) (c : Nat) : State :=
  let n := s.nat (Oid.CAN_TEC c) + 8
  let s := s.canCounters c n (s.nat (Oid.CAN_REC c))
  if 255 < n then s.goBusOff c else s

/-- The end of a transmit entry's frame, which started in the entry's window (R267, R269, R284, R285, R287); an exclusive window sees no retry,
and a lost arbitration there ends as an error does (R268). (DEDUCED, log entry 147.) -/
def State.entryTxEnd (s : State) (c e : Nat) (r : CanTxRes) (start : Nat) : State :=
  let d := s.entHeld c e
  if !(s.canDrives c && s.entActive c e && d.type == 1 && s.mayStart c d start) then s
  else
    match r with
    | .complete _ => (s.txDone c d.buffer 2 start).entryWorks c e
    | .error => ((s.txError c).setN (Oid.TXB_STATUS c d.buffer) 5).entryFails c e
    | .lost | .noAck => (s.setN (Oid.TXB_STATUS c d.buffer) 5).entryFails c e
    | .collision bits other =>
      let w := idWord d.id d.ide
      let own := s.blob (Oid.TXB_DATA c d.buffer)
      let s := (((s.txError c).setN (Oid.TXB_STATUS c d.buffer) 6).setBit (Oid.ENT_STATE c e) 3 true).count (Oid.ENT_CONFLICTS c e) 32
      let s := ((s.count (Oid.CAN_COLLISIONS c) 32).setBlob (Oid.CAN_COLL_OWN c) (collBytes s.time w (8 * own.length) 0 own)).setBlob
        (Oid.CAN_COLL_OTHER c) (collBytes s.time w bits 0 other)
      let s := s.setCan c { s.canCh c with coll := some (w, s.cycleAt c start) }
      (s.event 0x0704 c e d.id).entryFails c e

/-- The end of an event buffer's frame: complete, or retried (R268 to R270); the request and its completion are mirrored (R289). -/
def State.bufferTxEnd (s : State) (c t : Nat) (r : CanTxRes) (start : Nat) : State :=
  if !(s.canDrives c && s.nextBuffer c start == some t && s.bufferFits c t start) then s
  else
    match r with
    | .complete _ =>
      let x := s.canCh c
      let late := x.tooLate.getLsbD t
      let s := (s.txDone c t (if late then 4 else 2) start).setCan c { x with tooLate := x.tooLate &&& ~~~ BitVec.twoPow 64 t }
      s.mirrorRegs 7 [Oid.TXB_STATUS c t, Oid.TXB_TIME c t]
    | .error | .collision _ _ => s.txError c
    | .lost | .noAck => s

/-- The reference message of the present cycle; `late` is LATE_REF (R274). -/
def State.refData (s : State) (c : Nat) (late : Bool := false) : List Byte :=
  let k := s.cycleAt c s.time
  let st := s.tb.status
  let nominal := k * s.cycleNs c + s.nat (Oid.CAN_PHASE c) * 1000
  leBytes 1 (k % 64 + (if late then 64 else 0) + (if st = 3 ∨ st = 4 then 128 else 0)) ++ leBytes 1 st ++ leBytes 6 (nominal % 2 ^ 48)

/-- The end of a reference message; one that was late went out with LATE_REF, and one in error is not repeated (R274).
(DEDUCED, log entry 147.) -/
def State.refTxEnd (s : State) (c : Nat) (r : CanTxRes) : State :=
  if !(s.canDrives c && (s.canCh c).mode == 4) then s
  else
    match r with
    | .complete false => s.canCounters c (s.nat (Oid.CAN_TEC c) - 1) (s.nat (Oid.CAN_REC c))
    | .complete true =>
      ((s.canCounters c (s.nat (Oid.CAN_TEC c) - 1) (s.nat (Oid.CAN_REC c))).event 0x0707 c (s.nat (Oid.CAN_CYCLE c)) 1).emit
        (.can c (s.nat (Oid.CAN_REF_ID c)) 0 (s.refData c true))
    | .noAck => s.event 0x0707 c (s.nat (Oid.CAN_CYCLE c)) 0
    | _ => (s.txError c).event 0x0707 c (s.nat (Oid.CAN_CYCLE c)) 0

/-- CAN_TRANSMIT_END (R269, R274, R284, R285). -/
def execCanTransmitEnd (c : Fin 8) (r : CanTxEnd) (s : State) : Answer :=
  let s := s.start
  .next (match r.what with
    | .reference => s.refTxEnd c r.res
    | .entry e => s.entryTxEnd c e r.res r.start.toNat
    | .buffer t => s.bufferTxEnd c t r.res r.start.toNat)

/-- The content of a transmit entry's buffer: the mapped fields, unmapped bits 0; the SYNC counter; the complement of the normal
frame (R275, R282, R296). (PRESUMED, log entry 78.) -/
def State.copyEntry (s : State) (c e : Nat) : State :=
  let d := s.entHeld c e
  if !(s.canRuns c && s.entActive c e && d.type == 1) then s
  else
    let fr := boolNat d.fdf + 2 * boolNat d.brs
    let s := (s.setN (Oid.TXB_ID c d.buffer) (idWord d.id d.ide)).setN (Oid.TXB_FRAME c d.buffer) fr
    if d.role = 3 then
      let x := s.canCh c
      let n := if x.sync = 240 then 1 else x.sync + 1
      (s.setCan c { x with sync := n }).setBlob (Oid.TXB_DATA c d.buffer) (leBytes 1 n)
    else if d.role = 2 then
      s.setBlob (Oid.TXB_DATA c d.buffer) ((s.blob (Oid.TXB_DATA c (s.entHeld c (e - 1)).buffer)).map (~~~ ·))
    else if d.role = 1 then s
    else
      let r := (s.mappedOn c e true).foldl (fun (r : State × List Byte) x => r.1.packField x r.2) (s, List.replicate d.len 0)
      r.1.setBlob (Oid.TXB_DATA c d.buffer) r.2


/-! ### The cycle (R271, R274, R277) -/

/-- A receive entry sets its buffer's filter (R264). -/
def State.setFilter (s : State) (c : Nat) (d : Entry) : State :=
  if d.type = 2 then
    s.setN (Oid.RXB_FILTER c d.buffer)
      (2 ^ 63 + 2 ^ 62 + (if d.ide then 2 ^ 61 else 0) + (if d.ide then 536870911 else 2047) * 2 ^ 32 + d.id)
  else s

/-- The written descriptors of a channel take effect on row 0: a receive entry sets its buffer's filter, and TYPE 0 removes the entry and frees
its charge (R264, R277). -/
def State.takeDescs (s : State) (c : Nat) : State :=
  let x := s.canCh c
  x.pendDesc.foldl (fun s e =>
    let d := leNat (s.blob (Oid.ENT_DESC c e))
    let x := s.canCh c
    let s := (s.setCan c { x with desc := x.desc.put 0 e d, run := x.run.put 0 e 0 }).setFilter c (entryOf d)
    if (entryOf d).type = 0 then s.dropItems (isCanItem c (· == e)) else s) (s.setCan c { x with pendDesc := [] })

/-- A cycle start of a channel's grid (R259, R262, R274, R277). -/
def State.cycleStart (s : State) (c : Nat) : State :=
  if !s.runs (.can c) then s
  else
    let s := s.canTakeMode c (s.nat (Oid.CAN_MODE c))
    if (s.canCh c).mode ≠ 4 then s
    else
      let k := s.cycleAt c s.time
      let x := s.canCh c
      let s := (s.setCan c { x with waitCycle := false }).setN (Oid.CAN_CYCLE c) (k % 64)
      let s := if s.rowOf c k = 0 then s.takeDescs c else s
      if s.canDrives c then s.emit (.can c (s.nat (Oid.CAN_REF_ID c)) 0 (s.refData c)) else s

/-- CAN_CYCLE_START (R274). -/
def execCanCycleStart (c : Fin 8) (s : State) : Answer := .next (s.start.cycleStart c)

/-! ### Bus-off (R262) -/

/-- CAN_BUS_OFF (R262). -/
def execCanBusOff (c : Fin 8) (s : State) : Answer := .next (s.start.goBusOff c)

/-- Recovery ends after 128 occurrences of 11 recessive bits; the error counters start again from 0 (R257, R262). -/
def State.goBusOn (s : State) (c idles : Nat) : State :=
  let x := s.canCh c
  if !(s.canRuns c && x.busOff && x.recovering && decide (128 ≤ idles)) then s
  else
    let s := s.setCan c { x with busOff := false, recovering := false, waitCycle := x.mode == 4 }
    let s := (s.canCounters c 0 0).event 0x0702 c ((s.clk - x.offs.headD s.clk) / 1000000)
    s.grow (0x10 + c)

/-- CAN_BUS_ON (R262). -/
def execCanBusOn (c : Fin 8) (idles : Nat) (s : State) : Answer := .next (s.start.goBusOn c idles)

/-! ### Host writes of this chapter -/

/-- The channel carries an accepted item of class A or B, entries of the schedule or the points mapped to them (R261). (DEDUCED, log entry 147.) -/
def State.canCarriesAB (s : State) (c : Nat) : Bool :=
  s.pts.items.any (fun i => decide (i.cls ≤ 1) && decide (0 < i.load (0x10 + c)) && !isCanItem c (fun e => decide (256 ≤ e)) i)

/-- CAN_MODE: BUSY while items of class A or B are carried; a switch to SCHEDULED needs columns and is an admission request (R259, R261,
R280, R299). -/
def State.canModeCheck (s : State) (c v : Nat) : Option Refuse :=
  firstOf [need (decide (v ≤ 4)) .range, need (!s.canCarriesAB c) .busy,
    if v = 4 ∧ s.nat (Oid.CAN_MODE c) ≠ 4 then
      andThen (need (s.columns c != []) .range)
        ((s.setCan c { s.canCh c with mode := 4, busOff := false }).admits (isCanItem c (fun e => decide (256 ≤ e))) (s.columnItems c))
    else none]

/-- CAN_MODE is written: a change into or out of SCHEDULED waits for the next cycle start of the grid (R259). -/
def State.canModeApply (s : State) (c v : Nat) : State :=
  let old := s.nat (Oid.CAN_MODE c)
  let s := s.setN (Oid.CAN_MODE c) v
  let s := if v = 4 ∧ old ≠ 4 then (s.columnItems c).foldl State.addItem s else s
  let s := if old = 4 ∧ v ≠ 4 then s.dropItems (isCanItem c (fun e => decide (256 ≤ e))) else s
  if v = 4 ∨ (s.canCh c).mode = 4 then s else s.canTakeMode c v

/-- The cells of two entries meet (R276). (DEDUCED, log entry 79.) -/
def cellsMeet (a b : Entry) : Bool :=
  a.column == b.column && (let m := min a.every b.every; a.offset % m == b.offset % m)

/-- The field ranges of an entry, the SRDO rules, and the length of its column (R275, R276, R278, R296). -/
def State.entryRange (s : State) (c e : Nat) (d : Entry) : Bool :=
  if d.type = 0 then true
  else
    let nbr := s.nat (Oid.CAN_NBR c)
    let dbr := s.nat (Oid.CAN_DBR c)
    decide (d.type ≤ 2) && [1, 2, 4, 8, 16, 32, 64].contains d.every && decide (d.every ≤ s.nat (Oid.CAN_ROWS c))
      && decide (d.offset < d.every) && decide (d.cls ≤ 3) && entryLen d.fdf d.len && (!d.brs || (d.fdf && dbr != 0))
      && (d.type == 2 || decide (d.buffer < 64)) && (d.ide || decide (d.id < 2048)) && decide (d.role ≤ 3)
      && (match (s.columns c)[d.column]? with
          | some col => col.type == 1 && columnHolds col.len d.ide d.fdf d.brs d.len nbr dbr
          | none => false)
      && (d.role != 3 || (d.type == 1 && d.len == 1))
      && (!(d.role == 1 || d.role == 2) || (decide (c < 4) && d.cls == 0 && d.fdf && !d.ide && (d.len == 16 || d.len == 32)
          && (d.role != 1 || (d.id % 2 == 1 && decide (0x101 ≤ d.id ∧ d.id ≤ 0x17F)))
          && (d.role != 2 || decide (0 < e))
          && (let n := if d.role = 1 then d else s.entWritten c (e - 1)
              let k := if d.role = 2 then d else s.entWritten c (e + 1)
              (n.type == 0 || n.role != 1 || k.type == 0 || k.role != 2)
                || (k.id == n.id + 1 && k.every == n.every && k.offset == n.offset && decide (n.column < k.column)
                    && (match (s.columns c)[n.column]?, (s.columns c)[k.column]? with
                        | some x, some y => decide (y.start + y.len ≤ x.start + 1000000)
                        | _, _ => false)))))

/-- ENT_DESC: RANGE, BUSY and admission (R276 to R278, R280). -/
def State.entDescCheck (s : State) (c e : Nat) (b : List Byte) : Option Refuse :=
  let d := entryOf (leNat b)
  let others := (s.blobs.filter (fun x => decide (x.1 / 65536 = 0x160 + c) && x.1 % 256 == 0 && decide (x.1 / 256 % 256 ≠ e))).map
    (fun x => entryOf (leNat x.2))
  firstOf [need (b.length == 16) .type, need (s.entryRange c e d) .range,
    if d.type = 0 then need (s.mapped c e == []) .busy
    else
      andThen (need (!others.any (fun o => o.type != 0 && (cellsMeet d o || (o.type == d.type && o.buffer == d.buffer)))) .busy)
        (s.admits (isCanItem c (· == e)) [s.entryItem c e d])]

/-- ENT_DESC is written: the entry shows PENDING until row 0 (R277). -/
def State.entDescApply (s : State) (c e : Nat) (b : List Byte) : State :=
  let n := entryMask (leNat b)
  let d := entryOf n
  let s := s.setBlob (Oid.ENT_DESC c e) (leBytes 16 n)
  let x := s.canCh c
  let s := s.setCan c { x with pendDesc := x.pendDesc.filter (· != e) ++ [e] }
  if d.type = 0 then s else (s.dropItems (isCanItem c (· == e))).addItem (s.entryItem c e d)

/-- MAP_DESC: RANGE, TYPE against the points that use the handle, BUSY while an enabled point uses it (R281, R282). -/
def State.mapDescCheck (s : State) (h : Nat) (b : List Byte) : Option Refuse :=
  let m := mappingOf (leNat b)
  let users := (s.bindings.filter (fun x => x.2.2.kind == 2 && x.2.2.addr1 == h)).map (·.1)
  let d := s.entWritten m.chan m.entry
  let spots := (List.range m.width).map m.place
  firstOf [need (b.length == 8) .type,
    need (m.width == 0 || (decide (m.chan < 8) && decide (m.byte < 64) && decide (m.bit < 8) && decide (m.width ≤ 64) && decide (m.format ≤ 3)
      && decide (m.order ≤ 1) && (m.format != 2 || m.width == 32) && (m.format != 3 || m.width == 1)
      && (m.order == 0 || decide ((m.bit + m.width - 1) / 8 ≤ m.byte)) && spots.all (fun p => decide (p.1 < 64))
      && (d.type == 0 || spots.all (fun p => decide (p.1 < d.len))))) .range,
    need (!users.any s.enabledPt) .busy,
    need (m.width == 0 || users.all (fun p => s.ptType p == 0 || formatSuits m (s.ptType p))) .type,
    need (!(d.type == 1 && s.blobs.any (fun x => decide (x.1 / 4194304 = 6 ∧ x.1 ≠ 0x01800000 + h * 256) && x.1 % 256 == 0 && (
      let o := mappingOf (leNat x.2)
      o.width != 0 && o.chan == m.chan && o.entry == m.entry && (List.range o.width).any (fun i => spots.contains (o.place i)))))) .range]

/-- The columns of a channel would hold the frames of its entries at these rates (R278). -/
def State.columnsHold (s : State) (c : Nat) (cols : List Column) (nbr dbr : Nat) : Bool :=
  (List.range 256).all (fun e =>
    let d := s.entWritten c e
    d.type == 0 || (match cols[d.column]? with
      | some col => columnHolds col.len d.ide d.fdf d.brs d.len nbr dbr
      | none => true))

/-- CAN_COLUMNS (R261, R272, R278). (DEDUCED, log entry 147.) -/
def State.columnsCheck (s : State) (c : Nat) (b : List Byte) : Option Refuse :=
  andThen (need (s.nat (Oid.CAN_MODE c) != 4) .busy)
    (need (columnsOk b (s.nat (Oid.CAN_T_CYCLE c)) && s.columnsHold c (columnsOf 32 b) (s.nat (Oid.CAN_NBR c)) (s.nat (Oid.CAN_DBR c))) .range)

/-- CAN_T_CYCLE: CAN_PHASE stays below it, and no column ends after it (R261, R272, R299). -/
def State.cycleCheck (s : State) (c : Nat) (v : Int) : Option Refuse :=
  andThen (need (s.nat (Oid.CAN_MODE c) != 4) .busy)
    (need (decide (s.get (Oid.CAN_PHASE c) < v) && (s.columns c).all (fun y => decide (((y.start + y.len : Nat) : Int) ≤ v * 1000))) .range)

/-- CAN_NBR and CAN_DBR: a pair of R257 at which the columns hold the frames of their entries (R257, R261, R278). (DEDUCED, log entry 147.) -/
def State.ratesCheck (s : State) (c nbr dbr : Nat) : Option Refuse :=
  andThen (need (ratesOk nbr dbr && s.columnsHold c (s.columns c) nbr dbr) .range) (need (!s.canCarriesAB c) .busy)

/-- CAN_DETECT_TABLE: 1 to 16 candidates of R257 (R299). -/
def detectTableCheck (b : List Byte) : Option Refuse :=
  andThen (need (b.length % 8 == 0) .type) (need ((candidatesOf 16 b).all (fun x => ratesOk x.1 x.2)) .range)

/-- TXB_CTRL: 1 requests, 2 cancels; a held buffer is refused with ACCESS (R267, R268, R270). -/
def State.txbCtrlCheck (s : State) (c t v : Nat) : Option Refuse :=
  firstOf [need (v == 1 || v == 2) .range, need (!s.txbHeld c t) .access,
    if v = 1 then none
    else if s.nat (Oid.TXB_STATUS c t) ≠ 1 then refuse .noObject
    else none]

/-- A request of an event buffer (R268, R289). -/
def State.txbRequest (s : State) (c t : Nat) : State :=
  let x := s.canCh c
  let s := (s.setN (Oid.TXB_STATUS c t) 1).setCan c
    { x with tooLate := x.tooLate &&& ~~~ BitVec.twoPow 64 t, reqAt := x.reqAt.put 0 t s.time }
  s.mirrorRegs 7 [Oid.TXB_STATUS c t, Oid.TXB_ID c t, Oid.TXB_FRAME c t] [Oid.TXB_DATA c t]

/-- A cancel of an event buffer: whether it is in time, and what the buffer becomes (R270). (DESIGN CHOICE, log entry 32.) -/
def State.txbCancel (s : State) (c t : Nat) (ph : TxPhase) : State :=
  match ph with
  | .offBus | .arbitrationLost => (s.setN (Oid.TXB_STATUS c t) 3).mirrorRegs 7 [Oid.TXB_STATUS c t]
  | .arbitrationWon | .pastArbitration =>
    let x := s.canCh c
    s.setCan c { x with tooLate := x.tooLate ||| BitVec.twoPow 64 t }

/-- RXB_ACK: the UPDATES value must still hold (R266). -/
def State.rxbAckCheck (s : State) (c b v : Nat) : Option Refuse := need (field (s.nat (Oid.RXB_STATUS c b)) 31 24 == v) .busy

/-- CAN_BUSOFF_REQ starts recovery (R262). -/
def State.busOffReq (s : State) (c : Nat) : State :=
  let x := s.canCh c
  if x.busOff then s.setCan c { x with recovering := true } else s

end Sys2Proof.Machine
end

