-- ==== Sys2Proof/Machine/Position.lean ====
section
/-! DEFINITION. Position units: quadrature counting, speed, the absolute sensor, referencing, the probe, learning and the compare
registers (chapter 09). -/

namespace Sys2Proof.Machine

/-- A position unit beyond its objects. -/
def State.posUnit (s : State) (n : Nat) : PosUnit := Tbl.get {} s.pos n

/-- That changed. -/
def State.setPos (s : State) (n : Nat) (u : PosUnit) : State := { s with pos := s.pos.put {} n u }

/-- The unit counts: it is powered and out of reset (COUNTING). -/
def State.counting (s : State) (n : Nat) : Bool := s.runs (.pu n) && s.pow.puOn.getLsbD n

/-- ENC_OFFSET + ⌊ENC_RAW × ENC_NUM ÷ ENC_DEN⌋, exact (R307). -/
def State.scalePos (s : State) (n : Nat) (raw : Int) : Int :=
  s.get (Oid.ENC_OFFSET n) + Int.fdiv (raw * s.get (Oid.ENC_NUM n)) (s.get (Oid.ENC_DEN n))

/-- The exact position now. -/
def State.exactPos (s : State) (n : Nat) : Int := s.scalePos n (s.get (Oid.ENC_RAW n))

/-- A number in the I32 range. -/
def inI32 (v : Int) : Bool := decide (-2147483648 ≤ v ∧ v ≤ 2147483647)

/-- Saturation to I32. -/
def satI32 (v : Int) : Int := clampInt (-2147483648) 2147483647 v

/-- ENC_VALID: no encoder fault bit is set and ENC_POS is in range (R306, R307, R338). -/
def State.encValid (s : State) (n : Nat) : Bool :=
  s.counting n && !s.bit (Oid.POS_STATUS n) 4 && !s.bit (Oid.POS_STATUS n) 5 && !s.bit (Oid.POS_STATUS n) 6 && inI32 (s.exactPos n)

/-- REFERENCED, MOVING and DIR (R338). -/
def State.referenced (s : State) (n : Nat) : Bool := s.bit (Oid.POS_STATUS n) 2
def State.moving (s : State) (n : Nat) : Bool := s.bit (Oid.POS_STATUS n) 11
def State.dirDown (s : State) (n : Nat) : Bool := s.bit (Oid.POS_STATUS n) 10

/-- POS_STATUS (R338): COUNTING, ENC_VALID and LEARNING follow, the other bits are kept. -/
def State.posStatus (s : State) (n : Nat) : Nat :=
  boolNat (s.counting n) + 2 * boolNat (s.encValid n) + (s.nat (Oid.POS_STATUS n) &&& 0x0FFC) + 4096 * boolNat (s.nat (Oid.LEARN n) != 0)

/-- ENC_POS takes the exact position; a position outside I32 has no stated value (R307). (DESIGN CHOICE, log entry 28.) -/
def State.refreshEnc (s : State) (n : Nat) : State :=
  let v := s.exactPos n
  if inI32 v then s.set (Oid.ENC_POS n) v
  else let f := s.free; f.2.set (Oid.ENC_POS n) (signed 32 f.1.toNat)

/-- ENC_POS as it stood at an instant of the unit's clock, from the edge history (R315, R323). (DEDUCED, log entry 80.) -/
def State.posAt (s : State) (n t : Nat) : Int :=
  let u := s.posUnit n
  match u.hist.find? (fun e => decide (e.1 ≤ t)) with
  | some e => s.scalePos n e.2
  | none =>
    match u.hist.getLast? with
    | some e => s.scalePos n e.2
    | none => s.exactPos n

/-- An encoder fault: its bit, REFERENCED cleared, recorded (R304, R305, R334). -/
def State.encFault (s : State) (n bit code p0 p1 : Nat) : State :=
  if s.bit (Oid.POS_STATUS n) bit then s
  else
    let was := s.referenced n
    let s := ((s.setBit (Oid.POS_STATUS n) bit true).setBit (Oid.POS_STATUS n) 2 false).eventOf code n p0 p1
    if was then s.eventOf 0x090A n 5 else s

/-! ### Compares (R328 to R332, R336) -/

/-- A compare fires: position and instant latched, the field channel switched, the write emitted, the compare disarmed (R330, R336).
(DEDUCED, log entry 81.) -/
def State.fireCompare (s : State) (n k : Nat) (late : Bool) : State :=
  let p := s.get (Oid.ENC_POS n)
  let s := ((s.set (Oid.CMP_LATCH_POS n k) p).setN (Oid.CMP_LATCH_TIME n k) s.time).setN (Oid.CMP_STATE n k) (if late then 4 else 3)
  let s := s.setN (Oid.CMP_ARM n k) 0
  let s := if late then s.eventOf 0x0908 n k (par (s.get (Oid.CMP_POS n k))) (par p) else s
  let x := s.nat (Oid.CMP_FIELD n k)
  let s := if x < 64 then s.setOut x ((s.nat (Oid.CMP_MODE n k)).testBit 3) else s
  let t := s.nat (Oid.CMP_TARGET n k)
  if s.drives then
    if t = 0 then s
    else { s with emits := s.emits ++ [
            { oid := t, prio := if 0x80000000 ≤ t ∧ t < 0x84000000 then 16 else 0, value := leBytes 8 (s.nat (Oid.CMP_VALUE n k)), src := .compare n k
              time := s.time, late := late }] }
  else
    let u := s.posUnit n
    s.setPos n { u with fired := (k, s.clk) :: u.fired.take 7 }

/-- Arms a compare with the values its registers hold (R329, R330, R332). -/
def State.armCompare (s : State) (n k : Nat) : State :=
  let p := s.get (Oid.ENC_POS n)
  let q := s.get (Oid.CMP_POS n k)
  let m := s.nat (Oid.CMP_MODE n k)
  let d := m % 4
  let s := s.setN (Oid.CMP_ARM n k) 1
  if p = q then s.fireCompare n k false
  else if (d = 1 ∧ q < p) ∨ (d = 2 ∧ p < q) then
    if m.testBit 2 then s.setN (Oid.CMP_STATE n k) 2 else s.fireCompare n k true
  else s.setN (Oid.CMP_STATE n k) 1

/-- Disarms a compare; FIRED stays as it stands (R330). -/
def State.disarmCompare (s : State) (n k : Nat) : State :=
  let s := s.setN (Oid.CMP_ARM n k) 0
  if s.nat (Oid.CMP_STATE n k) = 1 ∨ s.nat (Oid.CMP_STATE n k) = 2 then s.setN (Oid.CMP_STATE n k) 0 else s

/-- One compare, after ENC_POS has moved from `a` to `b` (R330, R332). -/
def State.crossOne (a b : Int) (n : Nat) (s : State) (k : Nat) : State :=
  let q := s.get (Oid.CMP_POS n k)
  let d := s.nat (Oid.CMP_MODE n k) % 4
  let st := s.nat (Oid.CMP_STATE n k)
  if st = 1 ∧ ((d ≠ 2 ∧ a < q ∧ q ≤ b) ∨ (d ≠ 1 ∧ b ≤ q ∧ q < a)) then s.fireCompare n k false
  else if st = 2 ∧ ((d = 1 ∧ b < q) ∨ (d = 2 ∧ q < b)) then s.setN (Oid.CMP_STATE n k) 1
  else s

/-- Every compare of a car, in compare-number order (R331). -/
def State.crossAll (s : State) (n : Nat) (a b : Int) : State := (List.range 8).foldl (State.crossOne a b n) s

/-- ENC_POS follows a change of the count or of the offset, and the compares see the movement (R326, R330). -/
def State.movePos (s : State) (n : Nat) : State :=
  let a := s.get (Oid.ENC_POS n)
  let s := s.refreshEnc n
  s.crossAll n a (s.get (Oid.ENC_POS n))

/-! ### Counting (R301 to R304) -/

/-- The Up rows of the table Quadrature decoding (R301). -/
def quadUp (st x : BitVec 2) : Bool :=
  (st == 0 && x == 2) || (st == 2 && x == 3) || (st == 3 && x == 1) || (st == 1 && x == 0)

/-- SPEED of an edge set: direction down, times newest first, N edges at most (R310). -/
def speedOf (down : Bool) (num den : Nat) (times : List Nat) (n : Nat) : Int × Nat × Nat :=
  let m := min n (times.length - 1)
  match times.head?, times[m]? with
  | some t, some t0 =>
    let dt := (t - t0) / 5 * 5
    if m = 0 ∨ dt = 0 then (0, 0, 0)
    else
      let v := satI32 (divRound ((m * num * 100000000000 : Nat) : Int) (64 * den * dt))
      (if down then -v else v, dt, m)
  | _, _ => (0, 0, 0)

/-- SPEED between edges: limited to one edge over the time since the last one (R311). -/
def State.speed (s : State) (n : Nat) : Int :=
  let u := s.posUnit n
  let v := s.get (Oid.SPEED n)
  let el := s.clk - u.edgeAt
  if u.spanN = 0 ∨ el * u.spanN ≤ u.spanNs then v
  else
    let lim := satI32 (divRound ((s.nat (Oid.ENC_NUM n) * 100000000000 : Nat) : Int) (64 * s.nat (Oid.ENC_DEN n) * el))
    clampInt (-lim) lim v

/-- An accepted edge (R302, R310, R312, R324). -/
def State.acceptEdge (s : State) (n : Nat) (x : BitVec 2) (now : Nat) : State :=
  let u := s.posUnit n
  let up := quadUp u.st x != s.flag (Oid.ENC_INVERT n)
  let step : Int := if up then 1 else -1
  let raw := s.get (Oid.ENC_RAW n) + step
  let turned := s.dirDown n == up
  let set := if turned then [now] else (now :: u.set).take 65
  let sp := speedOf (!up) (s.nat (Oid.ENC_NUM n)) (s.nat (Oid.ENC_DEN n)) set (s.nat (Oid.SPEED_EDGES n))
  let u := { u with
    prevSt := u.st, st := x, tLast := now, lastStep := step, hist := ((now, raw) :: u.hist).take 256, set := set, edgeAt := s.clk
    spanNs := sp.2.1, spanN := sp.2.2, hold := if turned then none else u.hold }
  let s := ((s.setPos n u).set (Oid.ENC_RAW n) raw).set (Oid.SPEED n) sp.1
  let s := s.setBit (Oid.POS_STATUS n) 10 (!up)
  let s := if 2 ≤ set.length then s.setBit (Oid.POS_STATUS n) 11 true else s
  s.movePos n

/-- An illegal sample: both lines changed (R303, R304). -/
def State.illegalSample (s : State) (n : Nat) (x : BitVec 2) : State :=
  let u := s.posUnit n
  let w := ms (s.nat (Oid.QUAD_WINDOW n))
  let qs := s.clk :: u.quads.filter (fun t => !s.passed t w)
  let s := (s.setPos n { u with st := x, quads := qs }).count (Oid.QUAD_ERR n) 32
  if s.nat (Oid.QUAD_ERR_LIMIT n) ≤ qs.length then
    s.encFault n 4 0x0901 (s.nat (Oid.QUAD_ERR n)) (s.nat (Oid.QUAD_WINDOW n))
  else s

/-- A change too early: rejected once, then waiting (R302, R304). -/
def State.rejectEdge (s : State) (n : Nat) : State :=
  let u := s.posUnit n
  if u.pending then s
  else
    let w := ms (s.nat (Oid.QUAD_WINDOW n))
    let fs := s.clk :: u.fasts.filter (fun t => !s.passed t w)
    let s := (s.setPos n { u with pending := true, fasts := fs }).count (Oid.EDGE_FAST n) 32
    if s.nat (Oid.EDGE_FAST_LIMIT n) ≤ fs.length then
      s.encFault n 5 0x0902 (s.nat (Oid.EDGE_FAST n)) (s.nat (Oid.MIN_EDGE n))
    else s

/-- One sample of the encoder lines at time `now`, as the pseudocode of R302 has it. -/
def State.encSample (s : State) (n : Nat) (x : BitVec 2) (now : Nat) : State :=
  let s := if s.counting n then s.setPos n { s.posUnit n with raw := x } else s
  let u := s.posUnit n
  if !s.counting n then s
  else if x = u.st then s.setPos n { u with pending := false }
  else if x = u.st ^^^ 3 ∧ !u.pending then s.illegalSample n x
  else if now - u.tLast < s.nat (Oid.MIN_EDGE n) then s.rejectEdge n
  else if u.pending then
    let undo := decide (x = u.prevSt)
    let s := s.setPos n { u with st := x, pending := false }
    if undo then (s.set (Oid.ENC_RAW n) (s.get (Oid.ENC_RAW n) - u.lastStep)).movePos n else s
  else s.acceptEdge n x now

/-- A line fault on A or B sets LINE_FAULT; on Z it is recorded only (R305). -/
def State.lineFault (s : State) (n : Nat) (line : EncLine) (forNs : Nat) : State :=
  let u := s.posUnit n
  let b : Nat := if line = .a then 0 else 1
  if !s.counting n then s
  else
    match line with
    | .z => if 1000 < forNs then s.eventOf 0x0903 n 2 else s
    | _ =>
      if 1000 < forNs then
        let was := s.bit (Oid.POS_STATUS n) 6 && !u.line.getLsbD b
        let s := s.setPos n { u with line := u.line ||| BitVec.twoPow 2 b }
        if was then s.eventOf 0x0903 n b else s.encFault n 6 0x0903 b 0
      else if forNs = 0 then s.setPos n { u with line := u.line &&& ~~~ BitVec.twoPow 2 b }
      else s

/-- ENC_LINE_FAULT (R305); a duration of 0 says that the line is good again. -/
def execEncLineFault (n : Fin 12) (line : EncLine) (forNs : Nat) (s : State) : Answer := .next (s.start.lineFault n line forNs)

/-- No accepted edge for ZERO_TIMEOUT (R312). -/
def State.zeroTimeout (s : State) (n now : Nat) : State :=
  let u := s.posUnit n
  if s.counting n && decide (u.tLast + ms (s.nat (Oid.ZERO_TIMEOUT n)) ≤ now) then
    ((s.setPos n { u with set := [], spanN := 0, spanNs := 0 }).set (Oid.SPEED n) 0).setBit (Oid.POS_STATUS n) 11 false
  else s

/-- ZERO_TIMEOUT (R312). -/
def execZeroTimeout (n : Fin 12) (now : Nat) (s : State) : Answer := .next (s.start.zeroTimeout n now)

/-- INDEX_EDGE: Z_POS and Z_COUNT (R309). -/
def execIndexEdge (n : Fin 12) (s : State) : Answer :=
  let s := s.start
  .next (if s.counting n then (s.set (Oid.Z_POS n) (s.get (Oid.ENC_POS n))).count (Oid.Z_COUNT n) 32 else s)

/-! ### The absolute sensor (R313 to R321) -/

/-- The bits that an SSI frame clocks: the data, the error bit and the parity bit (R313). -/
def State.ssiClocks (s : State) (n : Nat) : Nat :=
  s.nat (Oid.SSI_BITS n) + boolNat ((s.nat (Oid.SSI_FORMAT n)).testBit 1) + boolNat ((s.nat (Oid.SSI_FORMAT n)).testBit 2)

/-- SSI_FRAME_START: at a multiple of SSI_PERIOD an ACTIVE or SERVICE module whose gate permits outputs clocks a frame (R50, R52, R313,
R316). -/
def execSsiFrameStart (n : Fin 12) (s : State) : Answer :=
  let s := s.start
  let p := us (s.nat (Oid.SSI_PERIOD n))
  .next (if s.counting n && s.nat (Oid.ABS_SOURCE n) == 1 && s.drives && s.gate then
      (s.reach (s.clk + (p - s.time % p) % p)).emit (.ssi n (s.nat (Oid.SSI_RATE n)) (s.ssiClocks n))
    else s)

/-- A discarded reading; ABS_VALID is kept over one or two of them, and set at the next accepted one, as R319 has it. (DEDUCED, log entry 149.) -/
def State.absDiscard (s : State) (n cause : Nat) : State :=
  let u := s.posUnit n
  let s := s.setPos n { u with absBad := min (u.absBad + 1) 3 }
  if u.absBad = 2 then
    ((s.setBit (Oid.POS_STATUS n) 3 false).setBit (Oid.POS_STATUS n) 7 true).eventOf 0x0904 n cause (s.nat (Oid.ABS_RAW n))
  else s

/-- ENC_OFFSET is set so that ENC_POS reads a given position where the exact one was `was` (R320). -/
def State.reference (s : State) (n : Nat) (was target : Int) (cause : Nat) : State :=
  let s := (s.set (Oid.ENC_OFFSET n) (satI32 (s.get (Oid.ENC_OFFSET n) + (target - was)))).setBit (Oid.POS_STATUS n) 2 true
  let s := s.refreshEnc n
  s.eventOf 0x0907 n cause (par (s.get (Oid.ENC_POS n)))

/-- ABS_POS of a raw reading (R318). -/
def State.absScale (s : State) (n raw : Nat) : Int :=
  satI32 (Int.tdiv (raw * s.get (Oid.ABS_NUM n) + s.get (Oid.ABS_OFFSET n) * s.get (Oid.ABS_DEN n)) (s.get (Oid.ABS_DEN n)))

/-- A reading jumps: it differs from the previous ABS_POS plus SPEED × the elapsed time by more than ABS_JUMP_LIMIT (R319). -/
def State.absJumps (s : State) (n : Nat) (pos : Int) (t : Nat) : Bool :=
  (s.posUnit n).absSeen &&
    decide (((pos - s.get (Oid.ABS_POS n)) * 100000000000 - s.speed n * ((t : Int) - s.get (Oid.ABS_TIME n)) * 64).natAbs
      > s.nat (Oid.ABS_JUMP_LIMIT n) * 100000000000)

/-- An accepted reading: ABS_POS, ABS_VALID, referencing or SLIP (R319 to R321). -/
def State.absAccept (s : State) (n raw : Nat) (pos encThen : Int) (t : Nat) : State :=
  let u := s.posUnit n
  let s := s.setPos n { u with absBad := 0, absSeen := true }
  let s := (((s.setN (Oid.ABS_RAW n) raw).set (Oid.ABS_POS n) pos).setN (Oid.ABS_TIME n) t).setBit (Oid.POS_STATUS n) 3 true
  if s.referenced n then s.set (Oid.SLIP n) (satI32 (encThen - pos))
  else if s.encValid n then s.reference n encThen pos 0
  else s

/-- A reading that has passed the checks of its frame: the jump check, then its acceptance (R319). -/
def State.absReading (s : State) (n raw : Nat) (encThen : Int) (t : Nat) : State :=
  let pos := s.absScale n raw
  if s.absJumps n pos t then s.absDiscard n 4 else s.absAccept n raw pos encThen t

/-- The binary number of a Gray code of `w` bits. -/
def grayDecode (w v : Nat) : Nat :=
  (List.range w).foldl (fun r i => if (((List.range w).filter (fun j => decide (i ≤ j) && v.testBit j)).length % 2 = 1) then r + 2 ^ i else r) 0

/-- Even parity over the data bits and the error bit, where there is one (R313, R319). -/
def ssiParityOk (w v : Nat) (fmt : Nat) (err par : Bool) : Bool :=
  !fmt.testBit 2 ||
    ((popCount v w + boolNat (fmt.testBit 1 && err) + boolNat par) % 2 == 0)

/-- A complete SSI frame (R313 to R319). -/
def State.ssiFrame (s : State) (n : Nat) (r : SsiReading) : State :=
  let w := s.nat (Oid.SSI_BITS n)
  let fmt := s.nat (Oid.SSI_FORMAT n)
  let v := r.data.toNat % 2 ^ w
  if !(s.counting n && s.nat (Oid.ABS_SOURCE n) == 1) then s
  else if !r.idleHigh then s.absDiscard n 1
  else
    match r.delayNs with
    | none => s.absDiscard n 0
    | some d =>
      let s := s.setN (Oid.SSI_DELAY_NS n) d
      if 8000 < d then s.absDiscard n 0
      else if (fmt.testBit 1 && r.errBit) || !ssiParityOk w v fmt r.errBit r.parity then s.absDiscard n 2
      else s.absReading n (if fmt.testBit 0 then grayDecode w v else v) (s.posAt n (r.now + d / 2)) (r.time.toNat + d / 2)

/-- SSI_FRAME_END (R319). -/
def execSsiFrameEnd (n : Fin 12) (r : SsiReading) (s : State) : Answer := .next (s.start.ssiFrame n r)

/-- A car's unit takes its absolute position from an entry: ABS_SOURCE is 2, and ABS_CAN_MAP maps it, a receive entry of class A or B (R295,
R317). -/
def State.absReads (s : State) (n c e : Nat) : Bool :=
  let m := s.mapping (s.nat (Oid.ABS_CAN_MAP n))
  s.counting n && s.nat (Oid.ABS_SOURCE n) == 2 && m.chan == c && m.entry == e && m.width != 0 && (s.entHeld c e).type == 2
    && decide ((s.entHeld c e).cls ≤ 1)

/-- A CiA 406 frame of the entry that a car's ABS_CAN_MAP names (R317): ABS_TIME is its start of frame less ABS_CAN_LAT. -/
def State.absFromCan (s : State) (c e : Nat) (f : CanFrame) : State :=
  (List.range 12).foldl (fun s n =>
    let m := s.mapping (s.nat (Oid.ABS_CAN_MAP n))
    if s.absReads n c e then
      let t := f.start.toNat - s.nat (Oid.ABS_CAN_LAT n)
      s.absReading n (m.extract f.data % 4294967296) (s.posAt n ((s.posUnit n).tLast + (s.clk - (s.posUnit n).edgeAt) - (s.time - t))) t
    else s) s

/-- A failed occurrence of that entry counts as a missing reading (R317, R319). -/
def State.absMissing (s : State) (c e : Nat) : State :=
  (List.range 12).foldl (fun s n => if s.absReads n c e then s.absDiscard n 3 else s) s

/-- A frame on a channel, and the absolute reading that it may carry (R263, R317). (DEDUCED, log entry 77.) -/
def State.canFrame (s : State) (c : Nat) (f : CanFrame) : State :=
  match (if f.ok && s.canRuns c && (s.canCh c).mode == 4 && !(s.canCh c).busOff then s.entryOfFrame c f else none) with
  | some e => (s.canReceive c f).absFromCan c e f
  | none => s.canReceive c f

/-- CAN_FRAME_RECEIVE (R263). -/
def execCanFrameReceive (c : Fin 8) (f : CanFrame) (s : State) : Answer := .next (s.start.canFrame c f)

/-- The end of a receive window, and the absolute reading that is missing where it had no frame (R284, R317). -/
def State.canWindowEnd (s : State) (c e : Nat) : State :=
  let fails := s.canRuns c && s.entActive c e && (s.entHeld c e).type == 2 && !(s.canCh c).seen.contains e
  let s := s.windowEnd c e
  if fails then s.absMissing c e else s

/-- CAN_WINDOW_END (R284). -/
def execCanWindowEnd (c : Fin 8) (e : Fin 256) (s : State) : Answer := .next (s.start.canWindowEnd c e)

/-- SLIP_FAULT: |SLIP| above SLIP_LIMIT for SLIP_TIME (R321). -/
def execSlipFault (n : Fin 12) (forMs : Nat) (s : State) : Answer :=
  let s := s.start
  let slip := s.get (Oid.SLIP n)
  .next (if s.counting n && s.nat (Oid.ABS_SOURCE n) != 0 && s.bit (Oid.POS_STATUS n) 3 && decide (s.nat (Oid.SLIP_LIMIT n) < slip.natAbs)
            && decide (s.nat (Oid.SLIP_TIME n) ≤ forMs) && !s.bit (Oid.POS_STATUS n) 8 then
          (s.setBit (Oid.POS_STATUS n) 8 true).eventOf 0x0905 n (par slip) (par (s.get (Oid.ENC_POS n)))
        else s)

/-! ### Probe and learning (R323 to R327) -/

/-- The hold-off of the last probe edge has ended (R324). -/
def State.probeFree (s : State) (n : Nat) : Bool :=
  match (s.posUnit n).hold with
  | none => true
  | some raw => decide (s.nat (Oid.PROBE_HOLDOFF n) ≤ (s.exactPos n - s.scalePos n raw).natAbs)

/-- The landing whose entry lies nearest within PROBE_WINDOW, the lower-numbered at equal distance (R325). -/
def State.nearestLanding (s : State) (n : Nat) (pos : Int) (down : Bool) : Option Nat :=
  let d (l : Nat) : Nat := ((if down then s.get (Oid.LAND_PROBE_DN n l) else s.get (Oid.LAND_PROBE_UP n l)) - pos).natAbs
  ((List.range (s.nat (Oid.LANDINGS n))).filter (fun l => decide (d l ≤ s.nat (Oid.PROBE_WINDOW n)))).foldl (fun b l =>
    match b with
    | none => some l
    | some m => if d l < d m then some l else some m) none

/-- The car and door tables are being reloaded, for at most 1 ms (R619). -/
def State.tablesReload (s : State) : Bool := match s.mem.tablesAt with
  | some t => !s.passed t (ms 1)
  | none => false

/-- The entry that a probe needs is under reload; which entry an error hits the manual does not say (R619).
(DESIGN CHOICE, log entry 156.) -/
def State.entryReload (s : State) : Bool × State :=
  if s.tablesReload then (s.free.1.toNat % 2 == 1, s.free.2) else (false, s)

/-- A latched probe is matched to a landing and corrects the offset; one that needs an entry under reload is unmatched (R325, R326, R619). -/
def State.matchProbe (s : State) (n : Nat) (pos : Int) : State :=
  let down := s.dirDown n
  let x := s.entryReload
  let s := x.2
  match (if x.1 then none else s.nearestLanding n pos down) with
  | none => s.count (Oid.PROBE_MISS n) 32
  | some l =>
    let corr := (if down then s.get (Oid.LAND_PROBE_DN n l) else s.get (Oid.LAND_PROBE_UP n l)) - pos
    if corr.natAbs ≤ s.nat (Oid.PROBE_CORR_LIMIT n) then
      let s := (s.set (Oid.PROBE_CORR n) corr).setN (Oid.PROBE_LANDING n) l
      (s.set (Oid.ENC_OFFSET n) (satI32 (s.get (Oid.ENC_OFFSET n) + corr))).movePos n
    else (s.setBit (Oid.POS_STATUS n) 9 true).eventOf 0x0906 n l (par corr)

/-- A learning run ends (R327). -/
def State.learnEnd (s : State) (n complete : Nat) : State :=
  if s.nat (Oid.LEARN n) = 0 then s
  else (s.setN (Oid.LEARN n) 0).eventOf 0x0909 n (s.nat (Oid.LEARN n)) (s.nat (Oid.LEARN_COUNT n)) complete

/-- A probe edge met during a learning run is stored (R327). -/
def State.learnProbe (s : State) (n : Nat) (pos : Int) : State :=
  let up := s.nat (Oid.LEARN n) == 1
  let i := s.nat (Oid.LEARN_COUNT n)
  if up == s.dirDown n then s
  else
    let s := if up then s.set (Oid.LAND_PROBE_UP n i) pos else s.set (Oid.LAND_PROBE_DN n (s.nat (Oid.LANDINGS n) - 1 - i)) pos
    let s := s.setN (Oid.LEARN_COUNT n) (i + 1)
    if i + 1 = s.nat (Oid.LANDINGS n) then s.learnEnd n 1 else s

/-- An edge of a door-zone or levelling input, sampled at `now` (R323 to R327). -/
def State.probeEdge (s : State) (n : Nat) (input : Nat) (rising : Bool) (now : Nat) : State :=
  let sel := s.nat (Oid.PROBE_SEL n)
  if !(s.counting n && sel % 4 == input && (if rising then sel.testBit 2 else sel.testBit 3) && s.probeFree n) then s
  else
    let pos := satI32 (s.posAt n (now - 310))
    let u := s.posUnit n
    let s := s.setPos n { u with hold := some (s.get (Oid.ENC_RAW n)) }
    let s := (s.set (Oid.PROBE_POS n) pos).setN (Oid.PROBE_TIME n) (s.time - 310)
    if s.nat (Oid.LEARN n) ≠ 0 then s.learnProbe n pos
    else if s.referenced n then s.matchProbe n pos
    else s

/-! ### Resets (R320, R334) -/

/-- Every reset of reach COLD, WARM or CORE disarms the compares and ends a learning run (R334). -/
def State.posDisarm (s : State) (n : Nat) : State :=
  ((List.range 8).foldl (fun s k => s.disarmCompare n k) s).setN (Oid.LEARN n) 0

/-- ENC_RAW, ENC_OFFSET and REFERENCED are cleared (R334). -/
def State.posClear (s : State) (n : Nat) : State :=
  let s := s.setPos n {}
  ((((s.set (Oid.ENC_RAW n) 0).set (Oid.ENC_OFFSET n) 0).setN (Oid.POS_STATUS n) 0).set (Oid.ENC_POS n) 0).set (Oid.SPEED n) 0

/-- A reset of the unit, recorded of a unit that counted: cause 1 COLD, 2 WARM, 3 CORE, 4 BLOCK (R51, R320, R334). -/
def State.posReset (s : State) (n cause : Nat) : State :=
  let on := s.counting n
  let s := s.posDisarm n
  let s := if cause = 3 then s else s.posClear n
  if on then s.eventOf 0x090A n cause else s

/-! ### Host writes of this chapter -/

/-- POS_ACK clears the fault bits whose condition is absent (R306, R321). -/
def State.posAck (s : State) (n : Nat) : State :=
  let u := s.posUnit n
  let w := ms (s.nat (Oid.QUAD_WINDOW n))
  let live (l : List Nat) : Nat := (l.filter (fun t => !s.passed t w)).length
  let s := if live u.quads < s.nat (Oid.QUAD_ERR_LIMIT n) then s.setBit (Oid.POS_STATUS n) 4 false else s
  let s := if live u.fasts < s.nat (Oid.EDGE_FAST_LIMIT n) then s.setBit (Oid.POS_STATUS n) 5 false else s
  let s := if u.line = 0 then s.setBit (Oid.POS_STATUS n) 6 false else s
  let s := if u.absBad < 3 then s.setBit (Oid.POS_STATUS n) 7 false else s
  let s := if (s.get (Oid.SLIP n)).natAbs ≤ s.nat (Oid.SLIP_LIMIT n) then s.setBit (Oid.POS_STATUS n) 8 false else s
  s.setBit (Oid.POS_STATUS n) 9 false

/-- REF_LANDING: RANGE at or above LANDINGS, BUSY where it may not reference (R320). -/
def State.refLandingCheck (s : State) (n l : Nat) : Option Refuse :=
  andThen (need (decide (l < s.nat (Oid.LANDINGS n))) .range)
    (need (s.nat (Oid.ABS_SOURCE n) == 0 && s.encValid n && !s.moving n && s.bit (Oid.CAR_INPUTS n) 0 && s.bit (Oid.CAR_INPUTS n) 1) .busy)

/-- REF_LANDING references the position to the landing (R320). -/
def State.refLanding (s : State) (n l : Nat) : State := s.reference n (s.exactPos n) (s.get (Oid.LAND_PROBE_UP n l)) 1

/-- LEARN: 1 or 2 only with ENC_VALID and the car OUT_OF_SERVICE or INSPECTION (R327); CAR_STATE codes as R418. -/
def State.learnCheck (s : State) (n v : Nat) : Option Refuse :=
  andThen (need (decide (v ≤ 2)) .range)
    (need (v == 0 || (s.encValid n && (s.nat (Oid.CAR_STATE n) == 0 || s.nat (Oid.CAR_STATE n) == 11))) .busy)

/-- LEARN starts or ends a run (R327). -/
def State.learnApply (s : State) (n v : Nat) : State :=
  if v = 0 then s.learnEnd n 0 else (s.setN (Oid.LEARN n) v).setN (Oid.LEARN_COUNT n) 0

/-- The host may write CMP0 to CMP3 only with the car OUT_OF_SERVICE (R328). -/
def State.cmpAccess (s : State) (n k : Nat) : Option Refuse := need (decide (4 ≤ k) || s.nat (Oid.CAR_STATE n) == 0) .access

/-- CMP_FIELD must be 0xFF, or an output that no pulse output owns (R329). -/
def State.cmpFieldCheck (s : State) (n k : Nat) : Option Refuse :=
  let x := s.nat (Oid.CMP_FIELD n k)
  need (x == 0xFF || (s.fioMode x == 3 && s.fioOwner x != 2)) .busy

/-- A write to CMP_POS or CMP_MODE of an armed compare re-arms it (R329). -/
def State.rearm (s : State) (n k : Nat) : State :=
  if s.nat (Oid.CMP_ARM n k) = 1 then s.armCompare n k else s

/-- ENC_NUM, ENC_DEN or ENC_INVERT has been written (R308). -/
def State.encRescaled (s : State) (n : Nat) : State := (s.setBit (Oid.POS_STATUS n) 2 false).refreshEnc n

/-- PT_A and PT_B as the drive sees them from this module, A in bit 1: the lines in mode 1, the decoder state in mode 2, and nothing
while the drivers are off (R53, R333). -/
def State.ptLines (s : State) (n : Nat) : Option (BitVec 2) :=
  if !s.ptDriven n then none
  else if s.nat (Oid.PT_MODE n) = 1 then some (s.posUnit n).raw
  else some (s.posUnit n).st

end Sys2Proof.Machine
end

