-- ==== Sys2Proof/Machine/Source.lean ====
section
/-! DEFINITION. Answers to requests by every route, and what an internal reader takes from an object: its type, value and validity
(R196, R201, R209, R224, R382). -/

namespace Sys2Proof.Machine

/-- The SDO abort code of a status, for a read or a write (R209). -/
def sdoAbort (st : Nat) (write : Bool) : Nat :=
  if st = 0x00 then 0
  else if st = 0x01 then 0x06020000
  else if st = 0x02 then (if write then 0x06010002 else 0x06010001)
  else if st = 0x03 then 0x06070010
  else if st = 0x04 then 0x06090030
  else if st = 0x07 ∨ st = 0x08 then 0x06010000
  else if st = 0x05 ∨ st = 0x09 ∨ st = 0x0B then 0x08000022
  else if st = 0x06 then 0x08000020
  else if st = 0x0D then 0x08000024
  else 0x08000000

/-- The COB-ID of the SDO server's responses (R206). -/
def State.sdoCob (s : State) : Nat := 0x580 + s.nat Oid.SDO_NODE_ID

/-- The answer to a request by its own route: a PDP response, an SDO confirmation or abort, a BACnet answer (R195, R209, R248). An SDO
request carries its CANopen index in `op` and its sub-index in `ses`. -/
def State.answer (s : State) (r : PendReq) (st : Nat) (payload : List Byte) : State :=
  match r.route with
  | .pdp => s.emit (.resp r.ses r.op r.req st payload)
  | .sdo => (s.setN Oid.SDO_LAST_STATUS st).emit (.sdo s.sdoCob r.op r.ses (sdoAbort st true) [])
  | .bacnet => s.emit (.bacnet r.req.toNat (if st = 0 then none else some (.status st)) [])
  | .silent => s

/-- A committed write is kept for QUERY: the last 1,024 of each host, for 600 s, and the twin is told (R204). -/
def State.recordCommitted (s : State) (fpr : BitVec 256) (req : BitVec 32) (st : Nat) : State :=
  let old := s.acc.committed.filter (fun (c : Committed) => !s.passed c.atNs (sec 600))
  let mine := (old.filter (fun (c : Committed) => c.fpr == fpr)).take 1023
  let c : Committed := { fpr := fpr, req := req, status := st, atNs := s.clk }
  { s with acc := { s.acc with committed := c :: (mine ++ old.filter (fun (c : Committed) => c.fpr != fpr)) } }.mirror
    (.committed fpr req (BitVec.ofNat 8 st))

/-! ### Internal readers -/

/-- The point and sub-index of an OID in areas 0x80 to 0x83 (R172). -/
def pointOf (oid : Nat) : Option (Nat × Nat) :=
  if 0x80000000 ≤ oid ∧ oid < 0x84000000 then some ((oid - 0x80000000) / 256, oid % 256) else none

/-- The position unit of an OID in a car's area. -/
def carOf (oid : Nat) : Option (Nat × Nat) :=
  if 0x10000000 ≤ oid ∧ oid < 0x1C000000 then some ((oid - 0x10000000) / 0x1000000, oid % 0x1000000) else none

/-! ### What the module computes when an object is read -/

/-- One session or TLS connection. -/
def State.ses (s : State) (n : Nat) : Session := Tbl.get {} s.acc.sessions n

/-- The open sessions (R210). -/
def State.openSessions (s : State) : List (Nat × Session) := s.acc.sessions.filter (fun (e : Nat × Session) => decide (2 ≤ e.2.state))

/-- Points configured in a partition (PART_POINTS, R210). -/
def State.partPoints (s : State) (p : Nat) : Nat :=
  (s.objs.filter (fun e => decide (0x80000000 ≤ e.1 ∧ e.1 < 0x84000000) && e.1 % 256 == 1 && e.2 != 0
    && s.nat (Oid.PT_PARTITION ((e.1 - 0x80000000) / 256)) == p)).length

/-- TIME_STATUS as it reads: TWIN on a module in STANDBY (R148). -/
def State.timeStatus (s : State) : Nat := if s.mode = .standby then 5 else s.tb.status

/-- A PTP port takes part: NET0 or NET1, not disabled (R144, R145). -/
def State.ptpOn (s : State) (p : Nat) : Bool := s.up .net && decide (p < 2) && s.get (Oid.PTP_ROLE p) != 0

/-- A port's controller is out of reset and its link stands (R130, R146, R235). (PRESUMED, log entry 133.) -/
def State.portLinked (s : State) (p : Nat) : Bool := s.runs (.netPort p) && s.subUnitOn (.netPort p) && s.acctHealthy p

/-- The state of a port (R169): disabled, faulty without its link, master, follower or passive under a grandmaster, else listening.
(PRESUMED, log entry 133.) -/
def State.portStateOf (s : State) (p : Nat) : Nat :=
  if !s.ptpOn p then 0 else if !s.portLinked p then 5 else if s.tb.master then 4 else if !s.tb.gm then 1 else if s.tb.follower = p then 2 else 3

/-- SOLSTICE_COUNT: a wrap counts from the instant of the wrap (R168). -/
def State.solsticeCount (s : State) : Nat := min (s.nat Oid.SOLSTICE_COUNT + boolNat s.tb.wrapped) 65535

/-- REC_FIRST (R648). -/
def State.recFirst (s : State) : Nat := s.rcd.next - 4194304

/-- REC_LAST (R648). -/
def State.recLast (s : State) : Nat := s.rcd.next - 1

/-- PD_STATE as it reads: a domain made of sub-units alone shows whether one of them is on (R108). -/
def State.pdShown (s : State) : Nat :=
  let v := s.nat Oid.PD_STATE
  let v := if s.pow.puOn = 0 then withBit v 6 false else v
  if s.nat Oid.DL_ON = 0 then withBit v 7 false else v

/-- TW_INTERLOCK: ACTIVE_IN, or the loop fault that holds (R71, R593). -/
def State.interlock (s : State) : Nat := if s.tw.ilkFault = 0 then boolNat s.tw.activeIn else s.tw.ilkFault

/-- The place of loop `j` of class `c` in the table of enabled loops. -/
def loopKey (c j : Nat) : Nat := 4 * j + c

/-- A loop reference: class in [17:16], j in [15:0] (R380). -/
def loopRef (c j : Nat) : Nat := c * 65536 + j

/-- What a loop keeps beside its objects. -/
def State.loopRt (s : State) (c j : Nat) : LoopRt := Tbl.get {} s.loops (loopKey c j)

/-- That changed, of an enabled loop; every enabled loop is listed. -/
def State.setLoop (s : State) (c j : Nat) (r : LoopRt) : State := { s with loops := s.loops.ins (loopKey c j) r }

/-- The loop is enabled. -/
def State.loopOn (s : State) (c j : Nat) : Bool := (s.loops.find (loopKey c j)).isSome

/-- The enabled loops of a class, ascending. -/
def State.loopsOf (s : State) (c : Nat) : List Nat := (s.loops.filter (fun e => e.1 % 4 == c)).map (fun e => e.1 / 4)

/-- LOOP_MODE (R390). -/
def State.loopMode (s : State) (c j : Nat) : Nat := s.nat (Oid.LOOP_MODE j c)

/-- RAMP is set (R399). -/
def LoopRt.ramp (r : LoopRt) : Bool := decide (0 < r.rampT)

/-- The members of a group: class and j of each (R380, R408). -/
def membersOf : Nat → List Byte → List (Nat × Nat)
  | 0, _ => []
  | n + 1, b => if b.length < 4 then [] else (let v := leNat (b.take 4); (field v 17 16, field v 15 0)) :: membersOf n (b.drop 4)

/-- GRP_MEMBERS of a group. -/
def State.members (s : State) (g : Nat) : List (Nat × Nat) := membersOf 8 (s.blob (Oid.CGRP_MEMBERS g))

/-- The loop wins its group, or is in none (WINNER, R410). -/
def State.winner (s : State) (c j : Nat) : Bool :=
  let g := s.nat (Oid.LOOP_GROUP j c)
  g == 0 || (s.members g)[s.nat (Oid.CGRP_WINNER g)]? == some (c, j)

/-- SATURATED (R399). -/
def State.saturated (s : State) (c j : Nat) : Bool :=
  let r := s.loopRt c j
  if s.loopMode c j ≠ 1 then false
  else if s.nat (Oid.LOOP_LAW j c) = 1 then
    s.nat (Oid.H2_SAT_TIME j c) != 0 && decide (s.nat (Oid.H2_SAT_TIME j c) < r.level)
  else r.law == s.get (Oid.OUT_MIN j c) || r.law == s.get (Oid.OUT_MAX j c)

/-- LOOP_STATUS (R410). -/
def State.loopStatus (s : State) (c j : Nat) : Nat :=
  let r := s.loopRt c j
  s.loopMode c j + 4 * boolNat (s.loopOn c j) + 8 * boolNat (s.nat (Oid.LOOP_LAW j c) == 1 && r.high) + 16 * r.path
    + 64 * boolNat (s.winner c j) + 128 * boolNat (s.saturated c j) + 256 * boolNat r.ramp + 512 * boolNat (decide (0 < r.firstT))
    + 1024 * boolNat r.fbValid

/-- The default of a row as a number. -/
def ObjRow.num (r : ObjRow) : Int := match r.dflt with
  | .num v => v
  | .oct _ => 0

/-- The default of an object as a number: BACNET_INSTANCE defaults to the number of its point (R215). -/
def ObjRow.numAt (r : ObjRow) (oid : Nat) : Int := if r.base = 0x80000028 then ((oid - 0x80000028) / 256 : Nat) else r.num

/-- The number that an object computed by the module reads now; none where the object is held as a register. (DESIGN CHOICE, log entry 34.) -/
def State.liveNum (s : State) (base : Nat) (ix : List Nat) : Option Int :=
  let i := ix.headD 0
  let e := ix.getD 1 0
  let c := e
  let x := s.ses i
  match base with
  | 0x00000100 => some (s.mode.code : Nat)
  | 0x00000200 => some ((if Config.isX then 2 else 1) : Nat)
  | 0x00000400 => some (s.pdShown : Nat)
  | 0x00000700 => some (Config.serial.toNat : Nat)
  | 0x08000100 => some (s.time : Nat)
  | 0x08000101 => some (s.timeStatus : Nat)
  | 0x08000104 => some (s.optime : Nat)
  | 0x08000105 => some (s.solsticeCount : Nat)
  | 0x08000400 => some ((s.portStateOf i) : Nat)
  | 0x08001002 => some ((s.acctCap 0x38 - s.acctUsed 0x38 : Nat) : Nat)
  | 0x08001003 => some ((s.launches.filter (fun l => l.state == .waiting)).length : Nat)
  | 0x01000100 => some (s.openSessions.length : Nat)
  | 0x01000109 => some (s.acc.journal.length : Nat)
  | 0x01200000 => if i = 0 then some 1 else none
  | 0x01200002 => some ((s.partPoints i) : Nat)
  | 0x01400000 => some (x.state : Nat)
  | 0x01400001 => some (x.part : Nat)
  | 0x01400002 => some (x.port : Nat)
  | 0x01400004 => some (x.opened : Nat)
  | 0x01300005 => some ((s.canState i) : Nat)
  | 0x01600001 => some ((s.entState i e) : Nat)
  | 0x1001000F => some ((s.posStatus i) : Nat)
  | 0x1001000C => some (s.speed i)
  | 0x40000004 => some ((s.loopStatus c i) : Nat)
  | 0x50020015 => some ((if i < 48 then (Config.prodStart i).toNat else 0) : Nat)
  | 0x60000007 => some ((s.fioOwner i) : Nat)
  | 0x60000008 => some ((boolNat (s.fioValid i)) : Nat)
  | 0x78000107 => some (Config.mirrorVer.toNat : Nat)
  | 0x7800010C => some (s.interlock : Nat)
  | 0x7C000100 => some (s.rcd.next : Nat)
  | 0x7C000101 => some (s.recFirst : Nat)
  | 0x7C000102 => some (s.recLast : Nat)
  | 0x7C000105 => some (s.rcd.waitingCount : Nat)
  | 0x7E000000 => some ((min (s.acctCap i) 0xFFFFFFFF) : Nat)
  | 0x7E000001 => some ((min (if acctClassed i then s.acctLoad i c else s.acctUsed i) 0xFFFFFFFF) : Nat)
  | 0x7E000005 => some ((boolNat (s.acctHealthy i)) : Nat)
  | 0x7E000006 => some ((s.acctItems i) : Nat)
  | 0x7E000007 => some ((s.pts.items.filter (fun (x : Item) => x.degraded && x.charges.any (fun a => a.1 == i))).length : Nat)
  | _ => none

/-- What an internal reader takes from an object: its type and value, where the object is a valid number (R224, R382). -/
def State.takeNum (s : State) (oid : Nat) : Option (Ty × Int) :=
  match pointOf oid with
  | some (p, 0) =>
    (match pointTy (s.ptType p) with
      | some t =>
        if s.bit (Oid.PT_STATUS p) 0 || s.bit (Oid.PT_STATUS p) 3 || !s.enabledPt p || !s.ptValid p (s.get (Oid.PT_PV p)) then none
        else some (t, s.get (Oid.PT_PV p))
      | none => none)
  | _ =>
    match lookup oid with
    | none => none
    | some (r, ix) =>
      if r.ty.isBytes ∨ r.ty = .point then none
      else
        let v := match s.liveNum r.base ix with
          | some v => v
          | none => s.get ⟨oid, r.numAt oid⟩
        let valid := match r.base with
          | 0x60000002 => s.fioValid (ix.headD 0) && s.fioPrimed (ix.headD 0)
          | 0x10010000 => s.encValid (ix.headD 0)
          | 0x1001001F => s.bit (Oid.POS_STATUS (ix.headD 0)) 3
          | _ => true
        if !valid ∨ (r.ty = .real32 ∧ realSpecial v.toNat) then none else some (r.ty, v)

/-- A number of a type as FIX32, and whether the conversion saturated (R382). -/
def toFix (t : Ty) (v : Int) : Int × Bool :=
  if t = .fix32 then (v, false)
  else if t = .real32 then
    let x := divRound (realNum v.toNat * 65536) (2 ^ 149)
    (fixSat x, decide (fixSat x ≠ x))
  else (fixOfInt v, decide (fixOfInt v ≠ v * 65536))

/-- A FIX32 as the value of a target's type: REAL32 exactly, BOOL true for any non-zero value, integers rounded half away from zero and
saturated (R382). -/
def fromFix (t : Ty) (v : Int) : Int :=
  if t = .fix32 then v
  else if t = .real32 then (fixToReal v : Nat)
  else if t = .bool then (if v = 0 then 0 else 1)
  else
    let x := divRound v 65536
    let w := 8 * t.size
    if t.isSigned then clampInt (-(2 ^ (w - 1) : Nat)) ((2 ^ (w - 1) : Nat) - 1) x else clampInt 0 ((2 ^ w : Nat) - 1) x

/-- The type of a writable number: a point's value type for PV and RELINQUISH_DEFAULT, else the object's own (R215). -/
def State.targetTy (s : State) (oid : Nat) : Option Ty :=
  match pointOf oid with
  | some (p, 0) => pointTy (s.ptType p)
  | some (p, 8) => pointTy (s.ptType p)
  | _ =>
    match lookup oid with
    | some (r, _) => if r.ty.isBytes ∨ r.ty = .point then none else some r.ty
    | none => none

/-- The OID is the PV of a point (R215). -/
def isPv (oid : Nat) : Bool :=
  match pointOf oid with
  | some (_, 0) => true
  | _ => false

end Sys2Proof.Machine
end

