-- ==== Sys2Proof/Machine/Engine.lean ====
section
/-! DEFINITION. The control engine: laws, the order within a tick, modes, groups, deadlines and supervision (chapter 11). -/

namespace Sys2Proof.Machine

/-! ### Loops -/

/-- A slot that the lift side holds (R378). -/
def liftSlot (c j : Nat) : Bool := c == 0 || (c == 1 && decide (j < 84))

/-- Sets sticky flag `i` of a loop (R383). -/
def State.flagLoop (s : State) (c j i : Nat) (b : Bool) : State := if b then s.setBit (Oid.LOOP_FLAGS j c) i true else s

/-- A change of LOOP_MODE is recorded (R411). -/
def State.setLoopMode (s : State) (c j m : Nat) : State :=
  let o := s.loopMode c j
  if o = m then s else (s.setN (Oid.LOOP_MODE j c) m).eventOf 0x0B03 j (loopRef c j) o m

/-- The settle time S in ticks: MODEL_DEAD + 3 × MODEL_TAU, rounded up (R399). -/
def State.settle (s : State) (c j : Nat) : Nat :=
  s.nat (Oid.MODEL_DEAD j c) + (3 * s.nat (Oid.MODEL_TAU j c) + 65535) / 65536

/-- The setpoint now: LOOP_SP, the source's value, or what the lift side gives; none while no valid one has been taken (R388). -/
def State.loopSp (s : State) (c j : Nat) : Option Int × Bool :=
  let r := s.loopRt c j
  if liftSlot c j then (some r.extSp, false)
  else
    let o := s.nat (Oid.SP_SOURCE j c)
    if o = 0 then (some (s.get (Oid.LOOP_SP j c)), false)
    else
      match s.takeNum o with
      | some (t, v) => let x := toFix t v; (some x.1, x.2)
      | none => (r.sp, false)

/-- The feedback now, if valid, and whether its conversion saturated (R382). -/
def State.loopFb (s : State) (c j : Nat) : Option Int × Bool :=
  if liftSlot c j then ((s.loopRt c j).extFb, false)
  else
    match s.takeNum (s.nat (Oid.FB_SOURCE j c)) with
    | some (t, v) => let x := toFix t v; (some x.1, x.2)
    | none => (none, false)

/-- The applied output (R390). -/
def State.applied (s : State) (c j : Nat) : Int :=
  let m := s.loopMode c j
  if m = 0 then s.get (Oid.MANUAL j c) else if m = 1 then (s.loopRt c j).law else s.get (Oid.TRIP_OUT j c)

/-! ### Laws -/

/-- Law H2: level, dwell, output (R384). -/
def lawH2 (e band lo hi : Int) (minOn minOff : Nat) (high : Bool) (dwell : Nat) : Bool × Nat × Int :=
  let h := sdiv band (2 * 65536)
  let r : Bool × Nat :=
    if !high && decide (h < e) && decide (minOff ≤ dwell) then (true, 0)
    else if high && decide (e < sneg h) && decide (minOn ≤ dwell) then (false, 0)
    else (high, if dwell < 65535 then dwell + 1 else dwell)
  (r.1, r.2, if r.1 then hi else lo)

/-- Law H3: output, and whether the accumulator saturated or the output was clamped (R385). -/
def lawH3 (e band up dn lo hi acc : Int) : Int × Bool × Bool :=
  let h := sdiv band (2 * 65536)
  let raw := if h < e then acc + up else if e < sneg h then acc - dn else acc
  let a := fixSat raw
  let out := clampInt lo hi a
  (out, decide (a ≠ raw), decide (out ≠ a))

/-! ### Modes (R390, R391) -/

/-- The loop closes: the law's start, FIRST_DWELL, both paths stopped (R384, R385, R399, R402). -/
def State.closeLoop (s : State) (c j : Nat) : State :=
  let r := s.loopRt c j
  let lo := s.get (Oid.OUT_MIN j c)
  let hi := s.get (Oid.OUT_MAX j c)
  let m := s.get (Oid.MANUAL j c)
  let high := decide (lo + hi ≤ 2 * m)
  let acc := clampInt lo hi m
  let r := { r with
    high := high, dwell := 0, acc := acc, law := if s.nat (Oid.LOOP_LAW j c) = 1 then (if high then hi else lo) else acc
    level := 0, firstT := s.settle c j, path := 0, overlap := 0, feCount := 0, plCount := 0, invalid := 0, justClosed := true
    autoDue := false }
  (s.setLoop c j r).setLoopMode c j 1

/-- The loop opens, its applied output copied into MANUAL (R391). -/
def State.openLoop (s : State) (c j : Nat) : State :=
  let s := s.set (Oid.MANUAL j c) (s.applied c j)
  let r := s.loopRt c j
  (s.setLoop c j { r with path := 0, feCount := 0, plCount := 0, invalid := 0 }).setLoopMode c j 0

/-- A setpoint has been taken: always from LOOP_SP, and from SP_SOURCE once it has given a valid value (R388). -/
def State.spTaken (s : State) (c j : Nat) : Bool := liftSlot c j || s.nat (Oid.SP_SOURCE j c) == 0 || (s.loopRt c j).taken

/-- A close may be carried out: OPEN, enabled, valid feedback, and a setpoint has been taken (R388, R391). -/
def State.mayClose (s : State) (c j : Nat) : Bool :=
  s.loopOn c j && s.loopMode c j == 0 && (s.loopFb c j).1.isSome && s.spTaken c j

/-- A LOOP_CMD is refused: RANGE for an unknown value, BUSY where it does not apply (R391). -/
def State.loopCmdCheck (s : State) (c j v : Nat) : Option Refuse :=
  if v = 1 then need (s.mayClose c j) .busy
  else if v = 2 then need (s.loopMode c j == 1) .busy
  else if v = 3 then need (s.loopMode c j == 2) .busy
  else refuse .range

/-- A LOOP_CMD takes effect (R391). -/
def State.loopCmd (s : State) (c j v : Nat) : State :=
  if v = 1 then s.closeLoop c j else if v = 2 then s.openLoop c j else s.setLoopMode c j 0

/-- One waiting request for LOOP_CMD of a loop: carried out if it still applies, answered, and recorded with that final status where a session
waits for it (R204, R391). -/
def State.takeCmd (c j : Nat) (s : State) (r : PendReq) : State :=
  let v := match r.entries with
    | e :: _ => leNat e.data
    | [] => 0
  let (st, s) := match s.loopCmdCheck c j v with
    | some x => (x.st.code, s)
    | none => (0, s.loopCmd c j v)
  (if r.route = .pdp then s.recordCommitted r.fpr r.req st else s).answer r st []

/-- Step 1 of a tick: the mode commands that wait for this loop, in order, and AUTO_CLOSE (R387, R391, R406). -/
def State.loopCommands (s : State) (c j : Nat) : State :=
  let oid := (Oid.LOOP_CMD j c).oid
  let mine := s.acc.slow.filter (fun r => r.entries.any (fun e => e.oid == oid))
  let s := mine.foldl (State.takeCmd c j)
    { s with acc := { s.acc with slow := s.acc.slow.filter (fun r => !r.entries.any (fun e => e.oid == oid)) } }
  if (s.loopRt c j).autoDue && s.mayClose c j then (s.closeLoop c j).mirrorRegs 5 [Oid.LOOP_MODE j c] else s

/-! ### One tick of one loop, steps 2 to 4 (R387, R388) -/

/-- Steps 2 and 3: setpoint, feedback, SP_EFF and RAMP (R388, R399). -/
def State.loopInputs (s : State) (c j : Nat) : State :=
  let r := s.loopRt c j
  let sp := s.loopSp c j
  let fb := s.loopFb c j
  let st := s.settle c j
  let rate := s.get (Oid.SP_RATE j c)
  let old := s.get (Oid.SP_EFF j c)
  let s := (s.flagLoop c j 0 (sp.2 || fb.2))
  let s := match sp.1 with
    | none => s.setLoop c j { r with fbValid := fb.1.isSome, rampT := r.rampT - 1, firstT := if r.justClosed then r.firstT else r.firstT - 1 }
    | some v =>
      let eff := if r.sp.isNone ∨ rate = 0 then v else if old < v then min v (old + rate) else max v (old - rate)
      let changed := decide (r.sp ≠ some v) && r.sp.isSome
      let moving := decide (eff ≠ v) || (decide (rate ≠ 0) && r.sp.isSome && decide (old ≠ v)) || (decide (rate = 0) && changed)
      (s.set (Oid.SP_EFF j c) eff).setLoop c j
        { r with sp := some v, taken := r.taken || (s.nat (Oid.SP_SOURCE j c) != 0 && (s.takeNum (s.nat (Oid.SP_SOURCE j c))).isSome)
                 fbValid := fb.1.isSome, rampT := if moving then st else r.rampT - 1
                 firstT := if r.justClosed then r.firstT else r.firstT - 1 }
  match fb.1 with
  | some v => s.set (Oid.FB j c) v
  | none => s

/-- The error of the tick (R384 to R386). -/
def State.loopErr (s : State) (c j : Nat) : Int × Bool :=
  let a := s.get (Oid.SP_EFF j c)
  let b := s.get (Oid.FB j c)
  let raw := if s.nat (Oid.ACTION j c) = 0 then a - b else b - a
  (fixSat raw, decide (fixSat raw ≠ raw))

/-- Step 4: the law of a CLOSED loop with valid feedback (R384, R385, R403). -/
def State.loopLaw (s : State) (c j : Nat) : State :=
  let r := s.loopRt c j
  if !r.fbValid then s
  else
    let e := s.loopErr c j
    let s := (s.set (Oid.ERR j c) e.1).flagLoop c j 0 e.2
    if s.loopMode c j ≠ 1 then s
    else
      let lo := s.get (Oid.OUT_MIN j c)
      let hi := s.get (Oid.OUT_MAX j c)
      if s.nat (Oid.LOOP_LAW j c) = 1 then
        let x := lawH2 e.1 (s.get (Oid.BAND j c)) lo hi (s.nat (Oid.MIN_ON j c)) (s.nat (Oid.MIN_OFF j c)) r.high r.dwell
        s.setLoop c j { r with high := x.1, dwell := x.2.1, law := x.2.2, level := if x.1 = r.high then r.level + 1 else 0 }
      else
        let x := lawH3 e.1 (s.get (Oid.BAND j c)) (s.get (Oid.RATE_UP j c)) (s.get (Oid.RATE_DN j c)) lo hi r.acc
        ((s.setLoop c j { r with acc := x.1, law := x.1 }).flagLoop c j 1 x.2.1).flagLoop c j 2 x.2.2

/-- Steps 1 to 4 of one loop, its applied output shown and kept in the history; none of them in an evaluation that will not complete
(R387, R397, R401). -/
def State.loopStep (s : State) (c j : Nat) : State :=
  if (s.loopRt c j).stalled then s else
  let s := ((s.loopCommands c j).loopInputs c j).loopLaw c j
  let out := s.applied c j
  let r := s.loopRt c j
  (s.set (Oid.OUT j c) out).setLoop c j { r with u := (out :: r.u).take 64, misses := 0 }

/-! ### Competition groups (R394 to R396) -/

/-- The first position among some outputs that holds the least. -/
def argMin (l : List Int) : Nat :=
  match l with
  | [] => 0
  | x :: _ => (l.findIdx? (fun y => y == l.foldl min x)).getD 0

/-- The winner's position and the group output (R394). -/
def groupResolve (h2 : Bool) (hi lo : Int) (outs : List Int) (winner : Nat) : Nat × Int :=
  if h2 then
    match outs.findIdx? (fun y => y != hi) with
    | some i => (i, lo)
    | none => (winner, hi)
  else
    let m := outs.foldl min (outs.headD 0)
    if outs[winner]? = some m then (winner, m) else (argMin outs, m)

/-- Step 5: a group resolves, and its losers are kept ready (R394, R396). -/
def State.resolveGroup (s : State) (g : Nat) : State :=
  let ms := s.members g
  match ms with
  | [] => s
  | (c0, j0) :: _ =>
    let h2 := s.nat (Oid.LOOP_LAW j0 c0) == 1
    let outs := ms.map (fun m => s.applied m.1 m.2)
    let w := s.nat (Oid.CGRP_WINNER g)
    let r := groupResolve h2 (s.get (Oid.OUT_MAX j0 c0)) (s.get (Oid.OUT_MIN j0 c0)) outs w
    let s := s.set (Oid.CGRP_OUT g) r.2
    let s := if r.1 = w then s else (s.setN (Oid.CGRP_WINNER g) r.1).count (Oid.CGRP_CHANGES g) 32
    if h2 then s
    else
      let lim := sadd r.2 (s.get (Oid.CGRP_MARGIN g))
      (ms.zipIdx).foldl (fun s m =>
        let c := m.1.1
        let j := m.1.2
        let x := s.loopRt c j
        if m.2 ≠ r.1 ∧ s.loopMode c j = 1 ∧ lim < x.acc then (s.setLoop c j { x with acc := lim }).flagLoop c j 2 true else s) s

/-! ### Supervision (R399 to R404) -/

/-- Following error can be judged on this tick (R399). -/
def State.judgeable (s : State) (c j : Nat) : Bool :=
  let r := s.loopRt c j
  s.loopMode c j == 1 && r.fbValid && s.winner c j && !s.saturated c j && r.rampT == 0 && r.firstT == 0

/-- The plausibility model of one tick: the new state, the residual, and whether the model saturated (R401). -/
def plausible (r : LoopRt) (start : Bool) (fb k tau : Int) (dead : Nat) (lim : Int) : LoopRt × Int × Bool :=
  let ud := r.u.getD dead (r.u.getLastD 0)
  let r := if start then { r with ym := fb, y0 := fb, u0 := ud, plCount := 0 } else r
  let target := sadd r.y0 (smul k (ssub ud r.u0))
  let step := sdiv (ssub target r.ym) tau
  let ym := sadd r.ym step
  let res := ssub fb ym
  ({ r with ym := ym, plCount := if lim < sabs res then r.plCount + 1 else 0 }, res, decide (ym ≠ r.ym + step))

/-- The plausibility path runs on this tick (R401). -/
def State.runPl (s : State) (c j : Nat) (start : Bool) : State :=
  let x := plausible (s.loopRt c j) start (s.get (Oid.FB j c)) (s.get (Oid.MODEL_K j c)) (s.get (Oid.MODEL_TAU j c))
    (s.nat (Oid.MODEL_DEAD j c)) (s.get (Oid.PL_LIMIT j c))
  let s := ((s.setLoop c j x.1).set (Oid.PL_RESID j c) x.2.1).flagLoop c j 1 x.2.2
  let r := s.loopRt c j
  if s.nat (Oid.PL_TIME j c) < r.plCount ∧ r.tripNow = 0 then s.setLoop c j { r with tripNow := 2 } else s

/-- The following-error path runs on this tick (R400). -/
def State.runFe (s : State) (c j : Nat) : State :=
  let r := s.loopRt c j
  let n := if s.get (Oid.FE_LIMIT j c) < sabs (s.get (Oid.ERR j c)) then r.feCount + 1 else 0
  s.setLoop c j { r with feCount := n, tripNow := if s.nat (Oid.FE_TIME j c) < n then 1 else r.tripNow }

/-- The present path changed, and the count of the following-error path cleared. -/
def State.setPath (s : State) (c j p ov : Nat) : State :=
  let r := s.loopRt c j
  s.setLoop c j { r with path := p, overlap := ov, feCount := if p = 2 ∨ ov = s.settle c j then 0 else r.feCount }

/-- Step 6: the supervision of one CLOSED loop, as the table Supervision paths; a missed evaluation leaves it as it is (R397, R402, R403). -/
def State.supervise (s : State) (c j : Nat) : State :=
  let r := s.loopRt c j
  if s.loopMode c j ≠ 1 ∨ c = 0 ∨ r.misses ≠ 0 then s
  else if r.justClosed then s.setLoop c j { r with justClosed := false }
  else if !r.fbValid then
    let n := r.invalid + 1
    s.setLoop c j { r with path := 0, feCount := 0, invalid := n, tripNow := if s.nat (Oid.FE_TIME j c) < n then 3 else 0 }
  else
    let s := s.setLoop c j { r with invalid := 0 }
    let can := s.judgeable c j
    if r.path = 0 then (s.setPath c j 2 0).runPl c j true
    else if r.path = 1 then (if can then s.runFe c j else (s.setPath c j 2 0).runPl c j true)
    else if r.path = 2 then (if can then (s.setPath c j 3 (s.settle c j)).runPl c j false else s.runPl c j false)
    else if !can then (s.setPath c j 2 0).runPl c j false
    else if 1 < r.overlap then
      ((s.setLoop c j { (s.loopRt c j) with overlap := r.overlap - 1 }).runFe c j).runPl c j false
    else (s.setLoop c j { (s.loopRt c j) with overlap := 0, path := 1 }).runFe c j

/-- A trip: TRIPPED, cause, counters, record; on the active module it goes to the twin (R404, R407). -/
def State.tripLoop (s : State) (c j cause : Nat) : State :=
  let r := s.loopRt c j
  let s := s.setLoop c j { r with
    tripNow := 0, path := 0, feCount := 0, plCount := 0, invalid := 0
    u := if c = 0 then r.u else s.get (Oid.TRIP_OUT j c) :: r.u.drop 1 }
  let s := ((s.setN (Oid.LOOP_MODE j c) 2).setN (Oid.TRIP_CAUSE j c) cause).count (Oid.TRIP_COUNT j c) 32
  let s := (s.count Oid.CE_TRIPS 32).eventOf 0x0B01 j (loopRef c j) cause
    (par (if cause = 2 then s.get (Oid.PL_RESID j c) else s.get (Oid.ERR j c)))
  (s.set (Oid.OUT j c) (if c = 0 then 0 else s.get (Oid.TRIP_OUT j c))).mirrorRegs 5 [Oid.TRIP_CAUSE j c, Oid.LOOP_MODE j c]

/-- The trips decided on this tick take effect (R404). -/
def State.takeTrip (s : State) (c j : Nat) : State :=
  let t := (s.loopRt c j).tripNow
  if t = 0 then s else s.tripLoop c j t

/-! ### Outputs (R389) -/

/-- A target is written with a value, or written again after a refusal; `src` says who writes. -/
def State.emitOut (s : State) (target prio : Nat) (v : Int) (src : EmitSrc) : State :=
  match s.targetTy target with
  | none => { s with emits := s.emits ++ [{ oid := target, prio := prio, value := leBytes 4 (unsigned 32 v), src := src }] }
  | some t =>
    { s with emits := s.emits ++ [{ oid := target, prio := if (pointOf target).isSome then prio else 0, value := t.enc (fromFix t v), src := src }] }

/-- Step 7 of a loop that is in no group (R389). -/
def State.loopOutput (s : State) (c j : Nat) : State :=
  let t := s.nat (Oid.OUT_TARGET j c)
  let r := s.loopRt c j
  let v := s.get (Oid.OUT j c)
  if t = 0 ∨ s.nat (Oid.LOOP_GROUP j c) ≠ 0 ∨ (r.wrote = some v ∧ !r.refused) then s
  else (s.setLoop c j { r with wrote := some v }).emitOut t (s.nat (Oid.OUT_PRIO j c)) v (.loop (loopKey c j))

/-- Step 7 of a group (R389). -/
def State.groupOutput (s : State) (g : Nat) : State :=
  let t := s.nat (Oid.CGRP_TARGET g)
  let r := Tbl.get {} s.grps g
  let v := s.get (Oid.CGRP_OUT g)
  if t = 0 ∨ (r.wrote = some v ∧ !r.refused) then s
  else { s with grps := s.grps.ins g { r with wrote := some v } }.emitOut t (s.nat (Oid.CGRP_PRIO g)) v (.group g)

/-- A target's priority slot is relinquished, where the target is a point (R393, R395). -/
def State.relinquish (s : State) (target prio : Nat) (src : EmitSrc) : State :=
  match pointOf target with
  | some (_, 0) => { s with emits := s.emits ++ [{ oid := target, prio := prio, value := [], relinq := true, src := src }] }
  | _ => s

/-- The outcome of a loop's or group's write: the first refusal of a run is recorded (R389). -/
def State.outResult (s : State) (src : EmitSrc) (target : Nat) (ref : Option Status) : State :=
  match src with
  | .loop key =>
    match s.loops.find key with
    | none => s
    | some r =>
      let s1 := { s with loops := s.loops.ins key { r with refused := ref.isSome } }
      match ref with
      | some st => if r.refused then s1 else s1.eventOf 0x0B05 (key / 4) (loopRef (key % 4) (key / 4)) st.code target
      | none => s1
  | .group g =>
    match s.grps.find g with
    | none => s
    | some r =>
      let s1 := { s with grps := s.grps.ins g { r with refused := ref.isSome } }
      match ref with
      | some st => if r.refused then s1 else s1.eventOf 0x0B05 (g % 65536) (g + 2147483648) st.code target
      | none => s1
  | _ => s

/-! ### Ticks -/

/-- The groups of a class: a group's class is that of its members (R394). -/
def State.groupsOf (s : State) (c : Nat) : List Nat :=
  (s.grps.map (·.1)).filter (fun g => (s.members g).head?.any (fun m => m.1 == c))

/-- Steps 1 to 5 of the medium tick (R387). -/
def State.mediumLaws (s : State) : State :=
  let s := (s.loopsOf 1).foldl (fun s j => s.loopStep 1 j) s
  (s.groupsOf 1).foldl State.resolveGroup s

/-- A fast or medium tick is over: a loop whose evaluation it abandoned is evaluated on the next one again (R397). -/
def State.unstall (s : State) (c j : Nat) : State :=
  let r := s.loopRt c j
  if r.stalled then s.setLoop c j { r with stalled := false } else s

/-- Steps 6 and 7 of the medium tick (R387, R404). -/
def State.mediumEnd (s : State) : State :=
  let s := (s.loopsOf 1).foldl (fun s j => s.supervise 1 j) s
  let any := (s.loopsOf 1).any (fun j => (s.loopRt 1 j).tripNow != 0)
  let s := (s.loopsOf 1).foldl (fun s j => s.takeTrip 1 j) s
  let s := if any then (s.groupsOf 1).foldl State.resolveGroup s else s
  let s := (s.loopsOf 1).foldl (fun s j => s.loopOutput 1 j) s
  let s := (s.groupsOf 1).foldl State.groupOutput s
  (s.loopsOf 1).foldl (fun s j => s.unstall 1 j) s

/-- The slow tick on which a loop last fell due, ns (R158, R379). -/
def State.slowDue (s : State) (j : Nat) : Nat :=
  let p := ms (s.nat (Oid.SLOW_PERIOD j 2))
  let ph := ms (s.nat (Oid.SLOW_PHASE j 2))
  ((s.time - ph) / p * p + ph + 99999) / 100000 * 100000

/-- Steps 5 to 7 of a slow group, after the evaluation, or the missed deadline, of its last member (R387, R394, R398). -/
def State.slowGroup (s : State) (g j : Nat) : State :=
  let ms := (s.members g).map (·.2)
  if ms.any (fun i => decide (j < i)) then s
  else
    let s := s.resolveGroup g
    let s := ms.foldl (fun s i => s.supervise 2 i) s
    let any := ms.any (fun i => (s.loopRt 2 i).tripNow != 0)
    let s := ms.foldl (fun s i => s.takeTrip 2 i) s
    let s := if any then s.resolveGroup g else s
    s.groupOutput g

/-- A slow loop is evaluated; a group's resolution and outputs follow the evaluation of its last member (R379, R387, R394). -/
def State.slowTick (s : State) (j : Nat) : State :=
  if !(s.up .ce && s.loopOn 2 j) then s
  else
    let s := s.loopStep 2 j
    let lag := (s.time - s.slowDue j) / 1000
    let s := if s.nat Oid.CE_SLOW_LAG < lag then s.setN Oid.CE_SLOW_LAG (min lag 4294967295) else s
    let g := s.nat (Oid.LOOP_GROUP j 2)
    if g = 0 then (((s.supervise 2 j).takeTrip 2 j).loopOutput 2 j) else s.slowGroup g j

/-- A missed deadline: the loop keeps its applied output, law state and timers, and only the dwell count and the tick of its history go on.
A fast or medium tick evaluates every loop of its class in one command, so the miss of one comes before that tick's command, which then
passes the loop over; a slow loop's tick has no command then (R397, R398). (DESIGN CHOICE, log entry 150.) -/
def State.missDeadline (s : State) (c j : Nat) : State :=
  if !(s.up .ce && s.loopOn c j) then s
  else
    let r := s.loopRt c j
    let n := r.misses + 1
    let s := s.setLoop c j { r with
      misses := n, stalled := decide (c < 2), dwell := if r.dwell < 65535 then r.dwell + 1 else r.dwell
      u := if c = 0 then r.u else (s.applied c j :: r.u).take 64 }
    let s := ((s.flagLoop c j 3 true).count (Oid.MISS_COUNT j c) 32).count Oid.CE_MISSES 32
    let s := s.eventOf 0x0B02 j (loopRef c j) n
    let s := if s.loopMode c j = 1 ∧ s.nat (Oid.MISS_TRIP j c) ≤ n then s.tripLoop c j 4 else s
    let g := s.nat (Oid.LOOP_GROUP j c)
    if c ≠ 2 then s else if g = 0 then s.loopOutput c j else s.slowGroup g j

/-- The code of a loop class (R377). -/
def classCode : LoopClass → Nat
  | .fast => 0
  | .medium => 1
  | .slow => 2

/-- CE_DEADLINE (R397, R398). -/
def execCeDeadline (cls : LoopClass) (j : Fin 65536) (s : State) : Answer := .next (s.start.missDeadline (classCode cls) j)

/-! ### Host writes of this chapter -/

/-- The ledger item of an enabled loop (R379). -/
def loopItem (c j : Nat) : Item := { id := 0, kind := .loop c j, cls := 3, charges := [(0x30 + c, 1)] }

/-- The loop is enabled by the module or a host (R379, R393). -/
def State.enableLoop (s : State) (c j : Nat) : State :=
  let s := (s.setFlag (Oid.LOOP_ENABLE j c) true).setLoop c j {}
  (s.set (Oid.OUT j c) (s.get (Oid.MANUAL j c))).addItem (loopItem c j)

/-- A group's definition is removed, and its slot relinquished (R395). -/
def State.removeGroup (s : State) (g : Nat) : State :=
  let s := (s.members g).foldl (fun s m => s.setN (Oid.LOOP_GROUP m.2 m.1) 0) s
  let s := { (s.setBlob (Oid.CGRP_MEMBERS g) []) with grps := s.grps.del g }
  s.relinquish (s.nat (Oid.CGRP_TARGET g)) (s.nat (Oid.CGRP_PRIO g)) (.group g)

/-- A group's members are defined (R395). -/
def State.defineGroup (s : State) (g : Nat) (b : List Byte) : State :=
  let s := (s.members g).foldl (fun s m => s.setN (Oid.LOOP_GROUP m.2 m.1) 0) s
  let s := { (s.setBlob (Oid.CGRP_MEMBERS g) b) with grps := s.grps.ins g {} }
  let s := (s.members g).foldl (fun s m => s.setN (Oid.LOOP_GROUP m.2 m.1) g) s
  ((s.setN (Oid.CGRP_WINNER g) 0).eventOf 0x0B04 (g % 65536) g (s.members g).length).mirrorRegs 5 [] [Oid.CGRP_MEMBERS g]

/-- The loop is disabled: slot freed, out of its group, its slot on a point target relinquished (R393). -/
def State.disableLoop (s : State) (c j : Nat) : State :=
  let g := s.nat (Oid.LOOP_GROUP j c)
  let s := s.relinquish (s.nat (Oid.OUT_TARGET j c)) (s.nat (Oid.OUT_PRIO j c)) (.loop (loopKey c j))
  let s := if g = 0 then s
    else
      let left := (s.members g).filter (fun m => m != (c, j))
      if left = [] then s.removeGroup g else s.defineGroup g (left.flatMap (fun m => leBytes 4 (loopRef m.1 m.2)))
  let s := s.dropItems (fun i => i.kind == .loop c j)
  { (s.setFlag (Oid.LOOP_ENABLE j c) false) with loops := s.loops.del (loopKey c j) }

/-- LOOP_ENABLE (R378, R379, R393). -/
def State.loopEnableCheck (s : State) (c j : Nat) (v : Bool) : Option Refuse :=
  firstOf [need (!liftSlot c j) .access, need (s.loopMode c j == 0) .loopClosed,
    if v && !s.loopOn c j then
      andThen (need ((s.nat (Oid.LOOP_LAW j c) == 1 || s.nat (Oid.LOOP_LAW j c) == 2) && s.nat (Oid.FB_SOURCE j c) != 0) .range)
        (s.admits (fun _ => false) [loopItem c j])
    else none]

/-- LOOP_ENABLE takes effect (R393). -/
def State.loopEnableApply (s : State) (c j : Nat) (v : Bool) : State :=
  if v == s.loopOn c j then s else if v then s.enableLoop c j else s.disableLoop c j

/-- A definition of a group keeps R394: one class, not fast, enabled, one law, the levels or the slow grid alike. -/
def State.groupOk (s : State) (ms : List (Nat × Nat)) : Bool :=
  match ms with
  | [] => true
  | (c, j) :: _ =>
    let law := s.nat (Oid.LOOP_LAW j c)
    (c == 1 || c == 2) && decide (ms.length ≤ 8) && decide ms.Nodup && (law == 1 || law == 2)
      && ms.all (fun m => m.1 == c && s.loopOn m.1 m.2 && s.nat (Oid.LOOP_LAW m.2 m.1) == law
        && (law != 1 || (s.get (Oid.OUT_MIN m.2 m.1) == s.get (Oid.OUT_MIN j c) && s.get (Oid.OUT_MAX m.2 m.1) == s.get (Oid.OUT_MAX j c)))
        && (c != 2 || (s.get (Oid.SLOW_PERIOD m.2 m.1) == s.get (Oid.SLOW_PERIOD j c)
          && s.get (Oid.SLOW_PHASE m.2 m.1) == s.get (Oid.SLOW_PHASE j c))))

/-- The host may write a group's objects: not one of the lift side, and every member OPEN (R378, R395). -/
def State.groupOpen (s : State) (g : Nat) : Option Refuse :=
  andThen (need (!decide (1 ≤ g ∧ g ≤ 24)) .access) (need ((s.members g).all (fun m => s.loopMode m.1 m.2 == 0)) .loopClosed)

/-- GRP_MEMBERS (R394, R395). -/
def State.groupCheck (s : State) (g : Nat) (b : List Byte) : Option Refuse :=
  let ms := membersOf 8 b
  firstOf [s.groupOpen g, need (b.length % 4 == 0 && decide (b.length ≤ 32)) .type,
    need (ms.all (fun m => s.loopMode m.1 m.2 == 0)) .loopClosed,
    need (ms.all (fun m => let o := s.nat (Oid.LOOP_GROUP m.2 m.1); o == 0 || o == g)) .busy,
    need (s.groupOk ms) .type]

/-- GRP_MEMBERS takes effect: an empty list removes the group (R395). -/
def State.groupApply (s : State) (g : Nat) (b : List Byte) : State :=
  if b = [] then (if s.members g = [] then s else s.removeGroup g) else s.defineGroup g b

/-- A write to an RWL object of a loop: LOOP_CLOSED unless OPEN (R392), and the limits of R384, R385, R388, R393, R395 and R409. The
sub-index is that of the table Loop objects. -/
def State.loopParamCheck (s : State) (c j n : Nat) (v : Int) : Option Refuse :=
  let rwl := (6 ≤ n ∧ n ≤ 9) ∨ n = 1 ∨ n = 0x0B ∨ (0x11 ≤ n ∧ n ≤ 0x22) ∨ n = 0x29 ∨ n = 0x2A
  let g := s.nat (Oid.LOOP_GROUP j c)
  let grouped := g != 0
  let k : Key := ⟨(Oid.LOOP_ENABLE j c).oid + n, 0⟩
  firstOf [need (!decide rwl || s.loopMode c j == 0) .loopClosed,
    need (decide (n ≠ 0x28) || !liftSlot c j) .access,
    need (decide (n ≠ 1) || v == 1 || v == 2 || (v == 0 && !s.loopOn c j)) .range,
    need (decide (n ≠ 7) || v != 0 || !s.loopOn c j) .range,
    need (decide (n ≠ 0x14) || decide (v < s.get (Oid.OUT_MAX j c))) .range,
    need (decide (n ≠ 0x15) || decide (s.get (Oid.OUT_MIN j c) < v)) .range,
    need (decide (n ≠ 0x29) || decide (s.get (Oid.SLOW_PHASE j c) < v)) .range,
    need (decide (n ≠ 0x2A) || decide (v < s.get (Oid.SLOW_PERIOD j c))) .range,
    need (!(grouped && (n == 1 || n == 0x14 || n == 0x15 || n == 0x29 || n == 0x2A)) || (s.set k v).groupOk (s.members g)) .type]

end Sys2Proof.Machine
end

