-- ==== Sys2Proof/Machine/Door.lean ====
section
/-! DEFINITION. Door link and door drive: frames, training, phase current control, outer loops, door states, obstruction and the lock
(chapter 10). -/

namespace Sys2Proof.Machine

/-- What a door channel keeps beside its objects. -/
def State.door (s : State) (k : Nat) : DoorRt := Tbl.get {} s.doors k

/-- That changed. -/
def State.setDoor (s : State) (k : Nat) (d : DoorRt) : State := { s with doors := s.doors.put {} k d }

/-- DOOR_STATE (R369). -/
def State.doorState (s : State) (k : Nat) : Nat := s.nat (Oid.DOOR_STATE k)

/-- The channel's sub-unit runs (R79). -/
def State.doorUp (s : State) (k : Nat) : Bool := s.runs (.dl k) && s.bit Oid.DL_ON k && s.flag (Oid.DOOR_ENABLE k)

/-- A state in which the drive runs (R369). -/
def doorRuns (st : Nat) : Bool := st == 2 || decide (4 ≤ st ∧ st ≤ 9)

/-! ### Line and coding (R340, R341) -/

/-- One step of the CRC-8 over x^8 + x^2 + x + 1 (R341). -/
def crc8Bit (crc : Nat) (b : Bool) : Nat :=
  let c := crc * 2 % 256
  if (crc.testBit 7) != b then c ^^^ 7 else c

/-- The CRC-8 of bits [63:8] of a frame, most significant bit first (R341). -/
def crc8 (f : Nat) : Nat := (List.range 56).foldl (fun c i => crc8Bit c (f.testBit (63 - i))) 0xFF

/-- The 64 scrambler bits of x^7 + x^6 + 1 from 0x7F, the first in bit 63 (R341). -/
def scrambler : Nat → Nat → Nat → Nat
  | 0, _, v => v
  | n + 1, lfsr, v =>
    let p := boolNat (lfsr.testBit 6 != lfsr.testBit 5)
    scrambler n ((lfsr * 2 + p) % 128) (v * 2 + p)

/-- The scrambler's mask over one frame. -/
def scramMask : Nat := scrambler 64 0x7F 0

/-- The line bits of a frame whose CRC field is 0, the first bit sent in bit 63 (R341). -/
def lineOf (f : Nat) : BitVec 64 := BitVec.ofNat 64 ((f + crc8 f) ^^^ scramMask)

/-- The frame that line bits carry, where its CRC is good (R342). -/
def frameOf (line : BitVec 64) : Option Nat :=
  let f := line.toNat ^^^ scramMask
  if crc8 f = f % 256 then some f else none

/-! ### Downlink (R343 to R345, R350) -/

/-- I_FS of the stage, mA: identity word 1 (R348, R349). -/
def State.iFs (s : State) (k : Nat) : Nat := leNat (((s.blob (Oid.STAGE_IDENT k)).drop 4).take 4)

/-- A current as an unsigned code of 12 bits (R344, R348). -/
def State.limitCode (s : State) (k mA : Nat) : Nat :=
  let fs := s.iFs k
  if fs = 0 then 0 else min ((2 * mA * 2048 + fs) / (2 * fs)) 4095

/-- The hold code of one phase from the frames sent, newest first (R345). -/
def holdCode (sent : List (List Nat)) (ph : Nat) : Nat :=
  let l := (sent.take 64).map (fun f => f.getD ph 0)
  let n := (l.filter (· != 0)).length
  let h := (l.filter (· == 2)).length
  if 32 ≤ 64 - n then 0 else 1 + (2 * 254 * h + n) / (2 * n)

/-- The rotating slot of a frame: ROT_ID and ROT_DATA (R344, R373). -/
def State.rotation (s : State) (k seq : Nat) : Nat × Nat :=
  let d := s.door k
  if d.mode = 3 then (15, d.prbs % 16777216)
  else if seq % 2 = 0 then (0, holdCode d.sent 0 * 65536 + holdCode d.sent 1 * 256 + holdCode d.sent 2)
  else if seq % 4 = 1 then (1, s.limitCode k (s.nat (Oid.DOOR_LIM_RUN k)) * 4096 + s.limitCode k (s.nat (Oid.DOOR_LIM_HOLD k)))
  else
    match d.cmd with
    | some (c, a) => (2, c * 65536 + a % 65536)
    | none => (2, 0)

/-- The code of a switch state in a SW field: only RUN frames carry one other than off (R343, R360). -/
def swCode (mode sw : Nat) : Nat := if mode = 2 then sw % 4 else 0

/-- The downlink frame with sequence number `seq` (R343). -/
def State.downlink (s : State) (k seq : Nat) : Nat :=
  let d := s.door k
  let r := s.rotation k seq
  seq * 2 ^ 56 + r.1 * 2 ^ 52 + r.2 * 2 ^ 28 + d.mode * 2 ^ 25 + boolNat (s.drives && s.gate) * 2 ^ 24
    + swCode d.mode (d.sw.getD 0 0) * 2 ^ 12 + swCode d.mode (d.sw.getD 1 0) * 2 ^ 10 + swCode d.mode (d.sw.getD 2 0) * 2 ^ 8

/-- The sequence number of the fast tick at an instant (R350). -/
def fastSeq (t : Nat) : Nat := (50 * (t / 100000) + t % 100000 / 2000) % 256

/-- 24 further bits of the PRBS x^23 + x^18 + 1 (R344). -/
def prbs23 : Nat → Nat → Nat
  | 0, v => v
  | n + 1, v => prbs23 n ((v * 2 + boolNat (v.testBit 22 != v.testBit 17)) % 8388608)

/-! ### Phase current control (R360) -/

/-- The commutation table: the phases driven high and low in a sector (R360). -/
def commHi (sec : Nat) : Nat := sec / 2
def commLo (sec : Nat) : Nat := [1, 2, 2, 0, 0, 1].getD sec 0

/-- Law HP on one phase: demand magnitude, driven phases, its current, half the band, its present state (R360). -/
def lawHP (ph hi lo : Nat) (a cur half : Int) (sw : Nat) : Nat :=
  if ph ≠ hi ∧ ph ≠ lo then 0
  else
    let t := if ph = hi then a else -a
    let sw := if sw = 0 then (if ph = hi then 2 else 1) else sw
    if cur < t - half then 2 else if t + half < cur then 1 else sw

/-- The commanded direction opens the door (R360, R369). -/
def State.doorOpening (s : State) (k : Nat) : Bool := let d := s.door k; decide (d.x0 ≤ d.target)

/-- The three phase states of a channel for the next frame (R360). -/
def State.phases (s : State) (k : Nat) : List Nat :=
  let d := s.door k
  let dem := s.get (Oid.DOOR_I_DEM k)
  let opens := (decide (0 ≤ dem)) == s.doorOpening k
  let sec := ((d.raw + d.k0) % 6).toNat
  let hi := if opens then commHi sec else commLo sec
  let lo := if opens then commLo sec else commHi sec
  let half := s.get (Oid.DOOR_BAND_MA k) / 2
  (List.range 3).map (fun ph =>
    if s.loopMode 0 (3 * k + ph) = 1 then lawHP ph hi lo dem.natAbs (s.get (Oid.DOOR_I_PH k ph)) half (d.sw.getD ph 0) else 0)

/-- Step 1 of a fast loop's tick, where its evaluation completes (R387, R397, R398). -/
def State.fastCommands (s : State) (j : Nat) : State :=
  let r := s.loopRt 0 j
  if r.stalled then s.unstall 0 j
  else (if r.misses = 0 then s else s.setLoop 0 j { r with misses := 0 }).loopCommands 0 j

/-- One fast tick of one channel: the mode commands that wait for its loops, the HP laws, then the downlink frame (R350, R360, R386, R391). -/
def State.fastDoor (s : State) (k : Nat) : State :=
  if !s.doorUp k then s
  else
    let late := (List.range 3).map (fun ph => (s.loopRt 0 (3 * k + ph)).stalled)
    let s := (List.range 3).foldl (fun s ph => if s.loopOn 0 (3 * k + ph) then s.fastCommands (3 * k + ph) else s) s
    let sw := if (s.door k).mode = 2 then (s.phases k).zipIdx.map (fun (x : Nat × Nat) =>
        if late.getD x.2 false then (s.door k).sw.getD x.2 0 else x.1)
      else [0, 0, 0]
    let s := (List.range 3).foldl (fun s ph => if s.loopOn 0 (3 * k + ph) then s.set (Oid.OUT (3 * k + ph) 0) (sw.getD ph 0 * 65536) else s) s
    let d := { s.door k with sw := sw }
    let s := s.setDoor k d
    if d.hs = 1 ∨ d.hs = 2 ∨ (d.mode = 0 ∧ d.hs = 0) then s
    else
      let seq := fastSeq s.time
      let s := s.emit (.door k (lineOf (s.downlink k seq)))
      s.setDoor k { d with
        sent := (sw :: d.sent).take 64, cmd := if seq % 4 = 3 ∧ d.mode ≠ 3 then none else d.cmd
        prbs := if d.mode = 3 then prbs23 24 d.prbs else d.prbs }

/-- Every channel on one fast tick (R379, R386). -/
def State.fastTick (s : State) : State := if s.up .ce then (List.range 24).foldl State.fastDoor s else s

/-! ### States (R366, R369) -/

/-- The outer loops open with a manual value of 0 and the phases off (R366). -/
def State.doorLoopsOpen (s : State) (k : Nat) : State :=
  let s := (List.range 3).foldl (fun s i =>
    let j := 3 * k + i
    let s := s.set (Oid.MANUAL j 1) 0
    let s := if s.loopMode 1 j = 1 then (s.setLoop 1 j { s.loopRt 1 j with path := 0, feCount := 0 }).setLoopMode 1 j 0 else s
    if s.loopMode 0 j = 1 then s.setLoopMode 0 j 0 else s) s
  s.set (Oid.DOOR_I_DEM k) 0

/-- The outer loops and the phases close (R366, R390). -/
def State.doorLoopsClose (s : State) (k : Nat) : State :=
  (List.range 3).foldl (fun s i =>
    let j := 3 * k + i
    let s := if s.loopMode 1 j = 0 then s.closeLoop 1 j else s
    if s.loopMode 0 j = 1 then s else s.setLoopMode 0 j 1) s

/-- DOOR_STATE becomes `st`, with the downlink mode and the loops that belong to it (R366, R369). -/
def State.doorEnter (s : State) (k st : Nat) : State :=
  let s := s.setN (Oid.DOOR_STATE k) st
  let s := s.setDoor k { s.door k with
    mode := if st = 0 ∨ st = 1 then 0 else if doorRuns st then 2 else if (s.door k).mode = 3 then 3 else 1, forceAt := none, feAt := none }
  if doorRuns st then s.doorLoopsClose k else s.doorLoopsOpen k

/-- The profile starts from the present position toward a target (R366, R370). (DESIGN CHOICE, log entry 82.) -/
def State.doorProfile (s : State) (k : Nat) (target : Int) (v a : Nat) : State :=
  s.setDoor k { s.door k with x0 := s.get (Oid.DOOR_POS k), t0 := s.clk, target := target, v := v, a := a }

/-- The position of the open door. -/
def State.doorWidth (s : State) (k : Nat) : Int := s.get (Oid.DOOR_WIDTH k)

/-- The door starts to open at DOOR_V_OPEN, or again at DOOR_V_NUDGE after an obstruction (R369, R370). -/
def State.doorStartOpen (s : State) (k : Nat) (again : Bool) : State :=
  let v := if again then s.nat (Oid.DOOR_V_NUDGE k) else s.nat (Oid.DOOR_V_OPEN k)
  ((s.setDoor k { s.door k with stopAt := none, retried := again }).doorProfile k (s.doorWidth k) v (s.nat (Oid.DOOR_ACCEL k))).doorEnter k 4

/-- The door starts to close, or to nudge closed (R369). -/
def State.doorStartClose (s : State) (k : Nat) (nudge : Bool) : State :=
  let v := if nudge then s.nat (Oid.DOOR_V_NUDGE k) else s.nat (Oid.DOOR_V_CLOSE k)
  ((s.setDoor k { s.door k with stopAt := none }).doorProfile k 0 v (s.nat (Oid.DOOR_ACCEL k))).doorEnter k (if nudge then 7 else 6)

/-- The door reopens (R369, R370). (DEDUCED, log entry 83.) -/
def State.doorReopen (s : State) (k : Nat) : State :=
  (s.doorProfile k (s.doorWidth k) (s.nat (Oid.DOOR_V_REOPEN k)) (s.nat (Oid.DOOR_A_REOPEN k))).doorEnter k 8

/-- An open command (R369, R373). -/
def State.doorOpen (s : State) (k : Nat) : State :=
  let st := s.doorState k
  if s.bit (Oid.DL_STATUS k) 9 then s.setDoor k { s.door k with openAfter := true }
  else if st = 2 ∨ st = 3 ∨ st = 9 then s.doorStartOpen k false
  else if st = 6 ∨ st = 7 then s.doorReopen k
  else s

/-- A close command; with DOOR_REF clear the door nudges closed (R369). -/
def State.doorClose (s : State) (k : Nat) : State :=
  let st := s.doorState k
  if st = 5 ∨ st = 9 then s.doorStartClose k (!s.bit (Oid.DL_STATUS k) 11) else s

/-- A nudge command (R369). -/
def State.doorNudge (s : State) (k : Nat) : State := if s.doorState k = 5 then s.doorStartClose k true else s

/-- A stop command: demand 0 (R369). -/
def State.doorStop (s : State) (k : Nat) : State :=
  let st := s.doorState k
  if doorRuns st ∧ st ≠ 9 then (s.doorProfile k (s.get (Oid.DOOR_POS k)) 0 0).doorEnter k 9 else s

/-- The lock is confirmed: the close commits, the door is LOCKED, its position and DOOR_REF are set; an obstruction declared in the same medium
tick is not acted on (R367, R369, R371). -/
def State.lockConfirmed (s : State) (k : Nat) : State :=
  let st := s.doorState k
  let near := decide ((s.get (Oid.DOOR_POS k)).natAbs ≤ s.nat (Oid.DOOR_CLOSED_WIN k))
  let undone := st == 8 && (s.door k).obsTick == some (s.time / 100000)
  if (st = 2 ∨ st = 6 ∨ st = 7 ∨ undone) ∧ s.bit (Oid.CAR_INPUTS (k / 2)) 4 ∧ near then
    let d := s.door k
    (((s.setDoor k { d with zero := d.raw }).set (Oid.DOOR_POS k) 0).setBit (Oid.DL_STATUS k) 11 true).doorEnter k 3
  else s

/-- LOCK_CONFIRMED (R371). -/
def execLockConfirmed (k : Fin 24) (s : State) : Answer := .next (s.start.lockConfirmed k)

/-- The door takes FAULT (R369). -/
def State.doorFault (s : State) (k : Nat) : State := if s.doorState k = 0 then s else s.doorEnter k 10

/-! ### Training and handshake (R352, R353) -/

/-- The handshake starts from step 1 (R352, R369). -/
def State.handshake (s : State) (k : Nat) : State :=
  let d := s.door k
  let s := s.setDoor k { d with
    hs := 1, hsAt := s.clk, words := [], alike := [], good := 0, bad := 0, seq := none, off := 0, corr := 0, cmd := none, vbus := [], temp := [] }
  let s := (s.setBit (Oid.DL_STATUS k) 0 false).setBit (Oid.DL_STATUS k) 1 false
  s.doorEnter k 1

/-- A failed check: HS_FAIL, recorded with its cause; the handshake starts again after 1 s (R353). -/
def State.hsFail (s : State) (k cause : Nat) : State :=
  ((s.setBit (Oid.DL_STATUS k) 6 true).setDoor k { s.door k with hs := 0, failAt := s.clk }).eventOf 0x0A02 k cause

/-- One identity word as read. -/
def State.identWord (s : State) (k i : Nat) : Nat := Tbl.get 0 (s.door k).words i

/-- d is at most 5 ns/m × DOOR_CABLE_M + 100 ns (R353). -/
def State.delayOk (s : State) (k dNs : Nat) : Bool := decide (dNs ≤ 5 * s.nat (Oid.DOOR_CABLE_M k) + 100)

/-- Check 4 (R353). -/
def State.currentOk (s : State) (k : Nat) : Bool :=
  let fs := s.identWord k 1
  decide (s.nat (Oid.DOOR_I_MAX k) + s.nat (Oid.DOOR_BAND_MA k) / 2 + s.nat (Oid.DL_OVS_MA k) ≤ fs) && decide (s.nat (Oid.DOOR_LIM_RUN k) ≤ fs)

/-- The handshake passes: TRAINED, MODE OFF, LOCKED or CLOSED (R352). -/
def State.hsPass (s : State) (k : Nat) : State :=
  let d := s.door k
  let s := (s.setDoor k { d with hs := 0, failAt := 0 }).setBit (Oid.DL_STATUS k) 0 true
  let s := s.setBit (Oid.DL_STATUS k) 6 false
  let s := s.eventOf 0x0A01 k (s.nat (Oid.DL_DELAY_NS k)) (s.nat (Oid.DL_EQ k)) (s.identWord k 1)
  let near := decide ((s.get (Oid.DOOR_POS k)).natAbs ≤ s.nat (Oid.DOOR_CLOSED_WIN k))
  if s.bit (Oid.CAR_INPUTS (k / 2)) 4 && near then
    let d := s.door k
    (((s.setDoor k { d with zero := d.raw }).set (Oid.DOOR_POS k) 0).setBit (Oid.DL_STATUS k) 11 true).doorEnter k 3
  else (s.doorProfile k 0 0 0).doorEnter k 2

/-- A step of the handshake (R352, R353). -/
def State.hsStep (s : State) (k : Nat) (ev : HsEvent) : State :=
  let d := s.door k
  if !(s.doorUp k && s.doorState k == 1) then s
  else
    match ev with
    | .prbs seen =>
      if d.hs = 1 ∨ d.hs = 2 then (if seen then s.setDoor k { d with hs := 4 } else s.hsFail k 0) else s
    | .lock got =>
      if d.hs = 4 ∨ d.hs = 5 then
        if !got then s.hsFail k 1
        else if !(s.bit (Oid.DL_STATUS k) 1 && (List.range 8).all (fun i => decide (2 ≤ Tbl.get 0 d.alike i))) then s
        else
          let w4 := s.identWord k 4
          let s := s.setBlob (Oid.STAGE_IDENT k) ((List.range 8).flatMap (fun i => leBytes 4 (s.identWord k i)))
          if s.identWord k 0 / 65536 ≠ 1 ∨ !(s.identWord k 7).testBit 8 then s.hsFail k 2
          else s.setDoor k { d with hs := 6, pos4 := w4 % 16, raw := d.raw + signed 4 (w4 % 16 + 16 - d.pos4)
                                    k0 := (((w4 / 2 ^ 28 : Nat) : Int) - (d.raw + signed 4 (w4 % 16 + 16 - d.pos4))).toNat % 6
                                      + (((-(((w4 / 2 ^ 28 : Nat) : Int) - (d.raw + signed 4 (w4 % 16 + 16 - d.pos4)))).toNat % 6 * 5) % 6) }
      else s
    | .delay dNs =>
      if d.hs = 6 then
        let s := s.setN (Oid.DL_DELAY_NS k) dNs
        if s.delayOk k dNs then s.setDoor k { d with hs := 7 } else s.hsFail k 3
      else s
    | .align reached eq =>
      if d.hs = 7 then (if reached then (s.setN (Oid.DL_EQ k) eq).setDoor k { d with hs := 8 } else s.hsFail k 6) else s
    | .shift late => if d.hs = 7 then s.setDoor k { d with cmd := some (2, unsigned 16 (-(signed 16 late.toNat))) } else s
    | .finish =>
      if d.hs = 8 then
        if !s.currentOk k then s.hsFail k 4
        else if s.identWord k 2 * 10 < s.nat (Oid.DOOR_VBUS_MV k) * 11 then s.hsFail k 5
        else s.hsPass k
      else s

/-- DL_HANDSHAKE_STEP (R352). -/
def execDlHandshakeStep (k : Fin 24) (ev : HsEvent) (s : State) : Answer := .next (s.start.hsStep k ev)

/-- A failed handshake starts again every 1 s (R353). -/
def State.hsRetry (s : State) (k : Nat) : State :=
  let d := s.door k
  if s.doorUp k && s.doorState k == 1 && d.hs == 0 && s.bit (Oid.DL_STATUS k) 6
  then (s.reach (d.failAt + sec 1)).handshake k else s

/-- DL_HANDSHAKE_RETRY (R353). -/
def execDlHandshakeRetry (k : Fin 24) (s : State) : Answer := .next (s.start.hsRetry k)

/-! ### Uplink (R346 to R348, R351, R362) -/

/-- A bad or missing uplink frame; the fourth in a row loses FRAME_LOCK, and the eighth clears DOOR_REF (R342, R348, R351). -/
def State.uplinkBad (s : State) (k : Nat) : State :=
  let d := s.door k
  let n := d.bad + 1
  let s := (s.setDoor k { d with bad := min n 8, good := 0 }).count (Oid.DL_BAD k) 32
  let s := if n = 8 then s.setBit (Oid.DL_STATUS k) 11 false else s
  if n = 4 then (s.setBit (Oid.DL_STATUS k) 1 false).setDoor k { s.door k with seq := none } else s

/-- A TRAIN frame: one identity word (R349). -/
def State.trainWord (s : State) (k f : Nat) : State :=
  let d := s.door k
  let i := field f 55 52
  let v := field f 51 20
  let same := decide (d.words.find i = some v)
  s.setDoor k { d with words := d.words.ins i v, alike := d.alike.put 0 i (if same then min (Tbl.get 0 d.alike i + 1) 2 else 1) }

/-- The phase currents of a frame, mA (R348). -/
def State.uplinkCurrents (s : State) (k f : Nat) : State :=
  let fs : Int := s.iFs k
  let i (ph : Nat) : Int := divRound (signed 12 (field f (55 - 12 * ph) (44 - 12 * ph)) * fs) 2048
  let s := (List.range 3).foldl (fun s ph => s.set (Oid.DOOR_I_PH k ph) (clampInt (-32768) 32767 (i ph))) s
  let d := s.door k
  s.setDoor k { d with iSum := d.iSum + (i 0).natAbs + (i 1).natAbs + (i 2).natAbs, iN := d.iN + 1 }

/-- The door-motor counter: DOOR_RAW, DOOR_POS and DOOR_SPEED (R348, R367). -/
def State.uplinkCounter (s : State) (k f : Nat) : State :=
  let d := s.door k
  let p := field f 19 16
  let dl := signed 4 (p + 16 - d.pos4)
  if dl = 0 then s
  else
    let up := decide (0 < dl)
    let dt := (s.clk - d.countAt) / 2000 * 2000
    let v : Int :=
      if up != d.countUp ∨ dt = 0 then 0
      else divRound (dl.natAbs * s.get (Oid.DOOR_SCALE k) * 100000000000) (65536 * dt)
    let raw := d.raw + dl
    let s := s.setDoor k { d with raw := raw, pos4 := p, countAt := s.clk, countUp := up }
    (s.set (Oid.DOOR_POS k) (satI32 (raw - d.zero))).set (Oid.DOOR_SPEED k) (satI32 (if up then v else -v))

/-- A stage fault: with the door LOCKED only STAGE_FAULT and CMD 0x01 once, else FAULT (R369). -/
def State.stageFlt (s : State) (k : Nat) (flt : Bool) : State :=
  let d := s.door k
  let s := s.setDoor k { d with flt := flt }
  if !flt || s.bit (Oid.DL_STATUS k) 8 then s
  else
    let s := (s.setBit (Oid.DL_STATUS k) 8 true).eventOf 0x0A0A k d.statB
    if s.doorState k = 3 then s.setDoor k { s.door k with cmd := some (1, 0) } else s.doorFault k

/-- The port of the stage that this module uses: identity word 7 (R349). -/
def State.stagePort (s : State) (k : Nat) : Nat := boolNat ((s.identWord k 7).testBit 0)

/-- STAT_A (R347, R376): IN_USE, HOLD and COAST. -/
def State.statA (s : State) (k v : Nat) : State :=
  let hold := v.testBit 2
  let coast := v.testBit 1
  let wasHold := s.bit (Oid.DL_STATUS k) 3
  let wasCoast := s.bit (Oid.DL_STATUS k) 4
  let s := ((s.setBit (Oid.DL_STATUS k) 5 (v.testBit 3)).setBit (Oid.DL_STATUS k) 3 hold).setBit (Oid.DL_STATUS k) 4 coast
  let s := if hold && !wasHold then
      (if wasCoast then s else (s.setDoor k { s.door k with holdAt := s.clk }).count (Oid.DL_HOLDS k) 32).eventOf 0x0A03 k (s.stagePort k) (s.doorState k)
    else s
  let s := if coast && !wasCoast then s.eventOf 0x0A04 k (par (s.get (Oid.DOOR_POS k))) else s
  if (wasHold || wasCoast) && !hold && !coast then s.eventOf 0x0A05 k (s.stagePort k) ((s.clk - (s.door k).holdAt) / 1000) else s

/-- STAT_B (R347, R357). -/
def State.statB (s : State) (k v : Nat) : State :=
  let s := s.setDoor k { s.door k with statB := v }
  let clash := v.testBit 0
  if clash && !s.bit (Oid.DL_STATUS k) 10 then (s.setBit (Oid.DL_STATUS k) 10 true).eventOf 0x0A0C k (s.stagePort k)
  else if !clash then s.setBit (Oid.DL_STATUS k) 10 false
  else s

/-- The uplink slot of a frame; a value is taken when its three slots arrive in one rotation (R347). -/
def State.uplinkSlot (s : State) (k f : Nat) : State :=
  let rid := field f 14 12
  let v := field f 11 8
  let d := s.door k
  if rid < 3 then
    let l := if rid = 0 then [v] else if d.vbus.length = rid then d.vbus ++ [v] else []
    let s := s.setDoor k { d with vbus := l }
    if rid = 2 ∧ l.length = 3 then s.setN (Oid.DL_VBUS_MV k) (50 * (l.getD 0 0 * 256 + l.getD 1 0 * 16 + l.getD 2 0)) else s
  else if rid < 6 then
    let l := if rid = 3 then [v] else if d.temp.length = rid - 3 then d.temp ++ [v] else []
    let s := s.setDoor k { d with temp := l }
    if rid = 5 ∧ l.length = 3 then s.set (Oid.DL_TEMP k) (divRound (signed 12 (l.getD 0 0 * 256 + l.getD 1 0 * 16 + l.getD 2 0) * 5) 2) else s
  else if rid = 6 then s.statA k v
  else s.statB k v

/-- The arrival of a frame of the port in use against its window, in bit times: corrected after 16 frames outside it; beyond 2 bit times
from the trained value, LAT_FAULT (R362). -/
def State.uplinkPhase (s : State) (k : Nat) (offBits : Int) : State :=
  let d := s.door k
  if offBits = 0 then s.setDoor k { d with off := 0 }
  else if d.off + 1 < 16 then s.setDoor k { d with off := d.off + 1 }
  else
    let corr := d.corr - offBits
    if 2 < corr.natAbs then
      ((s.setDoor k { d with off := 0 }).setBit (Oid.DL_STATUS k) 7 true).eventOf 0x0A06 k (par corr) |>.doorFault k
    else s.setDoor k { d with off := 0, corr := corr, cmd := some (2, unsigned 16 (-offBits)) }

/-- A good new frame of a trained port. -/
def State.uplinkData (s : State) (k f : Nat) (offBits : Int) : State :=
  let s := ((s.uplinkCurrents k f).uplinkCounter k f).uplinkSlot k f
  let s := s.stageFlt k (f.testBit 15)
  if s.bit (Oid.DL_STATUS k) 5 && !s.bit (Oid.DL_STATUS k) 7 then s.uplinkPhase k offBits else s

/-- A received uplink frame (R342, R346, R351). -/
def State.uplink (s : State) (k : Nat) (line : BitVec 64) (offBits : Int) : State :=
  let d := s.door k
  if !s.doorUp k then s
  else
    match frameOf line with
    | none => s.uplinkBad k
    | some f =>
      let train := d.mode == 0
      if train && decide (7 < field f 55 52) then s.uplinkBad k
      else
        let q := field f 63 56
        let fresh := match d.seq with
          | none => true
          | some b => let x := (q + 256 - b) % 256; decide (1 ≤ x ∧ x ≤ 127)
        if !fresh then s.uplinkBad k
        else
          let n := min (d.good + 1) 4
          let s := s.setDoor k { d with good := n, bad := 0, seq := if s.bit (Oid.DL_STATUS k) 1 ∨ n = 4 then some q else none }
          let s := if n = 4 then s.setBit (Oid.DL_STATUS k) 1 true else s
          if !s.bit (Oid.DL_STATUS k) 1 then s
          else if train then (s.trainWord k f).uplinkCounter k f
          else if d.mode = 3 then s
          else s.uplinkData k f offBits

/-- UPLINK_FRAME (R346). (DESIGN CHOICE, log entry 131.) -/
def execUplinkFrame (k : Fin 24) (line : BitVec 64) (offBits : Int) (s : State) : Answer := .next (s.start.uplink k line offBits)

/-- An uplink gap: more than 7 frames clear DOOR_REF (R348), more than 50 ms take the door to HANDSHAKE (R369). -/
def State.uplinkGap (s : State) (k forUs : Nat) : State :=
  if !s.doorUp k then s
  else
    let s := s.count (Oid.DL_BAD k) 32 (forUs / 2)
    let s := if 14 < forUs then s.setBit (Oid.DL_STATUS k) 11 false else s
    if 50000 < forUs ∧ s.doorState k ≠ 1 ∧ s.doorState k ≠ 0 then s.handshake k else s

/-- UPLINK_GAP (R369). -/
def execUplinkGap (k : Fin 24) (forUs : Nat) (s : State) : Answer := .next (s.start.uplinkGap k forUs)

/-- The stage's bus voltage is above 1.1 × DOOR_VBUS_MV (R363). -/
def State.vbusHigh (s : State) (k : Nat) : Bool := decide (s.nat (Oid.DOOR_VBUS_MV k) * 11 < s.nat (Oid.DL_VBUS_MV k) * 10)

/-- DL_VBUS_HIGH: for 10 ms (R363). -/
def execDlVbusHigh (k : Fin 24) (forMs : Nat) (s : State) : Answer :=
  let s := s.start
  .next (if s.doorUp k && s.vbusHigh k && decide (10 ≤ forMs) && !s.bit (Oid.DL_STATUS k) 2 then
          (s.setBit (Oid.DL_STATUS k) 2 true).eventOf 0x0A0D k (s.nat (Oid.DL_VBUS_MV k))
        else s)

/-! ### Outer loops (R366 to R368) -/

/-- The distance along the profile, µm, and the speed, µm/s, after `t` µs: acceleration, cruise, deceleration over `dist` µm (R366).
(DESIGN CHOICE, log entry 82.) -/
def profileAt (dist v a t : Nat) : Nat × Nat :=
  -- v and a in µm/s and µm/s²
  if a = 0 ∨ v = 0 ∨ dist = 0 then (0, 0)
  else
    let vp := min v (isqrt (a * dist))
    if vp = 0 then (dist, 0)
    else
      let ta := vp * 1000000 / a
      let da := vp * vp / (2 * a)
      let tc := (dist - 2 * da) * 1000000 / vp
      if t < ta then (a * t * t / 2000000000000, a * t / 1000000)
      else if t < ta + tc then (da + vp * (t - ta) / 1000000, vp)
      else if t < 2 * ta + tc then
        let r := 2 * ta + tc - t
        (dist - a * r * r / 2000000000000, a * r / 1000000)
      else (dist, 0)

/-- The profile now: position in counts, speed in µm/s (R366). (DESIGN CHOICE, log entry 82.) -/
def State.doorProfileNow (s : State) (k : Nat) : Int × Nat :=
  let d := s.door k
  let scale := s.nat (Oid.DOOR_SCALE k)
  let dist := (d.target - d.x0).natAbs * scale * 1000 / 65536
  let p := profileAt dist (d.v * 1000) (d.a * 1000) ((s.clk - d.t0) / 1000)
  let c : Int := if scale = 0 then 0 else (p.1 * 65536 / (1000 * scale) : Nat)
  if d.a = 0 ∨ d.v = 0 then (d.target, 0) else (if d.x0 ≤ d.target then d.x0 + c else d.x0 - c, p.2)

/-- The closing speed at which the kinetic energy is `joule` J, as FIX32 mm/s: √(2 E ÷ m) (R368). -/
def energySpeed (joule mass : Nat) : Int :=
  if mass = 0 then fixMax else fixSat (isqrt (2 * joule * 1000000 * 65536 * 65536 * 65536 / mass) : Nat)

/-- E_max of a closing state, J (R368). -/
def State.eMax (s : State) (k : Nat) : Option Nat :=
  if s.doorState k = 6 then some 10 else if s.doorState k = 7 then some 4 else none

/-- What the medium tick computes of a door before its loops run (R366 to R368). -/
def State.doorPre (s : State) (k : Nat) : State :=
  if !s.doorUp k then s
  else
    let d := s.door k
    let s := if d.iN = 0 then s else
      (s.set (Oid.DOOR_FORCE k) (ssub (smul (s.get (Oid.DOOR_KF k)) (fixSat (divRound (d.iSum * 65536) (d.iN * 2000)))) (s.get (Oid.DOOR_F_FRIC k)))).setDoor k
        { d with iSum := 0, iN := 0 }
    let s := if s.passed d.countAt (ms 100) then s.set (Oid.DOOR_SPEED k) 0 else s
    let v := s.get (Oid.DOOR_SPEED k)
    let s := s.set (Oid.DOOR_ENERGY k) (fixSat (divRound (s.get (Oid.DOOR_MASS k) * v * v) 20000000000))
    let p := s.doorProfileNow k
    let sg : Int := if s.doorOpening k then 1 else -1
    let ok := s.bit (Oid.DL_STATUS k) 0 && s.bit (Oid.DL_STATUS k) 1
    let fb (x : Int) : Option Int := if ok then some x else none
    let vp := fixSat (divRound ((p.2 : Int) * 65536) 1000)
    let vl := match s.eMax k with
      | some e => min vp (energySpeed e (s.nat (Oid.DOOR_MASS k)))
      | none => vp
    let put (s : State) (i : Nat) (sp : Int) (f : Option Int) : State :=
      if s.loopOn 1 (3 * k + i) then s.setLoop 1 (3 * k + i) { s.loopRt 1 (3 * k + i) with extSp := sp, extFb := f } else s
    let s := put s 0 (fixOfInt (sg * p.1)) (fb (fixOfInt (sg * s.get (Oid.DOOR_POS k))))
    let s := put s 1 vl (fb (fixSat (divRound (v.natAbs * 65536) 100)))
    put s 2 (s.get (Oid.DOOR_F_LIMIT k)) (fb (s.get (Oid.DOOR_FORCE k)))

/-- An obstruction is declared (R370). (DEDUCED, log entry 83.) -/
def State.obstructed (s : State) (k cause : Nat) : State :=
  let s := (s.count (Oid.DOOR_OBS_COUNT k) 32).eventOf 0x0A07 k cause (par (s.get (Oid.DOOR_POS k))) (par (s.get (Oid.DOOR_FORCE k)))
  let s := s.setDoor k { s.door k with obsTick := some (s.time / 100000) }
  if s.doorState k = 4 then
    let d := s.door k
    let s := s.setDoor k { d with stopAt := if d.retried then none else some s.clk }
    (s.doorProfile k (s.get (Oid.DOOR_POS k)) 0 0).doorEnter k 9
  else s.doorReopen k

/-- The obstruction test of one medium tick, between steps 5 and 6 (R370, R387). -/
def State.obstructTest (s : State) (k : Nat) : State :=
  let st := s.doorState k
  let pos := s.get (Oid.DOOR_POS k)
  let win := s.nat (Oid.DOOR_CLOSED_WIN k)
  let zone := if st = 4 then decide (win < (pos - s.doorWidth k).natAbs) else decide (win < pos.natAbs)
  if !(s.doorUp k && (st == 4 || st == 6 || st == 7) && zone) then s
  else
    let d := s.door k
    let p := s.doorProfileNow k
    let lag := if s.doorOpening k then p.1 - pos else pos - p.1
    let force := decide (s.get (Oid.DOOR_F_OBS k) ≤ s.get (Oid.DOOR_FORCE k))
    let fe := decide (st ≠ 7) && decide (s.get (Oid.DOOR_OBS_FE k) < lag)
    let fa := if force then some (d.forceAt.getD s.clk) else none
    let fe' := if fe then some (d.feAt.getD s.clk) else none
    let s := s.setDoor k { d with forceAt := fa, feAt := fe' }
    let due (o : Option Nat) (t : Nat) : Bool := o.any (fun x => s.passed x (ms t))
    if due fa (s.nat (Oid.DOOR_OBS_TIME k)) then s.obstructed k 0
    else if due fe' (s.nat (Oid.DOOR_OBS_FE_TIME k)) then s.obstructed k 1
    else s

/-- What the medium tick does with a door after its loops have run: the winning demand, the end of a motion, a second opening (R366,
R369, R370). -/
def State.doorPost (s : State) (k : Nat) : State :=
  if !s.doorUp k then s
  else
    let st := s.doorState k
    let m := s.get (Oid.DOOR_I_MAX k)
    let dem := if doorRuns st && st != 9 then clampInt (-m) m (divRound (s.get (Oid.CGRP_OUT (1 + k))) 65536) else 0
    let s := s.set (Oid.DOOR_I_DEM k) dem
    let d := s.door k
    if (st = 4 ∨ st = 8) ∧ (s.get (Oid.DOOR_POS k) - s.doorWidth k).natAbs ≤ s.nat (Oid.DOOR_CLOSED_WIN k) then
      (s.setDoor k { d with retried := false }).doorEnter k 5
    else if st = 9 ∧ d.stopAt.any (fun t => s.passed t (sec 1)) then s.doorStartOpen k true
    else s

/-! ### Line test (R372, R373) -/

/-- A line test may be asked for (R372). -/
def State.lineTestOk (s : State) (k : Nat) : Bool :=
  let n := k / 2
  let cs := s.nat (Oid.CAR_STATE n)
  s.doorState k == 3 && !s.moving n && s.bit (Oid.CAR_INPUTS n) 0 && s.bit (Oid.CAR_INPUTS n) 1 && (cs == 0 || cs == 1 || cs == 2)
    && !s.bit (Oid.DL_STATUS (2 * n)) 9 && !s.bit (Oid.DL_STATUS (2 * n + 1)) 9

/-- A line test starts: frames in MODE LOOPBACK, the PRBS from a value that the manual leaves open (R344, R373).
(DESIGN CHOICE, log entry 31.) -/
def State.lineTestStart (s : State) (k : Nat) : State :=
  let f := s.free
  let s := f.2.setBit (Oid.DL_STATUS k) 9 true
  s.setDoor k { s.door k with mode := 3, prbs := f.1.toNat % 8388607 + 1 }

/-- A line test ends, run or not run (R373). -/
def State.lineTestStop (s : State) (k : Nat) : State :=
  let s := (s.setBit (Oid.DL_STATUS k) 9 false).setDoor k { s.door k with mode := if s.doorState k = 3 then 1 else 2 }
  let s := s.endTest (4 + k)
  let d := s.door k
  if d.openAfter then (s.setDoor k { d with openAfter := false }).doorOpen k else s

/-- A line test that is ended before its frames are sent counts as not run: recorded with counts that the manual leaves open (R21, R373).
(DESIGN CHOICE, log entry 31.) -/
def State.lineTestCut (s : State) (k : Nat) : State :=
  if !s.bit (Oid.DL_STATUS k) 9 then s
  else
    let a := s.free
    let b := a.2.free
    let c := b.2.free
    (c.2.eventOf 0x0A0B k a.1.toNat b.1.toNat c.1.toNat).lineTestStop k

/-- A handover ends every line test (R373). -/
def State.lineTestsStop (s : State) : State := (List.range 24).foldl State.lineTestCut s

/-- DL_LINETEST_END: the result is stored and recorded (R373). -/
def State.lineTestEnd (s : State) (k : Nat) (r : LineTest) : State :=
  if !s.bit (Oid.DL_STATUS k) 9 then s
  else
    let s := s.setBlob (Oid.DL_LT_RESULT k) (leBytes 4 r.sent ++ leBytes 4 r.good ++ leBytes 4 r.dNs ++ leBytes 2 r.eq ++ [0, 0])
    (s.eventOf 0x0A0B k r.sent r.good r.dNs).lineTestStop k

/-- DL_LINETEST_END (R373). -/
def execDlLinetestEnd (k : Fin 24) (r : LineTest) (s : State) : Answer := .next (s.start.lineTestEnd k r)

/-! ### Host writes of this chapter -/

/-- The loop latency L of a channel, ns (R364). -/
def State.doorLat (s : State) (k : Nat) : Nat := 10 * s.nat (Oid.DOOR_CABLE_M k) + 3150

/-- DL_OVS_MA of a channel (R364). -/
def State.doorOvs (s : State) (k : Nat) : Nat :=
  let d := s.nat (Oid.DOOR_LPH_UH k) * 1000
  (s.nat (Oid.DOOR_VBUS_MV k) * s.doorLat k + d - 1) / d

/-- The ledger items of a channel: 3 fast and 3 medium slots (R360, R364). -/
def doorItems (k : Nat) : List Item :=
  (List.range 3).flatMap (fun i => [loopItem 0 (3 * k + i), loopItem 1 (3 * k + i)])

/-- DOOR_ENABLE: slots, then the overshoot (R364, R365). -/
def State.doorEnableCheck (s : State) (k : Nat) (v : Bool) : Option Refuse :=
  let st := s.doorState k
  if v == s.flag (Oid.DOOR_ENABLE k) then none
  else if v then
    andThen (s.admits (fun _ => false) (doorItems k)) (need (decide (s.doorOvs k ≤ s.nat (Oid.DOOR_OVS_LIMIT k))) .range)
  else need ((st == 3 || st == 1 || st == 10) && s.nat (Oid.CAR_STATE (k / 2)) == 0) .busy

/-- What a write of true to DOOR_ENABLE shows whether or not it is accepted; a refusal is recorded (R364). -/
def State.doorEnableNote (s : State) (k : Nat) : State :=
  let refused := (s.doorEnableCheck k true).isSome
  let s := (s.setN (Oid.DL_LAT_NS k) (s.doorLat k)).setN (Oid.DL_OVS_MA k) (s.doorOvs k)
  if refused then s.eventOf 0x0A09 k (s.doorOvs k) (s.nat (Oid.DOOR_OVS_LIMIT k)) else s

/-- A channel is admitted: its loops and their group are configured, and the handshake begins once its sub-unit is on (R366, R369, R378). -/
def State.doorAdmit (s : State) (k : Nat) : State :=
  let m := fixOfInt (s.get (Oid.DOOR_I_MAX k))
  let s := (s.setFlag (Oid.DOOR_ENABLE k) true).setBit Oid.DL_ON k (s.pd .dl)
  let s := (List.range 3).foldl (fun s i =>
    let j := 3 * k + i
    let s := ((((s.setN (Oid.LOOP_LAW j 1) 2).set (Oid.OUT_MIN j 1) (-m)).set (Oid.OUT_MAX j 1) m).set (Oid.MANUAL j 1) 0).set (Oid.TRIP_OUT j 1) 0
    (((s.enableLoop 1 j).setN (Oid.LOOP_LAW j 0) 3).enableLoop 0 j)) s
  let s := s.defineGroup (1 + k) ((List.range 3).flatMap (fun i => leBytes 4 (loopRef 1 (3 * k + i))))
  s.handshake k

/-- A channel is disabled (R365, R369). -/
def State.doorDisable (s : State) (k : Nat) : State :=
  let s := s.doorEnter k 0
  let s := s.removeGroup (1 + k)
  let s := (List.range 3).foldl (fun s i => (s.disableLoop 1 (3 * k + i)).disableLoop 0 (3 * k + i)) s
  (((s.setFlag (Oid.DOOR_ENABLE k) false).setBit Oid.DL_ON k false).setN (Oid.DL_STATUS k) 0).setDoor k {}

/-- DOOR_ENABLE takes effect. -/
def State.doorEnableApply (s : State) (k : Nat) (v : Bool) : State :=
  if v == s.flag (Oid.DOOR_ENABLE k) then s else if v then s.doorAdmit k else s.doorDisable k

/-- DL_ACK clears the fault bits whose cause is absent; from FAULT the door goes to HANDSHAKE (R369, R374). -/
def State.dlAck (s : State) (k : Nat) : State :=
  let s := if (s.door k).flt then s.setDoor k { s.door k with cmd := some (1, 0) } else s.setBit (Oid.DL_STATUS k) 8 false
  let s := if (s.door k).off = 0 then s.setBit (Oid.DL_STATUS k) 7 false else s
  let s := if (s.door k).hs ≠ 0 ∨ s.bit (Oid.DL_STATUS k) 0 then s.setBit (Oid.DL_STATUS k) 6 false else s
  let s := if s.vbusHigh k then s else s.setBit (Oid.DL_STATUS k) 2 false
  if s.doorState k = 10 ∧ !s.bit (Oid.DL_STATUS k) 8 ∧ !s.bit (Oid.DL_STATUS k) 7 then s.handshake k else s

/-- Twice the kinetic energy of a mass (raw FIX32 kg) at a speed in mm/s stays within `joule` J (R368). -/
def energyOk (mass v joule : Nat) : Bool := decide (mass * v * v ≤ 2 * joule * 1000000 * 65536)

/-- The checks of this chapter on a write of a channel's parameter; the index is that of the table Door objects (R365, R366, R368,
R370). -/
def State.doorParamCheck (s : State) (k n : Nat) (v : Int) : Option Refuse :=
  let st := s.doorState k
  let x := v.toNat
  firstOf [need (!decide (0x101 ≤ n ∧ n ≤ 0x108) || !s.flag (Oid.DOOR_ENABLE k)) .busy,
    need (!decide (0x109 ≤ n ∧ n ≤ 0x11B) || !doorRuns st) .loopClosed,
    need (decide (n ≠ 0x111) || energyOk (s.nat (Oid.DOOR_MASS k)) x 10) .range,
    need (decide (n ≠ 0x112) || energyOk (s.nat (Oid.DOOR_MASS k)) x 4) .range,
    need (decide (n ≠ 0x10B) || (energyOk x (s.nat (Oid.DOOR_V_CLOSE k)) 10 && energyOk x (s.nat (Oid.DOOR_V_NUDGE k)) 4)) .range,
    need (decide (n ≠ 0x117) || decide (v < s.get (Oid.DOOR_F_LIMIT k))) .range,
    need (decide (n ≠ 0x116) || decide (s.get (Oid.DOOR_F_OBS k) < v)) .range]

/-- DL_RETRAIN is refused unless the door is LOCKED or in FAULT (R374). -/
def State.retrainCheck (s : State) (k : Nat) : Option Refuse := need (s.doorState k == 3 || s.doorState k == 10) .busy

/-- The door link of a channel is reset: nothing of its link or its references stands (R127, R136). -/
def State.doorReset (s : State) (k : Nat) : State :=
  let on := s.flag (Oid.DOOR_ENABLE k)
  let s := s.setDoor k {}
  let s := ((s.setN (Oid.DL_STATUS k) 0).set (Oid.DOOR_POS k) 0).set (Oid.DOOR_SPEED k) 0
  s.doorEnter k (if on then 1 else 0)

end Sys2Proof.Machine
end

