-- ==== Sys2Proof/Machine/Metering.lean ====
section
/-! DEFINITION. The metering front end: validity, windows, corrections, island checks, calibration on the shadow (chapter 13). -/

namespace Sys2Proof.Machine

/-! ### Channels (R453, R468) -/

/-- A current channel beyond its objects. -/
def State.metCh (s : State) (c : Nat) : MetCh := Tbl.get {} s.met.ch c

/-- That changed. -/
def State.setMetCh (s : State) (c : Nat) (x : MetCh) : State := { s with met := { s.met with ch := s.met.ch.put {} c x } }

/-- A voltage channel beyond its objects. -/
def State.metV (s : State) (v : Nat) : MetV := Tbl.get {} s.met.vch v

/-- That changed. -/
def State.setMetV (s : State) (v : Nat) (x : MetV) : State := { s with met := { s.met with vch := s.met.vch.put {} v x } }

/-- An island's shadow and its calibration. -/
def State.island (s : State) (i : Nat) : Island := Tbl.get {} s.met.islands i

/-- That changed. -/
def State.setIsland (s : State) (i : Nat) (x : Island) : State := { s with met := { s.met with islands := s.met.islands.put {} i x } }

/-- CH_SENSOR in effect (R458). -/
def MetCh.sensor (x : MetCh) : Int := x.eff.getD 0 0

/-- CH_VREF in effect (R458). -/
def MetCh.vref (x : MetCh) : Nat := (x.eff.getD 1 0).toNat

/-- CH_IN in effect, mA (R458). -/
def MetCh.inMa (x : MetCh) : Nat := (x.eff.getD 3 0).toNat

/-- An island is powered, checked and out of reset (ISLAND_OK, R482). -/
def State.islandOk (s : State) (i : Nat) : Bool :=
  s.runs (.island i) && s.bit Oid.MI_ON i && s.nat (Oid.MI_STATE i) == 2

/-- ISLAND_OK of a current channel; a bitstream channel has no island and needs the metering engine alone (R453, R468). -/
def State.sourceOk (s : State) (c : Nat) : Bool := if c < 48 then s.islandOk (c / 12) else s.up .met

/-- A voltage channel is VALID (R468). -/
def State.vValid (s : State) (v : Nat) : Bool :=
  let x := s.metV v
  x.eff.getD 0 0 != 0 && s.islandOk (v / 4) && !x.adcBad && x.overFor == 0

/-- The PLL is locked (R460). (DEDUCED, log entry 87.) -/
def State.pllLocked (s : State) : Bool := s.nat Oid.MET_PLL_STATE == 2

/-- A current channel is VALID (R468). -/
def State.chValid (s : State) (c : Nat) : Bool :=
  let x := s.metCh c
  x.sensor != 0 && s.sourceOk c && !x.adcBad && !s.bit (Oid.CH_STATUS c) 4 && x.overFor == 0 && s.vValid x.vref

/-- VCH_STATUS shows the channel as it is now (R483). -/
def State.showVoltage (s : State) (v : Nat) : State :=
  s.setN (Oid.VCH_STATUS v) (withBit (withBit (withBit (s.nat (Oid.VCH_STATUS v)) 0 (s.vValid v)) 1 (s.islandOk (v / 4))) 2
    (decide (0 < (s.metV v).overFor)))

/-- The quantities of a voltage channel read 0.0 (R481). -/
def State.zeroVoltage (s : State) (v : Nat) : State := ((s.setN (Oid.VCH_RMS v) 0).setN (Oid.VCH_V1 v) 0).setN (Oid.VCH_THD v) 0

/-- The trip of the car that a channel meters does not contribute: the channel is not VALID (R23). -/
def State.spoilTrip (s : State) (c : Nat) : State :=
  match s.met.trips.find (s.nat (Oid.CH_CAR c)) with
  | none => s
  | some t => { s with met := { s.met with trips := s.met.trips.ins (s.nat (Oid.CH_CAR c)) { t with good := false } } }

/-- A current channel's status follows its causes; VREF_INVALID is recorded when it is set (R468, R469, R482). -/
def State.showCurrent (s : State) (c : Nat) : State :=
  let x := s.metCh c
  let bad := !s.vValid x.vref
  let s := if bad && !s.bit (Oid.CH_STATUS c) 3 then s.eventOf 0x0D07 c x.vref else s
  let s := s.setN (Oid.CH_STATUS c) (withBit (withBit (withBit (withBit (withBit (s.nat (Oid.CH_STATUS c)) 3 bad) 0 (s.chValid c)) 1
    (s.sourceOk c)) 5 (decide (0 < x.overFor))) 6 s.pllLocked)
  if s.chValid c then s
  else
    let s := (s.setMetCh c { x with flags := withBit x.flags 0 true }).spoilTrip c
    [Oid.CH_IRMS c, Oid.CH_I1 c, Oid.CH_P c, Oid.CH_P1 c, Oid.CH_Q1 c, Oid.CH_S c, Oid.CH_THD c].foldl (fun s k => s.setN k 0) s

/-- The pulse outputs whose source is not VALID show it (PO_STATUS bit 2, R512). -/
def State.showPulse (s : State) (x : Nat) : State :=
  let src := s.nat (Oid.PO_SRC x)
  s.setBit (Oid.PO_STATUS x) 2 (decide (src ≠ 0xFFFF) && !s.chValid (src / 256))

/-- Every channel's status follows its causes, and the quantities of one that is not VALID read 0.0 (R468, R481). -/
def State.showMetering (s : State) : State :=
  let s := (List.range 16).foldl State.showVoltage (((List.range 16).filter (fun v => !s.vValid v)).foldl State.zeroVoltage s)
  let s := (List.range 64).foldl State.showCurrent s
  (List.range 20).foldl State.showPulse s

/-! ### Correction (R463, R464) -/

/-- The breakpoints of CH_CORR: current in mA, gain and phase (FIX32) (R463). -/
def corrPoints : Nat → List Byte → List (Nat × Int × Int)
  | 0, _ => []
  | n + 1, b =>
    if b.length < 12 then []
    else (leNat (b.take 4), signed 32 (leNat ((b.drop 4).take 4)), signed 32 (leNat ((b.drop 8).take 4))) :: corrPoints n (b.drop 12)

/-- A list of breakpoints keeps R463. -/
def corrOk (b : List Byte) : Bool :=
  let l := corrPoints 8 b
  b.length % 12 == 0 && decide (b.length ≤ 96) && decide ((l.map (·.1)).Pairwise (· < ·))
    && l.all (fun p => decide (58983 ≤ p.2.1 ∧ p.2.1 ≤ 72089 ∧ -3276800 ≤ p.2.2 ∧ p.2.2 ≤ 3276800))

/-- Linear interpolation between two values over a span. -/
def lerp (a b : Int) (num den : Nat) : Int := a + divRound ((b - a) * num) den

/-- Gain and phase chosen for a current (R464). -/
def segment (l : List (Nat × Int × Int)) (ma : Nat) : Int × Int :=
  match l with
  | [] => (65536, 0)
  | p :: t =>
    if ma ≤ p.1 then p.2
    else
      match t with
      | [] => p.2
      | q :: _ =>
        if ma < q.1 then (lerp p.2.1 q.2.1 (ma - p.1) (q.1 - p.1), lerp p.2.2 q.2.2 (ma - p.1) (q.1 - p.1)) else segment t ma

/-- The correction of a channel for the next window (R464). -/
def State.chooseSegment (s : State) (c ma : Nat) : State :=
  let x := segment (corrPoints 8 (s.blob (Oid.CH_CORR c))) ma
  (s.set (Oid.CH_SEG_GAIN c) x.1).set (Oid.CH_SEG_PHASE c) x.2

/-! ### Windows (R458 to R461, R469) -/

/-- A configuration written before takes effect at the window, each changed object recorded (R458). -/
def State.takeConfig (s : State) (c : Nat) : State :=
  let x := s.metCh c
  let now := [s.get (Oid.CH_SENSOR c), s.get (Oid.CH_VREF c), s.get (Oid.CH_SCALE c), s.get (Oid.CH_IN c), s.get (Oid.CH_BS_DELAY c)]
  let subs := ([0, 1, 2, 3, 7].zip (x.eff.zip now)).filter (fun e => e.2.1 != e.2.2)
  subs.foldl (fun s e => s.eventOf 0x0D09 c e.1) (s.setMetCh c { x with eff := now })

/-- The same of a voltage channel (R458). -/
def State.takeVConfig (s : State) (v : Nat) : State :=
  let x := s.metV v
  let now := [s.get (Oid.VCH_ENABLE v), s.get (Oid.VCH_SCALE v)]
  let subs := ([0, 1].zip (x.eff.zip now)).filter (fun e => e.2.1 != e.2.2)
  subs.foldl (fun s e => s.eventOf 0x0D09 (0x100 + v) e.1) (s.setMetV v { x with eff := now })

/-- One window less of OVERRANGE on every channel (R469). -/
def State.ageOver (s : State) : State :=
  let ch := s.met.ch.foldl (fun (t : Tbl MetCh) e => if e.2.overFor = 0 then t else t.put {} e.1 { e.2 with overFor := e.2.overFor - 1 }) s.met.ch
  let vch := s.met.vch.foldl (fun (t : Tbl MetV) e => if e.2.overFor = 0 then t else t.put {} e.1 { e.2 with overFor := e.2.overFor - 1 }) s.met.vch
  { s with met := { s.met with ch := ch, vch := vch } }

/-- A sample at the clip level: OVERRANGE for the rest of its window and the next one, recorded at the start of a run (R469). -/
def State.overrange (s : State) (c : Nat) (peak : BitVec 32) : State :=
  let x := s.metCh c
  let s := if x.overFor = 0 then s.eventOf 0x0D05 c peak.toNat else s
  (s.setMetCh c { x with overFor := 2, flags := withBit x.flags 6 true }).setBit (Oid.CH_STATUS c) 5 true

/-- The quantities of a current channel are published (R461, R481). (DESIGN CHOICE, log entry 85.) -/
def State.publish (s : State) (w : CurWin) : State :=
  let c := w.ch.val
  let s := s.chooseSegment c w.rawMa
  if !s.chValid c then s
  else
    ((((((s.setN (Oid.CH_IRMS c) w.irms.toNat).setN (Oid.CH_I1 c) w.i1.toNat).setN (Oid.CH_P c) w.p.toNat).setN (Oid.CH_P1 c)
      w.p1.toNat).setN (Oid.CH_Q1 c) w.q1.toNat).setN (Oid.CH_S c) w.s.toNat).setN (Oid.CH_THD c) w.thd.toNat

/-- 40 V as REAL32. -/
def volts40 : Nat := 0x42200000

/-- A window of a voltage channel in which its ADC clipped: OVERRANGE until the end of the next window, recorded at the start of a run (R469). -/
def State.overrangeV (s : State) (w : VolWin) : State :=
  let v := w.ch.val
  let x := s.metV v
  if w.clip then (if x.overFor = 0 then s.eventOf 0x0D05 (0x100 + v) w.peak.toNat else s).setMetV v { x with overFor := 2 } else s

/-- The quantities of a voltage channel are published (R461, R481, R483). -/
def State.publishV (s : State) (w : VolWin) : State :=
  let v := w.ch.val
  let z : BitVec 32 → Nat := fun y => if s.vValid v then y.toNat else 0
  (((s.setN (Oid.VCH_RMS v) (z w.rms)).setN (Oid.VCH_V1 v) (z w.v1)).setN (Oid.VCH_THD v) (z w.thd)).setBit (Oid.VCH_STATUS v) 3
    (realLt w.rms.toNat volts40)

/-- The channel that the PLL tracks: the first listed one that is VALID and carries at least 40 V (R460). -/
def State.pllChannel (s : State) : Option Nat :=
  ((s.blob Oid.MET_PLL_SRC).map (·.toNat)).find? (fun v => decide (v < 16) && s.vValid v && !s.bit (Oid.VCH_STATUS v) 3)

/-- The PLL at the end of a window; a change of state or channel is recorded (R460). (DEDUCED, log entry 87.) -/
def State.pll (s : State) (w : WindowIn) : State :=
  let ch := if 45000 ≤ w.milliHz ∧ w.milliHz ≤ 66000 then s.pllChannel else none
  let n := if ch.isSome then s.met.acquiring + 1 else 0
  let st := if ch.isNone then 0 else if w.locked ∨ 5 ≤ n then 2 else 1
  let v := ch.getD 0xFF
  let changed := st != s.nat Oid.MET_PLL_STATE || v != s.nat Oid.MET_PLL_CH
  let s := ((s.setN Oid.MET_PLL_STATE st).setN Oid.MET_PLL_CH v).setN Oid.MET_FREQ (if st = 0 then 0 else realOf w.milliHz 1000)
  let s := { s with met := { s.met with acquiring := n } }
  if changed then s.event 0x0D08 st v (if st = 0 then 0 else w.milliHz) else s

/-- An aborted calibration leaves the shadow free at the window boundary (R475). -/
def State.freeShadow (s : State) (i : Nat) : State :=
  let x := s.island i
  if x.aborted then (s.setN (Oid.MI_SHADOW i) 0xFF).setIsland i { x with aborted := false } else s

/-- METER_WINDOW_END (R458, R460, R461, R464, R469, R475). (DESIGN CHOICE, log entry 85.) -/
def State.meterWindow (s : State) (w : WindowIn) : State :=
  if !s.up .met then s
  else
    let s := w.vol.foldl State.overrangeV s
    let s := s.ageOver
    let s := w.vol.foldl State.publishV s
    let s := w.cur.foldl State.publish s
    let s := (List.range 16).foldl State.takeVConfig s
    let s := (List.range 64).foldl State.takeConfig s
    let s := s.pll w
    ((List.range 4).foldl State.freeShadow s).showMetering

/-! ### Bitstream clocks (R456) -/

/-- SENSOR_FAULT of a channel; recorded when it is set (R456, R484). -/
def State.sensorFault (s : State) (c : Nat) (cause : Option Nat) (mHz : Nat) : State :=
  match cause with
  | some x => (if s.bit (Oid.CH_STATUS c) 4 then s else (s.setBit (Oid.CH_STATUS c) 4 true).eventOf 0x0D06 c x mHz).showCurrent c
  | none => (s.setBit (Oid.CH_STATUS c) 4 false).showCurrent c

/-- BSG_CHECK (R456). -/
def State.bsgCheck (s : State) (k mHz : Nat) (absent stuck : Bool) : State :=
  if !s.up .met then s
  else
    let near : Bool := decide (4095180800 ≤ mHz ∧ mHz ≤ 4096819200)
    let cause := if absent then some 0 else if !near then some 1 else if stuck then some 2 else none
    let s := (s.setN (Oid.BSG_FREQ k) (if absent then 0 else mHz)).setN (Oid.BSG_STATE k) (if absent then 0 else if near then 2 else 1)
    (List.range 4).foldl (fun s j => s.sensorFault (48 + 4 * k + j) cause mHz) s

/-- BSG_CHECK (R456). -/
def execBsgCheck (k : Fin 4) (milliHz : Nat) (absent stuck : Bool) (s : State) : Answer :=
  .next (s.start.bsgCheck k milliHz absent stuck)

/-! ### Islands (R472 to R478) -/

/-- The channel numbers that MI_CAL_QUEUE lists (R481). -/
def State.calQueue (s : State) (i : Nat) : List Nat := (s.blob (Oid.MI_CAL_QUEUE i)).map (·.toNat)

/-- That changed, and CAL_QUEUED of each channel with it (R481, R482). -/
def State.setCalQueue (s : State) (i : Nat) (l : List Nat) : State :=
  (List.range 12).foldl (fun s k => s.setBit (Oid.CH_STATUS (12 * i + k)) 8 (l.contains k))
    (s.setBlob (Oid.MI_CAL_QUEUE i) (l.map (fun k => BitVec.ofNat 8 k)))

/-- The channel whose ADC the shadow has replaced (MI_SHADOW bit 7, R481). -/
def State.heldBy (s : State) (i : Nat) : Option Nat :=
  let v := s.nat (Oid.MI_SHADOW i)
  if v ≠ 0xFF ∧ v.testBit 7 then some (v % 16) else none

/-- The shadow stays in a channel's place (R472, R476). -/
def State.holdShadow (s : State) (i k : Nat) : State :=
  (s.setN (Oid.MI_SHADOW i) (0x80 + k)).setBit (Oid.CH_STATUS (12 * i + k)) 10 true

/-- A queued calibration of a channel, if it is not queued or running already and the shadow is not held for another (R474, R477). -/
def State.queueCal (s : State) (i k : Nat) : State :=
  let busy := (s.calQueue i).contains k || (s.island i).cal == some k || ((s.heldBy i).isSome && s.heldBy i != some k)
  if busy then s else s.setCalQueue i (s.calQueue i ++ [k])

/-- An ADC passes its power-up check (R472). -/
def adcOk (a : AdcCheck) : Bool := decide (mag a.offset ≤ 1000) && decide (mag a.gain ≤ 2000)

/-- The power-up check's result for current channel k of an island (R472). -/
def State.adcResult (i : Nat) (shadowOk : Bool) (s : State) (e : Nat × AdcCheck) : State :=
  let k := e.1
  let c := 12 * i + k
  let x := s.metCh c
  if adcOk e.2 then (s.setMetCh c { x with adcBad := false }).setBit (Oid.CH_STATUS c) 2 false
  else
    let s := s.eventOf 0x0D04 c 0 (par e.2.gain) (par e.2.phase)
    if shadowOk && (s.heldBy i).isNone then ((s.setMetCh c { x with adcBad := false }).setBit (Oid.CH_STATUS c) 2 false).holdShadow i k
    else (s.setMetCh c { x with adcBad := true }).setBit (Oid.CH_STATUS c) 2 true

/-- The power-up check's result for voltage ADC j of an island (R472). -/
def State.vAdcResult (i : Nat) (s : State) (e : Nat × AdcCheck) : State :=
  let v := 4 * i + e.1
  let x := s.metV v
  if adcOk e.2 then s.setMetV v { x with adcBad := false }
  else (s.setMetV v { x with adcBad := true }).eventOf 0x0D04 (0x100 + v) 0 (par e.2.gain) (par e.2.phase)

/-- The power-up check of an island: voltage ADCs 0 to 3, current ADCs 0 to 11 and the shadow, in that order (R472). -/
def State.islandCheck (s : State) (i : Nat) (r : List AdcCheck) : State :=
  if !(s.runs (.island i) && s.bit Oid.MI_ON i && s.nat (Oid.MI_STATE i) == 1) ∨ r.length ≠ 17 then s
  else
    let sh := r.getD 16 ⟨0, 0, 0⟩
    let s := ((List.range 4).zip (r.take 4)).foldl (State.vAdcResult i) s
    let s := ((List.range 12).zip ((r.drop 4).take 12)).foldl (State.adcResult i (adcOk sh)) s
    let s := if (adcOk sh) then s else s.eventOf 0x0D04 (0x200 + i) 0 (par sh.gain) (par sh.phase)
    (s.setN (Oid.MI_STATE i) 2).showMetering

/-- ISLAND_CHECK (R472). -/
def execIslandCheck (i : Fin 4) (r : List AdcCheck) (s : State) : Answer := .next (s.start.islandCheck i r)

/-- An island is powered or released from its reset: the power-up check follows (R472, R479). -/
def State.islandStart (s : State) (i : Nat) : State := s.setN (Oid.MI_STATE i) 1

/-- A calibration ends without its commit (R475, R479). -/
def State.calStop (s : State) (i result : Nat) : State :=
  let x := s.island i
  match x.cal with
  | none => s.setIsland i { x with due := false }
  | some k =>
    let s := (s.setBit (Oid.CH_STATUS (12 * i + k)) 9 false).setN (Oid.MI_CAL_RESULT i) result
    (s.setIsland i { x with cal := none, step := 0, due := false }).endTest i

/-- An island goes into reset or off: a hold ends, its calibration ends with result 4, its channels are not VALID
(R127, R476, R479). -/
def State.islandStop (s : State) (i st : Nat) : State :=
  let s := if (s.island i).due then s.endTest i else s
  let s := (s.calStop i 4).setN (Oid.MI_SHADOW i) 0xFF
  let s := (List.range 12).foldl (fun s k => s.setBit (Oid.CH_STATUS (12 * i + k)) 10 false) s
  let s := { s with met := { s.met with chains := s.met.chains.filter (fun x => decide (x.1 / 12 ≠ i)) } }
  ((s.setIsland i { s.island i with aborted := false }).setN (Oid.MI_STATE i) st).showMetering

/-- MI_CAL_REQ is refused (R474). -/
def State.calReqCheck (s : State) (i k : Nat) : Option Refuse :=
  firstOf [need (decide (k < 12)) .range,
    need (!((s.calQueue i).contains k || (s.island i).cal == some k)) .busy,
    need (decide (s.nat (Oid.MI_STATE i) ≠ 3)) .busy,
    need ((s.heldBy i).isNone || s.heldBy i == some k) .busy]

/-- MI_CAL_REQ takes effect: the request is queued in order of arrival (R474). -/
def State.calReq (s : State) (i k : Nat) : State :=
  let x := s.island i
  (s.setIsland i { x with last := if x.last = some k then none else x.last }).setCalQueue i (s.calQueue i ++ [k])

/-- MI_CAL_ABORT is refused: TOO_LATE at or after step 6, NO_OBJECT where no request for the channel stands (R475).
(DEDUCED, log entry 89.) -/
def State.calAbortCheck (s : State) (i k : Nat) : Option Refuse :=
  if (s.calQueue i).contains k ∨ (s.island i).cal = some k then none
  else if (s.island i).last = some k then refuse .tooLate
  else refuse .noObject

/-- MI_CAL_ABORT takes effect: a queued request is removed, a running one stopped (R475). -/
def State.calAbort (s : State) (i k : Nat) : State :=
  let x := s.island i
  if (s.calQueue i).contains k then
    let head := (s.calQueue i).head? == some k && x.due
    let s := s.setCalQueue i ((s.calQueue i).filter (· != k))
    if head then (s.setIsland i { s.island i with due := false }).endTest i else s
  else if x.cal = some k then
    let held := (s.heldBy i).isSome
    let s := (s.eventOf 0x0D02 (12 * i + k) x.step).calStop i 3
    if held then s else s.setIsland i { s.island i with aborted := true }
  else s

/-- Step 6: the commit, or the shadow held (R473, R476). -/
def State.calCommit (s : State) (i k : Nat) (m : CalMeas) : State :=
  let x := s.island i
  let c := 12 * i + k
  let s := (s.setBit (Oid.CH_STATUS c) 9 false).endTest i
  let x := { x with cal := none, step := 0, due := false }
  if mag m.dg ≤ 100 ∧ mag m.dp ≤ 100 then
    let dg := divRound ((x.gain - s.get (Oid.CH_ADC_GAIN c)) * 1000000) 65536
    let dp := divRound ((x.phase - s.get (Oid.CH_ADC_PHASE c)) * 1000) 65536
    let s := ((s.set (Oid.CH_ADC_GAIN c) x.gain).set (Oid.CH_ADC_PHASE c) x.phase).setN (Oid.CH_CAL_TIME c) s.time
    let s := ((s.setBit (Oid.CH_STATUS c) 10 false).setBit (Oid.CH_STATUS c) 2 false).setN (Oid.MI_SHADOW i) 0xFF
    ((s.setN (Oid.MI_CAL_RESULT i) 1).setIsland i { x with last := some k }).eventOf 0x0D01 c (par dg) (par dp)
  else (((s.holdShadow i k).setN (Oid.MI_CAL_RESULT i) 2).setIsland i x).eventOf 0x0D03 c (par m.dg) (par m.dp)

/-- Step 1: the shadow goes onto the channel's input, or, of the held channel, the sequence starts at step 3 (R473, R476). -/
def State.calBegin (s : State) (i k : Nat) : State :=
  let x := s.island i
  let held := s.heldBy i == some k
  let s := s.setCalQueue i ((s.calQueue i).filter (· != k))
  let s := if held then s.setBit (Oid.CH_STATUS (12 * i + k)) 9 true else s.setN (Oid.MI_SHADOW i) k
  s.setIsland i
    { x with due := false, cal := some k, step := if held then 3 else 1, endAt := s.clk + ms (if held then 1000 else 1200), last := none }

/-- A MI_CAL_ABORT for channel k was accepted before step 6 and waits for its own commit: the calibration is stopped, not
committed (R32, R33, R475). -/
def State.calAbortWaits (s : State) (i k : Nat) : Bool :=
  (s.acc.waits ++ s.acc.held).any
    (fun r => r.entries.any (fun e => e.oid == (Oid.MI_CAL_ABORT i).oid && leNat e.data == k))

/-- CAL_STEP: the next step of the table Calibration, at its time (R473); step 6 does not commit while an abort accepted
before it waits (R33). -/
def State.calStep (s : State) (i : Nat) (m : CalMeas) : State :=
  if !s.islandOk i then s
  else
    let x := s.island i
    match x.cal with
    | none =>
      match s.calQueue i with
      | k :: _ => if x.due && !x.aborted then s.calBegin i k else s
      | [] => s
    | some k =>
      if x.step = 1 then
        ((s.reach (x.endAt - ms 1000)).setBit (Oid.CH_STATUS (12 * i + k)) 9 true).setIsland i { x with step := 3 }
      else if x.step = 3 then (s.reach (x.endAt - ms 800)).setIsland i { x with step := 4 }
      else if x.step = 4 then (s.reach (x.endAt - ms 200)).setIsland i { x with step := 5, gain := m.gain, phase := m.phase }
      else if s.calAbortWaits i k then s
      else ((s.reach x.endAt).calCommit i k m).showMetering

/-- CAL_STEP (R473). -/
def execCalStep (i : Fin 4) (m : CalMeas) (s : State) : Answer := .next (s.start.calStep i m)

/-- ROTATION_CHECK: a channel compared with the free shadow over one window (R477). -/
def State.shadowRotation (s : State) (i k : Nat) (dg dp : Int) : State :=
  let x := s.island i
  let c := 12 * i + k
  if !(s.flag Oid.MET_CHECK_ENABLE && s.islandOk i && s.nat (Oid.MI_SHADOW i) == 0xFF && x.cal.isNone && s.calQueue i == []
      && (s.metCh c).sensor != 0) then s
  else if mag dg ≤ 500 ∧ mag dp ≤ 500 then s
  else ((s.setBit (Oid.CH_STATUS c) 2 true).eventOf 0x0D04 c 1 (par dg) (par dp)).queueCal i k

/-- ROTATION_CHECK (R477). -/
def execRotationCheck (i : Fin 4) (k : Fin 12) (dg dp : Int) (s : State) : Answer := .next (s.start.shadowRotation i k dg dp)

/-- CAL_INTERVAL: once per MET_CAL_INTERVAL a calibration of each configured channel is queued (R478). -/
def State.calInterval (s : State) (i : Nat) : State :=
  let h := s.nat Oid.MET_CAL_INTERVAL
  let x := s.island i
  if h = 0 ∨ !s.islandOk i then s
  else
    let s := s.reach (x.calAt + sec (3600 * h))
    ((List.range 12).filter (fun k => s.get (Oid.CH_SENSOR (12 * i + k)) != 0)).foldl (fun s k => s.queueCal i k)
      (s.setIsland i { x with calAt := s.clk })

/-- CAL_INTERVAL (R478). -/
def execCalInterval (i : Fin 4) (s : State) : Answer := .next (s.start.calInterval i)

/-! ### Host writes of this chapter -/

/-- CH_SENSOR is refused (R457). -/
def sensorCheck (c : Nat) (v : Int) : Option Refuse :=
  need (v == 0 || (decide (c < 48) && (v == 1 || v == 2)) || (decide (48 ≤ c) && v == 3)) .range

/-- CH_VREF is refused: it must name an enabled voltage channel (R458). -/
def State.vrefCheck (s : State) (v : Int) : Option Refuse :=
  need (decide (0 ≤ v ∧ v < 16) && s.flag (Oid.VCH_ENABLE v.toNat)) .range

/-- CH_CAR is refused: RANGE, or BUSY while another channel names the car (R481, R508). -/
def State.chCarCheck (s : State) (c : Nat) (v : Int) : Option Refuse :=
  andThen (need (v == 0xFF || decide (0 ≤ v ∧ v < 12)) .range)
    (need (v == 0xFF || (List.range 64).all (fun d => d == c || s.get (Oid.CH_CAR d) != v)) .busy)

/-- CH_CAR takes effect: CM_CHANNEL of both cars follows (R508, R512). -/
def State.chCarApply (s : State) (c : Nat) (v : Int) : State :=
  let s := s.set (Oid.CH_CAR c) v
  (List.range 12).foldl (fun s n =>
    s.setN (Oid.CM_CHANNEL n) (((List.range 64).find? (fun d => s.get (Oid.CH_CAR d) == (n : Int))).getD 0xFF)) s

/-- MET_PLL_SRC is refused: one to four voltage channel numbers, or none (R460, R481). -/
def pllSrcCheck (b : List Byte) : Option Refuse := need (decide (b.length ≤ 4) && b.all (fun x => decide (x.toNat < 16))) .range

end Sys2Proof.Machine
end

