-- ==== Sys2Proof/Machine/Signal.lean ====
section
/-! DEFINITION. The signal chain of the metering engine: from a modulator's bitstream to the corrected sample and the quantities formed from it
(R454 to R457, R459, R461, R464, R465). Arithmetic is exact on integers, rounded where a stage ends; what the manual leaves to the
integrated circuit (filter coefficients, the code at the clip level, the interpolation of a fractional shift) is free. -/

namespace Sys2Proof.Machine

/-! ### Stages 2 and 3: decimation -/

/-- The weight of the bit `k` bit times back in a sinc3 decimation by 64: the cube of a boxcar of 64 (R454). -/
def sincWeight (k : Nat) : Int :=
  let c (n : Nat) : Int := if k < n then 0 else ((k - n + 2) * (k - n + 1) / 2 : Nat)
  c 0 - 3 * c 64 + 3 * c 128 - c 192

/-- A weighted sum of a history, newest first. -/
def weigh (w : Nat → Int) : Nat → List Int → Int
  | _, [] => 0
  | k, x :: t => w k * x + weigh w (k + 1) t

/-- One 64 kHz sample: sinc3 decimation by 64 of a bitstream, newest bit first, a bit standing for +1 or −1 (R454). -/
def sinc3 (bits : List Bool) : Int := weigh sincWeight 0 (bits.map (fun b => if b then 1 else -1))

/-- A value kept to 24 bits (R454). -/
def clip24 (v : Int) : Int := max (-8388608) (min 8388607 v)

/-- One 8 kHz sample: FIR decimation by 8, in 24 bits (R454). (DESIGN CHOICE, log entry 148.) -/
def firOut (l : List Int) : Int := clip24 (divRound (weigh Config.firTap 0 l) 65536)

/-- 64 bits more at the 4.096 MHz of the modulator, oldest first, and the 64 kHz sample that they complete (R454). -/
def Leg.take64 (l : Leg) (b : List Bool) : Leg :=
  let bits := (b.reverse ++ l.bits).take 192
  { l with bits := bits, dec := (sinc3 bits :: l.dec).take Config.firTaps }

/-- The bits of `n` times 64 bit times. -/
def Leg.takeBits : Nat → Leg → List Bool → Leg
  | 0, l, _ => l
  | n + 1, l, b => takeBits n (l.take64 (b.take 64)) (b.drop 64)

/-- The 512 bits of one 8 kHz sample pass stages 2 and 3 (R454). -/
def Leg.decimate (l : Leg) (b : List Bool) : Leg :=
  let l := Leg.takeBits 8 l b
  { l with codes := (firOut l.dec :: l.codes).take 5 }

/-! ### Stages 4 and 5: ADC calibration, DC removal, the coil's integrator -/

/-- The value of FIX32 gain `g` times `v`. -/
def gained (g v : Int) : Int := divRound (g * v) 65536

/-- Stage 4: first-order high-pass with its corner at 0.5 Hz; values carry 16 fractional bits (R454). (DESIGN CHOICE, log entry 148.) -/
def Leg.highPass (l : Leg) (x : Int) : Leg :=
  let x := x * 65536
  { l with dc := x, ac := divRound (Config.highPass * (l.ac + x - l.dc)) 4294967296, acWas := l.ac }

/-- Stage 5, of a coil: the trapezoidal integrator with its leak at 0.3 Hz, normalised to gain 1 at MET_FNOM (R459). (DESIGN CHOICE, log entry 148.) -/
def Leg.integrate (l : Leg) (fnom : Nat) : Leg :=
  { l with coil := divRound (Config.coilLeak * l.coil) 4294967296 + divRound (Config.coilGain fnom * (l.ac + l.acWas)) 8589934592 }

/-- Of a coil, the gain and phase error of the leak at the tracked fundamental is removed (R459). (DESIGN CHOICE, log entry 148.) -/
def leakRemoved (locked : Bool) (mHz : Nat) (h : List Int) : Int :=
  if locked then gained (Config.leakFix mHz).1 (Config.shift mHz (Config.leakFix mHz).2 h) else h.headD 0

/-! ### Stages 6 and 7: primary units, correction -/

/-- Millionths of the contact's unit and the 24-bit code that reads them: ±4.0 A of a CT, ±1.0 V of a coil, x = 1 of a shunt, ±480 V of a voltage
channel (R457). (DESIGN CHOICE, log entry 148.) -/
def codeScale (sensor : Nat) : Nat × Nat :=
  if sensor = 1 then (4000000, Config.clipCode 1)
  else if sensor = 2 then (1000000, Config.clipCode 2)
  else if sensor = 3 then (1000000, 8388608)
  else (480000000, Config.clipCode 4)

/-- A sample at the clip level of its sensor (R457, R469). -/
def atClip (sensor : Nat) (code : Int) : Bool :=
  if sensor = 3 then decide (4 * 8388608 < 5 * mag code) else decide ((codeScale sensor).2 ≤ mag code)

/-- Stage 6: millionths of the primary unit, from CH_SCALE or VCH_SCALE (R454, R457). -/
def toPrimary (sensor scale : Nat) (v : Int) : Int :=
  divRound (v * (codeScale sensor).1 * realNum scale) ((codeScale sensor).2 * 65536 * 2 ^ 149)

/-- Stage 7: gain, and a phase that advances the samples, applied to the latest scaled samples (R464, R465). (DESIGN CHOICE, log entry 148.) -/
def corrected (mHz : Nat) (gain phase : Int) (h : List Int) : Int := gained gain (Config.shift mHz phase h)

/-- The frequency f of R464 in mHz: MET_FREQ while the PLL is locked, MET_FNOM otherwise. -/
def State.lineMilliHz (s : State) : Nat :=
  if s.pllLocked then (divRound (realNum (s.nat Oid.MET_FREQ) * 1000) (2 ^ 149)).toNat else s.nat Oid.MET_FNOM * 1000

/-- The current leg of channel `c` passes its stages in the order of the table Signal chain, for 512 bits of its modulator; of a bitstream channel
the stream is first placed onto the module's own sampling instants, CH_BS_DELAY removed (R454, R456, R459). -/
def State.currentLeg (s : State) (c : Nat) (l : Leg) (b : List Bool) : Leg :=
  let x := s.metCh c
  let sensor := x.sensor.toNat
  let f := s.lineMilliHz
  let l := l.decimate b
  let code := if c < 48 then gained (s.get (Oid.CH_ADC_GAIN c)) (Config.shift f (s.get (Oid.CH_ADC_PHASE c)) l.codes)
    else Config.resample (x.eff.getD 4 0).toNat l.codes
  let l := (l.highPass code).integrate (s.nat Oid.MET_FNOM)
  let l := { l with sums := ((if sensor = 2 then l.coil else l.ac) :: l.sums).take 5 }
  let v := if sensor = 2 then leakRemoved s.pllLocked f l.sums else l.sums.headD 0
  { l with scaled := (toPrimary sensor (x.eff.getD 2 0).toNat v :: l.scaled).take 5 }

/-- The voltage leg of channel `c`: the channel that its CH_VREF names (R453, R454, R465). -/
def State.voltageLeg (s : State) (c : Nat) (l : Leg) (b : List Bool) : Leg :=
  let v := (s.metCh c).vref
  let l := l.decimate b
  let l := l.highPass (l.codes.headD 0)
  { l with scaled := (toPrimary 4 ((s.metV v).eff.getD 1 0).toNat l.ac :: l.scaled).take 5 }

/-! ### Stage 8: the quantities of a sample (R461) -/

/-- The samples of one tracked cycle (R461, R487). -/
def State.cycleLen (s : State) : Nat := max 1 (divRound 8000000 s.lineMilliHz).toNat

/-- The fundamental of a cycle of samples, newest first, as the sums with cosine and sine at the tracked frequency (R461). -/
def phasor (mHz : Nat) (h : List Int) : Int × Int :=
  (weigh (fun k => (Config.unitPhasor mHz k).1) 0 h, weigh (fun k => (Config.unitPhasor mHz k).2) 0 h)

/-- The one-cycle RMS of samples (R461). -/
def rmsOf (n : Nat) (h : List Int) : Nat := Nat.sqrt ((h.map (fun x => mag x * mag x)).sum / n)

/-- The RMS value of a fundamental whose sums over a cycle of `n` samples are given (R461). -/
def fundRms (n : Nat) (x : Int × Int) : Nat := Nat.sqrt (2 * (mag x.1 * mag x.1 + mag x.2 * mag x.2)) / (n * 2 ^ 30)

/-- A sample of a channel joins its window: what was formed of it, its current before and after segment correction, its voltage, both
fundamentals, and the code of the voltage ADC (R461, R464, R469). -/
def WinSum.add (w : WinSum) (d : SampleIn) (raw i v : Int) (i1 v1 : Nat) (vCode : Int) : WinSum :=
  { n := w.n + 1, p := w.p + divRound (v * i) 1000000, p1 := w.p1 + d.p1, q1 := w.q1 + d.q1, s := w.s + d.s
    i2 := w.i2 + mag i * mag i, v2 := w.v2 + mag v * mag v, raw2 := w.raw2 + mag raw * mag raw, i1 := w.i1 + i1, v1 := w.v1 + v1
    is' := i :: w.is', vs := v :: w.vs, vClip := w.vClip || atClip 4 vCode
    vPeak := max w.vPeak (mag vCode * (codeScale 4).1 / (codeScale 4).2) }

/-- The signal of a channel one sample later, and what the engine forms from it: the one-cycle mean of p, p1, q1, s and the one-cycle RMS current
(R454, R461, R466). -/
def State.formSample (s : State) (c : Nat) (x : StreamIn) : Chain × SampleIn :=
  let ch := Tbl.get {} s.met.chains c
  let f := s.lineMilliHz
  let n := s.cycleLen
  let il := s.currentLeg c ch.cur x.bits
  let vl := s.voltageLeg c ch.vol x.vbits
  let v := (s.metCh c).vref
  let is' := (corrected f (s.get (Oid.CH_SEG_GAIN c)) (s.get (Oid.CH_SEG_PHASE c)) il.scaled :: ch.is').take n
  let vs := (corrected f (s.get (Oid.VCH_GAIN v)) (s.get (Oid.VCH_PHASE v)) vl.scaled :: ch.vs).take n
  let vp := phasor f vs
  let ip := phasor f is'
  let sensor := (s.metCh c).sensor.toNat
  let code := il.codes.headD 0
  let d : SampleIn :=
    { pMean := divRound ((vs.zipWith (· * ·) is').sum) (n * 1000000)
      p1 := divRound (2 * (vp.1 * ip.1 + vp.2 * ip.2)) (n * n * 1000000 * 2 ^ 60)
      q1 := divRound (2 * (vp.2 * ip.1 - vp.1 * ip.2)) (n * n * 1000000 * 2 ^ 60)
      s := rmsOf n vs * rmsOf n is' / 1000000
      iRms := rmsOf n is'
      clip := atClip sensor code
      peak := BitVec.ofNat 32 (realOf (code * (codeScale sensor).1) ((codeScale sensor).2 * 1000000))
      stamp := x.stamp }
  ({ cur := il, vol := vl, is' := is', vs := vs
     win := ch.win.add d (il.scaled.headD 0) (is'.headD 0) (vs.headD 0) (fundRms n ip) (fundRms n vp) (vl.codes.headD 0) }, d)

/-- The sample that a row carries, formed already or formed here from the bitstreams, and the state in which it is added (R454). -/
def State.sampleOf (s : State) (c : Nat) : SampleSrc → State × SampleIn
  | .formed d => (s, d)
  | .stream x =>
    let r := s.formSample c x
    ({ s with met := { s.met with chains := s.met.chains.put {} c r.1 } }, r.2)

/-! ### Windows (R461) -/

/-- The total harmonic distortion of a window's samples, % as REAL32: H is 63, or the highest h with h × MET_FREQ at most 3,800 Hz; the window
is resampled to a whole number of tracked cycles (R461). (DESIGN CHOICE, log entry 148.) -/
def thdOf (mHz : Nat) (h : List Int) : BitVec 32 :=
  let top := min 63 (3800000 / max 1 mHz)
  let x := (List.range (top + 1)).map (fun k => let y := Config.harmonic mHz k h; mag y.1 * mag y.1 + mag y.2 * mag y.2)
  BitVec.ofNat 32 (if x.getD 1 0 = 0 then 0 else realOf (Nat.sqrt ((x.drop 2).sum * 10000000000 / x.getD 1 0)) 1000)

/-- The current quantities of a window that its own samples formed (R461). -/
def State.curWindow (s : State) (c : Fin 64) (w : WinSum) : CurWin :=
  let mean := fun (x : Int) => BitVec.ofNat 32 (realOf x (w.n * 1000000))
  let rms := fun (x : Nat) => Nat.sqrt (x / w.n)
  { ch := c, rawMa := rms w.raw2 / 1000, irms := BitVec.ofNat 32 (realOf (rms w.i2) 1000000), i1 := mean w.i1, p := mean w.p, p1 := mean w.p1
    q1 := mean w.q1, s := mean w.s, thd := thdOf s.lineMilliHz w.is' }

/-- The voltage quantities of a window (R461). -/
def State.volWindow (s : State) (v : Fin 16) (w : WinSum) : VolWin :=
  { ch := v, clip := w.vClip, peak := BitVec.ofNat 32 (realOf w.vPeak 1000000), rms := BitVec.ofNat 32 (realOf (Nat.sqrt (w.v2 / w.n)) 1000000)
    v1 := BitVec.ofNat 32 (realOf w.v1 (w.n * 1000000)), thd := thdOf s.lineMilliHz w.vs }

/-- The window of the channels whose samples are formed here comes from those samples, that of the others from the row (R461). -/
def State.windowOf (s : State) (w : WindowIn) : WindowIn :=
  let mine := s.met.chains.filter (fun x => decide (x.2.win.n ≠ 0))
  let cur := mine.filterMap (fun x => if h : x.1 < 64 then some (s.curWindow ⟨x.1, h⟩ x.2.win) else none)
  let vol := (List.finRange 16).filterMap (fun v => (mine.find? (fun x => (s.metCh x.1).vref == v.val)).map (fun x => s.volWindow v x.2.win))
  { w with cur := w.cur.filter (fun x => !cur.any (fun y => y.ch == x.ch)) ++ cur
           vol := w.vol.filter (fun x => !vol.any (fun y => y.ch == x.ch)) ++ vol }

/-- METER_WINDOW_END, at a multiple of 200 ms of the time base (R461). (DESIGN CHOICE, log entry 85.) -/
def execMeterWindowEnd (w : WindowIn) (s : State) : Answer :=
  let s := s.start
  let s := s.toMultiple (ms 200)
  let t := s.meterWindow (s.windowOf w)
  .next { t with met := { t.met with chains := t.met.chains.map (fun x => (x.1, { x.2 with win := {} })) } }

end Sys2Proof.Machine
end

