-- ==== Sys2Proof/Machine/Energy.lean ====
section
/-! DEFINITION. Energy registers, pulse outputs, interval records, saves and the car energy models (chapter 14). -/

namespace Sys2Proof.Machine

/-! ### Pulse outputs (R490 to R494) -/

/-- A pulse output beyond its objects. -/
def State.pulse (s : State) (x : Nat) : PulseRt := Tbl.get {} s.met.pulses x

/-- That changed. -/
def State.setPulse (s : State) (x : Nat) (p : PulseRt) : State :=
  { s with met := { s.met with pulses := s.met.pulses.put {} x p } }

/-- 2^32, the scale of the fractions of R486. (DEDUCED, log entry 86.) -/
def frac32 : Nat := 4294967296

/-- The rising edges that an addition makes due on a field channel: each crossing instant interpolated within the sample, rounded to
1 µs, and PO_LATENCY later (R491). -/
def crossings (whole e k width stamp : Nat) : List (Nat × Nat) :=
  (List.range ((whole + e) / k)).map (fun i =>
    let t := stamp - 125000 + 125000 * ((i + 1) * k - whole) / e
    ((t + 500) / 1000 * 1000 + 1000000, width))

/-- Width of a pulse on FP0 to FP3, ns, from the predicted period (R494). -/
def fpWidth (k e : Nat) : Nat :=
  if 20000 * e ≤ k * 125 then 10000000 else max 125000 (k / (2 * e) * 125000)

/-- An addition to the source register adds the same to the residue; a crossing makes a pulse due (R490, R491, R494). -/
def State.pulseAdd (s : State) (e stamp x : Nat) : State :=
  let p := s.pulse x
  let whole := s.nat (Oid.PO_RESIDUE x) * frac32 + p.frac
  let k := p.const * frac32
  let n := if k = 0 then 0 else if x < 16 then (whole + e) / k else if k ≤ whole + e then 1 else 0
  let due := if n = 0 then [] else if x < 16 then crossings whole e k (us (s.nat (Oid.PO_WIDTH x))) stamp
    else [(stamp + 1000000, fpWidth k e)]
  let left := whole + e - n * k
  (s.setN (Oid.PO_RESIDUE x) (left / frac32)).setPulse x { p with frac := left % frac32, due := p.due ++ due }

/-- A standby keeps what it has added to a register, until it has the snapshot of the second (R506). -/
def State.noteEnergy (s : State) (stamp c r e : Nat) : State :=
  if s.mode == .standby then { s with met := { s.met with recent := (stamp, c, r, e) :: s.met.recent } } else s

/-- A register of a channel increases by `e` / 2^32 EQ, and the residues of the pulse outputs that follow it (R486, R490).
(DEDUCED, log entry 86.) -/
def State.addEnergy (s : State) (c r e stamp : Nat) : State :=
  if e = 0 then s
  else
    let m := s.metCh c
    let v := s.nat (Oid.REG c r) * frac32 + Tbl.get 0 m.frac r + e
    let s := (s.setN (Oid.REG c r) (v / frac32 % 18446744073709551616)).setMetCh c { m with frac := m.frac.put 0 r (v % frac32) }
    ((List.range 20).filter (fun x => (s.pulse x).src == c * 256 + r)).foldl (fun s x => s.pulseAdd e stamp x) (s.noteEnergy stamp c r e)

/-- A write of PO_SRC or PO_CONST takes effect at the sample: residue and PO_OWED 0, recorded (R490, R513). -/
def State.takePulse (s : State) (x : Nat) : State :=
  let p := s.pulse x
  if !p.dirty then s
  else
    let r := s.nat (Oid.PO_RESIDUE x)
    let s := ((s.setN (Oid.PO_RESIDUE x) 0).setN (Oid.PO_OWED x) 0).setBit (Oid.PO_STATUS x) 1 false
    let s := s.setPulse x
      { p with dirty := false, src := s.nat (Oid.PO_SRC x), const := s.nat (Oid.PO_CONST x), frac := 0, due := [], again := false }
    (s.eventOf 0x0D14 (0x300 + x) x (r % frac32) (r / frac32)).showPulse x

/-- The output is on (PO_STATUS bit 0, R512). -/
def State.pulseOn (s : State) (x : Nat) : Bool := s.bit (Oid.PO_STATUS x) 0

/-- The output takes a level; only a module whose gate permits outputs drives it,
and an FP output that the handover holds does not change (R72, R493, R507, R571). -/
def State.drivePulse (s : State) (x : Nat) (b : Bool) : State :=
  let s := s.setBit (Oid.PO_STATUS x) 0 b
  let f := s.nat (Oid.PO_FIELD x)
  let s := if x < 16 && decide (f < 64) then s.setOut f b else s
  if s.gate && !(decide (16 ≤ x) && s.tw.frozenOut.getLsbD (72 + x)) then s.emit (.pulse x b) else s

/-- The rising edge of a pulse (R491, R512). -/
def State.pulseRise (s : State) (x width : Nat) : State :=
  let s := (s.drivePulse x true).setN (Oid.PO_COUNT x) ((s.nat (Oid.PO_COUNT x) + 1) % frac32)
  s.setPulse x { s.pulse x with offAt := s.time + width, again := false }

/-- PO_OWED takes a value, and SATURATED follows it; recorded when it is set (R492). -/
def State.setOwed (s : State) (x n : Nat) : State :=
  let was := s.bit (Oid.PO_STATUS x) 1
  let s := (s.setN (Oid.PO_OWED x) n).setBit (Oid.PO_STATUS x) 1 (decide (0 < n))
  if was || n == 0 then s else s.eventOf 0x0D13 (0x300 + x) x n

/-- A pulse that cannot rise yet is owed (R492). -/
def State.pulseOwe (s : State) (x : Nat) : State := s.setOwed x (min (s.nat (Oid.PO_OWED x) + 1) 65535)

/-- The falling edge of a pulse (R492). -/
def State.pulseFall (s : State) (x : Nat) : State :=
  let s := s.drivePulse x false
  s.setPulse x { s.pulse x with fell := s.time }

/-- PULSE_EMIT: PO_LATENCY after the crossing, on a field channel (R491, R492). (DEDUCED, log entry 89.) -/
def State.pulseEmit (s : State) (x : Nat) : State :=
  let p := s.pulse x
  match p.due with
  | [] => s
  | (t, w) :: rest =>
    if 16 ≤ x ∨ !s.up .met then s
    else
      let s := s.reach (s.clk + (t - s.time))
      let s := s.setPulse x { p with due := rest }
      if !s.gate then s
      else if s.pulseOn x ∨ (0 < p.fell ∧ s.time < p.fell + w) ∨ 0 < s.nat (Oid.PO_OWED x) then s.pulseOwe x
      else s.pulseRise x w

/-- PULSE_EMIT (R491). -/
def execPulseEmit (x : Fin 20) (s : State) : Answer := .next (s.start.pulseEmit x)

/-- PULSE_EMIT_FP: PO_LATENCY after the end of the crossing sample, on FP0 to FP3; a pulse due while the output is on turns it off, and
on again at the next sample (R494). (DEDUCED, log entry 122.) -/
def State.pulseEmitFp (s : State) (x : Nat) : State :=
  let p := s.pulse x
  match p.due with
  | [] => s
  | (t, w) :: rest =>
    if x < 16 ∨ !s.up .met then s
    else
      let s := s.reach (s.clk + (t - s.time))
      let s := s.setPulse x { p with due := rest }
      if !s.gate then s
      else if s.pulseOn x then
        (if p.again then s.pulseOwe x
         else
          let s := s.pulseFall x
          s.setPulse x { s.pulse x with again := true, due := (s.time + 125000, w) :: rest })
      else s.pulseRise x w

/-- PULSE_EMIT_FP (R494). -/
def execPulseEmitFp (x : Fin 20) (s : State) : Answer := .next (s.start.pulseEmitFp x)

/-- PULSE_WIDTH_END: the pulse ends, or an owed pulse is released (R492). -/
def State.pulseWidthEnd (s : State) (x : Nat) : State :=
  let p := s.pulse x
  let w := if x < 16 then us (s.nat (Oid.PO_WIDTH x)) else 125000
  if !s.up .met then s
  else if s.pulseOn x then (s.reach (s.clk + (p.offAt - s.time))).pulseFall x
  else if 0 < s.nat (Oid.PO_OWED x) ∧ s.gate then
    let s := s.reach (s.clk + (p.fell + w - s.time))
    let n := s.nat (Oid.PO_OWED x) - 1
    ((s.setN (Oid.PO_OWED x) n).setBit (Oid.PO_STATUS x) 1 (decide (0 < n))).pulseRise x w
  else s

/-- PULSE_WIDTH_END (R492). -/
def execPulseWidthEnd (x : Fin 20) (s : State) : Answer := .next (s.start.pulseWidthEnd x)

/-! ### Accumulation (R487 to R489) -/

/-- The energy of one sample of a power in µW, in 2^-32 EQ, rounded down: power × 125 µs, 1 EQ = 2^-20 Wh (R485, R487).
(DEDUCED, log entry 86.) -/
def energyOf (uW : Nat) : Nat := uW * 125 * 4503599627370496 / 3600000000000000

/-- The register of a reactive energy's quadrant; none for 0 (R462, R488). -/
def quadrant (p1 q1 : Int) : Option Nat :=
  if q1 = 0 then none else if 0 < q1 then (if p1 < 0 then some 5 else some 4) else (if p1 < 0 then some 6 else some 7)

/-- CH_REG_CLEAR takes effect at the sample (R489). -/
def State.takeClear (s : State) (c : Nat) : State :=
  let m := s.metCh c
  match m.clear with
  | none => s
  | some ses =>
    let s := (List.range 12).foldl (fun s r => s.setN (Oid.REG c r) 0) s
    let s := s.setMetCh c { m with clear := none, frac := [], nValid := 0, nCreep := 0, flags := withBit m.flags 5 true }
    let s := ((List.range 20).filter (fun x => decide ((s.pulse x).src / 256 = c) && decide ((s.pulse x).src ≠ 0xFFFF))).foldl
      (fun s x => (s.setN (Oid.PO_RESIDUE x) 0).setPulse x { s.pulse x with frac := 0 }) s
    s.eventOf 0x0D12 c c ses

/-- VALID_MS or CREEP_MS advances by 1 (R488). -/
def State.oneMs (s : State) (stamp c r : Nat) : State :=
  (s.setN (Oid.REG c r) ((s.nat (Oid.REG c r) + 1) % 18446744073709551616)).noteEnergy stamp c r frac32

/-- VALID_MS and CREEP_MS advance by 1 for each 8 samples of the state they count (R488). -/
def State.countMs (s : State) (stamp c : Nat) (valid gated : Bool) : State :=
  let m := s.metCh c
  let nv := if valid then m.nValid + 1 else m.nValid
  let nc := if gated then m.nCreep + 1 else m.nCreep
  let s := if nv = 8 then s.oneMs stamp c 10 else s
  let s := if nc = 8 then s.oneMs stamp c 11 else s
  s.setMetCh c { m with nValid := nv % 8, nCreep := nc % 8 }

/-- The trip of the car that the channel meters keeps its peaks, and loses its contribution where the channel is not VALID (R23, R509). -/
def State.tripSample (s : State) (c : Nat) (pMean : Int) (valid : Bool) : State :=
  let n := s.nat (Oid.CH_CAR c)
  match s.met.trips.find n with
  | none => s
  | some t =>
    let t := { t with peakIn := max t.peakIn pMean.toNat, peakEx := max t.peakEx (-pMean).toNat, good := t.good && valid }
    { s with met := { s.met with trips := s.met.trips.ins n t } }

/-- The energies of one sample, split by sign and never netted (R462, R466, R487, R488). -/
def State.accumulate (s : State) (c : Nat) (d : SampleIn) : State :=
  let m := s.metCh c
  let gated : Bool := decide (d.iRms * 1000 < s.nat (Oid.CH_CREEP c) * m.inMa)
  let none4 := gated || !s.vValid m.vref
  let p := if none4 then 0 else d.pMean
  let p1 := if none4 || !s.pllLocked then 0 else d.p1
  let q1 := if none4 || !s.pllLocked then 0 else d.q1
  let ap := if none4 then 0 else d.s
  let t := d.stamp.toNat
  let s := s.setBit (Oid.CH_STATUS c) 7 gated
  let s := s.addEnergy c (if p < 0 then 1 else 0) (energyOf (mag p)) t
  let s := s.addEnergy c (if p1 < 0 then 3 else 2) (energyOf (mag p1)) t
  let s := match quadrant p1 q1 with
    | some r => s.addEnergy c r (energyOf (mag q1)) t
    | none => s
  let s := s.addEnergy c (if p < 0 then 9 else 8) (energyOf ap) t
  (s.countMs t c (s.chValid c) gated).tripSample c d.pMean (s.chValid c)

/-- Samples are taken: after a supply fail only the one in progress, within its 125 µs (R101). -/
def State.samplesOn (s : State) (c : Nat) : Bool :=
  s.pow.autumn == .none || (s.pow.autumn == .running && !s.pow.sampled.getLsbD c && decide (s.clk ≤ s.pow.autumnAt + us 125))

/-- ENERGY_SAMPLE (R487 to R490). -/
def State.energySample (s : State) (c : Nat) (d : SampleIn) : State :=
  if !s.up .met ∨ s.met.stopped.isSome ∨ !s.samplesOn c then s
  else
    let s := if s.pow.autumn = .running then { s with pow := { s.pow with sampled := s.pow.sampled ||| BitVec.twoPow 64 c } } else s
    let s := (List.range 20).foldl State.takePulse (s.takeClear c)
    if (s.metCh c).sensor = 0 ∨ !s.sourceOk c ∨ (s.metCh c).adcBad then s.spoilTrip c
    else ((if d.clip then s.overrange c d.peak else s).showCurrent c).accumulate c d

/-- ENERGY_SAMPLE (R487). -/
def execEnergySample (c : Fin 64) (x : SampleSrc) (s : State) : Answer :=
  let s := s.start
  .next (if !s.up .met ∨ s.met.stopped.isSome ∨ !s.samplesOn c then s
    else
      let r := s.sampleOf c x
      r.1.energySample c r.2)

/-- A standby's residue and PO_OWED are the active module's at `t`, and its own accumulation since then is added (R506). (DEDUCED, log entry 116.) -/
def State.resumePulse (s : State) (t x : Nat) : State :=
  let p := s.pulse x
  let own := (s.met.recent.filter (fun e => decide (t < e.1) && p.src == e.2.1 * 256 + e.2.2.1)).reverse
  own.foldl (fun s e => s.pulseAdd e.2.2.2 e.1 x)
    (s.setPulse x { p with frac := 0, due := p.due.filter (fun d => decide (d.1 ≤ t + 1000000)) })

/-- A standby's registers are the active module's at `t`, and its own accumulation since then is added (R506). (DEDUCED, log entry 116.) -/
def State.resumeRegs (s : State) (t : Nat) : State :=
  let own := s.met.recent.filter (fun e => decide (t < e.1))
  let s := { s with met := { s.met with recent := own, ch := s.met.ch.map (fun c => (c.1, { c.2 with frac := [] })) } }
  own.foldr (fun e s =>
    let m := s.metCh e.2.1
    let v := s.nat (Oid.REG e.2.1 e.2.2.1) * frac32 + Tbl.get 0 m.frac e.2.2.1 + e.2.2.2
    (s.setN (Oid.REG e.2.1 e.2.2.1) (v / frac32 % 18446744073709551616)).setMetCh e.2.1 { m with frac := m.frac.put 0 e.2.2.1 (v % frac32) }) s

/-! ### Intervals (R495 to R498) -/

/-- The flags of a state of the time base for the open interval (UNSYNC, R496). -/
def State.syncFlag (s : State) : Nat := if s.timeStatus = 3 ∨ s.timeStatus = 4 then 16 else 0

/-- The open interval of every channel takes a flag (R496). -/
def State.flagIntervals (s : State) (bit : Nat) : State :=
  { s with met := { s.met with flagsAll := withBit s.met.flagsAll bit true } }

/-- One interval record, 128 bytes (R496). -/
def State.intRecord (s : State) (c seq flags : Nat) : List Byte :=
  let m := s.metCh c
  let delta := fun r => (s.nat (Oid.REG c r) + 18446744073709551616 - Tbl.get 0 m.base r) % 18446744073709551616
  let tail := List.replicate 13 0 ++ leBytes 1 s.timeStatus ++ leBytes 1 flags ++ leBytes 1 c ++ leBytes 8 s.time
    ++ leBytes 4 (delta 10 % frac32) ++ leBytes 8 seq ++ leBytes 8 s.met.intStart ++ (List.range 10).flatMap (fun r => leBytes 8 (delta r))
  leBytes 4 (crc32 tail) ++ tail

/-- One channel's record goes into the store; the newest overwrites the oldest (R497). -/
def State.storeInterval (s : State) (c short : Nat) : State :=
  let seq := s.met.intSeq
  let flags := s.met.flagsAll ||| (s.metCh c).flags ||| short
  let st := ((seq, s.intRecord c seq flags) :: s.met.store).take 393216
  let s := { s with met := { s.met with intSeq := seq + 1, store := st } }
  (s.setN Oid.INT_LAST seq).setN Oid.INT_FIRST (seq + 1 - st.length)

/-- The next interval of a channel opens (R496). -/
def State.openInterval (s : State) (c : Nat) : State :=
  let m := s.metCh c
  let base := (List.range 11).foldl (fun t r => Tbl.put 0 t r (s.nat (Oid.REG c r))) ([] : Tbl Nat)
  s.setMetCh c { m with flags := (if s.chValid c then 0 else 1) + (if m.overFor = 0 then 0 else 64), base := base }

/-- The open interval closes and the next one opens; `short` says that it closes other than on a boundary (R495, R496, R498). -/
def State.closeInterval (s : State) (short : Bool) : State :=
  if s.tb.status = 0 then { s with met := { s.met with wasUnset := true } }
  else
    let fl := if s.met.wasUnset then 132 else if short then 128 else 0
    let sel := (List.range 64).filter (fun c => ((s.blob Oid.INT_CHANNELS).getD (c / 8) 0).getLsbD (c % 8))
    let s := { s with met := { s.met with flagsAll := s.met.flagsAll ||| s.syncFlag } }
    let s := sel.foldl (fun s c => s.storeInterval c fl) s
    let s := (List.range 64).foldl State.openInterval s
    { s with met := { s.met with intStart := s.time, wasUnset := false, flagsAll := s.syncFlag + (if short then 128 else 0) } }

/-- INTERVAL_CLOSE: a boundary of INT_LEN (R495). -/
def execIntervalClose (s : State) : Answer :=
  let s := s.start
  .next (if s.up .met then (s.toMultiple (sec (60 * s.nat Oid.INT_LEN))).closeInterval false else s)

/-- INT_LEN takes effect: the open interval closes at once with SHORT (R495). -/
def State.intLenApply (s : State) (v : Int) : State := (s.closeInterval true).set Oid.INT_LEN v

/-- INT_DATA of a session: up to 48 records from its INT_SEL (R497). -/
def State.intData (s : State) (sel : Nat) : Option (List Byte) :=
  let l := s.met.store.filter (fun r => decide (sel ≤ r.1 ∧ r.1 < sel + 48))
  if s.met.store.any (fun r => r.1 == sel) then some ((l.reverse).flatMap (·.2)) else none

/-! ### Saves (R499 to R505) -/

/-- The slot set with the highest save number among some. -/
def newest (l : List (Nat × SaveSlot)) : Option (Nat × SaveSlot) :=
  l.foldl (fun b x => match b with
    | none => some x
    | some y => if y.2.num < x.2.num then some x else b) none

/-- A slot set holds a CLOSED save with a good CRC (R502). -/
def SaveSlot.good (x : SaveSlot) : Bool := x.closed && x.crcGood

/-- The source channel of a failing word: its own, or its output's (R500). -/
def State.wordChannel (s : State) (w : SaveWord) : Nat :=
  match w with
  | .reg c _ => c.val
  | .residue x => s.nat (Oid.PO_SRC x.val) / 256 % 64
  | .owed x => s.nat (Oid.PO_SRC x.val) / 256 % 64

/-- A failing word is replaced by the same word of the newest CLOSED slot set (R500). -/
def patchWord (old : SaveSlot) (x : SaveSlot) (w : SaveWord) : SaveSlot :=
  match w with
  | .reg c r => { x with regs := x.regs.put 0 (16 * c.val + r.val) (Tbl.get 0 old.regs (16 * c.val + r.val)) }
  | .residue y => { x with residue := x.residue.put 0 y.val (Tbl.get 0 old.residue y.val) }
  | .owed y => { x with owed := x.owed.put 0 y.val (Tbl.get 0 old.owed y.val) }

/-- The snapshot of the shadow for a save of a kind (R499, R500). -/
def State.snapshot (s : State) (kind : Nat) (bad : List SaveWord) : SaveSlot :=
  let regs := (List.range 64).foldl (fun t c => (List.range 12).foldl (fun t r => Tbl.put 0 t (16 * c + r) (s.nat (Oid.REG c r))) t) ([] : Tbl Nat)
  let res := (List.range 20).foldl (fun t x => Tbl.put 0 t x (s.nat (Oid.PO_RESIDUE x))) ([] : Tbl Nat)
  let owed := (List.range 20).foldl (fun t x => Tbl.put 0 t x (s.nat (Oid.PO_OWED x))) ([] : Tbl Nat)
  let x : SaveSlot :=
    { num := s.met.lastNum + 1, kind := kind, time := s.time, unset := decide (s.tb.status = 0), optime := s.optime
      cycles := s.nat Oid.POWER_CYCLES, closed := false, crcGood := false, regs := regs, residue := res, owed := owed
      failed := bad.foldl (fun v w => v ||| BitVec.twoPow 64 (s.wordChannel w)) 0 }
  let old := match newest (s.met.slots.filter (·.2.good)) with
    | some y => y.2
    | none => {}
  bad.foldl (patchWord old) x

/-- A save: the next slot set opened and, where it completes, closed (R499, R501). -/
def State.save (s : State) (kind : Nat) (bad : List SaveWord) (complete : Bool) : State :=
  let x := s.snapshot kind bad
  let s := { s with met := { s.met with lastNum := x.num, slots := s.met.slots.ins (x.num % 8) { x with closed := complete, crcGood := complete } } }
  if complete then (s.setN Oid.SAVE_NUMBER x.num).setN Oid.SAVE_TIME x.time else s

/-- PERIODIC_SAVE, at a whole second of the time base (R499, R500). -/
def execPeriodicSave (bad : List SaveWord) (s : State) : Answer :=
  let s := s.start
  .next (if s.up .met && s.up .mem && s.met.stopped.isNone then (s.toMultiple (sec 1)).save 0 (bad ++ s.met.shadowBad) true else s)

/-- SAVE_LATE (R499). -/
def execSaveLate (us : Nat) (s : State) : Answer :=
  let s := s.start
  .next (if 100000 < us ∧ s.up .met then (s.count Oid.SAVE_LATE_COUNT 32).event 0x0D15 s.met.lastNum us else s)

/-- Metering stops for a reset or a supply loss (R505): cause 1 COLD, 2 WARM, 3 supply fail. -/
def State.energyStop (s : State) (cause : Nat) : State :=
  { s with met := { s.met with stopped := some (cause, s.optime) } }.spoilTrips

/-- What the restore finds: the state of ENERGY_RESTORE and the set restored (R502). (DEDUCED, log entry 88.) -/
def State.restoreFrom (s : State) : Nat × Option (Nat × SaveSlot) :=
  let best := newest (s.met.slots.filter (·.2.good))
  match newest s.met.slots, best with
  | some n, some b => (if n.2.good && (n.2.kind == 1 || n.2.kind == 2) then 0 else 1, some b)
  | _, none => (2, none)
  | none, some b => (1, some b)

/-- The length of a gap is recorded (R505, R513). -/
def State.energyGap (s : State) (msGap cause : Nat) : State :=
  (s.setN Oid.LAST_GAP_MS (min msGap 0xFFFFFFFF)).event 0x0D11 (min msGap 0xFFFFFFFF) cause

/-- Energy is restored and metering restarts at SPRING step 13 (R502, R503, R505). (DEDUCED, log entry 88.) -/
def State.energyRestart (s : State) (aonRan : Bool) : State :=
  match s.met.stopped with
  | none => s
  | some (cause, op) =>
    let f := s.restoreFrom
    let x := match f.2 with
      | some b => b.2
      | none => {}
    let s := (List.range 64).foldl (fun s c =>
      let s := (List.range 12).foldl (fun s r => s.setN (Oid.REG c r) (Tbl.get 0 x.regs (16 * c + r))) s
      let flagged := f.1 != 0 || x.failed.getLsbD c
      (s.setN (Oid.CH_REG_FLAGS c) (if f.1 ≠ 0 then 0xFFFF else if flagged then 0x0FFF else s.nat (Oid.CH_REG_FLAGS c))).setMetCh c
        { s.metCh c with frac := [] }) s
    let s := (List.range 20).foldl (fun s y =>
      ((s.setN (Oid.PO_RESIDUE y) (Tbl.get 0 x.residue y)).setOwed y (Tbl.get 0 x.owed y)).setPulse y
        { s.pulse y with frac := 0, due := [], again := false }) s
    let s := (s.setN Oid.ENERGY_RESTORE f.1).event 0x0D10 (match f.2 with
      | some b => b.1
      | none => 0xFF) (x.num % frac32) f.1
    let s : State := { s with met := { s.met with stopped := none, lastNum := max s.met.lastNum x.num } }
    let s := (if f.1 = 1 then s.flagIntervals 3 else s).flagIntervals 2
    if f.2.isSome && !x.unset then
      (if s.tb.status != 0 then s.energyGap ((s.time - x.time) / 1000000) cause
       else { s with met := { s.met with gapDue := some (x.time, op, cause, s.clk) } })
    else if aonRan then s.energyGap ((s.optime - op) * 1000 / 1024) cause
    else s.energyGap 0xFFFFFFFF cause

/-- The time base has left UNSET: a gap that waited for it is recorded (R505). -/
def State.gapKnown (s : State) : State :=
  match s.met.gapDue with
  | none => s
  | some (t, _, cause, at0) =>
    { s with met := { s.met with gapDue := none } }.energyGap ((s.time - (s.clk - at0) - t) / 1000000) cause

/-- ENERGY_ACK takes effect (R503). -/
def State.energyAck (s : State) : State :=
  (List.range 64).foldl (fun s c => s.setN (Oid.CH_REG_FLAGS c) 0) (s.setN Oid.ENERGY_RESTORE 0)

/-! ### Car energy models (R508 to R511) -/

/-- 1.0e6 as REAL32. -/
def million : Nat := 0x49742400

/-- 1e6 × I, the covariance after CM_RESET (R510). -/
def covReset : List Nat := (List.range 16).map (fun i => if i % 5 = 0 then million else 0)

/-- A car's covariance in one direction. -/
def State.cov (s : State) (n : Nat) (up : Bool) : List Nat :=
  let m := Tbl.get {} s.met.models n
  let p := if up then m.up else m.dn
  if p = [] then covReset else p

/-- The sum of products of two lists of REAL32, from left to right. -/
def dot (a b : List Nat) : Nat := (a.zip b).foldl (fun t e => realAdd t (realMul e.1 e.2)) 0

/-- One row of a 4 × 4 matrix. -/
def row4 (p : List Nat) (i : Nat) : List Nat := (p.drop (4 * i)).take 4

/-- One column of a 4 × 4 matrix. -/
def col4 (p : List Nat) (j : Nat) : List Nat := (List.range 4).map (fun i => p.getD (4 * i + j) 0)

/-- The gain vector k of the recursive least squares (R510). (DEDUCED, log entry 90.) -/
def rlsGain (p x : List Nat) (lam : Nat) : List Nat :=
  let px := (List.range 4).map (fun i => dot (row4 p i) x)
  let den := realAdd lam (dot x px)
  px.map (fun v => realDiv v den)

/-- The new covariance (R510). (DEDUCED, log entry 90.) -/
def rlsCov (p x k : List Nat) (lam : Nat) : List Nat :=
  let xp := (List.range 4).map (fun j => dot x (col4 p j))
  (List.range 16).map (fun i => realDiv (realSub (p.getD i 0) (realMul (k.getD (i / 4) 0) (xp.getD (i % 4) 0))) lam)

/-- The new coefficients for a measured quantity y (R510). (DEDUCED, log entry 90.) -/
def rlsCoef (b x k : List Nat) (y : Nat) : List Nat :=
  let err := realSub y (dot x b)
  (b.zip k).map (fun e => realAdd e.1 (realMul e.2 err))

/-- The coefficients of a direction and quantity in CM_COEF (R512). -/
def State.coef (s : State) (n : Nat) (up : Bool) (q : Nat) : List Nat :=
  let b := s.blob (Oid.CM_COEF n)
  (List.range 4).map (fun i => leNat ((b.drop ((if up then 0 else 64) + 16 * q + 4 * i)).take 4))

/-- The model's inputs x = (1, D, M, D × M) (R510). -/
def modelInputs (d m : Nat) : List Nat := [0x3F800000, d, m, realMul d m]

/-- A prediction: max(0, x · b), Wh or W (R510). -/
def State.predict (s : State) (n : Nat) (up : Bool) (q d m : Nat) : Nat :=
  let v := dot (modelInputs d m) (s.coef n up q)
  if realNum v ≤ 0 then 0 else v

/-- A car's model goes to the twin (R511, R581). -/
def State.mirrorModel (s : State) (n : Nat) : State :=
  (s.mirrorRegs 0x0C [Oid.CM_TRIPS_UP n, Oid.CM_TRIPS_DN n, Oid.CM_VALID n] [Oid.CM_COEF n]).mirror
    (.values 0x0C [] [((Oid.CM_COEF n).oid + 0x80, (s.cov n true ++ s.cov n false).flatMap (leBytes 4))])

/-- The covariance of a car's model as a batch carries it, both directions (R510, R511). -/
def State.takeCov (s : State) (n : Nat) (b : List Byte) : State :=
  let w := (List.range 32).map (fun i => leNat ((b.drop (4 * i)).take 4))
  { s with met := { s.met with models := s.met.models.put {} n { up := w.take 16, dn := w.drop 16 } } }

/-- The model learns one trip (R510, R511). -/
def State.learnTrip (s : State) (n : Nat) (up : Bool) (d m : Nat) (ys : List Nat) : State :=
  let lam := fixToReal (s.get (Oid.CM_FORGET n))
  let x := modelInputs d m
  let p := s.cov n up
  let k := rlsGain p x lam
  let one := (List.range 4).flatMap (fun q => (rlsCoef (s.coef n up q) x k (ys.getD q 0)).flatMap (leBytes 4))
  let old := s.blob (Oid.CM_COEF n)
  let s := s.setBlob (Oid.CM_COEF n) (if up then one ++ old.drop 64 else old.take 64 ++ one)
  let m0 := Tbl.get {} s.met.models n
  let p' := rlsCov p x k lam
  let m1 := if up then { m0 with up := p' } else { m0 with dn := p' }
  let s := { s with met := { s.met with models := s.met.models.put {} n m1 } }
  let s := s.count (if up then Oid.CM_TRIPS_UP n else Oid.CM_TRIPS_DN n) 32
  let a := s.nat (Oid.CM_TRIPS_UP n)
  let b := s.nat (Oid.CM_TRIPS_DN n)
  let s := if 32 ≤ a ∧ 32 ≤ b ∧ !s.flag (Oid.CM_VALID n) then (s.setFlag (Oid.CM_VALID n) true).eventOf 0x0D16 (0x400 + n) n a b else s
  s.mirrorModel n

/-- CM_RESET takes effect, by a host's write or by the mirror (R511); `ses` is the session. -/
def State.modelReset (s : State) (n ses : Nat) : State :=
  let s := ((s.setBlob (Oid.CM_COEF n) (List.replicate 128 0)).setN (Oid.CM_TRIPS_UP n) 0).setN (Oid.CM_TRIPS_DN n) 0
  let s := { s with met := { s.met with models := s.met.models.del n } }
  ((s.setFlag (Oid.CM_VALID n) false).eventOf 0x0D17 (0x400 + n) n ses).mirrorModel n

/-- A trip begins: entry to STARTING (R509). `good` says whether it may contribute so far. -/
def State.tripBegin (s : State) (n : Nat) (up good : Bool) : State :=
  let c := s.nat (Oid.CM_CHANNEL n)
  let t : Trip :=
    { start := s.time, pos := s.get (Oid.ENC_POS n), load := s.get (Oid.CAR_LOAD n), up := up
      ai := s.nat (Oid.REG c 0), ae := s.nat (Oid.REG c 1), good := good && decide (c < 64) && s.chValid c }
  { s with met := { s.met with trips := s.met.trips.ins n t } }

/-- A trip ends: it leaves LEVELLING, or is ended by a fault (R509). -/
def State.tripEnd (s : State) (n : Nat) (ok : Bool) : State :=
  match s.met.trips.find n with
  | none => s
  | some t =>
    let c := s.nat (Oid.CM_CHANNEL n)
    let d := mag (s.get (Oid.ENC_POS n) - t.pos)
    let sub := fun r v => (s.nat (Oid.REG c r) + 18446744073709551616 - v) % 18446744073709551616
    let im := sub 0 t.ai
    let ex := sub 1 t.ae
    let m := fixToReal t.load
    let good := ok && t.good && s.mode == .active
    let s := { s with met := { s.met with trips := s.met.trips.del n } }
    let s := s.setBlob (Oid.CM_LAST_TRIP n) (leBytes 8 t.start ++ leBytes 1 (if t.up then 1 else 2) ++ leBytes 1 (boolNat good) ++ [0, 0]
      ++ leBytes 4 (d / 64) ++ leBytes 4 m ++ leBytes 8 im ++ leBytes 8 ex ++ leBytes 4 (t.peakIn / 1000000) ++ leBytes 4 (t.peakEx / 1000000))
    let s := s.mirrorRegs 0x0C [] [Oid.CM_LAST_TRIP n]
    if good then
      s.learnTrip n t.up (realOf d 64000) m [realOf im 1048576, realOf ex 1048576, realOf t.peakIn 1000000, realOf t.peakEx 1000000]
    else s


/-! ### Host writes of this chapter -/

/-- PO_SRC is refused unless it names a register 0 to 9 of a channel, or none (R490, R512). -/
def poSrcCheck (v : Int) : Option Refuse :=
  need (v == 0xFFFF || (decide (0 ≤ v ∧ v < 16384) && decide (v % 256 < 10))) .range

/-- PO_FIELD is refused: outputs 0 to 15 only, and a channel that is an output of no other owner with no armed compare (R493, R512). -/
def State.poFieldCheck (s : State) (x : Nat) (v : Int) : Option Refuse :=
  let f := v.toNat
  firstOf [need (decide (x < 16)) .access, need (v == 0xFF || decide (0 ≤ v ∧ v < 64)) .range,
    need (v == 0xFF || v == s.get (Oid.PO_FIELD x) || (s.nat (Oid.FIO_MODE f) == 3 && s.fioOwner f == 0 && !s.fioArmed f)) .busy]

/-- PO_SRC or PO_CONST takes effect at the next sample (R490). -/
def State.pulseConfig (s : State) (x : Nat) : State := s.setPulse x { s.pulse x with dirty := true }

/-- CH_REG_CLEAR is refused (R489, R512). -/
def State.regClearCheck (s : State) (v : Int) : Option Refuse := andThen (need (v == 1) .range) (need (s.mode == .service) .busy)

/-- CH_REG_CLEAR takes effect at the next sample (R489). -/
def State.regClear (s : State) (c ses : Nat) : State := s.setMetCh c { s.metCh c with clear := some ses }

end Sys2Proof.Machine
end

