-- ==== Sys2Proof/Machine/CarOps.lean ====
section
/-! DEFINITION. Operations of dispatch and car supervision on one car: profile, queue, doors, permit, faults (chapter 12). -/

namespace Sys2Proof.Machine

/-! ### A car -/

/-- What dispatch keeps of a car beside its objects. -/
def State.car (s : State) (n : Nat) : CarRt := Tbl.get {} s.dsp.cars n

/-- That changed. -/
def State.setCar (s : State) (n : Nat) (r : CarRt) : State := { s with dsp := { s.dsp with cars := s.dsp.cars.put {} n r } }

/-- CAR_STATE (R415). -/
def State.carState (s : State) (n : Nat) : Nat := s.nat (Oid.CAR_STATE n)

/-- CAR_OPER (R416). -/
def State.carOper (s : State) (n : Nat) : Nat := s.nat (Oid.CAR_OPER n)

/-- The slot of the medium class that supervises a car (R428). -/
def motionLoop (n : Nat) : Nat := 72 + n

/-- CAR_STATE, CAR_OPER, CAR_FAULT, target and queue go to the twin (R449, R581). -/
def State.mirrorCar (s : State) (n : Nat) : State :=
  s.mirrorRegs 4 [Oid.CAR_TARGET n, Oid.CAR_LANDING n, Oid.CAR_STATE n, Oid.CAR_OPER n, Oid.CAR_FAULT n] [Oid.CAR_QUEUE n]

/-- The rest state of the present operation (R416); in SERVICE a car rests PARKED (R419). -/
def State.restState (s : State) (n : Nat) : Nat :=
  let o := s.carOper n
  if o = 1 then 11 else if o = 2 then 14 else if o = 3 ∨ o = 4 then 12 else if o = 5 then 13 else if s.mode = .active then 2 else 1

/-- The car rests with nothing to do: its rest state, or PARKED (R418). -/
def State.resting (s : State) (n : Nat) : Bool := let c := s.carState n; c == 1 || c == 2 || c == 12 || c == 13

/-- The car is in a state of a trip: STARTING to LEVELLING. -/
def State.onTrip (s : State) (n : Nat) : Bool := let c := s.carState n; decide (3 ≤ c ∧ c ≤ 6)

/-- CAR_STATE takes a value; transitions to and from OUT_OF_SERVICE are recorded by their causes (R418). -/
def State.setCarState (s : State) (n st : Nat) : State :=
  ((s.setN (Oid.CAR_STATE n) st).setCar n { s.car n with since := s.clk }).mirrorCar n

/-! ### Landings and position -/

/-- LAND_DOORS of a landing: bit 0 front, bit 1 rear (R413). -/
def State.landDoors (s : State) (n l : Nat) : Nat := s.nat (Oid.LAND_DOORS n l) % 4

/-- The car serves a landing (R413). -/
def State.serves (s : State) (n l : Nat) : Bool := s.landDoors n l != 0

/-- The level position of a landing in a direction (R427). -/
def State.levelPos (s : State) (n l : Nat) (up : Bool) : Int :=
  if up then s.get (Oid.LAND_PROBE_UP n l) + s.get (Oid.CAR_LEVEL_UP n) else s.get (Oid.LAND_PROBE_DN n l) + s.get (Oid.CAR_LEVEL_DN n)

/-- The position of the car. -/
def State.carPos (s : State) (n : Nat) : Int := s.get (Oid.ENC_POS n)

/-- The level position of the landing at which the car stands or to which it goes, in its present direction. -/
def State.targetPos (s : State) (n : Nat) : Int := s.levelPos n (s.nat (Oid.CAR_TARGET n)) ((s.car n).dir != 2)

/-- The level position of the landing at which the car rests, in the direction in which it came (R418, R427). (DESIGN CHOICE, log entry 151.) -/
def State.restPos (s : State) (n : Nat) : Int := s.levelPos n (s.nat (Oid.CAR_LANDING n)) ((s.car n).dir != 2)

/-- The car stands within CAR_LEVEL_WIN of a landing's level position. -/
def State.levelAt (s : State) (n l : Nat) : Bool :=
  decide ((s.carPos n - s.levelPos n l true).natAbs ≤ s.nat (Oid.CAR_LEVEL_WIN n))
    || decide ((s.carPos n - s.levelPos n l false).natAbs ≤ s.nat (Oid.CAR_LEVEL_WIN n))

/-- The landing of the car: where it is level (CAR_LANDING, R450). -/
def State.atLanding (s : State) (n : Nat) : Option Nat := (List.range (s.nat (Oid.LANDINGS n))).find? (fun l => s.levelAt n l)

/-- DZ_A and DZ_B both read true (R422). -/
def State.inZone (s : State) (n : Nat) : Bool := s.bit (Oid.CAR_INPUTS n) 0 && s.bit (Oid.CAR_INPUTS n) 1

/-- |SPEED|, 0.01 mm/s. -/
def State.absSpeed (s : State) (n : Nat) : Nat := (s.speed n).natAbs

/-! ### The speed profile (R427) -/

/-- Time to change the speed by `dv` (0.01 mm/s) at acceleration `a` (mm/s²) and jerk `j` (mm/s³), µs. (DESIGN CHOICE, log entry 93.) -/
def sTime (dv a j : Nat) : Nat :=
  if 100 * a * a ≤ dv * j then dv * 10000 / a + a * 1000000 / j else 2 * isqrt (dv * 10000000000 / j)

/-- Speed gained `t` µs after the start of such a change. (DESIGN CHOICE, log entry 93.) -/
def sGain (dv a j t : Nat) : Nat :=
  let total := sTime dv a j
  let ease := fun x : Nat => j * x * x / 20000000000
  if total ≤ t then dv
  else if 100 * a * a ≤ dv * j then
    let tj := a * 1000000 / j
    if t < tj then ease t else if t < total - tj then a * tj / 20000 + a * (t - tj) / 10000 else dv - ease (total - t)
  else if 2 * t < total then ease t
  else dv - ease (total - t)

/-- Distance of a change of speed, counts of 1/64 mm. (DESIGN CHOICE, log entry 93.) -/
def sDist (v0 v1 a j : Nat) : Nat := (v0 + v1) * sTime (max v0 v1 - min v0 v1) a j * 32 / 100000000

/-- The largest speed up to `2^k − 1` above `v` whose acceleration and deceleration fit a distance, by bisection. -/
def peakSpeed (dist vl vmax a j : Nat) : Nat → Nat → Nat
  | 0, v => v
  | k + 1, v =>
    let w := v + 2 ^ k
    if w ≤ vmax ∧ sDist 0 w a j + sDist w vl a j ≤ dist then peakSpeed dist vl vmax a j k w else peakSpeed dist vl vmax a j k v

/-- The speed that a trip of a distance reaches (R427). -/
def State.tripSpeed (s : State) (n dist vmax : Nat) : Nat :=
  let vl := s.nat (Oid.CAR_V_LEVEL n)
  max vl (peakSpeed (dist - s.nat (Oid.CAR_LEVEL_START n)) vl vmax (s.nat (Oid.CAR_ACCEL n)) (s.nat (Oid.CAR_JERK n)) 21 0)

/-- The running time of a trip of a distance, µs (R427, R438). -/
def State.tripTime (s : State) (n dist : Nat) : Nat :=
  let a := s.nat (Oid.CAR_ACCEL n)
  let j := s.nat (Oid.CAR_JERK n)
  let vl := s.nat (Oid.CAR_V_LEVEL n)
  let v := s.tripSpeed n dist (s.nat (Oid.CAR_V_RATED n))
  let rest := dist - s.nat (Oid.CAR_LEVEL_START n) - sDist 0 v a j - sDist v vl a j
  sTime v a j + sTime (v - vl) a j + rest * 100000000 / (64 * v) + s.nat (Oid.CAR_LEVEL_START n) * 100000000 / (64 * vl)

/-- The profile speed now, 0.01 mm/s without sign (R427). -/
def State.profSpeed (s : State) (n : Nat) : Nat :=
  let r := s.car n
  let t := (s.clk - r.segAt) / 1000
  let a := s.nat (Oid.CAR_ACCEL n)
  let j := s.nat (Oid.CAR_JERK n)
  if r.v0 ≤ r.v1 then r.v0 + sGain (r.v1 - r.v0) a j t else r.v0 - sGain (r.v0 - r.v1) a j t

/-- The profile goes from its present speed toward another. -/
def State.profTo (s : State) (n v : Nat) : State :=
  let r := s.car n
  s.setCar n { r with v0 := s.profSpeed n, v1 := v, segAt := s.clk }

/-- The distance from now to the point where deceleration from the profile speed ends at CAR_V_LEVEL and levelling begins (R427). -/
def State.decelDist (s : State) (n : Nat) : Nat :=
  let r := s.car n
  sDist (max r.v1 (s.profSpeed n)) (s.nat (Oid.CAR_V_LEVEL n)) (s.nat (Oid.CAR_ACCEL n)) (s.nat (Oid.CAR_JERK n))
    + s.nat (Oid.CAR_LEVEL_START n)

/-- Arms one of the four compares of a trip at a position, LATE_WAIT 0 (R427). -/
def State.armAt (s : State) (n k : Nat) (p : Int) (up : Bool) : State :=
  let s := ((s.set (Oid.CMP_POS n k) (satI32 p)).setN (Oid.CMP_MODE n k) (if up then 1 else 2)).setN (Oid.CMP_TARGET n k) 0
  ((s.setN (Oid.CMP_FIELD n k) 0xFF).armCompare n k).mirrorRegs 4 [Oid.CMP_POS n k, Oid.CMP_MODE n k, Oid.CMP_ARM n k]

/-- The four compares of a trip to a level position (R427). -/
def State.armTrip (s : State) (n : Nat) (level : Int) (up : Bool) : State :=
  let before := fun d : Nat => if up then level - d else level + d
  let s := s.armAt n 0 (before (s.decelDist n)) up
  let s := s.armAt n 1 (before (s.nat (Oid.CAR_PREOPEN_DIST n))) up
  let s := s.armAt n 2 (before (s.nat (Oid.CAR_LEVEL_START n))) up
  let s := s.armAt n 3 (if up then level + s.nat (Oid.CAR_OVERTRAVEL n) else level - s.nat (Oid.CAR_OVERTRAVEL n)) up
  s.setCar n { s.car n with fired := 0 }

/-- The compares of a trip are disarmed. -/
def State.disarmTrip (s : State) (n : Nat) : State := (List.range 4).foldl (fun s k => s.disarmCompare n k) s

/-- A compare of the trip has fired (R418). -/
def State.cmpFired (s : State) (n k : Nat) : Bool := decide (3 ≤ s.nat (Oid.CMP_STATE n k))

/-! ### Doors (R424) -/

/-- The enabled door channels of some sides of a car. -/
def State.sideDoors (s : State) (n side : Nat) : List Nat :=
  ([0, 1].filter (fun i => side.testBit i)).map (fun i => 2 * n + i) |>.filter (fun k => s.flag (Oid.DOOR_ENABLE k))

/-- Every enabled door channel of a car. -/
def State.carDoors (s : State) (n : Nat) : List Nat := s.sideDoors n 3

/-- The doors of the present stop. -/
def State.stopDoors (s : State) (n : Nat) : List Nat := s.sideDoors n (s.car n).side

/-- Every door of the car is LOCKED. -/
def State.allLocked (s : State) (n : Nat) : Bool := (s.carDoors n).all (fun k => s.doorState k == 3)

/-- The doors of the stop open, close or nudge together (R424). -/
def State.openStop (s : State) (n : Nat) : State := (s.stopDoors n).foldl (fun s k => s.doorOpen k) s
def State.closeStop (s : State) (n : Nat) : State := (s.stopDoors n).foldl (fun s k => s.doorClose k) s
def State.nudgeStop (s : State) (n : Nat) : State :=
  (s.stopDoors n).foldl (fun s k => if s.doorState k = 6 then s.doorStartClose k true else s.doorNudge k) s

/-- HOLD has been reported for 1 ms or more on a door that is not LOCKED (R420). -/
def State.doorHeld (s : State) (k : Nat) : Bool :=
  s.doorState k != 3 && s.bit (Oid.DL_STATUS k) 3 && s.passed (s.door k).holdAt (ms 1)

/-! ### Drive (R425, R426) -/

/-- The enabled points whose SOURCE is an internal object. -/
def State.producedTo (s : State) (oid : Nat) : List Nat :=
  (s.bindings.filter (fun b => !b.2.1 && b.2.2.kind == 6 && b.2.2.addr1 == oid && s.enabledPt b.1)).map (·.1)

/-- The enabled points whose SINK is an internal object. -/
def State.consumedFrom (s : State) (oid : Nat) : List Nat :=
  (s.bindings.filter (fun b => b.2.1 && b.2.2.kind == 6 && b.2.2.addr1 == oid && s.enabledPt b.1)).map (·.1)

/-- A point's SINK is a CAN transmit entry of a class whose cycle is at most `maxUs` (R425). -/
def State.sentAs (s : State) (p cls maxUs : Nat) : Bool :=
  let b := s.sinkOf p
  let m := s.mapping b.addr1
  let d := s.entWritten m.chan m.entry
  b.kind == 2 && d.cls == cls && decide (s.nat (Oid.CAN_T_CYCLE m.chan) * d.every ≤ maxUs)

/-- The bindings of R425 are complete. -/
def State.driveBound (s : State) (n : Nat) : Bool :=
  [Oid.CAR_DRV_CTRL n, Oid.CAR_PROF_SPEED n, Oid.CAR_DRV_TARGET n].all (fun k => (s.producedTo k.oid).any (fun p => s.sentAs p 1 2000))
    && (s.producedTo (Oid.CAR_STOP n).oid).any (fun p => s.sentAs p 0 1000000000)
    && (s.consumedFrom (Oid.CAR_DRV_STATUS n).oid) != []

/-- The drive status entry is FAILED: a point that brings CAR_DRV_STATUS has its source in fault (R420, R429). (DEDUCED, log entry 92.) -/
def State.driveFailed (s : State) (n : Nat) : Bool := (s.consumedFrom (Oid.CAR_DRV_STATUS n).oid).any (fun p => (s.ptAux p).srcFault)

/-- READY, RUNNING, BRAKE_OPEN and FAULT of the drive (R426). -/
def State.drvBit (s : State) (n i : Nat) : Bool := s.bit (Oid.CAR_DRV_STATUS n) i

/-! ### The run permit (R420) -/

/-- The conditions of CAR_PERMIT whose loss the table Car faults lists under PERMIT alone: the lock and safety chains, no door in HANDSHAKE, the
car-motion loop enabled (R420, R429). (DEDUCED, log entry 153.) -/
def State.permitOwn (s : State) (n : Nat) : Bool :=
  let c := s.carSafe n
  let sp := c.sin.getLsbD 4 && c.sin.getLsbD 5
  let sl := (c.sla.getLsbD 4 && c.sla.getLsbD 5) || c.window.isSome
  sp && sl && (s.carDoors n).all (fun k => s.doorState k != 1) && s.loopOn 1 (motionLoop n)

/-- CAR_PERMIT's conditions (R420). -/
def State.permit (s : State) (n : Nat) : Bool :=
  s.permitOwn n && (s.carDoors n).all (fun k => !s.doorHeld k && s.doorState k != 10) && s.loopMode 1 (motionLoop n) != 2 && s.encValid n
    && (s.referenced n || (s.car n).ref != 0) && s.nat (Oid.CAR_FAULT n) == 0 && !s.driveFailed n && s.drvBit n 0

/-! ### Queue (R431) -/

/-- CAR_QUEUE's bytes of a queue (R450). (DEDUCED, log entry 91.) -/
def queueBytes (q : List QEntry) : List Byte :=
  q.flatMap (fun e => [BitVec.ofNat 8 e.landing, BitVec.ofNat 8 e.side, BitVec.ofNat 8 e.kinds, 0])

/-- The queue that bytes spell, for the standby (R449). -/
def queueOf : Nat → List Byte → List QEntry
  | 0, _ => []
  | n + 1, b =>
    if b.length < 4 then []
    else ⟨(b.getD 0 0).toNat, (b.getD 1 0).toNat, (b.getD 2 0).toNat⟩ :: queueOf n (b.drop 4)

/-- The queue changed, shown in CAR_QUEUE and mirrored (R449). (DEDUCED, log entry 91.) -/
def State.setQueue (s : State) (n : Nat) (q : List QEntry) : State :=
  ((s.setCar n { s.car n with queue := q }).setBlob (Oid.CAR_QUEUE n) (queueBytes q)).mirrorCar n

/-- A call placed in a queue: merged into the entry of its landing and side; none where a 65th entry would be needed (R431).
(DEDUCED, log entry 91.) -/
def placeIn (q : List QEntry) (l side kind : Nat) : Option (List QEntry) :=
  if q.any (fun e => e.landing == l && e.side == side) then
    some (q.map (fun e => if e.landing = l ∧ e.side = side then { e with kinds := withBit e.kinds kind true } else e))
  else if q.length < 64 then some (q ++ [{ landing := l, side := side, kinds := 2 ^ kind }])
  else none

/-- Places a call in a car's queue, or records QUEUE_FULL (R431). -/
def State.place (s : State) (n l side kind : Nat) : State :=
  match placeIn (s.car n).queue l side kind with
  | some q => s.setQueue n q
  | none => s.eventOf 0x0C05 n l (2 ^ kind)

/-- A drop whose pickup has not been served is not served (R431): the sources of the car's waiting calls to a landing. -/
def State.waitingFor (s : State) (n l : Nat) : List Nat :=
  (s.dsp.calls.filter (fun c => c.car == n && c.dest == l && !c.picked && !c.gone)).map (·.source)

/-- An entry may be served now; `been` lists landings that a prediction has already visited (R431). -/
def State.servable (s : State) (n : Nat) (been : List Nat) (e : QEntry) : Bool :=
  e.kinds != 16 || (s.waitingFor n e.landing).all (fun x => been.contains x)
    || s.dsp.calls.any (fun c => c.car == n && c.dest == e.landing && c.picked && !c.gone)

/-- The doors of a stop: the sides of the entries that it serves, or every permitted side (R424). -/
def State.stopSide (s : State) (n l : Nat) : Nat :=
  let side := ((s.car n).queue.filter (fun e => e.landing == l && s.servable n [] e)).foldl (fun a e => a ||| e.side) 0
  if side = 0 then s.landDoors n l else side

/-- The nearest landing among some, ahead of a position in a direction. -/
def State.ahead (s : State) (n : Nat) (pos : Int) (up : Bool) (ls : List Nat) : Option Nat :=
  (ls.filter (fun l => if up then decide (pos < s.levelPos n l up) else decide (s.levelPos n l up < pos))).foldl (fun b l =>
    match b with
    | none => some l
    | some m => if (s.levelPos n l up - pos).natAbs < (s.levelPos n m up - pos).natAbs then some l else some m) none

/-- The next landing of a queue: in landing order ahead in the present direction, then the other way (R431). -/
def State.nextStop (s : State) (n : Nat) (pos : Int) (dir : Nat) (been : List Nat) (q : List QEntry) : Option (Nat × Nat) :=
  let ls := (q.filter (s.servable n been)).map (·.landing)
  let first := dir != 2
  match s.ahead n pos first ls with
  | some l => some (l, if first then 1 else 2)
  | none =>
    match s.ahead n pos (!first) ls with
    | some l => some (l, if first then 2 else 1)
    | none => none

/-! ### Lamps and records that wait for the standby (R432, R449) -/

/-- An action goes out at once, or once the standby has confirmed the batch that carries its decision (R449). -/
def State.release1 (s : State) (a : HeldAct) : State :=
  match a with
  | .lamp e => { s with emits := s.emits ++ [e] }
  | .record r => { s with dsp := { s.dsp with outs := s.dsp.outs ++ [r] } }

/-- An action that carries a new decision (R449). -/
def State.act (s : State) (a : HeldAct) : State :=
  if s.healthyStandby then { s with dsp := { s.dsp with held := s.dsp.held ++ [(s.tw.gen + 1, a)] } } else s.release1 a

/-- Generation `a` is `b` or older than it (R167). -/
def genLe (a b : Nat) : Bool := decide ((b + 2 ^ 32 - a % 2 ^ 32) % 2 ^ 32 < 2 ^ 31)

/-- Actions whose generation is confirmed, or all of them where no healthy standby is left, go out (R449). -/
def State.releaseHeld (s : State) (upTo : Option Nat) : State :=
  let ok := fun (g : Nat) => match upTo with
    | none => true
    | some u => genLe g u
  let go := s.dsp.held.filter (fun h => ok h.1)
  let s := { s with dsp := { s.dsp with
    held := s.dsp.held.filter (fun h => !ok h.1)
    cars := s.dsp.cars.map (fun c => (c.1, { c.2 with decGen := match c.2.decGen with
      | some g => if ok g then none else some g
      | none => none })) } }
  go.foldl (fun s h => s.release1 h.2) s

/-- A lamp point is written true at a priority, or its slot is relinquished (R432). -/
def State.lamp (s : State) (base idx prio : Nat) (on : Bool) : State :=
  let p := base + idx
  if base = 0xFFFFFFFF ∨ 262144 ≤ p then s
  else s.act (.lamp { oid := 0x80000000 + p * 256, prio := prio, value := if on then [1] else [], relinq := !on, src := .internal, time := s.time })

/-- The hall lamp of a group's landing and direction. -/
def State.hallLamp (s : State) (g l : Nat) (down on : Bool) : State :=
  s.lamp (s.nat (Oid.GRP_HL_BASE g)) (2 * l + boolNat down) 9 on

/-- The car lamp of a landing: written at priority 2 in firefighters' operation, and there relinquished at both priorities (R432, R440). -/
def State.carLamp (s : State) (n l : Nat) (on : Bool) : State :=
  let b := s.nat (Oid.CAR_CL_BASE n)
  if s.carOper n = 3 ∨ s.carOper n = 4 then (if on then s.lamp b l 2 true else (s.lamp b l 9 false).lamp b l 2 false)
  else s.lamp b l 9 on

/-! ### Leaving service and faults (R429, R437) -/

/-- RUN is cleared and the motion loop opened: the end of a trip (R428). -/
def State.endRun (s : State) (n : Nat) : State :=
  let s := if s.loopMode 1 (motionLoop n) = 1 then s.openLoop 1 (motionLoop n) else s
  let r := s.car n
  (s.setCar n { r with run := false, runAt := none, v0 := 0, v1 := 0, segAt := s.clk, low := false, special := 0, window := none
                       preopened := false, decGen := none }).disarmTrip n

/-- Every call of a car removed, its lamps relinquished (R417). -/
def State.clearCalls (s : State) (n : Nat) : State :=
  let q := (s.car n).queue
  let s := q.foldl (fun s e => if e.kinds.testBit 0 then s.carLamp n e.landing false else s) s
  s.setQueue n []

/-- Every call of a car removed but the drops of passengers on board (R417, R437). -/
def State.clearButDrops (s : State) (n : Nat) : State :=
  let q := (s.car n).queue
  let s := q.foldl (fun s e => if e.kinds.testBit 0 then s.carLamp n e.landing false else s) s
  s.setQueue n ((q.filter (fun e => e.kinds.testBit 4 && s.dsp.calls.any (fun c => c.car == n && c.dest == e.landing && c.picked && !c.gone))).map
    (fun e => { e with kinds := 16 }))

/-- The cause of a fault is present now, for CAR_FAULT_ACK and for setting it (R429, R430). -/
def State.degradedCar (s : State) (n : Nat) : Bool :=
  let mine := fun p => [(s.srcOf p), (s.sinkOf p)].any (fun b => b.kind == 6 && decide (b.addr1 / 16777216 = 0x10 + n))
  s.pts.items.any (fun i => i.degraded && decide (i.cls ≤ 1) && (match i.kind with
    | .pointSource p => mine p
    | .pointSink p => mine p
    | _ => false))

/-- The cause of a fault bit is present (R429, R430). -/
def State.carCause (s : State) (n b : Nat) : Bool :=
  let ds := s.carDoors n
  if b = 1 then !s.encValid n || !s.referenced n
  else if b = 2 then s.loopMode 1 (motionLoop n) == 2
  else if b = 3 then s.drvBit n 3 || s.driveFailed n
  else if b = 7 then ds.any (fun k => s.doorHeld k)
  else if b = 8 then ds.any (fun k => s.doorState k == 10 || s.bit (Oid.DL_STATUS k) 6)
  else if b = 9 then s.bit (Oid.POS_STATUS n) 8
  else if b = 10 then s.bit (Oid.POS_STATUS n) 9
  else if b = 11 then s.bit (Oid.POS_STATUS n) 7
  else if b = 12 then ds.any (fun k => s.bit (Oid.DL_STATUS k) 2)
  else if b = 13 then s.degradedCar n
  else false

/-- The reaction of a fault: 0 STOP_NOW, 1 STOP_NEXT, 2 STOP_END, 3 at rest (R429). -/
def faultReaction (b : Nat) : Nat := if b = 9 ∨ b = 10 then 1 else if b = 8 then 3 else if 11 ≤ b ∧ b ≤ 13 then 2 else 0

end Sys2Proof.Machine
end

