-- ==== Sys2Proof/Machine/Calls.lean ====
section
/-! DEFINITION. Calls, their cost and assignment, faults and leaving service (chapter 12). -/

namespace Sys2Proof.Machine

/-! ### Cost of an assignment (R438, R439) -/

/-- CAR_LOAD is at or above CAR_LOAD_FULL % of CAR_RATED_LOAD (R433, R438). -/
def State.carFull (s : State) (n : Nat) : Bool :=
  decide ((s.nat (Oid.CAR_LOAD_FULL n) * s.nat (Oid.CAR_RATED_LOAD n) * 65536 : Nat) ≤ s.get (Oid.CAR_LOAD n) * 100)

/-- A car is eligible for a call at some landings but for the room in its queue (R438). -/
def State.suits (s : State) (g n : Nat) (ls : List Nat) : Bool :=
  let c := s.carState n
  s.nat (Oid.CAR_GROUP n) == g && s.carOper n == 0 && decide (2 ≤ c ∧ c ≤ 10) && ls.all (fun l => s.serves n l) && !s.carFull n

/-- A car is eligible for a call at some landings (R438). -/
def State.eligible (s : State) (g n : Nat) (ls : List Nat) : Bool := s.suits g n ls && decide ((s.car n).queue.length ≤ 62)

/-- A new call finds cars with fewer than 2 free entries, which take no assignment: QUEUE_FULL is recorded of each (R431). -/
def State.noteFull (s : State) (g : Nat) (ls : List Nat) (l kind : Nat) : State :=
  (List.range 12).foldl (fun s n =>
    if s.suits g n ls && decide (62 < (s.car n).queue.length) then s.eventOf 0x0C05 n l (2 ^ kind) else s) s

/-- The predicted energy of one trip, import less export, µWh (R22, R439). -/
def State.tripEnergy (s : State) (n : Nat) (up : Bool) (dist : Nat) : Int :=
  if s.flag (Oid.CM_VALID n) then
    let d := realOf dist 64000
    let m := fixToReal (s.get (Oid.CAR_LOAD n))
    let wh := fun q => divRound (realNum (s.predict n up q d m) * 1000000) (2 ^ 149)
    wh 0 - wh 1
  else (s.nat (Oid.CAR_P_RATED n) * s.tripTime n dist / 3600 : Nat)

/-- What a walk through a queue predicts: time of arrival at the pickup and at the drop in µs, and energy in µWh. -/
structure Walk where
  toPick : Option Nat := none
  toDrop : Option Nat := none
  time : Nat := 0
  energy : Int := 0
deriving DecidableEq, Repr

/-- The stops of a queue in order of service, each trip by the profile plus CAR_STOP_TIME per stop (R431, R438). -/
def State.walk (s : State) (n pick drop : Nat) : Nat → Int → Nat → List Nat → List QEntry → Walk → Walk
  | 0, _, _, _, _, w => w
  | k + 1, pos, dir, been, q, w =>
    match s.nextStop n pos dir been q with
    | none => w
    | some (l, d) =>
      let p := s.levelPos n l (d != 2)
      let dist := (p - pos).natAbs
      let t := w.time + s.tripTime n dist
      let w := { w with
        toPick := if w.toPick.isNone ∧ l = pick then some t else w.toPick
        toDrop := if w.toPick.isSome ∧ w.toDrop.isNone ∧ l = drop then some t else w.toDrop
        time := t + us (s.nat (Oid.CAR_STOP_TIME n)), energy := w.energy + s.tripEnergy n (decide (pos ≤ p)) dist }
      State.walk s n pick drop k p d (l :: been) (q.filter (fun e => e.landing != l || !s.servable n been e)) w

/-- The walk of a car's queue from where it is. -/
def State.walkFrom (s : State) (n pick drop : Nat) (q : List QEntry) : Walk :=
  s.walk n pick drop (2 * q.length + 2) (s.carPos n) (s.car n).dir [] q {}

/-- cost(c) of R438, scaled: weights as raw FIX32, times in µs, energy in µWh. -/
def State.cost (s : State) (g n : Nat) (q q' : List QEntry) (pick drop : Nat) : Int :=
  let a := s.walkFrom n pick drop q
  let b := s.walkFrom n pick drop q'
  let wait := if s.atLanding n = some pick ∧ !s.onTrip n then 0 else b.toPick.getD b.time
  let ride := if pick = drop then 0 else b.toDrop.getD b.time - wait
  s.get (Oid.GRP_W_WAIT g) * wait + s.get (Oid.GRP_W_RIDE g) * ride + s.get (Oid.GRP_W_ENERGY g) * (b.energy - a.energy)

/-- The car of lowest cost among those eligible, the lowest number on a tie (R438). -/
def State.bestCar (s : State) (g : Nat) (ls : List Nat) (q' : Nat → List QEntry) (pick drop : Nat) (not : Nat) : Option Nat :=
  (((List.range 12).filter (fun n => n != not && s.eligible g n ls)).map (fun n => (n, s.cost g n (s.car n).queue (q' n) pick drop))).foldl
    (fun (b : Option (Nat × Int)) x => match b with
      | none => some x
      | some y => if x.2 < y.2 then some x else some y) none |>.map (·.1)

/-! ### Hall and car calls (R432, R433) -/

/-- The side mask of a call without a destination: every permitted side (R424). -/
def State.callSide (s : State) (n l : Nat) : Nat := s.landDoors n l

/-- A hall call is assigned once, to the car of lowest cost; none eligible leaves it registered (R433). (DEDUCED, log entry 96.) -/
def State.assignHall (s : State) (h : HallCall) (not : Nat) : State × HallCall :=
  let kind := if h.down then 2 else 1
  let q' := fun n => (placeIn (s.car n).queue h.landing (s.callSide n h.landing) kind).getD (s.car n).queue
  match s.bestCar h.group [h.landing] q' h.landing h.landing not with
  | some n => (s.place n h.landing (s.callSide n h.landing) kind, { h with car := n })
  | none => (s, { h with car := 0xFF })

/-- A landing of a group takes hall calls (R414). -/
def State.takesHall (s : State) (g l : Nat) : Bool :=
  let m := s.nat (Oid.GRP_MODE g)
  m == 0 || (m == 2 && !((s.blob (Oid.GRP_DT_LANDINGS g)).getD (l / 8) 0).getLsbD (l % 8))

/-- A hall call registers, lights its lamp and is assigned (R432, R433). -/
def State.hallCall (s : State) (g l : Nat) (down : Bool) : State :=
  if s.dsp.halls.any (fun h => h.group == g && h.landing == l && h.down == down) || !s.takesHall g l then s
  else
    let r := (s.noteFull g [l] l (if down then 2 else 1)).assignHall { group := g, landing := l, down := down, car := 0xFF } 0xFF
    { r.1 with dsp := { r.1.dsp with halls := r.1.dsp.halls ++ [r.2] } }.hallLamp g l down true

/-- A car call registers in its own car's queue (R433, R442): ignored in a full car that holds pickups, and in firefighters' phase 1. -/
def State.carCall (s : State) (n l : Nat) : State :=
  let o := s.carOper n
  let q := (s.car n).queue
  if !s.serves n l || q.any (fun e => e.landing == l && e.kinds.testBit 0) || (s.carFull n && q.any (fun e => e.kinds.testBit 3))
      || !(o == 0 || o == 4) || s.carState n == 0 then s
  else
    let s := if o = 4 ∧ !s.onTrip n then s.clearCalls n else s
    match placeIn (s.car n).queue l (s.callSide n l) 0 with
    | some q => (s.setQueue n q).carLamp n l true
    | none => s.eventOf 0x0C05 n l 1

/-- CALL_POINT_CHANGE: a call point went true (R432). -/
def State.callPoint (s : State) (p : Nat) (v : Bool) : State :=
  if !v || s.mode != .active then s
  else
    let s := (List.range 4).foldl (fun s g =>
      let b := s.nat (Oid.GRP_HC_BASE g)
      if b ≠ 0xFFFFFFFF ∧ b ≤ p ∧ p < b + 512 then s.hallCall g ((p - b) / 2) ((p - b) % 2 == 1) else s) s
    (List.range 12).foldl (fun s n =>
      let b := s.nat (Oid.CAR_CC_BASE n)
      if b ≠ 0xFFFFFFFF ∧ b ≤ p ∧ p < b + 256 then s.carCall n (p - b) else s) s

/-! ### Destination calls (R434 to R437) -/

/-- An assignment record (R435). -/
def assignment (c : DtCall) (status door : Nat) : List Byte :=
  [BitVec.ofNat 8 c.terminal, BitVec.ofNat 8 c.seq, BitVec.ofNat 8 status, BitVec.ofNat 8 c.car, BitVec.ofNat 8 c.source,
   BitVec.ofNat 8 c.dest, BitVec.ofNat 8 door, 0]

/-- The door side of a destination call at a landing: the terminal's side where that is permitted (R424, R435). -/
def State.dtSide (s : State) (n l : Nat) (rear : Bool) : Nat :=
  let d := s.landDoors n l
  let w := if rear then 2 else 1
  if d.testBit (if rear then 1 else 0) then w else d

/-- The queue of a car with a destination call placed: a pickup entry, and a drop entry tied to it (R436). -/
def State.withDt (s : State) (n : Nat) (c : DtCall) : Option (List QEntry) :=
  let rear := c.flags.testBit 1
  match placeIn (s.car n).queue c.source (s.dtSide n c.source rear) 3 with
  | some q => placeIn q c.dest (s.dtSide n c.dest rear) 4
  | none => none

/-- An assignment record of a call is sent; a status that is not ASSIGNED or REASSIGNED is recorded (R436, R452). -/
def State.answerDt (s : State) (c : DtCall) (status : Nat) (callAt : Option Nat) : State :=
  let rear := c.flags.testBit 1
  let door := boolNat (if c.car < 12 then s.dtSide c.car c.source rear == 2 else rear)
  let s := if status = 0 ∨ status = 2 then s else s.eventOf 0x0C06 (0x100 + c.group) c.terminal status
  s.act (.record { chan := c.chan, bytes := assignment c status door, callAt := callAt })

/-- Assigns a destination call (R436, R438): the call as assigned, and the state. -/
def State.assignDt (s : State) (c : DtCall) (not : Nat) : State × DtCall :=
  let q' := fun n => (s.withDt n c).getD (s.car n).queue
  match s.bestCar c.group [c.source, c.dest] q' c.source c.dest not with
  | some n => (s.setQueue n (q' n), { c with car := n })
  | none => (s, { c with car := 0xFF })

/-- A landing of a group takes destination calls (R414). -/
def State.takesDt (s : State) (g l : Nat) : Bool :=
  let m := s.nat (Oid.GRP_MODE g)
  m == 1 || (m == 2 && ((s.blob (Oid.GRP_DT_LANDINGS g)).getD (l / 8) 0).getLsbD (l % 8))

/-- DESTINATION_CALL: one call record of a terminal (R435, R436). -/
def State.dtCall (s : State) (g : Nat) (rec : BitVec 64) (chan : Nat) : State :=
  let v := rec.toNat
  let c : DtCall := { group := g, terminal := field v 7 0, seq := field v 15 8, source := field v 31 24, dest := field v 39 32
                      flags := field v 47 40 % 4, car := 0xFF, status := 0, chan := chan, atNs := s.clk }
  if c.terminal = 0 ∨ s.mode ≠ .active ∨ !s.takesDt g c.source then s
  else
    match s.dsp.calls.find? (fun x => x.group == g && x.terminal == c.terminal && x.seq == c.seq && !s.passed x.atNs (sec 10)) with
    | some x => s.answerDt x x.status (some s.clk)
    | none =>
      if c.source = c.dest then
        let c := { c with status := 4, gone := true }
        { s with dsp := { s.dsp with calls := s.dsp.calls ++ [c] } }.answerDt c 4 (some s.clk)
      else
        let r := (s.noteFull g [c.source, c.dest] c.source 3).assignDt c 0xFF
        let st := if r.2.car = 0xFF then 1 else 0
        let c := { r.2 with status := st, gone := decide (st = 1) }
        { r.1 with dsp := { r.1.dsp with calls := r.1.dsp.calls ++ [c] } }.answerDt c st (some s.clk)

/-- Calls that are over and older than the 10 s of R436 are forgotten. -/
def State.forgetCalls (s : State) : State :=
  { s with dsp := { s.dsp with calls := s.dsp.calls.filter (fun c => !(c.gone && s.passed c.atNs (sec 10))) } }

/-- Whether a CAN entry is listed in some group's GRP_DT_TX (R434). -/
def State.isDtTx (s : State) (c e : Nat) : Bool :=
  (List.range 4).any (fun g => (List.range 8).any (fun i =>
    let b := s.blob (Oid.GRP_DT_TX g)
    decide (2 * i + 1 < b.length) && decide (leNat ((b.drop (2 * i)).take 2) = c * 256 + e)))

/-- A transmit window of a terminal's channel takes up to two records (R434, R436). -/
def State.dtWindow (s : State) (c e : Nat) : State :=
  if !s.isDtTx c e then s
  else
    let mine := (s.dsp.outs.filter (fun r => r.chan == c)).take 2
    let rest := s.dsp.outs.filter (fun r => r.chan != c) ++ (s.dsp.outs.filter (fun r => r.chan == c)).drop 2
    let b := (mine.flatMap (·.bytes)) ++ List.replicate (16 - 8 * mine.length) 0
    let s := (s.setBlob (Oid.TXB_DATA c (s.entHeld c e).buffer) b)
    let s := { s with dsp := { s.dsp with outs := rest } }
    let lat := mine.foldl (fun m r => match r.callAt with
      | some t => max m ((s.clk + 20000 - t) / 1000)
      | none => m) 0
    (List.range 4).foldl (fun s g =>
      let b := s.blob (Oid.GRP_DT_TX g)
      if (List.range 8).any (fun i => decide (2 * i + 1 < b.length) && decide (leNat ((b.drop (2 * i)).take 2) = c * 256 + e))
          ∧ s.nat (Oid.GRP_ASSIGN_LAT g) < lat then s.setN (Oid.GRP_ASSIGN_LAT g) (min lat 0xFFFFFFFF) else s) s

/-! ### Reassignment (R437) -/

/-- The hall calls of a car that leaves normal service are assigned anew (R433, R437). (DEDUCED, log entry 96.) -/
def State.reassignHalls (s : State) (n : Nat) : State :=
  let r := s.dsp.halls.foldl (fun (r : State × List HallCall) h =>
    if h.car = n then
      let x := r.1.assignHall h n
      (x.1.eventOf 0x0C07 (0x100 + h.group) n x.2.car h.landing, r.2 ++ [x.2])
    else (r.1, r.2 ++ [h])) (s, [])
  { r.1 with dsp := { r.1.dsp with halls := r.2 } }

/-- The pickups of a car that leaves normal service are assigned anew, with status REASSIGNED or CANCELLED (R437). -/
def State.reassignDts (s : State) (n : Nat) : State :=
  let r := s.dsp.calls.foldl (fun (r : State × List DtCall) c =>
    if c.car = n ∧ !c.picked ∧ !c.gone then
      let x := r.1.assignDt c n
      let st := if x.2.car = 0xFF then 3 else 2
      let c := { x.2 with status := st, gone := decide (st = 3) }
      ((x.1.eventOf 0x0C07 (0x100 + c.group) n c.car c.source).answerDt c st none, r.2 ++ [c])
    else (r.1, r.2 ++ [c])) (s, [])
  { r.1 with dsp := { r.1.dsp with calls := r.2 } }

/-- The calls of a car that leaves NORMAL operation or service: reassigned; drops of passengers on board stay while it serves (R437). -/
def State.dropCalls (s : State) (n : Nat) (keepDrops : Bool) : State :=
  let s := if keepDrops then s.clearButDrops n else s.clearCalls n
  let s := if keepDrops then s
    else { s with dsp := { s.dsp with calls := s.dsp.calls.map (fun c => if c.car = n ∧ c.picked then { c with gone := true } else c) } }
  (s.reassignHalls n).reassignDts n

/-- A car starts to open its doors at a landing: the lamps of the calls that it serves there are relinquished (R432). -/
def State.lampsOff (s : State) (n l : Nat) : State :=
  let s := if (s.car n).queue.any (fun e => e.landing == l && e.kinds.testBit 0) then s.carLamp n l false else s
  (s.dsp.halls.filter (fun h => h.car == n && h.landing == l)).foldl (fun s h => s.hallLamp h.group l h.down false) s

/-- The calls of a landing are served: lamps relinquished, calls and entries removed (R431, R432). -/
def State.serveLanding (s : State) (n l : Nat) : State :=
  let s := s.lampsOff n l
  let q := (s.car n).queue
  let here := q.filter (fun e => e.landing == l)
  let acc := s.dsp.calls.any (fun c => c.car == n && !c.gone && c.flags.testBit 0
    && ((c.source == l && !c.picked) || (c.dest == l && c.picked)))
  let calls := s.dsp.calls.map (fun c =>
    if c.car = n ∧ !c.gone then
      (if c.dest = l ∧ c.picked then { c with gone := true } else if c.source = l ∧ !c.picked then { c with picked := true } else c)
    else c)
  let s := { s with dsp := { s.dsp with halls := s.dsp.halls.filter (fun h => !(h.car == n && h.landing == l)), calls := calls } }
  let keep := q.filter (fun e => e.landing != l || !s.servable n [l] e)
  let side := here.foldl (fun a e => a ||| e.side) 0
  let s := s.setQueue n keep
  s.setCar n { s.car n with side := if side = 0 then s.landDoors n l else side, slow := acc }

/-! ### Leaving service, faults (R418, R429) -/

/-- The car becomes OUT_OF_SERVICE: cause 0 command, 1 fault, 2 degraded (R418, R429, R437). (DEDUCED, log entry 97.) -/
def State.outOfService (s : State) (n cause : Nat) : State :=
  let was := s.carState n
  if was = 0 then s
  else
    let s := (s.endRun n).tripEnd n false
    let s := s.setCar n { s.car n with outDue := false, endDue := false, ref := 0, epDone := false, epOpened := false, waiting := false
                                       waitRec := false, ffAuto := false, returnAt := none }
    ((s.setCarState n 0).eventOf 0x0C03 n cause was).dropCalls n false

/-- The cause with which a car leaves service under its fault word: DEGRADED alone is 2 (R452). (DEDUCED, log entry 97.) -/
def State.outCause (s : State) (n : Nat) : Nat := if s.nat (Oid.CAR_FAULT n) = 8192 then 2 else if s.nat (Oid.CAR_FAULT n) = 0 then 0 else 1

/-- Stops short at CAR_ACCEL toward the nearest landing that can be reached (STOP_NEXT, R429). -/
def State.stopNext (s : State) (n : Nat) : State :=
  if !s.onTrip n || s.cmpFired n 0 then s
  else
    let up := (s.car n).dir != 2
    let d := s.decelDist n
    let from' := if up then s.carPos n + d else s.carPos n - d
    match s.ahead n from' up ((List.range (s.nat (Oid.LANDINGS n))).filter (fun l => s.serves n l)) with
    | some l => (s.setN (Oid.CAR_TARGET n) l).armTrip n (s.levelPos n l up) up
    | none => s

/-- A fault bit is set, recorded, and its reaction applied (R429). (DEDUCED, log entry 97.) -/
def State.carFault (s : State) (n b : Nat) : State :=
  if s.bit (Oid.CAR_FAULT n) b then s
  else
    let s := ((s.setBit (Oid.CAR_FAULT n) b true).eventOf 0x0C01 n b (s.carState n) (par (s.carPos n))).mirrorCar n
    let c := s.carState n
    if c = 0 then s
    else if b = 7 ∧ !s.moving n then
      ((s.carDoors n).foldl (fun s k => s.doorStop k) s).outOfService n 1
    else if faultReaction b = 0 then
      let s := s.outOfService n 1
      s.setCar n { s.car n with quick := true }
    else
      let rest := s.resting n || (b == 8 && !s.moving n) || c == 11 || c == 14
      if rest then s.outOfService n (s.outCause n)
      else
        let s := s.setCar n { s.car n with endDue := true }
        if faultReaction b = 1 then s.stopNext n else s

/-- CAR_FAULT_ACK takes effect: every bit whose cause is absent clears (R426, R430). -/
def State.faultAck (s : State) (n : Nat) : State :=
  let v := s.nat (Oid.CAR_FAULT n)
  let left := ((List.range 15).filter (fun b => v.testBit b && s.carCause n b)).foldl (fun a b => a + 2 ^ b) 0
  let s := (s.setN (Oid.CAR_FAULT n) left).mirrorCar n
  if v.testBit 3 && !left.testBit 3 then s.setCar n { s.car n with faultReset := true } else s

/-- The standby sets the bits whose causes its own inputs show, without a reaction (R449). -/
def State.faultsSeen (s : State) (n : Nat) : State :=
  [8, 9, 10, 11, 12, 13].foldl (fun s b =>
    if s.carState n != 0 && s.carCause n b then s.setBit (Oid.CAR_FAULT n) b true else s) s

end Sys2Proof.Machine
end

