-- ==== Sys2Proof/Machine/Cars.lean ====
section
/-! DEFINITION. The car state machine, its operations, the drive command, emergency power, and the commands of the chapter
(chapter 12). -/

namespace Sys2Proof.Machine

/-! ### Sources (R417) -/

/-- A BOOL source; one with FAULT or INVALID keeps the last value it gave (R417). (DEDUCED, log entry 98.) -/
def State.boolSrc (s : State) (oid : Nat) (last : Bool) : Bool :=
  if oid = 0 then false
  else
    match s.takeNum oid with
    | some (_, v) => v != 0
    | none => last

/-- A BOOL source that counts as false without a valid value. -/
def State.held (s : State) (oid : Nat) : Bool := s.boolSrc oid false

/-- The sources of R417 of a car are read: bit 0 inspection, 1 rescue, 2 access-level switch, 3 car switch.
(DEDUCED, log entries 92 and 98.) -/
def State.readSources (s : State) (n : Nat) : State :=
  let r := s.car n
  let g := s.nat (Oid.CAR_GROUP n)
  let a := s.boolSrc (s.nat (Oid.CAR_INSP_SRC n)) (r.src.testBit 0)
  let b := s.boolSrc (s.nat (Oid.CAR_RESCUE_SRC n)) (r.src.testBit 1)
  let c := decide (g < 4) && s.boolSrc (s.nat (Oid.GRP_FF_SW g)) (r.src.testBit 2)
  let d := s.boolSrc (s.nat (Oid.CAR_FF_CAR_SW n)) (r.src.testBit 3)
  s.setCar n { r with src := boolNat a + 2 * boolNat b + 4 * boolNat c + 8 * boolNat d }

/-- CAR_LOAD from its source; one with FAULT or INVALID counts as CAR_RATED_LOAD (R439). -/
def State.readLoad (s : State) (n : Nat) : State :=
  let o := s.nat (Oid.CAR_LOAD_SRC n)
  let v := if o = 0 then 0 else
    match s.takeNum o with
    | some (t, v) => (toFix t v).1
    | none => fixOfInt (s.nat (Oid.CAR_RATED_LOAD n))
  s.set (Oid.CAR_LOAD n) v

/-- The load source has neither FAULT nor INVALID set (R509). -/
def State.loadValid (s : State) (n : Nat) : Bool := let o := s.nat (Oid.CAR_LOAD_SRC n); o == 0 || (s.takeNum o).isSome

/-- CAR_SPEED_MS: SPEED in m/s (R450). -/
def State.readSpeed (s : State) (n : Nat) : State := s.set (Oid.CAR_SPEED_MS n) (fixSat (divRound (s.speed n * 65536) 100000))

/-! ### Emergency power (R443, R444) -/

/-- A car's trip predicts more export than import; one without a valid model imports (R443). -/
def State.regenerating (s : State) (n : Nat) (up : Bool) (dist : Nat) : Bool := s.flag (Oid.CM_VALID n) && decide (s.tripEnergy n up dist < 0)

/-- Predicted peak import or export of a trip, mW (R439, R443). -/
def State.peakMw (s : State) (n : Nat) (up : Bool) (dist q : Nat) : Nat :=
  if s.flag (Oid.CM_VALID n) then
    (divRound (realNum (s.predict n up q (realOf dist 64000) (fixToReal (s.get (Oid.CAR_LOAD n)))) * 1000) (2 ^ 149)).toNat
  else if q = 2 then 1000 * s.nat (Oid.CAR_P_RATED n) else 0

/-- The distance and direction of the present or next trip of a car, from where its trip began or where it rests. -/
def State.tripShape (s : State) (n : Nat) (target : Int) : Nat × Bool :=
  let p0 := match s.met.trips.find n with
    | some t => t.pos
    | none => s.carPos n
  ((target - p0).natAbs, decide (p0 ≤ target))

/-- The time from a start to its CMP0, ns (R443). -/
def State.timeToCmp0 (s : State) (n dist : Nat) : Nat :=
  let a := s.nat (Oid.CAR_ACCEL n)
  let j := s.nat (Oid.CAR_JERK n)
  let vl := s.nat (Oid.CAR_V_LEVEL n)
  let v := s.tripSpeed n dist (s.nat (Oid.CAR_V_RATED n))
  let rest := dist - s.nat (Oid.CAR_LEVEL_START n) - sDist 0 v a j - sDist v vl a j
  (sTime v a j + rest * 100000000 / (64 * v)) * 1000

/-- What a moving car counts as on the generator account while a candidate would reach its own CMP0 in `own` ns (R443), mW. -/
def State.carCounts (s : State) (n own : Nat) : Int :=
  let c := s.carState n
  let insp := (c == 11 || c == 14) && (s.car n).run
  let x := s.tripShape n (s.targetPos n)
  if insp || c == 10 then (s.peakMw n x.2 x.1 2 : Int)
  else if c = 3 ∨ c = 4 then
    if s.cmpFired n 0 then 0
    else if s.regenerating n x.2 x.1 then
      if s.profSpeed n < (s.car n).v1 then s.peakMw n x.2 x.1 2
      else
        let left := (s.targetPos n - s.carPos n).natAbs - s.decelDist n
        let v := max 1 (s.profSpeed n)
        let t := left * 100000000 / (64 * v) * 1000
        if own + sec 1 ≤ t then -((s.nat Oid.EP_CREDIT * s.peakMw n x.2 x.1 3 / 100 : Nat) : Int) else 0
    else s.peakMw n x.2 x.1 2
  else 0

/-- EP_MEASURED: the present import power of the metering channels assigned to the cars, mW (R443). -/
def State.measured (s : State) : Nat :=
  ((List.range 12).map (fun n =>
    let c := s.nat (Oid.CM_CHANNEL n)
    if c < 64 then (divRound (realNum (s.nat (Oid.CH_P c)) * 1000) (2 ^ 149)).toNat else 0)).sum

/-- The sum of moving cars for a candidate (R443). -/
def State.predicted (s : State) (own : Nat) : Int := ((List.range 12).map (fun n => s.carCounts n own)).foldl (· + ·) 0

/-- A car start passes R443: predicted load with the candidate's peak import, and the measured load; and the total. -/
def State.epAdmits (s : State) (n : Nat) (target : Int) : Bool × Nat :=
  if !s.flag Oid.EP_ACTIVE then (true, 0)
  else
    let x := s.tripShape n target
    let total := (s.predicted (s.timeToCmp0 n x.1) + s.peakMw n x.2 x.1 2).toNat
    (decide (total ≤ s.acctCap 0x41) && decide (s.measured * 100 ≤ 90 * s.nat Oid.EP_BUDGET), total)

/-- EP_PREDICTED and EP_MEASURED show the load of moving cars (R443, R451). -/
def State.showEp (s : State) : State :=
  (s.setN Oid.EP_PREDICTED (min (s.predicted 0).toNat 0xFFFFFFFF)).setN Oid.EP_MEASURED (min s.measured 0xFFFFFFFF)

/-- EP_ACTIVE follows the point named by EP_SRC; the generator account follows it (Emergency power). -/
def State.readEp (s : State) : State :=
  let now := s.boolSrc (s.nat Oid.EP_SRC) (s.flag Oid.EP_ACTIVE)
  if now = s.flag Oid.EP_ACTIVE then s
  else
    let s := s.setFlag Oid.EP_ACTIVE now
    if now then { s with dsp := { s.dsp with epServed := false } }
    else { s with dsp := { s.dsp with epOffAt := s.clk, epServed := false } }

/-! ### Starting (R418, R420, R421, R427) -/

/-- The trip starts toward a landing: STARTING (R418, R427, R428, R509). (DEDUCED, log entry 94.) -/
def State.startTrip (s : State) (n l dir : Nat) : State :=
  let up := dir != 2
  let p := s.levelPos n l up
  let dist := (p - s.carPos n).natAbs
  let v := if (s.car n).ref = 1 then s.nat (Oid.CAR_V_REF n) else s.tripSpeed n dist (s.nat (Oid.CAR_V_RATED n))
  let s := (s.setN (Oid.CAR_TARGET n) l).setCar n { s.car n with
    dir := dir, run := true, runAt := none, v0 := 0, v1 := v, segAt := s.clk, low := decide ((s.car n).ref ≠ 0), special := 0, quick := false
    waiting := false, waitRec := false, ffAuto := false, refAt := s.clk, preopened := false, window := none
    decGen := if s.healthyStandby then some (s.tw.gen + 1) else none }
  let s := if (s.car n).ref = 0 then s.armTrip n p up else s
  let s := if s.loopMode 1 (motionLoop n) = 0 then s.closeLoop 1 (motionLoop n) else s
  let o := s.carOper n
  (s.setCarState n 3).tripBegin n up ((o == 0 || o == 5) && (s.car n).ref == 0 && s.loadValid n)

/-- A start begins, or becomes a candidate under emergency power (R420, R443, R444). -/
def State.tryStart (s : State) (n l dir : Nat) : State :=
  if !s.permit n || !s.allLocked n then s
  else if s.flag Oid.EP_ACTIVE then (if (s.car n).waiting then s else s.setCar n { s.car n with waiting := true, waitRec := false })
  else s.startTrip n l dir

/-- CAR_LOAD is above CAR_LOAD_EMPTY (R444). -/
def State.loaded (s : State) (n : Nat) : Bool := decide (((s.nat (Oid.CAR_LOAD_EMPTY n) : Nat) : Int) * 65536 < s.get (Oid.CAR_LOAD n))

/-- The cars whose start waits, and whether one of them is loaded (R444). -/
def State.epCandidates (s : State) : List Nat := (List.range 12).filter (fun n => (s.car n).waiting)
def State.loadedWaits (s : State) : Bool := s.epCandidates.any s.loaded

/-- What R443 answers to a start toward a position: admitted, EP_START recorded; or it waits, EP_WAIT recorded once per wait; an empty car
waits while a loaded one does (R443, R444). -/
def State.epGate (s : State) (n : Nat) (p : Int) : State × Bool :=
  if !s.flag Oid.EP_ACTIVE then (s, true)
  else
    let a := s.epAdmits n p
    if a.1 && (s.loaded n || !s.loadedWaits) then ((s.setCar n { s.car n with waitRec := false }).eventOf 0x0C09 n n a.2, true)
    else if (s.car n).waitRec then (s, false)
    else ((s.setCar n { s.car n with waitRec := true }).eventOf 0x0C08 n n a.2 (s.nat Oid.EP_BUDGET), false)

/-- A start is cancelled before its commit point: the car returns to DOOR_OPENING, and its calls there are served (R421). -/
def State.cancelStart (s : State) (n : Nat) : State :=
  let s := s.endRun n
  let s := { s with met := { s.met with trips := s.met.trips.del n } }
  ((s.serveLanding n (s.nat (Oid.CAR_LANDING n))).openStop n).setCarState n 7

/-- A start has reached its commit point (R421). (DEDUCED, log entry 94.) -/
def State.committed (s : State) (n : Nat) : Bool :=
  match (s.car n).runAt with
  | some t => decide (t ≤ s.clk)
  | none => false

/-- A new call for the landing that a STARTING car leaves: before the commit point it cancels the start, at or after it START_TOO_LATE is
recorded and the call stays in the queue (R421). -/
def State.lateCalls (s old : State) : State :=
  (List.range 12).foldl (fun s n =>
    let l := s.nat (Oid.CAR_LANDING n)
    let has := fun (x : State) => (x.car n).queue.any (fun e => e.landing == l && x.servable n [] e)
    if s.carState n == 3 && has s && !has old then (if s.committed n then s.eventOf 0x0C0A n l else s.cancelStart n) else s) s

/-- CAR_OPEN_REQUEST: an open request, or a new call for the present landing (R418, R421); in SERVICE no car leaves its rest (R4). -/
def State.openRequest (s : State) (n : Nat) : State :=
  let c := s.carState n
  let l := s.nat (Oid.CAR_LANDING n)
  if s.mode = .service then s
  else if c = 3 then
    if s.committed n then (s.eventOf 0x0C0A n l).place n l (s.callSide n l) 0 else s.cancelStart n
  else if (c = 2 ∨ c = 1) ∧ s.levelAt n l ∧ s.carOper n = 0 then
    (((s.setCar n { s.car n with side := s.landDoors n l }).serveLanding n l).openStop n).setCarState n 7
  else if c = 9 then (s.openStop n).setCarState n 7
  else s

/-- DOOR_REOPEN_REQUEST: before the commit point the door reopens; after it the request is a new open command (R371). -/
def State.reopenRequest (s : State) (k : Nat) : State :=
  let st := s.doorState k
  let n := k / 2
  if st = 6 ∨ st = 7 then
    let s := s.doorReopen k
    if s.carState n = 9 then s.setCarState n 7 else s
  else if st = 3 then (s.eventOf 0x0A08 k (par (s.get (Oid.DOOR_POS k)))).openRequest n
  else s

/-! ### At rest -/

/-- The doors of a stop open at a landing: its calls are served; in firefighters' operation they stay closed away from the access level
(R417, R418, R424, R432, R442). -/
def State.arrive (s : State) (n l : Nat) : State :=
  let s := ((s.setN (Oid.CAR_LANDING n) l).serveLanding n l)
  let o := s.carOper n
  let s := s.setCar n { s.car n with openAt := 0, ffAuto := false, epOpened := (s.car n).epOpened || o == 5 }
  if (o = 3 ∨ o = 4) ∧ l ≠ s.nat (Oid.GRP_FF_LANDING (s.nat (Oid.CAR_GROUP n))) then s.setCarState n 12
  else
    let open' := (s.stopDoors n).all (fun k => s.doorState k == 5)
    if open' && (s.car n).preopened then (s.setCar n { s.car n with dwellAt := s.clk, openAt := s.clk }).setCarState n 8
    else (s.openStop n).setCarState n 7

/-- What a car does in its rest state with an order to leave service (R418, R429). -/
def State.leaveAtRest (s : State) (n : Nat) : State :=
  let r := s.car n
  if r.endDue then s.outOfService n (s.outCause n)
  else if r.outDue ∨ s.nat (Oid.CAR_CMD n) = 0 then s.outOfService n 0
  else s

/-- A resting car serves its queue (R418). -/
def State.serveQueue (s : State) (n : Nat) : State :=
  let q := (s.car n).queue
  let here := q.find? (fun e => s.servable n [] e && s.levelAt n e.landing)
  match here with
  | some e => s.arrive n e.landing
  | none =>
    match s.nextStop n (s.carPos n) (s.car n).dir [] q with
    | some (l, d) => s.tryStart n l d
    | none => s

/-- The reference trip begins (R446). (DEDUCED, log entry 95.) -/
def State.refStart (s : State) (n : Nat) : State :=
  (s.setCar n { s.car n with ref := 1, refAt := s.clk }).tryStart n 0 2

/-- A PARKED car (R418, R446): out of service, into IDLE, or a reference trip. -/
def State.parkedStep (s : State) (n : Nat) : State :=
  let s1 := s.leaveAtRest n
  if s1.carState n ≠ 1 then s1
  else if !s.referenced n && s.nat (Oid.ABS_SOURCE n) == 0 && s.mode == .active then
    (if (s.car n).ref = 0 then s.refStart n else s.tryStart n 0 2)
  else if s.nat (Oid.CAR_CMD n) = 2 ∧ s.mode = .active ∧ s.carOper n = 0 then s.setCarState n 2
  else s

/-- An EMERGENCY_POWER car at rest (R445). -/
def State.epStep (s : State) (n : Nat) : State :=
  let home := s.nat (Oid.CAR_EP_LANDING n)
  let r := s.car n
  if r.epDone then s
  else
    match s.atLanding n with
    | some l =>
      if l = home then
        (if r.epOpened then s.setCar n { r with epDone := true }
         else (((s.setN (Oid.CAR_LANDING n) l).setCar n { r with epOpened := true, side := s.landDoors n l, openAt := 0 }).openStop n).setCarState n 7)
      else if r.epOpened then s.tryStart n home (if s.levelPos n l true ≤ s.levelPos n home true then 1 else 2)
      else (((s.setN (Oid.CAR_LANDING n) l).setCar n { r with epOpened := true, side := s.landDoors n l, openAt := 0 }).openStop n).setCarState n 7
    | none => s.tryStart n home (if s.carPos n ≤ s.levelPos n home true then 1 else 2)

/-- A FIREFIGHTER car at rest with its doors locked (R417, R441, R442). -/
def State.ffStep (s : State) (n : Nat) : State :=
  let g := s.nat (Oid.CAR_GROUP n)
  let home := s.nat (Oid.GRP_FF_LANDING g)
  if s.carOper n = 3 then
    if s.levelAt n home then ((s.setN (Oid.CAR_LANDING n) home).setCar n { s.car n with side := s.landDoors n home, openAt := 0 }).openStop n |>.setCarState n 7
    else s.tryStart n home (if s.carPos n ≤ s.levelPos n home true then 1 else 2)
  else if s.held (s.nat (Oid.CAR_FF_OPEN n)) then
    match s.atLanding n with
    | some l =>
      let s := (s.setN (Oid.CAR_LANDING n) l).serveLanding n l
      ((s.setCar n { s.car n with openAt := 0, ffAuto := false }).openStop n).setCarState n 7
    | none => s
  else
    match s.nextStop n (s.carPos n) (s.car n).dir [] ((s.car n).queue.filter (fun e => e.kinds.testBit 0)) with
    | some (l, d) => s.tryStart n l d
    | none => s

/-! ### Moving -/

/-- STARTING to RUNNING (R418). -/
def State.startingStep (s : State) (n : Nat) : State :=
  let want := (s.car n).dir == 2
  let ok := s.drvBit n 2 && decide (s.nat (Oid.CAR_V_LEVEL n) ≤ s.absSpeed n) && (decide (s.speed n < 0) == want)
  if ok then s.setCarState n 4 else s

/-- A new entry ahead, beyond CMP0 at the present deceleration, becomes the target (R427). -/
def State.retarget (s : State) (n : Nat) : State :=
  let r := s.car n
  if r.ref ≠ 0 ∨ s.carOper n ≠ 0 ∨ s.cmpFired n 0 ∨ r.endDue then s
  else
    let up := r.dir != 2
    let from' := if up then s.carPos n + s.decelDist n else s.carPos n - s.decelDist n
    match s.ahead n from' up ((r.queue.filter (s.servable n [])).map (·.landing)) with
    | some l => if l = s.nat (Oid.CAR_TARGET n) then s else ((s.setN (Oid.CAR_TARGET n) l).armTrip n (s.levelPos n l up) up).mirrorCar n
    | none => s

/-- What the firing of a trip's compares does: deceleration, levelling, overtravel (R418, R427, R429). -/
def State.compareStep (s : State) (n : Nat) : State :=
  let r := s.car n
  if r.ref ≠ 0 then s else
  let s := if s.cmpFired n 0 && !r.fired.testBit 0 then
      (s.profTo n (s.nat (Oid.CAR_V_LEVEL n))).setCar n { (s.profTo n (s.nat (Oid.CAR_V_LEVEL n))).car n with fired := withBit r.fired 0 true }
    else s
  let s := if s.carState n = 4 && s.cmpFired n 0 then s.setCarState n 5 else s
  let s := if s.carState n = 5 && s.cmpFired n 2 then s.setCarState n 6 else s
  if s.cmpFired n 3 then s.carFault n 5 else s

/-- Pre-opening: the window asked for at CMP1, the doors opened once the conditions of R422 hold. -/
def State.preopenStep (s : State) (n : Nat) : State :=
  let r := s.car n
  let c := s.carState n
  let shut := (s.carOper n == 3 || s.carOper n == 4) && s.nat (Oid.CAR_TARGET n) != s.nat (Oid.GRP_FF_LANDING (s.nat (Oid.CAR_GROUP n)))
  if !s.flag (Oid.CAR_PREOPEN n) || !(c == 5 || c == 6) || !s.cmpFired n 1 || r.preopened || r.ref != 0 || shut then s
  else
    let s := if r.window.isNone then s.setCar n { r with window := some s.clk } else s
    if s.inZone n && decide (s.absSpeed n ≤ s.nat (Oid.CAR_V_PREOPEN n)) && (s.carSafe n).window.isSome then
      let l := s.nat (Oid.CAR_TARGET n)
      let s := s.setCar n { s.car n with preopened := true, side := s.stopSide n l }
      (s.lampsOff n l).openStop n
    else s

/-- LEVELLING: at the level position RUN is cleared; at rest the stop begins (R418, R427). -/
def State.levellingStep (s : State) (n : Nat) : State :=
  let r := s.car n
  let near := decide ((s.carPos n - s.targetPos n).natAbs ≤ s.nat (Oid.CAR_LEVEL_WIN n))
  if r.ref ≠ 0 then s
  else
    let s := if near && r.run then (s.profTo n 0).setCar n { (s.profTo n 0).car n with run := false } else s
    if near && !s.moving n && !s.drvBit n 1 then
      let pre := r.preopened
      let s := (s.tripEnd n (s.nat (Oid.CAR_FAULT n) == 0)).endRun n
      (s.setCar n { s.car n with preopened := pre }).arrive n (s.nat (Oid.CAR_TARGET n))
    else s

/-- The reference trip: down to the bottom input, then to the door zone, then to rest and REF_LANDING 0 (R446).
(DEDUCED, log entry 95.) -/
def State.refStep (s : State) (n : Nat) : State :=
  let r := s.car n
  if r.ref = 0 ∨ !(s.onTrip n) then s
  else if r.ref = 1 then
    (if s.held (s.nat (Oid.CAR_BOTTOM_SRC n)) then
      let s := (s.profTo n (s.nat (Oid.CAR_V_LEVEL n)))
      (s.setCar n { s.car n with ref := 2 }).setCarState n 6
     else s)
  else if r.ref = 2 then
    (if s.inZone n then let s := s.profTo n 0; s.setCar n { s.car n with ref := 3, run := false } else s)
  else if !s.moving n && !s.drvBit n 1 then
    let s := (s.tripEnd n false).endRun n
    let s := match s.refLandingCheck n 0 with
      | none => s.refLanding n 0
      | some _ => s
    let s := s.setCar n { s.car n with ref := 0 }
    ((s.setN (Oid.CAR_LANDING n) 0).setCarState n 1).eventOf 0x0C0B n 0 (par (s.carPos n))
  else s

/-- RELEVELLING: toward the level position under R422 at CAR_V_RELEVEL; without the window within 1 s the doors close, and the car goes to
the level position with its doors locked, as a trip to an entry for its own landing (R423). (DESIGN CHOICE, log entry 151.) -/
def State.relevelStep (s : State) (n : Nat) : State :=
  let r := s.car n
  let p := s.restPos n
  let near := decide ((s.carPos n - p).natAbs ≤ s.nat (Oid.CAR_LEVEL_WIN n))
  if r.run then
    (if near then let s := s.profTo n 0; s.setCar n { s.car n with run := false } else s)
  else if near && !s.moving n then ((s.endRun n).setCar n { (s.endRun n).car n with dwellAt := s.clk }).setCarState n 8
  else if s.moving n then s
  else if s.inZone n && decide (s.absSpeed n ≤ s.nat (Oid.CAR_V_RELEVEL n)) && (s.carSafe n).window.isSome && s.permit n then
    let g := s.epGate n p
    if !g.2 then g.1
    else
      let s := g.1.setCar n { g.1.car n with
        run := true, special := 2, dir := if s.carPos n ≤ p then 1 else 2, v0 := 0, v1 := s.nat (Oid.CAR_V_RELEVEL n), segAt := s.clk
        window := some s.clk }
      let s := s.setN (Oid.CAR_TARGET n) (s.nat (Oid.CAR_LANDING n))
      if s.loopMode 1 (motionLoop n) = 0 then s.closeLoop 1 (motionLoop n) else s
  else
    match r.window with
    | some t =>
      if s.passed t (sec 1) then
        let l := s.nat (Oid.CAR_LANDING n)
        (((s.setCar n { r with window := none }).place n l (s.callSide n l) 0).closeStop n).setCarState n 9
      else s
    | none => s

/-- An entry is for the car's direction: a hall call of the other one is not (R418). -/
def State.withDir (s : State) (n : Nat) (e : QEntry) : Bool :=
  let d := (s.car n).dir
  e.kinds != 2 && e.kinds != 4 || (e.kinds.testBit 1 && d != 2) || (e.kinds.testBit 2 && d != 1)

/-- A new call for the landing at which the doors of a car are open, opening or closing: it is served there, and closing doors, or doors of
another side, open (R418). (DESIGN CHOICE, log entry 151.) -/
def State.callHere (s : State) (n : Nat) : State :=
  let l := s.nat (Oid.CAR_LANDING n)
  if s.carOper n != 0 || !s.levelAt n l || !(s.car n).queue.any (fun e => e.landing == l && s.servable n [] e && s.withDir n e) then s
  else
    let old := (s.car n).side
    let s := s.serveLanding n l
    let s := s.setCar n { s.car n with side := old ||| (s.car n).side }
    if s.carState n = 8 ∧ (s.stopDoors n).all (fun k => s.doorState k == 5) then s else (s.openStop n).setCarState n 7

/-- The doors of firefighters' phase 2 move on while their button is held, and back where it is released too soon (R442). -/
def State.ffDoor (s : State) (n : Nat) (back : Bool) (st : Nat) : State :=
  let ds := s.stopDoors n
  let s := s.setCar n { s.car n with ffAuto := back }
  let s := if st = 7 then s.openStop n
    else ds.foldl (fun s k => if s.doorState k = 4 ∨ s.doorState k = 8 then s.doorStartClose k false else s.doorClose k) s
  s.setCarState n st

/-- DOOR_CLOSING is over: the car leaves service where that is due, starts for its queue, or takes its rest state (R418). -/
def State.closedStep (s : State) (n : Nat) : State :=
  let r := s.car n
  let next := if s.carOper n = 0 ∧ s.mode = .active then s.nextStop n (s.carPos n) r.dir [] (r.queue.filter (fun e => !s.levelAt n e.landing)) else none
  if r.endDue || r.outDue || s.nat (Oid.CAR_CMD n) == 0 || next.isNone then
    let s := s.setCarState n (s.restState n)
    let s1 := s.leaveAtRest n
    if s1.carState n = 0 then s1 else s
  else
    match next with
    | some (l, d) => s.tryStart n l d
    | none => s

/-- The door states of a stop (R417, R418, R442). -/
def State.doorStep (s : State) (n : Nat) : State :=
  let s := s.callHere n
  let c := s.carState n
  let ds := s.stopDoors n
  let o := s.carOper n
  let ff := o == 4
  let auto := (s.car n).ffAuto
  let openB := s.held (s.nat (Oid.CAR_FF_OPEN n))
  let closeB := s.held (s.nat (Oid.CAR_FF_CLOSE n))
  let away := o == 3 && !s.levelAt n (s.nat (Oid.GRP_FF_LANDING (s.nat (Oid.CAR_GROUP n))))
  if c = 7 then
    if ds.all (fun k => s.doorState k == 5) then
      let r := s.car n
      (s.setCar n { r with dwellAt := s.clk, openAt := if r.openAt = 0 then s.clk else r.openAt, ffAuto := false }).setCarState n 8
    else if ff && auto && closeB then s.ffDoor n false 9
    else if ff && !auto && !openB then s.ffDoor n true 9
    else s
  else if c = 8 then
    if ff && closeB then s.ffDoor n false 9 else if away then (s.nudgeStop n).setCarState n 9 else s
  else if c = 9 then
    if s.allLocked n then (s.setCar n { s.car n with ffAuto := false }).closedStep n
    else if ds.any (fun k => s.doorState k == 8 || s.doorState k == 4) then s.setCarState n 7
    else if ff && ds.any (fun k => s.doorState k == 6 || s.doorState k == 7) then
      (if auto && openB then s.ffDoor n false 7 else if !auto && !closeB then s.ffDoor n true 7 else s)
    else s
  else s

/-! ### Operations (R416, R417, R419) -/

/-- The operation of highest precedence whose entry condition holds (R417, R419, R442, R445, R448). -/
def State.wantedOper (s : State) (n : Nat) : Nat :=
  let r := s.car n
  let act := s.mode == .active
  let o := s.carOper n
  let g := s.nat (Oid.CAR_GROUP n)
  let ffOn := s.flag (Oid.CAR_FF n) && r.src.testBit 2 && act
  let home := decide (g < 4) && s.levelAt n (s.nat (Oid.GRP_FF_LANDING g)) && !s.onTrip n
  let ffHeld := act && (o == 3 || o == 4) && (r.src.testBit 2 || !home)
  let open' := s.carState n == 8 && home
  if r.src.testBit 1 && act then 2
  else if r.src.testBit 0 then 1
  else if (o == 4 && ffHeld && r.src.testBit 3) || (o == 3 && ffHeld && open' && r.src.testBit 3) then 4
  else if ffOn || ffHeld then 3
  else if act && ((s.flag Oid.EP_ACTIVE && !r.epService) || (o == 5 && !r.epService && !s.flag Oid.EP_ACTIVE && s.carState n != 0)) then 5
  else 0

/-- Entry to an operation, as the table Operation entry (R417, R418, R437). -/
def State.enterOper (s : State) (n o : Nat) : State :=
  let was := s.carOper n
  let c := s.carState n
  let s := ((s.setN (Oid.CAR_OPER n) o).eventOf 0x0C02 n was o).mirrorCar n
  let s := s.setCar n { s.car n with epDone := false, epOpened := false, waiting := false, waitRec := false, ffAuto := false }
  if c = 0 then s
  else if o = 1 ∨ o = 2 then
    -- stops at once at CAR_ACCEL, wherever it is; all calls removed
    let v := s.profSpeed n
    let d := (s.car n).dir
    let s := ((s.tripEnd n false).endRun n).dropCalls n false
    let s := s.setCar n { s.car n with v0 := v, v1 := 0, segAt := s.clk, dir := d, ref := 0 }
    s.setCarState n (s.restState n)
  else if o = 3 then
    let s := s.dropCalls n true
    let home := s.nat (Oid.GRP_FF_LANDING (s.nat (Oid.CAR_GROUP n)))
    if s.onTrip n then
      let up := (s.car n).dir != 2
      let p := s.levelPos n home up
      let toward := if up then decide (s.carPos n + s.decelDist n ≤ p) else decide (p ≤ s.carPos n - s.decelDist n)
      if toward && !s.cmpFired n 0 then (s.setN (Oid.CAR_TARGET n) home).armTrip n p up else s.stopNext n
    else if c = 7 ∨ c = 8 then
      (if s.levelAt n home then s else (s.nudgeStop n).setCarState n 9)
    else if s.resting n then s.setCarState n 12
    else s
  else if o = 4 then s
  else if o = 5 then
    let s := s.dropCalls n true
    if s.onTrip n && !s.drvBit n 0 then s.carFault n 3
    else if s.resting n then s.setCarState n 13
    else s
  else
    if was = 1 ∨ was = 2 then s
    else if s.resting n then s.setCarState n (s.restState n)
    else s

/-- CAR_OPER follows its conditions; a car whose inspection or rescue source returns to false leaves service at rest (R417, R418). -/
def State.operStep (s : State) (n : Nat) : State :=
  let o := s.carOper n
  let w := s.wantedOper n
  let c := s.carState n
  if w = o then s
  else if (o = 1 ∨ o = 2) ∧ (c = 11 ∨ c = 14) ∧ w ≠ 1 ∧ w ≠ 2 then
    if s.moving n then s else (s.enterOper n w).outOfService n 0
  else s.enterOper n w

/-- INSPECTION and RESCUE: the car runs only while exactly one of the run buttons is held (R450); the start is admitted under R443
(R419). -/
def State.buttonStep (s : State) (n : Nat) : State :=
  let r := s.car n
  let up := s.held (s.nat (Oid.CAR_INSP_UP n))
  let dn := s.held (s.nat (Oid.CAR_INSP_DN n))
  let v := if s.carOper n = 2 then s.nat (Oid.CAR_V_RESCUE n) else s.nat (Oid.CAR_V_INSP n)
  if (up != dn) && s.permit n then
    let d := if up then 1 else 2
    if r.run ∧ r.dir = d then (if r.v1 = v then s else s.profTo n v)
    else if !r.run ∧ !s.moving n then
      let g := s.epGate n (s.carPos n)
      if !g.2 then g.1
      else
        let s := g.1.setCar n { g.1.car n with run := true, low := true, special := 1, dir := d, quick := false, v0 := 0, v1 := v, segAt := s.clk }
        if s.loopMode 1 (motionLoop n) = 0 then s.closeLoop 1 (motionLoop n) else s
    else s
  else if r.run then
    if s.profSpeed n = 0 ∧ r.v1 = 0 then s.endRun n
    else if r.v1 = 0 then s else s.profTo n 0
  else if r.waitRec then s.setCar n { r with waitRec := false }
  else s

/-! ### Faults of a tick (R429) -/

/-- The causes of the table Car faults that a medium tick finds, PERMIT where a condition fails that no other fault lists; with DOOR the car
is OUT_OF_SERVICE at rest (R429). -/
def State.faultStep (s : State) (n : Nat) : State :=
  let c := s.carState n
  if c = 0 then s
  else
    let mv := s.moving n
    let away := (s.carDoors n).any (fun k => s.doorState k != 3)
    let lim := if c = 10 then 30000 else 80000
    let s := if mv && (!s.encValid n || (!s.referenced n && (s.car n).ref == 0)) then s.carFault n 1 else s
    let s := if s.carCause n 2 then s.carFault n 2 else s
    let s := if s.carCause n 3 || (mv && !s.drvBit n 0) then s.carFault n 3 else s
    let trip := decide (3 ≤ c ∧ c ≤ 10)
    let s := if away && ((!s.inZone n && (trip || mv)) || decide (lim < s.absSpeed n)) then s.carFault n 6 else s
    let s := if s.carCause n 7 then s.carFault n 7 else s
    let s := [8, 9, 10, 11, 12, 13].foldl (fun s b => if s.carCause n b then s.carFault n b else s) s
    let c := s.carState n
    let s := if mv && !s.permitOwn n && (s.onTrip n || c == 10 || ((c == 11 || c == 14) && (s.car n).run)) then s.carFault n 0 else s
    if s.bit (Oid.CAR_FAULT n) 8 && !mv && s.carState n != 0 then s.outOfService n (s.outCause n) else s

/-- DEGRADED alone clears once no item is degraded, and the car returns (R429). -/
def State.degradedStep (s : State) (n : Nat) : State :=
  if s.carState n = 0 ∧ s.nat (Oid.CAR_FAULT n) = 8192 ∧ !s.degradedCar n then
    let s := (s.setN (Oid.CAR_FAULT n) 0).mirrorCar n
    s.setCar n { s.car n with returnDue := true }
  else s

/-! ### Return to service (R446, R447) -/

/-- A return is refused: INTEGRITY for incomplete bindings or an unreferenced car without a bottom input, BUSY otherwise (R425, R446).
(DEDUCED, log entry 95.) -/
def State.returnCheck (s : State) (n : Nat) : Option Refuse :=
  firstOf [need (s.driveBound n) .integrity,
    need (s.referenced n || s.nat (Oid.ABS_SOURCE n) != 0 || s.nat (Oid.CAR_BOTTOM_SRC n) != 0) .integrity,
    need ((s.carDoors n).all (fun k => s.doorState k == 3)) .busy, need (s.nat (Oid.CAR_FAULT n) == 0) .busy,
    need (s.mode == .active || (s.referenced n && (s.atLanding n).isSome)) .busy,
    need (!(s.mode == .service && (s.car n).src.testBit 1)) .busy]

/-- The car returns: PARKED, its loop slot configured (R428, R446). -/
def State.returnCar (s : State) (n : Nat) : State :=
  let s := match s.atLanding n with
    | some l => s.setN (Oid.CAR_LANDING n) l
    | none => s
  let s := s.setCar n { s.car n with quick := false, returnDue := false, returnAt := some s.clk, outDue := false, endDue := false, dir := 0 }
  (s.setCarState n 1).eventOf 0x0C04 n 1

/-- The medium slot that supervises a car is configured and enabled, once the car's bindings are complete; it follows the car's parameters
while it is not CLOSED (R378, R392, R428). -/
def State.motionSlot (s : State) (n : Nat) : State :=
  let j := motionLoop n
  if s.loopMode 1 j = 1 ∨ (!s.loopOn 1 j ∧ !s.driveBound n) then s
  else
    let s := ((s.setN (Oid.LOOP_LAW j 1) 2).set (Oid.FE_LIMIT j 1) (s.get (Oid.CAR_FE_LIMIT n))).setN (Oid.FE_TIME j 1) (s.nat (Oid.CAR_FE_TIME n))
    let s := ((s.set (Oid.MODEL_K j 1) 65536).set (Oid.MODEL_TAU j 1) (s.get (Oid.CAR_MODEL_TAU n))).setN (Oid.MODEL_DEAD j 1)
      (s.nat (Oid.CAR_MODEL_DEAD n))
    let s := (s.set (Oid.PL_LIMIT j 1) (s.get (Oid.CAR_PL_LIMIT n))).setN (Oid.PL_TIME j 1) (s.nat (Oid.CAR_PL_TIME n))
    let s := (s.setN (Oid.OUT_TARGET j 1) 0).setN (Oid.SP_RATE j 1) 0
    if s.loopOn 1 j then s else s.enableLoop 1 j

/-- The motion loop's setpoint and feedback (R428). -/
def State.motionInputs (s : State) (n : Nat) : State :=
  let j := motionLoop n
  if s.loopOn 1 j then
    s.setLoop 1 j { s.loopRt 1 j with
      extSp := s.get (Oid.CAR_PROF_SPEED n), extFb := if s.encValid n then some (s.get (Oid.CAR_SPEED_MS n)) else none }
  else s

/-! ### Waiting starts (R443 to R445) -/

/-- The evacuation order of waiting cars: loaded ones by descending load, then empty ones by number (R444). -/
def State.evacuation (s : State) : List Nat :=
  let ws := s.epCandidates
  (ws.filter s.loaded).mergeSort (fun a b => decide (s.get (Oid.CAR_LOAD b) ≤ s.get (Oid.CAR_LOAD a))) ++ ws.filter (fun n => !s.loaded n)

/-- Where a waiting car would go (R431, R441, R445). -/
def State.waitTarget (s : State) (n : Nat) : Option (Nat × Nat) :=
  let goTo := fun l => some (l, if s.carPos n ≤ s.levelPos n l true then 1 else 2)
  let q := (s.car n).queue
  if (s.car n).ref ≠ 0 then some (0, 2)
  else if s.carOper n = 5 then goTo (s.nat (Oid.CAR_EP_LANDING n))
  else if s.carOper n = 3 then goTo (s.nat (Oid.GRP_FF_LANDING (s.nat (Oid.CAR_GROUP n))))
  else s.nextStop n (s.carPos n) (s.car n).dir [] (if s.carOper n = 4 then q.filter (fun e => e.kinds.testBit 0) else q)

/-- A candidate that could still start but for R443 (R444). -/
def State.stillWaits (s : State) (n : Nat) : Bool :=
  (s.resting n || s.carState n == 9) && s.permit n && s.allLocked n && (s.waitTarget n).isSome

/-- One candidate in its turn (R443, R444). -/
def State.epTry (s : State) (n : Nat) : State :=
  match s.waitTarget n with
  | none => s
  | some (l, d) =>
    let g := s.epGate n (s.levelPos n l (d != 2))
    if g.2 then (g.1.startTrip n l d).showEp else g.1

/-- The waiting starts are checked: in evacuation order, those that pass R443 start; a car that could not start anyway waits no more (R444). -/
def State.epCheck (s : State) : State :=
  let s := s.epCandidates.foldl (fun s n => if s.stillWaits n then s else s.setCar n { s.car n with waiting := false, waitRec := false }) s.showEp
  s.evacuation.foldl State.epTry s

/-- The service cars of R445 return to NORMAL once every car is at its landing or out of service. -/
def State.epService (s : State) : State :=
  let done := (List.range 12).all (fun n => s.carState n == 0 || s.carOper n != 5 || (s.car n).epDone)
  if !s.flag Oid.EP_ACTIVE || s.dsp.epServed || !done then s
  else
    let cars := ((List.range 12).filter (fun n => s.carState n != 0 && s.carOper n == 5 && s.nat (Oid.CAR_GROUP n) != 0xFF)).take
      (s.nat Oid.EP_SERVICE_CARS)
    let s := { s with dsp := { s.dsp with epServed := true } }
    cars.foldl (fun s n => s.setCar n { s.car n with epService := true }) s

/-! ### The medium tick of one car -/

/-- CAR_LANDING of a moving car is the last landing that it has passed (R450). -/
def State.passLanding (s : State) (n : Nat) : State :=
  let c := s.carState n
  let up := (s.car n).dir != 2
  let here := s.nat (Oid.CAR_LANDING n)
  let beyond := fun (l m : Nat) => if up then decide (s.levelPos n m up < s.levelPos n l up) else decide (s.levelPos n l up < s.levelPos n m up)
  let behind := fun (l : Nat) => if up then decide (s.levelPos n l up ≤ s.carPos n) else decide (s.carPos n ≤ s.levelPos n l up)
  if !s.moving n || !((4 ≤ c && c ≤ 6) || c == 11 || c == 14) || !s.referenced n then s
  else
    let l := ((List.range (s.nat (Oid.LANDINGS n))).filter behind).foldl (fun m l => if beyond l m then l else m) here
    if l = here then s else (s.setN (Oid.CAR_LANDING n) l).mirrorCar n

/-- A car that the module has a use for: not OUT_OF_SERVICE, in a group, bound to a drive, or in an operation. -/
def State.carUsed (s : State) (n : Nat) : Bool := s.carState n != 0 || s.nat (Oid.CAR_CMD n) != 0 || s.nat (Oid.CAR_GROUP n) != 0xFF || s.driveBound n

/-- Supervision of one car at a medium tick: inputs, operation, permit, faults, transitions (R417, R418, R420, R429). -/
def State.carTick (s : State) (n : Nat) : State :=
  if !s.carUsed n then s
  else
    let s := ((s.readSpeed n).readLoad n).readSources n
    let s := s.motionSlot n
    if !s.drives then (s.setFlag (Oid.CAR_PERMIT n) (s.permit n)).faultsSeen n
    else
      let s := s.operStep n
      let s := s.setFlag (Oid.CAR_PERMIT n) (s.permit n)
      let s := (s.faultStep n).degradedStep n
      let c := s.carState n
      let s := if c = 1 then s.parkedStep n
        else if c = 2 then
          let s1 := s.leaveAtRest n
          if s1.carState n = 0 then s1
          else if s.nat (Oid.CAR_CMD n) = 1 ∧ (s.car n).queue = [] then s.setCarState n 1 else s.serveQueue n
        else if c = 12 ∨ c = 13 then
          let s1 := s.leaveAtRest n
          if s1.carState n = 0 then s1 else if c = 12 then s.ffStep n else s.epStep n
        else if c = 3 then ((s.retarget n).compareStep n).startingStep n
        else if c = 4 ∨ c = 5 then ((s.retarget n).compareStep n).preopenStep n
        else if c = 6 then ((s.compareStep n).preopenStep n).levellingStep n
        else if c = 7 ∨ c = 8 ∨ c = 9 then s.doorStep n
        else if c = 10 then s.relevelStep n
        else if c = 11 ∨ c = 14 then
          (if s.moving n || (s.car n).run || !s.allLocked n then s.buttonStep n
           else let s1 := s.leaveAtRest n; if s1.carState n = 0 then s1 else s.buttonStep n)
        else s
      ((s.refStep n).passLanding n).motionInputs n

/-- Step 0 of the medium tick for the cars: every car, hall calls that no car could take, and the starts that wait (R433, R444). -/
def State.carsTick (s : State) : State :=
  if !(s.up .ce && s.up .app) then s
  else
  let s := if s.drives then s.readEp else s
  let s := (List.range 12).foldl State.carTick s
  let s := if s.mode = .active then
      let r := s.dsp.halls.foldl (fun (r : State × List HallCall) h =>
        if h.car = 0xFF then let x := r.1.assignHall h 0xFF; (x.1, r.2 ++ [x.2]) else (r.1, r.2 ++ [h])) (s, [])
      ({ r.1 with dsp := { r.1.dsp with halls := r.2 } }.lateCalls s).forgetCalls
    else s
  if s.drives && s.flag Oid.EP_ACTIVE then s.epCheck.epService else if s.drives then s.showEp else s

/-! ### The drive command (R425 to R427) -/

/-- RUN may be sent: CAR_PERMIT, or a trip that goes on to its stop under a fault whose reaction is not STOP_NOW, though R420 takes the permit
with every fault (R420, R426, R429). (DEDUCED, log entry 153.) -/
def State.runPermitted (s : State) (n : Nat) : Bool := s.flag (Oid.CAR_PERMIT n) || (s.car n).endDue

/-- CAR_PROFILE: every 2 ms the profile is computed and the drive command presented (R425, R426, R427). -/
def State.carProfile (s : State) (n : Nat) : State :=
  if !(s.up .app && s.up .ce && s.carUsed n && s.drives) then s
  else
    let r := s.car n
    let stop := !r.run && decide (r.v1 = 0) && !s.moving n
    let v := if stop then 0 else s.profSpeed n
    let v' : Int := if r.dir = 2 then -(v : Int) else v
    let run := r.run && r.decGen.isNone && s.runPermitted n
    let ctrl := boolNat run + 2 * boolNat (r.dir == 2) + 4 * boolNat r.quick + 8 * boolNat r.low + 16 * boolNat r.faultReset
    let s := s.set (Oid.CAR_PROF_SPEED n) (if r.quick then 0 else fixSat (divRound (v' * 65536) 100000))
    let s := (s.setN (Oid.CAR_DRV_CTRL n) ctrl).setFlag (Oid.CAR_STOP n) r.quick
    let s := s.set (Oid.CAR_DRV_TARGET n) (if r.run then s.targetPos n else s.get (Oid.CAR_DRV_TARGET n))
    s.setCar n { r with faultReset := false }

/-- The first drive command that carries RUN leaves with its window, 20 µs after the copy (R283, R421). -/
def State.noteRun (s : State) (c e : Nat) : State :=
  let ps := (s.mappedOn c e true).map (·.1)
  (List.range 12).foldl (fun s n =>
    let r := s.car n
    if s.carState n = 3 ∧ r.runAt.isNone ∧ (s.producedTo (Oid.CAR_DRV_CTRL n).oid).any (fun p => ps.contains p && s.bit (Oid.PT_PV p) 0) then
      s.setCar n { r with runAt := some (s.clk + 20000) }
    else s) s

/-- TX_COPY with what dispatch puts into it (R283, R421, R436). (DEDUCED, log entry 94.) -/
def execTxCopy (c : Fin 8) (e : Fin 256) (s : State) : Answer :=
  let s := s.start
  .next (if s.canRuns c && s.entActive c e then ((s.copyEntry c e).dtWindow c e).noteRun c e else s.copyEntry c e)

/-! ### Timers and commands -/

/-- CAR_DWELL after the last door reached OPEN, or after the last reopen, the doors close (R418, R435); not in firefighters' operation
(R441, R442). -/
def State.dwellExpiry (s : State) (n : Nat) : State :=
  let r := s.car n
  let o := s.carOper n
  let t := s.nat (Oid.CAR_DWELL n) * (if r.slow then 2 else 1)
  if s.carState n = 8 ∧ o ≠ 3 ∧ o ≠ 4 then ((s.reach (r.dwellAt + ms t)).closeStop n).setCarState n 9 else s

/-- CAR_DWELL_EXPIRY (R418). -/
def execCarDwellExpiry (n : Fin 12) (s : State) : Answer :=
  let s := s.start
  .next (if s.serving && s.drives then s.dwellExpiry n else s)

/-- Doors held open for CAR_NUDGE_TIME are nudged closed (R418). -/
def State.nudgeExpiry (s : State) (n : Nat) : State :=
  let r := s.car n
  let o := s.carOper n
  if s.carState n = 8 ∧ o ≠ 3 ∧ o ≠ 4 then
    ((s.reach (r.openAt + sec (s.nat (Oid.CAR_NUDGE_TIME n)))).nudgeStop n).setCarState n 9
  else s

/-- CAR_NUDGE_EXPIRY (R418). -/
def execCarNudgeExpiry (n : Fin 12) (s : State) : Answer :=
  let s := s.start
  .next (if s.serving && s.drives then s.nudgeExpiry n else s)

/-- RELEVEL_TRIGGER (R418, R423). -/
def State.relevelTrigger (s : State) (n forMs : Nat) : State :=
  let p := s.restPos n
  if s.carState n = 8 ∧ s.nat (Oid.CAR_RELEVEL_WIN n) < (s.carPos n - p).natAbs ∧ 100 ≤ forMs then
    (s.setCar n { s.car n with window := some s.clk, special := 0, run := false }).setCarState n 10
  else s

/-- RELEVEL_TRIGGER (R418). -/
def execRelevelTrigger (n : Fin 12) (forMs : Nat) (s : State) : Answer :=
  let s := s.start
  .next (if s.serving && s.drives then s.relevelTrigger n forMs else s)

/-- The next car returns: the one before it is PARKED or IDLE, has failed its return, or has been returning for 30 s (R447). -/
def State.returnStep (s : State) : State :=
  let busy := (List.range 12).any (fun n =>
    let r := s.car n
    (match r.returnAt with
     | some t => !s.passed t (sec 30)
     | none => false) && !(s.carState n == 1 || s.carState n == 2))
  if busy then s
  else
    match (List.range 12).find? (fun n => (s.car n).returnDue) with
    | none => s
    | some n =>
      let s := s.setCar n { s.car n with returnDue := false }
      if s.carState n ≠ 0 ∨ s.nat (Oid.CAR_CMD n) = 0 then s
      else
        match s.returnCheck n with
        | some _ => s
        | none => s.returnCar n

/-- CAR_RETURN_STEP (R447). -/
def execCarReturnStep (s : State) : Answer :=
  let s := s.start
  .next (if s.serving && s.drives then s.returnStep else s)

/-- EP_RETURN: cars in EMERGENCY_POWER pass to IDLE one at a time (R448). -/
def State.epReturn (s : State) : State :=
  if s.flag Oid.EP_ACTIVE ∨ (List.range 12).all (fun n => s.carState n != 13 && !(s.car n).epService) then s
  else
    let s := s.reach (s.dsp.epOffAt + sec (s.nat Oid.EP_RETURN_TIME))
    let s := (List.range 12).foldl (fun s n => if (s.car n).epService then s.setCar n { s.car n with epService := false } else s) s
    match (List.range 12).find? (fun n => s.carOper n == 5 && s.carState n != 0) with
    | none => s
    | some n => if s.carState n = 13 then ((s.setN (Oid.CAR_OPER n) 0).eventOf 0x0C02 n 5 0).setCarState n 2 else s

/-- EP_RETURN (R448). -/
def execEpReturn (s : State) : Answer :=
  let s := s.start
  .next (if s.serving && s.drives then s.epReturn else s)

/-! ### Host writes of this chapter -/

/-- CAR_CMD is refused where a return would be (R430, R446). -/
def State.carCmdCheck (s : State) (n v : Nat) : Option Refuse :=
  if 2 < v then refuse .range else if v ≠ 0 ∧ s.carState n = 0 then s.returnCheck n else none

/-- CAR_CMD takes effect (R418, R430, R446). -/
def State.carCmd (s : State) (n v : Nat) : State :=
  let s := s.setN (Oid.CAR_CMD n) v
  if v = 0 then
    let still := s.resting n || ((s.carState n == 11 || s.carState n == 14) && !s.moving n && !(s.car n).run)
    (if still && s.allLocked n then s.outOfService n 0 else s.setCar n { s.car n with outDue := true })
  else
    let s := s.setCar n { s.car n with outDue := false }
    if s.carState n = 0 then s.returnCar n
    else if v = 1 ∧ s.carState n = 2 ∧ (s.car n).queue = [] then s.setCarState n 1
    else if v = 2 ∧ s.carState n = 1 ∧ s.mode = .active ∧ s.carOper n = 0 then s.setCarState n 2
    else s

/-- CAR_GROUP is refused (R412). -/
def State.carGroupCheck (s : State) (n : Nat) (v : Int) : Option Refuse :=
  andThen (need (v == 0xFF || decide (0 ≤ v ∧ v < 4)) .range) (need (s.carState n == 0) .busy)

/-- GRP_MODE and GRP_DT_LANDINGS are refused unless every car of the group is OUT_OF_SERVICE or PARKED (R414). -/
def State.groupModeCheck (s : State) (g : Nat) : Option Refuse :=
  need ((List.range 12).all (fun n => s.nat (Oid.CAR_GROUP n) != g || s.carState n == 0 || s.carState n == 1)) .busy

/-- The (channel, entry) pairs that GRP_DT_RX or GRP_DT_TX lists (R451). -/
def dtList (b : List Byte) : List (Nat × Nat) :=
  (List.range (b.length / 2)).map (fun i => let v := leNat ((b.drop (2 * i)).take 2); (v / 256, v % 256))

/-- Occurrences per second of an entry, scaled by 10^6 (R434). -/
def State.entRate (s : State) (x : Nat × Nat) : Nat :=
  let d := s.entWritten x.1 x.2
  1000000000000 / (max 1 (s.nat (Oid.CAN_T_CYCLE x.1)) * max 1 d.every)

/-- The checks of R434 on the lists of a group, as a write would leave them. -/
def State.dtListCheck (s : State) (rx tx : List Byte) : Option Refuse :=
  let r := dtList rx
  let t := dtList tx
  let fits := fun (ty : Nat) (x : Nat × Nat) =>
    let d := s.entWritten x.1 x.2
    decide (x.1 < 8) && d.type == ty && d.cls == 1 && d.len == 16
  let ok := r.all (fits 2) && t.all (fits 1)
  let chans := (r.map (·.1)).eraseDups
  let bad1 := chans.find? (fun c => decide (((t.filter (·.1 == c)).map s.entRate).sum < ((r.filter (·.1 == c)).map s.entRate).sum))
  let late := fun (x : Nat × Nat) =>
    let d := s.entWritten x.1 x.2
    s.nat (Oid.CAN_T_CYCLE x.1) * max 1 d.every + 3000
      + frameUs d.ide d.fdf d.brs d.len (s.nat (Oid.CAN_NBR x.1)) (s.nat (Oid.CAN_DBR x.1))
  let bad2 := t.find? (fun x => decide (10000 < late x))
  let rate := fun (l : List (Nat × Nat)) c => ((l.filter (·.1 == c)).map s.entRate).sum / 1000000
  firstOf [need (rx.length % 2 == 0 && tx.length % 2 == 0) .type, need ok .range,
    match bad1, bad2 with
    | some c, _ => some (noBudget (0x10 + c, rate t c, rate r c))
    | none, some x => some (noBudget (0x10 + x.1, 10000, late x))
    | none, none => none]

/-- The limits that rules of this chapter set on a car's parameters beyond their ranges. -/
def State.carParamCheck (s : State) (n i : Nat) (v : Int) : Option Refuse :=
  firstOf [need (decide (i ≠ 0x18) || decide (v < s.get (Oid.CAR_RELEVEL_WIN n))) .range,
    need (decide (i ≠ 0x19) || decide (s.get (Oid.CAR_LEVEL_WIN n) < v)) .range]

/-- At start-up, cars with CAR_CMD 1 or 2 wait for their turn to return (R447). -/
def State.carsReturn (s : State) : State :=
  (List.range 12).foldl (fun s n =>
    if s.nat (Oid.CAR_CMD n) = 0 then s else s.setCar n { s.car n with returnDue := true, returnAt := none }) s

/-- A reset takes the cars OUT_OF_SERVICE and forgets their calls (R112). -/
def State.carsReset (s : State) : State :=
  let s := { s with dsp := {} }
  (List.range 12).foldl (fun s n =>
    if s.carState n = 0 && s.blob (Oid.CAR_QUEUE n) == [] then s
    else (((s.setN (Oid.CAR_STATE n) 0).setN (Oid.CAR_OPER n) 0).setBlob (Oid.CAR_QUEUE n) []).setFlag (Oid.CAR_PERMIT n) false) s

/-- At EQUINOX the new active module takes its cars on: queues from CAR_QUEUE, what a car is doing from its state, its position unit and its
doors, and a moving car goes on without a stop (R449). (DESIGN CHOICE, log entry 154.) -/
def State.carsResume (s : State) : State :=
  (List.range 12).foldl (fun s n =>
    let r := s.car n
    let c := s.carState n
    let special := if c = 10 then 2 else if c = 11 ∨ c = 14 then 1 else 0
    let mv := s.onTrip n || ((special != 0) && s.moving n)
    let ref := if s.onTrip n ∧ !s.referenced n ∧ s.nat (Oid.ABS_SOURCE n) = 0 then (if c = 6 then 2 else 1) else 0
    let v := s.nat (if c = 10 then Oid.CAR_V_RELEVEL n else if c = 11 then Oid.CAR_V_INSP n else if c = 14 then Oid.CAR_V_RESCUE n
      else if ref = 1 then Oid.CAR_V_REF n else if ref = 2 ∨ s.cmpFired n 0 then Oid.CAR_V_LEVEL n else Oid.CAR_V_RATED n)
    let away := (([0, 1].filter (fun i => s.flag (Oid.DOOR_ENABLE (2 * n + i)) && s.doorState (2 * n + i) != 3)).map (2 ^ ·)).sum
    let window := c = 10 ∨ ((c = 5 ∨ c = 6) ∧ away ≠ 0)
    s.setCar n { r with
      queue := queueOf 64 (s.blob (Oid.CAR_QUEUE n)), run := mv, v0 := s.absSpeed n, v1 := if mv then v else 0, segAt := s.clk
      dir := if s.dirDown n then 2 else 1, since := s.clk, dwellAt := s.clk, openAt := s.clk, refAt := s.clk
      fired := boolNat (s.cmpFired n 0), runAt := if mv then some s.clk else none, ref := ref
      special := if mv then special else 0, low := mv && (special == 1 || ref != 0), endDue := c != 0 && s.nat (Oid.CAR_FAULT n) != 0
      side := if away = 0 then s.landDoors n (s.nat (Oid.CAR_LANDING n)) else away
      window := if window then some s.clk else none, preopened := (c == 5 || c == 6) && away != 0 }) s

end Sys2Proof.Machine
end

