-- ==== Sys2Proof/Machine/Time.lean ====
section
/-! DEFINITION. The time base: its clock, its status, steps, and PTP (chapter 05). -/

namespace Sys2Proof.Machine

/-! ### The clock -/

/-- One CK-NET cycle: 8 ns of elapsed time, the time base with its rate correction, and the operating time (R141, R168).
(DESIGN CHOICE, log entry 2.) -/
def State.tick (s : State) : State := s.cycles 1

/-! ### Status and steps -/

/-- TIME_MARK: the present TIME64 and TIME_STATUS (R647). -/
def State.timeMark (s : State) : State :=
  { s with rcd := { s.rcd with lastMark := s.clk } }.event 0x110C s.time (s.time / 4294967296) s.tb.status

/-- TIME_STATUS takes a value; a change is marked in the recorder, and when UNSET ends the gap of the energy registers becomes known and the
next interval record covers the time in UNSET (R148, R498, R505, R647). -/
def State.setStatus (s : State) (st : Nat) : State :=
  if s.tb.status = st then s
  else
    let was := s.tb.status
    let s := ({ s with tb := { s.tb with status := st } }.setN Oid.TIME_STATUS st).timeMark
    let s := if st = 3 ∨ st = 4 then s.flagIntervals 4 else s
    if was = 0 then { s with met := { s.met with wasUnset := true } }.gapKnown else s

/-- Launches in the order of launch time, and of acceptance at one launch time (R151, R165). -/
def launchOrder (l : List Launch) : List Launch :=
  l.mergeSort (fun a b => decide (a.time < b.time ∨ (a.time = b.time ∧ a.order ≤ b.order)))

/-- The launch with a tag of a partition changed. -/
def State.mapLaunch (s : State) (part tag : Nat) (f : Launch → Launch) : State :=
  { s with launches := s.launches.map (fun l => if l.part = part ∧ l.tag = tag then f l else l) }

/-- A launch leaves the queue: its entry and its charges are free; its tag stays held (R161, R162). -/
def State.endLaunch (s : State) (l : Launch) (st : LaunchState) : State :=
  (s.mapLaunch l.part l.tag (fun x => { x with state := st })).dropItems (fun i => i.kind == ItemKind.launch l.part l.tag)

/-- The action of a launch (R164). (DEDUCED, log entry 55.) -/
def Launch.action (l : Launch) (late : Bool) : Emit :=
  { oid := l.target, prio := l.prio, value := l.value, src := .launch l.part l.tag, time := l.time, late := late }

/-- The present time of the grandmaster, as its last message gave it (R151). -/
def State.gmNow (s : State) : Nat := s.tb.gmTime + (s.clk - s.tb.gmAt)

/-- The present time of the twin, as its last TIME frame gave it (R155). -/
def State.twinNow (s : State) : Nat := s.tb.twinTime + (s.clk - s.tb.twinAt)

/-- A rate correction within ±100 ppm; the module's control law is not given: free (R141, R149). (DESIGN CHOICE, log entry 27.) -/
def State.slew (s : State) : State :=
  let f := s.free
  let r := clampInt (-3435973) 3435973 (signed 32 f.1.toNat)
  let s := { f.2 with tb := { f.2.tb with rate := r } }
  s.set Oid.TIME_RATE_PPB (r * 1000000000 / 34359738368)

/-- TIME_OFFSET_NS takes a measured offset, saturated (R169). -/
def State.showOffset (s : State) (o : Int) : State := s.set Oid.TIME_OFFSET_NS (clampInt (-2147483647) 2147483647 o)

/-! ### PTP -/

/-- The domain of the PTP instance: 0 in profile 0, PTP_DOMAIN in profile 1 (R143, R144, R169). -/
def State.ptpDomain (s : State) : Nat := if s.get Oid.PTP_PROFILE = 0 then 0 else s.nat Oid.PTP_DOMAIN

/-- The transport of PTP messages: 0 UDP/IPv4, 1 IEEE 802.3; profile 0 knows only the second (R143, R169). -/
def State.ptpTransport (s : State) : Nat := if s.get Oid.PTP_PROFILE = 0 then 1 else s.nat Oid.PTP_TRANSPORT

/-- A module in STANDBY, whose ports run as follower-only and whose base follows the twin (R155). -/
def State.twinTimed (s : State) : Bool := s.mode == .standby || s.tb.status == 5

/-- A port may make the module grandmaster (R145, R155). (DESIGN CHOICE, log entry 131.) -/
def State.capable (s : State) : Bool :=
  !s.twinTimed && ((s.ptpOn 0 && s.get (Oid.PTP_ROLE 0) == 2) || (s.ptpOn 1 && s.get (Oid.PTP_ROLE 1) == 2))

/-- The clockIdentity: the EUI-64 formed from the MAC address of NET0 (R144). (PRESUMED, log entry 51.) -/
def clockIdentity : BitVec 64 :=
  let m := Config.mac 0
  m.extractLsb' 24 24 ++ (0xFFFE#16) ++ m.extractLsb' 0 24

/-- The module becomes grandmaster (R145, R152). -/
def State.becomeMaster (s : State) : State :=
  { s with tb := { s.tb with master := true, gm := false } }.setBlob Oid.PTP_GM_ID (leBytes 8 clockIdentity.toNat)

/-- The order of two grandmasters by their ranks, first field first (R149, IEEE 1588). -/
def rankLess : List Nat → List Nat → Bool
  | a :: x, b :: y => a < b || (a == b && rankLess x y)
  | _, _ => false

/-- The rank an Announce gives its grandmaster on a port: priority1, class, accuracy, variance, priority2, identity, steps, port. -/
def announceRank (p : Nat) (m : AnnounceMsg) : List Nat :=
  [m.priority1.toNat, m.clockClass.toNat, m.accuracy.toNat, m.variance.toNat, m.priority2.toNat, m.gmId.toNat,
    m.stepsRemoved.toNat, p]

/-- The module's own rank (R147); accuracy and variance unknown. (PRESUMED, log entry 51.) -/
def State.ownRank (s : State) : List Nat :=
  [s.nat Oid.PTP_PRIORITY1, 248, 0xFE, 0xFFFF, s.nat Oid.PTP_PRIORITY2, clockIdentity.toNat, 0, 0]

/-- The identity in a rank. -/
def rankId (r : List Nat) : Nat := r.getD 5 0

/-- An Announce was received on a port within the receipt timeout, 3 announce intervals of 1 s (R143). -/
def State.announced (s : State) (p : Nat) : Bool :=
  let h := Tbl.get 0 s.tb.annHeard p
  h != 0 && !s.passed (h - 1) (sec 3)

/-- A valid Sync was received on a port within the receipt timeout (R148). -/
def State.synced (s : State) (p : Nat) : Bool :=
  let h := Tbl.get 0 s.tb.heard p
  h != 0 && !s.passed (h - 1) (sec 3)

/-- A fault of the time base holds the status FREE (R150). -/
def State.faulted (s : State) : Bool := s.tb.fault

/-- The best grandmaster heard on the two ports: its port and rank (R149). -/
def State.bestGm (s : State) : Option (Nat × List Nat) :=
  let ok := fun p => if s.ptpOn p && s.portLinked p && s.announced p then (s.tb.ranks.find p).map (fun r => (p, r)) else none
  match ok 0, ok 1 with
  | some a, some b => if rankLess b.2 a.2 then some b else some a
  | some a, none => some a
  | none, b => b

/-- Every car is OUT_OF_SERVICE or PARKED (R150). -/
def State.carsStill (s : State) : Bool := (List.range 12).all (fun n => decide (s.carState n ≤ 1))

/-- TIME_STEP_REQ is accepted (R150, R169). -/
def State.stepReqCheck (s : State) (v : Int) : Option Refuse :=
  andThen (need (v == 1) .range)
    (need (s.mode == .service && s.carsStill && s.tb.status == 4 && s.tb.fault && s.tb.gm) .busy)

/-- TIME_SET is accepted (R152). -/
def State.timeSetCheck (s : State) : Option Refuse :=
  need (s.mode == .service && (s.tb.status == 0 || (s.tb.status == 4 && !s.tb.gm))) .busy

/-! ### The rows of the operating time and the recorder -/

/-- SOLSTICE: OPTIME40 has wrapped; the record carries operating time 0 (R168). (DESIGN CHOICE, log entry 126.) -/
def execSolstice (s : State) : Answer :=
  let s := s.start
  .next (if !s.tb.wrapped || !s.pd .aon then s
    else
      let s := { s with tb := { s.tb with wrapped := false } }.count Oid.SOLSTICE_COUNT 16
      s.acceptAt 0 0x1108 0xFFFF (s.nat Oid.POWER_CYCLES) (s.nat Oid.SOLSTICE_COUNT) 0 true)

/-- LAST_KNOWN_TIME_SAVE: the largest time held, every 600 s while LOCKED, HOLDOVER or FREE (R210). -/
def execLastKnownTimeSave (s : State) : Answer :=
  let s := s.start
  .next (if s.booted && decide (2 ≤ s.tb.status ∧ s.tb.status ≤ 4) then
      let s := s.reach (s.tb.knownAt + sec 600)
      { s.setN Oid.LAST_KNOWN_TIME (max (s.nat Oid.LAST_KNOWN_TIME) s.time) with tb := { s.tb with knownAt := s.clk } } else s)

/-- TIME_MARK: every REC_MARK_INTERVAL seconds (R647). -/
def execTimeMark (s : State) : Answer :=
  let s := s.start
  .next (if s.booted then (s.reach (s.rcd.lastMark + sec (s.nat Oid.REC_MARK_INTERVAL))).timeMark else s)

end Sys2Proof.Machine
end

