-- ==== Sys2Proof/Machine/Reset.lean ====
section
/-! DEFINITION. The reset controller: sources, reach, release, the strap, and software resets of blocks (chapter 04). -/

namespace Sys2Proof.Machine

/-! ### Reach (R112) -/

/-- The reach of a source: 1 COLD, 2 WARM, 3 CORE (table Reset sources). -/
def reachOf (b : Nat) : Nat :=
  if b = 0 ∨ b = 1 ∨ b = 6 then 1 else if b = 5 ∨ b = 7 ∨ b = 8 ∨ b = 9 then 3 else 2

/-- The wider of two reaches, 0 for none (R117). -/
def widest (a b : Nat) : Nat := if a = 0 then b else if b = 0 then a else min a b

/-- Domains that a reach keeps, as PD_STATE bits (table Reach of a reset). -/
def keptDomains (r : Nat) : Nat := if r = 1 then 0x001 else if r = 2 then 0x403 else 0x663

/-- The blocks of the domains outside a set, in the block bit layout (R127). -/
def blocksOutside (doms : Nat) : Nat :=
  (List.range 64).foldl (fun v b => if doms.testBit (domBit (blockDomain b)) then v else v + 2 ^ b) 0

/-- Read-only objects that PD-AON, MRAM or the wiring outside every reach hold, by the base of their row (R112, R177).
(DESIGN CHOICE, log entry 42.) -/
def keptAlways : List Nat :=
  [0x400, 0x401, 0x410, 0x411, 0x412, 0x413, 0x414, 0x415, 0x500, 0x501, 0x503, 0x504, 0x510, 0x511, 0x522, 0x603, 0x805, 0x806,
   0x807, 0x903, 0x904, 0x1002, 0x08000105, 0x01000108, 0x01110001, 0x01200002, 0x50020012, 0x50020013, 0x50020014, 0x50040010,
   0x50060002, 0x50060003, 0x50060010, 0x50060011, 0x50060012, 0x50060014, 0x50080000, 0x50080001, 0x50080002, 0x50080003,
   0x50080006, 0x50080007, 0x70010000, 0x7000000B, 0x70030000, 0x70030001, 0x70030004, 0x60010000, 0x60010004, 0x60010005,
   0x60020001, 0x60020002, 0x78000107, 0x7800010C, 0x7800010D, 0x78000111, 0x7C000201, 0x7C000202]

/-- Objects of PD-SLA, kept by every reach but COLD (R112). (DESIGN CHOICE, log entry 42.) -/
def keptSla : List Nat := [0x70000000, 0x70000001, 0x70000002]

/-- Objects of PD-POS, PD-MET and the time base, kept by a CORE reset (R112). -/
def keptCore (oid : Nat) : Bool :=
  let area := oid / 16777216
  area == 0x50 || (decide (0x10 ≤ area ∧ area ≤ 0x1B) && oid / 4096 % 4096 == 0x010) || (decide (0x08000100 ≤ oid ∧ oid < 0x08000400))

/-- An object keeps its value through a reset of a reach (R112, R177). Keys beyond the tables are the model's own and stay.
(DESIGN CHOICE, log entry 42.) -/
def keptObj (r oid : Nat) : Bool :=
  match lookup oid with
  | none => true
  | some (row, _) =>
    match row.kept with
    | .config | .safety | .point => true
    | .request | .live => false
    | .none =>
      row.acc == .const || row.acc == .rw || keptAlways.contains row.base || (r != 1 && keptSla.contains row.base) || (r == 3 && keptCore oid)

/-! ### What each part of the module loses -/

/-- Access: sessions and waiting requests end; the journal and the kept values stay; the committed-write records lie in LPDDR5
(R112, R178, R204). -/
def State.resetAccess (s : State) (r : Nat) : State :=
  { s with acc := { journal := s.acc.journal, live := s.acc.live, liveAt := s.acc.liveAt, committed := if r = 3 then s.acc.committed else [] } }

/-- Points: the ledger, subscriptions and live point state end; the point store stays (R112, R220). -/
def State.resetPoints (s : State) : State :=
  { s with pts := { s.pts with
      items := [], subs := [], nextHandle := 1, healthy := [], dccDisabled := false, dccNoInit := false
      aux := s.pts.aux.map (fun a =>
        (a.1, { storeMask := a.2.storeMask, storeSlots := a.2.storeSlots, storeDflt := a.2.storeDflt })) } }

/-- Twin: what the contacts and the latches hold stays (R112, R569). -/
def State.resetTwin (s : State) : State :=
  { s with tw := {
      activeOut := false, activeIn := s.tw.activeIn, ilkFault := s.tw.ilkFault, inSince := s.tw.inSince
      released := s.tw.released, heldLevels := s.tw.heldLevels } }

/-- Safety: the S-pair's state ends; the latches hold both switches, the SLA opens its own on loss of the heartbeat, and at COLD both
technologies end, and with the SLA its lockouts; the S-pair's lockouts, password and log stay (R112, R120, R516, R518, R523). -/
def State.resetSafety (s : State) (r : Nat) : State :=
  { s with saf := {
      cars := s.saf.cars.map (fun c => (c.1,
        if r = 1 then { sin := c.2.sin, lockS := c.2.lockS }
        else { c.2 with tripS := 0 }))
      block := if r = 1 then [] else s.saf.block
      pw := s.saf.pw, wrong := s.saf.wrong, locked := s.saf.locked, log := s.saf.log, hbLost := s.saf.hbLost || decide (r = 1), hbAt := s.saf.hbAt, hbCount := s.saf.hbCount
      periodAt := s.saf.periodAt, gen := s.saf.gen } }

/-- The time base: lost with PD-NET, kept by CORE with its ports reset; the operating time stays (R112, R148). -/
def State.resetTime (s : State) (r : Nat) : State :=
  if r = 3 then { s with tb := { s.tb with ranks := [], heard := [], annHeard := [], portOffset := [], good := 0 } }
  else { s with tb := { op := s.tb.op, opFrac := s.tb.opFrac, wrapped := s.tb.wrapped } }

/-- The launch queue empties; without a healthy standby the loss is recorded (R166). -/
def State.resetLaunches (s : State) : State :=
  let n := (s.launches.filter (fun l => l.live)).length
  let s := if n ≠ 0 ∧ !s.healthyStandby then s.event 0x110B n else s
  { s with launches := [] }

/-- Metering: the shadow stops and its islands end their work; the store, the saves and the models stay (R112, R505). -/
def State.resetMetering (s : State) (r : Nat) : State :=
  if r = 3 then s
  else
    let s := if s.met.stopped.isSome then s else s.energyStop r
    { s with met := { s.met with islands := [], chains := [], acquiring := 0, flagsAll := 0, trips := [], recent := []
                                 pulses := s.met.pulses.map (fun p => (p.1, { p.2 with due := [], fell := 0, offAt := 0, again := false }))
                                 ch := s.met.ch.map (fun c => (c.1, { c.2 with overFor := 0, adcBad := false, clear := none })) } }

/-- Cars, doors, loops and CAN channels (R112). -/
def State.resetLift (s : State) (r : Nat) : State :=
  let s := (List.range 12).foldl (fun s n => s.posReset n r) s
  let s := s.carsReset
  { s with doors := [], can := [], loops := [], grps := [] }

/-- The field controller's filters; the output channels, their group logic and the committed image stand at the latches, fed from L+
(R112, R120, R611). -/
def State.resetField (s : State) : State :=
  { s with fio := { s.fio with mode := s.fio.mode.filter (fun (e : Nat × Nat) => e.2 == 3), run := [], since := [] } }

/-- The default of a live value's object. -/
def liveDflt (oid : Nat) : Int :=
  match lookup oid with
  | some (r, _) => (match r.dflt with
    | .num v => v
    | .oct _ => 0)
  | none => 0

/-- The dictionary after a reset: kept objects stay, live values are those of the kept-values area, the rest reads its defaults (R112,
R177). -/
def State.resetObjs (s : State) (r : Nat) : State :=
  s.acc.live.foldl (fun s (e : Nat × Int) => s.set ⟨e.1, liveDflt e.1⟩ e.2)
    { s with objs := s.objs.filter (fun e => keptObj r e.1), blobs := s.blobs.filter (fun e => keptObj r e.1) }

/-- The domains a reach switches off; LPDDR5 is kept by CORE, and waits there for a full scrub pass (R112, R127).
(DESIGN CHOICE, log entry 35.) -/
def State.resetPower (s : State) (r : Nat) : State :=
  let k := keptDomains r
  let s := (s.setN Oid.PD_STATE (s.nat Oid.PD_STATE &&& k)).setN Oid.CK_GOOD (s.nat Oid.CK_GOOD &&& k)
  let s := s.setN Oid.BLOCK_IN_RST (s.nat Oid.BLOCK_IN_RST ||| blocksOutside k)
  let s := { s with rst := { s.rst with scrubDue := s.pow.lpddr && decide (r = 3) } }
  { s with pow := { s.pow with
      springOn := false, springSub := 0, kept := BitVec.ofNat 16 k, awake := 0, inService := 0, coreWork := [], heldGroups := 0
      lpddr := s.pow.lpddr && decide (r = 3), puOn := if r = 3 then s.pow.puOn else 0, bankGiveUp := false
      slaOffAt := if r = 1 then some s.clk else s.pow.slaOffAt } }

/-! ### Blocks (R125, R127 to R130) -/

/-- The clock-good that a block's reset waits for (R89). -/
def State.blockClock (s : State) (b : Nat) : Bool := s.ck (blockDomain b)

/-- The ledger account whose path a block carries (R130, R229). -/
def blockAcct (b : Nat) : Option Nat :=
  if 36 ≤ b ∧ b < 44 then some (0x10 + b - 36)
  else if 44 ≤ b ∧ b < 52 then some (0x18 + b - 44)
  else if 52 ≤ b ∧ b < 56 then some (b - 52)
  else if 56 ≤ b ∧ b < 60 then some (4 + b - 56)
  else none

/-- What entering reset does to the block's own unit (R112, R127). -/
def State.blockEnter (s : State) (b : Nat) : State :=
  let s :=
    if b < 12 then s.posReset b 4
    else if b < 36 then (if s.flag (Oid.DOOR_ENABLE (b - 12)) then s.doorReset (b - 12) else s)
    else if b < 44 then s.canReset (b - 36)
    else if b < 60 then s
    else s.islandStop (b - 60) 0
  match blockAcct b with
  | some a => s.acctDown a
  | none => s

/-- What leaving reset does: the block reloads its configuration, a door channel trains, an island checks itself (R127, R352, R472). -/
def State.blockLeave (s : State) (b : Nat) : State :=
  let s :=
    if 12 ≤ b ∧ b < 36 then (if s.doorUp (b - 12) then s.handshake (b - 12) else s)
    else if 36 ≤ b ∧ b < 44 then s.canTakeMode (b - 36) (s.nat (Oid.CAN_MODE (b - 36)))
    else if 60 ≤ b then (if s.bit Oid.MI_ON (b - 60) then s.islandStart (b - 60) else s)
    else s
  match blockAcct b with
  | some a => s.acctUp a
  | none => s

/-- A block's reset is asserted: cause 0 software, 1 clock-good lost (R125, R127, R140). (DEDUCED, log entry 45.) -/
def State.blockAssert (s : State) (b cause : Nat) : State :=
  if s.bit Oid.BLOCK_IN_RST b then s.setBit Oid.RST_PEND b false
  else
    let s := (s.setBit Oid.BLOCK_IN_RST b true).setBit Oid.RST_PEND b false
    let s := { s with rst := { s.rst with blockAt := s.rst.blockAt.put 0 b s.clk } }
    (s.blockEnter b).event 0x0105 b cause

/-- A block is released by every source, and leaves reset once its domain's clock is good (R89, R125, R140). -/
def State.blockRelease (s : State) (b : Nat) : State :=
  if !s.bit Oid.BLOCK_IN_RST b || s.bit Oid.BLOCK_RST b || !s.pd (blockDomain b) then s
  else if !s.blockClock b then s.setBit Oid.RST_PEND b true
  else
    let s := (s.setBit Oid.BLOCK_IN_RST b false).setBit Oid.RST_PEND b false
    (s.blockLeave b).event 0x0106 b ((s.clk - Tbl.get 0 s.rst.blockAt b) / 1000)

/-- A domain has been switched on: its blocks leave reset with its clock, without a record of their own (R89, R105). -/
def State.blocksOn (s : State) (d : Domain) : State :=
  (List.range 64).foldl (fun s b =>
    if blockDomain b = d ∧ s.bit Oid.BLOCK_IN_RST b ∧ !s.bit Oid.BLOCK_RST b then s.setBit Oid.BLOCK_IN_RST b false else s) s

/-! ### A reset takes place (R112, R113) -/

/-- Before a reset of reach WARM the energy shadow, but for words that fail their check, and the pending records are written to MRAM
(R113). -/
def State.preSave (s : State) : State :=
  let s := if s.pd .met && s.pd .mem && s.met.stopped.isNone then s.save 2 s.met.shadowBad true else s
  s.flushRecords

/-- A reset of a reach clears what the table Reach of a reset says (R112, R113). -/
def State.applyReach (s : State) (r : Nat) : State :=
  let s := if r = 2 then s.preSave else if r = 1 then s.losePending else s
  let s := if r = 1 then s.count Oid.POWER_CYCLES 32 else s
  let s := s.resetLaunches
  let s := s.resetMetering r
  let s := s.resetLift r
  let s := (s.resetPower r).resetObjs r
  let s := (((s.resetAccess r).resetPoints).resetTwin).resetSafety r
  let s := (s.resetTime r).resetField
  let s := if r = 3 then s else { (s.setN Oid.MI_ON 0) with met := { (s.setN Oid.MI_ON 0).met with shadowBad := [] } }
  let s := (List.range 64).foldl State.blockRelease s
  { s with mode := .boot, testQueue := [], testsOn := [], emits := [], mem := { s.mem with verifyAt := none, image := [], forTwin := false, other := {}, rebuild := [], tablesAt := none } }

/-! ### Sources (R114 to R121) -/

/-- A source is recorded and counts as seen (R115, R116, R119). -/
def State.noteSource (s : State) (b : Nat) : State :=
  let seen := (if s.rst.complete then 0 else s.rst.seen) ||| BitVec.twoPow 32 b
  let reach := if s.rst.complete then reachOf b else widest s.rst.reach (reachOf b)
  let s := { s with rst := { s.rst with seen := seen, reach := reach, complete := false } }
  (s.setN Oid.RESET_CAUSE seen.toNat).eventAon 0x0101 b (reachOf b) seen.toNat

/-- A source asserts its reset; a module that still holds ACTIVE_OUT, as one in SERVICE does, lets it go, and its latches hold the outputs
(R114, R118 to R120, R569). (DEDUCED, log entry 145.) -/
def State.doReset (s : State) (b : Nat) : State :=
  let s := s.release 2
  let s := (s.applyReach (reachOf b)).noteSource b
  (({ s with rst := { s.rst with
        asserted := s.rst.asserted ||| BitVec.twoPow 32 b, atNs := s.rst.atNs.put 0 b s.clk, inReset := true, pendingRel := none
        bootFail := false, strapFault := false } }.setN
    Oid.SPRING_STEP 0))

/-- The sources that waited for the release assert their resets (R121). -/
def State.endRelease (s : State) : State :=
  match s.rst.pendingRel with
  | none => s
  | some (bs, _) => bs.foldl State.doReset { s with rst := { s.rst with pendingRel := none } }

/-- A source occurs (R114 to R116, R121). -/
def State.assertSource (s : State) (b : Nat) : State :=
  if s.pow.autumn == .running || s.mode == .frozen then s.noteSource b
  else
    match s.rst.pendingRel with
    | some (bs, t) => { s with rst := { s.rst with pendingRel := some (bs ++ [b], t) } }
    | none =>
      if s.mode == .active && s.tw.activeOut then
        let healthy := s.healthyStandby
        let s := s.release 2
        if healthy then { s with rst := { s.rst with pendingRel := some ([b], s.clk) } } else s.doReset b
      else s.doReset b

/-- RELEASE_RESET_TIMEOUT: 1.2 ms after the release (R121). -/
def execReleaseResetTimeout (s : State) : Answer :=
  let s := s.start
  .next (match s.rst.pendingRel with
    | some (_, t) => (s.reach (t + us 1200)).endRelease
    | none => s)

/-! ### The strap (R131, R132) -/

/-- Upper bounds of bands 0 to 15, × 10,000 (table Strap bands). -/
def strapBounds : List Nat :=
  [867, 1477, 2056, 2658, 3299, 3819, 4406, 5001, 5619, 6215, 6744, 7367, 7960, 8535, 9118, 9700]

/-- The band of a ratio × 10,000; none for a short or an open (R131, R132). -/
def strapBand (v : Nat) : Option Nat :=
  if v < 200 then none else strapBounds.findIdx? (fun b => decide (v < b))

/-- CFG_STRAP is measured (R131, R132). -/
def State.measureStrap (s : State) (ratio : Nat) : State :=
  let s := s.setN Oid.STRAP_RATIO ratio
  match strapBand ratio with
  | some k => { s with rst := { s.rst with strapFault := false } }.setN Oid.STRAP_VALUE k
  | none => (({ s with rst := { s.rst with strapFault := true, strapAt := s.clk } }.setN Oid.STRAP_VALUE 0xFF).event 0x0103 ratio).reportHealth

/-- STRAP_RETRY: every 1 s after a strap fault (R132). -/
def execStrapRetry (strapRatio : Nat) (s : State) : Answer :=
  let s := s.start
  .next (if s.rst.strapFault && !s.rst.inReset then (s.reach (s.rst.strapAt + sec 1)).measureStrap strapRatio else s)

/-! ### Release (R114, R117) -/

/-- A source's own condition for its release holds (table Reset sources); the sources of RESET_N and THERMAL are released by their own
rows. -/
def State.releasable (s : State) (b : Nat) : Bool :=
  (if b = 0 ∨ b = 1 then (s.pow.feedA.valid || s.pow.feedB.valid) && s.pow.autumn != .running
        else decide (4 ≤ b ∧ b ≤ 13))

/-- A source is released. -/
def State.clearSource (s : State) (b : Nat) : State :=
  { s with rst := { s.rst with asserted := s.rst.asserted &&& ~~~ BitVec.twoPow 32 b } }

/-- Every source whose condition holds is released. -/
def State.clearSources (s : State) : State :=
  (List.range 15).foldl (fun s b => if s.rst.asserted.getLsbD b && s.releasable b then s.clearSource b else s) s

/-- Start-up begins from its first step (R117, R131, R134). -/
def State.startUp (s : State) (ratio : Nat) : State :=
  let r := s.rst.reach
  let s := (s.setN Oid.RESET_REACH r).setN Oid.SPRING_STEP 0
  let s := { s with
    rst := { s.rst with inReset := false, t0 := s.clk }
    pow := { s.pow with springOn := true, springT0 := s.clk, springSub := 0, kept := BitVec.ofNat 16 (keptDomains r) } }
  if r = 3 then s else s.measureStrap ratio

/-- The records of the asserted sources are written before the release: POWER_ON of the machine at its reset has none yet (R35, R119). -/
def State.noteUnseen (s : State) : State :=
  (List.range 15).foldl (fun s b =>
    if s.rst.asserted.getLsbD b && !s.rst.seen.getLsbD b then
      (if reachOf b = 1 then s.count Oid.POWER_CYCLES 32 else s).noteSource b
    else s) s

/-- RESET_RELEASE: once every asserted source has been released, start-up of the widest reach seen runs (R117). -/
def State.tryRelease (s : State) (ratio : Nat) : State :=
  if !s.rst.inReset || s.mode == .frozen then s
  else
    let s := s.reach ((s.rst.atNs.map (·.2)).foldl max 0 + ms 1)
    let s := s.noteUnseen.clearSources
    if s.rst.asserted = 0 ∧ s.pow.autumn ≠ .running then s.startUp ratio else s

/-- RESET_RELEASE. -/
def execResetRelease (strapRatio : Nat) (s : State) : Answer := .next (s.start.tryRelease strapRatio)

/-! ### RESET_N (R114, R123, R124) -/

/-- RESET_N_STATE (R139). -/
def State.setResetN (s : State) (x : ResetN) : State :=
  { s with rst := { s.rst with resetN := x } }.setN Oid.RESET_N_STATE (match x with
    | .high => 0
    | .low => 1
    | .stuck => 2)

/-- RESET_N_PRESS: low for 20 ms; ignored while stuck (R114, R123). -/
def execResetNPress (forMs : Nat) (s : State) : Answer :=
  let s := s.start
  .next (if s.rst.resetN == .high && decide (20 ≤ forMs) then (s.setResetN .low).assertSource 2 else s)

/-- RESET_N_RELEASE: high for 20 ms, or for 100 ms once stuck (R114, R123). -/
def execResetNRelease (forMs : Nat) (s : State) : Answer :=
  let s := s.start
  .next (match s.rst.resetN with
    | .high => s
    | .low => if 20 ≤ forMs then (s.clearSource 2).setResetN .high else s
    | .stuck => if 100 ≤ forMs then s.setResetN .high else s)

/-- RESET_N_STUCK: low for 8 s; recorded, and treated as released (R123). -/
def execResetNStuck (forMs : Nat) (s : State) : Answer :=
  let s := s.start
  .next (if s.rst.resetN == .low && decide (8000 ≤ forMs) then
      let s := (s.clearSource 2).setResetN .stuck
      let seen := s.rst.seen ||| BitVec.twoPow 32 3
      (({ s with rst := { s.rst with seen := seen } }.setN Oid.RESET_CAUSE seen.toNat).eventAon 0x0102 forMs)
    else s)

/-! ### Other sources -/

/-- LOCKSTEP_MISMATCH: the S-pair cores disagree (R114, R549). -/
def execLockstepMismatch (s : State) : Answer :=
  let s := s.start
  .next (if s.up .safe then { s with tw := { s.tw with lockstep := false } }.assertSource 8 else s)

/-- APP_WDOG: the application cluster watchdog has expired (R114). -/
def execAppWdog (s : State) : Answer :=
  let s := s.start
  .next (if s.up .app then s.assertSource 9 else s)

/-- The failing critical item is recorded through PD-AON, ACTIVE_OUT is released, and the reset asserted (R626). -/
def State.critical (s : State) (kind place src : Nat) : State := (s.eventAon 0x0403 kind place).assertSource src

/-- The regions marked Critical (tables SRAM regions and MRAM regions, R619). -/
def criticalRegion (r : Nat) : Bool := r == 0x01 || r == 0x02 || r == 0x47

/-- A word of the energy shadow fails its code check; which word an address holds the manual does not say, so it is any one (R113, R500, R619).
(DESIGN CHOICE, log entry 20.) -/
def State.shadowFails (s : State) : State :=
  let f := s.free
  let n := f.1.toNat
  let w : SaveWord := if n % 3 = 0 then .reg (Fin.ofNat 64 (n / 3)) (Fin.ofNat 16 (n / 192)) else if n % 3 = 1 then .residue (Fin.ofNat 20 (n / 3))
    else .owed (Fin.ofNat 20 (n / 3))
  { f.2 with met := { f.2.met with shadowBad := w :: f.2.met.shadowBad } }

/-- CRIT_DSE: an uncorrectable error in a critical region, or in both copies of a duplicated one (R619, R626). -/
def execCritDse (region : Byte) (_ : BitVec 32) (s : State) : Answer :=
  let s := s.start
  let r := region.toNat
  .next (if s.booted && (criticalRegion r || r == 0x06 || r == 0x22) then s.critical 1 r 11 else s)

/-- CRIT_PARITY_CHECK: the S-pair's check every 1 ms (R625, R626); the row does not name the register. (DESIGN CHOICE, log entry 22.) -/
def execCritParityCheck (bad : Bool) (s : State) : Answer :=
  let s := s.start
  .next (if bad && s.up .safe then
      let f := s.free
      f.2.critical 0 (f.1.toNat % 4294967296) 10
    else s)

/-! ### RESET_REQ (R121, R122) -/

/-- RESET_REQ is refused outside 1 to 3, and by an ACTIVE module without a healthy standby (R122, R139). -/
def State.resetReqCheck (s : State) (v : Int) : Option Refuse :=
  andThen (need (decide (1 ≤ v ∧ v ≤ 3)) .range) (need (!(s.mode == .active) || s.healthyStandby) .busy)

/-- An accepted RESET_REQ asserts its source (R114). -/
def State.resetReq (s : State) (v : Int) : State := s.assertSource (if v = 1 then 6 else if v = 2 then 4 else 5)

/-! ### Software resets of blocks (R127 to R129) -/

/-- The door is closed and locked (R128). -/
def State.doorShut (s : State) (k : Nat) : Bool := s.nat (Oid.DOOR_STATE k) == 3

/-- A block is in use, so that a write which sets its bit is refused (R128). -/
def State.blockBusy (s : State) (b : Nat) : Bool :=
  if b < 12 then s.carState b != 0
  else if b < 36 then
    !s.doorShut (b - 12) || s.moving ((b - 12) / 2)
  else if b < 60 then
    match blockAcct b with
    | some a => s.pts.items.any (fun i => decide (i.cls ≤ 1) && decide (0 < i.load a))
    | none => false
  else (s.island (b - 60)).cal.isSome

/-- BLOCK_RST is refused whole where it sets the bit of a block in use (R128). -/
def State.blockRstCheck (s : State) (v : Nat) : Option Refuse :=
  need ((List.range 64).all (fun b => !v.testBit b || s.bit Oid.BLOCK_RST b || !s.blockBusy b)) .busy

/-- An accepted BLOCK_RST write asserts and releases the blocks whose bits changed, and is mirrored (R127, R129).
(DEDUCED, log entry 45.) -/
def State.blockRst (s : State) (v : Nat) : State :=
  let old := s.nat Oid.BLOCK_RST
  let s := (s.setN Oid.BLOCK_RST v).mirror (.blockReset (BitVec.ofNat 64 v))
  (List.range 64).foldl (fun s b =>
    if v.testBit b && !old.testBit b then s.blockAssert b 0
    else if !v.testBit b && old.testBit b then s.blockRelease b
    else s) s

/-! ### PD-AON (R35, R101, R102, R646) -/

/-- REC_NEXT as PD-AON rebuilds it: the highest head word plus 4,096, or 0 (R646). -/
def Recorder.rebuilt (r : Recorder) : Nat :=
  let l := r.heads.filter (· != 0xFFFFFFFFFFFFFFFF)
  if l = [] then 0 else l.foldl max 0 + 4096

/-- PD-AON powers up from below 10 V: what it held is lost, and POWER_ON is asserted (R114, R593, R613, R646). (DEDUCED, log entry 36.) -/
def State.powerOn (s : State) : State :=
  let s := s.losePending
  let rec' := { s.rcd with next := s.rcd.rebuilt, droppedRun := 0 }
  let lost := s.pow.openSet
  let s := { s with
    rcd := rec'
    tb := { s.tb with op := 0, opFrac := 0, wrapped := false }
    rst := {}
    pow := { s.pow with feedA := {}, feedB := {}, autumn := .none, charging := false, aonFallback := true, openSet := none, hot := false }
    frz := { s.frz with waiting := false, low := false, ignored := false, releasedDue := none }
    mode := .boot }
  let s := (s.setN Oid.PD_STATE 1).setN Oid.CK_GOOD 0
  let s := ((s.setN Oid.BANK_MV 0).setFlag Oid.BANK_OK false).setN Oid.RESET_N_STATE 0
  let s := (s.setN Oid.FIO_WD_STATE 1).doReset 0
  match lost with
  | some (slot, words) => s.eventAon 0x0212 slot words
  | none => s

/-- POWER_ON. (DEDUCED, log entry 36.) -/
def execPowerOn (s : State) : Answer := .next s.start.powerOn

/-- PD_AON_OFF: after AUTUMN the bank falls below 10 V and PD-AON stops; operating time ends (R78, R101). -/
def execPdAonOff (mv : Nat) (s : State) : Answer :=
  let s := s.start
  .next (if mv < 10000 ∧ s.pow.autumn = .done then (s.setN Oid.PD_STATE 0).setN Oid.BANK_MV mv else s)

end Sys2Proof.Machine
end

