-- ==== Sys2Proof/Machine/Freeze.lean ====
section
/-! DEFINITION. The event recorder's ring and its reading, the freeze, and the readout port (chapter 19). -/

namespace Sys2Proof.Machine

/-! ### The ring (R641 to R648) -/

/-- The 32 bytes of a record as stored (R641, R643). -/
def Rec.bytes (r : Rec) (reps : Nat) : List Byte :=
  let body := leBytes 1 (r.seq / 4194304) ++ leBytes 2 reps ++ leBytes 4 r.p2 ++ leBytes 4 r.p1 ++ leBytes 4 r.p0
    ++ leBytes 4 r.cycles ++ leBytes 5 r.optime ++ leBytes 2 r.src ++ leBytes 2 r.code
  leBytes 4 (crc32 (leBytes 8 r.seq ++ body)) ++ body

/-- The record with a sequence number, where the ring holds it. -/
def State.record (s : State) (q : Nat) : Option Rec := s.rcd.ring.find? (fun r => r.seq == q)

/-- One entry of REC_DATA, 40 bytes (R648). -/
def State.recEntry (s : State) (q : Nat) : List Byte :=
  leBytes 8 q ++ (match s.record q with
    | none => List.replicate 32 0
    | some r => if r.bad then List.replicate 15 0 ++ leBytes 4 1 ++ List.replicate 13 0 else r.bytes r.repeats)

/-- REC_DATA from a session's REC_SEL: up to 64 entries; none where REC_SEL lies outside the ring (R648). -/
def State.recData (s : State) (sel : Nat) : Option (List Byte) :=
  if s.rcd.next = 0 ∨ sel < s.recFirst ∨ s.recLast < sel then none
  else some ((List.range (min 64 (s.rcd.next - sel))).flatMap (fun i => s.recEntry (sel + i)))

/-- EVENT_OFFER (R642, R644); CODE 0x0000 is never used (R641). -/
def execEventOffer (code src : BitVec 16) (p0 p1 p2 : BitVec 32) (s : State) : Answer :=
  let s := s.start
  .next (if code = 0 ∨ !s.booted then s else s.offer code.toNat src.toNat p0.toNat p1.toNat p2.toNat)

/-- A record of the ring as a pass of the recorder leaves it: a pending one is written; a merged one is rewritten at most once per
second, and once more when a record follows it (R644, R645). -/
def State.flushOne (s : State) (r : Rec) : Rec :=
  if r.waiting then { r with waiting := false, mramRepeats := r.repeats, mramAt := s.clk }
  else if r.repeats != r.mramRepeats && (s.passed r.mramAt (sec 1) || r.seq + 1 != s.rcd.next) then
    { r with mramRepeats := r.repeats, mramAt := s.clk }
  else r

/-- RECORD_FLUSH (R645). -/
def execRecordFlush (s : State) : Answer :=
  let s := s.start
  .next (if !s.up .mem then s
    else
      let full := decide (32768 ≤ s.rcd.waitingCount)
      { s with rcd := { s.rcd with
          ring := (s.rcd.ring.map s.flushOne).filter (fun r => decide (s.recFirst ≤ r.seq))
          freeSince := if full then s.clk else s.rcd.freeSince } })

/-- REC_RECORDS_DROPPED: once space has been free for 100 ms (R645). -/
def execRecRecordsDropped (s : State) : Answer :=
  let s := s.start
  .next (if s.rcd.droppedRun ≠ 0 ∧ s.rcd.waitingCount < 32768 then
      let s := s.reach (s.rcd.freeSince + ms 100)
      let n := s.rcd.droppedRun
      let q := s.rcd.firstDrop
      { s with rcd := { s.rcd with droppedRun := 0 } }.event 0x0405 n q
    else s)

/-! ### Freeze (R650 to R655) -/

/-- WINTER_N_STATE (R659). -/
def State.showWinter (s : State) : State :=
  s.setN Oid.WINTER_N_STATE (if !s.frz.low then 0 else if s.frz.ignored then 2 else 1)

/-- Answers the requests that wait with FROZEN (R203, R652). -/
def State.answerFrozen (s : State) : State :=
  let l := s.acc.waits ++ s.acc.held ++ s.acc.slow ++ s.tw.planReq.toList
  let s := l.foldl (fun s r => s.answer r Status.frozen.code []) s
  let s := s.acc.later.foldl (fun s r => s.emit (.resp r.ses r.op r.req Status.frozen.code [])) s
  let s := s.acc.aborts.foldl (fun s r => s.emit (.resp r.ses 0x14 r.req Status.frozen.code [])) s
  { s with acc := { s.acc with waits := [], held := [], slow := [], aborts := [], later := [] }, tw := { s.tw with planReq := none } }

/-- The latches hold every driven output at its level (R569, R653). -/
def State.holdOutputs (s : State) : State :=
  let levels := mapOf (fun b => s.outputBit b && s.outputLevel b)
  { (s.setBlob Oid.TW_HELD (mapBytes s.outputMap)) with tw := { s.tw with heldLevels := levels } }

/-- Freeze starts: steps 1 to 4 of the table Freeze entry (R652, R653). -/
def State.freeze (s : State) : State :=
  let prior := s.mode.code
  let s := s.answerFrozen
  let s := if s.tw.activeOut then s.holdOutputs else s
  let s := ((s.setN Oid.TW_SUMMARY 5).emit
    (.twin 0x04 s.tw.gen (leBytes 1 4 ++ leBytes 1 5 ++ [0, 0] ++ leBytes 4 s.checks ++ leBytes 4 Config.fwVersion.toNat ++ leBytes 8 s.time)))
  let s := if s.met.stopped.isSome then s else s.energyStop 2
  let s := (s.enter .frozen 5).count Oid.FRZ_COUNT 32
  let s := (s.eventAon 0x0110 prior s.time (s.time / 4294967296)).flushRecords
  { s with
    frz := { s.frz with
      prior := prior, optime := s.optime, readout := s.flag Oid.FRZ_READOUT_ENABLE, selfRefresh := s.pow.lpddr, clocksStopped := true
      waiting := false, since := s.clk, wordsRead := 0 }
    tw := { s.tw with activeOut := false } }

/-- A low level that counts is acted on by state (table Freeze by state). -/
def State.winterActed (s : State) : State :=
  match s.mode with
  | .boot => { s with frz := { s.frz with waiting := true } }
  | .service | .standby => s.freeze
  | .frozen => s
  | .active =>
    if !s.tw.activeOut then { s with frz := { s.frz with waiting := true } }
    else if s.healthyStandby then { s.release 9 with frz := { s.frz with waiting := true } }
    else { s with frz := { s.frz with ignored := true } }.event 0x0111 s.mode.code (s.nat Oid.TW_TWIN_SUMMARY)

/-- WINTER_N is low and counts; during AUTUMN the level is only noted (R73, R115, R650). -/
def State.winterLow (s : State) : State :=
  if s.frz.low || !s.pd .aon then s
  else
    let s := { s with frz := { s.frz with low := true } }
    (if s.pow.autumn == .running || s.frz.ignored then s else s.winterActed).showWinter

/-- WINTER_N_LOW: 1 µs is honoured, less than 0.5 µs is ignored, and between the two the manual leaves it open (R73).
(DESIGN CHOICE, log entry 24.) -/
def execWinterNLow (forNs : Nat) (s : State) : Answer :=
  let s := s.start
  .next (if 1000 ≤ forNs then s.winterLow
    else if forNs < 500 then s
    else
      let f := s.free
      if f.1.getLsbD 0 then f.2.winterLow else f.2)

/-- FREEZE_ENTRY: once every latch is open after the release, the module takes STANDBY and freeze starts (R570, R650). -/
def execFreezeEntry (s : State) : Answer :=
  let s := s.start
  .next (if s.frz.waiting && s.heldMap == 0 && !s.tw.activeOut && (s.mode == .active || s.mode == .standby) then
      (if s.mode == .active then s.enter .standby 2 else s).freeze
    else s)

/-- WINTER_N high ends a freeze: the pre-reset save, and a WARM reset, in which a RESET_N still low holds the module (R116, R655). -/
def State.unfreeze (s : State) : State :=
  let due := (min ((s.clk - s.frz.since) / 1000000) 0xFFFFFFFF, s.frz.wordsRead)
  let s := s.save 2 s.met.shadowBad true
  let s := { s with mode := .boot, frz := { s.frz with selfRefresh := false, clocksStopped := false, releasedDue := some due } }
  let s := s.doReset 12
  if s.rst.resetN == .low then
    { s with rst := { s.rst with asserted := s.rst.asserted ||| BitVec.twoPow 32 2, atNs := s.rst.atNs.put 0 2 s.clk } }
  else s

/-- A freeze that waits is cancelled: after a release with cause 9 the module stays STANDBY (R651). -/
def State.cancelFreeze (s : State) : State :=
  let s := { s with frz := { s.frz with waiting := false } }
  if s.mode == .active && !s.tw.activeOut then (s.enter .standby 2).event 0x0112 9 else s

/-- WINTER_N is high and counts; during AUTUMN its source is only recorded (R73, R115, R650). -/
def State.winterHigh (s : State) (forNs : Nat) : State :=
  let s := { s with frz := { s.frz with low := false, ignored := s.frz.ignored && decide (forNs < 1000000) } }.showWinter
  if s.mode == .frozen then (if s.pow.autumn == .running then s.noteSource 12 else s.unfreeze) else if s.frz.waiting then s.cancelFreeze else s

/-- WINTER_N_HIGH, qualified as the low level is (R73). (DESIGN CHOICE, log entry 24.) -/
def execWinterNHigh (forNs : Nat) (s : State) : Answer :=
  let s := s.start
  .next (if 1000 ≤ forNs then s.winterHigh forNs
    else if forNs < 500 then s
    else
      let f := s.free
      if f.1.getLsbD 0 then f.2.winterHigh forNs else f.2)

/-- What START_COMPLETE brings: FREEZE_RELEASED as the first record after it, and the freeze rules where WINTER_N is low (R138, R655). -/
def State.freezeAtStart (s : State) : State :=
  let s := match s.frz.releasedDue with
    | some (t, w) => { s with frz := { s.frz with releasedDue := none } }.eventAon 0x0113 t w
    | none => s
  if s.frz.low then ({ s with frz := { s.frz with waiting := false, ignored := false } }.winterActed).showWinter
  else { s with frz := { s.frz with waiting := false } }

/-! ### The readout port (R656 to R658) -/

/-- The TAP loads an instruction (R656). -/
def State.loadIr (s : State) (i : Nat) : State := { s with frz := { s.frz with ir := i } }

/-- TAP_RESET: Test-Logic-Reset selects IDCODE (R656). -/
def execTapReset (s : State) : Answer := .next (s.start.loadIr 0x01)

/-- The identification register (R656). -/
def idCode : Nat := 0x14260001

/-- IDCODE. -/
def execIdcode (s : State) : Answer := .next ((s.start.loadIr 0x01).emit (.tdo 32 idCode))

/-- The 64-bit freeze status (R656). -/
def State.frzStatus (s : State) : Nat :=
  s.frz.prior * 2 ^ 56 + s.frz.optime % 2 ^ 40 * 2 ^ 8 + boolNat s.frz.readout * 8 + boolNat s.frz.selfRefresh * 4
    + boolNat s.frz.clocksStopped * 2 + boolNat (s.mode == .frozen)

/-- FRZ_STATUS. -/
def execFrzStatus (s : State) : Answer :=
  let s := s.start.loadIr 0x10
  .next (s.emit (.tdo 64 s.frzStatus))

/-- BYPASS, and every code that the table does not list (R656). -/
def execBypassTap (code : Nat) (s : State) : Answer := .next ((s.start.loadIr (code % 256)).emit (.tdo 1 0))

/-- A readout word with its CRC over bits [383:32] (R656). -/
def readoutWord (space result addr data : Nat) : BitVec 384 :=
  let top := leBytes 44 (data + addr * 2 ^ 256 + result % 4 * 2 ^ 342 + space * 2 ^ 344)
  BitVec.ofNat 384 (crc32 top + leNat top * 2 ^ 32)

/-- An address of a space that the table Readout address allows. -/
def readoutOk (space addr : Nat) : Bool :=
  (space == 1 && addr % 16 == 0 && decide (addr < 0x03000000)) || (space == 2 && addr % 32 == 0 && decide (addr < 0x40000000))

/-- The bytes of a word: records of the ring are known; the layout of every other region is not given, and its bytes are free (R619,
R643). (DESIGN CHOICE, log entry 23.) -/
def State.readoutData (s : State) (space addr : Nat) : Nat × Nat × State :=
  let slot := (addr - 0x1E500000) / 32
  if space = 2 ∧ 0x1E500000 ≤ addr ∧ slot < 4194304 then
    match s.rcd.ring.find? (fun r => r.seq % 4194304 == slot && !r.waiting) with
    | some r => if r.bad then (2, 0, s) else (0, leNat (r.bytes r.mramRepeats), s)
    | none => (0, 0, s)
  else
    let a := s.free
    let b := a.2.free
    let c := b.2.free
    let d := c.2.free
    let e := d.2.free
    let res := e.1.toNat % 3
    let v := a.1.toNat + b.1.toNat * 2 ^ 64 + (if space = 2 then c.1.toNat * 2 ^ 128 + d.1.toNat * 2 ^ 192 else 0)
    (res, (if res = 2 then 0 else v), e.2)

/-- The word at ADDR is read (R657, R658). (DESIGN CHOICE, log entry 23.) -/
def State.readWord (s : State) : State :=
  let space := field s.frz.addr.toNat 63 56
  let addr := field s.frz.addr.toNat 31 0
  let secret := space == 2 && decide (0x26500000 ≤ addr ∧ addr < 0x26600000)
  if !s.frz.readout || secret || !readoutOk space addr then
    { s with frz := { s.frz with word := readoutWord space 3 addr 0, wordsRead := s.frz.wordsRead + 1 } }
  else
    let r := s.readoutData space addr
    { r.2.2 with frz := { r.2.2.frz with word := readoutWord space r.1 addr r.2.1, wordsRead := r.2.2.frz.wordsRead + 1 } }

/-- FRZ_ADDR: captures the address held, writes it at Update-DR and reads the word there; outside FROZEN it captures 0 and ignores the
write (R656, R657). -/
def execFrzAddr (v : BitVec 64) (s : State) : Answer :=
  let s := s.start.loadIr 0x11
  .next (if s.mode == .frozen then
      let s := s.emit (.tdo 64 s.frz.addr.toNat)
      { s with frz := { s.frz with addr := v &&& 0xFF000000FFFFFFFF } }.readWord
    else s.emit (.tdo 64 0))

/-- ADDR advances by one word (R657). -/
def nextWord (a : BitVec 64) : BitVec 64 :=
  let space := field a.toNat 63 56
  let addr := field a.toNat 31 0
  BitVec.ofNat 64 (space * 2 ^ 56 + (addr + (if space = 1 then 16 else 32)) % 2 ^ 32)

/-- FRZ_DATA: captures the word read last; at Update-DR reads the word at ADDR and then advances ADDR; outside FROZEN it captures
RESULT 3 (R656, R657). -/
def execFrzData (s : State) : Answer :=
  let s := s.start.loadIr 0x12
  .next (if s.mode == .frozen then
      let s := (s.emit (.tdo 384 s.frz.word.toNat)).readWord
      { s with frz := { s.frz with addr := nextWord s.frz.addr } }
    else s.emit (.tdo 384 (readoutWord (field s.frz.addr.toNat 63 56) 3 (field s.frz.addr.toNat 31 0) 0).toNat))

end Sys2Proof.Machine
end

