-- ==== Sys2Proof/Machine/SafeFns.lean ====
section
/-! DEFINITION. The safety functions: switches, trips and lockouts, the heartbeat, the SLA's parameter block, and the door-bypass
window (chapter 15, R514 to R528, R545 to R549). -/

namespace Sys2Proof.Machine

/-! ### The SLA's car record (R520) -/

/-- SLA_CAR of a car as a number. -/
def State.slaRec (s : State) (n : Nat) : Nat := leNat (s.blob (Oid.SLA_CAR n))

/-- The field ranges of a car record (table SLA car record). -/
def slaRecOk (v : Nat) : Bool :=
  let inR (x lo hi : Nat) : Bool := decide (lo ≤ x ∧ x ≤ hi)
  inR (field v 119 104) 10 500 && inR (field v 103 88) 100 23000 && inR (field v 87 72) 50 630 && inR (field v 71 56) 50 800
    && inR (field v 55 40) 1000 30000 && inR (field v 39 28) 50 2000 && inR (field v 27 16) 20 1000

/-! ### Trips, lockouts and switches (R515, R516, R523) -/

/-- The S-pair supervises a car that the SLA block configures, while it runs. (DEDUCED, log entry 99.) -/
def State.sWatch (s : State) (n : Nat) : Bool := s.up .safe && s.safeConfigured n && decide (n < 12)

/-- The SLA supervises a configured car while its block runs. -/
def State.lWatch (s : State) (n : Nat) : Bool := s.up .sla && s.nat Oid.SLA_STATE == 2 && s.safeConfigured n && decide (n < 12)

/-- Trips that act on SAFE_A and SAFE_B: SF6 does not (R525). -/
def actingTrips (t : BitVec 7) : BitVec 7 := t &&& 0b1011111

/-- The S-pair would have its switches closed; where the gate is shut its latches hold them, whether the S-pair runs or not (R516, R523). -/
def State.sOk (s : State) (n : Nat) : Bool :=
  let c := s.carSafe n
  (s.up .safe || !s.gate) && actingTrips c.tripS == 0 && c.lockS == 0

/-- The SLA would have its switches closed (R516, R518, R521, R523, R549). -/
def State.lOk (s : State) (n : Nat) : Bool :=
  let c := s.carSafe n
  let running := s.nat Oid.SLA_STATE == 2
    || (s.nat Oid.SLA_STATE == 4 && (match s.saf.faultAt with
        | some t => !s.passed t (us 250)
        | none => false))
  s.up .sla && running && s.safeConfigured n && !s.saf.hbLost && c.tripL == 0 && c.lockL == 0

/-- One technology's two switches: the gate permits, the latches hold, or a takeover drives what it read (R516, R567, R571). -/
def State.switchPair (s : State) (n : Nat) (now : BitVec 2) (ok : Bool) : BitVec 2 :=
  if !ok then 0
  else
    let a := 64 + 2 * n
    let one (i : Nat) : Bool :=
      if s.gate then (if s.tw.frozenOut.getLsbD (a + i) then s.tw.driven.getLsbD (a + i) else true)
      else s.heldMap.getLsbD (a + i) && now.getLsbD i
    BitVec.ofNat 2 (boolNat (one 0) + 2 * boolNat (one 1))

/-- A car's functions that trip now or are locked out, by either technology, as SF_STATE shows them (R551). -/
def State.showSafety (s : State) (n : Nat) : State :=
  let c := s.carSafe n
  let op := s.carState n
  s.setN (Oid.SF_STATE n)
    (c.sSw.toNat + 4 * c.lSw.toNat + 16 * field (s.nat (Oid.CAR_INPUTS n)) 7 6 + 64 * boolNat (op == 11 || op == 14)
      + 128 * boolNat c.window.isSome + 256 * (c.tripS ||| c.tripL).toNat + 65536 * (c.lockS ||| c.lockL).toNat)

/-- The switches of a car follow their conditions; a change of an output starts KFB_TIME_MS and BRK_TIME_MS (R515, R516, R522). -/
def State.setSwitches (s : State) (n : Nat) : State :=
  let c := s.carSafe n
  let sw := s.switchPair n c.sSw (s.sOk n)
  let lw := s.switchPair n c.lSw (s.lOk n)
  let moved := (sw &&& lw) != (c.sSw &&& c.lSw)
  let s := s.setCarSafe n { c with sSw := sw, lSw := lw, outAt := if moved then s.clk else c.outAt }
  s.showSafety n

/-- The switches of every car follow. -/
def State.setAllSwitches (s : State) : State := (List.range 12).foldl State.setSwitches s

/-- Both outputs of a car are on. -/
def State.bothOn (s : State) (n : Nat) : Bool := let c := s.carSafe n; (c.sSw &&& c.lSw) == 3

/-- Both outputs of a car are off: its safe state (R515). -/
def State.bothOff (s : State) (n : Nat) : Bool := let c := s.carSafe n; (c.sSw &&& c.lSw) == 0

/-- A bit of a function's number. -/
def sfBit (f : Nat) : BitVec 7 := BitVec.twoPow 7 (f - 1)

/-- The S-pair's lockouts of a car go to the twin (R523). -/
def State.mirrorLocks (s : State) (n : Nat) : State := s.mirror (.values 9 [(0x7000F100 + n, ((s.carSafe n).lockS.toNat : Int))] [])

/-- A function of a technology trips, with or without a lockout; a new trip and a new lockout are recorded (R523, R552).
(DEDUCED, log entry 101.) -/
def State.trip (s : State) (n f : Nat) (sla lockout : Bool) : State :=
  let c := s.carSafe n
  let was := if sla then c.tripL.getLsbD (f - 1) else c.tripS.getLsbD (f - 1)
  let lk := if sla then c.lockL.getLsbD (f - 1) else c.lockS.getLsbD (f - 1)
  let c := if sla then { c with tripL := c.tripL ||| sfBit f, clearL := s.clk, lockL := if lockout then c.lockL ||| sfBit f else c.lockL }
    else { c with tripS := c.tripS ||| sfBit f, clearS := s.clk, lockS := if lockout then c.lockS ||| sfBit f else c.lockS }
  let s := s.setCarSafe n c
  let s := if was || lk then s else (s.eventOf 0x0501 n f (boolNat sla)).count (Oid.SF_TRIPS n) 32
  let s := if lockout && !lk then s.eventOf 0x0502 n f (boolNat sla) else s
  let s := s.setSwitches n
  if lockout && !lk && !sla then s.mirrorLocks n else s

/-! ### What the S-pair watches (R522) -/

/-- The S-pair's own door-bypass window: asked for by dispatch, under the zone and speed conditions of R422 and R423 (R527).
(DEDUCED, log entry 100.) -/
def State.sWindow (s : State) (n : Nat) : Bool :=
  let r := s.car n
  (r.window.isSome || r.preopened) && s.inZone n
    && decide (s.absSpeed n ≤ s.nat (if s.carState n = 10 then Oid.CAR_V_RELEVEL n else Oid.CAR_V_PREOPEN n))

/-- SF1: LOCK_CH open with the window closed (R522, R527). (DEDUCED, log entry 100.) -/
def State.sf1 (s : State) (n : Nat) : Bool := !s.bit (Oid.CAR_INPUTS n) 4 && !s.sWindow n

/-- SF2: away from the landing with the lock open or a window open (R522). -/
def State.sf2 (s : State) (n : Nat) : Bool :=
  (!s.bit (Oid.CAR_INPUTS n) 4 || s.sWindow n)
    && decide ((s.carPos n - s.restPos n).natAbs > s.nat (Oid.SF_UCM_DIST n))

/-- SF3 by SPEED (R522). -/
def State.sf3 (s : State) (n : Nat) : Bool := decide (s.absSpeed n > s.nat (Oid.SF_V_MAX n))

/-- SF3 by the rate of change of ABS_POS over 10 ms, in 0.01 mm/s; counts are 1/64 mm (R307, R522). (DEDUCED, log entry 106.) -/
def absRate (x0 x1 : Int) (ns : Nat) : Nat := (x1 - x0).natAbs * 100 * 1000000000 / (64 * max ns 1)

/-- The rate of ABS_POS is measured over 10 ms, and SF3 trips on it (R522). (DEDUCED, log entry 106.) -/
def State.absCheck (s : State) (n : Nat) : State :=
  if s.nat (Oid.ABS_SOURCE n) = 0 then s
  else
    let c := s.carSafe n
    let x := s.get (Oid.ABS_POS n)
    match c.absRef with
    | none => s.setCarSafe n { c with absRef := some (s.clk, x) }
    | some (t, x0) =>
      if s.passed t (ms 10) then
        let s1 := s.setCarSafe n { c with absRef := some (s.clk, x) }
        if absRate x0 x (s.clk - t) > s.nat (Oid.SF_V_MAX n) then s1.trip n 3 false true else s1
      else s

/-- A telegram's descriptor (R531). -/
def State.dstDesc (s : State) (t : Nat) : Nat := leNat (s.blob (Oid.DST_DESC t))

/-- A telegram's receiver or sender. -/
def State.dstOf (s : State) (t : Nat) : Dst := Tbl.get {} s.saf.dst t

/-- That changed. -/
def State.setDst (s : State) (t : Nat) (d : Dst) : State := { s with saf := { s.saf with dst := s.saf.dst.put {} t d } }

/-- A receive telegram stops a car: open remote chain, time-out, or mismatch (R522, R535, R536). -/
def State.dstStops (s : State) (n : Nat) : Bool :=
  (List.range 64).any (fun t =>
    let d := s.dstDesc t
    field d 127 120 == 2 && d.testBit (60 + n)
      && ((s.dstOf t).chain || s.nat (Oid.DST_STATE t) == 3 || s.nat (Oid.DST_STATE t) == 4))

/-- SF5: too fast in INSPECTION or RESCUE (R522). -/
def State.sf5 (s : State) (n : Nat) : Bool :=
  (s.carState n == 11 && decide (s.absSpeed n > 63000)) || (s.carState n == 14 && decide (s.absSpeed n > 30000))

/-- The stop conditions of the S-pair that hold now (R522, R523). -/
def State.sStops (s : State) (n : Nat) : BitVec 7 :=
  (if s.sf1 n then sfBit 1 else 0) ||| (if s.sf2 n then sfBit 2 else 0) ||| (if s.sf3 n then sfBit 3 else 0)
    ||| (if s.dstStops n then sfBit 4 else 0) ||| (if s.sf5 n then sfBit 5 else 0)

/-- SF6: the force on a door for 20 ms, or its energy, computed from DOOR_FORCE and DOOR_ENERGY; the door reopens or stops (R522,
R525). -/
def State.sf6 (s : State) (n i : Nat) : State :=
  let k := 2 * n + i
  if !s.flag (Oid.DOOR_ENABLE k) then s
  else
    let c := s.carSafe n
    let st := s.doorState k
    let hard := decide (s.get (Oid.DOOR_FORCE k) ≥ 150 * 65536)
    let at0 := if i = 0 then c.force0 else c.force1
    let at1 := if hard then (match at0 with
      | some t => some t
      | none => some s.clk) else none
    let s := s.setCarSafe n (if i = 0 then { c with force0 := at1 } else { c with force1 := at1 })
    let long := match at1 with
      | some t => s.passed t (ms 20)
      | none => false
    let e := s.get (Oid.DOOR_ENERGY k)
    let tripped := long || (st == 6 && decide (e > 10 * 65536)) || (st == 7 && decide (e > 4 * 65536))
    if tripped then
      let s := s.trip n 6 false false
      if st = 6 ∨ st = 7 then s.doorReopen k else s.doorStop k
    else
      let c := s.carSafe n
      s.setCarSafe n { c with tripS := c.tripS &&& ~~~ sfBit 6 }

/-- The S-pair evaluates a car (R522). (DEDUCED, log entry 99.) -/
def State.sEval (s : State) (n : Nat) : State :=
  if !s.sWatch n then s.setSwitches n
  else
    let v := s.sStops n
    let s := (List.range 5).foldl (fun s i => if v.getLsbD i then s.trip n (i + 1) false (i == 1 || i == 2) else s) s
    let s := ((s.absCheck n).sf6 n 0).sf6 n 1
    s.setSwitches n

/-- The S-pair evaluates every car. (DEDUCED, log entry 99.) -/
def State.sEvalAll (s : State) : State := (List.range 12).foldl State.sEval s

/-! ### What the SLA watches (R522, R527, R528) -/

/-- A car input as the SLA reads it. -/
def State.slaIn (s : State) (n i : Nat) : Bool := (s.carSafe n).sla.getLsbD i

/-- The SLA's window opens or closes with its conditions; after WIN_MAX_MS it opens again only once one of them has failed (R527).
(DEDUCED, log entry 155.) -/
def State.windowEval (s : State) (n : Nat) : State :=
  let c := s.carSafe n
  let r := s.slaRec n
  let ok := s.lWatch n && c.winReq && r.testBit 121 && c.sla.getLsbD 0 && c.sla.getLsbD 1 && decide (c.zoneSpeed ≤ field r 71 56)
  match c.window with
  | none =>
    if ok && !c.winSpent then (s.setCarSafe n { c with window := some s.clk }).showSafety n
    else s.setCarSafe n { c with winSpent := ok && c.winSpent }
  | some t =>
    if ok && !s.passed t (ms (field r 55 40)) then s else (s.setCarSafe n { c with window := none, winSpent := ok }).showSafety n

/-- The zone-entry speed from an edge of DZ_A or DZ_B, mm/s: once both read true, DZ_OFFSET_MM over the time between their rising edges;
above 10 s it counts as 0, and a fall of either ends the stay (R528). -/
def State.zoneEdge (s : State) (n i : Nat) (level : Bool) : State :=
  let c := s.carSafe n
  if !level then s.setCarSafe n { c with zoneSpeed := 0 }
  else
    let c := if i = 0 then { c with dzA := s.clk } else { c with dzB := s.clk }
    let dt := Config.slaTicks (max c.dzA c.dzB - min c.dzA c.dzB) * 25
    let v := if dt > sec 10 then 0 else field (s.slaRec n) 119 104 * 1000000000 / max dt 25
    s.setCarSafe n (if c.sla.getLsbD 0 && c.sla.getLsbD 1 then { c with zoneSpeed := v } else c)

/-- The SLA's functions after an input changed (R522). -/
def State.lEval (s : State) (n i : Nat) (level : Bool) : State :=
  if !s.lWatch n then s
  else
    let c := s.carSafe n
    let r := s.slaRec n
    let s := if !s.slaIn n 4 && c.window.isNone then s.trip n 1 true false else s
    let s := if (i = 0 ∨ i = 1) ∧ !level ∧ !s.slaIn n 4 then s.trip n 2 true true else s
    let s := if c.zoneSpeed > field r 103 88 then s.trip n 3 true true else s
    if c.lowSpeed && decide (c.zoneSpeed > field r 87 72) then s.trip n 5 true false else s

/-- The stop conditions of the SLA that hold now: SF1 and SF5 (R522, R523). -/
def State.lStops (s : State) (n : Nat) : BitVec 7 :=
  let c := s.carSafe n
  (if !s.slaIn n 4 && c.window.isNone then sfBit 1 else 0)
    ||| (if c.lowSpeed && decide (c.zoneSpeed > field (s.slaRec n) 87 72) then sfBit 5 else 0)
    ||| (if c.zoneSpeed > field (s.slaRec n) 103 88 then sfBit 3 else 0)

/-- SF4: SAFE_CH opens while both outputs are on, seen by both technologies (R522). (DEDUCED, log entry 101.) -/
def State.chainOpens (s : State) (n : Nat) (on : Bool) : State :=
  if !on then s
  else
    let s := if s.sWatch n then s.trip n 4 false false else s
    if s.lWatch n then s.trip n 4 true false else s

/-- A stable change of a safety input, taken by both technologies (R322, R522). -/
def State.sinChange (s : State) (n i : Nat) (level : Bool) : State :=
  if 10 ≤ i ∨ !s.hasCar n then s
  else
    let was := s.slaIn n i
    let on := s.bothOn n
    let s := if s.up .pos then s.setBit (Oid.CAR_INPUTS n) i level else s
    let c := s.carSafe n
    let bit := BitVec.twoPow 16 i
    let s := s.setCarSafe n { c with
      sin := if level then c.sin ||| bit else c.sin &&& ~~~ bit, sla := if level then c.sla ||| bit else c.sla &&& ~~~ bit
      brakeAt := if 8 ≤ i then s.clk else c.brakeAt, kfbAt := if i = 6 ∨ i = 7 then s.clk else c.kfbAt }
    let s := if (i = 0 ∨ i = 1) ∧ was ≠ level then s.zoneEdge n i level else s
    let s := s.windowEval n
    let s := if i = 5 ∧ was ∧ !level then s.chainOpens n on else s
    (s.lEval n i level).sEval n

/-- SIN_CHANGE. -/
def execSinChange (n : Fin 12) (input : Nat) (level : Bool) (s : State) : Answer := .next (s.start.sinChange n input level)

/-- WINDOW_MAX: the window has been open for WIN_MAX_MS (R527). -/
def execWindowMax (n : Fin 12) (s : State) : Answer :=
  let s := s.start
  let s := match (s.carSafe n).window with
    | some t => s.reach (t + ms (field (s.slaRec n) 55 40))
    | none => s
  .next ((s.windowEval n).lEval n 10 true)

/-- Trips of a technology whose condition is absent end; its switches close again (R523). -/
def State.stopAbsent (s : State) (n : Nat) (sla : Bool) : State :=
  let c := s.carSafe n
  if sla then
    let v := s.lStops n
    if v = 0 then ((s.reach (c.clearL + ms 100)).setCarSafe n { c with tripL := 0 }).setSwitches n
    else s.setCarSafe n { c with clearL := s.clk }
  else
    let v := s.sStops n
    if v = 0 ∧ !s.moving n then ((s.reach (c.clearS + ms 100)).setCarSafe n { c with tripS := c.tripS &&& sfBit 6 }).setSwitches n
    else if v = 0 then s
    else s.setCarSafe n { c with clearS := s.clk }

/-- STOP_CONDITION_ABSENT. -/
def execStopConditionAbsent (n : Fin 12) (tech : SwTech) (s : State) : Answer := .next (s.start.stopAbsent n (tech == .sla))

/-- An output is on: both switches of its path are closed. -/
def State.outOn (s : State) (n i : Nat) : Bool := let c := s.carSafe n; c.sSw.getLsbD i && c.lSw.getLsbD i

/-- CONTACTOR_FEEDBACK_TIMEOUT of contactor A (0) or B (1): SF4, with a lockout where the contactor is still pulled with its output
off (R522). -/
def State.kfbTimeout (s : State) (n i : Nat) : State :=
  let c := s.carSafe n
  let released := s.bit (Oid.CAR_INPUTS n) (6 + i)
  let on := s.outOn n i
  if 2 ≤ i ∨ on ≠ released then s
  else
    let s := s.reach (c.outAt + ms (field (s.slaRec n) 27 16))
    let s := if s.sWatch n then s.trip n 4 false (!on) else s
    if s.lWatch n then s.trip n 4 true (!on) else s

/-- CONTACTOR_FEEDBACK_TIMEOUT. -/
def execContactorFeedbackTimeout (n : Fin 12) (which : Nat) (s : State) : Answer := .next (s.start.kfbTimeout n which)

/-- A condition, the instant that starts it and its technology, put before those that start later. -/
def earliest (x : Bool × Nat × Bool) : List (Bool × Nat × Bool) → List (Bool × Nat × Bool)
  | [] => [x]
  | y :: t => if x.2.1 ≤ y.2.1 then x :: y :: t else y :: earliest x t

/-- BRAKE_FEEDBACK_TIMEOUT: SF7 of both technologies, each condition BRK_TIME_MS after what starts it (R522). -/
def State.brakeTimeout (s : State) (n : Nat) : State :=
  let c := s.carSafe n
  let t := ms (field (s.slaRec n) 39 28)
  let b1 := s.bit (Oid.CAR_INPUTS n) 8
  let b2 := s.bit (Oid.CAR_INPUTS n) 9
  let idle := s.bothOff n && !(b1 && b2)
  let drag := (b1 || b2) && s.drvBit n 2 && s.moving n
  let differ := b1 != b2
  let late := s.slaIn n 6 && s.slaIn n 7 && !(b1 && b2)
  let due := [(idle, c.outAt, false), (drag, c.liftAt, false), (differ, c.brakeAt, true), (late, c.kfbAt, true)].filter (·.1)
  (due.foldr earliest []).foldl (fun s x =>
    let s := s.reach (x.2.1 + t)
    if (if x.2.2 then s.lWatch n else s.sWatch n) then s.trip n 7 x.2.2 true else s) s

/-- BRAKE_FEEDBACK_TIMEOUT. -/
def execBrakeFeedbackTimeout (n : Fin 12) (s : State) : Answer := .next (s.start.brakeTimeout n)

/-! ### Lockout reset (R524) -/

/-- Lockouts of the S-pair whose condition is present still (R522, R524). -/
def State.sLockHolds (s : State) (n : Nat) : BitVec 7 :=
  let kfb := !(s.bit (Oid.CAR_INPUTS n) 6 && s.bit (Oid.CAR_INPUTS n) 7) && s.bothOff n
  let brk := !(s.bit (Oid.CAR_INPUTS n) 8 && s.bit (Oid.CAR_INPUTS n) 9) && s.bothOff n
  s.sStops n ||| (if kfb then sfBit 4 else 0) ||| (if brk then sfBit 7 else 0)

/-- SF_RESET: the S-pair's lockouts whose condition is absent, and RST_REQ for 100 ms (R524). -/
def State.sfReset (s : State) (n ses : Nat) : State :=
  let c := s.carSafe n
  let hold := s.sLockHolds n
  let cleared := c.lockS &&& ~~~ hold
  let s := s.setCarSafe n { c with lockS := c.lockS &&& hold, tripS := c.tripS &&& ~~~ cleared, rstAt := s.clk + 1 }
  (s.setSwitches n).eventOf 0x0503 n cleared.toNat ses

/-- The SLA's lockouts of a car clear on RST_REQ under its own inputs (R524). (DEDUCED, log entry 49.) -/
def State.slaReset (s : State) (n : Nat) : State :=
  let c := s.carSafe n
  if c.rstReq && s.bothOff n && s.slaIn n 6 && s.slaIn n 7 && s.slaIn n 8 && s.slaIn n 9 && s.slaIn n 4 then
    (s.setCarSafe n { c with tripL := c.tripL &&& ~~~ c.lockL, lockL := 0 }).setSwitches n
  else s

/-! ### Heartbeat (R518, R519) -/

/-- Bits [95:48] of the heartbeat that the S-pair sends next (R518). -/
def State.heartbeatTop (s : State) : Nat :=
  let bits (p : Nat → Bool) : Nat := (List.range 12).foldl (fun v n => if p n then v + 2 ^ n else v) 0
  let low := bits (fun n => s.carState n == 11 || s.carState n == 14)
  let win := bits (fun n => (s.car n).window.isSome)
  let rst := bits (fun n => let t := (s.carSafe n).rstAt; t != 0 && !s.passed (t - 1) (ms 100))
  s.saf.hbSent * 2 ^ 40 + low * 2 ^ 28 + win * 2 ^ 16 + rst * 2 ^ 4

/-- The heartbeat goes to the SLA (R518). -/
def State.sendHeartbeat (s : State) : State :=
  let s := { s with saf := { s.saf with hbSent := (s.saf.hbSent + 1) % 256 } }
  let top := s.heartbeatTop
  s.emit (.heartbeat (BitVec.ofNat 96 (top * 2 ^ 48 + (2 ^ 48 - 1 - top))))

/-- A car's bits of a valid heartbeat (R518, R519). -/
def State.takeBeat (hb : Nat) (s : State) (n : Nat) : State :=
  let c := s.carSafe n
  let s := s.setCarSafe n { c with lowSpeed := hb.testBit (76 + n), winReq := hb.testBit (64 + n), rstReq := hb.testBit (52 + n) }
  (((s.windowEval n).lEval n 10 true).slaReset n).setSwitches n

/-- HEARTBEAT_RECEIVE: valid with its complement and the next count, or as a new start after HB_LOST (R518). -/
def State.heartbeat (s : State) (hb : Nat) : State :=
  if !s.up .sla then s
  else
    let good := hb % 2 ^ 48 == 2 ^ 48 - 1 - hb / 2 ^ 48
    let next := s.saf.hbLost || (match s.saf.hbCount with
      | none => true
      | some c => field hb 95 88 == (c + 1) % 256)
    if good && next then
      let s := { s with saf := { s.saf with hbAt := s.clk, hbCount := some (field hb 95 88), hbLost := false } }
      (List.range 12).foldl (State.takeBeat hb) s
    else s

/-- HEARTBEAT_RECEIVE. -/
def execHeartbeatReceive (hb : BitVec 96) (s : State) : Answer := .next (s.start.heartbeat hb.toNat)

/-- HB_LOST: no valid heartbeat for 2 ms (R518). -/
def execHbLost (s : State) : Answer :=
  let s := s.start
  .next (if s.up .sla && !s.saf.hbLost then
      let s := s.reach (s.saf.hbAt + ms 2)
      let c := s.saf.hbCount.getD 0
      ({ s with saf := { s.saf with hbLost := true } }.setAllSwitches).event 0x0504 c
    else s)

/-! ### The parameter block and SLA faults (R520, R521, R549) -/

/-- The block of the running parameters with a GENERATION (R520). -/
def State.makeBlock (s : State) (gen : Nat) : List Byte :=
  let head := leBytes 16 (0x534C4150 + 0x0001 * 2 ^ 64 + 212 * 2 ^ 80 + gen % 2 ^ 32 * 2 ^ 96)
  let body := head ++ (List.range 12).flatMap (fun n => leBytes 16 (s.slaRec n))
  body ++ leBytes 4 (crc32 body)

/-- The first check that a block fails: 0 header, 1 CRC, 2 range (R521, R552). -/
def blockFault (b : List Byte) : Option Nat :=
  let h := leNat (b.take 16)
  if field h 31 0 != 0x534C4150 || field h 79 64 != 1 || field h 95 80 != 212 || b.length != 212 then some 0
  else if leNat (b.drop 208) != crc32 (b.take 208) then some 1
  else if (List.range 12).all (fun n => slaRecOk (leNat ((b.drop (16 + 16 * n)).take 16))) then none
  else some 2

/-- The SLA loads a block, or shows why not (R521). (DEDUCED, log entry 49.) -/
def State.loadBlock (s : State) (b : List Byte) : State :=
  let gen := field (leNat (b.take 16)) 127 96
  match blockFault b with
  | some c => ((s.setN Oid.SLA_STATE 3).event 0x0505 c gen).setAllSwitches
  | none =>
    let crc := leNat (b.drop 208)
    let s := { s with saf := { s.saf with block := b, gen := gen, faultAt := none } }
    ((((s.setN Oid.SLA_STATE 2).setN Oid.SLA_GEN gen).setN Oid.SLA_CRC crc).event 0x0506 gen crc).setAllSwitches

/-- An SLA fault: the hold is released at once, the L switches open 250 µs later, and the SLA stays safe until a COLD reset (R549).
(DEDUCED, log entry 102.) -/
def State.slaFault (s : State) (cause : Nat) : State :=
  if s.nat Oid.SLA_STATE = 4 then s
  else
    let s := { s with saf := { s.saf with faultAt := some s.clk } }.setN Oid.SLA_STATE 4
    ((s.event 0x0507 cause).release 4).setAllSwitches

/-- SLA_CRC_CHECK: the CRC of the loaded copy, every 10 ms (R521). -/
def execSlaCrcCheck (crc : BitVec 32) (s : State) : Answer :=
  let s := s.start
  .next (if s.up .sla && s.nat Oid.SLA_STATE == 2 && crc.toNat != s.nat Oid.SLA_CRC then
      (s.event 0x0505 3 (s.nat Oid.SLA_GEN)).slaFault 0
    else s.setAllSwitches)

/-- SLA_FAULT (R549). (DEDUCED, log entry 102.) -/
def execSlaFault (cause : Byte) (s : State) : Answer :=
  let s := s.start
  .next (if s.pd .sla then s.slaFault cause.toNat else s)

/-! ### Tests in service (R545 to R549) -/

/-- OUTPUT_TEST: the last test of every own output passed (R558). (DEDUCED, log entry 104.) -/
def State.showOutputTest (s : State) : State :=
  { s with tw := { s.tw with outputTest := s.saf.cars.all (fun c => c.2.stuck == 0) && s.tw.pulseBad == 0 } }

/-- SWITCH_TEST of S_A, S_B, L_A or L_B (R545, R549): while the output is on a failure is a switch stuck closed, while it is off one
stuck open. (DEDUCED, log entry 104.) -/
def State.switchTest (s : State) (n sw : Nat) (ok : Bool) : State :=
  if 4 ≤ sw ∨ !s.hasCar n then s
  else
    let c := s.carSafe n
    let bit := BitVec.twoPow 4 sw
    let on := s.outOn n (sw % 2)
    let s := (s.setCarSafe n { c with stuck := if ok then c.stuck &&& ~~~ bit else c.stuck ||| bit }).showOutputTest
    if ok then s else (s.eventOf 0x0508 n sw (boolNat (!on))).releaseIfHealthy 7

/-- SWITCH_TEST. -/
def execSwitchTest (n : Fin 12) (sw : Nat) (ok : Bool) (s : State) : Answer :=
  let s := s.start
  .next (if s.up .safe then s.switchTest n sw ok else s)

/-- INPUT_DISAGREE: the S-pair and the SLA have differed for 100 ms (R545, R549). -/
def State.inputDisagree (s : State) (n i : Nat) : State :=
  let lvl := s.bit (Oid.CAR_INPUTS n) i
  let c := s.carSafe n
  let bit := BitVec.twoPow 16 i
  let s := s.setCarSafe n { c with sla := if lvl then c.sla &&& ~~~ bit else c.sla ||| bit }
  let s := { s with tw := { s.tw with disagreeAt := some s.clk } }.eventOf 0x0509 n i (boolNat lvl)
  s.releaseIfHealthy 7

/-- INPUT_DISAGREE. -/
def execInputDisagree (n : Fin 12) (input forMs : Nat) (s : State) : Answer :=
  let s := s.start
  .next (if s.up .safe && decide (100 ≤ forMs) && decide (input < 10) && s.hasCar n then s.inputDisagree n input else s)

/-- A full self-test is asked of this module: queued under R20 (R546). -/
def State.queueSelfTest (s : State) : State :=
  if s.testQueue.any (fun t => t.1 == TestKind.selfTest) || s.saf.testAt.isSome then s
  else { s with testQueue := s.testQueue ++ [(TestKind.selfTest, 0)] }.setN Oid.SAFETY_TEST_STATE 1

/-- SAFETY_TEST_REQ is accepted (R546). -/
def State.safetyTestCheck (s : State) (v : Int) : Option Refuse :=
  if v = 1 then need ((s.mode == .active || s.mode == .service) && s.healthyStandby) .busy
  else if v = 2 then
    need (s.mode == .active || (s.mode == .service && s.carsStill && (List.range 12).all (fun n => !s.moving n))) .busy
  else refuse .range

/-- An accepted SAFETY_TEST_REQ: the twin tests, or this module does (R546). -/
def State.safetyTestReq (s : State) (v : Int) : State :=
  if v = 1 then s.mirror (.testRequest .selfTest) else s.queueSelfTest

/-- A full self-test starts (R546). -/
def State.selfTestStart (s : State) : State :=
  { s with saf := { s.saf with testAt := some s.clk } }.setN Oid.SAFETY_TEST_STATE 2

/-- A full self-test ends: 3 passed, 4 failed, 5 not run; the item that failed is not given by the row (R546, R552).
(DESIGN CHOICE, log entry 26.) -/
def State.selfTestEnd (s : State) (st : Nat) : State :=
  if s.saf.testAt.isNone then s
  else
    let s := { s with saf := { s.saf with testAt := none, periodAt := s.clk } }
    let s := (s.endTest 28).setN Oid.SAFETY_TEST_STATE st
    let s := if st = 5 then s else (s.setN Oid.SAFETY_TEST_TIME s.time)
    let s := if st = 5 then s else { s with tw := { s.tw with selfTest := decide (st = 3) } }
    let f := s.free
    if st = 4 then f.2.event 0x0512 4 (f.1.toNat % 2 ^ 32) else s.event 0x0512 st

/-- SAFETY_TEST_DONE (R546). -/
def execSafetyTestDone (pass : Bool) (s : State) : Answer := .next (s.start.selfTestEnd (if pass then 3 else 4))

/-- SAFETY_TEST_PERIODIC: a STANDBY module, every SAFETY_TEST_INTERVAL hours (R547). -/
def execSafetyTestPeriodic (s : State) : Answer :=
  let s := s.start
  let h := s.nat Oid.SAFETY_TEST_INTERVAL
  .next (if s.mode == .standby && h != 0 then (s.reach (s.saf.periodAt + sec (3600 * h))).queueSelfTest else s)

end Sys2Proof.Machine
end

