-- ==== Sys2Proof/Machine/SafeLog.lean ====
section
/-! DEFINITION. The change log, safety sessions and the password, safety parameters and their commit, and the dual-network safe
telegrams (chapter 15, R529 to R544). -/

namespace Sys2Proof.Machine

/-! ### Objects as bytes -/

/-- The default of a row as bytes. -/
def ObjRow.oct (r : ObjRow) : List Byte := match r.dflt with
  | .num _ => []
  | .oct b => b

/-- The default of an object: SLA_CAR holds the record at its reset values (R520). -/
def ObjRow.octAt (r : ObjRow) (_ : Nat) : List Byte := if r.base = 0x70010002 then Config.slaCarReset else r.oct

/-- The held value of an object, as its type's bytes (R9). -/
def State.bytesOf (s : State) (oid : Nat) : List Byte :=
  match lookup oid with
  | none => []
  | some (r, _) => if r.ty.isBytes then s.blob ⟨oid, r.octAt oid⟩ else r.ty.enc (s.get ⟨oid, r.numAt oid⟩)

/-- An object holds the value that bytes of its type spell. -/
def State.setBytes (s : State) (oid : Nat) (b : List Byte) : State :=
  match lookup oid with
  | none => s
  | some (r, _) => if r.ty.isBytes then s.setBlob ⟨oid, r.octAt oid⟩ b else s.set ⟨oid, r.numAt oid⟩ (r.ty.dec b)

/-! ### Reserved fields (R11) -/

/-- The bits of an object's value that are not reserved (R11); none where all count. -/
def bitMask (base : Nat) : Option Nat :=
  match base with
  | 0x01000103 => some 0x0F
  | 0x10010016 => some 0x07
  | 0x10010026 => some 0x0F
  | 0x10011001 => some 0x0F
  | 0x10020002 => some 0x03
  | 0x01780001 => some 0x9FFFFFFF
  | 0x01780002 => some 0x07
  | 0x40000005 => some 0x0F
  | 0x00001001 => some 0x03
  | _ => none

/-- A number with the reserved bits of its object ignored (R11). -/
def maskBits (base : Nat) (v : Int) : Int :=
  match bitMask base with
  | some m => ((v.toNat &&& m : Nat) : Int)
  | none => v

/-- Clears the bits `hi` to `lo` of a number. -/
def clearBits (v : Nat) (x : Nat × Nat) : Nat := v - field v x.1 x.2 * 2 ^ x.2

/-- A byte string with some bit fields cleared. -/
def clearFields (l : List (Nat × Nat)) (d : List Byte) : List Byte := leBytes d.length (l.foldl clearBits (leNat d))

/-- The last three bytes of each column descriptor cleared (R272). -/
def clearColumns : Nat → List Byte → List Byte
  | 0, d => d
  | k + 1, d => if d.length < 12 then d else d.take 9 ++ [0, 0, 0] ++ clearColumns k (d.drop 12)

/-- The bytes of a written object with its reserved fields ignored, so that they read 0 (R11): column descriptors (R272), entry descriptors
(R275), mapping descriptors (R282), SLA parameter blocks of cars (R520), telegram descriptors (R531) and bindings (R221). -/
def maskOct (base : Nat) (d : List Byte) : List Byte :=
  match base with
  | 0x0130000E => clearColumns 32 d
  | 0x01600000 => clearFields [(87, 83), (63, 61), (31, 8)] d
  | 0x01800000 => clearFields [(7, 0)] d
  | 0x70010002 => clearFields [(127, 122), (15, 0)] d
  | 0x70020000 => clearFields [(59, 48)] d
  | 0x80000006 | 0x80000007 => clearFields [(103, 96)] d
  | _ => d

/-- An object holds a value that came from outside as a whole, with its reserved fields 0 (R11). -/
def State.loadBytes (s : State) (oid : Nat) (b : List Byte) : State :=
  match lookup oid with
  | none => s
  | some (r, _) => if r.ty.isBytes then s.setBytes oid (maskOct r.base b) else s.setBytes oid (r.ty.enc (maskBits r.base (r.ty.dec b)))

/-! ### The change log (R544) -/

/-- OLD or NEW of an entry, and whether it is a hash. (DEDUCED, log entry 105.) -/
def logValue (v : List Byte) : List Byte × Bool :=
  if v.length ≤ 16 then (v ++ List.replicate (16 - v.length) 0, false) else ((sha256 v).take 16, true)

/-- The fingerprint of a session's certificate. -/
def State.sesFpr (s : State) (ses : Nat) : BitVec 256 := (Tbl.get {} s.acc.sessions ses).fpr

/-- OLD or NEW of the entry of an object: a CFG_SIGNER_KEY is always shown by its hash (R541). (DEDUCED, log entry 105.) -/
def logValueOf (oid : Nat) (v : List Byte) : List Byte × Bool :=
  if 0x00000910 ≤ oid ∧ oid < 0x00000914 then ((sha256 v).take 16, true) else logValue v

/-- Bytes 0 to 95 of an entry (table Change log entry). -/
def State.logBody (s : State) (seq kind ses oid : Nat) (old new : List Byte) : List Byte :=
  let o := logValueOf oid old
  let n := logValueOf oid new
  let flags := boolNat o.2 + 2 * boolNat n.2 + 4 * boolNat (s.tb.status != 2)
  leBytes 8 seq ++ leBytes 8 s.time ++ leBytes 4 (s.nat Oid.POWER_CYCLES) ++ leBytes 4 oid ++ (leBytes 32 (s.sesFpr ses).toNat).take 8
    ++ leBytes 1 ses ++ leBytes 1 kind ++ leBytes 1 flags ++ [0] ++ o.1 ++ n.1 ++ List.replicate 28 0

/-- The HASH of the newest entry, 32 bytes of 0 before the first (R544). -/
def lastHash : List LogEntry → List Byte
  | [] => List.replicate 32 0
  | e :: _ => e.bytes.drop 96

/-- An entry of 128 bytes joins the ring; a full ring overwrites the oldest, moves LOG_ANCHOR and records LOG_WRAP (R544). -/
def State.logPut (s : State) (e : LogEntry) : State :=
  let full := decide (4096 ≤ s.saf.log.length)
  let s := if full then
      (match s.saf.log.getLast? with
        | some o => s.setBlob Oid.LOG_ANCHOR (o.bytes.drop 96)
        | none => s)
    else s
  let l := (e :: s.saf.log).take 4096
  let s := { s with saf := { s.saf with log := l } }
  let first := e.seq + 1 - l.length
  let s := (s.setN Oid.LOG_LAST e.seq).setN Oid.LOG_FIRST first
  if full then s.event 0x0513 first else s

/-- One operation is logged and mirrored by the module that drives outputs (R544). (DEDUCED, log entry 105.) -/
def State.logAdd (s : State) (kind ses oid : Nat) (old new : List Byte) : State :=
  if s.mode == .standby then s
  else
    let seq := match s.saf.log with
      | [] => 0
      | e :: _ => e.seq + 1
    let body := s.logBody seq kind ses oid old new
    let e : LogEntry := { seq := seq, bytes := body ++ sha256 (lastHash s.saf.log ++ body) }
    (s.logPut e).mirror (.values 9 [] [(Oid.LOG_DATA.oid, e.bytes)])

/-- LOG_DATA of a session's LOG_SEL: up to 64 entries; none outside the ring (R544). -/
def State.logData (s : State) (sel : Nat) : Option (List Byte) :=
  let l := (s.saf.log.reverse.filter (fun e => decide (sel ≤ e.seq))).take 64
  match l with
  | [] => none
  | e :: _ => if e.seq = sel then some (l.flatMap (·.bytes)) else none

/-! ### Safety sessions (R194, R537 to R540) -/

/-- A session of the owner partition whose map entry permits safety sessions (R194). -/
def State.maySafety (s : State) (ses : Nat) : Bool :=
  let x := Tbl.get ({} : Session) s.acc.sessions ses
  x.part == 0 && (match x.entry with
    | some e => s.flag (Oid.MAP_SAFETY e)
    | none => false)

/-- The session holds the safety session. -/
def State.hasSafety (s : State) (ses : Nat) : Bool := match s.saf.session with
  | some (n, _) => n == ses
  | none => false

/-- A safety operation restarts the 900 s of R540. -/
def State.safetyUsed (s : State) (ses : Nat) : State :=
  if s.hasSafety ses then { s with saf := { s.saf with session := some (ses, s.clk) } } else s

/-- SESS_STATE of a session (R210). -/
def State.setSesState (s : State) (ses st : Nat) : State :=
  let x := Tbl.get ({} : Session) s.acc.sessions ses
  let s := { s with acc := { s.acc with sessions := s.acc.sessions.put {} ses { x with state := st } } }
  if ses < 64 then s.setN (Oid.SESS_STATE ses) st else s

/-- The password's salt and hash, stored and mirrored (R537, R540). -/
def State.storePw (s : State) (pw : List Byte) (salt : BitVec 128) : State :=
  let h := pbkdf2 pw (leBytes 16 salt.toNat) 100000
  let s := { s with saf := { s.saf with pw := some (salt, h) } }.setFlag Oid.PW_SET true
  s.mirror (.values 9 [(Oid.PW_SET.oid, 1)] [(Oid.SAFETY_PW.oid, leBytes 16 salt.toNat ++ h)])

/-- The safety session opens (R537). -/
def State.startSafety (s : State) (ses : Nat) : State :=
  ({ s with saf := { s.saf with session := some (ses, s.clk) } }.setSesState ses 3).event 0x050D ses

/-- The wrong passwords of a fingerprint within 15 min, newest first (R539). -/
def State.wrongOf (s : State) (f : BitVec 256) : List Nat :=
  match s.saf.wrong.find? (fun x => x.1 == f) with
  | some (_, l) => l.filter (fun t => !s.passed t (sec 900))
  | none => []

/-- A fingerprint is locked out (R539). -/
def State.pwLocked (s : State) (f : BitVec 256) : Bool := s.saf.locked.any (fun x => x.1 == f && !s.passed x.2 (sec 900))

/-- A wrong password: recorded, counted, and after five within 15 min the fingerprint is locked out (R539). -/
def State.wrongPw (s : State) (f : BitVec 256) : State :=
  let l := s.clk :: s.wrongOf f
  let p := f.toNat % 2 ^ 32
  let s := { s with saf := { s.saf with wrong := (f, l) :: s.saf.wrong.filter (fun x => x.1 != f) } }.event 0x050E p l.length
  let s := s.mirror (.values 9 [] [(0x7000F000, leBytes 32 f.toNat)])
  if 5 ≤ l.length then
    { s with saf := { s.saf with locked := (f, s.clk) :: s.saf.locked.filter (fun x => x.1 != f) } }.event 0x050F p
  else s

/-- SAFETY_OPEN in a session (R194, R537 to R539): the refusal, and the state. -/
def State.safetyOpen (s : State) (ses : Nat) (pw : List Byte) (salt : BitVec 128) : Option Refuse × State :=
  let f := s.sesFpr ses
  if !s.maySafety ses || s.pwLocked f then (refuse .safetyLocked, s)
  else if s.saf.session.isSome then (refuse .busy, s)
  else
    match s.saf.pw with
    | none =>
      if s.mode != .service then (refuse .safetyLocked, s)
      else if pw.length < 8 ∨ 32 < pw.length then (refuse .range, s)
      else (none, ((s.storePw pw salt).logAdd 3 ses Oid.SAFETY_PW.oid [] []).startSafety ses)
    | some (x, h) =>
      if pbkdf2 pw (leBytes 16 x.toNat) 100000 = h then (none, s.startSafety ses)
      else (refuse .safetyLocked, s.wrongPw f)

/-- Pending changes are discarded; where there are any, the discard is logged (R540, R542). (DEDUCED, log entry 105.) -/
def State.discardPending (s : State) (ses : Nat) : State :=
  if s.saf.pend = [] then s
  else ({ s with saf := { s.saf with pend := [] } }.setN Oid.SAFETY_PENDING 0).logAdd 5 ses 0 [] []

/-- The safety session of a session ends (R194, R540). -/
def State.safetyEnd (s : State) (ses : Nat) : State :=
  if s.hasSafety ses then
    let s := s.discardPending ses
    { s with saf := { s.saf with session := none } }.setSesState ses 2
  else s

/-- SAFETY_SESSION_TIMEOUT: 900 s without a safety operation (R540). -/
def execSafetySessionTimeout (s : State) : Answer :=
  let s := s.start
  .next (match s.saf.session with
    | some (ses, t) => (s.reach (t + sec 900)).safetyEnd ses
    | none => s)

/-- SAFETY_PW is accepted: 8 to 32 bytes, within a safety session, in ACTIVE or SERVICE (R537, R540). -/
def safetyPwCheck (pw : List Byte) : Option Refuse := need (decide (8 ≤ pw.length ∧ pw.length ≤ 32)) .range

/-- SAFETY_PW: the password changes at once, and the change is logged (R540). (DESIGN CHOICE, log entry 33.) -/
def State.safetyPw (s : State) (ses : Nat) (pw : List Byte) (salt : BitVec 128) : State :=
  (s.storePw pw salt).logAdd 3 ses Oid.SAFETY_PW.oid [] []

/-! ### Parameters and their commit (R541, R542) -/

/-- A carrier of a telegram is a valid normal SRDO entry, with PERIOD its cycle time times REPEAT; CARRIER_B may be NET0 or NET1
(R531). -/
def State.carrierOk (s : State) (c period : Nat) (second : Bool) : Bool :=
  let ch := c / 256
  let e := c % 256
  if second && ch == 0xFF then decide (e < 2)
  else
    let d := s.entHeld ch e
    decide (ch < 8) && d.role == 1 && d.type != 0 && period == s.nat (Oid.CAN_T_CYCLE ch) * d.every

/-- A telegram descriptor is in range (R531). -/
def State.dstDescOk (s : State) (d : Nat) : Bool :=
  let dir := field d 127 120
  let per := field d 47 32
  if dir = 0 then true
  else
    decide (dir ≤ 2) && field d 119 112 != 0 && decide (1000 ≤ per ∧ per ≤ 5000)
      && s.carrierOk (field d 103 88) per false && s.carrierOk (field d 87 72) per true

/-- A safety parameter is in range (R520, R522, R531, R550). -/
def State.safetyRangeOk (s : State) (base : Nat) (ix : List Nat) (b : List Byte) : Bool :=
  if base = 0x70010002 then slaRecOk (leNat b)
  else if base = 0x70010003 then
    decide (leNat b * 100 ≤ 115 * s.nat (Oid.CAR_V_RATED (ix.headD 0)))
  else if base = 0x70020000 then s.dstDescOk (leNat b)
  else true

/-- The RWS parameter objects, by the base of their row (R541). (DEDUCED, log entry 107.) -/
def safetyParam (base : Nat) : Bool :=
  base == 0x70010002 || base == 0x70010003 || base == 0x70010004 || base == 0x70020000 || base == 0x70020001 || base == 0x7000000A
    || base == 0x00000910

/-- A parameter write is held pending, replacing an earlier one, and logged (R541). (DEDUCED, log entry 107.) -/
def State.holdParam (s : State) (ses oid : Nat) (b : List Byte) : State :=
  let l := s.saf.pend.filter (fun x => x.1 != oid) ++ [(oid, b)]
  let s := { s with saf := { s.saf with pend := l } }.setN Oid.SAFETY_PENDING l.length
  s.logAdd 0 ses oid (s.bytesOf oid) b

/-- A telegram's length in bytes: 16, or 32 when LONG (R529). -/
def dstLen (d : Nat) : Nat := if d.testBit 104 then 32 else 16

/-- The window that a send telegram has on a NETp, on that port's link account as class A (R532). (DESIGN CHOICE, log entry 152.) -/
def State.telegramItem (s : State) (t : Nat) : Option Item :=
  let d := s.dstDesc t
  if field d 127 120 = 1 ∧ field d 87 80 = 0xFF then
    some { id := 0, kind := .telegram t, cls := 0
           charges := [(field d 79 72, (Config.dstWindow (dstLen d) * 1000000 + field d 47 32 - 1) / field d 47 32)] }
  else none

/-- The telegram's window follows its descriptor in the ledger (R532). -/
def State.chargeTelegram (s : State) (t : Nat) : State :=
  let s := s.dropItems (fun i => i.kind == ItemKind.telegram t)
  match s.telegramItem t with
  | some i => s.readmit i
  | none => s

/-- A committed parameter takes effect; a telegram starts afresh, and its window is charged (R532, R541, R550). -/
def State.applyParam (s : State) (x : Nat × List Byte) : State :=
  let s := s.setBytes x.1 x.2
  match lookup x.1 with
  | some (r, ix) =>
    if r.base = 0x70020000 then
      let dir := field (leNat x.2) 127 120
      ((s.setDst (ix.headD 0) {}).setN (Oid.DST_STATE (ix.headD 0)) (if dir = 1 then 2 else if dir = 2 then 1 else 0)).chargeTelegram (ix.headD 0)
    else s
  | none => s

/-- SERVICE with every car OUT_OF_SERVICE or PARKED and at rest (R542). -/
def State.commitReady (s : State) : Bool := s.mode == .service && s.carsStill && (List.range 12).all (fun n => !s.moving n)

/-- SAFETY_COMMIT is accepted (R542). -/
def State.commitCheck (s : State) (v : Int) : Option Refuse :=
  if v = 1 then need s.commitReady .busy else need (v == 2) .range

/-- The new parameters make a block that the SLA accepts (steps 1 to 4 of the table Commit sequence). (DEDUCED, log entry 103.) -/
def State.commitFails (s : State) : Bool := (blockFault ((s.saf.pend.foldl State.applyParam s).makeBlock (s.saf.gen + 1))).isSome

/-- SAFETY_COMMIT written with 1: the pending changes apply, the SLA runs the new block (R542). (DEDUCED, log entry 103.) -/
def State.commit (s : State) (ses : Nat) : State :=
  let n := s.saf.pend.length
  let gen := s.saf.gen + 1
  let s := (s.mirror (.values 9 [] s.saf.pend)).mirror (.values 9 [(0x7000F001, gen)] [])
  let s := s.saf.pend.foldl State.applyParam s
  let s := { s with saf := { s.saf with pend := [], cars := s.saf.cars.map (fun (c : Nat × CarSafe) => (c.1, { c.2 with lSw := 0 })) } }
  let s := (s.setN Oid.SAFETY_PENDING 0).loadBlock (s.makeBlock gen)
  (s.logAdd 1 ses Oid.SAFETY_COMMIT.oid [] []).event 0x0510 gen n

/-! ### Telegrams (R529 to R536) -/

/-- A telegram with its CRC under a KEY (R529, R530). -/
def dstBytes (key id flags seq time : Nat) (data : List Byte) : List Byte :=
  let body := data ++ leBytes 4 time ++ leBytes 2 seq ++ leBytes 1 flags ++ leBytes 1 id
  leBytes 4 (crc32c (leBytes 4 key ++ body)) ++ body

/-- The fields of a received copy: SEQ, SEND_TIME, DATA. -/
def dstFields (b : List Byte) : Nat × Nat × List Byte :=
  let n := b.length
  (leNat ((b.drop (n - 4)).take 2), leNat ((b.drop (n - 8)).take 4), (b.take (n - 8)).drop 4)

/-- `a` is newer than `b` in 16-bit serial order (R529). -/
def newer16 (a b : Nat) : Bool := let d := (a + 65536 - b) % 65536; decide (1 ≤ d ∧ d ≤ 32767)

/-- DATA of a send telegram: the cars of CARS with both outputs on (R533). -/
def State.dstData (s : State) (d : Nat) : List Byte :=
  let v := (List.range 12).foldl (fun v n => if d.testBit (60 + n) && s.bothOn n then v + 2 ^ n else v) 0
  leBytes (dstLen d - 12) v

/-- DST_SEND: on each PERIOD both carriers carry the same telegram (R533). -/
def State.dstSend (s : State) (t : Nat) : State :=
  let d := s.dstDesc t
  if field d 127 120 != 1 || !s.gate || !s.drives || !s.up .safe then s
  else
    let s := match (s.dstOf t).sentAt with
      | some x => s.reach (x + us (field d 47 32))
      | none => s
    let s := s.setDst t { s.dstOf t with sentAt := some s.clk }
    let seq := (s.nat (Oid.DST_SEQ t) + 1) % 65536
    let b := dstBytes (field d 31 0) (field d 119 112) (field d 111 104 % 2) seq (s.time % 2 ^ 32) (s.dstData d)
    let s := (s.setN (Oid.DST_SEQ t) seq).mirrorRegs 9 [Oid.DST_SEQ t]
    (s.emit (.dst t 0 b)).emit (.dst t 1 b)

/-- DST_SEND. -/
def execDstSend (t : Fin 64) (s : State) : Answer := .next (s.start.dstSend t)

/-- A received copy is valid; the carrier's own validity is the row's (R534). -/
def State.dstValid (s : State) (t : Nat) (b : List Byte) : Bool :=
  let d := s.dstDesc t
  let f := dstFields b
  let arr := s.time % 2 ^ 32
  let diff := (arr + 2 ^ 32 - f.2.1) % 2 ^ 32
  b.length == dstLen d && leNat (b.take 4) == crc32c (leBytes 4 (field d 31 0) ++ b.drop 4)
    && (b.getLastD 0).toNat == field d 119 112 && (!(s.dstOf t).any || newer16 f.1 (s.nat (Oid.DST_SEQ t)))
    && decide (diff ≤ 20000000 ∨ 2 ^ 32 - 20000000 ≤ diff)

/-- DATA opens the remote chain (R535). -/
def State.dstOpens (s : State) (t : Nat) (data : List Byte) : Bool :=
  let m := s.nat (Oid.DST_CHAIN t)
  ((data.getD 0 0).toNat &&& m) != m

/-- SF4 trips on the cars of a telegram (R535, R536). -/
def State.dstTrip (s : State) (t : Nat) : State :=
  (List.range 12).foldl (fun s n => if (s.dstDesc t).testBit (60 + n) && s.sWatch n then s.trip n 4 false false else s) s

/-- A telegram is accepted, on both copies or on one (R535, R536). -/
def State.dstAccept (s : State) (t : Nat) (b : List Byte) (pair : Bool) : State :=
  let f := dstFields b
  let d := s.dstOf t
  if d.any && !newer16 f.1 (s.nat (Oid.DST_SEQ t)) then s
  else
    let opened := s.dstOpens t f.2.2
    let st := s.nat (Oid.DST_STATE t)
    let s := s.setDst t { d with any := true, chain := opened }
    let s := ((s.setN (Oid.DST_SEQ t) f.1).setBlob (Oid.DST_RX_DATA t) f.2.2).setN (Oid.DST_STATE t)
      (if pair then 2 else if st = 4 ∨ st = 5 then st else 2)
    if opened then s.dstTrip t else s

/-- A valid copy: it may open the remote chain at once, and meets its companion or waits for it (R535). -/
def State.dstTake (s : State) (t c : Nat) (b : List Byte) : State :=
  let f := dstFields b
  let d := s.dstOf t
  let d := if c = 0 then { d with at0 := s.clk } else { d with at1 := s.clk }
  let s := s.setDst t d
  let s := if s.dstOpens t f.2.2 then (s.setDst t { d with chain := true }).dstTrip t else s
  let d := s.dstOf t
  match d.wait.find? (fun w => (dstFields w.2.2).1 == f.1 && w.1 != c && !s.passed w.2.1 (ms 5)) with
  | some w =>
    let s := s.setDst t { d with wait := d.wait.filter (fun x => (dstFields x.2.2).1 != f.1) }
    if dstFields w.2.2 = f then s.dstAccept t b true
    else
      let s := (s.setN (Oid.DST_STATE t) 4).eventOf 0x050B (0x100 + t) f.1
      s.dstTrip t
  | none => s.setDst t { d with wait := d.wait ++ [(c, s.clk, b)] }

/-- DST_COPY (R534, R535). -/
def State.dstCopy (s : State) (t c : Nat) (b : List Byte) : State :=
  if field (s.dstDesc t) 127 120 != 2 || !s.up .safe then s
  else if s.dstValid t b then s.dstTake t c b
  else s.count (Oid.DST_ERRORS t) 32

/-- DST_COPY. -/
def execDstCopy (t : Fin 64) (carrier : Fin 2) (b : List Byte) (s : State) : Answer := .next (s.start.dstCopy t carrier b)

/-- Copies that have waited 5 ms are accepted alone, and the missing carrier is counted (R535). -/
def State.dstWaited (s : State) (t : Nat) : State :=
  let d := s.dstOf t
  let s := match d.wait.head? with
    | some w => s.reach (w.2.1 + ms 5)
    | none => s
  let due := d.wait.filter (fun w => s.passed w.2.1 (ms 5))
  let s := s.setDst t { d with wait := d.wait.filter (fun w => !s.passed w.2.1 (ms 5)) }
  due.foldl (fun s w =>
    let d := s.dstOf t
    let s := s.setDst t (if w.1 = 0 then { d with miss1 := d.miss1 + 1 } else { d with miss0 := d.miss0 + 1 })
    s.dstAccept t w.2.2 false) s

/-- DST_COPY_WAIT. -/
def execDstCopyWait (t : Fin 64) (s : State) : Answer :=
  let s := s.start
  .next (if s.up .safe then s.dstWaited t else s)

/-- DST_SINGLE: a carrier has missed every copy for 1 s (R535). -/
def execDstSingle (t : Fin 64) (carrier : Fin 2) (s : State) : Answer :=
  let s := s.start
  let d := s.dstOf t
  .next (if s.up .safe && d.any && s.nat (Oid.DST_STATE t) == 2 then
      ((s.reach ((if carrier = 0 then d.at0 else d.at1) + sec 1)).setN (Oid.DST_STATE t) 5).eventOf 0x050C (0x100 + t.val) carrier.val
    else s)

/-- DST_TIMEOUT: no valid copy on either carrier for 20 ms (R536). -/
def execDstTimeout (t : Fin 64) (s : State) : Answer :=
  let s := s.start
  let d := s.dstOf t
  .next (if s.up .safe && field (s.dstDesc t) 127 120 == 2 && s.nat (Oid.DST_STATE t) != 3 then
      (((s.reach (max d.at0 d.at1 + ms 20)).setN (Oid.DST_STATE t) 3).eventOf 0x050A (0x100 + t.val) (s.nat (Oid.DST_SEQ t))).dstTrip t
    else s)

end Sys2Proof.Machine
end

