-- ==== Sys2Proof/Machine/Power.lean ====
section
/-! DEFINITION. Power and clock domains: the feeds, the holdup bank, AUTUMN, SPRING, core sleep, the clocks, and the die temperature
(chapter 03). -/

namespace Sys2Proof.Machine

/-! ### Domains and the power account (R78, R105, R665) -/

/-- A domain is switched on; its clock-good follows once its source has been locked and in its window for 100 µs, and its blocks leave reset
then; a PLL has no source while the TCXO is lost (R78, R87, R89, R90, R105). (DEDUCED, log entry 40.) -/
def State.domainOn (s : State) (d : Domain) : State :=
  if s.pd d then s
  else
    let s := s.setBit Oid.PD_STATE (domBit d) true
    if !s.pow.tcxo ∧ d ≠ .sla then s
    else
      let s := s.reach (s.clk + us 100)
      (s.setBit Oid.CK_GOOD (domBit d) true).blocksOn d

/-- `k` more sub-units of a domain fit the power account (R105). -/
def State.fitsUnits (s : State) (d : Domain) (k : Nat) : Bool :=
  decide (domMw d (s.unitsOn d + k) - domMw d (s.unitsOn d) ≤ s.headroom 0x40 3)

/-! ### Feeds (R95) -/

/-- A feed of the module. -/
def State.feed (s : State) (f : Nat) : Feed := if f = 0 then s.pow.feedA else s.pow.feedB

/-- That changed, with the voltage last seen at its contact. -/
def State.setFeed (s : State) (f : Nat) (x : Feed) (mv : Nat) : State :=
  if f = 0 then { s with pow := { s.pow with feedA := x } }.setN Oid.FEED_A_MV mv
  else { s with pow := { s.pow with feedB := x } }.setN Oid.FEED_B_MV mv

/-- A feed counts as present; after AUTUMN with PD-AON still running it is the source SUPPLY_RETURN (R95, R103, R114). -/
def State.feedPresent (s : State) (f mv : Nat) : State :=
  let first := !s.pow.feedA.valid && !s.pow.feedB.valid
  if (s.feed f).valid then s.setFeed f { valid := true } mv
  else
    let s := (s.setFeed f { valid := true } mv).event 0x0202 f mv
    if first ∧ s.pow.autumn = .done then { s with pow := { s.pow with autumn := .none } }.assertSource 1 else s

/-- FEED_VALID: above 18.5 V for 100 ms (R95). (DEDUCED, log entry 38.) -/
def execFeedValid (f : Fin 2) (mv forUs : Nat) (s : State) : Answer :=
  let s := s.start
  .next (if s.pd .aon && decide (18500 < mv ∧ 100000 ≤ forUs) && !(s.feed f).disconnected then s.feedPresent f mv else s)

/-- FEED_LOST: below 17.0 V for 100 µs (R95). -/
def execFeedLost (f : Fin 2) (mv forUs : Nat) (s : State) : Answer :=
  let s := s.start
  .next (if s.pd .aon && decide (mv < 17000 ∧ 100 ≤ forUs) && (s.feed f).valid then
      (s.setFeed f { valid := false } mv).event 0x0201 f mv
    else s)

/-- FEED_OVERVOLT: above 32.0 V for 50 µs, the feed is disconnected (R95). -/
def execFeedOvervolt (f : Fin 2) (mv forUs : Nat) (s : State) : Answer :=
  let s := s.start
  .next (if s.pd .aon && decide (32000 < mv ∧ 50 ≤ forUs) && !(s.feed f).disconnected then
      (s.setFeed f { valid := false, disconnected := true } mv).event 0x0203 f mv
    else s)

/-- FEED_RECONNECT: below 31.0 V for 100 ms, the feed is connected again; above 18.5 V it counts as present (R95).
(DEDUCED, log entry 38.) -/
def execFeedReconnect (f : Fin 2) (mv forUs : Nat) (s : State) : Answer :=
  let s := s.start
  .next (if s.pd .aon && decide (mv < 31000 ∧ 100000 ≤ forUs) && (s.feed f).disconnected then
      let s := s.setFeed f { valid := false } mv
      if 18500 < mv then s.feedPresent f mv else s
    else s)

/-! ### The holdup bank (R97 to R99, R107) -/

/-- BANK_MEASURE: BANK_OK at 36 V and 1.8 mF; the charger draws until 40 V (R97, R98). -/
def execBankMeasure (mv capUf : Nat) (s : State) : Answer :=
  let s := s.start
  .next (if s.pd .aon then
      let s := (((s.setN Oid.BANK_MV mv).setN Oid.BANK_CAP capUf).setFlag Oid.BANK_OK (decide (36000 ≤ mv ∧ 1800 ≤ capUf)))
      let s := { s with pow := { s.pow with charging := (s.pow.feedA.valid || s.pow.feedB.valid) && decide (mv < 40000) } }
      if capUf < 1800 then s.event 0x0220 mv capUf else s
    else s)

/-- BANK_OK_TIMEOUT: not ready 2 s after t0 of SPRING, start-up continues (R107). -/
def execBankOkTimeout (s : State) : Answer :=
  let s := s.start
  .next (if s.pow.springOn && !s.pow.bankGiveUp && !s.flag Oid.BANK_OK && s.nat Oid.SPRING_STEP == 11 then
      let s := s.reach (s.pow.springT0 + sec 2)
      { s with pow := { s.pow with bankGiveUp := true } }.event 0x0220 (s.nat Oid.BANK_MV) (s.nat Oid.BANK_CAP)
    else s)

/-! ### AUTUMN (R101 to R104) -/

/-- Supply fail: steps 2 and 3 of the table AUTUMN sequence. PD-MET stays on to finish the sample in progress (R101, R572). -/
def State.autumnStart (s : State) : State :=
  let s := { s with pow := { s.pow with feedA := { s.pow.feedA with valid := false }, feedB := { s.pow.feedB with valid := false } } }
  let s := if s.tw.activeOut then s.release 3 else s
  let s := s.eventAon 0x0210 (s.nat Oid.BANK_MV)
  let s := { s with
    pow := { s.pow with
      autumn := .running, autumnAt := s.clk, charging := false, springOn := false, lpddr := false, awake := 0, inService := 0, puOn := 0
      sampled := 0 }
    tw := { s.tw with activeOut := false } }
  let s := ((s.setN Oid.PD_STATE (s.nat Oid.PD_STATE &&& 0x423)).setN Oid.CK_GOOD (s.nat Oid.CK_GOOD &&& 0x423)).setN Oid.APP_CORES_ON 0
  (s.setN Oid.DL_ON 0).setAllSwitches

/-- SUPPLY_FAIL: both feeds below 17.0 V for 20 µs, whether or not either still counted as present (R95, R101). (DEDUCED, log entry 38.) -/
def execSupplyFail (mvA mvB forUs : Nat) (s : State) : Answer :=
  let s := s.start
  .next (if s.pd .aon && decide (mvA < 17000 ∧ mvB < 17000 ∧ 20 ≤ forUs) && s.pow.autumn == .none
            && (s.pow.feedA.valid || s.pow.feedB.valid || s.pow.springOn || s.nat Oid.PD_STATE != 1) then
      ((s.setN Oid.FEED_A_MV mvA).setN Oid.FEED_B_MV mvB).autumnStart
    else s)

/-- Step 4, 130 µs after the supply fail: the shadow is stable, PD-MET is switched off, and the save begins, of the words that pass their
check (R101, R113). -/
def State.autumnSave (s : State) : State :=
  let s := s.reach (s.pow.autumnAt + us 130)
  let s := if s.met.stopped.isSome then s else s.energyStop 3
  let s := s.save 1 s.met.shadowBad false
  ((s.setN Oid.PD_STATE (s.nat Oid.PD_STATE &&& 0x403)).setN Oid.CK_GOOD (s.nat Oid.CK_GOOD &&& 0x403)).setN Oid.MI_ON 0

/-- SRAM, MRAM and PD-SLA are switched off; a freeze ends with them; a feed that is valid by then is the source SUPPLY_RETURN (R101, R103,
R114). (DEDUCED, log entry 143.) -/
def State.autumnEnd (s : State) : State :=
  let s := if s.mode = .frozen then { s with mode := .boot, frz := { s.frz with selfRefresh := false, clocksStopped := false, waiting := false } } else s
  let s := ((s.setN Oid.PD_STATE (s.nat Oid.PD_STATE &&& 1)).setN Oid.CK_GOOD (s.nat Oid.CK_GOOD &&& 1)).setAllSwitches
  if s.pow.feedA.valid || s.pow.feedB.valid then { s with pow := { s.pow with autumn := .none } }.assertSource 1
  else { s with pow := { s.pow with autumn := .done } }

/-- AUTUMN_DONE: the shadow and the pending records are in MRAM, the slot set is closed (R101). -/
def execAutumnDone (durUs : Nat) (s : State) : Answer :=
  let s := s.start
  .next (if s.pow.autumn = .running then
      let s := s.autumnSave
      let n := s.met.lastNum
      let s := match s.met.slots.find (n % 8) with
        | some x => { s with met := { s.met with slots := s.met.slots.ins (n % 8) { x with closed := true, crcGood := true } } }
        | none => s
      let s := (s.setN Oid.SAVE_NUMBER n).flushRecords.eventAon 0x0211 durUs (n % 8)
      s.autumnEnd
    else s)

/-- AUTUMN_INCOMPLETE: the bank fell below 12 V; the slot set stays open, and the records not written are lost (R102). -/
def execAutumnIncomplete (words : Nat) (s : State) : Answer :=
  let s := s.start
  .next (if s.pow.autumn = .running then
      let s := s.autumnSave
      { s with pow := { s.pow with openSet := some (s.met.lastNum % 8, words) } }.losePending.autumnEnd
    else s)

/-! ### SPRING (R105 to R107) -/

/-- The time of a SPRING step after t0, ms; of step 6 its first group (R105). -/
def springMs (step : Nat) : Nat := [0, 0, 5, 10, 12, 50, 60, 90, 95, 100, 110, 120].getD step 0

/-- The position units of configured cars, as puOn (R79). -/
def State.puWanted (s : State) : BitVec 12 :=
  (List.range 12).foldl (fun v n => if s.carConfigured n then v ||| BitVec.twoPow 12 n else v) 0

/-- A metering island has a configured channel (R79). -/
def State.islandWanted (s : State) (i : Nat) : Bool := (List.range 12).any (fun k => s.get (Oid.CH_SENSOR (12 * i + k)) != 0)

/-- Cores 4 g to 4 g + 3 are switched on (R81, R105). -/
def State.coresOn (s : State) (g : Nat) : State :=
  let m : BitVec 16 := 0xF <<< (4 * g)
  let s := (List.range 4).foldl (fun s c => { s with pow := { s.pow with coreWork := s.pow.coreWork.put 0 (4 * g + c) s.clk } }) s
  let s := { s with pow := { s.pow with awake := s.pow.awake ||| m, inService := s.pow.inService ||| m } }
  (s.setN Oid.APP_CORES_ON s.pow.awake.toNat).domainOn .app

/-- The die is at least 10 K below the thermal limit (R106, R675). -/
def State.coolEnough (s : State) : Bool := decide (s.get Oid.DIE_TEMP ≤ 950)

/-- A group is held back and recorded (R106). (DEDUCED, log entry 39.) -/
def State.heatWait (s : State) (g : Nat) : State :=
  { s with pow := { s.pow with heldGroups := s.pow.heldGroups ||| BitVec.twoPow 4 g, retryAt := s.clk } }.event 0x0230 g (par (s.get Oid.DIE_TEMP))

/-- The S-pair starts from the boot bank, or from the other one (R134, R636). -/
def State.bootBank (s : State) : State :=
  let b := s.mem.bootBank
  if s.mem.bankOk.getLsbD b then s.setN Oid.FW_BANK b
  else if s.mem.bankOk.getLsbD (1 - b) then
    ({ s with mem := { s.mem with bootBank := 1 - b } }.setN Oid.FW_BANK (1 - b)).event 0x0108 b 0
  else ({ s with rst := { s.rst with bootFail := true } }.event 0x0108 b 1).reportHealth

/-- A step is complete. (DEDUCED, log entry 40.) -/
def State.springDone (s : State) (step : Nat) : State := { s with pow := { s.pow with springSub := 0 } }.setN Oid.SPRING_STEP step

/-- A domain's step: skipped where the reach kept it, but for LPDDR5 after WARM, else taken once the account allows it; PD-SLA is off for at
least 100 ms in a COLD reset (R105, R112). (DEDUCED, log entry 40.) -/
def State.springDomain (s : State) (step : Nat) (d : Domain) : State :=
  if s.pd d then (if d = .mem ∧ !s.pow.lpddr then { s with pow := { s.pow with lpddr := true } } else s).springDone step
  else if !s.fitsUnits d 1 then s
  else
    let s := match d, s.pow.slaOffAt with
      | .sla, some t => { s.reach (t + ms 100) with pow := { (s.reach (t + ms 100)).pow with slaOffAt := none } }
      | _, _ => s
    let s := s.domainOn d
    let s := match d with
      | .sla => s.setN Oid.SLA_STATE 1
      | .mem => { s with pow := { s.pow with lpddr := true } }
      | .safe => s.bootBank
      | .pos => { s with pow := { s.pow with puOn := s.puWanted } }
      | _ => s
    s.springDone step

/-- Step 6: the next group, unless heat holds it back or the account makes it wait (R105, R106). -/
def State.springCores (s : State) : State :=
  let g := s.pow.springSub + 1
  if !s.coolEnough then
    let s := s.heatWait g
    if g = 3 then s.springDone 6 else { s with pow := { s.pow with springSub := g } }
  else if !s.fitsUnits .app 4 then s
  else
    let s := s.coresOn g
    if g = 3 then s.springDone 6 else { s with pow := { s.pow with springSub := g } }

/-- Step 13: the energy registers are restored, then the configured islands come up one at a time (R105, R107, R502). -/
def State.springIslands (s : State) : State :=
  let s := if s.pd .met then s else (s.energyRestart (!s.rst.seen.getLsbD 0)).domainOn .met
  match (List.range 4).find? (fun i => decide (s.pow.springSub ≤ i) && s.islandWanted i && !s.bit Oid.MI_ON i) with
  | none => s.springDone 13
  | some i =>
    if !s.fitsUnits .met 1 then s
    else
      let s := if s.nat Oid.MI_ON = 0 then s else s.reach (s.pow.subAt + ms 10)
      ({ s with pow := { s.pow with springSub := i + 1, subAt := s.clk } }.setBit Oid.MI_ON i true).islandStart i

/-- Step 14: the configured door channels come up one at a time, each once the handshake before it has ended (R105, R107). -/
def State.springDoors (s : State) : State :=
  let s := s.domainOn .dl
  if s.pow.springSub ≠ 0 ∧ (s.door (s.pow.springSub - 1)).hs ≠ 0 then s
  else
    match (List.range 24).find? (fun k => decide (s.pow.springSub ≤ k) && s.flag (Oid.DOOR_ENABLE k)) with
    | none => { s with pow := { s.pow with springOn := false } }.springDone 14
    | some k =>
      if !s.fitsUnits .dl 1 then s
      else
        let s := { s with pow := { s.pow with springSub := k + 1 } }.setBit Oid.DL_ON k true
        if s.doorUp k then s.handshake k else s

/-- PD-TWIN stays off where the configuration declares a single module (R79). -/
def State.springTwin (s : State) : State := if s.nat Oid.TW_MODE = 0 then s.springDone 11 else s.springDomain 11 .twin

/-- The next step of SPRING, at its time (R105). -/
def State.springStep (s : State) : State :=
  let n := s.nat Oid.SPRING_STEP + 1
  if !s.pow.springOn || s.rst.inReset || s.mode == .frozen || s.rst.strapFault || s.rst.bootFail then s
  else
    let s := s.reach (s.pow.springT0 + ms (springMs n + (if n = 6 then 10 * s.pow.springSub else 0)))
    match n with
    | 1 => { s with pow := { s.pow with charging := decide (s.nat Oid.BANK_MV < 40000) && (s.pow.feedA.valid || s.pow.feedB.valid) } }.springDone 1
    | 2 => s.springDomain 2 .sla
    | 3 => s.springDomain 3 .mem
    | 4 => s.springDomain 4 .safe
    | 5 => if s.fitsUnits .app 4 then (s.coresOn 0).springDone 5 else s
    | 6 => s.springCores
    | 7 => s.springDomain 7 .ce
    | 8 => s.springDomain 8 .pos
    | 9 => s.springDomain 9 .net
    | 10 => s.springDomain 10 .bus
    | 11 => s.springTwin
    | 12 => if s.flag Oid.BANK_OK || s.pow.bankGiveUp then s.springDone 12 else s
    | 13 => s.springIslands
    | 14 => s.springDoors
    | _ => s

/-- CORE_GROUP_RETRY: every 1 s the lowest group held back is tried again (R106). (DEDUCED, log entry 39.) -/
def execCoreGroupRetry (s : State) : Answer :=
  let s := s.start
  .next (match [1, 2, 3].find? (fun g => s.pow.heldGroups.getLsbD g) with
    | none => s
    | some g =>
      if !s.up .app then s
      else
        let s := s.reach (s.pow.retryAt + sec 1)
        if !s.coolEnough then s.heatWait g
        else if s.pow.springOn && !s.fitsUnits .app 4 then s
        else
          let s := { s with pow := { s.pow with heldGroups := s.pow.heldGroups &&& ~~~ BitVec.twoPow 4 g, retryAt := s.clk } }
          (s.coresOn g).grow 0x20)

/-! ### Sleep of application cores (R81 to R83) -/

/-- CORE_SLEEP: a core without work for APP_SLEEP_DELAY is gated, while more than APP_MIN_AWAKE are awake (R81). -/
def execCoreSleep (core : Fin 16) (s : State) : Answer :=
  let s := s.start
  .next (if s.up .app && s.pow.awake.getLsbD core && decide (s.nat Oid.APP_MIN_AWAKE < popCount s.pow.awake.toNat 16) then
      let s := s.reach (Tbl.get 0 s.pow.coreWork core + us (s.nat Oid.APP_SLEEP_DELAY))
      let s := { s with pow := { s.pow with awake := s.pow.awake &&& ~~~ BitVec.twoPow 16 core } }
      s.setN Oid.APP_CORES_ON s.pow.awake.toNat
    else s)

/-- Sleeping cores in service wake, lowest first, until APP_MIN_AWAKE are awake (R81). (DESIGN CHOICE, log entry 144.) -/
def State.keepAwake (s : State) : State :=
  (List.range 16).foldl (fun s c =>
    if s.pow.inService.getLsbD c && !s.pow.awake.getLsbD c && decide (popCount s.pow.awake.toNat 16 < s.nat Oid.APP_MIN_AWAKE) then
      let s := { s with pow := { s.pow with awake := s.pow.awake ||| BitVec.twoPow 16 c, coreWork := s.pow.coreWork.put 0 c s.clk } }
      s.setN Oid.APP_CORES_ON s.pow.awake.toNat
    else s) s

/-- CORE_WAKE: a wake event; the core runs within 40 µs (R82). -/
def execCoreWake (core : Fin 16) (_ : WakeEvent) (s : State) : Answer :=
  let s := s.start
  .next (if s.up .app && s.pow.inService.getLsbD core then
      let s := { s with pow := { s.pow with awake := s.pow.awake ||| BitVec.twoPow 16 core, coreWork := s.pow.coreWork.put 0 core s.clk } }
      s.setN Oid.APP_CORES_ON s.pow.awake.toNat
    else s)

/-! ### Clocks (R87 to R90, R125, R126) -/

/-- The control engine restarts: every enabled loop is OPEN (R105, R112). -/
def State.loopsRestart (s : State) : State :=
  (s.loops.map (·.1)).foldl (fun s key => s.openLoop (key % 4) (key / 4)) s

/-- Clock-good of a domain is deasserted: recorded through PD-AON, and its blocks are in reset (R89, R90, R126). -/
def State.clockGone (s : State) (d : Domain) (cause : Bool) : State :=
  let s := (s.setBit Oid.CK_GOOD (domBit d) false).eventAon 0x0301 (domBit d) (boolNat cause)
  let s := (List.range 64).foldl (fun s b => if blockDomain b = d ∧ d ≠ .aon then s.blockAssert b 1 else s) s
  let s := if d = .sla then s.slaFault 1 else s
  if d = .ce then s.loopsRestart else s

/-- Clock-good of a domain is lost: an ACTIVE module releases to a healthy standby (R126). -/
def State.clockLost (s : State) (d : Domain) (cause : Bool) : State := ((s.clockGone d cause).releaseIfHealthy 5).setAllSwitches

/-- The domains that a PLL clocks from the TCXO (R86). -/
def pllDomains : List Domain := [.safe, .app, .ce, .met, .pos, .dl, .bus, .net, .mem, .twin]

/-- The TCXO is lost: clock-good of every PLL domain goes within 20 µs, and the S-pair refreshes ACTIVE_OUT no more (R90). -/
def State.tcxoLost (s : State) : State :=
  let s := { s with pow := { s.pow with tcxo := false } }
  (pllDomains.foldl (fun s d => if s.pd d && s.ck d then s.clockGone d false else s) s).setAllSwitches

/-- CLOCK_LOST: of a domain, or of the TCXO, which PD-AON holds and the row names by PD-AON; CK-AON itself is R88's. CK-SLA has no lock to
lose (R87, R90). (DEDUCED, log entry 40.) -/
def execClockLost (dom : Domain) (cause : Bool) (s : State) : Answer :=
  let s := s.start
  .next (if dom = .aon then (if s.pd .aon && s.pow.tcxo then s.tcxoLost else s)
    else if s.pd dom && s.ck dom && (dom != .sla || cause) then s.clockLost dom cause
    else s)

/-- Clock-good of a domain is asserted again: the blocks that no other source holds leave reset (R87, R125). -/
def State.clockBack (s : State) (d : Domain) : State :=
  let s := (s.setBit Oid.CK_GOOD (domBit d) true).eventAon 0x0302 (domBit d)
  (List.range 64).foldl (fun s b => if blockDomain b = d then s.blockRelease b else s) s

/-- CLOCK_RESTORED: of a domain, or of the TCXO with every PLL domain that is on (R87, R90, R125). -/
def execClockRestored (dom : Domain) (s : State) : Answer :=
  let s := s.start
  .next (if dom = .aon then
      (if s.pd .aon && !s.pow.tcxo then
        let s := { s with pow := { s.pow with tcxo := true } }
        (pllDomains.foldl (fun s d => if s.pd d && !s.ck d then s.clockBack d else s) s).setAllSwitches
      else s)
    else if s.pd dom && !s.ck dom && (dom = .sla || s.pow.tcxo) then (s.clockBack dom).setAllSwitches
    else s)

/-- AON_FALLBACK: CK-AON changes between the crystal and the burst oscillator (R88). -/
def execAonFallback (good : Bool) (s : State) : Answer :=
  let s := s.start
  .next (if s.pd .aon && s.pow.aonFallback == good then
      ({ s with pow := { s.pow with aonFallback := !good } }.setBit Oid.CK_GOOD 0 good).event 0x0303 (boolNat (!good))
    else s)

/-! ### Die temperature (R111, R663, R675) -/

/-- The thermal limit is recorded once; the manual gives the record no code (R111). (DESIGN CHOICE, log entry 25.) -/
def State.thermalFault (s : State) : State :=
  if s.pow.hot then s
  else
    let f := s.free
    { f.2 with pow := { f.2.pow with hot := true } }.event (f.1.toNat % 65536)

/-- A reading of the die temperature: the heat account follows it, and the thermal limit is a fault, for which an ACTIVE module releases to a
healthy standby, be it one that appears while the die is hot (R111, R675). (DESIGN CHOICE, log entry 25.) -/
def State.dieTemp (s : State) (t : Int) : State :=
  let old := s.acctSize 0x48
  let s := s.set Oid.DIE_TEMP t
  let cool := if t < 1000 then some (s.rst.coolSince.getD s.clk) else none
  let s := { s with rst := { s.rst with coolSince := cool } }
  let s := if s.acctSize 0x48 < old then s.shrink 0x48 else if old < s.acctSize 0x48 then s.grow 0x48 else s
  if t < 1050 then { s with pow := { s.pow with hot := false } }
  else if !s.booted then s
  else s.thermalFault.releaseIfHealthy 6

/-- DIE_TEMP_READING (R675). -/
def execDieTempReading (t : Int) (s : State) : Answer :=
  let s := s.start
  .next (if s.pd .aon then s.dieTemp t else s)

/-- THERMAL_RESET: PD-AON sees 115 °C (R663). -/
def execThermalReset (t : Int) (s : State) : Answer :=
  let s := s.start
  .next (if s.pd .aon && decide (1150 ≤ t) && !s.rst.asserted.getLsbD 14 then
      { s.set Oid.DIE_TEMP t with rst := { s.rst with coolSince := none } }.assertSource 14
    else s)

/-- THERMAL_RELEASE: DIE_TEMP below 100 °C for 10 s (R114, R663). (DEDUCED, log entry 37.) -/
def execThermalRelease (t : Int) (s : State) : Answer :=
  let s := s.start
  .next (if s.rst.asserted.getLsbD 14 && decide (t < 1000) then
      let s := s.reach (s.rst.coolSince.getD s.clk + sec 10)
      (s.set Oid.DIE_TEMP t).clearSource 14
    else s)

end Sys2Proof.Machine
end

