-- ==== Sys2Proof/Machine/Memory.lean ====
section
/-! DEFINITION. Memory integrity, firmware banks, configuration slots and certificates (chapter 18). -/

namespace Sys2Proof.Machine

/-! ### Regions (R619) -/

/-- The regions of a memory in order of address, with their sizes in KiB (tables SRAM regions, LPDDR5 regions and MRAM regions):
0 SRAM, 1 LPDDR5, 2 MRAM. -/
def regions (m : Nat) : List (Nat × Nat) :=
  if m = 0 then
    [(0x01, 6144), (0x02, 512), (0x03, 8192), (0x04, 4096), (0x05, 17408), (0x06, 1024), (0x07, 1024), (0x08, 2048), (0x09, 512),
     (0x0A, 1024), (0x0B, 512), (0x0C, 6656)]
  else if m = 1 then [(0x20, 65536), (0x21, 196608), (0x22, 262144), (0x23, 1048576), (0x24, 6815744)]
  else
    [(0x40, 262144), (0x41, 131072), (0x42, 4096), (0x43, 49152), (0x44, 1024), (0x45, 49152), (0x46, 131072), (0x47, 1024), (0x48, 2048)]

/-- The memory that a region lies in. -/
def regionMem (r : Nat) : Nat := if r < 0x20 then 0 else if r < 0x40 then 1 else 2

/-- The bytes of one word of a memory (R620). -/
def wordSize (m : Nat) : Nat := if m = 0 then 16 else 32

/-- The region at a byte address, with the byte offset in it, among regions laid out from `base` on. (DESIGN CHOICE, log entry 19.) -/
def regionFrom : Nat → List (Nat × Nat) → Nat → Option (Nat × Nat)
  | _, [], _ => none
  | base, (r, k) :: t, a => if a < base + 1024 * k then some (r, a - base) else regionFrom (base + 1024 * k) t a

/-- The region at a word address of a memory, with the byte offset in it. (DESIGN CHOICE, log entry 19.) -/
def regionAt (m addr : Nat) : Option (Nat × Nat) := regionFrom 0 (regions m) (addr * wordSize m)

/-- The byte offset of a word address in its region. (DESIGN CHOICE, log entry 19.) -/
def regionOff (r addr : Nat) : Nat := match regionAt (regionMem r) addr with
  | some (x, off) => if x = r then off else 0
  | none => 0

/-! ### Containment (R619, R627) -/

/-- INVALID is set on a point (R216). -/
def State.invalidate (s : State) (p : Nat) : State :=
  if s.ptType p = 0 then s
  else s.setInvalid p 0

/-- An item that the manual does not let the address of an error name: any one of a list, or none of an empty one.
(DESIGN CHOICE, log entry 20.) -/
def State.anyOf {α : Type} (s : State) (l : List α) : Option α × State :=
  let f := s.free
  (l[f.1.toNat % max l.length 1]?, f.2)

/-- Region 0x03: output and value points recompute PV from the point store at once; input points wait (R619). -/
def State.containHot (s : State) (p : Nat) : State := if isInput (s.ptType p) then s.invalidate p else s.restorePoint p

/-- Region 0x05: a medium loop trips with cause MISS; a fast slot misses (R619). (DESIGN CHOICE, log entry 20.) -/
def State.containLoop (s : State) : State :=
  let x := s.anyOf (s.loops.map (·.1))
  match x.1 with
  | none => x.2
  | some key =>
    if key % 4 = 0 then x.2.missDeadline 0 (key / 4) else if key % 4 = 1 then x.2.tripLoop 1 (key / 4) 4 else x.2

/-- Region 0x04: the slow loop trips with cause MISS (R404, R619). -/
def State.containSlow (s : State) (j : Nat) : State := if s.loopOn 2 j then s.tripLoop 2 j 4 else s

/-- Region 0x07: a launch is not emitted and counts as committed (R619). -/
def State.containLaunch (s : State) : State :=
  let x := s.anyOf (s.launches.filter (fun l => l.live))
  match x.1 with
  | none => x.2
  | some l =>
    (mapLaunch x.2 l.part l.tag (fun l => { l with state := .refused })).event 0x110A l.tag Status.integrity.code

/-- Region 0x08: the affected occurrence fails (R284, R619). -/
def State.containCan (s : State) : State :=
  let l := (List.range 8).flatMap (fun c => (s.canCh c).desc.map (fun (e : Nat × Nat) => (c, e.1)))
  let x := s.anyOf l
  match x.1 with
  | none => x.2
  | some (c, e) => x.2.entryFails c e

/-- Region 0x0A: a record that waits is dropped (R619). -/
def State.containRecord (s : State) : State :=
  let x := s.anyOf (s.rcd.ring.filter (·.waiting))
  match x.1 with
  | none => x.2
  | some r =>
    let s := x.2
    { s with rcd := { s.rcd with ring := s.rcd.ring.filter (fun y => y.seq != r.seq) } }.count Oid.REC_DROPPED 32

/-- Regions 0x0C and 0x24: a frame is lost, or a pending request is answered INTEGRITY (R619). -/
def State.containRequest (s : State) : State :=
  let x := s.anyOf ([none] ++ s.acc.slow.map some)
  match x.1 with
  | some (some r) =>
    let s := x.2
    { s with acc := { s.acc with slow := s.acc.slow.filter (· != r) } }.answer r Status.integrity.code []
  | _ => x.2

/-- Region 0x43: the array is emptied, PV takes RELINQUISH_DEFAULT, and INVALID is set until a write (R619). (DEDUCED, log entry 21.) -/
def State.containArray (s : State) (p : Nat) : State :=
  if hasArray (s.ptType p) then
    let s := s.setPtAux p { s.ptAux p with storeMask := 0, storeSlots := [] }
    (((List.range 16).foldl (fun s n => s.set (Oid.PT_PRIORITY_SLOT p n) 0) s).setN (Oid.PT_PA_MASK p) 0).refreshPv p |>.setInvalid p 0x20
  else s

/-- Region 0x44: a slot set counts as one with a bad CRC (R619). -/
def State.containSave (s : State) : State :=
  let x := s.anyOf (s.met.slots.map (·.1))
  match x.1 with
  | none => x.2
  | some k =>
    let s := x.2
    { s with met := { s.met with slots := s.met.slots.map (fun (e : Nat × SaveSlot) => if e.1 = k then (k, { e.2 with crcGood := false }) else e) } }

/-- Region 0x48: an object returns INTEGRITY until it is written or relearnt (R619). -/
def State.containKept (s : State) : State :=
  let x := s.anyOf (s.acc.live.map (·.1))
  match x.1 with
  | none => x.2
  | some oid => { x.2 with mem := { x.2.mem with badObjs := oid :: x.2.mem.badObjs } }

/-- What an uncorrectable error in a region does (tables SRAM regions, LPDDR5 regions and MRAM regions, R619).
(DESIGN CHOICE, log entry 20.) -/
def State.contain (s : State) (r addr : Nat) : State :=
  let off := regionOff r addr
  if r = 0x03 then s.containHot (off / 32)
  else if r = 0x04 then s.containSlow (off / 64)
  else if r = 0x05 then s.containLoop
  else if r = 0x07 then s.containLaunch
  else if r = 0x08 then s.containCan
  else if r = 0x09 then s.shadowFails
  else if r = 0x0A then s.containRecord
  else if r = 0x0B then { s with mem := { s.mem with tablesAt := some s.clk } }
  else if r = 0x0C ∨ r = 0x24 then s.containRequest
  else if r = 0x20 then
    let p := off / 256
    { s.invalidate p with mem := { s.mem with rebuild := if s.ptType p = 0 then s.mem.rebuild else (p, s.clk) :: s.mem.rebuild.filter (fun x => x.1 != p) } }
  else if r = 0x23 then
    let x := s.anyOf s.tw.kept
    match x.1 with
    | none => x.2
    | some b => { x.2 with tw := { x.2.tw with kept := x.2.tw.kept.filter (fun k => k.1 != b.1) } }
  else if r = 0x40 then { s with mem := { s.mem with bankOk := s.mem.bankOk &&& ~~~ BitVec.twoPow 2 (off / 134217728) } }
  else if r = 0x41 then
    if off / 67108864 = s.nat Oid.CFG_ACTIVE_SLOT then { s with mem := { s.mem with activeBad := true } }
    else { s with mem := { s.mem with slotBad := (off % 67108864) :: s.mem.slotBad } }
  else if r = 0x42 then { s with mem := { s.mem with journalBad := some (min (off / 64) (s.mem.journalBad.getD (off / 64))) } }
  else if r = 0x43 then s.containArray (off / 192)
  else if r = 0x44 then s.containSave
  else if r = 0x45 then
    { s with mem := { s.mem with badInts := ((s.met.store.filter (fun x => x.1 % 393216 == off / 128)).map (·.1)) ++ s.mem.badInts } }
  else if r = 0x46 then
    { s with rcd := { s.rcd with ring := s.rcd.ring.map (fun x => if x.seq % 4194304 = off / 32 then { x with bad := true } else x) } }
  else if r = 0x48 then s.containKept
  else s

/-- A contained uncorrectable error: counted, shown, recorded; MEMORY is clear for 1 h (R627). -/
def State.memDse (s : State) (r addr : Nat) : State :=
  let s := (s.contain r addr).count Oid.MEM_DSE_COUNT 32
  let s := s.setBlob Oid.MEM_LAST_DSE (leBytes 8 s.time ++ leBytes 1 r ++ [0, 0, 0] ++ leBytes 4 addr)
  { s with tw := { s.tw with dseAt := some s.clk } }.event 0x0402 r addr

/-- A region of the tables outside every critical one (R619, R627). -/
def containedRegion (r : Nat) : Bool := (regions (regionMem r)).any (fun x => x.1 == r) && !criticalRegion r

/-- MEM_DSE_CONTAINED (R627). -/
def execMemDseContained (region : Byte) (addr : BitVec 32) (s : State) : Answer :=
  let s := s.start
  .next (if s.booted && containedRegion region.toNat then s.memDse region.toNat addr.toNat else s)

/-! ### Scrubbing (R621 to R624) -/

/-- A correction is counted; three of one word within 24 h are recorded (R624). -/
def State.memCorrected (s : State) (m addr : Nat) : State :=
  let old := match s.mem.corrected.find? (fun x => x.1 == m && x.2.1 == addr) with
    | some x => x.2.2.filter (fun t => !s.passed t (sec 86400))
    | none => []
  let l := s.clk :: old
  let s := { s with mem := { s.mem with corrected := (m, addr, l) :: s.mem.corrected.filter (fun x => !(x.1 == m && x.2.1 == addr)) } }
  let s := s.count Oid.MEM_CE_COUNT 32
  match regionAt m addr with
  | some (r, _) => if 3 ≤ l.length then s.event 0x0401 r addr l.length else s
  | none => s

/-- The word address of the other copy of a word in a duplicated region (R619). (DESIGN CHOICE, log entry 19.) -/
def otherCopy (m addr : Nat) : Option Nat :=
  match regionAt m addr with
  | some (r, off) =>
    let half := if r = 0x06 then 524288 else if r = 0x22 then 134217728 else 0
    if half = 0 then none else some (if off < half then addr + half / wordSize m else addr - half / wordSize m)
  | none => none

/-- The other copy of a duplicated word is among some words, and cannot be corrected either (R619). -/
def copyFails (m : Nat) (words : List (Nat × BitVec 280)) (addr : Nat) : Bool :=
  match otherCopy m addr with
  | some a => words.any (fun w => w.1 == a && readCode (wordSize m) a (w.2.toNat % 2 ^ (8 * (wordSize m + 3))) == .uncorrectable)
  | none => false

/-- A word that the scrub reads, among the words that it finds (R619, R621, R624). -/
def State.scrubWord (m : Nat) (words : List (Nat × BitVec 280)) (s : State) (w : Nat × BitVec 280) : State :=
  match readCode (wordSize m) w.1 (w.2.toNat % 2 ^ (8 * (wordSize m + 3))) with
  | .clean => s
  | .corrected _ => s.memCorrected m w.1
  | .uncorrectable =>
    match regionAt m w.1 with
    | none => s
    | some (r, _) => if criticalRegion r || copyFails m words w.1 then s.critical 1 r 11 else s.memDse r w.1

/-- The period of a scrub pass, ms (R623). -/
def scrubMs (m : Nat) : Nat := if m = 0 then 10000 else if m = 1 then 3600000 else 86400000

/-- SCRUB_PASS over a memory: the words that did not read clean among those given, and the time of the pass (R623). -/
def execScrubPass (mem : Fin 3) (words : List (Nat × BitVec 280)) (forMs : Nat) (s : State) : Answer :=
  let s := s.start
  .next (if s.booted && (mem.val != 1 || s.pow.lpddr) then
      let s := if mem = 1 then { s with rst := { s.rst with scrubDue := false } } else s
      let s := words.foldl (State.scrubWord mem words) s
      if scrubMs mem < forMs then s.event 0x0404 mem (forMs / 1000) else s
    else s)

/-! ### Images and sets (R633, R637) -/

/-- The canonical form of a byte store: addresses strictly rising, and no entry equal to the 0 that an unlisted byte reads. -/
def Memory.wf (b : Tbl Byte) : Bool := decide (b.Pairwise (fun x y => x.1 < y.1)) && b.all (fun e => e.2 != 0)

/-- Some bytes of a load buffer; an unlisted byte is 0. -/
def bytesAt (b : Tbl Byte) (from' n : Nat) : List Byte := (List.range n).map (fun i => Tbl.get 0 b (from' + i))

/-- A load buffer with bytes written at an offset. (DESIGN CHOICE, log entry 16.) -/
def writeAt : Tbl Byte → Nat → List Byte → Tbl Byte
  | b, _, [] => b
  | b, off, x :: t => writeAt (b.put 0 off x) (off + 1) t

/-- The offset of a FW_LOAD or CFG_LOAD value, and its data (R639). -/
def loadOff (v : List Byte) : Nat := leNat (v.take 4)

/-- A field of the header of an image or a set (table Image header). -/
def hdrField (b : Tbl Byte) (hi lo : Nat) : Nat := field (leNat (bytesAt b 0 256)) hi lo

/-- The first check that a set or image fails: 0 header, 1 key, 2 signature, 3 digest; `key` gives the verification key (R634, R638). -/
def imageFault (b : Tbl Byte) (magic limit : Nat) (key : Nat → List Byte) (sig : List Byte) : Option Nat :=
  let k := hdrField b 343 336
  let n := hdrField b 447 416
  if hdrField b 31 0 != magic || hdrField b 335 320 != 1 || decide (limit < n) then some 0
  else if key k = [] then some 1
  else if !Config.verifySig (key k) (bytesAt b 0 160) sig then some 2
  else if bytesAt b 112 48 != Config.sha384 (bytesAt b 256 n) then some 3
  else none

/-- The key of an image: one of the four in die ROM, none where it is revoked (R633, R636). -/
def State.imageKey (s : State) (k : Nat) : List Byte := if 4 ≤ k ∨ s.mem.revoked.getLsbD k then [] else Config.fwKey k

/-- The first check that the loaded image fails (R634, R640). (DESIGN CHOICE, log entry 18.) -/
def State.fwFault (s : State) : Option Nat :=
  match imageFault s.mem.image 0x57465850 134217472 s.imageKey (bytesAt s.mem.image 160 96) with
  | some c => some c
  | none => if hdrField s.mem.image 367 352 < s.nat Oid.FW_MIN_SVN then some 4 else none

/-- The bank that is not running (R634). -/
def State.otherBank (s : State) : Nat := 1 - s.nat Oid.FW_BANK

/-- FW_LOAD, FW_VERIFY and FW_SWITCH with FW_TARGET 1 need a healthy standby (R634). -/
def State.fwTargetCheck (s : State) : Option Refuse := need (s.nat Oid.FW_TARGET != 1 || s.healthyStandby) .busy

/-- FW_LOAD is accepted (R634, R639). -/
def State.fwLoadCheck (s : State) (v : List Byte) : Option Refuse :=
  andThen s.fwTargetCheck (need (decide (loadOff v + (v.length - 4) ≤ 134217728)) .range)

/-- What is loaded for one target, this module or its twin, comes to stand in the image buffer and in FW_STATE (R634, R639). -/
def State.forTarget (s : State) (twin : Bool) : State :=
  if s.mem.forTwin = twin then s
  else { s with mem := { s.mem with
    image := s.mem.other.image, verifyAt := s.mem.other.verifyAt, forTwin := twin
    other := { image := s.mem.image, verifyAt := s.mem.verifyAt, state := s.nat Oid.FW_STATE } } }.setN Oid.FW_STATE s.mem.other.state

/-- FW_LOAD takes effect on the image buffer: the bank written carries no valid signature until it is verified (R634, R635).
(DESIGN CHOICE, log entry 17.) -/
def State.fwLoad (s : State) (twin : Bool) (v : List Byte) : State :=
  let s := s.forTarget twin
  let ok := if twin then s.mem.bankOk else s.mem.bankOk &&& ~~~ BitVec.twoPow 2 s.otherBank
  { s with mem := { s.mem with image := writeAt s.mem.image (loadOff v) (v.drop 4), bankOk := ok, verifyAt := none } }.setN Oid.FW_STATE 1

/-- FW_VERIFY starts the check (R634). (DESIGN CHOICE, log entries 17 and 18.) -/
def State.fwVerify (s : State) (twin : Bool) : State :=
  let s := s.forTarget twin
  { s with mem := { s.mem with verifyAt := some s.clk } }.setN Oid.FW_STATE 2

/-- The check ends: verified, or refused (R634). (DESIGN CHOICE, log entry 17.) -/
def State.fwVerified (s : State) : State :=
  match s.mem.verifyAt with
  | none => s
  | some _ =>
    let twin := s.mem.forTwin
    let s' := { s with mem := { s.mem with verifyAt := none } }
    match s.fwFault with
    | some c => (s'.setN Oid.FW_STATE 4).event 0x1009 (boolNat twin) c
    | none =>
      if twin then s'.setN Oid.FW_STATE 3
      else
        let b := s.otherBank
        let hdr := bytesAt s.mem.image 0 256
        let ver := s.blob Oid.FW_VERSION
        let ver := if b = 0 then bytesAt s.mem.image 48 4 ++ ver.drop 4 else ver.take 4 ++ bytesAt s.mem.image 48 4
        (({ s' with mem := { s'.mem with bankOk := s'.mem.bankOk ||| BitVec.twoPow 2 b, bankHdr := s'.mem.bankHdr.put [] b hdr } }.setBlob
          Oid.FW_VERSION ver).setN Oid.FW_STATE 3)

/-- The check of the other target ends, where that of the one shown does not run (R634). -/
def State.verifyOther (s : State) : State :=
  if s.mem.verifyAt.isSome then s.fwVerified else ((s.forTarget (!s.mem.forTwin)).fwVerified).forTarget s.mem.forTwin

/-- FW_VERIFY_END (R634). -/
def execFwVerifyEnd (s : State) : Answer :=
  let s := s.start
  .next (if s.booted then s.verifyOther else s)

/-- FW_SWITCH is accepted (R634, R635). -/
def State.fwSwitchCheck (s : State) : Option Refuse :=
  firstOf [s.fwTargetCheck, need (s.nat Oid.FW_STATE == 3) .busy, need (s.mode != .active || s.healthyStandby) .busy]

/-- The boot bank pointer is written; BANK_SWITCH follows (R114, R635). -/
def State.fwSwitch (s : State) : State :=
  ({ s with mem := { s.mem with bootBank := s.otherBank } }.setN Oid.FW_STATE 5).assertSource 13

/-- A write of FW_LOAD, FW_VERIFY or FW_SWITCH takes effect on the target that FW_TARGET names; what is for the twin goes to it in the
mirror batches (R634). -/
def State.fwWrite (s : State) (oid : Nat) (v : List Byte) : State :=
  let s := s.forTarget (s.nat Oid.FW_TARGET == 1)
  if s.nat Oid.FW_TARGET = 1 then
    let s := s.mirror (.firmware oid v)
    if oid = 0x801 then s.fwLoad true v else if oid = 0x802 then s.fwVerify true else s.setN Oid.FW_STATE 5
  else if oid = 0x801 then s.fwLoad false v
  else if oid = 0x802 then s.fwVerify false
  else s.fwSwitch

/-- The twin's firmware request takes effect on this module (R634). (DESIGN CHOICE, log entry 18.) -/
def State.fwFromTwin (s : State) (oid : Nat) (v : List Byte) : State :=
  let shown := s.mem.forTwin
  let s := s.forTarget false
  let s := if oid = 0x801 then s.fwLoad false v
    else if oid = 0x802 then s.fwVerify false
    else if s.nat Oid.FW_STATE = 3 then s.fwSwitch
    else s
  s.forTarget shown

/-- START_COMPLETE of a bank raises FW_MIN_SVN to its SVN, and revokes the keys it names but its own (R636). -/
def State.fwStarted (s : State) : State :=
  let h := Tbl.get [] s.mem.bankHdr (s.nat Oid.FW_BANK)
  if h = [] then s
  else
    let v := leNat h
    let keep := BitVec.twoPow 4 (field v 343 336)
    ({ s with mem := { s.mem with revoked := s.mem.revoked ||| (BitVec.ofNat 4 (field v 347 344) &&& ~~~ keep) } }.setN Oid.FW_MIN_SVN
      (max (s.nat Oid.FW_MIN_SVN) (field v 367 352)))

/-! ### Configuration sets (R543, R637, R638) -/

/-- CFG_LOAD is accepted (R637, R639). -/
def cfgLoadCheck (v : List Byte) : Option Refuse := need (decide (loadOff v + (v.length - 4) ≤ 67108864)) .range

/-- CFG_LOAD writes into the slot that is not active (R637). -/
def State.cfgLoad (s : State) (v : List Byte) : State :=
  let off := loadOff v
  let n := v.length - 4
  { s with mem := { s.mem with
      slot := writeAt s.mem.slot off (v.drop 4), slotBad := s.mem.slotBad.filter (fun a => !decide (off ≤ a ∧ a < off + n)) } }.setN
    Oid.CFG_STATE 1

/-- The signature of a set: 64 bytes for a P-256 key, 96 for a P-384 key (R637, R639). -/
def State.setSig (s : State) (b : Tbl Byte) : List Byte :=
  let key := s.blob (Oid.CFG_SIGNER_KEY (hdrField b 343 336))
  if key.length = 65 then bytesAt b 160 64 else bytesAt b 160 96

/-- The first check that a set fails: 0 header, 1 key, 2 signature, 3 digest, 4 format (R637, R638, R640). (DEDUCED, log entry 12.) -/
def State.setFault (s : State) (b : Tbl Byte) : Option Nat :=
  let key := fun k => if 4 ≤ k then [] else s.blob (Oid.CFG_SIGNER_KEY k)
  if hdrField b 383 344 != 0 then some 0
  else
    match imageFault b 0x46435850 67108608 key (s.setSig b) with
    | some c => some c
    | none => if (Config.decodeSet (bytesAt b 256 (hdrField b 447 416))).isNone then some 4 else none

/-- The first check that the inactive slot fails; an uncorrectable word fails its digest (R619, R638). (DEDUCED, log entry 12.) -/
def State.cfgFault (s : State) : Option Nat :=
  match s.setFault s.mem.slot with
  | some c => some c
  | none => if s.mem.slotBad = [] then none else some 3

/-- CFG_VERIFY checks the slot that is not active (R638). -/
def State.cfgVerify (s : State) : State :=
  match s.cfgFault with
  | some c => (s.setN Oid.CFG_STATE 4).event 0x100A c
  | none => s.setN Oid.CFG_STATE 3

/-- The bytes of a set: header and body. -/
def setBytesOf (b : Tbl Byte) : List Byte := bytesAt b 0 (256 + hdrField b 447 416)

/-- The values that a set carries. (DESIGN CHOICE, log entry 11.) -/
def setEntries (b : Tbl Byte) : List (Nat × List Byte) := (Config.decodeSet (bytesAt b 256 (hdrField b 447 416))).getD []

/-- An object that a set holds: a configuration object or a safety parameter (R177, R178). -/
def inSet (oid : Nat) : Bool := match lookup oid with
  | some (r, _) => r.kept == .config || r.kept == .safety
  | none => false

/-- The registers hold a set's values, and the defaults where it names none (R177, R178, R543). -/
def State.applySet (s : State) (b : Tbl Byte) : State :=
  let s := { s with objs := s.objs.filter (fun e => !inSet e.1), blobs := s.blobs.filter (fun e => !inSet e.1) }
  (setEntries b).foldl (fun s e => if inSet e.1 then s.loadBytes e.1 e.2 else s) s

/-- CFG_ACTIVATE is accepted (R543, R638). -/
def State.cfgActivateCheck (s : State) : Option Refuse :=
  firstOf [need s.commitReady .busy, need (s.nat Oid.CFG_STATE == 3) .integrity]

/-- The set's safety parameters make no block that the SLA accepts (R542, R543). (DESIGN CHOICE, log entry 11.) -/
def State.cfgActivateFails (s : State) : Bool := (blockFault ((s.applySet s.mem.slot).makeBlock (s.saf.gen + 1))).isSome

/-- CFG_ACTIVATE: the set of the inactive slot becomes the active one; its items are admitted afterwards (R543). -/
def State.cfgActivate (s : State) (ses : Nat) : State :=
  let gen := s.saf.gen + 1
  let hash := sha256 (setBytesOf s.mem.slot)
  let s := s.applySet s.mem.slot
  let s := { s with
    mem := { s.mem with slot := s.mem.active, active := s.mem.slot, slotBad := [], activeBad := false, journalBad := none }
    acc := { s.acc with journal := [] }
    saf := { s.saf with pend := [], cars := s.saf.cars.map (fun (c : Nat × CarSafe) => (c.1, { c.2 with lSw := 0 })) }
    cfgValid := true }
  let s := (((s.setN Oid.CFG_ACTIVE_SLOT (1 - s.nat Oid.CFG_ACTIVE_SLOT)).setN Oid.CFG_STATE 0).setBlob Oid.CFG_HASH (hash.take 16)).setN
    Oid.SAFETY_PENDING 0
  let s := s.loadBlock (s.makeBlock gen)
  (s.logAdd 2 ses Oid.CFG_ACTIVATE.oid [] (hash.take 16)).event 0x0511 gen (leNat (hash.take 4))

/-- The members of a broadcast OID; none where the form is not supported (R183, R184, R615). -/
def State.broadcast (s : State) (oid : Nat) : Option (List Nat) :=
  let g := oid / 256 % 256
  let sub := oid % 256
  if oid / 16777216 ≠ 0xF0 then none
  else if oid / 65536 % 256 = 0x60 then
    if !(decide (g < 8) || g == 0xFF) || !(sub == 1 || sub == 4) then none
    else
      let l := if g = 0xFF then List.range 64 else (List.range 8).map (8 * g + ·)
      some ((l.filter (fun x => sub == 4 || (s.fioMode x == 3 && s.fioOwner x == 0))).map (fun x => 0x60000000 + x * 256 + sub))
  else if oid / 65536 % 256 = 0x80 then
    if (lookup (0x80000000 + sub)).isNone then none
    else some ((u32s (s.blob (Oid.PGRP_MEMBERS g))).map (fun p => 0x80000000 + p * 256 + sub))
  else none
where
  /-- The U32 values of a byte string (R184). -/
  u32s (b : List Byte) : List Nat := (List.range (b.length / 4)).map (fun i => leNat ((b.drop (4 * i)).take 4))

/-- One journal entry is replayed; a broadcast over the members that its group then has (R178). (DEDUCED, log entry 43.) -/
def State.replay (s : State) (e : WEntry) : State :=
  match s.broadcast e.oid with
  | some l => l.foldl (fun s o => s.setBytes o e.data) s
  | none => s.setBytes e.oid e.data

/-- At start-up a set that fails its check again counts as no valid set, and the journal applies up to an entry that is lost
(R619, R638). (DEDUCED, log entry 43.) -/
def State.configAtStart (s : State) : State :=
  let s := if s.cfgValid && (s.mem.activeBad || (s.setFault s.mem.active).isSome) then { s with cfgValid := false } else s
  match s.mem.journalBad with
  | none => s
  | some n =>
    let j := s.acc.journal.take n
    let s := s.applySet s.mem.active
    let s := j.foldl State.replay s
    { s with acc := { s.acc with journal := j }, cfgValid := false, mem := { s.mem with journalBad := none } }

/-! ### Operational certificates (R631, R632) -/

/-- The position of this module: bit 0 of the strap's band (R131). -/
def State.position (s : State) : Nat := s.nat Oid.STRAP_VALUE % 2

/-- OPC_CERT is refused on the writing module where a certificate of its own position fails (R631). -/
def State.opcCertCheck (s : State) (q : Nat) (b : List Byte) : Option Refuse :=
  need (q != s.position || b == [] || Config.verifyCert b Config.pubKey) .range

/-- OPC_CERT takes effect: checked on the module of its position (R631). -/
def State.opcCert (s : State) (k q : Nat) (b : List Byte) : State :=
  let s := s.setBlob (Oid.OPC_CERT k q) b
  if b = [] then s.setN (Oid.OPC_STATE k q) 0
  else if q ≠ s.position then s.setN (Oid.OPC_STATE k q) 1
  else if Config.verifyCert b Config.pubKey then s.setN (Oid.OPC_STATE k q) 2
  else (s.setN (Oid.OPC_STATE k q) 3).event 0x1008 k q

/-- OPC_USE is refused where another certificate of the position holds the use (R632). -/
def State.opcUseCheck (s : State) (k q v : Nat) : Option Refuse :=
  need ((List.range 8).all (fun j => j == k || (s.nat (Oid.OPC_USE j q)) &&& v == 0)) .busy

end Sys2Proof.Machine
end

