-- ==== Sys2Proof/Machine/Points.lean ====
section
/-! DEFINITION. Point configuration: permitted bindings and classes, what a point charges to the ledger, the checks of a write to a
point's objects, and the rebuild of the ledger (R212 to R237, R136, R676). -/

namespace Sys2Proof.Machine

/-! ### Bindings and classes (R221, R222, R227) -/

/-- NET0 to NET3, T1L0 to T1L3, and RS485_0 to RS485_7 in the coding of PORT (R221). -/
def isNet (port : Nat) : Bool := decide (port ≤ 0x03)
def isT1l (port : Nat) : Bool := decide (0x10 ≤ port ∧ port ≤ 0x13)
def isRs (port : Nat) : Bool := decide (0x20 ≤ port ∧ port ≤ 0x27)

/-- A kind permits a PORT (R222). -/
def State.kindPort (s : State) (kind port : Nat) : Bool :=
  if kind = 0 ∨ kind = 1 ∨ kind = 6 then port == 0xFF
  else if kind = 2 then decide (0x30 ≤ port ∧ port ≤ 0x37)
  else if kind = 3 then isNet port || isT1l port || (isRs port && s.rsMstp (port - 0x20)) || port == 0xFE
  else if kind = 4 then isNet port || isT1l port
  else if kind = 5 then isRs port && !s.rsMstp (port - 0x20)
  else false

/-- The earliest class that a path permits (R227). -/
def firstClass (kind port : Nat) : Nat :=
  if kind = 1 then 1
  else if kind = 3 ∨ kind = 4 then (if isT1l port then 1 else if isRs port then 3 else 2)
  else if kind = 5 then 3
  else 0

/-- The ADDR fields and PERIOD that the table Binding kinds lists for a kind (R222, R252, R281). -/
def addrOk (b : Binding) : Bool :=
  if b.kind = 0 then b.addr1 == 0 && b.addr2 == 0 && b.addr3 == 0
  else if b.kind = 1 then decide (b.addr1 < 64) && b.addr2 == 0 && b.addr3 == 0
  else if b.kind = 2 then decide (b.addr1 < 16384) && b.addr2 == 0 && b.addr3 == 0 && b.period == 0
  else if b.kind = 3 then decide (b.addr1 ≤ 4194302)
  else if b.kind = 4 then modbusOk b.addr3 && decide (b.addr2 < 16777216)
  else if b.kind = 5 then modbusOk b.addr3 && decide (1 ≤ b.addr1 ∧ b.addr1 ≤ 247) && decide (b.addr2 < 65536)
  else b.addr2 == 0 && b.addr3 == 0
where
  /-- Function code and format of a Modbus binding (R252). -/
  modbusOk (a3 : Nat) : Bool := [0x01, 0x02, 0x03, 0x04, 0x05, 0x06, 0x0F, 0x10].contains (a3 / 256) && decide (a3 % 256 ≤ 8)

/-- A binding in the ranges of its kind; the 16 bytes of 0 of the object's default are the empty binding (R222). -/
def State.bindingOk (s : State) (b : Binding) : Bool :=
  b == ⟨0, 0, 0, 0, 0, 0, 0⟩ ||
    (s.kindPort b.kind b.port && addrOk b && (b.alt == 0xFF || (b.alt != b.port && b.alt != 0xFF && s.kindPort b.kind b.alt)))

/-- A source on an output point and a sink on an input point are not allowed, and carry nothing (R222). -/
def bindingUsed (t : Nat) (sink : Bool) (b : Binding) : Bool := b.kind != 0 && (if sink then !isInput t else !isOutput t)

/-- The entry that a CAN binding's mapping names. -/
def State.bindingEntry (s : State) (b : Binding) : Entry := let m := s.mapping b.addr1; s.entWritten m.chan m.entry

/-- The mapping of a CAN binding: on the channel of its PORT, a receive entry for a SOURCE and a transmit entry for a SINK (R281). -/
def State.mappingFits (s : State) (sink : Bool) (b : Binding) : Bool :=
  b.kind != 2 || (s.mapping b.addr1).width == 0 ||
    ((s.mapping b.addr1).chan == b.port - 0x30
      && ((s.bindingEntry b).type == 0 || (s.bindingEntry b).type == (if sink then 1 else 2)))

/-- The format of a CAN binding's mapping suits the point's type (R282), and Modbus format 8 is for binary points (R252).
(DESIGN CHOICE, log entry 60.) -/
def State.formatFits (s : State) (t : Nat) (b : Binding) : Bool :=
  t == 0 || (
    if b.kind = 2 then (s.mapping b.addr1).width == 0 || formatSuits (s.mapping b.addr1) t
    else if b.kind = 4 ∨ b.kind = 5 then b.addr3 % 256 != 8 || (decide (4 ≤ t ∧ t ≤ 6))
    else true)

/-- A class is one that a binding's paths permit; on CAN the entry's class or a later one (R227, R281). -/
def State.classOk (s : State) (cls : Nat) (b : Binding) : Bool :=
  decide (firstClass b.kind b.port ≤ cls) && (b.alt == 0xFF || decide (firstClass b.kind b.alt ≤ cls))
    && (b.kind != 2 || (s.mapping b.addr1).width == 0 || (s.bindingEntry b).type == 0 || decide ((s.bindingEntry b).cls ≤ cls))

/-! ### What a point charges (R228, R231, R281) -/

/-- `x` per delivery at the rate of a PERIOD, per second, rounded up (R228). -/
def rateLoad (x period : Nat) : Nat := if period = 0 then 10 * x else (100 * x + period - 1) / period

/-- Request and response octets of a Modbus RTU poll or write with its address, function code, data and CRC (R228, R252).
(PRESUMED, log entry 62.) -/
def modbusOctets (addr3 : Nat) : Nat :=
  let f := addr3 / 256
  let data := if addr3 % 256 ≤ 1 then 2 else 4
  if f = 0x01 ∨ f = 0x02 then 8 + 6
  else if f = 0x03 ∨ f = 0x04 then 8 + 5 + data
  else if f = 0x05 ∨ f = 0x06 then 16
  else if f = 0x0F then 10 + 8
  else 9 + data + 8

/-- The MS/TP token rotation of R247, µs. (PRESUMED, log entry 62.) -/
def State.tokenUs (s : State) (m : Nat) : Nat :=
  let baud := s.rsBaud m
  if baud = 0 then 0 else (Config.mstpMasters m * (Config.mstpFrames m * 512 * 11 + 128) * 1000000 + baud - 1) / baud

/-- The bits of one item of a kind 0x0006 Port value in a mirror batch: head and 12 bytes of point and value (R244, R577, R581).
(DEDUCED, log entry 61.) -/
def mirrorBits : Nat := 128

/-- The charges of one binding: account and load (R228, R577). A poll and a confirmed request count as two deliveries. -/
def State.bindingCharges (s : State) (sink : Bool) (b : Binding) : List (Nat × Nat) :=
  let poll := !sink && b.period != 0
  let port := match portAcct b.port with
    | some a => a
    | none => 0
  let lanes := if sink || !s.pd .twin then [] else [(0x08, rateLoad mirrorBits b.period), (0x09, rateLoad mirrorBits b.period)]
  if b.kind = 1 ∨ b.kind = 6 then [(0x20, rateLoad 1 b.period)]
  else if b.kind = 2 then
    let d := s.bindingEntry b
    let t := s.nat (Oid.CAN_T_CYCLE (b.port - 0x30)) * max d.every 1
    [(port, 0), (0x20, (1000000 + t - 1) / max t 1)]
  else if b.kind = 3 ∧ isRs b.port then
    [(port, rateLoad (if poll || sink then 2200 else 1100) b.period), (0x20, rateLoad 2 b.period)]
  else if b.kind = 5 then [(port, rateLoad (modbusOctets b.addr3 * 11) b.period), (0x20, rateLoad 2 b.period)]
  else [(port, rateLoad (if poll then 2048 else 1024) b.period), (0x20, rateLoad (if poll then 2 else 1) b.period)] ++ lanes

/-- Emission wait and frame time of a binding, µs (R231, R247, R254, R281). -/
def State.bindingWait (s : State) (sink : Bool) (b : Binding) : Nat :=
  if b.kind = 2 then
    let m := s.mapping b.addr1
    let d := s.bindingEntry b
    s.nat (Oid.CAN_T_CYCLE m.chan) * d.every
      + (if sink then frameUs d.ide d.fdf d.brs d.len (s.nat (Oid.CAN_NBR m.chan)) (s.nat (Oid.CAN_DBR m.chan)) else 0)
  else if b.kind = 3 ∧ isRs b.port then s.tokenUs (b.port - 0x20)
  else if sink ∧ isT1l b.port then 103
  else 0

/-- The ledger items of a point with a type, class and bindings, while it is enabled (R213, R228); what each charges on ALT_PORT goes with
it (R234). -/
def State.pointItems (s : State) (p t cls : Nat) (src sink : Binding) : List Item :=
  let mk := fun (isSink : Bool) (b : Binding) =>
    let alt := { b with port := b.alt, alt := b.port }
    ({ id := 0, kind := if isSink then .pointSink p else .pointSource p, cls := cls, charges := s.bindingCharges isSink b
       waitUs := s.bindingWait isSink b, altCharges := if b.alt = 0xFF then [] else s.bindingCharges isSink alt
       altWaitUs := if b.alt = 0xFF then 0 else s.bindingWait isSink alt, port := b.port, alt := b.alt } : Item)
  (if bindingUsed t false src then [mk false src] else []) ++ (if bindingUsed t true sink then [mk true sink] else [])

/-- The items of a point as its objects stand. -/
def State.itemsOf (s : State) (p : Nat) : List Item :=
  s.pointItems p (s.ptType p) (s.nat (Oid.PT_CLASS p)) (s.srcOf p) (s.sinkOf p)

/-- An item of a point. -/
def isPointItem (p : Nat) (i : Item) : Bool := i.kind == .pointSource p || i.kind == .pointSink p

/-- A point's charges follow its objects (R213, R228). -/
def State.rechargePoint (s : State) (p : Nat) : State :=
  let s := s.dropItems (isPointItem p)
  let s := s.ptStatusBit p 4 false
  if s.enabledPt p then (s.itemsOf p).foldl State.addItem s else s

/-! ### Writes to a point's objects -/

/-- Points of a partition with a TYPE, but for `p`, that have an instance number (R215). (DEDUCED, log entry 59.) -/
def State.instanceTaken (s : State) (p q v : Nat) : Bool :=
  s.objs.any (fun e =>
    decide (0x80000000 ≤ e.1 ∧ e.1 < 0x84000000) && e.1 % 256 == 1 && e.2 != 0 && (
      let x := (e.1 - 0x80000000) / 256
      x != p && s.nat (Oid.PT_PARTITION x) == q && s.nat (Oid.PT_BACNET_INSTANCE x) == v))

/-- ENABLE: TYPE 0, the 250,001st point, and admission (R212, R228, R676). -/
def State.ptEnableCheck (s : State) (p : Nat) (v : Int) : Option Refuse :=
  if v = 0 ∨ s.enabledPt p then none
  else firstOf [need (s.ptType p != 0) .type, need (decide (s.pts.enabled < 250000)) .busy,
    s.admits (fun _ => false) (s.itemsOf p)]

/-- ENABLE is written (R212, R213): an enabled point starts its source afresh, a disabled one holds no budget. -/
def State.ptEnableApply (s : State) (p : Nat) (v : Int) : State :=
  if s.enabledPt p = (v != 0) then s
  else
    let n := if v != 0 then s.pts.enabled + 1 else s.pts.enabled - 1
    let s := (s.setFlag (Oid.PT_ENABLE p) (v != 0)).rechargePoint p
    { s with pts := { s.pts with enabled := n } }.setPtAux p
      { s.ptAux p with srcAt := s.clk, polling := false, sinkWait := none, sinkDue := v != 0 }

/-- CLASS: permitted by both bindings, and admitted (R227, R228). -/
def State.ptClassCheck (s : State) (p : Nat) (v : Int) : Option Refuse :=
  firstOf [need (decide (0 ≤ v ∧ v ≤ 3) && s.classOk v.toNat (s.srcOf p) && s.classOk v.toNat (s.sinkOf p)) .range,
    if s.enabledPt p then s.admits (isPointItem p) (s.pointItems p (s.ptType p) v.toNat (s.srcOf p) (s.sinkOf p)) else none]

/-- SOURCE or SINK: kind, port and class, mapping format, and admission (R222, R227, R228, R281, R282). -/
def State.ptBindCheck (s : State) (p : Nat) (sink : Bool) (d : List Byte) : Option Refuse :=
  let b := bindingOf d
  let t := s.ptType p
  let cls := s.nat (Oid.PT_CLASS p)
  firstOf [need (d.length == 16) .type,
    need (s.bindingOk b && (b.kind == 0 || t == 0 || bindingUsed t sink b) && s.mappingFits sink b && s.classOk cls b) .range,
    need (s.formatFits t b) .type,
    if s.enabledPt p then
      s.admits (isPointItem p) (s.pointItems p t cls (if sink then s.srcOf p else b) (if sink then b else s.sinkOf p))
    else none]

/-- SOURCE or SINK is written; reserved bits read 0 (R11, R221). -/
def State.ptBindApply (s : State) (p : Nat) (sink : Bool) (d : List Byte) : State :=
  let d := d.set 12 0
  let s := (if sink then s.setBlob (Oid.PT_SINK p) d else s.setBlob (Oid.PT_SOURCE p) d).rechargePoint p
  let a := s.ptAux p
  let s := if sink then (s.setPtAux p { a with sinkDue := true, sinkWait := none }).setPtFault p true false
    else (s.setPtAux p { a with srcAt := s.clk, polling := false }).setPtFault p false false
  s

/-- TYPE and PARTITION: only while ENABLE is false; a mapped format must suit the type (R215, R282). -/
def State.ptTypeCheck (s : State) (p : Nat) (v : Int) : Option Refuse :=
  let t := v.toNat
  firstOf [need (decide (0 ≤ v ∧ v ≤ 11)) .range, need (!s.enabledPt p) .busy,
    need (s.formatFits t (s.srcOf p) && s.formatFits t (s.sinkOf p)) .type,
    need (t == 0 || !s.instanceTaken p (s.nat (Oid.PT_PARTITION p)) (s.nat (Oid.PT_BACNET_INSTANCE p))) .range]

/-- PARTITION. (DEDUCED, log entry 58.) -/
def State.ptPartitionCheck (s : State) (p : Nat) (v : Int) : Option Refuse :=
  firstOf [need (decide (0 ≤ v ∧ v < 1024)) .range, need (!s.enabledPt p) .busy,
    need (s.ptType p == 0 || !s.instanceTaken p v.toNat (s.nat (Oid.PT_BACNET_INSTANCE p))) .range]

/-- BACNET_INSTANCE: unique within the partition (R215). (DEDUCED, log entry 59.) -/
def State.ptInstanceCheck (s : State) (p : Nat) (v : Int) : Option Refuse :=
  need (decide (0 ≤ v ∧ v ≤ 4194302) && (s.ptType p == 0 || !s.instanceTaken p (s.nat (Oid.PT_PARTITION p)) v.toNat)) .range

/-- PV: disabled, an input without OUT_OF_SERVICE, the priority and RELINQUISH of a point without an array, and the value (R213,
R217, R219, R224). (DEDUCED, log entry 57.) -/
def State.ptPvCheck (s : State) (p prio : Nat) (relinq : Bool) (v : Int) : Option Refuse :=
  let t := s.ptType p
  firstOf [need (decide (1 ≤ prio ∧ prio ≤ 16)) .type, need (t != 11 || prio == 16) .type, need (!relinq || hasArray t) .type,
    need (!isInput t || s.flag (Oid.PT_OUT_OF_SERVICE p)) .access, need (s.enabledPt p) .busy,
    need (relinq || s.ptValid p v) .range]

/-- PV is written or relinquished (R217, R219). -/
def State.ptPvApply (s : State) (p prio : Nat) (relinq : Bool) (v : Int) : State :=
  if relinq then s.clearSlot p prio else s.writePv p prio v

/-- RELINQUISH_DEFAULT: a value of the point's type (R215, R224). -/
def State.ptDefaultApply (s : State) (p : Nat) (v : Int) : State :=
  let s := (s.set (Oid.PT_RELINQUISH_DEFAULT p) v).markDirty p 17
  if hasArray (s.ptType p) then s.refreshPv p else s

/-- OUT_OF_SERVICE: copied to STATUS; an input point takes its source's last value again when it returns (R216, R219). -/
def State.ptServiceApply (s : State) (p : Nat) (v : Int) : State :=
  let s := (s.set (Oid.PT_OUT_OF_SERVICE p) v).ptStatusBit p 2 (v != 0)
  let a := s.ptAux p
  if v = 0 ∧ isInput (s.ptType p) ∧ s.enabledPt p ∧ 0 < a.srcAt ∧ s.ptValid p a.srcLast then s.changePv p a.srcLast else s

/-! ### Subscriptions and the rebuild of the ledger -/

/-- The charge of a subscription on the port of its session or link (R228): one notification per MIN_INTERVAL, on MS/TP 1,100 bit-times and 2
operations each, with the token rotation to wait for (R231, R247). -/
def State.subItem (s : State) (h cls minInt port : Nat) : Item :=
  let load := fun x => (1000 * x + minInt - 1) / minInt
  { id := 0, kind := .subscription h, cls := cls
    charges := [((portAcct port).getD 0, load (if isRs port then 1100 else 1024)), (0x20, load (if isRs port then 2 else 1))]
    waitUs := if isRs port then s.tokenUs (port - 0x20) else 0, port := port }

/-- The fixed part of the mirror batches, on both lanes while the module has a twin link (R577). (DEDUCED, log entry 61.) -/
def State.batchItems (s : State) : List Item :=
  if s.pd .twin then [{ id := 0, kind := .batches, cls := 0, charges := [(0x08, 40960000), (0x09, 40960000)] }] else []

/-- The points that are in service, from the registers. -/
def State.enabledPoints (s : State) : List Nat :=
  (s.objs.filter (fun e => decide (0x80000000 ≤ e.1 ∧ e.1 < 0x84000000) && e.1 % 256 == 3 && e.2 != 0)).map
    (fun e => (e.1 - 0x80000000) / 256)

/-- The items of the CAN channels (R280). -/
def State.canItems (s : State) : List Item :=
  (List.range 8).flatMap (fun c =>
    (if (s.canCh c).mode = 4 then s.columnItems c else [])
      ++ (s.canCh c).desc.filterMap (fun e => if (entryOf e.2).type = 0 then none else some (s.entryItem c e.1 (entryOf e.2))))

/-- The items of the enabled loops (R379). -/
def State.loopItems (s : State) : List Item := s.loops.map (fun l => loopItem (l.1 % 4) (l.1 / 4))

/-- Every configured item (R134 step 9). -/
def State.configuredItems (s : State) : List Item :=
  s.batchItems ++ (List.range 64).filterMap s.telegramItem ++ s.canItems ++ s.loopItems ++ s.enabledPoints.flatMap s.itemsOf
    ++ s.pts.subs.map (fun x => s.subItem x.handle x.cls x.minInt x.port)

/-- The ledger is rebuilt by re-admitting every configured item in class order (R134 step 9, R136); items that are not configured, such
as sessions, launches and tests, stay as they are. -/
def State.readmitAll (s : State) : State :=
  let keep := fun (i : Item) => match i.kind with
    | .session _ | .launch _ _ | .test _ => true
    | _ => false
  let all := s.configuredItems
  let s := { s with pts := { s.pts with items := s.pts.items.filter keep, enabled := s.enabledPoints.length } }
  ([0, 1, 2, 3].flatMap (fun c => all.filter (·.cls == c))).foldl State.readmit s

end Sys2Proof.Machine
end

