-- ==== Sys2Proof/Machine/Sessions.lean ====
section
/-! DEFINITION. Host sessions: map entries, what a session may do, and its end (R188 to R193). -/

namespace Sys2Proof.Machine

/-- The state with one session changed. -/
def State.setSes (s : State) (n : Nat) (x : Session) : State :=
  { s with acc := { s.acc with sessions := s.acc.sessions.put {} n x } }

/-- A map entry matches a certificate: its fingerprint, or its trust anchor and common name (R189). -/
def State.entryMatches (s : State) (e : Nat) (fpr : BitVec 256) (anchor : Option Nat) (cn : List Byte) : Bool :=
  let t := s.nat (Oid.MAP_TYPE e)
  (t == 1 && leNat (s.blob (Oid.MAP_FPR e)) == fpr.toNat)
    || (t == 2 && anchor == some (s.nat (Oid.MAP_CA e)) && s.blob (Oid.MAP_CN e) == cn)

/-- The first map entry that matches a certificate (R189). -/
def State.mapEntry (s : State) (fpr : BitVec 256) (anchor : Option Nat) (cn : List Byte) : Option Nat :=
  (List.range 256).find? (fun e => s.entryMatches e fpr anchor cn)

/-- The host map holds no entry of type 1 or 2 (R190). -/
def State.mapEmpty (s : State) : Bool := (List.range 256).all (fun e => s.nat (Oid.MAP_TYPE e) == 0)

/-- A partition is enabled; partition 0 always is (R176). -/
def State.partOn (s : State) (p : Nat) : Bool := p == 0 || s.flag (Oid.PART_ENABLE p)

/-- A map entry grants a partition (R210). -/
def State.entryGrants (s : State) (e p : Nat) : Bool := ((s.blob (Oid.MAP_PARTS e)).getD (p / 8) 0).getLsbD (p % 8)

/-- An open session may go on: its partition is enabled and its map entry, still that of its host, grants it; a claim session has no
entry (R190, R193). -/
def State.sesGranted (s : State) (x : Session) : Bool :=
  decide (x.state < 2) || x.claim ||
    (s.partOn x.part && (match x.entry with
      | some e => s.entryMatches e x.fpr x.anchor x.cn && s.entryGrants e x.part
      | none => false))

/-- The items of a session in the ledger. -/
def isSesItem (n : Nat) (i : Item) : Bool := i.kind == .session n

/-- A session's connection is closed and its slot free: its safety session ends, its charge is free, its subscriptions wait, and what it
asked behind an earlier write is gone (R192 to R194, R243). -/
def State.dropSes (s : State) (n : Nat) : State :=
  let s := (s.safetyEnd n).dropItems (isSesItem n)
  let s := { s with
    acc := { s.acc with sessions := s.acc.sessions.put {} n {}, later := s.acc.later.filter (fun (l : LaterReq) => l.ses != n) }
    pts := { s.pts with subs := s.pts.subs.map (fun (x : Sub) => if x.ses = some n then { x with ses := none, closedAt := s.clk } else x) } }
  let s := if n < 64 then s.setN (Oid.SESS_STATE n) 0 else s
  s.emit (.close n)

/-- The module closes a session with its cause, or a connection whose OPEN has not succeeded (R193, R211). -/
def State.closeSes (s : State) (n cause : Nat) : State :=
  let x := s.ses n
  if x.state = 0 then s
  else if x.state = 1 then s.dropSes n
  else (s.dropSes n).event 0x1002 n cause

/-- Sessions whose map entry or partition no longer grants them are closed (R176, R193). -/
def State.recheckSessions (s : State) : State :=
  s.openSessions.foldl (fun s e => if s.sesGranted (s.ses e.1) then s else s.closeSes e.1 3) s

/-- Every session on a pair address closes at a handover (R204, R573). -/
def State.closeAll (s : State) (cause : Nat) : State :=
  s.acc.sessions.foldl (fun s (e : Nat × Session) => if e.2.pairAddr then s.closeSes e.1 cause else s) s

end Sys2Proof.Machine
end

