-- ==== Sys2Proof/Machine/Access.lean ====
section
/-! DEFINITION. The checks of a write to one object, by every route: rights, existence, access code, priority, type, range, and what
the owning chapter asks (R9, R12, R171 to R180, R201, R218, R219). -/

namespace Sys2Proof.Machine

/-- Who writes or reads: the partition it acts for, its session slot, and whether it is a compare or another internal producer. -/
structure Rights where
  part : Nat := 0
  /-- Session slot; 0xFF where it comes by no session. -/
  ses : Nat := 0xFF
  /-- An internal producer: a compare, a loop, a launch at its time, a point's sink. -/
  internal : Bool := false
  /-- A compare, which may drive a channel that a point owns (R605). -/
  compare : Bool := false
deriving DecidableEq, Repr

/-! ### Rights and existence (R171, R174, R175, R676) -/

/-- The point group of an OID (R210). -/
def groupOf (oid : Nat) : Option Nat := if 0x01500000 ≤ oid ∧ oid < 0x01510000 then some ((oid - 0x01500000) / 256) else none

/-- An object belongs to a tenant's own points or point groups (R174). -/
def State.ownObject (s : State) (part oid : Nat) : Bool :=
  match pointOf oid with
  | some (p, _) => s.nat (Oid.PT_PARTITION p) == part
  | none =>
    match groupOf oid with
    | some g => s.nat (Oid.PGRP_PARTITION g) == part
    | none =>
      decide (oid / 65536 = 0xF080) && s.nat (Oid.PGRP_PARTITION (oid / 256 % 256)) == part

/-- The accounts of the table Account capacities (R229). -/
def isAccount (a : Nat) : Bool :=
  decide (a < 0x0A) || decide (0x10 ≤ a ∧ a ≤ 0x21) || decide (0x30 ≤ a ∧ a ≤ 0x32) || a == 0x38 || a == 0x40 || a == 0x41 || a == 0x48

/-- An object exists only for some of the indices of its row: the loops of a class, the slow loops' phase, competition groups from 1,
accounts, and the parts of pulse outputs and Rogowski channels (R171, R233, R376, R380, R409, R458, R512). -/
def objectExists (base : Nat) (ix : List Nat) : Bool :=
  let i := ix.headD 0
  let c := ix.getD 1 0
  if 0x40000000 ≤ base ∧ base < 0x40000040 then
    (if c = 0 then decide (i < 96) else if c = 1 then decide (i < 1024) else true)
      && (!(base == 0x40000029 || base == 0x4000002A) || c == 2)
  else if 0x400000C0 ≤ base ∧ base ≤ 0x400000C6 then ix.isEmpty || decide (1 ≤ i)
  else if 0x7E000000 ≤ base ∧ base < 0x7F000000 then isAccount i
  else if base = 0x50050003 then decide (i < 16)
  else if base = 0x50020007 then decide (48 ≤ i)
  else true

/-- The row and the indices of an object that exists. -/
def findObject (oid : Nat) : Option (ObjRow × List Nat) :=
  match lookup oid with
  | none => none
  | some (r, ix) => if objectExists r.base ix then some (r, ix) else none

/-- The value type of an object; none for a value of a point whose slot is unused (R215, R676). -/
def State.tyOf (s : State) (r : ObjRow) (ix : List Nat) : Option Ty :=
  if r.ty = .point then pointTy (s.ptType (ix.headD 0)) else some r.ty

/-! ### Values -/

/-- The bytes that a write gives its object: the value it carries without reserved fields (R11), or with the DEFAULT flag the default of the table (R180). -/
def writeBytes (r : ObjRow) (oid : Nat) (t : Ty) (dflt : Bool) (data : List Byte) : List Byte :=
  if !dflt then (if t.isBytes then maskOct r.base data else data)
  else if r.ty.isBytes then r.octAt oid
  else t.enc (r.numAt oid)

/-- A write with the DEFAULT flag of an object whose default is no constant of the table, or that takes it another way: a point's PV takes its
relinquish default at the priority named, and LOOP_FLAGS, whose bits are cleared by writing 1, becomes 0 (R180, R215, R399). -/
def State.withDefault (s : State) (e : WEntry) : WEntry :=
  match lookup e.oid with
  | none => e
  | some (r, ix) =>
    if !e.dflt || e.relinq then e
    else if r.base = 0x80000000 then
      (match pointTy (s.ptType (ix.headD 0)) with
        | some t => { e with dflt := false, data := t.enc (s.get (Oid.PT_RELINQUISH_DEFAULT (ix.headD 0))) }
        | none => e)
    else if r.base = 0x40000005 then { e with dflt := false, data := r.ty.enc 15 }
    else e

/-- Length and range of a value: TYPE, then RANGE (R9, R201). (DEDUCED, log entry 57.) -/
def valueCheck (r : ObjRow) (t : Ty) (d : List Byte) : Option Refuse :=
  if t.isBytes then
    andThen (need (decide (d.length ≤ 65535)) .type) (need (r.rng.allows (.oct d)) .type)
  else
    let v := maskBits r.base (t.dec d)
    firstOf [need (d.length == t.size) .type, need (t != .bool || decide (leNat d ≤ 1)) .range,
      need (t != .real32 || !realSpecial (leNat d)) .range, need (r.ty == .point || r.rng.allows (.num v)) .range]

/-! ### What the owning chapters ask -/

/-- A car that must be OUT_OF_SERVICE (R308, R412). -/
def State.carOut (s : State) (n : Nat) : Option Refuse := need (s.carState n == 0) .busy

/-- A request object that only takes 1. -/
def one (v : Int) : Option Refuse := need (v == 1) .range

/-- Every car is OUT_OF_SERVICE, PARKED, IDLE or INSPECTION (R6). -/
def State.carsAtRest (s : State) : Bool := (List.range 12).all (fun n => decide (s.carState n ≤ 2) || s.carState n == 11)

/-- Area 0x00: state, reset, firmware, configuration and certificates. -/
def State.check00 (s : State) (base : Nat) (ix : List Nat) (v : Int) (d : List Byte) : Option Refuse :=
  let i := ix.headD 0
  let q := ix.getD 1 0
  match base with
  | 0x00000110 =>
    if v = 1 then
      need ((s.mode == .active || s.mode == .service) && s.carsAtRest) .busy
    else need (s.mode == .active || s.cfgValid) .integrity
  | 0x00000120 => need (s.mode == .active && s.healthyStandby && s.nat Oid.TW_TWIN_SUMMARY == 0 && s.tw.plan.isNone) .busy
  | 0x00000502 => s.resetReqCheck v
  | 0x00000520 => s.blockRstCheck v.toNat
  | 0x00000800 => need (v == 0 || v == 1) .range
  | 0x00000801 => andThen (need (decide (4 ≤ d.length)) .type) (s.fwLoadCheck d)
  | 0x00000802 => andThen (one v) s.fwTargetCheck
  | 0x00000804 => andThen (one v) s.fwSwitchCheck
  | 0x00000900 => andThen (need (decide (4 ≤ d.length)) .type) (cfgLoadCheck d)
  | 0x00000901 => one v
  | 0x00001000 => s.opcCertCheck q d
  | 0x00001001 => s.opcUseCheck i q v.toNat
  | _ => none

/-- The members of a point group as a definition gives them (R184). -/
def memberPoints (d : List Byte) : List Nat := State.broadcast.u32s d

/-- A point group's partition and members agree, and its members have one type (R184); a member number that no point has is refused with RANGE.
(DESIGN CHOICE, log entry 140.) -/
def State.groupDefOk (s : State) (part : Nat) (l : List Nat) : Option Refuse :=
  firstOf [need (l.all (fun p => decide (p < 262144))) .range, need (l.all (fun p => s.nat (Oid.PT_PARTITION p) == part)) .partition,
    need (l.all (fun p => s.ptType p == s.ptType (l.headD 0))) .type]

/-- Area 0x01: sessions, partitions, point groups and CAN. A tenant may hand its own group to another partition, as far as its members allow
(R184). (DESIGN CHOICE, log entry 140.) -/
def State.check01 (s : State) (base : Nat) (ix : List Nat) (v : Int) (d : List Byte) (ph : Option TxPhase) : Option Refuse :=
  let c := ix.headD 0
  let e := ix.getD 1 0
  let _ := ph
  match base with
  | 0x01200000 => need (c != 0) .access
  | 0x01400005 => andThen (one v) (need ((s.ses c).state != 0) .noObject)
  | 0x01500000 => andThen (need (decide (0 ≤ v ∧ v < 1024)) .range) (s.groupDefOk v.toNat (memberPoints (s.blob (Oid.PGRP_MEMBERS c))))
  | 0x01500001 =>
    andThen (need (d.length % 4 == 0 && decide (d.length ≤ 4096)) .type) (s.groupDefOk (s.nat (Oid.PGRP_PARTITION c)) (memberPoints d))
  | 0x01300000 => s.canModeCheck c v.toNat
  | 0x01300001 => s.ratesCheck c v.toNat (s.nat (Oid.CAN_DBR c))
  | 0x01300002 => s.ratesCheck c (s.nat (Oid.CAN_NBR c)) v.toNat
  | 0x01300003 | 0x01300004 => need (!s.canCarriesAB c) .busy
  | 0x01300009 => one v
  | 0x0130000A => s.cycleCheck c v
  | 0x0130000B =>
    andThen (need (s.nat (Oid.CAN_MODE c) != 4) .busy) (need (decide (v < s.get (Oid.CAN_T_CYCLE c))) .range)
  | 0x0130000C | 0x0130000D => need (s.nat (Oid.CAN_MODE c) != 4) .busy
  | 0x0130000E => if d = [] then need (s.nat (Oid.CAN_MODE c) != 4) .busy else s.columnsCheck c d
  | 0x01300014 => if d = [] then none else detectTableCheck d
  | 0x01600000 => s.entDescCheck c e d
  | 0x01600004 => one v
  | 0x01700005 => need (!s.rxbHeld c e) .busy
  | 0x01700006 => s.rxbAckCheck c e v.toNat
  | 0x01780000 | 0x01780001 | 0x01780002 => need (!s.txbHeld c e) .access
  | 0x01780003 => s.txbCtrlCheck c e v.toNat
  | 0x01800000 => s.mapDescCheck c d
  | _ => none

/-- Areas 0x10 to 0x1B and the groups of cars: position and dispatch. The index of a car comes first. -/
def State.check10 (s : State) (base : Nat) (ix : List Nat) (v : Int) (d : List Byte) : Option Refuse :=
  let n := ix.headD 0
  let k := ix.getD 1 0
  match base with
  | 0x10010002 | 0x10010003 => andThen (need (decide (1 ≤ v ∧ v ≤ 16777216)) .range) (s.carOut n)
  | 0x10010004 => s.carOut n
  | 0x10010010 => one v
  | 0x1001002F => s.refLandingCheck n v.toNat
  | 0x10010031 => s.learnCheck n v.toNat
  | 0x10011001 => andThen (need (v % 4 != 0) .range) (s.cmpAccess n k)
  | 0x10011000 | 0x10011002 | 0x10011003 | 0x10011004 | 0x10011005 => s.cmpAccess n k
  | 0x10030002 => s.carCmdCheck n v.toNat
  | 0x10030004 => one v
  | 0x10030006 => s.carGroupCheck n v
  | 0x10030018 | 0x10030019 => s.carParamCheck n (base % 256) v
  | 0x100F0000 => andThen (need (decide (0 ≤ v ∧ v ≤ 2)) .range) (s.groupModeCheck n)
  | 0x100F0001 => s.groupModeCheck n
  | 0x100F0004 => s.dtListCheck d (s.blob (Oid.GRP_DT_TX n))
  | 0x100F0005 => s.dtListCheck (s.blob (Oid.GRP_DT_RX n)) d
  | _ => none

/-- The force of R526, in raw FIX32 N: DOOR_KF × DOOR_LIM_RUN ÷ 1,000 − DOOR_F_FRIC stays within 150 N. -/
def doorForceOk (kf lim fric : Int) : Bool := decide (kf * lim - fric * 1000 ≤ 150 * 65536 * 1000)

/-- Area 0x20: door channels. -/
def State.check20 (s : State) (base : Nat) (ix : List Nat) (v : Int) : Option Refuse :=
  let k := ix.headD 0
  let n := base % 65536
  let kf := s.get (Oid.DOOR_KF k)
  let lim := s.get (Oid.DOOR_LIM_RUN k)
  let fric := s.get (Oid.DOOR_F_FRIC k)
  if n = 0x100 then s.doorEnableCheck k (v != 0)
  else if 0x101 ≤ n ∧ n ≤ 0x11B then
    andThen (s.doorParamCheck k n v)
      (need (if n = 0x107 then doorForceOk kf v fric else if n = 0x10C then doorForceOk v lim fric
        else if n = 0x10D then doorForceOk kf lim v else true) .range)
  else if n = 0x300 then andThen (need (v == 1 || v == 2) .range) (need (s.lineTestOk k) .busy)
  else if n = 0x301 then one v
  else if n = 0x302 then andThen (one v) (s.retrainCheck k)
  else none

/-- Area 0x40: the control engine. -/
def State.check40 (s : State) (base : Nat) (ix : List Nat) (v : Int) (d : List Byte) : Option Refuse :=
  let i := ix.headD 0
  let c := ix.getD 1 0
  match base with
  | 0x400000C0 => s.groupCheck i d
  | 0x400000C1 | 0x400000C2 | 0x400000C3 => s.groupOpen i
  | 0x40000000 => s.loopEnableCheck c i (v != 0)
  | 0x40000003 => andThen (need (v == 1 || v == 2 || v == 3) .range) (s.loopCmdCheck c i v.toNat)
  | _ => s.loopParamCheck c i (base % 64) v

/-- Area 0x50: metering and energy. -/
def State.check50 (s : State) (base : Nat) (ix : List Nat) (v : Int) (d : List Byte) : Option Refuse :=
  let c := ix.headD 0
  match base with
  | 0x50000001 => pllSrcCheck d
  | 0x50020000 => sensorCheck c v
  | 0x50020001 => s.vrefCheck v
  | 0x50020002 => need (v != 0 && decide (v < 2147483648)) .range
  | 0x50020005 => need (corrOk d) .range
  | 0x50020006 => s.chCarCheck c v
  | 0x50030002 => s.calReqCheck c v.toNat
  | 0x50030003 => s.calAbortCheck c v.toNat
  | 0x50040011 => s.regClearCheck v
  | 0x50050000 => poSrcCheck v
  | 0x50050002 => s.poFieldCheck c v
  | 0x50060013 | 0x50080005 => one v
  | _ => none

/-- Area 0x60: field I/O. A compare may drive a channel that a point owns (R596, R600, R605). -/
def State.check60 (s : State) (base : Nat) (ix : List Nat) (v : Int) (q : Rights) : Option Refuse :=
  let x := ix.headD 0
  match base with
  | 0x60000000 => need (!s.modeBusy x) .busy
  | 0x60000001 => need (s.fioOwner x == 0 || (q.compare && s.fioOwner x == 1)) .busy
  | 0x60000006 => need (!s.contFifth x v) .range
  | 0x60010001 => one v
  | _ => none

/-- Areas 0x70 to 0x7C. -/
def State.check70 (s : State) (base : Nat) (ix : List Nat) (v : Int) (d : List Byte) : Option Refuse :=
  match base with
  | 0x70000003 => s.commitCheck v
  | 0x70000005 => safetyPwCheck d
  | 0x70000006 => andThen (one v) s.cfgActivateCheck
  | 0x70000007 => s.safetyTestCheck v
  | 0x70010001 => one v
  | _ => if safetyParam base then need (s.safetyRangeOk base ix d) .range else none

/-- Areas 0x80 to 0x83: points. -/
def State.check80 (s : State) (base : Nat) (p prio : Nat) (relinq : Bool) (v : Int) (d : List Byte) : Option Refuse :=
  match base with
  | 0x80000000 => s.ptPvCheck p prio relinq v
  | 0x80000001 => s.ptTypeCheck p v
  | 0x80000002 => s.ptPartitionCheck p v
  | 0x80000003 => s.ptEnableCheck p v
  | 0x80000004 => s.ptClassCheck p v
  | 0x80000006 => s.ptBindCheck p false d
  | 0x80000007 => s.ptBindCheck p true d
  | 0x80000008 => need (s.ptValid p v || (v == 0 && 7 ≤ s.ptType p && s.ptType p ≤ 9)) .range
  | 0x80000028 => s.ptInstanceCheck p v
  | _ => none

/-! ### Launches (R159 to R162) -/

/-- The descriptors of a LAUNCH_SUBMIT (R159): time, target, tag, priority, length, value bytes. -/
structure LaunchDesc where
  time : Nat
  target : Nat
  tag : Nat
  prio : Nat
  len : Nat
  value : List Byte
deriving DecidableEq, Repr

/-- One descriptor of 32 bytes. -/
def launchDesc (b : List Byte) : LaunchDesc :=
  let v := leNat b
  { time := field v 255 192, target := field v 191 160, tag := field v 159 128, prio := field v 127 120, len := field v 119 112
    value := b.take (field v 119 112) }

/-- The descriptors, in order. -/
def launchDescs (b : List Byte) : List LaunchDesc := (List.range (b.length / 32)).map (fun i => launchDesc ((b.drop (32 * i)).take 32))

/-- A tag is held: from acceptance until 10 s after its launch time (R162). -/
def State.heldTag (s : State) (part tag : Nat) : Option Launch := s.launches.find? (fun l => l.part == part && l.tag == tag)

/-- The most launches that any 1 ms holds with one more at `t` (R161). (DEDUCED, log entry 54.) -/
def crowd (l : List Nat) (t : Nat) : Nat :=
  let near := t :: l.filter (fun x => decide (x < t + 1000000 ∧ t < x + 1000000))
  (near.map (fun x => (near.filter (fun y => decide (x ≤ y ∧ y < x + 1000000))).length)).foldl max 0

/-- The objects that a launch writes: its target, or the members of a broadcast (R186). -/
def State.launchTargets (s : State) (target : Nat) : List Nat :=
  match s.broadcast target with
  | some l => l
  | none => [target]

/-- The charge of one object that a launch writes on the account of its emitter (R161, R228, R280). (DEDUCED, log entry 54.) -/
def State.targetCharges (s : State) (target : Nat) : List (Nat × Nat) :=
  match pointOf target with
  | some (p, 0) =>
    let b := s.sinkOf p
    if !bindingUsed (s.ptType p) true b then []
    else if b.kind = 2 then [(0x10 + (b.port - 0x30), 8 * (s.bindingEntry b).len)]
    else if b.kind = 3 ∧ isRs b.port then [((portAcct b.port).getD 0, 2200)]
    else if b.kind = 5 then [((portAcct b.port).getD 0, modbusOctets b.addr3 * 11)]
    else if b.kind = 3 ∨ b.kind = 4 then [((portAcct b.port).getD 0, 1024)]
    else []
  | _ => []

/-- The charges of a launch beside its queue entry, in its emission slot: those of every object it writes (R161, R185, R186). -/
def State.emitterCharges (s : State) (target : Nat) : List (Nat × Nat) := (s.launchTargets target).flatMap s.targetCharges

/-- The class of a launch: that of its point, of a group the earliest of its members (R161). (DEDUCED, log entry 54.) -/
def State.launchClass (s : State) (target : Nat) : Nat :=
  ((s.launchTargets target).map (fun o => match pointOf o with
    | some (p, 0) => s.nat (Oid.PT_CLASS p)
    | _ => 3)).foldl min 3

/-- The ledger item of a launch: one queue entry (R161). (DEDUCED, log entry 54.) -/
def State.launchItem (s : State) (part : Nat) (x : LaunchDesc) : Item :=
  { id := 0, kind := .launch part x.tag, cls := s.launchClass x.target, charges := [(0x38, 1)] }

/-- The queue entry of an accepted descriptor (R159, R161). -/
def State.launchOf (s : State) (part : Nat) (x : LaunchDesc) : Launch :=
  { part := part, tag := x.tag, time := x.time, target := x.target, prio := x.prio, value := x.value, order := s.launchSeq
    cls := s.launchClass x.target, charges := s.emitterCharges x.target }

/-- The account of an emitter that has no headroom left in a launch's slot, its headroom there, and the need (R161). -/
def State.slotRefusal (s : State) (x : LaunchDesc) : Option (Nat × Nat × Nat) :=
  let l := s.emitterCharges x.target
  let bad := ((l.map (·.1)).eraseDups.map (fun a => (a, s.slotHeadroom a (s.launchClass x.target) (slotOf x.time), chargeOn l a))).filter
    (fun y => decide (y.2.1 < y.2.2))
  match bad with
  | y :: t => some (t.foldl worse y)
  | [] => none

/-- A cancel of the launch was accepted before its commit point and waits for its own: the launch is stopped (R17, R33, R162). -/
def State.cancelWaits (s : State) (l : Launch) : Bool :=
  (s.acc.waits ++ s.acc.held).any (fun r => r.part == l.part && r.entries.any (fun e => e.oid == 0x08001001 && leNat e.data == l.tag))

/-- LAUNCH_CANCEL: a tag that is not held, or a launch at or after its commit point (R162). -/
def State.cancelCheck (s : State) (part tag : Nat) : Option Refuse :=
  match s.heldTag part tag with
  | none => refuse .noObject
  | some l => need (l.state == .cancelled || (l.state == .waiting && decide (s.time + 100000 < l.time))) .tooLate

/-! ### One write -/

/-- What the owning chapter asks of a write, by area. LAUNCH_SUBMIT and the arming of a compare are checked apart.
(DEDUCED, log entries 56 and 58.) -/
def State.ownerCheck (s : State) (q : Rights) (r : ObjRow) (ix : List Nat) (e : WEntry) (v : Int) (d : List Byte) : Option Refuse :=
  let area := r.base / 16777216
  if area = 0x00 then s.check00 r.base ix v d
  else if area = 0x01 then s.check01 r.base ix v d e.ph
  else if area = 0x08 then
    (match r.base with
      | 0x08000110 => s.timeSetCheck
      | 0x08000111 => s.stepReqCheck v
      | 0x08000301 => need (s.get Oid.PTP_PROFILE == 1 || v == 0) .range
      | 0x08001001 => s.cancelCheck q.part v.toNat
      | _ => none)
  else if area = 0x10 then s.check10 r.base ix v d
  else if area = 0x20 then s.check20 r.base ix v
  else if area = 0x40 then s.check40 r.base ix v d
  else if area = 0x50 then s.check50 r.base ix v d
  else if area = 0x60 then s.check60 r.base ix v q
  else if area = 0x70 then s.check70 r.base ix v d
  else if area = 0x80 then s.check80 r.base (ix.headD 0) e.prio e.relinq v d
  else none

/-- The loop that owns an RWL object is not OPEN: a door channel's loops, the members of a competition group, or the loop itself (R12,
R371, R392, R395). -/
def State.loopShut (s : State) (r : ObjRow) (ix : List Nat) : Option Refuse :=
  let i := ix.headD 0
  if r.base / 16777216 = 0x20 then need (!doorRuns (s.doorState i)) .loopClosed
  else if 0x400000C0 ≤ r.base ∧ r.base ≤ 0x400000C6 then s.groupOpen i
  else need (s.loopMode (ix.getD 1 0) i == 0) .loopClosed

/-- The refusal of the access code (R12): RWL needs its loop OPEN, RWS the safety session of the writer. -/
def State.codeCheck (s : State) (q : Rights) (r : ObjRow) (ix : List Nat) : Option Refuse :=
  match r.acc with
  | .ro | .const => refuse .access
  | .rwp => need (q.part == 0) .partition
  | .rws => need (s.hasSafety q.ses && !q.internal) .safetyLocked
  | .rwl => s.loopShut r ix
  | .rw | .wo => none

/-- Flags and priority match the target (R172, R180, R195, R218, R219). -/
def flagCheck (q : Rights) (r : ObjRow) (e : WEntry) : Option Refuse :=
  let pv := r.base == 0x80000000
  firstOf [need (!e.dflt || r.hasDflt) .access, need (pv || !e.relinq) .type,
    need (if pv then decide (1 ≤ e.prio ∧ e.prio ≤ 16) else e.prio == 0) .type,
    need (!(pv && q.part != 0 && decide (e.prio ≤ 2))) .access]

/-- The checks of a write to one object that is no broadcast, but for those of LAUNCH_SUBMIT and of arming a compare. -/
def State.checkObject (s : State) (q : Rights) (e : WEntry) : Option Refuse :=
  let e := s.withDefault e
  if q.part != 0 && !s.ownObject q.part e.oid then refuse .partition
  else
    match findObject e.oid with
    | none => refuse .noObject
    | some (r, ix) =>
      match s.tyOf r ix with
      | none => refuse .noObject
      | some t =>
        let d := if e.relinq then t.enc 0 else writeBytes r e.oid t e.dflt e.data
        let v := maskBits r.base (t.dec d)
        firstOf [need (!(e.relinq && e.dflt)) .type, s.codeCheck q r ix, flagCheck q r e,
          (if e.relinq then none else if r.base = 0x80000000 then need (d.length == t.size) .type
            else valueCheck r t d),
          s.ownerCheck q r ix e v d]

/-- One object as the target of a launch or a compare: checks 3 to 7 of the table Launch acceptance checks in their order. Only WO, RW, RWP and
RWL qualify, and no value of 1 to 8 bytes suits an OCTETS or STRING object (R160, R329). (DEDUCED, log entry 124.) -/
def State.targetOne (s : State) (q : Rights) (oid prio : Nat) (val : List Byte) : Option Refuse :=
  match findObject oid with
  | none => refuse .noObject
  | some (r, ix) =>
    firstOf [need (q.part == 0 || s.ownObject q.part oid) .partition, need (r.acc != .rws) .access, s.codeCheck q r ix,
      need (!r.ty.isBytes) .type, s.checkObject q { oid := oid, prio := prio, data := val }]

/-- A target of a launch or a compare, with the bytes of its value: a broadcast against every member (R160, R186, R329).
(DEDUCED, log entry 124.) -/
def State.targetCheck (s : State) (q : Rights) (oid prio : Nat) (val : List Byte) : Option Refuse :=
  match s.broadcast oid with
  | some l => firstOf (need (q.part == 0 || s.ownObject q.part oid) .partition :: l.map (fun o => s.targetOne q o prio val))
  | none => s.targetOne q oid prio val

/-- One descriptor, after the `done` ones of its write (R160, R161). -/
def State.descCheck (s : State) (q : Rights) (done : List LaunchDesc) (x : LaunchDesc) : Option Refuse :=
  let times := (s.launches.filter (·.live)).map (·.time) ++ done.map (·.time)
  let t : State := { s with pts := { s.pts with items := s.pts.items ++ done.map (s.launchItem q.part) }, launches := s.launches ++ done.map (s.launchOf q.part) }
  firstOf [need (s.tb.status != 0) .integrity,
    need (decide (s.time + s.nat Oid.LAUNCH_MIN_LEAD * 1000 ≤ x.time ∧ x.time ≤ s.time + sec (s.nat Oid.LAUNCH_MAX_LEAD))) .range,
    s.targetCheck q x.target x.prio x.value, need (decide (1 ≤ x.len ∧ x.len ≤ 8)) .type,
    need ((s.heldTag q.part x.tag).isNone && !done.any (fun y => y.tag == x.tag)) .busy,
    (t.admitCheck [s.launchItem q.part x]).map noBudget, (t.slotRefusal x).map noBudget,
    (if crowd times x.time ≤ 1024 then none else some (noBudget (0x38, 0, 1)))]

/-- A whole LAUNCH_SUBMIT: the first descriptor that fails (R159). (DEDUCED, log entry 56.) -/
def State.submitCheck (s : State) (q : Rights) (done : List LaunchDesc) : List LaunchDesc → Option Refuse
  | [] => none
  | x :: t =>
    match s.descCheck q done x with
    | some r => some r
    | none => s.submitCheck q (done ++ [x]) t

/-- Arming a compare: CMP_TARGET and CMP_VALUE under checks 3 to 7, and its field channel (R329). (DEDUCED, log entry 124.) -/
def State.armCheck (s : State) (n k : Nat) : Option Refuse :=
  let t := s.nat (Oid.CMP_TARGET n k)
  let pv := match pointOf t with
    | some (_, 0) => true
    | _ => false
  let size := match s.targetTy t with
    | some ty => ty.size
    | none => 8
  firstOf [if t = 0 then none
    else s.targetCheck { internal := true, compare := true } t (if pv then 16 else 0) (leBytes size (s.nat (Oid.CMP_VALUE n k))),
    s.cmpFieldCheck n k]

/-- The checks of one write that is no broadcast. -/
def State.checkWrite (s : State) (q : Rights) (e : WEntry) : Option Refuse :=
  andThen (s.checkObject q e)
    (match lookup e.oid with
      | some (r, ix) =>
        if r.base = 0x08001000 then
          andThen (need (e.data.length % 32 == 0 && decide (32 ≤ e.data.length ∧ e.data.length ≤ 2048)) .type)
            (s.submitCheck q [] (launchDescs e.data))
        else if r.base = 0x10011005 ∧ !e.dflt ∧ e.data = [1] then s.armCheck (ix.headD 0) (ix.getD 1 0)
        else none
      | none => none)

end Sys2Proof.Machine
end

