-- ==== Sys2Proof/Machine/Stepping.lean ====
section
/-! DEFINITION. Steps of the time base and what follows from them: the launches whose time they put into the past, and PTP as it selects and
follows a grandmaster (R17, R143 to R152, R155, R163, R164). -/

namespace Sys2Proof.Machine

/-! ### The commit point of launches (R17, R30, R163) -/

/-- The module emits launches: it drives outputs, its gate permits them, and after EQUINOX it has sent PASS (R30, R565). -/
def State.emitsLaunches (s : State) : Bool :=
  s.drives && s.gate && s.up .safe && s.up .app && (s.tw.equinoxAt.isNone || s.tw.passSent)

/-- The launch reaches its commit point: access is checked again, and a launch that fails is not emitted (R17, R163). -/
def State.commitLaunch (s : State) (l : Launch) : State :=
  match s.targetCheck { part := l.part } l.target l.prio l.value with
  | some r =>
    ((s.endLaunch l .refused).event 0x110A l.tag r.st.code l.target).mirror (.launchOutcome l.part (BitVec.ofNat 32 l.tag) true)
  | none => s.mapLaunch l.part l.tag (fun x => { x with state := .committed })

/-- The launch with a tag stands committed. -/
def State.stoodCommitted (s : State) (l : Launch) : Bool := (s.heldTag l.part l.tag).any (fun x => x.state == .committed)

/-- A launch whose time lies in the past is emitted at once, LATE, once it has passed its commit point; one that a waiting cancel stops is
not (R18, R30, R151, R163, R565). -/
def State.emitPast (s : State) (l : Launch) : State :=
  let s := if l.state = .waiting ∧ !s.cancelWaits l then s.commitLaunch l else s
  if s.stoodCommitted l then
    let s := { s with emits := s.emits ++ [l.action true] }
    (s.endLaunch l .emitted).mirror (.launchOutcome l.part (BitVec.ofNat 32 l.tag) false)
  else s

/-! ### Steps (R149 to R152, R155) -/

/-- A step of the time base to `t`: the open interval closes with STEP and SHORT, past launches are emitted by the module that emits
launches, the step is recorded, and clears a TIME_FAULT (R150, R151). -/
def State.stepTime (s : State) (t : Nat) : State :=
  let diff : Int := (t : Int) - (s.time : Int)
  let past := launchOrder (s.launches.filter (fun l => l.live && decide (l.time < t)))
  let s := (s.flagIntervals 1).closeInterval true
  let start := if s.tb.status = 0 then s.met.intStart else t
  let s := { s with tb := { s.tb with now := BitVec.ofNat 96 (t * 4294967296), fault := false }, met := { s.met with intStart := start } }
  let s := s.setN Oid.TIME_NOW t
  let n := s.emits.length
  let s := if s.emitsLaunches then past.foldl State.emitPast s else s
  let d := unsigned 64 diff
  s.event 0x1105 d (d / 4294967296) (s.emits.length - n)

/-- A step of the active module under R150 or R152: mirrored with the instant of the time base at which it was made (R155, R581). -/
def State.stepBoth (s : State) (t : Nat) : State :=
  let at' := s.time
  (s.stepTime t).mirror (.values 0x0E [(Oid.TIME_NOW.oid, t), (Oid.TIME_SET.oid, at')] [])

/-- A grandmaster is selected on a port: recorded, and the status moves as R148 and R149 say. -/
def State.selectGm (s : State) (p : Nat) (id : Nat) : State :=
  let s := { s with tb := { s.tb with gm := true, master := false, follower := p, good := 0 } }
  let s := (s.setBlob Oid.PTP_GM_ID (leBytes 8 id)).event 0x1106 id (id / 4294967296)
  if s.twinTimed then s
  else if s.tb.status = 0 then (s.stepTime s.gmNow).setStatus 1
  else if s.faulted then s
  else s.setStatus 1

/-- The present selection follows the best grandmaster (R145, R149). -/
def State.reselect (s : State) : State :=
  match s.bestGm with
  | none => s
  | some (p, r) =>
    if s.capable && rankLess s.ownRank r then (if s.tb.master then s else s.becomeMaster)
    else if s.tb.gm && s.blob Oid.PTP_GM_ID == leBytes 8 (rankId r) then s
    else s.selectGm p (rankId r)

/-- ANNOUNCE: a message on a port of the instance's domain (R143, R149). -/
def State.announce (s : State) (p : Nat) (m : AnnounceMsg) : State :=
  if !s.ptpOn p || m.domain.toNat != s.ptpDomain then s
  else
    let r := announceRank p m
    let tb := s.tb
    let own := tb.gm && tb.follower == p
    let s := { s with tb := { tb with
      ranks := tb.ranks.put [] p r
      annHeard := tb.annHeard.put 0 p (s.clk + 1)
      gmTime := if own || !tb.gm then m.time.toNat else tb.gmTime
      gmAt := if own || !tb.gm then s.clk else tb.gmAt } }
    s.reselect

/-- An offset beyond 10 ms: TIME_FAULT, FREE, and the grandmaster is no longer followed (R150). -/
def State.timeFault (s : State) (o : Int) : State :=
  let s := s.event 0x1104 (par (clampInt (-2147483648) 2147483647 (o / 1000)))
  let s := ({ s with tb := { s.tb with fault := true, good := 0 } }.setStatus 4)
  s.event 0x1103 1

/-- A valid Sync on the follower port (R148 to R150). (DESIGN CHOICE, log entry 27.) -/
def State.followSync (s : State) (p : Nat) (o : Int) : State :=
  let s := s.showOffset o
  let s := { s with tb := { s.tb with gmTime := (s.time - o).toNat, gmAt := s.clk } }
  if s.tb.status = 0 ∨ s.faulted then s
  else if o.natAbs > 10000000 then s.timeFault o
  else
    let good := if o.natAbs ≤ 1000 then s.tb.good + 1 else 0
    let s := { s with tb := { s.tb with good := min good 16 } }.slew
    if good ≥ 16 ∧ s.tb.status ≠ 2 then (s.setStatus 2).event 0x1101 p (par o) else s

/-- A Sync on a port: followed, measured on a passive port, or measured only by a standby (R146, R148, R155, R157).
(DESIGN CHOICE, log entry 27.) -/
def State.sync (s : State) (p : Nat) (o : Int) (valid : Bool) : State :=
  if !s.ptpOn p || !valid then s
  else
    let s := { s with tb := { s.tb with heard := s.tb.heard.put 0 p (s.clk + 1), portOffset := s.tb.portOffset.put none p (some o) } }
    if !s.tb.gm || s.tb.follower != p then s
    else if s.twinTimed then { s with tb := { s.tb with ptpDiffers := decide (o.natAbs > 1000) } }
    else s.followSync p o

/-- SYNC. -/
def execSync (port : Fin 4) (offsetNs : Int) (valid : Bool) (s : State) : Answer := .next (s.start.sync port offsetNs valid)

/-- The passive port becomes the follower port; LOCKED stands only on a measured offset within 1 µs (R146). -/
def State.changePort (s : State) (q : Nat) : State :=
  let m := Tbl.get none s.tb.portOffset q
  let o := m.getD 0
  let id := rankId (Tbl.get [] s.tb.ranks q)
  let same := s.blob Oid.PTP_GM_ID == leBytes 8 id
  let s := { s with tb := { s.tb with follower := q } }.event 0x1107 q (par o)
  let s := if same then s else (s.setBlob Oid.PTP_GM_ID (leBytes 8 id)).event 0x1106 id (id / 4294967296)
  if s.twinTimed || s.tb.status = 0 || s.faulted then s
  else if s.tb.status = 2 ∧ m.isSome ∧ o.natAbs ≤ 1000 then s
  else { s with tb := { s.tb with good := 0 } }.setStatus 1

/-- No valid Sync on any port for the receipt timeout: HOLDOVER from ACQUIRING or LOCKED (R148, R153). -/
def State.holdover (s : State) : State :=
  if s.tb.status = 1 ∨ s.tb.status = 2 then
    ({ s with tb := { s.tb with holdoverAt := s.time, good := 0 } }.setStatus 3).event 0x1102 (par (s.get Oid.TIME_OFFSET_NS))
  else s

/-- ANNOUNCE_TIMEOUT on a port (R146, R148). (DEDUCED, log entry 52.) -/
def State.announceTimeout (s : State) (p : Nat) : State :=
  if !s.ptpOn p then s
  else
    let q := 1 - p
    if s.tb.gm && s.tb.follower == p && !s.announced p && s.ptpOn q && s.announced q then s.changePort q
    else if s.synced 0 || s.synced 1 then s
    else
      let lost := !s.announced 0 && !s.announced 1
      let s := (if lost then { s with tb := { s.tb with gm := false } } else s)
      let s := if s.twinTimed then s else s.holdover
      if lost && s.capable && !s.tb.master then s.becomeMaster else s

/-- ANNOUNCE_TIMEOUT. (DEDUCED, log entry 52.) -/
def execAnnounceTimeout (port : Fin 4) (s : State) : Answer := .next (s.start.announceTimeout port)

/-- HOLDOVER_LIMIT: holdover has lasted the limit (R148, R153). -/
def execHoldoverLimit (s : State) : Answer :=
  let s := s.start
  .next (if s.tb.status = 3 ∧ s.tb.holdoverAt + sec (s.nat Oid.HOLDOVER_LIMIT) ≤ s.time then (s.setStatus 4).event 0x1103 0 else s)

/-- The follower port has lost its link: the other port, where it hears a grandmaster, becomes the follower port (R146). -/
def State.ptpLinkLost (s : State) : State :=
  let q := 1 - s.tb.follower
  if s.tb.gm && !s.portLinked s.tb.follower && s.ptpOn q && s.portLinked q && s.announced q then s.changePort q else s

/-- A change of a role: a module no port of which may send as grandmaster is none any more, and a follower port that is disabled leaves the
grandmaster to the other port, or to nobody (R145). (DESIGN CHOICE, log entry 134.) -/
def State.roleChanged (s : State) : State :=
  let s := if s.tb.master && !s.capable then { s with tb := { s.tb with master := false } } else s
  let q := 1 - s.tb.follower
  let s := if !s.tb.gm || s.ptpOn s.tb.follower then s
    else if s.ptpOn q && s.portLinked q && s.announced q then s.changePort q
    else { s with tb := { s.tb with gm := false } }
  s.reselect

/-- A change of the profile or of the domain: what was heard before belongs to another instance, and no grandmaster is selected any more
(R143, R144). (DESIGN CHOICE, log entry 134.) -/
def State.instanceChanged (s : State) : State :=
  { s with tb := { s.tb with gm := false, ranks := [], annHeard := [], heard := [], portOffset := [] } }

/-- Sends a PTP message on the ports that `p` picks out, over the transport and in the domain of the instance (R143, R144). -/
def State.sendPtp (s : State) (ports : Nat → Bool) (kind seq : Nat) (body : List Byte) : State :=
  ((List.range 2).filter ports).foldl (fun s p => s.emit (.ptp p s.ptpTransport s.ptpDomain kind seq body)) s

/-- The Sync interval, ns: 2 to the power PTP_SYNC_LOG, in seconds (R143). -/
def State.syncNs (s : State) : Nat := 1000000000 / 2 ^ (-(s.get Oid.PTP_SYNC_LOG)).toNat

/-- SYNC_INTERVAL: the grandmaster's Sync and Follow_Up on every enabled port, one Sync interval after the last (R143, R145). -/
def execSyncInterval (s : State) : Answer :=
  let s := s.start
  .next (if !s.tb.master || s.twinTimed then s
    else
      let s := s.reach (s.tb.syncAt + s.syncNs)
      { s.sendPtp s.ptpOn 0 s.tb.seqSync.toNat (leBytes 8 s.time) with tb := { s.tb with seqSync := s.tb.seqSync + 1, syncAt := s.clk } })

/-- What the module's Announce says: priority1, clockClass 248, priority2, timeTraceable and frequencyTraceable false, and its
clockIdentity (R147). (PRESUMED, log entry 51.) -/
def State.announceBody (s : State) : List Byte :=
  leBytes 1 (s.nat Oid.PTP_PRIORITY1) ++ leBytes 1 248 ++ leBytes 1 (s.nat Oid.PTP_PRIORITY2) ++ [0, 0]
    ++ leBytes 8 clockIdentity.toNat

/-- ANNOUNCE_INTERVAL: the grandmaster's Announce, 1 s after the last, unless UNSET, FREE after TIME_FAULT, or TWIN (R143, R147). -/
def execAnnounceInterval (s : State) : Answer :=
  let s := s.start
  .next (if !s.tb.master || s.tb.status = 0 || s.faulted || s.twinTimed then s
    else
      let s := s.reach (s.tb.annAt + sec 1)
      { s.sendPtp s.ptpOn 1 s.tb.seqAnn.toNat s.announceBody with tb := { s.tb with seqAnn := s.tb.seqAnn + 1, annAt := s.clk } })

/-- DELAY_REQUEST: a follower or passive port sends Delay_Req (profile 1) or Pdelay_Req (profile 0); one that the port received is answered
with Delay_Resp by a grandmaster, and with Pdelay_Resp in profile 0 (R143, R146). -/
def execDelayRequest (q : DelayReq) (s : State) : Answer :=
  let s := s.start
  let e2e := s.get Oid.PTP_PROFILE == 1
  .next (match q.received with
    | none =>
      if !s.ptpOn q.port || s.tb.master || !s.tb.gm then s
      else
        { s.sendPtp (fun p => p == q.port.val) (if e2e then 2 else 3) s.tb.seqDelay.toNat [] with
          tb := { s.tb with seqDelay := s.tb.seqDelay + 1 } }
    | some seq =>
      if !s.ptpOn q.port || (e2e && !s.tb.master) then s
      else s.sendPtp (fun p => p == q.port.val) (if e2e then 4 else 5) seq.toNat (leBytes 8 s.time))

/-! ### Host requests -/

/-- An accepted TIME_STEP_REQ (R150). -/
def State.stepReq (s : State) : State :=
  let s := { s with tb := { s.tb with good := 0 } }
  (s.stepBoth s.gmNow).setStatus 1

/-- An accepted TIME_SET: a step, FREE, and the module acts as grandmaster where a port is capable (R152). -/
def State.timeSet (s : State) (t : Nat) : State :=
  let s := (((s.setN Oid.TIME_SET t).stepBoth t).setStatus 4).event 0x1103 2
  if s.capable then s.becomeMaster else s

end Sys2Proof.Machine
end

