-- ==== Sys2Proof/Machine/Apply.lean ====
section
/-! DEFINITION. What a write of one object does once it has passed its checks and reached its commit point: the register takes the
value, and the owning chapter's effect follows (R172, R177, R180). -/

namespace Sys2Proof.Machine

/-- The register takes the value, unless the object is a request object, which keeps none (R177). (DEDUCED, log entry 55.) -/
def State.keep (s : State) (r : ObjRow) (oid : Nat) (d : List Byte) : State := if r.kept = .request then s else s.setBytes oid d

/-- MODULE_STATE_REQ is carried out: idle cars park and the module enters SERVICE, unless a car has left the states of R6 since the request
was accepted, or it enters ACTIVE (R6, R37, R41); in the state
asked for it already, nothing changes. (DEDUCED, log entry 69.) -/
def State.stateReq (s : State) (v : Nat) : State :=
  let s := s.setN Oid.MODULE_STATE_REQ v
  if v = 1 ∧ s.mode = .active ∧ s.carsAtRest then
    ((List.range 12).foldl (fun s n => if s.carState n = 2 then s.setCarState n 1 else s) s).enter .service 1
  else if v = 3 ∧ s.mode = .service then s.enter .active 1
  else s

/-- A planned handover starts: new writes, launches and admissions are held from now on (R575). (DEDUCED, log entries 69 and 117.) -/
def State.planStart (s : State) : State := { s with tw := { s.tw with plan := some (s.clk, 0) } }

/-- Area 0x00. -/
def State.apply00 (s : State) (r : ObjRow) (oid : Nat) (ix : List Nat) (v : Int) (d : List Byte) : State :=
  let i := ix.headD 0
  let q := ix.getD 1 0
  match r.base with
  | 0x00000110 => s.stateReq v.toNat
  | 0x00000120 => s.planStart
  | 0x00000502 => s.resetReq v
  | 0x00000520 => (s.blockRst v.toNat).ptpLinkLost
  | 0x00000800 => (s.keep r oid d).forTarget (v == 1)
  | 0x00000801 | 0x00000802 | 0x00000804 => s.fwWrite oid d
  | 0x00000900 => s.cfgLoad d
  | 0x00000901 => s.cfgVerify
  | 0x00000421 => (s.keep r oid d).keepAwake
  | 0x00001000 => s.opcCert i q d
  | _ => s.keep r oid d

/-- A host map entry, an anchor or a partition has changed: recorded for an entry, and every session is judged again (R176, R193,
R211). -/
def State.mapChanged (s : State) (entry : Option Nat) (ses : Nat) : State :=
  (match entry with
    | some e => s.event 0x1007 e ses
    | none => s).recheckSessions

/-- Area 0x01. (DESIGN CHOICE, log entry 32.) -/
def State.apply01 (s : State) (q : Rights) (r : ObjRow) (oid : Nat) (ix : List Nat) (v : Int) (d : List Byte) (ph : Option TxPhase) : State :=
  let c := ix.headD 0
  let e := ix.getD 1 0
  match r.base with
  | 0x01100000 | 0x01100001 | 0x01100002 | 0x01100003 | 0x01100004 | 0x01100005 | 0x01100006 =>
    (s.keep r oid d).mapChanged (some c) q.ses
  | 0x01110000 => (s.keep r oid d).mapChanged none q.ses
  | 0x01200000 => (s.keep r oid d).mapChanged none q.ses
  | 0x01400005 => s.closeSes c 4
  | 0x01300000 => s.canModeApply c v.toNat
  | 0x01300001 => ((s.keep r oid d).shrink (0x10 + c)).grow (0x10 + c)
  | 0x01300009 => s.busOffReq c
  | 0x01600000 => s.entDescApply c e d
  | 0x01600004 => s.setBit (Oid.ENT_STATE c e) 3 false
  | 0x01700006 => s.rxbAck c e
  | 0x01780003 =>
    if v = 1 then s.txbRequest c e
    else
      match ph with
      | some p => s.txbCancel c e p
      | none =>
        let (x, s) := s.free
        s.txbCancel c e (if x.getLsbD 0 then .arbitrationWon else .offBus)
  | _ => s.keep r oid d

/-- A launch is accepted: its queue entry, its charges and its held tag (R159 to R162). -/
def State.acceptLaunch (s : State) (part : Nat) (b : List Byte) : State :=
  let x := launchDesc b
  let l := s.launchOf part x
  if (s.heldTag part x.tag).isSome then s
  else
    (({ s with launches := s.launches ++ [l], launchSeq := s.launchSeq + 1 }.addItem (s.launchItem part x))).mirror (.launchAccept part b)

/-- A launch is cancelled (R162); one whose commit point has passed stays. -/
def State.cancelLaunch (s : State) (part tag : Nat) : State :=
  match s.heldTag part tag with
  | none => s
  | some l =>
    if l.state = .waiting then (s.endLaunch l .cancelled).mirror (.launchCancel part (BitVec.ofNat 32 tag)) else s

/-- Area 0x08. -/
def State.apply08 (s : State) (q : Rights) (r : ObjRow) (oid : Nat) (v : Int) (d : List Byte) : State :=
  match r.base with
  | 0x08000110 => s.timeSet v.toNat
  | 0x08000111 => s.stepReq
  | 0x08000200 => (s.keep r oid d).roleChanged
  | 0x08000300 | 0x08000301 => (s.keep r oid d).instanceChanged
  | 0x08001000 => (List.range (d.length / 32)).foldl (fun s i => s.acceptLaunch q.part ((d.drop (32 * i)).take 32)) s
  | 0x08001001 => s.cancelLaunch q.part v.toNat
  | _ => s.keep r oid d

/-! ### Sub-units follow the configuration (R79, R85) -/

/-- The position units of configured cars are on once start-up is complete (R79). -/
def State.puFollow (s : State) : State :=
  if s.pd .pos ∧ s.rst.complete then { s with pow := { s.pow with puOn := s.puWanted } } else s

/-- An island is on while it has a configured channel (R79). -/
def State.islandFollows (s : State) (i : Nat) : State :=
  if !s.pd .met ∨ !s.rst.complete ∨ s.islandWanted i = s.bit Oid.MI_ON i then s
  else if s.islandWanted i then (s.setBit Oid.MI_ON i true).islandStart i
  else (s.islandStop i 0).setBit Oid.MI_ON i false

/-- PD-TWIN is on while the configuration declares a pair (R79). -/
def State.twinFollows (s : State) : State :=
  if !s.rst.complete then s
  else if s.nat Oid.TW_MODE = 0 then
    (if s.pd .twin then (s.setBit Oid.PD_STATE (domBit .twin) false).setBit Oid.CK_GOOD (domBit .twin) false else s)
  else s.domainOn .twin

/-- A door channel's enable is another than before: it is admitted or disabled as a write of DOOR_ENABLE would (R79, R228). -/
def State.doorFollows (old : State) (s : State) (k : Nat) : State :=
  let v := s.flag (Oid.DOOR_ENABLE k)
  if v = old.flag (Oid.DOOR_ENABLE k) then s else (s.setFlag (Oid.DOOR_ENABLE k) (!v)).doorEnableApply k v

/-- A configuration set has become the active one: sub-units, sessions, the PTP instance and the CAN channels follow it, and every item is
admitted again (R79, R85, R145, R193, R259, R543). -/
def State.setTaken (old : State) (s : State) : State :=
  let s := (s.puFollow.twinFollows)
  let s := (List.range 4).foldl State.islandFollows s
  let s := (List.range 24).foldl (State.doorFollows old) s
  let s := (List.range 8).foldl (fun s c =>
    if s.nat (Oid.CAN_MODE c) = old.nat (Oid.CAN_MODE c) then s else s.canTakeMode c (s.nat (Oid.CAN_MODE c))) s
  let s := if (List.range 2).all (fun p => s.nat (Oid.PTP_ROLE p) == old.nat (Oid.PTP_ROLE p)) then s else s.roleChanged
  let s := if s.get Oid.PTP_DOMAIN = old.get Oid.PTP_DOMAIN ∧ s.get Oid.PTP_PROFILE = old.get Oid.PTP_PROFILE then s else s.instanceChanged
  (s.forTarget (s.nat Oid.FW_TARGET == 1)).keepAwake.readmitAll.recheckSessions

/-- Areas 0x10 to 0x1B and the groups of cars. A car that becomes configured after start-up has its position unit on (R79). -/
def State.apply10 (s : State) (r : ObjRow) (oid : Nat) (ix : List Nat) (v : Int) (d : List Byte) : State :=
  let n := ix.headD 0
  let k := ix.getD 1 0
  let s := match r.base with
    | 0x10010002 | 0x10010003 | 0x10010004 => (s.keep r oid d).encRescaled n
    | 0x10010010 => s.posAck n
    | 0x1001002F => s.refLanding n v.toNat
    | 0x10010031 => s.learnApply n v.toNat
    | 0x10011000 | 0x10011001 => (s.keep r oid d).rearm n k
    | 0x10011005 => if v = 1 then s.armCompare n k else s.disarmCompare n k
    | 0x10030002 => s.carCmd n v.toNat
    | 0x10030004 => s.faultAck n
    | _ => s.keep r oid d
  if r.kept = .config then s.puFollow else s

/-- Area 0x20: door channels. -/
def State.apply20 (s : State) (r : ObjRow) (oid : Nat) (ix : List Nat) (v : Int) (d : List Byte) : State :=
  let k := ix.headD 0
  match r.base with
  | 0x20000100 => s.doorEnableApply k (v != 0)
  | 0x20000300 =>
    if h : k < 24 then
      (if v = 1 then { s with testQueue := s.testQueue ++ [(.lineTest ⟨k, h⟩, 0)] } else s.mirror (.testRequest (.lineTest ⟨k, h⟩)))
    else s
  | 0x20000301 => s.dlAck k
  | 0x20000302 => s.handshake k
  | _ => s.keep r oid d

/-- Area 0x40: the control engine. LOOP_FLAGS clears the bits written 1 (R399); LOOP_CMD waits for the loop's next tick (R391). -/
def State.apply40 (s : State) (q : Rights) (r : ObjRow) (e : WEntry) (ix : List Nat) (v : Int) (d : List Byte) : State :=
  let i := ix.headD 0
  let c := ix.getD 1 0
  match r.base with
  | 0x40000000 => s.loopEnableApply c i (v != 0)
  | 0x40000003 =>
    let p : PendReq := { pos := s.acc.pos, route := .silent, ses := q.ses, req := 0, op := 0, fpr := 0, entries := [{ e with data := d }]
                         part := q.part }
    { s with acc := { s.acc with slow := s.acc.slow ++ [p] } }
  | 0x40000005 =>
    let k := Oid.LOOP_FLAGS i c
    s.setN k (s.nat k &&& (15 ^^^ (v.toNat &&& 15)))
  | 0x400000C0 => s.groupApply i d
  | _ => s.keep r e.oid d

/-- Area 0x50: metering and energy. An island is on while it has a configured channel (R79). -/
def State.apply50 (s : State) (q : Rights) (r : ObjRow) (oid : Nat) (ix : List Nat) (v : Int) (d : List Byte) : State :=
  let c := ix.headD 0
  match r.base with
  | 0x50020000 =>
    (s.keep r oid d).islandFollows (c / 12)
  | 0x50020006 => s.chCarApply c v
  | 0x50030002 => s.calReq c v.toNat
  | 0x50030003 => s.calAbort c v.toNat
  | 0x50040011 => s.regClear c q.ses
  | 0x50050000 | 0x50050001 => (s.keep r oid d).pulseConfig c
  | 0x50060000 => s.intLenApply v
  | 0x50060004 => s.setSes q.ses { s.ses q.ses with intSel := v.toNat }
  | 0x50060013 => s.energyAck
  | 0x50080005 => s.modelReset c q.ses
  | _ => s.keep r oid d

/-- Area 0x60: field I/O. -/
def State.apply60 (s : State) (r : ObjRow) (oid : Nat) (ix : List Nat) (v : Int) (d : List Byte) : State :=
  let x := ix.headD 0
  match r.base with
  | 0x60000001 => s.setOut x (v != 0)
  | 0x60010001 => s.ackGroup x
  | _ => s.keep r oid d

/-- Area 0x70: safety, but for its parameters (R537 to R546). (DESIGN CHOICE, log entry 33.) -/
def State.apply70 (s : State) (q : Rights) (r : ObjRow) (oid : Nat) (ix : List Nat) (v : Int) (d : List Byte) (salt : Option (BitVec 128)) : State :=
  let n := ix.headD 0
  let s := if r.acc = .rws then s.safetyUsed q.ses else s
  match r.base with
  | 0x70000003 => if v = 1 then (if s.commitFails then s else s.commit q.ses) else s.discardPending q.ses
  | 0x70000005 =>
    (match salt with
      | some x => s.safetyPw q.ses d x
      | none =>
        let (a, s) := s.free
        let (b, s) := s.free
        s.safetyPw q.ses d (a ++ b))
  | 0x70000006 => if s.cfgActivateFails then s else State.setTaken s (s.cfgActivate q.ses)
  | 0x70000007 => s.safetyTestReq v
  | 0x70010001 => s.sfReset n q.ses
  | 0x70030002 => s.setSes q.ses { s.ses q.ses with logSel := v.toNat }
  | _ => s.keep r oid d

/-- Areas 0x80 to 0x83: points. -/
def State.apply80 (s : State) (r : ObjRow) (e : WEntry) (p : Nat) (v : Int) (d : List Byte) : State :=
  match r.base with
  | 0x80000000 => s.ptPvApply p e.prio e.relinq v
  | 0x80000001 => s.retype p v.toNat
  | 0x80000003 => s.ptEnableApply p v
  | 0x80000004 => (s.keep r e.oid d).rechargePoint p
  | 0x80000006 => s.ptBindApply p false d
  | 0x80000007 => s.ptBindApply p true d
  | 0x80000008 => s.ptDefaultApply p v
  | 0x80000027 => s.ptServiceApply p v
  | _ => s.keep r e.oid d

/-- An object that read INTEGRITY holds a value again once it is written (R619). -/
def State.mended (s : State) (oid : Nat) : State :=
  if s.mem.badObjs.contains oid then { s with mem := { s.mem with badObjs := s.mem.badObjs.filter (· != oid) } } else s

/-- One write of one object takes effect; a safety parameter is held until it is committed (R541). -/
def State.applyObject (s : State) (q : Rights) (e : WEntry) : State :=
  let s := s.mended e.oid
  let e := s.withDefault e
  match findObject e.oid with
  | none => s
  | some (r, ix) =>
    match s.tyOf r ix with
    | none => s
    | some t =>
      let raw := writeBytes r e.oid t e.dflt e.data
      let v := maskBits r.base (t.dec raw)
      let d := if t.isBytes then raw else t.enc v
      let area := r.base / 16777216
      if safetyParam r.base then (s.safetyUsed q.ses).holdParam q.ses e.oid d
      else if area = 0x00 then s.apply00 r e.oid ix v d
      else if area = 0x01 then s.apply01 q r e.oid ix v d e.ph
      else if area = 0x08 then s.apply08 q r e.oid v d
      else if area = 0x10 then s.apply10 r e.oid ix v d
      else if area = 0x20 then s.apply20 r e.oid ix v d
      else if area = 0x40 then s.apply40 q r e ix v d
      else if area = 0x50 then s.apply50 q r e.oid ix v d
      else if area = 0x60 then s.apply60 r e.oid ix v d
      else if area = 0x70 then s.apply70 q r e.oid ix v d e.salt
      else if area = 0x7C then
        (if r.base = 0x7C000103 then s.setSes q.ses { s.ses q.ses with recSel := v.toNat } else s.keep r e.oid d)
      else if area = 0x80 then s.apply80 r e (ix.headD 0) v d
      else if r.base = 0x78000100 then (s.keep r e.oid d).twinFollows
      else s.keep r e.oid d

/-- One entry of a request takes effect: a broadcast over its members in the order of its group (R183, R185), else one object. -/
def State.applyEntry (s : State) (q : Rights) (e : WEntry) : State :=
  match s.broadcast e.oid with
  | some l => l.foldl (fun s o => s.applyObject q { e with oid := o }) s
  | none => s.applyObject q e

/-- The journal entry of a write: an accepted write to a kept configuration object, with the value it carries (R178).
(DEDUCED, log entry 55.) -/
def State.journalOf (s : State) (e : WEntry) : List WEntry :=
  let row := match s.broadcast e.oid with
    | some (o :: _) => findObject o
    | some [] => none
    | none => findObject e.oid
  match row with
  | some (r, ix) =>
    if r.kept = .config then
      match s.tyOf r ix with
      | some t => [{ oid := e.oid, data := writeBytes r e.oid t e.dflt e.data }]
      | none => []
    else []
  | none => []

end Sys2Proof.Machine
end

