-- ==== Sys2Proof/Machine/Submit.lean ====
section
/-! DEFINITION. Host writes: the checks of a whole request, its place in the order of R181 and in the mirror batch, and its commit
point (R29, R179, R181 to R186, R199, R674). -/

namespace Sys2Proof.Machine

/-- The rights under which a request was accepted. -/
def PendReq.rights (r : PendReq) : Rights := { part := r.part, ses := if r.route = .pdp then r.ses else 0xFF }

/-! ### Checks of a request -/

/-- The payload of a refusal with the position of what failed; that of NO_BUDGET stays the 12 bytes of R202 (R185, R202). -/
def Refuse.placed (r : Refuse) (w i : Nat) : Refuse := if r.st = .noBudget then r else { r with payload := leBytes w i }

/-- The members of a broadcast, each checked on the state that the members before it would leave; the first refusal and its position
(R185). -/
def State.checkMembers (s : State) (q : Rights) (e : WEntry) (place : Bool) : Nat → List Nat → Option Refuse
  | _, [] => none
  | i, o :: t =>
    match s.checkWrite q { e with oid := o } with
    | some r => some (if place then r.placed 2 i else r)
    | none => (s.applyObject q { e with oid := o }).checkMembers q e place (i + 1) t

/-- One entry of a request: a broadcast against every member, else one object (R183, R185). -/
def State.checkEntry (s : State) (q : Rights) (e : WEntry) (place : Bool) : Option Refuse :=
  match s.broadcast e.oid with
  | some l => if q.part != 0 && !s.ownObject q.part e.oid then refuse .partition else s.checkMembers q e place 0 l
  | none => s.checkWrite q e

/-- An entry of WRITE_MANY names only objects of 8 bytes or less (R199). -/
def State.smallEntry (s : State) (q : Rights) (e : WEntry) : Option Refuse :=
  let o := match s.broadcast e.oid with
    | some (m :: _) => m
    | _ => e.oid
  if q.part != 0 && !s.ownObject q.part e.oid then refuse .partition
  else
    match findObject o with
    | some (r, _) => need (!r.ty.isBytes) .type
    | none => none

/-- The entries of a request, each checked on the state that the entries before it would leave; the first refusal, and with WRITE_MANY
its position (R185, R199). (DEDUCED, log entry 70.) -/
def State.checkEntries (s : State) (q : Rights) (many : Bool) : Nat → List WEntry → Option Refuse
  | _, [] => none
  | i, e :: t =>
    match (if many then andThen (s.smallEntry q e) (s.checkEntry q e false) else s.checkEntry q e true) with
    | some r => some (if many then r.placed 1 i else r)
    | none => (s.applyEntry q e).checkEntries q many (i + 1) t

/-- The entries of a request take effect in order, each with its journal entry at once (R178, R199). -/
def State.applyEntries (s : State) (q : Rights) (l : List WEntry) : State :=
  l.foldl (fun s e =>
    let j := s.journalOf e
    let s := s.applyEntry q e
    { s with acc := { s.acc with journal := s.acc.journal ++ j } }) s

/-- The state as it will stand once every write placed before has been applied (R181, R182). -/
def State.projected (s : State) : State := s.acc.waits.foldl (fun s r => s.applyEntries r.rights r.entries) s

/-- The change journal holds the entries of a request (R179). -/
def State.journalFits (s : State) (l : List WEntry) : Bool :=
  decide (s.acc.journal.length + (l.flatMap s.journalOf).length ≤ 65536) || (l.flatMap s.journalOf).isEmpty

/-- The checks of a whole request. -/
def State.checkRequest (s : State) (r : PendReq) (many : Bool) : Option Refuse :=
  let p := s.projected
  andThen (p.checkEntries r.rights many 0 r.entries) (need (p.journalFits r.entries) .busy)

/-! ### The commit point -/

/-- The object is a loop's LOOP_CMD, or an event buffer's TXB_CTRL. -/
def isLoopCmd (oid : Nat) : Bool := (lookup oid).any (fun x => x.1.base == 0x40000003)
def isTxbCtrl (oid : Nat) : Bool := (lookup oid).any (fun x => x.1.base == 0x01780003)

/-- A cancel of an event buffer whose frame has won its arbitration (R270). -/
def cancelLate (e : WEntry) : Bool :=
  isTxbCtrl e.oid && leNat e.data == 2 && (e.ph == some .arbitrationWon || e.ph == some .pastArbitration)

/-- The status of a request at its commit point: INTEGRITY where the parameters or the set to be taken fail their check then (R542, R543),
TOO_LATE where a frame to cancel has won its arbitration (R270), BUSY where a car has left the states of R6 before SERVICE is entered. -/
def State.commitStatus (s : State) (r : PendReq) : Status :=
  if r.entries.any (fun e => (e.oid == 0x70000003 && leNat e.data == 1 && s.commitFails) || (e.oid == 0x70000006 && s.cfgActivateFails)) then .integrity
  else if r.entries.any cancelLate then .tooLate
  else if r.entries.any (fun e => e.oid == 0x00000110 && leNat e.data == 1) && s.mode == .active && !s.carsAtRest then .busy
  else .ok

/-- The session that sent a request still stands; the other routes always listen. -/
def State.listens (s : State) (r : PendReq) : Bool :=
  r.route != .pdp || (decide (2 ≤ (s.ses r.ses).state) && (s.ses r.ses).fpr == r.fpr)

/-- A LOOP_CMD by PDP is answered by the tick of its loop: the request replaces the silent one that its entry left (R41, R391). -/
def State.slowAnswer (s : State) (r : PendReq) : State :=
  { s with acc := { s.acc with slow := s.acc.slow.dropLast ++ [r] } }

/-- The request asks for a planned handover, and is answered at its end (R575, R576). -/
def PendReq.asksPlan (r : PendReq) : Bool := r.entries.any (fun e => e.oid == 0x00000120)

/-- The request is one LOOP_CMD by PDP. -/
def PendReq.loopCmd (r : PendReq) : Bool :=
  r.route == .pdp && (match r.entries with
    | [e] => isLoopCmd e.oid
    | _ => false)

/-- The final status of a request is recorded for QUERY, where it is a host write of a session (R204). -/
def State.recordFinal (s : State) (r : PendReq) (st : Nat) : State :=
  if r.route = .pdp ∧ r.entries ≠ [] then s.recordCommitted r.fpr r.req st else s

/-- How far a cancel of an event buffer finds the frame; where the request does not say, it is free (R270). (DESIGN CHOICE, log entry 32.) -/
def State.drawPhase (x : List WEntry × State) (e : WEntry) : List WEntry × State :=
  if isTxbCtrl e.oid && leNat e.data == 2 && e.ph.isNone then
    let (v, s) := x.2.free
    (x.1 ++ [{ e with ph := some (if v.getLsbD 0 then .arbitrationWon else .offBus) }], s)
  else (x.1 ++ [e], x.2)

/-- A request reaches its commit point: it is applied, journalled, recorded with its final status and answered (R204, R674). A session that the
write itself closes has its response first. (DEDUCED, log entries 69 and 74.) -/
def State.commitReq (s : State) (r : PendReq) : State :=
  let (l, s) := r.entries.foldl State.drawPhase ([], s)
  let r := { r with entries := l }
  let st := s.commitStatus r
  let t := s.applyEntries r.rights r.entries
  if r.asksPlan ∧ t.tw.plan.isSome then { t with tw := { t.tw with planReq := some r } }
  else if r.loopCmd then t.slowAnswer r
  else if t.listens r then (t.recordFinal r st.code).answer r st.code r.payload
  else if s.listens r then ((s.answer r st.code r.payload).applyEntries r.rights r.entries).recordFinal r st.code
  else t.recordFinal r st.code

/-- The waiting writes that `p` picks out reach their commit point, in order (R674). -/
def State.commitWaits (s : State) (p : PendReq → Bool) : State :=
  (s.acc.waits.filter p).foldl State.commitReq { s with acc := { s.acc with waits := s.acc.waits.filter (fun r => !p r) } }

/-! ### Acceptance -/

/-- The Write items of a request (R581). -/
def PendReq.items (r : PendReq) : List BatchItem :=
  r.entries.map (fun e => .write r.pos r.rights.ses r.req r.fpr (BitVec.ofNat 32 e.oid) e.prio e.relinq e.dflt e.data)

/-- An accepted request takes its place in the order of R181 and in the open batch, and waits for its commit point; without a healthy
standby it commits at once (R29, R674). A request for a planned handover starts it at once: its commit point is EQUINOX (R34, R575). -/
def State.enterRequest (s : State) (r : PendReq) : State :=
  let r := { r with pos := s.acc.pos }
  let s := { s with acc := { s.acc with pos := s.acc.pos + 1 } }
  if r.asksPlan ∧ r.entries.length = 1 then s.commitReq r
  else
    let s := r.items.foldl State.mirror s
    if s.tw.plan.isSome then { s with acc := { s.acc with held := s.acc.held ++ [r] } }
    else if s.healthyStandby then { s with acc := { s.acc with waits := s.acc.waits ++ [r] } }
    else s.commitReq r

/-- What a request leaves behind whether accepted or refused: the figures of a door channel's admission (R364), a refusal on an account
(R232), a full journal (R179). -/
def State.noteRequest (s : State) (r : PendReq) (x : Option Refuse) : State :=
  let judged : Bool := match x with
    | some y => y.st == .range || y.st == .noBudget || y.st == .busy
    | none => true
  let s := r.entries.foldl (fun s e =>
    match lookup e.oid with
    | some (o, ix) => if o.base = 0x20000100 ∧ leNat e.data = 1 ∧ judged then s.doorEnableNote (ix.headD 0) else s
    | none => s) s
  match x with
  | none => s
  | some y =>
    let s := match y.excess with
      | some o => s.noteRefusal o
      | none => s
    if y.st = .busy ∧ !s.projected.journalFits r.entries then s.event 0x1006 s.acc.journal.length else s

/-- A host write: a standby refuses every one (R7); else it is checked as a whole, and refused with nothing written, or entered (R181, R185,
R674). -/
def State.hostWrite (s : State) (r : PendReq) (many : Bool) : State :=
  if s.mode = .standby then s.answer r Status.standby.code []
  else
    let x := s.checkRequest r many
    let s := s.noteRequest r x
    match x with
    | some y => s.answer r y.st.code y.payload
    | none => s.enterRequest r

end Sys2Proof.Machine
end

