-- ==== Sys2Proof/Machine/Drain.lean ====
section
/-! DEFINITION. The actions that compares, launches, loops, lamps and other internal producers emit during a command: each passes the
checks of a write and takes effect before the command ends (R163, R164, R223, R330, R389). -/

namespace Sys2Proof.Machine

/-- An action comes from a compare (R605). -/
def EmitSrc.isCompare : EmitSrc → Bool
  | .compare _ _ => true
  | _ => false

/-- The value of an action as its target takes it: the low bytes of the target's size. -/
def State.emitValue (s : State) (o : Nat) (v : List Byte) : List Byte :=
  match s.targetTy o with
  | some t => (v ++ List.replicate t.size 0).take t.size
  | none => v

/-- A write of a kept object is refused for a full journal (R179, R211). -/
def State.journalFull (s : State) : State := s.event 0x1006 s.acc.journal.length

/-- One action on one object: checked as an internal write, applied, and its producer told. (DEDUCED, log entry 124.) -/
def State.emitOne (e : Emit) (s : State) (o : Nat) : State :=
  let q : Rights := { internal := true, compare := e.src.isCompare }
  let w : WEntry := { oid := o, prio := e.prio, relinq := e.relinq, data := s.emitValue o e.value }
  match s.checkObject q w with
  | some r => s.outResult e.src o (some r.st)
  | none =>
    if s.journalFits [w] then (s.applyEntries q [w]).outResult e.src o none
    else s.journalFull.outResult e.src o (some .busy)

/-- LAUNCH_LATE of a launch emitted after its bound: tag, lateness in µs, UNSYNC in HOLDOVER or FREE (R164, R170). -/
def State.noteLate (s : State) (e : Emit) : State :=
  match e.src with
  | .launch _ tag => if e.late then s.event 0x1109 tag ((s.time - e.time) / 1000) (boolNat (s.tb.status == 3 || s.tb.status == 4)) else s
  | _ => s

/-- One action takes effect; a broadcast on each of its members (R186). -/
def State.emitAction (s : State) (e : Emit) : State :=
  let s := s.noteLate e
  match s.broadcast e.oid with
  | some l => l.foldl (State.emitOne e) s
  | none => State.emitOne e s e.oid

/-- Applies the emitted actions in order, at most `k` of them: an action may emit others. (DESIGN CHOICE, log entry 125.) -/
def State.drainN : Nat → State → State
  | 0, s => s
  | k + 1, s =>
    match s.emits with
    | [] => s
    | e :: t => State.drainN k ({ s with emits := t }.emitAction e)

/-- Applies every action that the command has emitted. (DESIGN CHOICE, log entries 125 and 130.) -/
def State.drain (s : State) : State := if s.emits.isEmpty then s else State.drainN (s.emits.length + 4096) s

end Sys2Proof.Machine
end

