-- ==== Sys2Proof/Machine/Reading.lean ====
section
/-! DEFINITION. What a read of an object returns: the held register, or a value that the module computes when it is read (R173 to R175,
R199, R210). -/

namespace Sys2Proof.Machine

/-- The byte strings that the module computes when they are read, and a count that the manual leaves open. (DESIGN CHOICE, log entry 34.) -/
def State.readLow (s : State) (r : ObjRow) (ix : List Nat) : Option (State × List Byte) :=
  let i := ix.headD 0
  let e := ix.getD 1 0
  let x := s.ses i
  match r.base with
  | 0x00000603 =>
    let (v, s) := s.free
    some (s, r.ty.enc v.toNat)
  | 0x00000701 => some (s, Config.pubKey)
  | 0x00000702 => some (s, Config.idCert)
  | 0x00000704 => some (s, Config.makeCsr (s.blob Oid.ID_CSR_SUBJECT))
  | 0x01110001 => some (s, if s.blob (Oid.HOST_CA i) = [] then [] else sha256 (s.blob (Oid.HOST_CA i)))
  | 0x01400003 => some (s, leBytes 32 x.fpr.toNat)
  | 0x01700000 => some (s, s.bytesOf (Oid.RXB_STATUS i e).oid ++ s.bytesOf (Oid.RXB_ID i e).oid ++ s.bytesOf (Oid.RXB_TIME i e).oid ++ s.blob (Oid.RXB_DATA i e))
  | _ => none

/-- The selectors that are kept per session `ses`. -/
def State.readHigh (s : State) (ses : Nat) (r : ObjRow) : Option (State × List Byte) :=
  match r.base with
  | 0x50060004 => some (s, r.ty.enc (s.ses ses).intSel)
  | 0x70030002 => some (s, r.ty.enc (s.ses ses).logSel)
  | 0x7C000103 => some (s, r.ty.enc (s.ses ses).recSel)
  | _ => none

/-- A selector outside what is held, or records that read INTEGRITY (R497, R544, R619, R648). -/
def State.readSel (s : State) (ses base : Nat) : Option (Status × List Byte) :=
  let x := s.ses ses
  let pick := fun (o : Option (List Byte)) => match o with
    | some b => (Status.ok, b)
    | none => (Status.noObject, [])
  if base = 0x50060005 then
    some (if s.mem.badInts.any (fun n => decide (x.intSel ≤ n ∧ n < x.intSel + 48)) then (.integrity, []) else pick (s.intData x.intSel))
  else if base = 0x70030003 then some (pick (s.logData x.logSel))
  else if base = 0x7C000104 then some (pick (s.recData x.recSel))
  else none

/-- A tenant may read its own points and point groups, and the objects 0x0000_0100 to 0x0000_02FF (R174). -/
def State.mayRead (s : State) (part oid : Nat) : Bool := part == 0 || s.ownObject part oid || decide (0x100 ≤ oid ∧ oid ≤ 0x2FF)

/-- A sub-index of ACC_LOAD beyond the first, of an account without classes (R233). -/
def accLoadUnused (base : Nat) (ix : List Nat) : Bool := base == 0x7E000001 && !acctClassed (ix.headD 0) && ix.getD 1 0 != 0

/-- A read of an object: its status and value, and the state after it. -/
def State.read (s : State) (q : Rights) (oid : Nat) : (Status × List Byte) × State :=
  if !s.mayRead q.part oid then ((.partition, []), s)
  else if (s.broadcast oid).isSome then ((.access, []), s)
  else
    match findObject oid with
    | none => ((.noObject, []), s)
    | some (r, ix) =>
      if accLoadUnused r.base ix then ((.noObject, []), s)
      else
        match s.tyOf r ix with
        | none => ((.noObject, []), s)
        | some t =>
          let p := ix.headD 0
          if r.acc = .wo then ((.access, []), s)
          else if s.mem.badObjs.contains oid || (r.base == 0x80000000 && s.bit (Oid.PT_STATUS p) 3) then ((.integrity, []), s)
          else
            match s.readSel q.ses r.base with
            | some x => (x, s)
            | none =>
              match s.readLow r ix with
              | some (s, b) => ((.ok, b), s)
              | none =>
                match s.readHigh q.ses r with
                | some (s, b) => ((.ok, b), s)
                | none =>
                  match s.liveNum r.base ix with
                  | some v => ((.ok, r.ty.enc v), s)
                  | none => ((.ok, if r.ty = .point then t.enc (s.get ⟨oid, 0⟩) else s.bytesOf oid), s)

/-- A read of an object of 8 bytes or less, as an entry of READ_MANY: any other type answers TYPE (R199). -/
def State.readSmall (s : State) (q : Rights) (oid : Nat) : (Status × List Byte) × State :=
  if !s.mayRead q.part oid then ((.partition, []), s)
  else
    match findObject oid with
    | some (r, _) => if r.ty.isBytes then ((.type, []), s) else s.read q oid
    | none => s.read q oid

end Sys2Proof.Machine
end

