-- ==== Sys2Proof/Machine/Host.lean ====
section
/-! DEFINITION. PDP: the TLS handshake, sessions, requests and their answers, subscriptions (R187 to R205, R238 to R243). -/

namespace Sys2Proof.Machine

/-! ### The TLS handshake (R187 to R190) -/

/-- The lowest free session slot, or the lowest connection beyond the slots (R191). (DESIGN CHOICE, log entry 67.) -/
def State.freeSlot (s : State) : Option Nat := (List.range 128).find? (fun n => (s.ses n).state == 0)

/-- A handshake is refused with an alert, and recorded (R189). (DEDUCED, log entry 68.) -/
def State.tlsRefuse (s : State) (port : Nat) (fpr : BitVec 256) (code : Nat) : State :=
  (s.event 0x1003 port Status.access.code (fpr.toNat % 4294967296)).emit (.alert port code)

/-- The handshake meets the table TLS support: port 4260, TLS 1.3, a suite, a group and signature algorithms of the table, and a client
certificate (R187). -/
def tlsSupported (c : HostCert) : Bool :=
  let h := c.hello
  h.tcpPort == 4260 && h.tls13 && h.suites.any (· != .other) && h.groups.any (· != .other)
    && h.sigs.any (fun x => x == .ecdsaSecp384r1Sha384 || x == .ecdsaSecp256r1Sha256) && c.present && c.sig != .other && c.handshakeOk

/-- The certificate that the module shows: the accepted operational certificate of its own position that OPC_USE selects for PDP, else the
Amquemet certificate (R187, R631, R632). -/
def State.serverCert (s : State) : List Byte :=
  let q := s.position
  match (List.range 8).find? (fun k => s.bit (Oid.OPC_USE k q) 0 && s.nat (Oid.OPC_STATE k q) == 2) with
  | some k => s.blob (Oid.OPC_CERT k q)
  | none => Config.idCert

/-- A connection that the handshake accepts: SESS_STATE 1 where it has a slot (R189 to R191). -/
def State.tlsUp (s : State) (port : Nat) (cert : HostCert) (entry : Option Nat) (claim refused : Bool) : State :=
  match s.freeSlot with
  | none => s
  | some n =>
    let x : Session :=
      { state := 1, port := port, fpr := cert.fpr, entry := entry, anchor := cert.anchor.map (·.val), cn := cert.commonName, claim := claim
        refuseOpen := refused, cert := s.serverCert, pairAddr := s.nat (Oid.TW_PAIR_IP port) != 0 && s.drives, lastFrame := s.clk }
    let s := s.setSes n x
    if n < 64 then s.setN (Oid.SESS_STATE n) 1 else s

/-- The certificate is within its validity; while TIME_STATUS is UNSET, judged by notAfter against LAST_KNOWN_TIME (R188). -/
def State.certValid (s : State) (c : HostCert) : Bool :=
  if s.tb.status = 0 then decide (s.nat Oid.LAST_KNOWN_TIME ≤ c.notAfter.toNat)
  else decide (c.notBefore.toNat ≤ s.time ∧ s.time ≤ c.notAfter.toNat)

/-- The new active module accepts nothing on a pair address for 1 ms from EQUINOX (R573). (DEDUCED, log entry 68.) -/
def State.pairEarly (s : State) (port : Nat) : Bool :=
  s.drives && s.nat (Oid.TW_PAIR_IP port) != 0 && (match s.tw.tookAt with
    | some t => !s.passed t (ms 1)
    | none => false)

/-- A TLS handshake on a NET port (R187 to R190); one outside the table TLS support leaves no connection. (DEDUCED, log entry 68.) -/
def State.tls (s : State) (port : Nat) (c : HostCert) : State :=
  if s.pairEarly port || !s.serving || !s.runs (.netPort port) || !s.bit Oid.PDP_PORTS port || !tlsSupported c then s
  else if s.mapEmpty then
    if port = 0 ∧ s.mode = .service then
      if s.acc.sessions.any (fun (e : Nat × Session) => e.2.claim && e.2.state != 0) then s.tlsUp port c none false true
      else (s.tlsUp port c none true false).event 0x1004 (c.fpr.toNat % 2 ^ 32) (c.fpr.toNat / 2 ^ 32 % 2 ^ 32) (c.fpr.toNat / 2 ^ 64 % 2 ^ 32)
    else s.tlsRefuse port c.fpr 49
  else
    match c.anchor with
    | none => s.tlsRefuse port c.fpr 48
    | some a =>
      if s.blob (Oid.HOST_CA a.val) = [] then s.tlsRefuse port c.fpr 48
      else if !s.certValid c then s.tlsRefuse port c.fpr 45
      else
        match s.mapEntry c.fpr (some a.val) c.commonName with
        | none => s.tlsRefuse port c.fpr 49
        | some e => s.tlsUp port c (some e) false false

/-- TLS_HANDSHAKE. -/
def execTlsHandshake (port : Fin 4) (cert : HostCert) (s : State) : Answer := .next (s.start.tls port.val cert)

/-! ### Answers -/

/-- A PDP response. -/
def State.resp (s : State) (n op : Nat) (req : BitVec 32) (st : Status) (p : List Byte) : State := s.emit (.resp n op req st.code p)

/-- The PDP request as the order of R181 holds it. -/
def State.pdpReq (s : State) (n op : Nat) (req : BitVec 32) (l : List WEntry) : PendReq :=
  { pos := 0, route := .pdp, ses := n, req := req, op := op, fpr := (s.ses n).fpr, entries := l, part := (s.ses n).part }

/-- The rights of a session (R174). -/
def State.sesRights (s : State) (n : Nat) : Rights := { part := (s.ses n).part, ses := n }

/-! ### OPEN (R191, R192, R243) -/

/-- The ledger item of a session (R192), carried as class C. -/
def sesItem (n port : Nat) : Item :=
  { id := 0, kind := .session n, cls := 2, charges := [((portAcct port).getD 0, 1000000), (0x20, 2000)], port := port }

/-- The refusal of OPEN (R190, R191). (DEDUCED, log entry 66.) -/
def State.openCheck (s : State) (n part : Nat) : Option Refuse :=
  let x := s.ses n
  let open' := s.openSessions
  firstOf [need (!x.refuseOpen) .busy,
    need (if x.claim then part == 0 else (match x.entry with
      | some e => s.partOn part && decide (part < 1024) && s.entryMatches e x.fpr x.anchor x.cn && s.entryGrants e part
      | none => false)) .partition,
    need (decide (n < 64) && decide (open'.length < s.nat Oid.SESSION_MAX)
      && (match x.entry with
        | some e => decide ((open'.filter (fun (y : Nat × Session) => y.2.fpr == x.fpr)).length < s.nat (Oid.MAP_SESSIONS e))
        | none => true)) .busy,
    s.admits (fun _ => false) [sesItem n x.port]]

/-- The item of a subscription. -/
def isSubItem (h : Nat) (i : Item) : Bool := i.kind == .subscription h

/-- One subscription that a new session takes over: charged again on its port, degraded where it does not pass, RESYNC due (R243). -/
def State.takeOver (n port : Nat) (s : State) (x : Sub) : State :=
  let s := { s with pts := { s.pts with
    subs := s.pts.subs.map (fun (y : Sub) => if y.handle = x.handle then { y with ses := some n, port := port, resync := true } else y) } }
  (s.dropItems (isSubItem x.handle)).readmit (s.subItem x.handle x.cls x.minInt port)

/-- Subscriptions that wait for a host and partition to come back within 30 s (R243). -/
def State.waitingSubs (s : State) (fpr : BitVec 256) (part : Nat) : List Sub :=
  s.pts.subs.filter (fun (y : Sub) => y.ses.isNone && !y.bacnet && y.fpr == fpr && y.part == part && !s.passed y.closedAt (sec 30))

/-- A session opens (R191, R192, R243). (DEDUCED, log entry 66.) -/
def State.sesOpen (s : State) (n part : Nat) : State :=
  let x := s.ses n
  let s := (s.setSes n { x with state := 2, part := part, opened := s.time }).setN (Oid.SESS_STATE n) 2
  let s := (s.addItem (sesItem n x.port)).event 0x1001 n part x.port
  (s.waitingSubs x.fpr part).foldl (State.takeOver n x.port) s

/-- OPEN: refused, with its connection closed, or opened; the answer follows R29 as an admission. (DEDUCED, log entry 66.) -/
def State.serveOpen (s : State) (n op : Nat) (req : BitVec 32) (part : Nat) : State :=
  let x := s.ses n
  match s.openCheck n part with
  | some r =>
    let s := match r.excess with
      | some o => s.noteRefusal o
      | none => s
    ((s.event 0x1003 x.port r.st.code (x.fpr.toNat % 4294967296)).resp n op req r.st r.payload).dropSes n
  | none =>
    let s := s.sesOpen n part
    let p := leBytes 1 n ++ leBytes 1 s.mode.code ++ leBytes 1 s.position ++ [0] ++ leBytes 8 s.time
    s.enterRequest { s.pdpReq n op req [] with payload := p }

/-! ### READ_MANY and QUERY -/

/-- The entries of a READ_MANY response, in order (R198, R199). -/
def State.readMany (s : State) (q : Rights) : List Nat → List Byte × State
  | [] => ([], s)
  | o :: t =>
    let ((st, v), s) := s.readSmall q o
    let (b, s) := s.readMany q t
    (leBytes 4 o ++ leBytes 1 st.code ++ leBytes 1 v.length ++ [0, 0] ++ v ++ b, s)

/-- The recorded status of a host's committed write (R204). -/
def State.queryStatus (s : State) (fpr : BitVec 256) (req : BitVec 32) : Option Nat :=
  (s.acc.committed.find? (fun (c : Committed) => c.fpr == fpr && c.req == req && !s.passed c.atNs (sec 600))).map (·.status)

/-! ### Subscriptions (R238 to R243) -/

/-- One entry of SUBSCRIBE (R239, R676). -/
def State.subCheck (s : State) (q : Rights) (e : SubEntry) : Option Refuse :=
  let oid := 0x80000000 + e.point * 256
  firstOf [need (q.part == 0 || (decide (e.point < 262144) && s.ownObject q.part oid)) .partition,
    need (decide (e.point < 262144) && s.ptType e.point != 0) .noObject,
    need (e.sub == 0 || e.sub == 5) .range, need (e.cls == 2 || e.cls == 3) .range,
    need (decide (10 ≤ e.minInt ∧ e.minInt ≤ 3600000)) .range, need (!realSpecial e.inc) .range]

/-- The first entry that fails, with its position (R239). -/
def State.subsCheck (s : State) (q : Rights) : Nat → List SubEntry → Option Refuse
  | _, [] => none
  | i, e :: t =>
    match s.subCheck q e with
    | some r => some { r with payload := leBytes 2 i }
    | none => s.subsCheck q (i + 1) t

/-- The items of a SUBSCRIBE (R228). -/
def State.subItems (s : State) (port h : Nat) (l : List SubEntry) : List Item :=
  (l.zipIdx).map (fun (e, i) => s.subItem (h + i) e.cls e.minInt port)

/-- A subscription as the mirror carries it (R243, R581). -/
def Sub.item (x : Sub) : BatchItem :=
  .subscribe x.handle x.part x.fpr x.point x.sub x.cls x.minInt x.inc x.life x.port x.bacnet

/-- A subscription is held (R241). -/
def State.addSub (s : State) (x : Sub) : State :=
  let x := { x with handle := s.pts.nextHandle }
  ({ s with pts := { s.pts with subs := s.pts.subs ++ [x], nextHandle := s.pts.nextHandle % 4294967295 + 1 } }.addItem
    (s.subItem x.handle x.cls x.minInt x.port)).mirror x.item

/-- The refusal of a SUBSCRIBE as a whole (R7, R238, R239). (DEDUCED, log entry 72.) -/
def State.subscribeCheck (s : State) (n : Nat) (l : List SubEntry) : Option Refuse :=
  firstOf [need (s.mode != .standby) .standby, need (decide (l.length ≤ 2048)) .range, s.subsCheck (s.sesRights n) 0 l,
    need (decide (s.pts.subs.length + l.length ≤ 131072)) .busy,
    s.admits (fun _ => false) (s.subItems (s.ses n).port s.pts.nextHandle l)]

/-- SUBSCRIBE: all or nothing, one handle an entry (R239). (DEDUCED, log entry 72.) -/
def State.subscribe (s : State) (n op : Nat) (req : BitVec 32) (l : List SubEntry) : State :=
  let x := s.ses n
  match s.subscribeCheck n l with
  | some r =>
    (match r.excess with
      | some o => s.noteRefusal o
      | none => s).resp n op req r.st r.payload
  | none =>
    let h := s.pts.nextHandle
    let s := l.foldl (fun s e => s.addSub
      { handle := 0, part := x.part, fpr := x.fpr, point := e.point, sub := e.sub, cls := e.cls, minInt := e.minInt, inc := e.inc, life := e.life
        atNs := s.clk, ses := some n, port := x.port }) s
    let p := (List.range l.length).flatMap (fun i => leBytes 4 ((h + i - 1) % 4294967295 + 1))
    s.enterRequest { s.pdpReq n op req [] with payload := p }

/-- A subscription is removed; its charge is free at once (R242). -/
def State.removeSub (s : State) (h : Nat) : State :=
  ({ s with pts := { s.pts with subs := s.pts.subs.filter (fun (x : Sub) => x.handle != h) } }.dropItems (isSubItem h)).mirror (.unsubscribe h)

/-- Subscriptions that end by themselves are removed and recorded: how many, and the first four bytes of the certificate's fingerprint
(R243, R256). -/
def State.endSubs (s : State) (fpr : BitVec 256) (l : List Nat) : State :=
  (l.foldl State.removeSub s).event 0x0F07 l.length ((fpr.toNat % 4294967296))

/-- UNSUBSCRIBE: all or nothing (R242). (DEDUCED, log entry 72.) -/
def State.unsubscribe (s : State) (n op : Nat) (req : BitVec 32) (l : List Nat) : State :=
  let held := fun h => s.pts.subs.any (fun (x : Sub) => x.handle == h && x.ses == some n)
  if s.mode = .standby then s.resp n op req .standby []
  else if 2048 < l.length then s.resp n op req .range []
  else
    match (l.zipIdx).find? (fun e => !held e.1) with
    | some e => s.resp n op req .noObject (leBytes 2 e.2)
    | none => (l.foldl State.removeSub s).enterRequest (s.pdpReq n op req [])

/-- The COV increment of a subscription: 0.0 uses the point's (R239). -/
def State.covInc (s : State) (x : Sub) : Nat := if realNum x.inc = 0 then s.nat (Oid.PT_COV_INCREMENT x.point) else x.inc

/-- A change is to be notified: of STATUS, or of a value by the COV increment or more (R240). -/
def State.notable (s : State) (x : Sub) : Bool :=
  let v := s.get (Oid.PT_PV x.point)
  let st := s.nat (Oid.PT_STATUS x.point)
  st != x.lastStatus || (decide (0 < x.changes) && (x.sub == 5 || !decide (s.ptType x.point ≤ 3)
    || decide (realNum (realAbs (s.covInc x)) ≤ ((realNum v.toNat - realNum x.lastVal.toNat).natAbs : Int))))

/-- CHANGE_TIME of a notification: the last change of STATUS where STATUS is what changed, else that of PV (R240). -/
def State.changeTime (s : State) (x : Sub) : Nat :=
  if x.sub = 5 ∨ s.get (Oid.PT_PV x.point) = x.lastVal ∧ s.nat (Oid.PT_STATUS x.point) ≠ x.lastStatus then (s.ptAux x.point).statusAt
  else s.nat (Oid.PT_LAST_CHANGE x.point)

/-- The payload of a notification (R240). -/
def State.notifyPayload (s : State) (x : Sub) : List Byte :=
  let p := x.point
  let st := s.nat (Oid.PT_STATUS p)
  let t := match pointTy (s.ptType p) with
    | some t => t
    | none => .u8
  let v := if x.sub = 5 then leBytes 1 st else t.enc (s.get (Oid.PT_PV p))
  let flags := boolNat x.resync + 2 * boolNat (decide (1 < x.changes))
  v ++ List.replicate (8 - v.length) 0 ++ leBytes 8 (s.changeTime x) ++ leBytes 1 v.length ++ leBytes 1 flags ++ leBytes 1 st
    ++ leBytes 1 x.sub ++ leBytes 4 p

/-- The subscription after a notification, and where no notification is due for the change. -/
def State.notified (s : State) (x : Sub) (sent : Bool) : State :=
  let y : Sub :=
    if sent then
      { x with lastVal := s.get (Oid.PT_PV x.point), lastStatus := s.nat (Oid.PT_STATUS x.point), lastSent := s.clk, resync := false, changes := 0 }
    else { x with changes := 0 }
  { s with pts := { s.pts with subs := s.pts.subs.map (fun (z : Sub) => if z.handle = x.handle then y else z) } }

/-- The duration of a DeviceCommunicationControl has ended (R246). -/
def State.dccOver (s : State) : Bool := s.pts.dccUntil != 0 && decide (s.pts.dccUntil ≤ s.clk)

/-- A notification falls due: RESYNC at once, a change no sooner than MIN_INTERVAL after the last (R241); a standby sends none (R244). -/
def State.notify (s : State) (h : Nat) : State :=
  match s.pts.subs.find? (fun (x : Sub) => x.handle == h) with
  | none => s
  | some x =>
    match (if x.bacnet then some 0 else x.ses) with
    | none => s
    | some n =>
      if !s.serving || s.mode == .standby || (x.bacnet && (s.pts.dccDisabled || s.pts.dccNoInit) && !s.dccOver) then s
      else if !x.resync && x.changes = 0 && s.nat (Oid.PT_STATUS x.point) == x.lastStatus then s
      else if x.resync || s.notable x then
        let s := if x.resync then s else s.reach (x.lastSent + ms x.minInt)
        let out := s.notifyPayload x
        (s.notified x true).emit (if x.bacnet then .bacnet h none out else .notify n h out)
      else s.notified x false

/-- NOTIFY. -/
def execNotify (handle : Nat) (s : State) : Answer := .next (s.start.notify handle)

/-- The subscriptions that wait for a take-over since the same session closed (R243). -/
def State.heldWith (s : State) (x : Sub) : List Nat :=
  (s.pts.subs.filter (fun (y : Sub) => y.ses.isNone && !y.bacnet && y.fpr == x.fpr && y.part == x.part && y.closedAt == x.closedAt)).map (·.handle)

/-- SUBSCRIPTION_HOLD_EXPIRY: 30 s after its session closed, the subscriptions that no session has taken over are removed (R243, R256). -/
def execSubscriptionHoldExpiry (handle : Nat) (s : State) : Answer :=
  let s := s.start
  .next (match s.pts.subs.find? (fun (x : Sub) => x.handle == handle) with
    | some x => if x.ses.isNone ∧ !x.bacnet ∧ s.serving then (s.reach (x.closedAt + sec 30)).endSubs x.fpr (s.heldWith x) else s
    | none => s)

/-- SUBSCRIPTION_LIFETIME_EXPIRY: a subscription whose LIFETIME ends is removed (R243, R256). -/
def execSubscriptionLifetimeExpiry (handle : Nat) (s : State) : Answer :=
  let s := s.start
  .next (match s.pts.subs.find? (fun (x : Sub) => x.handle == handle) with
    | some x => if x.life ≠ 0 ∧ s.serving then (s.reach (x.atNs + sec x.life)).endSubs x.fpr [handle] else s
    | none => s)

/-! ### ABORT (R200, R576, R674) -/

/-- The requests held at step 1 of a planned handover go on, in order: a request that a sent batch carries waits for its CONFIRM, or
commits without a healthy standby (R575, R576). -/
def State.heldProceed (s : State) : State :=
  let l := s.acc.held
  let s := { s with acc := { s.acc with held := [], waits := s.acc.waits ++ l }, tw := { s.tw with plan := none, planReq := none } }
  if s.healthyStandby then s else s.commitWaits (fun _ => true)

/-- The Write items of a request leave the batch that is open; true where they were in it. -/
def State.unbatch (s : State) (r : PendReq) : State :=
  { s with tw := { s.tw with openBatch := s.tw.openBatch.filter (fun b => match b with
    | .write p _ _ _ _ _ _ _ _ => p != r.pos
    | _ => true) } }

/-- An ABORT of a write before its commit point: with its batch sent, a Withdraw item follows and the answer waits for its CONFIRM
(R674). -/
def State.withdraw (s : State) (n op : Nat) (req victim : BitVec 32) (r : PendReq) : State :=
  let s := { s with acc := { s.acc with waits := s.acc.waits.filter (· != r), held := s.acc.held.filter (· != r) } }
  match r.gen with
  | none => (s.unbatch r).resp n op req .ok []
  | some _ =>
    let s := s.mirror (.withdraw r.fpr victim)
    { s with acc := { s.acc with aborts := s.acc.aborts ++ [{ ses := n, req := req, fpr := r.fpr, victim := victim }] } }

/-- ABORT of a request for a planned handover: before the release it is cancelled; after the release and before EQUINOX it goes to the
standby (R576). -/
def State.abortPlan (s : State) (n op : Nat) (req : BitVec 32) : State :=
  if s.tw.plan.isSome then ((s.heldProceed.event 0x060F 0).resp n op req .ok [])
  else if s.tw.released.isSome ∧ s.mode = .standby ∧ !s.activeIn then
    { s with tw := { s.tw with abortHo := some (n, req) } }.emit (.twin 0x08 s.tw.gen [])
  else s.resp n op req .tooLate []

/-- ABORT of the request with a REQ_ID of the session (R200). (DEDUCED, log entry 71.) -/
def State.abort (s : State) (n op : Nat) (req victim : BitVec 32) : State :=
  let mine := fun (r : PendReq) => r.route == .pdp && r.ses == n && r.req == victim
  match (s.acc.waits ++ s.acc.held).find? mine with
  | some r => if r.entries = [] then s.resp n op req .tooLate [] else s.withdraw n op req victim r
  | none =>
    if s.tw.planReq.any mine then s.abortPlan n op req
    else if s.acc.later.any (fun (r : LaterReq) => r.ses == n && r.req == victim) then
      { s with acc := { s.acc with later := s.acc.later.filter (fun (r : LaterReq) => !(r.ses == n && r.req == victim)) } }.resp n op req .ok []
    else if s.acc.slow.any mine then s.resp n op req .tooLate []
    else s.resp n op req .noObject []

/-! ### One request -/

/-- An operation carried out in an open session (R198 to R204). -/
def State.serve (s : State) (n op : Nat) (req : BitVec 32) (what : PdpReq) : State :=
  let q := s.sesRights n
  match what with
  | .openSes _ => s.resp n op req .busy []
  | .closeSes => (s.resp n op req .ok []).closeSes n 0
  | .ping => s.resp n op req .ok (leBytes 8 s.time)
  | .read oid =>
    let ((st, v), s) := s.read q oid
    s.resp n op req st v
  | .write e => s.hostWrite (s.pdpReq n op req [e]) false
  | .readMany l =>
    if 64 < l.length then s.resp n op req .range []
    else
      let (b, s) := s.readMany q l
      s.resp n op req .ok b
  | .writeMany l => if 64 < l.length ∧ s.mode ≠ .standby then s.resp n op req .range [] else s.hostWrite (s.pdpReq n op req l) true
  | .abort v => s.abort n op req v
  | .query v =>
    (match s.queryStatus (s.ses n).fpr v with
      | some st => s.resp n op req .ok (leBytes 1 st ++ [0, 0, 0])
      | none => s.resp n op req .noObject [])
  | .subscribe l => s.subscribe n op req l
  | .unsubscribe l => s.unsubscribe n op req l
  | .safetyOpen pw salt =>
    let (r, s) := s.safetyOpen n pw salt
    (match r with
      | some x => s.resp n op req x.st x.payload
      | none => s.resp n op req .ok [])
  | .safetyClose => (s.safetyEnd n).resp n op req .ok []
  | .unknown => s.resp n op req .range []

/-- Requests of a session without a response (R197). (DEDUCED, log entry 71.) -/
def State.outstanding (s : State) (n : Nat) : Nat :=
  ((s.acc.waits ++ s.acc.held ++ s.acc.slow ++ s.tw.planReq.toList).filter (fun r => r.route == .pdp && r.ses == n)).length
    + (s.acc.later.filter (fun (r : LaterReq) => r.ses == n)).length + (s.acc.aborts.filter (fun r => r.ses == n)).length

/-- A LOOP_CMD of a session has not taken effect yet: it waits for its commit point, or for its loop's tick (R182, R391). -/
def State.cmdWaits (s : State) (n : Nat) : Bool :=
  s.acc.slow.any (fun r => r.ses == n)
    || (s.acc.waits ++ s.acc.held).any (fun r => r.route == .pdp && r.ses == n && r.entries.any (fun e => isLoopCmd e.oid))

/-- A write of a session waits for its commit point, or a planned handover for its end (R182, R575). -/
def State.writeWaits (s : State) (n : Nat) : Bool :=
  (s.acc.waits ++ s.acc.held ++ s.tw.planReq.toList).any (fun r => r.route == .pdp && r.ses == n)

/-- A request waits behind an earlier one of its session: a write behind a LOOP_CMD that waits and behind those that wait themselves, as it takes
its place after the other writes in the order of R181; an ABORT behind none (R181, R182, R200). (DEDUCED, log entry 71.) -/
def State.behind (s : State) (n : Nat) (what : PdpReq) : Bool :=
  let later := s.acc.later.any (fun (r : LaterReq) => r.ses == n)
  match what with
  | .abort _ => false
  | .write _ | .writeMany _ => later || s.cmdWaits n
  | _ => later || s.cmdWaits n || s.writeWaits n

/-- A request arrives on a connection (R191, R196, R197). (DESIGN CHOICE, log entry 130.) -/
def State.request (s : State) (n op : Nat) (req : BitVec 32) (what : PdpReq) : State :=
  let x := s.ses n
  if !s.serving ∨ x.state = 0 then s
  else
    let s := s.setSes n { x with lastFrame := s.clk }
    if x.state = 1 then
      (match what with
        | .openSes p => s.serveOpen n op req p
        | _ => s.resp n op req .access [])
    else if 32 ≤ s.outstanding n then s.resp n op req .busy []
    else if s.behind n what then { s with acc := { s.acc with later := s.acc.later ++ [{ ses := n, req := req, op := op, what := what }] } }
    else s.serve n op req what

/-- The waiting requests that may now go on, oldest first, at most `k` of them (R182). -/
def State.runLater : Nat → State → State
  | 0, s => s
  | k + 1, s =>
    match s.acc.later.find? (fun (r : LaterReq) => !(s.cmdWaits r.ses || s.writeWaits r.ses)) with
    | none => s
    | some r =>
      let s := { s with acc := { s.acc with later := s.acc.later.filter (· != r) } }
      State.runLater k (if decide (2 ≤ (s.ses r.ses).state) then s.serve r.ses r.op r.req r.what else s)

/-- Every waiting request that may go on does so. (DEDUCED, log entry 74.) -/
def State.resume (s : State) : State := State.runLater s.acc.later.length s

/-! ### Frames (R195, R196) -/

/-- The entries of a WRITE_MANY payload; none where it ends inside one (R198). -/
def manyEntries : Nat → List Byte → Option (List WEntry)
  | 0, _ => some []
  | k + 1, b =>
    if b = [] then some []
    else
      let n := leNat ((b.drop 5).take 1)
      if b.length < 8 + n then none
      else
        match manyEntries k (b.drop (8 + n)) with
        | some l => some ({ oid := leNat (b.take 4), prio := leNat ((b.drop 4).take 1), data := (b.drop 8).take n } :: l)
        | none => none

/-- One entry of SUBSCRIBE (R239). -/
def subEntry (b : List Byte) : SubEntry :=
  let v := leNat b
  { point := field v 159 128, sub := field v 127 120, cls := field v 119 112, minInt := field v 95 64, inc := field v 63 32, life := field v 31 0 }

/-- A payload in pieces of `k` bytes. -/
def pieces (k : Nat) (b : List Byte) : List (List Byte) := (List.range (b.length / k)).map (fun i => (b.drop (k * i)).take k)

/-- What a frame asks; none where its payload is shorter than its operation requires (R196, R198). NOTIFY, which only the module sends, is no
operation of a host; the flags RELINQUISH and DEFAULT count on WRITE alone. (DEDUCED, log entry 73; DESIGN CHOICE, log entry 139.) -/
def frameReq (f : Frame) (salt : BitVec 128) : Option PdpReq :=
  let p := f.payload
  let n := p.length
  let u32 := fun (i : Nat) => leNat ((p.drop i).take 4)
  let op := f.op.toNat
  if op = 0x01 then (if n < 4 then none else some (.openSes (leNat (p.take 2))))
  else if op = 0x02 then some .closeSes
  else if op = 0x03 then some .ping
  else if op = 0x10 then (if n < 4 then none else some (.read (u32 0)))
  else if op = 0x11 then
    (if n < 8 then none
     else some (.write { oid := u32 0, prio := leNat ((p.drop 4).take 1), relinq := f.flags.getLsbD 1, dflt := f.flags.getLsbD 2, data := p.drop 8 }))
  else if op = 0x12 then (if n < 4 ∨ n % 4 ≠ 0 then none else some (.readMany ((pieces 4 p).map leNat)))
  else if op = 0x13 then (if n < 8 then none else (manyEntries n p).map .writeMany)
  else if op = 0x14 then (if n < 4 then none else some (.abort (BitVec.ofNat 32 (u32 0))))
  else if op = 0x15 then (if n < 4 then none else some (.query (BitVec.ofNat 32 (u32 0))))
  else if op = 0x20 then (if n < 20 ∨ n % 20 ≠ 0 then none else some (.subscribe ((pieces 20 p).map subEntry)))
  else if op = 0x21 then (if n < 4 ∨ n % 4 ≠ 0 then none else some (.unsubscribe ((pieces 4 p).map leNat)))
  else if op = 0x30 then (if n < 8 then none else some (.safetyOpen p salt))
  else if op = 0x31 then some .safetyClose
  else some .unknown

/-- A frame that breaks the framing rules of its header (R196). (DEDUCED, log entry 73.) -/
def frameBroken (f : Frame) : Bool :=
  f.magic != 0x4450 || f.version != 1 || decide (69632 < f.length.toNat) || (f.flags &&& 0xF8) != 0

/-- A frame arrives on a connection (R195, R196): a broken one is recorded and the connection closed without a response. -/
def State.frame (s : State) (n : Nat) (f : Frame) (salt : BitVec 128) : State :=
  if !s.serving ∨ (s.ses n).state = 0 then s
  else
    let what := if frameBroken f then none else frameReq f salt
    match what with
    | none => (s.event 0x1005 n f.op.toNat f.length.toNat).closeSes n 2
    | some w => s.request n f.op.toNat f.reqId w

/-- A frame as an answer; the actions that its effect emits follow. (DEDUCED, log entry 73.) -/
def State.frameAnswer (s : State) (n : Nat) (f : Frame) : Answer := .next (s.start.frame n f 0).drain

/-- OPEN. -/
def execOpenSession (ses : Fin 128) (f : Frame) (s : State) : Answer := s.frameAnswer ses.val f

/-- CLOSE. -/
def execCloseSession (ses : Fin 64) (f : Frame) (s : State) : Answer := s.frameAnswer ses.val f

/-- PING. -/
def execPing (ses : Fin 64) (f : Frame) (s : State) : Answer := s.frameAnswer ses.val f

/-- READ. -/
def execReadObject (ses : Fin 64) (f : Frame) (s : State) : Answer := s.frameAnswer ses.val f

/-- WRITE. -/
def execWriteObject (ses : Fin 64) (f : Frame) (s : State) : Answer := s.frameAnswer ses.val f

/-- READ_MANY. -/
def execReadMany (ses : Fin 64) (f : Frame) (s : State) : Answer := s.frameAnswer ses.val f

/-- WRITE_MANY. -/
def execWriteMany (ses : Fin 64) (f : Frame) (s : State) : Answer := s.frameAnswer ses.val f

/-- ABORT. -/
def execAbortRequest (ses : Fin 64) (f : Frame) (s : State) : Answer := s.frameAnswer ses.val f

/-- QUERY. -/
def execQuery (ses : Fin 64) (f : Frame) (s : State) : Answer := s.frameAnswer ses.val f

/-- SUBSCRIBE. -/
def execSubscribe (ses : Fin 64) (f : Frame) (s : State) : Answer := s.frameAnswer ses.val f

/-- UNSUBSCRIBE. -/
def execUnsubscribe (ses : Fin 64) (f : Frame) (s : State) : Answer := s.frameAnswer ses.val f

/-- SAFETY_OPEN, with the random salt that a first password is stored under (R537, R538). -/
def execSafetyOpen (ses : Fin 64) (f : Frame) (salt : BitVec 128) (s : State) : Answer := .next (s.start.frame ses.val f salt).drain

/-- SAFETY_CLOSE. -/
def execSafetyClose (ses : Fin 64) (f : Frame) (s : State) : Answer := s.frameAnswer ses.val f

/-- SESSION_IDLE_TIMEOUT: no frame for SESSION_IDLE closes the session (R193). -/
def execSessionIdleTimeout (ses : Fin 64) (s : State) : Answer :=
  let s := s.start
  let x := s.ses ses.val
  .next (if !s.serving ∨ x.state = 0 then s else (s.reach (x.lastFrame + sec (s.nat Oid.SESSION_IDLE))).closeSes ses.val 1)

end Sys2Proof.Machine
end

