-- ==== Sys2Proof/Machine/HostRows.lean ====
section
/-! DEFINITION. The rows of single objects that a host writes: each is a WRITE request of one object in an open session, checked, placed in the
order of R181 and carried out at its commit point as every host write (R174, R181, R674). -/

namespace Sys2Proof.Machine

/-- A WRITE of one object in a session; the actions that its effect emits follow (R198, R674). (DESIGN CHOICE, log entry 130.) -/
def State.hostRow (s : State) (n : Nat) (req : BitVec 32) (e : WEntry) : State := ((s.start).request n 0x11 req (.write e)).drain

/-- MODULE_STATE_REQ_SERVICE: MODULE_STATE_REQ written with 1 (R6, R41). -/
def execModuleStateReqService (ses : Fin 64) (req : BitVec 32) (s : State) : Answer :=
  .next (s.hostRow ses.val req { oid := Oid.MODULE_STATE_REQ.oid, data := [1] })

/-- MODULE_STATE_REQ_ACTIVE: MODULE_STATE_REQ written with 3 (R37, R41). -/
def execModuleStateReqActive (ses : Fin 64) (req : BitVec 32) (s : State) : Answer :=
  .next (s.hostRow ses.val req { oid := Oid.MODULE_STATE_REQ.oid, data := [3] })

/-- HANDOVER_REQ written with 1 (R41, R575). -/
def execHandoverReq (ses : Fin 64) (req : BitVec 32) (s : State) : Answer :=
  .next (s.hostRow ses.val req { oid := Oid.HANDOVER_REQ.oid, data := [1] })

/-- LAUNCH_SUBMIT (R159). -/
def execLaunchSubmit (ses : Fin 64) (req : BitVec 32) (data : List Byte) (s : State) : Answer :=
  .next (s.hostRow ses.val req { oid := 0x08001000, data := data })

/-- LAUNCH_CANCEL (R162). -/
def execLaunchCancel (ses : Fin 64) (req : BitVec 32) (tag : BitVec 32) (s : State) : Answer :=
  .next (s.hostRow ses.val req { oid := 0x08001001, data := (leBytes 4 tag.toNat) })

/-- RESET_REQ written with 1 (R114, R122). -/
def execResetReqCold (ses : Fin 64) (req : BitVec 32) (s : State) : Answer :=
  .next (s.hostRow ses.val req { oid := 0x00000502, data := [1] })

/-- RESET_REQ written with 2 (R114, R122). -/
def execResetReqWarm (ses : Fin 64) (req : BitVec 32) (s : State) : Answer :=
  .next (s.hostRow ses.val req { oid := 0x00000502, data := [2] })

/-- RESET_REQ written with 3 (R114, R122). -/
def execResetReqCore (ses : Fin 64) (req : BitVec 32) (s : State) : Answer :=
  .next (s.hostRow ses.val req { oid := 0x00000502, data := [3] })

/-- BLOCK_RST (R127, R128). -/
def execBlockRst (ses : Fin 64) (req : BitVec 32) (v : BitVec 64) (s : State) : Answer :=
  .next (s.hostRow ses.val req { oid := 0x00000520, data := (leBytes 8 v.toNat) })

/-- TIME_STEP_REQ written with 1 (R150). -/
def execTimeStepReq (ses : Fin 64) (req : BitVec 32) (s : State) : Answer :=
  .next (s.hostRow ses.val req { oid := Oid.TIME_STEP_REQ.oid, data := [1] })

/-- TIME_SET (R152). -/
def execTimeSet (ses : Fin 64) (req : BitVec 32) (t : BitVec 64) (s : State) : Answer :=
  .next (s.hostRow ses.val req { oid := Oid.TIME_SET.oid, data := (leBytes 8 t.toNat) })

/-- SESS_CLOSE (R193, R210). -/
def execSessClose (ses : Fin 64) (req : BitVec 32) (target : Fin 64) (v : Byte) (s : State) : Answer :=
  .next (s.hostRow ses.val req { oid := (0x01400005 + target.val * 256), data := [v] })

/-- BROADCAST_WRITE: a write of a broadcast OID (R183, R185). -/
def execBroadcastWrite (ses : Fin 64) (req : BitVec 32) (oid : BitVec 32) (prio : Byte) (val : List Byte) (s : State) : Answer :=
  .next (s.hostRow ses.val req { oid := oid.toNat, prio := prio.toNat, data := val })

/-- REGISTER_WRITE: a write of any object (R12, R172, R177). -/
def execRegisterWrite (ses : Fin 64) (req : BitVec 32) (oid : BitVec 32) (prio : Byte) (val : List Byte) (s : State) : Answer :=
  .next (s.hostRow ses.val req { oid := oid.toNat, prio := prio.toNat, data := val })

/-- POINT_ENABLE (R212, R228). -/
def execPointEnable (ses : Fin 64) (req : BitVec 32) (p : Fin 262144) (v : Byte) (s : State) : Answer :=
  .next (s.hostRow ses.val req { oid := (Oid.PT_ENABLE p.val).oid, data := [v] })

/-- POINT_TYPE_WRITE (R215, R676). -/
def execPointTypeWrite (ses : Fin 64) (req : BitVec 32) (p : Fin 262144) (v : Byte) (s : State) : Answer :=
  .next (s.hostRow ses.val req { oid := (Oid.PT_TYPE p.val).oid, data := [v] })

/-- BINDING_WRITE (R221, R222, R227). -/
def execBindingWrite (ses : Fin 64) (req : BitVec 32) (p : Fin 262144) (sink : Bool) (b : List Byte) (s : State) : Answer :=
  .next (s.hostRow ses.val req { oid := (if sink then (Oid.PT_SINK p.val).oid else (Oid.PT_SOURCE p.val).oid), data := b })

/-- CAN_BUSOFF_REQ (R262). -/
def execCanBusoffReq (ses : Fin 64) (req : BitVec 32) (c : Fin 8) (v : Byte) (s : State) : Answer :=
  .next (s.hostRow ses.val req { oid := (0x01300009 + c.val * 256), data := [v] })

/-- TXB_REQUEST: TXB_CTRL written with 1 (R267). -/
def execTxbRequest (ses : Fin 64) (req : BitVec 32) (c : Fin 8) (t : Fin 64) (s : State) : Answer :=
  .next (s.hostRow ses.val req { oid := (0x01780003 + c.val * 65536 + t.val * 256), data := [1] })

/-- TXB_CANCEL: TXB_CTRL written with 2 (R270). -/
def execTxbCancel (ses : Fin 64) (req : BitVec 32) (c : Fin 8) (t : Fin 64) (ph : TxPhase) (s : State) : Answer :=
  .next (s.hostRow ses.val req { oid := 0x01780003 + c.val * 65536 + t.val * 256, data := [2], ph := some ph })

/-- RXB_ACK (R266). -/
def execRxbAck (ses : Fin 64) (req : BitVec 32) (c : Fin 8) (b : Fin 256) (v : Byte) (s : State) : Answer :=
  .next (s.hostRow ses.val req { oid := (0x01700006 + c.val * 65536 + b.val * 256), data := [v] })

/-- ENT_DESC (R275 to R280). -/
def execEntDesc (ses : Fin 64) (req : BitVec 32) (c : Fin 8) (e : Fin 256) (d : List Byte) (s : State) : Answer :=
  .next (s.hostRow ses.val req { oid := (Oid.ENT_DESC c.val e.val).oid, data := d })

/-- ENT_ACK (R285). -/
def execEntAck (ses : Fin 64) (req : BitVec 32) (c : Fin 8) (e : Fin 256) (v : Byte) (s : State) : Answer :=
  .next (s.hostRow ses.val req { oid := (0x01600004 + c.val * 65536 + e.val * 256), data := [v] })

/-- CAN_MODE (R259). -/
def execCanMode (ses : Fin 64) (req : BitVec 32) (c : Fin 8) (v : Byte) (s : State) : Answer :=
  .next (s.hostRow ses.val req { oid := (Oid.CAN_MODE c.val).oid, data := [v] })

/-- POS_ACK (R306). -/
def execPosAck (ses : Fin 64) (req : BitVec 32) (n : Fin 12) (v : Byte) (s : State) : Answer :=
  .next (s.hostRow ses.val req { oid := (0x10010010 + n.val * 0x1000000), data := [v] })

/-- REF_LANDING (R320). -/
def execRefLanding (ses : Fin 64) (req : BitVec 32) (n : Fin 12) (v : Byte) (s : State) : Answer :=
  .next (s.hostRow ses.val req { oid := (0x1001002F + n.val * 0x1000000), data := [v] })

/-- LEARN_UP: LEARN written with 1 (R327). -/
def execLearnUp (ses : Fin 64) (req : BitVec 32) (n : Fin 12) (s : State) : Answer :=
  .next (s.hostRow ses.val req { oid := (Oid.LEARN n.val).oid, data := [1] })

/-- LEARN_DOWN: LEARN written with 2 (R327). -/
def execLearnDown (ses : Fin 64) (req : BitVec 32) (n : Fin 12) (s : State) : Answer :=
  .next (s.hostRow ses.val req { oid := (Oid.LEARN n.val).oid, data := [2] })

/-- LEARN_STOP: LEARN written with 0 (R327). -/
def execLearnStop (ses : Fin 64) (req : BitVec 32) (n : Fin 12) (s : State) : Answer :=
  .next (s.hostRow ses.val req { oid := (Oid.LEARN n.val).oid, data := [0] })

/-- CMP_ARM: CMP_ARM written with 1 (R329). -/
def execCmpArm (ses : Fin 64) (req : BitVec 32) (n : Fin 12) (k : Fin 8) (s : State) : Answer :=
  .next (s.hostRow ses.val req { oid := (Oid.CMP_ARM n.val k.val).oid, data := [1] })

/-- CMP_DISARM: CMP_ARM written with 0 (R330). -/
def execCmpDisarm (ses : Fin 64) (req : BitVec 32) (n : Fin 12) (k : Fin 8) (s : State) : Answer :=
  .next (s.hostRow ses.val req { oid := (Oid.CMP_ARM n.val k.val).oid, data := [0] })

/-- CMP_REARM: CMP_POS or CMP_MODE written (R329). -/
def execCmpRearm (ses : Fin 64) (req : BitVec 32) (n : Fin 12) (k : Fin 8) (mode : Bool) (v : BitVec 32) (s : State) : Answer :=
  .next (s.hostRow ses.val req { oid := (if mode then (Oid.CMP_MODE n.val k.val).oid else (Oid.CMP_POS n.val k.val).oid), data := (leBytes (if mode then 1 else 4) v.toNat) })

/-- DL_RETRAIN (R353). -/
def execDlRetrain (ses : Fin 64) (req : BitVec 32) (k : Fin 24) (v : Byte) (s : State) : Answer :=
  .next (s.hostRow ses.val req { oid := (0x20000302 + k.val * 65536), data := [v] })

/-- DOOR_ENABLE (R364, R365). -/
def execDoorEnable (ses : Fin 64) (req : BitVec 32) (k : Fin 24) (v : Byte) (s : State) : Answer :=
  .next (s.hostRow ses.val req { oid := (Oid.DOOR_ENABLE k.val).oid, data := [v] })

/-- DL_LT_REQ_OWN: DL_LT_REQ written with 1 (R372). -/
def execDlLtReqOwn (ses : Fin 64) (req : BitVec 32) (k : Fin 24) (s : State) : Answer :=
  .next (s.hostRow ses.val req { oid := (0x20000300 + k.val * 65536), data := [1] })

/-- DL_LT_REQ_TWIN: DL_LT_REQ written with 2 (R372). -/
def execDlLtReqTwin (ses : Fin 64) (req : BitVec 32) (k : Fin 24) (s : State) : Answer :=
  .next (s.hostRow ses.val req { oid := (0x20000300 + k.val * 65536), data := [2] })

/-- DL_ACK (R354). -/
def execDlAck (ses : Fin 64) (req : BitVec 32) (k : Fin 24) (v : Byte) (s : State) : Answer :=
  .next (s.hostRow ses.val req { oid := (0x20000301 + k.val * 65536), data := [v] })

/-- LOOP_CLOSE: LOOP_CMD written with 1 (R391). -/
def execLoopClose (ses : Fin 64) (req : BitVec 32) (cls : LoopClass) (j : Fin 65536) (s : State) : Answer :=
  .next (s.hostRow ses.val req { oid := (Oid.LOOP_CMD j.val (classCode cls)).oid, data := [1] })

/-- LOOP_OPEN: LOOP_CMD written with 2 (R391). -/
def execLoopOpen (ses : Fin 64) (req : BitVec 32) (cls : LoopClass) (j : Fin 65536) (s : State) : Answer :=
  .next (s.hostRow ses.val req { oid := (Oid.LOOP_CMD j.val (classCode cls)).oid, data := [2] })

/-- LOOP_CLEAR_TRIP: LOOP_CMD written with 3 (R391). -/
def execLoopClearTrip (ses : Fin 64) (req : BitVec 32) (cls : LoopClass) (j : Fin 65536) (s : State) : Answer :=
  .next (s.hostRow ses.val req { oid := (Oid.LOOP_CMD j.val (classCode cls)).oid, data := [3] })

/-- LOOP_ENABLE (R379, R393). -/
def execLoopEnable (ses : Fin 64) (req : BitVec 32) (cls : LoopClass) (j : Fin 65536) (v : Byte) (s : State) : Answer :=
  .next (s.hostRow ses.val req { oid := (Oid.LOOP_ENABLE j.val (classCode cls)).oid, data := [v] })

/-- LOOP_FLAGS (R399). -/
def execLoopFlags (ses : Fin 64) (req : BitVec 32) (cls : LoopClass) (j : Fin 65536) (v : Byte) (s : State) : Answer :=
  .next (s.hostRow ses.val req { oid := (Oid.LOOP_FLAGS j.val (classCode cls)).oid, data := [v] })

/-- GRP_MEMBERS of a competition group (R394, R395). -/
def execGrpMembers (ses : Fin 64) (req : BitVec 32) (g : Fin 16384) (members : List Byte) (s : State) : Answer :=
  .next (s.hostRow ses.val req { oid := (Oid.CGRP_MEMBERS g.val).oid, data := members })

/-- CAR_CMD_OUT_OF_SERVICE: CAR_CMD written with 0 (R418, R430). -/
def execCarCmdOutOfService (ses : Fin 64) (req : BitVec 32) (n : Fin 12) (s : State) : Answer :=
  .next (s.hostRow ses.val req { oid := (Oid.CAR_CMD n.val).oid, data := [0] })

/-- CAR_CMD_PARK: CAR_CMD written with 1 (R418, R430). -/
def execCarCmdPark (ses : Fin 64) (req : BitVec 32) (n : Fin 12) (s : State) : Answer :=
  .next (s.hostRow ses.val req { oid := (Oid.CAR_CMD n.val).oid, data := [1] })

/-- CAR_CMD_SERVE: CAR_CMD written with 2 (R418, R430). -/
def execCarCmdServe (ses : Fin 64) (req : BitVec 32) (n : Fin 12) (s : State) : Answer :=
  .next (s.hostRow ses.val req { oid := (Oid.CAR_CMD n.val).oid, data := [2] })

/-- CAR_FAULT_ACK (R430). -/
def execCarFaultAck (ses : Fin 64) (req : BitVec 32) (n : Fin 12) (v : Byte) (s : State) : Answer :=
  .next (s.hostRow ses.val req { oid := (0x10030004 + n.val * 0x1000000), data := [v] })

/-- MI_CAL_REQ (R474). -/
def execMiCalReq (ses : Fin 64) (req : BitVec 32) (i : Fin 4) (v : Byte) (s : State) : Answer :=
  .next (s.hostRow ses.val req { oid := (0x50030002 + i.val * 256), data := [v] })

/-- MI_CAL_ABORT (R475). -/
def execMiCalAbort (ses : Fin 64) (req : BitVec 32) (i : Fin 4) (v : Byte) (s : State) : Answer :=
  .next (s.hostRow ses.val req { oid := (0x50030003 + i.val * 256), data := [v] })

/-- CH_REG_CLEAR (R489). -/
def execChRegClear (ses : Fin 64) (req : BitVec 32) (c : Fin 64) (v : Byte) (s : State) : Answer :=
  .next (s.hostRow ses.val req { oid := (0x50040011 + c.val * 256), data := [v] })

/-- PULSE_CONFIG: PO_CONST or PO_SRC written (R490). -/
def execPulseConfig (ses : Fin 64) (req : BitVec 32) (x : Fin 20) (const : Bool) (v : BitVec 64) (s : State) : Answer :=
  .next (s.hostRow ses.val req { oid := (if const then (Oid.PO_CONST x.val).oid else (Oid.PO_SRC x.val).oid), data := (leBytes (if const then 8 else 2) v.toNat) })

/-- INT_LEN (R495). -/
def execIntLen (ses : Fin 64) (req : BitVec 32) (v : Byte) (s : State) : Answer :=
  .next (s.hostRow ses.val req { oid := Oid.INT_LEN.oid, data := [v] })

/-- ENERGY_ACK (R503). -/
def execEnergyAck (ses : Fin 64) (req : BitVec 32) (v : Byte) (s : State) : Answer :=
  .next (s.hostRow ses.val req { oid := 0x50060013, data := [v] })

/-- CM_RESET (R511). -/
def execCmReset (ses : Fin 64) (req : BitVec 32) (n : Fin 12) (v : Byte) (s : State) : Answer :=
  .next (s.hostRow ses.val req { oid := (0x50080005 + n.val * 256), data := [v] })

/-- SF_RESET (R524). -/
def execSfReset (ses : Fin 64) (req : BitVec 32) (n : Fin 12) (v : Byte) (s : State) : Answer :=
  .next (s.hostRow ses.val req { oid := (Oid.SF_RESET n.val).oid, data := [v] })

/-- SAFETY_PW, with the random salt it is stored under (R537, R540). -/
def execSafetyPw (ses : Fin 64) (req : BitVec 32) (pw : List Byte) (salt : BitVec 128) (s : State) : Answer :=
  .next (s.hostRow ses.val req { oid := Oid.SAFETY_PW.oid, data := pw, salt := some salt })

/-- SAFETY_PARAM_WRITE: a parameter held until the commit (R541). -/
def execSafetyParamWrite (ses : Fin 64) (req : BitVec 32) (oid : BitVec 32) (val : List Byte) (s : State) : Answer :=
  .next (s.hostRow ses.val req { oid := oid.toNat, data := val })

/-- SAFETY_COMMIT: SAFETY_COMMIT written with 1 (R542). -/
def execSafetyCommit (ses : Fin 64) (req : BitVec 32) (s : State) : Answer :=
  .next (s.hostRow ses.val req { oid := Oid.SAFETY_COMMIT.oid, data := [1] })

/-- SAFETY_DISCARD: SAFETY_COMMIT written with 2 (R542). -/
def execSafetyDiscard (ses : Fin 64) (req : BitVec 32) (s : State) : Answer :=
  .next (s.hostRow ses.val req { oid := Oid.SAFETY_COMMIT.oid, data := [2] })

/-- CFG_ACTIVATE (R543). -/
def execCfgActivate (ses : Fin 64) (req : BitVec 32) (v : Byte) (s : State) : Answer :=
  .next (s.hostRow ses.val req { oid := Oid.CFG_ACTIVATE.oid, data := [v] })

/-- SAFETY_TEST_REQ_TWIN: SAFETY_TEST_REQ written with 1 (R546). -/
def execSafetyTestReqTwin (ses : Fin 64) (req : BitVec 32) (s : State) : Answer :=
  .next (s.hostRow ses.val req { oid := Oid.SAFETY_TEST_REQ.oid, data := [1] })

/-- SAFETY_TEST_REQ_SELF: SAFETY_TEST_REQ written with 2 (R546). -/
def execSafetyTestReqSelf (ses : Fin 64) (req : BitVec 32) (s : State) : Answer :=
  .next (s.hostRow ses.val req { oid := Oid.SAFETY_TEST_REQ.oid, data := [2] })

/-- FIO_OUT (R605). -/
def execFioOut (ses : Fin 64) (req : BitVec 32) (x : Fin 64) (v : Byte) (s : State) : Answer :=
  .next (s.hostRow ses.val req { oid := (Oid.FIO_OUT x.val).oid, data := [v] })

/-- FIO_MODE (R595, R596). -/
def execFioMode (ses : Fin 64) (req : BitVec 32) (x : Fin 64) (v : Byte) (s : State) : Answer :=
  .next (s.hostRow ses.val req { oid := (Oid.FIO_MODE x.val).oid, data := [v] })

/-- FG_ACK (R607, R610). -/
def execFgAck (ses : Fin 64) (req : BitVec 32) (g : Fin 8) (v : Byte) (s : State) : Answer :=
  .next (s.hostRow ses.val req { oid := (0x60010001 + g.val * 256), data := [v] })

/-- FW_LOAD (R634). -/
def execFwLoad (ses : Fin 64) (req : BitVec 32) (data : List Byte) (s : State) : Answer :=
  .next (s.hostRow ses.val req { oid := 0x00000801, data := data })

/-- FW_VERIFY (R634). -/
def execFwVerify (ses : Fin 64) (req : BitVec 32) (v : Byte) (s : State) : Answer :=
  .next (s.hostRow ses.val req { oid := 0x00000802, data := [v] })

/-- FW_SWITCH (R635). -/
def execFwSwitch (ses : Fin 64) (req : BitVec 32) (v : Byte) (s : State) : Answer :=
  .next (s.hostRow ses.val req { oid := 0x00000804, data := [v] })

/-- CFG_LOAD (R637). -/
def execCfgLoad (ses : Fin 64) (req : BitVec 32) (data : List Byte) (s : State) : Answer :=
  .next (s.hostRow ses.val req { oid := 0x00000900, data := data })

/-- CFG_VERIFY (R638). -/
def execCfgVerify (ses : Fin 64) (req : BitVec 32) (v : Byte) (s : State) : Answer :=
  .next (s.hostRow ses.val req { oid := 0x00000901, data := [v] })

/-- OPC_CERT (R631). -/
def execOpcCert (ses : Fin 64) (req : BitVec 32) (k : Fin 8) (q : Fin 2) (cert : List Byte) (s : State) : Answer :=
  .next (s.hostRow ses.val req { oid := (Oid.OPC_CERT k.val q.val).oid, data := cert })

/-- OPC_USE (R632). -/
def execOpcUse (ses : Fin 64) (req : BitVec 32) (k : Fin 8) (q : Fin 2) (v : Byte) (s : State) : Answer :=
  .next (s.hostRow ses.val req { oid := (Oid.OPC_USE k.val q.val).oid, data := [v] })

end Sys2Proof.Machine
end

