-- ==== Sys2Proof/Machine/Bacnet.lean ====
section
/-! DEFINITION. The services that the BACnet server answers (R246 to R251). -/

namespace Sys2Proof.Machine

/-! ### Links, devices and objects -/

/-- The port of a link, in the coding of PORT (R221, R246). -/
def linkPort (l : BacLink) : Nat :=
  match l with
  | .ip p => p
  | .sc _ _ _ => 0
  | .mstp m => 0x20 + m.val

/-- The subscriber that a link stands for: the certificate of a BACnet/SC peer (R250). -/
def linkFpr (l : BacLink) : BitVec 256 :=
  match l with
  | .sc f _ _ => f
  | _ => 0

/-- A link carries requests to this module: the port runs; an RS-485 channel in MS/TP mode, whose drivers stay off on a standby (R244, R246,
R255). -/
def State.linkUp (s : State) (l : BacLink) : Bool :=
  match l with
  | .ip p =>
    if p < 4 then s.runs (.netPort p) && s.subUnitOn (.netPort p)
    else decide (0x10 ≤ p ∧ p ≤ 0x13) && s.runs (.t1l (p - 0x10)) && s.subUnitOn (.t1l (p - 0x10))
  | .sc _ _ _ => s.up .net
  | .mstp m => s.rsMstp m.val && s.runs (.rs485 m.val) && s.drives

/-- The MAC address of the virtual device of a partition: two octets, the high one first (R250). (DEDUCED, log entry 76.) -/
def vmac (q : Nat) : List Byte := [BitVec.ofNat 8 (q / 256), BitVec.ofNat 8 q]

/-- The device that a request is for, by its partition: the single device BACNET_DEV_BASE on IP and MS/TP; on BACnet/SC the module is a
router, and MAC address q on network BACNET_VNET is the virtual device of the enabled partition q (R249, R250). -/
def State.deviceOf (s : State) (r : BacReq) : Option Nat :=
  match r.link, r.dest with
  | .sc _ _ _, some (net, mac) => if net = s.pts.bacVnet then (List.range 1024).find? (fun q => vmac q == mac && s.partOn q) else none
  | .sc _ _ _, none => none
  | _, _ => if r.device = s.pts.bacDevBase then some 0 else none

/-- The peer of a link may use the device of a partition: on BACnet/SC, by the host map (R250). -/
def State.linkGrants (s : State) (l : BacLink) (q : Nat) : Bool :=
  match l with
  | .sc f a cn =>
    (match s.mapEntry f (a.map (·.val)) cn with
      | some e => s.entryGrants e q
      | none => false)
  | _ => true

/-- The enabled point that a device shows under an object type and instance (R215, R249, R250). -/
def State.bacPoint (s : State) (q : Nat) (i : BacItem) : Option Nat :=
  s.enabledPoints.find? (fun p => s.nat (Oid.PT_PARTITION p) == q && s.ptType p == i.type.val && s.nat (Oid.PT_BACNET_INSTANCE p) == i.inst)

/-- The object that a property maps to; Status_Flags and the whole Priority_Array are formed from several (R248). -/
def bacOid (p : Nat) (x : BacProp) : Nat :=
  match x with
  | .presentValue => (Oid.PT_PV p).oid
  | .priorityArray (some n) => (Oid.PT_PRIORITY_SLOT p n.val).oid
  | .priorityArray none => (Oid.PT_PA_MASK p).oid
  | .relinquishDefault => (Oid.PT_RELINQUISH_DEFAULT p).oid
  | .objectName => (Oid.PT_NAME p).oid
  | .units => (Oid.PT_UNITS p).oid
  | .covIncrement => (Oid.PT_COV_INCREMENT p).oid
  | .outOfService => (Oid.PT_OUT_OF_SERVICE p).oid
  | .statusFlags | .objectIdentifier | .maxApduLength | .segmentationSupported => (Oid.PT_STATUS p).oid

/-- Communication is disabled by a DeviceCommunicationControl whose duration has not ended (R246). -/
def State.dccOff (s : State) : Bool := s.pts.dccDisabled && !s.dccOver

/-! ### Reads (R248) -/

/-- A BACnet answer. -/
def State.bacResp (s : State) (r : BacReq) (e : Option BacErr) (b : List Byte) : State := s.emit (.bacnet r.invoke e b)

/-- A BACnet answer with a PDP status. -/
def State.bacStatus (s : State) (r : BacReq) (st : Status) (b : List Byte) : State :=
  s.bacResp r (if st = .ok then none else some (.status st.code)) b

/-- A slot of the array as a BACnet value: empty for null. -/
def State.slotBytes (s : State) (p n : Nat) : List Byte :=
  if s.bit (Oid.PT_PA_MASK p) n then
    match pointTy (s.ptType p) with
    | some t => t.enc (s.get (Oid.PT_PRIORITY_SLOT p n))
    | none => []
  else []

/-- Status_Flags: in-alarm false, fault, overridden, out-of-service, as bits 0 to 3 (R248). -/
def State.statusFlags (s : State) (p : Nat) : Nat :=
  let b := fun i => s.bit (Oid.PT_STATUS p) i
  2 * boolNat (b 0 || b 3) + 4 * boolNat (b 1) + 8 * boolNat (b 2)

/-- The longest APDU on a link (R246). -/
def apduMax (l : BacLink) : Nat :=
  match l with
  | .mstp _ => 480
  | _ => 1476

/-- The object identifier of a BACnet object type and instance, as four octets (ASHRAE 135). (PRESUMED, log entry 142.) -/
def bacObjectId (type inst : Nat) : List Byte := (leBytes 4 (type * 4194304 + inst)).reverse

/-- The BACnet object type of a TYPE of R215 (ASHRAE 135). (PRESUMED, log entry 142.) -/
def bacType (t : Nat) : Nat := [8, 0, 1, 2, 3, 4, 5, 13, 14, 19, 23, 23].getD t 0

/-- A property of the Device object, at item type 0: its instance, the longest APDU of the link, segmentation both ways (R246).
(PRESUMED, log entry 142.) -/
def State.bacDevice (s : State) (q : Nat) (l : BacLink) (i : BacItem) : Status × List Byte :=
  if i.inst ≠ s.pts.bacDevBase + q then (.noObject, [])
  else
    match i.prop with
    | .objectIdentifier => (.ok, bacObjectId 8 i.inst)
    | .maxApduLength => (.ok, leBytes 2 (apduMax l))
    | .segmentationSupported => (.ok, [0])
    | _ => (.noObject, [])

/-- The value of one property (R248). The whole Priority_Array is each slot with its length before it. -/
def State.bacRead (s : State) (q : Nat) (l : BacLink) (i : BacItem) : (Status × List Byte) × State :=
  if i.type.val = 0 then (s.bacDevice q l i, s)
  else
  match s.bacPoint q i with
  | none => ((.noObject, []), s)
  | some p =>
    match i.prop with
    | .objectIdentifier => ((.ok, bacObjectId (bacType (s.ptType p)) i.inst), s)
    | .maxApduLength | .segmentationSupported => ((.noObject, []), s)
    | .statusFlags => ((.ok, leBytes 1 (s.statusFlags p)), s)
    | .priorityArray x =>
      if !hasArray (s.ptType p) then ((.noObject, []), s)
      else
        (match x with
          | some n => ((.ok, s.slotBytes p n.val), s)
          | none => ((.ok, (List.range 16).flatMap (fun n => leBytes 1 (s.slotBytes p n).length ++ s.slotBytes p n)), s))
    | x => s.read { part := q } (bacOid p x)

/-- One item of a read is answered. -/
def State.bacReadItem (q : Nat) (r : BacReq) (s : State) (i : BacItem) : State :=
  let ((st, b), s) := s.bacRead q r.link i
  s.bacStatus r st b

/-- A request that a device takes: `f` carries it out for the device's partition; a peer that its map entry does not grant is refused
(R250). A disabled module serves nothing but DeviceCommunicationControl (R246). -/
def State.bacServe (s : State) (r : BacReq) (f : State → Nat → State) : State :=
  if !s.serving || !s.linkUp r.link || s.dccOff then s
  else
    match s.deviceOf r with
    | none => s
    | some q => if s.linkGrants r.link q then f s q else s.bacResp r (some .accessDenied) []

/-- READ_PROPERTY: the mapped property (R248). -/
def execReadProperty (r : BacReq) (s : State) : Answer :=
  .next (s.start.bacServe r (fun s q => (r.items.take 1).foldl (State.bacReadItem q r) s))

/-- READ_PROPERTY_MULTIPLE: several mapped properties, each answered in order (R248). -/
def execReadPropertyMultiple (r : BacReq) (s : State) : Answer :=
  .next (s.start.bacServe r (fun s q => r.items.foldl (State.bacReadItem q r) s))

/-! ### Writes (R248, R249) -/

/-- The entry that a written property stands for: a write of Present_Value without a priority is at 16, a null relinquishes (R248). -/
def bacEntry (p : Nat) (i : BacItem) : WEntry :=
  let pv := i.prop == .presentValue
  { oid := bacOid p i.prop
    prio := if pv then (match i.prio with
      | some n => n.val
      | none => 16) else 0
    relinq := pv && i.null, data := if i.null then [] else i.value }

/-- A property of a point as a request in the order of R181. -/
def bacWrite (r : BacReq) (q : Nat) (route : Route) (e : WEntry) : PendReq :=
  { pos := 0, route := route, ses := 0xFF, req := BitVec.ofNat 32 r.invoke, op := 0, fpr := linkFpr r.link, entries := [e], part := q }

/-- The writes of a request, each a write of its own, in order, up to the first that is refused; the answer goes with the last
(R248). (DEDUCED, log entry 76.) -/
def State.bacWrites (s : State) (r : BacReq) (q : Nat) : List BacItem → State
  | [] => s
  | i :: t =>
    match s.bacPoint q i with
    | none => s.bacStatus r (if i.type.val = 0 ∧ i.inst = s.pts.bacDevBase + q then .access else .noObject) []
    | some p =>
      let e := bacEntry p i
      match t with
      | [] => s.hostWrite (bacWrite r q .bacnet e) false
      | _ :: _ =>
        let w := bacWrite r q .silent e
        match s.checkRequest w false with
        | some _ => s.hostWrite (bacWrite r q .bacnet e) false
        | none => (s.hostWrite w false).bacWrites r q t

/-- Writes of a request: on BACnet/IP and MS/TP only while BACNET_IP_WRITE is true (R249). -/
def State.bacPut (s : State) (r : BacReq) (l : List BacItem) : State :=
  s.bacServe r (fun s q =>
    let sc := match r.link with
      | .sc _ _ _ => true
      | _ => false
    if sc || s.pts.bacIpWrite then s.bacWrites r q l else s.bacResp r (some .writeAccessDenied) [])

/-- WRITE_PROPERTY. -/
def execWriteProperty (r : BacReq) (s : State) : Answer := .next (s.start.bacPut r (r.items.take 1)).drain

/-- WRITE_PROPERTY_MULTIPLE. -/
def execWritePropertyMultiple (r : BacReq) (s : State) : Answer := .next (s.start.bacPut r r.items).drain

/-! ### SubscribeCOV (R251) -/

/-- A subscription to the same point by the same process of the same peer (R251). (DEDUCED, log entry 76.) -/
def sameCov (r : BacReq) (p : Nat) (x : Sub) : Bool :=
  x.bacnet && x.point == p && x.port == linkPort r.link && x.fpr == linkFpr r.link && x.peer == r.peer && x.process == r.process

/-- The subscription that a SubscribeCOV asks for: class C, on MS/TP class D, MIN_INTERVAL 1 s, at most 86,400 s; one that gives no
lifetime has the most (R251). (DEDUCED, log entry 76.) -/
def State.covSub (s : State) (r : BacReq) (q p : Nat) : Sub :=
  { handle := 0, part := q, fpr := linkFpr r.link, point := p, sub := 0
    cls := match r.link with
      | .mstp _ => 3
      | _ => 2
    minInt := 1000, inc := 0, life := if r.life = 0 then 86400 else min r.life 86400, atNs := s.clk, ses := none, port := linkPort r.link, bacnet := true
    process := r.process, peer := r.peer }

/-- SubscribeCOV of a point: cancelled, or admitted in place of the one before, or refused (R251). -/
def State.covSubscribe (s : State) (r : BacReq) (q p : Nat) : State :=
  let old := (s.pts.subs.filter (sameCov r p)).map (fun (x : Sub) => x.handle)
  if r.cancel then (old.foldl State.removeSub s).bacResp r none []
  else
    let x := s.covSub r q p
    let refused := firstOf [need (decide (s.pts.subs.length - old.length < 131072)) .busy,
      s.admits (fun i => old.any (fun h => isSubItem h i)) [s.subItem s.pts.nextHandle x.cls x.minInt x.port]]
    match refused with
    | some y =>
      (match y.excess with
        | some o => s.noteRefusal o
        | none => s).bacResp r (some .noSpace) []
    | none => ((old.foldl State.removeSub s).addSub x).bacResp r none (leBytes 4 s.pts.nextHandle)

/-- SUBSCRIBE_COV: a standby subscribes nothing (R7, R251). -/
def execSubscribeCov (r : BacReq) (s : State) : Answer :=
  .next (s.start.bacServe r (fun s q =>
    match r.items with
    | i :: _ =>
      (match s.bacPoint q i with
        | none => s.bacStatus r .noObject []
        | some p => if s.mode = .standby then s.bacStatus r .standby [] else s.covSubscribe r q p)
    | [] => s))

/-! ### Discovery and control (R246) -/

/-- The devices of a link that a peer may use, with their partitions (R249, R250). -/
def State.devices (s : State) (l : BacLink) : List (Nat × Nat) :=
  match l with
  | .sc _ _ _ => ((List.range 1024).filter (fun q => s.partOn q && s.linkGrants l q)).map (fun q => (s.pts.bacDevBase + q, q))
  | _ => [(s.pts.bacDevBase, 0)]

/-- A broadcast of discovery, answered for each device in its range. (DEDUCED, log entry 76.) -/
def State.discover (s : State) (r : BacReq) (f : State → Nat × Nat → State) : State :=
  if !s.serving || !s.linkUp r.link || s.dccOff then s
  else ((s.devices r.link).filter (fun d => decide (r.lo ≤ d.1 ∧ d.1 ≤ r.hi))).foldl f s

/-- WHO_IS: I-Am with the device instance. -/
def execWhoIs (r : BacReq) (s : State) : Answer := .next (s.start.discover r (fun s d => s.bacResp r none (leBytes 4 d.1)))

/-- The point of a partition that a Who-Has asks for, by name or by identifier. -/
def State.hasPoint (s : State) (r : BacReq) (q : Nat) : Option Nat :=
  match r.name with
  | some n => s.enabledPoints.find? (fun p => s.nat (Oid.PT_PARTITION p) == q && s.blob (Oid.PT_NAME p) == n)
  | none => (r.items.head?).bind (s.bacPoint q)

/-- WHO_HAS: I-Have with the device, the object's type and instance, and its name. -/
def execWhoHas (r : BacReq) (s : State) : Answer :=
  .next (s.start.discover r (fun s d =>
    match s.hasPoint r d.2 with
    | some p =>
      s.bacResp r none (leBytes 4 d.1 ++ leBytes 1 (s.ptType p) ++ leBytes 4 (s.nat (Oid.PT_BACNET_INSTANCE p)) ++ s.blob (Oid.PT_NAME p))
    | none => s))

/-- DeviceCommunicationControl: enable, disable, or disable initiation, for its duration (R246). -/
def State.dcc (s : State) (r : BacReq) : State :=
  if !s.serving || !s.linkUp r.link then s
  else
    match s.deviceOf r with
    | none => s
    | some q =>
      if !s.linkGrants r.link q then s.bacResp r (some .accessDenied) []
      else
        { s with pts := { s.pts with
            dccDisabled := r.comm.val == 1, dccNoInit := r.comm.val == 2
            dccUntil := if r.comm.val = 0 ∨ r.minutes = 0 then 0 else s.clk + sec (60 * r.minutes) } }.bacResp r none []

/-- DEVICE_COMMUNICATION_CONTROL. -/
def execDeviceCommunicationControl (r : BacReq) (s : State) : Answer := .next (s.start.dcc r)

/-- TIME_SYNCHRONIZATION: a received request has no effect (R246). -/
def execTimeSynchronization (_r : BacReq) (s : State) : Answer := .next s.start

end Sys2Proof.Machine
end

