-- ==== Sys2Proof/Machine/Remote.lean ====
section
/-! DEFINITION. The CANopen SDO route, the sources and sinks of points, and the writes to the kept-values area and the point store (R177,
R206 to R209, R220 to R224, R244, R245, R253). -/

namespace Sys2Proof.Machine

/-! ### The SDO route (R206 to R209) -/

/-- The SDO server answers: SDO_ENABLE is not 0, the gate permits outputs and its channel runs (R206, R208). (DEDUCED, log entry 75.) -/
def State.sdoServes (s : State) : Bool :=
  s.serving && s.gate && s.nat Oid.SDO_ENABLE != 0 && s.canRuns (s.nat Oid.SDO_CHANNEL) && s.canDrives (s.nat Oid.SDO_CHANNEL)

/-- An SDO answer, with the PDP status kept in SDO_LAST_STATUS (R209). -/
def State.sdoAnswer (s : State) (index sub : Nat) (st : Status) (abort : Nat) (d : List Byte) : State :=
  (s.setN Oid.SDO_LAST_STATUS st.code).emit (.sdo s.sdoCob index sub abort d)

/-- Only the sub-index of an OID is unknown: it names no object, and another sub-index of its index does (R209). -/
def subUnknown (oid : Nat) : Bool := (findObject oid).isNone && (List.range 256).any (fun i => (findObject (oid / 256 * 256 + i)).isSome)

/-- The abort code of a refusal of an object (R209). -/
def sdoCode (oid : Nat) (st : Status) (write : Bool) : Nat :=
  if st = .noObject ∧ subUnknown oid then 0x06090011 else sdoAbort st.code write

/-- SDO_WINDOW takes a value: an area above 0x7F is refused (R207). (DEDUCED, log entry 75.) -/
def State.sdoWindow (s : State) (v : Nat) : State :=
  if 0x7F < v / 16 then s.sdoAnswer 0x2F00 0 .range (sdoAbort Status.range.code true) []
  else { s with acc := { s.acc with sdoWindow := v } }.sdoAnswer 0x2F00 0 .ok 0 []

/-- The OID that a CANopen index and sub-index reach (R207). -/
def State.sdoOid (s : State) (index sub : Nat) : Nat :=
  let w := s.acc.sdoWindow
  w / 16 * 16777216 + (w % 16 * 4096 + (index - 0x3000)) * 256 + sub

/-- An SDO read (R206, R208, R209). -/
def State.sdoRead (s : State) (index sub : Nat) : State :=
  let oid := s.sdoOid index sub
  let ((st, v), s) := s.read {} oid
  if st ≠ .ok then s.sdoAnswer index sub st (sdoCode oid st false) []
  else if 4096 < v.length then s.sdoAnswer index sub .type 0x06070012 []
  else s.sdoAnswer index sub .ok 0 v

/-- An SDO write: with SDO_ENABLE 2 only, as an owner session without a safety session (R208, R209). -/
def State.sdoWrite (s : State) (index sub : Nat) (d : List Byte) : State :=
  let oid := s.sdoOid index sub
  if s.nat Oid.SDO_ENABLE ≠ 2 then s.sdoAnswer index sub .partition (sdoAbort Status.partition.code true) []
  else if 4096 < d.length then s.sdoAnswer index sub .type 0x06070012 []
  else if (findObject oid).isNone then s.sdoAnswer index sub .noObject (sdoCode oid .noObject true) []
  else s.hostWrite { pos := 0, route := .sdo, ses := sub, req := 0, op := index, fpr := 0, entries := [{ oid := oid, data := d }], part := 0 } false

/-- One SDO request to this node (R206 to R209); a block transfer is aborted as an unknown command of CiA 301. (DEDUCED, log entry 75;
PRESUMED, log entry 138.) -/
def State.sdo (s : State) (r : SdoReq) : State :=
  let index := r.index.toNat
  let sub := r.sub.toNat
  if !s.sdoServes || r.cob.toNat != 0x600 + s.nat Oid.SDO_NODE_ID then s
  else if r.block then s.emit (.sdo s.sdoCob index sub 0x05040001 [])
  else if index = 0x2F00 ∧ sub = 0 then
    match r.write with
    | none => s.sdoAnswer index sub .ok 0 (leBytes 2 s.acc.sdoWindow)
    | some d => if d.length = 2 then s.sdoWindow (leNat d) else s.sdoAnswer index sub .type (sdoAbort Status.type.code true) []
  else if 0x3000 ≤ index ∧ index ≤ 0x3FFF then
    match r.write with
    | none => s.sdoRead index sub
    | some d => s.sdoWrite index sub d
  else s.sdoAnswer index sub .noObject (if index = 0x2F00 then 0x06090011 else sdoAbort Status.noObject.code r.write.isSome) []

/-- SDO_REQUEST. -/
def execSdoRequest (r : SdoReq) (s : State) : Answer := .next ((s.start.sdo r).drain)

/-- SDO_WINDOW: a write of CANopen index 0x2F00 (R207). -/
def execSdoWindow (v : BitVec 16) (s : State) : Answer :=
  let s := s.start
  .next (if s.sdoServes then s.sdoWindow v.toNat else s)

/-! ### Kept values and the point store (R177, R220) -/

/-- A live value reaches the kept-values area: at most once per second for each object (R177). -/
def State.keptWrite (s : State) (oid : Nat) : State :=
  match findObject oid with
  | none => s
  | some (r, _) =>
    let v := s.get ⟨oid, r.num⟩
    if r.kept ≠ .live ∨ !s.booted ∨ Tbl.get r.num s.acc.live oid = v then s
    else
      let s := if (s.acc.liveAt.find oid).isSome then s.reach (Tbl.get 0 s.acc.liveAt oid + sec 1) else s
      { s with acc := { s.acc with live := s.acc.live.ins oid v, liveAt := s.acc.liveAt.ins oid s.clk } }

/-- KEPT_VALUE_WRITE. (DEDUCED, log entry 44.) -/
def execKeptValueWrite (oid : BitVec 32) (s : State) : Answer := .next (s.start.keptWrite oid.toNat)

/-- POINT_STORE_WRITE: a changed slot, or with 16 the relinquish default, reaches the point store (R220). -/
def execPointStoreWrite (p : Fin 262144) (slot : Fin 17) (s : State) : Answer :=
  let s := s.start
  .next (if s.booted ∧ (s.ptAux p.val).dirty.testBit slot.val then s.storeSlot p.val (slot.val + 1) else s)

/-! ### Values between objects and points -/

/-- A number of one type as another: a REAL32 or a FIX32 takes the nearest value, an integer type only a whole number, BOOL 0 or 1; none
where the other type cannot hold it (R224). (DEDUCED, log entry 65.) -/
def convert (a b : Ty) (v : Int) : Option Int :=
  -- the exact value, over 2^149
  let x : Int := if a = .real32 then realNum v.toNat else if a = .fix32 then v * 2 ^ 133 else v * 2 ^ 149
  if a = .real32 ∧ realSpecial v.toNat then none
  else if b = .real32 then (if a = .real32 then some v else (let y := realOf x (2 ^ 149); if realSpecial y then none else some (y : Nat)))
  else if b ≠ .fix32 ∧ x % 2 ^ 149 ≠ 0 then none
  else
    let n := if b = .fix32 then divRound x (2 ^ 133) else x / 2 ^ 149
    let w := 8 * b.size
    let ok := if b = .bool then decide (n = 0 ∨ n = 1)
      else if b.isSigned then decide (-(2 ^ (w - 1) : Nat) ≤ n ∧ n < (2 ^ (w - 1) : Nat)) else decide (0 ≤ n ∧ n < (2 ^ w : Nat))
    if ok then some n else none

/-! ### Modbus (R252) -/

/-- The type of a Modbus format (R252). -/
def modbusTy (f : Nat) : Ty :=
  if f = 0 then .u16 else if f = 1 then .i16 else if f ≤ 3 then .u32 else if f ≤ 5 then .i32 else if f ≤ 7 then .real32 else .bool

/-- The octets of a format's registers, the high octet of a register first, with the high word first (R252): formats 3, 5 and 7 have the low
word first. (PRESUMED, log entry 62.) -/
def modbusWords (f : Nat) (d : List Byte) : List Byte := if f = 3 ∨ f = 5 ∨ f = 7 then d.drop 2 ++ d.take 2 else d

/-- The value of a point that some registers carry: an integer on an analog point is raw × SCALE + OFFSET (R215, R252). -/
def State.fromModbus (s : State) (p f : Nat) (d : List Byte) : Option Int :=
  let t := modbusTy f
  let x := t.dec (modbusWords f d).reverse
  if d.length ≠ t.size then none
  else
    match pointTy (s.ptType p) with
    | some .real32 => if t = .real32 then some x else if t = .bool then none else some (s.scaleRaw p x)
    | some b => if t = .bool ∧ b ≠ .bool then none else convert t b x
    | none => none

/-- The registers that carry a point's value; a value that the format cannot hold leaves a free value there (R215, R252).
(DESIGN CHOICE, log entry 29.) -/
def State.toModbus (s : State) (p f : Nat) : State × List Byte :=
  let t := modbusTy f
  let v := s.get (Oid.PT_PV p)
  let raw : Option Int :=
    match pointTy (s.ptType p) with
    | some .real32 =>
      if t = .real32 then some v
      else (rawOf v.toNat (s.nat (Oid.PT_SCALE p)) (s.nat (Oid.PT_OFFSET p)) t.isSigned (8 * t.size)).map (fun n => t.dec (leBytes t.size n))
    | some a => convert a t v
    | none => none
  let y := match raw with
    | some x => (s, t.enc x)
    | none => let g := s.free; (g.2, leBytes t.size g.1.toNat)
  (y.1, modbusWords f y.2.reverse)

/-- A Modbus TCP exchange with a device uses its connection; of the 64 that may be held, the one longest unused makes room (R252).
(DESIGN CHOICE, log entry 141.) -/
def State.modbusUse (s : State) (b : Binding) : State :=
  if b.kind = 4 then
    { s with pts := { s.pts with modbusTcp := ((b.port, b.addr1) :: s.pts.modbusTcp.filter (· != (b.port, b.addr1))).take 64 } }
  else s

/-- The value of an internal source for a point, if its producer reports one that the point can hold (R223, R224).
(DEDUCED, log entry 65.) -/
def State.internalValue (s : State) (p oid : Nat) : Option Int :=
  match s.takeNum oid, pointTy (s.ptType p) with
  | some (a, v), some b =>
    (match convert a b v with
      | some x => if s.ptValid p x then some x else none
      | none => none)
  | _, _ => none

/-! ### Sources (R223, R224, R244) -/

/-- The source of a point works on this module: the point is enabled, its binding is used, and a standby hears only its own receivers
(R213, R222, R244). -/
def State.sourceLive (s : State) (p : Nat) : Bool :=
  let b := s.srcOf p
  s.serving && s.enabledPt p && bindingUsed (s.ptType p) false b
    && (s.drives || b.kind == 1 || b.kind == 2 || b.kind == 5 || b.kind == 6 || (b.kind == 3 && isRs b.port))

/-- What a point's source gives, if it is valid: the value that a device sends, in the point's type or in the registers of a Modbus
format, or that of an internal producer or a field channel (R215, R223, R224, R252). (DEDUCED, log entry 65.) -/
def State.sourceGives (s : State) (p : Nat) (v : List Byte) (ok : Bool) : Option Int :=
  let b := s.srcOf p
  if b.kind = 6 then s.internalValue p b.addr1
  else if b.kind = 1 then s.internalValue p (Oid.FIO_IN b.addr1).oid
  else if !ok then none
  else if b.kind = 4 ∨ b.kind = 5 then (s.fromModbus p (b.addr3 % 256) v).filter (s.ptValid p)
  else
    match pointTy (s.ptType p) with
    | some t => if v.length == t.size && s.ptValid p (t.dec v) then some (t.dec v) else none
    | none => none

/-- A value arrives from a point's source, valid, or discarded. A value that only the active module receives goes to the twin (R223, R224,
R244). (DEDUCED, log entry 65.) -/
def State.sourceValue (s : State) (p : Nat) (v : List Byte) (ok : Bool) : State :=
  let b := s.srcOf p
  match s.sourceGives p v ok with
  | some x =>
    let s := s.deliver p x
    if (b.kind = 3 ∧ !isRs b.port) ∨ b.kind = 4 then s.mirror (.values 6 [((Oid.PT_PV p).oid, x)] []) else s
  | none => s.deliverBad p b.period

/-- One delivery of a point's source. Valid values of a source with PERIOD 0 come no faster than its charged rate of 10/s, each the latest
(R223, R228). (DEDUCED, log entry 65.) -/
def State.sourceDelivers (s : State) (p : Nat) (v : List Byte) (ok : Bool) : State :=
  match (s.ptAux p).delAt with
  | some t => (if (s.srcOf p).period = 0 ∧ (s.sourceGives p v ok).isSome then s.reach (t + ms 100) else s).sourceValue p v ok
  | none => s.sourceValue p v ok

/-- SOURCE_DELIVERY. (DEDUCED, log entry 65.) -/
def execSourceDelivery (p : Fin 262144) (v : List Byte) (ok : Bool) (s : State) : Answer :=
  let s := s.start
  .next (if s.sourceLive p.val ∧ (s.srcOf p.val).kind ≠ 2 then s.sourceDelivers p.val v ok else s)

/-- The binding of a point, by whether it is the sink. -/
def State.bindOf (s : State) (sink : Bool) (p : Nat) : Binding := if sink then s.sinkOf p else s.srcOf p

/-- The item of a point's source or sink is degraded (R236). -/
def State.itemDegraded (s : State) (p : Nat) (sink : Bool) : Bool :=
  s.pts.items.any (fun i => i.degraded && i.kind == (if sink then ItemKind.pointSink p else ItemKind.pointSource p))

/-- A poll or a write of a point is due now: the sink has a new PV, or a period has passed (R223). -/
def State.dueNow (s : State) (p : Nat) (sink : Bool) : Bool :=
  let b := s.bindOf sink p
  let a := s.ptAux p
  s.enabledPt p && bindingUsed (s.ptType p) sink b
    && (if sink then a.sinkDue && s.passed a.sinkAt (ms (if b.period = 0 then 100 else 10 * b.period))
        else b.period != 0 && s.passed a.pollAt (ms (10 * b.period)))

/-- A degraded item waits for every poll and write on its port that is due now and is not degraded (R236). -/
def State.givesWay (s : State) (p : Nat) (sink : Bool) : Bool :=
  s.itemDegraded p sink && s.bindings.any (fun x =>
    x.2.2.kind != 0 && x.2.2.port == (s.bindOf sink p).port && s.dueNow x.1 x.2.1 && !s.itemDegraded x.1 x.2.1)

/-- A poll falls due at PERIOD: a request leaves for a device, and an internal or field source is read (R223); a standby polls no
device (R244). -/
def State.sourcePoll (s : State) (p : Nat) : State :=
  let b := s.srcOf p
  if !s.sourceLive p || b.period = 0 || b.kind = 2 || s.givesWay p false then s
  else if b.kind = 1 ∨ b.kind = 6 then
    let s := s.reach ((s.ptAux p).pollAt + ms (10 * b.period))
    (s.setPtAux p { s.ptAux p with pollAt := s.clk }).sourceValue p [] true
  else if !s.drives then s
  else
    let s := s.reach ((s.ptAux p).pollAt + ms (10 * b.period))
    ((s.modbusUse b).setPtAux p { s.ptAux p with pollAt := s.clk, polling := true }).emit (.poll p)

/-- SOURCE_POLL. -/
def execSourcePoll (p : Fin 262144) (s : State) : Answer := .next (s.start.sourcePoll p.val)

/-- SOURCE_TIMEOUT: no valid value for 3 × PERIOD sets FAULT (R224). -/
def execSourceTimeout (p : Fin 262144) (s : State) : Answer :=
  let s := s.start
  let b := s.srcOf p.val
  .next (if s.sourceLive p.val ∧ b.period ≠ 0 then (s.reach ((s.ptAux p.val).srcAt + ms (30 * b.period))).setPtFault p.val false true else s)

/-- The source of a point is a COV subscription that this module holds or renews (R223, R245). -/
def State.covSource (s : State) (p : Nat) : Bool :=
  s.sourceLive p && s.drives && (s.srcOf p).kind == 3 && (s.srcOf p).period == 0

/-- COV_SUBSCRIPTION_RENEWAL: the subscription is sent again; one that cannot be renewed sets FAULT (R224, R245). -/
def execCovSubscriptionRenewal (p : Fin 262144) (ok : Bool) (s : State) : Answer :=
  let s := s.start
  .next (if s.covSource p.val then (if ok then s else s.setPtFault p.val false true).emit (.covSubscribe p.val) else s)

/-- The new active module renews the COV subscriptions of the pair (R245). -/
def State.renewCov (s : State) : State :=
  s.enabledPoints.foldl (fun s p => if s.covSource p then s.emit (.covSubscribe p) else s) s

/-! ### Sinks (R223, R224) -/

/-- The sink of a point works on this module; a standby writes no device, and computes its own field outputs (R213, R222, R244). -/
def State.sinkLive (s : State) (p : Nat) : Bool :=
  s.serving && (s.drives || (s.sinkOf p).kind == 1) && s.enabledPt p && bindingUsed (s.ptType p) true (s.sinkOf p)

/-- The drive of a car reports its status; BRAKE_OPEN starts BRK_TIME_MS (R425, R522). -/
def State.takeDriveStatus (s : State) (n : Nat) (v : Int) : State :=
  let was := s.bit (Oid.CAR_DRV_STATUS n) 2
  let s := s.set (Oid.CAR_DRV_STATUS n) v
  if s.bit (Oid.CAR_DRV_STATUS n) 2 && !was then s.setCarSafe n { s.carSafe n with liftAt := s.clk } else s

/-- A write through an internal sink: PV of another point at priority 16, the drive status of a car, or any other object (R223, R425); a
refusal sets FAULT, an accepted write clears it (R224). -/
def State.internalSink (s : State) (p oid : Nat) : State :=
  let v := s.get (Oid.PT_PV p)
  let fault := fun (s : State) (b : Bool) => s.setPtFault p true b
  match pointTy (s.ptType p), s.targetTy oid with
  | some a, some b =>
    (match convert a b v with
      | none => fault s true
      | some x =>
        if oid % 16777216 = 0x0003002E ∧ (carOf oid).isSome then fault (s.takeDriveStatus ((oid - 0x1003002E) / 16777216) x) false
        else
          let w : WEntry := { oid := oid, prio := if isPv oid then 16 else 0, data := b.enc x }
          match s.checkObject { internal := true } w with
          | some _ => fault s true
          | none =>
            if s.journalFits [w] then fault (s.applyEntries { internal := true } [w]) false else fault s.journalFull true)
  | _, _ => fault s true

/-- The output of a field channel follows the PV of the point whose sink it is (R605). -/
def State.fieldSink (s : State) (p x : Nat) : State :=
  match pointTy (s.ptType p) with
  | some a =>
    (match convert a .bool (s.get (Oid.PT_PV p)) with
      | some v => (s.setOut x (v != 0)).setPtFault p true false
      | none => s.setPtFault p true true)
  | none => s

/-- The time in which a sink write is to be answered: the class bound, and 1 s on Modbus (R224, R225, R253). -/
def State.answerTime (s : State) (p : Nat) : Nat :=
  let c := us (boundUs (s.nat (Oid.PT_CLASS p)))
  if (s.sinkOf p).kind = 4 ∨ (s.sinkOf p).kind = 5 then min c (sec 1) else c

/-- The write before has been answered: its time has passed, and neither a refusal nor a silence was reported; it is a valid delivery (R224).
The write that leaves now waits, from the instant of one that is not answered yet. (DEDUCED, log entry 65.) -/
def State.sinkWaits (s : State) (p : Nat) : State :=
  match (s.ptAux p).sinkWait with
  | none => s.setPtAux p { s.ptAux p with sinkWait := some s.clk }
  | some t =>
    if s.passed t (s.answerTime p) then
      let s := s.setPtFault p true false
      s.setPtAux p { s.ptAux p with sinkWait := some s.clk }
    else s

/-- A write of PV leaves for a device (R223, R252). -/
def State.deviceSink (s : State) (p : Nat) : State :=
  let b := s.sinkOf p
  let s := s.sinkWaits p
  if b.kind = 3 then
    match pointTy (s.ptType p) with
    | some t => s.emit (.sink p (t.enc (s.get (Oid.PT_PV p))))
    | none => s
  else
    let y := (s.modbusUse b).toModbus p (b.addr3 % 256)
    y.1.emit (.sink p y.2)

/-- A sink is written with the latest PV, no more often than its charged rate: a request to a device, an internal write, or a field output
(R223, R605); a degraded one after those that are not (R236). -/
def State.sinkWrite (s : State) (p : Nat) : State :=
  let b := s.sinkOf p
  let a := s.ptAux p
  if !s.sinkLive p || !a.sinkDue || b.kind = 2 || s.givesWay p true then s
  else
    let s := (s.rebuilt p).reach (a.sinkAt + ms (if b.period = 0 then 100 else 10 * b.period))
    let s := s.setPtAux p { s.ptAux p with sinkDue := false, sinkAt := s.clk }
    if b.kind = 6 then s.internalSink p b.addr1
    else if b.kind = 1 then s.fieldSink p b.addr1
    else s.deviceSink p

/-- SINK_WRITE. -/
def execSinkWrite (p : Fin 262144) (s : State) : Answer := .next ((s.start.sinkWrite p.val).drain)

/-- A sink write has failed: FAULT, and PV keeps its value (R224). -/
def State.sinkFails (s : State) (p : Nat) : State := (s.setPtAux p { s.ptAux p with sinkWait := none }).setPtFault p true true

/-- SINK_WRITE_REFUSED. -/
def execSinkWriteRefused (p : Fin 262144) (s : State) : Answer :=
  let s := s.start
  .next (if s.sinkLive p.val ∧ (s.ptAux p.val).sinkWait.isSome then s.sinkFails p.val else s)

/-- MODBUS_TIMEOUT: no response within 1 s is a failed delivery; a poll is made again at the next period, a write of the sink has failed
(R224, R253). -/
def execModbusTimeout (p : Fin 262144) (s : State) : Answer :=
  let s := s.start
  let a := s.ptAux p.val
  let b := s.srcOf p.val
  let c := s.sinkOf p.val
  .next (if s.sourceLive p.val ∧ (b.kind = 4 ∨ b.kind = 5) ∧ a.polling then (s.reach (a.pollAt + sec 1)).deliverBad p.val b.period
    else
      match a.sinkWait with
      | some t => if s.sinkLive p.val ∧ (c.kind = 4 ∨ c.kind = 5) then (s.reach (t + sec 1)).sinkFails p.val else s
      | none => s)

/-- SINK_WRITE_TIMEOUT: not answered within the class bound, which a degraded item has not (R224, R225, R236). -/
def execSinkWriteTimeout (p : Fin 262144) (s : State) : Answer :=
  let s := s.start
  .next (match (s.ptAux p.val).sinkWait with
    | some t => if s.sinkLive p.val ∧ !s.itemDegraded p.val true then (s.reach (t + us (boundUs (s.nat (Oid.PT_CLASS p.val))))).sinkFails p.val else s
    | none => s)

end Sys2Proof.Machine
end

