-- ==== Sys2Proof/Machine/TwinLink.lean ====
section
/-! DEFINITION. The twin link: received headers, health, mirror batches on both sides, divergence, resynchronisation, and the standby's
own tests (R557 to R560, R577 to R592, R674). -/

namespace Sys2Proof.Machine

/-! ### Frames received (R133, R578, R592) -/

/-- PAIR_ID of the strap (R131). -/
def State.pairId (s : State) : Nat := s.nat Oid.STRAP_VALUE / 2 % 8

/-- The twin is reported ABSENT (R133, R557, R592). -/
def State.twinAbsent (s : State) : State :=
  { (s.setN Oid.TW_TWIN_STATE 0xFF).setN Oid.TW_TWIN_SUMMARY 6 with tw := { s.tw with seen := false, inStep := false } }

/-! ### The commit points that the standby gives (R29, R449, R674) -/

/-- Aborts whose Withdraw item is confirmed are answered (R674). -/
def State.answerAborts (s : State) (p : PendAbort → Bool) : State :=
  (s.acc.aborts.filter p).foldl (fun s a => s.resp a.ses 0x14 a.req .ok [])
    { s with acc := { s.acc with aborts := s.acc.aborts.filter (fun a => !p a) } }

/-- The twin is no longer a healthy standby: every write that waits reaches its commit point, in order, and what waited for a
confirmation goes out (R449, R583, R674). -/
def State.standbyGone (s : State) : State :=
  (((s.commitWaits (fun _ => true)).answerAborts (fun _ => true)).releaseHeld none).resume

/-- The same, where the twin was a healthy standby before and is none now. -/
def State.ifLost (s : State) (was : Bool) : State := if was && !s.healthyStandby && s.drives then s.standbyGone else s

/-- The twin is reported ABSENT; where it was a healthy standby, what waited for it goes on (R133, R557, R592, R674). -/
def State.twinGone (s : State) : State := s.twinAbsent.ifLost s.healthyStandby

/-! ### What a frame must carry (R133, R578, R592) -/

/-- A twin with another PAIR_ID: recorded once, and treated as absent (R133). -/
def State.pairFault (s : State) (h : TwinHdr) : State :=
  (if s.tw.pairMismatch then s else { s with tw := { s.tw with pairMismatch := true } }.event 0x0104 s.pairId h.pairId.toNat).twinGone

/-- A twin whose mirror protocol version differs by more than 1: recorded once, and treated as absent (R592). -/
def State.versionFault (s : State) (h : TwinHdr) : State :=
  (if s.tw.versionBad then s
    else { s with tw := { s.tw with versionBad := true } }.event 0x060E Config.mirrorVer.toNat h.mirrorVer.toNat).twinGone

/-- The sender's POSITION and ID_SERIAL; equal positions are recorded once and clear STRAP (R133). (DEDUCED, log entry 118.) -/
def State.notePosition (s : State) (h : TwinHdr) : State :=
  let same := h.position.toNat == s.position
  let s := if same && !s.tw.clash then s.event 0x0107 s.position else s
  { s with tw := { s.tw with
      clash := same, pairMismatch := false, versionBad := false, twinPosition := h.position.toNat, twinSerial := h.serial.toNat } }

/-- A frame arrives on a trained lane: with a bad CRC, another PAIR_ID or another version it is discarded (R578); else `f` takes it. -/
def State.frameIn (s : State) (h : TwinHdr) (f : State → State) : State :=
  let v := h.mirrorVer.toNat
  let own := Config.mirrorVer.toNat
  if !s.up .twin || !s.bit Oid.TW_LANES h.lane.val || !h.crcGood || s.nat Oid.STRAP_VALUE == 0xFF then s
  else if h.pairId.toNat ≠ s.pairId then s.pairFault h
  else if v + 1 < own ∨ own + 1 < v then s.versionFault h
  else f (s.notePosition h)

/-! ### Health (R557) -/

/-- HEALTH_SEND: every 1 ms on both lanes; a report that is not healthy ends the guard's condition (R557, R563). -/
def execHealthSend (s : State) : Answer :=
  let s := s.start
  .next (if s.booted then
      let s := s.sendHealth
      { s with tw := { s.tw with guardHealthy := s.tw.guardHealthy && s.selfHealthy } }
    else s)

/-- A HEALTH frame (R557). -/
def State.takeHealth (s : State) (h : HealthMsg) : State :=
  let was := s.healthyStandby
  let s := (((s.setN Oid.TW_TWIN_STATE h.state.toNat).setN Oid.TW_TWIN_SUMMARY h.summary.toNat).setN Oid.TW_TWIN_CHECKS h.checks.toNat).setN
    Oid.TW_TWIN_FW h.fw.toNat
  { s with tw := { s.tw with healthAt := s.clk, seen := true } }.ifLost was

/-- HEALTH. -/
def execHealth (hdr : TwinHdr) (h : HealthMsg) (s : State) : Answer :=
  .next ((s.start.frameIn hdr (fun s => if s.booted then s.takeHealth h else s)).drain)

/-- HEALTH_TIMEOUT: 10 ms without a frame report the twin as ABSENT, unless it last reported FROZEN (R557). -/
def execHealthTimeout (s : State) : Answer :=
  let s := s.start
  .next (if s.booted ∧ s.tw.seen ∧ s.nat Oid.TW_TWIN_SUMMARY ≠ 5 then
      let s := s.reach (s.tw.healthAt + ms 10)
      s.twinGone.drain
    else s)

/-! ### The output digest (R584) -/

/-- A value of the digest: item kind, item, value. The kinds are numbered in the order of R584: 1 field and FP outputs, 2 S switches,
3 CAN transmit content, 4 door state, 5 door demand, 6 ENC_POS, 7 CAR_STATE and CAR_PERMIT, 8 loop mode and trip; 9 are the blocks in reset,
for which the comparison skips items (R129).
(DEDUCED, log entry 114.) -/
abbrev DigestItem := Nat × Nat × Int

/-- The values of the module's own digest (R584). -/
def State.digest (s : State) : List DigestItem :=
  let outs : List DigestItem := ((List.range 64).filter (fun b => s.outputBit b)).map (fun b => (1, b, (boolNat (s.flag (Oid.FIO_OUT b)) : Int)))
  let fps : List DigestItem := ((List.range 4).filter (fun x => s.outputBit (88 + x))).map (fun x => (1, 88 + x, (boolNat (s.bit (Oid.PO_STATUS (16 + x)) 0) : Int)))
  let cars := (List.range 12).filter s.carUsed
  let sws : List DigestItem := ((List.range 12).filter s.safeConfigured).map (fun n => (2, n, (boolNat (s.sOk n) : Int)))
  let drs := (List.range 24).filter (fun k => s.flag (Oid.DOOR_ENABLE k))
  outs ++ fps ++ sws
    ++ drs.map (fun k => ((4, k, s.get (Oid.DOOR_STATE k)) : DigestItem)) ++ drs.map (fun k => ((5, k, s.get (Oid.DOOR_I_DEM k)) : DigestItem))
    ++ cars.map (fun n => ((6, n, s.get (Oid.ENC_POS n)) : DigestItem))
    ++ cars.map (fun n => ((7, n, ((2 * s.carState n + boolNat (s.flag (Oid.CAR_PERMIT n)) : Nat) : Int)) : DigestItem))
    ++ ((9, 0, s.get Oid.BLOCK_IN_RST) : DigestItem) :: s.loops.map (fun l => ((8, l.1, ((4 * s.nat (Oid.LOOP_MODE (l.1 / 4) (l.1 % 4)) + s.nat (Oid.TRIP_CAUSE (l.1 / 4) (l.1 % 4)) : Nat) : Int)) : DigestItem))

/-- Two values of an item differ: positions and demands by more than their limit (R335, R359, R584). -/
def State.differs (s : State) (k i : Nat) (a b : Int) : Bool :=
  if k = 5 then decide (s.nat (Oid.DOOR_BAND_MA i) < (a - b).natAbs)
  else if k = 6 then decide (2 * s.nat (Oid.ENC_NUM i) / max (s.nat (Oid.ENC_DEN i)) 1 + 1 < (a - b).natAbs)
  else a != b

/-- An item that the comparison skips: its block is in reset, on either module (R129, R584). -/
def skipped (rst k i : Nat) : Bool := (k == 4 || k == 5) && rst.testBit (12 + i) || (k == 6 && rst.testBit i)

/-- The blocks in reset on either module, as the digest of the twin and this module have them (R129). -/
def State.rstEither (s : State) (d : List DigestItem) : Nat :=
  s.nat Oid.BLOCK_IN_RST ||| (match d.find? (fun x => x.1 == 9) with
    | some x => x.2.2.toNat
    | none => 0)

/-- The items that differ on this tick; a frame heard in a transmit window of the active module differs where its data do (R290). -/
def State.different (s : State) (d : List DigestItem) : List (Nat × Nat) :=
  let own := s.digest
  let rst := s.rstEither d
  let vals := (d.filter (fun x => x.1 != 9 && !skipped rst x.1 x.2.1 && (match own.find? (fun y => y.1 == x.1 && y.2.1 == x.2.1) with
    | some y => s.differs x.1 x.2.1 x.2.2 y.2.2
    | none => true))).map (fun x => (x.1, x.2.1))
  let heard := s.can.flatMap (fun (c : Nat × CanCh) =>
    (c.2.heard.filter (fun h => s.blob (Oid.TXB_DATA c.1 (s.entHeld c.1 h.1).buffer) != h.2 && !rst.testBit (36 + c.1))).map
      (fun h => (3, h.1 * 8 + c.1)))
  vals ++ heard

/-- A divergence is recorded and its diagnosis begins (R584, R585). (DEDUCED, log entry 114.) -/
def State.diverge (s : State) (k i g : Nat) : State :=
  let s := (s.event 0x0608 k i g).count Oid.TW_DIVERGENCES 32
  { s with tw := { s.tw with diag := some (k, i, g), diagAt := s.clk, diagOwn := none, diagTwin := none, notDiverged := false, diffs := [] } }.emit
    (.twin 0x0A g (leBytes 2 k ++ leBytes 2 i ++ leBytes 4 g))

/-- The digest of a tick is compared; a difference on 3 consecutive ticks is a divergence (R584). (DEDUCED, log entry 114.) -/
def State.compareDigest (s : State) (g : Nat) (d : List DigestItem) : State :=
  let diffs := (s.different d).map (fun x =>
    let before := match s.tw.diffs.find? (fun y => y.1 == x.1 && y.2.1 == x.2) with
      | some y => y.2.2
      | none => 0
    (x.1, x.2, before + 1))
  let s := { s with tw := { s.tw with diffs := diffs }, can := s.can.map (fun (c : Nat × CanCh) => (c.1, { c.2 with heard := [] })) }
  if s.tw.diag.isSome || !s.tw.notDiverged then s
  else
    match diffs.find? (fun x => decide (3 ≤ x.2.2)) with
    | some x => s.diverge x.1 x.2.1 g
    | none => s

/-! ### Batches sent (R580, R581) -/

/-- The entry that marks an Energy item with the registers of a whole second (R506). -/
def wholeSecond : Nat := 0x7000F002

/-- The Energy item: residues and PO_OWED in every batch, and at each whole second the registers and the interval base (R506).
(DEDUCED, log entry 116.) -/
def State.energyItem (s : State) : BatchItem :=
  let outs := (List.range 20).filter (fun x => s.nat (Oid.PO_SRC x) != 0xFFFF)
  let pulses := outs.flatMap (fun x => [((Oid.PO_RESIDUE x).oid, s.get (Oid.PO_RESIDUE x)), ((Oid.PO_OWED x).oid, s.get (Oid.PO_OWED x))])
  let regs := if s.time / 100000 % 10000 = 0 then
      (wholeSecond, 0) :: s.objs.filter (fun e => decide (0x50040000 ≤ e.1 ∧ e.1 < 0x50044000 ∧ e.1 % 256 < 16))
        ++ s.met.ch.flatMap (fun (c : Nat × MetCh) => c.2.base.map (fun b => (0x50040080 + c.1 * 256 + b.1, (b.2 : Int))))
    else []
  .values 8 (pulses ++ regs) []

/-- The registered calls (R449). (DEDUCED, log entry 120.) -/
def State.dispatchItem (s : State) : BatchItem :=
  .dispatch (s.dsp.halls.map (fun h => (h.group, h.landing, h.down, h.car)))
    (s.dsp.calls.map (fun c => [c.group, c.terminal, c.seq, c.source, c.dest, c.flags, c.car, c.status, c.chan, boolNat c.picked, boolNat c.gone])) s.epCandidates

/-- The Time state item (R156). (DEDUCED, log entry 120.) -/
def State.timeItem (s : State) : BatchItem := .timeState (BitVec.ofNat 8 s.tb.status) s.tb.master s.tb.holdoverAt

/-- GEN of the present medium tick (R580). -/
def State.genNow (s : State) : Nat := s.time / 100000 % 4294967296

/-- The clock at the next medium tick, where that of the present one has closed its batch already. -/
def State.nextTick (s : State) : State := if s.genNow = s.tw.gen then s.cycles ((100000 - s.time % 100000 + 7) / 8) else s

/-- The batch closes and is sent; what waits for it is told its generation; at a planned handover it is the FINAL one (R575, R580).
(DEDUCED, log entry 120.) -/
def State.closeBatch (s : State) : State :=
  let s := s.nextTick
  let g := s.genNow
  if g = s.tw.gen then s
  else
    let items := s.tw.openBatch.reverse ++ [s.energyItem, s.dispatchItem, s.timeItem, .digest s.digest]
    let final := match s.tw.plan with
      | some (_, 0) => true
      | _ => false
    let mark := fun (r : PendReq) => if r.gen.isNone then { r with gen := some g } else r
    let s := { s with
      tw := { s.tw with
        gen := g, openBatch := [], kept := ((g, items) :: s.tw.kept).take 256
        plan := if final then s.tw.plan.map (fun (p : Nat × Nat) => (p.1, g + 1)) else s.tw.plan }
      acc := { s.acc with
        waits := s.acc.waits.map mark, held := s.acc.held.map mark
        aborts := s.acc.aborts.map (fun (a : PendAbort) => if a.gen.isNone then { a with gen := some g } else a) } }
    let s := s.setN Oid.TW_GEN g
    if s.up .twin then s.emit (.batch g s.time final false items) else s

/-- BATCH_SEND: at each medium tick, by the module that drives outputs (R580). -/
def execBatchSend (s : State) : Answer :=
  let s := s.start
  .next (if s.drives && s.up .net then s.closeBatch else s)

/-- A CONFIRM of generation `g`: the writes of that batch and of those before reach their commit point (R29, R449, R575, R674). -/
def State.takeConfirm (s : State) (g : Nat) : State :=
  let upTo := fun (x : Option Nat) => match x with
    | some a => genLe a g
    | none => false
  let s := (s.setN Oid.TW_CONFIRMED g)
  let s := { s with tw := { s.tw with confirmAt := s.clk, inStep := true } }
  let s := ((s.commitWaits (fun r => upTo r.gen)).answerAborts (fun a => upTo a.gen)).releaseHeld (some g)
  let s := s.resume
  match s.tw.plan with
  | some (_, f + 1) => if genLe f g then { s with tw := { s.tw with plan := none } }.release 0 else s
  | _ => s

/-- CONFIRM. -/
def execConfirm (hdr : TwinHdr) (gen : BitVec 32) (s : State) : Answer :=
  .next ((s.start.frameIn hdr (fun s => if s.drives then s.takeConfirm gen.toNat else s)).drain)

/-- NAK: the missing batches that are kept are sent again with RETRY (R583). -/
def execNak (hdr : TwinHdr) (first : BitVec 32) (count : Nat) (s : State) : Answer :=
  .next (s.start.frameIn hdr (fun s =>
    if s.drives then
      (s.tw.kept.reverse.filter (fun b => decide ((b.1 + 2 ^ 32 - first.toNat) % 2 ^ 32 < count))).foldl
        (fun s b => s.emit (.batch b.1 s.time false true b.2)) s
    else s))

/-- STANDBY_LOST: 2 ms without a CONFIRM (R583, R674). -/
def execStandbyLost (s : State) : Answer :=
  let s := s.start
  .next (if s.drives && s.tw.inStep then
      let s := (s.reach (s.tw.confirmAt + ms 2)).event 0x0607 (s.nat Oid.TW_CONFIRMED)
      ({ s with tw := { s.tw with inStep := false } }.standbyGone).drain
    else s)

/-- HANDOVER_CONFIRM_TIMEOUT: no CONFIRM of the FINAL batch within 2 ms: BUSY, and the held items proceed (R575). -/
def execHandoverConfirmTimeout (s : State) : Answer :=
  let s := s.start
  .next (match s.tw.plan with
    | none => s
    | some (t, _) =>
      let s := s.reach (t + ms 2)
      let s := match s.tw.planReq with
        | some r => s.answer r Status.busy.code []
        | none => s
      (s.heldProceed.resume).drain)

/-! ### Batches received (R581 to R583) -/

/-- The default of a scalar object. -/
def regDflt (oid : Nat) : Int :=
  match lookup oid with
  | some (r, _) => r.numAt oid
  | none => 0

/-- A lockout of the twin's S-pair holds here as well; a reset comes as the write that asks for it (R523, R524). -/
def State.takeLockout (s : State) (n : Nat) (v : Nat) : State :=
  let c := s.carSafe n
  (s.setCarSafe n { c with lockS := c.lockS ||| BitVec.ofNat 7 v }).setSwitches n

/-- A loop tripped on the active module trips here too, where it had not (R404, R407): the cause comes first in the batch. -/
def State.takeTripped (s : State) (j c : Nat) : State :=
  if s.nat (Oid.LOOP_MODE j c) = 2 then s else s.tripLoop c j (s.nat (Oid.TRIP_CAUSE j c))

/-- CAR_STATE of the active module: the trip that it shows runs here as well, and would not contribute after a handover (R23, R449, R509). -/
def State.takeCarState (s : State) (n v : Nat) : State :=
  let was := s.carState n
  let s := s.setN (Oid.CAR_STATE n) v
  if v = 3 ∧ was ≠ 3 then s.tripBegin n (s.carPos n ≤ s.targetPos n) false
  else if s.onTrip n then s
  else { s with met := { s.met with trips := s.met.trips.del n } }

/-- A value of one object as a batch carries it (R581). -/
def State.takeValue (kind : Nat) (s : State) (x : Nat × Int) : State :=
  let (oid, v) := x
  match lookup oid with
  | none =>
    if oid = wholeSecond then
      { s with objs := s.objs.filter (fun e => !decide (0x50040000 ≤ e.1 ∧ e.1 < 0x50044000 ∧ e.1 % 256 < 16))
               met := { s.met with ch := s.met.ch.map (fun c => (c.1, { c.2 with base := [] })) } }
    else if oid = 0x7000F001 then s.loadBlock (s.makeBlock v.toNat)
    else if 0x7000F100 ≤ oid ∧ oid < 0x7000F10C then s.takeLockout (oid - 0x7000F100) v.toNat
    else if 0x50040080 ≤ oid ∧ oid < 0x50044080 then
      let c := (oid - 0x50040080) / 256
      let m := Tbl.get {} s.met.ch c
      { s with met := { s.met with ch := s.met.ch.put {} c { m with base := m.base.put 0 ((oid - 0x50040080) % 256) v.toNat } } }
    else s
  | some (r, ix) =>
    let i := ix.headD 0
    let c := ix.getD 1 0
    if kind = 6 ∧ r.base = 0x80000000 then s.deliver i v
    else if r.base = 0x10011005 then (if v = 1 then s.armCompare i c else s.disarmCompare i c)
    else if r.base = 0x40000002 ∧ v = 2 then s.takeTripped i c
    else if r.base = 0x10030000 then s.takeCarState i v.toNat
    else if r.base = 0x50050006 then s.setOwed i v.toNat
    else if r.base = 0x40000002 ∧ v = 1 then (if s.loopMode c i = 0 then s.closeLoop c i else s)
    else s.set ⟨oid, regDflt oid⟩ v

/-- The bytes of one object as a batch carries them (R581). -/
def State.takeBytes (s : State) (x : Nat × List Byte) : State :=
  let (oid, b) := x
  if oid = Oid.LOG_DATA.oid then s.logPut { seq := leNat (b.take 8), bytes := b }
  else if oid = Oid.SAFETY_PW.oid then { s with saf := { s.saf with pw := some (BitVec.ofNat 128 (leNat (b.take 16)), b.drop 16) } }
  else if 0x50080086 ≤ oid ∧ oid < 0x50081000 ∧ oid % 256 = 0x86 then s.takeCov ((oid - 0x50080086) / 256) b
  else if oid = 0x7000F000 then s.wrongPw (BitVec.ofNat 256 (leNat b))
  else
    match lookup oid with
    | none => s.setBlob ⟨oid, []⟩ b
    | some (r, ix) =>
      let i := ix.headD 0
      if safetyParam r.base then s.applyParam (oid, b)
      else if r.base = 0x400000C0 then s.groupApply i b
      else if r.base = 0x10030009 then (s.setCar i { s.car i with queue := queueOf 64 b }).setBlob (Oid.CAR_QUEUE i) b
      else s.setBytes oid b

/-- Write items that a standby does not carry out: requests to the module that received them, and those whose effect comes as an item of
its own (R481, R542, R581). (DEDUCED, log entry 112.) -/
def notOnStandby : List Nat :=
  [0x00000110, 0x00000120, 0x00000502, 0x00000520, 0x00000801, 0x00000802, 0x00000804, 0x01400005, 0x01780003, 0x08000110, 0x08000111,
   0x08001000, 0x08001001, 0x10030004, 0x20000300, 0x20000302, 0x50040011, 0x50060004, 0x70000003, 0x70000005, 0x70000007, 0x70030002,
   0x7C000103]

/-- The entry of a Write item. -/
def itemEntry (b : BatchItem) : Option (Nat × WEntry) :=
  match b with
  | .write _ ses _ _ oid prio relinq dflt v => some (ses, { oid := oid.toNat, prio := prio, relinq := relinq, dflt := dflt, data := v })
  | _ => none

/-- One staged write is applied (R674). (DEDUCED, log entry 112.) -/
def State.applyStaged (s : State) (b : BatchItem) : State :=
  match itemEntry b with
  | none => s
  | some (ses, e) =>
    let base := match lookup e.oid with
      | some (r, _) => r.base
      | none => 0
    if notOnStandby.contains base || safetyParam base then s
    else if base = 0x10030002 then s.setBytes e.oid e.data
    else s.applyEntries { part := 0, ses := ses } [e]

/-- The staged writes of the generations that `p` picks out are applied, in order (R674). (DEDUCED, log entry 121.) -/
def State.applyStages (s : State) (p : Nat → Bool) : State :=
  (s.tw.staged.filter (fun x => p x.1)).foldl (fun s x => s.applyStaged x.2)
    { s with tw := { s.tw with staged := s.tw.staged.filter (fun x => !p x.1) } }

/-- A staged write that a Withdraw item names. -/
def withdrawn (fpr : BitVec 256) (req : BitVec 32) (b : BatchItem) : Bool :=
  match b with
  | .write _ _ r f _ _ _ _ _ => r == req && f == fpr
  | _ => false

/-- A launch that the active module has emitted: its value reaches the standby's state, and the copy is removed (R30, R163). -/
def State.takeOutcome (s : State) (part tag : Nat) (refused : Bool) : State :=
  match s.heldTag part tag with
  | none => s
  | some l =>
    if !l.live then s
    else if refused then s.endLaunch l .refused
    else
      let q : Rights := { internal := true }
      let e := l.action false
      let apply := fun (s : State) (o : Nat) => s.applyEntries q [{ oid := o, prio := e.prio, relinq := e.relinq, data := s.emitValue o e.value }]
      let s := match s.broadcast e.oid with
        | some m => m.foldl apply s
        | none => apply s e.oid
      s.endLaunch l .emitted

/-- An item of the ledger that the standby does not hold from its own work, a session of the active module; and an item that it holds, which
has gone to its other path there (R30, R234, R581). (DEDUCED, log entry 121.) -/
def State.takeAdmit (s : State) (kind num cls : Nat) (ch : List (Nat × Nat)) : State :=
  match s.pts.items.find? (fun i => itemCode i.kind == (kind, num)) with
  | some i => if i.charges ≠ ch ∧ i.altCharges = ch then s.setItem i.swap else s
  | none => if kind = 4 then s.addItem { id := 0, kind := .session num, cls := cls, charges := ch } else s

/-- An item of the ledger is degraded or restored (R28, R30). -/
def State.takeDegrade (s : State) (kind num : Nat) (b : Bool) : State :=
  (s.pts.items.filter (fun i => itemCode i.kind == (kind, num))).foldl (fun s i => (s.setItem { i with degraded := b }).markDegraded i.kind) s

/-- The standby's own check of a Write item: its objects exist, and take a value of its type and range, once the writes staged before it are
applied (R674). (DESIGN CHOICE, log entry 135.) -/
def State.stageable (s : State) (e : WEntry) : Bool :=
  let s := s.tw.staged.foldl (fun s x => s.applyStaged x.2) s
  (s.launchTargets e.oid).all (fun o => match findObject o with
    | none => false
    | some (r, ix) => match s.tyOf r ix with
      | none => false
      | some t => e.relinq || (valueCheck r t (writeBytes r o t e.dflt e.data)).isNone)

/-- A Write item is checked and staged (R582, R674). (DESIGN CHOICE, log entry 135.) -/
def State.stage (s : State) (g : Nat) (b : BatchItem) : State :=
  match itemEntry b with
  | some (_, e) => if s.stageable e then { s with tw := { s.tw with staged := s.tw.staged ++ [(g, b)] } } else s
  | none => s

/-- A step of the active module under R150 or R152: this time base steps with it, at the same instant of the time base (R155). -/
def State.takeStep (s : State) (t at' : Nat) : State := s.stepTime (t + s.time - at')

/-- The cars whose start waits on the active module (R449). -/
def State.takeWaits (s : State) (ws : List Nat) : State :=
  (List.range 12).foldl (fun s n => if (s.car n).waiting == ws.contains n then s else s.setCar n { s.car n with waiting := ws.contains n }) s

/-- The instant of the time base that a generation names (R580). -/
def State.genTime (s : State) (g : Nat) : Nat :=
  let n := s.time / 100000
  let late := (n + 4294967296 - g) % 4294967296
  (if late < 2147483648 then n - late else n + (4294967296 - late)) * 100000

/-- The Energy item: the active module's values at the batch's instant, and this module's own accumulation since then (R506). -/
def State.takeEnergy (s : State) (t : Nat) (nums : List (Nat × Int)) : State :=
  let s := nums.foldl (State.takeValue 8) s
  let s := if nums.any (fun x => x.1 == wholeSecond) then s.resumeRegs t else s
  ((List.range 20).filter (fun x => s.nat (Oid.PO_SRC x) != 0xFFFF)).foldl (State.resumePulse · t ·) s

/-- One item of a batch (R581). (DEDUCED, log entry 116.) -/
def State.takeItem (g : Nat) (s : State) (b : BatchItem) : State :=
  match b with
  | .write _ _ _ _ _ _ _ _ _ => s.stage g b
  | .values 0x0E [(_, t), (_, at')] [] => s.takeStep t.toNat at'.toNat
  | .launchAccept part d => s.acceptLaunch part d
  | .launchCancel part tag => s.cancelLaunch part tag.toNat
  | .launchOutcome part tag refused => s.takeOutcome part tag.toNat refused
  | .ledgerAdmit k n cls ch => s.takeAdmit k n cls ch
  | .ledgerRemove k n => if k = 4 then s.dropItems (fun i => i.kind == .session n) else s
  | .ledgerDegrade k n d => s.takeDegrade k n d
  | .subscribe h part fpr point sub cls minInt inc life port bac =>
    if s.pts.subs.any (fun (x : Sub) => x.handle == h) then s
    else
      let x : Sub := { handle := h, part := part, fpr := fpr, point := point, sub := sub, cls := cls, minInt := minInt, inc := inc, life := life
                       atNs := s.clk, ses := none, closedAt := s.clk, port := port, bacnet := bac }
      { s with pts := { s.pts with subs := s.pts.subs ++ [x], nextHandle := h % 4294967295 + 1 } }.addItem (s.subItem h cls minInt port)
  | .unsubscribe h => s.removeSub h
  | .dispatch halls calls waits =>
    State.takeWaits { s with dsp := { s.dsp with
        halls := halls.map (fun h => { group := h.1, landing := h.2.1, down := h.2.2.1, car := h.2.2.2 })
        calls := calls.map (fun c => { group := c.getD 0 0, terminal := c.getD 1 0, seq := c.getD 2 0, source := c.getD 3 0, dest := c.getD 4 0
                                       flags := c.getD 5 0, car := c.getD 6 0, status := c.getD 7 0, chan := c.getD 8 0, atNs := s.clk
                                       picked := c.getD 9 0 == 1, gone := c.getD 10 0 == 1 }) } } waits
  | .values 8 nums [] => s.takeEnergy (s.genTime g) nums
  | .values k nums blobs => blobs.foldl State.takeBytes (nums.foldl (State.takeValue k) s)
  | .digest d => s.compareDigest g d
  | .committed fpr req st => s.recordCommitted fpr req st.toNat
  | .blockReset v => s.blockRst v.toNat
  | .testRequest t => { s with testQueue := s.testQueue ++ [(t, 0)] }
  | .firmware oid v => s.fwFromTwin oid v
  | .timeState st gm h => { s with tb := { s.tb with twinStatus := st.toNat, twinMaster := gm, twinHoldover := h } }
  | .withdraw fpr req => { s with tw := { s.tw with staged := s.tw.staged.filter (fun x => !withdrawn fpr req x.2) } }

/-- A batch is applied and confirmed: the writes staged before, but for those it withdraws, then its items (R582, R674). -/
def State.applyBatch (s : State) (g : Nat) (items : List BatchItem) : State :=
  let gone := items.filter (fun b => match b with
    | .withdraw _ _ => true
    | _ => false)
  let s := gone.foldl (State.takeItem g) s
  let s := s.applyStages (fun x => x != g)
  let s := items.foldl (State.takeItem g) s
  let s := { s with tw := { s.tw with applied := g, confirmAt := s.clk, lacking := none } }
  ((s.setN Oid.TW_GEN g).setN Oid.TW_CONFIRMED g).emit (.twin 0x02 g [])

/-- The batches held that follow in generation order are applied, at most `k` of them (R580, R583). -/
def State.applyStored : Nat → State → State
  | 0, s => s
  | k + 1, s =>
    let g := (s.tw.applied + 1) % 2 ^ 32
    match s.tw.stored.find? (fun b => b.1 == g) with
    | none => s
    | some b => State.applyStored k ({ s with tw := { s.tw with stored := s.tw.stored.filter (fun x => x.1 != g) } }.applyBatch g b.2)

/-- A batch arrives at a standby in step: applied in its order; a later one is held and the missing ones asked for (R582, R583). -/
def State.batchInStep (s : State) (g : Nat) (items : List BatchItem) : State :=
  let next := (s.tw.applied + 1) % 2 ^ 32
  let held := s.tw.stored.any (fun b => b.1 == g)
  if genLe g s.tw.applied || held then s
  else if g = next then
    let s := s.applyBatch g items
    let s := State.applyStored s.tw.stored.length s
    if s.tw.stored = [] then s else { s with tw := { s.tw with lacking := some s.clk } }
  else
    let n := (g + 2 ^ 32 - next) % 2 ^ 32
    { s with tw := { s.tw with
        stored := s.tw.stored ++ [(g, items)]
        lacking := match s.tw.lacking with
          | some t => some t
          | none => some s.clk } }.emit (.twin 0x03 g (leBytes 4 next ++ leBytes 2 (min n 65535) ++ [0, 0]))

/-- A frame of the twin that carries its TIME64: a standby disciplines its time base by it, corrected by the link delay (R155). -/
def State.twinTimed' (s : State) (rtt t : Nat) : State :=
  let s := { s with tb := { s.tb with twinTime := t + rtt / 2, twinAt := s.clk } }
  if s.mode == .standby then (s.showOffset ((s.time : Int) - (s.twinNow : Int))).slew else s

/-- A BATCH on a standby: its TIME64 disciplines the time base, and it is applied, or stored while it resynchronises (R155, R582, R588).
(DEDUCED, log entry 110.) -/
def State.takeBatch (s : State) (g sentAt : Nat) (items : List BatchItem) : State :=
  if s.mode != .standby then s
  else
  let s := s.twinTimed' (s.nat Oid.TW_RTT_NS) sentAt
  if s.tw.joining then { s with tw := { s.tw with joining := false } }.applyBatch g items
  else if s.nat Oid.TW_RESYNC = 1 then { s with tw := { s.tw with stored := s.tw.stored ++ [(g, items)] } }
  else if s.tw.mirror then s.batchInStep g items
  else s

/-- BATCH. -/
def execBatch (hdr : TwinHdr) (b : BatchMsg) (s : State) : Answer :=
  .next ((s.start.frameIn hdr (fun s => s.takeBatch hdr.gen.toNat b.sentAt.toNat b.items)).drain)

/-! ### Resynchronisation (R588 to R591) -/

/-- A standby asks for the state: its time base steps where it is more than 1 µs off (R155, R588). -/
def State.resync (s : State) (cause : Nat) : State :=
  let off := s.tb.twinAt != 0 && decide (1000 < ((s.time : Int) - (s.twinNow : Int)).natAbs)
  let s := if off then s.stepTime s.twinNow else s
  let s := { s with tw := { s.tw with
    mirror := false, fullState := false, resyncCause := cause, resyncAt := s.clk, stored := [], streamed := [], staged := [], lacking := none
    diffs := [], pieces := [] } }
  ((s.setN Oid.TW_RESYNC 1).event 0x060A cause).emit (.twin 0x0C s.tw.gen (leBytes 4 Config.fwVersion.toNat))

/-- MIRROR_TIMEOUT: a standby that has lacked a batch for 2 ms (R583). -/
def execMirrorTimeout (s : State) : Answer :=
  let s := s.start
  .next (if s.mode == .standby && s.tw.mirror then
      let t := match s.tw.lacking with
        | some t => t
        | none => s.tw.confirmAt
      (s.reach (t + ms 2)).resync 1
    else s)

/-- An object of the relevant state (R589): configuration and points, loops, groups and dispatch, safety parameters and lockouts,
telegram numbers, car models, energy registers and residues, and the CAN event buffers. -/
def streamed (oid : Nat) : Bool :=
  match lookup oid with
  | none => false
  | some (r, _) =>
    r.kept == .config || r.kept == .safety || r.kept == .point
      || [0x40000002, 0x40000025, 0x4000000F, 0x10030000, 0x10030001, 0x10030002, 0x10030003, 0x10030007, 0x10030008, 0x10030009,
          0x70020002, 0x50050004, 0x50050006, 0x50080000, 0x50080001, 0x50080002, 0x50080003, 0x01780000, 0x01780001, 0x01780002, 0x01780004,
          0x01780005, 0x80000005, 0x80000010, 0x80000020, 0x80000021, 0x80000025].contains r.base
      || decide (0x50040000 ≤ r.base ∧ r.base < 0x50040010)

/-- A launch as its descriptor (R159). -/
def Launch.bytes (l : Launch) : List Byte :=
  (l.value ++ List.replicate 14 0).take 14 ++ leBytes 1 l.value.length ++ leBytes 1 l.prio ++ leBytes 4 l.tag ++ leBytes 4 l.target ++ leBytes 8 l.time

/-- The active configuration set, with its digest, as streamed state carries it (R589, R590). (DEDUCED, log entry 111.) -/
def State.setItemOf (s : State) : List BatchItem :=
  if s.cfgValid then [.values 0x10 [] [(Oid.CFG_LOAD.oid, setBytesOf s.mem.active), (Oid.CFG_HASH.oid, s.blob Oid.CFG_HASH)]] else []

/-- The relevant state as items of a batch (R589). (DEDUCED, log entry 111.) -/
def State.relevantItems (s : State) : List BatchItem :=
  s.setItemOf ++ [.values 0 (s.objs.filter (fun e => streamed e.1)) (s.blobs.filter (fun e => streamed e.1)), .blockReset (BitVec.ofNat 64 (s.nat Oid.BLOCK_RST))]
    ++ s.acc.journal.map (fun e => .write 0 0xFF 0 0 (BitVec.ofNat 32 e.oid) e.prio e.relinq e.dflt e.data)
    ++ (s.launches.filter (·.live)).map (fun l => .launchAccept l.part l.bytes) ++ s.pts.subs.map Sub.item
    ++ s.acc.committed.reverse.map (fun c => .committed c.fpr c.req (BitVec.ofNat 8 c.status)) ++ [s.dispatchItem, s.timeItem]
    ++ (match s.saf.pw with
      | some (x, h) => [.values 9 [(Oid.PW_SET.oid, 1)] [(Oid.SAFETY_PW.oid, leBytes 16 x.toNat ++ h)]]
      | none => [])
    ++ s.saf.wrong.flatMap (fun w => w.2.map (fun _ => .values 9 [] [(0x7000F000, leBytes 32 w.1.toNat)]))
    ++ [.values 9 ((0x7000F001, (s.saf.gen : Int)) :: s.saf.cars.map (fun c => (0x7000F100 + c.1, (c.2.lockS.toNat : Int)))) []]

/-- The full state adds the change log; the point records in LPDDR5 are those of phase 1 in this model (R589).
(DEDUCED, log entry 111.) -/
def State.fullItems (s : State) : List BatchItem := s.saf.log.reverse.map (fun e => .values 9 [] [(Oid.LOG_DATA.oid, e.bytes)])

/-- RESYNC_REQ: g0 is fixed, the state is streamed, and batches go on being sent from g0 + 1 (R588). (DEDUCED, log entry 111.) -/
def State.stream (s : State) : State :=
  let g := s.tw.gen
  let fin := fun (p : Nat) => leBytes 1 p ++ [0, 0, 0] ++ leBytes 4 g
  ((({ s with tw := { s.tw with g0 := g } }.emit (.stream 1 0 s.relevantItems)).emit (.twin 0x0E g (fin 1))).emit (.stream 2 0 s.fullItems)).emit
    (.twin 0x0E g (fin 2))

/-- RESYNC_REQ. -/
def execResyncReq (hdr : TwinHdr) (fw : BitVec 32) (s : State) : Answer :=
  .next (s.start.frameIn hdr (fun s => if s.drives then (s.setN Oid.TW_TWIN_FW fw.toNat).stream else s))

/-- RESYNC_DATA: a piece of the streamed state is stored; the copy of the other lane adds nothing (R577, R589). -/
def execResyncData (hdr : TwinHdr) (region offset : Nat) (data : List BatchItem) (s : State) : Answer :=
  .next (s.start.frameIn hdr (fun s =>
    if s.mode == .standby && (s.nat Oid.TW_RESYNC == 1 || s.nat Oid.TW_RESYNC == 2) && !s.tw.pieces.contains (region, offset) then
      { s with tw := { s.tw with streamed := s.tw.streamed ++ data, pieces := s.tw.pieces ++ [(region, offset)] } }
    else s))

/-- One register of the streamed state: a configuration object takes it as a write would, any other directly. -/
def State.takeReg (s : State) (x : Nat × Int) : State :=
  match lookup x.1 with
  | none => s
  | some (r, ix) =>
    if s.get ⟨x.1, r.numAt x.1⟩ = x.2 then s
    else if r.kept = .config then
      (match s.tyOf r ix with
        | some t => s.applyObject {} { oid := x.1, data := t.enc x.2 }
        | none => s)
    else s.takeValue 0 x

/-- The same of a byte string. -/
def State.takeBlob (s : State) (x : Nat × List Byte) : State :=
  match lookup x.1 with
  | none => s
  | some (r, _) =>
    if s.blob ⟨x.1, r.octAt x.1⟩ = x.2 then s
    else if r.kept = .config then s.applyObject {} { oid := x.1, data := x.2 }
    else s.takeBytes x

/-- The registers that the streamed state does not list read their defaults. -/
def State.clearUnlisted (s : State) (nums : List (Nat × Int)) (blobs : List (Nat × List Byte)) : State :=
  let s := (s.objs.filter (fun e => streamed e.1 && !nums.any (fun x => x.1 == e.1))).foldl (fun s e => s.takeReg (e.1, regDflt e.1)) s
  (s.blobs.filter (fun e => streamed e.1 && !blobs.any (fun x => x.1 == e.1))).foldl (fun s e =>
    match lookup e.1 with
    | some (r, _) => s.takeBlob (e.1, r.octAt e.1)
    | none => s) s

/-- A set that differs from this module's active one goes into the inactive slot and becomes the active one; its values and its SLA block follow
with the registers (R590). -/
def State.takeSet (s : State) (set hash : List Byte) : State :=
  if s.cfgValid && s.blob Oid.CFG_HASH == hash then s
  else
    let s := { s with
      mem := { s.mem with slot := s.mem.active, active := writeAt [] 0 set, slotBad := [], activeBad := false, journalBad := none }, cfgValid := true }
    ((s.setN Oid.CFG_ACTIVE_SLOT (1 - s.nat Oid.CFG_ACTIVE_SLOT)).setN Oid.CFG_STATE 0).setBlob Oid.CFG_HASH hash

/-- One item of the streamed state; a Write item there is an entry of the change journal (R589). -/
def State.takeStreamed (g : Nat) (s : State) (b : BatchItem) : State :=
  match b with
  | .values 0x10 _ [(_, set), (_, hash)] => s.takeSet set hash
  | .values 0 nums blobs => blobs.foldl State.takeBlob (nums.foldl State.takeReg (s.clearUnlisted nums blobs))
  | .write _ _ _ _ oid prio relinq dflt v =>
    { s with acc := { s.acc with
        journal := s.acc.journal ++ [{ oid := oid.toNat, prio := prio, relinq := relinq, dflt := dflt, data := v }] } }
  | b => s.takeItem g b

/-- The end of phase 1: the relevant state replaces the standby's, the stored batches follow in order, and MIRROR is set (R588, R590). -/
def State.endPhase1 (s : State) (g : Nat) : State :=
  let items := s.tw.streamed
  let s := { s with
    launches := [], saf := { s.saf with wrong := [], locked := [] }, acc := { s.acc with committed := [], journal := [] }
    pts := { s.pts with subs := [] }, tw := { s.tw with streamed := [] } }
  let s := s.dropItems (fun i => match i.kind with
    | .subscription _ | .launch _ _ | .session _ => true
    | _ => false)
  let s := items.foldl (State.takeStreamed g) s
  let s := { s with tw := { s.tw with
    applied := g, g0 := g, stored := s.tw.stored.filter (fun b => !genLe b.1 g), mirror := true, configEq := true, notDiverged := true, confirmAt := s.clk
    phase1Ms := (s.clk - s.tw.resyncAt) / 1000000 } }
  let s := (s.setN Oid.TW_RESYNC 2).setN Oid.TW_GEN g
  State.applyStored s.tw.stored.length s

/-- The end of phase 2: FULL_STATE, and RESYNC_DONE (R588). -/
def State.endPhase2 (s : State) : State :=
  let items := s.tw.streamed
  let s := { s with saf := { s.saf with log := [] }, tw := { s.tw with streamed := [], fullState := true } }
  let s := items.foldl (State.takeStreamed s.tw.g0) s
  let all := (s.clk - s.tw.resyncAt) / 1000000
  ((s.setN Oid.TW_RESYNC 3).setN Oid.TW_RESYNC_MS all).event 0x060B s.tw.phase1Ms (all - s.tw.phase1Ms) s.tw.g0

/-- RESYNC_END (R588). -/
def execResyncEnd (hdr : TwinHdr) (phase : Nat) (g0 : BitVec 32) (s : State) : Answer :=
  .next ((s.start.frameIn hdr (fun s =>
    if s.mode != .standby then s
    else if phase = 1 ∧ s.nat Oid.TW_RESYNC = 1 then s.endPhase1 g0.toNat
    else if phase = 2 ∧ s.nat Oid.TW_RESYNC = 2 then s.endPhase2
    else s)).drain)

/-! ### Divergence (R585) -/

/-- The outcome of a diagnosis, once both results are there (table Divergence outcome); a divergence that leads to no resynchronisation awaits
none (NOT_DIVERGED, R558). -/
def State.diagOutcome (s : State) : State :=
  match s.tw.diagOwn, s.tw.diagTwin with
  | some own, some twin =>
    let s := { s with tw := { s.tw with diag := none, diagOwn := none, diagTwin := none } }
    let s := s.event 0x0609 (boolNat own.1) (boolNat twin.1) (if own.1 then own.2 else twin.2)
    if s.drives then (if own.1 && !twin.1 then s.releaseIfHealthy 8 else s)
    else if s.mode != .standby then s
    else if own.1 || twin.1 then { s with tw := { s.tw with failed := s.tw.failed || own.1, notDiverged := true } }
    else s.resync 2
  | _, _ => s

/-- DIVERGE: this module's diagnosis begins (R585). -/
def execDiverge (hdr : TwinHdr) (kind : Byte) (item gen : BitVec 32) (s : State) : Answer :=
  .next (s.start.frameIn hdr (fun s =>
    if s.booted && s.tw.diag.isNone then
      { s with tw := { s.tw with diag := some (kind.toNat, item.toNat, gen.toNat), diagAt := s.clk, diagOwn := none, diagTwin := none } }
    else s))

/-- DIAGNOSIS_END: the result is sent to the twin (R585). -/
def execDiagnosisEnd (fail : Bool) (check : Byte) (s : State) : Answer :=
  let s := s.start
  .next (if s.tw.diag.isSome && s.tw.diagOwn.isNone then
      ({ s with tw := { s.tw with diagOwn := some (fail, check.toNat) } }.emit
        (.twin 0x0B s.tw.gen (leBytes 1 (boolNat fail) ++ leBytes 1 check.toNat ++ [0, 0]))).diagOutcome
    else s)

/-- DIAG: the twin's result (R585). -/
def execDiag (hdr : TwinHdr) (fail : Bool) (check : Byte) (s : State) : Answer :=
  .next (s.start.frameIn hdr (fun s =>
    if s.tw.diag.isSome then { s with tw := { s.tw with diagTwin := some (fail, check.toNat) } }.diagOutcome else s))

/-- DIAG_TIMEOUT: a result that has not arrived within 200 ms counts as fail (R585). -/
def execDiagTimeout (s : State) : Answer :=
  let s := s.start
  .next (if s.tw.diag.isSome then
      let s := s.reach (s.tw.diagAt + ms 200)
      let or := fun (x : Option (Bool × Nat)) => match x with
        | some y => some y
        | none => some (true, 0)
      { s with tw := { s.tw with diagOwn := or s.tw.diagOwn, diagTwin := or s.tw.diagTwin } }.diagOutcome
    else s)

/-! ### The standby's own tests, its time and its lanes (R155, R577, R586) -/

/-- PULSE_TEST: one of its own outputs, once per TW_PULSE_PERIOD, and never two within 1 ms (R586). -/
def execPulseTest (bit : Fin 128) (conducts blocks : Bool) (s : State) : Answer :=
  let s := s.start
  let b := bit.val
  .next (if s.mode == .standby && s.up .safe && s.tw.guard.isNone && s.outputBit b then
      let s := s.reach (max (s.tw.lastPulse + ms 1) (Tbl.get 0 s.tw.pulseAt b + sec (s.nat Oid.TW_PULSE_PERIOD)))
      let bad := if conducts && blocks then s.tw.pulseBad &&& ~~~ BitVec.twoPow 128 b else s.tw.pulseBad ||| BitVec.twoPow 128 b
      let s := { s with tw := { s.tw with pulseAt := s.tw.pulseAt.put 0 b s.clk, lastPulse := s.clk, pulseBad := bad } }
      let s := if blocks then s else s.event 0x060C b 0
      let s := if conducts then s else s.event 0x060C b 1
      s.showOutputTest
    else s)

/-- A TIME frame: the link delay by round trip; a standby disciplines its time base by it (R155). -/
def State.twinTime (s : State) (rtt t : Nat) : State := (s.setN Oid.TW_RTT_NS rtt).twinTimed' rtt t

/-- TWIN_TIME_FRAME. -/
def execTwinTimeFrame (hdr : TwinHdr) (rttNs : Nat) (twinTime : BitVec 64) (s : State) : Answer :=
  .next (s.start.frameIn hdr (fun s => s.twinTime rttNs twinTime.toNat))

/-- A lane loses or regains training (R69, R577). -/
def State.lane (s : State) (l : Nat) (up swapped inverted : Bool) : State :=
  let was := s.healthyStandby
  let old := s.bit Oid.TW_LANES l
  let s := s.setBit Oid.TW_LANES l up
  let s := if up then (s.setBit Oid.TW_LANES 2 swapped).setBit Oid.TW_LANES 3 inverted else s
  if old = up then s
  else
    let s := s.event 0x0606 l (boolNat up)
    let s := if up then s.acctUp (8 + l) else s.acctDown (8 + l)
    let s := if !s.bit Oid.TW_LANES 0 && !s.bit Oid.TW_LANES 1 then { s with tw := { s.tw with inStep := false } } else s
    s.ifLost was

/-- TW_LANE. -/
def execTwLane (lane : Fin 2) (up swapped inverted : Bool) (s : State) : Answer :=
  let s := s.start
  .next (if s.up .twin then (s.lane lane.val up swapped inverted).drain else s)

end Sys2Proof.Machine
end

