-- ==== Sys2Proof/Machine/Handover.lean ====
section
/-! DEFINITION. Giving up and taking over control: the hold behind ACTIVE_OUT, the interlock, EQUINOX, hold and pass, and the planned
handover (R71, R121, R336, R553 to R556, R561 to R576). -/

namespace Sys2Proof.Machine

/-! ### The hold (R35, R36, R554, R555) -/

/-- The S-pair refreshes the hold: no reset source is asserted, no release waits, and the module drives outputs (R554). -/
def State.mayRefresh (s : State) : Bool := s.tw.activeOut && s.drives && s.rst.asserted == 0 && s.rst.pendingRel.isNone

/-- ACTIVE_OUT_REFRESH: every 1,000 µs; the heartbeat follows (R518, R554, R555). -/
def execActiveOutRefresh (s : State) : Answer :=
  let s := s.start
  .next (if !s.booted then s
    else if s.mayRefresh then
      let s := s.reach (s.tw.refreshAt + us 1000)
      { s with tw := { s.tw with refreshAt := s.clk } }.sendHeartbeat
    else s.sendHeartbeat)

/-- The hold expires: ACTIVE_OUT falls, and REFRESH_LAPSE is asserted, once the twin has taken over where one can (R36, R121).
(DEDUCED, log entry 115.) -/
def State.lapse (s : State) : State :=
  let s := s.reach (s.tw.refreshAt + us 1100)
  let waits := s.drives && s.healthyStandby
  let s := (s.release 1).setAllSwitches
  if waits then { s with rst := { s.rst with pendingRel := some ([7], s.clk) } } else s.doReset 7

/-- REFRESH_LAPSE. (DEDUCED, log entry 115.) -/
def execRefreshLapse (s : State) : Answer :=
  let s := s.start
  .next (if s.tw.activeOut then s.lapse else s)

/-! ### The interlock (R71, R556, R563) -/

/-- The standby is fit to take over: healthy in its own reckoning, and it has confirmed a batch within 2 ms (R560, R563). -/
def State.mayTake (s : State) : Bool := s.selfHealthy && !s.passed s.tw.confirmAt (ms 2 + 1)

/-- ACTIVE_IN falls, seen after `recogNs`; `rel` is what a RELEASE frame says: cause and TIME64 of detection. A test pulse and a full
test end, and a standby starts its guard (R548, R556, R563, R587). -/
def State.inFalls (s : State) (recogNs : Nat) (rel : Option (BitVec 8 × BitVec 64)) : State :=
  let s := (s.setN Oid.TW_RECOG_NS recogNs).selfTestEnd 5
  let (c, t) := match rel with
    | some (c, t) => (c.toNat, t.toNat)
    | none => (0, s.time - recogNs)
  let s := { s with tw := { s.tw with relCause := c, relTime := t } }
  let s := if s.mode == .standby && s.tw.released.isNone then
      { s with tw := { s.tw with guard := some s.clk, guardHealthy := s.mayTake } }
    else s
  s.setAllSwitches

/-- ACTIVE_IN_FALL. (DEDUCED, log entry 108.) -/
def execActiveInFall (recogNs : Nat) (rel : Option (BitVec 8 × BitVec 64)) (s : State) : Answer :=
  let s := s.start
  .next (if s.pd .aon && s.tw.activeIn then ({ s with tw := { s.tw with activeIn := false, ilkFault := 0, ilkShut := false } } : State).inFalls recogNs rel else s)

/-- The guard ends without a takeover (R563). -/
def State.abandon (s : State) : State :=
  { s with tw := { s.tw with guard := none } }.event 0x0603 s.summary s.interlock

/-- The twin has taken over: a planned handover is answered, an ABORT that came too late is told so, sessions on the pair addresses
close, and this module goes on as the standby (R573, R575, R576). -/
def State.handedOver (s : State) : State :=
  let s := match s.tw.planReq with
    | some r => (s.answer r 0 []).recordCommitted r.fpr r.req 0
    | none => s
  let s := match s.tw.abortHo with
    | some (n, req) => s.resp n 0x14 req .tooLate []
    | none => s
  let s := s.lineTestsStop.closeAll 5
  let s := { s with
    acc := { s.acc with held := [], waits := [], aborts := [], sdoWindow := 0 }, dsp := { s.dsp with held := [] }
    tw := { s.tw with planReq := none, abortHo := none, plan := none, openBatch := [], mirror := true, fullState := true, joining := true,
                      inStep := false, confirmAt := s.clk } }
  ({ s with tb := { s.tb with master := false } }.setStatus 5).resume

/-- Position A of a pair: by the strap, or with equal positions the module with the lower ID_SERIAL (R133, R135). -/
def State.actsAsA (s : State) : Bool := if s.tw.clash then decide (Config.serial.toNat < s.tw.twinSerial) else s.position == 0

/-- Position B asserted ACTIVE_OUT within 1 ms of the twin: it deasserts and waits in BOOT under R38; the change of state is
recorded with the trigger of start-up (R37, R135, R140). (DESIGN CHOICE, log entry 136.) -/
def State.yield (s : State) : State :=
  { s with rst := { s.rst with complete := false }, tw := { s.tw with activeOut := false, waiting := true, assertedAt := none } }.enter .boot 0

/-- ACTIVE_IN rises (R121, R135, R556, R563). -/
def State.inRises (s : State) (recogNs : Nat) : State :=
  let s := { (s.setN Oid.TW_RECOG_NS recogNs) with tw := { s.tw with inSince := s.clk } }
  let s := if s.tw.guard.isSome then s.abandon else s
  let clash := match s.tw.assertedAt with
    | some t => s.tw.activeOut && !s.actsAsA && !s.passed t (ms 1)
    | none => false
  let s := if clash then s.yield else s
  let s := { s with tw := { s.tw with watch := none, assertedAt := none, waiting := s.tw.waiting || s.tw.watch.isSome } }
  let s := if s.tw.released.isSome && s.mode == .standby then s.handedOver else s
  (s.endRelease).setAllSwitches

/-- ACTIVE_IN_RISE. -/
def execActiveInRise (recogNs : Nat) (s : State) : Answer :=
  let s := s.start
  .next (if s.pd .aon && !s.tw.activeIn then ({ s with tw := { s.tw with activeIn := true, ilkFault := 0, ilkShut := false } } : State).inRises recogNs else s)

/-- The reading of a loop current in µA: 0 deasserted, 1 asserted, 2 open, 3 short, 4 out of range (R70). -/
def loopReading (ua : Nat) : Nat :=
  if ua < 500 then 2 else if 15000 < ua then 3 else if 1500 ≤ ua ∧ ua ≤ 3000 then 0 else if 8000 ≤ ua ∧ ua ≤ 12000 then 1 else 4

/-- The loop takes a reading: a valid one is ACTIVE_IN and ends a fault; a fault is recorded, leaves the gate as it is, and is read as R71 says.
What follows from a fall or a rise of the reading follows here too (R70, R71, R556, R563). (DEDUCED, log entry 119.) -/
def State.takeReading (s : State) (f : Nat) : State :=
  let was := s.activeIn
  let s := if f ≤ 1 then { s with tw := { s.tw with activeIn := f == 1, ilkFault := 0, ilkShut := false } }
    else
      let shut := if s.tw.ilkFault = 0 then s.tw.activeOut && s.tw.activeIn else s.tw.ilkShut
      { s with tw := { s.tw with ilkFault := f, ilkShut := shut } }.event 0x0605 f (boolNat s.tw.activeOut)
  let n := s.nat Oid.TW_RECOG_NS
  if was && !s.activeIn then s.inFalls n none else if !was && s.activeIn then s.inRises n else s.setAllSwitches

/-- ILK_LOOP_FAULT: the current of the interlock loop; out of every range it is a fault once it has lasted 10 µs (R70, R71).
(DEDUCED, log entry 119.) -/
def execIlkLoopFault (microAmps : Nat) (s : State) : Answer :=
  let s := s.start
  let f := loopReading microAmps
  .next (if !s.pd .aon || s.interlock == f then s
    else (if f = 4 then s.reach (s.clk + us 10 + 1) else s).takeReading f)

/-! ### EQUINOX (R156, R245, R563 to R568) -/

/-- The outputs of a kind of read-back window, as pass map bits. -/
def kindBit (k b : Nat) : Bool :=
  if k = 0 then decide (b < 64) else if k = 1 then decide (64 ≤ b ∧ b < 88) else if k = 2 then decide (88 ≤ b ∧ b < 92) else decide (92 ≤ b)

/-- The number of a kind of window, and its length in µs (R567). -/
def kindNum : BlockKind → Nat
  | .field => 0
  | .safety => 1
  | .fp => 2
  | .pt => 3
def kindUs (k : Nat) : Nat := if k = 0 then 150 else if k = 1 then 250 else if k = 2 then 50 else 20

/-- The kinds of windows for which the module drives an output. -/
def State.kindUsed (s : State) (k : Nat) : Bool := (List.range 104).any (fun b => kindBit k b && s.outputBit b)

/-- Writes at EQUINOX that concern only the module that received them. (DEDUCED, log entry 112.) -/
def notAtEquinox : List Nat :=
  [0x00000110, 0x00000120, 0x00000502, 0x00000520, 0x01400005, 0x20000300, 0x20000302, 0x50060004, 0x70000003, 0x70000005, 0x70000007, 0x70030002,
   0x7C000103, 0x08000110, 0x08000111]

/-- One write that is held staged is committed at EQUINOX (R564). -/
def State.commitStaged (s : State) (b : BatchItem) : State :=
  match b with
  | .write _ ses req fpr oid prio relinq dflt v =>
    let base := match lookup oid.toNat with
      | some (r, _) => r.base
      | none => 0
    let s := if notAtEquinox.contains base || safetyParam base then s
      else s.applyEntries { part := 0, ses := ses } [{ oid := oid.toNat, prio := prio, relinq := relinq, dflt := dflt, data := v }]
    if ses < 64 then s.recordCommitted fpr req 0 else s
  | _ => s

/-- The time base takes over the role and the status of the releasing module's; whether a TIME_FAULT lies behind a status FREE is not part of
the Time state item, and this module's own fault flag stands (R156, R581). (DESIGN CHOICE, log entry 137.) -/
def State.takeTime (s : State) : State :=
  let s := { s with tb := { s.tb with holdoverAt := s.tb.twinHoldover, master := s.tb.twinMaster, good := 0 } }
  let s := if s.tb.twinMaster then s.becomeMaster else s
  s.setStatus s.tb.twinStatus

/-- Values that only the active module receives are not late across the handover (R245). -/
def State.sourcesFresh (s : State) : State :=
  s.enabledPoints.foldl (fun s p =>
    let b := s.srcOf p
    if (b.kind = 3 ∧ !isRs b.port) ∨ b.kind = 4 then s.setPtAux p { s.ptAux p with srcAt := s.clk } else s) s

/-- The read-back of a takeover, or of a module that returns to ACTIVE, starts: every output driven to a level and held (R567, R576). -/
def State.startReadback (s : State) (levels mask : BitVec 128) : State :=
  let done : BitVec 4 := (List.range 4).foldl (fun v k => if s.kindUsed k then v else v ||| BitVec.twoPow 4 k) 0
  { s with tw := { s.tw with
      driven := levels &&& mask, frozenOut := mask, matched := 0, checked := 0, windows := done, equinoxAt := some s.clk, passSent := false } }

/-- Launches in the queue whose time has passed, and compares that fired here within the 1 ms before the gate opened, are emitted LATE
(R30, R336, R565). -/
def State.emitOverdue (s : State) (gateAt : Nat) : State :=
  let s := (launchOrder (s.launches.filter (fun l => l.live && decide (l.time ≤ s.time)))).foldl State.emitPast s
  (List.range 12).foldl (fun s n =>
    let l := ((s.posUnit n).fired.filter (fun f => decide (f.2 ≤ gateAt ∧ gateAt ≤ f.2 + ms 1))).reverse
    let s := s.setPos n { s.posUnit n with fired := [] }
    l.foldl (fun s f =>
      let t := s.nat (Oid.CMP_TARGET n f.1)
      if t = 0 then s
      else { s with emits := s.emits ++ [
        { oid := t, prio := if 0x80000000 ≤ t ∧ t < 0x84000000 then 16 else 0, value := leBytes 8 (s.nat (Oid.CMP_VALUE n f.1))
          src := .compare n f.1, time := s.nat (Oid.CMP_LATCH_TIME n f.1), late := true }] }) s) s

/-- The physical bound B of a handover, ns: recognition, guard, the longest window of the outputs driven, and the round trip (R566). -/
def State.boundB (s : State) : Nat :=
  s.nat Oid.TW_RECOG_NS + us 50 + us (([1, 0, 2, 3].filter s.kindUsed).map kindUs |>.foldl max 0) + s.nat Oid.TW_RTT_NS

/-- PASS is sent: the map, what did not match, the gap and its bound, and then what has fallen due (R565, R566, R568).
(DEDUCED, log entry 113.) -/
def State.sendPass (s : State) : State :=
  let map := s.tw.matched
  let missed := s.tw.frozenOut &&& ~~~ map
  let s := (s.setBlob Oid.TW_LAST_PASS (mapBytes map)).emit (.twin 0x06 s.tw.gen (mapBytes map))
  let bad := (List.range 104).filter (fun b => missed.getLsbD b)
  let s := match bad with
    | b :: _ => s.event 0x0604 b bad.length
    | [] => s
  let gap := (s.time - s.tw.relTime) / 1000
  let b := s.boundB / 1000
  let s := ((s.setN Oid.TW_LAST_GAP gap).setN Oid.TW_LAST_BOUND b).event 0x0602 gap b s.tw.applied
  let at' := match s.tw.equinoxAt with
    | some t => t
    | none => s.clk
  { s with tw := { s.tw with passSent := true } }.emitOverdue at'

/-- Every window has ended. (DEDUCED, log entry 113.) -/
def State.windowsDone (s : State) : Bool := s.tw.windows == 15

/-- EQUINOX of a standby that has kept its conditions throughout the guard (R563, R564, R567). (DEDUCED, log entries 113 and 117.) -/
def State.equinox (s : State) (levels : BitVec 128) : State :=
  let staged := s.tw.staged.map (·.2)
  let s := { s with tw := { s.tw with guard := none, staged := [], stored := [], released := none, failed := false } }
  let s := s.lineTestsStop.takeTime
  let s := (s.enter .active 3).count Oid.TW_HANDOVERS 32
  let s := { s with
    tw := { s.tw with
      activeOut := true, refreshAt := s.clk, tookAt := some s.clk, arpSent := 0, openBatch := [], gen := s.tw.applied, inStep := false
      reverting := false, plan := none }
    acc := { s.acc with sdoWindow := 0 }
    pts := { s.pts with subs := s.pts.subs.map (fun (x : Sub) => if x.ses.isNone then { x with closedAt := s.clk } else x) } }
  let s := staged.foldl State.commitStaged s
  let s := s.startReadback levels s.outputMap
  let s := ((s.spoilTrips.sourcesFresh.renewCov).carsResume).setAllSwitches
  if s.windowsDone then s.sendPass else s

/-- The end of the guard (R39, R563). (DEDUCED, log entry 109.) -/
def State.guardEnds (s : State) (levels : BitVec 128) : State :=
  match s.tw.guard with
  | none => s
  | some t =>
    let s := s.reach (t + us 50)
    if s.activeIn then s.abandon
    else if s.mode == .standby && s.tw.guardHealthy && s.mayTake then s.equinox levels
    else { s with tw := { s.tw with guard := none } }

/-- EQUINOX. -/
def execEquinox (levels : BitVec 128) (s : State) : Answer := .next (s.start.guardEnds levels).drain

/-! ### Hold and pass (R567 to R571) -/

/-- An output matches at the end of its window: own switch sense and contact at the held level; a safety output that the module's own
functions switch off counts as matching (R567). -/
def State.matches (s : State) (sense contact : BitVec 128) (b : Nat) : Bool :=
  let lvl := s.tw.driven.getLsbD b
  let off := 64 ≤ b && b < 88 && !(s.sOk ((b - 64) / 2) && s.lOk ((b - 64) / 2))
  off || (sense.getLsbD b == lvl && contact.getLsbD b == lvl)

/-- The outputs of one window are checked (R567, R576). -/
def State.checkWindow (s : State) (k : Nat) (sense contact : BitVec 128) : State :=
  let m := mapOf (fun b => kindBit k b && s.tw.frozenOut.getLsbD b && s.matches sense contact b)
  let s := { s with tw := { s.tw with
    matched := s.tw.matched ||| m, checked := s.tw.checked ||| mapOf (kindBit k), windows := s.tw.windows ||| BitVec.twoPow 4 k } }
  if s.tw.reverting then
    let s := (List.range 104).foldl (fun s b => if m.getLsbD b then s.openLatch b none else s) s
    let s := { s with tw := { s.tw with frozenOut := s.tw.frozenOut &&& ~~~ m } }
    (if s.windowsDone then { s with tw := { s.tw with reverting := false, frozenOut := 0, equinoxAt := none } } else s).setAllSwitches
  else if s.windowsDone then s.sendPass
  else s

/-- READBACK_WINDOW_END. -/
def execReadbackWindowEnd (kind : BlockKind) (sense contact : BitVec 128) (s : State) : Answer :=
  let s := s.start
  let k := kindNum kind
  .next (match s.tw.equinoxAt with
    | some t =>
      if s.drives && !s.tw.windows.getLsbD k then ((s.reach (t + us (kindUs k))).checkWindow k sense contact).drain else s
    | none => s)

/-- PASS on the releasing module: the latches named open, and PASS_ACK answers (R565, R568, R570). -/
def State.takePass (s : State) (m : BitVec 128) : State :=
  let open' := m &&& (s.heldMap ||| s.fio.safeHeld.setWidth 128)
  let s := s.setBlob Oid.TW_LAST_PASS (mapBytes m)
  let s := (List.range 104).foldl (fun s b => if open'.getLsbD b then s.openLatch b none else s) s
  (s.setAllSwitches).emit (.twin 0x07 s.tw.gen (mapBytes open'))

/-- PASS. -/
def execPassMap (map : BitVec 128) (s : State) : Answer :=
  let s := s.start
  .next (if s.pd .twin && s.tw.released.isSome && !s.tw.activeOut then s.takePass map else s)

/-- PASS_ACK: the outputs named may change (R571). -/
def execPassAck (map : BitVec 128) (s : State) : Answer :=
  let s := s.start
  .next (if s.pd .twin && s.tw.passSent then
      { s with tw := { s.tw with frozenOut := s.tw.frozenOut &&& ~~~ map } }.setAllSwitches
    else s)

/-- PASS_ACK_TIMEOUT: from EQUINOX + 520 µs every output may change (R571). -/
def execPassAckTimeout (s : State) : Answer :=
  let s := s.start
  .next (match s.tw.equinoxAt with
    | some t =>
      if s.drives && !s.tw.reverting then
        let s := s.reach (t + us 520)
        { s with tw := { s.tw with frozenOut := 0, equinoxAt := none } }.setAllSwitches
      else s
    | none => s)

/-- LATCH_TIMEOUT: 500 µs after ACTIVE_IN was asserted; without a takeover, 20 ms after the release for every output but a field channel,
which its silence watchdog ends (R570). -/
def State.latchTimeout (s : State) (b : Nat) : State :=
  if !s.latched b || !s.pd .aon then s
  else
    let from' := match s.tw.released with
      | some (_, t) => t
      | none => s.frz.since
    if s.activeIn then ((s.reach (s.tw.inSince + us 500)).openLatch b (some 0)).setAllSwitches
    else if b < 64 then s
    else ((s.reach (from' + ms 20)).openLatch b (some 1)).setAllSwitches

/-- LATCH_TIMEOUT. -/
def execLatchTimeout (bit : Fin 128) (s : State) : Answer := .next (s.start.latchTimeout bit.val)

/-- GRATUITOUS_ARP: at EQUINOX + 1 ms, + 100 ms and + 1 s, for each pair address (R573). -/
def execGratuitousArp (port : Fin 4) (nth : Fin 3) (s : State) : Answer :=
  let s := s.start
  let bit := 3 * port.val + nth.val
  .next (match s.tw.tookAt with
    | some t =>
      if s.drives && s.nat (Oid.TW_PAIR_IP port) != 0 && !s.tw.arpSent.getLsbD bit && s.runs (.netPort port) then
        let s := s.reach (t + (if nth.val = 0 then ms 1 else if nth.val = 1 then ms 100 else sec 1))
        { s with tw := { s.tw with arpSent := s.tw.arpSent ||| BitVec.twoPow 12 bit } }.emit (.arp port (s.nat (Oid.TW_PAIR_IP port)))
      else s
    | none => s)

/-! ### The planned handover's ABORT (R576) -/

/-- ABORT_HO: a standby before EQUINOX stops its guard and answers. -/
def execAbortHo (s : State) : Answer :=
  let s := s.start
  .next (if s.up .twin && s.mode == .standby && s.tw.released.isNone && !s.activeIn then
      { s with tw := { s.tw with guard := none } }.emit (.twin 0x09 s.tw.gen [])
    else s)

/-- ABORT_ACK: the releasing module drives again what its latches hold, and answers what waits (R576). -/
def State.revert (s : State) (n : Nat) (req : BitVec 32) : State :=
  let held := s.heldMap
  let s := { s with tw := { s.tw with activeOut := true, refreshAt := s.clk, released := none, abortHo := none, planReq := none } }
  let s := s.enter .active 4
  let s := (s.startReadback s.tw.heldLevels held)
  let s := { s with tw := { s.tw with reverting := true } }
  let s := s.event 0x060F 1
  let s := (s.resp n 0x14 req .ok []).heldProceed.resume
  let s := if s.windowsDone then { s with tw := { s.tw with reverting := false, frozenOut := 0, equinoxAt := none } } else s
  s.setAllSwitches

/-- ABORT_ACK. -/
def execAbortAck (s : State) : Answer :=
  let s := s.start
  .next (match s.tw.abortHo with
    | some (n, req) => if s.up .twin && s.mode == .standby && s.tw.released.isSome && !s.activeIn then (s.revert n req).drain else s
    | none => s)

end Sys2Proof.Machine
end

