-- ==== Sys2Proof/Machine/Module.lean ====
section
/-! DEFINITION. The module as a whole: the state decision at the end of start-up, on-demand tests, and accounts that shrink or grow
(R5, R20, R21, R28, R134 to R138, R235, R237). -/

namespace Sys2Proof.Machine

/-! ### Start-up, steps 4 to 10 (R134) -/

/-- A loop object's loop: class and number. -/
def loopOfOid (o : Nat) : Nat × Nat := (o % 256 / 64, o / 256 % 65536)

/-- The control engine takes its loops from the configuration, every one OPEN (R112, R134). -/
def State.loopsAtStart (s : State) : State :=
  let ls := (s.objs.filter (fun (e : Nat × Int) => e.1 / 16777216 == 0x40 && e.1 % 64 == 0 && decide (e.1 % 256 < 192) && e.2 != 0)).map
    (fun (e : Nat × Int) => loopOfOid e.1)
  let gs := (s.blobs.filter (fun (e : Nat × List Byte) => e.1 / 16777216 == 0x40 && e.1 % 256 == 192 && e.2 != [])).map
    (fun (e : Nat × List Byte) => e.1 / 256 % 65536)
  let s := ls.foldl (fun s l => (s.setLoop l.1 l.2 {}).set (Oid.OUT l.2 l.1) (s.get (Oid.MANUAL l.2 l.1))) s
  gs.foldl (fun s g => (s.members g).foldl (fun s m => s.setN (Oid.LOOP_GROUP m.2 m.1) g) { s with grps := s.grps.ins g {} }) s

/-- The CAN channels take their mode and their schedule entries from the configuration (R134). -/
def State.canAtStart (s : State) : State :=
  (List.range 8).foldl (fun s c =>
    let es := s.blobs.filter (fun (e : Nat × List Byte) => e.1 / 65536 == 0x160 + c && e.1 % 256 == 0 && (entryOf (leNat e.2)).type != 0)
    let s := s.setCan c { s.canCh c with desc := es.map (fun (e : Nat × List Byte) => (e.1 / 256 % 256, leNat e.2)) }
    s.canTakeMode c (s.nat (Oid.CAN_MODE c))) s

/-- The points that have a type. (DEDUCED, log entry 48.) -/
def State.typedPoints (s : State) : List Nat :=
  (s.objs.filter (fun (e : Nat × Int) => decide (0x80000000 ≤ e.1 ∧ e.1 < 0x84000000) && e.1 % 256 == 1 && e.2 != 0)).map
    (fun (e : Nat × Int) => (e.1 - 0x80000000) / 256)

/-- The twin drives outputs, as its last HEALTH frame says: ACTIVE or SERVICE (R4, R557). -/
def State.twinDrives (s : State) : Bool := s.nat Oid.TW_TWIN_STATE == 3 || s.nat Oid.TW_TWIN_STATE == 1

/-- What start-up does beside a step of SPRING that is complete, at the place and not before the time of the table Start-up after COLD: the
configuration set (step 4), the loops with PD-CE, the SLA's block (step 6), the CAN channels with PD-BUS, the point database (step 7)
(R105, R112, R134, R220, R521). The image of the application cores belongs to the boot bank's, checked in step 3.
(DEDUCED, log entry 46.) -/
def State.startUpAt (s : State) (step : Nat) : State :=
  let at' := fun (n : Nat) => s.reach (s.rst.t0 + ms n)
  match step with
  | 4 => (at' 45).configAtStart
  | 7 => (at' 90).loopsAtStart
  | 9 => let s := at' 100; if s.nat Oid.SLA_STATE = 4 then s else s.loadBlock (s.makeBlock s.saf.gen)
  | 10 => (at' 110).canAtStart
  | 11 => let s := at' 150; s.typedPoints.foldl State.restorePoint s
  | _ => s

/-- SPRING_STEP (R105, R134). -/
def execSpringStep (s : State) : Answer :=
  let s := s.start
  let t := s.springStep
  .next (if t.nat Oid.SPRING_STEP = s.nat Oid.SPRING_STEP then t else t.startUpAt (t.nat Oid.SPRING_STEP))

/-- Steps 9 and 10 of start-up: the ledger, and the twin's time base (R134, R136, R155). (DEDUCED, log entry 46.) -/
def State.prepare (s : State) : State :=
  let s := (s.reach (s.rst.t0 + ms 400)).readmitAll
  if s.twinDrives && s.tb.twinAt != 0 then s.stepTime s.twinNow else s

/-! ### The state decision (R5, R38, R135) -/

/-- Start-up has reached its state decision: SPRING has restored the energy registers and brought up the islands, and neither the strap
nor both boot banks have failed (R107, R132, R134, R136). (DEDUCED, log entry 46.) -/
def State.mayDecide (s : State) : Bool :=
  s.mode == .boot && !s.rst.inReset && !s.rst.complete && !s.rst.strapFault && !s.rst.bootFail && s.booted && s.up .app && !s.rst.scrubDue
    && decide (13 ≤ s.nat Oid.SPRING_STEP) && s.pow.autumn != .running

/-- START_COMPLETE: start-up ends in a state, RESET_CAUSE stands, the firmware of the bank is the minimum from now on, and a freeze that
waited since BOOT acts (R118, R119, R138, R636, R655). -/
def State.startComplete (s : State) : State :=
  let s := { s with rst := { s.rst with complete := true } }.event 0x0109 s.mode.code ((s.clk - s.rst.t0) / 1000000) (s.nat Oid.RESET_REACH)
  s.fwStarted.freezeAtStart

/-- Start-up ends in STANDBY: the state of the active module is asked for (R5, R134, R588). -/
def State.startStandby (s : State) : State :=
  let s := { s with tw := { s.tw with waiting := false, watch := none, released := none } }
  (((s.enter .standby 0).setStatus 5).resync 0).startComplete

/-- Medium and slow loops with AUTO_CLOSE close at their first tick with valid feedback from now on; never one of the lift side (R406). -/
def State.autoClose (s : State) : State :=
  { s with loops := s.loops.map (fun (e : Nat × LoopRt) =>
      (e.1, if !liftSlot (e.1 % 4) (e.1 / 4) && s.flag (Oid.AUTO_CLOSE (e.1 / 4) (e.1 % 4)) then { e.2 with autoDue := true } else e.2)) }

/-- Start-up ends in ACTIVE, or in SERVICE where no valid configuration set is present: ACTIVE_OUT is asserted, the module's latches follow
its outputs again, and the cars return (R5, R135, R447). (DEDUCED, log entry 47.) -/
def State.startActive (s : State) : State :=
  let s := { s with tw := { s.tw with
    activeOut := true, refreshAt := s.clk, assertedAt := some s.clk, released := none, failed := false, waiting := false, watch := none
    openBatch := [], inStep := false } }
  let s := s.setBlob Oid.TW_HELD (mapBytes 0)
  let s := (s.enter (if s.cfgValid then .active else .service) 0).setAllSwitches
  s.carsReturn.startComplete.autoClose

/-- The decision of R5, taken while ACTIVE_IN is deasserted or the twin is ACTIVE and healthy; position B first watches ACTIVE_IN for
250 ms (R38, R135). (DEDUCED, log entry 46.) -/
def State.decideState (s : State) : State :=
  if s.nat Oid.TW_TWIN_STATE = 3 ∧ s.nat Oid.TW_TWIN_SUMMARY ≤ 1 then s.startStandby
  else if s.activeIn then { s with tw := { s.tw with waiting := true, watch := none } }.reportHealth
  else if s.actsAsA then s.startActive
  else
    match s.tw.watch with
    | none => { s with tw := { s.tw with waiting := false, watch := some s.clk } }
    | some t => (s.reach (t + ms 250)).startActive

/-- STATE_DECISION: steps 9 and 10 once, then the decision. (DEDUCED, log entry 46.) -/
def execStateDecision (s : State) : Answer :=
  let s := s.start
  .next (if !s.mayDecide then s
    else (if s.tw.waiting || s.tw.watch.isSome then s else s.prepare).decideState)

/-! ### On-demand tests (R20, R21, R675) -/

/-- The test's predicted rise of the die temperature, mK: 750 mK for each W of added consumption, a part of a mK counted as one (R675).
(DEDUCED, log entry 50.) -/
def testHeat (addMw : Nat) : Nat := (addMw * 750 + 999) / 1000

/-- A test of this kind is queued here, and may run in the module's present state (R20, R373, R474, R546). (DEDUCED, log entry 50.) -/
def State.testReady (s : State) (k : TestKind) : Bool :=
  !s.testsOn.contains k && (match k with
    | .calibration i =>
      let x := s.island i
      s.islandOk i && !x.due && x.cal.isNone && !x.aborted && (match s.calQueue i with
        | [] => false
        | c :: _ => (s.heldBy i).isNone || s.heldBy i == some c)
    | .lineTest c => s.testQueue.any (fun t => t.1 == k) && s.doorUp c
    | .selfTest =>
      s.testQueue.any (fun t => t.1 == k)
        && (s.mode == .standby || (s.mode == .service && s.carsStill && (List.range 12).all (fun n => !s.moving n))))

/-- Both predictions hold for the whole test, and the power and heat accounts have room for it: consumption at or below the 55 W of the power
account beside what SPRING and other tests have charged to it, and its charge within the heat account (R19, R20, R26, R675). -/
def State.testFits (s : State) (consMw addMw : Nat) : Bool :=
  decide (consMw + addMw ≤ s.acctCap 0x40) && decide (addMw ≤ s.headroom 0x40 3) && decide (testHeat addMw ≤ s.headroom 0x48 3)

/-- The ledger item of a running test, charged to the power and heat accounts (R19, R675). -/
def testItem (k : TestKind) (addMw : Nat) : Item :=
  { id := 0, kind := .test (testNum k), cls := 3, charges := [(0x40, addMw), (0x48, testHeat addMw)] }

/-- A queued test starts. -/
def State.testBegin (s : State) (k : TestKind) (addMw : Nat) : State :=
  let s := { s with testsOn := s.testsOn ++ [k], testQueue := s.testQueue.filter (fun t => t.1 != k) }.addItem (testItem k addMw)
  match k with
  | .calibration i => s.setIsland i { s.island i with due := true }
  | .lineTest c => s.lineTestStart c
  | .selfTest => s.selfTestStart

/-- TEST_START (R20). -/
def execTestStart (kind : TestKind) (consMw addMw : Nat) (s : State) : Answer :=
  let s := s.start
  .next (if s.serving then
      let s := { s with pow := { s.pow with consMw := consMw } }
      if s.testReady kind && s.testFits consMw addMw then s.testBegin kind addMw else s
    else s)

/-- A running test is stopped, recorded, and counted as not run (R21). (DEDUCED, log entry 50.) -/
def State.testCut (s : State) (k : TestKind) : State :=
  match k with
  | .calibration i =>
    let x := s.island i
    match x.cal with
    | none => ((s.eventOf 0x0D02 (12 * i + (s.calQueue i).headD 0) 0).setIsland i { x with due := false, aborted := true }).endTest i
    | some c =>
      let held := (s.heldBy i).isSome
      let s := (s.eventOf 0x0D02 (12 * i + c) x.step).calStop i 3
      if held then s else s.setIsland i { s.island i with aborted := true }
  | .lineTest c => (s.lineTestCut c).endTest (4 + c)
  | .selfTest => (s.selfTestEnd 5).endTest 28

/-- TEST_STOP: consumption above 55 W, or the die within 5 K of the thermal limit (R21, R663). (DEDUCED, log entry 50.) -/
def execTestStop (kind : TestKind) (consMw : Nat) (dieTemp : Int) (s : State) : Answer :=
  let s := s.start
  .next (if s.serving then
      let s := { s with pow := { s.pow with consMw := consMw } }.dieTemp dieTemp
      if s.testsOn.contains kind && decide (s.acctSize 0x40 < consMw ∨ 1000 ≤ dieTemp) then s.testCut kind else s
    else s)

/-! ### Accounts that shrink or grow (R28, R235, R237) -/

/-- An account whose health is measured at a port (R233). -/
def portHealth (a : Nat) : Bool := decide (a < 0x08) || decide (0x18 ≤ a ∧ a < 0x20)

/-- ACCOUNT_SHRINK; a network port that has lost its link may have been the follower port (R28, R146, R235). -/
def execAccountShrink (acct : BitVec 16) (s : State) : Answer :=
  let s := s.start
  let a := acct.toNat
  .next (if !s.booted then s else if portHealth a then (let t := s.acctDown a; if a < 2 then t.ptpLinkLost else t) else s.shrink a)

/-- ACCOUNT_GROW. -/
def execAccountGrow (acct : BitVec 16) (s : State) : Answer :=
  let s := s.start
  let a := acct.toNat
  .next (if !s.booted then s else if portHealth a then s.acctUp a else s.grow a)

end Sys2Proof.Machine
end

