-- ==== Sys2Proof/Machine/Late.lean ====
section
/-! DEFINITION. The commands whose effect may emit actions of its own, which take effect before the command ends: launches at their
commit point and at their time, the ticks of the control engine, encoder and probe edges, and calls (R17, R30, R162 to R165, R302,
R323, R330, R387). -/

namespace Sys2Proof.Machine

/-! ### Launches (R17, R18, R162 to R165) -/

/-- The time base reaches an instant: where it has not yet, that time passes first. (DESIGN CHOICE, log entry 3.) -/
def State.reachTime (s : State) (t : Nat) : State := s.reach (s.clk + (t - s.time))

/-- The commit point of a launch, 100 µs before its time (R17, R163); one that a waiting cancel stops does not reach it (R17, R33). -/
def State.launchCommit (s : State) (l : Launch) : State := (s.reachTime (l.time - 100000)).commitLaunch l

/-- LAUNCH_COMMIT. -/
def execLaunchCommit (part : Fin 1024) (tag : BitVec 32) (s : State) : Answer :=
  let s := s.start
  .next (match s.heldTag part tag.toNat with
    | some l => if s.emitsLaunches && l.state == .waiting && !s.cancelWaits l then s.launchCommit l else s
    | none => s)

/-- The class of a control engine setpoint or manual value, and its loop. -/
def loopValue (oid : Nat) : Option (Nat × Nat) :=
  match lookup oid with
  | some (r, ix) => if r.base = (Oid.LOOP_SP 0 0).oid ∨ r.base = (Oid.MANUAL 0 0).oid then some (ix.getD 1 0, ix.headD 0) else none
  | none => none

/-- The CAN channel and schedule entry that carry a point's sink. (DEDUCED, log entry 53.) -/
def State.canSink (s : State) (oid : Nat) : Option (Nat × Nat) :=
  match pointOf oid with
  | some (p, 0) =>
    let b := s.sinkOf p
    if bindingUsed (s.ptType p) true b && b.kind == 2 then
      let m := s.mapping b.addr1
      some (m.chan, m.entry)
    else none
  | _ => none

/-- The first multiple of `d` at or after `t`. -/
def gridAt (d t : Nat) : Nat := (t + d - 1) / d * d

/-- The first tick of a loop's class at or after an instant (R158, R164). -/
def State.loopTickAt (s : State) (c j t : Nat) : Nat :=
  if c = 0 then gridAt 2000 t
  else if c = 1 then gridAt 100000 t
  else
    let ph := ms (s.nat (Oid.SLOW_PHASE j 2))
    if t ≤ ph then ph else ph + gridAt (max 1 (ms (s.nat (Oid.SLOW_PERIOD j 2)))) (t - ph)

/-- The start of the first window of a schedule entry that begins at or after an instant (R158, R164, R271). -/
def State.windowAt (s : State) (c e t : Nat) : Nat :=
  let d := s.entHeld c e
  match (s.columns c)[d.column]? with
  | none => t
  | some col =>
    let k := s.cycleAt c t
    let at' := fun i => (k + i) * s.cycleNs c + s.nat (Oid.CAN_PHASE c) * 1000 + col.start
    match (List.range 130).find? (fun i => s.rowOf c (k + i) % d.every == d.offset && decide (t ≤ at' i)) with
    | some i => at' i
    | none => t

/-- When a launch at `t` to one object is applied or emitted, and until when that is not late, ns (table Launch emission, R164).
(DEDUCED, log entry 53.) -/
def State.dueOne (s : State) (t oid : Nat) : Nat × Nat :=
  if 0x60000000 ≤ oid ∧ oid < 0x60010000 then (t, t + 2000)
  else
    match loopValue oid with
    | some (c, j) =>
      let x := s.loopTickAt c j t
      (x, x)
    | none =>
      match s.canSink oid with
      | some (c, e) =>
        let x := s.windowAt c e t
        (x, x + 1000000000 / max 1 (s.nat (Oid.CAN_NBR c)))
      | none =>
        match pointOf oid with
        | some (p, 0) =>
          let b := s.sinkOf p
          if !bindingUsed (s.ptType p) true b then (t, t + 100000)
          else if (b.kind = 3 ∧ isRs b.port) ∨ (b.kind = 5 ∧ isRs b.port) then (t, t + us (boundUs (s.nat (Oid.PT_CLASS p))))
          else if b.kind = 3 ∨ b.kind = 4 ∨ b.kind = 5 then (t, t + 500000)
          else (t, t + 100000)
        | _ => (t, t + 100000)

/-- When a launch is emitted, and until when it is not late: of a broadcast the earliest and the latest of its members (R164, R186). -/
def State.launchDue (s : State) (l : Launch) : Nat × Nat :=
  match (s.launchTargets l.target).map (s.dueOne l.time) with
  | [] => (l.time, l.time + 100000)
  | x :: t => t.foldl (fun a b => (min a.1 b.1, max a.2 b.2)) x

/-- The launch is applied, or emitted into the window at hand (R16, R164, R165). -/
def State.emitLaunch (s : State) (l : Launch) : State :=
  let late := decide ((s.launchDue l).2 < s.time)
  let sinks := (s.launchTargets l.target).filterMap s.canSink
  let s := { s with emits := s.emits ++ [l.action late] }
  let s := ((s.endLaunch l .emitted).mirror (.launchOutcome l.part (BitVec.ofNat 32 l.tag) false)).drain
  sinks.foldl (fun s x => s.copyEntry x.1 x.2) s

/-- The launches accepted before this one for the same launch time, in the order of acceptance: those that are due in one emitter are emitted in
it, and none waits for its own row (R165). (DEDUCED, log entry 53.) -/
def State.earlierDue (s : State) (l : Launch) : List Launch :=
  launchOrder (s.launches.filter (fun x => x.live && x.time == l.time && decide (x.order < l.order)))

/-- A launch that is due: it passes its commit point where it has not yet, and is emitted if it stands committed (R17, R163, R165). -/
def State.emitDue (s : State) (l : Launch) : State :=
  let s := if l.state = .waiting ∧ !s.cancelWaits l then s.commitLaunch l else s
  if s.stoodCommitted l then s.emitLaunch l else s

/-- The launch time of a committed launch, or the tick or window that its target takes it in: the launches accepted before it for the same
instant come first (R164, R165). -/
def State.launchEmit (s : State) (l : Launch) : State :=
  let s := s.reachTime (s.launchDue l).1
  ((s.earlierDue l).foldl State.emitDue s).emitDue l

/-- LAUNCH_EMIT. (DEDUCED, log entry 53.) -/
def execLaunchEmit (part : Fin 1024) (tag : BitVec 32) (s : State) : Answer :=
  let s := s.start
  .next (match s.heldTag part tag.toNat with
    | some l => if s.emitsLaunches && l.state == .committed then s.launchEmit l else s
    | none => s)

/-- A tag that no launch of the queue bears any more is released 10 s after its launch time (R162). -/
def State.tagRelease (s : State) (l : Launch) : State :=
  let s := s.reachTime (l.time + sec 10)
  { s with launches := s.launches.filter (fun x => !(x.part == l.part && x.tag == l.tag)) }

/-- TAG_RELEASE. -/
def execTagRelease (part : Fin 1024) (tag : BitVec 32) (s : State) : Answer :=
  let s := s.start
  .next (match s.heldTag part tag.toNat with
    | some l => if l.live then s else s.tagRelease l
    | none => s)

/-! ### Ticks of the control engine (R379, R387) -/

/-- The medium tick while the engine runs: doors and cars give their setpoints and feedback, the loops are handled in the order of R387
with the obstruction test between steps 5 and 6, and the doors take what comes of it. -/
def State.mediumTick (s : State) : State :=
  let s := (List.range 24).foldl State.doorPre s
  let s := s.carsTick.mediumLaws
  let s := ((List.range 24).foldl State.obstructTest s).mediumEnd
  (List.range 24).foldl State.doorPost s

/-- CE_FAST_TICK (R386): what waited for a LOOP_CMD of a session goes on after it (R182, R391). (DESIGN CHOICE, log entry 4.) -/
def execCeFastTick (s : State) : Answer := .next s.start.fastTick.drain.resume.drain

/-- CE_MEDIUM_TICK; the S-pair evaluates its safety functions (R182, R387, R525). (DESIGN CHOICE, log entry 4.) -/
def execCeMediumTick (s : State) : Answer :=
  let s := s.start
  let s := if s.up .ce then s.mediumTick else s
  .next (if s.up .safe then s.sEvalAll else s).drain.resume.drain

/-- CE_SLOW_TICK (R182, R379). (DESIGN CHOICE, log entry 4.) -/
def execCeSlowTick (j : Fin 65536) (s : State) : Answer := .next (s.start.slowTick j).drain.resume.drain

/-! ### Position units (R302, R323) -/

/-- ENCODER_EDGE: the encoder lines as sampled on the unit's clock (R302). -/
def execEncoderEdge (n : Fin 12) (ab : BitVec 2) (now : Nat) (s : State) : Answer := .next (s.start.encSample n ab now).drain

/-- PROBE_EDGE (R323). -/
def execProbeEdge (n : Fin 12) (input : Fin 4) (rising : Bool) (now : Nat) (s : State) : Answer :=
  .next (s.start.probeEdge n input rising now).drain

/-! ### Cars and calls -/

/-- CAR_PROFILE (R427). -/
def execCarProfile (n : Fin 12) (s : State) : Answer := .next (s.start.carProfile n).drain

/-- CAR_OPEN_REQUEST (R421). -/
def execCarOpenRequest (n : Fin 12) (s : State) : Answer :=
  let s := s.start
  .next (if s.serving && s.drives then s.openRequest n else s).drain

/-- DOOR_REOPEN_REQUEST (R371). -/
def execDoorReopenRequest (k : Fin 24) (_src : ReopenSrc) (s : State) : Answer :=
  let s := s.start
  .next (if s.serving && s.drives then s.reopenRequest k else s).drain

/-- CAR_START_TIMEOUT (R429). -/
def execCarStartTimeout (n : Fin 12) (s : State) : Answer :=
  let s := s.start
  .next (if s.serving && s.drives && s.carState n == 3
    then (s.reach ((s.car n).since + ms (s.nat (Oid.CAR_START_TIME n)))).carFault n 4 else s).drain

/-- REF_TRIP_TIMEOUT (R429, R452). -/
def execRefTripTimeout (n : Fin 12) (s : State) : Answer :=
  let s := s.start
  .next (if s.serving && s.drives && (s.car n).ref != 0 && s.onTrip n
    then ((s.reach ((s.car n).refAt + sec (s.nat (Oid.CAR_REF_TIME n)))).eventOf 0x0C0B n 1 (par (s.carPos n))).carFault n 14 else s).drain

/-- EP_START_CHECK (R444). -/
def execEpStartCheck (s : State) : Answer :=
  let s := s.start
  .next (if s.serving && s.drives && s.flag Oid.EP_ACTIVE then s.epCheck.epService else s).drain

/-- CALL_POINT_CHANGE (R432). -/
def execCallPointChange (p : Fin 262144) (v : Bool) (s : State) : Answer :=
  let s := s.start
  .next (if s.serving then (s.callPoint p v).lateCalls s else s).drain

/-- DESTINATION_CALL (R436). -/
def execDestinationCall (g : Fin 4) (rec : BitVec 64) (chan : Nat) (s : State) : Answer :=
  let s := s.start
  .next (if s.serving then (s.dtCall g rec chan).lateCalls s else s).drain

/-! ### The time base -/

/-- ANNOUNCE: a step of the time base emits the launches that it puts into the past (R149, R151). (DESIGN CHOICE, log entry 131.) -/
def execAnnounce (port : Fin 4) (m : AnnounceMsg) (s : State) : Answer := .next (s.start.announce port m).drain

end Sys2Proof.Machine
end

