-- ==== Sys2Proof/Machine/Dispatch.lean ====
section
/-! DEFINITION. The dispatch: what each command does, one meaning per command. -/

namespace Sys2Proof.Machine

def exec (i : Instr) (s : State) : Host.Outcome State Fault Refusal :=
  match i with
  | .moduleStateReqService ses req => Sys2Proof.Machine.execModuleStateReqService ses req s
  | .moduleStateReqActive ses req => Sys2Proof.Machine.execModuleStateReqActive ses req s
  | .handoverReq ses req => Sys2Proof.Machine.execHandoverReq ses req s
  | .handoverConfirmTimeout => Sys2Proof.Machine.execHandoverConfirmTimeout s
  | .stateDecision => Sys2Proof.Machine.execStateDecision s
  | .launchSubmit ses req data => Sys2Proof.Machine.execLaunchSubmit ses req data s
  | .launchCancel ses req tag => Sys2Proof.Machine.execLaunchCancel ses req tag s
  | .launchCommit part tag => Sys2Proof.Machine.execLaunchCommit part tag s
  | .launchEmit part tag => Sys2Proof.Machine.execLaunchEmit part tag s
  | .tagRelease part tag => Sys2Proof.Machine.execTagRelease part tag s
  | .testStart kind consMw addMw => Sys2Proof.Machine.execTestStart kind consMw addMw s
  | .testStop kind consMw dieTemp => Sys2Proof.Machine.execTestStop kind consMw dieTemp s
  | .accountShrink acct => Sys2Proof.Machine.execAccountShrink acct s
  | .accountGrow acct => Sys2Proof.Machine.execAccountGrow acct s
  | .activeOutRefresh => Sys2Proof.Machine.execActiveOutRefresh s
  | .refreshLapse => Sys2Proof.Machine.execRefreshLapse s
  | .activeInFall recogNs rel => Sys2Proof.Machine.execActiveInFall recogNs rel s
  | .equinox levels => Sys2Proof.Machine.execEquinox levels s
  | .activeInRise recogNs => Sys2Proof.Machine.execActiveInRise recogNs s
  | .readbackWindowEnd kind sense contact => Sys2Proof.Machine.execReadbackWindowEnd kind sense contact s
  | .passMap map => Sys2Proof.Machine.execPassMap map s
  | .passAck map => Sys2Proof.Machine.execPassAck map s
  | .latchTimeout bit => Sys2Proof.Machine.execLatchTimeout bit s
  | .abortHo => Sys2Proof.Machine.execAbortHo s
  | .abortAck => Sys2Proof.Machine.execAbortAck s
  | .healthSend => Sys2Proof.Machine.execHealthSend s
  | .health hdr h => Sys2Proof.Machine.execHealth hdr h s
  | .healthTimeout => Sys2Proof.Machine.execHealthTimeout s
  | .batchSend => Sys2Proof.Machine.execBatchSend s
  | .batch hdr b => Sys2Proof.Machine.execBatch hdr b s
  | .confirm hdr gen => Sys2Proof.Machine.execConfirm hdr gen s
  | .nak hdr first count => Sys2Proof.Machine.execNak hdr first count s
  | .mirrorTimeout => Sys2Proof.Machine.execMirrorTimeout s
  | .standbyLost => Sys2Proof.Machine.execStandbyLost s
  | .diverge hdr kind item gen => Sys2Proof.Machine.execDiverge hdr kind item gen s
  | .diagnosisEnd fail check => Sys2Proof.Machine.execDiagnosisEnd fail check s
  | .diag hdr fail check => Sys2Proof.Machine.execDiag hdr fail check s
  | .diagTimeout => Sys2Proof.Machine.execDiagTimeout s
  | .resyncReq hdr fw => Sys2Proof.Machine.execResyncReq hdr fw s
  | .resyncData hdr region offset data => Sys2Proof.Machine.execResyncData hdr region offset data s
  | .resyncEnd hdr phase g0 => Sys2Proof.Machine.execResyncEnd hdr phase g0 s
  | .pulseTest bit conducts blocks => Sys2Proof.Machine.execPulseTest bit conducts blocks s
  | .twinTimeFrame hdr rttNs twinTime => Sys2Proof.Machine.execTwinTimeFrame hdr rttNs twinTime s
  | .ilkLoopFault microAmps => Sys2Proof.Machine.execIlkLoopFault microAmps s
  | .twLane lane up swapped inverted => Sys2Proof.Machine.execTwLane lane up swapped inverted s
  | .feedValid f mv forUs => Sys2Proof.Machine.execFeedValid f mv forUs s
  | .feedLost f mv forUs => Sys2Proof.Machine.execFeedLost f mv forUs s
  | .feedOvervolt f mv forUs => Sys2Proof.Machine.execFeedOvervolt f mv forUs s
  | .feedReconnect f mv forUs => Sys2Proof.Machine.execFeedReconnect f mv forUs s
  | .supplyFail mvA mvB forUs => Sys2Proof.Machine.execSupplyFail mvA mvB forUs s
  | .autumnDone durUs => Sys2Proof.Machine.execAutumnDone durUs s
  | .autumnIncomplete words => Sys2Proof.Machine.execAutumnIncomplete words s
  | .bankMeasure mv capUf => Sys2Proof.Machine.execBankMeasure mv capUf s
  | .springStep => Sys2Proof.Machine.execSpringStep s
  | .coreGroupRetry => Sys2Proof.Machine.execCoreGroupRetry s
  | .bankOkTimeout => Sys2Proof.Machine.execBankOkTimeout s
  | .coreSleep core => Sys2Proof.Machine.execCoreSleep core s
  | .coreWake core ev => Sys2Proof.Machine.execCoreWake core ev s
  | .clockLost dom cause => Sys2Proof.Machine.execClockLost dom cause s
  | .clockRestored dom => Sys2Proof.Machine.execClockRestored dom s
  | .aonFallback good => Sys2Proof.Machine.execAonFallback good s
  | .dieTempReading t => Sys2Proof.Machine.execDieTempReading t s
  | .thermalReset t => Sys2Proof.Machine.execThermalReset t s
  | .thermalRelease t => Sys2Proof.Machine.execThermalRelease t s
  | .resetReqCold ses req => Sys2Proof.Machine.execResetReqCold ses req s
  | .resetReqWarm ses req => Sys2Proof.Machine.execResetReqWarm ses req s
  | .resetReqCore ses req => Sys2Proof.Machine.execResetReqCore ses req s
  | .resetNPress forMs => Sys2Proof.Machine.execResetNPress forMs s
  | .resetNRelease forMs => Sys2Proof.Machine.execResetNRelease forMs s
  | .resetNStuck forMs => Sys2Proof.Machine.execResetNStuck forMs s
  | .lockstepMismatch => Sys2Proof.Machine.execLockstepMismatch s
  | .appWdog => Sys2Proof.Machine.execAppWdog s
  | .critDse region addr => Sys2Proof.Machine.execCritDse region addr s
  | .resetRelease strapRatio => Sys2Proof.Machine.execResetRelease strapRatio s
  | .strapRetry strapRatio => Sys2Proof.Machine.execStrapRetry strapRatio s
  | .blockRst ses req v => Sys2Proof.Machine.execBlockRst ses req v s
  | .sync port offsetNs valid => Sys2Proof.Machine.execSync port offsetNs valid s
  | .announce port m => Sys2Proof.Machine.execAnnounce port m s
  | .announceTimeout port => Sys2Proof.Machine.execAnnounceTimeout port s
  | .holdoverLimit => Sys2Proof.Machine.execHoldoverLimit s
  | .timeStepReq ses req => Sys2Proof.Machine.execTimeStepReq ses req s
  | .timeSet ses req t => Sys2Proof.Machine.execTimeSet ses req t s
  | .solstice => Sys2Proof.Machine.execSolstice s
  | .lastKnownTimeSave => Sys2Proof.Machine.execLastKnownTimeSave s
  | .timeMark => Sys2Proof.Machine.execTimeMark s
  | .ceFastTick => Sys2Proof.Machine.execCeFastTick s
  | .ceMediumTick => Sys2Proof.Machine.execCeMediumTick s
  | .ceSlowTick j => Sys2Proof.Machine.execCeSlowTick j s
  | .ceDeadline cls j => Sys2Proof.Machine.execCeDeadline cls j s
  | .tlsHandshake port cert => Sys2Proof.Machine.execTlsHandshake port cert s
  | .openSession ses f => Sys2Proof.Machine.execOpenSession ses f s
  | .closeSession ses f => Sys2Proof.Machine.execCloseSession ses f s
  | .ping ses f => Sys2Proof.Machine.execPing ses f s
  | .readObject ses f => Sys2Proof.Machine.execReadObject ses f s
  | .writeObject ses f => Sys2Proof.Machine.execWriteObject ses f s
  | .readMany ses f => Sys2Proof.Machine.execReadMany ses f s
  | .writeMany ses f => Sys2Proof.Machine.execWriteMany ses f s
  | .abortRequest ses f => Sys2Proof.Machine.execAbortRequest ses f s
  | .query ses f => Sys2Proof.Machine.execQuery ses f s
  | .subscribe ses f => Sys2Proof.Machine.execSubscribe ses f s
  | .unsubscribe ses f => Sys2Proof.Machine.execUnsubscribe ses f s
  | .notify handle => Sys2Proof.Machine.execNotify handle s
  | .safetyOpen ses f salt => Sys2Proof.Machine.execSafetyOpen ses f salt s
  | .safetyClose ses f => Sys2Proof.Machine.execSafetyClose ses f s
  | .safetySessionTimeout => Sys2Proof.Machine.execSafetySessionTimeout s
  | .sessionIdleTimeout ses => Sys2Proof.Machine.execSessionIdleTimeout ses s
  | .sessClose ses req target v => Sys2Proof.Machine.execSessClose ses req target v s
  | .subscriptionHoldExpiry handle => Sys2Proof.Machine.execSubscriptionHoldExpiry handle s
  | .subscriptionLifetimeExpiry handle => Sys2Proof.Machine.execSubscriptionLifetimeExpiry handle s
  | .sdoRequest r => Sys2Proof.Machine.execSdoRequest r s
  | .sdoWindow v => Sys2Proof.Machine.execSdoWindow v s
  | .broadcastWrite ses req oid prio val => Sys2Proof.Machine.execBroadcastWrite ses req oid prio val s
  | .registerWrite ses req oid prio val => Sys2Proof.Machine.execRegisterWrite ses req oid prio val s
  | .keptValueWrite oid => Sys2Proof.Machine.execKeptValueWrite oid s
  | .pointStoreWrite p slot => Sys2Proof.Machine.execPointStoreWrite p slot s
  | .pointEnable ses req p v => Sys2Proof.Machine.execPointEnable ses req p v s
  | .pointTypeWrite ses req p v => Sys2Proof.Machine.execPointTypeWrite ses req p v s
  | .bindingWrite ses req p sink b => Sys2Proof.Machine.execBindingWrite ses req p sink b s
  | .sourcePoll p => Sys2Proof.Machine.execSourcePoll p s
  | .sourceDelivery p v ok => Sys2Proof.Machine.execSourceDelivery p v ok s
  | .sinkWrite p => Sys2Proof.Machine.execSinkWrite p s
  | .sourceTimeout p => Sys2Proof.Machine.execSourceTimeout p s
  | .modbusTimeout p => Sys2Proof.Machine.execModbusTimeout p s
  | .readProperty r => Sys2Proof.Machine.execReadProperty r s
  | .readPropertyMultiple r => Sys2Proof.Machine.execReadPropertyMultiple r s
  | .writeProperty r => Sys2Proof.Machine.execWriteProperty r s
  | .writePropertyMultiple r => Sys2Proof.Machine.execWritePropertyMultiple r s
  | .subscribeCov r => Sys2Proof.Machine.execSubscribeCov r s
  | .whoIs r => Sys2Proof.Machine.execWhoIs r s
  | .whoHas r => Sys2Proof.Machine.execWhoHas r s
  | .deviceCommunicationControl r => Sys2Proof.Machine.execDeviceCommunicationControl r s
  | .timeSynchronization r => Sys2Proof.Machine.execTimeSynchronization r s
  | .canCycleStart c => Sys2Proof.Machine.execCanCycleStart c s
  | .txCopy c e => Sys2Proof.Machine.execTxCopy c e s
  | .canFrameReceive c f => Sys2Proof.Machine.execCanFrameReceive c f s
  | .canWindowEnd c e => Sys2Proof.Machine.execCanWindowEnd c e s
  | .canTransmitEnd c r => Sys2Proof.Machine.execCanTransmitEnd c r s
  | .canBusOff c => Sys2Proof.Machine.execCanBusOff c s
  | .canBusOn c idles => Sys2Proof.Machine.execCanBusOn c idles s
  | .canBusoffReq ses req c v => Sys2Proof.Machine.execCanBusoffReq ses req c v s
  | .txbRequest ses req c t => Sys2Proof.Machine.execTxbRequest ses req c t s
  | .txbCancel ses req c t ph => Sys2Proof.Machine.execTxbCancel ses req c t ph s
  | .rxbAck ses req c b v => Sys2Proof.Machine.execRxbAck ses req c b v s
  | .entDesc ses req c e d => Sys2Proof.Machine.execEntDesc ses req c e d s
  | .entAck ses req c e v => Sys2Proof.Machine.execEntAck ses req c e v s
  | .canMode ses req c v => Sys2Proof.Machine.execCanMode ses req c v s
  | .canDetectDwell c => Sys2Proof.Machine.execCanDetectDwell c s
  | .encoderEdge n ab now => Sys2Proof.Machine.execEncoderEdge n ab now s
  | .encLineFault n line forNs => Sys2Proof.Machine.execEncLineFault n line forNs s
  | .zeroTimeout n now => Sys2Proof.Machine.execZeroTimeout n now s
  | .indexEdge n => Sys2Proof.Machine.execIndexEdge n s
  | .ssiFrameStart n => Sys2Proof.Machine.execSsiFrameStart n s
  | .ssiFrameEnd n r => Sys2Proof.Machine.execSsiFrameEnd n r s
  | .slipFault n forMs => Sys2Proof.Machine.execSlipFault n forMs s
  | .probeEdge n input rising now => Sys2Proof.Machine.execProbeEdge n input rising now s
  | .posAck ses req n v => Sys2Proof.Machine.execPosAck ses req n v s
  | .refLanding ses req n v => Sys2Proof.Machine.execRefLanding ses req n v s
  | .learnUp ses req n => Sys2Proof.Machine.execLearnUp ses req n s
  | .learnDown ses req n => Sys2Proof.Machine.execLearnDown ses req n s
  | .learnStop ses req n => Sys2Proof.Machine.execLearnStop ses req n s
  | .cmpArm ses req n k => Sys2Proof.Machine.execCmpArm ses req n k s
  | .cmpDisarm ses req n k => Sys2Proof.Machine.execCmpDisarm ses req n k s
  | .cmpRearm ses req n k mode v => Sys2Proof.Machine.execCmpRearm ses req n k mode v s
  | .uplinkFrame k line offBits => Sys2Proof.Machine.execUplinkFrame k line offBits s
  | .uplinkGap k forUs => Sys2Proof.Machine.execUplinkGap k forUs s
  | .dlHandshakeStep k ev => Sys2Proof.Machine.execDlHandshakeStep k ev s
  | .dlHandshakeRetry k => Sys2Proof.Machine.execDlHandshakeRetry k s
  | .dlRetrain ses req k v => Sys2Proof.Machine.execDlRetrain ses req k v s
  | .doorEnable ses req k v => Sys2Proof.Machine.execDoorEnable ses req k v s
  | .dlLtReqOwn ses req k => Sys2Proof.Machine.execDlLtReqOwn ses req k s
  | .dlLtReqTwin ses req k => Sys2Proof.Machine.execDlLtReqTwin ses req k s
  | .dlLinetestEnd k r => Sys2Proof.Machine.execDlLinetestEnd k r s
  | .dlAck ses req k v => Sys2Proof.Machine.execDlAck ses req k v s
  | .lockConfirmed k => Sys2Proof.Machine.execLockConfirmed k s
  | .doorReopenRequest k src => Sys2Proof.Machine.execDoorReopenRequest k src s
  | .dlVbusHigh k forMs => Sys2Proof.Machine.execDlVbusHigh k forMs s
  | .loopClose ses req cls j => Sys2Proof.Machine.execLoopClose ses req cls j s
  | .loopOpen ses req cls j => Sys2Proof.Machine.execLoopOpen ses req cls j s
  | .loopClearTrip ses req cls j => Sys2Proof.Machine.execLoopClearTrip ses req cls j s
  | .loopEnable ses req cls j v => Sys2Proof.Machine.execLoopEnable ses req cls j v s
  | .loopFlags ses req cls j v => Sys2Proof.Machine.execLoopFlags ses req cls j v s
  | .grpMembers ses req g members => Sys2Proof.Machine.execGrpMembers ses req g members s
  | .carCmdOutOfService ses req n => Sys2Proof.Machine.execCarCmdOutOfService ses req n s
  | .carCmdPark ses req n => Sys2Proof.Machine.execCarCmdPark ses req n s
  | .carCmdServe ses req n => Sys2Proof.Machine.execCarCmdServe ses req n s
  | .carFaultAck ses req n v => Sys2Proof.Machine.execCarFaultAck ses req n v s
  | .callPointChange p v => Sys2Proof.Machine.execCallPointChange p v s
  | .destinationCall g rec chan => Sys2Proof.Machine.execDestinationCall g rec chan s
  | .carOpenRequest n => Sys2Proof.Machine.execCarOpenRequest n s
  | .carProfile n => Sys2Proof.Machine.execCarProfile n s
  | .carStartTimeout n => Sys2Proof.Machine.execCarStartTimeout n s
  | .carDwellExpiry n => Sys2Proof.Machine.execCarDwellExpiry n s
  | .carNudgeExpiry n => Sys2Proof.Machine.execCarNudgeExpiry n s
  | .relevelTrigger n forMs => Sys2Proof.Machine.execRelevelTrigger n forMs s
  | .refTripTimeout n => Sys2Proof.Machine.execRefTripTimeout n s
  | .carReturnStep => Sys2Proof.Machine.execCarReturnStep s
  | .epStartCheck => Sys2Proof.Machine.execEpStartCheck s
  | .epReturn => Sys2Proof.Machine.execEpReturn s
  | .energySample c d => Sys2Proof.Machine.execEnergySample c d s
  | .pulseEmit x => Sys2Proof.Machine.execPulseEmit x s
  | .pulseEmitFp x => Sys2Proof.Machine.execPulseEmitFp x s
  | .pulseWidthEnd x => Sys2Proof.Machine.execPulseWidthEnd x s
  | .meterWindowEnd w => Sys2Proof.Machine.execMeterWindowEnd w s
  | .bsgCheck k milliHz absent stuck => Sys2Proof.Machine.execBsgCheck k milliHz absent stuck s
  | .islandCheck i1 r => Sys2Proof.Machine.execIslandCheck i1 r s
  | .miCalReq ses req i1 v => Sys2Proof.Machine.execMiCalReq ses req i1 v s
  | .miCalAbort ses req i1 v => Sys2Proof.Machine.execMiCalAbort ses req i1 v s
  | .calStep i1 m => Sys2Proof.Machine.execCalStep i1 m s
  | .rotationCheck i1 k dg dp => Sys2Proof.Machine.execRotationCheck i1 k dg dp s
  | .calInterval i1 => Sys2Proof.Machine.execCalInterval i1 s
  | .chRegClear ses req c v => Sys2Proof.Machine.execChRegClear ses req c v s
  | .pulseConfig ses req x const v => Sys2Proof.Machine.execPulseConfig ses req x const v s
  | .periodicSave bad => Sys2Proof.Machine.execPeriodicSave bad s
  | .saveLate us => Sys2Proof.Machine.execSaveLate us s
  | .intervalClose => Sys2Proof.Machine.execIntervalClose s
  | .intLen ses req v => Sys2Proof.Machine.execIntLen ses req v s
  | .energyAck ses req v => Sys2Proof.Machine.execEnergyAck ses req v s
  | .cmReset ses req n v => Sys2Proof.Machine.execCmReset ses req n v s
  | .heartbeatReceive hb => Sys2Proof.Machine.execHeartbeatReceive hb s
  | .hbLost => Sys2Proof.Machine.execHbLost s
  | .sinChange n input level => Sys2Proof.Machine.execSinChange n input level s
  | .sfReset ses req n v => Sys2Proof.Machine.execSfReset ses req n v s
  | .windowMax n => Sys2Proof.Machine.execWindowMax n s
  | .slaCrcCheck crc => Sys2Proof.Machine.execSlaCrcCheck crc s
  | .slaFault cause => Sys2Proof.Machine.execSlaFault cause s
  | .dstSend t => Sys2Proof.Machine.execDstSend t s
  | .dstCopy t carrier b => Sys2Proof.Machine.execDstCopy t carrier b s
  | .dstCopyWait t => Sys2Proof.Machine.execDstCopyWait t s
  | .dstSingle t carrier => Sys2Proof.Machine.execDstSingle t carrier s
  | .dstTimeout t => Sys2Proof.Machine.execDstTimeout t s
  | .safetyPw ses req pw salt => Sys2Proof.Machine.execSafetyPw ses req pw salt s
  | .safetyParamWrite ses req oid val => Sys2Proof.Machine.execSafetyParamWrite ses req oid val s
  | .safetyCommit ses req => Sys2Proof.Machine.execSafetyCommit ses req s
  | .safetyDiscard ses req => Sys2Proof.Machine.execSafetyDiscard ses req s
  | .cfgActivate ses req v => Sys2Proof.Machine.execCfgActivate ses req v s
  | .switchTest n sw ok => Sys2Proof.Machine.execSwitchTest n sw ok s
  | .inputDisagree n input forMs => Sys2Proof.Machine.execInputDisagree n input forMs s
  | .safetyTestReqTwin ses req => Sys2Proof.Machine.execSafetyTestReqTwin ses req s
  | .safetyTestReqSelf ses req => Sys2Proof.Machine.execSafetyTestReqSelf ses req s
  | .safetyTestPeriodic => Sys2Proof.Machine.execSafetyTestPeriodic s
  | .safetyTestDone pass => Sys2Proof.Machine.execSafetyTestDone pass s
  | .fgSampleTick g levels => Sys2Proof.Machine.execFgSampleTick g levels s
  | .fioOut ses req x v => Sys2Proof.Machine.execFioOut ses req x v s
  | .fioMode ses req x v => Sys2Proof.Machine.execFioMode ses req x v s
  | .fgAck ses req g v => Sys2Proof.Machine.execFgAck ses req g v s
  | .fioSag g mv forUs => Sys2Proof.Machine.execFioSag g mv forUs s
  | .fioSupplyRestored g mv forUs => Sys2Proof.Machine.execFioSupplyRestored g mv forUs s
  | .inputsSuspend g mv => Sys2Proof.Machine.execInputsSuspend g mv s
  | .inputsResume g mv forUs => Sys2Proof.Machine.execInputsResume g mv forUs s
  | .thermalShutdown x => Sys2Proof.Machine.execThermalShutdown x s
  | .currentLimit x forMs => Sys2Proof.Machine.execCurrentLimit x forMs s
  | .readbackDisagree x contact forUs => Sys2Proof.Machine.execReadbackDisagree x contact forUs s
  | .outputCommit fresh => Sys2Proof.Machine.execOutputCommit fresh s
  | .fioWdExpired => Sys2Proof.Machine.execFioWdExpired s
  | .groupPowerUp g mv => Sys2Proof.Machine.execGroupPowerUp g mv s
  | .scrubPass mem words forMs => Sys2Proof.Machine.execScrubPass mem words forMs s
  | .memDseContained region addr => Sys2Proof.Machine.execMemDseContained region addr s
  | .critParityCheck bad => Sys2Proof.Machine.execCritParityCheck bad s
  | .fwLoad ses req data => Sys2Proof.Machine.execFwLoad ses req data s
  | .fwVerify ses req v => Sys2Proof.Machine.execFwVerify ses req v s
  | .fwVerifyEnd => Sys2Proof.Machine.execFwVerifyEnd s
  | .fwSwitch ses req v => Sys2Proof.Machine.execFwSwitch ses req v s
  | .cfgLoad ses req data => Sys2Proof.Machine.execCfgLoad ses req data s
  | .cfgVerify ses req v => Sys2Proof.Machine.execCfgVerify ses req v s
  | .opcCert ses req k q cert => Sys2Proof.Machine.execOpcCert ses req k q cert s
  | .opcUse ses req k q v => Sys2Proof.Machine.execOpcUse ses req k q v s
  | .eventOffer code src p0 p1 p2 => Sys2Proof.Machine.execEventOffer code src p0 p1 p2 s
  | .recordFlush => Sys2Proof.Machine.execRecordFlush s
  | .recRecordsDropped => Sys2Proof.Machine.execRecRecordsDropped s
  | .winterNLow forNs => Sys2Proof.Machine.execWinterNLow forNs s
  | .freezeEntry => Sys2Proof.Machine.execFreezeEntry s
  | .winterNHigh forNs => Sys2Proof.Machine.execWinterNHigh forNs s
  | .tapReset => Sys2Proof.Machine.execTapReset s
  | .idcode => Sys2Proof.Machine.execIdcode s
  | .frzStatus => Sys2Proof.Machine.execFrzStatus s
  | .frzAddr v => Sys2Proof.Machine.execFrzAddr v s
  | .frzData => Sys2Proof.Machine.execFrzData s
  | .bypassTap code => Sys2Proof.Machine.execBypassTap code s
  | .powerOn => Sys2Proof.Machine.execPowerOn s
  | .pdAonOff mv => Sys2Proof.Machine.execPdAonOff mv s
  | .releaseResetTimeout => Sys2Proof.Machine.execReleaseResetTimeout s
  | .passAckTimeout => Sys2Proof.Machine.execPassAckTimeout s
  | .contactorFeedbackTimeout n which => Sys2Proof.Machine.execContactorFeedbackTimeout n which s
  | .brakeFeedbackTimeout n => Sys2Proof.Machine.execBrakeFeedbackTimeout n s
  | .stopConditionAbsent n tech => Sys2Proof.Machine.execStopConditionAbsent n tech s
  | .thermalRestart x => Sys2Proof.Machine.execThermalRestart x s
  | .covSubscriptionRenewal p ok => Sys2Proof.Machine.execCovSubscriptionRenewal p ok s
  | .sinkWriteRefused p => Sys2Proof.Machine.execSinkWriteRefused p s
  | .sinkWriteTimeout p => Sys2Proof.Machine.execSinkWriteTimeout p s
  | .syncInterval => Sys2Proof.Machine.execSyncInterval s
  | .announceInterval => Sys2Proof.Machine.execAnnounceInterval s
  | .delayRequest q => Sys2Proof.Machine.execDelayRequest q s
  | .gratuitousArp port nth => Sys2Proof.Machine.execGratuitousArp port nth s

end Sys2Proof.Machine
end

