-- ==== Sys2Proof/Machine/Step.lean ====
section
/-! DEFINITION. One step: the command at the front of the queue, or one idle cycle. -/

namespace Sys2Proof.Machine

/-- The state with the rest of its queue. (DESIGN CHOICE, log entry 1.) -/
def State.rest (s : State) (l : List Instr) : State := { s with pending := l }

/-- One step: the command at the front of the queue is carried out on the state with the queue's rest; with no command waiting, one cycle
of CK-NET passes (the model's clock, R141, R168). (DESIGN CHOICE, log entries 1 and 2 and 129.) -/
def step (s : State) : Host.Outcome State Fault Refusal :=
  match s.pending with
  | [] => .next s.start.tick
  | c :: l => exec c (s.rest l)

/-- The state with the command that a word spells put at the front of its queue; no word spells one. (DESIGN CHOICE, log entry 14.) -/
def State.withFetchWord (s : State) (nbits w : Nat) : State :=
  match decodeTableWord nbits w with
  | none => s
  | some c => { s with pending := c :: s.pending }

end Sys2Proof.Machine
end

