-- ==== Sys2Proof/Safety.lean ====
section
/-! DEFINITION. What counts as a safe run: every step answers a next state, and what the rules promise of every state at every instant. -/

namespace Sys2Proof.Machine

/-- A step that goes on: it ends in no fault and no refusal. -/
def Goes (s : State) : Prop := ∃ t, step s = .next t

/-- The tables of the dictionary are in canonical form. -/
def State.Canonical (s : State) : Prop := Tbl.wf s.objs ∧ Tbl.wf s.blobs

/-- The byte stores of chapter 18 are in canonical form: the images being loaded for the two targets, the inactive and the active
configuration slot. -/
def State.MemCanonical (s : State) : Prop :=
  Memory.wf s.mem.image = true ∧ Memory.wf s.mem.other.image = true ∧ Memory.wf s.mem.slot = true ∧ Memory.wf s.mem.active = true

/-- Nothing that a command emits stays unapplied once it has ended. -/
def State.Quiet (s : State) : Prop := s.emits = []

/-- No host request waits: for the standby's confirmation, in a planned handover, behind another, for a loop's tick, or for the answer to
a Withdraw item. -/
abbrev State.NoneWaits (s : State) : Prop :=
  s.acc.waits = [] ∧ s.acc.held = [] ∧ s.acc.slow = [] ∧ s.acc.aborts = [] ∧ s.acc.later = [] ∧ s.tw.plan = none ∧ s.tw.planReq = none

/-- An open session of the owner partition, on a serving module that is no standby and has no healthy standby: a write that passes its checks
commits at once (R29, R674). -/
abbrev State.Ready (s : State) (n : Nat) : Prop :=
  s.serving = true ∧ s.mode ≠ .standby ∧ 2 ≤ (s.ses n).state ∧ (s.ses n).part = 0 ∧ s.NoneWaits ∧ s.healthyStandby = false ∧ s.emits = []
    ∧ s.acc.journal.length < 65536

/-- The state in which the checks of a host request of session `n` are made: the session's frame has been seen (R193). -/
def State.atRequest (s : State) (n : Nat) : State :=
  { s with out := [], acc := { s.acc with sessions := s.acc.sessions.put {} n { s.ses n with lastFrame := s.clk } } }

/-- A twin frame with this header is taken: its lane is trained, its CRC is good, and the strap, PAIR_ID, mirror version and position of the two
modules belong together (R133, R578, R592). -/
abbrev State.Hears (s : State) (h : TwinHdr) : Prop :=
  s.up .twin = true ∧ s.bit Oid.TW_LANES h.lane.val = true ∧ h.crcGood = true ∧ s.nat Oid.STRAP_VALUE ≠ 0xFF ∧ h.pairId.toNat = s.pairId
    ∧ h.mirrorVer.toNat ≤ Config.mirrorVer.toNat + 1 ∧ Config.mirrorVer.toNat ≤ h.mirrorVer.toNat + 1 ∧ h.position.toNat ≠ s.position

/-- The module sends session `n` a response to its request `req`, with a status and no payload (R195, R201). -/
abbrev State.Answers (t : State) (n : Nat) (req : BitVec 32) (st : Nat) : Prop := Out.resp n 0x11 req st [] ∈ t.out

/-- The recorder holds a record of an event with these parameters (R641). -/
abbrev State.Recorded (s : State) (code src p0 p1 p2 : Nat) : Prop :=
  ∃ r ∈ s.rcd.ring, r.code = code ∧ r.src = src ∧ r.p0 = p0 % 4294967296 ∧ r.p1 = p1 % 4294967296 ∧ r.p2 = p2 % 4294967296

/-- The pending area of the recorder has room for 1,024 records more (R645). -/
abbrev State.Room (s : State) : Prop := s.rcd.waitingCount + 1024 ≤ 32768

end Sys2Proof.Machine
end

