-- ==== Sys2Proof/Certificates/Slice0/Obligations.lean ====
section
/-! DEFINITION. The statements about the model, for the provers: what the rules of the manual say a command does, frames, invariants, and
where every command completes. -/

open Sys2Proof Sys2Proof.Machine

/-! ### The queue, reset, and the module as a whole (chapters 00 and 01) -/

/-- A step takes the command at the front of the queue and carries it out on the state with the rest of the queue.
Model's choices that clauses of it rest on: log entry 1. -/
def Obligations.StepRunsFront : Prop :=
  ∀ (s : State) (c : Instr) (rest : List Instr), step { s with pending := c :: rest } = exec c { s with pending := rest }

/-- On an empty queue a step lets one CK-NET cycle of 8 ns pass and changes nothing but the clocks (R141, R168; that an empty queue lets time pass is
the model's choice, log entry 2). -/
def Obligations.IdleStep : Prop :=
  ∀ s : State, s.pending = [] →
    ∃ t, step s = .next t ∧ t.clk = s.clk + 8 ∧ t = { s with out := [], clk := t.clk, tb := t.tb }
      ∧ (s.up .net = true → t.tb.now = s.tb.now + BitVec.ofInt 96 (8 * 4294967296 + s.tb.rate))
      ∧ (s.up .net = false → t.tb.now = s.tb.now)

/-- No command ends the machine: every command answers a next state in every state.
Model's choices that clauses of it rest on: log entry 13. -/
def Obligations.EveryCommandGoesOn : Prop := ∀ (c : Instr) (s : State), ∃ t, exec c s = .next t

/-- The state right after reset (R2, R4, R108, R114, R119, R554, R641): BOOT, with the source POWER_ON asserted and only PD-AON on, ACTIVE_OUT
deasserted, no session, no point, no record, no launch and no loop, and an empty queue.
Model's choices that clauses of it rest on: log entry 5. -/
def Obligations.AfterReset : Prop :=
  State.reset.mode = .boot ∧ State.reset.pending = [] ∧ State.reset.tw.activeOut = false ∧ State.reset.gate = false
    ∧ State.reset.rst.asserted = 1 ∧ State.reset.rst.complete = false ∧ State.reset.nat Oid.PD_STATE = 1 ∧ State.reset.serving = false
    ∧ State.reset.acc.sessions = [] ∧ State.reset.pts.items = [] ∧ State.reset.launches = [] ∧ State.reset.loops = []
    ∧ State.reset.rcd.ring = [] ∧ State.reset.rcd.next = 0 ∧ State.reset.emits = []

/-- The dictionary and the byte stores of chapter 18 are in canonical form after reset.
Model's choices that clauses of it rest on: log entries 15 and 16. -/
def Obligations.ResetCanonical : Prop := State.reset.Canonical ∧ State.reset.MemCanonical

/-- Every step keeps the canonical form: equal dictionaries and equal memories stay equal data, whatever is commanded.
Model's choices that clauses of it rest on: log entries 15 and 16. -/
def Obligations.StepKeepsCanonical : Prop :=
  ∀ s t : State, s.Canonical → s.MemCanonical → step s = .next t → t.Canonical ∧ t.MemCanonical

/-- MODULE_STATE_REQ (R6, R37, R41): an ACTIVE module whose cars are all idle, parked, out of service or in inspection parks the idle ones and enters
SERVICE, and refuses with BUSY while any car is in another state; a SERVICE module enters ACTIVE with a valid configuration set, and answers INTEGRITY
without one. -/
def Obligations.ModuleStateRequests : Prop :=
  ∀ (s : State) (ses : Fin 64) (req : BitVec 32), s.Ready ses.val → s.Room →
    (s.mode = .active → (∀ n : Nat, n < 12 → s.carState n ≤ 2 ∨ s.carState n = 11) →
      ∃ t, exec (.moduleStateReqService ses req) s = .next t ∧ t.Answers ses.val req 0 ∧ t.mode = .service
        ∧ (∀ n : Nat, n < 12 → t.carState n = if s.carState n = 2 then 1 else s.carState n)
        ∧ t.Recorded 0x010A 0xFFFF Mode.active.code Mode.service.code 1) ∧
    (∀ n : Nat, n < 12 → 2 < s.carState n → s.carState n ≠ 11 →
      ∃ t, exec (.moduleStateReqService ses req) s = .next t ∧ t.Answers ses.val req 9 ∧ t.mode = s.mode ∧ t.objs = s.objs ∧ t.blobs = s.blobs
        ∧ t.rcd = s.rcd) ∧
    (s.mode = .service → s.cfgValid = true →
      ∃ t, exec (.moduleStateReqActive ses req) s = .next t ∧ t.Answers ses.val req 0 ∧ t.mode = .active
        ∧ t.Recorded 0x010A 0xFFFF Mode.service.code Mode.active.code 1
        ∧ (∀ n : Nat, n < 12 → t.carState n = s.carState n)) ∧
    (s.mode = .service → s.cfgValid = false →
      ∃ t, exec (.moduleStateReqActive ses req) s = .next t ∧ t.Answers ses.val req 13 ∧ t.mode = .service ∧ t.objs = s.objs ∧ t.blobs = s.blobs)

/-- The planned handover (R575, R576): HANDOVER_REQ is refused with BUSY without a healthy standby, and starts the plan with one, which holds the
answer; without a CONFIRM of the FINAL batch within 2 ms it is answered BUSY; a standby that has not passed EQUINOX stops its guard at ABORT_HO, and
the releasing module drives again at ABORT_ACK.
Model's choices that clauses of it rest on: log entries 3 and 69. -/
def Obligations.PlannedHandover : Prop :=
  ∀ s : State,
    (∀ (ses : Fin 64) (req : BitVec 32), s.Ready ses.val →
      ∃ t, exec (.handoverReq ses req) s = .next t ∧ t.Answers ses.val req 9 ∧ t.tw.plan = none ∧ t.objs = s.objs ∧ t.blobs = s.blobs) ∧
    (∀ (ses : Fin 64) (req : BitVec 32), s.serving = true → s.mode = .active → 2 ≤ (s.ses ses.val).state → (s.ses ses.val).part = 0 → s.NoneWaits →
      s.healthyStandby = true → s.nat Oid.TW_TWIN_SUMMARY = 0 → s.emits = [] → s.acc.journal.length < 65536 →
      ∃ t, exec (.handoverReq ses req) s = .next t ∧ t.tw.plan = some (s.clk, 0) ∧ t.tw.activeOut = s.tw.activeOut ∧ t.mode = .active
        ∧ (∃ r, t.tw.planReq = some r ∧ r.ses = ses.val ∧ r.req = req) ∧ t.objs = s.objs ∧ t.blobs = s.blobs ∧ t.rcd = s.rcd) ∧
    (∀ (at' n : Nat) (r : PendReq), s.tw.plan = some (at', n) → s.tw.planReq = some r → r.route = .pdp → s.acc.held = [] → s.acc.waits = [] →
      s.acc.later = [] → s.emits = [] →
      ∃ t, exec .handoverConfirmTimeout s = .next t ∧ t.tw.plan = none ∧ t.tw.planReq = none ∧ at' + 2000000 ≤ t.clk
        ∧ Out.resp r.ses r.op r.req 9 [] ∈ t.out ∧ t.mode = s.mode ∧ t.objs = s.objs) ∧
    (s.up .twin = true → s.mode = .standby → s.tw.released = none → s.activeIn = false →
      ∃ t, exec .abortHo s = .next t ∧ t.tw = { s.tw with guard := none } ∧ Out.twin 0x09 s.tw.gen [] ∈ t.out ∧ t.objs = s.objs ∧ t.mode = .standby) ∧
    (∀ (n : Nat) (req : BitVec 32), s.tw.abortHo = some (n, req) → s.up .twin = true → s.mode = .standby → s.tw.released.isSome = true →
      s.activeIn = false → s.acc.held = [] → s.acc.waits = [] → s.acc.later = [] → s.emits = [] → s.Room →
      ∃ t, exec .abortAck s = .next t ∧ t.mode = .active ∧ t.tw.activeOut = true ∧ t.tw.released = none ∧ t.tw.abortHo = none
        ∧ Out.resp n 0x14 req 0 [] ∈ t.out ∧ t.Recorded 0x060F 0xFFFF 1 0 0)

/-- The state decision at the end of start-up (R5, R38, R135, R138): an active, healthy twin makes the module STANDBY; while ACTIVE_IN is asserted it
waits; position A else becomes ACTIVE with a valid configuration set, or SERVICE without one, and asserts ACTIVE_OUT; position B watches for 250 ms
first.
Model's choices that clauses of it rest on: log entries 46 and 47. -/
def Obligations.StateDecision : Prop :=
  ∀ s : State, s.mayDecide = true → s.Room →
    let p := if s.tw.waiting || s.tw.watch.isSome then { s with out := [] } else ({ s with out := [] } : State).prepare
    (p.nat Oid.TW_TWIN_STATE = 3 → p.nat Oid.TW_TWIN_SUMMARY ≤ 1 →
      ∃ t, exec .stateDecision s = .next t ∧ t.rst.complete = true ∧ t.tb.status = 5 ∧ t.tw.waiting = false ∧ t.tw.mirror = false
        ∧ (s.frz.low = false → t.mode = .standby ∧ t.tw.activeOut = p.tw.activeOut)) ∧
    (¬ (p.nat Oid.TW_TWIN_STATE = 3 ∧ p.nat Oid.TW_TWIN_SUMMARY ≤ 1) → p.activeIn = true →
      ∃ t, exec .stateDecision s = .next t ∧ t.mode = .boot ∧ t.tw.waiting = true ∧ t.rst.complete = false ∧ t.tw.activeOut = p.tw.activeOut) ∧
    (¬ (p.nat Oid.TW_TWIN_STATE = 3 ∧ p.nat Oid.TW_TWIN_SUMMARY ≤ 1) → p.activeIn = false → p.actsAsA = true →
      ∃ t, exec .stateDecision s = .next t ∧ t.rst.complete = true
        ∧ (s.frz.low = false → t.tw.activeOut = true ∧ t.mode = if p.cfgValid then .active else .service)) ∧
    (¬ (p.nat Oid.TW_TWIN_STATE = 3 ∧ p.nat Oid.TW_TWIN_SUMMARY ≤ 1) → p.activeIn = false → p.actsAsA = false →
      (p.tw.watch = none →
        ∃ t, exec .stateDecision s = .next t ∧ t.mode = .boot ∧ t.tw.watch = some t.clk ∧ t.tw.activeOut = p.tw.activeOut) ∧
      (∀ n : Nat, p.tw.watch = some n →
        ∃ t, exec .stateDecision s = .next t ∧ t.rst.complete = true ∧ n + 250000000 ≤ t.clk
          ∧ (s.frz.low = false → t.tw.activeOut = true ∧ t.mode = if p.cfgValid then .active else .service)))

/-- On-demand tests and shrinking accounts (R20, R21, R28, R235, R237): a queued test starts only when both predictions hold, and is charged while it
runs; a running one is stopped above 55 W or within 5 K of the thermal limit; an account whose path is lost has all its items degraded, one whose path
is back degrades none.
Model's choices that clauses of it rest on: log entries 3 and 50. -/
def Obligations.TestsAndAccounts : Prop :=
  ∀ s : State,
    (∀ (k : TestKind) (consMw addMw : Nat), s.serving = true →
      let p : State := { s with out := [], pow := { s.pow with consMw := consMw } }
      (p.testReady k = true → p.testFits consMw addMw = true →
        ∃ t, exec (.testStart k consMw addMw) s = .next t ∧ k ∈ t.testsOn ∧ (∀ q ∈ t.testQueue, q.1 ≠ k)
          ∧ (∃ i ∈ t.pts.items, i.kind = .test (testNum k) ∧ i.charges = [(0x40, addMw), (0x48, testHeat addMw)])
          ∧ t.mode = s.mode ∧ t.rcd = s.rcd) ∧
      ((p.testReady k && p.testFits consMw addMw) = false →
        exec (.testStart k consMw addMw) s = .next p)) ∧
    (∀ (k : TestKind) (consMw : Nat) (die : Int), s.serving = true → k ∈ s.testsOn → (55000 < consMw ∨ 1000 ≤ die) →
      ∃ t, exec (.testStop k consMw die) s = .next t ∧ (∀ k' ∈ t.testsOn, testNum k' ≠ testNum k) ∧ t.get Oid.DIE_TEMP = die) ∧
    (∀ acct : BitVec 16, s.booted = true →
      (∃ t, exec (.accountShrink acct) s = .next t ∧ (portHealth acct.toNat = true → Tbl.get true t.pts.healthy acct.toNat = false)
        ∧ t.pts.items.map Item.id = s.pts.items.map Item.id
        ∧ (t.pathLost acct.toNat = true → (∀ i ∈ s.pts.items, i.cls ≤ 3) → ∀ i ∈ t.pts.items, (i.charges.any (fun c => c.1 == acct.toNat)) = true → i.degraded = true)) ∧
      (∃ t, exec (.accountGrow acct) s = .next t ∧ (portHealth acct.toNat = true → Tbl.get true t.pts.healthy acct.toNat = true)
        ∧ t.pts.items.map Item.id = s.pts.items.map Item.id
        ∧ (∀ i ∈ t.pts.items, i.degraded = true → ∃ j ∈ s.pts.items, j.id = i.id ∧ j.degraded = true)))

/-! ### Power and clock domains (chapter 03) -/

/-- The feeds (R95, R103): a feed becomes valid above 18.5 V for 100 ms, is lost below 17.0 V for 100 µs, is disconnected above 32.0 V for 50 µs and
connected again below 31.0 V for 100 ms; each change is recorded and leaves the other feed as it is.
Model's choices that clauses of it rest on: log entry 38. -/
def Obligations.Feeds : Prop :=
  ∀ (s : State) (f : Fin 2) (mv forUs : Nat), s.pd .aon = true → s.Room →
    let k := if f.val = 0 then Oid.FEED_A_MV else Oid.FEED_B_MV
    (18500 < mv → 100000 ≤ forUs → (s.feed f.val).disconnected = false → s.pow.autumn ≠ .done →
      ∃ t, exec (.feedValid f mv forUs) s = .next t ∧ t.feed f.val = { valid := true } ∧ t.feed (1 - f.val) = s.feed (1 - f.val)
        ∧ t.nat k = mv ∧ ((s.feed f.val).valid = false → t.Recorded 0x0202 0xFFFF f.val mv 0)
        ∧ (∀ k' : Key, k'.oid ≠ k.oid → k'.oid ≠ Oid.REC_DROPPED.oid → t.get k' = s.get k') ∧ t.mode = s.mode ∧ t.tw = s.tw) ∧
    (mv < 17000 → 100 ≤ forUs → (s.feed f.val).valid = true →
      ∃ t, exec (.feedLost f mv forUs) s = .next t ∧ t.feed f.val = {} ∧ t.feed (1 - f.val) = s.feed (1 - f.val)
        ∧ t.nat k = mv ∧ t.Recorded 0x0201 0xFFFF f.val mv 0
        ∧ (∀ k' : Key, k'.oid ≠ k.oid → k'.oid ≠ Oid.REC_DROPPED.oid → t.get k' = s.get k') ∧ t.mode = s.mode ∧ t.tw = s.tw) ∧
    (32000 < mv → 50 ≤ forUs → (s.feed f.val).disconnected = false →
      ∃ t, exec (.feedOvervolt f mv forUs) s = .next t ∧ t.feed f.val = { disconnected := true } ∧ t.feed (1 - f.val) = s.feed (1 - f.val)
        ∧ t.nat k = mv ∧ t.Recorded 0x0203 0xFFFF f.val mv 0 ∧ t.mode = s.mode ∧ t.tw = s.tw) ∧
    (mv < 31000 → 100000 ≤ forUs → (s.feed f.val).disconnected = true → s.pow.autumn ≠ .done →
      ∃ t, exec (.feedReconnect f mv forUs) s = .next t ∧ (t.feed f.val).disconnected = false
        ∧ (t.feed f.val).valid = decide (18500 < mv) ∧ t.feed (1 - f.val) = s.feed (1 - f.val) ∧ t.nat k = mv
        ∧ t.mode = s.mode ∧ t.tw = s.tw)

/-- AUTUMN (R101 to R104): both feeds below 17.0 V for 20 µs release ACTIVE_OUT, record the supply failure and leave PD-AON, PD-SLA, PD-MEM and, for
the sample in progress, PD-MET on; 130 µs later the save begins; when it is done its slot set is closed and only PD-AON stays on; words not written in
time are named with their slot set, which stays open; below 10 V PD-AON stops.
Model's choices that clauses of it rest on: log entries 3 and 38. -/
def Obligations.Autumn : Prop :=
  ∀ s : State, s.Room →
    (∀ mvA mvB forUs : Nat, s.pd .aon = true → mvA < 17000 → mvB < 17000 → 20 ≤ forUs → s.pow.autumn = .none →
      (s.pow.feedA.valid = true ∨ s.pow.feedB.valid = true ∨ s.pow.springOn = true ∨ s.nat Oid.PD_STATE ≠ 1) →
      ∃ t, exec (.supplyFail mvA mvB forUs) s = .next t ∧ t.pow.autumn = .running ∧ t.pow.feedA.valid = false ∧ t.pow.feedB.valid = false
        ∧ t.nat Oid.FEED_A_MV = mvA ∧ t.nat Oid.FEED_B_MV = mvB ∧ t.tw.activeOut = false
        ∧ t.nat Oid.PD_STATE = s.nat Oid.PD_STATE &&& 0x423 ∧ t.nat Oid.CK_GOOD = s.nat Oid.CK_GOOD &&& 0x423
        ∧ t.nat Oid.APP_CORES_ON = 0 ∧ t.nat Oid.DL_ON = 0 ∧ t.met = (if s.tw.activeOut then s.spoilTrips.met else s.met)
        ∧ t.Recorded 0x0210 0xFFFF (s.nat Oid.BANK_MV) 0 0
        ∧ (s.tw.activeOut = true → t.Recorded 0x0601 0xFFFF 3 (s.nat Oid.TW_GEN) 0 ∧ t.tw.released = some (3, s.clk))) ∧
    (∀ durUs : Nat, s.pow.autumn = .running → s.pow.feedA.valid = false → s.pow.feedB.valid = false →
      ∃ t, exec (.autumnDone durUs) s = .next t ∧ t.pow.autumn = .done ∧ t.nat Oid.PD_STATE = s.nat Oid.PD_STATE &&& 1
        ∧ t.nat Oid.CK_GOOD = s.nat Oid.CK_GOOD &&& 1 ∧ t.nat Oid.MI_ON = 0 ∧ s.pow.autumnAt + 130000 ≤ t.clk
        ∧ t.nat Oid.SAVE_NUMBER = t.met.lastNum ∧ t.rcd.waitingCount = 0
        ∧ (∃ x, t.met.slots.find (t.met.lastNum % 8) = some x ∧ x.num = t.met.lastNum ∧ x.kind = 1 ∧ x.closed = true)
        ∧ t.Recorded 0x0211 0xFFFF durUs (t.met.lastNum % 8) 0) ∧
    (∀ words : Nat, s.pow.autumn = .running → s.pow.feedA.valid = false → s.pow.feedB.valid = false →
      ∃ t, exec (.autumnIncomplete words) s = .next t ∧ t.pow.autumn = .done ∧ t.pow.openSet = some (t.met.lastNum % 8, words)
        ∧ t.nat Oid.PD_STATE = s.nat Oid.PD_STATE &&& 1 ∧ t.rcd.waitingCount = 0
        ∧ (∃ x, t.met.slots.find (t.met.lastNum % 8) = some x ∧ x.num = t.met.lastNum ∧ x.kind = 1 ∧ x.closed = false)) ∧
    (∀ mv : Nat, mv < 10000 → s.pow.autumn = .done →
      ∃ t, exec (.pdAonOff mv) s = .next t ∧ t.nat Oid.PD_STATE = 0 ∧ t.nat Oid.BANK_MV = mv ∧ t.pow = s.pow ∧ t.rcd = s.rcd
        ∧ (∀ k : Key, k.oid ≠ Oid.PD_STATE.oid → k.oid ≠ Oid.BANK_MV.oid → t.get k = s.get k))

/-- SPRING (R97, R98, R105 to R107): a domain's step switches the domain on with its clock once the power account allows it, and waits while it does
not; a step whose domain a reset kept is passed; step 12 waits for BANK_OK, for at most 2 s; a core group waits while the die is hot.
Model's choices that clauses of it rest on: log entries 35, 39, 40, 41 and 46. -/
def Obligations.Spring : Prop :=
  ∀ s : State, s.Room →
    (∀ (n : Nat) (d : Domain), ((n = 2 ∧ d = .sla) ∨ (n = 3 ∧ d = .mem) ∨ (n = 7 ∧ d = .ce) ∨ (n = 8 ∧ d = .pos) ∨ (n = 9 ∧ d = .net) ∨ (n = 10 ∧ d = .bus)) →
      s.pow.springOn = true → s.rst.inReset = false → s.mode ≠ .frozen → s.rst.strapFault = false → s.rst.bootFail = false →
      s.nat Oid.SPRING_STEP + 1 = n →
      (s.pd d = false → s.fitsUnits d 1 = true → (s.pow.tcxo = true ∨ d = .sla) →
        ∃ t, exec .springStep s = .next t ∧ t.pd d = true ∧ t.ck d = true ∧ t.nat Oid.SPRING_STEP = n
          ∧ s.pow.springT0 + 1000000 * springMs n ≤ t.clk ∧ (∀ d' : Domain, d' ≠ d → t.pd d' = s.pd d') ∧ t.mode = s.mode) ∧
      (s.pd d = false → s.fitsUnits d 1 = false →
        ∃ t, exec .springStep s = .next t ∧ t.objs = s.objs ∧ t.pow = s.pow ∧ t.mode = s.mode) ∧
      (s.pd d = true →
        ∃ t, exec .springStep s = .next t ∧ t.nat Oid.SPRING_STEP = n ∧ (∀ d' : Domain, t.pd d' = s.pd d') ∧ t.mode = s.mode)) ∧
    (∀ mv capUf : Nat, s.pd .aon = true →
      ∃ t, exec (.bankMeasure mv capUf) s = .next t ∧ t.nat Oid.BANK_MV = mv ∧ t.nat Oid.BANK_CAP = capUf
        ∧ t.flag Oid.BANK_OK = decide (36000 ≤ mv ∧ 1800 ≤ capUf)
        ∧ t.pow.charging = ((s.pow.feedA.valid || s.pow.feedB.valid) && decide (mv < 40000))
        ∧ (capUf < 1800 → t.Recorded 0x0220 0xFFFF mv capUf 0)) ∧
    (s.pow.springOn = true → s.pow.bankGiveUp = false → s.flag Oid.BANK_OK = false → s.nat Oid.SPRING_STEP = 11 →
      ∃ t, exec .bankOkTimeout s = .next t ∧ t.pow = { s.pow with bankGiveUp := true } ∧ s.pow.springT0 + 2000000000 ≤ t.clk
        ∧ t.Recorded 0x0220 0xFFFF (s.nat Oid.BANK_MV) (s.nat Oid.BANK_CAP) 0) ∧
    (∀ g : Nat, 1 ≤ g → g ≤ 3 → s.pow.heldGroups.getLsbD g = true → (∀ h : Nat, 1 ≤ h → h < g → s.pow.heldGroups.getLsbD h = false) →
      s.up .app = true →
      (s.get Oid.DIE_TEMP ≤ 950 → s.pow.springOn = false →
        ∃ t, exec .coreGroupRetry s = .next t ∧ t.pow.heldGroups.getLsbD g = false ∧ s.pow.retryAt + 1000000000 ≤ t.clk
          ∧ (∀ c : Nat, c < 4 → t.pow.awake.getLsbD (4 * g + c) = true ∧ t.pow.inService.getLsbD (4 * g + c) = true)) ∧
      (950 < s.get Oid.DIE_TEMP →
        ∃ t, exec .coreGroupRetry s = .next t ∧ t.pow.heldGroups.getLsbD g = true ∧ t.pow.awake = s.pow.awake
          ∧ t.pow.inService = s.pow.inService ∧ t.Recorded 0x0230 0xFFFF g (par (s.get Oid.DIE_TEMP)) 0))

/-- Cores and clocks (R81, R82, R87 to R90, R126): a core sleeps only while more than APP_MIN_AWAKE are awake and wakes on its event; the loss of
clock-good puts every block of the domain into reset and is recorded, its return sets clock-good again; the loss of the TCXO takes clock-good from
every PLL domain; CK-AON falls back to the burst oscillator.
Model's choices that clauses of it rest on: log entry 40. -/
def Obligations.CoresAndClocks : Prop :=
  ∀ s : State, s.Room →
    (∀ core : Fin 16, s.up .app = true → s.pow.awake.getLsbD core.val = true →
      (s.nat Oid.APP_MIN_AWAKE < popCount s.pow.awake.toNat 16 →
        ∃ t, exec (.coreSleep core) s = .next t ∧ t.pow.awake = s.pow.awake &&& ~~~ BitVec.twoPow 16 core.val
          ∧ t.nat Oid.APP_CORES_ON = t.pow.awake.toNat ∧ Tbl.get 0 s.pow.coreWork core.val + 1000 * s.nat Oid.APP_SLEEP_DELAY ≤ t.clk
          ∧ (∀ k : Key, k.oid ≠ Oid.APP_CORES_ON.oid → t.get k = s.get k) ∧ t.rcd = s.rcd) ∧
      (popCount s.pow.awake.toNat 16 ≤ s.nat Oid.APP_MIN_AWAKE → exec (.coreSleep core) s = .next { s with out := [] })) ∧
    (∀ (core : Fin 16) (ev : WakeEvent), s.up .app = true → s.pow.inService.getLsbD core.val = true →
      ∃ t, exec (.coreWake core ev) s = .next t ∧ t.pow.awake.getLsbD core.val = true ∧ t.nat Oid.APP_CORES_ON = t.pow.awake.toNat
        ∧ (∀ k : Key, k.oid ≠ Oid.APP_CORES_ON.oid → t.get k = s.get k) ∧ t.rcd = s.rcd) ∧
    (∀ (dom : Domain) (cause : Bool), dom ≠ .aon → (dom ≠ .sla ∨ cause = true) → s.pd dom = true → s.ck dom = true →
      ∃ t, exec (.clockLost dom cause) s = .next t ∧ t.ck dom = false
        ∧ (∀ b : Nat, b < 64 → blockDomain b = dom → t.bit Oid.BLOCK_IN_RST b = true)
        ∧ t.Recorded 0x0301 0xFFFF (domBit dom) (boolNat cause) 0) ∧
    (∀ cause : Bool, s.pd .aon = true → s.pow.tcxo = true →
      ∃ t, exec (.clockLost .aon cause) s = .next t ∧ t.pow.tcxo = false ∧ (∀ d ∈ pllDomains, s.pd d = true → t.ck d = false)
        ∧ (∀ d : Domain, t.pd d = s.pd d) ∧ t.ck .sla = s.ck .sla
        ∧ (∀ d ∈ pllDomains, s.pd d = true → s.ck d = true → t.Recorded 0x0301 0xFFFF (domBit d) 0 0)) ∧
    (∀ dom : Domain, dom ≠ .aon → s.pd dom = true → s.ck dom = false → (dom = .sla ∨ s.pow.tcxo = true) →
      ∃ t, exec (.clockRestored dom) s = .next t ∧ t.ck dom = true ∧ t.Recorded 0x0302 0xFFFF (domBit dom) 0 0) ∧
    (∀ good : Bool, s.pd .aon = true → s.pow.aonFallback = good →
      ∃ t, exec (.aonFallback good) s = .next t ∧ t.pow = { s.pow with aonFallback := !good } ∧ t.bit Oid.CK_GOOD 0 = good
        ∧ t.Recorded 0x0303 0xFFFF (boolNat (!good)) 0 0)

/-- The die temperature (R114, R663, R675): a reading is DIE_TEMP; at 115 °C the source THERMAL resets the module; below 100 °C it is released, and
not before 10 s of it have passed.
Model's choices that clauses of it rest on: log entries 25 and 37. -/
def Obligations.DieTemperature : Prop :=
  ∀ s : State, s.Room →
    (∀ x : Int, s.pd .aon = true → x < 1050 →
      ∃ t, exec (.dieTempReading x) s = .next t ∧ t.get Oid.DIE_TEMP = x ∧ t.pow.hot = false ∧ t.mode = s.mode
        ∧ t.rst.coolSince = (if x < 1000 then some (s.rst.coolSince.getD s.clk) else none)) ∧
    (∀ x : Int, s.pd .aon = true → 1150 ≤ x → s.rst.asserted.getLsbD 14 = false → s.pow.autumn ≠ .running → s.mode ≠ .frozen →
      s.mode ≠ .active → s.rst.pendingRel = none →
      ∃ t, exec (.thermalReset x) s = .next t ∧ t.rst.asserted.getLsbD 14 = true ∧ t.rst.inReset = true ∧ t.mode = .boot
        ∧ t.bit Oid.RESET_CAUSE 14 = true ∧ t.Recorded 0x0101 0xFFFF 14 2 (t.nat Oid.RESET_CAUSE)) ∧
    (∀ x : Int, x < 1000 → s.rst.asserted.getLsbD 14 = true →
      ∃ t, exec (.thermalRelease x) s = .next t ∧ t.rst = { s.rst with asserted := s.rst.asserted &&& ~~~ BitVec.twoPow 32 14 }
        ∧ t.get Oid.DIE_TEMP = x ∧ s.rst.coolSince.getD s.clk + 10000000000 ≤ t.clk)

/-! ### Reset (chapter 04) -/

/-- RESET_REQ (R114, R121, R122): in SERVICE a write of 1, 2 or 3 asserts the reset of reach COLD, WARM or CORE, which takes the module to BOOT with
its source seen; an ACTIVE module without a healthy standby refuses it with BUSY.
Model's choices that clauses of it rest on: log entry 42. -/
def Obligations.ResetRequests : Prop :=
  ∀ (s : State) (ses : Fin 64) (req : BitVec 32), s.Ready ses.val →
    (∀ (i : Instr) (b : Nat), (i = .resetReqCold ses req ∧ b = 6) ∨ (i = .resetReqWarm ses req ∧ b = 4) ∨ (i = .resetReqCore ses req ∧ b = 5) →
      (s.mode = .service → s.pow.autumn ≠ .running → s.rst.pendingRel = none →
        ∃ t, exec i s = .next t ∧ t.mode = .boot ∧ t.rst.inReset = true ∧ t.rst.complete = false ∧ t.rst.asserted.getLsbD b = true
          ∧ t.bit Oid.RESET_CAUSE b = true ∧ t.nat Oid.SPRING_STEP = 0 ∧ t.launches = [] ∧ t.emits = []
          ∧ t.Recorded 0x0101 0xFFFF b (if b = 6 then 1 else if b = 4 then 2 else 3) (t.nat Oid.RESET_CAUSE)) ∧
      (s.mode = .active →
        ∃ t, exec i s = .next t ∧ t.Answers ses.val req 9 ∧ t.mode = .active ∧ t.rst = s.rst ∧ t.objs = s.objs ∧ t.blobs = s.blobs
          ∧ t.rcd = s.rcd))

/-- The other sources of a module that is not ACTIVE (R114, R123, R549, R626): RESET_N low for 20 ms, a lockstep mismatch, the application watchdog,
an uncorrectable error in a critical region and a parity error in a critical register each reset the module and are recorded; RESET_N high for 20 ms
releases its source, and held low for 8 s it counts as stuck.
Model's choices that clauses of it rest on: log entries 22 and 42. -/
def Obligations.ResetSources : Prop :=
  ∀ s : State, s.pow.autumn ≠ .running → s.rst.pendingRel = none → s.mode ≠ .active → s.mode ≠ .frozen →
    (∀ (i : Instr) (b : Nat),
      ((∃ forMs : Nat, 20 ≤ forMs ∧ i = .resetNPress forMs ∧ b = 2 ∧ s.rst.resetN = .high) ∨ (i = .lockstepMismatch ∧ b = 8 ∧ s.up .safe = true)
        ∨ (i = .appWdog ∧ b = 9 ∧ s.up .app = true)
        ∨ (∃ (region : Byte) (addr : BitVec 32), criticalRegion region.toNat = true ∧ i = .critDse region addr ∧ b = 11 ∧ s.booted = true)
        ∨ (i = .critParityCheck true ∧ b = 10 ∧ s.up .safe = true)) →
      ∃ t, exec i s = .next t ∧ t.mode = .boot ∧ t.rst.inReset = true ∧ t.rst.complete = false ∧ t.rst.asserted.getLsbD b = true
        ∧ t.bit Oid.RESET_CAUSE b = true ∧ t.launches = [] ∧ t.Recorded 0x0101 0xFFFF b (reachOf b) (t.nat Oid.RESET_CAUSE)
        ∧ (i = .lockstepMismatch → t.tw.activeOut = false)) ∧
    (exec (.critParityCheck false) s = .next { s with out := [] }) ∧
    (∀ forMs : Nat, s.rst.resetN = .low → 20 ≤ forMs →
      ∃ t, exec (.resetNRelease forMs) s = .next t ∧ t.nat Oid.RESET_N_STATE = 0 ∧ t.mode = s.mode
        ∧ t.rst = { s.rst with asserted := s.rst.asserted &&& ~~~ BitVec.twoPow 32 2, resetN := .high }) ∧
    (∀ forMs : Nat, s.rst.resetN = .stuck → 100 ≤ forMs →
      ∃ t, exec (.resetNRelease forMs) s = .next t ∧ t.nat Oid.RESET_N_STATE = 0 ∧ t.rst = { s.rst with resetN := .high }) ∧
    (∀ forMs : Nat, s.rst.resetN = .stuck → exec (.resetNPress forMs) s = .next { s with out := [] }) ∧
    (∀ forMs : Nat, s.rst.resetN = .low → 8000 ≤ forMs →
      ∃ t, exec (.resetNStuck forMs) s = .next t ∧ t.nat Oid.RESET_N_STATE = 2 ∧ t.rst.resetN = .stuck
        ∧ t.rst.asserted = s.rst.asserted &&& ~~~ BitVec.twoPow 32 2 ∧ t.bit Oid.RESET_CAUSE 3 = true ∧ t.Recorded 0x0102 0xFFFF forMs 0 0)

/-- The end of a reset and the strap (R117, R121, R131, R132, R646): start-up begins once every asserted source is released, 1 ms after the last; the
sources that waited for a release assert after 1.2 ms; a strap ratio outside every band is a fault that is tried again every second; PD-AON that
starts from below 10 V rebuilds REC_NEXT.
Model's choices that clauses of it rest on: log entries 3 and 36. -/
def Obligations.ResetEnds : Prop :=
  ∀ (s : State) (ratio : Nat),
    (s.rst.inReset = true → s.mode ≠ .frozen → s.pow.autumn ≠ .running →
      (∀ b : Nat, s.rst.asserted.getLsbD b = true → b < 15 ∧ s.releasable b = true ∧ s.rst.seen.getLsbD b = true) →
      ∃ t, exec (.resetRelease ratio) s = .next t ∧ t.rst.inReset = false ∧ t.rst.asserted = 0 ∧ t.pow.springOn = true
        ∧ t.nat Oid.SPRING_STEP = 0 ∧ t.nat Oid.RESET_REACH = s.rst.reach ∧ t.pow.springT0 = t.clk
        ∧ (∀ b n : Nat, (b, n) ∈ s.rst.atNs → n + 1000000 ≤ t.clk)
        ∧ (s.rst.reach ≠ 3 → t.nat Oid.STRAP_RATIO = ratio ∧ t.rst.strapFault = (strapBand ratio).isNone
            ∧ t.nat Oid.STRAP_VALUE = (strapBand ratio).getD 0xFF)) ∧
    (s.rst.inReset = true → s.mode ≠ .frozen → s.pow.autumn ≠ .running → s.rst.asserted = 1 → s.rst.seen = 0 → s.rst.reach = 0 →
      s.rst.complete = false → s.releasable 0 = true →
      ∃ t, exec (.resetRelease ratio) s = .next t ∧ t.rst.inReset = false ∧ t.rst.asserted = 0 ∧ t.pow.springOn = true
        ∧ t.nat Oid.RESET_REACH = 1 ∧ t.nat Oid.RESET_CAUSE = 1 ∧ t.Recorded 0x0101 0xFFFF 0 1 1) ∧
    (∀ b : Nat, b < 15 → s.rst.inReset = true → s.mode ≠ .frozen → s.rst.asserted.getLsbD b = true → s.releasable b = false →
      (∀ c : Nat, c < 15 → s.rst.asserted.getLsbD c = true → s.rst.seen.getLsbD c = true) →
      ∃ t, exec (.resetRelease ratio) s = .next t ∧ t.rst.inReset = true ∧ t.rst.asserted.getLsbD b = true ∧ t.pow = s.pow ∧ t.objs = s.objs) ∧
    (s.rst.strapFault = true → s.rst.inReset = false →
      ∃ t, exec (.strapRetry ratio) s = .next t ∧ t.nat Oid.STRAP_RATIO = ratio ∧ t.rst.strapFault = (strapBand ratio).isNone
        ∧ t.nat Oid.STRAP_VALUE = (strapBand ratio).getD 0xFF ∧ s.rst.strapAt + 1000000000 ≤ t.clk) ∧
    (∀ (bs : List Nat) (at' : Nat), s.rst.pendingRel = some (bs, at') → bs ≠ [] → (∀ b ∈ bs, b < 15) →
      ∃ t, exec .releaseResetTimeout s = .next t ∧ t.mode = .boot ∧ t.rst.pendingRel = none ∧ t.rst.inReset = true
        ∧ at' + 1200000 ≤ t.clk ∧ (∀ b ∈ bs, t.rst.asserted.getLsbD b = true)) ∧
    (∃ t, exec .powerOn s = .next t ∧ t.mode = .boot ∧ t.rst.seen = 1 ∧ t.rst.asserted = 1 ∧ t.rst.inReset = true ∧ t.nat Oid.RESET_CAUSE = 1
        ∧ t.tb.op = 0 ∧ t.pow.autumn = .none ∧ t.launches = [] ∧ t.Recorded 0x0101 0xFFFF 0 1 1
        ∧ (∀ h : Nat, h ∈ s.rcd.heads → h ≠ 0xFFFFFFFFFFFFFFFF → h + 4096 ≤ t.rcd.next))

/-- BLOCK_RST (R125, R127, R128): an accepted write is the register's value, puts every block whose bit it sets into reset, and lets a block whose bit
it clears leave reset where the clock of its domain is good; one that sets the bit of a block in use is refused with BUSY.
Model's choices that clauses of it rest on: log entry 45. -/
def Obligations.BlockResets : Prop :=
  ∀ (s : State) (ses : Fin 64) (req : BitVec 32) (v : BitVec 64), s.Ready ses.val →
    ((∀ b : Nat, b < 64 → v.getLsbD b = true → s.bit Oid.BLOCK_RST b = true ∨ s.blockBusy b = false) →
      ∃ t, exec (.blockRst ses req v) s = .next t ∧ t.nat Oid.BLOCK_RST = v.toNat ∧ t.mode = s.mode
        ∧ (∀ b : Nat, b < 64 → v.getLsbD b = true → s.bit Oid.BLOCK_RST b = false → t.bit Oid.BLOCK_IN_RST b = true)
        ∧ (∀ b : Nat, b < 64 → v.getLsbD b = false → s.bit Oid.BLOCK_RST b = true → s.pd (blockDomain b) = true →
            s.ck (blockDomain b) = true → t.bit Oid.BLOCK_IN_RST b = false)
        ∧ (∀ b : Nat, b < 64 → v.getLsbD b = s.bit Oid.BLOCK_RST b → t.bit Oid.BLOCK_IN_RST b = s.bit Oid.BLOCK_IN_RST b)) ∧
    (∀ b : Nat, b < 64 → v.getLsbD b = true → s.bit Oid.BLOCK_RST b = false → s.blockBusy b = true →
      ∃ t, exec (.blockRst ses req v) s = .next t ∧ t.Answers ses.val req 9 ∧ t.objs = s.objs ∧ t.blobs = s.blobs ∧ t.rcd = s.rcd)

/-! ### The time base and launches (chapter 05) -/

/-- PTP and the status of the time base (R143 to R150, R153): a Sync of the grandmaster on the follower port is measured, the sixteenth in a row
within 1 µs locks, one beyond 10 ms is a fault that frees the base; without Sync and Announce the base is in HOLDOVER, and FREE after the limit; the
grandmaster sends Sync and Announce on its ports at their intervals, a follower its delay requests, and a delay request of the other end of the link
is answered.
Model's choices that clauses of it rest on: log entries 3, 27, 51 and 52. -/
def Obligations.TimeFollowing : Prop :=
  ∀ (s : State) (port : Fin 4), s.Room →
    (∀ o : Int, s.ptpOn port.val = true → s.tb.gm = true → s.tb.follower = port.val → s.twinTimed = false → s.tb.status ≠ 0 → s.tb.fault = false →
      (o.natAbs ≤ 1000 → 15 ≤ s.tb.good → s.tb.status ≠ 2 →
        ∃ t, exec (.sync port o true) s = .next t ∧ t.tb.status = 2 ∧ t.nat Oid.TIME_STATUS = 2 ∧ t.get Oid.TIME_OFFSET_NS = o
          ∧ t.Recorded 0x1101 0xFFFF port.val (par o) 0) ∧
      (1000 < o.natAbs → o.natAbs ≤ 10000000 →
        ∃ t, exec (.sync port o true) s = .next t ∧ t.tb.status = s.tb.status ∧ t.tb.good = 0 ∧ t.get Oid.TIME_OFFSET_NS = o ∧ t.rcd = s.rcd) ∧
      (10000000 < o.natAbs →
        ∃ t, exec (.sync port o true) s = .next t ∧ t.tb.status = 4 ∧ t.tb.fault = true ∧ t.tb.good = 0 ∧ t.Recorded 0x1103 0xFFFF 1 0 0
          ∧ t.Recorded 0x1104 0xFFFF (par (clampInt (-2147483648) 2147483647 (o / 1000))) 0 0)) ∧
    (∀ o : Int, exec (.sync port o false) s = .next { s with out := [] }) ∧
    (∀ m : AnnounceMsg, s.ptpOn port.val = true → s.portLinked port.val = true → m.domain.toNat = s.ptpDomain → s.announced (1 - port.val) = false → s.tb.gm = false →
      s.capable = false → s.twinTimed = false → s.tb.status ≠ 0 → s.tb.fault = false → s.emits = [] →
      ∃ t, exec (.announce port m) s = .next t ∧ t.tb.gm = true ∧ t.tb.master = false ∧ t.tb.follower = port.val ∧ t.tb.status = 1
        ∧ t.blob Oid.PTP_GM_ID = leBytes 8 m.gmId.toNat ∧ t.Recorded 0x1106 0xFFFF m.gmId.toNat (m.gmId.toNat / 4294967296) 0) ∧
    (s.ptpOn port.val = true → s.announced 0 = false → s.announced 1 = false → s.synced 0 = false → s.synced 1 = false → s.twinTimed = false →
      (s.tb.status = 1 ∨ s.tb.status = 2) →
      ∃ t, exec (.announceTimeout port) s = .next t ∧ t.tb.status = 3 ∧ t.tb.gm = false ∧ t.tb.holdoverAt = s.time
        ∧ t.Recorded 0x1102 0xFFFF (par (s.get Oid.TIME_OFFSET_NS)) 0 0 ∧ (s.capable = true → t.tb.master = true)) ∧
    (s.tb.status = 3 → s.tb.holdoverAt + 1000000000 * s.nat Oid.HOLDOVER_LIMIT ≤ s.time →
      ∃ t, exec .holdoverLimit s = .next t ∧ t.tb.status = 4 ∧ t.nat Oid.TIME_STATUS = 4 ∧ t.Recorded 0x1103 0xFFFF 0 0 0) ∧
    (s.tb.master = true → s.twinTimed = false →
      (∃ t, exec .syncInterval s = .next t ∧ s.tb.syncAt + s.syncNs ≤ t.clk ∧ t.tb.syncAt = t.clk ∧ t.tb.seqSync = s.tb.seqSync + 1
        ∧ t.out = ((List.range 2).filter s.ptpOn).map (fun p => .ptp p s.ptpTransport s.ptpDomain 0 s.tb.seqSync.toNat (leBytes 8 t.time))
        ∧ t.objs = s.objs ∧ t.blobs = s.blobs ∧ t.rcd = s.rcd) ∧
      (s.tb.status ≠ 0 → s.tb.fault = false →
        ∃ t, exec .announceInterval s = .next t ∧ s.tb.annAt + 1000000000 ≤ t.clk ∧ t.tb.annAt = t.clk ∧ t.tb.seqAnn = s.tb.seqAnn + 1
          ∧ t.out = ((List.range 2).filter s.ptpOn).map (fun p => .ptp p s.ptpTransport s.ptpDomain 1 s.tb.seqAnn.toNat s.announceBody)
          ∧ t.objs = s.objs ∧ t.blobs = s.blobs ∧ t.rcd = s.rcd)) ∧
    (s.ptpOn port.val = true →
      (s.tb.master = false → s.tb.gm = true →
        exec (.delayRequest ⟨port, none⟩) s = .next { s with
          out := [.ptp port.val s.ptpTransport s.ptpDomain (if s.get Oid.PTP_PROFILE = 1 then 2 else 3) s.tb.seqDelay.toNat []]
          tb := { s.tb with seqDelay := s.tb.seqDelay + 1 } }) ∧
      (∀ n : BitVec 16, (s.get Oid.PTP_PROFILE = 1 → s.tb.master = true) →
        exec (.delayRequest ⟨port, some n⟩) s = .next { s with
          out := [.ptp port.val s.ptpTransport s.ptpDomain (if s.get Oid.PTP_PROFILE = 1 then 4 else 5) n.toNat (leBytes 8 s.time)] }))

/-- Setting the time, and the rows of the operating time (R150, R152, R168, R210, R647): a step request in SERVICE after a time fault steps to the
grandmaster's time and is ACQUIRING; TIME_SET steps to its value and is FREE; both are refused with BUSY elsewhere; a wrap of OPTIME40 is counted;
LAST_KNOWN_TIME is kept every 600 s and never falls; TIME_MARK records TIME64.
Model's choices that clauses of it rest on: log entries 3 and 126. -/
def Obligations.TimeSetting : Prop :=
  ∀ (s : State) (ses : Fin 64) (req : BitVec 32), s.Room →
    (s.Ready ses.val →
      (s.mode = .service → s.carsStill = true → s.tb.status = 4 → s.tb.fault = true → s.tb.gm = true →
        (∀ l ∈ s.launches, l.live = true → s.gmNow ≤ l.time) →
        ∃ t, exec (.timeStepReq ses req) s = .next t ∧ t.Answers ses.val req 0 ∧ t.time = s.gmNow % 2 ^ 64 ∧ t.tb.status = 1 ∧ t.tb.fault = false
          ∧ t.tb.good = 0 ∧ t.mode = .service) ∧
      ((s.mode == .service && s.carsStill && s.tb.status == 4 && s.tb.fault && s.tb.gm) = false →
        ∃ t, exec (.timeStepReq ses req) s = .next t ∧ t.Answers ses.val req 9 ∧ t.tb = s.tb ∧ t.objs = s.objs ∧ t.blobs = s.blobs) ∧
      (∀ v : BitVec 64, s.mode = .service → (s.tb.status = 0 ∨ (s.tb.status = 4 ∧ s.tb.gm = false)) →
        (∀ l ∈ s.launches, l.live = true → v.toNat ≤ l.time) →
        ∃ t, exec (.timeSet ses req v) s = .next t ∧ t.Answers ses.val req 0 ∧ t.time = v.toNat ∧ t.tb.status = 4 ∧ t.nat Oid.TIME_SET = v.toNat
          ∧ t.Recorded 0x1103 0xFFFF 2 0 0 ∧ (s.capable = true → t.tb.master = true)) ∧
      (∀ v : BitVec 64, s.mode ≠ .service →
        ∃ t, exec (.timeSet ses req v) s = .next t ∧ t.Answers ses.val req 9 ∧ t.tb = s.tb ∧ t.objs = s.objs ∧ t.blobs = s.blobs)) ∧
    (s.tb.wrapped = true → s.pd .aon = true →
      ∃ t, exec .solstice s = .next t ∧ t.tb = { s.tb with wrapped := false } ∧ t.nat Oid.SOLSTICE_COUNT = min (s.nat Oid.SOLSTICE_COUNT + 1) 65535
        ∧ (∃ r ∈ t.rcd.ring, r.code = 0x1108 ∧ r.optime = 0 ∧ r.p0 = s.nat Oid.POWER_CYCLES % 4294967296 ∧ r.p1 = t.nat Oid.SOLSTICE_COUNT)
        ∧ (∀ k : Key, k.oid ≠ Oid.SOLSTICE_COUNT.oid → t.get k = s.get k)) ∧
    (s.booted = true → 2 ≤ s.tb.status → s.tb.status ≤ 4 →
      ∃ t, exec .lastKnownTimeSave s = .next t ∧ t.nat Oid.LAST_KNOWN_TIME = max (s.nat Oid.LAST_KNOWN_TIME) t.time
        ∧ s.tb.knownAt + 600000000000 ≤ t.clk ∧ t.tb.knownAt = t.clk ∧ t.tb.status = s.tb.status ∧ t.rcd = s.rcd
        ∧ (∀ k : Key, k.oid ≠ Oid.LAST_KNOWN_TIME.oid → t.get k = s.get k)) ∧
    (s.booted = true →
      ∃ t, exec .timeMark s = .next t ∧ t.rcd.lastMark = t.clk ∧ s.rcd.lastMark + 1000000000 * s.nat Oid.REC_MARK_INTERVAL ≤ t.clk
        ∧ t.Recorded 0x110C 0xFFFF t.time (t.time / 4294967296) s.tb.status)

/-- Launches (R17, R159 to R165): a submission whose every descriptor passes the checks queues every launch, and one that fails queues none; a write
to a field channel that no point and no pulse output drives, at a time within the lead times, passes them. A launch is cancelled before its commit
point, and TOO_LATE after it; 100 µs before its time it is checked again, and is committed or refused; when it is due it leaves the queue and its
value goes to its target, and a field channel takes its level; its tag is free 10 s after its launch time.
Model's choices that clauses of it rest on: log entries 3, 53, 54 and 124. -/
def Obligations.Launches : Prop :=
  ∀ s : State,
    (∀ (ses : Fin 64) (req : BitVec 32) (data : List Byte), s.Ready ses.val → data.length % 32 = 0 → 32 ≤ data.length → data.length ≤ 2048 →
      ((s.atRequest ses.val).submitCheck { ses := ses.val } [] (launchDescs data) = none →
        ∃ t, exec (.launchSubmit ses req data) s = .next t ∧ t.Answers ses.val req 0 ∧ t.objs = s.objs ∧ t.blobs = s.blobs ∧ t.rcd = s.rcd
          ∧ (∀ x ∈ launchDescs data, ∃ l ∈ t.launches, l.part = 0 ∧ l.tag = x.tag ∧ l.time = x.time ∧ l.target = x.target ∧ l.value = x.value
              ∧ l.state = .waiting)) ∧
      (∀ r : Refuse, (s.atRequest ses.val).submitCheck { ses := ses.val } [] (launchDescs data) = some r →
        ∃ t, exec (.launchSubmit ses req data) s = .next t ∧ (∃ p, Out.resp ses.val 0x11 req r.st.code p ∈ t.out) ∧ t.launches = s.launches
          ∧ t.blobs = s.blobs)) ∧
    (∀ (ses : Fin 64) (req tag : BitVec 32) (time : BitVec 64) (x : Fin 64) (b : Bool), s.Ready ses.val → s.tb.status ≠ 0 → s.fioOwner x.val = 0 →
      s.time + s.nat Oid.LAUNCH_MIN_LEAD * 1000 ≤ time.toNat → time.toNat ≤ s.time + s.nat Oid.LAUNCH_MAX_LEAD * 1000000000 →
      s.heldTag 0 tag.toNat = none → s.launches.length < 1024 → s.acctUsed 0x38 < 16384 →
      ∃ t, exec (.launchSubmit ses req ([if b then 1 else 0] ++ List.replicate 13 0 ++ [1, 0] ++ leBytes 4 tag.toNat ++ leBytes 4 (Oid.FIO_OUT x).oid
          ++ leBytes 8 time.toNat)) s = .next t
        ∧ t.Answers ses.val req 0 ∧ t.objs = s.objs ∧ t.blobs = s.blobs ∧ t.rcd = s.rcd ∧ t.mode = s.mode
        ∧ t.launches = s.launches ++ [{ part := 0, tag := tag.toNat, time := time.toNat, target := (Oid.FIO_OUT x).oid, prio := 0
                                        value := [if b then 1 else 0], order := s.launchSeq, cls := 3, charges := [] }]) ∧
    (∀ (ses : Fin 64) (req tag : BitVec 32), s.Ready ses.val →
      (s.heldTag 0 tag.toNat = none →
        ∃ t, exec (.launchCancel ses req tag) s = .next t ∧ t.Answers ses.val req 1 ∧ t.launches = s.launches ∧ t.objs = s.objs) ∧
      (∀ l, s.heldTag 0 tag.toNat = some l → l.state = .waiting → s.time + 100000 < l.time →
        ∃ t, exec (.launchCancel ses req tag) s = .next t ∧ t.Answers ses.val req 0 ∧ t.objs = s.objs ∧ t.blobs = s.blobs ∧ t.rcd = s.rcd
          ∧ t.heldTag 0 tag.toNat = some { l with state := .cancelled }) ∧
      (∀ l, s.heldTag 0 tag.toNat = some l → (l.state = .committed ∨ l.state = .emitted ∨ (l.state = .waiting ∧ l.time ≤ s.time + 100000)) →
        ∃ t, exec (.launchCancel ses req tag) s = .next t ∧ t.Answers ses.val req 10 ∧ t.launches = s.launches ∧ t.objs = s.objs)) ∧
    (∀ (part : Fin 1024) (tag : BitVec 32) (l : Launch), s.heldTag part.val tag.toNat = some l → s.emitsLaunches = true → s.cancelWaits l = false →
      s.Room →
      let q : State := ({ s with out := [] } : State).reachTime (l.time - 100000)
      (l.state = .waiting → q.targetCheck { part := l.part } l.target l.prio l.value = none →
        ∃ t, exec (.launchCommit part tag) s = .next t ∧ t.objs = s.objs ∧ t.blobs = s.blobs ∧ t.rcd = s.rcd
          ∧ s.clk + (l.time - 100000 - s.time) ≤ t.clk ∧ t.heldTag part.val tag.toNat = some { l with state := .committed }) ∧
      (∀ r : Refuse, l.state = .waiting → q.targetCheck { part := l.part } l.target l.prio l.value = some r →
        ∃ t, exec (.launchCommit part tag) s = .next t ∧ t.blobs = s.blobs ∧ s.clk + (l.time - 100000 - s.time) ≤ t.clk
          ∧ t.heldTag part.val tag.toNat = some { l with state := .refused } ∧ t.Recorded 0x110A 0xFFFF l.tag r.st.code l.target)) ∧
    (∀ (part : Fin 1024) (tag : BitVec 32) (l : Launch), s.heldTag part.val tag.toNat = some l → s.emitsLaunches = true → l.state = .committed →
      (∀ y ∈ s.launches, y.live = true → y.time = l.time → l.order ≤ y.order) →
      let q : State := ({ s with out := [] } : State).reachTime (({ s with out := [] } : State).launchDue l).1
      (∃ u : State,
        exec (.launchEmit part tag) s
          = .next (((q.launchTargets l.target).filterMap q.canSink).foldl (fun (t : State) x => t.copyEntry x.1 x.2) u.drain)
        ∧ u.objs = s.objs ∧ u.blobs = s.blobs ∧ u.mode = s.mode ∧ u.rcd = s.rcd ∧ s.clk + ((s.launchDue l).1 - s.time) ≤ u.clk
        ∧ u.heldTag part.val tag.toNat = some { l with state := .emitted }
        ∧ u.emits = s.emits ++ [l.action (decide ((q.launchDue l).2 < q.time))]) ∧
      (∀ (x : Fin 64) (b : Bool), l.target = (Oid.FIO_OUT x).oid → l.prio = 0 → l.value = [if b then 1 else 0] → s.fioOwner x.val = 0 → s.emits = [] →
        ∃ t, exec (.launchEmit part tag) s = .next t ∧ t.flag (Oid.FIO_OUT x) = b ∧ s.clk + (l.time - s.time) ≤ t.clk ∧ t.mode = s.mode
          ∧ t.blobs = s.blobs ∧ t.heldTag part.val tag.toNat = some { l with state := .emitted })) ∧
    (∀ (part : Fin 1024) (tag : BitVec 32) (l : Launch), s.heldTag part.val tag.toNat = some l → l.live = false →
      ∃ t, exec (.tagRelease part tag) s = .next t ∧ s.clk + (l.time + 10000000000 - s.time) ≤ t.clk ∧ t.heldTag part.val tag.toNat = none
        ∧ t.objs = s.objs ∧ t.blobs = s.blobs ∧ t.pts = s.pts ∧ t.rcd = s.rcd)

/-! ### Host sessions and requests (chapter 06) -/

/-- Connections and sessions (R187 to R197, R210): a handshake within the table TLS support whose certificate the host map names takes a slot, another
is refused with its alert and recorded, and without a map the first host of port 0 claims a module in SERVICE; OPEN opens a session or closes its
connection with a status; CLOSE, SESS_CLOSE, a broken frame and SESSION_IDLE close it with their causes; a connection without an open session answers
nothing but OPEN; PING answers with TIME64.
Model's choices that clauses of it rest on: log entries 3, 66, 67 and 68. -/
def Obligations.Connections : Prop :=
  ∀ s : State, s.Room →
    (∀ (port : Fin 4) (c : HostCert), s.serving = true → s.runs (.netPort port.val) = true → s.bit Oid.PDP_PORTS port.val = true →
      tlsSupported c = true → s.pairEarly port.val = false →
      (∀ (a : Fin 8) (e n : Nat), s.mapEmpty = false → c.anchor = some a → s.blob (Oid.HOST_CA a.val) ≠ [] → s.certValid c = true →
        s.mapEntry c.fpr (some a.val) c.commonName = some e → s.freeSlot = some n →
        ∃ t, exec (.tlsHandshake port c) s = .next t ∧ (t.ses n).state = 1 ∧ (t.ses n).fpr = c.fpr ∧ (t.ses n).entry = some e
          ∧ (∀ m : Nat, m ≠ n → t.ses m = s.ses m) ∧ (n < 64 → t.nat (Oid.SESS_STATE n) = 1) ∧ t.out = [] ∧ t.rcd = s.rcd ∧ t.blobs = s.blobs) ∧
      (∀ alert : Nat, s.mapEmpty = false →
        ((c.anchor = none ∧ alert = 48)
          ∨ (∃ a, c.anchor = some a ∧ s.blob (Oid.HOST_CA a.val) = [] ∧ alert = 48)
          ∨ (∃ a, c.anchor = some a ∧ s.blob (Oid.HOST_CA a.val) ≠ [] ∧ s.certValid c = false ∧ alert = 45)
          ∨ (∃ a, c.anchor = some a ∧ s.blob (Oid.HOST_CA a.val) ≠ [] ∧ s.certValid c = true
              ∧ s.mapEntry c.fpr (some a.val) c.commonName = none ∧ alert = 49)) →
        ∃ t, exec (.tlsHandshake port c) s = .next t ∧ t.acc = s.acc ∧ t.out = [.alert port.val alert] ∧ t.blobs = s.blobs
          ∧ t.Recorded 0x1003 0xFFFF port.val 2 c.fpr.toNat) ∧
      (∀ n : Nat, s.mapEmpty = true → port.val = 0 → s.mode = .service → s.freeSlot = some n →
        (∀ e ∈ s.acc.sessions, e.2.claim = true → e.2.state = 0) →
        ∃ t, exec (.tlsHandshake port c) s = .next t ∧ (t.ses n).state = 1 ∧ (t.ses n).claim = true ∧ (t.ses n).fpr = c.fpr
          ∧ (∀ m : Nat, m ≠ n → t.ses m = s.ses m)
          ∧ t.Recorded 0x1004 0xFFFF c.fpr.toNat (c.fpr.toNat / 2 ^ 32) (c.fpr.toNat / 2 ^ 64))) ∧
    (∀ (ses : Fin 128) (f : Frame) (p : Nat), s.serving = true → s.emits = [] → frameBroken f = false → f.op = 0x01 → 4 ≤ f.payload.length →
      p = leNat (f.payload.take 2) → (s.ses ses.val).state = 1 →
      (s.NoneWaits → s.healthyStandby = false → (s.atRequest ses.val).openCheck ses.val p = none →
        ∃ t, exec (.openSession ses f) s = .next t ∧ (t.ses ses.val).state = 2 ∧ (t.ses ses.val).part = p ∧ t.nat (Oid.SESS_STATE ses.val) = 2
          ∧ (∃ b : List Byte, b.length = 12 ∧ Out.resp ses.val 1 f.reqId 0 b ∈ t.out)
          ∧ t.Recorded 0x1001 0xFFFF ses.val p (s.ses ses.val).port) ∧
      (∀ r : Refuse, (s.atRequest ses.val).openCheck ses.val p = some r →
        ∃ t, exec (.openSession ses f) s = .next t ∧ (t.ses ses.val).state = 0 ∧ Out.resp ses.val 1 f.reqId r.st.code r.payload ∈ t.out
          ∧ Out.close ses.val ∈ t.out ∧ t.Recorded 0x1003 0xFFFF (s.ses ses.val).port r.st.code (s.ses ses.val).fpr.toNat)) ∧
    (∀ (ses : Fin 64) (f : Frame), s.serving = true → s.emits = [] → 2 ≤ (s.ses ses.val).state → s.NoneWaits → frameBroken f = false →
      (f.op = 0x02 →
        ∃ t, exec (.closeSession ses f) s = .next t ∧ (t.ses ses.val).state = 0 ∧ t.out = [.resp ses.val 2 f.reqId 0 [], .close ses.val]
          ∧ t.Recorded 0x1002 0xFFFF ses.val 0 0) ∧
      (f.op = 0x03 →
        exec (.ping ses f) s = .next { s.atRequest ses.val with out := [.resp ses.val 3 f.reqId 0 (leBytes 8 s.time)] })) ∧
    (∀ (ses : Fin 64) (f : Frame) (i : Instr), s.serving = true → s.emits = [] →
      i ∈ [.closeSession ses f, .ping ses f, .readObject ses f, .writeObject ses f, .readMany ses f, .writeMany ses f, .abortRequest ses f,
        .query ses f, .subscribe ses f, .unsubscribe ses f, .safetyClose ses f] →
      (2 ≤ (s.ses ses.val).state → (frameBroken f = true ∨ frameReq f 0 = none) →
        ∃ t, exec i s = .next t ∧ (t.ses ses.val).state = 0 ∧ t.out = [.close ses.val]
          ∧ t.Recorded 0x1005 0xFFFF ses.val f.op.toNat f.length.toNat) ∧
      (∀ w : PdpReq, (s.ses ses.val).state = 1 → frameBroken f = false → frameReq f 0 = some w → (∀ p : Nat, w ≠ .openSes p) →
        exec i s = .next { s.atRequest ses.val with out := [.resp ses.val f.op.toNat f.reqId 2 []] })) ∧
    (∀ ses : Fin 64, s.serving = true → 2 ≤ (s.ses ses.val).state →
      ∃ t, exec (.sessionIdleTimeout ses) s = .next t ∧ (t.ses ses.val).state = 0 ∧ t.out = [.close ses.val]
        ∧ (s.ses ses.val).lastFrame + 1000000000 * s.nat Oid.SESSION_IDLE ≤ t.clk ∧ t.Recorded 0x1002 0xFFFF ses.val 1 0) ∧
    (∀ (ses target : Fin 64) (req : BitVec 32), s.Ready ses.val →
      (2 ≤ (s.ses target.val).state →
        ∃ t, exec (.sessClose ses req target 1) s = .next t ∧ t.Answers ses.val req 0 ∧ (t.ses target.val).state = 0
          ∧ Out.close target.val ∈ t.out ∧ t.Recorded 0x1002 0xFFFF target.val 4 0) ∧
      ((s.ses target.val).state = 0 →
        ∃ t, exec (.sessClose ses req target 1) s = .next t ∧ t.Answers ses.val req 1 ∧ t.objs = s.objs ∧ t.rcd = s.rcd) ∧
      (∀ v : Byte, v ≠ 1 →
        ∃ t, exec (.sessClose ses req target v) s = .next t ∧ t.Answers ses.val req 4 ∧ t.objs = s.objs ∧ t.rcd = s.rcd))

/-- Reads, QUERY and ABORT (R12, R198 to R204, R674): a read of a register that the module holds answers with its value, one of MODULE_STATE or
TIME_NOW with the present one; NO_OBJECT answers an unknown OID and ACCESS an object that is only written. READ_MANY answers up to 64 entries, an
unknown one with NO_OBJECT, and refuses more. QUERY answers with the status of a committed write for 600 s, and NO_OBJECT else. ABORT takes back a
write that waits for its commit point, at once while its batch has not been sent and by a Withdraw item after, and answers NO_OBJECT for an unknown
request.
Model's choices that clauses of it rest on: log entry 71. -/
def Obligations.Requests : Prop :=
  ∀ (s : State) (ses : Fin 64) (f : Frame), frameBroken f = false →
    let q : State := s.atRequest ses.val
    (s.Ready ses.val → f.op = 0x10 → 4 ≤ f.payload.length →
      let oid := leNat (f.payload.take 4)
      (findObject oid = none → s.broadcast oid = none →
        exec (.readObject ses f) s = .next { q with out := [.resp ses.val 0x10 f.reqId 1 []] }) ∧
      (∀ (r : ObjRow) (ix : List Nat), findObject oid = some (r, ix) → s.tyOf r ix ≠ none → s.broadcast oid = none →
        (r.acc = .wo →
          exec (.readObject ses f) s = .next { q with out := [.resp ses.val 0x10 f.reqId 2 []] }) ∧
        (r.acc ≠ .wo → s.mem.badObjs.contains oid = false → accLoadUnused r.base ix = false → r.ty ≠ .point →
          q.readSel ses.val r.base = none → q.readLow r ix = none → q.readHigh ses.val r = none → q.liveNum r.base ix = none →
          exec (.readObject ses f) s = .next { q with out := [.resp ses.val 0x10 f.reqId 0 (s.bytesOf oid)] })) ∧
      (oid = 0x100 → s.mem.badObjs.contains oid = false →
        exec (.readObject ses f) s = .next { q with out := [.resp ses.val 0x10 f.reqId 0 (leBytes 1 s.mode.code)] }) ∧
      (oid = 0x08000100 → s.mem.badObjs.contains oid = false →
        exec (.readObject ses f) s = .next { q with out := [.resp ses.val 0x10 f.reqId 0 (leBytes 8 s.time)] }) ∧
      (oid ∈ [Oid.SESSION_IDLE.oid, Oid.HOLDOVER_LIMIT.oid, Oid.REC_MARK_INTERVAL.oid] → s.mem.badObjs.contains oid = false →
        exec (.readObject ses f) s = .next { q with out := [.resp ses.val 0x10 f.reqId 0 (s.bytesOf oid)] })) ∧
    (s.Ready ses.val → f.op = 0x12 → 4 ≤ f.payload.length → f.payload.length % 4 = 0 →
      let l := (pieces 4 f.payload).map leNat
      (64 < l.length →
        exec (.readMany ses f) s = .next { q with out := [.resp ses.val 0x12 f.reqId 4 []] }) ∧
      (l.length ≤ 64 →
        ∃ (t : State) (p : List Byte), exec (.readMany ses f) s = .next t ∧ t.out = [.resp ses.val 0x12 f.reqId 0 p] ∧ 8 * l.length ≤ p.length
          ∧ t.objs = s.objs ∧ t.blobs = s.blobs ∧ t.mode = s.mode) ∧
      (l.length ≤ 64 → (∀ o ∈ l, findObject o = none ∧ s.broadcast o = none) →
        exec (.readMany ses f) s
          = .next { q with out := [.resp ses.val 0x12 f.reqId 0 (l.flatMap (fun o => leBytes 4 o ++ [1, 0, 0, 0]))] })) ∧
    (s.Ready ses.val → f.op = 0x15 → 4 ≤ f.payload.length →
      let v := BitVec.ofNat 32 (leNat (f.payload.take 4))
      (∀ (c : Committed) (rest : List Committed), s.acc.committed = c :: rest → c.fpr = (s.ses ses.val).fpr → c.req = v →
        s.clk < c.atNs + 600000000000 →
        exec (.query ses f) s = .next { q with out := [.resp ses.val 0x15 f.reqId 0 (leBytes 1 c.status ++ [0, 0, 0])] }) ∧
      ((∀ c ∈ s.acc.committed, c.fpr ≠ (s.ses ses.val).fpr ∨ c.req ≠ v ∨ c.atNs + 600000000000 ≤ s.clk) →
        exec (.query ses f) s = .next { q with out := [.resp ses.val 0x15 f.reqId 1 []] })) ∧
    (f.op = 0x14 → 4 ≤ f.payload.length →
      let v := BitVec.ofNat 32 (leNat (f.payload.take 4))
      (s.Ready ses.val → exec (.abortRequest ses f) s = .next { q with out := [.resp ses.val 0x14 f.reqId 1 []] }) ∧
      (∀ r : PendReq, s.serving = true → 2 ≤ (s.ses ses.val).state → s.emits = [] → s.acc.waits = [r] → s.acc.held = [] → s.acc.later = [] →
        s.acc.slow = [] → s.acc.aborts = [] → s.tw.planReq = none → r.route = .pdp → r.ses = ses.val → r.req = v → r.entries ≠ [] →
        (r.gen = none →
          ∃ t, exec (.abortRequest ses f) s = .next t ∧ t.acc.waits = [] ∧ t.out = [.resp ses.val 0x14 f.reqId 0 []] ∧ t.objs = s.objs
            ∧ t.blobs = s.blobs) ∧
        (r.gen ≠ none → s.drives = true →
          ∃ t, exec (.abortRequest ses f) s = .next t ∧ t.acc.waits = [] ∧ t.out = [] ∧ t.objs = s.objs ∧ t.blobs = s.blobs
            ∧ t.acc.aborts = [{ ses := ses.val, req := f.reqId, fpr := r.fpr, victim := v }]
            ∧ BatchItem.withdraw r.fpr v ∈ t.tw.openBatch)))

/-- Host writes (R12, R177, R181, R185, R199, R204, R674): a request that a check refuses is answered with the status and payload of the refusal and
writes nothing; one that passes reaches its commit point at once without a healthy standby and is kept for QUERY, but for LOOP_CMD, which its loop's
tick answers; the registers named take the value written; a broadcast to a field group's outputs reaches every one that the host owns; WRITE_MANY is
refused whole, with the position of the entry that fails.
Model's choices that clauses of it rest on: log entries 70 and 71. -/
def Obligations.Writes : Prop :=
  ∀ (s : State) (ses : Fin 64), s.Ready ses.val →
    (∀ (i : Instr) (e : WEntry) (req : BitVec 32),
      ((∃ (oid : BitVec 32) (prio : Byte) (val : List Byte), (i = .registerWrite ses req oid prio val ∨ i = .broadcastWrite ses req oid prio val)
          ∧ e = { oid := oid.toNat, prio := prio.toNat, data := val })
        ∨ (∃ f : Frame, i = .writeObject ses f ∧ frameBroken f = false ∧ f.op = 0x11 ∧ 8 ≤ f.payload.length ∧ f.reqId = req
            ∧ e = { oid := leNat (f.payload.take 4), prio := leNat ((f.payload.drop 4).take 1), relinq := f.flags.getLsbD 1
                    dflt := f.flags.getLsbD 2, data := f.payload.drop 8 })) →
      (∀ r : Refuse, (s.atRequest ses.val).checkEntry { ses := ses.val } e true = some r →
        ∃ t, exec i s = .next t ∧ Out.resp ses.val 0x11 req r.st.code r.payload ∈ t.out ∧ t.blobs = s.blobs ∧ t.mode = s.mode
          ∧ t.acc.committed = s.acc.committed) ∧
      ((s.atRequest ses.val).checkEntry { ses := ses.val } e true = none → isLoopCmd e.oid = false →
        ∃ u : State, exec i s = .next u.drain ∧ ∃ c ∈ u.acc.committed, c.req = req ∧ c.fpr = (s.ses ses.val).fpr) ∧
      (findObject e.oid = none → s.broadcast e.oid = none →
        ∃ t, exec i s = .next t ∧ t.Answers ses.val req 1 ∧ t.objs = s.objs ∧ t.blobs = s.blobs ∧ t.rcd = s.rcd) ∧
      (∀ r : ObjRow, e.oid ∈ [Oid.SESSION_IDLE.oid, Oid.HOLDOVER_LIMIT.oid, Oid.REC_MARK_INTERVAL.oid] → lookup e.oid = some (r, []) →
        e.prio = 0 → e.relinq = false → e.dflt = false → valueCheck r r.ty e.data = none →
        ∃ t, exec i s = .next t ∧ t.Answers ses.val req 0 ∧ t.bytesOf e.oid = e.data ∧ (∀ k : Key, k.oid ≠ e.oid → t.get k = s.get k)
          ∧ t.blobs = s.blobs ∧ t.rcd = s.rcd) ∧
      (∀ (g : Fin 8) (b : Byte), e = { oid := 0xF0600001 + g.val * 256, data := [b] } → b.toNat ≤ 1 →
        ∃ t, exec i s = .next t ∧ t.Answers ses.val req 0 ∧ t.blobs = s.blobs
          ∧ (∀ x : Nat, x / 8 = g.val → s.fioMode x = 3 → s.fioOwner x = 0 → t.flag (Oid.FIO_OUT x) = (b.toNat == 1))
          ∧ (∀ k : Key, (∀ x : Nat, k.oid ≠ (Oid.FIO_OUT x).oid) → t.get k = s.get k))) ∧
    (∀ (f : Frame) (l : List WEntry), frameBroken f = false → f.op = 0x13 → 8 ≤ f.payload.length →
      manyEntries f.payload.length f.payload = some l →
      (64 < l.length →
        exec (.writeMany ses f) s = .next { s.atRequest ses.val with out := [.resp ses.val 0x13 f.reqId 4 []] }) ∧
      (l.length ≤ 64 →
        (∀ r : Refuse, (s.atRequest ses.val).checkEntries { ses := ses.val } true 0 l = some r →
          ∃ t, exec (.writeMany ses f) s = .next t ∧ Out.resp ses.val 0x13 f.reqId r.st.code r.payload ∈ t.out ∧ t.blobs = s.blobs
            ∧ t.acc.committed = s.acc.committed) ∧
        ((s.atRequest ses.val).checkEntries { ses := ses.val } true 0 l = none → (s.atRequest ses.val).journalFits l = true →
          l ≠ [] → (∀ e ∈ l, isLoopCmd e.oid = false) →
          ∃ u : State, exec (.writeMany ses f) s = .next u.drain ∧ ∃ c ∈ u.acc.committed, c.req = f.reqId ∧ c.fpr = (s.ses ses.val).fpr)) ∧
      (∀ v w : Nat, v ≤ 86400 → 60 ≤ v → w ≤ 86400 → 60 ≤ w →
        l = [{ oid := Oid.HOLDOVER_LIMIT.oid, data := leBytes 4 v }, { oid := Oid.REC_MARK_INTERVAL.oid, data := leBytes 4 w }] →
        ∃ t, exec (.writeMany ses f) s = .next t ∧ Out.resp ses.val 0x13 f.reqId 0 [] ∈ t.out ∧ t.nat Oid.HOLDOVER_LIMIT = v
          ∧ t.nat Oid.REC_MARK_INTERVAL = w
          ∧ (∀ k : Key, k.oid ≠ Oid.HOLDOVER_LIMIT.oid → k.oid ≠ Oid.REC_MARK_INTERVAL.oid → t.get k = s.get k) ∧ t.blobs = s.blobs
          ∧ t.rcd = s.rcd) ∧
      (∀ e₁ e₂ : WEntry, l = [e₁, e₂] → findObject e₂.oid = none → s.broadcast e₂.oid = none →
        (s.atRequest ses.val).smallEntry { ses := ses.val } e₁ = none → (s.atRequest ses.val).checkEntry { ses := ses.val } e₁ false = none →
        ∃ t, exec (.writeMany ses f) s = .next t ∧ Out.resp ses.val 0x13 f.reqId 1 [1] ∈ t.out ∧ t.objs = s.objs ∧ t.blobs = s.blobs
          ∧ t.rcd = s.rcd))

/-- Subscriptions (R238 to R243, R256): SUBSCRIBE admits all entries or none and answers with their handles; UNSUBSCRIBE removes all the handles it
names or none; a RESYNC notification goes out at once, a change no sooner than MIN_INTERVAL after the last, and nothing where nothing has changed; a
subscription without a session ends after 30 s with those that its session held, and one with a LIFETIME at its end; each end is recorded.
Model's choices that clauses of it rest on: log entries 3 and 72. -/
def Obligations.Subscriptions : Prop :=
  ∀ s : State,
    (∀ (ses : Fin 64) (f : Frame) (l : List SubEntry), s.Ready ses.val → frameBroken f = false → f.op = 0x20 → 20 ≤ f.payload.length →
      f.payload.length % 20 = 0 → l = (pieces 20 f.payload).map subEntry →
      ((s.atRequest ses.val).subscribeCheck ses.val l = none →
        ∃ (t : State) (p : List Byte), exec (.subscribe ses f) s = .next t ∧ Out.resp ses.val 0x20 f.reqId 0 p ∈ t.out ∧ p.length = 4 * l.length
          ∧ t.pts.subs.length = s.pts.subs.length + l.length ∧ (∀ x ∈ s.pts.subs, x ∈ t.pts.subs)
          ∧ (∀ e ∈ l, ∃ x ∈ t.pts.subs, x.point = e.point ∧ x.sub = e.sub ∧ x.cls = e.cls ∧ x.minInt = e.minInt ∧ x.ses = some ses.val)
          ∧ t.objs = s.objs ∧ t.blobs = s.blobs) ∧
      (∀ r : Refuse, (s.atRequest ses.val).subscribeCheck ses.val l = some r →
        ∃ t, exec (.subscribe ses f) s = .next t ∧ Out.resp ses.val 0x20 f.reqId r.st.code r.payload ∈ t.out ∧ t.pts = s.pts
          ∧ t.blobs = s.blobs)) ∧
    (∀ (ses : Fin 64) (f : Frame) (l : List Nat), s.Ready ses.val → frameBroken f = false → f.op = 0x21 → 4 ≤ f.payload.length →
      f.payload.length % 4 = 0 → l = (pieces 4 f.payload).map leNat → l.length ≤ 2048 →
      ((∀ h ∈ l, ∃ x ∈ s.pts.subs, x.handle = h ∧ x.ses = some ses.val) →
        ∃ t, exec (.unsubscribe ses f) s = .next t ∧ Out.resp ses.val 0x21 f.reqId 0 [] ∈ t.out
          ∧ (∀ x : Sub, x ∈ t.pts.subs ↔ x ∈ s.pts.subs ∧ x.handle ∉ l) ∧ t.objs = s.objs ∧ t.blobs = s.blobs) ∧
      (∀ h ∈ l, (∀ x ∈ s.pts.subs, x.handle = h → x.ses ≠ some ses.val) →
        ∃ (t : State) (p : List Byte), exec (.unsubscribe ses f) s = .next t ∧ t.out = [.resp ses.val 0x21 f.reqId 1 p] ∧ t.pts = s.pts)) ∧
    (∀ (h n : Nat) (x : Sub), s.pts.subs.find? (fun y => y.handle == h) = some x → x.ses = some n → x.bacnet = false → s.serving = true →
      s.mode ≠ .standby →
      (x.resync = true →
        ∃ t, exec (.notify h) s = .next t ∧ t.out = [.notify n h (s.notifyPayload x)] ∧ t.clk = s.clk ∧ t.objs = s.objs
          ∧ (∃ y ∈ t.pts.subs, y.handle = h ∧ y.resync = false ∧ y.changes = 0 ∧ y.lastSent = s.clk)) ∧
      (x.resync = false → x.changes = 0 → s.nat (Oid.PT_STATUS x.point) = x.lastStatus → exec (.notify h) s = .next { s with out := [] }) ∧
      (x.resync = false → s.notable x = true →
        ∃ (t : State) (p : List Byte), exec (.notify h) s = .next t ∧ t.out = [.notify n h p] ∧ x.lastSent + 1000000 * x.minInt ≤ t.clk
          ∧ t.objs = s.objs ∧ (∃ y ∈ t.pts.subs, y.handle = h ∧ y.changes = 0 ∧ y.lastSent = t.clk))) ∧
    (∀ (h : Nat) (x : Sub), s.pts.subs.find? (fun y => y.handle == h) = some x → s.serving = true → s.Room →
      (x.ses = none → x.bacnet = false →
        ∃ t, exec (.subscriptionHoldExpiry h) s = .next t ∧ x.closedAt + 30000000000 ≤ t.clk ∧ t.objs = s.objs ∧ h ∈ s.heldWith x
          ∧ (∀ y : Sub, y ∈ t.pts.subs ↔ y ∈ s.pts.subs ∧ y.handle ∉ s.heldWith x)
          ∧ (∀ i ∈ t.pts.items, ∀ k ∈ s.heldWith x, i.kind ≠ .subscription k)
          ∧ t.Recorded 0x0F07 0xFFFF (s.heldWith x).length (x.fpr.toNat % 4294967296) 0) ∧
      (x.life ≠ 0 →
        ∃ t, exec (.subscriptionLifetimeExpiry h) s = .next t ∧ x.atNs + 1000000000 * x.life ≤ t.clk ∧ t.objs = s.objs
          ∧ (∀ y : Sub, y ∈ t.pts.subs ↔ y ∈ s.pts.subs ∧ y.handle ≠ h) ∧ (∀ i ∈ t.pts.items, i.kind ≠ .subscription h)
          ∧ t.Recorded 0x0F07 0xFFFF 1 (x.fpr.toNat % 4294967296) 0))

/-! ### Points (chapter 07) -/

/-- Writes to the configuration of a point (R212 to R215, R220 to R222, R227, R228, R676): ENABLE admits the point's bindings or is refused, TYPE for
an unused slot and BUSY beyond 250,000 points; disabling frees its budget; TYPE is written only while the point is disabled, and a new type empties
its values; a binding in the ranges of its kind is held with its reserved byte 0, others are refused.
Model's choices that clauses of it rest on: log entry 60. -/
def Obligations.PointWrites : Prop :=
  ∀ (s : State) (ses : Fin 64) (req : BitVec 32) (p : Fin 262144), s.Ready ses.val →
    (s.enabledPt p.val = false →
      (s.ptType p.val ≠ 0 → s.pts.enabled < 250000 → (s.atRequest ses.val).admits (fun _ => false) (s.itemsOf p.val) = none →
        ∃ t, exec (.pointEnable ses req p 1) s = .next t ∧ t.Answers ses.val req 0 ∧ t.enabledPt p.val = true
          ∧ t.pts.enabled = s.pts.enabled + 1 ∧ (t.pts.items.filter (isPointItem p.val)).length = (s.itemsOf p.val).length
          ∧ (t.ptAux p.val).sinkDue = true ∧ (t.ptAux p.val).srcAt = s.clk ∧ t.blobs = s.blobs) ∧
      (∀ r : Refuse, s.ptType p.val ≠ 0 → s.pts.enabled < 250000 →
        (s.atRequest ses.val).admits (fun _ => false) (s.itemsOf p.val) = some r →
        ∃ t, exec (.pointEnable ses req p 1) s = .next t ∧ Out.resp ses.val 0x11 req r.st.code r.payload ∈ t.out ∧ t.pts = s.pts
          ∧ t.blobs = s.blobs) ∧
      (s.ptType p.val = 0 →
        ∃ t, exec (.pointEnable ses req p 1) s = .next t ∧ t.Answers ses.val req 3 ∧ t.objs = s.objs ∧ t.pts = s.pts) ∧
      (s.ptType p.val ≠ 0 → 250000 ≤ s.pts.enabled →
        ∃ t, exec (.pointEnable ses req p 1) s = .next t ∧ t.Answers ses.val req 9 ∧ t.objs = s.objs ∧ t.pts = s.pts)) ∧
    (s.enabledPt p.val = true →
      ∃ t, exec (.pointEnable ses req p 0) s = .next t ∧ t.Answers ses.val req 0 ∧ t.enabledPt p.val = false
        ∧ (∀ i ∈ t.pts.items, isPointItem p.val i = false) ∧ t.pts.enabled = s.pts.enabled - 1 ∧ t.blobs = s.blobs) ∧
    (∀ v : Byte, v.toNat ≤ 11 → s.enabledPt p.val = false → s.formatFits v.toNat (s.srcOf p.val) = true →
      s.formatFits v.toNat (s.sinkOf p.val) = true →
      (v = 0 ∨ s.instanceTaken p.val (s.nat (Oid.PT_PARTITION p.val)) (s.nat (Oid.PT_BACNET_INSTANCE p.val)) = false) →
      ∃ t, exec (.pointTypeWrite ses req p v) s = .next t ∧ t.Answers ses.val req 0 ∧ t.ptType p.val = v.toNat ∧ t.blobs = s.blobs
        ∧ t.pts.items = s.pts.items
        ∧ (v.toNat ≠ s.ptType p.val → t.get (Oid.PT_PV p.val) = 0 ∧ t.nat (Oid.PT_PA_MASK p.val) = 0 ∧ t.nat (Oid.PT_ACTIVE_PRIORITY p.val) = 0
            ∧ t.get (Oid.PT_RELINQUISH_DEFAULT p.val) = 0 ∧ t.nat (Oid.PT_LAST_CHANGE p.val) = 0
            ∧ (∀ n : Nat, n < 16 → t.get (Oid.PT_PRIORITY_SLOT p.val n) = 0))) ∧
    (∀ v : Byte, v.toNat ≤ 11 → s.enabledPt p.val = true →
      ∃ t, exec (.pointTypeWrite ses req p v) s = .next t ∧ t.Answers ses.val req 9 ∧ t.objs = s.objs ∧ t.pts = s.pts) ∧
    (∀ v : Byte, 11 < v.toNat →
      ∃ t, exec (.pointTypeWrite ses req p v) s = .next t ∧ t.Answers ses.val req 4 ∧ t.objs = s.objs ∧ t.pts = s.pts) ∧
    (∀ (sink : Bool) (d : List Byte), d.length = 16 →
      (s.enabledPt p.val = false → s.bindingOk (bindingOf d) = true →
        ((bindingOf d).kind = 0 ∨ s.ptType p.val = 0 ∨ bindingUsed (s.ptType p.val) sink (bindingOf d) = true) →
        s.mappingFits sink (bindingOf d) = true → s.classOk (s.nat (Oid.PT_CLASS p.val)) (bindingOf d) = true →
        s.formatFits (s.ptType p.val) (bindingOf d) = true →
        ∃ t, exec (.bindingWrite ses req p sink d) s = .next t ∧ t.Answers ses.val req 0
          ∧ t.blob (if sink then Oid.PT_SINK p.val else Oid.PT_SOURCE p.val) = d.set 12 0
          ∧ t.blob (if sink then Oid.PT_SOURCE p.val else Oid.PT_SINK p.val) = s.blob (if sink then Oid.PT_SOURCE p.val else Oid.PT_SINK p.val)
          ∧ (∀ i ∈ t.pts.items, isPointItem p.val i = false)) ∧
      (s.bindingOk (bindingOf d) = false →
        ∃ t, exec (.bindingWrite ses req p sink d) s = .next t ∧ t.Answers ses.val req 4 ∧ t.objs = s.objs ∧ t.blobs = s.blobs
          ∧ t.pts = s.pts)) ∧
    (∀ (sink : Bool) (d : List Byte), d.length ≠ 16 →
      ∃ t, exec (.bindingWrite ses req p sink d) s = .next t ∧ t.Answers ses.val req 3 ∧ t.objs = s.objs ∧ t.blobs = s.blobs ∧ t.pts = s.pts)

/-- Sources and sinks of points, and what reaches the kept values (R177, R219, R220, R223, R224, R225, R245, R252, R253, R605): a poll leaves at its
period; a valid delivery, for Modbus the value that the registers carry, is PV of an input point and slot 16 of a point with an array; one that has no
value is discarded; a sink is written with PV no more often than its rate, a field channel by switching its output, an internal one through the checks
of a write (shown for HOLDOVER_LIMIT); a COV subscription is sent again; silence of a source, a refused or an unanswered write set FAULT; a changed
live value or slot is kept.
Model's choices that clauses of it rest on: log entries 3, 57 and 65. -/
def Obligations.SourcesAndSinks : Prop :=
  ∀ (s : State) (p : Fin 262144),
    (∀ (oid : BitVec 32) (r : ObjRow) (ix : List Nat), findObject oid.toNat = some (r, ix) → r.kept = .live → s.booted = true →
      Tbl.get r.num s.acc.live oid.toNat ≠ s.get ⟨oid.toNat, r.num⟩ →
      ∃ t, exec (.keptValueWrite oid) s = .next t ∧ Tbl.get r.num t.acc.live oid.toNat = s.get ⟨oid.toNat, r.num⟩ ∧ t.objs = s.objs ∧ t.blobs = s.blobs
        ∧ (∀ n : Nat, s.acc.liveAt.find oid.toNat = some n → n + 1000000000 ≤ t.clk) ∧ t.acc.liveAt.find oid.toNat = some t.clk) ∧
    (∀ slot : Fin 17, s.booted = true → (s.ptAux p.val).dirty.testBit slot.val = true →
      ∃ t, exec (.pointStoreWrite p slot) s = .next t ∧ t.objs = s.objs ∧ (t.ptAux p.val).dirty.testBit slot.val = false
        ∧ (slot.val = 16 → (t.ptAux p.val).storeDflt = s.get (Oid.PT_RELINQUISH_DEFAULT p.val))
        ∧ (slot.val < 16 → Tbl.get 0 (t.ptAux p.val).storeSlots (slot.val + 1) = s.get (Oid.PT_PRIORITY_SLOT p.val slot.val)
            ∧ (t.ptAux p.val).storeMask.testBit slot.val = s.bit (Oid.PT_PA_MASK p.val) slot.val)) ∧
    (s.sourceLive p.val = true → (s.srcOf p.val).period ≠ 0 →
      ((s.srcOf p.val).kind ≠ 1 → (s.srcOf p.val).kind ≠ 2 → (s.srcOf p.val).kind ≠ 6 → s.drives = true → s.givesWay p.val false = false →
        ∃ t, exec (.sourcePoll p) s = .next t ∧ t.out = [.poll p.val] ∧ (t.ptAux p.val).polling = true ∧ (t.ptAux p.val).pollAt = t.clk
          ∧ (s.ptAux p.val).pollAt + 10000000 * (s.srcOf p.val).period ≤ t.clk ∧ t.objs = s.objs) ∧
      ((s.srcOf p.val).kind = 1 ∨ (s.srcOf p.val).kind = 6 → s.givesWay p.val false = false →
        ∃ t, exec (.sourcePoll p) s = .next t ∧ t.out = [] ∧ (t.ptAux p.val).polling = false ∧ (t.ptAux p.val).pollAt = t.clk
          ∧ (s.ptAux p.val).pollAt + 10000000 * (s.srcOf p.val).period ≤ t.clk) ∧
      (∃ t, exec (.sourceTimeout p) s = .next t ∧ (t.ptAux p.val).srcFault = true ∧ t.get (Oid.PT_PV p.val) = s.get (Oid.PT_PV p.val)
        ∧ (s.ptAux p.val).srcAt + 30000000 * (s.srcOf p.val).period ≤ t.clk)) ∧
    (∀ (v : List Byte) (ok : Bool), s.sourceLive p.val = true → (s.srcOf p.val).kind ≠ 1 → (s.srcOf p.val).kind ≠ 2 → (s.srcOf p.val).kind ≠ 6 →
      (∀ (ty : Ty) (x : Int), pointTy (s.ptType p.val) = some ty → ok = true → s.ptValid p.val x = true →
        ((s.srcOf p.val).kind = 3 ∧ v.length = ty.size ∧ x = ty.dec v) ∨
          (((s.srcOf p.val).kind = 4 ∨ (s.srcOf p.val).kind = 5) ∧ s.fromModbus p.val ((s.srcOf p.val).addr3 % 256) v = some x) →
        ∃ t, exec (.sourceDelivery p v ok) s = .next t ∧ (t.ptAux p.val).srcFault = false ∧ (t.ptAux p.val).srcAt = t.clk
          ∧ (t.ptAux p.val).polling = false
          ∧ ((s.srcOf p.val).period = 0 → ∀ n : Nat, (s.ptAux p.val).delAt = some n → n + 100000000 ≤ t.clk)
          ∧ (isInput (s.ptType p.val) = true → s.flag (Oid.PT_OUT_OF_SERVICE p.val) = false → t.get (Oid.PT_PV p.val) = x)
          ∧ (isInput (s.ptType p.val) = true → s.flag (Oid.PT_OUT_OF_SERVICE p.val) = true → t.get (Oid.PT_PV p.val) = s.get (Oid.PT_PV p.val))
          ∧ (hasArray (s.ptType p.val) = true → t.get (Oid.PT_PRIORITY_SLOT p.val 15) = x ∧ t.bit (Oid.PT_PA_MASK p.val) 15 = true)) ∧
      (ok = false →
        ∃ t, exec (.sourceDelivery p v ok) s = .next t ∧ t.get (Oid.PT_PV p.val) = s.get (Oid.PT_PV p.val)
          ∧ (t.ptAux p.val).polling = false
          ∧ (t.ptAux p.val).srcFault = ((s.ptAux p.val).srcFault || (s.srcOf p.val).period == 0))) ∧
    (s.sourceLive p.val = true → ((s.srcOf p.val).kind = 4 ∨ (s.srcOf p.val).kind = 5) → (s.ptAux p.val).polling = true →
      ∃ t, exec (.modbusTimeout p) s = .next t ∧ (t.ptAux p.val).polling = false ∧ (s.ptAux p.val).pollAt + 1000000000 ≤ t.clk
        ∧ t.get (Oid.PT_PV p.val) = s.get (Oid.PT_PV p.val)) ∧
    (∀ n : Nat, s.sinkLive p.val = true → ((s.sinkOf p.val).kind = 4 ∨ (s.sinkOf p.val).kind = 5) → (s.ptAux p.val).polling = false →
      (s.ptAux p.val).sinkWait = some n →
      ∃ t, exec (.modbusTimeout p) s = .next t ∧ (t.ptAux p.val).sinkFault = true ∧ (t.ptAux p.val).sinkWait = none ∧ n + 1000000000 ≤ t.clk
        ∧ t.get (Oid.PT_PV p.val) = s.get (Oid.PT_PV p.val)) ∧
    (s.sourceLive p.val = true → s.drives = true → (s.srcOf p.val).kind = 3 → (s.srcOf p.val).period = 0 →
      (∃ t, exec (.covSubscriptionRenewal p false) s = .next t ∧ (t.ptAux p.val).srcFault = true ∧ t.out = [.covSubscribe p.val]
        ∧ t.get (Oid.PT_PV p.val) = s.get (Oid.PT_PV p.val)) ∧
      exec (.covSubscriptionRenewal p true) s = .next { s with out := [.covSubscribe p.val] }) ∧
    (s.sinkLive p.val = true → (s.ptAux p.val).sinkDue = true → s.givesWay p.val true = false → s.emits = [] →
      (∀ ty : Ty, (s.sinkOf p.val).kind = 3 ∨ (s.sinkOf p.val).kind = 4 ∨ (s.sinkOf p.val).kind = 5 → pointTy (s.ptType p.val) = some ty →
        (s.ptAux p.val).sinkWait = none →
        ∃ t, exec (.sinkWrite p) s = .next t
          ∧ t.out = [.sink p.val (if (s.sinkOf p.val).kind = 3 then ty.enc (s.get (Oid.PT_PV p.val))
              else (s.toModbus p.val ((s.sinkOf p.val).addr3 % 256)).2)]
          ∧ (t.ptAux p.val).sinkDue = false ∧ (t.ptAux p.val).sinkWait = some t.clk
          ∧ (s.ptAux p.val).sinkAt + (if (s.sinkOf p.val).period = 0 then 100000000 else 10000000 * (s.sinkOf p.val).period) ≤ t.clk) ∧
      (∀ (ty : Ty) (x : Int), (s.sinkOf p.val).kind = 1 → pointTy (s.ptType p.val) = some ty →
        convert ty .bool (s.get (Oid.PT_PV p.val)) = some x →
        ∃ t, exec (.sinkWrite p) s = .next t ∧ t.flag (Oid.FIO_OUT (s.sinkOf p.val).addr1) = (x != 0) ∧ (t.ptAux p.val).sinkFault = false
          ∧ (t.ptAux p.val).sinkDue = false
          ∧ (s.ptAux p.val).sinkAt + (if (s.sinkOf p.val).period = 0 then 100000000 else 10000000 * (s.sinkOf p.val).period) ≤ t.clk) ∧
      (∀ a b : Ty, (s.sinkOf p.val).kind = 6 → pointTy (s.ptType p.val) = some a → s.targetTy (s.sinkOf p.val).addr1 = some b →
        (convert a b (s.get (Oid.PT_PV p.val)) = none →
          ∃ t, exec (.sinkWrite p) s = .next t ∧ (t.ptAux p.val).sinkFault = true ∧ (t.ptAux p.val).sinkDue = false
            ∧ t.get (Oid.PT_PV p.val) = s.get (Oid.PT_PV p.val) ∧ t.blobs = s.blobs) ∧
        (∀ (x : Int) (r : ObjRow), convert a b (s.get (Oid.PT_PV p.val)) = some x → (s.sinkOf p.val).addr1 = Oid.HOLDOVER_LIMIT.oid →
          lookup Oid.HOLDOVER_LIMIT.oid = some (r, []) → valueCheck r r.ty (b.enc x) = none → s.acc.journal.length < 65536 →
          ∃ t, exec (.sinkWrite p) s = .next t ∧ t.get Oid.HOLDOVER_LIMIT = x ∧ (t.ptAux p.val).sinkFault = false
            ∧ (t.ptAux p.val).sinkDue = false ∧ t.get (Oid.PT_PV p.val) = s.get (Oid.PT_PV p.val)))) ∧
    (s.sinkLive p.val = true → ∀ n : Nat, (s.ptAux p.val).sinkWait = some n →
      (∃ t, exec (.sinkWriteRefused p) s = .next t ∧ (t.ptAux p.val).sinkFault = true ∧ (t.ptAux p.val).sinkWait = none
        ∧ t.get (Oid.PT_PV p.val) = s.get (Oid.PT_PV p.val)) ∧
      (s.itemDegraded p.val true = false →
        ∃ t, exec (.sinkWriteTimeout p) s = .next t ∧ (t.ptAux p.val).sinkFault = true ∧ (t.ptAux p.val).sinkWait = none
          ∧ n + 1000 * boundUs (s.nat (Oid.PT_CLASS p.val)) ≤ t.clk ∧ t.get (Oid.PT_PV p.val) = s.get (Oid.PT_PV p.val)))

/-- The CANopen SDO route (R206 to R209): while it is served, a request with the COB-ID of this node is answered with 0x580 + SDO_NODE_ID, a block
transfer with an abort; the window selects what the indices reach, an area above 0x7F is refused; a read answers with the value, an unknown object
with its abort code; a write needs SDO_ENABLE 2, and is committed as a host write; SDO_LAST_STATUS keeps the status; a module that does not serve the
route, or whose node the request does not address, answers nothing.
Model's choices that clauses of it rest on: log entries 75 and 138. -/
def Obligations.SdoRoute : Prop :=
  ∀ (s : State) (r : SdoReq),
    (s.sdoServes = false ∨ r.cob.toNat ≠ 0x600 + s.nat Oid.SDO_NODE_ID → s.emits = [] → exec (.sdoRequest r) s = .next { s with out := [] }) ∧
    (∀ v : BitVec 16, s.sdoServes = false → exec (.sdoWindow v) s = .next { s with out := [] }) ∧
    (s.sdoServes = true →
      (∀ v : BitVec 16, v.toNat < 0x800 →
        ∃ t, exec (.sdoWindow v) s = .next t ∧ t.acc = { s.acc with sdoWindow := v.toNat } ∧ t.nat Oid.SDO_LAST_STATUS = 0
          ∧ t.out = [.sdo (0x580 + s.nat Oid.SDO_NODE_ID) 0x2F00 0 0 []] ∧ (∀ k : Key, k.oid ≠ Oid.SDO_LAST_STATUS.oid → t.get k = s.get k)) ∧
      (∀ v : BitVec 16, 0x800 ≤ v.toNat →
        ∃ t, exec (.sdoWindow v) s = .next t ∧ t.acc = s.acc ∧ t.nat Oid.SDO_LAST_STATUS = 4 ∧ t.out = [.sdo (0x580 + s.nat Oid.SDO_NODE_ID) 0x2F00 0 0x06090030 []]) ∧
      (s.emits = [] → r.cob.toNat = 0x600 + s.nat Oid.SDO_NODE_ID → r.block = true →
        exec (.sdoRequest r) s = .next { s with out := [.sdo (0x580 + s.nat Oid.SDO_NODE_ID) r.index.toNat r.sub.toNat 0x05040001 []] }) ∧
      (s.emits = [] → r.cob.toNat = 0x600 + s.nat Oid.SDO_NODE_ID → r.block = false →
        (r.index = 0x2F00 → r.sub = 0 → r.write = none →
          ∃ t, exec (.sdoRequest r) s = .next t ∧ t.out = [.sdo (0x580 + s.nat Oid.SDO_NODE_ID) 0x2F00 0 0 (leBytes 2 s.acc.sdoWindow)] ∧ t.acc = s.acc) ∧
        (r.index = 0x3001 → r.sub = 0 → r.write = none → s.acc.sdoWindow = 0 → s.mem.badObjs.contains 0x100 = false →
          ∃ t, exec (.sdoRequest r) s = .next t ∧ t.out = [.sdo (0x580 + s.nat Oid.SDO_NODE_ID) 0x3001 0 0 (leBytes 1 s.mode.code)] ∧ t.nat Oid.SDO_LAST_STATUS = 0
            ∧ (∀ k : Key, k.oid ≠ Oid.SDO_LAST_STATUS.oid → t.get k = s.get k)) ∧
        (0x3000 ≤ r.index.toNat → r.index.toNat ≤ 0x3FFF → r.write = none → findObject (s.sdoOid r.index.toNat r.sub.toNat) = none →
          s.broadcast (s.sdoOid r.index.toNat r.sub.toNat) = none →
          ∃ t, exec (.sdoRequest r) s = .next t ∧ t.nat Oid.SDO_LAST_STATUS = 1
            ∧ t.out = [.sdo (0x580 + s.nat Oid.SDO_NODE_ID) r.index.toNat r.sub.toNat
                (if subUnknown (s.sdoOid r.index.toNat r.sub.toNat) then 0x06090011 else 0x06020000) []]) ∧
        (∀ d : List Byte, 0x3000 ≤ r.index.toNat → r.index.toNat ≤ 0x3FFF → r.write = some d → s.nat Oid.SDO_ENABLE ≠ 2 →
          ∃ t, exec (.sdoRequest r) s = .next t ∧ t.nat Oid.SDO_LAST_STATUS = 7
            ∧ t.out = [.sdo (0x580 + s.nat Oid.SDO_NODE_ID) r.index.toNat r.sub.toNat 0x06010000 []]
            ∧ (∀ k : Key, k.oid ≠ Oid.SDO_LAST_STATUS.oid → t.get k = s.get k) ∧ t.blobs = s.blobs) ∧
        (∀ (d : List Byte) (x : ObjRow), 0x3000 ≤ r.index.toNat → r.index.toNat ≤ 0x3FFF → r.write = some d → s.nat Oid.SDO_ENABLE = 2 →
          s.sdoOid r.index.toNat r.sub.toNat = Oid.SESSION_IDLE.oid → lookup Oid.SESSION_IDLE.oid = some (x, []) → valueCheck x x.ty d = none →
          s.mode ≠ .standby → s.NoneWaits → s.healthyStandby = false → s.acc.journal.length < 65536 →
          ∃ t, exec (.sdoRequest r) s = .next t ∧ t.nat Oid.SESSION_IDLE = leNat d ∧ t.nat Oid.SDO_LAST_STATUS = 0
            ∧ t.out = [.sdo (0x580 + s.nat Oid.SDO_NODE_ID) r.index.toNat r.sub.toNat 0 []] ∧ t.blobs = s.blobs ∧ t.rcd = s.rcd
            ∧ (∀ k : Key, k.oid ≠ Oid.SESSION_IDLE.oid → k.oid ≠ Oid.SDO_LAST_STATUS.oid → t.get k = s.get k))))

/-- The BACnet server (R246 to R251): a property of a point that the device shows, or the identifier of its Device object, is read, a missing object
answers NO_OBJECT, a peer without the grant ACCESS_DENIED; a write goes to the priority array where writes by its link are allowed, several in order
up to the first that is refused; COV subscriptions are admitted, or cancelled; Who-Is and Who-Has are answered in range; communication control
disables the server for its duration; a time synchronisation has no effect.
Model's choices that clauses of it rest on: log entries 76 and 142. -/
def Obligations.BacnetServices : Prop :=
  ∀ (s : State) (r : BacReq),
    (exec (.timeSynchronization r) s = .next { s with out := [] }) ∧
    (∀ q : Nat, s.serving = true → s.linkUp r.link = true → s.deviceOf r = some q → s.linkGrants r.link q = true →
      exec (.deviceCommunicationControl r) s = .next { s with
        out := [.bacnet r.invoke none []]
        pts := { s.pts with
          dccDisabled := r.comm.val == 1, dccNoInit := r.comm.val == 2
          dccUntil := if r.comm.val = 0 ∨ r.minutes = 0 then 0 else s.clk + 60000000000 * r.minutes } }) ∧
    (∀ i : Instr, s.serving = true → s.dccOff = true →
      i ∈ [.readProperty r, .readPropertyMultiple r, .subscribeCov r, .whoIs r, .whoHas r] → exec i s = .next { s with out := [] }) ∧
    (s.serving = true → s.linkUp r.link = true → s.dccOff = false →
      (exec (.whoIs r) s = .next { s with
        out := ((s.devices r.link).filter (fun d => decide (r.lo ≤ d.1 ∧ d.1 ≤ r.hi))).map (fun d => .bacnet r.invoke none (leBytes 4 d.1)) }) ∧
      (exec (.whoHas r) s = .next { s with
        out := ((s.devices r.link).filter (fun d => decide (r.lo ≤ d.1 ∧ d.1 ≤ r.hi))).filterMap (fun d => (s.hasPoint r d.2).map (fun p =>
          .bacnet r.invoke none
            (leBytes 4 d.1 ++ leBytes 1 (s.ptType p) ++ leBytes 4 (s.nat (Oid.PT_BACNET_INSTANCE p)) ++ s.blob (Oid.PT_NAME p)))) }) ∧
      (∀ q : Nat, s.deviceOf r = some q → s.linkGrants r.link q = false → s.emits = [] →
        ∀ i ∈ ([.readProperty r, .readPropertyMultiple r, .writeProperty r, .writePropertyMultiple r, .subscribeCov r] : List Instr),
          exec i s = .next { s with out := [.bacnet r.invoke (some .accessDenied) []] }) ∧
      (∀ q : Nat, s.deviceOf r = some q → s.linkGrants r.link q = true →
        (∀ y ∈ r.items, y.type.val = 0 ∧ y.inst = s.pts.bacDevBase + q ∧ y.prop = .objectIdentifier) →
        exec (.readPropertyMultiple r) s = .next { s with out := r.items.map (fun y => .bacnet r.invoke none (bacObjectId 8 y.inst)) }) ∧
      (∀ (q : Nat) (x : BacItem) (rest : List BacItem), s.deviceOf r = some q → s.linkGrants r.link q = true →
        r.items = x :: rest → x.type.val ≠ 0 →
        (s.bacPoint q x = none → exec (.readProperty r) s = .next { s with out := [.bacnet r.invoke (some (.status 1)) []] }) ∧
        (∀ p : Nat, s.bacPoint q x = some p → x.prop = .statusFlags →
          exec (.readProperty r) s = .next { s with out := [.bacnet r.invoke none (leBytes 1 (s.statusFlags p))] }) ∧
        (∀ (p : Nat) (ty : Ty), s.bacPoint q x = some p → x.prop = .presentValue → pointTy (s.ptType p) = some ty →
          s.mem.badObjs.contains (Oid.PT_PV p).oid = false →
          exec (.readProperty r) s = .next { s with out :=
            [if s.bit (Oid.PT_STATUS p) 3 then .bacnet r.invoke (some (.status 13)) []
             else .bacnet r.invoke none (ty.enc (s.get (Oid.PT_PV p)))] }) ∧
        ((∀ y ∈ r.items, y.type.val ≠ 0 ∧ s.bacPoint q y = none) →
          exec (.readPropertyMultiple r) s = .next { s with out := r.items.map (fun _ => .bacnet r.invoke (some (.status 1)) []) }) ∧
        (∀ P : BacItem → Nat, (∀ y ∈ r.items, y.type.val ≠ 0 ∧ y.prop = .statusFlags ∧ s.bacPoint q y = some (P y)) →
          exec (.readPropertyMultiple r) s = .next { s with
            out := r.items.map (fun y => .bacnet r.invoke none (leBytes 1 (s.statusFlags (P y)))) }) ∧
        (∀ p : Nat, s.bacPoint q x = some p → s.mode ≠ .standby →
          (r.cancel = true →
            ∃ t, exec (.subscribeCov r) s = .next t ∧ t.out = [.bacnet r.invoke none []] ∧ t.objs = s.objs
              ∧ (∀ y ∈ s.pts.subs, sameCov r p y = true → ∀ z ∈ t.pts.subs, z.handle ≠ y.handle)) ∧
          (r.cancel = false → (∀ y ∈ s.pts.subs, sameCov r p y = false) → s.pts.subs.length < 131072 →
            s.admits (fun _ => false) [s.subItem s.pts.nextHandle (s.covSub r q p).cls 1000 (linkPort r.link)] = none →
            ∃ t, exec (.subscribeCov r) s = .next t ∧ t.out = [.bacnet r.invoke none (leBytes 4 s.pts.nextHandle)] ∧ t.objs = s.objs
              ∧ t.pts.subs = s.pts.subs ++ [{ s.covSub r q p with handle := s.pts.nextHandle }]))) ∧
      (∀ (q : Nat) (x : BacItem), s.deviceOf r = some q → s.linkGrants r.link q = true → s.emits = [] → s.mode ≠ .standby →
        s.NoneWaits → s.healthyStandby = false → s.acc.journal.length < 65536 →
        ((∃ port : Nat, r.link = .ip port) → s.pts.bacIpWrite = false →
          exec (.writeProperty r) s = .next { s with out := [.bacnet r.invoke (some .writeAccessDenied) []] }) ∧
        (∀ (p n : Nat) (ty : Ty), (s.pts.bacIpWrite = true ∨ ∃ f a cn, r.link = .sc f a cn) → s.bacPoint q x = some p → s.enabledPt p = true →
          x.prop = .presentValue → x.null = false → pointTy (s.ptType p) = some ty → hasArray (s.ptType p) = true → x.value.length = ty.size →
          s.ptValid p (ty.dec x.value) = true → n = (match x.prio with | some k => k.val | none => 16) → 1 ≤ n → (q = 0 ∨ 3 ≤ n) →
          (∀ i ∈ ([.writeProperty r, .writePropertyMultiple r] : List Instr), r.items = [x] →
            ∃ t, exec i s = .next t ∧ t.out = [.bacnet (BitVec.ofNat 32 r.invoke).toNat none []]
              ∧ t.get (Oid.PT_PRIORITY_SLOT p (n - 1)) = ty.dec x.value ∧ t.bit (Oid.PT_PA_MASK p) (n - 1) = true ∧ t.blobs = s.blobs) ∧
          (∀ y : BacItem, r.items = [x, y] → y.type.val ≠ 0 → s.bacPoint q y = none →
            ∃ t, exec (.writePropertyMultiple r) s = .next t ∧ t.out = [.bacnet r.invoke (some (.status 1)) []]
              ∧ t.get (Oid.PT_PRIORITY_SLOT p (n - 1)) = ty.dec x.value ∧ t.bit (Oid.PT_PA_MASK p) (n - 1) = true))))

/-! ### CAN (chapter 08) -/

/-- The schedule of a channel (R259, R271, R274 to R277, R282 to R286): a cycle start numbers the cycle, takes the written descriptors on row 0 and
sends the reference message where the channel drives; TX_COPY forms the content of a transmit entry; the end of a transmission in the entry's window,
or of the buffer that wins arbitration, leaves its status and time, a failure counts as a missed occurrence, an error counts 8 in TEC, and bus-off
comes above 255; a reference message that was late or failed is recorded; a receive window without a frame fails, and the third failure in a row sets
ENT_STATE bit 4.
Model's choices that clauses of it rest on: log entries 29, 78 and 147. -/
def Obligations.CanSchedule : Prop :=
  ∀ (s : State) (c : Fin 8), s.Room →
    (s.runs (.can c.val) = true → (s.canCh c.val).mode = 4 →
      (s.nat (Oid.CAN_MODE c.val) = 4 →
        ∃ t, exec (.canCycleStart c) s = .next t ∧ t.nat (Oid.CAN_CYCLE c.val) = s.cycleAt c.val s.time % 64
          ∧ (t.canCh c.val).waitCycle = false ∧ (t.canCh c.val).mode = 4 ∧ t.blobs = s.blobs
          ∧ t.out = (if s.drives && s.gate && !(s.canCh c.val).busOff then [.can c.val (s.nat (Oid.CAN_REF_ID c.val)) 0 (s.refData c.val)]
                     else [])
          ∧ (s.rowOf c.val (s.cycleAt c.val s.time) = 0 →
              (t.canCh c.val).pendDesc = [] ∧ ∀ e ∈ (s.canCh c.val).pendDesc, t.entHeld c.val e = s.entWritten c.val e)
          ∧ (s.rowOf c.val (s.cycleAt c.val s.time) ≠ 0 → (t.canCh c.val).desc = (s.canCh c.val).desc)) ∧
      (s.nat (Oid.CAN_MODE c.val) ≠ 4 →
        ∃ t, exec (.canCycleStart c) s = .next t ∧ (t.canCh c.val).mode = s.nat (Oid.CAN_MODE c.val) ∧ t.out = [])) ∧
    (s.runs (.can c.val) = false → exec (.canCycleStart c) s = .next { s with out := [] }) ∧
    (∀ e : Fin 256, s.canRuns c.val = true → s.entActive c.val e.val = true → (s.entHeld c.val e.val).type = 1 →
      ∃ t, exec (.txCopy c e) s = .next t ∧ t.out = []
        ∧ t.nat (Oid.TXB_ID c.val (s.entHeld c.val e.val).buffer) = idWord (s.entHeld c.val e.val).id (s.entHeld c.val e.val).ide
        ∧ t.nat (Oid.TXB_FRAME c.val (s.entHeld c.val e.val).buffer)
            = boolNat (s.entHeld c.val e.val).fdf + 2 * boolNat (s.entHeld c.val e.val).brs
        ∧ (s.isDtTx c.val e.val = false →
            ((s.entHeld c.val e.val).role = 0 → s.mappedOn c.val e.val true = [] →
              t.blob (Oid.TXB_DATA c.val (s.entHeld c.val e.val).buffer) = List.replicate (s.entHeld c.val e.val).len 0) ∧
            ((s.entHeld c.val e.val).role = 2 →
              t.blob (Oid.TXB_DATA c.val (s.entHeld c.val e.val).buffer)
                = (s.blob (Oid.TXB_DATA c.val (s.entHeld c.val (e.val - 1)).buffer)).map (~~~ ·)))) ∧
    (∀ e : Fin 256, s.canRuns c.val = true → (s.entActive c.val e.val = false ∨ (s.entHeld c.val e.val).type ≠ 1) → s.isDtTx c.val e.val = false →
      ∃ t, exec (.txCopy c e) s = .next t ∧ t.objs = s.objs ∧ t.blobs = s.blobs) ∧
    (∀ (r : CanTxEnd) (e : Fin 256), r.what = .entry e → s.canDrives c.val = true → s.entActive c.val e.val = true →
      (s.entHeld c.val e.val).type = 1 → s.mayStart c.val (s.entHeld c.val e.val) r.start.toNat = true →
      (∀ late : Bool, r.res = .complete late →
        ∃ t, exec (.canTransmitEnd c r) s = .next t ∧ t.nat (Oid.TXB_STATUS c.val (s.entHeld c.val e.val).buffer) = 2
          ∧ t.nat (Oid.TXB_TIME c.val (s.entHeld c.val e.val).buffer) = r.start.toNat
          ∧ t.out = [.can c.val (s.nat (Oid.TXB_ID c.val (s.entHeld c.val e.val).buffer))
              (s.nat (Oid.TXB_FRAME c.val (s.entHeld c.val e.val).buffer)) (s.blob (Oid.TXB_DATA c.val (s.entHeld c.val e.val).buffer))]
          ∧ t.nat (Oid.ENT_MISSED c.val e.val) = s.nat (Oid.ENT_MISSED c.val e.val)) ∧
      (r.res = .error ∨ r.res = .lost ∨ r.res = .noAck →
        ∃ t, exec (.canTransmitEnd c r) s = .next t ∧ t.nat (Oid.TXB_STATUS c.val (s.entHeld c.val e.val).buffer) = 5 ∧ t.out = []
          ∧ t.nat (Oid.ENT_MISSED c.val e.val) = min (s.nat (Oid.ENT_MISSED c.val e.val) + 1) 4294967295
          ∧ t.nat (Oid.CAN_TEC c.val) = (if r.res = .error then min (s.nat (Oid.CAN_TEC c.val) + 8) 255 else s.nat (Oid.CAN_TEC c.val))
          ∧ (r.res = .error → 255 < s.nat (Oid.CAN_TEC c.val) + 8 → (t.canCh c.val).busOff = true)) ∧
      (∀ (bits : Nat) (other : List Byte), r.res = .collision bits other →
        ∃ t, exec (.canTransmitEnd c r) s = .next t ∧ t.nat (Oid.TXB_STATUS c.val (s.entHeld c.val e.val).buffer) = 6 ∧ t.out = []
          ∧ t.nat (Oid.CAN_COLLISIONS c.val) = min (s.nat (Oid.CAN_COLLISIONS c.val) + 1) 4294967295
          ∧ t.nat (Oid.ENT_CONFLICTS c.val e.val) = min (s.nat (Oid.ENT_CONFLICTS c.val e.val) + 1) 4294967295
          ∧ t.nat (Oid.CAN_TEC c.val) = min (s.nat (Oid.CAN_TEC c.val) + 8) 255
          ∧ (s.nat (Oid.CAN_TEC c.val) + 8 ≤ 255 → t.Recorded 0x0704 0xFFFF c.val e.val (s.entHeld c.val e.val).id))) ∧
    (∀ (r : CanTxEnd) (b : Fin 64), r.what = .buffer b → s.canDrives c.val = true → s.nextBuffer c.val r.start.toNat = some b.val →
      s.bufferFits c.val b.val r.start.toNat = true →
      (∀ late : Bool, r.res = .complete late →
        ∃ t, exec (.canTransmitEnd c r) s = .next t
          ∧ t.nat (Oid.TXB_STATUS c.val b.val) = (if (s.canCh c.val).tooLate.getLsbD b.val then 4 else 2)
          ∧ t.nat (Oid.TXB_TIME c.val b.val) = r.start.toNat
          ∧ t.out = [.can c.val (s.nat (Oid.TXB_ID c.val b.val)) (s.nat (Oid.TXB_FRAME c.val b.val)) (s.blob (Oid.TXB_DATA c.val b.val))]) ∧
      (r.res = .lost ∨ r.res = .noAck → exec (.canTransmitEnd c r) s = .next { s with out := [] }) ∧
      (r.res = .error →
        ∃ t, exec (.canTransmitEnd c r) s = .next t ∧ t.nat (Oid.CAN_TEC c.val) = min (s.nat (Oid.CAN_TEC c.val) + 8) 255
          ∧ t.nat (Oid.TXB_STATUS c.val b.val) = s.nat (Oid.TXB_STATUS c.val b.val) ∧ t.out = []
          ∧ (255 < s.nat (Oid.CAN_TEC c.val) + 8 → (t.canCh c.val).busOff = true))) ∧
    (∀ r : CanTxEnd, r.what = .reference → s.canDrives c.val = true → (s.canCh c.val).mode = 4 →
      (r.res = .complete false →
        ∃ t, exec (.canTransmitEnd c r) s = .next t ∧ t.nat (Oid.CAN_TEC c.val) = min (s.nat (Oid.CAN_TEC c.val) - 1) 255 ∧ t.out = []) ∧
      (r.res = .complete true →
        ∃ t, exec (.canTransmitEnd c r) s = .next t ∧ t.out = [.can c.val (s.nat (Oid.CAN_REF_ID c.val)) 0 (s.refData c.val true)]
          ∧ t.Recorded 0x0707 0xFFFF c.val (s.nat (Oid.CAN_CYCLE c.val)) 1) ∧
      (r.res = .noAck →
        ∃ t, exec (.canTransmitEnd c r) s = .next t ∧ t.objs = s.objs ∧ t.out = []
          ∧ t.Recorded 0x0707 0xFFFF c.val (s.nat (Oid.CAN_CYCLE c.val)) 0) ∧
      (r.res = .error →
        ∃ t, exec (.canTransmitEnd c r) s = .next t ∧ t.nat (Oid.CAN_TEC c.val) = min (s.nat (Oid.CAN_TEC c.val) + 8) 255
          ∧ (255 < s.nat (Oid.CAN_TEC c.val) + 8 → (t.canCh c.val).busOff = true)
          ∧ (s.nat (Oid.CAN_TEC c.val) + 8 ≤ 255 → t.Recorded 0x0707 0xFFFF c.val (s.nat (Oid.CAN_CYCLE c.val)) 0))) ∧
    (∀ e : Fin 256, s.canRuns c.val = true → s.entActive c.val e.val = true → (s.entHeld c.val e.val).type = 2 →
      ((s.canCh c.val).seen.contains e.val = false →
        ∃ t, exec (.canWindowEnd c e) s = .next t
          ∧ t.nat (Oid.ENT_MISSED c.val e.val) = min (s.nat (Oid.ENT_MISSED c.val e.val) + 1) 4294967295
          ∧ (Tbl.get 0 (s.canCh c.val).run e.val = 2 → (s.mapped c.val e.val).length ≤ 1000 → t.bit (Oid.ENT_STATE c.val e.val) 4 = true
              ∧ t.Recorded 0x0706 0xFFFF c.val e.val (t.nat (Oid.ENT_MISSED c.val e.val)))) ∧
      ((s.canCh c.val).seen.contains e.val = true →
        ∃ t, exec (.canWindowEnd c e) s = .next t ∧ t.objs = s.objs ∧ t.rcd = s.rcd ∧ (t.canCh c.val).seen.contains e.val = false))

/-- Reception, bus-off and detection (R257, R262 to R265, R286, R291): a frame in the window of a receive entry, or matched by a filter, is stored in
the lowest-numbered buffer that takes it with its identifier, time and data, and the module's own consumer of an entry acknowledges it; one that
nothing takes is counted; an erroneous frame counts in REC; bus-off is recorded and, with automatic recovery, ends after 128 idle sequences with both
counters 0; detection settles on a candidate after eight good frames, and moves to the next after its dwell.
Model's choices that clauses of it rest on: log entries 30 and 78. -/
def Obligations.CanReception : Prop :=
  ∀ (s : State) (c : Fin 8), s.Room →
    (∀ f : CanFrame, s.canRuns c.val = true → (s.canCh c.val).busOff = false → f.ok = true →
      (∀ e b : Nat, s.entryOfFrame c.val f = some e → (s.entHeld c.val e).type = 2 → s.frameBuffer c.val f = some b →
        ∃ t, exec (.canFrameReceive c f) s = .next t ∧ t.blob (Oid.RXB_DATA c.val b) = f.data ∧ t.nat (Oid.RXB_ID c.val b) = f.id.toNat
          ∧ t.nat (Oid.RXB_TIME c.val b) = f.start.toNat ∧ (t.canCh c.val).seen.contains e = true
          ∧ t.bit (Oid.RXB_STATUS c.val b) 0 = !((s.entHeld c.val e).buffer == b && s.hasConsumer c.val e)) ∧
      ((s.canCh c.val).mode ≠ 2 → s.entryOfFrame c.val f = none →
        (∀ b : Nat, s.frameBuffer c.val f = some b →
          ∃ t, exec (.canFrameReceive c f) s = .next t ∧ t.blob (Oid.RXB_DATA c.val b) = (if f.rtr then [] else f.data)
            ∧ t.nat (Oid.RXB_ID c.val b) = f.id.toNat ∧ t.nat (Oid.RXB_TIME c.val b) = f.start.toNat
            ∧ t.bit (Oid.RXB_STATUS c.val b) 0 = true ∧ t.nat (Oid.CAN_UNMATCHED c.val) = s.nat (Oid.CAN_UNMATCHED c.val)) ∧
        (s.frameBuffer c.val f = none →
          ∃ t, exec (.canFrameReceive c f) s = .next t
            ∧ t.nat (Oid.CAN_UNMATCHED c.val) = min (s.nat (Oid.CAN_UNMATCHED c.val) + 1) 4294967295))) ∧
    (∀ f : CanFrame, s.canRuns c.val = true → (s.canCh c.val).mode ≠ 2 →
      ((s.canCh c.val).busOff = false → f.ok = false → s.canState c.val ≠ 4 →
        ∃ t, exec (.canFrameReceive c f) s = .next t ∧ t.nat (Oid.CAN_REC c.val) = min (s.nat (Oid.CAN_REC c.val) + 1 + 8 * f.flags) 255 ∧ t.blobs = s.blobs) ∧
      ((s.canCh c.val).busOff = true → exec (.canFrameReceive c f) s = .next { s with out := [] })) ∧
    (∀ f : CanFrame, s.canRuns c.val = true → (s.canCh c.val).mode = 2 → s.bit (Oid.CAN_DETECT_FLAGS c.val) 0 = false →
      s.candidates c.val ≠ [] → f.ok = true → f.brs = false → (s.canCh c.val).good = 7 →
      ∃ t, exec (.canFrameReceive c f) s = .next t ∧ t.nat (Oid.CAN_DETECT_RESULT c.val) = (s.canCh c.val).cand
        ∧ t.nat (Oid.CAN_DETECT_FLAGS c.val) = 1 + 2 * boolNat (s.canCh c.val).brs
        ∧ t.Recorded 0x0708 0xFFFF c.val (s.canCh c.val).cand (1 + 2 * boolNat (s.canCh c.val).brs)) ∧
    (s.canRuns c.val = true → (s.canCh c.val).mode = 2 → s.bit (Oid.CAN_DETECT_FLAGS c.val) 0 = false →
      ∃ t, exec (.canDetectDwell c) s = .next t ∧ (t.canCh c.val).good = 0 ∧ (t.canCh c.val).dwellAt = t.clk ∧ t.objs = s.objs
        ∧ (s.candidates c.val ≠ [] → (t.canCh c.val).cand = ((s.canCh c.val).cand + 1) % (s.candidates c.val).length)
        ∧ (s.canCh c.val).dwellAt + 1000000 * s.nat (Oid.CAN_DETECT_DWELL c.val) ≤ t.clk) ∧
    (s.canRuns c.val = true → 3 ≤ (s.canCh c.val).mode → (s.canCh c.val).busOff = false →
      ∃ t, exec (.canBusOff c) s = .next t ∧ (t.canCh c.val).busOff = true ∧ t.canDrives c.val = false
        ∧ (t.canCh c.val).recovering
            = (s.flag (Oid.CAN_BUSOFF_AUTO c.val) && decide (((s.canCh c.val).offs.filter (fun n => !s.passed n 60000000000)).length < 3))
        ∧ t.Recorded 0x0701 0xFFFF c.val (s.nat (Oid.CAN_TEC c.val))
            (((s.canCh c.val).offs.filter (fun n => !s.passed n 60000000000)).length + 1)) ∧
    (∀ idles : Nat, s.canRuns c.val = true → (s.canCh c.val).busOff = true → (s.canCh c.val).recovering = true →
      (128 ≤ idles →
        ∃ t, exec (.canBusOn c idles) s = .next t ∧ (t.canCh c.val).busOff = false ∧ (t.canCh c.val).recovering = false
          ∧ t.nat (Oid.CAN_TEC c.val) = 0 ∧ t.nat (Oid.CAN_REC c.val) = 0 ∧ (t.canCh c.val).waitCycle = ((s.canCh c.val).mode == 4)
          ∧ t.Recorded 0x0702 0xFFFF c.val ((s.clk - (s.canCh c.val).offs.headD s.clk) / 1000000) 0) ∧
      (idles < 128 → exec (.canBusOn c idles) s = .next { s with out := [] }))

/-- Host writes of a channel (R259, R261, R262, R264, R266 to R270, R275 to R278, R280, R285): a request or a cancel of an event buffer leaves its
status, a late cancel answers TOO_LATE, one held by the schedule is refused with ACCESS; an acknowledge with the UPDATES value read clears NEW and
OVERRUN; a descriptor in range that the ledger admits waits for row 0; a mode that uses no schedule takes effect at once, one that does at the next
cycle start; a bus-off request starts recovery; ENT_ACK clears the conflict.
Model's choices that clauses of it rest on: log entries 32 and 79. -/
def Obligations.CanHostWrites : Prop :=
  ∀ (s : State) (ses : Fin 64) (req : BitVec 32) (c : Fin 8), s.Ready ses.val →
    (∃ t, exec (.canBusoffReq ses req c 1) s = .next t ∧ t.Answers ses.val req 0 ∧ t.objs = s.objs ∧ t.blobs = s.blobs
      ∧ (t.canCh c.val).busOff = (s.canCh c.val).busOff ∧ ((s.canCh c.val).busOff = true → (t.canCh c.val).recovering = true)) ∧
    (∀ v : Byte, v ≠ 1 →
      ∃ t, exec (.canBusoffReq ses req c v) s = .next t ∧ t.Answers ses.val req 4 ∧ t.can = s.can ∧ t.objs = s.objs) ∧
    (∀ b : Fin 64,
      (s.txbHeld c.val b.val = false →
        (∃ t, exec (.txbRequest ses req c b) s = .next t ∧ t.Answers ses.val req 0 ∧ t.nat (Oid.TXB_STATUS c.val b.val) = 1
          ∧ (t.canCh c.val).tooLate.getLsbD b.val = false
          ∧ (∀ k : Key, k.oid ≠ (Oid.TXB_STATUS c.val b.val).oid → t.get k = s.get k) ∧ t.blobs = s.blobs) ∧
        (∀ ph : TxPhase, s.nat (Oid.TXB_STATUS c.val b.val) = 1 →
          ∃ t, exec (.txbCancel ses req c b ph) s = .next t ∧ t.blobs = s.blobs
            ∧ t.Answers ses.val req (if ph = .offBus ∨ ph = .arbitrationLost then 0 else 10)
            ∧ (ph = .offBus ∨ ph = .arbitrationLost → t.nat (Oid.TXB_STATUS c.val b.val) = 3)
            ∧ (ph = .arbitrationWon ∨ ph = .pastArbitration →
                t.nat (Oid.TXB_STATUS c.val b.val) = 1 ∧ (t.canCh c.val).tooLate.getLsbD b.val = true)) ∧
        (∀ ph : TxPhase, s.nat (Oid.TXB_STATUS c.val b.val) ≠ 1 →
          ∃ t, exec (.txbCancel ses req c b ph) s = .next t ∧ t.Answers ses.val req 1 ∧ t.objs = s.objs ∧ t.can = s.can)) ∧
      (s.txbHeld c.val b.val = true →
        (∃ t, exec (.txbRequest ses req c b) s = .next t ∧ t.Answers ses.val req 2 ∧ t.objs = s.objs ∧ t.can = s.can) ∧
        (∀ ph : TxPhase, ∃ t, exec (.txbCancel ses req c b ph) s = .next t ∧ t.Answers ses.val req 2 ∧ t.objs = s.objs ∧ t.can = s.can))) ∧
    (∀ (b : Fin 256) (v : Byte),
      (field (s.nat (Oid.RXB_STATUS c.val b.val)) 31 24 = v.toNat →
        ∃ t, exec (.rxbAck ses req c b v) s = .next t ∧ t.Answers ses.val req 0 ∧ t.bit (Oid.RXB_STATUS c.val b.val) 0 = false
          ∧ t.bit (Oid.RXB_STATUS c.val b.val) 1 = false
          ∧ (∀ k : Key, k.oid ≠ (Oid.RXB_STATUS c.val b.val).oid → t.get k = s.get k) ∧ t.blobs = s.blobs) ∧
      (field (s.nat (Oid.RXB_STATUS c.val b.val)) 31 24 ≠ v.toNat →
        ∃ t, exec (.rxbAck ses req c b v) s = .next t ∧ t.Answers ses.val req 9 ∧ t.objs = s.objs)) ∧
    (∀ (e : Fin 256) (d : List Byte), d.length = 16 →
      ((s.atRequest ses.val).entDescCheck c.val e.val d = none →
        ∃ t, exec (.entDesc ses req c e d) s = .next t ∧ t.Answers ses.val req 0
          ∧ t.blob (Oid.ENT_DESC c.val e.val) = leBytes 16 (entryMask (leNat d)) ∧ e.val ∈ (t.canCh c.val).pendDesc
          ∧ (t.canCh c.val).desc = (s.canCh c.val).desc
          ∧ (∀ k : BKey, k.oid ≠ (Oid.ENT_DESC c.val e.val).oid → t.blob k = s.blob k)) ∧
      (s.entryRange c.val e.val (entryOf (leNat d)) = false →
        ∃ t, exec (.entDesc ses req c e d) s = .next t ∧ t.Answers ses.val req 4 ∧ t.objs = s.objs ∧ t.blobs = s.blobs ∧ t.can = s.can)) ∧
    (∀ e : Fin 256,
      (∃ t, exec (.entAck ses req c e 1) s = .next t ∧ t.Answers ses.val req 0 ∧ t.bit (Oid.ENT_STATE c.val e.val) 3 = false
        ∧ (∀ k : Key, k.oid ≠ (Oid.ENT_STATE c.val e.val).oid → t.get k = s.get k) ∧ t.blobs = s.blobs) ∧
      (∀ v : Byte, v ≠ 1 → ∃ t, exec (.entAck ses req c e v) s = .next t ∧ t.Answers ses.val req 4 ∧ t.objs = s.objs)) ∧
    (∀ v : Byte,
      (v.toNat < 4 → s.canCarriesAB c.val = false → (s.canCh c.val).mode ≠ 4 →
        ∃ t, exec (.canMode ses req c v) s = .next t ∧ t.Answers ses.val req 0 ∧ t.nat (Oid.CAN_MODE c.val) = v.toNat
          ∧ (t.canCh c.val).mode = v.toNat ∧ t.blobs = s.blobs) ∧
      (v = 4 → (s.atRequest ses.val).canModeCheck c.val 4 = none →
        ∃ t, exec (.canMode ses req c v) s = .next t ∧ t.Answers ses.val req 0 ∧ t.nat (Oid.CAN_MODE c.val) = 4
          ∧ (t.canCh c.val).mode = (s.canCh c.val).mode ∧ t.blobs = s.blobs) ∧
      (v.toNat ≤ 4 → s.canCarriesAB c.val = true →
        ∃ t, exec (.canMode ses req c v) s = .next t ∧ t.Answers ses.val req 9 ∧ t.objs = s.objs ∧ t.can = s.can) ∧
      (4 < v.toNat → ∃ t, exec (.canMode ses req c v) s = .next t ∧ t.Answers ses.val req 4 ∧ t.objs = s.objs ∧ t.can = s.can))

/-! ### Position units (chapter 09) -/

/-- The encoder, the absolute sensor and the probe of a car (R301 to R305, R309, R312 to R326, R330): an accepted edge moves the count by one in its
direction, and ENC_POS with it, and fires the armed compares it crosses; an illegal or too early sample is counted; faults set their bits; an SSI
frame is clocked where the module drives with its gate open; an accepted absolute reading gives ABS_POS and SLIP, three discarded ones in a row clear
ABS_VALID; a probe edge latches the position and corrects the offset.
Model's choices that clauses of it rest on: log entries 28 and 80. -/
def Obligations.EncoderAndSensors : Prop :=
  ∀ (s : State) (n : Fin 12), s.Room → s.counting n.val = true →
    (∀ (x : BitVec 2) (now : Nat),
      (x ≠ (s.posUnit n.val).st → x ≠ (s.posUnit n.val).st ^^^ 3 → (s.posUnit n.val).pending = false →
        s.nat (Oid.MIN_EDGE n.val) ≤ now - (s.posUnit n.val).tLast →
        ∃ u : State, exec (.encoderEdge n x now) s = .next u.drain ∧ (u.posUnit n.val).st = x ∧ (u.posUnit n.val).tLast = now
          ∧ u.get (Oid.ENC_RAW n.val)
              = s.get (Oid.ENC_RAW n.val) + (if quadUp (s.posUnit n.val).st x != s.flag (Oid.ENC_INVERT n.val) then 1 else -1)
          ∧ u.bit (Oid.POS_STATUS n.val) 10 = !(quadUp (s.posUnit n.val).st x != s.flag (Oid.ENC_INVERT n.val))
          ∧ (inI32 (u.exactPos n.val) = true → u.get (Oid.ENC_POS n.val) = u.exactPos n.val)
          ∧ (∀ k : Nat, k < 8 → s.nat (Oid.CMP_STATE n.val k) = 1 → s.nat (Oid.CMP_MODE n.val k) % 4 ≠ 2 →
              s.get (Oid.ENC_POS n.val) < s.get (Oid.CMP_POS n.val k) → s.get (Oid.CMP_POS n.val k) ≤ u.get (Oid.ENC_POS n.val) →
              u.nat (Oid.CMP_STATE n.val k) = 3 ∧ u.nat (Oid.CMP_ARM n.val k) = 0
                ∧ u.get (Oid.CMP_LATCH_POS n.val k) = u.get (Oid.ENC_POS n.val) ∧ u.nat (Oid.CMP_LATCH_TIME n.val k) = u.time
                ∧ (s.drives = true → s.nat (Oid.CMP_TARGET n.val k) ≠ 0 →
                    ∃ e ∈ u.emits, e.oid = s.nat (Oid.CMP_TARGET n.val k) ∧ e.src = .compare n.val k
                      ∧ e.value = leBytes 8 (s.nat (Oid.CMP_VALUE n.val k))))) ∧
      (x = (s.posUnit n.val).st → s.emits = [] →
        ∃ t, exec (.encoderEdge n x now) s = .next t ∧ t.objs = s.objs ∧ (t.posUnit n.val).pending = false ∧ (t.posUnit n.val).st = x) ∧
      (x = (s.posUnit n.val).st ^^^ 3 → (s.posUnit n.val).pending = false → s.emits = [] →
        ∃ t, exec (.encoderEdge n x now) s = .next t ∧ t.nat (Oid.QUAD_ERR n.val) = min (s.nat (Oid.QUAD_ERR n.val) + 1) 4294967295
          ∧ t.get (Oid.ENC_RAW n.val) = s.get (Oid.ENC_RAW n.val) ∧ t.get (Oid.ENC_POS n.val) = s.get (Oid.ENC_POS n.val)) ∧
      (x ≠ (s.posUnit n.val).st → x ≠ (s.posUnit n.val).st ^^^ 3 → (s.posUnit n.val).pending = false → s.emits = [] →
        now - (s.posUnit n.val).tLast < s.nat (Oid.MIN_EDGE n.val) →
        ∃ t, exec (.encoderEdge n x now) s = .next t ∧ t.nat (Oid.EDGE_FAST n.val) = min (s.nat (Oid.EDGE_FAST n.val) + 1) 4294967295
          ∧ (t.posUnit n.val).pending = true ∧ t.get (Oid.ENC_RAW n.val) = s.get (Oid.ENC_RAW n.val))) ∧
    (∀ (line : EncLine) (forNs : Nat),
      (line ≠ .z → 1000 < forNs → s.bit (Oid.POS_STATUS n.val) 6 = false →
        ∃ t, exec (.encLineFault n line forNs) s = .next t ∧ t.bit (Oid.POS_STATUS n.val) 6 = true ∧ t.referenced n.val = false
          ∧ t.encValid n.val = false ∧ t.Recorded 0x0903 n.val (if line = .a then 0 else 1) 0 0) ∧
      (line = .z → 1000 < forNs →
        ∃ t, exec (.encLineFault n line forNs) s = .next t ∧ t.bit (Oid.POS_STATUS n.val) 6 = s.bit (Oid.POS_STATUS n.val) 6 ∧ t.pos = s.pos
          ∧ t.Recorded 0x0903 n.val 2 0 0) ∧
      (forNs = 0 → ∃ t, exec (.encLineFault n line forNs) s = .next t ∧ t.objs = s.objs ∧ t.rcd = s.rcd)) ∧
    (∀ now : Nat,
      ((s.posUnit n.val).tLast + 1000000 * s.nat (Oid.ZERO_TIMEOUT n.val) ≤ now →
        ∃ t, exec (.zeroTimeout n now) s = .next t ∧ t.get (Oid.SPEED n.val) = 0 ∧ t.moving n.val = false
          ∧ t.get (Oid.ENC_POS n.val) = s.get (Oid.ENC_POS n.val) ∧ t.rcd = s.rcd) ∧
      (now < (s.posUnit n.val).tLast + 1000000 * s.nat (Oid.ZERO_TIMEOUT n.val) → exec (.zeroTimeout n now) s = .next { s with out := [] })) ∧
    (∃ t, exec (.indexEdge n) s = .next t ∧ t.get (Oid.Z_POS n.val) = s.get (Oid.ENC_POS n.val)
      ∧ t.nat (Oid.Z_COUNT n.val) = min (s.nat (Oid.Z_COUNT n.val) + 1) 4294967295
      ∧ (∀ k : Key, k.oid ≠ (Oid.Z_POS n.val).oid → k.oid ≠ (Oid.Z_COUNT n.val).oid → t.get k = s.get k) ∧ t.blobs = s.blobs) ∧
    (s.nat (Oid.ABS_SOURCE n.val) = 1 →
      (s.drives = true → s.gate = true →
        ∃ t, exec (.ssiFrameStart n) s = .next t ∧ t.out = [.ssi n.val (s.nat (Oid.SSI_RATE n.val)) (s.ssiClocks n.val)] ∧ t.objs = s.objs
          ∧ t.pos = s.pos ∧ (s.time % (1000 * s.nat (Oid.SSI_PERIOD n.val)) = 0 → t.clk = s.clk)) ∧
      (s.drives = false ∨ s.gate = false → exec (.ssiFrameStart n) s = .next { s with out := [] }) ∧
      (∀ r : SsiReading,
        ((r.idleHigh = false ∨ r.delayNs = none) → (s.posUnit n.val).absBad = 2 → s.bit (Oid.POS_STATUS n.val) 7 = false →
          ∃ t, exec (.ssiFrameEnd n r) s = .next t ∧ t.bit (Oid.POS_STATUS n.val) 3 = false ∧ t.bit (Oid.POS_STATUS n.val) 7 = true
            ∧ t.get (Oid.ABS_POS n.val) = s.get (Oid.ABS_POS n.val)
            ∧ t.Recorded 0x0904 n.val (if r.idleHigh then 0 else 1) (s.nat (Oid.ABS_RAW n.val)) 0) ∧
        (∀ d raw : Nat, r.idleHigh = true → r.delayNs = some d → d ≤ 8000 →
          ((s.nat (Oid.SSI_FORMAT n.val)).testBit 1 && r.errBit) = false →
          ssiParityOk (s.nat (Oid.SSI_BITS n.val)) (r.data.toNat % 2 ^ s.nat (Oid.SSI_BITS n.val)) (s.nat (Oid.SSI_FORMAT n.val)) r.errBit r.parity = true →
          raw = (if (s.nat (Oid.SSI_FORMAT n.val)).testBit 0
            then grayDecode (s.nat (Oid.SSI_BITS n.val)) (r.data.toNat % 2 ^ s.nat (Oid.SSI_BITS n.val))
            else r.data.toNat % 2 ^ s.nat (Oid.SSI_BITS n.val)) →
          s.absJumps n.val (s.absScale n.val raw) (r.time.toNat + d / 2) = false → s.referenced n.val = true →
          ∃ t, exec (.ssiFrameEnd n r) s = .next t ∧ t.nat (Oid.ABS_RAW n.val) = raw ∧ t.get (Oid.ABS_POS n.val) = s.absScale n.val raw
            ∧ t.nat (Oid.ABS_TIME n.val) = r.time.toNat + d / 2 ∧ t.nat (Oid.SSI_DELAY_NS n.val) = d
            ∧ t.bit (Oid.POS_STATUS n.val) 3 = true ∧ (t.posUnit n.val).absBad = 0
            ∧ t.get (Oid.SLIP n.val) = satI32 (s.posAt n.val (r.now + d / 2) - s.absScale n.val raw)))) ∧
    (∀ forMs : Nat, s.nat (Oid.ABS_SOURCE n.val) ≠ 0 → s.bit (Oid.POS_STATUS n.val) 3 = true → s.bit (Oid.POS_STATUS n.val) 8 = false →
      (s.nat (Oid.SLIP_LIMIT n.val) < (s.get (Oid.SLIP n.val)).natAbs → s.nat (Oid.SLIP_TIME n.val) ≤ forMs →
        ∃ t, exec (.slipFault n forMs) s = .next t ∧ t.bit (Oid.POS_STATUS n.val) 8 = true
          ∧ t.Recorded 0x0905 n.val (par (s.get (Oid.SLIP n.val))) (par (s.get (Oid.ENC_POS n.val))) 0) ∧
      ((s.get (Oid.SLIP n.val)).natAbs ≤ s.nat (Oid.SLIP_LIMIT n.val) ∨ forMs < s.nat (Oid.SLIP_TIME n.val) →
        exec (.slipFault n forMs) s = .next { s with out := [] })) ∧
    (∀ (input : Fin 4) (rising : Bool) (now : Nat), s.nat (Oid.PROBE_SEL n.val) % 4 = input.val →
      (s.nat (Oid.PROBE_SEL n.val)).testBit (if rising then 2 else 3) = true → s.probeFree n.val = true →
      (∃ u : State, exec (.probeEdge n input rising now) s = .next u.drain ∧ u.get (Oid.PROBE_POS n.val) = satI32 (s.posAt n.val (now - 310))
        ∧ u.nat (Oid.PROBE_TIME n.val) = s.time - 310 ∧ (u.posUnit n.val).hold = some (s.get (Oid.ENC_RAW n.val))) ∧
      (s.nat (Oid.LEARN n.val) = 0 → s.referenced n.val = true → s.tablesReload = false →
        (s.nearestLanding n.val (satI32 (s.posAt n.val (now - 310))) (s.dirDown n.val) = none →
          ∃ u : State, exec (.probeEdge n input rising now) s = .next u.drain
            ∧ u.nat (Oid.PROBE_MISS n.val) = min (s.nat (Oid.PROBE_MISS n.val) + 1) 4294967295
            ∧ u.get (Oid.ENC_OFFSET n.val) = s.get (Oid.ENC_OFFSET n.val)) ∧
        (∀ (l : Nat) (corr : Int), s.nearestLanding n.val (satI32 (s.posAt n.val (now - 310))) (s.dirDown n.val) = some l →
          corr = (if s.dirDown n.val then s.get (Oid.LAND_PROBE_DN n.val l) else s.get (Oid.LAND_PROBE_UP n.val l))
            - satI32 (s.posAt n.val (now - 310)) →
          (corr.natAbs ≤ s.nat (Oid.PROBE_CORR_LIMIT n.val) →
            ∃ u : State, exec (.probeEdge n input rising now) s = .next u.drain ∧ u.get (Oid.PROBE_CORR n.val) = corr
              ∧ u.nat (Oid.PROBE_LANDING n.val) = l ∧ u.get (Oid.ENC_OFFSET n.val) = satI32 (s.get (Oid.ENC_OFFSET n.val) + corr)) ∧
          (s.nat (Oid.PROBE_CORR_LIMIT n.val) < corr.natAbs →
            ∃ u : State, exec (.probeEdge n input rising now) s = .next u.drain ∧ u.bit (Oid.POS_STATUS n.val) 9 = true
              ∧ u.get (Oid.ENC_OFFSET n.val) = s.get (Oid.ENC_OFFSET n.val) ∧ u.Recorded 0x0906 n.val l (par corr) 0))))

/-- Host writes of a position unit (R306, R320, R321, R327 to R330): POS_ACK clears the fault bits whose condition is absent; REF_LANDING references a
standing car at a landing; LEARN starts a run in a car out of service or in inspection, and ends it; a compare is armed, waits on the far side or
fires at once, is disarmed, and takes new values. -/
def Obligations.PositionHostWrites : Prop :=
  ∀ (s : State) (ses : Fin 64) (req : BitVec 32) (n : Fin 12), s.Ready ses.val → s.Room →
    (∃ t, exec (.posAck ses req n 1) s = .next t ∧ t.Answers ses.val req 0 ∧ t.blobs = s.blobs ∧ t.rcd = s.rcd
      ∧ (∀ k : Key, k.oid ≠ (Oid.POS_STATUS n.val).oid → t.get k = s.get k)
      ∧ t.bit (Oid.POS_STATUS n.val) 4 = (s.bit (Oid.POS_STATUS n.val) 4 && decide (s.nat (Oid.QUAD_ERR_LIMIT n.val)
          ≤ ((s.posUnit n.val).quads.filter (fun x => !s.passed x (1000000 * s.nat (Oid.QUAD_WINDOW n.val)))).length))
      ∧ t.bit (Oid.POS_STATUS n.val) 6 = (s.bit (Oid.POS_STATUS n.val) 6 && (s.posUnit n.val).line != 0)
      ∧ t.bit (Oid.POS_STATUS n.val) 7 = (s.bit (Oid.POS_STATUS n.val) 7 && decide (3 ≤ (s.posUnit n.val).absBad))
      ∧ t.bit (Oid.POS_STATUS n.val) 9 = false) ∧
    (∀ v : Byte, v ≠ 1 → ∃ t, exec (.posAck ses req n v) s = .next t ∧ t.Answers ses.val req 4 ∧ t.objs = s.objs) ∧
    (∀ v : Byte,
      (v.toNat < s.nat (Oid.LANDINGS n.val) → s.nat (Oid.ABS_SOURCE n.val) = 0 → s.encValid n.val = true → s.moving n.val = false →
        s.bit (Oid.CAR_INPUTS n.val) 0 = true → s.bit (Oid.CAR_INPUTS n.val) 1 = true →
        ∃ t, exec (.refLanding ses req n v) s = .next t ∧ t.Answers ses.val req 0 ∧ t.referenced n.val = true ∧ t.blobs = s.blobs
          ∧ t.get (Oid.ENC_OFFSET n.val)
              = satI32 (s.get (Oid.ENC_OFFSET n.val) + (s.get (Oid.LAND_PROBE_UP n.val v.toNat) - s.exactPos n.val))
          ∧ t.Recorded 0x0907 n.val 1 (par (t.get (Oid.ENC_POS n.val))) 0) ∧
      (s.nat (Oid.LANDINGS n.val) ≤ v.toNat →
        ∃ t, exec (.refLanding ses req n v) s = .next t ∧ t.Answers ses.val req 4 ∧ t.objs = s.objs ∧ t.rcd = s.rcd) ∧
      (v.toNat < s.nat (Oid.LANDINGS n.val) → (s.encValid n.val = false ∨ s.moving n.val = true) →
        ∃ t, exec (.refLanding ses req n v) s = .next t ∧ t.Answers ses.val req 9 ∧ t.objs = s.objs ∧ t.rcd = s.rcd)) ∧
    (∀ (i : Instr) (v : Nat), (i = .learnUp ses req n ∧ v = 1) ∨ (i = .learnDown ses req n ∧ v = 2) →
      (s.encValid n.val = true → (s.nat (Oid.CAR_STATE n.val) = 0 ∨ s.nat (Oid.CAR_STATE n.val) = 11) →
        ∃ t, exec i s = .next t ∧ t.Answers ses.val req 0 ∧ t.nat (Oid.LEARN n.val) = v ∧ t.nat (Oid.LEARN_COUNT n.val) = 0
          ∧ (∀ k : Key, k.oid ≠ (Oid.LEARN n.val).oid → k.oid ≠ (Oid.LEARN_COUNT n.val).oid → t.get k = s.get k)) ∧
      ((s.encValid n.val = false ∨ (s.nat (Oid.CAR_STATE n.val) ≠ 0 ∧ s.nat (Oid.CAR_STATE n.val) ≠ 11)) →
        ∃ t, exec i s = .next t ∧ t.Answers ses.val req 9 ∧ t.objs = s.objs)) ∧
    (s.nat (Oid.LEARN n.val) ≠ 0 →
      ∃ t, exec (.learnStop ses req n) s = .next t ∧ t.Answers ses.val req 0 ∧ t.nat (Oid.LEARN n.val) = 0
        ∧ t.Recorded 0x0909 n.val (s.nat (Oid.LEARN n.val)) (s.nat (Oid.LEARN_COUNT n.val)) 0
        ∧ (∀ k : Key, k.oid ≠ (Oid.LEARN n.val).oid → t.get k = s.get k)) ∧
    (s.nat (Oid.LEARN n.val) = 0 →
      ∃ t, exec (.learnStop ses req n) s = .next t ∧ t.Answers ses.val req 0 ∧ t.objs = s.objs ∧ t.rcd = s.rcd) ∧
    (∀ k : Fin 8, (4 ≤ k.val ∨ s.nat (Oid.CAR_STATE n.val) = 0) →
      ((s.atRequest ses.val).armCheck n.val k.val = none →
        (s.get (Oid.ENC_POS n.val) = s.get (Oid.CMP_POS n.val k.val) →
          ∃ u : State, exec (.cmpArm ses req n k) s = .next u.drain ∧ u.Answers ses.val req 0 ∧ u.nat (Oid.CMP_STATE n.val k.val) = 3
            ∧ u.nat (Oid.CMP_ARM n.val k.val) = 0 ∧ u.get (Oid.CMP_LATCH_POS n.val k.val) = s.get (Oid.ENC_POS n.val)) ∧
        (∀ d : Nat, d = s.nat (Oid.CMP_MODE n.val k.val) % 4 → s.get (Oid.ENC_POS n.val) ≠ s.get (Oid.CMP_POS n.val k.val) →
          ((d = 1 ∧ s.get (Oid.CMP_POS n.val k.val) < s.get (Oid.ENC_POS n.val))
              ∨ (d = 2 ∧ s.get (Oid.ENC_POS n.val) < s.get (Oid.CMP_POS n.val k.val)) →
            ((s.nat (Oid.CMP_MODE n.val k.val)).testBit 2 = true →
              ∃ t, exec (.cmpArm ses req n k) s = .next t ∧ t.Answers ses.val req 0 ∧ t.nat (Oid.CMP_STATE n.val k.val) = 2
                ∧ t.nat (Oid.CMP_ARM n.val k.val) = 1) ∧
            ((s.nat (Oid.CMP_MODE n.val k.val)).testBit 2 = false →
              ∃ u : State, exec (.cmpArm ses req n k) s = .next u.drain ∧ u.Answers ses.val req 0 ∧ u.nat (Oid.CMP_STATE n.val k.val) = 4
                ∧ u.nat (Oid.CMP_ARM n.val k.val) = 0
                ∧ u.Recorded 0x0908 n.val k.val (par (s.get (Oid.CMP_POS n.val k.val))) (par (s.get (Oid.ENC_POS n.val))))) ∧
          ((d = 1 → s.get (Oid.ENC_POS n.val) ≤ s.get (Oid.CMP_POS n.val k.val)) →
            (d = 2 → s.get (Oid.CMP_POS n.val k.val) ≤ s.get (Oid.ENC_POS n.val)) →
            ∃ t, exec (.cmpArm ses req n k) s = .next t ∧ t.Answers ses.val req 0 ∧ t.nat (Oid.CMP_STATE n.val k.val) = 1
              ∧ t.nat (Oid.CMP_ARM n.val k.val) = 1))) ∧
      (∃ t, exec (.cmpDisarm ses req n k) s = .next t ∧ t.Answers ses.val req 0 ∧ t.nat (Oid.CMP_ARM n.val k.val) = 0
        ∧ t.nat (Oid.CMP_STATE n.val k.val)
            = (if s.nat (Oid.CMP_STATE n.val k.val) = 1 ∨ s.nat (Oid.CMP_STATE n.val k.val) = 2 then 0 else s.nat (Oid.CMP_STATE n.val k.val))) ∧
      (∀ v : BitVec 32, s.nat (Oid.CMP_ARM n.val k.val) ≠ 1 →
        (∃ t, exec (.cmpRearm ses req n k false v) s = .next t ∧ t.Answers ses.val req 0 ∧ t.get (Oid.CMP_POS n.val k.val) = signed 32 v.toNat
          ∧ (∀ x : Key, x.oid ≠ (Oid.CMP_POS n.val k.val).oid → t.get x = s.get x)) ∧
        (v.toNat % 4 ≠ 0 →
          ∃ t, exec (.cmpRearm ses req n k true v) s = .next t ∧ t.Answers ses.val req 0 ∧ t.nat (Oid.CMP_MODE n.val k.val) = v.toNat % 16
            ∧ (∀ x : Key, x.oid ≠ (Oid.CMP_MODE n.val k.val).oid → t.get x = s.get x)) ∧
        (v.toNat % 4 = 0 →
          ∃ t, exec (.cmpRearm ses req n k true v) s = .next t ∧ t.Answers ses.val req 4 ∧ t.objs = s.objs)) ∧
      (∀ v : BitVec 32, s.nat (Oid.CMP_ARM n.val k.val) = 1 → signed 32 v.toNat ≠ s.get (Oid.ENC_POS n.val) →
        (s.nat (Oid.CMP_MODE n.val k.val) % 4 = 0 ∨ s.nat (Oid.CMP_MODE n.val k.val) % 4 = 3) →
        ∃ t, exec (.cmpRearm ses req n k false v) s = .next t ∧ t.Answers ses.val req 0 ∧ t.get (Oid.CMP_POS n.val k.val) = signed 32 v.toNat
          ∧ t.nat (Oid.CMP_STATE n.val k.val) = 1 ∧ t.nat (Oid.CMP_ARM n.val k.val) = 1)) ∧
    (∀ k : Fin 8, k.val < 4 → s.nat (Oid.CAR_STATE n.val) ≠ 0 →
      ∀ i ∈ ([.cmpArm ses req n k, .cmpDisarm ses req n k] : List Instr), ∃ t, exec i s = .next t ∧ t.Answers ses.val req 2 ∧ t.objs = s.objs)

/-! ### Door link and door drive (chapter 10) -/

/-- The link of a door channel (R342, R346 to R353, R362, R363, R367 to R373): a bad frame is counted, the fourth in a row loses FRAME_LOCK; a good
new frame gives currents and counter, and a stage fault takes the door to FAULT unless it is LOCKED; a gap of more than 50 ms starts the handshake
again; each step of the handshake goes on or fails with its cause, and is tried again after 1 s; the lock's contact commits a close, also over an
obstruction of the same medium tick; a request reopens a closing door and is a new open command after the commit point; a bus voltage too high for 10
ms is recorded; a line test ends with its result.
Model's choices that clauses of it rest on: log entries 3, 82 and 83. -/
def Obligations.DoorLink : Prop :=
  ∀ (s : State) (k : Fin 24), s.Room →
    (s.doorUp k.val = true →
      (∀ (line : BitVec 64) (offBits : Int), frameOf line = none →
        ∃ t, exec (.uplinkFrame k line offBits) s = .next t ∧ t.nat (Oid.DL_BAD k.val) = min (s.nat (Oid.DL_BAD k.val) + 1) 4294967295
          ∧ (t.door k.val).good = 0 ∧ ((s.door k.val).bad = 3 → t.bit (Oid.DL_STATUS k.val) 1 = false)
          ∧ (∀ x : Key, x.oid ≠ (Oid.DL_BAD k.val).oid → x.oid ≠ (Oid.DL_STATUS k.val).oid → t.get x = s.get x) ∧ t.rcd = s.rcd
          ∧ t.blobs = s.blobs) ∧
      (∀ (line : BitVec 64) (f : Nat), frameOf line = some f → (s.door k.val).mode ≠ 0 → (s.door k.val).mode ≠ 3 → s.bit (Oid.DL_STATUS k.val) 1 = true →
        ((s.door k.val).seq = none
          ∨ ∃ b, (s.door k.val).seq = some b ∧ 1 ≤ (field f 63 56 + 256 - b) % 256 ∧ (field f 63 56 + 256 - b) % 256 ≤ 127) →
        ∃ t, exec (.uplinkFrame k line 0) s = .next t ∧ (t.door k.val).seq = some (field f 63 56) ∧ (t.door k.val).bad = 0
          ∧ (∀ ph : Nat, ph < 3 → t.get (Oid.DOOR_I_PH k.val ph)
              = clampInt (-32768) 32767 (divRound (signed 12 (field f (55 - 12 * ph) (44 - 12 * ph)) * (s.iFs k.val : Int)) 2048))
          ∧ (∀ dl : Int, dl = signed 4 (field f 19 16 + 16 - (s.door k.val).pos4) → dl ≠ 0 →
              (t.door k.val).raw = (s.door k.val).raw + dl
                ∧ t.get (Oid.DOOR_POS k.val) = satI32 ((s.door k.val).raw + dl - (s.door k.val).zero))
          ∧ (f.testBit 15 = false → t.doorState k.val = s.doorState k.val)
          ∧ (f.testBit 15 = true → s.bit (Oid.DL_STATUS k.val) 8 = false →
              t.bit (Oid.DL_STATUS k.val) 8 = true ∧ (∃ b, t.Recorded 0x0A0A k.val b 0 0)
              ∧ (s.doorState k.val ≠ 3 → s.doorState k.val ≠ 0 → t.doorState k.val = 10)
              ∧ (s.doorState k.val = 3 → t.doorState k.val = 3 ∧ (t.door k.val).cmd = some (1, 0)))) ∧
      (∀ forUs : Nat,
        ∃ t, exec (.uplinkGap k forUs) s = .next t ∧ t.nat (Oid.DL_BAD k.val) = min (s.nat (Oid.DL_BAD k.val) + forUs / 2) 4294967295
          ∧ (14 < forUs → t.bit (Oid.DL_STATUS k.val) 11 = false)
          ∧ (50000 < forUs → s.doorState k.val ≠ 0 → s.doorState k.val ≠ 1 →
              t.doorState k.val = 1 ∧ (t.door k.val).hs = 1 ∧ t.bit (Oid.DL_STATUS k.val) 0 = false ∧ t.bit (Oid.DL_STATUS k.val) 1 = false)
          ∧ (forUs ≤ 50000 → t.doors = s.doors ∧ t.doorState k.val = s.doorState k.val))) ∧
    (s.doorUp k.val = true → s.doorState k.val = 1 →
      ((s.door k.val).hs = 1 ∨ (s.door k.val).hs = 2 →
        ∃ t, exec (.dlHandshakeStep k (.prbs true)) s = .next t ∧ (t.door k.val).hs = 4 ∧ t.objs = s.objs ∧ t.rcd = s.rcd) ∧
      ((s.door k.val).hs = 4 ∨ (s.door k.val).hs = 5 → s.bit (Oid.DL_STATUS k.val) 1 = true →
        (∀ i : Nat, i < 8 → 2 ≤ Tbl.get 0 (s.door k.val).alike i) → s.identWord k.val 0 / 65536 = 1 → (s.identWord k.val 7).testBit 8 = true →
        ∃ t, exec (.dlHandshakeStep k (.lock true)) s = .next t ∧ (t.door k.val).hs = 6
          ∧ t.blob (Oid.STAGE_IDENT k.val) = (List.range 8).flatMap (fun i => leBytes 4 (s.identWord k.val i))) ∧
      (∀ d : Nat, (s.door k.val).hs = 6 → d ≤ 5 * s.nat (Oid.DOOR_CABLE_M k.val) + 100 →
        ∃ t, exec (.dlHandshakeStep k (.delay d)) s = .next t ∧ (t.door k.val).hs = 7 ∧ t.nat (Oid.DL_DELAY_NS k.val) = d) ∧
      (∀ eq : Nat, (s.door k.val).hs = 7 →
        ∃ t, exec (.dlHandshakeStep k (.align true eq)) s = .next t ∧ (t.door k.val).hs = 8 ∧ t.nat (Oid.DL_EQ k.val) = eq) ∧
      (∀ late : BitVec 16, (s.door k.val).hs = 7 →
        ∃ t, exec (.dlHandshakeStep k (.shift late)) s = .next t ∧ (t.door k.val).hs = 7
          ∧ (t.door k.val).cmd = some (2, unsigned 16 (-(signed 16 late.toNat))) ∧ t.objs = s.objs) ∧
      ((s.door k.val).hs = 8 → s.currentOk k.val = true → s.nat (Oid.DOOR_VBUS_MV k.val) * 11 ≤ s.identWord k.val 2 * 10 →
        ∃ t, exec (.dlHandshakeStep k .finish) s = .next t ∧ t.bit (Oid.DL_STATUS k.val) 0 = true ∧ t.bit (Oid.DL_STATUS k.val) 6 = false
          ∧ t.doorState k.val = (if s.bit (Oid.CAR_INPUTS (k.val / 2)) 4 = true
              ∧ (s.get (Oid.DOOR_POS k.val)).natAbs ≤ s.nat (Oid.DOOR_CLOSED_WIN k.val) then 3 else 2)
          ∧ t.Recorded 0x0A01 k.val (s.nat (Oid.DL_DELAY_NS k.val)) (s.nat (Oid.DL_EQ k.val)) (s.identWord k.val 1)) ∧
      (∀ (ev : HsEvent) (cause : Nat),
        ((ev = .prbs false ∧ cause = 0 ∧ ((s.door k.val).hs = 1 ∨ (s.door k.val).hs = 2))
          ∨ (ev = .lock false ∧ cause = 1 ∧ ((s.door k.val).hs = 4 ∨ (s.door k.val).hs = 5))
          ∨ (∃ d, ev = .delay d ∧ cause = 3 ∧ (s.door k.val).hs = 6 ∧ 5 * s.nat (Oid.DOOR_CABLE_M k.val) + 100 < d)
          ∨ (∃ eq, ev = .align false eq ∧ cause = 6 ∧ (s.door k.val).hs = 7)
          ∨ (ev = .finish ∧ cause = 4 ∧ (s.door k.val).hs = 8 ∧ s.currentOk k.val = false)
          ∨ (ev = .finish ∧ cause = 5 ∧ (s.door k.val).hs = 8 ∧ s.currentOk k.val = true
              ∧ s.identWord k.val 2 * 10 < s.nat (Oid.DOOR_VBUS_MV k.val) * 11)) →
        ∃ t, exec (.dlHandshakeStep k ev) s = .next t ∧ t.bit (Oid.DL_STATUS k.val) 6 = true ∧ (t.door k.val).hs = 0
          ∧ (t.door k.val).failAt = s.clk ∧ t.doorState k.val = 1 ∧ t.Recorded 0x0A02 k.val cause 0 0) ∧
      ((s.door k.val).hs = 0 → s.bit (Oid.DL_STATUS k.val) 6 = true →
        ∃ t, exec (.dlHandshakeRetry k) s = .next t ∧ (t.door k.val).hs = 1 ∧ t.doorState k.val = 1
          ∧ (s.door k.val).failAt + 1000000000 ≤ t.clk)) ∧
    ((s.doorState k.val = 2 ∨ s.doorState k.val = 6 ∨ s.doorState k.val = 7
        ∨ (s.doorState k.val = 8 ∧ (s.door k.val).obsTick = some (s.time / 100000))) → s.bit (Oid.CAR_INPUTS (k.val / 2)) 4 = true →
      (s.get (Oid.DOOR_POS k.val)).natAbs ≤ s.nat (Oid.DOOR_CLOSED_WIN k.val) →
      ∃ t, exec (.lockConfirmed k) s = .next t ∧ t.doorState k.val = 3 ∧ t.get (Oid.DOOR_POS k.val) = 0 ∧ (t.door k.val).zero = (s.door k.val).raw
        ∧ t.bit (Oid.DL_STATUS k.val) 11 = true ∧ t.get (Oid.DOOR_I_DEM k.val) = 0) ∧
    ((s.bit (Oid.CAR_INPUTS (k.val / 2)) 4 = false ∨ s.nat (Oid.DOOR_CLOSED_WIN k.val) < (s.get (Oid.DOOR_POS k.val)).natAbs
        ∨ (s.doorState k.val ≠ 2 ∧ s.doorState k.val ≠ 6 ∧ s.doorState k.val ≠ 7
          ∧ (s.doorState k.val ≠ 8 ∨ (s.door k.val).obsTick ≠ some (s.time / 100000)))) →
      exec (.lockConfirmed k) s = .next { s with out := [] }) ∧
    (∀ src : ReopenSrc, s.serving = true → s.drives = true →
      ((s.doorState k.val = 6 ∨ s.doorState k.val = 7) →
        ∃ u : State, exec (.doorReopenRequest k src) s = .next u.drain ∧ u.doorState k.val = 8
          ∧ (s.carState (k.val / 2) = 9 → u.carState (k.val / 2) = 7)) ∧
      (s.doorState k.val = 3 →
        ∃ u : State, exec (.doorReopenRequest k src) s = .next u.drain ∧ u.Recorded 0x0A08 k.val (par (s.get (Oid.DOOR_POS k.val))) 0 0) ∧
      (s.doorState k.val ≠ 3 → s.doorState k.val ≠ 6 → s.doorState k.val ≠ 7 → s.emits = [] →
        exec (.doorReopenRequest k src) s = .next { s with out := [] })) ∧
    (∀ forMs : Nat, s.doorUp k.val = true → s.bit (Oid.DL_STATUS k.val) 2 = false →
      (s.nat (Oid.DOOR_VBUS_MV k.val) * 11 < s.nat (Oid.DL_VBUS_MV k.val) * 10 → 10 ≤ forMs →
        ∃ t, exec (.dlVbusHigh k forMs) s = .next t ∧ t.bit (Oid.DL_STATUS k.val) 2 = true ∧ t.doors = s.doors
          ∧ t.Recorded 0x0A0D k.val (s.nat (Oid.DL_VBUS_MV k.val)) 0 0) ∧
      ((s.nat (Oid.DL_VBUS_MV k.val) * 10 ≤ s.nat (Oid.DOOR_VBUS_MV k.val) * 11 ∨ forMs < 10) →
        exec (.dlVbusHigh k forMs) s = .next { s with out := [] })) ∧
    (∀ r : LineTest,
      (s.bit (Oid.DL_STATUS k.val) 9 = true →
        ∃ t, exec (.dlLinetestEnd k r) s = .next t ∧ t.bit (Oid.DL_STATUS k.val) 9 = false ∧ t.Recorded 0x0A0B k.val r.sent r.good r.dNs
          ∧ t.blob (Oid.DL_LT_RESULT k.val) = leBytes 4 r.sent ++ leBytes 4 r.good ++ leBytes 4 r.dNs ++ leBytes 2 r.eq ++ [0, 0]
          ∧ (∀ x ∈ t.testsOn, testNum x ≠ 4 + k.val)) ∧
      (s.bit (Oid.DL_STATUS k.val) 9 = false → exec (.dlLinetestEnd k r) s = .next { s with out := [] }))

/-- Host writes of a door channel (R353, R364, R365, R369, R372, R374): DL_RETRAIN restarts the handshake of a LOCKED or faulted door; DOOR_ENABLE
admits a channel whose slots and overshoot fit, records one that does not, and gives the overshoot, and releases one whose car is out of service;
DL_LT_REQ asks for a line test of this module's port or of the twin's; DL_ACK clears the faults whose cause is absent.
Model's choices that clauses of it rest on: log entry 31. -/
def Obligations.DoorHostWrites : Prop :=
  ∀ (s : State) (ses : Fin 64) (req : BitVec 32) (k : Fin 24), s.Ready ses.val → s.Room →
    ((s.doorState k.val = 3 ∨ s.doorState k.val = 10) →
      ∃ t, exec (.dlRetrain ses req k 1) s = .next t ∧ t.Answers ses.val req 0 ∧ t.doorState k.val = 1 ∧ (t.door k.val).hs = 1
        ∧ t.bit (Oid.DL_STATUS k.val) 0 = false ∧ t.bit (Oid.DL_STATUS k.val) 1 = false) ∧
    (s.doorState k.val ≠ 3 → s.doorState k.val ≠ 10 →
      ∃ t, exec (.dlRetrain ses req k 1) s = .next t ∧ t.Answers ses.val req 9 ∧ t.objs = s.objs ∧ t.doors = s.doors) ∧
    (∀ v : Byte, v ≠ 1 →
      (∃ t, exec (.dlRetrain ses req k v) s = .next t ∧ t.Answers ses.val req 4 ∧ t.objs = s.objs ∧ t.doors = s.doors) ∧
      (∃ t, exec (.dlAck ses req k v) s = .next t ∧ t.Answers ses.val req 4 ∧ t.objs = s.objs ∧ t.doors = s.doors)) ∧
    (s.flag (Oid.DOOR_ENABLE k.val) = false → (s.atRequest ses.val).admits (fun _ => false) (doorItems k.val) = none →
      (s.doorOvs k.val ≤ s.nat (Oid.DOOR_OVS_LIMIT k.val) →
        ∃ u : State, exec (.doorEnable ses req k 1) s = .next u.drain ∧ u.Answers ses.val req 0 ∧ u.flag (Oid.DOOR_ENABLE k.val) = true
          ∧ u.doorState k.val = 1 ∧ (u.door k.val).hs = 1 ∧ u.nat (Oid.DL_OVS_MA k.val) = s.doorOvs k.val
          ∧ u.nat (Oid.DL_LAT_NS k.val) = 10 * s.nat (Oid.DOOR_CABLE_M k.val) + 3150) ∧
      (s.nat (Oid.DOOR_OVS_LIMIT k.val) < s.doorOvs k.val →
        ∃ t, exec (.doorEnable ses req k 1) s = .next t ∧ t.Answers ses.val req 4 ∧ t.flag (Oid.DOOR_ENABLE k.val) = false
          ∧ t.nat (Oid.DL_OVS_MA k.val) = s.doorOvs k.val ∧ t.doors = s.doors
          ∧ t.Recorded 0x0A09 k.val (s.doorOvs k.val) (s.nat (Oid.DOOR_OVS_LIMIT k.val)) 0)) ∧
    (∀ r : Refuse, s.flag (Oid.DOOR_ENABLE k.val) = false → (s.atRequest ses.val).admits (fun _ => false) (doorItems k.val) = some r →
      ∃ t, exec (.doorEnable ses req k 1) s = .next t ∧ Out.resp ses.val 0x11 req r.st.code r.payload ∈ t.out
        ∧ t.flag (Oid.DOOR_ENABLE k.val) = false ∧ t.nat (Oid.DL_OVS_MA k.val) = s.doorOvs k.val ∧ t.doors = s.doors
        ∧ t.Recorded 0x0A09 k.val (s.doorOvs k.val) (s.nat (Oid.DOOR_OVS_LIMIT k.val)) 0) ∧
    (s.flag (Oid.DOOR_ENABLE k.val) = true →
      ((s.doorState k.val = 1 ∨ s.doorState k.val = 3 ∨ s.doorState k.val = 10) → s.nat (Oid.CAR_STATE (k.val / 2)) = 0 →
        ∃ u : State, exec (.doorEnable ses req k 0) s = .next u.drain ∧ u.Answers ses.val req 0 ∧ u.flag (Oid.DOOR_ENABLE k.val) = false
          ∧ u.doorState k.val = 0 ∧ u.nat (Oid.DL_STATUS k.val) = 0) ∧
      (((s.doorState k.val ≠ 1 ∧ s.doorState k.val ≠ 3 ∧ s.doorState k.val ≠ 10) ∨ s.nat (Oid.CAR_STATE (k.val / 2)) ≠ 0) →
        ∃ t, exec (.doorEnable ses req k 0) s = .next t ∧ t.Answers ses.val req 9 ∧ t.objs = s.objs ∧ t.doors = s.doors)) ∧
    ((s.lineTestOk k.val = true →
        (∃ t, exec (.dlLtReqOwn ses req k) s = .next t ∧ t.Answers ses.val req 0 ∧ t.testQueue = s.testQueue ++ [(.lineTest k, 0)]
          ∧ t.objs = s.objs) ∧
        (s.drives = true →
          ∃ t, exec (.dlLtReqTwin ses req k) s = .next t ∧ t.Answers ses.val req 0 ∧ t.testQueue = s.testQueue ∧ t.objs = s.objs
            ∧ BatchItem.testRequest (.lineTest k) ∈ t.tw.openBatch)) ∧
      (∀ i : Instr, s.lineTestOk k.val = false → i = .dlLtReqOwn ses req k ∨ i = .dlLtReqTwin ses req k →
        ∃ t, exec i s = .next t ∧ t.Answers ses.val req 9 ∧ t.objs = s.objs ∧ t.testQueue = s.testQueue)) ∧
    ((s.door k.val).flt = false → (s.door k.val).off = 0 → s.doorState k.val = 10 →
      ∃ t, exec (.dlAck ses req k 1) s = .next t ∧ t.Answers ses.val req 0 ∧ t.doorState k.val = 1 ∧ t.bit (Oid.DL_STATUS k.val) 7 = false
        ∧ t.bit (Oid.DL_STATUS k.val) 8 = false ∧ (t.door k.val).hs = 1) ∧
    ((s.door k.val).flt = true → s.bit (Oid.DL_STATUS k.val) 8 = true →
      ∃ t, exec (.dlAck ses req k 1) s = .next t ∧ t.Answers ses.val req 0 ∧ t.doorState k.val = s.doorState k.val
        ∧ t.bit (Oid.DL_STATUS k.val) 8 = true ∧ (t.door k.val).cmd = some (1, 0))

/-! ### Control engine (chapter 11) -/

/-- The ticks of the engine and its host writes (R343, R350, R360, R382 to R399, R404, R408): a fast tick runs the phase laws and sends each channel's
frame; a medium or slow tick gives an enabled loop its setpoint, feedback, error and output by its law; a missed deadline is counted, leaves the next
tick of a fast or medium loop without effect, and trips a loop that misses too many; LOOP_CMD waits for the loop's tick, which closes, opens or clears
it and answers, or is refused where it does not apply; LOOP_ENABLE admits and releases a loop; writing 1 to a flag clears it; GRP_MEMBERS defines or
removes a group.
Model's choices that clauses of it rest on: log entries 4, 74 and 150. -/
def Obligations.Engine : Prop :=
  ∀ s : State, s.Room →
    (∀ k : Fin 24, s.up .ce = true → s.doorUp k.val = true → s.acc.slow = [] → s.acc.later = [] → s.emits = [] →
      (∀ j : Nat, (s.loopRt 0 j).autoDue = false ∧ (s.loopRt 0 j).stalled = false) →
      ∃ t, exec .ceFastTick s = .next t ∧ t.blobs = s.blobs ∧ t.rcd = s.rcd ∧ t.mode = s.mode
        ∧ (t.door k.val).sw = (if (s.door k.val).mode = 2 then s.phases k.val else [0, 0, 0])
        ∧ (∀ ph : Nat, ph < 3 → s.loopOn 0 (3 * k.val + ph) = true →
            t.get (Oid.OUT (3 * k.val + ph) 0) = ((t.door k.val).sw.getD ph 0 * 65536 : Nat))
        ∧ ((s.door k.val).mode ≠ 2 → (s.door k.val).hs ≠ 1 → (s.door k.val).hs ≠ 2 → ((s.door k.val).mode ≠ 0 ∨ (s.door k.val).hs ≠ 0) →
            Out.door k.val (lineOf (s.downlink k.val (fastSeq s.time))) ∈ t.out)) ∧
    (∀ (i : Instr) (c : Nat) (j : Fin 65536) (p : Nat) (ty : Ty) (x : Int),
      ((i = .ceMediumTick ∧ c = 1 ∧ 84 ≤ j.val ∧ s.loops = [(loopKey 1 j.val, s.loopRt 1 j.val)] ∧ s.grps = []
            ∧ (∀ k : Nat, s.doorUp k = false) ∧ (∀ n : Nat, s.carUsed n = false))
          ∨ (i = .ceSlowTick j ∧ c = 2 ∧ s.loopOn 2 j.val = true ∧ s.nat (Oid.LOOP_GROUP j.val 2) = 0)) →
      s.up .ce = true → s.acc.slow = [] → s.loopMode c j.val = 1 → s.nat (Oid.SP_SOURCE j.val c) = 0 → s.get (Oid.SP_RATE j.val c) = 0 →
      (s.loopRt c j.val).stalled = false → p < 262144 → s.nat (Oid.FB_SOURCE j.val c) = 2147483648 + 256 * p → s.takeNum (2147483648 + 256 * p) = some (ty, x) →
      ∃ u : State, exec i s = .next u.drain.resume.drain ∧ u.get (Oid.SP_EFF j.val c) = s.get (Oid.LOOP_SP j.val c) ∧ u.get (Oid.FB j.val c) = (toFix ty x).1
        ∧ u.get (Oid.ERR j.val c) = fixSat (if s.nat (Oid.ACTION j.val c) = 0 then s.get (Oid.LOOP_SP j.val c) - (toFix ty x).1
            else (toFix ty x).1 - s.get (Oid.LOOP_SP j.val c))
        ∧ (s.nat (Oid.LOOP_LAW j.val c) ≠ 1 → u.loopMode c j.val = 1 →
            u.get (Oid.OUT j.val c) = (lawH3 (u.get (Oid.ERR j.val c)) (s.get (Oid.BAND j.val c)) (s.get (Oid.RATE_UP j.val c))
              (s.get (Oid.RATE_DN j.val c)) (s.get (Oid.OUT_MIN j.val c)) (s.get (Oid.OUT_MAX j.val c)) (s.loopRt c j.val).acc).1)
        ∧ (s.nat (Oid.LOOP_LAW j.val c) = 1 → u.loopMode c j.val = 1 →
            u.get (Oid.OUT j.val c) = (lawH2 (u.get (Oid.ERR j.val c)) (s.get (Oid.BAND j.val c)) (s.get (Oid.OUT_MIN j.val c))
              (s.get (Oid.OUT_MAX j.val c)) (s.nat (Oid.MIN_ON j.val c)) (s.nat (Oid.MIN_OFF j.val c)) (s.loopRt c j.val).high
              (s.loopRt c j.val).dwell).2.2)) ∧
    (∀ (cls : LoopClass) (j : Fin 65536),
      (s.up .ce = true → s.loopOn (classCode cls) j.val = true →
        ∃ t, exec (.ceDeadline cls j) s = .next t
          ∧ t.nat (Oid.MISS_COUNT j.val (classCode cls)) = min (s.nat (Oid.MISS_COUNT j.val (classCode cls)) + 1) 4294967295
          ∧ t.nat Oid.CE_MISSES = min (s.nat Oid.CE_MISSES + 1) 4294967295 ∧ t.bit (Oid.LOOP_FLAGS j.val (classCode cls)) 3 = true
          ∧ t.Recorded 0x0B02 j.val (loopRef (classCode cls) j.val) ((s.loopRt (classCode cls) j.val).misses + 1) 0
          ∧ (classCode cls < 2 → (t.loopRt (classCode cls) j.val).stalled = true)
          ∧ (classCode cls ≠ 2 ∨ s.nat (Oid.LOOP_GROUP j.val (classCode cls)) = 0 → s.loopMode (classCode cls) j.val = 1 →
              s.nat (Oid.MISS_TRIP j.val (classCode cls)) ≤ (s.loopRt (classCode cls) j.val).misses + 1 →
              t.loopMode (classCode cls) j.val = 2 ∧ t.nat (Oid.TRIP_CAUSE j.val (classCode cls)) = 4
                ∧ t.nat Oid.CE_TRIPS = min (s.nat Oid.CE_TRIPS + 1) 4294967295
                ∧ t.get (Oid.OUT j.val (classCode cls)) = (if classCode cls = 0 then 0 else s.get (Oid.TRIP_OUT j.val (classCode cls)))
                ∧ t.Recorded 0x0B01 j.val (loopRef (classCode cls) j.val) 4 (par (s.get (Oid.ERR j.val (classCode cls)))))
          ∧ (classCode cls ≠ 2 ∨ s.nat (Oid.LOOP_GROUP j.val (classCode cls)) = 0 → (s.loopMode (classCode cls) j.val ≠ 1
                ∨ (s.loopRt (classCode cls) j.val).misses + 1 < s.nat (Oid.MISS_TRIP j.val (classCode cls))) →
              t.loopMode (classCode cls) j.val = s.loopMode (classCode cls) j.val ∧ t.nat Oid.CE_TRIPS = s.nat Oid.CE_TRIPS)) ∧
      ((s.up .ce = false ∨ s.loopOn (classCode cls) j.val = false) → exec (.ceDeadline cls j) s = .next { s with out := [] })) ∧
    (∀ (ses : Fin 64) (req : BitVec 32) (cls : LoopClass) (j : Fin 65536), s.Ready ses.val →
      (classCode cls = 0 → j.val < 96) → (classCode cls = 1 → j.val < 1024) →
      (∀ (i : Instr) (v : Nat), (i = .loopClose ses req cls j ∧ v = 1) ∨ (i = .loopOpen ses req cls j ∧ v = 2) ∨ (i = .loopClearTrip ses req cls j ∧ v = 3) →
        (s.loopCmdCheck (classCode cls) j.val v = none →
          ∃ t, exec i s = .next t ∧ t.objs = s.objs ∧ t.loops = s.loops ∧ (∀ st p, Out.resp ses.val 0x11 req st p ∉ t.out)
            ∧ (∃ r, t.acc.slow = [r] ∧ r.ses = ses.val ∧ r.req = req
                ∧ r.entries = [{ oid := (Oid.LOOP_CMD j.val (classCode cls)).oid, data := [BitVec.ofNat 8 v] }])
            ∧ (classCode cls = 2 → s.up .ce = true → s.loopOn 2 j.val = true → s.nat (Oid.LOOP_GROUP j.val 2) = 0 →
                (s.loopRt 2 j.val).tripNow = 0 → (s.loopRt 2 j.val).autoDue = false → (s.loopRt 2 j.val).stalled = false →
                ∃ u : State, exec (.ceSlowTick j) t = .next u.drain.resume.drain ∧ u.Answers ses.val req 0 ∧ u.acc.slow = []
                  ∧ u.loopMode 2 j.val = (if v = 1 then 1 else 0)
                  ∧ u.get (Oid.MANUAL j.val 2) = (if v = 2 then (s.loopRt 2 j.val).law else s.get (Oid.MANUAL j.val 2)))) ∧
        ((v = 1 ∧ s.loopMode (classCode cls) j.val ≠ 0) ∨ (v = 2 ∧ s.loopMode (classCode cls) j.val ≠ 1)
            ∨ (v = 3 ∧ s.loopMode (classCode cls) j.val ≠ 2) →
          ∃ t, exec i s = .next t ∧ t.Answers ses.val req 9 ∧ t.objs = s.objs ∧ t.acc.slow = [])) ∧
      (liftSlot (classCode cls) j.val = true →
        ∀ v : Byte, v.toNat ≤ 1 →
          ∃ t, exec (.loopEnable ses req cls j v) s = .next t ∧ t.Answers ses.val req 2 ∧ t.objs = s.objs ∧ t.loops = s.loops) ∧
      (liftSlot (classCode cls) j.val = false →
        (s.loopMode (classCode cls) j.val ≠ 0 →
          ∀ v : Byte, v.toNat ≤ 1 →
            ∃ t, exec (.loopEnable ses req cls j v) s = .next t ∧ t.Answers ses.val req 5 ∧ t.objs = s.objs ∧ t.loops = s.loops) ∧
        (s.loopMode (classCode cls) j.val = 0 → s.loopOn (classCode cls) j.val = false →
          ((s.nat (Oid.LOOP_LAW j.val (classCode cls)) = 1 ∨ s.nat (Oid.LOOP_LAW j.val (classCode cls)) = 2) →
            s.nat (Oid.FB_SOURCE j.val (classCode cls)) ≠ 0 →
            ((s.atRequest ses.val).admits (fun _ => false) [loopItem (classCode cls) j.val] = none →
              ∃ t, exec (.loopEnable ses req cls j 1) s = .next t ∧ t.Answers ses.val req 0 ∧ t.flag (Oid.LOOP_ENABLE j.val (classCode cls)) = true
                ∧ t.loopOn (classCode cls) j.val = true
                ∧ t.get (Oid.OUT j.val (classCode cls)) = s.get (Oid.MANUAL j.val (classCode cls))) ∧
            ((s.atRequest ses.val).admits (fun _ => false) [loopItem (classCode cls) j.val] ≠ none →
              ∃ t, exec (.loopEnable ses req cls j 1) s = .next t ∧ (∃ st p, st ≠ 0 ∧ Out.resp ses.val 0x11 req st p ∈ t.out)
                ∧ t.loops = s.loops)) ∧
          (((s.nat (Oid.LOOP_LAW j.val (classCode cls)) ≠ 1 ∧ s.nat (Oid.LOOP_LAW j.val (classCode cls)) ≠ 2)
              ∨ s.nat (Oid.FB_SOURCE j.val (classCode cls)) = 0) →
            ∃ t, exec (.loopEnable ses req cls j 1) s = .next t ∧ t.Answers ses.val req 4 ∧ t.objs = s.objs ∧ t.loops = s.loops)) ∧
        (∀ v : Byte, s.loopMode (classCode cls) j.val = 0 → v = (if s.loopOn (classCode cls) j.val then 1 else 0) →
          (v = 1 → (s.nat (Oid.LOOP_LAW j.val (classCode cls)) = 1 ∨ s.nat (Oid.LOOP_LAW j.val (classCode cls)) = 2)
            ∧ s.nat (Oid.FB_SOURCE j.val (classCode cls)) ≠ 0) →
          ∃ t, exec (.loopEnable ses req cls j v) s = .next t ∧ t.Answers ses.val req 0 ∧ t.loops = s.loops) ∧
        (s.loopMode (classCode cls) j.val = 0 → s.loopOn (classCode cls) j.val = true →
          ∃ u : State, exec (.loopEnable ses req cls j 0) s = .next u.drain ∧ u.Answers ses.val req 0
            ∧ u.flag (Oid.LOOP_ENABLE j.val (classCode cls)) = false ∧ u.loopOn (classCode cls) j.val = false)) ∧
      (∀ v : Byte,
        ∃ t, exec (.loopFlags ses req cls j v) s = .next t ∧ t.Answers ses.val req 0 ∧ t.loops = s.loops ∧ t.rcd = s.rcd
          ∧ t.nat (Oid.LOOP_FLAGS j.val (classCode cls))
              = s.nat (Oid.LOOP_FLAGS j.val (classCode cls)) &&& (15 ^^^ (v.toNat &&& 15))
          ∧ (∀ k : Key, k.oid ≠ (Oid.LOOP_FLAGS j.val (classCode cls)).oid → t.get k = s.get k))) ∧
    (∀ (ses : Fin 64) (req : BitVec 32) (g : Fin 16384) (b : List Byte), s.Ready ses.val →
      (1 ≤ g.val → g.val ≤ 24 →
        b.length ≤ 32 → ∃ t, exec (.grpMembers ses req g b) s = .next t ∧ t.Answers ses.val req 2 ∧ t.objs = s.objs ∧ t.blobs = s.blobs) ∧
      (25 ≤ g.val → b.length % 4 = 0 → b.length ≤ 32 → (∀ m ∈ s.members g.val, s.loopMode m.1 m.2 = 0) →
        (∀ m ∈ membersOf 8 b, s.loopMode m.1 m.2 = 0 ∧ (s.nat (Oid.LOOP_GROUP m.2 m.1) = 0 ∨ s.nat (Oid.LOOP_GROUP m.2 m.1) = g.val)) →
        (s.groupOk (membersOf 8 b) = true → b ≠ [] →
          ∃ t, exec (.grpMembers ses req g b) s = .next t ∧ t.Answers ses.val req 0 ∧ t.blob (Oid.CGRP_MEMBERS g.val) = b
            ∧ (∀ m ∈ membersOf 8 b, t.nat (Oid.LOOP_GROUP m.2 m.1) = g.val) ∧ t.nat (Oid.CGRP_WINNER g.val) = 0
            ∧ t.Recorded 0x0B04 g.val g.val (membersOf 8 b).length 0) ∧
        (b = [] → s.members g.val ≠ [] →
          ∃ u : State, exec (.grpMembers ses req g b) s = .next u.drain ∧ u.Answers ses.val req 0 ∧ u.blob (Oid.CGRP_MEMBERS g.val) = []
            ∧ (∀ e ∈ u.grps, e.1 ≠ g.val)) ∧
        (s.groupOk (membersOf 8 b) = false →
          ∃ t, exec (.grpMembers ses req g b) s = .next t ∧ t.Answers ses.val req 3 ∧ t.objs = s.objs ∧ t.blobs = s.blobs)) ∧
      (25 ≤ g.val → b.length ≤ 32 → (∃ m ∈ s.members g.val, s.loopMode m.1 m.2 ≠ 0) →
        ∃ t, exec (.grpMembers ses req g b) s = .next t ∧ t.Answers ses.val req 5 ∧ t.objs = s.objs ∧ t.blobs = s.blobs))

/-! ### Dispatch and car supervision (chapter 12) -/

/-- One car (R418, R421, R423, R425 to R427, R429, R430, R446, R447): CAR_CMD takes a car out of service, parks it or has it serve, or is refused
where it cannot return; CAR_FAULT_ACK clears the bits without a cause; the drive command carries the profile; a start or a reference trip that takes
too long is a fault that stops the car; CAR_DWELL and CAR_NUDGE_TIME close the doors; a car that leaves its level relevels; cars return one at a time.
Model's choices that clauses of it rest on: log entries 3, 92, 94, 95, 97 and 151. -/
def Obligations.Cars : Prop :=
  ∀ (s : State) (n : Fin 12), s.Room →
    (∀ (ses : Fin 64) (req : BitVec 32), s.Ready ses.val →
      ((s.resting n.val = true
          ∨ ((s.carState n.val = 11 ∨ s.carState n.val = 14) ∧ s.moving n.val = false ∧ (s.car n.val).run = false)) → s.allLocked n.val = true →
        ∃ u : State, exec (.carCmdOutOfService ses req n) s = .next u.drain ∧ u.Answers ses.val req 0 ∧ u.nat (Oid.CAR_CMD n.val) = 0
          ∧ u.carState n.val = 0 ∧ u.Recorded 0x0C03 n.val 0 (s.carState n.val) 0 ∧ (u.car n.val).queue = []) ∧
      ((s.resting n.val = false ∧ ((s.carState n.val ≠ 11 ∧ s.carState n.val ≠ 14) ∨ s.moving n.val = true ∨ (s.car n.val).run = true))
          ∨ s.allLocked n.val = false →
        ∃ t, exec (.carCmdOutOfService ses req n) s = .next t ∧ t.Answers ses.val req 0 ∧ t.nat (Oid.CAR_CMD n.val) = 0
          ∧ t.carState n.val = s.carState n.val ∧ (t.car n.val).outDue = true ∧ t.rcd = s.rcd) ∧
      (∀ (i : Instr) (v : Nat), (i = .carCmdPark ses req n ∧ v = 1) ∨ (i = .carCmdServe ses req n ∧ v = 2) →
        (s.carState n.val = 0 →
          ((s.atRequest ses.val).returnCheck n.val = none →
            ∃ t, exec i s = .next t ∧ t.Answers ses.val req 0 ∧ t.nat (Oid.CAR_CMD n.val) = v ∧ t.carState n.val = 1
              ∧ t.Recorded 0x0C04 n.val 1 0 0) ∧
          (∀ r, (s.atRequest ses.val).returnCheck n.val = some r →
            ∃ t, exec i s = .next t ∧ Out.resp ses.val 0x11 req r.st.code r.payload ∈ t.out ∧ t.objs = s.objs ∧ t.dsp = s.dsp)) ∧
        (s.carState n.val ≠ 0 →
          ∃ t, exec i s = .next t ∧ t.Answers ses.val req 0 ∧ t.nat (Oid.CAR_CMD n.val) = v ∧ (t.car n.val).outDue = false
            ∧ t.carState n.val = (if v = 1 ∧ s.carState n.val = 2 ∧ (s.car n.val).queue = [] then 1
                else if v = 2 ∧ s.carState n.val = 1 ∧ s.mode = .active ∧ s.carOper n.val = 0 then 2 else s.carState n.val))) ∧
      (∃ t, exec (.carFaultAck ses req n 1) s = .next t ∧ t.Answers ses.val req 0 ∧ t.blobs = s.blobs ∧ t.rcd = s.rcd
        ∧ (∀ b : Nat, b < 15 → t.bit (Oid.CAR_FAULT n.val) b = (s.bit (Oid.CAR_FAULT n.val) b && s.carCause n.val b))
        ∧ (∀ k : Key, k.oid ≠ (Oid.CAR_FAULT n.val).oid → t.get k = s.get k)) ∧
      (∀ v : Byte, v ≠ 1 → ∃ t, exec (.carFaultAck ses req n v) s = .next t ∧ t.Answers ses.val req 4 ∧ t.objs = s.objs)) ∧
    (s.up .app = true → s.up .ce = true → s.carUsed n.val = true → s.drives = true →
      ∃ u : State, exec (.carProfile n) s = .next u.drain ∧ u.flag (Oid.CAR_STOP n.val) = (s.car n.val).quick ∧ u.emits = s.emits
        ∧ u.nat (Oid.CAR_DRV_CTRL n.val)
            = boolNat ((s.car n.val).run && (s.car n.val).decGen.isNone && s.runPermitted n.val) + 2 * boolNat ((s.car n.val).dir == 2)
              + 4 * boolNat (s.car n.val).quick + 8 * boolNat (s.car n.val).low + 16 * boolNat (s.car n.val).faultReset
        ∧ ((s.car n.val).quick = true → u.get (Oid.CAR_PROF_SPEED n.val) = 0)
        ∧ ((s.car n.val).quick = false → (s.car n.val).run = true →
            u.get (Oid.CAR_PROF_SPEED n.val) = fixSat (divRound ((if (s.car n.val).dir = 2 then -(s.profSpeed n.val : Int) else s.profSpeed n.val) * 65536) 100000))
        ∧ u.get (Oid.CAR_DRV_TARGET n.val) = (if (s.car n.val).run then s.targetPos n.val else s.get (Oid.CAR_DRV_TARGET n.val))
        ∧ (u.car n.val).faultReset = false) ∧
    (s.serving = true → s.drives = true →
      (s.carState n.val = 3 → s.bit (Oid.CAR_FAULT n.val) 4 = false →
        ∃ u : State, exec (.carStartTimeout n) s = .next u.drain ∧ u.bit (Oid.CAR_FAULT n.val) 4 = true ∧ u.carState n.val = 0
          ∧ (u.car n.val).run = false ∧ (u.car n.val).quick = true
          ∧ (s.car n.val).since + 1000000 * s.nat (Oid.CAR_START_TIME n.val) ≤ u.clk ∧ u.Recorded 0x0C01 n.val 4 3 (par (s.carPos n.val))) ∧
      (s.carState n.val ≠ 3 → s.emits = [] → exec (.carStartTimeout n) s = .next { s with out := [] }) ∧
      ((s.car n.val).ref ≠ 0 → s.onTrip n.val = true → s.bit (Oid.CAR_FAULT n.val) 14 = false →
        ∃ u : State, exec (.refTripTimeout n) s = .next u.drain ∧ u.bit (Oid.CAR_FAULT n.val) 14 = true ∧ u.carState n.val = 0
          ∧ (u.car n.val).ref = 0 ∧ (s.car n.val).refAt + 1000000000 * s.nat (Oid.CAR_REF_TIME n.val) ≤ u.clk
          ∧ u.Recorded 0x0C0B n.val 1 (par (s.carPos n.val)) 0) ∧
      ((s.car n.val).ref = 0 ∨ s.onTrip n.val = false → s.emits = [] → exec (.refTripTimeout n) s = .next { s with out := [] }) ∧
      (s.carState n.val = 8 → s.carOper n.val ≠ 3 → s.carOper n.val ≠ 4 →
        (∃ t, exec (.carDwellExpiry n) s = .next t ∧ t.carState n.val = 9
          ∧ (s.car n.val).dwellAt + 1000000 * (s.nat (Oid.CAR_DWELL n.val) * (if (s.car n.val).slow then 2 else 1)) ≤ t.clk
          ∧ (∀ k ∈ s.stopDoors n.val, s.doorState k = 5 → t.doorState k = (if s.bit (Oid.DL_STATUS k) 11 then 6 else 7))) ∧
        (∃ t, exec (.carNudgeExpiry n) s = .next t ∧ t.carState n.val = 9
          ∧ (s.car n.val).openAt + 1000000000 * s.nat (Oid.CAR_NUDGE_TIME n.val) ≤ t.clk
          ∧ (∀ k ∈ s.stopDoors n.val, (s.doorState k = 5 ∨ s.doorState k = 6) → t.doorState k = 7))) ∧
      ((s.carState n.val ≠ 8 ∨ s.carOper n.val = 3 ∨ s.carOper n.val = 4) →
        exec (.carDwellExpiry n) s = .next { s with out := [] } ∧ exec (.carNudgeExpiry n) s = .next { s with out := [] }) ∧
      (∀ forMs : Nat, s.carState n.val = 8 →
        (s.nat (Oid.CAR_RELEVEL_WIN n.val) < (s.carPos n.val - s.restPos n.val).natAbs → 100 ≤ forMs →
          ∃ t, exec (.relevelTrigger n forMs) s = .next t ∧ t.carState n.val = 10 ∧ (t.car n.val).window = some s.clk
            ∧ (t.car n.val).run = false ∧ (∀ k : Key, k.oid ≠ (Oid.CAR_STATE n.val).oid → t.get k = s.get k) ∧ t.rcd = s.rcd) ∧
        (((s.carPos n.val - s.restPos n.val).natAbs ≤ s.nat (Oid.CAR_RELEVEL_WIN n.val) ∨ forMs < 100) →
          exec (.relevelTrigger n forMs) s = .next { s with out := [] })) ∧
      ((∀ m : Nat, m < 12 → (s.car m).returnAt = none ∨ s.carState m = 1 ∨ s.carState m = 2) → (∀ m : Nat, m < n.val → (s.car m).returnDue = false) →
        (s.car n.val).returnDue = true → s.carState n.val = 0 → s.nat (Oid.CAR_CMD n.val) ≠ 0 →
        (s.returnCheck n.val = none →
          ∃ t, exec .carReturnStep s = .next t ∧ t.carState n.val = 1 ∧ (t.car n.val).returnDue = false ∧ (t.car n.val).returnAt = some s.clk
            ∧ t.Recorded 0x0C04 n.val 1 0 0) ∧
        (s.returnCheck n.val ≠ none →
          ∃ t, exec .carReturnStep s = .next t ∧ (t.car n.val).returnDue = false ∧ t.objs = s.objs ∧ t.rcd = s.rcd)) ∧
      ((∃ (m : Nat) (t0 : Nat), m < 12 ∧ (s.car m).returnAt = some t0 ∧ s.passed t0 30000000000 = false ∧ s.carState m ≠ 1 ∧ s.carState m ≠ 2) →
        exec .carReturnStep s = .next { s with out := [] }))

/-- Calls, open requests and emergency power (R417, R421, R431 to R436, R443, R444, R448): a call point going true registers its call, lights its lamp
and places it in the queue of its car or of the car it is assigned to; a destination call is answered with a record; an open request cancels a start
that has not reached its commit point; under emergency power a waiting car starts when the budget admits it, else its wait is recorded once, and
afterwards the cars return one at a time.
Model's choices that clauses of it rest on: log entries 91, 94 and 96. -/
def Obligations.Calls : Prop :=
  ∀ s : State, s.Room → s.serving = true →
    (∀ (p : Fin 262144) (v : Bool),
      ((v = false ∨ s.mode ≠ .active) → s.emits = [] → exec (.callPointChange p v) s = .next { s with out := [] }) ∧
      (∀ (g l : Nat) (down : Bool), v = true → s.mode = .active → g < 4 → s.nat (Oid.GRP_HC_BASE g) ≤ p.val →
        l = (p.val - s.nat (Oid.GRP_HC_BASE g)) / 2 → down = ((p.val - s.nat (Oid.GRP_HC_BASE g)) % 2 == 1) → l < 256 → s.takesHall g l = true →
        (∀ h ∈ s.dsp.halls, h.group ≠ g ∨ h.landing ≠ l ∨ h.down ≠ down) →
        (∀ g', g' < 4 → g' ≠ g → p.val < s.nat (Oid.GRP_HC_BASE g') ∨ s.nat (Oid.GRP_HC_BASE g') + 512 ≤ p.val) →
        (∀ n, n < 12 → p.val < s.nat (Oid.CAR_CC_BASE n) ∨ s.nat (Oid.CAR_CC_BASE n) + 256 ≤ p.val) →
        ((∀ n, n < 12 → s.eligible g n [l] = false) →
          ∃ u : State, exec (.callPointChange p v) s = .next u.drain ∧ u.dsp.halls = s.dsp.halls ++ [⟨g, l, down, 0xFF⟩]
            ∧ u.dsp.cars = s.dsp.cars
            ∧ (s.healthyStandby = false → s.nat (Oid.GRP_HL_BASE g) + (2 * l + boolNat down) < 262144 →
                ∃ e ∈ u.emits, e.oid = 2147483648 + 256 * (s.nat (Oid.GRP_HL_BASE g) + (2 * l + boolNat down)) ∧ e.prio = 9 ∧ e.value = [1]
                  ∧ e.relinq = false)) ∧
        (∀ m : Nat, m < 12 → s.eligible g m [l] = true → (∀ n, n < 12 → n ≠ m → s.eligible g n [l] = false) →
          (s.carState m ≠ 3 ∨ s.nat (Oid.CAR_LANDING m) ≠ l) →
          ∃ u : State, exec (.callPointChange p v) s = .next u.drain ∧ u.dsp.halls = s.dsp.halls ++ [⟨g, l, down, m⟩]
            ∧ (∃ e ∈ (u.car m).queue, e.landing = l ∧ e.kinds.testBit (if down then 2 else 1) = true)
            ∧ u.blob (Oid.CAR_QUEUE m) = queueBytes (u.car m).queue)) ∧
      (∀ n l : Nat, v = true → s.mode = .active → n < 12 → s.nat (Oid.CAR_CC_BASE n) ≤ p.val → l = p.val - s.nat (Oid.CAR_CC_BASE n) → l < 256 →
        (∀ g, g < 4 → p.val < s.nat (Oid.GRP_HC_BASE g) ∨ s.nat (Oid.GRP_HC_BASE g) + 512 ≤ p.val) →
        (∀ m, m < 12 → m ≠ n → p.val < s.nat (Oid.CAR_CC_BASE m) ∨ s.nat (Oid.CAR_CC_BASE m) + 256 ≤ p.val) →
        s.serves n l = true → s.carOper n = 0 → s.carState n ≠ 0 → (s.car n).queue.length < 64 → s.carFull n = false →
        (s.carState n ≠ 3 ∨ s.nat (Oid.CAR_LANDING n) ≠ l) →
        (∀ e ∈ (s.car n).queue, e.landing ≠ l ∨ e.kinds.testBit 0 = false) →
        ∃ u : State, exec (.callPointChange p v) s = .next u.drain ∧ u.dsp.halls = s.dsp.halls
          ∧ (∃ e ∈ (u.car n).queue, e.landing = l ∧ e.kinds.testBit 0 = true)
          ∧ (s.healthyStandby = false → s.nat (Oid.CAR_CL_BASE n) + l < 262144 →
              ∃ e ∈ u.emits, e.oid = 2147483648 + 256 * (s.nat (Oid.CAR_CL_BASE n) + l) ∧ e.prio = 9 ∧ e.value = [1] ∧ e.relinq = false))) ∧
    (∀ (g : Fin 4) (rec : BitVec 64) (chan : Nat),
      (s.mode = .active → s.takesDt g.val (field rec.toNat 31 24) = true → field rec.toNat 7 0 ≠ 0 →
        (∀ x ∈ s.dsp.calls, x.group ≠ g.val ∨ x.terminal ≠ field rec.toNat 7 0 ∨ x.seq ≠ field rec.toNat 15 8
          ∨ s.passed x.atNs 10000000000 = true) →
        (∀ n, n < 12 → s.carState n = 3 →
          s.nat (Oid.CAR_LANDING n) ≠ field rec.toNat 31 24 ∧ s.nat (Oid.CAR_LANDING n) ≠ field rec.toNat 39 32) →
        ∃ (u : State) (c : DtCall), exec (.destinationCall g rec chan) s = .next u.drain ∧ u.dsp.calls = s.dsp.calls ++ [c]
          ∧ c.group = g.val ∧ c.terminal = field rec.toNat 7 0 ∧ c.seq = field rec.toNat 15 8 ∧ c.source = field rec.toNat 31 24
          ∧ c.dest = field rec.toNat 39 32 ∧ c.chan = chan ∧ c.atNs = s.clk ∧ c.flags = field rec.toNat 47 40 % 4
          ∧ (c.source = c.dest → c.status = 4 ∧ c.car = 0xFF)
          ∧ (c.source ≠ c.dest → c.car = 0xFF → c.status = 1 ∧ ∀ n, n < 12 → s.eligible g.val n [c.source, c.dest] = false)
          ∧ (c.source ≠ c.dest → c.car ≠ 0xFF → c.status = 0 ∧ c.car < 12 ∧ s.eligible g.val c.car [c.source, c.dest] = true
              ∧ (u.car c.car).queue = (s.withDt c.car { c with car := 0xFF, status := 0, gone := false }).getD (s.car c.car).queue)
          ∧ (c.status ≠ 0 → u.Recorded 0x0C06 (0x100 + g.val) c.terminal c.status 0)
          ∧ (s.healthyStandby = false →
              let door := boolNat (if c.car < 12 then s.dtSide c.car c.source (c.flags.testBit 1) == 2 else c.flags.testBit 1)
              u.dsp.outs = s.dsp.outs ++ [{ chan := chan, bytes := assignment c c.status door, callAt := some s.clk }])
          ∧ (s.healthyStandby = true → u.dsp.outs = s.dsp.outs)) ∧
      ((s.mode ≠ .active ∨ s.takesDt g.val (field rec.toNat 31 24) = false ∨ field rec.toNat 7 0 = 0) → s.emits = [] →
        exec (.destinationCall g rec chan) s = .next { s with out := [] })) ∧
    (∀ n : Fin 12, s.mode = .service → s.emits = [] → exec (.carOpenRequest n) s = .next { s with out := [] }) ∧
    (∀ n : Fin 12, s.mode = .active →
      (s.carState n.val = 3 → s.committed n.val = false →
        ∃ u : State, exec (.carOpenRequest n) s = .next u.drain ∧ u.carState n.val = 7 ∧ (u.car n.val).run = false
          ∧ ((∀ e ∈ (s.car n.val).queue, e.landing ≠ s.nat (Oid.CAR_LANDING n.val)) →
              (u.car n.val).side = s.landDoors n.val (s.nat (Oid.CAR_LANDING n.val)))) ∧
      (s.carState n.val = 3 → s.committed n.val = true →
        ∃ u : State, exec (.carOpenRequest n) s = .next u.drain ∧ u.carState n.val = 3
          ∧ u.Recorded 0x0C0A n.val (s.nat (Oid.CAR_LANDING n.val)) 0 0) ∧
      ((s.carState n.val = 1 ∨ s.carState n.val = 2) → s.levelAt n.val (s.nat (Oid.CAR_LANDING n.val)) = true → s.carOper n.val = 0 →
        ∃ u : State, exec (.carOpenRequest n) s = .next u.drain ∧ u.carState n.val = 7) ∧
      (s.carState n.val = 9 → ∃ u : State, exec (.carOpenRequest n) s = .next u.drain ∧ u.carState n.val = 7) ∧
      (s.carState n.val ≠ 1 → s.carState n.val ≠ 2 → s.carState n.val ≠ 3 → s.carState n.val ≠ 9 → s.emits = [] →
        exec (.carOpenRequest n) s = .next { s with out := [] })) ∧
    (s.drives = true → s.flag Oid.EP_ACTIVE = true →
      (s.epCandidates = [] →
        ∃ u : State, exec .epStartCheck s = .next u.drain ∧ u.nat Oid.EP_MEASURED = min s.measured 0xFFFFFFFF
          ∧ u.nat Oid.EP_PREDICTED = min (s.predicted 0).toNat 0xFFFFFFFF ∧ u.rcd = s.rcd) ∧
      (∀ n l d : Nat, n < 12 → s.epCandidates = [n] → s.waitTarget n = some (l, d) → (s.resting n = true ∨ s.carState n = 9) → s.permit n = true →
        s.allLocked n = true →
        ((s.epAdmits n (s.levelPos n l (d != 2))).1 = true →
          ∃ u : State, exec .epStartCheck s = .next u.drain ∧ u.carState n = 3 ∧ u.nat (Oid.CAR_TARGET n) = l ∧ (u.car n).run = true
            ∧ (u.car n).waiting = false ∧ u.Recorded 0x0C09 n n (s.epAdmits n (s.levelPos n l (d != 2))).2 0) ∧
        ((s.epAdmits n (s.levelPos n l (d != 2))).1 = false →
          ∃ u : State, exec .epStartCheck s = .next u.drain ∧ u.carState n = s.carState n ∧ (u.car n).waiting = true ∧ (u.car n).waitRec = true
            ∧ ((s.car n).waitRec = true → u.rcd = s.rcd)
            ∧ ((s.car n).waitRec = false →
                u.Recorded 0x0C08 n n (s.epAdmits n (s.levelPos n l (d != 2))).2 (s.nat Oid.EP_BUDGET))))) ∧
    (s.flag Oid.EP_ACTIVE = false → s.emits = [] → exec .epStartCheck s = .next { s with out := [] }) ∧
    (s.drives = true →
      (∀ n : Nat, n < 12 → s.flag Oid.EP_ACTIVE = false → s.carState n = 13 → s.carOper n = 5 →
        (∀ m, m < n → s.carOper m ≠ 5 ∨ s.carState m = 0) →
        ∃ t, exec .epReturn s = .next t ∧ t.carState n = 2 ∧ t.carOper n = 0 ∧ t.Recorded 0x0C02 n 5 0 0
          ∧ s.dsp.epOffAt + 1000000000 * s.nat Oid.EP_RETURN_TIME ≤ t.clk ∧ (∀ m, m < 12 → m ≠ n → t.carState m = s.carState m)
          ∧ (∀ m, m < 12 → (t.car m).epService = false)) ∧
      (s.flag Oid.EP_ACTIVE = true → exec .epReturn s = .next { s with out := [] }))

/-! ### Metering front end (chapter 13) -/

/-- Windows, clocks, islands and calibration (R23, R456, R458 to R461, R464, R468, R469, R472 to R478): a window's end publishes the quantities of a
VALID channel and chooses its segment, clears those of a channel that is not VALID and spoils its trip, puts the configuration into effect and loses
the PLL outside 45 Hz to 66 Hz; a bitstream clock that is absent, off or stuck faults its channels; an island's check replaces the first failing
channel ADC by the shadow; a calibration is queued or refused, aborted before its commit, goes on step by step and ends with its commit or a held
shadow, or waits for the answer of its abort; a channel that disagrees with the shadow, or the interval, queues one.
Model's choices that clauses of it rest on: log entries 3, 85, 87, 89, 128 and 148. -/
def Obligations.Metering : Prop :=
  ∀ s : State, s.Room →
    (∀ w : WindowIn, s.up .met = true →
      ∃ t, exec (.meterWindowEnd w) s = .next t
        ∧ (∀ c : Nat, c < 64 → (t.metCh c).eff
            = [s.get (Oid.CH_SENSOR c), s.get (Oid.CH_VREF c), s.get (Oid.CH_SCALE c), s.get (Oid.CH_IN c), s.get (Oid.CH_BS_DELAY c)])
        ∧ (∀ i : Nat, i < 4 → (s.island i).aborted = true → t.nat (Oid.MI_SHADOW i) = 0xFF ∧ (t.island i).aborted = false)
        ∧ ((w.milliHz < 45000 ∨ 66000 < w.milliHz) → t.nat Oid.MET_PLL_STATE = 0 ∧ t.nat Oid.MET_PLL_CH = 0xFF ∧ t.nat Oid.MET_FREQ = 0)
        ∧ (∀ c : Nat, (Tbl.get {} t.met.chains c).win = {})
        ∧ (∀ (c : Nat) (r : Trip), c < 64 → t.chValid c = false → t.met.trips.find (s.nat (Oid.CH_CAR c)) = some r → r.good = false)
        ∧ (∀ (x : CurWin) (before after : List CurWin), (s.windowOf w).cur = before ++ x :: after → (∀ y ∈ before ++ after, y.ch ≠ x.ch) →
            t.get (Oid.CH_SEG_GAIN x.ch.val) = (segment (corrPoints 8 (s.blob (Oid.CH_CORR x.ch.val))) x.rawMa).1
            ∧ t.get (Oid.CH_SEG_PHASE x.ch.val) = (segment (corrPoints 8 (s.blob (Oid.CH_CORR x.ch.val))) x.rawMa).2
            ∧ (t.chValid x.ch.val = false → t.nat (Oid.CH_IRMS x.ch.val) = 0 ∧ t.nat (Oid.CH_P x.ch.val) = 0 ∧ t.nat (Oid.CH_S x.ch.val) = 0)
            ∧ (s.chValid x.ch.val = true → t.chValid x.ch.val = true → (∀ y ∈ (s.windowOf w).vol, y.clip = false) →
                t.nat (Oid.CH_IRMS x.ch.val) = x.irms.toNat ∧ t.nat (Oid.CH_I1 x.ch.val) = x.i1.toNat ∧ t.nat (Oid.CH_P x.ch.val) = x.p.toNat
                  ∧ t.nat (Oid.CH_P1 x.ch.val) = x.p1.toNat ∧ t.nat (Oid.CH_Q1 x.ch.val) = x.q1.toNat ∧ t.nat (Oid.CH_S x.ch.val) = x.s.toNat
                  ∧ t.nat (Oid.CH_THD x.ch.val) = x.thd.toNat))
        ∧ (∀ (y : VolWin) (before after : List VolWin), (s.windowOf w).vol = before ++ y :: after → (∀ z ∈ before ++ after, z.ch ≠ y.ch) → y.clip = false →
            t.bit (Oid.VCH_STATUS y.ch.val) 3 = realLt y.rms.toNat volts40
            ∧ (s.vValid y.ch.val = true → t.nat (Oid.VCH_RMS y.ch.val) = y.rms.toNat ∧ t.nat (Oid.VCH_V1 y.ch.val) = y.v1.toNat
                ∧ t.nat (Oid.VCH_THD y.ch.val) = y.thd.toNat)
            ∧ ((s.metV y.ch.val).adcBad = true → t.nat (Oid.VCH_RMS y.ch.val) = 0))) ∧
    (∀ w : WindowIn, s.up .met = false →
      ∃ t, exec (.meterWindowEnd w) s = .next t ∧ t.objs = s.objs ∧ t.blobs = s.blobs ∧ t.rcd = s.rcd ∧ t.met.ch = s.met.ch) ∧
    (∀ w : WindowIn, s.met.chains = [] → s.windowOf w = w) ∧
    (∀ (k : Fin 4) (mHz : Nat) (absent stuck : Bool), s.up .met = true →
      ∃ t, exec (.bsgCheck k mHz absent stuck) s = .next t ∧ t.nat (Oid.BSG_FREQ k.val) = (if absent then 0 else mHz)
        ∧ t.nat (Oid.BSG_STATE k.val) = (if absent then 0 else if 4095180800 ≤ mHz ∧ mHz ≤ 4096819200 then 2 else 1)
        ∧ (∀ j : Nat, j < 4 →
            t.bit (Oid.CH_STATUS (48 + 4 * k.val + j)) 4 = !(!absent && decide (4095180800 ≤ mHz ∧ mHz ≤ 4096819200) && !stuck)
            ∧ (s.bit (Oid.CH_STATUS (48 + 4 * k.val + j)) 4 = false →
                (absent = true → t.Recorded 0x0D06 (48 + 4 * k.val + j) 0 mHz 0)
                ∧ (absent = false → (mHz < 4095180800 ∨ 4096819200 < mHz) → t.Recorded 0x0D06 (48 + 4 * k.val + j) 1 mHz 0)
                ∧ (absent = false → 4095180800 ≤ mHz → mHz ≤ 4096819200 → stuck = true → t.Recorded 0x0D06 (48 + 4 * k.val + j) 2 mHz 0)))) ∧
    (∀ (i : Fin 4) (r : List AdcCheck), s.runs (.island i.val) = true → s.bit Oid.MI_ON i.val = true → s.nat (Oid.MI_STATE i.val) = 1 → r.length = 17 →
      ∃ t, exec (.islandCheck i r) s = .next t ∧ t.nat (Oid.MI_STATE i.val) = 2
        ∧ (∀ j : Nat, j < 4 → (t.metV (4 * i.val + j)).adcBad = !adcOk (r.getD j ⟨0, 0, 0⟩)
            ∧ (adcOk (r.getD j ⟨0, 0, 0⟩) = false →
                t.Recorded 0x0D04 (0x100 + (4 * i.val + j)) 0 (par (r.getD j ⟨0, 0, 0⟩).gain) (par (r.getD j ⟨0, 0, 0⟩).phase)))
        ∧ (∀ k : Nat, k < 12 →
            (adcOk (r.getD (4 + k) ⟨0, 0, 0⟩) = true → (t.metCh (12 * i.val + k)).adcBad = false)
            ∧ (adcOk (r.getD (4 + k) ⟨0, 0, 0⟩) = false →
                t.Recorded 0x0D04 (12 * i.val + k) 0 (par (r.getD (4 + k) ⟨0, 0, 0⟩).gain) (par (r.getD (4 + k) ⟨0, 0, 0⟩).phase)
                ∧ (adcOk (r.getD 16 ⟨0, 0, 0⟩) = false → (t.metCh (12 * i.val + k)).adcBad = true)
                ∧ (adcOk (r.getD 16 ⟨0, 0, 0⟩) = true → s.heldBy i.val = none → (∀ m : Nat, m < k → adcOk (r.getD (4 + m) ⟨0, 0, 0⟩) = true) →
                    t.nat (Oid.MI_SHADOW i.val) = 0x80 + k ∧ t.bit (Oid.CH_STATUS (12 * i.val + k)) 10 = true
                      ∧ (t.metCh (12 * i.val + k)).adcBad = false)))) ∧
    (∀ (i : Fin 4) (r : List AdcCheck), (s.nat (Oid.MI_STATE i.val) ≠ 1 ∨ s.bit Oid.MI_ON i.val = false ∨ r.length ≠ 17) →
      exec (.islandCheck i r) s = .next { s with out := [] }) ∧
    (∀ (ses : Fin 64) (req : BitVec 32) (i : Fin 4) (v : Byte), s.Ready ses.val →
      (v.toNat < 12 → v.toNat ∉ s.calQueue i.val → (s.island i.val).cal ≠ some v.toNat →
        (s.nat (Oid.MI_STATE i.val) ≠ 3 → (s.heldBy i.val = none ∨ s.heldBy i.val = some v.toNat) →
          ∃ t, exec (.miCalReq ses req i v) s = .next t ∧ t.Answers ses.val req 0 ∧ t.calQueue i.val = s.calQueue i.val ++ [v.toNat]
            ∧ t.bit (Oid.CH_STATUS (12 * i.val + v.toNat)) 8 = true ∧ t.rcd = s.rcd) ∧
        ((s.nat (Oid.MI_STATE i.val) = 3 ∨ (∃ k, s.heldBy i.val = some k ∧ k ≠ v.toNat)) →
          ∃ t, exec (.miCalReq ses req i v) s = .next t ∧ t.Answers ses.val req 9 ∧ t.objs = s.objs ∧ t.blobs = s.blobs) ∧
        ((s.island i.val).last = some v.toNat →
          ∃ t, exec (.miCalAbort ses req i v) s = .next t ∧ t.Answers ses.val req 10 ∧ t.objs = s.objs ∧ t.blobs = s.blobs) ∧
        ((s.island i.val).last ≠ some v.toNat →
          ∃ t, exec (.miCalAbort ses req i v) s = .next t ∧ t.Answers ses.val req 1 ∧ t.objs = s.objs ∧ t.blobs = s.blobs)) ∧
      (v.toNat < 12 → (v.toNat ∈ s.calQueue i.val ∨ (s.island i.val).cal = some v.toNat) →
        ∃ t, exec (.miCalReq ses req i v) s = .next t ∧ t.Answers ses.val req 9 ∧ t.objs = s.objs ∧ t.blobs = s.blobs) ∧
      (12 ≤ v.toNat → ∃ t, exec (.miCalReq ses req i v) s = .next t ∧ t.Answers ses.val req 4 ∧ t.objs = s.objs ∧ t.blobs = s.blobs) ∧
      (v.toNat < 12 → v.toNat ∈ s.calQueue i.val →
        ∃ t, exec (.miCalAbort ses req i v) s = .next t ∧ t.Answers ses.val req 0 ∧ t.calQueue i.val = (s.calQueue i.val).filter (· != v.toNat)
          ∧ (t.island i.val).cal = (s.island i.val).cal
          ∧ ((s.calQueue i.val).head? = some v.toNat → (t.island i.val).due = false)) ∧
      (v.toNat < 12 → v.toNat ∉ s.calQueue i.val → (s.island i.val).cal = some v.toNat →
        ∃ t, exec (.miCalAbort ses req i v) s = .next t ∧ t.Answers ses.val req 0 ∧ (t.island i.val).cal = none ∧ t.nat (Oid.MI_CAL_RESULT i.val) = 3
          ∧ t.bit (Oid.CH_STATUS (12 * i.val + v.toNat)) 9 = false
          ∧ t.get (Oid.CH_ADC_GAIN (12 * i.val + v.toNat)) = s.get (Oid.CH_ADC_GAIN (12 * i.val + v.toNat))
          ∧ t.Recorded 0x0D02 (12 * i.val + v.toNat) (s.island i.val).step 0 0)) ∧
    (∀ (i : Fin 4) (m : CalMeas) (k : Nat), s.islandOk i.val = true → k < 12 →
      ((s.island i.val).cal = none → (s.calQueue i.val).head? = some k → (s.island i.val).due = true → (s.island i.val).aborted = false →
        ∃ t, exec (.calStep i m) s = .next t ∧ (t.island i.val).cal = some k ∧ (t.island i.val).step = (if s.heldBy i.val = some k then 3 else 1)
          ∧ t.calQueue i.val = (s.calQueue i.val).filter (· != k) ∧ t.rcd = s.rcd) ∧
      ((s.island i.val).cal = some k →
        ((s.island i.val).step = 1 →
          ∃ t, exec (.calStep i m) s = .next t ∧ (t.island i.val).step = 3 ∧ t.bit (Oid.CH_STATUS (12 * i.val + k)) 9 = true
            ∧ (s.island i.val).endAt - 1000000000 ≤ t.clk ∧ t.rcd = s.rcd) ∧
        ((s.island i.val).step = 3 →
          ∃ t, exec (.calStep i m) s = .next t ∧ (t.island i.val).step = 4 ∧ (s.island i.val).endAt - 800000000 ≤ t.clk ∧ t.objs = s.objs) ∧
        ((s.island i.val).step = 4 →
          ∃ t, exec (.calStep i m) s = .next t ∧ (t.island i.val).step = 5 ∧ (t.island i.val).gain = m.gain ∧ (t.island i.val).phase = m.phase
            ∧ (s.island i.val).endAt - 200000000 ≤ t.clk ∧ t.objs = s.objs) ∧
        ((s.island i.val).step = 5 → s.calAbortWaits i.val k = true → exec (.calStep i m) s = .next { s with out := [] }) ∧
        ((s.island i.val).step = 5 → s.calAbortWaits i.val k = false → mag m.dg ≤ 100 → mag m.dp ≤ 100 →
          ∃ t, exec (.calStep i m) s = .next t ∧ (t.island i.val).cal = none ∧ t.get (Oid.CH_ADC_GAIN (12 * i.val + k)) = (s.island i.val).gain
            ∧ t.get (Oid.CH_ADC_PHASE (12 * i.val + k)) = (s.island i.val).phase ∧ t.nat (Oid.MI_SHADOW i.val) = 0xFF
            ∧ t.nat (Oid.MI_CAL_RESULT i.val) = 1 ∧ t.nat (Oid.CH_CAL_TIME (12 * i.val + k)) = t.time ∧ (s.island i.val).endAt ≤ t.clk
            ∧ (∃ a b, t.Recorded 0x0D01 (12 * i.val + k) a b 0)) ∧
        ((s.island i.val).step = 5 → s.calAbortWaits i.val k = false → (100 < mag m.dg ∨ 100 < mag m.dp) →
          ∃ t, exec (.calStep i m) s = .next t ∧ (t.island i.val).cal = none ∧ t.nat (Oid.MI_SHADOW i.val) = 0x80 + k
            ∧ t.get (Oid.CH_ADC_GAIN (12 * i.val + k)) = s.get (Oid.CH_ADC_GAIN (12 * i.val + k)) ∧ t.nat (Oid.MI_CAL_RESULT i.val) = 2
            ∧ t.Recorded 0x0D03 (12 * i.val + k) (par m.dg) (par m.dp) 0))) ∧
    (∀ (i : Fin 4) (k : Fin 12) (dg dp : Int), s.flag Oid.MET_CHECK_ENABLE = true → s.islandOk i.val = true → s.nat (Oid.MI_SHADOW i.val) = 0xFF →
      (s.island i.val).cal = none → s.calQueue i.val = [] → (s.metCh (12 * i.val + k.val)).sensor ≠ 0 →
      (mag dg ≤ 500 → mag dp ≤ 500 → exec (.rotationCheck i k dg dp) s = .next { s with out := [] }) ∧
      ((500 < mag dg ∨ 500 < mag dp) →
        ∃ t, exec (.rotationCheck i k dg dp) s = .next t ∧ t.bit (Oid.CH_STATUS (12 * i.val + k.val)) 2 = true ∧ t.calQueue i.val = [k.val]
          ∧ t.Recorded 0x0D04 (12 * i.val + k.val) 1 (par dg) (par dp))) ∧
    (∀ i : Fin 4, s.islandOk i.val = true →
      (s.nat Oid.MET_CAL_INTERVAL ≠ 0 → s.heldBy i.val = none →
        ∃ t, exec (.calInterval i) s = .next t ∧ (s.island i.val).calAt + 3600000000000 * s.nat Oid.MET_CAL_INTERVAL ≤ t.clk
          ∧ (t.island i.val).calAt = t.clk ∧ t.rcd = s.rcd
          ∧ (∀ k : Nat, k < 12 → s.get (Oid.CH_SENSOR (12 * i.val + k)) ≠ 0 → (s.island i.val).cal ≠ some k → k ∈ t.calQueue i.val)
          ∧ (∀ k : Nat, k ∈ s.calQueue i.val → k ∈ t.calQueue i.val)) ∧
      (s.nat Oid.MET_CAL_INTERVAL = 0 → exec (.calInterval i) s = .next { s with out := [] }))

/-! ### Energy registers, pulses, intervals and saves (chapter 14) -/

/-- Energy (R23, R101, R454, R485 to R501, R503, R511): a sample, formed already or formed from the bitstreams, adds its energy to the register of its
direction and to the residues that follow it, exactly, and nothing below the creep limit or while its channel's source is not OK, when it spoils the
trip of its car; a clear and a change of a pulse output take effect at the sample; a pulse rises when due, is owed while it cannot, and falls at its
width's end; a save takes the next slot set; an interval closes at its boundary and when its length is written; the host's requests take effect or are
refused.
Model's choices that clauses of it rest on: log entries 4, 85, 86, 128 and 148. -/
def Obligations.Energy : Prop :=
  ∀ s : State, s.Room →
    (∀ (c : Fin 64) (d : SampleIn), s.up .met = true → s.met.stopped = none → s.samplesOn c.val = true →
      ((s.metCh c.val).clear = none → (s.metCh c.val).sensor ≠ 0 → s.sourceOk c.val = true → (s.metCh c.val).adcBad = false → d.clip = false →
        (s.nat (Oid.CH_CREEP c.val) * (s.metCh c.val).inMa ≤ d.iRms * 1000 → s.vValid (s.metCh c.val).vref = true → energyOf (mag d.pMean) ≠ 0 →
          ∀ r q : Nat, r = (if d.pMean < 0 then 1 else 0) → q = 1 - r →
            ∃ t, exec (.energySample c (.formed d)) s = .next t ∧ t.bit (Oid.CH_STATUS c.val) 7 = false
              ∧ t.nat (Oid.REG c.val r) = (s.nat (Oid.REG c.val r) * 4294967296 + Tbl.get 0 (s.metCh c.val).frac r + energyOf (mag d.pMean))
                  / 4294967296 % 18446744073709551616
              ∧ Tbl.get 0 (t.metCh c.val).frac r
                  = (s.nat (Oid.REG c.val r) * 4294967296 + Tbl.get 0 (s.metCh c.val).frac r + energyOf (mag d.pMean)) % 4294967296
              ∧ t.nat (Oid.REG c.val q) = s.nat (Oid.REG c.val q)
              ∧ (∀ x : Nat, x < 16 → (s.pulse x).dirty = false → (s.pulse x).src = c.val * 256 + r → (s.pulse x).const ≠ 0 →
                  ∀ whole n : Nat, whole = s.nat (Oid.PO_RESIDUE x) * 4294967296 + (s.pulse x).frac + energyOf (mag d.pMean) →
                    n = whole / ((s.pulse x).const * 4294967296) →
                    t.nat (Oid.PO_RESIDUE x) = (whole - n * ((s.pulse x).const * 4294967296)) / 4294967296
                      ∧ (t.pulse x).due.length = (s.pulse x).due.length + n)) ∧
        (d.iRms * 1000 < s.nat (Oid.CH_CREEP c.val) * (s.metCh c.val).inMa →
          ∃ t, exec (.energySample c (.formed d)) s = .next t ∧ t.bit (Oid.CH_STATUS c.val) 7 = true
            ∧ (∀ r : Nat, r < 10 → t.nat (Oid.REG c.val r) = s.nat (Oid.REG c.val r)))) ∧
      (∀ ses : Nat, (s.metCh c.val).clear = some ses → (s.metCh c.val).sensor = 0 →
        ∃ t, exec (.energySample c (.formed d)) s = .next t ∧ (∀ r : Nat, r < 12 → t.nat (Oid.REG c.val r) = 0) ∧ (t.metCh c.val).frac = []
          ∧ (t.metCh c.val).clear = none ∧ t.Recorded 0x0D12 c.val c.val ses 0
          ∧ (∀ x : Nat, x < 20 → (s.pulse x).src / 256 = c.val → (s.pulse x).src ≠ 0xFFFF → t.nat (Oid.PO_RESIDUE x) = 0)) ∧
      ((s.metCh c.val).clear = none → ((s.metCh c.val).sensor = 0 ∨ s.sourceOk c.val = false ∨ (s.metCh c.val).adcBad = true) →
        ∃ t, exec (.energySample c (.formed d)) s = .next t ∧ (∀ r : Nat, r < 12 → t.nat (Oid.REG c.val r) = s.nat (Oid.REG c.val r))
          ∧ (∀ r : Trip, s.met.trips.find (s.nat (Oid.CH_CAR c.val)) = some r →
              t.met.trips.find (s.nat (Oid.CH_CAR c.val)) = some { r with good := false })) ∧
      (∀ x : Fin 20, (s.metCh c.val).clear = none → (s.metCh c.val).sensor = 0 → (s.pulse x.val).dirty = true →
        ∃ t, exec (.energySample c (.formed d)) s = .next t ∧ t.nat (Oid.PO_RESIDUE x.val) = 0 ∧ t.nat (Oid.PO_OWED x.val) = 0
          ∧ (t.pulse x.val).src = s.nat (Oid.PO_SRC x.val) ∧ (t.pulse x.val).const = s.nat (Oid.PO_CONST x.val) ∧ (t.pulse x.val).dirty = false
          ∧ t.Recorded 0x0D14 (0x300 + x.val) x.val (s.nat (Oid.PO_RESIDUE x.val)) (s.nat (Oid.PO_RESIDUE x.val) / 4294967296))) ∧
    (∀ (c : Fin 64) (x : StreamIn), s.up .met = true → s.met.stopped = none → s.samplesOn c.val = true →
      exec (.energySample c (.stream x)) s = exec (.energySample c (.formed (s.formSample c.val x).2)) (s.sampleOf c.val (.stream x)).1) ∧
    (∀ (c : Fin 64) (x : SampleSrc), (s.up .met = false ∨ s.met.stopped.isSome = true ∨ s.samplesOn c.val = false) →
      exec (.energySample c x) s = .next { s with out := [] }) ∧
    (∀ (x : Fin 20) (i : Instr) (t0 w : Nat) (rest : List (Nat × Nat)), (i = .pulseEmit x ∧ x.val < 16) ∨ (i = .pulseEmitFp x ∧ 16 ≤ x.val) →
      s.up .met = true → (s.pulse x.val).due = (t0, w) :: rest →
      (s.gate = true → s.pulseOn x.val = false →
        (16 ≤ x.val ∨ (((s.pulse x.val).fell = 0 ∨ (s.pulse x.val).fell + w ≤ (s.reach (s.clk + (t0 - s.time))).time)
          ∧ s.nat (Oid.PO_OWED x.val) = 0)) →
        ∃ t, exec i s = .next t ∧ t.pulseOn x.val = true ∧ (t.pulse x.val).due = rest ∧ (t.pulse x.val).offAt = t.time + w
          ∧ s.clk + (t0 - s.time) ≤ t.clk
          ∧ t.nat (Oid.PO_COUNT x.val) = (s.nat (Oid.PO_COUNT x.val) + 1) % 4294967296
          ∧ ((x.val < 16 ∨ s.tw.frozenOut.getLsbD (72 + x.val) = false) → Out.pulse x.val true ∈ t.out)) ∧
      (s.gate = true → ((s.pulseOn x.val = true ∧ (x.val < 16 ∨ (s.pulse x.val).again = true))
          ∨ (x.val < 16 ∧ ((0 < (s.pulse x.val).fell ∧ (s.reach (s.clk + (t0 - s.time))).time < (s.pulse x.val).fell + w)
            ∨ 0 < s.nat (Oid.PO_OWED x.val)))) →
        ∃ t, exec i s = .next t ∧ t.pulseOn x.val = s.pulseOn x.val ∧ (t.pulse x.val).due = rest
          ∧ t.nat (Oid.PO_OWED x.val) = min (s.nat (Oid.PO_OWED x.val) + 1) 65535 ∧ t.bit (Oid.PO_STATUS x.val) 1 = true
          ∧ (s.bit (Oid.PO_STATUS x.val) 1 = false →
              t.Recorded 0x0D13 (0x300 + x.val) x.val (min (s.nat (Oid.PO_OWED x.val) + 1) 65535) 0)
          ∧ t.nat (Oid.PO_COUNT x.val) = s.nat (Oid.PO_COUNT x.val)) ∧
      (s.gate = true → s.pulseOn x.val = true → 16 ≤ x.val → (s.pulse x.val).again = false →
        ∃ t, exec i s = .next t ∧ t.pulseOn x.val = false ∧ (t.pulse x.val).due = (t.time + 125000, w) :: rest ∧ (t.pulse x.val).fell = t.time) ∧
      (s.gate = false → ∃ t, exec i s = .next t ∧ (t.pulse x.val).due = rest ∧ t.pulseOn x.val = s.pulseOn x.val ∧ t.out = [])) ∧
    (∀ (x : Fin 20) (i : Instr), (i = .pulseEmit x ∨ i = .pulseEmitFp x) → (s.pulse x.val).due = [] → exec i s = .next { s with out := [] }) ∧
    (∀ x : Fin 20, s.up .met = true →
      (s.pulseOn x.val = true →
        ∃ t, exec (.pulseWidthEnd x) s = .next t ∧ t.pulseOn x.val = false ∧ (t.pulse x.val).fell = t.time
          ∧ s.clk + ((s.pulse x.val).offAt - s.time) ≤ t.clk
          ∧ t.nat (Oid.PO_COUNT x.val) = s.nat (Oid.PO_COUNT x.val)) ∧
      (s.pulseOn x.val = false → 0 < s.nat (Oid.PO_OWED x.val) → s.gate = true →
        ∃ t, exec (.pulseWidthEnd x) s = .next t ∧ t.pulseOn x.val = true ∧ t.nat (Oid.PO_OWED x.val) = s.nat (Oid.PO_OWED x.val) - 1
          ∧ t.bit (Oid.PO_STATUS x.val) 1 = decide (1 < s.nat (Oid.PO_OWED x.val))
          ∧ t.nat (Oid.PO_COUNT x.val) = (s.nat (Oid.PO_COUNT x.val) + 1) % 4294967296) ∧
      (s.pulseOn x.val = false → (s.nat (Oid.PO_OWED x.val) = 0 ∨ s.gate = false) → exec (.pulseWidthEnd x) s = .next { s with out := [] })) ∧
    (∀ (ses : Fin 64) (req : BitVec 32), s.Ready ses.val →
      (∀ c : Fin 64,
        (s.mode = .service →
          ∃ t, exec (.chRegClear ses req c 1) s = .next t ∧ t.Answers ses.val req 0 ∧ (t.metCh c.val).clear = some ses.val ∧ t.objs = s.objs) ∧
        (s.mode ≠ .service →
          ∃ t, exec (.chRegClear ses req c 1) s = .next t ∧ t.Answers ses.val req 9 ∧ t.objs = s.objs ∧ t.met = s.met)) ∧
      (∀ (x : Fin 20) (v : BitVec 64),
        (1024 ≤ v.toNat → v.toNat ≤ 1099511627776 →
          ∃ t, exec (.pulseConfig ses req x true v) s = .next t ∧ t.Answers ses.val req 0 ∧ t.nat (Oid.PO_CONST x.val) = v.toNat
            ∧ (t.pulse x.val).dirty = true ∧ (t.pulse x.val).const = (s.pulse x.val).const) ∧
        ((v.toNat < 1024 ∨ 1099511627776 < v.toNat) →
          ∃ t, exec (.pulseConfig ses req x true v) s = .next t ∧ t.Answers ses.val req 4 ∧ t.objs = s.objs ∧ t.met = s.met) ∧
        (v.toNat = 0xFFFF ∨ (v.toNat < 16384 ∧ v.toNat % 256 < 10) →
          ∃ t, exec (.pulseConfig ses req x false v) s = .next t ∧ t.Answers ses.val req 0 ∧ t.nat (Oid.PO_SRC x.val) = v.toNat
            ∧ (t.pulse x.val).dirty = true ∧ (t.pulse x.val).src = (s.pulse x.val).src) ∧
        (v.toNat < 0xFFFF → (16384 ≤ v.toNat ∨ 10 ≤ v.toNat % 256) →
          ∃ t, exec (.pulseConfig ses req x false v) s = .next t ∧ t.Answers ses.val req 4 ∧ t.objs = s.objs ∧ t.met = s.met)) ∧
      (∀ v : Byte,
        ([1, 5, 10, 15, 30, 60].contains v.toNat = true →
          ∃ t, exec (.intLen ses req v) s = .next t ∧ t.Answers ses.val req 0 ∧ t.nat Oid.INT_LEN = v.toNat
            ∧ (s.tb.status ≠ 0 → t.met.intStart = s.time ∧ t.met.flagsAll = s.syncFlag + 128)
            ∧ (s.tb.status = 0 → t.met.wasUnset = true ∧ t.met.store = s.met.store)) ∧
        ([1, 5, 10, 15, 30, 60].contains v.toNat = false →
          ∃ t, exec (.intLen ses req v) s = .next t ∧ t.Answers ses.val req 4 ∧ t.objs = s.objs ∧ t.met = s.met)) ∧
      (∃ t, exec (.energyAck ses req 1) s = .next t ∧ t.Answers ses.val req 0 ∧ t.nat Oid.ENERGY_RESTORE = 0
        ∧ (∀ c : Nat, c < 64 → t.nat (Oid.CH_REG_FLAGS c) = 0) ∧ t.met = s.met) ∧
      (∀ n : Fin 12, ∃ t, exec (.cmReset ses req n 1) s = .next t ∧ t.Answers ses.val req 0 ∧ t.blob (Oid.CM_COEF n.val) = List.replicate 128 0
        ∧ t.nat (Oid.CM_TRIPS_UP n.val) = 0 ∧ t.nat (Oid.CM_TRIPS_DN n.val) = 0 ∧ t.flag (Oid.CM_VALID n.val) = false
        ∧ t.cov n.val true = covReset ∧ t.cov n.val false = covReset ∧ t.Recorded 0x0D17 (0x400 + n.val) n.val ses.val 0) ∧
      (∀ (i : Instr) (v : Byte), v ≠ 1 → (i = .energyAck ses req v ∨ (∃ n, i = .cmReset ses req n v) ∨ (∃ c, i = .chRegClear ses req c v)) →
        ∃ t, exec i s = .next t ∧ t.Answers ses.val req 4 ∧ t.objs = s.objs ∧ t.met = s.met)) ∧
    (s.up .met = true → s.up .mem = true → s.met.stopped = none → s.met.shadowBad = [] →
      ∃ (t : State) (x : SaveSlot), exec (.periodicSave []) s = .next t ∧ t.met.slots.find ((s.met.lastNum + 1) % 8) = some x
        ∧ x.num = s.met.lastNum + 1 ∧ x.kind = 0 ∧ x.closed = true ∧ x.crcGood = true ∧ x.time = t.time ∧ t.met.lastNum = s.met.lastNum + 1
        ∧ t.nat Oid.SAVE_NUMBER = s.met.lastNum + 1 ∧ t.nat Oid.SAVE_TIME = t.time
        ∧ t.clk = (s.toMultiple (sec 1)).clk
        ∧ (∀ c r : Nat, c < 64 → r < 12 → Tbl.get 0 x.regs (16 * c + r) = s.nat (Oid.REG c r))
        ∧ (∀ y : Nat, y < 20 → Tbl.get 0 x.residue y = s.nat (Oid.PO_RESIDUE y) ∧ Tbl.get 0 x.owed y = s.nat (Oid.PO_OWED y))) ∧
    (∀ bad : List SaveWord, ∃ t, exec (.periodicSave bad) s = .next t ∧ t.rcd = s.rcd
        ∧ (s.up .met = true → s.up .mem = true → s.met.stopped = none → t.nat Oid.SAVE_NUMBER = s.met.lastNum + 1)
        ∧ (s.met.stopped.isSome = true → t.met = s.met ∧ t.objs = s.objs)) ∧
    (∀ us : Nat, s.up .met = true →
      (100000 < us → ∃ t, exec (.saveLate us) s = .next t ∧ t.Recorded 0x0D15 0xFFFF s.met.lastNum us 0
        ∧ t.nat Oid.SAVE_LATE_COUNT = min (s.nat Oid.SAVE_LATE_COUNT + 1) 4294967295) ∧
      (us ≤ 100000 → exec (.saveLate us) s = .next { s with out := [] })) ∧
    (s.up .met = true →
      (s.tb.status ≠ 0 →
        ∃ t, exec .intervalClose s = .next t ∧ t.met.intStart = t.time ∧ t.clk = (s.toMultiple (sec (60 * s.nat Oid.INT_LEN))).clk ∧ t.met.wasUnset = false ∧ t.met.flagsAll = s.syncFlag
          ∧ t.met.intSeq = s.met.intSeq + ((List.range 64).filter (fun c => ((s.blob Oid.INT_CHANNELS).getD (c / 8) 0).getLsbD (c % 8))).length
          ∧ (∀ c : Nat, c < 64 → (t.metCh c).flags = (if s.chValid c then 0 else 1) + (if (s.metCh c).overFor = 0 then 0 else 64)
              ∧ ∀ r : Nat, r < 11 → Tbl.get 0 (t.metCh c).base r = s.nat (Oid.REG c r))) ∧
      (s.tb.status = 0 → exec .intervalClose s
        = .next { s.toMultiple (sec (60 * s.nat Oid.INT_LEN)) with out := [], met := { s.met with wasUnset := true } }))

/-! ### Safety (chapter 15) -/

/-- The safety session and what it permits (R194, R537 to R544, R546, R547): SAFETY_OPEN opens it on the right password, on the first one in SERVICE,
or is refused, five wrong ones locking the certificate out; it ends when closed or after 900 s, its pending changes discarded; without it every safety
write is refused; in it a parameter is held until the commit, which loads the SLA's new block in SERVICE at rest, and a set is activated in the same
way; the full self-test is asked of the twin or of this module, comes due on a standby, and ends with its result.
Model's choices that clauses of it rest on: log entries 3, 33, 103 and 105. -/
def Obligations.SafetySessions : Prop :=
  ∀ (s : State) (ses : Fin 64), s.Room →
    (∀ (f : Frame) (pw : List Byte) (salt : BitVec 128), s.serving = true → s.emits = [] → 2 ≤ (s.ses ses.val).state → s.NoneWaits →
      frameBroken f = false → frameReq f salt = some (.safetyOpen pw salt) →
      ((s.maySafety ses.val = false ∨ s.pwLocked (s.sesFpr ses.val) = true) →
        exec (.safetyOpen ses f salt) s = .next { s.atRequest ses.val with out := [.resp ses.val f.op.toNat f.reqId 8 []] }) ∧
      (s.maySafety ses.val = true → s.pwLocked (s.sesFpr ses.val) = false →
        (s.saf.session.isSome = true →
          exec (.safetyOpen ses f salt) s = .next { s.atRequest ses.val with out := [.resp ses.val f.op.toNat f.reqId 9 []] }) ∧
        (s.saf.session = none → s.saf.pw = none →
          (s.mode ≠ .service →
            exec (.safetyOpen ses f salt) s = .next { s.atRequest ses.val with out := [.resp ses.val f.op.toNat f.reqId 8 []] }) ∧
          (s.mode = .service → 32 < pw.length →
            exec (.safetyOpen ses f salt) s = .next { s.atRequest ses.val with out := [.resp ses.val f.op.toNat f.reqId 4 []] }) ∧
          (s.mode = .service → 8 ≤ pw.length → pw.length ≤ 32 →
            ∃ t, exec (.safetyOpen ses f salt) s = .next t ∧ Out.resp ses.val f.op.toNat f.reqId 0 [] ∈ t.out
              ∧ t.saf.session = some (ses.val, s.clk) ∧ (t.ses ses.val).state = 3 ∧ t.flag Oid.PW_SET = true
              ∧ t.saf.pw = some (salt, pbkdf2 pw (leBytes 16 salt.toNat) 100000)
              ∧ (∃ e l, t.saf.log = e :: l ∧ (e.bytes.getD 33 0).toNat = 3) ∧ t.Recorded 0x050D 0xFFFF ses.val 0 0)) ∧
        (∀ (x : BitVec 128) (h : List Byte), s.saf.session = none → s.saf.pw = some (x, h) →
          (pbkdf2 pw (leBytes 16 x.toNat) 100000 = h →
            ∃ t, exec (.safetyOpen ses f salt) s = .next t ∧ Out.resp ses.val f.op.toNat f.reqId 0 [] ∈ t.out
              ∧ t.saf.session = some (ses.val, s.clk) ∧ (t.ses ses.val).state = 3 ∧ t.saf.pw = s.saf.pw ∧ t.saf.log = s.saf.log
              ∧ t.Recorded 0x050D 0xFFFF ses.val 0 0) ∧
          (pbkdf2 pw (leBytes 16 x.toNat) 100000 ≠ h →
            ∃ t, exec (.safetyOpen ses f salt) s = .next t ∧ Out.resp ses.val f.op.toNat f.reqId 8 [] ∈ t.out ∧ t.saf.session = none
              ∧ (t.ses ses.val).state = (s.ses ses.val).state
              ∧ t.Recorded 0x050E 0xFFFF (s.sesFpr ses.val).toNat ((s.wrongOf (s.sesFpr ses.val)).length + 1) 0
              ∧ (4 ≤ (s.wrongOf (s.sesFpr ses.val)).length →
                  t.pwLocked (s.sesFpr ses.val) = true ∧ t.Recorded 0x050F 0xFFFF (s.sesFpr ses.val).toNat 0 0))))) ∧
    (∀ f : Frame, s.serving = true → s.emits = [] → 2 ≤ (s.ses ses.val).state → s.NoneWaits → s.mode ≠ .standby → frameBroken f = false →
      frameReq f 0 = some .safetyClose →
      (s.hasSafety ses.val = true →
        ∃ t, exec (.safetyClose ses f) s = .next t ∧ Out.resp ses.val f.op.toNat f.reqId 0 [] ∈ t.out ∧ t.saf.session = none ∧ t.saf.pend = []
          ∧ (t.ses ses.val).state = 2 ∧ (s.saf.pend ≠ [] → ∃ e l, t.saf.log = e :: l ∧ (e.bytes.getD 33 0).toNat = 5)) ∧
      (s.hasSafety ses.val = false →
        exec (.safetyClose ses f) s = .next { s.atRequest ses.val with out := [.resp ses.val f.op.toNat f.reqId 0 []] })) ∧
    (∀ t0 : Nat, s.saf.session = some (ses.val, t0) →
      ∃ t, exec .safetySessionTimeout s = .next t ∧ t.saf.session = none ∧ t.saf.pend = [] ∧ (t.ses ses.val).state = 2 ∧ t0 + 900000000000 ≤ t.clk) ∧
    (s.saf.session = none → exec .safetySessionTimeout s = .next { s with out := [] }) ∧
    (∀ (req : BitVec 32) (n : Fin 12) (v : Byte) (pw val : List Byte) (salt : BitVec 128) (i : Instr), s.Ready ses.val → s.hasSafety ses.val = false →
      i ∈ [.safetyPw ses req pw salt, .safetyParamWrite ses req 0x7000000A val, .safetyCommit ses req, .safetyDiscard ses req, .cfgActivate ses req v,
        .sfReset ses req n v] →
      ∃ t, exec i s = .next t ∧ t.Answers ses.val req 8 ∧ t.objs = s.objs ∧ t.blobs = s.blobs ∧ t.saf = s.saf) ∧
    (∀ req : BitVec 32, s.Ready ses.val → s.hasSafety ses.val = true →
      (∀ (pw : List Byte) (salt : BitVec 128), 8 ≤ pw.length → pw.length ≤ 32 →
        ∃ t, exec (.safetyPw ses req pw salt) s = .next t ∧ t.Answers ses.val req 0 ∧ t.flag Oid.PW_SET = true
          ∧ t.saf.pw = some (salt, pbkdf2 pw (leBytes 16 salt.toNat) 100000) ∧ t.saf.session = some (ses.val, s.clk)
          ∧ (∃ e l, t.saf.log = e :: l ∧ (e.bytes.getD 33 0).toNat = 3)) ∧
      (∀ (oid : BitVec 32) (r : ObjRow) (ix : List Nat) (val : List Byte), findObject oid.toNat = some (r, ix) → safetyParam r.base = true →
        valueCheck r r.ty val = none →
        (s.safetyRangeOk r.base ix val = true →
          ∃ t, exec (.safetyParamWrite ses req oid val) s = .next t ∧ t.Answers ses.val req 0
            ∧ t.saf.pend = s.saf.pend.filter (fun x => x.1 != oid.toNat) ++ [(oid.toNat, val)] ∧ t.nat Oid.SAFETY_PENDING = t.saf.pend.length
            ∧ t.bytesOf oid.toNat = s.bytesOf oid.toNat ∧ (∃ e l, t.saf.log = e :: l ∧ (e.bytes.getD 33 0).toNat = 0)) ∧
        (s.safetyRangeOk r.base ix val = false →
          ∃ t, exec (.safetyParamWrite ses req oid val) s = .next t ∧ t.Answers ses.val req 4 ∧ t.saf = s.saf ∧ t.objs = s.objs)) ∧
      (s.commitReady = false →
        (∃ t, exec (.safetyCommit ses req) s = .next t ∧ t.Answers ses.val req 9 ∧ t.saf = s.saf ∧ t.objs = s.objs) ∧
        (∃ t, exec (.cfgActivate ses req 1) s = .next t ∧ t.Answers ses.val req 9 ∧ t.saf = s.saf ∧ t.mem = s.mem)) ∧
      (s.commitReady = true →
        (s.commitFails = false →
          ∃ t, exec (.safetyCommit ses req) s = .next t ∧ t.Answers ses.val req 0 ∧ t.saf.pend = [] ∧ t.nat Oid.SAFETY_PENDING = 0
            ∧ t.nat Oid.SLA_STATE = 2 ∧ t.nat Oid.SLA_GEN = (s.saf.gen + 1) % 2 ^ 32
            ∧ t.saf.block = (s.saf.pend.foldl State.applyParam s).makeBlock (s.saf.gen + 1)
            ∧ (∀ (n : Nat) (b : List Byte), n < 12 → s.saf.pend = [((Oid.SLA_CAR n).oid, b)] → t.blob (Oid.SLA_CAR n) = b)
            ∧ (s.saf.pend.length ≤ 256 → t.Recorded 0x0510 0xFFFF (s.saf.gen + 1) s.saf.pend.length 0)) ∧
        (s.commitFails = true →
          ∃ t, exec (.safetyCommit ses req) s = .next t ∧ t.Answers ses.val req 13 ∧ t.saf.pend = s.saf.pend ∧ t.saf.block = s.saf.block
            ∧ t.objs = s.objs ∧ t.blobs = s.blobs) ∧
        (s.nat Oid.CFG_STATE = 3 → s.cfgActivateFails = false →
          ∃ t, exec (.cfgActivate ses req 1) s = .next t ∧ t.Answers ses.val req 0 ∧ t.mem.active = s.mem.slot ∧ t.mem.slot = s.mem.active
            ∧ t.acc.journal = [] ∧ t.cfgValid = true ∧ t.saf.pend = [] ∧ t.nat Oid.SLA_STATE = 2 ∧ t.nat Oid.CFG_STATE = 0) ∧
        (s.nat Oid.CFG_STATE = 3 → s.cfgActivateFails = true →
          ∃ t, exec (.cfgActivate ses req 1) s = .next t ∧ t.Answers ses.val req 13 ∧ t.mem = s.mem ∧ t.objs = s.objs) ∧
        (s.nat Oid.CFG_STATE ≠ 3 →
          ∃ t, exec (.cfgActivate ses req 1) s = .next t ∧ t.Answers ses.val req 13 ∧ t.mem = s.mem ∧ t.objs = s.objs)) ∧
      (∀ v : Byte, v ≠ 1 → ∃ t, exec (.cfgActivate ses req v) s = .next t ∧ t.Answers ses.val req 4 ∧ t.mem = s.mem ∧ t.objs = s.objs) ∧
      (∃ t, exec (.safetyDiscard ses req) s = .next t ∧ t.Answers ses.val req 0 ∧ t.saf.pend = []
        ∧ (s.saf.pend ≠ [] → t.nat Oid.SAFETY_PENDING = 0 ∧ ∃ e l, t.saf.log = e :: l ∧ (e.bytes.getD 33 0).toNat = 5))) ∧
    (∀ req : BitVec 32,
      (s.Ready ses.val →
        (∃ t, exec (.safetyTestReqTwin ses req) s = .next t ∧ t.Answers ses.val req 9 ∧ t.objs = s.objs ∧ t.testQueue = s.testQueue) ∧
        ((s.mode = .active ∨ s.commitReady = true) →
          ∃ t, exec (.safetyTestReqSelf ses req) s = .next t ∧ t.Answers ses.val req 0
            ∧ ((∀ x ∈ s.testQueue, x.1 ≠ .selfTest) → s.saf.testAt = none →
                t.testQueue = s.testQueue ++ [(.selfTest, 0)] ∧ t.nat Oid.SAFETY_TEST_STATE = 1)) ∧
        (s.mode = .service → s.commitReady = false →
          ∃ t, exec (.safetyTestReqSelf ses req) s = .next t ∧ t.Answers ses.val req 9 ∧ t.objs = s.objs ∧ t.testQueue = s.testQueue)) ∧
      (s.serving = true → s.mode = .active → 2 ≤ (s.ses ses.val).state → (s.ses ses.val).part = 0 → s.NoneWaits → s.healthyStandby = true → s.emits = [] →
        ∃ t r, exec (.safetyTestReqTwin ses req) s = .next t ∧ t.acc.waits = [r] ∧ r.ses = ses.val ∧ r.req = req
          ∧ r.entries = [{ oid := Oid.SAFETY_TEST_REQ.oid, data := [1] }] ∧ t.out = []
          ∧ BatchItem.testRequest .selfTest ∈ (t.commitReq r).tw.openBatch ∧ (t.commitReq r).Answers ses.val req 0)) ∧
    (s.mode = .standby → s.nat Oid.SAFETY_TEST_INTERVAL ≠ 0 → (∀ x ∈ s.testQueue, x.1 ≠ .selfTest) → s.saf.testAt = none →
      ∃ t, exec .safetyTestPeriodic s = .next t ∧ t.testQueue = s.testQueue ++ [(.selfTest, 0)] ∧ t.nat Oid.SAFETY_TEST_STATE = 1
        ∧ s.saf.periodAt + 3600000000000 * s.nat Oid.SAFETY_TEST_INTERVAL ≤ t.clk) ∧
    ((s.mode ≠ .standby ∨ s.nat Oid.SAFETY_TEST_INTERVAL = 0) → exec .safetyTestPeriodic s = .next { s with out := [] }) ∧
    (∀ pass : Bool,
      (s.saf.testAt.isSome = true →
        ∃ t, exec (.safetyTestDone pass) s = .next t ∧ t.saf.testAt = none ∧ t.saf.periodAt = s.clk ∧ t.tw.selfTest = pass
          ∧ t.nat Oid.SAFETY_TEST_STATE = (if pass then 3 else 4) ∧ t.nat Oid.SAFETY_TEST_TIME = s.time ∧ (∀ x ∈ t.testsOn, testNum x ≠ 28)
          ∧ (pass = true → t.Recorded 0x0512 0xFFFF 3 0 0) ∧ (pass = false → ∃ x, t.Recorded 0x0512 0xFFFF 4 x 0)) ∧
      (s.saf.testAt = none → exec (.safetyTestDone pass) s = .next { s with out := [] }))

/-- The safety functions of a car, the SLA and the telegrams (R515 to R519, R521 to R524, R527, R533 to R536, R545, R549): a heartbeat is taken with
its complement and the next count, and 2 ms without one open every L switch; an open lock, an opening chain, a contactor or a brake that does not
follow trips its function on the technologies that see it, and the switches open; trips end when their condition is absent, lockouts when they are
reset; a window closes at its time; the zone-entry speed is measured between the two door-zone edges; an SLA fault releases the hold; tests and
disagreements are recorded; telegrams are sent on both carriers, a period after the last, checked, paired, accepted alone after 5 ms, and trip their
cars on a mismatch or after 20 ms. Inputs of a car that is not configured count for nothing.
Model's choices that clauses of it rest on: log entries 3, 100, 101, 102, 128 and 152. -/
def Obligations.SafetyFunctions : Prop :=
  ∀ s : State, s.Room →
    (∀ hb : BitVec 96, s.up .sla = true →
      (hb.toNat % 2 ^ 48 = 2 ^ 48 - 1 - hb.toNat / 2 ^ 48 →
        (s.saf.hbLost = true ∨ s.saf.hbCount = none ∨ ∃ c, s.saf.hbCount = some c ∧ field hb.toNat 95 88 = (c + 1) % 256) →
        ∃ t, exec (.heartbeatReceive hb) s = .next t ∧ t.saf.hbAt = s.clk ∧ t.saf.hbCount = some (field hb.toNat 95 88) ∧ t.saf.hbLost = false
          ∧ (∀ n : Nat, n < 12 → (t.carSafe n).lowSpeed = hb.toNat.testBit (76 + n) ∧ (t.carSafe n).winReq = hb.toNat.testBit (64 + n)
              ∧ (t.carSafe n).rstReq = hb.toNat.testBit (52 + n))) ∧
      (hb.toNat % 2 ^ 48 ≠ 2 ^ 48 - 1 - hb.toNat / 2 ^ 48 → exec (.heartbeatReceive hb) s = .next { s with out := [] }) ∧
      (∀ c : Nat, s.saf.hbLost = false → s.saf.hbCount = some c → field hb.toNat 95 88 ≠ (c + 1) % 256 →
        exec (.heartbeatReceive hb) s = .next { s with out := [] })) ∧
    (s.up .sla = true → s.saf.hbLost = false →
      ∃ t, exec .hbLost s = .next t ∧ t.saf.hbLost = true ∧ s.saf.hbAt + 2000000 ≤ t.clk ∧ (∀ n : Nat, n < 12 → (t.carSafe n).lSw = 0)
        ∧ t.Recorded 0x0504 0xFFFF (s.saf.hbCount.getD 0) 0 0) ∧
    ((s.up .sla = false ∨ s.saf.hbLost = true) → exec .hbLost s = .next { s with out := [] }) ∧
    (∀ (n : Fin 12) (i : Nat) (level : Bool),
      ((10 ≤ i ∨ s.hasCar n.val = false) → exec (.sinChange n i level) s = .next { s with out := [] }) ∧
      (i < 10 → s.hasCar n.val = true →
        ∃ t, exec (.sinChange n i level) s = .next t ∧ (s.up .pos = true → t.bit (Oid.CAR_INPUTS n.val) i = level)
          ∧ (t.carSafe n.val).sin.getLsbD i = level ∧ (t.carSafe n.val).sla.getLsbD i = level
          ∧ (∀ m : Nat, m ≠ n.val → t.carSafe m = s.carSafe m)
          ∧ (i = 4 → level = false → s.lWatch n.val = true → (s.carSafe n.val).window = none → (s.carSafe n.val).winReq = false →
              (t.carSafe n.val).tripL.getLsbD 0 = true ∧ (t.carSafe n.val).lSw = 0)
          ∧ (i = 4 → level = false → s.sWatch n.val = true → s.up .pos = true → s.sWindow n.val = false →
              (t.carSafe n.val).tripS.getLsbD 0 = true ∧ (t.carSafe n.val).sSw = 0
                ∧ ((s.carSafe n.val).tripS.getLsbD 0 = false → (s.carSafe n.val).lockS.getLsbD 0 = false → t.Recorded 0x0501 n.val 1 0 0))
          ∧ (i < 2 → level = false → s.slaIn n.val i = true → (t.carSafe n.val).zoneSpeed = 0)
          ∧ (i < 2 → level = true → s.slaIn n.val i = false → s.slaIn n.val (1 - i) = true →
              ∀ a b dt : Nat, a = s.clk → b = (if i = 0 then (s.carSafe n.val).dzB else (s.carSafe n.val).dzA) →
                dt = Config.slaTicks (max a b - min a b) * 25 →
                (t.carSafe n.val).zoneSpeed = (if 10000000000 < dt then 0 else field (s.slaRec n.val) 119 104 * 1000000000 / max dt 25))
          ∧ (i = 5 → level = false → s.slaIn n.val 5 = true → s.bothOn n.val = true →
              (s.sWatch n.val = true → (t.carSafe n.val).tripS.getLsbD 3 = true) ∧ (s.lWatch n.val = true → (t.carSafe n.val).tripL.getLsbD 3 = true)))) ∧
    (∀ (ses : Fin 64) (req : BitVec 32) (n : Fin 12), s.Ready ses.val → s.hasSafety ses.val = true →
      (∃ t, exec (.sfReset ses req n 1) s = .next t ∧ t.Answers ses.val req 0
        ∧ (t.carSafe n.val).lockS = (s.carSafe n.val).lockS &&& s.sLockHolds n.val
        ∧ (t.carSafe n.val).tripS = (s.carSafe n.val).tripS &&& ~~~ ((s.carSafe n.val).lockS &&& ~~~ s.sLockHolds n.val)
        ∧ (t.carSafe n.val).rstAt = s.clk + 1 ∧ (t.carSafe n.val).lockL = (s.carSafe n.val).lockL
        ∧ t.Recorded 0x0503 n.val ((s.carSafe n.val).lockS &&& ~~~ s.sLockHolds n.val).toNat ses.val 0) ∧
      (∀ v : Byte, v ≠ 1 → ∃ t, exec (.sfReset ses req n v) s = .next t ∧ t.Answers ses.val req 4 ∧ t.saf = s.saf)) ∧
    (∀ (n : Fin 12) (t0 : Nat), (s.carSafe n.val).window = some t0 →
      ∃ t, exec (.windowMax n) s = .next t ∧ (t.carSafe n.val).window = none ∧ t0 + 1000000 * field (s.slaRec n.val) 55 40 ≤ t.clk
        ∧ (s.lWatch n.val = true → s.slaIn n.val 4 = false → (t.carSafe n.val).tripL.getLsbD 0 = true ∧ (t.carSafe n.val).lSw = 0)) ∧
    (∀ crc : BitVec 32,
      (s.up .sla = true → s.nat Oid.SLA_STATE = 2 → crc.toNat ≠ s.nat Oid.SLA_CRC →
        ∃ t, exec (.slaCrcCheck crc) s = .next t ∧ t.nat Oid.SLA_STATE = 4 ∧ t.saf.faultAt = some s.clk ∧ t.tw.activeOut = false
          ∧ t.Recorded 0x0505 0xFFFF 3 (s.nat Oid.SLA_GEN) 0 ∧ t.Recorded 0x0507 0xFFFF 0 0 0) ∧
      ((s.nat Oid.SLA_STATE ≠ 2 ∨ crc.toNat = s.nat Oid.SLA_CRC) →
        ∃ t, exec (.slaCrcCheck crc) s = .next t ∧ t.nat Oid.SLA_STATE = s.nat Oid.SLA_STATE ∧ t.tw = s.tw ∧ t.rcd = s.rcd
          ∧ (∀ t0 n : Nat, s.nat Oid.SLA_STATE = 4 → s.saf.faultAt = some t0 → t0 + 250000 ≤ s.clk → n < 12 → (t.carSafe n).lSw = 0))) ∧
    (∀ cause : Byte, s.pd .sla = true →
      (s.nat Oid.SLA_STATE ≠ 4 →
        ∃ t, exec (.slaFault cause) s = .next t ∧ t.nat Oid.SLA_STATE = 4 ∧ t.saf.faultAt = some s.clk ∧ t.tw.activeOut = false
          ∧ t.Recorded 0x0507 0xFFFF cause.toNat 0 0) ∧
      (s.nat Oid.SLA_STATE = 4 → exec (.slaFault cause) s = .next { s with out := [] })) ∧
    (∀ (n : Fin 12) (sw : Nat), s.up .safe = true →
      (sw < 4 → s.hasCar n.val = true →
        (∃ t, exec (.switchTest n sw true) s = .next t ∧ (t.carSafe n.val).stuck.getLsbD sw = false ∧ t.rcd = s.rcd ∧ t.objs = s.objs) ∧
        (∃ t, exec (.switchTest n sw false) s = .next t ∧ (t.carSafe n.val).stuck.getLsbD sw = true ∧ t.tw.outputTest = false
          ∧ t.Recorded 0x0508 n.val sw (boolNat (!s.outOn n.val (sw % 2))) 0
          ∧ ((s.mode ≠ .active ∨ s.healthyStandby = false) → t.mode = s.mode ∧ t.tw.activeOut = s.tw.activeOut)
          ∧ (s.mode = .active → s.healthyStandby = true → t.tw.activeOut = false))) ∧
      (∀ ok : Bool, (4 ≤ sw ∨ s.hasCar n.val = false) → exec (.switchTest n sw ok) s = .next { s with out := [] })) ∧
    (∀ (n : Fin 12) (input forMs : Nat), s.up .safe = true →
      (100 ≤ forMs → input < 10 → s.hasCar n.val = true →
        ∃ t, exec (.inputDisagree n input forMs) s = .next t ∧ t.tw.disagreeAt = some s.clk
          ∧ (t.carSafe n.val).sla.getLsbD input = !s.bit (Oid.CAR_INPUTS n.val) input
          ∧ t.Recorded 0x0509 n.val input (boolNat (s.bit (Oid.CAR_INPUTS n.val) input)) 0) ∧
      ((forMs < 100 ∨ 10 ≤ input ∨ s.hasCar n.val = false) → exec (.inputDisagree n input forMs) s = .next { s with out := [] })) ∧
    (∀ (n : Fin 12) (which : Nat), which < 2 →
      (s.outOn n.val which = s.bit (Oid.CAR_INPUTS n.val) (6 + which) →
        ∃ t, exec (.contactorFeedbackTimeout n which) s = .next t ∧ (s.carSafe n.val).outAt + 1000000 * field (s.slaRec n.val) 27 16 ≤ t.clk
          ∧ (s.sWatch n.val = true → (t.carSafe n.val).tripS.getLsbD 3 = true ∧ (t.carSafe n.val).sSw = 0
              ∧ (s.outOn n.val which = false → (t.carSafe n.val).lockS.getLsbD 3 = true))
          ∧ (s.lWatch n.val = true → (t.carSafe n.val).tripL.getLsbD 3 = true ∧ (t.carSafe n.val).lSw = 0
              ∧ (s.outOn n.val which = false → (t.carSafe n.val).lockL.getLsbD 3 = true))) ∧
      (s.outOn n.val which ≠ s.bit (Oid.CAR_INPUTS n.val) (6 + which) → exec (.contactorFeedbackTimeout n which) s = .next { s with out := [] })) ∧
    (∀ n : Fin 12,
      (s.bothOff n.val = true → (s.bit (Oid.CAR_INPUTS n.val) 8 = false ∨ s.bit (Oid.CAR_INPUTS n.val) 9 = false) →
        ∃ t, exec (.brakeFeedbackTimeout n) s = .next t ∧ (s.carSafe n.val).outAt + 1000000 * field (s.slaRec n.val) 39 28 ≤ t.clk
          ∧ (s.sWatch n.val = true → (t.carSafe n.val).tripS.getLsbD 6 = true ∧ (t.carSafe n.val).lockS.getLsbD 6 = true)
          ∧ (s.lWatch n.val = true → s.bit (Oid.CAR_INPUTS n.val) 8 ≠ s.bit (Oid.CAR_INPUTS n.val) 9 →
              (t.carSafe n.val).tripL.getLsbD 6 = true ∧ (t.carSafe n.val).lockL.getLsbD 6 = true)) ∧
      (s.bit (Oid.CAR_INPUTS n.val) 8 = true → s.bit (Oid.CAR_INPUTS n.val) 9 = true → (s.drvBit n.val 2 = false ∨ s.moving n.val = false) →
        exec (.brakeFeedbackTimeout n) s = .next { s with out := [] })) ∧
    (∀ n : Fin 12,
      (s.lStops n.val = 0 →
        ∃ t, exec (.stopConditionAbsent n .sla) s = .next t ∧ (t.carSafe n.val).tripL = 0 ∧ (s.carSafe n.val).clearL + 100000000 ≤ t.clk
          ∧ (t.carSafe n.val).lockL = (s.carSafe n.val).lockL) ∧
      (s.lStops n.val ≠ 0 →
        ∃ t, exec (.stopConditionAbsent n .sla) s = .next t ∧ t.carSafe n.val = { s.carSafe n.val with clearL := s.clk } ∧ t.objs = s.objs) ∧
      (s.sStops n.val = 0 → s.moving n.val = false →
        ∃ t, exec (.stopConditionAbsent n .sPair) s = .next t ∧ (t.carSafe n.val).tripS = (s.carSafe n.val).tripS &&& sfBit 6
          ∧ (s.carSafe n.val).clearS + 100000000 ≤ t.clk ∧ (t.carSafe n.val).lockS = (s.carSafe n.val).lockS) ∧
      (s.sStops n.val = 0 → s.moving n.val = true → exec (.stopConditionAbsent n .sPair) s = .next { s with out := [] }) ∧
      (s.sStops n.val ≠ 0 →
        ∃ t, exec (.stopConditionAbsent n .sPair) s = .next t ∧ t.carSafe n.val = { s.carSafe n.val with clearS := s.clk } ∧ t.objs = s.objs)) ∧
    (∀ (k : Fin 64) (d : Nat), d = s.dstDesc k.val → s.up .safe = true →
      (field d 127 120 = 1 → s.gate = true → s.drives = true →
        ∃ (t : State) (b : List Byte), exec (.dstSend k) s = .next t ∧ Out.dst k.val 0 b ∈ t.out ∧ Out.dst k.val 1 b ∈ t.out
          ∧ t.nat (Oid.DST_SEQ k.val) = (s.nat (Oid.DST_SEQ k.val) + 1) % 65536
          ∧ b = dstBytes (field d 31 0) (field d 119 112) (field d 111 104 % 2) ((s.nat (Oid.DST_SEQ k.val) + 1) % 65536) (t.time % 2 ^ 32) (s.dstData d)
          ∧ t.dstOf k.val = { s.dstOf k.val with sentAt := some t.clk } ∧ (∀ j : Nat, j ≠ k.val → t.dstOf j = s.dstOf j)
          ∧ (∀ x : Nat, (s.dstOf k.val).sentAt = some x → x + 1000 * field d 47 32 ≤ t.clk)
          ∧ ((s.dstOf k.val).sentAt = none → t.clk = s.clk) ∧ t.saf.cars = s.saf.cars ∧ t.rcd = s.rcd) ∧
      ((field d 127 120 ≠ 1 ∨ s.gate = false ∨ s.drives = false) → exec (.dstSend k) s = .next { s with out := [] }) ∧
      (∀ (c : Fin 2) (b : List Byte), field d 127 120 = 2 →
        (s.dstValid k.val b = false →
          ∃ t, exec (.dstCopy k c b) s = .next t ∧ t.nat (Oid.DST_ERRORS k.val) = min (s.nat (Oid.DST_ERRORS k.val) + 1) 4294967295 ∧ t.saf = s.saf
            ∧ t.nat (Oid.DST_STATE k.val) = s.nat (Oid.DST_STATE k.val)) ∧
        (s.dstValid k.val b = true →
          ((s.dstOf k.val).wait = [] →
            ∃ t, exec (.dstCopy k c b) s = .next t ∧ (t.dstOf k.val).wait = [(c.val, s.clk, b)]
              ∧ t.nat (Oid.DST_SEQ k.val) = s.nat (Oid.DST_SEQ k.val)
              ∧ (s.dstOpens k.val (dstFields b).2.2 = true → (t.dstOf k.val).chain = true
                  ∧ ∀ n : Nat, n < 12 → d.testBit (60 + n) = true → s.sWatch n = true → (t.carSafe n).tripS.getLsbD 3 = true)) ∧
          (∀ (c' at' : Nat) (b' : List Byte), (s.dstOf k.val).wait = [(c', at', b')] → c' ≠ c.val → s.clk < at' + 5000000 →
            (dstFields b' = dstFields b →
              ∃ t, exec (.dstCopy k c b) s = .next t ∧ (t.dstOf k.val).wait = [] ∧ (t.dstOf k.val).any = true ∧ t.nat (Oid.DST_STATE k.val) = 2
                ∧ t.nat (Oid.DST_SEQ k.val) = (dstFields b).1 ∧ t.blob (Oid.DST_RX_DATA k.val) = (dstFields b).2.2) ∧
            ((dstFields b').1 = (dstFields b).1 → dstFields b' ≠ dstFields b →
              ∃ t, exec (.dstCopy k c b) s = .next t ∧ (t.dstOf k.val).wait = [] ∧ t.nat (Oid.DST_STATE k.val) = 4
                ∧ t.Recorded 0x050B (0x100 + k.val) (dstFields b).1 0 0
                ∧ ∀ n : Nat, n < 12 → d.testBit (60 + n) = true → s.sWatch n = true → (t.carSafe n).tripS.getLsbD 3 = true)))) ∧
      (∀ (c at' : Nat) (b : List Byte), (s.dstOf k.val).wait = [(c, at', b)] → ((s.dstOf k.val).any = false ∨ newer16 (dstFields b).1 (s.nat (Oid.DST_SEQ k.val)) = true) →
        ∃ t, exec (.dstCopyWait k) s = .next t ∧ at' + 5000000 ≤ t.clk ∧ (t.dstOf k.val).wait = [] ∧ t.nat (Oid.DST_SEQ k.val) = (dstFields b).1
          ∧ t.nat (Oid.DST_STATE k.val) = (if s.nat (Oid.DST_STATE k.val) = 4 ∨ s.nat (Oid.DST_STATE k.val) = 5 then s.nat (Oid.DST_STATE k.val) else 2)
          ∧ (c = 0 → (t.dstOf k.val).miss1 = (s.dstOf k.val).miss1 + 1) ∧ (c ≠ 0 → (t.dstOf k.val).miss0 = (s.dstOf k.val).miss0 + 1)) ∧
      ((s.dstOf k.val).wait = [] → ∃ t, exec (.dstCopyWait k) s = .next t ∧ t.objs = s.objs ∧ t.rcd = s.rcd ∧ t.dstOf k.val = s.dstOf k.val) ∧
      (∀ c : Fin 2,
        ((s.dstOf k.val).any = true → s.nat (Oid.DST_STATE k.val) = 2 →
          ∃ t, exec (.dstSingle k c) s = .next t ∧ t.nat (Oid.DST_STATE k.val) = 5 ∧ t.Recorded 0x050C (0x100 + k.val) c.val 0 0 ∧ t.saf = s.saf
            ∧ (if c.val = 0 then (s.dstOf k.val).at0 else (s.dstOf k.val).at1) + 1000000000 ≤ t.clk) ∧
        (((s.dstOf k.val).any = false ∨ s.nat (Oid.DST_STATE k.val) ≠ 2) → exec (.dstSingle k c) s = .next { s with out := [] })) ∧
      (field d 127 120 = 2 → s.nat (Oid.DST_STATE k.val) ≠ 3 →
        ∃ t, exec (.dstTimeout k) s = .next t ∧ t.nat (Oid.DST_STATE k.val) = 3 ∧ t.Recorded 0x050A (0x100 + k.val) (s.nat (Oid.DST_SEQ k.val)) 0 0
          ∧ max (s.dstOf k.val).at0 (s.dstOf k.val).at1 + 20000000 ≤ t.clk
          ∧ ∀ n : Nat, n < 12 → d.testBit (60 + n) = true → s.sWatch n = true → (t.carSafe n).tripS.getLsbD 3 = true) ∧
      ((field d 127 120 ≠ 2 ∨ s.nat (Oid.DST_STATE k.val) = 3) → exec (.dstTimeout k) s = .next { s with out := [] }))

/-! ### Twin operation (chapter 16) -/

/-- The hold and the interlock (R36, R70, R71, R121, R553 to R556, R563, R570): a refresh restarts the hold of a module that drives; a lapse releases
ACTIVE_OUT with cause 1 and resets a module without a healthy standby at once, one with such a standby after its takeover; ACTIVE_IN falling starts
the guard of a standby, and rising ends it without a takeover; a loop current in a band is the reading of ACTIVE_IN, one outside both is a fault that
leaves the gate as it is, after 10 µs where the loop is neither open nor short; a latch opens 500 µs after ACTIVE_IN rose, or 20 ms after the release.
Model's choices that clauses of it rest on: log entries 3, 115 and 119. -/
def Obligations.HoldAndInterlock : Prop :=
  ∀ s : State, s.Room →
    (s.booted = true → s.mayRefresh = true →
      ∃ t, exec .activeOutRefresh s = .next t ∧ t.tw = { s.tw with refreshAt := t.clk } ∧ s.tw.refreshAt + 1000000 ≤ t.clk
        ∧ t.objs = s.objs ∧ t.rcd = s.rcd) ∧
    (s.booted = true → s.mayRefresh = false → ∃ t, exec .activeOutRefresh s = .next t ∧ t.tw = s.tw ∧ t.clk = s.clk ∧ t.objs = s.objs) ∧
    (s.booted = false → exec .activeOutRefresh s = .next { s with out := [] }) ∧
    (s.tw.activeOut = false → exec .refreshLapse s = .next { s with out := [] }) ∧
    (s.tw.activeOut = true → (s.drives && s.healthyStandby) = false →
      ∃ t, exec .refreshLapse s = .next t ∧ t.tw.activeOut = false ∧ t.mode = .boot ∧ t.rst.asserted.getLsbD 7 = true
        ∧ t.Recorded 0x0101 0xFFFF 7 3 (t.nat Oid.RESET_CAUSE)) ∧
    (s.tw.activeOut = true → s.drives = true → s.healthyStandby = true →
      ∃ t, exec .refreshLapse s = .next t ∧ t.tw.activeOut = false ∧ s.tw.refreshAt + 1100000 ≤ t.clk ∧ t.tw.released = some (1, t.clk)
        ∧ t.rst.pendingRel = some ([7], t.clk) ∧ t.Recorded 0x0601 0xFFFF 1 (s.nat Oid.TW_GEN) 0) ∧
    (∀ (recogNs : Nat) (rel : Option (BitVec 8 × BitVec 64)), s.pd .aon = true → s.tw.activeIn = true →
      ∃ t, exec (.activeInFall recogNs rel) s = .next t ∧ t.tw.activeIn = false ∧ t.nat Oid.TW_RECOG_NS = recogNs ∧ t.mode = s.mode
        ∧ t.tw.ilkFault = 0 ∧ t.gate = s.tw.activeOut ∧ (s.mode = .standby → s.tw.released = none → t.tw.guard = some s.clk)
        ∧ (∀ c x, rel = some (c, x) → t.tw.relTime = x.toNat)) ∧
    (∀ recogNs : Nat, s.pd .aon = true → s.tw.activeIn = false → s.tw.assertedAt = none → s.tw.released = none → s.rst.pendingRel = none →
      ∃ t, exec (.activeInRise recogNs) s = .next t ∧ t.tw.activeIn = true ∧ t.tw.inSince = s.clk ∧ t.nat Oid.TW_RECOG_NS = recogNs ∧ t.mode = s.mode
        ∧ t.tw.guard = none ∧ t.tw.ilkFault = 0 ∧ t.gate = false) ∧
    (∀ recogNs : Nat,
      ((s.pd .aon = false ∨ s.tw.activeIn = false) → ∀ rel, exec (.activeInFall recogNs rel) s = .next { s with out := [] }) ∧
      ((s.pd .aon = false ∨ s.tw.activeIn = true) → exec (.activeInRise recogNs) s = .next { s with out := [] })) ∧
    (∀ ua : Nat, s.pd .aon = true → s.tw.assertedAt = none → s.tw.released = none → s.rst.pendingRel = none → s.interlock ≠ loopReading ua →
      (loopReading ua ≤ 1 →
        ∃ t, exec (.ilkLoopFault ua) s = .next t ∧ t.tw.ilkFault = 0 ∧ t.tw.activeIn = (loopReading ua == 1) ∧ t.activeIn = (loopReading ua == 1)
          ∧ t.tw.activeOut = s.tw.activeOut ∧ t.mode = s.mode) ∧
      (2 ≤ loopReading ua →
        ∃ t, exec (.ilkLoopFault ua) s = .next t ∧ t.tw.ilkFault = loopReading ua ∧ t.tw.activeOut = s.tw.activeOut ∧ t.gate = s.gate
          ∧ t.activeIn = (!s.tw.activeOut) ∧ t.mode = s.mode ∧ (loopReading ua = 4 → s.clk + 10001 ≤ t.clk)
          ∧ t.Recorded 0x0605 0xFFFF (loopReading ua) (boolNat s.tw.activeOut) 0)) ∧
    (∀ ua : Nat, (s.pd .aon = false ∨ s.interlock = loopReading ua) → exec (.ilkLoopFault ua) s = .next { s with out := [] }) ∧
    (∀ b : Fin 128, s.heldMap.getLsbD b.val = true → s.pd .aon = true →
      (s.activeIn = true →
        ∃ t, exec (.latchTimeout b) s = .next t ∧ t.heldMap = s.heldMap &&& ~~~ BitVec.twoPow 128 b.val ∧ s.tw.inSince + 500000 ≤ t.clk
          ∧ t.Recorded 0x060D 0xFFFF b.val 0 0) ∧
      (∀ c at' : Nat, s.activeIn = false → 64 ≤ b.val → s.tw.released = some (c, at') →
        ∃ t, exec (.latchTimeout b) s = .next t ∧ t.heldMap = s.heldMap &&& ~~~ BitVec.twoPow 128 b.val ∧ at' + 20000000 ≤ t.clk
          ∧ t.Recorded 0x060D 0xFFFF b.val 1 0) ∧
      (s.activeIn = false → b.val < 64 → exec (.latchTimeout b) s = .next { s with out := [] })) ∧
    (∀ b : Fin 128, (s.latched b.val = false ∨ s.pd .aon = false) → exec (.latchTimeout b) s = .next { s with out := [] })

/-- Taking over (R39, R563 to R568, R571, R573): at the end of a guard that held, a fit standby asserts ACTIVE_OUT and becomes ACTIVE; with ACTIVE_IN
asserted again it abandons the takeover; a window's end checks its outputs; PASS opens the latches it names and is answered; PASS_ACK frees its
outputs, and 520 µs after EQUINOX every output is free; the pair addresses are announced.
Model's choices that clauses of it rest on: log entries 109 and 113. -/
def Obligations.Takeover : Prop :=
  ∀ s : State, s.Room →
    (∀ (levels : BitVec 128) (n : Nat), s.tw.guard = some n →
      let g : State := ({ s with out := [] } : State).reach (n + us 50)
      (s.activeIn = true → s.emits = [] →
        ∃ t, exec (.equinox levels) s = .next t ∧ t.tw = { s.tw with guard := none } ∧ t.mode = s.mode ∧ n + 50000 ≤ t.clk
          ∧ t.Recorded 0x0603 0xFFFF t.summary t.interlock 0) ∧
      (s.activeIn = false → s.mode = .standby → s.tw.guardHealthy = true → g.mayTake = true → s.tw.staged = [] →
        ∃ u : State, exec (.equinox levels) s = .next u.drain ∧ u.mode = .active ∧ u.tw.activeOut = true ∧ u.tw.guard = none
          ∧ u.tw.gen = s.tw.applied ∧ n + 50000 ≤ u.clk ∧ u.tw.tookAt = some u.clk ∧ u.tb.status = s.tb.twinStatus
          ∧ u.Recorded 0x010A 0xFFFF Mode.standby.code Mode.active.code 3) ∧
      (s.activeIn = false → (s.mode == .standby && s.tw.guardHealthy && g.mayTake) = false → s.emits = [] →
        ∃ t, exec (.equinox levels) s = .next t ∧ t.tw = { s.tw with guard := none } ∧ t.mode = s.mode ∧ t.objs = s.objs)) ∧
    (∀ (kind : BlockKind) (sense contact : BitVec 128) (n : Nat), s.tw.equinoxAt = some n → s.drives = true →
      s.tw.windows.getLsbD (kindNum kind) = false →
      ∃ u : State, exec (.readbackWindowEnd kind sense contact) s = .next u.drain ∧ u.tw.windows.getLsbD (kindNum kind) = true
        ∧ n + 1000 * kindUs (kindNum kind) ≤ u.clk
        ∧ (∀ b : Nat, b < 104 → kindBit (kindNum kind) b = true → s.tw.frozenOut.getLsbD b = true → sense.getLsbD b = s.tw.driven.getLsbD b →
            contact.getLsbD b = s.tw.driven.getLsbD b → u.tw.matched.getLsbD b = true)) ∧
    (∀ m : BitVec 128, s.pd .twin = true → s.tw.released.isSome = true → s.tw.activeOut = false →
      ∃ t, exec (.passMap m) s = .next t ∧ t.blob Oid.TW_LAST_PASS = mapBytes m
        ∧ Out.twin 0x07 s.tw.gen (mapBytes (m &&& (s.heldMap ||| s.fio.safeHeld.setWidth 128))) ∈ t.out
        ∧ (∀ b : Nat, b < 104 → t.heldMap.getLsbD b = (s.heldMap.getLsbD b && !m.getLsbD b) ∧ (m.getLsbD b = true → t.latched b = false))
        ∧ t.rcd = s.rcd ∧ t.tw = s.tw) ∧
    (∀ m : BitVec 128, s.pd .twin = true → s.tw.passSent = true →
      ∃ t, exec (.passAck m) s = .next t ∧ t.tw = { s.tw with frozenOut := s.tw.frozenOut &&& ~~~ m } ∧ t.rcd = s.rcd ∧ t.blobs = s.blobs) ∧
    (∀ n : Nat, s.tw.equinoxAt = some n → s.drives = true → s.tw.reverting = false →
      ∃ t, exec .passAckTimeout s = .next t ∧ t.tw = { s.tw with frozenOut := 0, equinoxAt := none } ∧ n + 520000 ≤ t.clk ∧ t.rcd = s.rcd
        ∧ t.blobs = s.blobs) ∧
    (∀ (port : Fin 4) (nth : Fin 3) (n : Nat), s.tw.tookAt = some n → s.drives = true → s.nat (Oid.TW_PAIR_IP port.val) ≠ 0 →
      s.tw.arpSent.getLsbD (3 * port.val + nth.val) = false → s.runs (.netPort port.val) = true →
      ∃ t, exec (.gratuitousArp port nth) s = .next t ∧ t.out = [.arp port.val (s.nat (Oid.TW_PAIR_IP port.val))]
        ∧ n + (if nth.val = 0 then 1000000 else if nth.val = 1 then 100000000 else 1000000000) ≤ t.clk
        ∧ t.tw.arpSent.getLsbD (3 * port.val + nth.val) = true ∧ t.objs = s.objs ∧ t.rcd = s.rcd)

/-- Health and confirmation (R29, R557, R580, R583): HEALTH goes out with the summary and the checks; one received is reported in the twin's
registers; 10 ms without one report the twin ABSENT; a CONFIRM takes its generation and puts the standby in step; 2 ms without one are recorded; a NAK
has the batches it names sent again; a batch goes out once in a medium tick, with the items of the commands since.
Model's choices that clauses of it rest on: log entries 3, 120 and 123. -/
def Obligations.HealthAndBatches : Prop :=
  ∀ s : State, s.Room →
    (s.booted = true →
      ∃ t, exec .healthSend s = .next t ∧ t.nat Oid.TW_SUMMARY = s.summary ∧ t.nat Oid.TW_CHECKS = s.checks
        ∧ (∀ k : Key, k.oid ≠ Oid.TW_SUMMARY.oid → k.oid ≠ Oid.TW_CHECKS.oid → t.get k = s.get k) ∧ t.rcd = s.rcd ∧ t.mode = s.mode) ∧
    (∀ (h : TwinHdr) (x : HealthMsg), s.Hears h → s.booted = true → (s.drives = false ∨ s.healthyStandby = false) → s.emits = [] →
      ∃ t, exec (.health h x) s = .next t ∧ t.nat Oid.TW_TWIN_STATE = x.state.toNat ∧ t.nat Oid.TW_TWIN_SUMMARY = x.summary.toNat
        ∧ t.nat Oid.TW_TWIN_CHECKS = x.checks.toNat ∧ t.nat Oid.TW_TWIN_FW = x.fw.toNat ∧ t.tw.healthAt = s.clk ∧ t.tw.seen = true
        ∧ t.mode = s.mode) ∧
    (∀ (h : TwinHdr) (x : HealthMsg), h.crcGood = false → s.emits = [] → exec (.health h x) s = .next { s with out := [] }) ∧
    (s.booted = true → s.tw.seen = true → s.nat Oid.TW_TWIN_SUMMARY ≠ 5 → (s.drives = false ∨ s.healthyStandby = false) → s.emits = [] →
      ∃ t, exec .healthTimeout s = .next t ∧ t.nat Oid.TW_TWIN_STATE = 0xFF ∧ t.nat Oid.TW_TWIN_SUMMARY = 6 ∧ t.healthyStandby = false
        ∧ s.tw.healthAt + 10000000 ≤ t.clk ∧ t.mode = s.mode) ∧
    (∀ (h : TwinHdr) (g : BitVec 32), s.Hears h → s.drives = true → s.acc.waits = [] → s.acc.aborts = [] → s.acc.later = [] → s.dsp.held = [] →
      s.tw.plan = none → s.emits = [] →
      ∃ t, exec (.confirm h g) s = .next t ∧ t.nat Oid.TW_CONFIRMED = g.toNat ∧ t.tw.inStep = true ∧ t.tw.confirmAt = s.clk ∧ t.mode = s.mode) ∧
    (∀ (h : TwinHdr) (first : BitVec 32) (n : Nat), s.Hears h → s.drives = true →
      ∃ t, exec (.nak h first n) s = .next t ∧ t.objs = s.objs ∧ t.mode = s.mode
        ∧ (∀ g items, (g, items) ∈ s.tw.kept → (g + 2 ^ 32 - first.toNat) % 2 ^ 32 < n → Out.batch g s.time false true items ∈ t.out)) ∧
    (s.drives = true → s.tw.inStep = true → s.acc.waits = [] → s.acc.aborts = [] → s.acc.later = [] → s.dsp.held = [] → s.emits = [] →
      ∃ t, exec .standbyLost s = .next t ∧ t.tw.inStep = false ∧ s.tw.confirmAt + 2000000 ≤ t.clk ∧ t.mode = s.mode
        ∧ t.Recorded 0x0607 0xFFFF (s.nat Oid.TW_CONFIRMED) 0 0) ∧
    (s.drives = true → s.up .net = true → s.up .twin = true → s.genNow ≠ s.tw.gen → s.tw.plan = none →
      ∃ t, exec .batchSend s = .next t ∧ t.nat Oid.TW_GEN = s.genNow ∧ t.tw.gen = s.genNow ∧ t.tw.openBatch = []
        ∧ (∃ tail, Out.batch s.genNow s.time false false (s.tw.openBatch.reverse ++ tail) ∈ t.out) ∧ t.rcd = s.rcd ∧ t.mode = s.mode) ∧
    ((s.drives = false ∨ s.up .net = false) → exec .batchSend s = .next { s with out := [] })

/-- The standby's side of the mirror (R582, R583, R588 to R591): the next batch in order is applied and confirmed; one that leaves a gap is held and
the missing ones are asked for; an older one is passed over; a standby that lacks a batch for 2 ms asks for the state; the active module streams it,
and the standby holds what comes, each piece once, until its end.
Model's choices that clauses of it rest on: log entries 3 and 111. -/
def Obligations.MirrorAndResync : Prop :=
  ∀ (s : State) (h : TwinHdr), s.Room →
    (∀ (at0 : BitVec 64) (items : List BatchItem), s.Hears h → s.mode = .standby → s.tw.joining = false → s.nat Oid.TW_RESYNC ≠ 1 → s.tw.mirror = true → s.emits = [] →
      (genLe h.gen.toNat s.tw.applied = true →
        ∃ t, exec (.batch h ⟨at0, items⟩) s = .next t ∧ t.tw.applied = s.tw.applied ∧ t.tw.stored = s.tw.stored ∧ t.out = [] ∧ t.blobs = s.blobs) ∧
      (genLe h.gen.toNat s.tw.applied = false → h.gen.toNat ≠ (s.tw.applied + 1) % 2 ^ 32 → s.tw.stored.any (fun b => b.1 == h.gen.toNat) = false →
        ∃ t, exec (.batch h ⟨at0, items⟩) s = .next t ∧ t.tw.applied = s.tw.applied ∧ t.tw.stored = s.tw.stored ++ [(h.gen.toNat, items)]
          ∧ t.blobs = s.blobs ∧ t.tw.lacking.isSome = true
          ∧ ∃ p, Out.twin 0x03 h.gen.toNat p ∈ t.out ∧ p.take 4 = leBytes 4 ((s.tw.applied + 1) % 2 ^ 32))) ∧
    (∀ (at0 : BitVec 64) (items : List BatchItem), s.Hears h → s.mode = .standby → s.tw.joining = false → s.nat Oid.TW_RESYNC ≠ 1 → s.tw.mirror = true →
      s.tw.staged = [] → s.tw.stored = [] → h.gen.toNat = (s.tw.applied + 1) % 2 ^ 32 → genLe h.gen.toNat s.tw.applied = false →
      ∃ u : State, exec (.batch h ⟨at0, items⟩) s = .next u.drain ∧ u.tw.applied = h.gen.toNat ∧ u.nat Oid.TW_GEN = h.gen.toNat
        ∧ u.nat Oid.TW_CONFIRMED = h.gen.toNat ∧ u.tw.confirmAt = u.clk ∧ u.tw.lacking = none ∧ Out.twin 0x02 h.gen.toNat [] ∈ u.out
        ∧ (items = [] → u.blobs = s.blobs ∧ u.emits = s.emits ∧ u.mode = .standby ∧ u.tb.twinTime = at0.toNat + s.nat Oid.TW_RTT_NS / 2
            ∧ u.tb.twinAt = s.clk)) ∧
    (s.mode = .standby → s.tw.mirror = true →
      ∃ t, exec .mirrorTimeout s = .next t ∧ t.tw.mirror = false ∧ t.tw.fullState = false ∧ t.nat Oid.TW_RESYNC = 1 ∧ t.tw.stored = []
        ∧ (match s.tw.lacking with
            | some n => n
            | none => s.tw.confirmAt) + 2000000 ≤ t.clk
        ∧ t.Recorded 0x060A 0xFFFF 1 0 0 ∧ t.mode = .standby) ∧
    (∀ fw : BitVec 32, s.Hears h → s.drives = true →
      ∃ t, exec (.resyncReq h fw) s = .next t ∧ t.nat Oid.TW_TWIN_FW = fw.toNat ∧ t.tw.g0 = s.tw.gen
        ∧ (∃ l, Out.stream 1 0 l ∈ t.out) ∧ Out.twin 0x0E s.tw.gen (leBytes 1 1 ++ [0, 0, 0] ++ leBytes 4 s.tw.gen) ∈ t.out
        ∧ Out.twin 0x0E s.tw.gen (leBytes 1 2 ++ [0, 0, 0] ++ leBytes 4 s.tw.gen) ∈ t.out ∧ t.mode = s.mode) ∧
    (∀ (region offset : Nat) (data : List BatchItem), s.Hears h → s.mode = .standby → (s.nat Oid.TW_RESYNC = 1 ∨ s.nat Oid.TW_RESYNC = 2) →
      (s.tw.pieces.contains (region, offset) = false →
        ∃ t, exec (.resyncData h region offset data) s = .next t ∧ t.tw.streamed = s.tw.streamed ++ data ∧ t.objs = s.objs ∧ t.blobs = s.blobs) ∧
      (s.tw.pieces.contains (region, offset) = true →
        ∃ t, exec (.resyncData h region offset data) s = .next t ∧ t.tw.streamed = s.tw.streamed ∧ t.objs = s.objs ∧ t.blobs = s.blobs)) ∧
    (∀ g : BitVec 32, s.Hears h → s.mode = .standby → s.nat Oid.TW_RESYNC = 1 → s.tw.stored = [] →
      ∃ u : State, exec (.resyncEnd h 1 g) s = .next u.drain ∧ u.tw.applied = g.toNat ∧ u.tw.mirror = true ∧ u.nat Oid.TW_RESYNC = 2
        ∧ u.nat Oid.TW_GEN = g.toNat ∧ u.tw.g0 = g.toNat ∧ u.tw.notDiverged = true) ∧
    (∀ g : BitVec 32, s.Hears h → s.mode = .standby → s.nat Oid.TW_RESYNC = 2 →
      (∀ b ∈ s.tw.streamed, ∃ e : List Byte, b = .values 9 [] [(Oid.LOG_DATA.oid, e)]) →
      ∃ u : State, exec (.resyncEnd h 2 g) s = .next u.drain ∧ u.tw.fullState = true ∧ u.nat Oid.TW_RESYNC = 3
        ∧ u.nat Oid.TW_RESYNC_MS = (s.clk - s.tw.resyncAt) / 1000000)

/-- Divergence, the standby's own tests, its time and its lanes (R69, R155, R577, R584 to R586): a diagnosis starts once, its result goes to the twin
and the outcome is recorded; a result that is late counts as fail; a failed pulse test is recorded and clears OUTPUT_TEST; a TIME frame is measured by
a standby; a lane's training is its bit of TW_LANES.
Model's choices that clauses of it rest on: log entries 3, 27 and 114. -/
def Obligations.DivergenceAndTests : Prop :=
  ∀ (s : State) (h : TwinHdr), s.Room →
    (∀ (kind : Byte) (item gen : BitVec 32), s.Hears h → s.booted = true → s.tw.diag = none →
      ∃ t, exec (.diverge h kind item gen) s = .next t ∧ t.tw.diag = some (kind.toNat, item.toNat, gen.toNat) ∧ t.tw.diagAt = s.clk
        ∧ t.tw.diagOwn = none ∧ t.tw.diagTwin = none ∧ t.mode = s.mode ∧ t.objs = s.objs) ∧
    (∀ (fail : Bool) (check : Byte), s.tw.diag.isSome = true → s.tw.diagOwn = none →
      (s.tw.diagTwin = none →
        ∃ t, exec (.diagnosisEnd fail check) s = .next t ∧ t.tw = { s.tw with diagOwn := some (fail, check.toNat) }
          ∧ t.out = [.twin 0x0B s.tw.gen (leBytes 1 (boolNat fail) ++ leBytes 1 check.toNat ++ [0, 0])] ∧ t.objs = s.objs ∧ t.rcd = s.rcd) ∧
      (∀ c : Nat, s.tw.diagTwin = some (false, c) → s.mode = .active → s.healthyStandby = true → fail = true →
        ∃ t, exec (.diagnosisEnd fail check) s = .next t ∧ t.tw.diag = none ∧ t.tw.activeOut = false ∧ t.Recorded 0x0609 0xFFFF 1 0 check.toNat)) ∧
    (∀ (fail : Bool) (check : Byte), s.Hears h → s.tw.diag.isSome = true →
      (s.tw.diagOwn = none → ∃ t, exec (.diag h fail check) s = .next t ∧ t.tw.diagTwin = some (fail, check.toNat) ∧ t.mode = s.mode
        ∧ t.objs = s.objs) ∧
      (∀ c : Nat, s.tw.diagOwn = some (true, c) → s.mode = .standby →
        ∃ t, exec (.diag h fail check) s = .next t ∧ t.tw.failed = true ∧ t.tw.notDiverged = true ∧ t.tw.diag = none ∧ t.mode = .standby
          ∧ t.Recorded 0x0609 0xFFFF 1 (boolNat fail) c)) ∧
    (s.tw.diag.isSome = true → s.tw.diagOwn = none → s.tw.diagTwin = none →
      ∃ t, exec .diagTimeout s = .next t ∧ t.tw.diag = none ∧ s.tw.diagAt + 200000000 ≤ t.clk ∧ t.Recorded 0x0609 0xFFFF 1 1 0) ∧
    (∀ (b : Fin 128) (conducts blocks : Bool), s.mode = .standby → s.up .safe = true → s.tw.guard = none → s.outputBit b.val = true →
      ∃ t, exec (.pulseTest b conducts blocks) s = .next t ∧ t.tw.pulseBad.getLsbD b.val = !(conducts && blocks) ∧ t.tw.lastPulse = t.clk
        ∧ s.tw.lastPulse + 1000000 ≤ t.clk ∧ Tbl.get 0 s.tw.pulseAt b.val + 1000000000 * s.nat Oid.TW_PULSE_PERIOD ≤ t.clk ∧ Tbl.get 0 t.tw.pulseAt b.val = t.clk
        ∧ (conducts = false → t.Recorded 0x060C 0xFFFF b.val 1 0) ∧ (blocks = false → t.Recorded 0x060C 0xFFFF b.val 0 0)) ∧
    (∀ (rtt : Nat) (x : BitVec 64), s.Hears h →
      ∃ t, exec (.twinTimeFrame h rtt x) s = .next t ∧ t.nat Oid.TW_RTT_NS = rtt ∧ t.tb.twinTime = x.toNat + rtt / 2 ∧ t.tb.twinAt = s.clk
        ∧ t.tb.now = s.tb.now
        ∧ (s.mode = .standby → t.get Oid.TIME_OFFSET_NS = clampInt (-2147483647) 2147483647 ((s.time : Int) - (x.toNat + rtt / 2 : Nat)))) ∧
    (∀ (lane : Fin 2) (up swapped inverted : Bool), s.up .twin = true → s.bit Oid.TW_LANES lane.val ≠ up → (s.drives = false ∨ s.healthyStandby = false) →
      s.emits = [] →
      ∃ t, exec (.twLane lane up swapped inverted) s = .next t ∧ t.bit Oid.TW_LANES lane.val = up ∧ t.Recorded 0x0606 0xFFFF lane.val (boolNat up) 0
        ∧ (up = true → t.bit Oid.TW_LANES 2 = swapped ∧ t.bit Oid.TW_LANES 3 = inverted)
        ∧ (t.bit Oid.TW_LANES 0 = false → t.bit Oid.TW_LANES 1 = false → t.tw.inStep = false))

/-! ### Field inputs and outputs (chapter 17) -/

/-- Host writes of a field channel and its group (R596, R605, R607, R610): FIO_OUT of a channel that the host owns takes the level written; FIO_MODE
of a channel that nothing uses takes the mode; FG_ACK clears FAULT while no cause of it holds, leaves it where one holds, and clears RESTORE_WAIT
while the supply is above 19.5 V.
Model's choices that clauses of it rest on: log entry 84. -/
def Obligations.FieldHostWrites : Prop :=
  ∀ (s : State) (ses : Fin 64) (req : BitVec 32), s.Ready ses.val →
    (∀ (x : Fin 64) (v : Byte), v.toNat ≤ 1 → s.fioOwner x.val = 0 →
      ∃ t, exec (.fioOut ses req x v) s = .next t ∧ t.Answers ses.val req 0 ∧ t.flag (Oid.FIO_OUT x.val) = (v.toNat == 1)
        ∧ (∀ k : Key, k.oid ≠ (Oid.FIO_OUT x.val).oid → t.get k = s.get k) ∧ t.blobs = s.blobs ∧ t.rcd = s.rcd) ∧
    (∀ (x : Fin 64) (v : Byte), v.toNat ≤ 3 → s.fioBound x.val = false → s.fioPulse x.val = false → s.fioArmed x.val = false →
      ∃ t, exec (.fioMode ses req x v) s = .next t ∧ t.Answers ses.val req 0 ∧ t.nat (Oid.FIO_MODE x.val) = v.toNat
        ∧ t.fioMode x.val = s.fioMode x.val
        ∧ (∀ k : Key, k.oid ≠ (Oid.FIO_MODE x.val).oid → t.get k = s.get k) ∧ t.blobs = s.blobs) ∧
    (∀ g : Fin 8, ∃ t, exec (.fgAck ses req g 1) s = .next t ∧ t.Answers ses.val req 0
        ∧ t.bit (Oid.FG_STATUS g.val) 0 = (s.bit (Oid.FG_STATUS g.val) 0 && s.groupCause g.val)
        ∧ t.bit (Oid.FG_STATUS g.val) 3 = (s.bit (Oid.FG_STATUS g.val) 3 && decide (s.nat (Oid.FG_SUPPLY_MV g.val) ≤ 19500))
        ∧ (∀ k : Key, k.oid ≠ (Oid.FG_STATUS g.val).oid → t.get k = s.get k) ∧ t.blobs = s.blobs ∧ t.fio = s.fio)

/-- A host write to FIO_OUT of a channel whose FIO_OWNER is not 0, or to FIO_MODE of one in use, is refused with BUSY, and changes no register (R596,
R605). -/
def Obligations.FieldRefusals : Prop :=
  ∀ (s : State) (ses : Fin 64) (req : BitVec 32) (x : Fin 64) (v : Byte), s.Ready ses.val →
    (v.toNat ≤ 1 → s.fioOwner x.val ≠ 0 →
      ∃ t, exec (.fioOut ses req x v) s = .next t ∧ t.Answers ses.val req 9 ∧ t.objs = s.objs ∧ t.blobs = s.blobs ∧ t.fio = s.fio) ∧
    (v.toNat ≤ 3 → (s.fioBound x.val || s.fioPulse x.val || s.fioArmed x.val) = true →
      ∃ t, exec (.fioMode ses req x v) s = .next t ∧ t.Answers ses.val req 9 ∧ t.objs = s.objs ∧ t.blobs = s.blobs ∧ t.fio = s.fio)

/-- The supply of a group (R609 to R611, R677): a sag of 1 ms below 18.0 V switches the group's outputs off, sets SUPPLY_LOW and FAULT and is
recorded; 50 ms above 19.5 V clear SUPPLY_LOW and set RESTORE_WAIT with FG_RESTORE 1; below 15 V the inputs are invalid, and 10 ms at 15 V or more
make them valid again with their filters afresh; a group that powers up has SUPPLY_LOW alone. A sample of the group comes at the first sample instant
that is not past.
Model's choices that clauses of it rest on: log entries 3 and 128. -/
def Obligations.FieldSupply : Prop :=
  ∀ (s : State) (g : Fin 8) (mv forUs : Nat), s.up .bus = true → s.Room →
    (mv < 18000 → 1000 ≤ forUs → s.bit (Oid.FG_STATUS g.val) 1 = false →
      ∃ t, exec (.fioSag g mv forUs) s = .next t ∧ t.nat (Oid.FG_SUPPLY_MV g.val) = mv ∧ t.bit (Oid.FG_STATUS g.val) 1 = true
        ∧ t.bit (Oid.FG_STATUS g.val) 0 = true ∧ t.Recorded 0x0E02 g.val mv 0 0 ∧ t.fio = s.fio
        ∧ (∀ x : Nat, x / 8 = g.val → t.switchOn x = false)) ∧
    (19500 < mv → 50000 ≤ forUs → s.bit (Oid.FG_STATUS g.val) 1 = true →
      ∃ t, exec (.fioSupplyRestored g mv forUs) s = .next t ∧ t.nat (Oid.FG_SUPPLY_MV g.val) = mv
        ∧ t.bit (Oid.FG_STATUS g.val) 1 = false
        ∧ t.bit (Oid.FG_STATUS g.val) 3 = (s.bit (Oid.FG_STATUS g.val) 3 || s.nat (Oid.FG_RESTORE g.val) == 1)
        ∧ t.bit (Oid.FG_STATUS g.val) 0 = s.bit (Oid.FG_STATUS g.val) 0
        ∧ t.Recorded 0x0E03 g.val (s.nat (Oid.FG_RESTORE g.val)) 0 0 ∧ t.fio = s.fio) ∧
    (mv < 15000 → s.bit (Oid.FG_STATUS g.val) 2 = false →
      ∃ t, exec (.inputsSuspend g mv) s = .next t ∧ t.nat (Oid.FG_SUPPLY_MV g.val) = mv ∧ t.bit (Oid.FG_STATUS g.val) 2 = true
        ∧ t.Recorded 0x0E04 g.val 0 mv 0 ∧ t.fio = s.fio ∧ (∀ x : Nat, x / 8 = g.val → t.fioValid x = false)) ∧
    (15000 ≤ mv → 10000 ≤ forUs → s.bit (Oid.FG_STATUS g.val) 2 = true →
      ∃ t, exec (.inputsResume g mv forUs) s = .next t ∧ t.nat (Oid.FG_SUPPLY_MV g.val) = mv ∧ t.bit (Oid.FG_STATUS g.val) 2 = false
        ∧ t.Recorded 0x0E04 g.val 1 mv 0
        ∧ (∀ x : Nat, x / 8 = g.val → Tbl.get 0 t.fio.since x = 0 ∧ Tbl.get 0 t.fio.run x = 0)) ∧
    (∃ t, exec (.groupPowerUp g mv) s = .next t ∧ t.nat (Oid.FG_STATUS g.val) = 2
        ∧ (∀ x : Nat, x / 8 = g.val → t.heldMap.getLsbD x = false)
        ∧ (∀ k : Key, k.oid ≠ (Oid.FG_STATUS g.val).oid → k.oid ≠ (Oid.FG_SUPPLY_MV g.val).oid → t.get k = s.get k) ∧ t.rcd = s.rcd) ∧
    (∀ levels : BitVec 8, ∃ t, exec (.fgSampleTick g levels) s = .next t ∧ t.clk = (s.toPhase (us (s.nat (Oid.FG_SAMPLE g.val))) (us 50)).clk)

/-- The causes of a group's FAULT (R603, R606, R607): thermal shutdown of an output, 10 ms in current limit, 2 ms of a contact that disagrees with the
switch of a channel this module drives; each switches nothing else, and an output that has cooled follows its row again. -/
def Obligations.FieldGroupFaults : Prop :=
  ∀ (s : State) (x : Fin 64) (forT : Nat), s.Room →
    (s.fioMode x.val ≠ 3 → exec (.thermalShutdown x) s = .next { s with out := [] }) ∧
    (s.fioMode x.val = 3 →
      ∃ t, exec (.thermalShutdown x) s = .next t ∧ t.bit (Oid.FG_STATUS (x.val / 8)) 0 = true ∧ t.switchOn x.val = false
        ∧ t.fio = { s.fio with thermal := s.fio.thermal ||| BitVec.twoPow 64 x.val }) ∧
    (∃ t, exec (.thermalRestart x) s = .next t ∧ t.fio.thermal.getLsbD x.val = false ∧ t.objs = s.objs ∧ t.blobs = s.blobs ∧ t.rcd = s.rcd
        ∧ (∀ y : Nat, y < 64 → y ≠ x.val → t.fio.thermal.getLsbD y = s.fio.thermal.getLsbD y)) ∧
    (10 ≤ forT → s.switchOn x.val = true →
      ∃ t, exec (.currentLimit x forT) s = .next t ∧ t.bit (Oid.FG_STATUS (x.val / 8)) 0 = true ∧ t.fio.limit.getLsbD x.val = true
        ∧ (s.bit (Oid.FG_STATUS (x.val / 8)) 0 = false →
            t.Recorded 0x0E01 (x.val / 8) (t.nat (Oid.FG_STATUS (x.val / 8))) 0 0
              ∧ t.nat (Oid.FG_FAULTS (x.val / 8)) = min (s.nat (Oid.FG_FAULTS (x.val / 8)) + 1) 4294967295)) ∧
    (s.drivenByRow6 x.val = true → 2000 ≤ forT → s.passed (Tbl.get 0 s.fio.changedAt x.val) (ms 2) = true →
      ∃ t, exec (.readbackDisagree x (!s.switchOn x.val) forT) s = .next t ∧ t.bit (Oid.FG_STATUS (x.val / 8)) 0 = true
        ∧ t.fio = { s.fio with disagree := s.fio.disagree ||| BitVec.twoPow 64 x.val })

/-- A sample instant of a group (R597, R599): every channel reports its contact in FIO_LEVEL; FIO_IN of a valid input whose mode stands changes to the
sampled level only once FIO_FILTER samples agree, with one change counted. -/
def Obligations.FieldSample : Prop :=
  ∀ (s : State) (g k : Fin 8) (levels : BitVec 8), s.up .bus = true →
    ∃ t, exec (.fgSampleTick g levels) s = .next t ∧
      (let x := 8 * g.val + k.val
       t.flag (Oid.FIO_LEVEL x) = levels.getLsbD k.val ∧ t.fioMode x = s.nat (Oid.FIO_MODE x) ∧
       (s.fioMode x = s.nat (Oid.FIO_MODE x) →
        (s.fioValid x = false → t.flag (Oid.FIO_IN x) = s.flag (Oid.FIO_IN x) ∧ t.nat (Oid.FIO_CHANGES x) = s.nat (Oid.FIO_CHANGES x)) ∧
        (s.fioValid x = true → s.flag (Oid.FIO_IN x) = levels.getLsbD k.val →
          t.flag (Oid.FIO_IN x) = s.flag (Oid.FIO_IN x) ∧ Tbl.get 0 t.fio.run x = 0) ∧
        (s.fioValid x = true → s.flag (Oid.FIO_IN x) ≠ levels.getLsbD k.val → s.nat (Oid.FIO_FILTER x) ≤ Tbl.get 0 s.fio.run x + 1 →
          t.flag (Oid.FIO_IN x) = levels.getLsbD k.val ∧ t.nat (Oid.FIO_CHANGES x) = min (s.nat (Oid.FIO_CHANGES x) + 1) 4294967295) ∧
        (s.fioValid x = true → s.flag (Oid.FIO_IN x) ≠ levels.getLsbD k.val → Tbl.get 0 s.fio.run x + 1 < s.nat (Oid.FIO_FILTER x) →
          t.flag (Oid.FIO_IN x) = s.flag (Oid.FIO_IN x) ∧ Tbl.get 0 t.fio.run x = Tbl.get 0 s.fio.run x + 1)))

/-- The silence watchdog (R612 to R614): a commit with the gate and a fresh image commits FIO_OUT and retriggers it, which ends an expiry; without a
retrigger for FIO_WD_TIME it expires, and each output whose latch this module holds takes its safe state: off, on or as it is.
Model's choices that clauses of it rest on: log entries 3 and 128. -/
def Obligations.SilenceWatchdog : Prop :=
  ∀ s : State,
    (s.up .bus = true → s.gate = true →
      ∃ t, exec (.outputCommit true) s = .next t ∧ t.fio.wdAt = t.clk ∧ t.clk = (s.toMultiple (ms 1)).clk ∧ t.fio.image = s.outImage ∧ t.nat Oid.FIO_WD_STATE = 0
        ∧ (s.nat Oid.FIO_WD_STATE ≠ 0 → t.fio.safeHeld = 0 ∧ ∀ g : Fin 8, t.bit (Oid.FG_STATUS g.val) 4 = false)) ∧
    (s.up .bus = true → s.gate = false →
      ∃ t, exec (.outputCommit true) s = .next t ∧ t.fio = { s.fio with image := s.outImage } ∧ t.objs = s.objs ∧ t.rcd = s.rcd) ∧
    (s.pd .aon = true → s.nat Oid.FIO_WD_STATE = 0 →
      ∃ t, exec .fioWdExpired s = .next t ∧ t.nat Oid.FIO_WD_STATE = 1
        ∧ s.fio.wdAt + 1000000 * s.nat Oid.FIO_WD_TIME ≤ t.clk
        ∧ (∀ x : Nat, x < 64 → t.fio.safeHeld.getLsbD x = (s.fioMode x == 3 && s.latchHolds x))
        ∧ (∀ x : Nat, x < 64 → s.fioMode x = 3 → s.latchHolds x = true →
            t.fio.safeLevel.getLsbD x
              = (if s.nat (Oid.FIO_SAFE x) = 0 then false else if s.nat (Oid.FIO_SAFE x) = 1 then true else s.switchOn x)
            ∧ t.bit (Oid.FG_STATUS (x / 8)) 4 = true ∧ t.heldMap.getLsbD x = false)) ∧
    ((s.pd .aon = false ∨ s.nat Oid.FIO_WD_STATE ≠ 0) → exec .fioWdExpired s = .next { s with out := [] })

/-! ### Memory integrity, firmware, configuration sets and certificates (chapter 18) -/

/-- Memory, images, sets and certificates (R112, R621, R623, R624, R627, R631, R632, R634, R635, R637, R638): a pass over words that read clean within
its period changes nothing but that LPDDR5 has had the pass that a CORE reset asked for, a late one is recorded, a corrected word counts and three
corrections of one word within 24 h are recorded; a contained error is recorded, and counted, shown and contained as its region says; FW_LOAD and
CFG_LOAD write into the bank and the slot not in use, the two targets of FW_LOAD each keep their image, check and state, a check ends verified or
refused and recorded, FW_SWITCH writes the boot bank pointer and resets; a certificate of this position is checked, and each use of a position is held
by one certificate.
Model's choices that clauses of it rest on: log entries 3, 16, 17, 18, 19 and 20. -/
def Obligations.Memory : Prop :=
  ∀ s : State, s.Room →
    (∀ (m : Fin 3) (forMs : Nat), s.booted = true → (m.val ≠ 1 ∨ s.pow.lpddr = true) →
      (∀ words : List (Nat × BitVec 280),
        (∀ w ∈ words, readCode (wordSize m.val) w.1 (w.2.toNat % 2 ^ (8 * (wordSize m.val + 3))) = .clean) →
        (forMs ≤ scrubMs m.val → exec (.scrubPass m words forMs) s
          = .next { s with out := [], rst := { s.rst with scrubDue := s.rst.scrubDue && decide (m.val ≠ 1) } }) ∧
        (scrubMs m.val < forMs →
          ∃ t, exec (.scrubPass m words forMs) s = .next t ∧ t.Recorded 0x0404 0xFFFF m.val (forMs / 1000) 0 ∧ t.objs = s.objs ∧ t.mem = s.mem)) ∧
      (∀ (a p r off : Nat) (w : BitVec 280), forMs ≤ scrubMs m.val →
        readCode (wordSize m.val) a (w.toNat % 2 ^ (8 * (wordSize m.val + 3))) = .corrected p → regionAt m.val a = some (r, off) →
        ∃ t, exec (.scrubPass m [(a, w)] forMs) s = .next t ∧ t.nat Oid.MEM_CE_COUNT = min (s.nat Oid.MEM_CE_COUNT + 1) 4294967295
          ∧ t.nat Oid.MEM_DSE_COUNT = s.nat Oid.MEM_DSE_COUNT
          ∧ (∀ l : List Nat, s.mem.corrected.find? (fun x => x.1 == m.val && x.2.1 == a) = some (m.val, a, l) →
              2 ≤ (l.filter (fun t0 => decide (s.clk < t0 + 86400000000000))).length →
              t.Recorded 0x0401 0xFFFF r a ((l.filter (fun t0 => decide (s.clk < t0 + 86400000000000))).length + 1))
          ∧ (s.mem.corrected.find? (fun x => x.1 == m.val && x.2.1 == a) = none → t.rcd = s.rcd)) ∧
      (∀ (a r off : Nat) (w : BitVec 280), forMs ≤ scrubMs m.val →
        readCode (wordSize m.val) a (w.toNat % 2 ^ (8 * (wordSize m.val + 3))) = .uncorrectable → regionAt m.val a = some (r, off) →
        criticalRegion r = false →
        ∃ t, exec (.scrubPass m [(a, w)] forMs) s = .next t ∧ t.tw.dseAt = some t.clk ∧ t.Recorded 0x0402 0xFFFF r a 0)) ∧
    (∀ (region : Byte) (addr : BitVec 32),
      (s.booted = true → containedRegion region.toNat = true →
        ∃ t, exec (.memDseContained region addr) s = .next t ∧ t.tw.dseAt = some t.clk ∧ t.Recorded 0x0402 0xFFFF region.toNat addr.toNat 0
          ∧ t.blob Oid.MEM_LAST_DSE = leBytes 8 t.time ++ leBytes 1 region.toNat ++ [0, 0, 0] ++ leBytes 4 addr.toNat
          ∧ (region.toNat ∈ [0x09, 0x0B, 0x21, 0x23, 0x40, 0x41, 0x42, 0x44, 0x45, 0x46, 0x48] →
              t.nat Oid.MEM_DSE_COUNT = min (s.nat Oid.MEM_DSE_COUNT + 1) 4294967295 ∧ t.clk = s.clk)
          ∧ (region = 0x40 → t.mem.bankOk = s.mem.bankOk &&& ~~~ BitVec.twoPow 2 (regionOff 0x40 addr.toNat / 134217728))
          ∧ (region = 0x41 → regionOff 0x41 addr.toNat / 67108864 ≠ s.nat Oid.CFG_ACTIVE_SLOT →
              t.mem.slotBad = (regionOff 0x41 addr.toNat % 67108864) :: s.mem.slotBad)
          ∧ (region = 0x41 → regionOff 0x41 addr.toNat / 67108864 = s.nat Oid.CFG_ACTIVE_SLOT → t.mem.activeBad = true)) ∧
      ((s.booted = false ∨ containedRegion region.toNat = false) → exec (.memDseContained region addr) s = .next { s with out := [] })) ∧
    (s.booted = true →
      (s.mem.verifyAt = none → s.mem.other.verifyAt = none →
        ∃ t, exec .fwVerifyEnd s = .next t ∧ t.mem = s.mem ∧ t.nat Oid.FW_STATE = s.nat Oid.FW_STATE
          ∧ (∀ k : Key, k.oid ≠ Oid.FW_STATE.oid → t.get k = s.get k) ∧ t.blobs = s.blobs ∧ t.rcd = s.rcd) ∧
      (∀ t0 : Nat, s.mem.verifyAt = none → s.mem.other.verifyAt = some t0 →
        (∀ c : Nat, (s.forTarget (!s.mem.forTwin)).fwFault = some c →
          ∃ t, exec .fwVerifyEnd s = .next t ∧ t.mem.other = { s.mem.other with verifyAt := none, state := 4 } ∧ t.mem.forTwin = s.mem.forTwin
            ∧ t.mem.image = s.mem.image ∧ t.mem.verifyAt = none ∧ t.nat Oid.FW_STATE = s.nat Oid.FW_STATE
            ∧ t.Recorded 0x1009 0xFFFF (boolNat (!s.mem.forTwin)) c 0) ∧
        ((s.forTarget (!s.mem.forTwin)).fwFault = none →
          ∃ t, exec .fwVerifyEnd s = .next t ∧ t.mem.other = { s.mem.other with verifyAt := none, state := 3 } ∧ t.mem.forTwin = s.mem.forTwin
            ∧ t.mem.image = s.mem.image ∧ t.mem.verifyAt = none ∧ t.nat Oid.FW_STATE = s.nat Oid.FW_STATE ∧ t.rcd = s.rcd)) ∧
      (∀ t0 : Nat, s.mem.verifyAt = some t0 →
        (∀ c : Nat, s.fwFault = some c →
          ∃ t, exec .fwVerifyEnd s = .next t ∧ t.nat Oid.FW_STATE = 4 ∧ t.mem = { s.mem with verifyAt := none }
            ∧ t.Recorded 0x1009 0xFFFF (boolNat s.mem.forTwin) c 0) ∧
        (s.fwFault = none → s.mem.forTwin = false →
          ∃ t, exec .fwVerifyEnd s = .next t ∧ t.nat Oid.FW_STATE = 3 ∧ t.mem.verifyAt = none
            ∧ t.mem.bankOk = s.mem.bankOk ||| BitVec.twoPow 2 s.otherBank ∧ t.rcd = s.rcd
            ∧ Tbl.get [] t.mem.bankHdr s.otherBank = bytesAt s.mem.image 0 256) ∧
        (s.fwFault = none → s.mem.forTwin = true →
          ∃ t, exec .fwVerifyEnd s = .next t ∧ t.nat Oid.FW_STATE = 3 ∧ t.mem = { s.mem with verifyAt := none } ∧ t.rcd = s.rcd))) ∧
    (∀ (ses : Fin 64) (req : BitVec 32), s.Ready ses.val →
      (∀ data : List Byte, 5 ≤ data.length → data.length ≤ 65535 →
        (s.nat Oid.FW_TARGET ≠ 1 →
          (leNat (data.take 4) + (data.length - 4) ≤ 134217728 →
            ∃ t, exec (.fwLoad ses req data) s = .next t ∧ t.Answers ses.val req 0 ∧ t.nat Oid.FW_STATE = 1
              ∧ t.mem.image = writeAt (if s.mem.forTwin = true then s.mem.other.image else s.mem.image) (leNat (data.take 4)) (data.drop 4)
              ∧ (s.mem.forTwin = true → t.mem.other = { image := s.mem.image, verifyAt := s.mem.verifyAt, state := s.nat Oid.FW_STATE })
              ∧ (s.mem.forTwin = false → t.mem.other = s.mem.other) ∧ t.mem.forTwin = false ∧ t.mem.verifyAt = none ∧ t.mem.bankOk = s.mem.bankOk &&& ~~~ BitVec.twoPow 2 s.otherBank
              ∧ (∀ k : Key, k.oid ≠ Oid.FW_STATE.oid → t.get k = s.get k) ∧ t.blobs = s.blobs) ∧
          (134217728 < leNat (data.take 4) + (data.length - 4) →
            ∃ t, exec (.fwLoad ses req data) s = .next t ∧ t.Answers ses.val req 4 ∧ t.mem = s.mem ∧ t.objs = s.objs)) ∧
        (leNat (data.take 4) + (data.length - 4) ≤ 67108864 →
          ∃ t, exec (.cfgLoad ses req data) s = .next t ∧ t.Answers ses.val req 0 ∧ t.nat Oid.CFG_STATE = 1
            ∧ t.mem.slot = writeAt s.mem.slot (leNat (data.take 4)) (data.drop 4) ∧ t.mem.active = s.mem.active
            ∧ (∀ k : Key, k.oid ≠ Oid.CFG_STATE.oid → t.get k = s.get k) ∧ t.blobs = s.blobs) ∧
        (67108864 < leNat (data.take 4) + (data.length - 4) →
          ∃ t, exec (.cfgLoad ses req data) s = .next t ∧ t.Answers ses.val req 4 ∧ t.mem = s.mem ∧ t.objs = s.objs)) ∧
      (∀ data : List Byte, data.length < 5 → ∀ i ∈ [Instr.fwLoad ses req data, .cfgLoad ses req data],
        ∃ t, exec i s = .next t ∧ t.Answers ses.val req 3 ∧ t.mem = s.mem ∧ t.objs = s.objs) ∧
      (s.nat Oid.FW_TARGET = 1 → ∀ data : List Byte, 5 ≤ data.length → data.length ≤ 65535 →
        ∀ i ∈ [Instr.fwLoad ses req data, .fwVerify ses req 1, .fwSwitch ses req 1],
        ∃ t, exec i s = .next t ∧ t.Answers ses.val req 9 ∧ t.mem = s.mem ∧ t.objs = s.objs) ∧
      (s.nat Oid.FW_TARGET ≠ 1 →
        (∃ t, exec (.fwVerify ses req 1) s = .next t ∧ t.Answers ses.val req 0 ∧ t.nat Oid.FW_STATE = 2 ∧ t.mem.verifyAt = some s.clk
          ∧ t.mem.bankOk = s.mem.bankOk ∧ t.mem.image = (if s.mem.forTwin = true then s.mem.other.image else s.mem.image)
          ∧ t.mem.forTwin = false) ∧
        ((s.nat Oid.FW_STATE ≠ 3 ∨ s.mode = .active) →
          ∃ t, exec (.fwSwitch ses req 1) s = .next t ∧ t.Answers ses.val req 9 ∧ t.mem = s.mem ∧ t.rst = s.rst ∧ t.objs = s.objs) ∧
        (s.nat Oid.FW_STATE = 3 → s.mode = .service → s.pow.autumn ≠ .running → s.rst.pendingRel = none →
          ∃ t, exec (.fwSwitch ses req 1) s = .next t ∧ t.mem.bootBank = s.otherBank ∧ t.mode = .boot ∧ t.rst.inReset = true
            ∧ t.rst.asserted.getLsbD 13 = true ∧ t.bit Oid.RESET_CAUSE 13 = true)) ∧
      (∀ c : Nat, s.cfgFault = some c →
        ∃ t, exec (.cfgVerify ses req 1) s = .next t ∧ t.Answers ses.val req 0 ∧ t.nat Oid.CFG_STATE = 4 ∧ t.Recorded 0x100A 0xFFFF c 0 0
          ∧ t.mem.slot = s.mem.slot) ∧
      (s.cfgFault = none →
        ∃ t, exec (.cfgVerify ses req 1) s = .next t ∧ t.Answers ses.val req 0 ∧ t.nat Oid.CFG_STATE = 3 ∧ t.mem.slot = s.mem.slot ∧ t.rcd = s.rcd) ∧
      (∀ v : Byte, v ≠ 1 → ∀ i ∈ [Instr.fwVerify ses req v, .fwSwitch ses req v, .cfgVerify ses req v],
        ∃ t, exec i s = .next t ∧ t.Answers ses.val req 4 ∧ t.mem = s.mem ∧ t.objs = s.objs) ∧
      (∀ (k : Fin 8) (q : Fin 2),
        (∀ cert : List Byte, cert.length ≤ 8192 →
          ((q.val ≠ s.position ∨ cert = [] ∨ Config.verifyCert cert Config.pubKey = true) →
            ∃ t, exec (.opcCert ses req k q cert) s = .next t ∧ t.Answers ses.val req 0 ∧ t.blob (Oid.OPC_CERT k.val q.val) = cert
              ∧ t.nat (Oid.OPC_STATE k.val q.val) = (if cert = [] then 0 else if q.val ≠ s.position then 1 else 2)
              ∧ (∀ x : Key, x.oid ≠ (Oid.OPC_STATE k.val q.val).oid → t.get x = s.get x)) ∧
          (q.val = s.position → cert ≠ [] → Config.verifyCert cert Config.pubKey = false →
            ∃ t, exec (.opcCert ses req k q cert) s = .next t ∧ t.Answers ses.val req 4 ∧ t.objs = s.objs ∧ t.blobs = s.blobs)) ∧
        (∀ cert : List Byte, 8192 < cert.length →
          ∃ t, exec (.opcCert ses req k q cert) s = .next t ∧ t.Answers ses.val req 3 ∧ t.objs = s.objs ∧ t.blobs = s.blobs) ∧
        (∀ v : Byte, v.toNat ≤ 3 →
          ((∀ j : Nat, j < 8 → j ≠ k.val → s.nat (Oid.OPC_USE j q.val) &&& v.toNat = 0) →
            ∃ t, exec (.opcUse ses req k q v) s = .next t ∧ t.Answers ses.val req 0 ∧ t.nat (Oid.OPC_USE k.val q.val) = v.toNat
              ∧ (∀ x : Key, x.oid ≠ (Oid.OPC_USE k.val q.val).oid → t.get x = s.get x) ∧ t.blobs = s.blobs) ∧
          (∀ j : Nat, j < 8 → j ≠ k.val → s.nat (Oid.OPC_USE j q.val) &&& v.toNat ≠ 0 →
            ∃ t, exec (.opcUse ses req k q v) s = .next t ∧ t.Answers ses.val req 9 ∧ t.objs = s.objs ∧ t.blobs = s.blobs))))

/-! ### Event recorder, freeze and readout port (chapter 19) -/

/-- The recorder's path (R642, R644, R645): an offered record that merges increases REPEAT of the last one and takes no number; one that does not
takes the number REC_NEXT while the pending area has room, and is dropped and counted while it is full; a flush leaves nothing pending and loses no
record that the ring still has a slot for; once space has been free for 100 ms the number dropped is recorded.
Model's choices that clauses of it rest on: log entry 3. -/
def Obligations.RecorderPath : Prop :=
  ∀ s : State,
    (∀ (code src : BitVec 16) (p0 p1 p2 : BitVec 32), code ≠ 0 → s.booted = true →
      (s.merges code.toNat src.toNat p0.toNat p1.toNat p2.toNat = true →
        ∃ t, exec (.eventOffer code src p0 p1 p2) s = .next t ∧ t.rcd.next = s.rcd.next ∧ t.objs = s.objs ∧ t.blobs = s.blobs
          ∧ ∃ r rest, s.rcd.ring = r :: rest ∧ t.rcd.ring = { r with repeats := min (r.repeats + 1) 65535 } :: rest) ∧
      (s.merges code.toNat src.toNat p0.toNat p1.toNat p2.toNat = false → s.rcd.waitingCount < 32768 →
        ∃ t, exec (.eventOffer code src p0 p1 p2) s = .next t ∧ t.rcd.next = s.rcd.next + 1 ∧ t.objs = s.objs ∧ t.blobs = s.blobs
          ∧ t.rcd.ring = { seq := s.rcd.next, code := code.toNat, src := src.toNat, optime := s.optime, cycles := s.nat Oid.POWER_CYCLES,
                           p0 := p0.toNat, p1 := p1.toNat, p2 := p2.toNat, waiting := true } :: s.rcd.ring) ∧
      (s.merges code.toNat src.toNat p0.toNat p1.toNat p2.toNat = false → 32768 ≤ s.rcd.waitingCount →
        ∃ t, exec (.eventOffer code src p0 p1 p2) s = .next t ∧ t.rcd.next = s.rcd.next ∧ t.rcd.ring = s.rcd.ring
          ∧ t.rcd.droppedRun = s.rcd.droppedRun + 1 ∧ t.nat Oid.REC_DROPPED = min (s.nat Oid.REC_DROPPED + 1) 4294967295
          ∧ (∀ k : Key, k.oid ≠ Oid.REC_DROPPED.oid → t.get k = s.get k) ∧ t.blobs = s.blobs)) ∧
    (s.up .mem = true →
      ∃ t, exec .recordFlush s = .next t ∧ t.rcd.waitingCount = 0 ∧ t.rcd.next = s.rcd.next ∧ t.objs = s.objs ∧ t.blobs = s.blobs
        ∧ (∀ r ∈ s.rcd.ring, s.rcd.next ≤ r.seq + 4194304 → ∃ r' ∈ t.rcd.ring, r'.bytes r.repeats = r.bytes r.repeats ∧ r'.seq = r.seq)) ∧
    (s.rcd.droppedRun ≠ 0 → s.rcd.waitingCount < 32768 →
      ∃ t, exec .recRecordsDropped s = .next t ∧ t.rcd.droppedRun = 0 ∧ s.rcd.freeSince + 100000000 ≤ t.clk
        ∧ t.Recorded 0x0405 0xFFFF s.rcd.droppedRun s.rcd.firstDrop 0)

/-- A low level on WINTER_N (R73, R115, R650, R652): less than 0.5 µs does nothing, nor does one that has counted already; 1 µs is acted on by the
module's state: it waits in BOOT, freezes a SERVICE or STANDBY module, releases an ACTIVE one with a healthy standby with cause 9, and is refused by
an ACTIVE one without; during AUTUMN it is only noted.
Model's choices that clauses of it rest on: log entry 24. -/
def Obligations.FreezeRequest : Prop :=
  ∀ (s : State) (forNs : Nat), s.Room →
    (forNs < 500 → exec (.winterNLow forNs) s = .next { s with out := [] }) ∧
    (1000 ≤ forNs → (s.frz.low = true ∨ s.pd .aon = false) → exec (.winterNLow forNs) s = .next { s with out := [] }) ∧
    (1000 ≤ forNs → s.pd .aon = true → s.frz.low = false → (s.pow.autumn = .running ∨ s.frz.ignored = true) →
      ∃ t, exec (.winterNLow forNs) s = .next t ∧ t.frz = { s.frz with low := true } ∧ t.mode = s.mode ∧ t.tw = s.tw ∧ t.rcd = s.rcd) ∧
    (1000 ≤ forNs → s.pd .aon = true → s.pow.autumn ≠ .running → s.frz.ignored = false → s.frz.low = false →
      (s.mode = .boot →
        ∃ t, exec (.winterNLow forNs) s = .next t ∧ t.mode = .boot ∧ t.frz = { s.frz with low := true, waiting := true }
          ∧ t.nat Oid.WINTER_N_STATE = 1 ∧ t.rcd = s.rcd ∧ t.tw = s.tw) ∧
      ((s.mode = .service ∨ s.mode = .standby) →
        ∃ t, exec (.winterNLow forNs) s = .next t ∧ t.mode = .frozen ∧ t.nat Oid.TW_SUMMARY = 5 ∧ t.nat Oid.WINTER_N_STATE = 1
          ∧ t.nat Oid.FRZ_COUNT = min (s.nat Oid.FRZ_COUNT + 1) 4294967295 ∧ t.tw.activeOut = false ∧ t.rcd.waitingCount = 0
          ∧ t.frz.prior = s.mode.code ∧ t.frz.readout = s.flag Oid.FRZ_READOUT_ENABLE ∧ t.frz.clocksStopped = true
          ∧ t.acc.waits = [] ∧ t.acc.held = [] ∧ t.acc.slow = [] ∧ t.acc.later = []
          ∧ t.Recorded 0x0110 0xFFFF s.mode.code s.time (s.time / 4294967296)) ∧
      (s.mode = .active → s.tw.activeOut = true → s.healthyStandby = true →
        ∃ t, exec (.winterNLow forNs) s = .next t ∧ t.mode = .active ∧ t.tw.activeOut = false ∧ t.tw.released = some (9, s.clk)
          ∧ t.frz = { s.frz with low := true, waiting := true } ∧ t.Recorded 0x0601 0xFFFF 9 (s.nat Oid.TW_GEN) 0) ∧
      (s.mode = .active → s.tw.activeOut = true → s.healthyStandby = false →
        ∃ t, exec (.winterNLow forNs) s = .next t ∧ t.mode = .active ∧ t.tw = s.tw ∧ t.frz = { s.frz with low := true, ignored := true }
          ∧ t.nat Oid.WINTER_N_STATE = 2 ∧ t.Recorded 0x0111 0xFFFF Mode.active.code (s.nat Oid.TW_TWIN_SUMMARY) 0))

/-- Freeze after a release, and its end (R650, R651, R655): the freeze starts once every latch is open; a high level of 1 µs ends it with a WARM reset
from the source FREEZE_RELEASE, only recorded during AUTUMN, and before it has started leaves the module STANDBY and records FREEZE_CANCELLED.
Model's choices that clauses of it rest on: log entry 24. -/
def Obligations.FreezeEntryAndEnd : Prop :=
  ∀ (s : State) (forNs : Nat), s.Room →
    (s.frz.waiting = true → s.heldMap = 0 → s.tw.activeOut = false → (s.mode = .active ∨ s.mode = .standby) →
      ∃ t, exec .freezeEntry s = .next t ∧ t.mode = .frozen ∧ t.frz.prior = Mode.standby.code ∧ t.frz.waiting = false
        ∧ t.nat Oid.TW_SUMMARY = 5 ∧ t.Recorded 0x0110 0xFFFF Mode.standby.code s.time (s.time / 4294967296)) ∧
    (s.frz.waiting = true → s.heldMap ≠ 0 → exec .freezeEntry s = .next { s with out := [] }) ∧
    (forNs < 500 → exec (.winterNHigh forNs) s = .next { s with out := [] }) ∧
    (1000 ≤ forNs → s.mode = .frozen → s.pow.autumn = .running →
      ∃ t, exec (.winterNHigh forNs) s = .next t ∧ t.mode = .frozen ∧ t.frz.low = false ∧ t.rst.asserted = s.rst.asserted
        ∧ t.Recorded 0x0101 0xFFFF 12 2 (t.nat Oid.RESET_CAUSE)) ∧
    (1000 ≤ forNs → s.mode = .frozen → s.pow.autumn ≠ .running →
      ∃ t, exec (.winterNHigh forNs) s = .next t ∧ t.mode = .boot ∧ t.rst.inReset = true ∧ t.rst.asserted.getLsbD 12 = true
        ∧ t.rst.complete = false ∧ t.bit Oid.RESET_CAUSE 12 = true ∧ t.frz.low = false ∧ t.frz.clocksStopped = false
        ∧ t.Recorded 0x0101 0xFFFF 12 2 (t.nat Oid.RESET_CAUSE)) ∧
    (1000 ≤ forNs → s.mode = .active → s.tw.activeOut = false → s.frz.waiting = true →
      ∃ t, exec (.winterNHigh forNs) s = .next t ∧ t.mode = .standby ∧ t.frz.waiting = false ∧ t.frz.low = false
        ∧ t.nat Oid.WINTER_N_STATE = 0 ∧ t.Recorded 0x0112 0xFFFF 9 0 0) ∧
    (1000000 ≤ forNs → s.mode ≠ .frozen → s.frz.waiting = false →
      ∃ t, exec (.winterNHigh forNs) s = .next t ∧ t.frz = { s.frz with low := false, ignored := false } ∧ t.nat Oid.WINTER_N_STATE = 0
        ∧ t.mode = s.mode ∧ t.rcd = s.rcd)

/-- The readout port (R656 to R658): IDCODE and BYPASS, the freeze status, and the address and data registers; outside FROZEN both read as captured 0
and RESULT 3 and change nothing; while FROZEN the word read last comes out, the next is read, and ADDR advances by one word; without READOUT_ENABLED
every word reads RESULT 3.
Model's choices that clauses of it rest on: log entry 23. -/
def Obligations.ReadoutPort : Prop :=
  ∀ s : State,
    exec .tapReset s = .next { s with out := [], frz := { s.frz with ir := 0x01 } } ∧
    exec .idcode s = .next { s with out := [.tdo 32 0x14260001], frz := { s.frz with ir := 0x01 } } ∧
    (∀ code : Nat, code < 256 → exec (.bypassTap code) s = .next { s with out := [.tdo 1 0], frz := { s.frz with ir := code } }) ∧
    (∃ v : Nat, exec .frzStatus s = .next { s with out := [.tdo 64 v], frz := { s.frz with ir := 0x10 } }
      ∧ v.testBit 0 = (s.mode == .frozen) ∧ v.testBit 1 = s.frz.clocksStopped ∧ v.testBit 2 = s.frz.selfRefresh
      ∧ v.testBit 3 = s.frz.readout ∧ v / 2 ^ 56 = s.frz.prior ∧ v / 256 % 2 ^ 40 = s.frz.optime % 2 ^ 40) ∧
    (∀ v : BitVec 64, s.mode ≠ .frozen → exec (.frzAddr v) s = .next { s with out := [.tdo 64 0], frz := { s.frz with ir := 0x11 } }) ∧
    (s.mode ≠ .frozen → exec .frzData s = .next { s with
        out := [.tdo 384 (readoutWord (field s.frz.addr.toNat 63 56) 3 (field s.frz.addr.toNat 31 0) 0).toNat]
        frz := { s.frz with ir := 0x12 } }) ∧
    (∀ v : BitVec 64, s.mode = .frozen →
      ∃ t, exec (.frzAddr v) s = .next t ∧ t.out = [.tdo 64 s.frz.addr.toNat] ∧ t.frz.addr = v &&& 0xFF000000FFFFFFFF
        ∧ t.frz.wordsRead = s.frz.wordsRead + 1 ∧ t.objs = s.objs ∧ t.blobs = s.blobs ∧ t.rcd = s.rcd
        ∧ (s.frz.readout = false → t.frz.word = readoutWord (field v.toNat 63 56) 3 (field v.toNat 31 0) 0)) ∧
    (s.mode = .frozen →
      ∃ t, exec .frzData s = .next t ∧ t.out = [.tdo 384 s.frz.word.toNat] ∧ t.frz.addr = nextWord s.frz.addr
        ∧ t.frz.wordsRead = s.frz.wordsRead + 1 ∧ t.objs = s.objs ∧ t.blobs = s.blobs ∧ t.rcd = s.rcd
        ∧ (s.frz.readout = false → t.frz.word = readoutWord (field s.frz.addr.toNat 63 56) 3 (field s.frz.addr.toNat 31 0) 0))
end

