-- ==== Sys2Proof/Laws/Dict.lean ====
section
/-! SUPPORT. The laws of the dictionary's addresses: every row holds its objects at identifiers of its own, and a look-up of one gives
that row with its indices back (R171). -/

namespace Sys2Proof.Machine

set_option Elab.async false

/-- The offset that indices spell over the strides of a row. -/
def idxOff : List (Nat × Nat) → List Nat → Nat
  | (st, _) :: t, x :: xs => st * x + idxOff t xs
  | _, _ => 0

/-- Indices within the sizes of a row's strides. -/
def idxOk : List (Nat × Nat) → List Nat → Bool
  | [], [] => true
  | (_, n) :: t, x :: xs => decide (x < n) && idxOk t xs
  | _, _ => false

/-- The largest offset over some strides. -/
def idxMax : List (Nat × Nat) → Nat
  | [] => 0
  | (st, n) :: t => st * (n - 1) + idxMax t

/-- Larger strides first, each above all that the smaller ones reach. -/
def stridesOk : List (Nat × Nat) → Bool
  | [] => true
  | (st, _) :: t => Nat.blt (idxMax t) st && stridesOk t

/-- The largest part of an offset that the strides below the modulus add to its residue. -/
def idxRest (g : Nat) : List (Nat × Nat) → Nat
  | [] => 0
  | (st, n) :: t => bif Nat.beq (st % g) 0 then idxRest g t else st * (n - 1) + idxRest g t

/-- Two rows have no identifier in common: their residues modulo `g` lie in intervals apart. -/
def apartMod (g : Nat) (a b : ObjRow) : Bool :=
  Nat.blt (a.base % g + idxRest g a.strides) g && Nat.blt (b.base % g + idxRest g b.strides) g &&
    (Nat.blt (a.base % g + idxRest g a.strides) (b.base % g) || Nat.blt (b.base % g + idxRest g b.strides) (a.base % g))

/-- Two rows have no identifier in common. -/
def ObjRow.apart (a b : ObjRow) : Bool :=
  apartMod 4294967296 a b || apartMod 16777216 a b || apartMod 65536 a b || apartMod 256 a b || apartMod 64 a b || apartMod 16 a b

/-- Each row of a list is apart from all that come after it. -/
def allApart : List ObjRow → Bool
  | [] => true
  | a :: t => t.all (fun b => a.apart b) && allApart t

/-- The rows of an area are in order: strides nested, and every identifier in an area that lists the row. -/
def rowsOk (l : List ObjRow) (lo hi : Nat) : Bool :=
  l.all (fun r => stridesOk r.strides && Nat.ble lo (r.base / 16777216) && Nat.ble ((r.base + idxMax r.strides) / 16777216) hi)

/-- The identifier of an object of a row. -/
def ObjRow.at' (r : ObjRow) (ix : List Nat) : Nat := r.base + idxOff r.strides ix

theorem idxOff_le (l : List (Nat × Nat)) (ix : List Nat) (h : idxOk l ix = true) : idxOff l ix ≤ idxMax l := by
  induction l generalizing ix with
  | nil => cases ix <;> simp [idxOff]
  | cons e t ih =>
    obtain ⟨st, n⟩ := e
    cases ix with
    | nil => simp [idxOk] at h
    | cons x xs =>
      simp only [idxOk, Bool.and_eq_true, decide_eq_true_eq] at h
      have h2 := ih xs h.2
      have h1 : st * x ≤ st * (n - 1) := Nat.mul_le_mul_left _ (by omega)
      simp only [idxOff, idxMax]
      omega

theorem splitIdx_idxOff (l : List (Nat × Nat)) (ix : List Nat) (hl : stridesOk l = true) (h : idxOk l ix = true) :
    splitIdx l (idxOff l ix) = some ix := by
  induction l generalizing ix with
  | nil => cases ix <;> simp_all [idxOk, splitIdx, idxOff]
  | cons e t ih =>
    obtain ⟨st, n⟩ := e
    cases ix with
    | nil => simp [idxOk] at h
    | cons x xs =>
      simp only [idxOk, Bool.and_eq_true, decide_eq_true_eq] at h
      simp only [stridesOk, Bool.and_eq_true, Nat.blt_eq] at hl
      have hm := idxOff_le t xs h.2
      have hd : (st * x + idxOff t xs) / st = x := by
        rw [Nat.mul_add_div (by omega)]
        rw [Nat.div_eq_of_lt (by omega)]
        rfl
      have hr : (st * x + idxOff t xs) % st = idxOff t xs := by
        rw [Nat.mul_add_mod]
        exact Nat.mod_eq_of_lt (by omega)
      simp only [idxOff, splitIdx, hd, hr, h.1, if_true, ih xs hl.2 h.2]

theorem splitIdx_some (l : List (Nat × Nat)) (off : Nat) (ix : List Nat) (h : splitIdx l off = some ix) :
    idxOk l ix = true ∧ off = idxOff l ix := by
  induction l generalizing off ix with
  | nil =>
    simp only [splitIdx] at h
    split at h
    · cases h
      simp_all [idxOk, idxOff]
    · cases h
  | cons e t ih =>
    obtain ⟨st, n⟩ := e
    simp only [splitIdx] at h
    split at h
    · next hx =>
      split at h
      · next l' hl =>
        cases h
        have := ih _ _ hl
        refine ⟨by simp [idxOk, hx, this.1], ?_⟩
        simp only [idxOff, ← this.2]
        exact (Nat.div_add_mod off st).symm
      · cases h
    · cases h

theorem idxOff_mod (g : Nat) (l : List (Nat × Nat)) (ix : List Nat) (h : idxOk l ix = true) :
    ∃ k r, idxOff l ix = g * k + r ∧ r ≤ idxRest g l := by
  induction l generalizing ix with
  | nil => exact ⟨0, 0, by cases ix <;> simp [idxOff], by simp⟩
  | cons e t ih =>
    obtain ⟨st, n⟩ := e
    cases ix with
    | nil => simp [idxOk] at h
    | cons x xs =>
      simp only [idxOk, Bool.and_eq_true, decide_eq_true_eq] at h
      obtain ⟨k, r, hk, hr⟩ := ih xs h.2
      by_cases hg : st % g = 0
      · refine ⟨st / g * x + k, r, ?_, ?_⟩
        · simp only [idxOff, hk]
          have : st = g * (st / g) := (Nat.mul_div_cancel' (Nat.dvd_of_mod_eq_zero hg)).symm
          rw [Nat.mul_add, ← Nat.mul_assoc, ← this]
          omega
        · simpa [idxRest, hg] using hr
      · refine ⟨k, st * x + r, ?_, ?_⟩
        · simp only [idxOff, hk]
          omega
        · have h1 : st * x ≤ st * (n - 1) := Nat.mul_le_mul_left _ (by omega)
          have : Nat.beq (st % g) 0 = false := by
            cases hb : Nat.beq (st % g) 0
            · rfl
            · exact absurd (Nat.eq_of_beq_eq_true hb) hg
          simp only [idxRest, this, cond_false]
          omega

theorem at'_mod (g : Nat) (r : ObjRow) (ix : List Nat) (h : idxOk r.strides ix = true)
    (hg : r.base % g + idxRest g r.strides < g) :
    r.base % g ≤ r.at' ix % g ∧ r.at' ix % g ≤ r.base % g + idxRest g r.strides := by
  obtain ⟨k, x, hk, hx⟩ := idxOff_mod g r.strides ix h
  have : r.at' ix = g * (r.base / g + k) + (r.base % g + x) := by
    have := Nat.div_add_mod r.base g
    simp only [ObjRow.at', hk, Nat.mul_add]
    omega
  have hm : r.at' ix % g = r.base % g + x := by
    rw [this, Nat.mul_add_mod]
    exact Nat.mod_eq_of_lt (by omega)
  omega

theorem apartMod_ne (g : Nat) (a b : ObjRow) (ix jx : List Nat) (h : apartMod g a b = true) (ha : idxOk a.strides ix = true)
    (hb : idxOk b.strides jx = true) : a.at' ix ≠ b.at' jx := by
  simp only [apartMod, Bool.and_eq_true, Bool.or_eq_true, Nat.blt_eq] at h
  intro e
  have h1 := at'_mod g a ix ha h.1.1
  have h2 := at'_mod g b jx hb h.1.2
  rw [e] at h1
  omega

/-- Rows apart have no identifier in common. -/
theorem ObjRow.apart_ne (a b : ObjRow) (ix jx : List Nat) (h : a.apart b = true) (ha : idxOk a.strides ix = true)
    (hb : idxOk b.strides jx = true) : a.at' ix ≠ b.at' jx := by
  simp only [ObjRow.apart, Bool.or_eq_true] at h
  rcases h with ((((h | h) | h) | h) | h) | h <;> exact apartMod_ne _ a b ix jx h ha hb

theorem ObjRow.index_at' (r : ObjRow) (ix : List Nat) (hl : stridesOk r.strides = true) (h : idxOk r.strides ix = true) :
    r.index (r.at' ix) = some ix := by
  unfold ObjRow.index ObjRow.at'
  rw [if_pos (Nat.le_add_right _ _), Nat.add_sub_cancel_left]
  exact splitIdx_idxOff _ _ hl h

theorem ObjRow.index_some (r : ObjRow) (oid : Nat) (ix : List Nat) (h : r.index oid = some ix) :
    idxOk r.strides ix = true ∧ oid = r.at' ix := by
  unfold ObjRow.index at h
  split at h
  · have := splitIdx_some _ _ _ h
    refine ⟨this.1, ?_⟩
    unfold ObjRow.at'
    omega
  · cases h

theorem findRow_at' (l : List ObjRow) (r : ObjRow) (ix : List Nat) (hl : allApart l = true) (hr : r ∈ l)
    (hs : stridesOk r.strides = true) (h : idxOk r.strides ix = true) : findRow l (r.at' ix) = some (r, ix) := by
  induction l with
  | nil => cases hr
  | cons a t ih =>
    simp only [allApart, Bool.and_eq_true, List.all_eq_true] at hl
    rcases List.mem_cons.1 hr with rfl | hr
    · simp [findRow, ObjRow.index_at' _ _ hs h]
    · have : a.index (r.at' ix) = none := by
        cases hx : a.index (r.at' ix) with
        | none => rfl
        | some jx =>
          have := ObjRow.index_some _ _ _ hx
          exact absurd this.2.symm (ObjRow.apart_ne a r jx ix (hl.1 r hr) this.1 h)
      simp only [findRow, this]
      exact ih hl.2 hr

/-- A look-up of an identifier composed of a row of an area and its indices gives the row and the indices back. -/
theorem lookup_area (l : List ObjRow) (lo hi : Nat) (hd : ∀ a, lo ≤ a → a ≤ hi → dictArea a = l) (hl : allApart l = true)
    (ho : rowsOk l lo hi = true) (r : ObjRow) (hr : r ∈ l) (ix : List Nat) (h : idxOk r.strides ix = true) :
    lookup (r.at' ix) = some (r, ix) := by
  simp only [rowsOk, List.all_eq_true, Bool.and_eq_true, Nat.ble_eq] at ho
  have := ho r hr
  have hm := idxOff_le _ _ h
  unfold lookup
  rw [hd (r.at' ix / 16777216) (Nat.le_trans this.1.2 (Nat.div_le_div_right (Nat.le_add_right _ _)))
    (Nat.le_trans (Nat.div_le_div_right (Nat.add_le_add_left hm _)) this.2)]
  exact findRow_at' l r ix hl hr this.1.1 h

theorem allApart_00 : allApart dictRows00 = true := by decide +kernel
theorem allApart_01 : allApart dictRows01 = true := by decide +kernel
theorem allApart_08 : allApart dictRows08 = true := by decide +kernel
theorem allApart_10 : allApart dictRows10 = true := by decide +kernel
theorem allApart_20 : allApart dictRows20 = true := by decide +kernel
theorem allApart_40 : allApart (dictRows40.filter (fun r => !r.strides.isEmpty)) = true := by decide +kernel
theorem allApart_50 : allApart dictRows50 = true := by decide +kernel
theorem allApart_60 : allApart dictRows60 = true := by decide +kernel
theorem allApart_70 : allApart dictRows70 = true := by decide +kernel
theorem allApart_78 : allApart dictRows78 = true := by decide +kernel
theorem allApart_7C : allApart dictRows7C = true := by decide +kernel
theorem allApart_7E : allApart dictRows7E = true := by decide +kernel
theorem allApart_80 : allApart dictRows80 = true := by decide +kernel

/-- Every row of the dictionary, over all areas (R171). -/
def dictRows : List ObjRow :=
  dictRows00 ++ dictRows01 ++ dictRows08 ++ dictRows10 ++ dictRows20 ++ dictRows40 ++ dictRows50 ++ dictRows60 ++ dictRows70
    ++ dictRows78 ++ dictRows7C ++ dictRows7E ++ dictRows80

theorem lookup_00 (r : ObjRow) (hr : r ∈ dictRows00) (ix : List Nat) (h : idxOk r.strides ix = true) : lookup (r.at' ix) = some (r, ix) :=
  lookup_area dictRows00 0 0 (fun a h1 h2 => by simp [dictArea, show a = 0 by omega]) allApart_00 (by decide +kernel) r hr ix h

theorem lookup_01 (r : ObjRow) (hr : r ∈ dictRows01) (ix : List Nat) (h : idxOk r.strides ix = true) : lookup (r.at' ix) = some (r, ix) :=
  lookup_area dictRows01 1 1 (fun a h1 h2 => by simp [dictArea, show a = 1 by omega]) allApart_01 (by decide +kernel) r hr ix h

theorem lookup_08 (r : ObjRow) (hr : r ∈ dictRows08) (ix : List Nat) (h : idxOk r.strides ix = true) : lookup (r.at' ix) = some (r, ix) :=
  lookup_area dictRows08 8 8 (fun a h1 h2 => by simp [dictArea, show a = 8 by omega]) allApart_08 (by decide +kernel) r hr ix h

theorem lookup_10 (r : ObjRow) (hr : r ∈ dictRows10) (ix : List Nat) (h : idxOk r.strides ix = true) : lookup (r.at' ix) = some (r, ix) :=
  lookup_area dictRows10 0x10 0x1B (fun a h1 h2 => by
    have : a ≠ 0 ∧ a ≠ 1 ∧ a ≠ 8 := by omega
    simp [dictArea, this, h1, h2]) allApart_10 (by decide +kernel) r hr ix h

theorem lookup_20 (r : ObjRow) (hr : r ∈ dictRows20) (ix : List Nat) (h : idxOk r.strides ix = true) : lookup (r.at' ix) = some (r, ix) :=
  lookup_area dictRows20 0x20 0x20 (fun a h1 h2 => by simp [dictArea, show a = 0x20 by omega]) allApart_20 (by decide +kernel) r hr ix h

theorem findRow_filter (l : List ObjRow) (p : ObjRow → Bool) (oid : Nat) (h : ∀ r ∈ l, p r = false → r.index oid = none) :
    findRow l oid = findRow (l.filter p) oid := by
  induction l with
  | nil => rfl
  | cons a t ih =>
    have iht := ih (fun r hr => h r (List.mem_cons_of_mem _ hr))
    by_cases hp : p a = true
    · simp only [List.filter_cons, hp, if_true, findRow]
      rw [iht]
    · have hp' : p a = false := by simpa using hp
      simp only [List.filter_cons, hp', findRow, h a (List.mem_cons_self ..) hp']
      simpa using iht

/-- Area 0x40: the engine's own objects stand where group 0 would, so groups count from 1 (R380). -/
theorem lookup_40 (r : ObjRow) (hr : r ∈ dictRows40) (ix : List Nat) (h : idxOk r.strides ix = true)
    (h0 : r.strides = [(0x100, 16384)] → 1 ≤ ix.headD 0) : lookup (r.at' ix) = some (r, ix) := by
  have ho : rowsOk dictRows40 0x40 0x40 = true := by decide +kernel
  simp only [rowsOk, List.all_eq_true, Bool.and_eq_true, Nat.ble_eq] at ho
  have hrow := ho r hr
  have hm := idxOff_le _ _ h
  have ha : r.at' ix / 16777216 = 0x40 := by
    have h1 : r.base / 16777216 ≤ r.at' ix / 16777216 := Nat.div_le_div_right (Nat.le_add_right _ _)
    have h2 : r.at' ix / 16777216 ≤ (r.base + idxMax r.strides) / 16777216 := Nat.div_le_div_right (Nat.add_le_add_left hm _)
    omega
  unfold lookup
  rw [ha, show dictArea 0x40 = dictRows40 from rfl]
  have he : ∀ x ∈ dictRows40, x.strides = [] → 0x400000C0 ≤ x.base ∧ x.base ≤ 0x400000C2 := by decide +kernel
  by_cases hs : r.strides = []
  · have hd : ∀ x ∈ dictRows40, x.strides = [] → findRow dictRows40 x.base = some (x, []) := by decide +kernel
    cases ix with
    | nil =>
      have := hd r hr hs
      simpa [ObjRow.at', idxOff, hs] using this
    | cons a t => simp [hs, idxOk] at h
  · have hf : ∀ x ∈ dictRows40, x.strides ≠ [] → x.strides ≠ [(0x100, 16384)] → (x.base + idxMax x.strides) % 4294967296 = x.base + idxMax x.strides
        ∧ x.base % 256 + 128 < 0xC0 ∧ idxRest 256 x.strides ≤ 128 := by decide +kernel
    have hne : ∀ x ∈ dictRows40, x.strides = [] → x.index (r.at' ix) = none := by
      intro x hx hxs
      cases hi : x.index (r.at' ix) with
      | none => rfl
      | some jx =>
        have hi := ObjRow.index_some _ _ _ hi
        have hxo : x.at' jx = x.base := by cases jx <;> simp [ObjRow.at', idxOff, hxs]
        have hxb := he x hx hxs
        rw [hxo] at hi
        by_cases hg : r.strides = [(0x100, 16384)]
        · have h1 := h0 hg
          have hb : ∀ y ∈ dictRows40, y.strides = [(0x100, 16384)] → 0x400000C0 ≤ y.base := by decide +kernel
          have hb := hb r hr hg
          cases ix with
          | nil => simp at h1
          | cons a t =>
            have : r.at' (a :: t) = r.base + (0x100 * a + idxOff [] t) := by simp [ObjRow.at', hg, idxOff]
            simp at h1
            omega
        · have hr2 := hf r hr hs hg
          have h2 := at'_mod 256 r ix h (by omega)
          omega
    rw [findRow_filter dictRows40 (fun r => !r.strides.isEmpty) _ (fun x hx hp => hne x hx (by simpa using hp))]
    exact findRow_at' _ r ix allApart_40 (List.mem_filter.2 ⟨hr, by simpa using hs⟩) hrow.1.1 h

theorem lookup_50 (r : ObjRow) (hr : r ∈ dictRows50) (ix : List Nat) (h : idxOk r.strides ix = true) : lookup (r.at' ix) = some (r, ix) :=
  lookup_area dictRows50 0x50 0x50 (fun a h1 h2 => by simp [dictArea, show a = 0x50 by omega]) allApart_50 (by decide +kernel) r hr ix h

theorem lookup_60 (r : ObjRow) (hr : r ∈ dictRows60) (ix : List Nat) (h : idxOk r.strides ix = true) : lookup (r.at' ix) = some (r, ix) :=
  lookup_area dictRows60 0x60 0x60 (fun a h1 h2 => by simp [dictArea, show a = 0x60 by omega]) allApart_60 (by decide +kernel) r hr ix h

theorem lookup_70 (r : ObjRow) (hr : r ∈ dictRows70) (ix : List Nat) (h : idxOk r.strides ix = true) : lookup (r.at' ix) = some (r, ix) :=
  lookup_area dictRows70 0x70 0x70 (fun a h1 h2 => by simp [dictArea, show a = 0x70 by omega]) allApart_70 (by decide +kernel) r hr ix h

theorem lookup_78 (r : ObjRow) (hr : r ∈ dictRows78) (ix : List Nat) (h : idxOk r.strides ix = true) : lookup (r.at' ix) = some (r, ix) :=
  lookup_area dictRows78 0x78 0x78 (fun a h1 h2 => by simp [dictArea, show a = 0x78 by omega]) allApart_78 (by decide +kernel) r hr ix h

theorem lookup_7C (r : ObjRow) (hr : r ∈ dictRows7C) (ix : List Nat) (h : idxOk r.strides ix = true) : lookup (r.at' ix) = some (r, ix) :=
  lookup_area dictRows7C 0x7C 0x7C (fun a h1 h2 => by simp [dictArea, show a = 0x7C by omega]) allApart_7C (by decide +kernel) r hr ix h

theorem lookup_7E (r : ObjRow) (hr : r ∈ dictRows7E) (ix : List Nat) (h : idxOk r.strides ix = true) : lookup (r.at' ix) = some (r, ix) :=
  lookup_area dictRows7E 0x7E 0x7E (fun a h1 h2 => by simp [dictArea, show a = 0x7E by omega]) allApart_7E (by decide +kernel) r hr ix h

theorem lookup_80 (r : ObjRow) (hr : r ∈ dictRows80) (ix : List Nat) (h : idxOk r.strides ix = true) : lookup (r.at' ix) = some (r, ix) :=
  lookup_area dictRows80 0x80 0x83 (fun a h1 h2 => by
    have : a ≠ 0 ∧ a ≠ 1 ∧ a ≠ 8 ∧ ¬ a ≤ 0x1B ∧ a ≠ 0x20 ∧ a ≠ 0x40 ∧ a ≠ 0x50 ∧ a ≠ 0x60 ∧ a ≠ 0x70 ∧ a ≠ 0x78 ∧ a ≠ 0x7C ∧ a ≠ 0x7E := by omega
    simp [dictArea, this, h1, h2]) allApart_80 (by decide +kernel) r hr ix h

end Sys2Proof.Machine
end

