-- ==== Sys2Proof/Laws/Table.lean ====
section
/-! SUPPORT. The laws of the sparse tables: what a read gives after a change, and that every change keeps the canonical form. -/

namespace Sys2Proof.Machine

variable {α : Type}

theorem Tbl.find_nil (n : Nat) : Tbl.find ([] : Tbl α) n = none := rfl

theorem Tbl.find_cons (k : Nat) (a : α) (t : Tbl α) (n : Nat) :
    Tbl.find ((k, a) :: t) n = if k = n then some a else Tbl.find t n := rfl

/-- What is listed under a number after it has been listed. -/
theorem Tbl.find_ins_same (t : Tbl α) (n : Nat) (a : α) : Tbl.find (Tbl.ins t n a) n = some a := by
  induction t with
  | nil => simp [Tbl.ins, Tbl.find]
  | cons e t ih =>
    obtain ⟨k, b⟩ := e
    by_cases h : k = n
    · simp [Tbl.ins, Tbl.find, h]
    · by_cases g : n < k <;> simp [Tbl.ins, Tbl.find, h, g, ih]

/-- Listing one number leaves every other as it was. -/
theorem Tbl.find_ins_other (t : Tbl α) (n m : Nat) (a : α) (h : n ≠ m) : Tbl.find (Tbl.ins t n a) m = Tbl.find t m := by
  induction t with
  | nil => simp [Tbl.ins, Tbl.find, h]
  | cons e t ih =>
    obtain ⟨k, b⟩ := e
    by_cases g : k = n
    · subst g
      simp [Tbl.ins, Tbl.find, h]
    · by_cases g' : n < k
      · simp [Tbl.ins, Tbl.find, g, g', h]
      · simp [Tbl.ins, Tbl.find, g, g', ih]

/-- Nothing is listed under a number that has been removed. -/
theorem Tbl.find_del_same (t : Tbl α) (n : Nat) : Tbl.find (Tbl.del t n) n = none := by
  induction t with
  | nil => rfl
  | cons e t ih =>
    obtain ⟨k, b⟩ := e
    by_cases h : k = n
    · simpa [Tbl.del, List.filter, h] using ih
    · have hk : (k != n) = true := by simp [h]
      simp only [Tbl.del, List.filter, hk] at ih ⊢
      simpa [Tbl.find, h] using ih

/-- Removing one number leaves every other as it was. -/
theorem Tbl.find_del_other (t : Tbl α) (n m : Nat) (h : n ≠ m) : Tbl.find (Tbl.del t n) m = Tbl.find t m := by
  induction t with
  | nil => rfl
  | cons e t ih =>
    obtain ⟨k, b⟩ := e
    by_cases g : k = n
    · have hk : (k != n) = false := by simp [g]
      simp only [Tbl.del, List.filter, hk] at ih ⊢
      simpa [Tbl.find, g, h] using ih
    · have hk : (k != n) = true := by simp [g]
      simp only [Tbl.del, List.filter, hk] at ih ⊢
      simp [Tbl.find, ih]

/-- A read after a write of the same number gives the value written. -/
@[simp] theorem Tbl.get_put_same [DecidableEq α] (d : α) (t : Tbl α) (n : Nat) (a : α) : Tbl.get d (Tbl.put d t n a) n = a := by
  unfold Tbl.get Tbl.put
  split
  · next h => simp [Tbl.find_del_same, h]
  · simp [Tbl.find_ins_same]

/-- A write of one number leaves every other read as it was. -/
theorem Tbl.get_put_other [DecidableEq α] (d d' : α) (t : Tbl α) (n m : Nat) (a : α) (h : n ≠ m) :
    Tbl.get d' (Tbl.put d t n a) m = Tbl.get d' t m := by
  unfold Tbl.get Tbl.put
  split
  · rw [Tbl.find_del_other _ _ _ h]
  · rw [Tbl.find_ins_other _ _ _ _ h]

@[simp] theorem Tbl.wf_nil : Tbl.wf ([] : Tbl α) := List.Pairwise.nil

/-- The numbers of a table after one has been listed. -/
theorem Tbl.mem_ins {t : Tbl α} {n : Nat} {a : α} {e : Nat × α} (h : e ∈ Tbl.ins t n a) : e = (n, a) ∨ e ∈ t := by
  induction t with
  | nil => simpa [Tbl.ins] using h
  | cons x t ih =>
    obtain ⟨k, b⟩ := x
    simp only [Tbl.ins] at h
    split at h
    · simp only [List.mem_cons] at h ⊢
      rcases h with h | h
      · exact .inl h
      · exact .inr (.inr h)
    · split at h
      · simpa using h
      · simp only [List.mem_cons] at h ⊢
        rcases h with h | h
        · exact .inr (.inl h)
        · rcases ih h with h | h
          · exact .inl h
          · exact .inr (.inr h)

/-- Listing a number keeps the canonical form. -/
theorem Tbl.wf_ins {t : Tbl α} (h : Tbl.wf t) (n : Nat) (a : α) : Tbl.wf (Tbl.ins t n a) := by
  unfold Tbl.wf at *
  induction t with
  | nil => simp [Tbl.ins]
  | cons x t ih =>
    obtain ⟨k, b⟩ := x
    rw [List.pairwise_cons] at h
    simp only [Tbl.ins]
    split
    · next g =>
      subst g
      exact List.pairwise_cons.2 ⟨h.1, h.2⟩
    · next g =>
      split
      · next g' =>
        refine List.pairwise_cons.2 ⟨?_, List.pairwise_cons.2 h⟩
        intro e he
        rcases List.mem_cons.1 he with rfl | he
        · exact g'
        · exact Nat.lt_trans g' (h.1 e he)
      · next g' =>
        refine List.pairwise_cons.2 ⟨?_, ih h.2⟩
        intro e he
        rcases Tbl.mem_ins he with rfl | he
        · exact Nat.lt_of_le_of_ne (Nat.not_lt.1 g') g
        · exact h.1 e he

/-- Picking entries keeps the canonical form. -/
theorem Tbl.wf_filter {t : Tbl α} (h : Tbl.wf t) (p : Nat × α → Bool) : Tbl.wf (t.filter p) := List.Pairwise.filter p h

/-- Removing a number keeps the canonical form. -/
theorem Tbl.wf_del {t : Tbl α} (h : Tbl.wf t) (n : Nat) : Tbl.wf (Tbl.del t n) := Tbl.wf_filter h _

/-- A write keeps the canonical form. -/
theorem Tbl.wf_put [DecidableEq α] (d : α) {t : Tbl α} (h : Tbl.wf t) (n : Nat) (a : α) : Tbl.wf (Tbl.put d t n a) := by
  unfold Tbl.put
  split
  · exact Tbl.wf_del h n
  · exact Tbl.wf_ins h n a

/-- No entry of a table that reads `d` where nothing is listed is listed with `d`. -/
def Tbl.Spare (d : α) (t : Tbl α) : Prop := ∀ e ∈ t, e.2 ≠ d

/-- A write lists no entry equal to what an unlisted number reads. -/
theorem Tbl.lean_put [DecidableEq α] (d : α) {t : Tbl α} (h : Tbl.Spare d t) (n : Nat) (a : α) : Tbl.Spare d (Tbl.put d t n a) := by
  unfold Tbl.put
  split
  · intro e he
    exact h e (List.mem_filter.1 he).1
  · next g =>
    intro e he
    rcases Tbl.mem_ins he with rfl | he
    · exact g
    · exact h e he

end Sys2Proof.Machine
end

