-- ==== Sys2Proof/Laws/Memory.lean ====
section
/-! SUPPORT. The laws of the byte stores of chapter 18: a write keeps the canonical form, a read after it gives the bytes written, and every
other byte reads as before. -/

namespace Sys2Proof.Machine

/-- The canonical form of a byte store is that of a table none of whose entries is the 0 of an unlisted byte. -/
theorem Memory.wf_iff (b : Tbl Byte) : Memory.wf b = true ↔ Tbl.wf b ∧ Tbl.Spare 0 b := by
  simp [Memory.wf, Tbl.wf, Tbl.Spare]

@[simp] theorem Memory.wf_nil : Memory.wf [] = true := by simp [Memory.wf]

/-- Writing one byte keeps the canonical form. -/
theorem Memory.wf_put {b : Tbl Byte} (h : Memory.wf b = true) (n : Nat) (x : Byte) : Memory.wf (b.put 0 n x) = true := by
  rw [Memory.wf_iff] at *
  exact ⟨Tbl.wf_put 0 h.1 n x, Tbl.lean_put 0 h.2 n x⟩

/-- Writing bytes keeps the canonical form. -/
theorem Memory.wf_writeAt {b : Tbl Byte} (h : Memory.wf b = true) (off : Nat) (l : List Byte) : Memory.wf (writeAt b off l) = true := by
  induction l generalizing b off with
  | nil => exact h
  | cons x l ih => exact ih (Memory.wf_put h off x) (off + 1)

/-- A byte outside those written reads as before. -/
theorem writeAt_other (b : Tbl Byte) (off : Nat) (l : List Byte) (a : Nat) (h : a < off ∨ off + l.length ≤ a) :
    Tbl.get 0 (writeAt b off l) a = Tbl.get 0 b a := by
  induction l generalizing b off with
  | nil => rfl
  | cons x l ih =>
    simp only [List.length_cons] at h
    rw [writeAt, ih _ (off + 1) (by omega), Tbl.get_put_other _ _ _ _ _ _ (by omega)]

/-- A byte written reads as it was written. -/
theorem writeAt_same (b : Tbl Byte) (off : Nat) (l : List Byte) (i : Nat) (h : i < l.length) :
    Tbl.get 0 (writeAt b off l) (off + i) = l.getD i 0 := by
  induction l generalizing b off i with
  | nil => simp at h
  | cons x l ih =>
    cases i with
    | zero => rw [writeAt, writeAt_other _ _ _ _ (by omega)]; simp
    | succ i =>
      rw [writeAt, show off + (i + 1) = off + 1 + i by omega, ih (b.put 0 off x) (off + 1) i (by simpa using h)]
      simp

/-- Both images stay canonical where one target or the other is shown. -/
theorem State.forTarget_memCanonical {s : State} (h1 : Memory.wf s.mem.image = true) (h2 : Memory.wf s.mem.other.image = true) (twin : Bool) :
    Memory.wf (s.forTarget twin).mem.image = true ∧ Memory.wf (s.forTarget twin).mem.other.image = true := by
  unfold State.forTarget
  split
  · exact ⟨h1, h2⟩
  · exact ⟨h2, h1⟩

/-- Every byte store stays canonical where a load writes an image. -/
theorem State.fwLoad_memCanonical {s : State} (h1 : Memory.wf s.mem.image = true) (h2 : Memory.wf s.mem.other.image = true) (twin : Bool)
    (v : List Byte) : Memory.wf (s.fwLoad twin v).mem.image = true ∧ Memory.wf (s.fwLoad twin v).mem.other.image = true :=
  have h := State.forTarget_memCanonical h1 h2 twin
  ⟨Memory.wf_writeAt h.1 _ _, h.2⟩

/-- The inactive slot stays canonical where a load writes it. -/
theorem State.cfgLoad_memCanonical {s : State} (h1 : Memory.wf s.mem.slot = true) (v : List Byte) : Memory.wf (s.cfgLoad v).mem.slot = true :=
  Memory.wf_writeAt h1 _ _

end Sys2Proof.Machine
end

