-- ==== Sys2Proof/Laws/Oid.lean ====
section
/-! SUPPORT. The identifier and the default of every named object, for rewriting (R171). -/

namespace Sys2Proof.Machine

@[simp] theorem Oid.MODULE_STATE_oid : Oid.MODULE_STATE.oid = 0x00000100 := (rfl)
@[simp] theorem Oid.MODULE_STATE_dflt : Oid.MODULE_STATE.dflt = 0 := (rfl)
@[simp] theorem Oid.ORDER_CODE_oid : Oid.ORDER_CODE.oid = 0x00000200 := (rfl)
@[simp] theorem Oid.ORDER_CODE_dflt : Oid.ORDER_CODE.dflt = 0 := (rfl)
@[simp] theorem Oid.MODULE_STATE_REQ_oid : Oid.MODULE_STATE_REQ.oid = 0x00000110 := (rfl)
@[simp] theorem Oid.MODULE_STATE_REQ_dflt : Oid.MODULE_STATE_REQ.dflt = 0 := (rfl)
@[simp] theorem Oid.HANDOVER_REQ_oid : Oid.HANDOVER_REQ.oid = 0x00000120 := (rfl)
@[simp] theorem Oid.HANDOVER_REQ_dflt : Oid.HANDOVER_REQ.dflt = 0 := (rfl)
@[simp] theorem Oid.PD_STATE_oid : Oid.PD_STATE.oid = 0x00000400 := (rfl)
@[simp] theorem Oid.PD_STATE_dflt : Oid.PD_STATE.dflt = 1 := (rfl)
@[simp] theorem Oid.CK_GOOD_oid : Oid.CK_GOOD.oid = 0x00000401 := (rfl)
@[simp] theorem Oid.CK_GOOD_dflt : Oid.CK_GOOD.dflt = 0 := (rfl)
@[simp] theorem Oid.APP_CORES_ON_oid : Oid.APP_CORES_ON.oid = 0x00000402 := (rfl)
@[simp] theorem Oid.APP_CORES_ON_dflt : Oid.APP_CORES_ON.dflt = 0 := (rfl)
@[simp] theorem Oid.DL_ON_oid : Oid.DL_ON.oid = 0x00000403 := (rfl)
@[simp] theorem Oid.DL_ON_dflt : Oid.DL_ON.dflt = 0 := (rfl)
@[simp] theorem Oid.MI_ON_oid : Oid.MI_ON.oid = 0x00000404 := (rfl)
@[simp] theorem Oid.MI_ON_dflt : Oid.MI_ON.dflt = 0 := (rfl)
@[simp] theorem Oid.FEED_A_MV_oid : Oid.FEED_A_MV.oid = 0x00000410 := (rfl)
@[simp] theorem Oid.FEED_A_MV_dflt : Oid.FEED_A_MV.dflt = 0 := (rfl)
@[simp] theorem Oid.FEED_B_MV_oid : Oid.FEED_B_MV.oid = 0x00000411 := (rfl)
@[simp] theorem Oid.FEED_B_MV_dflt : Oid.FEED_B_MV.dflt = 0 := (rfl)
@[simp] theorem Oid.BANK_MV_oid : Oid.BANK_MV.oid = 0x00000412 := (rfl)
@[simp] theorem Oid.BANK_MV_dflt : Oid.BANK_MV.dflt = 0 := (rfl)
@[simp] theorem Oid.BANK_OK_oid : Oid.BANK_OK.oid = 0x00000413 := (rfl)
@[simp] theorem Oid.BANK_OK_dflt : Oid.BANK_OK.dflt = 0 := (rfl)
@[simp] theorem Oid.BANK_CAP_oid : Oid.BANK_CAP.oid = 0x00000414 := (rfl)
@[simp] theorem Oid.BANK_CAP_dflt : Oid.BANK_CAP.dflt = 0 := (rfl)
@[simp] theorem Oid.DIE_TEMP_oid : Oid.DIE_TEMP.oid = 0x00000415 := (rfl)
@[simp] theorem Oid.DIE_TEMP_dflt : Oid.DIE_TEMP.dflt = 0 := (rfl)
@[simp] theorem Oid.SPRING_STEP_oid : Oid.SPRING_STEP.oid = 0x00000420 := (rfl)
@[simp] theorem Oid.SPRING_STEP_dflt : Oid.SPRING_STEP.dflt = 0 := (rfl)
@[simp] theorem Oid.APP_MIN_AWAKE_oid : Oid.APP_MIN_AWAKE.oid = 0x00000421 := (rfl)
@[simp] theorem Oid.APP_MIN_AWAKE_dflt : Oid.APP_MIN_AWAKE.dflt = 2 := (rfl)
@[simp] theorem Oid.APP_SLEEP_DELAY_oid : Oid.APP_SLEEP_DELAY.oid = 0x00000422 := (rfl)
@[simp] theorem Oid.APP_SLEEP_DELAY_dflt : Oid.APP_SLEEP_DELAY.dflt = 2000 := (rfl)
@[simp] theorem Oid.RESET_CAUSE_oid : Oid.RESET_CAUSE.oid = 0x00000500 := (rfl)
@[simp] theorem Oid.RESET_CAUSE_dflt : Oid.RESET_CAUSE.dflt = 0 := (rfl)
@[simp] theorem Oid.RESET_REACH_oid : Oid.RESET_REACH.oid = 0x00000501 := (rfl)
@[simp] theorem Oid.RESET_REACH_dflt : Oid.RESET_REACH.dflt = 0 := (rfl)
@[simp] theorem Oid.RESET_REQ_oid : Oid.RESET_REQ.oid = 0x00000502 := (rfl)
@[simp] theorem Oid.RESET_REQ_dflt : Oid.RESET_REQ.dflt = 0 := (rfl)
@[simp] theorem Oid.POWER_CYCLES_oid : Oid.POWER_CYCLES.oid = 0x00000503 := (rfl)
@[simp] theorem Oid.POWER_CYCLES_dflt : Oid.POWER_CYCLES.dflt = 0 := (rfl)
@[simp] theorem Oid.RESET_N_STATE_oid : Oid.RESET_N_STATE.oid = 0x00000504 := (rfl)
@[simp] theorem Oid.RESET_N_STATE_dflt : Oid.RESET_N_STATE.dflt = 0 := (rfl)
@[simp] theorem Oid.STRAP_VALUE_oid : Oid.STRAP_VALUE.oid = 0x00000510 := (rfl)
@[simp] theorem Oid.STRAP_VALUE_dflt : Oid.STRAP_VALUE.dflt = 255 := (rfl)
@[simp] theorem Oid.STRAP_RATIO_oid : Oid.STRAP_RATIO.oid = 0x00000511 := (rfl)
@[simp] theorem Oid.STRAP_RATIO_dflt : Oid.STRAP_RATIO.dflt = 0 := (rfl)
@[simp] theorem Oid.BLOCK_RST_oid : Oid.BLOCK_RST.oid = 0x00000520 := (rfl)
@[simp] theorem Oid.BLOCK_RST_dflt : Oid.BLOCK_RST.dflt = 0 := (rfl)
@[simp] theorem Oid.RST_PEND_oid : Oid.RST_PEND.oid = 0x00000521 := (rfl)
@[simp] theorem Oid.RST_PEND_dflt : Oid.RST_PEND.dflt = 0 := (rfl)
@[simp] theorem Oid.BLOCK_IN_RST_oid : Oid.BLOCK_IN_RST.oid = 0x00000522 := (rfl)
@[simp] theorem Oid.BLOCK_IN_RST_dflt : Oid.BLOCK_IN_RST.dflt = 0 := (rfl)
@[simp] theorem Oid.TIME_NOW_oid : Oid.TIME_NOW.oid = 0x08000100 := (rfl)
@[simp] theorem Oid.TIME_NOW_dflt : Oid.TIME_NOW.dflt = 0 := (rfl)
@[simp] theorem Oid.TIME_STATUS_oid : Oid.TIME_STATUS.oid = 0x08000101 := (rfl)
@[simp] theorem Oid.TIME_STATUS_dflt : Oid.TIME_STATUS.dflt = 0 := (rfl)
@[simp] theorem Oid.TIME_OFFSET_NS_oid : Oid.TIME_OFFSET_NS.oid = 0x08000102 := (rfl)
@[simp] theorem Oid.TIME_OFFSET_NS_dflt : Oid.TIME_OFFSET_NS.dflt = 0 := (rfl)
@[simp] theorem Oid.TIME_RATE_PPB_oid : Oid.TIME_RATE_PPB.oid = 0x08000103 := (rfl)
@[simp] theorem Oid.TIME_RATE_PPB_dflt : Oid.TIME_RATE_PPB.dflt = 0 := (rfl)
@[simp] theorem Oid.OPTIME_NOW_oid : Oid.OPTIME_NOW.oid = 0x08000104 := (rfl)
@[simp] theorem Oid.OPTIME_NOW_dflt : Oid.OPTIME_NOW.dflt = 0 := (rfl)
@[simp] theorem Oid.SOLSTICE_COUNT_oid : Oid.SOLSTICE_COUNT.oid = 0x08000105 := (rfl)
@[simp] theorem Oid.SOLSTICE_COUNT_dflt : Oid.SOLSTICE_COUNT.dflt = 0 := (rfl)
@[simp] theorem Oid.TIME_SET_oid : Oid.TIME_SET.oid = 0x08000110 := (rfl)
@[simp] theorem Oid.TIME_SET_dflt : Oid.TIME_SET.dflt = 0 := (rfl)
@[simp] theorem Oid.TIME_STEP_REQ_oid : Oid.TIME_STEP_REQ.oid = 0x08000111 := (rfl)
@[simp] theorem Oid.TIME_STEP_REQ_dflt : Oid.TIME_STEP_REQ.dflt = 0 := (rfl)
@[simp] theorem Oid.HOLDOVER_LIMIT_oid : Oid.HOLDOVER_LIMIT.oid = 0x08000112 := (rfl)
@[simp] theorem Oid.HOLDOVER_LIMIT_dflt : Oid.HOLDOVER_LIMIT.dflt = 3600 := (rfl)
@[simp] theorem Oid.PTP_ROLE_oid (p : Nat) : (Oid.PTP_ROLE p).oid = 0x08000200 + p := (rfl)
@[simp] theorem Oid.PTP_ROLE_dflt (p : Nat) : (Oid.PTP_ROLE p).dflt = 1 := (rfl)
@[simp] theorem Oid.PTP_PROFILE_oid : Oid.PTP_PROFILE.oid = 0x08000300 := (rfl)
@[simp] theorem Oid.PTP_PROFILE_dflt : Oid.PTP_PROFILE.dflt = 0 := (rfl)
@[simp] theorem Oid.PTP_DOMAIN_oid : Oid.PTP_DOMAIN.oid = 0x08000301 := (rfl)
@[simp] theorem Oid.PTP_DOMAIN_dflt : Oid.PTP_DOMAIN.dflt = 0 := (rfl)
@[simp] theorem Oid.PTP_PRIORITY1_oid : Oid.PTP_PRIORITY1.oid = 0x08000302 := (rfl)
@[simp] theorem Oid.PTP_PRIORITY1_dflt : Oid.PTP_PRIORITY1.dflt = 248 := (rfl)
@[simp] theorem Oid.PTP_PRIORITY2_oid : Oid.PTP_PRIORITY2.oid = 0x08000303 := (rfl)
@[simp] theorem Oid.PTP_PRIORITY2_dflt : Oid.PTP_PRIORITY2.dflt = 248 := (rfl)
@[simp] theorem Oid.PTP_SYNC_LOG_oid : Oid.PTP_SYNC_LOG.oid = 0x08000304 := (rfl)
@[simp] theorem Oid.PTP_SYNC_LOG_dflt : Oid.PTP_SYNC_LOG.dflt = -3 := (rfl)
@[simp] theorem Oid.PTP_TRANSPORT_oid : Oid.PTP_TRANSPORT.oid = 0x08000305 := (rfl)
@[simp] theorem Oid.PTP_TRANSPORT_dflt : Oid.PTP_TRANSPORT.dflt = 0 := (rfl)
@[simp] theorem Oid.PTP_GM_ID_oid : Oid.PTP_GM_ID.oid = 0x08000310 := (rfl)
@[simp] theorem Oid.PTP_PORT_STATE_oid (p : Nat) : (Oid.PTP_PORT_STATE p).oid = 0x08000400 + p := (rfl)
@[simp] theorem Oid.PTP_PORT_STATE_dflt (p : Nat) : (Oid.PTP_PORT_STATE p).dflt = 0 := (rfl)
@[simp] theorem Oid.LAUNCH_SUBMIT_oid : Oid.LAUNCH_SUBMIT.oid = 0x08001000 := (rfl)
@[simp] theorem Oid.LAUNCH_CANCEL_oid : Oid.LAUNCH_CANCEL.oid = 0x08001001 := (rfl)
@[simp] theorem Oid.LAUNCH_CANCEL_dflt : Oid.LAUNCH_CANCEL.dflt = 0 := (rfl)
@[simp] theorem Oid.LAUNCH_FREE_oid : Oid.LAUNCH_FREE.oid = 0x08001002 := (rfl)
@[simp] theorem Oid.LAUNCH_FREE_dflt : Oid.LAUNCH_FREE.dflt = 16384 := (rfl)
@[simp] theorem Oid.LAUNCH_PENDING_oid : Oid.LAUNCH_PENDING.oid = 0x08001003 := (rfl)
@[simp] theorem Oid.LAUNCH_PENDING_dflt : Oid.LAUNCH_PENDING.dflt = 0 := (rfl)
@[simp] theorem Oid.LAUNCH_MIN_LEAD_oid : Oid.LAUNCH_MIN_LEAD.oid = 0x08001004 := (rfl)
@[simp] theorem Oid.LAUNCH_MIN_LEAD_dflt : Oid.LAUNCH_MIN_LEAD.dflt = 2000 := (rfl)
@[simp] theorem Oid.LAUNCH_MAX_LEAD_oid : Oid.LAUNCH_MAX_LEAD.oid = 0x08001005 := (rfl)
@[simp] theorem Oid.LAUNCH_MAX_LEAD_dflt : Oid.LAUNCH_MAX_LEAD.dflt = 2678400 := (rfl)
@[simp] theorem Oid.SESSION_COUNT_oid : Oid.SESSION_COUNT.oid = 0x01000100 := (rfl)
@[simp] theorem Oid.SESSION_COUNT_dflt : Oid.SESSION_COUNT.dflt = 0 := (rfl)
@[simp] theorem Oid.SESSION_MAX_oid : Oid.SESSION_MAX.oid = 0x01000101 := (rfl)
@[simp] theorem Oid.SESSION_MAX_dflt : Oid.SESSION_MAX.dflt = 64 := (rfl)
@[simp] theorem Oid.SESSION_IDLE_oid : Oid.SESSION_IDLE.oid = 0x01000102 := (rfl)
@[simp] theorem Oid.SESSION_IDLE_dflt : Oid.SESSION_IDLE.dflt = 60 := (rfl)
@[simp] theorem Oid.PDP_PORTS_oid : Oid.PDP_PORTS.oid = 0x01000103 := (rfl)
@[simp] theorem Oid.PDP_PORTS_dflt : Oid.PDP_PORTS.dflt = 15 := (rfl)
@[simp] theorem Oid.SDO_ENABLE_oid : Oid.SDO_ENABLE.oid = 0x01000104 := (rfl)
@[simp] theorem Oid.SDO_ENABLE_dflt : Oid.SDO_ENABLE.dflt = 1 := (rfl)
@[simp] theorem Oid.SDO_CHANNEL_oid : Oid.SDO_CHANNEL.oid = 0x01000105 := (rfl)
@[simp] theorem Oid.SDO_CHANNEL_dflt : Oid.SDO_CHANNEL.dflt = 0 := (rfl)
@[simp] theorem Oid.SDO_NODE_ID_oid : Oid.SDO_NODE_ID.oid = 0x01000106 := (rfl)
@[simp] theorem Oid.SDO_NODE_ID_dflt : Oid.SDO_NODE_ID.dflt = 1 := (rfl)
@[simp] theorem Oid.SDO_LAST_STATUS_oid : Oid.SDO_LAST_STATUS.oid = 0x01000107 := (rfl)
@[simp] theorem Oid.SDO_LAST_STATUS_dflt : Oid.SDO_LAST_STATUS.dflt = 0 := (rfl)
@[simp] theorem Oid.LAST_KNOWN_TIME_oid : Oid.LAST_KNOWN_TIME.oid = 0x01000108 := (rfl)
@[simp] theorem Oid.LAST_KNOWN_TIME_dflt : Oid.LAST_KNOWN_TIME.dflt = 0 := (rfl)
@[simp] theorem Oid.JOURNAL_USED_oid : Oid.JOURNAL_USED.oid = 0x01000109 := (rfl)
@[simp] theorem Oid.JOURNAL_USED_dflt : Oid.JOURNAL_USED.dflt = 0 := (rfl)
@[simp] theorem Oid.MAP_TYPE_oid (e : Nat) : (Oid.MAP_TYPE e).oid = 0x01100000 + e * 0x100 := (rfl)
@[simp] theorem Oid.MAP_TYPE_dflt (e : Nat) : (Oid.MAP_TYPE e).dflt = 0 := (rfl)
@[simp] theorem Oid.MAP_FPR_oid (e : Nat) : (Oid.MAP_FPR e).oid = 0x01100001 + e * 0x100 := (rfl)
@[simp] theorem Oid.MAP_CA_oid (e : Nat) : (Oid.MAP_CA e).oid = 0x01100002 + e * 0x100 := (rfl)
@[simp] theorem Oid.MAP_CA_dflt (e : Nat) : (Oid.MAP_CA e).dflt = 0 := (rfl)
@[simp] theorem Oid.MAP_CN_oid (e : Nat) : (Oid.MAP_CN e).oid = 0x01100003 + e * 0x100 := (rfl)
@[simp] theorem Oid.MAP_PARTS_oid (e : Nat) : (Oid.MAP_PARTS e).oid = 0x01100004 + e * 0x100 := (rfl)
@[simp] theorem Oid.MAP_SESSIONS_oid (e : Nat) : (Oid.MAP_SESSIONS e).oid = 0x01100005 + e * 0x100 := (rfl)
@[simp] theorem Oid.MAP_SESSIONS_dflt (e : Nat) : (Oid.MAP_SESSIONS e).dflt = 4 := (rfl)
@[simp] theorem Oid.MAP_SAFETY_oid (e : Nat) : (Oid.MAP_SAFETY e).oid = 0x01100006 + e * 0x100 := (rfl)
@[simp] theorem Oid.MAP_SAFETY_dflt (e : Nat) : (Oid.MAP_SAFETY e).dflt = 0 := (rfl)
@[simp] theorem Oid.HOST_CA_oid (c : Nat) : (Oid.HOST_CA c).oid = 0x01110000 + c * 0x100 := (rfl)
@[simp] theorem Oid.HOST_CA_FPR_oid (c : Nat) : (Oid.HOST_CA_FPR c).oid = 0x01110001 + c * 0x100 := (rfl)
@[simp] theorem Oid.PART_ENABLE_oid (p : Nat) : (Oid.PART_ENABLE p).oid = 0x01200000 + p * 0x100 := (rfl)
@[simp] theorem Oid.PART_ENABLE_dflt (p : Nat) : (Oid.PART_ENABLE p).dflt = 0 := (rfl)
@[simp] theorem Oid.PART_NAME_oid (p : Nat) : (Oid.PART_NAME p).oid = 0x01200001 + p * 0x100 := (rfl)
@[simp] theorem Oid.PART_POINTS_oid (p : Nat) : (Oid.PART_POINTS p).oid = 0x01200002 + p * 0x100 := (rfl)
@[simp] theorem Oid.PART_POINTS_dflt (p : Nat) : (Oid.PART_POINTS p).dflt = 0 := (rfl)
@[simp] theorem Oid.SESS_STATE_oid (s : Nat) : (Oid.SESS_STATE s).oid = 0x01400000 + s * 0x100 := (rfl)
@[simp] theorem Oid.SESS_STATE_dflt (s : Nat) : (Oid.SESS_STATE s).dflt = 0 := (rfl)
@[simp] theorem Oid.SESS_PARTITION_oid (s : Nat) : (Oid.SESS_PARTITION s).oid = 0x01400001 + s * 0x100 := (rfl)
@[simp] theorem Oid.SESS_PARTITION_dflt (s : Nat) : (Oid.SESS_PARTITION s).dflt = 0 := (rfl)
@[simp] theorem Oid.SESS_PORT_oid (s : Nat) : (Oid.SESS_PORT s).oid = 0x01400002 + s * 0x100 := (rfl)
@[simp] theorem Oid.SESS_PORT_dflt (s : Nat) : (Oid.SESS_PORT s).dflt = 0 := (rfl)
@[simp] theorem Oid.SESS_FPR_oid (s : Nat) : (Oid.SESS_FPR s).oid = 0x01400003 + s * 0x100 := (rfl)
@[simp] theorem Oid.SESS_OPENED_oid (s : Nat) : (Oid.SESS_OPENED s).oid = 0x01400004 + s * 0x100 := (rfl)
@[simp] theorem Oid.SESS_OPENED_dflt (s : Nat) : (Oid.SESS_OPENED s).dflt = 0 := (rfl)
@[simp] theorem Oid.SESS_CLOSE_oid (s : Nat) : (Oid.SESS_CLOSE s).oid = 0x01400005 + s * 0x100 := (rfl)
@[simp] theorem Oid.SESS_CLOSE_dflt (s : Nat) : (Oid.SESS_CLOSE s).dflt = 0 := (rfl)
@[simp] theorem Oid.PGRP_PARTITION_oid (g : Nat) : (Oid.PGRP_PARTITION g).oid = 0x01500000 + g * 0x100 := (rfl)
@[simp] theorem Oid.PGRP_PARTITION_dflt (g : Nat) : (Oid.PGRP_PARTITION g).dflt = 0 := (rfl)
@[simp] theorem Oid.PGRP_MEMBERS_oid (g : Nat) : (Oid.PGRP_MEMBERS g).oid = 0x01500001 + g * 0x100 := (rfl)
@[simp] theorem Oid.PT_PV_oid (p : Nat) : (Oid.PT_PV p).oid = 0x80000000 + p * 0x100 := (rfl)
@[simp] theorem Oid.PT_PV_dflt (p : Nat) : (Oid.PT_PV p).dflt = 0 := (rfl)
@[simp] theorem Oid.PT_TYPE_oid (p : Nat) : (Oid.PT_TYPE p).oid = 0x80000001 + p * 0x100 := (rfl)
@[simp] theorem Oid.PT_TYPE_dflt (p : Nat) : (Oid.PT_TYPE p).dflt = 0 := (rfl)
@[simp] theorem Oid.PT_PARTITION_oid (p : Nat) : (Oid.PT_PARTITION p).oid = 0x80000002 + p * 0x100 := (rfl)
@[simp] theorem Oid.PT_PARTITION_dflt (p : Nat) : (Oid.PT_PARTITION p).dflt = 0 := (rfl)
@[simp] theorem Oid.PT_ENABLE_oid (p : Nat) : (Oid.PT_ENABLE p).oid = 0x80000003 + p * 0x100 := (rfl)
@[simp] theorem Oid.PT_ENABLE_dflt (p : Nat) : (Oid.PT_ENABLE p).dflt = 0 := (rfl)
@[simp] theorem Oid.PT_CLASS_oid (p : Nat) : (Oid.PT_CLASS p).oid = 0x80000004 + p * 0x100 := (rfl)
@[simp] theorem Oid.PT_CLASS_dflt (p : Nat) : (Oid.PT_CLASS p).dflt = 3 := (rfl)
@[simp] theorem Oid.PT_STATUS_oid (p : Nat) : (Oid.PT_STATUS p).oid = 0x80000005 + p * 0x100 := (rfl)
@[simp] theorem Oid.PT_STATUS_dflt (p : Nat) : (Oid.PT_STATUS p).dflt = 0 := (rfl)
@[simp] theorem Oid.PT_SOURCE_oid (p : Nat) : (Oid.PT_SOURCE p).oid = 0x80000006 + p * 0x100 := (rfl)
@[simp] theorem Oid.PT_SINK_oid (p : Nat) : (Oid.PT_SINK p).oid = 0x80000007 + p * 0x100 := (rfl)
@[simp] theorem Oid.PT_RELINQUISH_DEFAULT_oid (p : Nat) : (Oid.PT_RELINQUISH_DEFAULT p).oid = 0x80000008 + p * 0x100 := (rfl)
@[simp] theorem Oid.PT_RELINQUISH_DEFAULT_dflt (p : Nat) : (Oid.PT_RELINQUISH_DEFAULT p).dflt = 0 := (rfl)
@[simp] theorem Oid.PT_PRIORITY_SLOT_oid (p : Nat) (r : Nat) : (Oid.PT_PRIORITY_SLOT p r).oid = 0x80000010 + p * 0x100 + r := (rfl)
@[simp] theorem Oid.PT_PRIORITY_SLOT_dflt (p : Nat) (r : Nat) : (Oid.PT_PRIORITY_SLOT p r).dflt = 0 := (rfl)
@[simp] theorem Oid.PT_PA_MASK_oid (p : Nat) : (Oid.PT_PA_MASK p).oid = 0x80000020 + p * 0x100 := (rfl)
@[simp] theorem Oid.PT_PA_MASK_dflt (p : Nat) : (Oid.PT_PA_MASK p).dflt = 0 := (rfl)
@[simp] theorem Oid.PT_ACTIVE_PRIORITY_oid (p : Nat) : (Oid.PT_ACTIVE_PRIORITY p).oid = 0x80000021 + p * 0x100 := (rfl)
@[simp] theorem Oid.PT_ACTIVE_PRIORITY_dflt (p : Nat) : (Oid.PT_ACTIVE_PRIORITY p).dflt = 0 := (rfl)
@[simp] theorem Oid.PT_COV_INCREMENT_oid (p : Nat) : (Oid.PT_COV_INCREMENT p).oid = 0x80000022 + p * 0x100 := (rfl)
@[simp] theorem Oid.PT_COV_INCREMENT_dflt (p : Nat) : (Oid.PT_COV_INCREMENT p).dflt = 0 := (rfl)
@[simp] theorem Oid.PT_NAME_oid (p : Nat) : (Oid.PT_NAME p).oid = 0x80000023 + p * 0x100 := (rfl)
@[simp] theorem Oid.PT_UNITS_oid (p : Nat) : (Oid.PT_UNITS p).oid = 0x80000024 + p * 0x100 := (rfl)
@[simp] theorem Oid.PT_UNITS_dflt (p : Nat) : (Oid.PT_UNITS p).dflt = 95 := (rfl)
@[simp] theorem Oid.PT_LAST_CHANGE_oid (p : Nat) : (Oid.PT_LAST_CHANGE p).oid = 0x80000025 + p * 0x100 := (rfl)
@[simp] theorem Oid.PT_LAST_CHANGE_dflt (p : Nat) : (Oid.PT_LAST_CHANGE p).dflt = 0 := (rfl)
@[simp] theorem Oid.PT_STATE_COUNT_oid (p : Nat) : (Oid.PT_STATE_COUNT p).oid = 0x80000026 + p * 0x100 := (rfl)
@[simp] theorem Oid.PT_STATE_COUNT_dflt (p : Nat) : (Oid.PT_STATE_COUNT p).dflt = 2 := (rfl)
@[simp] theorem Oid.PT_OUT_OF_SERVICE_oid (p : Nat) : (Oid.PT_OUT_OF_SERVICE p).oid = 0x80000027 + p * 0x100 := (rfl)
@[simp] theorem Oid.PT_OUT_OF_SERVICE_dflt (p : Nat) : (Oid.PT_OUT_OF_SERVICE p).dflt = 0 := (rfl)
@[simp] theorem Oid.PT_BACNET_INSTANCE_oid (p : Nat) : (Oid.PT_BACNET_INSTANCE p).oid = 0x80000028 + p * 0x100 := (rfl)
@[simp] theorem Oid.PT_BACNET_INSTANCE_dflt (p : Nat) : (Oid.PT_BACNET_INSTANCE p).dflt = p := (rfl)
@[simp] theorem Oid.PT_SCALE_oid (p : Nat) : (Oid.PT_SCALE p).oid = 0x80000029 + p * 0x100 := (rfl)
@[simp] theorem Oid.PT_SCALE_dflt (p : Nat) : (Oid.PT_SCALE p).dflt = 1065353216 := (rfl)
@[simp] theorem Oid.PT_OFFSET_oid (p : Nat) : (Oid.PT_OFFSET p).oid = 0x8000002A + p * 0x100 := (rfl)
@[simp] theorem Oid.PT_OFFSET_dflt (p : Nat) : (Oid.PT_OFFSET p).dflt = 0 := (rfl)
@[simp] theorem Oid.ACC_CAPACITY_oid (a : Nat) : (Oid.ACC_CAPACITY a).oid = 0x7E000000 + a * 0x100 := (rfl)
@[simp] theorem Oid.ACC_CAPACITY_dflt (a : Nat) : (Oid.ACC_CAPACITY a).dflt = 0 := (rfl)
@[simp] theorem Oid.ACC_LOAD_oid (a : Nat) (r : Nat) : (Oid.ACC_LOAD a r).oid = 0x7E000001 + a * 0x100 + r := (rfl)
@[simp] theorem Oid.ACC_LOAD_dflt (a : Nat) (r : Nat) : (Oid.ACC_LOAD a r).dflt = 0 := (rfl)
@[simp] theorem Oid.ACC_HEALTHY_oid (a : Nat) : (Oid.ACC_HEALTHY a).oid = 0x7E000005 + a * 0x100 := (rfl)
@[simp] theorem Oid.ACC_HEALTHY_dflt (a : Nat) : (Oid.ACC_HEALTHY a).dflt = 0 := (rfl)
@[simp] theorem Oid.ACC_ITEMS_oid (a : Nat) : (Oid.ACC_ITEMS a).oid = 0x7E000006 + a * 0x100 := (rfl)
@[simp] theorem Oid.ACC_ITEMS_dflt (a : Nat) : (Oid.ACC_ITEMS a).dflt = 0 := (rfl)
@[simp] theorem Oid.ACC_DEGRADED_oid (a : Nat) : (Oid.ACC_DEGRADED a).oid = 0x7E000007 + a * 0x100 := (rfl)
@[simp] theorem Oid.ACC_DEGRADED_dflt (a : Nat) : (Oid.ACC_DEGRADED a).dflt = 0 := (rfl)
@[simp] theorem Oid.ACC_REFUSALS_oid (a : Nat) : (Oid.ACC_REFUSALS a).oid = 0x7E000008 + a * 0x100 := (rfl)
@[simp] theorem Oid.ACC_REFUSALS_dflt (a : Nat) : (Oid.ACC_REFUSALS a).dflt = 0 := (rfl)
@[simp] theorem Oid.CAN_MODE_oid (c : Nat) : (Oid.CAN_MODE c).oid = 0x01300000 + c * 0x100 := (rfl)
@[simp] theorem Oid.CAN_MODE_dflt (c : Nat) : (Oid.CAN_MODE c).dflt = 0 := (rfl)
@[simp] theorem Oid.CAN_NBR_oid (c : Nat) : (Oid.CAN_NBR c).oid = 0x01300001 + c * 0x100 := (rfl)
@[simp] theorem Oid.CAN_NBR_dflt (c : Nat) : (Oid.CAN_NBR c).dflt = 500000 := (rfl)
@[simp] theorem Oid.CAN_DBR_oid (c : Nat) : (Oid.CAN_DBR c).oid = 0x01300002 + c * 0x100 := (rfl)
@[simp] theorem Oid.CAN_DBR_dflt (c : Nat) : (Oid.CAN_DBR c).dflt = 0 := (rfl)
@[simp] theorem Oid.CAN_NSP_oid (c : Nat) : (Oid.CAN_NSP c).oid = 0x01300003 + c * 0x100 := (rfl)
@[simp] theorem Oid.CAN_NSP_dflt (c : Nat) : (Oid.CAN_NSP c).dflt = 800 := (rfl)
@[simp] theorem Oid.CAN_DSP_oid (c : Nat) : (Oid.CAN_DSP c).oid = 0x01300004 + c * 0x100 := (rfl)
@[simp] theorem Oid.CAN_DSP_dflt (c : Nat) : (Oid.CAN_DSP c).dflt = 750 := (rfl)
@[simp] theorem Oid.CAN_STATE_oid (c : Nat) : (Oid.CAN_STATE c).oid = 0x01300005 + c * 0x100 := (rfl)
@[simp] theorem Oid.CAN_STATE_dflt (c : Nat) : (Oid.CAN_STATE c).dflt = 0 := (rfl)
@[simp] theorem Oid.CAN_TEC_oid (c : Nat) : (Oid.CAN_TEC c).oid = 0x01300006 + c * 0x100 := (rfl)
@[simp] theorem Oid.CAN_TEC_dflt (c : Nat) : (Oid.CAN_TEC c).dflt = 0 := (rfl)
@[simp] theorem Oid.CAN_REC_oid (c : Nat) : (Oid.CAN_REC c).oid = 0x01300007 + c * 0x100 := (rfl)
@[simp] theorem Oid.CAN_REC_dflt (c : Nat) : (Oid.CAN_REC c).dflt = 0 := (rfl)
@[simp] theorem Oid.CAN_BUSOFF_AUTO_oid (c : Nat) : (Oid.CAN_BUSOFF_AUTO c).oid = 0x01300008 + c * 0x100 := (rfl)
@[simp] theorem Oid.CAN_BUSOFF_AUTO_dflt (c : Nat) : (Oid.CAN_BUSOFF_AUTO c).dflt = 1 := (rfl)
@[simp] theorem Oid.CAN_BUSOFF_REQ_oid (c : Nat) : (Oid.CAN_BUSOFF_REQ c).oid = 0x01300009 + c * 0x100 := (rfl)
@[simp] theorem Oid.CAN_BUSOFF_REQ_dflt (c : Nat) : (Oid.CAN_BUSOFF_REQ c).dflt = 0 := (rfl)
@[simp] theorem Oid.CAN_T_CYCLE_oid (c : Nat) : (Oid.CAN_T_CYCLE c).oid = 0x0130000A + c * 0x100 := (rfl)
@[simp] theorem Oid.CAN_T_CYCLE_dflt (c : Nat) : (Oid.CAN_T_CYCLE c).dflt = 10000 := (rfl)
@[simp] theorem Oid.CAN_PHASE_oid (c : Nat) : (Oid.CAN_PHASE c).oid = 0x0130000B + c * 0x100 := (rfl)
@[simp] theorem Oid.CAN_PHASE_dflt (c : Nat) : (Oid.CAN_PHASE c).dflt = 0 := (rfl)
@[simp] theorem Oid.CAN_ROWS_oid (c : Nat) : (Oid.CAN_ROWS c).oid = 0x0130000C + c * 0x100 := (rfl)
@[simp] theorem Oid.CAN_ROWS_dflt (c : Nat) : (Oid.CAN_ROWS c).dflt = 1 := (rfl)
@[simp] theorem Oid.CAN_REF_ID_oid (c : Nat) : (Oid.CAN_REF_ID c).oid = 0x0130000D + c * 0x100 := (rfl)
@[simp] theorem Oid.CAN_REF_ID_dflt (c : Nat) : (Oid.CAN_REF_ID c).dflt = 1 := (rfl)
@[simp] theorem Oid.CAN_COLUMNS_oid (c : Nat) : (Oid.CAN_COLUMNS c).oid = 0x0130000E + c * 0x100 := (rfl)
@[simp] theorem Oid.CAN_CYCLE_oid (c : Nat) : (Oid.CAN_CYCLE c).oid = 0x0130000F + c * 0x100 := (rfl)
@[simp] theorem Oid.CAN_CYCLE_dflt (c : Nat) : (Oid.CAN_CYCLE c).dflt = 0 := (rfl)
@[simp] theorem Oid.CAN_UNMATCHED_oid (c : Nat) : (Oid.CAN_UNMATCHED c).oid = 0x01300010 + c * 0x100 := (rfl)
@[simp] theorem Oid.CAN_UNMATCHED_dflt (c : Nat) : (Oid.CAN_UNMATCHED c).dflt = 0 := (rfl)
@[simp] theorem Oid.CAN_COLLISIONS_oid (c : Nat) : (Oid.CAN_COLLISIONS c).oid = 0x01300011 + c * 0x100 := (rfl)
@[simp] theorem Oid.CAN_COLLISIONS_dflt (c : Nat) : (Oid.CAN_COLLISIONS c).dflt = 0 := (rfl)
@[simp] theorem Oid.CAN_COLL_OWN_oid (c : Nat) : (Oid.CAN_COLL_OWN c).oid = 0x01300012 + c * 0x100 := (rfl)
@[simp] theorem Oid.CAN_COLL_OTHER_oid (c : Nat) : (Oid.CAN_COLL_OTHER c).oid = 0x01300013 + c * 0x100 := (rfl)
@[simp] theorem Oid.CAN_DETECT_TABLE_oid (c : Nat) : (Oid.CAN_DETECT_TABLE c).oid = 0x01300014 + c * 0x100 := (rfl)
@[simp] theorem Oid.CAN_DETECT_DWELL_oid (c : Nat) : (Oid.CAN_DETECT_DWELL c).oid = 0x01300015 + c * 0x100 := (rfl)
@[simp] theorem Oid.CAN_DETECT_DWELL_dflt (c : Nat) : (Oid.CAN_DETECT_DWELL c).dflt = 500 := (rfl)
@[simp] theorem Oid.CAN_DETECT_RESULT_oid (c : Nat) : (Oid.CAN_DETECT_RESULT c).oid = 0x01300016 + c * 0x100 := (rfl)
@[simp] theorem Oid.CAN_DETECT_RESULT_dflt (c : Nat) : (Oid.CAN_DETECT_RESULT c).dflt = 255 := (rfl)
@[simp] theorem Oid.CAN_DETECT_FLAGS_oid (c : Nat) : (Oid.CAN_DETECT_FLAGS c).oid = 0x01300017 + c * 0x100 := (rfl)
@[simp] theorem Oid.CAN_DETECT_FLAGS_dflt (c : Nat) : (Oid.CAN_DETECT_FLAGS c).dflt = 0 := (rfl)
@[simp] theorem Oid.CAN_NMT_MASTER_oid (c : Nat) : (Oid.CAN_NMT_MASTER c).oid = 0x01300018 + c * 0x100 := (rfl)
@[simp] theorem Oid.CAN_NMT_MASTER_dflt (c : Nat) : (Oid.CAN_NMT_MASTER c).dflt = 0 := (rfl)
@[simp] theorem Oid.ENT_DESC_oid (c : Nat) (e : Nat) : (Oid.ENT_DESC c e).oid = 0x01600000 + c * 0x10000 + e * 0x100 := (rfl)
@[simp] theorem Oid.ENT_STATE_oid (c : Nat) (e : Nat) : (Oid.ENT_STATE c e).oid = 0x01600001 + c * 0x10000 + e * 0x100 := (rfl)
@[simp] theorem Oid.ENT_STATE_dflt (c : Nat) (e : Nat) : (Oid.ENT_STATE c e).dflt = 0 := (rfl)
@[simp] theorem Oid.ENT_MISSED_oid (c : Nat) (e : Nat) : (Oid.ENT_MISSED c e).oid = 0x01600002 + c * 0x10000 + e * 0x100 := (rfl)
@[simp] theorem Oid.ENT_MISSED_dflt (c : Nat) (e : Nat) : (Oid.ENT_MISSED c e).dflt = 0 := (rfl)
@[simp] theorem Oid.ENT_CONFLICTS_oid (c : Nat) (e : Nat) : (Oid.ENT_CONFLICTS c e).oid = 0x01600003 + c * 0x10000 + e * 0x100 := (rfl)
@[simp] theorem Oid.ENT_CONFLICTS_dflt (c : Nat) (e : Nat) : (Oid.ENT_CONFLICTS c e).dflt = 0 := (rfl)
@[simp] theorem Oid.ENT_ACK_oid (c : Nat) (e : Nat) : (Oid.ENT_ACK c e).oid = 0x01600004 + c * 0x10000 + e * 0x100 := (rfl)
@[simp] theorem Oid.ENT_ACK_dflt (c : Nat) (e : Nat) : (Oid.ENT_ACK c e).dflt = 0 := (rfl)
@[simp] theorem Oid.RXB_oid (c : Nat) (b : Nat) : (Oid.RXB c b).oid = 0x01700000 + c * 0x10000 + b * 0x100 := (rfl)
@[simp] theorem Oid.RXB_STATUS_oid (c : Nat) (b : Nat) : (Oid.RXB_STATUS c b).oid = 0x01700001 + c * 0x10000 + b * 0x100 := (rfl)
@[simp] theorem Oid.RXB_STATUS_dflt (c : Nat) (b : Nat) : (Oid.RXB_STATUS c b).dflt = 0 := (rfl)
@[simp] theorem Oid.RXB_ID_oid (c : Nat) (b : Nat) : (Oid.RXB_ID c b).oid = 0x01700002 + c * 0x10000 + b * 0x100 := (rfl)
@[simp] theorem Oid.RXB_ID_dflt (c : Nat) (b : Nat) : (Oid.RXB_ID c b).dflt = 0 := (rfl)
@[simp] theorem Oid.RXB_TIME_oid (c : Nat) (b : Nat) : (Oid.RXB_TIME c b).oid = 0x01700003 + c * 0x10000 + b * 0x100 := (rfl)
@[simp] theorem Oid.RXB_TIME_dflt (c : Nat) (b : Nat) : (Oid.RXB_TIME c b).dflt = 0 := (rfl)
@[simp] theorem Oid.RXB_DATA_oid (c : Nat) (b : Nat) : (Oid.RXB_DATA c b).oid = 0x01700004 + c * 0x10000 + b * 0x100 := (rfl)
@[simp] theorem Oid.RXB_FILTER_oid (c : Nat) (b : Nat) : (Oid.RXB_FILTER c b).oid = 0x01700005 + c * 0x10000 + b * 0x100 := (rfl)
@[simp] theorem Oid.RXB_FILTER_dflt (c : Nat) (b : Nat) : (Oid.RXB_FILTER c b).dflt = 0 := (rfl)
@[simp] theorem Oid.RXB_ACK_oid (c : Nat) (b : Nat) : (Oid.RXB_ACK c b).oid = 0x01700006 + c * 0x10000 + b * 0x100 := (rfl)
@[simp] theorem Oid.RXB_ACK_dflt (c : Nat) (b : Nat) : (Oid.RXB_ACK c b).dflt = 0 := (rfl)
@[simp] theorem Oid.TXB_DATA_oid (c : Nat) (t : Nat) : (Oid.TXB_DATA c t).oid = 0x01780000 + c * 0x10000 + t * 0x100 := (rfl)
@[simp] theorem Oid.TXB_ID_oid (c : Nat) (t : Nat) : (Oid.TXB_ID c t).oid = 0x01780001 + c * 0x10000 + t * 0x100 := (rfl)
@[simp] theorem Oid.TXB_ID_dflt (c : Nat) (t : Nat) : (Oid.TXB_ID c t).dflt = 0 := (rfl)
@[simp] theorem Oid.TXB_FRAME_oid (c : Nat) (t : Nat) : (Oid.TXB_FRAME c t).oid = 0x01780002 + c * 0x10000 + t * 0x100 := (rfl)
@[simp] theorem Oid.TXB_FRAME_dflt (c : Nat) (t : Nat) : (Oid.TXB_FRAME c t).dflt = 0 := (rfl)
@[simp] theorem Oid.TXB_CTRL_oid (c : Nat) (t : Nat) : (Oid.TXB_CTRL c t).oid = 0x01780003 + c * 0x10000 + t * 0x100 := (rfl)
@[simp] theorem Oid.TXB_CTRL_dflt (c : Nat) (t : Nat) : (Oid.TXB_CTRL c t).dflt = 0 := (rfl)
@[simp] theorem Oid.TXB_STATUS_oid (c : Nat) (t : Nat) : (Oid.TXB_STATUS c t).oid = 0x01780004 + c * 0x10000 + t * 0x100 := (rfl)
@[simp] theorem Oid.TXB_STATUS_dflt (c : Nat) (t : Nat) : (Oid.TXB_STATUS c t).dflt = 0 := (rfl)
@[simp] theorem Oid.TXB_TIME_oid (c : Nat) (t : Nat) : (Oid.TXB_TIME c t).oid = 0x01780005 + c * 0x10000 + t * 0x100 := (rfl)
@[simp] theorem Oid.TXB_TIME_dflt (c : Nat) (t : Nat) : (Oid.TXB_TIME c t).dflt = 0 := (rfl)
@[simp] theorem Oid.MAP_DESC_oid (h : Nat) : (Oid.MAP_DESC h).oid = 0x01800000 + h * 0x100 := (rfl)
@[simp] theorem Oid.ENC_POS_oid (n : Nat) : (Oid.ENC_POS n).oid = 0x10010000 + n * 0x1000000 := (rfl)
@[simp] theorem Oid.ENC_POS_dflt (n : Nat) : (Oid.ENC_POS n).dflt = 0 := (rfl)
@[simp] theorem Oid.ENC_RAW_oid (n : Nat) : (Oid.ENC_RAW n).oid = 0x10010001 + n * 0x1000000 := (rfl)
@[simp] theorem Oid.ENC_RAW_dflt (n : Nat) : (Oid.ENC_RAW n).dflt = 0 := (rfl)
@[simp] theorem Oid.ENC_NUM_oid (n : Nat) : (Oid.ENC_NUM n).oid = 0x10010002 + n * 0x1000000 := (rfl)
@[simp] theorem Oid.ENC_NUM_dflt (n : Nat) : (Oid.ENC_NUM n).dflt = 64 := (rfl)
@[simp] theorem Oid.ENC_DEN_oid (n : Nat) : (Oid.ENC_DEN n).oid = 0x10010003 + n * 0x1000000 := (rfl)
@[simp] theorem Oid.ENC_DEN_dflt (n : Nat) : (Oid.ENC_DEN n).dflt = 1 := (rfl)
@[simp] theorem Oid.ENC_INVERT_oid (n : Nat) : (Oid.ENC_INVERT n).oid = 0x10010004 + n * 0x1000000 := (rfl)
@[simp] theorem Oid.ENC_INVERT_dflt (n : Nat) : (Oid.ENC_INVERT n).dflt = 0 := (rfl)
@[simp] theorem Oid.ENC_OFFSET_oid (n : Nat) : (Oid.ENC_OFFSET n).oid = 0x10010005 + n * 0x1000000 := (rfl)
@[simp] theorem Oid.ENC_OFFSET_dflt (n : Nat) : (Oid.ENC_OFFSET n).dflt = 0 := (rfl)
@[simp] theorem Oid.MIN_EDGE_oid (n : Nat) : (Oid.MIN_EDGE n).oid = 0x10010006 + n * 0x1000000 := (rfl)
@[simp] theorem Oid.MIN_EDGE_dflt (n : Nat) : (Oid.MIN_EDGE n).dflt = 100 := (rfl)
@[simp] theorem Oid.EDGE_FAST_oid (n : Nat) : (Oid.EDGE_FAST n).oid = 0x10010007 + n * 0x1000000 := (rfl)
@[simp] theorem Oid.EDGE_FAST_dflt (n : Nat) : (Oid.EDGE_FAST n).dflt = 0 := (rfl)
@[simp] theorem Oid.EDGE_FAST_LIMIT_oid (n : Nat) : (Oid.EDGE_FAST_LIMIT n).oid = 0x10010008 + n * 0x1000000 := (rfl)
@[simp] theorem Oid.EDGE_FAST_LIMIT_dflt (n : Nat) : (Oid.EDGE_FAST_LIMIT n).dflt = 16 := (rfl)
@[simp] theorem Oid.QUAD_ERR_oid (n : Nat) : (Oid.QUAD_ERR n).oid = 0x10010009 + n * 0x1000000 := (rfl)
@[simp] theorem Oid.QUAD_ERR_dflt (n : Nat) : (Oid.QUAD_ERR n).dflt = 0 := (rfl)
@[simp] theorem Oid.QUAD_ERR_LIMIT_oid (n : Nat) : (Oid.QUAD_ERR_LIMIT n).oid = 0x1001000A + n * 0x1000000 := (rfl)
@[simp] theorem Oid.QUAD_ERR_LIMIT_dflt (n : Nat) : (Oid.QUAD_ERR_LIMIT n).dflt = 4 := (rfl)
@[simp] theorem Oid.QUAD_WINDOW_oid (n : Nat) : (Oid.QUAD_WINDOW n).oid = 0x1001000B + n * 0x1000000 := (rfl)
@[simp] theorem Oid.QUAD_WINDOW_dflt (n : Nat) : (Oid.QUAD_WINDOW n).dflt = 1000 := (rfl)
@[simp] theorem Oid.SPEED_oid (n : Nat) : (Oid.SPEED n).oid = 0x1001000C + n * 0x1000000 := (rfl)
@[simp] theorem Oid.SPEED_dflt (n : Nat) : (Oid.SPEED n).dflt = 0 := (rfl)
@[simp] theorem Oid.SPEED_EDGES_oid (n : Nat) : (Oid.SPEED_EDGES n).oid = 0x1001000D + n * 0x1000000 := (rfl)
@[simp] theorem Oid.SPEED_EDGES_dflt (n : Nat) : (Oid.SPEED_EDGES n).dflt = 4 := (rfl)
@[simp] theorem Oid.ZERO_TIMEOUT_oid (n : Nat) : (Oid.ZERO_TIMEOUT n).oid = 0x1001000E + n * 0x1000000 := (rfl)
@[simp] theorem Oid.ZERO_TIMEOUT_dflt (n : Nat) : (Oid.ZERO_TIMEOUT n).dflt = 100 := (rfl)
@[simp] theorem Oid.POS_STATUS_oid (n : Nat) : (Oid.POS_STATUS n).oid = 0x1001000F + n * 0x1000000 := (rfl)
@[simp] theorem Oid.POS_STATUS_dflt (n : Nat) : (Oid.POS_STATUS n).dflt = 0 := (rfl)
@[simp] theorem Oid.POS_ACK_oid (n : Nat) : (Oid.POS_ACK n).oid = 0x10010010 + n * 0x1000000 := (rfl)
@[simp] theorem Oid.POS_ACK_dflt (n : Nat) : (Oid.POS_ACK n).dflt = 0 := (rfl)
@[simp] theorem Oid.Z_POS_oid (n : Nat) : (Oid.Z_POS n).oid = 0x10010011 + n * 0x1000000 := (rfl)
@[simp] theorem Oid.Z_POS_dflt (n : Nat) : (Oid.Z_POS n).dflt = 0 := (rfl)
@[simp] theorem Oid.Z_COUNT_oid (n : Nat) : (Oid.Z_COUNT n).oid = 0x10010012 + n * 0x1000000 := (rfl)
@[simp] theorem Oid.Z_COUNT_dflt (n : Nat) : (Oid.Z_COUNT n).dflt = 0 := (rfl)
@[simp] theorem Oid.ABS_SOURCE_oid (n : Nat) : (Oid.ABS_SOURCE n).oid = 0x10010013 + n * 0x1000000 := (rfl)
@[simp] theorem Oid.ABS_SOURCE_dflt (n : Nat) : (Oid.ABS_SOURCE n).dflt = 0 := (rfl)
@[simp] theorem Oid.SSI_RATE_oid (n : Nat) : (Oid.SSI_RATE n).oid = 0x10010014 + n * 0x1000000 := (rfl)
@[simp] theorem Oid.SSI_RATE_dflt (n : Nat) : (Oid.SSI_RATE n).dflt = 1000000 := (rfl)
@[simp] theorem Oid.SSI_BITS_oid (n : Nat) : (Oid.SSI_BITS n).oid = 0x10010015 + n * 0x1000000 := (rfl)
@[simp] theorem Oid.SSI_BITS_dflt (n : Nat) : (Oid.SSI_BITS n).dflt = 25 := (rfl)
@[simp] theorem Oid.SSI_FORMAT_oid (n : Nat) : (Oid.SSI_FORMAT n).oid = 0x10010016 + n * 0x1000000 := (rfl)
@[simp] theorem Oid.SSI_FORMAT_dflt (n : Nat) : (Oid.SSI_FORMAT n).dflt = 1 := (rfl)
@[simp] theorem Oid.SSI_PERIOD_oid (n : Nat) : (Oid.SSI_PERIOD n).oid = 0x10010017 + n * 0x1000000 := (rfl)
@[simp] theorem Oid.SSI_PERIOD_dflt (n : Nat) : (Oid.SSI_PERIOD n).dflt = 1000 := (rfl)
@[simp] theorem Oid.SSI_DELAY_NS_oid (n : Nat) : (Oid.SSI_DELAY_NS n).oid = 0x10010018 + n * 0x1000000 := (rfl)
@[simp] theorem Oid.SSI_DELAY_NS_dflt (n : Nat) : (Oid.SSI_DELAY_NS n).dflt = 0 := (rfl)
@[simp] theorem Oid.ABS_CAN_MAP_oid (n : Nat) : (Oid.ABS_CAN_MAP n).oid = 0x10010019 + n * 0x1000000 := (rfl)
@[simp] theorem Oid.ABS_CAN_MAP_dflt (n : Nat) : (Oid.ABS_CAN_MAP n).dflt = 0 := (rfl)
@[simp] theorem Oid.ABS_CAN_LAT_oid (n : Nat) : (Oid.ABS_CAN_LAT n).oid = 0x1001001A + n * 0x1000000 := (rfl)
@[simp] theorem Oid.ABS_CAN_LAT_dflt (n : Nat) : (Oid.ABS_CAN_LAT n).dflt = 0 := (rfl)
@[simp] theorem Oid.ABS_RAW_oid (n : Nat) : (Oid.ABS_RAW n).oid = 0x1001001B + n * 0x1000000 := (rfl)
@[simp] theorem Oid.ABS_RAW_dflt (n : Nat) : (Oid.ABS_RAW n).dflt = 0 := (rfl)
@[simp] theorem Oid.ABS_NUM_oid (n : Nat) : (Oid.ABS_NUM n).oid = 0x1001001C + n * 0x1000000 := (rfl)
@[simp] theorem Oid.ABS_NUM_dflt (n : Nat) : (Oid.ABS_NUM n).dflt = 1 := (rfl)
@[simp] theorem Oid.ABS_DEN_oid (n : Nat) : (Oid.ABS_DEN n).oid = 0x1001001D + n * 0x1000000 := (rfl)
@[simp] theorem Oid.ABS_DEN_dflt (n : Nat) : (Oid.ABS_DEN n).dflt = 1 := (rfl)
@[simp] theorem Oid.ABS_OFFSET_oid (n : Nat) : (Oid.ABS_OFFSET n).oid = 0x1001001E + n * 0x1000000 := (rfl)
@[simp] theorem Oid.ABS_OFFSET_dflt (n : Nat) : (Oid.ABS_OFFSET n).dflt = 0 := (rfl)
@[simp] theorem Oid.ABS_POS_oid (n : Nat) : (Oid.ABS_POS n).oid = 0x1001001F + n * 0x1000000 := (rfl)
@[simp] theorem Oid.ABS_POS_dflt (n : Nat) : (Oid.ABS_POS n).dflt = 0 := (rfl)
@[simp] theorem Oid.ABS_TIME_oid (n : Nat) : (Oid.ABS_TIME n).oid = 0x10010020 + n * 0x1000000 := (rfl)
@[simp] theorem Oid.ABS_TIME_dflt (n : Nat) : (Oid.ABS_TIME n).dflt = 0 := (rfl)
@[simp] theorem Oid.ABS_JUMP_LIMIT_oid (n : Nat) : (Oid.ABS_JUMP_LIMIT n).oid = 0x10010021 + n * 0x1000000 := (rfl)
@[simp] theorem Oid.ABS_JUMP_LIMIT_dflt (n : Nat) : (Oid.ABS_JUMP_LIMIT n).dflt = 640 := (rfl)
@[simp] theorem Oid.SLIP_oid (n : Nat) : (Oid.SLIP n).oid = 0x10010022 + n * 0x1000000 := (rfl)
@[simp] theorem Oid.SLIP_dflt (n : Nat) : (Oid.SLIP n).dflt = 0 := (rfl)
@[simp] theorem Oid.SLIP_LIMIT_oid (n : Nat) : (Oid.SLIP_LIMIT n).oid = 0x10010023 + n * 0x1000000 := (rfl)
@[simp] theorem Oid.SLIP_LIMIT_dflt (n : Nat) : (Oid.SLIP_LIMIT n).dflt = 6400 := (rfl)
@[simp] theorem Oid.SLIP_TIME_oid (n : Nat) : (Oid.SLIP_TIME n).oid = 0x10010024 + n * 0x1000000 := (rfl)
@[simp] theorem Oid.SLIP_TIME_dflt (n : Nat) : (Oid.SLIP_TIME n).dflt = 200 := (rfl)
@[simp] theorem Oid.CAR_INPUTS_oid (n : Nat) : (Oid.CAR_INPUTS n).oid = 0x10010025 + n * 0x1000000 := (rfl)
@[simp] theorem Oid.CAR_INPUTS_dflt (n : Nat) : (Oid.CAR_INPUTS n).dflt = 0 := (rfl)
@[simp] theorem Oid.PROBE_SEL_oid (n : Nat) : (Oid.PROBE_SEL n).oid = 0x10010026 + n * 0x1000000 := (rfl)
@[simp] theorem Oid.PROBE_SEL_dflt (n : Nat) : (Oid.PROBE_SEL n).dflt = 4 := (rfl)
@[simp] theorem Oid.PROBE_POS_oid (n : Nat) : (Oid.PROBE_POS n).oid = 0x10010027 + n * 0x1000000 := (rfl)
@[simp] theorem Oid.PROBE_POS_dflt (n : Nat) : (Oid.PROBE_POS n).dflt = 0 := (rfl)
@[simp] theorem Oid.PROBE_TIME_oid (n : Nat) : (Oid.PROBE_TIME n).oid = 0x10010028 + n * 0x1000000 := (rfl)
@[simp] theorem Oid.PROBE_TIME_dflt (n : Nat) : (Oid.PROBE_TIME n).dflt = 0 := (rfl)
@[simp] theorem Oid.PROBE_HOLDOFF_oid (n : Nat) : (Oid.PROBE_HOLDOFF n).oid = 0x10010029 + n * 0x1000000 := (rfl)
@[simp] theorem Oid.PROBE_HOLDOFF_dflt (n : Nat) : (Oid.PROBE_HOLDOFF n).dflt = 640 := (rfl)
@[simp] theorem Oid.PROBE_WINDOW_oid (n : Nat) : (Oid.PROBE_WINDOW n).oid = 0x1001002A + n * 0x1000000 := (rfl)
@[simp] theorem Oid.PROBE_WINDOW_dflt (n : Nat) : (Oid.PROBE_WINDOW n).dflt = 6400 := (rfl)
@[simp] theorem Oid.PROBE_CORR_LIMIT_oid (n : Nat) : (Oid.PROBE_CORR_LIMIT n).oid = 0x1001002B + n * 0x1000000 := (rfl)
@[simp] theorem Oid.PROBE_CORR_LIMIT_dflt (n : Nat) : (Oid.PROBE_CORR_LIMIT n).dflt = 1280 := (rfl)
@[simp] theorem Oid.PROBE_CORR_oid (n : Nat) : (Oid.PROBE_CORR n).oid = 0x1001002C + n * 0x1000000 := (rfl)
@[simp] theorem Oid.PROBE_CORR_dflt (n : Nat) : (Oid.PROBE_CORR n).dflt = 0 := (rfl)
@[simp] theorem Oid.PROBE_LANDING_oid (n : Nat) : (Oid.PROBE_LANDING n).oid = 0x1001002D + n * 0x1000000 := (rfl)
@[simp] theorem Oid.PROBE_LANDING_dflt (n : Nat) : (Oid.PROBE_LANDING n).dflt = 0 := (rfl)
@[simp] theorem Oid.PROBE_MISS_oid (n : Nat) : (Oid.PROBE_MISS n).oid = 0x1001002E + n * 0x1000000 := (rfl)
@[simp] theorem Oid.PROBE_MISS_dflt (n : Nat) : (Oid.PROBE_MISS n).dflt = 0 := (rfl)
@[simp] theorem Oid.REF_LANDING_oid (n : Nat) : (Oid.REF_LANDING n).oid = 0x1001002F + n * 0x1000000 := (rfl)
@[simp] theorem Oid.REF_LANDING_dflt (n : Nat) : (Oid.REF_LANDING n).dflt = 0 := (rfl)
@[simp] theorem Oid.LANDINGS_oid (n : Nat) : (Oid.LANDINGS n).oid = 0x10010030 + n * 0x1000000 := (rfl)
@[simp] theorem Oid.LANDINGS_dflt (n : Nat) : (Oid.LANDINGS n).dflt = 2 := (rfl)
@[simp] theorem Oid.LEARN_oid (n : Nat) : (Oid.LEARN n).oid = 0x10010031 + n * 0x1000000 := (rfl)
@[simp] theorem Oid.LEARN_dflt (n : Nat) : (Oid.LEARN n).dflt = 0 := (rfl)
@[simp] theorem Oid.LEARN_COUNT_oid (n : Nat) : (Oid.LEARN_COUNT n).oid = 0x10010032 + n * 0x1000000 := (rfl)
@[simp] theorem Oid.LEARN_COUNT_dflt (n : Nat) : (Oid.LEARN_COUNT n).dflt = 0 := (rfl)
@[simp] theorem Oid.PT_MODE_oid (n : Nat) : (Oid.PT_MODE n).oid = 0x10010033 + n * 0x1000000 := (rfl)
@[simp] theorem Oid.PT_MODE_dflt (n : Nat) : (Oid.PT_MODE n).dflt = 0 := (rfl)
@[simp] theorem Oid.CMP_POS_oid (n : Nat) (k : Nat) : (Oid.CMP_POS n k).oid = 0x10011000 + n * 0x1000000 + k * 0x100 := (rfl)
@[simp] theorem Oid.CMP_POS_dflt (n : Nat) (k : Nat) : (Oid.CMP_POS n k).dflt = 0 := (rfl)
@[simp] theorem Oid.CMP_MODE_oid (n : Nat) (k : Nat) : (Oid.CMP_MODE n k).oid = 0x10011001 + n * 0x1000000 + k * 0x100 := (rfl)
@[simp] theorem Oid.CMP_MODE_dflt (n : Nat) (k : Nat) : (Oid.CMP_MODE n k).dflt = 3 := (rfl)
@[simp] theorem Oid.CMP_TARGET_oid (n : Nat) (k : Nat) : (Oid.CMP_TARGET n k).oid = 0x10011002 + n * 0x1000000 + k * 0x100 := (rfl)
@[simp] theorem Oid.CMP_TARGET_dflt (n : Nat) (k : Nat) : (Oid.CMP_TARGET n k).dflt = 0 := (rfl)
@[simp] theorem Oid.CMP_VALUE_oid (n : Nat) (k : Nat) : (Oid.CMP_VALUE n k).oid = 0x10011003 + n * 0x1000000 + k * 0x100 := (rfl)
@[simp] theorem Oid.CMP_VALUE_dflt (n : Nat) (k : Nat) : (Oid.CMP_VALUE n k).dflt = 0 := (rfl)
@[simp] theorem Oid.CMP_FIELD_oid (n : Nat) (k : Nat) : (Oid.CMP_FIELD n k).oid = 0x10011004 + n * 0x1000000 + k * 0x100 := (rfl)
@[simp] theorem Oid.CMP_FIELD_dflt (n : Nat) (k : Nat) : (Oid.CMP_FIELD n k).dflt = 255 := (rfl)
@[simp] theorem Oid.CMP_ARM_oid (n : Nat) (k : Nat) : (Oid.CMP_ARM n k).oid = 0x10011005 + n * 0x1000000 + k * 0x100 := (rfl)
@[simp] theorem Oid.CMP_ARM_dflt (n : Nat) (k : Nat) : (Oid.CMP_ARM n k).dflt = 0 := (rfl)
@[simp] theorem Oid.CMP_STATE_oid (n : Nat) (k : Nat) : (Oid.CMP_STATE n k).oid = 0x10011006 + n * 0x1000000 + k * 0x100 := (rfl)
@[simp] theorem Oid.CMP_STATE_dflt (n : Nat) (k : Nat) : (Oid.CMP_STATE n k).dflt = 0 := (rfl)
@[simp] theorem Oid.CMP_LATCH_POS_oid (n : Nat) (k : Nat) : (Oid.CMP_LATCH_POS n k).oid = 0x10011007 + n * 0x1000000 + k * 0x100 := (rfl)
@[simp] theorem Oid.CMP_LATCH_POS_dflt (n : Nat) (k : Nat) : (Oid.CMP_LATCH_POS n k).dflt = 0 := (rfl)
@[simp] theorem Oid.CMP_LATCH_TIME_oid (n : Nat) (k : Nat) : (Oid.CMP_LATCH_TIME n k).oid = 0x10011008 + n * 0x1000000 + k * 0x100 := (rfl)
@[simp] theorem Oid.CMP_LATCH_TIME_dflt (n : Nat) (k : Nat) : (Oid.CMP_LATCH_TIME n k).dflt = 0 := (rfl)
@[simp] theorem Oid.LAND_PROBE_UP_oid (n : Nat) (L : Nat) : (Oid.LAND_PROBE_UP n L).oid = 0x10020000 + n * 0x1000000 + L * 0x100 := (rfl)
@[simp] theorem Oid.LAND_PROBE_UP_dflt (n : Nat) (L : Nat) : (Oid.LAND_PROBE_UP n L).dflt = 0 := (rfl)
@[simp] theorem Oid.LAND_PROBE_DN_oid (n : Nat) (L : Nat) : (Oid.LAND_PROBE_DN n L).oid = 0x10020001 + n * 0x1000000 + L * 0x100 := (rfl)
@[simp] theorem Oid.LAND_PROBE_DN_dflt (n : Nat) (L : Nat) : (Oid.LAND_PROBE_DN n L).dflt = 0 := (rfl)
@[simp] theorem Oid.DOOR_ENABLE_oid (k : Nat) : (Oid.DOOR_ENABLE k).oid = 0x20000100 + k * 0x10000 := (rfl)
@[simp] theorem Oid.DOOR_ENABLE_dflt (k : Nat) : (Oid.DOOR_ENABLE k).dflt = 0 := (rfl)
@[simp] theorem Oid.DOOR_CABLE_M_oid (k : Nat) : (Oid.DOOR_CABLE_M k).oid = 0x20000101 + k * 0x10000 := (rfl)
@[simp] theorem Oid.DOOR_CABLE_M_dflt (k : Nat) : (Oid.DOOR_CABLE_M k).dflt = 100 := (rfl)
@[simp] theorem Oid.DOOR_VBUS_MV_oid (k : Nat) : (Oid.DOOR_VBUS_MV k).oid = 0x20000102 + k * 0x10000 := (rfl)
@[simp] theorem Oid.DOOR_VBUS_MV_dflt (k : Nat) : (Oid.DOOR_VBUS_MV k).dflt = 48000 := (rfl)
@[simp] theorem Oid.DOOR_LPH_UH_oid (k : Nat) : (Oid.DOOR_LPH_UH k).oid = 0x20000103 + k * 0x10000 := (rfl)
@[simp] theorem Oid.DOOR_LPH_UH_dflt (k : Nat) : (Oid.DOOR_LPH_UH k).dflt = 1000 := (rfl)
@[simp] theorem Oid.DOOR_BAND_MA_oid (k : Nat) : (Oid.DOOR_BAND_MA k).oid = 0x20000104 + k * 0x10000 := (rfl)
@[simp] theorem Oid.DOOR_BAND_MA_dflt (k : Nat) : (Oid.DOOR_BAND_MA k).dflt = 200 := (rfl)
@[simp] theorem Oid.DOOR_OVS_LIMIT_oid (k : Nat) : (Oid.DOOR_OVS_LIMIT k).oid = 0x20000105 + k * 0x10000 := (rfl)
@[simp] theorem Oid.DOOR_OVS_LIMIT_dflt (k : Nat) : (Oid.DOOR_OVS_LIMIT k).dflt = 800 := (rfl)
@[simp] theorem Oid.DOOR_I_MAX_oid (k : Nat) : (Oid.DOOR_I_MAX k).oid = 0x20000106 + k * 0x10000 := (rfl)
@[simp] theorem Oid.DOOR_I_MAX_dflt (k : Nat) : (Oid.DOOR_I_MAX k).dflt = 5000 := (rfl)
@[simp] theorem Oid.DOOR_LIM_RUN_oid (k : Nat) : (Oid.DOOR_LIM_RUN k).oid = 0x20000107 + k * 0x10000 := (rfl)
@[simp] theorem Oid.DOOR_LIM_RUN_dflt (k : Nat) : (Oid.DOOR_LIM_RUN k).dflt = 7000 := (rfl)
@[simp] theorem Oid.DOOR_LIM_HOLD_oid (k : Nat) : (Oid.DOOR_LIM_HOLD k).oid = 0x20000108 + k * 0x10000 := (rfl)
@[simp] theorem Oid.DOOR_LIM_HOLD_dflt (k : Nat) : (Oid.DOOR_LIM_HOLD k).dflt = 3000 := (rfl)
@[simp] theorem Oid.DOOR_WIDTH_oid (k : Nat) : (Oid.DOOR_WIDTH k).oid = 0x20000109 + k * 0x10000 := (rfl)
@[simp] theorem Oid.DOOR_WIDTH_dflt (k : Nat) : (Oid.DOOR_WIDTH k).dflt = 2200 := (rfl)
@[simp] theorem Oid.DOOR_SCALE_oid (k : Nat) : (Oid.DOOR_SCALE k).oid = 0x2000010A + k * 0x10000 := (rfl)
@[simp] theorem Oid.DOOR_SCALE_dflt (k : Nat) : (Oid.DOOR_SCALE k).dflt = 32768 := (rfl)
@[simp] theorem Oid.DOOR_MASS_oid (k : Nat) : (Oid.DOOR_MASS k).oid = 0x2000010B + k * 0x10000 := (rfl)
@[simp] theorem Oid.DOOR_MASS_dflt (k : Nat) : (Oid.DOOR_MASS k).dflt = 6553600 := (rfl)
@[simp] theorem Oid.DOOR_KF_oid (k : Nat) : (Oid.DOOR_KF k).oid = 0x2000010C + k * 0x10000 := (rfl)
@[simp] theorem Oid.DOOR_KF_dflt (k : Nat) : (Oid.DOOR_KF k).dflt = 1310720 := (rfl)
@[simp] theorem Oid.DOOR_F_FRIC_oid (k : Nat) : (Oid.DOOR_F_FRIC k).oid = 0x2000010D + k * 0x10000 := (rfl)
@[simp] theorem Oid.DOOR_F_FRIC_dflt (k : Nat) : (Oid.DOOR_F_FRIC k).dflt = 0 := (rfl)
@[simp] theorem Oid.DOOR_V_OPEN_oid (k : Nat) : (Oid.DOOR_V_OPEN k).oid = 0x20000110 + k * 0x10000 := (rfl)
@[simp] theorem Oid.DOOR_V_OPEN_dflt (k : Nat) : (Oid.DOOR_V_OPEN k).dflt = 500 := (rfl)
@[simp] theorem Oid.DOOR_V_CLOSE_oid (k : Nat) : (Oid.DOOR_V_CLOSE k).oid = 0x20000111 + k * 0x10000 := (rfl)
@[simp] theorem Oid.DOOR_V_CLOSE_dflt (k : Nat) : (Oid.DOOR_V_CLOSE k).dflt = 300 := (rfl)
@[simp] theorem Oid.DOOR_V_NUDGE_oid (k : Nat) : (Oid.DOOR_V_NUDGE k).oid = 0x20000112 + k * 0x10000 := (rfl)
@[simp] theorem Oid.DOOR_V_NUDGE_dflt (k : Nat) : (Oid.DOOR_V_NUDGE k).dflt = 150 := (rfl)
@[simp] theorem Oid.DOOR_ACCEL_oid (k : Nat) : (Oid.DOOR_ACCEL k).oid = 0x20000113 + k * 0x10000 := (rfl)
@[simp] theorem Oid.DOOR_ACCEL_dflt (k : Nat) : (Oid.DOOR_ACCEL k).dflt = 1000 := (rfl)
@[simp] theorem Oid.DOOR_V_REOPEN_oid (k : Nat) : (Oid.DOOR_V_REOPEN k).oid = 0x20000114 + k * 0x10000 := (rfl)
@[simp] theorem Oid.DOOR_V_REOPEN_dflt (k : Nat) : (Oid.DOOR_V_REOPEN k).dflt = 500 := (rfl)
@[simp] theorem Oid.DOOR_A_REOPEN_oid (k : Nat) : (Oid.DOOR_A_REOPEN k).oid = 0x20000115 + k * 0x10000 := (rfl)
@[simp] theorem Oid.DOOR_A_REOPEN_dflt (k : Nat) : (Oid.DOOR_A_REOPEN k).dflt = 2000 := (rfl)
@[simp] theorem Oid.DOOR_F_LIMIT_oid (k : Nat) : (Oid.DOOR_F_LIMIT k).oid = 0x20000116 + k * 0x10000 := (rfl)
@[simp] theorem Oid.DOOR_F_LIMIT_dflt (k : Nat) : (Oid.DOOR_F_LIMIT k).dflt = 9830400 := (rfl)
@[simp] theorem Oid.DOOR_F_OBS_oid (k : Nat) : (Oid.DOOR_F_OBS k).oid = 0x20000117 + k * 0x10000 := (rfl)
@[simp] theorem Oid.DOOR_F_OBS_dflt (k : Nat) : (Oid.DOOR_F_OBS k).dflt = 7864320 := (rfl)
@[simp] theorem Oid.DOOR_OBS_TIME_oid (k : Nat) : (Oid.DOOR_OBS_TIME k).oid = 0x20000118 + k * 0x10000 := (rfl)
@[simp] theorem Oid.DOOR_OBS_TIME_dflt (k : Nat) : (Oid.DOOR_OBS_TIME k).dflt = 20 := (rfl)
@[simp] theorem Oid.DOOR_OBS_FE_oid (k : Nat) : (Oid.DOOR_OBS_FE k).oid = 0x20000119 + k * 0x10000 := (rfl)
@[simp] theorem Oid.DOOR_OBS_FE_dflt (k : Nat) : (Oid.DOOR_OBS_FE k).dflt = 40 := (rfl)
@[simp] theorem Oid.DOOR_OBS_FE_TIME_oid (k : Nat) : (Oid.DOOR_OBS_FE_TIME k).oid = 0x2000011A + k * 0x10000 := (rfl)
@[simp] theorem Oid.DOOR_OBS_FE_TIME_dflt (k : Nat) : (Oid.DOOR_OBS_FE_TIME k).dflt = 50 := (rfl)
@[simp] theorem Oid.DOOR_CLOSED_WIN_oid (k : Nat) : (Oid.DOOR_CLOSED_WIN k).oid = 0x2000011B + k * 0x10000 := (rfl)
@[simp] theorem Oid.DOOR_CLOSED_WIN_dflt (k : Nat) : (Oid.DOOR_CLOSED_WIN k).dflt = 20 := (rfl)
@[simp] theorem Oid.DOOR_STATE_oid (k : Nat) : (Oid.DOOR_STATE k).oid = 0x20000200 + k * 0x10000 := (rfl)
@[simp] theorem Oid.DOOR_STATE_dflt (k : Nat) : (Oid.DOOR_STATE k).dflt = 0 := (rfl)
@[simp] theorem Oid.DL_STATUS_oid (k : Nat) : (Oid.DL_STATUS k).oid = 0x20000201 + k * 0x10000 := (rfl)
@[simp] theorem Oid.DL_STATUS_dflt (k : Nat) : (Oid.DL_STATUS k).dflt = 0 := (rfl)
@[simp] theorem Oid.DOOR_POS_oid (k : Nat) : (Oid.DOOR_POS k).oid = 0x20000202 + k * 0x10000 := (rfl)
@[simp] theorem Oid.DOOR_POS_dflt (k : Nat) : (Oid.DOOR_POS k).dflt = 0 := (rfl)
@[simp] theorem Oid.DOOR_SPEED_oid (k : Nat) : (Oid.DOOR_SPEED k).oid = 0x20000203 + k * 0x10000 := (rfl)
@[simp] theorem Oid.DOOR_SPEED_dflt (k : Nat) : (Oid.DOOR_SPEED k).dflt = 0 := (rfl)
@[simp] theorem Oid.DOOR_FORCE_oid (k : Nat) : (Oid.DOOR_FORCE k).oid = 0x20000204 + k * 0x10000 := (rfl)
@[simp] theorem Oid.DOOR_FORCE_dflt (k : Nat) : (Oid.DOOR_FORCE k).dflt = 0 := (rfl)
@[simp] theorem Oid.DOOR_ENERGY_oid (k : Nat) : (Oid.DOOR_ENERGY k).oid = 0x20000205 + k * 0x10000 := (rfl)
@[simp] theorem Oid.DOOR_ENERGY_dflt (k : Nat) : (Oid.DOOR_ENERGY k).dflt = 0 := (rfl)
@[simp] theorem Oid.DOOR_I_DEM_oid (k : Nat) : (Oid.DOOR_I_DEM k).oid = 0x20000206 + k * 0x10000 := (rfl)
@[simp] theorem Oid.DOOR_I_DEM_dflt (k : Nat) : (Oid.DOOR_I_DEM k).dflt = 0 := (rfl)
@[simp] theorem Oid.DOOR_I_PH_oid (k : Nat) (r : Nat) : (Oid.DOOR_I_PH k r).oid = 0x20000207 + k * 0x10000 + r := (rfl)
@[simp] theorem Oid.DOOR_I_PH_dflt (k : Nat) (r : Nat) : (Oid.DOOR_I_PH k r).dflt = 0 := (rfl)
@[simp] theorem Oid.DL_VBUS_MV_oid (k : Nat) : (Oid.DL_VBUS_MV k).oid = 0x2000020A + k * 0x10000 := (rfl)
@[simp] theorem Oid.DL_VBUS_MV_dflt (k : Nat) : (Oid.DL_VBUS_MV k).dflt = 0 := (rfl)
@[simp] theorem Oid.DL_TEMP_oid (k : Nat) : (Oid.DL_TEMP k).oid = 0x2000020B + k * 0x10000 := (rfl)
@[simp] theorem Oid.DL_TEMP_dflt (k : Nat) : (Oid.DL_TEMP k).dflt = 0 := (rfl)
@[simp] theorem Oid.DL_DELAY_NS_oid (k : Nat) : (Oid.DL_DELAY_NS k).oid = 0x2000020C + k * 0x10000 := (rfl)
@[simp] theorem Oid.DL_DELAY_NS_dflt (k : Nat) : (Oid.DL_DELAY_NS k).dflt = 0 := (rfl)
@[simp] theorem Oid.DL_LAT_NS_oid (k : Nat) : (Oid.DL_LAT_NS k).oid = 0x2000020D + k * 0x10000 := (rfl)
@[simp] theorem Oid.DL_LAT_NS_dflt (k : Nat) : (Oid.DL_LAT_NS k).dflt = 0 := (rfl)
@[simp] theorem Oid.DL_OVS_MA_oid (k : Nat) : (Oid.DL_OVS_MA k).oid = 0x2000020E + k * 0x10000 := (rfl)
@[simp] theorem Oid.DL_OVS_MA_dflt (k : Nat) : (Oid.DL_OVS_MA k).dflt = 0 := (rfl)
@[simp] theorem Oid.DL_EQ_oid (k : Nat) : (Oid.DL_EQ k).oid = 0x2000020F + k * 0x10000 := (rfl)
@[simp] theorem Oid.DL_EQ_dflt (k : Nat) : (Oid.DL_EQ k).dflt = 0 := (rfl)
@[simp] theorem Oid.DL_BAD_oid (k : Nat) : (Oid.DL_BAD k).oid = 0x20000210 + k * 0x10000 := (rfl)
@[simp] theorem Oid.DL_BAD_dflt (k : Nat) : (Oid.DL_BAD k).dflt = 0 := (rfl)
@[simp] theorem Oid.DL_HOLDS_oid (k : Nat) : (Oid.DL_HOLDS k).oid = 0x20000211 + k * 0x10000 := (rfl)
@[simp] theorem Oid.DL_HOLDS_dflt (k : Nat) : (Oid.DL_HOLDS k).dflt = 0 := (rfl)
@[simp] theorem Oid.DOOR_OBS_COUNT_oid (k : Nat) : (Oid.DOOR_OBS_COUNT k).oid = 0x20000212 + k * 0x10000 := (rfl)
@[simp] theorem Oid.DOOR_OBS_COUNT_dflt (k : Nat) : (Oid.DOOR_OBS_COUNT k).dflt = 0 := (rfl)
@[simp] theorem Oid.STAGE_IDENT_oid (k : Nat) : (Oid.STAGE_IDENT k).oid = 0x20000213 + k * 0x10000 := (rfl)
@[simp] theorem Oid.DL_LT_RESULT_oid (k : Nat) : (Oid.DL_LT_RESULT k).oid = 0x20000214 + k * 0x10000 := (rfl)
@[simp] theorem Oid.DL_LT_REQ_oid (k : Nat) : (Oid.DL_LT_REQ k).oid = 0x20000300 + k * 0x10000 := (rfl)
@[simp] theorem Oid.DL_LT_REQ_dflt (k : Nat) : (Oid.DL_LT_REQ k).dflt = 0 := (rfl)
@[simp] theorem Oid.DL_ACK_oid (k : Nat) : (Oid.DL_ACK k).oid = 0x20000301 + k * 0x10000 := (rfl)
@[simp] theorem Oid.DL_ACK_dflt (k : Nat) : (Oid.DL_ACK k).dflt = 0 := (rfl)
@[simp] theorem Oid.DL_RETRAIN_oid (k : Nat) : (Oid.DL_RETRAIN k).oid = 0x20000302 + k * 0x10000 := (rfl)
@[simp] theorem Oid.DL_RETRAIN_dflt (k : Nat) : (Oid.DL_RETRAIN k).dflt = 0 := (rfl)
@[simp] theorem Oid.CE_MISSES_oid : Oid.CE_MISSES.oid = 0x400000C0 := (rfl)
@[simp] theorem Oid.CE_MISSES_dflt : Oid.CE_MISSES.dflt = 0 := (rfl)
@[simp] theorem Oid.CE_TRIPS_oid : Oid.CE_TRIPS.oid = 0x400000C1 := (rfl)
@[simp] theorem Oid.CE_TRIPS_dflt : Oid.CE_TRIPS.dflt = 0 := (rfl)
@[simp] theorem Oid.CE_SLOW_LAG_oid : Oid.CE_SLOW_LAG.oid = 0x400000C2 := (rfl)
@[simp] theorem Oid.CE_SLOW_LAG_dflt : Oid.CE_SLOW_LAG.dflt = 0 := (rfl)
@[simp] theorem Oid.CGRP_MEMBERS_oid (g : Nat) : (Oid.CGRP_MEMBERS g).oid = 0x400000C0 + g * 0x100 := (rfl)
@[simp] theorem Oid.CGRP_TARGET_oid (g : Nat) : (Oid.CGRP_TARGET g).oid = 0x400000C1 + g * 0x100 := (rfl)
@[simp] theorem Oid.CGRP_TARGET_dflt (g : Nat) : (Oid.CGRP_TARGET g).dflt = 0 := (rfl)
@[simp] theorem Oid.CGRP_PRIO_oid (g : Nat) : (Oid.CGRP_PRIO g).oid = 0x400000C2 + g * 0x100 := (rfl)
@[simp] theorem Oid.CGRP_PRIO_dflt (g : Nat) : (Oid.CGRP_PRIO g).dflt = 16 := (rfl)
@[simp] theorem Oid.CGRP_MARGIN_oid (g : Nat) : (Oid.CGRP_MARGIN g).oid = 0x400000C3 + g * 0x100 := (rfl)
@[simp] theorem Oid.CGRP_MARGIN_dflt (g : Nat) : (Oid.CGRP_MARGIN g).dflt = 0 := (rfl)
@[simp] theorem Oid.CGRP_OUT_oid (g : Nat) : (Oid.CGRP_OUT g).oid = 0x400000C4 + g * 0x100 := (rfl)
@[simp] theorem Oid.CGRP_OUT_dflt (g : Nat) : (Oid.CGRP_OUT g).dflt = 0 := (rfl)
@[simp] theorem Oid.CGRP_WINNER_oid (g : Nat) : (Oid.CGRP_WINNER g).oid = 0x400000C5 + g * 0x100 := (rfl)
@[simp] theorem Oid.CGRP_WINNER_dflt (g : Nat) : (Oid.CGRP_WINNER g).dflt = 0 := (rfl)
@[simp] theorem Oid.CGRP_CHANGES_oid (g : Nat) : (Oid.CGRP_CHANGES g).oid = 0x400000C6 + g * 0x100 := (rfl)
@[simp] theorem Oid.CGRP_CHANGES_dflt (g : Nat) : (Oid.CGRP_CHANGES g).dflt = 0 := (rfl)
@[simp] theorem Oid.LOOP_ENABLE_oid (j : Nat) (c : Nat) : (Oid.LOOP_ENABLE j c).oid = 0x40000000 + j * 0x100 + c * 0x40 := (rfl)
@[simp] theorem Oid.LOOP_ENABLE_dflt (j : Nat) (c : Nat) : (Oid.LOOP_ENABLE j c).dflt = 0 := (rfl)
@[simp] theorem Oid.LOOP_LAW_oid (j : Nat) (c : Nat) : (Oid.LOOP_LAW j c).oid = 0x40000001 + j * 0x100 + c * 0x40 := (rfl)
@[simp] theorem Oid.LOOP_LAW_dflt (j : Nat) (c : Nat) : (Oid.LOOP_LAW j c).dflt = 0 := (rfl)
@[simp] theorem Oid.LOOP_MODE_oid (j : Nat) (c : Nat) : (Oid.LOOP_MODE j c).oid = 0x40000002 + j * 0x100 + c * 0x40 := (rfl)
@[simp] theorem Oid.LOOP_MODE_dflt (j : Nat) (c : Nat) : (Oid.LOOP_MODE j c).dflt = 0 := (rfl)
@[simp] theorem Oid.LOOP_CMD_oid (j : Nat) (c : Nat) : (Oid.LOOP_CMD j c).oid = 0x40000003 + j * 0x100 + c * 0x40 := (rfl)
@[simp] theorem Oid.LOOP_CMD_dflt (j : Nat) (c : Nat) : (Oid.LOOP_CMD j c).dflt = 0 := (rfl)
@[simp] theorem Oid.LOOP_STATUS_oid (j : Nat) (c : Nat) : (Oid.LOOP_STATUS j c).oid = 0x40000004 + j * 0x100 + c * 0x40 := (rfl)
@[simp] theorem Oid.LOOP_STATUS_dflt (j : Nat) (c : Nat) : (Oid.LOOP_STATUS j c).dflt = 0 := (rfl)
@[simp] theorem Oid.LOOP_FLAGS_oid (j : Nat) (c : Nat) : (Oid.LOOP_FLAGS j c).oid = 0x40000005 + j * 0x100 + c * 0x40 := (rfl)
@[simp] theorem Oid.LOOP_FLAGS_dflt (j : Nat) (c : Nat) : (Oid.LOOP_FLAGS j c).dflt = 0 := (rfl)
@[simp] theorem Oid.SP_SOURCE_oid (j : Nat) (c : Nat) : (Oid.SP_SOURCE j c).oid = 0x40000006 + j * 0x100 + c * 0x40 := (rfl)
@[simp] theorem Oid.SP_SOURCE_dflt (j : Nat) (c : Nat) : (Oid.SP_SOURCE j c).dflt = 0 := (rfl)
@[simp] theorem Oid.FB_SOURCE_oid (j : Nat) (c : Nat) : (Oid.FB_SOURCE j c).oid = 0x40000007 + j * 0x100 + c * 0x40 := (rfl)
@[simp] theorem Oid.FB_SOURCE_dflt (j : Nat) (c : Nat) : (Oid.FB_SOURCE j c).dflt = 0 := (rfl)
@[simp] theorem Oid.OUT_TARGET_oid (j : Nat) (c : Nat) : (Oid.OUT_TARGET j c).oid = 0x40000008 + j * 0x100 + c * 0x40 := (rfl)
@[simp] theorem Oid.OUT_TARGET_dflt (j : Nat) (c : Nat) : (Oid.OUT_TARGET j c).dflt = 0 := (rfl)
@[simp] theorem Oid.OUT_PRIO_oid (j : Nat) (c : Nat) : (Oid.OUT_PRIO j c).oid = 0x40000009 + j * 0x100 + c * 0x40 := (rfl)
@[simp] theorem Oid.OUT_PRIO_dflt (j : Nat) (c : Nat) : (Oid.OUT_PRIO j c).dflt = 16 := (rfl)
@[simp] theorem Oid.LOOP_SP_oid (j : Nat) (c : Nat) : (Oid.LOOP_SP j c).oid = 0x4000000A + j * 0x100 + c * 0x40 := (rfl)
@[simp] theorem Oid.LOOP_SP_dflt (j : Nat) (c : Nat) : (Oid.LOOP_SP j c).dflt = 0 := (rfl)
@[simp] theorem Oid.SP_RATE_oid (j : Nat) (c : Nat) : (Oid.SP_RATE j c).oid = 0x4000000B + j * 0x100 + c * 0x40 := (rfl)
@[simp] theorem Oid.SP_RATE_dflt (j : Nat) (c : Nat) : (Oid.SP_RATE j c).dflt = 0 := (rfl)
@[simp] theorem Oid.SP_EFF_oid (j : Nat) (c : Nat) : (Oid.SP_EFF j c).oid = 0x4000000C + j * 0x100 + c * 0x40 := (rfl)
@[simp] theorem Oid.SP_EFF_dflt (j : Nat) (c : Nat) : (Oid.SP_EFF j c).dflt = 0 := (rfl)
@[simp] theorem Oid.FB_oid (j : Nat) (c : Nat) : (Oid.FB j c).oid = 0x4000000D + j * 0x100 + c * 0x40 := (rfl)
@[simp] theorem Oid.FB_dflt (j : Nat) (c : Nat) : (Oid.FB j c).dflt = 0 := (rfl)
@[simp] theorem Oid.ERR_oid (j : Nat) (c : Nat) : (Oid.ERR j c).oid = 0x4000000E + j * 0x100 + c * 0x40 := (rfl)
@[simp] theorem Oid.ERR_dflt (j : Nat) (c : Nat) : (Oid.ERR j c).dflt = 0 := (rfl)
@[simp] theorem Oid.OUT_oid (j : Nat) (c : Nat) : (Oid.OUT j c).oid = 0x4000000F + j * 0x100 + c * 0x40 := (rfl)
@[simp] theorem Oid.OUT_dflt (j : Nat) (c : Nat) : (Oid.OUT j c).dflt = 0 := (rfl)
@[simp] theorem Oid.MANUAL_oid (j : Nat) (c : Nat) : (Oid.MANUAL j c).oid = 0x40000010 + j * 0x100 + c * 0x40 := (rfl)
@[simp] theorem Oid.MANUAL_dflt (j : Nat) (c : Nat) : (Oid.MANUAL j c).dflt = 0 := (rfl)
@[simp] theorem Oid.TRIP_OUT_oid (j : Nat) (c : Nat) : (Oid.TRIP_OUT j c).oid = 0x40000011 + j * 0x100 + c * 0x40 := (rfl)
@[simp] theorem Oid.TRIP_OUT_dflt (j : Nat) (c : Nat) : (Oid.TRIP_OUT j c).dflt = 0 := (rfl)
@[simp] theorem Oid.BAND_oid (j : Nat) (c : Nat) : (Oid.BAND j c).oid = 0x40000012 + j * 0x100 + c * 0x40 := (rfl)
@[simp] theorem Oid.BAND_dflt (j : Nat) (c : Nat) : (Oid.BAND j c).dflt = 65536 := (rfl)
@[simp] theorem Oid.ACTION_oid (j : Nat) (c : Nat) : (Oid.ACTION j c).oid = 0x40000013 + j * 0x100 + c * 0x40 := (rfl)
@[simp] theorem Oid.ACTION_dflt (j : Nat) (c : Nat) : (Oid.ACTION j c).dflt = 0 := (rfl)
@[simp] theorem Oid.OUT_MIN_oid (j : Nat) (c : Nat) : (Oid.OUT_MIN j c).oid = 0x40000014 + j * 0x100 + c * 0x40 := (rfl)
@[simp] theorem Oid.OUT_MIN_dflt (j : Nat) (c : Nat) : (Oid.OUT_MIN j c).dflt = 0 := (rfl)
@[simp] theorem Oid.OUT_MAX_oid (j : Nat) (c : Nat) : (Oid.OUT_MAX j c).oid = 0x40000015 + j * 0x100 + c * 0x40 := (rfl)
@[simp] theorem Oid.OUT_MAX_dflt (j : Nat) (c : Nat) : (Oid.OUT_MAX j c).dflt = 6553600 := (rfl)
@[simp] theorem Oid.RATE_UP_oid (j : Nat) (c : Nat) : (Oid.RATE_UP j c).oid = 0x40000016 + j * 0x100 + c * 0x40 := (rfl)
@[simp] theorem Oid.RATE_UP_dflt (j : Nat) (c : Nat) : (Oid.RATE_UP j c).dflt = 65536 := (rfl)
@[simp] theorem Oid.RATE_DN_oid (j : Nat) (c : Nat) : (Oid.RATE_DN j c).oid = 0x40000017 + j * 0x100 + c * 0x40 := (rfl)
@[simp] theorem Oid.RATE_DN_dflt (j : Nat) (c : Nat) : (Oid.RATE_DN j c).dflt = 65536 := (rfl)
@[simp] theorem Oid.MIN_ON_oid (j : Nat) (c : Nat) : (Oid.MIN_ON j c).oid = 0x40000018 + j * 0x100 + c * 0x40 := (rfl)
@[simp] theorem Oid.MIN_ON_dflt (j : Nat) (c : Nat) : (Oid.MIN_ON j c).dflt = 0 := (rfl)
@[simp] theorem Oid.MIN_OFF_oid (j : Nat) (c : Nat) : (Oid.MIN_OFF j c).oid = 0x40000019 + j * 0x100 + c * 0x40 := (rfl)
@[simp] theorem Oid.MIN_OFF_dflt (j : Nat) (c : Nat) : (Oid.MIN_OFF j c).dflt = 0 := (rfl)
@[simp] theorem Oid.H2_SAT_TIME_oid (j : Nat) (c : Nat) : (Oid.H2_SAT_TIME j c).oid = 0x4000001A + j * 0x100 + c * 0x40 := (rfl)
@[simp] theorem Oid.H2_SAT_TIME_dflt (j : Nat) (c : Nat) : (Oid.H2_SAT_TIME j c).dflt = 0 := (rfl)
@[simp] theorem Oid.FE_LIMIT_oid (j : Nat) (c : Nat) : (Oid.FE_LIMIT j c).oid = 0x4000001B + j * 0x100 + c * 0x40 := (rfl)
@[simp] theorem Oid.FE_LIMIT_dflt (j : Nat) (c : Nat) : (Oid.FE_LIMIT j c).dflt = 655360 := (rfl)
@[simp] theorem Oid.FE_TIME_oid (j : Nat) (c : Nat) : (Oid.FE_TIME j c).oid = 0x4000001C + j * 0x100 + c * 0x40 := (rfl)
@[simp] theorem Oid.FE_TIME_dflt (j : Nat) (c : Nat) : (Oid.FE_TIME j c).dflt = 100 := (rfl)
@[simp] theorem Oid.MODEL_K_oid (j : Nat) (c : Nat) : (Oid.MODEL_K j c).oid = 0x4000001D + j * 0x100 + c * 0x40 := (rfl)
@[simp] theorem Oid.MODEL_K_dflt (j : Nat) (c : Nat) : (Oid.MODEL_K j c).dflt = 0 := (rfl)
@[simp] theorem Oid.MODEL_TAU_oid (j : Nat) (c : Nat) : (Oid.MODEL_TAU j c).oid = 0x4000001E + j * 0x100 + c * 0x40 := (rfl)
@[simp] theorem Oid.MODEL_TAU_dflt (j : Nat) (c : Nat) : (Oid.MODEL_TAU j c).dflt = 65536 := (rfl)
@[simp] theorem Oid.MODEL_DEAD_oid (j : Nat) (c : Nat) : (Oid.MODEL_DEAD j c).oid = 0x4000001F + j * 0x100 + c * 0x40 := (rfl)
@[simp] theorem Oid.MODEL_DEAD_dflt (j : Nat) (c : Nat) : (Oid.MODEL_DEAD j c).dflt = 0 := (rfl)
@[simp] theorem Oid.PL_LIMIT_oid (j : Nat) (c : Nat) : (Oid.PL_LIMIT j c).oid = 0x40000020 + j * 0x100 + c * 0x40 := (rfl)
@[simp] theorem Oid.PL_LIMIT_dflt (j : Nat) (c : Nat) : (Oid.PL_LIMIT j c).dflt = 655360 := (rfl)
@[simp] theorem Oid.PL_TIME_oid (j : Nat) (c : Nat) : (Oid.PL_TIME j c).oid = 0x40000021 + j * 0x100 + c * 0x40 := (rfl)
@[simp] theorem Oid.PL_TIME_dflt (j : Nat) (c : Nat) : (Oid.PL_TIME j c).dflt = 100 := (rfl)
@[simp] theorem Oid.MISS_TRIP_oid (j : Nat) (c : Nat) : (Oid.MISS_TRIP j c).oid = 0x40000022 + j * 0x100 + c * 0x40 := (rfl)
@[simp] theorem Oid.MISS_TRIP_dflt (j : Nat) (c : Nat) : (Oid.MISS_TRIP j c).dflt = 3 := (rfl)
@[simp] theorem Oid.MISS_COUNT_oid (j : Nat) (c : Nat) : (Oid.MISS_COUNT j c).oid = 0x40000023 + j * 0x100 + c * 0x40 := (rfl)
@[simp] theorem Oid.MISS_COUNT_dflt (j : Nat) (c : Nat) : (Oid.MISS_COUNT j c).dflt = 0 := (rfl)
@[simp] theorem Oid.TRIP_COUNT_oid (j : Nat) (c : Nat) : (Oid.TRIP_COUNT j c).oid = 0x40000024 + j * 0x100 + c * 0x40 := (rfl)
@[simp] theorem Oid.TRIP_COUNT_dflt (j : Nat) (c : Nat) : (Oid.TRIP_COUNT j c).dflt = 0 := (rfl)
@[simp] theorem Oid.TRIP_CAUSE_oid (j : Nat) (c : Nat) : (Oid.TRIP_CAUSE j c).oid = 0x40000025 + j * 0x100 + c * 0x40 := (rfl)
@[simp] theorem Oid.TRIP_CAUSE_dflt (j : Nat) (c : Nat) : (Oid.TRIP_CAUSE j c).dflt = 0 := (rfl)
@[simp] theorem Oid.LOOP_GROUP_oid (j : Nat) (c : Nat) : (Oid.LOOP_GROUP j c).oid = 0x40000026 + j * 0x100 + c * 0x40 := (rfl)
@[simp] theorem Oid.LOOP_GROUP_dflt (j : Nat) (c : Nat) : (Oid.LOOP_GROUP j c).dflt = 0 := (rfl)
@[simp] theorem Oid.PL_RESID_oid (j : Nat) (c : Nat) : (Oid.PL_RESID j c).oid = 0x40000027 + j * 0x100 + c * 0x40 := (rfl)
@[simp] theorem Oid.PL_RESID_dflt (j : Nat) (c : Nat) : (Oid.PL_RESID j c).dflt = 0 := (rfl)
@[simp] theorem Oid.AUTO_CLOSE_oid (j : Nat) (c : Nat) : (Oid.AUTO_CLOSE j c).oid = 0x40000028 + j * 0x100 + c * 0x40 := (rfl)
@[simp] theorem Oid.AUTO_CLOSE_dflt (j : Nat) (c : Nat) : (Oid.AUTO_CLOSE j c).dflt = 0 := (rfl)
@[simp] theorem Oid.SLOW_PERIOD_oid (j : Nat) (c : Nat) : (Oid.SLOW_PERIOD j c).oid = 0x40000029 + j * 0x100 + c * 0x40 := (rfl)
@[simp] theorem Oid.SLOW_PERIOD_dflt (j : Nat) (c : Nat) : (Oid.SLOW_PERIOD j c).dflt = 1000 := (rfl)
@[simp] theorem Oid.SLOW_PHASE_oid (j : Nat) (c : Nat) : (Oid.SLOW_PHASE j c).oid = 0x4000002A + j * 0x100 + c * 0x40 := (rfl)
@[simp] theorem Oid.SLOW_PHASE_dflt (j : Nat) (c : Nat) : (Oid.SLOW_PHASE j c).dflt = 0 := (rfl)
@[simp] theorem Oid.LAND_DOORS_oid (n : Nat) (L : Nat) : (Oid.LAND_DOORS n L).oid = 0x10020002 + n * 0x1000000 + L * 0x100 := (rfl)
@[simp] theorem Oid.LAND_DOORS_dflt (n : Nat) (L : Nat) : (Oid.LAND_DOORS n L).dflt = 1 := (rfl)
@[simp] theorem Oid.CAR_STATE_oid (n : Nat) : (Oid.CAR_STATE n).oid = 0x10030000 + n * 0x1000000 := (rfl)
@[simp] theorem Oid.CAR_STATE_dflt (n : Nat) : (Oid.CAR_STATE n).dflt = 0 := (rfl)
@[simp] theorem Oid.CAR_OPER_oid (n : Nat) : (Oid.CAR_OPER n).oid = 0x10030001 + n * 0x1000000 := (rfl)
@[simp] theorem Oid.CAR_OPER_dflt (n : Nat) : (Oid.CAR_OPER n).dflt = 0 := (rfl)
@[simp] theorem Oid.CAR_CMD_oid (n : Nat) : (Oid.CAR_CMD n).oid = 0x10030002 + n * 0x1000000 := (rfl)
@[simp] theorem Oid.CAR_CMD_dflt (n : Nat) : (Oid.CAR_CMD n).dflt = 0 := (rfl)
@[simp] theorem Oid.CAR_FAULT_oid (n : Nat) : (Oid.CAR_FAULT n).oid = 0x10030003 + n * 0x1000000 := (rfl)
@[simp] theorem Oid.CAR_FAULT_dflt (n : Nat) : (Oid.CAR_FAULT n).dflt = 0 := (rfl)
@[simp] theorem Oid.CAR_FAULT_ACK_oid (n : Nat) : (Oid.CAR_FAULT_ACK n).oid = 0x10030004 + n * 0x1000000 := (rfl)
@[simp] theorem Oid.CAR_FAULT_ACK_dflt (n : Nat) : (Oid.CAR_FAULT_ACK n).dflt = 0 := (rfl)
@[simp] theorem Oid.CAR_PERMIT_oid (n : Nat) : (Oid.CAR_PERMIT n).oid = 0x10030005 + n * 0x1000000 := (rfl)
@[simp] theorem Oid.CAR_PERMIT_dflt (n : Nat) : (Oid.CAR_PERMIT n).dflt = 0 := (rfl)
@[simp] theorem Oid.CAR_GROUP_oid (n : Nat) : (Oid.CAR_GROUP n).oid = 0x10030006 + n * 0x1000000 := (rfl)
@[simp] theorem Oid.CAR_GROUP_dflt (n : Nat) : (Oid.CAR_GROUP n).dflt = 255 := (rfl)
@[simp] theorem Oid.CAR_LANDING_oid (n : Nat) : (Oid.CAR_LANDING n).oid = 0x10030007 + n * 0x1000000 := (rfl)
@[simp] theorem Oid.CAR_LANDING_dflt (n : Nat) : (Oid.CAR_LANDING n).dflt = 0 := (rfl)
@[simp] theorem Oid.CAR_TARGET_oid (n : Nat) : (Oid.CAR_TARGET n).oid = 0x10030008 + n * 0x1000000 := (rfl)
@[simp] theorem Oid.CAR_TARGET_dflt (n : Nat) : (Oid.CAR_TARGET n).dflt = 0 := (rfl)
@[simp] theorem Oid.CAR_QUEUE_oid (n : Nat) : (Oid.CAR_QUEUE n).oid = 0x10030009 + n * 0x1000000 := (rfl)
@[simp] theorem Oid.CAR_LOAD_SRC_oid (n : Nat) : (Oid.CAR_LOAD_SRC n).oid = 0x1003000A + n * 0x1000000 := (rfl)
@[simp] theorem Oid.CAR_LOAD_SRC_dflt (n : Nat) : (Oid.CAR_LOAD_SRC n).dflt = 0 := (rfl)
@[simp] theorem Oid.CAR_LOAD_oid (n : Nat) : (Oid.CAR_LOAD n).oid = 0x1003000B + n * 0x1000000 := (rfl)
@[simp] theorem Oid.CAR_LOAD_dflt (n : Nat) : (Oid.CAR_LOAD n).dflt = 0 := (rfl)
@[simp] theorem Oid.CAR_RATED_LOAD_oid (n : Nat) : (Oid.CAR_RATED_LOAD n).oid = 0x1003000C + n * 0x1000000 := (rfl)
@[simp] theorem Oid.CAR_RATED_LOAD_dflt (n : Nat) : (Oid.CAR_RATED_LOAD n).dflt = 1000 := (rfl)
@[simp] theorem Oid.CAR_LOAD_FULL_oid (n : Nat) : (Oid.CAR_LOAD_FULL n).oid = 0x1003000D + n * 0x1000000 := (rfl)
@[simp] theorem Oid.CAR_LOAD_FULL_dflt (n : Nat) : (Oid.CAR_LOAD_FULL n).dflt = 80 := (rfl)
@[simp] theorem Oid.CAR_LOAD_EMPTY_oid (n : Nat) : (Oid.CAR_LOAD_EMPTY n).oid = 0x1003000E + n * 0x1000000 := (rfl)
@[simp] theorem Oid.CAR_LOAD_EMPTY_dflt (n : Nat) : (Oid.CAR_LOAD_EMPTY n).dflt = 40 := (rfl)
@[simp] theorem Oid.CAR_V_RATED_oid (n : Nat) : (Oid.CAR_V_RATED n).oid = 0x1003000F + n * 0x1000000 := (rfl)
@[simp] theorem Oid.CAR_V_RATED_dflt (n : Nat) : (Oid.CAR_V_RATED n).dflt = 100000 := (rfl)
@[simp] theorem Oid.CAR_ACCEL_oid (n : Nat) : (Oid.CAR_ACCEL n).oid = 0x10030010 + n * 0x1000000 := (rfl)
@[simp] theorem Oid.CAR_ACCEL_dflt (n : Nat) : (Oid.CAR_ACCEL n).dflt = 800 := (rfl)
@[simp] theorem Oid.CAR_JERK_oid (n : Nat) : (Oid.CAR_JERK n).oid = 0x10030011 + n * 0x1000000 := (rfl)
@[simp] theorem Oid.CAR_JERK_dflt (n : Nat) : (Oid.CAR_JERK n).dflt = 1000 := (rfl)
@[simp] theorem Oid.CAR_V_LEVEL_oid (n : Nat) : (Oid.CAR_V_LEVEL n).oid = 0x10030012 + n * 0x1000000 := (rfl)
@[simp] theorem Oid.CAR_V_LEVEL_dflt (n : Nat) : (Oid.CAR_V_LEVEL n).dflt = 5000 := (rfl)
@[simp] theorem Oid.CAR_V_PREOPEN_oid (n : Nat) : (Oid.CAR_V_PREOPEN n).oid = 0x10030013 + n * 0x1000000 := (rfl)
@[simp] theorem Oid.CAR_V_PREOPEN_dflt (n : Nat) : (Oid.CAR_V_PREOPEN n).dflt = 50000 := (rfl)
@[simp] theorem Oid.CAR_V_RELEVEL_oid (n : Nat) : (Oid.CAR_V_RELEVEL n).oid = 0x10030014 + n * 0x1000000 := (rfl)
@[simp] theorem Oid.CAR_V_RELEVEL_dflt (n : Nat) : (Oid.CAR_V_RELEVEL n).dflt = 10000 := (rfl)
@[simp] theorem Oid.CAR_V_REF_oid (n : Nat) : (Oid.CAR_V_REF n).oid = 0x10030015 + n * 0x1000000 := (rfl)
@[simp] theorem Oid.CAR_V_REF_dflt (n : Nat) : (Oid.CAR_V_REF n).dflt = 30000 := (rfl)
@[simp] theorem Oid.CAR_V_INSP_oid (n : Nat) : (Oid.CAR_V_INSP n).oid = 0x10030016 + n * 0x1000000 := (rfl)
@[simp] theorem Oid.CAR_V_INSP_dflt (n : Nat) : (Oid.CAR_V_INSP n).dflt = 30000 := (rfl)
@[simp] theorem Oid.CAR_V_RESCUE_oid (n : Nat) : (Oid.CAR_V_RESCUE n).oid = 0x10030017 + n * 0x1000000 := (rfl)
@[simp] theorem Oid.CAR_V_RESCUE_dflt (n : Nat) : (Oid.CAR_V_RESCUE n).dflt = 30000 := (rfl)
@[simp] theorem Oid.CAR_LEVEL_WIN_oid (n : Nat) : (Oid.CAR_LEVEL_WIN n).oid = 0x10030018 + n * 0x1000000 := (rfl)
@[simp] theorem Oid.CAR_LEVEL_WIN_dflt (n : Nat) : (Oid.CAR_LEVEL_WIN n).dflt = 640 := (rfl)
@[simp] theorem Oid.CAR_RELEVEL_WIN_oid (n : Nat) : (Oid.CAR_RELEVEL_WIN n).oid = 0x10030019 + n * 0x1000000 := (rfl)
@[simp] theorem Oid.CAR_RELEVEL_WIN_dflt (n : Nat) : (Oid.CAR_RELEVEL_WIN n).dflt = 1280 := (rfl)
@[simp] theorem Oid.CAR_LEVEL_UP_oid (n : Nat) : (Oid.CAR_LEVEL_UP n).oid = 0x1003001A + n * 0x1000000 := (rfl)
@[simp] theorem Oid.CAR_LEVEL_UP_dflt (n : Nat) : (Oid.CAR_LEVEL_UP n).dflt = 0 := (rfl)
@[simp] theorem Oid.CAR_LEVEL_DN_oid (n : Nat) : (Oid.CAR_LEVEL_DN n).oid = 0x1003001B + n * 0x1000000 := (rfl)
@[simp] theorem Oid.CAR_LEVEL_DN_dflt (n : Nat) : (Oid.CAR_LEVEL_DN n).dflt = 0 := (rfl)
@[simp] theorem Oid.CAR_PREOPEN_oid (n : Nat) : (Oid.CAR_PREOPEN n).oid = 0x1003001C + n * 0x1000000 := (rfl)
@[simp] theorem Oid.CAR_PREOPEN_dflt (n : Nat) : (Oid.CAR_PREOPEN n).dflt = 0 := (rfl)
@[simp] theorem Oid.CAR_PREOPEN_DIST_oid (n : Nat) : (Oid.CAR_PREOPEN_DIST n).oid = 0x1003001D + n * 0x1000000 := (rfl)
@[simp] theorem Oid.CAR_PREOPEN_DIST_dflt (n : Nat) : (Oid.CAR_PREOPEN_DIST n).dflt = 12800 := (rfl)
@[simp] theorem Oid.CAR_LEVEL_START_oid (n : Nat) : (Oid.CAR_LEVEL_START n).oid = 0x1003001E + n * 0x1000000 := (rfl)
@[simp] theorem Oid.CAR_LEVEL_START_dflt (n : Nat) : (Oid.CAR_LEVEL_START n).dflt = 6400 := (rfl)
@[simp] theorem Oid.CAR_OVERTRAVEL_oid (n : Nat) : (Oid.CAR_OVERTRAVEL n).oid = 0x1003001F + n * 0x1000000 := (rfl)
@[simp] theorem Oid.CAR_OVERTRAVEL_dflt (n : Nat) : (Oid.CAR_OVERTRAVEL n).dflt = 3200 := (rfl)
@[simp] theorem Oid.CAR_START_TIME_oid (n : Nat) : (Oid.CAR_START_TIME n).oid = 0x10030020 + n * 0x1000000 := (rfl)
@[simp] theorem Oid.CAR_START_TIME_dflt (n : Nat) : (Oid.CAR_START_TIME n).dflt = 3000 := (rfl)
@[simp] theorem Oid.CAR_DWELL_oid (n : Nat) : (Oid.CAR_DWELL n).oid = 0x10030021 + n * 0x1000000 := (rfl)
@[simp] theorem Oid.CAR_DWELL_dflt (n : Nat) : (Oid.CAR_DWELL n).dflt = 4000 := (rfl)
@[simp] theorem Oid.CAR_NUDGE_TIME_oid (n : Nat) : (Oid.CAR_NUDGE_TIME n).oid = 0x10030022 + n * 0x1000000 := (rfl)
@[simp] theorem Oid.CAR_NUDGE_TIME_dflt (n : Nat) : (Oid.CAR_NUDGE_TIME n).dflt = 30 := (rfl)
@[simp] theorem Oid.CAR_STOP_TIME_oid (n : Nat) : (Oid.CAR_STOP_TIME n).oid = 0x10030023 + n * 0x1000000 := (rfl)
@[simp] theorem Oid.CAR_STOP_TIME_dflt (n : Nat) : (Oid.CAR_STOP_TIME n).dflt = 10000 := (rfl)
@[simp] theorem Oid.CAR_FE_LIMIT_oid (n : Nat) : (Oid.CAR_FE_LIMIT n).oid = 0x10030024 + n * 0x1000000 := (rfl)
@[simp] theorem Oid.CAR_FE_LIMIT_dflt (n : Nat) : (Oid.CAR_FE_LIMIT n).dflt = 19661 := (rfl)
@[simp] theorem Oid.CAR_FE_TIME_oid (n : Nat) : (Oid.CAR_FE_TIME n).oid = 0x10030025 + n * 0x1000000 := (rfl)
@[simp] theorem Oid.CAR_FE_TIME_dflt (n : Nat) : (Oid.CAR_FE_TIME n).dflt = 200 := (rfl)
@[simp] theorem Oid.CAR_MODEL_TAU_oid (n : Nat) : (Oid.CAR_MODEL_TAU n).oid = 0x10030026 + n * 0x1000000 := (rfl)
@[simp] theorem Oid.CAR_MODEL_TAU_dflt (n : Nat) : (Oid.CAR_MODEL_TAU n).dflt = 6553600 := (rfl)
@[simp] theorem Oid.CAR_MODEL_DEAD_oid (n : Nat) : (Oid.CAR_MODEL_DEAD n).oid = 0x10030027 + n * 0x1000000 := (rfl)
@[simp] theorem Oid.CAR_MODEL_DEAD_dflt (n : Nat) : (Oid.CAR_MODEL_DEAD n).dflt = 10 := (rfl)
@[simp] theorem Oid.CAR_PL_LIMIT_oid (n : Nat) : (Oid.CAR_PL_LIMIT n).oid = 0x10030028 + n * 0x1000000 := (rfl)
@[simp] theorem Oid.CAR_PL_LIMIT_dflt (n : Nat) : (Oid.CAR_PL_LIMIT n).dflt = 32768 := (rfl)
@[simp] theorem Oid.CAR_PL_TIME_oid (n : Nat) : (Oid.CAR_PL_TIME n).oid = 0x10030029 + n * 0x1000000 := (rfl)
@[simp] theorem Oid.CAR_PL_TIME_dflt (n : Nat) : (Oid.CAR_PL_TIME n).dflt = 300 := (rfl)
@[simp] theorem Oid.CAR_PROF_SPEED_oid (n : Nat) : (Oid.CAR_PROF_SPEED n).oid = 0x1003002A + n * 0x1000000 := (rfl)
@[simp] theorem Oid.CAR_PROF_SPEED_dflt (n : Nat) : (Oid.CAR_PROF_SPEED n).dflt = 0 := (rfl)
@[simp] theorem Oid.CAR_SPEED_MS_oid (n : Nat) : (Oid.CAR_SPEED_MS n).oid = 0x1003002B + n * 0x1000000 := (rfl)
@[simp] theorem Oid.CAR_SPEED_MS_dflt (n : Nat) : (Oid.CAR_SPEED_MS n).dflt = 0 := (rfl)
@[simp] theorem Oid.CAR_DRV_CTRL_oid (n : Nat) : (Oid.CAR_DRV_CTRL n).oid = 0x1003002C + n * 0x1000000 := (rfl)
@[simp] theorem Oid.CAR_DRV_CTRL_dflt (n : Nat) : (Oid.CAR_DRV_CTRL n).dflt = 0 := (rfl)
@[simp] theorem Oid.CAR_DRV_TARGET_oid (n : Nat) : (Oid.CAR_DRV_TARGET n).oid = 0x1003002D + n * 0x1000000 := (rfl)
@[simp] theorem Oid.CAR_DRV_TARGET_dflt (n : Nat) : (Oid.CAR_DRV_TARGET n).dflt = 0 := (rfl)
@[simp] theorem Oid.CAR_DRV_STATUS_oid (n : Nat) : (Oid.CAR_DRV_STATUS n).oid = 0x1003002E + n * 0x1000000 := (rfl)
@[simp] theorem Oid.CAR_DRV_STATUS_dflt (n : Nat) : (Oid.CAR_DRV_STATUS n).dflt = 0 := (rfl)
@[simp] theorem Oid.CAR_STOP_oid (n : Nat) : (Oid.CAR_STOP n).oid = 0x1003002F + n * 0x1000000 := (rfl)
@[simp] theorem Oid.CAR_STOP_dflt (n : Nat) : (Oid.CAR_STOP n).dflt = 0 := (rfl)
@[simp] theorem Oid.CAR_P_RATED_oid (n : Nat) : (Oid.CAR_P_RATED n).oid = 0x10030030 + n * 0x1000000 := (rfl)
@[simp] theorem Oid.CAR_P_RATED_dflt (n : Nat) : (Oid.CAR_P_RATED n).dflt = 30000 := (rfl)
@[simp] theorem Oid.CAR_EP_LANDING_oid (n : Nat) : (Oid.CAR_EP_LANDING n).oid = 0x10030031 + n * 0x1000000 := (rfl)
@[simp] theorem Oid.CAR_EP_LANDING_dflt (n : Nat) : (Oid.CAR_EP_LANDING n).dflt = 0 := (rfl)
@[simp] theorem Oid.CAR_FF_oid (n : Nat) : (Oid.CAR_FF n).oid = 0x10030032 + n * 0x1000000 := (rfl)
@[simp] theorem Oid.CAR_FF_dflt (n : Nat) : (Oid.CAR_FF n).dflt = 0 := (rfl)
@[simp] theorem Oid.CAR_FF_CAR_SW_oid (n : Nat) : (Oid.CAR_FF_CAR_SW n).oid = 0x10030033 + n * 0x1000000 := (rfl)
@[simp] theorem Oid.CAR_FF_CAR_SW_dflt (n : Nat) : (Oid.CAR_FF_CAR_SW n).dflt = 0 := (rfl)
@[simp] theorem Oid.CAR_FF_OPEN_oid (n : Nat) : (Oid.CAR_FF_OPEN n).oid = 0x10030034 + n * 0x1000000 := (rfl)
@[simp] theorem Oid.CAR_FF_OPEN_dflt (n : Nat) : (Oid.CAR_FF_OPEN n).dflt = 0 := (rfl)
@[simp] theorem Oid.CAR_FF_CLOSE_oid (n : Nat) : (Oid.CAR_FF_CLOSE n).oid = 0x10030035 + n * 0x1000000 := (rfl)
@[simp] theorem Oid.CAR_FF_CLOSE_dflt (n : Nat) : (Oid.CAR_FF_CLOSE n).dflt = 0 := (rfl)
@[simp] theorem Oid.CAR_INSP_SRC_oid (n : Nat) : (Oid.CAR_INSP_SRC n).oid = 0x10030036 + n * 0x1000000 := (rfl)
@[simp] theorem Oid.CAR_INSP_SRC_dflt (n : Nat) : (Oid.CAR_INSP_SRC n).dflt = 0 := (rfl)
@[simp] theorem Oid.CAR_RESCUE_SRC_oid (n : Nat) : (Oid.CAR_RESCUE_SRC n).oid = 0x10030037 + n * 0x1000000 := (rfl)
@[simp] theorem Oid.CAR_RESCUE_SRC_dflt (n : Nat) : (Oid.CAR_RESCUE_SRC n).dflt = 0 := (rfl)
@[simp] theorem Oid.CAR_INSP_UP_oid (n : Nat) : (Oid.CAR_INSP_UP n).oid = 0x10030038 + n * 0x1000000 := (rfl)
@[simp] theorem Oid.CAR_INSP_UP_dflt (n : Nat) : (Oid.CAR_INSP_UP n).dflt = 0 := (rfl)
@[simp] theorem Oid.CAR_INSP_DN_oid (n : Nat) : (Oid.CAR_INSP_DN n).oid = 0x10030039 + n * 0x1000000 := (rfl)
@[simp] theorem Oid.CAR_INSP_DN_dflt (n : Nat) : (Oid.CAR_INSP_DN n).dflt = 0 := (rfl)
@[simp] theorem Oid.CAR_BOTTOM_SRC_oid (n : Nat) : (Oid.CAR_BOTTOM_SRC n).oid = 0x1003003A + n * 0x1000000 := (rfl)
@[simp] theorem Oid.CAR_BOTTOM_SRC_dflt (n : Nat) : (Oid.CAR_BOTTOM_SRC n).dflt = 0 := (rfl)
@[simp] theorem Oid.CAR_REF_TIME_oid (n : Nat) : (Oid.CAR_REF_TIME n).oid = 0x1003003B + n * 0x1000000 := (rfl)
@[simp] theorem Oid.CAR_REF_TIME_dflt (n : Nat) : (Oid.CAR_REF_TIME n).dflt = 120 := (rfl)
@[simp] theorem Oid.CAR_CC_BASE_oid (n : Nat) : (Oid.CAR_CC_BASE n).oid = 0x1003003C + n * 0x1000000 := (rfl)
@[simp] theorem Oid.CAR_CC_BASE_dflt (n : Nat) : (Oid.CAR_CC_BASE n).dflt = 4294967295 := (rfl)
@[simp] theorem Oid.CAR_CL_BASE_oid (n : Nat) : (Oid.CAR_CL_BASE n).oid = 0x1003003D + n * 0x1000000 := (rfl)
@[simp] theorem Oid.CAR_CL_BASE_dflt (n : Nat) : (Oid.CAR_CL_BASE n).dflt = 4294967295 := (rfl)
@[simp] theorem Oid.GRP_MODE_oid (g : Nat) : (Oid.GRP_MODE g).oid = 0x100F0000 + g * 0x100 := (rfl)
@[simp] theorem Oid.GRP_MODE_dflt (g : Nat) : (Oid.GRP_MODE g).dflt = 0 := (rfl)
@[simp] theorem Oid.GRP_DT_LANDINGS_oid (g : Nat) : (Oid.GRP_DT_LANDINGS g).oid = 0x100F0001 + g * 0x100 := (rfl)
@[simp] theorem Oid.GRP_HC_BASE_oid (g : Nat) : (Oid.GRP_HC_BASE g).oid = 0x100F0002 + g * 0x100 := (rfl)
@[simp] theorem Oid.GRP_HC_BASE_dflt (g : Nat) : (Oid.GRP_HC_BASE g).dflt = 4294967295 := (rfl)
@[simp] theorem Oid.GRP_HL_BASE_oid (g : Nat) : (Oid.GRP_HL_BASE g).oid = 0x100F0003 + g * 0x100 := (rfl)
@[simp] theorem Oid.GRP_HL_BASE_dflt (g : Nat) : (Oid.GRP_HL_BASE g).dflt = 4294967295 := (rfl)
@[simp] theorem Oid.GRP_DT_RX_oid (g : Nat) : (Oid.GRP_DT_RX g).oid = 0x100F0004 + g * 0x100 := (rfl)
@[simp] theorem Oid.GRP_DT_TX_oid (g : Nat) : (Oid.GRP_DT_TX g).oid = 0x100F0005 + g * 0x100 := (rfl)
@[simp] theorem Oid.GRP_W_WAIT_oid (g : Nat) : (Oid.GRP_W_WAIT g).oid = 0x100F0006 + g * 0x100 := (rfl)
@[simp] theorem Oid.GRP_W_WAIT_dflt (g : Nat) : (Oid.GRP_W_WAIT g).dflt = 65536 := (rfl)
@[simp] theorem Oid.GRP_W_RIDE_oid (g : Nat) : (Oid.GRP_W_RIDE g).oid = 0x100F0007 + g * 0x100 := (rfl)
@[simp] theorem Oid.GRP_W_RIDE_dflt (g : Nat) : (Oid.GRP_W_RIDE g).dflt = 32768 := (rfl)
@[simp] theorem Oid.GRP_W_ENERGY_oid (g : Nat) : (Oid.GRP_W_ENERGY g).oid = 0x100F0008 + g * 0x100 := (rfl)
@[simp] theorem Oid.GRP_W_ENERGY_dflt (g : Nat) : (Oid.GRP_W_ENERGY g).dflt = 0 := (rfl)
@[simp] theorem Oid.GRP_FF_SW_oid (g : Nat) : (Oid.GRP_FF_SW g).oid = 0x100F0009 + g * 0x100 := (rfl)
@[simp] theorem Oid.GRP_FF_SW_dflt (g : Nat) : (Oid.GRP_FF_SW g).dflt = 0 := (rfl)
@[simp] theorem Oid.GRP_FF_LANDING_oid (g : Nat) : (Oid.GRP_FF_LANDING g).oid = 0x100F000A + g * 0x100 := (rfl)
@[simp] theorem Oid.GRP_FF_LANDING_dflt (g : Nat) : (Oid.GRP_FF_LANDING g).dflt = 0 := (rfl)
@[simp] theorem Oid.GRP_ASSIGN_LAT_oid (g : Nat) : (Oid.GRP_ASSIGN_LAT g).oid = 0x100F000B + g * 0x100 := (rfl)
@[simp] theorem Oid.GRP_ASSIGN_LAT_dflt (g : Nat) : (Oid.GRP_ASSIGN_LAT g).dflt = 0 := (rfl)
@[simp] theorem Oid.EP_SRC_oid : Oid.EP_SRC.oid = 0x100F1000 := (rfl)
@[simp] theorem Oid.EP_SRC_dflt : Oid.EP_SRC.dflt = 0 := (rfl)
@[simp] theorem Oid.EP_ACTIVE_oid : Oid.EP_ACTIVE.oid = 0x100F1001 := (rfl)
@[simp] theorem Oid.EP_ACTIVE_dflt : Oid.EP_ACTIVE.dflt = 0 := (rfl)
@[simp] theorem Oid.EP_BUDGET_oid : Oid.EP_BUDGET.oid = 0x100F1002 := (rfl)
@[simp] theorem Oid.EP_BUDGET_dflt : Oid.EP_BUDGET.dflt = 0 := (rfl)
@[simp] theorem Oid.EP_CREDIT_oid : Oid.EP_CREDIT.oid = 0x100F1003 := (rfl)
@[simp] theorem Oid.EP_CREDIT_dflt : Oid.EP_CREDIT.dflt = 50 := (rfl)
@[simp] theorem Oid.EP_SERVICE_CARS_oid : Oid.EP_SERVICE_CARS.oid = 0x100F1004 := (rfl)
@[simp] theorem Oid.EP_SERVICE_CARS_dflt : Oid.EP_SERVICE_CARS.dflt = 0 := (rfl)
@[simp] theorem Oid.EP_RETURN_TIME_oid : Oid.EP_RETURN_TIME.oid = 0x100F1005 := (rfl)
@[simp] theorem Oid.EP_RETURN_TIME_dflt : Oid.EP_RETURN_TIME.dflt = 30 := (rfl)
@[simp] theorem Oid.EP_PREDICTED_oid : Oid.EP_PREDICTED.oid = 0x100F1006 := (rfl)
@[simp] theorem Oid.EP_PREDICTED_dflt : Oid.EP_PREDICTED.dflt = 0 := (rfl)
@[simp] theorem Oid.EP_MEASURED_oid : Oid.EP_MEASURED.oid = 0x100F1007 := (rfl)
@[simp] theorem Oid.EP_MEASURED_dflt : Oid.EP_MEASURED.dflt = 0 := (rfl)
@[simp] theorem Oid.MET_FNOM_oid : Oid.MET_FNOM.oid = 0x50000000 := (rfl)
@[simp] theorem Oid.MET_FNOM_dflt : Oid.MET_FNOM.dflt = 50 := (rfl)
@[simp] theorem Oid.MET_PLL_SRC_oid : Oid.MET_PLL_SRC.oid = 0x50000001 := (rfl)
@[simp] theorem Oid.MET_PLL_STATE_oid : Oid.MET_PLL_STATE.oid = 0x50000002 := (rfl)
@[simp] theorem Oid.MET_PLL_STATE_dflt : Oid.MET_PLL_STATE.dflt = 0 := (rfl)
@[simp] theorem Oid.MET_PLL_CH_oid : Oid.MET_PLL_CH.oid = 0x50000003 := (rfl)
@[simp] theorem Oid.MET_PLL_CH_dflt : Oid.MET_PLL_CH.dflt = 255 := (rfl)
@[simp] theorem Oid.MET_FREQ_oid : Oid.MET_FREQ.oid = 0x50000004 := (rfl)
@[simp] theorem Oid.MET_FREQ_dflt : Oid.MET_FREQ.dflt = 0 := (rfl)
@[simp] theorem Oid.MET_CAL_INTERVAL_oid : Oid.MET_CAL_INTERVAL.oid = 0x50000005 := (rfl)
@[simp] theorem Oid.MET_CAL_INTERVAL_dflt : Oid.MET_CAL_INTERVAL.dflt = 168 := (rfl)
@[simp] theorem Oid.MET_CHECK_ENABLE_oid : Oid.MET_CHECK_ENABLE.oid = 0x50000006 := (rfl)
@[simp] theorem Oid.MET_CHECK_ENABLE_dflt : Oid.MET_CHECK_ENABLE.dflt = 1 := (rfl)
@[simp] theorem Oid.VCH_ENABLE_oid (v : Nat) : (Oid.VCH_ENABLE v).oid = 0x50010000 + v * 0x100 := (rfl)
@[simp] theorem Oid.VCH_ENABLE_dflt (v : Nat) : (Oid.VCH_ENABLE v).dflt = 0 := (rfl)
@[simp] theorem Oid.VCH_SCALE_oid (v : Nat) : (Oid.VCH_SCALE v).oid = 0x50010001 + v * 0x100 := (rfl)
@[simp] theorem Oid.VCH_SCALE_dflt (v : Nat) : (Oid.VCH_SCALE v).dflt = 1065353216 := (rfl)
@[simp] theorem Oid.VCH_GAIN_oid (v : Nat) : (Oid.VCH_GAIN v).oid = 0x50010002 + v * 0x100 := (rfl)
@[simp] theorem Oid.VCH_GAIN_dflt (v : Nat) : (Oid.VCH_GAIN v).dflt = 65536 := (rfl)
@[simp] theorem Oid.VCH_PHASE_oid (v : Nat) : (Oid.VCH_PHASE v).oid = 0x50010003 + v * 0x100 := (rfl)
@[simp] theorem Oid.VCH_PHASE_dflt (v : Nat) : (Oid.VCH_PHASE v).dflt = 0 := (rfl)
@[simp] theorem Oid.VCH_STATUS_oid (v : Nat) : (Oid.VCH_STATUS v).oid = 0x50010004 + v * 0x100 := (rfl)
@[simp] theorem Oid.VCH_STATUS_dflt (v : Nat) : (Oid.VCH_STATUS v).dflt = 0 := (rfl)
@[simp] theorem Oid.VCH_RMS_oid (v : Nat) : (Oid.VCH_RMS v).oid = 0x50010005 + v * 0x100 := (rfl)
@[simp] theorem Oid.VCH_RMS_dflt (v : Nat) : (Oid.VCH_RMS v).dflt = 0 := (rfl)
@[simp] theorem Oid.VCH_V1_oid (v : Nat) : (Oid.VCH_V1 v).oid = 0x50010006 + v * 0x100 := (rfl)
@[simp] theorem Oid.VCH_V1_dflt (v : Nat) : (Oid.VCH_V1 v).dflt = 0 := (rfl)
@[simp] theorem Oid.VCH_THD_oid (v : Nat) : (Oid.VCH_THD v).oid = 0x50010007 + v * 0x100 := (rfl)
@[simp] theorem Oid.VCH_THD_dflt (v : Nat) : (Oid.VCH_THD v).dflt = 0 := (rfl)
@[simp] theorem Oid.CH_SENSOR_oid (c : Nat) : (Oid.CH_SENSOR c).oid = 0x50020000 + c * 0x100 := (rfl)
@[simp] theorem Oid.CH_SENSOR_dflt (c : Nat) : (Oid.CH_SENSOR c).dflt = 0 := (rfl)
@[simp] theorem Oid.CH_VREF_oid (c : Nat) : (Oid.CH_VREF c).oid = 0x50020001 + c * 0x100 := (rfl)
@[simp] theorem Oid.CH_VREF_dflt (c : Nat) : (Oid.CH_VREF c).dflt = 0 := (rfl)
@[simp] theorem Oid.CH_SCALE_oid (c : Nat) : (Oid.CH_SCALE c).oid = 0x50020002 + c * 0x100 := (rfl)
@[simp] theorem Oid.CH_SCALE_dflt (c : Nat) : (Oid.CH_SCALE c).dflt = 1065353216 := (rfl)
@[simp] theorem Oid.CH_IN_oid (c : Nat) : (Oid.CH_IN c).oid = 0x50020003 + c * 0x100 := (rfl)
@[simp] theorem Oid.CH_IN_dflt (c : Nat) : (Oid.CH_IN c).dflt = 1000 := (rfl)
@[simp] theorem Oid.CH_CREEP_oid (c : Nat) : (Oid.CH_CREEP c).oid = 0x50020004 + c * 0x100 := (rfl)
@[simp] theorem Oid.CH_CREEP_dflt (c : Nat) : (Oid.CH_CREEP c).dflt = 400 := (rfl)
@[simp] theorem Oid.CH_CORR_oid (c : Nat) : (Oid.CH_CORR c).oid = 0x50020005 + c * 0x100 := (rfl)
@[simp] theorem Oid.CH_CAR_oid (c : Nat) : (Oid.CH_CAR c).oid = 0x50020006 + c * 0x100 := (rfl)
@[simp] theorem Oid.CH_CAR_dflt (c : Nat) : (Oid.CH_CAR c).dflt = 255 := (rfl)
@[simp] theorem Oid.CH_BS_DELAY_oid (c : Nat) : (Oid.CH_BS_DELAY c).oid = 0x50020007 + c * 0x100 := (rfl)
@[simp] theorem Oid.CH_BS_DELAY_dflt (c : Nat) : (Oid.CH_BS_DELAY c).dflt = 0 := (rfl)
@[simp] theorem Oid.CH_STATUS_oid (c : Nat) : (Oid.CH_STATUS c).oid = 0x50020008 + c * 0x100 := (rfl)
@[simp] theorem Oid.CH_STATUS_dflt (c : Nat) : (Oid.CH_STATUS c).dflt = 0 := (rfl)
@[simp] theorem Oid.CH_IRMS_oid (c : Nat) : (Oid.CH_IRMS c).oid = 0x50020009 + c * 0x100 := (rfl)
@[simp] theorem Oid.CH_IRMS_dflt (c : Nat) : (Oid.CH_IRMS c).dflt = 0 := (rfl)
@[simp] theorem Oid.CH_I1_oid (c : Nat) : (Oid.CH_I1 c).oid = 0x5002000A + c * 0x100 := (rfl)
@[simp] theorem Oid.CH_I1_dflt (c : Nat) : (Oid.CH_I1 c).dflt = 0 := (rfl)
@[simp] theorem Oid.CH_P_oid (c : Nat) : (Oid.CH_P c).oid = 0x5002000B + c * 0x100 := (rfl)
@[simp] theorem Oid.CH_P_dflt (c : Nat) : (Oid.CH_P c).dflt = 0 := (rfl)
@[simp] theorem Oid.CH_P1_oid (c : Nat) : (Oid.CH_P1 c).oid = 0x5002000C + c * 0x100 := (rfl)
@[simp] theorem Oid.CH_P1_dflt (c : Nat) : (Oid.CH_P1 c).dflt = 0 := (rfl)
@[simp] theorem Oid.CH_Q1_oid (c : Nat) : (Oid.CH_Q1 c).oid = 0x5002000D + c * 0x100 := (rfl)
@[simp] theorem Oid.CH_Q1_dflt (c : Nat) : (Oid.CH_Q1 c).dflt = 0 := (rfl)
@[simp] theorem Oid.CH_S_oid (c : Nat) : (Oid.CH_S c).oid = 0x5002000E + c * 0x100 := (rfl)
@[simp] theorem Oid.CH_S_dflt (c : Nat) : (Oid.CH_S c).dflt = 0 := (rfl)
@[simp] theorem Oid.CH_THD_oid (c : Nat) : (Oid.CH_THD c).oid = 0x5002000F + c * 0x100 := (rfl)
@[simp] theorem Oid.CH_THD_dflt (c : Nat) : (Oid.CH_THD c).dflt = 0 := (rfl)
@[simp] theorem Oid.CH_SEG_GAIN_oid (c : Nat) : (Oid.CH_SEG_GAIN c).oid = 0x50020010 + c * 0x100 := (rfl)
@[simp] theorem Oid.CH_SEG_GAIN_dflt (c : Nat) : (Oid.CH_SEG_GAIN c).dflt = 65536 := (rfl)
@[simp] theorem Oid.CH_SEG_PHASE_oid (c : Nat) : (Oid.CH_SEG_PHASE c).oid = 0x50020011 + c * 0x100 := (rfl)
@[simp] theorem Oid.CH_SEG_PHASE_dflt (c : Nat) : (Oid.CH_SEG_PHASE c).dflt = 0 := (rfl)
@[simp] theorem Oid.CH_ADC_GAIN_oid (c : Nat) : (Oid.CH_ADC_GAIN c).oid = 0x50020012 + c * 0x100 := (rfl)
@[simp] theorem Oid.CH_ADC_GAIN_dflt (c : Nat) : (Oid.CH_ADC_GAIN c).dflt = 65536 := (rfl)
@[simp] theorem Oid.CH_ADC_PHASE_oid (c : Nat) : (Oid.CH_ADC_PHASE c).oid = 0x50020013 + c * 0x100 := (rfl)
@[simp] theorem Oid.CH_ADC_PHASE_dflt (c : Nat) : (Oid.CH_ADC_PHASE c).dflt = 0 := (rfl)
@[simp] theorem Oid.CH_CAL_TIME_oid (c : Nat) : (Oid.CH_CAL_TIME c).oid = 0x50020014 + c * 0x100 := (rfl)
@[simp] theorem Oid.CH_CAL_TIME_dflt (c : Nat) : (Oid.CH_CAL_TIME c).dflt = 0 := (rfl)
@[simp] theorem Oid.CH_PROD_START_oid (c : Nat) : (Oid.CH_PROD_START c).oid = 0x50020015 + c * 0x100 := (rfl)
@[simp] theorem Oid.CH_PROD_START_dflt (c : Nat) : (Oid.CH_PROD_START c).dflt = 0 := (rfl)
@[simp] theorem Oid.MI_STATE_oid (i : Nat) : (Oid.MI_STATE i).oid = 0x50030000 + i * 0x100 := (rfl)
@[simp] theorem Oid.MI_STATE_dflt (i : Nat) : (Oid.MI_STATE i).dflt = 0 := (rfl)
@[simp] theorem Oid.MI_SHADOW_oid (i : Nat) : (Oid.MI_SHADOW i).oid = 0x50030001 + i * 0x100 := (rfl)
@[simp] theorem Oid.MI_SHADOW_dflt (i : Nat) : (Oid.MI_SHADOW i).dflt = 255 := (rfl)
@[simp] theorem Oid.MI_CAL_REQ_oid (i : Nat) : (Oid.MI_CAL_REQ i).oid = 0x50030002 + i * 0x100 := (rfl)
@[simp] theorem Oid.MI_CAL_REQ_dflt (i : Nat) : (Oid.MI_CAL_REQ i).dflt = 0 := (rfl)
@[simp] theorem Oid.MI_CAL_ABORT_oid (i : Nat) : (Oid.MI_CAL_ABORT i).oid = 0x50030003 + i * 0x100 := (rfl)
@[simp] theorem Oid.MI_CAL_ABORT_dflt (i : Nat) : (Oid.MI_CAL_ABORT i).dflt = 0 := (rfl)
@[simp] theorem Oid.MI_CAL_QUEUE_oid (i : Nat) : (Oid.MI_CAL_QUEUE i).oid = 0x50030004 + i * 0x100 := (rfl)
@[simp] theorem Oid.MI_CAL_RESULT_oid (i : Nat) : (Oid.MI_CAL_RESULT i).oid = 0x50030005 + i * 0x100 := (rfl)
@[simp] theorem Oid.MI_CAL_RESULT_dflt (i : Nat) : (Oid.MI_CAL_RESULT i).dflt = 0 := (rfl)
@[simp] theorem Oid.BSG_FREQ_oid (k : Nat) : (Oid.BSG_FREQ k).oid = 0x50030400 + k * 0x100 := (rfl)
@[simp] theorem Oid.BSG_FREQ_dflt (k : Nat) : (Oid.BSG_FREQ k).dflt = 0 := (rfl)
@[simp] theorem Oid.BSG_STATE_oid (k : Nat) : (Oid.BSG_STATE k).oid = 0x50030401 + k * 0x100 := (rfl)
@[simp] theorem Oid.BSG_STATE_dflt (k : Nat) : (Oid.BSG_STATE k).dflt = 0 := (rfl)
@[simp] theorem Oid.REG_oid (c : Nat) (r : Nat) : (Oid.REG c r).oid = 0x50040000 + c * 0x100 + r := (rfl)
@[simp] theorem Oid.REG_dflt (c : Nat) (r : Nat) : (Oid.REG c r).dflt = 0 := (rfl)
@[simp] theorem Oid.CH_REG_FLAGS_oid (c : Nat) : (Oid.CH_REG_FLAGS c).oid = 0x50040010 + c * 0x100 := (rfl)
@[simp] theorem Oid.CH_REG_FLAGS_dflt (c : Nat) : (Oid.CH_REG_FLAGS c).dflt = 0 := (rfl)
@[simp] theorem Oid.CH_REG_CLEAR_oid (c : Nat) : (Oid.CH_REG_CLEAR c).oid = 0x50040011 + c * 0x100 := (rfl)
@[simp] theorem Oid.CH_REG_CLEAR_dflt (c : Nat) : (Oid.CH_REG_CLEAR c).dflt = 0 := (rfl)
@[simp] theorem Oid.PO_SRC_oid (x : Nat) : (Oid.PO_SRC x).oid = 0x50050000 + x * 0x100 := (rfl)
@[simp] theorem Oid.PO_SRC_dflt (x : Nat) : (Oid.PO_SRC x).dflt = 65535 := (rfl)
@[simp] theorem Oid.PO_CONST_oid (x : Nat) : (Oid.PO_CONST x).oid = 0x50050001 + x * 0x100 := (rfl)
@[simp] theorem Oid.PO_CONST_dflt (x : Nat) : (Oid.PO_CONST x).dflt = 1048576 := (rfl)
@[simp] theorem Oid.PO_FIELD_oid (x : Nat) : (Oid.PO_FIELD x).oid = 0x50050002 + x * 0x100 := (rfl)
@[simp] theorem Oid.PO_FIELD_dflt (x : Nat) : (Oid.PO_FIELD x).dflt = 255 := (rfl)
@[simp] theorem Oid.PO_WIDTH_oid (x : Nat) : (Oid.PO_WIDTH x).oid = 0x50050003 + x * 0x100 := (rfl)
@[simp] theorem Oid.PO_WIDTH_dflt (x : Nat) : (Oid.PO_WIDTH x).dflt = 10000 := (rfl)
@[simp] theorem Oid.PO_RESIDUE_oid (x : Nat) : (Oid.PO_RESIDUE x).oid = 0x50050004 + x * 0x100 := (rfl)
@[simp] theorem Oid.PO_RESIDUE_dflt (x : Nat) : (Oid.PO_RESIDUE x).dflt = 0 := (rfl)
@[simp] theorem Oid.PO_COUNT_oid (x : Nat) : (Oid.PO_COUNT x).oid = 0x50050005 + x * 0x100 := (rfl)
@[simp] theorem Oid.PO_COUNT_dflt (x : Nat) : (Oid.PO_COUNT x).dflt = 0 := (rfl)
@[simp] theorem Oid.PO_OWED_oid (x : Nat) : (Oid.PO_OWED x).oid = 0x50050006 + x * 0x100 := (rfl)
@[simp] theorem Oid.PO_OWED_dflt (x : Nat) : (Oid.PO_OWED x).dflt = 0 := (rfl)
@[simp] theorem Oid.PO_STATUS_oid (x : Nat) : (Oid.PO_STATUS x).oid = 0x50050007 + x * 0x100 := (rfl)
@[simp] theorem Oid.PO_STATUS_dflt (x : Nat) : (Oid.PO_STATUS x).dflt = 0 := (rfl)
@[simp] theorem Oid.INT_LEN_oid : Oid.INT_LEN.oid = 0x50060000 := (rfl)
@[simp] theorem Oid.INT_LEN_dflt : Oid.INT_LEN.dflt = 15 := (rfl)
@[simp] theorem Oid.INT_CHANNELS_oid : Oid.INT_CHANNELS.oid = 0x50060001 := (rfl)
@[simp] theorem Oid.INT_FIRST_oid : Oid.INT_FIRST.oid = 0x50060002 := (rfl)
@[simp] theorem Oid.INT_FIRST_dflt : Oid.INT_FIRST.dflt = 0 := (rfl)
@[simp] theorem Oid.INT_LAST_oid : Oid.INT_LAST.oid = 0x50060003 := (rfl)
@[simp] theorem Oid.INT_LAST_dflt : Oid.INT_LAST.dflt = 0 := (rfl)
@[simp] theorem Oid.INT_SEL_oid : Oid.INT_SEL.oid = 0x50060004 := (rfl)
@[simp] theorem Oid.INT_SEL_dflt : Oid.INT_SEL.dflt = 0 := (rfl)
@[simp] theorem Oid.INT_DATA_oid : Oid.INT_DATA.oid = 0x50060005 := (rfl)
@[simp] theorem Oid.SAVE_NUMBER_oid : Oid.SAVE_NUMBER.oid = 0x50060010 := (rfl)
@[simp] theorem Oid.SAVE_NUMBER_dflt : Oid.SAVE_NUMBER.dflt = 0 := (rfl)
@[simp] theorem Oid.SAVE_TIME_oid : Oid.SAVE_TIME.oid = 0x50060011 := (rfl)
@[simp] theorem Oid.SAVE_TIME_dflt : Oid.SAVE_TIME.dflt = 0 := (rfl)
@[simp] theorem Oid.ENERGY_RESTORE_oid : Oid.ENERGY_RESTORE.oid = 0x50060012 := (rfl)
@[simp] theorem Oid.ENERGY_RESTORE_dflt : Oid.ENERGY_RESTORE.dflt = 0 := (rfl)
@[simp] theorem Oid.ENERGY_ACK_oid : Oid.ENERGY_ACK.oid = 0x50060013 := (rfl)
@[simp] theorem Oid.ENERGY_ACK_dflt : Oid.ENERGY_ACK.dflt = 0 := (rfl)
@[simp] theorem Oid.LAST_GAP_MS_oid : Oid.LAST_GAP_MS.oid = 0x50060014 := (rfl)
@[simp] theorem Oid.LAST_GAP_MS_dflt : Oid.LAST_GAP_MS.dflt = 0 := (rfl)
@[simp] theorem Oid.SAVE_LATE_COUNT_oid : Oid.SAVE_LATE_COUNT.oid = 0x50060015 := (rfl)
@[simp] theorem Oid.SAVE_LATE_COUNT_dflt : Oid.SAVE_LATE_COUNT.dflt = 0 := (rfl)
@[simp] theorem Oid.CM_CHANNEL_oid (n : Nat) : (Oid.CM_CHANNEL n).oid = 0x50080000 + n * 0x100 := (rfl)
@[simp] theorem Oid.CM_CHANNEL_dflt (n : Nat) : (Oid.CM_CHANNEL n).dflt = 255 := (rfl)
@[simp] theorem Oid.CM_TRIPS_UP_oid (n : Nat) : (Oid.CM_TRIPS_UP n).oid = 0x50080001 + n * 0x100 := (rfl)
@[simp] theorem Oid.CM_TRIPS_UP_dflt (n : Nat) : (Oid.CM_TRIPS_UP n).dflt = 0 := (rfl)
@[simp] theorem Oid.CM_TRIPS_DN_oid (n : Nat) : (Oid.CM_TRIPS_DN n).oid = 0x50080002 + n * 0x100 := (rfl)
@[simp] theorem Oid.CM_TRIPS_DN_dflt (n : Nat) : (Oid.CM_TRIPS_DN n).dflt = 0 := (rfl)
@[simp] theorem Oid.CM_VALID_oid (n : Nat) : (Oid.CM_VALID n).oid = 0x50080003 + n * 0x100 := (rfl)
@[simp] theorem Oid.CM_VALID_dflt (n : Nat) : (Oid.CM_VALID n).dflt = 0 := (rfl)
@[simp] theorem Oid.CM_FORGET_oid (n : Nat) : (Oid.CM_FORGET n).oid = 0x50080004 + n * 0x100 := (rfl)
@[simp] theorem Oid.CM_FORGET_dflt (n : Nat) : (Oid.CM_FORGET n).dflt = 64881 := (rfl)
@[simp] theorem Oid.CM_RESET_oid (n : Nat) : (Oid.CM_RESET n).oid = 0x50080005 + n * 0x100 := (rfl)
@[simp] theorem Oid.CM_RESET_dflt (n : Nat) : (Oid.CM_RESET n).dflt = 0 := (rfl)
@[simp] theorem Oid.CM_COEF_oid (n : Nat) : (Oid.CM_COEF n).oid = 0x50080006 + n * 0x100 := (rfl)
@[simp] theorem Oid.CM_LAST_TRIP_oid (n : Nat) : (Oid.CM_LAST_TRIP n).oid = 0x50080007 + n * 0x100 := (rfl)
@[simp] theorem Oid.SLA_STATE_oid : Oid.SLA_STATE.oid = 0x70000000 := (rfl)
@[simp] theorem Oid.SLA_STATE_dflt : Oid.SLA_STATE.dflt = 0 := (rfl)
@[simp] theorem Oid.SLA_GEN_oid : Oid.SLA_GEN.oid = 0x70000001 := (rfl)
@[simp] theorem Oid.SLA_GEN_dflt : Oid.SLA_GEN.dflt = 0 := (rfl)
@[simp] theorem Oid.SLA_CRC_oid : Oid.SLA_CRC.oid = 0x70000002 := (rfl)
@[simp] theorem Oid.SLA_CRC_dflt : Oid.SLA_CRC.dflt = 0 := (rfl)
@[simp] theorem Oid.SAFETY_COMMIT_oid : Oid.SAFETY_COMMIT.oid = 0x70000003 := (rfl)
@[simp] theorem Oid.SAFETY_COMMIT_dflt : Oid.SAFETY_COMMIT.dflt = 0 := (rfl)
@[simp] theorem Oid.SAFETY_PENDING_oid : Oid.SAFETY_PENDING.oid = 0x70000004 := (rfl)
@[simp] theorem Oid.SAFETY_PENDING_dflt : Oid.SAFETY_PENDING.dflt = 0 := (rfl)
@[simp] theorem Oid.SAFETY_PW_oid : Oid.SAFETY_PW.oid = 0x70000005 := (rfl)
@[simp] theorem Oid.CFG_ACTIVATE_oid : Oid.CFG_ACTIVATE.oid = 0x70000006 := (rfl)
@[simp] theorem Oid.CFG_ACTIVATE_dflt : Oid.CFG_ACTIVATE.dflt = 0 := (rfl)
@[simp] theorem Oid.SAFETY_TEST_REQ_oid : Oid.SAFETY_TEST_REQ.oid = 0x70000007 := (rfl)
@[simp] theorem Oid.SAFETY_TEST_REQ_dflt : Oid.SAFETY_TEST_REQ.dflt = 0 := (rfl)
@[simp] theorem Oid.SAFETY_TEST_STATE_oid : Oid.SAFETY_TEST_STATE.oid = 0x70000008 := (rfl)
@[simp] theorem Oid.SAFETY_TEST_STATE_dflt : Oid.SAFETY_TEST_STATE.dflt = 0 := (rfl)
@[simp] theorem Oid.SAFETY_TEST_TIME_oid : Oid.SAFETY_TEST_TIME.oid = 0x70000009 := (rfl)
@[simp] theorem Oid.SAFETY_TEST_TIME_dflt : Oid.SAFETY_TEST_TIME.dflt = 0 := (rfl)
@[simp] theorem Oid.SAFETY_TEST_INTERVAL_oid : Oid.SAFETY_TEST_INTERVAL.oid = 0x7000000A := (rfl)
@[simp] theorem Oid.SAFETY_TEST_INTERVAL_dflt : Oid.SAFETY_TEST_INTERVAL.dflt = 24 := (rfl)
@[simp] theorem Oid.PW_SET_oid : Oid.PW_SET.oid = 0x7000000B := (rfl)
@[simp] theorem Oid.PW_SET_dflt : Oid.PW_SET.dflt = 0 := (rfl)
@[simp] theorem Oid.SF_STATE_oid (n : Nat) : (Oid.SF_STATE n).oid = 0x70010000 + n * 0x100 := (rfl)
@[simp] theorem Oid.SF_STATE_dflt (n : Nat) : (Oid.SF_STATE n).dflt = 0 := (rfl)
@[simp] theorem Oid.SF_RESET_oid (n : Nat) : (Oid.SF_RESET n).oid = 0x70010001 + n * 0x100 := (rfl)
@[simp] theorem Oid.SF_RESET_dflt (n : Nat) : (Oid.SF_RESET n).dflt = 0 := (rfl)
@[simp] theorem Oid.SLA_CAR_oid (n : Nat) : (Oid.SLA_CAR n).oid = 0x70010002 + n * 0x100 := (rfl)
@[simp] theorem Oid.SF_V_MAX_oid (n : Nat) : (Oid.SF_V_MAX n).oid = 0x70010003 + n * 0x100 := (rfl)
@[simp] theorem Oid.SF_V_MAX_dflt (n : Nat) : (Oid.SF_V_MAX n).dflt = 115000 := (rfl)
@[simp] theorem Oid.SF_UCM_DIST_oid (n : Nat) : (Oid.SF_UCM_DIST n).oid = 0x70010004 + n * 0x100 := (rfl)
@[simp] theorem Oid.SF_UCM_DIST_dflt (n : Nat) : (Oid.SF_UCM_DIST n).dflt = 6400 := (rfl)
@[simp] theorem Oid.SF_TRIPS_oid (n : Nat) : (Oid.SF_TRIPS n).oid = 0x70010005 + n * 0x100 := (rfl)
@[simp] theorem Oid.SF_TRIPS_dflt (n : Nat) : (Oid.SF_TRIPS n).dflt = 0 := (rfl)
@[simp] theorem Oid.DST_DESC_oid (t : Nat) : (Oid.DST_DESC t).oid = 0x70020000 + t * 0x100 := (rfl)
@[simp] theorem Oid.DST_CHAIN_oid (t : Nat) : (Oid.DST_CHAIN t).oid = 0x70020001 + t * 0x100 := (rfl)
@[simp] theorem Oid.DST_CHAIN_dflt (t : Nat) : (Oid.DST_CHAIN t).dflt = 1 := (rfl)
@[simp] theorem Oid.DST_STATE_oid (t : Nat) : (Oid.DST_STATE t).oid = 0x70020002 + t * 0x100 := (rfl)
@[simp] theorem Oid.DST_STATE_dflt (t : Nat) : (Oid.DST_STATE t).dflt = 0 := (rfl)
@[simp] theorem Oid.DST_RX_DATA_oid (t : Nat) : (Oid.DST_RX_DATA t).oid = 0x70020003 + t * 0x100 := (rfl)
@[simp] theorem Oid.DST_ERRORS_oid (t : Nat) : (Oid.DST_ERRORS t).oid = 0x70020004 + t * 0x100 := (rfl)
@[simp] theorem Oid.DST_ERRORS_dflt (t : Nat) : (Oid.DST_ERRORS t).dflt = 0 := (rfl)
@[simp] theorem Oid.DST_SEQ_oid (t : Nat) : (Oid.DST_SEQ t).oid = 0x70020005 + t * 0x100 := (rfl)
@[simp] theorem Oid.DST_SEQ_dflt (t : Nat) : (Oid.DST_SEQ t).dflt = 0 := (rfl)
@[simp] theorem Oid.LOG_FIRST_oid : Oid.LOG_FIRST.oid = 0x70030000 := (rfl)
@[simp] theorem Oid.LOG_FIRST_dflt : Oid.LOG_FIRST.dflt = 0 := (rfl)
@[simp] theorem Oid.LOG_LAST_oid : Oid.LOG_LAST.oid = 0x70030001 := (rfl)
@[simp] theorem Oid.LOG_LAST_dflt : Oid.LOG_LAST.dflt = 0 := (rfl)
@[simp] theorem Oid.LOG_SEL_oid : Oid.LOG_SEL.oid = 0x70030002 := (rfl)
@[simp] theorem Oid.LOG_SEL_dflt : Oid.LOG_SEL.dflt = 0 := (rfl)
@[simp] theorem Oid.LOG_DATA_oid : Oid.LOG_DATA.oid = 0x70030003 := (rfl)
@[simp] theorem Oid.LOG_ANCHOR_oid : Oid.LOG_ANCHOR.oid = 0x70030004 := (rfl)
@[simp] theorem Oid.TW_MODE_oid : Oid.TW_MODE.oid = 0x78000100 := (rfl)
@[simp] theorem Oid.TW_MODE_dflt : Oid.TW_MODE.dflt = 1 := (rfl)
@[simp] theorem Oid.TW_SUMMARY_oid : Oid.TW_SUMMARY.oid = 0x78000101 := (rfl)
@[simp] theorem Oid.TW_SUMMARY_dflt : Oid.TW_SUMMARY.dflt = 3 := (rfl)
@[simp] theorem Oid.TW_CHECKS_oid : Oid.TW_CHECKS.oid = 0x78000102 := (rfl)
@[simp] theorem Oid.TW_CHECKS_dflt : Oid.TW_CHECKS.dflt = 0 := (rfl)
@[simp] theorem Oid.TW_TWIN_STATE_oid : Oid.TW_TWIN_STATE.oid = 0x78000103 := (rfl)
@[simp] theorem Oid.TW_TWIN_STATE_dflt : Oid.TW_TWIN_STATE.dflt = 255 := (rfl)
@[simp] theorem Oid.TW_TWIN_SUMMARY_oid : Oid.TW_TWIN_SUMMARY.oid = 0x78000104 := (rfl)
@[simp] theorem Oid.TW_TWIN_SUMMARY_dflt : Oid.TW_TWIN_SUMMARY.dflt = 6 := (rfl)
@[simp] theorem Oid.TW_TWIN_CHECKS_oid : Oid.TW_TWIN_CHECKS.oid = 0x78000105 := (rfl)
@[simp] theorem Oid.TW_TWIN_CHECKS_dflt : Oid.TW_TWIN_CHECKS.dflt = 0 := (rfl)
@[simp] theorem Oid.TW_TWIN_FW_oid : Oid.TW_TWIN_FW.oid = 0x78000106 := (rfl)
@[simp] theorem Oid.TW_TWIN_FW_dflt : Oid.TW_TWIN_FW.dflt = 0 := (rfl)
@[simp] theorem Oid.TW_MIRROR_VER_oid : Oid.TW_MIRROR_VER.oid = 0x78000107 := (rfl)
@[simp] theorem Oid.TW_MIRROR_VER_dflt : Oid.TW_MIRROR_VER.dflt = 0 := (rfl)
@[simp] theorem Oid.TW_GEN_oid : Oid.TW_GEN.oid = 0x78000108 := (rfl)
@[simp] theorem Oid.TW_GEN_dflt : Oid.TW_GEN.dflt = 0 := (rfl)
@[simp] theorem Oid.TW_CONFIRMED_oid : Oid.TW_CONFIRMED.oid = 0x78000109 := (rfl)
@[simp] theorem Oid.TW_CONFIRMED_dflt : Oid.TW_CONFIRMED.dflt = 0 := (rfl)
@[simp] theorem Oid.TW_LANES_oid : Oid.TW_LANES.oid = 0x7800010A := (rfl)
@[simp] theorem Oid.TW_LANES_dflt : Oid.TW_LANES.dflt = 0 := (rfl)
@[simp] theorem Oid.TW_RTT_NS_oid : Oid.TW_RTT_NS.oid = 0x7800010B := (rfl)
@[simp] theorem Oid.TW_RTT_NS_dflt : Oid.TW_RTT_NS.dflt = 0 := (rfl)
@[simp] theorem Oid.TW_INTERLOCK_oid : Oid.TW_INTERLOCK.oid = 0x7800010C := (rfl)
@[simp] theorem Oid.TW_INTERLOCK_dflt : Oid.TW_INTERLOCK.dflt = 0 := (rfl)
@[simp] theorem Oid.TW_RECOG_NS_oid : Oid.TW_RECOG_NS.oid = 0x7800010D := (rfl)
@[simp] theorem Oid.TW_RECOG_NS_dflt : Oid.TW_RECOG_NS.dflt = 0 := (rfl)
@[simp] theorem Oid.TW_HANDOVERS_oid : Oid.TW_HANDOVERS.oid = 0x7800010E := (rfl)
@[simp] theorem Oid.TW_HANDOVERS_dflt : Oid.TW_HANDOVERS.dflt = 0 := (rfl)
@[simp] theorem Oid.TW_LAST_GAP_oid : Oid.TW_LAST_GAP.oid = 0x7800010F := (rfl)
@[simp] theorem Oid.TW_LAST_GAP_dflt : Oid.TW_LAST_GAP.dflt = 0 := (rfl)
@[simp] theorem Oid.TW_LAST_BOUND_oid : Oid.TW_LAST_BOUND.oid = 0x78000110 := (rfl)
@[simp] theorem Oid.TW_LAST_BOUND_dflt : Oid.TW_LAST_BOUND.dflt = 0 := (rfl)
@[simp] theorem Oid.TW_HELD_oid : Oid.TW_HELD.oid = 0x78000111 := (rfl)
@[simp] theorem Oid.TW_LAST_PASS_oid : Oid.TW_LAST_PASS.oid = 0x78000112 := (rfl)
@[simp] theorem Oid.TW_DIVERGENCES_oid : Oid.TW_DIVERGENCES.oid = 0x78000113 := (rfl)
@[simp] theorem Oid.TW_DIVERGENCES_dflt : Oid.TW_DIVERGENCES.dflt = 0 := (rfl)
@[simp] theorem Oid.TW_RESYNC_oid : Oid.TW_RESYNC.oid = 0x78000114 := (rfl)
@[simp] theorem Oid.TW_RESYNC_dflt : Oid.TW_RESYNC.dflt = 0 := (rfl)
@[simp] theorem Oid.TW_RESYNC_MS_oid : Oid.TW_RESYNC_MS.oid = 0x78000115 := (rfl)
@[simp] theorem Oid.TW_RESYNC_MS_dflt : Oid.TW_RESYNC_MS.dflt = 0 := (rfl)
@[simp] theorem Oid.TW_PULSE_PERIOD_oid : Oid.TW_PULSE_PERIOD.oid = 0x78000116 := (rfl)
@[simp] theorem Oid.TW_PULSE_PERIOD_dflt : Oid.TW_PULSE_PERIOD.dflt = 10 := (rfl)
@[simp] theorem Oid.TW_PAIR_IP_oid (p : Nat) : (Oid.TW_PAIR_IP p).oid = 0x78000200 + p := (rfl)
@[simp] theorem Oid.TW_PAIR_IP_dflt (p : Nat) : (Oid.TW_PAIR_IP p).dflt = 0 := (rfl)
@[simp] theorem Oid.TW_PAIR_PREFIX_oid (p : Nat) : (Oid.TW_PAIR_PREFIX p).oid = 0x78000300 + p := (rfl)
@[simp] theorem Oid.TW_PAIR_PREFIX_dflt (p : Nat) : (Oid.TW_PAIR_PREFIX p).dflt = 24 := (rfl)
@[simp] theorem Oid.FIO_MODE_oid (k : Nat) : (Oid.FIO_MODE k).oid = 0x60000000 + k * 0x100 := (rfl)
@[simp] theorem Oid.FIO_MODE_dflt (k : Nat) : (Oid.FIO_MODE k).dflt = 0 := (rfl)
@[simp] theorem Oid.FIO_OUT_oid (k : Nat) : (Oid.FIO_OUT k).oid = 0x60000001 + k * 0x100 := (rfl)
@[simp] theorem Oid.FIO_OUT_dflt (k : Nat) : (Oid.FIO_OUT k).dflt = 0 := (rfl)
@[simp] theorem Oid.FIO_IN_oid (k : Nat) : (Oid.FIO_IN k).oid = 0x60000002 + k * 0x100 := (rfl)
@[simp] theorem Oid.FIO_IN_dflt (k : Nat) : (Oid.FIO_IN k).dflt = 0 := (rfl)
@[simp] theorem Oid.FIO_LEVEL_oid (k : Nat) : (Oid.FIO_LEVEL k).oid = 0x60000003 + k * 0x100 := (rfl)
@[simp] theorem Oid.FIO_LEVEL_dflt (k : Nat) : (Oid.FIO_LEVEL k).dflt = 0 := (rfl)
@[simp] theorem Oid.FIO_SAFE_oid (k : Nat) : (Oid.FIO_SAFE k).oid = 0x60000004 + k * 0x100 := (rfl)
@[simp] theorem Oid.FIO_SAFE_dflt (k : Nat) : (Oid.FIO_SAFE k).dflt = 0 := (rfl)
@[simp] theorem Oid.FIO_FILTER_oid (k : Nat) : (Oid.FIO_FILTER k).oid = 0x60000005 + k * 0x100 := (rfl)
@[simp] theorem Oid.FIO_FILTER_dflt (k : Nat) : (Oid.FIO_FILTER k).dflt = 2 := (rfl)
@[simp] theorem Oid.FIO_CONT_oid (k : Nat) : (Oid.FIO_CONT k).oid = 0x60000006 + k * 0x100 := (rfl)
@[simp] theorem Oid.FIO_CONT_dflt (k : Nat) : (Oid.FIO_CONT k).dflt = 0 := (rfl)
@[simp] theorem Oid.FIO_OWNER_oid (k : Nat) : (Oid.FIO_OWNER k).oid = 0x60000007 + k * 0x100 := (rfl)
@[simp] theorem Oid.FIO_OWNER_dflt (k : Nat) : (Oid.FIO_OWNER k).dflt = 0 := (rfl)
@[simp] theorem Oid.FIO_VALID_oid (k : Nat) : (Oid.FIO_VALID k).oid = 0x60000008 + k * 0x100 := (rfl)
@[simp] theorem Oid.FIO_VALID_dflt (k : Nat) : (Oid.FIO_VALID k).dflt = 0 := (rfl)
@[simp] theorem Oid.FIO_CHANGES_oid (k : Nat) : (Oid.FIO_CHANGES k).oid = 0x60000009 + k * 0x100 := (rfl)
@[simp] theorem Oid.FIO_CHANGES_dflt (k : Nat) : (Oid.FIO_CHANGES k).dflt = 0 := (rfl)
@[simp] theorem Oid.FG_STATUS_oid (g : Nat) : (Oid.FG_STATUS g).oid = 0x60010000 + g * 0x100 := (rfl)
@[simp] theorem Oid.FG_STATUS_dflt (g : Nat) : (Oid.FG_STATUS g).dflt = 0 := (rfl)
@[simp] theorem Oid.FG_ACK_oid (g : Nat) : (Oid.FG_ACK g).oid = 0x60010001 + g * 0x100 := (rfl)
@[simp] theorem Oid.FG_ACK_dflt (g : Nat) : (Oid.FG_ACK g).dflt = 0 := (rfl)
@[simp] theorem Oid.FG_SAMPLE_oid (g : Nat) : (Oid.FG_SAMPLE g).oid = 0x60010002 + g * 0x100 := (rfl)
@[simp] theorem Oid.FG_SAMPLE_dflt (g : Nat) : (Oid.FG_SAMPLE g).dflt = 1000 := (rfl)
@[simp] theorem Oid.FG_RESTORE_oid (g : Nat) : (Oid.FG_RESTORE g).oid = 0x60010003 + g * 0x100 := (rfl)
@[simp] theorem Oid.FG_RESTORE_dflt (g : Nat) : (Oid.FG_RESTORE g).dflt = 0 := (rfl)
@[simp] theorem Oid.FG_SUPPLY_MV_oid (g : Nat) : (Oid.FG_SUPPLY_MV g).oid = 0x60010004 + g * 0x100 := (rfl)
@[simp] theorem Oid.FG_SUPPLY_MV_dflt (g : Nat) : (Oid.FG_SUPPLY_MV g).dflt = 0 := (rfl)
@[simp] theorem Oid.FG_FAULTS_oid (g : Nat) : (Oid.FG_FAULTS g).oid = 0x60010005 + g * 0x100 := (rfl)
@[simp] theorem Oid.FG_FAULTS_dflt (g : Nat) : (Oid.FG_FAULTS g).dflt = 0 := (rfl)
@[simp] theorem Oid.FIO_WD_TIME_oid : Oid.FIO_WD_TIME.oid = 0x60020000 := (rfl)
@[simp] theorem Oid.FIO_WD_TIME_dflt : Oid.FIO_WD_TIME.dflt = 100 := (rfl)
@[simp] theorem Oid.FIO_WD_STATE_oid : Oid.FIO_WD_STATE.oid = 0x60020001 := (rfl)
@[simp] theorem Oid.FIO_WD_STATE_dflt : Oid.FIO_WD_STATE.dflt = 1 := (rfl)
@[simp] theorem Oid.FIO_WD_EXPIRIES_oid : Oid.FIO_WD_EXPIRIES.oid = 0x60020002 := (rfl)
@[simp] theorem Oid.FIO_WD_EXPIRIES_dflt : Oid.FIO_WD_EXPIRIES.dflt = 0 := (rfl)
@[simp] theorem Oid.MEM_CE_COUNT_oid : Oid.MEM_CE_COUNT.oid = 0x00000600 := (rfl)
@[simp] theorem Oid.MEM_CE_COUNT_dflt : Oid.MEM_CE_COUNT.dflt = 0 := (rfl)
@[simp] theorem Oid.MEM_DSE_COUNT_oid : Oid.MEM_DSE_COUNT.oid = 0x00000601 := (rfl)
@[simp] theorem Oid.MEM_DSE_COUNT_dflt : Oid.MEM_DSE_COUNT.dflt = 0 := (rfl)
@[simp] theorem Oid.MEM_LAST_DSE_oid : Oid.MEM_LAST_DSE.oid = 0x00000602 := (rfl)
@[simp] theorem Oid.MRAM_MAX_WRITES_oid : Oid.MRAM_MAX_WRITES.oid = 0x00000603 := (rfl)
@[simp] theorem Oid.MRAM_MAX_WRITES_dflt : Oid.MRAM_MAX_WRITES.dflt = 0 := (rfl)
@[simp] theorem Oid.ID_SERIAL_oid : Oid.ID_SERIAL.oid = 0x00000700 := (rfl)
@[simp] theorem Oid.ID_SERIAL_dflt : Oid.ID_SERIAL.dflt = 0 := (rfl)
@[simp] theorem Oid.ID_PUBKEY_oid : Oid.ID_PUBKEY.oid = 0x00000701 := (rfl)
@[simp] theorem Oid.ID_CERT_oid : Oid.ID_CERT.oid = 0x00000702 := (rfl)
@[simp] theorem Oid.ID_CSR_SUBJECT_oid : Oid.ID_CSR_SUBJECT.oid = 0x00000703 := (rfl)
@[simp] theorem Oid.ID_CSR_oid : Oid.ID_CSR.oid = 0x00000704 := (rfl)
@[simp] theorem Oid.OPC_CERT_oid (k : Nat) (q : Nat) : (Oid.OPC_CERT k q).oid = 0x00001000 + k * 0x100 + q * 0x10 := (rfl)
@[simp] theorem Oid.OPC_USE_oid (k : Nat) (q : Nat) : (Oid.OPC_USE k q).oid = 0x00001001 + k * 0x100 + q * 0x10 := (rfl)
@[simp] theorem Oid.OPC_USE_dflt (k : Nat) (q : Nat) : (Oid.OPC_USE k q).dflt = 0 := (rfl)
@[simp] theorem Oid.OPC_STATE_oid (k : Nat) (q : Nat) : (Oid.OPC_STATE k q).oid = 0x00001002 + k * 0x100 + q * 0x10 := (rfl)
@[simp] theorem Oid.OPC_STATE_dflt (k : Nat) (q : Nat) : (Oid.OPC_STATE k q).dflt = 0 := (rfl)
@[simp] theorem Oid.FW_TARGET_oid : Oid.FW_TARGET.oid = 0x00000800 := (rfl)
@[simp] theorem Oid.FW_TARGET_dflt : Oid.FW_TARGET.dflt = 0 := (rfl)
@[simp] theorem Oid.FW_LOAD_oid : Oid.FW_LOAD.oid = 0x00000801 := (rfl)
@[simp] theorem Oid.FW_VERIFY_oid : Oid.FW_VERIFY.oid = 0x00000802 := (rfl)
@[simp] theorem Oid.FW_VERIFY_dflt : Oid.FW_VERIFY.dflt = 0 := (rfl)
@[simp] theorem Oid.FW_STATE_oid : Oid.FW_STATE.oid = 0x00000803 := (rfl)
@[simp] theorem Oid.FW_STATE_dflt : Oid.FW_STATE.dflt = 0 := (rfl)
@[simp] theorem Oid.FW_SWITCH_oid : Oid.FW_SWITCH.oid = 0x00000804 := (rfl)
@[simp] theorem Oid.FW_SWITCH_dflt : Oid.FW_SWITCH.dflt = 0 := (rfl)
@[simp] theorem Oid.FW_BANK_oid : Oid.FW_BANK.oid = 0x00000805 := (rfl)
@[simp] theorem Oid.FW_BANK_dflt : Oid.FW_BANK.dflt = 0 := (rfl)
@[simp] theorem Oid.FW_VERSION_oid : Oid.FW_VERSION.oid = 0x00000806 := (rfl)
@[simp] theorem Oid.FW_MIN_SVN_oid : Oid.FW_MIN_SVN.oid = 0x00000807 := (rfl)
@[simp] theorem Oid.FW_MIN_SVN_dflt : Oid.FW_MIN_SVN.dflt = 0 := (rfl)
@[simp] theorem Oid.CFG_LOAD_oid : Oid.CFG_LOAD.oid = 0x00000900 := (rfl)
@[simp] theorem Oid.CFG_VERIFY_oid : Oid.CFG_VERIFY.oid = 0x00000901 := (rfl)
@[simp] theorem Oid.CFG_VERIFY_dflt : Oid.CFG_VERIFY.dflt = 0 := (rfl)
@[simp] theorem Oid.CFG_STATE_oid : Oid.CFG_STATE.oid = 0x00000902 := (rfl)
@[simp] theorem Oid.CFG_STATE_dflt : Oid.CFG_STATE.dflt = 0 := (rfl)
@[simp] theorem Oid.CFG_ACTIVE_SLOT_oid : Oid.CFG_ACTIVE_SLOT.oid = 0x00000903 := (rfl)
@[simp] theorem Oid.CFG_ACTIVE_SLOT_dflt : Oid.CFG_ACTIVE_SLOT.dflt = 0 := (rfl)
@[simp] theorem Oid.CFG_HASH_oid : Oid.CFG_HASH.oid = 0x00000904 := (rfl)
@[simp] theorem Oid.CFG_SIGNER_KEY_oid (k : Nat) : (Oid.CFG_SIGNER_KEY k).oid = 0x00000910 + k := (rfl)
@[simp] theorem Oid.REC_NEXT_oid : Oid.REC_NEXT.oid = 0x7C000100 := (rfl)
@[simp] theorem Oid.REC_NEXT_dflt : Oid.REC_NEXT.dflt = 0 := (rfl)
@[simp] theorem Oid.REC_FIRST_oid : Oid.REC_FIRST.oid = 0x7C000101 := (rfl)
@[simp] theorem Oid.REC_FIRST_dflt : Oid.REC_FIRST.dflt = 0 := (rfl)
@[simp] theorem Oid.REC_LAST_oid : Oid.REC_LAST.oid = 0x7C000102 := (rfl)
@[simp] theorem Oid.REC_LAST_dflt : Oid.REC_LAST.dflt = 0 := (rfl)
@[simp] theorem Oid.REC_SEL_oid : Oid.REC_SEL.oid = 0x7C000103 := (rfl)
@[simp] theorem Oid.REC_SEL_dflt : Oid.REC_SEL.dflt = 0 := (rfl)
@[simp] theorem Oid.REC_DATA_oid : Oid.REC_DATA.oid = 0x7C000104 := (rfl)
@[simp] theorem Oid.REC_PENDING_oid : Oid.REC_PENDING.oid = 0x7C000105 := (rfl)
@[simp] theorem Oid.REC_PENDING_dflt : Oid.REC_PENDING.dflt = 0 := (rfl)
@[simp] theorem Oid.REC_DROPPED_oid : Oid.REC_DROPPED.oid = 0x7C000106 := (rfl)
@[simp] theorem Oid.REC_DROPPED_dflt : Oid.REC_DROPPED.dflt = 0 := (rfl)
@[simp] theorem Oid.REC_REPEAT_WINDOW_oid : Oid.REC_REPEAT_WINDOW.oid = 0x7C000107 := (rfl)
@[simp] theorem Oid.REC_REPEAT_WINDOW_dflt : Oid.REC_REPEAT_WINDOW.dflt = 3600 := (rfl)
@[simp] theorem Oid.REC_MARK_INTERVAL_oid : Oid.REC_MARK_INTERVAL.oid = 0x7C000108 := (rfl)
@[simp] theorem Oid.REC_MARK_INTERVAL_dflt : Oid.REC_MARK_INTERVAL.dflt = 3600 := (rfl)
@[simp] theorem Oid.FRZ_READOUT_ENABLE_oid : Oid.FRZ_READOUT_ENABLE.oid = 0x7C000200 := (rfl)
@[simp] theorem Oid.FRZ_READOUT_ENABLE_dflt : Oid.FRZ_READOUT_ENABLE.dflt = 0 := (rfl)
@[simp] theorem Oid.FRZ_COUNT_oid : Oid.FRZ_COUNT.oid = 0x7C000201 := (rfl)
@[simp] theorem Oid.FRZ_COUNT_dflt : Oid.FRZ_COUNT.dflt = 0 := (rfl)
@[simp] theorem Oid.WINTER_N_STATE_oid : Oid.WINTER_N_STATE.oid = 0x7C000202 := (rfl)
@[simp] theorem Oid.WINTER_N_STATE_dflt : Oid.WINTER_N_STATE.dflt = 0 := (rfl)

end Sys2Proof.Machine
end

