-- ==== Sys2Proof/Laws/State.lean ====
section
/-! SUPPORT. The laws of the named operations over the state: what each leaves as it was, field by field, and what a register reads
after each. -/

namespace Sys2Proof.Machine

/-! ### What each operation leaves as it was -/

@[simp] theorem State.start_pending (s : State) : (s.start).pending = s.pending := rfl
@[simp] theorem State.start_clk (s : State) : (s.start).clk = s.clk := rfl
@[simp] theorem State.start_freeCtr (s : State) : (s.start).freeCtr = s.freeCtr := rfl
@[simp] theorem State.start_mode (s : State) : (s.start).mode = s.mode := rfl
@[simp] theorem State.start_objs (s : State) : (s.start).objs = s.objs := rfl
@[simp] theorem State.start_blobs (s : State) : (s.start).blobs = s.blobs := rfl
@[simp] theorem State.start_rcd (s : State) : (s.start).rcd = s.rcd := rfl
@[simp] theorem State.start_frz (s : State) : (s.start).frz = s.frz := rfl
@[simp] theorem State.start_pow (s : State) : (s.start).pow = s.pow := rfl
@[simp] theorem State.start_rst (s : State) : (s.start).rst = s.rst := rfl
@[simp] theorem State.start_tb (s : State) : (s.start).tb = s.tb := rfl
@[simp] theorem State.start_launches (s : State) : (s.start).launches = s.launches := rfl
@[simp] theorem State.start_launchSeq (s : State) : (s.start).launchSeq = s.launchSeq := rfl
@[simp] theorem State.start_acc (s : State) : (s.start).acc = s.acc := rfl
@[simp] theorem State.start_pts (s : State) : (s.start).pts = s.pts := rfl
@[simp] theorem State.start_tw (s : State) : (s.start).tw = s.tw := rfl
@[simp] theorem State.start_cfgValid (s : State) : (s.start).cfgValid = s.cfgValid := rfl
@[simp] theorem State.start_testQueue (s : State) : (s.start).testQueue = s.testQueue := rfl
@[simp] theorem State.start_testsOn (s : State) : (s.start).testsOn = s.testsOn := rfl
@[simp] theorem State.start_fio (s : State) : (s.start).fio = s.fio := rfl
@[simp] theorem State.start_mem (s : State) : (s.start).mem = s.mem := rfl
@[simp] theorem State.start_saf (s : State) : (s.start).saf = s.saf := rfl
@[simp] theorem State.start_can (s : State) : (s.start).can = s.can := rfl
@[simp] theorem State.start_pos (s : State) : (s.start).pos = s.pos := rfl
@[simp] theorem State.start_emits (s : State) : (s.start).emits = s.emits := rfl
@[simp] theorem State.start_loops (s : State) : (s.start).loops = s.loops := rfl
@[simp] theorem State.start_grps (s : State) : (s.start).grps = s.grps := rfl
@[simp] theorem State.start_doors (s : State) : (s.start).doors = s.doors := rfl
@[simp] theorem State.start_met (s : State) : (s.start).met = s.met := rfl
@[simp] theorem State.start_dsp (s : State) : (s.start).dsp = s.dsp := rfl

@[simp] theorem State.set_pending (s : State) (k : Key) (v : Int) : (s.set k v).pending = s.pending := rfl
@[simp] theorem State.set_out (s : State) (k : Key) (v : Int) : (s.set k v).out = s.out := rfl
@[simp] theorem State.set_clk (s : State) (k : Key) (v : Int) : (s.set k v).clk = s.clk := rfl
@[simp] theorem State.set_freeCtr (s : State) (k : Key) (v : Int) : (s.set k v).freeCtr = s.freeCtr := rfl
@[simp] theorem State.set_mode (s : State) (k : Key) (v : Int) : (s.set k v).mode = s.mode := rfl
@[simp] theorem State.set_blobs (s : State) (k : Key) (v : Int) : (s.set k v).blobs = s.blobs := rfl
@[simp] theorem State.set_rcd (s : State) (k : Key) (v : Int) : (s.set k v).rcd = s.rcd := rfl
@[simp] theorem State.set_frz (s : State) (k : Key) (v : Int) : (s.set k v).frz = s.frz := rfl
@[simp] theorem State.set_pow (s : State) (k : Key) (v : Int) : (s.set k v).pow = s.pow := rfl
@[simp] theorem State.set_rst (s : State) (k : Key) (v : Int) : (s.set k v).rst = s.rst := rfl
@[simp] theorem State.set_tb (s : State) (k : Key) (v : Int) : (s.set k v).tb = s.tb := rfl
@[simp] theorem State.set_launches (s : State) (k : Key) (v : Int) : (s.set k v).launches = s.launches := rfl
@[simp] theorem State.set_launchSeq (s : State) (k : Key) (v : Int) : (s.set k v).launchSeq = s.launchSeq := rfl
@[simp] theorem State.set_acc (s : State) (k : Key) (v : Int) : (s.set k v).acc = s.acc := rfl
@[simp] theorem State.set_pts (s : State) (k : Key) (v : Int) : (s.set k v).pts = s.pts := rfl
@[simp] theorem State.set_tw (s : State) (k : Key) (v : Int) : (s.set k v).tw = s.tw := rfl
@[simp] theorem State.set_cfgValid (s : State) (k : Key) (v : Int) : (s.set k v).cfgValid = s.cfgValid := rfl
@[simp] theorem State.set_testQueue (s : State) (k : Key) (v : Int) : (s.set k v).testQueue = s.testQueue := rfl
@[simp] theorem State.set_testsOn (s : State) (k : Key) (v : Int) : (s.set k v).testsOn = s.testsOn := rfl
@[simp] theorem State.set_fio (s : State) (k : Key) (v : Int) : (s.set k v).fio = s.fio := rfl
@[simp] theorem State.set_mem (s : State) (k : Key) (v : Int) : (s.set k v).mem = s.mem := rfl
@[simp] theorem State.set_saf (s : State) (k : Key) (v : Int) : (s.set k v).saf = s.saf := rfl
@[simp] theorem State.set_can (s : State) (k : Key) (v : Int) : (s.set k v).can = s.can := rfl
@[simp] theorem State.set_pos (s : State) (k : Key) (v : Int) : (s.set k v).pos = s.pos := rfl
@[simp] theorem State.set_emits (s : State) (k : Key) (v : Int) : (s.set k v).emits = s.emits := rfl
@[simp] theorem State.set_loops (s : State) (k : Key) (v : Int) : (s.set k v).loops = s.loops := rfl
@[simp] theorem State.set_grps (s : State) (k : Key) (v : Int) : (s.set k v).grps = s.grps := rfl
@[simp] theorem State.set_doors (s : State) (k : Key) (v : Int) : (s.set k v).doors = s.doors := rfl
@[simp] theorem State.set_met (s : State) (k : Key) (v : Int) : (s.set k v).met = s.met := rfl
@[simp] theorem State.set_dsp (s : State) (k : Key) (v : Int) : (s.set k v).dsp = s.dsp := rfl

@[simp] theorem State.setN_pending (s : State) (k : Key) (v : Nat) : (s.setN k v).pending = s.pending := rfl
@[simp] theorem State.setN_out (s : State) (k : Key) (v : Nat) : (s.setN k v).out = s.out := rfl
@[simp] theorem State.setN_clk (s : State) (k : Key) (v : Nat) : (s.setN k v).clk = s.clk := rfl
@[simp] theorem State.setN_freeCtr (s : State) (k : Key) (v : Nat) : (s.setN k v).freeCtr = s.freeCtr := rfl
@[simp] theorem State.setN_mode (s : State) (k : Key) (v : Nat) : (s.setN k v).mode = s.mode := rfl
@[simp] theorem State.setN_blobs (s : State) (k : Key) (v : Nat) : (s.setN k v).blobs = s.blobs := rfl
@[simp] theorem State.setN_rcd (s : State) (k : Key) (v : Nat) : (s.setN k v).rcd = s.rcd := rfl
@[simp] theorem State.setN_frz (s : State) (k : Key) (v : Nat) : (s.setN k v).frz = s.frz := rfl
@[simp] theorem State.setN_pow (s : State) (k : Key) (v : Nat) : (s.setN k v).pow = s.pow := rfl
@[simp] theorem State.setN_rst (s : State) (k : Key) (v : Nat) : (s.setN k v).rst = s.rst := rfl
@[simp] theorem State.setN_tb (s : State) (k : Key) (v : Nat) : (s.setN k v).tb = s.tb := rfl
@[simp] theorem State.setN_launches (s : State) (k : Key) (v : Nat) : (s.setN k v).launches = s.launches := rfl
@[simp] theorem State.setN_launchSeq (s : State) (k : Key) (v : Nat) : (s.setN k v).launchSeq = s.launchSeq := rfl
@[simp] theorem State.setN_acc (s : State) (k : Key) (v : Nat) : (s.setN k v).acc = s.acc := rfl
@[simp] theorem State.setN_pts (s : State) (k : Key) (v : Nat) : (s.setN k v).pts = s.pts := rfl
@[simp] theorem State.setN_tw (s : State) (k : Key) (v : Nat) : (s.setN k v).tw = s.tw := rfl
@[simp] theorem State.setN_cfgValid (s : State) (k : Key) (v : Nat) : (s.setN k v).cfgValid = s.cfgValid := rfl
@[simp] theorem State.setN_testQueue (s : State) (k : Key) (v : Nat) : (s.setN k v).testQueue = s.testQueue := rfl
@[simp] theorem State.setN_testsOn (s : State) (k : Key) (v : Nat) : (s.setN k v).testsOn = s.testsOn := rfl
@[simp] theorem State.setN_fio (s : State) (k : Key) (v : Nat) : (s.setN k v).fio = s.fio := rfl
@[simp] theorem State.setN_mem (s : State) (k : Key) (v : Nat) : (s.setN k v).mem = s.mem := rfl
@[simp] theorem State.setN_saf (s : State) (k : Key) (v : Nat) : (s.setN k v).saf = s.saf := rfl
@[simp] theorem State.setN_can (s : State) (k : Key) (v : Nat) : (s.setN k v).can = s.can := rfl
@[simp] theorem State.setN_pos (s : State) (k : Key) (v : Nat) : (s.setN k v).pos = s.pos := rfl
@[simp] theorem State.setN_emits (s : State) (k : Key) (v : Nat) : (s.setN k v).emits = s.emits := rfl
@[simp] theorem State.setN_loops (s : State) (k : Key) (v : Nat) : (s.setN k v).loops = s.loops := rfl
@[simp] theorem State.setN_grps (s : State) (k : Key) (v : Nat) : (s.setN k v).grps = s.grps := rfl
@[simp] theorem State.setN_doors (s : State) (k : Key) (v : Nat) : (s.setN k v).doors = s.doors := rfl
@[simp] theorem State.setN_met (s : State) (k : Key) (v : Nat) : (s.setN k v).met = s.met := rfl
@[simp] theorem State.setN_dsp (s : State) (k : Key) (v : Nat) : (s.setN k v).dsp = s.dsp := rfl

@[simp] theorem State.setFlag_pending (s : State) (k : Key) (b : Bool) : (s.setFlag k b).pending = s.pending := rfl
@[simp] theorem State.setFlag_out (s : State) (k : Key) (b : Bool) : (s.setFlag k b).out = s.out := rfl
@[simp] theorem State.setFlag_clk (s : State) (k : Key) (b : Bool) : (s.setFlag k b).clk = s.clk := rfl
@[simp] theorem State.setFlag_freeCtr (s : State) (k : Key) (b : Bool) : (s.setFlag k b).freeCtr = s.freeCtr := rfl
@[simp] theorem State.setFlag_mode (s : State) (k : Key) (b : Bool) : (s.setFlag k b).mode = s.mode := rfl
@[simp] theorem State.setFlag_blobs (s : State) (k : Key) (b : Bool) : (s.setFlag k b).blobs = s.blobs := rfl
@[simp] theorem State.setFlag_rcd (s : State) (k : Key) (b : Bool) : (s.setFlag k b).rcd = s.rcd := rfl
@[simp] theorem State.setFlag_frz (s : State) (k : Key) (b : Bool) : (s.setFlag k b).frz = s.frz := rfl
@[simp] theorem State.setFlag_pow (s : State) (k : Key) (b : Bool) : (s.setFlag k b).pow = s.pow := rfl
@[simp] theorem State.setFlag_rst (s : State) (k : Key) (b : Bool) : (s.setFlag k b).rst = s.rst := rfl
@[simp] theorem State.setFlag_tb (s : State) (k : Key) (b : Bool) : (s.setFlag k b).tb = s.tb := rfl
@[simp] theorem State.setFlag_launches (s : State) (k : Key) (b : Bool) : (s.setFlag k b).launches = s.launches := rfl
@[simp] theorem State.setFlag_launchSeq (s : State) (k : Key) (b : Bool) : (s.setFlag k b).launchSeq = s.launchSeq := rfl
@[simp] theorem State.setFlag_acc (s : State) (k : Key) (b : Bool) : (s.setFlag k b).acc = s.acc := rfl
@[simp] theorem State.setFlag_pts (s : State) (k : Key) (b : Bool) : (s.setFlag k b).pts = s.pts := rfl
@[simp] theorem State.setFlag_tw (s : State) (k : Key) (b : Bool) : (s.setFlag k b).tw = s.tw := rfl
@[simp] theorem State.setFlag_cfgValid (s : State) (k : Key) (b : Bool) : (s.setFlag k b).cfgValid = s.cfgValid := rfl
@[simp] theorem State.setFlag_testQueue (s : State) (k : Key) (b : Bool) : (s.setFlag k b).testQueue = s.testQueue := rfl
@[simp] theorem State.setFlag_testsOn (s : State) (k : Key) (b : Bool) : (s.setFlag k b).testsOn = s.testsOn := rfl
@[simp] theorem State.setFlag_fio (s : State) (k : Key) (b : Bool) : (s.setFlag k b).fio = s.fio := rfl
@[simp] theorem State.setFlag_mem (s : State) (k : Key) (b : Bool) : (s.setFlag k b).mem = s.mem := rfl
@[simp] theorem State.setFlag_saf (s : State) (k : Key) (b : Bool) : (s.setFlag k b).saf = s.saf := rfl
@[simp] theorem State.setFlag_can (s : State) (k : Key) (b : Bool) : (s.setFlag k b).can = s.can := rfl
@[simp] theorem State.setFlag_pos (s : State) (k : Key) (b : Bool) : (s.setFlag k b).pos = s.pos := rfl
@[simp] theorem State.setFlag_emits (s : State) (k : Key) (b : Bool) : (s.setFlag k b).emits = s.emits := rfl
@[simp] theorem State.setFlag_loops (s : State) (k : Key) (b : Bool) : (s.setFlag k b).loops = s.loops := rfl
@[simp] theorem State.setFlag_grps (s : State) (k : Key) (b : Bool) : (s.setFlag k b).grps = s.grps := rfl
@[simp] theorem State.setFlag_doors (s : State) (k : Key) (b : Bool) : (s.setFlag k b).doors = s.doors := rfl
@[simp] theorem State.setFlag_met (s : State) (k : Key) (b : Bool) : (s.setFlag k b).met = s.met := rfl
@[simp] theorem State.setFlag_dsp (s : State) (k : Key) (b : Bool) : (s.setFlag k b).dsp = s.dsp := rfl

@[simp] theorem State.setBit_pending (s : State) (k : Key) (i : Nat) (b : Bool) : (s.setBit k i b).pending = s.pending := rfl
@[simp] theorem State.setBit_out (s : State) (k : Key) (i : Nat) (b : Bool) : (s.setBit k i b).out = s.out := rfl
@[simp] theorem State.setBit_clk (s : State) (k : Key) (i : Nat) (b : Bool) : (s.setBit k i b).clk = s.clk := rfl
@[simp] theorem State.setBit_freeCtr (s : State) (k : Key) (i : Nat) (b : Bool) : (s.setBit k i b).freeCtr = s.freeCtr := rfl
@[simp] theorem State.setBit_mode (s : State) (k : Key) (i : Nat) (b : Bool) : (s.setBit k i b).mode = s.mode := rfl
@[simp] theorem State.setBit_blobs (s : State) (k : Key) (i : Nat) (b : Bool) : (s.setBit k i b).blobs = s.blobs := rfl
@[simp] theorem State.setBit_rcd (s : State) (k : Key) (i : Nat) (b : Bool) : (s.setBit k i b).rcd = s.rcd := rfl
@[simp] theorem State.setBit_frz (s : State) (k : Key) (i : Nat) (b : Bool) : (s.setBit k i b).frz = s.frz := rfl
@[simp] theorem State.setBit_pow (s : State) (k : Key) (i : Nat) (b : Bool) : (s.setBit k i b).pow = s.pow := rfl
@[simp] theorem State.setBit_rst (s : State) (k : Key) (i : Nat) (b : Bool) : (s.setBit k i b).rst = s.rst := rfl
@[simp] theorem State.setBit_tb (s : State) (k : Key) (i : Nat) (b : Bool) : (s.setBit k i b).tb = s.tb := rfl
@[simp] theorem State.setBit_launches (s : State) (k : Key) (i : Nat) (b : Bool) : (s.setBit k i b).launches = s.launches := rfl
@[simp] theorem State.setBit_launchSeq (s : State) (k : Key) (i : Nat) (b : Bool) : (s.setBit k i b).launchSeq = s.launchSeq := rfl
@[simp] theorem State.setBit_acc (s : State) (k : Key) (i : Nat) (b : Bool) : (s.setBit k i b).acc = s.acc := rfl
@[simp] theorem State.setBit_pts (s : State) (k : Key) (i : Nat) (b : Bool) : (s.setBit k i b).pts = s.pts := rfl
@[simp] theorem State.setBit_tw (s : State) (k : Key) (i : Nat) (b : Bool) : (s.setBit k i b).tw = s.tw := rfl
@[simp] theorem State.setBit_cfgValid (s : State) (k : Key) (i : Nat) (b : Bool) : (s.setBit k i b).cfgValid = s.cfgValid := rfl
@[simp] theorem State.setBit_testQueue (s : State) (k : Key) (i : Nat) (b : Bool) : (s.setBit k i b).testQueue = s.testQueue := rfl
@[simp] theorem State.setBit_testsOn (s : State) (k : Key) (i : Nat) (b : Bool) : (s.setBit k i b).testsOn = s.testsOn := rfl
@[simp] theorem State.setBit_fio (s : State) (k : Key) (i : Nat) (b : Bool) : (s.setBit k i b).fio = s.fio := rfl
@[simp] theorem State.setBit_mem (s : State) (k : Key) (i : Nat) (b : Bool) : (s.setBit k i b).mem = s.mem := rfl
@[simp] theorem State.setBit_saf (s : State) (k : Key) (i : Nat) (b : Bool) : (s.setBit k i b).saf = s.saf := rfl
@[simp] theorem State.setBit_can (s : State) (k : Key) (i : Nat) (b : Bool) : (s.setBit k i b).can = s.can := rfl
@[simp] theorem State.setBit_pos (s : State) (k : Key) (i : Nat) (b : Bool) : (s.setBit k i b).pos = s.pos := rfl
@[simp] theorem State.setBit_emits (s : State) (k : Key) (i : Nat) (b : Bool) : (s.setBit k i b).emits = s.emits := rfl
@[simp] theorem State.setBit_loops (s : State) (k : Key) (i : Nat) (b : Bool) : (s.setBit k i b).loops = s.loops := rfl
@[simp] theorem State.setBit_grps (s : State) (k : Key) (i : Nat) (b : Bool) : (s.setBit k i b).grps = s.grps := rfl
@[simp] theorem State.setBit_doors (s : State) (k : Key) (i : Nat) (b : Bool) : (s.setBit k i b).doors = s.doors := rfl
@[simp] theorem State.setBit_met (s : State) (k : Key) (i : Nat) (b : Bool) : (s.setBit k i b).met = s.met := rfl
@[simp] theorem State.setBit_dsp (s : State) (k : Key) (i : Nat) (b : Bool) : (s.setBit k i b).dsp = s.dsp := rfl

@[simp] theorem State.count_pending (s : State) (k : Key) (w n : Nat) : (s.count k w n).pending = s.pending := rfl
@[simp] theorem State.count_out (s : State) (k : Key) (w n : Nat) : (s.count k w n).out = s.out := rfl
@[simp] theorem State.count_clk (s : State) (k : Key) (w n : Nat) : (s.count k w n).clk = s.clk := rfl
@[simp] theorem State.count_freeCtr (s : State) (k : Key) (w n : Nat) : (s.count k w n).freeCtr = s.freeCtr := rfl
@[simp] theorem State.count_mode (s : State) (k : Key) (w n : Nat) : (s.count k w n).mode = s.mode := rfl
@[simp] theorem State.count_blobs (s : State) (k : Key) (w n : Nat) : (s.count k w n).blobs = s.blobs := rfl
@[simp] theorem State.count_rcd (s : State) (k : Key) (w n : Nat) : (s.count k w n).rcd = s.rcd := rfl
@[simp] theorem State.count_frz (s : State) (k : Key) (w n : Nat) : (s.count k w n).frz = s.frz := rfl
@[simp] theorem State.count_pow (s : State) (k : Key) (w n : Nat) : (s.count k w n).pow = s.pow := rfl
@[simp] theorem State.count_rst (s : State) (k : Key) (w n : Nat) : (s.count k w n).rst = s.rst := rfl
@[simp] theorem State.count_tb (s : State) (k : Key) (w n : Nat) : (s.count k w n).tb = s.tb := rfl
@[simp] theorem State.count_launches (s : State) (k : Key) (w n : Nat) : (s.count k w n).launches = s.launches := rfl
@[simp] theorem State.count_launchSeq (s : State) (k : Key) (w n : Nat) : (s.count k w n).launchSeq = s.launchSeq := rfl
@[simp] theorem State.count_acc (s : State) (k : Key) (w n : Nat) : (s.count k w n).acc = s.acc := rfl
@[simp] theorem State.count_pts (s : State) (k : Key) (w n : Nat) : (s.count k w n).pts = s.pts := rfl
@[simp] theorem State.count_tw (s : State) (k : Key) (w n : Nat) : (s.count k w n).tw = s.tw := rfl
@[simp] theorem State.count_cfgValid (s : State) (k : Key) (w n : Nat) : (s.count k w n).cfgValid = s.cfgValid := rfl
@[simp] theorem State.count_testQueue (s : State) (k : Key) (w n : Nat) : (s.count k w n).testQueue = s.testQueue := rfl
@[simp] theorem State.count_testsOn (s : State) (k : Key) (w n : Nat) : (s.count k w n).testsOn = s.testsOn := rfl
@[simp] theorem State.count_fio (s : State) (k : Key) (w n : Nat) : (s.count k w n).fio = s.fio := rfl
@[simp] theorem State.count_mem (s : State) (k : Key) (w n : Nat) : (s.count k w n).mem = s.mem := rfl
@[simp] theorem State.count_saf (s : State) (k : Key) (w n : Nat) : (s.count k w n).saf = s.saf := rfl
@[simp] theorem State.count_can (s : State) (k : Key) (w n : Nat) : (s.count k w n).can = s.can := rfl
@[simp] theorem State.count_pos (s : State) (k : Key) (w n : Nat) : (s.count k w n).pos = s.pos := rfl
@[simp] theorem State.count_emits (s : State) (k : Key) (w n : Nat) : (s.count k w n).emits = s.emits := rfl
@[simp] theorem State.count_loops (s : State) (k : Key) (w n : Nat) : (s.count k w n).loops = s.loops := rfl
@[simp] theorem State.count_grps (s : State) (k : Key) (w n : Nat) : (s.count k w n).grps = s.grps := rfl
@[simp] theorem State.count_doors (s : State) (k : Key) (w n : Nat) : (s.count k w n).doors = s.doors := rfl
@[simp] theorem State.count_met (s : State) (k : Key) (w n : Nat) : (s.count k w n).met = s.met := rfl
@[simp] theorem State.count_dsp (s : State) (k : Key) (w n : Nat) : (s.count k w n).dsp = s.dsp := rfl

@[simp] theorem State.setBlob_pending (s : State) (k : BKey) (v : List Byte) : (s.setBlob k v).pending = s.pending := rfl
@[simp] theorem State.setBlob_out (s : State) (k : BKey) (v : List Byte) : (s.setBlob k v).out = s.out := rfl
@[simp] theorem State.setBlob_clk (s : State) (k : BKey) (v : List Byte) : (s.setBlob k v).clk = s.clk := rfl
@[simp] theorem State.setBlob_freeCtr (s : State) (k : BKey) (v : List Byte) : (s.setBlob k v).freeCtr = s.freeCtr := rfl
@[simp] theorem State.setBlob_mode (s : State) (k : BKey) (v : List Byte) : (s.setBlob k v).mode = s.mode := rfl
@[simp] theorem State.setBlob_objs (s : State) (k : BKey) (v : List Byte) : (s.setBlob k v).objs = s.objs := rfl
@[simp] theorem State.setBlob_rcd (s : State) (k : BKey) (v : List Byte) : (s.setBlob k v).rcd = s.rcd := rfl
@[simp] theorem State.setBlob_frz (s : State) (k : BKey) (v : List Byte) : (s.setBlob k v).frz = s.frz := rfl
@[simp] theorem State.setBlob_pow (s : State) (k : BKey) (v : List Byte) : (s.setBlob k v).pow = s.pow := rfl
@[simp] theorem State.setBlob_rst (s : State) (k : BKey) (v : List Byte) : (s.setBlob k v).rst = s.rst := rfl
@[simp] theorem State.setBlob_tb (s : State) (k : BKey) (v : List Byte) : (s.setBlob k v).tb = s.tb := rfl
@[simp] theorem State.setBlob_launches (s : State) (k : BKey) (v : List Byte) : (s.setBlob k v).launches = s.launches := rfl
@[simp] theorem State.setBlob_launchSeq (s : State) (k : BKey) (v : List Byte) : (s.setBlob k v).launchSeq = s.launchSeq := rfl
@[simp] theorem State.setBlob_acc (s : State) (k : BKey) (v : List Byte) : (s.setBlob k v).acc = s.acc := rfl
@[simp] theorem State.setBlob_pts (s : State) (k : BKey) (v : List Byte) : (s.setBlob k v).pts = s.pts := rfl
@[simp] theorem State.setBlob_tw (s : State) (k : BKey) (v : List Byte) : (s.setBlob k v).tw = s.tw := rfl
@[simp] theorem State.setBlob_cfgValid (s : State) (k : BKey) (v : List Byte) : (s.setBlob k v).cfgValid = s.cfgValid := rfl
@[simp] theorem State.setBlob_testQueue (s : State) (k : BKey) (v : List Byte) : (s.setBlob k v).testQueue = s.testQueue := rfl
@[simp] theorem State.setBlob_testsOn (s : State) (k : BKey) (v : List Byte) : (s.setBlob k v).testsOn = s.testsOn := rfl
@[simp] theorem State.setBlob_fio (s : State) (k : BKey) (v : List Byte) : (s.setBlob k v).fio = s.fio := rfl
@[simp] theorem State.setBlob_mem (s : State) (k : BKey) (v : List Byte) : (s.setBlob k v).mem = s.mem := rfl
@[simp] theorem State.setBlob_saf (s : State) (k : BKey) (v : List Byte) : (s.setBlob k v).saf = s.saf := rfl
@[simp] theorem State.setBlob_can (s : State) (k : BKey) (v : List Byte) : (s.setBlob k v).can = s.can := rfl
@[simp] theorem State.setBlob_pos (s : State) (k : BKey) (v : List Byte) : (s.setBlob k v).pos = s.pos := rfl
@[simp] theorem State.setBlob_emits (s : State) (k : BKey) (v : List Byte) : (s.setBlob k v).emits = s.emits := rfl
@[simp] theorem State.setBlob_loops (s : State) (k : BKey) (v : List Byte) : (s.setBlob k v).loops = s.loops := rfl
@[simp] theorem State.setBlob_grps (s : State) (k : BKey) (v : List Byte) : (s.setBlob k v).grps = s.grps := rfl
@[simp] theorem State.setBlob_doors (s : State) (k : BKey) (v : List Byte) : (s.setBlob k v).doors = s.doors := rfl
@[simp] theorem State.setBlob_met (s : State) (k : BKey) (v : List Byte) : (s.setBlob k v).met = s.met := rfl
@[simp] theorem State.setBlob_dsp (s : State) (k : BKey) (v : List Byte) : (s.setBlob k v).dsp = s.dsp := rfl

@[simp] theorem State.emit_pending (s : State) (o : Out) : (s.emit o).pending = s.pending := rfl
@[simp] theorem State.emit_clk (s : State) (o : Out) : (s.emit o).clk = s.clk := rfl
@[simp] theorem State.emit_freeCtr (s : State) (o : Out) : (s.emit o).freeCtr = s.freeCtr := rfl
@[simp] theorem State.emit_mode (s : State) (o : Out) : (s.emit o).mode = s.mode := rfl
@[simp] theorem State.emit_objs (s : State) (o : Out) : (s.emit o).objs = s.objs := rfl
@[simp] theorem State.emit_blobs (s : State) (o : Out) : (s.emit o).blobs = s.blobs := rfl
@[simp] theorem State.emit_rcd (s : State) (o : Out) : (s.emit o).rcd = s.rcd := rfl
@[simp] theorem State.emit_frz (s : State) (o : Out) : (s.emit o).frz = s.frz := rfl
@[simp] theorem State.emit_pow (s : State) (o : Out) : (s.emit o).pow = s.pow := rfl
@[simp] theorem State.emit_rst (s : State) (o : Out) : (s.emit o).rst = s.rst := rfl
@[simp] theorem State.emit_tb (s : State) (o : Out) : (s.emit o).tb = s.tb := rfl
@[simp] theorem State.emit_launches (s : State) (o : Out) : (s.emit o).launches = s.launches := rfl
@[simp] theorem State.emit_launchSeq (s : State) (o : Out) : (s.emit o).launchSeq = s.launchSeq := rfl
@[simp] theorem State.emit_acc (s : State) (o : Out) : (s.emit o).acc = s.acc := rfl
@[simp] theorem State.emit_pts (s : State) (o : Out) : (s.emit o).pts = s.pts := rfl
@[simp] theorem State.emit_tw (s : State) (o : Out) : (s.emit o).tw = s.tw := rfl
@[simp] theorem State.emit_cfgValid (s : State) (o : Out) : (s.emit o).cfgValid = s.cfgValid := rfl
@[simp] theorem State.emit_testQueue (s : State) (o : Out) : (s.emit o).testQueue = s.testQueue := rfl
@[simp] theorem State.emit_testsOn (s : State) (o : Out) : (s.emit o).testsOn = s.testsOn := rfl
@[simp] theorem State.emit_fio (s : State) (o : Out) : (s.emit o).fio = s.fio := rfl
@[simp] theorem State.emit_mem (s : State) (o : Out) : (s.emit o).mem = s.mem := rfl
@[simp] theorem State.emit_saf (s : State) (o : Out) : (s.emit o).saf = s.saf := rfl
@[simp] theorem State.emit_can (s : State) (o : Out) : (s.emit o).can = s.can := rfl
@[simp] theorem State.emit_pos (s : State) (o : Out) : (s.emit o).pos = s.pos := rfl
@[simp] theorem State.emit_emits (s : State) (o : Out) : (s.emit o).emits = s.emits := rfl
@[simp] theorem State.emit_loops (s : State) (o : Out) : (s.emit o).loops = s.loops := rfl
@[simp] theorem State.emit_grps (s : State) (o : Out) : (s.emit o).grps = s.grps := rfl
@[simp] theorem State.emit_doors (s : State) (o : Out) : (s.emit o).doors = s.doors := rfl
@[simp] theorem State.emit_met (s : State) (o : Out) : (s.emit o).met = s.met := rfl
@[simp] theorem State.emit_dsp (s : State) (o : Out) : (s.emit o).dsp = s.dsp := rfl

@[simp] theorem State.cycles_pending (s : State) (n : Nat) : (s.cycles n).pending = s.pending := rfl
@[simp] theorem State.cycles_out (s : State) (n : Nat) : (s.cycles n).out = s.out := rfl
@[simp] theorem State.cycles_freeCtr (s : State) (n : Nat) : (s.cycles n).freeCtr = s.freeCtr := rfl
@[simp] theorem State.cycles_mode (s : State) (n : Nat) : (s.cycles n).mode = s.mode := rfl
@[simp] theorem State.cycles_objs (s : State) (n : Nat) : (s.cycles n).objs = s.objs := rfl
@[simp] theorem State.cycles_blobs (s : State) (n : Nat) : (s.cycles n).blobs = s.blobs := rfl
@[simp] theorem State.cycles_rcd (s : State) (n : Nat) : (s.cycles n).rcd = s.rcd := rfl
@[simp] theorem State.cycles_frz (s : State) (n : Nat) : (s.cycles n).frz = s.frz := rfl
@[simp] theorem State.cycles_pow (s : State) (n : Nat) : (s.cycles n).pow = s.pow := rfl
@[simp] theorem State.cycles_rst (s : State) (n : Nat) : (s.cycles n).rst = s.rst := rfl
@[simp] theorem State.cycles_launches (s : State) (n : Nat) : (s.cycles n).launches = s.launches := rfl
@[simp] theorem State.cycles_launchSeq (s : State) (n : Nat) : (s.cycles n).launchSeq = s.launchSeq := rfl
@[simp] theorem State.cycles_acc (s : State) (n : Nat) : (s.cycles n).acc = s.acc := rfl
@[simp] theorem State.cycles_pts (s : State) (n : Nat) : (s.cycles n).pts = s.pts := rfl
@[simp] theorem State.cycles_tw (s : State) (n : Nat) : (s.cycles n).tw = s.tw := rfl
@[simp] theorem State.cycles_cfgValid (s : State) (n : Nat) : (s.cycles n).cfgValid = s.cfgValid := rfl
@[simp] theorem State.cycles_testQueue (s : State) (n : Nat) : (s.cycles n).testQueue = s.testQueue := rfl
@[simp] theorem State.cycles_testsOn (s : State) (n : Nat) : (s.cycles n).testsOn = s.testsOn := rfl
@[simp] theorem State.cycles_fio (s : State) (n : Nat) : (s.cycles n).fio = s.fio := rfl
@[simp] theorem State.cycles_mem (s : State) (n : Nat) : (s.cycles n).mem = s.mem := rfl
@[simp] theorem State.cycles_saf (s : State) (n : Nat) : (s.cycles n).saf = s.saf := rfl
@[simp] theorem State.cycles_can (s : State) (n : Nat) : (s.cycles n).can = s.can := rfl
@[simp] theorem State.cycles_pos (s : State) (n : Nat) : (s.cycles n).pos = s.pos := rfl
@[simp] theorem State.cycles_emits (s : State) (n : Nat) : (s.cycles n).emits = s.emits := rfl
@[simp] theorem State.cycles_loops (s : State) (n : Nat) : (s.cycles n).loops = s.loops := rfl
@[simp] theorem State.cycles_grps (s : State) (n : Nat) : (s.cycles n).grps = s.grps := rfl
@[simp] theorem State.cycles_doors (s : State) (n : Nat) : (s.cycles n).doors = s.doors := rfl
@[simp] theorem State.cycles_met (s : State) (n : Nat) : (s.cycles n).met = s.met := rfl
@[simp] theorem State.cycles_dsp (s : State) (n : Nat) : (s.cycles n).dsp = s.dsp := rfl

@[simp] theorem State.reach_pending (s : State) (t : Nat) : (s.reach t).pending = s.pending := rfl
@[simp] theorem State.reach_out (s : State) (t : Nat) : (s.reach t).out = s.out := rfl
@[simp] theorem State.reach_freeCtr (s : State) (t : Nat) : (s.reach t).freeCtr = s.freeCtr := rfl
@[simp] theorem State.reach_mode (s : State) (t : Nat) : (s.reach t).mode = s.mode := rfl
@[simp] theorem State.reach_objs (s : State) (t : Nat) : (s.reach t).objs = s.objs := rfl
@[simp] theorem State.reach_blobs (s : State) (t : Nat) : (s.reach t).blobs = s.blobs := rfl
@[simp] theorem State.reach_rcd (s : State) (t : Nat) : (s.reach t).rcd = s.rcd := rfl
@[simp] theorem State.reach_frz (s : State) (t : Nat) : (s.reach t).frz = s.frz := rfl
@[simp] theorem State.reach_pow (s : State) (t : Nat) : (s.reach t).pow = s.pow := rfl
@[simp] theorem State.reach_rst (s : State) (t : Nat) : (s.reach t).rst = s.rst := rfl
@[simp] theorem State.reach_launches (s : State) (t : Nat) : (s.reach t).launches = s.launches := rfl
@[simp] theorem State.reach_launchSeq (s : State) (t : Nat) : (s.reach t).launchSeq = s.launchSeq := rfl
@[simp] theorem State.reach_acc (s : State) (t : Nat) : (s.reach t).acc = s.acc := rfl
@[simp] theorem State.reach_pts (s : State) (t : Nat) : (s.reach t).pts = s.pts := rfl
@[simp] theorem State.reach_tw (s : State) (t : Nat) : (s.reach t).tw = s.tw := rfl
@[simp] theorem State.reach_cfgValid (s : State) (t : Nat) : (s.reach t).cfgValid = s.cfgValid := rfl
@[simp] theorem State.reach_testQueue (s : State) (t : Nat) : (s.reach t).testQueue = s.testQueue := rfl
@[simp] theorem State.reach_testsOn (s : State) (t : Nat) : (s.reach t).testsOn = s.testsOn := rfl
@[simp] theorem State.reach_fio (s : State) (t : Nat) : (s.reach t).fio = s.fio := rfl
@[simp] theorem State.reach_mem (s : State) (t : Nat) : (s.reach t).mem = s.mem := rfl
@[simp] theorem State.reach_saf (s : State) (t : Nat) : (s.reach t).saf = s.saf := rfl
@[simp] theorem State.reach_can (s : State) (t : Nat) : (s.reach t).can = s.can := rfl
@[simp] theorem State.reach_pos (s : State) (t : Nat) : (s.reach t).pos = s.pos := rfl
@[simp] theorem State.reach_emits (s : State) (t : Nat) : (s.reach t).emits = s.emits := rfl
@[simp] theorem State.reach_loops (s : State) (t : Nat) : (s.reach t).loops = s.loops := rfl
@[simp] theorem State.reach_grps (s : State) (t : Nat) : (s.reach t).grps = s.grps := rfl
@[simp] theorem State.reach_doors (s : State) (t : Nat) : (s.reach t).doors = s.doors := rfl
@[simp] theorem State.reach_met (s : State) (t : Nat) : (s.reach t).met = s.met := rfl
@[simp] theorem State.reach_dsp (s : State) (t : Nat) : (s.reach t).dsp = s.dsp := rfl

@[simp] theorem State.toMultiple_pending (s : State) (p : Nat) : (s.toMultiple p).pending = s.pending := rfl
@[simp] theorem State.toMultiple_out (s : State) (p : Nat) : (s.toMultiple p).out = s.out := rfl
@[simp] theorem State.toMultiple_freeCtr (s : State) (p : Nat) : (s.toMultiple p).freeCtr = s.freeCtr := rfl
@[simp] theorem State.toMultiple_mode (s : State) (p : Nat) : (s.toMultiple p).mode = s.mode := rfl
@[simp] theorem State.toMultiple_objs (s : State) (p : Nat) : (s.toMultiple p).objs = s.objs := rfl
@[simp] theorem State.toMultiple_blobs (s : State) (p : Nat) : (s.toMultiple p).blobs = s.blobs := rfl
@[simp] theorem State.toMultiple_rcd (s : State) (p : Nat) : (s.toMultiple p).rcd = s.rcd := rfl
@[simp] theorem State.toMultiple_frz (s : State) (p : Nat) : (s.toMultiple p).frz = s.frz := rfl
@[simp] theorem State.toMultiple_pow (s : State) (p : Nat) : (s.toMultiple p).pow = s.pow := rfl
@[simp] theorem State.toMultiple_rst (s : State) (p : Nat) : (s.toMultiple p).rst = s.rst := rfl
@[simp] theorem State.toMultiple_launches (s : State) (p : Nat) : (s.toMultiple p).launches = s.launches := rfl
@[simp] theorem State.toMultiple_launchSeq (s : State) (p : Nat) : (s.toMultiple p).launchSeq = s.launchSeq := rfl
@[simp] theorem State.toMultiple_acc (s : State) (p : Nat) : (s.toMultiple p).acc = s.acc := rfl
@[simp] theorem State.toMultiple_pts (s : State) (p : Nat) : (s.toMultiple p).pts = s.pts := rfl
@[simp] theorem State.toMultiple_tw (s : State) (p : Nat) : (s.toMultiple p).tw = s.tw := rfl
@[simp] theorem State.toMultiple_cfgValid (s : State) (p : Nat) : (s.toMultiple p).cfgValid = s.cfgValid := rfl
@[simp] theorem State.toMultiple_testQueue (s : State) (p : Nat) : (s.toMultiple p).testQueue = s.testQueue := rfl
@[simp] theorem State.toMultiple_testsOn (s : State) (p : Nat) : (s.toMultiple p).testsOn = s.testsOn := rfl
@[simp] theorem State.toMultiple_fio (s : State) (p : Nat) : (s.toMultiple p).fio = s.fio := rfl
@[simp] theorem State.toMultiple_mem (s : State) (p : Nat) : (s.toMultiple p).mem = s.mem := rfl
@[simp] theorem State.toMultiple_saf (s : State) (p : Nat) : (s.toMultiple p).saf = s.saf := rfl
@[simp] theorem State.toMultiple_can (s : State) (p : Nat) : (s.toMultiple p).can = s.can := rfl
@[simp] theorem State.toMultiple_pos (s : State) (p : Nat) : (s.toMultiple p).pos = s.pos := rfl
@[simp] theorem State.toMultiple_emits (s : State) (p : Nat) : (s.toMultiple p).emits = s.emits := rfl
@[simp] theorem State.toMultiple_loops (s : State) (p : Nat) : (s.toMultiple p).loops = s.loops := rfl
@[simp] theorem State.toMultiple_grps (s : State) (p : Nat) : (s.toMultiple p).grps = s.grps := rfl
@[simp] theorem State.toMultiple_doors (s : State) (p : Nat) : (s.toMultiple p).doors = s.doors := rfl
@[simp] theorem State.toMultiple_met (s : State) (p : Nat) : (s.toMultiple p).met = s.met := rfl
@[simp] theorem State.toMultiple_dsp (s : State) (p : Nat) : (s.toMultiple p).dsp = s.dsp := rfl

@[simp] theorem State.toPhase_pending (s : State) (p off : Nat) : (s.toPhase p off).pending = s.pending := rfl
@[simp] theorem State.toPhase_out (s : State) (p off : Nat) : (s.toPhase p off).out = s.out := rfl
@[simp] theorem State.toPhase_freeCtr (s : State) (p off : Nat) : (s.toPhase p off).freeCtr = s.freeCtr := rfl
@[simp] theorem State.toPhase_mode (s : State) (p off : Nat) : (s.toPhase p off).mode = s.mode := rfl
@[simp] theorem State.toPhase_objs (s : State) (p off : Nat) : (s.toPhase p off).objs = s.objs := rfl
@[simp] theorem State.toPhase_blobs (s : State) (p off : Nat) : (s.toPhase p off).blobs = s.blobs := rfl
@[simp] theorem State.toPhase_rcd (s : State) (p off : Nat) : (s.toPhase p off).rcd = s.rcd := rfl
@[simp] theorem State.toPhase_frz (s : State) (p off : Nat) : (s.toPhase p off).frz = s.frz := rfl
@[simp] theorem State.toPhase_pow (s : State) (p off : Nat) : (s.toPhase p off).pow = s.pow := rfl
@[simp] theorem State.toPhase_rst (s : State) (p off : Nat) : (s.toPhase p off).rst = s.rst := rfl
@[simp] theorem State.toPhase_launches (s : State) (p off : Nat) : (s.toPhase p off).launches = s.launches := rfl
@[simp] theorem State.toPhase_launchSeq (s : State) (p off : Nat) : (s.toPhase p off).launchSeq = s.launchSeq := rfl
@[simp] theorem State.toPhase_acc (s : State) (p off : Nat) : (s.toPhase p off).acc = s.acc := rfl
@[simp] theorem State.toPhase_pts (s : State) (p off : Nat) : (s.toPhase p off).pts = s.pts := rfl
@[simp] theorem State.toPhase_tw (s : State) (p off : Nat) : (s.toPhase p off).tw = s.tw := rfl
@[simp] theorem State.toPhase_cfgValid (s : State) (p off : Nat) : (s.toPhase p off).cfgValid = s.cfgValid := rfl
@[simp] theorem State.toPhase_testQueue (s : State) (p off : Nat) : (s.toPhase p off).testQueue = s.testQueue := rfl
@[simp] theorem State.toPhase_testsOn (s : State) (p off : Nat) : (s.toPhase p off).testsOn = s.testsOn := rfl
@[simp] theorem State.toPhase_fio (s : State) (p off : Nat) : (s.toPhase p off).fio = s.fio := rfl
@[simp] theorem State.toPhase_mem (s : State) (p off : Nat) : (s.toPhase p off).mem = s.mem := rfl
@[simp] theorem State.toPhase_saf (s : State) (p off : Nat) : (s.toPhase p off).saf = s.saf := rfl
@[simp] theorem State.toPhase_can (s : State) (p off : Nat) : (s.toPhase p off).can = s.can := rfl
@[simp] theorem State.toPhase_pos (s : State) (p off : Nat) : (s.toPhase p off).pos = s.pos := rfl
@[simp] theorem State.toPhase_emits (s : State) (p off : Nat) : (s.toPhase p off).emits = s.emits := rfl
@[simp] theorem State.toPhase_loops (s : State) (p off : Nat) : (s.toPhase p off).loops = s.loops := rfl
@[simp] theorem State.toPhase_grps (s : State) (p off : Nat) : (s.toPhase p off).grps = s.grps := rfl
@[simp] theorem State.toPhase_doors (s : State) (p off : Nat) : (s.toPhase p off).doors = s.doors := rfl
@[simp] theorem State.toPhase_met (s : State) (p off : Nat) : (s.toPhase p off).met = s.met := rfl
@[simp] theorem State.toPhase_dsp (s : State) (p off : Nat) : (s.toPhase p off).dsp = s.dsp := rfl

@[simp] theorem State.mirror_pending (s : State) (b : BatchItem) : (s.mirror b).pending = s.pending := by unfold State.mirror; split <;> rfl
@[simp] theorem State.mirror_out (s : State) (b : BatchItem) : (s.mirror b).out = s.out := by unfold State.mirror; split <;> rfl
@[simp] theorem State.mirror_clk (s : State) (b : BatchItem) : (s.mirror b).clk = s.clk := by unfold State.mirror; split <;> rfl
@[simp] theorem State.mirror_freeCtr (s : State) (b : BatchItem) : (s.mirror b).freeCtr = s.freeCtr := by unfold State.mirror; split <;> rfl
@[simp] theorem State.mirror_mode (s : State) (b : BatchItem) : (s.mirror b).mode = s.mode := by unfold State.mirror; split <;> rfl
@[simp] theorem State.mirror_objs (s : State) (b : BatchItem) : (s.mirror b).objs = s.objs := by unfold State.mirror; split <;> rfl
@[simp] theorem State.mirror_blobs (s : State) (b : BatchItem) : (s.mirror b).blobs = s.blobs := by unfold State.mirror; split <;> rfl
@[simp] theorem State.mirror_rcd (s : State) (b : BatchItem) : (s.mirror b).rcd = s.rcd := by unfold State.mirror; split <;> rfl
@[simp] theorem State.mirror_frz (s : State) (b : BatchItem) : (s.mirror b).frz = s.frz := by unfold State.mirror; split <;> rfl
@[simp] theorem State.mirror_pow (s : State) (b : BatchItem) : (s.mirror b).pow = s.pow := by unfold State.mirror; split <;> rfl
@[simp] theorem State.mirror_rst (s : State) (b : BatchItem) : (s.mirror b).rst = s.rst := by unfold State.mirror; split <;> rfl
@[simp] theorem State.mirror_tb (s : State) (b : BatchItem) : (s.mirror b).tb = s.tb := by unfold State.mirror; split <;> rfl
@[simp] theorem State.mirror_launches (s : State) (b : BatchItem) : (s.mirror b).launches = s.launches := by unfold State.mirror; split <;> rfl
@[simp] theorem State.mirror_launchSeq (s : State) (b : BatchItem) : (s.mirror b).launchSeq = s.launchSeq := by unfold State.mirror; split <;> rfl
@[simp] theorem State.mirror_acc (s : State) (b : BatchItem) : (s.mirror b).acc = s.acc := by unfold State.mirror; split <;> rfl
@[simp] theorem State.mirror_pts (s : State) (b : BatchItem) : (s.mirror b).pts = s.pts := by unfold State.mirror; split <;> rfl
@[simp] theorem State.mirror_cfgValid (s : State) (b : BatchItem) : (s.mirror b).cfgValid = s.cfgValid := by unfold State.mirror; split <;> rfl
@[simp] theorem State.mirror_testQueue (s : State) (b : BatchItem) : (s.mirror b).testQueue = s.testQueue := by unfold State.mirror; split <;> rfl
@[simp] theorem State.mirror_testsOn (s : State) (b : BatchItem) : (s.mirror b).testsOn = s.testsOn := by unfold State.mirror; split <;> rfl
@[simp] theorem State.mirror_fio (s : State) (b : BatchItem) : (s.mirror b).fio = s.fio := by unfold State.mirror; split <;> rfl
@[simp] theorem State.mirror_mem (s : State) (b : BatchItem) : (s.mirror b).mem = s.mem := by unfold State.mirror; split <;> rfl
@[simp] theorem State.mirror_saf (s : State) (b : BatchItem) : (s.mirror b).saf = s.saf := by unfold State.mirror; split <;> rfl
@[simp] theorem State.mirror_can (s : State) (b : BatchItem) : (s.mirror b).can = s.can := by unfold State.mirror; split <;> rfl
@[simp] theorem State.mirror_pos (s : State) (b : BatchItem) : (s.mirror b).pos = s.pos := by unfold State.mirror; split <;> rfl
@[simp] theorem State.mirror_emits (s : State) (b : BatchItem) : (s.mirror b).emits = s.emits := by unfold State.mirror; split <;> rfl
@[simp] theorem State.mirror_loops (s : State) (b : BatchItem) : (s.mirror b).loops = s.loops := by unfold State.mirror; split <;> rfl
@[simp] theorem State.mirror_grps (s : State) (b : BatchItem) : (s.mirror b).grps = s.grps := by unfold State.mirror; split <;> rfl
@[simp] theorem State.mirror_doors (s : State) (b : BatchItem) : (s.mirror b).doors = s.doors := by unfold State.mirror; split <;> rfl
@[simp] theorem State.mirror_met (s : State) (b : BatchItem) : (s.mirror b).met = s.met := by unfold State.mirror; split <;> rfl
@[simp] theorem State.mirror_dsp (s : State) (b : BatchItem) : (s.mirror b).dsp = s.dsp := by unfold State.mirror; split <;> rfl

@[simp] theorem State.mirrorRegs_pending (s : State) (n : Nat) (ks : List Key) (bs : List BKey) : (s.mirrorRegs n ks bs).pending = s.pending := by unfold State.mirrorRegs; simp
@[simp] theorem State.mirrorRegs_out (s : State) (n : Nat) (ks : List Key) (bs : List BKey) : (s.mirrorRegs n ks bs).out = s.out := by unfold State.mirrorRegs; simp
@[simp] theorem State.mirrorRegs_clk (s : State) (n : Nat) (ks : List Key) (bs : List BKey) : (s.mirrorRegs n ks bs).clk = s.clk := by unfold State.mirrorRegs; simp
@[simp] theorem State.mirrorRegs_freeCtr (s : State) (n : Nat) (ks : List Key) (bs : List BKey) : (s.mirrorRegs n ks bs).freeCtr = s.freeCtr := by unfold State.mirrorRegs; simp
@[simp] theorem State.mirrorRegs_mode (s : State) (n : Nat) (ks : List Key) (bs : List BKey) : (s.mirrorRegs n ks bs).mode = s.mode := by unfold State.mirrorRegs; simp
@[simp] theorem State.mirrorRegs_objs (s : State) (n : Nat) (ks : List Key) (bs : List BKey) : (s.mirrorRegs n ks bs).objs = s.objs := by unfold State.mirrorRegs; simp
@[simp] theorem State.mirrorRegs_blobs (s : State) (n : Nat) (ks : List Key) (bs : List BKey) : (s.mirrorRegs n ks bs).blobs = s.blobs := by unfold State.mirrorRegs; simp
@[simp] theorem State.mirrorRegs_rcd (s : State) (n : Nat) (ks : List Key) (bs : List BKey) : (s.mirrorRegs n ks bs).rcd = s.rcd := by unfold State.mirrorRegs; simp
@[simp] theorem State.mirrorRegs_frz (s : State) (n : Nat) (ks : List Key) (bs : List BKey) : (s.mirrorRegs n ks bs).frz = s.frz := by unfold State.mirrorRegs; simp
@[simp] theorem State.mirrorRegs_pow (s : State) (n : Nat) (ks : List Key) (bs : List BKey) : (s.mirrorRegs n ks bs).pow = s.pow := by unfold State.mirrorRegs; simp
@[simp] theorem State.mirrorRegs_rst (s : State) (n : Nat) (ks : List Key) (bs : List BKey) : (s.mirrorRegs n ks bs).rst = s.rst := by unfold State.mirrorRegs; simp
@[simp] theorem State.mirrorRegs_tb (s : State) (n : Nat) (ks : List Key) (bs : List BKey) : (s.mirrorRegs n ks bs).tb = s.tb := by unfold State.mirrorRegs; simp
@[simp] theorem State.mirrorRegs_launches (s : State) (n : Nat) (ks : List Key) (bs : List BKey) : (s.mirrorRegs n ks bs).launches = s.launches := by unfold State.mirrorRegs; simp
@[simp] theorem State.mirrorRegs_launchSeq (s : State) (n : Nat) (ks : List Key) (bs : List BKey) : (s.mirrorRegs n ks bs).launchSeq = s.launchSeq := by unfold State.mirrorRegs; simp
@[simp] theorem State.mirrorRegs_acc (s : State) (n : Nat) (ks : List Key) (bs : List BKey) : (s.mirrorRegs n ks bs).acc = s.acc := by unfold State.mirrorRegs; simp
@[simp] theorem State.mirrorRegs_pts (s : State) (n : Nat) (ks : List Key) (bs : List BKey) : (s.mirrorRegs n ks bs).pts = s.pts := by unfold State.mirrorRegs; simp
@[simp] theorem State.mirrorRegs_cfgValid (s : State) (n : Nat) (ks : List Key) (bs : List BKey) : (s.mirrorRegs n ks bs).cfgValid = s.cfgValid := by unfold State.mirrorRegs; simp
@[simp] theorem State.mirrorRegs_testQueue (s : State) (n : Nat) (ks : List Key) (bs : List BKey) : (s.mirrorRegs n ks bs).testQueue = s.testQueue := by unfold State.mirrorRegs; simp
@[simp] theorem State.mirrorRegs_testsOn (s : State) (n : Nat) (ks : List Key) (bs : List BKey) : (s.mirrorRegs n ks bs).testsOn = s.testsOn := by unfold State.mirrorRegs; simp
@[simp] theorem State.mirrorRegs_fio (s : State) (n : Nat) (ks : List Key) (bs : List BKey) : (s.mirrorRegs n ks bs).fio = s.fio := by unfold State.mirrorRegs; simp
@[simp] theorem State.mirrorRegs_mem (s : State) (n : Nat) (ks : List Key) (bs : List BKey) : (s.mirrorRegs n ks bs).mem = s.mem := by unfold State.mirrorRegs; simp
@[simp] theorem State.mirrorRegs_saf (s : State) (n : Nat) (ks : List Key) (bs : List BKey) : (s.mirrorRegs n ks bs).saf = s.saf := by unfold State.mirrorRegs; simp
@[simp] theorem State.mirrorRegs_can (s : State) (n : Nat) (ks : List Key) (bs : List BKey) : (s.mirrorRegs n ks bs).can = s.can := by unfold State.mirrorRegs; simp
@[simp] theorem State.mirrorRegs_pos (s : State) (n : Nat) (ks : List Key) (bs : List BKey) : (s.mirrorRegs n ks bs).pos = s.pos := by unfold State.mirrorRegs; simp
@[simp] theorem State.mirrorRegs_emits (s : State) (n : Nat) (ks : List Key) (bs : List BKey) : (s.mirrorRegs n ks bs).emits = s.emits := by unfold State.mirrorRegs; simp
@[simp] theorem State.mirrorRegs_loops (s : State) (n : Nat) (ks : List Key) (bs : List BKey) : (s.mirrorRegs n ks bs).loops = s.loops := by unfold State.mirrorRegs; simp
@[simp] theorem State.mirrorRegs_grps (s : State) (n : Nat) (ks : List Key) (bs : List BKey) : (s.mirrorRegs n ks bs).grps = s.grps := by unfold State.mirrorRegs; simp
@[simp] theorem State.mirrorRegs_doors (s : State) (n : Nat) (ks : List Key) (bs : List BKey) : (s.mirrorRegs n ks bs).doors = s.doors := by unfold State.mirrorRegs; simp
@[simp] theorem State.mirrorRegs_met (s : State) (n : Nat) (ks : List Key) (bs : List BKey) : (s.mirrorRegs n ks bs).met = s.met := by unfold State.mirrorRegs; simp
@[simp] theorem State.mirrorRegs_dsp (s : State) (n : Nat) (ks : List Key) (bs : List BKey) : (s.mirrorRegs n ks bs).dsp = s.dsp := by unfold State.mirrorRegs; simp

@[simp] theorem State.accept_pending (s : State) (code src p0 p1 p2 : Nat) (a : Bool) : (s.accept code src p0 p1 p2 a).pending = s.pending := rfl
@[simp] theorem State.accept_out (s : State) (code src p0 p1 p2 : Nat) (a : Bool) : (s.accept code src p0 p1 p2 a).out = s.out := rfl
@[simp] theorem State.accept_clk (s : State) (code src p0 p1 p2 : Nat) (a : Bool) : (s.accept code src p0 p1 p2 a).clk = s.clk := rfl
@[simp] theorem State.accept_freeCtr (s : State) (code src p0 p1 p2 : Nat) (a : Bool) : (s.accept code src p0 p1 p2 a).freeCtr = s.freeCtr := rfl
@[simp] theorem State.accept_mode (s : State) (code src p0 p1 p2 : Nat) (a : Bool) : (s.accept code src p0 p1 p2 a).mode = s.mode := rfl
@[simp] theorem State.accept_objs (s : State) (code src p0 p1 p2 : Nat) (a : Bool) : (s.accept code src p0 p1 p2 a).objs = s.objs := rfl
@[simp] theorem State.accept_blobs (s : State) (code src p0 p1 p2 : Nat) (a : Bool) : (s.accept code src p0 p1 p2 a).blobs = s.blobs := rfl
@[simp] theorem State.accept_frz (s : State) (code src p0 p1 p2 : Nat) (a : Bool) : (s.accept code src p0 p1 p2 a).frz = s.frz := rfl
@[simp] theorem State.accept_pow (s : State) (code src p0 p1 p2 : Nat) (a : Bool) : (s.accept code src p0 p1 p2 a).pow = s.pow := rfl
@[simp] theorem State.accept_rst (s : State) (code src p0 p1 p2 : Nat) (a : Bool) : (s.accept code src p0 p1 p2 a).rst = s.rst := rfl
@[simp] theorem State.accept_tb (s : State) (code src p0 p1 p2 : Nat) (a : Bool) : (s.accept code src p0 p1 p2 a).tb = s.tb := rfl
@[simp] theorem State.accept_launches (s : State) (code src p0 p1 p2 : Nat) (a : Bool) : (s.accept code src p0 p1 p2 a).launches = s.launches := rfl
@[simp] theorem State.accept_launchSeq (s : State) (code src p0 p1 p2 : Nat) (a : Bool) : (s.accept code src p0 p1 p2 a).launchSeq = s.launchSeq := rfl
@[simp] theorem State.accept_acc (s : State) (code src p0 p1 p2 : Nat) (a : Bool) : (s.accept code src p0 p1 p2 a).acc = s.acc := rfl
@[simp] theorem State.accept_pts (s : State) (code src p0 p1 p2 : Nat) (a : Bool) : (s.accept code src p0 p1 p2 a).pts = s.pts := rfl
@[simp] theorem State.accept_tw (s : State) (code src p0 p1 p2 : Nat) (a : Bool) : (s.accept code src p0 p1 p2 a).tw = s.tw := rfl
@[simp] theorem State.accept_cfgValid (s : State) (code src p0 p1 p2 : Nat) (a : Bool) : (s.accept code src p0 p1 p2 a).cfgValid = s.cfgValid := rfl
@[simp] theorem State.accept_testQueue (s : State) (code src p0 p1 p2 : Nat) (a : Bool) : (s.accept code src p0 p1 p2 a).testQueue = s.testQueue := rfl
@[simp] theorem State.accept_testsOn (s : State) (code src p0 p1 p2 : Nat) (a : Bool) : (s.accept code src p0 p1 p2 a).testsOn = s.testsOn := rfl
@[simp] theorem State.accept_fio (s : State) (code src p0 p1 p2 : Nat) (a : Bool) : (s.accept code src p0 p1 p2 a).fio = s.fio := rfl
@[simp] theorem State.accept_mem (s : State) (code src p0 p1 p2 : Nat) (a : Bool) : (s.accept code src p0 p1 p2 a).mem = s.mem := rfl
@[simp] theorem State.accept_saf (s : State) (code src p0 p1 p2 : Nat) (a : Bool) : (s.accept code src p0 p1 p2 a).saf = s.saf := rfl
@[simp] theorem State.accept_can (s : State) (code src p0 p1 p2 : Nat) (a : Bool) : (s.accept code src p0 p1 p2 a).can = s.can := rfl
@[simp] theorem State.accept_pos (s : State) (code src p0 p1 p2 : Nat) (a : Bool) : (s.accept code src p0 p1 p2 a).pos = s.pos := rfl
@[simp] theorem State.accept_emits (s : State) (code src p0 p1 p2 : Nat) (a : Bool) : (s.accept code src p0 p1 p2 a).emits = s.emits := rfl
@[simp] theorem State.accept_loops (s : State) (code src p0 p1 p2 : Nat) (a : Bool) : (s.accept code src p0 p1 p2 a).loops = s.loops := rfl
@[simp] theorem State.accept_grps (s : State) (code src p0 p1 p2 : Nat) (a : Bool) : (s.accept code src p0 p1 p2 a).grps = s.grps := rfl
@[simp] theorem State.accept_doors (s : State) (code src p0 p1 p2 : Nat) (a : Bool) : (s.accept code src p0 p1 p2 a).doors = s.doors := rfl
@[simp] theorem State.accept_met (s : State) (code src p0 p1 p2 : Nat) (a : Bool) : (s.accept code src p0 p1 p2 a).met = s.met := rfl
@[simp] theorem State.accept_dsp (s : State) (code src p0 p1 p2 : Nat) (a : Bool) : (s.accept code src p0 p1 p2 a).dsp = s.dsp := rfl

@[simp] theorem State.eventAon_pending (s : State) (code p0 p1 p2 : Nat) : (s.eventAon code p0 p1 p2).pending = s.pending := rfl
@[simp] theorem State.eventAon_out (s : State) (code p0 p1 p2 : Nat) : (s.eventAon code p0 p1 p2).out = s.out := rfl
@[simp] theorem State.eventAon_clk (s : State) (code p0 p1 p2 : Nat) : (s.eventAon code p0 p1 p2).clk = s.clk := rfl
@[simp] theorem State.eventAon_freeCtr (s : State) (code p0 p1 p2 : Nat) : (s.eventAon code p0 p1 p2).freeCtr = s.freeCtr := rfl
@[simp] theorem State.eventAon_mode (s : State) (code p0 p1 p2 : Nat) : (s.eventAon code p0 p1 p2).mode = s.mode := rfl
@[simp] theorem State.eventAon_objs (s : State) (code p0 p1 p2 : Nat) : (s.eventAon code p0 p1 p2).objs = s.objs := rfl
@[simp] theorem State.eventAon_blobs (s : State) (code p0 p1 p2 : Nat) : (s.eventAon code p0 p1 p2).blobs = s.blobs := rfl
@[simp] theorem State.eventAon_frz (s : State) (code p0 p1 p2 : Nat) : (s.eventAon code p0 p1 p2).frz = s.frz := rfl
@[simp] theorem State.eventAon_pow (s : State) (code p0 p1 p2 : Nat) : (s.eventAon code p0 p1 p2).pow = s.pow := rfl
@[simp] theorem State.eventAon_rst (s : State) (code p0 p1 p2 : Nat) : (s.eventAon code p0 p1 p2).rst = s.rst := rfl
@[simp] theorem State.eventAon_tb (s : State) (code p0 p1 p2 : Nat) : (s.eventAon code p0 p1 p2).tb = s.tb := rfl
@[simp] theorem State.eventAon_launches (s : State) (code p0 p1 p2 : Nat) : (s.eventAon code p0 p1 p2).launches = s.launches := rfl
@[simp] theorem State.eventAon_launchSeq (s : State) (code p0 p1 p2 : Nat) : (s.eventAon code p0 p1 p2).launchSeq = s.launchSeq := rfl
@[simp] theorem State.eventAon_acc (s : State) (code p0 p1 p2 : Nat) : (s.eventAon code p0 p1 p2).acc = s.acc := rfl
@[simp] theorem State.eventAon_pts (s : State) (code p0 p1 p2 : Nat) : (s.eventAon code p0 p1 p2).pts = s.pts := rfl
@[simp] theorem State.eventAon_tw (s : State) (code p0 p1 p2 : Nat) : (s.eventAon code p0 p1 p2).tw = s.tw := rfl
@[simp] theorem State.eventAon_cfgValid (s : State) (code p0 p1 p2 : Nat) : (s.eventAon code p0 p1 p2).cfgValid = s.cfgValid := rfl
@[simp] theorem State.eventAon_testQueue (s : State) (code p0 p1 p2 : Nat) : (s.eventAon code p0 p1 p2).testQueue = s.testQueue := rfl
@[simp] theorem State.eventAon_testsOn (s : State) (code p0 p1 p2 : Nat) : (s.eventAon code p0 p1 p2).testsOn = s.testsOn := rfl
@[simp] theorem State.eventAon_fio (s : State) (code p0 p1 p2 : Nat) : (s.eventAon code p0 p1 p2).fio = s.fio := rfl
@[simp] theorem State.eventAon_mem (s : State) (code p0 p1 p2 : Nat) : (s.eventAon code p0 p1 p2).mem = s.mem := rfl
@[simp] theorem State.eventAon_saf (s : State) (code p0 p1 p2 : Nat) : (s.eventAon code p0 p1 p2).saf = s.saf := rfl
@[simp] theorem State.eventAon_can (s : State) (code p0 p1 p2 : Nat) : (s.eventAon code p0 p1 p2).can = s.can := rfl
@[simp] theorem State.eventAon_pos (s : State) (code p0 p1 p2 : Nat) : (s.eventAon code p0 p1 p2).pos = s.pos := rfl
@[simp] theorem State.eventAon_emits (s : State) (code p0 p1 p2 : Nat) : (s.eventAon code p0 p1 p2).emits = s.emits := rfl
@[simp] theorem State.eventAon_loops (s : State) (code p0 p1 p2 : Nat) : (s.eventAon code p0 p1 p2).loops = s.loops := rfl
@[simp] theorem State.eventAon_grps (s : State) (code p0 p1 p2 : Nat) : (s.eventAon code p0 p1 p2).grps = s.grps := rfl
@[simp] theorem State.eventAon_doors (s : State) (code p0 p1 p2 : Nat) : (s.eventAon code p0 p1 p2).doors = s.doors := rfl
@[simp] theorem State.eventAon_met (s : State) (code p0 p1 p2 : Nat) : (s.eventAon code p0 p1 p2).met = s.met := rfl
@[simp] theorem State.eventAon_dsp (s : State) (code p0 p1 p2 : Nat) : (s.eventAon code p0 p1 p2).dsp = s.dsp := rfl

@[simp] theorem State.offer_pending (s : State) (code src p0 p1 p2 : Nat) : (s.offer code src p0 p1 p2).pending = s.pending := by unfold State.offer; split; rfl; split <;> rfl
@[simp] theorem State.offer_out (s : State) (code src p0 p1 p2 : Nat) : (s.offer code src p0 p1 p2).out = s.out := by unfold State.offer; split; rfl; split <;> rfl
@[simp] theorem State.offer_clk (s : State) (code src p0 p1 p2 : Nat) : (s.offer code src p0 p1 p2).clk = s.clk := by unfold State.offer; split; rfl; split <;> rfl
@[simp] theorem State.offer_freeCtr (s : State) (code src p0 p1 p2 : Nat) : (s.offer code src p0 p1 p2).freeCtr = s.freeCtr := by unfold State.offer; split; rfl; split <;> rfl
@[simp] theorem State.offer_mode (s : State) (code src p0 p1 p2 : Nat) : (s.offer code src p0 p1 p2).mode = s.mode := by unfold State.offer; split; rfl; split <;> rfl
@[simp] theorem State.offer_blobs (s : State) (code src p0 p1 p2 : Nat) : (s.offer code src p0 p1 p2).blobs = s.blobs := by unfold State.offer; split; rfl; split <;> rfl
@[simp] theorem State.offer_frz (s : State) (code src p0 p1 p2 : Nat) : (s.offer code src p0 p1 p2).frz = s.frz := by unfold State.offer; split; rfl; split <;> rfl
@[simp] theorem State.offer_pow (s : State) (code src p0 p1 p2 : Nat) : (s.offer code src p0 p1 p2).pow = s.pow := by unfold State.offer; split; rfl; split <;> rfl
@[simp] theorem State.offer_rst (s : State) (code src p0 p1 p2 : Nat) : (s.offer code src p0 p1 p2).rst = s.rst := by unfold State.offer; split; rfl; split <;> rfl
@[simp] theorem State.offer_tb (s : State) (code src p0 p1 p2 : Nat) : (s.offer code src p0 p1 p2).tb = s.tb := by unfold State.offer; split; rfl; split <;> rfl
@[simp] theorem State.offer_launches (s : State) (code src p0 p1 p2 : Nat) : (s.offer code src p0 p1 p2).launches = s.launches := by unfold State.offer; split; rfl; split <;> rfl
@[simp] theorem State.offer_launchSeq (s : State) (code src p0 p1 p2 : Nat) : (s.offer code src p0 p1 p2).launchSeq = s.launchSeq := by unfold State.offer; split; rfl; split <;> rfl
@[simp] theorem State.offer_acc (s : State) (code src p0 p1 p2 : Nat) : (s.offer code src p0 p1 p2).acc = s.acc := by unfold State.offer; split; rfl; split <;> rfl
@[simp] theorem State.offer_pts (s : State) (code src p0 p1 p2 : Nat) : (s.offer code src p0 p1 p2).pts = s.pts := by unfold State.offer; split; rfl; split <;> rfl
@[simp] theorem State.offer_tw (s : State) (code src p0 p1 p2 : Nat) : (s.offer code src p0 p1 p2).tw = s.tw := by unfold State.offer; split; rfl; split <;> rfl
@[simp] theorem State.offer_cfgValid (s : State) (code src p0 p1 p2 : Nat) : (s.offer code src p0 p1 p2).cfgValid = s.cfgValid := by unfold State.offer; split; rfl; split <;> rfl
@[simp] theorem State.offer_testQueue (s : State) (code src p0 p1 p2 : Nat) : (s.offer code src p0 p1 p2).testQueue = s.testQueue := by unfold State.offer; split; rfl; split <;> rfl
@[simp] theorem State.offer_testsOn (s : State) (code src p0 p1 p2 : Nat) : (s.offer code src p0 p1 p2).testsOn = s.testsOn := by unfold State.offer; split; rfl; split <;> rfl
@[simp] theorem State.offer_fio (s : State) (code src p0 p1 p2 : Nat) : (s.offer code src p0 p1 p2).fio = s.fio := by unfold State.offer; split; rfl; split <;> rfl
@[simp] theorem State.offer_mem (s : State) (code src p0 p1 p2 : Nat) : (s.offer code src p0 p1 p2).mem = s.mem := by unfold State.offer; split; rfl; split <;> rfl
@[simp] theorem State.offer_saf (s : State) (code src p0 p1 p2 : Nat) : (s.offer code src p0 p1 p2).saf = s.saf := by unfold State.offer; split; rfl; split <;> rfl
@[simp] theorem State.offer_can (s : State) (code src p0 p1 p2 : Nat) : (s.offer code src p0 p1 p2).can = s.can := by unfold State.offer; split; rfl; split <;> rfl
@[simp] theorem State.offer_pos (s : State) (code src p0 p1 p2 : Nat) : (s.offer code src p0 p1 p2).pos = s.pos := by unfold State.offer; split; rfl; split <;> rfl
@[simp] theorem State.offer_emits (s : State) (code src p0 p1 p2 : Nat) : (s.offer code src p0 p1 p2).emits = s.emits := by unfold State.offer; split; rfl; split <;> rfl
@[simp] theorem State.offer_loops (s : State) (code src p0 p1 p2 : Nat) : (s.offer code src p0 p1 p2).loops = s.loops := by unfold State.offer; split; rfl; split <;> rfl
@[simp] theorem State.offer_grps (s : State) (code src p0 p1 p2 : Nat) : (s.offer code src p0 p1 p2).grps = s.grps := by unfold State.offer; split; rfl; split <;> rfl
@[simp] theorem State.offer_doors (s : State) (code src p0 p1 p2 : Nat) : (s.offer code src p0 p1 p2).doors = s.doors := by unfold State.offer; split; rfl; split <;> rfl
@[simp] theorem State.offer_met (s : State) (code src p0 p1 p2 : Nat) : (s.offer code src p0 p1 p2).met = s.met := by unfold State.offer; split; rfl; split <;> rfl
@[simp] theorem State.offer_dsp (s : State) (code src p0 p1 p2 : Nat) : (s.offer code src p0 p1 p2).dsp = s.dsp := by unfold State.offer; split; rfl; split <;> rfl

@[simp] theorem State.event_pending (s : State) (code p0 p1 p2 : Nat) : (s.event code p0 p1 p2).pending = s.pending := by simp [State.event]
@[simp] theorem State.event_out (s : State) (code p0 p1 p2 : Nat) : (s.event code p0 p1 p2).out = s.out := by simp [State.event]
@[simp] theorem State.event_clk (s : State) (code p0 p1 p2 : Nat) : (s.event code p0 p1 p2).clk = s.clk := by simp [State.event]
@[simp] theorem State.event_freeCtr (s : State) (code p0 p1 p2 : Nat) : (s.event code p0 p1 p2).freeCtr = s.freeCtr := by simp [State.event]
@[simp] theorem State.event_mode (s : State) (code p0 p1 p2 : Nat) : (s.event code p0 p1 p2).mode = s.mode := by simp [State.event]
@[simp] theorem State.event_blobs (s : State) (code p0 p1 p2 : Nat) : (s.event code p0 p1 p2).blobs = s.blobs := by simp [State.event]
@[simp] theorem State.event_frz (s : State) (code p0 p1 p2 : Nat) : (s.event code p0 p1 p2).frz = s.frz := by simp [State.event]
@[simp] theorem State.event_pow (s : State) (code p0 p1 p2 : Nat) : (s.event code p0 p1 p2).pow = s.pow := by simp [State.event]
@[simp] theorem State.event_rst (s : State) (code p0 p1 p2 : Nat) : (s.event code p0 p1 p2).rst = s.rst := by simp [State.event]
@[simp] theorem State.event_tb (s : State) (code p0 p1 p2 : Nat) : (s.event code p0 p1 p2).tb = s.tb := by simp [State.event]
@[simp] theorem State.event_launches (s : State) (code p0 p1 p2 : Nat) : (s.event code p0 p1 p2).launches = s.launches := by simp [State.event]
@[simp] theorem State.event_launchSeq (s : State) (code p0 p1 p2 : Nat) : (s.event code p0 p1 p2).launchSeq = s.launchSeq := by simp [State.event]
@[simp] theorem State.event_acc (s : State) (code p0 p1 p2 : Nat) : (s.event code p0 p1 p2).acc = s.acc := by simp [State.event]
@[simp] theorem State.event_pts (s : State) (code p0 p1 p2 : Nat) : (s.event code p0 p1 p2).pts = s.pts := by simp [State.event]
@[simp] theorem State.event_tw (s : State) (code p0 p1 p2 : Nat) : (s.event code p0 p1 p2).tw = s.tw := by simp [State.event]
@[simp] theorem State.event_cfgValid (s : State) (code p0 p1 p2 : Nat) : (s.event code p0 p1 p2).cfgValid = s.cfgValid := by simp [State.event]
@[simp] theorem State.event_testQueue (s : State) (code p0 p1 p2 : Nat) : (s.event code p0 p1 p2).testQueue = s.testQueue := by simp [State.event]
@[simp] theorem State.event_testsOn (s : State) (code p0 p1 p2 : Nat) : (s.event code p0 p1 p2).testsOn = s.testsOn := by simp [State.event]
@[simp] theorem State.event_fio (s : State) (code p0 p1 p2 : Nat) : (s.event code p0 p1 p2).fio = s.fio := by simp [State.event]
@[simp] theorem State.event_mem (s : State) (code p0 p1 p2 : Nat) : (s.event code p0 p1 p2).mem = s.mem := by simp [State.event]
@[simp] theorem State.event_saf (s : State) (code p0 p1 p2 : Nat) : (s.event code p0 p1 p2).saf = s.saf := by simp [State.event]
@[simp] theorem State.event_can (s : State) (code p0 p1 p2 : Nat) : (s.event code p0 p1 p2).can = s.can := by simp [State.event]
@[simp] theorem State.event_pos (s : State) (code p0 p1 p2 : Nat) : (s.event code p0 p1 p2).pos = s.pos := by simp [State.event]
@[simp] theorem State.event_emits (s : State) (code p0 p1 p2 : Nat) : (s.event code p0 p1 p2).emits = s.emits := by simp [State.event]
@[simp] theorem State.event_loops (s : State) (code p0 p1 p2 : Nat) : (s.event code p0 p1 p2).loops = s.loops := by simp [State.event]
@[simp] theorem State.event_grps (s : State) (code p0 p1 p2 : Nat) : (s.event code p0 p1 p2).grps = s.grps := by simp [State.event]
@[simp] theorem State.event_doors (s : State) (code p0 p1 p2 : Nat) : (s.event code p0 p1 p2).doors = s.doors := by simp [State.event]
@[simp] theorem State.event_met (s : State) (code p0 p1 p2 : Nat) : (s.event code p0 p1 p2).met = s.met := by simp [State.event]
@[simp] theorem State.event_dsp (s : State) (code p0 p1 p2 : Nat) : (s.event code p0 p1 p2).dsp = s.dsp := by simp [State.event]

@[simp] theorem State.eventOf_pending (s : State) (code src p0 p1 p2 : Nat) : (s.eventOf code src p0 p1 p2).pending = s.pending := by simp [State.eventOf]
@[simp] theorem State.eventOf_out (s : State) (code src p0 p1 p2 : Nat) : (s.eventOf code src p0 p1 p2).out = s.out := by simp [State.eventOf]
@[simp] theorem State.eventOf_clk (s : State) (code src p0 p1 p2 : Nat) : (s.eventOf code src p0 p1 p2).clk = s.clk := by simp [State.eventOf]
@[simp] theorem State.eventOf_freeCtr (s : State) (code src p0 p1 p2 : Nat) : (s.eventOf code src p0 p1 p2).freeCtr = s.freeCtr := by simp [State.eventOf]
@[simp] theorem State.eventOf_mode (s : State) (code src p0 p1 p2 : Nat) : (s.eventOf code src p0 p1 p2).mode = s.mode := by simp [State.eventOf]
@[simp] theorem State.eventOf_blobs (s : State) (code src p0 p1 p2 : Nat) : (s.eventOf code src p0 p1 p2).blobs = s.blobs := by simp [State.eventOf]
@[simp] theorem State.eventOf_frz (s : State) (code src p0 p1 p2 : Nat) : (s.eventOf code src p0 p1 p2).frz = s.frz := by simp [State.eventOf]
@[simp] theorem State.eventOf_pow (s : State) (code src p0 p1 p2 : Nat) : (s.eventOf code src p0 p1 p2).pow = s.pow := by simp [State.eventOf]
@[simp] theorem State.eventOf_rst (s : State) (code src p0 p1 p2 : Nat) : (s.eventOf code src p0 p1 p2).rst = s.rst := by simp [State.eventOf]
@[simp] theorem State.eventOf_tb (s : State) (code src p0 p1 p2 : Nat) : (s.eventOf code src p0 p1 p2).tb = s.tb := by simp [State.eventOf]
@[simp] theorem State.eventOf_launches (s : State) (code src p0 p1 p2 : Nat) : (s.eventOf code src p0 p1 p2).launches = s.launches := by simp [State.eventOf]
@[simp] theorem State.eventOf_launchSeq (s : State) (code src p0 p1 p2 : Nat) : (s.eventOf code src p0 p1 p2).launchSeq = s.launchSeq := by simp [State.eventOf]
@[simp] theorem State.eventOf_acc (s : State) (code src p0 p1 p2 : Nat) : (s.eventOf code src p0 p1 p2).acc = s.acc := by simp [State.eventOf]
@[simp] theorem State.eventOf_pts (s : State) (code src p0 p1 p2 : Nat) : (s.eventOf code src p0 p1 p2).pts = s.pts := by simp [State.eventOf]
@[simp] theorem State.eventOf_tw (s : State) (code src p0 p1 p2 : Nat) : (s.eventOf code src p0 p1 p2).tw = s.tw := by simp [State.eventOf]
@[simp] theorem State.eventOf_cfgValid (s : State) (code src p0 p1 p2 : Nat) : (s.eventOf code src p0 p1 p2).cfgValid = s.cfgValid := by simp [State.eventOf]
@[simp] theorem State.eventOf_testQueue (s : State) (code src p0 p1 p2 : Nat) : (s.eventOf code src p0 p1 p2).testQueue = s.testQueue := by simp [State.eventOf]
@[simp] theorem State.eventOf_testsOn (s : State) (code src p0 p1 p2 : Nat) : (s.eventOf code src p0 p1 p2).testsOn = s.testsOn := by simp [State.eventOf]
@[simp] theorem State.eventOf_fio (s : State) (code src p0 p1 p2 : Nat) : (s.eventOf code src p0 p1 p2).fio = s.fio := by simp [State.eventOf]
@[simp] theorem State.eventOf_mem (s : State) (code src p0 p1 p2 : Nat) : (s.eventOf code src p0 p1 p2).mem = s.mem := by simp [State.eventOf]
@[simp] theorem State.eventOf_saf (s : State) (code src p0 p1 p2 : Nat) : (s.eventOf code src p0 p1 p2).saf = s.saf := by simp [State.eventOf]
@[simp] theorem State.eventOf_can (s : State) (code src p0 p1 p2 : Nat) : (s.eventOf code src p0 p1 p2).can = s.can := by simp [State.eventOf]
@[simp] theorem State.eventOf_pos (s : State) (code src p0 p1 p2 : Nat) : (s.eventOf code src p0 p1 p2).pos = s.pos := by simp [State.eventOf]
@[simp] theorem State.eventOf_emits (s : State) (code src p0 p1 p2 : Nat) : (s.eventOf code src p0 p1 p2).emits = s.emits := by simp [State.eventOf]
@[simp] theorem State.eventOf_loops (s : State) (code src p0 p1 p2 : Nat) : (s.eventOf code src p0 p1 p2).loops = s.loops := by simp [State.eventOf]
@[simp] theorem State.eventOf_grps (s : State) (code src p0 p1 p2 : Nat) : (s.eventOf code src p0 p1 p2).grps = s.grps := by simp [State.eventOf]
@[simp] theorem State.eventOf_doors (s : State) (code src p0 p1 p2 : Nat) : (s.eventOf code src p0 p1 p2).doors = s.doors := by simp [State.eventOf]
@[simp] theorem State.eventOf_met (s : State) (code src p0 p1 p2 : Nat) : (s.eventOf code src p0 p1 p2).met = s.met := by simp [State.eventOf]
@[simp] theorem State.eventOf_dsp (s : State) (code src p0 p1 p2 : Nat) : (s.eventOf code src p0 p1 p2).dsp = s.dsp := by simp [State.eventOf]

/-! ### Registers -/

@[simp] theorem State.get_start (s : State) (x : Key) : (s.start).get x = s.get x := rfl
@[simp] theorem State.nat_start (s : State) (x : Key) : (s.start).nat x = s.nat x := by simp [State.nat]
@[simp] theorem State.flag_start (s : State) (x : Key) : (s.start).flag x = s.flag x := by simp [State.flag]
@[simp] theorem State.bit_start (s : State) (x : Key) (j : Nat) : (s.start).bit x j = s.bit x j := by simp [State.bit]
@[simp] theorem State.blob_start (s : State) (x : BKey) : (s.start).blob x = s.blob x := by simp [State.blob]

@[simp] theorem State.blob_set (s : State) (k : Key) (v : Int) (x : BKey) : (s.set k v).blob x = s.blob x := by simp [State.blob]

@[simp] theorem State.blob_setN (s : State) (k : Key) (v : Nat) (x : BKey) : (s.setN k v).blob x = s.blob x := by simp [State.blob]

@[simp] theorem State.blob_setFlag (s : State) (k : Key) (b : Bool) (x : BKey) : (s.setFlag k b).blob x = s.blob x := by simp [State.blob]

@[simp] theorem State.blob_setBit (s : State) (k : Key) (i : Nat) (b : Bool) (x : BKey) : (s.setBit k i b).blob x = s.blob x := by simp [State.blob]

@[simp] theorem State.blob_count (s : State) (k : Key) (w n : Nat) (x : BKey) : (s.count k w n).blob x = s.blob x := by simp [State.blob]

@[simp] theorem State.get_setBlob (s : State) (k : BKey) (v : List Byte) (x : Key) : (s.setBlob k v).get x = s.get x := rfl
@[simp] theorem State.nat_setBlob (s : State) (k : BKey) (v : List Byte) (x : Key) : (s.setBlob k v).nat x = s.nat x := by simp [State.nat]
@[simp] theorem State.flag_setBlob (s : State) (k : BKey) (v : List Byte) (x : Key) : (s.setBlob k v).flag x = s.flag x := by simp [State.flag]
@[simp] theorem State.bit_setBlob (s : State) (k : BKey) (v : List Byte) (x : Key) (j : Nat) : (s.setBlob k v).bit x j = s.bit x j := by simp [State.bit]

@[simp] theorem State.get_emit (s : State) (o : Out) (x : Key) : (s.emit o).get x = s.get x := rfl
@[simp] theorem State.nat_emit (s : State) (o : Out) (x : Key) : (s.emit o).nat x = s.nat x := by simp [State.nat]
@[simp] theorem State.flag_emit (s : State) (o : Out) (x : Key) : (s.emit o).flag x = s.flag x := by simp [State.flag]
@[simp] theorem State.bit_emit (s : State) (o : Out) (x : Key) (j : Nat) : (s.emit o).bit x j = s.bit x j := by simp [State.bit]
@[simp] theorem State.blob_emit (s : State) (o : Out) (x : BKey) : (s.emit o).blob x = s.blob x := by simp [State.blob]

@[simp] theorem State.get_cycles (s : State) (n : Nat) (x : Key) : (s.cycles n).get x = s.get x := rfl
@[simp] theorem State.nat_cycles (s : State) (n : Nat) (x : Key) : (s.cycles n).nat x = s.nat x := by simp [State.nat]
@[simp] theorem State.flag_cycles (s : State) (n : Nat) (x : Key) : (s.cycles n).flag x = s.flag x := by simp [State.flag]
@[simp] theorem State.bit_cycles (s : State) (n : Nat) (x : Key) (j : Nat) : (s.cycles n).bit x j = s.bit x j := by simp [State.bit]
@[simp] theorem State.blob_cycles (s : State) (n : Nat) (x : BKey) : (s.cycles n).blob x = s.blob x := by simp [State.blob]

@[simp] theorem State.get_reach (s : State) (t : Nat) (x : Key) : (s.reach t).get x = s.get x := rfl
@[simp] theorem State.nat_reach (s : State) (t : Nat) (x : Key) : (s.reach t).nat x = s.nat x := by simp [State.nat]
@[simp] theorem State.flag_reach (s : State) (t : Nat) (x : Key) : (s.reach t).flag x = s.flag x := by simp [State.flag]
@[simp] theorem State.bit_reach (s : State) (t : Nat) (x : Key) (j : Nat) : (s.reach t).bit x j = s.bit x j := by simp [State.bit]
@[simp] theorem State.blob_reach (s : State) (t : Nat) (x : BKey) : (s.reach t).blob x = s.blob x := by simp [State.blob]

@[simp] theorem State.get_toMultiple (s : State) (p : Nat) (x : Key) : (s.toMultiple p).get x = s.get x := rfl
@[simp] theorem State.nat_toMultiple (s : State) (p : Nat) (x : Key) : (s.toMultiple p).nat x = s.nat x := by simp [State.nat]
@[simp] theorem State.flag_toMultiple (s : State) (p : Nat) (x : Key) : (s.toMultiple p).flag x = s.flag x := by simp [State.flag]
@[simp] theorem State.bit_toMultiple (s : State) (p : Nat) (x : Key) (j : Nat) : (s.toMultiple p).bit x j = s.bit x j := by simp [State.bit]
@[simp] theorem State.blob_toMultiple (s : State) (p : Nat) (x : BKey) : (s.toMultiple p).blob x = s.blob x := by simp [State.blob]

@[simp] theorem State.get_toPhase (s : State) (p off : Nat) (x : Key) : (s.toPhase p off).get x = s.get x := rfl
@[simp] theorem State.nat_toPhase (s : State) (p off : Nat) (x : Key) : (s.toPhase p off).nat x = s.nat x := by simp [State.nat]
@[simp] theorem State.flag_toPhase (s : State) (p off : Nat) (x : Key) : (s.toPhase p off).flag x = s.flag x := by simp [State.flag]
@[simp] theorem State.bit_toPhase (s : State) (p off : Nat) (x : Key) (j : Nat) : (s.toPhase p off).bit x j = s.bit x j := by simp [State.bit]
@[simp] theorem State.blob_toPhase (s : State) (p off : Nat) (x : BKey) : (s.toPhase p off).blob x = s.blob x := by simp [State.blob]

@[simp] theorem State.get_mirror (s : State) (b : BatchItem) (x : Key) : (s.mirror b).get x = s.get x := by simp [State.get]
@[simp] theorem State.nat_mirror (s : State) (b : BatchItem) (x : Key) : (s.mirror b).nat x = s.nat x := by simp [State.nat]
@[simp] theorem State.flag_mirror (s : State) (b : BatchItem) (x : Key) : (s.mirror b).flag x = s.flag x := by simp [State.flag]
@[simp] theorem State.bit_mirror (s : State) (b : BatchItem) (x : Key) (j : Nat) : (s.mirror b).bit x j = s.bit x j := by simp [State.bit]
@[simp] theorem State.blob_mirror (s : State) (b : BatchItem) (x : BKey) : (s.mirror b).blob x = s.blob x := by simp [State.blob]

@[simp] theorem State.get_mirrorRegs (s : State) (n : Nat) (ks : List Key) (bs : List BKey) (x : Key) : (s.mirrorRegs n ks bs).get x = s.get x := by simp [State.get]
@[simp] theorem State.nat_mirrorRegs (s : State) (n : Nat) (ks : List Key) (bs : List BKey) (x : Key) : (s.mirrorRegs n ks bs).nat x = s.nat x := by simp [State.nat]
@[simp] theorem State.flag_mirrorRegs (s : State) (n : Nat) (ks : List Key) (bs : List BKey) (x : Key) : (s.mirrorRegs n ks bs).flag x = s.flag x := by simp [State.flag]
@[simp] theorem State.bit_mirrorRegs (s : State) (n : Nat) (ks : List Key) (bs : List BKey) (x : Key) (j : Nat) : (s.mirrorRegs n ks bs).bit x j = s.bit x j := by simp [State.bit]
@[simp] theorem State.blob_mirrorRegs (s : State) (n : Nat) (ks : List Key) (bs : List BKey) (x : BKey) : (s.mirrorRegs n ks bs).blob x = s.blob x := by simp [State.blob]

@[simp] theorem State.get_accept (s : State) (code src p0 p1 p2 : Nat) (a : Bool) (x : Key) : (s.accept code src p0 p1 p2 a).get x = s.get x := rfl
@[simp] theorem State.nat_accept (s : State) (code src p0 p1 p2 : Nat) (a : Bool) (x : Key) : (s.accept code src p0 p1 p2 a).nat x = s.nat x := by simp [State.nat]
@[simp] theorem State.flag_accept (s : State) (code src p0 p1 p2 : Nat) (a : Bool) (x : Key) : (s.accept code src p0 p1 p2 a).flag x = s.flag x := by simp [State.flag]
@[simp] theorem State.bit_accept (s : State) (code src p0 p1 p2 : Nat) (a : Bool) (x : Key) (j : Nat) : (s.accept code src p0 p1 p2 a).bit x j = s.bit x j := by simp [State.bit]
@[simp] theorem State.blob_accept (s : State) (code src p0 p1 p2 : Nat) (a : Bool) (x : BKey) : (s.accept code src p0 p1 p2 a).blob x = s.blob x := by simp [State.blob]

@[simp] theorem State.get_eventAon (s : State) (code p0 p1 p2 : Nat) (x : Key) : (s.eventAon code p0 p1 p2).get x = s.get x := rfl
@[simp] theorem State.nat_eventAon (s : State) (code p0 p1 p2 : Nat) (x : Key) : (s.eventAon code p0 p1 p2).nat x = s.nat x := by simp [State.nat]
@[simp] theorem State.flag_eventAon (s : State) (code p0 p1 p2 : Nat) (x : Key) : (s.eventAon code p0 p1 p2).flag x = s.flag x := by simp [State.flag]
@[simp] theorem State.bit_eventAon (s : State) (code p0 p1 p2 : Nat) (x : Key) (j : Nat) : (s.eventAon code p0 p1 p2).bit x j = s.bit x j := by simp [State.bit]
@[simp] theorem State.blob_eventAon (s : State) (code p0 p1 p2 : Nat) (x : BKey) : (s.eventAon code p0 p1 p2).blob x = s.blob x := by simp [State.blob]

@[simp] theorem State.blob_offer (s : State) (code src p0 p1 p2 : Nat) (x : BKey) : (s.offer code src p0 p1 p2).blob x = s.blob x := by simp [State.blob]

@[simp] theorem State.blob_event (s : State) (code p0 p1 p2 : Nat) (x : BKey) : (s.event code p0 p1 p2).blob x = s.blob x := by simp [State.blob]

@[simp] theorem State.blob_eventOf (s : State) (code src p0 p1 p2 : Nat) (x : BKey) : (s.eventOf code src p0 p1 p2).blob x = s.blob x := by simp [State.blob]

/-- A register read after a write of it gives the value written. -/
@[simp] theorem State.get_set_same (s : State) (k : Key) (v : Int) : (s.set k v).get k = v := by
  simp [State.get, State.set]

/-- A write of one register leaves every other as it was. -/
theorem State.get_set_other (s : State) (k k' : Key) (v : Int) (h : k.oid ≠ k'.oid) : (s.set k v).get k' = s.get k' :=
  Tbl.get_put_other _ _ _ _ _ _ h

@[simp] theorem State.get_setN_same (s : State) (k : Key) (v : Nat) : (s.setN k v).get k = v := s.get_set_same k v

theorem State.get_setN_other (s : State) (k k' : Key) (v : Nat) (h : k.oid ≠ k'.oid) : (s.setN k v).get k' = s.get k' :=
  s.get_set_other k k' v h

@[simp] theorem State.nat_setN_same (s : State) (k : Key) (v : Nat) : (s.setN k v).nat k = v := by simp [State.nat]

@[simp] theorem State.get_setFlag_same (s : State) (k : Key) (b : Bool) : (s.setFlag k b).get k = if b then 1 else 0 :=
  s.get_set_same k _

theorem State.get_setFlag_other (s : State) (k k' : Key) (b : Bool) (h : k.oid ≠ k'.oid) : (s.setFlag k b).get k' = s.get k' :=
  s.get_set_other k k' _ h

@[simp] theorem State.flag_setFlag_same (s : State) (k : Key) (b : Bool) : (s.setFlag k b).flag k = b := by
  cases b <;> simp [State.flag]

theorem State.get_setBit_other (s : State) (k k' : Key) (i : Nat) (b : Bool) (h : k.oid ≠ k'.oid) : (s.setBit k i b).get k' = s.get k' :=
  s.get_set_other k k' _ h

theorem State.get_count_other (s : State) (k k' : Key) (w n : Nat) (h : k.oid ≠ k'.oid) : (s.count k w n).get k' = s.get k' :=
  s.get_set_other k k' _ h

/-- A counter after it has counted: it saturates (R167). -/
@[simp] theorem State.nat_count_same (s : State) (k : Key) (w n : Nat) : (s.count k w n).nat k = min (s.nat k + n) (2 ^ w - 1) := by
  simp [State.count]

@[simp] theorem State.blob_setBlob_same (s : State) (k : BKey) (v : List Byte) : (s.setBlob k v).blob k = v := by
  simp [State.blob, State.setBlob]

theorem State.blob_setBlob_other (s : State) (k k' : BKey) (v : List Byte) (h : k.oid ≠ k'.oid) : (s.setBlob k v).blob k' = s.blob k' :=
  Tbl.get_put_other _ _ _ _ _ _ h

/-- Adding a power of two whose bit is clear sets that bit alone. -/
theorem testBit_add_two_pow (v i j : Nat) (h : v.testBit i = false) :
    (v + 2 ^ i).testBit j = if j = i then true else v.testBit j := by
  have hq : v / 2 ^ i = 2 * (v / 2 ^ i / 2) := by
    have h1 : (v / 2 ^ i) % 2 = 0 := by
      rw [Nat.testBit_eq_decide_div_mod_eq] at h
      have := of_decide_eq_false h
      omega
    omega
  have hr : v % 2 ^ i < 2 ^ i := Nat.mod_lt _ (Nat.two_pow_pos i)
  have e0 : v = 2 ^ i * (2 * (v / 2 ^ i / 2)) + v % 2 ^ i := by rw [← hq]; exact (Nat.div_add_mod v (2 ^ i)).symm
  generalize v / 2 ^ i / 2 = q at e0
  generalize v % 2 ^ i = r at e0 hr
  have e1 : v + 2 ^ i = 2 ^ i * (2 * q + 1) + r := by rw [e0, Nat.mul_add]; omega
  rw [e1, e0, Nat.testBit_two_pow_mul_add _ hr, Nat.testBit_two_pow_mul_add _ hr]
  by_cases hj : j < i
  · have : j ≠ i := by omega
    simp [hj, this]
  · by_cases he : j = i
    · subst he
      simp
    · obtain ⟨k, hk⟩ : ∃ k, j - i = k + 1 := ⟨j - i - 1, by omega⟩
      rw [hk]
      simp only [hj, he, if_false, Nat.testBit_succ]
      congr 1
      omega

/-- What a bit of a number is after one bit has been set or cleared. -/
theorem testBit_withBit (v i j : Nat) (b : Bool) : (withBit v i b).testBit j = if j = i then b else v.testBit j := by
  unfold withBit
  split
  · next h => split <;> simp_all
  · next h =>
    split
    · next hb =>
      subst hb
      exact testBit_add_two_pow v i j (by simpa using h)
    · next hb =>
      have hb' : b = false := by simpa using hb
      subst hb'
      have hv : v.testBit i = true := by simpa using h
      have hx : (v - 2 ^ i) + 2 ^ i = v := Nat.sub_add_cancel (Nat.ge_two_pow_of_testBit hv)
      have h0 : (v - 2 ^ i).testBit i = false := by
        have h1 : (2 ^ i + (v - 2 ^ i)).testBit i = true := by rw [Nat.add_comm, hx]; exact hv
        rw [Nat.testBit_two_pow_add_eq] at h1
        simpa using h1
      have h2 := testBit_add_two_pow (v - 2 ^ i) i j h0
      rw [hx] at h2
      by_cases hj : j = i
      · subst hj
        simp [h0]
      · simp [hj] at h2 ⊢
        exact h2.symm

@[simp] theorem State.bit_setBit (s : State) (k : Key) (i j : Nat) (b : Bool) :
    (s.setBit k i b).bit k j = if j = i then b else s.bit k j := by
  simp [State.bit, State.setBit, testBit_withBit]

/-! ### Records -/

/-- An offered record changes no register but REC_DROPPED. -/
@[simp] theorem State.get_offer (s : State) (code src p0 p1 p2 : Nat) (k : Key) (h : Oid.REC_DROPPED.oid ≠ k.oid) :
    (s.offer code src p0 p1 p2).get k = s.get k := by
  unfold State.offer
  split
  · rfl
  · split
    · exact State.get_set_other _ _ _ _ h
    · rfl

@[simp] theorem State.get_event (s : State) (code p0 p1 p2 : Nat) (k : Key) (h : Oid.REC_DROPPED.oid ≠ k.oid) :
    (s.event code p0 p1 p2).get k = s.get k := State.get_offer s _ _ _ _ _ k h

@[simp] theorem State.get_eventOf (s : State) (code src p0 p1 p2 : Nat) (k : Key) (h : Oid.REC_DROPPED.oid ≠ k.oid) :
    (s.eventOf code src p0 p1 p2).get k = s.get k := State.get_offer s _ _ _ _ _ k h


theorem State.get_setBit_same (s : State) (k : Key) (i : Nat) (b : Bool) : (s.setBit k i b).get k = withBit (s.get k).toNat i b :=
  s.get_set_same k _

theorem State.get_count_same (s : State) (k : Key) (w n : Nat) : (s.count k w n).get k = (min ((s.get k).toNat + n) (2 ^ w - 1) : Nat) :=
  s.get_set_same k _


end Sys2Proof.Machine
end

