-- ==== Sys2Proof/Laws/Records.lean ====
section
/-! SUPPORT. The laws of the recorder's path: an offered record is held while the pending area has room, what is held stays held, and
each offer takes at most one place (R642 to R645). -/

namespace Sys2Proof.Machine

theorem State.Recorded.congr {s t : State} {code src p0 p1 p2 : Nat} (h : s.Recorded code src p0 p1 p2) (e : t.rcd = s.rcd) :
    t.Recorded code src p0 p1 p2 := by
  unfold State.Recorded at *
  rw [e]
  exact h

@[simp] theorem Recorder.advance_ring (r : Recorder) : r.advance.ring = r.ring := by
  unfold Recorder.advance
  simp only []
  split <;> rfl

/-- An accepted record is in the ring. -/
theorem State.accept_recorded (s : State) (code src p0 p1 p2 : Nat) (a : Bool) : (s.accept code src p0 p1 p2 a).Recorded code src p0 p1 p2 := by
  unfold State.accept State.Recorded
  exact ⟨_, List.mem_cons_self .., rfl, rfl, rfl, rfl, rfl⟩

/-- What is held stays held when a record is accepted. -/
theorem State.accept_keeps (s : State) (code src p0 p1 p2 : Nat) (a : Bool) {c' s' q0 q1 q2 : Nat} (h : s.Recorded c' s' q0 q1 q2) :
    (s.accept code src p0 p1 p2 a).Recorded c' s' q0 q1 q2 := by
  obtain ⟨r, hr, h⟩ := h
  unfold State.accept State.Recorded
  exact ⟨r, List.mem_cons_of_mem _ hr, h⟩

theorem State.eventAon_recorded (s : State) (code p0 p1 p2 : Nat) : (s.eventAon code p0 p1 p2).Recorded code 0xFFFF p0 p1 p2 :=
  s.accept_recorded ..

theorem State.eventAon_keeps (s : State) (code p0 p1 p2 : Nat) {c' s' q0 q1 q2 : Nat} (h : s.Recorded c' s' q0 q1 q2) :
    (s.eventAon code p0 p1 p2).Recorded c' s' q0 q1 q2 := s.accept_keeps _ _ _ _ _ _ h

/-- A record offered while the pending area has room is held: accepted, or merged into the last one, which equals it (R644, R645). -/
theorem State.offer_recorded (s : State) (code src p0 p1 p2 : Nat) (h : s.rcd.waitingCount < 32768) :
    (s.offer code src p0 p1 p2).Recorded code src p0 p1 p2 := by
  unfold State.offer
  split
  · next hm =>
    unfold State.merges Recorder.last at hm
    unfold State.Recorded Recorder.mergeLast
    cases hl : s.rcd.ring with
    | nil => simp [hl] at hm
    | cons x t =>
      simp only [hl, List.head?_cons, Bool.and_eq_true, beq_iff_eq] at hm
      refine ⟨_, List.mem_cons_self .., ?_⟩
      simp [hm.1.1.1.1.1.1.1.1, hm.1.1.1.1.1.1.1.2, hm.1.1.1.1.1.1.2, hm.1.1.1.1.1.2, hm.1.1.1.1.2]
  · rw [if_neg (by omega)]
    exact s.accept_recorded ..

/-- What is held stays held when a record is offered. -/
theorem State.offer_keeps (s : State) (code src p0 p1 p2 : Nat) {c' s' q0 q1 q2 : Nat} (h : s.Recorded c' s' q0 q1 q2) :
    (s.offer code src p0 p1 p2).Recorded c' s' q0 q1 q2 := by
  unfold State.offer
  split
  · obtain ⟨r, hr, h⟩ := h
    unfold State.Recorded Recorder.mergeLast
    cases hl : s.rcd.ring with
    | nil => rw [hl] at hr; cases hr
    | cons x t =>
      rw [hl] at hr
      rcases List.mem_cons.1 hr with rfl | hr
      · exact ⟨_, List.mem_cons_self .., h⟩
      · exact ⟨r, List.mem_cons_of_mem _ hr, h⟩
  · split
    · exact State.Recorded.congr (s := s) (by exact h) rfl |>.elim (fun r hr => ⟨r, hr⟩)
    · exact s.accept_keeps _ _ _ _ _ _ h

theorem State.event_recorded (s : State) (code p0 p1 p2 : Nat) (h : s.rcd.waitingCount < 32768) :
    (s.event code p0 p1 p2).Recorded code 0xFFFF p0 p1 p2 := s.offer_recorded _ _ _ _ _ h

theorem State.event_keeps (s : State) (code p0 p1 p2 : Nat) {c' s' q0 q1 q2 : Nat} (h : s.Recorded c' s' q0 q1 q2) :
    (s.event code p0 p1 p2).Recorded c' s' q0 q1 q2 := s.offer_keeps _ _ _ _ _ h

theorem State.eventOf_recorded (s : State) (code src p0 p1 p2 : Nat) (h : s.rcd.waitingCount < 32768) :
    (s.eventOf code src p0 p1 p2).Recorded code src p0 p1 p2 := s.offer_recorded _ _ _ _ _ h

theorem State.eventOf_keeps (s : State) (code src p0 p1 p2 : Nat) {c' s' q0 q1 q2 : Nat} (h : s.Recorded c' s' q0 q1 q2) :
    (s.eventOf code src p0 p1 p2).Recorded c' s' q0 q1 q2 := s.offer_keeps _ _ _ _ _ h

/-- A record takes at most one place of the pending area. -/
theorem State.offer_waiting (s : State) (code src p0 p1 p2 : Nat) : (s.offer code src p0 p1 p2).rcd.waitingCount ≤ s.rcd.waitingCount + 1 := by
  unfold State.offer
  split
  · unfold Recorder.waitingCount Recorder.mergeLast
    cases hl : s.rcd.ring with
    | nil => simp [hl]
    | cons x t =>
      simp only [List.filter_cons]
      cases x.waiting <;> simp
  · split
    · exact Nat.le_succ _
    · unfold State.accept State.acceptAt Recorder.waitingCount
      simp

theorem State.event_waiting (s : State) (code p0 p1 p2 : Nat) : (s.event code p0 p1 p2).rcd.waitingCount ≤ s.rcd.waitingCount + 1 :=
  s.offer_waiting ..

theorem State.eventOf_waiting (s : State) (code src p0 p1 p2 : Nat) : (s.eventOf code src p0 p1 p2).rcd.waitingCount ≤ s.rcd.waitingCount + 1 :=
  s.offer_waiting ..

end Sys2Proof.Machine
end

