-- ==== Sys2Proof/Laws/Setters.lean ====
section
/-! SUPPORT. What a change of one unit's own state leaves as it was, field by field, and what the unit then holds. -/

namespace Sys2Proof.Machine

@[simp] theorem State.setPtAux_pending (s : State) (p : Nat) (a : PtAux) : (s.setPtAux p a).pending = s.pending := rfl
@[simp] theorem State.setPtAux_out (s : State) (p : Nat) (a : PtAux) : (s.setPtAux p a).out = s.out := rfl
@[simp] theorem State.setPtAux_clk (s : State) (p : Nat) (a : PtAux) : (s.setPtAux p a).clk = s.clk := rfl
@[simp] theorem State.setPtAux_freeCtr (s : State) (p : Nat) (a : PtAux) : (s.setPtAux p a).freeCtr = s.freeCtr := rfl
@[simp] theorem State.setPtAux_mode (s : State) (p : Nat) (a : PtAux) : (s.setPtAux p a).mode = s.mode := rfl
@[simp] theorem State.setPtAux_objs (s : State) (p : Nat) (a : PtAux) : (s.setPtAux p a).objs = s.objs := rfl
@[simp] theorem State.setPtAux_blobs (s : State) (p : Nat) (a : PtAux) : (s.setPtAux p a).blobs = s.blobs := rfl
@[simp] theorem State.setPtAux_rcd (s : State) (p : Nat) (a : PtAux) : (s.setPtAux p a).rcd = s.rcd := rfl
@[simp] theorem State.setPtAux_frz (s : State) (p : Nat) (a : PtAux) : (s.setPtAux p a).frz = s.frz := rfl
@[simp] theorem State.setPtAux_pow (s : State) (p : Nat) (a : PtAux) : (s.setPtAux p a).pow = s.pow := rfl
@[simp] theorem State.setPtAux_rst (s : State) (p : Nat) (a : PtAux) : (s.setPtAux p a).rst = s.rst := rfl
@[simp] theorem State.setPtAux_tb (s : State) (p : Nat) (a : PtAux) : (s.setPtAux p a).tb = s.tb := rfl
@[simp] theorem State.setPtAux_launches (s : State) (p : Nat) (a : PtAux) : (s.setPtAux p a).launches = s.launches := rfl
@[simp] theorem State.setPtAux_launchSeq (s : State) (p : Nat) (a : PtAux) : (s.setPtAux p a).launchSeq = s.launchSeq := rfl
@[simp] theorem State.setPtAux_acc (s : State) (p : Nat) (a : PtAux) : (s.setPtAux p a).acc = s.acc := rfl
@[simp] theorem State.setPtAux_tw (s : State) (p : Nat) (a : PtAux) : (s.setPtAux p a).tw = s.tw := rfl
@[simp] theorem State.setPtAux_cfgValid (s : State) (p : Nat) (a : PtAux) : (s.setPtAux p a).cfgValid = s.cfgValid := rfl
@[simp] theorem State.setPtAux_testQueue (s : State) (p : Nat) (a : PtAux) : (s.setPtAux p a).testQueue = s.testQueue := rfl
@[simp] theorem State.setPtAux_testsOn (s : State) (p : Nat) (a : PtAux) : (s.setPtAux p a).testsOn = s.testsOn := rfl
@[simp] theorem State.setPtAux_fio (s : State) (p : Nat) (a : PtAux) : (s.setPtAux p a).fio = s.fio := rfl
@[simp] theorem State.setPtAux_mem (s : State) (p : Nat) (a : PtAux) : (s.setPtAux p a).mem = s.mem := rfl
@[simp] theorem State.setPtAux_saf (s : State) (p : Nat) (a : PtAux) : (s.setPtAux p a).saf = s.saf := rfl
@[simp] theorem State.setPtAux_can (s : State) (p : Nat) (a : PtAux) : (s.setPtAux p a).can = s.can := rfl
@[simp] theorem State.setPtAux_pos (s : State) (p : Nat) (a : PtAux) : (s.setPtAux p a).pos = s.pos := rfl
@[simp] theorem State.setPtAux_emits (s : State) (p : Nat) (a : PtAux) : (s.setPtAux p a).emits = s.emits := rfl
@[simp] theorem State.setPtAux_loops (s : State) (p : Nat) (a : PtAux) : (s.setPtAux p a).loops = s.loops := rfl
@[simp] theorem State.setPtAux_grps (s : State) (p : Nat) (a : PtAux) : (s.setPtAux p a).grps = s.grps := rfl
@[simp] theorem State.setPtAux_doors (s : State) (p : Nat) (a : PtAux) : (s.setPtAux p a).doors = s.doors := rfl
@[simp] theorem State.setPtAux_met (s : State) (p : Nat) (a : PtAux) : (s.setPtAux p a).met = s.met := rfl
@[simp] theorem State.setPtAux_dsp (s : State) (p : Nat) (a : PtAux) : (s.setPtAux p a).dsp = s.dsp := rfl
@[simp] theorem State.get_setPtAux (s : State) (p : Nat) (a : PtAux) (z : Key) : (s.setPtAux p a).get z = s.get z := rfl
@[simp] theorem State.blob_setPtAux (s : State) (p : Nat) (a : PtAux) (z : BKey) : (s.setPtAux p a).blob z = s.blob z := rfl

@[simp] theorem State.markSubs_pending (s : State) (p sub : Nat) : (s.markSubs p sub).pending = s.pending := rfl
@[simp] theorem State.markSubs_out (s : State) (p sub : Nat) : (s.markSubs p sub).out = s.out := rfl
@[simp] theorem State.markSubs_clk (s : State) (p sub : Nat) : (s.markSubs p sub).clk = s.clk := rfl
@[simp] theorem State.markSubs_freeCtr (s : State) (p sub : Nat) : (s.markSubs p sub).freeCtr = s.freeCtr := rfl
@[simp] theorem State.markSubs_mode (s : State) (p sub : Nat) : (s.markSubs p sub).mode = s.mode := rfl
@[simp] theorem State.markSubs_objs (s : State) (p sub : Nat) : (s.markSubs p sub).objs = s.objs := rfl
@[simp] theorem State.markSubs_blobs (s : State) (p sub : Nat) : (s.markSubs p sub).blobs = s.blobs := rfl
@[simp] theorem State.markSubs_rcd (s : State) (p sub : Nat) : (s.markSubs p sub).rcd = s.rcd := rfl
@[simp] theorem State.markSubs_frz (s : State) (p sub : Nat) : (s.markSubs p sub).frz = s.frz := rfl
@[simp] theorem State.markSubs_pow (s : State) (p sub : Nat) : (s.markSubs p sub).pow = s.pow := rfl
@[simp] theorem State.markSubs_rst (s : State) (p sub : Nat) : (s.markSubs p sub).rst = s.rst := rfl
@[simp] theorem State.markSubs_tb (s : State) (p sub : Nat) : (s.markSubs p sub).tb = s.tb := rfl
@[simp] theorem State.markSubs_launches (s : State) (p sub : Nat) : (s.markSubs p sub).launches = s.launches := rfl
@[simp] theorem State.markSubs_launchSeq (s : State) (p sub : Nat) : (s.markSubs p sub).launchSeq = s.launchSeq := rfl
@[simp] theorem State.markSubs_acc (s : State) (p sub : Nat) : (s.markSubs p sub).acc = s.acc := rfl
@[simp] theorem State.markSubs_tw (s : State) (p sub : Nat) : (s.markSubs p sub).tw = s.tw := rfl
@[simp] theorem State.markSubs_cfgValid (s : State) (p sub : Nat) : (s.markSubs p sub).cfgValid = s.cfgValid := rfl
@[simp] theorem State.markSubs_testQueue (s : State) (p sub : Nat) : (s.markSubs p sub).testQueue = s.testQueue := rfl
@[simp] theorem State.markSubs_testsOn (s : State) (p sub : Nat) : (s.markSubs p sub).testsOn = s.testsOn := rfl
@[simp] theorem State.markSubs_fio (s : State) (p sub : Nat) : (s.markSubs p sub).fio = s.fio := rfl
@[simp] theorem State.markSubs_mem (s : State) (p sub : Nat) : (s.markSubs p sub).mem = s.mem := rfl
@[simp] theorem State.markSubs_saf (s : State) (p sub : Nat) : (s.markSubs p sub).saf = s.saf := rfl
@[simp] theorem State.markSubs_can (s : State) (p sub : Nat) : (s.markSubs p sub).can = s.can := rfl
@[simp] theorem State.markSubs_pos (s : State) (p sub : Nat) : (s.markSubs p sub).pos = s.pos := rfl
@[simp] theorem State.markSubs_emits (s : State) (p sub : Nat) : (s.markSubs p sub).emits = s.emits := rfl
@[simp] theorem State.markSubs_loops (s : State) (p sub : Nat) : (s.markSubs p sub).loops = s.loops := rfl
@[simp] theorem State.markSubs_grps (s : State) (p sub : Nat) : (s.markSubs p sub).grps = s.grps := rfl
@[simp] theorem State.markSubs_doors (s : State) (p sub : Nat) : (s.markSubs p sub).doors = s.doors := rfl
@[simp] theorem State.markSubs_met (s : State) (p sub : Nat) : (s.markSubs p sub).met = s.met := rfl
@[simp] theorem State.markSubs_dsp (s : State) (p sub : Nat) : (s.markSubs p sub).dsp = s.dsp := rfl
@[simp] theorem State.get_markSubs (s : State) (p sub : Nat) (z : Key) : (s.markSubs p sub).get z = s.get z := rfl
@[simp] theorem State.blob_markSubs (s : State) (p sub : Nat) (z : BKey) : (s.markSubs p sub).blob z = s.blob z := rfl

@[simp] theorem State.setItem_pending (s : State) (i : Item) : (s.setItem i).pending = s.pending := rfl
@[simp] theorem State.setItem_out (s : State) (i : Item) : (s.setItem i).out = s.out := rfl
@[simp] theorem State.setItem_clk (s : State) (i : Item) : (s.setItem i).clk = s.clk := rfl
@[simp] theorem State.setItem_freeCtr (s : State) (i : Item) : (s.setItem i).freeCtr = s.freeCtr := rfl
@[simp] theorem State.setItem_mode (s : State) (i : Item) : (s.setItem i).mode = s.mode := rfl
@[simp] theorem State.setItem_objs (s : State) (i : Item) : (s.setItem i).objs = s.objs := rfl
@[simp] theorem State.setItem_blobs (s : State) (i : Item) : (s.setItem i).blobs = s.blobs := rfl
@[simp] theorem State.setItem_rcd (s : State) (i : Item) : (s.setItem i).rcd = s.rcd := rfl
@[simp] theorem State.setItem_frz (s : State) (i : Item) : (s.setItem i).frz = s.frz := rfl
@[simp] theorem State.setItem_pow (s : State) (i : Item) : (s.setItem i).pow = s.pow := rfl
@[simp] theorem State.setItem_rst (s : State) (i : Item) : (s.setItem i).rst = s.rst := rfl
@[simp] theorem State.setItem_tb (s : State) (i : Item) : (s.setItem i).tb = s.tb := rfl
@[simp] theorem State.setItem_launches (s : State) (i : Item) : (s.setItem i).launches = s.launches := rfl
@[simp] theorem State.setItem_launchSeq (s : State) (i : Item) : (s.setItem i).launchSeq = s.launchSeq := rfl
@[simp] theorem State.setItem_acc (s : State) (i : Item) : (s.setItem i).acc = s.acc := rfl
@[simp] theorem State.setItem_tw (s : State) (i : Item) : (s.setItem i).tw = s.tw := rfl
@[simp] theorem State.setItem_cfgValid (s : State) (i : Item) : (s.setItem i).cfgValid = s.cfgValid := rfl
@[simp] theorem State.setItem_testQueue (s : State) (i : Item) : (s.setItem i).testQueue = s.testQueue := rfl
@[simp] theorem State.setItem_testsOn (s : State) (i : Item) : (s.setItem i).testsOn = s.testsOn := rfl
@[simp] theorem State.setItem_fio (s : State) (i : Item) : (s.setItem i).fio = s.fio := rfl
@[simp] theorem State.setItem_mem (s : State) (i : Item) : (s.setItem i).mem = s.mem := rfl
@[simp] theorem State.setItem_saf (s : State) (i : Item) : (s.setItem i).saf = s.saf := rfl
@[simp] theorem State.setItem_can (s : State) (i : Item) : (s.setItem i).can = s.can := rfl
@[simp] theorem State.setItem_pos (s : State) (i : Item) : (s.setItem i).pos = s.pos := rfl
@[simp] theorem State.setItem_emits (s : State) (i : Item) : (s.setItem i).emits = s.emits := rfl
@[simp] theorem State.setItem_loops (s : State) (i : Item) : (s.setItem i).loops = s.loops := rfl
@[simp] theorem State.setItem_grps (s : State) (i : Item) : (s.setItem i).grps = s.grps := rfl
@[simp] theorem State.setItem_doors (s : State) (i : Item) : (s.setItem i).doors = s.doors := rfl
@[simp] theorem State.setItem_met (s : State) (i : Item) : (s.setItem i).met = s.met := rfl
@[simp] theorem State.setItem_dsp (s : State) (i : Item) : (s.setItem i).dsp = s.dsp := rfl
@[simp] theorem State.get_setItem (s : State) (i : Item) (z : Key) : (s.setItem i).get z = s.get z := rfl
@[simp] theorem State.blob_setItem (s : State) (i : Item) (z : BKey) : (s.setItem i).blob z = s.blob z := rfl

@[simp] theorem State.setHealthy_pending (s : State) (a : Nat) (b : Bool) : (s.setHealthy a b).pending = s.pending := rfl
@[simp] theorem State.setHealthy_out (s : State) (a : Nat) (b : Bool) : (s.setHealthy a b).out = s.out := rfl
@[simp] theorem State.setHealthy_clk (s : State) (a : Nat) (b : Bool) : (s.setHealthy a b).clk = s.clk := rfl
@[simp] theorem State.setHealthy_freeCtr (s : State) (a : Nat) (b : Bool) : (s.setHealthy a b).freeCtr = s.freeCtr := rfl
@[simp] theorem State.setHealthy_mode (s : State) (a : Nat) (b : Bool) : (s.setHealthy a b).mode = s.mode := rfl
@[simp] theorem State.setHealthy_objs (s : State) (a : Nat) (b : Bool) : (s.setHealthy a b).objs = s.objs := rfl
@[simp] theorem State.setHealthy_blobs (s : State) (a : Nat) (b : Bool) : (s.setHealthy a b).blobs = s.blobs := rfl
@[simp] theorem State.setHealthy_rcd (s : State) (a : Nat) (b : Bool) : (s.setHealthy a b).rcd = s.rcd := rfl
@[simp] theorem State.setHealthy_frz (s : State) (a : Nat) (b : Bool) : (s.setHealthy a b).frz = s.frz := rfl
@[simp] theorem State.setHealthy_pow (s : State) (a : Nat) (b : Bool) : (s.setHealthy a b).pow = s.pow := rfl
@[simp] theorem State.setHealthy_rst (s : State) (a : Nat) (b : Bool) : (s.setHealthy a b).rst = s.rst := rfl
@[simp] theorem State.setHealthy_tb (s : State) (a : Nat) (b : Bool) : (s.setHealthy a b).tb = s.tb := rfl
@[simp] theorem State.setHealthy_launches (s : State) (a : Nat) (b : Bool) : (s.setHealthy a b).launches = s.launches := rfl
@[simp] theorem State.setHealthy_launchSeq (s : State) (a : Nat) (b : Bool) : (s.setHealthy a b).launchSeq = s.launchSeq := rfl
@[simp] theorem State.setHealthy_acc (s : State) (a : Nat) (b : Bool) : (s.setHealthy a b).acc = s.acc := rfl
@[simp] theorem State.setHealthy_tw (s : State) (a : Nat) (b : Bool) : (s.setHealthy a b).tw = s.tw := rfl
@[simp] theorem State.setHealthy_cfgValid (s : State) (a : Nat) (b : Bool) : (s.setHealthy a b).cfgValid = s.cfgValid := rfl
@[simp] theorem State.setHealthy_testQueue (s : State) (a : Nat) (b : Bool) : (s.setHealthy a b).testQueue = s.testQueue := rfl
@[simp] theorem State.setHealthy_testsOn (s : State) (a : Nat) (b : Bool) : (s.setHealthy a b).testsOn = s.testsOn := rfl
@[simp] theorem State.setHealthy_fio (s : State) (a : Nat) (b : Bool) : (s.setHealthy a b).fio = s.fio := rfl
@[simp] theorem State.setHealthy_mem (s : State) (a : Nat) (b : Bool) : (s.setHealthy a b).mem = s.mem := rfl
@[simp] theorem State.setHealthy_saf (s : State) (a : Nat) (b : Bool) : (s.setHealthy a b).saf = s.saf := rfl
@[simp] theorem State.setHealthy_can (s : State) (a : Nat) (b : Bool) : (s.setHealthy a b).can = s.can := rfl
@[simp] theorem State.setHealthy_pos (s : State) (a : Nat) (b : Bool) : (s.setHealthy a b).pos = s.pos := rfl
@[simp] theorem State.setHealthy_emits (s : State) (a : Nat) (b : Bool) : (s.setHealthy a b).emits = s.emits := rfl
@[simp] theorem State.setHealthy_loops (s : State) (a : Nat) (b : Bool) : (s.setHealthy a b).loops = s.loops := rfl
@[simp] theorem State.setHealthy_grps (s : State) (a : Nat) (b : Bool) : (s.setHealthy a b).grps = s.grps := rfl
@[simp] theorem State.setHealthy_doors (s : State) (a : Nat) (b : Bool) : (s.setHealthy a b).doors = s.doors := rfl
@[simp] theorem State.setHealthy_met (s : State) (a : Nat) (b : Bool) : (s.setHealthy a b).met = s.met := rfl
@[simp] theorem State.setHealthy_dsp (s : State) (a : Nat) (b : Bool) : (s.setHealthy a b).dsp = s.dsp := rfl
@[simp] theorem State.get_setHealthy (s : State) (a : Nat) (b : Bool) (z : Key) : (s.setHealthy a b).get z = s.get z := rfl
@[simp] theorem State.blob_setHealthy (s : State) (a : Nat) (b : Bool) (z : BKey) : (s.setHealthy a b).blob z = s.blob z := rfl

@[simp] theorem State.setCan_pending (s : State) (c : Nat) (x : CanCh) : (s.setCan c x).pending = s.pending := rfl
@[simp] theorem State.setCan_out (s : State) (c : Nat) (x : CanCh) : (s.setCan c x).out = s.out := rfl
@[simp] theorem State.setCan_clk (s : State) (c : Nat) (x : CanCh) : (s.setCan c x).clk = s.clk := rfl
@[simp] theorem State.setCan_freeCtr (s : State) (c : Nat) (x : CanCh) : (s.setCan c x).freeCtr = s.freeCtr := rfl
@[simp] theorem State.setCan_mode (s : State) (c : Nat) (x : CanCh) : (s.setCan c x).mode = s.mode := rfl
@[simp] theorem State.setCan_objs (s : State) (c : Nat) (x : CanCh) : (s.setCan c x).objs = s.objs := rfl
@[simp] theorem State.setCan_blobs (s : State) (c : Nat) (x : CanCh) : (s.setCan c x).blobs = s.blobs := rfl
@[simp] theorem State.setCan_rcd (s : State) (c : Nat) (x : CanCh) : (s.setCan c x).rcd = s.rcd := rfl
@[simp] theorem State.setCan_frz (s : State) (c : Nat) (x : CanCh) : (s.setCan c x).frz = s.frz := rfl
@[simp] theorem State.setCan_pow (s : State) (c : Nat) (x : CanCh) : (s.setCan c x).pow = s.pow := rfl
@[simp] theorem State.setCan_rst (s : State) (c : Nat) (x : CanCh) : (s.setCan c x).rst = s.rst := rfl
@[simp] theorem State.setCan_tb (s : State) (c : Nat) (x : CanCh) : (s.setCan c x).tb = s.tb := rfl
@[simp] theorem State.setCan_launches (s : State) (c : Nat) (x : CanCh) : (s.setCan c x).launches = s.launches := rfl
@[simp] theorem State.setCan_launchSeq (s : State) (c : Nat) (x : CanCh) : (s.setCan c x).launchSeq = s.launchSeq := rfl
@[simp] theorem State.setCan_acc (s : State) (c : Nat) (x : CanCh) : (s.setCan c x).acc = s.acc := rfl
@[simp] theorem State.setCan_pts (s : State) (c : Nat) (x : CanCh) : (s.setCan c x).pts = s.pts := rfl
@[simp] theorem State.setCan_tw (s : State) (c : Nat) (x : CanCh) : (s.setCan c x).tw = s.tw := rfl
@[simp] theorem State.setCan_cfgValid (s : State) (c : Nat) (x : CanCh) : (s.setCan c x).cfgValid = s.cfgValid := rfl
@[simp] theorem State.setCan_testQueue (s : State) (c : Nat) (x : CanCh) : (s.setCan c x).testQueue = s.testQueue := rfl
@[simp] theorem State.setCan_testsOn (s : State) (c : Nat) (x : CanCh) : (s.setCan c x).testsOn = s.testsOn := rfl
@[simp] theorem State.setCan_fio (s : State) (c : Nat) (x : CanCh) : (s.setCan c x).fio = s.fio := rfl
@[simp] theorem State.setCan_mem (s : State) (c : Nat) (x : CanCh) : (s.setCan c x).mem = s.mem := rfl
@[simp] theorem State.setCan_saf (s : State) (c : Nat) (x : CanCh) : (s.setCan c x).saf = s.saf := rfl
@[simp] theorem State.setCan_pos (s : State) (c : Nat) (x : CanCh) : (s.setCan c x).pos = s.pos := rfl
@[simp] theorem State.setCan_emits (s : State) (c : Nat) (x : CanCh) : (s.setCan c x).emits = s.emits := rfl
@[simp] theorem State.setCan_loops (s : State) (c : Nat) (x : CanCh) : (s.setCan c x).loops = s.loops := rfl
@[simp] theorem State.setCan_grps (s : State) (c : Nat) (x : CanCh) : (s.setCan c x).grps = s.grps := rfl
@[simp] theorem State.setCan_doors (s : State) (c : Nat) (x : CanCh) : (s.setCan c x).doors = s.doors := rfl
@[simp] theorem State.setCan_met (s : State) (c : Nat) (x : CanCh) : (s.setCan c x).met = s.met := rfl
@[simp] theorem State.setCan_dsp (s : State) (c : Nat) (x : CanCh) : (s.setCan c x).dsp = s.dsp := rfl
@[simp] theorem State.get_setCan (s : State) (c : Nat) (x : CanCh) (z : Key) : (s.setCan c x).get z = s.get z := rfl
@[simp] theorem State.blob_setCan (s : State) (c : Nat) (x : CanCh) (z : BKey) : (s.setCan c x).blob z = s.blob z := rfl

@[simp] theorem State.setCar_pending (s : State) (n : Nat) (x : CarRt) : (s.setCar n x).pending = s.pending := rfl
@[simp] theorem State.setCar_out (s : State) (n : Nat) (x : CarRt) : (s.setCar n x).out = s.out := rfl
@[simp] theorem State.setCar_clk (s : State) (n : Nat) (x : CarRt) : (s.setCar n x).clk = s.clk := rfl
@[simp] theorem State.setCar_freeCtr (s : State) (n : Nat) (x : CarRt) : (s.setCar n x).freeCtr = s.freeCtr := rfl
@[simp] theorem State.setCar_mode (s : State) (n : Nat) (x : CarRt) : (s.setCar n x).mode = s.mode := rfl
@[simp] theorem State.setCar_objs (s : State) (n : Nat) (x : CarRt) : (s.setCar n x).objs = s.objs := rfl
@[simp] theorem State.setCar_blobs (s : State) (n : Nat) (x : CarRt) : (s.setCar n x).blobs = s.blobs := rfl
@[simp] theorem State.setCar_rcd (s : State) (n : Nat) (x : CarRt) : (s.setCar n x).rcd = s.rcd := rfl
@[simp] theorem State.setCar_frz (s : State) (n : Nat) (x : CarRt) : (s.setCar n x).frz = s.frz := rfl
@[simp] theorem State.setCar_pow (s : State) (n : Nat) (x : CarRt) : (s.setCar n x).pow = s.pow := rfl
@[simp] theorem State.setCar_rst (s : State) (n : Nat) (x : CarRt) : (s.setCar n x).rst = s.rst := rfl
@[simp] theorem State.setCar_tb (s : State) (n : Nat) (x : CarRt) : (s.setCar n x).tb = s.tb := rfl
@[simp] theorem State.setCar_launches (s : State) (n : Nat) (x : CarRt) : (s.setCar n x).launches = s.launches := rfl
@[simp] theorem State.setCar_launchSeq (s : State) (n : Nat) (x : CarRt) : (s.setCar n x).launchSeq = s.launchSeq := rfl
@[simp] theorem State.setCar_acc (s : State) (n : Nat) (x : CarRt) : (s.setCar n x).acc = s.acc := rfl
@[simp] theorem State.setCar_pts (s : State) (n : Nat) (x : CarRt) : (s.setCar n x).pts = s.pts := rfl
@[simp] theorem State.setCar_tw (s : State) (n : Nat) (x : CarRt) : (s.setCar n x).tw = s.tw := rfl
@[simp] theorem State.setCar_cfgValid (s : State) (n : Nat) (x : CarRt) : (s.setCar n x).cfgValid = s.cfgValid := rfl
@[simp] theorem State.setCar_testQueue (s : State) (n : Nat) (x : CarRt) : (s.setCar n x).testQueue = s.testQueue := rfl
@[simp] theorem State.setCar_testsOn (s : State) (n : Nat) (x : CarRt) : (s.setCar n x).testsOn = s.testsOn := rfl
@[simp] theorem State.setCar_fio (s : State) (n : Nat) (x : CarRt) : (s.setCar n x).fio = s.fio := rfl
@[simp] theorem State.setCar_mem (s : State) (n : Nat) (x : CarRt) : (s.setCar n x).mem = s.mem := rfl
@[simp] theorem State.setCar_saf (s : State) (n : Nat) (x : CarRt) : (s.setCar n x).saf = s.saf := rfl
@[simp] theorem State.setCar_can (s : State) (n : Nat) (x : CarRt) : (s.setCar n x).can = s.can := rfl
@[simp] theorem State.setCar_pos (s : State) (n : Nat) (x : CarRt) : (s.setCar n x).pos = s.pos := rfl
@[simp] theorem State.setCar_emits (s : State) (n : Nat) (x : CarRt) : (s.setCar n x).emits = s.emits := rfl
@[simp] theorem State.setCar_loops (s : State) (n : Nat) (x : CarRt) : (s.setCar n x).loops = s.loops := rfl
@[simp] theorem State.setCar_grps (s : State) (n : Nat) (x : CarRt) : (s.setCar n x).grps = s.grps := rfl
@[simp] theorem State.setCar_doors (s : State) (n : Nat) (x : CarRt) : (s.setCar n x).doors = s.doors := rfl
@[simp] theorem State.setCar_met (s : State) (n : Nat) (x : CarRt) : (s.setCar n x).met = s.met := rfl
@[simp] theorem State.get_setCar (s : State) (n : Nat) (x : CarRt) (z : Key) : (s.setCar n x).get z = s.get z := rfl
@[simp] theorem State.blob_setCar (s : State) (n : Nat) (x : CarRt) (z : BKey) : (s.setCar n x).blob z = s.blob z := rfl

@[simp] theorem State.setDoor_pending (s : State) (k : Nat) (x : DoorRt) : (s.setDoor k x).pending = s.pending := rfl
@[simp] theorem State.setDoor_out (s : State) (k : Nat) (x : DoorRt) : (s.setDoor k x).out = s.out := rfl
@[simp] theorem State.setDoor_clk (s : State) (k : Nat) (x : DoorRt) : (s.setDoor k x).clk = s.clk := rfl
@[simp] theorem State.setDoor_freeCtr (s : State) (k : Nat) (x : DoorRt) : (s.setDoor k x).freeCtr = s.freeCtr := rfl
@[simp] theorem State.setDoor_mode (s : State) (k : Nat) (x : DoorRt) : (s.setDoor k x).mode = s.mode := rfl
@[simp] theorem State.setDoor_objs (s : State) (k : Nat) (x : DoorRt) : (s.setDoor k x).objs = s.objs := rfl
@[simp] theorem State.setDoor_blobs (s : State) (k : Nat) (x : DoorRt) : (s.setDoor k x).blobs = s.blobs := rfl
@[simp] theorem State.setDoor_rcd (s : State) (k : Nat) (x : DoorRt) : (s.setDoor k x).rcd = s.rcd := rfl
@[simp] theorem State.setDoor_frz (s : State) (k : Nat) (x : DoorRt) : (s.setDoor k x).frz = s.frz := rfl
@[simp] theorem State.setDoor_pow (s : State) (k : Nat) (x : DoorRt) : (s.setDoor k x).pow = s.pow := rfl
@[simp] theorem State.setDoor_rst (s : State) (k : Nat) (x : DoorRt) : (s.setDoor k x).rst = s.rst := rfl
@[simp] theorem State.setDoor_tb (s : State) (k : Nat) (x : DoorRt) : (s.setDoor k x).tb = s.tb := rfl
@[simp] theorem State.setDoor_launches (s : State) (k : Nat) (x : DoorRt) : (s.setDoor k x).launches = s.launches := rfl
@[simp] theorem State.setDoor_launchSeq (s : State) (k : Nat) (x : DoorRt) : (s.setDoor k x).launchSeq = s.launchSeq := rfl
@[simp] theorem State.setDoor_acc (s : State) (k : Nat) (x : DoorRt) : (s.setDoor k x).acc = s.acc := rfl
@[simp] theorem State.setDoor_pts (s : State) (k : Nat) (x : DoorRt) : (s.setDoor k x).pts = s.pts := rfl
@[simp] theorem State.setDoor_tw (s : State) (k : Nat) (x : DoorRt) : (s.setDoor k x).tw = s.tw := rfl
@[simp] theorem State.setDoor_cfgValid (s : State) (k : Nat) (x : DoorRt) : (s.setDoor k x).cfgValid = s.cfgValid := rfl
@[simp] theorem State.setDoor_testQueue (s : State) (k : Nat) (x : DoorRt) : (s.setDoor k x).testQueue = s.testQueue := rfl
@[simp] theorem State.setDoor_testsOn (s : State) (k : Nat) (x : DoorRt) : (s.setDoor k x).testsOn = s.testsOn := rfl
@[simp] theorem State.setDoor_fio (s : State) (k : Nat) (x : DoorRt) : (s.setDoor k x).fio = s.fio := rfl
@[simp] theorem State.setDoor_mem (s : State) (k : Nat) (x : DoorRt) : (s.setDoor k x).mem = s.mem := rfl
@[simp] theorem State.setDoor_saf (s : State) (k : Nat) (x : DoorRt) : (s.setDoor k x).saf = s.saf := rfl
@[simp] theorem State.setDoor_can (s : State) (k : Nat) (x : DoorRt) : (s.setDoor k x).can = s.can := rfl
@[simp] theorem State.setDoor_pos (s : State) (k : Nat) (x : DoorRt) : (s.setDoor k x).pos = s.pos := rfl
@[simp] theorem State.setDoor_emits (s : State) (k : Nat) (x : DoorRt) : (s.setDoor k x).emits = s.emits := rfl
@[simp] theorem State.setDoor_loops (s : State) (k : Nat) (x : DoorRt) : (s.setDoor k x).loops = s.loops := rfl
@[simp] theorem State.setDoor_grps (s : State) (k : Nat) (x : DoorRt) : (s.setDoor k x).grps = s.grps := rfl
@[simp] theorem State.setDoor_met (s : State) (k : Nat) (x : DoorRt) : (s.setDoor k x).met = s.met := rfl
@[simp] theorem State.setDoor_dsp (s : State) (k : Nat) (x : DoorRt) : (s.setDoor k x).dsp = s.dsp := rfl
@[simp] theorem State.get_setDoor (s : State) (k : Nat) (x : DoorRt) (z : Key) : (s.setDoor k x).get z = s.get z := rfl
@[simp] theorem State.blob_setDoor (s : State) (k : Nat) (x : DoorRt) (z : BKey) : (s.setDoor k x).blob z = s.blob z := rfl

@[simp] theorem State.setPulse_pending (s : State) (x : Nat) (y : PulseRt) : (s.setPulse x y).pending = s.pending := rfl
@[simp] theorem State.setPulse_out (s : State) (x : Nat) (y : PulseRt) : (s.setPulse x y).out = s.out := rfl
@[simp] theorem State.setPulse_clk (s : State) (x : Nat) (y : PulseRt) : (s.setPulse x y).clk = s.clk := rfl
@[simp] theorem State.setPulse_freeCtr (s : State) (x : Nat) (y : PulseRt) : (s.setPulse x y).freeCtr = s.freeCtr := rfl
@[simp] theorem State.setPulse_mode (s : State) (x : Nat) (y : PulseRt) : (s.setPulse x y).mode = s.mode := rfl
@[simp] theorem State.setPulse_objs (s : State) (x : Nat) (y : PulseRt) : (s.setPulse x y).objs = s.objs := rfl
@[simp] theorem State.setPulse_blobs (s : State) (x : Nat) (y : PulseRt) : (s.setPulse x y).blobs = s.blobs := rfl
@[simp] theorem State.setPulse_rcd (s : State) (x : Nat) (y : PulseRt) : (s.setPulse x y).rcd = s.rcd := rfl
@[simp] theorem State.setPulse_frz (s : State) (x : Nat) (y : PulseRt) : (s.setPulse x y).frz = s.frz := rfl
@[simp] theorem State.setPulse_pow (s : State) (x : Nat) (y : PulseRt) : (s.setPulse x y).pow = s.pow := rfl
@[simp] theorem State.setPulse_rst (s : State) (x : Nat) (y : PulseRt) : (s.setPulse x y).rst = s.rst := rfl
@[simp] theorem State.setPulse_tb (s : State) (x : Nat) (y : PulseRt) : (s.setPulse x y).tb = s.tb := rfl
@[simp] theorem State.setPulse_launches (s : State) (x : Nat) (y : PulseRt) : (s.setPulse x y).launches = s.launches := rfl
@[simp] theorem State.setPulse_launchSeq (s : State) (x : Nat) (y : PulseRt) : (s.setPulse x y).launchSeq = s.launchSeq := rfl
@[simp] theorem State.setPulse_acc (s : State) (x : Nat) (y : PulseRt) : (s.setPulse x y).acc = s.acc := rfl
@[simp] theorem State.setPulse_pts (s : State) (x : Nat) (y : PulseRt) : (s.setPulse x y).pts = s.pts := rfl
@[simp] theorem State.setPulse_tw (s : State) (x : Nat) (y : PulseRt) : (s.setPulse x y).tw = s.tw := rfl
@[simp] theorem State.setPulse_cfgValid (s : State) (x : Nat) (y : PulseRt) : (s.setPulse x y).cfgValid = s.cfgValid := rfl
@[simp] theorem State.setPulse_testQueue (s : State) (x : Nat) (y : PulseRt) : (s.setPulse x y).testQueue = s.testQueue := rfl
@[simp] theorem State.setPulse_testsOn (s : State) (x : Nat) (y : PulseRt) : (s.setPulse x y).testsOn = s.testsOn := rfl
@[simp] theorem State.setPulse_fio (s : State) (x : Nat) (y : PulseRt) : (s.setPulse x y).fio = s.fio := rfl
@[simp] theorem State.setPulse_mem (s : State) (x : Nat) (y : PulseRt) : (s.setPulse x y).mem = s.mem := rfl
@[simp] theorem State.setPulse_saf (s : State) (x : Nat) (y : PulseRt) : (s.setPulse x y).saf = s.saf := rfl
@[simp] theorem State.setPulse_can (s : State) (x : Nat) (y : PulseRt) : (s.setPulse x y).can = s.can := rfl
@[simp] theorem State.setPulse_pos (s : State) (x : Nat) (y : PulseRt) : (s.setPulse x y).pos = s.pos := rfl
@[simp] theorem State.setPulse_emits (s : State) (x : Nat) (y : PulseRt) : (s.setPulse x y).emits = s.emits := rfl
@[simp] theorem State.setPulse_loops (s : State) (x : Nat) (y : PulseRt) : (s.setPulse x y).loops = s.loops := rfl
@[simp] theorem State.setPulse_grps (s : State) (x : Nat) (y : PulseRt) : (s.setPulse x y).grps = s.grps := rfl
@[simp] theorem State.setPulse_doors (s : State) (x : Nat) (y : PulseRt) : (s.setPulse x y).doors = s.doors := rfl
@[simp] theorem State.setPulse_dsp (s : State) (x : Nat) (y : PulseRt) : (s.setPulse x y).dsp = s.dsp := rfl
@[simp] theorem State.get_setPulse (s : State) (x : Nat) (y : PulseRt) (z : Key) : (s.setPulse x y).get z = s.get z := rfl
@[simp] theorem State.blob_setPulse (s : State) (x : Nat) (y : PulseRt) (z : BKey) : (s.setPulse x y).blob z = s.blob z := rfl

@[simp] theorem State.setMetCh_pending (s : State) (c : Nat) (x : MetCh) : (s.setMetCh c x).pending = s.pending := rfl
@[simp] theorem State.setMetCh_out (s : State) (c : Nat) (x : MetCh) : (s.setMetCh c x).out = s.out := rfl
@[simp] theorem State.setMetCh_clk (s : State) (c : Nat) (x : MetCh) : (s.setMetCh c x).clk = s.clk := rfl
@[simp] theorem State.setMetCh_freeCtr (s : State) (c : Nat) (x : MetCh) : (s.setMetCh c x).freeCtr = s.freeCtr := rfl
@[simp] theorem State.setMetCh_mode (s : State) (c : Nat) (x : MetCh) : (s.setMetCh c x).mode = s.mode := rfl
@[simp] theorem State.setMetCh_objs (s : State) (c : Nat) (x : MetCh) : (s.setMetCh c x).objs = s.objs := rfl
@[simp] theorem State.setMetCh_blobs (s : State) (c : Nat) (x : MetCh) : (s.setMetCh c x).blobs = s.blobs := rfl
@[simp] theorem State.setMetCh_rcd (s : State) (c : Nat) (x : MetCh) : (s.setMetCh c x).rcd = s.rcd := rfl
@[simp] theorem State.setMetCh_frz (s : State) (c : Nat) (x : MetCh) : (s.setMetCh c x).frz = s.frz := rfl
@[simp] theorem State.setMetCh_pow (s : State) (c : Nat) (x : MetCh) : (s.setMetCh c x).pow = s.pow := rfl
@[simp] theorem State.setMetCh_rst (s : State) (c : Nat) (x : MetCh) : (s.setMetCh c x).rst = s.rst := rfl
@[simp] theorem State.setMetCh_tb (s : State) (c : Nat) (x : MetCh) : (s.setMetCh c x).tb = s.tb := rfl
@[simp] theorem State.setMetCh_launches (s : State) (c : Nat) (x : MetCh) : (s.setMetCh c x).launches = s.launches := rfl
@[simp] theorem State.setMetCh_launchSeq (s : State) (c : Nat) (x : MetCh) : (s.setMetCh c x).launchSeq = s.launchSeq := rfl
@[simp] theorem State.setMetCh_acc (s : State) (c : Nat) (x : MetCh) : (s.setMetCh c x).acc = s.acc := rfl
@[simp] theorem State.setMetCh_pts (s : State) (c : Nat) (x : MetCh) : (s.setMetCh c x).pts = s.pts := rfl
@[simp] theorem State.setMetCh_tw (s : State) (c : Nat) (x : MetCh) : (s.setMetCh c x).tw = s.tw := rfl
@[simp] theorem State.setMetCh_cfgValid (s : State) (c : Nat) (x : MetCh) : (s.setMetCh c x).cfgValid = s.cfgValid := rfl
@[simp] theorem State.setMetCh_testQueue (s : State) (c : Nat) (x : MetCh) : (s.setMetCh c x).testQueue = s.testQueue := rfl
@[simp] theorem State.setMetCh_testsOn (s : State) (c : Nat) (x : MetCh) : (s.setMetCh c x).testsOn = s.testsOn := rfl
@[simp] theorem State.setMetCh_fio (s : State) (c : Nat) (x : MetCh) : (s.setMetCh c x).fio = s.fio := rfl
@[simp] theorem State.setMetCh_mem (s : State) (c : Nat) (x : MetCh) : (s.setMetCh c x).mem = s.mem := rfl
@[simp] theorem State.setMetCh_saf (s : State) (c : Nat) (x : MetCh) : (s.setMetCh c x).saf = s.saf := rfl
@[simp] theorem State.setMetCh_can (s : State) (c : Nat) (x : MetCh) : (s.setMetCh c x).can = s.can := rfl
@[simp] theorem State.setMetCh_pos (s : State) (c : Nat) (x : MetCh) : (s.setMetCh c x).pos = s.pos := rfl
@[simp] theorem State.setMetCh_emits (s : State) (c : Nat) (x : MetCh) : (s.setMetCh c x).emits = s.emits := rfl
@[simp] theorem State.setMetCh_loops (s : State) (c : Nat) (x : MetCh) : (s.setMetCh c x).loops = s.loops := rfl
@[simp] theorem State.setMetCh_grps (s : State) (c : Nat) (x : MetCh) : (s.setMetCh c x).grps = s.grps := rfl
@[simp] theorem State.setMetCh_doors (s : State) (c : Nat) (x : MetCh) : (s.setMetCh c x).doors = s.doors := rfl
@[simp] theorem State.setMetCh_dsp (s : State) (c : Nat) (x : MetCh) : (s.setMetCh c x).dsp = s.dsp := rfl
@[simp] theorem State.get_setMetCh (s : State) (c : Nat) (x : MetCh) (z : Key) : (s.setMetCh c x).get z = s.get z := rfl
@[simp] theorem State.blob_setMetCh (s : State) (c : Nat) (x : MetCh) (z : BKey) : (s.setMetCh c x).blob z = s.blob z := rfl

@[simp] theorem State.setMetV_pending (s : State) (c : Nat) (x : MetV) : (s.setMetV c x).pending = s.pending := rfl
@[simp] theorem State.setMetV_out (s : State) (c : Nat) (x : MetV) : (s.setMetV c x).out = s.out := rfl
@[simp] theorem State.setMetV_clk (s : State) (c : Nat) (x : MetV) : (s.setMetV c x).clk = s.clk := rfl
@[simp] theorem State.setMetV_freeCtr (s : State) (c : Nat) (x : MetV) : (s.setMetV c x).freeCtr = s.freeCtr := rfl
@[simp] theorem State.setMetV_mode (s : State) (c : Nat) (x : MetV) : (s.setMetV c x).mode = s.mode := rfl
@[simp] theorem State.setMetV_objs (s : State) (c : Nat) (x : MetV) : (s.setMetV c x).objs = s.objs := rfl
@[simp] theorem State.setMetV_blobs (s : State) (c : Nat) (x : MetV) : (s.setMetV c x).blobs = s.blobs := rfl
@[simp] theorem State.setMetV_rcd (s : State) (c : Nat) (x : MetV) : (s.setMetV c x).rcd = s.rcd := rfl
@[simp] theorem State.setMetV_frz (s : State) (c : Nat) (x : MetV) : (s.setMetV c x).frz = s.frz := rfl
@[simp] theorem State.setMetV_pow (s : State) (c : Nat) (x : MetV) : (s.setMetV c x).pow = s.pow := rfl
@[simp] theorem State.setMetV_rst (s : State) (c : Nat) (x : MetV) : (s.setMetV c x).rst = s.rst := rfl
@[simp] theorem State.setMetV_tb (s : State) (c : Nat) (x : MetV) : (s.setMetV c x).tb = s.tb := rfl
@[simp] theorem State.setMetV_launches (s : State) (c : Nat) (x : MetV) : (s.setMetV c x).launches = s.launches := rfl
@[simp] theorem State.setMetV_launchSeq (s : State) (c : Nat) (x : MetV) : (s.setMetV c x).launchSeq = s.launchSeq := rfl
@[simp] theorem State.setMetV_acc (s : State) (c : Nat) (x : MetV) : (s.setMetV c x).acc = s.acc := rfl
@[simp] theorem State.setMetV_pts (s : State) (c : Nat) (x : MetV) : (s.setMetV c x).pts = s.pts := rfl
@[simp] theorem State.setMetV_tw (s : State) (c : Nat) (x : MetV) : (s.setMetV c x).tw = s.tw := rfl
@[simp] theorem State.setMetV_cfgValid (s : State) (c : Nat) (x : MetV) : (s.setMetV c x).cfgValid = s.cfgValid := rfl
@[simp] theorem State.setMetV_testQueue (s : State) (c : Nat) (x : MetV) : (s.setMetV c x).testQueue = s.testQueue := rfl
@[simp] theorem State.setMetV_testsOn (s : State) (c : Nat) (x : MetV) : (s.setMetV c x).testsOn = s.testsOn := rfl
@[simp] theorem State.setMetV_fio (s : State) (c : Nat) (x : MetV) : (s.setMetV c x).fio = s.fio := rfl
@[simp] theorem State.setMetV_mem (s : State) (c : Nat) (x : MetV) : (s.setMetV c x).mem = s.mem := rfl
@[simp] theorem State.setMetV_saf (s : State) (c : Nat) (x : MetV) : (s.setMetV c x).saf = s.saf := rfl
@[simp] theorem State.setMetV_can (s : State) (c : Nat) (x : MetV) : (s.setMetV c x).can = s.can := rfl
@[simp] theorem State.setMetV_pos (s : State) (c : Nat) (x : MetV) : (s.setMetV c x).pos = s.pos := rfl
@[simp] theorem State.setMetV_emits (s : State) (c : Nat) (x : MetV) : (s.setMetV c x).emits = s.emits := rfl
@[simp] theorem State.setMetV_loops (s : State) (c : Nat) (x : MetV) : (s.setMetV c x).loops = s.loops := rfl
@[simp] theorem State.setMetV_grps (s : State) (c : Nat) (x : MetV) : (s.setMetV c x).grps = s.grps := rfl
@[simp] theorem State.setMetV_doors (s : State) (c : Nat) (x : MetV) : (s.setMetV c x).doors = s.doors := rfl
@[simp] theorem State.setMetV_dsp (s : State) (c : Nat) (x : MetV) : (s.setMetV c x).dsp = s.dsp := rfl
@[simp] theorem State.get_setMetV (s : State) (c : Nat) (x : MetV) (z : Key) : (s.setMetV c x).get z = s.get z := rfl
@[simp] theorem State.blob_setMetV (s : State) (c : Nat) (x : MetV) (z : BKey) : (s.setMetV c x).blob z = s.blob z := rfl

@[simp] theorem State.setIsland_pending (s : State) (c : Nat) (x : Island) : (s.setIsland c x).pending = s.pending := rfl
@[simp] theorem State.setIsland_out (s : State) (c : Nat) (x : Island) : (s.setIsland c x).out = s.out := rfl
@[simp] theorem State.setIsland_clk (s : State) (c : Nat) (x : Island) : (s.setIsland c x).clk = s.clk := rfl
@[simp] theorem State.setIsland_freeCtr (s : State) (c : Nat) (x : Island) : (s.setIsland c x).freeCtr = s.freeCtr := rfl
@[simp] theorem State.setIsland_mode (s : State) (c : Nat) (x : Island) : (s.setIsland c x).mode = s.mode := rfl
@[simp] theorem State.setIsland_objs (s : State) (c : Nat) (x : Island) : (s.setIsland c x).objs = s.objs := rfl
@[simp] theorem State.setIsland_blobs (s : State) (c : Nat) (x : Island) : (s.setIsland c x).blobs = s.blobs := rfl
@[simp] theorem State.setIsland_rcd (s : State) (c : Nat) (x : Island) : (s.setIsland c x).rcd = s.rcd := rfl
@[simp] theorem State.setIsland_frz (s : State) (c : Nat) (x : Island) : (s.setIsland c x).frz = s.frz := rfl
@[simp] theorem State.setIsland_pow (s : State) (c : Nat) (x : Island) : (s.setIsland c x).pow = s.pow := rfl
@[simp] theorem State.setIsland_rst (s : State) (c : Nat) (x : Island) : (s.setIsland c x).rst = s.rst := rfl
@[simp] theorem State.setIsland_tb (s : State) (c : Nat) (x : Island) : (s.setIsland c x).tb = s.tb := rfl
@[simp] theorem State.setIsland_launches (s : State) (c : Nat) (x : Island) : (s.setIsland c x).launches = s.launches := rfl
@[simp] theorem State.setIsland_launchSeq (s : State) (c : Nat) (x : Island) : (s.setIsland c x).launchSeq = s.launchSeq := rfl
@[simp] theorem State.setIsland_acc (s : State) (c : Nat) (x : Island) : (s.setIsland c x).acc = s.acc := rfl
@[simp] theorem State.setIsland_pts (s : State) (c : Nat) (x : Island) : (s.setIsland c x).pts = s.pts := rfl
@[simp] theorem State.setIsland_tw (s : State) (c : Nat) (x : Island) : (s.setIsland c x).tw = s.tw := rfl
@[simp] theorem State.setIsland_cfgValid (s : State) (c : Nat) (x : Island) : (s.setIsland c x).cfgValid = s.cfgValid := rfl
@[simp] theorem State.setIsland_testQueue (s : State) (c : Nat) (x : Island) : (s.setIsland c x).testQueue = s.testQueue := rfl
@[simp] theorem State.setIsland_testsOn (s : State) (c : Nat) (x : Island) : (s.setIsland c x).testsOn = s.testsOn := rfl
@[simp] theorem State.setIsland_fio (s : State) (c : Nat) (x : Island) : (s.setIsland c x).fio = s.fio := rfl
@[simp] theorem State.setIsland_mem (s : State) (c : Nat) (x : Island) : (s.setIsland c x).mem = s.mem := rfl
@[simp] theorem State.setIsland_saf (s : State) (c : Nat) (x : Island) : (s.setIsland c x).saf = s.saf := rfl
@[simp] theorem State.setIsland_can (s : State) (c : Nat) (x : Island) : (s.setIsland c x).can = s.can := rfl
@[simp] theorem State.setIsland_pos (s : State) (c : Nat) (x : Island) : (s.setIsland c x).pos = s.pos := rfl
@[simp] theorem State.setIsland_emits (s : State) (c : Nat) (x : Island) : (s.setIsland c x).emits = s.emits := rfl
@[simp] theorem State.setIsland_loops (s : State) (c : Nat) (x : Island) : (s.setIsland c x).loops = s.loops := rfl
@[simp] theorem State.setIsland_grps (s : State) (c : Nat) (x : Island) : (s.setIsland c x).grps = s.grps := rfl
@[simp] theorem State.setIsland_doors (s : State) (c : Nat) (x : Island) : (s.setIsland c x).doors = s.doors := rfl
@[simp] theorem State.setIsland_dsp (s : State) (c : Nat) (x : Island) : (s.setIsland c x).dsp = s.dsp := rfl
@[simp] theorem State.get_setIsland (s : State) (c : Nat) (x : Island) (z : Key) : (s.setIsland c x).get z = s.get z := rfl
@[simp] theorem State.blob_setIsland (s : State) (c : Nat) (x : Island) (z : BKey) : (s.setIsland c x).blob z = s.blob z := rfl

@[simp] theorem State.setLoop_pending (s : State) (c j : Nat) (x : LoopRt) : (s.setLoop c j x).pending = s.pending := rfl
@[simp] theorem State.setLoop_out (s : State) (c j : Nat) (x : LoopRt) : (s.setLoop c j x).out = s.out := rfl
@[simp] theorem State.setLoop_clk (s : State) (c j : Nat) (x : LoopRt) : (s.setLoop c j x).clk = s.clk := rfl
@[simp] theorem State.setLoop_freeCtr (s : State) (c j : Nat) (x : LoopRt) : (s.setLoop c j x).freeCtr = s.freeCtr := rfl
@[simp] theorem State.setLoop_mode (s : State) (c j : Nat) (x : LoopRt) : (s.setLoop c j x).mode = s.mode := rfl
@[simp] theorem State.setLoop_objs (s : State) (c j : Nat) (x : LoopRt) : (s.setLoop c j x).objs = s.objs := rfl
@[simp] theorem State.setLoop_blobs (s : State) (c j : Nat) (x : LoopRt) : (s.setLoop c j x).blobs = s.blobs := rfl
@[simp] theorem State.setLoop_rcd (s : State) (c j : Nat) (x : LoopRt) : (s.setLoop c j x).rcd = s.rcd := rfl
@[simp] theorem State.setLoop_frz (s : State) (c j : Nat) (x : LoopRt) : (s.setLoop c j x).frz = s.frz := rfl
@[simp] theorem State.setLoop_pow (s : State) (c j : Nat) (x : LoopRt) : (s.setLoop c j x).pow = s.pow := rfl
@[simp] theorem State.setLoop_rst (s : State) (c j : Nat) (x : LoopRt) : (s.setLoop c j x).rst = s.rst := rfl
@[simp] theorem State.setLoop_tb (s : State) (c j : Nat) (x : LoopRt) : (s.setLoop c j x).tb = s.tb := rfl
@[simp] theorem State.setLoop_launches (s : State) (c j : Nat) (x : LoopRt) : (s.setLoop c j x).launches = s.launches := rfl
@[simp] theorem State.setLoop_launchSeq (s : State) (c j : Nat) (x : LoopRt) : (s.setLoop c j x).launchSeq = s.launchSeq := rfl
@[simp] theorem State.setLoop_acc (s : State) (c j : Nat) (x : LoopRt) : (s.setLoop c j x).acc = s.acc := rfl
@[simp] theorem State.setLoop_pts (s : State) (c j : Nat) (x : LoopRt) : (s.setLoop c j x).pts = s.pts := rfl
@[simp] theorem State.setLoop_tw (s : State) (c j : Nat) (x : LoopRt) : (s.setLoop c j x).tw = s.tw := rfl
@[simp] theorem State.setLoop_cfgValid (s : State) (c j : Nat) (x : LoopRt) : (s.setLoop c j x).cfgValid = s.cfgValid := rfl
@[simp] theorem State.setLoop_testQueue (s : State) (c j : Nat) (x : LoopRt) : (s.setLoop c j x).testQueue = s.testQueue := rfl
@[simp] theorem State.setLoop_testsOn (s : State) (c j : Nat) (x : LoopRt) : (s.setLoop c j x).testsOn = s.testsOn := rfl
@[simp] theorem State.setLoop_fio (s : State) (c j : Nat) (x : LoopRt) : (s.setLoop c j x).fio = s.fio := rfl
@[simp] theorem State.setLoop_mem (s : State) (c j : Nat) (x : LoopRt) : (s.setLoop c j x).mem = s.mem := rfl
@[simp] theorem State.setLoop_saf (s : State) (c j : Nat) (x : LoopRt) : (s.setLoop c j x).saf = s.saf := rfl
@[simp] theorem State.setLoop_can (s : State) (c j : Nat) (x : LoopRt) : (s.setLoop c j x).can = s.can := rfl
@[simp] theorem State.setLoop_pos (s : State) (c j : Nat) (x : LoopRt) : (s.setLoop c j x).pos = s.pos := rfl
@[simp] theorem State.setLoop_emits (s : State) (c j : Nat) (x : LoopRt) : (s.setLoop c j x).emits = s.emits := rfl
@[simp] theorem State.setLoop_grps (s : State) (c j : Nat) (x : LoopRt) : (s.setLoop c j x).grps = s.grps := rfl
@[simp] theorem State.setLoop_doors (s : State) (c j : Nat) (x : LoopRt) : (s.setLoop c j x).doors = s.doors := rfl
@[simp] theorem State.setLoop_met (s : State) (c j : Nat) (x : LoopRt) : (s.setLoop c j x).met = s.met := rfl
@[simp] theorem State.setLoop_dsp (s : State) (c j : Nat) (x : LoopRt) : (s.setLoop c j x).dsp = s.dsp := rfl
@[simp] theorem State.get_setLoop (s : State) (c j : Nat) (x : LoopRt) (z : Key) : (s.setLoop c j x).get z = s.get z := rfl
@[simp] theorem State.blob_setLoop (s : State) (c j : Nat) (x : LoopRt) (z : BKey) : (s.setLoop c j x).blob z = s.blob z := rfl

@[simp] theorem State.setPos_pending (s : State) (n : Nat) (x : PosUnit) : (s.setPos n x).pending = s.pending := rfl
@[simp] theorem State.setPos_out (s : State) (n : Nat) (x : PosUnit) : (s.setPos n x).out = s.out := rfl
@[simp] theorem State.setPos_clk (s : State) (n : Nat) (x : PosUnit) : (s.setPos n x).clk = s.clk := rfl
@[simp] theorem State.setPos_freeCtr (s : State) (n : Nat) (x : PosUnit) : (s.setPos n x).freeCtr = s.freeCtr := rfl
@[simp] theorem State.setPos_mode (s : State) (n : Nat) (x : PosUnit) : (s.setPos n x).mode = s.mode := rfl
@[simp] theorem State.setPos_objs (s : State) (n : Nat) (x : PosUnit) : (s.setPos n x).objs = s.objs := rfl
@[simp] theorem State.setPos_blobs (s : State) (n : Nat) (x : PosUnit) : (s.setPos n x).blobs = s.blobs := rfl
@[simp] theorem State.setPos_rcd (s : State) (n : Nat) (x : PosUnit) : (s.setPos n x).rcd = s.rcd := rfl
@[simp] theorem State.setPos_frz (s : State) (n : Nat) (x : PosUnit) : (s.setPos n x).frz = s.frz := rfl
@[simp] theorem State.setPos_pow (s : State) (n : Nat) (x : PosUnit) : (s.setPos n x).pow = s.pow := rfl
@[simp] theorem State.setPos_rst (s : State) (n : Nat) (x : PosUnit) : (s.setPos n x).rst = s.rst := rfl
@[simp] theorem State.setPos_tb (s : State) (n : Nat) (x : PosUnit) : (s.setPos n x).tb = s.tb := rfl
@[simp] theorem State.setPos_launches (s : State) (n : Nat) (x : PosUnit) : (s.setPos n x).launches = s.launches := rfl
@[simp] theorem State.setPos_launchSeq (s : State) (n : Nat) (x : PosUnit) : (s.setPos n x).launchSeq = s.launchSeq := rfl
@[simp] theorem State.setPos_acc (s : State) (n : Nat) (x : PosUnit) : (s.setPos n x).acc = s.acc := rfl
@[simp] theorem State.setPos_pts (s : State) (n : Nat) (x : PosUnit) : (s.setPos n x).pts = s.pts := rfl
@[simp] theorem State.setPos_tw (s : State) (n : Nat) (x : PosUnit) : (s.setPos n x).tw = s.tw := rfl
@[simp] theorem State.setPos_cfgValid (s : State) (n : Nat) (x : PosUnit) : (s.setPos n x).cfgValid = s.cfgValid := rfl
@[simp] theorem State.setPos_testQueue (s : State) (n : Nat) (x : PosUnit) : (s.setPos n x).testQueue = s.testQueue := rfl
@[simp] theorem State.setPos_testsOn (s : State) (n : Nat) (x : PosUnit) : (s.setPos n x).testsOn = s.testsOn := rfl
@[simp] theorem State.setPos_fio (s : State) (n : Nat) (x : PosUnit) : (s.setPos n x).fio = s.fio := rfl
@[simp] theorem State.setPos_mem (s : State) (n : Nat) (x : PosUnit) : (s.setPos n x).mem = s.mem := rfl
@[simp] theorem State.setPos_saf (s : State) (n : Nat) (x : PosUnit) : (s.setPos n x).saf = s.saf := rfl
@[simp] theorem State.setPos_can (s : State) (n : Nat) (x : PosUnit) : (s.setPos n x).can = s.can := rfl
@[simp] theorem State.setPos_emits (s : State) (n : Nat) (x : PosUnit) : (s.setPos n x).emits = s.emits := rfl
@[simp] theorem State.setPos_loops (s : State) (n : Nat) (x : PosUnit) : (s.setPos n x).loops = s.loops := rfl
@[simp] theorem State.setPos_grps (s : State) (n : Nat) (x : PosUnit) : (s.setPos n x).grps = s.grps := rfl
@[simp] theorem State.setPos_doors (s : State) (n : Nat) (x : PosUnit) : (s.setPos n x).doors = s.doors := rfl
@[simp] theorem State.setPos_met (s : State) (n : Nat) (x : PosUnit) : (s.setPos n x).met = s.met := rfl
@[simp] theorem State.setPos_dsp (s : State) (n : Nat) (x : PosUnit) : (s.setPos n x).dsp = s.dsp := rfl
@[simp] theorem State.get_setPos (s : State) (n : Nat) (x : PosUnit) (z : Key) : (s.setPos n x).get z = s.get z := rfl
@[simp] theorem State.blob_setPos (s : State) (n : Nat) (x : PosUnit) (z : BKey) : (s.setPos n x).blob z = s.blob z := rfl

@[simp] theorem State.setDst_pending (s : State) (n : Nat) (x : Dst) : (s.setDst n x).pending = s.pending := rfl
@[simp] theorem State.setDst_out (s : State) (n : Nat) (x : Dst) : (s.setDst n x).out = s.out := rfl
@[simp] theorem State.setDst_clk (s : State) (n : Nat) (x : Dst) : (s.setDst n x).clk = s.clk := rfl
@[simp] theorem State.setDst_freeCtr (s : State) (n : Nat) (x : Dst) : (s.setDst n x).freeCtr = s.freeCtr := rfl
@[simp] theorem State.setDst_mode (s : State) (n : Nat) (x : Dst) : (s.setDst n x).mode = s.mode := rfl
@[simp] theorem State.setDst_objs (s : State) (n : Nat) (x : Dst) : (s.setDst n x).objs = s.objs := rfl
@[simp] theorem State.setDst_blobs (s : State) (n : Nat) (x : Dst) : (s.setDst n x).blobs = s.blobs := rfl
@[simp] theorem State.setDst_rcd (s : State) (n : Nat) (x : Dst) : (s.setDst n x).rcd = s.rcd := rfl
@[simp] theorem State.setDst_frz (s : State) (n : Nat) (x : Dst) : (s.setDst n x).frz = s.frz := rfl
@[simp] theorem State.setDst_pow (s : State) (n : Nat) (x : Dst) : (s.setDst n x).pow = s.pow := rfl
@[simp] theorem State.setDst_rst (s : State) (n : Nat) (x : Dst) : (s.setDst n x).rst = s.rst := rfl
@[simp] theorem State.setDst_tb (s : State) (n : Nat) (x : Dst) : (s.setDst n x).tb = s.tb := rfl
@[simp] theorem State.setDst_launches (s : State) (n : Nat) (x : Dst) : (s.setDst n x).launches = s.launches := rfl
@[simp] theorem State.setDst_launchSeq (s : State) (n : Nat) (x : Dst) : (s.setDst n x).launchSeq = s.launchSeq := rfl
@[simp] theorem State.setDst_acc (s : State) (n : Nat) (x : Dst) : (s.setDst n x).acc = s.acc := rfl
@[simp] theorem State.setDst_pts (s : State) (n : Nat) (x : Dst) : (s.setDst n x).pts = s.pts := rfl
@[simp] theorem State.setDst_tw (s : State) (n : Nat) (x : Dst) : (s.setDst n x).tw = s.tw := rfl
@[simp] theorem State.setDst_cfgValid (s : State) (n : Nat) (x : Dst) : (s.setDst n x).cfgValid = s.cfgValid := rfl
@[simp] theorem State.setDst_testQueue (s : State) (n : Nat) (x : Dst) : (s.setDst n x).testQueue = s.testQueue := rfl
@[simp] theorem State.setDst_testsOn (s : State) (n : Nat) (x : Dst) : (s.setDst n x).testsOn = s.testsOn := rfl
@[simp] theorem State.setDst_fio (s : State) (n : Nat) (x : Dst) : (s.setDst n x).fio = s.fio := rfl
@[simp] theorem State.setDst_mem (s : State) (n : Nat) (x : Dst) : (s.setDst n x).mem = s.mem := rfl
@[simp] theorem State.setDst_can (s : State) (n : Nat) (x : Dst) : (s.setDst n x).can = s.can := rfl
@[simp] theorem State.setDst_pos (s : State) (n : Nat) (x : Dst) : (s.setDst n x).pos = s.pos := rfl
@[simp] theorem State.setDst_emits (s : State) (n : Nat) (x : Dst) : (s.setDst n x).emits = s.emits := rfl
@[simp] theorem State.setDst_loops (s : State) (n : Nat) (x : Dst) : (s.setDst n x).loops = s.loops := rfl
@[simp] theorem State.setDst_grps (s : State) (n : Nat) (x : Dst) : (s.setDst n x).grps = s.grps := rfl
@[simp] theorem State.setDst_doors (s : State) (n : Nat) (x : Dst) : (s.setDst n x).doors = s.doors := rfl
@[simp] theorem State.setDst_met (s : State) (n : Nat) (x : Dst) : (s.setDst n x).met = s.met := rfl
@[simp] theorem State.setDst_dsp (s : State) (n : Nat) (x : Dst) : (s.setDst n x).dsp = s.dsp := rfl
@[simp] theorem State.get_setDst (s : State) (n : Nat) (x : Dst) (z : Key) : (s.setDst n x).get z = s.get z := rfl
@[simp] theorem State.blob_setDst (s : State) (n : Nat) (x : Dst) (z : BKey) : (s.setDst n x).blob z = s.blob z := rfl

@[simp] theorem State.setCarSafe_pending (s : State) (n : Nat) (x : CarSafe) : (s.setCarSafe n x).pending = s.pending := rfl
@[simp] theorem State.setCarSafe_out (s : State) (n : Nat) (x : CarSafe) : (s.setCarSafe n x).out = s.out := rfl
@[simp] theorem State.setCarSafe_clk (s : State) (n : Nat) (x : CarSafe) : (s.setCarSafe n x).clk = s.clk := rfl
@[simp] theorem State.setCarSafe_freeCtr (s : State) (n : Nat) (x : CarSafe) : (s.setCarSafe n x).freeCtr = s.freeCtr := rfl
@[simp] theorem State.setCarSafe_mode (s : State) (n : Nat) (x : CarSafe) : (s.setCarSafe n x).mode = s.mode := rfl
@[simp] theorem State.setCarSafe_objs (s : State) (n : Nat) (x : CarSafe) : (s.setCarSafe n x).objs = s.objs := rfl
@[simp] theorem State.setCarSafe_blobs (s : State) (n : Nat) (x : CarSafe) : (s.setCarSafe n x).blobs = s.blobs := rfl
@[simp] theorem State.setCarSafe_rcd (s : State) (n : Nat) (x : CarSafe) : (s.setCarSafe n x).rcd = s.rcd := rfl
@[simp] theorem State.setCarSafe_frz (s : State) (n : Nat) (x : CarSafe) : (s.setCarSafe n x).frz = s.frz := rfl
@[simp] theorem State.setCarSafe_pow (s : State) (n : Nat) (x : CarSafe) : (s.setCarSafe n x).pow = s.pow := rfl
@[simp] theorem State.setCarSafe_rst (s : State) (n : Nat) (x : CarSafe) : (s.setCarSafe n x).rst = s.rst := rfl
@[simp] theorem State.setCarSafe_tb (s : State) (n : Nat) (x : CarSafe) : (s.setCarSafe n x).tb = s.tb := rfl
@[simp] theorem State.setCarSafe_launches (s : State) (n : Nat) (x : CarSafe) : (s.setCarSafe n x).launches = s.launches := rfl
@[simp] theorem State.setCarSafe_launchSeq (s : State) (n : Nat) (x : CarSafe) : (s.setCarSafe n x).launchSeq = s.launchSeq := rfl
@[simp] theorem State.setCarSafe_acc (s : State) (n : Nat) (x : CarSafe) : (s.setCarSafe n x).acc = s.acc := rfl
@[simp] theorem State.setCarSafe_pts (s : State) (n : Nat) (x : CarSafe) : (s.setCarSafe n x).pts = s.pts := rfl
@[simp] theorem State.setCarSafe_tw (s : State) (n : Nat) (x : CarSafe) : (s.setCarSafe n x).tw = s.tw := rfl
@[simp] theorem State.setCarSafe_cfgValid (s : State) (n : Nat) (x : CarSafe) : (s.setCarSafe n x).cfgValid = s.cfgValid := rfl
@[simp] theorem State.setCarSafe_testQueue (s : State) (n : Nat) (x : CarSafe) : (s.setCarSafe n x).testQueue = s.testQueue := rfl
@[simp] theorem State.setCarSafe_testsOn (s : State) (n : Nat) (x : CarSafe) : (s.setCarSafe n x).testsOn = s.testsOn := rfl
@[simp] theorem State.setCarSafe_fio (s : State) (n : Nat) (x : CarSafe) : (s.setCarSafe n x).fio = s.fio := rfl
@[simp] theorem State.setCarSafe_mem (s : State) (n : Nat) (x : CarSafe) : (s.setCarSafe n x).mem = s.mem := rfl
@[simp] theorem State.setCarSafe_can (s : State) (n : Nat) (x : CarSafe) : (s.setCarSafe n x).can = s.can := rfl
@[simp] theorem State.setCarSafe_pos (s : State) (n : Nat) (x : CarSafe) : (s.setCarSafe n x).pos = s.pos := rfl
@[simp] theorem State.setCarSafe_emits (s : State) (n : Nat) (x : CarSafe) : (s.setCarSafe n x).emits = s.emits := rfl
@[simp] theorem State.setCarSafe_loops (s : State) (n : Nat) (x : CarSafe) : (s.setCarSafe n x).loops = s.loops := rfl
@[simp] theorem State.setCarSafe_grps (s : State) (n : Nat) (x : CarSafe) : (s.setCarSafe n x).grps = s.grps := rfl
@[simp] theorem State.setCarSafe_doors (s : State) (n : Nat) (x : CarSafe) : (s.setCarSafe n x).doors = s.doors := rfl
@[simp] theorem State.setCarSafe_met (s : State) (n : Nat) (x : CarSafe) : (s.setCarSafe n x).met = s.met := rfl
@[simp] theorem State.setCarSafe_dsp (s : State) (n : Nat) (x : CarSafe) : (s.setCarSafe n x).dsp = s.dsp := rfl
@[simp] theorem State.get_setCarSafe (s : State) (n : Nat) (x : CarSafe) (z : Key) : (s.setCarSafe n x).get z = s.get z := rfl
@[simp] theorem State.blob_setCarSafe (s : State) (n : Nat) (x : CarSafe) (z : BKey) : (s.setCarSafe n x).blob z = s.blob z := rfl

@[simp] theorem State.setSes_pending (s : State) (n : Nat) (x : Session) : (s.setSes n x).pending = s.pending := rfl
@[simp] theorem State.setSes_out (s : State) (n : Nat) (x : Session) : (s.setSes n x).out = s.out := rfl
@[simp] theorem State.setSes_clk (s : State) (n : Nat) (x : Session) : (s.setSes n x).clk = s.clk := rfl
@[simp] theorem State.setSes_freeCtr (s : State) (n : Nat) (x : Session) : (s.setSes n x).freeCtr = s.freeCtr := rfl
@[simp] theorem State.setSes_mode (s : State) (n : Nat) (x : Session) : (s.setSes n x).mode = s.mode := rfl
@[simp] theorem State.setSes_objs (s : State) (n : Nat) (x : Session) : (s.setSes n x).objs = s.objs := rfl
@[simp] theorem State.setSes_blobs (s : State) (n : Nat) (x : Session) : (s.setSes n x).blobs = s.blobs := rfl
@[simp] theorem State.setSes_rcd (s : State) (n : Nat) (x : Session) : (s.setSes n x).rcd = s.rcd := rfl
@[simp] theorem State.setSes_frz (s : State) (n : Nat) (x : Session) : (s.setSes n x).frz = s.frz := rfl
@[simp] theorem State.setSes_pow (s : State) (n : Nat) (x : Session) : (s.setSes n x).pow = s.pow := rfl
@[simp] theorem State.setSes_rst (s : State) (n : Nat) (x : Session) : (s.setSes n x).rst = s.rst := rfl
@[simp] theorem State.setSes_tb (s : State) (n : Nat) (x : Session) : (s.setSes n x).tb = s.tb := rfl
@[simp] theorem State.setSes_launches (s : State) (n : Nat) (x : Session) : (s.setSes n x).launches = s.launches := rfl
@[simp] theorem State.setSes_launchSeq (s : State) (n : Nat) (x : Session) : (s.setSes n x).launchSeq = s.launchSeq := rfl
@[simp] theorem State.setSes_pts (s : State) (n : Nat) (x : Session) : (s.setSes n x).pts = s.pts := rfl
@[simp] theorem State.setSes_tw (s : State) (n : Nat) (x : Session) : (s.setSes n x).tw = s.tw := rfl
@[simp] theorem State.setSes_cfgValid (s : State) (n : Nat) (x : Session) : (s.setSes n x).cfgValid = s.cfgValid := rfl
@[simp] theorem State.setSes_testQueue (s : State) (n : Nat) (x : Session) : (s.setSes n x).testQueue = s.testQueue := rfl
@[simp] theorem State.setSes_testsOn (s : State) (n : Nat) (x : Session) : (s.setSes n x).testsOn = s.testsOn := rfl
@[simp] theorem State.setSes_fio (s : State) (n : Nat) (x : Session) : (s.setSes n x).fio = s.fio := rfl
@[simp] theorem State.setSes_mem (s : State) (n : Nat) (x : Session) : (s.setSes n x).mem = s.mem := rfl
@[simp] theorem State.setSes_saf (s : State) (n : Nat) (x : Session) : (s.setSes n x).saf = s.saf := rfl
@[simp] theorem State.setSes_can (s : State) (n : Nat) (x : Session) : (s.setSes n x).can = s.can := rfl
@[simp] theorem State.setSes_pos (s : State) (n : Nat) (x : Session) : (s.setSes n x).pos = s.pos := rfl
@[simp] theorem State.setSes_emits (s : State) (n : Nat) (x : Session) : (s.setSes n x).emits = s.emits := rfl
@[simp] theorem State.setSes_loops (s : State) (n : Nat) (x : Session) : (s.setSes n x).loops = s.loops := rfl
@[simp] theorem State.setSes_grps (s : State) (n : Nat) (x : Session) : (s.setSes n x).grps = s.grps := rfl
@[simp] theorem State.setSes_doors (s : State) (n : Nat) (x : Session) : (s.setSes n x).doors = s.doors := rfl
@[simp] theorem State.setSes_met (s : State) (n : Nat) (x : Session) : (s.setSes n x).met = s.met := rfl
@[simp] theorem State.setSes_dsp (s : State) (n : Nat) (x : Session) : (s.setSes n x).dsp = s.dsp := rfl
@[simp] theorem State.get_setSes (s : State) (n : Nat) (x : Session) (z : Key) : (s.setSes n x).get z = s.get z := rfl
@[simp] theorem State.blob_setSes (s : State) (n : Nat) (x : Session) (z : BKey) : (s.setSes n x).blob z = s.blob z := rfl

@[simp] theorem State.ptAux_setPtAux_same (s : State) (p : Nat) (a : PtAux) : (s.setPtAux p a).ptAux p = a := by simp [State.ptAux, State.setPtAux]
theorem State.ptAux_setPtAux_other (s : State) (p : Nat) (a : PtAux) (q : Nat) (h : p ≠ q) : (s.setPtAux p a).ptAux q = s.ptAux q := Tbl.get_put_other _ _ _ _ _ _ h

@[simp] theorem State.canCh_setCan_same (s : State) (p : Nat) (a : CanCh) : (s.setCan p a).canCh p = a := by simp [State.canCh, State.setCan]
theorem State.canCh_setCan_other (s : State) (p : Nat) (a : CanCh) (q : Nat) (h : p ≠ q) : (s.setCan p a).canCh q = s.canCh q := Tbl.get_put_other _ _ _ _ _ _ h

@[simp] theorem State.car_setCar_same (s : State) (p : Nat) (a : CarRt) : (s.setCar p a).car p = a := by simp [State.car, State.setCar]
theorem State.car_setCar_other (s : State) (p : Nat) (a : CarRt) (q : Nat) (h : p ≠ q) : (s.setCar p a).car q = s.car q := Tbl.get_put_other _ _ _ _ _ _ h

@[simp] theorem State.door_setDoor_same (s : State) (p : Nat) (a : DoorRt) : (s.setDoor p a).door p = a := by simp [State.door, State.setDoor]
theorem State.door_setDoor_other (s : State) (p : Nat) (a : DoorRt) (q : Nat) (h : p ≠ q) : (s.setDoor p a).door q = s.door q := Tbl.get_put_other _ _ _ _ _ _ h

@[simp] theorem State.pulse_setPulse_same (s : State) (p : Nat) (a : PulseRt) : (s.setPulse p a).pulse p = a := by simp [State.pulse, State.setPulse]
theorem State.pulse_setPulse_other (s : State) (p : Nat) (a : PulseRt) (q : Nat) (h : p ≠ q) : (s.setPulse p a).pulse q = s.pulse q := Tbl.get_put_other _ _ _ _ _ _ h

@[simp] theorem State.metCh_setMetCh_same (s : State) (p : Nat) (a : MetCh) : (s.setMetCh p a).metCh p = a := by simp [State.metCh, State.setMetCh]
theorem State.metCh_setMetCh_other (s : State) (p : Nat) (a : MetCh) (q : Nat) (h : p ≠ q) : (s.setMetCh p a).metCh q = s.metCh q := Tbl.get_put_other _ _ _ _ _ _ h

@[simp] theorem State.island_setIsland_same (s : State) (p : Nat) (a : Island) : (s.setIsland p a).island p = a := by simp [State.island, State.setIsland]
theorem State.island_setIsland_other (s : State) (p : Nat) (a : Island) (q : Nat) (h : p ≠ q) : (s.setIsland p a).island q = s.island q := Tbl.get_put_other _ _ _ _ _ _ h

@[simp] theorem State.posUnit_setPos_same (s : State) (p : Nat) (a : PosUnit) : (s.setPos p a).posUnit p = a := by simp [State.posUnit, State.setPos]
theorem State.posUnit_setPos_other (s : State) (p : Nat) (a : PosUnit) (q : Nat) (h : p ≠ q) : (s.setPos p a).posUnit q = s.posUnit q := Tbl.get_put_other _ _ _ _ _ _ h

@[simp] theorem State.carSafe_setCarSafe_same (s : State) (p : Nat) (a : CarSafe) : (s.setCarSafe p a).carSafe p = a := by simp [State.carSafe, State.setCarSafe]
theorem State.carSafe_setCarSafe_other (s : State) (p : Nat) (a : CarSafe) (q : Nat) (h : p ≠ q) : (s.setCarSafe p a).carSafe q = s.carSafe q := Tbl.get_put_other _ _ _ _ _ _ h

@[simp] theorem State.ses_setSes_same (s : State) (p : Nat) (a : Session) : (s.setSes p a).ses p = a := by simp [State.ses, State.setSes]
theorem State.ses_setSes_other (s : State) (p : Nat) (a : Session) (q : Nat) (h : p ≠ q) : (s.setSes p a).ses q = s.ses q := Tbl.get_put_other _ _ _ _ _ _ h


end Sys2Proof.Machine
end

