-- ==== Sys2Proof/Laws/Value.lean ====
section
/-! SUPPORT. The laws of values as bytes: what a number reads after it has been laid out in its type (R9, R10). -/

namespace Sys2Proof.Machine

theorem leNat_leBytes (n v : Nat) : leNat (leBytes n v) = v % 256 ^ n := by
  induction n generalizing v with
  | zero => simp [leBytes, leNat, Nat.mod_one]
  | succ n ih =>
    simp only [leBytes, leNat, ih, BitVec.toNat_ofNat]
    have h : (256 : Nat) ^ (n + 1) = 256 * 256 ^ n := Nat.pow_succ'
    rw [h, Nat.mod_mul]

@[simp] theorem leBytes_length (n v : Nat) : (leBytes n v).length = n := by
  induction n generalizing v with
  | zero => rfl
  | succ n ih => simp [leBytes, ih]

theorem leNat_lt (b : List Byte) : leNat b < 256 ^ b.length := by
  induction b with
  | nil => simp [leNat]
  | cons a t ih =>
    have := a.isLt
    simp only [leNat, List.length_cons, Nat.pow_succ]
    omega

theorem leBytes_leNat (b : List Byte) : leBytes b.length (leNat b) = b := by
  induction b with
  | nil => rfl
  | cons a t ih =>
    have ha : a.toNat < 256 := a.isLt
    simp only [List.length_cons, leBytes, leNat]
    congr 1
    · apply BitVec.eq_of_toNat_eq
      simp only [BitVec.toNat_ofNat]
      omega
    · rw [show (a.toNat + 256 * leNat t) / 256 = leNat t by omega]
      exact ih

@[simp] theorem Ty.enc_length (t : Ty) (v : Int) : (t.enc v).length = t.size := by simp [Ty.enc]

/-- An unsigned number reads as itself after it has been laid out. -/
theorem Ty.dec_enc_nat (t : Ty) (v : Nat) (h : v < 256 ^ t.size) (hs : t.isSigned = false) : t.dec (t.enc v) = v := by
  have h2 : (256 : Nat) ^ t.size = 2 ^ (8 * t.size) := by
    rw [show (256 : Nat) = 2 ^ 8 from rfl, ← Nat.pow_mul]
  unfold Ty.dec Ty.enc
  rw [hs, if_neg (by simp), leNat_leBytes]
  unfold unsigned
  rw [← h2]
  have : ((v : Int) % ((256 ^ t.size : Nat) : Int)).toNat = v := by
    have hx : ((v : Int) % ((256 ^ t.size : Nat) : Int)) = v := Int.emod_eq_of_lt (by omega) (by omega)
    rw [hx, Int.toNat_natCast]
  rw [this, Nat.mod_eq_of_lt h]

/-- A signed number within its width reads as itself after it has been laid out. -/
theorem signed_unsigned (w : Nat) (v : Int) (hw : 0 < w) (h : -(2 ^ (w - 1) : Nat) ≤ v ∧ v < (2 ^ (w - 1) : Nat)) : signed w (unsigned w v) = v := by
  obtain ⟨m, rfl⟩ : ∃ m, w = m + 1 := ⟨w - 1, by omega⟩
  have h2 : (2 : Nat) ^ (m + 1) = 2 * 2 ^ m := by rw [Nat.pow_succ]; omega
  simp only [Nat.add_sub_cancel] at h
  unfold signed unsigned
  simp only [Nat.add_sub_cancel, h2]
  generalize 2 ^ m = k at *
  by_cases hv : 0 ≤ v
  · have hm : v % ((2 * k : Nat) : Int) = v := Int.emod_eq_of_lt hv (by omega)
    rw [hm]
    have : v.toNat % (2 * k) = v.toNat := Nat.mod_eq_of_lt (by omega)
    rw [this, if_pos (by omega)]
    omega
  · have hm : v % ((2 * k : Nat) : Int) = v + (2 * k : Nat) := by
      rw [← Int.add_emod_right]
      exact Int.emod_eq_of_lt (by omega) (by omega)
    rw [hm]
    have : (v + (2 * k : Nat)).toNat % (2 * k) = (v + (2 * k : Nat)).toNat := Nat.mod_eq_of_lt (by omega)
    rw [this, if_neg (by omega)]
    omega

theorem Ty.dec_enc_int (t : Ty) (v : Int) (hs : t.isSigned = true) (h : -(2 ^ (8 * t.size - 1) : Nat) ≤ v ∧ v < (2 ^ (8 * t.size - 1) : Nat)) :
    t.dec (t.enc v) = v := by
  have h2 : (256 : Nat) ^ t.size = 2 ^ (8 * t.size) := by
    rw [show (256 : Nat) = 2 ^ 8 from rfl, ← Nat.pow_mul]
  have hz : 0 < 8 * t.size := by cases t <;> simp_all [Ty.isSigned, Ty.size]
  unfold Ty.dec Ty.enc
  rw [hs, if_pos rfl, leNat_leBytes, h2]
  have : unsigned (8 * t.size) v % 2 ^ (8 * t.size) = unsigned (8 * t.size) v := by
    apply Nat.mod_eq_of_lt
    unfold unsigned
    have h3 := Int.emod_lt_of_pos v (show (0 : Int) < ((2 ^ (8 * t.size) : Nat) : Int) by have := Nat.two_pow_pos (8 * t.size); omega)
    have h4 := Int.emod_nonneg v (show ((2 ^ (8 * t.size) : Nat) : Int) ≠ 0 by have := Nat.two_pow_pos (8 * t.size); omega)
    omega
  rw [this]
  exact signed_unsigned _ _ hz h

/-- One byte read as an unsigned number. -/
@[simp] theorem leNat_one (v : Byte) : leNat [v] = v.toNat := by simp [leNat]

end Sys2Proof.Machine
end

