-- ==== Sys2Proof/Machine/Wire.lean ====
section
/-! DEFINITION. The bytes of frames on the wire: the PDP header and the twin frame header (R10, R195, R578). -/

namespace Sys2Proof.Machine

/-- A PDP header as its 128 bits: the reserved field, FLAGS, STATUS, LENGTH, REQ_ID, OP, VERSION and MAGIC (table PDP header). -/
def pdpHeader (rsv : BitVec 16) (flags status : Byte) (length req : BitVec 32) (op version : Byte) (magic : BitVec 16) : BitVec 128 :=
  rsv ++ flags ++ status ++ length ++ req ++ op ++ version ++ magic

/-- A frame of a host as its bytes, least significant byte first (R10, R195). -/
def frameBytes (f : Frame) : List Byte :=
  leBytes 16 (pdpHeader f.rsv f.flags f.status f.length f.reqId f.op f.version f.magic).toNat ++ f.payload

/-- The frame that bytes spell: a header, then LENGTH bytes of payload, or what there is of them (R195). -/
def frameRead (b : List Byte) : Frame :=
  let h := BitVec.ofNat 128 (leNat (b.take 16))
  { magic := h.extractLsb' 0 16, version := h.extractLsb' 16 8, op := h.extractLsb' 24 8, reqId := h.extractLsb' 32 32
    length := h.extractLsb' 64 32, status := h.extractLsb' 96 8, flags := h.extractLsb' 104 8, rsv := h.extractLsb' 112 16
    payload := (b.drop 16).take (leNat ((b.drop 8).take 4)) }

/-- A frame of the module as its bytes: RESP set, VERSION 1, MAGIC 0x4450, LENGTH that of its payload (R195). -/
def respBytes (op status : Byte) (req : BitVec 32) (payload : List Byte) : List Byte :=
  leBytes 16 (pdpHeader 0 1 status (BitVec.ofNat 32 payload.length) req op 1 0x4450).toNat ++ payload

/-- A twin link frame of one segment as its bytes: header, payload, and a CRC-32C over both (table Twin frame header). -/
def twinBytes (pairId position ver kind flags gen : Nat) (payload : List Byte) : List Byte :=
  let h := leBytes 16 (kind * 2 ^ 120 + flags * 2 ^ 112 + 1 * 2 ^ 96 + gen * 2 ^ 64 + payload.length * 2 ^ 48 + pairId * 2 ^ 24 + position * 2 ^ 16 + ver)
  h ++ payload ++ leBytes 4 (crc32c (h ++ payload))

/-- The bytes of what the module sends by PDP or over the twin link, with the PAIR_ID and POSITION of its strap (R195, R240, R578). -/
def Out.wire (pairId position ver : Nat) : Out → List Byte
  | .resp _ op req st p => respBytes (BitVec.ofNat 8 op) (BitVec.ofNat 8 st) req p
  | .notify _ h p => respBytes 0x22 0 (BitVec.ofNat 32 h) p
  | .twin kind gen p => twinBytes pairId position ver kind 0 gen p
  | _ => []

end Sys2Proof.Machine
end

