-- ==== Sys2Proof/Laws/Wire.lean ====
section
/-! SUPPORT. What the byte form of a PDP frame keeps: a frame read back from its bytes is the frame, and a response reads back as the module sent it. -/

namespace Sys2Proof.Machine

/-- The 16 bytes of a header spell its bits. -/
theorem leNat_header (v : BitVec 128) (p : List Byte) : BitVec.ofNat 128 (leNat ((leBytes 16 v.toNat ++ p).take 16)) = v := by
  rw [List.take_left' (leBytes_length 16 _), leNat_leBytes]
  apply BitVec.eq_of_toNat_eq
  have h := v.isLt
  rw [BitVec.toNat_ofNat]
  omega

/-- Leaving out the first bytes of a number divides it. -/
theorem leBytes_drop (k n v : Nat) : (leBytes (k + n) v).drop k = leBytes n (v / 256 ^ k) := by
  induction k generalizing v with
  | zero => simp
  | succ k ih =>
    rw [show k + 1 + n = k + n + 1 by omega]
    simp only [leBytes, List.drop_succ_cons, ih, Nat.div_div_eq_div_mul, Nat.pow_succ']

/-- The first bytes of a number are those of its low part. -/
theorem leBytes_take (k n v : Nat) : (leBytes (k + n) v).take k = leBytes k v := by
  induction k generalizing v with
  | zero => simp [leBytes]
  | succ k ih =>
    rw [show k + 1 + n = k + n + 1 by omega]
    simp only [leBytes, List.take_succ_cons, ih]

/-- The octets 8 to 11 of a header spell its third word, LENGTH. -/
theorem leNat_lengthField (v : Nat) (p : List Byte) : leNat (((leBytes 16 v ++ p).drop 8).take 4) = v / 256 ^ 8 % 256 ^ 4 := by
  rw [List.drop_append_of_le_length (by simp), leBytes_drop 8 8 v, List.take_append_of_le_length (by simp), leBytes_take 4 4, leNat_leBytes]

/-- A field above the lower part of two parts is the upper part's. -/
theorem extract_above {n m : Nat} (x : BitVec n) (y : BitVec m) (k w : Nat) (h : m ≤ k) : (x ++ y).extractLsb' k w = x.extractLsb' (k - m) w := by
  ext i hi
  rw [BitVec.getElem_extractLsb', BitVec.getElem_extractLsb', BitVec.getLsbD_append, if_neg (by omega)]
  congr 1
  omega

/-- The lowest field of two parts is the lower part. -/
theorem extract_low {n m : Nat} (x : BitVec n) (y : BitVec m) : (x ++ y).extractLsb' 0 m = y := by
  ext i hi
  rw [BitVec.getElem_extractLsb', BitVec.getLsbD_append, if_pos (by omega)]
  simp [hi, BitVec.getLsbD_eq_getElem]

/-- The fields of a header are those it was put together from. -/
theorem pdpHeader_fields (rsv : BitVec 16) (flags status : Byte) (length req : BitVec 32) (op version : Byte) (magic : BitVec 16) :
    let h := pdpHeader rsv flags status length req op version magic
    h.extractLsb' 0 16 = magic ∧ h.extractLsb' 16 8 = version ∧ h.extractLsb' 24 8 = op ∧ h.extractLsb' 32 32 = req
      ∧ h.extractLsb' 64 32 = length ∧ h.extractLsb' 96 8 = status ∧ h.extractLsb' 104 8 = flags ∧ h.extractLsb' 112 16 = rsv := by
  refine ⟨extract_low _ _,
    (extract_above (m := 16) _ _ 16 8 (by decide)).trans
      (extract_low _ _),
    (extract_above (m := 16) _ _ 24 8 (by decide)).trans
      ((extract_above (m := 8) _ _ 8 8 (by decide)).trans
      (extract_low _ _)),
    (extract_above (m := 16) _ _ 32 32 (by decide)).trans
      ((extract_above (m := 8) _ _ 16 32 (by decide)).trans
      ((extract_above (m := 8) _ _ 8 32 (by decide)).trans
      (extract_low _ _))),
    (extract_above (m := 16) _ _ 64 32 (by decide)).trans
      ((extract_above (m := 8) _ _ 48 32 (by decide)).trans
      ((extract_above (m := 8) _ _ 40 32 (by decide)).trans
      ((extract_above (m := 32) _ _ 32 32 (by decide)).trans
      (extract_low _ _)))),
    (extract_above (m := 16) _ _ 96 8 (by decide)).trans
      ((extract_above (m := 8) _ _ 80 8 (by decide)).trans
      ((extract_above (m := 8) _ _ 72 8 (by decide)).trans
      ((extract_above (m := 32) _ _ 64 8 (by decide)).trans
      ((extract_above (m := 32) _ _ 32 8 (by decide)).trans
      (extract_low _ _))))),
    (extract_above (m := 16) _ _ 104 8 (by decide)).trans
      ((extract_above (m := 8) _ _ 88 8 (by decide)).trans
      ((extract_above (m := 8) _ _ 80 8 (by decide)).trans
      ((extract_above (m := 32) _ _ 72 8 (by decide)).trans
      ((extract_above (m := 32) _ _ 40 8 (by decide)).trans
      ((extract_above (m := 8) _ _ 8 8 (by decide)).trans
      (extract_low _ _)))))),
    (extract_above (m := 16) _ _ 112 16 (by decide)).trans
      ((extract_above (m := 8) _ _ 96 16 (by decide)).trans
      ((extract_above (m := 8) _ _ 88 16 (by decide)).trans
      ((extract_above (m := 32) _ _ 80 16 (by decide)).trans
      ((extract_above (m := 32) _ _ 48 16 (by decide)).trans
      ((extract_above (m := 8) _ _ 16 16 (by decide)).trans
      ((extract_above (m := 8) _ _ 8 16 (by decide)).trans
      (BitVec.extractLsb'_eq_self)))))))⟩

/-- A frame whose LENGTH is that of its payload reads back from its bytes as itself. -/
theorem frameRead_bytes (f : Frame) (h : f.length.toNat = f.payload.length) : frameRead (frameBytes f) = f := by
  obtain ⟨magic, version, op, reqId, length, flags, payload, status, rsv⟩ := f
  have hf := pdpHeader_fields rsv flags status length reqId op version magic
  obtain ⟨h1, h2, h3, h4, h5, h6, h7, h8⟩ := hf
  have hl : (pdpHeader rsv flags status length reqId op version magic).toNat / 256 ^ 8 % 256 ^ 4 = payload.length := by
    rw [show (256 : Nat) ^ 8 = 2 ^ 64 by omega, show (256 : Nat) ^ 4 = 2 ^ 32 by omega, ← Nat.shiftRight_eq_div_pow, ← BitVec.extractLsb'_toNat, h5, h]
  simp only [frameRead, frameBytes, leNat_header, leNat_lengthField, hl, List.drop_left' (leBytes_length _ _), List.take_length, h1, h2, h3, h4, h5, h6,
    h7, h8]

/-- A response reads back with RESP set, the operation and request it answers, its status, and its payload (R195). -/
theorem frameRead_response (op st : Byte) (r : BitVec 32) (p : List Byte) (h : p.length < 2 ^ 32) :
    frameRead (respBytes op st r p)
      = { magic := 0x4450, version := 1, op := op, reqId := r, length := BitVec.ofNat 32 p.length, flags := 1, payload := p, status := st } :=
  frameRead_bytes { magic := 0x4450, version := 1, op := op, reqId := r, length := BitVec.ofNat 32 p.length, flags := 1, payload := p, status := st }
    (by simpa using h)

end Sys2Proof.Machine
end

