-- ==== Sys2Proof/Laws/Write.lean ====
section
/-! SUPPORT. The laws of a host write: in a session that is ready, a write that passes its checks commits at once, and what is left is its
effect, its place in the order, and its response (R29, R181, R674). -/

namespace Sys2Proof.Machine

set_option Elab.async false

/-- The state in which the checks of a write are made: its frame has been seen. -/
def State.seen (s : State) (n : Nat) : State := s.start.setSes n { s.ses n with lastFrame := s.clk }

/-- The request of a write, with its place in the order. -/
def State.writeReq (s : State) (n : Nat) (req : BitVec 32) (e : WEntry) : PendReq :=
  { pos := s.acc.pos, route := .pdp, ses := n, req := req, op := 0x11, fpr := (s.ses n).fpr, entries := [e], part := (s.ses n).part }

/-- The state in which a write takes effect: it has its place in the order, and its item is in the open batch. -/
def State.placed (s : State) (n : Nat) (req : BitVec 32) (e : WEntry) : State :=
  let t := s.seen n
  ({ t with acc := { t.acc with pos := t.acc.pos + 1 } }).mirror
    (.write s.acc.pos n req (s.ses n).fpr (BitVec.ofNat 32 e.oid) e.prio e.relinq e.dflt e.data)

/-- The same, with an object that read INTEGRITY mended by its write (R619). -/
def State.landed (s : State) (n : Nat) (req : BitVec 32) (e : WEntry) : State := (s.placed n req e).mended e.oid

/-- The rights of a session of the owner partition. -/
def hostRights (n : Nat) : Rights := { part := 0, ses := n }

/-- The state after a write has taken effect and been journalled. -/
def State.wrote (s : State) (n : Nat) (req : BitVec 32) (e : WEntry) : State := (s.placed n req e).applyEntries (hostRights n) [e]

section

variable (s : State) (n : Nat) (req : BitVec 32) (e : WEntry)

@[simp] theorem State.mended_pending (o : Nat) : (s.mended o).pending = s.pending := by unfold State.mended; split <;> rfl
@[simp] theorem State.mended_out (o : Nat) : (s.mended o).out = s.out := by unfold State.mended; split <;> rfl
@[simp] theorem State.mended_clk (o : Nat) : (s.mended o).clk = s.clk := by unfold State.mended; split <;> rfl
@[simp] theorem State.mended_freeCtr (o : Nat) : (s.mended o).freeCtr = s.freeCtr := by unfold State.mended; split <;> rfl
@[simp] theorem State.mended_mode (o : Nat) : (s.mended o).mode = s.mode := by unfold State.mended; split <;> rfl
@[simp] theorem State.mended_objs (o : Nat) : (s.mended o).objs = s.objs := by unfold State.mended; split <;> rfl
@[simp] theorem State.mended_blobs (o : Nat) : (s.mended o).blobs = s.blobs := by unfold State.mended; split <;> rfl
@[simp] theorem State.mended_rcd (o : Nat) : (s.mended o).rcd = s.rcd := by unfold State.mended; split <;> rfl
@[simp] theorem State.mended_frz (o : Nat) : (s.mended o).frz = s.frz := by unfold State.mended; split <;> rfl
@[simp] theorem State.mended_pow (o : Nat) : (s.mended o).pow = s.pow := by unfold State.mended; split <;> rfl
@[simp] theorem State.mended_rst (o : Nat) : (s.mended o).rst = s.rst := by unfold State.mended; split <;> rfl
@[simp] theorem State.mended_tb (o : Nat) : (s.mended o).tb = s.tb := by unfold State.mended; split <;> rfl
@[simp] theorem State.mended_launches (o : Nat) : (s.mended o).launches = s.launches := by unfold State.mended; split <;> rfl
@[simp] theorem State.mended_launchSeq (o : Nat) : (s.mended o).launchSeq = s.launchSeq := by unfold State.mended; split <;> rfl
@[simp] theorem State.mended_acc (o : Nat) : (s.mended o).acc = s.acc := by unfold State.mended; split <;> rfl
@[simp] theorem State.mended_pts (o : Nat) : (s.mended o).pts = s.pts := by unfold State.mended; split <;> rfl
@[simp] theorem State.mended_tw (o : Nat) : (s.mended o).tw = s.tw := by unfold State.mended; split <;> rfl
@[simp] theorem State.mended_cfgValid (o : Nat) : (s.mended o).cfgValid = s.cfgValid := by unfold State.mended; split <;> rfl
@[simp] theorem State.mended_testQueue (o : Nat) : (s.mended o).testQueue = s.testQueue := by unfold State.mended; split <;> rfl
@[simp] theorem State.mended_testsOn (o : Nat) : (s.mended o).testsOn = s.testsOn := by unfold State.mended; split <;> rfl
@[simp] theorem State.mended_fio (o : Nat) : (s.mended o).fio = s.fio := by unfold State.mended; split <;> rfl
@[simp] theorem State.mended_saf (o : Nat) : (s.mended o).saf = s.saf := by unfold State.mended; split <;> rfl
@[simp] theorem State.mended_can (o : Nat) : (s.mended o).can = s.can := by unfold State.mended; split <;> rfl
@[simp] theorem State.mended_pos (o : Nat) : (s.mended o).pos = s.pos := by unfold State.mended; split <;> rfl
@[simp] theorem State.mended_emits (o : Nat) : (s.mended o).emits = s.emits := by unfold State.mended; split <;> rfl
@[simp] theorem State.mended_loops (o : Nat) : (s.mended o).loops = s.loops := by unfold State.mended; split <;> rfl
@[simp] theorem State.mended_grps (o : Nat) : (s.mended o).grps = s.grps := by unfold State.mended; split <;> rfl
@[simp] theorem State.mended_doors (o : Nat) : (s.mended o).doors = s.doors := by unfold State.mended; split <;> rfl
@[simp] theorem State.mended_met (o : Nat) : (s.mended o).met = s.met := by unfold State.mended; split <;> rfl
@[simp] theorem State.mended_dsp (o : Nat) : (s.mended o).dsp = s.dsp := by unfold State.mended; split <;> rfl
@[simp] theorem State.seen_pending : (s.seen n).pending = s.pending := rfl
@[simp] theorem State.seen_clk : (s.seen n).clk = s.clk := rfl
@[simp] theorem State.seen_freeCtr : (s.seen n).freeCtr = s.freeCtr := rfl
@[simp] theorem State.seen_mode : (s.seen n).mode = s.mode := rfl
@[simp] theorem State.seen_objs : (s.seen n).objs = s.objs := rfl
@[simp] theorem State.seen_blobs : (s.seen n).blobs = s.blobs := rfl
@[simp] theorem State.seen_rcd : (s.seen n).rcd = s.rcd := rfl
@[simp] theorem State.seen_frz : (s.seen n).frz = s.frz := rfl
@[simp] theorem State.seen_pow : (s.seen n).pow = s.pow := rfl
@[simp] theorem State.seen_rst : (s.seen n).rst = s.rst := rfl
@[simp] theorem State.seen_tb : (s.seen n).tb = s.tb := rfl
@[simp] theorem State.seen_launches : (s.seen n).launches = s.launches := rfl
@[simp] theorem State.seen_launchSeq : (s.seen n).launchSeq = s.launchSeq := rfl
@[simp] theorem State.seen_pts : (s.seen n).pts = s.pts := rfl
@[simp] theorem State.seen_tw : (s.seen n).tw = s.tw := rfl
@[simp] theorem State.seen_cfgValid : (s.seen n).cfgValid = s.cfgValid := rfl
@[simp] theorem State.seen_testQueue : (s.seen n).testQueue = s.testQueue := rfl
@[simp] theorem State.seen_testsOn : (s.seen n).testsOn = s.testsOn := rfl
@[simp] theorem State.seen_fio : (s.seen n).fio = s.fio := rfl
@[simp] theorem State.seen_mem : (s.seen n).mem = s.mem := rfl
@[simp] theorem State.seen_saf : (s.seen n).saf = s.saf := rfl
@[simp] theorem State.seen_can : (s.seen n).can = s.can := rfl
@[simp] theorem State.seen_pos : (s.seen n).pos = s.pos := rfl
@[simp] theorem State.seen_emits : (s.seen n).emits = s.emits := rfl
@[simp] theorem State.seen_loops : (s.seen n).loops = s.loops := rfl
@[simp] theorem State.seen_grps : (s.seen n).grps = s.grps := rfl
@[simp] theorem State.seen_doors : (s.seen n).doors = s.doors := rfl
@[simp] theorem State.seen_met : (s.seen n).met = s.met := rfl
@[simp] theorem State.seen_dsp : (s.seen n).dsp = s.dsp := rfl
@[simp] theorem State.placed_pending : (s.placed n req e).pending = s.pending := by simp [State.placed]
@[simp] theorem State.placed_clk : (s.placed n req e).clk = s.clk := by simp [State.placed]
@[simp] theorem State.placed_freeCtr : (s.placed n req e).freeCtr = s.freeCtr := by simp [State.placed]
@[simp] theorem State.placed_mode : (s.placed n req e).mode = s.mode := by simp [State.placed]
@[simp] theorem State.placed_objs : (s.placed n req e).objs = s.objs := by simp [State.placed]
@[simp] theorem State.placed_blobs : (s.placed n req e).blobs = s.blobs := by simp [State.placed]
@[simp] theorem State.placed_rcd : (s.placed n req e).rcd = s.rcd := by simp [State.placed]
@[simp] theorem State.placed_frz : (s.placed n req e).frz = s.frz := by simp [State.placed]
@[simp] theorem State.placed_pow : (s.placed n req e).pow = s.pow := by simp [State.placed]
@[simp] theorem State.placed_rst : (s.placed n req e).rst = s.rst := by simp [State.placed]
@[simp] theorem State.placed_tb : (s.placed n req e).tb = s.tb := by simp [State.placed]
@[simp] theorem State.placed_launches : (s.placed n req e).launches = s.launches := by simp [State.placed]
@[simp] theorem State.placed_launchSeq : (s.placed n req e).launchSeq = s.launchSeq := by simp [State.placed]
@[simp] theorem State.placed_pts : (s.placed n req e).pts = s.pts := by simp [State.placed]
@[simp] theorem State.placed_cfgValid : (s.placed n req e).cfgValid = s.cfgValid := by simp [State.placed]
@[simp] theorem State.placed_testQueue : (s.placed n req e).testQueue = s.testQueue := by simp [State.placed]
@[simp] theorem State.placed_testsOn : (s.placed n req e).testsOn = s.testsOn := by simp [State.placed]
@[simp] theorem State.placed_fio : (s.placed n req e).fio = s.fio := by simp [State.placed]
@[simp] theorem State.placed_mem : (s.placed n req e).mem = s.mem := by simp [State.placed]
@[simp] theorem State.placed_saf : (s.placed n req e).saf = s.saf := by simp [State.placed]
@[simp] theorem State.placed_can : (s.placed n req e).can = s.can := by simp [State.placed]
@[simp] theorem State.placed_pos : (s.placed n req e).pos = s.pos := by simp [State.placed]
@[simp] theorem State.placed_emits : (s.placed n req e).emits = s.emits := by simp [State.placed]
@[simp] theorem State.placed_loops : (s.placed n req e).loops = s.loops := by simp [State.placed]
@[simp] theorem State.placed_grps : (s.placed n req e).grps = s.grps := by simp [State.placed]
@[simp] theorem State.placed_doors : (s.placed n req e).doors = s.doors := by simp [State.placed]
@[simp] theorem State.placed_met : (s.placed n req e).met = s.met := by simp [State.placed]
@[simp] theorem State.placed_dsp : (s.placed n req e).dsp = s.dsp := by simp [State.placed]
@[simp] theorem State.landed_pending : (s.landed n req e).pending = s.pending := by simp [State.landed]
@[simp] theorem State.landed_clk : (s.landed n req e).clk = s.clk := by simp [State.landed]
@[simp] theorem State.landed_freeCtr : (s.landed n req e).freeCtr = s.freeCtr := by simp [State.landed]
@[simp] theorem State.landed_mode : (s.landed n req e).mode = s.mode := by simp [State.landed]
@[simp] theorem State.landed_objs : (s.landed n req e).objs = s.objs := by simp [State.landed]
@[simp] theorem State.landed_blobs : (s.landed n req e).blobs = s.blobs := by simp [State.landed]
@[simp] theorem State.landed_rcd : (s.landed n req e).rcd = s.rcd := by simp [State.landed]
@[simp] theorem State.landed_frz : (s.landed n req e).frz = s.frz := by simp [State.landed]
@[simp] theorem State.landed_pow : (s.landed n req e).pow = s.pow := by simp [State.landed]
@[simp] theorem State.landed_rst : (s.landed n req e).rst = s.rst := by simp [State.landed]
@[simp] theorem State.landed_tb : (s.landed n req e).tb = s.tb := by simp [State.landed]
@[simp] theorem State.landed_launches : (s.landed n req e).launches = s.launches := by simp [State.landed]
@[simp] theorem State.landed_launchSeq : (s.landed n req e).launchSeq = s.launchSeq := by simp [State.landed]
@[simp] theorem State.landed_pts : (s.landed n req e).pts = s.pts := by simp [State.landed]
@[simp] theorem State.landed_cfgValid : (s.landed n req e).cfgValid = s.cfgValid := by simp [State.landed]
@[simp] theorem State.landed_testQueue : (s.landed n req e).testQueue = s.testQueue := by simp [State.landed]
@[simp] theorem State.landed_testsOn : (s.landed n req e).testsOn = s.testsOn := by simp [State.landed]
@[simp] theorem State.landed_fio : (s.landed n req e).fio = s.fio := by simp [State.landed]
@[simp] theorem State.landed_saf : (s.landed n req e).saf = s.saf := by simp [State.landed]
@[simp] theorem State.landed_can : (s.landed n req e).can = s.can := by simp [State.landed]
@[simp] theorem State.landed_pos : (s.landed n req e).pos = s.pos := by simp [State.landed]
@[simp] theorem State.landed_emits : (s.landed n req e).emits = s.emits := by simp [State.landed]
@[simp] theorem State.landed_loops : (s.landed n req e).loops = s.loops := by simp [State.landed]
@[simp] theorem State.landed_grps : (s.landed n req e).grps = s.grps := by simp [State.landed]
@[simp] theorem State.landed_doors : (s.landed n req e).doors = s.doors := by simp [State.landed]
@[simp] theorem State.landed_met : (s.landed n req e).met = s.met := by simp [State.landed]
@[simp] theorem State.landed_dsp : (s.landed n req e).dsp = s.dsp := by simp [State.landed]
@[simp] theorem State.get_seen (k : Key) : (s.seen n).get k = s.get k := by simp [State.get, State.nat, State.flag]
@[simp] theorem State.nat_seen (k : Key) : (s.seen n).nat k = s.nat k := by simp [State.get, State.nat, State.flag]
@[simp] theorem State.flag_seen (k : Key) : (s.seen n).flag k = s.flag k := by simp [State.get, State.nat, State.flag]
@[simp] theorem State.bit_seen (k : Key) (i : Nat) : (s.seen n).bit k i = s.bit k i := by simp [State.bit]
@[simp] theorem State.blob_seen (k : BKey) : (s.seen n).blob k = s.blob k := by simp [State.blob]
@[simp] theorem State.get_placed (k : Key) : (s.placed n req e).get k = s.get k := by simp [State.get, State.nat, State.flag]
@[simp] theorem State.nat_placed (k : Key) : (s.placed n req e).nat k = s.nat k := by simp [State.get, State.nat, State.flag]
@[simp] theorem State.flag_placed (k : Key) : (s.placed n req e).flag k = s.flag k := by simp [State.get, State.nat, State.flag]
@[simp] theorem State.bit_placed (k : Key) (i : Nat) : (s.placed n req e).bit k i = s.bit k i := by simp [State.bit]
@[simp] theorem State.blob_placed (k : BKey) : (s.placed n req e).blob k = s.blob k := by simp [State.blob]
@[simp] theorem State.get_landed (k : Key) : (s.landed n req e).get k = s.get k := by simp [State.get, State.nat, State.flag]
@[simp] theorem State.nat_landed (k : Key) : (s.landed n req e).nat k = s.nat k := by simp [State.get, State.nat, State.flag]
@[simp] theorem State.flag_landed (k : Key) : (s.landed n req e).flag k = s.flag k := by simp [State.get, State.nat, State.flag]
@[simp] theorem State.bit_landed (k : Key) (i : Nat) : (s.landed n req e).bit k i = s.bit k i := by simp [State.bit]
@[simp] theorem State.blob_landed (k : BKey) : (s.landed n req e).blob k = s.blob k := by simp [State.blob]
theorem State.ses_seen : (s.seen n).ses n = { s.ses n with lastFrame := s.clk } := by simp [State.seen]

theorem State.ses_seen_other (m : Nat) (h : n ≠ m) : (s.seen n).ses m = s.ses m := by
  unfold State.seen
  rw [State.ses_setSes_other _ _ _ _ h]
  rfl

theorem State.ses_placed (m : Nat) : (s.placed n req e).ses m = (s.seen n).ses m := by
  simp [State.placed, State.ses]

theorem State.broadcast_none (oid : Nat) (h : oid < 0xF0000000) : s.broadcast oid = none := by
  unfold State.broadcast
  rw [if_pos (by omega)]

@[simp] theorem State.serving_seen : (s.seen n).serving = s.serving := by
  simp [State.serving, State.up, State.pd, State.ck]

@[simp] theorem State.healthyStandby_seen : (s.seen n).healthyStandby = s.healthyStandby := by simp [State.healthyStandby]

theorem State.mirror_tw (b : BatchItem) : (s.mirror b).tw = { s.tw with openBatch := (s.mirror b).tw.openBatch } := by
  unfold State.mirror
  split <;> rfl

@[simp] theorem State.healthyStandby_mirror (b : BatchItem) : (s.mirror b).healthyStandby = s.healthyStandby := by
  simp only [State.healthyStandby, State.nat_mirror]
  rw [State.mirror_tw]

theorem State.healthyStandby_placed : (s.placed n req e).healthyStandby = s.healthyStandby := by
  unfold State.placed
  simp only [State.healthyStandby_mirror]
  show (s.seen n).healthyStandby = _
  simp

theorem State.placed_plan : (s.placed n req e).tw.plan = s.tw.plan := by
  unfold State.placed
  simp only []
  rw [State.mirror_tw]
  rfl

@[simp] theorem State.writeReq_entries : (s.writeReq n req e).entries = [e] := rfl

@[simp] theorem State.writeReq_route : (s.writeReq n req e).route = .pdp := rfl

/-- The journal takes at most one entry for a write. -/
theorem State.journalOf_length : (s.journalOf e).length ≤ 1 := by
  unfold State.journalOf
  simp only []
  split
  · split
    · split <;> simp
    · simp
  · simp

/-- A write that the committed record does not touch: its own registers stay. -/
@[simp] theorem State.objs_recordCommitted (fpr : BitVec 256) (st : Nat) : (s.recordCommitted fpr req st).objs = s.objs := by
  simp [State.recordCommitted]

/-- In a session that is ready, a write that passes its checks commits at once: it takes effect, is recorded for QUERY and is answered OK. -/
theorem State.hostRow_commit (h : s.Ready n) (hoid : e.oid < 0xF0000000) (hp : e.oid ≠ 0x120)
    (hc : (s.seen n).checkWrite (hostRights n) e = none) (hl : (s.writeReq n req e).loopCmd = false)
    (hd : ∀ o ix, lookup e.oid = some (o, ix) → o.base = 0x20000100 → leNat e.data ≠ 1)
    (hw : (isTxbCtrl e.oid && leNat e.data == 2 && e.ph.isNone) = false)
    (hs : (s.placed n req e).commitStatus (s.writeReq n req e) = .ok)
    (hk : (s.wrote n req e).listens (s.writeReq n req e) = true) :
    s.hostRow n req e = (((s.wrote n req e).recordCommitted (s.ses n).fpr req 0).emit (.resp n 0x11 req 0 [])).drain := by
  obtain ⟨hserv, hstb, hst, hpart, ⟨w1, w2, w3, w4, w5, w6, w7⟩, hhs, hem, hj⟩ := h
  have hses : s.start.ses n = s.ses n := rfl
  have hout : (s.seen n).outstanding n = 0 := by
    simp [State.outstanding, State.seen, State.setSes, State.start, w1, w2, w3, w4, w5, w7]
  have hbeh : (s.seen n).behind n (.write e) = false := by
    simp [State.behind, State.cmdWaits, State.seen, State.setSes, State.start, w1, w2, w3, w5]
  have hx : (s.seen n).acc.waits = [] := w1
  have hproj : (s.seen n).projected = s.seen n := by simp [State.projected, hx]
  have hr : (s.seen n).pdpReq n 0x11 req [e] = { s.writeReq n req e with pos := 0 } := by
    simp [State.pdpReq, State.writeReq, State.ses_seen]
  have hq : ({ s.writeReq n req e with pos := 0 } : PendReq).rights = hostRights n := by
    simp [PendReq.rights, State.writeReq, hostRights, hpart]
  have hb : ∀ t : State, t.broadcast e.oid = none := fun t => t.broadcast_none e.oid hoid
  have hfit : (s.seen n).journalFits [e] = true := by
    have h1 := (s.seen n).journalOf_length e
    have h2 : (s.seen n).acc.journal = s.acc.journal := rfl
    simp [State.journalFits, h2]
    omega
  have hcheck : (s.seen n).checkRequest { s.writeReq n req e with pos := 0 } false = none := by
    unfold State.checkRequest
    rw [hproj, hq]
    simp [State.checkEntries, State.checkEntry, hb, hc, andThen, need, hfit]
  have hnote : (s.seen n).noteRequest { s.writeReq n req e with pos := 0 } none = s.seen n := by
    unfold State.noteRequest
    simp only [State.writeReq_entries, List.foldl_cons, List.foldl_nil]
    cases hlk : lookup e.oid with
    | none => rfl
    | some p =>
      obtain ⟨o, ix⟩ := p
      simp only []
      rw [if_neg]
      intro hh
      exact hd o ix hlk hh.1 hh.2.1
  have hasks : (s.writeReq n req e).asksPlan = false := by simp [PendReq.asksPlan, State.writeReq, hp]
  have henter : (s.seen n).enterRequest { s.writeReq n req e with pos := 0 } = (s.placed n req e).commitReq (s.writeReq n req e) := by
    unfold State.enterRequest
    have hpos : ({ s.writeReq n req e with pos := (s.seen n).acc.pos } : PendReq) = s.writeReq n req e := rfl
    simp only [hpos, hasks, Bool.false_eq_true, false_and, if_false]
    have hitems : (s.writeReq n req e).items.foldl State.mirror { s.seen n with acc := { (s.seen n).acc with pos := (s.seen n).acc.pos + 1 } }
        = s.placed n req e := by
      simp only [PendReq.items, List.map, List.foldl, State.placed, State.writeReq, PendReq.rights, if_true]
    rw [hitems, State.healthyStandby_placed, hhs, State.placed_plan, w6]
    simp
  have hcommit : (s.placed n req e).commitReq (s.writeReq n req e)
      = ((s.wrote n req e).recordCommitted (s.ses n).fpr req 0).emit (.resp n 0x11 req 0 []) := by
    have hrights : (s.writeReq n req e).rights = hostRights n := hq
    have hd' : (s.writeReq n req e).entries.foldl State.drawPhase ([], s.placed n req e) = ([e], s.placed n req e) := by
      simp only [State.writeReq_entries, List.foldl_cons, List.foldl_nil, State.drawPhase, hw, Bool.false_eq_true, if_false, List.nil_append]
    have hr' : ({ s.writeReq n req e with entries := [e] } : PendReq) = s.writeReq n req e := rfl
    have hap : (s.placed n req e).applyEntries (s.writeReq n req e).rights (s.writeReq n req e).entries = s.wrote n req e := by
      rw [hrights]; rfl
    unfold State.commitReq
    simp only [hd', hr', hs, hasks, Bool.false_eq_true, false_and, if_false, hl]
    rw [show (s.placed n req e).applyEntries (s.writeReq n req e).rights [e] = s.wrote n req e from hap]
    simp only [hk, if_true]
    rfl
  unfold State.hostRow State.request
  have hne : (s.ses n).state ≠ 0 := by omega
  have hne1 : (s.ses n).state ≠ 1 := by omega
  have hserv' : s.start.serving = true := by
    rw [← hserv]; rfl
  have hseen : s.start.setSes n { s.ses n with lastFrame := s.start.clk } = s.seen n := rfl
  have hsm : ¬ (s.seen n).mode = .standby := hstb
  simp only [hses, hserv', hseen, hne, hne1, hout, hbeh, Bool.not_true, Bool.false_eq_true, or_false, if_false,
    show ¬ 32 ≤ 0 by omega, State.serve, hr, State.hostWrite, hsm, hcheck, hnote, henter, hcommit]

/-- Two states that differ at most in what a command sends out, in the open batch, and in host access beside the sessions. -/
def State.Like (t a : State) : Prop :=
  t.objs = a.objs ∧ t.blobs = a.blobs ∧ t.mode = a.mode ∧ t.clk = a.clk ∧ t.rcd = a.rcd ∧ t.frz = a.frz ∧ t.pow = a.pow ∧ t.rst = a.rst
    ∧ t.tb = a.tb ∧ t.launches = a.launches ∧ t.acc.sessions = a.acc.sessions ∧ t.acc.live = a.acc.live ∧ t.pts = a.pts ∧ t.cfgValid = a.cfgValid
    ∧ t.testQueue = a.testQueue ∧ t.testsOn = a.testsOn ∧ t.fio = a.fio ∧ t.mem = a.mem ∧ t.saf = a.saf ∧ t.can = a.can ∧ t.pos = a.pos
    ∧ t.loops = a.loops ∧ t.grps = a.grps ∧ t.doors = a.doors ∧ t.met = a.met ∧ t.dsp = a.dsp ∧ t.emits = a.emits

theorem State.Like.refl (t : State) : t.Like t := by simp [State.Like]

section

variable {t a : State} (h : t.Like a)

include h

theorem State.Like.get (k : Key) : t.get k = a.get k := by simp [State.get, h.1]

theorem State.Like.nat (k : Key) : t.nat k = a.nat k := by simp [State.nat, h.get]

theorem State.Like.flag (k : Key) : t.flag k = a.flag k := by simp [State.flag, h.get]

theorem State.Like.bit (k : Key) (i : Nat) : t.bit k i = a.bit k i := by simp [State.bit, h.nat]

theorem State.Like.blob (k : BKey) : t.blob k = a.blob k := by simp [State.blob, h.2.1]

end

theorem State.Like.trans {t a b : State} (h : t.Like a) (g : a.Like b) : t.Like b := by
  simp only [State.Like] at *
  simp_all

theorem State.emit_like (o : Out) : (s.emit o).Like s := ⟨rfl, rfl, rfl, rfl, rfl, rfl, rfl, rfl, rfl, rfl, rfl, rfl, rfl, rfl, rfl, rfl, rfl, rfl, rfl, rfl, rfl, rfl, rfl, rfl, rfl, rfl, rfl⟩

theorem State.mirror_like (b : BatchItem) : (s.mirror b).Like s := by
  unfold State.mirror
  split
  · exact ⟨rfl, rfl, rfl, rfl, rfl, rfl, rfl, rfl, rfl, rfl, rfl, rfl, rfl, rfl, rfl, rfl, rfl, rfl, rfl, rfl, rfl, rfl, rfl, rfl, rfl, rfl, rfl⟩
  · exact .refl s

theorem State.recordCommitted_like (fpr : BitVec 256) (st : Nat) : (s.recordCommitted fpr req st).Like s :=
  (State.mirror_like _ _).trans ⟨rfl, rfl, rfl, rfl, rfl, rfl, rfl, rfl, rfl, rfl, rfl, rfl, rfl, rfl, rfl, rfl, rfl, rfl, rfl, rfl, rfl, rfl, rfl, rfl, rfl, rfl, rfl⟩

theorem State.applyEntries_one (q : Rights) (h : e.oid < 0xF0000000) : (s.applyEntries q [e]).Like (s.applyObject q e) := by
  simp only [State.applyEntries, State.applyEntry, List.foldl_cons, List.foldl_nil, s.broadcast_none e.oid h]
  exact ⟨rfl, rfl, rfl, rfl, rfl, rfl, rfl, rfl, rfl, rfl, rfl, rfl, rfl, rfl, rfl, rfl, rfl, rfl, rfl, rfl, rfl, rfl, rfl, rfl, rfl, rfl, rfl⟩

theorem State.Like.ses {t a : State} (h : t.Like a) (m : Nat) : t.ses m = a.ses m := by
  simp only [State.Like] at h
  simp [State.ses, h]

theorem State.Like.emits {t a : State} (h : t.Like a) : t.emits = a.emits := by
  simp only [State.Like] at h
  simp [h]

/-- A write that passes its checks, whose effect leaves its session open and emits no action: the state is that of the effect, but for
what is sent out and for the books of host access, and the answer is OK. -/
theorem State.hostRow_done (h : s.Ready n) (hoid : e.oid < 0xF0000000) (hp : e.oid ≠ 0x120)
    (hc : (s.seen n).checkWrite (hostRights n) e = none) (hl : (s.writeReq n req e).loopCmd = false)
    (hd : ∀ o ix, lookup e.oid = some (o, ix) → o.base = 0x20000100 → leNat e.data ≠ 1)
    (hs : e.oid ≠ 0x70000003 ∧ e.oid ≠ 0x70000006 ∧ e.oid ≠ 0x00000110) (hw : isTxbCtrl e.oid = false)
    (hx : ((s.placed n req e).applyObject (hostRights n) e).acc.sessions = (s.placed n req e).acc.sessions)
    (hm : ((s.placed n req e).applyObject (hostRights n) e).emits = []) :
    (s.hostRow n req e).Answers n req 0 ∧ (s.hostRow n req e).Like ((s.placed n req e).applyObject (hostRights n) e) := by
  have hst : (s.placed n req e).commitStatus (s.writeReq n req e) = .ok := by
    simp [State.commitStatus, cancelLate, hw, hs.1, hs.2.1, hs.2.2]
  have hlike : ((s.wrote n req e).recordCommitted (s.ses n).fpr req 0).Like ((s.placed n req e).applyObject (hostRights n) e) :=
    (State.recordCommitted_like ..).trans (State.applyEntries_one _ _ _ hoid)
  have h1 : (s.wrote n req e).ses n = { s.ses n with lastFrame := s.clk } := by
    rw [State.Like.ses (show (s.wrote n req e).Like _ from State.applyEntries_one _ _ _ hoid), ← s.ses_seen n, ← s.ses_placed n req e n]
    simp only [State.ses, hx]
  have hk : (s.wrote n req e).listens (s.writeReq n req e) = true := by
    have h2 := h.2.2.1
    have h3 : (s.writeReq n req e).ses = n := rfl
    simp only [State.listens, h3]
    rw [h1]
    simp [State.writeReq, h2]
  rw [s.hostRow_commit n req e h hoid hp hc hl hd (by simp [hw]) hst hk]
  have he : (((s.wrote n req e).recordCommitted (s.ses n).fpr req 0).emit (.resp n 0x11 req 0 [])).emits = [] := by
    rw [State.emit_emits, hlike.emits]
    exact hm
  have hdr : (((s.wrote n req e).recordCommitted (s.ses n).fpr req 0).emit (.resp n 0x11 req 0 [])).drain
      = ((s.wrote n req e).recordCommitted (s.ses n).fpr req 0).emit (.resp n 0x11 req 0 []) := by
    simp only [State.drain, he, List.isEmpty_nil, if_true]
  rw [hdr]
  exact ⟨by simp [State.Answers, State.emit], (State.emit_like ..).trans hlike⟩

/-- In a session that is ready, a write that a check refuses is answered with that refusal, and nothing else happens (R185, R201). -/
theorem State.hostRow_refused (y : Refuse) (h : s.Ready n) (hoid : e.oid < 0xF0000000)
    (hc : (s.seen n).checkWrite (hostRights n) e = some y) (hx : y.excess = none)
    (hd : ∀ o ix, lookup e.oid = some (o, ix) → o.base = 0x20000100 → leNat e.data ≠ 1) :
    s.hostRow n req e = (s.seen n).emit (.resp n 0x11 req y.st.code y.payload) := by
  obtain ⟨hserv, hstb, hst, hpart, ⟨w1, w2, w3, w4, w5, w6, w7⟩, hhs, hem, hj⟩ := h
  have hses : s.start.ses n = s.ses n := rfl
  have hout : (s.seen n).outstanding n = 0 := by
    simp [State.outstanding, State.seen, State.setSes, State.start, w1, w2, w3, w4, w5, w7]
  have hbeh : (s.seen n).behind n (.write e) = false := by
    simp [State.behind, State.cmdWaits, State.seen, State.setSes, State.start, w1, w2, w3, w5]
  have hx' : (s.seen n).acc.waits = [] := w1
  have hproj : (s.seen n).projected = s.seen n := by simp [State.projected, hx']
  have hr : (s.seen n).pdpReq n 0x11 req [e] = { s.writeReq n req e with pos := 0 } := by
    simp [State.pdpReq, State.writeReq, State.ses_seen]
  have hq : ({ s.writeReq n req e with pos := 0 } : PendReq).rights = hostRights n := by
    simp [PendReq.rights, State.writeReq, hostRights, hpart]
  have hb : ∀ t : State, t.broadcast e.oid = none := fun t => t.broadcast_none e.oid hoid
  have hfit : (s.seen n).journalFits [e] = true := by
    have h1 := (s.seen n).journalOf_length e
    have h2 : (s.seen n).acc.journal = s.acc.journal := rfl
    simp [State.journalFits, h2]
    omega
  have hcheck : (s.seen n).checkRequest { s.writeReq n req e with pos := 0 } false = some y := by
    unfold State.checkRequest
    rw [hproj, hq]
    simp [State.checkEntries, State.checkEntry, hb, hc, andThen]
  have hnote : (s.seen n).noteRequest { s.writeReq n req e with pos := 0 } (some y) = s.seen n := by
    unfold State.noteRequest
    simp only [State.writeReq_entries, List.foldl_cons, List.foldl_nil, hx]
    cases hlk : lookup e.oid with
    | none =>
      simp only []
      rw [hproj, hfit]
      simp
    | some p =>
      obtain ⟨o, ix⟩ := p
      have hno : ¬ (o.base = 0x20000100 ∧ leNat e.data = 1 ∧ (y.st == .range || y.st == .noBudget || y.st == .busy) = true) :=
        fun hh => hd o ix hlk hh.1 hh.2.1
      simp only [hno, if_false]
      rw [hproj, hfit]
      simp
  have hans : (s.seen n).answer { s.writeReq n req e with pos := 0 } y.st.code y.payload = (s.seen n).emit (.resp n 0x11 req y.st.code y.payload) :=
    rfl
  unfold State.hostRow State.request
  have hne : (s.ses n).state ≠ 0 := by omega
  have hne1 : (s.ses n).state ≠ 1 := by omega
  have hserv' : s.start.serving = true := by
    rw [← hserv]; rfl
  have hseen : s.start.setSes n { s.ses n with lastFrame := s.start.clk } = s.seen n := rfl
  simp only [hses, hserv', hseen, hne, hne1, hout, hbeh, Bool.not_true, Bool.false_eq_true, or_false, if_false,
    show ¬ 32 ≤ 0 by omega, State.serve, hr, State.hostWrite, show ¬ (s.seen n).mode = .standby from hstb, hcheck, hnote, hans]
  simp [State.drain, hem]

/-- The effect of a write on one object, by its area: the value it carries, and its bytes. -/
def State.areaEffect (s : State) (q : Rights) (r : ObjRow) (e : WEntry) (ix : List Nat) (v : Int) (d : List Byte) : State :=
  let area := r.base / 16777216
  if safetyParam r.base then (s.safetyUsed q.ses).holdParam q.ses e.oid d
  else if area = 0x00 then s.apply00 r e.oid ix v d
  else if area = 0x01 then s.apply01 q r e.oid ix v d e.ph
  else if area = 0x08 then s.apply08 q r e.oid v d
  else if area = 0x10 then s.apply10 r e.oid ix v d
  else if area = 0x20 then s.apply20 r e.oid ix v d
  else if area = 0x40 then s.apply40 q r e ix v d
  else if area = 0x50 then s.apply50 q r e.oid ix v d
  else if area = 0x60 then s.apply60 r e.oid ix v d
  else if area = 0x70 then s.apply70 q r e.oid ix v d e.salt
  else if area = 0x7C then
    (if r.base = 0x7C000103 then s.setSes q.ses { s.ses q.ses with recSel := v.toNat } else s.keep r e.oid d)
  else if area = 0x80 then s.apply80 r e (ix.headD 0) v d
  else if r.base = 0x78000100 then (s.keep r e.oid d).twinFollows
  else s.keep r e.oid d

/-- The bytes that a write gives an object of a row: the reserved fields of a byte string are 0 (R11). -/
def ObjRow.taken (r : ObjRow) (d : List Byte) : List Byte := if r.ty.isBytes then maskOct r.base d else d

/-- The checks of a write to an object of one type: its access code, its length and range, and what its chapter asks (R201). -/
theorem State.checkWrite_plain (q : Rights) (r : ObjRow) (ix : List Nat) (hq : q.part = 0)
    (hlk : lookup e.oid = some (r, ix)) (hex : objectExists r.base ix = true) (hty : r.ty ≠ .point)
    (hacc : s.codeCheck q r ix = none) (hpv : r.base ≠ 0x80000000) (hrel : e.relinq = false) (hdf : e.dflt = false) (hpr : e.prio = 0)
    (hval : valueCheck r r.ty (r.taken e.data) = none) (hl : r.base ≠ 0x08001000) (harm : r.base = 0x10011005 → e.data ≠ [1]) :
    s.checkWrite q e = s.ownerCheck q r ix e (maskBits r.base (r.ty.dec (r.taken e.data))) (r.taken e.data) := by
  have hf : findObject e.oid = some (r, ix) := by simp [findObject, hlk, hex]
  have ht : s.tyOf r ix = some r.ty := by simp [State.tyOf, hty]
  have hd : writeBytes r e.oid r.ty e.dflt e.data = r.taken e.data := by simp [writeBytes, hdf, ObjRow.taken]
  have hwd : s.withDefault e = e := by simp only [State.withDefault, hlk, hdf, Bool.not_false, Bool.true_or, if_true]
  have hpv' : (r.base == 0x80000000) = false := by simp [hpv]
  have hflag : flagCheck q r e = none := by
    simp only [flagCheck, hrel, hdf, hpr, hpv', Bool.false_eq_true, if_false]
    simp [firstOf, andThen, need]
  have hpart : (q.part != 0 && !s.ownObject q.part e.oid) = false := by simp [hq]
  have hco : s.checkObject q e = s.ownerCheck q r ix e (maskBits r.base (r.ty.dec (r.taken e.data))) (r.taken e.data) := by
    unfold State.checkObject
    simp only [hwd, hpart, hf, ht, hrel, hd, Bool.false_eq_true, if_false, hpv, hval, hflag, hacc, firstOf]
    simp only [need, Bool.false_and, Bool.not_false, if_true, andThen]
    cases s.ownerCheck q r ix e (maskBits r.base (r.ty.dec (r.taken e.data))) (r.taken e.data) <;> rfl
  unfold State.checkWrite
  rw [hco]
  have harm' : ¬ (r.base = 0x10011005 ∧ (!e.dflt) = true ∧ e.data = [1]) := fun hh => harm hh.1 hh.2.2
  simp only [hlk, hl, if_false, harm']
  cases s.ownerCheck q r ix e (maskBits r.base (r.ty.dec (r.taken e.data))) (r.taken e.data) <;> rfl

/-- What a write of an object that exists does: the effect of its area on the value it carries. -/
theorem State.applyObject_placed (q : Rights) (r : ObjRow) (ix : List Nat) (t : Ty) (hlk : lookup e.oid = some (r, ix))
    (hex : objectExists r.base ix = true) (ht : (s.landed n req e).tyOf r ix = some t) (hdf : e.dflt = false) :
    (s.placed n req e).applyObject q e =
      (let raw := writeBytes r e.oid t e.dflt e.data
       let v := maskBits r.base (t.dec raw)
       (s.landed n req e).areaEffect q r e ix v (if t.isBytes then raw else t.enc v)) := by
  have hf : findObject e.oid = some (r, ix) := by simp [findObject, hlk, hex]
  have hwd : (s.landed n req e).withDefault e = e := by simp only [State.withDefault, hlk, hdf, Bool.not_false, Bool.true_or, if_true]
  unfold State.applyObject
  rw [show (s.placed n req e).mended e.oid = s.landed n req e from rfl]
  simp only [hwd, hf, ht]
  rfl

/-- The rows whose writes by a host in a ready session are answered at once by the plain rules: a fixed type, an access code open to the
owner, no request for a planned handover, and none whose answer its effect decides. -/
def ObjRow.plain (r : ObjRow) : Bool :=
  r.ty != .point && (r.acc == .rw || r.acc == .wo || r.acc == .rwl || r.acc == .rwp)
    && !(([0x80000000, 0x08001000, 0x08001001, 0x40000003, 0x120, 0x70000003, 0x70000006, 0x110, 0x01780003] : List Nat).contains r.base)

/-- A host write of a plain row that passes its checks: the state is that of its effect, and the answer is OK (R29, R674). -/
theorem State.hostRow_row (oid : Nat) (d : List Byte) (r : ObjRow) (ix : List Nat) (h : s.Ready n) (hlk : lookup oid = some (r, ix))
    (hex : objectExists r.base ix = true) (hr : r.plain = true) (hval : valueCheck r r.ty (r.taken d) = none)
    (hloop : r.acc = .rwl → (s.seen n).loopShut r ix = none)
    (hown : (s.seen n).ownerCheck (hostRights n) r ix { oid := oid, data := d } (maskBits r.base (r.ty.dec (r.taken d))) (r.taken d) = none)
    (harm : r.base = 0x10011005 → d ≠ [1]) (hdoor : r.base = 0x20000100 → leNat d ≠ 1) (a : State)
    (heff : (s.landed n req { oid := oid, data := d }).areaEffect (hostRights n) r { oid := oid, data := d } ix (maskBits r.base (r.ty.dec (r.taken d)))
      (if r.ty.isBytes then r.taken d else r.ty.enc (maskBits r.base (r.ty.dec (r.taken d)))) = a)
    (hx : a.acc.sessions = (s.landed n req { oid := oid, data := d }).acc.sessions) (hm : a.emits = s.emits) :
    ∃ t, s.hostRow n req { oid := oid, data := d } = t ∧ t.Answers n req 0 ∧ t.Like a := by
  simp only [ObjRow.plain, Bool.and_eq_true, bne_iff_ne, ne_eq, Bool.or_eq_true, beq_iff_eq, Bool.not_eq_true', List.contains_eq_mem,
    List.mem_cons, List.not_mem_nil, decide_eq_false_iff_not, not_or] at hr
  obtain ⟨⟨hty, hacc⟩, hb1, hb2, hb3, hb4, hb5, hb6, hb7, hb8, hb9, -⟩ := hr
  have hno : ∀ o (x : ObjRow) l, lookup o = some (x, l) → oid = o → r = x := by
    intro o x l hl ho
    rw [ho, hl] at hlk
    simp at hlk
    exact hlk.1.symm
  have hoid : oid < 0xF0000000 := by
    apply Nat.lt_of_not_le
    intro hge
    have hz : dictArea (oid / 16777216) = [] := by
      have : 0xF0 ≤ oid / 16777216 := by omega
      unfold dictArea
      rw [if_neg (by omega), if_neg (by omega), if_neg (by omega), if_neg (by omega), if_neg (by omega), if_neg (by omega), if_neg (by omega),
        if_neg (by omega), if_neg (by omega), if_neg (by omega), if_neg (by omega), if_neg (by omega), if_neg (by omega)]
    rw [lookup, hz] at hlk
    cases hlk
  have h120 : oid ≠ 0x120 := fun ho => by
    have := hno 0x120 _ _ (show lookup 0x120 = some (⟨0x00000120, [], .u8, .rwp, .num 0, true, .oneOf [1], .request⟩, []) from rfl) ho
    exact hb5 (by rw [this])
  have h7003 : oid ≠ 0x70000003 := fun ho => by
    have := hlk
    rw [ho] at this
    have h2 : (lookup 0x70000003).map (·.1.base) = some 0x70000003 := by decide +kernel
    rw [this] at h2
    simp at h2
    exact hb6 h2
  have h7006 : oid ≠ 0x70000006 := fun ho => by
    have := hlk
    rw [ho] at this
    have h2 : (lookup 0x70000006).map (·.1.base) = some 0x70000006 := by decide +kernel
    rw [this] at h2
    simp at h2
    exact hb7 h2
  have h110 : oid ≠ 0x110 := fun ho => by
    have := hno 0x110 _ _ (show lookup 0x110 = some (⟨0x00000110, [], .u8, .rwp, .num 0, true, .oneOf [1, 3], .request⟩, []) from rfl) ho
    exact hb8 (by rw [this])
  have htx : isTxbCtrl oid = false := by simp [isTxbCtrl, hlk, hb9]
  have hcode : (s.seen n).codeCheck (hostRights n) r ix = none := by
    rcases hacc with ((h | h) | h) | h
    · simp [h, State.codeCheck]
    · simp [h, State.codeCheck]
    · simpa [h, State.codeCheck] using hloop h
    · simp [h, State.codeCheck, hostRights, need]
  have hpo := s.applyObject_placed n req { oid := oid, data := d } (hostRights n) r ix r.ty hlk hex (by simp [State.tyOf, hty]) rfl
  have hpo' : (s.placed n req { oid := oid, data := d }).applyObject (hostRights n) { oid := oid, data := d } = a := by
    rw [hpo, ← heff]
    simp only [writeBytes, Bool.not_false, if_true, ObjRow.taken]
  have hemp : s.emits = [] := h.2.2.2.2.2.2.1
  have hls : (s.landed n req { oid := oid, data := d }).acc.sessions = (s.placed n req { oid := oid, data := d }).acc.sessions := by
    simp [State.landed]
  obtain ⟨h1, h2⟩ := s.hostRow_done n req { oid := oid, data := d } h hoid h120
    (by rw [State.checkWrite_plain (s.seen n) { oid := oid, data := d } (hostRights n) r ix rfl hlk hex hty hcode hb1 rfl rfl rfl hval hb2 harm]
        exact hown)
    (by simp [PendReq.loopCmd, isLoopCmd, hlk, hb4])
    (by intro o jx hl hb; simp only [hlk] at hl; cases hl; exact hdoor hb)
    ⟨h7003, h7006, h110⟩ htx (by rw [hpo', hx, hls]) (by rw [hpo', hm, hemp])
  exact ⟨_, rfl, h1, by rw [hpo'] at h2; exact h2⟩

/-- A host write of a plain row that its chapter refuses: answered with the refusal, and nothing else happens (R201). -/
theorem State.hostRow_denied (oid : Nat) (d : List Byte) (r : ObjRow) (ix : List Nat) (y : Refuse) (h : s.Ready n) (hlk : lookup oid = some (r, ix))
    (hex : objectExists r.base ix = true) (hr : r.plain = true) (hval : valueCheck r r.ty (r.taken d) = none)
    (hloop : r.acc = .rwl → (s.seen n).loopShut r ix = none)
    (hown : (s.seen n).ownerCheck (hostRights n) r ix { oid := oid, data := d } (maskBits r.base (r.ty.dec (r.taken d))) (r.taken d) = some y)
    (hx : y.excess = none) (harm : r.base = 0x10011005 → d ≠ [1]) (hdoor : r.base = 0x20000100 → leNat d ≠ 1) :
    s.hostRow n req { oid := oid, data := d } = (s.seen n).emit (.resp n 0x11 req y.st.code y.payload) := by
  simp only [ObjRow.plain, Bool.and_eq_true, bne_iff_ne, ne_eq, Bool.or_eq_true, beq_iff_eq, Bool.not_eq_true', List.contains_eq_mem,
    List.mem_cons, List.not_mem_nil, decide_eq_false_iff_not, not_or] at hr
  obtain ⟨⟨hty, hacc⟩, hb1, hb2, -⟩ := hr
  have hoid : oid < 0xF0000000 := by
    apply Nat.lt_of_not_le
    intro hge
    have hz : dictArea (oid / 16777216) = [] := by
      have : 0xF0 ≤ oid / 16777216 := by omega
      unfold dictArea
      rw [if_neg (by omega), if_neg (by omega), if_neg (by omega), if_neg (by omega), if_neg (by omega), if_neg (by omega), if_neg (by omega),
        if_neg (by omega), if_neg (by omega), if_neg (by omega), if_neg (by omega), if_neg (by omega), if_neg (by omega)]
    rw [lookup, hz] at hlk
    cases hlk
  have hcode : (s.seen n).codeCheck (hostRights n) r ix = none := by
    rcases hacc with ((h | h) | h) | h
    · simp [h, State.codeCheck]
    · simp [h, State.codeCheck]
    · simpa [h, State.codeCheck] using hloop h
    · simp [h, State.codeCheck, hostRights, need]
  refine s.hostRow_refused n req { oid := oid, data := d } y h hoid ?_ hx ?_
  · rw [State.checkWrite_plain (s.seen n) { oid := oid, data := d } (hostRights n) r ix rfl hlk hex hty hcode hb1 rfl rfl rfl hval hb2 harm]
    exact hown
  · intro o jx hl hb
    simp only [hlk] at hl
    cases hl
    exact hdoor hb

/-- A written number is held as it is (R172, R177). -/
theorem State.keep_num (r : ObjRow) (oid : Nat) (ix : List Nat) (v : Int) (hlk : lookup oid = some (r, ix)) (hk : r.kept ≠ .request)
    (hb : r.ty.isBytes = false) (hdec : r.ty.dec (r.ty.enc v) = v) : s.keep r oid (r.ty.enc v) = s.set ⟨oid, r.numAt oid⟩ v := by
  simp [State.keep, hk, State.setBytes, hlk, hb, hdec]

/-- A written byte string is held as it is (R172, R177). -/
theorem State.keep_oct (r : ObjRow) (oid : Nat) (ix : List Nat) (d : List Byte) (hlk : lookup oid = some (r, ix)) (hk : r.kept ≠ .request)
    (hb : r.ty.isBytes = true) : s.keep r oid d = s.setBlob ⟨oid, r.octAt oid⟩ d := by
  simp [State.keep, hk, State.setBytes, hlk, hb]

end

end Sys2Proof.Machine
end

