-- ==== Sys2Proof/WellFormed.lean ====
section
/-! DEFINITION. Well-formed commands: the operands that a frame, a message or a measurement can carry. The meanings are total: they do
not rest on it. -/

namespace Sys2Proof

/-- A frame of PDP: the payload fits the 32-bit LENGTH (R195). -/
def Frame.wf (f : Frame) : Bool := decide (f.payload.length < 2 ^ 32)

/-- The lengths that a DLC states (R257). -/
def dlcLengths : List Nat := [0, 1, 2, 3, 4, 5, 6, 7, 8, 12, 16, 20, 24, 32, 48, 64]

/-- A frame on a CAN channel: an 11-bit identifier where the frame is not extended, a length that a DLC states, at most 8 bytes without FDF,
no more data than the length, none in a remote frame, and no remote frame with FDF (R257, R263). -/
def CanFrame.wf (f : CanFrame) : Bool :=
  (f.ide || decide (f.id.toNat < 2048)) && dlcLengths.contains f.len.val && (f.fdf || decide (f.len.val ≤ 8))
    && decide (f.data.length ≤ f.len.val) && (!f.rtr || (f.data.isEmpty && !f.fdf)) && (f.fdf || !f.brs)

/-- An object instance, or a device instance, of BACnet has 22 bits (R246, R248). -/
def BacReq.wf (r : BacReq) : Bool :=
  r.items.all (fun i => decide (i.inst < 4194304)) && decide (r.device < 4194304) && decide (r.lo ≤ r.hi ∧ r.hi < 4194304)

/-- A window measures each channel at most once (R461). -/
def WindowIn.wf (w : WindowIn) : Bool :=
  decide ((w.cur.map (fun c => c.ch.val)).Nodup) && decide ((w.vol.map (fun v => v.ch.val)).Nodup)

/-- A voltage in mV, or a capacitance in µF, of an object of 16 bits (R108). -/
def mvOk (mv : Nat) : Bool := decide (mv < 65536)

/-- A temperature in 0.1 °C of an object of 16 bits (R108). -/
def tempOk (t : Int) : Bool := decide (-32768 ≤ t ∧ t ≤ 32767)

/-- A ratio of the strap's voltage to its reference, × 10,000 (R131). -/
def ratioOk (r : Nat) : Bool := decide (r ≤ 10000)

/-- A set of outputs in the layout of the pass map, which has 104 (R568). -/
def passOk (m : BitVec 128) : Bool := decide (m.toNat < 2 ^ 104)

/-- Each word of a memory is scrubbed once in a pass (R623). -/
def wordsOk (l : List (Nat × BitVec 280)) : Bool := decide ((l.map (·.1)).Nodup)

/-- A command is well formed. -/
def Instr.wf (i : Instr) : Bool :=
  match i with
  | .moduleStateReqService _ _ => true
  | .moduleStateReqActive _ _ => true
  | .handoverReq _ _ => true
  | .handoverConfirmTimeout => true
  | .stateDecision => true
  | .launchSubmit _ _ _ => true
  | .launchCancel _ _ _ => true
  | .launchCommit _ _ => true
  | .launchEmit _ _ => true
  | .tagRelease _ _ => true
  | .testStart _ _ _ => true
  | .testStop _ _ dieTemp => tempOk dieTemp
  | .accountShrink _ => true
  | .accountGrow _ => true
  | .activeOutRefresh => true
  | .refreshLapse => true
  | .activeInFall _ _ => true
  | .equinox levels => passOk levels
  | .activeInRise _ => true
  | .readbackWindowEnd _ sense contact => passOk sense && passOk contact
  | .passMap map => passOk map
  | .passAck map => passOk map
  | .latchTimeout bit => decide (bit.val < 104)
  | .abortHo => true
  | .abortAck => true
  | .healthSend => true
  | .health _ _ => true
  | .healthTimeout => true
  | .batchSend => true
  | .batch _ _ => true
  | .confirm _ _ => true
  | .nak _ _ _ => true
  | .mirrorTimeout => true
  | .standbyLost => true
  | .diverge _ _ _ _ => true
  | .diagnosisEnd _ _ => true
  | .diag _ _ _ => true
  | .diagTimeout => true
  | .resyncReq _ _ => true
  | .resyncData _ region _ _ => region == 1 || region == 2
  | .resyncEnd _ phase _ => phase == 1 || phase == 2
  | .pulseTest bit _ _ => decide (bit.val < 104)
  | .twinTimeFrame _ _ _ => true
  | .ilkLoopFault _ => true
  | .twLane _ _ _ _ => true
  | .feedValid _ mv _ => mvOk mv
  | .feedLost _ mv _ => mvOk mv
  | .feedOvervolt _ mv _ => mvOk mv
  | .feedReconnect _ mv _ => mvOk mv
  | .supplyFail mvA mvB _ => mvOk mvA && mvOk mvB
  | .autumnDone _ => true
  | .autumnIncomplete _ => true
  | .bankMeasure mv capUf => mvOk mv && mvOk capUf
  | .springStep => true
  | .coreGroupRetry => true
  | .bankOkTimeout => true
  | .coreSleep _ => true
  | .coreWake _ _ => true
  | .clockLost _ _ => true
  | .clockRestored _ => true
  | .aonFallback _ => true
  | .dieTempReading t => tempOk t
  | .thermalReset t => tempOk t
  | .thermalRelease t => tempOk t
  | .resetReqCold _ _ => true
  | .resetReqWarm _ _ => true
  | .resetReqCore _ _ => true
  | .resetNPress _ => true
  | .resetNRelease _ => true
  | .resetNStuck _ => true
  | .lockstepMismatch => true
  | .appWdog => true
  | .critDse _ _ => true
  | .resetRelease strapRatio => ratioOk strapRatio
  | .strapRetry strapRatio => ratioOk strapRatio
  | .blockRst _ _ _ => true
  | .sync _ _ _ => true
  | .announce _ _ => true
  | .announceTimeout _ => true
  | .holdoverLimit => true
  | .timeStepReq _ _ => true
  | .timeSet _ _ _ => true
  | .solstice => true
  | .lastKnownTimeSave => true
  | .timeMark => true
  | .ceFastTick => true
  | .ceMediumTick => true
  | .ceSlowTick _ => true
  | .ceDeadline _ _ => true
  | .tlsHandshake _ _ => true
  | .openSession _ f => f.wf
  | .closeSession _ f => f.wf
  | .ping _ f => f.wf
  | .readObject _ f => f.wf
  | .writeObject _ f => f.wf
  | .readMany _ f => f.wf
  | .writeMany _ f => f.wf
  | .abortRequest _ f => f.wf
  | .query _ f => f.wf
  | .subscribe _ f => f.wf
  | .unsubscribe _ f => f.wf
  | .notify _ => true
  | .safetyOpen _ f _ => f.wf
  | .safetyClose _ f => f.wf
  | .safetySessionTimeout => true
  | .sessionIdleTimeout _ => true
  | .sessClose _ _ _ _ => true
  | .subscriptionHoldExpiry _ => true
  | .subscriptionLifetimeExpiry _ => true
  | .sdoRequest _ => true
  | .sdoWindow _ => true
  | .broadcastWrite _ _ _ _ _ => true
  | .registerWrite _ _ _ _ _ => true
  | .keptValueWrite _ => true
  | .pointStoreWrite _ _ => true
  | .pointEnable _ _ _ _ => true
  | .pointTypeWrite _ _ _ _ => true
  | .bindingWrite _ _ _ _ _ => true
  | .sourcePoll _ => true
  | .sourceDelivery _ _ _ => true
  | .sinkWrite _ => true
  | .sourceTimeout _ => true
  | .modbusTimeout _ => true
  | .readProperty r => r.wf
  | .readPropertyMultiple r => r.wf
  | .writeProperty r => r.wf
  | .writePropertyMultiple r => r.wf
  | .subscribeCov r => r.wf
  | .whoIs r => r.wf
  | .whoHas r => r.wf
  | .deviceCommunicationControl r => r.wf
  | .timeSynchronization r => r.wf
  | .canCycleStart _ => true
  | .txCopy _ _ => true
  | .canFrameReceive _ f => f.wf
  | .canWindowEnd _ _ => true
  | .canTransmitEnd _ _ => true
  | .canBusOff _ => true
  | .canBusOn _ _ => true
  | .canBusoffReq _ _ _ _ => true
  | .txbRequest _ _ _ _ => true
  | .txbCancel _ _ _ _ _ => true
  | .rxbAck _ _ _ _ _ => true
  | .entDesc _ _ _ _ _ => true
  | .entAck _ _ _ _ _ => true
  | .canMode _ _ _ _ => true
  | .canDetectDwell _ => true
  | .encoderEdge _ _ _ => true
  | .encLineFault _ _ _ => true
  | .zeroTimeout _ _ => true
  | .indexEdge _ => true
  | .ssiFrameStart _ => true
  | .ssiFrameEnd _ _ => true
  | .slipFault _ _ => true
  | .probeEdge _ _ _ _ => true
  | .posAck _ _ _ _ => true
  | .refLanding _ _ _ _ => true
  | .learnUp _ _ _ => true
  | .learnDown _ _ _ => true
  | .learnStop _ _ _ => true
  | .cmpArm _ _ _ _ => true
  | .cmpDisarm _ _ _ _ => true
  | .cmpRearm _ _ _ _ _ _ => true
  | .uplinkFrame _ _ _ => true
  | .uplinkGap _ _ => true
  | .dlHandshakeStep _ _ => true
  | .dlHandshakeRetry _ => true
  | .dlRetrain _ _ _ _ => true
  | .doorEnable _ _ _ _ => true
  | .dlLtReqOwn _ _ _ => true
  | .dlLtReqTwin _ _ _ => true
  | .dlLinetestEnd _ _ => true
  | .dlAck _ _ _ _ => true
  | .lockConfirmed _ => true
  | .doorReopenRequest _ _ => true
  | .dlVbusHigh _ _ => true
  | .loopClose _ _ _ _ => true
  | .loopOpen _ _ _ _ => true
  | .loopClearTrip _ _ _ _ => true
  | .loopEnable _ _ _ _ _ => true
  | .loopFlags _ _ _ _ _ => true
  | .grpMembers _ _ _ _ => true
  | .carCmdOutOfService _ _ _ => true
  | .carCmdPark _ _ _ => true
  | .carCmdServe _ _ _ => true
  | .carFaultAck _ _ _ _ => true
  | .callPointChange _ _ => true
  | .destinationCall _ _ chan => decide (chan < 8)
  | .carOpenRequest _ => true
  | .carProfile _ => true
  | .carStartTimeout _ => true
  | .carDwellExpiry _ => true
  | .carNudgeExpiry _ => true
  | .relevelTrigger _ _ => true
  | .refTripTimeout _ => true
  | .carReturnStep => true
  | .epStartCheck => true
  | .epReturn => true
  | .energySample _ (.formed _) => true
  | .energySample _ (.stream x) => x.bits.length == 512 && x.vbits.length == 512
  | .pulseEmit _ => true
  | .pulseEmitFp _ => true
  | .pulseWidthEnd _ => true
  | .meterWindowEnd w => w.wf
  | .bsgCheck _ _ _ _ => true
  | .islandCheck _ r => r.length == 17
  | .miCalReq _ _ _ _ => true
  | .miCalAbort _ _ _ _ => true
  | .calStep _ _ => true
  | .rotationCheck _ _ _ _ => true
  | .calInterval _ => true
  | .chRegClear _ _ _ _ => true
  | .pulseConfig _ _ _ _ _ => true
  | .periodicSave _ => true
  | .saveLate _ => true
  | .intervalClose => true
  | .intLen _ _ _ => true
  | .energyAck _ _ _ => true
  | .cmReset _ _ _ _ => true
  | .heartbeatReceive _ => true
  | .hbLost => true
  | .sinChange _ input _ => decide (input < 10)
  | .sfReset _ _ _ _ => true
  | .windowMax _ => true
  | .slaCrcCheck _ => true
  | .slaFault _ => true
  | .dstSend _ => true
  | .dstCopy _ _ _ => true
  | .dstCopyWait _ => true
  | .dstSingle _ _ => true
  | .dstTimeout _ => true
  | .safetyPw _ _ _ _ => true
  | .safetyParamWrite _ _ _ _ => true
  | .safetyCommit _ _ => true
  | .safetyDiscard _ _ => true
  | .cfgActivate _ _ _ => true
  | .switchTest _ sw _ => decide (sw < 4)
  | .inputDisagree _ input _ => decide (input < 10)
  | .safetyTestReqTwin _ _ => true
  | .safetyTestReqSelf _ _ => true
  | .safetyTestPeriodic => true
  | .safetyTestDone _ => true
  | .fgSampleTick _ _ => true
  | .fioOut _ _ _ _ => true
  | .fioMode _ _ _ _ => true
  | .fgAck _ _ _ _ => true
  | .fioSag _ mv _ => mvOk mv
  | .fioSupplyRestored _ mv _ => mvOk mv
  | .inputsSuspend _ mv => mvOk mv
  | .inputsResume _ mv _ => mvOk mv
  | .thermalShutdown _ => true
  | .currentLimit _ _ => true
  | .readbackDisagree _ _ _ => true
  | .outputCommit _ => true
  | .fioWdExpired => true
  | .groupPowerUp _ mv => mvOk mv
  | .scrubPass _ words _ => wordsOk words
  | .memDseContained _ _ => true
  | .critParityCheck _ => true
  | .fwLoad _ _ _ => true
  | .fwVerify _ _ _ => true
  | .fwVerifyEnd => true
  | .fwSwitch _ _ _ => true
  | .cfgLoad _ _ _ => true
  | .cfgVerify _ _ _ => true
  | .opcCert _ _ _ _ _ => true
  | .opcUse _ _ _ _ _ => true
  | .eventOffer _ _ _ _ _ => true
  | .recordFlush => true
  | .recRecordsDropped => true
  | .winterNLow _ => true
  | .freezeEntry => true
  | .winterNHigh _ => true
  | .tapReset => true
  | .idcode => true
  | .frzStatus => true
  | .frzAddr _ => true
  | .frzData => true
  | .bypassTap code => decide (code < 256)
  | .powerOn => true
  | .pdAonOff mv => mvOk mv
  | .releaseResetTimeout => true
  | .passAckTimeout => true
  | .contactorFeedbackTimeout _ which => decide (which < 2)
  | .brakeFeedbackTimeout _ => true
  | .stopConditionAbsent _ _ => true
  | .thermalRestart _ => true
  | .covSubscriptionRenewal _ _ => true
  | .sinkWriteRefused _ => true
  | .sinkWriteTimeout _ => true
  | .syncInterval => true
  | .announceInterval => true
  | .delayRequest _ => true
  | .gratuitousArp _ _ => true

end Sys2Proof
end

