-- ==== Sys2Proof/Tests/Slice0.lean ====
section
/-! SUPPORT. Tests of the model: an ill-formed term for each check of `Instr.wf`; and for each statement with hypotheses a concrete state and
operands that meet them, clause by clause, with what the command then does there. Expected values come from the rules that the statements cite. -/

namespace Sys2Proof.Tests

set_option Elab.async false

open Sys2Proof Sys2Proof.Machine

/-- What a command leaves satisfies a condition: it goes on, and the next state meets it. -/
def leaves (i : Instr) (s : State) (p : State → Bool) : Bool := match exec i s with
  | .next t => p t
  | _ => false

/-- A module in SERVICE with every domain on, and an open session of the owner in slot 0. -/
def svc : State :=
  { (((State.reset.setN Oid.PD_STATE 4095).setN Oid.CK_GOOD 4095).setN Oid.STRAP_VALUE 0) with
    mode := .service, cfgValid := true, rst := { asserted := 0, inReset := false, complete := true, reach := 1 }
    pow := { feedA := { valid := true }, awake := 0xFFFF, inService := 0xFFFF, lpddr := true, puOn := 0xFFF }
    acc := { sessions := [(0, { state := 2 })] } }

/-- The same module ACTIVE, asserting ACTIVE_OUT. -/
def act : State := { svc with mode := .active, tw := { activeOut := true } }

/-- The same module ACTIVE beside a healthy standby. -/
def pair : State := { (act.setN Oid.TW_TWIN_STATE 2).setN Oid.TW_TWIN_SUMMARY 0 with tw := { activeOut := true, inStep := true } }

/-- The same module STANDBY. -/
def sby : State := { svc with mode := .standby }

/-- The same module at the end of start-up, before its state decision. -/
def boot : State := { svc.setN Oid.SPRING_STEP 14 with mode := .boot, rst := { svc.rst with complete := false } }

/-- A module held in reset, its sources released, PD-AON and nothing else on. -/
def cold : State := { State.reset with pow := { feedA := { valid := true } } }

/-! ### Ill-formed commands -/

/-- A frame whose payload does not fit its LENGTH. -/
def longFrame : Frame := ⟨0, 1, 0, 0, 0, 0, List.replicate (2 ^ 32) 0, 0, 0⟩

/-- The commands that carry a PDP frame. -/
def framed (f : Frame) : List Instr :=
  [.openSession 0 f, .closeSession 0 f, .ping 0 f, .readObject 0 f, .writeObject 0 f, .readMany 0 f, .writeMany 0 f, .abortRequest 0 f, .query 0 f,
    .subscribe 0 f, .unsubscribe 0 f, .safetyOpen 0 f 0, .safetyClose 0 f]

theorem test_wf_frames : ∀ i ∈ framed longFrame, i.wf = false := by
  have h : longFrame.wf = false := by
    simp only [Frame.wf, longFrame, List.length_replicate]
    decide
  intro i hi
  simp only [framed, List.mem_cons, List.not_mem_nil, or_false] at hi
  rcases hi with rfl | rfl | rfl | rfl | rfl | rfl | rfl | rfl | rfl | rfl | rfl | rfl | rfl <;> exact h

theorem test_wf_frame_good : ∀ i ∈ framed ⟨0, 1, 0, 0, 0, 0, [], 0, 0⟩, i.wf = true := by decide

/-- The commands that carry a BACnet request. -/
def bacnet (r : BacReq) : List Instr :=
  [.readProperty r, .readPropertyMultiple r, .writeProperty r, .writePropertyMultiple r, .subscribeCov r, .whoIs r, .whoHas r,
    .deviceCommunicationControl r, .timeSynchronization r]

theorem test_wf_bacnet :
    (∀ i ∈ bacnet { link := .ip 0, invoke := 0, device := 4194304 }, i.wf = false)
      ∧ (∀ i ∈ bacnet { link := .ip 0, invoke := 0, device := 0, items := [{ type := 0, inst := 4194304, prop := .units }] }, i.wf = false)
      ∧ (∀ i ∈ bacnet { link := .ip 0, invoke := 0, device := 0, lo := 5, hi := 4 }, i.wf = false)
      ∧ (∀ i ∈ bacnet { link := .ip 0, invoke := 0, device := 0, hi := 4194304 }, i.wf = false)
      ∧ (∀ i ∈ bacnet { link := .ip 0, invoke := 0, device := 4194303 }, i.wf = true) := by decide

/-- A classic CAN frame of no data. -/
def frame0 : CanFrame := ⟨0, false, false, false, false, false, 0, [], 0, true, 0⟩

theorem test_wf_can :
    ∀ f ∈ [{ frame0 with id := 2048 }, { frame0 with len := 9, fdf := true }, { frame0 with len := 12 }, { frame0 with data := [0] },
      { frame0 with rtr := true, len := 1, data := [0] }, { frame0 with rtr := true, fdf := true }, { frame0 with brs := true }],
      (Instr.canFrameReceive 0 f).wf = false := by decide

theorem test_wf_can_good :
    ∀ f ∈ [frame0, { frame0 with id := 2048, ide := true }, { frame0 with len := 64, fdf := true, brs := true }, { frame0 with rtr := true, len := 8 }],
      (Instr.canFrameReceive 0 f).wf = true := by decide

/-- A header of a twin frame. -/
def hdr0 : TwinHdr := ⟨0, true, 0, 0, 0, 0, 0, false, false⟩

/-- One measured current, and one voltage. -/
def cur0 : CurWin := ⟨0, 0, 0, 0, 0, 0, 0, 0, 0⟩
def vol0 : VolWin := ⟨0, false, 0, 0, 0, 0⟩

theorem test_wf_other : (∀ i ∈ ([.testStop .selfTest 0 32768, .equinox (1 <<< 104), .readbackWindowEnd .field (1 <<< 104) 0, .readbackWindowEnd .field 0 (1 <<< 104),
        .passMap (1 <<< 104), .passAck (1 <<< 104), .latchTimeout 104, .resyncData hdr0 0 0 [], .resyncData hdr0 3 0 [], .resyncEnd hdr0 0 0,
        .resyncEnd hdr0 3 0, .pulseTest 104 true true] : List Instr), i.wf = false) ∧ (∀ i ∈ ([.feedValid 0 65536 0, .feedLost 0 65536 0, .feedOvervolt 0 65536 0, .feedReconnect 0 65536 0,
        .supplyFail 65536 0 0, .supplyFail 0 65536 0, .bankMeasure 65536 0, .bankMeasure 0 65536, .dieTempReading (-32769), .thermalReset 32768,
        .thermalRelease (-32769), .resetRelease 10001, .strapRetry 10001, .destinationCall 0 0 8] : List Instr), i.wf = false) ∧ (∀ i ∈ ([.meterWindowEnd ⟨[cur0, cur0], [], 0, true⟩,
        .meterWindowEnd ⟨[], [vol0, vol0], 0, true⟩, .islandCheck 0 [], .sinChange 0 10 true, .switchTest 0 4 true, .inputDisagree 0 10 0,
        .fioSag 0 65536 0, .fioSupplyRestored 0 65536 0, .inputsSuspend 0 65536, .inputsResume 0 65536 0, .groupPowerUp 0 65536,
        .energySample 0 (.stream ⟨[], [], 0⟩), .scrubPass 0 [(0, 0), (0, 1)] 0, .bypassTap 256, .pdAonOff 65536, .contactorFeedbackTimeout 0 2] : List Instr), i.wf = false) := by decide

/-- A stream of one sample period carries 512 bits of each bitstream (R453). -/
theorem test_wf_stream (b v : List Bool) (x : BitVec 64) :
    (Instr.energySample 0 (.stream ⟨b, v, x⟩)).wf = (b.length == 512 && v.length == 512) := rfl

theorem test_wf_other_good :
    ∀ i ∈ ([.testStop .selfTest 0 (-32768), .equinox ((1 <<< 104) - 1), .latchTimeout 103, .resyncData hdr0 2 0 [], .resyncEnd hdr0 2 0,
        .feedValid 0 65535 0, .resetRelease 10000, .destinationCall 0 0 7, .meterWindowEnd ⟨[cur0], [vol0], 0, true⟩, .sinChange 0 9 true,
        .islandCheck 0 (List.replicate 17 ⟨0, 0, 0⟩), .switchTest 0 3 true, .scrubPass 0 [(0, 0), (1, 0)] 0, .bypassTap 255,
        .contactorFeedbackTimeout 0 1] : List Instr), i.wf = true := by decide

/-! ### The module as a whole (chapters 00 and 01) -/

theorem test_witness_IdleStep : State.reset.pending = [] ∧ svc.pending = [] ∧ svc.up .net = true ∧ State.reset.up .net = false := by decide

/-- An idle step counts one cycle. -/
theorem test_idle_clk : (match step svc with
    | .next t => decide (t.clk = 8 ∧ t.tb.opFrac = 8192)
    | _ => false) = true := by decide

/-- The front command is taken, and the rest waits. -/
theorem test_front : (match step { svc with pending := [.tapReset, .idcode] } with
    | .next t => decide (t.pending = [.idcode])
    | _ => false) = true := by decide

theorem test_witness_StepKeepsCanonical : Tbl.wf svc.objs ∧ Tbl.wf svc.blobs ∧ Memory.wf svc.mem.image = true ∧ Memory.wf svc.mem.other.image = true
    ∧ Memory.wf svc.mem.slot = true ∧ Memory.wf svc.mem.active = true ∧ (match step svc with
      | .next _ => true
      | _ => false) = true := by
  refine ⟨?_, ?_, ?_⟩
  · show List.Pairwise _ _; decide
  · show List.Pairwise _ _; decide
  · decide

/-- Some checks all hold. -/
def ok (l : List Bool) : Bool := l.all id

/-- A condition of a state. -/
def at' (s : State) (p : State → Bool) : Bool := p s

theorem test_witness_ModuleStateRequests : ok [
    at' (act.setN (Oid.CAR_STATE 3) 2) fun s => decide (s.Ready 0 ∧ s.Room ∧ s.mode = .active ∧ ∀ n : Nat, n < 12 → s.carState n ≤ 2 ∨ s.carState n = 11),
    leaves (.moduleStateReqService 0 7) (act.setN (Oid.CAR_STATE 3) 2)
      fun t => decide (t.Answers 0 7 0 ∧ t.mode = .service ∧ t.carState 3 = 1 ∧ t.Recorded 0x010A 0xFFFF Mode.active.code Mode.service.code 1),
    at' (act.setN (Oid.CAR_STATE 11) 3) fun s => decide (s.Ready 0 ∧ s.Room ∧ s.carState 11 = 3),
    leaves (.moduleStateReqService 0 7) (act.setN (Oid.CAR_STATE 11) 3) fun t => decide (t.Answers 0 7 9 ∧ t.mode = .active),
    at' svc fun s => decide (s.Ready 0 ∧ s.Room ∧ s.mode = .service ∧ s.cfgValid = true),
    leaves (.moduleStateReqActive 0 7) svc fun t => decide (t.Answers 0 7 0 ∧ t.mode = .active),
    at' { svc with cfgValid := false } fun s => decide (s.Ready 0 ∧ s.mode = .service ∧ s.cfgValid = false),
    leaves (.moduleStateReqActive 0 7) { svc with cfgValid := false } fun t => decide (t.Answers 0 7 13 ∧ t.mode = .service)] = true := by
  decide +kernel

/-- A request of session 0. -/
def req0 : PendReq := { pos := 0, route := .pdp, ses := 0, req := 7, op := 0x11, fpr := 0, entries := [], part := 0 }

theorem test_witness_PlannedHandover : ok [
    at' act fun s => decide (s.Ready 0),
    leaves (.handoverReq 0 7) act fun t => decide (t.Answers 0 7 9 ∧ t.tw.plan = none),
    at' pair fun s => decide (s.serving = true ∧ s.mode = .active ∧ 2 ≤ (s.ses 0).state ∧ (s.ses 0).part = 0 ∧ s.NoneWaits ∧ s.healthyStandby = true
      ∧ s.nat Oid.TW_TWIN_SUMMARY = 0 ∧ s.emits = [] ∧ s.acc.journal.length < 65536),
    leaves (.handoverReq 0 7) pair fun t => decide (t.tw.plan = some (0, 0) ∧ t.tw.planReq.isSome = true ∧ t.mode = .active),
    at' { pair with tw := { pair.tw with plan := some (5, 0), planReq := some req0 } } fun s => decide (s.acc.held = [] ∧ s.acc.waits = []
      ∧ s.acc.later = [] ∧ s.emits = [] ∧ req0.route = .pdp),
    leaves .handoverConfirmTimeout { pair with tw := { pair.tw with plan := some (5, 0), planReq := some req0 } }
      fun t => decide (t.tw.plan = none ∧ 2000005 ≤ t.clk ∧ Out.resp 0 0x11 7 9 [] ∈ t.out ∧ t.mode = .active),
    at' sby fun s => decide (s.up .twin = true ∧ s.mode = .standby ∧ s.tw.released = none ∧ s.activeIn = false),
    leaves .abortHo sby fun t => decide (t.tw.guard = none ∧ Out.twin 0x09 0 [] ∈ t.out),
    at' { sby with tw := { released := some (6, 0), abortHo := some (0, 7) } } fun s => decide (s.up .twin = true ∧ s.mode = .standby
      ∧ s.tw.released.isSome = true ∧ s.activeIn = false ∧ s.acc.held = [] ∧ s.acc.waits = [] ∧ s.acc.later = [] ∧ s.emits = [] ∧ s.Room),
    leaves .abortAck { sby with tw := { released := some (6, 0), abortHo := some (0, 7) } } fun t => decide (t.mode = .active ∧ t.tw.activeOut = true
      ∧ t.tw.released = none ∧ Out.resp 0 0x14 7 0 [] ∈ t.out ∧ t.Recorded 0x060F 0xFFFF 1 0 0)] = true := by decide +kernel

theorem test_witness_StateDecision : ok [
    at' (boot.setN Oid.TW_TWIN_STATE 3 |>.setN Oid.TW_TWIN_SUMMARY 1) fun s => decide (s.mayDecide = true ∧ s.Room ∧ s.nat Oid.TW_TWIN_STATE = 3
      ∧ s.nat Oid.TW_TWIN_SUMMARY ≤ 1 ∧ s.frz.low = false),
    leaves .stateDecision (boot.setN Oid.TW_TWIN_STATE 3 |>.setN Oid.TW_TWIN_SUMMARY 1)
      fun t => decide (t.rst.complete = true ∧ t.tb.status = 5 ∧ t.mode = .standby ∧ t.tw.activeOut = false),
    at' { boot with tw := { activeIn := true } } fun s => decide (s.mayDecide = true ∧ s.Room ∧ ({ s with out := [] } : State).prepare.activeIn = true),
    leaves .stateDecision { boot with tw := { activeIn := true } } fun t => decide (t.mode = .boot ∧ t.tw.waiting = true ∧ t.rst.complete = false),
    at' boot fun s => decide (s.mayDecide = true ∧ s.Room ∧ ({ s with out := [] } : State).prepare.activeIn = false
      ∧ ({ s with out := [] } : State).prepare.nat Oid.TW_TWIN_STATE ≠ 3 ∧ ({ s with out := [] } : State).prepare.actsAsA = true),
    leaves .stateDecision boot fun t => decide (t.rst.complete = true ∧ t.tw.activeOut = true),
    at' (boot.setN Oid.STRAP_VALUE 1) fun s => decide (s.mayDecide = true ∧ ({ s with out := [] } : State).prepare.actsAsA = false),
    leaves .stateDecision (boot.setN Oid.STRAP_VALUE 1) fun t => decide (t.mode = .boot ∧ t.tw.watch = some t.clk ∧ t.tw.activeOut = false),
    at' { boot.setN Oid.STRAP_VALUE 1 with tw := { watch := some 3 } } fun s => decide (s.mayDecide = true ∧ s.actsAsA = false ∧ s.cfgValid = true),
    leaves .stateDecision { boot.setN Oid.STRAP_VALUE 1 with tw := { watch := some 3 } }
      fun t => decide (t.rst.complete = true ∧ 250000003 ≤ t.clk ∧ t.tw.activeOut = true ∧ t.mode = .active)] = true := by decide +kernel

/-- A queued self-test. -/
def queued : State := { svc with testQueue := [(.selfTest, 0)] }

/-- A running self-test. -/
def testing : State := { svc with testsOn := [.selfTest], saf := { testAt := some 0 } }

theorem test_witness_TestsAndAccounts : ok [
    at' queued fun s => decide (s.serving = true ∧ s.testReady .selfTest = true ∧ s.testFits 55000 0 = true),
    leaves (.testStart .selfTest 55000 0) queued fun t => decide (t.testsOn = [.selfTest] ∧ t.testQueue = [] ∧ t.mode = .service),
    at' svc fun s => decide (s.serving = true ∧ (s.testReady .selfTest && s.testFits 55000 0) = false),
    at' queued fun s => decide (s.testFits 55000 1 = false),
    leaves (.testStart .selfTest 55000 1) queued fun t => decide (t.testsOn = [] ∧ t.testQueue = [(.selfTest, 0)]),
    at' testing fun s => decide (s.serving = true ∧ .selfTest ∈ s.testsOn),
    leaves (.testStop .selfTest 55001 0) testing fun t => decide (t.testsOn = [] ∧ t.get Oid.DIE_TEMP = 0),
    leaves (.testStop .selfTest 0 1000) testing fun t => decide (t.testsOn = [] ∧ t.get Oid.DIE_TEMP = 1000),
    at' svc fun s => decide (s.booted = true),
    leaves (.accountShrink 0x07) svc fun t => decide (Tbl.get true t.pts.healthy 0x07 = false ∧ t.pts.items = []),
    leaves (.accountGrow 0x1F) { svc with pts := { healthy := [(0x1F, false)] } } fun t => decide (Tbl.get true t.pts.healthy 0x1F = true)] = true := by
  decide +kernel

/-! ### Power and clock domains (chapter 03) -/

/-- A module whose AUTUMN runs, and one whose has ended. -/
def autumnOn : State := { boot with pow := { autumn := .running } }
def autumnOff : State := { State.reset with pow := { autumn := .done } }

theorem test_witness_Feeds : ok [
    at' State.reset fun s => decide (s.pd .aon = true ∧ s.Room ∧ (s.feed 1).disconnected = false ∧ s.pow.autumn ≠ .done ∧ (s.feed 1).valid = false),
    leaves (.feedValid 1 18501 100000) State.reset fun t => decide (t.feed 1 = { valid := true } ∧ t.feed 0 = {} ∧ t.nat Oid.FEED_B_MV = 18501
      ∧ t.Recorded 0x0202 0xFFFF 1 18501 0),
    leaves (.feedValid 1 18500 100000) State.reset fun t => decide (t.feed 1 = {}),
    leaves (.feedValid 1 18501 99999) State.reset fun t => decide (t.feed 1 = {}),
    at' svc fun s => decide (s.pd .aon = true ∧ s.Room ∧ (s.feed 0).valid = true ∧ (s.feed 0).disconnected = false),
    leaves (.feedLost 0 16999 100) svc fun t => decide (t.feed 0 = {} ∧ t.nat Oid.FEED_A_MV = 16999 ∧ t.Recorded 0x0201 0xFFFF 0 16999 0),
    leaves (.feedOvervolt 0 32001 50) svc fun t => decide (t.feed 0 = { disconnected := true } ∧ t.Recorded 0x0203 0xFFFF 0 32001 0),
    at' { svc with pow := { feedB := { disconnected := true } } } fun s => decide ((s.feed 1).disconnected = true ∧ s.pow.autumn ≠ .done),
    leaves (.feedReconnect 1 30999 100000) { svc with pow := { feedB := { disconnected := true } } }
      fun t => decide (t.feed 1 = { valid := true } ∧ t.nat Oid.FEED_B_MV = 30999),
    leaves (.feedReconnect 1 18500 100000) { svc with pow := { feedB := { disconnected := true } } }
      fun t => decide ((t.feed 1).disconnected = false ∧ (t.feed 1).valid = false),
    leaves (.feedReconnect 1 31000 100000) { svc with pow := { feedB := { disconnected := true } } } fun t => decide ((t.feed 1).disconnected = true)] = true := by decide +kernel

/-- A module in SPRING, before a step. -/
def spring (step pd : Nat) : State :=
  { ((State.reset.setN Oid.PD_STATE pd).setN Oid.CK_GOOD pd).setN Oid.SPRING_STEP step with
    rst := { inReset := false, asserted := 0 }, pow := { springOn := true } }

theorem test_witness_Autumn : ok [
    at' act fun s => decide (s.Room ∧ s.pd .aon = true ∧ s.pow.autumn = .none ∧ (s.pow.feedA.valid || s.pow.feedB.valid) = true),
    leaves (.supplyFail 16999 16999 20) act fun t => decide (t.pow.autumn = .running ∧ t.pow.feedA.valid = false ∧ t.nat Oid.PD_STATE = 0x423
      ∧ t.nat Oid.CK_GOOD = 0x423 ∧ t.nat Oid.FEED_B_MV = 16999 ∧ t.Recorded 0x0210 0xFFFF 0 0 0 ∧ t.tw.activeOut = false ∧ t.Recorded 0x0601 0xFFFF 3 0 0 ∧ t.tw.released = some (3, 0)),
    at' (spring 4 3) fun s => decide (s.Room ∧ s.pd .aon = true ∧ s.pow.autumn = .none ∧ s.pow.feedA.valid = false ∧ s.pow.springOn = true),
    leaves (.supplyFail 16999 16999 20) (spring 4 3) fun t => decide (t.pow.autumn = .running ∧ t.nat Oid.PD_STATE = 3 ∧ t.tw.activeOut = false),
    leaves (.supplyFail 17000 16999 20) act fun t => decide (t.pow.autumn = .none),
    at' autumnOn fun s => decide (s.Room ∧ s.pow.autumn = .running ∧ s.pow.feedA.valid = false ∧ s.pow.feedB.valid = false),
    leaves (.autumnDone 0) autumnOn fun t => decide (t.pow.autumn = .done ∧ t.nat Oid.PD_STATE = 1
      ∧ t.Recorded 0x0211 0xFFFF 0 (t.met.lastNum % 8) 0 ∧ (t.met.slots.find (t.met.lastNum % 8)).any (fun x => x.closed) = true),
    leaves (.autumnIncomplete 9) autumnOn fun t => decide (t.pow.autumn = .done ∧ t.pow.openSet = some (t.met.lastNum % 8, 9) ∧ t.nat Oid.PD_STATE = 1),
    at' autumnOff fun s => decide (s.pow.autumn = .done),
    leaves (.pdAonOff 9999) autumnOff fun t => decide (t.nat Oid.PD_STATE = 0 ∧ t.nat Oid.BANK_MV = 9999)] = true := by decide +kernel

/-- Core groups 1 and 3 held back. -/
def held13 : State := { svc with pow := { heldGroups := 0xA, awake := 0xF, inService := 0xF } }

/-- A test charged with 30 W. -/
def crowded : Points := { items := [{ id := 1, kind := .test 1, cls := 3, charges := [(0x40, 30000)] }] }

theorem test_witness_Spring : ok [
    at' (spring 1 1) fun s => decide (s.Room ∧ s.pow.springOn = true ∧ s.rst.inReset = false ∧ s.mode ≠ .frozen ∧ s.rst.strapFault = false
      ∧ s.rst.bootFail = false ∧ s.nat Oid.SPRING_STEP + 1 = 2 ∧ s.pd .sla = false ∧ s.fitsUnits .sla 1 = true),
    leaves .springStep (spring 1 1) fun t => decide (t.pd .sla = true ∧ t.ck .sla = true ∧ t.nat Oid.SPRING_STEP = 2 ∧ t.pd .mem = false),
    leaves .springStep (spring 9 0x41F) fun t => decide (t.pd .bus = true ∧ t.nat Oid.SPRING_STEP = 10),
    at' { spring 9 0x23F with pow := { springOn := true, awake := 0xFFFF, inService := 0xFFFF, puOn := 0xFFF, lpddr := true, charging := true }, pts := crowded }
      fun s => decide (s.pd .bus = false ∧ s.fitsUnits .bus 1 = false ∧ s.Room),
    at' (spring 9 0x11F) fun s => decide (s.pd .bus = true ∧ s.nat Oid.SPRING_STEP + 1 = 10),
    leaves .springStep (spring 9 0x11F) fun t => decide (t.nat Oid.SPRING_STEP = 10 ∧ t.pd .bus = true ∧ t.pd .pos = false),
    at' svc fun s => decide (s.pd .aon = true),
    leaves (.bankMeasure 36000 1799) svc fun t => decide (t.flag Oid.BANK_OK = false ∧ t.nat Oid.BANK_CAP = 1799 ∧ t.pow.charging = true
      ∧ t.Recorded 0x0220 0xFFFF 36000 1799 0),
    leaves (.bankMeasure 36000 1800) svc fun t => decide (t.flag Oid.BANK_OK = true ∧ t.pow.charging = true),
    leaves (.bankMeasure 35999 1800) svc fun t => decide (t.flag Oid.BANK_OK = false),
    leaves (.bankMeasure 40000 1800) svc fun t => decide (t.flag Oid.BANK_OK = true ∧ t.pow.charging = false),
    at' (spring 11 0xFFF) fun s => decide (s.pow.springOn = true ∧ s.pow.bankGiveUp = false ∧ s.flag Oid.BANK_OK = false ∧ s.nat Oid.SPRING_STEP = 11),
    leaves .bankOkTimeout (spring 11 0xFFF) fun t => decide (t.pow.bankGiveUp = true ∧ 2000000000 ≤ t.clk),
    at' held13 fun s => decide (s.pow.heldGroups.getLsbD 1 = true ∧ s.up .app = true ∧ s.get Oid.DIE_TEMP ≤ 950 ∧ s.pow.springOn = false),
    leaves .coreGroupRetry held13 fun t => decide (t.pow.heldGroups = 0x8 ∧ 1000000000 ≤ t.clk ∧ t.pow.awake = 0xFF ∧ t.pow.inService = 0xFF),
    at' (held13.set Oid.DIE_TEMP 951) fun s => decide (950 < s.get Oid.DIE_TEMP),
    leaves .coreGroupRetry (held13.set Oid.DIE_TEMP 951) fun t => decide (t.pow.heldGroups = 0xA ∧ t.pow.awake = 0xF
      ∧ t.Recorded 0x0230 0xFFFF 1 951 0)] = true := by decide +kernel

theorem test_witness_CoresAndClocks : ok [
    at' svc fun s => decide (s.Room ∧ s.up .app = true ∧ s.pow.awake.getLsbD 15 = true ∧ s.nat Oid.APP_MIN_AWAKE < popCount s.pow.awake.toNat 16),
    leaves (.coreSleep 15) svc fun t => decide (t.pow.awake = 0x7FFF ∧ t.nat Oid.APP_CORES_ON = 0x7FFF ∧ 1000 * svc.nat Oid.APP_SLEEP_DELAY ≤ t.clk),
    at' { svc with pow := { svc.pow with awake := 0x3 } } fun s => decide (s.pow.awake.getLsbD 0 = true
      ∧ popCount s.pow.awake.toNat 16 ≤ s.nat Oid.APP_MIN_AWAKE),
    leaves (.coreSleep 0) { svc with pow := { svc.pow with awake := 0x3 } } fun t => decide (t.pow.awake = 0x3),
    at' { svc with pow := { svc.pow with awake := 0xF } } fun s => decide (s.pow.inService.getLsbD 15 = true),
    leaves (.coreWake 15 .timer) { svc with pow := { svc.pow with awake := 0xF } } fun t => decide (t.pow.awake = 0x800F),
    at' svc fun s => decide (s.pd .bus = true ∧ s.ck .bus = true),
    at' svc fun s => decide (s.pd .sla = true ∧ s.ck .sla = true ∧ s.pow.tcxo = true),
    leaves (.clockLost .sla true) svc fun t => decide (t.ck .sla = false ∧ t.Recorded 0x0301 0xFFFF (domBit .sla) 1 0),
    leaves (.clockLost .sla false) svc fun t => decide (t.ck .sla = true),
    leaves (.clockLost .aon false) (svc.setN Oid.CK_GOOD 0x883) fun t => decide (t.pow.tcxo = false ∧ t.nat Oid.CK_GOOD = 3
      ∧ t.Recorded 0x0301 0xFFFF (domBit .dl) 0 0 ∧ t.Recorded 0x0301 0xFFFF (domBit .twin) 0 0),
    leaves (.clockLost .bus true) svc fun t => decide (t.ck .bus = false ∧ t.Recorded 0x0301 0xFFFF (domBit .bus) 1 0
      ∧ ∀ b : Nat, b < 64 → blockDomain b = .bus → t.bit Oid.BLOCK_IN_RST b = true),
    at' (svc.setN Oid.CK_GOOD 1) fun s => decide (s.pd .twin = true ∧ s.ck .twin = false),
    leaves (.clockRestored .twin) (svc.setN Oid.CK_GOOD 1) fun t => decide (t.ck .twin = true ∧ t.Recorded 0x0302 0xFFFF (domBit .twin) 0 0),
    at' { svc.setN Oid.CK_GOOD 1 with pow := { svc.pow with tcxo := false } } fun s => decide (s.ck .sla = false ∧ s.pow.tcxo = false),
    leaves (.clockRestored .sla) { svc.setN Oid.CK_GOOD 1 with pow := { svc.pow with tcxo := false } } fun t => decide (t.ck .sla = true),
    leaves (.clockRestored .twin) { svc.setN Oid.CK_GOOD 1 with pow := { svc.pow with tcxo := false } } fun t => decide (t.ck .twin = false),
    at' svc fun s => decide (s.pd .aon = true ∧ s.pow.aonFallback = true),
    leaves (.aonFallback true) svc fun t => decide (t.pow.aonFallback = false ∧ t.bit Oid.CK_GOOD 0 = true ∧ t.Recorded 0x0303 0xFFFF 0 0 0),
    leaves (.aonFallback false) { svc with pow := { aonFallback := false } } fun t => decide (t.pow.aonFallback = true ∧ t.bit Oid.CK_GOOD 0 = false)]
    = true := by decide +kernel

theorem test_witness_DieTemperature : ok [
    at' svc fun s => decide (s.Room ∧ s.pd .aon = true ∧ s.rst.asserted.getLsbD 14 = false ∧ s.pow.autumn ≠ .running ∧ s.mode ≠ .frozen
      ∧ s.mode ≠ .active ∧ s.rst.pendingRel = none),
    leaves (.dieTempReading 1049) svc fun t => decide (t.get Oid.DIE_TEMP = 1049 ∧ t.pow.hot = false ∧ t.rst.coolSince = none),
    leaves (.dieTempReading 999) svc fun t => decide (t.rst.coolSince = some 0),
    leaves (.thermalReset 1150) svc fun t => decide (t.rst.asserted.getLsbD 14 = true ∧ t.mode = .boot ∧ t.bit Oid.RESET_CAUSE 14 = true),
    at' { boot with rst := { asserted := 0x4000, coolSince := some 2 } } fun s => decide (s.rst.asserted.getLsbD 14 = true),
    leaves (.thermalRelease 999) { boot with rst := { asserted := 0x4000, coolSince := some 2 } }
      fun t => decide (t.rst.asserted = 0 ∧ 10000000002 ≤ t.clk)] = true := by decide +kernel

/-! ### Reset (chapter 04) -/

theorem test_witness_ResetRequests : ok [
    at' svc fun s => decide (s.Ready 0 ∧ s.mode = .service ∧ s.pow.autumn ≠ .running ∧ s.rst.pendingRel = none),
    leaves (.resetReqCold 0 7) svc fun t => decide (t.mode = .boot ∧ t.rst.asserted.getLsbD 6 = true ∧ t.bit Oid.RESET_CAUSE 6 = true
      ∧ t.Recorded 0x0101 0xFFFF 6 1 64),
    leaves (.resetReqWarm 0 7) svc fun t => decide (t.rst.asserted.getLsbD 4 = true ∧ t.Recorded 0x0101 0xFFFF 4 2 16),
    leaves (.resetReqCore 0 7) svc fun t => decide (t.rst.asserted.getLsbD 5 = true ∧ t.Recorded 0x0101 0xFFFF 5 3 32),
    at' act fun s => decide (s.Ready 0 ∧ s.mode = .active),
    leaves (.resetReqCold 0 7) act fun t => decide (t.Answers 0 7 9 ∧ t.mode = .active)] = true := by decide +kernel

theorem test_witness_ResetSources : ok [
    at' svc fun s => decide (s.pow.autumn ≠ .running ∧ s.rst.pendingRel = none ∧ s.mode ≠ .active ∧ s.mode ≠ .frozen ∧ s.rst.resetN = .high
      ∧ s.up .safe = true ∧ s.up .app = true ∧ criticalRegion 0x47 = true ∧ s.booted = true),
    leaves (.resetNPress 20) svc fun t => decide (t.mode = .boot ∧ t.rst.asserted.getLsbD 2 = true),
    leaves .lockstepMismatch svc fun t => decide (t.mode = .boot ∧ t.rst.asserted.getLsbD 8 = true ∧ t.tw.activeOut = false),
    leaves .appWdog svc fun t => decide (t.mode = .boot ∧ t.rst.asserted.getLsbD 9 = true),
    leaves (.critDse 0x47 0) svc fun t => decide (t.mode = .boot ∧ t.rst.asserted.getLsbD 11 = true),
    leaves (.critParityCheck true) svc fun t => decide (t.mode = .boot ∧ t.rst.asserted.getLsbD 10 = true),
    leaves (.critParityCheck false) svc fun t => decide (t.mode = .service ∧ t.rst = svc.rst),
    at' { boot with rst := { boot.rst with resetN := .low, asserted := 4 } } fun s => decide (s.rst.resetN = .low),
    leaves (.resetNRelease 20) { boot with rst := { boot.rst with resetN := .low, asserted := 4 } }
      fun t => decide (t.rst.asserted = 0 ∧ t.rst.resetN = .high ∧ t.nat Oid.RESET_N_STATE = 0),
    leaves (.resetNStuck 8000) { boot with rst := { boot.rst with resetN := .low, asserted := 4 } }
      fun t => decide (t.rst.asserted = 0 ∧ t.rst.resetN = .stuck ∧ t.nat Oid.RESET_N_STATE = 2 ∧ t.Recorded 0x0102 0xFFFF 8000 0 0),
    at' { svc with rst := { svc.rst with resetN := .stuck } } fun s => decide (s.rst.resetN = .stuck),
    leaves (.resetNRelease 100) { svc with rst := { svc.rst with resetN := .stuck } } fun t => decide (t.rst.resetN = .high),
    leaves (.resetNPress 8000) { svc with rst := { svc.rst with resetN := .stuck } } fun t => decide (t.mode = .service)] = true := by decide +kernel

/-- A module that SAFE_BIST has reset, the source noted at 5 ns. -/
def cold2 : State := { cold with rst := { cold.rst with asserted := 0x10, seen := 0x11, reach := 2, atNs := [(4, 5)] } }

theorem test_witness_ResetEnds : ok [
    at' cold fun s => decide (s.rst.inReset = true ∧ s.mode ≠ .frozen ∧ s.pow.autumn ≠ .running ∧ s.rst.asserted = 1 ∧ s.rst.seen = 0
      ∧ s.rst.reach = 0 ∧ s.rst.complete = false ∧ s.releasable 0 = true),
    leaves (.resetRelease 866) cold fun t => decide (t.rst.inReset = false ∧ t.nat Oid.RESET_REACH = 1 ∧ t.nat Oid.RESET_CAUSE = 1
      ∧ t.Recorded 0x0101 0xFFFF 0 1 1),
    at' cold2 fun s => decide (s.rst.inReset = true ∧ s.mode ≠ .frozen ∧ s.pow.autumn ≠ .running ∧ s.rst.reach = 2
      ∧ (∀ b : Nat, b < 32 → s.rst.asserted.getLsbD b = true → b < 15 ∧ s.releasable b = true ∧ s.rst.seen.getLsbD b = true)),
    leaves (.resetRelease 867) cold2 fun t => decide (t.rst.inReset = false ∧ t.nat Oid.RESET_REACH = 2 ∧ 1000005 ≤ t.clk
      ∧ t.nat Oid.STRAP_VALUE = 1),
    leaves (.resetRelease 866) cold fun t => decide (t.rst.inReset = false ∧ t.rst.asserted = 0 ∧ t.pow.springOn = true ∧ t.nat Oid.STRAP_VALUE = 0),
    leaves (.resetRelease 867) cold fun t => decide (t.nat Oid.STRAP_VALUE = 1),
    leaves (.resetRelease 199) cold fun t => decide (t.rst.strapFault = true),
    at' State.reset fun s => decide (s.rst.inReset = true ∧ s.rst.asserted.getLsbD 0 = true ∧ s.releasable 0 = false),
    leaves (.resetRelease 866) State.reset fun t => decide (t.rst.inReset = true ∧ t.rst.asserted.getLsbD 0 = true),
    at' { boot with rst := { boot.rst with strapFault := true, strapAt := 4 } } fun s => decide (s.rst.strapFault = true ∧ s.rst.inReset = false),
    leaves (.strapRetry 9699) { boot with rst := { boot.rst with strapFault := true, strapAt := 4 } }
      fun t => decide (t.rst.strapFault = false ∧ t.nat Oid.STRAP_VALUE = 15 ∧ 1000000004 ≤ t.clk),
    leaves (.strapRetry 9700) { boot with rst := { boot.rst with strapFault := true } } fun t => decide (t.rst.strapFault = true),
    at' { act with rst := { act.rst with pendingRel := some ([9, 5], 4) } } fun s => decide (s.rst.pendingRel = some ([9, 5], 4)),
    leaves .releaseResetTimeout { act with rst := { act.rst with pendingRel := some ([9, 5], 4) } }
      fun t => decide (t.mode = .boot ∧ t.rst.pendingRel = none ∧ 1200004 ≤ t.clk ∧ t.rst.asserted.getLsbD 9 = true ∧ t.rst.asserted.getLsbD 5 = true),
    leaves .powerOn { State.reset with rcd := { heads := [5] } } fun t => decide (t.mode = .boot ∧ t.nat Oid.RESET_CAUSE = 1 ∧ t.rst.seen = 1
      ∧ 4101 ≤ t.rcd.next ∧ t.Recorded 0x0101 0xFFFF 0 1 1)]
    = true := by decide +kernel

theorem test_witness_BlockResets : ok [
    at' svc fun s => decide (s.Ready 0 ∧ s.bit Oid.BLOCK_RST 63 = false ∧ s.blockBusy 36 = false),
    leaves (.blockRst 0 7 (1 <<< 36)) svc fun t => decide (t.nat Oid.BLOCK_RST = 2 ^ 36 ∧ t.bit Oid.BLOCK_IN_RST 36 = true),
    at' ((svc.setN Oid.BLOCK_RST (2 ^ 36)).setN Oid.BLOCK_IN_RST (2 ^ 36)) fun s => decide (s.Ready 0 ∧ s.bit Oid.BLOCK_RST 36 = true
      ∧ s.pd (blockDomain 36) = true ∧ s.ck (blockDomain 36) = true),
    leaves (.blockRst 0 7 0) ((svc.setN Oid.BLOCK_RST (2 ^ 36)).setN Oid.BLOCK_IN_RST (2 ^ 36)) fun t => decide (t.bit Oid.BLOCK_IN_RST 36 = false),
    at' (svc.setN (Oid.CAR_STATE 11) 1) fun s => decide (s.Ready 0 ∧ s.blockBusy 11 = true),
    leaves (.blockRst 0 7 (1 <<< 11)) (svc.setN (Oid.CAR_STATE 11) 1) fun t => decide (t.Answers 0 7 9 ∧ t.nat Oid.BLOCK_RST = 0)] = true := by
  decide +kernel

/-! ### The time base and launches (chapter 05) -/

/-- A follower of a grandmaster on NET1, not yet locked; a holdover; a grandmaster. -/
def follow : State := { svc.setN (Oid.PTP_ROLE 1) 1 with tb := { gm := true, follower := 1, status := 1, good := 15 } }
def holdover : State := { svc with tb := { status := 3 } }
def master : State := { (svc.setN (Oid.PTP_ROLE 0) 2).setN (Oid.PTP_ROLE 1) 0 with tb := { master := true, status := 4 } }

theorem test_witness_TimeFollowing : ok [
    at' follow fun s => decide (s.Room ∧ s.ptpOn 1 = true ∧ s.tb.gm = true ∧ s.tb.follower = 1 ∧ s.twinTimed = false ∧ s.tb.status ≠ 0
      ∧ s.tb.fault = false ∧ 15 ≤ s.tb.good ∧ s.tb.status ≠ 2),
    leaves (.sync 1 (-1000) true) follow fun t => decide (t.tb.status = 2),
    leaves (.sync 1 1001 true) follow fun t => decide (t.tb.status = 1 ∧ t.tb.good = 0),
    leaves (.sync 1 10000000 true) follow fun t => decide (t.tb.status = 1 ∧ t.tb.fault = false),
    leaves (.sync 1 10000001 true) follow fun t => decide (t.tb.status = 4 ∧ t.tb.fault = true ∧ t.Recorded 0x1103 0xFFFF 1 0 0
      ∧ t.Recorded 0x1104 0xFFFF 10000 0 0),
    leaves (.sync 1 0 false) follow fun t => decide (t.tb = follow.tb),
    at' { svc.setN (Oid.PTP_ROLE 0) 1 with tb := { status := 4 } } fun s => decide (s.ptpOn 0 = true ∧ s.portLinked 0 = true ∧ s.announced 1 = false ∧ s.tb.gm = false
      ∧ s.capable = false ∧ s.twinTimed = false ∧ s.emits = []),
    leaves (.announce 0 ⟨5, 128, 6, 0x21, 0, 128, 1, BitVec.ofNat 8 svc.ptpDomain, 9⟩) { svc.setN (Oid.PTP_ROLE 0) 1 with tb := { status := 4 } }
      fun t => decide (t.tb.gm = true ∧ t.tb.follower = 0 ∧ t.tb.status = 1 ∧ t.Recorded 0x1106 0xFFFF 5 0 0),
    at' follow fun s => decide (s.announced 0 = false ∧ s.announced 1 = false ∧ s.synced 0 = false ∧ s.synced 1 = false),
    leaves (.announceTimeout 1) follow fun t => decide (t.tb.status = 3 ∧ t.tb.gm = false ∧ t.Recorded 0x1102 0xFFFF 0 0 0),
    at' { holdover.setN Oid.HOLDOVER_LIMIT 0 with tb := { status := 3 } } fun s => decide (s.tb.status = 3
      ∧ s.tb.holdoverAt + 1000000000 * s.nat Oid.HOLDOVER_LIMIT ≤ s.time),
    leaves .holdoverLimit { holdover.setN Oid.HOLDOVER_LIMIT 0 with tb := { status := 3 } } fun t => decide (t.tb.status = 4
      ∧ t.Recorded 0x1103 0xFFFF 0 0 0),
    at' master fun s => decide (s.tb.master = true ∧ s.twinTimed = false ∧ s.tb.status ≠ 0 ∧ s.tb.fault = false),
    leaves .syncInterval master fun t => decide (t.out = [.ptp 0 master.ptpTransport master.ptpDomain 0 0 (leBytes 8 t.time)]
      ∧ t.tb.seqSync = 1 ∧ master.syncNs ≤ t.clk ∧ t.tb.syncAt = t.clk),
    leaves .announceInterval master fun t => decide (t.tb.seqAnn = 1 ∧ t.out.length = 1 ∧ 1000000000 ≤ t.clk),
    at' follow fun s => decide (s.ptpOn 1 = true ∧ s.tb.master = false ∧ s.tb.gm = true),
    leaves (.delayRequest ⟨1, none⟩) follow fun t => decide (t.out = [.ptp 1 follow.ptpTransport follow.ptpDomain
      (if follow.get Oid.PTP_PROFILE = 1 then 2 else 3) 0 []] ∧ t.tb.seqDelay = 1),
    at' follow fun s => decide (s.ptpOn 1 = true ∧ s.get Oid.PTP_PROFILE ≠ 1),
    leaves (.delayRequest ⟨1, some 9⟩) follow fun t => decide (t.out = [.ptp 1 follow.ptpTransport follow.ptpDomain 5 9 (leBytes 8 0)]),
    at' (master.set Oid.PTP_PROFILE 1) fun s => decide (s.ptpOn 0 = true ∧ s.tb.master = true),
    leaves (.delayRequest ⟨0, some 9⟩) (master.set Oid.PTP_PROFILE 1) fun t => decide (t.out = [.ptp 0 (master.set Oid.PTP_PROFILE 1).ptpTransport
      (master.set Oid.PTP_PROFILE 1).ptpDomain 4 9 (leBytes 8 0)])]
    = true := by decide +kernel

/-- A module in SERVICE after a time fault, whose grandmaster is at 5 s. -/
def faulted : State := { svc with tb := { status := 4, fault := true, gm := true, gmTime := 5000000000 } }

theorem test_witness_TimeSetting : ok [
    at' faulted fun s => decide (s.Room ∧ s.Ready 0 ∧ s.mode = .service ∧ s.carsStill = true ∧ s.tb.status = 4 ∧ s.tb.gm = true ∧ s.launches = []),
    leaves (.timeStepReq 0 7) faulted fun t => decide (t.Answers 0 7 0 ∧ t.time = 5000000000 ∧ t.tb.status = 1 ∧ t.tb.fault = false),
    at' svc fun s => decide (s.Ready 0 ∧ (s.mode == .service && s.carsStill && s.tb.status == 4 && s.tb.fault && s.tb.gm) = false),
    leaves (.timeStepReq 0 7) svc fun t => decide (t.Answers 0 7 9 ∧ t.tb = svc.tb),
    at' { faulted with launches := [{ part := 0, tag := 9, time := 5000000000, target := 0, prio := 0, value := [], order := 0 }] } fun s =>
      decide (s.gmNow = 5000000000 ∧ ∀ l ∈ s.launches, l.live = true → s.gmNow ≤ l.time),
    at' svc fun s => decide (s.mode = .service ∧ s.tb.status = 0),
    leaves (.timeSet 0 7 0xFFFFFFFFFFFFFFFF) svc fun t => decide (t.Answers 0 7 0 ∧ t.time = 2 ^ 64 - 1 ∧ t.tb.status = 4 ∧ t.Recorded 0x1103 0xFFFF 2 0 0),
    at' act fun s => decide (s.Ready 0 ∧ s.mode ≠ .service),
    leaves (.timeSet 0 7 1) act fun t => decide (t.Answers 0 7 9 ∧ t.tb = act.tb),
    at' { svc with tb := { wrapped := true } } fun s => decide (s.tb.wrapped = true ∧ s.pd .aon = true),
    leaves .solstice { svc.setN Oid.SOLSTICE_COUNT 65535 with tb := { wrapped := true } } fun t => decide (t.nat Oid.SOLSTICE_COUNT = 65535
      ∧ t.tb.wrapped = false ∧ ∃ r ∈ t.rcd.ring, r.code = 0x1108 ∧ r.optime = 0 ∧ r.p1 = 65535),
    at' holdover fun s => decide (s.booted = true ∧ 2 ≤ s.tb.status ∧ s.tb.status ≤ 4),
    leaves .lastKnownTimeSave (holdover.setN Oid.LAST_KNOWN_TIME 9) fun t => decide (t.nat Oid.LAST_KNOWN_TIME = t.time ∧ 600000000000 ≤ t.clk),
    leaves .lastKnownTimeSave (holdover.setN Oid.LAST_KNOWN_TIME (2 ^ 60)) fun t => decide (t.nat Oid.LAST_KNOWN_TIME = 2 ^ 60),
    leaves .timeMark svc fun t => decide (t.rcd.lastMark = t.clk ∧ t.Recorded 0x110C 0xFFFF t.time (t.time / 4294967296) 0)] = true := by
  decide +kernel

/-- A descriptor: launch time 1 s, target FIO_OUT of channel 0, tag 9, value 1. -/
def desc1 : List Byte := [1, 0, 0, 0, 0, 0, 0, 0, 0, 0, 0, 0, 0, 0, 1, 0] ++ leBytes 4 9 ++ leBytes 4 (Oid.FIO_OUT 0).oid ++ leBytes 8 1000000000

/-- A waiting launch. -/
def launch1 : Launch := { part := 0, tag := 9, time := 1000000000, target := (Oid.FIO_OUT 0).oid, prio := 0, value := [1], order := 0 }

/-- A module with a time, one output channel, and perhaps launches. -/
def launcher (l : List Launch) : State :=
  { ((act.setN (Oid.FIO_MODE 0) 3).setN (Oid.FIO_SAFE 0) 0) with tb := { status := 2, gm := true }, launches := l, fio := { mode := [(0, 3)] } }

theorem test_witness_Launches : ok [
    at' (launcher []) fun s => decide (s.Ready 0 ∧ desc1.length % 32 = 0 ∧ 32 ≤ desc1.length ∧ desc1.length ≤ 2048
      ∧ (s.atRequest 0).submitCheck { ses := 0 } [] (launchDescs desc1) = none),
    leaves (.launchSubmit 0 7 desc1) (launcher []) fun t => decide (t.Answers 0 7 0 ∧ ∃ l ∈ t.launches, l.tag = 9 ∧ l.time = 1000000000 ∧ l.value = [1]),
    at' (launcher []) fun s => decide (s.Ready 0 ∧ s.tb.status ≠ 0 ∧ s.fioOwner 0 = 0 ∧ s.time + s.nat Oid.LAUNCH_MIN_LEAD * 1000 ≤ 1000000000
      ∧ 1000000000 ≤ s.time + s.nat Oid.LAUNCH_MAX_LEAD * 1000000000 ∧ s.heldTag 0 9 = none ∧ s.acctUsed 0x38 < 16384),
    leaves (.launchSubmit 0 7 desc1) (launcher []) fun t => decide (t.launches = [{ launch1 with order := 0, cls := 3, charges := [] }]),
    at' (launcher [launch1]) fun s => decide (s.Ready 0 ∧ (s.atRequest 0).submitCheck { ses := 0 } [] (launchDescs desc1) ≠ none),
    leaves (.launchSubmit 0 7 desc1) (launcher [launch1]) fun t => decide (t.launches = [launch1]),
    at' (launcher []) fun s => decide (s.heldTag 0 9 = none),
    leaves (.launchCancel 0 7 9) (launcher []) fun t => decide (t.Answers 0 7 1),
    at' (launcher [launch1]) fun s => decide (s.heldTag 0 9 = some launch1 ∧ s.cancelWaits launch1 = false ∧ launch1.state = .waiting ∧ s.time + 100000 < launch1.time),
    leaves (.launchCancel 0 7 9) (launcher [launch1]) fun t => decide (t.Answers 0 7 0 ∧ (t.heldTag 0 9).map (·.state) = some .cancelled),
    leaves (.launchCancel 0 7 9) (launcher [{ launch1 with state := .committed }]) fun t => decide (t.Answers 0 7 10),
    leaves (.launchCancel 0 7 9) (launcher [{ launch1 with time := 100000 }]) fun t => decide (t.Answers 0 7 10),
    at' (launcher [launch1]) fun s => decide (s.emitsLaunches = true ∧ s.Room
      ∧ (({ s with out := [] } : State).reachTime (launch1.time - 100000)).targetCheck { part := 0 } launch1.target 0 [1] = none),
    leaves (.launchCommit 0 9) (launcher [launch1]) fun t => decide ((t.heldTag 0 9).map (·.state) = some .committed ∧ 999900000 ≤ t.time),
    at' (launcher [{ launch1 with target := 0x60FF0001 }]) fun s =>
      decide ((({ s with out := [] } : State).reachTime (launch1.time - 100000)).targetCheck { part := 0 } 0x60FF0001 0 [1] ≠ none),
    leaves (.launchCommit 0 9) ((launcher [{ launch1 with target := 0x60FF0001 }])) fun t => decide ((t.heldTag 0 9).map (·.state) = some .refused),
    at' (launcher [{ launch1 with state := .committed }]) fun s => decide (s.emitsLaunches = true ∧ s.emits = [] ∧ s.fioOwner 0 = 0
      ∧ ∀ y ∈ s.launches, y.live = true → y.time = launch1.time → launch1.order ≤ y.order),
    leaves (.launchEmit 0 9) (launcher [{ launch1 with state := .committed }])
      fun t => decide ((t.heldTag 0 9).map (·.state) = some .emitted ∧ t.flag (Oid.FIO_OUT 0) = true ∧ 1000000000 ≤ t.time),
    at' (launcher [{ launch1 with state := .emitted }]) fun s => decide ((s.heldTag 0 9).map (·.live) = some false),
    leaves (.tagRelease 0 9) (launcher [{ launch1 with state := .emitted }]) fun t => decide (t.heldTag 0 9 = none)] = true := by decide +kernel

/-! ### Host sessions and requests (chapter 06) -/

/-- A frame of an operation with a payload. -/
def pdp (op : Nat) (payload : List Byte) : Frame := ⟨0x4450, 1, BitVec.ofNat 8 op, 7, BitVec.ofNat 32 payload.length, 0, payload, 0, 0⟩

/-- A host certificate, and a map that names it: anchor 0 held, entry 5 by fingerprint, granting partition 0. -/
def cert0 : HostCert := { handshakeOk := true, anchor := some 0, notBefore := 0, notAfter := 100, fpr := 77, commonName := [] }
def mapped : State :=
  { ((((svc.setBlob (Oid.HOST_CA 0) [1]).setBlob (Oid.MAP_FPR 5) (leBytes 32 77)).setBlob (Oid.MAP_PARTS 5) [1]).setN (Oid.MAP_TYPE 5) 1).setN
      Oid.PDP_PORTS 3 with acc := {} }

/-- A connection that the map admits, and one of a claim. -/
def conn : State := { mapped with acc := { sessions := [(0, { state := 1, entry := some 5, fpr := 77, anchor := some 0 })] } }

theorem test_witness_Connections : ok [
    at' mapped fun s => decide (s.Room ∧ s.serving = true ∧ s.runs (.netPort 1) = true ∧ s.bit Oid.PDP_PORTS 1 = true ∧ tlsSupported cert0 = true ∧ s.pairEarly 1 = false
      ∧ s.mapEmpty = false ∧ s.blob (Oid.HOST_CA 0) ≠ [] ∧ s.certValid cert0 = true ∧ s.mapEntry 77 (some 0) [] = some 5 ∧ s.freeSlot = some 0),
    leaves (.tlsHandshake 1 cert0) mapped fun t => decide ((t.ses 0).state = 1 ∧ (t.ses 0).entry = some 5 ∧ t.nat (Oid.SESS_STATE 0) = 1 ∧ t.out = []),
    leaves (.tlsHandshake 1 { cert0 with anchor := none }) mapped fun t => decide (t.acc = mapped.acc ∧ t.out = [.alert 1 48]
      ∧ t.Recorded 0x1003 0xFFFF 1 2 77),
    leaves (.tlsHandshake 1 { cert0 with anchor := some 7 }) mapped fun t => decide (t.out = [.alert 1 48]),
    at' (mapped.setN Oid.LAST_KNOWN_TIME 101) fun s => decide (s.certValid cert0 = false),
    leaves (.tlsHandshake 1 cert0) (mapped.setN Oid.LAST_KNOWN_TIME 101) fun t => decide (t.out = [.alert 1 45]),
    leaves (.tlsHandshake 1 { cert0 with fpr := 78 }) mapped fun t => decide (t.out = [.alert 1 49]),
    at' { svc.setN Oid.PDP_PORTS 1 with acc := {} } fun s => decide (s.mapEmpty = true ∧ s.mode = .service ∧ s.freeSlot = some 0 ∧ s.runs (.netPort 0) = true
      ∧ s.bit Oid.PDP_PORTS 0 = true),
    leaves (.tlsHandshake 0 cert0) { svc.setN Oid.PDP_PORTS 1 with acc := {} } fun t => decide ((t.ses 0).claim = true ∧ t.Recorded 0x1004 0xFFFF 77 0 0),
    at' conn fun s => decide (s.serving = true ∧ s.emits = [] ∧ frameBroken (pdp 1 [0, 0, 0, 0]) = false
      ∧ frameReq (pdp 1 [0, 0, 0, 0]) 0 = some (.openSes 0) ∧ (s.ses 0).state = 1 ∧ s.NoneWaits ∧ s.healthyStandby = false
      ∧ (s.atRequest 0).openCheck 0 0 = none),
    leaves (.openSession 0 (pdp 1 [0, 0, 0, 0])) conn fun t => decide ((t.ses 0).state = 2 ∧ t.nat (Oid.SESS_STATE 0) = 2 ∧ t.Recorded 0x1001 0xFFFF 0 0 0),
    at' conn fun s => decide (((s.atRequest 0).openCheck 0 1).map (·.st.code) = some 7 ∧ frameReq (pdp 1 [1, 0, 0, 0]) 0 = some (.openSes 1)),
    leaves (.openSession 0 (pdp 1 [1, 0, 0, 0])) conn fun t => decide ((t.ses 0).state = 0 ∧ Out.close 0 ∈ t.out ∧ t.Recorded 0x1003 0xFFFF 0 7 77),
    at' svc fun s => decide (2 ≤ (s.ses 0).state ∧ frameReq (pdp 2 []) 0 = some .closeSes ∧ frameReq (pdp 3 []) 0 = some .ping ∧ s.NoneWaits),
    leaves (.closeSession 0 (pdp 2 [])) svc fun t => decide ((t.ses 0).state = 0 ∧ t.out = [.resp 0 2 7 0 [], .close 0] ∧ t.Recorded 0x1002 0xFFFF 0 0 0),
    leaves (.ping 0 (pdp 3 [])) svc fun t => decide (t.out = [.resp 0 3 7 0 (leBytes 8 0)]),
    leaves (.readObject 0 { pdp 0x10 [] with version := 2 }) svc fun t => decide ((t.ses 0).state = 0 ∧ t.out = [.close 0] ∧ t.Recorded 0x1005 0xFFFF 0 16 0),
    leaves (.readObject 0 (pdp 0x10 [0, 0, 0])) svc fun t => decide ((t.ses 0).state = 0 ∧ t.Recorded 0x1005 0xFFFF 0 16 3),
    leaves (.readObject 0 (pdp 0x10 [0, 1, 0, 0])) conn fun t => decide (t.out = [.resp 0 0x10 7 2 []]),
    leaves (.sessionIdleTimeout 0) svc fun t => decide ((t.ses 0).state = 0 ∧ t.out = [.close 0] ∧ 1000000000 * svc.nat Oid.SESSION_IDLE ≤ t.clk
      ∧ t.Recorded 0x1002 0xFFFF 0 1 0),
    leaves (.sessClose 0 7 63 1) { svc with acc := { sessions := [(0, { state := 2 }), (63, { state := 2 })] } }
      fun t => decide (t.Answers 0 7 0 ∧ (t.ses 63).state = 0 ∧ Out.close 63 ∈ t.out ∧ t.Recorded 0x1002 0xFFFF 63 4 0),
    at' svc fun s => decide (s.Ready 0 ∧ (s.ses 63).state = 0),
    leaves (.sessClose 0 7 63 1) svc fun t => decide (t.Answers 0 7 1),
    leaves (.sessClose 0 7 63 2) svc fun t => decide (t.Answers 0 7 4)] = true := by decide +kernel

/-- A frame that asks about one object. -/
def ask (op oid : Nat) : Frame := pdp op (leBytes 4 oid)

/-- A committed write, and a request that waits. -/
def done7 : State := { svc with acc := { svc.acc with committed := [{ fpr := 0, req := 7, status := 4, atNs := 0 }] } }
def wait9 (gen : Option Nat) : State :=
  { act with acc := { act.acc with waits := [{ req0 with req := 9, gen := gen, entries := [{ oid := 0x100 }] }] } }

theorem test_witness_Requests : ok [
    at' svc fun s => decide (s.Ready 0 ∧ frameBroken (ask 0x10 0) = false ∧ frameReq (ask 0x10 5) 0 = some (.read 5) ∧ findObject 5 = none
      ∧ s.broadcast 5 = none ∧ s.mem.badObjs.contains 5 = false),
    leaves (.readObject 0 (ask 0x10 5)) svc fun t => decide (t.out = [.resp 0 0x10 7 1 []]),
    at' svc fun _ => decide ((findObject 0x801).map (·.1.acc) = some .wo),
    leaves (.readObject 0 (ask 0x10 0x801)) svc fun t => decide (t.out = [.resp 0 0x10 7 2 []]),
    leaves (.readObject 0 (ask 0x10 0x100)) svc fun t => decide (t.out = [.resp 0 0x10 7 0 [1]]),
    leaves (.readObject 0 (ask 0x10 0x08000100)) { svc with tb := { now := 5 <<< 32 } } fun t => decide (t.out = [.resp 0 0x10 7 0 (leBytes 8 5)]),
    leaves (.readObject 0 (ask 0x10 Oid.SESSION_IDLE.oid)) svc fun t => decide (t.out = [.resp 0 0x10 7 0 (svc.bytesOf Oid.SESSION_IDLE.oid)]),
    at' svc fun _ => decide (frameReq (pdp 0x12 (List.replicate 260 0)) 0 = some (.readMany (List.replicate 65 0))),
    leaves (.readMany 0 (pdp 0x12 (List.replicate 260 0))) svc fun t => decide (t.out = [.resp 0 0x12 7 4 []]),
    leaves (.readMany 0 (pdp 0x12 (leBytes 4 5))) svc fun t => decide (t.out = [.resp 0 0x12 7 0 [5, 0, 0, 0, 1, 0, 0, 0]]),
    leaves (.readMany 0 (pdp 0x12 (leBytes 4 0x100 ++ leBytes 4 5))) svc fun t => decide (t.out.length = 1 ∧ t.objs = svc.objs),
    at' done7 fun s => decide (s.Ready 0 ∧ frameReq (pdp 0x15 (leBytes 4 7)) 0 = some (.query 7) ∧ (s.ses 0).fpr = 0),
    leaves (.query 0 (pdp 0x15 (leBytes 4 7))) done7 fun t => decide (t.out = [.resp 0 0x15 7 0 [4, 0, 0, 0]]),
    leaves (.query 0 (pdp 0x15 (leBytes 4 8))) done7 fun t => decide (t.out = [.resp 0 0x15 7 1 []]),
    leaves (.query 0 (pdp 0x15 (leBytes 4 7))) { done7 with clk := 600000000000 } fun t => decide (t.out = [.resp 0 0x15 7 1 []]),
    leaves (.abortRequest 0 (pdp 0x14 (leBytes 4 9))) svc fun t => decide (t.out = [.resp 0 0x14 7 1 []]),
    at' (wait9 none) fun s => decide (s.serving = true ∧ 2 ≤ (s.ses 0).state ∧ s.emits = [] ∧ s.acc.held = [] ∧ s.acc.later = [] ∧ s.acc.slow = []
      ∧ s.acc.aborts = [] ∧ s.tw.planReq = none ∧ frameReq (pdp 0x14 (leBytes 4 9)) 0 = some (.abort 9)),
    leaves (.abortRequest 0 (pdp 0x14 (leBytes 4 9))) (wait9 none) fun t => decide (t.acc.waits = [] ∧ t.out = [.resp 0 0x14 7 0 []]),
    leaves (.abortRequest 0 (pdp 0x14 (leBytes 4 9))) (wait9 (some 3)) fun t => decide (t.acc.waits = [] ∧ t.out = []
      ∧ BatchItem.withdraw 0 9 ∈ t.tw.openBatch ∧ t.acc.aborts = [{ ses := 0, req := 7, fpr := 0, victim := 9 }])] = true := by decide +kernel

/-- A write frame, and a WRITE_MANY of entries without priority. -/
def wr (oid : Nat) (d : List Byte) : Frame := pdp 0x11 (leBytes 4 oid ++ [0, 0, 0, 0] ++ d)
def wrMany (l : List (Nat × List Byte)) : Frame :=
  pdp 0x13 (l.flatMap (fun e => leBytes 4 e.1 ++ [0, BitVec.ofNat 8 e.2.length, 0, 0] ++ e.2))

/-- A module with three output channels of group 0, one of them bound. -/
def outs : State := { svc.setN (Oid.FIO_MODE 1) 3 with fio := { mode := [(1, 3)] } }

theorem test_witness_Writes : ok [
    at' svc fun s => decide (s.Ready 0 ∧ frameBroken (wr 5 []) = false
      ∧ frameReq (wr 5 [1]) 0 = some (.write { oid := 5, data := [1] }) ∧ findObject 5 = none ∧ s.broadcast 5 = none),
    leaves (.writeObject 0 (wr 5 [1])) svc fun t => decide (t.Answers 0 7 1 ∧ t.objs = svc.objs),
    leaves (.registerWrite 0 7 5 0 [1]) svc fun t => decide (t.Answers 0 7 1),
    leaves (.broadcastWrite 0 7 5 0 [1]) svc fun t => decide (t.Answers 0 7 1),
    at' svc fun s => decide (((s.atRequest 0).checkEntry { ses := 0 } { oid := 0x100, data := [1] } true).map (·.st.code) = some 2),
    leaves (.registerWrite 0 7 0x100 0 [1]) svc fun t => decide (t.Answers 0 7 2 ∧ t.acc.committed = []),
    at' svc fun s => decide ((s.atRequest 0).checkEntry { ses := 0 } { oid := Oid.SESSION_IDLE.oid, data := leBytes 2 300 } true = none),
    leaves (.writeObject 0 (wr Oid.SESSION_IDLE.oid (leBytes 2 300))) svc
      fun t => decide (t.Answers 0 7 0 ∧ t.nat Oid.SESSION_IDLE = 300 ∧ ∃ c ∈ t.acc.committed, c.req = 7),
    leaves (.registerWrite 0 7 (BitVec.ofNat 32 Oid.HOLDOVER_LIMIT.oid) 0 (svc.bytesOf Oid.HOLDOVER_LIMIT.oid)) svc fun t => decide (t.Answers 0 7 0),
    at' outs fun s => decide (s.Ready 0 ∧ s.fioMode 1 = 3 ∧ s.fioOwner 1 = 0),
    leaves (.broadcastWrite 0 7 0xF0600001 0 [1]) outs fun t => decide (t.Answers 0 7 0 ∧ t.flag (Oid.FIO_OUT 1) = true ∧ t.flag (Oid.FIO_OUT 0) = false),
    at' svc fun _ => decide (frameReq (wrMany (List.replicate 65 (5, []))) 0 = some (.writeMany (List.replicate 65 { oid := 5 }))),
    leaves (.writeMany 0 (wrMany (List.replicate 65 (5, [])))) svc fun t => decide (t.out = [.resp 0 0x13 7 4 []]),
    at' svc fun s => decide ((s.atRequest 0).checkEntries { ses := 0 } true 0 [{ oid := Oid.SESSION_IDLE.oid, data := leBytes 2 300 }] = none
      ∧ (s.atRequest 0).journalFits [{ oid := Oid.SESSION_IDLE.oid, data := leBytes 2 300 }] = true),
    leaves (.writeMany 0 (wrMany [(Oid.SESSION_IDLE.oid, leBytes 2 300)])) svc fun t => decide (t.nat Oid.SESSION_IDLE = 300
      ∧ ∃ c ∈ t.acc.committed, c.req = 7),
    at' svc fun s => decide ((s.atRequest 0).smallEntry { ses := 0 } { oid := Oid.SESSION_IDLE.oid, data := leBytes 2 300 } = none
      ∧ (s.atRequest 0).checkEntry { ses := 0 } { oid := Oid.SESSION_IDLE.oid, data := leBytes 2 300 } false = none),
    leaves (.writeMany 0 (wrMany [(Oid.SESSION_IDLE.oid, leBytes 2 300), (5, [])])) svc
      fun t => decide (Out.resp 0 0x13 7 1 [1] ∈ t.out ∧ t.objs = svc.objs)] = true := by decide +kernel

/-- Point 0 is a binary value. -/
def bv : State := { (svc.setN (Oid.PT_TYPE 0) 6).setN (Oid.PT_ENABLE 0) 1 with pts := { enabled := 1 } }

/-- A subscription of session 0 to PV of point 0. -/
def sub1 : Sub := { handle := 1, part := 0, fpr := 0, point := 0, sub := 0, cls := 2, minInt := 200, inc := 0, life := 60, atNs := 0, ses := some 0 }
def subbed (x : Sub) : State := { bv with pts := { bv.pts with subs := [x], nextHandle := 2 } }

/-- One entry of a SUBSCRIBE: PV of a point, class C, 200 ms. -/
def subBytes (p : Nat) : List Byte := leBytes 4 0 ++ leBytes 4 0 ++ leBytes 4 200 ++ [0, 0, 2, 0] ++ leBytes 4 p

theorem test_witness_Subscriptions : ok [
    at' bv fun s => decide (s.Ready 0 ∧ frameReq (pdp 0x20 (subBytes 0)) 0 = some (.subscribe [⟨0, 0, 2, 200, 0, 0⟩])
      ∧ (s.atRequest 0).subscribeCheck 0 [⟨0, 0, 2, 200, 0, 0⟩] = none),
    leaves (.subscribe 0 (pdp 0x20 (subBytes 0))) bv fun t => decide (t.pts.subs.length = 1 ∧ (t.pts.subs.all (fun x => x.ses == some 0 && x.minInt == 200))),
    at' bv fun s => decide ((s.atRequest 0).subscribeCheck 0 [⟨262144, 0, 2, 200, 0, 0⟩] ≠ none),
    leaves (.subscribe 0 (pdp 0x20 (subBytes 262144))) bv fun t => decide (t.pts.subs = [] ∧ t.out.length = 1),
    at' (subbed sub1) fun s => decide (s.Ready 0 ∧ frameReq (pdp 0x21 (leBytes 4 1)) 0 = some (.unsubscribe [1])),
    leaves (.unsubscribe 0 (pdp 0x21 (leBytes 4 1))) (subbed sub1) fun t => decide (Out.resp 0 0x21 7 0 [] ∈ t.out ∧ t.pts.subs = []),
    leaves (.unsubscribe 0 (pdp 0x21 (leBytes 4 2))) (subbed sub1) fun t => decide (t.pts.subs = [sub1] ∧ t.out.length = 1),
    at' (subbed sub1) fun s => decide (s.pts.subs.find? (fun y => y.handle == 1) = some sub1 ∧ s.serving = true ∧ s.mode ≠ .standby ∧ sub1.resync = true),
    leaves (.notify 1) (subbed sub1) fun t => decide (t.out = [.notify 0 1 ((subbed sub1).notifyPayload sub1)] ∧ t.clk = 0),
    at' (subbed { sub1 with resync := false }) fun s => decide (s.nat (Oid.PT_STATUS 0) = 0),
    leaves (.notify 1) (subbed { sub1 with resync := false }) fun t => decide (t.out = []),
    at' (subbed { sub1 with resync := false, changes := 1 }) fun s => decide (s.notable { sub1 with resync := false, changes := 1 } = true),
    leaves (.notify 1) (subbed { sub1 with resync := false, changes := 1 }) fun t => decide (t.out.length = 1 ∧ 200000000 ≤ t.clk),
    leaves (.subscriptionHoldExpiry 1) (subbed { sub1 with ses := none, closedAt := 8 }) fun t => decide (t.pts.subs = [] ∧ 30000000008 ≤ t.clk),
    leaves (.subscriptionLifetimeExpiry 1) (subbed sub1) fun t => decide (t.pts.subs = [] ∧ 60000000000 ≤ t.clk)] = true := by decide +kernel

/-! ### Points (chapter 07) -/

/-- The bytes of a binding: KIND, PORT, ALT_PORT, the three addresses, PERIOD. -/
def bind (kind port alt a1 a2 a3 per : Nat) : List Byte :=
  leBytes 2 per ++ leBytes 2 a3 ++ leBytes 4 a2 ++ leBytes 4 a1 ++ [0] ++ leBytes 1 alt ++ leBytes 1 port ++ leBytes 1 kind

/-- An internal binding to an object, and one to a BACnet device on NET0. -/
def inner (oid per : Nat) : List Byte := bind 6 0xFF 0xFF oid 0 0 per
def outer (per : Nat) : List Byte := bind 3 0 0xFF 4194302 0 0 per

/-- Point 0 typed and disabled. -/
def typed (t : Nat) : State := svc.setN (Oid.PT_TYPE 0) t

/-- What leaves keeps the points as they were. -/
def samePts (t s : State) : Bool := decide (t.pts.enabled = s.pts.enabled ∧ t.pts.items = s.pts.items ∧ t.pts.aux = s.pts.aux)

theorem test_witness_PointWrites : ok [
    at' (typed 6) fun s => decide (s.Ready 0 ∧ s.enabledPt 0 = false ∧ s.ptType 0 ≠ 0 ∧ s.pts.enabled < 250000
      ∧ (s.atRequest 0).admits (fun _ => false) (s.itemsOf 0) = none),
    leaves (.pointEnable 0 7 0 1) (typed 6) fun t => decide (t.Answers 0 7 0 ∧ t.enabledPt 0 = true ∧ t.pts.enabled = 1 ∧ (t.ptAux 0).sinkDue = true),
    leaves (.pointEnable 0 7 0 1) svc fun t => t.Answers 0 7 3 && samePts t svc,
    at' { typed 6 with pts := { enabled := 250000 } } fun s => decide (250000 ≤ s.pts.enabled),
    leaves (.pointEnable 0 7 0 1) { typed 6 with pts := { enabled := 250000 } } fun t => decide (t.Answers 0 7 9),
    leaves (.pointEnable 0 7 0 0) bv fun t => decide (t.Answers 0 7 0 ∧ t.enabledPt 0 = false ∧ t.pts.enabled = 0),
    at' ((typed 6).setN (Oid.PT_PV 0) 1) fun s => decide (s.formatFits 11 (s.srcOf 0) = true ∧ s.formatFits 11 (s.sinkOf 0) = true
      ∧ s.instanceTaken 0 (s.nat (Oid.PT_PARTITION 0)) (s.nat (Oid.PT_BACNET_INSTANCE 0)) = false),
    leaves (.pointTypeWrite 0 7 0 11) ((typed 6).setN (Oid.PT_PV 0) 1) fun t => decide (t.Answers 0 7 0 ∧ t.ptType 0 = 11 ∧ t.get (Oid.PT_PV 0) = 0),
    leaves (.pointTypeWrite 0 7 0 12) svc fun t => decide (t.Answers 0 7 4),
    leaves (.pointTypeWrite 0 7 0 0) bv fun t => decide (t.Answers 0 7 9 ∧ t.ptType 0 = 6),
    at' (typed 6) fun s => decide (s.bindingOk (bindingOf (inner 0x100 5)) = true ∧ bindingUsed 6 false (bindingOf (inner 0x100 5)) = true
      ∧ s.mappingFits false (bindingOf (inner 0x100 5)) = true ∧ s.classOk (s.nat (Oid.PT_CLASS 0)) (bindingOf (inner 0x100 5)) = true
      ∧ s.formatFits 6 (bindingOf (inner 0x100 5)) = true),
    leaves (.bindingWrite 0 7 0 false ((inner 0x100 5).set 12 9)) (typed 6) fun t => decide (t.Answers 0 7 0 ∧ t.blob (Oid.PT_SOURCE 0) = inner 0x100 5),
    at' svc fun s => decide (s.bindingOk (bindingOf (bind 1 0xFF 0xFF 64 0 0 0)) = false),
    leaves (.bindingWrite 0 7 0 true (bind 1 0xFF 0xFF 64 0 0 0)) svc fun t => decide (t.Answers 0 7 4 ∧ t.blobs = svc.blobs),
    leaves (.bindingWrite 0 7 0 true [0]) svc fun t => decide (t.Answers 0 7 3)] = true := by decide +kernel

/-- Point 0 enabled with a type, a source and a sink. -/
def pt (t : Nat) (src sink : List Byte) (a : PtAux := {}) : State :=
  { ((((svc.setN (Oid.PT_TYPE 0) t).setN (Oid.PT_ENABLE 0) 1).setBlob (Oid.PT_SOURCE 0) src).setBlob (Oid.PT_SINK 0) sink) with
    pts := { enabled := 1, aux := [(0, a)] } }

/-- No binding. -/
def none16 : List Byte := List.replicate 16 0

theorem test_witness_SourcesAndSinks : ok [
    leaves (.keptValueWrite 0x60000001) (svc.setN (Oid.FIO_OUT 0) 1) fun t => decide (Tbl.get 0 t.acc.live 0x60000001 = 1),
    at' svc fun _ => decide ((findObject (Oid.CAR_LANDING 0).oid).isSome = true),
    at' bv fun s => decide (s.booted = true ∧ ({ bv with pts := { bv.pts with aux := [(0, { dirty := 0x10001 })] } } : State).booted = true),
    leaves (.pointStoreWrite 0 16) { bv with pts := { bv.pts with aux := [(0, { dirty := 0x10001 })] } } fun t => decide ((t.ptAux 0).dirty = 1),
    leaves (.pointStoreWrite 0 0) { (bv.setN (Oid.PT_PA_MASK 0) 1).setN (Oid.PT_PRIORITY_SLOT 0 0) 1 with
        pts := { bv.pts with aux := [(0, { dirty := 1 })] } }
      fun t => decide ((t.ptAux 0).dirty = 0 ∧ (t.ptAux 0).storeMask.testBit 0 = true ∧ Tbl.get 0 (t.ptAux 0).storeSlots 1 = 1),
    at' (pt 4 (outer 5) none16) fun s => decide (s.sourceLive 0 = true ∧ (s.srcOf 0).period = 5 ∧ (s.srcOf 0).kind = 3 ∧ s.drives = true),
    leaves (.sourcePoll 0) (pt 4 (outer 5) none16) fun t => decide (t.out = [.poll 0] ∧ (t.ptAux 0).polling = true ∧ 50000000 ≤ t.clk),
    leaves (.sourcePoll 0) (pt 4 (inner 0x100 5) none16) fun t => decide (t.out = [] ∧ (t.ptAux 0).polling = false ∧ 50000000 ≤ t.clk),
    leaves (.sourceTimeout 0) (pt 4 (outer 5) none16) fun t => decide ((t.ptAux 0).srcFault = true ∧ 150000000 ≤ t.clk),
    at' (pt 4 (outer 5) none16) fun s => decide (pointTy (s.ptType 0) = some .bool ∧ s.ptValid 0 (Ty.bool.dec [1]) = true ∧ isInput (s.ptType 0) = true),
    leaves (.sourceDelivery 0 [1] true) (pt 4 (outer 5) none16 { polling := true })
      fun t => decide (t.get (Oid.PT_PV 0) = 1 ∧ (t.ptAux 0).polling = false ∧ (t.ptAux 0).srcFault = false),
    leaves (.sourceDelivery 0 [1] true) ((pt 4 (outer 5) none16).setN (Oid.PT_OUT_OF_SERVICE 0) 1) fun t => decide (t.get (Oid.PT_PV 0) = 0),
    leaves (.sourceDelivery 0 [1] true) (pt 6 (outer 5) none16) fun t => decide (t.get (Oid.PT_PRIORITY_SLOT 0 15) = 1 ∧ t.bit (Oid.PT_PA_MASK 0) 15 = true),
    leaves (.sourceDelivery 0 [1] false) (pt 4 (outer 0) none16) fun t => decide (t.get (Oid.PT_PV 0) = 0 ∧ (t.ptAux 0).srcFault = true),
    leaves (.sourceDelivery 0 [1] false) (pt 4 (outer 5) none16) fun t => decide ((t.ptAux 0).srcFault = false),
    at' (pt 4 (bind 4 0 0xFF 0 0 0x0100 5) none16 { polling := true }) fun s => decide (s.sourceLive 0 = true ∧ (s.srcOf 0).kind = 4 ∧ (s.ptAux 0).polling = true),
    leaves (.modbusTimeout 0) (pt 4 (bind 4 0 0xFF 0 0 0x0100 5) none16 { polling := true }) fun t => decide ((t.ptAux 0).polling = false ∧ 1000000000 ≤ t.clk),
    at' (pt 4 (bind 4 0 0xFF 0 0 0x0108 5) none16) fun s => decide ((s.srcOf 0).kind = 4 ∧ s.fromModbus 0 8 [1] = some 1 ∧ s.givesWay 0 false = false),
    leaves (.sourceDelivery 0 [1] true) (pt 4 (bind 4 0 0xFF 0 0 0x0108 5) none16) fun t => decide (t.get (Oid.PT_PV 0) = 1),
    at' (pt 9 (bind 4 0 0xFF 0 0 0x0300 5) none16) fun s => decide (s.fromModbus 0 0 [1, 2] = some 258 ∧ s.fromModbus 0 2 [0, 0, 1, 2] = some 258
      ∧ s.fromModbus 0 3 [1, 2, 0, 0] = some 258 ∧ s.fromModbus 0 1 [0xFF, 0xFF] = none),
    at' (pt 9 none16 (bind 4 0 0xFF 0 0 0x0600 0) { sinkDue := true, sinkWait := some 3 }) fun s => decide (s.sinkLive 0 = true ∧ (s.sinkOf 0).kind = 4
      ∧ (s.ptAux 0).polling = false ∧ s.itemDegraded 0 true = false),
    leaves (.modbusTimeout 0) (pt 9 none16 (bind 4 0 0xFF 0 0 0x0600 0) { sinkWait := some 3 })
      fun t => decide ((t.ptAux 0).sinkFault = true ∧ (t.ptAux 0).sinkWait = none ∧ 1000000003 ≤ t.clk),
    leaves (.sinkWrite 0) ((pt 9 none16 (bind 4 0 0xFF 0 0 0x0600 0) { sinkDue := true }).setN (Oid.PT_PV 0) 258)
      fun t => decide (t.out = [.sink 0 [1, 2]] ∧ t.pts.modbusTcp = [(0, 0)]),
    at' (pt 6 none16 (bind 1 0xFF 0xFF 2 0 0 0) { sinkDue := true }) fun s => decide (s.sinkLive 0 = true ∧ (s.sinkOf 0).kind = 1
      ∧ s.givesWay 0 true = false ∧ pointTy (s.ptType 0) = some .bool ∧ convert .bool .bool 1 = some 1),
    leaves (.sinkWrite 0) ((pt 6 none16 (bind 1 0xFF 0xFF 2 0 0 0) { sinkDue := true }).setN (Oid.PT_PV 0) 1)
      fun t => decide (t.flag (Oid.FIO_OUT 2) = true ∧ (t.ptAux 0).sinkDue = false ∧ t.out = []),
    leaves (.sourcePoll 0) (pt 4 (bind 1 0xFF 0xFF 2 0 0 5) none16) fun t => decide (t.out = [] ∧ (t.ptAux 0).pollAt = t.clk ∧ 50000000 ≤ t.clk),
    at' (pt 4 (outer 0) none16) fun s => decide (s.sourceLive 0 = true ∧ s.drives = true ∧ (s.srcOf 0).kind = 3 ∧ (s.srcOf 0).period = 0),
    leaves (.covSubscriptionRenewal 0 false) (pt 4 (outer 0) none16) fun t => decide ((t.ptAux 0).srcFault = true ∧ t.out = [.covSubscribe 0]),
    leaves (.covSubscriptionRenewal 0 true) (pt 4 (outer 0) none16) fun t => decide ((t.ptAux 0).srcFault = false ∧ t.out = [.covSubscribe 0]),
    at' (pt 6 none16 (outer 0) { sinkDue := true }) fun s => decide (s.sinkLive 0 = true ∧ (s.ptAux 0).sinkDue = true ∧ s.emits = [] ∧ (s.sinkOf 0).kind = 3),
    leaves (.sinkWrite 0) ((pt 6 none16 (outer 0) { sinkDue := true }).setN (Oid.PT_PV 0) 1)
      fun t => decide (t.out = [.sink 0 [1]] ∧ (t.ptAux 0).sinkDue = false ∧ (t.ptAux 0).sinkWait = some t.clk ∧ 100000000 ≤ t.clk),
    at' (pt 9 none16 (inner Oid.HOLDOVER_LIMIT.oid 1) { sinkDue := true }) fun s => decide (s.sinkLive 0 = true ∧ (s.sinkOf 0).kind = 6
      ∧ pointTy (s.ptType 0) = some .u16 ∧ (s.targetTy (s.sinkOf 0).addr1).isSome = true),
    leaves (.sinkWrite 0) ((pt 9 none16 (inner Oid.HOLDOVER_LIMIT.oid 1) { sinkDue := true }).setN (Oid.PT_PV 0) 60)
      fun t => decide (t.nat Oid.HOLDOVER_LIMIT = 60 ∧ (t.ptAux 0).sinkFault = false),
    at' svc fun s => decide (convert .u64 .u8 256 = none ∧ (s.targetTy Oid.SDO_ENABLE.oid) = some .u8),
    leaves (.sinkWrite 0) ((pt 11 none16 (inner Oid.SDO_ENABLE.oid 1) { sinkDue := true }).setN (Oid.PT_PV 0) 256)
      fun t => decide ((t.ptAux 0).sinkFault = true ∧ (t.ptAux 0).sinkDue = false),
    at' (pt 6 none16 (outer 0) { sinkWait := some 3 }) fun s => decide (s.sinkLive 0 = true ∧ (s.ptAux 0).sinkWait = some 3),
    leaves (.sinkWriteRefused 0) (pt 6 none16 (outer 0) { sinkWait := some 3 }) fun t => decide ((t.ptAux 0).sinkFault = true ∧ (t.ptAux 0).sinkWait = none),
    leaves (.sinkWriteTimeout 0) (pt 6 none16 (outer 0) { sinkWait := some 3 }) fun t => decide ((t.ptAux 0).sinkFault = true ∧ 3 < t.clk)]
    = true := by decide +kernel

/-- A module that serves the SDO route on channel 0, reading or writing. -/
def sdo (en : Nat) : State :=
  { ((act.setN Oid.SDO_ENABLE en).setN (Oid.CAN_MODE 0) 3).setN Oid.SDO_NODE_ID 1 with can := [(0, { mode := 3 })] }

/-- A request to node 1. -/
def sdoReq (index : BitVec 16) (sub : Byte) (write : Option (List Byte)) : SdoReq := { index := index, sub := sub, write := write }

/-- The window and index of SESSION_IDLE. -/
def idleWin : Nat := Oid.SESSION_IDLE.oid / 16777216 * 16 + Oid.SESSION_IDLE.oid / 1048576 % 16
def idleIdx : BitVec 16 := BitVec.ofNat 16 (0x3000 + Oid.SESSION_IDLE.oid / 256 % 4096)
def idleSub : Byte := BitVec.ofNat 8 Oid.SESSION_IDLE.oid

theorem test_witness_SdoRoute : ok [
    at' svc fun s => decide (s.sdoServes = false ∧ s.emits = []),
    leaves (.sdoRequest (sdoReq 0x2F00 0 none)) svc fun t => decide (t.out = []),
    leaves (.sdoWindow 1) svc fun t => decide (t.acc.sdoWindow = 0),
    at' (sdo 1) fun s => decide (s.sdoServes = true ∧ s.emits = [] ∧ s.nat Oid.SDO_NODE_ID = 1),
    leaves (.sdoRequest { sdoReq 0x2F00 0 none with cob := 0x602 }) (sdo 1) fun t => decide (t.out = []),
    leaves (.sdoRequest { sdoReq 0x3001 0 none with block := true }) (sdo 1) fun t => decide (t.out = [.sdo 0x581 0x3001 0 0x05040001 []]),
    leaves (.sdoWindow 0x7FF) (sdo 1) fun t => decide (t.acc.sdoWindow = 0x7FF ∧ t.out = [.sdo 0x581 0x2F00 0 0 []]),
    leaves (.sdoWindow 0x800) (sdo 1) fun t => decide (t.acc.sdoWindow = 0 ∧ t.out = [.sdo 0x581 0x2F00 0 0x06090030 []] ∧ t.nat Oid.SDO_LAST_STATUS = 4),
    leaves (.sdoRequest (sdoReq 0x2F00 0 none)) (sdo 1) fun t => decide (t.out = [.sdo 0x581 0x2F00 0 0 [0, 0]]),
    leaves (.sdoRequest (sdoReq 0x3001 0 none)) (sdo 1) fun t => decide (t.out = [.sdo 0x581 0x3001 0 0 [3]] ∧ t.nat Oid.SDO_LAST_STATUS = 0),
    at' (sdo 1) fun s => decide (findObject (s.sdoOid 0x3FFF 0xFF) = none ∧ s.broadcast (s.sdoOid 0x3FFF 0xFF) = none),
    leaves (.sdoRequest (sdoReq 0x3FFF 0xFF none)) (sdo 1) fun t => decide (t.nat Oid.SDO_LAST_STATUS = 1 ∧ t.out = [.sdo 0x581 0x3FFF 0xFF 0x06020000 []]),
    leaves (.sdoRequest (sdoReq 0x3000 0 (some [1]))) (sdo 1) fun t => decide (t.nat Oid.SDO_LAST_STATUS = 7 ∧ t.out = [.sdo 0x581 0x3000 0 0x06010000 []]),
    at' { sdo 2 with acc := { (sdo 2).acc with sdoWindow := idleWin } } fun s => decide (s.sdoServes = true ∧ s.nat Oid.SDO_ENABLE = 2
      ∧ s.sdoOid idleIdx.toNat idleSub.toNat = Oid.SESSION_IDLE.oid ∧ s.mode ≠ .standby ∧ s.NoneWaits ∧ s.healthyStandby = false),
    leaves (.sdoRequest (sdoReq idleIdx idleSub (some (leBytes 2 300)))) { sdo 2 with acc := { (sdo 2).acc with sdoWindow := idleWin } }
      fun t => decide (t.nat Oid.SESSION_IDLE = 300 ∧ t.nat Oid.SDO_LAST_STATUS = 0 ∧ t.out = [.sdo 0x581 idleIdx.toNat idleSub.toNat 0 []])] = true := by
  decide +kernel

/-- A BACnet request by NET0 to the device of base 40, about PV or Status_Flags of binary value 0. -/
def bac (prop : BacProp) (dev : Nat := 40) : BacReq := { link := .ip 0, invoke := 5, device := dev, items := [{ type := 6, inst := 0, prop := prop }] }

/-- The device of base 40 shows point 0, a binary value, and lets IP write. -/
def bdev : State := { bv.setN (Oid.PT_BACNET_INSTANCE 0) 0 with pts := { enabled := 1, bacDevBase := 40, bacIpWrite := true, bacVnet := 7 } }

/-- A peer by BACnet/SC without a map entry. -/
def strange : BacReq := { bac .statusFlags with link := .sc 1 none [], dest := some (7, [0, 0]) }

theorem test_witness_BacnetServices : ok [
    at' bdev fun s => decide (s.serving = true ∧ s.linkUp (.ip 0) = true ∧ s.deviceOf (bac .units) = some 0 ∧ s.linkGrants (.ip 0) 0 = true ∧ s.dccOff = false),
    leaves (.timeSynchronization (bac .units)) bdev fun t => decide (t.out = [] ∧ t.clk = 0),
    leaves (.deviceCommunicationControl { bac .units with comm := 1, minutes := 2 }) bdev fun t => decide (t.pts.dccDisabled = true
      ∧ t.pts.dccUntil = 120000000000 ∧ t.out = [.bacnet 5 none []]),
    at' { bdev with pts := { bdev.pts with dccDisabled := true } } fun s => decide (s.dccOff = true),
    leaves (.readProperty (bac .statusFlags)) { bdev with pts := { bdev.pts with dccDisabled := true } } fun t => decide (t.out = []),
    leaves (.whoIs { bac .units with lo := 40, hi := 40 }) bdev fun t => decide (t.out = [.bacnet 5 none (leBytes 4 40)]),
    leaves (.whoIs { bac .units with lo := 41, hi := 50 }) bdev fun t => decide (t.out = []),
    leaves (.whoHas { bac .units with lo := 41, hi := 50 }) bdev fun t => decide (t.out = []),
    at' bdev fun s => decide (s.deviceOf strange = some 0 ∧ s.linkGrants strange.link 0 = false ∧ s.linkUp strange.link = true),
    leaves (.readProperty strange) bdev fun t => decide (t.out = [.bacnet 5 (some .accessDenied) []]),
    at' bdev fun s => decide (s.bacPoint 0 { type := 6, inst := 1, prop := .presentValue } = none ∧ s.bacPoint 0 { type := 6, inst := 0, prop := .presentValue } = some 0),
    leaves (.readProperty { bac .presentValue with items := [{ type := 6, inst := 1, prop := .presentValue }] }) bdev
      fun t => decide (t.out = [.bacnet 5 (some (.status 1)) []]),
    leaves (.readProperty (bac .statusFlags)) (bdev.setN (Oid.PT_STATUS 0) 2) fun t => decide (t.out = [.bacnet 5 none [4]]),
    leaves (.readProperty (bac .presentValue)) (bdev.setN (Oid.PT_PV 0) 1) fun t => decide (t.out = [.bacnet 5 none [1]]),
    leaves (.readPropertyMultiple { bac .units with items := [{ type := 0, inst := 40, prop := .objectIdentifier }] }) bdev
      fun t => decide (t.out = [.bacnet 5 none [2, 0, 0, 40]]),
    leaves (.readPropertyMultiple { bac .units with items := [{ type := 0, inst := 41, prop := .objectIdentifier }] }) bdev
      fun t => decide (t.out = [.bacnet 5 (some (.status 1)) []]),
    leaves (.readPropertyMultiple (bac .statusFlags)) bdev fun t => decide (t.out = [.bacnet 5 none [0]]),
    leaves (.subscribeCov { bac .presentValue with cancel := true }) bdev fun t => decide (t.out = [.bacnet 5 none []]),
    at' bdev fun s => decide (s.mode ≠ .standby
      ∧ s.admits (fun _ => false) [s.subItem s.pts.nextHandle (s.covSub (bac .presentValue) 0 0).cls 1000 (linkPort (.ip 0))] = none
      ∧ s.pts.subs.length < 131072 ∧ ∀ y ∈ s.pts.subs, sameCov (bac .presentValue) 0 y = false),
    leaves (.subscribeCov (bac .presentValue)) bdev fun t => decide (t.out = [.bacnet 5 none (leBytes 4 1)] ∧ t.pts.subs.length = 1),
    leaves (.writeProperty (bac .presentValue)) { bdev with pts := { bdev.pts with bacIpWrite := false } }
      fun t => decide (t.out = [.bacnet 5 (some .writeAccessDenied) []]),
    leaves (.writeProperty { bac .presentValue with items := [{ type := 6, inst := 0, prop := .presentValue, value := [1], prio := some 8 }] }) bdev
      fun t => decide (t.get (Oid.PT_PRIORITY_SLOT 0 7) = 1 ∧ t.bit (Oid.PT_PA_MASK 0) 7 = true ∧ t.get (Oid.PT_PV 0) = 1),
    leaves (.writePropertyMultiple { bac .presentValue with
        items := [{ type := 6, inst := 0, prop := .presentValue, value := [1] }, { type := 6, inst := 9, prop := .presentValue }] }) bdev
      fun t => decide (t.get (Oid.PT_PRIORITY_SLOT 0 15) = 1 ∧ t.out = [.bacnet 5 (some (.status 1)) []])] = true := by decide +kernel

/-! ### CAN (chapter 08) -/

/-- Three columns: the reference, an exclusive one of 1 ms, an arbitrating one of 1 ms. -/
def cols : List Byte :=
  leBytes 4 0 ++ leBytes 4 200000 ++ leBytes 1 0 ++ [0, 0, 0] ++ leBytes 4 200000 ++ leBytes 4 1000000 ++ leBytes 1 1 ++ [0, 0, 0]
    ++ leBytes 4 1200000 ++ leBytes 4 1000000 ++ leBytes 1 2 ++ [0, 0, 0]

/-- A descriptor in column 1, every row, class D, two bytes: its type, buffer and identifier. -/
def desc (type buffer id : Nat) (role : Nat := 0) : Nat :=
  type * 2 ^ 120 + 1 * 2 ^ 112 + 1 * 2 ^ 96 + 3 * 2 ^ 88 + 2 * 2 ^ 72 + buffer * 2 ^ 64 + id * 2 ^ 32 + role

/-- Channel 0 SCHEDULED with some descriptors in effect, in a module that drives outputs. -/
def sched (d : Tbl Nat := []) : State :=
  { (act.setN (Oid.CAN_MODE 0) 4).setBlob (Oid.CAN_COLUMNS 0) cols with can := [(0, { mode := 4, desc := d })] }

/-- Channel 0 in a mode that uses no schedule. -/
def chan (m : Nat) : State := { act.setN (Oid.CAN_MODE 0) m with can := [(0, { mode := m })] }

/-- Entries 4 and 5 of channel 0 a transmitted SRDO, which channel 1 carries too. -/
def srdo : State :=
  ((sched [(4, desc 1 3 0x10 1), (5, desc 1 6 0x11 2)]).setBlob (Oid.TXB_DATA 0 3) [0x0F, 1]).setBlob (Oid.ENT_DESC 1 5) (leBytes 16 (desc 1 9 0x11 2))

/-- The end of a transmission that starts at 300 µs. -/
def txEnd (w : CanTx) (r : CanTxRes) : CanTxEnd := ⟨w, r, 300000⟩

/-- Channel 0 in EVENT with buffer 5 requested. -/
def evt : State := (((chan 3).setN (Oid.TXB_STATUS 0 5) 1).setN (Oid.TXB_ID 0 5) 0x123).setBlob (Oid.TXB_DATA 0 5) [9]

theorem test_witness_CanSchedule : ok [
    at' (sched [(0, desc 1 3 0x10)]) fun s => decide (s.Room ∧ s.runs (.can 0) = true ∧ (s.canCh 0).mode = 4 ∧ s.nat (Oid.CAN_MODE 0) = 4
      ∧ s.rowOf 0 (s.cycleAt 0 s.time) = 0),
    leaves (.canCycleStart 0) (((sched).setBlob (Oid.ENT_DESC 0 7) (leBytes 16 (desc 2 1 0x22))).setCan 0 { mode := 4, pendDesc := [7], waitCycle := true })
      fun t => decide (t.nat (Oid.CAN_CYCLE 0) = 0 ∧ (t.canCh 0).waitCycle = false ∧ (t.canCh 0).pendDesc = [] ∧ (t.entHeld 0 7).id = 0x22
        ∧ t.out = [.can 0 1 0 (sched.refData 0)]),
    leaves (.canCycleStart 0) ((sched).setN (Oid.CAN_MODE 0) 3) fun t => decide ((t.canCh 0).mode = 3 ∧ t.out = []),
    at' ({ sched.setN (Oid.CAN_ROWS 0) 4 with tb := { now := 10000000 * 4294967296 } }) fun s => decide (s.cycleAt 0 s.time = 1 ∧ s.rowOf 0 (s.cycleAt 0 s.time) = 1),
    leaves (.canCycleStart 0) ({ (sched.setN (Oid.CAN_ROWS 0) 4).setCan 0 { mode := 4, pendDesc := [7] } with tb := { now := 10000000 * 4294967296 } })
      fun t => decide (t.nat (Oid.CAN_CYCLE 0) = 1 ∧ (t.canCh 0).pendDesc = [7]),
    leaves (.canCycleStart 0) State.reset fun t => decide (t.objs = State.reset.objs ∧ t.can = State.reset.can ∧ t.out = []),
    at' (sched [(4, desc 1 3 0x10)]) fun s => decide (s.canRuns 0 = true ∧ s.entActive 0 4 = true ∧ (s.entHeld 0 4).type = 1 ∧ s.isDtTx 0 4 = false
      ∧ s.mappedOn 0 4 true = [] ∧ (s.entHeld 0 4).role = 0 ∧ s.canDrives 0 = true
      ∧ s.mayStart 0 (s.entHeld 0 4) 300000 = true ∧ s.mayStart 0 (s.entHeld 0 4) 199999 = false),
    leaves (.txCopy 0 4) (sched [(4, desc 1 3 0x10)]) fun t => decide (t.nat (Oid.TXB_ID 0 3) = 0x10 ∧ t.blob (Oid.TXB_DATA 0 3) = [0, 0] ∧ t.out = []),
    at' srdo fun s => decide (s.canRuns 0 = true ∧ s.entActive 0 5 = true ∧ (s.entHeld 0 5).role = 2 ∧ (s.entHeld 0 5).type = 1),
    leaves (.txCopy 0 5) srdo fun t => decide (t.blob (Oid.TXB_DATA 0 6) = [0xF0, 0xFE]),
    at' sched fun s => decide (s.entActive 0 9 = false ∧ s.isDtTx 0 9 = false),
    leaves (.txCopy 0 9) sched fun t => decide (t.objs = sched.objs ∧ t.blobs = sched.blobs),
    leaves (.canTransmitEnd 0 (txEnd (.entry 4) (.complete false))) (((sched [(4, desc 1 3 0x10)]).setN (Oid.TXB_ID 0 3) 0x10).setBlob (Oid.TXB_DATA 0 3) [7, 8])
      fun t => decide (t.nat (Oid.TXB_STATUS 0 3) = 2 ∧ t.nat (Oid.TXB_TIME 0 3) = 300000 ∧ t.out = [.can 0 0x10 0 [7, 8]]),
    leaves (.canTransmitEnd 0 (txEnd (.entry 4) .error)) (sched [(4, desc 1 3 0x10)])
      fun t => decide (t.nat (Oid.TXB_STATUS 0 3) = 5 ∧ t.nat (Oid.ENT_MISSED 0 4) = 1 ∧ t.out = []),
    leaves (.canTransmitEnd 0 (txEnd (.entry 4) .lost)) ((sched [(4, desc 1 3 0x10)]).setN (Oid.ENT_MISSED 0 4) 4294967295)
      fun t => decide (t.nat (Oid.TXB_STATUS 0 3) = 5 ∧ t.nat (Oid.ENT_MISSED 0 4) = 4294967295),
    leaves (.canTransmitEnd 0 (txEnd (.entry 4) .noAck)) ((sched [(4, desc 1 3 0x10)]).setN (Oid.CAN_TEC 0) 247)
      fun t => decide (t.nat (Oid.TXB_STATUS 0 3) = 5 ∧ t.nat (Oid.CAN_TEC 0) = 247 ∧ (t.canCh 0).busOff = false),
    leaves (.canTransmitEnd 0 (txEnd (.entry 4) .error)) ((sched [(4, desc 1 3 0x10)]).setN (Oid.CAN_TEC 0) 248)
      fun t => decide (t.nat (Oid.TXB_STATUS 0 3) = 5 ∧ t.nat (Oid.CAN_TEC 0) = 255 ∧ (t.canCh 0).busOff = true),
    leaves (.canTransmitEnd 0 (txEnd (.entry 4) .error)) ((sched [(4, desc 1 3 0x10)]).setN (Oid.CAN_TEC 0) 247)
      fun t => decide (t.nat (Oid.CAN_TEC 0) = 255 ∧ (t.canCh 0).busOff = false),
    leaves (.canTransmitEnd 0 ⟨.entry 4, .complete false, 199999⟩) (sched [(4, desc 1 3 0x10)]) fun t => decide (t.out = [] ∧ t.nat (Oid.TXB_STATUS 0 3) = 0),
    leaves (.canTransmitEnd 0 (txEnd (.entry 4) (.collision 5 []))) (sched [(4, desc 1 3 0x10)])
      fun t => decide (t.nat (Oid.TXB_STATUS 0 3) = 6 ∧ t.nat (Oid.CAN_COLLISIONS 0) = 1 ∧ t.nat (Oid.ENT_CONFLICTS 0 4) = 1
        ∧ t.Recorded 0x0704 0xFFFF 0 4 0x10),
    at' evt fun s => decide (s.canDrives 0 = true ∧ s.nextBuffer 0 300000 = some 5 ∧ s.bufferFits 0 5 300000 = true),
    leaves (.canTransmitEnd 0 (txEnd (.buffer 5) (.complete false))) evt
      fun t => decide (t.nat (Oid.TXB_STATUS 0 5) = 2 ∧ t.nat (Oid.TXB_TIME 0 5) = 300000 ∧ t.out = [.can 0 0x123 0 [9]]),
    leaves (.canTransmitEnd 0 (txEnd (.buffer 5) (.complete false))) (evt.setCan 0 { mode := 3, tooLate := 32 }) fun t => decide (t.nat (Oid.TXB_STATUS 0 5) = 4),
    leaves (.canTransmitEnd 0 (txEnd (.buffer 5) .lost)) evt fun t => decide (t.objs = evt.objs ∧ t.out = []),
    leaves (.canTransmitEnd 0 (txEnd (.buffer 5) .error)) evt fun t => decide (t.nat (Oid.CAN_TEC 0) = 8 ∧ t.nat (Oid.TXB_STATUS 0 5) = 1 ∧ t.out = []),
    leaves (.canTransmitEnd 0 (txEnd .reference (.complete false))) (sched.setN (Oid.CAN_TEC 0) 9) fun t => decide (t.nat (Oid.CAN_TEC 0) = 8 ∧ t.out = []),
    leaves (.canTransmitEnd 0 (txEnd .reference (.complete true))) sched fun t => decide (t.out = [.can 0 1 0 (sched.refData 0 true)]
      ∧ t.Recorded 0x0707 0xFFFF 0 0 1),
    leaves (.canTransmitEnd 0 (txEnd .reference .noAck)) sched fun t => decide (t.out = [] ∧ t.Recorded 0x0707 0xFFFF 0 0 0),
    leaves (.canTransmitEnd 0 (txEnd (.buffer 5) .noAck)) evt fun t => decide (t.objs = evt.objs ∧ t.out = []),
    leaves (.canTransmitEnd 0 (txEnd (.buffer 5) .error)) (evt.setN (Oid.CAN_TEC 0) 248) fun t => decide ((t.canCh 0).busOff = true),
    leaves (.canTransmitEnd 0 (txEnd .reference .error)) sched fun t => decide (t.nat (Oid.CAN_TEC 0) = 8 ∧ t.Recorded 0x0707 0xFFFF 0 0 0),
    at' (sched [(4, desc 2 3 0x10)]) fun s => decide (s.entActive 0 4 = true ∧ (s.entHeld 0 4).type = 2 ∧ (s.canCh 0).seen.contains 4 = false),
    leaves (.canWindowEnd 0 4) (sched.setCan 0 { mode := 4, desc := [(4, desc 2 3 0x10)], run := [(4, 2)] })
      fun t => decide (t.nat (Oid.ENT_MISSED 0 4) = 1 ∧ t.bit (Oid.ENT_STATE 0 4) 4 = true ∧ t.Recorded 0x0706 0xFFFF 0 4 1),
    leaves (.canWindowEnd 0 4) (sched.setCan 0 { mode := 4, desc := [(4, desc 2 3 0x10)], seen := [4] })
      fun t => decide (t.objs = sched.objs ∧ (t.canCh 0).seen = [])] = true := by decide +kernel

/-- A frame of identifier 0x10 with data, whose start is at 300 µs. -/
def frame1 : CanFrame := ⟨0x10, false, false, false, false, false, 2, [3, 4], 300000, true, 0⟩

/-- Channel 0 detecting among two candidates. -/
def detect (good : Nat) : State :=
  { (act.setN (Oid.CAN_MODE 0) 2).setBlob (Oid.CAN_DETECT_TABLE 0) (leBytes 4 500000 ++ leBytes 4 0 ++ leBytes 4 250000 ++ leBytes 4 0) with
    can := [(0, { mode := 2, good := good })] }

theorem test_witness_CanReception : ok [
    at' (sched [(4, desc 2 3 0x10)]) fun s => decide (s.Room ∧ s.canRuns 0 = true ∧ (s.canCh 0).busOff = false ∧ s.entryOfFrame 0 frame1 = some 4
      ∧ (s.entHeld 0 4).type = 2 ∧ s.frameBuffer 0 frame1 = some 3 ∧ s.hasConsumer 0 4 = false),
    leaves (.canFrameReceive 0 frame1) (sched [(4, desc 2 3 0x10)]) fun t => decide (t.blob (Oid.RXB_DATA 0 3) = [3, 4] ∧ t.nat (Oid.RXB_ID 0 3) = 0x10
      ∧ t.nat (Oid.RXB_TIME 0 3) = 300000 ∧ t.bit (Oid.RXB_STATUS 0 3) 0 = true ∧ (t.canCh 0).seen = [4]),
    at' ((chan 1).setN (Oid.RXB_FILTER 0 9) (2 ^ 63 + 0x7FF * 2 ^ 32 + 0x10)) fun s => decide (s.entryOfFrame 0 frame1 = none
      ∧ s.frameBuffer 0 frame1 = some 9),
    leaves (.canFrameReceive 0 frame1) ((chan 1).setN (Oid.RXB_FILTER 0 9) (2 ^ 63 + 0x7FF * 2 ^ 32 + 0x10)) fun t => decide (
      t.blob (Oid.RXB_DATA 0 9) = [3, 4] ∧ t.nat (Oid.RXB_ID 0 9) = 0x10 ∧ t.bit (Oid.RXB_STATUS 0 9) 0 = true ∧ t.nat (Oid.CAN_UNMATCHED 0) = 0),
    leaves (.canFrameReceive 0 frame1) ((chan 3).setN (Oid.RXB_FILTER 0 9) (2 ^ 63 + 0x7FF * 2 ^ 32 + 0x11)) fun t => decide (t.nat (Oid.CAN_UNMATCHED 0) = 1),
    at' (chan 3) fun s => decide (s.canRuns 0 = true ∧ s.canState 0 ≠ 4 ∧ (s.canCh 0).mode ≠ 2),
    leaves (.canFrameReceive 0 { frame1 with ok := false }) (chan 3) fun t => decide (t.nat (Oid.CAN_REC 0) = 1 ∧ t.blobs = act.blobs),
    leaves (.canFrameReceive 0 { frame1 with ok := false, flags := 2 }) (chan 3) fun t => decide (t.nat (Oid.CAN_REC 0) = 17),
    at' ((sched [(4, desc 2 3 0x10)]).setBlob (Oid.GRP_DT_RX 0) [4, 0]) fun s => decide (s.frameBuffer 0 frame1 = some 3 ∧ s.hasConsumer 0 4 = true),
    leaves (.canFrameReceive 0 frame1) ((sched [(4, desc 2 3 0x10)]).setBlob (Oid.GRP_DT_RX 0) [4, 0]) fun t => decide (t.blob (Oid.RXB_DATA 0 3) = [3, 4]
      ∧ t.bit (Oid.RXB_STATUS 0 3) 0 = false),
    at' ((sched [(4, desc 2 3 0x10)]).setN (Oid.RXB_FILTER 0 2) (2 ^ 63 + 0x7FF * 2 ^ 32 + 0x10)) fun s => decide (s.frameBuffer 0 frame1 = some 2),
    leaves (.canFrameReceive 0 frame1) ((sched [(4, desc 2 3 0x10)]).setN (Oid.RXB_FILTER 0 2) (2 ^ 63 + 0x7FF * 2 ^ 32 + 0x10))
      fun t => decide (t.bit (Oid.RXB_STATUS 0 2) 0 = true ∧ t.bit (Oid.RXB_STATUS 0 3) 0 = false ∧ (t.canCh 0).seen = [4]),
    leaves (.canFrameReceive 0 frame1) ((chan 3).setCan 0 { mode := 3, busOff := true }) fun t => decide (t.nat (Oid.CAN_UNMATCHED 0) = 0),
    at' (detect 7) fun s => decide (s.canRuns 0 = true ∧ (s.canCh 0).mode = 2 ∧ s.bit (Oid.CAN_DETECT_FLAGS 0) 0 = false ∧ s.candidates 0 ≠ []),
    leaves (.canFrameReceive 0 frame1) (detect 7) fun t => decide (t.nat (Oid.CAN_DETECT_RESULT 0) = 0 ∧ t.nat (Oid.CAN_DETECT_FLAGS 0) = 1
      ∧ t.Recorded 0x0708 0xFFFF 0 0 1),
    leaves (.canDetectDwell 0) (detect 7) fun t => decide ((t.canCh 0).good = 0 ∧ (t.canCh 0).cand = 1 ∧ 500000000 ≤ t.clk),
    leaves (.canBusOff 0) (chan 3) fun t => decide ((t.canCh 0).busOff = true ∧ t.canDrives 0 = false ∧ (t.canCh 0).recovering = true
      ∧ t.Recorded 0x0701 0xFFFF 0 0 1),
    leaves (.canBusOff 0) ((chan 3).setCan 0 { mode := 3, offs := [0, 0, 0] }) fun t => decide ((t.canCh 0).recovering = false ∧ t.Recorded 0x0701 0xFFFF 0 0 4),
    leaves (.canBusOn 0 128) ((chan 3).setCan 0 { mode := 3, busOff := true, recovering := true, offs := [0] }) fun t => decide ((t.canCh 0).busOff = false
      ∧ (t.canCh 0).recovering = false ∧ t.nat (Oid.CAN_TEC 0) = 0 ∧ t.Recorded 0x0702 0xFFFF 0 0 0),
    leaves (.canBusOn 0 127) ((chan 3).setCan 0 { mode := 3, busOff := true, recovering := true }) fun t => decide ((t.canCh 0).busOff = true)]
    = true := by decide +kernel

theorem test_witness_CanHostWrites : ok [
    at' svc fun s => decide (s.Ready 0),
    leaves (.canBusoffReq 0 7 0 1) ((chan 3).setCan 0 { mode := 3, busOff := true }) fun t => decide (t.Answers 0 7 0 ∧ (t.canCh 0).recovering = true),
    leaves (.canBusoffReq 0 7 0 2) (chan 3) fun t => decide (t.Answers 0 7 4 ∧ t.objs = (chan 3).objs),
    at' (chan 3) fun s => decide (s.txbHeld 0 5 = false),
    leaves (.txbRequest 0 7 0 5) ((chan 3).setCan 0 { mode := 3, tooLate := 32 }) fun t => decide (t.Answers 0 7 0 ∧ t.nat (Oid.TXB_STATUS 0 5) = 1
      ∧ (t.canCh 0).tooLate = 0),
    leaves (.txbCancel 0 7 0 5 .offBus) evt fun t => decide (t.Answers 0 7 0 ∧ t.nat (Oid.TXB_STATUS 0 5) = 3),
    leaves (.txbCancel 0 7 0 5 .arbitrationLost) evt fun t => decide (t.nat (Oid.TXB_STATUS 0 5) = 3),
    leaves (.txbCancel 0 7 0 5 .arbitrationWon) evt fun t => decide (t.Answers 0 7 10 ∧ t.nat (Oid.TXB_STATUS 0 5) = 1 ∧ (t.canCh 0).tooLate = 32),
    leaves (.txbCancel 0 7 0 5 .pastArbitration) evt fun t => decide (t.Answers 0 7 10 ∧ t.nat (Oid.TXB_STATUS 0 5) = 1 ∧ (t.canCh 0).tooLate = 32),
    leaves (.txbCancel 0 7 0 5 .offBus) (chan 3) fun t => decide (t.Answers 0 7 1 ∧ t.objs = (chan 3).objs),
    at' (sched [(4, desc 1 5 0x10)]) fun s => decide (s.txbHeld 0 5 = true),
    leaves (.txbRequest 0 7 0 5) (sched [(4, desc 1 5 0x10)]) fun t => decide (t.Answers 0 7 2 ∧ t.objs = sched.objs),
    leaves (.txbCancel 0 7 0 5 .offBus) (sched [(4, desc 1 5 0x10)]) fun t => decide (t.Answers 0 7 2 ∧ t.objs = sched.objs),
    leaves (.rxbAck 0 7 0 6 3) ((chan 3).setN (Oid.RXB_STATUS 0 6) 0x03000003) fun t => decide (t.Answers 0 7 0 ∧ t.nat (Oid.RXB_STATUS 0 6) = 0x03000000),
    leaves (.rxbAck 0 7 0 6 2) ((chan 3).setN (Oid.RXB_STATUS 0 6) 0x03000003) fun t => decide (t.Answers 0 7 9 ∧ t.nat (Oid.RXB_STATUS 0 6) = 0x03000003),
    at' sched fun s => decide ((s.atRequest 0).entDescCheck 0 7 (leBytes 16 (desc 1 3 0x7FF)) = none
      ∧ s.entryRange 0 7 (entryOf (desc 1 64 0x10)) = false ∧ s.entryRange 0 7 (entryOf (desc 1 3 0x800)) = false),
    leaves (.entDesc 0 7 0 7 (leBytes 16 (desc 1 3 0x7FF))) sched fun t => decide (t.Answers 0 7 0 ∧ (t.canCh 0).pendDesc = [7]
      ∧ t.blob (Oid.ENT_DESC 0 7) = leBytes 16 (desc 1 3 0x7FF) ∧ (t.canCh 0).desc = []),
    leaves (.entDesc 0 7 0 7 (leBytes 16 (desc 1 64 0x10))) sched fun t => decide (t.Answers 0 7 4 ∧ t.blobs = sched.blobs ∧ t.can = sched.can),
    leaves (.entAck 0 7 0 7 1) ((chan 3).setN (Oid.ENT_STATE 0 7) 0x18) fun t => decide (t.Answers 0 7 0 ∧ t.nat (Oid.ENT_STATE 0 7) = 0x10),
    leaves (.entAck 0 7 0 7 0) (chan 3) fun t => decide (t.Answers 0 7 4),
    at' (chan 1) fun s => decide (s.canCarriesAB 0 = false ∧ (s.canCh 0).mode ≠ 4),
    leaves (.canMode 0 7 0 3) (chan 1) fun t => decide (t.Answers 0 7 0 ∧ t.nat (Oid.CAN_MODE 0) = 3 ∧ (t.canCh 0).mode = 3),
    at' ((chan 1).setBlob (Oid.CAN_COLUMNS 0) cols) fun s => decide ((s.atRequest 0).canModeCheck 0 4 = none),
    leaves (.canMode 0 7 0 4) ((chan 1).setBlob (Oid.CAN_COLUMNS 0) cols) fun t => decide (t.Answers 0 7 0 ∧ t.nat (Oid.CAN_MODE 0) = 4 ∧ (t.canCh 0).mode = 1),
    at' { chan 3 with pts := { items := [{ id := 0, kind := .canEntry 0 1, cls := 0, charges := [(0x10, 1)] }] } } fun s => decide (s.canCarriesAB 0 = true),
    leaves (.canMode 0 7 0 1) { chan 3 with pts := { items := [{ id := 0, kind := .canEntry 0 1, cls := 0, charges := [(0x10, 1)] }] } }
      fun t => decide (t.Answers 0 7 9 ∧ (t.canCh 0).mode = 3),
    leaves (.canMode 0 7 0 5) (chan 3) fun t => decide (t.Answers 0 7 4 ∧ (t.canCh 0).mode = 3)] = true := by decide +kernel

/-! ### Position units (chapter 09) -/

/-- Position unit 0 beside some objects set to numbers. -/
def put (l : List (Key × Int)) (s : State := svc) : State := l.foldl (fun s x => s.set x.1 x.2) s

/-- An encoder at 10,000 steps of 1/64 mm each. -/
def enc : State := { put [(Oid.ENC_RAW 0, 10000), (Oid.ENC_NUM 0, 1), (Oid.ENC_POS 0, 10000), (Oid.POS_STATUS 0, 4)] with pos := [(0, { tLast := 0 })] }

/-- Compare 3 armed in direction both at 10,001, to set HOLDOVER_LIMIT to 60, on a module that drives outputs. -/
def cmp : State :=
  put [(Oid.CMP_POS 0 3, 10001), (Oid.CMP_ARM 0 3, 1), (Oid.CMP_STATE 0 3, 1), (Oid.CMP_TARGET 0 3, Oid.HOLDOVER_LIMIT.oid), (Oid.CMP_VALUE 0 3, 60)]
    { enc with mode := .active, tw := act.tw }

/-- An absolute sensor whose frame is 25 bits of Gray code. -/
def absd : State := put [(Oid.ABS_SOURCE 0, 1)] { enc with pos := [(0, { absBad := 2 })] }

/-- A reading whose data are Gray code 3, which reads 2. -/
def ssi : SsiReading := ⟨true, some 200, 3, false, false, 5000, 5000⟩

theorem test_witness_EncoderAndSensors : ok [
    at' enc fun s => decide (s.Room ∧ s.counting 0 = true ∧ (s.posUnit 0).pending = false ∧ s.nat (Oid.MIN_EDGE 0) ≤ 100 - (s.posUnit 0).tLast
      ∧ inI32 (s.exactPos 0) = true),
    leaves (.encoderEdge 0 2 100) enc fun t => decide ((t.posUnit 0).st = 2 ∧ (t.posUnit 0).tLast = 100 ∧ t.get (Oid.ENC_RAW 0) = 10001
      ∧ t.get (Oid.ENC_POS 0) = 10001 ∧ t.bit (Oid.POS_STATUS 0) 10 = false),
    leaves (.encoderEdge 0 1 100) enc fun t => decide (t.get (Oid.ENC_RAW 0) = 9999 ∧ t.bit (Oid.POS_STATUS 0) 10 = true),
    leaves (.encoderEdge 0 1 100) (enc.setN (Oid.ENC_INVERT 0) 1) fun t => decide (t.get (Oid.ENC_RAW 0) = 10001),
    at' cmp fun s => decide (s.nat (Oid.CMP_STATE 0 3) = 1 ∧ s.nat (Oid.CMP_MODE 0 3) % 4 ≠ 2 ∧ s.drives = true ∧ s.nat (Oid.CMP_TARGET 0 3) ≠ 0
      ∧ s.get (Oid.ENC_POS 0) < s.get (Oid.CMP_POS 0 3)),
    leaves (.encoderEdge 0 2 100) cmp fun t => decide (t.nat (Oid.CMP_STATE 0 3) = 3 ∧ t.nat (Oid.CMP_ARM 0 3) = 0
      ∧ t.get (Oid.CMP_LATCH_POS 0 3) = 10001 ∧ t.nat Oid.HOLDOVER_LIMIT = 60),
    leaves (.encoderEdge 0 0 100) enc fun t => decide (t.objs = enc.objs ∧ (t.posUnit 0).pending = false ∧ (t.posUnit 0).st = 0),
    leaves (.encoderEdge 0 3 100) enc fun t => decide (t.nat (Oid.QUAD_ERR 0) = 1 ∧ t.get (Oid.ENC_RAW 0) = 10000),
    leaves (.encoderEdge 0 2 99) enc fun t => decide (t.nat (Oid.EDGE_FAST 0) = 1 ∧ (t.posUnit 0).pending = true ∧ t.get (Oid.ENC_RAW 0) = 10000),
    leaves (.encLineFault 0 .a 1001) enc fun t => decide (t.bit (Oid.POS_STATUS 0) 6 = true ∧ t.referenced 0 = false ∧ t.Recorded 0x0903 0 0 0 0),
    leaves (.encLineFault 0 .b 1001) enc fun t => decide (t.Recorded 0x0903 0 1 0 0),
    leaves (.encLineFault 0 .z 1001) enc fun t => decide (t.bit (Oid.POS_STATUS 0) 6 = false ∧ t.Recorded 0x0903 0 2 0 0),
    leaves (.encLineFault 0 .a 0) enc fun t => decide (t.objs = enc.objs ∧ t.rcd = enc.rcd),
    leaves (.zeroTimeout 0 100000000) (put [(Oid.SPEED 0, 7), (Oid.POS_STATUS 0, 0x804)] enc) fun t => decide (t.get (Oid.SPEED 0) = 0 ∧ t.moving 0 = false),
    leaves (.zeroTimeout 0 99999999) (put [(Oid.SPEED 0, 7)] enc) fun t => decide (t.get (Oid.SPEED 0) = 7),
    leaves (.indexEdge 0) enc fun t => decide (t.get (Oid.Z_POS 0) = 10000 ∧ t.nat (Oid.Z_COUNT 0) = 1),
    at' { absd with mode := .active, tw := act.tw } fun s => decide (s.drives = true ∧ s.gate = true ∧ s.time % (1000 * s.nat (Oid.SSI_PERIOD 0)) = 0),
    leaves (.ssiFrameStart 0) { absd with mode := .active, tw := act.tw }
      fun t => decide (t.out = [.ssi 0 (absd.nat (Oid.SSI_RATE 0)) (absd.ssiClocks 0)] ∧ t.clk = 0),
    at' absd fun s => decide (s.gate = false),
    leaves (.ssiFrameStart 0) absd fun t => decide (t.out = []),
    at' absd fun s => decide ((s.posUnit 0).absBad = 2 ∧ s.bit (Oid.POS_STATUS 0) 7 = false ∧ s.nat (Oid.ABS_SOURCE 0) = 1),
    leaves (.ssiFrameEnd 0 { ssi with idleHigh := false }) absd fun t => decide (t.bit (Oid.POS_STATUS 0) 7 = true ∧ t.Recorded 0x0904 0 1 0 0),
    leaves (.ssiFrameEnd 0 { ssi with delayNs := none }) absd fun t => decide (t.bit (Oid.POS_STATUS 0) 7 = true ∧ t.Recorded 0x0904 0 0 0 0),
    at' absd fun s => decide (grayDecode 25 3 = 2 ∧ ssiParityOk 25 3 (s.nat (Oid.SSI_FORMAT 0)) false false = true ∧ s.absJumps 0 (s.absScale 0 2) 5100 = false
      ∧ s.referenced 0 = true),
    leaves (.ssiFrameEnd 0 ssi) absd fun t => decide (t.nat (Oid.ABS_RAW 0) = 2 ∧ t.get (Oid.ABS_POS 0) = 2 ∧ t.nat (Oid.ABS_TIME 0) = 5100
      ∧ t.nat (Oid.SSI_DELAY_NS 0) = 200 ∧ t.bit (Oid.POS_STATUS 0) 3 = true ∧ t.get (Oid.SLIP 0) = 9998),
    at' (put [(Oid.POS_STATUS 0, 0xC), (Oid.SLIP 0, -6401)] absd) fun s => decide (s.nat (Oid.SLIP_LIMIT 0) < (s.get (Oid.SLIP 0)).natAbs
      ∧ s.nat (Oid.SLIP_TIME 0) ≤ 200),
    leaves (.slipFault 0 200) (put [(Oid.POS_STATUS 0, 0xC), (Oid.SLIP 0, -6401)] absd) fun t => decide (t.bit (Oid.POS_STATUS 0) 8 = true
      ∧ t.Recorded 0x0905 0 (par (-6401)) 10000 0),
    leaves (.slipFault 0 200) (put [(Oid.POS_STATUS 0, 0xC), (Oid.SLIP 0, -6400)] absd) fun t => decide (t.bit (Oid.POS_STATUS 0) 8 = false),
    leaves (.slipFault 0 199) (put [(Oid.POS_STATUS 0, 0xC), (Oid.SLIP 0, -6401)] absd) fun t => decide (t.bit (Oid.POS_STATUS 0) 8 = false),
    at' (enc.setN (Oid.PROBE_SEL 0) 4) fun s => decide (s.nat (Oid.PROBE_SEL 0) % 4 = 0 ∧ (s.nat (Oid.PROBE_SEL 0)).testBit 2 = true ∧ s.probeFree 0 = true ∧ s.tablesReload = false
      ∧ s.nat (Oid.LEARN 0) = 0 ∧ s.referenced 0 = true ∧ s.nearestLanding 0 (satI32 (s.posAt 0 690)) (s.dirDown 0) = none),
    leaves (.probeEdge 0 0 true 1000) enc fun t => decide (t.get (Oid.PROBE_POS 0) = 10000 ∧ (t.posUnit 0).hold = some 10000 ∧ t.nat (Oid.PROBE_MISS 0) = 1
      ∧ t.get (Oid.ENC_OFFSET 0) = 0),
    at' (put [(Oid.LAND_PROBE_UP 0 1, 11280)] enc) fun s => decide (s.nearestLanding 0 (satI32 (s.posAt 0 690)) (s.dirDown 0) = some 1
      ∧ (1280 : Int).natAbs ≤ s.nat (Oid.PROBE_CORR_LIMIT 0)),
    leaves (.probeEdge 0 0 true 1000) (put [(Oid.LAND_PROBE_UP 0 1, 11280)] enc) fun t => decide (t.get (Oid.PROBE_CORR 0) = 1280 ∧ t.nat (Oid.PROBE_LANDING 0) = 1
      ∧ t.get (Oid.ENC_OFFSET 0) = 1280),
    leaves (.probeEdge 0 0 true 1000) (put [(Oid.LAND_PROBE_UP 0 1, 8719)] enc) fun t => decide (t.bit (Oid.POS_STATUS 0) 9 = true
      ∧ t.get (Oid.ENC_OFFSET 0) = 0 ∧ t.Recorded 0x0906 0 1 (par (-1281)) 0)] = true := by decide +kernel

theorem test_witness_PositionHostWrites : ok [
    at' enc fun s => decide (s.Ready 0 ∧ s.Room),
    leaves (.posAck 0 7 0 1) { put [(Oid.POS_STATUS 0, 0x2D4)] enc with pos := [(0, { line := 1 })] } fun t => decide (t.Answers 0 7 0
      ∧ t.bit (Oid.POS_STATUS 0) 4 = false ∧ t.bit (Oid.POS_STATUS 0) 6 = true ∧ t.bit (Oid.POS_STATUS 0) 7 = false ∧ t.bit (Oid.POS_STATUS 0) 9 = false),
    leaves (.posAck 0 7 0 0) enc fun t => decide (t.Answers 0 7 4 ∧ t.objs = enc.objs),
    at' (put [(Oid.CAR_INPUTS 0, 3)] enc) fun s => decide (s.nat (Oid.ABS_SOURCE 0) = 0 ∧ s.encValid 0 = true ∧ s.moving 0 = false
      ∧ s.bit (Oid.CAR_INPUTS 0) 0 = true ∧ s.bit (Oid.CAR_INPUTS 0) 1 = true ∧ s.nat (Oid.LANDINGS 0) = 2),
    leaves (.refLanding 0 7 0 1) (put [(Oid.CAR_INPUTS 0, 3), (Oid.LAND_PROBE_UP 0 1, 500), (Oid.POS_STATUS 0, 0)] enc) fun t => decide (t.Answers 0 7 0
      ∧ t.referenced 0 = true ∧ t.get (Oid.ENC_OFFSET 0) = -9500 ∧ t.Recorded 0x0907 0 1 500 0),
    leaves (.refLanding 0 7 0 2) (put [(Oid.CAR_INPUTS 0, 3)] enc) fun t => decide (t.Answers 0 7 4 ∧ t.get (Oid.ENC_OFFSET 0) = 0),
    leaves (.refLanding 0 7 0 1) (put [(Oid.CAR_INPUTS 0, 3), (Oid.POS_STATUS 0, 0x804)] enc) fun t => decide (t.Answers 0 7 9),
    at' enc fun s => decide (s.encValid 0 = true ∧ s.nat (Oid.CAR_STATE 0) = 0),
    leaves (.learnUp 0 7 0) enc fun t => decide (t.Answers 0 7 0 ∧ t.nat (Oid.LEARN 0) = 1 ∧ t.nat (Oid.LEARN_COUNT 0) = 0),
    leaves (.learnDown 0 7 0) (put [(Oid.CAR_STATE 0, 11)] enc) fun t => decide (t.Answers 0 7 0 ∧ t.nat (Oid.LEARN 0) = 2),
    leaves (.learnUp 0 7 0) (put [(Oid.CAR_STATE 0, 1)] enc) fun t => decide (t.Answers 0 7 9 ∧ t.nat (Oid.LEARN 0) = 0),
    leaves (.learnDown 0 7 0) (put [(Oid.POS_STATUS 0, 0x10)] enc) fun t => decide (t.Answers 0 7 9),
    leaves (.learnStop 0 7 0) (put [(Oid.LEARN 0, 2), (Oid.LEARN_COUNT 0, 5)] enc) fun t => decide (t.Answers 0 7 0 ∧ t.nat (Oid.LEARN 0) = 0
      ∧ t.Recorded 0x0909 0 2 5 0),
    leaves (.learnStop 0 7 0) enc fun t => decide (t.Answers 0 7 0 ∧ t.objs = enc.objs ∧ t.rcd = enc.rcd),
    at' enc fun s => decide ((s.atRequest 0).armCheck 0 3 = none ∧ s.nat (Oid.CAR_STATE 0) = 0 ∧ s.nat (Oid.CMP_MODE 0 3) % 4 = 3),
    leaves (.cmpArm 0 7 0 3) (put [(Oid.CMP_POS 0 3, 10000)] enc) fun t => decide (t.Answers 0 7 0 ∧ t.nat (Oid.CMP_STATE 0 3) = 3
      ∧ t.nat (Oid.CMP_ARM 0 3) = 0 ∧ t.get (Oid.CMP_LATCH_POS 0 3) = 10000),
    leaves (.cmpArm 0 7 0 3) (put [(Oid.CMP_POS 0 3, 9999), (Oid.CMP_MODE 0 3, 5)] enc) fun t => decide (t.Answers 0 7 0 ∧ t.nat (Oid.CMP_STATE 0 3) = 2
      ∧ t.nat (Oid.CMP_ARM 0 3) = 1),
    leaves (.cmpArm 0 7 0 3) (put [(Oid.CMP_POS 0 3, 10001), (Oid.CMP_MODE 0 3, 2)] enc) fun t => decide (t.Answers 0 7 0 ∧ t.nat (Oid.CMP_STATE 0 3) = 4
      ∧ t.nat (Oid.CMP_ARM 0 3) = 0 ∧ t.Recorded 0x0908 0 3 10001 10000),
    leaves (.cmpArm 0 7 0 3) (put [(Oid.CMP_POS 0 3, 10001), (Oid.CMP_MODE 0 3, 1)] enc) fun t => decide (t.Answers 0 7 0 ∧ t.nat (Oid.CMP_STATE 0 3) = 1
      ∧ t.nat (Oid.CMP_ARM 0 3) = 1),
    leaves (.cmpArm 0 7 0 3) (put [(Oid.CMP_POS 0 3, 9999)] enc) fun t => decide (t.nat (Oid.CMP_STATE 0 3) = 1),
    leaves (.cmpDisarm 0 7 0 3) (put [(Oid.CMP_ARM 0 3, 1), (Oid.CMP_STATE 0 3, 2)] enc) fun t => decide (t.Answers 0 7 0 ∧ t.nat (Oid.CMP_ARM 0 3) = 0
      ∧ t.nat (Oid.CMP_STATE 0 3) = 0),
    leaves (.cmpDisarm 0 7 0 3) (put [(Oid.CMP_STATE 0 3, 3)] enc) fun t => decide (t.Answers 0 7 0 ∧ t.nat (Oid.CMP_STATE 0 3) = 3),
    leaves (.cmpRearm 0 7 0 3 false 0xFFFFFFFF) enc fun t => decide (t.Answers 0 7 0 ∧ t.get (Oid.CMP_POS 0 3) = -1),
    leaves (.cmpRearm 0 7 0 3 true 7) enc fun t => decide (t.Answers 0 7 0 ∧ t.nat (Oid.CMP_MODE 0 3) = 7),
    leaves (.cmpRearm 0 7 0 3 true 8) enc fun t => decide (t.Answers 0 7 4),
    leaves (.cmpRearm 0 7 0 3 false 9) (put [(Oid.CMP_ARM 0 3, 1), (Oid.CMP_STATE 0 3, 1)] enc) fun t => decide (t.Answers 0 7 0 ∧ t.get (Oid.CMP_POS 0 3) = 9
      ∧ t.nat (Oid.CMP_STATE 0 3) = 1 ∧ t.nat (Oid.CMP_ARM 0 3) = 1),
    leaves (.cmpArm 0 7 0 3) (put [(Oid.CAR_STATE 0, 1)] enc) fun t => decide (t.Answers 0 7 2),
    leaves (.cmpDisarm 0 7 0 3) (put [(Oid.CAR_STATE 0, 1)] enc) fun t => decide (t.Answers 0 7 2)] = true := by decide +kernel

/-! ### Door link and door drive (chapter 10) -/

/-- Door channel 0 on and enabled, in a state of its drive. -/
def door (st : Nat) (d : DoorRt := {}) (l : List (Key × Int) := []) (s : State := act) : State :=
  { put (([(Oid.DL_ON, 1), (Oid.DOOR_ENABLE 0, 1), (Oid.DOOR_STATE 0, st), (Oid.DL_STATUS 0, 2)] : List (Key × Int)) ++ l) s with doors := [(0, d)] }

/-- A stage of I_FS 10,000 mA and 60,000 mV. -/
def ident : List Byte := leBytes 4 0x10000 ++ leBytes 4 10000 ++ leBytes 4 60000 ++ List.replicate 16 0 ++ leBytes 4 0x100
def words : Tbl Nat := [(0, 0x10000), (1, 10000), (2, 60000), (7, 0x100)]
def twice : Tbl Nat := (List.range 8).map (fun i => (i, 2))

/-- An uplink frame of SEQ 1, I_U half of I_FS, POS4, and FLT. -/
def up (pos4 : Nat) (flt : Bool := false) : BitVec 64 := lineOf (2 ^ 56 + 1024 * 2 ^ 44 + pos4 * 65536 + (if flt then 32768 else 0))

/-- The channel of a trained stage. -/
def run (st : Nat) (l : List (Key × Int) := []) : State := (door st { mode := 2 } l).setBlob (Oid.STAGE_IDENT 0) ident

theorem test_witness_DoorLink : ok [
    at' (run 5) fun s => decide (s.Room ∧ s.doorUp 0 = true ∧ frameOf 0 = none ∧ frameOf (up 1) = some (2 ^ 56 + 1024 * 2 ^ 44 + 65536 + crc8 (2 ^ 56 + 1024 * 2 ^ 44 + 65536))),
    leaves (.uplinkFrame 0 0 0) (door 5 { mode := 2, bad := 3, good := 2 }) fun t => decide (t.nat (Oid.DL_BAD 0) = 1 ∧ (t.door 0).good = 0
      ∧ t.bit (Oid.DL_STATUS 0) 1 = false),
    leaves (.uplinkFrame 0 (up 1) 0) (run 5) fun t => decide ((t.door 0).seq = some 1 ∧ (t.door 0).bad = 0 ∧ t.get (Oid.DOOR_I_PH 0 0) = 5000
      ∧ t.get (Oid.DOOR_I_PH 0 1) = 0 ∧ (t.door 0).raw = 1 ∧ t.get (Oid.DOOR_POS 0) = 1 ∧ t.doorState 0 = 5),
    leaves (.uplinkFrame 0 (up 15) 0) (run 5) fun t => decide ((t.door 0).raw = -1 ∧ t.get (Oid.DOOR_POS 0) = -1),
    leaves (.uplinkFrame 0 (up 0 true) 0) (run 5) fun t => decide (t.bit (Oid.DL_STATUS 0) 8 = true ∧ t.doorState 0 = 10 ∧ t.Recorded 0x0A0A 0 0 0 0),
    leaves (.uplinkFrame 0 (up 0 true) 0) (run 3) fun t => decide (t.doorState 0 = 3 ∧ (t.door 0).cmd = some (1, 0)),
    leaves (.uplinkGap 0 50001) (run 5) fun t => decide (t.nat (Oid.DL_BAD 0) = 25000 ∧ t.doorState 0 = 1 ∧ (t.door 0).hs = 1 ∧ t.bit (Oid.DL_STATUS 0) 1 = false),
    leaves (.uplinkGap 0 15) (run 5 [(Oid.DL_STATUS 0, 0x802)]) fun t => decide (t.bit (Oid.DL_STATUS 0) 11 = false ∧ t.doorState 0 = 5 ∧ t.nat (Oid.DL_BAD 0) = 7),
    leaves (.dlHandshakeStep 0 (.prbs true)) (door 1 { hs := 1 }) fun t => decide ((t.door 0).hs = 4),
    at' (door 1 { hs := 4, words := words, alike := twice }) fun s => decide ((∀ i : Fin 8, 2 ≤ Tbl.get 0 (s.door 0).alike i) ∧ s.identWord 0 0 / 65536 = 1
      ∧ (s.identWord 0 7).testBit 8 = true ∧ s.doorState 0 = 1 ∧ s.bit (Oid.DL_STATUS 0) 1 = true),
    leaves (.dlHandshakeStep 0 (.lock true)) (door 1 { hs := 4, words := words, alike := twice }) fun t => decide ((t.door 0).hs = 6
      ∧ t.blob (Oid.STAGE_IDENT 0) = ident),
    leaves (.dlHandshakeStep 0 (.delay 600)) (door 1 { hs := 6 }) fun t => decide ((t.door 0).hs = 7 ∧ t.nat (Oid.DL_DELAY_NS 0) = 600),
    leaves (.dlHandshakeStep 0 (.align true 31)) (door 1 { hs := 7 }) fun t => decide ((t.door 0).hs = 8 ∧ t.nat (Oid.DL_EQ 0) = 31),
    at' (door 1 { hs := 8, words := words }) fun s => decide (s.currentOk 0 = true ∧ s.nat (Oid.DOOR_VBUS_MV 0) * 11 ≤ s.identWord 0 2 * 10),
    leaves (.dlHandshakeStep 0 .finish) (door 1 { hs := 8, words := words }) fun t => decide (t.bit (Oid.DL_STATUS 0) 0 = true ∧ t.doorState 0 = 2
      ∧ t.Recorded 0x0A01 0 0 0 10000),
    leaves (.dlHandshakeStep 0 (.shift 300)) (door 1 { hs := 7 }) fun t => decide ((t.door 0).hs = 7 ∧ (t.door 0).cmd = some (2, 65236)),
    leaves (.dlHandshakeStep 0 (.shift 65535)) (door 1 { hs := 7 }) fun t => decide ((t.door 0).cmd = some (2, 1)),
    leaves (.dlHandshakeStep 0 .finish) (door 1 { hs := 8, words := words } [(Oid.CAR_INPUTS 0, 16)]) fun t => decide (t.doorState 0 = 3),
    leaves (.dlHandshakeStep 0 (.prbs false)) (door 1 { hs := 2 }) fun t => decide (t.bit (Oid.DL_STATUS 0) 6 = true ∧ (t.door 0).hs = 0 ∧ t.Recorded 0x0A02 0 0 0 0),
    leaves (.dlHandshakeStep 0 (.lock false)) (door 1 { hs := 5 }) fun t => decide (t.Recorded 0x0A02 0 1 0 0),
    leaves (.dlHandshakeStep 0 (.delay 601)) (door 1 { hs := 6 }) fun t => decide (t.Recorded 0x0A02 0 3 0 0),
    leaves (.dlHandshakeStep 0 (.align false 1)) (door 1 { hs := 7 }) fun t => decide (t.Recorded 0x0A02 0 6 0 0),
    leaves (.dlHandshakeStep 0 .finish) (door 1 { hs := 8 }) fun t => decide (t.Recorded 0x0A02 0 4 0 0),
    leaves (.dlHandshakeStep 0 .finish) (door 1 { hs := 8, words := words } [(Oid.DOOR_VBUS_MV 0, 54546)]) fun t => decide (t.Recorded 0x0A02 0 5 0 0),
    leaves (.dlHandshakeRetry 0) (door 1 { failAt := 5 } [(Oid.DL_STATUS 0, 0x40)]) fun t => decide ((t.door 0).hs = 1 ∧ 1000000005 ≤ t.clk),
    leaves (.lockConfirmed 0) (door 6 { mode := 2, raw := 77 } [(Oid.CAR_INPUTS 0, 16), (Oid.DOOR_POS 0, 20)]) fun t => decide (t.doorState 0 = 3
      ∧ t.get (Oid.DOOR_POS 0) = 0 ∧ (t.door 0).zero = 77 ∧ t.bit (Oid.DL_STATUS 0) 11 = true),
    leaves (.lockConfirmed 0) (door 6 { mode := 2 } [(Oid.CAR_INPUTS 0, 16), (Oid.DOOR_POS 0, -21)]) fun t => decide (t.doorState 0 = 6 ∧ t.out = []),
    leaves (.lockConfirmed 0) (door 8 { mode := 2, obsTick := some 0 } [(Oid.CAR_INPUTS 0, 16)]) fun t => decide (t.doorState 0 = 3),
    leaves (.lockConfirmed 0) (door 8 { mode := 2, obsTick := some 1 } [(Oid.CAR_INPUTS 0, 16)]) fun t => decide (t.doorState 0 = 8),
    leaves (.doorReopenRequest 0 .sensor) (run 6) fun t => decide (t.doorState 0 = 8),
    leaves (.doorReopenRequest 0 .call) (run 7 [(Oid.CAR_STATE 0, 9)]) fun t => decide (t.doorState 0 = 8 ∧ t.carState 0 = 7),
    leaves (.doorReopenRequest 0 .button) (run 3) fun t => decide (t.Recorded 0x0A08 0 0 0 0),
    leaves (.doorReopenRequest 0 .button) (run 5) fun t => decide (t.doorState 0 = 5 ∧ t.out = []),
    leaves (.dlVbusHigh 0 10) (run 5 [(Oid.DL_VBUS_MV 0, 52801)]) fun t => decide (t.bit (Oid.DL_STATUS 0) 2 = true ∧ t.Recorded 0x0A0D 0 52801 0 0),
    leaves (.dlVbusHigh 0 10) (run 5 [(Oid.DL_VBUS_MV 0, 52800)]) fun t => decide (t.bit (Oid.DL_STATUS 0) 2 = false),
    leaves (.dlVbusHigh 0 9) (run 5 [(Oid.DL_VBUS_MV 0, 52801)]) fun t => decide (t.bit (Oid.DL_STATUS 0) 2 = false),
    leaves (.dlLinetestEnd 0 ⟨9, 8, 7, 6⟩) (run 3 [(Oid.DL_STATUS 0, 0x200)]) fun t => decide (t.bit (Oid.DL_STATUS 0) 9 = false ∧ t.Recorded 0x0A0B 0 9 8 7),
    leaves (.dlLinetestEnd 0 ⟨9, 8, 7, 6⟩) (run 3) fun t => decide (t.blobs = (run 3).blobs)] = true := by decide +kernel

/-- Every account that a door's slots charge is full. -/
def full : State :=
  { put [(Oid.DL_ON, 1)] act with
    pts := { items := [{ id := 9, kind := .canEntry 0 0, cls := 0, charges := (doorItems 0).flatMap (fun i => i.charges.map (fun c => (c.1, 10 ^ 12))) }] } }

theorem test_witness_DoorHostWrites : ok [
    at' (run 3) fun s => decide (s.Ready 0 ∧ s.Room),
    leaves (.dlRetrain 0 7 0 1) (run 3) fun t => decide (t.Answers 0 7 0 ∧ t.doorState 0 = 1 ∧ (t.door 0).hs = 1 ∧ t.bit (Oid.DL_STATUS 0) 1 = false),
    leaves (.dlRetrain 0 7 0 1) (run 10) fun t => decide (t.Answers 0 7 0 ∧ t.doorState 0 = 1),
    leaves (.dlRetrain 0 7 0 1) (run 5) fun t => decide (t.Answers 0 7 9 ∧ t.doorState 0 = 5),
    leaves (.dlRetrain 0 7 0 2) (run 3) fun t => decide (t.Answers 0 7 4),
    leaves (.dlAck 0 7 0 2) (run 3) fun t => decide (t.Answers 0 7 4),
    at' (put [(Oid.DL_ON, 1)] act) fun s => decide (s.flag (Oid.DOOR_ENABLE 0) = false ∧ (s.atRequest 0).admits (fun _ => false) (doorItems 0) = none
      ∧ s.doorOvs 0 = 200),
    leaves (.doorEnable 0 7 0 1) (put [(Oid.DL_ON, 1)] act) fun t => decide (t.Answers 0 7 0 ∧ t.flag (Oid.DOOR_ENABLE 0) = true ∧ t.doorState 0 = 1
      ∧ (t.door 0).hs = 1 ∧ t.nat (Oid.DL_OVS_MA 0) = 200 ∧ t.nat (Oid.DL_LAT_NS 0) = 4150),
    leaves (.doorEnable 0 7 0 1) (put [(Oid.DL_ON, 1), (Oid.DOOR_OVS_LIMIT 0, 199)] act) fun t => decide (t.Answers 0 7 4 ∧ t.flag (Oid.DOOR_ENABLE 0) = false
      ∧ t.Recorded 0x0A09 0 200 199 0),
    at' full fun s => decide (s.flag (Oid.DOOR_ENABLE 0) = false ∧ (s.atRequest 0).admits (fun _ => false) (doorItems 0) ≠ none),
    leaves (.doorEnable 0 7 0 1) full fun t => decide (¬ t.Answers 0 7 0 ∧ t.flag (Oid.DOOR_ENABLE 0) = false ∧ t.nat (Oid.DL_OVS_MA 0) = 200
      ∧ t.Recorded 0x0A09 0 200 800 0),
    leaves (.doorEnable 0 7 0 0) (run 3) fun t => decide (t.Answers 0 7 0 ∧ t.flag (Oid.DOOR_ENABLE 0) = false ∧ t.doorState 0 = 0 ∧ t.nat (Oid.DL_STATUS 0) = 0),
    leaves (.doorEnable 0 7 0 0) (run 5) fun t => decide (t.Answers 0 7 9),
    leaves (.doorEnable 0 7 0 0) (run 3 [(Oid.CAR_STATE 0, 1)]) fun t => decide (t.Answers 0 7 9),
    at' (run 3 [(Oid.CAR_INPUTS 0, 3)]) fun s => decide (s.lineTestOk 0 = true ∧ s.drives = true),
    leaves (.dlLtReqOwn 0 7 0) (run 3 [(Oid.CAR_INPUTS 0, 3)]) fun t => decide (t.Answers 0 7 0 ∧ t.testQueue = [(.lineTest 0, 0)]),
    leaves (.dlLtReqTwin 0 7 0) (run 3 [(Oid.CAR_INPUTS 0, 3)]) fun t => decide (t.Answers 0 7 0 ∧ BatchItem.testRequest (.lineTest 0) ∈ t.tw.openBatch),
    leaves (.dlLtReqOwn 0 7 0) (run 3) fun t => decide (t.Answers 0 7 9 ∧ t.testQueue = []),
    leaves (.dlLtReqTwin 0 7 0) (run 3) fun t => decide (t.Answers 0 7 9),
    leaves (.dlAck 0 7 0 1) (run 10 [(Oid.DL_STATUS 0, 0x182)]) fun t => decide (t.Answers 0 7 0 ∧ t.doorState 0 = 1 ∧ t.bit (Oid.DL_STATUS 0) 7 = false
      ∧ t.bit (Oid.DL_STATUS 0) 8 = false ∧ (t.door 0).hs = 1),
    leaves (.dlAck 0 7 0 1) (door 10 { mode := 2, flt := true } [(Oid.DL_STATUS 0, 0x102)]) fun t => decide (t.Answers 0 7 0 ∧ t.doorState 0 = 10
      ∧ t.bit (Oid.DL_STATUS 0) 8 = true ∧ (t.door 0).cmd = some (1, 0))] = true := by decide +kernel

/-! ### Control engine (chapter 11) -/

/-- Point 0 an enabled analog value of 2.0. -/
def two (s : State := act) : State :=
  { (put [(Oid.PT_TYPE 0, 3), (Oid.PT_ENABLE 0, 1), (Oid.PT_PV 0, 0x40000000)] s) with pts := { enabled := 1 } }

/-- Loop `j` of class `c` enabled in a mode by a law, its feedback point 0 and its setpoint 3. -/
def loop (c j mode law : Nat) (l : List (Key × Int) := []) (r : LoopRt := {}) : State :=
  { put (([(Oid.LOOP_ENABLE j c, 1), (Oid.LOOP_MODE j c, mode), (Oid.LOOP_LAW j c, law), (Oid.FB_SOURCE j c, 0x80000000), (Oid.LOOP_SP j c, 196608)] :
      List (Key × Int)) ++ l) two with loops := [(loopKey c j, r)] }

/-- The bytes of members. -/
def mem (l : List Nat) : List Byte := l.flatMap (leBytes 4)

theorem test_witness_Engine : ok [
    at' (run 5) fun s => decide (s.Room ∧ s.up .ce = true ∧ s.doorUp 0 = true ∧ s.acc.slow = [] ∧ (s.door 0).mode = 2 ∧ s.acc.later = []
      ∧ s.loops = []),
    leaves .ceFastTick (run 5) fun t => decide ((t.door 0).sw = (run 5).phases 0 ∧ t.mode = .active ∧ t.rcd = act.rcd),
    leaves .ceFastTick (door 3 { mode := 1 }) fun t => decide ((t.door 0).sw = [0, 0, 0]
      ∧ Out.door 0 (lineOf ((door 3 { mode := 1 }).downlink 0 (fastSeq 0))) ∈ t.out),
    leaves .ceFastTick { run 5 with loops := [(loopKey 0 0, {})] } fun t => decide (t.get (Oid.OUT 0 0) = (t.door 0).sw.getD 0 0 * 65536),
    at' (loop 1 90 1 2) fun s => decide (s.up .ce = true ∧ (s.loopRt 1 90).stalled = false ∧ s.acc.slow = [] ∧ s.loops = [(loopKey 1 90, s.loopRt 1 90)] ∧ s.grps = [] ∧ s.loopMode 1 90 = 1
      ∧ s.get (Oid.SP_RATE 90 1) = 0 ∧ s.nat (Oid.SP_SOURCE 90 1) = 0 ∧ (s.takeNum 0x80000000).isSome = true
      ∧ (∀ k : Fin 24, s.doorUp k = false) ∧ (∀ n : Fin 12, s.carUsed n = false)),
    leaves .ceMediumTick (loop 1 90 1 2) fun t => decide (t.get (Oid.SP_EFF 90 1) = 196608 ∧ t.get (Oid.FB 90 1) = 131072 ∧ t.get (Oid.ERR 90 1) = 65536
      ∧ t.loopMode 1 90 = 1 ∧ t.get (Oid.OUT 90 1) = (lawH3 65536 65536 65536 65536 0 6553600 0).1),
    leaves (.ceSlowTick 5) (loop 2 5 1 1 [(Oid.ACTION 5 2, 1)]) fun t => decide (t.get (Oid.ERR 5 2) = -65536 ∧ t.loopMode 2 5 = 1
      ∧ t.get (Oid.OUT 5 2) = (lawH2 (-65536) 65536 0 6553600 0 0 false 0).2.2),
    leaves (.ceSlowTick 5) (loop 2 5 1 2) fun t => decide (t.get (Oid.ERR 5 2) = 65536),
    leaves (.ceDeadline .medium 90) (loop 1 90 1 2 [(Oid.TRIP_OUT 90 1, 7)] { misses := 2 }) fun t => decide (t.nat (Oid.MISS_COUNT 90 1) = 1
      ∧ t.nat Oid.CE_MISSES = 1 ∧ t.bit (Oid.LOOP_FLAGS 90 1) 3 = true ∧ t.Recorded 0x0B02 90 (loopRef 1 90) 3 0 ∧ t.loopMode 1 90 = 2
      ∧ t.nat (Oid.TRIP_CAUSE 90 1) = 4 ∧ t.nat Oid.CE_TRIPS = 1 ∧ t.get (Oid.OUT 90 1) = 7 ∧ t.Recorded 0x0B01 90 (loopRef 1 90) 4 0
      ∧ (t.loopRt 1 90).stalled = true),
    leaves (.ceDeadline .slow 5) (loop 2 5 1 2 [] { misses := 1 }) fun t => decide (t.loopMode 2 5 = 1 ∧ t.nat Oid.CE_TRIPS = 0),
    leaves (.ceDeadline .medium 91) (loop 1 90 1 2) fun t => decide (t.nat Oid.CE_MISSES = 0 ∧ t.out = []),
    at' (loop 2 5 0 2) fun s => decide (s.Ready 0 ∧ s.loopCmdCheck 2 5 1 = none),
    leaves (.loopClose 0 7 .slow 5) (loop 2 5 0 2) fun t => decide (t.objs = (loop 2 5 0 2).objs ∧ t.acc.slow.length = 1 ∧ t.out = []
      ∧ (t.loopRt 2 5).tripNow = 0 ∧ (t.loopRt 2 5).autoDue = false ∧ (t.loopRt 2 5).stalled = false),
    leaves (.loopClose 0 7 .slow 5) (loop 2 5 0 2) fun t => leaves (.ceSlowTick 5) t fun u => decide (u.Answers 0 7 0 ∧ u.acc.slow = [] ∧ u.loopMode 2 5 = 1),
    leaves (.loopOpen 0 7 .slow 5) (loop 2 5 1 2 [] { law := 9 }) fun t => leaves (.ceSlowTick 5) t fun u => decide (u.Answers 0 7 0 ∧ u.loopMode 2 5 = 0
      ∧ u.get (Oid.MANUAL 5 2) = 9),
    leaves (.loopClearTrip 0 7 .slow 5) (loop 2 5 2 2) fun t => leaves (.ceSlowTick 5) t fun u => decide (u.Answers 0 7 0 ∧ u.loopMode 2 5 = 0),
    leaves (.loopClose 0 7 .slow 5) (loop 2 5 1 2) fun t => decide (t.Answers 0 7 9 ∧ t.acc.slow = []),
    leaves (.loopOpen 0 7 .slow 5) (loop 2 5 0 2) fun t => decide (t.Answers 0 7 9),
    leaves (.loopClearTrip 0 7 .slow 5) (loop 2 5 0 2) fun t => decide (t.Answers 0 7 9),
    leaves (.loopEnable 0 7 .medium 83 1) two fun t => decide (t.Answers 0 7 2 ∧ t.loops = []),
    leaves (.loopEnable 0 7 .medium 84 1) two fun t => decide (t.Answers 0 7 4 ∧ t.loops = []),
    leaves (.loopEnable 0 7 .slow 5 0) (loop 2 5 1 2) fun t => decide (t.Answers 0 7 5 ∧ t.loopOn 2 5 = true),
    at' { put [(Oid.LOOP_LAW 5 2, 1), (Oid.FB_SOURCE 5 2, 0x80000000), (Oid.MANUAL 5 2, 9)] two with loops := [] } fun s =>
      decide ((s.atRequest 0).admits (fun _ => false) [loopItem 2 5] = none),
    leaves (.loopEnable 0 7 .slow 5 1) (put [(Oid.LOOP_LAW 5 2, 1), (Oid.FB_SOURCE 5 2, 0x80000000), (Oid.MANUAL 5 2, 9)] two) fun t => decide (t.Answers 0 7 0
      ∧ t.flag (Oid.LOOP_ENABLE 5 2) = true ∧ t.loopOn 2 5 = true ∧ t.get (Oid.OUT 5 2) = 9),
    leaves (.loopEnable 0 7 .slow 5 1) { put [(Oid.LOOP_LAW 5 2, 1), (Oid.FB_SOURCE 5 2, 0x80000000)] two with
        pts := { enabled := 1, items := (List.range 64).map (fun i => { id := i, kind := .canEntry 0 i, cls := 3, charges := (loopItem 2 5).charges.map (fun c => (c.1, 1000000000000)) }) } }
      fun t => decide (¬ t.Answers 0 7 0 ∧ t.loops = []),
    leaves (.loopEnable 0 7 .slow 5 1) (loop 2 5 0 2) fun t => decide (t.Answers 0 7 0 ∧ t.loops = (loop 2 5 0 2).loops),
    leaves (.loopEnable 0 7 .slow 5 0) (loop 2 5 0 2) fun t => decide (t.Answers 0 7 0 ∧ t.flag (Oid.LOOP_ENABLE 5 2) = false ∧ t.loopOn 2 5 = false),
    leaves (.loopFlags 0 7 .slow 5 9) (loop 2 5 0 2 [(Oid.LOOP_FLAGS 5 2, 15)]) fun t => decide (t.Answers 0 7 0 ∧ t.nat (Oid.LOOP_FLAGS 5 2) = 6),
    leaves (.grpMembers 0 7 24 (mem [0x20005])) (loop 2 5 0 2) fun t => decide (t.Answers 0 7 2),
    at' (loop 2 5 0 2) fun s => decide (s.groupOk (membersOf 8 (mem [0x20005])) = true ∧ s.members 25 = []
      ∧ s.groupOk (membersOf 8 (mem [0x20005, 0x20005])) = false ∧ s.nat (Oid.LOOP_GROUP 5 2) = 0),
    leaves (.grpMembers 0 7 25 (mem [0x20005])) (loop 2 5 0 2) fun t => decide (t.Answers 0 7 0 ∧ t.blob (Oid.CGRP_MEMBERS 25) = mem [0x20005]
      ∧ t.nat (Oid.LOOP_GROUP 5 2) = 25 ∧ t.Recorded 0x0B04 25 25 1 0),
    leaves (.grpMembers 0 7 25 []) { (loop 2 5 0 2 [(Oid.LOOP_GROUP 5 2, 25)]).setBlob (Oid.CGRP_MEMBERS 25) (mem [0x20005]) with grps := [(25, {})] }
      fun t => decide (t.Answers 0 7 0 ∧ t.blob (Oid.CGRP_MEMBERS 25) = [] ∧ t.grps = []),
    leaves (.grpMembers 0 7 25 (mem [0x20005, 0x20005])) (loop 2 5 0 2) fun t => decide (t.Answers 0 7 3),
    leaves (.grpMembers 0 7 25 []) ((loop 2 5 1 2 [(Oid.LOOP_GROUP 5 2, 25)]).setBlob (Oid.CGRP_MEMBERS 25) (mem [0x20005])) fun t => decide (t.Answers 0 7 5)]
    = true := by decide +kernel

/-! ### Dispatch and car supervision (chapter 12) -/

/-- Car 0 in a state, referenced at landing 0, landing 1 at 10 m, its drive ready, its safety inputs closed, its motion slot enabled. -/
def car (st : Nat) (r : CarRt := {}) (l : List (Key × Int) := []) (s : State := act) : State :=
  { put (([(Oid.POS_STATUS 0, 4), (Oid.ENC_NUM 0, 1), (Oid.LAND_PROBE_UP 0 1, 640000), (Oid.LAND_PROBE_DN 0 1, 640000), (Oid.CAR_GROUP 0, 0),
      (Oid.CAR_DRV_STATUS 0, 1), (Oid.CAR_STATE 0, st)] : List (Key × Int)) ++ l) s with
    dsp := { cars := [(0, r)] }, loops := [(loopKey 1 72, {})], saf := { cars := [(0, { sin := 0x30, sla := 0x30 })] } }

/-- The bindings of car 0's drive: points 1 to 5 and two entries of CAN0 at 1 ms. -/
def bound (s : State) : State :=
  let s := put [(Oid.CAN_T_CYCLE 0, 1000), (Oid.PT_ENABLE 1, 1), (Oid.PT_ENABLE 2, 1), (Oid.PT_ENABLE 3, 1), (Oid.PT_ENABLE 4, 1), (Oid.PT_ENABLE 5, 1)] s
  let s := (s.setBlob (Oid.ENT_DESC 0 0) (leBytes 16 (2 ^ 120 + 2 ^ 96 + 2 ^ 88))).setBlob (Oid.ENT_DESC 0 1) (leBytes 16 (2 ^ 120 + 2 ^ 96))
  let s := (s.setBlob (Oid.PT_SOURCE 1) (inner (Oid.CAR_DRV_CTRL 0).oid 0)).setBlob (Oid.PT_SINK 1) (bind 2 0 0xFF 0 0 0 0)
  let s := (s.setBlob (Oid.PT_SOURCE 2) (inner (Oid.CAR_PROF_SPEED 0).oid 0)).setBlob (Oid.PT_SINK 2) (bind 2 0 0xFF 0 0 0 0)
  let s := (s.setBlob (Oid.PT_SOURCE 3) (inner (Oid.CAR_DRV_TARGET 0).oid 0)).setBlob (Oid.PT_SINK 3) (bind 2 0 0xFF 0 0 0 0)
  let s := (s.setBlob (Oid.PT_SOURCE 4) (inner (Oid.CAR_STOP 0).oid 0)).setBlob (Oid.PT_SINK 4) (bind 2 0 0xFF 1 0 0 0)
  (s.setBlob (Oid.PT_SINK 5) (inner (Oid.CAR_DRV_STATUS 0).oid 0)).setBlob (Oid.MAP_DESC 1) (leBytes 8 (2 ^ 48))

theorem test_witness_Cars : ok [
    at' (car 2) fun s => decide (s.Room ∧ s.Ready 0 ∧ s.resting 0 = true ∧ s.allLocked 0 = true),
    leaves (.carCmdOutOfService 0 7 0) (car 2) fun t => decide (t.Answers 0 7 0 ∧ t.carState 0 = 0 ∧ t.Recorded 0x0C03 0 0 2 0 ∧ (t.car 0).queue = []),
    leaves (.carCmdOutOfService 0 7 0) (car 4) fun t => decide (t.Answers 0 7 0 ∧ t.carState 0 = 4 ∧ (t.car 0).outDue = true),
    leaves (.carCmdOutOfService 0 7 0) (car 11) fun t => decide (t.Answers 0 7 0 ∧ t.carState 0 = 0 ∧ t.Recorded 0x0C03 0 0 11 0),
    leaves (.carCmdOutOfService 0 7 0) (car 11 { run := true }) fun t => decide (t.Answers 0 7 0 ∧ t.carState 0 = 11 ∧ (t.car 0).outDue = true),
    at' (bound (car 0)) fun s => decide ((s.atRequest 0).returnCheck 0 = none ∧ s.carState 0 = 0),
    leaves (.carCmdPark 0 7 0) (bound (car 0)) fun t => decide (t.Answers 0 7 0 ∧ t.nat (Oid.CAR_CMD 0) = 1 ∧ t.carState 0 = 1 ∧ t.Recorded 0x0C04 0 1 0 0),
    leaves (.carCmdServe 0 7 0) (bound (car 0)) fun t => decide (t.Answers 0 7 0 ∧ t.nat (Oid.CAR_CMD 0) = 2 ∧ t.carState 0 = 1),
    at' (car 0) fun s => decide (((s.atRequest 0).returnCheck 0).isSome = true),
    leaves (.carCmdPark 0 7 0) (car 0) fun t => decide (Out.resp 0 0x11 7 13 [] ∈ t.out ∧ t.carState 0 = 0 ∧ t.dsp = (car 0).dsp),
    leaves (.carCmdPark 0 7 0) (car 2 { outDue := true }) fun t => decide (t.Answers 0 7 0 ∧ t.carState 0 = 1 ∧ (t.car 0).outDue = false),
    leaves (.carCmdServe 0 7 0) (car 1) fun t => decide (t.Answers 0 7 0 ∧ t.carState 0 = 2),
    leaves (.carFaultAck 0 7 0 1) (car 2 {} [(Oid.CAR_FAULT 0, 0x402), (Oid.POS_STATUS 0, 0x204)]) fun t => decide (t.Answers 0 7 0 ∧ t.nat (Oid.CAR_FAULT 0) = 0x400),
    leaves (.carFaultAck 0 7 0 0) (car 2) fun t => decide (t.Answers 0 7 4),
    at' (car 4) fun s => decide (s.up .app = true ∧ s.up .ce = true ∧ s.carUsed 0 = true ∧ s.drives = true),
    leaves (.carProfile 0) (car 4 { run := true, dir := 2, v0 := 100000, v1 := 100000, faultReset := true } [(Oid.CAR_PERMIT 0, 1), (Oid.CAR_TARGET 0, 1)])
      fun t => decide (t.flag (Oid.CAR_STOP 0) = false ∧ t.nat (Oid.CAR_DRV_CTRL 0) = 19 ∧ t.get (Oid.CAR_PROF_SPEED 0) = -65536
        ∧ t.get (Oid.CAR_DRV_TARGET 0) = 640000 ∧ (t.car 0).faultReset = false),
    leaves (.carProfile 0) (car 4 { quick := true }) fun t => decide (t.flag (Oid.CAR_STOP 0) = true ∧ t.nat (Oid.CAR_DRV_CTRL 0) = 4
      ∧ t.get (Oid.CAR_PROF_SPEED 0) = 0),
    at' (car 3) fun s => decide (s.serving = true ∧ s.drives = true ∧ s.bit (Oid.CAR_FAULT 0) 4 = false),
    leaves (.carStartTimeout 0) (car 3 { run := true }) fun t => decide (t.bit (Oid.CAR_FAULT 0) 4 = true ∧ t.carState 0 = 0 ∧ (t.car 0).run = false
      ∧ (t.car 0).quick = true ∧ 3000000000 ≤ t.clk ∧ t.Recorded 0x0C01 0 4 3 0),
    leaves (.carStartTimeout 0) (car 4) fun t => decide (t.carState 0 = 4 ∧ t.clk = 0),
    leaves (.refTripTimeout 0) (car 4 { ref := 1 }) fun t => decide (t.bit (Oid.CAR_FAULT 0) 14 = true ∧ t.carState 0 = 0 ∧ (t.car 0).ref = 0
      ∧ t.Recorded 0x0C0B 0 1 0 0),
    leaves (.refTripTimeout 0) (car 2 { ref := 1 }) fun t => decide (t.bit (Oid.CAR_FAULT 0) 14 = false ∧ t.carState 0 = 2 ∧ t.clk = 0),
    leaves (.refTripTimeout 0) (car 4) fun t => decide (t.carState 0 = 4 ∧ t.clk = 0),
    at' (car 8 { side := 1 } [(Oid.DOOR_ENABLE 0, 1), (Oid.DOOR_STATE 0, 5), (Oid.DL_STATUS 0, 0x800)]) fun s => decide (0 ∈ s.stopDoors 0 ∧ s.doorState 0 = 5),
    leaves (.carDwellExpiry 0) (car 8 { side := 1, slow := true } [(Oid.DOOR_ENABLE 0, 1), (Oid.DOOR_STATE 0, 5), (Oid.DL_STATUS 0, 0x800)])
      fun t => decide (t.carState 0 = 9 ∧ t.doorState 0 = 6 ∧ 8000000000 ≤ t.clk),
    leaves (.carNudgeExpiry 0) (car 8 { side := 1 } [(Oid.DOOR_ENABLE 0, 1), (Oid.DOOR_STATE 0, 5)]) fun t => decide (t.carState 0 = 9 ∧ t.doorState 0 = 7
      ∧ 30000000000 ≤ t.clk),
    leaves (.carDwellExpiry 0) (car 8 {} [(Oid.CAR_OPER 0, 3)]) fun t => decide (t.carState 0 = 8 ∧ t.clk = 0),
    leaves (.carNudgeExpiry 0) (car 9) fun t => decide (t.carState 0 = 9 ∧ t.clk = 0),
    at' (car 8 {} [(Oid.ENC_POS 0, 1281)]) fun s => decide (s.nat (Oid.CAR_RELEVEL_WIN 0) < (s.carPos 0 - s.restPos 0).natAbs),
    leaves (.relevelTrigger 0 100) (car 8 {} [(Oid.ENC_POS 0, 1281)]) fun t => decide (t.carState 0 = 10 ∧ (t.car 0).window = some 0 ∧ (t.car 0).run = false),
    leaves (.relevelTrigger 0 100) (car 8 {} [(Oid.ENC_POS 0, 1280)]) fun t => decide (t.carState 0 = 8),
    leaves (.relevelTrigger 0 99) (car 8 {} [(Oid.ENC_POS 0, 1281)]) fun t => decide (t.carState 0 = 8),
    at' (bound (car 0 { returnDue := true } [(Oid.CAR_CMD 0, 2)])) fun s => decide (s.returnCheck 0 = none ∧ (s.car 0).returnDue = true),
    leaves .carReturnStep (bound (car 0 { returnDue := true } [(Oid.CAR_CMD 0, 2)])) fun t => decide (t.carState 0 = 1 ∧ (t.car 0).returnDue = false
      ∧ (t.car 0).returnAt = some 0 ∧ t.Recorded 0x0C04 0 1 0 0),
    leaves .carReturnStep (car 0 { returnDue := true } [(Oid.CAR_CMD 0, 2)]) fun t => decide ((t.car 0).returnDue = false ∧ t.carState 0 = 0),
    leaves .carReturnStep { car 0 with dsp := { cars := [(0, { returnDue := true }), (5, { returnAt := some 0 })] } } fun t => decide ((t.car 0).returnDue = true)]
    = true := by decide +kernel

/-- Group 0 with its hall calls from point 100 and lamps from 200, car 0's car calls from 700 and lamps from 400. -/
def calls (s : State) : State :=
  put [(Oid.GRP_HC_BASE 0, 100), (Oid.GRP_HL_BASE 0, 200), (Oid.CAR_CC_BASE 0, 700), (Oid.CAR_CL_BASE 0, 400)] s

/-- A destination call of terminal 5, number 9, from one landing to another. -/
def dt (src dst : Nat) : BitVec 64 := BitVec.ofNat 64 (5 + 9 * 256 + src * 2 ^ 24 + dst * 2 ^ 32)

/-- Emergency power with a budget, mW, and car 0 waiting with a call for landing 1. -/
def ep (mw : Nat) : State :=
  (car 2 { waiting := true, queue := [⟨1, 1, 1⟩] } [(Oid.EP_ACTIVE, 1), (Oid.EP_BUDGET, mw), (Oid.EP_SRC, 0x80000000), (Oid.CAR_PERMIT 0, 1)])

theorem test_witness_Calls : ok [
    at' (calls (car 0)) fun s => decide (s.Room ∧ s.serving = true ∧ s.mode = .active ∧ s.takesHall 0 1 = true ∧ s.eligible 0 0 [1] = false
      ∧ s.healthyStandby = false),
    leaves (.callPointChange 103 false) (calls (car 0)) fun t => decide (t.dsp.halls = [] ∧ t.out = []),
    leaves (.callPointChange 103 true) (calls (car 0)) fun t => decide (t.dsp.halls = [⟨0, 1, true, 0xFF⟩]),
    at' (calls (car 2)) fun s => decide (s.eligible 0 0 [1] = true ∧ s.eligible 0 1 [1] = false),
    leaves (.callPointChange 103 true) (calls (car 2)) fun t => decide (t.dsp.halls = [⟨0, 1, true, 0⟩] ∧ (t.car 0).queue = [⟨1, 1, 4⟩]
      ∧ t.blob (Oid.CAR_QUEUE 0) = queueBytes [⟨1, 1, 4⟩]),
    at' (calls (car 2)) fun s => decide (s.serves 0 1 = true ∧ s.carOper 0 = 0 ∧ s.carFull 0 = false),
    leaves (.callPointChange 701 true) (calls (car 2)) fun t => decide (t.dsp.halls = [] ∧ (t.car 0).queue = [⟨1, 1, 1⟩]),
    at' (put [(Oid.GRP_MODE 0, 1)] (car 2)) fun s => decide (s.nat (Oid.GRP_MODE 0) ≠ 0 ∧ field (dt 0 1).toNat 7 0 = 5 ∧ field (dt 0 1).toNat 39 32 = 1
      ∧ s.eligible 0 0 [0, 1] = true),
    leaves (.destinationCall 0 (dt 0 1) 3) (put [(Oid.GRP_MODE 0, 1)] (car 2)) fun t => decide (t.dsp.calls.map (·.status) = [0]
      ∧ t.dsp.calls.map (·.car) = [0] ∧ (t.car 0).queue = [⟨0, 1, 8⟩, ⟨1, 1, 16⟩] ∧ t.dsp.outs.length = 1),
    leaves (.destinationCall 0 (dt 1 1) 3) (put [(Oid.GRP_MODE 0, 1)] (car 2)) fun t => decide (t.dsp.calls.map (·.status) = [4] ∧ t.Recorded 0x0C06 0x100 5 4 0),
    leaves (.destinationCall 0 (dt 0 1) 3) (put [(Oid.GRP_MODE 0, 1)] (car 0)) fun t => decide (t.dsp.calls.map (·.status) = [1] ∧ t.Recorded 0x0C06 0x100 5 1 0),
    leaves (.destinationCall 0 (dt 0 1) 3) (car 2) fun t => decide (t.dsp.calls = [] ∧ t.out = []),
    leaves (.destinationCall 0 (dt 0 1) 3) (put [(Oid.GRP_MODE 0, 1)] { car 2 with tw := { activeOut := true, inStep := true } })
      fun t => decide (t.healthyStandby = false ∨ t.dsp.outs = []),
    leaves (.carOpenRequest 0) { car 2 with mode := .service } fun t => decide (t.carState 0 = 2 ∧ t.out = []),
    at' (car 3) fun s => decide (s.mode = .active ∧ s.committed 0 = false),
    leaves (.carOpenRequest 0) (car 3 { run := true }) fun t => decide (t.carState 0 = 7 ∧ (t.car 0).run = false ∧ (t.car 0).side = 1),
    leaves (.carOpenRequest 0) (car 3 { run := true, runAt := some 0 }) fun t => decide (t.carState 0 = 3 ∧ t.Recorded 0x0C0A 0 0 0 0),
    at' (car 2) fun s => decide (s.levelAt 0 (s.nat (Oid.CAR_LANDING 0)) = true ∧ s.carOper 0 = 0),
    leaves (.carOpenRequest 0) (car 2) fun t => decide (t.carState 0 = 7),
    leaves (.carOpenRequest 0) (car 9) fun t => decide (t.carState 0 = 7),
    leaves (.carOpenRequest 0) (car 4) fun t => decide (t.carState 0 = 4 ∧ t.out = []),
    at' (ep 30000000) fun s => decide (s.flag Oid.EP_ACTIVE = true ∧ s.epCandidates = [0] ∧ s.waitTarget 0 = some (1, 1) ∧ s.resting 0 = true ∧ s.permit 0 = true
      ∧ s.allLocked 0 = true ∧ (s.epAdmits 0 (s.levelPos 0 1 true)).1 = true),
    leaves .epStartCheck (ep 30000000) fun t => decide (t.carState 0 = 3 ∧ t.nat (Oid.CAR_TARGET 0) = 1 ∧ (t.car 0).run = true ∧ (t.car 0).waiting = false
      ∧ t.Recorded 0x0C09 0 0 30000000 0),
    leaves .epStartCheck (ep 29999999) fun t => decide (t.carState 0 = 2 ∧ (t.car 0).waiting = true ∧ (t.car 0).waitRec = true
      ∧ t.Recorded 0x0C08 0 0 30000000 29999999),
    leaves .epStartCheck { ep 29999999 with dsp := { cars := [(0, { (ep 1).car 0 with waitRec := true })] } } fun t => decide (t.rcd.ring = []),
    at' (put [(Oid.EP_ACTIVE, 1)] (car 2)) fun s => decide (s.epCandidates = []),
    leaves .epStartCheck (put [(Oid.EP_ACTIVE, 1)] (car 2)) fun t => decide (t.carState 0 = 2 ∧ t.rcd.ring = [] ∧ t.nat Oid.EP_PREDICTED = 0),
    leaves .epStartCheck (car 2) fun t => decide (t.carState 0 = 2 ∧ t.out = []),
    at' (car 13 { epService := true } [(Oid.CAR_OPER 0, 5)]) fun s => decide (s.carOper 0 = 5 ∧ s.flag Oid.EP_ACTIVE = false),
    leaves .epReturn (car 13 { epService := true } [(Oid.CAR_OPER 0, 5)]) fun t => decide (t.carState 0 = 2 ∧ t.carOper 0 = 0 ∧ t.Recorded 0x0C02 0 5 0 0 ∧ 30000000000 ≤ t.clk
      ∧ (t.car 0).epService = false),
    leaves .epReturn (ep 1) fun t => decide (t.carState 0 = 2 ∧ t.clk = 0)] = true := by decide +kernel

/-! ### Metering and energy (chapters 13 and 14) -/

/-- Island 0 ready with one current and one voltage channel in effect, its ADCs and clocks good. -/
def meter (m : Metering := {}) (l : List (Key × Int) := []) (s : State := svc) : State :=
  { put (([(Oid.MI_ON, 15), (Oid.MI_STATE 0, 2), (Oid.CH_SENSOR 0, 1), (Oid.VCH_ENABLE 0, 1)] : List (Key × Int)) ++ l) s with
    met := { m with ch := m.ch ++ [(0, { eff := [1, 0, 1065353216, 1000, 0] })], vch := [(0, { eff := [1, 1065353216] })] } }

/-- A window of both channels: 2 A and 50 V. -/
def window (clip : Bool) (mHz : Nat) : WindowIn :=
  ⟨[⟨0, 2000, 11, 12, 13, 14, 15, 16, 17⟩], [⟨0, clip, 21, 0x42480000, 22, 23⟩], mHz, true⟩

/-- Seventeen good ADC checks but one. -/
def adcs (bad : Nat) : List AdcCheck := (List.range 17).map (fun k => if k = bad then ⟨0, 2001, 5⟩ else ⟨1000, -2000, 0⟩)

/-- Island 0 with a calibration. -/
def cal (i : Island) (l : List (Key × Int) := []) : State := meter { islands := [(0, i)] } l

/-- Island 0 at step 6 of channel 4's calibration, while an abort of it waits for the standby's confirmation. -/
def calWait (k : Nat) : State :=
  let s := cal { cal := some 4, step := 5 }
  { s with acc := { s.acc with waits := [{ req0 with entries := [{ oid := (Oid.MI_CAL_ABORT 0).oid, data := leBytes 1 k }] }] } }

theorem test_witness_Metering : ok [
    at' (meter) fun s => decide (s.Room ∧ s.up .met = true ∧ s.chValid 0 = true ∧ s.vValid 0 = true),
    at' (cal { aborted := true } [(Oid.MI_SHADOW 0, 5)]) fun s => decide ((s.island 0).aborted = true ∧ s.up .met = true ∧ s.chValid 0 = true
      ∧ (window false 50000).cur.map (·.ch) = [0] ∧ (window false 50000).vol.all (fun y => !y.clip) = true ∧ 66000 < (window false 66001).milliHz),
    leaves (.meterWindowEnd (window false 50000)) State.reset fun t => decide (t.objs = State.reset.objs ∧ t.out = []),
    leaves (.bsgCheck 0 4096819200 false false) (meter) fun t => decide (t.nat (Oid.BSG_FREQ 0) = 4096819200 ∧ t.nat (Oid.BSG_STATE 0) = 2
      ∧ t.bit (Oid.CH_STATUS 48) 4 = false),
    leaves (.bsgCheck 0 0 true false) (meter) fun t => decide (t.nat (Oid.BSG_STATE 0) = 0 ∧ t.bit (Oid.CH_STATUS 51) 4 = true ∧ t.Recorded 0x0D06 51 0 0 0),
    leaves (.bsgCheck 3 4096819201 false false) (meter) fun t => decide (t.nat (Oid.BSG_STATE 3) = 1 ∧ t.Recorded 0x0D06 60 1 4096819201 0),
    leaves (.bsgCheck 0 4095180800 false true) (meter) fun t => decide (t.nat (Oid.BSG_STATE 0) = 2 ∧ t.Recorded 0x0D06 48 2 4095180800 0),
    at' (put [(Oid.CH_CAR 0, 3)] (meter { trips := [(3, {})] } [(Oid.MI_STATE 0, 0)])) fun s => decide (s.chValid 0 = false ∧ s.met.trips.find 3 = some {} ∧ s.met.chains = []
      ∧ s.windowOf (window false 50000) = window false 50000),
    leaves (.meterWindowEnd (window false 50000)) (put [(Oid.CH_CAR 0, 3)] (meter { trips := [(3, {})] } [(Oid.MI_STATE 0, 0)]))
      fun t => decide ((t.met.trips.find 3).map (·.good) = some false),
    at' (meter {} [(Oid.MI_STATE 0, 1)]) fun s => decide (s.runs (.island 0) = true ∧ s.bit Oid.MI_ON 0 = true ∧ s.nat (Oid.MI_STATE 0) = 1 ∧ s.heldBy 0 = none),
    at' (meter {} [(Oid.MI_STATE 0, 1)]) fun _ => decide (adcOk ((adcs 6).getD 6 ⟨0, 0, 0⟩) = false ∧ adcOk ((adcs 6).getD 16 ⟨0, 0, 0⟩) = true
      ∧ adcOk ((adcs 1).getD 1 ⟨0, 0, 0⟩) = false ∧ adcOk ((adcs 16).getD 16 ⟨0, 0, 0⟩) = false ∧ (adcs 6).length = 17),
    leaves (.islandCheck 0 (adcs 6)) (meter) fun t => decide (t.nat (Oid.MI_STATE 0) = 2 ∧ t.nat (Oid.MI_SHADOW 0) = 0xFF),
    at' (cal {}) fun s => decide (s.Ready 0 ∧ s.calQueue 0 = [] ∧ (s.island 0).cal = none ∧ s.heldBy 0 = none),
    leaves (.miCalReq 0 7 0 11) (cal {}) fun t => decide (t.Answers 0 7 0 ∧ t.calQueue 0 = [11] ∧ t.bit (Oid.CH_STATUS 11) 8 = true),
    leaves (.miCalReq 0 7 0 11) (cal {} [(Oid.MI_SHADOW 0, 0x82)]) fun t => decide (t.Answers 0 7 9 ∧ t.calQueue 0 = []),
    leaves (.miCalReq 0 7 0 11) (cal {} [(Oid.MI_STATE 0, 3)]) fun t => decide (t.Answers 0 7 9),
    leaves (.miCalAbort 0 7 0 5) (cal { last := some 5 }) fun t => decide (t.Answers 0 7 10),
    leaves (.miCalAbort 0 7 0 5) (cal {}) fun t => decide (t.Answers 0 7 1),
    leaves (.miCalReq 0 7 0 5) (cal { cal := some 5 }) fun t => decide (t.Answers 0 7 9),
    leaves (.miCalReq 0 7 0 12) (cal {}) fun t => decide (t.Answers 0 7 4),
    leaves (.miCalAbort 0 7 0 5) ((cal {}).setBlob (Oid.MI_CAL_QUEUE 0) [4, 5]) fun t => decide (t.Answers 0 7 0 ∧ t.calQueue 0 = [4]),
    leaves (.miCalAbort 0 7 0 5) (cal { cal := some 5, step := 4 } [(Oid.CH_STATUS 5, 0x200)]) fun t => decide (t.Answers 0 7 0 ∧ (t.island 0).cal = none
      ∧ t.nat (Oid.MI_CAL_RESULT 0) = 3 ∧ t.bit (Oid.CH_STATUS 5) 9 = false ∧ t.Recorded 0x0D02 5 4 0 0),
    at' ((cal { due := true }).setBlob (Oid.MI_CAL_QUEUE 0) [4, 5]) fun s => decide (s.islandOk 0 = true ∧ (s.calQueue 0).head? = some 4),
    leaves (.calStep 0 ⟨1, 2, 3, 4⟩) ((cal { due := true }).setBlob (Oid.MI_CAL_QUEUE 0) [4, 5]) fun t => decide ((t.island 0).cal = some 4
      ∧ (t.island 0).step = 1 ∧ t.calQueue 0 = [5]),
    leaves (.calStep 0 ⟨1, 2, 3, 4⟩) ((cal { due := true } [(Oid.MI_SHADOW 0, 0x84)]).setBlob (Oid.MI_CAL_QUEUE 0) [4, 5]) fun t => decide ((t.island 0).step = 3),
    leaves (.calStep 0 ⟨1, 2, 3, 4⟩) (cal { cal := some 4, step := 1, endAt := 3000000000 }) fun t => decide ((t.island 0).step = 3
      ∧ t.bit (Oid.CH_STATUS 4) 9 = true ∧ 2000000000 ≤ t.clk),
    leaves (.calStep 0 ⟨1, 2, 3, 4⟩) (cal { cal := some 4, step := 3, endAt := 3000000000 }) fun t => decide ((t.island 0).step = 4 ∧ 2200000000 ≤ t.clk),
    leaves (.calStep 0 ⟨1, 2, 3, 4⟩) (cal { cal := some 4, step := 4, endAt := 3000000000 }) fun t => decide ((t.island 0).step = 5 ∧ (t.island 0).gain = 1
      ∧ (t.island 0).phase = 2 ∧ 2800000000 ≤ t.clk),
    at' (cal { cal := some 4, step := 5, gain := 65000 }) fun s => decide ((s.island 0).cal = some 4 ∧ (s.island 0).step = 5 ∧ s.islandOk 0 = true
      ∧ mag (-100) ≤ 100 ∧ 100 < mag (-101)),
    at' (calWait 4) fun s => decide (s.islandOk 0 = true ∧ s.calAbortWaits 0 4 = true ∧ s.calAbortWaits 0 5 = false),
    leaves (.calStep 0 ⟨1, 2, 3, 4⟩) (calWait 4) fun t => decide ((t.island 0).step = 5 ∧ t.clk = 0 ∧ t.out = []),
    at' (meter) fun s => decide (s.flag Oid.MET_CHECK_ENABLE = true ∧ s.islandOk 0 = true ∧ s.nat (Oid.MI_SHADOW 0) = 0xFF ∧ (s.metCh 0).sensor ≠ 0),
    leaves (.rotationCheck 0 0 500 (-500)) (meter) fun t => decide (t.calQueue 0 = [] ∧ t.out = []),
    leaves (.rotationCheck 0 0 501 0) (meter) fun t => decide (t.bit (Oid.CH_STATUS 0) 2 = true ∧ t.calQueue 0 = [0] ∧ t.Recorded 0x0D04 0 1 501 0),
    leaves (.calInterval 0) (meter) fun t => decide (604800000000000 ≤ t.clk ∧ (t.island 0).calAt = t.clk ∧ t.calQueue 0 = [0]),
    leaves (.calInterval 0) (meter {} [(Oid.MET_CAL_INTERVAL, 0)]) fun t => decide (t.clk = 0 ∧ t.calQueue 0 = [])] = true := by decide +kernel

/-- A sample of a mean power, µW, at 1 A. -/
def sample (uW : Int) : SampleIn := ⟨uW, 0, 0, 0, 1000, false, 0, 0⟩

/-- Channel 0 metered, with pulse output 3 following its import register. -/
def energy (p : PulseRt := { src := 0, const := 1048576 }) (l : List (Key × Int) := []) (s : State := act) : State :=
  meter { pulses := [(3, p), (17, p)] } l s

theorem test_witness_Energy : ok [
    at' (energy) fun s => decide (s.up .met = true ∧ s.met.stopped = none ∧ s.samplesOn 0 = true ∧ (s.metCh 0).clear = none ∧ (s.metCh 0).sensor ≠ 0 ∧ s.sourceOk 0 = true
      ∧ s.vValid (s.metCh 0).vref = true ∧ energyOf 3600000000 ≠ 0 ∧ s.nat (Oid.CH_CREEP 0) * (s.metCh 0).inMa ≤ 1000 * 1000 ∧ (s.pulse 3).dirty = false
      ∧ (s.pulse 3).src = 0),
    leaves (.energySample 0 (.formed (sample 3600000000))) (energy) fun t => decide (t.nat (Oid.REG 0 0) = energyOf 3600000000 / 4294967296
      ∧ Tbl.get 0 (t.metCh 0).frac 0 = energyOf 3600000000 % 4294967296 ∧ t.nat (Oid.REG 0 1) = 0 ∧ t.bit (Oid.CH_STATUS 0) 7 = false
      ∧ (t.pulse 3).due.length = energyOf 3600000000 / (1048576 * 4294967296)),
    leaves (.energySample 0 (.formed (sample (-3600000000)))) (energy) fun t => decide (t.nat (Oid.REG 0 0) = 0 ∧ t.nat (Oid.REG 0 1) = energyOf 3600000000 / 4294967296),
    leaves (.energySample 0 (.formed { sample 3600000000 with iRms := 399 })) (energy { src := 5 } [(Oid.CH_IN 0, 1000)]) fun t => decide (t.bit (Oid.CH_STATUS 0) 7 = true
      ∧ t.nat (Oid.REG 0 0) = 0),
    leaves (.energySample 0 (.formed (sample 1))) (meter { ch := [(0, { clear := some 6, frac := [(0, 9)] })] } [(Oid.REG 0 3, 8)]) fun t => decide (
      t.nat (Oid.REG 0 3) = 0 ∧ (t.metCh 0).frac = [] ∧ (t.metCh 0).clear = none ∧ t.Recorded 0x0D12 0 0 6 0),
    leaves (.energySample 5 (.formed (sample 1))) (energy { dirty := true } [(Oid.PO_RESIDUE 3, 7), (Oid.PO_OWED 3, 2), (Oid.PO_CONST 3, 2048)]) fun t => decide (
      t.nat (Oid.PO_RESIDUE 3) = 0 ∧ t.nat (Oid.PO_OWED 3) = 0 ∧ (t.pulse 3).const = 2048 ∧ (t.pulse 3).dirty = false ∧ t.Recorded 0x0D14 0x303 3 7 0),
    leaves (.energySample 0 (.formed (sample 3600000000))) (meter { stopped := some (0, 0) }) fun t => decide (t.nat (Oid.REG 0 0) = 0 ∧ t.out = []),
    at' (energy { due := [(0, 5000)] }) fun s => decide (s.gate = true ∧ s.pulseOn 3 = false ∧ (s.pulse 3).fell = 0 ∧ s.nat (Oid.PO_OWED 3) = 0
      ∧ s.tw.frozenOut.getLsbD 89 = false),
    at' (meter { trips := [(3, {})] } [(Oid.CH_CAR 0, 3), (Oid.MI_STATE 0, 1)]) fun s => decide (s.sourceOk 0 = false ∧ s.samplesOn 0 = true
      ∧ s.met.trips.find (s.nat (Oid.CH_CAR 0)) = some {}),
    leaves (.energySample 0 (.formed (sample 3600000000))) (meter { trips := [(3, {})] } [(Oid.CH_CAR 0, 3), (Oid.MI_STATE 0, 1)]) fun t =>
      decide (t.nat (Oid.REG 0 0) = 0 ∧ (t.met.trips.find 3).map (·.good) = some false),
    at' { energy with pow := { svc.pow with autumn := .running, sampled := 1 } } fun s => decide (s.up .met = true ∧ s.samplesOn 0 = false ∧ s.samplesOn 1 = true),
    leaves (.energySample 0 (.formed (sample 3600000000))) { energy with pow := { svc.pow with autumn := .running, sampled := 1 } }
      fun t => decide (t.nat (Oid.REG 0 0) = 0 ∧ t.out = []),
    leaves (.energySample 5 (.stream ⟨List.replicate 512 true, List.replicate 512 false, 0⟩)) (meter) fun t => decide (
      t.met.chains.length = 1 ∧ t.nat (Oid.REG 5 0) = 0),
    at' (energy { due := [(0, 5000)], fell := 1 }) fun s => decide (s.gate = true ∧ s.pulseOn 3 = false ∧ 0 < (s.pulse 3).fell
      ∧ (s.reach (s.clk + (0 - s.time))).time < (s.pulse 3).fell + 5000),
    leaves (.pulseEmit 3) (energy { due := [(0, 5000)], fell := 1 }) fun t => decide (t.pulseOn 3 = false ∧ (t.pulse 3).due = []
      ∧ t.nat (Oid.PO_OWED 3) = 1),
    leaves (.pulseEmitFp 17) (energy { due := [(0, 5000)], fell := 1 }) fun t => decide (t.pulseOn 17 = true),
    leaves (.pulseEmit 3) (energy { due := [(0, 5000)] } [(Oid.PO_OWED 3, 4), (Oid.PO_STATUS 3, 2)]) fun t => decide (t.pulseOn 3 = false
      ∧ t.nat (Oid.PO_OWED 3) = 5),
    at' (energy) fun s => decide ((s.pulse 3).due = []),
    leaves (.pulseEmit 3) (energy) fun t => decide (t.pulseOn 3 = false ∧ t.out = []),
    leaves (.pulseEmit 3) (energy { due := [(0, 5000)] }) fun t => decide (t.pulseOn 3 = true ∧ (t.pulse 3).due = [] ∧ (t.pulse 3).offAt = 5000
      ∧ t.nat (Oid.PO_COUNT 3) = 1 ∧ Out.pulse 3 true ∈ t.out),
    leaves (.pulseEmitFp 17) (energy { due := [(0, 5000)] }) fun t => decide (t.pulseOn 17 = true ∧ Out.pulse 17 true ∈ t.out),
    leaves (.pulseEmit 3) (energy { due := [(0, 5000)] } [(Oid.PO_STATUS 3, 1)]) fun t => decide ((t.pulse 3).due = [] ∧ t.nat (Oid.PO_OWED 3) = 1
      ∧ t.bit (Oid.PO_STATUS 3) 1 = true ∧ t.Recorded 0x0D13 0x303 3 1 0),
    leaves (.pulseEmitFp 17) (energy { due := [(0, 5000)], again := true } [(Oid.PO_STATUS 17, 1)]) fun t => decide (t.nat (Oid.PO_OWED 17) = 1),
    leaves (.pulseEmitFp 17) (energy { due := [(0, 5000)] } [(Oid.PO_STATUS 17, 1)]) fun t => decide (t.pulseOn 17 = false ∧ (t.pulse 17).due = [(125000, 5000)]),
    at' (energy {} [] { svc with mode := .standby }) fun s => decide (s.gate = false),
    leaves (.pulseEmit 3) (energy { due := [(0, 5000)] } [] { svc with mode := .standby }) fun t => decide ((t.pulse 3).due = [] ∧ t.pulseOn 3 = false ∧ t.out = []),
    leaves (.pulseWidthEnd 3) (energy {} [(Oid.PO_STATUS 3, 1)]) fun t => decide (t.pulseOn 3 = false ∧ t.nat (Oid.PO_COUNT 3) = 0),
    leaves (.pulseWidthEnd 3) (energy {} [(Oid.PO_OWED 3, 1), (Oid.PO_STATUS 3, 2)]) fun t => decide (t.pulseOn 3 = true ∧ t.nat (Oid.PO_OWED 3) = 0
      ∧ t.bit (Oid.PO_STATUS 3) 1 = false ∧ t.nat (Oid.PO_COUNT 3) = 1),
    leaves (.pulseWidthEnd 3) (energy) fun t => decide (t.pulseOn 3 = false),
    at' svc fun s => decide (s.Ready 0 ∧ s.mode = .service),
    leaves (.chRegClear 0 7 0 1) svc fun t => decide (t.Answers 0 7 0 ∧ (t.metCh 0).clear = some 0),
    leaves (.chRegClear 0 7 0 1) act fun t => decide (t.Answers 0 7 9 ∧ t.met = act.met),
    leaves (.pulseConfig 0 7 3 true 1024) act fun t => decide (t.Answers 0 7 0 ∧ t.nat (Oid.PO_CONST 3) = 1024 ∧ (t.pulse 3).dirty = true),
    leaves (.pulseConfig 0 7 3 true 1023) act fun t => decide (t.Answers 0 7 4),
    leaves (.pulseConfig 0 7 3 true 1099511627777) act fun t => decide (t.Answers 0 7 4),
    leaves (.pulseConfig 0 7 3 false 0xFFFF) act fun t => decide (t.Answers 0 7 0 ∧ t.nat (Oid.PO_SRC 3) = 0xFFFF ∧ (t.pulse 3).dirty = true),
    leaves (.pulseConfig 0 7 3 false 0x3F09) act fun t => decide (t.Answers 0 7 0),
    leaves (.pulseConfig 0 7 3 false 0x3F0A) act fun t => decide (t.Answers 0 7 4),
    leaves (.pulseConfig 0 7 3 false 0x4000) act fun t => decide (t.Answers 0 7 4),
    leaves (.intLen 0 7 60) { svc with tb := { status := 1 } } fun t => decide (t.Answers 0 7 0 ∧ t.nat Oid.INT_LEN = 60 ∧ t.met.intStart = t.time),
    leaves (.intLen 0 7 60) svc fun t => decide (t.Answers 0 7 0 ∧ t.met.wasUnset = true),
    leaves (.intLen 0 7 61) svc fun t => decide (t.Answers 0 7 4),
    leaves (.energyAck 0 7 1) (put [(Oid.ENERGY_RESTORE, 2), (Oid.CH_REG_FLAGS 4, 3)] svc) fun t => decide (t.Answers 0 7 0 ∧ t.nat Oid.ENERGY_RESTORE = 0
      ∧ t.nat (Oid.CH_REG_FLAGS 4) = 0),
    leaves (.cmReset 0 7 2 1) (put [(Oid.CM_VALID 2, 1), (Oid.CM_TRIPS_UP 2, 3)] svc) fun t => decide (t.Answers 0 7 0 ∧ t.flag (Oid.CM_VALID 2) = false
      ∧ t.nat (Oid.CM_TRIPS_UP 2) = 0 ∧ t.cov 2 true = covReset ∧ t.Recorded 0x0D17 0x402 2 0 0),
    leaves (.energyAck 0 7 2) svc fun t => decide (t.Answers 0 7 4),
    leaves (.cmReset 0 7 2 0) svc fun t => decide (t.Answers 0 7 4),
    leaves (.chRegClear 0 7 0 3) svc fun t => decide (t.Answers 0 7 4),
    at' (meter) fun s => decide (s.up .met = true ∧ s.up .mem = true ∧ s.met.stopped = none ∧ s.met.shadowBad = []),
    leaves (.periodicSave []) (meter {} [(Oid.REG 0 3, 8), (Oid.PO_OWED 3, 2)]) fun t => decide (t.nat Oid.SAVE_NUMBER = 1 ∧ (t.met.slots.find 1).isSome = true
      ∧ (t.met.slots.map (fun x => (x.2.num, Tbl.get 0 x.2.regs 3, Tbl.get 0 x.2.owed 3))) = [(1, 8, 2)]),
    leaves (.periodicSave [.residue 3]) (meter { stopped := some (0, 0) }) fun t => decide (t.met.slots = [] ∧ t.nat Oid.SAVE_NUMBER = 0),
    leaves (.periodicSave [.residue 3]) (meter) fun t => decide (t.nat Oid.SAVE_NUMBER = 1),
    leaves (.saveLate 100001) (meter) fun t => decide (t.Recorded 0x0D15 0xFFFF 0 100001 0 ∧ t.nat Oid.SAVE_LATE_COUNT = 1),
    leaves (.saveLate 100000) (meter) fun t => decide (t.nat Oid.SAVE_LATE_COUNT = 0),
    leaves .intervalClose { (meter {} [(Oid.REG 0 3, 8)]).setBlob Oid.INT_CHANNELS [1, 0, 0, 0, 0, 0, 0, 0] with tb := { status := 1 } } fun t => decide (
      t.met.intStart = t.time ∧ t.met.wasUnset = false ∧ t.met.intSeq = 1 ∧ (t.metCh 0).flags = 0 ∧ Tbl.get 0 (t.metCh 0).base 3 = 8 ∧ (t.metCh 1).flags = 1),
    leaves .intervalClose (meter) fun t => decide (t.met.wasUnset = true ∧ t.met.intSeq = 0)] = true := by decide +kernel

/-! ### Safety (chapter 15) -/

/-- A record of the SLA's block in range, of a car that is configured or not. -/
def slaRec (on : Bool) : List Byte :=
  leBytes 16 ((if on then 2 ^ 120 else 0) + 100 * 2 ^ 104 + 1000 * 2 ^ 88 + 300 * 2 ^ 72 + 300 * 2 ^ 56 + 5000 * 2 ^ 40 + 200 * 2 ^ 28 + 100 * 2 ^ 16)

/-- Car 0 configured alone, its switches closed, its inputs true but the feedbacks, the SLA running. -/
def safe (c : CarSafe := {}) (l : List (Key × Int) := []) (s : State := act) : State :=
  let s := (List.range 12).foldl (fun s n => s.setBlob (Oid.SLA_CAR n) (slaRec (n == 0))) (put (([(Oid.SLA_STATE, 2), (Oid.CAR_INPUTS 0, 0x3F)] :
    List (Key × Int)) ++ l) s)
  { s with saf := { s.saf with cars := [(0, { c with sin := 0x3F, sla := 0x3F, sSw := 3, lSw := 3 })] } }

/-- The safety session open in session 0, with changes pending. -/
def sess (p : List (Nat × List Byte)) (m : Mode := .service) : State :=
  let s := safe {} [] { svc with mode := m, acc := { sessions := [(0, { state := 3, entry := some 5 })] } }
  { s with saf := { s.saf with session := some (0, 0), pend := p, cars := [] } }

/-- A session of the owner that may open a safety session. -/
def mayOpen (saf : Safety) (m : Mode := .service) : State :=
  { put [(Oid.MAP_SAFETY 5, 1)] { svc with mode := m } with acc := { sessions := [(0, { state := 2, entry := some 5, fpr := 77 })] }, saf := saf }

/-- Eight bytes. -/
def pw8 : List Byte := [1, 2, 3, 4, 5, 6, 7, 8]

/-- SAFETY_TEST_INTERVAL as a row of the dictionary. -/
def interval : Nat := Oid.SAFETY_TEST_INTERVAL.oid

theorem test_witness_SafetySessions : ok [
    at' svc fun s => decide (s.Room ∧ s.serving = true ∧ s.emits = [] ∧ s.NoneWaits ∧ frameBroken (pdp 0x30 pw8) = false
      ∧ frameReq (pdp 0x30 pw8) 9 = some (.safetyOpen pw8 9) ∧ s.maySafety 0 = false),
    leaves (.safetyOpen 0 (pdp 0x30 pw8) 9) svc fun t => decide (t.out = [.resp 0 0x30 7 8 []]),
    leaves (.safetyOpen 0 (pdp 0x30 pw8) 9) (mayOpen { locked := [(77, 0)] }) fun t => decide (t.out = [.resp 0 0x30 7 8 []]),
    at' (mayOpen {}) fun s => decide (s.maySafety 0 = true ∧ s.pwLocked (s.sesFpr 0) = false ∧ s.saf.session = none ∧ s.saf.pw = none),
    leaves (.safetyOpen 0 (pdp 0x30 pw8) 9) (mayOpen { session := some (3, 0) }) fun t => decide (t.out = [.resp 0 0x30 7 9 []]),
    leaves (.safetyOpen 0 (pdp 0x30 pw8) 9) (mayOpen {} .active) fun t => decide (t.out = [.resp 0 0x30 7 8 []]),
    leaves (.safetyOpen 0 (pdp 0x30 (List.replicate 33 1)) 9) (mayOpen {}) fun t => decide (t.out = [.resp 0 0x30 7 4 []]),
    leaves (.safetyOpen 0 (pdp 0x30 pw8) 9) (mayOpen {}) fun t => decide (Out.resp 0 0x30 7 0 [] ∈ t.out ∧ t.saf.session = some (0, 0) ∧ (t.ses 0).state = 3
      ∧ t.flag Oid.PW_SET = true),
    at' (sess []) fun s => decide (s.hasSafety 0 = true ∧ frameReq (pdp 0x31 []) 0 = some .safetyClose),
    leaves (.safetyClose 0 (pdp 0x31 [])) (sess []) fun t => decide (Out.resp 0 0x31 7 0 [] ∈ t.out ∧ t.saf.session = none ∧ (t.ses 0).state = 2),
    leaves (.safetyClose 0 (pdp 0x31 [])) svc fun t => decide (t.out = [.resp 0 0x31 7 0 []]),
    leaves .safetySessionTimeout (sess []) fun t => decide (t.saf.session = none ∧ (t.ses 0).state = 2 ∧ 900000000000 ≤ t.clk),
    leaves .safetySessionTimeout svc fun t => decide (t.clk = 0),
    at' svc fun s => decide (s.Ready 0 ∧ s.hasSafety 0 = false),
    leaves (.safetyPw 0 7 pw8 0) svc fun t => decide (t.Answers 0 7 8),
    leaves (.safetyParamWrite 0 7 0x7000000A [0, 1]) svc fun t => decide (t.Answers 0 7 8 ∧ t.saf.pend = []),
    leaves (.safetyCommit 0 7) svc fun t => decide (t.Answers 0 7 8),
    leaves (.safetyDiscard 0 7) svc fun t => decide (t.Answers 0 7 8),
    leaves (.cfgActivate 0 7 1) svc fun t => decide (t.Answers 0 7 8),
    leaves (.sfReset 0 7 0 1) svc fun t => decide (t.Answers 0 7 8),
    at' (sess []) fun s => decide (s.Ready 0 ∧ s.hasSafety 0 = true),
    leaves (.safetyPw 0 7 pw8 0) (sess []) fun t => decide (t.Answers 0 7 0 ∧ t.flag Oid.PW_SET = true),
    at' (sess []) fun s => decide ((findObject interval).isSome = true ∧ safetyParam interval = true ∧ s.safetyRangeOk interval [] (leBytes 2 3) = true
      ∧ (findObject (Oid.SLA_CAR 0).oid).isSome = true ∧ s.safetyRangeOk 0x70010002 [0] (leBytes 16 0) = false),
    leaves (.safetyParamWrite 0 7 (BitVec.ofNat 32 interval) (leBytes 2 3)) (sess []) fun t => decide (t.Answers 0 7 0 ∧ t.saf.pend = [(interval, leBytes 2 3)]
      ∧ t.nat Oid.SAFETY_PENDING = 1 ∧ t.nat Oid.SAFETY_TEST_INTERVAL = 24),
    leaves (.safetyParamWrite 0 7 (BitVec.ofNat 32 (Oid.SLA_CAR 0).oid) (leBytes 16 0)) (sess []) fun t => decide (t.Answers 0 7 4 ∧ t.saf.pend = []),
    at' (sess [] .active) fun s => decide (s.commitReady = false),
    leaves (.safetyCommit 0 7) (sess [] .active) fun t => decide (t.Answers 0 7 9),
    leaves (.cfgActivate 0 7 1) (sess [] .active) fun t => decide (t.Answers 0 7 9),
    at' (sess [(interval, leBytes 2 3)]) fun s => decide (s.commitReady = true),
    at' (sess [(interval, leBytes 2 3)]) fun s => decide (s.commitFails = false),
    leaves (.safetyCommit 0 7) (sess [(interval, leBytes 2 3)]) fun t => decide (t.Answers 0 7 0 ∧ t.saf.pend = [] ∧ t.nat Oid.SAFETY_TEST_INTERVAL = 3
      ∧ t.nat Oid.SLA_STATE = 2 ∧ t.nat Oid.SLA_GEN = 1 ∧ t.Recorded 0x0510 0xFFFF 1 1 0),
    leaves (.safetyCommit 0 7) (sess [((Oid.SLA_CAR 0).oid, leBytes 16 0)]) fun t => decide (t.Answers 0 7 13 ∧ t.nat Oid.SLA_GEN = 0),
    leaves (.cfgActivate 0 7 1) (sess []) fun t => decide (t.Answers 0 7 13 ∧ t.mem = (sess []).mem),
    leaves (.cfgActivate 0 7 2) (sess []) fun t => decide (t.Answers 0 7 4),
    leaves (.safetyDiscard 0 7) (sess [(interval, leBytes 2 3)]) fun t => decide (t.Answers 0 7 0 ∧ t.saf.pend = [] ∧ t.nat Oid.SAFETY_PENDING = 0),
    leaves (.safetyTestReqTwin 0 7) svc fun t => decide (t.Answers 0 7 9),
    leaves (.safetyTestReqSelf 0 7) act fun t => decide (t.Answers 0 7 0 ∧ t.testQueue = [(.selfTest, 0)] ∧ t.nat Oid.SAFETY_TEST_STATE = 1),
    leaves (.safetyTestReqSelf 0 7) (put [(Oid.CAR_STATE 0, 4)] svc) fun t => decide (t.Answers 0 7 9 ∧ t.testQueue = []),
    at' pair fun s => decide (s.healthyStandby = true ∧ s.serving = true ∧ s.mode = .active ∧ 2 ≤ (s.ses 0).state ∧ s.NoneWaits ∧ s.emits = []),
    leaves (.safetyTestReqTwin 0 7) pair fun t => decide (t.acc.waits.length = 1 ∧ t.out = []),
    leaves .safetyTestPeriodic sby fun t => decide (t.testQueue = [(.selfTest, 0)] ∧ t.nat Oid.SAFETY_TEST_STATE = 1 ∧ 86400000000000 ≤ t.clk),
    leaves .safetyTestPeriodic svc fun t => decide (t.testQueue = [] ∧ t.clk = 0),
    leaves (.safetyTestDone true) testing fun t => decide (t.saf.testAt = none ∧ t.tw.selfTest = true ∧ t.nat Oid.SAFETY_TEST_STATE = 3 ∧ t.testsOn = []
      ∧ t.Recorded 0x0512 0xFFFF 3 0 0),
    leaves (.safetyTestDone false) testing fun t => decide (t.saf.testAt = none ∧ t.tw.selfTest = false ∧ t.nat Oid.SAFETY_TEST_STATE = 4),
    leaves (.safetyTestDone false) svc fun t => decide (t.objs = svc.objs)] = true := by decide +kernel

/-- A stored password that is right, and one that is wrong. -/
theorem test_witness_SafetySessions_password :
    (∃ (x : BitVec 128) (h : List Byte), (mayOpen { pw := some (5, pbkdf2 pw8 (leBytes 16 5) 100000) }).saf.pw = some (x, h)
        ∧ pbkdf2 pw8 (leBytes 16 x.toNat) 100000 = h)
      ∧ (∃ (x : BitVec 128) (h : List Byte), (mayOpen { pw := some (5, pbkdf2 pw8 (leBytes 16 5) 100000 ++ [0]) }).saf.pw = some (x, h)
        ∧ pbkdf2 pw8 (leBytes 16 x.toNat) 100000 ≠ h) := by
  refine ⟨⟨5, _, rfl, rfl⟩, ⟨5, _, rfl, ?_⟩⟩
  intro h
  have h' := congrArg List.length h
  rw [List.length_append] at h'
  simp at h'

/-- The complement form of a heartbeat of a count, with RST_REQ, LOW_SPEED and WIN_REQ of car 0. -/
def beat (count : Nat) : BitVec 96 :=
  let hi := count * 2 ^ 40 + (if count = 0 then 0 else 2 ^ 4 + 2 ^ 16 + 2 ^ 28)
  BitVec.ofNat 96 (hi * 2 ^ 48 + (2 ^ 48 - 1 - hi))

/-- Telegram 0 sent, or received for car 0, ID 7, KEY 9, 16 bytes. -/
def dst (dir : Nat) (d : Dst := {}) (l : List (Key × Int) := []) : State :=
  let s := safe {} l
  { s.setBlob (Oid.DST_DESC 0) (leBytes 16 (dir * 2 ^ 120 + 7 * 2 ^ 112 + 2 ^ 60 + 1000 * 2 ^ 32 + 9)) with saf := { s.saf with dst := [(0, d)] } }

/-- A copy of a number with a chain byte. -/
def copy (seq : Nat) (chain : Byte) : List Byte := dstBytes 9 7 0 seq 0 [chain, 0, 0, 0]

theorem test_witness_SafetyFunctions : ok [
    at' (safe) fun s => decide (s.Room ∧ s.up .sla = true ∧ (beat 1).toNat % 2 ^ 48 = 2 ^ 48 - 1 - (beat 1).toNat / 2 ^ 48 ∧ field (beat 1).toNat 95 88 = 1
      ∧ s.saf.hbLost = true),
    leaves (.heartbeatReceive (beat 1)) (safe) fun t => decide (t.saf.hbCount = some 1 ∧ t.saf.hbLost = false
      ∧ (t.carSafe 0).lowSpeed = (beat 1).toNat.testBit 76 ∧ (t.carSafe 0).winReq = (beat 1).toNat.testBit 64 ∧ (t.carSafe 0).rstReq = (beat 1).toNat.testBit 52),
    leaves (.heartbeatReceive 5) (safe) fun t => decide (t.saf = safe.saf),
    leaves (.heartbeatReceive (beat 1)) { safe with saf := { hbLost := false, hbCount := some 1 } } fun t => decide (t.saf.hbCount = some 1),
    leaves (.heartbeatReceive (beat 2)) { safe with saf := { hbLost := false, hbCount := some 1 } } fun t => decide (t.saf.hbCount = some 2),
    leaves .hbLost { safe with saf := { safe.saf with hbLost := false, hbCount := some 6 } } fun t => decide (t.saf.hbLost = true ∧ 2000000 ≤ t.clk
      ∧ (t.carSafe 0).lSw = 0 ∧ t.Recorded 0x0504 0xFFFF 6 0 0),
    leaves .hbLost (safe) fun t => decide (t.clk = 0 ∧ t.saf = safe.saf),
    leaves (.sinChange 0 10 true) (safe) fun t => decide (t.saf = safe.saf),
    at' (safe) fun s => decide (s.hasCar 0 = true ∧ s.hasCar 1 = false),
    leaves (.sinChange 1 4 false) (safe) fun t => decide (t.saf = safe.saf ∧ t.rcd = safe.rcd),
    leaves (.sinChange 0 0 false) (safe { zoneSpeed := 9 }) fun t => decide ((t.carSafe 0).zoneSpeed = 0),
    at' { safe with saf := { cars := [(0, { sla := 0x3E, dzB := 5 })] } } fun s => decide (s.slaIn 0 0 = false ∧ s.slaIn 0 1 = true ∧ s.hasCar 0 = true),
    at' (safe) fun s => decide (s.lWatch 0 = true ∧ s.sWatch 0 = true ∧ s.up .pos = true ∧ s.sWindow 0 = false ∧ s.slaIn 0 5 = true ∧ s.bothOn 0 = true
      ∧ (s.carSafe 0).window = none ∧ (s.carSafe 0).winReq = false),
    leaves (.sinChange 0 4 false) (safe) fun t => decide (t.bit (Oid.CAR_INPUTS 0) 4 = false ∧ (t.carSafe 0).sin.getLsbD 4 = false
      ∧ (t.carSafe 0).tripL.getLsbD 0 = true ∧ (t.carSafe 0).lSw = 0 ∧ (t.carSafe 0).tripS.getLsbD 0 = true ∧ (t.carSafe 0).sSw = 0
      ∧ t.Recorded 0x0501 0 1 0 0),
    leaves (.sinChange 0 5 false) (safe) fun t => decide ((t.carSafe 0).tripS.getLsbD 3 = true ∧ (t.carSafe 0).tripL.getLsbD 3 = true),
    leaves (.sfReset 0 7 0 1) (let s := sess []; { s with saf := { s.saf with cars := [(0, { lockS := 0x41, tripS := 0x41 })] } }) fun t => decide (t.Answers 0 7 0
      ∧ (t.carSafe 0).rstAt = 1),
    leaves (.sfReset 0 7 0 2) (sess []) fun t => decide (t.Answers 0 7 4),
    leaves (.windowMax 0) (safe { window := some 0 }) fun t => decide ((t.carSafe 0).window = none ∧ 5000000000 ≤ t.clk),
    leaves (.slaCrcCheck 1) (safe) fun t => decide (t.nat Oid.SLA_STATE = 4 ∧ t.saf.faultAt = some 0 ∧ t.tw.activeOut = false
      ∧ t.Recorded 0x0505 0xFFFF 3 0 0 ∧ t.Recorded 0x0507 0xFFFF 0 0 0),
    leaves (.slaCrcCheck 0) (safe) fun t => decide (t.nat Oid.SLA_STATE = 2 ∧ t.tw = act.tw),
    leaves (.slaCrcCheck 0) { safe {} [(Oid.SLA_STATE, 4)] with clk := 250000, saf := { safe.saf with faultAt := some 0 } } fun t => decide ((t.carSafe 0).lSw = 0),
    leaves (.slaFault 3) (safe) fun t => decide (t.nat Oid.SLA_STATE = 4 ∧ t.tw.activeOut = false ∧ t.Recorded 0x0507 0xFFFF 3 0 0),
    leaves (.slaFault 3) (safe {} [(Oid.SLA_STATE, 4)]) fun t => decide (t.rcd = act.rcd),
    leaves (.switchTest 0 3 true) (safe { stuck := 8 }) fun t => decide ((t.carSafe 0).stuck = 0),
    leaves (.switchTest 0 3 false) (safe) fun t => decide ((t.carSafe 0).stuck = 8 ∧ t.tw.outputTest = false ∧ t.Recorded 0x0508 0 3 0 0 ∧ t.mode = .active),
    leaves (.switchTest 0 3 false) (safe {} [] pair) fun t => decide (t.tw.activeOut = false),
    leaves (.switchTest 0 4 false) (safe) fun t => decide (t.saf = safe.saf),
    leaves (.switchTest 1 3 false) (safe) fun t => decide (t.saf = safe.saf ∧ t.rcd = safe.rcd),
    leaves (.inputDisagree 0 4 100) (safe) fun t => decide (t.tw.disagreeAt = some 0 ∧ (t.carSafe 0).sla.getLsbD 4 = false ∧ t.Recorded 0x0509 0 4 1 0),
    leaves (.inputDisagree 0 4 99) (safe) fun t => decide (t.saf = safe.saf),
    leaves (.inputDisagree 1 4 100) (safe) fun t => decide (t.saf = safe.saf ∧ t.rcd = safe.rcd),
    at' (safe {} [(Oid.CAR_INPUTS 0, 0x7F)]) fun s => decide (s.outOn 0 0 = s.bit (Oid.CAR_INPUTS 0) 6),
    leaves (.contactorFeedbackTimeout 0 0) (safe {} [(Oid.CAR_INPUTS 0, 0x7F)]) fun t => decide ((t.carSafe 0).tripS.getLsbD 3 = true ∧ (t.carSafe 0).sSw = 0
      ∧ (t.carSafe 0).tripL.getLsbD 3 = true ∧ 100000000 ≤ t.clk),
    leaves (.contactorFeedbackTimeout 0 0) (safe) fun t => decide (t.saf = safe.saf),
    at' (let s := safe; { s with saf := { cars := [(0, { sin := 0x3F, sla := 0x3F })] } }) fun s => decide (s.bothOff 0 = true ∧ s.bit (Oid.CAR_INPUTS 0) 8 = false),
    leaves (.brakeFeedbackTimeout 0) (let s := safe {} [(Oid.CAR_INPUTS 0, 0x13F)]; { s with saf := { cars := [(0, { sin := 0x13F, sla := 0x13F })] } })
      fun t => decide ((t.carSafe 0).tripS.getLsbD 6 = true ∧ (t.carSafe 0).lockS.getLsbD 6 = true ∧ (t.carSafe 0).lockL.getLsbD 6 = true ∧ 200000000 ≤ t.clk),
    leaves (.brakeFeedbackTimeout 0) (safe {} [(Oid.CAR_INPUTS 0, 0x33F)]) fun t => decide (t.clk = 0),
    at' (safe) fun s => decide (s.lStops 0 = 0 ∧ s.sStops 0 = 0 ∧ s.moving 0 = false),
    leaves (.stopConditionAbsent 0 .sla) (safe { tripL := 9, lockL := 2 }) fun t => decide ((t.carSafe 0).tripL = 0 ∧ (t.carSafe 0).lockL = 2 ∧ 100000000 ≤ t.clk),
    leaves (.stopConditionAbsent 0 .sla) (safe { tripL := 9, zoneSpeed := 1001 }) fun t => decide ((t.carSafe 0).tripL = 9 ∧ t.clk = 0),
    leaves (.stopConditionAbsent 0 .sPair) (safe { tripS := 0x29 }) fun t => decide ((t.carSafe 0).tripS = 0x20 ∧ 100000000 ≤ t.clk),
    leaves (.stopConditionAbsent 0 .sPair) (safe { tripS := 9 } [(Oid.POS_STATUS 0, 0x800)]) fun t => decide ((t.carSafe 0).tripS = 9 ∧ t.clk = 0),
    leaves (.stopConditionAbsent 0 .sPair) (safe { tripS := 9 } [(Oid.CAR_INPUTS 0, 0x0F)]) fun t => decide ((t.carSafe 0).tripS = 9),
    at' (dst 1) fun s => decide (s.up .safe = true ∧ s.gate = true ∧ s.drives = true),
    leaves (.dstSend 0) (dst 1) fun t => decide (t.out = [.dst 0 0 (dstBytes 9 7 0 1 0 (leBytes 4 1)), .dst 0 1 (dstBytes 9 7 0 1 0 (leBytes 4 1))]
      ∧ t.nat (Oid.DST_SEQ 0) = 1),
    leaves (.dstSend 0) (dst 2) fun t => decide (t.out = []),
    leaves (.dstSend 0) (dst 1 { sentAt := some 0 }) fun t => decide (t.out.length = 2 ∧ 1000000 ≤ t.clk ∧ (t.dstOf 0).sentAt = some t.clk),
    leaves (.dstSend 0) { dst 1 with tw := {} } fun t => decide (t.out = [] ∧ t.nat (Oid.DST_SEQ 0) = 0),
    at' (dst 2) fun s => decide (s.dstValid 0 (copy 5 1) = true ∧ s.dstValid 0 [1] = false ∧ s.dstOpens 0 (dstFields (copy 5 0)).2.2 = true),
    leaves (.dstCopy 0 0 [1]) (dst 2) fun t => decide (t.nat (Oid.DST_ERRORS 0) = 1 ∧ t.saf = (dst 2).saf),
    leaves (.dstCopy 0 0 (copy 5 0)) (dst 2) fun t => decide ((t.dstOf 0).wait = [(0, 0, copy 5 0)] ∧ (t.dstOf 0).chain = true
      ∧ (t.carSafe 0).tripS.getLsbD 3 = true),
    leaves (.dstCopy 0 1 (copy 5 1)) (dst 2 { wait := [(0, 0, copy 5 1)] }) fun t => decide ((t.dstOf 0).wait = [] ∧ (t.dstOf 0).any = true
      ∧ t.nat (Oid.DST_STATE 0) = 2 ∧ t.nat (Oid.DST_SEQ 0) = 5 ∧ t.blob (Oid.DST_RX_DATA 0) = [1, 0, 0, 0]),
    leaves (.dstCopy 0 1 (copy 5 1)) (dst 2 { wait := [(0, 0, copy 5 0)] }) fun t => decide ((t.dstOf 0).wait = [] ∧ t.nat (Oid.DST_STATE 0) = 4
      ∧ t.Recorded 0x050B 0x100 5 0 0 ∧ (t.carSafe 0).tripS.getLsbD 3 = true),
    leaves (.dstCopyWait 0) (dst 2 { wait := [(0, 0, copy 5 1)] }) fun t => decide ((t.dstOf 0).wait = [] ∧ t.nat (Oid.DST_SEQ 0) = 5 ∧ t.nat (Oid.DST_STATE 0) = 2
      ∧ (t.dstOf 0).miss1 = 1 ∧ 5000000 ≤ t.clk),
    leaves (.dstCopyWait 0) (dst 2) fun t => decide (t.dstOf 0 = {}),
    leaves (.dstSingle 0 1) (dst 2 { any := true } [(Oid.DST_STATE 0, 2)]) fun t => decide (t.nat (Oid.DST_STATE 0) = 5 ∧ t.Recorded 0x050C 0x100 1 0 0
      ∧ 1000000000 ≤ t.clk),
    leaves (.dstSingle 0 1) (dst 2) fun t => decide (t.nat (Oid.DST_STATE 0) = 0 ∧ t.clk = 0),
    leaves (.dstTimeout 0) (dst 2) fun t => decide (t.nat (Oid.DST_STATE 0) = 3 ∧ t.Recorded 0x050A 0x100 0 0 0 ∧ 20000000 ≤ t.clk
      ∧ (t.carSafe 0).tripS.getLsbD 3 = true),
    leaves (.dstTimeout 0) (dst 1) fun t => decide (t.nat (Oid.DST_STATE 0) = 0 ∧ t.clk = 0)] = true := by decide +kernel

/-! ### Twin operation (chapter 16) -/

/-- A state whose twin part is some value, its held outputs a map. -/
def tw (s : State) (x : Twin) (held : Nat := 0) : State := { s.setBlob Oid.TW_HELD (leBytes 16 held) with tw := x }

theorem test_witness_HoldAndInterlock : ok [
    at' act fun s => decide (s.Room ∧ s.booted = true ∧ s.mayRefresh = true),
    leaves .activeOutRefresh act fun t => decide (t.tw = { act.tw with refreshAt := t.clk } ∧ t.clk = 1000000),
    leaves .activeOutRefresh svc fun t => decide (t.tw = svc.tw ∧ t.clk = 0),
    leaves .activeOutRefresh State.reset fun t => decide (t.objs = State.reset.objs ∧ t.clk = 0),
    leaves .refreshLapse svc fun t => decide (t.rcd = svc.rcd ∧ t.clk = 0),
    at' act fun s => decide ((s.drives && s.healthyStandby) = false),
    leaves .refreshLapse act fun t => decide (t.tw.activeOut = false ∧ t.mode = .boot ∧ t.rst.asserted.getLsbD 7 = true
      ∧ t.Recorded 0x0101 0xFFFF 7 3 (t.nat Oid.RESET_CAUSE)),
    leaves .refreshLapse pair fun t => decide (t.tw.activeOut = false ∧ t.tw.released = some (1, t.clk) ∧ t.rst.pendingRel = some ([7], t.clk)
      ∧ 1100000 ≤ t.clk ∧ t.Recorded 0x0601 0xFFFF 1 0 0),
    at' { pair with mode := .service } fun s => decide (s.tw.activeOut = true ∧ s.drives = true ∧ s.healthyStandby = true),
    leaves .refreshLapse { pair with mode := .service } fun t => decide (t.tw.activeOut = false ∧ t.tw.released = some (1, t.clk)
      ∧ t.rst.pendingRel = some ([7], t.clk)),
    at' (tw sby { activeIn := true }) fun s => decide (s.pd .aon = true ∧ s.tw.activeIn = true ∧ s.tw.released = none ∧ s.tw.ilkFault = 0),
    leaves (.activeInFall 900 (some (4, 77))) (tw sby { activeIn := true }) fun t => decide (t.tw.activeIn = false ∧ t.nat Oid.TW_RECOG_NS = 900
      ∧ t.mode = .standby ∧ t.gate = false ∧ t.tw.guard = some 0 ∧ t.tw.relTime = 77),
    leaves (.activeInRise 900) act fun t => decide (t.tw.activeIn = true ∧ t.tw.inSince = 0 ∧ t.mode = .active ∧ t.gate = false),
    leaves (.activeInFall 900 none) act fun t => decide (t.objs = act.objs ∧ t.tw = act.tw),
    leaves (.activeInRise 900) (tw sby { activeIn := true }) fun t => decide (t.objs = (tw sby { activeIn := true }).objs ∧ t.tw = { activeIn := true }),
    at' act fun s => decide (s.tw.assertedAt = none ∧ s.rst.pendingRel = none ∧ s.interlock ≠ loopReading 499 ∧ s.gate = true ∧ loopReading 499 = 2
      ∧ loopReading 15001 = 3 ∧ loopReading 3001 = 4 ∧ loopReading 8000 = 1 ∧ loopReading 12000 = 1 ∧ loopReading 12001 = 4 ∧ loopReading 1499 = 4),
    leaves (.ilkLoopFault 499) act fun t => decide (t.tw.ilkFault = 2 ∧ t.tw.activeOut = true ∧ t.gate = true ∧ t.Recorded 0x0605 0xFFFF 2 1 0),
    leaves (.ilkLoopFault 15001) (tw act { activeOut := true, activeIn := true }) fun t => decide (t.tw.ilkFault = 3 ∧ t.gate = false ∧ t.activeIn = false),
    leaves (.ilkLoopFault 3001) act fun t => decide (t.tw.ilkFault = 4 ∧ 10001 ≤ t.clk ∧ t.gate = true),
    leaves (.ilkLoopFault 1500) (tw act { activeOut := true, ilkFault := 2 }) fun t => decide (t.tw.ilkFault = 0 ∧ t.tw.activeIn = false ∧ t.rcd = act.rcd),
    leaves (.ilkLoopFault 8000) (tw act { activeOut := true, ilkFault := 2 }) fun t => decide (t.tw.ilkFault = 0 ∧ t.tw.activeIn = true ∧ t.activeIn = true),
    at' act fun s => decide (s.interlock = loopReading 3000),
    leaves (.ilkLoopFault 3000) act fun t => decide (t.tw = act.tw ∧ t.objs = act.objs),
    at' (tw sby { activeIn := true } (2 ^ 70)) fun s => decide (s.heldMap.getLsbD 70 = true),
    leaves (.latchTimeout 70) (tw sby { activeIn := true } (2 ^ 70 + 1)) fun t => decide (t.heldMap = 1 ∧ 500000 ≤ t.clk ∧ t.Recorded 0x060D 0xFFFF 70 0 0),
    leaves (.latchTimeout 70) (tw sby { released := some (1, 7) } (2 ^ 70 + 1)) fun t => decide (t.heldMap = 1 ∧ 20000007 ≤ t.clk
      ∧ t.Recorded 0x060D 0xFFFF 70 1 0),
    leaves (.latchTimeout 0) (tw sby { released := some (1, 7) } (2 ^ 70 + 1)) fun t => decide (t.heldMap = 2 ^ 70 + 1 ∧ t.clk = 0),
    leaves (.latchTimeout 69) (tw sby { activeIn := true } (2 ^ 70 + 1)) fun t => decide (t.heldMap = 2 ^ 70 + 1 ∧ t.clk = 0)] = true := by decide +kernel

/-- A standby in its guard, mirrored, with every check as it must be but that of the twin's firmware, which counts for nothing here. -/
def guarded : State :=
  { put [(Oid.SLA_STATE, 2), (Oid.BANK_OK, 1), (Oid.TW_LANES, 3)] sby with
    tw := { guard := some 0, mirror := true, fullState := true }, pow := { sby.pow with feedB := { valid := true } } }

theorem test_witness_Takeover : ok [
    at' (tw sby { guard := some 0, activeIn := true }) fun s => decide (s.Room ∧ s.activeIn = true ∧ s.emits = []),
    leaves (.equinox 0) (tw sby { guard := some 0, activeIn := true }) fun t => decide (t.tw.guard = none ∧ t.mode = .standby ∧ 50000 ≤ t.clk),
    leaves (.equinox 0) (tw sby { guard := some 0, guardHealthy := false }) fun t => decide (t.tw.guard = none ∧ t.mode = .standby ∧ t.tw.activeOut = false),
    at' (tw act { activeOut := true, equinoxAt := some 0, frozenOut := 3, driven := 1 }) fun s => decide (s.drives = true
      ∧ s.tw.windows.getLsbD (kindNum .field) = false ∧ kindBit (kindNum .field) 1 = true),
    leaves (.readbackWindowEnd .field 1 3) (tw act { activeOut := true, equinoxAt := some 0, frozenOut := 3, driven := 1 }) fun t => decide (
      t.tw.windows.getLsbD 0 = true ∧ t.tw.matched.getLsbD 0 = true ∧ t.tw.matched.getLsbD 1 = false ∧ 150000 ≤ t.clk),
    leaves (.passMap 5) (tw sby { released := some (1, 7), gen := 9 } 6) fun t => decide (t.heldMap = 2 ∧ t.blob Oid.TW_LAST_PASS = mapBytes 5
      ∧ Out.twin 0x07 9 (mapBytes 4) ∈ t.out),
    leaves (.passMap 8) { tw sby { released := some (1, 7) } with fio := { safeHeld := 8 } } fun t => decide (t.latched 3 = false ∧ t.heldMap = 0
      ∧ Out.twin 0x07 0 (mapBytes 8) ∈ t.out),
    leaves (.passAck 5) (tw act { activeOut := true, passSent := true, frozenOut := 7 }) fun t => decide (t.tw.frozenOut = 2),
    leaves .passAckTimeout (tw act { activeOut := true, equinoxAt := some 0, frozenOut := 7 }) fun t => decide (t.tw.frozenOut = 0 ∧ t.tw.equinoxAt = none
      ∧ 520000 ≤ t.clk),
    leaves (.gratuitousArp 1 2) (tw (put [(Oid.TW_PAIR_IP 1, 99)] act) { activeOut := true, tookAt := some 0 }) fun t => decide (t.out = [.arp 1 99]
      ∧ 1000000000 ≤ t.clk ∧ t.tw.arpSent = 32)] = true := by decide +kernel

/-- The guarded standby is fit to take over, whatever the firmware of the twin. -/
theorem test_witness_Takeover_fit : (({ guarded with out := [] } : State).reach (0 + us 50)).mayTake = true := by
  unfold State.mayTake State.selfHealthy State.summary State.checks State.checkList
  generalize ((({ guarded with out := [] } : State).reach (0 + us 50)).nat Oid.TW_TWIN_FW == Config.fwVersion.toNat) = v
  cases v <;> decide +kernel

/-- The header of a frame of the twin at position B of the same pair, with a generation. -/
def from' (gen : BitVec 32) : TwinHdr := { hdr0 with position := 1, gen := gen, mirrorVer := Config.mirrorVer }

/-- A state with lane A trained. -/
def lane (s : State) (l : List (Key × Int) := []) : State := put (([(Oid.TW_LANES, 1)] : List (Key × Int)) ++ l) s

theorem hears_lane (s : State) (g : BitVec 32)
    (h : s.up .twin = true ∧ s.bit Oid.TW_LANES 0 = true ∧ s.nat Oid.STRAP_VALUE ≠ 0xFF ∧ 0 = s.pairId ∧ 1 ≠ s.position) : s.Hears (from' g) :=
  ⟨h.1, h.2.1, rfl, h.2.2.1, h.2.2.2.1, Nat.le_succ _, Nat.le_succ _, h.2.2.2.2⟩

/-- A message of a standby without faults. -/
def well : HealthMsg := ⟨2, 0, 5, 6, 7⟩

theorem test_witness_HealthAndBatches :
    (lane act).Hears (from' 3) ∧ (lane svc).Hears (from' 3) ∧ ok [
    at' (lane act) fun s => decide (s.Room ∧ s.booted = true ∧ s.drives = true ∧ s.healthyStandby = false ∧ s.emits = [] ∧ s.acc.waits = []
      ∧ s.acc.aborts = [] ∧ s.acc.later = [] ∧ s.dsp.held = [] ∧ s.tw.plan = none),
    leaves (.health { hdr0 with crcGood := false } well) (lane act) fun t => decide (t.tw = act.tw ∧ t.out = []),
    leaves .healthTimeout (tw (put [(Oid.TW_TWIN_STATE, 2)] act) { activeOut := true, seen := true }) fun t => decide (t.nat Oid.TW_TWIN_STATE = 0xFF
      ∧ t.nat Oid.TW_TWIN_SUMMARY = 6 ∧ t.healthyStandby = false ∧ 10000000 ≤ t.clk),
    leaves .standbyLost pair fun t => decide (t.tw.inStep = false ∧ 2000000 ≤ t.clk ∧ t.Recorded 0x0607 0xFFFF 0 0 0),
    at' { act with tb := { now := 100000 * 4294967296 } } fun s => decide (s.up .net = true ∧ s.up .twin = true ∧ s.genNow ≠ s.tw.gen ∧ s.tw.plan = none),
    leaves .batchSend sby fun t => decide (t.objs = sby.objs ∧ t.out = []),
    leaves .batchSend { act with tb := { now := 100000 * 4294967296 }, tw := { act.tw with openBatch := [.testRequest .selfTest] } } fun t => decide (
      t.nat Oid.TW_GEN = 1 ∧ t.tw.openBatch = [] ∧ t.tw.gen = 1)] = true := by
  refine ⟨hears_lane _ _ ?_, hears_lane _ _ ?_, ?_⟩ <;> decide +kernel

/-- A standby that has applied generation 4. -/
def mir (x : Twin := { applied := 4, mirror := true }) (l : List (Key × Int) := [(Oid.TW_RESYNC, 3)]) : State := { lane sby l with tw := x }

theorem test_witness_MirrorAndResync :
    (mir).Hears (from' 4) ∧ (lane act).Hears (from' 4) ∧ (mir {} [(Oid.TW_RESYNC, 1)]).Hears (from' 4) ∧ (mir {} [(Oid.TW_RESYNC, 2)]).Hears (from' 4) ∧ ok [
    at' (mir) fun s => decide (s.Room ∧ s.mode = .standby ∧ s.tw.joining = false ∧ s.nat Oid.TW_RESYNC ≠ 1 ∧ s.tw.mirror = true ∧ s.emits = []
      ∧ genLe 4 s.tw.applied = true ∧ genLe 6 s.tw.applied = false ∧ 6 ≠ (s.tw.applied + 1) % 2 ^ 32 ∧ s.tw.stored = [] ∧ s.tw.staged = []
      ∧ genLe 5 s.tw.applied = false ∧ 5 = (s.tw.applied + 1) % 2 ^ 32),
    leaves .mirrorTimeout (mir) fun t => decide (t.tw.mirror = false ∧ t.tw.fullState = false ∧ t.nat Oid.TW_RESYNC = 1 ∧ 2000000 ≤ t.clk
      ∧ t.Recorded 0x060A 0xFFFF 1 0 0),
    leaves .mirrorTimeout (mir { mirror := true, lacking := some 9 }) fun t => decide (2000009 ≤ t.clk),
    at' (mir {} [(Oid.TW_RESYNC, 1)]) fun s => decide (s.nat Oid.TW_RESYNC = 1 ∧ s.tw.stored = []),
    at' (mir { pieces := [(3, 9)] } [(Oid.TW_RESYNC, 2)]) fun s => decide (s.nat Oid.TW_RESYNC = 2 ∧ s.tw.pieces.contains (3, 9) = true
      ∧ s.tw.pieces.contains (3, 10) = false),
    at' (mir { streamed := [.values 9 [] [(Oid.LOG_DATA.oid, [1])]] } [(Oid.TW_RESYNC, 2)]) fun s => decide (s.nat Oid.TW_RESYNC = 2
      ∧ s.tw.streamed = [.values 9 [] [(Oid.LOG_DATA.oid, [1])]])] = true := by
  refine ⟨hears_lane _ _ ?_, hears_lane _ _ ?_, hears_lane _ _ ?_, hears_lane _ _ ?_, ?_⟩ <;> decide +kernel

/-- A diagnosis under way. -/
def diag (s : State) (own twin : Option (Bool × Nat)) : State :=
  { lane s with tw := { s.tw with diag := some (1, 2, 3), diagOwn := own, diagTwin := twin } }

theorem test_witness_DivergenceAndTests :
    (lane act).Hears (from' 4) ∧ (diag act none none).Hears (from' 4) ∧ (diag sby (some (true, 3)) none).Hears (from' 4) ∧ ok [
    at' (lane act) fun s => decide (s.Room ∧ s.booted = true ∧ s.tw.diag = none),
    leaves (.diagnosisEnd true 8) (diag act none none) fun t => decide (t.tw.diagOwn = some (true, 8) ∧ t.out = [.twin 0x0B 0 [1, 8, 0, 0]]),
    leaves (.diagnosisEnd true 8) (diag pair none (some (false, 3))) fun t => decide (t.tw.diag = none ∧ t.tw.activeOut = false
      ∧ t.Recorded 0x0609 0xFFFF 1 0 8),
    at' (diag pair none (some (false, 3))) fun s => decide (s.mode = .active ∧ s.healthyStandby = true),
    leaves .diagTimeout (diag act none none) fun t => decide (t.tw.diag = none ∧ 200000000 ≤ t.clk ∧ t.Recorded 0x0609 0xFFFF 1 1 0),
    at' { put [(Oid.FIO_MODE 5, 3)] sby with fio := { mode := [(5, 3)] } } fun s => decide (s.mode = .standby ∧ s.up .safe = true ∧ s.tw.guard = none
      ∧ s.outputBit 5 = true),
    leaves (.pulseTest 5 false true) { put [(Oid.FIO_MODE 5, 3)] sby with fio := { mode := [(5, 3)] } } fun t => decide (t.tw.pulseBad.getLsbD 5 = true
      ∧ t.tw.lastPulse = t.clk ∧ 1000000 ≤ t.clk ∧ t.Recorded 0x060C 0xFFFF 5 1 0),
    leaves (.pulseTest 5 true false) { put [(Oid.FIO_MODE 5, 3)] sby with fio := { mode := [(5, 3)] } } fun t => decide (t.Recorded 0x060C 0xFFFF 5 0 0),
    leaves (.pulseTest 5 true true) { put [(Oid.FIO_MODE 5, 3), (Oid.TW_PULSE_PERIOD, 60)] sby with fio := { mode := [(5, 3)] } }
      fun t => decide (60000000000 ≤ t.clk ∧ Tbl.get 0 t.tw.pulseAt 5 = t.clk ∧ t.tw.pulseBad.getLsbD 5 = false),
    leaves (.twLane 0 true true false) act fun t => decide (t.bit Oid.TW_LANES 0 = true ∧ t.bit Oid.TW_LANES 2 = true ∧ t.bit Oid.TW_LANES 3 = false
      ∧ t.Recorded 0x0606 0xFFFF 0 1 0),
    leaves (.twLane 0 false false false) (lane act) fun t => decide (t.bit Oid.TW_LANES 0 = false ∧ t.tw.inStep = false ∧ t.Recorded 0x0606 0xFFFF 0 0 0)]
    = true := by
  refine ⟨hears_lane _ _ ?_, hears_lane _ _ ?_, hears_lane _ _ ?_, ?_⟩ <;> decide +kernel

/-! ### Field inputs and outputs (chapter 17) -/

/-- Channel 9 in a mode, in effect, its group with a status. -/
def fio (m st : Nat) (f : FieldIo := {}) (s : State := act) : State :=
  { put [(Oid.FIO_MODE 9, m), (Oid.FG_STATUS 1, st)] s with fio := { f with mode := [(9, m)] } }

theorem test_witness_FieldHostWrites : ok [
    at' (fio 3 0) fun s => decide (s.Ready 0 ∧ s.fioOwner 9 = 0 ∧ s.fioBound 9 = false ∧ s.fioPulse 9 = false ∧ s.fioArmed 9 = false),
    leaves (.fioOut 0 7 9 1) (fio 3 0) fun t => decide (t.Answers 0 7 0 ∧ t.flag (Oid.FIO_OUT 9) = true ∧ t.blobs = act.blobs),
    leaves (.fioMode 0 7 9 2) (fio 3 0) fun t => decide (t.Answers 0 7 0 ∧ t.nat (Oid.FIO_MODE 9) = 2 ∧ t.fioMode 9 = 3),
    leaves (.fgAck 0 7 1 1) (fio 3 9) fun t => decide (t.Answers 0 7 0 ∧ t.bit (Oid.FG_STATUS 1) 0 = false ∧ t.bit (Oid.FG_STATUS 1) 3 = true),
    leaves (.fgAck 0 7 1 1) (put [(Oid.FG_SUPPLY_MV 1, 19501)] (fio 3 9 { limit := 2 ^ 9 })) fun t => decide (t.bit (Oid.FG_STATUS 1) 0 = true
      ∧ t.bit (Oid.FG_STATUS 1) 3 = false)] = true := by decide +kernel

theorem test_witness_FieldRefusals : ok [
    at' (put [(Oid.PO_FIELD 2, 9)] (fio 3 0)) fun s => decide (s.Ready 0 ∧ s.fioOwner 9 ≠ 0 ∧ s.fioPulse 9 = true),
    leaves (.fioOut 0 7 9 1) (put [(Oid.PO_FIELD 2, 9)] (fio 3 0)) fun t => decide (t.Answers 0 7 9 ∧ t.flag (Oid.FIO_OUT 9) = false),
    leaves (.fioMode 0 7 9 2) (put [(Oid.PO_FIELD 2, 9)] (fio 3 0)) fun t => decide (t.Answers 0 7 9 ∧ t.nat (Oid.FIO_MODE 9) = 3)] = true := by decide +kernel

theorem test_witness_FieldSupply : ok [
    at' (fio 3 0) fun s => decide (s.up .bus = true ∧ s.Room),
    leaves (.fioSag 1 17999 1000) (put [(Oid.FIO_OUT 9, 1)] (fio 3 0)) fun t => decide (t.bit (Oid.FG_STATUS 1) 1 = true ∧ t.bit (Oid.FG_STATUS 1) 0 = true
      ∧ t.Recorded 0x0E02 1 17999 0 0 ∧ t.switchOn 9 = false),
    leaves (.fioSupplyRestored 1 19501 50000) (put [(Oid.FG_RESTORE 1, 1)] (fio 3 3)) fun t => decide (t.nat (Oid.FG_STATUS 1) = 9 ∧ t.Recorded 0x0E03 1 1 0 0),
    leaves (.inputsSuspend 1 14999) (fio 1 0) fun t => decide (t.bit (Oid.FG_STATUS 1) 2 = true ∧ t.Recorded 0x0E04 1 0 14999 0 ∧ t.fioValid 9 = false),
    leaves (.inputsResume 1 15000 10000) (fio 1 4 { run := [(9, 3)], since := [(9, 16)] }) fun t => decide (t.bit (Oid.FG_STATUS 1) 2 = false
      ∧ t.Recorded 0x0E04 1 1 15000 0 ∧ Tbl.get 0 t.fio.run 9 = 0 ∧ Tbl.get 0 t.fio.since 9 = 0),
    leaves (.groupPowerUp 1 500) (fio 3 13) fun t => decide (t.nat (Oid.FG_STATUS 1) = 2 ∧ t.rcd = act.rcd),
    leaves (.fgSampleTick 1 2) (fio 3 0) fun t => decide (t.clk = 50000)] = true := by decide +kernel

theorem test_witness_FieldGroupFaults : ok [
    at' (put [(Oid.FIO_OUT 9, 1)] (fio 3 0)) fun s => decide (s.Room ∧ s.up .bus = true ∧ s.fioMode 9 = 3 ∧ s.switchOn 9 = true),
    leaves (.thermalShutdown 9) (put [(Oid.FIO_OUT 9, 1)] (fio 3 0)) fun t => decide (t.bit (Oid.FG_STATUS 1) 0 = true ∧ t.switchOn 9 = false),
    leaves (.thermalShutdown 9) (fio 1 0) fun t => decide (t.fio.thermal = 0 ∧ t.objs = (fio 1 0).objs),
    leaves (.thermalRestart 9) (fio 3 0 { thermal := 0x600 }) fun t => decide (t.fio.thermal = 0x400),
    leaves (.currentLimit 9 10) (put [(Oid.FIO_OUT 9, 1)] (fio 3 0)) fun t => decide (t.bit (Oid.FG_STATUS 1) 0 = true ∧ t.fio.limit = 0x200
      ∧ t.Recorded 0x0E01 1 1 0 0 ∧ t.nat (Oid.FG_FAULTS 1) = 1),
    at' { fio 3 0 with clk := 2000000 } fun s => decide (s.drivenByRow6 9 = true ∧ s.passed (Tbl.get 0 s.fio.changedAt 9) (ms 2) = true ∧ s.switchOn 9 = false),
    leaves (.readbackDisagree 9 true 2000) { fio 3 0 with clk := 2000000 } fun t => decide (t.bit (Oid.FG_STATUS 1) 0 = true ∧ t.fio.disagree = 0x200)]
    = true := by decide +kernel

theorem test_witness_FieldSample : ok [
    at' (fio 1 0 { run := [(9, 1)] }) fun s => decide (s.up .bus = true ∧ s.fioMode 9 = s.nat (Oid.FIO_MODE 9) ∧ s.fioValid 9 = true
      ∧ s.flag (Oid.FIO_IN 9) = false ∧ s.fioValid 10 = false),
    leaves (.fgSampleTick 1 2) (put [(Oid.FIO_FILTER 9, 2)] (fio 1 0 { run := [(9, 1)] })) fun t => decide (t.flag (Oid.FIO_LEVEL 9) = true
      ∧ t.flag (Oid.FIO_IN 9) = true ∧ t.nat (Oid.FIO_CHANGES 9) = 1),
    leaves (.fgSampleTick 1 2) (put [(Oid.FIO_FILTER 9, 3)] (fio 1 0 { run := [(9, 1)] })) fun t => decide (t.flag (Oid.FIO_IN 9) = false
      ∧ Tbl.get 0 t.fio.run 9 = 2),
    leaves (.fgSampleTick 1 0) (fio 1 0 { run := [(9, 1)] }) fun t => decide (t.flag (Oid.FIO_IN 9) = false ∧ Tbl.get 0 t.fio.run 9 = 0),
    leaves (.fgSampleTick 1 6) (fio 1 0) fun t => decide (t.flag (Oid.FIO_LEVEL 10) = true ∧ t.flag (Oid.FIO_IN 10) = false)] = true := by decide +kernel

theorem test_witness_SilenceWatchdog : ok [
    at' (fio 3 0) fun s => decide (s.up .bus = true ∧ s.gate = true),
    leaves (.outputCommit true) (put [(Oid.FIO_OUT 9, 1), (Oid.FIO_WD_STATE, 1)] { fio 3 16 { safeHeld := 0x200 } with clk := 8 }) fun t => decide (t.fio.wdAt = 8
      ∧ t.clk = 8 ∧ t.fio.image = 0x200 ∧ t.nat Oid.FIO_WD_STATE = 0 ∧ t.fio.safeHeld = 0 ∧ t.bit (Oid.FG_STATUS 1) 4 = false),
    leaves (.outputCommit true) (put [(Oid.FIO_OUT 9, 1)] (fio 3 0 {} svc)) fun t => decide (t.fio.image = 0x200 ∧ t.fio.wdAt = 0),
    at' (put [(Oid.FIO_WD_STATE, 0)] (fio 3 0)) fun s => decide (s.pd .aon = true ∧ s.nat Oid.FIO_WD_STATE = 0 ∧ s.latchHolds 9 = true),
    leaves .fioWdExpired (put [(Oid.FIO_WD_STATE, 0), (Oid.FIO_SAFE 9, 1)] (fio 3 0)) fun t => decide (t.nat Oid.FIO_WD_STATE = 1 ∧ t.fio.safeHeld = 0x200
      ∧ t.fio.safeLevel.getLsbD 9 = true ∧ t.bit (Oid.FG_STATUS 1) 4 = true),
    leaves .fioWdExpired (put [(Oid.FIO_WD_STATE, 0), (Oid.FIO_SAFE 9, 2), (Oid.FIO_OUT 9, 1)] (fio 3 0)) fun t => decide (t.fio.safeLevel.getLsbD 9 = true),
    leaves .fioWdExpired (put [(Oid.FIO_WD_STATE, 0), (Oid.FIO_SAFE 9, 0), (Oid.FIO_OUT 9, 1)] (fio 3 0)) fun t => decide (t.fio.safeLevel.getLsbD 9 = false
      ∧ t.heldMap.getLsbD 9 = false),
    leaves .fioWdExpired (put [(Oid.FIO_WD_STATE, 1)] (fio 3 0)) fun t => decide (t.fio.safeHeld = 0 ∧ t.clk = 0)] = true := by decide +kernel

/-! ### Memory integrity, firmware, configuration sets and certificates (chapter 18) -/

/-- A word address of SRAM region 0x09. -/
def a9 : Nat := 2588672

/-- Image data of a bank with a bad magic number, under check since the start. -/
def image (m : Nat) : State := { svc with mem := { image := [(0, 1)], verifyAt := some 0, forTwin := m == 1 } }

theorem test_witness_Memory : ok [
    at' svc fun s => decide (s.Room ∧ s.booted = true ∧ s.pow.lpddr = true ∧ readCode 16 0 0 = .clean ∧ readCode 16 0 5 = .corrected 0
      ∧ regionAt 0 0 = some (1, 0) ∧ readCode 16 a9 0x0102 = .uncorrectable ∧ regionAt 0 a9 = some (9, 0) ∧ criticalRegion 9 = false),
    leaves (.scrubPass 0 [(0, 0)] 10000) svc fun t => decide (t.mem = svc.mem ∧ t.rcd = svc.rcd),
    leaves (.scrubPass 1 [(0, 0)] 0) { svc with rst := { svc.rst with scrubDue := true } } fun t => decide (t.rst.scrubDue = false),
    leaves (.scrubPass 0 [(0, 0)] 0) { svc with rst := { svc.rst with scrubDue := true } } fun t => decide (t.rst.scrubDue = true),
    leaves (.scrubPass 0 [(0, 0)] 10001) svc fun t => decide (t.Recorded 0x0404 0xFFFF 0 10 0),
    leaves (.scrubPass 0 [(0, 5)] 0) svc fun t => decide (t.nat Oid.MEM_CE_COUNT = 1 ∧ t.nat Oid.MEM_DSE_COUNT = 0 ∧ t.rcd = svc.rcd),
    leaves (.scrubPass 0 [(0, 5)] 0) { svc with mem := { corrected := [(0, 0, [0, 0])] } } fun t => decide (t.Recorded 0x0401 0xFFFF 1 0 3),
    leaves (.scrubPass 0 [(a9, 0x0102)] 0) svc fun t => decide (t.tw.dseAt = some t.clk ∧ t.Recorded 0x0402 0xFFFF 9 a9 0 ∧ t.nat Oid.MEM_DSE_COUNT = 1),
    at' svc fun _ => decide (containedRegion 0x40 = true ∧ containedRegion 0x41 = true ∧ containedRegion 0x01 = false ∧ regionOff 0x41 (8388608 + 2097152 + 1) / 67108864 = 1),
    leaves (.memDseContained 0x40 5) svc fun t => decide (t.mem.bankOk = 2 ∧ t.nat Oid.MEM_DSE_COUNT = 1 ∧ t.Recorded 0x0402 0xFFFF 0x40 5 0
      ∧ t.blob Oid.MEM_LAST_DSE = leBytes 8 0 ++ [0x40, 0, 0, 0] ++ leBytes 4 5),
    leaves (.memDseContained 0x41 (BitVec.ofNat 32 (8388608 + 2097152 + 1))) svc fun t => decide (t.mem.slotBad = [32] ∧ t.mem.activeBad = false),
    leaves (.memDseContained 0x0B 0) svc fun t => decide (t.tablesReload = true ∧ t.nat Oid.MEM_DSE_COUNT = 1),
    leaves (.memDseContained 0x09 0) svc fun t => decide (t.met.shadowBad.length = 1),
    leaves (.memDseContained 0x41 8388608) svc fun t => decide (t.mem.activeBad = true),
    leaves (.memDseContained 0x01 5) svc fun t => decide (t.mem = svc.mem ∧ t.nat Oid.MEM_DSE_COUNT = 0),
    leaves .fwVerifyEnd svc fun t => decide (t.mem = svc.mem),
    at' (image 1) fun s => decide (s.fwFault = some 0 ∧ s.mem.verifyAt = some 0),
    leaves .fwVerifyEnd { svc with mem := { other := { image := [(0, 1)], verifyAt := some 0, state := 2 } } } fun t => decide (t.mem.other.verifyAt = none
      ∧ t.mem.other.state = 4 ∧ t.nat Oid.FW_STATE = 0 ∧ t.Recorded 0x1009 0xFFFF 1 0 0),
    leaves .fwVerifyEnd (image 1) fun t => decide (t.nat Oid.FW_STATE = 4 ∧ t.mem.verifyAt = none ∧ t.Recorded 0x1009 0xFFFF 1 0 0),
    at' svc fun s => decide (s.Ready 0 ∧ s.nat Oid.FW_TARGET ≠ 1),
    leaves (.fwLoad 0 7 (leBytes 4 134217727 ++ [9])) svc fun t => decide (t.Answers 0 7 0 ∧ t.nat Oid.FW_STATE = 1 ∧ t.mem.image = [(134217727, 9)]
      ∧ t.mem.bankOk = 1),
    leaves (.fwLoad 0 7 [0, 0, 0, 0, 9]) { svc with mem := { image := [(0, 1)], forTwin := true, other := { image := [(5, 1)] } } } fun t => decide (
      t.mem.image = [(0, 9), (5, 1)] ∧ t.mem.other.image = [(0, 1)] ∧ t.mem.forTwin = false),
    leaves (.fwLoad 0 7 (leBytes 4 134217728 ++ [9])) svc fun t => decide (t.Answers 0 7 4 ∧ t.mem = svc.mem),
    leaves (.cfgLoad 0 7 (leBytes 4 67108863 ++ [9])) svc fun t => decide (t.Answers 0 7 0 ∧ t.nat Oid.CFG_STATE = 1 ∧ t.mem.slot = [(67108863, 9)]),
    leaves (.cfgLoad 0 7 (leBytes 4 67108864 ++ [9])) svc fun t => decide (t.Answers 0 7 4 ∧ t.mem = svc.mem),
    leaves (.cfgLoad 0 7 [1, 2, 3, 4]) svc fun t => decide (t.Answers 0 7 3),
    leaves (.fwLoad 0 7 [1, 2, 3, 4]) svc fun t => decide (t.Answers 0 7 3),
    leaves (.fwLoad 0 7 [1, 2, 3, 4, 5]) (put [(Oid.FW_TARGET, 1)] svc) fun t => decide (t.Answers 0 7 9 ∧ t.mem = svc.mem),
    leaves (.fwVerify 0 7 1) (put [(Oid.FW_TARGET, 1)] svc) fun t => decide (t.Answers 0 7 9),
    leaves (.fwSwitch 0 7 1) (put [(Oid.FW_TARGET, 1)] svc) fun t => decide (t.Answers 0 7 9),
    leaves (.fwVerify 0 7 1) svc fun t => decide (t.Answers 0 7 0 ∧ t.nat Oid.FW_STATE = 2 ∧ t.mem.verifyAt = some 0),
    leaves (.fwSwitch 0 7 1) svc fun t => decide (t.Answers 0 7 9),
    leaves (.fwSwitch 0 7 1) (put [(Oid.FW_STATE, 3)] act) fun t => decide (t.Answers 0 7 9),
    at' (put [(Oid.FW_STATE, 3)] svc) fun s => decide (s.mode = .service ∧ s.pow.autumn ≠ .running ∧ s.rst.pendingRel = none),
    leaves (.fwSwitch 0 7 1) (put [(Oid.FW_STATE, 3)] svc) fun t => decide (t.mem.bootBank = 1 ∧ t.mode = .boot ∧ t.rst.asserted.getLsbD 13 = true),
    at' svc fun s => decide (s.cfgFault = some 0),
    leaves (.cfgVerify 0 7 1) svc fun t => decide (t.Answers 0 7 0 ∧ t.nat Oid.CFG_STATE = 4 ∧ t.Recorded 0x100A 0xFFFF 0 0 0),
    leaves (.fwVerify 0 7 2) svc fun t => decide (t.Answers 0 7 4),
    leaves (.fwSwitch 0 7 2) svc fun t => decide (t.Answers 0 7 4),
    leaves (.cfgVerify 0 7 2) svc fun t => decide (t.Answers 0 7 4),
    leaves (.opcCert 0 7 3 0 []) svc fun t => decide (t.Answers 0 7 0 ∧ t.nat (Oid.OPC_STATE 3 0) = 0),
    leaves (.opcCert 0 7 3 1 [1]) svc fun t => decide (t.Answers 0 7 0 ∧ t.blob (Oid.OPC_CERT 3 1) = [1] ∧ t.nat (Oid.OPC_STATE 3 1) = 1),
    leaves (.opcCert 0 7 3 1 (List.replicate 8193 0)) svc fun t => decide (t.Answers 0 7 3),
    leaves (.opcUse 0 7 3 1 3) svc fun t => decide (t.Answers 0 7 0 ∧ t.nat (Oid.OPC_USE 3 1) = 3),
    leaves (.opcUse 0 7 3 1 3) (put [(Oid.OPC_USE 2 1, 2)] svc) fun t => decide (t.Answers 0 7 9 ∧ t.nat (Oid.OPC_USE 3 1) = 0)] = true := by decide +kernel

/-! ### Event recorder, freeze and readout port (chapter 19) -/

/-- A record of code 5 that waits, and a state whose recorder holds some. -/
def rec5 : Rec := { seq := 3, code := 5, src := 6, optime := 0, cycles := 0, p0 := 7, p1 := 8, p2 := 9 }
def recs (l : List Rec) : State := { svc with rcd := { svc.rcd with ring := l, next := 4 } }

/-- A full pending area. -/
theorem test_witness_RecorderPath_full : (recs (List.replicate 32768 rec5)).rcd.waitingCount = 32768
    ∧ (recs (List.replicate 32768 rec5)).merges 1 6 7 8 9 = false := by
  constructor
  · show ((List.replicate 32768 rec5).filter (·.waiting)).length = 32768
    rw [List.filter_replicate_of_pos (by decide), List.length_replicate]
  · decide

theorem test_witness_RecorderPath : ok [
    at' (recs [rec5]) fun s => decide (s.booted = true ∧ s.merges 5 6 7 8 9 = true ∧ s.merges 5 6 7 8 10 = false ∧ s.rcd.waitingCount < 32768),
    leaves (.eventOffer 5 6 7 8 9) (recs [rec5]) fun t => decide (t.rcd.next = 4 ∧ t.rcd.ring = [{ rec5 with repeats := 1 }]),
    leaves (.eventOffer 5 6 7 8 10) (recs [rec5]) fun t => decide (t.rcd.next = 5 ∧ t.rcd.ring.map (·.p2) = [10, 9] ∧ t.rcd.ring.map (·.seq) = [4, 3]),
    leaves .recordFlush (recs [rec5]) fun t => decide (t.rcd.waitingCount = 0 ∧ t.rcd.next = 4 ∧ t.rcd.ring.map (·.seq) = [3]),
    leaves .recRecordsDropped { svc with rcd := { svc.rcd with droppedRun := 2, firstDrop := 9 } } fun t => decide (t.rcd.droppedRun = 0 ∧ 100000000 ≤ t.clk
      ∧ t.Recorded 0x0405 0xFFFF 2 9 0)] = true := by decide +kernel

theorem test_witness_FreezeRequest : ok [
    leaves (.winterNLow 499) svc fun t => decide (t.frz = svc.frz ∧ t.mode = .service),
    leaves (.winterNLow 1000) { svc with frz := { low := true } } fun t => decide (t.frz.low = true ∧ t.mode = .service),
    leaves (.winterNLow 1000) { svc with pow := { autumn := .running } } fun t => decide (t.frz = { low := true } ∧ t.mode = .service),
    leaves (.winterNLow 1000) { svc with frz := { ignored := true } } fun t => decide (t.frz = { low := true, ignored := true } ∧ t.mode = .service),
    at' boot fun s => decide (s.Room ∧ s.pd .aon = true ∧ s.pow.autumn ≠ .running ∧ s.frz.ignored = false ∧ s.frz.low = false),
    leaves (.winterNLow 1000) boot fun t => decide (t.mode = .boot ∧ t.frz.waiting = true ∧ t.nat Oid.WINTER_N_STATE = 1),
    leaves (.winterNLow 1000) sby fun t => decide (t.mode = .frozen ∧ t.nat Oid.TW_SUMMARY = 5 ∧ t.nat Oid.FRZ_COUNT = 1 ∧ t.frz.prior = 2
      ∧ t.frz.clocksStopped = true ∧ t.Recorded 0x0110 0xFFFF 2 0 0),
    leaves (.winterNLow 1000) pair fun t => decide (t.mode = .active ∧ t.tw.activeOut = false ∧ t.tw.released = some (9, 0) ∧ t.frz.waiting = true
      ∧ t.Recorded 0x0601 0xFFFF 9 0 0),
    leaves (.winterNLow 1000) act fun t => decide (t.mode = .active ∧ t.tw = act.tw ∧ t.frz.ignored = true ∧ t.nat Oid.WINTER_N_STATE = 2
      ∧ t.Recorded 0x0111 0xFFFF Mode.active.code (act.nat Oid.TW_TWIN_SUMMARY) 0)] = true := by decide +kernel

/-- A module whose freeze waits, and one that is frozen. -/
def waitFrz (m : Mode) (held : Nat) : State := { tw { svc with mode := m } {} held with frz := { low := true, waiting := true } }
def frozen (readout : Bool) : State :=
  { svc with mode := .frozen, frz := { low := true, clocksStopped := true, readout := readout, addr := 0x0300000000000001, word := 7 } }

theorem test_witness_FreezeEntryAndEnd : ok [
    at' (waitFrz .active 0) fun s => decide (s.Room ∧ s.frz.waiting = true ∧ s.heldMap = 0 ∧ s.tw.activeOut = false ∧ s.mode = .active),
    leaves .freezeEntry (waitFrz .active 0) fun t => decide (t.mode = .frozen ∧ t.frz.prior = 2 ∧ t.frz.waiting = false ∧ t.Recorded 0x0110 0xFFFF 2 0 0),
    leaves .freezeEntry (waitFrz .active 1) fun t => decide (t.mode = .active ∧ t.frz.waiting = true),
    leaves (.winterNHigh 499) (frozen false) fun t => decide (t.mode = .frozen),
    leaves (.winterNHigh 1000) (frozen false) fun t => decide (t.mode = .boot ∧ t.rst.inReset = true ∧ t.rst.asserted.getLsbD 12 = true ∧ t.frz.low = false
      ∧ t.frz.clocksStopped = false),
    leaves (.winterNHigh 1000) { frozen false with pow := { autumn := .running } } fun t => decide (t.mode = .frozen ∧ t.frz.low = false
      ∧ t.rst.asserted = 0 ∧ t.Recorded 0x0101 0xFFFF 12 2 (t.nat Oid.RESET_CAUSE)),
    leaves (.winterNHigh 1000) (waitFrz .active 0) fun t => decide (t.mode = .standby ∧ t.frz.waiting = false ∧ t.Recorded 0x0112 0xFFFF 9 0 0),
    leaves (.winterNHigh 1000000) { svc with frz := { low := true, ignored := true } } fun t => decide (t.frz.low = false ∧ t.frz.ignored = false
      ∧ t.nat Oid.WINTER_N_STATE = 0)] = true := by decide +kernel

theorem test_witness_ReadoutPort : ok [
    leaves .idcode svc fun t => decide (t.out = [.tdo 32 0x14260001] ∧ t.frz.ir = 1),
    leaves (.bypassTap 255) svc fun t => decide (t.out = [.tdo 1 0] ∧ t.frz.ir = 255),
    leaves (.frzAddr 5) svc fun t => decide (t.out = [.tdo 64 0] ∧ t.frz.addr = 0),
    leaves .frzData svc fun t => decide (t.frz.addr = 0 ∧ t.frz.ir = 0x12),
    leaves (.frzAddr 0x0100FF0000000005) (frozen false) fun t => decide (t.out = [.tdo 64 0x0300000000000001] ∧ t.frz.addr = 0x0100000000000005
      ∧ t.frz.wordsRead = 1 ∧ t.frz.word = readoutWord 1 3 5 0),
    leaves .frzData (frozen false) fun t => decide (t.out = [.tdo 384 7] ∧ t.frz.addr = nextWord 0x0300000000000001 ∧ t.frz.wordsRead = 1),
    leaves .tapReset svc fun t => decide (t.frz.ir = 1 ∧ t.out = []),
    leaves .frzStatus (frozen true) fun t => decide (t.frz.ir = 0x10 ∧ t.out.length = 1)]
    = true := by decide +kernel

end Sys2Proof.Tests
end

section
/-! The requests of MODULE_STATE_REQ (R6, R37, R41). A host write of 1 or 3 is checked by one question of chapter 01; once it is accepted, its
effect parks the idle cars and moves MODULE_STATE. `State.hostRow_done` leaves this object out, since its status at the commit point depends on
the cars: the law is proved here for every write whose status there is OK. -/

namespace Sys2Proof.Machine

/-! ### A host write that commits with the status OK -/

/-- A host write that passes its checks and commits with OK, whose effect leaves its session open and emits no action: it is answered OK, and
the state is that of its effect (R29, R674). -/
theorem State.hostRow_done_of_commitStatus (s : State) (n : Nat) (req : BitVec 32) (e : WEntry) (h : s.Ready n) (hoid : e.oid < 0xF0000000)
    (hp : e.oid ≠ 0x120) (hc : (s.seen n).checkWrite (hostRights n) e = none) (hl : isLoopCmd e.oid = false) (hw : isTxbCtrl e.oid = false)
    (hd : ∀ o ix, lookup e.oid = some (o, ix) → o.base = 0x20000100 → leNat e.data ≠ 1)
    (hs : (s.placed n req e).commitStatus (s.writeReq n req e) = .ok)
    (hx : ((s.placed n req e).applyObject (hostRights n) e).acc.sessions = (s.placed n req e).acc.sessions)
    (hm : ((s.placed n req e).applyObject (hostRights n) e).emits = []) :
    (s.hostRow n req e).Answers n req 0 ∧ (s.hostRow n req e).Like ((s.placed n req e).applyObject (hostRights n) e) := by
  have hwrote : (s.wrote n req e).Like ((s.placed n req e).applyObject (hostRights n) e) := State.applyEntries_one _ _ _ hoid
  have hses : (s.wrote n req e).ses n = { s.ses n with lastFrame := s.clk } := by
    rw [hwrote.ses, ← s.ses_seen n, ← s.ses_placed n req e n]
    simp only [State.ses, hx]
  have hlistens : (s.wrote n req e).listens (s.writeReq n req e) = true := by
    obtain ⟨-, -, hopen, -⟩ := h
    simp [State.listens, State.writeReq, hses, hopen]
  have hlike := (State.recordCommitted_like (s.wrote n req e) req (s.ses n).fpr 0).trans hwrote
  have hquiet : (((s.wrote n req e).recordCommitted (s.ses n).fpr req 0).emit (.resp n 0x11 req 0 [])).emits = [] := by
    rw [State.emit_emits, hlike.emits, hm]
  rw [s.hostRow_commit n req e h hoid hp hc (by simp [PendReq.loopCmd, hl]) hd (by simp [hw]) hs hlistens, State.drain, hquiet]
  exact ⟨by simp [State.Answers, State.emit], (State.emit_like ..).trans hlike⟩

/-! ### Car states -/

@[simp] theorem State.carState_setCarState_same (s : State) (n st : Nat) : (s.setCarState n st).carState n = st := by
  simp [State.setCarState, State.mirrorCar, State.carState, State.nat]

theorem State.carState_setCarState_other (s : State) (n m st : Nat) (h : n ≠ m) : (s.setCarState n st).carState m = s.carState m := by
  have hne : (Oid.CAR_STATE n).oid ≠ (Oid.CAR_STATE m).oid := by simp; omega
  simp [State.setCarState, State.mirrorCar, State.carState, State.nat, State.get_setN_other _ _ _ _ hne]

/-- MODULE_STATE_REQ is no car's CAR_STATE. -/
theorem State.carState_setReq (s : State) (v n : Nat) : (s.setN Oid.MODULE_STATE_REQ v).carState n = s.carState n := by
  have hne : Oid.MODULE_STATE_REQ.oid ≠ (Oid.CAR_STATE n).oid := by simp; omega
  simp [State.carState, State.nat, State.get_setN_other _ _ _ _ hne]

theorem State.carState_seen (s : State) (n m : Nat) : (s.seen n).carState m = s.carState m := s.nat_seen n _

theorem State.carState_landed (s : State) (n : Nat) (req : BitVec 32) (e : WEntry) (m : Nat) : (s.landed n req e).carState m = s.carState m :=
  s.nat_landed n req e _

/-- Cars are at rest by their car states alone. -/
theorem State.carsAtRest_congr {s t : State} (h : ∀ n, t.carState n = s.carState n) : t.carsAtRest = s.carsAtRest := by
  simp [State.carsAtRest, h]

theorem State.carsAtRest_iff (s : State) : s.carsAtRest = true ↔ ∀ n, n < 12 → s.carState n ≤ 2 ∨ s.carState n = 11 := by
  simp [State.carsAtRest]

/-- A car in a state of movement, of its doors or of another operation: R6 refuses SERVICE. -/
theorem State.carsAtRest_eq_false {s : State} {n : Nat} (hn : n < 12) (h2 : 2 < s.carState n) (h11 : s.carState n ≠ 11) :
    s.carsAtRest = false := by
  rw [Bool.eq_false_iff, ne_eq, s.carsAtRest_iff]
  intro h
  have := h n hn
  omega

/-! ### Idle cars park, and MODULE_STATE moves -/

/-- A car that is IDLE parks (R6). -/
def State.parkIdle (s : State) (n : Nat) : State := if s.carState n = 2 then s.setCarState n 1 else s

theorem State.carState_parkIdle (s : State) (n m : Nat) :
    (s.parkIdle n).carState m = if m = n ∧ s.carState m = 2 then 1 else s.carState m := by
  unfold State.parkIdle
  by_cases hm : m = n
  · subst hm
    split <;> simp_all
  · split <;> simp [hm, State.carState_setCarState_other _ _ _ _ (Ne.symm hm)]

/-- Parking one car after another changes IDLE to PARKED, and no other car state. -/
theorem State.carState_foldl_parkIdle (l : List Nat) (s : State) (m : Nat) :
    (l.foldl State.parkIdle s).carState m = if m ∈ l ∧ s.carState m = 2 then 1 else s.carState m := by
  induction l generalizing s with
  | nil => simp
  | cons n t ih =>
    rw [List.foldl_cons, ih, State.carState_parkIdle]
    by_cases hn : m = n
    · subst hn
      by_cases hidle : s.carState m = 2 <;> simp [hidle]
    · simp [hn]

/-- What a parked car leaves as it was. -/
theorem State.parkIdle_frame (s : State) (n : Nat) :
    (s.parkIdle n).mode = s.mode ∧ (s.parkIdle n).rcd = s.rcd ∧ (s.parkIdle n).acc = s.acc ∧ (s.parkIdle n).emits = s.emits := by
  unfold State.parkIdle
  split
  · simp [State.setCarState, State.mirrorCar]
  · exact ⟨rfl, rfl, rfl, rfl⟩

/-- What parking one car after another leaves as it was. -/
theorem State.foldl_parkIdle_frame (l : List Nat) (s : State) :
    (l.foldl State.parkIdle s).mode = s.mode ∧ (l.foldl State.parkIdle s).rcd = s.rcd ∧ (l.foldl State.parkIdle s).acc = s.acc
      ∧ (l.foldl State.parkIdle s).emits = s.emits := by
  induction l generalizing s with
  | nil => exact ⟨rfl, rfl, rfl, rfl⟩
  | cons n t ih =>
    have h := s.parkIdle_frame n
    rw [List.foldl_cons]
    simpa only [h] using ih (s.parkIdle n)

@[simp] theorem State.enter_mode (s : State) (m : Mode) (trigger : Nat) : (s.enter m trigger).mode = m := by simp [State.enter]
@[simp] theorem State.enter_acc (s : State) (m : Mode) (trigger : Nat) : (s.enter m trigger).acc = s.acc := by simp [State.enter]
@[simp] theorem State.enter_emits (s : State) (m : Mode) (trigger : Nat) : (s.enter m trigger).emits = s.emits := by simp [State.enter]

@[simp] theorem State.carState_enter (s : State) (m : Mode) (trigger n : Nat) : (s.enter m trigger).carState n = s.carState n := by
  have hne : Oid.REC_DROPPED.oid ≠ (Oid.CAR_STATE n).oid := by simp; omega
  simp only [State.enter, State.carState, State.nat]
  rw [State.get_event _ _ _ _ _ _ hne]
  rfl

/-- A change of MODULE_STATE is recorded with the state it leaves and its trigger, while the pending area has room (R37). -/
theorem State.enter_recorded (s : State) (m : Mode) (trigger : Nat) (h : s.Room) :
    (s.enter m trigger).Recorded 0x010A 0xFFFF s.mode.code m.code trigger :=
  State.event_recorded _ _ _ _ _ (show s.rcd.waitingCount < 32768 by omega)

/-! ### The effect of MODULE_STATE_REQ -/

/-- SERVICE asked of an ACTIVE module whose cars are at rest: the idle cars park, then the module enters SERVICE (R6). -/
theorem State.stateReq_service {s : State} (hmode : s.mode = .active) (hrest : s.carsAtRest = true) :
    s.stateReq 1 = ((List.range 12).foldl State.parkIdle (s.setN Oid.MODULE_STATE_REQ 1)).enter .service 1 := by
  have hcars : (s.setN Oid.MODULE_STATE_REQ 1).carsAtRest = true := by
    rw [State.carsAtRest_congr fun n => s.carState_setReq 1 n, hrest]
  unfold State.stateReq
  exact if_pos ⟨rfl, hmode, hcars⟩

theorem State.stateReq_service_carState {s : State} (hmode : s.mode = .active) (hrest : s.carsAtRest = true) (m : Nat) (hm : m < 12) :
    (s.stateReq 1).carState m = if s.carState m = 2 then 1 else s.carState m := by
  rw [State.stateReq_service hmode hrest, State.carState_enter, State.carState_foldl_parkIdle, State.carState_setReq]
  simp [hm]

theorem State.stateReq_service_recorded {s : State} (hmode : s.mode = .active) (hrest : s.carsAtRest = true) (hroom : s.Room) :
    (s.stateReq 1).Recorded 0x010A 0xFFFF Mode.active.code Mode.service.code 1 := by
  obtain ⟨hpmode, hprcd, -⟩ := State.foldl_parkIdle_frame (List.range 12) (s.setN Oid.MODULE_STATE_REQ 1)
  have hrec := State.enter_recorded ((List.range 12).foldl State.parkIdle (s.setN Oid.MODULE_STATE_REQ 1)) .service 1
    (by simpa [State.Room, hprcd] using hroom)
  rw [State.stateReq_service hmode hrest]
  rwa [hpmode, State.setN_mode, hmode] at hrec

/-- ACTIVE asked of a module in SERVICE: it is entered, and no car changes its state (R37). -/
theorem State.stateReq_active {s : State} (hmode : s.mode = .service) :
    s.stateReq 3 = (s.setN Oid.MODULE_STATE_REQ 3).enter .active 1 := by
  simp [State.stateReq, hmode]

theorem State.stateReq_active_carState {s : State} (hmode : s.mode = .service) (m : Nat) : (s.stateReq 3).carState m = s.carState m := by
  rw [State.stateReq_active hmode, State.carState_enter, State.carState_setReq]

theorem State.stateReq_active_recorded {s : State} (hmode : s.mode = .service) (hroom : s.Room) :
    (s.stateReq 3).Recorded 0x010A 0xFFFF Mode.service.code Mode.active.code 1 := by
  have hrec := (s.setN Oid.MODULE_STATE_REQ 3).enter_recorded .active 1 hroom
  rw [State.stateReq_active hmode]
  rwa [State.setN_mode, hmode] at hrec

/-- The effect leaves host access as it was, and emits no action. -/
theorem State.stateReq_frame (s : State) (v : Nat) : (s.stateReq v).acc = s.acc ∧ (s.stateReq v).emits = s.emits := by
  unfold State.stateReq
  simp only []
  split
  · obtain ⟨-, -, hacc, hemits⟩ := State.foldl_parkIdle_frame (List.range 12) (s.setN Oid.MODULE_STATE_REQ v)
    exact ⟨(State.enter_acc ..).trans hacc, (State.enter_emits ..).trans hemits⟩
  · split <;> simp

/-! ### MODULE_STATE_REQ as a host write -/

/-- The write of MODULE_STATE_REQ with a value. -/
def stateReqEntry (v : Byte) : WEntry := { oid := Oid.MODULE_STATE_REQ.oid, data := [v] }

/-- The row of MODULE_STATE_REQ (R41). -/
def stateReqRow : ObjRow := ⟨0x00000110, [], .u8, .rwp, .num 0, true, .oneOf [1, 3], .request⟩

theorem lookup_stateReq : lookup Oid.MODULE_STATE_REQ.oid = some (stateReqRow, []) :=
  show lookup 0x00000110 = some (stateReqRow, []) from rfl

theorem isTxbCtrl_stateReq : isTxbCtrl Oid.MODULE_STATE_REQ.oid = false := by
  rw [isTxbCtrl, lookup_stateReq]
  rfl

theorem isLoopCmd_stateReq : isLoopCmd Oid.MODULE_STATE_REQ.oid = false := by
  rw [isLoopCmd, lookup_stateReq]
  rfl

theorem stateReqRow_value (v : Byte) : maskBits stateReqRow.base (stateReqRow.ty.dec (stateReqRow.taken [v])) = (v.toNat : Int) := by
  simp [stateReqRow, ObjRow.taken, Ty.isBytes, maskBits, bitMask, Ty.dec, Ty.isSigned]

/-- A write of a value of the row is checked by chapter 01 alone. -/
theorem State.checkWrite_stateReqEntry (s : State) (n : Nat) (v : Byte) (hv : v = 1 ∨ v = 3) :
    s.checkWrite (hostRights n) (stateReqEntry v) = s.check00 0x00000110 [] v.toNat [v] := by
  have hval : valueCheck stateReqRow stateReqRow.ty (stateReqRow.taken [v]) = none := by
    rcases hv with rfl | rfl <;> decide
  have hcode : s.codeCheck (hostRights n) stateReqRow [] = none := by simp [State.codeCheck, stateReqRow, hostRights, need]
  rw [s.checkWrite_plain (stateReqEntry v) (hostRights n) stateReqRow [] rfl lookup_stateReq rfl (by decide) hcode (by decide) rfl rfl rfl
    hval (by decide) (fun h => absurd h (by decide))]
  show s.ownerCheck _ _ _ _ (maskBits stateReqRow.base (stateReqRow.ty.dec (stateReqRow.taken [v]))) _ = _
  rw [stateReqRow_value]
  rfl

/-- SERVICE is refused with BUSY while a car is outside the states of R6, by a module that serves and is no standby. -/
theorem State.checkWrite_service (s : State) (n : Nat) (hmode : s.mode = .active ∨ s.mode = .service) :
    s.checkWrite (hostRights n) (stateReqEntry 1) = need s.carsAtRest .busy := by
  rw [s.checkWrite_stateReqEntry n 1 (.inl rfl)]
  rcases hmode with h | h <;> simp [State.check00, h]

/-- A module in SERVICE is refused ACTIVE with INTEGRITY without a valid configuration set (R37). -/
theorem State.checkWrite_active (s : State) (n : Nat) (hmode : s.mode = .service) :
    s.checkWrite (hostRights n) (stateReqEntry 3) = need s.cfgValid .integrity := by
  rw [s.checkWrite_stateReqEntry n 3 (.inr rfl)]
  have hnot : (s.mode == .active) = false := by rw [hmode]; rfl
  simp [State.check00, hnot]

/-- What a write of MODULE_STATE_REQ does. -/
theorem State.applyObject_stateReqEntry (s : State) (n : Nat) (req : BitVec 32) (v : Byte) :
    (s.placed n req (stateReqEntry v)).applyObject (hostRights n) (stateReqEntry v) = (s.landed n req (stateReqEntry v)).stateReq v.toNat := by
  rw [s.applyObject_placed n req (stateReqEntry v) (hostRights n) stateReqRow [] .u8 lookup_stateReq rfl rfl rfl]
  show (s.landed n req (stateReqEntry v)).stateReq (maskBits stateReqRow.base (stateReqRow.ty.dec (stateReqRow.taken [v]))).toNat = _
  rw [stateReqRow_value]
  rfl

theorem stateReqEntry_oid_lt (v : Byte) : (stateReqEntry v).oid < 0xF0000000 := show 0x00000110 < 0xF0000000 by decide

/-- The write enables no door channel. -/
theorem stateReqEntry_no_door (v : Byte) (o : ObjRow) (ix : List Nat) (h : lookup (stateReqEntry v).oid = some (o, ix))
    (hbase : o.base = 0x20000100) : leNat (stateReqEntry v).data ≠ 1 := by
  obtain rfl : stateReqRow = o := congrArg Prod.fst (Option.some.inj (lookup_stateReq.symm.trans h))
  exact absurd hbase (by decide)

/-- The commit status of MODULE_STATE_REQ is OK unless it asks an ACTIVE module for SERVICE while a car is not at rest. -/
theorem State.commitStatus_stateReqEntry (s : State) (n : Nat) (req : BitVec 32) (v : Byte)
    (h : v = 1 → s.mode = .active → s.carsAtRest = true) :
    (s.placed n req (stateReqEntry v)).commitStatus (s.writeReq n req (stateReqEntry v)) = .ok := by
  have hcars : (s.placed n req (stateReqEntry v)).carsAtRest = s.carsAtRest :=
    State.carsAtRest_congr fun m => s.nat_placed n req _ (Oid.CAR_STATE m)
  have hfree : v.toNat = 1 → s.mode = .active → (s.placed n req (stateReqEntry v)).carsAtRest = true :=
    fun hv hm => hcars.trans (h (BitVec.eq_of_toNat_eq hv) hm)
  have htx : isTxbCtrl 0x00000110 = false := isTxbCtrl_stateReq
  simp only [stateReqEntry] at hfree
  simpa [State.commitStatus, cancelLate, stateReqEntry, htx] using hfree

/-- A request of MODULE_STATE_REQ that passes its check, and that no car holds up at its commit point, is answered OK and takes effect. -/
theorem State.hostRow_stateReqEntry (s : State) (n : Nat) (req : BitVec 32) (v : Byte) (h : s.Ready n)
    (hc : (s.seen n).checkWrite (hostRights n) (stateReqEntry v) = none) (hrest : v = 1 → s.mode = .active → s.carsAtRest = true) :
    (s.hostRow n req (stateReqEntry v)).Answers n req 0
      ∧ (s.hostRow n req (stateReqEntry v)).Like ((s.landed n req (stateReqEntry v)).stateReq v.toNat) := by
  have hquiet : s.emits = [] := by
    obtain ⟨-, -, -, -, -, -, hemits, -⟩ := h
    exact hemits
  obtain ⟨hacc, hemits⟩ := (s.landed n req (stateReqEntry v)).stateReq_frame v.toNat
  have heffect := s.applyObject_stateReqEntry n req v
  rw [← heffect]
  refine s.hostRow_done_of_commitStatus n req (stateReqEntry v) h (stateReqEntry_oid_lt v) (show 0x00000110 ≠ 0x120 by decide) hc isLoopCmd_stateReq
    isTxbCtrl_stateReq (stateReqEntry_no_door v) (s.commitStatus_stateReqEntry n req v hrest) ?_ ?_
  · rw [heffect, hacc]
    simp [State.landed]
  · rw [heffect, hemits, State.landed_emits, hquiet]

/-- A request of MODULE_STATE_REQ that its check refuses: answered with the refusal, and nothing else happens. -/
theorem State.hostRow_stateReqEntry_refused (s : State) (n : Nat) (req : BitVec 32) (v : Byte) (st : Status) (h : s.Ready n)
    (hc : (s.seen n).checkWrite (hostRights n) (stateReqEntry v) = refuse st) :
    s.hostRow n req (stateReqEntry v) = (s.seen n).emit (.resp n 0x11 req st.code []) :=
  s.hostRow_refused n req (stateReqEntry v) _ h (stateReqEntry_oid_lt v) hc rfl (stateReqEntry_no_door v)

theorem State.answers_emit (s : State) (n : Nat) (req : BitVec 32) (st : Nat) : (s.emit (.resp n 0x11 req st [])).Answers n req st := by
  simp [State.Answers, State.emit]

theorem exec_moduleStateReqService (ses : Fin 64) (req : BitVec 32) (s : State) :
    exec (.moduleStateReqService ses req) s = .next (s.hostRow ses.val req (stateReqEntry 1)) := rfl

theorem exec_moduleStateReqActive (ses : Fin 64) (req : BitVec 32) (s : State) :
    exec (.moduleStateReqActive ses req) s = .next (s.hostRow ses.val req (stateReqEntry 3)) := rfl

/-! ### The four requests -/

section

variable {s : State} {n : Nat} (req : BitVec 32)

/-- An ACTIVE module whose cars are at rest parks the idle ones and enters SERVICE (R6). -/
theorem State.hostRow_service_accepted (h : s.Ready n) (hroom : s.Room) (hmode : s.mode = .active) (hrest : s.carsAtRest = true) :
    (s.hostRow n req (stateReqEntry 1)).Answers n req 0 ∧ (s.hostRow n req (stateReqEntry 1)).mode = .service
      ∧ (∀ m, m < 12 → (s.hostRow n req (stateReqEntry 1)).carState m = if s.carState m = 2 then 1 else s.carState m)
      ∧ (s.hostRow n req (stateReqEntry 1)).Recorded 0x010A 0xFFFF Mode.active.code Mode.service.code 1 := by
  have hcheck : (s.seen n).checkWrite (hostRights n) (stateReqEntry 1) = none := by
    rw [(s.seen n).checkWrite_service n (.inl hmode), State.carsAtRest_congr (s.carState_seen n), hrest]
    rfl
  obtain ⟨hans, hlike⟩ := s.hostRow_stateReqEntry n req 1 h hcheck (fun _ _ => hrest)
  rw [show (1 : Byte).toNat = 1 from rfl] at hlike
  have hcar := fun m => hlike.nat (Oid.CAR_STATE m)
  obtain ⟨-, -, heffmode, -, hrcd, -⟩ := hlike
  have hlmode : (s.landed n req (stateReqEntry 1)).mode = .active := (s.landed_mode ..).trans hmode
  have hlrest : (s.landed n req (stateReqEntry 1)).carsAtRest = true := (State.carsAtRest_congr (s.carState_landed n req _)).trans hrest
  have hlroom : (s.landed n req (stateReqEntry 1)).Room := by simpa [State.Room] using hroom
  refine ⟨hans, ?_, fun m hm => ?_, (State.stateReq_service_recorded hlmode hlrest hlroom).congr hrcd⟩
  · rw [heffmode, State.stateReq_service hlmode hlrest, State.enter_mode]
  · rw [← s.carState_landed n req (stateReqEntry 1) m]
    exact (hcar m).trans (State.stateReq_service_carState hlmode hlrest m hm)

/-- A module with a car in another state refuses SERVICE with BUSY (R6). -/
theorem State.hostRow_service_busy (h : s.Ready n) (hmode : s.mode = .active ∨ s.mode = .service) (hcars : s.carsAtRest = false) :
    s.hostRow n req (stateReqEntry 1) = (s.seen n).emit (.resp n 0x11 req Status.busy.code []) := by
  refine s.hostRow_stateReqEntry_refused n req 1 .busy h ?_
  rw [(s.seen n).checkWrite_service n hmode, State.carsAtRest_congr (s.carState_seen n), hcars]
  rfl

/-- A module in SERVICE with a valid configuration set enters ACTIVE, and no car changes its state (R37). -/
theorem State.hostRow_active_accepted (h : s.Ready n) (hroom : s.Room) (hmode : s.mode = .service) (hcfg : s.cfgValid = true) :
    (s.hostRow n req (stateReqEntry 3)).Answers n req 0 ∧ (s.hostRow n req (stateReqEntry 3)).mode = .active
      ∧ (∀ m, (s.hostRow n req (stateReqEntry 3)).carState m = s.carState m)
      ∧ (s.hostRow n req (stateReqEntry 3)).Recorded 0x010A 0xFFFF Mode.service.code Mode.active.code 1 := by
  have hcheck : (s.seen n).checkWrite (hostRights n) (stateReqEntry 3) = none := by
    rw [(s.seen n).checkWrite_active n hmode, State.seen_cfgValid, hcfg]
    rfl
  obtain ⟨hans, hlike⟩ := s.hostRow_stateReqEntry n req 3 h hcheck (fun h3 => absurd h3 (by decide))
  rw [show (3 : Byte).toNat = 3 from rfl] at hlike
  have hcar := fun m => hlike.nat (Oid.CAR_STATE m)
  obtain ⟨-, -, heffmode, -, hrcd, -⟩ := hlike
  have hlmode : (s.landed n req (stateReqEntry 3)).mode = .service := (s.landed_mode ..).trans hmode
  have hlroom : (s.landed n req (stateReqEntry 3)).Room := by simpa [State.Room] using hroom
  refine ⟨hans, ?_, fun m => ?_, (State.stateReq_active_recorded hlmode hlroom).congr hrcd⟩
  · rw [heffmode, State.stateReq_active hlmode, State.enter_mode]
  · rw [← s.carState_landed n req (stateReqEntry 3) m]
    exact (hcar m).trans (State.stateReq_active_carState hlmode m)

/-- A module in SERVICE without a valid configuration set answers INTEGRITY (R37). -/
theorem State.hostRow_active_integrity (h : s.Ready n) (hmode : s.mode = .service) (hcfg : s.cfgValid = false) :
    s.hostRow n req (stateReqEntry 3) = (s.seen n).emit (.resp n 0x11 req Status.integrity.code []) := by
  refine s.hostRow_stateReqEntry_refused n req 3 .integrity h ?_
  rw [(s.seen n).checkWrite_active n hmode, State.seen_cfgValid, hcfg]
  rfl

end

/-- A module that serves and is no standby drives outputs. -/
theorem State.Ready.active_or_service {s : State} {n : Nat} (h : s.Ready n) : s.mode = .active ∨ s.mode = .service := by
  obtain ⟨hserving, hstandby, -⟩ := h
  simp only [State.serving, Bool.and_eq_true, Bool.or_eq_true, beq_iff_eq] at hserving
  obtain ⟨-, (hservice | hstb) | hactive⟩ := hserving
  · exact .inr hservice
  · exact absurd hstb hstandby
  · exact .inl hactive

/-- Settles O7: the two values of MODULE_STATE_REQ, each accepted with its effect or refused by its one check. -/
theorem moduleStateRequests : Obligations.ModuleStateRequests := by
  unfold Obligations.ModuleStateRequests
  intro s ses req hready hroom
  rw [exec_moduleStateReqService, exec_moduleStateReqActive]
  refine ⟨fun hmode hcars => ?_, fun m hm h2 h11 => ?_, fun hmode hcfg => ?_, fun hmode hcfg => ?_⟩
  · obtain ⟨hans, hservice, hpark, hrec⟩ := State.hostRow_service_accepted req hready hroom hmode (s.carsAtRest_iff.2 hcars)
    exact ⟨_, rfl, hans, hservice, hpark, hrec⟩
  · rw [State.hostRow_service_busy req hready hready.active_or_service (State.carsAtRest_eq_false hm h2 h11)]
    exact ⟨_, rfl, State.answers_emit .., rfl, rfl, rfl, rfl⟩
  · obtain ⟨hans, hactive, hcars, hrec⟩ := State.hostRow_active_accepted req hready hroom hmode hcfg
    exact ⟨_, rfl, hans, hactive, hrec, fun m _ => hcars m⟩
  · rw [State.hostRow_active_integrity req hready hmode hcfg]
    exact ⟨_, rfl, State.answers_emit .., hmode, rfl, rfl⟩

end Sys2Proof.Machine
end

section
/-! The sample instant of a field group (R597, R599). One sample of a channel touches that channel alone, so each channel of a group is sampled
on the state that the instant found. -/

namespace Sys2Proof.Machine

/-! ### The parts of one sample -/

/-- The state with a channel's run of agreeing samples changed (R599). -/
def State.setRun (s : State) (x n : Nat) : State := { s with fio := { s.fio with run := s.fio.run.put 0 x n } }

/-- The state with one more sample seen by a channel's filter (R599, R611). -/
def State.seeSample (s : State) (x : Nat) : State :=
  { s with fio := { s.fio with since := s.fio.since.put 0 x (min (Tbl.get 0 s.fio.since x + 1) 16) } }

/-- The first part of a sample: the mode written before takes effect and the contact is reported (R596, R597). -/
def State.sense (s : State) (x : Nat) (level : Bool) : State := (s.takeMode x).setFlag (Oid.FIO_LEVEL x) level

/-- FIO_IN takes a level that enough samples have agreed on, and the change is counted (R599). -/
def State.acceptInput (s : State) (x : Nat) (level : Bool) : State :=
  ((s.setRun x 0).setFlag (Oid.FIO_IN x) level).count (Oid.FIO_CHANGES x) 32

/-- The second part of a sample, of a valid input: the filter (R599). -/
def State.filterInput (s : State) (x : Nat) (level : Bool) : State :=
  if s.flag (Oid.FIO_IN x) = level then (s.seeSample x).setRun x 0
  else if s.nat (Oid.FIO_FILTER x) ≤ Tbl.get 0 s.fio.run x + 1 then (s.seeSample x).acceptInput x level
  else (s.seeSample x).setRun x (Tbl.get 0 s.fio.run x + 1)

theorem State.sampleChannel_eq (s : State) (x : Nat) (level : Bool) :
    s.sampleChannel x level
      = if (s.sense x level).fioValid x then (s.sense x level).filterInput x level else s.sense x level := rfl

@[simp] theorem State.nat_setRun (s : State) (x n : Nat) (k : Key) : (s.setRun x n).nat k = s.nat k := rfl
@[simp] theorem State.flag_setRun (s : State) (x n : Nat) (k : Key) : (s.setRun x n).flag k = s.flag k := rfl
@[simp] theorem State.fioMode_setRun (s : State) (x n y : Nat) : (s.setRun x n).fioMode y = s.fioMode y := rfl

@[simp] theorem State.nat_seeSample (s : State) (x : Nat) (k : Key) : (s.seeSample x).nat k = s.nat k := rfl
@[simp] theorem State.flag_seeSample (s : State) (x : Nat) (k : Key) : (s.seeSample x).flag k = s.flag k := rfl
@[simp] theorem State.fioMode_seeSample (s : State) (x y : Nat) : (s.seeSample x).fioMode y = s.fioMode y := rfl

@[simp] theorem State.run_setRun_same (s : State) (x n : Nat) : Tbl.get 0 (s.setRun x n).fio.run x = n := Tbl.get_put_same ..

/-- A mode that stands is not taken again. -/
theorem State.takeMode_of_stands {s : State} {x : Nat} (h : s.fioMode x = s.nat (Oid.FIO_MODE x)) : s.takeMode x = s :=
  if_pos h.symm

/-- The mode in effect after a sample instant is the one that FIO_MODE asks for (R596). -/
theorem State.fioMode_takeMode (s : State) (x : Nat) : (s.takeMode x).fioMode x = s.nat (Oid.FIO_MODE x) := by
  unfold State.takeMode
  by_cases h : s.nat (Oid.FIO_MODE x) = s.fioMode x
  · rw [if_pos h, h]
  · rw [if_neg h]
    simp [State.fioMode]

/-! ### What a sample of a channel leaves unchanged -/

/-- The registers that a sample of a channel may change: what it reports (R597, R599), and the count of dropped records (R645). -/
def sampledOids (x : Nat) : List Nat :=
  [Oid.REC_DROPPED.oid, (Oid.FIO_LEVEL x).oid, (Oid.FIO_IN x).oid, (Oid.FIO_CHANGES x).oid]

/-- From `s` to `t`, channel `x` alone was sampled: its contact, its input, its change count, its filter and its mode in effect, and a record may
have been dropped. -/
structure State.OnlyChannel (s t : State) (x : Nat) : Prop where
  mode : t.mode = s.mode
  get : ∀ k : Key, k.oid ∉ sampledOids x → t.get k = s.get k
  fioMode : ∀ y, x ≠ y → t.fioMode y = s.fioMode y
  run : ∀ y, x ≠ y → Tbl.get 0 t.fio.run y = Tbl.get 0 s.fio.run y

theorem State.OnlyChannel.refl (s : State) (x : Nat) : s.OnlyChannel s x :=
  ⟨rfl, fun _ _ => rfl, fun _ _ => rfl, fun _ _ => rfl⟩

theorem State.OnlyChannel.trans {s t u : State} {x : Nat} (h : s.OnlyChannel t x) (h' : t.OnlyChannel u x) : s.OnlyChannel u x where
  mode := h'.mode.trans h.mode
  get k hk := (h'.get k hk).trans (h.get k hk)
  fioMode y hy := (h'.fioMode y hy).trans (h.fioMode y hy)
  run y hy := (h'.run y hy).trans (h.run y hy)

theorem State.onlyChannel_setRun (s : State) (x n : Nat) : s.OnlyChannel (s.setRun x n) x :=
  ⟨rfl, fun _ _ => rfl, fun _ _ => rfl, fun _ hy => Tbl.get_put_other _ _ _ _ _ _ hy⟩

theorem State.onlyChannel_seeSample (s : State) (x : Nat) : s.OnlyChannel (s.seeSample x) x :=
  ⟨rfl, fun _ _ => rfl, fun _ _ => rfl, fun _ _ => rfl⟩

theorem State.onlyChannel_setLevel (s : State) (x : Nat) (b : Bool) : s.OnlyChannel (s.setFlag (Oid.FIO_LEVEL x) b) x :=
  ⟨rfl, fun k hk => s.get_setFlag_other _ k b (ne_of_mem_of_not_mem (by simp [sampledOids]) hk), fun _ _ => rfl, fun _ _ => rfl⟩

theorem State.onlyChannel_setIn (s : State) (x : Nat) (b : Bool) : s.OnlyChannel (s.setFlag (Oid.FIO_IN x) b) x :=
  ⟨rfl, fun k hk => s.get_setFlag_other _ k b (ne_of_mem_of_not_mem (by simp [sampledOids]) hk), fun _ _ => rfl, fun _ _ => rfl⟩

theorem State.onlyChannel_countChange (s : State) (x : Nat) : s.OnlyChannel (s.count (Oid.FIO_CHANGES x) 32) x :=
  ⟨rfl, fun k hk => s.get_count_other _ k 32 1 (ne_of_mem_of_not_mem (by simp [sampledOids]) hk), fun _ _ => rfl, fun _ _ => rfl⟩

theorem State.onlyChannel_takeMode (s : State) (x : Nat) : s.OnlyChannel (s.takeMode x) x := by
  unfold State.takeMode
  by_cases h : s.nat (Oid.FIO_MODE x) = s.fioMode x
  · rw [if_pos h]
    exact .refl s x
  · rw [if_neg h]
    refine ⟨by simp, fun k hk => State.get_eventOf _ _ _ _ _ _ k (ne_of_mem_of_not_mem (by simp [sampledOids]) hk), fun y hy => ?_, fun y hy => ?_⟩
    · simp [State.fioMode, Tbl.get_put_other _ _ _ _ _ _ hy]
    · simp [Tbl.get_put_other _ _ _ _ _ _ hy]

theorem State.onlyChannel_sense (s : State) (x : Nat) (level : Bool) : s.OnlyChannel (s.sense x level) x :=
  (s.onlyChannel_takeMode x).trans ((s.takeMode x).onlyChannel_setLevel x level)

theorem State.onlyChannel_acceptInput (s : State) (x : Nat) (level : Bool) : s.OnlyChannel (s.acceptInput x level) x :=
  ((s.onlyChannel_setRun x 0).trans (State.onlyChannel_setIn _ x level)).trans (State.onlyChannel_countChange _ x)

theorem State.onlyChannel_filterInput (s : State) (x : Nat) (level : Bool) : s.OnlyChannel (s.filterInput x level) x := by
  have hsee := s.onlyChannel_seeSample x
  unfold State.filterInput
  split
  · exact hsee.trans (State.onlyChannel_setRun _ x 0)
  · split
    · exact hsee.trans (State.onlyChannel_acceptInput _ x level)
    · exact hsee.trans (State.onlyChannel_setRun _ x _)

theorem State.onlyChannel_sampleChannel (s : State) (x : Nat) (level : Bool) : s.OnlyChannel (s.sampleChannel x level) x := by
  rw [State.sampleChannel_eq]
  split
  · exact (s.onlyChannel_sense x level).trans (State.onlyChannel_filterInput _ x level)
  · exact s.onlyChannel_sense x level

/-! ### Two states that agree on a channel -/

/-- Whether an input is valid depends on its mode, on PD-BUS and on its group alone (R602). -/
theorem State.fioValid_congr {s t : State} {x : Nat} (hfio : t.fioMode x = s.fioMode x) (hmode : t.mode = s.mode)
    (hpd : t.get Oid.PD_STATE = s.get Oid.PD_STATE) (hck : t.get Oid.CK_GOOD = s.get Oid.CK_GOOD)
    (hfg : t.get (Oid.FG_STATUS (x / 8)) = s.get (Oid.FG_STATUS (x / 8))) : t.fioValid x = s.fioValid x := by
  simp only [State.fioValid, State.up, State.pd, State.ck, State.bit, State.nat, hfio, hmode, hpd, hck, hfg]

/-- Two states agree on what a sample of channel `x` reads and reports. -/
structure State.SameChannel (s t : State) (x : Nat) : Prop where
  fioMode : t.fioMode x = s.fioMode x
  valid : t.fioValid x = s.fioValid x
  run : Tbl.get 0 t.fio.run x = Tbl.get 0 s.fio.run x
  setting : t.nat (Oid.FIO_MODE x) = s.nat (Oid.FIO_MODE x)
  filter : t.nat (Oid.FIO_FILTER x) = s.nat (Oid.FIO_FILTER x)
  level : t.flag (Oid.FIO_LEVEL x) = s.flag (Oid.FIO_LEVEL x)
  input : t.flag (Oid.FIO_IN x) = s.flag (Oid.FIO_IN x)
  changes : t.nat (Oid.FIO_CHANGES x) = s.nat (Oid.FIO_CHANGES x)

theorem State.SameChannel.refl (s : State) (x : Nat) : s.SameChannel s x := ⟨rfl, rfl, rfl, rfl, rfl, rfl, rfl, rfl⟩

theorem State.SameChannel.trans {s t u : State} {x : Nat} (h : s.SameChannel t x) (h' : t.SameChannel u x) : s.SameChannel u x where
  fioMode := h'.fioMode.trans h.fioMode
  valid := h'.valid.trans h.valid
  run := h'.run.trans h.run
  setting := h'.setting.trans h.setting
  filter := h'.filter.trans h.filter
  level := h'.level.trans h.level
  input := h'.input.trans h.input
  changes := h'.changes.trans h.changes

/-- States that differ in no register, mode or field quantity agree on every channel. -/
theorem State.sameChannel_of_eq {s t : State} (hobjs : t.objs = s.objs) (hmode : t.mode = s.mode) (hfio : t.fio = s.fio) (x : Nat) :
    s.SameChannel t x := by
  have hget : ∀ k, t.get k = s.get k := fun k => by rw [State.get, State.get, hobjs]
  have hfm : t.fioMode x = s.fioMode x := by rw [State.fioMode, State.fioMode, hfio]
  exact
    { fioMode := hfm
      valid := State.fioValid_congr hfm hmode (hget _) (hget _) (hget _)
      run := by rw [hfio]
      setting := congrArg Int.toNat (hget _)
      filter := congrArg Int.toNat (hget _)
      level := congrArg (· != 0) (hget _)
      input := congrArg (· != 0) (hget _)
      changes := congrArg Int.toNat (hget _) }

/-- A sample of one channel leaves another channel as it was: the registers of different channels have different identifiers (R616). -/
theorem State.OnlyChannel.sameChannel {s t : State} {y x : Nat} (h : s.OnlyChannel t y) (hxy : y ≠ x) : s.SameChannel t x where
  fioMode := h.fioMode x hxy
  valid := State.fioValid_congr (h.fioMode x hxy) h.mode (h.get _ (by simp [sampledOids]; omega)) (h.get _ (by simp [sampledOids]; omega))
    (h.get _ (by simp [sampledOids]; omega))
  run := h.run x hxy
  setting := congrArg Int.toNat (h.get _ (by simp [sampledOids]; omega))
  filter := congrArg Int.toNat (h.get _ (by simp [sampledOids]; omega))
  level := congrArg (· != 0) (h.get _ (by simp [sampledOids]; omega))
  input := congrArg (· != 0) (h.get _ (by simp [sampledOids]; omega))
  changes := congrArg Int.toNat (h.get _ (by simp [sampledOids]; omega))

/-! ### What a sample does to its own channel -/

/-- From `s` to `t`, channel `x` was sampled at `level`: its contact is reported, its mode taken and, where the mode stands, its input filtered
(R596, R597, R599). -/
structure State.Sampled (s t : State) (x : Nat) (level : Bool) : Prop where
  contact : t.flag (Oid.FIO_LEVEL x) = level
  fioMode : t.fioMode x = s.nat (Oid.FIO_MODE x)
  invalid : s.fioMode x = s.nat (Oid.FIO_MODE x) → s.fioValid x = false →
    t.flag (Oid.FIO_IN x) = s.flag (Oid.FIO_IN x) ∧ t.nat (Oid.FIO_CHANGES x) = s.nat (Oid.FIO_CHANGES x)
  agrees : s.fioMode x = s.nat (Oid.FIO_MODE x) → s.fioValid x = true → s.flag (Oid.FIO_IN x) = level →
    t.flag (Oid.FIO_IN x) = s.flag (Oid.FIO_IN x) ∧ Tbl.get 0 t.fio.run x = 0
  changes : s.fioMode x = s.nat (Oid.FIO_MODE x) → s.fioValid x = true → s.flag (Oid.FIO_IN x) ≠ level →
    s.nat (Oid.FIO_FILTER x) ≤ Tbl.get 0 s.fio.run x + 1 →
    t.flag (Oid.FIO_IN x) = level ∧ t.nat (Oid.FIO_CHANGES x) = min (s.nat (Oid.FIO_CHANGES x) + 1) 4294967295
  waits : s.fioMode x = s.nat (Oid.FIO_MODE x) → s.fioValid x = true → s.flag (Oid.FIO_IN x) ≠ level →
    Tbl.get 0 s.fio.run x + 1 < s.nat (Oid.FIO_FILTER x) →
    t.flag (Oid.FIO_IN x) = s.flag (Oid.FIO_IN x) ∧ Tbl.get 0 t.fio.run x = Tbl.get 0 s.fio.run x + 1

theorem State.flag_setFlag_other (s : State) (k k' : Key) (b : Bool) (h : k.oid ≠ k'.oid) : (s.setFlag k b).flag k' = s.flag k' :=
  congrArg (· != 0) (s.get_setFlag_other k k' b h)

theorem State.nat_setFlag_other (s : State) (k k' : Key) (b : Bool) (h : k.oid ≠ k'.oid) : (s.setFlag k b).nat k' = s.nat k' :=
  congrArg Int.toNat (s.get_setFlag_other k k' b h)

theorem State.flag_count_other (s : State) (k k' : Key) (w n : Nat) (h : k.oid ≠ k'.oid) : (s.count k w n).flag k' = s.flag k' :=
  congrArg (· != 0) (s.get_count_other k k' w n h)

section

variable (s : State) (x : Nat) (level : Bool)

@[simp] theorem State.flag_sense_level : (s.sense x level).flag (Oid.FIO_LEVEL x) = level := State.flag_setFlag_same ..

@[simp] theorem State.fioMode_sense : (s.sense x level).fioMode x = s.nat (Oid.FIO_MODE x) := s.fioMode_takeMode x

@[simp] theorem State.flag_acceptInput_level : (s.acceptInput x level).flag (Oid.FIO_LEVEL x) = s.flag (Oid.FIO_LEVEL x) := by
  simp [State.acceptInput, State.flag_count_other, State.flag_setFlag_other]

@[simp] theorem State.fioMode_acceptInput (y : Nat) : (s.acceptInput x level).fioMode y = s.fioMode y := rfl

@[simp] theorem State.flag_acceptInput_input : (s.acceptInput x level).flag (Oid.FIO_IN x) = level := by
  simp [State.acceptInput, State.flag_count_other]

@[simp] theorem State.nat_acceptInput_changes :
    (s.acceptInput x level).nat (Oid.FIO_CHANGES x) = min (s.nat (Oid.FIO_CHANGES x) + 1) 4294967295 := by
  simp [State.acceptInput, State.nat_setFlag_other]

@[simp] theorem State.flag_filterInput_level : (s.filterInput x level).flag (Oid.FIO_LEVEL x) = s.flag (Oid.FIO_LEVEL x) := by
  unfold State.filterInput
  split
  · simp
  · split <;> simp

@[simp] theorem State.fioMode_filterInput (y : Nat) : (s.filterInput x level).fioMode y = s.fioMode y := by
  unfold State.filterInput
  split
  · simp
  · split <;> simp

theorem State.flag_sampleChannel_level : (s.sampleChannel x level).flag (Oid.FIO_LEVEL x) = level := by
  rw [State.sampleChannel_eq]
  split <;> simp

theorem State.fioMode_sampleChannel : (s.sampleChannel x level).fioMode x = s.nat (Oid.FIO_MODE x) := by
  rw [State.sampleChannel_eq]
  split <;> simp

end

section

variable {s : State} {x : Nat} {level : Bool}

theorem State.filterInput_of_agrees (h : s.flag (Oid.FIO_IN x) = level) : s.filterInput x level = (s.seeSample x).setRun x 0 := if_pos h

theorem State.filterInput_of_changes (h : s.flag (Oid.FIO_IN x) ≠ level) (hn : s.nat (Oid.FIO_FILTER x) ≤ Tbl.get 0 s.fio.run x + 1) :
    s.filterInput x level = (s.seeSample x).acceptInput x level := by
  rw [State.filterInput, if_neg h, if_pos hn]

theorem State.filterInput_of_waits (h : s.flag (Oid.FIO_IN x) ≠ level) (hn : Tbl.get 0 s.fio.run x + 1 < s.nat (Oid.FIO_FILTER x)) :
    s.filterInput x level = (s.seeSample x).setRun x (Tbl.get 0 s.fio.run x + 1) := by
  rw [State.filterInput, if_neg h, if_neg (Nat.not_le.2 hn)]

/-- Where the mode stands, the contact is all that `sense` reports: the filter finds its channel as it was. -/
theorem State.sense_of_stands (h : s.fioMode x = s.nat (Oid.FIO_MODE x)) :
    (s.sense x level).fioValid x = s.fioValid x ∧ (s.sense x level).flag (Oid.FIO_IN x) = s.flag (Oid.FIO_IN x)
      ∧ (s.sense x level).nat (Oid.FIO_CHANGES x) = s.nat (Oid.FIO_CHANGES x)
      ∧ (s.sense x level).nat (Oid.FIO_FILTER x) = s.nat (Oid.FIO_FILTER x)
      ∧ Tbl.get 0 (s.sense x level).fio.run x = Tbl.get 0 s.fio.run x := by
  rw [State.sense, State.takeMode_of_stands h]
  refine ⟨State.fioValid_congr rfl rfl ?_ ?_ ?_, s.flag_setFlag_other _ _ _ ?_, s.nat_setFlag_other _ _ _ ?_, s.nat_setFlag_other _ _ _ ?_, rfl⟩
  · exact s.get_setFlag_other _ _ _ (by simp; omega)
  · exact s.get_setFlag_other _ _ _ (by simp; omega)
  · exact s.get_setFlag_other _ _ _ (by simp; omega)
  all_goals simp

end

theorem State.sampled_sampleChannel (s : State) (x : Nat) (level : Bool) : s.Sampled (s.sampleChannel x level) x level := by
  refine ⟨s.flag_sampleChannel_level x level, s.fioMode_sampleChannel x level, fun hm hv => ?_, fun hm hv hin => ?_, fun hm hv hin hn => ?_,
    fun hm hv hin hn => ?_⟩
  all_goals
    obtain ⟨hvalid, hinput, hchanges, hfilter, hrun⟩ := State.sense_of_stands (level := level) hm
    rw [State.sampleChannel_eq, hvalid, hv]
  · exact ⟨hinput, hchanges⟩
  · rw [if_pos rfl, State.filterInput_of_agrees (hinput.trans hin)]
    simp [hinput]
  · rw [if_pos rfl, State.filterInput_of_changes (hinput ▸ hin) (by rw [hfilter, hrun]; exact hn)]
    simp [hchanges]
  · rw [if_pos rfl, State.filterInput_of_waits (hinput ▸ hin) (by rw [hfilter, hrun]; exact hn)]
    simp [hinput, hrun]

/-- What a sample does to its channel is the same between states that agree on the channel. -/
theorem State.Sampled.congr {s s' t t' : State} {x : Nat} {level : Bool} (h : s'.Sampled t x level) (hs : s.SameChannel s' x)
    (ht : t.SameChannel t' x) : s.Sampled t' x level := by
  obtain ⟨hcontact, hmode, hinvalid, hagrees, hchanges, hwaits⟩ := h
  simp only [hs.fioMode, hs.setting, hs.valid, hs.input, hs.changes, hs.filter, hs.run] at *
  constructor <;> simpa only [ht.level, ht.fioMode, ht.input, ht.changes, ht.run]

/-! ### The channels of a group, in order -/

/-- The channels of a list sampled in order, each a place of group `g`. -/
def State.sampleChannels (s : State) (g : Nat) (levels : BitVec 8) (l : List Nat) : State :=
  l.foldl (fun s k => s.sampleChannel (8 * g + k) (levels.getLsbD k)) s

/-- Channels that are sampled leave one that is not among them as it was. -/
theorem State.sameChannel_sampleChannels (s : State) (g k : Nat) (levels : BitVec 8) (l : List Nat) (hk : k ∉ l) :
    s.SameChannel (s.sampleChannels g levels l) (8 * g + k) := by
  induction l generalizing s with
  | nil => exact .refl s _
  | cons j l ih =>
    rw [List.mem_cons, not_or] at hk
    exact ((s.onlyChannel_sampleChannel (8 * g + j) _).sameChannel (by omega)).trans (ih (s.sampleChannel (8 * g + j) _) hk.2)

/-- A channel among channels that are each sampled once is sampled at its own level. -/
theorem State.sampled_sampleChannels (s : State) (g k : Nat) (levels : BitVec 8) (l : List Nat) (hl : l.Nodup) (hk : k ∈ l) :
    s.Sampled (s.sampleChannels g levels l) (8 * g + k) (levels.getLsbD k) := by
  induction l generalizing s with
  | nil => cases hk
  | cons j l ih =>
    obtain ⟨hj, hl⟩ := List.nodup_cons.1 hl
    rcases List.mem_cons.1 hk with rfl | hk
    · exact (s.sampled_sampleChannel (8 * g + k) _).congr (.refl s _) (State.sameChannel_sampleChannels _ g k levels l hj)
    · have hjk : 8 * g + j ≠ 8 * g + k := fun he => hj (Nat.add_left_cancel he ▸ hk)
      exact (ih (s.sampleChannel (8 * g + j) _) hl hk).congr ((s.onlyChannel_sampleChannel (8 * g + j) _).sameChannel hjk) (.refl _ _)

/-- A sample row of a group whose bus domain runs samples its eight channels at the next sample instant (R598). -/
theorem exec_fgSampleTick_of_up {s : State} (g : Fin 8) (levels : BitVec 8) (hup : s.up .bus = true) :
    exec (.fgSampleTick g levels) s
      = .next ((s.start.toPhase (us (s.nat (Oid.FG_SAMPLE g.val))) (us 50)).sampleChannels g.val levels (List.range 8)) :=
  congrArg Host.Outcome.next (if_pos hup)

/-- Settles O54: each channel of the group is sampled once, and the samples of the others leave it as it was. -/
theorem fieldSample : Obligations.FieldSample := by
  unfold Obligations.FieldSample
  intro s g k levels hup
  have hinstant := State.sameChannel_of_eq (s := s) (t := s.start.toPhase (us (s.nat (Oid.FG_SAMPLE g.val))) (us 50)) rfl rfl rfl
    (8 * g.val + k.val)
  obtain ⟨hcontact, hmode, hinvalid, hagrees, hchanges, hwaits⟩ :=
    (State.sampled_sampleChannels _ g.val k.val levels _ List.nodup_range (List.mem_range.2 k.isLt)).congr hinstant (.refl _ _)
  exact ⟨_, exec_fgSampleTick_of_up g levels hup, hcontact, hmode,
    fun hstands => ⟨hinvalid hstands, hagrees hstands, hchanges hstands, hwaits hstands⟩⟩

end Sys2Proof.Machine
end

section
/-! The step on an empty and on a queue with a front, that every command answers, and the state right after reset (chapters 00 and 01). -/

namespace Sys2Proof.Machine

/-- Settles O1: the queue's front is what `step` matches on. -/
theorem stepRunsFront : Obligations.StepRunsFront := fun _ _ _ => rfl

/-- A step on an empty queue is one cycle of CK-NET (R141). -/
theorem step_of_idle {s : State} (h : s.pending = []) : step s = .next (s.start.cycles 1) := by
  rw [step, h]
  rfl

/-- Settles O2: the idle cycle moves elapsed time, and the time base where PD-NET runs. -/
theorem idleStep : Obligations.IdleStep := by
  unfold Obligations.IdleStep
  intro s hidle
  refine ⟨_, step_of_idle hidle, rfl, rfl, fun hup => ?_, fun hdown => ?_⟩
  · have hstart : s.start.up .net = true := hup
    simp [State.cycles, hstart]
  · have hstart : s.start.up .net = false := hdown
    simp [State.cycles, hstart]

/-- Settles O3: the meaning of each command is a next state. -/
theorem everyCommandGoesOn : Obligations.EveryCommandGoesOn := by
  unfold Obligations.EveryCommandGoesOn
  intro c s
  cases c <;> exact ⟨_, rfl⟩

/-- Settles O4: every field at the value that R2, R4, R108 and R119 give it. -/
theorem afterReset : Obligations.AfterReset := by
  unfold Obligations.AfterReset
  decide

/-- Settles O5: after reset every table is empty. -/
theorem resetCanonical : Obligations.ResetCanonical :=
  ⟨⟨Tbl.wf_nil, Tbl.wf_nil⟩, Memory.wf_nil, Memory.wf_nil, Memory.wf_nil, Memory.wf_nil⟩

end Sys2Proof.Machine
end

section
/-! Every step keeps the canonical form of the dictionary and of the byte stores (O6). The dictionary changes by `State.set`, `State.setBlob` and by
picking entries, and the byte stores by `writeAt` and by exchanging them; each operation of the model is made of these, so one lemma per
operation says that it keeps the form, and each lemma follows its operation's own shape. -/

namespace Sys2Proof.Machine

/-- Every table of the dictionary and every byte store is in canonical form. -/
structure State.Wf (s : State) : Prop where
  canonical : s.Canonical
  memCanonical : s.MemCanonical

section

variable {s t : State}

/-- A change that leaves the dictionary and chapter 18 as they are. -/
theorem State.Wf.elsewhere {pending out clk freeCtr mode rcd frz pow rst tb launches launchSeq acc pts tw cfgValid testQueue testsOn fio saf can pos
    emits loops grps doors met dsp} (h : s.Wf) :
    State.Wf { s with pending, out, clk, freeCtr, mode, rcd, frz, pow, rst, tb, launches, launchSeq, acc, pts, tw, cfgValid, testQueue, testsOn, fio
                      saf, can, pos, emits, loops, grps, doors, met, dsp } := ⟨h.canonical, h.memCanonical⟩

/-- A change of the byte stores to others in canonical form. -/
theorem State.Wf.stores {mem : MemId} {pending out clk freeCtr mode rcd frz pow rst tb launches launchSeq acc pts tw cfgValid testQueue testsOn fio saf can pos
    emits loops grps doors met dsp} (h : s.Wf) (himage : Memory.wf mem.image = true) (hother : Memory.wf mem.other.image = true)
    (hslot : Memory.wf mem.slot = true) (hactive : Memory.wf mem.active = true) :
    State.Wf { s with mem, pending, out, clk, freeCtr, mode, rcd, frz, pow, rst, tb, launches, launchSeq, acc, pts, tw, cfgValid, testQueue, testsOn, fio
                      saf, can, pos, emits, loops, grps, doors, met, dsp } :=
  ⟨h.canonical, himage, hother, hslot, hactive⟩

/-- A change that leaves the dictionary and the byte stores of chapter 18 as they are. -/
theorem State.Wf.inMem {mem : MemId} {pending out clk freeCtr mode rcd frz pow rst tb launches launchSeq acc pts tw cfgValid testQueue testsOn fio saf can pos
    emits loops grps doors met dsp} (h : s.Wf)
    (e : (mem.image, mem.other.image, mem.slot, mem.active) = (s.mem.image, s.mem.other.image, s.mem.slot, s.mem.active) := by rfl) :
    State.Wf { s with mem, pending, out, clk, freeCtr, mode, rcd, frz, pow, rst, tb, launches, launchSeq, acc, pts, tw, cfgValid, testQueue, testsOn, fio
                      saf, can, pos, emits, loops, grps, doors, met, dsp } := by
  simp only [Prod.mk.injEq] at e
  obtain ⟨himage, hother, hslot, hactive⟩ := e
  obtain ⟨hcanonical, hwfImage, hwfOther, hwfSlot, hwfActive⟩ := h
  exact ⟨hcanonical, himage ▸ hwfImage, hother ▸ hwfOther, hslot ▸ hwfSlot, hactive ▸ hwfActive⟩

theorem State.Wf.ite {c : Prop} [Decidable c] (hs : s.Wf) (ht : t.Wf) : (if c then s else t).Wf := by
  split
  · exact hs
  · exact ht

theorem State.Wf.unless {c : Prop} [Decidable c] (hs : s.Wf) (ht : s.Wf → t.Wf) : (if c then s else t).Wf := hs.ite (ht hs)

theorem State.Wf.when {c : Prop} [Decidable c] (hs : s.Wf) (ht : s.Wf → t.Wf) : (if c then t else s).Wf := (ht hs).ite hs

theorem State.Wf.fork {c : Prop} [Decidable c] {r : State} (hr : r.Wf) (hs : r.Wf → s.Wf) (ht : r.Wf → t.Wf) : (if c then s else t).Wf :=
  (hs hr).ite (ht hr)

theorem State.Wf.foldl {α : Type} {l : List α} {f : State → α → State} (h : s.Wf) (hf : ∀ s a, s.Wf → (f s a).Wf) : (l.foldl f s).Wf := by
  induction l generalizing s with
  | nil => exact h
  | cons a l ih => exact ih (hf s a h)

theorem State.Wf.foldr {α : Type} {l : List α} {f : α → State → State} (h : s.Wf) (hf : ∀ a s, s.Wf → (f a s).Wf) : (l.foldr f s).Wf := by
  induction l with
  | nil => exact h
  | cons a l ih => exact hf a _ ih

theorem State.Wf.foldl_snd {α β : Type} {l : List α} {f : β × State → α → β × State} {x : β × State} (h : x.2.Wf)
    (hf : ∀ x a, x.2.Wf → (f x a).2.Wf) : (l.foldl f x).2.Wf := by
  induction l generalizing x with
  | nil => exact h
  | cons a l ih => exact ih (hf x a h)

theorem State.Wf.foldl_fst {α β : Type} {l : List α} {f : State × β → α → State × β} {x : State × β} (h : x.1.Wf)
    (hf : ∀ x a, x.1.Wf → (f x a).1.Wf) : (l.foldl f x).1.Wf := by
  induction l generalizing x with
  | nil => exact h
  | cons a l ih => exact ih (hf x a h)

theorem State.Wf.pickObjs {p} (h : s.Wf) : { s with objs := s.objs.filter p }.Wf :=
  have ⟨⟨hobjs, hblobs⟩, hmem⟩ := h
  ⟨⟨Tbl.wf_filter hobjs _, hblobs⟩, hmem⟩

theorem State.Wf.pickBlobs {p} (h : s.Wf) : { s with blobs := s.blobs.filter p }.Wf :=
  have ⟨⟨hobjs, hblobs⟩, hmem⟩ := h
  ⟨⟨hobjs, Tbl.wf_filter hblobs _⟩, hmem⟩

theorem State.Wf.set {k v} (h : s.Wf) : (s.set k v).Wf :=
  have ⟨⟨hobjs, hblobs⟩, hmem⟩ := h
  ⟨⟨Tbl.wf_put _ hobjs _ _, hblobs⟩, hmem⟩

theorem State.Wf.setBlob {k v} (h : s.Wf) : (s.setBlob k v).Wf :=
  have ⟨⟨hobjs, hblobs⟩, hmem⟩ := h
  ⟨⟨hobjs, Tbl.wf_put _ hblobs _ _⟩, hmem⟩



/-! ### Registers, time and records -/

theorem State.Wf.start (h : s.Wf) : s.start.Wf := h.elsewhere
theorem State.Wf.setN {k v} (h : s.Wf) : (s.setN k v).Wf := h.set
theorem State.Wf.setFlag {k b} (h : s.Wf) : (s.setFlag k b).Wf := h.set
theorem State.Wf.setBit {k i b} (h : s.Wf) : (s.setBit k i b).Wf := h.setN
theorem State.Wf.count {k w n} (h : s.Wf) : (s.count k w n).Wf := h.setN
theorem State.Wf.emit {o} (h : s.Wf) : (s.emit o).Wf := h.elsewhere
theorem State.Wf.free (h : s.Wf) : (s.free).2.Wf := h.elsewhere
theorem State.Wf.cycles {n} (h : s.Wf) : (s.cycles n).Wf := h.elsewhere
theorem State.Wf.reach {t0} (h : s.Wf) : (s.reach t0).Wf := h.cycles
theorem State.Wf.toMultiple {p} (h : s.Wf) : (s.toMultiple p).Wf := h.cycles
theorem State.Wf.toPhase {p off} (h : s.Wf) : (s.toPhase p off).Wf := h.cycles
theorem State.Wf.mirror {b} (h : s.Wf) : (s.mirror b).Wf := .ite h.elsewhere h
theorem State.Wf.mirrorRegs {kind ks bs} (h : s.Wf) : (s.mirrorRegs kind ks bs).Wf := h.mirror
theorem State.Wf.acceptAt {op code src p0 p1 p2 always} (h : s.Wf) : (s.acceptAt op code src p0 p1 p2 always).Wf := h.elsewhere
theorem State.Wf.accept {code src p0 p1 p2 always} (h : s.Wf) : (s.accept code src p0 p1 p2 always).Wf := h.acceptAt
theorem State.Wf.offer {code src p0 p1 p2} (h : s.Wf) : (s.offer code src p0 p1 p2).Wf := .ite h.elsewhere (.ite h.count.elsewhere h.accept)
theorem State.Wf.event {code p0 p1 p2} (h : s.Wf) : (s.event code p0 p1 p2).Wf := h.offer
theorem State.Wf.eventOf {code src p0 p1 p2} (h : s.Wf) : (s.eventOf code src p0 p1 p2).Wf := h.offer
theorem State.Wf.eventAon {code p0 p1 p2} (h : s.Wf) : (s.eventAon code p0 p1 p2).Wf := h.accept
theorem State.Wf.enter {m trigger} (h : s.Wf) : (s.enter m trigger).Wf := h.elsewhere.event
theorem State.Wf.flushRecords (h : s.Wf) : s.flushRecords.Wf := h.elsewhere
theorem State.Wf.losePending (h : s.Wf) : s.losePending.Wf := h.elsewhere

/-! ### The admission ledger -/

theorem State.Wf.setCan {c x} (h : s.Wf) : (s.setCan c x).Wf := h.elsewhere
theorem State.Wf.noteRefusal {r} (h : s.Wf) : (s.noteRefusal r).Wf := h.count.event
theorem State.Wf.addItem {i} (h : s.Wf) : (s.addItem i).Wf := h.elsewhere.mirror

theorem State.Wf.tryAdmit {l} (h : s.Wf) : (s.tryAdmit l).2.Wf := by
  unfold State.tryAdmit
  split
  · exact h.noteRefusal
  · exact .foldl h fun _ _ h => h.addItem

theorem State.Wf.dropItems {p} (h : s.Wf) : (s.dropItems p).Wf := .foldl h.elsewhere fun _ _ h => h.mirror
theorem State.Wf.setPtAux {p a} (h : s.Wf) : (s.setPtAux p a).Wf := h.elsewhere
theorem State.Wf.markSubs {p sub} (h : s.Wf) : (s.markSubs p sub).Wf := h.elsewhere
theorem State.Wf.ptStatusBit {p i b} (h : s.Wf) : (s.ptStatusBit p i b).Wf := .ite h h.setBit.setPtAux.markSubs

theorem State.Wf.markDegraded {k} (h : s.Wf) : (s.markDegraded k).Wf := by
  unfold State.markDegraded
  split
  · exact h.ptStatusBit
  · exact h.ptStatusBit
  · exact h

theorem State.Wf.setItem {i} (h : s.Wf) : (s.setItem i).Wf := h.elsewhere
theorem State.Wf.degrade {a i} (h : s.Wf) : (s.degrade a i).Wf := h.setItem.markDegraded.event.mirror

theorem State.Wf.degradeOn {a n} (h : s.Wf) : (State.degradeOn a n s).Wf := by
  induction n generalizing s with
  | zero => exact h
  | succ n ih =>
    unfold State.degradeOn
    split
    · exact h
    · split
      · exact h
      · exact ih h.degrade

theorem State.Wf.withoutItem {i} (h : s.Wf) : (s.withoutItem i).Wf := h.elsewhere
theorem State.Wf.swapItem {i} (h : s.Wf) : (s.swapItem i).Wf := h.setItem.event.mirror
theorem State.Wf.moveItem {a i} (h : s.Wf) : (s.moveItem a i).Wf := .ite h h.swapItem
theorem State.Wf.degradePathless {a} (h : s.Wf) : (s.degradePathless a).Wf := .ite h (.foldl h fun _ _ h => h.degrade)
theorem State.Wf.shrink {a} (h : s.Wf) : (s.shrink a).Wf := .degradeOn (.degradePathless (.foldl h fun _ _ h => h.moveItem))
theorem State.Wf.undegrade {a i} (h : s.Wf) : (s.undegrade a i).Wf := h.setItem.markDegraded.event.mirror
theorem State.Wf.restoreItem {a i} (h : s.Wf) : (s.restoreItem a i).Wf := .ite h (.ite h.undegrade (.ite h.swapItem.undegrade h))
theorem State.Wf.moveBack {a i} (h : s.Wf) : (s.moveBack a i).Wf := .ite h.swapItem h
theorem State.Wf.grow {a} (h : s.Wf) : (s.grow a).Wf := .foldl (.foldl h fun _ _ h => h.moveBack) fun _ _ h => h.restoreItem
theorem State.Wf.setHealthy {a b} (h : s.Wf) : (s.setHealthy a b).Wf := h.elsewhere
theorem State.Wf.acctDown {a} (h : s.Wf) : (s.acctDown a).Wf := h.setHealthy.shrink
theorem State.Wf.acctUp {a} (h : s.Wf) : (s.acctUp a).Wf := h.setHealthy.grow

theorem State.Wf.readmit {i} (h : s.Wf) : (s.readmit i).Wf := by
  unfold State.readmit
  split
  · exact h.addItem
  · exact .ite h.addItem.swapItem h.addItem.markDegraded.event

theorem State.Wf.endTest {n} (h : s.Wf) : (s.endTest n).Wf := h.elsewhere.dropItems

/-! ### The point service -/

theorem State.Wf.setInvalid {p sub} (h : s.Wf) : (s.setInvalid p sub).Wf := .ite h.setPtAux.ptStatusBit h.setPtAux.ptStatusBit.event
theorem State.Wf.changePv {p v} (h : s.Wf) : (s.changePv p v).Wf := .ite h.ptStatusBit h.ptStatusBit.set.setN.setPtAux.markSubs
theorem State.Wf.refreshPv {p} (h : s.Wf) : (s.refreshPv p).Wf := h.setN.ptStatusBit.changePv
theorem State.Wf.markDirty {p n} (h : s.Wf) : (s.markDirty p n).Wf := h.setPtAux
theorem State.Wf.setSlot {p n v} (h : s.Wf) : (s.setSlot p n v).Wf := h.set.setBit.markDirty.refreshPv
theorem State.Wf.clearSlot {p n} (h : s.Wf) : (s.clearSlot p n).Wf := h.set.setBit.markDirty.refreshPv
theorem State.Wf.writePv {p n v} (h : s.Wf) : (s.writePv p n v).Wf := .ite h.setSlot h.changePv
theorem State.Wf.setPtFault {p sink b} (h : s.Wf) : (s.setPtFault p sink b).Wf := .ite h h.setPtAux.ptStatusBit.event

theorem State.Wf.rebuilt {p} (h : s.Wf) : (s.rebuilt p).Wf := by
  unfold State.rebuilt
  split
  · exact h
  · exact h.free.reach.inMem

theorem State.Wf.deliver {p v} (h : s.Wf) : (s.deliver p v).Wf :=
  .ite
    (.ite h.rebuilt.setPtFault.setPtAux h.rebuilt.setPtFault.setPtAux.changePv)
    (.ite h.rebuilt.setPtFault.setPtAux.setSlot h.rebuilt.setPtFault.setPtAux.changePv)

theorem State.Wf.deliverBad {p period} (h : s.Wf) : (s.deliverBad p period).Wf := .ite h.setPtAux.setPtFault h.setPtAux
theorem State.Wf.faultSources {l} (h : s.Wf) : (s.faultSources l).Wf := .foldl h fun _ _ h => h.setPtFault

theorem State.Wf.retype {p t1} (h : s.Wf) : (s.retype p t1).Wf :=
  .ite h (.setPtAux (.setN (.set (.setN (.setBit (.setN (.set (.setN (.foldl h fun _ _ h => h.set)))))))))

theorem State.Wf.storeSlot {p n} (h : s.Wf) : (s.storeSlot p n).Wf := .ite h.setPtAux h.setPtAux

theorem State.Wf.restorePoint {p} (h : s.Wf) : (s.restorePoint p).Wf :=
  .ite (.refreshPv (.setPtAux (.set (.setN (.foldl h fun _ _ h => h.set))))) (.ite h.setPtAux.setInvalid h)

/-! ### Field inputs and outputs -/

theorem State.Wf.groupFault {g} (h : s.Wf) : (s.groupFault g).Wf := .ite h h.setBit.count.eventOf
theorem State.Wf.setOut {x b} (h : s.Wf) : (s.setOut x b).Wf := .ite h h.setFlag.elsewhere
theorem State.Wf.takeMode {x} (h : s.Wf) : (s.takeMode x).Wf := .ite h h.elsewhere.eventOf

theorem State.Wf.sampleChannel {x level} (h : s.Wf) : (s.sampleChannel x level).Wf :=
  .ite
    (.ite h.takeMode.setFlag.elsewhere.elsewhere
      (.ite h.takeMode.setFlag.elsewhere.elsewhere.setFlag.count h.takeMode.setFlag.elsewhere.elsewhere)) h.takeMode.setFlag

theorem State.Wf.sampleGroup {g levels} (h : s.Wf) : (s.sampleGroup g levels).Wf := .ite (.foldl h.toPhase fun _ _ h => h.sampleChannel) h
theorem State.Wf.measureSupply {g mv} (h : s.Wf) : (s.measureSupply g mv).Wf := .ite h.setN h
theorem State.Wf.sag {g mv forUs} (h : s.Wf) : (s.sag g mv forUs).Wf := .ite h.measureSupply.setBit.groupFault.eventOf h.measureSupply

theorem State.Wf.sagEnds {g mv forUs} (h : s.Wf) : (s.sagEnds g mv forUs).Wf :=
  .ite (.eventOf (.ite h.measureSupply.setBit.setBit h.measureSupply.setBit)) h.measureSupply

theorem State.Wf.suspendInputs {g mv} (h : s.Wf) : (s.suspendInputs g mv).Wf :=
  .ite h.measureSupply.setBit.eventOf.faultSources h.measureSupply

theorem State.Wf.resumeInputs {g mv forUs} (h : s.Wf) : (s.resumeInputs g mv forUs).Wf :=
  .ite h.measureSupply.elsewhere.setBit.eventOf h.measureSupply

theorem State.Wf.thermalOff {x} (h : s.Wf) : (s.thermalOff x).Wf := .ite h.elsewhere.groupFault h
theorem State.Wf.limitFor {x forMs} (h : s.Wf) : (s.limitFor x forMs).Wf := .ite h.elsewhere (.ite h.elsewhere.groupFault h)
theorem State.Wf.readback {x contact forUs} (h : s.Wf) : (s.readback x contact forUs).Wf :=
  .ite h (.ite h.elsewhere (.ite h.elsewhere.groupFault h))
theorem State.Wf.wdRestore (h : s.Wf) : s.wdRestore.Wf := .ite h (.event (.elsewhere (.foldl h.setN fun _ _ h => h.setBit)))

theorem State.Wf.commitOutputs {fresh} (h : s.Wf) : (s.commitOutputs fresh).Wf :=
  .ite (.ite h.toMultiple.elsewhere.wdRestore.elsewhere h.toMultiple.elsewhere) h

theorem State.Wf.openLatch {b cause} (h : s.Wf) : (s.openLatch b cause).Wf := by
  unfold State.openLatch
  dsimp only
  refine .ite ?_ h
  split
  · exact .event (.ite h.setBlob h.setBlob.elsewhere)
  · exact .ite h.setBlob h.setBlob.elsewhere

theorem State.Wf.wdExpire (h : s.Wf) : s.wdExpire.Wf :=
  .ite (.foldl (.event (.foldl h.reach.elsewhere.setN.count fun _ _ h => h.setBit)) fun _ _ h => h.openLatch) h

theorem State.Wf.groupUp {g mv} (h : s.Wf) : (s.groupUp g mv).Wf := h.elsewhere.setN.setN.setBlob
theorem State.Wf.ackGroup {g} (h : s.Wf) : (s.ackGroup g).Wf := .ite (.setBit (.ite h h.setBit)) (.ite h h.setBit)

/-! ### What the twin gives the other chapters -/

theorem State.Wf.reportHealth (h : s.Wf) : s.reportHealth.Wf := h.setN.setN
theorem State.Wf.sendHealth (h : s.Wf) : s.sendHealth.Wf := .ite h.reportHealth.emit h.reportHealth
theorem State.Wf.setCarSafe {n c} (h : s.Wf) : (s.setCarSafe n c).Wf := h.elsewhere
theorem State.Wf.spoilTrips (h : s.Wf) : s.spoilTrips.Wf := h.elsewhere

theorem State.Wf.release {cause} (h : s.Wf) : (s.release cause).Wf :=
  .ite h
    (.ite
      (.when (.elsewhere (.when h.elsewhere.spoilTrips.setBlob.event fun h => h.emit)) fun h => h.enter)
      (.when h.elsewhere.spoilTrips.setBlob.event fun h => h.emit))

theorem State.Wf.releaseIfHealthy {cause} (h : s.Wf) : (s.releaseIfHealthy cause).Wf := .ite h.release h

/-! ### CAN channels -/

theorem State.Wf.canCounters {c tec rec'} (h : s.Wf) : (s.canCounters c tec rec').Wf :=
  .ite h.setN.setN (.ite h.setN.setN.setCan.event h.setN.setN.setCan)

theorem State.Wf.rxbAck {c b} (h : s.Wf) : (s.rxbAck c b).Wf := h.setBit.setBit
theorem State.Wf.deliverEntry {c e b} (h : s.Wf) : (s.deliverEntry c e b).Wf :=
  .foldl (.ite h.rxbAck h) fun _ _ h => .ite h.deliver h.deliverBad

theorem State.Wf.packField {x b} (h : s.Wf) : (s.packField x b).1.Wf := by
  unfold State.packField
  dsimp only
  split
  · split
    · exact h
    · exact h.free
  · exact h

theorem State.Wf.entryFault {c e b} (h : s.Wf) : (s.entryFault c e b).Wf :=
  .foldl (.foldl h fun _ _ h => h.setPtFault) fun _ _ h => h.setPtFault
theorem State.Wf.entryFails {c e} (h : s.Wf) : (s.entryFails c e).Wf := .ite h.count.setCan.setBit.entryFault.event h.count.setCan
theorem State.Wf.entryWorks {c e} (h : s.Wf) : (s.entryWorks c e).Wf := .ite h.setCan.setBit.entryFault h.setCan

theorem State.Wf.canTakeMode {c m} (h : s.Wf) : (s.canTakeMode c m).Wf :=
  .ite h (.ite (.shrink (.dropItems (.ite h.setCan.setN.setN h.setCan))) (.when (.ite h.setCan.setN.setN h.setCan) fun h => h.grow))

theorem State.Wf.canReset {c} (h : s.Wf) : (s.canReset c).Wf := h.setCan.setN.setN
theorem State.Wf.storeFrame {c b f} (h : s.Wf) : (s.storeFrame c b f).Wf := h.setN.setN.setN.setBlob

theorem State.Wf.collComplete {c f} (h : s.Wf) : (s.collComplete c f).Wf := by
  unfold State.collComplete
  split
  · exact h
  · exact .ite h.setBlob.setCan h

theorem State.Wf.outOfWindow {c e f} (h : s.Wf) : (s.outOfWindow c e f).Wf := h.setBit.count.event

theorem State.Wf.srdoFrame {c e d f} (h : s.Wf) : (s.srdoFrame c e d f).Wf := by
  unfold State.srdoFrame
  dsimp only
  refine .ite h.setCan ?_
  refine .ite ?_ h
  split
  · exact .ite h.setCan.event (.ite h.setCan h.setCan.event)
  · exact h.setCan.event

theorem State.Wf.standbySent {c f} (h : s.Wf) : (s.standbySent c f).Wf := by
  unfold State.standbySent
  refine .ite ?_ h
  split
  · exact h.setN
  · exact h

theorem State.Wf.bufferFrame {c f} (h : s.Wf) : (s.bufferFrame c f).Wf := by
  unfold State.bufferFrame
  split
  · exact h.storeFrame
  · exact h.count

theorem State.Wf.canStore {c f} (h : s.Wf) : (s.canStore c f).Wf := by
  unfold State.canStore
  dsimp only
  split
  · exact .ite
      (.when h.collComplete.standbySent.bufferFrame.srdoFrame.setCan.entryWorks fun h => h.deliverEntry)
      h.collComplete.standbySent.bufferFrame.setCan
  · exact .bufferFrame (.when (.foldl h.collComplete.standbySent fun _ _ h => h.outOfWindow) fun h => h.event)

theorem State.Wf.nextCandidate {c} (h : s.Wf) : (s.nextCandidate c).Wf := h.setCan

theorem State.Wf.detectFrame {c f} (h : s.Wf) : (s.detectFrame c f).Wf :=
  .ite (.ite (.ite h.setN.setN.nextCandidate h.setBit) h) (.ite h (.ite h.nextCandidate (.ite h.setCan.setN.setN.event h.setCan)))

theorem State.Wf.recGood {c} (h : s.Wf) : (s.recGood c).Wf := .ite h (.ite h.canCounters h.free.canCounters)

theorem State.Wf.canReceive {c f} (h : s.Wf) : (s.canReceive c f).Wf :=
  .ite h (.ite h.detectFrame (.ite h (.ite (.ite h h.canCounters) (.canStore (.ite h h.recGood)))))

theorem State.Wf.windowEnd {c e} (h : s.Wf) : (s.windowEnd c e).Wf := .ite h (.ite h.setCan (.ite h.entryFails.setCan.event h.entryFails))
theorem State.Wf.sendBuffer {c t1} (h : s.Wf) : (s.sendBuffer c t1).Wf := h.emit
theorem State.Wf.txDone {c t1 st start} (h : s.Wf) : (s.txDone c t1 st start).Wf := h.canCounters.sendBuffer.setN.setN
theorem State.Wf.goBusOff {c} (h : s.Wf) : (s.goBusOff c).Wf := .ite h h.event.setCan.shrink
theorem State.Wf.txError {c} (h : s.Wf) : (s.txError c).Wf := .ite h.canCounters.goBusOff h.canCounters

theorem State.Wf.entryTxEnd {c e r start} (h : s.Wf) : (s.entryTxEnd c e r start).Wf := by
  unfold State.entryTxEnd
  refine .ite h ?_
  split
  · exact h.txDone.entryWorks
  · exact h.txError.setN.entryFails
  · exact h.setN.entryFails
  · exact h.setN.entryFails
  · exact h.txError.setN.setBit.count.count.setBlob.setBlob.setCan.event.entryFails

theorem State.Wf.bufferTxEnd {c t1 r start} (h : s.Wf) : (s.bufferTxEnd c t1 r start).Wf := by
  unfold State.bufferTxEnd
  refine .ite h ?_
  split
  · exact h.txDone.setCan.mirrorRegs
  · exact h.txError
  · exact h.txError
  · exact h
  · exact h

theorem State.Wf.refTxEnd {c r} (h : s.Wf) : (s.refTxEnd c r).Wf := by
  unfold State.refTxEnd
  refine .ite h ?_
  split
  · exact h.canCounters
  · exact h.canCounters.event.emit
  · exact h.event
  · exact h.txError.event

theorem State.Wf.copyEntry {c e} (h : s.Wf) : (s.copyEntry c e).Wf :=
  .ite h
    (.ite h.setN.setN.setCan.setBlob
      (.ite h.setN.setN.setBlob (.ite h.setN.setN (.setBlob (.foldl_fst h.setN.setN fun _ _ h => h.packField)))))

theorem State.Wf.setFilter {c d} (h : s.Wf) : (s.setFilter c d).Wf := .ite h.setN h
theorem State.Wf.takeDescs {c} (h : s.Wf) : (s.takeDescs c).Wf :=
  .foldl h.setCan fun _ _ h => .ite h.setCan.setFilter.dropItems h.setCan.setFilter

theorem State.Wf.cycleStart {c} (h : s.Wf) : (s.cycleStart c).Wf :=
  .ite h (.ite h.canTakeMode (.when (.ite h.canTakeMode.setCan.setN.takeDescs h.canTakeMode.setCan.setN) fun h => h.emit))

theorem State.Wf.goBusOn {c idles} (h : s.Wf) : (s.goBusOn c idles).Wf := .ite h h.setCan.canCounters.event.grow

theorem State.Wf.canModeApply {c v} (h : s.Wf) : (s.canModeApply c v).Wf :=
  .unless (.when (.ite (.foldl h.setN fun _ _ h => h.addItem) h.setN) fun h => h.dropItems) fun h => h.canTakeMode

theorem State.Wf.entDescApply {c e b} (h : s.Wf) : (s.entDescApply c e b).Wf := .ite h.setBlob.setCan h.setBlob.setCan.dropItems.addItem
theorem State.Wf.txbRequest {c t1} (h : s.Wf) : (s.txbRequest c t1).Wf := h.setN.setCan.mirrorRegs

theorem State.Wf.txbCancel {c t1 ph} (h : s.Wf) : (s.txbCancel c t1 ph).Wf := by
  unfold State.txbCancel
  split
  · exact h.setN.mirrorRegs
  · exact h.setN.mirrorRegs
  · exact h.setCan
  · exact h.setCan

theorem State.Wf.busOffReq {c} (h : s.Wf) : (s.busOffReq c).Wf := .ite h.setCan h

/-! ### Position units -/

theorem State.Wf.setPos {n u} (h : s.Wf) : (s.setPos n u).Wf := h.elsewhere
theorem State.Wf.refreshEnc {n} (h : s.Wf) : (s.refreshEnc n).Wf := .ite h.set h.free.set

theorem State.Wf.encFault {n bit code p0 p1} (h : s.Wf) : (s.encFault n bit code p0 p1).Wf :=
  .ite h (.ite h.setBit.setBit.eventOf.eventOf h.setBit.setBit.eventOf)

theorem State.Wf.fireCompare {n k late} (h : s.Wf) : (s.fireCompare n k late).Wf :=
  .ite
    (.unless (.when (.ite h.set.setN.setN.setN.eventOf h.set.setN.setN.setN) fun h => h.setOut) fun h => h.elsewhere)
    (.setPos (.when (.ite h.set.setN.setN.setN.eventOf h.set.setN.setN.setN) fun h => h.setOut))

theorem State.Wf.armCompare {n k} (h : s.Wf) : (s.armCompare n k).Wf :=
  .ite h.setN.fireCompare (.ite (.ite h.setN.setN h.setN.fireCompare) h.setN.setN)

theorem State.Wf.disarmCompare {n k} (h : s.Wf) : (s.disarmCompare n k).Wf := .ite h.setN.setN h.setN
theorem State.Wf.crossOne {a b n k} (h : s.Wf) : (s.crossOne a b n k).Wf := .ite h.fireCompare (.ite h.setN h)
theorem State.Wf.crossAll {n a b} (h : s.Wf) : (s.crossAll n a b).Wf := .foldl h fun _ _ h => h.crossOne
theorem State.Wf.movePos {n} (h : s.Wf) : (s.movePos n).Wf := h.refreshEnc.crossAll
theorem State.Wf.acceptEdge {n x now} (h : s.Wf) : (s.acceptEdge n x now).Wf :=
  .movePos (.ite h.setPos.set.set.setBit.setBit h.setPos.set.set.setBit)
theorem State.Wf.illegalSample {n x} (h : s.Wf) : (s.illegalSample n x).Wf := .ite h.setPos.count.encFault h.setPos.count
theorem State.Wf.rejectEdge {n} (h : s.Wf) : (s.rejectEdge n).Wf := .ite h (.ite h.setPos.count.encFault h.setPos.count)

theorem State.Wf.encSample {n x now} (h : s.Wf) : (s.encSample n x now).Wf :=
  .ite (.ite h.setPos h)
    (.ite (.setPos (.ite h.setPos h))
      (.ite (.illegalSample (.ite h.setPos h))
        (.ite (.rejectEdge (.ite h.setPos h))
          (.ite (.when (.setPos (.ite h.setPos h)) fun h => h.set.movePos) (.acceptEdge (.ite h.setPos h))))))

theorem State.Wf.lineFault {n line forNs} (h : s.Wf) : (s.lineFault n line forNs).Wf := by
  unfold State.lineFault
  refine .ite h ?_
  split
  · exact .ite h.eventOf h
  · exact .ite (.ite h.setPos.eventOf h.setPos.encFault) (.ite h.setPos h)

theorem State.Wf.zeroTimeout {n now} (h : s.Wf) : (s.zeroTimeout n now).Wf := .ite h.setPos.set.setBit h
theorem State.Wf.absDiscard {n cause} (h : s.Wf) : (s.absDiscard n cause).Wf := .ite h.setPos.setBit.setBit.eventOf h.setPos
theorem State.Wf.reference {n was target cause} (h : s.Wf) : (s.reference n was target cause).Wf := h.set.setBit.refreshEnc.eventOf

theorem State.Wf.absAccept {n raw pos encThen t4} (h : s.Wf) : (s.absAccept n raw pos encThen t4).Wf :=
  .ite h.setPos.setN.set.setN.setBit.set (.ite h.setPos.setN.set.setN.setBit.reference h.setPos.setN.set.setN.setBit)

theorem State.Wf.absReading {n raw encThen t3} (h : s.Wf) : (s.absReading n raw encThen t3).Wf := .ite h.absDiscard h.absAccept

theorem State.Wf.ssiFrame {n r} (h : s.Wf) : (s.ssiFrame n r).Wf := by
  unfold State.ssiFrame
  refine .ite h ?_
  refine .ite h.absDiscard ?_
  split
  · exact h.absDiscard
  · exact .ite h.setN.absDiscard (.ite h.setN.absDiscard h.setN.absReading)

theorem State.Wf.absFromCan {c e f} (h : s.Wf) : (s.absFromCan c e f).Wf := .foldl h fun _ _ h => .ite h.absReading h
theorem State.Wf.absMissing {c e} (h : s.Wf) : (s.absMissing c e).Wf := .foldl h fun _ _ h => .ite h.absDiscard h

theorem State.Wf.canFrame {c f} (h : s.Wf) : (s.canFrame c f).Wf := by
  unfold State.canFrame
  split
  · exact h.canReceive.absFromCan
  · exact h.canReceive

theorem State.Wf.canWindowEnd {c e} (h : s.Wf) : (s.canWindowEnd c e).Wf := .ite h.windowEnd.absMissing h.windowEnd

theorem State.Wf.entryReload (h : s.Wf) : (s.entryReload).2.Wf := by
  unfold State.entryReload
  split
  · exact h.free
  · exact h

theorem State.Wf.matchProbe {n pos} (h : s.Wf) : (s.matchProbe n pos).Wf := by
  unfold State.matchProbe
  dsimp only
  split
  · exact h.entryReload.count
  · exact .ite h.entryReload.set.setN.set.movePos h.entryReload.setBit.eventOf

theorem State.Wf.learnEnd {n complete} (h : s.Wf) : (s.learnEnd n complete).Wf := .ite h h.setN.eventOf
theorem State.Wf.learnProbe {n pos} (h : s.Wf) : (s.learnProbe n pos).Wf := .ite h (.when (.setN (.ite h.set h.set)) fun h => h.learnEnd)

theorem State.Wf.probeEdge {n input rising now} (h : s.Wf) : (s.probeEdge n input rising now).Wf :=
  .ite h (.ite h.setPos.set.setN.learnProbe (.ite h.setPos.set.setN.matchProbe h.setPos.set.setN))

theorem State.Wf.posDisarm {n} (h : s.Wf) : (s.posDisarm n).Wf := .setN (.foldl h fun _ _ h => h.disarmCompare)
theorem State.Wf.posClear {n} (h : s.Wf) : (s.posClear n).Wf := h.setPos.set.set.setN.set.set
theorem State.Wf.posReset {n cause} (h : s.Wf) : (s.posReset n cause).Wf := .when (.ite h.posDisarm h.posDisarm.posClear) fun h => h.eventOf

theorem State.Wf.posAck {n} (h : s.Wf) : (s.posAck n).Wf :=
  .setBit (.when (.when (.when (.ite (.setBit (.ite h.setBit h)) (.ite h.setBit h)) fun h => h.setBit) fun h => h.setBit) fun h => h.setBit)

theorem State.Wf.refLanding {n l} (h : s.Wf) : (s.refLanding n l).Wf := h.reference
theorem State.Wf.learnApply {n v} (h : s.Wf) : (s.learnApply n v).Wf := .ite h.learnEnd h.setN.setN
theorem State.Wf.rearm {n k} (h : s.Wf) : (s.rearm n k).Wf := .ite h.armCompare h
theorem State.Wf.encRescaled {n} (h : s.Wf) : (s.encRescaled n).Wf := h.setBit.refreshEnc

/-! ### Answers -/

theorem State.Wf.answer {r st payload} (h : s.Wf) : (s.answer r st payload).Wf := by
  unfold State.answer
  split
  · exact h.emit
  · exact h.setN.emit
  · exact h.emit
  · exact h

theorem State.Wf.recordCommitted {fpr req st} (h : s.Wf) : (s.recordCommitted fpr req st).Wf := h.elsewhere.mirror
theorem State.Wf.setLoop {c j r} (h : s.Wf) : (s.setLoop c j r).Wf := h.elsewhere

/-! ### The control engine -/

theorem State.Wf.flagLoop {c j i b} (h : s.Wf) : (s.flagLoop c j i b).Wf := .ite h.setBit h
theorem State.Wf.setLoopMode {c j m} (h : s.Wf) : (s.setLoopMode c j m).Wf := .ite h h.setN.eventOf
theorem State.Wf.closeLoop {c j} (h : s.Wf) : (s.closeLoop c j).Wf := h.setLoop.setLoopMode
theorem State.Wf.openLoop {c j} (h : s.Wf) : (s.openLoop c j).Wf := h.set.setLoop.setLoopMode
theorem State.Wf.loopCmd {c j v} (h : s.Wf) : (s.loopCmd c j v).Wf := .ite h.closeLoop (.ite h.openLoop h.setLoopMode)

theorem State.Wf.takeCmd {c j r} (h : s.Wf) : (s.takeCmd c j r).Wf := by
  unfold State.takeCmd
  refine .answer ?_
  refine .ite ?_ ?_
  · refine .recordCommitted ?_
    split
    · exact h
    · exact h.loopCmd
  · split
    · exact h
    · exact h.loopCmd

theorem State.Wf.loopCommands {c j} (h : s.Wf) : (s.loopCommands c j).Wf :=
  .when (.foldl h.elsewhere fun _ _ h => h.takeCmd) fun h => h.closeLoop.mirrorRegs

theorem State.Wf.loopInputs {c j} (h : s.Wf) : (s.loopInputs c j).Wf := by
  unfold State.loopInputs
  dsimp only
  split
  · refine .set ?_
    split
    · exact h.flagLoop.setLoop
    · exact h.flagLoop.set.setLoop
  · split
    · exact h.flagLoop.setLoop
    · exact h.flagLoop.set.setLoop

theorem State.Wf.loopLaw {c j} (h : s.Wf) : (s.loopLaw c j).Wf :=
  .ite h (.ite h.set.flagLoop (.ite h.set.flagLoop.setLoop h.set.flagLoop.setLoop.flagLoop.flagLoop))

theorem State.Wf.loopStep {c j} (h : s.Wf) : (s.loopStep c j).Wf := .ite h h.loopCommands.loopInputs.loopLaw.set.setLoop

theorem State.Wf.resolveGroup {g} (h : s.Wf) : (s.resolveGroup g).Wf := by
  unfold State.resolveGroup
  dsimp only
  split
  · exact h
  · exact .ite (.ite h.set h.set.setN.count) (.foldl (.ite h.set h.set.setN.count) fun _ _ h => .ite h.setLoop.flagLoop h)

theorem State.Wf.runPl {c j start} (h : s.Wf) : (s.runPl c j start).Wf := .ite h.setLoop.set.flagLoop.setLoop h.setLoop.set.flagLoop
theorem State.Wf.runFe {c j} (h : s.Wf) : (s.runFe c j).Wf := h.setLoop
theorem State.Wf.setPath {c j p ov} (h : s.Wf) : (s.setPath c j p ov).Wf := h.setLoop

theorem State.Wf.supervise {c j} (h : s.Wf) : (s.supervise c j).Wf :=
  .ite h
    (.ite h.setLoop
      (.ite h.setLoop
        (.ite h.setLoop.setPath.runPl
          (.ite (.ite h.setLoop.runFe h.setLoop.setPath.runPl)
            (.ite (.ite h.setLoop.setPath.runPl h.setLoop.runPl)
              (.ite h.setLoop.setPath.runPl (.ite h.setLoop.setLoop.runFe.runPl h.setLoop.setLoop.runFe)))))))

theorem State.Wf.tripLoop {c j cause} (h : s.Wf) : (s.tripLoop c j cause).Wf := h.setLoop.setN.setN.count.count.eventOf.set.mirrorRegs
theorem State.Wf.takeTrip {c j} (h : s.Wf) : (s.takeTrip c j).Wf := .ite h h.tripLoop

theorem State.Wf.emitOut {target prio v src} (h : s.Wf) : (s.emitOut target prio v src).Wf := by
  unfold State.emitOut
  split
  · exact h.elsewhere
  · exact h.elsewhere

theorem State.Wf.loopOutput {c j} (h : s.Wf) : (s.loopOutput c j).Wf := .ite h h.setLoop.emitOut
theorem State.Wf.groupOutput {g} (h : s.Wf) : (s.groupOutput g).Wf := .ite h h.elsewhere.emitOut

theorem State.Wf.relinquish {target prio src} (h : s.Wf) : (s.relinquish target prio src).Wf := by
  unfold State.relinquish
  split
  · exact h.elsewhere
  · exact h

theorem State.Wf.outResult {src target ref} (h : s.Wf) : (s.outResult src target ref).Wf := by
  unfold State.outResult
  split
  · split
    · exact h
    · split
      · exact .ite h.elsewhere h.elsewhere.eventOf
      · exact h.elsewhere
  · split
    · exact h
    · split
      · exact .ite h.elsewhere h.elsewhere.eventOf
      · exact h.elsewhere
  · exact h

theorem State.Wf.mediumLaws (h : s.Wf) : s.mediumLaws.Wf := .foldl (.foldl h fun _ _ h => h.loopStep) fun _ _ h => h.resolveGroup
theorem State.Wf.unstall {c j} (h : s.Wf) : (s.unstall c j).Wf := .ite h.setLoop h

theorem State.Wf.mediumEnd (h : s.Wf) : s.mediumEnd.Wf :=
  .foldl
    (.foldl
      (.foldl
        (.when (.foldl (.foldl h fun _ _ h => h.supervise) fun _ _ h => h.takeTrip) fun h => .foldl h fun _ _ h => h.resolveGroup)
        fun _ _ h => h.loopOutput) fun _ _ h => h.groupOutput) fun _ _ h => h.unstall

theorem State.Wf.slowGroup {g j} (h : s.Wf) : (s.slowGroup g j).Wf :=
  .ite h (.groupOutput (.when (.foldl (.foldl h.resolveGroup fun _ _ h => h.supervise) fun _ _ h => h.takeTrip) fun h => h.resolveGroup))

theorem State.Wf.slowTick {j} (h : s.Wf) : (s.slowTick j).Wf :=
  .ite h (.fork (.ite h.loopStep.setN h.loopStep) (fun h => h.supervise.takeTrip.loopOutput) fun h => h.slowGroup)

theorem State.Wf.missDeadline {c j} (h : s.Wf) : (s.missDeadline c j).Wf :=
  .ite h
    (.ite
      (.when h.setLoop.flagLoop.count.count.eventOf fun h => h.tripLoop)
      (.fork (.when h.setLoop.flagLoop.count.count.eventOf fun h => h.tripLoop) (fun h => h.loopOutput) fun h => h.slowGroup))

theorem State.Wf.enableLoop {c j} (h : s.Wf) : (s.enableLoop c j).Wf := h.setFlag.setLoop.set.addItem
theorem State.Wf.removeGroup {g} (h : s.Wf) : (s.removeGroup g).Wf := .relinquish (.elsewhere (.setBlob (.foldl h fun _ _ h => h.setN)))

theorem State.Wf.defineGroup {g b} (h : s.Wf) : (s.defineGroup g b).Wf :=
  .mirrorRegs (.eventOf (.setN (.foldl (.elsewhere (.setBlob (.foldl h fun _ _ h => h.setN))) fun _ _ h => h.setN)))

theorem State.Wf.disableLoop {c j} (h : s.Wf) : (s.disableLoop c j).Wf :=
  .elsewhere (.setFlag (.dropItems (.ite h.relinquish (.ite h.relinquish.removeGroup h.relinquish.defineGroup))))

theorem State.Wf.loopEnableApply {c j v} (h : s.Wf) : (s.loopEnableApply c j v).Wf := .ite h (.ite h.enableLoop h.disableLoop)
theorem State.Wf.groupApply {g b} (h : s.Wf) : (s.groupApply g b).Wf := .ite (.ite h h.removeGroup) h.defineGroup

/-! ### Door link and door drive -/

theorem State.Wf.setDoor {k d} (h : s.Wf) : (s.setDoor k d).Wf := h.elsewhere
theorem State.Wf.fastCommands {j} (h : s.Wf) : (s.fastCommands j).Wf := .ite h.unstall (.loopCommands (.ite h h.setLoop))

theorem State.Wf.fastDoor {k} (h : s.Wf) : (s.fastDoor k).Wf :=
  .ite h (.unless (.setDoor (.foldl (.foldl h fun _ _ h => .ite h.fastCommands h) fun _ _ h => .ite h.set h)) fun h => h.emit.setDoor)

theorem State.Wf.fastTick (h : s.Wf) : s.fastTick.Wf := .ite (.foldl h fun _ _ h => h.fastDoor) h

theorem State.Wf.doorLoopsOpen {k} (h : s.Wf) : (s.doorLoopsOpen k).Wf :=
  .set (.foldl h fun _ _ h => .when (.ite h.set.setLoop.setLoopMode h.set) fun h => h.setLoopMode)

theorem State.Wf.doorLoopsClose {k} (h : s.Wf) : (s.doorLoopsClose k).Wf :=
  .foldl h fun _ _ h => .ite (.ite h.closeLoop h) (.setLoopMode (.ite h.closeLoop h))

theorem State.Wf.doorEnter {k st} (h : s.Wf) : (s.doorEnter k st).Wf := .ite h.setN.setDoor.doorLoopsClose h.setN.setDoor.doorLoopsOpen
theorem State.Wf.doorProfile {k target v a} (h : s.Wf) : (s.doorProfile k target v a).Wf := h.setDoor

theorem State.Wf.doorStartOpen {k again} (h : s.Wf) : (s.doorStartOpen k again).Wf := by
  unfold State.doorStartOpen
  exact h.setDoor.doorProfile.doorEnter

theorem State.Wf.doorStartClose {k nudge} (h : s.Wf) : (s.doorStartClose k nudge).Wf := h.setDoor.doorProfile.doorEnter
theorem State.Wf.doorReopen {k} (h : s.Wf) : (s.doorReopen k).Wf := h.doorProfile.doorEnter
theorem State.Wf.doorOpen {k} (h : s.Wf) : (s.doorOpen k).Wf := .ite h.setDoor (.ite h.doorStartOpen (.ite h.doorReopen h))
theorem State.Wf.doorClose {k} (h : s.Wf) : (s.doorClose k).Wf := .ite h.doorStartClose h
theorem State.Wf.doorNudge {k} (h : s.Wf) : (s.doorNudge k).Wf := .ite h.doorStartClose h
theorem State.Wf.doorStop {k} (h : s.Wf) : (s.doorStop k).Wf := .ite h.doorProfile.doorEnter h
theorem State.Wf.lockConfirmed {k} (h : s.Wf) : (s.lockConfirmed k).Wf := .ite h.setDoor.set.setBit.doorEnter h
theorem State.Wf.doorFault {k} (h : s.Wf) : (s.doorFault k).Wf := .ite h h.doorEnter

theorem State.Wf.handshake {k} (h : s.Wf) : (s.handshake k).Wf := by
  unfold State.handshake
  exact h.setDoor.setBit.setBit.doorEnter

theorem State.Wf.hsFail {k cause} (h : s.Wf) : (s.hsFail k cause).Wf := h.setBit.setDoor.eventOf

theorem State.Wf.hsPass {k} (h : s.Wf) : (s.hsPass k).Wf :=
  .fork h.setDoor.setBit.setBit.eventOf (fun h => h.setDoor.set.setBit.doorEnter) fun h => h.doorProfile.doorEnter

theorem State.Wf.hsStep {k ev} (h : s.Wf) : (s.hsStep k ev).Wf := by
  unfold State.hsStep
  refine .ite h ?_
  split
  · exact .ite (.ite h.setDoor h.hsFail) h
  · exact .ite (.ite h.hsFail (.ite h (.ite h.setBlob.hsFail h.setBlob.setDoor))) h
  · exact .ite (.ite h.setN.setDoor h.setN.hsFail) h
  · exact .ite (.ite h.setN.setDoor h.hsFail) h
  · exact .ite h.setDoor h
  · exact .ite (.ite h.hsFail (.ite h.hsFail h.hsPass)) h

theorem State.Wf.hsRetry {k} (h : s.Wf) : (s.hsRetry k).Wf := .ite h.reach.handshake h
theorem State.Wf.uplinkBad {k} (h : s.Wf) : (s.uplinkBad k).Wf :=
  .when (.ite h.setDoor.count.setBit h.setDoor.count) fun h => h.setBit.setDoor
theorem State.Wf.trainWord {k f} (h : s.Wf) : (s.trainWord k f).Wf := h.setDoor
theorem State.Wf.uplinkCurrents {k f} (h : s.Wf) : (s.uplinkCurrents k f).Wf := .setDoor (.foldl h fun _ _ h => h.set)
theorem State.Wf.uplinkCounter {k f} (h : s.Wf) : (s.uplinkCounter k f).Wf := .ite h h.setDoor.set.set

theorem State.Wf.stageFlt {k flt} (h : s.Wf) : (s.stageFlt k flt).Wf :=
  .ite h.setDoor (.ite h.setDoor.setBit.eventOf.setDoor h.setDoor.setBit.eventOf.doorFault)

theorem State.Wf.statA {k v} (h : s.Wf) : (s.statA k v).Wf :=
  .when
    (.when (.ite (.eventOf (.ite h.setBit.setBit.setBit h.setBit.setBit.setBit.setDoor.count)) h.setBit.setBit.setBit) fun h => h.eventOf)
    fun h => h.eventOf

theorem State.Wf.statB {k v} (h : s.Wf) : (s.statB k v).Wf := .ite h.setDoor.setBit.eventOf (.ite h.setDoor.setBit h.setDoor)

theorem State.Wf.uplinkSlot {k f} (h : s.Wf) : (s.uplinkSlot k f).Wf :=
  .ite (.ite h.setDoor.setN h.setDoor) (.ite (.ite h.setDoor.set h.setDoor) (.ite h.statA h.statB))

theorem State.Wf.uplinkPhase {k offBits} (h : s.Wf) : (s.uplinkPhase k offBits).Wf :=
  .ite h.setDoor (.ite h.setDoor (.ite h.setDoor.setBit.eventOf.doorFault h.setDoor))

theorem State.Wf.uplinkData {k f offBits} (h : s.Wf) : (s.uplinkData k f offBits).Wf :=
  .when h.uplinkCurrents.uplinkCounter.uplinkSlot.stageFlt fun h => h.uplinkPhase

theorem State.Wf.uplink {k line offBits} (h : s.Wf) : (s.uplink k line offBits).Wf := by
  unfold State.uplink
  refine .ite h ?_
  split
  · exact h.uplinkBad
  · exact .ite h.uplinkBad
      (.ite h.uplinkBad
        (.ite (.ite h.setDoor.setBit h.setDoor)
          (.ite
            (.uplinkCounter (.trainWord (.ite h.setDoor.setBit h.setDoor)))
            (.unless (.ite h.setDoor.setBit h.setDoor) fun h => h.uplinkData))))

theorem State.Wf.uplinkGap {k forUs} (h : s.Wf) : (s.uplinkGap k forUs).Wf :=
  .ite h (.ite (.handshake (.ite h.count.setBit h.count)) (.ite h.count.setBit h.count))

theorem State.Wf.doorPre {k} (h : s.Wf) : (s.doorPre k).Wf :=
  .ite h
    (.when
      (.when (.when (.set (.ite (.set (.ite h h.set.setDoor)) (.ite h h.set.setDoor))) fun h => h.setLoop) fun h => h.setLoop)
      fun h => h.setLoop)

theorem State.Wf.obstructed {k cause} (h : s.Wf) : (s.obstructed k cause).Wf :=
  .ite h.count.eventOf.setDoor.setDoor.doorProfile.doorEnter h.count.eventOf.setDoor.doorReopen

theorem State.Wf.obstructTest {k} (h : s.Wf) : (s.obstructTest k).Wf :=
  .ite h (.ite h.setDoor.obstructed (.ite h.setDoor.obstructed h.setDoor))
theorem State.Wf.doorPost {k} (h : s.Wf) : (s.doorPost k).Wf := .ite h (.ite h.set.setDoor.doorEnter (.ite h.set.doorStartOpen h.set))
theorem State.Wf.lineTestStart {k} (h : s.Wf) : (s.lineTestStart k).Wf := h.free.setBit.setDoor
theorem State.Wf.lineTestStop {k} (h : s.Wf) : (s.lineTestStop k).Wf :=
  .ite h.setBit.setDoor.endTest.setDoor.doorOpen h.setBit.setDoor.endTest
theorem State.Wf.lineTestCut {k} (h : s.Wf) : (s.lineTestCut k).Wf := .ite h h.free.free.free.eventOf.lineTestStop
theorem State.Wf.lineTestsStop (h : s.Wf) : s.lineTestsStop.Wf := .foldl h fun _ _ h => h.lineTestCut
theorem State.Wf.lineTestEnd {k r} (h : s.Wf) : (s.lineTestEnd k r).Wf := .ite h h.setBlob.eventOf.lineTestStop
theorem State.Wf.doorEnableNote {k} (h : s.Wf) : (s.doorEnableNote k).Wf := .ite h.setN.setN.eventOf h.setN.setN

theorem State.Wf.doorAdmit {k} (h : s.Wf) : (s.doorAdmit k).Wf :=
  .handshake (.defineGroup (.foldl h.setFlag.setBit fun _ _ h => h.setN.set.set.set.set.enableLoop.setN.enableLoop))

theorem State.Wf.doorDisable {k} (h : s.Wf) : (s.doorDisable k).Wf :=
  .setDoor (.setN (.setBit (.setFlag (.foldl h.doorEnter.removeGroup fun _ _ h => h.disableLoop.disableLoop))))

theorem State.Wf.doorEnableApply {k v} (h : s.Wf) : (s.doorEnableApply k v).Wf := .ite h (.ite h.doorAdmit h.doorDisable)

theorem State.Wf.dlAck {k} (h : s.Wf) : (s.dlAck k).Wf :=
  .when
    (.unless (.when (.ite (.setBit (.ite h.setDoor h.setBit)) (.ite h.setDoor h.setBit)) fun h => h.setBit) fun h => h.setBit)
    fun h => h.handshake

theorem State.Wf.doorReset {k} (h : s.Wf) : (s.doorReset k).Wf := h.setDoor.setN.set.set.doorEnter

/-! ### The metering front end -/

theorem State.Wf.setMetCh {c x} (h : s.Wf) : (s.setMetCh c x).Wf := h.elsewhere
theorem State.Wf.setMetV {v x} (h : s.Wf) : (s.setMetV v x).Wf := h.elsewhere
theorem State.Wf.setIsland {i x} (h : s.Wf) : (s.setIsland i x).Wf := h.elsewhere
theorem State.Wf.showVoltage {v} (h : s.Wf) : (s.showVoltage v).Wf := h.setN
theorem State.Wf.zeroVoltage {v} (h : s.Wf) : (s.zeroVoltage v).Wf := h.setN.setN.setN

theorem State.Wf.spoilTrip {c} (h : s.Wf) : (s.spoilTrip c).Wf := by
  unfold State.spoilTrip
  split
  · exact h
  · exact h.elsewhere

theorem State.Wf.showCurrent {c} (h : s.Wf) : (s.showCurrent c).Wf :=
  .unless (.setN (.ite h.eventOf h)) fun h => .foldl h.setMetCh.spoilTrip fun _ _ h => h.setN

theorem State.Wf.showPulse {x} (h : s.Wf) : (s.showPulse x).Wf := h.setBit

theorem State.Wf.showMetering (h : s.Wf) : s.showMetering.Wf :=
  .foldl
    (.foldl (.foldl (.foldl h fun _ _ h => h.zeroVoltage) fun _ _ h => h.showVoltage) fun _ _ h => h.showCurrent) fun _ _ h => h.showPulse

theorem State.Wf.chooseSegment {c ma} (h : s.Wf) : (s.chooseSegment c ma).Wf := h.set.set
theorem State.Wf.takeConfig {c} (h : s.Wf) : (s.takeConfig c).Wf := .foldl h.setMetCh fun _ _ h => h.eventOf
theorem State.Wf.takeVConfig {v} (h : s.Wf) : (s.takeVConfig v).Wf := .foldl h.setMetV fun _ _ h => h.eventOf
theorem State.Wf.ageOver (h : s.Wf) : s.ageOver.Wf := h.elsewhere
theorem State.Wf.overrange {c peak} (h : s.Wf) : (s.overrange c peak).Wf := .setBit (.setMetCh (.ite h.eventOf h))
theorem State.Wf.publish {w} (h : s.Wf) : (s.publish w).Wf := .ite h.chooseSegment h.chooseSegment.setN.setN.setN.setN.setN.setN.setN
theorem State.Wf.overrangeV {w} (h : s.Wf) : (s.overrangeV w).Wf := .ite (.setMetV (.ite h.eventOf h)) h
theorem State.Wf.publishV {w} (h : s.Wf) : (s.publishV w).Wf := h.setN.setN.setN.setBit
theorem State.Wf.pll {w} (h : s.Wf) : (s.pll w).Wf := .ite h.setN.setN.setN.elsewhere.event h.setN.setN.setN.elsewhere
theorem State.Wf.freeShadow {i} (h : s.Wf) : (s.freeShadow i).Wf := .ite h.setN.setIsland h

theorem State.Wf.meterWindow {w} (h : s.Wf) : (s.meterWindow w).Wf :=
  .ite h
    (.showMetering
      (.foldl
        (.pll
          (.foldl
            (.foldl
              (.foldl (.foldl (.ageOver (.foldl h fun _ _ h => h.overrangeV)) fun _ _ h => h.publishV) fun _ _ h => h.publish)
              fun _ _ h => h.takeVConfig) fun _ _ h => h.takeConfig)) fun _ _ h => h.freeShadow))

theorem State.Wf.sensorFault {c cause mHz} (h : s.Wf) : (s.sensorFault c cause mHz).Wf := by
  unfold State.sensorFault
  split
  · exact .showCurrent (.ite h h.setBit.eventOf)
  · exact h.setBit.showCurrent

theorem State.Wf.bsgCheck {k mHz absent stuck} (h : s.Wf) : (s.bsgCheck k mHz absent stuck).Wf :=
  .ite h (.foldl h.setN.setN fun _ _ h => h.sensorFault)

theorem State.Wf.setCalQueue {i l} (h : s.Wf) : (s.setCalQueue i l).Wf := .foldl h.setBlob fun _ _ h => h.setBit
theorem State.Wf.holdShadow {i k} (h : s.Wf) : (s.holdShadow i k).Wf := h.setN.setBit
theorem State.Wf.queueCal {i k} (h : s.Wf) : (s.queueCal i k).Wf := .ite h h.setCalQueue

theorem State.Wf.adcResult {i shadowOk e} (h : s.Wf) : (s.adcResult i shadowOk e).Wf :=
  .ite h.setMetCh.setBit (.ite h.eventOf.setMetCh.setBit.holdShadow h.eventOf.setMetCh.setBit)

theorem State.Wf.vAdcResult {i e} (h : s.Wf) : (s.vAdcResult i e).Wf := .ite h.setMetV h.setMetV.eventOf

theorem State.Wf.islandCheck {i r} (h : s.Wf) : (s.islandCheck i r).Wf :=
  .ite h (.showMetering (.setN (.unless (.foldl (.foldl h fun _ _ h => h.vAdcResult) fun _ _ h => h.adcResult) fun h => h.eventOf)))

theorem State.Wf.islandStart {i} (h : s.Wf) : (s.islandStart i).Wf := h.setN

theorem State.Wf.calStop {i result} (h : s.Wf) : (s.calStop i result).Wf := by
  unfold State.calStop
  dsimp only
  split
  · exact h.setIsland
  · exact h.setBit.setN.setIsland.endTest

theorem State.Wf.islandStop {i st} (h : s.Wf) : (s.islandStop i st).Wf := by
  unfold State.islandStop
  exact .showMetering (.setN (.setIsland (.elsewhere (.foldl (.setN (.calStop (.ite h.endTest h))) fun _ _ h => h.setBit))))

theorem State.Wf.calReq {i k} (h : s.Wf) : (s.calReq i k).Wf := h.setIsland.setCalQueue

theorem State.Wf.calAbort {i k} (h : s.Wf) : (s.calAbort i k).Wf :=
  .ite (.ite h.setCalQueue.setIsland.endTest h.setCalQueue) (.ite (.ite h.eventOf.calStop h.eventOf.calStop.setIsland) h)

theorem State.Wf.calCommit {i k m} (h : s.Wf) : (s.calCommit i k m).Wf :=
  .ite h.setBit.endTest.set.set.setN.setBit.setBit.setN.setN.setIsland.eventOf h.setBit.endTest.holdShadow.setN.setIsland.eventOf

theorem State.Wf.calBegin {i k} (h : s.Wf) : (s.calBegin i k).Wf := .setIsland (.ite h.setCalQueue.setBit h.setCalQueue.setN)

theorem State.Wf.calStep {i m} (h : s.Wf) : (s.calStep i m).Wf := by
  unfold State.calStep
  dsimp only
  refine .ite h ?_
  split
  · split
    · exact .ite h.calBegin h
    · exact h
  · exact .ite h.reach.setBit.setIsland (.ite h.reach.setIsland (.ite h.reach.setIsland (.ite h h.reach.calCommit.showMetering)))

theorem State.Wf.shadowRotation {i k dg dp} (h : s.Wf) : (s.shadowRotation i k dg dp).Wf := .ite h (.ite h h.setBit.eventOf.queueCal)
theorem State.Wf.calInterval {i} (h : s.Wf) : (s.calInterval i).Wf := .ite h (.foldl h.reach.setIsland fun _ _ h => h.queueCal)
theorem State.Wf.chCarApply {c v} (h : s.Wf) : (s.chCarApply c v).Wf := .foldl h.set fun _ _ h => h.setN

/-! ### The signal chain -/

theorem State.Wf.sampleOf {c a} (h : s.Wf) : (s.sampleOf c a).1.Wf := by
  unfold State.sampleOf
  split
  · exact h
  · exact h.elsewhere

/-! ### Energy, pulses, intervals and saves -/

theorem State.Wf.setPulse {x p} (h : s.Wf) : (s.setPulse x p).Wf := h.elsewhere
theorem State.Wf.pulseAdd {e stamp x} (h : s.Wf) : (s.pulseAdd e stamp x).Wf := h.setN.setPulse
theorem State.Wf.noteEnergy {stamp c r e} (h : s.Wf) : (s.noteEnergy stamp c r e).Wf := .ite h.elsewhere h

theorem State.Wf.addEnergy {c r e stamp} (h : s.Wf) : (s.addEnergy c r e stamp).Wf :=
  .ite h (.foldl h.setN.setMetCh.noteEnergy fun _ _ h => h.pulseAdd)

theorem State.Wf.takePulse {x} (h : s.Wf) : (s.takePulse x).Wf := .ite h h.setN.setN.setBit.setPulse.eventOf.showPulse
theorem State.Wf.drivePulse {x b} (h : s.Wf) : (s.drivePulse x b).Wf :=
  .ite (.emit (.ite h.setBit.setOut h.setBit)) (.ite h.setBit.setOut h.setBit)
theorem State.Wf.pulseRise {x width} (h : s.Wf) : (s.pulseRise x width).Wf := h.drivePulse.setN.setPulse
theorem State.Wf.setOwed {x n} (h : s.Wf) : (s.setOwed x n).Wf := .ite h.setN.setBit h.setN.setBit.eventOf
theorem State.Wf.pulseOwe {x} (h : s.Wf) : (s.pulseOwe x).Wf := h.setOwed
theorem State.Wf.pulseFall {x} (h : s.Wf) : (s.pulseFall x).Wf := h.drivePulse.setPulse

theorem State.Wf.pulseEmit {x} (h : s.Wf) : (s.pulseEmit x).Wf := by
  unfold State.pulseEmit
  dsimp only
  split
  · exact h
  · exact .ite h (.ite h.reach.setPulse (.ite h.reach.setPulse.pulseOwe h.reach.setPulse.pulseRise))

theorem State.Wf.pulseEmitFp {x} (h : s.Wf) : (s.pulseEmitFp x).Wf := by
  unfold State.pulseEmitFp
  dsimp only
  split
  · exact h
  · exact .ite h
      (.ite h.reach.setPulse (.ite (.ite h.reach.setPulse.pulseOwe h.reach.setPulse.pulseFall.setPulse) h.reach.setPulse.pulseRise))

theorem State.Wf.pulseWidthEnd {x} (h : s.Wf) : (s.pulseWidthEnd x).Wf :=
  .ite h (.ite h.reach.pulseFall (.ite h.reach.setN.setBit.pulseRise h))

theorem State.Wf.takeClear {c} (h : s.Wf) : (s.takeClear c).Wf := by
  unfold State.takeClear
  dsimp only
  split
  · exact h
  · exact .eventOf (.foldl (.setMetCh (.foldl h fun _ _ h => h.setN)) fun _ _ h => h.setN.setPulse)

theorem State.Wf.oneMs {stamp c r} (h : s.Wf) : (s.oneMs stamp c r).Wf := h.setN.noteEnergy

theorem State.Wf.countMs {stamp c valid gated} (h : s.Wf) : (s.countMs stamp c valid gated).Wf :=
  .setMetCh (.ite (.oneMs (.ite h.oneMs h)) (.ite h.oneMs h))

theorem State.Wf.tripSample {c pMean valid} (h : s.Wf) : (s.tripSample c pMean valid).Wf := by
  unfold State.tripSample
  dsimp only
  split
  · exact h
  · exact h.elsewhere

theorem State.Wf.accumulate {c d} (h : s.Wf) : (s.accumulate c d).Wf := by
  unfold State.accumulate
  refine .tripSample ?_
  refine .countMs ?_
  refine .addEnergy ?_
  split
  · exact h.setBit.addEnergy.addEnergy.addEnergy
  · exact h.setBit.addEnergy.addEnergy

theorem State.Wf.energySample {c d} (h : s.Wf) : (s.energySample c d).Wf :=
  .ite h
    (.ite
      (.spoilTrip (.foldl (.takeClear (.ite h.elsewhere h)) fun _ _ h => h.takePulse))
      (.accumulate (.showCurrent (.when (.foldl (.takeClear (.ite h.elsewhere h)) fun _ _ h => h.takePulse) fun h => h.overrange))))

theorem State.Wf.resumePulse {t0 x} (h : s.Wf) : (s.resumePulse t0 x).Wf := .foldl h.setPulse fun _ _ h => h.pulseAdd
theorem State.Wf.resumeRegs {t0} (h : s.Wf) : (s.resumeRegs t0).Wf := .foldr h.elsewhere fun _ _ h => h.setN.setMetCh
theorem State.Wf.flagIntervals {bit} (h : s.Wf) : (s.flagIntervals bit).Wf := h.elsewhere
theorem State.Wf.storeInterval {c short} (h : s.Wf) : (s.storeInterval c short).Wf := h.elsewhere.setN.setN
theorem State.Wf.openInterval {c} (h : s.Wf) : (s.openInterval c).Wf := h.setMetCh

theorem State.Wf.closeInterval {short} (h : s.Wf) : (s.closeInterval short).Wf :=
  .ite h.elsewhere (.elsewhere (.foldl (.foldl h.elsewhere fun _ _ h => h.storeInterval) fun _ _ h => h.openInterval))

theorem State.Wf.intLenApply {v} (h : s.Wf) : (s.intLenApply v).Wf := h.closeInterval.set
theorem State.Wf.save {kind bad complete} (h : s.Wf) : (s.save kind bad complete).Wf := .ite h.elsewhere.setN.setN h.elsewhere
theorem State.Wf.energyStop {cause} (h : s.Wf) : (s.energyStop cause).Wf := h.elsewhere.spoilTrips
theorem State.Wf.energyGap {msGap cause} (h : s.Wf) : (s.energyGap msGap cause).Wf := h.setN.event

theorem State.Wf.energyRestart {aonRan} (h : s.Wf) : (s.energyRestart aonRan).Wf := by
  unfold State.energyRestart
  split
  · exact h
  · exact .ite
      (.fork
        (.flagIntervals
          (.when
            (.elsewhere
              (.event
                (.setN
                  (.foldl (.foldl h fun _ _ h => .setMetCh (.setN (.foldl h fun _ _ h => h.setN))) fun _ _ h => h.setN.setOwed.setPulse))))
            fun h => h.flagIntervals)) (fun h => h.energyGap) fun h => h.elsewhere)
      (.fork
        (.flagIntervals
          (.when
            (.elsewhere
              (.event
                (.setN
                  (.foldl (.foldl h fun _ _ h => .setMetCh (.setN (.foldl h fun _ _ h => h.setN))) fun _ _ h => h.setN.setOwed.setPulse))))
            fun h => h.flagIntervals)) (fun h => h.energyGap) fun h => h.energyGap)

theorem State.Wf.gapKnown (h : s.Wf) : s.gapKnown.Wf := by
  unfold State.gapKnown
  split
  · exact h
  · exact h.elsewhere.energyGap

theorem State.Wf.energyAck (h : s.Wf) : s.energyAck.Wf := .foldl h.setN fun _ _ h => h.setN
theorem State.Wf.mirrorModel {n} (h : s.Wf) : (s.mirrorModel n).Wf := h.mirrorRegs.mirror
theorem State.Wf.takeCov {n b} (h : s.Wf) : (s.takeCov n b).Wf := h.elsewhere

theorem State.Wf.learnTrip {n up d m ys} (h : s.Wf) : (s.learnTrip n up d m ys).Wf :=
  .mirrorModel (.ite h.setBlob.elsewhere.count.setFlag.eventOf h.setBlob.elsewhere.count)

theorem State.Wf.modelReset {n ses} (h : s.Wf) : (s.modelReset n ses).Wf := h.setBlob.setN.setN.elsewhere.setFlag.eventOf.mirrorModel
theorem State.Wf.tripBegin {n up good} (h : s.Wf) : (s.tripBegin n up good).Wf := h.elsewhere

theorem State.Wf.tripEnd {n ok} (h : s.Wf) : (s.tripEnd n ok).Wf := by
  unfold State.tripEnd
  split
  · exact h
  · exact .ite h.elsewhere.setBlob.mirrorRegs.learnTrip h.elsewhere.setBlob.mirrorRegs

theorem State.Wf.pulseConfig {x} (h : s.Wf) : (s.pulseConfig x).Wf := h.setPulse
theorem State.Wf.regClear {c ses} (h : s.Wf) : (s.regClear c ses).Wf := h.setMetCh

/-! ### One car -/

theorem State.Wf.setCar {n r} (h : s.Wf) : (s.setCar n r).Wf := h.elsewhere
theorem State.Wf.mirrorCar {n} (h : s.Wf) : (s.mirrorCar n).Wf := h.mirrorRegs
theorem State.Wf.setCarState {n st} (h : s.Wf) : (s.setCarState n st).Wf := h.setN.setCar.mirrorCar
theorem State.Wf.profTo {n v} (h : s.Wf) : (s.profTo n v).Wf := h.setCar
theorem State.Wf.armAt {n k p up} (h : s.Wf) : (s.armAt n k p up).Wf := h.set.setN.setN.setN.armCompare.mirrorRegs
theorem State.Wf.armTrip {n level up} (h : s.Wf) : (s.armTrip n level up).Wf := h.armAt.armAt.armAt.armAt.setCar
theorem State.Wf.disarmTrip {n} (h : s.Wf) : (s.disarmTrip n).Wf := .foldl h fun _ _ h => h.disarmCompare
theorem State.Wf.openStop {n} (h : s.Wf) : (s.openStop n).Wf := .foldl h fun _ _ h => h.doorOpen
theorem State.Wf.closeStop {n} (h : s.Wf) : (s.closeStop n).Wf := .foldl h fun _ _ h => h.doorClose
theorem State.Wf.nudgeStop {n} (h : s.Wf) : (s.nudgeStop n).Wf := .foldl h fun _ _ h => .ite h.doorStartClose h.doorNudge
theorem State.Wf.setQueue {n q} (h : s.Wf) : (s.setQueue n q).Wf := h.setCar.setBlob.mirrorCar

theorem State.Wf.place {n l side kind} (h : s.Wf) : (s.place n l side kind).Wf := by
  unfold State.place
  split
  · exact h.setQueue
  · exact h.eventOf

theorem State.Wf.release1 {a} (h : s.Wf) : (s.release1 a).Wf := by
  unfold State.release1
  split
  · exact h.elsewhere
  · exact h.elsewhere

theorem State.Wf.act {a} (h : s.Wf) : (s.act a).Wf := .ite h.elsewhere h.release1
theorem State.Wf.releaseHeld {upTo} (h : s.Wf) : (s.releaseHeld upTo).Wf := .foldl h.elsewhere fun _ _ h => h.release1
theorem State.Wf.lamp {base idx prio on} (h : s.Wf) : (s.lamp base idx prio on).Wf := .ite h h.act
theorem State.Wf.hallLamp {g l down on} (h : s.Wf) : (s.hallLamp g l down on).Wf := h.lamp
theorem State.Wf.carLamp {n l on} (h : s.Wf) : (s.carLamp n l on).Wf := .ite (.ite h.lamp h.lamp.lamp) h.lamp
theorem State.Wf.endRun {n} (h : s.Wf) : (s.endRun n).Wf := .disarmTrip (.setCar (.ite h.openLoop h))
theorem State.Wf.clearCalls {n} (h : s.Wf) : (s.clearCalls n).Wf := .setQueue (.foldl h fun _ _ h => .ite h.carLamp h)
theorem State.Wf.clearButDrops {n} (h : s.Wf) : (s.clearButDrops n).Wf := .setQueue (.foldl h fun _ _ h => .ite h.carLamp h)

/-! ### Calls -/

theorem State.Wf.noteFull {g ls l kind} (h : s.Wf) : (s.noteFull g ls l kind).Wf := .foldl h fun _ _ h => .ite h.eventOf h

theorem State.Wf.assignHall {h0 not} (h : s.Wf) : (s.assignHall h0 not).1.Wf := by
  unfold State.assignHall
  dsimp only
  split
  · exact h.place
  · exact h

theorem State.Wf.hallCall {g l down} (h : s.Wf) : (s.hallCall g l down).Wf := .ite h h.noteFull.assignHall.elsewhere.hallLamp

theorem State.Wf.carCall {n l} (h : s.Wf) : (s.carCall n l).Wf := by
  unfold State.carCall
  dsimp only
  refine .ite h ?_
  split
  · exact .carLamp (.setQueue (.ite h.clearCalls h))
  · exact .eventOf (.ite h.clearCalls h)

theorem State.Wf.callPoint {p v} (h : s.Wf) : (s.callPoint p v).Wf :=
  .ite h (.foldl (.foldl h fun _ _ h => .ite h.hallCall h) fun _ _ h => .ite h.carCall h)

theorem State.Wf.answerDt {c status callAt} (h : s.Wf) : (s.answerDt c status callAt).Wf := .act (.ite h h.eventOf)

theorem State.Wf.assignDt {c not} (h : s.Wf) : (s.assignDt c not).1.Wf := by
  unfold State.assignDt
  dsimp only
  split
  · exact h.setQueue
  · exact h

theorem State.Wf.dtCall {g rec chan} (h : s.Wf) : (s.dtCall g rec chan).Wf := by
  unfold State.dtCall
  refine .ite h ?_
  split
  · exact h.answerDt
  · exact .ite h.elsewhere.answerDt h.noteFull.assignDt.elsewhere.answerDt

theorem State.Wf.forgetCalls (h : s.Wf) : s.forgetCalls.Wf := h.elsewhere
theorem State.Wf.dtWindow {c e} (h : s.Wf) : (s.dtWindow c e).Wf := .ite h (.foldl h.setBlob.elsewhere fun _ _ h => .ite h.setN h)

theorem State.Wf.reassignHalls {n} (h : s.Wf) : (s.reassignHalls n).Wf := by
  unfold State.reassignHalls
  refine .elsewhere ?_
  refine .foldl_fst h fun _ _ h => ?_
  split
  · exact h.assignHall.eventOf
  · exact h

theorem State.Wf.reassignDts {n} (h : s.Wf) : (s.reassignDts n).Wf := by
  unfold State.reassignDts
  refine .elsewhere ?_
  refine .foldl_fst h fun _ _ h => ?_
  split
  · exact h.assignDt.eventOf.answerDt
  · exact h

theorem State.Wf.dropCalls {n keepDrops} (h : s.Wf) : (s.dropCalls n keepDrops).Wf :=
  .reassignDts (.reassignHalls (.unless (.ite h.clearButDrops h.clearCalls) fun h => h.elsewhere))

theorem State.Wf.lampsOff {n l} (h : s.Wf) : (s.lampsOff n l).Wf := .foldl (.ite h.carLamp h) fun _ _ h => h.hallLamp
theorem State.Wf.serveLanding {n l} (h : s.Wf) : (s.serveLanding n l).Wf := h.lampsOff.elsewhere.setQueue.setCar
theorem State.Wf.outOfService {n cause} (h : s.Wf) : (s.outOfService n cause).Wf :=
  .ite h h.endRun.tripEnd.setCar.setCarState.eventOf.dropCalls

theorem State.Wf.stopNext {n} (h : s.Wf) : (s.stopNext n).Wf := by
  unfold State.stopNext
  dsimp only
  refine .ite h ?_
  split
  · exact h.setN.armTrip
  · exact h

theorem State.Wf.carFault {n b} (h : s.Wf) : (s.carFault n b).Wf :=
  .ite h
    (.ite h.setBit.eventOf.mirrorCar
      (.ite
        (.outOfService (.foldl h.setBit.eventOf.mirrorCar fun _ _ h => h.doorStop))
        (.ite h.setBit.eventOf.mirrorCar.outOfService.setCar
          (.ite h.setBit.eventOf.mirrorCar.outOfService (.when h.setBit.eventOf.mirrorCar.setCar fun h => h.stopNext)))))

theorem State.Wf.faultAck {n} (h : s.Wf) : (s.faultAck n).Wf := .ite h.setN.mirrorCar.setCar h.setN.mirrorCar
theorem State.Wf.faultsSeen {n} (h : s.Wf) : (s.faultsSeen n).Wf := .foldl h fun _ _ h => .ite h.setBit h

/-! ### The car state machine -/

theorem State.Wf.readSources {n} (h : s.Wf) : (s.readSources n).Wf := h.setCar
theorem State.Wf.readLoad {n} (h : s.Wf) : (s.readLoad n).Wf := h.set
theorem State.Wf.readSpeed {n} (h : s.Wf) : (s.readSpeed n).Wf := h.set
theorem State.Wf.showEp (h : s.Wf) : s.showEp.Wf := h.setN.setN
theorem State.Wf.readEp (h : s.Wf) : s.readEp.Wf := .ite h (.ite h.setFlag.elsewhere h.setFlag.elsewhere)

theorem State.Wf.startTrip {n l dir} (h : s.Wf) : (s.startTrip n l dir).Wf :=
  .tripBegin (.setCarState (.when (.ite h.setN.setCar.armTrip h.setN.setCar) fun h => h.closeLoop))

theorem State.Wf.tryStart {n l dir} (h : s.Wf) : (s.tryStart n l dir).Wf := .ite h (.ite (.ite h h.setCar) h.startTrip)

theorem State.Wf.epGate {n p} (h : s.Wf) : (s.epGate n p).1.Wf := by
  unfold State.epGate
  dsimp only
  split
  · exact h
  · split
    · exact h.setCar.eventOf
    · split
      · exact h
      · exact h.setCar.eventOf

theorem State.Wf.cancelStart {n} (h : s.Wf) : (s.cancelStart n).Wf := h.endRun.elsewhere.serveLanding.openStop.setCarState
theorem State.Wf.lateCalls {old} (h : s.Wf) : (s.lateCalls old).Wf := .foldl h fun _ _ h => .ite (.ite h.eventOf h.cancelStart) h

theorem State.Wf.openRequest {n} (h : s.Wf) : (s.openRequest n).Wf :=
  .ite h (.ite (.ite h.eventOf.place h.cancelStart) (.ite h.setCar.serveLanding.openStop.setCarState (.ite h.openStop.setCarState h)))

theorem State.Wf.reopenRequest {k} (h : s.Wf) : (s.reopenRequest k).Wf :=
  .ite (.ite h.doorReopen.setCarState h.doorReopen) (.ite h.eventOf.openRequest h)

theorem State.Wf.arrive {n l} (h : s.Wf) : (s.arrive n l).Wf :=
  .ite h.setN.serveLanding.setCar.setCarState
    (.ite h.setN.serveLanding.setCar.setCar.setCarState h.setN.serveLanding.setCar.openStop.setCarState)

theorem State.Wf.leaveAtRest {n} (h : s.Wf) : (s.leaveAtRest n).Wf := .ite h.outOfService (.ite h.outOfService h)

theorem State.Wf.serveQueue {n} (h : s.Wf) : (s.serveQueue n).Wf := by
  unfold State.serveQueue
  dsimp only
  split
  · exact h.arrive
  · split
    · exact h.tryStart
    · exact h

theorem State.Wf.refStart {n} (h : s.Wf) : (s.refStart n).Wf := h.setCar.tryStart
theorem State.Wf.parkedStep {n} (h : s.Wf) : (s.parkedStep n).Wf :=
  .ite h.leaveAtRest (.ite (.ite h.refStart h.tryStart) (.ite h.setCarState h))

theorem State.Wf.epStep {n} (h : s.Wf) : (s.epStep n).Wf := by
  unfold State.epStep
  refine .ite h ?_
  split
  · exact .ite (.ite h.setCar h.setN.setCar.openStop.setCarState) (.ite h.tryStart h.setN.setCar.openStop.setCarState)
  · exact h.tryStart

theorem State.Wf.ffStep {n} (h : s.Wf) : (s.ffStep n).Wf := by
  unfold State.ffStep
  refine .ite (.ite h.setN.setCar.openStop.setCarState h.tryStart) ?_
  refine .ite ?_ ?_
  · split
    · exact h.setN.serveLanding.setCar.openStop.setCarState
    · exact h
  · split
    · exact h.tryStart
    · exact h

theorem State.Wf.startingStep {n} (h : s.Wf) : (s.startingStep n).Wf := .ite h.setCarState h

theorem State.Wf.retarget {n} (h : s.Wf) : (s.retarget n).Wf := by
  unfold State.retarget
  dsimp only
  refine .ite h ?_
  split
  · exact .ite h h.setN.armTrip.mirrorCar
  · exact h

theorem State.Wf.compareStep {n} (h : s.Wf) : (s.compareStep n).Wf :=
  .ite h (.when (.when (.ite (.setCarState (.ite h.profTo.setCar h)) (.ite h.profTo.setCar h)) fun h => h.setCarState) fun h => h.carFault)

theorem State.Wf.preopenStep {n} (h : s.Wf) : (s.preopenStep n).Wf :=
  .ite h (.ite (.openStop (.lampsOff (.setCar (.ite h.setCar h)))) (.ite h.setCar h))

theorem State.Wf.levellingStep {n} (h : s.Wf) : (s.levellingStep n).Wf :=
  .ite h (.ite (.arrive (.setCar (.endRun (.tripEnd (.ite h.profTo.setCar h))))) (.ite h.profTo.setCar h))

theorem State.Wf.refStep {n} (h : s.Wf) : (s.refStep n).Wf := by
  unfold State.refStep
  refine .ite h ?_
  refine .ite (.ite h.profTo.setCar.setCarState h) ?_
  refine .ite (.ite h.profTo.setCar h) ?_
  refine .ite ?_ h
  refine .eventOf ?_
  refine .setCarState ?_
  refine .setN ?_
  refine .setCar ?_
  split
  · exact h.tripEnd.endRun.refLanding
  · exact h.tripEnd.endRun

theorem State.Wf.relevelStep {n} (h : s.Wf) : (s.relevelStep n).Wf := by
  unfold State.relevelStep
  refine .ite (.ite h.profTo.setCar h) ?_
  refine .ite h.endRun.setCar.setCarState ?_
  refine .ite h ?_
  refine .ite (.ite h.epGate (.ite h.epGate.setCar.setN.closeLoop h.epGate.setCar.setN)) ?_
  split
  · exact .ite h.setCar.place.closeStop.setCarState h
  · exact h

theorem State.Wf.callHere {n} (h : s.Wf) : (s.callHere n).Wf :=
  .ite h (.ite h.serveLanding.setCar h.serveLanding.setCar.openStop.setCarState)

theorem State.Wf.ffDoor {n back st} (h : s.Wf) : (s.ffDoor n back st).Wf :=
  .setCarState (.ite h.setCar.openStop (.foldl h.setCar fun _ _ h => .ite h.doorStartClose h.doorClose))

theorem State.Wf.closedStep {n} (h : s.Wf) : (s.closedStep n).Wf := by
  unfold State.closedStep
  refine .ite (.ite h.setCarState.leaveAtRest h.setCarState) ?_
  split
  · exact h.tryStart
  · exact h

theorem State.Wf.doorStep {n} (h : s.Wf) : (s.doorStep n).Wf :=
  .ite
    (.ite h.callHere.setCar.setCarState (.ite h.callHere.ffDoor (.ite h.callHere.ffDoor h.callHere)))
    (.ite
      (.ite h.callHere.ffDoor (.ite h.callHere.nudgeStop.setCarState h.callHere))
      (.ite
        (.ite h.callHere.setCar.closedStep
          (.ite h.callHere.setCarState (.ite (.ite h.callHere.ffDoor (.ite h.callHere.ffDoor h.callHere)) h.callHere))) h.callHere))

theorem State.Wf.enterOper {n o} (h : s.Wf) : (s.enterOper n o).Wf :=
  .ite h.setN.eventOf.mirrorCar.setCar
    (.ite h.setN.eventOf.mirrorCar.setCar.tripEnd.endRun.dropCalls.setCar.setCarState
      (.ite
        (.ite
          (.fork h.setN.eventOf.mirrorCar.setCar.dropCalls (fun h => h.setN.armTrip) fun h => h.stopNext)
          (.ite
            (.unless h.setN.eventOf.mirrorCar.setCar.dropCalls fun h => h.nudgeStop.setCarState)
            (.when h.setN.eventOf.mirrorCar.setCar.dropCalls fun h => h.setCarState)))
        (.ite h.setN.eventOf.mirrorCar.setCar
          (.ite
            (.ite h.setN.eventOf.mirrorCar.setCar.dropCalls.carFault
              (.when h.setN.eventOf.mirrorCar.setCar.dropCalls fun h => h.setCarState))
            (.ite h.setN.eventOf.mirrorCar.setCar (.when h.setN.eventOf.mirrorCar.setCar fun h => h.setCarState))))))

theorem State.Wf.operStep {n} (h : s.Wf) : (s.operStep n).Wf := .ite h (.ite (.ite h h.enterOper.outOfService) h.enterOper)

theorem State.Wf.buttonStep {n} (h : s.Wf) : (s.buttonStep n).Wf :=
  .ite
    (.ite (.ite h h.profTo) (.ite (.ite h.epGate (.ite h.epGate.setCar.closeLoop h.epGate.setCar)) h))
    (.ite (.ite h.endRun (.ite h h.profTo)) (.ite h.setCar h))

theorem State.Wf.faultStep {n} (h : s.Wf) : (s.faultStep n).Wf :=
  .ite h
    (.when
      (.when
        (.foldl
          (.when
            (.when (.when (.ite (.carFault (.ite h.carFault h)) (.ite h.carFault h)) fun h => h.carFault) fun h => h.carFault)
            fun h => h.carFault) fun _ _ h => .ite h.carFault h) fun h => h.carFault) fun h => h.outOfService)

theorem State.Wf.degradedStep {n} (h : s.Wf) : (s.degradedStep n).Wf := .ite h.setN.mirrorCar.setCar h

theorem State.Wf.returnCar {n} (h : s.Wf) : (s.returnCar n).Wf := by
  unfold State.returnCar
  refine .eventOf ?_
  refine .setCarState ?_
  refine .setCar ?_
  split
  · exact h.setN
  · exact h

theorem State.Wf.motionSlot {n} (h : s.Wf) : (s.motionSlot n).Wf :=
  .ite h (.unless h.setN.set.setN.set.set.setN.set.setN.setN.setN fun h => h.enableLoop)

theorem State.Wf.motionInputs {n} (h : s.Wf) : (s.motionInputs n).Wf := .ite h.setLoop h

theorem State.Wf.epTry {n} (h : s.Wf) : (s.epTry n).Wf := by
  unfold State.epTry
  split
  · exact h
  · exact .ite h.epGate.startTrip.showEp h.epGate

theorem State.Wf.epCheck (h : s.Wf) : s.epCheck.Wf := .foldl (.foldl h.showEp fun _ _ h => .ite h h.setCar) fun _ _ h => h.epTry
theorem State.Wf.epService (h : s.Wf) : s.epService.Wf := .ite h (.foldl h.elsewhere fun _ _ h => h.setCar)
theorem State.Wf.passLanding {n} (h : s.Wf) : (s.passLanding n).Wf := .ite h (.ite h h.setN.mirrorCar)

theorem State.Wf.carTick {n} (h : s.Wf) : (s.carTick n).Wf :=
  .ite h
    (.ite h.readSpeed.readLoad.readSources.motionSlot.setFlag.faultsSeen
      (.motionInputs
        (.passLanding
          (.refStep
            (.ite h.readSpeed.readLoad.readSources.motionSlot.operStep.setFlag.faultStep.degradedStep.parkedStep
              (.ite
                (.ite h.readSpeed.readLoad.readSources.motionSlot.operStep.setFlag.faultStep.degradedStep.leaveAtRest
                  (.fork h.readSpeed.readLoad.readSources.motionSlot.operStep.setFlag.faultStep.degradedStep (fun h => h.setCarState)
                    fun h => h.serveQueue))
                (.ite
                  (.ite h.readSpeed.readLoad.readSources.motionSlot.operStep.setFlag.faultStep.degradedStep.leaveAtRest
                    (.fork h.readSpeed.readLoad.readSources.motionSlot.operStep.setFlag.faultStep.degradedStep (fun h => h.ffStep)
                      fun h => h.epStep))
                  (.ite
                    h.readSpeed.readLoad.readSources.motionSlot.operStep.setFlag.faultStep.degradedStep.retarget.compareStep.startingStep
                    (.ite
                      h.readSpeed.readLoad.readSources.motionSlot.operStep.setFlag.faultStep.degradedStep.retarget.compareStep.preopenStep
                      (.ite
                        h.readSpeed.readLoad.readSources.motionSlot.operStep.setFlag.faultStep.degradedStep.compareStep.preopenStep.levellingStep
                        (.ite h.readSpeed.readLoad.readSources.motionSlot.operStep.setFlag.faultStep.degradedStep.doorStep
                          (.ite h.readSpeed.readLoad.readSources.motionSlot.operStep.setFlag.faultStep.degradedStep.relevelStep
                            (.ite
                              (.ite h.readSpeed.readLoad.readSources.motionSlot.operStep.setFlag.faultStep.degradedStep.buttonStep
                                (.fork h.readSpeed.readLoad.readSources.motionSlot.operStep.setFlag.faultStep.degradedStep
                                  (fun h => h.leaveAtRest) fun h => h.buttonStep))
                              h.readSpeed.readLoad.readSources.motionSlot.operStep.setFlag.faultStep.degradedStep)))))))))))))

theorem State.Wf.carsTick (h : s.Wf) : s.carsTick.Wf := by
  unfold State.carsTick
  split
  · exact h
  · extract_lets s1 s2 r s3
    have h1 : s1.Wf := .ite h.readEp h
    have h2 : s2.Wf := .foldl h1 fun _ _ h => h.carTick
    clear_value s2
    have hr : r.1.Wf := by
      refine State.Wf.foldl_fst (x := (s2, [])) h2 fun _ _ h => ?_
      split
      · exact h.assignHall
      · exact h
    clear_value r
    rename_i s4
    have h4 : s4.Wf := .ite hr.elsewhere.lateCalls.forgetCalls h2
    split
    · exact h4.epCheck.epService
    · split
      · exact h4.showEp
      · exact h4

theorem State.Wf.carProfile {n} (h : s.Wf) : (s.carProfile n).Wf := .ite h h.set.setN.setFlag.set.setCar
theorem State.Wf.noteRun {c e} (h : s.Wf) : (s.noteRun c e).Wf := .foldl h fun _ _ h => .ite h.setCar h
theorem State.Wf.dwellExpiry {n} (h : s.Wf) : (s.dwellExpiry n).Wf := .ite h.reach.closeStop.setCarState h
theorem State.Wf.nudgeExpiry {n} (h : s.Wf) : (s.nudgeExpiry n).Wf := .ite h.reach.nudgeStop.setCarState h
theorem State.Wf.relevelTrigger {n forMs} (h : s.Wf) : (s.relevelTrigger n forMs).Wf := .ite h.setCar.setCarState h

theorem State.Wf.returnStep (h : s.Wf) : s.returnStep.Wf := by
  unfold State.returnStep
  refine .ite h ?_
  split
  · exact h
  · refine .ite h.setCar ?_
    split
    · exact h.setCar
    · exact h.setCar.returnCar

theorem State.Wf.epReturn (h : s.Wf) : s.epReturn.Wf := by
  unfold State.epReturn
  dsimp only
  refine .ite h ?_
  split
  · exact .foldl h.reach fun _ _ h => .ite h.setCar h
  · exact .when (.foldl h.reach fun _ _ h => .ite h.setCar h) fun h => h.setN.eventOf.setCarState

theorem State.Wf.carCmd {n v} (h : s.Wf) : (s.carCmd n v).Wf :=
  .ite (.ite h.setN.outOfService h.setN.setCar)
    (.ite h.setN.setCar.returnCar (.ite h.setN.setCar.setCarState (.ite h.setN.setCar.setCarState h.setN.setCar)))

theorem State.Wf.carsReturn (h : s.Wf) : s.carsReturn.Wf := .foldl h fun _ _ h => .ite h h.setCar
theorem State.Wf.carsReset (h : s.Wf) : s.carsReset.Wf := .foldl h.elsewhere fun _ _ h => .ite h h.setN.setN.setBlob.setFlag
theorem State.Wf.carsResume (h : s.Wf) : s.carsResume.Wf := .foldl h fun _ _ h => h.setCar

/-! ### The time base -/

theorem State.Wf.tick (h : s.Wf) : s.tick.Wf := h.cycles
theorem State.Wf.timeMark (h : s.Wf) : s.timeMark.Wf := h.elsewhere.event

theorem State.Wf.setStatus {st} (h : s.Wf) : (s.setStatus st).Wf :=
  .ite h (.when (.ite h.elsewhere.setN.timeMark.flagIntervals h.elsewhere.setN.timeMark) fun h => h.elsewhere.gapKnown)

theorem State.Wf.mapLaunch {part tag f} (h : s.Wf) : (s.mapLaunch part tag f).Wf := h.elsewhere
theorem State.Wf.endLaunch {l st} (h : s.Wf) : (s.endLaunch l st).Wf := h.mapLaunch.dropItems
theorem State.Wf.slew (h : s.Wf) : s.slew.Wf := h.free.elsewhere.set
theorem State.Wf.showOffset {o} (h : s.Wf) : (s.showOffset o).Wf := h.set
theorem State.Wf.becomeMaster (h : s.Wf) : s.becomeMaster.Wf := h.elsewhere.setBlob

/-! ### The reset controller -/

theorem State.Wf.resetAccess {r} (h : s.Wf) : (s.resetAccess r).Wf := h.elsewhere
theorem State.Wf.resetPoints (h : s.Wf) : s.resetPoints.Wf := h.elsewhere
theorem State.Wf.resetTwin (h : s.Wf) : s.resetTwin.Wf := h.elsewhere
theorem State.Wf.resetSafety {r} (h : s.Wf) : (s.resetSafety r).Wf := h.elsewhere
theorem State.Wf.resetTime {r} (h : s.Wf) : (s.resetTime r).Wf := .ite h.elsewhere h.elsewhere
theorem State.Wf.resetLaunches (h : s.Wf) : s.resetLaunches.Wf := .elsewhere (.ite h.event h)
theorem State.Wf.resetMetering {r} (h : s.Wf) : (s.resetMetering r).Wf := .ite h (.elsewhere (.ite h h.energyStop))
theorem State.Wf.resetLift {r} (h : s.Wf) : (s.resetLift r).Wf := .elsewhere (.carsReset (.foldl h fun _ _ h => h.posReset))
theorem State.Wf.resetField (h : s.Wf) : s.resetField.Wf := h.elsewhere
theorem State.Wf.resetObjs {r} (h : s.Wf) : (s.resetObjs r).Wf := .foldl h.pickObjs.pickBlobs fun _ _ h => h.set
theorem State.Wf.resetPower {r} (h : s.Wf) : (s.resetPower r).Wf := h.setN.setN.setN.elsewhere.elsewhere

theorem State.Wf.blockEnter {b} (h : s.Wf) : (s.blockEnter b).Wf := by
  unfold State.blockEnter
  dsimp only
  split
  · exact .acctDown (.ite h.posReset (.ite (.ite h.doorReset h) (.ite h.canReset (.ite h h.islandStop))))
  · exact .ite h.posReset (.ite (.ite h.doorReset h) (.ite h.canReset (.ite h h.islandStop)))

theorem State.Wf.blockLeave {b} (h : s.Wf) : (s.blockLeave b).Wf := by
  unfold State.blockLeave
  dsimp only
  split
  · exact .acctUp (.ite (.ite h.handshake h) (.ite h.canTakeMode (.ite (.ite h.islandStart h) h)))
  · exact .ite (.ite h.handshake h) (.ite h.canTakeMode (.ite (.ite h.islandStart h) h))

theorem State.Wf.blockAssert {b cause} (h : s.Wf) : (s.blockAssert b cause).Wf := .ite h.setBit h.setBit.setBit.elsewhere.blockEnter.event
theorem State.Wf.blockRelease {b} (h : s.Wf) : (s.blockRelease b).Wf := .ite h (.ite h.setBit h.setBit.setBit.blockLeave.event)
theorem State.Wf.blocksOn {d} (h : s.Wf) : (s.blocksOn d).Wf := .foldl h fun _ _ h => .ite h.setBit h
theorem State.Wf.preSave (h : s.Wf) : s.preSave.Wf := .flushRecords (.ite h.save h)

theorem State.Wf.applyReach {r} (h : s.Wf) : (s.applyReach r).Wf := by
  unfold State.applyReach
  extract_lets s1 s2 s3 s4 s5 s6 s7 s8 m1 m2 s9 s10
  have h1 : s1.Wf := .ite h.preSave (.ite h.losePending h)
  have h8 : s8.Wf :=
    (State.Wf.ite h1.count h1).resetLaunches.resetMetering.resetLift.resetPower.resetObjs.resetAccess.resetPoints.resetTwin.resetSafety.resetTime.resetField
  have h10 : s10.Wf := .foldl (.ite h8 h8.setN.elsewhere) fun _ _ h => h.blockRelease
  exact h10.stores Memory.wf_nil Memory.wf_nil h10.memCanonical.2.2.1 h10.memCanonical.2.2.2

theorem State.Wf.noteSource {b} (h : s.Wf) : (s.noteSource b).Wf := h.elsewhere.setN.eventAon
theorem State.Wf.doReset {b} (h : s.Wf) : (s.doReset b).Wf := h.release.applyReach.noteSource.elsewhere.setN

theorem State.Wf.endRelease (h : s.Wf) : s.endRelease.Wf := by
  unfold State.endRelease
  split
  · exact h
  · exact .foldl h.elsewhere fun _ _ h => h.doReset

theorem State.Wf.assertSource {b} (h : s.Wf) : (s.assertSource b).Wf := by
  unfold State.assertSource
  refine .ite h.noteSource ?_
  split
  · exact h.elsewhere
  · exact .ite (.ite h.release.elsewhere h.release.doReset) h.doReset

theorem State.Wf.measureStrap {ratio} (h : s.Wf) : (s.measureStrap ratio).Wf := by
  unfold State.measureStrap
  split
  · exact h.setN.elsewhere.setN
  · exact h.setN.elsewhere.setN.event.reportHealth

theorem State.Wf.clearSource {b} (h : s.Wf) : (s.clearSource b).Wf := h.elsewhere
theorem State.Wf.clearSources (h : s.Wf) : s.clearSources.Wf := .foldl h fun _ _ h => .ite h.clearSource h
theorem State.Wf.startUp {ratio} (h : s.Wf) : (s.startUp ratio).Wf := .ite h.setN.setN.elsewhere h.setN.setN.elsewhere.measureStrap
theorem State.Wf.noteUnseen (h : s.Wf) : s.noteUnseen.Wf := .foldl h fun _ _ h => .ite (.noteSource (.ite h.count h)) h
theorem State.Wf.tryRelease {ratio} (h : s.Wf) : (s.tryRelease ratio).Wf :=
  .ite h (.when h.reach.noteUnseen.clearSources fun h => h.startUp)
theorem State.Wf.setResetN {x} (h : s.Wf) : (s.setResetN x).Wf := h.elsewhere.setN
theorem State.Wf.critical {kind place src} (h : s.Wf) : (s.critical kind place src).Wf := h.eventAon.assertSource
theorem State.Wf.shadowFails (h : s.Wf) : s.shadowFails.Wf := h.free.elsewhere
theorem State.Wf.resetReq {v} (h : s.Wf) : (s.resetReq v).Wf := h.assertSource
theorem State.Wf.blockRst {v} (h : s.Wf) : (s.blockRst v).Wf := .foldl h.setN.mirror fun _ _ h => .ite h.blockAssert (.ite h.blockRelease h)

theorem State.Wf.powerOn (h : s.Wf) : s.powerOn.Wf := by
  unfold State.powerOn
  dsimp only
  split
  · exact h.losePending.elsewhere.setN.setN.setN.setFlag.setN.setN.doReset.eventAon
  · exact h.losePending.elsewhere.setN.setN.setN.setFlag.setN.setN.doReset

/-! ### Recorder, freeze and readout port -/

theorem State.Wf.showWinter (h : s.Wf) : s.showWinter.Wf := h.setN

theorem State.Wf.answerFrozen (h : s.Wf) : s.answerFrozen.Wf :=
  .elsewhere (.foldl (.foldl (.foldl h fun _ _ h => h.answer) fun _ _ h => h.emit) fun _ _ h => h.emit)

theorem State.Wf.holdOutputs (h : s.Wf) : s.holdOutputs.Wf := h.setBlob.elsewhere

theorem State.Wf.freeze (h : s.Wf) : s.freeze.Wf :=
  .elsewhere
    (.flushRecords
      (.eventAon (.count (.enter (.unless (.emit (.setN (.ite h.answerFrozen.holdOutputs h.answerFrozen))) fun h => h.energyStop)))))

theorem State.Wf.winterActed (h : s.Wf) : s.winterActed.Wf := by
  unfold State.winterActed
  split
  · exact h.elsewhere
  · exact h.freeze
  · exact h.freeze
  · exact h
  · exact .ite h.elsewhere (.ite h.release.elsewhere h.elsewhere.event)

theorem State.Wf.winterLow (h : s.Wf) : s.winterLow.Wf := .ite h (.showWinter (.ite h.elsewhere h.elsewhere.winterActed))
theorem State.Wf.unfreeze (h : s.Wf) : s.unfreeze.Wf := .ite h.save.elsewhere.doReset.elsewhere h.save.elsewhere.doReset
theorem State.Wf.cancelFreeze (h : s.Wf) : s.cancelFreeze.Wf := .ite h.elsewhere.enter.event h.elsewhere

theorem State.Wf.winterHigh {forNs} (h : s.Wf) : (s.winterHigh forNs).Wf :=
  .ite
    (.ite h.elsewhere.showWinter.noteSource h.elsewhere.showWinter.unfreeze)
    (.ite h.elsewhere.showWinter.cancelFreeze h.elsewhere.showWinter)

theorem State.Wf.freezeAtStart (h : s.Wf) : s.freezeAtStart.Wf := by
  unfold State.freezeAtStart
  refine .ite ?_ ?_
  · refine .showWinter ?_
    refine .winterActed ?_
    refine .elsewhere ?_
    split
    · exact h.elsewhere.eventAon
    · exact h
  · refine .elsewhere ?_
    split
    · exact h.elsewhere.eventAon
    · exact h

theorem State.Wf.loadIr {i} (h : s.Wf) : (s.loadIr i).Wf := h.elsewhere

theorem State.Wf.readoutData {space addr} (h : s.Wf) : (s.readoutData space addr).2.2.Wf := by
  unfold State.readoutData
  dsimp only
  split
  · split
    · split
      · exact h
      · exact h
    · exact h
  · exact h.free.free.free.free.free

theorem State.Wf.readWord (h : s.Wf) : s.readWord.Wf := .ite h.elsewhere h.readoutData.elsewhere

/-! ### The safety functions -/

theorem State.Wf.showSafety {n} (h : s.Wf) : (s.showSafety n).Wf := h.setN
theorem State.Wf.setSwitches {n} (h : s.Wf) : (s.setSwitches n).Wf := h.setCarSafe.showSafety
theorem State.Wf.setAllSwitches (h : s.Wf) : s.setAllSwitches.Wf := .foldl h fun _ _ h => h.setSwitches
theorem State.Wf.mirrorLocks {n} (h : s.Wf) : (s.mirrorLocks n).Wf := h.mirror

theorem State.Wf.trip {n f sla lockout} (h : s.Wf) : (s.trip n f sla lockout).Wf :=
  .when (.setSwitches (.when (.ite h.setCarSafe h.setCarSafe.eventOf.count) fun h => h.eventOf)) fun h => h.mirrorLocks

theorem State.Wf.absCheck {n} (h : s.Wf) : (s.absCheck n).Wf := by
  unfold State.absCheck
  dsimp only
  refine .ite h ?_
  split
  · exact h.setCarSafe
  · exact .ite (.ite h.setCarSafe.trip h.setCarSafe) h

theorem State.Wf.setDst {t0 d} (h : s.Wf) : (s.setDst t0 d).Wf := h.elsewhere

theorem State.Wf.sf6 {n i} (h : s.Wf) : (s.sf6 n i).Wf :=
  .ite h (.ite (.ite h.setCarSafe.trip.doorReopen h.setCarSafe.trip.doorStop) h.setCarSafe.setCarSafe)

theorem State.Wf.sEval {n} (h : s.Wf) : (s.sEval n).Wf :=
  .ite h.setSwitches (.setSwitches (.sf6 (.sf6 (.absCheck (.foldl h fun _ _ h => .ite h.trip h)))))

theorem State.Wf.sEvalAll (h : s.Wf) : s.sEvalAll.Wf := .foldl h fun _ _ h => h.sEval

theorem State.Wf.windowEval {n} (h : s.Wf) : (s.windowEval n).Wf := by
  unfold State.windowEval
  dsimp only
  split
  · exact .ite h.setCarSafe.showSafety h.setCarSafe
  · exact .ite h h.setCarSafe.showSafety

theorem State.Wf.zoneEdge {n i level} (h : s.Wf) : (s.zoneEdge n i level).Wf := .ite h.setCarSafe h.setCarSafe

theorem State.Wf.lEval {n i level} (h : s.Wf) : (s.lEval n i level).Wf :=
  .ite h (.when (.when (.ite (.trip (.ite h.trip h)) (.ite h.trip h)) fun h => h.trip) fun h => h.trip)

theorem State.Wf.chainOpens {n on} (h : s.Wf) : (s.chainOpens n on).Wf := .ite h (.ite (.trip (.ite h.trip h)) (.ite h.trip h))

theorem State.Wf.sinChange {n i level} (h : s.Wf) : (s.sinChange n i level).Wf :=
  .ite h (.sEval (.lEval (.when (.windowEval (.when (.setCarSafe (.ite h.setBit h)) fun h => h.zoneEdge)) fun h => h.chainOpens)))

theorem State.Wf.stopAbsent {n sla} (h : s.Wf) : (s.stopAbsent n sla).Wf :=
  .ite (.ite h.reach.setCarSafe.setSwitches h.setCarSafe) (.ite h.reach.setCarSafe.setSwitches (.ite h h.setCarSafe))

theorem State.Wf.kfbTimeout {n i} (h : s.Wf) : (s.kfbTimeout n i).Wf :=
  .ite h (.ite (.trip (.ite h.reach.trip h.reach)) (.ite h.reach.trip h.reach))
theorem State.Wf.brakeTimeout {n} (h : s.Wf) : (s.brakeTimeout n).Wf := .foldl h fun _ _ h => .ite h.reach.trip h.reach
theorem State.Wf.sfReset {n ses} (h : s.Wf) : (s.sfReset n ses).Wf := h.setCarSafe.setSwitches.eventOf
theorem State.Wf.slaReset {n} (h : s.Wf) : (s.slaReset n).Wf := .ite h.setCarSafe.setSwitches h
theorem State.Wf.sendHeartbeat (h : s.Wf) : s.sendHeartbeat.Wf := h.elsewhere.emit
theorem State.Wf.takeBeat {hb n} (h : s.Wf) : (s.takeBeat hb n).Wf := h.setCarSafe.windowEval.lEval.slaReset.setSwitches
theorem State.Wf.heartbeat {hb} (h : s.Wf) : (s.heartbeat hb).Wf := .ite h (.ite (.foldl h.elsewhere fun _ _ h => h.takeBeat) h)

theorem State.Wf.loadBlock {b} (h : s.Wf) : (s.loadBlock b).Wf := by
  unfold State.loadBlock
  split
  · exact h.setN.event.setAllSwitches
  · exact h.elsewhere.setN.setN.setN.event.setAllSwitches

theorem State.Wf.slaFault {cause} (h : s.Wf) : (s.slaFault cause).Wf := .ite h h.elsewhere.setN.event.release.setAllSwitches
theorem State.Wf.showOutputTest (h : s.Wf) : s.showOutputTest.Wf := h.elsewhere

theorem State.Wf.switchTest {n sw ok} (h : s.Wf) : (s.switchTest n sw ok).Wf :=
  .ite h (.ite h.setCarSafe.showOutputTest h.setCarSafe.showOutputTest.eventOf.releaseIfHealthy)

theorem State.Wf.inputDisagree {n i} (h : s.Wf) : (s.inputDisagree n i).Wf := h.setCarSafe.elsewhere.eventOf.releaseIfHealthy
theorem State.Wf.queueSelfTest (h : s.Wf) : s.queueSelfTest.Wf := .ite h h.elsewhere.setN
theorem State.Wf.safetyTestReq {v} (h : s.Wf) : (s.safetyTestReq v).Wf := .ite h.mirror h.queueSelfTest
theorem State.Wf.selfTestStart (h : s.Wf) : s.selfTestStart.Wf := h.elsewhere.setN

theorem State.Wf.selfTestEnd {st} (h : s.Wf) : (s.selfTestEnd st).Wf :=
  .ite h
    (.ite
      (.event (.free (.unless (.ite h.elsewhere.endTest.setN h.elsewhere.endTest.setN.setN) fun h => h.elsewhere)))
      (.event (.unless (.ite h.elsewhere.endTest.setN h.elsewhere.endTest.setN.setN) fun h => h.elsewhere)))

/-! ### The change log and the safety sessions -/

theorem State.Wf.setBytes {oid b} (h : s.Wf) : (s.setBytes oid b).Wf := by
  unfold State.setBytes
  split
  · exact h
  · exact .ite h.setBlob h.set

theorem State.Wf.loadBytes {oid b} (h : s.Wf) : (s.loadBytes oid b).Wf := by
  unfold State.loadBytes
  split
  · exact h
  · exact .ite h.setBytes h.setBytes

theorem State.Wf.logPut {e} (h : s.Wf) : (s.logPut e).Wf := by
  unfold State.logPut
  refine .ite ?_ ?_
  · refine .event ?_
    refine .setN ?_
    refine .setN ?_
    refine .elsewhere ?_
    refine .ite ?_ h
    split
    · exact h.setBlob
    · exact h
  · refine .setN ?_
    refine .setN ?_
    refine .elsewhere ?_
    refine .ite ?_ h
    split
    · exact h.setBlob
    · exact h

theorem State.Wf.logAdd {kind ses oid old new} (h : s.Wf) : (s.logAdd kind ses oid old new).Wf := .ite h h.logPut.mirror
theorem State.Wf.safetyUsed {ses} (h : s.Wf) : (s.safetyUsed ses).Wf := .ite h.elsewhere h
theorem State.Wf.setSesState {ses st} (h : s.Wf) : (s.setSesState ses st).Wf := .ite h.elsewhere.setN h.elsewhere
theorem State.Wf.storePw {pw salt} (h : s.Wf) : (s.storePw pw salt).Wf := h.elsewhere.setFlag.mirror
theorem State.Wf.startSafety {ses} (h : s.Wf) : (s.startSafety ses).Wf := h.elsewhere.setSesState.event
theorem State.Wf.wrongPw {f} (h : s.Wf) : (s.wrongPw f).Wf := .ite h.elsewhere.event.mirror.elsewhere.event h.elsewhere.event.mirror

theorem State.Wf.safetyOpen {ses pw salt} (h : s.Wf) : (s.safetyOpen ses pw salt).2.Wf := by
  unfold State.safetyOpen
  dsimp only
  split
  · exact h
  · split
    · exact h
    · split
      · split
        · exact h
        · split
          · exact h
          · exact h.storePw.logAdd.startSafety
      · split
        · exact h.startSafety
        · exact h.wrongPw

theorem State.Wf.discardPending {ses} (h : s.Wf) : (s.discardPending ses).Wf := .ite h h.elsewhere.setN.logAdd
theorem State.Wf.safetyEnd {ses} (h : s.Wf) : (s.safetyEnd ses).Wf := .ite h.discardPending.elsewhere.setSesState h
theorem State.Wf.safetyPw {ses pw salt} (h : s.Wf) : (s.safetyPw ses pw salt).Wf := h.storePw.logAdd
theorem State.Wf.holdParam {ses oid b} (h : s.Wf) : (s.holdParam ses oid b).Wf := h.elsewhere.setN.logAdd

theorem State.Wf.chargeTelegram {t0} (h : s.Wf) : (s.chargeTelegram t0).Wf := by
  unfold State.chargeTelegram
  dsimp only
  split
  · exact h.dropItems.readmit
  · exact h.dropItems

theorem State.Wf.applyParam {x} (h : s.Wf) : (s.applyParam x).Wf := by
  unfold State.applyParam
  split
  · exact .ite h.setBytes.setDst.setN.chargeTelegram h.setBytes
  · exact h.setBytes

theorem State.Wf.commit {ses} (h : s.Wf) : (s.commit ses).Wf :=
  .event (.logAdd (.loadBlock (.setN (.elsewhere (.foldl h.mirror.mirror fun _ _ h => h.applyParam)))))

theorem State.Wf.dstSend {t0} (h : s.Wf) : (s.dstSend t0).Wf := by
  unfold State.dstSend
  refine .ite h ?_
  refine .emit ?_
  refine .emit ?_
  refine .mirrorRegs ?_
  refine .setN ?_
  refine .setDst ?_
  split
  · exact h.reach
  · exact h

theorem State.Wf.dstTrip {t0} (h : s.Wf) : (s.dstTrip t0).Wf := .foldl h fun _ _ h => .ite h.trip h

theorem State.Wf.dstAccept {t0 b pair} (h : s.Wf) : (s.dstAccept t0 b pair).Wf :=
  .ite h (.ite h.setDst.setN.setBlob.setN.dstTrip h.setDst.setN.setBlob.setN)

theorem State.Wf.dstTake {t0 c b} (h : s.Wf) : (s.dstTake t0 c b).Wf := by
  unfold State.dstTake
  dsimp only
  split
  · exact .fork (.setDst (.ite h.setDst.setDst.dstTrip h.setDst)) (fun h => h.dstAccept) fun h => h.setN.eventOf.dstTrip
  · exact .setDst (.ite h.setDst.setDst.dstTrip h.setDst)

theorem State.Wf.dstCopy {t0 c b} (h : s.Wf) : (s.dstCopy t0 c b).Wf := .ite h (.ite h.dstTake h.count)

theorem State.Wf.dstWaited {t0} (h : s.Wf) : (s.dstWaited t0).Wf := by
  unfold State.dstWaited
  refine .foldl ?_ ?_
  · refine .setDst ?_
    split
    · exact h.reach
    · exact h
  · intro _ _ h
    exact h.setDst.dstAccept

/-! ### Power and clock domains -/

theorem State.Wf.domainOn {d} (h : s.Wf) : (s.domainOn d).Wf := .ite h (.ite h.setBit h.setBit.reach.setBit.blocksOn)
theorem State.Wf.setFeed {f x mv} (h : s.Wf) : (s.setFeed f x mv).Wf := .ite h.elsewhere.setN h.elsewhere.setN

theorem State.Wf.feedPresent {f mv} (h : s.Wf) : (s.feedPresent f mv).Wf :=
  .ite h.setFeed (.ite h.setFeed.event.elsewhere.assertSource h.setFeed.event)

theorem State.Wf.autumnStart (h : s.Wf) : s.autumnStart.Wf :=
  .setAllSwitches (.setN (.setN (.setN (.setN (.elsewhere (.eventAon (.ite h.elsewhere.release h.elsewhere)))))))

theorem State.Wf.autumnSave (h : s.Wf) : s.autumnSave.Wf := .setN (.setN (.setN (.save (.ite h.reach h.reach.energyStop))))

theorem State.Wf.autumnEnd (h : s.Wf) : s.autumnEnd.Wf :=
  .fork (.setAllSwitches (.setN (.setN (.ite h.elsewhere h)))) (fun h => h.elsewhere.assertSource) fun h => h.elsewhere

theorem State.Wf.coresOn {g} (h : s.Wf) : (s.coresOn g).Wf := .domainOn (.setN (.elsewhere (.foldl h fun _ _ h => h.elsewhere)))
theorem State.Wf.heatWait {g} (h : s.Wf) : (s.heatWait g).Wf := h.elsewhere.event
theorem State.Wf.bootBank (h : s.Wf) : s.bootBank.Wf := .ite h.setN (.ite h.inMem.setN.event h.elsewhere.event.reportHealth)
theorem State.Wf.springDone {step} (h : s.Wf) : (s.springDone step).Wf := h.elsewhere.setN

theorem State.Wf.springDomain {step d} (h : s.Wf) : (s.springDomain step d).Wf := by
  unfold State.springDomain
  refine .ite (.springDone (.ite h.elsewhere h)) ?_
  refine .ite h ?_
  refine .springDone ?_
  split
  · refine .setN ?_
    refine .domainOn ?_
    split
    · exact h.reach.elsewhere
    · exact h
  · refine .elsewhere ?_
    refine .domainOn ?_
    split
    · exact h.reach.elsewhere
    · exact h
  · refine .bootBank ?_
    refine .domainOn ?_
    split
    · exact h.reach.elsewhere
    · exact h
  · refine .elsewhere ?_
    refine .domainOn ?_
    split
    · exact h.reach.elsewhere
    · exact h
  · refine .domainOn ?_
    split
    · exact h.reach.elsewhere
    · exact h

theorem State.Wf.springCores (h : s.Wf) : s.springCores.Wf :=
  .ite (.ite h.heatWait.springDone h.heatWait.elsewhere) (.ite h (.ite h.coresOn.springDone h.coresOn.elsewhere))

theorem State.Wf.springIslands (h : s.Wf) : s.springIslands.Wf := by
  unfold State.springIslands
  dsimp only
  split
  · exact .springDone (.ite h h.energyRestart.domainOn)
  · exact .ite (.ite h h.energyRestart.domainOn)
      (.islandStart (.setBit (.elsewhere (.unless (.ite h h.energyRestart.domainOn) fun h => h.reach))))

theorem State.Wf.springDoors (h : s.Wf) : s.springDoors.Wf := by
  unfold State.springDoors
  refine .ite h.domainOn ?_
  split
  · exact h.domainOn.elsewhere.springDone
  · exact .ite h.domainOn (.ite h.domainOn.elsewhere.setBit.handshake h.domainOn.elsewhere.setBit)

theorem State.Wf.springTwin (h : s.Wf) : s.springTwin.Wf := .ite h.springDone h.springDomain

theorem State.Wf.springStep (h : s.Wf) : s.springStep.Wf := by
  unfold State.springStep
  dsimp only
  refine .ite h ?_
  split
  · exact h.reach.elsewhere.springDone
  · exact h.reach.springDomain
  · exact h.reach.springDomain
  · exact h.reach.springDomain
  · exact .ite h.reach.coresOn.springDone h.reach
  · exact h.reach.springCores
  · exact h.reach.springDomain
  · exact h.reach.springDomain
  · exact h.reach.springDomain
  · exact h.reach.springDomain
  · exact h.reach.springTwin
  · exact .ite h.reach.springDone h.reach
  · exact h.reach.springIslands
  · exact h.reach.springDoors
  · exact h.reach

theorem State.Wf.keepAwake (h : s.Wf) : s.keepAwake.Wf := .foldl h fun _ _ h => .ite h.elsewhere.setN h
theorem State.Wf.loopsRestart (h : s.Wf) : s.loopsRestart.Wf := .foldl h fun _ _ h => h.openLoop

theorem State.Wf.clockGone {d cause} (h : s.Wf) : (s.clockGone d cause).Wf :=
  .when (.when (.foldl h.setBit.eventAon fun _ _ h => .ite h.blockAssert h) fun h => h.slaFault) fun h => h.loopsRestart

theorem State.Wf.clockLost {d cause} (h : s.Wf) : (s.clockLost d cause).Wf := h.clockGone.releaseIfHealthy.setAllSwitches
theorem State.Wf.tcxoLost (h : s.Wf) : s.tcxoLost.Wf := .setAllSwitches (.foldl h.elsewhere fun _ _ h => .ite h.clockGone h)
theorem State.Wf.clockBack {d} (h : s.Wf) : (s.clockBack d).Wf := .foldl h.setBit.eventAon fun _ _ h => .ite h.blockRelease h
theorem State.Wf.thermalFault (h : s.Wf) : s.thermalFault.Wf := .ite h h.free.elsewhere.event

theorem State.Wf.dieTemp {t0} (h : s.Wf) : (s.dieTemp t0).Wf :=
  .ite
    (.elsewhere (.ite h.set.elsewhere.shrink (.ite h.set.elsewhere.grow h.set.elsewhere)))
    (.unless (.ite h.set.elsewhere.shrink (.ite h.set.elsewhere.grow h.set.elsewhere)) fun h => h.thermalFault.releaseIfHealthy)

/-! ### Memory, firmware and configuration sets -/

theorem State.Wf.invalidate {p} (h : s.Wf) : (s.invalidate p).Wf := .ite h h.setInvalid
theorem State.Wf.anyOf {α : Type} {l : List α} (h : s.Wf) : (s.anyOf l).2.Wf := h.free
theorem State.Wf.containHot {p} (h : s.Wf) : (s.containHot p).Wf := .ite h.invalidate h.restorePoint

theorem State.Wf.containLoop (h : s.Wf) : s.containLoop.Wf := by
  unfold State.containLoop
  dsimp only
  split
  · exact h.anyOf
  · exact .ite h.anyOf.missDeadline (.ite h.anyOf.tripLoop h.anyOf)

theorem State.Wf.containSlow {j} (h : s.Wf) : (s.containSlow j).Wf := .ite h.tripLoop h

theorem State.Wf.containLaunch (h : s.Wf) : s.containLaunch.Wf := by
  unfold State.containLaunch
  dsimp only
  split
  · exact h.anyOf
  · exact h.anyOf.mapLaunch.event

theorem State.Wf.containCan (h : s.Wf) : s.containCan.Wf := by
  unfold State.containCan
  dsimp only
  split
  · exact h.anyOf
  · exact h.anyOf.entryFails

theorem State.Wf.containRecord (h : s.Wf) : s.containRecord.Wf := by
  unfold State.containRecord
  dsimp only
  split
  · exact h.anyOf
  · exact h.anyOf.elsewhere.count

theorem State.Wf.containRequest (h : s.Wf) : s.containRequest.Wf := by
  unfold State.containRequest
  dsimp only
  split
  · exact h.anyOf.elsewhere.answer
  · exact h.anyOf

theorem State.Wf.containArray {p} (h : s.Wf) : (s.containArray p).Wf :=
  .ite (.setInvalid (.refreshPv (.setN (.foldl h.setPtAux fun _ _ h => h.set)))) h

theorem State.Wf.containSave (h : s.Wf) : s.containSave.Wf := by
  unfold State.containSave
  dsimp only
  split
  · exact h.anyOf
  · exact h.anyOf.elsewhere

theorem State.Wf.containKept (h : s.Wf) : s.containKept.Wf := by
  unfold State.containKept
  dsimp only
  split
  · exact h.anyOf
  · exact h.anyOf.inMem

theorem State.Wf.contain {r addr} (h : s.Wf) : (s.contain r addr).Wf := by
  have ⟨_, himage, hother, hslot, hactive⟩ := h
  refine .ite h.containHot <| .ite h.containSlow <| .ite h.containLoop <| .ite h.containLaunch <| .ite h.containCan <| .ite h.shadowFails <|
    .ite h.containRecord <| .ite h.inMem <| .ite h.containRequest <| .ite (h.invalidate.stores himage hother hslot hactive) <| .ite ?_ <|
    .ite h.inMem <| .ite (.ite h.inMem h.inMem) <| .ite h.inMem <| .ite h.containArray <| .ite h.containSave <|
    .ite h.inMem <| .ite h.elsewhere <| .ite h.containKept h
  dsimp only
  split
  · exact h.anyOf
  · exact h.anyOf.elsewhere

theorem State.Wf.memDse {r addr} (h : s.Wf) : (s.memDse r addr).Wf := h.contain.count.setBlob.elsewhere.event

theorem State.Wf.memCorrected {m addr} (h : s.Wf) : (s.memCorrected m addr).Wf := by
  unfold State.memCorrected
  dsimp only
  split
  · exact .ite h.inMem.count.event h.inMem.count
  · exact h.inMem.count

theorem State.Wf.scrubWord {m words w} (h : s.Wf) : (s.scrubWord m words w).Wf := by
  unfold State.scrubWord
  split
  · exact h
  · exact h.memCorrected
  · split
    · exact h
    · exact .ite h.critical h.memDse

theorem State.Wf.forTarget {twin} (h : s.Wf) : (s.forTarget twin).Wf := by
  have ⟨_, himage, hother, hslot, hactive⟩ := h
  refine .ite h (.setN (h.stores ?_ ?_ ?_ ?_))
  · exact hother
  · exact himage
  · exact hslot
  · exact hactive

theorem State.Wf.fwLoad {twin v} (h : s.Wf) : (s.fwLoad twin v).Wf := by
  have ⟨_, himage, hother, hslot, hactive⟩ := h.forTarget (twin := twin)
  refine .setN (h.forTarget.stores ?_ ?_ ?_ ?_)
  · exact Memory.wf_writeAt himage _ _
  · exact hother
  · exact hslot
  · exact hactive

theorem State.Wf.fwVerify {twin} (h : s.Wf) : (s.fwVerify twin).Wf := h.forTarget.inMem.setN

theorem State.Wf.fwVerified (h : s.Wf) : s.fwVerified.Wf := by
  unfold State.fwVerified
  split
  · exact h
  · split
    · exact h.inMem.setN.event
    · exact .ite h.inMem.setN h.inMem.inMem.setBlob.setN

theorem State.Wf.verifyOther (h : s.Wf) : s.verifyOther.Wf := .ite h.fwVerified h.forTarget.fwVerified.forTarget
theorem State.Wf.fwSwitch (h : s.Wf) : s.fwSwitch.Wf := h.inMem.setN.assertSource

theorem State.Wf.fwWrite {oid v} (h : s.Wf) : (s.fwWrite oid v).Wf :=
  .ite
    (.ite h.forTarget.mirror.fwLoad (.ite h.forTarget.mirror.fwVerify h.forTarget.mirror.setN))
    (.ite h.forTarget.fwLoad (.ite h.forTarget.fwVerify h.forTarget.fwSwitch))

theorem State.Wf.fwFromTwin {oid v} (h : s.Wf) : (s.fwFromTwin oid v).Wf :=
  .forTarget (.ite h.forTarget.fwLoad (.ite h.forTarget.fwVerify (.ite h.forTarget.fwSwitch h.forTarget)))

theorem State.Wf.fwStarted (h : s.Wf) : s.fwStarted.Wf := .ite h h.inMem.setN

theorem State.Wf.cfgLoad {v} (h : s.Wf) : (s.cfgLoad v).Wf := by
  have ⟨_, himage, hother, hslot, hactive⟩ := h
  refine .setN (h.stores ?_ ?_ ?_ ?_)
  · exact himage
  · exact hother
  · exact Memory.wf_writeAt hslot _ _
  · exact hactive

theorem State.Wf.cfgVerify (h : s.Wf) : s.cfgVerify.Wf := by
  unfold State.cfgVerify
  split
  · exact h.setN.event
  · exact h.setN

theorem State.Wf.applySet {b} (h : s.Wf) : (s.applySet b).Wf := .foldl h.pickObjs.pickBlobs fun _ _ h => .ite h.loadBytes h

theorem State.Wf.cfgActivate {ses} (h : s.Wf) : (s.cfgActivate ses).Wf := by
  have ⟨_, himage, hother, hslot, hactive⟩ := h.applySet (b := s.mem.slot)
  refine .event (.logAdd (.loadBlock (.setN (.setBlob (.setN (.setN (.stores h.applySet ?_ ?_ ?_ ?_)))))))
  · exact himage
  · exact hother
  · exact hactive
  · exact hslot

theorem State.Wf.replay {e} (h : s.Wf) : (s.replay e).Wf := by
  unfold State.replay
  split
  · exact .foldl h fun _ _ h => h.setBytes
  · exact h.setBytes

theorem State.Wf.configAtStart (h : s.Wf) : s.configAtStart.Wf := by
  unfold State.configAtStart
  extract_lets s1
  have h1 : s1.Wf := .ite h.elsewhere h
  split
  · exact h1
  · exact .inMem (.foldl h1.applySet fun _ _ h => h.replay)

theorem State.Wf.opcCert {k q b} (h : s.Wf) : (s.opcCert k q b).Wf :=
  .ite h.setBlob.setN (.ite h.setBlob.setN (.ite h.setBlob.setN h.setBlob.setN.event))

/-! ### Point configuration -/

theorem State.Wf.rechargePoint {p} (h : s.Wf) : (s.rechargePoint p).Wf :=
  .ite (.foldl h.dropItems.ptStatusBit fun _ _ h => h.addItem) h.dropItems.ptStatusBit

theorem State.Wf.ptEnableApply {p v} (h : s.Wf) : (s.ptEnableApply p v).Wf := .ite h h.setFlag.rechargePoint.elsewhere.setPtAux

theorem State.Wf.ptBindApply {p sink d} (h : s.Wf) : (s.ptBindApply p sink d).Wf :=
  .fork (.rechargePoint (.ite h.setBlob h.setBlob)) (fun h => h.setPtAux.setPtFault) fun h => h.setPtAux.setPtFault

theorem State.Wf.ptPvApply {p prio relinq v} (h : s.Wf) : (s.ptPvApply p prio relinq v).Wf := .ite h.clearSlot h.writePv
theorem State.Wf.ptDefaultApply {p v} (h : s.Wf) : (s.ptDefaultApply p v).Wf := .ite h.set.markDirty.refreshPv h.set.markDirty
theorem State.Wf.ptServiceApply {p v} (h : s.Wf) : (s.ptServiceApply p v).Wf := .ite h.set.ptStatusBit.changePv h.set.ptStatusBit
theorem State.Wf.readmitAll (h : s.Wf) : s.readmitAll.Wf := .foldl h.elsewhere fun _ _ h => h.readmit

/-! ### Host sessions -/

theorem State.Wf.setSes {n x} (h : s.Wf) : (s.setSes n x).Wf := h.elsewhere
theorem State.Wf.dropSes {n} (h : s.Wf) : (s.dropSes n).Wf := .emit (.when h.safetyEnd.dropItems.elsewhere fun h => h.setN)
theorem State.Wf.closeSes {n cause} (h : s.Wf) : (s.closeSes n cause).Wf := .ite h (.ite h.dropSes h.dropSes.event)
theorem State.Wf.recheckSessions (h : s.Wf) : s.recheckSessions.Wf := .foldl h fun _ _ h => .ite h h.closeSes
theorem State.Wf.closeAll {cause} (h : s.Wf) : (s.closeAll cause).Wf := .foldl h fun _ _ h => .ite h.closeSes h

/-! ### Steps of the time base -/

theorem State.Wf.commitLaunch {l} (h : s.Wf) : (s.commitLaunch l).Wf := by
  unfold State.commitLaunch
  split
  · exact h.endLaunch.event.mirror
  · exact h.mapLaunch

theorem State.Wf.emitPast {l} (h : s.Wf) : (s.emitPast l).Wf :=
  .ite (.mirror (.endLaunch (.elsewhere (.ite h.commitLaunch h)))) (.ite h.commitLaunch h)

theorem State.Wf.stepTime {t0} (h : s.Wf) : (s.stepTime t0).Wf :=
  .event (.when h.flagIntervals.closeInterval.elsewhere.setN fun h => .foldl h fun _ _ h => h.emitPast)

theorem State.Wf.stepBoth {t0} (h : s.Wf) : (s.stepBoth t0).Wf := h.stepTime.mirror

theorem State.Wf.selectGm {p id} (h : s.Wf) : (s.selectGm p id).Wf :=
  .ite h.elsewhere.setBlob.event
    (.ite h.elsewhere.setBlob.event.stepTime.setStatus (.ite h.elsewhere.setBlob.event h.elsewhere.setBlob.event.setStatus))

theorem State.Wf.reselect (h : s.Wf) : s.reselect.Wf := by
  unfold State.reselect
  split
  · exact h
  · exact .ite (.ite h h.becomeMaster) (.ite h h.selectGm)

theorem State.Wf.announce {p m} (h : s.Wf) : (s.announce p m).Wf := .ite h h.elsewhere.reselect
theorem State.Wf.timeFault {o} (h : s.Wf) : (s.timeFault o).Wf := h.event.elsewhere.setStatus.event

theorem State.Wf.followSync {p o} (h : s.Wf) : (s.followSync p o).Wf :=
  .ite h.showOffset.elsewhere
    (.ite h.showOffset.elsewhere.timeFault (.when h.showOffset.elsewhere.elsewhere.slew fun h => h.setStatus.event))

theorem State.Wf.sync {p o valid} (h : s.Wf) : (s.sync p o valid).Wf :=
  .ite h (.ite h.elsewhere (.ite h.elsewhere.elsewhere h.elsewhere.followSync))

theorem State.Wf.changePort {q} (h : s.Wf) : (s.changePort q).Wf :=
  .ite (.ite h.elsewhere.event h.elsewhere.event.setBlob.event)
    (.unless (.ite h.elsewhere.event h.elsewhere.event.setBlob.event) fun h => h.elsewhere.setStatus)

theorem State.Wf.holdover (h : s.Wf) : s.holdover.Wf := .ite h.elsewhere.setStatus.event h

theorem State.Wf.announceTimeout {p} (h : s.Wf) : (s.announceTimeout p).Wf :=
  .ite h (.ite h.changePort (.ite h (.when (.ite (.ite h.elsewhere h) (.holdover (.ite h.elsewhere h))) fun h => h.becomeMaster)))

theorem State.Wf.ptpLinkLost (h : s.Wf) : s.ptpLinkLost.Wf := .ite h.changePort h

theorem State.Wf.roleChanged (h : s.Wf) : s.roleChanged.Wf :=
  .reselect (.ite (.ite h.elsewhere h) (.ite (.changePort (.ite h.elsewhere h)) (.elsewhere (.ite h.elsewhere h))))

theorem State.Wf.instanceChanged (h : s.Wf) : s.instanceChanged.Wf := h.elsewhere
theorem State.Wf.sendPtp {ports kind seq body} (h : s.Wf) : (s.sendPtp ports kind seq body).Wf := .foldl h fun _ _ h => h.emit
theorem State.Wf.stepReq (h : s.Wf) : s.stepReq.Wf := h.elsewhere.stepBoth.setStatus
theorem State.Wf.timeSet {t0} (h : s.Wf) : (s.timeSet t0).Wf := .when h.setN.stepBoth.setStatus.event fun h => h.becomeMaster

/-! ### The effects of writes -/

theorem State.Wf.keep {r oid d} (h : s.Wf) : (s.keep r oid d).Wf := .ite h h.setBytes

theorem State.Wf.stateReq {v} (h : s.Wf) : (s.stateReq v).Wf :=
  .ite (.enter (.foldl h.setN fun _ _ h => .ite h.setCarState h)) (.ite h.setN.enter h.setN)

theorem State.Wf.planStart (h : s.Wf) : s.planStart.Wf := h.elsewhere

theorem State.Wf.apply00 {r oid ix v d} (h : s.Wf) : (s.apply00 r oid ix v d).Wf := by
  unfold State.apply00
  split
  · exact h.stateReq
  · exact h.planStart
  · exact h.resetReq
  · exact h.blockRst.ptpLinkLost
  · exact h.keep.forTarget
  · exact h.fwWrite
  · exact h.fwWrite
  · exact h.fwWrite
  · exact h.cfgLoad
  · exact h.cfgVerify
  · exact h.keep.keepAwake
  · exact h.opcCert
  · exact h.keep

theorem State.Wf.mapChanged {entry ses} (h : s.Wf) : (s.mapChanged entry ses).Wf := by
  unfold State.mapChanged
  refine .recheckSessions ?_
  split
  · exact h.event
  · exact h

theorem State.Wf.apply01 {q r oid ix v d ph} (h : s.Wf) : (s.apply01 q r oid ix v d ph).Wf := by
  unfold State.apply01
  split
  · exact h.keep.mapChanged
  · exact h.keep.mapChanged
  · exact h.keep.mapChanged
  · exact h.keep.mapChanged
  · exact h.keep.mapChanged
  · exact h.keep.mapChanged
  · exact h.keep.mapChanged
  · exact h.keep.mapChanged
  · exact h.keep.mapChanged
  · exact h.closeSes
  · exact h.canModeApply
  · exact h.keep.shrink.grow
  · exact h.busOffReq
  · exact h.entDescApply
  · exact h.setBit
  · exact h.rxbAck
  · refine .ite h.txbRequest ?_
    split
    · exact h.txbCancel
    · exact h.free.txbCancel
  · exact h.keep

theorem State.Wf.acceptLaunch {part b} (h : s.Wf) : (s.acceptLaunch part b).Wf := .ite h h.elsewhere.addItem.mirror

theorem State.Wf.cancelLaunch {part tag} (h : s.Wf) : (s.cancelLaunch part tag).Wf := by
  unfold State.cancelLaunch
  split
  · exact h
  · exact .ite h.endLaunch.mirror h

theorem State.Wf.apply08 {q r oid v d} (h : s.Wf) : (s.apply08 q r oid v d).Wf := by
  unfold State.apply08
  split
  · exact h.timeSet
  · exact h.stepReq
  · exact h.keep.roleChanged
  · exact h.keep.instanceChanged
  · exact h.keep.instanceChanged
  · exact .foldl h fun _ _ h => h.acceptLaunch
  · exact h.cancelLaunch
  · exact h.keep

theorem State.Wf.puFollow (h : s.Wf) : s.puFollow.Wf := .ite h.elsewhere h
theorem State.Wf.islandFollows {i} (h : s.Wf) : (s.islandFollows i).Wf := .ite h (.ite h.setBit.islandStart h.islandStop.setBit)
theorem State.Wf.twinFollows (h : s.Wf) : s.twinFollows.Wf := .ite h (.ite (.ite h.setBit.setBit h) h.domainOn)
theorem State.Wf.doorFollows {old k} (h : s.Wf) : (State.doorFollows old s k).Wf := .ite h h.setFlag.doorEnableApply

theorem State.Wf.setTaken {old} (h : s.Wf) : (State.setTaken old s).Wf := by
  unfold State.setTaken
  extract_lets s1 s2 s3 s4 s5 s6
  have h3 : s3.Wf := .foldl (.foldl h.puFollow.twinFollows fun _ _ h => h.islandFollows) fun _ _ h => h.doorFollows
  have h4 : s4.Wf := .foldl h3 fun _ _ h => .ite h h.canTakeMode
  have h5 : s5.Wf := .ite h4 h4.roleChanged
  have h6 : s6.Wf := .ite h5 h5.instanceChanged
  exact h6.forTarget.keepAwake.readmitAll.recheckSessions

theorem State.Wf.apply10 {r oid ix v d} (h : s.Wf) : (s.apply10 r oid ix v d).Wf := by
  unfold State.apply10
  refine .ite ?_ ?_
  · refine .puFollow ?_
    split
    · exact h.keep.encRescaled
    · exact h.keep.encRescaled
    · exact h.keep.encRescaled
    · exact h.posAck
    · exact h.refLanding
    · exact h.learnApply
    · exact h.keep.rearm
    · exact h.keep.rearm
    · exact .ite h.armCompare h.disarmCompare
    · exact h.carCmd
    · exact h.faultAck
    · exact h.keep
  · split
    · exact h.keep.encRescaled
    · exact h.keep.encRescaled
    · exact h.keep.encRescaled
    · exact h.posAck
    · exact h.refLanding
    · exact h.learnApply
    · exact h.keep.rearm
    · exact h.keep.rearm
    · exact .ite h.armCompare h.disarmCompare
    · exact h.carCmd
    · exact h.faultAck
    · exact h.keep

theorem State.Wf.apply20 {r oid ix v d} (h : s.Wf) : (s.apply20 r oid ix v d).Wf := by
  unfold State.apply20
  dsimp only
  split
  · exact h.doorEnableApply
  · split
    · exact .ite h.elsewhere h.mirror
    · exact h
  · exact h.dlAck
  · exact h.handshake
  · exact h.keep

theorem State.Wf.apply40 {q r e ix v d} (h : s.Wf) : (s.apply40 q r e ix v d).Wf := by
  unfold State.apply40
  split
  · exact h.loopEnableApply
  · exact h.elsewhere
  · exact h.setN
  · exact h.groupApply
  · exact h.keep

theorem State.Wf.apply50 {q r oid ix v d} (h : s.Wf) : (s.apply50 q r oid ix v d).Wf := by
  unfold State.apply50
  split
  · exact h.keep.islandFollows
  · exact h.chCarApply
  · exact h.calReq
  · exact h.calAbort
  · exact h.regClear
  · exact h.keep.pulseConfig
  · exact h.keep.pulseConfig
  · exact h.intLenApply
  · exact h.setSes
  · exact h.energyAck
  · exact h.modelReset
  · exact h.keep

theorem State.Wf.apply60 {r oid ix v d} (h : s.Wf) : (s.apply60 r oid ix v d).Wf := by
  unfold State.apply60
  split
  · exact h.setOut
  · exact h.ackGroup
  · exact h.keep

theorem State.Wf.apply70 {q r oid ix v d salt} (h : s.Wf) : (s.apply70 q r oid ix v d salt).Wf := by
  unfold State.apply70
  dsimp only
  split
  · exact .ite (.ite (.ite h.safetyUsed h) (.commit (.ite h.safetyUsed h))) (.discardPending (.ite h.safetyUsed h))
  · split
    · exact .safetyPw (.ite h.safetyUsed h)
    · exact .safetyPw (.elsewhere (.free (.ite h.safetyUsed h)))
  · exact .ite (.ite h.safetyUsed h) (.setTaken (.cfgActivate (.ite h.safetyUsed h)))
  · exact .safetyTestReq (.ite h.safetyUsed h)
  · exact .sfReset (.ite h.safetyUsed h)
  · exact .setSes (.ite h.safetyUsed h)
  · exact .keep (.ite h.safetyUsed h)

theorem State.Wf.apply80 {r e p v d} (h : s.Wf) : (s.apply80 r e p v d).Wf := by
  unfold State.apply80
  split
  · exact h.ptPvApply
  · exact h.retype
  · exact h.ptEnableApply
  · exact h.keep.rechargePoint
  · exact h.ptBindApply
  · exact h.ptBindApply
  · exact h.ptDefaultApply
  · exact h.ptServiceApply
  · exact h.keep

theorem State.Wf.mended {oid} (h : s.Wf) : (s.mended oid).Wf := .ite h.inMem h

theorem State.Wf.applyObject {q e} (h : s.Wf) : (s.applyObject q e).Wf := by
  unfold State.applyObject
  dsimp only
  split
  · exact h.mended
  · split
    · exact h.mended
    · exact .ite h.mended.safetyUsed.holdParam
        (.ite h.mended.apply00
          (.ite h.mended.apply01
            (.ite h.mended.apply08
              (.ite h.mended.apply10
                (.ite h.mended.apply20
                  (.ite h.mended.apply40
                    (.ite h.mended.apply50
                      (.ite h.mended.apply60
                        (.ite h.mended.apply70
                          (.ite (.ite h.mended.setSes h.mended.keep) (.ite h.mended.apply80 (.ite h.mended.keep.twinFollows h.mended.keep))))))))))))

theorem State.Wf.applyEntry {q e} (h : s.Wf) : (s.applyEntry q e).Wf := by
  unfold State.applyEntry
  split
  · exact .foldl h fun _ _ h => h.applyObject
  · exact h.applyObject

/-! ### Host writes -/

theorem State.Wf.applyEntries {q l} (h : s.Wf) : (s.applyEntries q l).Wf := .foldl h fun _ _ h => h.applyEntry.elsewhere
theorem State.Wf.projected (h : s.Wf) : s.projected.Wf := .foldl h fun _ _ h => h.applyEntries
theorem State.Wf.slowAnswer {r} (h : s.Wf) : (s.slowAnswer r).Wf := h.elsewhere
theorem State.Wf.recordFinal {r st} (h : s.Wf) : (s.recordFinal r st).Wf := .ite h.recordCommitted h

theorem State.Wf.drawPhase {e} {x : List WEntry × State} (h : x.2.Wf) : (State.drawPhase x e).2.Wf := by
  unfold State.drawPhase
  split
  · exact h.free
  · exact h

theorem State.Wf.commitReq {r} (h : s.Wf) : (s.commitReq r).Wf := by
  have hdrawn : (r.entries.foldl State.drawPhase ([], s)).2.Wf := .foldl_snd h fun _ _ h => h.drawPhase
  unfold State.commitReq
  generalize r.entries.foldl State.drawPhase ([], s) = x at hdrawn
  obtain ⟨l, s1⟩ := x
  have hdrawn' : s1.Wf := hdrawn
  dsimp -zeta only
  extract_lets r' st t
  have ht : t.Wf := hdrawn'.applyEntries
  exact .ite ht.elsewhere (.ite ht.slowAnswer (.ite ht.recordFinal.answer (.ite hdrawn'.answer.applyEntries.recordFinal ht.recordFinal)))

theorem State.Wf.commitWaits {p} (h : s.Wf) : (s.commitWaits p).Wf := .foldl h.elsewhere fun _ _ h => h.commitReq

theorem State.Wf.enterRequest {r} (h : s.Wf) : (s.enterRequest r).Wf :=
  .ite h.elsewhere.commitReq
    (.ite (.elsewhere (.foldl h.elsewhere fun _ _ h => h.mirror))
      (.fork (.foldl h.elsewhere fun _ _ h => h.mirror) (fun h => h.elsewhere) fun h => h.commitReq))

theorem State.Wf.noteRequest {r x} (h : s.Wf) : (s.noteRequest r x).Wf := by
  unfold State.noteRequest
  dsimp only
  split
  · refine .foldl h fun _ _ h => ?_
    split
    · exact .ite h.doorEnableNote h
    · exact h
  · refine .ite ?_ ?_
    · refine .event ?_
      split
      · refine .noteRefusal ?_
        refine .foldl h fun _ _ h => ?_
        split
        · exact .ite h.doorEnableNote h
        · exact h
      · refine .foldl h fun _ _ h => ?_
        split
        · exact .ite h.doorEnableNote h
        · exact h
    · split
      · refine .noteRefusal ?_
        refine .foldl h fun _ _ h => ?_
        split
        · exact .ite h.doorEnableNote h
        · exact h
      · refine .foldl h fun _ _ h => ?_
        split
        · exact .ite h.doorEnableNote h
        · exact h

theorem State.Wf.hostWrite {r many} (h : s.Wf) : (s.hostWrite r many).Wf := by
  unfold State.hostWrite
  dsimp only
  refine .ite h.answer ?_
  split
  · exact h.noteRequest.answer
  · exact h.noteRequest.enterRequest

/-! ### Emitted actions -/

theorem State.Wf.journalFull (h : s.Wf) : s.journalFull.Wf := h.event

theorem State.Wf.emitOne {e o} (h : s.Wf) : (s.emitOne e o).Wf := by
  unfold State.emitOne
  dsimp only
  split
  · exact h.outResult
  · exact .ite h.applyEntries.outResult h.journalFull.outResult

theorem State.Wf.noteLate {e} (h : s.Wf) : (s.noteLate e).Wf := by
  unfold State.noteLate
  split
  · exact .ite h.event h
  · exact h

theorem State.Wf.emitAction {e} (h : s.Wf) : (s.emitAction e).Wf := by
  unfold State.emitAction
  dsimp only
  split
  · exact .foldl h.noteLate fun _ _ h => h.emitOne
  · exact h.noteLate.emitOne

theorem State.Wf.drainN {k} (h : s.Wf) : (State.drainN k s).Wf := by
  induction k generalizing s with
  | zero => exact h
  | succ k ih =>
    unfold State.drainN
    split
    · exact h
    · exact ih h.elsewhere.emitAction

theorem State.Wf.drain (h : s.Wf) : s.drain.Wf := .ite h h.drainN

/-! ### Reads -/

theorem State.Wf.readLow {r ix t b} (h : s.Wf) (ht : s.readLow r ix = some (t, b)) : t.Wf := by
  unfold State.readLow at ht
  dsimp only at ht
  split at ht
  · cases ht
    exact h.free
  all_goals
    cases ht
    try exact h

theorem State.readHigh_state {ses r t b} (ht : s.readHigh ses r = some (t, b)) : t = s := by
  unfold State.readHigh at ht
  split at ht <;> cases ht <;> rfl

theorem State.Wf.read {q oid} (h : s.Wf) : (s.read q oid).2.Wf := by
  unfold State.read
  split
  · exact h
  · split
    · exact h
    · split
      · exact h
      · split
        · exact h
        · split
          · exact h
          · dsimp only
            split
            · exact h
            · split
              · exact h
              · split
                · exact h
                · split
                  · next ht => exact h.readLow ht
                  · split
                    · next ht => exact State.readHigh_state ht ▸ h
                    · split
                      · exact h
                      · exact h

theorem State.Wf.readSmall {q oid} (h : s.Wf) : (s.readSmall q oid).2.Wf := by
  unfold State.readSmall
  split
  · exact h
  · split
    · split
      · exact h
      · exact h.read
    · exact h.read

/-! ### PDP -/

theorem State.Wf.tlsRefuse {port fpr code} (h : s.Wf) : (s.tlsRefuse port fpr code).Wf := h.event.emit

theorem State.Wf.tlsUp {port cert entry claim refused} (h : s.Wf) : (s.tlsUp port cert entry claim refused).Wf := by
  unfold State.tlsUp
  split
  · exact h
  · exact .ite h.setSes.setN h.setSes

theorem State.Wf.tls {port c} (h : s.Wf) : (s.tls port c).Wf := by
  unfold State.tls
  refine .ite h ?_
  refine .ite (.ite (.ite h.tlsUp h.tlsUp.event) h.tlsRefuse) ?_
  split
  · exact h.tlsRefuse
  · refine .ite h.tlsRefuse ?_
    refine .ite h.tlsRefuse ?_
    split
    · exact h.tlsRefuse
    · exact h.tlsUp

theorem State.Wf.resp {n op req st p} (h : s.Wf) : (s.resp n op req st p).Wf := h.emit
theorem State.Wf.takeOver {n port x} (h : s.Wf) : (s.takeOver n port x).Wf := h.elsewhere.dropItems.readmit
theorem State.Wf.sesOpen {n part} (h : s.Wf) : (s.sesOpen n part).Wf := .foldl h.setSes.setN.addItem.event fun _ _ h => h.takeOver

theorem State.Wf.serveOpen {n op req part} (h : s.Wf) : (s.serveOpen n op req part).Wf := by
  unfold State.serveOpen
  split
  · refine .dropSes ?_
    refine .resp ?_
    refine .event ?_
    split
    · exact h.noteRefusal
    · exact h
  · exact h.sesOpen.enterRequest

theorem State.Wf.readMany {q l} (h : s.Wf) : (s.readMany q l).2.Wf := by
  induction l generalizing s with
  | nil => exact h
  | cons o l ih => exact ih h.readSmall

theorem State.Wf.addSub {x} (h : s.Wf) : (s.addSub x).Wf := h.elsewhere.addItem.mirror

theorem State.Wf.subscribe {n op req l} (h : s.Wf) : (s.subscribe n op req l).Wf := by
  unfold State.subscribe
  split
  · refine .resp ?_
    split
    · exact h.noteRefusal
    · exact h
  · exact .enterRequest (.foldl h fun _ _ h => h.addSub)

theorem State.Wf.removeSub {h0} (h : s.Wf) : (s.removeSub h0).Wf := h.elsewhere.dropItems.mirror
theorem State.Wf.endSubs {fpr l} (h : s.Wf) : (s.endSubs fpr l).Wf := .event (.foldl h fun _ _ h => h.removeSub)

theorem State.Wf.unsubscribe {n op req l} (h : s.Wf) : (s.unsubscribe n op req l).Wf := by
  unfold State.unsubscribe
  refine .ite h.resp ?_
  refine .ite h.resp ?_
  split
  · exact h.resp
  · exact .enterRequest (.foldl h fun _ _ h => h.removeSub)

theorem State.Wf.notified {x sent} (h : s.Wf) : (s.notified x sent).Wf := h.elsewhere

theorem State.Wf.notify {h0} (h : s.Wf) : (s.notify h0).Wf := by
  unfold State.notify
  split
  · exact h
  · split
    · exact h
    · exact .ite h (.ite h (.ite (.emit (.notified (.ite h h.reach))) h.notified))

theorem State.Wf.heldProceed (h : s.Wf) : s.heldProceed.Wf := .ite h.elsewhere h.elsewhere.commitWaits
theorem State.Wf.unbatch {r} (h : s.Wf) : (s.unbatch r).Wf := h.elsewhere

theorem State.Wf.withdraw {n op req victim r} (h : s.Wf) : (s.withdraw n op req victim r).Wf := by
  unfold State.withdraw
  split
  · exact h.elsewhere.unbatch.resp
  · exact h.elsewhere.mirror.elsewhere

theorem State.Wf.abortPlan {n op req} (h : s.Wf) : (s.abortPlan n op req).Wf := .ite h.heldProceed.event.resp (.ite h.elsewhere.emit h.resp)

theorem State.Wf.abort {n op req victim} (h : s.Wf) : (s.abort n op req victim).Wf := by
  unfold State.abort
  dsimp only
  split
  · exact .ite h.resp h.withdraw
  · exact .ite h.abortPlan (.ite h.elsewhere.resp (.ite h.resp h.resp))

theorem State.Wf.serve {n op req what} (h : s.Wf) : (s.serve n op req what).Wf := by
  unfold State.serve
  dsimp only
  split
  · exact h.resp
  · exact h.resp.closeSes
  · exact h.resp
  · exact h.read.resp
  · exact h.hostWrite
  · exact .ite h.resp h.readMany.resp
  · exact .ite h.resp h.hostWrite
  · exact h.abort
  · split
    · exact h.resp
    · exact h.resp
  · exact h.subscribe
  · exact h.unsubscribe
  · split
    · exact h.safetyOpen.resp
    · exact h.safetyOpen.resp
  · exact h.safetyEnd.resp
  · exact h.resp

theorem State.Wf.request {n op req what} (h : s.Wf) : (s.request n op req what).Wf := by
  unfold State.request
  refine .ite h ?_
  refine .ite ?_ (.ite h.setSes.resp (.ite h.setSes.elsewhere h.setSes.serve))
  split
  · exact h.setSes.serveOpen
  · exact h.setSes.resp

theorem State.Wf.runLater {k} (h : s.Wf) : (State.runLater k s).Wf := by
  induction k generalizing s with
  | zero => exact h
  | succ k ih =>
    unfold State.runLater
    split
    · exact h
    · exact ih (.ite h.elsewhere.serve h.elsewhere)

theorem State.Wf.resume (h : s.Wf) : s.resume.Wf := h.runLater

theorem State.Wf.frame {n f salt} (h : s.Wf) : (s.frame n f salt).Wf := by
  unfold State.frame
  dsimp only
  refine .ite h ?_
  split
  · exact h.event.closeSes
  · exact h.request

/-! ### The rows of single objects -/

theorem State.Wf.hostRow {n req e} (h : s.Wf) : (s.hostRow n req e).Wf := h.start.request.drain

/-! ### The BACnet server -/

theorem State.Wf.bacResp {r e b} (h : s.Wf) : (s.bacResp r e b).Wf := h.emit
theorem State.Wf.bacStatus {r st b} (h : s.Wf) : (s.bacStatus r st b).Wf := h.bacResp

theorem State.Wf.bacRead {q l i} (h : s.Wf) : (s.bacRead q l i).2.Wf := by
  unfold State.bacRead
  split
  · exact h
  · split
    · exact h
    · split
      · exact h
      · exact h
      · exact h
      · exact h
      · split
        · exact h
        · split
          · exact h
          · exact h
      · exact h.read

theorem State.Wf.bacReadItem {q r i} (h : s.Wf) : (s.bacReadItem q r i).Wf := h.bacRead.bacStatus

theorem State.Wf.bacServe {r f} (h : s.Wf) (hf : ∀ s q, s.Wf → (f s q).Wf) : (s.bacServe r f).Wf := by
  unfold State.bacServe
  split
  · exact h
  · split
    · exact h
    · exact .ite (hf _ _ h) h.bacResp

theorem State.Wf.bacWrites {r q l} (h : s.Wf) : (s.bacWrites r q l).Wf := by
  induction l generalizing s with
  | nil => exact h
  | cons i l ih =>
    unfold State.bacWrites
    split
    · exact h.bacStatus
    · dsimp only
      split
      · exact h.hostWrite
      · split
        · exact h.hostWrite
        · exact ih h.hostWrite

theorem State.Wf.bacPut {r l} (h : s.Wf) : (s.bacPut r l).Wf := .bacServe h fun _ _ h => .ite h.bacWrites h.bacResp

theorem State.Wf.covSubscribe {r q p} (h : s.Wf) : (s.covSubscribe r q p).Wf := by
  unfold State.covSubscribe
  dsimp only
  refine .ite (.bacResp (.foldl h fun _ _ h => h.removeSub)) ?_
  split
  · refine .bacResp ?_
    split
    · exact h.noteRefusal
    · exact h
  · exact .bacResp (.addSub (.foldl h fun _ _ h => h.removeSub))

theorem State.Wf.discover {r f} (h : s.Wf) (hf : ∀ s d, s.Wf → (f s d).Wf) : (s.discover r f).Wf := .ite h (.foldl h hf)

theorem State.Wf.dcc {r} (h : s.Wf) : (s.dcc r).Wf := by
  unfold State.dcc
  refine .ite h ?_
  split
  · exact h
  · exact .ite h.bacResp h.elsewhere.bacResp

/-! ### SDO, sources and sinks -/

theorem State.Wf.sdoAnswer {index sub st abort d} (h : s.Wf) : (s.sdoAnswer index sub st abort d).Wf := h.setN.emit
theorem State.Wf.sdoWindow {v} (h : s.Wf) : (s.sdoWindow v).Wf := .ite h.sdoAnswer h.elsewhere.sdoAnswer

theorem State.Wf.sdoRead {index sub} (h : s.Wf) : (s.sdoRead index sub).Wf := by
  have hread := h.read (q := {}) (oid := s.sdoOid index sub)
  have hdef : State.sdoRead = State.sdoRead := rfl
  conv at hdef => rhs; delta State.sdoRead
  have happ := congrFun (congrFun (congrFun hdef s) index) sub
  rw [happ]
  extract_lets oid
  split
  next st v t heq =>
    rw [heq] at hread
    exact .ite hread.sdoAnswer (.ite hread.sdoAnswer hread.sdoAnswer)

theorem State.Wf.sdoWrite {index sub d} (h : s.Wf) : (s.sdoWrite index sub d).Wf :=
  .ite h.sdoAnswer (.ite h.sdoAnswer (.ite h.sdoAnswer h.hostWrite))

theorem State.Wf.sdo {r} (h : s.Wf) : (s.sdo r).Wf := by
  unfold State.sdo
  refine .ite h ?_
  refine .ite h.emit ?_
  refine .ite ?_ ?_
  · split
    · exact h.sdoAnswer
    · exact .ite h.sdoWindow h.sdoAnswer
  · refine .ite ?_ h.sdoAnswer
    split
    · exact h.sdoRead
    · exact h.sdoWrite

theorem State.Wf.keptWrite {oid} (h : s.Wf) : (s.keptWrite oid).Wf := by
  unfold State.keptWrite
  split
  · exact h
  · exact .ite h (.elsewhere (.ite h.reach h))

theorem State.Wf.toModbus {p f} (h : s.Wf) : (s.toModbus p f).1.Wf := by
  unfold State.toModbus
  dsimp only
  split
  · exact h
  · exact h.free

theorem State.Wf.modbusUse {b} (h : s.Wf) : (s.modbusUse b).Wf := .ite h.elsewhere h

theorem State.Wf.sourceValue {p v ok} (h : s.Wf) : (s.sourceValue p v ok).Wf := by
  unfold State.sourceValue
  split
  · exact .ite h.deliver.mirror h.deliver
  · exact h.deliverBad

theorem State.Wf.sourceDelivers {p v ok} (h : s.Wf) : (s.sourceDelivers p v ok).Wf := by
  unfold State.sourceDelivers
  split
  · exact .sourceValue (.ite h.reach h)
  · exact h.sourceValue

theorem State.Wf.sourcePoll {p} (h : s.Wf) : (s.sourcePoll p).Wf :=
  .ite h (.ite h.reach.setPtAux.sourceValue (.ite h h.reach.modbusUse.setPtAux.emit))

theorem State.Wf.renewCov (h : s.Wf) : s.renewCov.Wf := .foldl h fun _ _ h => .ite h.emit h
theorem State.Wf.takeDriveStatus {n v} (h : s.Wf) : (s.takeDriveStatus n v).Wf := .ite h.set.setCarSafe h.set

theorem State.Wf.internalSink {p oid} (h : s.Wf) : (s.internalSink p oid).Wf := by
  unfold State.internalSink
  dsimp only
  split
  · split
    · exact h.setPtFault
    · refine .ite h.takeDriveStatus.setPtFault ?_
      split
      · exact h.setPtFault
      · exact .ite h.applyEntries.setPtFault h.journalFull.setPtFault
  · exact h.setPtFault

theorem State.Wf.fieldSink {p x} (h : s.Wf) : (s.fieldSink p x).Wf := by
  unfold State.fieldSink
  split
  · split
    · exact h.setOut.setPtFault
    · exact h.setPtFault
  · exact h

theorem State.Wf.sinkWaits {p} (h : s.Wf) : (s.sinkWaits p).Wf := by
  unfold State.sinkWaits
  split
  · exact h.setPtAux
  · exact .ite h.setPtFault.setPtAux h

theorem State.Wf.deviceSink {p} (h : s.Wf) : (s.deviceSink p).Wf := by
  unfold State.deviceSink
  refine .ite ?_ h.sinkWaits.modbusUse.toModbus.emit
  split
  · exact h.sinkWaits.emit
  · exact h.sinkWaits

theorem State.Wf.sinkWrite {p} (h : s.Wf) : (s.sinkWrite p).Wf :=
  .ite h (.ite h.rebuilt.reach.setPtAux.internalSink (.ite h.rebuilt.reach.setPtAux.fieldSink h.rebuilt.reach.setPtAux.deviceSink))

theorem State.Wf.sinkFails {p} (h : s.Wf) : (s.sinkFails p).Wf := h.setPtAux.setPtFault

/-! ### The twin link -/

theorem State.Wf.twinAbsent (h : s.Wf) : s.twinAbsent.Wf := h.setN.setN.elsewhere
theorem State.Wf.answerAborts {p} (h : s.Wf) : (s.answerAborts p).Wf := .foldl h.elsewhere fun _ _ h => h.resp
theorem State.Wf.standbyGone (h : s.Wf) : s.standbyGone.Wf := h.commitWaits.answerAborts.releaseHeld.resume
theorem State.Wf.ifLost {was} (h : s.Wf) : (s.ifLost was).Wf := .ite h.standbyGone h
theorem State.Wf.twinGone (h : s.Wf) : s.twinGone.Wf := h.twinAbsent.ifLost
theorem State.Wf.pairFault {h0} (h : s.Wf) : (s.pairFault h0).Wf := .twinGone (.ite h h.elsewhere.event)
theorem State.Wf.versionFault {h0} (h : s.Wf) : (s.versionFault h0).Wf := .twinGone (.ite h h.elsewhere.event)
theorem State.Wf.notePosition {h0} (h : s.Wf) : (s.notePosition h0).Wf := .elsewhere (.ite h.event h)

theorem State.Wf.frameIn {hdr f} (h : s.Wf) (hf : ∀ s, s.Wf → (f s).Wf) : (s.frameIn hdr f).Wf :=
  .ite h (.ite h.pairFault (.ite h.versionFault (hf _ h.notePosition)))

theorem State.Wf.takeHealth {h0} (h : s.Wf) : (s.takeHealth h0).Wf := h.setN.setN.setN.setN.elsewhere.ifLost
theorem State.Wf.diverge {k i g} (h : s.Wf) : (s.diverge k i g).Wf := h.event.count.elsewhere.emit

theorem State.Wf.compareDigest {g d} (h : s.Wf) : (s.compareDigest g d).Wf := by
  unfold State.compareDigest
  refine .ite h.elsewhere ?_
  split
  · exact h.elsewhere.diverge
  · exact h.elsewhere

theorem State.Wf.nextTick (h : s.Wf) : s.nextTick.Wf := .ite h.cycles h
theorem State.Wf.closeBatch (h : s.Wf) : s.closeBatch.Wf := .ite h.nextTick (.ite h.nextTick.elsewhere.setN.emit h.nextTick.elsewhere.setN)

theorem State.Wf.takeConfirm {g} (h : s.Wf) : (s.takeConfirm g).Wf := by
  unfold State.takeConfirm
  dsimp only
  split
  · exact .when h.setN.elsewhere.commitWaits.answerAborts.releaseHeld.resume fun h => h.elsewhere.release
  · exact h.setN.elsewhere.commitWaits.answerAborts.releaseHeld.resume

theorem State.Wf.takeLockout {n v} (h : s.Wf) : (s.takeLockout n v).Wf := h.setCarSafe.setSwitches
theorem State.Wf.takeTripped {j c} (h : s.Wf) : (s.takeTripped j c).Wf := .ite h h.tripLoop
theorem State.Wf.takeCarState {n v} (h : s.Wf) : (s.takeCarState n v).Wf := .ite h.setN.tripBegin (.ite h.setN h.setN.elsewhere)

theorem State.Wf.takeValue {kind x} (h : s.Wf) : (s.takeValue kind x).Wf := by
  unfold State.takeValue
  dsimp only
  split
  · exact .ite h.pickObjs.elsewhere (.ite h.loadBlock (.ite h.takeLockout (.ite h.elsewhere h)))
  · exact .ite h.deliver
      (.ite (.ite h.armCompare h.disarmCompare)
        (.ite h.takeTripped (.ite h.takeCarState (.ite h.setOwed (.ite (.ite h.closeLoop h) h.set)))))

theorem State.Wf.takeBytes {x} (h : s.Wf) : (s.takeBytes x).Wf := by
  unfold State.takeBytes
  refine .ite h.logPut ?_
  refine .ite h.elsewhere ?_
  refine .ite h.takeCov ?_
  refine .ite h.wrongPw ?_
  split
  · exact h.setBlob
  · exact .ite h.applyParam (.ite h.groupApply (.ite h.setCar.setBlob h.setBytes))

theorem State.Wf.applyStaged {b} (h : s.Wf) : (s.applyStaged b).Wf := by
  unfold State.applyStaged
  split
  · exact h
  · exact .ite h (.ite h.setBytes h.applyEntries)

theorem State.Wf.applyStages {p} (h : s.Wf) : (s.applyStages p).Wf := .foldl h.elsewhere fun _ _ h => h.applyStaged

theorem State.Wf.takeOutcome {part tag refused} (h : s.Wf) : (s.takeOutcome part tag refused).Wf := by
  unfold State.takeOutcome
  split
  · exact h
  · refine .ite h ?_
    refine .ite h.endLaunch ?_
    refine .endLaunch ?_
    split
    · exact .foldl h fun _ _ h => h.applyEntries
    · exact h.applyEntries

theorem State.Wf.takeAdmit {kind num cls ch} (h : s.Wf) : (s.takeAdmit kind num cls ch).Wf := by
  unfold State.takeAdmit
  split
  · exact .ite h.setItem h
  · exact .ite h.addItem h

theorem State.Wf.takeDegrade {kind num b} (h : s.Wf) : (s.takeDegrade kind num b).Wf := .foldl h fun _ _ h => h.setItem.markDegraded

theorem State.Wf.stage {g b} (h : s.Wf) : (s.stage g b).Wf := by
  unfold State.stage
  split
  · exact .ite h.elsewhere h
  · exact h

theorem State.Wf.takeStep {t0 at'} (h : s.Wf) : (s.takeStep t0 at').Wf := h.stepTime
theorem State.Wf.takeWaits {ws} (h : s.Wf) : (s.takeWaits ws).Wf := .foldl h fun _ _ h => .ite h h.setCar

theorem State.Wf.takeEnergy {t0 nums} (h : s.Wf) : (s.takeEnergy t0 nums).Wf :=
  .foldl (.when (.foldl h fun _ _ h => h.takeValue) fun h => h.resumeRegs) fun _ _ h => h.resumePulse

theorem State.Wf.takeItem {g b} (h : s.Wf) : (s.takeItem g b).Wf := by
  unfold State.takeItem
  split
  · exact h.stage
  · exact h.takeStep
  · exact h.acceptLaunch
  · exact h.cancelLaunch
  · exact h.takeOutcome
  · exact h.takeAdmit
  · exact .ite h.dropItems h
  · exact h.takeDegrade
  · exact .ite h h.elsewhere.addItem
  · exact h.removeSub
  · exact h.elsewhere.takeWaits
  · exact h.takeEnergy
  · exact .foldl (.foldl h fun _ _ h => h.takeValue) fun _ _ h => h.takeBytes
  · exact h.compareDigest
  · exact h.recordCommitted
  · exact h.blockRst
  · exact h.elsewhere
  · exact h.fwFromTwin
  · exact h.elsewhere
  · exact h.elsewhere

theorem State.Wf.applyBatch {g items} (h : s.Wf) : (s.applyBatch g items).Wf :=
  .emit (.setN (.setN (.elsewhere (.foldl (.applyStages (.foldl h fun _ _ h => h.takeItem)) fun _ _ h => h.takeItem))))

theorem State.Wf.applyStored {k} (h : s.Wf) : (State.applyStored k s).Wf := by
  induction k generalizing s with
  | zero => exact h
  | succ k ih =>
    unfold State.applyStored
    dsimp only
    split
    · exact h
    · exact ih h.elsewhere.applyBatch

theorem State.Wf.batchInStep {g items} (h : s.Wf) : (s.batchInStep g items).Wf :=
  .ite h (.ite (.ite h.applyBatch.applyStored h.applyBatch.applyStored.elsewhere) h.elsewhere.emit)

/-! ### The time base -/

theorem State.Wf.twinTimed' {rtt t1} (h : s.Wf) : (s.twinTimed' rtt t1).Wf := .ite h.elsewhere.showOffset.slew h.elsewhere

/-! ### The twin link -/

theorem State.Wf.takeBatch {g sentAt items} (h : s.Wf) : (s.takeBatch g sentAt items).Wf :=
  .ite h (.ite h.twinTimed'.elsewhere.applyBatch (.ite h.twinTimed'.elsewhere (.ite h.twinTimed'.batchInStep h.twinTimed')))

theorem State.Wf.resync {cause} (h : s.Wf) : (s.resync cause).Wf := .emit (.event (.setN (.elsewhere (.ite h.stepTime h))))
theorem State.Wf.stream (h : s.Wf) : s.stream.Wf := h.elsewhere.emit.emit.emit.emit

theorem State.Wf.takeReg {x} (h : s.Wf) : (s.takeReg x).Wf := by
  unfold State.takeReg
  split
  · exact h
  · refine .ite h ?_
    refine .ite ?_ h.takeValue
    split
    · exact h.applyObject
    · exact h

theorem State.Wf.takeBlob {x} (h : s.Wf) : (s.takeBlob x).Wf := by
  unfold State.takeBlob
  split
  · exact h
  · exact .ite h (.ite h.applyObject h.takeBytes)

theorem State.Wf.clearUnlisted {nums blobs} (h : s.Wf) : (s.clearUnlisted nums blobs).Wf := by
  unfold State.clearUnlisted
  refine .foldl (.foldl h fun _ _ h => h.takeReg) fun _ _ h => ?_
  split
  · exact h.takeBlob
  · exact h

theorem State.Wf.takeSet {set hash} (h : s.Wf) : (s.takeSet set hash).Wf := by
  have ⟨_, himage, hother, _, hactive⟩ := h
  refine .ite h (.setBlob (.setN (.setN (h.stores ?_ ?_ ?_ ?_))))
  · exact himage
  · exact hother
  · exact hactive
  · exact Memory.wf_writeAt Memory.wf_nil _ _

theorem State.Wf.takeStreamed {g b} (h : s.Wf) : (s.takeStreamed g b).Wf := by
  unfold State.takeStreamed
  split
  · exact h.takeSet
  · exact .foldl (.foldl h.clearUnlisted fun _ _ h => h.takeReg) fun _ _ h => h.takeBlob
  · exact h.elsewhere
  · exact h.takeItem

theorem State.Wf.endPhase1 {g} (h : s.Wf) : (s.endPhase1 g).Wf :=
  .applyStored (.setN (.setN (.elsewhere (.foldl h.elsewhere.dropItems fun _ _ h => h.takeStreamed))))

theorem State.Wf.endPhase2 (h : s.Wf) : s.endPhase2.Wf := .event (.setN (.setN (.foldl h.elsewhere fun _ _ h => h.takeStreamed)))

theorem State.Wf.diagOutcome (h : s.Wf) : s.diagOutcome.Wf := by
  unfold State.diagOutcome
  split
  · exact .ite (.ite h.elsewhere.event.releaseIfHealthy h.elsewhere.event)
      (.ite h.elsewhere.event (.ite h.elsewhere.event.elsewhere h.elsewhere.event.resync))
  · exact h

theorem State.Wf.twinTime {rtt t1} (h : s.Wf) : (s.twinTime rtt t1).Wf := h.setN.twinTimed'

theorem State.Wf.lane {l up swapped inverted} (h : s.Wf) : (s.lane l up swapped inverted).Wf :=
  .ite (.ite h.setBit.setBit.setBit h.setBit)
    (.ifLost (.when (.fork (.event (.ite h.setBit.setBit.setBit h.setBit)) (fun h => h.acctUp) fun h => h.acctDown) fun h => h.elsewhere))

/-! ### Giving up and taking over control -/

theorem State.Wf.lapse (h : s.Wf) : s.lapse.Wf := .ite h.reach.release.setAllSwitches.elsewhere h.reach.release.setAllSwitches.doReset

theorem State.Wf.inFalls {recogNs rel} (h : s.Wf) : (s.inFalls recogNs rel).Wf :=
  .setAllSwitches (.ite h.setN.selfTestEnd.elsewhere.elsewhere h.setN.selfTestEnd.elsewhere)

theorem State.Wf.abandon (h : s.Wf) : s.abandon.Wf := h.elsewhere.event

theorem State.Wf.handedOver (h : s.Wf) : s.handedOver.Wf := by
  unfold State.handedOver
  refine .resume ?_
  refine .setStatus ?_
  refine .elsewhere ?_
  refine .elsewhere ?_
  refine .closeAll ?_
  refine .lineTestsStop ?_
  split
  · refine .resp ?_
    split
    · exact h.answer.recordCommitted
    · exact h
  · split
    · exact h.answer.recordCommitted
    · exact h

theorem State.Wf.yield (h : s.Wf) : s.yield.Wf := h.elsewhere.enter

theorem State.Wf.inRises {recogNs} (h : s.Wf) : (s.inRises recogNs).Wf :=
  .setAllSwitches
    (.endRelease (.when (.elsewhere (.when (.ite h.setN.elsewhere.abandon h.setN.elsewhere) fun h => h.yield)) fun h => h.handedOver))

theorem State.Wf.takeReading {f} (h : s.Wf) : (s.takeReading f).Wf :=
  .ite (.inFalls (.ite h.elsewhere h.elsewhere.event))
    (.fork (.ite h.elsewhere h.elsewhere.event) (fun h => h.inRises) fun h => h.setAllSwitches)

theorem State.Wf.commitStaged {b} (h : s.Wf) : (s.commitStaged b).Wf := by
  unfold State.commitStaged
  split
  · exact .ite (.recordCommitted (.ite h h.applyEntries)) (.ite h h.applyEntries)
  · exact h

theorem State.Wf.takeTime (h : s.Wf) : s.takeTime.Wf := .setStatus (.ite h.elsewhere.becomeMaster h.elsewhere)
theorem State.Wf.sourcesFresh (h : s.Wf) : s.sourcesFresh.Wf := .foldl h fun _ _ h => .ite h.setPtAux h
theorem State.Wf.startReadback {levels mask} (h : s.Wf) : (s.startReadback levels mask).Wf := h.elsewhere

theorem State.Wf.emitOverdue {gateAt} (h : s.Wf) : (s.emitOverdue gateAt).Wf :=
  .foldl (.foldl h fun _ _ h => h.emitPast) fun _ _ h => .foldl h.setPos fun _ _ h => .ite h h.elsewhere

theorem State.Wf.sendPass (h : s.Wf) : s.sendPass.Wf := by
  unfold State.sendPass
  refine .emitOverdue ?_
  refine .elsewhere ?_
  refine .event ?_
  refine .setN ?_
  refine .setN ?_
  split
  · exact h.setBlob.emit.event
  · exact h.setBlob.emit

theorem State.Wf.equinox {levels} (h : s.Wf) : (s.equinox levels).Wf :=
  .when
    (.setAllSwitches
      (.carsResume
        (.renewCov
          (.sourcesFresh
            (.spoilTrips (.startReadback (.foldl h.elsewhere.lineTestsStop.takeTime.enter.count.elsewhere fun _ _ h => h.commitStaged)))))))
    fun h => h.sendPass

theorem State.Wf.guardEnds {levels} (h : s.Wf) : (s.guardEnds levels).Wf := by
  unfold State.guardEnds
  split
  · exact h
  · exact .ite h.reach.abandon (.ite h.reach.equinox h.reach.elsewhere)

theorem State.Wf.checkWindow {k sense contact} (h : s.Wf) : (s.checkWindow k sense contact).Wf :=
  .ite
    (.setAllSwitches (.when (.elsewhere (.foldl h.elsewhere fun _ _ h => .ite h.openLatch h)) fun h => h.elsewhere))
    (.ite h.elsewhere.sendPass h.elsewhere)

theorem State.Wf.takePass {m} (h : s.Wf) : (s.takePass m).Wf := .emit (.setAllSwitches (.foldl h.setBlob fun _ _ h => .ite h.openLatch h))

theorem State.Wf.latchTimeout {b} (h : s.Wf) : (s.latchTimeout b).Wf :=
  .ite h (.ite h.reach.openLatch.setAllSwitches (.ite h h.reach.openLatch.setAllSwitches))

theorem State.Wf.revert {n req} (h : s.Wf) : (s.revert n req).Wf :=
  .setAllSwitches (.when h.elsewhere.enter.startReadback.elsewhere.event.resp.heldProceed.resume fun h => h.elsewhere)

/-! ### The module as a whole -/

theorem State.Wf.loopsAtStart (h : s.Wf) : s.loopsAtStart.Wf :=
  .foldl (.foldl h fun _ _ h => h.setLoop.set) fun _ _ h => .foldl h.elsewhere fun _ _ h => h.setN

theorem State.Wf.canAtStart (h : s.Wf) : s.canAtStart.Wf := .foldl h fun _ _ h => h.setCan.canTakeMode

theorem State.Wf.startUpAt {step} (h : s.Wf) : (s.startUpAt step).Wf := by
  unfold State.startUpAt
  split
  · exact h.reach.configAtStart
  · exact h.reach.loopsAtStart
  · exact .ite h.reach h.reach.loadBlock
  · exact h.reach.canAtStart
  · exact .foldl h.reach fun _ _ h => h.restorePoint
  · exact h

theorem State.Wf.prepare (h : s.Wf) : s.prepare.Wf := .ite h.reach.readmitAll.stepTime h.reach.readmitAll
theorem State.Wf.startComplete (h : s.Wf) : s.startComplete.Wf := h.elsewhere.event.fwStarted.freezeAtStart
theorem State.Wf.startStandby (h : s.Wf) : s.startStandby.Wf := h.elsewhere.enter.setStatus.resync.startComplete
theorem State.Wf.autoClose (h : s.Wf) : s.autoClose.Wf := h.elsewhere
theorem State.Wf.startActive (h : s.Wf) : s.startActive.Wf := h.elsewhere.setBlob.enter.setAllSwitches.carsReturn.startComplete.autoClose

theorem State.Wf.decideState (h : s.Wf) : s.decideState.Wf := by
  unfold State.decideState
  refine .ite h.startStandby ?_
  refine .ite h.elsewhere.reportHealth ?_
  refine .ite h.startActive ?_
  split
  · exact h.elsewhere
  · exact h.reach.startActive

theorem State.Wf.testBegin {k addMw} (h : s.Wf) : (s.testBegin k addMw).Wf := by
  unfold State.testBegin
  split
  · exact h.elsewhere.addItem.setIsland
  · exact h.elsewhere.addItem.lineTestStart
  · exact h.elsewhere.addItem.selfTestStart

theorem State.Wf.testCut {k} (h : s.Wf) : (s.testCut k).Wf := by
  unfold State.testCut
  dsimp only
  split
  · split
    · exact h.eventOf.setIsland.endTest
    · exact .ite h.eventOf.calStop h.eventOf.calStop.setIsland
  · exact h.lineTestCut.endTest
  · exact h.selfTestEnd.endTest

/-! ### Commands whose effect emits actions -/

theorem State.Wf.reachTime {t0} (h : s.Wf) : (s.reachTime t0).Wf := h.reach
theorem State.Wf.launchCommit {l} (h : s.Wf) : (s.launchCommit l).Wf := h.reachTime.commitLaunch
theorem State.Wf.emitLaunch {l} (h : s.Wf) : (s.emitLaunch l).Wf := .foldl h.elsewhere.endLaunch.mirror.drain fun _ _ h => h.copyEntry
theorem State.Wf.emitDue {l} (h : s.Wf) : (s.emitDue l).Wf := .ite (.emitLaunch (.ite h.commitLaunch h)) (.ite h.commitLaunch h)
theorem State.Wf.launchEmit {l} (h : s.Wf) : (s.launchEmit l).Wf := .emitDue (.foldl h.reachTime fun _ _ h => h.emitDue)
theorem State.Wf.tagRelease {l} (h : s.Wf) : (s.tagRelease l).Wf := h.reachTime.elsewhere

theorem State.Wf.mediumTick (h : s.Wf) : s.mediumTick.Wf :=
  .foldl
    (.mediumEnd (.foldl (.mediumLaws (.carsTick (.foldl h fun _ _ h => h.doorPre))) fun _ _ h => h.obstructTest)) fun _ _ h => h.doorPost

/-! ### The queue -/

theorem State.Wf.rest {l} (h : s.Wf) : (s.rest l).Wf := h.elsewhere

theorem State.Wf.withFetchWord {nbits w} (h : s.Wf) : (s.withFetchWord nbits w).Wf := by
  unfold State.withFetchWord
  split
  · exact h
  · exact h.elsewhere

end

/-- A command goes on to a state in canonical form. -/
inductive Answer.Wf : Answer → Prop
  | next {s : State} (h : s.Wf) : Answer.Wf (.next s)

/-- Every command keeps the canonical form: its meaning is made of operations that do. -/
theorem State.Wf.exec {s : State} (h : s.Wf) (c : Instr) : Answer.Wf (exec c s) := by
  cases c with
  | moduleStateReqService ses req => exact .next h.hostRow
  | moduleStateReqActive ses req => exact .next h.hostRow
  | handoverReq ses req => exact .next h.hostRow
  | handoverConfirmTimeout =>
    refine .next ?_
    split
    · exact h.start
    · refine .drain ?_
      refine .resume ?_
      refine .heldProceed ?_
      split
      · exact h.start.reach.answer
      · exact h.start.reach
  | stateDecision => exact .next (.ite h.start (.decideState (.ite h.start h.start.prepare)))
  | launchSubmit ses req data => exact .next h.hostRow
  | launchCancel ses req tag => exact .next h.hostRow
  | launchCommit part tag =>
    refine .next ?_
    split
    · exact .ite h.start.launchCommit h.start
    · exact h.start
  | launchEmit part tag =>
    refine .next ?_
    split
    · exact .ite h.start.launchEmit h.start
    · exact h.start
  | tagRelease part tag =>
    refine .next ?_
    split
    · exact .ite h.start h.start.tagRelease
    · exact h.start
  | testStart kind consMw addMw => exact .next (.ite (.ite h.start.elsewhere.testBegin h.start.elsewhere) h.start)
  | testStop kind consMw dieTemp => exact .next (.ite (.ite h.start.elsewhere.dieTemp.testCut h.start.elsewhere.dieTemp) h.start)
  | accountShrink acct => exact .next (.ite h.start (.ite (.ite h.start.acctDown.ptpLinkLost h.start.acctDown) h.start.shrink))
  | accountGrow acct => exact .next (.ite h.start (.ite h.start.acctUp h.start.grow))
  | activeOutRefresh => exact .next (.ite h.start (.ite h.start.reach.elsewhere.sendHeartbeat h.start.sendHeartbeat))
  | refreshLapse => exact .next (.ite h.start.lapse h.start)
  | activeInFall recogNs rel => exact .next (.ite h.start.elsewhere.inFalls h.start)
  | equinox levels => exact .next h.start.guardEnds.drain
  | activeInRise recogNs => exact .next (.ite h.start.elsewhere.inRises h.start)
  | readbackWindowEnd kind sense contact =>
    refine .next ?_
    split
    · exact .ite h.start.reach.checkWindow.drain h.start
    · exact h.start
  | passMap map => exact .next (.ite h.start.takePass h.start)
  | passAck map => exact .next (.ite h.start.elsewhere.setAllSwitches h.start)
  | latchTimeout bit => exact .next h.start.latchTimeout
  | abortHo => exact .next (.ite h.start.elsewhere.emit h.start)
  | abortAck =>
    refine .next ?_
    split
    · exact .ite h.start.revert.drain h.start
    · exact h.start
  | healthSend => exact .next (.ite h.start.sendHealth.elsewhere h.start)
  | health hdr h1 => exact .next (.drain (.frameIn h.start fun _ h => .ite h.takeHealth h))
  | healthTimeout => exact .next (.ite h.start.reach.twinGone.drain h.start)
  | batchSend => exact .next (.ite h.start.closeBatch h.start)
  | batch hdr b => exact .next (.drain (.frameIn h.start fun _ h => h.takeBatch))
  | confirm hdr gen => exact .next (.drain (.frameIn h.start fun _ h => .ite h.takeConfirm h))
  | nak hdr first count => exact .next (.frameIn h.start fun _ h => .ite (.foldl h fun _ _ h => h.emit) h)
  | mirrorTimeout => exact .next (.ite h.start.reach.resync h.start)
  | standbyLost => exact .next (.ite h.start.reach.event.elsewhere.standbyGone.drain h.start)
  | diverge hdr kind item gen => exact .next (.frameIn h.start fun _ h => .ite h.elsewhere h)
  | diagnosisEnd fail check => exact .next (.ite h.start.elsewhere.emit.diagOutcome h.start)
  | diag hdr fail check => exact .next (.frameIn h.start fun _ h => .ite h.elsewhere.diagOutcome h)
  | diagTimeout => exact .next (.ite h.start.reach.elsewhere.diagOutcome h.start)
  | resyncReq hdr fw => exact .next (.frameIn h.start fun _ h => .ite h.setN.stream h)
  | resyncData hdr region offset data => exact .next (.frameIn h.start fun _ h => .ite h.elsewhere h)
  | resyncEnd hdr phase g0 => exact .next (.drain (.frameIn h.start fun _ h => .ite h (.ite h.endPhase1 (.ite h.endPhase2 h))))
  | pulseTest bit conducts blocks =>
    exact .next
      (.ite
        (.showOutputTest
          (.ite
            (.ite h.start.reach.elsewhere h.start.reach.elsewhere.event)
            (.event (.ite h.start.reach.elsewhere h.start.reach.elsewhere.event)))) h.start)
  | twinTimeFrame hdr rttNs twinTime => exact .next (.frameIn h.start fun _ h => h.twinTime)
  | ilkLoopFault microAmps => exact .next (.ite h.start (.takeReading (.ite h.start.reach h.start)))
  | twLane lane up swapped inverted => exact .next (.ite h.start.lane.drain h.start)
  | feedValid f mv forUs => exact .next (.ite h.start.feedPresent h.start)
  | feedLost f mv forUs => exact .next (.ite h.start.setFeed.event h.start)
  | feedOvervolt f mv forUs => exact .next (.ite h.start.setFeed.event h.start)
  | feedReconnect f mv forUs => exact .next (.ite (.ite h.start.setFeed.feedPresent h.start.setFeed) h.start)
  | supplyFail mvA mvB forUs => exact .next (.ite h.start.setN.setN.autumnStart h.start)
  | autumnDone durUs =>
    refine .next ?_
    refine .ite ?_ h.start
    refine .autumnEnd ?_
    refine .eventAon ?_
    refine .flushRecords ?_
    refine .setN ?_
    split
    · exact h.start.autumnSave.elsewhere
    · exact h.start.autumnSave
  | autumnIncomplete words => exact .next (.ite h.start.autumnSave.elsewhere.losePending.autumnEnd h.start)
  | bankMeasure mv capUf => exact .next (.ite (.ite h.start.setN.setN.setFlag.elsewhere.event h.start.setN.setN.setFlag.elsewhere) h.start)
  | springStep => exact .next (.ite h.start.springStep h.start.springStep.startUpAt)
  | coreGroupRetry =>
    refine .next ?_
    split
    · exact h.start
    · exact .ite h.start (.ite h.start.reach.heatWait (.ite h.start.reach h.start.reach.elsewhere.coresOn.grow))
  | bankOkTimeout => exact .next (.ite h.start.reach.elsewhere.event h.start)
  | coreSleep core => exact .next (.ite h.start.reach.elsewhere.setN h.start)
  | coreWake core ev => exact .next (.ite h.start.elsewhere.setN h.start)
  | clockLost dom cause => exact .next (.ite (.ite h.start.tcxoLost h.start) (.ite h.start.clockLost h.start))
  | clockRestored dom =>
    exact .next
      (.ite
        (.ite (.setAllSwitches (.foldl h.start.elsewhere fun _ _ h => .ite h.clockBack h)) h.start)
        (.ite h.start.clockBack.setAllSwitches h.start))
  | aonFallback good => exact .next (.ite h.start.elsewhere.setBit.event h.start)
  | dieTempReading t1 => exact .next (.ite h.start.dieTemp h.start)
  | thermalReset t1 => exact .next (.ite h.start.set.elsewhere.assertSource h.start)
  | thermalRelease t1 => exact .next (.ite h.start.reach.set.clearSource h.start)
  | resetReqCold ses req => exact .next h.hostRow
  | resetReqWarm ses req => exact .next h.hostRow
  | resetReqCore ses req => exact .next h.hostRow
  | resetNPress forMs => exact .next (.ite h.start.setResetN.assertSource h.start)
  | resetNRelease forMs =>
    refine .next ?_
    split
    · exact h.start
    · exact .ite h.start.clearSource.setResetN h.start
    · exact .ite h.start.setResetN h.start
  | resetNStuck forMs => exact .next (.ite h.start.clearSource.setResetN.elsewhere.setN.eventAon h.start)
  | lockstepMismatch => exact .next (.ite h.start.elsewhere.assertSource h.start)
  | appWdog => exact .next (.ite h.start.assertSource h.start)
  | critDse region addr => exact .next (.ite h.start.critical h.start)
  | resetRelease strapRatio => exact .next h.start.tryRelease
  | strapRetry strapRatio => exact .next (.ite h.start.reach.measureStrap h.start)
  | blockRst ses req v => exact .next h.hostRow
  | sync port offsetNs valid => exact .next h.start.sync
  | announce port m => exact .next h.start.announce.drain
  | announceTimeout port => exact .next h.start.announceTimeout
  | holdoverLimit => exact .next (.ite h.start.setStatus.event h.start)
  | timeStepReq ses req => exact .next h.hostRow
  | timeSet ses req t1 => exact .next h.hostRow
  | solstice => exact .next (.ite h.start h.start.elsewhere.count.acceptAt)
  | lastKnownTimeSave => exact .next (.ite h.start.reach.setN.elsewhere h.start)
  | timeMark => exact .next (.ite h.start.reach.timeMark h.start)
  | ceFastTick => exact .next h.start.fastTick.drain.resume.drain
  | ceMediumTick => exact .next (.drain (.resume (.drain (.ite (.sEvalAll (.ite h.start.mediumTick h.start)) (.ite h.start.mediumTick h.start)))))
  | ceSlowTick j => exact .next h.start.slowTick.drain.resume.drain
  | ceDeadline cls j => exact .next h.start.missDeadline
  | tlsHandshake port cert => exact .next h.start.tls
  | openSession ses f => exact .next h.start.frame.drain
  | closeSession ses f => exact .next h.start.frame.drain
  | ping ses f => exact .next h.start.frame.drain
  | readObject ses f => exact .next h.start.frame.drain
  | writeObject ses f => exact .next h.start.frame.drain
  | readMany ses f => exact .next h.start.frame.drain
  | writeMany ses f => exact .next h.start.frame.drain
  | abortRequest ses f => exact .next h.start.frame.drain
  | query ses f => exact .next h.start.frame.drain
  | subscribe ses f => exact .next h.start.frame.drain
  | unsubscribe ses f => exact .next h.start.frame.drain
  | notify handle => exact .next h.start.notify
  | safetyOpen ses f salt => exact .next h.start.frame.drain
  | safetyClose ses f => exact .next h.start.frame.drain
  | safetySessionTimeout =>
    refine .next ?_
    split
    · exact h.start.reach.safetyEnd
    · exact h.start
  | sessionIdleTimeout ses => exact .next (.ite h.start h.start.reach.closeSes)
  | sessClose ses req target v => exact .next h.hostRow
  | subscriptionHoldExpiry handle =>
    refine .next ?_
    split
    · exact .ite h.start.reach.endSubs h.start
    · exact h.start
  | subscriptionLifetimeExpiry handle =>
    refine .next ?_
    split
    · exact .ite h.start.reach.endSubs h.start
    · exact h.start
  | sdoRequest r => exact .next h.start.sdo.drain
  | sdoWindow v => exact .next (.ite h.start.sdoWindow h.start)
  | broadcastWrite ses req oid prio val => exact .next h.hostRow
  | registerWrite ses req oid prio val => exact .next h.hostRow
  | keptValueWrite oid => exact .next h.start.keptWrite
  | pointStoreWrite p slot => exact .next (.ite h.start.storeSlot h.start)
  | pointEnable ses req p v => exact .next h.hostRow
  | pointTypeWrite ses req p v => exact .next h.hostRow
  | bindingWrite ses req p sink b => exact .next h.hostRow
  | sourcePoll p => exact .next h.start.sourcePoll
  | sourceDelivery p v ok => exact .next (.ite h.start.sourceDelivers h.start)
  | sinkWrite p => exact .next h.start.sinkWrite.drain
  | sourceTimeout p => exact .next (.ite h.start.reach.setPtFault h.start)
  | modbusTimeout p =>
    refine .next ?_
    refine .ite h.start.reach.deliverBad ?_
    split
    · exact .ite h.start.reach.sinkFails h.start
    · exact h.start
  | readProperty r => exact .next (.bacServe h.start fun _ _ h => .foldl h fun _ _ h => h.bacReadItem)
  | readPropertyMultiple r => exact .next (.bacServe h.start fun _ _ h => .foldl h fun _ _ h => h.bacReadItem)
  | writeProperty r => exact .next h.start.bacPut.drain
  | writePropertyMultiple r => exact .next h.start.bacPut.drain
  | subscribeCov r =>
    refine .next ?_
    refine .bacServe h.start fun _ _ h => ?_
    split
    · split
      · exact h.bacStatus
      · exact .ite h.bacStatus h.covSubscribe
    · exact h
  | whoIs r => exact .next (.discover h.start fun _ _ h => h.bacResp)
  | whoHas r =>
    refine .next ?_
    refine .discover h.start fun _ _ h => ?_
    split
    · exact h.bacResp
    · exact h
  | deviceCommunicationControl r => exact .next h.start.dcc
  | timeSynchronization r => exact .next h.start
  | canCycleStart c => exact .next h.start.cycleStart
  | txCopy c e => exact .next (.ite h.start.copyEntry.dtWindow.noteRun h.start.copyEntry)
  | canFrameReceive c f => exact .next h.start.canFrame
  | canWindowEnd c e => exact .next h.start.canWindowEnd
  | canTransmitEnd c r =>
    refine .next ?_
    split
    · exact h.start.refTxEnd
    · exact h.start.entryTxEnd
    · exact h.start.bufferTxEnd
  | canBusOff c => exact .next h.start.goBusOff
  | canBusOn c idles => exact .next h.start.goBusOn
  | canBusoffReq ses req c v => exact .next h.hostRow
  | txbRequest ses req c t1 => exact .next h.hostRow
  | txbCancel ses req c t1 ph => exact .next h.hostRow
  | rxbAck ses req c b v => exact .next h.hostRow
  | entDesc ses req c e d => exact .next h.hostRow
  | entAck ses req c e v => exact .next h.hostRow
  | canMode ses req c v => exact .next h.hostRow
  | canDetectDwell c => exact .next (.ite h.start.reach.nextCandidate h.start)
  | encoderEdge n ab now => exact .next h.start.encSample.drain
  | encLineFault n line forNs => exact .next h.start.lineFault
  | zeroTimeout n now => exact .next h.start.zeroTimeout
  | indexEdge n => exact .next (.ite h.start.set.count h.start)
  | ssiFrameStart n => exact .next (.ite h.start.reach.emit h.start)
  | ssiFrameEnd n r => exact .next h.start.ssiFrame
  | slipFault n forMs => exact .next (.ite h.start.setBit.eventOf h.start)
  | probeEdge n input rising now => exact .next h.start.probeEdge.drain
  | posAck ses req n v => exact .next h.hostRow
  | refLanding ses req n v => exact .next h.hostRow
  | learnUp ses req n => exact .next h.hostRow
  | learnDown ses req n => exact .next h.hostRow
  | learnStop ses req n => exact .next h.hostRow
  | cmpArm ses req n k => exact .next h.hostRow
  | cmpDisarm ses req n k => exact .next h.hostRow
  | cmpRearm ses req n k mode v => exact .next h.hostRow
  | uplinkFrame k line offBits => exact .next h.start.uplink
  | uplinkGap k forUs => exact .next h.start.uplinkGap
  | dlHandshakeStep k ev => exact .next h.start.hsStep
  | dlHandshakeRetry k => exact .next h.start.hsRetry
  | dlRetrain ses req k v => exact .next h.hostRow
  | doorEnable ses req k v => exact .next h.hostRow
  | dlLtReqOwn ses req k => exact .next h.hostRow
  | dlLtReqTwin ses req k => exact .next h.hostRow
  | dlLinetestEnd k r => exact .next h.start.lineTestEnd
  | dlAck ses req k v => exact .next h.hostRow
  | lockConfirmed k => exact .next h.start.lockConfirmed
  | doorReopenRequest k src => exact .next (.drain (.ite h.start.reopenRequest h.start))
  | dlVbusHigh k forMs => exact .next (.ite h.start.setBit.eventOf h.start)
  | loopClose ses req cls j => exact .next h.hostRow
  | loopOpen ses req cls j => exact .next h.hostRow
  | loopClearTrip ses req cls j => exact .next h.hostRow
  | loopEnable ses req cls j v => exact .next h.hostRow
  | loopFlags ses req cls j v => exact .next h.hostRow
  | grpMembers ses req g members => exact .next h.hostRow
  | carCmdOutOfService ses req n => exact .next h.hostRow
  | carCmdPark ses req n => exact .next h.hostRow
  | carCmdServe ses req n => exact .next h.hostRow
  | carFaultAck ses req n v => exact .next h.hostRow
  | callPointChange p v => exact .next (.drain (.ite h.start.callPoint.lateCalls h.start))
  | destinationCall g rec chan => exact .next (.drain (.ite h.start.dtCall.lateCalls h.start))
  | carOpenRequest n => exact .next (.drain (.ite h.start.openRequest h.start))
  | carProfile n => exact .next h.start.carProfile.drain
  | carStartTimeout n => exact .next (.drain (.ite h.start.reach.carFault h.start))
  | carDwellExpiry n => exact .next (.ite h.start.dwellExpiry h.start)
  | carNudgeExpiry n => exact .next (.ite h.start.nudgeExpiry h.start)
  | relevelTrigger n forMs => exact .next (.ite h.start.relevelTrigger h.start)
  | refTripTimeout n => exact .next (.drain (.ite h.start.reach.eventOf.carFault h.start))
  | carReturnStep => exact .next (.ite h.start.returnStep h.start)
  | epStartCheck => exact .next (.drain (.ite h.start.epCheck.epService h.start))
  | epReturn => exact .next (.ite h.start.epReturn h.start)
  | energySample c x => exact .next (.ite h.start h.start.sampleOf.energySample)
  | pulseEmit x => exact .next h.start.pulseEmit
  | pulseEmitFp x => exact .next h.start.pulseEmitFp
  | pulseWidthEnd x => exact .next h.start.pulseWidthEnd
  | meterWindowEnd w => exact .next h.start.toMultiple.meterWindow.elsewhere
  | bsgCheck k milliHz absent stuck => exact .next h.start.bsgCheck
  | islandCheck i r => exact .next h.start.islandCheck
  | miCalReq ses req i v => exact .next h.hostRow
  | miCalAbort ses req i v => exact .next h.hostRow
  | calStep i m => exact .next h.start.calStep
  | rotationCheck i k dg dp => exact .next h.start.shadowRotation
  | calInterval i => exact .next h.start.calInterval
  | chRegClear ses req c v => exact .next h.hostRow
  | pulseConfig ses req x const v => exact .next h.hostRow
  | periodicSave bad => exact .next (.ite h.start.toMultiple.save h.start)
  | saveLate us => exact .next (.ite h.start.count.event h.start)
  | intervalClose => exact .next (.ite h.start.toMultiple.closeInterval h.start)
  | intLen ses req v => exact .next h.hostRow
  | energyAck ses req v => exact .next h.hostRow
  | cmReset ses req n v => exact .next h.hostRow
  | heartbeatReceive hb => exact .next h.start.heartbeat
  | hbLost => exact .next (.ite h.start.reach.elsewhere.setAllSwitches.event h.start)
  | sinChange n input level => exact .next h.start.sinChange
  | sfReset ses req n v => exact .next h.hostRow
  | windowMax n =>
    refine .next ?_
    refine .lEval ?_
    refine .windowEval ?_
    split
    · exact h.start.reach
    · exact h.start
  | slaCrcCheck crc => exact .next (.ite h.start.event.slaFault h.start.setAllSwitches)
  | slaFault cause => exact .next (.ite h.start.slaFault h.start)
  | dstSend t1 => exact .next h.start.dstSend
  | dstCopy t1 carrier b => exact .next h.start.dstCopy
  | dstCopyWait t1 => exact .next (.ite h.start.dstWaited h.start)
  | dstSingle t1 carrier => exact .next (.ite h.start.reach.setN.eventOf h.start)
  | dstTimeout t1 => exact .next (.ite h.start.reach.setN.eventOf.dstTrip h.start)
  | safetyPw ses req pw salt => exact .next h.hostRow
  | safetyParamWrite ses req oid val => exact .next h.hostRow
  | safetyCommit ses req => exact .next h.hostRow
  | safetyDiscard ses req => exact .next h.hostRow
  | cfgActivate ses req v => exact .next h.hostRow
  | switchTest n sw ok => exact .next (.ite h.start.switchTest h.start)
  | inputDisagree n input forMs => exact .next (.ite h.start.inputDisagree h.start)
  | safetyTestReqTwin ses req => exact .next h.hostRow
  | safetyTestReqSelf ses req => exact .next h.hostRow
  | safetyTestPeriodic => exact .next (.ite h.start.reach.queueSelfTest h.start)
  | safetyTestDone pass => exact .next h.start.selfTestEnd
  | fgSampleTick g levels => exact .next h.start.sampleGroup
  | fioOut ses req x v => exact .next h.hostRow
  | fioMode ses req x v => exact .next h.hostRow
  | fgAck ses req g v => exact .next h.hostRow
  | fioSag g mv forUs => exact .next h.start.sag
  | fioSupplyRestored g mv forUs => exact .next h.start.sagEnds
  | inputsSuspend g mv => exact .next h.start.suspendInputs
  | inputsResume g mv forUs => exact .next h.start.resumeInputs
  | thermalShutdown x => exact .next h.start.thermalOff
  | currentLimit x forMs => exact .next h.start.limitFor
  | readbackDisagree x contact forUs => exact .next h.start.readback
  | outputCommit fresh => exact .next h.start.commitOutputs
  | fioWdExpired => exact .next h.start.wdExpire
  | groupPowerUp g mv => exact .next h.start.groupUp
  | scrubPass mem words forMs =>
    exact .next
      (.ite
        (.ite
          (.event (.foldl (.ite h.start.elsewhere h.start) fun _ _ h => h.scrubWord))
          (.foldl (.ite h.start.elsewhere h.start) fun _ _ h => h.scrubWord)) h.start)
  | memDseContained region addr => exact .next (.ite h.start.memDse h.start)
  | critParityCheck bad => exact .next (.ite h.start.free.critical h.start)
  | fwLoad ses req data => exact .next h.hostRow
  | fwVerify ses req v => exact .next h.hostRow
  | fwVerifyEnd => exact .next (.ite h.start.verifyOther h.start)
  | fwSwitch ses req v => exact .next h.hostRow
  | cfgLoad ses req data => exact .next h.hostRow
  | cfgVerify ses req v => exact .next h.hostRow
  | opcCert ses req k q cert => exact .next h.hostRow
  | opcUse ses req k q v => exact .next h.hostRow
  | eventOffer code src p0 p1 p2 => exact .next (.ite h.start h.start.offer)
  | recordFlush => exact .next (.ite h.start h.start.elsewhere)
  | recRecordsDropped => exact .next (.ite h.start.reach.elsewhere.event h.start)
  | winterNLow forNs => exact .next (.ite h.start.winterLow (.ite h.start (.ite h.start.free.winterLow h.start.free)))
  | freezeEntry => exact .next (.ite (.freeze (.ite h.start.enter h.start)) h.start)
  | winterNHigh forNs => exact .next (.ite h.start.winterHigh (.ite h.start (.ite h.start.free.winterHigh h.start.free)))
  | tapReset => exact .next h.start.loadIr
  | idcode => exact .next h.start.loadIr.emit
  | frzStatus => exact .next h.start.loadIr.emit
  | frzAddr v => exact .next (.ite h.start.loadIr.emit.elsewhere.readWord h.start.loadIr.emit)
  | frzData => exact .next (.ite h.start.loadIr.emit.readWord.elsewhere h.start.loadIr.emit)
  | bypassTap code => exact .next h.start.loadIr.emit
  | powerOn => exact .next h.start.powerOn
  | pdAonOff mv => exact .next (.ite h.start.setN.setN h.start)
  | releaseResetTimeout =>
    refine .next ?_
    split
    · exact h.start.reach.endRelease
    · exact h.start
  | passAckTimeout =>
    refine .next ?_
    split
    · exact .ite h.start.reach.elsewhere.setAllSwitches h.start
    · exact h.start
  | contactorFeedbackTimeout n which => exact .next h.start.kfbTimeout
  | brakeFeedbackTimeout n => exact .next h.start.brakeTimeout
  | stopConditionAbsent n tech => exact .next h.start.stopAbsent
  | thermalRestart x => exact .next h.start.elsewhere
  | covSubscriptionRenewal p ok => exact .next (.ite (.emit (.ite h.start h.start.setPtFault)) h.start)
  | sinkWriteRefused p => exact .next (.ite h.start.sinkFails h.start)
  | sinkWriteTimeout p =>
    refine .next ?_
    split
    · exact .ite h.start.reach.sinkFails h.start
    · exact h.start
  | syncInterval => exact .next (.ite h.start h.start.reach.sendPtp.elsewhere)
  | announceInterval => exact .next (.ite h.start h.start.reach.sendPtp.elsewhere)
  | delayRequest q =>
    refine .next ?_
    split
    · exact .ite h.start h.start.sendPtp.elsewhere
    · exact .ite h.start h.start.sendPtp
  | gratuitousArp port nth =>
    refine .next ?_
    split
    · exact .ite h.start.reach.elsewhere.emit h.start
    · exact h.start

theorem State.Wf.step {s : State} (h : s.Wf) : Answer.Wf (step s) := by
  unfold Machine.step
  split
  · exact .next h.start.tick
  · exact h.rest.exec _

/-- Settles O6: canonical form is kept by every operation a step is made of. -/
theorem stepKeepsCanonical : Obligations.StepKeepsCanonical := by
  unfold Obligations.StepKeepsCanonical
  intro s t hcanonical hmem hstep
  have h := State.Wf.step ⟨hcanonical, hmem⟩
  rw [hstep] at h
  cases h with
  | next h => exact ⟨h.canonical, h.memCanonical⟩

end Sys2Proof.Machine
end

section
/-! What a register reads after an operation on another one, for each reading of it (number, flag and bit). -/

namespace Sys2Proof.Machine

@[simp] theorem State.get_set_ne (s : State) (k k' : Key) (v : Int) (h : k.oid ≠ k'.oid) : (s.set k v).get k' = s.get k' := s.get_set_other k k' v h
@[simp] theorem State.nat_set_ne (s : State) (k k' : Key) (v : Int) (h : k.oid ≠ k'.oid) : (s.set k v).nat k' = s.nat k' := by simp [State.nat, h]
@[simp] theorem State.flag_set_ne (s : State) (k k' : Key) (v : Int) (h : k.oid ≠ k'.oid) : (s.set k v).flag k' = s.flag k' := by simp [State.flag, h]
@[simp] theorem State.bit_set_ne (s : State) (k k' : Key) (v : Int) (j : Nat) (h : k.oid ≠ k'.oid) : (s.set k v).bit k' j = s.bit k' j := by simp [State.bit, h]

@[simp] theorem State.get_setN_ne (s : State) (k k' : Key) (v : Nat) (h : k.oid ≠ k'.oid) : (s.setN k v).get k' = s.get k' := s.get_setN_other k k' v h
@[simp] theorem State.nat_setN_ne (s : State) (k k' : Key) (v : Nat) (h : k.oid ≠ k'.oid) : (s.setN k v).nat k' = s.nat k' := by simp [State.nat, h]
@[simp] theorem State.flag_setN_ne (s : State) (k k' : Key) (v : Nat) (h : k.oid ≠ k'.oid) : (s.setN k v).flag k' = s.flag k' := by simp [State.flag, h]
@[simp] theorem State.bit_setN_ne (s : State) (k k' : Key) (v : Nat) (j : Nat) (h : k.oid ≠ k'.oid) : (s.setN k v).bit k' j = s.bit k' j := by simp [State.bit, h]

@[simp] theorem State.get_setFlag_ne (s : State) (k k' : Key) (b : Bool) (h : k.oid ≠ k'.oid) : (s.setFlag k b).get k' = s.get k' := s.get_setFlag_other k k' b h
@[simp] theorem State.nat_setFlag_ne (s : State) (k k' : Key) (b : Bool) (h : k.oid ≠ k'.oid) : (s.setFlag k b).nat k' = s.nat k' := by simp [State.nat, h]
@[simp] theorem State.flag_setFlag_ne (s : State) (k k' : Key) (b : Bool) (h : k.oid ≠ k'.oid) : (s.setFlag k b).flag k' = s.flag k' := by simp [State.flag, h]
@[simp] theorem State.bit_setFlag_ne (s : State) (k k' : Key) (b : Bool) (j : Nat) (h : k.oid ≠ k'.oid) : (s.setFlag k b).bit k' j = s.bit k' j := by simp [State.bit, h]

@[simp] theorem State.get_setBit_ne (s : State) (k k' : Key) (i : Nat) (b : Bool) (h : k.oid ≠ k'.oid) : (s.setBit k i b).get k' = s.get k' := s.get_setBit_other k k' i b h
@[simp] theorem State.nat_setBit_ne (s : State) (k k' : Key) (i : Nat) (b : Bool) (h : k.oid ≠ k'.oid) : (s.setBit k i b).nat k' = s.nat k' := by simp [State.nat, h]
@[simp] theorem State.flag_setBit_ne (s : State) (k k' : Key) (i : Nat) (b : Bool) (h : k.oid ≠ k'.oid) : (s.setBit k i b).flag k' = s.flag k' := by simp [State.flag, h]
@[simp] theorem State.bit_setBit_ne (s : State) (k k' : Key) (i : Nat) (b : Bool) (j : Nat) (h : k.oid ≠ k'.oid) : (s.setBit k i b).bit k' j = s.bit k' j := by simp [State.bit, h]

@[simp] theorem State.get_count_ne (s : State) (k k' : Key) (w n : Nat) (h : k.oid ≠ k'.oid) : (s.count k w n).get k' = s.get k' := s.get_count_other k k' w n h
@[simp] theorem State.nat_count_ne (s : State) (k k' : Key) (w n : Nat) (h : k.oid ≠ k'.oid) : (s.count k w n).nat k' = s.nat k' := by simp [State.nat, h]
@[simp] theorem State.flag_count_ne (s : State) (k k' : Key) (w n : Nat) (h : k.oid ≠ k'.oid) : (s.count k w n).flag k' = s.flag k' := by simp [State.flag, h]
@[simp] theorem State.bit_count_ne (s : State) (k k' : Key) (w n : Nat) (j : Nat) (h : k.oid ≠ k'.oid) : (s.count k w n).bit k' j = s.bit k' j := by simp [State.bit, h]

@[simp] theorem State.nat_event (s : State) (code p0 p1 p2 : Nat) (k : Key) (h : Oid.REC_DROPPED.oid ≠ k.oid) : (s.event code p0 p1 p2).nat k = s.nat k := by simp only [State.nat, s.get_event code p0 p1 p2 k h]
@[simp] theorem State.flag_event (s : State) (code p0 p1 p2 : Nat) (k : Key) (h : Oid.REC_DROPPED.oid ≠ k.oid) : (s.event code p0 p1 p2).flag k = s.flag k := by simp only [State.flag, s.get_event code p0 p1 p2 k h]
@[simp] theorem State.bit_event (s : State) (code p0 p1 p2 : Nat) (k : Key) (j : Nat) (h : Oid.REC_DROPPED.oid ≠ k.oid) : (s.event code p0 p1 p2).bit k j = s.bit k j := by
  simp only [State.bit, s.nat_event code p0 p1 p2 k h]

@[simp] theorem State.nat_eventOf (s : State) (code src p0 p1 p2 : Nat) (k : Key) (h : Oid.REC_DROPPED.oid ≠ k.oid) : (s.eventOf code src p0 p1 p2).nat k = s.nat k := by simp only [State.nat, s.get_eventOf code src p0 p1 p2 k h]
@[simp] theorem State.flag_eventOf (s : State) (code src p0 p1 p2 : Nat) (k : Key) (h : Oid.REC_DROPPED.oid ≠ k.oid) : (s.eventOf code src p0 p1 p2).flag k = s.flag k := by simp only [State.flag, s.get_eventOf code src p0 p1 p2 k h]
@[simp] theorem State.bit_eventOf (s : State) (code src p0 p1 p2 : Nat) (k : Key) (j : Nat) (h : Oid.REC_DROPPED.oid ≠ k.oid) : (s.eventOf code src p0 p1 p2).bit k j = s.bit k j := by
  simp only [State.bit, s.nat_eventOf code src p0 p1 p2 k h]

@[simp] theorem State.nat_set_same (s : State) (k : Key) (v : Int) : (s.set k v).nat k = v.toNat := by simp [State.nat]

@[simp] theorem State.flag_set_same (s : State) (k : Key) (v : Int) : (s.set k v).flag k = (v != 0) := by simp [State.flag]

@[simp] theorem State.nat_setFlag_same (s : State) (k : Key) (b : Bool) : (s.setFlag k b).nat k = if b then 1 else 0 := by
  cases b <;> simp [State.nat]

@[simp] theorem State.flag_setN_same (s : State) (k : Key) (v : Nat) : (s.setN k v).flag k = (v != 0) := by
  simp [State.flag, bne, BEq.beq]

@[simp] theorem State.bit_setN_same (s : State) (k : Key) (v i : Nat) : (s.setN k v).bit k i = v.testBit i := by simp [State.bit]

/-! ### Domains that are on -/

theorem State.up_congr {s t : State} (hmode : t.mode = s.mode) (hpd : t.get Oid.PD_STATE = s.get Oid.PD_STATE)
    (hck : t.get Oid.CK_GOOD = s.get Oid.CK_GOOD) (d : Domain) : t.up d = s.up d := by
  simp [State.up, State.pd, State.ck, State.bit, State.nat, hmode, hpd, hck]

@[simp] theorem State.pd_start (s : State) (d : Domain) : s.start.pd d = s.pd d := rfl
@[simp] theorem State.up_start (s : State) (d : Domain) : s.start.up d = s.up d := rfl

@[simp] theorem State.pd_set (s : State) (k : Key) (v : Int) (d : Domain) (h : k.oid ≠ Oid.PD_STATE.oid) : (s.set k v).pd d = s.pd d := by
  simp only [State.pd, s.bit_set_ne k Oid.PD_STATE v _ h]
@[simp] theorem State.up_set (s : State) (k : Key) (v : Int) (d : Domain) (h : k.oid ≠ Oid.PD_STATE.oid) (h' : k.oid ≠ Oid.CK_GOOD.oid) :
    (s.set k v).up d = s.up d :=
  State.up_congr (State.set_mode ..) (s.get_set_ne k Oid.PD_STATE v h) (s.get_set_ne k Oid.CK_GOOD v h') d
@[simp] theorem State.pd_setN (s : State) (k : Key) (v : Nat) (d : Domain) (h : k.oid ≠ Oid.PD_STATE.oid) : (s.setN k v).pd d = s.pd d := by
  simp only [State.pd, s.bit_setN_ne k Oid.PD_STATE v _ h]
@[simp] theorem State.up_setN (s : State) (k : Key) (v : Nat) (d : Domain) (h : k.oid ≠ Oid.PD_STATE.oid) (h' : k.oid ≠ Oid.CK_GOOD.oid) :
    (s.setN k v).up d = s.up d :=
  State.up_congr (State.setN_mode ..) (s.get_setN_ne k Oid.PD_STATE v h) (s.get_setN_ne k Oid.CK_GOOD v h') d
@[simp] theorem State.pd_setFlag (s : State) (k : Key) (b : Bool) (d : Domain) (h : k.oid ≠ Oid.PD_STATE.oid) : (s.setFlag k b).pd d = s.pd d := by
  simp only [State.pd, s.bit_setFlag_ne k Oid.PD_STATE b _ h]
@[simp] theorem State.up_setFlag (s : State) (k : Key) (b : Bool) (d : Domain) (h : k.oid ≠ Oid.PD_STATE.oid) (h' : k.oid ≠ Oid.CK_GOOD.oid) :
    (s.setFlag k b).up d = s.up d :=
  State.up_congr (State.setFlag_mode ..) (s.get_setFlag_ne k Oid.PD_STATE b h) (s.get_setFlag_ne k Oid.CK_GOOD b h') d
@[simp] theorem State.pd_setBit (s : State) (k : Key) (i : Nat) (b : Bool) (d : Domain) (h : k.oid ≠ Oid.PD_STATE.oid) : (s.setBit k i b).pd d = s.pd d := by
  simp only [State.pd, s.bit_setBit_ne k Oid.PD_STATE i b _ h]
@[simp] theorem State.up_setBit (s : State) (k : Key) (i : Nat) (b : Bool) (d : Domain) (h : k.oid ≠ Oid.PD_STATE.oid) (h' : k.oid ≠ Oid.CK_GOOD.oid) :
    (s.setBit k i b).up d = s.up d :=
  State.up_congr (State.setBit_mode ..) (s.get_setBit_ne k Oid.PD_STATE i b h) (s.get_setBit_ne k Oid.CK_GOOD i b h') d
@[simp] theorem State.pd_count (s : State) (k : Key) (w n : Nat) (d : Domain) (h : k.oid ≠ Oid.PD_STATE.oid) : (s.count k w n).pd d = s.pd d := by
  simp only [State.pd, s.bit_count_ne k Oid.PD_STATE w n _ h]
@[simp] theorem State.up_count (s : State) (k : Key) (w n : Nat) (d : Domain) (h : k.oid ≠ Oid.PD_STATE.oid) (h' : k.oid ≠ Oid.CK_GOOD.oid) :
    (s.count k w n).up d = s.up d :=
  State.up_congr (State.count_mode ..) (s.get_count_ne k Oid.PD_STATE w n h) (s.get_count_ne k Oid.CK_GOOD w n h') d
@[simp] theorem State.pd_event (s : State) (code p0 p1 p2 : Nat) (d : Domain) : (s.event code p0 p1 p2).pd d = s.pd d := by simp [State.pd]
@[simp] theorem State.up_event (s : State) (code p0 p1 p2 : Nat) (d : Domain) : (s.event code p0 p1 p2).up d = s.up d :=
  State.up_congr (by simp) (by simp) (by simp) d
@[simp] theorem State.pd_eventOf (s : State) (code src p0 p1 p2 : Nat) (d : Domain) : (s.eventOf code src p0 p1 p2).pd d = s.pd d := by simp [State.pd]
@[simp] theorem State.up_eventOf (s : State) (code src p0 p1 p2 : Nat) (d : Domain) : (s.eventOf code src p0 p1 p2).up d = s.up d :=
  State.up_congr (by simp) (by simp) (by simp) d

/-! ### Folds over operations -/

/-- What each step of a fold keeps, the fold keeps. -/
theorem State.foldl_keeps {α β : Type} (F : State → β) {g : State → α → State} (hg : ∀ s a, F (g s a) = F s) (l : List α) (s : State) :
    F (l.foldl g s) = F s := by
  induction l generalizing s with
  | nil => rfl
  | cons a l ih => rw [List.foldl_cons, ih, hg]

end Sys2Proof.Machine
end

section
/-! Host writes of numbers: what a session that is ready may write, what the write carries, and how it ends (R29, R172, R201). -/

namespace Sys2Proof.Machine

/-- Bytes that a plain row of a number takes for a value: of the row's length, within its range (R172, R201). -/
structure ObjRow.Takes (r : ObjRow) (d : List Byte) (v : Int) : Prop where
  plain : r.plain = true
  number : r.ty.isBytes = false
  length : d.length = r.ty.size
  value : maskBits r.base (r.ty.dec d) = v
  bool : r.ty = .bool → leNat d ≤ 1
  notReal : r.ty ≠ .real32
  range : r.rng.allows (.num v) = true
  notArm : r.base = 0x10011005 → d ≠ [1]
  notDoor : r.base = 0x20000100 → leNat d ≠ 1

theorem ObjRow.Takes.taken {r : ObjRow} {d : List Byte} {v : Int} (h : r.Takes d v) : r.taken d = d := by
  simp [ObjRow.taken, h.number]

theorem ObjRow.Takes.check {r : ObjRow} {d : List Byte} {v : Int} (h : r.Takes d v) : valueCheck r r.ty d = none := by
  have hbool : (r.ty != .bool || decide (leNat d ≤ 1)) = true := by
    by_cases hb : r.ty = .bool
    · simp [h.bool hb]
    · simp [hb]
  simp [valueCheck, h.number, h.length, h.value, hbool, h.notReal, h.range, firstOf, need, andThen]

/-- A value of one byte. -/
theorem ObjRow.Takes.of_u8 {r : ObjRow} {v : Byte} (hty : r.ty = .u8) (hr : r.plain = true) (hm : bitMask r.base = none)
    (hrng : r.rng.allows (.num v.toNat) = true) (harm : r.base ≠ 0x10011005) (hdoor : r.base = 0x20000100 → v ≠ 1) : r.Takes [v] v.toNat where
  plain := hr
  number := by simp [hty, Ty.isBytes]
  length := by simp [hty, Ty.size]
  value := by simp [hty, maskBits, hm, Ty.dec, Ty.isSigned]
  bool h := by simp [hty] at h
  notReal := by simp [hty]
  range := hrng
  notArm h := absurd h harm
  notDoor h := by
    have hv := hdoor h
    rw [leNat_one]
    exact fun he => hv (BitVec.eq_of_toNat_eq he)

/-- A truth value. -/
theorem ObjRow.Takes.of_bool {r : ObjRow} {v : Byte} (hty : r.ty = .bool) (hr : r.plain = true) (hm : bitMask r.base = none) (hv : v.toNat ≤ 1)
    (hrng : r.rng = .any) (harm : r.base ≠ 0x10011005) (hdoor : r.base ≠ 0x20000100) : r.Takes [v] v.toNat where
  plain := hr
  number := by simp [hty, Ty.isBytes]
  length := by simp [hty, Ty.size]
  value := by simp [hty, maskBits, hm, Ty.dec, Ty.isSigned]
  bool _ := by simpa using hv
  notReal := by simp [hty]
  range := by simp [hrng, Rng.allows]
  notArm h := absurd h harm
  notDoor h := absurd h hdoor

section

variable {t a : State} (h : t.Like a)

include h

theorem State.Like.objs : t.objs = a.objs := h.1
theorem State.Like.blobs : t.blobs = a.blobs := h.2.1
theorem State.Like.mode : t.mode = a.mode := h.2.2.1
theorem State.Like.clk : t.clk = a.clk := h.2.2.2.1
theorem State.Like.rcd : t.rcd = a.rcd := h.2.2.2.2.1
theorem State.Like.frz : t.frz = a.frz := h.2.2.2.2.2.1
theorem State.Like.pow : t.pow = a.pow := h.2.2.2.2.2.2.1
theorem State.Like.rst : t.rst = a.rst := h.2.2.2.2.2.2.2.1
theorem State.Like.tb : t.tb = a.tb := h.2.2.2.2.2.2.2.2.1
theorem State.Like.launches : t.launches = a.launches := h.2.2.2.2.2.2.2.2.2.1
theorem State.Like.sessions : t.acc.sessions = a.acc.sessions := h.2.2.2.2.2.2.2.2.2.2.1
theorem State.Like.live : t.acc.live = a.acc.live := h.2.2.2.2.2.2.2.2.2.2.2.1
theorem State.Like.pts : t.pts = a.pts := h.2.2.2.2.2.2.2.2.2.2.2.2.1
theorem State.Like.cfgValid : t.cfgValid = a.cfgValid := h.2.2.2.2.2.2.2.2.2.2.2.2.2.1
theorem State.Like.testQueue : t.testQueue = a.testQueue := h.2.2.2.2.2.2.2.2.2.2.2.2.2.2.1
theorem State.Like.testsOn : t.testsOn = a.testsOn := h.2.2.2.2.2.2.2.2.2.2.2.2.2.2.2.1
theorem State.Like.fio : t.fio = a.fio := h.2.2.2.2.2.2.2.2.2.2.2.2.2.2.2.2.1
theorem State.Like.mem : t.mem = a.mem := h.2.2.2.2.2.2.2.2.2.2.2.2.2.2.2.2.2.1
theorem State.Like.saf : t.saf = a.saf := h.2.2.2.2.2.2.2.2.2.2.2.2.2.2.2.2.2.2.1
theorem State.Like.can : t.can = a.can := h.2.2.2.2.2.2.2.2.2.2.2.2.2.2.2.2.2.2.2.1
theorem State.Like.pos : t.pos = a.pos := h.2.2.2.2.2.2.2.2.2.2.2.2.2.2.2.2.2.2.2.2.1
theorem State.Like.loops : t.loops = a.loops := h.2.2.2.2.2.2.2.2.2.2.2.2.2.2.2.2.2.2.2.2.2.1
theorem State.Like.grps : t.grps = a.grps := h.2.2.2.2.2.2.2.2.2.2.2.2.2.2.2.2.2.2.2.2.2.2.1
theorem State.Like.doors : t.doors = a.doors := h.2.2.2.2.2.2.2.2.2.2.2.2.2.2.2.2.2.2.2.2.2.2.2.1
theorem State.Like.met : t.met = a.met := h.2.2.2.2.2.2.2.2.2.2.2.2.2.2.2.2.2.2.2.2.2.2.2.2.1
theorem State.Like.dsp : t.dsp = a.dsp := h.2.2.2.2.2.2.2.2.2.2.2.2.2.2.2.2.2.2.2.2.2.2.2.2.2.1

end

section

variable (s : State) (n : Nat) (req : BitVec 32) {oid : Nat} {d : List Byte} {r : ObjRow} {ix : List Nat} {v : Int}

/-- A host write of a number that its row takes and its chapter lets pass: the state is that of its effect, and the answer is OK (R29, R674). -/
theorem State.hostRow_number (h : s.Ready n) (hlk : lookup oid = some (r, ix)) (hex : objectExists r.base ix = true) (hv : r.Takes d v)
    (hloop : r.acc = .rwl → (s.seen n).loopShut r ix = none)
    (hown : (s.seen n).ownerCheck (hostRights n) r ix { oid := oid, data := d } v d = none) (a : State)
    (heff : (s.landed n req { oid := oid, data := d }).areaEffect (hostRights n) r { oid := oid, data := d } ix v (r.ty.enc v) = a)
    (hx : a.acc.sessions = (s.landed n req { oid := oid, data := d }).acc.sessions) (hm : a.emits = s.emits) :
    ∃ t, s.hostRow n req { oid := oid, data := d } = t ∧ t.Answers n req 0 ∧ t.Like a := by
  refine s.hostRow_row n req oid d r ix h hlk hex hv.plain ?_ hloop ?_ hv.notArm hv.notDoor a ?_ hx hm
  · rw [hv.taken]
    exact hv.check
  · rw [hv.taken, hv.value]
    exact hown
  · rw [hv.taken, hv.value, hv.number]
    exact heff

/-- A host write of a number that its row takes and its chapter refuses: answered with the refusal, and nothing else happens (R201). -/
theorem State.hostRow_numberDenied (y : Refuse) (h : s.Ready n) (hlk : lookup oid = some (r, ix)) (hex : objectExists r.base ix = true)
    (hv : r.Takes d v) (hloop : r.acc = .rwl → (s.seen n).loopShut r ix = none)
    (hown : (s.seen n).ownerCheck (hostRights n) r ix { oid := oid, data := d } v d = some y) (hx : y.excess = none)
    (hpay : y.payload = []) : ∃ t, s.hostRow n req { oid := oid, data := d } = t ∧ t.Answers n req y.st.code ∧ t.Like (s.seen n) := by
  have hrow := s.hostRow_denied n req oid d r ix y h hlk hex hv.plain (by rw [hv.taken]; exact hv.check) hloop
    (by rw [hv.taken, hv.value]; exact hown) hx hv.notArm hv.notDoor
  exact ⟨_, hrow, by simp [State.emit, State.Answers, hpay], State.emit_like _ _⟩

end

end Sys2Proof.Machine
end

section
/-! Host writes of a field channel and of its group (R596, R605, R607, R610). -/

namespace Sys2Proof.Machine

/-- The rows of FIO_MODE, FIO_OUT and FG_ACK (R616). -/
def fioModeRow : ObjRow := ⟨0x60000000, [(0x100, 64)], .u8, .rwp, .num 0, true, (.span 0 3), .config⟩
@[inherit_doc fioModeRow] def fioOutRow : ObjRow := ⟨0x60000001, [(0x100, 64)], .bool, .rw, .num 0, true, .any, .live⟩
@[inherit_doc fioModeRow] def fgAckRow : ObjRow := ⟨0x60010001, [(0x100, 8)], .u8, .wo, .num 0, false, (.oneOf [1]), .request⟩

theorem lookup_FIO_MODE (x : Nat) (h : x < 64) : lookup (Oid.FIO_MODE x).oid = some (fioModeRow, [x]) := by
  simpa [ObjRow.at', idxOff, Nat.mul_comm, fioModeRow] using lookup_60 fioModeRow (by decide +kernel) [x] (by simp [idxOk, fioModeRow, h])

theorem lookup_FIO_OUT (x : Nat) (h : x < 64) : lookup (Oid.FIO_OUT x).oid = some (fioOutRow, [x]) := by
  simpa [ObjRow.at', idxOff, Nat.mul_comm, fioOutRow] using lookup_60 fioOutRow (by decide +kernel) [x] (by simp [idxOk, fioOutRow, h])

theorem lookup_FG_ACK (g : Nat) (h : g < 8) : lookup (0x60010001 + g * 256) = some (fgAckRow, [g]) := by
  simpa [ObjRow.at', idxOff, Nat.mul_comm, fgAckRow] using lookup_60 fgAckRow (by decide +kernel) [g] (by simp [idxOk, fgAckRow, h])

theorem fioOutRow_takes {v : Byte} (hv : v.toNat ≤ 1) : fioOutRow.Takes [v] v.toNat :=
  .of_bool rfl rfl rfl hv rfl (by decide) (by decide)

theorem fioModeRow_takes {v : Byte} (hv : v.toNat ≤ 3) : fioModeRow.Takes [v] v.toNat :=
  .of_u8 rfl rfl rfl (by simp [fioModeRow, Rng.allows]; omega) (by decide) (by simp [fioModeRow])

theorem fgAckRow_takes : fgAckRow.Takes [1] 1 := .of_u8 rfl rfl rfl rfl (by decide) (by decide)

/-- Settles O51: the checks of area 0x60 refuse a channel that is owned or in use. -/
theorem fieldRefusals : Obligations.FieldRefusals := by
  unfold Obligations.FieldRefusals
  intro s ses req x v h
  constructor
  · intro hv hown
    have hbusy : (s.seen ses.val).fioOwner x.val ≠ 0 := hown
    obtain ⟨t, ht, hans, hlike⟩ := s.hostRow_numberDenied ses.val req ⟨.busy, [], none⟩ h (lookup_FIO_OUT x.val x.isLt) rfl (fioOutRow_takes hv)
      (by simp [fioOutRow]) (by simp [State.ownerCheck, fioOutRow, State.check60, hbusy, need, refuse, hostRights]) rfl rfl
    exact ⟨t, congrArg _ ht, hans, hlike.objs, hlike.blobs, hlike.fio⟩
  · intro hv huse
    have hbusy : (s.seen ses.val).modeBusy x.val = true := huse
    obtain ⟨t, ht, hans, hlike⟩ := s.hostRow_numberDenied ses.val req ⟨.busy, [], none⟩ h (lookup_FIO_MODE x.val x.isLt) rfl (fioModeRow_takes hv)
      (by simp [fioModeRow]) (by simp [State.ownerCheck, fioModeRow, State.check60, hbusy, need, refuse]) rfl rfl
    exact ⟨t, congrArg _ ht, hans, hlike.objs, hlike.blobs, hlike.fio⟩

/-! ### Host writes of a channel and of its group -/

section
variable (s : State) (x g : Nat) (b : Bool)

@[simp] theorem State.setOut_acc : (s.setOut x b).acc = s.acc := by unfold State.setOut; split <;> rfl
@[simp] theorem State.setOut_emits : (s.setOut x b).emits = s.emits := by unfold State.setOut; split <;> rfl
@[simp] theorem State.setOut_blobs : (s.setOut x b).blobs = s.blobs := by unfold State.setOut; split <;> rfl
@[simp] theorem State.setOut_rcd : (s.setOut x b).rcd = s.rcd := by unfold State.setOut; split <;> rfl
@[simp] theorem State.ackGroup_acc : (s.ackGroup g).acc = s.acc := by simp only [State.ackGroup]; split <;> split <;> rfl
@[simp] theorem State.ackGroup_emits : (s.ackGroup g).emits = s.emits := by simp only [State.ackGroup]; split <;> split <;> rfl
@[simp] theorem State.ackGroup_blobs : (s.ackGroup g).blobs = s.blobs := by simp only [State.ackGroup]; split <;> split <;> rfl
@[simp] theorem State.ackGroup_fio : (s.ackGroup g).fio = s.fio := by simp only [State.ackGroup]; split <;> split <;> rfl

@[simp] theorem State.flag_setOut : (s.setOut x b).flag (Oid.FIO_OUT x) = b := by
  unfold State.setOut
  split
  · assumption
  · exact State.flag_setFlag_same ..

theorem State.get_setOut_ne (k : Key) (h : k.oid ≠ (Oid.FIO_OUT x).oid) : (s.setOut x b).get k = s.get k := by
  unfold State.setOut
  split
  · rfl
  · exact State.get_setFlag_other _ _ _ _ h.symm

theorem State.bit0_ackGroup : (s.ackGroup g).bit (Oid.FG_STATUS g) 0 = (s.bit (Oid.FG_STATUS g) 0 && s.groupCause g) := by
  simp only [State.ackGroup]
  cases h : s.groupCause g <;> simp <;> split <;> simp

theorem State.bit3_ackGroup : (s.ackGroup g).bit (Oid.FG_STATUS g) 3
    = (s.bit (Oid.FG_STATUS g) 3 && decide (s.nat (Oid.FG_SUPPLY_MV g) ≤ 19500)) := by
  simp only [State.ackGroup]
  by_cases h : 19500 < s.nat (Oid.FG_SUPPLY_MV g)
  · cases s.groupCause g <;> simp [h]
  · cases s.groupCause g <;> simp [h, Nat.le_of_not_lt h]

theorem State.get_ackGroup_ne (k : Key) (h : k.oid ≠ (Oid.FG_STATUS g).oid) : (s.ackGroup g).get k = s.get k := by
  simp only [State.ackGroup]
  split <;> split <;> simp only [ne_eq, h.symm, not_false_eq_true, State.get_setBit_ne]

end

/-- Settles O50: each write is a number that its row takes, and its effect is the one operation of chapter 17 that area 0x60 names for it. -/
theorem fieldHostWrites : Obligations.FieldHostWrites := by
  unfold Obligations.FieldHostWrites
  intro s ses req h
  refine ⟨?_, ?_, ?_⟩
  · intro x v hv hown
    have hown' : (s.seen ses.val).fioOwner x.val = 0 := hown
    obtain ⟨t, ht, hans, hlike⟩ := s.hostRow_number ses.val req h (lookup_FIO_OUT x.val x.isLt) rfl (fioOutRow_takes hv) (by simp [fioOutRow])
      (by simp [State.ownerCheck, fioOutRow, State.check60, hown', need]) (State.setOut _ x.val ((v.toNat : Int) != 0)) rfl (by simp) (by simp)
    have hflag : ((v.toNat : Int) != 0) = (v.toNat == 1) := by grind
    refine ⟨t, congrArg _ ht, hans, ?_, ?_, ?_, ?_⟩
    · simpa [hlike.flag] using hflag
    · intro k hk
      simp [hlike.get, State.get_setOut_ne _ _ _ _ hk]
    · simp [hlike.blobs]
    · simp [hlike.rcd]
  · intro x v hv hbound hpulse harmed
    have hfree : (s.seen ses.val).modeBusy x.val = false := by
      rw [show (s.seen ses.val).modeBusy x.val = (s.fioBound x.val || s.fioPulse x.val || s.fioArmed x.val) from rfl, hbound, hpulse, harmed]
      rfl
    obtain ⟨t, ht, hans, hlike⟩ := s.hostRow_number ses.val req h (lookup_FIO_MODE x.val x.isLt) rfl (fioModeRow_takes hv) (by simp [fioModeRow])
      (by simp [State.ownerCheck, fioModeRow, State.check60, hfree, need]) (State.set _ (Oid.FIO_MODE x.val) v.toNat)
      (State.keep_num _ fioModeRow _ [x.val] v.toNat (lookup_FIO_MODE x.val x.isLt) (by decide) rfl
        (Ty.dec_enc_nat .u8 v.toNat v.isLt rfl)) (by simp) (by simp)
    refine ⟨t, congrArg _ ht, hans, ?_, ?_, ?_, ?_⟩
    · simp [hlike.nat]
    · simp [State.fioMode, hlike.fio]
    · intro k hk
      rw [hlike.get, State.get_set_other _ _ _ _ hk.symm, State.get_landed]
    · simp [hlike.blobs]
  · intro g
    obtain ⟨t, ht, hans, hlike⟩ := s.hostRow_number ses.val req h (lookup_FG_ACK g.val g.isLt) rfl fgAckRow_takes (by simp [fgAckRow])
      rfl (State.ackGroup _ g.val) rfl (by simp) (by simp)
    refine ⟨t, congrArg _ ht, hans, ?_, ?_, ?_, ?_, ?_⟩
    · rw [hlike.bit, State.bit0_ackGroup]
      simp [State.groupCause]
    · rw [hlike.bit, State.bit3_ackGroup]
      simp
    · intro k hk
      rw [hlike.get, State.get_ackGroup_ne _ _ _ hk, State.get_landed]
    · simp [hlike.blobs]
    · simp [hlike.fio]
end Sys2Proof.Machine
end

section
/-! The supply of a field group (R609 to R611, R677): what each crossing of a threshold writes, and what the outputs and inputs of the group then do. -/

namespace Sys2Proof.Machine

section
variable (s : State) (g mv p : Nat)

theorem State.measureSupply_of_up (h : s.up .bus = true) : s.measureSupply g mv = s.setN (Oid.FG_SUPPLY_MV g) mv := if_pos h

@[simp] theorem State.groupFault_fio : (s.groupFault g).fio = s.fio := by
  unfold State.groupFault; split <;> simp
@[simp] theorem State.groupFault_waiting : (s.groupFault g).rcd.waitingCount ≤ s.rcd.waitingCount + 1 := by
  unfold State.groupFault
  split
  · omega
  · exact State.eventOf_waiting ..

theorem State.bit_groupFault (hg : g < 8) (i : Nat) : (s.groupFault g).bit (Oid.FG_STATUS g) i = if i = 0 then true else s.bit (Oid.FG_STATUS g) i := by
  unfold State.groupFault
  split
  · next h =>
    split
    · next h0 => simpa [h0] using h
    · rfl
  · simp (disch := solve | simp | (simp; omega))

@[simp] theorem State.nat_groupFault (k : Key) (h1 : k.oid ≠ (Oid.FG_STATUS g).oid) (h2 : k.oid ≠ (Oid.FG_FAULTS g).oid)
    (h3 : k.oid ≠ Oid.REC_DROPPED.oid) : (s.groupFault g).nat k = s.nat k := by
  unfold State.groupFault
  split
  · rfl
  · simp only [h1.symm, h2.symm, h3.symm, ne_eq, not_false_eq_true, State.nat_eventOf, State.nat_count_ne, State.nat_setBit_ne]

/-- A group without supply switches none of its outputs on (R609). -/
theorem State.switchOn_of_supplyLow {s : State} {x : Nat} (h : s.bit (Oid.FG_STATUS (x / 8)) 1 = true) : s.switchOn x = false := by
  unfold State.switchOn
  simp [h]

theorem State.sag_clause (g : Fin 8) (forUs : Nat) (hup : s.up .bus = true) (hroom : s.Room) (hmv : mv < 18000) (hfor : 1000 ≤ forUs)
    (hlow : s.bit (Oid.FG_STATUS g.val) 1 = false) : 
    ∃ t, exec (.fioSag g mv forUs) s = .next t ∧ t.nat (Oid.FG_SUPPLY_MV g.val) = mv ∧ t.bit (Oid.FG_STATUS g.val) 1 = true
        ∧ t.bit (Oid.FG_STATUS g.val) 0 = true ∧ t.Recorded 0x0E02 g.val mv 0 0 ∧ t.fio = s.fio
        ∧ (∀ x : Nat, x / 8 = g.val → t.switchOn x = false) := by
  have hg := g.isLt
  have hsag : s.start.sag g.val mv forUs = (((s.start.setN (Oid.FG_SUPPLY_MV g) mv).setBit (Oid.FG_STATUS g) 1 true).groupFault g).eventOf 0x0E02 g mv := by
    simp (disch := solve | simp | (simp; omega)) [State.sag, State.measureSupply, hup, hmv, hfor, hlow]
  refine ⟨_, congrArg Host.Outcome.next hsag, ?_, ?_, ?_, ?_, ?_, ?_⟩
  · simp (disch := solve | simp | (simp; omega))
  · simp (disch := solve | simp | (simp; omega)) [State.bit_groupFault, hg]
  · simp (disch := solve | simp | (simp; omega)) [State.bit_groupFault, hg]
  · refine State.eventOf_recorded _ _ _ _ _ _ ?_
    have := (((s.start.setN (Oid.FG_SUPPLY_MV g) mv).setBit (Oid.FG_STATUS g) 1 true)).groupFault_waiting g
    simp at this hroom
    omega
  · simp
  · intro x hx
    exact State.switchOn_of_supplyLow (by simp (disch := solve | simp | (simp; omega)) [hx, State.bit_groupFault, hg])

/-- The filters of inputs start afresh (R611). -/
def State.resetFilters (l : List Nat) : State :=
  { s with fio := l.foldl (fun f x => { f with run := f.run.put 0 x 0, since := f.since.put 0 x 0 }) s.fio }

@[simp] theorem State.get_resetFilters (l : List Nat) (k : Key) : (s.resetFilters l).get k = s.get k := rfl
@[simp] theorem State.bit_resetFilters (l : List Nat) (k : Key) (i : Nat) : (s.resetFilters l).bit k i = s.bit k i := rfl
@[simp] theorem State.nat_resetFilters (l : List Nat) (k : Key) : (s.resetFilters l).nat k = s.nat k := rfl
@[simp] theorem State.resetFilters_rcd (l : List Nat) : (s.resetFilters l).rcd = s.rcd := rfl

theorem foldl_resetFilter (x : Nat) (l : List Nat) (f : FieldIo) (h : x ∈ l ∨ (Tbl.get 0 f.since x = 0 ∧ Tbl.get 0 f.run x = 0)) :
    Tbl.get 0 (l.foldl (fun f x => { f with run := f.run.put 0 x 0, since := f.since.put 0 x 0 }) f).since x = 0
      ∧ Tbl.get 0 (l.foldl (fun f x => { f with run := f.run.put 0 x 0, since := f.since.put 0 x 0 }) f).run x = 0 := by
  induction l generalizing f with
  | nil => simpa using h
  | cons a l ih =>
    refine ih _ ?_
    by_cases hax : a = x
    · subst hax
      simp
    · simp only [ne_eq, hax, not_false_eq_true, Tbl.get_put_other]
      simpa [Ne.symm hax] using h

theorem State.resetFilters_at (l : List Nat) (x : Nat) (h : x ∈ l) :
    Tbl.get 0 (s.resetFilters l).fio.since x = 0 ∧ Tbl.get 0 (s.resetFilters l).fio.run x = 0 :=
  foldl_resetFilter x l s.fio (.inl h)

/-- A pass map reads back as it was written (R568). -/
theorem State.heldMap_setBlob (v : BitVec 128) : (s.setBlob Oid.TW_HELD (mapBytes v)).heldMap = v := by
  apply BitVec.eq_of_toNat_eq
  have := v.isLt
  simp [State.heldMap, mapBytes, leNat_leBytes]
  omega

/-! ### The faults of points -/

section

variable (b sink : Bool)

@[simp] theorem State.ptStatusBit_fio (i : Nat) : (s.ptStatusBit p i b).fio = s.fio := by unfold State.ptStatusBit; split <;> rfl

@[simp] theorem State.setPtFault_fio : (s.setPtFault p sink b).fio = s.fio := by simp [State.setPtFault, apply_ite State.fio]

theorem State.setPtFault_keeps {c r q0 q1 q2 : Nat} (h : s.Recorded c r q0 q1 q2) : (s.setPtFault p sink b).Recorded c r q0 q1 q2 := by
  have hbit : ∀ u : State, u.Recorded c r q0 q1 q2 → ∀ i b', (u.ptStatusBit p i b').Recorded c r q0 q1 q2 := by
    intro u hu i b'
    unfold State.ptStatusBit
    split <;> exact hu
  simp only [State.setPtFault]
  generalize (if sink = true then (s.ptAux p).sinkFault else (s.ptAux p).srcFault) = x
  split
  · exact h
  · exact State.event_keeps _ _ _ _ _ (hbit (s.setPtAux p _) h _ _)

/-- The fault of a point changes registers of the point area alone, beside the count of dropped records. -/
theorem State.get_setPtFault (k : Key) (hk : k.oid < 0x80000000) (hdrop : Oid.REC_DROPPED.oid ≠ k.oid) :
    (s.setPtFault p sink b).get k = s.get k := by
  have hne : (Oid.PT_STATUS p).oid ≠ k.oid := by
    simp
    omega
  have hbit : ∀ u : State, ∀ i b', (u.ptStatusBit p i b').get k = u.get k := by
    intro u i b'
    unfold State.ptStatusBit
    split
    · rfl
    · simp only [State.get_markSubs, State.get_setPtAux, ne_eq, hne, not_false_eq_true, State.get_setBit_ne]
  simp only [State.setPtFault]
  generalize (if sink = true then (s.ptAux p).sinkFault else (s.ptAux p).srcFault) = x
  split
  · rfl
  · rw [State.get_event _ _ _ _ _ _ hdrop, hbit, State.get_setPtAux]

end

section

variable (l : List Nat)

@[simp] theorem State.faultSources_fio : (s.faultSources l).fio = s.fio := by
  unfold State.faultSources
  induction l generalizing s with
  | nil => rfl
  | cons a l ih => simp [ih]

theorem State.faultSources_keeps {c r q0 q1 q2 : Nat} (h : s.Recorded c r q0 q1 q2) : (s.faultSources l).Recorded c r q0 q1 q2 := by
  unfold State.faultSources
  induction l generalizing s with
  | nil => exact h
  | cons a l ih => exact ih _ (s.setPtFault_keeps a true false h)

theorem State.get_faultSources (k : Key) (hk : k.oid < 0x80000000) (hdrop : Oid.REC_DROPPED.oid ≠ k.oid) :
    (s.faultSources l).get k = s.get k := by
  unfold State.faultSources
  induction l generalizing s with
  | nil => rfl
  | cons a l ih => rw [List.foldl_cons, ih, State.get_setPtFault _ _ _ _ _ hk hdrop]

end

theorem State.sagEnds_clause (g : Fin 8) (forUs : Nat) (hup : s.up .bus = true) (hroom : s.Room) (hmv : 19500 < mv) (hfor : 50000 ≤ forUs)
    (hlow : s.bit (Oid.FG_STATUS g.val) 1 = true) :
    ∃ t, exec (.fioSupplyRestored g mv forUs) s = .next t ∧ t.nat (Oid.FG_SUPPLY_MV g.val) = mv
        ∧ t.bit (Oid.FG_STATUS g.val) 1 = false
        ∧ t.bit (Oid.FG_STATUS g.val) 3 = (s.bit (Oid.FG_STATUS g.val) 3 || s.nat (Oid.FG_RESTORE g.val) == 1)
        ∧ t.bit (Oid.FG_STATUS g.val) 0 = s.bit (Oid.FG_STATUS g.val) 0
        ∧ t.Recorded 0x0E03 g.val (s.nat (Oid.FG_RESTORE g.val)) 0 0 ∧ t.fio = s.fio := by
  have hg := g.isLt
  have hend : s.start.sagEnds g.val mv forUs
      = (if s.nat (Oid.FG_RESTORE g) = 1 then
          ((s.start.setN (Oid.FG_SUPPLY_MV g) mv).setBit (Oid.FG_STATUS g) 1 false).setBit (Oid.FG_STATUS g) 3 true
        else (s.start.setN (Oid.FG_SUPPLY_MV g) mv).setBit (Oid.FG_STATUS g) 1 false).eventOf 0x0E03 g (s.nat (Oid.FG_RESTORE g)) := by
    by_cases hr : s.nat (Oid.FG_RESTORE g) = 1 <;> simp (disch := solve | simp | (simp; omega)) [State.sagEnds, State.measureSupply, hup, hmv, hfor, hlow, hr]
  refine ⟨_, congrArg Host.Outcome.next hend, ?_⟩
  have hw : s.rcd.waitingCount < 32768 := by simp at hroom; omega
  by_cases hr : s.nat (Oid.FG_RESTORE g) = 1
  · rw [if_pos hr]
    simp (disch := solve | simp | (simp; omega)) [hr]
    exact State.eventOf_recorded _ _ _ _ _ _ (by simpa using hw)
  · rw [if_neg hr]
    simp (disch := solve | simp | (simp; omega)) [hr]
    exact State.eventOf_recorded _ _ _ _ _ _ (by simpa using hw)

theorem State.suspendInputs_clause (g : Fin 8) (hup : s.up .bus = true) (hroom : s.Room) (hmv : mv < 15000)
    (hlow : s.bit (Oid.FG_STATUS g.val) 2 = false) :
      ∃ t, exec (.inputsSuspend g mv) s = .next t ∧ t.nat (Oid.FG_SUPPLY_MV g.val) = mv ∧ t.bit (Oid.FG_STATUS g.val) 2 = true
        ∧ t.Recorded 0x0E04 g.val 0 mv 0 ∧ t.fio = s.fio ∧ (∀ x : Nat, x / 8 = g.val → t.fioValid x = false) := by
  have hg := g.isLt
  have hsus : s.start.suspendInputs g.val mv
      = State.faultSources (((s.start.setN (Oid.FG_SUPPLY_MV g) mv).setBit (Oid.FG_STATUS g) 2 true).eventOf 0x0E04 g 0 mv)
        (((((s.start.setN (Oid.FG_SUPPLY_MV g) mv).setBit (Oid.FG_STATUS g) 2 true).eventOf 0x0E04 g 0 mv).groupInputs g).flatMap
          (State.fioSources (((s.start.setN (Oid.FG_SUPPLY_MV g) mv).setBit (Oid.FG_STATUS g) 2 true).eventOf 0x0E04 g 0 mv))) := by
    simp (disch := solve | simp | (simp; omega)) [State.suspendInputs, State.measureSupply, hup, hmv, hlow]
  have hbit : ∀ (u : State) l, (u.faultSources l).bit (Oid.FG_STATUS g) 2 = u.bit (Oid.FG_STATUS g) 2 := fun u l => by
    rw [State.bit, State.nat, State.get_faultSources _ _ _ (by simp; omega) (by simp; omega)]
    rfl
  refine ⟨_, congrArg Host.Outcome.next hsus, ?_, ?_, ?_, ?_, ?_⟩
  · rw [State.nat, State.get_faultSources _ _ _ (by simp; omega) (by simp; omega)]
    simp (disch := solve | simp | (simp; omega))
  · simp (disch := solve | simp | (simp; omega)) [hbit]
  · refine State.faultSources_keeps _ _ (State.eventOf_recorded _ _ _ _ _ _ ?_)
    simp at hroom ⊢
    omega
  · simp
  · intro x hx
    simp (disch := solve | simp | (simp; omega)) [State.fioValid, hx, hbit]

theorem State.resumeInputs_clause (g : Fin 8) (forUs : Nat) (hup : s.up .bus = true) (hroom : s.Room) (hmv : 15000 ≤ mv) (hfor : 10000 ≤ forUs)
    (hlow : s.bit (Oid.FG_STATUS g.val) 2 = true) :
      ∃ t, exec (.inputsResume g mv forUs) s = .next t ∧ t.nat (Oid.FG_SUPPLY_MV g.val) = mv ∧ t.bit (Oid.FG_STATUS g.val) 2 = false
        ∧ t.Recorded 0x0E04 g.val 1 mv 0
        ∧ (∀ x : Nat, x / 8 = g.val → Tbl.get 0 t.fio.since x = 0 ∧ Tbl.get 0 t.fio.run x = 0) := by
  have hg := g.isLt
  have hres : s.start.resumeInputs g.val mv forUs = (((s.start.setN (Oid.FG_SUPPLY_MV g) mv).resetFilters ((List.range 8).map (8 * g.val + ·))).setBit
      (Oid.FG_STATUS g) 2 false).eventOf 0x0E04 g 1 mv := by
    simp (disch := solve | simp | (simp; omega)) [State.resumeInputs, State.measureSupply, hup, hmv, hlow, hfor, State.resetFilters]
  refine ⟨_, congrArg Host.Outcome.next hres, ?_, ?_, ?_, ?_⟩
  · simp (disch := solve | simp | (simp; omega))
  · simp (disch := solve | simp | (simp; omega))
  · refine State.eventOf_recorded _ _ _ _ _ _ ?_
    simp at hroom ⊢
    omega
  · intro x hx
    simp only [State.eventOf_fio, State.setBit_fio]
    exact State.resetFilters_at _ _ x (List.mem_map.2 ⟨x % 8, List.mem_range.2 (by omega), by omega⟩)

/-- The low byte of a map of the field channels has each of its eight bits. -/
theorem allOnes_byte (j : Fin 8) : (255#64)[j.val] = true := by
  revert j
  decide

theorem State.groupUp_clause (g : Fin 8) :
    (∃ t, exec (.groupPowerUp g mv) s = .next t ∧ t.nat (Oid.FG_STATUS g.val) = 2
        ∧ (∀ x : Nat, x / 8 = g.val → t.heldMap.getLsbD x = false)
        ∧ (∀ k : Key, k.oid ≠ (Oid.FG_STATUS g.val).oid → k.oid ≠ (Oid.FG_SUPPLY_MV g.val).oid → t.get k = s.get k) ∧ t.rcd = s.rcd) := by
  have hg := g.isLt
  refine ⟨_, rfl, ?_, ?_, ?_, ?_⟩
  · simp (disch := solve | simp | (simp; omega)) [State.groupUp]
  · intro x hx
    have hx' : x < 64 := by omega
    rw [State.groupUp, State.heldMap_setBlob, BitVec.getLsbD_and, BitVec.getLsbD_not, BitVec.getLsbD_setWidth, BitVec.getLsbD_shiftLeft]
    have hin : (255#64).getLsbD (x - 8 * g.val) = true := by
      rw [BitVec.getLsbD_eq_getElem (by omega)]
      exact allOnes_byte ⟨x - 8 * g.val, by omega⟩
    simp [hin]
    omega
  · intro k h1 h2
    simp only [State.groupUp, State.get_setBlob, ne_eq, h1.symm, h2.symm, not_false_eq_true, State.get_setN_ne]
    rfl
  · simp [State.groupUp]

@[simp] theorem State.takeMode_clk (x) : (s.takeMode x).clk = s.clk := by
  simp only [State.takeMode]
  split <;> simp

@[simp] theorem State.sampleChannel_clk (x level) : (s.sampleChannel x level).clk = s.clk := by
  simp [State.sampleChannel, apply_ite State.clk]

theorem State.sampleGroup_clause (g : Fin 8) (hup : s.up .bus = true) :
    (∀ levels : BitVec 8, ∃ t, exec (.fgSampleTick g levels) s = .next t ∧ t.clk = (s.toPhase (us (s.nat (Oid.FG_SAMPLE g.val))) (us 50)).clk) := by
  intro levels
  refine ⟨_, rfl, ?_⟩
  rw [State.sampleGroup, State.up_start, if_pos hup, State.foldl_keeps State.clk (fun s k => s.sampleChannel_clk _ _)]
  rfl
/-- Settles O52: every clause writes FG_SUPPLY_MV and then the status bits of its group, which no other operation of the clause reads or writes. -/
theorem fieldSupply : Obligations.FieldSupply := by
  unfold Obligations.FieldSupply
  intro s g mv forUs hup hroom
  exact ⟨s.sag_clause mv g forUs hup hroom, s.sagEnds_clause mv g forUs hup hroom, s.suspendInputs_clause mv g hup hroom,
    s.resumeInputs_clause mv g forUs hup hroom, s.groupUp_clause mv g, s.sampleGroup_clause g hup⟩

end

end Sys2Proof.Machine
end

section
/-! The causes of a field group's FAULT (R603, R606, R607). -/

namespace Sys2Proof.Machine

section
variable (s : State)

/-- The first cause of a group's fault is counted and recorded (R606). -/
theorem State.groupFault_first (g : Nat) (hg : g < 8) (hroom : s.Room) (h : s.bit (Oid.FG_STATUS g) 0 = false) :
    (s.groupFault g).Recorded 0x0E01 g ((s.groupFault g).nat (Oid.FG_STATUS g)) 0 0
      ∧ (s.groupFault g).nat (Oid.FG_FAULTS g) = min (s.nat (Oid.FG_FAULTS g) + 1) 4294967295 := by
  have hne : (Oid.FG_FAULTS g).oid ≠ (Oid.FG_STATUS g).oid := by simp
  have hdrop : Oid.REC_DROPPED.oid ≠ (Oid.FG_STATUS g).oid := by simp; omega
  have heq : s.groupFault g = ((s.setBit (Oid.FG_STATUS g) 0 true).count (Oid.FG_FAULTS g) 32).eventOf 0x0E01 g
      (((s.setBit (Oid.FG_STATUS g) 0 true).count (Oid.FG_FAULTS g) 32).nat (Oid.FG_STATUS g)) := by
    simp [State.groupFault, h]
  rw [heq]
  constructor
  · rw [State.nat_eventOf _ _ _ _ _ _ _ hdrop]
    exact State.eventOf_recorded _ _ _ _ _ _ (by simp at hroom ⊢; omega)
  · simp (disch := solve | simp | (simp; omega))

theorem State.switchOn_of_thermal {s : State} {y : Nat} (h : s.fio.thermal.getLsbD y = true) : s.switchOn y = false := by
  unfold State.switchOn
  simp [h]

/-- Settles O53: each cause sets its bit of the group's causes, and the group's FAULT with it. -/
theorem fieldGroupFaults : Obligations.FieldGroupFaults := by
  unfold Obligations.FieldGroupFaults
  intro s x forT hroom
  have hx : x.val / 8 < 8 := by omega
  refine ⟨fun h => ?_, fun h => ?_, ?_, fun hfor hon => ?_, fun hrow hfor hpassed => ?_⟩
  · have hoff : s.start.thermalOff x.val = s.start := by
      have h' : s.start.fioMode x.val ≠ 3 := h
      simp [State.thermalOff, h']
    exact congrArg Host.Outcome.next hoff
  · have h' : s.start.fioMode x.val = 3 := h
    have hoff : s.start.thermalOff x.val
        = { s.start with fio := { s.fio with thermal := s.fio.thermal ||| BitVec.twoPow 64 x.val } }.groupFault (x.val / 8) := by
      simp [State.thermalOff, h']
    refine ⟨_, congrArg Host.Outcome.next hoff, ?_, ?_, ?_⟩
    · simp [State.bit_groupFault, hx]
    · exact State.switchOn_of_thermal (by simp)
    · simp
  · refine ⟨_, rfl, ?_, rfl, rfl, rfl, ?_⟩
    · simp
    · intro y hy hne
      simpa [hy] using fun _ => hne
  · have hlim : s.start.limitFor x.val forT
        = { s.start with fio := { s.fio with limit := s.fio.limit ||| BitVec.twoPow 64 x.val } }.groupFault (x.val / 8) := by
      have hon' : s.start.switchOn x.val = true := hon
      simp [State.limitFor, show forT ≠ 0 by omega, hfor, hon']
    refine ⟨_, congrArg Host.Outcome.next hlim, ?_, ?_, fun hfirst => ?_⟩
    · simp [State.bit_groupFault, hx]
    · simp
    · exact State.groupFault_first _ _ hx hroom hfirst
  · have hback : s.start.readback x.val (!s.switchOn x.val) forT
        = { s.start with fio := { s.fio with disagree := s.fio.disagree ||| BitVec.twoPow 64 x.val } }.groupFault (x.val / 8) := by
      have hrow' : s.start.drivenByRow6 x.val = true := hrow
      have hsw : s.start.switchOn x.val = s.switchOn x.val := rfl
      have hp : s.start.passed (Tbl.get 0 s.start.fio.changedAt x.val) (ms 2) = true := hpassed
      simp only [State.readback, hrow', hsw, hfor, hp]
      simp
    refine ⟨_, congrArg Host.Outcome.next hback, ?_, ?_⟩
    · simp [State.bit_groupFault, hx]
    · simp
end

end Sys2Proof.Machine
end

section
/-! The silence watchdog (R612 to R614): the commit that retriggers it, and the safe state that its expiry takes. -/

namespace Sys2Proof.Machine

section
variable (s : State)
theorem State.switchOn_reach (t x : Nat) : (s.reach t).switchOn x = s.switchOn x := rfl
theorem State.latchHolds_reach (t x : Nat) : (s.reach t).latchHolds x = s.latchHolds x := rfl
theorem State.le_reach_clk (t : Nat) : t ≤ (s.reach t).clk := by
  simp only [State.reach, State.cycles]
  omega

/-! ### The commit of the output image -/

/-- The retrigger after an expiry, before its record (R614). -/
def State.wdCleared : State := (List.range 8).foldl (fun s g => s.setBit (Oid.FG_STATUS g) 4 false) (s.setN Oid.FIO_WD_STATE 0)

theorem bit_foldl_clear (g : Nat) (l : List Nat) (h : g ∈ l ∨ s.bit (Oid.FG_STATUS g) 4 = false) :
    (l.foldl (fun s g => s.setBit (Oid.FG_STATUS g) 4 false) s).bit (Oid.FG_STATUS g) 4 = false := by
  induction l generalizing s with
  | nil => simpa using h
  | cons a l ih =>
    refine ih _ ?_
    by_cases hag : a = g
    · subst hag
      simp
    · have hne : (Oid.FG_STATUS a).oid ≠ (Oid.FG_STATUS g).oid := by simp; omega
      rw [State.bit_setBit_ne _ _ _ _ _ _ hne]
      simpa [Ne.symm hag] using h

theorem State.bit_withFio (f : FieldIo) (k : Key) (i : Nat) : State.bit { s with fio := f } k i = s.bit k i := rfl

theorem State.bit_wdCleared (g : Nat) (hg : g < 8) : s.wdCleared.bit (Oid.FG_STATUS g) 4 = false := by
  unfold State.wdCleared
  exact bit_foldl_clear _ g (List.range 8) (.inl (List.mem_range.2 hg))

@[simp] theorem State.wdCleared_fio : s.wdCleared.fio = s.fio :=
  State.foldl_keeps State.fio (fun u g => u.setBit_fio (Oid.FG_STATUS g) 4 false) _ _

@[simp] theorem State.wdCleared_clk : s.wdCleared.clk = s.clk :=
  State.foldl_keeps State.clk (fun u g => u.setBit_clk (Oid.FG_STATUS g) 4 false) _ _

theorem State.nat_wdCleared : s.wdCleared.nat Oid.FIO_WD_STATE = 0 := by
  simp [State.wdCleared, List.range_succ]

theorem State.wdRestore_of_expired (h : s.nat Oid.FIO_WD_STATE ≠ 0) :
    s.wdRestore = { s.wdCleared with fio := { s.fio with safeHeld := 0 } }.event 0x0E06 ((s.clk - s.fio.expiredAt) / 1000000) := by
  rw [State.wdRestore, if_neg h, ← State.wdCleared_fio]
  rfl

theorem State.wdRestore_of_served (h : s.nat Oid.FIO_WD_STATE = 0) : s.wdRestore = s := if_pos h

theorem State.nat_wdRestore : s.wdRestore.nat Oid.FIO_WD_STATE = 0 := by
  by_cases h : s.nat Oid.FIO_WD_STATE = 0
  · rw [s.wdRestore_of_served h, h]
  · rw [s.wdRestore_of_expired h, State.nat_event _ _ _ _ _ _ (by simp)]
    exact s.nat_wdCleared

theorem State.wdRestore_image : s.wdRestore.fio.image = s.fio.image := by
  by_cases h : s.nat Oid.FIO_WD_STATE = 0
  · rw [s.wdRestore_of_served h]
  · rw [s.wdRestore_of_expired h]
    simp

theorem State.wdRestore_clk : s.wdRestore.clk = s.clk := by
  by_cases h : s.nat Oid.FIO_WD_STATE = 0
  · rw [s.wdRestore_of_served h]
  · rw [s.wdRestore_of_expired h]
    simp

/-- The watchdog starts its time again (R612). -/
def State.retrigger (n : Nat) : State := { s with fio := { s.fio with wdAt := n } }

theorem State.retrigger_clk (n : Nat) : (s.retrigger n).clk = s.clk := rfl
theorem State.retrigger_fio (n : Nat) : (s.retrigger n).fio = { s.fio with wdAt := n } := rfl
theorem State.nat_retrigger (n : Nat) (k : Key) : (s.retrigger n).nat k = s.nat k := rfl
theorem State.bit_retrigger (n : Nat) (k : Key) (i : Nat) : (s.retrigger n).bit k i = s.bit k i := rfl

/-- The state with its output image committed (R612). -/
def State.imageTaken : State := { s.start.toMultiple (ms 1) with fio := { s.fio with image := s.outImage } }

theorem State.outImage_congr {s t : State} (h : t.objs = s.objs) : t.outImage = s.outImage := by
  have hflag : State.flag t = State.flag s := funext fun k => by simp only [State.flag, State.get, h]
  rw [State.outImage, hflag, State.outImage]

theorem State.imageTaken_clk : s.imageTaken.clk = (s.toMultiple (ms 1)).clk := by
  have htime : s.start.time = s.time := rfl
  simp only [State.imageTaken, State.toMultiple, htime]
  simp only [State.cycles, State.start_clk]

theorem State.imageTaken_image : s.imageTaken.fio.image = s.outImage := by simp only [State.imageTaken]

theorem State.commitOutputs_of_up (hup : s.up .bus = true) : s.start.commitOutputs true
    = if s.imageTaken.gate then s.imageTaken.wdRestore.retrigger s.imageTaken.clk
      else s.imageTaken := by
  have himage : (s.start.toMultiple (ms 1)).outImage = s.outImage := State.outImage_congr rfl
  simp only [State.commitOutputs, State.up_start, hup, if_true, Bool.and_true, himage]
  rfl

theorem State.outputCommit_retriggers (hup : s.up .bus = true) (hgate : s.gate = true) :
      ∃ t, exec (.outputCommit true) s = .next t ∧ t.fio.wdAt = t.clk ∧ t.clk = (s.toMultiple (ms 1)).clk ∧ t.fio.image = s.outImage ∧ t.nat Oid.FIO_WD_STATE = 0
        ∧ (s.nat Oid.FIO_WD_STATE ≠ 0 → t.fio.safeHeld = 0 ∧ ∀ g : Fin 8, t.bit (Oid.FG_STATUS g.val) 4 = false) := by
  have hgate' : s.imageTaken.gate = true := hgate
  have hcommit : s.start.commitOutputs true = s.imageTaken.wdRestore.retrigger s.imageTaken.clk := by
    rw [s.commitOutputs_of_up hup, if_pos hgate']
  refine ⟨_, congrArg Host.Outcome.next hcommit, ?_, ?_, ?_, ?_, fun h => ⟨?_, fun g => ?_⟩⟩
  · rw [State.retrigger_clk, State.retrigger_fio, State.wdRestore_clk]
  · rw [State.retrigger_clk, State.wdRestore_clk, State.imageTaken_clk]
  · rw [State.retrigger_fio, State.wdRestore_image, State.imageTaken_image]
  · rw [State.nat_retrigger, State.nat_wdRestore]
  · rw [State.retrigger_fio, s.imageTaken.wdRestore_of_expired h, State.event_fio]
  · rw [State.bit_retrigger, s.imageTaken.wdRestore_of_expired h, State.bit_event _ _ _ _ _ _ _ (by simp; omega), State.bit_withFio]
    exact s.imageTaken.bit_wdCleared g.val g.isLt

theorem State.outputCommit_withoutGate (hup : s.up .bus = true) (hgate : s.gate = false) :
      ∃ t, exec (.outputCommit true) s = .next t ∧ t.fio = { s.fio with image := s.outImage } ∧ t.objs = s.objs ∧ t.rcd = s.rcd := by
  have hgate' : s.imageTaken.gate = false := hgate
  have hcommit : s.start.commitOutputs true = s.imageTaken := by
    rw [s.commitOutputs_of_up hup, if_neg (by simp [hgate'])]
  exact ⟨_, congrArg Host.Outcome.next hcommit, by rfl, by rfl, by rfl⟩

/-! ### The expiry -/

/-- A set of channels as a mask. -/
def maskOf (p : Nat → Bool) (l : List Nat) : BitVec 64 := l.foldl (fun v x => if p x then v ||| BitVec.twoPow 64 x else v) 0

theorem getLsbD_maskFrom (p : Nat → Bool) (l : List Nat) (v : BitVec 64) (y : Nat) (hy : y < 64) :
    (l.foldl (fun v x => if p x then v ||| BitVec.twoPow 64 x else v) v).getLsbD y = (v.getLsbD y || (decide (y ∈ l) && p y)) := by
  induction l generalizing v with
  | nil => simp
  | cons a l ih =>
    rw [List.foldl_cons, ih]
    by_cases hya : y = a
    · subst hya
      cases hp : p y <;> simp [hy]
    · cases hp : p a <;> simp [hya, hy, Ne.symm hya]

theorem getLsbD_maskOf (p : Nat → Bool) (l : List Nat) (y : Nat) (hy : y < 64) : (maskOf p l).getLsbD y = (decide (y ∈ l) && p y) := by
  rw [maskOf, getLsbD_maskFrom _ _ _ _ hy]
  simp

theorem State.foldl_mem_keeps {α β : Type} (F : State → β) {g : State → α → State} (l : List α) (hg : ∀ s, ∀ a ∈ l, F (g s a) = F s) (s : State) :
    F (l.foldl g s) = F s := by
  induction l generalizing s with
  | nil => rfl
  | cons a l ih =>
    rw [List.foldl_cons, ih (fun s b hb => hg s b (List.mem_cons_of_mem _ hb)), hg _ _ (List.mem_cons_self ..)]

theorem bit_foldl_set (x : Nat) (l : List Nat) (h : x ∈ l) :
    (l.foldl (fun s x => s.setBit (Oid.FG_STATUS (x / 8)) 4 true) s).bit (Oid.FG_STATUS (x / 8)) 4 = true := by
  have hset : ∀ (u : State) (y : Nat), u.bit (Oid.FG_STATUS (x / 8)) 4 = true →
      (u.setBit (Oid.FG_STATUS (y / 8)) 4 true).bit (Oid.FG_STATUS (x / 8)) 4 = true := fun u y hu => by
    by_cases hy : y / 8 = x / 8
    · simp [hy]
    · rw [State.bit_setBit_ne _ _ _ _ _ _ (by simp; omega), hu]
  have hkeep : ∀ (l : List Nat) (u : State), u.bit (Oid.FG_STATUS (x / 8)) 4 = true →
      (l.foldl (fun s x => s.setBit (Oid.FG_STATUS (x / 8)) 4 true) u).bit (Oid.FG_STATUS (x / 8)) 4 = true := by
    intro l
    induction l with
    | nil => exact fun u hu => hu
    | cons a l ih => exact fun u hu => ih _ (hset u a hu)
  induction l generalizing s with
  | nil => cases h
  | cons a l ih =>
    rcases List.mem_cons.1 h with rfl | h
    · exact hkeep l _ (by simp)
    · exact ih _ h

/-! ### Latches that the watchdog opens -/

section

variable (b : Nat) (l : List Nat)

theorem State.openLatch_timeout : s.openLatch b (some 2)
    = if s.latched b then (s.setBlob Oid.TW_HELD (mapBytes (s.heldMap &&& ~~~ BitVec.twoPow 128 b))).event 0x060D b 2 else s := by
  simp [State.openLatch]

/-- The latches of some outputs open by the timeout (R613). -/
def State.openLatches (l : List Nat) : State := l.foldl (fun s x => s.openLatch x (some 2)) s

theorem State.openLatches_fio : (s.openLatches l).fio = s.fio :=
  State.foldl_keeps State.fio (fun u x => by rw [u.openLatch_timeout]; split <;> simp) _ _

theorem State.openLatches_clk : (s.openLatches l).clk = s.clk :=
  State.foldl_keeps State.clk (fun u x => by rw [u.openLatch_timeout]; split <;> simp) _ _

theorem State.get_openLatches (k : Key) (h : Oid.REC_DROPPED.oid ≠ k.oid) : (s.openLatches l).get k = s.get k :=
  State.foldl_keeps (fun u => u.get k) (fun u x => by
    rw [u.openLatch_timeout]
    split
    · rw [State.get_event _ _ _ _ _ _ h, State.get_setBlob]
    · rfl) _ _

theorem State.heldMap_event (code p0 p1 p2 : Nat) : (s.event code p0 p1 p2).heldMap = s.heldMap := by
  simp [State.heldMap]

theorem State.heldMap_openLatch (y : Nat) (hy : y < 128) : (s.openLatch b (some 2)).heldMap.getLsbD y = (s.heldMap.getLsbD y && decide (y ≠ b)) := by
  rw [s.openLatch_timeout]
  split
  · rw [State.heldMap_event, State.heldMap_setBlob]
    simp [hy, eq_comm]
  · next h =>
    by_cases hyb : y = b
    · subst hyb
      simp [State.latched] at h
      simp [h]
    · simp [hyb]

/-- The latches of a list open, and no others close (R613). -/
theorem State.heldMap_openLatches (y : Nat) (hy : y < 128) :
    (s.openLatches l).heldMap.getLsbD y = (s.heldMap.getLsbD y && decide (y ∉ l)) := by
  induction l generalizing s with
  | nil => simp [State.openLatches]
  | cons a l ih =>
    rw [show s.openLatches (a :: l) = (s.openLatch a (some 2)).openLatches l from rfl, ih, s.heldMap_openLatch a y hy, Bool.and_assoc]
    simp

end

/-- The outputs whose latches this module holds (R613). -/
def State.safeOutputs : List Nat := (List.range 64).filter (fun x => s.fioMode x == 3 && s.latchHolds x)

theorem State.mem_safeOutputs (x : Nat) : x ∈ s.safeOutputs ↔ x < 64 ∧ s.fioMode x = 3 ∧ s.latchHolds x = true := by
  simp [State.safeOutputs]

/-- The safe state of some outputs, and the count of the expiry (R613). -/
def State.heldSafe (l : List Nat) : State :=
  ({ s with fio := { s.fio with safeHeld := l.foldl (fun v x => v ||| BitVec.twoPow 64 x) (0 : BitVec 64), safeLevel := maskOf s.safeLevelOf l,
                                expiredAt := s.clk } }.setN Oid.FIO_WD_STATE 1).count Oid.FIO_WD_EXPIRIES 32

/-- The groups of some outputs report that they are in the safe state (R613). -/
def State.reportSafe (l : List Nat) : State := l.foldl (fun s x => s.setBit (Oid.FG_STATUS (x / 8)) 4 true) s

/-- The instant at which the watchdog expires (R613). -/
def State.wdDue : State := s.reach (s.fio.wdAt + ms (s.nat Oid.FIO_WD_TIME))

theorem State.wdExpire_of_not_due (h : (s.pd .aon && s.nat Oid.FIO_WD_STATE == 0) = false) : s.wdExpire = s :=
  if_neg (by rw [h]; exact Bool.false_ne_true)

theorem State.wdExpire_of_due (hpd : s.pd .aon = true) (h0 : s.nat Oid.FIO_WD_STATE = 0) :
    s.wdExpire = (((s.wdDue.heldSafe s.wdDue.safeOutputs).reportSafe s.wdDue.safeOutputs).event 0x0E05 (s.wdDue.nat Oid.FIO_WD_TIME)
      s.wdDue.safeOutputs.length).openLatches (s.wdDue.safeOutputs.filter (fun x => s.wdDue.heldMap.getLsbD x)) := by
  unfold State.wdExpire
  rw [if_pos (by simp [hpd, h0])]
  rfl

section

variable (l : List Nat)

theorem State.heldSafe_fio : (s.heldSafe l).fio = { s.fio with safeHeld := l.foldl (fun v x => v ||| BitVec.twoPow 64 x) (0 : BitVec 64), safeLevel := maskOf s.safeLevelOf l, expiredAt := s.clk } := rfl

theorem State.heldSafe_clk : (s.heldSafe l).clk = s.clk := rfl

theorem State.heldMap_heldSafe : (s.heldSafe l).heldMap = s.heldMap := rfl

theorem State.nat_heldSafe : (s.heldSafe l).nat Oid.FIO_WD_STATE = 1 := by simp [State.heldSafe]

theorem State.reportSafe_fio : (s.reportSafe l).fio = s.fio := State.foldl_keeps State.fio (fun v x => v.setBit_fio (Oid.FG_STATUS (x / 8)) 4 true) _ _

theorem State.reportSafe_clk : (s.reportSafe l).clk = s.clk := State.foldl_keeps State.clk (fun v x => v.setBit_clk (Oid.FG_STATUS (x / 8)) 4 true) _ _

theorem State.heldMap_reportSafe : (s.reportSafe l).heldMap = s.heldMap :=
  State.foldl_keeps State.heldMap (fun v x => by simp [State.heldMap]) _ _

theorem State.nat_reportSafe (hl : ∀ x ∈ l, x < 64) : (s.reportSafe l).nat Oid.FIO_WD_STATE = s.nat Oid.FIO_WD_STATE :=
  State.foldl_mem_keeps (fun v => v.nat Oid.FIO_WD_STATE) l (fun v x hx => v.nat_setBit_ne _ _ _ _ (by have := hl x hx; simp; omega)) s

theorem State.bit_reportSafe (x : Nat) (hx : x ∈ l) : (s.reportSafe l).bit (Oid.FG_STATUS (x / 8)) 4 = true := bit_foldl_set s x l hx

end

/-- The outputs that the watchdog takes into their safe state (R613). -/
theorem State.outputExpiry (hpd : s.pd .aon = true) (h0 : s.nat Oid.FIO_WD_STATE = 0) :
      ∃ t, exec .fioWdExpired s = .next t ∧ t.nat Oid.FIO_WD_STATE = 1
        ∧ s.fio.wdAt + 1000000 * s.nat Oid.FIO_WD_TIME ≤ t.clk
        ∧ (∀ x : Nat, x < 64 → t.fio.safeHeld.getLsbD x = (s.fioMode x == 3 && s.latchHolds x))
        ∧ (∀ x : Nat, x < 64 → s.fioMode x = 3 → s.latchHolds x = true →
            t.fio.safeLevel.getLsbD x
              = (if s.nat (Oid.FIO_SAFE x) = 0 then false else if s.nat (Oid.FIO_SAFE x) = 1 then true else s.switchOn x)
            ∧ t.bit (Oid.FG_STATUS (x / 8)) 4 = true ∧ t.heldMap.getLsbD x = false) := by
  have hout : ∀ x, x ∈ s.start.wdDue.safeOutputs ↔ x < 64 ∧ s.fioMode x = 3 ∧ s.latchHolds x = true := s.start.wdDue.mem_safeOutputs
  refine ⟨_, congrArg Host.Outcome.next (s.start.wdExpire_of_due hpd h0), ?_, ?_, fun x hx => ?_, fun x hx hmode hholds => ?_⟩
  · rw [State.nat, State.get_openLatches _ _ _ (by simp), ← State.nat, State.nat_event _ _ _ _ _ _ (by simp),
      State.nat_reportSafe _ _ (fun x hx => ((hout x).1 hx).1), State.nat_heldSafe]
  · rw [State.openLatches_clk, State.event_clk, State.reportSafe_clk, State.heldSafe_clk, Nat.mul_comm]
    exact s.start.le_reach_clk _
  · rw [State.openLatches_fio, State.event_fio, State.reportSafe_fio, State.heldSafe_fio]
    have := getLsbD_maskOf (fun _ => true) s.start.wdDue.safeOutputs x hx
    simp only [maskOf, if_true] at this
    rw [this]
    simp [hout, hx]
    rfl
  · have hin := (hout x).2 ⟨hx, hmode, hholds⟩
    refine ⟨?_, ?_, ?_⟩
    · rw [State.openLatches_fio, State.event_fio, State.reportSafe_fio, State.heldSafe_fio]
      refine (getLsbD_maskOf s.start.wdDue.safeLevelOf _ x hx).trans ?_
      simp only [hin, decide_true, Bool.true_and]
      rfl
    · rw [State.bit, State.nat, State.get_openLatches _ _ _ (by simp; omega), ← State.nat, State.nat_event _ _ _ _ _ _ (by simp; omega), ← State.bit]
      exact State.bit_reportSafe _ _ x hin
    · rw [State.heldMap_openLatches _ _ _ (by omega), State.heldMap_event, State.heldMap_reportSafe, State.heldMap_heldSafe]
      cases hm : s.start.wdDue.heldMap.getLsbD x
      · rfl
      · simp [List.mem_filter, hin, hm]

/-- Settles O55: the commit restores what an expiry took, and the expiry folds over the outputs whose latches are held. -/
theorem silenceWatchdog : Obligations.SilenceWatchdog := by
  unfold Obligations.SilenceWatchdog
  intro s
  refine ⟨s.outputCommit_retriggers, s.outputCommit_withoutGate, s.outputExpiry, fun h => ?_⟩
  have hno : s.start.wdExpire = s.start := s.start.wdExpire_of_not_due (by
    rcases h with h | h
    · simp [h]
    · simp [h])
  exact congrArg Host.Outcome.next hno

end

end Sys2Proof.Machine
end

section
/-! The path of the recorder (R642, R644, R645): what an offer, a flush and the record of dropped records do. -/

namespace Sys2Proof.Machine

section
variable (s : State) (code src p0 p1 p2 : Nat)

/-- An offer that merges increases REPEAT of the last record alone (R644). -/
theorem State.offer_of_merges (h : s.merges code src p0 p1 p2 = true) : s.offer code src p0 p1 p2 = { s with rcd := s.rcd.mergeLast } :=
  if_pos h

theorem State.offer_of_room (h : s.merges code src p0 p1 p2 = false) (hroom : s.rcd.waitingCount < 32768) :
    s.offer code src p0 p1 p2 = s.accept code src p0 p1 p2 false := by
  rw [State.offer, if_neg (by simp [h]), if_neg (by omega)]

theorem State.ring_of_merges (h : s.merges code src p0 p1 p2 = true) : ∃ r rest, s.rcd.ring = r :: rest := by
  unfold State.merges Recorder.last at h
  cases hl : s.rcd.ring with
  | nil => simp [hl] at h
  | cons r rest => exact ⟨r, rest, rfl⟩

theorem Recorder.mergeLast_ring {r : Recorder} {x : Rec} {rest : List Rec} (h : r.ring = x :: rest) :
    r.mergeLast.ring = { x with repeats := min (x.repeats + 1) 65535 } :: rest := by
  unfold Recorder.mergeLast
  rw [h]

@[simp] theorem Recorder.mergeLast_next (r : Recorder) : r.mergeLast.next = r.next := by
  unfold Recorder.mergeLast
  split <;> rfl

@[simp] theorem Recorder.mergeLast_droppedRun (r : Recorder) : r.mergeLast.droppedRun = r.droppedRun := by
  unfold Recorder.mergeLast
  split <;> rfl

@[simp] theorem Recorder.advance_next (r : Recorder) : r.advance.next = r.next + 1 := by
  unfold Recorder.advance
  dsimp only
  split <;> rfl

@[simp] theorem Recorder.advance_droppedRun (r : Recorder) : r.advance.droppedRun = r.droppedRun := by
  unfold Recorder.advance
  dsimp only
  split <;> rfl

/-- An offer while the area has room drops nothing (R645). -/
theorem State.offer_droppedRun (hroom : s.rcd.waitingCount < 32768) : (s.offer code src p0 p1 p2).rcd.droppedRun = s.rcd.droppedRun := by
  cases h : s.merges code src p0 p1 p2
  · rw [s.offer_of_room _ _ _ _ _ h hroom]
    simp [State.accept, State.acceptAt]
  · rw [s.offer_of_merges _ _ _ _ _ h]
    simp

/-! ### Flushing -/

theorem State.flushOne_waiting (r : Rec) : (s.flushOne r).waiting = false := by
  unfold State.flushOne
  split
  · rfl
  · next h =>
    split
    · simpa using h
    · simpa using h

/-- A flush changes nothing of a record but where it is held (R644). -/
theorem State.flushOne_bytes (r : Rec) (n : Nat) : (s.flushOne r).bytes n = r.bytes n ∧ (s.flushOne r).seq = r.seq := by
  unfold State.flushOne
  split
  · exact ⟨rfl, rfl⟩
  · split <;> exact ⟨rfl, rfl⟩

/-- The state after a flush (R644, R645). -/
def State.flushed : State :=
  { s with rcd := { s.rcd with
      ring := (s.rcd.ring.map s.flushOne).filter (fun r => decide (s.recFirst ≤ r.seq))
      freeSince := if decide (32768 ≤ s.rcd.waitingCount) then s.clk else s.rcd.freeSince } }

theorem State.flushed_waiting : s.flushed.rcd.waitingCount = 0 := by
  have hnone : ∀ r ∈ s.flushed.rcd.ring, ¬ r.waiting = true := fun r hr => by
    obtain ⟨x, -, hx⟩ := List.mem_map.1 (List.mem_filter.1 hr).1
    rw [← hx, s.flushOne_waiting]
    exact Bool.false_ne_true
  rw [Recorder.waitingCount, List.filter_eq_nil_iff.2 hnone]
  rfl

/-- The state in which the record of a run of drops is offered: the run is over (R645). -/
def State.dropsTold : State :=
  { s.reach (s.rcd.freeSince + ms 100) with rcd := { (s.reach (s.rcd.freeSince + ms 100)).rcd with droppedRun := 0 } }

/-- A record whose event carries words of 32 bits, as it is accepted (R641). -/
theorem State.accept_words (code src : BitVec 16) (p0 p1 p2 : BitVec 32) :
    (s.accept code.toNat src.toNat p0.toNat p1.toNat p2.toNat false).rcd.ring
      = { seq := s.rcd.next, code := code.toNat, src := src.toNat, optime := s.optime, cycles := s.nat Oid.POWER_CYCLES,
          p0 := p0.toNat, p1 := p1.toNat, p2 := p2.toNat, waiting := true } :: s.rcd.ring := by
  have h : ∀ p : BitVec 32, p.toNat % 4294967296 = p.toNat := fun p => Nat.mod_eq_of_lt p.isLt
  simp [State.accept, State.acceptAt, h]

/-- Settles O57: an offer merges, is accepted or is dropped; a flush changes where records are held; the run of drops is told in one record. -/
theorem recorderPath : Obligations.RecorderPath := by
  unfold Obligations.RecorderPath
  intro s
  refine ⟨fun code src p0 p1 p2 hcode hboot => ?_, fun hup => ?_, fun hrun hroom => ?_⟩
  · have hexec : exec (.eventOffer code src p0 p1 p2) s = .next (s.start.offer code.toNat src.toNat p0.toNat p1.toNat p2.toNat) := by
      have hb : s.start.booted = true := hboot
      have hc : ¬ (code = 0 ∨ (!s.start.booted) = true) := by simp [hb, show code ≠ 0#16 from hcode]
      exact congrArg Host.Outcome.next (if_neg hc)
    refine ⟨fun hm => ?_, fun hm hroom => ?_, fun hm hfull => ?_⟩
    · have hm' : s.start.merges code.toNat src.toNat p0.toNat p1.toNat p2.toNat = true := hm
      obtain ⟨r, rest, hr⟩ := s.ring_of_merges _ _ _ _ _ hm
      rw [State.offer_of_merges _ _ _ _ _ _ hm'] at hexec
      exact ⟨_, hexec, Recorder.mergeLast_next _, rfl, rfl, r, rest, hr, Recorder.mergeLast_ring hr⟩
    · have hm' : s.start.merges code.toNat src.toNat p0.toNat p1.toNat p2.toNat = false := hm
      rw [State.offer_of_room _ _ _ _ _ _ hm' hroom] at hexec
      exact ⟨_, hexec, Recorder.advance_next _, rfl, rfl, s.start.accept_words code src p0 p1 p2⟩
    · have hm' : s.start.merges code.toNat src.toNat p0.toNat p1.toNat p2.toNat = false := hm
      have hfull' : s.start.rcd.waitingCount ≥ 32768 := hfull
      refine ⟨_, hexec, ?_⟩
      unfold State.offer
      rw [if_neg (by simp [hm']), if_pos hfull']
      refine ⟨rfl, rfl, rfl, ?_, fun k hk => ?_, rfl⟩
      · exact State.nat_count_same _ _ _ _
      · exact State.get_count_other _ _ _ _ _ hk.symm
  · have hexec : exec .recordFlush s = .next s.start.flushed := by
      have hup' : ¬ (!s.start.up .mem) = true := by simp [hup]
      exact congrArg Host.Outcome.next (if_neg hup')
    refine ⟨_, hexec, s.start.flushed_waiting, rfl, rfl, rfl, fun r hr hslot => ?_⟩
    obtain ⟨hbytes, hseq⟩ := s.start.flushOne_bytes r r.repeats
    refine ⟨s.start.flushOne r, List.mem_filter.2 ⟨List.mem_map_of_mem hr, ?_⟩, hbytes, hseq⟩
    have hfirst : s.start.recFirst = s.rcd.next - 4194304 := rfl
    rw [hseq, hfirst]
    simp
    omega
  · have hexec : exec .recRecordsDropped s = .next (s.start.dropsTold.event 0x0405 s.rcd.droppedRun s.rcd.firstDrop) := by
      have hc : s.start.rcd.droppedRun ≠ 0 ∧ s.start.rcd.waitingCount < 32768 := ⟨hrun, hroom⟩
      exact congrArg Host.Outcome.next (if_pos hc)
    have hroom' : s.start.dropsTold.rcd.waitingCount < 32768 := hroom
    refine ⟨_, hexec, ?_, ?_, s.start.dropsTold.event_recorded _ _ _ _ hroom'⟩
    · exact (State.offer_droppedRun _ _ _ _ _ _ hroom').trans rfl
    · rw [State.event_clk]
      exact s.start.le_reach_clk _
end

end Sys2Proof.Machine
end

section
/-! The readout port (R656 to R658): what each instruction of the TAP captures, and what a word read changes. -/

namespace Sys2Proof.Machine

section
variable (s : State)

/-! ### The freeze status -/

theorem boolNat_lt_two (b : Bool) : boolNat b < 2 := by cases b <;> decide

theorem testBit_boolNat_sum (p o : Nat) (ho : o < 2 ^ 40) (a b c d : Bool) :
    let v := p * 2 ^ 56 + o * 2 ^ 8 + boolNat a * 8 + boolNat b * 4 + boolNat c * 2 + boolNat d
    v.testBit 0 = d ∧ v.testBit 1 = c ∧ v.testBit 2 = b ∧ v.testBit 3 = a ∧ v / 2 ^ 56 = p ∧ v / 256 % 2 ^ 40 = o := by
  intro v
  have ha := boolNat_lt_two a
  have hb := boolNat_lt_two b
  have hc := boolNat_lt_two c
  have hd := boolNat_lt_two d
  have hbit : ∀ x : Bool, x = decide (boolNat x % 2 = 1) := by decide
  refine ⟨?_, ?_, ?_, ?_, ?_, ?_⟩
  · rw [Nat.testBit_eq_decide_div_mod_eq, hbit d]
    refine decide_eq_decide.2 ?_
    simp only [v]
    omega
  · rw [Nat.testBit_eq_decide_div_mod_eq, hbit c]
    refine decide_eq_decide.2 ?_
    simp only [v]
    omega
  · rw [Nat.testBit_eq_decide_div_mod_eq, hbit b]
    refine decide_eq_decide.2 ?_
    simp only [v]
    omega
  · rw [Nat.testBit_eq_decide_div_mod_eq, hbit a]
    refine decide_eq_decide.2 ?_
    simp only [v]
    omega
  · simp only [v]
    omega
  · simp only [v]
    omega

/-! ### Reading words -/

theorem State.free_frz : s.free.2.frz = s.frz := rfl

theorem State.readoutData_keeps (space addr : Nat) :
    (s.readoutData space addr).2.2.frz = s.frz ∧ (s.readoutData space addr).2.2.out = s.out ∧ (s.readoutData space addr).2.2.objs = s.objs
      ∧ (s.readoutData space addr).2.2.blobs = s.blobs ∧ (s.readoutData space addr).2.2.rcd = s.rcd := by
  unfold State.readoutData
  dsimp only
  split
  · split
    · split <;> exact ⟨rfl, rfl, rfl, rfl, rfl⟩
    · exact ⟨rfl, rfl, rfl, rfl, rfl⟩
  · exact ⟨rfl, rfl, rfl, rfl, rfl⟩

/-- What reading a word changes: the word held and the count of words (R656, R658). -/
theorem State.readWord_keeps : s.readWord.out = s.out ∧ s.readWord.objs = s.objs ∧ s.readWord.blobs = s.blobs ∧ s.readWord.rcd = s.rcd
    ∧ s.readWord.frz.addr = s.frz.addr ∧ s.readWord.frz.wordsRead = s.frz.wordsRead + 1 := by
  unfold State.readWord
  dsimp only
  split
  · exact ⟨rfl, rfl, rfl, rfl, rfl, rfl⟩
  · obtain ⟨hfrz, hout, hobjs, hblobs, hrcd⟩ := s.readoutData_keeps (field s.frz.addr.toNat 63 56) (field s.frz.addr.toNat 31 0)
    exact ⟨hout, hobjs, hblobs, hrcd, by rw [hfrz], by rw [hfrz]⟩

theorem State.readWord_locked (h : s.frz.readout = false) :
    s.readWord.frz.word = readoutWord (field s.frz.addr.toNat 63 56) 3 (field s.frz.addr.toNat 31 0) 0 := by
  unfold State.readWord
  simp [h]

/-- A mask that is all ones over a field leaves it. -/
theorem field_and (v m hi lo : Nat) (h : ∀ i < hi + 1 - lo, m.testBit (lo + i) = true) : field (v &&& m) hi lo = field v hi lo := by
  apply Nat.eq_of_testBit_eq
  intro i
  simp only [field, Nat.testBit_mod_two_pow, Nat.testBit_div_two_pow, Nat.testBit_and]
  by_cases hi' : i < hi + 1 - lo
  · have := h i hi'
    rw [Nat.add_comm] at this
    simp [hi', this]
  · simp [hi']

/-- The address register keeps the fields that name a word: the space and the address within it (R657). -/
theorem field_maskedAddr (v : BitVec 64) : field (v &&& 0xFF000000FFFFFFFF).toNat 63 56 = field v.toNat 63 56
    ∧ field (v &&& 0xFF000000FFFFFFFF).toNat 31 0 = field v.toNat 31 0 := by
  constructor
  · exact field_and v.toNat _ 63 56 (by decide)
  · exact field_and v.toNat _ 31 0 (by decide)

/-- The state in which the word at a new address is read (R657). -/
def State.addressed (v : BitVec 64) : State := { (s.start.loadIr 0x11).emit (.tdo 64 s.frz.addr.toNat) with frz := { s.frz with ir := 0x11, addr := v &&& 0xFF000000FFFFFFFF } }

/-- The state in which the word at the address held is read (R657). -/
def State.captured : State := (s.start.loadIr 0x12).emit (.tdo 384 (s.start.loadIr 0x12).frz.word.toNat)

/-- ADDR takes a value (R657). -/
def State.addrTo (a : BitVec 64) : State := { s with frz := { s.frz with addr := a } }

theorem State.addrTo_addr (a : BitVec 64) : (s.addrTo a).frz.addr = a := rfl

theorem State.addrTo_keeps (a : BitVec 64) : (s.addrTo a).out = s.out ∧ (s.addrTo a).objs = s.objs ∧ (s.addrTo a).blobs = s.blobs
    ∧ (s.addrTo a).rcd = s.rcd ∧ (s.addrTo a).frz.wordsRead = s.frz.wordsRead ∧ (s.addrTo a).frz.word = s.frz.word :=
  ⟨rfl, rfl, rfl, rfl, rfl, rfl⟩

/-- Settles O60: outside FROZEN the captures are fixed, and while FROZEN each read changes the word held and the count alone. -/
theorem readoutPort : Obligations.ReadoutPort := by
  unfold Obligations.ReadoutPort
  intro s
  refine ⟨rfl, rfl, fun code hcode => ?_, ?_, fun v h => ?_, fun h => ?_, fun v h => ?_, fun h => ?_⟩
  · have : code % 256 = code := Nat.mod_eq_of_lt hcode
    show Host.Outcome.next ((s.start.loadIr (code % 256)).emit (.tdo 1 0)) = _
    rw [this]
    rfl
  · have hb := testBit_boolNat_sum s.frz.prior (s.frz.optime % 2 ^ 40) (Nat.mod_lt _ (by decide)) s.frz.readout s.frz.selfRefresh s.frz.clocksStopped
      (s.mode == .frozen)
    exact ⟨_, rfl, hb⟩
  · have hm : ((s.start.loadIr 0x11).mode == Mode.frozen) = false := beq_false_of_ne h
    simp only [exec, execFrzAddr, hm]
    rfl
  · have hm : ((s.start.loadIr 0x12).mode == Mode.frozen) = false := beq_false_of_ne h
    have haddr : (s.start.loadIr 0x12).frz.addr = s.frz.addr := rfl
    simp only [exec, execFrzData, hm, haddr, Bool.false_eq_true, if_false]
    rfl
  · have hm : ((s.start.loadIr 0x11).mode == Mode.frozen) = true := beq_iff_eq.2 h
    obtain ⟨hout, hobjs, hblobs, hrcd, hread, hwords⟩ := (s.addressed v).readWord_keeps
    have hexec : exec (.frzAddr v) s = .next (s.addressed v).readWord := by
      simp only [exec, execFrzAddr, hm, if_true]
      rfl
    refine ⟨_, hexec, hout, hread, hwords, hobjs, hblobs, hrcd, fun hr => ?_⟩
    · have haddr : (s.addressed v).frz.addr = v &&& 0xFF000000FFFFFFFF := rfl
      rw [(s.addressed v).readWord_locked hr, haddr, (field_maskedAddr v).1, (field_maskedAddr v).2]
  · have hm : ((s.start.loadIr 0x12).mode == Mode.frozen) = true := beq_iff_eq.2 h
    obtain ⟨hout, hobjs, hblobs, hrcd, hread, hwords⟩ := s.captured.readWord_keeps
    have hexec : exec .frzData s = .next (s.captured.readWord.addrTo (nextWord s.captured.readWord.frz.addr)) := by
      simp only [exec, execFrzData, hm, if_true]
      rfl
    obtain ⟨hout', hobjs', hblobs', hrcd', hwords', hword'⟩ := s.captured.readWord.addrTo_keeps (nextWord s.captured.readWord.frz.addr)
    refine ⟨_, hexec, hout'.trans hout, ?_, hwords'.trans hwords, hobjs'.trans hobjs, hblobs'.trans hblobs, hrcd'.trans hrcd, fun hr => ?_⟩
    · rw [State.addrTo_addr, hread]
      rfl
    · have haddr : s.captured.frz.addr = s.frz.addr := rfl
      rw [hword', s.captured.readWord_locked hr, haddr]
end

end Sys2Proof.Machine
end

section
/-! The feeds (R95, R103): each clause changes one feed and its voltage, and records it. -/

namespace Sys2Proof.Machine

section
variable (s : State) (f : Fin 2) (mv forUs : Nat)

/-- The register that shows the voltage of a feed (R95). -/
abbrev feedKey (f : Nat) : Key := if f = 0 then Oid.FEED_A_MV else Oid.FEED_B_MV

theorem feedKey_ne_dropped : Oid.REC_DROPPED.oid ≠ (feedKey f.val).oid := by
  match f with
  | 0 => decide
  | 1 => decide

/-- What a change of one feed is: the feed holds `x` and shows its voltage, and everything else is as it was but for records. -/
structure State.FeedIs (t : State) (x : Feed) : Prop where
  feed : t.feed f.val = x
  other : t.feed (1 - f.val) = s.feed (1 - f.val)
  voltage : t.nat (feedKey f.val) = mv
  get : ∀ k : Key, k.oid ≠ (feedKey f.val).oid → k.oid ≠ Oid.REC_DROPPED.oid → t.get k = s.get k
  mode : t.mode = s.mode
  tw : t.tw = s.tw

theorem State.setFeed_is (x : Feed) : s.FeedIs f mv (s.setFeed f.val x mv) x := by
  match f with
  | 0 => exact ⟨rfl, rfl, State.nat_setN_same .., fun k hk _ => State.get_setN_other _ _ _ _ hk.symm, rfl, rfl⟩
  | 1 => exact ⟨rfl, rfl, State.nat_setN_same .., fun k hk _ => State.get_setN_other _ _ _ _ hk.symm, rfl, rfl⟩

variable {s f mv}

theorem State.setFeed_rcd (x : Feed) : (s.setFeed f.val x mv).rcd = s.rcd := by
  match f with
  | 0 => rfl
  | 1 => rfl

/-- A record of the change keeps it. -/
theorem State.FeedIs.event {t : State} {x : Feed} (h : s.FeedIs f mv t x) (code p0 p1 p2 : Nat) : s.FeedIs f mv (t.event code p0 p1 p2) x where
  feed := by simpa [State.feed] using h.feed
  other := by simpa [State.feed] using h.other
  voltage := by
    rw [State.nat_event _ _ _ _ _ _ (feedKey_ne_dropped f)]
    exact h.voltage
  get k hk hdrop := by
    rw [State.get_event _ _ _ _ _ _ hdrop.symm]
    exact h.get k hk hdrop
  mode := by simpa using h.mode
  tw := by simpa using h.tw

/-- The change and its record (R95, R103). -/
theorem State.setFeed_recorded (hroom : s.Room) (x : Feed) (code : Nat) :
    s.FeedIs f mv ((s.setFeed f.val x mv).event code f.val mv) x
      ∧ ((s.setFeed f.val x mv).event code f.val mv).Recorded code 0xFFFF f.val mv 0 :=
  ⟨(s.setFeed_is f mv x).event code f.val mv 0, State.event_recorded _ _ _ _ _ (by rw [State.setFeed_rcd]; simp at hroom; omega)⟩

/-- A feed that becomes present before the bank has run down, and outside the end of AUTUMN, is valid and recorded as restored (R95). -/
theorem State.feedPresent_rule (hroom : s.Room) (hdone : s.pow.autumn ≠ .done) :
    s.FeedIs f mv (s.feedPresent f.val mv) { valid := true }
      ∧ ((s.feed f.val).valid = false → (s.feedPresent f.val mv).Recorded 0x0202 0xFFFF f.val mv 0) := by
  unfold State.feedPresent
  dsimp only
  split
  · next hv => exact ⟨s.setFeed_is f mv _, fun h => absurd hv (by simp [h])⟩
  · have hpow : ((s.setFeed f.val { valid := true } mv).event 0x0202 f.val mv).pow.autumn ≠ .done := by
      match f with
      | 0 => simpa [State.setFeed] using hdone
      | 1 => simpa [State.setFeed] using hdone
    rw [if_neg (fun h => hpow h.2)]
    obtain ⟨his, hrec⟩ := State.setFeed_recorded (f := f) (mv := mv) hroom { valid := true } 0x0202
    exact ⟨his, fun _ => hrec⟩

/-- Settles O11: every clause is one change of a feed, recorded where the feed becomes valid or stops being it. -/
theorem feeds : Obligations.Feeds := by
  unfold Obligations.Feeds
  intro s f mv forUs hpd hroom
  have hpd' : s.start.pd .aon = true := hpd
  refine ⟨fun hmv hfor hdis hdone => ?_, fun hmv hfor hval => ?_, fun hmv hfor hdis => ?_, fun hmv hfor hdis hdone => ?_⟩
  · have hdis' : (s.start.feed f.val).disconnected = false := hdis
    have hexec : exec (.feedValid f mv forUs) s = .next (s.start.feedPresent f.val mv) := by
      simp [exec, execFeedValid, hpd', hmv, hfor, hdis']
    obtain ⟨his, hrec⟩ := State.feedPresent_rule (s := s.start) (f := f) (mv := mv) hroom hdone
    exact ⟨_, hexec, his.feed, his.other, his.voltage, hrec, his.get, his.mode, his.tw⟩
  · have hval' : (s.start.feed f.val).valid = true := hval
    have hexec : exec (.feedLost f mv forUs) s = .next ((s.start.setFeed f.val {} mv).event 0x0201 f.val mv) := by
      simp [exec, execFeedLost, hpd', hmv, hfor, hval']
    obtain ⟨his, hrec⟩ := State.setFeed_recorded (s := s.start) (f := f) (mv := mv) hroom {} 0x0201
    exact ⟨_, hexec, his.feed, his.other, his.voltage, hrec, his.get, his.mode, his.tw⟩
  · have hdis' : (s.start.feed f.val).disconnected = false := hdis
    have hexec : exec (.feedOvervolt f mv forUs) s = .next ((s.start.setFeed f.val { disconnected := true } mv).event 0x0203 f.val mv) := by
      simp [exec, execFeedOvervolt, hpd', hmv, hfor, hdis']
    obtain ⟨his, hrec⟩ := State.setFeed_recorded (s := s.start) (f := f) (mv := mv) hroom { disconnected := true } 0x0203
    exact ⟨_, hexec, his.feed, his.other, his.voltage, hrec, his.mode, his.tw⟩
  · have hdis' : (s.start.feed f.val).disconnected = true := hdis
    have hexec : exec (.feedReconnect f mv forUs) s = .next (if 18500 < mv then (s.start.setFeed f.val {} mv).feedPresent f.val mv
        else s.start.setFeed f.val {} mv) := by
      simp [exec, execFeedReconnect, hpd', hmv, hfor, hdis']
    have hoff := s.start.setFeed_is f mv {}
    by_cases hmv' : 18500 < mv
    · have hdone' : (s.start.setFeed f.val {} mv).pow.autumn ≠ .done := by
        match f with
        | 0 => exact hdone
        | 1 => exact hdone
      obtain ⟨his, -⟩ := State.feedPresent_rule (s := s.start.setFeed f.val {} mv) (f := f) (mv := mv) (by rw [State.Room, State.setFeed_rcd]; exact hroom) hdone'
      rw [if_pos hmv'] at hexec
      refine ⟨_, hexec, by rw [his.feed], by rw [his.feed]; simp [hmv'], his.other.trans hoff.other, his.voltage, his.mode.trans hoff.mode,
        his.tw.trans hoff.tw⟩
    · rw [if_neg hmv'] at hexec
      exact ⟨_, hexec, by rw [hoff.feed], by rw [hoff.feed]; simp [hmv'], hoff.other, hoff.voltage, hoff.mode, hoff.tw⟩
end

end Sys2Proof.Machine
end

section
/-! ### What a fold of steps keeps -/

namespace Sys2Proof.Machine

/-- What each step of a fold keeps, the fold keeps. -/
theorem List.foldl_keeps {α β γ : Type} (F : γ → β) {g : γ → α → γ} (hg : ∀ s a, F (g s a) = F s) (l : List α) (s : γ) :
    F (l.foldl g s) = F s := by
  induction l generalizing s with
  | nil => rfl
  | cons a l ih => rw [List.foldl_cons, ih, hg]
@[simp] theorem State.foldl_pending {α : Type} {g : State → α → State} (hg : ∀ s a, (g s a).pending = s.pending) (l : List α) (s : State) :
    (l.foldl g s).pending = s.pending := State.foldl_keeps State.pending hg l s
@[simp] theorem State.foldl_fst_pending {α β : Type} {g : State × β → α → State × β} (hg : ∀ r a, (g r a).1.pending = r.1.pending) (l : List α)
    (r : State × β) : (l.foldl g r).1.pending = r.1.pending := List.foldl_keeps (fun r => r.1.pending) hg l r
@[simp] theorem State.foldl_snd_pending {α β : Type} {g : β × State → α → β × State} (hg : ∀ r a, (g r a).2.pending = r.2.pending) (l : List α)
    (r : β × State) : (l.foldl g r).2.pending = r.2.pending := List.foldl_keeps (fun r => r.2.pending) hg l r
@[simp] theorem State.foldl_out {α : Type} {g : State → α → State} (hg : ∀ s a, (g s a).out = s.out) (l : List α) (s : State) :
    (l.foldl g s).out = s.out := State.foldl_keeps State.out hg l s
@[simp] theorem State.foldl_fst_out {α β : Type} {g : State × β → α → State × β} (hg : ∀ r a, (g r a).1.out = r.1.out) (l : List α)
    (r : State × β) : (l.foldl g r).1.out = r.1.out := List.foldl_keeps (fun r => r.1.out) hg l r
@[simp] theorem State.foldl_snd_out {α β : Type} {g : β × State → α → β × State} (hg : ∀ r a, (g r a).2.out = r.2.out) (l : List α)
    (r : β × State) : (l.foldl g r).2.out = r.2.out := List.foldl_keeps (fun r => r.2.out) hg l r
@[simp] theorem State.foldl_clk {α : Type} {g : State → α → State} (hg : ∀ s a, (g s a).clk = s.clk) (l : List α) (s : State) :
    (l.foldl g s).clk = s.clk := State.foldl_keeps State.clk hg l s
@[simp] theorem State.foldl_fst_clk {α β : Type} {g : State × β → α → State × β} (hg : ∀ r a, (g r a).1.clk = r.1.clk) (l : List α)
    (r : State × β) : (l.foldl g r).1.clk = r.1.clk := List.foldl_keeps (fun r => r.1.clk) hg l r
@[simp] theorem State.foldl_snd_clk {α β : Type} {g : β × State → α → β × State} (hg : ∀ r a, (g r a).2.clk = r.2.clk) (l : List α)
    (r : β × State) : (l.foldl g r).2.clk = r.2.clk := List.foldl_keeps (fun r => r.2.clk) hg l r
@[simp] theorem State.foldl_freeCtr {α : Type} {g : State → α → State} (hg : ∀ s a, (g s a).freeCtr = s.freeCtr) (l : List α) (s : State) :
    (l.foldl g s).freeCtr = s.freeCtr := State.foldl_keeps State.freeCtr hg l s
@[simp] theorem State.foldl_fst_freeCtr {α β : Type} {g : State × β → α → State × β} (hg : ∀ r a, (g r a).1.freeCtr = r.1.freeCtr) (l : List α)
    (r : State × β) : (l.foldl g r).1.freeCtr = r.1.freeCtr := List.foldl_keeps (fun r => r.1.freeCtr) hg l r
@[simp] theorem State.foldl_snd_freeCtr {α β : Type} {g : β × State → α → β × State} (hg : ∀ r a, (g r a).2.freeCtr = r.2.freeCtr) (l : List α)
    (r : β × State) : (l.foldl g r).2.freeCtr = r.2.freeCtr := List.foldl_keeps (fun r => r.2.freeCtr) hg l r
@[simp] theorem State.foldl_mode {α : Type} {g : State → α → State} (hg : ∀ s a, (g s a).mode = s.mode) (l : List α) (s : State) :
    (l.foldl g s).mode = s.mode := State.foldl_keeps State.mode hg l s
@[simp] theorem State.foldl_fst_mode {α β : Type} {g : State × β → α → State × β} (hg : ∀ r a, (g r a).1.mode = r.1.mode) (l : List α)
    (r : State × β) : (l.foldl g r).1.mode = r.1.mode := List.foldl_keeps (fun r => r.1.mode) hg l r
@[simp] theorem State.foldl_snd_mode {α β : Type} {g : β × State → α → β × State} (hg : ∀ r a, (g r a).2.mode = r.2.mode) (l : List α)
    (r : β × State) : (l.foldl g r).2.mode = r.2.mode := List.foldl_keeps (fun r => r.2.mode) hg l r
@[simp] theorem State.foldl_objs {α : Type} {g : State → α → State} (hg : ∀ s a, (g s a).objs = s.objs) (l : List α) (s : State) :
    (l.foldl g s).objs = s.objs := State.foldl_keeps State.objs hg l s
@[simp] theorem State.foldl_fst_objs {α β : Type} {g : State × β → α → State × β} (hg : ∀ r a, (g r a).1.objs = r.1.objs) (l : List α)
    (r : State × β) : (l.foldl g r).1.objs = r.1.objs := List.foldl_keeps (fun r => r.1.objs) hg l r
@[simp] theorem State.foldl_snd_objs {α β : Type} {g : β × State → α → β × State} (hg : ∀ r a, (g r a).2.objs = r.2.objs) (l : List α)
    (r : β × State) : (l.foldl g r).2.objs = r.2.objs := List.foldl_keeps (fun r => r.2.objs) hg l r
@[simp] theorem State.foldl_blobs {α : Type} {g : State → α → State} (hg : ∀ s a, (g s a).blobs = s.blobs) (l : List α) (s : State) :
    (l.foldl g s).blobs = s.blobs := State.foldl_keeps State.blobs hg l s
@[simp] theorem State.foldl_fst_blobs {α β : Type} {g : State × β → α → State × β} (hg : ∀ r a, (g r a).1.blobs = r.1.blobs) (l : List α)
    (r : State × β) : (l.foldl g r).1.blobs = r.1.blobs := List.foldl_keeps (fun r => r.1.blobs) hg l r
@[simp] theorem State.foldl_snd_blobs {α β : Type} {g : β × State → α → β × State} (hg : ∀ r a, (g r a).2.blobs = r.2.blobs) (l : List α)
    (r : β × State) : (l.foldl g r).2.blobs = r.2.blobs := List.foldl_keeps (fun r => r.2.blobs) hg l r
@[simp] theorem State.foldl_rcd {α : Type} {g : State → α → State} (hg : ∀ s a, (g s a).rcd = s.rcd) (l : List α) (s : State) :
    (l.foldl g s).rcd = s.rcd := State.foldl_keeps State.rcd hg l s
@[simp] theorem State.foldl_fst_rcd {α β : Type} {g : State × β → α → State × β} (hg : ∀ r a, (g r a).1.rcd = r.1.rcd) (l : List α)
    (r : State × β) : (l.foldl g r).1.rcd = r.1.rcd := List.foldl_keeps (fun r => r.1.rcd) hg l r
@[simp] theorem State.foldl_snd_rcd {α β : Type} {g : β × State → α → β × State} (hg : ∀ r a, (g r a).2.rcd = r.2.rcd) (l : List α)
    (r : β × State) : (l.foldl g r).2.rcd = r.2.rcd := List.foldl_keeps (fun r => r.2.rcd) hg l r
@[simp] theorem State.foldl_frz {α : Type} {g : State → α → State} (hg : ∀ s a, (g s a).frz = s.frz) (l : List α) (s : State) :
    (l.foldl g s).frz = s.frz := State.foldl_keeps State.frz hg l s
@[simp] theorem State.foldl_fst_frz {α β : Type} {g : State × β → α → State × β} (hg : ∀ r a, (g r a).1.frz = r.1.frz) (l : List α)
    (r : State × β) : (l.foldl g r).1.frz = r.1.frz := List.foldl_keeps (fun r => r.1.frz) hg l r
@[simp] theorem State.foldl_snd_frz {α β : Type} {g : β × State → α → β × State} (hg : ∀ r a, (g r a).2.frz = r.2.frz) (l : List α)
    (r : β × State) : (l.foldl g r).2.frz = r.2.frz := List.foldl_keeps (fun r => r.2.frz) hg l r
@[simp] theorem State.foldl_pow {α : Type} {g : State → α → State} (hg : ∀ s a, (g s a).pow = s.pow) (l : List α) (s : State) :
    (l.foldl g s).pow = s.pow := State.foldl_keeps State.pow hg l s
@[simp] theorem State.foldl_fst_pow {α β : Type} {g : State × β → α → State × β} (hg : ∀ r a, (g r a).1.pow = r.1.pow) (l : List α)
    (r : State × β) : (l.foldl g r).1.pow = r.1.pow := List.foldl_keeps (fun r => r.1.pow) hg l r
@[simp] theorem State.foldl_snd_pow {α β : Type} {g : β × State → α → β × State} (hg : ∀ r a, (g r a).2.pow = r.2.pow) (l : List α)
    (r : β × State) : (l.foldl g r).2.pow = r.2.pow := List.foldl_keeps (fun r => r.2.pow) hg l r
@[simp] theorem State.foldl_rst {α : Type} {g : State → α → State} (hg : ∀ s a, (g s a).rst = s.rst) (l : List α) (s : State) :
    (l.foldl g s).rst = s.rst := State.foldl_keeps State.rst hg l s
@[simp] theorem State.foldl_fst_rst {α β : Type} {g : State × β → α → State × β} (hg : ∀ r a, (g r a).1.rst = r.1.rst) (l : List α)
    (r : State × β) : (l.foldl g r).1.rst = r.1.rst := List.foldl_keeps (fun r => r.1.rst) hg l r
@[simp] theorem State.foldl_snd_rst {α β : Type} {g : β × State → α → β × State} (hg : ∀ r a, (g r a).2.rst = r.2.rst) (l : List α)
    (r : β × State) : (l.foldl g r).2.rst = r.2.rst := List.foldl_keeps (fun r => r.2.rst) hg l r
@[simp] theorem State.foldl_tb {α : Type} {g : State → α → State} (hg : ∀ s a, (g s a).tb = s.tb) (l : List α) (s : State) :
    (l.foldl g s).tb = s.tb := State.foldl_keeps State.tb hg l s
@[simp] theorem State.foldl_fst_tb {α β : Type} {g : State × β → α → State × β} (hg : ∀ r a, (g r a).1.tb = r.1.tb) (l : List α)
    (r : State × β) : (l.foldl g r).1.tb = r.1.tb := List.foldl_keeps (fun r => r.1.tb) hg l r
@[simp] theorem State.foldl_snd_tb {α β : Type} {g : β × State → α → β × State} (hg : ∀ r a, (g r a).2.tb = r.2.tb) (l : List α)
    (r : β × State) : (l.foldl g r).2.tb = r.2.tb := List.foldl_keeps (fun r => r.2.tb) hg l r
@[simp] theorem State.foldl_launches {α : Type} {g : State → α → State} (hg : ∀ s a, (g s a).launches = s.launches) (l : List α) (s : State) :
    (l.foldl g s).launches = s.launches := State.foldl_keeps State.launches hg l s
@[simp] theorem State.foldl_fst_launches {α β : Type} {g : State × β → α → State × β} (hg : ∀ r a, (g r a).1.launches = r.1.launches) (l : List α)
    (r : State × β) : (l.foldl g r).1.launches = r.1.launches := List.foldl_keeps (fun r => r.1.launches) hg l r
@[simp] theorem State.foldl_snd_launches {α β : Type} {g : β × State → α → β × State} (hg : ∀ r a, (g r a).2.launches = r.2.launches) (l : List α)
    (r : β × State) : (l.foldl g r).2.launches = r.2.launches := List.foldl_keeps (fun r => r.2.launches) hg l r
@[simp] theorem State.foldl_launchSeq {α : Type} {g : State → α → State} (hg : ∀ s a, (g s a).launchSeq = s.launchSeq) (l : List α) (s : State) :
    (l.foldl g s).launchSeq = s.launchSeq := State.foldl_keeps State.launchSeq hg l s
@[simp] theorem State.foldl_fst_launchSeq {α β : Type} {g : State × β → α → State × β} (hg : ∀ r a, (g r a).1.launchSeq = r.1.launchSeq) (l : List α)
    (r : State × β) : (l.foldl g r).1.launchSeq = r.1.launchSeq := List.foldl_keeps (fun r => r.1.launchSeq) hg l r
@[simp] theorem State.foldl_snd_launchSeq {α β : Type} {g : β × State → α → β × State} (hg : ∀ r a, (g r a).2.launchSeq = r.2.launchSeq) (l : List α)
    (r : β × State) : (l.foldl g r).2.launchSeq = r.2.launchSeq := List.foldl_keeps (fun r => r.2.launchSeq) hg l r
@[simp] theorem State.foldl_acc {α : Type} {g : State → α → State} (hg : ∀ s a, (g s a).acc = s.acc) (l : List α) (s : State) :
    (l.foldl g s).acc = s.acc := State.foldl_keeps State.acc hg l s
@[simp] theorem State.foldl_fst_acc {α β : Type} {g : State × β → α → State × β} (hg : ∀ r a, (g r a).1.acc = r.1.acc) (l : List α)
    (r : State × β) : (l.foldl g r).1.acc = r.1.acc := List.foldl_keeps (fun r => r.1.acc) hg l r
@[simp] theorem State.foldl_snd_acc {α β : Type} {g : β × State → α → β × State} (hg : ∀ r a, (g r a).2.acc = r.2.acc) (l : List α)
    (r : β × State) : (l.foldl g r).2.acc = r.2.acc := List.foldl_keeps (fun r => r.2.acc) hg l r
@[simp] theorem State.foldl_pts {α : Type} {g : State → α → State} (hg : ∀ s a, (g s a).pts = s.pts) (l : List α) (s : State) :
    (l.foldl g s).pts = s.pts := State.foldl_keeps State.pts hg l s
@[simp] theorem State.foldl_fst_pts {α β : Type} {g : State × β → α → State × β} (hg : ∀ r a, (g r a).1.pts = r.1.pts) (l : List α)
    (r : State × β) : (l.foldl g r).1.pts = r.1.pts := List.foldl_keeps (fun r => r.1.pts) hg l r
@[simp] theorem State.foldl_snd_pts {α β : Type} {g : β × State → α → β × State} (hg : ∀ r a, (g r a).2.pts = r.2.pts) (l : List α)
    (r : β × State) : (l.foldl g r).2.pts = r.2.pts := List.foldl_keeps (fun r => r.2.pts) hg l r
@[simp] theorem State.foldl_tw {α : Type} {g : State → α → State} (hg : ∀ s a, (g s a).tw = s.tw) (l : List α) (s : State) :
    (l.foldl g s).tw = s.tw := State.foldl_keeps State.tw hg l s
@[simp] theorem State.foldl_fst_tw {α β : Type} {g : State × β → α → State × β} (hg : ∀ r a, (g r a).1.tw = r.1.tw) (l : List α)
    (r : State × β) : (l.foldl g r).1.tw = r.1.tw := List.foldl_keeps (fun r => r.1.tw) hg l r
@[simp] theorem State.foldl_snd_tw {α β : Type} {g : β × State → α → β × State} (hg : ∀ r a, (g r a).2.tw = r.2.tw) (l : List α)
    (r : β × State) : (l.foldl g r).2.tw = r.2.tw := List.foldl_keeps (fun r => r.2.tw) hg l r
@[simp] theorem State.foldl_cfgValid {α : Type} {g : State → α → State} (hg : ∀ s a, (g s a).cfgValid = s.cfgValid) (l : List α) (s : State) :
    (l.foldl g s).cfgValid = s.cfgValid := State.foldl_keeps State.cfgValid hg l s
@[simp] theorem State.foldl_fst_cfgValid {α β : Type} {g : State × β → α → State × β} (hg : ∀ r a, (g r a).1.cfgValid = r.1.cfgValid) (l : List α)
    (r : State × β) : (l.foldl g r).1.cfgValid = r.1.cfgValid := List.foldl_keeps (fun r => r.1.cfgValid) hg l r
@[simp] theorem State.foldl_snd_cfgValid {α β : Type} {g : β × State → α → β × State} (hg : ∀ r a, (g r a).2.cfgValid = r.2.cfgValid) (l : List α)
    (r : β × State) : (l.foldl g r).2.cfgValid = r.2.cfgValid := List.foldl_keeps (fun r => r.2.cfgValid) hg l r
@[simp] theorem State.foldl_testQueue {α : Type} {g : State → α → State} (hg : ∀ s a, (g s a).testQueue = s.testQueue) (l : List α) (s : State) :
    (l.foldl g s).testQueue = s.testQueue := State.foldl_keeps State.testQueue hg l s
@[simp] theorem State.foldl_fst_testQueue {α β : Type} {g : State × β → α → State × β} (hg : ∀ r a, (g r a).1.testQueue = r.1.testQueue) (l : List α)
    (r : State × β) : (l.foldl g r).1.testQueue = r.1.testQueue := List.foldl_keeps (fun r => r.1.testQueue) hg l r
@[simp] theorem State.foldl_snd_testQueue {α β : Type} {g : β × State → α → β × State} (hg : ∀ r a, (g r a).2.testQueue = r.2.testQueue) (l : List α)
    (r : β × State) : (l.foldl g r).2.testQueue = r.2.testQueue := List.foldl_keeps (fun r => r.2.testQueue) hg l r
@[simp] theorem State.foldl_testsOn {α : Type} {g : State → α → State} (hg : ∀ s a, (g s a).testsOn = s.testsOn) (l : List α) (s : State) :
    (l.foldl g s).testsOn = s.testsOn := State.foldl_keeps State.testsOn hg l s
@[simp] theorem State.foldl_fst_testsOn {α β : Type} {g : State × β → α → State × β} (hg : ∀ r a, (g r a).1.testsOn = r.1.testsOn) (l : List α)
    (r : State × β) : (l.foldl g r).1.testsOn = r.1.testsOn := List.foldl_keeps (fun r => r.1.testsOn) hg l r
@[simp] theorem State.foldl_snd_testsOn {α β : Type} {g : β × State → α → β × State} (hg : ∀ r a, (g r a).2.testsOn = r.2.testsOn) (l : List α)
    (r : β × State) : (l.foldl g r).2.testsOn = r.2.testsOn := List.foldl_keeps (fun r => r.2.testsOn) hg l r
@[simp] theorem State.foldl_fio {α : Type} {g : State → α → State} (hg : ∀ s a, (g s a).fio = s.fio) (l : List α) (s : State) :
    (l.foldl g s).fio = s.fio := State.foldl_keeps State.fio hg l s
@[simp] theorem State.foldl_fst_fio {α β : Type} {g : State × β → α → State × β} (hg : ∀ r a, (g r a).1.fio = r.1.fio) (l : List α)
    (r : State × β) : (l.foldl g r).1.fio = r.1.fio := List.foldl_keeps (fun r => r.1.fio) hg l r
@[simp] theorem State.foldl_snd_fio {α β : Type} {g : β × State → α → β × State} (hg : ∀ r a, (g r a).2.fio = r.2.fio) (l : List α)
    (r : β × State) : (l.foldl g r).2.fio = r.2.fio := List.foldl_keeps (fun r => r.2.fio) hg l r
@[simp] theorem State.foldl_mem {α : Type} {g : State → α → State} (hg : ∀ s a, (g s a).mem = s.mem) (l : List α) (s : State) :
    (l.foldl g s).mem = s.mem := State.foldl_keeps State.mem hg l s
@[simp] theorem State.foldl_fst_mem {α β : Type} {g : State × β → α → State × β} (hg : ∀ r a, (g r a).1.mem = r.1.mem) (l : List α)
    (r : State × β) : (l.foldl g r).1.mem = r.1.mem := List.foldl_keeps (fun r => r.1.mem) hg l r
@[simp] theorem State.foldl_snd_mem {α β : Type} {g : β × State → α → β × State} (hg : ∀ r a, (g r a).2.mem = r.2.mem) (l : List α)
    (r : β × State) : (l.foldl g r).2.mem = r.2.mem := List.foldl_keeps (fun r => r.2.mem) hg l r
@[simp] theorem State.foldl_saf {α : Type} {g : State → α → State} (hg : ∀ s a, (g s a).saf = s.saf) (l : List α) (s : State) :
    (l.foldl g s).saf = s.saf := State.foldl_keeps State.saf hg l s
@[simp] theorem State.foldl_fst_saf {α β : Type} {g : State × β → α → State × β} (hg : ∀ r a, (g r a).1.saf = r.1.saf) (l : List α)
    (r : State × β) : (l.foldl g r).1.saf = r.1.saf := List.foldl_keeps (fun r => r.1.saf) hg l r
@[simp] theorem State.foldl_snd_saf {α β : Type} {g : β × State → α → β × State} (hg : ∀ r a, (g r a).2.saf = r.2.saf) (l : List α)
    (r : β × State) : (l.foldl g r).2.saf = r.2.saf := List.foldl_keeps (fun r => r.2.saf) hg l r
@[simp] theorem State.foldl_can {α : Type} {g : State → α → State} (hg : ∀ s a, (g s a).can = s.can) (l : List α) (s : State) :
    (l.foldl g s).can = s.can := State.foldl_keeps State.can hg l s
@[simp] theorem State.foldl_fst_can {α β : Type} {g : State × β → α → State × β} (hg : ∀ r a, (g r a).1.can = r.1.can) (l : List α)
    (r : State × β) : (l.foldl g r).1.can = r.1.can := List.foldl_keeps (fun r => r.1.can) hg l r
@[simp] theorem State.foldl_snd_can {α β : Type} {g : β × State → α → β × State} (hg : ∀ r a, (g r a).2.can = r.2.can) (l : List α)
    (r : β × State) : (l.foldl g r).2.can = r.2.can := List.foldl_keeps (fun r => r.2.can) hg l r
@[simp] theorem State.foldl_pos {α : Type} {g : State → α → State} (hg : ∀ s a, (g s a).pos = s.pos) (l : List α) (s : State) :
    (l.foldl g s).pos = s.pos := State.foldl_keeps State.pos hg l s
@[simp] theorem State.foldl_fst_pos {α β : Type} {g : State × β → α → State × β} (hg : ∀ r a, (g r a).1.pos = r.1.pos) (l : List α)
    (r : State × β) : (l.foldl g r).1.pos = r.1.pos := List.foldl_keeps (fun r => r.1.pos) hg l r
@[simp] theorem State.foldl_snd_pos {α β : Type} {g : β × State → α → β × State} (hg : ∀ r a, (g r a).2.pos = r.2.pos) (l : List α)
    (r : β × State) : (l.foldl g r).2.pos = r.2.pos := List.foldl_keeps (fun r => r.2.pos) hg l r
@[simp] theorem State.foldl_emits {α : Type} {g : State → α → State} (hg : ∀ s a, (g s a).emits = s.emits) (l : List α) (s : State) :
    (l.foldl g s).emits = s.emits := State.foldl_keeps State.emits hg l s
@[simp] theorem State.foldl_fst_emits {α β : Type} {g : State × β → α → State × β} (hg : ∀ r a, (g r a).1.emits = r.1.emits) (l : List α)
    (r : State × β) : (l.foldl g r).1.emits = r.1.emits := List.foldl_keeps (fun r => r.1.emits) hg l r
@[simp] theorem State.foldl_snd_emits {α β : Type} {g : β × State → α → β × State} (hg : ∀ r a, (g r a).2.emits = r.2.emits) (l : List α)
    (r : β × State) : (l.foldl g r).2.emits = r.2.emits := List.foldl_keeps (fun r => r.2.emits) hg l r
@[simp] theorem State.foldl_loops {α : Type} {g : State → α → State} (hg : ∀ s a, (g s a).loops = s.loops) (l : List α) (s : State) :
    (l.foldl g s).loops = s.loops := State.foldl_keeps State.loops hg l s
@[simp] theorem State.foldl_fst_loops {α β : Type} {g : State × β → α → State × β} (hg : ∀ r a, (g r a).1.loops = r.1.loops) (l : List α)
    (r : State × β) : (l.foldl g r).1.loops = r.1.loops := List.foldl_keeps (fun r => r.1.loops) hg l r
@[simp] theorem State.foldl_snd_loops {α β : Type} {g : β × State → α → β × State} (hg : ∀ r a, (g r a).2.loops = r.2.loops) (l : List α)
    (r : β × State) : (l.foldl g r).2.loops = r.2.loops := List.foldl_keeps (fun r => r.2.loops) hg l r
@[simp] theorem State.foldl_grps {α : Type} {g : State → α → State} (hg : ∀ s a, (g s a).grps = s.grps) (l : List α) (s : State) :
    (l.foldl g s).grps = s.grps := State.foldl_keeps State.grps hg l s
@[simp] theorem State.foldl_fst_grps {α β : Type} {g : State × β → α → State × β} (hg : ∀ r a, (g r a).1.grps = r.1.grps) (l : List α)
    (r : State × β) : (l.foldl g r).1.grps = r.1.grps := List.foldl_keeps (fun r => r.1.grps) hg l r
@[simp] theorem State.foldl_snd_grps {α β : Type} {g : β × State → α → β × State} (hg : ∀ r a, (g r a).2.grps = r.2.grps) (l : List α)
    (r : β × State) : (l.foldl g r).2.grps = r.2.grps := List.foldl_keeps (fun r => r.2.grps) hg l r
@[simp] theorem State.foldl_doors {α : Type} {g : State → α → State} (hg : ∀ s a, (g s a).doors = s.doors) (l : List α) (s : State) :
    (l.foldl g s).doors = s.doors := State.foldl_keeps State.doors hg l s
@[simp] theorem State.foldl_fst_doors {α β : Type} {g : State × β → α → State × β} (hg : ∀ r a, (g r a).1.doors = r.1.doors) (l : List α)
    (r : State × β) : (l.foldl g r).1.doors = r.1.doors := List.foldl_keeps (fun r => r.1.doors) hg l r
@[simp] theorem State.foldl_snd_doors {α β : Type} {g : β × State → α → β × State} (hg : ∀ r a, (g r a).2.doors = r.2.doors) (l : List α)
    (r : β × State) : (l.foldl g r).2.doors = r.2.doors := List.foldl_keeps (fun r => r.2.doors) hg l r
@[simp] theorem State.foldl_met {α : Type} {g : State → α → State} (hg : ∀ s a, (g s a).met = s.met) (l : List α) (s : State) :
    (l.foldl g s).met = s.met := State.foldl_keeps State.met hg l s
@[simp] theorem State.foldl_fst_met {α β : Type} {g : State × β → α → State × β} (hg : ∀ r a, (g r a).1.met = r.1.met) (l : List α)
    (r : State × β) : (l.foldl g r).1.met = r.1.met := List.foldl_keeps (fun r => r.1.met) hg l r
@[simp] theorem State.foldl_snd_met {α β : Type} {g : β × State → α → β × State} (hg : ∀ r a, (g r a).2.met = r.2.met) (l : List α)
    (r : β × State) : (l.foldl g r).2.met = r.2.met := List.foldl_keeps (fun r => r.2.met) hg l r
@[simp] theorem State.foldl_dsp {α : Type} {g : State → α → State} (hg : ∀ s a, (g s a).dsp = s.dsp) (l : List α) (s : State) :
    (l.foldl g s).dsp = s.dsp := State.foldl_keeps State.dsp hg l s
@[simp] theorem State.foldl_fst_dsp {α β : Type} {g : State × β → α → State × β} (hg : ∀ r a, (g r a).1.dsp = r.1.dsp) (l : List α)
    (r : State × β) : (l.foldl g r).1.dsp = r.1.dsp := List.foldl_keeps (fun r => r.1.dsp) hg l r
@[simp] theorem State.foldl_snd_dsp {α β : Type} {g : β × State → α → β × State} (hg : ∀ r a, (g r a).2.dsp = r.2.dsp) (l : List α)
    (r : β × State) : (l.foldl g r).2.dsp = r.2.dsp := List.foldl_keeps (fun r => r.2.dsp) hg l r
@[simp] theorem State.foldl_get {α : Type} {g : State → α → State} (k : Key) (hg : ∀ s a, (g s a).get k = s.get k) (l : List α) (s : State) :
    (l.foldl g s).get k = s.get k := State.foldl_keeps (fun s => s.get k) hg l s
@[simp] theorem State.foldl_fst_get {α β : Type} {g : State × β → α → State × β} (k : Key) (hg : ∀ r a, (g r a).1.get k = r.1.get k) (l : List α)
    (r : State × β) : (l.foldl g r).1.get k = r.1.get k := List.foldl_keeps (fun r => r.1.get k) hg l r
@[simp] theorem State.foldl_snd_get {α β : Type} {g : β × State → α → β × State} (k : Key) (hg : ∀ r a, (g r a).2.get k = r.2.get k) (l : List α)
    (r : β × State) : (l.foldl g r).2.get k = r.2.get k := List.foldl_keeps (fun r => r.2.get k) hg l r
theorem State.get_ite (c : Prop) [Decidable c] (a b : State) (k : Key) : (if c then a else b).get k = if c then a.get k else b.get k := apply_ite (State.get · k) c a b
theorem State.nat_ite (c : Prop) [Decidable c] (a b : State) (k : Key) : (if c then a else b).nat k = if c then a.nat k else b.nat k := apply_ite (State.nat · k) c a b

end Sys2Proof.Machine
end

section
/-! ### What each function of the model leaves as it is

One lemma per function and field, tagged for `simp`: the function does not change the field. -/

namespace Sys2Proof.Machine

/-- Registers are read from the dictionary alone. -/
theorem State.get_congr {s t : State} (h : t.objs = s.objs) (k : Key) : t.get k = s.get k := by simp [State.get, h]

theorem State.nat_congr {s t : State} (h : t.objs = s.objs) (k : Key) : t.nat k = s.nat k := by simp [State.nat, State.get_congr h]

theorem State.flag_congr {s t : State} (h : t.objs = s.objs) (k : Key) : t.flag k = s.flag k := by simp [State.flag, State.get_congr h]

@[simp] theorem State.showSafety_mode (s : State) (n) : (s.showSafety n).mode = s.mode := (rfl)
@[simp] theorem State.setSwitches_mode (s : State) (n) : (s.setSwitches n).mode = s.mode := (rfl)
@[simp] theorem State.setAllSwitches_mode (s : State) : s.setAllSwitches.mode = s.mode := by simp -implicitDefEqProofs [State.setAllSwitches]
@[simp] theorem State.showSafety_tw (s : State) (n) : (s.showSafety n).tw = s.tw := (rfl)
@[simp] theorem State.setSwitches_tw (s : State) (n) : (s.setSwitches n).tw = s.tw := (rfl)
@[simp] theorem State.setAllSwitches_tw (s : State) : s.setAllSwitches.tw = s.tw := by simp -implicitDefEqProofs [State.setAllSwitches]
@[simp] theorem State.showSafety_out (s : State) (n) : (s.showSafety n).out = s.out := (rfl)
@[simp] theorem State.setSwitches_out (s : State) (n) : (s.setSwitches n).out = s.out := (rfl)
@[simp] theorem State.setAllSwitches_out (s : State) : s.setAllSwitches.out = s.out := by simp -implicitDefEqProofs [State.setAllSwitches]
@[simp] theorem State.showSafety_rcd (s : State) (n) : (s.showSafety n).rcd = s.rcd := (rfl)
@[simp] theorem State.setSwitches_rcd (s : State) (n) : (s.setSwitches n).rcd = s.rcd := (rfl)
@[simp] theorem State.setAllSwitches_rcd (s : State) : s.setAllSwitches.rcd = s.rcd := by simp -implicitDefEqProofs [State.setAllSwitches]
@[simp] theorem State.showSafety_emits (s : State) (n) : (s.showSafety n).emits = s.emits := (rfl)
@[simp] theorem State.setSwitches_emits (s : State) (n) : (s.setSwitches n).emits = s.emits := (rfl)
@[simp] theorem State.setAllSwitches_emits (s : State) : s.setAllSwitches.emits = s.emits := by simp -implicitDefEqProofs [State.setAllSwitches]
@[simp] theorem State.showSafety_acc (s : State) (n) : (s.showSafety n).acc = s.acc := (rfl)
@[simp] theorem State.setSwitches_acc (s : State) (n) : (s.setSwitches n).acc = s.acc := (rfl)
@[simp] theorem State.setAllSwitches_acc (s : State) : s.setAllSwitches.acc = s.acc := by simp -implicitDefEqProofs [State.setAllSwitches]
@[simp] theorem State.startReadback_mode (s : State) (levels mask) : (s.startReadback levels mask).mode = s.mode := (rfl)
@[simp] theorem State.startReadback_out (s : State) (levels mask) : (s.startReadback levels mask).out = s.out := (rfl)
@[simp] theorem State.startReadback_rcd (s : State) (levels mask) : (s.startReadback levels mask).rcd = s.rcd := (rfl)
@[simp] theorem State.startReadback_emits (s : State) (levels mask) : (s.startReadback levels mask).emits = s.emits := (rfl)
@[simp] theorem State.startReadback_acc (s : State) (levels mask) : (s.startReadback levels mask).acc = s.acc := (rfl)
@[simp] theorem State.startReadback_objs (s : State) (levels mask) : (s.startReadback levels mask).objs = s.objs := (rfl)
@[simp] theorem State.enter_tw (s : State) (m trigger) : (s.enter m trigger).tw = s.tw := by simp -implicitDefEqProofs [State.enter]
@[simp] theorem State.enter_out (s : State) (m trigger) : (s.enter m trigger).out = s.out := by simp -implicitDefEqProofs [State.enter]
@[simp] theorem State.addItem_mode (s : State) (i) : (s.addItem i).mode = s.mode := by simp -implicitDefEqProofs [State.addItem]
@[simp] theorem State.swapItem_mode (s : State) (i) : (s.swapItem i).mode = s.mode := by simp -implicitDefEqProofs [State.swapItem]
@[simp] theorem State.ptStatusBit_mode (s : State) (p i b) : (s.ptStatusBit p i b).mode = s.mode := by unfold State.ptStatusBit; split <;> rfl
@[simp] theorem State.markDegraded_mode (s : State) (k) : (s.markDegraded k).mode = s.mode := by
  unfold State.markDegraded
  split <;> simp -implicitDefEqProofs
@[simp] theorem State.readmit_mode (s : State) (i) : (s.readmit i).mode = s.mode := by
  simp -implicitDefEqProofs only [State.readmit]
  split <;> simp -implicitDefEqProofs [apply_ite State.mode]
@[simp] theorem State.readmitAll_mode (s : State) : s.readmitAll.mode = s.mode := by simp -implicitDefEqProofs [State.readmitAll]
@[simp] theorem State.storeInterval_mode (s : State) (c short) : (s.storeInterval c short).mode = s.mode := (rfl)
@[simp] theorem State.openInterval_mode (s : State) (c) : (s.openInterval c).mode = s.mode := (rfl)
@[simp] theorem State.closeInterval_mode (s : State) (short) : (s.closeInterval short).mode = s.mode := by
  unfold State.closeInterval
  split <;> simp -implicitDefEqProofs
@[simp] theorem State.flagIntervals_mode (s : State) (bit) : (s.flagIntervals bit).mode = s.mode := (rfl)
@[simp] theorem State.dropItems_mode (s : State) (p) : (s.dropItems p).mode = s.mode := by simp -implicitDefEqProofs [State.dropItems]
@[simp] theorem State.mapLaunch_mode (s : State) (part tag f) : (s.mapLaunch part tag f).mode = s.mode := (rfl)
@[simp] theorem State.endLaunch_mode (s : State) (l st) : (s.endLaunch l st).mode = s.mode := by simp -implicitDefEqProofs [State.endLaunch]
@[simp] theorem State.commitLaunch_mode (s : State) (l) : (s.commitLaunch l).mode = s.mode := by
  unfold State.commitLaunch
  split <;> simp -implicitDefEqProofs
@[simp] theorem State.emitPast_mode (s : State) (l) : (s.emitPast l).mode = s.mode := by simp -implicitDefEqProofs [State.emitPast, apply_ite State.mode]
@[simp] theorem State.stepTime_mode (s : State) (t) : (s.stepTime t).mode = s.mode := by simp -implicitDefEqProofs [State.stepTime, apply_ite State.mode]
@[simp] theorem State.prepare_mode (s : State) : s.prepare.mode = s.mode := by simp -implicitDefEqProofs [State.prepare, apply_ite State.mode]
@[simp] theorem State.addItem_rst (s : State) (i) : (s.addItem i).rst = s.rst := by simp -implicitDefEqProofs [State.addItem]
@[simp] theorem State.swapItem_rst (s : State) (i) : (s.swapItem i).rst = s.rst := by simp -implicitDefEqProofs [State.swapItem]
@[simp] theorem State.ptStatusBit_rst (s : State) (p i b) : (s.ptStatusBit p i b).rst = s.rst := by unfold State.ptStatusBit; split <;> rfl
@[simp] theorem State.markDegraded_rst (s : State) (k) : (s.markDegraded k).rst = s.rst := by
  unfold State.markDegraded
  split <;> simp -implicitDefEqProofs
@[simp] theorem State.readmit_rst (s : State) (i) : (s.readmit i).rst = s.rst := by
  simp -implicitDefEqProofs only [State.readmit]
  split <;> simp -implicitDefEqProofs [apply_ite State.rst]
@[simp] theorem State.readmitAll_rst (s : State) : s.readmitAll.rst = s.rst := by simp -implicitDefEqProofs [State.readmitAll]
@[simp] theorem State.storeInterval_rst (s : State) (c short) : (s.storeInterval c short).rst = s.rst := (rfl)
@[simp] theorem State.openInterval_rst (s : State) (c) : (s.openInterval c).rst = s.rst := (rfl)
@[simp] theorem State.closeInterval_rst (s : State) (short) : (s.closeInterval short).rst = s.rst := by
  unfold State.closeInterval
  split <;> simp -implicitDefEqProofs
@[simp] theorem State.flagIntervals_rst (s : State) (bit) : (s.flagIntervals bit).rst = s.rst := (rfl)
@[simp] theorem State.dropItems_rst (s : State) (p) : (s.dropItems p).rst = s.rst := by simp -implicitDefEqProofs [State.dropItems]
@[simp] theorem State.mapLaunch_rst (s : State) (part tag f) : (s.mapLaunch part tag f).rst = s.rst := (rfl)
@[simp] theorem State.endLaunch_rst (s : State) (l st) : (s.endLaunch l st).rst = s.rst := by simp -implicitDefEqProofs [State.endLaunch]
@[simp] theorem State.commitLaunch_rst (s : State) (l) : (s.commitLaunch l).rst = s.rst := by
  unfold State.commitLaunch
  split <;> simp -implicitDefEqProofs
@[simp] theorem State.emitPast_rst (s : State) (l) : (s.emitPast l).rst = s.rst := by simp -implicitDefEqProofs [State.emitPast, apply_ite State.rst]
@[simp] theorem State.stepTime_rst (s : State) (t) : (s.stepTime t).rst = s.rst := by simp -implicitDefEqProofs [State.stepTime, apply_ite State.rst]
@[simp] theorem State.prepare_rst (s : State) : s.prepare.rst = s.rst := by simp -implicitDefEqProofs [State.prepare, apply_ite State.rst]
@[simp] theorem State.addItem_frz (s : State) (i) : (s.addItem i).frz = s.frz := by simp -implicitDefEqProofs [State.addItem]
@[simp] theorem State.swapItem_frz (s : State) (i) : (s.swapItem i).frz = s.frz := by simp -implicitDefEqProofs [State.swapItem]
@[simp] theorem State.ptStatusBit_frz (s : State) (p i b) : (s.ptStatusBit p i b).frz = s.frz := by unfold State.ptStatusBit; split <;> rfl
@[simp] theorem State.markDegraded_frz (s : State) (k) : (s.markDegraded k).frz = s.frz := by
  unfold State.markDegraded
  split <;> simp -implicitDefEqProofs
@[simp] theorem State.readmit_frz (s : State) (i) : (s.readmit i).frz = s.frz := by
  simp -implicitDefEqProofs only [State.readmit]
  split <;> simp -implicitDefEqProofs [apply_ite State.frz]
@[simp] theorem State.readmitAll_frz (s : State) : s.readmitAll.frz = s.frz := by simp -implicitDefEqProofs [State.readmitAll]
@[simp] theorem State.storeInterval_frz (s : State) (c short) : (s.storeInterval c short).frz = s.frz := (rfl)
@[simp] theorem State.openInterval_frz (s : State) (c) : (s.openInterval c).frz = s.frz := (rfl)
@[simp] theorem State.closeInterval_frz (s : State) (short) : (s.closeInterval short).frz = s.frz := by
  unfold State.closeInterval
  split <;> simp -implicitDefEqProofs
@[simp] theorem State.flagIntervals_frz (s : State) (bit) : (s.flagIntervals bit).frz = s.frz := (rfl)
@[simp] theorem State.dropItems_frz (s : State) (p) : (s.dropItems p).frz = s.frz := by simp -implicitDefEqProofs [State.dropItems]
@[simp] theorem State.mapLaunch_frz (s : State) (part tag f) : (s.mapLaunch part tag f).frz = s.frz := (rfl)
@[simp] theorem State.endLaunch_frz (s : State) (l st) : (s.endLaunch l st).frz = s.frz := by simp -implicitDefEqProofs [State.endLaunch]
@[simp] theorem State.commitLaunch_frz (s : State) (l) : (s.commitLaunch l).frz = s.frz := by
  unfold State.commitLaunch
  split <;> simp -implicitDefEqProofs
@[simp] theorem State.emitPast_frz (s : State) (l) : (s.emitPast l).frz = s.frz := by simp -implicitDefEqProofs [State.emitPast, apply_ite State.frz]
@[simp] theorem State.stepTime_frz (s : State) (t) : (s.stepTime t).frz = s.frz := by simp -implicitDefEqProofs [State.stepTime, apply_ite State.frz]
@[simp] theorem State.prepare_frz (s : State) : s.prepare.frz = s.frz := by simp -implicitDefEqProofs [State.prepare, apply_ite State.frz]
@[simp] theorem State.addItem_cfgValid (s : State) (i) : (s.addItem i).cfgValid = s.cfgValid := by simp -implicitDefEqProofs [State.addItem]
@[simp] theorem State.swapItem_cfgValid (s : State) (i) : (s.swapItem i).cfgValid = s.cfgValid := by simp -implicitDefEqProofs [State.swapItem]
@[simp] theorem State.ptStatusBit_cfgValid (s : State) (p i b) : (s.ptStatusBit p i b).cfgValid = s.cfgValid := by unfold State.ptStatusBit; split <;> rfl
@[simp] theorem State.markDegraded_cfgValid (s : State) (k) : (s.markDegraded k).cfgValid = s.cfgValid := by
  unfold State.markDegraded
  split <;> simp -implicitDefEqProofs
@[simp] theorem State.readmit_cfgValid (s : State) (i) : (s.readmit i).cfgValid = s.cfgValid := by
  simp -implicitDefEqProofs only [State.readmit]
  split <;> simp -implicitDefEqProofs [apply_ite State.cfgValid]
@[simp] theorem State.readmitAll_cfgValid (s : State) : s.readmitAll.cfgValid = s.cfgValid := by simp -implicitDefEqProofs [State.readmitAll]
@[simp] theorem State.storeInterval_cfgValid (s : State) (c short) : (s.storeInterval c short).cfgValid = s.cfgValid := (rfl)
@[simp] theorem State.openInterval_cfgValid (s : State) (c) : (s.openInterval c).cfgValid = s.cfgValid := (rfl)
@[simp] theorem State.closeInterval_cfgValid (s : State) (short) : (s.closeInterval short).cfgValid = s.cfgValid := by
  unfold State.closeInterval
  split <;> simp -implicitDefEqProofs
@[simp] theorem State.flagIntervals_cfgValid (s : State) (bit) : (s.flagIntervals bit).cfgValid = s.cfgValid := (rfl)
@[simp] theorem State.dropItems_cfgValid (s : State) (p) : (s.dropItems p).cfgValid = s.cfgValid := by simp -implicitDefEqProofs [State.dropItems]
@[simp] theorem State.mapLaunch_cfgValid (s : State) (part tag f) : (s.mapLaunch part tag f).cfgValid = s.cfgValid := (rfl)
@[simp] theorem State.endLaunch_cfgValid (s : State) (l st) : (s.endLaunch l st).cfgValid = s.cfgValid := by simp -implicitDefEqProofs [State.endLaunch]
@[simp] theorem State.commitLaunch_cfgValid (s : State) (l) : (s.commitLaunch l).cfgValid = s.cfgValid := by
  unfold State.commitLaunch
  split <;> simp -implicitDefEqProofs
@[simp] theorem State.emitPast_cfgValid (s : State) (l) : (s.emitPast l).cfgValid = s.cfgValid := by simp -implicitDefEqProofs [State.emitPast, apply_ite State.cfgValid]
@[simp] theorem State.stepTime_cfgValid (s : State) (t) : (s.stepTime t).cfgValid = s.cfgValid := by simp -implicitDefEqProofs [State.stepTime, apply_ite State.cfgValid]
@[simp] theorem State.prepare_cfgValid (s : State) : s.prepare.cfgValid = s.cfgValid := by simp -implicitDefEqProofs [State.prepare, apply_ite State.cfgValid]
@[simp] theorem State.addItem_tb (s : State) (i) : (s.addItem i).tb = s.tb := by simp -implicitDefEqProofs [State.addItem]
@[simp] theorem State.swapItem_tb (s : State) (i) : (s.swapItem i).tb = s.tb := by simp -implicitDefEqProofs [State.swapItem]
@[simp] theorem State.ptStatusBit_tb (s : State) (p i b) : (s.ptStatusBit p i b).tb = s.tb := by unfold State.ptStatusBit; split <;> rfl
@[simp] theorem State.markDegraded_tb (s : State) (k) : (s.markDegraded k).tb = s.tb := by
  unfold State.markDegraded
  split <;> simp -implicitDefEqProofs
@[simp] theorem State.readmit_tb (s : State) (i) : (s.readmit i).tb = s.tb := by
  simp -implicitDefEqProofs only [State.readmit]
  split <;> simp -implicitDefEqProofs [apply_ite State.tb]
@[simp] theorem State.readmitAll_tb (s : State) : s.readmitAll.tb = s.tb := by simp -implicitDefEqProofs [State.readmitAll]
@[simp] theorem State.addItem_clk (s : State) (i) : (s.addItem i).clk = s.clk := by simp -implicitDefEqProofs [State.addItem]
@[simp] theorem State.swapItem_clk (s : State) (i) : (s.swapItem i).clk = s.clk := by simp -implicitDefEqProofs [State.swapItem]
@[simp] theorem State.ptStatusBit_clk (s : State) (p i b) : (s.ptStatusBit p i b).clk = s.clk := by unfold State.ptStatusBit; split <;> rfl
@[simp] theorem State.markDegraded_clk (s : State) (k) : (s.markDegraded k).clk = s.clk := by
  unfold State.markDegraded
  split <;> simp -implicitDefEqProofs
@[simp] theorem State.readmit_clk (s : State) (i) : (s.readmit i).clk = s.clk := by
  simp -implicitDefEqProofs only [State.readmit]
  split <;> simp -implicitDefEqProofs [apply_ite State.clk]
@[simp] theorem State.readmitAll_clk (s : State) : s.readmitAll.clk = s.clk := by simp -implicitDefEqProofs [State.readmitAll]
@[simp] theorem State.reportHealth_mode (s : State) : s.reportHealth.mode = s.mode := by simp -implicitDefEqProofs [State.reportHealth]
@[simp] theorem State.reportHealth_rst (s : State) : s.reportHealth.rst = s.rst := by simp -implicitDefEqProofs [State.reportHealth]
@[simp] theorem State.reportHealth_tw (s : State) : s.reportHealth.tw = s.tw := by simp -implicitDefEqProofs [State.reportHealth]
@[simp] theorem State.reportHealth_frz (s : State) : s.reportHealth.frz = s.frz := by simp -implicitDefEqProofs [State.reportHealth]
@[simp] theorem State.reportHealth_cfgValid (s : State) : s.reportHealth.cfgValid = s.cfgValid := by simp -implicitDefEqProofs [State.reportHealth]
@[simp] theorem State.reportHealth_tb (s : State) : s.reportHealth.tb = s.tb := by simp -implicitDefEqProofs [State.reportHealth]
@[simp] theorem State.reportHealth_clk (s : State) : s.reportHealth.clk = s.clk := by simp -implicitDefEqProofs [State.reportHealth]
@[simp] theorem State.resync_mode (s : State) (cause) : (s.resync cause).mode = s.mode := by simp -implicitDefEqProofs [State.resync, apply_ite State.mode]
@[simp] theorem State.resync_rst (s : State) (cause) : (s.resync cause).rst = s.rst := by simp -implicitDefEqProofs [State.resync, apply_ite State.rst]
@[simp] theorem State.resync_frz (s : State) (cause) : (s.resync cause).frz = s.frz := by simp -implicitDefEqProofs [State.resync, apply_ite State.frz]
@[simp] theorem State.resync_cfgValid (s : State) (cause) : (s.resync cause).cfgValid = s.cfgValid := by simp -implicitDefEqProofs [State.resync, apply_ite State.cfgValid]
@[simp] theorem State.storeInterval_clk (s : State) (c short) : (s.storeInterval c short).clk = s.clk := (rfl)
@[simp] theorem State.openInterval_clk (s : State) (c) : (s.openInterval c).clk = s.clk := (rfl)
@[simp] theorem State.closeInterval_clk (s : State) (short) : (s.closeInterval short).clk = s.clk := by
  unfold State.closeInterval
  split <;> simp -implicitDefEqProofs
@[simp] theorem State.flagIntervals_clk (s : State) (bit) : (s.flagIntervals bit).clk = s.clk := (rfl)
@[simp] theorem State.dropItems_clk (s : State) (p) : (s.dropItems p).clk = s.clk := by simp -implicitDefEqProofs [State.dropItems]
@[simp] theorem State.mapLaunch_clk (s : State) (part tag f) : (s.mapLaunch part tag f).clk = s.clk := (rfl)
@[simp] theorem State.endLaunch_clk (s : State) (l st) : (s.endLaunch l st).clk = s.clk := by simp -implicitDefEqProofs [State.endLaunch]
@[simp] theorem State.commitLaunch_clk (s : State) (l) : (s.commitLaunch l).clk = s.clk := by
  unfold State.commitLaunch
  split <;> simp -implicitDefEqProofs
@[simp] theorem State.emitPast_clk (s : State) (l) : (s.emitPast l).clk = s.clk := by simp -implicitDefEqProofs [State.emitPast, apply_ite State.clk]
@[simp] theorem State.stepTime_clk (s : State) (t) : (s.stepTime t).clk = s.clk := by simp -implicitDefEqProofs [State.stepTime, apply_ite State.clk]
@[simp] theorem State.resync_clk (s : State) (cause) : (s.resync cause).clk = s.clk := by simp -implicitDefEqProofs [State.resync, apply_ite State.clk]
@[simp] theorem State.timeMark_mode (s : State) : s.timeMark.mode = s.mode := by simp -implicitDefEqProofs [State.timeMark]
@[simp] theorem State.energyGap_mode (s : State) (msGap cause) : (s.energyGap msGap cause).mode = s.mode := by simp -implicitDefEqProofs [State.energyGap]
@[simp] theorem State.gapKnown_mode (s : State) : s.gapKnown.mode = s.mode := by
  unfold State.gapKnown
  split <;> simp -implicitDefEqProofs
@[simp] theorem State.setStatus_mode (s : State) (st) : (s.setStatus st).mode = s.mode := by simp -implicitDefEqProofs [State.setStatus, apply_ite State.mode]
@[simp] theorem State.timeMark_rst (s : State) : s.timeMark.rst = s.rst := by simp -implicitDefEqProofs [State.timeMark]
@[simp] theorem State.energyGap_rst (s : State) (msGap cause) : (s.energyGap msGap cause).rst = s.rst := by simp -implicitDefEqProofs [State.energyGap]
@[simp] theorem State.gapKnown_rst (s : State) : s.gapKnown.rst = s.rst := by
  unfold State.gapKnown
  split <;> simp -implicitDefEqProofs
@[simp] theorem State.setStatus_rst (s : State) (st) : (s.setStatus st).rst = s.rst := by simp -implicitDefEqProofs [State.setStatus, apply_ite State.rst]
@[simp] theorem State.timeMark_tw (s : State) : s.timeMark.tw = s.tw := by simp -implicitDefEqProofs [State.timeMark]
@[simp] theorem State.flagIntervals_tw (s : State) (bit) : (s.flagIntervals bit).tw = s.tw := (rfl)
@[simp] theorem State.energyGap_tw (s : State) (msGap cause) : (s.energyGap msGap cause).tw = s.tw := by simp -implicitDefEqProofs [State.energyGap]
@[simp] theorem State.gapKnown_tw (s : State) : s.gapKnown.tw = s.tw := by
  unfold State.gapKnown
  split <;> simp -implicitDefEqProofs
@[simp] theorem State.setStatus_tw (s : State) (st) : (s.setStatus st).tw = s.tw := by simp -implicitDefEqProofs [State.setStatus, apply_ite State.tw]
@[simp] theorem State.timeMark_frz (s : State) : s.timeMark.frz = s.frz := by simp -implicitDefEqProofs [State.timeMark]
@[simp] theorem State.energyGap_frz (s : State) (msGap cause) : (s.energyGap msGap cause).frz = s.frz := by simp -implicitDefEqProofs [State.energyGap]
@[simp] theorem State.gapKnown_frz (s : State) : s.gapKnown.frz = s.frz := by
  unfold State.gapKnown
  split <;> simp -implicitDefEqProofs
@[simp] theorem State.setStatus_frz (s : State) (st) : (s.setStatus st).frz = s.frz := by simp -implicitDefEqProofs [State.setStatus, apply_ite State.frz]
@[simp] theorem State.timeMark_cfgValid (s : State) : s.timeMark.cfgValid = s.cfgValid := by simp -implicitDefEqProofs [State.timeMark]
@[simp] theorem State.energyGap_cfgValid (s : State) (msGap cause) : (s.energyGap msGap cause).cfgValid = s.cfgValid := by simp -implicitDefEqProofs [State.energyGap]
@[simp] theorem State.gapKnown_cfgValid (s : State) : s.gapKnown.cfgValid = s.cfgValid := by
  unfold State.gapKnown
  split <;> simp -implicitDefEqProofs
@[simp] theorem State.setStatus_cfgValid (s : State) (st) : (s.setStatus st).cfgValid = s.cfgValid := by simp -implicitDefEqProofs [State.setStatus, apply_ite State.cfgValid]
@[simp] theorem State.timeMark_clk (s : State) : s.timeMark.clk = s.clk := by simp -implicitDefEqProofs [State.timeMark]
@[simp] theorem State.energyGap_clk (s : State) (msGap cause) : (s.energyGap msGap cause).clk = s.clk := by simp -implicitDefEqProofs [State.energyGap]
@[simp] theorem State.gapKnown_clk (s : State) : s.gapKnown.clk = s.clk := by
  unfold State.gapKnown
  split <;> simp -implicitDefEqProofs
@[simp] theorem State.setStatus_clk (s : State) (st) : (s.setStatus st).clk = s.clk := by simp -implicitDefEqProofs [State.setStatus, apply_ite State.clk]
@[simp] theorem State.carsReturn_mode (s : State) : s.carsReturn.mode = s.mode := by simp -implicitDefEqProofs [State.carsReturn, apply_ite State.mode]
@[simp] theorem State.carsReturn_rst (s : State) : s.carsReturn.rst = s.rst := by simp -implicitDefEqProofs [State.carsReturn, apply_ite State.rst]
@[simp] theorem State.carsReturn_tw (s : State) : s.carsReturn.tw = s.tw := by simp -implicitDefEqProofs [State.carsReturn, apply_ite State.tw]
@[simp] theorem State.carsReturn_frz (s : State) : s.carsReturn.frz = s.frz := by simp -implicitDefEqProofs [State.carsReturn, apply_ite State.frz]
@[simp] theorem State.carsReturn_cfgValid (s : State) : s.carsReturn.cfgValid = s.cfgValid := by simp -implicitDefEqProofs [State.carsReturn, apply_ite State.cfgValid]
@[simp] theorem State.carsReturn_tb (s : State) : s.carsReturn.tb = s.tb := by simp -implicitDefEqProofs [State.carsReturn, apply_ite State.tb]
@[simp] theorem State.carsReturn_clk (s : State) : s.carsReturn.clk = s.clk := by simp -implicitDefEqProofs [State.carsReturn, apply_ite State.clk]
@[simp] theorem State.fwStarted_mode (s : State) : s.fwStarted.mode = s.mode := by simp -implicitDefEqProofs [State.fwStarted, apply_ite State.mode]
@[simp] theorem State.fwStarted_rst (s : State) : s.fwStarted.rst = s.rst := by simp -implicitDefEqProofs [State.fwStarted, apply_ite State.rst]
@[simp] theorem State.fwStarted_tw (s : State) : s.fwStarted.tw = s.tw := by simp -implicitDefEqProofs [State.fwStarted, apply_ite State.tw]
@[simp] theorem State.fwStarted_frz (s : State) : s.fwStarted.frz = s.frz := by simp -implicitDefEqProofs [State.fwStarted, apply_ite State.frz]
@[simp] theorem State.fwStarted_cfgValid (s : State) : s.fwStarted.cfgValid = s.cfgValid := by simp -implicitDefEqProofs [State.fwStarted, apply_ite State.cfgValid]
@[simp] theorem State.fwStarted_tb (s : State) : s.fwStarted.tb = s.tb := by simp -implicitDefEqProofs [State.fwStarted, apply_ite State.tb]
@[simp] theorem State.fwStarted_clk (s : State) : s.fwStarted.clk = s.clk := by simp -implicitDefEqProofs [State.fwStarted, apply_ite State.clk]
@[simp] theorem State.autoClose_mode (s : State) : s.autoClose.mode = s.mode := (rfl)
@[simp] theorem State.autoClose_rst (s : State) : s.autoClose.rst = s.rst := (rfl)
@[simp] theorem State.autoClose_tw (s : State) : s.autoClose.tw = s.tw := (rfl)
@[simp] theorem State.autoClose_frz (s : State) : s.autoClose.frz = s.frz := (rfl)
@[simp] theorem State.autoClose_cfgValid (s : State) : s.autoClose.cfgValid = s.cfgValid := (rfl)
@[simp] theorem State.autoClose_tb (s : State) : s.autoClose.tb = s.tb := (rfl)
@[simp] theorem State.autoClose_clk (s : State) : s.autoClose.clk = s.clk := (rfl)
@[simp] theorem State.foldl_tw_activeOut {α : Type} {g : State → α → State} (hg : ∀ s a, (g s a).tw.activeOut = s.tw.activeOut) (l : List α) (s : State) :
    (l.foldl g s).tw.activeOut = s.tw.activeOut := State.foldl_keeps (fun s => s.tw.activeOut) hg l s
@[simp] theorem State.foldl_fst_tw_activeOut {α β : Type} {g : State × β → α → State × β} (hg : ∀ r a, (g r a).1.tw.activeOut = r.1.tw.activeOut) (l : List α)
    (r : State × β) : (l.foldl g r).1.tw.activeOut = r.1.tw.activeOut := List.foldl_keeps (fun r => r.1.tw.activeOut) hg l r
@[simp] theorem State.foldl_snd_tw_activeOut {α β : Type} {g : β × State → α → β × State} (hg : ∀ r a, (g r a).2.tw.activeOut = r.2.tw.activeOut) (l : List α)
    (r : β × State) : (l.foldl g r).2.tw.activeOut = r.2.tw.activeOut := List.foldl_keeps (fun r => r.2.tw.activeOut) hg l r
@[simp] theorem State.storeInterval_tw_activeOut (s : State) (c short) : (s.storeInterval c short).tw.activeOut = s.tw.activeOut := (rfl)
@[simp] theorem State.openInterval_tw_activeOut (s : State) (c) : (s.openInterval c).tw.activeOut = s.tw.activeOut := (rfl)
@[simp] theorem State.closeInterval_tw_activeOut (s : State) (short) : (s.closeInterval short).tw.activeOut = s.tw.activeOut := by
  unfold State.closeInterval
  split <;> simp -implicitDefEqProofs
@[simp] theorem State.flagIntervals_tw_activeOut (s : State) (bit) : (s.flagIntervals bit).tw.activeOut = s.tw.activeOut := (rfl)
@[simp] theorem State.fwStarted_tw_activeOut (s : State) : s.fwStarted.tw.activeOut = s.tw.activeOut := by simp -implicitDefEqProofs [State.fwStarted, apply_ite State.tw, apply_ite Twin.activeOut]
@[simp] theorem State.showWinter_tw_activeOut (s : State) : s.showWinter.tw.activeOut = s.tw.activeOut := (rfl)
@[simp] theorem State.mirror_tw_activeOut (s : State) (b) : (s.mirror b).tw.activeOut = s.tw.activeOut := by unfold State.mirror; split <;> rfl
@[simp] theorem State.dropItems_tw_activeOut (s : State) (p) : (s.dropItems p).tw.activeOut = s.tw.activeOut := by simp -implicitDefEqProofs [State.dropItems]
@[simp] theorem State.mapLaunch_tw_activeOut (s : State) (part tag f) : (s.mapLaunch part tag f).tw.activeOut = s.tw.activeOut := (rfl)
@[simp] theorem State.endLaunch_tw_activeOut (s : State) (l st) : (s.endLaunch l st).tw.activeOut = s.tw.activeOut := by simp -implicitDefEqProofs [State.endLaunch]
@[simp] theorem State.commitLaunch_tw_activeOut (s : State) (l) : (s.commitLaunch l).tw.activeOut = s.tw.activeOut := by
  unfold State.commitLaunch
  split <;> simp -implicitDefEqProofs
@[simp] theorem State.emitPast_tw_activeOut (s : State) (l) : (s.emitPast l).tw.activeOut = s.tw.activeOut := by simp -implicitDefEqProofs [State.emitPast, apply_ite State.tw, apply_ite Twin.activeOut]
@[simp] theorem State.stepTime_tw_activeOut (s : State) (t) : (s.stepTime t).tw.activeOut = s.tw.activeOut := by simp -implicitDefEqProofs [State.stepTime, apply_ite State.tw, apply_ite Twin.activeOut]
@[simp] theorem State.resync_tw_activeOut (s : State) (cause) : (s.resync cause).tw.activeOut = s.tw.activeOut := by simp -implicitDefEqProofs [State.resync, apply_ite State.tw, apply_ite Twin.activeOut]
@[simp] theorem State.answer_mode (s : State) (r st payload) : (s.answer r st payload).mode = s.mode := by unfold State.answer; split <;> rfl
@[simp] theorem State.answer_rcd (s : State) (r st payload) : (s.answer r st payload).rcd = s.rcd := by unfold State.answer; split <;> rfl
@[simp] theorem State.answer_tb (s : State) (r st payload) : (s.answer r st payload).tb = s.tb := by unfold State.answer; split <;> rfl
@[simp] theorem State.answer_clk (s : State) (r st payload) : (s.answer r st payload).clk = s.clk := by unfold State.answer; split <;> rfl
@[simp] theorem State.answer_frz (s : State) (r st payload) : (s.answer r st payload).frz = s.frz := by unfold State.answer; split <;> rfl
@[simp] theorem State.answer_pow (s : State) (r st payload) : (s.answer r st payload).pow = s.pow := by unfold State.answer; split <;> rfl
@[simp] theorem State.answer_rst (s : State) (r st payload) : (s.answer r st payload).rst = s.rst := by unfold State.answer; split <;> rfl
@[simp] theorem State.foldl_tw_waiting {α : Type} {g : State → α → State} (hg : ∀ s a, (g s a).tw.waiting = s.tw.waiting) (l : List α) (s : State) :
    (l.foldl g s).tw.waiting = s.tw.waiting := State.foldl_keeps (fun s => s.tw.waiting) hg l s
@[simp] theorem State.foldl_fst_tw_waiting {α β : Type} {g : State × β → α → State × β} (hg : ∀ r a, (g r a).1.tw.waiting = r.1.tw.waiting) (l : List α)
    (r : State × β) : (l.foldl g r).1.tw.waiting = r.1.tw.waiting := List.foldl_keeps (fun r => r.1.tw.waiting) hg l r
@[simp] theorem State.foldl_snd_tw_waiting {α β : Type} {g : β × State → α → β × State} (hg : ∀ r a, (g r a).2.tw.waiting = r.2.tw.waiting) (l : List α)
    (r : β × State) : (l.foldl g r).2.tw.waiting = r.2.tw.waiting := List.foldl_keeps (fun r => r.2.tw.waiting) hg l r
@[simp] theorem State.answer_tw_waiting (s : State) (r st payload) : (s.answer r st payload).tw.waiting = s.tw.waiting := by unfold State.answer; split <;> rfl
@[simp] theorem State.foldl_tw_mirror {α : Type} {g : State → α → State} (hg : ∀ s a, (g s a).tw.mirror = s.tw.mirror) (l : List α) (s : State) :
    (l.foldl g s).tw.mirror = s.tw.mirror := State.foldl_keeps (fun s => s.tw.mirror) hg l s
@[simp] theorem State.foldl_fst_tw_mirror {α β : Type} {g : State × β → α → State × β} (hg : ∀ r a, (g r a).1.tw.mirror = r.1.tw.mirror) (l : List α)
    (r : State × β) : (l.foldl g r).1.tw.mirror = r.1.tw.mirror := List.foldl_keeps (fun r => r.1.tw.mirror) hg l r
@[simp] theorem State.foldl_snd_tw_mirror {α β : Type} {g : β × State → α → β × State} (hg : ∀ r a, (g r a).2.tw.mirror = r.2.tw.mirror) (l : List α)
    (r : β × State) : (l.foldl g r).2.tw.mirror = r.2.tw.mirror := List.foldl_keeps (fun r => r.2.tw.mirror) hg l r
@[simp] theorem State.answer_tw_mirror (s : State) (r st payload) : (s.answer r st payload).tw.mirror = s.tw.mirror := by unfold State.answer; split <;> rfl
@[simp] theorem State.answer_tw_activeOut (s : State) (r st payload) : (s.answer r st payload).tw.activeOut = s.tw.activeOut := by unfold State.answer; split <;> rfl
@[simp] theorem State.answer_emits (s : State) (r st payload) : (s.answer r st payload).emits = s.emits := by unfold State.answer; split <;> rfl
@[simp] theorem State.answer_met (s : State) (r st payload) : (s.answer r st payload).met = s.met := by unfold State.answer; split <;> rfl
@[simp] theorem State.holdOutputs_mode (s : State) : s.holdOutputs.mode = s.mode := (rfl)
@[simp] theorem State.holdOutputs_rcd (s : State) : s.holdOutputs.rcd = s.rcd := (rfl)
@[simp] theorem State.holdOutputs_tb (s : State) : s.holdOutputs.tb = s.tb := (rfl)
@[simp] theorem State.holdOutputs_clk (s : State) : s.holdOutputs.clk = s.clk := (rfl)
@[simp] theorem State.holdOutputs_frz (s : State) : s.holdOutputs.frz = s.frz := (rfl)
@[simp] theorem State.holdOutputs_pow (s : State) : s.holdOutputs.pow = s.pow := (rfl)
@[simp] theorem State.holdOutputs_rst (s : State) : s.holdOutputs.rst = s.rst := (rfl)
@[simp] theorem State.holdOutputs_tw_waiting (s : State) : s.holdOutputs.tw.waiting = s.tw.waiting := (rfl)
@[simp] theorem State.holdOutputs_tw_mirror (s : State) : s.holdOutputs.tw.mirror = s.tw.mirror := (rfl)
@[simp] theorem State.holdOutputs_tw_activeOut (s : State) : s.holdOutputs.tw.activeOut = s.tw.activeOut := (rfl)
@[simp] theorem State.holdOutputs_emits (s : State) : s.holdOutputs.emits = s.emits := (rfl)
@[simp] theorem State.holdOutputs_met (s : State) : s.holdOutputs.met = s.met := (rfl)
@[simp] theorem State.holdOutputs_objs (s : State) : s.holdOutputs.objs = s.objs := (rfl)
@[simp] theorem State.holdOutputs_acc (s : State) : s.holdOutputs.acc = s.acc := (rfl)
@[simp] theorem State.spoilTrips_mode (s : State) : s.spoilTrips.mode = s.mode := (rfl)
@[simp] theorem State.energyStop_mode (s : State) (cause) : (s.energyStop cause).mode = s.mode := (rfl)
@[simp] theorem State.spoilTrips_rcd (s : State) : s.spoilTrips.rcd = s.rcd := (rfl)
@[simp] theorem State.energyStop_rcd (s : State) (cause) : (s.energyStop cause).rcd = s.rcd := (rfl)
@[simp] theorem State.spoilTrips_tb (s : State) : s.spoilTrips.tb = s.tb := (rfl)
@[simp] theorem State.energyStop_tb (s : State) (cause) : (s.energyStop cause).tb = s.tb := (rfl)
@[simp] theorem State.spoilTrips_clk (s : State) : s.spoilTrips.clk = s.clk := (rfl)
@[simp] theorem State.energyStop_clk (s : State) (cause) : (s.energyStop cause).clk = s.clk := (rfl)
@[simp] theorem State.spoilTrips_frz (s : State) : s.spoilTrips.frz = s.frz := (rfl)
@[simp] theorem State.energyStop_frz (s : State) (cause) : (s.energyStop cause).frz = s.frz := (rfl)
@[simp] theorem State.spoilTrips_pow (s : State) : s.spoilTrips.pow = s.pow := (rfl)
@[simp] theorem State.energyStop_pow (s : State) (cause) : (s.energyStop cause).pow = s.pow := (rfl)
@[simp] theorem State.spoilTrips_rst (s : State) : s.spoilTrips.rst = s.rst := (rfl)
@[simp] theorem State.energyStop_rst (s : State) (cause) : (s.energyStop cause).rst = s.rst := (rfl)
@[simp] theorem State.spoilTrips_tw_waiting (s : State) : s.spoilTrips.tw.waiting = s.tw.waiting := (rfl)
@[simp] theorem State.energyStop_tw_waiting (s : State) (cause) : (s.energyStop cause).tw.waiting = s.tw.waiting := (rfl)
@[simp] theorem State.spoilTrips_tw_mirror (s : State) : s.spoilTrips.tw.mirror = s.tw.mirror := (rfl)
@[simp] theorem State.energyStop_tw_mirror (s : State) (cause) : (s.energyStop cause).tw.mirror = s.tw.mirror := (rfl)
@[simp] theorem State.spoilTrips_tw_activeOut (s : State) : s.spoilTrips.tw.activeOut = s.tw.activeOut := (rfl)
@[simp] theorem State.energyStop_tw_activeOut (s : State) (cause) : (s.energyStop cause).tw.activeOut = s.tw.activeOut := (rfl)
@[simp] theorem State.spoilTrips_emits (s : State) : s.spoilTrips.emits = s.emits := (rfl)
@[simp] theorem State.energyStop_emits (s : State) (cause) : (s.energyStop cause).emits = s.emits := (rfl)
@[simp] theorem State.spoilTrips_objs (s : State) : s.spoilTrips.objs = s.objs := (rfl)
@[simp] theorem State.energyStop_objs (s : State) (cause) : (s.energyStop cause).objs = s.objs := (rfl)
@[simp] theorem State.spoilTrips_acc (s : State) : s.spoilTrips.acc = s.acc := (rfl)
@[simp] theorem State.energyStop_acc (s : State) (cause) : (s.energyStop cause).acc = s.acc := (rfl)
@[simp] theorem State.flushRecords_mode (s : State) : s.flushRecords.mode = s.mode := (rfl)
@[simp] theorem State.flushRecords_tb (s : State) : s.flushRecords.tb = s.tb := (rfl)
@[simp] theorem State.flushRecords_clk (s : State) : s.flushRecords.clk = s.clk := (rfl)
@[simp] theorem State.flushRecords_frz (s : State) : s.flushRecords.frz = s.frz := (rfl)
@[simp] theorem State.flushRecords_pow (s : State) : s.flushRecords.pow = s.pow := (rfl)
@[simp] theorem State.flushRecords_rst (s : State) : s.flushRecords.rst = s.rst := (rfl)
@[simp] theorem State.flushRecords_tw_waiting (s : State) : s.flushRecords.tw.waiting = s.tw.waiting := (rfl)
@[simp] theorem State.flushRecords_tw_mirror (s : State) : s.flushRecords.tw.mirror = s.tw.mirror := (rfl)
@[simp] theorem State.flushRecords_tw_activeOut (s : State) : s.flushRecords.tw.activeOut = s.tw.activeOut := (rfl)
@[simp] theorem State.flushRecords_emits (s : State) : s.flushRecords.emits = s.emits := (rfl)
@[simp] theorem State.flushRecords_met (s : State) : s.flushRecords.met = s.met := (rfl)
@[simp] theorem State.flushRecords_objs (s : State) : s.flushRecords.objs = s.objs := (rfl)
@[simp] theorem State.flushRecords_acc (s : State) : s.flushRecords.acc = s.acc := (rfl)
@[simp] theorem State.enter_tb (s : State) (m trigger) : (s.enter m trigger).tb = s.tb := by simp -implicitDefEqProofs [State.enter]
@[simp] theorem State.release_tb (s : State) (cause) : (s.release cause).tb = s.tb := by simp -implicitDefEqProofs [State.release, apply_ite State.tb]
@[simp] theorem State.enter_clk (s : State) (m trigger) : (s.enter m trigger).clk = s.clk := by simp -implicitDefEqProofs [State.enter]
@[simp] theorem State.release_clk (s : State) (cause) : (s.release cause).clk = s.clk := by simp -implicitDefEqProofs [State.release, apply_ite State.clk]
@[simp] theorem State.enter_frz (s : State) (m trigger) : (s.enter m trigger).frz = s.frz := by simp -implicitDefEqProofs [State.enter]
@[simp] theorem State.release_frz (s : State) (cause) : (s.release cause).frz = s.frz := by simp -implicitDefEqProofs [State.release, apply_ite State.frz]
@[simp] theorem State.enter_pow (s : State) (m trigger) : (s.enter m trigger).pow = s.pow := by simp -implicitDefEqProofs [State.enter]
@[simp] theorem State.release_pow (s : State) (cause) : (s.release cause).pow = s.pow := by simp -implicitDefEqProofs [State.release, apply_ite State.pow]
@[simp] theorem State.enter_rst (s : State) (m trigger) : (s.enter m trigger).rst = s.rst := by simp -implicitDefEqProofs [State.enter]
@[simp] theorem State.release_rst (s : State) (cause) : (s.release cause).rst = s.rst := by simp -implicitDefEqProofs [State.release, apply_ite State.rst]
@[simp] theorem State.enter_tw_waiting (s : State) (m trigger) : (s.enter m trigger).tw.waiting = s.tw.waiting := by simp -implicitDefEqProofs [State.enter]
@[simp] theorem State.release_tw_waiting (s : State) (cause) : (s.release cause).tw.waiting = s.tw.waiting := by simp -implicitDefEqProofs [State.release, apply_ite State.tw, apply_ite Twin.waiting]
@[simp] theorem State.enter_tw_mirror (s : State) (m trigger) : (s.enter m trigger).tw.mirror = s.tw.mirror := by simp -implicitDefEqProofs [State.enter]
@[simp] theorem State.release_tw_mirror (s : State) (cause) : (s.release cause).tw.mirror = s.tw.mirror := by simp -implicitDefEqProofs [State.release, apply_ite State.tw, apply_ite Twin.mirror]
@[simp] theorem State.release_emits (s : State) (cause) : (s.release cause).emits = s.emits := by simp -implicitDefEqProofs [State.release, apply_ite State.emits]
@[simp] theorem State.release_acc (s : State) (cause) : (s.release cause).acc = s.acc := by simp -implicitDefEqProofs [State.release, apply_ite State.acc]
@[simp] theorem State.flushRecords_tw (s : State) : s.flushRecords.tw = s.tw := (rfl)
@[simp] theorem State.get_startReadback (s : State) (levels mask) (key : Key) : (s.startReadback levels mask).get key = s.get key := State.get_congr (State.startReadback_objs ..) key
@[simp] theorem State.nat_startReadback (s : State) (levels mask) (key : Key) : (s.startReadback levels mask).nat key = s.nat key := State.nat_congr (State.startReadback_objs ..) key
@[simp] theorem State.flag_startReadback (s : State) (levels mask) (key : Key) : (s.startReadback levels mask).flag key = s.flag key := State.flag_congr (State.startReadback_objs ..) key
@[simp] theorem State.get_holdOutputs (s : State) (key : Key) : s.holdOutputs.get key = s.get key := State.get_congr (State.holdOutputs_objs ..) key
@[simp] theorem State.nat_holdOutputs (s : State) (key : Key) : s.holdOutputs.nat key = s.nat key := State.nat_congr (State.holdOutputs_objs ..) key
@[simp] theorem State.flag_holdOutputs (s : State) (key : Key) : s.holdOutputs.flag key = s.flag key := State.flag_congr (State.holdOutputs_objs ..) key
@[simp] theorem State.get_spoilTrips (s : State) (key : Key) : s.spoilTrips.get key = s.get key := State.get_congr (State.spoilTrips_objs ..) key
@[simp] theorem State.nat_spoilTrips (s : State) (key : Key) : s.spoilTrips.nat key = s.nat key := State.nat_congr (State.spoilTrips_objs ..) key
@[simp] theorem State.flag_spoilTrips (s : State) (key : Key) : s.spoilTrips.flag key = s.flag key := State.flag_congr (State.spoilTrips_objs ..) key
@[simp] theorem State.get_energyStop (s : State) (cause) (key : Key) : (s.energyStop cause).get key = s.get key := State.get_congr (State.energyStop_objs ..) key
@[simp] theorem State.nat_energyStop (s : State) (cause) (key : Key) : (s.energyStop cause).nat key = s.nat key := State.nat_congr (State.energyStop_objs ..) key
@[simp] theorem State.flag_energyStop (s : State) (cause) (key : Key) : (s.energyStop cause).flag key = s.flag key := State.flag_congr (State.energyStop_objs ..) key
@[simp] theorem State.get_flushRecords (s : State) (key : Key) : s.flushRecords.get key = s.get key := State.get_congr (State.flushRecords_objs ..) key
@[simp] theorem State.nat_flushRecords (s : State) (key : Key) : s.flushRecords.nat key = s.nat key := State.nat_congr (State.flushRecords_objs ..) key
@[simp] theorem State.flag_flushRecords (s : State) (key : Key) : s.flushRecords.flag key = s.flag key := State.flag_congr (State.flushRecords_objs ..) key
@[simp] theorem State.spoilTrips_tw (s : State) : s.spoilTrips.tw = s.tw := (rfl)
@[simp] theorem State.spoilTrips_out (s : State) : s.spoilTrips.out = s.out := (rfl)
@[simp] theorem State.showWinter_mode (s : State) : s.showWinter.mode = s.mode := (rfl)
@[simp] theorem State.showWinter_rcd (s : State) : s.showWinter.rcd = s.rcd := (rfl)
@[simp] theorem State.showWinter_tw (s : State) : s.showWinter.tw = s.tw := (rfl)
@[simp] theorem State.showWinter_clk (s : State) : s.showWinter.clk = s.clk := (rfl)
@[simp] theorem State.showWinter_acc (s : State) : s.showWinter.acc = s.acc := (rfl)
@[simp] theorem State.showWinter_frz (s : State) : s.showWinter.frz = s.frz := (rfl)
@[simp] theorem State.showWinter_rst (s : State) : s.showWinter.rst = s.rst := (rfl)
@[simp] theorem State.showWinter_pow (s : State) : s.showWinter.pow = s.pow := (rfl)
@[simp] theorem State.showWinter_tb (s : State) : s.showWinter.tb = s.tb := (rfl)
@[simp] theorem State.showWinter_emits (s : State) : s.showWinter.emits = s.emits := (rfl)
@[simp] theorem State.showWinter_met (s : State) : s.showWinter.met = s.met := (rfl)
@[simp] theorem State.showWinter_out (s : State) : s.showWinter.out = s.out := (rfl)
@[simp] theorem State.save_frz (s : State) (kind bad complete) : (s.save kind bad complete).frz = s.frz := by unfold State.save; split <;> rfl
@[simp] theorem State.preSave_frz (s : State) : s.preSave.frz = s.frz := by unfold State.preSave; split <;> rfl
@[simp] theorem State.losePending_frz (s : State) : s.losePending.frz = s.frz := (rfl)
@[simp] theorem State.resetLaunches_frz (s : State) : s.resetLaunches.frz = s.frz := by simp -implicitDefEqProofs [State.resetLaunches, apply_ite State.frz]
@[simp] theorem State.resetMetering_frz (s : State) (r) : (s.resetMetering r).frz = s.frz := by simp -implicitDefEqProofs [State.resetMetering, apply_ite State.frz]
@[simp] theorem State.disarmCompare_frz (s : State) (n k) : (s.disarmCompare n k).frz = s.frz := by simp -implicitDefEqProofs [State.disarmCompare, apply_ite State.frz]
@[simp] theorem State.posDisarm_frz (s : State) (n) : (s.posDisarm n).frz = s.frz := by simp -implicitDefEqProofs [State.posDisarm]
@[simp] theorem State.posClear_frz (s : State) (n) : (s.posClear n).frz = s.frz := by simp -implicitDefEqProofs [State.posClear]
@[simp] theorem State.posReset_frz (s : State) (n cause) : (s.posReset n cause).frz = s.frz := by simp -implicitDefEqProofs [State.posReset, apply_ite State.frz]
@[simp] theorem State.carsReset_frz (s : State) : s.carsReset.frz = s.frz := by simp -implicitDefEqProofs [State.carsReset, apply_ite State.frz]
@[simp] theorem State.resetLift_frz (s : State) (r) : (s.resetLift r).frz = s.frz := by simp -implicitDefEqProofs [State.resetLift]
@[simp] theorem State.resetObjs_frz (s : State) (r) : (s.resetObjs r).frz = s.frz := by simp -implicitDefEqProofs [State.resetObjs]
@[simp] theorem State.resetPower_frz (s : State) (r) : (s.resetPower r).frz = s.frz := (rfl)
@[simp] theorem State.resetSafety_frz (s : State) (r) : (s.resetSafety r).frz = s.frz := (rfl)
@[simp] theorem State.resetTwin_frz (s : State) : s.resetTwin.frz = s.frz := (rfl)
@[simp] theorem State.resetPoints_frz (s : State) : s.resetPoints.frz = s.frz := (rfl)
@[simp] theorem State.resetAccess_frz (s : State) (r) : (s.resetAccess r).frz = s.frz := (rfl)
@[simp] theorem State.resetField_frz (s : State) : s.resetField.frz = s.frz := (rfl)
@[simp] theorem State.resetTime_frz (s : State) (r) : (s.resetTime r).frz = s.frz := by unfold State.resetTime; split <;> rfl
@[simp] theorem State.setLoopMode_frz (s : State) (c j m) : (s.setLoopMode c j m).frz = s.frz := by simp -implicitDefEqProofs [State.setLoopMode, apply_ite State.frz]
@[simp] theorem State.closeLoop_frz (s : State) (c j) : (s.closeLoop c j).frz = s.frz := by simp -implicitDefEqProofs [State.closeLoop]
@[simp] theorem State.doorLoopsClose_frz (s : State) (k) : (s.doorLoopsClose k).frz = s.frz := by simp -implicitDefEqProofs [State.doorLoopsClose, apply_ite State.frz]
@[simp] theorem State.doorLoopsOpen_frz (s : State) (k) : (s.doorLoopsOpen k).frz = s.frz := by simp -implicitDefEqProofs [State.doorLoopsOpen, apply_ite State.frz]
@[simp] theorem State.doorEnter_frz (s : State) (k st) : (s.doorEnter k st).frz = s.frz := by simp -implicitDefEqProofs [State.doorEnter, apply_ite State.frz]
@[simp] theorem State.handshake_frz (s : State) (k) : (s.handshake k).frz = s.frz := by simp -implicitDefEqProofs [State.handshake]
@[simp] theorem State.moveItem_frz (a) (s : State) (i) : (s.moveItem a i).frz = s.frz := by
  unfold State.moveItem
  split <;> simp -implicitDefEqProofs
@[simp] theorem State.degrade_frz (s : State) (a i) : (s.degrade a i).frz = s.frz := by simp -implicitDefEqProofs [State.degrade]
@[simp] theorem State.degradePathless_frz (s : State) (a) : (s.degradePathless a).frz = s.frz := by
  unfold State.degradePathless
  split <;> simp -implicitDefEqProofs
@[simp] theorem State.save_clk (s : State) (kind bad complete) : (s.save kind bad complete).clk = s.clk := by unfold State.save; split <;> rfl
@[simp] theorem State.preSave_clk (s : State) : s.preSave.clk = s.clk := by unfold State.preSave; split <;> rfl
@[simp] theorem State.losePending_clk (s : State) : s.losePending.clk = s.clk := (rfl)
@[simp] theorem State.resetLaunches_clk (s : State) : s.resetLaunches.clk = s.clk := by simp -implicitDefEqProofs [State.resetLaunches, apply_ite State.clk]
@[simp] theorem State.resetMetering_clk (s : State) (r) : (s.resetMetering r).clk = s.clk := by simp -implicitDefEqProofs [State.resetMetering, apply_ite State.clk]
@[simp] theorem State.disarmCompare_clk (s : State) (n k) : (s.disarmCompare n k).clk = s.clk := by simp -implicitDefEqProofs [State.disarmCompare, apply_ite State.clk]
@[simp] theorem State.posDisarm_clk (s : State) (n) : (s.posDisarm n).clk = s.clk := by simp -implicitDefEqProofs [State.posDisarm]
@[simp] theorem State.posClear_clk (s : State) (n) : (s.posClear n).clk = s.clk := by simp -implicitDefEqProofs [State.posClear]
@[simp] theorem State.posReset_clk (s : State) (n cause) : (s.posReset n cause).clk = s.clk := by simp -implicitDefEqProofs [State.posReset, apply_ite State.clk]
@[simp] theorem State.carsReset_clk (s : State) : s.carsReset.clk = s.clk := by simp -implicitDefEqProofs [State.carsReset, apply_ite State.clk]
@[simp] theorem State.resetLift_clk (s : State) (r) : (s.resetLift r).clk = s.clk := by simp -implicitDefEqProofs [State.resetLift]
@[simp] theorem State.resetObjs_clk (s : State) (r) : (s.resetObjs r).clk = s.clk := by simp -implicitDefEqProofs [State.resetObjs]
@[simp] theorem State.resetPower_clk (s : State) (r) : (s.resetPower r).clk = s.clk := (rfl)
@[simp] theorem State.resetSafety_clk (s : State) (r) : (s.resetSafety r).clk = s.clk := (rfl)
@[simp] theorem State.resetTwin_clk (s : State) : s.resetTwin.clk = s.clk := (rfl)
@[simp] theorem State.resetPoints_clk (s : State) : s.resetPoints.clk = s.clk := (rfl)
@[simp] theorem State.resetAccess_clk (s : State) (r) : (s.resetAccess r).clk = s.clk := (rfl)
@[simp] theorem State.resetField_clk (s : State) : s.resetField.clk = s.clk := (rfl)
@[simp] theorem State.resetTime_clk (s : State) (r) : (s.resetTime r).clk = s.clk := by unfold State.resetTime; split <;> rfl
@[simp] theorem State.setLoopMode_clk (s : State) (c j m) : (s.setLoopMode c j m).clk = s.clk := by simp -implicitDefEqProofs [State.setLoopMode, apply_ite State.clk]
@[simp] theorem State.closeLoop_clk (s : State) (c j) : (s.closeLoop c j).clk = s.clk := by simp -implicitDefEqProofs [State.closeLoop]
@[simp] theorem State.doorLoopsClose_clk (s : State) (k) : (s.doorLoopsClose k).clk = s.clk := by simp -implicitDefEqProofs [State.doorLoopsClose, apply_ite State.clk]
@[simp] theorem State.doorLoopsOpen_clk (s : State) (k) : (s.doorLoopsOpen k).clk = s.clk := by simp -implicitDefEqProofs [State.doorLoopsOpen, apply_ite State.clk]
@[simp] theorem State.doorEnter_clk (s : State) (k st) : (s.doorEnter k st).clk = s.clk := by simp -implicitDefEqProofs [State.doorEnter, apply_ite State.clk]
@[simp] theorem State.handshake_clk (s : State) (k) : (s.handshake k).clk = s.clk := by simp -implicitDefEqProofs [State.handshake]
@[simp] theorem State.moveItem_clk (a) (s : State) (i) : (s.moveItem a i).clk = s.clk := by
  unfold State.moveItem
  split <;> simp -implicitDefEqProofs
@[simp] theorem State.degrade_clk (s : State) (a i) : (s.degrade a i).clk = s.clk := by simp -implicitDefEqProofs [State.degrade]
@[simp] theorem State.degradePathless_clk (s : State) (a) : (s.degradePathless a).clk = s.clk := by
  unfold State.degradePathless
  split <;> simp -implicitDefEqProofs
@[simp] theorem State.save_rst (s : State) (kind bad complete) : (s.save kind bad complete).rst = s.rst := by unfold State.save; split <;> rfl
@[simp] theorem State.preSave_rst (s : State) : s.preSave.rst = s.rst := by unfold State.preSave; split <;> rfl
@[simp] theorem State.losePending_rst (s : State) : s.losePending.rst = s.rst := (rfl)
@[simp] theorem State.resetLaunches_rst (s : State) : s.resetLaunches.rst = s.rst := by simp -implicitDefEqProofs [State.resetLaunches, apply_ite State.rst]
@[simp] theorem State.resetMetering_rst (s : State) (r) : (s.resetMetering r).rst = s.rst := by simp -implicitDefEqProofs [State.resetMetering, apply_ite State.rst]
@[simp] theorem State.disarmCompare_rst (s : State) (n k) : (s.disarmCompare n k).rst = s.rst := by simp -implicitDefEqProofs [State.disarmCompare, apply_ite State.rst]
@[simp] theorem State.posDisarm_rst (s : State) (n) : (s.posDisarm n).rst = s.rst := by simp -implicitDefEqProofs [State.posDisarm]
@[simp] theorem State.posClear_rst (s : State) (n) : (s.posClear n).rst = s.rst := by simp -implicitDefEqProofs [State.posClear]
@[simp] theorem State.posReset_rst (s : State) (n cause) : (s.posReset n cause).rst = s.rst := by simp -implicitDefEqProofs [State.posReset, apply_ite State.rst]
@[simp] theorem State.carsReset_rst (s : State) : s.carsReset.rst = s.rst := by simp -implicitDefEqProofs [State.carsReset, apply_ite State.rst]
@[simp] theorem State.resetLift_rst (s : State) (r) : (s.resetLift r).rst = s.rst := by simp -implicitDefEqProofs [State.resetLift]
@[simp] theorem State.resetObjs_rst (s : State) (r) : (s.resetObjs r).rst = s.rst := by simp -implicitDefEqProofs [State.resetObjs]
@[simp] theorem State.save_tb (s : State) (kind bad complete) : (s.save kind bad complete).tb = s.tb := by unfold State.save; split <;> rfl
@[simp] theorem State.preSave_tb (s : State) : s.preSave.tb = s.tb := by unfold State.preSave; split <;> rfl
@[simp] theorem State.losePending_tb (s : State) : s.losePending.tb = s.tb := (rfl)
@[simp] theorem State.resetLaunches_tb (s : State) : s.resetLaunches.tb = s.tb := by simp -implicitDefEqProofs [State.resetLaunches, apply_ite State.tb]
@[simp] theorem State.resetMetering_tb (s : State) (r) : (s.resetMetering r).tb = s.tb := by simp -implicitDefEqProofs [State.resetMetering, apply_ite State.tb]
@[simp] theorem State.disarmCompare_tb (s : State) (n k) : (s.disarmCompare n k).tb = s.tb := by simp -implicitDefEqProofs [State.disarmCompare, apply_ite State.tb]
@[simp] theorem State.posDisarm_tb (s : State) (n) : (s.posDisarm n).tb = s.tb := by simp -implicitDefEqProofs [State.posDisarm]
@[simp] theorem State.posClear_tb (s : State) (n) : (s.posClear n).tb = s.tb := by simp -implicitDefEqProofs [State.posClear]
@[simp] theorem State.posReset_tb (s : State) (n cause) : (s.posReset n cause).tb = s.tb := by simp -implicitDefEqProofs [State.posReset, apply_ite State.tb]
@[simp] theorem State.carsReset_tb (s : State) : s.carsReset.tb = s.tb := by simp -implicitDefEqProofs [State.carsReset, apply_ite State.tb]
@[simp] theorem State.resetLift_tb (s : State) (r) : (s.resetLift r).tb = s.tb := by simp -implicitDefEqProofs [State.resetLift]
@[simp] theorem State.resetObjs_tb (s : State) (r) : (s.resetObjs r).tb = s.tb := by simp -implicitDefEqProofs [State.resetObjs]
@[simp] theorem State.resetPower_tb (s : State) (r) : (s.resetPower r).tb = s.tb := (rfl)
@[simp] theorem State.resetSafety_tb (s : State) (r) : (s.resetSafety r).tb = s.tb := (rfl)
@[simp] theorem State.resetTwin_tb (s : State) : s.resetTwin.tb = s.tb := (rfl)
@[simp] theorem State.resetPoints_tb (s : State) : s.resetPoints.tb = s.tb := (rfl)
@[simp] theorem State.resetAccess_tb (s : State) (r) : (s.resetAccess r).tb = s.tb := (rfl)
@[simp] theorem State.resetField_tb (s : State) : s.resetField.tb = s.tb := (rfl)
@[simp] theorem State.noteSource_frz (s : State) (b) : (s.noteSource b).frz = s.frz := (rfl)
@[simp] theorem State.noteSource_clk (s : State) (b) : (s.noteSource b).clk = s.clk := (rfl)
@[simp] theorem State.noteSource_mode (s : State) (b) : (s.noteSource b).mode = s.mode := (rfl)
@[simp] theorem State.noteSource_tb (s : State) (b) : (s.noteSource b).tb = s.tb := (rfl)
@[simp] theorem State.save_mode (s : State) (kind bad complete) : (s.save kind bad complete).mode = s.mode := by unfold State.save; split <;> rfl
@[simp] theorem State.degradeOn_frz (a a1) (s : State) : (s.degradeOn a a1).frz = s.frz := by
  fun_induction State.degradeOn a a1 s <;> simp_all
@[simp] theorem State.shrink_frz (s : State) (a) : (s.shrink a).frz = s.frz := by simp -implicitDefEqProofs [State.shrink]
@[simp] theorem State.moveBack_frz (a) (s : State) (i) : (s.moveBack a i).frz = s.frz := by
  unfold State.moveBack
  split <;> simp -implicitDefEqProofs
@[simp] theorem State.undegrade_frz (s : State) (a i) : (s.undegrade a i).frz = s.frz := by simp -implicitDefEqProofs [State.undegrade]
@[simp] theorem State.restoreItem_frz (a) (s : State) (i) : (s.restoreItem a i).frz = s.frz := by simp -implicitDefEqProofs [State.restoreItem, apply_ite State.frz]
@[simp] theorem State.grow_frz (s : State) (a) : (s.grow a).frz = s.frz := by simp -implicitDefEqProofs [State.grow]
@[simp] theorem State.canTakeMode_frz (s : State) (c m) : (s.canTakeMode c m).frz = s.frz := by simp -implicitDefEqProofs [State.canTakeMode, apply_ite State.frz]
@[simp] theorem State.islandStart_frz (s : State) (i) : (s.islandStart i).frz = s.frz := (rfl)
@[simp] theorem State.acctUp_frz (s : State) (a) : (s.acctUp a).frz = s.frz := by simp -implicitDefEqProofs [State.acctUp]
@[simp] theorem State.blockLeave_frz (s : State) (b) : (s.blockLeave b).frz = s.frz := by
  simp -implicitDefEqProofs only [State.blockLeave]
  split <;> simp -implicitDefEqProofs [apply_ite State.frz]
@[simp] theorem State.blockRelease_frz (s : State) (b) : (s.blockRelease b).frz = s.frz := by simp -implicitDefEqProofs [State.blockRelease, apply_ite State.frz]
@[simp] theorem State.applyReach_frz (s : State) (r) : (s.applyReach r).frz = s.frz := by simp -implicitDefEqProofs [State.applyReach, apply_ite State.frz]
@[simp] theorem State.degradeOn_clk (a a1) (s : State) : (s.degradeOn a a1).clk = s.clk := by
  fun_induction State.degradeOn a a1 s <;> simp_all
@[simp] theorem State.shrink_clk (s : State) (a) : (s.shrink a).clk = s.clk := by simp -implicitDefEqProofs [State.shrink]
@[simp] theorem State.moveBack_clk (a) (s : State) (i) : (s.moveBack a i).clk = s.clk := by
  unfold State.moveBack
  split <;> simp -implicitDefEqProofs
@[simp] theorem State.undegrade_clk (s : State) (a i) : (s.undegrade a i).clk = s.clk := by simp -implicitDefEqProofs [State.undegrade]
@[simp] theorem State.restoreItem_clk (a) (s : State) (i) : (s.restoreItem a i).clk = s.clk := by simp -implicitDefEqProofs [State.restoreItem, apply_ite State.clk]
@[simp] theorem State.grow_clk (s : State) (a) : (s.grow a).clk = s.clk := by simp -implicitDefEqProofs [State.grow]
@[simp] theorem State.canTakeMode_clk (s : State) (c m) : (s.canTakeMode c m).clk = s.clk := by simp -implicitDefEqProofs [State.canTakeMode, apply_ite State.clk]
@[simp] theorem State.islandStart_clk (s : State) (i) : (s.islandStart i).clk = s.clk := (rfl)
@[simp] theorem State.acctUp_clk (s : State) (a) : (s.acctUp a).clk = s.clk := by simp -implicitDefEqProofs [State.acctUp]
@[simp] theorem State.blockLeave_clk (s : State) (b) : (s.blockLeave b).clk = s.clk := by
  simp -implicitDefEqProofs only [State.blockLeave]
  split <;> simp -implicitDefEqProofs [apply_ite State.clk]
@[simp] theorem State.blockRelease_clk (s : State) (b) : (s.blockRelease b).clk = s.clk := by simp -implicitDefEqProofs [State.blockRelease, apply_ite State.clk]
@[simp] theorem State.applyReach_clk (s : State) (r) : (s.applyReach r).clk = s.clk := by simp -implicitDefEqProofs [State.applyReach, apply_ite State.clk]
@[simp] theorem State.save_rcd (s : State) (kind bad complete) : (s.save kind bad complete).rcd = s.rcd := by unfold State.save; split <;> rfl
@[simp] theorem State.doReset_frz (s : State) (b) : (s.doReset b).frz = s.frz := by simp -implicitDefEqProofs [State.doReset]
@[simp] theorem State.doReset_clk (s : State) (b) : (s.doReset b).clk = s.clk := by simp -implicitDefEqProofs [State.doReset]
@[simp] theorem State.foldl_rst_asserted {α : Type} {g : State → α → State} (hg : ∀ s a, (g s a).rst.asserted = s.rst.asserted) (l : List α) (s : State) :
    (l.foldl g s).rst.asserted = s.rst.asserted := State.foldl_keeps (fun s => s.rst.asserted) hg l s
@[simp] theorem State.foldl_fst_rst_asserted {α β : Type} {g : State × β → α → State × β} (hg : ∀ r a, (g r a).1.rst.asserted = r.1.rst.asserted) (l : List α)
    (r : State × β) : (l.foldl g r).1.rst.asserted = r.1.rst.asserted := List.foldl_keeps (fun r => r.1.rst.asserted) hg l r
@[simp] theorem State.foldl_snd_rst_asserted {α β : Type} {g : β × State → α → β × State} (hg : ∀ r a, (g r a).2.rst.asserted = r.2.rst.asserted) (l : List α)
    (r : β × State) : (l.foldl g r).2.rst.asserted = r.2.rst.asserted := List.foldl_keeps (fun r => r.2.rst.asserted) hg l r
@[simp] theorem State.save_rst_asserted (s : State) (kind bad complete) : (s.save kind bad complete).rst.asserted = s.rst.asserted := by unfold State.save; split <;> rfl
@[simp] theorem State.flushRecords_rst_asserted (s : State) : s.flushRecords.rst.asserted = s.rst.asserted := (rfl)
@[simp] theorem State.preSave_rst_asserted (s : State) : s.preSave.rst.asserted = s.rst.asserted := by unfold State.preSave; split <;> rfl
@[simp] theorem State.losePending_rst_asserted (s : State) : s.losePending.rst.asserted = s.rst.asserted := (rfl)
@[simp] theorem State.resetLaunches_rst_asserted (s : State) : s.resetLaunches.rst.asserted = s.rst.asserted := by simp -implicitDefEqProofs [State.resetLaunches, apply_ite State.rst, apply_ite ResetCtl.asserted]
@[simp] theorem State.spoilTrips_rst_asserted (s : State) : s.spoilTrips.rst.asserted = s.rst.asserted := (rfl)
@[simp] theorem State.energyStop_rst_asserted (s : State) (cause) : (s.energyStop cause).rst.asserted = s.rst.asserted := (rfl)
@[simp] theorem State.resetMetering_rst_asserted (s : State) (r) : (s.resetMetering r).rst.asserted = s.rst.asserted := by simp -implicitDefEqProofs [State.resetMetering, apply_ite State.rst, apply_ite ResetCtl.asserted]
@[simp] theorem State.disarmCompare_rst_asserted (s : State) (n k) : (s.disarmCompare n k).rst.asserted = s.rst.asserted := by simp -implicitDefEqProofs [State.disarmCompare, apply_ite State.rst, apply_ite ResetCtl.asserted]
@[simp] theorem State.posDisarm_rst_asserted (s : State) (n) : (s.posDisarm n).rst.asserted = s.rst.asserted := by simp -implicitDefEqProofs [State.posDisarm]
@[simp] theorem State.posClear_rst_asserted (s : State) (n) : (s.posClear n).rst.asserted = s.rst.asserted := (rfl)
@[simp] theorem State.posReset_rst_asserted (s : State) (n cause) : (s.posReset n cause).rst.asserted = s.rst.asserted := by simp -implicitDefEqProofs [State.posReset, apply_ite State.rst, apply_ite ResetCtl.asserted]
@[simp] theorem State.carsReset_rst_asserted (s : State) : s.carsReset.rst.asserted = s.rst.asserted := by simp -implicitDefEqProofs [State.carsReset, apply_ite State.rst, apply_ite ResetCtl.asserted]
@[simp] theorem State.resetLift_rst_asserted (s : State) (r) : (s.resetLift r).rst.asserted = s.rst.asserted := by simp -implicitDefEqProofs [State.resetLift]
@[simp] theorem State.resetObjs_rst_asserted (s : State) (r) : (s.resetObjs r).rst.asserted = s.rst.asserted := by simp -implicitDefEqProofs [State.resetObjs]
@[simp] theorem State.resetPower_rst_asserted (s : State) (r) : (s.resetPower r).rst.asserted = s.rst.asserted := (rfl)
@[simp] theorem State.resetSafety_rst_asserted (s : State) (r) : (s.resetSafety r).rst.asserted = s.rst.asserted := (rfl)
@[simp] theorem State.resetTwin_rst_asserted (s : State) : s.resetTwin.rst.asserted = s.rst.asserted := (rfl)
@[simp] theorem State.resetPoints_rst_asserted (s : State) : s.resetPoints.rst.asserted = s.rst.asserted := (rfl)
@[simp] theorem State.resetAccess_rst_asserted (s : State) (r) : (s.resetAccess r).rst.asserted = s.rst.asserted := (rfl)
@[simp] theorem State.resetField_rst_asserted (s : State) : s.resetField.rst.asserted = s.rst.asserted := (rfl)
@[simp] theorem State.resetTime_rst_asserted (s : State) (r) : (s.resetTime r).rst.asserted = s.rst.asserted := by unfold State.resetTime; split <;> rfl
@[simp] theorem State.setLoopMode_rst_asserted (s : State) (c j m) : (s.setLoopMode c j m).rst.asserted = s.rst.asserted := by simp -implicitDefEqProofs [State.setLoopMode, apply_ite State.rst, apply_ite ResetCtl.asserted]
@[simp] theorem State.closeLoop_rst_asserted (s : State) (c j) : (s.closeLoop c j).rst.asserted = s.rst.asserted := by simp -implicitDefEqProofs [State.closeLoop]
@[simp] theorem State.doorLoopsClose_rst_asserted (s : State) (k) : (s.doorLoopsClose k).rst.asserted = s.rst.asserted := by simp -implicitDefEqProofs [State.doorLoopsClose, apply_ite State.rst, apply_ite ResetCtl.asserted]
@[simp] theorem State.doorLoopsOpen_rst_asserted (s : State) (k) : (s.doorLoopsOpen k).rst.asserted = s.rst.asserted := by simp -implicitDefEqProofs [State.doorLoopsOpen, apply_ite State.rst, apply_ite ResetCtl.asserted]
@[simp] theorem State.doorEnter_rst_asserted (s : State) (k st) : (s.doorEnter k st).rst.asserted = s.rst.asserted := by simp -implicitDefEqProofs [State.doorEnter, apply_ite State.rst, apply_ite ResetCtl.asserted]
@[simp] theorem State.handshake_rst_asserted (s : State) (k) : (s.handshake k).rst.asserted = s.rst.asserted := by simp -implicitDefEqProofs [State.handshake]
@[simp] theorem State.mirror_rst_asserted (s : State) (b) : (s.mirror b).rst.asserted = s.rst.asserted := by unfold State.mirror; split <;> rfl
@[simp] theorem State.swapItem_rst_asserted (s : State) (i) : (s.swapItem i).rst.asserted = s.rst.asserted := by simp -implicitDefEqProofs [State.swapItem]
@[simp] theorem State.moveItem_rst_asserted (a) (s : State) (i) : (s.moveItem a i).rst.asserted = s.rst.asserted := by
  unfold State.moveItem
  split <;> simp -implicitDefEqProofs
@[simp] theorem State.ptStatusBit_rst_asserted (s : State) (p i b) : (s.ptStatusBit p i b).rst.asserted = s.rst.asserted := by unfold State.ptStatusBit; split <;> rfl
@[simp] theorem State.markDegraded_rst_asserted (s : State) (k) : (s.markDegraded k).rst.asserted = s.rst.asserted := by
  unfold State.markDegraded
  split <;> simp -implicitDefEqProofs
@[simp] theorem State.degrade_rst_asserted (s : State) (a i) : (s.degrade a i).rst.asserted = s.rst.asserted := by simp -implicitDefEqProofs [State.degrade]
@[simp] theorem State.degradePathless_rst_asserted (s : State) (a) : (s.degradePathless a).rst.asserted = s.rst.asserted := by
  unfold State.degradePathless
  split <;> simp -implicitDefEqProofs
@[simp] theorem State.degradeOn_rst_asserted (a a1) (s : State) : (s.degradeOn a a1).rst.asserted = s.rst.asserted := by
  fun_induction State.degradeOn a a1 s <;> simp_all
@[simp] theorem State.shrink_rst_asserted (s : State) (a) : (s.shrink a).rst.asserted = s.rst.asserted := by simp -implicitDefEqProofs [State.shrink]
@[simp] theorem State.dropItems_rst_asserted (s : State) (p) : (s.dropItems p).rst.asserted = s.rst.asserted := by simp -implicitDefEqProofs [State.dropItems]
@[simp] theorem State.moveBack_rst_asserted (a) (s : State) (i) : (s.moveBack a i).rst.asserted = s.rst.asserted := by
  unfold State.moveBack
  split <;> simp -implicitDefEqProofs
@[simp] theorem State.undegrade_rst_asserted (s : State) (a i) : (s.undegrade a i).rst.asserted = s.rst.asserted := by simp -implicitDefEqProofs [State.undegrade]
@[simp] theorem State.restoreItem_rst_asserted (a) (s : State) (i) : (s.restoreItem a i).rst.asserted = s.rst.asserted := by simp -implicitDefEqProofs [State.restoreItem, apply_ite State.rst, apply_ite ResetCtl.asserted]
@[simp] theorem State.grow_rst_asserted (s : State) (a) : (s.grow a).rst.asserted = s.rst.asserted := by simp -implicitDefEqProofs [State.grow]
@[simp] theorem State.canTakeMode_rst_asserted (s : State) (c m) : (s.canTakeMode c m).rst.asserted = s.rst.asserted := by simp -implicitDefEqProofs [State.canTakeMode, apply_ite State.rst, apply_ite ResetCtl.asserted]
@[simp] theorem State.islandStart_rst_asserted (s : State) (i) : (s.islandStart i).rst.asserted = s.rst.asserted := (rfl)
@[simp] theorem State.acctUp_rst_asserted (s : State) (a) : (s.acctUp a).rst.asserted = s.rst.asserted := by simp -implicitDefEqProofs [State.acctUp]
@[simp] theorem State.blockLeave_rst_asserted (s : State) (b) : (s.blockLeave b).rst.asserted = s.rst.asserted := by
  simp -implicitDefEqProofs only [State.blockLeave]
  split <;> simp -implicitDefEqProofs [apply_ite State.rst, apply_ite ResetCtl.asserted]
@[simp] theorem State.blockRelease_rst_asserted (s : State) (b) : (s.blockRelease b).rst.asserted = s.rst.asserted := by simp -implicitDefEqProofs [State.blockRelease, apply_ite State.rst, apply_ite ResetCtl.asserted]
@[simp] theorem State.applyReach_rst_asserted (s : State) (r) : (s.applyReach r).rst.asserted = s.rst.asserted := by
  simp -implicitDefEqProofs only [State.applyReach]
  simp -implicitDefEqProofs [apply_ite State.rst, apply_ite ResetCtl.asserted]
@[simp] theorem State.foldl_rst_resetN {α : Type} {g : State → α → State} (hg : ∀ s a, (g s a).rst.resetN = s.rst.resetN) (l : List α) (s : State) :
    (l.foldl g s).rst.resetN = s.rst.resetN := State.foldl_keeps (fun s => s.rst.resetN) hg l s
@[simp] theorem State.foldl_fst_rst_resetN {α β : Type} {g : State × β → α → State × β} (hg : ∀ r a, (g r a).1.rst.resetN = r.1.rst.resetN) (l : List α)
    (r : State × β) : (l.foldl g r).1.rst.resetN = r.1.rst.resetN := List.foldl_keeps (fun r => r.1.rst.resetN) hg l r
@[simp] theorem State.foldl_snd_rst_resetN {α β : Type} {g : β × State → α → β × State} (hg : ∀ r a, (g r a).2.rst.resetN = r.2.rst.resetN) (l : List α)
    (r : β × State) : (l.foldl g r).2.rst.resetN = r.2.rst.resetN := List.foldl_keeps (fun r => r.2.rst.resetN) hg l r
@[simp] theorem State.save_rst_resetN (s : State) (kind bad complete) : (s.save kind bad complete).rst.resetN = s.rst.resetN := by unfold State.save; split <;> rfl
@[simp] theorem State.flushRecords_rst_resetN (s : State) : s.flushRecords.rst.resetN = s.rst.resetN := (rfl)
@[simp] theorem State.preSave_rst_resetN (s : State) : s.preSave.rst.resetN = s.rst.resetN := by unfold State.preSave; split <;> rfl
@[simp] theorem State.losePending_rst_resetN (s : State) : s.losePending.rst.resetN = s.rst.resetN := (rfl)
@[simp] theorem State.resetLaunches_rst_resetN (s : State) : s.resetLaunches.rst.resetN = s.rst.resetN := by simp -implicitDefEqProofs [State.resetLaunches, apply_ite State.rst, apply_ite ResetCtl.resetN]
@[simp] theorem State.spoilTrips_rst_resetN (s : State) : s.spoilTrips.rst.resetN = s.rst.resetN := (rfl)
@[simp] theorem State.energyStop_rst_resetN (s : State) (cause) : (s.energyStop cause).rst.resetN = s.rst.resetN := (rfl)
@[simp] theorem State.resetMetering_rst_resetN (s : State) (r) : (s.resetMetering r).rst.resetN = s.rst.resetN := by simp -implicitDefEqProofs [State.resetMetering, apply_ite State.rst, apply_ite ResetCtl.resetN]
@[simp] theorem State.disarmCompare_rst_resetN (s : State) (n k) : (s.disarmCompare n k).rst.resetN = s.rst.resetN := by simp -implicitDefEqProofs [State.disarmCompare, apply_ite State.rst, apply_ite ResetCtl.resetN]
@[simp] theorem State.posDisarm_rst_resetN (s : State) (n) : (s.posDisarm n).rst.resetN = s.rst.resetN := by simp -implicitDefEqProofs [State.posDisarm]
@[simp] theorem State.posClear_rst_resetN (s : State) (n) : (s.posClear n).rst.resetN = s.rst.resetN := (rfl)
@[simp] theorem State.posReset_rst_resetN (s : State) (n cause) : (s.posReset n cause).rst.resetN = s.rst.resetN := by simp -implicitDefEqProofs [State.posReset, apply_ite State.rst, apply_ite ResetCtl.resetN]
@[simp] theorem State.carsReset_rst_resetN (s : State) : s.carsReset.rst.resetN = s.rst.resetN := by simp -implicitDefEqProofs [State.carsReset, apply_ite State.rst, apply_ite ResetCtl.resetN]
@[simp] theorem State.resetLift_rst_resetN (s : State) (r) : (s.resetLift r).rst.resetN = s.rst.resetN := by simp -implicitDefEqProofs [State.resetLift]
@[simp] theorem State.resetObjs_rst_resetN (s : State) (r) : (s.resetObjs r).rst.resetN = s.rst.resetN := by simp -implicitDefEqProofs [State.resetObjs]
@[simp] theorem State.resetPower_rst_resetN (s : State) (r) : (s.resetPower r).rst.resetN = s.rst.resetN := (rfl)
@[simp] theorem State.resetSafety_rst_resetN (s : State) (r) : (s.resetSafety r).rst.resetN = s.rst.resetN := (rfl)
@[simp] theorem State.resetTwin_rst_resetN (s : State) : s.resetTwin.rst.resetN = s.rst.resetN := (rfl)
@[simp] theorem State.resetPoints_rst_resetN (s : State) : s.resetPoints.rst.resetN = s.rst.resetN := (rfl)
@[simp] theorem State.resetAccess_rst_resetN (s : State) (r) : (s.resetAccess r).rst.resetN = s.rst.resetN := (rfl)
@[simp] theorem State.resetField_rst_resetN (s : State) : s.resetField.rst.resetN = s.rst.resetN := (rfl)
@[simp] theorem State.resetTime_rst_resetN (s : State) (r) : (s.resetTime r).rst.resetN = s.rst.resetN := by unfold State.resetTime; split <;> rfl
@[simp] theorem State.setLoopMode_rst_resetN (s : State) (c j m) : (s.setLoopMode c j m).rst.resetN = s.rst.resetN := by simp -implicitDefEqProofs [State.setLoopMode, apply_ite State.rst, apply_ite ResetCtl.resetN]
@[simp] theorem State.closeLoop_rst_resetN (s : State) (c j) : (s.closeLoop c j).rst.resetN = s.rst.resetN := by simp -implicitDefEqProofs [State.closeLoop]
@[simp] theorem State.doorLoopsClose_rst_resetN (s : State) (k) : (s.doorLoopsClose k).rst.resetN = s.rst.resetN := by simp -implicitDefEqProofs [State.doorLoopsClose, apply_ite State.rst, apply_ite ResetCtl.resetN]
@[simp] theorem State.doorLoopsOpen_rst_resetN (s : State) (k) : (s.doorLoopsOpen k).rst.resetN = s.rst.resetN := by simp -implicitDefEqProofs [State.doorLoopsOpen, apply_ite State.rst, apply_ite ResetCtl.resetN]
@[simp] theorem State.doorEnter_rst_resetN (s : State) (k st) : (s.doorEnter k st).rst.resetN = s.rst.resetN := by simp -implicitDefEqProofs [State.doorEnter, apply_ite State.rst, apply_ite ResetCtl.resetN]
@[simp] theorem State.handshake_rst_resetN (s : State) (k) : (s.handshake k).rst.resetN = s.rst.resetN := by simp -implicitDefEqProofs [State.handshake]
@[simp] theorem State.mirror_rst_resetN (s : State) (b) : (s.mirror b).rst.resetN = s.rst.resetN := by unfold State.mirror; split <;> rfl
@[simp] theorem State.swapItem_rst_resetN (s : State) (i) : (s.swapItem i).rst.resetN = s.rst.resetN := by simp -implicitDefEqProofs [State.swapItem]
@[simp] theorem State.moveItem_rst_resetN (a) (s : State) (i) : (s.moveItem a i).rst.resetN = s.rst.resetN := by
  unfold State.moveItem
  split <;> simp -implicitDefEqProofs
@[simp] theorem State.ptStatusBit_rst_resetN (s : State) (p i b) : (s.ptStatusBit p i b).rst.resetN = s.rst.resetN := by unfold State.ptStatusBit; split <;> rfl
@[simp] theorem State.markDegraded_rst_resetN (s : State) (k) : (s.markDegraded k).rst.resetN = s.rst.resetN := by
  unfold State.markDegraded
  split <;> simp -implicitDefEqProofs
@[simp] theorem State.degrade_rst_resetN (s : State) (a i) : (s.degrade a i).rst.resetN = s.rst.resetN := by simp -implicitDefEqProofs [State.degrade]
@[simp] theorem State.degradePathless_rst_resetN (s : State) (a) : (s.degradePathless a).rst.resetN = s.rst.resetN := by
  unfold State.degradePathless
  split <;> simp -implicitDefEqProofs
@[simp] theorem State.degradeOn_rst_resetN (a a1) (s : State) : (s.degradeOn a a1).rst.resetN = s.rst.resetN := by
  fun_induction State.degradeOn a a1 s <;> simp_all
@[simp] theorem State.shrink_rst_resetN (s : State) (a) : (s.shrink a).rst.resetN = s.rst.resetN := by simp -implicitDefEqProofs [State.shrink]
@[simp] theorem State.dropItems_rst_resetN (s : State) (p) : (s.dropItems p).rst.resetN = s.rst.resetN := by simp -implicitDefEqProofs [State.dropItems]
@[simp] theorem State.moveBack_rst_resetN (a) (s : State) (i) : (s.moveBack a i).rst.resetN = s.rst.resetN := by
  unfold State.moveBack
  split <;> simp -implicitDefEqProofs
@[simp] theorem State.undegrade_rst_resetN (s : State) (a i) : (s.undegrade a i).rst.resetN = s.rst.resetN := by simp -implicitDefEqProofs [State.undegrade]
@[simp] theorem State.restoreItem_rst_resetN (a) (s : State) (i) : (s.restoreItem a i).rst.resetN = s.rst.resetN := by simp -implicitDefEqProofs [State.restoreItem, apply_ite State.rst, apply_ite ResetCtl.resetN]
@[simp] theorem State.grow_rst_resetN (s : State) (a) : (s.grow a).rst.resetN = s.rst.resetN := by simp -implicitDefEqProofs [State.grow]
@[simp] theorem State.canTakeMode_rst_resetN (s : State) (c m) : (s.canTakeMode c m).rst.resetN = s.rst.resetN := by simp -implicitDefEqProofs [State.canTakeMode, apply_ite State.rst, apply_ite ResetCtl.resetN]
@[simp] theorem State.islandStart_rst_resetN (s : State) (i) : (s.islandStart i).rst.resetN = s.rst.resetN := (rfl)
@[simp] theorem State.acctUp_rst_resetN (s : State) (a) : (s.acctUp a).rst.resetN = s.rst.resetN := by simp -implicitDefEqProofs [State.acctUp]
@[simp] theorem State.blockLeave_rst_resetN (s : State) (b) : (s.blockLeave b).rst.resetN = s.rst.resetN := by
  simp -implicitDefEqProofs only [State.blockLeave]
  split <;> simp -implicitDefEqProofs [apply_ite State.rst, apply_ite ResetCtl.resetN]
@[simp] theorem State.blockRelease_rst_resetN (s : State) (b) : (s.blockRelease b).rst.resetN = s.rst.resetN := by simp -implicitDefEqProofs [State.blockRelease, apply_ite State.rst, apply_ite ResetCtl.resetN]
@[simp] theorem State.applyReach_rst_resetN (s : State) (r) : (s.applyReach r).rst.resetN = s.rst.resetN := by
  simp -implicitDefEqProofs only [State.applyReach]
  simp -implicitDefEqProofs [apply_ite State.rst, apply_ite ResetCtl.resetN]
@[simp] theorem State.foldl_rst_seen {α : Type} {g : State → α → State} (hg : ∀ s a, (g s a).rst.seen = s.rst.seen) (l : List α) (s : State) :
    (l.foldl g s).rst.seen = s.rst.seen := State.foldl_keeps (fun s => s.rst.seen) hg l s
@[simp] theorem State.foldl_fst_rst_seen {α β : Type} {g : State × β → α → State × β} (hg : ∀ r a, (g r a).1.rst.seen = r.1.rst.seen) (l : List α)
    (r : State × β) : (l.foldl g r).1.rst.seen = r.1.rst.seen := List.foldl_keeps (fun r => r.1.rst.seen) hg l r
@[simp] theorem State.foldl_snd_rst_seen {α β : Type} {g : β × State → α → β × State} (hg : ∀ r a, (g r a).2.rst.seen = r.2.rst.seen) (l : List α)
    (r : β × State) : (l.foldl g r).2.rst.seen = r.2.rst.seen := List.foldl_keeps (fun r => r.2.rst.seen) hg l r
@[simp] theorem State.save_rst_seen (s : State) (kind bad complete) : (s.save kind bad complete).rst.seen = s.rst.seen := by unfold State.save; split <;> rfl
@[simp] theorem State.flushRecords_rst_seen (s : State) : s.flushRecords.rst.seen = s.rst.seen := (rfl)
@[simp] theorem State.preSave_rst_seen (s : State) : s.preSave.rst.seen = s.rst.seen := by unfold State.preSave; split <;> rfl
@[simp] theorem State.losePending_rst_seen (s : State) : s.losePending.rst.seen = s.rst.seen := (rfl)
@[simp] theorem State.resetLaunches_rst_seen (s : State) : s.resetLaunches.rst.seen = s.rst.seen := by simp -implicitDefEqProofs [State.resetLaunches, apply_ite State.rst, apply_ite ResetCtl.seen]
@[simp] theorem State.spoilTrips_rst_seen (s : State) : s.spoilTrips.rst.seen = s.rst.seen := (rfl)
@[simp] theorem State.energyStop_rst_seen (s : State) (cause) : (s.energyStop cause).rst.seen = s.rst.seen := (rfl)
@[simp] theorem State.resetMetering_rst_seen (s : State) (r) : (s.resetMetering r).rst.seen = s.rst.seen := by simp -implicitDefEqProofs [State.resetMetering, apply_ite State.rst, apply_ite ResetCtl.seen]
@[simp] theorem State.disarmCompare_rst_seen (s : State) (n k) : (s.disarmCompare n k).rst.seen = s.rst.seen := by simp -implicitDefEqProofs [State.disarmCompare, apply_ite State.rst, apply_ite ResetCtl.seen]
@[simp] theorem State.posDisarm_rst_seen (s : State) (n) : (s.posDisarm n).rst.seen = s.rst.seen := by simp -implicitDefEqProofs [State.posDisarm]
@[simp] theorem State.posClear_rst_seen (s : State) (n) : (s.posClear n).rst.seen = s.rst.seen := (rfl)
@[simp] theorem State.posReset_rst_seen (s : State) (n cause) : (s.posReset n cause).rst.seen = s.rst.seen := by simp -implicitDefEqProofs [State.posReset, apply_ite State.rst, apply_ite ResetCtl.seen]
@[simp] theorem State.carsReset_rst_seen (s : State) : s.carsReset.rst.seen = s.rst.seen := by simp -implicitDefEqProofs [State.carsReset, apply_ite State.rst, apply_ite ResetCtl.seen]
@[simp] theorem State.resetLift_rst_seen (s : State) (r) : (s.resetLift r).rst.seen = s.rst.seen := by simp -implicitDefEqProofs [State.resetLift]
@[simp] theorem State.resetObjs_rst_seen (s : State) (r) : (s.resetObjs r).rst.seen = s.rst.seen := by simp -implicitDefEqProofs [State.resetObjs]
@[simp] theorem State.resetPower_rst_seen (s : State) (r) : (s.resetPower r).rst.seen = s.rst.seen := (rfl)
@[simp] theorem State.resetSafety_rst_seen (s : State) (r) : (s.resetSafety r).rst.seen = s.rst.seen := (rfl)
@[simp] theorem State.resetTwin_rst_seen (s : State) : s.resetTwin.rst.seen = s.rst.seen := (rfl)
@[simp] theorem State.resetPoints_rst_seen (s : State) : s.resetPoints.rst.seen = s.rst.seen := (rfl)
@[simp] theorem State.resetAccess_rst_seen (s : State) (r) : (s.resetAccess r).rst.seen = s.rst.seen := (rfl)
@[simp] theorem State.resetField_rst_seen (s : State) : s.resetField.rst.seen = s.rst.seen := (rfl)
@[simp] theorem State.resetTime_rst_seen (s : State) (r) : (s.resetTime r).rst.seen = s.rst.seen := by unfold State.resetTime; split <;> rfl
@[simp] theorem State.setLoopMode_rst_seen (s : State) (c j m) : (s.setLoopMode c j m).rst.seen = s.rst.seen := by simp -implicitDefEqProofs [State.setLoopMode, apply_ite State.rst, apply_ite ResetCtl.seen]
@[simp] theorem State.closeLoop_rst_seen (s : State) (c j) : (s.closeLoop c j).rst.seen = s.rst.seen := by simp -implicitDefEqProofs [State.closeLoop]
@[simp] theorem State.doorLoopsClose_rst_seen (s : State) (k) : (s.doorLoopsClose k).rst.seen = s.rst.seen := by simp -implicitDefEqProofs [State.doorLoopsClose, apply_ite State.rst, apply_ite ResetCtl.seen]
@[simp] theorem State.doorLoopsOpen_rst_seen (s : State) (k) : (s.doorLoopsOpen k).rst.seen = s.rst.seen := by simp -implicitDefEqProofs [State.doorLoopsOpen, apply_ite State.rst, apply_ite ResetCtl.seen]
@[simp] theorem State.doorEnter_rst_seen (s : State) (k st) : (s.doorEnter k st).rst.seen = s.rst.seen := by simp -implicitDefEqProofs [State.doorEnter, apply_ite State.rst, apply_ite ResetCtl.seen]
@[simp] theorem State.handshake_rst_seen (s : State) (k) : (s.handshake k).rst.seen = s.rst.seen := by simp -implicitDefEqProofs [State.handshake]
@[simp] theorem State.mirror_rst_seen (s : State) (b) : (s.mirror b).rst.seen = s.rst.seen := by unfold State.mirror; split <;> rfl
@[simp] theorem State.swapItem_rst_seen (s : State) (i) : (s.swapItem i).rst.seen = s.rst.seen := by simp -implicitDefEqProofs [State.swapItem]
@[simp] theorem State.moveItem_rst_seen (a) (s : State) (i) : (s.moveItem a i).rst.seen = s.rst.seen := by
  unfold State.moveItem
  split <;> simp -implicitDefEqProofs
@[simp] theorem State.ptStatusBit_rst_seen (s : State) (p i b) : (s.ptStatusBit p i b).rst.seen = s.rst.seen := by unfold State.ptStatusBit; split <;> rfl
@[simp] theorem State.markDegraded_rst_seen (s : State) (k) : (s.markDegraded k).rst.seen = s.rst.seen := by
  unfold State.markDegraded
  split <;> simp -implicitDefEqProofs
@[simp] theorem State.degrade_rst_seen (s : State) (a i) : (s.degrade a i).rst.seen = s.rst.seen := by simp -implicitDefEqProofs [State.degrade]
@[simp] theorem State.degradePathless_rst_seen (s : State) (a) : (s.degradePathless a).rst.seen = s.rst.seen := by
  unfold State.degradePathless
  split <;> simp -implicitDefEqProofs
@[simp] theorem State.degradeOn_rst_seen (a a1) (s : State) : (s.degradeOn a a1).rst.seen = s.rst.seen := by
  fun_induction State.degradeOn a a1 s <;> simp_all
@[simp] theorem State.shrink_rst_seen (s : State) (a) : (s.shrink a).rst.seen = s.rst.seen := by simp -implicitDefEqProofs [State.shrink]
@[simp] theorem State.dropItems_rst_seen (s : State) (p) : (s.dropItems p).rst.seen = s.rst.seen := by simp -implicitDefEqProofs [State.dropItems]
@[simp] theorem State.moveBack_rst_seen (a) (s : State) (i) : (s.moveBack a i).rst.seen = s.rst.seen := by
  unfold State.moveBack
  split <;> simp -implicitDefEqProofs
@[simp] theorem State.undegrade_rst_seen (s : State) (a i) : (s.undegrade a i).rst.seen = s.rst.seen := by simp -implicitDefEqProofs [State.undegrade]
@[simp] theorem State.restoreItem_rst_seen (a) (s : State) (i) : (s.restoreItem a i).rst.seen = s.rst.seen := by simp -implicitDefEqProofs [State.restoreItem, apply_ite State.rst, apply_ite ResetCtl.seen]
@[simp] theorem State.grow_rst_seen (s : State) (a) : (s.grow a).rst.seen = s.rst.seen := by simp -implicitDefEqProofs [State.grow]
@[simp] theorem State.canTakeMode_rst_seen (s : State) (c m) : (s.canTakeMode c m).rst.seen = s.rst.seen := by simp -implicitDefEqProofs [State.canTakeMode, apply_ite State.rst, apply_ite ResetCtl.seen]
@[simp] theorem State.islandStart_rst_seen (s : State) (i) : (s.islandStart i).rst.seen = s.rst.seen := (rfl)
@[simp] theorem State.acctUp_rst_seen (s : State) (a) : (s.acctUp a).rst.seen = s.rst.seen := by simp -implicitDefEqProofs [State.acctUp]
@[simp] theorem State.blockLeave_rst_seen (s : State) (b) : (s.blockLeave b).rst.seen = s.rst.seen := by
  simp -implicitDefEqProofs only [State.blockLeave]
  split <;> simp -implicitDefEqProofs [apply_ite State.rst, apply_ite ResetCtl.seen]
@[simp] theorem State.blockRelease_rst_seen (s : State) (b) : (s.blockRelease b).rst.seen = s.rst.seen := by simp -implicitDefEqProofs [State.blockRelease, apply_ite State.rst, apply_ite ResetCtl.seen]
@[simp] theorem State.applyReach_rst_seen (s : State) (r) : (s.applyReach r).rst.seen = s.rst.seen := by
  simp -implicitDefEqProofs only [State.applyReach]
  simp -implicitDefEqProofs [apply_ite State.rst, apply_ite ResetCtl.seen]
@[simp] theorem State.foldl_rst_reach {α : Type} {g : State → α → State} (hg : ∀ s a, (g s a).rst.reach = s.rst.reach) (l : List α) (s : State) :
    (l.foldl g s).rst.reach = s.rst.reach := State.foldl_keeps (fun s => s.rst.reach) hg l s
@[simp] theorem State.foldl_fst_rst_reach {α β : Type} {g : State × β → α → State × β} (hg : ∀ r a, (g r a).1.rst.reach = r.1.rst.reach) (l : List α)
    (r : State × β) : (l.foldl g r).1.rst.reach = r.1.rst.reach := List.foldl_keeps (fun r => r.1.rst.reach) hg l r
@[simp] theorem State.foldl_snd_rst_reach {α β : Type} {g : β × State → α → β × State} (hg : ∀ r a, (g r a).2.rst.reach = r.2.rst.reach) (l : List α)
    (r : β × State) : (l.foldl g r).2.rst.reach = r.2.rst.reach := List.foldl_keeps (fun r => r.2.rst.reach) hg l r
@[simp] theorem State.save_rst_reach (s : State) (kind bad complete) : (s.save kind bad complete).rst.reach = s.rst.reach := by unfold State.save; split <;> rfl
@[simp] theorem State.flushRecords_rst_reach (s : State) : s.flushRecords.rst.reach = s.rst.reach := (rfl)
@[simp] theorem State.preSave_rst_reach (s : State) : s.preSave.rst.reach = s.rst.reach := by unfold State.preSave; split <;> rfl
@[simp] theorem State.losePending_rst_reach (s : State) : s.losePending.rst.reach = s.rst.reach := (rfl)
@[simp] theorem State.resetLaunches_rst_reach (s : State) : s.resetLaunches.rst.reach = s.rst.reach := by simp -implicitDefEqProofs [State.resetLaunches, apply_ite State.rst, apply_ite ResetCtl.reach]
@[simp] theorem State.spoilTrips_rst_reach (s : State) : s.spoilTrips.rst.reach = s.rst.reach := (rfl)
@[simp] theorem State.energyStop_rst_reach (s : State) (cause) : (s.energyStop cause).rst.reach = s.rst.reach := (rfl)
@[simp] theorem State.resetMetering_rst_reach (s : State) (r) : (s.resetMetering r).rst.reach = s.rst.reach := by simp -implicitDefEqProofs [State.resetMetering, apply_ite State.rst, apply_ite ResetCtl.reach]
@[simp] theorem State.disarmCompare_rst_reach (s : State) (n k) : (s.disarmCompare n k).rst.reach = s.rst.reach := by simp -implicitDefEqProofs [State.disarmCompare, apply_ite State.rst, apply_ite ResetCtl.reach]
@[simp] theorem State.posDisarm_rst_reach (s : State) (n) : (s.posDisarm n).rst.reach = s.rst.reach := by simp -implicitDefEqProofs [State.posDisarm]
@[simp] theorem State.posClear_rst_reach (s : State) (n) : (s.posClear n).rst.reach = s.rst.reach := (rfl)
@[simp] theorem State.posReset_rst_reach (s : State) (n cause) : (s.posReset n cause).rst.reach = s.rst.reach := by simp -implicitDefEqProofs [State.posReset, apply_ite State.rst, apply_ite ResetCtl.reach]
@[simp] theorem State.carsReset_rst_reach (s : State) : s.carsReset.rst.reach = s.rst.reach := by simp -implicitDefEqProofs [State.carsReset, apply_ite State.rst, apply_ite ResetCtl.reach]
@[simp] theorem State.resetLift_rst_reach (s : State) (r) : (s.resetLift r).rst.reach = s.rst.reach := by simp -implicitDefEqProofs [State.resetLift]
@[simp] theorem State.resetObjs_rst_reach (s : State) (r) : (s.resetObjs r).rst.reach = s.rst.reach := by simp -implicitDefEqProofs [State.resetObjs]
@[simp] theorem State.resetPower_rst_reach (s : State) (r) : (s.resetPower r).rst.reach = s.rst.reach := (rfl)
@[simp] theorem State.resetSafety_rst_reach (s : State) (r) : (s.resetSafety r).rst.reach = s.rst.reach := (rfl)
@[simp] theorem State.resetTwin_rst_reach (s : State) : s.resetTwin.rst.reach = s.rst.reach := (rfl)
@[simp] theorem State.resetPoints_rst_reach (s : State) : s.resetPoints.rst.reach = s.rst.reach := (rfl)
@[simp] theorem State.resetAccess_rst_reach (s : State) (r) : (s.resetAccess r).rst.reach = s.rst.reach := (rfl)
@[simp] theorem State.resetField_rst_reach (s : State) : s.resetField.rst.reach = s.rst.reach := (rfl)
@[simp] theorem State.resetTime_rst_reach (s : State) (r) : (s.resetTime r).rst.reach = s.rst.reach := by unfold State.resetTime; split <;> rfl
@[simp] theorem State.setLoopMode_rst_reach (s : State) (c j m) : (s.setLoopMode c j m).rst.reach = s.rst.reach := by simp -implicitDefEqProofs [State.setLoopMode, apply_ite State.rst, apply_ite ResetCtl.reach]
@[simp] theorem State.closeLoop_rst_reach (s : State) (c j) : (s.closeLoop c j).rst.reach = s.rst.reach := by simp -implicitDefEqProofs [State.closeLoop]
@[simp] theorem State.doorLoopsClose_rst_reach (s : State) (k) : (s.doorLoopsClose k).rst.reach = s.rst.reach := by simp -implicitDefEqProofs [State.doorLoopsClose, apply_ite State.rst, apply_ite ResetCtl.reach]
@[simp] theorem State.doorLoopsOpen_rst_reach (s : State) (k) : (s.doorLoopsOpen k).rst.reach = s.rst.reach := by simp -implicitDefEqProofs [State.doorLoopsOpen, apply_ite State.rst, apply_ite ResetCtl.reach]
@[simp] theorem State.doorEnter_rst_reach (s : State) (k st) : (s.doorEnter k st).rst.reach = s.rst.reach := by simp -implicitDefEqProofs [State.doorEnter, apply_ite State.rst, apply_ite ResetCtl.reach]
@[simp] theorem State.handshake_rst_reach (s : State) (k) : (s.handshake k).rst.reach = s.rst.reach := by simp -implicitDefEqProofs [State.handshake]
@[simp] theorem State.mirror_rst_reach (s : State) (b) : (s.mirror b).rst.reach = s.rst.reach := by unfold State.mirror; split <;> rfl
@[simp] theorem State.swapItem_rst_reach (s : State) (i) : (s.swapItem i).rst.reach = s.rst.reach := by simp -implicitDefEqProofs [State.swapItem]
@[simp] theorem State.moveItem_rst_reach (a) (s : State) (i) : (s.moveItem a i).rst.reach = s.rst.reach := by
  unfold State.moveItem
  split <;> simp -implicitDefEqProofs
@[simp] theorem State.ptStatusBit_rst_reach (s : State) (p i b) : (s.ptStatusBit p i b).rst.reach = s.rst.reach := by unfold State.ptStatusBit; split <;> rfl
@[simp] theorem State.markDegraded_rst_reach (s : State) (k) : (s.markDegraded k).rst.reach = s.rst.reach := by
  unfold State.markDegraded
  split <;> simp -implicitDefEqProofs
@[simp] theorem State.degrade_rst_reach (s : State) (a i) : (s.degrade a i).rst.reach = s.rst.reach := by simp -implicitDefEqProofs [State.degrade]
@[simp] theorem State.degradePathless_rst_reach (s : State) (a) : (s.degradePathless a).rst.reach = s.rst.reach := by
  unfold State.degradePathless
  split <;> simp -implicitDefEqProofs
@[simp] theorem State.degradeOn_rst_reach (a a1) (s : State) : (s.degradeOn a a1).rst.reach = s.rst.reach := by
  fun_induction State.degradeOn a a1 s <;> simp_all
@[simp] theorem State.shrink_rst_reach (s : State) (a) : (s.shrink a).rst.reach = s.rst.reach := by simp -implicitDefEqProofs [State.shrink]
@[simp] theorem State.dropItems_rst_reach (s : State) (p) : (s.dropItems p).rst.reach = s.rst.reach := by simp -implicitDefEqProofs [State.dropItems]
@[simp] theorem State.moveBack_rst_reach (a) (s : State) (i) : (s.moveBack a i).rst.reach = s.rst.reach := by
  unfold State.moveBack
  split <;> simp -implicitDefEqProofs
@[simp] theorem State.undegrade_rst_reach (s : State) (a i) : (s.undegrade a i).rst.reach = s.rst.reach := by simp -implicitDefEqProofs [State.undegrade]
@[simp] theorem State.restoreItem_rst_reach (a) (s : State) (i) : (s.restoreItem a i).rst.reach = s.rst.reach := by simp -implicitDefEqProofs [State.restoreItem, apply_ite State.rst, apply_ite ResetCtl.reach]
@[simp] theorem State.grow_rst_reach (s : State) (a) : (s.grow a).rst.reach = s.rst.reach := by simp -implicitDefEqProofs [State.grow]
@[simp] theorem State.canTakeMode_rst_reach (s : State) (c m) : (s.canTakeMode c m).rst.reach = s.rst.reach := by simp -implicitDefEqProofs [State.canTakeMode, apply_ite State.rst, apply_ite ResetCtl.reach]
@[simp] theorem State.islandStart_rst_reach (s : State) (i) : (s.islandStart i).rst.reach = s.rst.reach := (rfl)
@[simp] theorem State.acctUp_rst_reach (s : State) (a) : (s.acctUp a).rst.reach = s.rst.reach := by simp -implicitDefEqProofs [State.acctUp]
@[simp] theorem State.blockLeave_rst_reach (s : State) (b) : (s.blockLeave b).rst.reach = s.rst.reach := by
  simp -implicitDefEqProofs only [State.blockLeave]
  split <;> simp -implicitDefEqProofs [apply_ite State.rst, apply_ite ResetCtl.reach]
@[simp] theorem State.blockRelease_rst_reach (s : State) (b) : (s.blockRelease b).rst.reach = s.rst.reach := by simp -implicitDefEqProofs [State.blockRelease, apply_ite State.rst, apply_ite ResetCtl.reach]
@[simp] theorem State.applyReach_rst_reach (s : State) (r) : (s.applyReach r).rst.reach = s.rst.reach := by
  simp -implicitDefEqProofs only [State.applyReach]
  simp -implicitDefEqProofs [apply_ite State.rst, apply_ite ResetCtl.reach]
@[simp] theorem State.foldl_rst_complete {α : Type} {g : State → α → State} (hg : ∀ s a, (g s a).rst.complete = s.rst.complete) (l : List α) (s : State) :
    (l.foldl g s).rst.complete = s.rst.complete := State.foldl_keeps (fun s => s.rst.complete) hg l s
@[simp] theorem State.foldl_fst_rst_complete {α β : Type} {g : State × β → α → State × β} (hg : ∀ r a, (g r a).1.rst.complete = r.1.rst.complete) (l : List α)
    (r : State × β) : (l.foldl g r).1.rst.complete = r.1.rst.complete := List.foldl_keeps (fun r => r.1.rst.complete) hg l r
@[simp] theorem State.foldl_snd_rst_complete {α β : Type} {g : β × State → α → β × State} (hg : ∀ r a, (g r a).2.rst.complete = r.2.rst.complete) (l : List α)
    (r : β × State) : (l.foldl g r).2.rst.complete = r.2.rst.complete := List.foldl_keeps (fun r => r.2.rst.complete) hg l r
@[simp] theorem State.save_rst_complete (s : State) (kind bad complete) : (s.save kind bad complete).rst.complete = s.rst.complete := by unfold State.save; split <;> rfl
@[simp] theorem State.flushRecords_rst_complete (s : State) : s.flushRecords.rst.complete = s.rst.complete := (rfl)
@[simp] theorem State.preSave_rst_complete (s : State) : s.preSave.rst.complete = s.rst.complete := by unfold State.preSave; split <;> rfl
@[simp] theorem State.losePending_rst_complete (s : State) : s.losePending.rst.complete = s.rst.complete := (rfl)
@[simp] theorem State.resetLaunches_rst_complete (s : State) : s.resetLaunches.rst.complete = s.rst.complete := by simp -implicitDefEqProofs [State.resetLaunches, apply_ite State.rst, apply_ite ResetCtl.complete]
@[simp] theorem State.spoilTrips_rst_complete (s : State) : s.spoilTrips.rst.complete = s.rst.complete := (rfl)
@[simp] theorem State.energyStop_rst_complete (s : State) (cause) : (s.energyStop cause).rst.complete = s.rst.complete := (rfl)
@[simp] theorem State.resetMetering_rst_complete (s : State) (r) : (s.resetMetering r).rst.complete = s.rst.complete := by simp -implicitDefEqProofs [State.resetMetering, apply_ite State.rst, apply_ite ResetCtl.complete]
@[simp] theorem State.disarmCompare_rst_complete (s : State) (n k) : (s.disarmCompare n k).rst.complete = s.rst.complete := by simp -implicitDefEqProofs [State.disarmCompare, apply_ite State.rst, apply_ite ResetCtl.complete]
@[simp] theorem State.posDisarm_rst_complete (s : State) (n) : (s.posDisarm n).rst.complete = s.rst.complete := by simp -implicitDefEqProofs [State.posDisarm]
@[simp] theorem State.posClear_rst_complete (s : State) (n) : (s.posClear n).rst.complete = s.rst.complete := (rfl)
@[simp] theorem State.posReset_rst_complete (s : State) (n cause) : (s.posReset n cause).rst.complete = s.rst.complete := by simp -implicitDefEqProofs [State.posReset, apply_ite State.rst, apply_ite ResetCtl.complete]
@[simp] theorem State.carsReset_rst_complete (s : State) : s.carsReset.rst.complete = s.rst.complete := by simp -implicitDefEqProofs [State.carsReset, apply_ite State.rst, apply_ite ResetCtl.complete]
@[simp] theorem State.resetLift_rst_complete (s : State) (r) : (s.resetLift r).rst.complete = s.rst.complete := by simp -implicitDefEqProofs [State.resetLift]
@[simp] theorem State.resetObjs_rst_complete (s : State) (r) : (s.resetObjs r).rst.complete = s.rst.complete := by simp -implicitDefEqProofs [State.resetObjs]
@[simp] theorem State.resetPower_rst_complete (s : State) (r) : (s.resetPower r).rst.complete = s.rst.complete := (rfl)
@[simp] theorem State.resetSafety_rst_complete (s : State) (r) : (s.resetSafety r).rst.complete = s.rst.complete := (rfl)
@[simp] theorem State.resetTwin_rst_complete (s : State) : s.resetTwin.rst.complete = s.rst.complete := (rfl)
@[simp] theorem State.resetPoints_rst_complete (s : State) : s.resetPoints.rst.complete = s.rst.complete := (rfl)
@[simp] theorem State.resetAccess_rst_complete (s : State) (r) : (s.resetAccess r).rst.complete = s.rst.complete := (rfl)
@[simp] theorem State.resetField_rst_complete (s : State) : s.resetField.rst.complete = s.rst.complete := (rfl)
@[simp] theorem State.resetTime_rst_complete (s : State) (r) : (s.resetTime r).rst.complete = s.rst.complete := by unfold State.resetTime; split <;> rfl
@[simp] theorem State.setLoopMode_rst_complete (s : State) (c j m) : (s.setLoopMode c j m).rst.complete = s.rst.complete := by simp -implicitDefEqProofs [State.setLoopMode, apply_ite State.rst, apply_ite ResetCtl.complete]
@[simp] theorem State.closeLoop_rst_complete (s : State) (c j) : (s.closeLoop c j).rst.complete = s.rst.complete := by simp -implicitDefEqProofs [State.closeLoop]
@[simp] theorem State.doorLoopsClose_rst_complete (s : State) (k) : (s.doorLoopsClose k).rst.complete = s.rst.complete := by simp -implicitDefEqProofs [State.doorLoopsClose, apply_ite State.rst, apply_ite ResetCtl.complete]
@[simp] theorem State.doorLoopsOpen_rst_complete (s : State) (k) : (s.doorLoopsOpen k).rst.complete = s.rst.complete := by simp -implicitDefEqProofs [State.doorLoopsOpen, apply_ite State.rst, apply_ite ResetCtl.complete]
@[simp] theorem State.doorEnter_rst_complete (s : State) (k st) : (s.doorEnter k st).rst.complete = s.rst.complete := by simp -implicitDefEqProofs [State.doorEnter, apply_ite State.rst, apply_ite ResetCtl.complete]
@[simp] theorem State.handshake_rst_complete (s : State) (k) : (s.handshake k).rst.complete = s.rst.complete := by simp -implicitDefEqProofs [State.handshake]
@[simp] theorem State.mirror_rst_complete (s : State) (b) : (s.mirror b).rst.complete = s.rst.complete := by unfold State.mirror; split <;> rfl
@[simp] theorem State.swapItem_rst_complete (s : State) (i) : (s.swapItem i).rst.complete = s.rst.complete := by simp -implicitDefEqProofs [State.swapItem]
@[simp] theorem State.moveItem_rst_complete (a) (s : State) (i) : (s.moveItem a i).rst.complete = s.rst.complete := by
  unfold State.moveItem
  split <;> simp -implicitDefEqProofs
@[simp] theorem State.ptStatusBit_rst_complete (s : State) (p i b) : (s.ptStatusBit p i b).rst.complete = s.rst.complete := by unfold State.ptStatusBit; split <;> rfl
@[simp] theorem State.markDegraded_rst_complete (s : State) (k) : (s.markDegraded k).rst.complete = s.rst.complete := by
  unfold State.markDegraded
  split <;> simp -implicitDefEqProofs
@[simp] theorem State.degrade_rst_complete (s : State) (a i) : (s.degrade a i).rst.complete = s.rst.complete := by simp -implicitDefEqProofs [State.degrade]
@[simp] theorem State.degradePathless_rst_complete (s : State) (a) : (s.degradePathless a).rst.complete = s.rst.complete := by
  unfold State.degradePathless
  split <;> simp -implicitDefEqProofs
@[simp] theorem State.degradeOn_rst_complete (a a1) (s : State) : (s.degradeOn a a1).rst.complete = s.rst.complete := by
  fun_induction State.degradeOn a a1 s <;> simp_all
@[simp] theorem State.shrink_rst_complete (s : State) (a) : (s.shrink a).rst.complete = s.rst.complete := by simp -implicitDefEqProofs [State.shrink]
@[simp] theorem State.dropItems_rst_complete (s : State) (p) : (s.dropItems p).rst.complete = s.rst.complete := by simp -implicitDefEqProofs [State.dropItems]
@[simp] theorem State.moveBack_rst_complete (a) (s : State) (i) : (s.moveBack a i).rst.complete = s.rst.complete := by
  unfold State.moveBack
  split <;> simp -implicitDefEqProofs
@[simp] theorem State.undegrade_rst_complete (s : State) (a i) : (s.undegrade a i).rst.complete = s.rst.complete := by simp -implicitDefEqProofs [State.undegrade]
@[simp] theorem State.restoreItem_rst_complete (a) (s : State) (i) : (s.restoreItem a i).rst.complete = s.rst.complete := by simp -implicitDefEqProofs [State.restoreItem, apply_ite State.rst, apply_ite ResetCtl.complete]
@[simp] theorem State.grow_rst_complete (s : State) (a) : (s.grow a).rst.complete = s.rst.complete := by simp -implicitDefEqProofs [State.grow]
@[simp] theorem State.canTakeMode_rst_complete (s : State) (c m) : (s.canTakeMode c m).rst.complete = s.rst.complete := by simp -implicitDefEqProofs [State.canTakeMode, apply_ite State.rst, apply_ite ResetCtl.complete]
@[simp] theorem State.islandStart_rst_complete (s : State) (i) : (s.islandStart i).rst.complete = s.rst.complete := (rfl)
@[simp] theorem State.acctUp_rst_complete (s : State) (a) : (s.acctUp a).rst.complete = s.rst.complete := by simp -implicitDefEqProofs [State.acctUp]
@[simp] theorem State.blockLeave_rst_complete (s : State) (b) : (s.blockLeave b).rst.complete = s.rst.complete := by
  simp -implicitDefEqProofs only [State.blockLeave]
  split <;> simp -implicitDefEqProofs [apply_ite State.rst, apply_ite ResetCtl.complete]
@[simp] theorem State.blockRelease_rst_complete (s : State) (b) : (s.blockRelease b).rst.complete = s.rst.complete := by simp -implicitDefEqProofs [State.blockRelease, apply_ite State.rst, apply_ite ResetCtl.complete]
@[simp] theorem State.applyReach_rst_complete (s : State) (r) : (s.applyReach r).rst.complete = s.rst.complete := by
  simp -implicitDefEqProofs only [State.applyReach]
  simp -implicitDefEqProofs [apply_ite State.rst, apply_ite ResetCtl.complete]
@[simp] theorem State.foldl_pow_autumn {α : Type} {g : State → α → State} (hg : ∀ s a, (g s a).pow.autumn = s.pow.autumn) (l : List α) (s : State) :
    (l.foldl g s).pow.autumn = s.pow.autumn := State.foldl_keeps (fun s => s.pow.autumn) hg l s
@[simp] theorem State.foldl_fst_pow_autumn {α β : Type} {g : State × β → α → State × β} (hg : ∀ r a, (g r a).1.pow.autumn = r.1.pow.autumn) (l : List α)
    (r : State × β) : (l.foldl g r).1.pow.autumn = r.1.pow.autumn := List.foldl_keeps (fun r => r.1.pow.autumn) hg l r
@[simp] theorem State.foldl_snd_pow_autumn {α β : Type} {g : β × State → α → β × State} (hg : ∀ r a, (g r a).2.pow.autumn = r.2.pow.autumn) (l : List α)
    (r : β × State) : (l.foldl g r).2.pow.autumn = r.2.pow.autumn := List.foldl_keeps (fun r => r.2.pow.autumn) hg l r
@[simp] theorem State.save_pow_autumn (s : State) (kind bad complete) : (s.save kind bad complete).pow.autumn = s.pow.autumn := by unfold State.save; split <;> rfl
@[simp] theorem State.flushRecords_pow_autumn (s : State) : s.flushRecords.pow.autumn = s.pow.autumn := (rfl)
@[simp] theorem State.preSave_pow_autumn (s : State) : s.preSave.pow.autumn = s.pow.autumn := by unfold State.preSave; split <;> rfl
@[simp] theorem State.losePending_pow_autumn (s : State) : s.losePending.pow.autumn = s.pow.autumn := (rfl)
@[simp] theorem State.resetLaunches_pow_autumn (s : State) : s.resetLaunches.pow.autumn = s.pow.autumn := by simp -implicitDefEqProofs [State.resetLaunches, apply_ite State.pow, apply_ite Power.autumn]
@[simp] theorem State.spoilTrips_pow_autumn (s : State) : s.spoilTrips.pow.autumn = s.pow.autumn := (rfl)
@[simp] theorem State.energyStop_pow_autumn (s : State) (cause) : (s.energyStop cause).pow.autumn = s.pow.autumn := (rfl)
@[simp] theorem State.resetMetering_pow_autumn (s : State) (r) : (s.resetMetering r).pow.autumn = s.pow.autumn := by simp -implicitDefEqProofs [State.resetMetering, apply_ite State.pow, apply_ite Power.autumn]
@[simp] theorem State.disarmCompare_pow_autumn (s : State) (n k) : (s.disarmCompare n k).pow.autumn = s.pow.autumn := by simp -implicitDefEqProofs [State.disarmCompare, apply_ite State.pow, apply_ite Power.autumn]
@[simp] theorem State.posDisarm_pow_autumn (s : State) (n) : (s.posDisarm n).pow.autumn = s.pow.autumn := by simp -implicitDefEqProofs [State.posDisarm]
@[simp] theorem State.posClear_pow_autumn (s : State) (n) : (s.posClear n).pow.autumn = s.pow.autumn := (rfl)
@[simp] theorem State.posReset_pow_autumn (s : State) (n cause) : (s.posReset n cause).pow.autumn = s.pow.autumn := by simp -implicitDefEqProofs [State.posReset, apply_ite State.pow, apply_ite Power.autumn]
@[simp] theorem State.carsReset_pow_autumn (s : State) : s.carsReset.pow.autumn = s.pow.autumn := by simp -implicitDefEqProofs [State.carsReset, apply_ite State.pow, apply_ite Power.autumn]
@[simp] theorem State.resetLift_pow_autumn (s : State) (r) : (s.resetLift r).pow.autumn = s.pow.autumn := by simp -implicitDefEqProofs [State.resetLift]
@[simp] theorem State.resetObjs_pow_autumn (s : State) (r) : (s.resetObjs r).pow.autumn = s.pow.autumn := by simp -implicitDefEqProofs [State.resetObjs]
@[simp] theorem State.resetPower_pow_autumn (s : State) (r) : (s.resetPower r).pow.autumn = s.pow.autumn := (rfl)
@[simp] theorem State.resetSafety_pow_autumn (s : State) (r) : (s.resetSafety r).pow.autumn = s.pow.autumn := (rfl)
@[simp] theorem State.resetTwin_pow_autumn (s : State) : s.resetTwin.pow.autumn = s.pow.autumn := (rfl)
@[simp] theorem State.resetPoints_pow_autumn (s : State) : s.resetPoints.pow.autumn = s.pow.autumn := (rfl)
@[simp] theorem State.resetAccess_pow_autumn (s : State) (r) : (s.resetAccess r).pow.autumn = s.pow.autumn := (rfl)
@[simp] theorem State.resetField_pow_autumn (s : State) : s.resetField.pow.autumn = s.pow.autumn := (rfl)
@[simp] theorem State.resetTime_pow_autumn (s : State) (r) : (s.resetTime r).pow.autumn = s.pow.autumn := by unfold State.resetTime; split <;> rfl
@[simp] theorem State.setLoopMode_pow_autumn (s : State) (c j m) : (s.setLoopMode c j m).pow.autumn = s.pow.autumn := by simp -implicitDefEqProofs [State.setLoopMode, apply_ite State.pow, apply_ite Power.autumn]
@[simp] theorem State.closeLoop_pow_autumn (s : State) (c j) : (s.closeLoop c j).pow.autumn = s.pow.autumn := by simp -implicitDefEqProofs [State.closeLoop]
@[simp] theorem State.doorLoopsClose_pow_autumn (s : State) (k) : (s.doorLoopsClose k).pow.autumn = s.pow.autumn := by simp -implicitDefEqProofs [State.doorLoopsClose, apply_ite State.pow, apply_ite Power.autumn]
@[simp] theorem State.doorLoopsOpen_pow_autumn (s : State) (k) : (s.doorLoopsOpen k).pow.autumn = s.pow.autumn := by simp -implicitDefEqProofs [State.doorLoopsOpen, apply_ite State.pow, apply_ite Power.autumn]
@[simp] theorem State.doorEnter_pow_autumn (s : State) (k st) : (s.doorEnter k st).pow.autumn = s.pow.autumn := by simp -implicitDefEqProofs [State.doorEnter, apply_ite State.pow, apply_ite Power.autumn]
@[simp] theorem State.handshake_pow_autumn (s : State) (k) : (s.handshake k).pow.autumn = s.pow.autumn := by simp -implicitDefEqProofs [State.handshake]
@[simp] theorem State.mirror_pow_autumn (s : State) (b) : (s.mirror b).pow.autumn = s.pow.autumn := by unfold State.mirror; split <;> rfl
@[simp] theorem State.swapItem_pow_autumn (s : State) (i) : (s.swapItem i).pow.autumn = s.pow.autumn := by simp -implicitDefEqProofs [State.swapItem]
@[simp] theorem State.moveItem_pow_autumn (a) (s : State) (i) : (s.moveItem a i).pow.autumn = s.pow.autumn := by
  unfold State.moveItem
  split <;> simp -implicitDefEqProofs
@[simp] theorem State.ptStatusBit_pow_autumn (s : State) (p i b) : (s.ptStatusBit p i b).pow.autumn = s.pow.autumn := by unfold State.ptStatusBit; split <;> rfl
@[simp] theorem State.markDegraded_pow_autumn (s : State) (k) : (s.markDegraded k).pow.autumn = s.pow.autumn := by
  unfold State.markDegraded
  split <;> simp -implicitDefEqProofs
@[simp] theorem State.degrade_pow_autumn (s : State) (a i) : (s.degrade a i).pow.autumn = s.pow.autumn := by simp -implicitDefEqProofs [State.degrade]
@[simp] theorem State.degradePathless_pow_autumn (s : State) (a) : (s.degradePathless a).pow.autumn = s.pow.autumn := by
  unfold State.degradePathless
  split <;> simp -implicitDefEqProofs
@[simp] theorem State.degradeOn_pow_autumn (a a1) (s : State) : (s.degradeOn a a1).pow.autumn = s.pow.autumn := by
  fun_induction State.degradeOn a a1 s <;> simp_all
@[simp] theorem State.shrink_pow_autumn (s : State) (a) : (s.shrink a).pow.autumn = s.pow.autumn := by simp -implicitDefEqProofs [State.shrink]
@[simp] theorem State.dropItems_pow_autumn (s : State) (p) : (s.dropItems p).pow.autumn = s.pow.autumn := by simp -implicitDefEqProofs [State.dropItems]
@[simp] theorem State.moveBack_pow_autumn (a) (s : State) (i) : (s.moveBack a i).pow.autumn = s.pow.autumn := by
  unfold State.moveBack
  split <;> simp -implicitDefEqProofs
@[simp] theorem State.undegrade_pow_autumn (s : State) (a i) : (s.undegrade a i).pow.autumn = s.pow.autumn := by simp -implicitDefEqProofs [State.undegrade]
@[simp] theorem State.restoreItem_pow_autumn (a) (s : State) (i) : (s.restoreItem a i).pow.autumn = s.pow.autumn := by simp -implicitDefEqProofs [State.restoreItem, apply_ite State.pow, apply_ite Power.autumn]
@[simp] theorem State.grow_pow_autumn (s : State) (a) : (s.grow a).pow.autumn = s.pow.autumn := by simp -implicitDefEqProofs [State.grow]
@[simp] theorem State.canTakeMode_pow_autumn (s : State) (c m) : (s.canTakeMode c m).pow.autumn = s.pow.autumn := by simp -implicitDefEqProofs [State.canTakeMode, apply_ite State.pow, apply_ite Power.autumn]
@[simp] theorem State.islandStart_pow_autumn (s : State) (i) : (s.islandStart i).pow.autumn = s.pow.autumn := (rfl)
@[simp] theorem State.acctUp_pow_autumn (s : State) (a) : (s.acctUp a).pow.autumn = s.pow.autumn := by simp -implicitDefEqProofs [State.acctUp]
@[simp] theorem State.blockLeave_pow_autumn (s : State) (b) : (s.blockLeave b).pow.autumn = s.pow.autumn := by
  simp -implicitDefEqProofs only [State.blockLeave]
  split <;> simp -implicitDefEqProofs [apply_ite State.pow, apply_ite Power.autumn]
@[simp] theorem State.blockRelease_pow_autumn (s : State) (b) : (s.blockRelease b).pow.autumn = s.pow.autumn := by simp -implicitDefEqProofs [State.blockRelease, apply_ite State.pow, apply_ite Power.autumn]
@[simp] theorem State.applyReach_pow_autumn (s : State) (r) : (s.applyReach r).pow.autumn = s.pow.autumn := by
  simp -implicitDefEqProofs only [State.applyReach]
  simp -implicitDefEqProofs [apply_ite State.pow, apply_ite Power.autumn]
@[simp] theorem State.enter_rst_asserted (s : State) (m trigger) : (s.enter m trigger).rst.asserted = s.rst.asserted := by simp -implicitDefEqProofs [State.enter]
@[simp] theorem State.release_rst_asserted (s : State) (cause) : (s.release cause).rst.asserted = s.rst.asserted := by simp -implicitDefEqProofs [State.release, apply_ite State.rst, apply_ite ResetCtl.asserted]
@[simp] theorem State.enter_rst_resetN (s : State) (m trigger) : (s.enter m trigger).rst.resetN = s.rst.resetN := by simp -implicitDefEqProofs [State.enter]
@[simp] theorem State.release_rst_resetN (s : State) (cause) : (s.release cause).rst.resetN = s.rst.resetN := by simp -implicitDefEqProofs [State.release, apply_ite State.rst, apply_ite ResetCtl.resetN]
@[simp] theorem State.enter_rst_seen (s : State) (m trigger) : (s.enter m trigger).rst.seen = s.rst.seen := by simp -implicitDefEqProofs [State.enter]
@[simp] theorem State.release_rst_seen (s : State) (cause) : (s.release cause).rst.seen = s.rst.seen := by simp -implicitDefEqProofs [State.release, apply_ite State.rst, apply_ite ResetCtl.seen]
@[simp] theorem State.enter_rst_reach (s : State) (m trigger) : (s.enter m trigger).rst.reach = s.rst.reach := by simp -implicitDefEqProofs [State.enter]
@[simp] theorem State.release_rst_reach (s : State) (cause) : (s.release cause).rst.reach = s.rst.reach := by simp -implicitDefEqProofs [State.release, apply_ite State.rst, apply_ite ResetCtl.reach]
@[simp] theorem State.enter_rst_complete (s : State) (m trigger) : (s.enter m trigger).rst.complete = s.rst.complete := by simp -implicitDefEqProofs [State.enter]
@[simp] theorem State.release_rst_complete (s : State) (cause) : (s.release cause).rst.complete = s.rst.complete := by simp -implicitDefEqProofs [State.release, apply_ite State.rst, apply_ite ResetCtl.complete]
@[simp] theorem State.enter_pow_autumn (s : State) (m trigger) : (s.enter m trigger).pow.autumn = s.pow.autumn := by simp -implicitDefEqProofs [State.enter]
@[simp] theorem State.release_pow_autumn (s : State) (cause) : (s.release cause).pow.autumn = s.pow.autumn := by simp -implicitDefEqProofs [State.release, apply_ite State.pow, apply_ite Power.autumn]
@[simp] theorem State.noteSource_rst_asserted (s : State) (b) : (s.noteSource b).rst.asserted = s.rst.asserted := (rfl)
@[simp] theorem State.noteSource_rst_resetN (s : State) (b) : (s.noteSource b).rst.resetN = s.rst.resetN := (rfl)
@[simp] theorem State.noteSource_pow_autumn (s : State) (b) : (s.noteSource b).pow.autumn = s.pow.autumn := (rfl)
@[simp] theorem State.spoilTrips_launches (s : State) : s.spoilTrips.launches = s.launches := (rfl)
@[simp] theorem State.energyStop_launches (s : State) (cause) : (s.energyStop cause).launches = s.launches := (rfl)
@[simp] theorem State.resetMetering_launches (s : State) (r) : (s.resetMetering r).launches = s.launches := by simp -implicitDefEqProofs [State.resetMetering, apply_ite State.launches]
@[simp] theorem State.resetMetering_tw_activeOut (s : State) (r) : (s.resetMetering r).tw.activeOut = s.tw.activeOut := by simp -implicitDefEqProofs [State.resetMetering, apply_ite State.tw, apply_ite Twin.activeOut]
@[simp] theorem State.resetMetering_emits (s : State) (r) : (s.resetMetering r).emits = s.emits := by simp -implicitDefEqProofs [State.resetMetering, apply_ite State.emits]
@[simp] theorem State.energyStop_out (s : State) (cause) : (s.energyStop cause).out = s.out := (rfl)
@[simp] theorem State.resetMetering_out (s : State) (r) : (s.resetMetering r).out = s.out := by simp -implicitDefEqProofs [State.resetMetering, apply_ite State.out]
@[simp] theorem State.disarmCompare_launches (s : State) (n k) : (s.disarmCompare n k).launches = s.launches := by simp -implicitDefEqProofs [State.disarmCompare, apply_ite State.launches]
@[simp] theorem State.posDisarm_launches (s : State) (n) : (s.posDisarm n).launches = s.launches := by simp -implicitDefEqProofs [State.posDisarm]
@[simp] theorem State.posClear_launches (s : State) (n) : (s.posClear n).launches = s.launches := by simp -implicitDefEqProofs [State.posClear]
@[simp] theorem State.posReset_launches (s : State) (n cause) : (s.posReset n cause).launches = s.launches := by simp -implicitDefEqProofs [State.posReset, apply_ite State.launches]
@[simp] theorem State.carsReset_launches (s : State) : s.carsReset.launches = s.launches := by simp -implicitDefEqProofs [State.carsReset, apply_ite State.launches]
@[simp] theorem State.resetLift_launches (s : State) (r) : (s.resetLift r).launches = s.launches := by simp -implicitDefEqProofs [State.resetLift]
@[simp] theorem State.disarmCompare_tw_activeOut (s : State) (n k) : (s.disarmCompare n k).tw.activeOut = s.tw.activeOut := by simp -implicitDefEqProofs [State.disarmCompare, apply_ite State.tw, apply_ite Twin.activeOut]
@[simp] theorem State.posDisarm_tw_activeOut (s : State) (n) : (s.posDisarm n).tw.activeOut = s.tw.activeOut := by simp -implicitDefEqProofs [State.posDisarm]
@[simp] theorem State.posClear_tw_activeOut (s : State) (n) : (s.posClear n).tw.activeOut = s.tw.activeOut := (rfl)
@[simp] theorem State.posReset_tw_activeOut (s : State) (n cause) : (s.posReset n cause).tw.activeOut = s.tw.activeOut := by simp -implicitDefEqProofs [State.posReset, apply_ite State.tw, apply_ite Twin.activeOut]
@[simp] theorem State.carsReset_tw_activeOut (s : State) : s.carsReset.tw.activeOut = s.tw.activeOut := by simp -implicitDefEqProofs [State.carsReset, apply_ite State.tw, apply_ite Twin.activeOut]
@[simp] theorem State.resetLift_tw_activeOut (s : State) (r) : (s.resetLift r).tw.activeOut = s.tw.activeOut := by simp -implicitDefEqProofs [State.resetLift]
@[simp] theorem State.disarmCompare_emits (s : State) (n k) : (s.disarmCompare n k).emits = s.emits := by simp -implicitDefEqProofs [State.disarmCompare, apply_ite State.emits]
@[simp] theorem State.posDisarm_emits (s : State) (n) : (s.posDisarm n).emits = s.emits := by simp -implicitDefEqProofs [State.posDisarm]
@[simp] theorem State.posClear_emits (s : State) (n) : (s.posClear n).emits = s.emits := by simp -implicitDefEqProofs [State.posClear]
@[simp] theorem State.posReset_emits (s : State) (n cause) : (s.posReset n cause).emits = s.emits := by simp -implicitDefEqProofs [State.posReset, apply_ite State.emits]
@[simp] theorem State.carsReset_emits (s : State) : s.carsReset.emits = s.emits := by simp -implicitDefEqProofs [State.carsReset, apply_ite State.emits]
@[simp] theorem State.resetLift_emits (s : State) (r) : (s.resetLift r).emits = s.emits := by simp -implicitDefEqProofs [State.resetLift]
@[simp] theorem State.disarmCompare_out (s : State) (n k) : (s.disarmCompare n k).out = s.out := by simp -implicitDefEqProofs [State.disarmCompare, apply_ite State.out]
@[simp] theorem State.posDisarm_out (s : State) (n) : (s.posDisarm n).out = s.out := by simp -implicitDefEqProofs [State.posDisarm]
@[simp] theorem State.posClear_out (s : State) (n) : (s.posClear n).out = s.out := by simp -implicitDefEqProofs [State.posClear]
@[simp] theorem State.posReset_out (s : State) (n cause) : (s.posReset n cause).out = s.out := by simp -implicitDefEqProofs [State.posReset, apply_ite State.out]
@[simp] theorem State.carsReset_out (s : State) : s.carsReset.out = s.out := by simp -implicitDefEqProofs [State.carsReset, apply_ite State.out]
@[simp] theorem State.resetLift_out (s : State) (r) : (s.resetLift r).out = s.out := by simp -implicitDefEqProofs [State.resetLift]
@[simp] theorem State.resetPower_launches (s : State) (r) : (s.resetPower r).launches = s.launches := (rfl)
@[simp] theorem State.resetPower_tw_activeOut (s : State) (r) : (s.resetPower r).tw.activeOut = s.tw.activeOut := (rfl)
@[simp] theorem State.resetPower_emits (s : State) (r) : (s.resetPower r).emits = s.emits := (rfl)
@[simp] theorem State.resetPower_out (s : State) (r) : (s.resetPower r).out = s.out := (rfl)
@[simp] theorem State.resetObjs_launches (s : State) (r) : (s.resetObjs r).launches = s.launches := by simp -implicitDefEqProofs [State.resetObjs]
@[simp] theorem State.resetObjs_tw_activeOut (s : State) (r) : (s.resetObjs r).tw.activeOut = s.tw.activeOut := by simp -implicitDefEqProofs [State.resetObjs]
@[simp] theorem State.resetObjs_emits (s : State) (r) : (s.resetObjs r).emits = s.emits := by simp -implicitDefEqProofs [State.resetObjs]
@[simp] theorem State.resetObjs_out (s : State) (r) : (s.resetObjs r).out = s.out := by simp -implicitDefEqProofs [State.resetObjs]
@[simp] theorem State.resetAccess_launches (s : State) (r) : (s.resetAccess r).launches = s.launches := (rfl)
@[simp] theorem State.resetAccess_tw_activeOut (s : State) (r) : (s.resetAccess r).tw.activeOut = s.tw.activeOut := (rfl)
@[simp] theorem State.resetAccess_emits (s : State) (r) : (s.resetAccess r).emits = s.emits := (rfl)
@[simp] theorem State.resetAccess_out (s : State) (r) : (s.resetAccess r).out = s.out := (rfl)
@[simp] theorem State.resetPoints_launches (s : State) : s.resetPoints.launches = s.launches := (rfl)
@[simp] theorem State.resetPoints_tw_activeOut (s : State) : s.resetPoints.tw.activeOut = s.tw.activeOut := (rfl)
@[simp] theorem State.resetPoints_emits (s : State) : s.resetPoints.emits = s.emits := (rfl)
@[simp] theorem State.resetPoints_out (s : State) : s.resetPoints.out = s.out := (rfl)
@[simp] theorem State.resetTwin_launches (s : State) : s.resetTwin.launches = s.launches := (rfl)
@[simp] theorem State.resetTwin_emits (s : State) : s.resetTwin.emits = s.emits := (rfl)
@[simp] theorem State.resetTwin_out (s : State) : s.resetTwin.out = s.out := (rfl)
@[simp] theorem State.resetSafety_launches (s : State) (r) : (s.resetSafety r).launches = s.launches := (rfl)
@[simp] theorem State.resetSafety_tw_activeOut (s : State) (r) : (s.resetSafety r).tw.activeOut = s.tw.activeOut := (rfl)
@[simp] theorem State.resetSafety_emits (s : State) (r) : (s.resetSafety r).emits = s.emits := (rfl)
@[simp] theorem State.resetSafety_out (s : State) (r) : (s.resetSafety r).out = s.out := (rfl)
@[simp] theorem State.resetTime_launches (s : State) (r) : (s.resetTime r).launches = s.launches := by unfold State.resetTime; split <;> rfl
@[simp] theorem State.resetTime_tw_activeOut (s : State) (r) : (s.resetTime r).tw.activeOut = s.tw.activeOut := by unfold State.resetTime; split <;> rfl
@[simp] theorem State.resetTime_emits (s : State) (r) : (s.resetTime r).emits = s.emits := by unfold State.resetTime; split <;> rfl
@[simp] theorem State.resetTime_out (s : State) (r) : (s.resetTime r).out = s.out := by unfold State.resetTime; split <;> rfl
@[simp] theorem State.resetField_launches (s : State) : s.resetField.launches = s.launches := (rfl)
@[simp] theorem State.resetField_tw_activeOut (s : State) : s.resetField.tw.activeOut = s.tw.activeOut := (rfl)
@[simp] theorem State.resetField_emits (s : State) : s.resetField.emits = s.emits := (rfl)
@[simp] theorem State.resetField_out (s : State) : s.resetField.out = s.out := (rfl)
@[simp] theorem State.setLoopMode_launches (s : State) (c j m) : (s.setLoopMode c j m).launches = s.launches := by simp -implicitDefEqProofs [State.setLoopMode, apply_ite State.launches]
@[simp] theorem State.closeLoop_launches (s : State) (c j) : (s.closeLoop c j).launches = s.launches := by simp -implicitDefEqProofs [State.closeLoop]
@[simp] theorem State.doorLoopsClose_launches (s : State) (k) : (s.doorLoopsClose k).launches = s.launches := by simp -implicitDefEqProofs [State.doorLoopsClose, apply_ite State.launches]
@[simp] theorem State.doorLoopsOpen_launches (s : State) (k) : (s.doorLoopsOpen k).launches = s.launches := by simp -implicitDefEqProofs [State.doorLoopsOpen, apply_ite State.launches]
@[simp] theorem State.doorEnter_launches (s : State) (k st) : (s.doorEnter k st).launches = s.launches := by simp -implicitDefEqProofs [State.doorEnter, apply_ite State.launches]
@[simp] theorem State.handshake_launches (s : State) (k) : (s.handshake k).launches = s.launches := by simp -implicitDefEqProofs [State.handshake]
@[simp] theorem State.swapItem_launches (s : State) (i) : (s.swapItem i).launches = s.launches := by simp -implicitDefEqProofs [State.swapItem]
@[simp] theorem State.moveItem_launches (a) (s : State) (i) : (s.moveItem a i).launches = s.launches := by
  unfold State.moveItem
  split <;> simp -implicitDefEqProofs
@[simp] theorem State.ptStatusBit_launches (s : State) (p i b) : (s.ptStatusBit p i b).launches = s.launches := by unfold State.ptStatusBit; split <;> rfl
@[simp] theorem State.markDegraded_launches (s : State) (k) : (s.markDegraded k).launches = s.launches := by
  unfold State.markDegraded
  split <;> simp -implicitDefEqProofs
@[simp] theorem State.degrade_launches (s : State) (a i) : (s.degrade a i).launches = s.launches := by simp -implicitDefEqProofs [State.degrade]
@[simp] theorem State.degradePathless_launches (s : State) (a) : (s.degradePathless a).launches = s.launches := by
  unfold State.degradePathless
  split <;> simp -implicitDefEqProofs
@[simp] theorem State.degradeOn_launches (a a1) (s : State) : (s.degradeOn a a1).launches = s.launches := by
  fun_induction State.degradeOn a a1 s <;> simp_all
@[simp] theorem State.shrink_launches (s : State) (a) : (s.shrink a).launches = s.launches := by simp -implicitDefEqProofs [State.shrink]
@[simp] theorem State.dropItems_launches (s : State) (p) : (s.dropItems p).launches = s.launches := by simp -implicitDefEqProofs [State.dropItems]
@[simp] theorem State.moveBack_launches (a) (s : State) (i) : (s.moveBack a i).launches = s.launches := by
  unfold State.moveBack
  split <;> simp -implicitDefEqProofs
@[simp] theorem State.undegrade_launches (s : State) (a i) : (s.undegrade a i).launches = s.launches := by simp -implicitDefEqProofs [State.undegrade]
@[simp] theorem State.restoreItem_launches (a) (s : State) (i) : (s.restoreItem a i).launches = s.launches := by simp -implicitDefEqProofs [State.restoreItem, apply_ite State.launches]
@[simp] theorem State.grow_launches (s : State) (a) : (s.grow a).launches = s.launches := by simp -implicitDefEqProofs [State.grow]
@[simp] theorem State.canTakeMode_launches (s : State) (c m) : (s.canTakeMode c m).launches = s.launches := by simp -implicitDefEqProofs [State.canTakeMode, apply_ite State.launches]
@[simp] theorem State.islandStart_launches (s : State) (i) : (s.islandStart i).launches = s.launches := (rfl)
@[simp] theorem State.acctUp_launches (s : State) (a) : (s.acctUp a).launches = s.launches := by simp -implicitDefEqProofs [State.acctUp]
@[simp] theorem State.blockLeave_launches (s : State) (b) : (s.blockLeave b).launches = s.launches := by
  simp -implicitDefEqProofs only [State.blockLeave]
  split <;> simp -implicitDefEqProofs [apply_ite State.launches]
@[simp] theorem State.blockRelease_launches (s : State) (b) : (s.blockRelease b).launches = s.launches := by simp -implicitDefEqProofs [State.blockRelease, apply_ite State.launches]
@[simp] theorem State.setLoopMode_tw_activeOut (s : State) (c j m) : (s.setLoopMode c j m).tw.activeOut = s.tw.activeOut := by simp -implicitDefEqProofs [State.setLoopMode, apply_ite State.tw, apply_ite Twin.activeOut]
@[simp] theorem State.closeLoop_tw_activeOut (s : State) (c j) : (s.closeLoop c j).tw.activeOut = s.tw.activeOut := by simp -implicitDefEqProofs [State.closeLoop]
@[simp] theorem State.doorLoopsClose_tw_activeOut (s : State) (k) : (s.doorLoopsClose k).tw.activeOut = s.tw.activeOut := by simp -implicitDefEqProofs [State.doorLoopsClose, apply_ite State.tw, apply_ite Twin.activeOut]
@[simp] theorem State.doorLoopsOpen_tw_activeOut (s : State) (k) : (s.doorLoopsOpen k).tw.activeOut = s.tw.activeOut := by simp -implicitDefEqProofs [State.doorLoopsOpen, apply_ite State.tw, apply_ite Twin.activeOut]
@[simp] theorem State.doorEnter_tw_activeOut (s : State) (k st) : (s.doorEnter k st).tw.activeOut = s.tw.activeOut := by simp -implicitDefEqProofs [State.doorEnter, apply_ite State.tw, apply_ite Twin.activeOut]
@[simp] theorem State.handshake_tw_activeOut (s : State) (k) : (s.handshake k).tw.activeOut = s.tw.activeOut := by simp -implicitDefEqProofs [State.handshake]
@[simp] theorem State.swapItem_tw_activeOut (s : State) (i) : (s.swapItem i).tw.activeOut = s.tw.activeOut := by simp -implicitDefEqProofs [State.swapItem]
@[simp] theorem State.moveItem_tw_activeOut (a) (s : State) (i) : (s.moveItem a i).tw.activeOut = s.tw.activeOut := by
  unfold State.moveItem
  split <;> simp -implicitDefEqProofs
@[simp] theorem State.ptStatusBit_tw_activeOut (s : State) (p i b) : (s.ptStatusBit p i b).tw.activeOut = s.tw.activeOut := by unfold State.ptStatusBit; split <;> rfl
@[simp] theorem State.markDegraded_tw_activeOut (s : State) (k) : (s.markDegraded k).tw.activeOut = s.tw.activeOut := by
  unfold State.markDegraded
  split <;> simp -implicitDefEqProofs
@[simp] theorem State.degrade_tw_activeOut (s : State) (a i) : (s.degrade a i).tw.activeOut = s.tw.activeOut := by simp -implicitDefEqProofs [State.degrade]
@[simp] theorem State.degradePathless_tw_activeOut (s : State) (a) : (s.degradePathless a).tw.activeOut = s.tw.activeOut := by
  unfold State.degradePathless
  split <;> simp -implicitDefEqProofs
@[simp] theorem State.degradeOn_tw_activeOut (a a1) (s : State) : (s.degradeOn a a1).tw.activeOut = s.tw.activeOut := by
  fun_induction State.degradeOn a a1 s <;> simp_all
@[simp] theorem State.shrink_tw_activeOut (s : State) (a) : (s.shrink a).tw.activeOut = s.tw.activeOut := by simp -implicitDefEqProofs [State.shrink]
@[simp] theorem State.moveBack_tw_activeOut (a) (s : State) (i) : (s.moveBack a i).tw.activeOut = s.tw.activeOut := by
  unfold State.moveBack
  split <;> simp -implicitDefEqProofs
@[simp] theorem State.undegrade_tw_activeOut (s : State) (a i) : (s.undegrade a i).tw.activeOut = s.tw.activeOut := by simp -implicitDefEqProofs [State.undegrade]
@[simp] theorem State.restoreItem_tw_activeOut (a) (s : State) (i) : (s.restoreItem a i).tw.activeOut = s.tw.activeOut := by simp -implicitDefEqProofs [State.restoreItem, apply_ite State.tw, apply_ite Twin.activeOut]
@[simp] theorem State.grow_tw_activeOut (s : State) (a) : (s.grow a).tw.activeOut = s.tw.activeOut := by simp -implicitDefEqProofs [State.grow]
@[simp] theorem State.canTakeMode_tw_activeOut (s : State) (c m) : (s.canTakeMode c m).tw.activeOut = s.tw.activeOut := by simp -implicitDefEqProofs [State.canTakeMode, apply_ite State.tw, apply_ite Twin.activeOut]
@[simp] theorem State.islandStart_tw_activeOut (s : State) (i) : (s.islandStart i).tw.activeOut = s.tw.activeOut := (rfl)
@[simp] theorem State.acctUp_tw_activeOut (s : State) (a) : (s.acctUp a).tw.activeOut = s.tw.activeOut := by simp -implicitDefEqProofs [State.acctUp]
@[simp] theorem State.blockLeave_tw_activeOut (s : State) (b) : (s.blockLeave b).tw.activeOut = s.tw.activeOut := by
  simp -implicitDefEqProofs only [State.blockLeave]
  split <;> simp -implicitDefEqProofs [apply_ite State.tw, apply_ite Twin.activeOut]
@[simp] theorem State.blockRelease_tw_activeOut (s : State) (b) : (s.blockRelease b).tw.activeOut = s.tw.activeOut := by simp -implicitDefEqProofs [State.blockRelease, apply_ite State.tw, apply_ite Twin.activeOut]
@[simp] theorem State.setLoopMode_emits (s : State) (c j m) : (s.setLoopMode c j m).emits = s.emits := by simp -implicitDefEqProofs [State.setLoopMode, apply_ite State.emits]
@[simp] theorem State.closeLoop_emits (s : State) (c j) : (s.closeLoop c j).emits = s.emits := by simp -implicitDefEqProofs [State.closeLoop]
@[simp] theorem State.doorLoopsClose_emits (s : State) (k) : (s.doorLoopsClose k).emits = s.emits := by simp -implicitDefEqProofs [State.doorLoopsClose, apply_ite State.emits]
@[simp] theorem State.doorLoopsOpen_emits (s : State) (k) : (s.doorLoopsOpen k).emits = s.emits := by simp -implicitDefEqProofs [State.doorLoopsOpen, apply_ite State.emits]
@[simp] theorem State.doorEnter_emits (s : State) (k st) : (s.doorEnter k st).emits = s.emits := by simp -implicitDefEqProofs [State.doorEnter, apply_ite State.emits]
@[simp] theorem State.handshake_emits (s : State) (k) : (s.handshake k).emits = s.emits := by simp -implicitDefEqProofs [State.handshake]
@[simp] theorem State.swapItem_emits (s : State) (i) : (s.swapItem i).emits = s.emits := by simp -implicitDefEqProofs [State.swapItem]
@[simp] theorem State.moveItem_emits (a) (s : State) (i) : (s.moveItem a i).emits = s.emits := by
  unfold State.moveItem
  split <;> simp -implicitDefEqProofs
@[simp] theorem State.ptStatusBit_emits (s : State) (p i b) : (s.ptStatusBit p i b).emits = s.emits := by unfold State.ptStatusBit; split <;> rfl
@[simp] theorem State.markDegraded_emits (s : State) (k) : (s.markDegraded k).emits = s.emits := by
  unfold State.markDegraded
  split <;> simp -implicitDefEqProofs
@[simp] theorem State.degrade_emits (s : State) (a i) : (s.degrade a i).emits = s.emits := by simp -implicitDefEqProofs [State.degrade]
@[simp] theorem State.degradePathless_emits (s : State) (a) : (s.degradePathless a).emits = s.emits := by
  unfold State.degradePathless
  split <;> simp -implicitDefEqProofs
@[simp] theorem State.degradeOn_emits (a a1) (s : State) : (s.degradeOn a a1).emits = s.emits := by
  fun_induction State.degradeOn a a1 s <;> simp_all
@[simp] theorem State.shrink_emits (s : State) (a) : (s.shrink a).emits = s.emits := by simp -implicitDefEqProofs [State.shrink]
@[simp] theorem State.dropItems_emits (s : State) (p) : (s.dropItems p).emits = s.emits := by simp -implicitDefEqProofs [State.dropItems]
@[simp] theorem State.moveBack_emits (a) (s : State) (i) : (s.moveBack a i).emits = s.emits := by
  unfold State.moveBack
  split <;> simp -implicitDefEqProofs
@[simp] theorem State.undegrade_emits (s : State) (a i) : (s.undegrade a i).emits = s.emits := by simp -implicitDefEqProofs [State.undegrade]
@[simp] theorem State.restoreItem_emits (a) (s : State) (i) : (s.restoreItem a i).emits = s.emits := by simp -implicitDefEqProofs [State.restoreItem, apply_ite State.emits]
@[simp] theorem State.grow_emits (s : State) (a) : (s.grow a).emits = s.emits := by simp -implicitDefEqProofs [State.grow]
@[simp] theorem State.canTakeMode_emits (s : State) (c m) : (s.canTakeMode c m).emits = s.emits := by simp -implicitDefEqProofs [State.canTakeMode, apply_ite State.emits]
@[simp] theorem State.islandStart_emits (s : State) (i) : (s.islandStart i).emits = s.emits := (rfl)
@[simp] theorem State.acctUp_emits (s : State) (a) : (s.acctUp a).emits = s.emits := by simp -implicitDefEqProofs [State.acctUp]
@[simp] theorem State.blockLeave_emits (s : State) (b) : (s.blockLeave b).emits = s.emits := by
  simp -implicitDefEqProofs only [State.blockLeave]
  split <;> simp -implicitDefEqProofs [apply_ite State.emits]
@[simp] theorem State.blockRelease_emits (s : State) (b) : (s.blockRelease b).emits = s.emits := by simp -implicitDefEqProofs [State.blockRelease, apply_ite State.emits]
@[simp] theorem State.setLoopMode_out (s : State) (c j m) : (s.setLoopMode c j m).out = s.out := by simp -implicitDefEqProofs [State.setLoopMode, apply_ite State.out]
@[simp] theorem State.closeLoop_out (s : State) (c j) : (s.closeLoop c j).out = s.out := by simp -implicitDefEqProofs [State.closeLoop]
@[simp] theorem State.doorLoopsClose_out (s : State) (k) : (s.doorLoopsClose k).out = s.out := by simp -implicitDefEqProofs [State.doorLoopsClose, apply_ite State.out]
@[simp] theorem State.doorLoopsOpen_out (s : State) (k) : (s.doorLoopsOpen k).out = s.out := by simp -implicitDefEqProofs [State.doorLoopsOpen, apply_ite State.out]
@[simp] theorem State.doorEnter_out (s : State) (k st) : (s.doorEnter k st).out = s.out := by simp -implicitDefEqProofs [State.doorEnter, apply_ite State.out]
@[simp] theorem State.handshake_out (s : State) (k) : (s.handshake k).out = s.out := by simp -implicitDefEqProofs [State.handshake]
@[simp] theorem State.swapItem_out (s : State) (i) : (s.swapItem i).out = s.out := by simp -implicitDefEqProofs [State.swapItem]
@[simp] theorem State.moveItem_out (a) (s : State) (i) : (s.moveItem a i).out = s.out := by
  unfold State.moveItem
  split <;> simp -implicitDefEqProofs
@[simp] theorem State.ptStatusBit_out (s : State) (p i b) : (s.ptStatusBit p i b).out = s.out := by unfold State.ptStatusBit; split <;> rfl
@[simp] theorem State.markDegraded_out (s : State) (k) : (s.markDegraded k).out = s.out := by
  unfold State.markDegraded
  split <;> simp -implicitDefEqProofs
@[simp] theorem State.degrade_out (s : State) (a i) : (s.degrade a i).out = s.out := by simp -implicitDefEqProofs [State.degrade]
@[simp] theorem State.degradePathless_out (s : State) (a) : (s.degradePathless a).out = s.out := by
  unfold State.degradePathless
  split <;> simp -implicitDefEqProofs
@[simp] theorem State.degradeOn_out (a a1) (s : State) : (s.degradeOn a a1).out = s.out := by
  fun_induction State.degradeOn a a1 s <;> simp_all
@[simp] theorem State.shrink_out (s : State) (a) : (s.shrink a).out = s.out := by simp -implicitDefEqProofs [State.shrink]
@[simp] theorem State.dropItems_out (s : State) (p) : (s.dropItems p).out = s.out := by simp -implicitDefEqProofs [State.dropItems]
@[simp] theorem State.moveBack_out (a) (s : State) (i) : (s.moveBack a i).out = s.out := by
  unfold State.moveBack
  split <;> simp -implicitDefEqProofs
@[simp] theorem State.undegrade_out (s : State) (a i) : (s.undegrade a i).out = s.out := by simp -implicitDefEqProofs [State.undegrade]
@[simp] theorem State.restoreItem_out (a) (s : State) (i) : (s.restoreItem a i).out = s.out := by simp -implicitDefEqProofs [State.restoreItem, apply_ite State.out]
@[simp] theorem State.grow_out (s : State) (a) : (s.grow a).out = s.out := by simp -implicitDefEqProofs [State.grow]
@[simp] theorem State.canTakeMode_out (s : State) (c m) : (s.canTakeMode c m).out = s.out := by simp -implicitDefEqProofs [State.canTakeMode, apply_ite State.out]
@[simp] theorem State.islandStart_out (s : State) (i) : (s.islandStart i).out = s.out := (rfl)
@[simp] theorem State.acctUp_out (s : State) (a) : (s.acctUp a).out = s.out := by simp -implicitDefEqProofs [State.acctUp]
@[simp] theorem State.blockLeave_out (s : State) (b) : (s.blockLeave b).out = s.out := by
  simp -implicitDefEqProofs only [State.blockLeave]
  split <;> simp -implicitDefEqProofs [apply_ite State.out]
@[simp] theorem State.blockRelease_out (s : State) (b) : (s.blockRelease b).out = s.out := by simp -implicitDefEqProofs [State.blockRelease, apply_ite State.out]
@[simp] theorem State.noteSource_launches (s : State) (b) : (s.noteSource b).launches = s.launches := (rfl)
@[simp] theorem State.noteSource_tw_activeOut (s : State) (b) : (s.noteSource b).tw.activeOut = s.tw.activeOut := (rfl)
@[simp] theorem State.noteSource_emits (s : State) (b) : (s.noteSource b).emits = s.emits := (rfl)
@[simp] theorem State.noteSource_out (s : State) (b) : (s.noteSource b).out = s.out := (rfl)
@[simp] theorem State.noteSource_tw (s : State) (b) : (s.noteSource b).tw = s.tw := (rfl)
@[simp] theorem State.foldl_tb_status {α : Type} {g : State → α → State} (hg : ∀ s a, (g s a).tb.status = s.tb.status) (l : List α) (s : State) :
    (l.foldl g s).tb.status = s.tb.status := State.foldl_keeps (fun s => s.tb.status) hg l s
@[simp] theorem State.foldl_fst_tb_status {α β : Type} {g : State × β → α → State × β} (hg : ∀ r a, (g r a).1.tb.status = r.1.tb.status) (l : List α)
    (r : State × β) : (l.foldl g r).1.tb.status = r.1.tb.status := List.foldl_keeps (fun r => r.1.tb.status) hg l r
@[simp] theorem State.foldl_snd_tb_status {α β : Type} {g : β × State → α → β × State} (hg : ∀ r a, (g r a).2.tb.status = r.2.tb.status) (l : List α)
    (r : β × State) : (l.foldl g r).2.tb.status = r.2.tb.status := List.foldl_keeps (fun r => r.2.tb.status) hg l r
@[simp] theorem State.storeInterval_tb_status (s : State) (c short) : (s.storeInterval c short).tb.status = s.tb.status := (rfl)
@[simp] theorem State.openInterval_tb_status (s : State) (c) : (s.openInterval c).tb.status = s.tb.status := (rfl)
@[simp] theorem State.closeInterval_tb_status (s : State) (short) : (s.closeInterval short).tb.status = s.tb.status := by
  unfold State.closeInterval
  split <;> simp -implicitDefEqProofs
@[simp] theorem State.flagIntervals_tb_status (s : State) (bit) : (s.flagIntervals bit).tb.status = s.tb.status := (rfl)
@[simp] theorem State.mirror_tb_status (s : State) (b) : (s.mirror b).tb.status = s.tb.status := by unfold State.mirror; split <;> rfl
@[simp] theorem State.dropItems_tb_status (s : State) (p) : (s.dropItems p).tb.status = s.tb.status := by simp -implicitDefEqProofs [State.dropItems]
@[simp] theorem State.mapLaunch_tb_status (s : State) (part tag f) : (s.mapLaunch part tag f).tb.status = s.tb.status := (rfl)
@[simp] theorem State.endLaunch_tb_status (s : State) (l st) : (s.endLaunch l st).tb.status = s.tb.status := by simp -implicitDefEqProofs [State.endLaunch]
@[simp] theorem State.commitLaunch_tb_status (s : State) (l) : (s.commitLaunch l).tb.status = s.tb.status := by
  unfold State.commitLaunch
  split <;> simp -implicitDefEqProofs
@[simp] theorem State.emitPast_tb_status (s : State) (l) : (s.emitPast l).tb.status = s.tb.status := by simp -implicitDefEqProofs [State.emitPast, apply_ite State.tb, apply_ite TimeBase.status]
@[simp] theorem State.stepTime_tb_status (s : State) (t) : (s.stepTime t).tb.status = s.tb.status := by simp -implicitDefEqProofs [State.stepTime, apply_ite State.tb, apply_ite TimeBase.status]
@[simp] theorem State.resync_tb_status (s : State) (cause) : (s.resync cause).tb.status = s.tb.status := by simp -implicitDefEqProofs [State.resync, apply_ite State.tb, apply_ite TimeBase.status]
@[simp] theorem State.storeInterval_tw_waiting (s : State) (c short) : (s.storeInterval c short).tw.waiting = s.tw.waiting := (rfl)
@[simp] theorem State.openInterval_tw_waiting (s : State) (c) : (s.openInterval c).tw.waiting = s.tw.waiting := (rfl)
@[simp] theorem State.closeInterval_tw_waiting (s : State) (short) : (s.closeInterval short).tw.waiting = s.tw.waiting := by
  unfold State.closeInterval
  split <;> simp -implicitDefEqProofs
@[simp] theorem State.mirror_tw_waiting (s : State) (b) : (s.mirror b).tw.waiting = s.tw.waiting := by unfold State.mirror; split <;> rfl
@[simp] theorem State.dropItems_tw_waiting (s : State) (p) : (s.dropItems p).tw.waiting = s.tw.waiting := by simp -implicitDefEqProofs [State.dropItems]
@[simp] theorem State.mapLaunch_tw_waiting (s : State) (part tag f) : (s.mapLaunch part tag f).tw.waiting = s.tw.waiting := (rfl)
@[simp] theorem State.endLaunch_tw_waiting (s : State) (l st) : (s.endLaunch l st).tw.waiting = s.tw.waiting := by simp -implicitDefEqProofs [State.endLaunch]
@[simp] theorem State.commitLaunch_tw_waiting (s : State) (l) : (s.commitLaunch l).tw.waiting = s.tw.waiting := by
  unfold State.commitLaunch
  split <;> simp -implicitDefEqProofs
@[simp] theorem State.emitPast_tw_waiting (s : State) (l) : (s.emitPast l).tw.waiting = s.tw.waiting := by simp -implicitDefEqProofs [State.emitPast, apply_ite State.tw, apply_ite Twin.waiting]
@[simp] theorem State.stepTime_tw_waiting (s : State) (t) : (s.stepTime t).tw.waiting = s.tw.waiting := by simp -implicitDefEqProofs [State.stepTime, apply_ite State.tw, apply_ite Twin.waiting]
@[simp] theorem State.resync_tw_waiting (s : State) (cause) : (s.resync cause).tw.waiting = s.tw.waiting := by simp -implicitDefEqProofs [State.resync, apply_ite State.tw, apply_ite Twin.waiting]
@[simp] theorem State.cycles_tb_status (s : State) (n) : (s.cycles n).tb.status = s.tb.status := (rfl)
@[simp] theorem State.reach_tb_status (s : State) (t) : (s.reach t).tb.status = s.tb.status := (rfl)
@[simp] theorem State.prepare_tb_status (s : State) : s.prepare.tb.status = s.tb.status := by simp -implicitDefEqProofs [State.prepare, apply_ite State.tb, apply_ite TimeBase.status]
@[simp] theorem State.addItem_tw_waiting (s : State) (i) : (s.addItem i).tw.waiting = s.tw.waiting := by simp -implicitDefEqProofs [State.addItem]
@[simp] theorem State.swapItem_tw_waiting (s : State) (i) : (s.swapItem i).tw.waiting = s.tw.waiting := by simp -implicitDefEqProofs [State.swapItem]
@[simp] theorem State.ptStatusBit_tw_waiting (s : State) (p i b) : (s.ptStatusBit p i b).tw.waiting = s.tw.waiting := by unfold State.ptStatusBit; split <;> rfl
@[simp] theorem State.markDegraded_tw_waiting (s : State) (k) : (s.markDegraded k).tw.waiting = s.tw.waiting := by
  unfold State.markDegraded
  split <;> simp -implicitDefEqProofs
@[simp] theorem State.readmit_tw_waiting (s : State) (i) : (s.readmit i).tw.waiting = s.tw.waiting := by
  simp -implicitDefEqProofs only [State.readmit]
  split <;> simp -implicitDefEqProofs [apply_ite State.tw, apply_ite Twin.waiting]
@[simp] theorem State.readmitAll_tw_waiting (s : State) : s.readmitAll.tw.waiting = s.tw.waiting := by simp -implicitDefEqProofs [State.readmitAll]
@[simp] theorem State.prepare_tw_waiting (s : State) : s.prepare.tw.waiting = s.tw.waiting := by simp -implicitDefEqProofs [State.prepare, apply_ite State.tw, apply_ite Twin.waiting]
@[simp] theorem State.mirror_tw_mirror (s : State) (b) : (s.mirror b).tw.mirror = s.tw.mirror := by unfold State.mirror; split <;> rfl
@[simp] theorem State.addItem_tw_mirror (s : State) (i) : (s.addItem i).tw.mirror = s.tw.mirror := by simp -implicitDefEqProofs [State.addItem]
@[simp] theorem State.swapItem_tw_mirror (s : State) (i) : (s.swapItem i).tw.mirror = s.tw.mirror := by simp -implicitDefEqProofs [State.swapItem]
@[simp] theorem State.ptStatusBit_tw_mirror (s : State) (p i b) : (s.ptStatusBit p i b).tw.mirror = s.tw.mirror := by unfold State.ptStatusBit; split <;> rfl
@[simp] theorem State.markDegraded_tw_mirror (s : State) (k) : (s.markDegraded k).tw.mirror = s.tw.mirror := by
  unfold State.markDegraded
  split <;> simp -implicitDefEqProofs
@[simp] theorem State.readmit_tw_mirror (s : State) (i) : (s.readmit i).tw.mirror = s.tw.mirror := by
  simp -implicitDefEqProofs only [State.readmit]
  split <;> simp -implicitDefEqProofs [apply_ite State.tw, apply_ite Twin.mirror]
@[simp] theorem State.readmitAll_tw_mirror (s : State) : s.readmitAll.tw.mirror = s.tw.mirror := by simp -implicitDefEqProofs [State.readmitAll]
@[simp] theorem State.storeInterval_tw_mirror (s : State) (c short) : (s.storeInterval c short).tw.mirror = s.tw.mirror := (rfl)
@[simp] theorem State.openInterval_tw_mirror (s : State) (c) : (s.openInterval c).tw.mirror = s.tw.mirror := (rfl)
@[simp] theorem State.closeInterval_tw_mirror (s : State) (short) : (s.closeInterval short).tw.mirror = s.tw.mirror := by
  unfold State.closeInterval
  split <;> simp -implicitDefEqProofs
@[simp] theorem State.dropItems_tw_mirror (s : State) (p) : (s.dropItems p).tw.mirror = s.tw.mirror := by simp -implicitDefEqProofs [State.dropItems]
@[simp] theorem State.mapLaunch_tw_mirror (s : State) (part tag f) : (s.mapLaunch part tag f).tw.mirror = s.tw.mirror := (rfl)
@[simp] theorem State.endLaunch_tw_mirror (s : State) (l st) : (s.endLaunch l st).tw.mirror = s.tw.mirror := by simp -implicitDefEqProofs [State.endLaunch]
@[simp] theorem State.commitLaunch_tw_mirror (s : State) (l) : (s.commitLaunch l).tw.mirror = s.tw.mirror := by
  unfold State.commitLaunch
  split <;> simp -implicitDefEqProofs
@[simp] theorem State.emitPast_tw_mirror (s : State) (l) : (s.emitPast l).tw.mirror = s.tw.mirror := by simp -implicitDefEqProofs [State.emitPast, apply_ite State.tw, apply_ite Twin.mirror]
@[simp] theorem State.stepTime_tw_mirror (s : State) (t) : (s.stepTime t).tw.mirror = s.tw.mirror := by simp -implicitDefEqProofs [State.stepTime, apply_ite State.tw, apply_ite Twin.mirror]
@[simp] theorem State.prepare_tw_mirror (s : State) : s.prepare.tw.mirror = s.tw.mirror := by simp -implicitDefEqProofs [State.prepare, apply_ite State.tw, apply_ite Twin.mirror]
@[simp] theorem State.addItem_tw_activeOut (s : State) (i) : (s.addItem i).tw.activeOut = s.tw.activeOut := by simp -implicitDefEqProofs [State.addItem]
@[simp] theorem State.readmit_tw_activeOut (s : State) (i) : (s.readmit i).tw.activeOut = s.tw.activeOut := by
  simp -implicitDefEqProofs only [State.readmit]
  split <;> simp -implicitDefEqProofs [apply_ite State.tw, apply_ite Twin.activeOut]
@[simp] theorem State.readmitAll_tw_activeOut (s : State) : s.readmitAll.tw.activeOut = s.tw.activeOut := by simp -implicitDefEqProofs [State.readmitAll]
@[simp] theorem State.prepare_tw_activeOut (s : State) : s.prepare.tw.activeOut = s.tw.activeOut := by simp -implicitDefEqProofs [State.prepare, apply_ite State.tw, apply_ite Twin.activeOut]
@[simp] theorem State.answer_cfgValid (s : State) (r st payload) : (s.answer r st payload).cfgValid = s.cfgValid := by unfold State.answer; split <;> rfl
@[simp] theorem State.showWinter_cfgValid (s : State) : s.showWinter.cfgValid = s.cfgValid := (rfl)
@[simp] theorem State.showSafety_clk (s : State) (n) : (s.showSafety n).clk = s.clk := (rfl)
@[simp] theorem State.setSwitches_clk (s : State) (n) : (s.setSwitches n).clk = s.clk := (rfl)
@[simp] theorem State.setAllSwitches_clk (s : State) : s.setAllSwitches.clk = s.clk := by simp -implicitDefEqProofs [State.setAllSwitches]
@[simp] theorem State.showSafety_frz (s : State) (n) : (s.showSafety n).frz = s.frz := (rfl)
@[simp] theorem State.setSwitches_frz (s : State) (n) : (s.setSwitches n).frz = s.frz := (rfl)
@[simp] theorem State.setAllSwitches_frz (s : State) : s.setAllSwitches.frz = s.frz := by simp -implicitDefEqProofs [State.setAllSwitches]
@[simp] theorem State.showSafety_cfgValid (s : State) (n) : (s.showSafety n).cfgValid = s.cfgValid := (rfl)
@[simp] theorem State.setSwitches_cfgValid (s : State) (n) : (s.setSwitches n).cfgValid = s.cfgValid := (rfl)
@[simp] theorem State.setAllSwitches_cfgValid (s : State) : s.setAllSwitches.cfgValid = s.cfgValid := by simp -implicitDefEqProofs [State.setAllSwitches]
@[simp] theorem State.enter_cfgValid (s : State) (m trigger) : (s.enter m trigger).cfgValid = s.cfgValid := by simp -implicitDefEqProofs [State.enter]
@[simp] theorem State.timeMark_tb (s : State) : s.timeMark.tb = s.tb := by simp -implicitDefEqProofs [State.timeMark]
@[simp] theorem State.energyGap_tb (s : State) (msGap cause) : (s.energyGap msGap cause).tb = s.tb := by simp -implicitDefEqProofs [State.energyGap]
@[simp] theorem State.gapKnown_tb (s : State) : s.gapKnown.tb = s.tb := by
  unfold State.gapKnown
  split <;> simp -implicitDefEqProofs
@[simp] theorem State.flagIntervals_tb (s : State) (bit) : (s.flagIntervals bit).tb = s.tb := (rfl)
@[simp] theorem State.foldl_pts_items {α : Type} {g : State → α → State} (hg : ∀ s a, (g s a).pts.items = s.pts.items) (l : List α) (s : State) :
    (l.foldl g s).pts.items = s.pts.items := State.foldl_keeps (fun s => s.pts.items) hg l s
@[simp] theorem State.foldl_fst_pts_items {α β : Type} {g : State × β → α → State × β} (hg : ∀ r a, (g r a).1.pts.items = r.1.pts.items) (l : List α)
    (r : State × β) : (l.foldl g r).1.pts.items = r.1.pts.items := List.foldl_keeps (fun r => r.1.pts.items) hg l r
@[simp] theorem State.foldl_snd_pts_items {α β : Type} {g : β × State → α → β × State} (hg : ∀ r a, (g r a).2.pts.items = r.2.pts.items) (l : List α)
    (r : β × State) : (l.foldl g r).2.pts.items = r.2.pts.items := List.foldl_keeps (fun r => r.2.pts.items) hg l r
@[simp] theorem State.markSubs_pts_items (s : State) (p sub) : (s.markSubs p sub).pts.items = s.pts.items := (rfl)
@[simp] theorem State.setPtAux_pts_items (s : State) (p a) : (s.setPtAux p a).pts.items = s.pts.items := (rfl)
@[simp] theorem State.ptStatusBit_pts_items (s : State) (p i b) : (s.ptStatusBit p i b).pts.items = s.pts.items := by unfold State.ptStatusBit; split <;> rfl
@[simp] theorem State.markDegraded_pts_items (s : State) (k) : (s.markDegraded k).pts.items = s.pts.items := by
  unfold State.markDegraded
  split <;> simp -implicitDefEqProofs
@[simp] theorem State.foldl_pts_healthy {α : Type} {g : State → α → State} (hg : ∀ s a, (g s a).pts.healthy = s.pts.healthy) (l : List α) (s : State) :
    (l.foldl g s).pts.healthy = s.pts.healthy := State.foldl_keeps (fun s => s.pts.healthy) hg l s
@[simp] theorem State.foldl_fst_pts_healthy {α β : Type} {g : State × β → α → State × β} (hg : ∀ r a, (g r a).1.pts.healthy = r.1.pts.healthy) (l : List α)
    (r : State × β) : (l.foldl g r).1.pts.healthy = r.1.pts.healthy := List.foldl_keeps (fun r => r.1.pts.healthy) hg l r
@[simp] theorem State.foldl_snd_pts_healthy {α β : Type} {g : β × State → α → β × State} (hg : ∀ r a, (g r a).2.pts.healthy = r.2.pts.healthy) (l : List α)
    (r : β × State) : (l.foldl g r).2.pts.healthy = r.2.pts.healthy := List.foldl_keeps (fun r => r.2.pts.healthy) hg l r
@[simp] theorem State.markSubs_pts_healthy (s : State) (p sub) : (s.markSubs p sub).pts.healthy = s.pts.healthy := (rfl)
@[simp] theorem State.setPtAux_pts_healthy (s : State) (p a) : (s.setPtAux p a).pts.healthy = s.pts.healthy := (rfl)
@[simp] theorem State.ptStatusBit_pts_healthy (s : State) (p i b) : (s.ptStatusBit p i b).pts.healthy = s.pts.healthy := by unfold State.ptStatusBit; split <;> rfl
@[simp] theorem State.markDegraded_pts_healthy (s : State) (k) : (s.markDegraded k).pts.healthy = s.pts.healthy := by
  unfold State.markDegraded
  split <;> simp -implicitDefEqProofs
@[simp] theorem State.ptStatusBit_can (s : State) (p i b) : (s.ptStatusBit p i b).can = s.can := by unfold State.ptStatusBit; split <;> rfl
@[simp] theorem State.markDegraded_can (s : State) (k) : (s.markDegraded k).can = s.can := by
  unfold State.markDegraded
  split <;> simp -implicitDefEqProofs
@[simp] theorem State.setItem_pts_healthy (s : State) (i) : (s.setItem i).pts.healthy = s.pts.healthy := (rfl)
@[simp] theorem State.mirror_pts_items (s : State) (b) : (s.mirror b).pts.items = s.pts.items := by unfold State.mirror; split <;> rfl
@[simp] theorem State.mirror_pts_healthy (s : State) (b) : (s.mirror b).pts.healthy = s.pts.healthy := by unfold State.mirror; split <;> rfl
@[simp] theorem State.degrade_pts_healthy (s : State) (a i) : (s.degrade a i).pts.healthy = s.pts.healthy := by simp -implicitDefEqProofs [State.degrade]
@[simp] theorem State.degrade_mode (s : State) (a i) : (s.degrade a i).mode = s.mode := by simp -implicitDefEqProofs [State.degrade]
@[simp] theorem State.degrade_can (s : State) (a i) : (s.degrade a i).can = s.can := by simp -implicitDefEqProofs [State.degrade]
@[simp] theorem State.swapItem_pts_healthy (s : State) (i) : (s.swapItem i).pts.healthy = s.pts.healthy := by simp -implicitDefEqProofs [State.swapItem]
@[simp] theorem State.swapItem_can (s : State) (i) : (s.swapItem i).can = s.can := by simp -implicitDefEqProofs [State.swapItem]
@[simp] theorem State.undegrade_pts_healthy (s : State) (a i) : (s.undegrade a i).pts.healthy = s.pts.healthy := by simp -implicitDefEqProofs [State.undegrade]
@[simp] theorem State.undegrade_mode (s : State) (a i) : (s.undegrade a i).mode = s.mode := by simp -implicitDefEqProofs [State.undegrade]
@[simp] theorem State.undegrade_can (s : State) (a i) : (s.undegrade a i).can = s.can := by simp -implicitDefEqProofs [State.undegrade]
@[simp] theorem State.timeMark_pts_items (s : State) : s.timeMark.pts.items = s.pts.items := by simp -implicitDefEqProofs [State.timeMark]
@[simp] theorem State.flagIntervals_pts_items (s : State) (bit) : (s.flagIntervals bit).pts.items = s.pts.items := (rfl)
@[simp] theorem State.energyGap_pts_items (s : State) (msGap cause) : (s.energyGap msGap cause).pts.items = s.pts.items := by simp -implicitDefEqProofs [State.energyGap]
@[simp] theorem State.gapKnown_pts_items (s : State) : s.gapKnown.pts.items = s.pts.items := by
  unfold State.gapKnown
  split <;> simp -implicitDefEqProofs
@[simp] theorem State.setStatus_pts_items (s : State) (st) : (s.setStatus st).pts.items = s.pts.items := by simp -implicitDefEqProofs [State.setStatus, apply_ite State.pts, apply_ite Points.items]
@[simp] theorem State.changePort_pts_items (s : State) (q) : (s.changePort q).pts.items = s.pts.items := by simp -implicitDefEqProofs [State.changePort, apply_ite State.pts, apply_ite Points.items]
@[simp] theorem State.ptpLinkLost_pts_items (s : State) : s.ptpLinkLost.pts.items = s.pts.items := by simp -implicitDefEqProofs [State.ptpLinkLost, apply_ite State.pts, apply_ite Points.items]
@[simp] theorem State.timeMark_pts_healthy (s : State) : s.timeMark.pts.healthy = s.pts.healthy := by simp -implicitDefEqProofs [State.timeMark]
@[simp] theorem State.flagIntervals_pts_healthy (s : State) (bit) : (s.flagIntervals bit).pts.healthy = s.pts.healthy := (rfl)
@[simp] theorem State.energyGap_pts_healthy (s : State) (msGap cause) : (s.energyGap msGap cause).pts.healthy = s.pts.healthy := by simp -implicitDefEqProofs [State.energyGap]
@[simp] theorem State.gapKnown_pts_healthy (s : State) : s.gapKnown.pts.healthy = s.pts.healthy := by
  unfold State.gapKnown
  split <;> simp -implicitDefEqProofs
@[simp] theorem State.setStatus_pts_healthy (s : State) (st) : (s.setStatus st).pts.healthy = s.pts.healthy := by simp -implicitDefEqProofs [State.setStatus, apply_ite State.pts, apply_ite Points.healthy]
@[simp] theorem State.changePort_pts_healthy (s : State) (q) : (s.changePort q).pts.healthy = s.pts.healthy := by simp -implicitDefEqProofs [State.changePort, apply_ite State.pts, apply_ite Points.healthy]
@[simp] theorem State.ptpLinkLost_pts_healthy (s : State) : s.ptpLinkLost.pts.healthy = s.pts.healthy := by simp -implicitDefEqProofs [State.ptpLinkLost, apply_ite State.pts, apply_ite Points.healthy]
@[simp] theorem State.changePort_mode (s : State) (q) : (s.changePort q).mode = s.mode := by simp -implicitDefEqProofs [State.changePort, apply_ite State.mode]
@[simp] theorem State.ptpLinkLost_mode (s : State) : s.ptpLinkLost.mode = s.mode := by simp -implicitDefEqProofs [State.ptpLinkLost, apply_ite State.mode]
@[simp] theorem State.timeMark_can (s : State) : s.timeMark.can = s.can := by simp -implicitDefEqProofs [State.timeMark]
@[simp] theorem State.flagIntervals_can (s : State) (bit) : (s.flagIntervals bit).can = s.can := (rfl)
@[simp] theorem State.energyGap_can (s : State) (msGap cause) : (s.energyGap msGap cause).can = s.can := by simp -implicitDefEqProofs [State.energyGap]
@[simp] theorem State.gapKnown_can (s : State) : s.gapKnown.can = s.can := by
  unfold State.gapKnown
  split <;> simp -implicitDefEqProofs
@[simp] theorem State.setStatus_can (s : State) (st) : (s.setStatus st).can = s.can := by simp -implicitDefEqProofs [State.setStatus, apply_ite State.can]
@[simp] theorem State.changePort_can (s : State) (q) : (s.changePort q).can = s.can := by simp -implicitDefEqProofs [State.changePort, apply_ite State.can]
@[simp] theorem State.ptpLinkLost_can (s : State) : s.ptpLinkLost.can = s.can := by simp -implicitDefEqProofs [State.ptpLinkLost, apply_ite State.can]
@[simp] theorem State.moveItem_pts_healthy (a) (s : State) (i) : (s.moveItem a i).pts.healthy = s.pts.healthy := by
  unfold State.moveItem
  split <;> simp -implicitDefEqProofs
@[simp] theorem State.degradePathless_pts_healthy (s : State) (a) : (s.degradePathless a).pts.healthy = s.pts.healthy := by
  unfold State.degradePathless
  split <;> simp -implicitDefEqProofs
@[simp] theorem State.degradeOn_pts_healthy (a a1) (s : State) : (s.degradeOn a a1).pts.healthy = s.pts.healthy := by
  fun_induction State.degradeOn a a1 s <;> simp_all
@[simp] theorem State.shrink_pts_healthy (s : State) (a) : (s.shrink a).pts.healthy = s.pts.healthy := by simp -implicitDefEqProofs [State.shrink]
@[simp] theorem State.moveItem_mode (a) (s : State) (i) : (s.moveItem a i).mode = s.mode := by
  unfold State.moveItem
  split <;> simp -implicitDefEqProofs
@[simp] theorem State.degradePathless_mode (s : State) (a) : (s.degradePathless a).mode = s.mode := by
  unfold State.degradePathless
  split <;> simp -implicitDefEqProofs
@[simp] theorem State.degradeOn_mode (a a1) (s : State) : (s.degradeOn a a1).mode = s.mode := by
  fun_induction State.degradeOn a a1 s <;> simp_all
@[simp] theorem State.shrink_mode (s : State) (a) : (s.shrink a).mode = s.mode := by simp -implicitDefEqProofs [State.shrink]
@[simp] theorem State.moveItem_can (a) (s : State) (i) : (s.moveItem a i).can = s.can := by
  unfold State.moveItem
  split <;> simp -implicitDefEqProofs
@[simp] theorem State.degradePathless_can (s : State) (a) : (s.degradePathless a).can = s.can := by
  unfold State.degradePathless
  split <;> simp -implicitDefEqProofs
@[simp] theorem State.degradeOn_can (a a1) (s : State) : (s.degradeOn a a1).can = s.can := by
  fun_induction State.degradeOn a a1 s <;> simp_all
@[simp] theorem State.shrink_can (s : State) (a) : (s.shrink a).can = s.can := by simp -implicitDefEqProofs [State.shrink]
@[simp] theorem State.moveBack_pts_healthy (a) (s : State) (i) : (s.moveBack a i).pts.healthy = s.pts.healthy := by
  unfold State.moveBack
  split <;> simp -implicitDefEqProofs
@[simp] theorem State.restoreItem_pts_healthy (a) (s : State) (i) : (s.restoreItem a i).pts.healthy = s.pts.healthy := by simp -implicitDefEqProofs [State.restoreItem, apply_ite State.pts, apply_ite Points.healthy]
@[simp] theorem State.grow_pts_healthy (s : State) (a) : (s.grow a).pts.healthy = s.pts.healthy := by simp -implicitDefEqProofs [State.grow]
@[simp] theorem State.moveBack_mode (a) (s : State) (i) : (s.moveBack a i).mode = s.mode := by
  unfold State.moveBack
  split <;> simp -implicitDefEqProofs
@[simp] theorem State.restoreItem_mode (a) (s : State) (i) : (s.restoreItem a i).mode = s.mode := by simp -implicitDefEqProofs [State.restoreItem, apply_ite State.mode]
@[simp] theorem State.grow_mode (s : State) (a) : (s.grow a).mode = s.mode := by simp -implicitDefEqProofs [State.grow]
@[simp] theorem State.moveBack_can (a) (s : State) (i) : (s.moveBack a i).can = s.can := by
  unfold State.moveBack
  split <;> simp -implicitDefEqProofs
@[simp] theorem State.restoreItem_can (a) (s : State) (i) : (s.restoreItem a i).can = s.can := by simp -implicitDefEqProofs [State.restoreItem, apply_ite State.can]
@[simp] theorem State.grow_can (s : State) (a) : (s.grow a).can = s.can := by simp -implicitDefEqProofs [State.grow]
@[simp] theorem State.swapItem_get_DIE_TEMP (s : State) (i) : (s.swapItem i).get Oid.DIE_TEMP = s.get Oid.DIE_TEMP := by simp -implicitDefEqProofs (disch := solve | simp | (simp; omega)) [State.swapItem]
@[simp] theorem State.moveItem_get_DIE_TEMP (a) (s : State) (i) : (s.moveItem a i).get Oid.DIE_TEMP = s.get Oid.DIE_TEMP := by
  unfold State.moveItem
  split <;> simp -implicitDefEqProofs (disch := solve | simp | (simp; omega))
@[simp] theorem State.ptStatusBit_get_DIE_TEMP (s : State) (p i b) : (s.ptStatusBit p i b).get Oid.DIE_TEMP = s.get Oid.DIE_TEMP := by
  unfold State.ptStatusBit
  split <;> simp -implicitDefEqProofs (disch := solve | simp | (simp; omega))
@[simp] theorem State.markDegraded_get_DIE_TEMP (s : State) (k) : (s.markDegraded k).get Oid.DIE_TEMP = s.get Oid.DIE_TEMP := by
  unfold State.markDegraded
  split <;> simp -implicitDefEqProofs (disch := solve | simp | (simp; omega))
@[simp] theorem State.degrade_get_DIE_TEMP (s : State) (a i) : (s.degrade a i).get Oid.DIE_TEMP = s.get Oid.DIE_TEMP := by simp -implicitDefEqProofs (disch := solve | simp | (simp; omega)) [State.degrade]
@[simp] theorem State.degradePathless_get_DIE_TEMP (s : State) (a) : (s.degradePathless a).get Oid.DIE_TEMP = s.get Oid.DIE_TEMP := by
  unfold State.degradePathless
  split <;> simp -implicitDefEqProofs (disch := solve | simp | (simp; omega))
@[simp] theorem State.degradeOn_get_DIE_TEMP (a a1) (s : State) : (s.degradeOn a a1).get Oid.DIE_TEMP = s.get Oid.DIE_TEMP := by
  fun_induction State.degradeOn a a1 s <;> simp_all
@[simp] theorem State.shrink_get_DIE_TEMP (s : State) (a) : (s.shrink a).get Oid.DIE_TEMP = s.get Oid.DIE_TEMP := by simp -implicitDefEqProofs (disch := solve | simp | (simp; omega)) [State.shrink]
@[simp] theorem State.moveBack_get_DIE_TEMP (a) (s : State) (i) : (s.moveBack a i).get Oid.DIE_TEMP = s.get Oid.DIE_TEMP := by
  unfold State.moveBack
  split <;> simp -implicitDefEqProofs (disch := solve | simp | (simp; omega))
@[simp] theorem State.undegrade_get_DIE_TEMP (s : State) (a i) : (s.undegrade a i).get Oid.DIE_TEMP = s.get Oid.DIE_TEMP := by simp -implicitDefEqProofs (disch := solve | simp | (simp; omega)) [State.undegrade]
@[simp] theorem State.restoreItem_get_DIE_TEMP (a) (s : State) (i) : (s.restoreItem a i).get Oid.DIE_TEMP = s.get Oid.DIE_TEMP := by simp -implicitDefEqProofs (disch := solve | simp | (simp; omega)) [State.restoreItem, State.get_ite]
@[simp] theorem State.grow_get_DIE_TEMP (s : State) (a) : (s.grow a).get Oid.DIE_TEMP = s.get Oid.DIE_TEMP := by simp -implicitDefEqProofs (disch := solve | simp | (simp; omega)) [State.grow]
@[simp] theorem State.free_objs (s : State) : s.free.2.objs = s.objs := (rfl)
@[simp] theorem State.get_free (s : State) (key : Key) : s.free.2.get key = s.get key := State.get_congr (State.free_objs ..) key
@[simp] theorem State.nat_free (s : State) (key : Key) : s.free.2.nat key = s.nat key := State.nat_congr (State.free_objs ..) key
@[simp] theorem State.flag_free (s : State) (key : Key) : s.free.2.flag key = s.flag key := State.flag_congr (State.free_objs ..) key
@[simp] theorem State.thermalFault_get_DIE_TEMP (s : State) : s.thermalFault.get Oid.DIE_TEMP = s.get Oid.DIE_TEMP := by
  simp -implicitDefEqProofs only [State.thermalFault]
  repeat' split
  all_goals simp -implicitDefEqProofs (disch := solve | simp | (simp; omega)) [State.get_ite]
  all_goals rfl
@[simp] theorem State.enter_get_DIE_TEMP (s : State) (m trigger) : (s.enter m trigger).get Oid.DIE_TEMP = s.get Oid.DIE_TEMP := by
  simp -implicitDefEqProofs (disch := solve | simp | (simp; omega)) [State.enter, State.get_ite]
  all_goals rfl
@[simp] theorem State.dropItems_objs (s : State) (p) : (s.dropItems p).objs = s.objs := by simp -implicitDefEqProofs [State.dropItems]
@[simp] theorem State.get_dropItems (s : State) (p) (key : Key) : (s.dropItems p).get key = s.get key := State.get_congr (State.dropItems_objs ..) key
@[simp] theorem State.nat_dropItems (s : State) (p) (key : Key) : (s.dropItems p).nat key = s.nat key := State.nat_congr (State.dropItems_objs ..) key
@[simp] theorem State.flag_dropItems (s : State) (p) (key : Key) : (s.dropItems p).flag key = s.flag key := State.flag_congr (State.dropItems_objs ..) key
@[simp] theorem State.endTest_objs (s : State) (n) : (s.endTest n).objs = s.objs := by simp -implicitDefEqProofs [State.endTest]
@[simp] theorem State.get_endTest (s : State) (n) (key : Key) : (s.endTest n).get key = s.get key := State.get_congr (State.endTest_objs ..) key
@[simp] theorem State.nat_endTest (s : State) (n) (key : Key) : (s.endTest n).nat key = s.nat key := State.nat_congr (State.endTest_objs ..) key
@[simp] theorem State.flag_endTest (s : State) (n) (key : Key) : (s.endTest n).flag key = s.flag key := State.flag_congr (State.endTest_objs ..) key
@[simp] theorem State.calStop_get_DIE_TEMP (s : State) (i result) : (s.calStop i result).get Oid.DIE_TEMP = s.get Oid.DIE_TEMP := by
  simp -implicitDefEqProofs only [State.calStop]
  split <;> simp -implicitDefEqProofs (disch := solve | simp | (simp; omega)) [State.get_ite]
@[simp] theorem State.setLoopMode_get_DIE_TEMP (s : State) (c j m) : (s.setLoopMode c j m).get Oid.DIE_TEMP = s.get Oid.DIE_TEMP := by simp -implicitDefEqProofs (disch := solve | simp | (simp; omega)) [State.setLoopMode, State.get_ite]
@[simp] theorem State.closeLoop_get_DIE_TEMP (s : State) (c j) : (s.closeLoop c j).get Oid.DIE_TEMP = s.get Oid.DIE_TEMP := by simp -implicitDefEqProofs (disch := solve | simp | (simp; omega)) [State.closeLoop]
@[simp] theorem State.free_mode (s : State) : s.free.2.mode = s.mode := (rfl)
@[simp] theorem State.lineTestStart_mode (s : State) (k) : (s.lineTestStart k).mode = s.mode := (rfl)
@[simp] theorem State.selfTestStart_mode (s : State) : s.selfTestStart.mode = s.mode := (rfl)
@[simp] theorem State.testBegin_mode (s : State) (k addMw) : (s.testBegin k addMw).mode = s.mode := by
  unfold State.testBegin
  split <;> simp -implicitDefEqProofs
@[simp] theorem State.addItem_rcd (s : State) (i) : (s.addItem i).rcd = s.rcd := by simp -implicitDefEqProofs [State.addItem]
@[simp] theorem State.free_rcd (s : State) : s.free.2.rcd = s.rcd := (rfl)
@[simp] theorem State.lineTestStart_rcd (s : State) (k) : (s.lineTestStart k).rcd = s.rcd := (rfl)
@[simp] theorem State.selfTestStart_rcd (s : State) : s.selfTestStart.rcd = s.rcd := (rfl)
@[simp] theorem State.testBegin_rcd (s : State) (k addMw) : (s.testBegin k addMw).rcd = s.rcd := by
  unfold State.testBegin
  split <;> simp -implicitDefEqProofs
@[simp] theorem State.dropItems_testQueue (s : State) (p) : (s.dropItems p).testQueue = s.testQueue := by simp -implicitDefEqProofs [State.dropItems]
@[simp] theorem State.endTest_testQueue (s : State) (n) : (s.endTest n).testQueue = s.testQueue := by simp -implicitDefEqProofs [State.endTest]
@[simp] theorem State.calStop_testQueue (s : State) (i result) : (s.calStop i result).testQueue = s.testQueue := by
  simp -implicitDefEqProofs only [State.calStop]
  split <;> simp -implicitDefEqProofs [apply_ite State.testQueue]
@[simp] theorem State.free_testQueue (s : State) : s.free.2.testQueue = s.testQueue := (rfl)
@[simp] theorem State.setLoopMode_testQueue (s : State) (c j m) : (s.setLoopMode c j m).testQueue = s.testQueue := by simp -implicitDefEqProofs [State.setLoopMode, apply_ite State.testQueue]
@[simp] theorem State.closeLoop_testQueue (s : State) (c j) : (s.closeLoop c j).testQueue = s.testQueue := by simp -implicitDefEqProofs [State.closeLoop]
@[simp] theorem State.doorLoopsClose_testQueue (s : State) (k) : (s.doorLoopsClose k).testQueue = s.testQueue := by simp -implicitDefEqProofs [State.doorLoopsClose, apply_ite State.testQueue]
@[simp] theorem State.doorLoopsOpen_testQueue (s : State) (k) : (s.doorLoopsOpen k).testQueue = s.testQueue := by simp -implicitDefEqProofs [State.doorLoopsOpen, apply_ite State.testQueue]
@[simp] theorem State.doorEnter_testQueue (s : State) (k st) : (s.doorEnter k st).testQueue = s.testQueue := by simp -implicitDefEqProofs [State.doorEnter, apply_ite State.testQueue]
@[simp] theorem State.doorProfile_testQueue (s : State) (k target v a) : (s.doorProfile k target v a).testQueue = s.testQueue := (rfl)
@[simp] theorem State.doorStartOpen_testQueue (s : State) (k again) : (s.doorStartOpen k again).testQueue = s.testQueue := by simp -implicitDefEqProofs [State.doorStartOpen]
@[simp] theorem State.doorReopen_testQueue (s : State) (k) : (s.doorReopen k).testQueue = s.testQueue := by simp -implicitDefEqProofs [State.doorReopen]
@[simp] theorem State.doorOpen_testQueue (s : State) (k) : (s.doorOpen k).testQueue = s.testQueue := by simp -implicitDefEqProofs [State.doorOpen, apply_ite State.testQueue]
@[simp] theorem State.lineTestStop_testQueue (s : State) (k) : (s.lineTestStop k).testQueue = s.testQueue := by simp -implicitDefEqProofs [State.lineTestStop, apply_ite State.testQueue]
@[simp] theorem State.lineTestCut_testQueue (s : State) (k) : (s.lineTestCut k).testQueue = s.testQueue := by
  unfold State.lineTestCut
  split <;> simp -implicitDefEqProofs
@[simp] theorem State.selfTestEnd_testQueue (s : State) (st) : (s.selfTestEnd st).testQueue = s.testQueue := by simp -implicitDefEqProofs [State.selfTestEnd, apply_ite State.testQueue]
@[simp] theorem State.testCut_testQueue (s : State) (k) : (s.testCut k).testQueue = s.testQueue := by
  simp -implicitDefEqProofs only [State.testCut]
  repeat' split
  all_goals simp -implicitDefEqProofs [apply_ite State.testQueue]
@[simp] theorem State.endTest_mode (s : State) (n) : (s.endTest n).mode = s.mode := by simp -implicitDefEqProofs [State.endTest]
@[simp] theorem State.calStop_mode (s : State) (i result) : (s.calStop i result).mode = s.mode := by
  simp -implicitDefEqProofs only [State.calStop]
  split <;> simp -implicitDefEqProofs [apply_ite State.mode]
@[simp] theorem State.setLoopMode_mode (s : State) (c j m) : (s.setLoopMode c j m).mode = s.mode := by simp -implicitDefEqProofs [State.setLoopMode, apply_ite State.mode]
@[simp] theorem State.closeLoop_mode (s : State) (c j) : (s.closeLoop c j).mode = s.mode := by simp -implicitDefEqProofs [State.closeLoop]
@[simp] theorem State.doorLoopsClose_mode (s : State) (k) : (s.doorLoopsClose k).mode = s.mode := by simp -implicitDefEqProofs [State.doorLoopsClose, apply_ite State.mode]
@[simp] theorem State.doorLoopsOpen_mode (s : State) (k) : (s.doorLoopsOpen k).mode = s.mode := by simp -implicitDefEqProofs [State.doorLoopsOpen, apply_ite State.mode]
@[simp] theorem State.doorEnter_mode (s : State) (k st) : (s.doorEnter k st).mode = s.mode := by simp -implicitDefEqProofs [State.doorEnter, apply_ite State.mode]
@[simp] theorem State.doorProfile_mode (s : State) (k target v a) : (s.doorProfile k target v a).mode = s.mode := (rfl)
@[simp] theorem State.doorStartOpen_mode (s : State) (k again) : (s.doorStartOpen k again).mode = s.mode := by simp -implicitDefEqProofs [State.doorStartOpen]
@[simp] theorem State.doorReopen_mode (s : State) (k) : (s.doorReopen k).mode = s.mode := by simp -implicitDefEqProofs [State.doorReopen]
@[simp] theorem State.doorOpen_mode (s : State) (k) : (s.doorOpen k).mode = s.mode := by simp -implicitDefEqProofs [State.doorOpen, apply_ite State.mode]
@[simp] theorem State.lineTestStop_mode (s : State) (k) : (s.lineTestStop k).mode = s.mode := by simp -implicitDefEqProofs [State.lineTestStop, apply_ite State.mode]
@[simp] theorem State.lineTestCut_mode (s : State) (k) : (s.lineTestCut k).mode = s.mode := by
  unfold State.lineTestCut
  split <;> simp -implicitDefEqProofs
@[simp] theorem State.selfTestEnd_mode (s : State) (st) : (s.selfTestEnd st).mode = s.mode := by simp -implicitDefEqProofs [State.selfTestEnd, apply_ite State.mode]
@[simp] theorem State.testCut_mode (s : State) (k) : (s.testCut k).mode = s.mode := by
  simp -implicitDefEqProofs only [State.testCut]
  repeat' split
  all_goals simp -implicitDefEqProofs [apply_ite State.mode]
@[simp] theorem State.dropItems_rcd (s : State) (p) : (s.dropItems p).rcd = s.rcd := by simp -implicitDefEqProofs [State.dropItems]
@[simp] theorem State.endTest_rcd (s : State) (n) : (s.endTest n).rcd = s.rcd := by simp -implicitDefEqProofs [State.endTest]
@[simp] theorem State.free_testsOn (s : State) : s.free.2.testsOn = s.testsOn := (rfl)
@[simp] theorem State.lineTestStart_testsOn (s : State) (k) : (s.lineTestStart k).testsOn = s.testsOn := (rfl)
@[simp] theorem State.lineTestStart_testQueue (s : State) (k) : (s.lineTestStart k).testQueue = s.testQueue := (rfl)
@[simp] theorem State.free_pts (s : State) : s.free.2.pts = s.pts := (rfl)
@[simp] theorem State.lineTestStart_pts (s : State) (k) : (s.lineTestStart k).pts = s.pts := (rfl)
@[simp] theorem State.selfTestStart_testsOn (s : State) : s.selfTestStart.testsOn = s.testsOn := (rfl)
@[simp] theorem State.selfTestStart_testQueue (s : State) : s.selfTestStart.testQueue = s.testQueue := (rfl)
@[simp] theorem State.selfTestStart_pts (s : State) : s.selfTestStart.pts = s.pts := (rfl)
@[simp] theorem State.swapItem_testsOn (s : State) (i) : (s.swapItem i).testsOn = s.testsOn := by simp -implicitDefEqProofs [State.swapItem]
@[simp] theorem State.moveItem_testsOn (a) (s : State) (i) : (s.moveItem a i).testsOn = s.testsOn := by
  unfold State.moveItem
  split <;> simp -implicitDefEqProofs
@[simp] theorem State.ptStatusBit_testsOn (s : State) (p i b) : (s.ptStatusBit p i b).testsOn = s.testsOn := by unfold State.ptStatusBit; split <;> rfl
@[simp] theorem State.markDegraded_testsOn (s : State) (k) : (s.markDegraded k).testsOn = s.testsOn := by
  unfold State.markDegraded
  split <;> simp -implicitDefEqProofs
@[simp] theorem State.degrade_testsOn (s : State) (a i) : (s.degrade a i).testsOn = s.testsOn := by simp -implicitDefEqProofs [State.degrade]
@[simp] theorem State.degradePathless_testsOn (s : State) (a) : (s.degradePathless a).testsOn = s.testsOn := by
  unfold State.degradePathless
  split <;> simp -implicitDefEqProofs
@[simp] theorem State.degradeOn_testsOn (a a1) (s : State) : (s.degradeOn a a1).testsOn = s.testsOn := by
  fun_induction State.degradeOn a a1 s <;> simp_all
@[simp] theorem State.shrink_testsOn (s : State) (a) : (s.shrink a).testsOn = s.testsOn := by simp -implicitDefEqProofs [State.shrink]
@[simp] theorem State.moveBack_testsOn (a) (s : State) (i) : (s.moveBack a i).testsOn = s.testsOn := by
  unfold State.moveBack
  split <;> simp -implicitDefEqProofs
@[simp] theorem State.undegrade_testsOn (s : State) (a i) : (s.undegrade a i).testsOn = s.testsOn := by simp -implicitDefEqProofs [State.undegrade]
@[simp] theorem State.restoreItem_testsOn (a) (s : State) (i) : (s.restoreItem a i).testsOn = s.testsOn := by simp -implicitDefEqProofs [State.restoreItem, apply_ite State.testsOn]
@[simp] theorem State.grow_testsOn (s : State) (a) : (s.grow a).testsOn = s.testsOn := by simp -implicitDefEqProofs [State.grow]
@[simp] theorem State.spoilTrips_testsOn (s : State) : s.spoilTrips.testsOn = s.testsOn := (rfl)
@[simp] theorem State.enter_testsOn (s : State) (m trigger) : (s.enter m trigger).testsOn = s.testsOn := by simp -implicitDefEqProofs [State.enter]
@[simp] theorem State.release_testsOn (s : State) (cause) : (s.release cause).testsOn = s.testsOn := by simp -implicitDefEqProofs [State.release, apply_ite State.testsOn]
@[simp] theorem State.releaseIfHealthy_testsOn (s : State) (cause) : (s.releaseIfHealthy cause).testsOn = s.testsOn := by
  unfold State.releaseIfHealthy
  split <;> simp -implicitDefEqProofs
@[simp] theorem State.thermalFault_testsOn (s : State) : s.thermalFault.testsOn = s.testsOn := by
  unfold State.thermalFault
  split <;> simp -implicitDefEqProofs
@[simp] theorem State.dieTemp_testsOn (s : State) (t) : (s.dieTemp t).testsOn = s.testsOn := by simp -implicitDefEqProofs [State.dieTemp, apply_ite State.testsOn]
@[simp] theorem State.swapItem_testQueue (s : State) (i) : (s.swapItem i).testQueue = s.testQueue := by simp -implicitDefEqProofs [State.swapItem]
@[simp] theorem State.moveItem_testQueue (a) (s : State) (i) : (s.moveItem a i).testQueue = s.testQueue := by
  unfold State.moveItem
  split <;> simp -implicitDefEqProofs
@[simp] theorem State.ptStatusBit_testQueue (s : State) (p i b) : (s.ptStatusBit p i b).testQueue = s.testQueue := by unfold State.ptStatusBit; split <;> rfl
@[simp] theorem State.markDegraded_testQueue (s : State) (k) : (s.markDegraded k).testQueue = s.testQueue := by
  unfold State.markDegraded
  split <;> simp -implicitDefEqProofs
@[simp] theorem State.degrade_testQueue (s : State) (a i) : (s.degrade a i).testQueue = s.testQueue := by simp -implicitDefEqProofs [State.degrade]
@[simp] theorem State.degradePathless_testQueue (s : State) (a) : (s.degradePathless a).testQueue = s.testQueue := by
  unfold State.degradePathless
  split <;> simp -implicitDefEqProofs
@[simp] theorem State.degradeOn_testQueue (a a1) (s : State) : (s.degradeOn a a1).testQueue = s.testQueue := by
  fun_induction State.degradeOn a a1 s <;> simp_all
@[simp] theorem State.shrink_testQueue (s : State) (a) : (s.shrink a).testQueue = s.testQueue := by simp -implicitDefEqProofs [State.shrink]
@[simp] theorem State.moveBack_testQueue (a) (s : State) (i) : (s.moveBack a i).testQueue = s.testQueue := by
  unfold State.moveBack
  split <;> simp -implicitDefEqProofs
@[simp] theorem State.undegrade_testQueue (s : State) (a i) : (s.undegrade a i).testQueue = s.testQueue := by simp -implicitDefEqProofs [State.undegrade]
@[simp] theorem State.restoreItem_testQueue (a) (s : State) (i) : (s.restoreItem a i).testQueue = s.testQueue := by simp -implicitDefEqProofs [State.restoreItem, apply_ite State.testQueue]
@[simp] theorem State.grow_testQueue (s : State) (a) : (s.grow a).testQueue = s.testQueue := by simp -implicitDefEqProofs [State.grow]
@[simp] theorem State.spoilTrips_testQueue (s : State) : s.spoilTrips.testQueue = s.testQueue := (rfl)
@[simp] theorem State.enter_testQueue (s : State) (m trigger) : (s.enter m trigger).testQueue = s.testQueue := by simp -implicitDefEqProofs [State.enter]
@[simp] theorem State.release_testQueue (s : State) (cause) : (s.release cause).testQueue = s.testQueue := by simp -implicitDefEqProofs [State.release, apply_ite State.testQueue]
@[simp] theorem State.releaseIfHealthy_testQueue (s : State) (cause) : (s.releaseIfHealthy cause).testQueue = s.testQueue := by
  unfold State.releaseIfHealthy
  split <;> simp -implicitDefEqProofs
@[simp] theorem State.thermalFault_testQueue (s : State) : s.thermalFault.testQueue = s.testQueue := by
  unfold State.thermalFault
  split <;> simp -implicitDefEqProofs
@[simp] theorem State.dieTemp_testQueue (s : State) (t) : (s.dieTemp t).testQueue = s.testQueue := by simp -implicitDefEqProofs [State.dieTemp, apply_ite State.testQueue]
@[simp] theorem State.doorLoopsClose_get_DIE_TEMP (s : State) (k) : (s.doorLoopsClose k).get Oid.DIE_TEMP = s.get Oid.DIE_TEMP := by simp -implicitDefEqProofs (disch := solve | simp [State.get_ite] | (simp [State.get_ite]; omega)) [State.doorLoopsClose]
@[simp] theorem State.doorLoopsOpen_get_DIE_TEMP (s : State) (k) : (s.doorLoopsOpen k).get Oid.DIE_TEMP = s.get Oid.DIE_TEMP := by simp -implicitDefEqProofs (disch := solve | simp (disch := solve | simp | (simp; omega)) [State.get_ite] | (simp [State.get_ite]; omega)) [State.doorLoopsOpen]
@[simp] theorem State.doorEnter_get_DIE_TEMP (s : State) (k st) : (s.doorEnter k st).get Oid.DIE_TEMP = s.get Oid.DIE_TEMP := by simp -implicitDefEqProofs (disch := solve | simp (disch := solve | simp | (simp; omega)) [State.get_ite] | (simp [State.get_ite]; omega)) [State.doorEnter, State.get_ite]
@[simp] theorem State.doorProfile_objs (s : State) (k target v a) : (s.doorProfile k target v a).objs = s.objs := (rfl)
@[simp] theorem State.get_doorProfile (s : State) (k target v a) (key : Key) : (s.doorProfile k target v a).get key = s.get key := State.get_congr (State.doorProfile_objs ..) key
@[simp] theorem State.nat_doorProfile (s : State) (k target v a) (key : Key) : (s.doorProfile k target v a).nat key = s.nat key := State.nat_congr (State.doorProfile_objs ..) key
@[simp] theorem State.flag_doorProfile (s : State) (k target v a) (key : Key) : (s.doorProfile k target v a).flag key = s.flag key := State.flag_congr (State.doorProfile_objs ..) key
@[simp] theorem State.doorStartOpen_get_DIE_TEMP (s : State) (k again) : (s.doorStartOpen k again).get Oid.DIE_TEMP = s.get Oid.DIE_TEMP := by
  simp -implicitDefEqProofs (disch := solve | simp (disch := solve | simp | (simp; omega)) [State.get_ite] | (simp [State.get_ite]; omega)) [State.doorStartOpen, State.get_ite]
  all_goals rfl
@[simp] theorem State.doorReopen_get_DIE_TEMP (s : State) (k) : (s.doorReopen k).get Oid.DIE_TEMP = s.get Oid.DIE_TEMP := by
  simp -implicitDefEqProofs (disch := solve | simp (disch := solve | simp | (simp; omega)) [State.get_ite] | (simp [State.get_ite]; omega)) [State.doorReopen, State.get_ite]
  all_goals rfl
@[simp] theorem State.doorOpen_get_DIE_TEMP (s : State) (k) : (s.doorOpen k).get Oid.DIE_TEMP = s.get Oid.DIE_TEMP := by simp -implicitDefEqProofs (disch := solve | simp (disch := solve | simp | (simp; omega)) [State.get_ite] | (simp [State.get_ite]; omega)) [State.doorOpen, State.get_ite]
@[simp] theorem State.lineTestStop_get_DIE_TEMP (s : State) (k) : (s.lineTestStop k).get Oid.DIE_TEMP = s.get Oid.DIE_TEMP := by simp -implicitDefEqProofs (disch := solve | simp (disch := solve | simp | (simp; omega)) [State.get_ite] | (simp [State.get_ite]; omega)) [State.lineTestStop, State.get_ite]
@[simp] theorem State.lineTestCut_get_DIE_TEMP (s : State) (k) : (s.lineTestCut k).get Oid.DIE_TEMP = s.get Oid.DIE_TEMP := by
  unfold State.lineTestCut
  split <;> simp -implicitDefEqProofs (disch := solve | simp (disch := solve | simp | (simp; omega)) [State.get_ite] | (simp [State.get_ite]; omega))
@[simp] theorem State.calStop_rcd (s : State) (i result) : (s.calStop i result).rcd = s.rcd := by
  simp -implicitDefEqProofs only [State.calStop]
  split <;> simp -implicitDefEqProofs [apply_ite State.rcd]
@[simp] theorem State.addItem_testsOn (s : State) (i) : (s.addItem i).testsOn = s.testsOn := by simp -implicitDefEqProofs [State.addItem]
@[simp] theorem State.addItem_testQueue (s : State) (i) : (s.addItem i).testQueue = s.testQueue := by simp -implicitDefEqProofs [State.addItem]
@[simp] theorem State.addItem_met (s : State) (i) : (s.addItem i).met = s.met := by simp -implicitDefEqProofs [State.addItem]
@[simp] theorem State.dropItems_testsOn (s : State) (p) : (s.dropItems p).testsOn = s.testsOn := by simp -implicitDefEqProofs [State.dropItems]
@[simp] theorem State.dropItems_met (s : State) (p) : (s.dropItems p).met = s.met := by simp -implicitDefEqProofs [State.dropItems]
@[simp] theorem State.flagIntervals_objs (s : State) (bit) : (s.flagIntervals bit).objs = s.objs := (rfl)
@[simp] theorem State.get_flagIntervals (s : State) (bit) (key : Key) : (s.flagIntervals bit).get key = s.get key := State.get_congr (State.flagIntervals_objs ..) key
@[simp] theorem State.nat_flagIntervals (s : State) (bit) (key : Key) : (s.flagIntervals bit).nat key = s.nat key := State.nat_congr (State.flagIntervals_objs ..) key
@[simp] theorem State.flag_flagIntervals (s : State) (bit) (key : Key) : (s.flagIntervals bit).flag key = s.flag key := State.flag_congr (State.flagIntervals_objs ..) key
@[simp] theorem State.timeMark_testsOn (s : State) : s.timeMark.testsOn = s.testsOn := by simp -implicitDefEqProofs [State.timeMark]
@[simp] theorem State.flagIntervals_testsOn (s : State) (bit) : (s.flagIntervals bit).testsOn = s.testsOn := (rfl)
@[simp] theorem State.energyGap_testsOn (s : State) (msGap cause) : (s.energyGap msGap cause).testsOn = s.testsOn := by simp -implicitDefEqProofs [State.energyGap]
@[simp] theorem State.gapKnown_testsOn (s : State) : s.gapKnown.testsOn = s.testsOn := by
  unfold State.gapKnown
  split <;> simp -implicitDefEqProofs
@[simp] theorem State.setStatus_testsOn (s : State) (st) : (s.setStatus st).testsOn = s.testsOn := by simp -implicitDefEqProofs [State.setStatus, apply_ite State.testsOn]
@[simp] theorem State.changePort_testsOn (s : State) (q) : (s.changePort q).testsOn = s.testsOn := by simp -implicitDefEqProofs [State.changePort, apply_ite State.testsOn]
@[simp] theorem State.ptpLinkLost_testsOn (s : State) : s.ptpLinkLost.testsOn = s.testsOn := by simp -implicitDefEqProofs [State.ptpLinkLost, apply_ite State.testsOn]
@[simp] theorem State.spoilTrips_pts_healthy (s : State) : s.spoilTrips.pts.healthy = s.pts.healthy := (rfl)
@[simp] theorem State.enter_pts_healthy (s : State) (m trigger) : (s.enter m trigger).pts.healthy = s.pts.healthy := by simp -implicitDefEqProofs [State.enter]
@[simp] theorem State.release_pts_healthy (s : State) (cause) : (s.release cause).pts.healthy = s.pts.healthy := by simp -implicitDefEqProofs [State.release, apply_ite State.pts, apply_ite Points.healthy]
@[simp] theorem State.releaseIfHealthy_pts_healthy (s : State) (cause) : (s.releaseIfHealthy cause).pts.healthy = s.pts.healthy := by
  unfold State.releaseIfHealthy
  split <;> simp -implicitDefEqProofs
@[simp] theorem State.thermalFault_pts_healthy (s : State) : s.thermalFault.pts.healthy = s.pts.healthy := by
  unfold State.thermalFault
  split <;> simp -implicitDefEqProofs
@[simp] theorem State.dieTemp_pts_healthy (s : State) (t) : (s.dieTemp t).pts.healthy = s.pts.healthy := by simp -implicitDefEqProofs [State.dieTemp, apply_ite State.pts, apply_ite Points.healthy]
@[simp] theorem State.spoilTrips_can (s : State) : s.spoilTrips.can = s.can := (rfl)
@[simp] theorem State.enter_can (s : State) (m trigger) : (s.enter m trigger).can = s.can := by simp -implicitDefEqProofs [State.enter]
@[simp] theorem State.release_can (s : State) (cause) : (s.release cause).can = s.can := by simp -implicitDefEqProofs [State.release, apply_ite State.can]
@[simp] theorem State.releaseIfHealthy_can (s : State) (cause) : (s.releaseIfHealthy cause).can = s.can := by
  unfold State.releaseIfHealthy
  split <;> simp -implicitDefEqProofs
@[simp] theorem State.free_can (s : State) : s.free.2.can = s.can := (rfl)
@[simp] theorem State.thermalFault_can (s : State) : s.thermalFault.can = s.can := by
  unfold State.thermalFault
  split <;> simp -implicitDefEqProofs
@[simp] theorem State.dieTemp_can (s : State) (t) : (s.dieTemp t).can = s.can := by simp -implicitDefEqProofs [State.dieTemp, apply_ite State.can]

end Sys2Proof.Machine
end

section
/-! The planned handover (R575, R576): HANDOVER_REQ as a host write, the plan's timeout and its ABORT. -/

namespace Sys2Proof.Machine

/-! ### HANDOVER_REQ as a host write -/

/-- The write of HANDOVER_REQ with 1. -/
def handoverEntry : WEntry := { oid := Oid.HANDOVER_REQ.oid, data := [1] }

/-- The row of HANDOVER_REQ (R41). -/
def handoverRow : ObjRow := ⟨0x00000120, [], .u8, .rwp, .num 0, true, .oneOf [1], .request⟩

theorem lookup_handover : lookup Oid.HANDOVER_REQ.oid = some (handoverRow, []) :=
  show lookup 0x00000120 = some (handoverRow, []) from rfl

/-- A planned handover starts on an ACTIVE module with a healthy standby of summary 0 and no plan (R575). -/
def State.mayPlan (s : State) : Bool :=
  s.mode == .active && s.healthyStandby && s.nat Oid.TW_TWIN_SUMMARY == 0 && s.tw.plan.isNone

theorem State.checkWrite_handover (s : State) (n : Nat) : s.checkWrite (hostRights n) handoverEntry = need s.mayPlan .busy := by
  have hcode : s.codeCheck (hostRights n) handoverRow [] = none := by simp [State.codeCheck, handoverRow, hostRights, need]
  rw [s.checkWrite_plain handoverEntry (hostRights n) handoverRow [] rfl lookup_handover rfl (by decide) hcode (by decide) rfl rfl rfl
    (by decide) (by decide) (fun h => absurd h (by decide))]
  rfl

theorem handoverEntry_no_door (o : ObjRow) (ix : List Nat) (h : lookup handoverEntry.oid = some (o, ix)) (hbase : o.base = 0x20000100) :
    leNat handoverEntry.data ≠ 1 := by
  obtain rfl : handoverRow = o := congrArg Prod.fst (Option.some.inj (lookup_handover.symm.trans h))
  exact absurd hbase (by decide)

theorem exec_handoverReq (ses : Fin 64) (req : BitVec 32) (s : State) :
    exec (.handoverReq ses req) s = .next (s.hostRow ses.val req handoverEntry) := rfl

/-- A write of an open session that waits behind no other is checked and entered in the state where its frame has been seen (R181, R193). -/
theorem State.hostRow_eq_hostWrite (s : State) (n : Nat) (req : BitVec 32) (e : WEntry) (hserv : s.serving = true) (hopen : 2 ≤ (s.ses n).state)
    (hnone : s.NoneWaits) : s.hostRow n req e = ((s.seen n).hostWrite { s.writeReq n req e with pos := 0 } false).drain := by
  obtain ⟨hwaits, hheld, hslow, haborts, hlater, -, hplan⟩ := hnone
  have hout : (s.seen n).outstanding n = 0 := by
    simp [State.outstanding, State.seen, State.setSes, State.start, hwaits, hheld, hslow, haborts, hlater, hplan]
  have hbehind : (s.seen n).behind n (.write e) = false := by
    simp [State.behind, State.cmdWaits, State.seen, State.setSes, State.start, hwaits, hheld, hslow, hlater]
  have hreq : (s.seen n).pdpReq n 0x11 req [e] = { s.writeReq n req e with pos := 0 } := by
    simp [State.pdpReq, State.writeReq, State.ses_seen]
  have hses : s.start.ses n = s.ses n := rfl
  have hserv' : s.start.serving = true := hserv
  have hseen : s.start.setSes n { s.ses n with lastFrame := s.start.clk } = s.seen n := rfl
  have hne : (s.ses n).state ≠ 0 := by omega
  have hne1 : (s.ses n).state ≠ 1 := by omega
  unfold State.hostRow State.request
  simp only [hses, hserv', hseen, hne, hne1, hout, hbehind, Bool.not_true, Bool.false_eq_true, or_false, if_false,
    show ¬ 32 ≤ 0 by omega, State.serve, hreq]

/-- The checks of a request of one write that waits behind none: those of its object (R181, R185). -/
theorem State.checkRequest_one (s : State) (n : Nat) (req : BitVec 32) (e : WEntry) (hpart : (s.ses n).part = 0) (hwaits : s.acc.waits = [])
    (hoid : e.oid < 0xF0000000) (hj : s.acc.journal.length < 65536) (hc : (s.seen n).checkWrite (hostRights n) e = none) :
    (s.seen n).checkRequest { s.writeReq n req e with pos := 0 } false = none := by
  have hproj : (s.seen n).projected = s.seen n := by
    have hw : (s.seen n).acc.waits = [] := hwaits
    simp [State.projected, hw]
  have hrights : ({ s.writeReq n req e with pos := 0 } : PendReq).rights = hostRights n := by
    simp [PendReq.rights, State.writeReq, hostRights, hpart]
  have hb : ∀ t : State, t.broadcast e.oid = none := fun t => t.broadcast_none e.oid hoid
  have hfit : (s.seen n).journalFits [e] = true := by
    have h1 := (s.seen n).journalOf_length e
    have h2 : (s.seen n).acc.journal = s.acc.journal := rfl
    simp [State.journalFits, h2]
    omega
  unfold State.checkRequest
  rw [hproj, hrights]
  simp [State.checkEntries, State.checkEntry, hb, hc, andThen, need, hfit]

theorem isTxbCtrl_handover : isTxbCtrl Oid.HANDOVER_REQ.oid = false := by
  rw [isTxbCtrl, lookup_handover]
  rfl

/-- HANDOVER_REQ starts the plan, in a module that shows no fault of memory there. -/
theorem State.applyObject_handover (s : State) (n : Nat) :
    s.applyObject (hostRights n) handoverEntry = (s.mended Oid.HANDOVER_REQ.oid).planStart := by
  have hf : findObject handoverEntry.oid = some (handoverRow, []) := by
    simp [findObject, show lookup handoverEntry.oid = _ from lookup_handover]
    rfl
  have hwd : (s.mended handoverEntry.oid).withDefault handoverEntry = handoverEntry := by
    simp only [State.withDefault, show lookup handoverEntry.oid = _ from lookup_handover]
    rfl
  unfold State.applyObject
  simp only [hwd, hf]
  rfl

theorem State.applyEntries_handover (s : State) (n : Nat) :
    s.applyEntries (hostRights n) [handoverEntry] =
      { (s.mended Oid.HANDOVER_REQ.oid).planStart with
        acc := { s.acc with journal := s.acc.journal ++ s.journalOf handoverEntry } } := by
  have hb : s.broadcast handoverEntry.oid = none := s.broadcast_none _ (by decide)
  simp only [State.applyEntries, State.applyEntry, List.foldl_cons, List.foldl_nil, hb, s.applyObject_handover n]
  simp [State.planStart]

/-- A request for a planned handover that passes its checks starts the plan and waits for its end (R575). -/
theorem State.enterRequest_handover (s : State) (n : Nat) (r : PendReq) (hr : r.entries = [handoverEntry]) (hq : r.rights = hostRights n) :
    ∃ t, s.enterRequest r = t ∧ t.tw = { s.tw with plan := some (s.clk, 0), planReq := some { r with pos := s.acc.pos } } ∧ t.mode = s.mode
      ∧ t.objs = s.objs ∧ t.blobs = s.blobs ∧ t.rcd = s.rcd ∧ t.emits = s.emits := by
  have hasks (p : Nat) : ({ r with pos := p } : PendReq).asksPlan = true := by simp [PendReq.asksPlan, hr, handoverEntry]
  have hrights (p : Nat) : ({ r with pos := p } : PendReq).rights = hostRights n := hq
  have htx : isTxbCtrl handoverEntry.oid = false := isTxbCtrl_handover
  have hdraw (u : State) : r.entries.foldl State.drawPhase ([], u) = (r.entries, u) := by simp [hr, State.drawPhase, htx]
  refine ⟨_, rfl, ?_⟩
  unfold State.enterRequest
  simp only [hasks, show r.entries.length = 1 by rw [hr]; rfl, and_self, if_true]
  unfold State.commitReq
  simp only [hdraw, hrights]
  rw [hr, State.applyEntries_handover]
  simp only [show ({ r with pos := s.acc.pos, entries := [handoverEntry] } : PendReq) = { r with pos := s.acc.pos } by rw [← hr], hasks]
  simp [State.planStart]

section

variable {s : State} (n : Nat) (req : BitVec 32)

/-- Without a healthy standby HANDOVER_REQ is refused with BUSY (R575). -/
theorem State.hostRow_handover_refused (h : s.Ready n) :
    s.hostRow n req handoverEntry = (s.seen n).emit (.resp n 0x11 req Status.busy.code []) := by
  have hcheck : (s.seen n).checkWrite (hostRights n) handoverEntry = refuse .busy := by
    obtain ⟨-, -, -, -, -, hstandby, -⟩ := h
    simp [State.checkWrite_handover, State.mayPlan, hstandby, need]
  exact s.hostRow_refused n req handoverEntry _ h (by decide) hcheck rfl handoverEntry_no_door

/-- With one it starts the plan, and its answer waits for the plan's end (R575). -/
theorem State.hostRow_handover_accepted (hserv : s.serving = true) (hmode : s.mode = .active) (hopen : 2 ≤ (s.ses n).state)
    (hpart : (s.ses n).part = 0) (hnone : s.NoneWaits) (hstandby : s.healthyStandby = true) (hsummary : s.nat Oid.TW_TWIN_SUMMARY = 0)
    (hquiet : s.emits = []) (hj : s.acc.journal.length < 65536) :
    ∃ t, s.hostRow n req handoverEntry = t ∧ t.tw.plan = some (s.clk, 0) ∧ t.tw.activeOut = s.tw.activeOut ∧ t.mode = .active
      ∧ (∃ r, t.tw.planReq = some r ∧ r.ses = n ∧ r.req = req) ∧ t.objs = s.objs ∧ t.blobs = s.blobs ∧ t.rcd = s.rcd := by
  have ⟨hwaits, _, _, _, _, hplan, _⟩ := hnone
  have hcheck : (s.seen n).checkWrite (hostRights n) handoverEntry = none := by
    simp [State.checkWrite_handover, State.mayPlan, hmode, hstandby, hsummary, hplan, need]
  have hreq := s.checkRequest_one n req handoverEntry hpart hwaits (by decide) hj hcheck
  obtain ⟨t, henter, htw, htmode, hobjs, hblobs, hrcd, hemits⟩ :=
    (s.seen n).enterRequest_handover n { s.writeReq n req handoverEntry with pos := 0 } rfl (by simp [PendReq.rights, State.writeReq, hostRights, hpart])
  have hnote : (s.seen n).noteRequest { s.writeReq n req handoverEntry with pos := 0 } none = s.seen n := by
    simp [State.noteRequest, show lookup handoverEntry.oid = _ from lookup_handover, handoverRow]
  have hwrite : (s.seen n).hostWrite { s.writeReq n req handoverEntry with pos := 0 } false = t := by
    simp only [State.hostWrite, State.seen_mode, hmode, hreq, hnote, henter, reduceCtorEq, if_false]
  refine ⟨t, ?_, by simp [htw], by simp [htw], htmode.trans hmode, ?_, hobjs, hblobs, hrcd⟩
  · rw [s.hostRow_eq_hostWrite n req handoverEntry hserv hopen hnone, hwrite, State.drain, hemits]
    simp [hquiet]
  · exact ⟨_, congrArg (·.planReq) htw, rfl, rfl⟩

end

/-! ### What the plan held goes on -/

/-- Where no request was held and none waits, the end of a plan changes nothing else (R575). -/
theorem State.heldProceed_of_none (s : State) (hheld : s.acc.held = []) (hwaits : s.acc.waits = []) :
    s.heldProceed = { s with tw := { s.tw with plan := none, planReq := none } } := by
  have hacc : s.acc = { s.acc with held := s.acc.held, waits := s.acc.waits } := rfl
  rw [hheld, hwaits] at hacc
  unfold State.heldProceed
  simp only [hheld, hwaits, List.append_nil]
  split
  · rw [← hacc]
  · simp only [State.commitWaits, List.filter_nil, List.foldl_nil]
    rw [← hacc]

theorem State.resume_of_none (s : State) (h : s.acc.later = []) : s.resume = s := by simp [State.resume, h, State.runLater]

theorem State.drain_of_quiet (s : State) (h : s.emits = []) : s.drain = s := by simp [State.drain, h]

/-! ### The plan's timeout (R575), and its ABORT (R576) -/

theorem State.answer_busy_frame (s : State) (r : PendReq) (st : Nat) (h : r.route = .pdp) :
    s.answer r st [] = s.emit (.resp r.ses r.op r.req st []) := by simp [State.answer, h]

theorem exec_handoverConfirmTimeout_of_plan {s : State} {at' n : Nat} {r : PendReq} (hplan : s.tw.plan = some (at', n))
    (hreq : s.tw.planReq = some r) (hroute : r.route = .pdp) (hheld : s.acc.held = []) (hwaits : s.acc.waits = [])
    (hlater : s.acc.later = []) (hquiet : s.emits = []) :
    exec .handoverConfirmTimeout s = .next { (s.start.reach (at' + ms 2)).emit (.resp r.ses r.op r.req Status.busy.code []) with
      tw := { s.tw with plan := none, planReq := none } } := by
  have hplan' : s.start.tw.plan = some (at', n) := hplan
  have hreq' : (s.start.reach (at' + ms 2)).tw.planReq = some r := hreq
  refine congrArg Host.Outcome.next ?_
  simp only [hplan', hreq', State.answer_busy_frame _ r _ hroute]
  rw [State.heldProceed_of_none _ (by simpa using hheld) (by simpa using hwaits), State.resume_of_none _ (by simpa using hlater),
    State.drain_of_quiet _ (by simpa using hquiet)]
  rfl

/-- ACTIVE_OUT is asserted again, and the release is over (R576). -/
def State.redriven (s : State) : State :=
  { s with tw := { s.tw with activeOut := true, refreshAt := s.clk, released := none, abortHo := none, planReq := none } }

/-- The checks of the outputs are those of a module that goes back to driving them (R576). -/
def State.marksRevert (s : State) : State := { s with tw := { s.tw with reverting := true } }

/-- The releasing module asserts ACTIVE_OUT again, checks its outputs, records the end of the handover and answers its ABORT (R576). -/
def State.drivesAgain (s : State) (n : Nat) (req : BitVec 32) : State :=
  let u := s.redriven.enter .active 4
  ((u.startReadback u.tw.heldLevels s.heldMap).marksRevert.event 0x060F 1).resp n 0x14 req .ok []

theorem State.revert_eq (s : State) (n : Nat) (req : BitVec 32) :
    s.revert n req =
      (let u := (s.drivesAgain n req).heldProceed.resume
       if u.windowsDone then { u with tw := { u.tw with reverting := false, frozenOut := 0, equinoxAt := none } } else u).setAllSwitches := by
  unfold State.revert State.drivesAgain State.redriven State.marksRevert
  with_reducible rfl

section

variable (s : State) (n : Nat) (req : BitVec 32)

theorem State.redriven_acc : s.redriven.acc = s.acc := rfl
theorem State.redriven_emits : s.redriven.emits = s.emits := rfl
theorem State.redriven_rcd : s.redriven.rcd = s.rcd := rfl
theorem State.marksRevert_mode : s.marksRevert.mode = s.mode := rfl
theorem State.marksRevert_acc : s.marksRevert.acc = s.acc := rfl
theorem State.marksRevert_emits : s.marksRevert.emits = s.emits := rfl
theorem State.marksRevert_rcd : s.marksRevert.rcd = s.rcd := rfl

/-- ACTIVE_OUT is asserted, and neither a release nor an ABORT is under way. -/
def State.Driving (s : State) : Prop := s.tw.activeOut = true ∧ s.tw.released = none ∧ s.tw.abortHo = none

theorem State.Driving.congr {t : State} (h : s.Driving) (heq : t.tw = s.tw) : t.Driving := by rwa [State.Driving, heq]

theorem State.driving_redriven : s.redriven.Driving := ⟨rfl, rfl, rfl⟩

theorem State.Driving.startReadback (h : s.Driving) (levels mask : BitVec 128) : (s.startReadback levels mask).Driving := h

theorem State.Driving.marksRevert (h : s.Driving) : s.marksRevert.Driving := h

theorem State.drivesAgain_driving : (s.drivesAgain n req).Driving := by
  have hu : (s.redriven.enter .active 4).Driving := (State.driving_redriven s).congr _ (State.enter_tw ..)
  exact ((hu.startReadback _ _ _).marksRevert _).congr _ (State.event_tw ..)

theorem State.drivesAgain_frame : (s.drivesAgain n req).mode = .active ∧ (s.drivesAgain n req).acc = s.acc
    ∧ (s.drivesAgain n req).emits = s.emits ∧ Out.resp n 0x14 req 0 [] ∈ (s.drivesAgain n req).out := by
  simp only [State.drivesAgain, State.resp, State.emit_mode, State.emit_acc, State.emit_emits, State.event_mode, State.event_acc, State.event_emits,
    State.marksRevert_mode, State.marksRevert_acc, State.marksRevert_emits, State.startReadback_mode, State.startReadback_acc,
    State.startReadback_emits, State.enter_mode, State.enter_acc, State.enter_emits, State.redriven_acc, State.redriven_emits, true_and]
  simp [State.emit, Status.code]

theorem State.drivesAgain_recorded (h : s.Room) : (s.drivesAgain n req).Recorded 0x060F 0xFFFF 1 0 0 := by
  have hwait : (s.redriven.enter .active 4).rcd.waitingCount ≤ s.redriven.rcd.waitingCount + 1 := State.event_waiting ..
  rw [State.redriven_rcd] at hwait
  refine State.event_recorded _ _ _ _ _ ?_
  rw [State.marksRevert_rcd, State.startReadback_rcd]
  omega

/-- The releasing module drives again where no request was held (R576). -/
theorem State.revert_of_none (hheld : s.acc.held = []) (hwaits : s.acc.waits = []) (hlater : s.acc.later = []) (hroom : s.Room) :
    ∃ t, s.revert n req = t ∧ t.mode = .active ∧ t.tw.activeOut = true ∧ t.tw.released = none ∧ t.tw.abortHo = none
        ∧ Out.resp n 0x14 req 0 [] ∈ t.out ∧ t.Recorded 0x060F 0xFFFF 1 0 0 ∧ t.emits = s.emits := by
  obtain ⟨hmode, hacc, hemits, hout⟩ := s.drivesAgain_frame n req
  obtain ⟨hactive, hreleased, habort⟩ := s.drivesAgain_driving n req
  have hrec := s.drivesAgain_recorded n req hroom
  refine ⟨_, rfl, ?_⟩
  rw [s.revert_eq, State.heldProceed_of_none _ (by rw [hacc, hheld]) (by rw [hacc, hwaits]), State.resume_of_none _ (by simpa [hacc] using hlater)]
  simp only [State.setAllSwitches_mode, State.setAllSwitches_tw, State.setAllSwitches_out, State.setAllSwitches_emits, State.Recorded,
    State.setAllSwitches_rcd]
  split <;> exact ⟨hmode, hactive, hreleased, habort, hout, hrec, hemits⟩

end

/-- Settles O8: the plan is one host write; its timeout and its ABORT release what it held. -/
theorem plannedHandover : Obligations.PlannedHandover := by
  unfold Obligations.PlannedHandover
  intro s
  refine ⟨fun ses req h => ?_, fun ses req hserv hmode hopen hpart hnone hstandby hsummary hquiet hj => ?_,
    fun at' n r hplan hreq hroute hheld hwaits hlater hquiet => ?_, fun hup hmode hreleased hin => ?_,
    fun n req habort hup hmode hreleased hin hheld hwaits hlater hquiet hroom => ?_⟩
  · have ⟨_, _, _, _, ⟨_, _, _, _, _, hplan, _⟩, _⟩ := h
    rw [exec_handoverReq, s.hostRow_handover_refused ses.val req h]
    exact ⟨_, rfl, State.answers_emit .., hplan, rfl, rfl⟩
  · obtain ⟨t, heq, hrest⟩ := s.hostRow_handover_accepted ses.val req hserv hmode hopen hpart hnone hstandby hsummary hquiet hj
    exact ⟨t, congrArg Host.Outcome.next heq, hrest⟩
  · refine ⟨_, exec_handoverConfirmTimeout_of_plan hplan hreq hroute hheld hwaits hlater hquiet, rfl, rfl, ?_, ?_, ?_, ?_⟩
    · exact s.start.le_reach_clk _
    · simp [State.emit, Status.code]
    · simp [State.emit]
    · simp [State.emit]
  · have hcond : (s.start.up .twin && s.start.mode == .standby && s.start.tw.released.isNone && !s.start.activeIn) = true := by
      have hin' : s.start.activeIn = false := hin
      simp [hup, hmode, hreleased, hin']
    refine ⟨_, congrArg Host.Outcome.next (if_pos hcond), rfl, ?_, rfl, hmode⟩
    simp [State.emit]
  · have hcond : (s.start.up .twin && s.start.mode == .standby && s.start.tw.released.isSome && !s.start.activeIn) = true := by
      have hin' : s.start.activeIn = false := hin
      simp [hup, hmode, hreleased, hin']
    obtain ⟨t, heq, htmode, hactive, hreleased', habort', hout, hrec, hemits⟩ := s.start.revert_of_none n req hheld hwaits hlater hroom
    refine ⟨t, congrArg Host.Outcome.next ?_, htmode, hactive, hreleased', habort', hout, hrec⟩
    have habort'' : s.start.tw.abortHo = some (n, req) := habort
    simp only [habort'', hcond, if_true, heq]
    exact State.drain_of_quiet t (hemits.trans hquiet)

end Sys2Proof.Machine
end

section
/-! Freeze (R652, R653): the requests that wait, the state of a freeze, and the release of ACTIVE_OUT. -/

namespace Sys2Proof.Machine

/-! ### The requests that wait are answered (R203, R652) -/

/-- Answers change what is sent out, and SDO_LAST_STATUS at most. -/
def State.Replies (s t : State) : Prop :=
  (∃ out objs, t = { s with out := out, objs := objs }) ∧ ∀ k : Key, k.oid ≠ Oid.SDO_LAST_STATUS.oid → t.get k = s.get k

theorem State.Replies.refl (s : State) : s.Replies s := ⟨⟨s.out, s.objs, rfl⟩, fun _ _ => rfl⟩

theorem State.Replies.trans {s t u : State} (h : s.Replies t) (g : t.Replies u) : s.Replies u := by
  obtain ⟨⟨o, b, rfl⟩, hget⟩ := h
  obtain ⟨⟨o', b', rfl⟩, hget'⟩ := g
  exact ⟨⟨o', b', rfl⟩, fun k hk => (hget' k hk).trans (hget k hk)⟩

theorem State.replies_emit (s : State) (o : Out) : s.Replies (s.emit o) := ⟨⟨_, s.objs, rfl⟩, fun _ _ => rfl⟩

theorem State.replies_answer (s : State) (r : PendReq) (st : Nat) (p : List Byte) : s.Replies (s.answer r st p) := by
  unfold State.answer
  cases r.route with
  | pdp => exact s.replies_emit _
  | sdo =>
    refine .trans (t := s.setN Oid.SDO_LAST_STATUS st) ⟨⟨s.out, _, rfl⟩, fun k hk => ?_⟩ (State.replies_emit ..)
    exact s.get_setN_other _ _ _ (Ne.symm hk)
  | bacnet => exact s.replies_emit _
  | silent => exact .refl s

theorem State.replies_foldl {α : Type} {g : State → α → State} (hg : ∀ (s : State) a, s.Replies (g s a)) (l : List α) (s : State) :
    s.Replies (l.foldl g s) := by
  induction l generalizing s with
  | nil => exact .refl s
  | cons a l ih => exact (hg s a).trans (ih _)

/-- The requests that wait are told FROZEN. -/
def State.tellsFrozen (s : State) : State :=
  let l := s.acc.waits ++ s.acc.held ++ s.acc.slow ++ s.tw.planReq.toList
  let s := l.foldl (fun s r => s.answer r Status.frozen.code []) s
  let s := s.acc.later.foldl (fun s r => s.emit (.resp r.ses r.op r.req Status.frozen.code [])) s
  s.acc.aborts.foldl (fun s r => s.emit (.resp r.ses 0x14 r.req Status.frozen.code [])) s

/-- No request waits any more. -/
def State.dropsRequests (s : State) : State :=
  { s with acc := { s.acc with waits := [], held := [], slow := [], aborts := [], later := [] }, tw := { s.tw with planReq := none } }

theorem State.answerFrozen_eq (s : State) : s.answerFrozen = s.tellsFrozen.dropsRequests := by
  unfold State.answerFrozen State.tellsFrozen State.dropsRequests
  with_reducible rfl

theorem State.replies_tellsFrozen (s : State) : s.Replies s.tellsFrozen :=
  ((State.replies_foldl (fun _ _ => State.replies_answer ..) _ _).trans (State.replies_foldl (fun _ _ => State.replies_emit ..) _ _)).trans
    (State.replies_foldl (fun _ _ => State.replies_emit ..) _ _)

/-! ### Freeze (R652, R653) -/

/-- The clocks stop, and the state of the freeze is that of the table Freeze entry. -/
def State.frozenAt (s : State) (prior : Nat) : State :=
  { s with
    frz := { s.frz with
      prior := prior, optime := s.optime, readout := s.flag Oid.FRZ_READOUT_ENABLE, selfRefresh := s.pow.lpddr, clocksStopped := true
      waiting := false, since := s.clk, wordsRead := 0 }
    tw := { s.tw with activeOut := false } }

/-- The outputs are held, the twin is told, and the energy stops. -/
def State.quiets (s : State) : State :=
  let s := if s.tw.activeOut then s.holdOutputs else s
  let s := ((s.setN Oid.TW_SUMMARY 5).emit
    (.twin 0x04 s.tw.gen (leBytes 1 4 ++ leBytes 1 5 ++ [0, 0] ++ leBytes 4 s.checks ++ leBytes 4 Config.fwVersion.toNat ++ leBytes 8 s.time)))
  if s.met.stopped.isSome then s else s.energyStop 2

/-- FROZEN is entered, counted and recorded, and the records are written. -/
def State.entersFrozen (s : State) (prior : Nat) : State :=
  let s := (s.enter .frozen 5).count Oid.FRZ_COUNT 32
  (s.eventAon 0x0110 prior s.time (s.time / 4294967296)).flushRecords

theorem State.freeze_eq (s : State) : s.freeze = (s.answerFrozen.quiets.entersFrozen s.mode.code).frozenAt s.mode.code := by
  unfold State.freeze State.quiets State.entersFrozen State.frozenAt
  with_reducible rfl
/-- What the requests' answers leave as it was. -/
theorem State.answerFrozen_frame (s : State) :
    s.answerFrozen.mode = s.mode ∧ s.answerFrozen.rcd = s.rcd ∧ s.answerFrozen.tb = s.tb ∧ s.answerFrozen.clk = s.clk ∧ s.answerFrozen.frz = s.frz
      ∧ s.answerFrozen.rst = s.rst ∧ s.answerFrozen.tw.waiting = s.tw.waiting ∧ s.answerFrozen.tw.mirror = s.tw.mirror := by
  obtain ⟨⟨o, b, h⟩, -⟩ := s.replies_tellsFrozen
  rw [s.answerFrozen_eq, h]
  exact ⟨rfl, rfl, rfl, rfl, rfl, rfl, rfl, rfl⟩

theorem State.answerFrozen_none (s : State) : s.answerFrozen.acc.waits = [] ∧ s.answerFrozen.acc.held = [] ∧ s.answerFrozen.acc.slow = []
    ∧ s.answerFrozen.acc.later = [] := by
  rw [s.answerFrozen_eq]
  exact ⟨rfl, rfl, rfl, rfl⟩

theorem State.answerFrozen_get (s : State) (k : Key) (h : k.oid ≠ Oid.SDO_LAST_STATUS.oid) : s.answerFrozen.get k = s.get k := by
  rw [s.answerFrozen_eq]
  exact s.replies_tellsFrozen.2 k h

theorem State.quiets_frame (s : State) :
    s.quiets.mode = s.mode ∧ s.quiets.rcd = s.rcd ∧ s.quiets.tb = s.tb ∧ s.quiets.clk = s.clk ∧ s.quiets.frz = s.frz ∧ s.quiets.pow = s.pow
      ∧ s.quiets.rst = s.rst ∧ s.quiets.acc = s.acc ∧ s.quiets.tw.waiting = s.tw.waiting ∧ s.quiets.tw.mirror = s.tw.mirror
      ∧ s.quiets.nat Oid.TW_SUMMARY = 5 := by
  unfold State.quiets
  split <;> simp only <;> split <;> simp

theorem State.quiets_get (s : State) (k : Key) (h : k.oid ≠ Oid.TW_SUMMARY.oid) : s.quiets.get k = s.get k := by
  have hset (u : State) : (u.setN Oid.TW_SUMMARY 5).get k = u.get k := u.get_setN_other _ _ _ h.symm
  unfold State.quiets
  split <;> simp only <;> split <;> simp [hset]

theorem State.entersFrozen_frame (s : State) (prior : Nat) :
    (s.entersFrozen prior).mode = .frozen ∧ (s.entersFrozen prior).tb = s.tb ∧ (s.entersFrozen prior).clk = s.clk
      ∧ (s.entersFrozen prior).frz = s.frz ∧ (s.entersFrozen prior).pow = s.pow ∧ (s.entersFrozen prior).rst = s.rst
      ∧ (s.entersFrozen prior).acc = s.acc ∧ (s.entersFrozen prior).tw = s.tw := by
  simp [State.entersFrozen]

theorem State.entersFrozen_get (s : State) (prior : Nat) (k : Key) (h : k.oid ≠ Oid.FRZ_COUNT.oid) (hd : k.oid ≠ Oid.REC_DROPPED.oid) :
    (s.entersFrozen prior).get k = s.get k := by
  have hcount (u : State) : (u.count Oid.FRZ_COUNT 32).get k = u.get k := u.get_count_other _ _ _ _ h.symm
  have henter (u : State) : (u.enter .frozen 5).get k = u.get k := State.get_event _ _ _ _ _ _ hd.symm
  simp [State.entersFrozen, hcount, henter]

theorem State.entersFrozen_count (s : State) (prior : Nat) :
    (s.entersFrozen prior).nat Oid.FRZ_COUNT = min (s.nat Oid.FRZ_COUNT + 1) 4294967295 := by
  have henter : (s.enter .frozen 5).nat Oid.FRZ_COUNT = s.nat Oid.FRZ_COUNT := State.nat_event _ _ _ _ _ _ (by decide)
  simp [State.entersFrozen, henter]

theorem State.flushRecords_recorded {s : State} {c src p0 p1 p2 : Nat} (h : s.Recorded c src p0 p1 p2) :
    s.flushRecords.Recorded c src p0 p1 p2 := by
  obtain ⟨r, hr, hrest⟩ := h
  refine ⟨_, List.mem_map_of_mem hr, ?_⟩
  split <;> exact hrest

theorem State.flushRecords_waitingCount (s : State) : s.flushRecords.rcd.waitingCount = 0 := by
  have hnone : ∀ r ∈ s.flushRecords.rcd.ring, r.waiting = false := by
    intro r hr
    obtain ⟨x, -, rfl⟩ := List.mem_map.1 hr
    split
    · rfl
    · next hx =>
      simp only [Bool.or_eq_true, not_or, Bool.not_eq_true] at hx
      exact hx.1
  simpa [Recorder.waitingCount, List.filter_eq_nil_iff] using hnone

theorem State.entersFrozen_recorded (s : State) (prior : Nat) :
    (s.entersFrozen prior).Recorded 0x0110 0xFFFF prior s.time (s.time / 4294967296) := by
  have htime : ((s.enter .frozen 5).count Oid.FRZ_COUNT 32).time = s.time := by simp [State.time]
  unfold State.entersFrozen
  simp only [htime]
  exact State.flushRecords_recorded (State.eventAon_recorded ..)

theorem State.entersFrozen_waitingCount (s : State) (prior : Nat) : (s.entersFrozen prior).rcd.waitingCount = 0 :=
  State.flushRecords_waitingCount _

/-! ### The state of a freeze -/

/-- What a freeze has done: a state `t` that came of `s` (table Freeze entry). -/
structure State.Froze (s t : State) : Prop where
  mode : t.mode = .frozen
  summary : t.nat Oid.TW_SUMMARY = 5
  count : t.nat Oid.FRZ_COUNT = min (s.nat Oid.FRZ_COUNT + 1) 4294967295
  active : t.tw.activeOut = false
  written : t.rcd.waitingCount = 0
  prior : t.frz.prior = s.mode.code
  readout : t.frz.readout = s.flag Oid.FRZ_READOUT_ENABLE
  stopped : t.frz.clocksStopped = true
  waiting : t.frz.waiting = false
  low : t.frz.low = s.frz.low
  ignored : t.frz.ignored = s.frz.ignored
  waits : t.acc.waits = []
  held : t.acc.held = []
  slow : t.acc.slow = []
  later : t.acc.later = []
  recorded : t.Recorded 0x0110 0xFFFF s.mode.code s.time (s.time / 4294967296)
  rst : t.rst = s.rst
  tb : t.tb = s.tb
  clk : t.clk = s.clk
  twWaiting : t.tw.waiting = s.tw.waiting
  mirror : t.tw.mirror = s.tw.mirror

theorem State.froze_freeze (s : State) : s.Froze s.freeze := by
  obtain ⟨-, -, htb, hclk, hfrz, hrst, hwait, hmirror⟩ := s.answerFrozen_frame
  have hnone := s.answerFrozen_none
  obtain ⟨-, -, htb', hclk', hfrz', -, hrst', hacc', hwait', hmirror', hsum'⟩ := s.answerFrozen.quiets_frame
  obtain ⟨hmode'', htb'', hclk'', hfrz'', -, hrst'', hacc'', htw''⟩ := s.answerFrozen.quiets.entersFrozen_frame s.mode.code
  have hrec := s.answerFrozen.quiets.entersFrozen_recorded s.mode.code
  have hwritten := s.answerFrozen.quiets.entersFrozen_waitingCount s.mode.code
  have hcount := s.answerFrozen.quiets.entersFrozen_count s.mode.code
  have hget (k : Key) (h1 : k.oid ≠ Oid.SDO_LAST_STATUS.oid) (h2 : k.oid ≠ Oid.TW_SUMMARY.oid) : s.answerFrozen.quiets.get k = s.get k :=
    (State.quiets_get _ k h2).trans (s.answerFrozen_get k h1)
  have hget' (k : Key) (h3 : k.oid ≠ Oid.FRZ_COUNT.oid) (h4 : k.oid ≠ Oid.REC_DROPPED.oid) :=
    s.answerFrozen.quiets.entersFrozen_get s.mode.code k h3 h4
  have hut : s.answerFrozen.quiets.time = s.time := by simp [State.time, htb', htb]
  rw [hut] at hrec
  rw [show s.answerFrozen.quiets.nat Oid.FRZ_COUNT = s.nat Oid.FRZ_COUNT from congrArg Int.toNat (hget _ (by decide) (by decide))] at hcount
  have hsum := hget' Oid.TW_SUMMARY (by decide) (by decide)
  have hread := (hget' Oid.FRZ_READOUT_ENABLE (by decide) (by decide)).trans (hget _ (by decide) (by decide))
  rw [s.freeze_eq]
  rw [← hacc', ← hacc''] at hnone
  obtain ⟨hwaits, hheld, hslow, hlater⟩ := hnone
  have hfz := hfrz''.trans (hfrz'.trans hfrz)
  generalize s.answerFrozen.quiets.entersFrozen s.mode.code = u at *
  exact
    { mode := hmode'', summary := (congrArg Int.toNat hsum).trans hsum', count := hcount, active := rfl, written := hwritten, prior := rfl,
      readout := congrArg (· != 0) hread, stopped := rfl,
      waiting := rfl, low := congrArg (·.low) hfz, ignored := congrArg (·.ignored) hfz, waits := hwaits, held := hheld, slow := hslow,
      later := hlater, recorded := hrec, rst := hrst''.trans (hrst'.trans hrst), tb := htb''.trans (htb'.trans htb), clk := hclk''.trans (hclk'.trans hclk),
      twWaiting := (congrArg (·.waiting) htw'').trans (hwait'.trans hwait),
      mirror := (congrArg (·.mirror) htw'').trans (hmirror'.trans hmirror) }

/-! ### The release of ACTIVE_OUT (R554 to R556) -/

/-- ACTIVE_OUT is deasserted: the levels of the driven outputs are held. -/
def State.deasserts (s : State) (cause : Nat) : State :=
  { s with tw := { s.tw with
      activeOut := false, inSince := if s.tw.ilkFault = 0 then s.tw.inSince else s.clk, released := some (cause, s.clk)
      heldLevels := mapOf (fun b => s.outputBit b && s.outputLevel b), frozenOut := 0, equinoxAt := none } }

/-- The release is recorded, and the twin is told. -/
def State.tellsRelease (s : State) (cause : Nat) : State :=
  let s1 := ((s.deasserts cause).spoilTrips.setBlob Oid.TW_HELD (mapBytes s.outputMap)).event 0x0601 cause (s.nat Oid.TW_GEN)
  if s.up .twin then s1.emit (.twin 0x05 s.tw.gen (leBytes 1 cause ++ [0, 0, 0] ++ leBytes 8 s.time)) else s1

/-- The module counts as failed but for a planned handover, and leaves the states in which it drives. -/
def State.leavesDriving (s : State) (cause : Nat) : State :=
  let s2 := { s with tw := { s.tw with failed := decide (cause ≠ 0) } }
  if s2.drives then s2.enter .standby 2 else s2

theorem State.release_of_deasserted {s : State} (h : s.tw.activeOut = false) (cause : Nat) : s.release cause = s := if_pos (by simp [h])

theorem State.release_of_asserted {s : State} (h : s.tw.activeOut = true) (cause : Nat) :
    s.release cause =
      if cause = 0 ∨ (4 ≤ cause ∧ cause ≤ 8) then (s.tellsRelease cause).leavesDriving cause else s.tellsRelease cause := by
  unfold State.release
  rw [if_neg (by simp [h])]
  unfold State.tellsRelease State.deasserts State.leavesDriving
  with_reducible rfl

section

variable (s : State) (cause : Nat)

@[simp] theorem State.deasserts_mode : (s.deasserts cause).mode = s.mode := rfl
@[simp] theorem State.deasserts_clk : (s.deasserts cause).clk = s.clk := rfl
@[simp] theorem State.deasserts_rcd : (s.deasserts cause).rcd = s.rcd := rfl
@[simp] theorem State.deasserts_met : (s.deasserts cause).met = s.met := rfl
@[simp] theorem State.deasserts_objs : (s.deasserts cause).objs = s.objs := rfl
theorem State.deasserts_activeOut : (s.deasserts cause).tw.activeOut = false := rfl
theorem State.deasserts_released : (s.deasserts cause).tw.released = some (cause, s.clk) := rfl

theorem State.tellsRelease_tw : (s.tellsRelease cause).tw = (s.deasserts cause).tw := by
  unfold State.tellsRelease
  split <;> simp

@[simp] theorem State.tellsRelease_mode : (s.tellsRelease cause).mode = s.mode := by
  unfold State.tellsRelease
  split <;> simp

theorem State.tellsRelease_met : (s.tellsRelease cause).met = s.spoilTrips.met := by
  unfold State.tellsRelease
  split
  · simp [State.spoilTrips]
  · simp [State.spoilTrips]

theorem State.tellsRelease_get (k : Key) (h : k.oid ≠ Oid.REC_DROPPED.oid) : (s.tellsRelease cause).get k = s.get k := by
  have hevent (u : State) (c p0 p1 p2 : Nat) : (u.event c p0 p1 p2).get k = u.get k := u.get_event _ _ _ _ _ h.symm
  have hde : (s.deasserts cause).get k = s.get k := State.get_congr rfl k
  unfold State.tellsRelease
  split <;> simp [hevent, hde]

theorem State.tellsRelease_waiting : (s.tellsRelease cause).rcd.waitingCount ≤ s.rcd.waitingCount + 1 := by
  unfold State.tellsRelease
  split
  · exact State.event_waiting ..
  · exact State.event_waiting ..

theorem State.tellsRelease_recorded (h : s.rcd.waitingCount < 32768) :
    (s.tellsRelease cause).Recorded 0x0601 0xFFFF cause (s.nat Oid.TW_GEN) 0 := by
  unfold State.tellsRelease
  split
  · exact State.event_recorded _ _ _ _ _ h
  · exact State.event_recorded _ _ _ _ _ h

end

end Sys2Proof.Machine
end

section
/-! A reset takes place (R112 to R119): its reach, its source, and the state it leaves. -/

namespace Sys2Proof.Machine

/-! ### A reset takes place (R112 to R119) -/

/-- The module leaves a reset's reach in BOOT, with no test and no action under way. -/
def State.clearsModule (s : State) : State :=
  { s with mode := .boot, testQueue := [], testsOn := [], emits := [],
           mem := { s.mem with verifyAt := none, image := [], forTwin := false, other := {}, rebuild := [], tablesAt := none } }

/-- What a reach keeps of the records, and the cycle it counts. -/
def State.keepsRecords (s : State) (r : Nat) : State :=
  let s := if r = 2 then s.preSave else if r = 1 then s.losePending else s
  if r = 1 then s.count Oid.POWER_CYCLES 32 else s

/-- The domains, the dictionary, host access and the point server of a reach. -/
def State.resetDomains (s : State) (r : Nat) : State :=
  (((((s.resetLaunches.resetMetering r).resetLift r).resetPower r).resetObjs r).resetAccess r).resetPoints

/-- The twin and what follows it in the order of a reach, and the blocks that leave reset. -/
def State.resetRest (s : State) (r : Nat) : State :=
  let s := ((s.resetTwin.resetSafety r).resetTime r).resetField
  let s := if r = 3 then s else { (s.setN Oid.MI_ON 0) with met := { (s.setN Oid.MI_ON 0).met with shadowBad := [] } }
  (List.range 64).foldl State.blockRelease s

theorem State.applyReach_eq (s : State) (r : Nat) : s.applyReach r = (((s.keepsRecords r).resetDomains r).resetRest r).clearsModule := by
  unfold State.applyReach State.keepsRecords State.resetDomains State.resetRest State.clearsModule
  with_reducible rfl

theorem State.applyReach_mode (s : State) (r : Nat) : (s.applyReach r).mode = .boot := by
  rw [s.applyReach_eq]
  rfl

theorem State.applyReach_emits (s : State) (r : Nat) : (s.applyReach r).emits = [] := by
  rw [s.applyReach_eq]
  rfl

theorem State.resetDomains_launches (s : State) (r : Nat) : (s.resetDomains r).launches = [] := by
  simp [State.resetDomains, State.resetLaunches]

theorem State.resetRest_launches (s : State) (r : Nat) : (s.resetRest r).launches = s.launches := by
  simp [State.resetRest, apply_ite State.launches]

theorem State.resetRest_activeOut (s : State) (r : Nat) : (s.resetRest r).tw.activeOut = false := by
  simp [State.resetRest, apply_ite State.tw, State.resetTwin]

theorem State.applyReach_launches (s : State) (r : Nat) : (s.applyReach r).launches = [] := by
  rw [s.applyReach_eq]
  exact (State.resetRest_launches ..).trans (State.resetDomains_launches ..)

theorem State.applyReach_activeOut (s : State) (r : Nat) : (s.applyReach r).tw.activeOut = false := by
  rw [s.applyReach_eq]
  exact State.resetRest_activeOut ..

section

variable (s : State) (b : Nat)

/-- The sources seen once source `b` has occurred (R119). -/
def State.seenWith (s : State) (b : Nat) : BitVec 32 := (if s.rst.complete then 0 else s.rst.seen) ||| BitVec.twoPow 32 b

/-- A source counts as seen. -/
def State.countsSource (s : State) (b : Nat) : State :=
  { s with rst := { s.rst with
      seen := s.seenWith b, reach := if s.rst.complete then reachOf b else widest s.rst.reach (reachOf b), complete := false } }

theorem State.noteSource_eq :
    s.noteSource b = ((s.countsSource b).setN Oid.RESET_CAUSE (s.seenWith b).toNat).eventAon 0x0101 b (reachOf b) (s.seenWith b).toNat := rfl

theorem State.noteSource_rst : (s.noteSource b).rst = (s.countsSource b).rst := by
  rw [s.noteSource_eq, State.eventAon_rst, State.setN_rst]

theorem State.noteSource_cause : (s.noteSource b).nat Oid.RESET_CAUSE = (s.seenWith b).toNat := by
  rw [s.noteSource_eq, State.nat_eventAon, State.nat_setN_same]

theorem State.noteSource_get (k : Key) (h : k.oid ≠ Oid.RESET_CAUSE.oid) : (s.noteSource b).get k = s.get k := by
  rw [s.noteSource_eq, State.get_eventAon, State.get_setN_other _ _ _ _ h.symm]
  rfl

theorem State.noteSource_recorded :
    (s.noteSource b).Recorded 0x0101 0xFFFF b (reachOf b) ((s.noteSource b).nat Oid.RESET_CAUSE) := by
  rw [s.noteSource_cause]
  exact State.eventAon_recorded ..

theorem State.noteSource_causeBit (h : b < 32) : (s.noteSource b).bit Oid.RESET_CAUSE b = true := by
  have hbit : (s.seenWith b).getLsbD b = true := by simp [State.seenWith, h]
  rw [State.bit, s.noteSource_cause b, BitVec.testBit_toNat, hbit]

/-- The reset of a source is asserted. -/
def State.assertsReset (s : State) (b : Nat) : State :=
  { s with rst := { s.rst with
      asserted := s.rst.asserted ||| BitVec.twoPow 32 b, atNs := s.rst.atNs.put 0 b s.clk, inReset := true, pendingRel := none
      bootFail := false, strapFault := false } }

theorem State.doReset_eq :
    s.doReset b = ((((s.release 2).applyReach (reachOf b)).noteSource b).assertsReset b).setN Oid.SPRING_STEP 0 := by
  unfold State.doReset State.assertsReset
  with_reducible rfl

/-- What the reset of a source has done: a state `t` that came of `s` (R112 to R119). -/
structure State.WasReset (s t : State) (b : Nat) : Prop where
  mode : t.mode = .boot
  inReset : t.rst.inReset = true
  complete : t.rst.complete = false
  asserted : t.rst.asserted = s.rst.asserted ||| BitVec.twoPow 32 b
  cause : t.bit Oid.RESET_CAUSE b = true
  step : t.nat Oid.SPRING_STEP = 0
  launches : t.launches = []
  emits : t.emits = []
  active : t.tw.activeOut = false
  frz : t.frz = s.frz
  clk : t.clk = s.clk
  resetN : t.rst.resetN = s.rst.resetN
  recorded : t.Recorded 0x0101 0xFFFF b (reachOf b) (t.nat Oid.RESET_CAUSE)

theorem State.WasReset.assertedBit {s t : State} {b : Nat} (h : s.WasReset t b) (hb : b < 32) : t.rst.asserted.getLsbD b = true := by
  simp [h.asserted, hb]

theorem State.wasReset_doReset (h : b < 32) : s.WasReset (s.doReset b) b := by
  have hrst := ((s.release 2).applyReach (reachOf b)).noteSource_rst b
  have hcause := ((s.release 2).applyReach (reachOf b)).noteSource_causeBit b h
  have hrec := ((s.release 2).applyReach (reachOf b)).noteSource_recorded b
  have hact := (s.release 2).applyReach_activeOut (reachOf b)
  have hmode := (s.release 2).applyReach_mode (reachOf b)
  have hlaunch := (s.release 2).applyReach_launches (reachOf b)
  have hemits := (s.release 2).applyReach_emits (reachOf b)
  have hfrz : ((s.release 2).applyReach (reachOf b)).frz = s.frz := by simp
  have hclk : ((s.release 2).applyReach (reachOf b)).clk = s.clk := by simp
  have hasserted : ((s.release 2).applyReach (reachOf b)).rst.asserted = s.rst.asserted := by simp
  have hresetN : ((s.release 2).applyReach (reachOf b)).rst.resetN = s.rst.resetN := by simp
  rw [s.doReset_eq]
  generalize (s.release 2).applyReach (reachOf b) = u at *

  have hnat : (((u.noteSource b).assertsReset b).setN Oid.SPRING_STEP 0).nat Oid.RESET_CAUSE = (u.noteSource b).nat Oid.RESET_CAUSE :=
    State.nat_setN_ne _ _ _ _ (by decide)
  exact
    { mode := (State.noteSource_mode u b).trans hmode
      inReset := rfl
      complete := (congrArg (·.complete) hrst :)
      asserted := (congrArg (fun x : ResetCtl => x.asserted ||| BitVec.twoPow 32 b) hrst).trans (congrArg (· ||| _) hasserted)
      cause := by simpa only [State.bit, hnat] using hcause
      step := State.nat_setN_same ..
      launches := (State.noteSource_launches u b).trans hlaunch
      emits := (State.noteSource_emits u b).trans hemits
      active := (congrArg (·.activeOut) (State.noteSource_tw u b)).trans hact
      frz := (State.noteSource_frz u b).trans hfrz
      clk := (State.noteSource_clk u b).trans hclk
      resetN := (congrArg (·.resetN) hrst).trans hresetN
      recorded := by
        rw [hnat]
        exact hrec.congr (State.setN_rcd ..) }

end

end Sys2Proof.Machine
end

section
/-! The request for a freeze (R650). -/

namespace Sys2Proof.Machine

/-! ### WINTER_N goes low (R650) -/

/-- The low level counts. -/
def State.winterNoted (s : State) : State := { s with frz := { s.frz with low := true } }


theorem exec_winterNLow_short {s : State} {forNs : Nat} (h : forNs < 500) : exec (.winterNLow forNs) s = .next { s with out := [] } := by
  refine congrArg Host.Outcome.next ?_
  rw [if_neg (by omega), if_pos h]
  rfl

theorem exec_winterNLow_long {s : State} {forNs : Nat} (h : 1000 ≤ forNs) : exec (.winterNLow forNs) s = .next s.start.winterLow :=
  congrArg Host.Outcome.next (if_pos h)

theorem State.winterLow_counted {s : State} (h : s.frz.low = true ∨ s.pd .aon = false) : s.winterLow = s := by
  have hcond : (s.frz.low || !s.pd .aon) = true := by rcases h with h | h <;> simp [h]
  exact if_pos hcond

theorem State.winterLow_noted {s : State} (hpd : s.pd .aon = true) (hlow : s.frz.low = false)
    (h : s.pow.autumn = .running ∨ s.frz.ignored = true) : s.winterLow = s.winterNoted.showWinter := by
  have hcond : ¬ (s.frz.low || !s.pd .aon) = true := by simp [hlow, hpd]
  have hnoted : (s.pow.autumn == .running || s.frz.ignored) = true := by rcases h with h | h <;> simp [h]
  refine (if_neg hcond).trans (congrArg State.showWinter (if_pos hnoted))

theorem State.winterLow_acted {s : State} (hpd : s.pd .aon = true) (hlow : s.frz.low = false) (haut : s.pow.autumn ≠ .running)
    (hign : s.frz.ignored = false) : s.winterLow = s.winterNoted.winterActed.showWinter := by
  have hcond : ¬ (s.frz.low || !s.pd .aon) = true := by simp [hlow, hpd]
  have hnoted : ¬ (s.pow.autumn == .running || s.frz.ignored) = true := by simp [haut, hign]
  refine (if_neg hcond).trans (congrArg State.showWinter (if_neg hnoted))

theorem State.showWinter_state (s : State) : s.showWinter.nat Oid.WINTER_N_STATE = if !s.frz.low then 0 else if s.frz.ignored then 2 else 1 := by
  simp [State.showWinter]

theorem State.showWinter_get (s : State) (k : Key) (h : k.oid ≠ Oid.WINTER_N_STATE.oid) : s.showWinter.get k = s.get k :=
  s.get_setN_other _ _ _ h.symm

/-- An ACTIVE module with a healthy standby releases ACTIVE_OUT with cause 9, and keeps its mode (R554, R650). -/
theorem State.release_nine {s : State} (h : s.tw.activeOut = true) (hroom : s.Room) :
    (s.release 9).mode = s.mode ∧ (s.release 9).tw.activeOut = false ∧ (s.release 9).tw.released = some (9, s.clk)
      ∧ (s.release 9).frz = s.frz ∧ (s.release 9).Recorded 0x0601 0xFFFF 9 (s.nat Oid.TW_GEN) 0 := by
  have heq : s.release 9 = s.tellsRelease 9 := (State.release_of_asserted h 9).trans (if_neg (by decide))
  refine ⟨?_, ?_, ?_, State.release_frz .., ?_⟩
  · rw [heq, State.tellsRelease_mode]
  · rw [heq, State.tellsRelease_tw, State.deasserts_activeOut]
  · rw [heq, State.tellsRelease_tw, State.deasserts_released]
  · rw [heq]
    exact State.tellsRelease_recorded _ _ (by omega)

/-- A release leaves a freeze waiting. -/
def State.waitsFreeze (s : State) : State := { s with frz := { s.frz with waiting := true } }

/-- A low level that an ACTIVE module refuses is ignored from now on. -/
def State.ignoresFreeze (s : State) : State := { s with frz := { s.frz with ignored := true } }

theorem State.winterActed_boot {s : State} (h : s.mode = .boot) : s.winterActed = s.waitsFreeze := by
  simp only [State.winterActed, h, State.waitsFreeze]

theorem State.winterActed_freezes {s : State} (h : s.mode = .service ∨ s.mode = .standby) : s.winterActed = s.freeze := by
  unfold State.winterActed
  rcases h with h | h <;> rw [h]

theorem State.winterActed_released {s : State} (h : s.mode = .active) (hactive : s.tw.activeOut = true) (hstandby : s.healthyStandby = true) :
    s.winterActed = (s.release 9).waitsFreeze := by
  simp only [State.winterActed, h, State.waitsFreeze, State.release_frz, hactive, hstandby, Bool.not_true, Bool.false_eq_true, if_false, if_true]

theorem State.winterActed_refused {s : State} (h : s.mode = .active) (hactive : s.tw.activeOut = true) (hstandby : s.healthyStandby = false) :
    s.winterActed = s.ignoresFreeze.event 0x0111 s.mode.code (s.nat Oid.TW_TWIN_SUMMARY) := by
  simp only [State.winterActed, h, State.ignoresFreeze, hactive, hstandby, Bool.not_true, Bool.false_eq_true, if_false]

/-- Settles O58: the level counts or is noted, and acts by the module's state. -/
theorem freezeRequest : Obligations.FreezeRequest := by
  unfold Obligations.FreezeRequest
  intro s forNs hroom
  refine ⟨fun h => exec_winterNLow_short h, fun h hcount => ?_, fun h hpd hlow hnote => ?_, fun h hpd haut hign hlow => ⟨fun hmode => ?_,
    fun hmode => ?_, fun hmode hactive hstandby => ?_, fun hmode hactive hstandby => ?_⟩⟩
  · have hcount' : s.start.frz.low = true ∨ s.start.pd .aon = false := hcount
    rw [exec_winterNLow_long h, State.winterLow_counted hcount']
    rfl
  · have hnote' : s.start.pow.autumn = .running ∨ s.start.frz.ignored = true := hnote
    refine ⟨_, (exec_winterNLow_long h).trans (congrArg _ (State.winterLow_noted hpd hlow hnote')), ?_, ?_, ?_, ?_⟩
    · rw [State.showWinter_frz]; rfl
    · rw [State.showWinter_mode]; rfl
    · rw [State.showWinter_tw]; rfl
    · rw [State.showWinter_rcd]; rfl
  · refine ⟨_, (exec_winterNLow_long h).trans (congrArg _ (State.winterLow_acted hpd hlow haut hign)), ?_⟩
    have hmode' : s.start.winterNoted.mode = .boot := hmode
    have hign' : s.start.winterNoted.waitsFreeze.frz.ignored = false := hign
    rw [State.winterActed_boot hmode']
    refine ⟨(State.showWinter_mode _).trans hmode, State.showWinter_frz _, ?_, State.showWinter_rcd _, State.showWinter_tw _⟩
    rw [State.showWinter_state, hign']
    rfl
  · refine ⟨_, (exec_winterNLow_long h).trans (congrArg _ (State.winterLow_acted hpd hlow haut hign)), ?_⟩
    have hmode' : s.start.winterNoted.mode = .service ∨ s.start.winterNoted.mode = .standby := hmode
    rw [State.winterActed_freezes hmode']
    have hf := s.start.winterNoted.froze_freeze
    have hlow' : s.start.winterNoted.freeze.frz.low = true := hf.low
    have hign' : s.start.winterNoted.freeze.frz.ignored = false := hf.ignored.trans hign
    have hget := fun k hk => s.start.winterNoted.freeze.showWinter_get k hk
    have hsum := (congrArg Int.toNat (hget Oid.TW_SUMMARY (by decide))).trans hf.summary
    have hcount := (congrArg Int.toNat (hget Oid.FRZ_COUNT (by decide))).trans hf.count
    have hstate := s.start.winterNoted.freeze.showWinter_state
    rw [hlow', hign'] at hstate
    generalize s.start.winterNoted.freeze = u at *
    exact ⟨u.showWinter_mode.trans hf.mode, hsum, hstate, hcount, by rw [State.showWinter_tw]; exact hf.active,
      by rw [State.showWinter_rcd]; exact hf.written, by rw [State.showWinter_frz]; exact hf.prior,
      by rw [State.showWinter_frz]; exact hf.readout, by rw [State.showWinter_frz]; exact hf.stopped,
      by rw [State.showWinter_acc]; exact hf.waits, by rw [State.showWinter_acc]; exact hf.held,
      by rw [State.showWinter_acc]; exact hf.slow, by rw [State.showWinter_acc]; exact hf.later,
      hf.recorded.congr (State.showWinter_rcd _)⟩
  · refine ⟨_, (exec_winterNLow_long h).trans (congrArg _ (State.winterLow_acted hpd hlow haut hign)), ?_⟩
    obtain ⟨hrmode, hrout, hrel, hrfrz, hrec⟩ := State.release_nine (s := s.start.winterNoted) hactive hroom
    have hmode' : s.start.winterNoted.mode = .active := hmode
    have hstandby' : s.start.winterNoted.healthyStandby = true := hstandby
    rw [State.winterActed_released hmode' hactive hstandby']
    refine ⟨?_, ?_, ?_, ?_, ?_⟩
    · exact (State.showWinter_mode _).trans (hrmode.trans hmode)
    · rw [State.showWinter_tw]; exact hrout
    · rw [State.showWinter_tw]; exact hrel
    · rw [State.showWinter_frz]
      exact congrArg (fun f : Freeze => { f with waiting := true }) hrfrz
    · exact State.Recorded.congr hrec (State.showWinter_rcd _)
  · refine ⟨_, (exec_winterNLow_long h).trans (congrArg _ (State.winterLow_acted hpd hlow haut hign)), ?_⟩
    have hmode' : s.start.winterNoted.mode = .active := hmode
    have hstandby' : s.start.winterNoted.healthyStandby = false := hstandby
    rw [State.winterActed_refused hmode' hactive hstandby']
    refine ⟨?_, ?_, ?_, ?_, ?_⟩
    · exact (State.showWinter_mode _).trans ((State.event_mode ..).trans hmode)
    · exact (State.showWinter_tw _).trans (State.event_tw ..)
    · exact (State.showWinter_frz _).trans (State.event_frz ..)
    · rw [State.showWinter_state, State.event_frz]
      rfl
    · rw [hmode']
      have hrec := s.start.winterNoted.ignoresFreeze.event_recorded 0x0111 Mode.active.code (s.nat Oid.TW_TWIN_SUMMARY) 0
        (show s.rcd.waitingCount < 32768 by omega)
      exact hrec.congr (State.showWinter_rcd _)

end Sys2Proof.Machine
end

section
/-! The end of a freeze (R650, R651, R655). -/

namespace Sys2Proof.Machine

/-! ### WINTER_N goes high (R650, R655) -/

/-- The high level counts. -/
def State.winterEnds (s : State) (forNs : Nat) : State :=
  { s with frz := { s.frz with low := false, ignored := s.frz.ignored && decide (forNs < 1000000) } }

theorem exec_winterNHigh_short {s : State} {forNs : Nat} (h : forNs < 500) : exec (.winterNHigh forNs) s = .next { s with out := [] } := by
  refine congrArg Host.Outcome.next ?_
  rw [if_neg (by omega), if_pos h]
  rfl

theorem exec_winterNHigh_long {s : State} {forNs : Nat} (h : 1000 ≤ forNs) : exec (.winterNHigh forNs) s = .next (s.start.winterHigh forNs) :=
  congrArg Host.Outcome.next (if_pos h)

section

variable {s : State} {forNs : Nat}

theorem State.winterHigh_frozen (h : s.mode = .frozen) (haut : s.pow.autumn = .running) :
    s.winterHigh forNs = (s.winterEnds forNs).showWinter.noteSource 12 := by
  have hfrozen : ((s.winterEnds forNs).showWinter.mode == .frozen) = true := by
    rw [State.showWinter_mode]
    exact beq_iff_eq.2 h
  have hrun : ((s.winterEnds forNs).showWinter.pow.autumn == .running) = true := by
    rw [State.showWinter_pow]
    exact beq_iff_eq.2 haut
  exact (if_pos hfrozen).trans (if_pos hrun)

theorem State.winterHigh_thaws (h : s.mode = .frozen) (haut : s.pow.autumn ≠ .running) :
    s.winterHigh forNs = (s.winterEnds forNs).showWinter.unfreeze := by
  have hfrozen : ((s.winterEnds forNs).showWinter.mode == .frozen) = true := by
    rw [State.showWinter_mode]
    exact beq_iff_eq.2 h
  have hrun : ¬ ((s.winterEnds forNs).showWinter.pow.autumn == .running) = true := by
    rw [State.showWinter_pow, beq_iff_eq]
    exact haut
  exact (if_pos hfrozen).trans (if_neg hrun)

theorem State.winterHigh_other (h : s.mode ≠ .frozen) :
    s.winterHigh forNs =
      if (s.winterEnds forNs).showWinter.frz.waiting then (s.winterEnds forNs).showWinter.cancelFreeze else (s.winterEnds forNs).showWinter := by
  have hfrozen : ¬ ((s.winterEnds forNs).showWinter.mode == .frozen) = true := by
    rw [State.showWinter_mode, beq_iff_eq]
    exact h
  exact if_neg hfrozen

end

/-- The module leaves the freeze; its time is told once start-up completes. -/
def State.thaws (s : State) (due : Nat × Nat) : State :=
  { s with mode := .boot, frz := { s.frz with selfRefresh := false, clocksStopped := false, releasedDue := some due } }

/-- A RESET_N that is still low asserts its source. -/
def State.heldByResetN (s : State) : State :=
  if s.rst.resetN == .low then
    { s with rst := { s.rst with asserted := s.rst.asserted ||| BitVec.twoPow 32 2, atNs := s.rst.atNs.put 0 2 s.clk } }
  else s

theorem State.unfreeze_eq (s : State) :
    s.unfreeze = (((s.save 2 s.met.shadowBad true).thaws
      (min ((s.clk - s.frz.since) / 1000000) 0xFFFFFFFF, s.frz.wordsRead)).doReset 12).heldByResetN := by
  unfold State.unfreeze State.thaws State.heldByResetN
  with_reducible rfl

theorem State.heldByResetN_frame (s : State) : s.heldByResetN.mode = s.mode ∧ s.heldByResetN.rst.inReset = s.rst.inReset
    ∧ (s.rst.asserted.getLsbD 12 = true → s.heldByResetN.rst.asserted.getLsbD 12 = true) ∧ s.heldByResetN.rst.complete = s.rst.complete
    ∧ s.heldByResetN.objs = s.objs ∧ s.heldByResetN.frz = s.frz ∧ s.heldByResetN.rcd = s.rcd := by
  unfold State.heldByResetN
  split
  · exact ⟨rfl, rfl, fun h => by simp [h], rfl, rfl, rfl, rfl⟩
  · exact ⟨rfl, rfl, id, rfl, rfl, rfl, rfl⟩

/-- What the end of a freeze leaves: a WARM reset from the source FREEZE_RELEASE (R116, R655). -/
theorem State.unfreeze_frame (s : State) :
    s.unfreeze.mode = .boot ∧ s.unfreeze.rst.inReset = true ∧ s.unfreeze.rst.asserted.getLsbD 12 = true ∧ s.unfreeze.rst.complete = false
      ∧ s.unfreeze.bit Oid.RESET_CAUSE 12 = true ∧ s.unfreeze.frz.low = s.frz.low ∧ s.unfreeze.frz.clocksStopped = false
      ∧ s.unfreeze.Recorded 0x0101 0xFFFF 12 2 (s.unfreeze.nat Oid.RESET_CAUSE) := by
  have hlow : (s.save 2 s.met.shadowBad true).frz.low = s.frz.low := congrArg (·.low) (State.save_frz ..)
  have hreset := State.wasReset_doReset ((s.save 2 s.met.shadowBad true).thaws
      (min ((s.clk - s.frz.since) / 1000000) 0xFFFFFFFF, s.frz.wordsRead)) 12 (by decide)
  rw [s.unfreeze_eq]
  generalize s.save 2 s.met.shadowBad true = u at *
  generalize ((u.thaws _).doReset 12) = v at *
  obtain ⟨hmode, hin, hasserted, hcomplete, hobjs, hfrz, hrcd⟩ := v.heldByResetN_frame
  refine ⟨hmode.trans hreset.mode, hin.trans hreset.inReset, hasserted (hreset.assertedBit (by decide)), hcomplete.trans hreset.complete, ?_, ?_, ?_, ?_⟩
  · rw [State.bit, State.nat_congr hobjs]
    exact hreset.cause
  · exact (congrArg (·.low) (hfrz.trans hreset.frz)).trans hlow
  · exact congrArg (·.clocksStopped) (hfrz.trans hreset.frz)
  · rw [State.nat_congr hobjs]
    exact hreset.recorded.congr hrcd

theorem State.cancelFreeze_released {s : State} (hmode : s.mode = .active) (hactive : s.tw.activeOut = false) :
    ∃ u : State, s.cancelFreeze = (u.enter .standby 2).event 0x0112 9 ∧ u.frz = { s.frz with waiting := false } ∧ u.rcd = s.rcd ∧ u.objs = s.objs := by
  refine ⟨{ s with frz := { s.frz with waiting := false } }, ?_, rfl, rfl, rfl⟩
  simp [State.cancelFreeze, hmode, hactive]

/-- Settles O59: the freeze starts once every latch is open, and ends by state. -/
theorem freezeEntryAndEnd : Obligations.FreezeEntryAndEnd := by
  unfold Obligations.FreezeEntryAndEnd
  intro s forNs hroom
  refine ⟨fun hwait hheld hactive hmode => ?_, fun hwait hheld => ?_, fun h => exec_winterNHigh_short h, fun h hmode haut => ?_,
    fun h hmode haut => ?_, fun h hmode hactive hwait => ?_, fun h hmode hwait => ?_⟩
  · have hheld' : s.start.heldMap = 0 := hheld
    have hcond : (s.start.frz.waiting && s.start.heldMap == 0 && !s.start.tw.activeOut
        && (s.start.mode == .active || s.start.mode == .standby)) = true := by
      rcases hmode with hmode | hmode <;> simp [hwait, hheld', hactive, hmode]
    refine ⟨_, congrArg Host.Outcome.next (if_pos hcond), ?_⟩
    have htime : (if s.start.mode == .active then s.start.enter .standby 2 else s.start).time = s.time := by
      split
      · simp [State.time]
      · rfl
    have hstandby : (if s.start.mode == .active then s.start.enter .standby 2 else s.start).mode = .standby := by
      rcases hmode with hmode | hmode <;> simp [hmode]
    have hf := (if s.start.mode == .active then s.start.enter .standby 2 else s.start).froze_freeze
    generalize (if s.start.mode == .active then s.start.enter .standby 2 else s.start) = u at *
    have hrec := hf.recorded
    rw [htime, hstandby] at hrec
    exact ⟨hf.mode, by rw [hf.prior, hstandby], hf.waiting, hf.summary, hrec⟩
  · have hcond : ¬ (s.start.frz.waiting && s.start.heldMap == 0 && !s.start.tw.activeOut
        && (s.start.mode == .active || s.start.mode == .standby)) = true := by
      have hheld' : (s.start.heldMap == 0) = false := beq_eq_false_iff_ne.2 hheld
      simp only [hheld', Bool.and_false, Bool.false_and, Bool.false_eq_true, not_false_eq_true]
    exact congrArg Host.Outcome.next (if_neg hcond)
  · have heq := State.winterHigh_frozen (s := s.start) (forNs := forNs) hmode haut
    refine ⟨_, (exec_winterNHigh_long h).trans (congrArg _ heq), ?_, ?_, ?_, State.noteSource_recorded _ 12⟩
    · exact (State.noteSource_mode ..).trans ((State.showWinter_mode _).trans hmode)
    · rw [State.noteSource_frz, State.showWinter_frz]
      rfl
    · rw [State.noteSource_rst, State.countsSource, State.showWinter_rst]
      rfl
  · have heq := State.winterHigh_thaws (s := s.start) (forNs := forNs) hmode haut
    obtain ⟨hm, hin, hass, hcomp, hcause, hlow, hclocks, hrec⟩ := (s.start.winterEnds forNs).showWinter.unfreeze_frame
    refine ⟨_, (exec_winterNHigh_long h).trans (congrArg _ heq), hm, hin, hass, hcomp, hcause, hlow.trans ?_, hclocks, hrec⟩
    rw [State.showWinter_frz]
    rfl
  · have hwait' : (s.start.winterEnds forNs).showWinter.frz.waiting = true := by
      rw [State.showWinter_frz]
      exact hwait
    have hne : s.start.mode ≠ .frozen := by
      rw [show s.start.mode = .active from hmode]
      decide
    have heq := (State.winterHigh_other (forNs := forNs) hne).trans (if_pos hwait')
    have hmode' : (s.start.winterEnds forNs).showWinter.mode = .active := (State.showWinter_mode _).trans hmode
    have hactive' : (s.start.winterEnds forNs).showWinter.tw.activeOut = false := by
      rw [State.showWinter_tw]
      exact hactive
    obtain ⟨u, hcancel, hfrz, hrcd, hobjs⟩ := State.cancelFreeze_released hmode' hactive'
    rw [State.showWinter_frz] at hfrz
    rw [State.showWinter_rcd] at hrcd
    have hstate : u.nat Oid.WINTER_N_STATE = 0 := (State.nat_congr hobjs _).trans (State.showWinter_state _)
    refine ⟨_, (exec_winterNHigh_long h).trans (congrArg _ (heq.trans hcancel)), ?_, ?_, ?_, ?_, ?_⟩
    · simp
    · rw [State.event_frz, State.enter_frz, hfrz]
    · rw [State.event_frz, State.enter_frz, hfrz]
      rfl
    · have henter : (u.enter .standby 2).nat Oid.WINTER_N_STATE = u.nat Oid.WINTER_N_STATE := State.nat_event _ _ _ _ _ _ (by decide)
      rw [State.nat_event _ _ _ _ _ _ (by decide), henter, hstate]
    · have hle : (u.enter .standby 2).rcd.waitingCount ≤ u.rcd.waitingCount + 1 := State.event_waiting ..
      rw [show u.rcd = s.rcd from hrcd] at hle
      exact State.event_recorded _ _ _ _ _ (by omega)
  · have hne : s.start.mode ≠ .frozen := hmode
    have hwait' : ¬ (s.start.winterEnds forNs).showWinter.frz.waiting = true := by
      rw [State.showWinter_frz]
      exact Bool.eq_false_iff.1 hwait
    have hign : (s.frz.ignored && decide (forNs < 1000000)) = false := by
      have : ¬ forNs < 1000000 := by omega
      simp [this]
    have heq := (State.winterHigh_other (forNs := forNs) hne).trans (if_neg hwait')
    refine ⟨_, (exec_winterNHigh_long (by omega)).trans (congrArg _ heq), ?_, State.showWinter_state _, State.showWinter_mode _, State.showWinter_rcd _⟩
    rw [State.showWinter_frz]
    exact congrArg (fun b : Bool => { s.frz with low := false, ignored := b }) hign

end Sys2Proof.Machine
end

section
/-! The state decision at the end of start-up (R5, R38, R135, R138). -/

namespace Sys2Proof.Machine

/-! ### What a low level on WINTER_N leaves alone -/

/-- The reset, the clocks and the mirror are not the level's. -/
def State.SameStart (s t : State) : Prop :=
  t.rst = s.rst ∧ t.tb = s.tb ∧ t.clk = s.clk ∧ t.tw.waiting = s.tw.waiting ∧ t.tw.mirror = s.tw.mirror

theorem State.SameStart.trans {s t u : State} (h : s.SameStart t) (g : t.SameStart u) : s.SameStart u := by
  obtain ⟨hr, ht, hc, hw, hm⟩ := h
  obtain ⟨hr', ht', hc', hw', hm'⟩ := g
  exact ⟨hr'.trans hr, ht'.trans ht, hc'.trans hc, hw'.trans hw, hm'.trans hm⟩

theorem State.Froze.sameStart {s t : State} (h : s.Froze t) : s.SameStart t := ⟨h.rst, h.tb, h.clk, h.twWaiting, h.mirror⟩

theorem State.winterActed_sameStart (s : State) : s.SameStart s.winterActed := by
  unfold State.winterActed
  split
  · exact ⟨rfl, rfl, rfl, rfl, rfl⟩
  · exact s.froze_freeze.sameStart
  · exact s.froze_freeze.sameStart
  · exact ⟨rfl, rfl, rfl, rfl, rfl⟩
  · split
    · exact ⟨rfl, rfl, rfl, rfl, rfl⟩
    · split
      · exact ⟨State.release_rst .., State.release_tb .., State.release_clk .., State.release_tw_waiting .., State.release_tw_mirror ..⟩
      · simp [State.SameStart]

/-- The record of a freeze that ended with a reset, the first one after START_COMPLETE. -/
def State.notesReleased (s : State) : State :=
  match s.frz.releasedDue with
  | some (t, w) => { s with frz := { s.frz with releasedDue := none } }.eventAon 0x0113 t w
  | none => s

def State.levelAnew (s : State) : State := { s with frz := { s.frz with waiting := false, ignored := false } }

theorem State.freezeAtStart_eq (s : State) :
    s.freezeAtStart =
      if s.notesReleased.frz.low then s.notesReleased.levelAnew.winterActed.showWinter
      else { s.notesReleased with frz := { s.notesReleased.frz with waiting := false } } := rfl

theorem State.notesReleased_sameStart (s : State) : s.SameStart s.notesReleased := by
  unfold State.notesReleased
  split
  · simp [State.SameStart]
  · exact ⟨rfl, rfl, rfl, rfl, rfl⟩

theorem State.notesReleased_frame (s : State) :
    s.notesReleased.mode = s.mode ∧ s.notesReleased.tw = s.tw ∧ s.notesReleased.clk = s.clk ∧ s.notesReleased.frz.low = s.frz.low := by
  unfold State.notesReleased
  split <;> simp

theorem State.freezeAtStart_sameStart (s : State) : s.SameStart s.freezeAtStart := by
  rw [s.freezeAtStart_eq]
  refine s.notesReleased_sameStart.trans ?_
  split
  · have hact := s.notesReleased.levelAnew.winterActed_sameStart
    have hshow : s.notesReleased.levelAnew.winterActed.SameStart s.notesReleased.levelAnew.winterActed.showWinter :=
      ⟨State.showWinter_rst _, State.showWinter_tb _, State.showWinter_clk _, congrArg (·.waiting) (State.showWinter_tw _), congrArg (·.mirror) (State.showWinter_tw _)⟩
    exact State.SameStart.trans (show s.notesReleased.SameStart s.notesReleased.levelAnew from ⟨rfl, rfl, rfl, rfl, rfl⟩) (hact.trans hshow)
  · exact ⟨rfl, rfl, rfl, rfl, rfl⟩

theorem State.freezeAtStart_high {s : State} (h : s.frz.low = false) : s.freezeAtStart.mode = s.mode ∧ s.freezeAtStart.tw = s.tw := by
  obtain ⟨hmode, htw, -, hlow⟩ := s.notesReleased_frame
  rw [s.freezeAtStart_eq, hlow, h]
  exact ⟨hmode, htw⟩

/-! ### Start-up completes (R118, R138) -/

/-- START_COMPLETE is recorded. -/
def State.notesComplete (s : State) : State :=
  { s with rst := { s.rst with complete := true } }.event 0x0109 s.mode.code ((s.clk - s.rst.t0) / 1000000) (s.nat Oid.RESET_REACH)

theorem State.startComplete_eq (s : State) : s.startComplete = s.notesComplete.fwStarted.freezeAtStart := rfl

theorem State.notesComplete_rst (s : State) : s.notesComplete.rst = { s.rst with complete := true } := State.event_rst ..

theorem State.startComplete_frame (s : State) :
    s.startComplete.rst.complete = true ∧ s.startComplete.tb = s.tb ∧ s.startComplete.clk = s.clk
      ∧ s.startComplete.tw.waiting = s.tw.waiting ∧ s.startComplete.tw.mirror = s.tw.mirror := by
  obtain ⟨hrst, htb, hclk, hwait, hmirror⟩ := s.notesComplete.fwStarted.freezeAtStart_sameStart
  rw [State.fwStarted_rst, State.notesComplete_rst] at hrst
  rw [State.fwStarted_tb] at htb
  rw [State.fwStarted_clk] at hclk
  rw [State.fwStarted_tw] at hwait hmirror
  rw [s.startComplete_eq]
  exact ⟨congrArg (·.complete) hrst, htb.trans (State.event_tb ..), hclk.trans (State.event_clk ..),
    hwait.trans (congrArg (·.waiting) (State.event_tw ..)), hmirror.trans (congrArg (·.mirror) (State.event_tw ..))⟩

theorem State.startComplete_high {s : State} (h : s.frz.low = false) : s.startComplete.mode = s.mode ∧ s.startComplete.tw = s.tw := by
  have hlow : s.notesComplete.fwStarted.frz.low = false := by
    rw [State.fwStarted_frz, State.notesComplete, State.event_frz]
    exact h
  obtain ⟨hmode, htw⟩ := State.freezeAtStart_high hlow
  rw [s.startComplete_eq]
  exact ⟨hmode.trans ((State.fwStarted_mode _).trans (State.event_mode ..)), htw.trans ((State.fwStarted_tw _).trans (State.event_tw ..))⟩

/-! ### The ends of start-up (R5, R135) -/

/-- The module waits for nothing any more, and follows the active module. -/
def State.joinsTwin (s : State) : State := { s with tw := { s.tw with waiting := false, watch := none, released := none } }

theorem State.startStandby_eq (s : State) :
    s.startStandby = (((s.joinsTwin.enter .standby 0).setStatus 5).resync 0).startComplete := rfl

theorem State.setStatus_status (s : State) (st : Nat) : (s.setStatus st).tb.status = st := by
  unfold State.setStatus
  split
  · assumption
  · simp [apply_ite State.tb, apply_ite TimeBase.status]

theorem State.resync_mirror (s : State) (c : Nat) : (s.resync c).tw.mirror = false := by
  simp [State.resync]

theorem State.startStandby_frame (s : State) :
    s.startStandby.rst.complete = true ∧ s.startStandby.tb.status = 5 ∧ s.startStandby.tw.waiting = false ∧ s.startStandby.tw.mirror = false
      ∧ (s.frz.low = false → s.startStandby.mode = .standby ∧ s.startStandby.tw.activeOut = s.tw.activeOut) := by
  have hstatus : (((s.joinsTwin.enter .standby 0).setStatus 5).resync 0).tb.status = 5 := by
    rw [State.resync_tb_status, State.setStatus_status]
  have hwait : (((s.joinsTwin.enter .standby 0).setStatus 5).resync 0).tw.waiting = false := by
    rw [State.resync_tw_waiting, State.setStatus_tw, State.enter_tw]
    rfl
  have hmirror := ((s.joinsTwin.enter .standby 0).setStatus 5).resync_mirror 0
  have hact : (((s.joinsTwin.enter .standby 0).setStatus 5).resync 0).tw.activeOut = s.tw.activeOut := by
    rw [State.resync_tw_activeOut, State.setStatus_tw, State.enter_tw]
    rfl
  have hfrz : (((s.joinsTwin.enter .standby 0).setStatus 5).resync 0).frz = s.frz := by
    rw [State.resync_frz, State.setStatus_frz, State.enter_frz]
    rfl
  have hmode : (((s.joinsTwin.enter .standby 0).setStatus 5).resync 0).mode = .standby := by
    rw [State.resync_mode, State.setStatus_mode, State.enter_mode]
  rw [s.startStandby_eq]
  generalize ((s.joinsTwin.enter .standby 0).setStatus 5).resync 0 = u at *
  obtain ⟨hc, htb, -, hw, hm⟩ := u.startComplete_frame
  refine ⟨hc, (congrArg (·.status) htb).trans hstatus, hw.trans hwait, hm.trans hmirror, fun hlow => ?_⟩
  obtain ⟨hmode', htw⟩ := State.startComplete_high (s := u) (by rw [hfrz, hlow])
  exact ⟨hmode'.trans hmode, (congrArg (·.activeOut) htw).trans hact⟩

/-- ACTIVE_OUT is asserted from now on, and no batch is open. -/
def State.takesOver (s : State) : State :=
  { s with tw := { s.tw with
    activeOut := true, refreshAt := s.clk, assertedAt := some s.clk, released := none, failed := false, waiting := false, watch := none
    openBatch := [], inStep := false } }

/-- The outputs follow, and the cars return. -/
def State.drivesOutputs (s : State) : State :=
  let s := s.takesOver.setBlob Oid.TW_HELD (mapBytes 0)
  ((s.enter (if s.cfgValid then .active else .service) 0).setAllSwitches).carsReturn

theorem State.startActive_eq (s : State) : s.startActive = s.drivesOutputs.startComplete.autoClose := rfl

theorem State.startActive_frame (s : State) :
    s.startActive.rst.complete = true ∧ s.startActive.clk = s.clk
      ∧ (s.frz.low = false → s.startActive.tw.activeOut = true ∧ s.startActive.mode = if s.cfgValid then .active else .service) := by
  obtain ⟨hc, -, hclk, -, -⟩ := s.drivesOutputs.startComplete_frame
  rw [s.startActive_eq, State.autoClose_rst, State.autoClose_clk, State.autoClose_tw, State.autoClose_mode]
  refine ⟨hc, hclk.trans ?_, fun hlow => ?_⟩
  · simp only [State.drivesOutputs, State.carsReturn_clk, State.setAllSwitches_clk, State.enter_clk, State.setBlob_clk]
    rfl
  · have hfrz : s.drivesOutputs.frz = s.frz := by
      simp only [State.drivesOutputs, State.carsReturn_frz, State.setAllSwitches_frz, State.enter_frz, State.setBlob_frz]
      rfl
    obtain ⟨hmode, htw⟩ := State.startComplete_high (s := s.drivesOutputs) (by rw [hfrz, hlow])
    rw [htw, hmode]
    constructor
    · simp only [State.drivesOutputs, State.carsReturn_tw, State.setAllSwitches_tw, State.enter_tw, State.setBlob_tw]
      rfl
    · simp only [State.drivesOutputs, State.carsReturn_mode, State.setAllSwitches_mode, State.enter_mode, State.setBlob_cfgValid]
      rfl

/-! ### The decision (R5, R38, R135) -/

/-- The state in which the decision is taken: steps 9 and 10 of start-up are done once. -/
def State.decides (s : State) : State := if s.tw.waiting || s.tw.watch.isSome then { s with out := [] } else ({ s with out := [] } : State).prepare

theorem exec_stateDecision {s : State} (h : s.mayDecide = true) : exec .stateDecision s = .next s.decides.decideState := by
  have hmay : ¬ (!s.start.mayDecide) = true := by
    rw [show s.start.mayDecide = true from h]
    decide
  exact congrArg Host.Outcome.next (if_neg hmay)

theorem State.decides_frame (s : State) : s.decides.mode = s.mode ∧ s.decides.frz = s.frz ∧ s.decides.rst = s.rst := by
  unfold State.decides
  split
  · exact ⟨rfl, rfl, rfl⟩
  · exact ⟨State.prepare_mode _, State.prepare_frz _, State.prepare_rst _⟩

theorem State.mayDecide_boot {s : State} (h : s.mayDecide = true) : s.mode = .boot ∧ s.rst.complete = false := by
  simp only [State.mayDecide, Bool.and_eq_true, beq_iff_eq, Bool.not_eq_true'] at h
  obtain ⟨⟨⟨⟨⟨⟨⟨⟨⟨hboot, -⟩, hcomplete⟩, -⟩, -⟩, -⟩, -⟩, -⟩, -⟩, -⟩ := h
  exact ⟨hboot, hcomplete⟩

/-- A module of position A waits for ACTIVE_IN to be deasserted (R38). -/
def State.waitsForTwin (s : State) : State := { s with tw := { s.tw with waiting := true, watch := none } }

/-- A module of position B watches ACTIVE_IN (R135). -/
def State.watchesTwin (s : State) : State := { s with tw := { s.tw with waiting := false, watch := some s.clk } }

section

variable {s : State}

theorem State.decideState_standby (h : s.nat Oid.TW_TWIN_STATE = 3) (h' : s.nat Oid.TW_TWIN_SUMMARY ≤ 1) : s.decideState = s.startStandby :=
  if_pos ⟨h, h'⟩

variable (h : ¬ (s.nat Oid.TW_TWIN_STATE = 3 ∧ s.nat Oid.TW_TWIN_SUMMARY ≤ 1))

include h

theorem State.decideState_waits (hin : s.activeIn = true) : s.decideState = s.waitsForTwin.reportHealth := (if_neg h).trans (if_pos hin)

theorem State.decideState_active (hin : s.activeIn = false) (hA : s.actsAsA = true) : s.decideState = s.startActive :=
  (if_neg h).trans ((if_neg (by simp [hin])).trans (if_pos hA))

theorem State.decideState_watches (hin : s.activeIn = false) (hA : s.actsAsA = false) (hw : s.tw.watch = none) : s.decideState = s.watchesTwin := by
  unfold State.decideState
  rw [if_neg h, if_neg (by simp [hin]), if_neg (by simp [hA])]
  simp only [hw]
  rfl

theorem State.decideState_watched (hin : s.activeIn = false) (hA : s.actsAsA = false) {n : Nat} (hw : s.tw.watch = some n) :
    s.decideState = (s.reach (n + ms 250)).startActive := by
  unfold State.decideState
  rw [if_neg h, if_neg (by simp [hin]), if_neg (by simp [hA])]
  simp only [hw]

end

/-- Settles O9: each branch of the decision, on the state that steps 9 and 10 leave. -/
theorem stateDecision : Obligations.StateDecision := by
  unfold Obligations.StateDecision
  intro s hmay _ p
  have hexec : exec .stateDecision s = .next p.decideState := exec_stateDecision hmay
  obtain ⟨hboot, hcomplete⟩ := State.mayDecide_boot hmay
  obtain ⟨hmode, hfrz, hrst⟩ : p.mode = s.mode ∧ p.frz = s.frz ∧ p.rst = s.rst := s.decides_frame
  clear_value p
  refine ⟨fun hstate hsum => ?_, fun hno hin => ?_, fun hno hin hA => ?_, fun hno hin hA => ⟨fun hw => ?_, fun n hw => ?_⟩⟩
  · obtain ⟨hc, hstatus, hwait, hmirror, hlow⟩ := p.startStandby_frame
    exact ⟨_, hexec.trans (congrArg _ (State.decideState_standby hstate hsum)), hc, hstatus, hwait, hmirror,
      fun h => hlow (by rw [hfrz, h])⟩
  · refine ⟨_, hexec.trans (congrArg _ (State.decideState_waits hno hin)), ?_, ?_, ?_, ?_⟩
    · rw [State.reportHealth_mode]
      exact hmode.trans hboot
    · rw [State.reportHealth_tw]
      rfl
    · rw [State.reportHealth_rst]
      exact (congrArg (·.complete) hrst).trans hcomplete
    · rw [State.reportHealth_tw]
      rfl
  · obtain ⟨hc, -, hlow⟩ := p.startActive_frame
    exact ⟨_, hexec.trans (congrArg _ (State.decideState_active hno hin hA)), hc, fun h => hlow (by rw [hfrz, h])⟩
  · exact ⟨_, hexec.trans (congrArg _ (State.decideState_watches hno hin hA hw)), hmode.trans hboot, rfl, rfl⟩
  · obtain ⟨hc, hclk, hlow⟩ := (p.reach (n + ms 250)).startActive_frame
    refine ⟨_, hexec.trans (congrArg _ (State.decideState_watched hno hin hA hw)), hc, ?_, fun h => ?_⟩
    · rw [hclk]
      exact p.le_reach_clk _
    · rw [State.reach_frz, State.reach_cfgValid] at hlow
      exact hlow (by rw [hfrz, h])

end Sys2Proof.Machine
end

section
/-! ### On-demand tests and accounts (R20, R21, R28, R235, R237) -/

namespace Sys2Proof.Machine

/-! ### A queued test starts (R20) -/

/-- The test runs, and has its item in the ledger. -/
def State.takesTest (s : State) (k : TestKind) (addMw : Nat) : State :=
  { s with testsOn := s.testsOn ++ [k], testQueue := s.testQueue.filter (fun t => t.1 != k) }.addItem (testItem k addMw)

theorem State.testBegin_frame (s : State) (k : TestKind) (addMw : Nat) :
    (s.testBegin k addMw).testsOn = (s.takesTest k addMw).testsOn ∧ (s.testBegin k addMw).testQueue = (s.takesTest k addMw).testQueue
      ∧ (s.testBegin k addMw).pts = (s.takesTest k addMw).pts ∧ (s.testBegin k addMw).mode = (s.takesTest k addMw).mode
      ∧ (s.testBegin k addMw).rcd = (s.takesTest k addMw).rcd := by
  cases k with
  | calibration i => exact ⟨rfl, rfl, rfl, rfl, rfl⟩
  | lineTest c => exact ⟨State.lineTestStart_testsOn .., State.lineTestStart_testQueue .., State.lineTestStart_pts .., State.lineTestStart_mode ..,
      State.lineTestStart_rcd ..⟩
  | selfTest => exact ⟨rfl, rfl, rfl, rfl, rfl⟩

theorem State.addItem_items (s : State) (i : Item) : (s.addItem i).pts.items = s.pts.items ++ [{ i with id := s.pts.nextItem }] := by
  simp [State.addItem]

theorem State.takesTest_frame (s : State) (k : TestKind) (addMw : Nat) :
    (s.takesTest k addMw).testsOn = s.testsOn ++ [k] ∧ (s.takesTest k addMw).testQueue = s.testQueue.filter (fun t => t.1 != k)
      ∧ (s.takesTest k addMw).mode = s.mode ∧ (s.takesTest k addMw).rcd = s.rcd
      ∧ (s.takesTest k addMw).pts.items = s.pts.items ++ [{ testItem k addMw with id := s.pts.nextItem }] := by
  refine ⟨?_, ?_, ?_, ?_, State.addItem_items ..⟩ <;> simp [State.takesTest]

theorem State.testBegin_started (s : State) (k : TestKind) (addMw : Nat) :
    k ∈ (s.testBegin k addMw).testsOn ∧ (∀ q ∈ (s.testBegin k addMw).testQueue, q.1 ≠ k)
      ∧ (∃ i ∈ (s.testBegin k addMw).pts.items, i.kind = .test (testNum k) ∧ i.charges = [(0x40, addMw), (0x48, testHeat addMw)])
      ∧ (s.testBegin k addMw).mode = s.mode ∧ (s.testBegin k addMw).rcd = s.rcd := by
  obtain ⟨hon, hqueue, hpts, hmode, hrcd⟩ := s.testBegin_frame k addMw
  obtain ⟨hon', hqueue', hmode', hrcd', hitems⟩ := s.takesTest_frame k addMw
  rw [hon, hon', hqueue, hqueue', hpts, hitems, hmode, hmode', hrcd, hrcd']
  refine ⟨by simp, fun q hq => ?_, ⟨_, List.mem_append_right _ (List.mem_singleton_self _), rfl, rfl⟩, rfl, rfl⟩
  simpa using (List.mem_filter.1 hq).2

/-! ### A running test is stopped (R21) -/

theorem State.endTest_testsOn (s : State) (n : Nat) : (s.endTest n).testsOn = s.testsOn.filter (fun t => testNum t != n) := by
  simp [State.endTest]

theorem State.not_mem_endTest (s : State) (n : Nat) : ∀ k ∈ (s.endTest n).testsOn, testNum k ≠ n := by
  intro k hk
  rw [s.endTest_testsOn] at hk
  simpa using (List.mem_filter.1 hk).2

theorem State.calStop_ends {s : State} {i c : Nat} (r : Nat) (h : (s.island i).cal = some c) :
    ∀ k ∈ (s.calStop i r).testsOn, testNum k ≠ i := by
  unfold State.calStop
  simp only [h]
  exact State.not_mem_endTest _ _

theorem State.testCut_ends (s : State) (k : TestKind) : ∀ k' ∈ (s.testCut k).testsOn, testNum k' ≠ testNum k := by
  cases k with
  | calibration i =>
    unfold State.testCut
    simp only
    split
    · exact State.not_mem_endTest _ _
    · next c hcal =>
      have hcal' : ((s.eventOf 0x0D02 (12 * i + c) (s.island i).step).island i).cal = some c := by
        rw [← hcal]
        exact congrArg (fun m : Metering => (m.islands.get {} i).cal) (State.eventOf_met ..)
      have hstop := State.calStop_ends 3 hcal'
      split
      · exact hstop
      · exact hstop
  | lineTest c => exact State.not_mem_endTest _ _
  | selfTest => exact State.not_mem_endTest _ _

/-- No self-test runs, and its period starts anew. -/
def State.endsPeriod (s : State) : State := { s with saf := { s.saf with testAt := none, periodAt := s.clk } }

/-- What the self-test showed. -/
def State.showsSelfTest (s : State) (st : Nat) : State := { s with tw := { s.tw with selfTest := decide (st = 3) } }

/-- The registers of a self-test that ends with a status. -/
def State.selfTestShown (s : State) (st : Nat) : State :=
  let s := (s.endsPeriod.endTest 28).setN Oid.SAFETY_TEST_STATE st
  let s := if st = 5 then s else (s.setN Oid.SAFETY_TEST_TIME s.time)
  if st = 5 then s else s.showsSelfTest st

theorem State.selfTestEnd_eq (s : State) (st : Nat) :
    s.selfTestEnd st =
      if s.saf.testAt.isNone then s
      else if st = 4 then (s.selfTestShown st).free.2.event 0x0512 4 ((s.selfTestShown st).free.1.toNat % 2 ^ 32)
      else (s.selfTestShown st).event 0x0512 st := by
  unfold State.selfTestEnd State.selfTestShown State.endsPeriod State.showsSelfTest
  with_reducible rfl

@[simp] theorem State.get_endsPeriod (s : State) (k : Key) : s.endsPeriod.get k = s.get k := State.get_congr rfl k
@[simp] theorem State.get_showsSelfTest (s : State) (st : Nat) (k : Key) : (s.showsSelfTest st).get k = s.get k := State.get_congr rfl k

theorem State.selfTestEnd_dieTemp (s : State) (st : Nat) : (s.selfTestEnd st).get Oid.DIE_TEMP = s.get Oid.DIE_TEMP := by
  have hshown : (s.selfTestShown st).get Oid.DIE_TEMP = s.get Oid.DIE_TEMP := by simp [State.selfTestShown, State.get_ite]
  rw [s.selfTestEnd_eq]
  split
  · rfl
  · split <;> simp [hshown]

/-- A release leaves the registers alone. -/
theorem State.release_get (s : State) (cause : Nat) (k : Key) (h : k.oid ≠ Oid.REC_DROPPED.oid) : (s.release cause).get k = s.get k := by
  cases hact : s.tw.activeOut with
  | false => rw [State.release_of_deasserted hact]
  | true =>
    have hleaves (u : State) : (u.leavesDriving cause).get k = u.get k := by
      unfold State.leavesDriving
      simp only
      split
      · exact State.get_event _ _ _ _ _ _ h.symm
      · rfl
    rw [State.release_of_asserted hact]
    split
    · rw [hleaves, State.tellsRelease_get _ _ _ h]
    · exact State.tellsRelease_get _ _ _ h

/-- The time since when the die has been cool (R663). -/
def State.notesCool (s : State) (t : Int) : State :=
  { s with rst := { s.rst with coolSince := if t < 1000 then some (s.rst.coolSince.getD s.clk) else none } }

/-- The heat account follows the temperature. -/
def State.heatFollows (s : State) (t : Int) : State :=
  let u := (s.set Oid.DIE_TEMP t).notesCool t
  if u.acctSize 0x48 < s.acctSize 0x48 then u.shrink 0x48 else if s.acctSize 0x48 < u.acctSize 0x48 then u.grow 0x48 else u

def State.notHot (s : State) : State := { s with pow := { s.pow with hot := false } }

theorem State.dieTemp_eq (s : State) (t : Int) :
    s.dieTemp t =
      if t < 1050 then (s.heatFollows t).notHot
      else if !(s.heatFollows t).booted then s.heatFollows t
      else (s.heatFollows t).thermalFault.releaseIfHealthy 6 := by
  unfold State.dieTemp State.heatFollows State.notesCool State.notHot
  with_reducible rfl

theorem State.heatFollows_dieTemp (s : State) (t : Int) : (s.heatFollows t).get Oid.DIE_TEMP = t := by
  have h : ((s.set Oid.DIE_TEMP t).notesCool t).get Oid.DIE_TEMP = t := (State.get_congr rfl _).trans (State.get_set_same ..)
  simp [State.heatFollows, State.get_ite, h]

theorem State.dieTemp_get (s : State) (t : Int) : (s.dieTemp t).get Oid.DIE_TEMP = t := by
  have h := s.heatFollows_dieTemp t
  rw [s.dieTemp_eq]
  split
  · exact (State.get_congr rfl _).trans h
  · split
    · exact h
    · unfold State.releaseIfHealthy
      split
      · rw [State.release_get _ _ _ (by decide), State.thermalFault_get_DIE_TEMP, h]
      · rw [State.thermalFault_get_DIE_TEMP, h]

theorem State.testCut_dieTemp (s : State) (k : TestKind) : (s.testCut k).get Oid.DIE_TEMP = s.get Oid.DIE_TEMP := by
  cases k with
  | calibration i =>
    unfold State.testCut
    simp only
    split
    · simp
    · split <;> simp
  | lineTest c => simp [State.testCut]
  | selfTest => simp [State.testCut, State.selfTestEnd_dieTemp]

/-! ### Accounts that shrink or grow (R28, R235, R237) -/

/-- The registers that the health of an account's path is read from. -/
def pathKeys : List Key := [Oid.PD_STATE, Oid.CK_GOOD, Oid.BLOCK_IN_RST, Oid.TW_LANES]

/-- What the health of an account's path is read from is the same, and so are the numbers of the items. -/
structure State.SamePaths (s t : State) : Prop where
  mode : t.mode = s.mode
  can : t.can = s.can
  healthy : t.pts.healthy = s.pts.healthy
  get : ∀ k ∈ pathKeys, t.get k = s.get k
  ids : t.pts.items.map Item.id = s.pts.items.map Item.id

theorem State.SamePaths.refl (s : State) : s.SamePaths s := ⟨rfl, rfl, rfl, fun _ _ => rfl, rfl⟩

theorem State.SamePaths.trans {s t u : State} (h : s.SamePaths t) (g : t.SamePaths u) : s.SamePaths u where
  mode := g.mode.trans h.mode
  can := g.can.trans h.can
  healthy := g.healthy.trans h.healthy
  get k hk := (g.get k hk).trans (h.get k hk)
  ids := g.ids.trans h.ids

theorem State.SamePaths.foldl {α : Type} {g : State → α → State} (hg : ∀ (s : State) a, s.SamePaths (g s a)) (l : List α) (s : State) :
    s.SamePaths (l.foldl g s) := by
  induction l generalizing s with
  | nil => exact .refl s
  | cons a l ih => exact (hg s a).trans (ih _)

theorem State.SamePaths.pathLost {s t : State} (h : s.SamePaths t) (a : Nat) : t.pathLost a = s.pathLost a := by
  have hpd : t.get Oid.PD_STATE = s.get Oid.PD_STATE := h.get _ (by decide)
  have hck : t.get Oid.CK_GOOD = s.get Oid.CK_GOOD := h.get _ (by decide)
  have hrst : t.get Oid.BLOCK_IN_RST = s.get Oid.BLOCK_IN_RST := h.get _ (by decide)
  have hlanes : t.get Oid.TW_LANES = s.get Oid.TW_LANES := h.get _ (by decide)
  have hup (d : Domain) : t.up d = s.up d := State.up_congr h.mode hpd hck d
  have hacct (b : Nat) : t.acctHealthy b = s.acctHealthy b := by
    simp [State.acctHealthy, State.runs, State.booted, State.pd, State.bit, State.nat, State.canCh, hup, h.mode, h.can, h.healthy, hpd, hrst, hlanes]
  simp [State.pathLost, State.leftOut, hacct]

theorem pathKeys_oid_lt {k : Key} (h : k ∈ pathKeys) : k.oid < 0x80000000 ∧ Oid.REC_DROPPED.oid ≠ k.oid := by
  simp only [pathKeys, List.mem_cons, List.not_mem_nil, or_false] at h
  rcases h with rfl | rfl | rfl | rfl <;> decide

/-- DEGRADED in a point's status is no path's. -/
theorem State.samePaths_markDegraded (s : State) (k : ItemKind) : s.SamePaths (s.markDegraded k) where
  mode := State.markDegraded_mode ..
  can := State.markDegraded_can ..
  healthy := State.markDegraded_pts_healthy ..
  get key hkey := by
    have hne (p : Nat) : (Oid.PT_STATUS p).oid ≠ key.oid := by
      have := (pathKeys_oid_lt hkey).1
      simp
      omega
    have hbit (u : State) (p i : Nat) (b : Bool) : (u.ptStatusBit p i b).get key = u.get key := by
      unfold State.ptStatusBit
      split
      · rfl
      · simp [hne, State.get_setBit_ne _ _ _ _ _ (hne p)]
    unfold State.markDegraded
    split <;> simp [hbit]
  ids := congrArg (List.map Item.id) (State.markDegraded_pts_items ..)

theorem State.samePaths_event (s : State) (code p0 p1 p2 : Nat) : s.SamePaths (s.event code p0 p1 p2) where
  mode := State.event_mode ..
  can := State.event_can ..
  healthy := congrArg (·.healthy) (State.event_pts ..)
  get key hkey := State.get_event _ _ _ _ _ _ (pathKeys_oid_lt hkey).2
  ids := congrArg (fun p : Points => p.items.map Item.id) (State.event_pts ..)

theorem State.samePaths_mirror (s : State) (b : BatchItem) : s.SamePaths (s.mirror b) where
  mode := State.mirror_mode ..
  can := State.mirror_can ..
  healthy := congrArg (·.healthy) (State.mirror_pts ..)
  get key _ := State.get_mirror ..
  ids := congrArg (fun p : Points => p.items.map Item.id) (State.mirror_pts ..)

/-! ### Items of the ledger change -/

/-- The items with one number are replaced. -/
def replaceItem (l : List Item) (i : Item) : List Item := l.map (fun x => if x.id = i.id then i else x)

theorem replaceItem_ids (l : List Item) (i : Item) : (replaceItem l i).map Item.id = l.map Item.id := by
  rw [replaceItem, List.map_map]
  refine List.map_congr_left fun x _ => ?_
  simp only [Function.comp]
  split <;> simp_all

theorem mem_replaceItem {l : List Item} {i x : Item} (h : x ∈ replaceItem l i) : x = i ∨ (x ∈ l ∧ x.id ≠ i.id) := by
  obtain ⟨y, hy, rfl⟩ := List.mem_map.1 h
  split
  · exact .inl rfl
  · next hne => exact .inr ⟨hy, hne⟩

theorem State.samePaths_setItem (s : State) (i : Item) : s.SamePaths (s.setItem i) :=
  ⟨rfl, rfl, rfl, fun _ _ => rfl, replaceItem_ids s.pts.items i⟩

theorem State.samePaths_degrade (s : State) (a : Nat) (i : Item) : s.SamePaths (s.degrade a i) :=
  (((s.samePaths_setItem _).trans (State.samePaths_markDegraded ..)).trans (State.samePaths_event ..)).trans (State.samePaths_mirror ..)

theorem State.samePaths_undegrade (s : State) (a : Nat) (i : Item) : s.SamePaths (s.undegrade a i) :=
  (((s.samePaths_setItem _).trans (State.samePaths_markDegraded ..)).trans (State.samePaths_event ..)).trans (State.samePaths_mirror ..)

theorem State.samePaths_swapItem (s : State) (i : Item) : s.SamePaths (s.swapItem i) :=
  ((s.samePaths_setItem _).trans (State.samePaths_event ..)).trans (State.samePaths_mirror ..)

theorem State.degrade_items (s : State) (a : Nat) (i : Item) :
    (s.degrade a i).pts.items = replaceItem s.pts.items { i with degraded := true } := by
  simp [State.degrade, State.setItem, replaceItem]

theorem State.undegrade_items (s : State) (a : Nat) (i : Item) :
    (s.undegrade a i).pts.items = replaceItem s.pts.items { i with degraded := false } := by
  simp [State.undegrade, State.setItem, replaceItem]

theorem State.swapItem_items (s : State) (i : Item) : (s.swapItem i).pts.items = replaceItem s.pts.items i.swap := by
  simp [State.swapItem, State.setItem, replaceItem]

/-! ### An account shrinks (R28, R235) -/

/-- Items of the classes A to D alone. -/
def State.Classed (s : State) : Prop := ∀ i ∈ s.pts.items, i.cls ≤ 3

/-- Every item that charges an account is degraded. -/
def State.AllDegraded (s : State) (a : Nat) : Prop := ∀ i ∈ s.pts.items, (i.charges.any (fun c => c.1 == a)) = true → i.degraded = true

theorem State.samePaths_moveItem (a : Nat) (s : State) (i : Item) : s.SamePaths (s.moveItem a i) := by
  unfold State.moveItem
  split
  · exact .refl s
  · exact s.samePaths_swapItem i

theorem State.Classed.moveItem {s : State} (h : s.Classed) (a : Nat) {i : Item} (hi : i.cls ≤ 3) : (s.moveItem a i).Classed := by
  unfold State.moveItem
  split
  · exact h
  · intro x hx
    rw [State.swapItem_items] at hx
    rcases mem_replaceItem hx with rfl | ⟨hx, -⟩
    · exact hi
    · exact h x hx

theorem State.Classed.foldl_moveItem {s : State} (h : s.Classed) (a : Nat) (l : List Item) (hl : ∀ i ∈ l, i.cls ≤ 3) :
    (l.foldl (State.moveItem a) s).Classed := by
  induction l generalizing s with
  | nil => exact h
  | cons i l ih => exact ih (h.moveItem a (hl i (List.mem_cons_self ..))) (fun j hj => hl j (List.mem_cons_of_mem _ hj))

theorem mem_latestFirst {l : List Item} {i : Item} (h : i ∈ l) (hc : i.cls ≤ 3) : i ∈ latestFirst l := by
  have hclass : i.cls ∈ [3, 2, 1, 0] := by
    simp only [List.mem_cons, List.not_mem_nil, or_false]
    omega
  exact List.mem_flatMap.2 ⟨i.cls, hclass, by simp [h]⟩

/-- After a list of items is degraded, an item is one of them, degraded, or none of them. -/
theorem State.mem_foldl_degrade (a : Nat) (l : List Item) (s : State) {x : Item} (h : x ∈ (l.foldl (fun s i => s.degrade a i) s).pts.items) :
    x.degraded = true ∨ (x ∈ s.pts.items ∧ ∀ i ∈ l, x.id ≠ i.id) := by
  induction l generalizing s with
  | nil => exact .inr ⟨h, by simp⟩
  | cons i l ih =>
    rcases ih (s.degrade a i) h with hd | ⟨hx, hl⟩
    · exact .inl hd
    · rw [State.degrade_items] at hx
      rcases mem_replaceItem hx with rfl | ⟨hx, hne⟩
      · exact .inl rfl
      · refine .inr ⟨hx, fun j hj => ?_⟩
        rcases List.mem_cons.1 hj with rfl | hj
        · exact hne
        · exact hl j hj

theorem State.samePaths_degradePathless (s : State) (a : Nat) : s.SamePaths (s.degradePathless a) := by
  unfold State.degradePathless
  split
  · exact .refl s
  · exact State.SamePaths.foldl (fun u i => u.samePaths_degrade a i) _ _

theorem State.allDegraded_degradePathless {s : State} {a : Nat} (h : s.pathLost a = true) (hc : s.Classed) : (s.degradePathless a).AllDegraded a := by
  intro x hx hcharge
  unfold State.degradePathless at hx
  rw [if_neg (by simp [h])] at hx
  rcases State.mem_foldl_degrade a _ s hx with hd | ⟨hmem, hnot⟩
  · exact hd
  · refine Classical.byContradiction fun hnd => hnot x (mem_latestFirst ?_ (hc x hmem)) rfl
    rw [List.mem_filter]
    exact ⟨hmem, by simp [hcharge, hnd]⟩

theorem State.AllDegraded.degrade {s : State} {a : Nat} (h : s.AllDegraded a) (i : Item) : (s.degrade a i).AllDegraded a := by
  intro x hx hcharge
  rw [State.degrade_items] at hx
  rcases mem_replaceItem hx with rfl | ⟨hx, -⟩
  · rfl
  · exact h x hx hcharge

/-- What each step of R235 on an account keeps, its repetition keeps. -/
theorem State.degradeOn_keeps (P : State → Prop) (a : Nat) (hP : ∀ s i, P s → P (s.degrade a i)) (n : Nat) (s : State) (h : P s) :
    P (State.degradeOn a n s) := by
  induction n generalizing s with
  | zero => exact h
  | succ n ih =>
    unfold State.degradeOn
    split
    · exact h
    · split
      · exact h
      · exact ih _ (hP _ _ h)

theorem State.samePaths_degradeOn (a n : Nat) (s : State) : s.SamePaths (State.degradeOn a n s) :=
  State.degradeOn_keeps (fun t => s.SamePaths t) a (fun t i h => h.trans (t.samePaths_degrade a i)) n s (.refl s)

theorem State.samePaths_shrink (s : State) (a : Nat) : s.SamePaths (s.shrink a) :=
  ((State.SamePaths.foldl (State.samePaths_moveItem a) _ s).trans (State.samePaths_degradePathless ..)).trans (State.samePaths_degradeOn ..)

theorem State.allDegraded_shrink {s : State} {a : Nat} (h : s.pathLost a = true) (hc : s.Classed) : (s.shrink a).AllDegraded a := by
  have hmoved : (s.pts.items.foldl (State.moveItem a) s).Classed := hc.foldl_moveItem a _ hc
  have hlost : (s.pts.items.foldl (State.moveItem a) s).pathLost a = true := by
    rw [(State.SamePaths.foldl (State.samePaths_moveItem a) _ s).pathLost a, h]
  exact State.degradeOn_keeps (fun t => t.AllDegraded a) a (fun t i ht => ht.degrade i) _ _ (State.allDegraded_degradePathless hlost hmoved)

/-! ### An account grows (R237) -/

/-- The degraded items were degraded in an earlier state. -/
def State.DegradedIn (s t : State) : Prop := ∀ i ∈ t.pts.items, i.degraded = true → ∃ j ∈ s.pts.items, j.id = i.id ∧ j.degraded = true

/-- An item that is degraded was degraded in an earlier state. -/
def State.Knew (s : State) (i : Item) : Prop := i.degraded = true → ∃ j ∈ s.pts.items, j.id = i.id ∧ j.degraded = true

theorem State.DegradedIn.swapItem {s t : State} (h : s.DegradedIn t) {i : Item} (hi : s.Knew i) : s.DegradedIn (t.swapItem i) := by
  intro x hx hd
  rw [State.swapItem_items] at hx
  rcases mem_replaceItem hx with rfl | ⟨hx, -⟩
  · exact hi hd
  · exact h x hx hd

theorem State.DegradedIn.undegrade {s t : State} (h : s.DegradedIn t) (a : Nat) (i : Item) : s.DegradedIn (t.undegrade a i) := by
  intro x hx hd
  rw [State.undegrade_items] at hx
  rcases mem_replaceItem hx with rfl | ⟨hx, -⟩
  · exact absurd hd (by simp)
  · exact h x hx hd

theorem State.DegradedIn.moveBack {s t : State} (h : s.DegradedIn t) (a : Nat) {i : Item} (hi : s.Knew i) : s.DegradedIn (t.moveBack a i) := by
  unfold State.moveBack
  split
  · exact h.swapItem hi
  · exact h

theorem State.DegradedIn.restoreItem {s t : State} (h : s.DegradedIn t) (a : Nat) {i : Item} (hi : s.Knew i) : s.DegradedIn (t.restoreItem a i) := by
  unfold State.restoreItem
  split
  · exact h
  · split
    · exact h.undegrade a i
    · split
      · exact (h.swapItem hi).undegrade a _
      · exact h

/-- What each step of a fold keeps for the items of its list, the fold keeps. -/
theorem State.DegradedIn.foldl {s : State} {g : State → Item → State} (hg : ∀ t i, s.DegradedIn t → s.Knew i → s.DegradedIn (g t i)) (l : List Item)
    (t : State) (h : s.DegradedIn t) (hl : ∀ i ∈ l, s.Knew i) : s.DegradedIn (l.foldl g t) := by
  induction l generalizing t with
  | nil => exact h
  | cons i l ih => exact ih _ (hg t i h (hl i (List.mem_cons_self ..))) (fun j hj => hl j (List.mem_cons_of_mem _ hj))

theorem mem_of_mem_earliestFirst {l : List Item} {i : Item} (h : i ∈ earliestFirst l) : i ∈ l := by
  obtain ⟨c, -, hi⟩ := List.mem_flatMap.1 h
  exact (List.mem_filter.1 hi).1

theorem State.degradedIn_grow (s : State) (a : Nat) : s.DegradedIn (s.grow a) := by
  have hmoved : s.DegradedIn (s.pts.items.foldl (State.moveBack a) s) :=
    State.DegradedIn.foldl (fun t i h hi => h.moveBack a hi) _ s (fun i hi hd => ⟨i, hi, rfl, hd⟩) (fun i hi hd => ⟨i, hi, rfl, hd⟩)
  exact State.DegradedIn.foldl (fun t i h hi => h.restoreItem a hi) _ _ hmoved (fun i hi => hmoved i (mem_of_mem_earliestFirst hi))

theorem State.samePaths_moveBack (a : Nat) (s : State) (i : Item) : s.SamePaths (s.moveBack a i) := by
  unfold State.moveBack
  split
  · exact s.samePaths_swapItem i
  · exact .refl s

theorem State.samePaths_restoreItem (a : Nat) (s : State) (i : Item) : s.SamePaths (s.restoreItem a i) := by
  unfold State.restoreItem
  split
  · exact .refl s
  · split
    · exact s.samePaths_undegrade a i
    · split
      · exact (s.samePaths_swapItem i).trans (State.samePaths_undegrade ..)
      · exact .refl s

theorem State.samePaths_grow (s : State) (a : Nat) : s.SamePaths (s.grow a) :=
  (State.SamePaths.foldl (State.samePaths_moveBack a) _ s).trans (State.SamePaths.foldl (State.samePaths_restoreItem a) _ _)

/-! ### The status of the time base in the registers -/

section

variable (s : State) (k : Key)

theorem State.timeMark_get (h : k.oid ≠ Oid.REC_DROPPED.oid) : s.timeMark.get k = s.get k := (State.get_event _ _ _ _ _ _ h.symm).trans (State.get_congr rfl k)

theorem State.gapKnown_get (h : k.oid ≠ Oid.REC_DROPPED.oid) (hg : k.oid ≠ Oid.LAST_GAP_MS.oid) : s.gapKnown.get k = s.get k := by
  unfold State.gapKnown
  split
  · rfl
  · unfold State.energyGap
    rw [State.get_event _ _ _ _ _ _ h.symm, State.get_setN_other _ _ _ _ hg.symm]
    rfl

/-- A module that had no time learns the length of a gap. -/
def State.learnsGap (s : State) : State := { s with met := { s.met with wasUnset := true } }.gapKnown

/-- The status of the time base is held and recorded. -/
def State.marksStatus (s : State) (st : Nat) : State :=
  ({ s with tb := { s.tb with status := st } }.setN Oid.TIME_STATUS st).timeMark

theorem State.setStatus_eq (st : Nat) :
    s.setStatus st =
      if s.tb.status = st then s
      else
        let t := if st = 3 ∨ st = 4 then (s.marksStatus st).flagIntervals 4 else s.marksStatus st
        if s.tb.status = 0 then t.learnsGap else t := rfl

theorem State.setStatus_get (st : Nat) (h : k.oid ≠ Oid.TIME_STATUS.oid) (hd : k.oid ≠ Oid.REC_DROPPED.oid) (hg : k.oid ≠ Oid.LAST_GAP_MS.oid) :
    (s.setStatus st).get k = s.get k := by
  have hmark : (s.marksStatus st).get k = s.get k := by
    unfold State.marksStatus
    rw [State.timeMark_get _ _ hd, State.get_setN_other _ _ _ _ h.symm]
    rfl
  have hflag : ((s.marksStatus st).flagIntervals 4).get k = (s.marksStatus st).get k := State.get_congr rfl k
  have hgap (u : State) : u.learnsGap.get k = u.get k := (State.gapKnown_get _ k hd hg).trans (State.get_congr rfl k)
  rw [s.setStatus_eq]
  split
  · rfl
  · simp only
    split <;> split <;> simp [hgap, hflag, hmark]

/-- The port is the follower port from now on, and a new grandmaster is recorded. -/
def State.portChanged (s : State) (q : Nat) : State :=
  let o := (Tbl.get none s.tb.portOffset q).getD 0
  let id := rankId (Tbl.get [] s.tb.ranks q)
  let same := s.blob Oid.PTP_GM_ID == leBytes 8 id
  let s := { s with tb := { s.tb with follower := q } }.event 0x1107 q (par o)
  if same then s else (s.setBlob Oid.PTP_GM_ID (leBytes 8 id)).event 0x1106 id (id / 4294967296)

/-- The measurements of the follower port start anew. -/
def State.acquires (s : State) : State := { s with tb := { s.tb with good := 0 } }.setStatus 1

theorem State.changePort_eq (q : Nat) :
    s.changePort q =
      if (s.portChanged q).twinTimed || (s.portChanged q).tb.status = 0 || (s.portChanged q).faulted then s.portChanged q
      else if (s.portChanged q).tb.status = 2 ∧ (Tbl.get none s.tb.portOffset q).isSome
        ∧ ((Tbl.get none s.tb.portOffset q).getD 0).natAbs ≤ 1000 then s.portChanged q
      else (s.portChanged q).acquires := by
  unfold State.changePort State.portChanged State.acquires
  with_reducible rfl

theorem State.changePort_get (q : Nat) (h : k.oid ≠ Oid.TIME_STATUS.oid) (hd : k.oid ≠ Oid.REC_DROPPED.oid) (hg : k.oid ≠ Oid.LAST_GAP_MS.oid) :
    (s.changePort q).get k = s.get k := by
  have hchanged : (s.portChanged q).get k = s.get k := by
    unfold State.portChanged
    simp only
    split
    · exact (State.get_event _ _ _ _ _ _ hd.symm).trans (State.get_congr rfl k)
    · rw [State.get_event _ _ _ _ _ _ hd.symm, State.get_setBlob, State.get_event _ _ _ _ _ _ hd.symm]
      rfl
  have hacq : (s.portChanged q).acquires.get k = (s.portChanged q).get k := (State.setStatus_get _ k 1 h hd hg).trans (State.get_congr rfl k)
  rw [s.changePort_eq]
  split
  · exact hchanged
  · split
    · exact hchanged
    · exact hacq.trans hchanged

end

theorem State.samePaths_ptpLinkLost (s : State) : s.SamePaths s.ptpLinkLost where
  mode := State.ptpLinkLost_mode ..
  can := State.ptpLinkLost_can ..
  healthy := State.ptpLinkLost_pts_healthy ..
  get k hk := by
    have hchange (q : Nat) : (s.changePort q).get k = s.get k := by
      simp only [pathKeys, List.mem_cons, List.not_mem_nil, or_false] at hk
      rcases hk with rfl | rfl | rfl | rfl <;> exact State.changePort_get _ _ _ (by decide) (by decide) (by decide)
    unfold State.ptpLinkLost
    simp only
    split
    · exact hchange _
    · rfl
  ids := congrArg (List.map Item.id) (State.ptpLinkLost_pts_items ..)

/-! ### The commands -/

theorem exec_testStart {s : State} (k : TestKind) (consMw addMw : Nat) (h : s.serving = true) :
    exec (.testStart k consMw addMw) s =
      .next (let p : State := { s with out := [], pow := { s.pow with consMw := consMw } }
        if p.testReady k && p.testFits consMw addMw then p.testBegin k addMw else p) :=
  congrArg Host.Outcome.next (if_pos h)

/-- A running test that is stopped: the state once the consumption and the temperature are read. -/
def State.readsHeat (s : State) (consMw : Nat) (die : Int) : State := ({ s with pow := { s.pow with consMw := consMw } } : State).dieTemp die

theorem exec_testStop {s : State} (k : TestKind) (consMw : Nat) (die : Int) (h : s.serving = true) :
    exec (.testStop k consMw die) s =
      .next (let u := s.start.readsHeat consMw die
        if u.testsOn.contains k && decide (u.acctSize 0x40 < consMw ∨ 1000 ≤ die) then u.testCut k else u) :=
  congrArg Host.Outcome.next (if_pos h)

theorem State.setHealthy_healthy (s : State) (a : Nat) (b : Bool) : Tbl.get true (s.setHealthy a b).pts.healthy a = b :=
  Tbl.get_put_same ..

/-- Settles O10: a test starts when it fits and is stopped by its reading; an account's items follow its path. -/
theorem testsAndAccounts : Obligations.TestsAndAccounts := by
  unfold Obligations.TestsAndAccounts
  intro s
  refine ⟨?_, fun k consMw die hserv hon hwhy => ?_, fun acct hbooted => ⟨?_, ?_⟩⟩
  · intro k consMw addMw hserv p
    refine ⟨fun hready hfits => ?_, fun hno => (exec_testStart k consMw addMw hserv).trans (congrArg _ (if_neg (by rw [hno]; decide)))⟩
    have hcond : (p.testReady k && p.testFits consMw addMw) = true := by rw [hready, hfits]; rfl
    obtain ⟨hstarted, hqueue, hitem, hmode, hrcd⟩ := p.testBegin_started k addMw
    exact ⟨_, (exec_testStart k consMw addMw hserv).trans (congrArg _ (if_pos hcond)), hstarted, hqueue, hitem, hmode, hrcd⟩
  · have hon' : (s.start.readsHeat consMw die).testsOn = s.testsOn := State.dieTemp_testsOn ..
    have hcond : ((s.start.readsHeat consMw die).testsOn.contains k
        && decide ((s.start.readsHeat consMw die).acctSize 0x40 < consMw ∨ 1000 ≤ die)) = true := by
      have hsize : (s.start.readsHeat consMw die).acctSize 0x40 = 55000 := rfl
      rw [hsize, hon']
      simpa [hon] using hwhy
    refine ⟨_, (exec_testStop k consMw die hserv).trans (congrArg _ (if_pos hcond)), State.testCut_ends _ k, ?_⟩
    rw [State.testCut_dieTemp]
    exact State.dieTemp_get ..
  · have hnot : ¬ (!s.start.booted) = true := by
      rw [show s.start.booted = true from hbooted]
      decide
    by_cases hport : portHealth acct.toNat = true
    · have hpaths : (s.start.setHealthy acct.toNat false).SamePaths
          (if acct.toNat < 2 then (s.start.acctDown acct.toNat).ptpLinkLost else s.start.acctDown acct.toNat) := by
        split
        · exact (State.samePaths_shrink ..).trans (State.samePaths_ptpLinkLost _)
        · exact State.samePaths_shrink ..
      have hall : (s.start.setHealthy acct.toNat false).pathLost acct.toNat = true → (s.start.setHealthy acct.toNat false).Classed →
          State.AllDegraded (if acct.toNat < 2 then (s.start.acctDown acct.toNat).ptpLinkLost else s.start.acctDown acct.toNat) acct.toNat := by
        intro hlost hclassed
        have hd := State.allDegraded_shrink hlost hclassed
        split
        · intro i hi
          rw [State.ptpLinkLost_pts_items] at hi
          exact hd i hi
        · exact hd
      refine ⟨_, congrArg Host.Outcome.next ((if_neg hnot).trans (if_pos hport)), fun _ => ?_, hpaths.ids, fun hlost hclassed => ?_⟩
      · exact (congrArg (Tbl.get true · acct.toNat) hpaths.healthy).trans (State.setHealthy_healthy ..)
      · rw [hpaths.pathLost] at hlost
        exact hall hlost hclassed
    · refine ⟨_, congrArg Host.Outcome.next ((if_neg hnot).trans (if_neg hport)), fun h => absurd h hport, (State.samePaths_shrink ..).ids,
        fun hlost hclassed => ?_⟩
      rw [(State.samePaths_shrink ..).pathLost] at hlost
      exact State.allDegraded_shrink hlost hclassed
  · have hnot : ¬ (!s.start.booted) = true := by
      rw [show s.start.booted = true from hbooted]
      decide
    by_cases hport : portHealth acct.toNat = true
    · have hpaths := (s.start.setHealthy acct.toNat true).samePaths_grow acct.toNat
      refine ⟨_, congrArg Host.Outcome.next ((if_neg hnot).trans (if_pos hport)), fun _ => ?_, hpaths.ids,
        (s.start.setHealthy acct.toNat true).degradedIn_grow acct.toNat⟩
      exact (congrArg (Tbl.get true · acct.toNat) hpaths.healthy).trans (State.setHealthy_healthy ..)
    · exact ⟨_, congrArg Host.Outcome.next ((if_neg hnot).trans (if_neg hport)), fun h => absurd h hport, (State.samePaths_grow ..).ids,
        s.start.degradedIn_grow acct.toNat⟩

end Sys2Proof.Machine
end

section
/-! ### What a step keeps of the records, of what is sent and of the time -/

namespace Sys2Proof.Machine

/-! ### A field of a state that is written out -/

theorem State.mk_rcd {a0 a1 a2 a3 a4 a5 a6 a7 a8 a9 a10 a11 a12 a13 a14 a15 a16 a17 a18 a19 a20 a21 a22 a23 a24 a25 a26 a27 a28 a29 a30} : (State.mk a0 a1 a2 a3 a4 a5 a6 a7 a8 a9 a10 a11 a12 a13 a14 a15 a16 a17 a18 a19 a20 a21 a22 a23 a24 a25 a26 a27 a28 a29 a30).rcd = a7 := rfl

theorem State.mk_out {a0 a1 a2 a3 a4 a5 a6 a7 a8 a9 a10 a11 a12 a13 a14 a15 a16 a17 a18 a19 a20 a21 a22 a23 a24 a25 a26 a27 a28 a29 a30} : (State.mk a0 a1 a2 a3 a4 a5 a6 a7 a8 a9 a10 a11 a12 a13 a14 a15 a16 a17 a18 a19 a20 a21 a22 a23 a24 a25 a26 a27 a28 a29 a30).out = a1 := rfl

theorem State.mk_clk {a0 a1 a2 a3 a4 a5 a6 a7 a8 a9 a10 a11 a12 a13 a14 a15 a16 a17 a18 a19 a20 a21 a22 a23 a24 a25 a26 a27 a28 a29 a30} : (State.mk a0 a1 a2 a3 a4 a5 a6 a7 a8 a9 a10 a11 a12 a13 a14 a15 a16 a17 a18 a19 a20 a21 a22 a23 a24 a25 a26 a27 a28 a29 a30).clk = a2 := rfl

/-- Every record that `s` holds, `t` holds too. -/
structure State.KeepsRecords (s t : State) : Prop where
  recorded : ∀ {code src p0 p1 p2 : Nat}, s.Recorded code src p0 p1 p2 → t.Recorded code src p0 p1 p2

section
variable {s t u : State}

theorem State.KeepsRecords.refl (s : State) : s.KeepsRecords s := ⟨fun h => h⟩

theorem State.KeepsRecords.trans (h : s.KeepsRecords t) (g : t.KeepsRecords u) : s.KeepsRecords u := ⟨fun r => g.recorded (h.recorded r)⟩

/-- The same, the later part first. -/
theorem State.KeepsRecords.after (g : t.KeepsRecords u) (h : s.KeepsRecords t) : s.KeepsRecords u := h.trans g

theorem State.KeepsRecords.of_rcd (h : t.rcd = s.rcd) : s.KeepsRecords t := ⟨fun r => r.congr h⟩

theorem State.KeepsRecords.set_rcd (e : u.rcd = t.rcd) (h : s.KeepsRecords t) : s.KeepsRecords u := h.trans (.of_rcd e)

theorem State.KeepsRecords.ite {c : Prop} [Decidable c] (h : s.KeepsRecords t) (g : s.KeepsRecords u) : s.KeepsRecords (if c then t else u) := by
  split
  · exact h
  · exact g

theorem State.KeepsRecords.foldl {α : Type} {g : State → α → State} (hg : ∀ (s : State) a, s.KeepsRecords (g s a)) (l : List α) (s : State) :
    s.KeepsRecords (l.foldl g s) := by
  induction l generalizing s with
  | nil => exact .refl s
  | cons a l ih => exact (hg s a).trans (ih _)

theorem State.KeepsRecords.foldl_fst {α β : Type} {g : State × β → α → State × β} (hg : ∀ (r : State × β) a, r.1.KeepsRecords (g r a).1) (l : List α)
    (r : State × β) : r.1.KeepsRecords (l.foldl g r).1 := by
  induction l generalizing r with
  | nil => exact .refl r.1
  | cons a l ih => exact (hg r a).trans (ih _)

end

theorem State.accept_records (s : State) (code src p0 p1 p2 : Nat) (a : Bool) : s.KeepsRecords (s.accept code src p0 p1 p2 a) :=
  ⟨fun h => s.accept_keeps code src p0 p1 p2 a h⟩

theorem State.eventAon_records (s : State) (code p0 p1 p2 : Nat) : s.KeepsRecords (s.eventAon code p0 p1 p2) :=
  ⟨fun h => s.eventAon_keeps code p0 p1 p2 h⟩

theorem State.offer_records (s : State) (code src p0 p1 p2 : Nat) : s.KeepsRecords (s.offer code src p0 p1 p2) :=
  ⟨fun h => s.offer_keeps code src p0 p1 p2 h⟩

theorem State.event_records (s : State) (code p0 p1 p2 : Nat) : s.KeepsRecords (s.event code p0 p1 p2) :=
  ⟨fun h => s.event_keeps code p0 p1 p2 h⟩

theorem State.eventOf_records (s : State) (code src p0 p1 p2 : Nat) : s.KeepsRecords (s.eventOf code src p0 p1 p2) :=
  ⟨fun h => s.eventOf_keeps code src p0 p1 p2 h⟩

theorem State.flushRecords_records (s : State) : s.KeepsRecords s.flushRecords := ⟨fun h => State.flushRecords_recorded h⟩

/-- Nothing that `s` has sent is missing from what `t` has sent. -/
structure State.KeepsOut (s t : State) : Prop where
  subset : s.out ⊆ t.out

section
variable {s t u : State}

theorem State.KeepsOut.refl (s : State) : s.KeepsOut s := ⟨List.Subset.refl _⟩

theorem State.KeepsOut.trans (h : s.KeepsOut t) (g : t.KeepsOut u) : s.KeepsOut u := ⟨List.Subset.trans h.subset g.subset⟩

/-- The same, the later part first. -/
theorem State.KeepsOut.after (g : t.KeepsOut u) (h : s.KeepsOut t) : s.KeepsOut u := h.trans g

theorem State.KeepsOut.of_out (h : t.out = s.out) : s.KeepsOut t := ⟨h ▸ List.Subset.refl _⟩

theorem State.KeepsOut.set_out (e : u.out = t.out) (h : s.KeepsOut t) : s.KeepsOut u := h.trans (.of_out e)

theorem State.KeepsOut.ite {c : Prop} [Decidable c] (h : s.KeepsOut t) (g : s.KeepsOut u) : s.KeepsOut (if c then t else u) := by
  split
  · exact h
  · exact g

theorem State.KeepsOut.foldl {α : Type} {g : State → α → State} (hg : ∀ (s : State) a, s.KeepsOut (g s a)) (l : List α) (s : State) :
    s.KeepsOut (l.foldl g s) := by
  induction l generalizing s with
  | nil => exact .refl s
  | cons a l ih => exact (hg s a).trans (ih _)

theorem State.KeepsOut.foldl_fst {α β : Type} {g : State × β → α → State × β} (hg : ∀ (r : State × β) a, r.1.KeepsOut (g r a).1) (l : List α)
    (r : State × β) : r.1.KeepsOut (l.foldl g r).1 := by
  induction l generalizing r with
  | nil => exact .refl r.1
  | cons a l ih => exact (hg r a).trans (ih _)

end

theorem State.emit_outs (s : State) (o : Out) : s.KeepsOut (s.emit o) := ⟨fun _ h => List.mem_append_left _ h⟩

/-- The number of the next record is no lower in `t` than in `s`. -/
structure State.NumbersOn (s t : State) : Prop where
  next_le : s.rcd.next ≤ t.rcd.next

section
variable {s t u : State}

theorem State.NumbersOn.refl (s : State) : s.NumbersOn s := ⟨Nat.le_refl _⟩

theorem State.NumbersOn.trans (h : s.NumbersOn t) (g : t.NumbersOn u) : s.NumbersOn u := ⟨Nat.le_trans h.next_le g.next_le⟩

/-- The same, the later part first. -/
theorem State.NumbersOn.after (g : t.NumbersOn u) (h : s.NumbersOn t) : s.NumbersOn u := h.trans g

theorem State.NumbersOn.of_rcd (h : t.rcd = s.rcd) : s.NumbersOn t := ⟨Nat.le_of_eq (congrArg (·.next) h.symm)⟩

theorem State.NumbersOn.set_rcd (e : u.rcd = t.rcd) (h : s.NumbersOn t) : s.NumbersOn u := h.trans (.of_rcd e)

theorem State.NumbersOn.ite {c : Prop} [Decidable c] (h : s.NumbersOn t) (g : s.NumbersOn u) : s.NumbersOn (if c then t else u) := by
  split
  · exact h
  · exact g

theorem State.NumbersOn.foldl {α : Type} {g : State → α → State} (hg : ∀ (s : State) a, s.NumbersOn (g s a)) (l : List α) (s : State) :
    s.NumbersOn (l.foldl g s) := by
  induction l generalizing s with
  | nil => exact .refl s
  | cons a l ih => exact (hg s a).trans (ih _)

theorem State.NumbersOn.foldl_fst {α β : Type} {g : State × β → α → State × β} (hg : ∀ (r : State × β) a, r.1.NumbersOn (g r a).1) (l : List α)
    (r : State × β) : r.1.NumbersOn (l.foldl g r).1 := by
  induction l generalizing r with
  | nil => exact .refl r.1
  | cons a l ih => exact (hg r a).trans (ih _)

end

theorem State.accept_numbers (s : State) (code src p0 p1 p2 : Nat) (a : Bool) : s.NumbersOn (s.accept code src p0 p1 p2 a) :=
  ⟨Nat.le_trans (Nat.le_succ _) (Nat.le_of_eq (Recorder.advance_next _).symm)⟩

theorem State.eventAon_numbers (s : State) (code p0 p1 p2 : Nat) : s.NumbersOn (s.eventAon code p0 p1 p2) := s.accept_numbers ..

theorem State.offer_numbers (s : State) (code src p0 p1 p2 : Nat) : s.NumbersOn (s.offer code src p0 p1 p2) := by
  unfold State.offer
  split
  · exact ⟨Nat.le_of_eq (Recorder.mergeLast_next _).symm⟩
  · split
    · exact ⟨Nat.le_refl _⟩
    · exact s.accept_numbers ..

theorem State.event_numbers (s : State) (code p0 p1 p2 : Nat) : s.NumbersOn (s.event code p0 p1 p2) := s.offer_numbers ..

theorem State.eventOf_numbers (s : State) (code src p0 p1 p2 : Nat) : s.NumbersOn (s.eventOf code src p0 p1 p2) := s.offer_numbers ..

theorem State.flushRecords_numbers (s : State) : s.NumbersOn s.flushRecords := ⟨Nat.le_refl _⟩

theorem State.losePending_numbers (s : State) : s.NumbersOn s.losePending := ⟨Nat.le_refl _⟩

/-- No time is lost from `s` to `t`. -/
structure State.NotBefore (s t : State) : Prop where
  clk_le : s.clk ≤ t.clk

section
variable {s t u : State}

theorem State.NotBefore.refl (s : State) : s.NotBefore s := ⟨Nat.le_refl _⟩

theorem State.NotBefore.trans (h : s.NotBefore t) (g : t.NotBefore u) : s.NotBefore u := ⟨Nat.le_trans h.clk_le g.clk_le⟩

/-- The same, the later part first. -/
theorem State.NotBefore.after (g : t.NotBefore u) (h : s.NotBefore t) : s.NotBefore u := h.trans g

theorem State.NotBefore.of_clk (h : t.clk = s.clk) : s.NotBefore t := ⟨Nat.le_of_eq h.symm⟩

theorem State.NotBefore.set_clk (e : u.clk = t.clk) (h : s.NotBefore t) : s.NotBefore u := h.trans (.of_clk e)

theorem State.NotBefore.ite {c : Prop} [Decidable c] (h : s.NotBefore t) (g : s.NotBefore u) : s.NotBefore (if c then t else u) := by
  split
  · exact h
  · exact g

theorem State.NotBefore.foldl {α : Type} {g : State → α → State} (hg : ∀ (s : State) a, s.NotBefore (g s a)) (l : List α) (s : State) :
    s.NotBefore (l.foldl g s) := by
  induction l generalizing s with
  | nil => exact .refl s
  | cons a l ih => exact (hg s a).trans (ih _)

theorem State.NotBefore.foldl_fst {α β : Type} {g : State × β → α → State × β} (hg : ∀ (r : State × β) a, r.1.NotBefore (g r a).1) (l : List α)
    (r : State × β) : r.1.NotBefore (l.foldl g r).1 := by
  induction l generalizing r with
  | nil => exact .refl r.1
  | cons a l ih => exact (hg r a).trans (ih _)

end

theorem State.reach_times (s : State) (n : Nat) : s.NotBefore (s.reach n) := ⟨Nat.le_add_right ..⟩

end Sys2Proof.Machine
end

section
/-! ### What each function of the model leaves as it is, continued -/

namespace Sys2Proof.Machine

@[simp] theorem State.showSafety_met (s : State) (n) : (s.showSafety n).met = s.met := (rfl)
@[simp] theorem State.setSwitches_met (s : State) (n) : (s.setSwitches n).met = s.met := (rfl)
@[simp] theorem State.setAllSwitches_met (s : State) : s.setAllSwitches.met = s.met := by simp -implicitDefEqProofs [State.setAllSwitches]
@[simp] theorem State.showSafety_pow (s : State) (n) : (s.showSafety n).pow = s.pow := (rfl)
@[simp] theorem State.setSwitches_pow (s : State) (n) : (s.setSwitches n).pow = s.pow := (rfl)
@[simp] theorem State.setAllSwitches_pow (s : State) : s.setAllSwitches.pow = s.pow := by simp -implicitDefEqProofs [State.setAllSwitches]
@[simp] theorem State.showSafety_tb (s : State) (n) : (s.showSafety n).tb = s.tb := (rfl)
@[simp] theorem State.setSwitches_tb (s : State) (n) : (s.setSwitches n).tb = s.tb := (rfl)
@[simp] theorem State.setAllSwitches_tb (s : State) : s.setAllSwitches.tb = s.tb := by simp -implicitDefEqProofs [State.setAllSwitches]
@[simp] theorem State.autumnSave_mode (s : State) : s.autumnSave.mode = s.mode := by simp -implicitDefEqProofs [State.autumnSave, apply_ite State.mode]
@[simp] theorem State.energyStop_tw (s : State) (cause) : (s.energyStop cause).tw = s.tw := (rfl)
@[simp] theorem State.save_tw (s : State) (kind bad complete) : (s.save kind bad complete).tw = s.tw := by unfold State.save; split <;> rfl
@[simp] theorem State.autumnSave_tw (s : State) : s.autumnSave.tw = s.tw := by simp -implicitDefEqProofs [State.autumnSave, apply_ite State.tw]
@[simp] theorem State.save_pow (s : State) (kind bad complete) : (s.save kind bad complete).pow = s.pow := by unfold State.save; split <;> rfl
@[simp] theorem State.autumnSave_pow (s : State) : s.autumnSave.pow = s.pow := by simp -implicitDefEqProofs [State.autumnSave, apply_ite State.pow]
@[simp] theorem State.autumnSave_rcd (s : State) : s.autumnSave.rcd = s.rcd := by simp -implicitDefEqProofs [State.autumnSave, apply_ite State.rcd]
@[simp] theorem State.noteSource_met (s : State) (b) : (s.noteSource b).met = s.met := (rfl)
@[simp] theorem State.assertSource_clk (s : State) (b) : (s.assertSource b).clk = s.clk := by
  simp -implicitDefEqProofs only [State.assertSource]
  repeat' split
  all_goals simp -implicitDefEqProofs [apply_ite State.clk]
@[simp] theorem State.autumnEnd_clk (s : State) : s.autumnEnd.clk = s.clk := by simp -implicitDefEqProofs [State.autumnEnd, apply_ite State.clk]
@[simp] theorem State.loopsAtStart_mode (s : State) : s.loopsAtStart.mode = s.mode := by simp -implicitDefEqProofs [State.loopsAtStart]
@[simp] theorem State.loopsAtStart_clk (s : State) : s.loopsAtStart.clk = s.clk := by simp -implicitDefEqProofs [State.loopsAtStart]
@[simp] theorem State.loadBlock_mode (s : State) (b) : (s.loadBlock b).mode = s.mode := by
  unfold State.loadBlock
  split <;> simp -implicitDefEqProofs
@[simp] theorem State.loadBlock_clk (s : State) (b) : (s.loadBlock b).clk = s.clk := by
  unfold State.loadBlock
  split <;> simp -implicitDefEqProofs
@[simp] theorem State.showSafety_get_PD_STATE (s : State) (n) : (s.showSafety n).get Oid.PD_STATE = s.get Oid.PD_STATE := by simp -implicitDefEqProofs (disch := solve | simp (disch := solve | simp | (simp; omega)) [State.get_ite] | (simp [State.get_ite]; omega)) [State.showSafety]
@[simp] theorem State.setSwitches_get_PD_STATE (s : State) (n) : (s.setSwitches n).get Oid.PD_STATE = s.get Oid.PD_STATE := by simp -implicitDefEqProofs (disch := solve | simp (disch := solve | simp | (simp; omega)) [State.get_ite] | (simp [State.get_ite]; omega)) [State.setSwitches]
@[simp] theorem State.setAllSwitches_get_PD_STATE (s : State) : s.setAllSwitches.get Oid.PD_STATE = s.get Oid.PD_STATE := by simp -implicitDefEqProofs (disch := solve | simp (disch := solve | simp | (simp; omega)) [State.get_ite] | (simp [State.get_ite]; omega)) [State.setAllSwitches]
@[simp] theorem State.loadBlock_get_PD_STATE (s : State) (b) : (s.loadBlock b).get Oid.PD_STATE = s.get Oid.PD_STATE := by
  simp -implicitDefEqProofs only [State.loadBlock]
  repeat' split
  all_goals simp -implicitDefEqProofs (disch := solve | simp (disch := solve | simp | (simp; omega)) [State.get_ite] | (simp [State.get_ite]; omega)) [State.get_ite]
  all_goals rfl
@[simp] theorem State.showSafety_get_CK_GOOD (s : State) (n) : (s.showSafety n).get Oid.CK_GOOD = s.get Oid.CK_GOOD := by simp -implicitDefEqProofs (disch := solve | simp (disch := solve | simp | (simp; omega)) [State.get_ite] | (simp [State.get_ite]; omega)) [State.showSafety]
@[simp] theorem State.setSwitches_get_CK_GOOD (s : State) (n) : (s.setSwitches n).get Oid.CK_GOOD = s.get Oid.CK_GOOD := by simp -implicitDefEqProofs (disch := solve | simp (disch := solve | simp | (simp; omega)) [State.get_ite] | (simp [State.get_ite]; omega)) [State.setSwitches]
@[simp] theorem State.setAllSwitches_get_CK_GOOD (s : State) : s.setAllSwitches.get Oid.CK_GOOD = s.get Oid.CK_GOOD := by simp -implicitDefEqProofs (disch := solve | simp (disch := solve | simp | (simp; omega)) [State.get_ite] | (simp [State.get_ite]; omega)) [State.setAllSwitches]
@[simp] theorem State.loadBlock_get_CK_GOOD (s : State) (b) : (s.loadBlock b).get Oid.CK_GOOD = s.get Oid.CK_GOOD := by
  simp -implicitDefEqProofs only [State.loadBlock]
  repeat' split
  all_goals simp -implicitDefEqProofs (disch := solve | simp (disch := solve | simp | (simp; omega)) [State.get_ite] | (simp [State.get_ite]; omega)) [State.get_ite]
  all_goals rfl
@[simp] theorem State.showSafety_get_SPRING_STEP (s : State) (n) : (s.showSafety n).get Oid.SPRING_STEP = s.get Oid.SPRING_STEP := by simp -implicitDefEqProofs (disch := solve | simp (disch := solve | simp | (simp; omega)) [State.get_ite] | (simp [State.get_ite]; omega)) [State.showSafety]
@[simp] theorem State.setSwitches_get_SPRING_STEP (s : State) (n) : (s.setSwitches n).get Oid.SPRING_STEP = s.get Oid.SPRING_STEP := by simp -implicitDefEqProofs (disch := solve | simp (disch := solve | simp | (simp; omega)) [State.get_ite] | (simp [State.get_ite]; omega)) [State.setSwitches]
@[simp] theorem State.setAllSwitches_get_SPRING_STEP (s : State) : s.setAllSwitches.get Oid.SPRING_STEP = s.get Oid.SPRING_STEP := by simp -implicitDefEqProofs (disch := solve | simp (disch := solve | simp | (simp; omega)) [State.get_ite] | (simp [State.get_ite]; omega)) [State.setAllSwitches]
@[simp] theorem State.loadBlock_get_SPRING_STEP (s : State) (b) : (s.loadBlock b).get Oid.SPRING_STEP = s.get Oid.SPRING_STEP := by
  simp -implicitDefEqProofs only [State.loadBlock]
  repeat' split
  all_goals simp -implicitDefEqProofs (disch := solve | simp (disch := solve | simp | (simp; omega)) [State.get_ite] | (simp [State.get_ite]; omega)) [State.get_ite]
  all_goals rfl
@[simp] theorem State.canTakeMode_mode (s : State) (c m) : (s.canTakeMode c m).mode = s.mode := by simp -implicitDefEqProofs [State.canTakeMode, apply_ite State.mode]
@[simp] theorem State.canAtStart_mode (s : State) : s.canAtStart.mode = s.mode := by simp -implicitDefEqProofs [State.canAtStart]
@[simp] theorem State.canAtStart_clk (s : State) : s.canAtStart.clk = s.clk := by simp -implicitDefEqProofs [State.canAtStart]
@[simp] theorem State.swapItem_get_PD_STATE (s : State) (i) : (s.swapItem i).get Oid.PD_STATE = s.get Oid.PD_STATE := by simp -implicitDefEqProofs (disch := solve | simp (disch := solve | simp | (simp; omega)) [State.get_ite] | (simp [State.get_ite]; omega)) [State.swapItem]
@[simp] theorem State.moveItem_get_PD_STATE (a) (s : State) (i) : (s.moveItem a i).get Oid.PD_STATE = s.get Oid.PD_STATE := by
  unfold State.moveItem
  split <;> simp -implicitDefEqProofs (disch := solve | simp (disch := solve | simp | (simp; omega)) [State.get_ite] | (simp [State.get_ite]; omega))
@[simp] theorem State.ptStatusBit_get_PD_STATE (s : State) (p i b) : (s.ptStatusBit p i b).get Oid.PD_STATE = s.get Oid.PD_STATE := by
  unfold State.ptStatusBit
  split <;> simp -implicitDefEqProofs (disch := solve | simp (disch := solve | simp | (simp; omega)) [State.get_ite] | (simp [State.get_ite]; omega))
@[simp] theorem State.markDegraded_get_PD_STATE (s : State) (k) : (s.markDegraded k).get Oid.PD_STATE = s.get Oid.PD_STATE := by
  unfold State.markDegraded
  split <;> simp -implicitDefEqProofs (disch := solve | simp (disch := solve | simp | (simp; omega)) [State.get_ite] | (simp [State.get_ite]; omega))
@[simp] theorem State.degrade_get_PD_STATE (s : State) (a i) : (s.degrade a i).get Oid.PD_STATE = s.get Oid.PD_STATE := by simp -implicitDefEqProofs (disch := solve | simp (disch := solve | simp | (simp; omega)) [State.get_ite] | (simp [State.get_ite]; omega)) [State.degrade]
@[simp] theorem State.degradePathless_get_PD_STATE (s : State) (a) : (s.degradePathless a).get Oid.PD_STATE = s.get Oid.PD_STATE := by
  unfold State.degradePathless
  split <;> simp -implicitDefEqProofs (disch := solve | simp (disch := solve | simp | (simp; omega)) [State.get_ite] | (simp [State.get_ite]; omega))
@[simp] theorem State.degradeOn_get_PD_STATE (a a1) (s : State) : (s.degradeOn a a1).get Oid.PD_STATE = s.get Oid.PD_STATE := by
  fun_induction State.degradeOn a a1 s <;> simp_all
@[simp] theorem State.shrink_get_PD_STATE (s : State) (a) : (s.shrink a).get Oid.PD_STATE = s.get Oid.PD_STATE := by simp -implicitDefEqProofs (disch := solve | simp (disch := solve | simp | (simp; omega)) [State.get_ite] | (simp [State.get_ite]; omega)) [State.shrink]
@[simp] theorem State.moveBack_get_PD_STATE (a) (s : State) (i) : (s.moveBack a i).get Oid.PD_STATE = s.get Oid.PD_STATE := by
  unfold State.moveBack
  split <;> simp -implicitDefEqProofs (disch := solve | simp (disch := solve | simp | (simp; omega)) [State.get_ite] | (simp [State.get_ite]; omega))
@[simp] theorem State.undegrade_get_PD_STATE (s : State) (a i) : (s.undegrade a i).get Oid.PD_STATE = s.get Oid.PD_STATE := by simp -implicitDefEqProofs (disch := solve | simp (disch := solve | simp | (simp; omega)) [State.get_ite] | (simp [State.get_ite]; omega)) [State.undegrade]
@[simp] theorem State.restoreItem_get_PD_STATE (a) (s : State) (i) : (s.restoreItem a i).get Oid.PD_STATE = s.get Oid.PD_STATE := by simp -implicitDefEqProofs (disch := solve | simp (disch := solve | simp | (simp; omega)) [State.get_ite] | (simp [State.get_ite]; omega)) [State.restoreItem, State.get_ite]
@[simp] theorem State.grow_get_PD_STATE (s : State) (a) : (s.grow a).get Oid.PD_STATE = s.get Oid.PD_STATE := by simp -implicitDefEqProofs (disch := solve | simp (disch := solve | simp | (simp; omega)) [State.get_ite] | (simp [State.get_ite]; omega)) [State.grow]
@[simp] theorem State.canTakeMode_get_PD_STATE (s : State) (c m) : (s.canTakeMode c m).get Oid.PD_STATE = s.get Oid.PD_STATE := by simp -implicitDefEqProofs (disch := solve | simp (disch := solve | simp | (simp; omega)) [State.get_ite] | (simp [State.get_ite]; omega)) [State.canTakeMode, State.get_ite]
@[simp] theorem State.canAtStart_get_PD_STATE (s : State) : s.canAtStart.get Oid.PD_STATE = s.get Oid.PD_STATE := by simp -implicitDefEqProofs (disch := solve | simp (disch := solve | simp | (simp; omega)) [State.get_ite] | (simp [State.get_ite]; omega)) [State.canAtStart]
@[simp] theorem State.swapItem_get_CK_GOOD (s : State) (i) : (s.swapItem i).get Oid.CK_GOOD = s.get Oid.CK_GOOD := by simp -implicitDefEqProofs (disch := solve | simp (disch := solve | simp | (simp; omega)) [State.get_ite] | (simp [State.get_ite]; omega)) [State.swapItem]
@[simp] theorem State.moveItem_get_CK_GOOD (a) (s : State) (i) : (s.moveItem a i).get Oid.CK_GOOD = s.get Oid.CK_GOOD := by
  unfold State.moveItem
  split <;> simp -implicitDefEqProofs (disch := solve | simp (disch := solve | simp | (simp; omega)) [State.get_ite] | (simp [State.get_ite]; omega))
@[simp] theorem State.ptStatusBit_get_CK_GOOD (s : State) (p i b) : (s.ptStatusBit p i b).get Oid.CK_GOOD = s.get Oid.CK_GOOD := by
  unfold State.ptStatusBit
  split <;> simp -implicitDefEqProofs (disch := solve | simp (disch := solve | simp | (simp; omega)) [State.get_ite] | (simp [State.get_ite]; omega))
@[simp] theorem State.markDegraded_get_CK_GOOD (s : State) (k) : (s.markDegraded k).get Oid.CK_GOOD = s.get Oid.CK_GOOD := by
  unfold State.markDegraded
  split <;> simp -implicitDefEqProofs (disch := solve | simp (disch := solve | simp | (simp; omega)) [State.get_ite] | (simp [State.get_ite]; omega))
@[simp] theorem State.degrade_get_CK_GOOD (s : State) (a i) : (s.degrade a i).get Oid.CK_GOOD = s.get Oid.CK_GOOD := by simp -implicitDefEqProofs (disch := solve | simp (disch := solve | simp | (simp; omega)) [State.get_ite] | (simp [State.get_ite]; omega)) [State.degrade]
@[simp] theorem State.degradePathless_get_CK_GOOD (s : State) (a) : (s.degradePathless a).get Oid.CK_GOOD = s.get Oid.CK_GOOD := by
  unfold State.degradePathless
  split <;> simp -implicitDefEqProofs (disch := solve | simp (disch := solve | simp | (simp; omega)) [State.get_ite] | (simp [State.get_ite]; omega))
@[simp] theorem State.degradeOn_get_CK_GOOD (a a1) (s : State) : (s.degradeOn a a1).get Oid.CK_GOOD = s.get Oid.CK_GOOD := by
  fun_induction State.degradeOn a a1 s <;> simp_all
@[simp] theorem State.shrink_get_CK_GOOD (s : State) (a) : (s.shrink a).get Oid.CK_GOOD = s.get Oid.CK_GOOD := by simp -implicitDefEqProofs (disch := solve | simp (disch := solve | simp | (simp; omega)) [State.get_ite] | (simp [State.get_ite]; omega)) [State.shrink]
@[simp] theorem State.moveBack_get_CK_GOOD (a) (s : State) (i) : (s.moveBack a i).get Oid.CK_GOOD = s.get Oid.CK_GOOD := by
  unfold State.moveBack
  split <;> simp -implicitDefEqProofs (disch := solve | simp (disch := solve | simp | (simp; omega)) [State.get_ite] | (simp [State.get_ite]; omega))
@[simp] theorem State.undegrade_get_CK_GOOD (s : State) (a i) : (s.undegrade a i).get Oid.CK_GOOD = s.get Oid.CK_GOOD := by simp -implicitDefEqProofs (disch := solve | simp (disch := solve | simp | (simp; omega)) [State.get_ite] | (simp [State.get_ite]; omega)) [State.undegrade]
@[simp] theorem State.restoreItem_get_CK_GOOD (a) (s : State) (i) : (s.restoreItem a i).get Oid.CK_GOOD = s.get Oid.CK_GOOD := by simp -implicitDefEqProofs (disch := solve | simp (disch := solve | simp | (simp; omega)) [State.get_ite] | (simp [State.get_ite]; omega)) [State.restoreItem, State.get_ite]
@[simp] theorem State.grow_get_CK_GOOD (s : State) (a) : (s.grow a).get Oid.CK_GOOD = s.get Oid.CK_GOOD := by simp -implicitDefEqProofs (disch := solve | simp (disch := solve | simp | (simp; omega)) [State.get_ite] | (simp [State.get_ite]; omega)) [State.grow]
@[simp] theorem State.canTakeMode_get_CK_GOOD (s : State) (c m) : (s.canTakeMode c m).get Oid.CK_GOOD = s.get Oid.CK_GOOD := by simp -implicitDefEqProofs (disch := solve | simp (disch := solve | simp | (simp; omega)) [State.get_ite] | (simp [State.get_ite]; omega)) [State.canTakeMode, State.get_ite]
@[simp] theorem State.canAtStart_get_CK_GOOD (s : State) : s.canAtStart.get Oid.CK_GOOD = s.get Oid.CK_GOOD := by simp -implicitDefEqProofs (disch := solve | simp (disch := solve | simp | (simp; omega)) [State.get_ite] | (simp [State.get_ite]; omega)) [State.canAtStart]
@[simp] theorem State.swapItem_get_SPRING_STEP (s : State) (i) : (s.swapItem i).get Oid.SPRING_STEP = s.get Oid.SPRING_STEP := by simp -implicitDefEqProofs (disch := solve | simp (disch := solve | simp | (simp; omega)) [State.get_ite] | (simp [State.get_ite]; omega)) [State.swapItem]
@[simp] theorem State.moveItem_get_SPRING_STEP (a) (s : State) (i) : (s.moveItem a i).get Oid.SPRING_STEP = s.get Oid.SPRING_STEP := by
  unfold State.moveItem
  split <;> simp -implicitDefEqProofs (disch := solve | simp (disch := solve | simp | (simp; omega)) [State.get_ite] | (simp [State.get_ite]; omega))
@[simp] theorem State.ptStatusBit_get_SPRING_STEP (s : State) (p i b) : (s.ptStatusBit p i b).get Oid.SPRING_STEP = s.get Oid.SPRING_STEP := by
  unfold State.ptStatusBit
  split <;> simp -implicitDefEqProofs (disch := solve | simp (disch := solve | simp | (simp; omega)) [State.get_ite] | (simp [State.get_ite]; omega))
@[simp] theorem State.markDegraded_get_SPRING_STEP (s : State) (k) : (s.markDegraded k).get Oid.SPRING_STEP = s.get Oid.SPRING_STEP := by
  unfold State.markDegraded
  split <;> simp -implicitDefEqProofs (disch := solve | simp (disch := solve | simp | (simp; omega)) [State.get_ite] | (simp [State.get_ite]; omega))
@[simp] theorem State.degrade_get_SPRING_STEP (s : State) (a i) : (s.degrade a i).get Oid.SPRING_STEP = s.get Oid.SPRING_STEP := by simp -implicitDefEqProofs (disch := solve | simp (disch := solve | simp | (simp; omega)) [State.get_ite] | (simp [State.get_ite]; omega)) [State.degrade]
@[simp] theorem State.degradePathless_get_SPRING_STEP (s : State) (a) : (s.degradePathless a).get Oid.SPRING_STEP = s.get Oid.SPRING_STEP := by
  unfold State.degradePathless
  split <;> simp -implicitDefEqProofs (disch := solve | simp (disch := solve | simp | (simp; omega)) [State.get_ite] | (simp [State.get_ite]; omega))
@[simp] theorem State.degradeOn_get_SPRING_STEP (a a1) (s : State) : (s.degradeOn a a1).get Oid.SPRING_STEP = s.get Oid.SPRING_STEP := by
  fun_induction State.degradeOn a a1 s <;> simp_all
@[simp] theorem State.shrink_get_SPRING_STEP (s : State) (a) : (s.shrink a).get Oid.SPRING_STEP = s.get Oid.SPRING_STEP := by simp -implicitDefEqProofs (disch := solve | simp (disch := solve | simp | (simp; omega)) [State.get_ite] | (simp [State.get_ite]; omega)) [State.shrink]
@[simp] theorem State.moveBack_get_SPRING_STEP (a) (s : State) (i) : (s.moveBack a i).get Oid.SPRING_STEP = s.get Oid.SPRING_STEP := by
  unfold State.moveBack
  split <;> simp -implicitDefEqProofs (disch := solve | simp (disch := solve | simp | (simp; omega)) [State.get_ite] | (simp [State.get_ite]; omega))
@[simp] theorem State.undegrade_get_SPRING_STEP (s : State) (a i) : (s.undegrade a i).get Oid.SPRING_STEP = s.get Oid.SPRING_STEP := by simp -implicitDefEqProofs (disch := solve | simp (disch := solve | simp | (simp; omega)) [State.get_ite] | (simp [State.get_ite]; omega)) [State.undegrade]
@[simp] theorem State.restoreItem_get_SPRING_STEP (a) (s : State) (i) : (s.restoreItem a i).get Oid.SPRING_STEP = s.get Oid.SPRING_STEP := by simp -implicitDefEqProofs (disch := solve | simp (disch := solve | simp | (simp; omega)) [State.get_ite] | (simp [State.get_ite]; omega)) [State.restoreItem, State.get_ite]
@[simp] theorem State.grow_get_SPRING_STEP (s : State) (a) : (s.grow a).get Oid.SPRING_STEP = s.get Oid.SPRING_STEP := by simp -implicitDefEqProofs (disch := solve | simp (disch := solve | simp | (simp; omega)) [State.get_ite] | (simp [State.get_ite]; omega)) [State.grow]
@[simp] theorem State.canTakeMode_get_SPRING_STEP (s : State) (c m) : (s.canTakeMode c m).get Oid.SPRING_STEP = s.get Oid.SPRING_STEP := by simp -implicitDefEqProofs (disch := solve | simp (disch := solve | simp | (simp; omega)) [State.get_ite] | (simp [State.get_ite]; omega)) [State.canTakeMode, State.get_ite]
@[simp] theorem State.canAtStart_get_SPRING_STEP (s : State) : s.canAtStart.get Oid.SPRING_STEP = s.get Oid.SPRING_STEP := by simp -implicitDefEqProofs (disch := solve | simp (disch := solve | simp | (simp; omega)) [State.get_ite] | (simp [State.get_ite]; omega)) [State.canAtStart]
@[simp] theorem State.blocksOn_mode (s : State) (d) : (s.blocksOn d).mode = s.mode := by simp -implicitDefEqProofs [State.blocksOn, apply_ite State.mode]
@[simp] theorem State.blocksOn_clk (s : State) (d) : (s.blocksOn d).clk = s.clk := by simp -implicitDefEqProofs [State.blocksOn, apply_ite State.clk]
@[simp] theorem State.blocksOn_get_PD_STATE (s : State) (d) : (s.blocksOn d).get Oid.PD_STATE = s.get Oid.PD_STATE := by simp -implicitDefEqProofs (disch := solve | simp (disch := solve | simp | (simp; omega)) [State.get_ite] | (simp [State.get_ite]; omega)) [State.blocksOn]
@[simp] theorem State.blocksOn_get_CK_GOOD (s : State) (d) : (s.blocksOn d).get Oid.CK_GOOD = s.get Oid.CK_GOOD := by simp -implicitDefEqProofs (disch := solve | simp (disch := solve | simp | (simp; omega)) [State.get_ite] | (simp [State.get_ite]; omega)) [State.blocksOn]
@[simp] theorem State.blocksOn_get_SPRING_STEP (s : State) (d) : (s.blocksOn d).get Oid.SPRING_STEP = s.get Oid.SPRING_STEP := by simp -implicitDefEqProofs (disch := solve | simp (disch := solve | simp | (simp; omega)) [State.get_ite] | (simp [State.get_ite]; omega)) [State.blocksOn]
@[simp] theorem State.addItem_objs (s : State) (i) : (s.addItem i).objs = s.objs := by simp -implicitDefEqProofs [State.addItem]
@[simp] theorem State.get_addItem (s : State) (i) (key : Key) : (s.addItem i).get key = s.get key := State.get_congr (State.addItem_objs ..) key
@[simp] theorem State.nat_addItem (s : State) (i) (key : Key) : (s.addItem i).nat key = s.nat key := State.nat_congr (State.addItem_objs ..) key
@[simp] theorem State.flag_addItem (s : State) (i) (key : Key) : (s.addItem i).flag key = s.flag key := State.flag_congr (State.addItem_objs ..) key
@[simp] theorem State.swapItem_pow (s : State) (i) : (s.swapItem i).pow = s.pow := by simp -implicitDefEqProofs [State.swapItem]
@[simp] theorem State.moveBack_pow (a) (s : State) (i) : (s.moveBack a i).pow = s.pow := by
  unfold State.moveBack
  split <;> simp -implicitDefEqProofs
@[simp] theorem State.ptStatusBit_pow (s : State) (p i b) : (s.ptStatusBit p i b).pow = s.pow := by unfold State.ptStatusBit; split <;> rfl
@[simp] theorem State.markDegraded_pow (s : State) (k) : (s.markDegraded k).pow = s.pow := by
  unfold State.markDegraded
  split <;> simp -implicitDefEqProofs
@[simp] theorem State.undegrade_pow (s : State) (a i) : (s.undegrade a i).pow = s.pow := by simp -implicitDefEqProofs [State.undegrade]
@[simp] theorem State.restoreItem_pow (a) (s : State) (i) : (s.restoreItem a i).pow = s.pow := by simp -implicitDefEqProofs [State.restoreItem, apply_ite State.pow]
@[simp] theorem State.grow_pow (s : State) (a) : (s.grow a).pow = s.pow := by simp -implicitDefEqProofs [State.grow]
@[simp] theorem State.blocksOn_pow (s : State) (d) : (s.blocksOn d).pow = s.pow := by simp -implicitDefEqProofs [State.blocksOn, apply_ite State.pow]
@[simp] theorem State.disarmCompare_rcd (s : State) (n k) : (s.disarmCompare n k).rcd = s.rcd := by simp -implicitDefEqProofs [State.disarmCompare, apply_ite State.rcd]
@[simp] theorem State.posDisarm_rcd (s : State) (n) : (s.posDisarm n).rcd = s.rcd := by simp -implicitDefEqProofs [State.posDisarm]
@[simp] theorem State.posClear_rcd (s : State) (n) : (s.posClear n).rcd = s.rcd := by simp -implicitDefEqProofs [State.posClear]
@[simp] theorem State.showVoltage_rcd (s : State) (v) : (s.showVoltage v).rcd = s.rcd := (rfl)
@[simp] theorem State.zeroVoltage_rcd (s : State) (v) : (s.zeroVoltage v).rcd = s.rcd := (rfl)
@[simp] theorem State.showPulse_rcd (s : State) (x) : (s.showPulse x).rcd = s.rcd := (rfl)
@[simp] theorem State.spoilTrip_rcd (s : State) (c) : (s.spoilTrip c).rcd = s.rcd := by unfold State.spoilTrip; split <;> rfl
@[simp] theorem State.islandStart_rcd (s : State) (i) : (s.islandStart i).rcd = s.rcd := (rfl)
theorem State.showCurrent_records (s : State) (c) : s.KeepsRecords (s.showCurrent c) := .ite (.after (.of_rcd (State.setN_rcd ..)) (.ite (State.eventOf_records ..) (.refl _))) (.after (.foldl (fun _ _ => .of_rcd (State.setN_rcd ..)) _ _) (.after (.of_rcd (State.spoilTrip_rcd ..)) (.after (.of_rcd (State.setMetCh_rcd ..)) (.after (.of_rcd (State.setN_rcd ..)) (.ite (State.eventOf_records ..) (.refl _))))))
theorem State.showMetering_records (s : State) : s.KeepsRecords s.showMetering := .after (.foldl (fun _ _ => .of_rcd (State.showPulse_rcd ..)) _ _) (.after (.foldl (fun _ _ => State.showCurrent_records ..) _ _) (.after (.foldl (fun _ _ => .of_rcd (State.showVoltage_rcd ..)) _ _) (.foldl (fun _ _ => .of_rcd (State.zeroVoltage_rcd ..)) _ _)))
theorem State.swapItem_records (s : State) (i) : s.KeepsRecords (s.swapItem i) := .after (.of_rcd (State.mirror_rcd ..)) (.after (State.event_records ..) (.of_rcd (State.setItem_rcd ..)))
@[simp] theorem State.ptStatusBit_rcd (s : State) (p i b) : (s.ptStatusBit p i b).rcd = s.rcd := by unfold State.ptStatusBit; split <;> rfl
@[simp] theorem State.markDegraded_rcd (s : State) (k) : (s.markDegraded k).rcd = s.rcd := by
  unfold State.markDegraded
  split <;> simp -implicitDefEqProofs
theorem State.undegrade_records (s : State) (a i) : s.KeepsRecords (s.undegrade a i) := .after (.of_rcd (State.mirror_rcd ..)) (.after (State.event_records ..) (.after (.of_rcd (State.markDegraded_rcd ..)) (.of_rcd (State.setItem_rcd ..))))
theorem State.restoreItem_records (a) (s : State) (i) : s.KeepsRecords (s.restoreItem a i) := .ite (.refl _) (.ite (State.undegrade_records ..) (.ite (.after (State.undegrade_records ..) (State.swapItem_records ..)) (.refl _)))
theorem State.moveBack_records (a) (s : State) (i) : s.KeepsRecords (s.moveBack a i) := .ite (State.swapItem_records ..) (.refl _)
theorem State.grow_records (s : State) (a) : s.KeepsRecords (s.grow a) := .after (.foldl (fun _ _ => State.restoreItem_records ..) _ _) (.foldl (fun _ _ => State.moveBack_records ..) _ _)
theorem State.moveItem_records (a) (s : State) (i) : s.KeepsRecords (s.moveItem a i) := .ite (.refl _) (State.swapItem_records ..)
theorem State.degrade_records (s : State) (a i) : s.KeepsRecords (s.degrade a i) := .after (.of_rcd (State.mirror_rcd ..)) (.after (State.event_records ..) (.after (.of_rcd (State.markDegraded_rcd ..)) (.of_rcd (State.setItem_rcd ..))))
theorem State.degradePathless_records (s : State) (a) : s.KeepsRecords (s.degradePathless a) := .ite (.refl _) (.foldl (fun _ _ => State.degrade_records ..) _ _)
theorem State.enter_records (s : State) (m trigger) : s.KeepsRecords (s.enter m trigger) := .after (State.event_records ..) (.of_rcd rfl)
theorem State.degradeOn_records (a n : Nat) (s : State) : s.KeepsRecords (State.degradeOn a n s) := by
  induction n generalizing s with
  | zero => exact .refl s
  | succ n ih =>
    unfold State.degradeOn
    split
    · exact .refl s
    · split
      · exact .refl s
      · exact .after (ih _) (s.degrade_records ..)
theorem State.tellsRelease_records (s : State) (cause : Nat) : s.KeepsRecords (s.tellsRelease cause) := by
  unfold State.tellsRelease
  exact .ite (.after (.of_rcd (State.emit_rcd ..)) (.after (State.event_records ..) (.of_rcd rfl))) (.after (State.event_records ..) (.of_rcd rfl))
theorem State.release_records (s : State) (cause : Nat) : s.KeepsRecords (s.release cause) := by
  cases h : s.tw.activeOut
  · rw [State.release_of_deasserted h]
    exact .refl s
  · rw [State.release_of_asserted h]
    have hleave (u : State) : u.KeepsRecords (u.leavesDriving cause) :=
      .ite (.after (State.enter_records ..) (.of_rcd rfl)) (.of_rcd rfl)
    exact .ite ((s.tellsRelease_records cause).trans (hleave _)) (s.tellsRelease_records cause)
/-- The test and the calibration of an island end, and its channels show none. -/
def State.islandQuiet (s : State) (i : Nat) : State :=
  (List.range 12).foldl (fun s k => s.setBit (Oid.CH_STATUS (12 * i + k)) 10 false)
    (((if (s.island i).due then s.endTest i else s).calStop i 4).setN (Oid.MI_SHADOW i) 0xFF)
/-- The chains of an island are no longer measured. -/
def State.dropsChains (s : State) (i : Nat) : State := { s with met := { s.met with chains := s.met.chains.filter (fun x => decide (x.1 / 12 ≠ i)) } }
/-- The island shows its state. -/
def State.islandShows (s : State) (i st : Nat) : State := (s.setIsland i { s.island i with aborted := false }).setN (Oid.MI_STATE i) st
theorem State.islandStop_eq (s : State) (i st : Nat) : s.islandStop i st = (((s.islandQuiet i).dropsChains i).islandShows i st).showMetering := by
  unfold State.islandStop State.islandQuiet State.dropsChains State.islandShows
  with_reducible rfl
theorem State.dropsChains_rcd (s : State) (i : Nat) : (s.dropsChains i).rcd = s.rcd := rfl
theorem State.islandShows_rcd (s : State) (i st : Nat) : (s.islandShows i st).rcd = s.rcd := rfl
theorem State.islandStop_records (s : State) (i st : Nat) : s.KeepsRecords (s.islandStop i st) := by
  have hquiet : s.KeepsRecords (s.islandQuiet i) :=
    .after (.foldl (fun _ _ => .of_rcd (State.setBit_rcd ..)) _ _)
      (.after (.of_rcd (State.setN_rcd ..)) (.after (.of_rcd (State.calStop_rcd ..)) (.ite (.of_rcd (State.endTest_rcd ..)) (.refl _))))
  rw [s.islandStop_eq]
  exact .after (State.showMetering_records ..) (hquiet.trans (.of_rcd ((State.islandShows_rcd ..).trans (State.dropsChains_rcd ..))))
@[simp] theorem State.canReset_rcd (s : State) (c) : (s.canReset c).rcd = s.rcd := (rfl)
theorem State.setLoopMode_records (s : State) (c j m) : s.KeepsRecords (s.setLoopMode c j m) := .ite (.refl _) (.after (State.eventOf_records ..) (.of_rcd (State.setN_rcd ..)))
theorem State.doorLoopsOpen_records (s : State) (k) : s.KeepsRecords (s.doorLoopsOpen k) := .after (.of_rcd (State.set_rcd ..)) (.foldl (fun _ _ => .ite (.after (State.setLoopMode_records ..) (.ite (.after (State.setLoopMode_records ..) (.after (.of_rcd (State.setLoop_rcd ..)) (.of_rcd (State.set_rcd ..)))) (.of_rcd (State.set_rcd ..)))) (.ite (.after (State.setLoopMode_records ..) (.after (.of_rcd (State.setLoop_rcd ..)) (.of_rcd (State.set_rcd ..)))) (.of_rcd (State.set_rcd ..)))) _ _)
theorem State.closeLoop_records (s : State) (c j) : s.KeepsRecords (s.closeLoop c j) := .after (State.setLoopMode_records ..) (.of_rcd (State.setLoop_rcd ..))
theorem State.doorLoopsClose_records (s : State) (k) : s.KeepsRecords (s.doorLoopsClose k) := .foldl (fun _ _ => .ite (.ite (State.closeLoop_records ..) (.refl _)) (.after (State.setLoopMode_records ..) (.ite (State.closeLoop_records ..) (.refl _)))) _ _
theorem State.doorEnter_records (s : State) (k st) : s.KeepsRecords (s.doorEnter k st) := .ite (.after (State.doorLoopsClose_records ..) (.after (.of_rcd (State.setDoor_rcd ..)) (.of_rcd (State.setN_rcd ..)))) (.after (State.doorLoopsOpen_records ..) (.after (.of_rcd (State.setDoor_rcd ..)) (.of_rcd (State.setN_rcd ..))))
theorem State.doorReset_records (s : State) (k) : s.KeepsRecords (s.doorReset k) := .after (State.doorEnter_records ..) (.after (.of_rcd (State.set_rcd ..)) (.after (.of_rcd (State.set_rcd ..)) (.after (.of_rcd (State.setN_rcd ..)) (.of_rcd (State.setDoor_rcd ..)))))
theorem State.posReset_records (s : State) (n cause) : s.KeepsRecords (s.posReset n cause) := .ite (.after (State.eventOf_records ..) (.ite (.of_rcd (State.posDisarm_rcd ..)) (.after (.of_rcd (State.posClear_rcd ..)) (.of_rcd (State.posDisarm_rcd ..))))) (.ite (.of_rcd (State.posDisarm_rcd ..)) (.after (.of_rcd (State.posClear_rcd ..)) (.of_rcd (State.posDisarm_rcd ..))))
theorem State.shrink_records (s : State) (a) : s.KeepsRecords (s.shrink a) := .after (State.degradeOn_records ..) (.after (State.degradePathless_records ..) (.foldl (fun _ _ => State.moveItem_records ..) _ _))
theorem State.acctDown_records (s : State) (a) : s.KeepsRecords (s.acctDown a) := .after (State.shrink_records ..) (.of_rcd (State.setHealthy_rcd ..))
theorem State.canTakeMode_records (s : State) (c m) : s.KeepsRecords (s.canTakeMode c m) := .ite (.refl _) (.ite (.after (State.shrink_records ..) (.after (.of_rcd (State.dropItems_rcd ..)) (.ite (.after (.of_rcd (State.setN_rcd ..)) (.after (.of_rcd (State.setN_rcd ..)) (.of_rcd (State.setCan_rcd ..)))) (.of_rcd (State.setCan_rcd ..))))) (.ite (.after (State.grow_records ..) (.ite (.after (.of_rcd (State.setN_rcd ..)) (.after (.of_rcd (State.setN_rcd ..)) (.of_rcd (State.setCan_rcd ..)))) (.of_rcd (State.setCan_rcd ..)))) (.ite (.after (.of_rcd (State.setN_rcd ..)) (.after (.of_rcd (State.setN_rcd ..)) (.of_rcd (State.setCan_rcd ..)))) (.of_rcd (State.setCan_rcd ..)))))
theorem State.handshake_records (s : State) (k) : s.KeepsRecords (s.handshake k) := by
  unfold State.handshake
  exact .after (State.doorEnter_records ..) (.after (.of_rcd (State.setBit_rcd ..)) (.after (.of_rcd (State.setBit_rcd ..)) (.of_rcd (State.setDoor_rcd ..))))
theorem State.acctUp_records (s : State) (a) : s.KeepsRecords (s.acctUp a) := .after (State.grow_records ..) (.of_rcd (State.setHealthy_rcd ..))
theorem State.releaseIfHealthy_records (s : State) (cause) : s.KeepsRecords (s.releaseIfHealthy cause) := .ite (State.release_records ..) (.refl _)
theorem State.blockEnter_records (s : State) (b : Nat) : s.KeepsRecords (s.blockEnter b) := by
  unfold State.blockEnter
  cases blockAcct b
  · exact .ite (State.posReset_records ..) (.ite (.ite (State.doorReset_records ..) (.refl _)) (.ite (.of_rcd (State.canReset_rcd ..)) (.ite (.refl _) (State.islandStop_records ..))))
  · exact .after (State.acctDown_records ..) (.ite (State.posReset_records ..) (.ite (.ite (State.doorReset_records ..) (.refl _)) (.ite (.of_rcd (State.canReset_rcd ..)) (.ite (.refl _) (State.islandStop_records ..)))))
theorem State.blockLeave_records (s : State) (b : Nat) : s.KeepsRecords (s.blockLeave b) := by
  unfold State.blockLeave
  cases blockAcct b
  · exact .ite (.ite (State.handshake_records ..) (.refl _)) (.ite (State.canTakeMode_records ..) (.ite (.ite (.of_rcd (State.islandStart_rcd ..)) (.refl _)) (.refl _)))
  · exact .after (State.acctUp_records ..) (.ite (.ite (State.handshake_records ..) (.refl _)) (.ite (State.canTakeMode_records ..) (.ite (.ite (.of_rcd (State.islandStart_rcd ..)) (.refl _)) (.refl _))))
theorem State.blockRelease_records (s : State) (b) : s.KeepsRecords (s.blockRelease b) := .ite (.refl _) (.ite (.of_rcd (State.setBit_rcd ..)) (.after (State.event_records ..) (.after (State.blockLeave_records ..) (.after (.of_rcd (State.setBit_rcd ..)) (.of_rcd (State.setBit_rcd ..))))))
theorem State.clockBack_records (s : State) (d) : s.KeepsRecords (s.clockBack d) := .after (.foldl (fun _ _ => .ite (State.blockRelease_records ..) (.refl _)) _ _) (.after (State.eventAon_records ..) (.of_rcd (State.setBit_rcd ..)))
theorem State.blockAssert_records (s : State) (b cause) : s.KeepsRecords (s.blockAssert b cause) := .ite (.of_rcd (State.setBit_rcd ..)) (.after (State.event_records ..) (.after (State.blockEnter_records ..) (.set_rcd (State.mk_rcd ..) (.after (.of_rcd (State.setBit_rcd ..)) (.of_rcd (State.setBit_rcd ..))))))
theorem State.slaFault_records (s : State) (cause) : s.KeepsRecords (s.slaFault cause) := .ite (.refl _) (.after (.of_rcd (State.setAllSwitches_rcd ..)) (.after (State.release_records ..) (.after (State.event_records ..) (.after (.of_rcd (State.setN_rcd ..)) (.of_rcd rfl)))))
theorem State.openLoop_records (s : State) (c j) : s.KeepsRecords (s.openLoop c j) := .after (State.setLoopMode_records ..) (.after (.of_rcd (State.setLoop_rcd ..)) (.of_rcd (State.set_rcd ..)))
theorem State.loopsRestart_records (s : State) : s.KeepsRecords s.loopsRestart := .foldl (fun _ _ => State.openLoop_records ..) _ _
theorem State.clockGone_records (s : State) (d cause) : s.KeepsRecords (s.clockGone d cause) := .ite (.after (State.loopsRestart_records ..) (.ite (.after (State.slaFault_records ..) (.after (.foldl (fun _ _ => .ite (State.blockAssert_records ..) (.refl _)) _ _) (.after (State.eventAon_records ..) (.of_rcd (State.setBit_rcd ..))))) (.after (.foldl (fun _ _ => .ite (State.blockAssert_records ..) (.refl _)) _ _) (.after (State.eventAon_records ..) (.of_rcd (State.setBit_rcd ..)))))) (.ite (.after (State.slaFault_records ..) (.after (.foldl (fun _ _ => .ite (State.blockAssert_records ..) (.refl _)) _ _) (.after (State.eventAon_records ..) (.of_rcd (State.setBit_rcd ..))))) (.after (.foldl (fun _ _ => .ite (State.blockAssert_records ..) (.refl _)) _ _) (.after (State.eventAon_records ..) (.of_rcd (State.setBit_rcd ..)))))
theorem State.clockLost_records (s : State) (d cause) : s.KeepsRecords (s.clockLost d cause) := .after (.of_rcd (State.setAllSwitches_rcd ..)) (.after (State.releaseIfHealthy_records ..) (State.clockGone_records ..))
theorem State.tcxoLost_records (s : State) : s.KeepsRecords s.tcxoLost := .after (.of_rcd (State.setAllSwitches_rcd ..)) (.after (.foldl (fun _ _ => .ite (State.clockGone_records ..) (.refl _)) _ _) (.of_rcd rfl))
@[simp] theorem State.enter_get_CK_GOOD (s : State) (m trigger) : (s.enter m trigger).get Oid.CK_GOOD = s.get Oid.CK_GOOD := by
  simp -implicitDefEqProofs (disch := solve | simp (disch := solve | simp | (simp; omega)) [State.get_ite] | (simp [State.get_ite]; omega)) [State.enter, State.get_ite]
  all_goals rfl
@[simp] theorem State.enter_get_PD_STATE (s : State) (m trigger) : (s.enter m trigger).get Oid.PD_STATE = s.get Oid.PD_STATE := by
  simp -implicitDefEqProofs (disch := solve | simp (disch := solve | simp | (simp; omega)) [State.get_ite] | (simp [State.get_ite]; omega)) [State.enter, State.get_ite]
  all_goals rfl
@[simp] theorem State.showSafety_get_BLOCK_IN_RST (s : State) (n) : (s.showSafety n).get Oid.BLOCK_IN_RST = s.get Oid.BLOCK_IN_RST := by simp -implicitDefEqProofs (disch := solve | simp (disch := solve | simp | (simp; omega)) [State.get_ite] | (simp [State.get_ite]; omega)) [State.showSafety]
@[simp] theorem State.setSwitches_get_BLOCK_IN_RST (s : State) (n) : (s.setSwitches n).get Oid.BLOCK_IN_RST = s.get Oid.BLOCK_IN_RST := by simp -implicitDefEqProofs (disch := solve | simp (disch := solve | simp | (simp; omega)) [State.get_ite] | (simp [State.get_ite]; omega)) [State.setSwitches]
@[simp] theorem State.setAllSwitches_get_BLOCK_IN_RST (s : State) : s.setAllSwitches.get Oid.BLOCK_IN_RST = s.get Oid.BLOCK_IN_RST := by simp -implicitDefEqProofs (disch := solve | simp (disch := solve | simp | (simp; omega)) [State.get_ite] | (simp [State.get_ite]; omega)) [State.setAllSwitches]
@[simp] theorem State.enter_get_BLOCK_IN_RST (s : State) (m trigger) : (s.enter m trigger).get Oid.BLOCK_IN_RST = s.get Oid.BLOCK_IN_RST := by
  simp -implicitDefEqProofs (disch := solve | simp (disch := solve | simp | (simp; omega)) [State.get_ite] | (simp [State.get_ite]; omega)) [State.enter, State.get_ite]
  all_goals rfl
@[simp] theorem State.disarmCompare_get_CK_GOOD (s : State) (n k) : (s.disarmCompare n k).get Oid.CK_GOOD = s.get Oid.CK_GOOD := by simp -implicitDefEqProofs (disch := solve | simp (disch := solve | simp | (simp; omega)) [State.get_ite] | (simp [State.get_ite]; omega)) [State.disarmCompare, State.get_ite]
@[simp] theorem State.posDisarm_get_CK_GOOD (s : State) (n) : (s.posDisarm n).get Oid.CK_GOOD = s.get Oid.CK_GOOD := by simp -implicitDefEqProofs (disch := solve | simp (disch := solve | simp | (simp; omega)) [State.get_ite] | (simp [State.get_ite]; omega)) [State.posDisarm]
@[simp] theorem State.posClear_get_CK_GOOD (s : State) (n) : (s.posClear n).get Oid.CK_GOOD = s.get Oid.CK_GOOD := by simp -implicitDefEqProofs (disch := solve | simp (disch := solve | simp | (simp; omega)) [State.get_ite] | (simp [State.get_ite]; omega)) [State.posClear]
@[simp] theorem State.posReset_get_CK_GOOD (s : State) (n cause) : (s.posReset n cause).get Oid.CK_GOOD = s.get Oid.CK_GOOD := by simp -implicitDefEqProofs (disch := solve | simp (disch := solve | simp | (simp; omega)) [State.get_ite] | (simp [State.get_ite]; omega)) [State.posReset, State.get_ite]
@[simp] theorem State.setLoopMode_get_CK_GOOD (s : State) (c j m) : (s.setLoopMode c j m).get Oid.CK_GOOD = s.get Oid.CK_GOOD := by simp -implicitDefEqProofs (disch := solve | simp (disch := solve | simp | (simp; omega)) [State.get_ite] | (simp [State.get_ite]; omega)) [State.setLoopMode, State.get_ite]
@[simp] theorem State.closeLoop_get_CK_GOOD (s : State) (c j) : (s.closeLoop c j).get Oid.CK_GOOD = s.get Oid.CK_GOOD := by simp -implicitDefEqProofs (disch := solve | simp (disch := solve | simp | (simp; omega)) [State.get_ite] | (simp [State.get_ite]; omega)) [State.closeLoop]
@[simp] theorem State.doorLoopsClose_get_CK_GOOD (s : State) (k) : (s.doorLoopsClose k).get Oid.CK_GOOD = s.get Oid.CK_GOOD := by simp -implicitDefEqProofs (disch := solve | simp (disch := solve | simp | (simp; omega)) [State.get_ite] | (simp [State.get_ite]; omega)) [State.doorLoopsClose]
@[simp] theorem State.doorLoopsOpen_get_CK_GOOD (s : State) (k) : (s.doorLoopsOpen k).get Oid.CK_GOOD = s.get Oid.CK_GOOD := by simp -implicitDefEqProofs (disch := solve | simp (disch := solve | simp | (simp; omega)) [State.get_ite] | (simp [State.get_ite]; omega)) [State.doorLoopsOpen]
@[simp] theorem State.doorEnter_get_CK_GOOD (s : State) (k st) : (s.doorEnter k st).get Oid.CK_GOOD = s.get Oid.CK_GOOD := by simp -implicitDefEqProofs (disch := solve | simp (disch := solve | simp | (simp; omega)) [State.get_ite] | (simp [State.get_ite]; omega)) [State.doorEnter, State.get_ite]
@[simp] theorem State.doorReset_get_CK_GOOD (s : State) (k) : (s.doorReset k).get Oid.CK_GOOD = s.get Oid.CK_GOOD := by simp -implicitDefEqProofs (disch := solve | simp (disch := solve | simp | (simp; omega)) [State.get_ite] | (simp [State.get_ite]; omega)) [State.doorReset]
@[simp] theorem State.canReset_get_CK_GOOD (s : State) (c) : (s.canReset c).get Oid.CK_GOOD = s.get Oid.CK_GOOD := by simp -implicitDefEqProofs (disch := solve | simp (disch := solve | simp | (simp; omega)) [State.get_ite] | (simp [State.get_ite]; omega)) [State.canReset]
@[simp] theorem State.calStop_get_CK_GOOD (s : State) (i result) : (s.calStop i result).get Oid.CK_GOOD = s.get Oid.CK_GOOD := by
  simp -implicitDefEqProofs only [State.calStop]
  split <;> simp -implicitDefEqProofs (disch := solve | simp (disch := solve | simp | (simp; omega)) [State.get_ite] | (simp [State.get_ite]; omega)) [State.get_ite]
@[simp] theorem State.showVoltage_get_CK_GOOD (s : State) (v) : (s.showVoltage v).get Oid.CK_GOOD = s.get Oid.CK_GOOD := by simp -implicitDefEqProofs (disch := solve | simp (disch := solve | simp | (simp; omega)) [State.get_ite] | (simp [State.get_ite]; omega)) [State.showVoltage]
@[simp] theorem State.zeroVoltage_get_CK_GOOD (s : State) (v) : (s.zeroVoltage v).get Oid.CK_GOOD = s.get Oid.CK_GOOD := by simp -implicitDefEqProofs (disch := solve | simp (disch := solve | simp | (simp; omega)) [State.get_ite] | (simp [State.get_ite]; omega)) [State.zeroVoltage]
@[simp] theorem State.spoilTrip_objs (s : State) (c) : (s.spoilTrip c).objs = s.objs := by unfold State.spoilTrip; split <;> rfl
@[simp] theorem State.get_spoilTrip (s : State) (c) (key : Key) : (s.spoilTrip c).get key = s.get key := State.get_congr (State.spoilTrip_objs ..) key
@[simp] theorem State.nat_spoilTrip (s : State) (c) (key : Key) : (s.spoilTrip c).nat key = s.nat key := State.nat_congr (State.spoilTrip_objs ..) key
@[simp] theorem State.flag_spoilTrip (s : State) (c) (key : Key) : (s.spoilTrip c).flag key = s.flag key := State.flag_congr (State.spoilTrip_objs ..) key
@[simp] theorem State.showCurrent_get_CK_GOOD (s : State) (c) : (s.showCurrent c).get Oid.CK_GOOD = s.get Oid.CK_GOOD := by simp -implicitDefEqProofs (disch := solve | simp (disch := solve | simp | (simp; omega)) [State.get_ite] | (simp [State.get_ite]; omega)) [State.showCurrent, State.get_ite]
@[simp] theorem State.showPulse_get_CK_GOOD (s : State) (x) : (s.showPulse x).get Oid.CK_GOOD = s.get Oid.CK_GOOD := by simp -implicitDefEqProofs (disch := solve | simp (disch := solve | simp | (simp; omega)) [State.get_ite] | (simp [State.get_ite]; omega)) [State.showPulse]
@[simp] theorem State.showMetering_get_CK_GOOD (s : State) : s.showMetering.get Oid.CK_GOOD = s.get Oid.CK_GOOD := by simp -implicitDefEqProofs (disch := solve | simp (disch := solve | simp | (simp; omega)) [State.get_ite] | (simp [State.get_ite]; omega)) [State.showMetering]
@[simp] theorem State.disarmCompare_get_PD_STATE (s : State) (n k) : (s.disarmCompare n k).get Oid.PD_STATE = s.get Oid.PD_STATE := by simp -implicitDefEqProofs (disch := solve | simp (disch := solve | simp | (simp; omega)) [State.get_ite] | (simp [State.get_ite]; omega)) [State.disarmCompare, State.get_ite]
@[simp] theorem State.posDisarm_get_PD_STATE (s : State) (n) : (s.posDisarm n).get Oid.PD_STATE = s.get Oid.PD_STATE := by simp -implicitDefEqProofs (disch := solve | simp (disch := solve | simp | (simp; omega)) [State.get_ite] | (simp [State.get_ite]; omega)) [State.posDisarm]
@[simp] theorem State.posClear_get_PD_STATE (s : State) (n) : (s.posClear n).get Oid.PD_STATE = s.get Oid.PD_STATE := by simp -implicitDefEqProofs (disch := solve | simp (disch := solve | simp | (simp; omega)) [State.get_ite] | (simp [State.get_ite]; omega)) [State.posClear]
@[simp] theorem State.posReset_get_PD_STATE (s : State) (n cause) : (s.posReset n cause).get Oid.PD_STATE = s.get Oid.PD_STATE := by simp -implicitDefEqProofs (disch := solve | simp (disch := solve | simp | (simp; omega)) [State.get_ite] | (simp [State.get_ite]; omega)) [State.posReset, State.get_ite]
@[simp] theorem State.setLoopMode_get_PD_STATE (s : State) (c j m) : (s.setLoopMode c j m).get Oid.PD_STATE = s.get Oid.PD_STATE := by simp -implicitDefEqProofs (disch := solve | simp (disch := solve | simp | (simp; omega)) [State.get_ite] | (simp [State.get_ite]; omega)) [State.setLoopMode, State.get_ite]
@[simp] theorem State.closeLoop_get_PD_STATE (s : State) (c j) : (s.closeLoop c j).get Oid.PD_STATE = s.get Oid.PD_STATE := by simp -implicitDefEqProofs (disch := solve | simp (disch := solve | simp | (simp; omega)) [State.get_ite] | (simp [State.get_ite]; omega)) [State.closeLoop]
@[simp] theorem State.doorLoopsClose_get_PD_STATE (s : State) (k) : (s.doorLoopsClose k).get Oid.PD_STATE = s.get Oid.PD_STATE := by simp -implicitDefEqProofs (disch := solve | simp (disch := solve | simp | (simp; omega)) [State.get_ite] | (simp [State.get_ite]; omega)) [State.doorLoopsClose]
@[simp] theorem State.doorLoopsOpen_get_PD_STATE (s : State) (k) : (s.doorLoopsOpen k).get Oid.PD_STATE = s.get Oid.PD_STATE := by simp -implicitDefEqProofs (disch := solve | simp (disch := solve | simp | (simp; omega)) [State.get_ite] | (simp [State.get_ite]; omega)) [State.doorLoopsOpen]
@[simp] theorem State.doorEnter_get_PD_STATE (s : State) (k st) : (s.doorEnter k st).get Oid.PD_STATE = s.get Oid.PD_STATE := by simp -implicitDefEqProofs (disch := solve | simp (disch := solve | simp | (simp; omega)) [State.get_ite] | (simp [State.get_ite]; omega)) [State.doorEnter, State.get_ite]
@[simp] theorem State.doorReset_get_PD_STATE (s : State) (k) : (s.doorReset k).get Oid.PD_STATE = s.get Oid.PD_STATE := by simp -implicitDefEqProofs (disch := solve | simp (disch := solve | simp | (simp; omega)) [State.get_ite] | (simp [State.get_ite]; omega)) [State.doorReset]
@[simp] theorem State.canReset_get_PD_STATE (s : State) (c) : (s.canReset c).get Oid.PD_STATE = s.get Oid.PD_STATE := by simp -implicitDefEqProofs (disch := solve | simp (disch := solve | simp | (simp; omega)) [State.get_ite] | (simp [State.get_ite]; omega)) [State.canReset]
@[simp] theorem State.calStop_get_PD_STATE (s : State) (i result) : (s.calStop i result).get Oid.PD_STATE = s.get Oid.PD_STATE := by
  simp -implicitDefEqProofs only [State.calStop]
  split <;> simp -implicitDefEqProofs (disch := solve | simp (disch := solve | simp | (simp; omega)) [State.get_ite] | (simp [State.get_ite]; omega)) [State.get_ite]
@[simp] theorem State.showVoltage_get_PD_STATE (s : State) (v) : (s.showVoltage v).get Oid.PD_STATE = s.get Oid.PD_STATE := by simp -implicitDefEqProofs (disch := solve | simp (disch := solve | simp | (simp; omega)) [State.get_ite] | (simp [State.get_ite]; omega)) [State.showVoltage]
@[simp] theorem State.zeroVoltage_get_PD_STATE (s : State) (v) : (s.zeroVoltage v).get Oid.PD_STATE = s.get Oid.PD_STATE := by simp -implicitDefEqProofs (disch := solve | simp (disch := solve | simp | (simp; omega)) [State.get_ite] | (simp [State.get_ite]; omega)) [State.zeroVoltage]
@[simp] theorem State.showCurrent_get_PD_STATE (s : State) (c) : (s.showCurrent c).get Oid.PD_STATE = s.get Oid.PD_STATE := by simp -implicitDefEqProofs (disch := solve | simp (disch := solve | simp | (simp; omega)) [State.get_ite] | (simp [State.get_ite]; omega)) [State.showCurrent, State.get_ite]
@[simp] theorem State.showPulse_get_PD_STATE (s : State) (x) : (s.showPulse x).get Oid.PD_STATE = s.get Oid.PD_STATE := by simp -implicitDefEqProofs (disch := solve | simp (disch := solve | simp | (simp; omega)) [State.get_ite] | (simp [State.get_ite]; omega)) [State.showPulse]
@[simp] theorem State.showMetering_get_PD_STATE (s : State) : s.showMetering.get Oid.PD_STATE = s.get Oid.PD_STATE := by simp -implicitDefEqProofs (disch := solve | simp (disch := solve | simp | (simp; omega)) [State.get_ite] | (simp [State.get_ite]; omega)) [State.showMetering]
@[simp] theorem State.disarmCompare_get_BLOCK_IN_RST (s : State) (n k) : (s.disarmCompare n k).get Oid.BLOCK_IN_RST = s.get Oid.BLOCK_IN_RST := by simp -implicitDefEqProofs (disch := solve | simp (disch := solve | simp | (simp; omega)) [State.get_ite] | (simp [State.get_ite]; omega)) [State.disarmCompare, State.get_ite]
@[simp] theorem State.posDisarm_get_BLOCK_IN_RST (s : State) (n) : (s.posDisarm n).get Oid.BLOCK_IN_RST = s.get Oid.BLOCK_IN_RST := by simp -implicitDefEqProofs (disch := solve | simp (disch := solve | simp | (simp; omega)) [State.get_ite] | (simp [State.get_ite]; omega)) [State.posDisarm]
@[simp] theorem State.posClear_get_BLOCK_IN_RST (s : State) (n) : (s.posClear n).get Oid.BLOCK_IN_RST = s.get Oid.BLOCK_IN_RST := by simp -implicitDefEqProofs (disch := solve | simp (disch := solve | simp | (simp; omega)) [State.get_ite] | (simp [State.get_ite]; omega)) [State.posClear]
@[simp] theorem State.posReset_get_BLOCK_IN_RST (s : State) (n cause) : (s.posReset n cause).get Oid.BLOCK_IN_RST = s.get Oid.BLOCK_IN_RST := by simp -implicitDefEqProofs (disch := solve | simp (disch := solve | simp | (simp; omega)) [State.get_ite] | (simp [State.get_ite]; omega)) [State.posReset, State.get_ite]
@[simp] theorem State.setLoopMode_get_BLOCK_IN_RST (s : State) (c j m) : (s.setLoopMode c j m).get Oid.BLOCK_IN_RST = s.get Oid.BLOCK_IN_RST := by simp -implicitDefEqProofs (disch := solve | simp (disch := solve | simp | (simp; omega)) [State.get_ite] | (simp [State.get_ite]; omega)) [State.setLoopMode, State.get_ite]
@[simp] theorem State.closeLoop_get_BLOCK_IN_RST (s : State) (c j) : (s.closeLoop c j).get Oid.BLOCK_IN_RST = s.get Oid.BLOCK_IN_RST := by simp -implicitDefEqProofs (disch := solve | simp (disch := solve | simp | (simp; omega)) [State.get_ite] | (simp [State.get_ite]; omega)) [State.closeLoop]
@[simp] theorem State.doorLoopsClose_get_BLOCK_IN_RST (s : State) (k) : (s.doorLoopsClose k).get Oid.BLOCK_IN_RST = s.get Oid.BLOCK_IN_RST := by simp -implicitDefEqProofs (disch := solve | simp (disch := solve | simp | (simp; omega)) [State.get_ite] | (simp [State.get_ite]; omega)) [State.doorLoopsClose]
@[simp] theorem State.doorLoopsOpen_get_BLOCK_IN_RST (s : State) (k) : (s.doorLoopsOpen k).get Oid.BLOCK_IN_RST = s.get Oid.BLOCK_IN_RST := by simp -implicitDefEqProofs (disch := solve | simp (disch := solve | simp | (simp; omega)) [State.get_ite] | (simp [State.get_ite]; omega)) [State.doorLoopsOpen]
@[simp] theorem State.doorEnter_get_BLOCK_IN_RST (s : State) (k st) : (s.doorEnter k st).get Oid.BLOCK_IN_RST = s.get Oid.BLOCK_IN_RST := by simp -implicitDefEqProofs (disch := solve | simp (disch := solve | simp | (simp; omega)) [State.get_ite] | (simp [State.get_ite]; omega)) [State.doorEnter, State.get_ite]
@[simp] theorem State.doorReset_get_BLOCK_IN_RST (s : State) (k) : (s.doorReset k).get Oid.BLOCK_IN_RST = s.get Oid.BLOCK_IN_RST := by simp -implicitDefEqProofs (disch := solve | simp (disch := solve | simp | (simp; omega)) [State.get_ite] | (simp [State.get_ite]; omega)) [State.doorReset]
@[simp] theorem State.canReset_get_BLOCK_IN_RST (s : State) (c) : (s.canReset c).get Oid.BLOCK_IN_RST = s.get Oid.BLOCK_IN_RST := by simp -implicitDefEqProofs (disch := solve | simp (disch := solve | simp | (simp; omega)) [State.get_ite] | (simp [State.get_ite]; omega)) [State.canReset]
@[simp] theorem State.calStop_get_BLOCK_IN_RST (s : State) (i result) : (s.calStop i result).get Oid.BLOCK_IN_RST = s.get Oid.BLOCK_IN_RST := by
  simp -implicitDefEqProofs only [State.calStop]
  split <;> simp -implicitDefEqProofs (disch := solve | simp (disch := solve | simp | (simp; omega)) [State.get_ite] | (simp [State.get_ite]; omega)) [State.get_ite]
@[simp] theorem State.showVoltage_get_BLOCK_IN_RST (s : State) (v) : (s.showVoltage v).get Oid.BLOCK_IN_RST = s.get Oid.BLOCK_IN_RST := by simp -implicitDefEqProofs (disch := solve | simp (disch := solve | simp | (simp; omega)) [State.get_ite] | (simp [State.get_ite]; omega)) [State.showVoltage]
@[simp] theorem State.zeroVoltage_get_BLOCK_IN_RST (s : State) (v) : (s.zeroVoltage v).get Oid.BLOCK_IN_RST = s.get Oid.BLOCK_IN_RST := by simp -implicitDefEqProofs (disch := solve | simp (disch := solve | simp | (simp; omega)) [State.get_ite] | (simp [State.get_ite]; omega)) [State.zeroVoltage]
@[simp] theorem State.showCurrent_get_BLOCK_IN_RST (s : State) (c) : (s.showCurrent c).get Oid.BLOCK_IN_RST = s.get Oid.BLOCK_IN_RST := by simp -implicitDefEqProofs (disch := solve | simp (disch := solve | simp | (simp; omega)) [State.get_ite] | (simp [State.get_ite]; omega)) [State.showCurrent, State.get_ite]
@[simp] theorem State.showPulse_get_BLOCK_IN_RST (s : State) (x) : (s.showPulse x).get Oid.BLOCK_IN_RST = s.get Oid.BLOCK_IN_RST := by simp -implicitDefEqProofs (disch := solve | simp (disch := solve | simp | (simp; omega)) [State.get_ite] | (simp [State.get_ite]; omega)) [State.showPulse]
@[simp] theorem State.showMetering_get_BLOCK_IN_RST (s : State) : s.showMetering.get Oid.BLOCK_IN_RST = s.get Oid.BLOCK_IN_RST := by simp -implicitDefEqProofs (disch := solve | simp (disch := solve | simp | (simp; omega)) [State.get_ite] | (simp [State.get_ite]; omega)) [State.showMetering]
@[simp] theorem State.handshake_get_CK_GOOD (s : State) (k) : (s.handshake k).get Oid.CK_GOOD = s.get Oid.CK_GOOD := by simp -implicitDefEqProofs (disch := solve | simp (disch := solve | simp | (simp; omega)) [State.get_ite] | (simp [State.get_ite]; omega)) [State.handshake]
@[simp] theorem State.islandStart_get_CK_GOOD (s : State) (i) : (s.islandStart i).get Oid.CK_GOOD = s.get Oid.CK_GOOD := by simp -implicitDefEqProofs (disch := solve | simp (disch := solve | simp | (simp; omega)) [State.get_ite] | (simp [State.get_ite]; omega)) [State.islandStart]
@[simp] theorem State.acctUp_get_CK_GOOD (s : State) (a) : (s.acctUp a).get Oid.CK_GOOD = s.get Oid.CK_GOOD := by simp -implicitDefEqProofs (disch := solve | simp (disch := solve | simp | (simp; omega)) [State.get_ite] | (simp [State.get_ite]; omega)) [State.acctUp]
@[simp] theorem State.blockLeave_get_CK_GOOD (s : State) (b) : (s.blockLeave b).get Oid.CK_GOOD = s.get Oid.CK_GOOD := by
  simp -implicitDefEqProofs only [State.blockLeave]
  repeat' split
  all_goals simp -implicitDefEqProofs (disch := solve | simp (disch := solve | simp | (simp; omega)) [State.get_ite] | (simp [State.get_ite]; omega)) [State.get_ite]
@[simp] theorem State.blockRelease_get_CK_GOOD (s : State) (b) : (s.blockRelease b).get Oid.CK_GOOD = s.get Oid.CK_GOOD := by simp -implicitDefEqProofs (disch := solve | simp (disch := solve | simp | (simp; omega)) [State.get_ite] | (simp [State.get_ite]; omega)) [State.blockRelease, State.get_ite]
@[simp] theorem State.handshake_get_PD_STATE (s : State) (k) : (s.handshake k).get Oid.PD_STATE = s.get Oid.PD_STATE := by simp -implicitDefEqProofs (disch := solve | simp (disch := solve | simp | (simp; omega)) [State.get_ite] | (simp [State.get_ite]; omega)) [State.handshake]
@[simp] theorem State.islandStart_get_PD_STATE (s : State) (i) : (s.islandStart i).get Oid.PD_STATE = s.get Oid.PD_STATE := by simp -implicitDefEqProofs (disch := solve | simp (disch := solve | simp | (simp; omega)) [State.get_ite] | (simp [State.get_ite]; omega)) [State.islandStart]
@[simp] theorem State.acctUp_get_PD_STATE (s : State) (a) : (s.acctUp a).get Oid.PD_STATE = s.get Oid.PD_STATE := by simp -implicitDefEqProofs (disch := solve | simp (disch := solve | simp | (simp; omega)) [State.get_ite] | (simp [State.get_ite]; omega)) [State.acctUp]
@[simp] theorem State.blockLeave_get_PD_STATE (s : State) (b) : (s.blockLeave b).get Oid.PD_STATE = s.get Oid.PD_STATE := by
  simp -implicitDefEqProofs only [State.blockLeave]
  repeat' split
  all_goals simp -implicitDefEqProofs (disch := solve | simp (disch := solve | simp | (simp; omega)) [State.get_ite] | (simp [State.get_ite]; omega)) [State.get_ite]
@[simp] theorem State.blockRelease_get_PD_STATE (s : State) (b) : (s.blockRelease b).get Oid.PD_STATE = s.get Oid.PD_STATE := by simp -implicitDefEqProofs (disch := solve | simp (disch := solve | simp | (simp; omega)) [State.get_ite] | (simp [State.get_ite]; omega)) [State.blockRelease, State.get_ite]
@[simp] theorem State.clockBack_get_PD_STATE (s : State) (d) : (s.clockBack d).get Oid.PD_STATE = s.get Oid.PD_STATE := by simp -implicitDefEqProofs (disch := solve | simp (disch := solve | simp | (simp; omega)) [State.get_ite] | (simp [State.get_ite]; omega)) [State.clockBack]
@[simp] theorem State.handshake_get_BLOCK_IN_RST (s : State) (k) : (s.handshake k).get Oid.BLOCK_IN_RST = s.get Oid.BLOCK_IN_RST := by simp -implicitDefEqProofs (disch := solve | simp (disch := solve | simp | (simp; omega)) [State.get_ite] | (simp [State.get_ite]; omega)) [State.handshake]
@[simp] theorem State.swapItem_get_BLOCK_IN_RST (s : State) (i) : (s.swapItem i).get Oid.BLOCK_IN_RST = s.get Oid.BLOCK_IN_RST := by simp -implicitDefEqProofs (disch := solve | simp (disch := solve | simp | (simp; omega)) [State.get_ite] | (simp [State.get_ite]; omega)) [State.swapItem]
@[simp] theorem State.moveItem_get_BLOCK_IN_RST (a) (s : State) (i) : (s.moveItem a i).get Oid.BLOCK_IN_RST = s.get Oid.BLOCK_IN_RST := by
  unfold State.moveItem
  split <;> simp -implicitDefEqProofs (disch := solve | simp (disch := solve | simp | (simp; omega)) [State.get_ite] | (simp [State.get_ite]; omega))
@[simp] theorem State.ptStatusBit_get_BLOCK_IN_RST (s : State) (p i b) : (s.ptStatusBit p i b).get Oid.BLOCK_IN_RST = s.get Oid.BLOCK_IN_RST := by
  unfold State.ptStatusBit
  split <;> simp -implicitDefEqProofs (disch := solve | simp (disch := solve | simp | (simp; omega)) [State.get_ite] | (simp [State.get_ite]; omega))
@[simp] theorem State.markDegraded_get_BLOCK_IN_RST (s : State) (k) : (s.markDegraded k).get Oid.BLOCK_IN_RST = s.get Oid.BLOCK_IN_RST := by
  unfold State.markDegraded
  split <;> simp -implicitDefEqProofs (disch := solve | simp (disch := solve | simp | (simp; omega)) [State.get_ite] | (simp [State.get_ite]; omega))
@[simp] theorem State.degrade_get_BLOCK_IN_RST (s : State) (a i) : (s.degrade a i).get Oid.BLOCK_IN_RST = s.get Oid.BLOCK_IN_RST := by simp -implicitDefEqProofs (disch := solve | simp (disch := solve | simp | (simp; omega)) [State.get_ite] | (simp [State.get_ite]; omega)) [State.degrade]
@[simp] theorem State.degradePathless_get_BLOCK_IN_RST (s : State) (a) : (s.degradePathless a).get Oid.BLOCK_IN_RST = s.get Oid.BLOCK_IN_RST := by
  unfold State.degradePathless
  split <;> simp -implicitDefEqProofs (disch := solve | simp (disch := solve | simp | (simp; omega)) [State.get_ite] | (simp [State.get_ite]; omega))
@[simp] theorem State.degradeOn_get_BLOCK_IN_RST (a a1) (s : State) : (s.degradeOn a a1).get Oid.BLOCK_IN_RST = s.get Oid.BLOCK_IN_RST := by
  fun_induction State.degradeOn a a1 s <;> simp_all
@[simp] theorem State.shrink_get_BLOCK_IN_RST (s : State) (a) : (s.shrink a).get Oid.BLOCK_IN_RST = s.get Oid.BLOCK_IN_RST := by simp -implicitDefEqProofs (disch := solve | simp (disch := solve | simp | (simp; omega)) [State.get_ite] | (simp [State.get_ite]; omega)) [State.shrink]
@[simp] theorem State.moveBack_get_BLOCK_IN_RST (a) (s : State) (i) : (s.moveBack a i).get Oid.BLOCK_IN_RST = s.get Oid.BLOCK_IN_RST := by
  unfold State.moveBack
  split <;> simp -implicitDefEqProofs (disch := solve | simp (disch := solve | simp | (simp; omega)) [State.get_ite] | (simp [State.get_ite]; omega))
@[simp] theorem State.undegrade_get_BLOCK_IN_RST (s : State) (a i) : (s.undegrade a i).get Oid.BLOCK_IN_RST = s.get Oid.BLOCK_IN_RST := by simp -implicitDefEqProofs (disch := solve | simp (disch := solve | simp | (simp; omega)) [State.get_ite] | (simp [State.get_ite]; omega)) [State.undegrade]
@[simp] theorem State.restoreItem_get_BLOCK_IN_RST (a) (s : State) (i) : (s.restoreItem a i).get Oid.BLOCK_IN_RST = s.get Oid.BLOCK_IN_RST := by simp -implicitDefEqProofs (disch := solve | simp (disch := solve | simp | (simp; omega)) [State.get_ite] | (simp [State.get_ite]; omega)) [State.restoreItem, State.get_ite]
@[simp] theorem State.grow_get_BLOCK_IN_RST (s : State) (a) : (s.grow a).get Oid.BLOCK_IN_RST = s.get Oid.BLOCK_IN_RST := by simp -implicitDefEqProofs (disch := solve | simp (disch := solve | simp | (simp; omega)) [State.get_ite] | (simp [State.get_ite]; omega)) [State.grow]
@[simp] theorem State.canTakeMode_get_BLOCK_IN_RST (s : State) (c m) : (s.canTakeMode c m).get Oid.BLOCK_IN_RST = s.get Oid.BLOCK_IN_RST := by simp -implicitDefEqProofs (disch := solve | simp (disch := solve | simp | (simp; omega)) [State.get_ite] | (simp [State.get_ite]; omega)) [State.canTakeMode, State.get_ite]
@[simp] theorem State.islandStart_get_BLOCK_IN_RST (s : State) (i) : (s.islandStart i).get Oid.BLOCK_IN_RST = s.get Oid.BLOCK_IN_RST := by simp -implicitDefEqProofs (disch := solve | simp (disch := solve | simp | (simp; omega)) [State.get_ite] | (simp [State.get_ite]; omega)) [State.islandStart]
@[simp] theorem State.acctUp_get_BLOCK_IN_RST (s : State) (a) : (s.acctUp a).get Oid.BLOCK_IN_RST = s.get Oid.BLOCK_IN_RST := by simp -implicitDefEqProofs (disch := solve | simp (disch := solve | simp | (simp; omega)) [State.get_ite] | (simp [State.get_ite]; omega)) [State.acctUp]
@[simp] theorem State.blockLeave_get_BLOCK_IN_RST (s : State) (b) : (s.blockLeave b).get Oid.BLOCK_IN_RST = s.get Oid.BLOCK_IN_RST := by
  simp -implicitDefEqProofs only [State.blockLeave]
  repeat' split
  all_goals simp -implicitDefEqProofs (disch := solve | simp (disch := solve | simp | (simp; omega)) [State.get_ite] | (simp [State.get_ite]; omega)) [State.get_ite]
@[simp] theorem State.openLoop_get_CK_GOOD (s : State) (c j) : (s.openLoop c j).get Oid.CK_GOOD = s.get Oid.CK_GOOD := by simp -implicitDefEqProofs (disch := solve | simp (disch := solve | simp | (simp; omega)) [State.get_ite] | (simp [State.get_ite]; omega)) [State.openLoop]
@[simp] theorem State.loopsRestart_get_CK_GOOD (s : State) : s.loopsRestart.get Oid.CK_GOOD = s.get Oid.CK_GOOD := by simp -implicitDefEqProofs (disch := solve | simp (disch := solve | simp | (simp; omega)) [State.get_ite] | (simp [State.get_ite]; omega)) [State.loopsRestart]
@[simp] theorem State.openLoop_get_PD_STATE (s : State) (c j) : (s.openLoop c j).get Oid.PD_STATE = s.get Oid.PD_STATE := by simp -implicitDefEqProofs (disch := solve | simp (disch := solve | simp | (simp; omega)) [State.get_ite] | (simp [State.get_ite]; omega)) [State.openLoop]
@[simp] theorem State.loopsRestart_get_PD_STATE (s : State) : s.loopsRestart.get Oid.PD_STATE = s.get Oid.PD_STATE := by simp -implicitDefEqProofs (disch := solve | simp (disch := solve | simp | (simp; omega)) [State.get_ite] | (simp [State.get_ite]; omega)) [State.loopsRestart]
@[simp] theorem State.openLoop_get_BLOCK_IN_RST (s : State) (c j) : (s.openLoop c j).get Oid.BLOCK_IN_RST = s.get Oid.BLOCK_IN_RST := by simp -implicitDefEqProofs (disch := solve | simp (disch := solve | simp | (simp; omega)) [State.get_ite] | (simp [State.get_ite]; omega)) [State.openLoop]
@[simp] theorem State.loopsRestart_get_BLOCK_IN_RST (s : State) : s.loopsRestart.get Oid.BLOCK_IN_RST = s.get Oid.BLOCK_IN_RST := by simp -implicitDefEqProofs (disch := solve | simp (disch := solve | simp | (simp; omega)) [State.get_ite] | (simp [State.get_ite]; omega)) [State.loopsRestart]
@[simp] theorem State.setLoopMode_pow (s : State) (c j m) : (s.setLoopMode c j m).pow = s.pow := by simp -implicitDefEqProofs [State.setLoopMode, apply_ite State.pow]
@[simp] theorem State.closeLoop_pow (s : State) (c j) : (s.closeLoop c j).pow = s.pow := by simp -implicitDefEqProofs [State.closeLoop]
@[simp] theorem State.doorLoopsClose_pow (s : State) (k) : (s.doorLoopsClose k).pow = s.pow := by simp -implicitDefEqProofs [State.doorLoopsClose, apply_ite State.pow]
@[simp] theorem State.doorLoopsOpen_pow (s : State) (k) : (s.doorLoopsOpen k).pow = s.pow := by simp -implicitDefEqProofs [State.doorLoopsOpen, apply_ite State.pow]
@[simp] theorem State.doorEnter_pow (s : State) (k st) : (s.doorEnter k st).pow = s.pow := by simp -implicitDefEqProofs [State.doorEnter, apply_ite State.pow]
@[simp] theorem State.handshake_pow (s : State) (k) : (s.handshake k).pow = s.pow := by simp -implicitDefEqProofs [State.handshake]
@[simp] theorem State.moveItem_pow (a) (s : State) (i) : (s.moveItem a i).pow = s.pow := by
  unfold State.moveItem
  split <;> simp -implicitDefEqProofs
@[simp] theorem State.degrade_pow (s : State) (a i) : (s.degrade a i).pow = s.pow := by simp -implicitDefEqProofs [State.degrade]
@[simp] theorem State.degradePathless_pow (s : State) (a) : (s.degradePathless a).pow = s.pow := by
  unfold State.degradePathless
  split <;> simp -implicitDefEqProofs
@[simp] theorem State.degradeOn_pow (a a1) (s : State) : (s.degradeOn a a1).pow = s.pow := by
  fun_induction State.degradeOn a a1 s <;> simp_all
@[simp] theorem State.shrink_pow (s : State) (a) : (s.shrink a).pow = s.pow := by simp -implicitDefEqProofs [State.shrink]
@[simp] theorem State.dropItems_pow (s : State) (p) : (s.dropItems p).pow = s.pow := by simp -implicitDefEqProofs [State.dropItems]
@[simp] theorem State.canTakeMode_pow (s : State) (c m) : (s.canTakeMode c m).pow = s.pow := by simp -implicitDefEqProofs [State.canTakeMode, apply_ite State.pow]
@[simp] theorem State.islandStart_pow (s : State) (i) : (s.islandStart i).pow = s.pow := (rfl)
@[simp] theorem State.acctUp_pow (s : State) (a) : (s.acctUp a).pow = s.pow := by simp -implicitDefEqProofs [State.acctUp]
@[simp] theorem State.blockLeave_pow (s : State) (b) : (s.blockLeave b).pow = s.pow := by
  simp -implicitDefEqProofs only [State.blockLeave]
  split <;> simp -implicitDefEqProofs [apply_ite State.pow]
@[simp] theorem State.blockRelease_pow (s : State) (b) : (s.blockRelease b).pow = s.pow := by simp -implicitDefEqProofs [State.blockRelease, apply_ite State.pow]
@[simp] theorem State.disarmCompare_pow (s : State) (n k) : (s.disarmCompare n k).pow = s.pow := by simp -implicitDefEqProofs [State.disarmCompare, apply_ite State.pow]
@[simp] theorem State.posDisarm_pow (s : State) (n) : (s.posDisarm n).pow = s.pow := by simp -implicitDefEqProofs [State.posDisarm]
@[simp] theorem State.posClear_pow (s : State) (n) : (s.posClear n).pow = s.pow := by simp -implicitDefEqProofs [State.posClear]
@[simp] theorem State.posReset_pow (s : State) (n cause) : (s.posReset n cause).pow = s.pow := by simp -implicitDefEqProofs [State.posReset, apply_ite State.pow]
@[simp] theorem State.doorReset_pow (s : State) (k) : (s.doorReset k).pow = s.pow := by simp -implicitDefEqProofs [State.doorReset]
@[simp] theorem State.canReset_pow (s : State) (c) : (s.canReset c).pow = s.pow := (rfl)
@[simp] theorem State.endTest_pow (s : State) (n) : (s.endTest n).pow = s.pow := by simp -implicitDefEqProofs [State.endTest]
@[simp] theorem State.calStop_pow (s : State) (i result) : (s.calStop i result).pow = s.pow := by
  simp -implicitDefEqProofs only [State.calStop]
  split <;> simp -implicitDefEqProofs [apply_ite State.pow]
@[simp] theorem State.showVoltage_pow (s : State) (v) : (s.showVoltage v).pow = s.pow := (rfl)
@[simp] theorem State.zeroVoltage_pow (s : State) (v) : (s.zeroVoltage v).pow = s.pow := (rfl)
@[simp] theorem State.spoilTrip_pow (s : State) (c) : (s.spoilTrip c).pow = s.pow := by unfold State.spoilTrip; split <;> rfl
@[simp] theorem State.showCurrent_pow (s : State) (c) : (s.showCurrent c).pow = s.pow := by simp -implicitDefEqProofs [State.showCurrent, apply_ite State.pow]
@[simp] theorem State.showPulse_pow (s : State) (x) : (s.showPulse x).pow = s.pow := (rfl)
@[simp] theorem State.showMetering_pow (s : State) : s.showMetering.pow = s.pow := by simp -implicitDefEqProofs [State.showMetering]
@[simp] theorem State.islandStop_pow (s : State) (i st) : (s.islandStop i st).pow = s.pow := by
  unfold State.islandStop
  split <;> simp -implicitDefEqProofs
@[simp] theorem State.acctDown_pow (s : State) (a) : (s.acctDown a).pow = s.pow := by simp -implicitDefEqProofs [State.acctDown]
@[simp] theorem State.blockEnter_pow (s : State) (b) : (s.blockEnter b).pow = s.pow := by
  simp -implicitDefEqProofs only [State.blockEnter]
  split <;> simp -implicitDefEqProofs [apply_ite State.pow]
@[simp] theorem State.blockAssert_pow (s : State) (b cause) : (s.blockAssert b cause).pow = s.pow := by
  unfold State.blockAssert
  split <;> simp -implicitDefEqProofs
@[simp] theorem State.slaFault_pow (s : State) (cause) : (s.slaFault cause).pow = s.pow := by
  unfold State.slaFault
  split <;> simp -implicitDefEqProofs
@[simp] theorem State.openLoop_pow (s : State) (c j) : (s.openLoop c j).pow = s.pow := by simp -implicitDefEqProofs [State.openLoop]
@[simp] theorem State.loopsRestart_pow (s : State) : s.loopsRestart.pow = s.pow := by simp -implicitDefEqProofs [State.loopsRestart]
@[simp] theorem State.clockGone_pow (s : State) (d cause) : (s.clockGone d cause).pow = s.pow := by simp -implicitDefEqProofs [State.clockGone, apply_ite State.pow]
@[simp] theorem State.release_get_CK_GOOD (s : State) (cause : Nat) : (s.release cause).get Oid.CK_GOOD = s.get Oid.CK_GOOD := s.release_get cause _ (by decide)
@[simp] theorem State.release_get_PD_STATE (s : State) (cause : Nat) : (s.release cause).get Oid.PD_STATE = s.get Oid.PD_STATE := s.release_get cause _ (by decide)
@[simp] theorem State.release_get_BLOCK_IN_RST (s : State) (cause : Nat) : (s.release cause).get Oid.BLOCK_IN_RST = s.get Oid.BLOCK_IN_RST := s.release_get cause _ (by decide)
theorem State.dropsChains_get (s : State) (i : Nat) (k : Key) : (s.dropsChains i).get k = s.get k := rfl
/-- What the end of an island leaves, where the functions that it calls leave it. -/
theorem State.islandStop_get (s : State) (i st : Nat) (k : Key) (hshow : ∀ u : State, u.showMetering.get k = u.get k)
    (hcal : ∀ u : State, (u.calStop i 4).get k = u.get k) (hch : ∀ j, (Oid.CH_STATUS j).oid ≠ k.oid) (hsh : (Oid.MI_SHADOW i).oid ≠ k.oid)
    (hst : (Oid.MI_STATE i).oid ≠ k.oid) : (s.islandStop i st).get k = s.get k := by
  have hquiet : (s.islandQuiet i).get k = s.get k := by
    refine (State.foldl_get k (fun u a => State.get_setBit_other _ _ _ _ _ (hch _)) _ _).trans ?_
    rw [State.get_setN_other _ _ _ _ hsh, hcal, State.get_ite]
    split
    · exact State.get_congr (State.endTest_objs ..) k
    · rfl
  have hshows (u : State) : (u.islandShows i st).get k = u.get k := (State.get_setN_other _ _ _ _ hst).trans (State.get_congr rfl k)
  rw [s.islandStop_eq, hshow, hshows, State.dropsChains_get, hquiet]
@[simp] theorem State.islandStop_get_CK_GOOD (s : State) (i st : Nat) : (s.islandStop i st).get Oid.CK_GOOD = s.get Oid.CK_GOOD :=
  s.islandStop_get i st _ (fun u => u.showMetering_get_CK_GOOD) (fun u => u.calStop_get_CK_GOOD i 4) (fun j => by simp; omega) (by simp; omega) (by simp; omega)
@[simp] theorem State.islandStop_get_PD_STATE (s : State) (i st : Nat) : (s.islandStop i st).get Oid.PD_STATE = s.get Oid.PD_STATE :=
  s.islandStop_get i st _ (fun u => u.showMetering_get_PD_STATE) (fun u => u.calStop_get_PD_STATE i 4) (fun j => by simp; omega) (by simp; omega) (by simp; omega)
@[simp] theorem State.islandStop_get_BLOCK_IN_RST (s : State) (i st : Nat) : (s.islandStop i st).get Oid.BLOCK_IN_RST = s.get Oid.BLOCK_IN_RST :=
  s.islandStop_get i st _ (fun u => u.showMetering_get_BLOCK_IN_RST) (fun u => u.calStop_get_BLOCK_IN_RST i 4) (fun j => by simp; omega) (by simp; omega) (by simp; omega)
@[simp] theorem State.releaseIfHealthy_get_CK_GOOD (s : State) (cause) : (s.releaseIfHealthy cause).get Oid.CK_GOOD = s.get Oid.CK_GOOD := by
  unfold State.releaseIfHealthy
  split <;> simp -implicitDefEqProofs (disch := solve | simp (disch := solve | simp | (simp; omega)) [State.get_ite] | (simp [State.get_ite]; omega))
@[simp] theorem State.acctDown_get_CK_GOOD (s : State) (a) : (s.acctDown a).get Oid.CK_GOOD = s.get Oid.CK_GOOD := by simp -implicitDefEqProofs (disch := solve | simp (disch := solve | simp | (simp; omega)) [State.get_ite] | (simp [State.get_ite]; omega)) [State.acctDown]
@[simp] theorem State.blockEnter_get_CK_GOOD (s : State) (b) : (s.blockEnter b).get Oid.CK_GOOD = s.get Oid.CK_GOOD := by
  simp -implicitDefEqProofs only [State.blockEnter]
  repeat' split
  all_goals simp -implicitDefEqProofs (disch := solve | simp (disch := solve | simp | (simp; omega)) [State.get_ite] | (simp [State.get_ite]; omega)) [State.get_ite]
@[simp] theorem State.releaseIfHealthy_get_PD_STATE (s : State) (cause) : (s.releaseIfHealthy cause).get Oid.PD_STATE = s.get Oid.PD_STATE := by
  unfold State.releaseIfHealthy
  split <;> simp -implicitDefEqProofs (disch := solve | simp (disch := solve | simp | (simp; omega)) [State.get_ite] | (simp [State.get_ite]; omega))
@[simp] theorem State.acctDown_get_PD_STATE (s : State) (a) : (s.acctDown a).get Oid.PD_STATE = s.get Oid.PD_STATE := by simp -implicitDefEqProofs (disch := solve | simp (disch := solve | simp | (simp; omega)) [State.get_ite] | (simp [State.get_ite]; omega)) [State.acctDown]
@[simp] theorem State.blockEnter_get_PD_STATE (s : State) (b) : (s.blockEnter b).get Oid.PD_STATE = s.get Oid.PD_STATE := by
  simp -implicitDefEqProofs only [State.blockEnter]
  repeat' split
  all_goals simp -implicitDefEqProofs (disch := solve | simp (disch := solve | simp | (simp; omega)) [State.get_ite] | (simp [State.get_ite]; omega)) [State.get_ite]
@[simp] theorem State.releaseIfHealthy_get_BLOCK_IN_RST (s : State) (cause) : (s.releaseIfHealthy cause).get Oid.BLOCK_IN_RST = s.get Oid.BLOCK_IN_RST := by
  unfold State.releaseIfHealthy
  split <;> simp -implicitDefEqProofs (disch := solve | simp (disch := solve | simp | (simp; omega)) [State.get_ite] | (simp [State.get_ite]; omega))
@[simp] theorem State.acctDown_get_BLOCK_IN_RST (s : State) (a) : (s.acctDown a).get Oid.BLOCK_IN_RST = s.get Oid.BLOCK_IN_RST := by simp -implicitDefEqProofs (disch := solve | simp (disch := solve | simp | (simp; omega)) [State.get_ite] | (simp [State.get_ite]; omega)) [State.acctDown]
@[simp] theorem State.blockEnter_get_BLOCK_IN_RST (s : State) (b) : (s.blockEnter b).get Oid.BLOCK_IN_RST = s.get Oid.BLOCK_IN_RST := by
  simp -implicitDefEqProofs only [State.blockEnter]
  repeat' split
  all_goals simp -implicitDefEqProofs (disch := solve | simp (disch := solve | simp | (simp; omega)) [State.get_ite] | (simp [State.get_ite]; omega)) [State.get_ite]
@[simp] theorem State.slaFault_get_CK_GOOD (s : State) (cause) : (s.slaFault cause).get Oid.CK_GOOD = s.get Oid.CK_GOOD := by
  simp -implicitDefEqProofs only [State.slaFault]
  repeat' split
  all_goals simp -implicitDefEqProofs (disch := solve | simp (disch := solve | simp | (simp; omega)) [State.get_ite] | (simp [State.get_ite]; omega)) [State.get_ite]
  all_goals rfl
@[simp] theorem State.slaFault_get_PD_STATE (s : State) (cause) : (s.slaFault cause).get Oid.PD_STATE = s.get Oid.PD_STATE := by
  simp -implicitDefEqProofs only [State.slaFault]
  repeat' split
  all_goals simp -implicitDefEqProofs (disch := solve | simp (disch := solve | simp | (simp; omega)) [State.get_ite] | (simp [State.get_ite]; omega)) [State.get_ite]
  all_goals rfl
@[simp] theorem State.slaFault_get_BLOCK_IN_RST (s : State) (cause) : (s.slaFault cause).get Oid.BLOCK_IN_RST = s.get Oid.BLOCK_IN_RST := by
  simp -implicitDefEqProofs only [State.slaFault]
  repeat' split
  all_goals simp -implicitDefEqProofs (disch := solve | simp (disch := solve | simp | (simp; omega)) [State.get_ite] | (simp [State.get_ite]; omega)) [State.get_ite]
  all_goals rfl
@[simp] theorem State.foldl_pow_tcxo {α : Type} {g : State → α → State} (hg : ∀ s a, (g s a).pow.tcxo = s.pow.tcxo) (l : List α) (s : State) :
    (l.foldl g s).pow.tcxo = s.pow.tcxo := State.foldl_keeps (fun s => s.pow.tcxo) hg l s
@[simp] theorem State.foldl_fst_pow_tcxo {α β : Type} {g : State × β → α → State × β} (hg : ∀ r a, (g r a).1.pow.tcxo = r.1.pow.tcxo) (l : List α)
    (r : State × β) : (l.foldl g r).1.pow.tcxo = r.1.pow.tcxo := List.foldl_keeps (fun r => r.1.pow.tcxo) hg l r
@[simp] theorem State.foldl_snd_pow_tcxo {α β : Type} {g : β × State → α → β × State} (hg : ∀ r a, (g r a).2.pow.tcxo = r.2.pow.tcxo) (l : List α)
    (r : β × State) : (l.foldl g r).2.pow.tcxo = r.2.pow.tcxo := List.foldl_keeps (fun r => r.2.pow.tcxo) hg l r
@[simp] theorem State.moveItem_rst (a) (s : State) (i) : (s.moveItem a i).rst = s.rst := by
  unfold State.moveItem
  split <;> simp -implicitDefEqProofs
@[simp] theorem State.degrade_rst (s : State) (a i) : (s.degrade a i).rst = s.rst := by simp -implicitDefEqProofs [State.degrade]
@[simp] theorem State.degradePathless_rst (s : State) (a) : (s.degradePathless a).rst = s.rst := by
  unfold State.degradePathless
  split <;> simp -implicitDefEqProofs
@[simp] theorem State.degradeOn_rst (a a1) (s : State) : (s.degradeOn a a1).rst = s.rst := by
  fun_induction State.degradeOn a a1 s <;> simp_all
@[simp] theorem State.shrink_rst (s : State) (a) : (s.shrink a).rst = s.rst := by simp -implicitDefEqProofs [State.shrink]
@[simp] theorem State.moveBack_rst (a) (s : State) (i) : (s.moveBack a i).rst = s.rst := by
  unfold State.moveBack
  split <;> simp -implicitDefEqProofs
@[simp] theorem State.undegrade_rst (s : State) (a i) : (s.undegrade a i).rst = s.rst := by simp -implicitDefEqProofs [State.undegrade]
@[simp] theorem State.restoreItem_rst (a) (s : State) (i) : (s.restoreItem a i).rst = s.rst := by simp -implicitDefEqProofs [State.restoreItem, apply_ite State.rst]
@[simp] theorem State.grow_rst (s : State) (a) : (s.grow a).rst = s.rst := by simp -implicitDefEqProofs [State.grow]
@[simp] theorem State.noteSource_acc (s : State) (b) : (s.noteSource b).acc = s.acc := (rfl)
@[simp] theorem State.resetPoints_acc (s : State) : s.resetPoints.acc = s.acc := (rfl)
@[simp] theorem State.resetField_acc (s : State) : s.resetField.acc = s.acc := (rfl)
@[simp] theorem State.resetTime_acc (s : State) (r) : (s.resetTime r).acc = s.acc := by unfold State.resetTime; split <;> rfl
@[simp] theorem State.resetSafety_acc (s : State) (r) : (s.resetSafety r).acc = s.acc := (rfl)
@[simp] theorem State.resetTwin_acc (s : State) : s.resetTwin.acc = s.acc := (rfl)
@[simp] theorem State.setLoopMode_acc (s : State) (c j m) : (s.setLoopMode c j m).acc = s.acc := by simp -implicitDefEqProofs [State.setLoopMode, apply_ite State.acc]
@[simp] theorem State.closeLoop_acc (s : State) (c j) : (s.closeLoop c j).acc = s.acc := by simp -implicitDefEqProofs [State.closeLoop]
@[simp] theorem State.doorLoopsClose_acc (s : State) (k) : (s.doorLoopsClose k).acc = s.acc := by simp -implicitDefEqProofs [State.doorLoopsClose, apply_ite State.acc]
@[simp] theorem State.doorLoopsOpen_acc (s : State) (k) : (s.doorLoopsOpen k).acc = s.acc := by simp -implicitDefEqProofs [State.doorLoopsOpen, apply_ite State.acc]
@[simp] theorem State.doorEnter_acc (s : State) (k st) : (s.doorEnter k st).acc = s.acc := by simp -implicitDefEqProofs [State.doorEnter, apply_ite State.acc]
@[simp] theorem State.handshake_acc (s : State) (k) : (s.handshake k).acc = s.acc := by simp -implicitDefEqProofs [State.handshake]
@[simp] theorem State.swapItem_acc (s : State) (i) : (s.swapItem i).acc = s.acc := by simp -implicitDefEqProofs [State.swapItem]
@[simp] theorem State.moveItem_acc (a) (s : State) (i) : (s.moveItem a i).acc = s.acc := by
  unfold State.moveItem
  split <;> simp -implicitDefEqProofs
@[simp] theorem State.ptStatusBit_acc (s : State) (p i b) : (s.ptStatusBit p i b).acc = s.acc := by unfold State.ptStatusBit; split <;> rfl
@[simp] theorem State.markDegraded_acc (s : State) (k) : (s.markDegraded k).acc = s.acc := by
  unfold State.markDegraded
  split <;> simp -implicitDefEqProofs
@[simp] theorem State.degrade_acc (s : State) (a i) : (s.degrade a i).acc = s.acc := by simp -implicitDefEqProofs [State.degrade]
@[simp] theorem State.degradePathless_acc (s : State) (a) : (s.degradePathless a).acc = s.acc := by
  unfold State.degradePathless
  split <;> simp -implicitDefEqProofs
@[simp] theorem State.degradeOn_acc (a a1) (s : State) : (s.degradeOn a a1).acc = s.acc := by
  fun_induction State.degradeOn a a1 s <;> simp_all
@[simp] theorem State.shrink_acc (s : State) (a) : (s.shrink a).acc = s.acc := by simp -implicitDefEqProofs [State.shrink]
@[simp] theorem State.dropItems_acc (s : State) (p) : (s.dropItems p).acc = s.acc := by simp -implicitDefEqProofs [State.dropItems]
@[simp] theorem State.moveBack_acc (a) (s : State) (i) : (s.moveBack a i).acc = s.acc := by
  unfold State.moveBack
  split <;> simp -implicitDefEqProofs
@[simp] theorem State.undegrade_acc (s : State) (a i) : (s.undegrade a i).acc = s.acc := by simp -implicitDefEqProofs [State.undegrade]
@[simp] theorem State.restoreItem_acc (a) (s : State) (i) : (s.restoreItem a i).acc = s.acc := by simp -implicitDefEqProofs [State.restoreItem, apply_ite State.acc]
@[simp] theorem State.grow_acc (s : State) (a) : (s.grow a).acc = s.acc := by simp -implicitDefEqProofs [State.grow]
@[simp] theorem State.canTakeMode_acc (s : State) (c m) : (s.canTakeMode c m).acc = s.acc := by simp -implicitDefEqProofs [State.canTakeMode, apply_ite State.acc]
@[simp] theorem State.islandStart_acc (s : State) (i) : (s.islandStart i).acc = s.acc := (rfl)
@[simp] theorem State.acctUp_acc (s : State) (a) : (s.acctUp a).acc = s.acc := by simp -implicitDefEqProofs [State.acctUp]
@[simp] theorem State.blockLeave_acc (s : State) (b) : (s.blockLeave b).acc = s.acc := by
  simp -implicitDefEqProofs only [State.blockLeave]
  split <;> simp -implicitDefEqProofs [apply_ite State.acc]
@[simp] theorem State.blockRelease_acc (s : State) (b) : (s.blockRelease b).acc = s.acc := by simp -implicitDefEqProofs [State.blockRelease, apply_ite State.acc]
@[simp] theorem State.resetRest_acc (s : State) (r) : (s.resetRest r).acc = s.acc := by
  unfold State.resetRest
  split <;> simp -implicitDefEqProofs
@[simp] theorem State.foldl_tb_op {α : Type} {g : State → α → State} (hg : ∀ s a, (g s a).tb.op = s.tb.op) (l : List α) (s : State) :
    (l.foldl g s).tb.op = s.tb.op := State.foldl_keeps (fun s => s.tb.op) hg l s
@[simp] theorem State.foldl_fst_tb_op {α β : Type} {g : State × β → α → State × β} (hg : ∀ r a, (g r a).1.tb.op = r.1.tb.op) (l : List α)
    (r : State × β) : (l.foldl g r).1.tb.op = r.1.tb.op := List.foldl_keeps (fun r => r.1.tb.op) hg l r
@[simp] theorem State.foldl_snd_tb_op {α β : Type} {g : β × State → α → β × State} (hg : ∀ r a, (g r a).2.tb.op = r.2.tb.op) (l : List α)
    (r : β × State) : (l.foldl g r).2.tb.op = r.2.tb.op := List.foldl_keeps (fun r => r.2.tb.op) hg l r
@[simp] theorem State.resetTime_tb_op (s : State) (r) : (s.resetTime r).tb.op = s.tb.op := by unfold State.resetTime; split <;> rfl
@[simp] theorem State.setLoopMode_tb_op (s : State) (c j m) : (s.setLoopMode c j m).tb.op = s.tb.op := by simp -implicitDefEqProofs [State.setLoopMode, apply_ite State.tb, apply_ite TimeBase.op]
@[simp] theorem State.closeLoop_tb_op (s : State) (c j) : (s.closeLoop c j).tb.op = s.tb.op := by simp -implicitDefEqProofs [State.closeLoop]
@[simp] theorem State.doorLoopsClose_tb_op (s : State) (k) : (s.doorLoopsClose k).tb.op = s.tb.op := by simp -implicitDefEqProofs [State.doorLoopsClose, apply_ite State.tb, apply_ite TimeBase.op]
@[simp] theorem State.doorLoopsOpen_tb_op (s : State) (k) : (s.doorLoopsOpen k).tb.op = s.tb.op := by simp -implicitDefEqProofs [State.doorLoopsOpen, apply_ite State.tb, apply_ite TimeBase.op]
@[simp] theorem State.doorEnter_tb_op (s : State) (k st) : (s.doorEnter k st).tb.op = s.tb.op := by simp -implicitDefEqProofs [State.doorEnter, apply_ite State.tb, apply_ite TimeBase.op]
@[simp] theorem State.handshake_tb_op (s : State) (k) : (s.handshake k).tb.op = s.tb.op := by simp -implicitDefEqProofs [State.handshake]
@[simp] theorem State.moveItem_tb_op (a) (s : State) (i) : (s.moveItem a i).tb.op = s.tb.op := by
  unfold State.moveItem
  split <;> simp -implicitDefEqProofs
@[simp] theorem State.mirror_tb_op (s : State) (b) : (s.mirror b).tb.op = s.tb.op := by unfold State.mirror; split <;> rfl
@[simp] theorem State.degrade_tb_op (s : State) (a i) : (s.degrade a i).tb.op = s.tb.op := by simp -implicitDefEqProofs [State.degrade]
@[simp] theorem State.degradePathless_tb_op (s : State) (a) : (s.degradePathless a).tb.op = s.tb.op := by
  unfold State.degradePathless
  split <;> simp -implicitDefEqProofs
@[simp] theorem State.degradeOn_tb_op (a a1) (s : State) : (s.degradeOn a a1).tb.op = s.tb.op := by
  fun_induction State.degradeOn a a1 s <;> simp_all
@[simp] theorem State.shrink_tb_op (s : State) (a) : (s.shrink a).tb.op = s.tb.op := by simp -implicitDefEqProofs [State.shrink]
@[simp] theorem State.dropItems_tb_op (s : State) (p) : (s.dropItems p).tb.op = s.tb.op := by simp -implicitDefEqProofs [State.dropItems]
@[simp] theorem State.moveBack_tb_op (a) (s : State) (i) : (s.moveBack a i).tb.op = s.tb.op := by
  unfold State.moveBack
  split <;> simp -implicitDefEqProofs
@[simp] theorem State.undegrade_tb_op (s : State) (a i) : (s.undegrade a i).tb.op = s.tb.op := by simp -implicitDefEqProofs [State.undegrade]
@[simp] theorem State.restoreItem_tb_op (a) (s : State) (i) : (s.restoreItem a i).tb.op = s.tb.op := by simp -implicitDefEqProofs [State.restoreItem, apply_ite State.tb, apply_ite TimeBase.op]
@[simp] theorem State.grow_tb_op (s : State) (a) : (s.grow a).tb.op = s.tb.op := by simp -implicitDefEqProofs [State.grow]
@[simp] theorem State.canTakeMode_tb_op (s : State) (c m) : (s.canTakeMode c m).tb.op = s.tb.op := by simp -implicitDefEqProofs [State.canTakeMode, apply_ite State.tb, apply_ite TimeBase.op]
@[simp] theorem State.islandStart_tb_op (s : State) (i) : (s.islandStart i).tb.op = s.tb.op := (rfl)
@[simp] theorem State.acctUp_tb_op (s : State) (a) : (s.acctUp a).tb.op = s.tb.op := by simp -implicitDefEqProofs [State.acctUp]
@[simp] theorem State.blockLeave_tb_op (s : State) (b) : (s.blockLeave b).tb.op = s.tb.op := by
  simp -implicitDefEqProofs only [State.blockLeave]
  split <;> simp -implicitDefEqProofs [apply_ite State.tb, apply_ite TimeBase.op]
@[simp] theorem State.blockRelease_tb_op (s : State) (b) : (s.blockRelease b).tb.op = s.tb.op := by simp -implicitDefEqProofs [State.blockRelease, apply_ite State.tb, apply_ite TimeBase.op]
@[simp] theorem State.applyReach_tb_op (s : State) (r) : (s.applyReach r).tb.op = s.tb.op := by simp -implicitDefEqProofs [State.applyReach, apply_ite State.tb, apply_ite TimeBase.op]
@[simp] theorem State.doReset_pow_autumn (s : State) (b) : (s.doReset b).pow.autumn = s.pow.autumn := by simp -implicitDefEqProofs [State.doReset]
@[simp] theorem State.doReset_tb_op (s : State) (b) : (s.doReset b).tb.op = s.tb.op := by simp -implicitDefEqProofs [State.doReset]
@[simp] theorem State.measureStrap_clk (s : State) (ratio) : (s.measureStrap ratio).clk = s.clk := by
  unfold State.measureStrap
  split <;> simp -implicitDefEqProofs
@[simp] theorem State.reportHealth_pow (s : State) : s.reportHealth.pow = s.pow := by simp -implicitDefEqProofs [State.reportHealth]
@[simp] theorem State.measureStrap_pow (s : State) (ratio) : (s.measureStrap ratio).pow = s.pow := by
  unfold State.measureStrap
  split <;> simp -implicitDefEqProofs
@[simp] theorem State.reportHealth_get_STRAP_RATIO (s : State) : s.reportHealth.get Oid.STRAP_RATIO = s.get Oid.STRAP_RATIO := by simp -implicitDefEqProofs (disch := solve | simp (disch := solve | simp | (simp; omega)) [State.get_ite] | (simp [State.get_ite]; omega)) [State.reportHealth]
@[simp] theorem State.reportHealth_get_SPRING_STEP (s : State) : s.reportHealth.get Oid.SPRING_STEP = s.get Oid.SPRING_STEP := by simp -implicitDefEqProofs (disch := solve | simp (disch := solve | simp | (simp; omega)) [State.get_ite] | (simp [State.get_ite]; omega)) [State.reportHealth]
@[simp] theorem State.reportHealth_get_RESET_REACH (s : State) : s.reportHealth.get Oid.RESET_REACH = s.get Oid.RESET_REACH := by simp -implicitDefEqProofs (disch := solve | simp (disch := solve | simp | (simp; omega)) [State.get_ite] | (simp [State.get_ite]; omega)) [State.reportHealth]
@[simp] theorem State.reportHealth_get_RESET_CAUSE (s : State) : s.reportHealth.get Oid.RESET_CAUSE = s.get Oid.RESET_CAUSE := by simp -implicitDefEqProofs (disch := solve | simp (disch := solve | simp | (simp; omega)) [State.get_ite] | (simp [State.get_ite]; omega)) [State.reportHealth]
@[simp] theorem State.reportHealth_rcd (s : State) : s.reportHealth.rcd = s.rcd := by simp -implicitDefEqProofs [State.reportHealth]
theorem State.measureStrap_records (s : State) (ratio) : s.KeepsRecords (s.measureStrap ratio) := by
    unfold State.measureStrap
    split
    · exact .after (.of_rcd (State.setN_rcd ..)) (.set_rcd (State.mk_rcd ..) (.of_rcd (State.setN_rcd ..)))
    · exact .after (.of_rcd (State.reportHealth_rcd ..)) (.after (State.event_records ..) (.after (.of_rcd (State.setN_rcd ..)) (.set_rcd (State.mk_rcd ..) (.of_rcd (State.setN_rcd ..)))))
theorem State.enter_numbers (s : State) (m trigger) : s.NumbersOn (s.enter m trigger) := .after (State.event_numbers ..) (.of_rcd rfl)
theorem State.release_numbers (s : State) (cause : Nat) : s.NumbersOn (s.release cause) := by
  have htell : s.NumbersOn (s.tellsRelease cause) := by
    unfold State.tellsRelease
    exact .ite (.after (.of_rcd (State.emit_rcd ..)) (.after (State.event_numbers ..) (.of_rcd rfl))) (.after (State.event_numbers ..) (.of_rcd rfl))
  cases h : s.tw.activeOut
  · rw [State.release_of_deasserted h]
    exact .refl s
  · rw [State.release_of_asserted h]
    have hleave (u : State) : u.NumbersOn (u.leavesDriving cause) :=
      .ite (.after (State.enter_numbers ..) (.of_rcd rfl)) (.of_rcd rfl)
    exact .ite (htell.trans (hleave _)) htell
theorem State.swapItem_numbers (s : State) (i) : s.NumbersOn (s.swapItem i) := .after (.of_rcd (State.mirror_rcd ..)) (.after (State.event_numbers ..) (.of_rcd (State.setItem_rcd ..)))
theorem State.undegrade_numbers (s : State) (a i) : s.NumbersOn (s.undegrade a i) := .after (.of_rcd (State.mirror_rcd ..)) (.after (State.event_numbers ..) (.after (.of_rcd (State.markDegraded_rcd ..)) (.of_rcd (State.setItem_rcd ..))))
theorem State.restoreItem_numbers (a) (s : State) (i) : s.NumbersOn (s.restoreItem a i) := .ite (.refl _) (.ite (State.undegrade_numbers ..) (.ite (.after (State.undegrade_numbers ..) (State.swapItem_numbers ..)) (.refl _)))
theorem State.moveBack_numbers (a) (s : State) (i) : s.NumbersOn (s.moveBack a i) := .ite (State.swapItem_numbers ..) (.refl _)
theorem State.grow_numbers (s : State) (a) : s.NumbersOn (s.grow a) := .after (.foldl (fun _ _ => State.restoreItem_numbers ..) _ _) (.foldl (fun _ _ => State.moveBack_numbers ..) _ _)
theorem State.moveItem_numbers (a) (s : State) (i) : s.NumbersOn (s.moveItem a i) := .ite (.refl _) (State.swapItem_numbers ..)
theorem State.degrade_numbers (s : State) (a i) : s.NumbersOn (s.degrade a i) := .after (.of_rcd (State.mirror_rcd ..)) (.after (State.event_numbers ..) (.after (.of_rcd (State.markDegraded_rcd ..)) (.of_rcd (State.setItem_rcd ..))))
theorem State.degradePathless_numbers (s : State) (a) : s.NumbersOn (s.degradePathless a) := .ite (.refl _) (.foldl (fun _ _ => State.degrade_numbers ..) _ _)
theorem State.degradeOn_numbers (a n : Nat) (s : State) : s.NumbersOn (State.degradeOn a n s) := by
  induction n generalizing s with
  | zero => exact .refl s
  | succ n ih =>
    unfold State.degradeOn
    split
    · exact .refl s
    · split
      · exact .refl s
      · exact .after (ih _) (s.degrade_numbers ..)
theorem State.shrink_numbers (s : State) (a) : s.NumbersOn (s.shrink a) := .after (State.degradeOn_numbers ..) (.after (State.degradePathless_numbers ..) (.foldl (fun _ _ => State.moveItem_numbers ..) _ _))
theorem State.canTakeMode_numbers (s : State) (c m) : s.NumbersOn (s.canTakeMode c m) := .ite (.refl _) (.ite (.after (State.shrink_numbers ..) (.after (.of_rcd (State.dropItems_rcd ..)) (.ite (.after (.of_rcd (State.setN_rcd ..)) (.after (.of_rcd (State.setN_rcd ..)) (.of_rcd (State.setCan_rcd ..)))) (.of_rcd (State.setCan_rcd ..))))) (.ite (.after (State.grow_numbers ..) (.ite (.after (.of_rcd (State.setN_rcd ..)) (.after (.of_rcd (State.setN_rcd ..)) (.of_rcd (State.setCan_rcd ..)))) (.of_rcd (State.setCan_rcd ..)))) (.ite (.after (.of_rcd (State.setN_rcd ..)) (.after (.of_rcd (State.setN_rcd ..)) (.of_rcd (State.setCan_rcd ..)))) (.of_rcd (State.setCan_rcd ..)))))
theorem State.setLoopMode_numbers (s : State) (c j m) : s.NumbersOn (s.setLoopMode c j m) := .ite (.refl _) (.after (State.eventOf_numbers ..) (.of_rcd (State.setN_rcd ..)))
theorem State.doorLoopsOpen_numbers (s : State) (k) : s.NumbersOn (s.doorLoopsOpen k) := .after (.of_rcd (State.set_rcd ..)) (.foldl (fun _ _ => .ite (.after (State.setLoopMode_numbers ..) (.ite (.after (State.setLoopMode_numbers ..) (.after (.of_rcd (State.setLoop_rcd ..)) (.of_rcd (State.set_rcd ..)))) (.of_rcd (State.set_rcd ..)))) (.ite (.after (State.setLoopMode_numbers ..) (.after (.of_rcd (State.setLoop_rcd ..)) (.of_rcd (State.set_rcd ..)))) (.of_rcd (State.set_rcd ..)))) _ _)
theorem State.closeLoop_numbers (s : State) (c j) : s.NumbersOn (s.closeLoop c j) := .after (State.setLoopMode_numbers ..) (.of_rcd (State.setLoop_rcd ..))
theorem State.doorLoopsClose_numbers (s : State) (k) : s.NumbersOn (s.doorLoopsClose k) := .foldl (fun _ _ => .ite (.ite (State.closeLoop_numbers ..) (.refl _)) (.after (State.setLoopMode_numbers ..) (.ite (State.closeLoop_numbers ..) (.refl _)))) _ _
theorem State.doorEnter_numbers (s : State) (k st) : s.NumbersOn (s.doorEnter k st) := .ite (.after (State.doorLoopsClose_numbers ..) (.after (.of_rcd (State.setDoor_rcd ..)) (.of_rcd (State.setN_rcd ..)))) (.after (State.doorLoopsOpen_numbers ..) (.after (.of_rcd (State.setDoor_rcd ..)) (.of_rcd (State.setN_rcd ..))))
theorem State.handshake_numbers (s : State) (k) : s.NumbersOn (s.handshake k) := by
  unfold State.handshake
  exact .after (State.doorEnter_numbers ..) (.after (.of_rcd (State.setBit_rcd ..)) (.after (.of_rcd (State.setBit_rcd ..)) (.of_rcd (State.setDoor_rcd ..))))
theorem State.acctUp_numbers (s : State) (a) : s.NumbersOn (s.acctUp a) := .after (State.grow_numbers ..) (.of_rcd (State.setHealthy_rcd ..))
theorem State.blockLeave_numbers (s : State) (b) : s.NumbersOn (s.blockLeave b) := by
  unfold State.blockLeave
  cases blockAcct b
  · exact .ite (.ite (State.handshake_numbers ..) (.refl _)) (.ite (State.canTakeMode_numbers ..) (.ite (.ite (.of_rcd (State.islandStart_rcd ..)) (.refl _)) (.refl _)))
  · exact .after (State.acctUp_numbers ..) (.ite (.ite (State.handshake_numbers ..) (.refl _)) (.ite (State.canTakeMode_numbers ..) (.ite (.ite (.of_rcd (State.islandStart_rcd ..)) (.refl _)) (.refl _))))
theorem State.blockRelease_numbers (s : State) (b) : s.NumbersOn (s.blockRelease b) := .ite (.refl _) (.ite (.of_rcd (State.setBit_rcd ..)) (.after (State.event_numbers ..) (.after (State.blockLeave_numbers ..) (.after (.of_rcd (State.setBit_rcd ..)) (.of_rcd (State.setBit_rcd ..))))))
theorem State.preSave_numbers (s : State) : s.NumbersOn s.preSave := .after (State.flushRecords_numbers ..) (.ite (.of_rcd (State.save_rcd ..)) (.refl _))
/-- The number of live launches that a reset loses is recorded where no healthy standby keeps them. -/
def State.tellsLost (s : State) : State :=
  if (s.launches.filter (·.live)).length ≠ 0 ∧ (!s.healthyStandby) = true then s.event 0x110B (s.launches.filter (·.live)).length else s
/-- No launch is queued. -/
def State.noLaunches (s : State) : State := { s with launches := [] }
theorem State.noLaunches_rcd (s : State) : s.noLaunches.rcd = s.rcd := rfl
theorem State.resetLaunches_eq (s : State) : s.resetLaunches = s.tellsLost.noLaunches := by
  unfold State.resetLaunches State.tellsLost State.noLaunches
  with_reducible rfl
theorem State.resetLaunches_numbers (s : State) : s.NumbersOn s.resetLaunches := by
  rw [s.resetLaunches_eq]
  exact .after (.of_rcd (State.noLaunches_rcd _)) (.ite (State.event_numbers ..) (.refl _))
@[simp] theorem State.resetMetering_rcd (s : State) (r) : (s.resetMetering r).rcd = s.rcd := by simp -implicitDefEqProofs [State.resetMetering, apply_ite State.rcd]
theorem State.posReset_numbers (s : State) (n cause) : s.NumbersOn (s.posReset n cause) := .ite (.after (State.eventOf_numbers ..) (.ite (.of_rcd (State.posDisarm_rcd ..)) (.after (.of_rcd (State.posClear_rcd ..)) (.of_rcd (State.posDisarm_rcd ..))))) (.ite (.of_rcd (State.posDisarm_rcd ..)) (.after (.of_rcd (State.posClear_rcd ..)) (.of_rcd (State.posDisarm_rcd ..))))
@[simp] theorem State.carsReset_rcd (s : State) : s.carsReset.rcd = s.rcd := by simp -implicitDefEqProofs [State.carsReset, apply_ite State.rcd]
theorem State.resetLift_numbers (s : State) (r) : s.NumbersOn (s.resetLift r) := .set_rcd (State.mk_rcd ..) (.after (.of_rcd (State.carsReset_rcd ..)) (.foldl (fun _ _ => State.posReset_numbers ..) _ _))
@[simp] theorem State.resetPower_rcd (s : State) (r) : (s.resetPower r).rcd = s.rcd := (rfl)
@[simp] theorem State.resetObjs_rcd (s : State) (r) : (s.resetObjs r).rcd = s.rcd := by simp -implicitDefEqProofs [State.resetObjs]
@[simp] theorem State.resetAccess_rcd (s : State) (r) : (s.resetAccess r).rcd = s.rcd := (rfl)
@[simp] theorem State.resetPoints_rcd (s : State) : s.resetPoints.rcd = s.rcd := (rfl)
@[simp] theorem State.resetTwin_rcd (s : State) : s.resetTwin.rcd = s.rcd := (rfl)
@[simp] theorem State.resetSafety_rcd (s : State) (r) : (s.resetSafety r).rcd = s.rcd := (rfl)
@[simp] theorem State.resetTime_rcd (s : State) (r) : (s.resetTime r).rcd = s.rcd := by unfold State.resetTime; split <;> rfl
@[simp] theorem State.resetField_rcd (s : State) : s.resetField.rcd = s.rcd := (rfl)
theorem State.applyReach_numbers (s : State) (r) : s.NumbersOn (s.applyReach r) := .set_rcd (State.mk_rcd ..) (.after (.foldl (fun _ _ => State.blockRelease_numbers ..) _ _) (.ite (.after (.of_rcd (State.resetField_rcd ..)) (.after (.of_rcd (State.resetTime_rcd ..)) (.after (.of_rcd (State.resetSafety_rcd ..)) (.after (.of_rcd (State.resetTwin_rcd ..)) (.after (.of_rcd (State.resetPoints_rcd ..)) (.after (.of_rcd (State.resetAccess_rcd ..)) (.after (.of_rcd (State.resetObjs_rcd ..)) (.after (.of_rcd (State.resetPower_rcd ..)) (.after (State.resetLift_numbers ..) (.after (.of_rcd (State.resetMetering_rcd ..)) (.after (State.resetLaunches_numbers ..) (.ite (.after (.of_rcd (State.count_rcd ..)) (.ite (State.preSave_numbers ..) (.ite (State.losePending_numbers ..) (.refl _)))) (.ite (State.preSave_numbers ..) (.ite (State.losePending_numbers ..) (.refl _))))))))))))))) (.set_rcd (State.mk_rcd ..) (.after (.of_rcd (State.setN_rcd ..)) (.after (.of_rcd (State.resetField_rcd ..)) (.after (.of_rcd (State.resetTime_rcd ..)) (.after (.of_rcd (State.resetSafety_rcd ..)) (.after (.of_rcd (State.resetTwin_rcd ..)) (.after (.of_rcd (State.resetPoints_rcd ..)) (.after (.of_rcd (State.resetAccess_rcd ..)) (.after (.of_rcd (State.resetObjs_rcd ..)) (.after (.of_rcd (State.resetPower_rcd ..)) (.after (State.resetLift_numbers ..) (.after (.of_rcd (State.resetMetering_rcd ..)) (.after (State.resetLaunches_numbers ..) (.ite (.after (.of_rcd (State.count_rcd ..)) (.ite (State.preSave_numbers ..) (.ite (State.losePending_numbers ..) (.refl _)))) (.ite (State.preSave_numbers ..) (.ite (State.losePending_numbers ..) (.refl _)))))))))))))))))))
theorem State.noteSource_numbers (s : State) (b) : s.NumbersOn (s.noteSource b) := .after (State.eventAon_numbers ..) (.after (.of_rcd (State.setN_rcd ..)) (.of_rcd rfl))
theorem State.doReset_numbers (s : State) (b) : s.NumbersOn (s.doReset b) := .after (.of_rcd (State.setN_rcd ..)) (.set_rcd (State.mk_rcd ..) (.after (State.noteSource_numbers ..) (.after (State.applyReach_numbers ..) (State.release_numbers ..))))
@[simp] theorem State.noteSource_pow (s : State) (b) : (s.noteSource b).pow = s.pow := (rfl)
@[simp] theorem State.doorReset_emits (s : State) (k) : (s.doorReset k).emits = s.emits := by simp -implicitDefEqProofs [State.doorReset]
@[simp] theorem State.canReset_emits (s : State) (c) : (s.canReset c).emits = s.emits := (rfl)
@[simp] theorem State.endTest_emits (s : State) (n) : (s.endTest n).emits = s.emits := by simp -implicitDefEqProofs [State.endTest]
@[simp] theorem State.calStop_emits (s : State) (i result) : (s.calStop i result).emits = s.emits := by
  simp -implicitDefEqProofs only [State.calStop]
  split <;> simp -implicitDefEqProofs [apply_ite State.emits]
@[simp] theorem State.showVoltage_emits (s : State) (v) : (s.showVoltage v).emits = s.emits := (rfl)
@[simp] theorem State.zeroVoltage_emits (s : State) (v) : (s.zeroVoltage v).emits = s.emits := (rfl)
@[simp] theorem State.spoilTrip_emits (s : State) (c) : (s.spoilTrip c).emits = s.emits := by unfold State.spoilTrip; split <;> rfl
@[simp] theorem State.showCurrent_emits (s : State) (c) : (s.showCurrent c).emits = s.emits := by simp -implicitDefEqProofs [State.showCurrent, apply_ite State.emits]
@[simp] theorem State.showPulse_emits (s : State) (x) : (s.showPulse x).emits = s.emits := (rfl)
@[simp] theorem State.showMetering_emits (s : State) : s.showMetering.emits = s.emits := by simp -implicitDefEqProofs [State.showMetering]
@[simp] theorem State.islandStop_emits (s : State) (i st) : (s.islandStop i st).emits = s.emits := by
  unfold State.islandStop
  split <;> simp -implicitDefEqProofs
@[simp] theorem State.acctDown_emits (s : State) (a) : (s.acctDown a).emits = s.emits := by simp -implicitDefEqProofs [State.acctDown]
@[simp] theorem State.blockEnter_emits (s : State) (b) : (s.blockEnter b).emits = s.emits := by
  simp -implicitDefEqProofs only [State.blockEnter]
  split <;> simp -implicitDefEqProofs [apply_ite State.emits]
@[simp] theorem State.blockAssert_emits (s : State) (b cause) : (s.blockAssert b cause).emits = s.emits := by
  unfold State.blockAssert
  split <;> simp -implicitDefEqProofs
@[simp] theorem State.foldl_acc_sessions {α : Type} {g : State → α → State} (hg : ∀ s a, (g s a).acc.sessions = s.acc.sessions) (l : List α) (s : State) :
    (l.foldl g s).acc.sessions = s.acc.sessions := State.foldl_keeps (fun s => s.acc.sessions) hg l s
@[simp] theorem State.foldl_fst_acc_sessions {α β : Type} {g : State × β → α → State × β} (hg : ∀ r a, (g r a).1.acc.sessions = r.1.acc.sessions) (l : List α)
    (r : State × β) : (l.foldl g r).1.acc.sessions = r.1.acc.sessions := List.foldl_keeps (fun r => r.1.acc.sessions) hg l r
@[simp] theorem State.foldl_snd_acc_sessions {α β : Type} {g : β × State → α → β × State} (hg : ∀ r a, (g r a).2.acc.sessions = r.2.acc.sessions) (l : List α)
    (r : β × State) : (l.foldl g r).2.acc.sessions = r.2.acc.sessions := List.foldl_keeps (fun r => r.2.acc.sessions) hg l r
@[simp] theorem State.disarmCompare_acc_sessions (s : State) (n k) : (s.disarmCompare n k).acc.sessions = s.acc.sessions := by simp -implicitDefEqProofs [State.disarmCompare, apply_ite State.acc, apply_ite Access.sessions]
@[simp] theorem State.posDisarm_acc_sessions (s : State) (n) : (s.posDisarm n).acc.sessions = s.acc.sessions := by simp -implicitDefEqProofs [State.posDisarm]
@[simp] theorem State.posClear_acc_sessions (s : State) (n) : (s.posClear n).acc.sessions = s.acc.sessions := (rfl)
@[simp] theorem State.posReset_acc_sessions (s : State) (n cause) : (s.posReset n cause).acc.sessions = s.acc.sessions := by simp -implicitDefEqProofs [State.posReset, apply_ite State.acc, apply_ite Access.sessions]
@[simp] theorem State.doorReset_acc_sessions (s : State) (k) : (s.doorReset k).acc.sessions = s.acc.sessions := by simp -implicitDefEqProofs [State.doorReset]
@[simp] theorem State.canReset_acc_sessions (s : State) (c) : (s.canReset c).acc.sessions = s.acc.sessions := (rfl)
@[simp] theorem State.endTest_acc_sessions (s : State) (n) : (s.endTest n).acc.sessions = s.acc.sessions := by simp -implicitDefEqProofs [State.endTest]
@[simp] theorem State.calStop_acc_sessions (s : State) (i result) : (s.calStop i result).acc.sessions = s.acc.sessions := by
  simp -implicitDefEqProofs only [State.calStop]
  split <;> simp -implicitDefEqProofs [apply_ite State.acc, apply_ite Access.sessions]
@[simp] theorem State.showVoltage_acc_sessions (s : State) (v) : (s.showVoltage v).acc.sessions = s.acc.sessions := (rfl)
@[simp] theorem State.zeroVoltage_acc_sessions (s : State) (v) : (s.zeroVoltage v).acc.sessions = s.acc.sessions := (rfl)
@[simp] theorem State.spoilTrip_acc_sessions (s : State) (c) : (s.spoilTrip c).acc.sessions = s.acc.sessions := by unfold State.spoilTrip; split <;> rfl
@[simp] theorem State.showCurrent_acc_sessions (s : State) (c) : (s.showCurrent c).acc.sessions = s.acc.sessions := by simp -implicitDefEqProofs [State.showCurrent, apply_ite State.acc, apply_ite Access.sessions]
@[simp] theorem State.showPulse_acc_sessions (s : State) (x) : (s.showPulse x).acc.sessions = s.acc.sessions := (rfl)
@[simp] theorem State.showMetering_acc_sessions (s : State) : s.showMetering.acc.sessions = s.acc.sessions := by simp -implicitDefEqProofs [State.showMetering]
@[simp] theorem State.islandStop_acc_sessions (s : State) (i st) : (s.islandStop i st).acc.sessions = s.acc.sessions := by
  unfold State.islandStop
  split <;> simp -implicitDefEqProofs
@[simp] theorem State.acctDown_acc_sessions (s : State) (a) : (s.acctDown a).acc.sessions = s.acc.sessions := by simp -implicitDefEqProofs [State.acctDown]
@[simp] theorem State.blockEnter_acc_sessions (s : State) (b) : (s.blockEnter b).acc.sessions = s.acc.sessions := by
  simp -implicitDefEqProofs only [State.blockEnter]
  split <;> simp -implicitDefEqProofs [apply_ite State.acc, apply_ite Access.sessions]
@[simp] theorem State.blockAssert_acc_sessions (s : State) (b cause) : (s.blockAssert b cause).acc.sessions = s.acc.sessions := by
  unfold State.blockAssert
  split <;> simp -implicitDefEqProofs
@[simp] theorem State.disarmCompare_mode (s : State) (n k) : (s.disarmCompare n k).mode = s.mode := by simp -implicitDefEqProofs [State.disarmCompare, apply_ite State.mode]
@[simp] theorem State.posDisarm_mode (s : State) (n) : (s.posDisarm n).mode = s.mode := by simp -implicitDefEqProofs [State.posDisarm]
@[simp] theorem State.posClear_mode (s : State) (n) : (s.posClear n).mode = s.mode := by simp -implicitDefEqProofs [State.posClear]
@[simp] theorem State.posReset_mode (s : State) (n cause) : (s.posReset n cause).mode = s.mode := by simp -implicitDefEqProofs [State.posReset, apply_ite State.mode]
@[simp] theorem State.doorReset_mode (s : State) (k) : (s.doorReset k).mode = s.mode := by simp -implicitDefEqProofs [State.doorReset]
@[simp] theorem State.canReset_mode (s : State) (c) : (s.canReset c).mode = s.mode := (rfl)
@[simp] theorem State.showVoltage_mode (s : State) (v) : (s.showVoltage v).mode = s.mode := (rfl)
@[simp] theorem State.zeroVoltage_mode (s : State) (v) : (s.zeroVoltage v).mode = s.mode := (rfl)
@[simp] theorem State.spoilTrip_mode (s : State) (c) : (s.spoilTrip c).mode = s.mode := by unfold State.spoilTrip; split <;> rfl
@[simp] theorem State.showCurrent_mode (s : State) (c) : (s.showCurrent c).mode = s.mode := by simp -implicitDefEqProofs [State.showCurrent, apply_ite State.mode]
@[simp] theorem State.showPulse_mode (s : State) (x) : (s.showPulse x).mode = s.mode := (rfl)
@[simp] theorem State.showMetering_mode (s : State) : s.showMetering.mode = s.mode := by simp -implicitDefEqProofs [State.showMetering]
@[simp] theorem State.islandStop_mode (s : State) (i st) : (s.islandStop i st).mode = s.mode := by
  unfold State.islandStop
  split <;> simp -implicitDefEqProofs
@[simp] theorem State.acctDown_mode (s : State) (a) : (s.acctDown a).mode = s.mode := by simp -implicitDefEqProofs [State.acctDown]
@[simp] theorem State.blockEnter_mode (s : State) (b) : (s.blockEnter b).mode = s.mode := by
  simp -implicitDefEqProofs only [State.blockEnter]
  split <;> simp -implicitDefEqProofs [apply_ite State.mode]
@[simp] theorem State.blockAssert_mode (s : State) (b cause) : (s.blockAssert b cause).mode = s.mode := by
  unfold State.blockAssert
  split <;> simp -implicitDefEqProofs
@[simp] theorem State.disarmCompare_get_BLOCK_RST (s : State) (n k) : (s.disarmCompare n k).get Oid.BLOCK_RST = s.get Oid.BLOCK_RST := by simp -implicitDefEqProofs (disch := solve | simp (disch := solve | simp | (simp; omega)) [State.get_ite] | (simp [State.get_ite]; omega)) [State.disarmCompare, State.get_ite]
@[simp] theorem State.posDisarm_get_BLOCK_RST (s : State) (n) : (s.posDisarm n).get Oid.BLOCK_RST = s.get Oid.BLOCK_RST := by simp -implicitDefEqProofs (disch := solve | simp (disch := solve | simp | (simp; omega)) [State.get_ite] | (simp [State.get_ite]; omega)) [State.posDisarm]
@[simp] theorem State.posClear_get_BLOCK_RST (s : State) (n) : (s.posClear n).get Oid.BLOCK_RST = s.get Oid.BLOCK_RST := by simp -implicitDefEqProofs (disch := solve | simp (disch := solve | simp | (simp; omega)) [State.get_ite] | (simp [State.get_ite]; omega)) [State.posClear]
@[simp] theorem State.posReset_get_BLOCK_RST (s : State) (n cause) : (s.posReset n cause).get Oid.BLOCK_RST = s.get Oid.BLOCK_RST := by simp -implicitDefEqProofs (disch := solve | simp (disch := solve | simp | (simp; omega)) [State.get_ite] | (simp [State.get_ite]; omega)) [State.posReset, State.get_ite]
@[simp] theorem State.setLoopMode_get_BLOCK_RST (s : State) (c j m) : (s.setLoopMode c j m).get Oid.BLOCK_RST = s.get Oid.BLOCK_RST := by simp -implicitDefEqProofs (disch := solve | simp (disch := solve | simp | (simp; omega)) [State.get_ite] | (simp [State.get_ite]; omega)) [State.setLoopMode, State.get_ite]
@[simp] theorem State.closeLoop_get_BLOCK_RST (s : State) (c j) : (s.closeLoop c j).get Oid.BLOCK_RST = s.get Oid.BLOCK_RST := by simp -implicitDefEqProofs (disch := solve | simp (disch := solve | simp | (simp; omega)) [State.get_ite] | (simp [State.get_ite]; omega)) [State.closeLoop]
@[simp] theorem State.doorLoopsClose_get_BLOCK_RST (s : State) (k) : (s.doorLoopsClose k).get Oid.BLOCK_RST = s.get Oid.BLOCK_RST := by simp -implicitDefEqProofs (disch := solve | simp (disch := solve | simp | (simp; omega)) [State.get_ite] | (simp [State.get_ite]; omega)) [State.doorLoopsClose]
@[simp] theorem State.doorLoopsOpen_get_BLOCK_RST (s : State) (k) : (s.doorLoopsOpen k).get Oid.BLOCK_RST = s.get Oid.BLOCK_RST := by simp -implicitDefEqProofs (disch := solve | simp (disch := solve | simp | (simp; omega)) [State.get_ite] | (simp [State.get_ite]; omega)) [State.doorLoopsOpen]
@[simp] theorem State.doorEnter_get_BLOCK_RST (s : State) (k st) : (s.doorEnter k st).get Oid.BLOCK_RST = s.get Oid.BLOCK_RST := by simp -implicitDefEqProofs (disch := solve | simp (disch := solve | simp | (simp; omega)) [State.get_ite] | (simp [State.get_ite]; omega)) [State.doorEnter, State.get_ite]
@[simp] theorem State.doorReset_get_BLOCK_RST (s : State) (k) : (s.doorReset k).get Oid.BLOCK_RST = s.get Oid.BLOCK_RST := by simp -implicitDefEqProofs (disch := solve | simp (disch := solve | simp | (simp; omega)) [State.get_ite] | (simp [State.get_ite]; omega)) [State.doorReset]
@[simp] theorem State.canReset_get_BLOCK_RST (s : State) (c) : (s.canReset c).get Oid.BLOCK_RST = s.get Oid.BLOCK_RST := by simp -implicitDefEqProofs (disch := solve | simp (disch := solve | simp | (simp; omega)) [State.get_ite] | (simp [State.get_ite]; omega)) [State.canReset]
@[simp] theorem State.calStop_get_BLOCK_RST (s : State) (i result) : (s.calStop i result).get Oid.BLOCK_RST = s.get Oid.BLOCK_RST := by
  simp -implicitDefEqProofs only [State.calStop]
  split <;> simp -implicitDefEqProofs (disch := solve | simp (disch := solve | simp | (simp; omega)) [State.get_ite] | (simp [State.get_ite]; omega)) [State.get_ite]
@[simp] theorem State.showVoltage_get_BLOCK_RST (s : State) (v) : (s.showVoltage v).get Oid.BLOCK_RST = s.get Oid.BLOCK_RST := by simp -implicitDefEqProofs (disch := solve | simp (disch := solve | simp | (simp; omega)) [State.get_ite] | (simp [State.get_ite]; omega)) [State.showVoltage]
@[simp] theorem State.zeroVoltage_get_BLOCK_RST (s : State) (v) : (s.zeroVoltage v).get Oid.BLOCK_RST = s.get Oid.BLOCK_RST := by simp -implicitDefEqProofs (disch := solve | simp (disch := solve | simp | (simp; omega)) [State.get_ite] | (simp [State.get_ite]; omega)) [State.zeroVoltage]
@[simp] theorem State.showCurrent_get_BLOCK_RST (s : State) (c) : (s.showCurrent c).get Oid.BLOCK_RST = s.get Oid.BLOCK_RST := by simp -implicitDefEqProofs (disch := solve | simp (disch := solve | simp | (simp; omega)) [State.get_ite] | (simp [State.get_ite]; omega)) [State.showCurrent, State.get_ite]
@[simp] theorem State.showPulse_get_BLOCK_RST (s : State) (x) : (s.showPulse x).get Oid.BLOCK_RST = s.get Oid.BLOCK_RST := by simp -implicitDefEqProofs (disch := solve | simp (disch := solve | simp | (simp; omega)) [State.get_ite] | (simp [State.get_ite]; omega)) [State.showPulse]
@[simp] theorem State.showMetering_get_BLOCK_RST (s : State) : s.showMetering.get Oid.BLOCK_RST = s.get Oid.BLOCK_RST := by simp -implicitDefEqProofs (disch := solve | simp (disch := solve | simp | (simp; omega)) [State.get_ite] | (simp [State.get_ite]; omega)) [State.showMetering]
@[simp] theorem State.handshake_mode (s : State) (k) : (s.handshake k).mode = s.mode := by simp -implicitDefEqProofs [State.handshake]
@[simp] theorem State.islandStart_mode (s : State) (i) : (s.islandStart i).mode = s.mode := (rfl)
@[simp] theorem State.acctUp_mode (s : State) (a) : (s.acctUp a).mode = s.mode := by simp -implicitDefEqProofs [State.acctUp]
@[simp] theorem State.blockLeave_mode (s : State) (b) : (s.blockLeave b).mode = s.mode := by
  simp -implicitDefEqProofs only [State.blockLeave]
  split <;> simp -implicitDefEqProofs [apply_ite State.mode]
@[simp] theorem State.blockRelease_mode (s : State) (b) : (s.blockRelease b).mode = s.mode := by simp -implicitDefEqProofs [State.blockRelease, apply_ite State.mode]
@[simp] theorem State.handshake_get_BLOCK_RST (s : State) (k) : (s.handshake k).get Oid.BLOCK_RST = s.get Oid.BLOCK_RST := by simp -implicitDefEqProofs (disch := solve | simp (disch := solve | simp | (simp; omega)) [State.get_ite] | (simp [State.get_ite]; omega)) [State.handshake]
@[simp] theorem State.swapItem_get_BLOCK_RST (s : State) (i) : (s.swapItem i).get Oid.BLOCK_RST = s.get Oid.BLOCK_RST := by simp -implicitDefEqProofs (disch := solve | simp (disch := solve | simp | (simp; omega)) [State.get_ite] | (simp [State.get_ite]; omega)) [State.swapItem]
@[simp] theorem State.moveItem_get_BLOCK_RST (a) (s : State) (i) : (s.moveItem a i).get Oid.BLOCK_RST = s.get Oid.BLOCK_RST := by
  unfold State.moveItem
  split <;> simp -implicitDefEqProofs (disch := solve | simp (disch := solve | simp | (simp; omega)) [State.get_ite] | (simp [State.get_ite]; omega))
@[simp] theorem State.ptStatusBit_get_BLOCK_RST (s : State) (p i b) : (s.ptStatusBit p i b).get Oid.BLOCK_RST = s.get Oid.BLOCK_RST := by
  unfold State.ptStatusBit
  split <;> simp -implicitDefEqProofs (disch := solve | simp (disch := solve | simp | (simp; omega)) [State.get_ite] | (simp [State.get_ite]; omega))
@[simp] theorem State.markDegraded_get_BLOCK_RST (s : State) (k) : (s.markDegraded k).get Oid.BLOCK_RST = s.get Oid.BLOCK_RST := by
  unfold State.markDegraded
  split <;> simp -implicitDefEqProofs (disch := solve | simp (disch := solve | simp | (simp; omega)) [State.get_ite] | (simp [State.get_ite]; omega))
@[simp] theorem State.degrade_get_BLOCK_RST (s : State) (a i) : (s.degrade a i).get Oid.BLOCK_RST = s.get Oid.BLOCK_RST := by simp -implicitDefEqProofs (disch := solve | simp (disch := solve | simp | (simp; omega)) [State.get_ite] | (simp [State.get_ite]; omega)) [State.degrade]
@[simp] theorem State.degradePathless_get_BLOCK_RST (s : State) (a) : (s.degradePathless a).get Oid.BLOCK_RST = s.get Oid.BLOCK_RST := by
  unfold State.degradePathless
  split <;> simp -implicitDefEqProofs (disch := solve | simp (disch := solve | simp | (simp; omega)) [State.get_ite] | (simp [State.get_ite]; omega))
@[simp] theorem State.degradeOn_get_BLOCK_RST (a a1) (s : State) : (s.degradeOn a a1).get Oid.BLOCK_RST = s.get Oid.BLOCK_RST := by
  fun_induction State.degradeOn a a1 s <;> simp_all
@[simp] theorem State.shrink_get_BLOCK_RST (s : State) (a) : (s.shrink a).get Oid.BLOCK_RST = s.get Oid.BLOCK_RST := by simp -implicitDefEqProofs (disch := solve | simp (disch := solve | simp | (simp; omega)) [State.get_ite] | (simp [State.get_ite]; omega)) [State.shrink]
@[simp] theorem State.moveBack_get_BLOCK_RST (a) (s : State) (i) : (s.moveBack a i).get Oid.BLOCK_RST = s.get Oid.BLOCK_RST := by
  unfold State.moveBack
  split <;> simp -implicitDefEqProofs (disch := solve | simp (disch := solve | simp | (simp; omega)) [State.get_ite] | (simp [State.get_ite]; omega))
@[simp] theorem State.undegrade_get_BLOCK_RST (s : State) (a i) : (s.undegrade a i).get Oid.BLOCK_RST = s.get Oid.BLOCK_RST := by simp -implicitDefEqProofs (disch := solve | simp (disch := solve | simp | (simp; omega)) [State.get_ite] | (simp [State.get_ite]; omega)) [State.undegrade]
@[simp] theorem State.restoreItem_get_BLOCK_RST (a) (s : State) (i) : (s.restoreItem a i).get Oid.BLOCK_RST = s.get Oid.BLOCK_RST := by simp -implicitDefEqProofs (disch := solve | simp (disch := solve | simp | (simp; omega)) [State.get_ite] | (simp [State.get_ite]; omega)) [State.restoreItem, State.get_ite]
@[simp] theorem State.grow_get_BLOCK_RST (s : State) (a) : (s.grow a).get Oid.BLOCK_RST = s.get Oid.BLOCK_RST := by simp -implicitDefEqProofs (disch := solve | simp (disch := solve | simp | (simp; omega)) [State.get_ite] | (simp [State.get_ite]; omega)) [State.grow]
@[simp] theorem State.canTakeMode_get_BLOCK_RST (s : State) (c m) : (s.canTakeMode c m).get Oid.BLOCK_RST = s.get Oid.BLOCK_RST := by simp -implicitDefEqProofs (disch := solve | simp (disch := solve | simp | (simp; omega)) [State.get_ite] | (simp [State.get_ite]; omega)) [State.canTakeMode, State.get_ite]
@[simp] theorem State.islandStart_get_BLOCK_RST (s : State) (i) : (s.islandStart i).get Oid.BLOCK_RST = s.get Oid.BLOCK_RST := by simp -implicitDefEqProofs (disch := solve | simp (disch := solve | simp | (simp; omega)) [State.get_ite] | (simp [State.get_ite]; omega)) [State.islandStart]
@[simp] theorem State.acctUp_get_BLOCK_RST (s : State) (a) : (s.acctUp a).get Oid.BLOCK_RST = s.get Oid.BLOCK_RST := by simp -implicitDefEqProofs (disch := solve | simp (disch := solve | simp | (simp; omega)) [State.get_ite] | (simp [State.get_ite]; omega)) [State.acctUp]
@[simp] theorem State.blockLeave_get_BLOCK_RST (s : State) (b) : (s.blockLeave b).get Oid.BLOCK_RST = s.get Oid.BLOCK_RST := by
  simp -implicitDefEqProofs only [State.blockLeave]
  repeat' split
  all_goals simp -implicitDefEqProofs (disch := solve | simp (disch := solve | simp | (simp; omega)) [State.get_ite] | (simp [State.get_ite]; omega)) [State.get_ite]
@[simp] theorem State.blockRelease_get_BLOCK_RST (s : State) (b) : (s.blockRelease b).get Oid.BLOCK_RST = s.get Oid.BLOCK_RST := by simp -implicitDefEqProofs (disch := solve | simp (disch := solve | simp | (simp; omega)) [State.get_ite] | (simp [State.get_ite]; omega)) [State.blockRelease, State.get_ite]
@[simp] theorem State.timeMark_emits (s : State) : s.timeMark.emits = s.emits := by simp -implicitDefEqProofs [State.timeMark]
@[simp] theorem State.flagIntervals_emits (s : State) (bit) : (s.flagIntervals bit).emits = s.emits := (rfl)
@[simp] theorem State.energyGap_emits (s : State) (msGap cause) : (s.energyGap msGap cause).emits = s.emits := by simp -implicitDefEqProofs [State.energyGap]
@[simp] theorem State.gapKnown_emits (s : State) : s.gapKnown.emits = s.emits := by
  unfold State.gapKnown
  split <;> simp -implicitDefEqProofs
@[simp] theorem State.setStatus_emits (s : State) (st) : (s.setStatus st).emits = s.emits := by simp -implicitDefEqProofs [State.setStatus, apply_ite State.emits]
@[simp] theorem State.changePort_emits (s : State) (q) : (s.changePort q).emits = s.emits := by simp -implicitDefEqProofs [State.changePort, apply_ite State.emits]
@[simp] theorem State.ptpLinkLost_emits (s : State) : s.ptpLinkLost.emits = s.emits := by simp -implicitDefEqProofs [State.ptpLinkLost, apply_ite State.emits]
@[simp] theorem State.timeMark_acc_sessions (s : State) : s.timeMark.acc.sessions = s.acc.sessions := by simp -implicitDefEqProofs [State.timeMark]
@[simp] theorem State.flagIntervals_acc_sessions (s : State) (bit) : (s.flagIntervals bit).acc.sessions = s.acc.sessions := (rfl)
@[simp] theorem State.energyGap_acc_sessions (s : State) (msGap cause) : (s.energyGap msGap cause).acc.sessions = s.acc.sessions := by simp -implicitDefEqProofs [State.energyGap]
@[simp] theorem State.gapKnown_acc_sessions (s : State) : s.gapKnown.acc.sessions = s.acc.sessions := by
  unfold State.gapKnown
  split <;> simp -implicitDefEqProofs
@[simp] theorem State.setStatus_acc_sessions (s : State) (st) : (s.setStatus st).acc.sessions = s.acc.sessions := by simp -implicitDefEqProofs [State.setStatus, apply_ite State.acc, apply_ite Access.sessions]
@[simp] theorem State.changePort_acc_sessions (s : State) (q) : (s.changePort q).acc.sessions = s.acc.sessions := by simp -implicitDefEqProofs [State.changePort, apply_ite State.acc, apply_ite Access.sessions]
@[simp] theorem State.ptpLinkLost_acc_sessions (s : State) : s.ptpLinkLost.acc.sessions = s.acc.sessions := by simp -implicitDefEqProofs [State.ptpLinkLost, apply_ite State.acc, apply_ite Access.sessions]
@[simp] theorem State.timeMark_get_BLOCK_IN_RST (s : State) : s.timeMark.get Oid.BLOCK_IN_RST = s.get Oid.BLOCK_IN_RST := by
  simp -implicitDefEqProofs (disch := solve | simp (disch := solve | simp | (simp; omega)) [State.get_ite] | (simp [State.get_ite]; omega)) [State.timeMark, State.get_ite]
  all_goals rfl
@[simp] theorem State.energyGap_get_BLOCK_IN_RST (s : State) (msGap cause) : (s.energyGap msGap cause).get Oid.BLOCK_IN_RST = s.get Oid.BLOCK_IN_RST := by simp -implicitDefEqProofs (disch := solve | simp (disch := solve | simp | (simp; omega)) [State.get_ite] | (simp [State.get_ite]; omega)) [State.energyGap]
@[simp] theorem State.gapKnown_get_BLOCK_IN_RST (s : State) : s.gapKnown.get Oid.BLOCK_IN_RST = s.get Oid.BLOCK_IN_RST := by
  simp -implicitDefEqProofs only [State.gapKnown]
  repeat' split
  all_goals simp -implicitDefEqProofs (disch := solve | simp (disch := solve | simp | (simp; omega)) [State.get_ite] | (simp [State.get_ite]; omega)) [State.get_ite]
  all_goals rfl
@[simp] theorem State.timeMark_get_BLOCK_RST (s : State) : s.timeMark.get Oid.BLOCK_RST = s.get Oid.BLOCK_RST := by
  simp -implicitDefEqProofs (disch := solve | simp (disch := solve | simp | (simp; omega)) [State.get_ite] | (simp [State.get_ite]; omega)) [State.timeMark, State.get_ite]
  all_goals rfl
@[simp] theorem State.energyGap_get_BLOCK_RST (s : State) (msGap cause) : (s.energyGap msGap cause).get Oid.BLOCK_RST = s.get Oid.BLOCK_RST := by simp -implicitDefEqProofs (disch := solve | simp (disch := solve | simp | (simp; omega)) [State.get_ite] | (simp [State.get_ite]; omega)) [State.energyGap]
@[simp] theorem State.gapKnown_get_BLOCK_RST (s : State) : s.gapKnown.get Oid.BLOCK_RST = s.get Oid.BLOCK_RST := by
  simp -implicitDefEqProofs only [State.gapKnown]
  repeat' split
  all_goals simp -implicitDefEqProofs (disch := solve | simp (disch := solve | simp | (simp; omega)) [State.get_ite] | (simp [State.get_ite]; omega)) [State.get_ite]
  all_goals rfl
@[simp] theorem State.blockRst_emits (s : State) (v) : (s.blockRst v).emits = s.emits := by simp -implicitDefEqProofs [State.blockRst, apply_ite State.emits]
@[simp] theorem State.mirror_acc_sessions (s : State) (b) : (s.mirror b).acc.sessions = s.acc.sessions := by unfold State.mirror; split <;> rfl
@[simp] theorem State.blockRst_acc_sessions (s : State) (v) : (s.blockRst v).acc.sessions = s.acc.sessions := by simp -implicitDefEqProofs [State.blockRst, apply_ite State.acc, apply_ite Access.sessions]
@[simp] theorem State.blockRst_mode (s : State) (v) : (s.blockRst v).mode = s.mode := by simp -implicitDefEqProofs [State.blockRst, apply_ite State.mode]
@[simp] theorem State.islandStop_get_BLOCK_RST (s : State) (i st : Nat) : (s.islandStop i st).get Oid.BLOCK_RST = s.get Oid.BLOCK_RST :=
  s.islandStop_get i st _ (fun u => u.showMetering_get_BLOCK_RST) (fun u => u.calStop_get_BLOCK_RST i 4) (fun j => by simp; omega) (by simp; omega) (by simp; omega)
@[simp] theorem State.setStatus_get_BLOCK_RST (s : State) (st : Nat) : (s.setStatus st).get Oid.BLOCK_RST = s.get Oid.BLOCK_RST :=
  s.setStatus_get _ st (by decide) (by decide) (by decide)
@[simp] theorem State.setStatus_get_BLOCK_IN_RST (s : State) (st : Nat) : (s.setStatus st).get Oid.BLOCK_IN_RST = s.get Oid.BLOCK_IN_RST :=
  s.setStatus_get _ st (by decide) (by decide) (by decide)
@[simp] theorem State.acctDown_get_BLOCK_RST (s : State) (a) : (s.acctDown a).get Oid.BLOCK_RST = s.get Oid.BLOCK_RST := by simp -implicitDefEqProofs (disch := solve | simp (disch := solve | simp | (simp; omega)) [State.get_ite] | (simp [State.get_ite]; omega)) [State.acctDown]
@[simp] theorem State.blockEnter_get_BLOCK_RST (s : State) (b) : (s.blockEnter b).get Oid.BLOCK_RST = s.get Oid.BLOCK_RST := by
  simp -implicitDefEqProofs only [State.blockEnter]
  repeat' split
  all_goals simp -implicitDefEqProofs (disch := solve | simp (disch := solve | simp | (simp; omega)) [State.get_ite] | (simp [State.get_ite]; omega)) [State.get_ite]
@[simp] theorem State.free_emits (s : State) : s.free.2.emits = s.emits := (rfl)
@[simp] theorem State.slew_emits (s : State) : s.slew.emits = s.emits := (rfl)
@[simp] theorem State.slew_mode (s : State) : s.slew.mode = s.mode := (rfl)
@[simp] theorem State.free_acc_sessions (s : State) : s.free.2.acc.sessions = s.acc.sessions := (rfl)
@[simp] theorem State.slew_acc_sessions (s : State) : s.slew.acc.sessions = s.acc.sessions := (rfl)
@[simp] theorem State.free_pow (s : State) : s.free.2.pow = s.pow := (rfl)
@[simp] theorem State.slew_pow (s : State) : s.slew.pow = s.pow := (rfl)
@[simp] theorem State.showOffset_emits (s : State) (o) : (s.showOffset o).emits = s.emits := (rfl)
@[simp] theorem State.showOffset_mode (s : State) (o) : (s.showOffset o).mode = s.mode := (rfl)
@[simp] theorem State.showOffset_acc_sessions (s : State) (o) : (s.showOffset o).acc.sessions = s.acc.sessions := (rfl)
@[simp] theorem State.showOffset_pow (s : State) (o) : (s.showOffset o).pow = s.pow := (rfl)
@[simp] theorem State.timeMark_pow (s : State) : s.timeMark.pow = s.pow := by simp -implicitDefEqProofs [State.timeMark]
@[simp] theorem State.flagIntervals_pow (s : State) (bit) : (s.flagIntervals bit).pow = s.pow := (rfl)
@[simp] theorem State.energyGap_pow (s : State) (msGap cause) : (s.energyGap msGap cause).pow = s.pow := by simp -implicitDefEqProofs [State.energyGap]
@[simp] theorem State.gapKnown_pow (s : State) : s.gapKnown.pow = s.pow := by
  unfold State.gapKnown
  split <;> simp -implicitDefEqProofs
@[simp] theorem State.setStatus_pow (s : State) (st) : (s.setStatus st).pow = s.pow := by simp -implicitDefEqProofs [State.setStatus, apply_ite State.pow]
@[simp] theorem State.timeFault_emits (s : State) (o) : (s.timeFault o).emits = s.emits := by simp -implicitDefEqProofs [State.timeFault]
@[simp] theorem State.followSync_emits (s : State) (p o) : (s.followSync p o).emits = s.emits := by simp -implicitDefEqProofs [State.followSync, apply_ite State.emits]
@[simp] theorem State.sync_emits (s : State) (p o valid) : (s.sync p o valid).emits = s.emits := by simp -implicitDefEqProofs [State.sync, apply_ite State.emits]
@[simp] theorem State.timeFault_mode (s : State) (o) : (s.timeFault o).mode = s.mode := by simp -implicitDefEqProofs [State.timeFault]
@[simp] theorem State.followSync_mode (s : State) (p o) : (s.followSync p o).mode = s.mode := by simp -implicitDefEqProofs [State.followSync, apply_ite State.mode]
@[simp] theorem State.sync_mode (s : State) (p o valid) : (s.sync p o valid).mode = s.mode := by simp -implicitDefEqProofs [State.sync, apply_ite State.mode]
@[simp] theorem State.timeFault_acc_sessions (s : State) (o) : (s.timeFault o).acc.sessions = s.acc.sessions := by simp -implicitDefEqProofs [State.timeFault]
@[simp] theorem State.followSync_acc_sessions (s : State) (p o) : (s.followSync p o).acc.sessions = s.acc.sessions := by simp -implicitDefEqProofs [State.followSync, apply_ite State.acc, apply_ite Access.sessions]
@[simp] theorem State.sync_acc_sessions (s : State) (p o valid) : (s.sync p o valid).acc.sessions = s.acc.sessions := by simp -implicitDefEqProofs [State.sync, apply_ite State.acc, apply_ite Access.sessions]
@[simp] theorem State.timeFault_pow (s : State) (o) : (s.timeFault o).pow = s.pow := by simp -implicitDefEqProofs [State.timeFault]
@[simp] theorem State.followSync_pow (s : State) (p o) : (s.followSync p o).pow = s.pow := by simp -implicitDefEqProofs [State.followSync, apply_ite State.pow]
@[simp] theorem State.sync_pow (s : State) (p o valid) : (s.sync p o valid).pow = s.pow := by simp -implicitDefEqProofs [State.sync, apply_ite State.pow]
@[simp] theorem State.becomeMaster_emits (s : State) : s.becomeMaster.emits = s.emits := (rfl)
@[simp] theorem State.storeInterval_emits (s : State) (c short) : (s.storeInterval c short).emits = s.emits := (rfl)
@[simp] theorem State.openInterval_emits (s : State) (c) : (s.openInterval c).emits = s.emits := (rfl)
@[simp] theorem State.closeInterval_emits (s : State) (short) : (s.closeInterval short).emits = s.emits := by
  unfold State.closeInterval
  split <;> simp -implicitDefEqProofs
@[simp] theorem State.becomeMaster_mode (s : State) : s.becomeMaster.mode = s.mode := (rfl)
@[simp] theorem State.selectGm_mode (s : State) (p id) : (s.selectGm p id).mode = s.mode := by simp -implicitDefEqProofs [State.selectGm, apply_ite State.mode]
@[simp] theorem State.reselect_mode (s : State) : s.reselect.mode = s.mode := by
  simp -implicitDefEqProofs only [State.reselect]
  split <;> simp -implicitDefEqProofs [apply_ite State.mode]
@[simp] theorem State.becomeMaster_acc_sessions (s : State) : s.becomeMaster.acc.sessions = s.acc.sessions := (rfl)
@[simp] theorem State.storeInterval_acc_sessions (s : State) (c short) : (s.storeInterval c short).acc.sessions = s.acc.sessions := (rfl)
@[simp] theorem State.openInterval_acc_sessions (s : State) (c) : (s.openInterval c).acc.sessions = s.acc.sessions := (rfl)
@[simp] theorem State.closeInterval_acc_sessions (s : State) (short) : (s.closeInterval short).acc.sessions = s.acc.sessions := by
  unfold State.closeInterval
  split <;> simp -implicitDefEqProofs
@[simp] theorem State.mapLaunch_acc_sessions (s : State) (part tag f) : (s.mapLaunch part tag f).acc.sessions = s.acc.sessions := (rfl)
@[simp] theorem State.endLaunch_acc_sessions (s : State) (l st) : (s.endLaunch l st).acc.sessions = s.acc.sessions := by simp -implicitDefEqProofs [State.endLaunch]
@[simp] theorem State.commitLaunch_acc_sessions (s : State) (l) : (s.commitLaunch l).acc.sessions = s.acc.sessions := by
  unfold State.commitLaunch
  split <;> simp -implicitDefEqProofs
@[simp] theorem State.emitPast_acc_sessions (s : State) (l) : (s.emitPast l).acc.sessions = s.acc.sessions := by simp -implicitDefEqProofs [State.emitPast, apply_ite State.acc, apply_ite Access.sessions]
@[simp] theorem State.stepTime_acc_sessions (s : State) (t) : (s.stepTime t).acc.sessions = s.acc.sessions := by simp -implicitDefEqProofs [State.stepTime, apply_ite State.acc, apply_ite Access.sessions]
@[simp] theorem State.selectGm_acc_sessions (s : State) (p id) : (s.selectGm p id).acc.sessions = s.acc.sessions := by simp -implicitDefEqProofs [State.selectGm, apply_ite State.acc, apply_ite Access.sessions]
@[simp] theorem State.reselect_acc_sessions (s : State) : s.reselect.acc.sessions = s.acc.sessions := by
  simp -implicitDefEqProofs only [State.reselect]
  split <;> simp -implicitDefEqProofs [apply_ite State.acc, apply_ite Access.sessions]
@[simp] theorem State.becomeMaster_pow (s : State) : s.becomeMaster.pow = s.pow := (rfl)
@[simp] theorem State.storeInterval_pow (s : State) (c short) : (s.storeInterval c short).pow = s.pow := (rfl)
@[simp] theorem State.openInterval_pow (s : State) (c) : (s.openInterval c).pow = s.pow := (rfl)
@[simp] theorem State.closeInterval_pow (s : State) (short) : (s.closeInterval short).pow = s.pow := by
  unfold State.closeInterval
  split <;> simp -implicitDefEqProofs
@[simp] theorem State.mapLaunch_pow (s : State) (part tag f) : (s.mapLaunch part tag f).pow = s.pow := (rfl)
@[simp] theorem State.endLaunch_pow (s : State) (l st) : (s.endLaunch l st).pow = s.pow := by simp -implicitDefEqProofs [State.endLaunch]
@[simp] theorem State.commitLaunch_pow (s : State) (l) : (s.commitLaunch l).pow = s.pow := by
  unfold State.commitLaunch
  split <;> simp -implicitDefEqProofs
@[simp] theorem State.emitPast_pow (s : State) (l) : (s.emitPast l).pow = s.pow := by simp -implicitDefEqProofs [State.emitPast, apply_ite State.pow]
@[simp] theorem State.stepTime_pow (s : State) (t) : (s.stepTime t).pow = s.pow := by simp -implicitDefEqProofs [State.stepTime, apply_ite State.pow]
@[simp] theorem State.selectGm_pow (s : State) (p id) : (s.selectGm p id).pow = s.pow := by simp -implicitDefEqProofs [State.selectGm, apply_ite State.pow]
@[simp] theorem State.reselect_pow (s : State) : s.reselect.pow = s.pow := by
  simp -implicitDefEqProofs only [State.reselect]
  split <;> simp -implicitDefEqProofs [apply_ite State.pow]
@[simp] theorem State.holdover_emits (s : State) : s.holdover.emits = s.emits := by
  unfold State.holdover
  split <;> simp -implicitDefEqProofs
@[simp] theorem State.announceTimeout_emits (s : State) (p) : (s.announceTimeout p).emits = s.emits := by simp -implicitDefEqProofs [State.announceTimeout, apply_ite State.emits]
@[simp] theorem State.holdover_mode (s : State) : s.holdover.mode = s.mode := by
  unfold State.holdover
  split <;> simp -implicitDefEqProofs
@[simp] theorem State.announceTimeout_mode (s : State) (p) : (s.announceTimeout p).mode = s.mode := by simp -implicitDefEqProofs [State.announceTimeout, apply_ite State.mode]
@[simp] theorem State.holdover_acc_sessions (s : State) : s.holdover.acc.sessions = s.acc.sessions := by
  unfold State.holdover
  split <;> simp -implicitDefEqProofs
@[simp] theorem State.announceTimeout_acc_sessions (s : State) (p) : (s.announceTimeout p).acc.sessions = s.acc.sessions := by simp -implicitDefEqProofs [State.announceTimeout, apply_ite State.acc, apply_ite Access.sessions]
@[simp] theorem State.changePort_pow (s : State) (q) : (s.changePort q).pow = s.pow := by simp -implicitDefEqProofs [State.changePort, apply_ite State.pow]
@[simp] theorem State.holdover_pow (s : State) : s.holdover.pow = s.pow := by
  unfold State.holdover
  split <;> simp -implicitDefEqProofs
@[simp] theorem State.announceTimeout_pow (s : State) (p) : (s.announceTimeout p).pow = s.pow := by simp -implicitDefEqProofs [State.announceTimeout, apply_ite State.pow]
@[simp] theorem State.announce_mode (s : State) (p m) : (s.announce p m).mode = s.mode := by
  unfold State.announce
  split <;> simp -implicitDefEqProofs
@[simp] theorem State.announce_acc_sessions (s : State) (p m) : (s.announce p m).acc.sessions = s.acc.sessions := by
  unfold State.announce
  split <;> simp -implicitDefEqProofs
@[simp] theorem State.announce_pow (s : State) (p m) : (s.announce p m).pow = s.pow := by
  unfold State.announce
  split <;> simp -implicitDefEqProofs
theorem State.slew_records (s : State) : s.KeepsRecords s.slew := .after (.of_rcd (State.set_rcd ..)) (.set_rcd (State.mk_rcd ..) (.of_rcd (State.free_rcd ..)))
theorem State.showOffset_records (s : State) (o) : s.KeepsRecords (s.showOffset o) := .of_rcd (State.set_rcd ..)
@[simp] theorem State.showOffset_rcd (s : State) (o) : (s.showOffset o).rcd = s.rcd := (rfl)
@[simp] theorem State.becomeMaster_rcd (s : State) : s.becomeMaster.rcd = s.rcd := (rfl)
/-- The time of the last mark. -/
def State.marksNow (s : State) : State := { s with rcd := { s.rcd with lastMark := s.clk } }
theorem State.timeMark_eq (s : State) : s.timeMark = s.marksNow.event 0x110C s.time (s.time / 4294967296) s.tb.status := rfl
theorem State.timeMark_records (s : State) : s.KeepsRecords s.timeMark :=
  .after (s.marksNow.event_records ..) ⟨fun h => h⟩
theorem State.timeMark_numbers (s : State) : s.NumbersOn s.timeMark :=
  .after (s.marksNow.event_numbers ..) ⟨Nat.le_refl _⟩
@[simp] theorem State.flagIntervals_rcd (s : State) (bit) : (s.flagIntervals bit).rcd = s.rcd := (rfl)
theorem State.energyGap_records (s : State) (msGap cause) : s.KeepsRecords (s.energyGap msGap cause) := .after (State.event_records ..) (.of_rcd (State.setN_rcd ..))
theorem State.gapKnown_records (s : State) : s.KeepsRecords s.gapKnown := by
  unfold State.gapKnown
  cases s.met.gapDue
  · exact .refl _
  · exact .after (State.energyGap_records ..) (.of_rcd rfl)
theorem State.setStatus_records (s : State) (st) : s.KeepsRecords (s.setStatus st) := .ite (.refl _) (.ite (.after (State.gapKnown_records ..) (.set_rcd (State.mk_rcd ..) (.ite (.after (.of_rcd (State.flagIntervals_rcd ..)) (.after (State.timeMark_records ..) (.after (.of_rcd (State.setN_rcd ..)) (.of_rcd rfl)))) (.after (State.timeMark_records ..) (.after (.of_rcd (State.setN_rcd ..)) (.of_rcd rfl)))))) (.ite (.after (.of_rcd (State.flagIntervals_rcd ..)) (.after (State.timeMark_records ..) (.after (.of_rcd (State.setN_rcd ..)) (.of_rcd rfl)))) (.after (State.timeMark_records ..) (.after (.of_rcd (State.setN_rcd ..)) (.of_rcd rfl)))))
theorem State.timeFault_records (s : State) (o) : s.KeepsRecords (s.timeFault o) := .after (State.event_records ..) (.after (State.setStatus_records ..) (.set_rcd (State.mk_rcd ..) (State.event_records ..)))
theorem State.followSync_records (s : State) (p o) : s.KeepsRecords (s.followSync p o) := .ite (.set_rcd (State.mk_rcd ..) (State.showOffset_records ..)) (.ite (.after (State.timeFault_records ..) (.set_rcd (State.mk_rcd ..) (State.showOffset_records ..))) (.ite (.after (State.event_records ..) (.after (State.setStatus_records ..) (.after (State.slew_records ..) (.set_rcd (State.mk_rcd ..) (.set_rcd (State.mk_rcd ..) (State.showOffset_records ..)))))) (.after (State.slew_records ..) (.set_rcd (State.mk_rcd ..) (.set_rcd (State.mk_rcd ..) (State.showOffset_records ..))))))
theorem State.sync_records (s : State) (p o valid) : s.KeepsRecords (s.sync p o valid) := .ite (.refl _) (.ite (.of_rcd rfl) (.ite (.set_rcd (State.mk_rcd ..) (.of_rcd rfl)) (.after (State.followSync_records ..) (.of_rcd rfl))))
@[simp] theorem State.storeInterval_rcd (s : State) (c short) : (s.storeInterval c short).rcd = s.rcd := (rfl)
@[simp] theorem State.openInterval_rcd (s : State) (c) : (s.openInterval c).rcd = s.rcd := (rfl)
@[simp] theorem State.closeInterval_rcd (s : State) (short) : (s.closeInterval short).rcd = s.rcd := by
  unfold State.closeInterval
  split <;> simp -implicitDefEqProofs
@[simp] theorem State.mapLaunch_rcd (s : State) (part tag f) : (s.mapLaunch part tag f).rcd = s.rcd := (rfl)
@[simp] theorem State.endLaunch_rcd (s : State) (l st) : (s.endLaunch l st).rcd = s.rcd := by simp -implicitDefEqProofs [State.endLaunch]
theorem State.commitLaunch_records (s : State) (l) : s.KeepsRecords (s.commitLaunch l) := by
  unfold State.commitLaunch
  cases s.targetCheck { part := l.part } l.target l.prio l.value
  · exact .of_rcd (State.mapLaunch_rcd ..)
  · exact .after (.of_rcd (State.mirror_rcd ..)) (.after (State.event_records ..) (.of_rcd (State.endLaunch_rcd ..)))
theorem State.emitPast_records (s : State) (l) : s.KeepsRecords (s.emitPast l) := .ite (.after (.of_rcd (State.mirror_rcd ..)) (.after (.of_rcd (State.endLaunch_rcd ..)) (.set_rcd (State.mk_rcd ..) (.ite (State.commitLaunch_records ..) (.refl _))))) (.ite (State.commitLaunch_records ..) (.refl _))
theorem State.stepTime_records (s : State) (t) : s.KeepsRecords (s.stepTime t) := .after (State.event_records ..) (.ite (.after (.foldl (fun _ _ => State.emitPast_records ..) _ _) (.after (.of_rcd (State.setN_rcd ..)) (.set_rcd (State.mk_rcd ..) (.after (.of_rcd (State.closeInterval_rcd ..)) (.of_rcd (State.flagIntervals_rcd ..)))))) (.after (.of_rcd (State.setN_rcd ..)) (.set_rcd (State.mk_rcd ..) (.after (.of_rcd (State.closeInterval_rcd ..)) (.of_rcd (State.flagIntervals_rcd ..))))))
theorem State.selectGm_records (s : State) (p id) : s.KeepsRecords (s.selectGm p id) := .ite (.after (State.event_records ..) (.after (.of_rcd (State.setBlob_rcd ..)) (.of_rcd rfl))) (.ite (.after (State.setStatus_records ..) (.after (State.stepTime_records ..) (.after (State.event_records ..) (.after (.of_rcd (State.setBlob_rcd ..)) (.of_rcd rfl))))) (.ite (.after (State.event_records ..) (.after (.of_rcd (State.setBlob_rcd ..)) (.of_rcd rfl))) (.after (State.setStatus_records ..) (.after (State.event_records ..) (.after (.of_rcd (State.setBlob_rcd ..)) (.of_rcd rfl))))))
theorem State.reselect_records (s : State) : s.KeepsRecords s.reselect := by
  unfold State.reselect
  cases s.bestGm
  · exact .refl _
  · exact .ite (.ite (.refl _) (.of_rcd (State.becomeMaster_rcd ..))) (.ite (.refl _) (State.selectGm_records ..))
theorem State.holdover_records (s : State) : s.KeepsRecords s.holdover := .ite (.after (State.event_records ..) (.after (State.setStatus_records ..) (.of_rcd rfl))) (.refl _)
theorem State.changePort_records (s : State) (q) : s.KeepsRecords (s.changePort q) := .ite (.ite (.after (State.event_records ..) (.of_rcd rfl)) (.after (State.event_records ..) (.after (.of_rcd (State.setBlob_rcd ..)) (.after (State.event_records ..) (.of_rcd rfl))))) (.ite (.ite (.after (State.event_records ..) (.of_rcd rfl)) (.after (State.event_records ..) (.after (.of_rcd (State.setBlob_rcd ..)) (.after (State.event_records ..) (.of_rcd rfl))))) (.after (State.setStatus_records ..) (.set_rcd (State.mk_rcd ..) (.ite (.after (State.event_records ..) (.of_rcd rfl)) (.after (State.event_records ..) (.after (.of_rcd (State.setBlob_rcd ..)) (.after (State.event_records ..) (.of_rcd rfl))))))))
theorem State.announceTimeout_records (s : State) (p) : s.KeepsRecords (s.announceTimeout p) := .ite (.refl _) (.ite (State.changePort_records ..) (.ite (.refl _) (.ite (.after (.of_rcd (State.becomeMaster_rcd ..)) (.ite (.ite (.of_rcd rfl) (.refl _)) (.after (State.holdover_records ..) (.ite (.of_rcd rfl) (.refl _))))) (.ite (.ite (.of_rcd rfl) (.refl _)) (.after (State.holdover_records ..) (.ite (.of_rcd rfl) (.refl _)))))))
theorem State.announce_records (s : State) (p m) : s.KeepsRecords (s.announce p m) := .ite (.refl _) (.after (State.reselect_records ..) (.of_rcd rfl))
@[simp] theorem State.slew_rcd (s : State) : s.slew.rcd = s.rcd := (rfl)
@[simp] theorem State.free_clk (s : State) : s.free.2.clk = s.clk := (rfl)
@[simp] theorem State.slew_clk (s : State) : s.slew.clk = s.clk := (rfl)
@[simp] theorem State.foldl_tb_follower {α : Type} {g : State → α → State} (hg : ∀ s a, (g s a).tb.follower = s.tb.follower) (l : List α) (s : State) :
    (l.foldl g s).tb.follower = s.tb.follower := State.foldl_keeps (fun s => s.tb.follower) hg l s
@[simp] theorem State.foldl_fst_tb_follower {α β : Type} {g : State × β → α → State × β} (hg : ∀ r a, (g r a).1.tb.follower = r.1.tb.follower) (l : List α)
    (r : State × β) : (l.foldl g r).1.tb.follower = r.1.tb.follower := List.foldl_keeps (fun r => r.1.tb.follower) hg l r
@[simp] theorem State.foldl_snd_tb_follower {α β : Type} {g : β × State → α → β × State} (hg : ∀ r a, (g r a).2.tb.follower = r.2.tb.follower) (l : List α)
    (r : β × State) : (l.foldl g r).2.tb.follower = r.2.tb.follower := List.foldl_keeps (fun r => r.2.tb.follower) hg l r
@[simp] theorem State.free_tb_follower (s : State) : s.free.2.tb.follower = s.tb.follower := (rfl)
@[simp] theorem State.slew_tb_follower (s : State) : s.slew.tb.follower = s.tb.follower := (rfl)
@[simp] theorem State.foldl_tb_master {α : Type} {g : State → α → State} (hg : ∀ s a, (g s a).tb.master = s.tb.master) (l : List α) (s : State) :
    (l.foldl g s).tb.master = s.tb.master := State.foldl_keeps (fun s => s.tb.master) hg l s
@[simp] theorem State.foldl_fst_tb_master {α β : Type} {g : State × β → α → State × β} (hg : ∀ r a, (g r a).1.tb.master = r.1.tb.master) (l : List α)
    (r : State × β) : (l.foldl g r).1.tb.master = r.1.tb.master := List.foldl_keeps (fun r => r.1.tb.master) hg l r
@[simp] theorem State.foldl_snd_tb_master {α β : Type} {g : β × State → α → β × State} (hg : ∀ r a, (g r a).2.tb.master = r.2.tb.master) (l : List α)
    (r : β × State) : (l.foldl g r).2.tb.master = r.2.tb.master := List.foldl_keeps (fun r => r.2.tb.master) hg l r
@[simp] theorem State.free_tb_master (s : State) : s.free.2.tb.master = s.tb.master := (rfl)
@[simp] theorem State.slew_tb_master (s : State) : s.slew.tb.master = s.tb.master := (rfl)
@[simp] theorem State.foldl_tb_gm {α : Type} {g : State → α → State} (hg : ∀ s a, (g s a).tb.gm = s.tb.gm) (l : List α) (s : State) :
    (l.foldl g s).tb.gm = s.tb.gm := State.foldl_keeps (fun s => s.tb.gm) hg l s
@[simp] theorem State.foldl_fst_tb_gm {α β : Type} {g : State × β → α → State × β} (hg : ∀ r a, (g r a).1.tb.gm = r.1.tb.gm) (l : List α)
    (r : State × β) : (l.foldl g r).1.tb.gm = r.1.tb.gm := List.foldl_keeps (fun r => r.1.tb.gm) hg l r
@[simp] theorem State.foldl_snd_tb_gm {α β : Type} {g : β × State → α → β × State} (hg : ∀ r a, (g r a).2.tb.gm = r.2.tb.gm) (l : List α)
    (r : β × State) : (l.foldl g r).2.tb.gm = r.2.tb.gm := List.foldl_keeps (fun r => r.2.tb.gm) hg l r
@[simp] theorem State.free_tb_gm (s : State) : s.free.2.tb.gm = s.tb.gm := (rfl)
@[simp] theorem State.slew_tb_gm (s : State) : s.slew.tb.gm = s.tb.gm := (rfl)
@[simp] theorem State.foldl_tb_fault {α : Type} {g : State → α → State} (hg : ∀ s a, (g s a).tb.fault = s.tb.fault) (l : List α) (s : State) :
    (l.foldl g s).tb.fault = s.tb.fault := State.foldl_keeps (fun s => s.tb.fault) hg l s
@[simp] theorem State.foldl_fst_tb_fault {α β : Type} {g : State × β → α → State × β} (hg : ∀ r a, (g r a).1.tb.fault = r.1.tb.fault) (l : List α)
    (r : State × β) : (l.foldl g r).1.tb.fault = r.1.tb.fault := List.foldl_keeps (fun r => r.1.tb.fault) hg l r
@[simp] theorem State.foldl_snd_tb_fault {α β : Type} {g : β × State → α → β × State} (hg : ∀ r a, (g r a).2.tb.fault = r.2.tb.fault) (l : List α)
    (r : β × State) : (l.foldl g r).2.tb.fault = r.2.tb.fault := List.foldl_keeps (fun r => r.2.tb.fault) hg l r
@[simp] theorem State.free_tb_fault (s : State) : s.free.2.tb.fault = s.tb.fault := (rfl)
@[simp] theorem State.slew_tb_fault (s : State) : s.slew.tb.fault = s.tb.fault := (rfl)
@[simp] theorem State.foldl_tb_holdoverAt {α : Type} {g : State → α → State} (hg : ∀ s a, (g s a).tb.holdoverAt = s.tb.holdoverAt) (l : List α) (s : State) :
    (l.foldl g s).tb.holdoverAt = s.tb.holdoverAt := State.foldl_keeps (fun s => s.tb.holdoverAt) hg l s
@[simp] theorem State.foldl_fst_tb_holdoverAt {α β : Type} {g : State × β → α → State × β} (hg : ∀ r a, (g r a).1.tb.holdoverAt = r.1.tb.holdoverAt) (l : List α)
    (r : State × β) : (l.foldl g r).1.tb.holdoverAt = r.1.tb.holdoverAt := List.foldl_keeps (fun r => r.1.tb.holdoverAt) hg l r
@[simp] theorem State.foldl_snd_tb_holdoverAt {α β : Type} {g : β × State → α → β × State} (hg : ∀ r a, (g r a).2.tb.holdoverAt = r.2.tb.holdoverAt) (l : List α)
    (r : β × State) : (l.foldl g r).2.tb.holdoverAt = r.2.tb.holdoverAt := List.foldl_keeps (fun r => r.2.tb.holdoverAt) hg l r
@[simp] theorem State.free_tb_holdoverAt (s : State) : s.free.2.tb.holdoverAt = s.tb.holdoverAt := (rfl)
@[simp] theorem State.slew_tb_holdoverAt (s : State) : s.slew.tb.holdoverAt = s.tb.holdoverAt := (rfl)
@[simp] theorem State.foldl_tb_good {α : Type} {g : State → α → State} (hg : ∀ s a, (g s a).tb.good = s.tb.good) (l : List α) (s : State) :
    (l.foldl g s).tb.good = s.tb.good := State.foldl_keeps (fun s => s.tb.good) hg l s
@[simp] theorem State.foldl_fst_tb_good {α β : Type} {g : State × β → α → State × β} (hg : ∀ r a, (g r a).1.tb.good = r.1.tb.good) (l : List α)
    (r : State × β) : (l.foldl g r).1.tb.good = r.1.tb.good := List.foldl_keeps (fun r => r.1.tb.good) hg l r
@[simp] theorem State.foldl_snd_tb_good {α β : Type} {g : β × State → α → β × State} (hg : ∀ r a, (g r a).2.tb.good = r.2.tb.good) (l : List α)
    (r : β × State) : (l.foldl g r).2.tb.good = r.2.tb.good := List.foldl_keeps (fun r => r.2.tb.good) hg l r
@[simp] theorem State.free_tb_good (s : State) : s.free.2.tb.good = s.tb.good := (rfl)
@[simp] theorem State.slew_tb_good (s : State) : s.slew.tb.good = s.tb.good := (rfl)
@[simp] theorem State.showOffset_clk (s : State) (o) : (s.showOffset o).clk = s.clk := (rfl)
@[simp] theorem State.showOffset_tb_follower (s : State) (o) : (s.showOffset o).tb.follower = s.tb.follower := (rfl)
@[simp] theorem State.showOffset_tb_master (s : State) (o) : (s.showOffset o).tb.master = s.tb.master := (rfl)
@[simp] theorem State.showOffset_tb_gm (s : State) (o) : (s.showOffset o).tb.gm = s.tb.gm := (rfl)
@[simp] theorem State.showOffset_tb_fault (s : State) (o) : (s.showOffset o).tb.fault = s.tb.fault := (rfl)
@[simp] theorem State.showOffset_tb_holdoverAt (s : State) (o) : (s.showOffset o).tb.holdoverAt = s.tb.holdoverAt := (rfl)
@[simp] theorem State.showOffset_tb_good (s : State) (o) : (s.showOffset o).tb.good = s.tb.good := (rfl)
@[simp] theorem State.setStatus_tb_follower (s : State) (st) : (s.setStatus st).tb.follower = s.tb.follower := by simp -implicitDefEqProofs [State.setStatus, apply_ite State.tb, apply_ite TimeBase.follower]
@[simp] theorem State.setStatus_tb_master (s : State) (st) : (s.setStatus st).tb.master = s.tb.master := by simp -implicitDefEqProofs [State.setStatus, apply_ite State.tb, apply_ite TimeBase.master]
@[simp] theorem State.setStatus_tb_gm (s : State) (st) : (s.setStatus st).tb.gm = s.tb.gm := by simp -implicitDefEqProofs [State.setStatus, apply_ite State.tb, apply_ite TimeBase.gm]
@[simp] theorem State.setStatus_tb_fault (s : State) (st) : (s.setStatus st).tb.fault = s.tb.fault := by simp -implicitDefEqProofs [State.setStatus, apply_ite State.tb, apply_ite TimeBase.fault]
@[simp] theorem State.setStatus_tb_holdoverAt (s : State) (st) : (s.setStatus st).tb.holdoverAt = s.tb.holdoverAt := by simp -implicitDefEqProofs [State.setStatus, apply_ite State.tb, apply_ite TimeBase.holdoverAt]
@[simp] theorem State.setStatus_tb_good (s : State) (st) : (s.setStatus st).tb.good = s.tb.good := by simp -implicitDefEqProofs [State.setStatus, apply_ite State.tb, apply_ite TimeBase.good]
@[simp] theorem State.timeMark_blobs (s : State) : s.timeMark.blobs = s.blobs := by simp -implicitDefEqProofs [State.timeMark]
@[simp] theorem State.flagIntervals_blobs (s : State) (bit) : (s.flagIntervals bit).blobs = s.blobs := (rfl)
@[simp] theorem State.energyGap_blobs (s : State) (msGap cause) : (s.energyGap msGap cause).blobs = s.blobs := by simp -implicitDefEqProofs [State.energyGap]
@[simp] theorem State.gapKnown_blobs (s : State) : s.gapKnown.blobs = s.blobs := by
  unfold State.gapKnown
  split <;> simp -implicitDefEqProofs
@[simp] theorem State.setStatus_blobs (s : State) (st) : (s.setStatus st).blobs = s.blobs := by simp -implicitDefEqProofs [State.setStatus, apply_ite State.blobs]
@[simp] theorem State.foldl_tb_now {α : Type} {g : State → α → State} (hg : ∀ s a, (g s a).tb.now = s.tb.now) (l : List α) (s : State) :
    (l.foldl g s).tb.now = s.tb.now := State.foldl_keeps (fun s => s.tb.now) hg l s
@[simp] theorem State.foldl_fst_tb_now {α β : Type} {g : State × β → α → State × β} (hg : ∀ r a, (g r a).1.tb.now = r.1.tb.now) (l : List α)
    (r : State × β) : (l.foldl g r).1.tb.now = r.1.tb.now := List.foldl_keeps (fun r => r.1.tb.now) hg l r
@[simp] theorem State.foldl_snd_tb_now {α β : Type} {g : β × State → α → β × State} (hg : ∀ r a, (g r a).2.tb.now = r.2.tb.now) (l : List α)
    (r : β × State) : (l.foldl g r).2.tb.now = r.2.tb.now := List.foldl_keeps (fun r => r.2.tb.now) hg l r
@[simp] theorem State.storeInterval_tb_now (s : State) (c short) : (s.storeInterval c short).tb.now = s.tb.now := (rfl)
@[simp] theorem State.openInterval_tb_now (s : State) (c) : (s.openInterval c).tb.now = s.tb.now := (rfl)
@[simp] theorem State.closeInterval_tb_now (s : State) (short) : (s.closeInterval short).tb.now = s.tb.now := by
  unfold State.closeInterval
  split <;> simp -implicitDefEqProofs
@[simp] theorem State.storeInterval_tb_fault (s : State) (c short) : (s.storeInterval c short).tb.fault = s.tb.fault := (rfl)
@[simp] theorem State.openInterval_tb_fault (s : State) (c) : (s.openInterval c).tb.fault = s.tb.fault := (rfl)
@[simp] theorem State.closeInterval_tb_fault (s : State) (short) : (s.closeInterval short).tb.fault = s.tb.fault := by
  unfold State.closeInterval
  split <;> simp -implicitDefEqProofs
@[simp] theorem State.storeInterval_tb_good (s : State) (c short) : (s.storeInterval c short).tb.good = s.tb.good := (rfl)
@[simp] theorem State.openInterval_tb_good (s : State) (c) : (s.openInterval c).tb.good = s.tb.good := (rfl)
@[simp] theorem State.closeInterval_tb_good (s : State) (short) : (s.closeInterval short).tb.good = s.tb.good := by
  unfold State.closeInterval
  split <;> simp -implicitDefEqProofs
@[simp] theorem State.storeInterval_tb_master (s : State) (c short) : (s.storeInterval c short).tb.master = s.tb.master := (rfl)
@[simp] theorem State.openInterval_tb_master (s : State) (c) : (s.openInterval c).tb.master = s.tb.master := (rfl)
@[simp] theorem State.closeInterval_tb_master (s : State) (short) : (s.closeInterval short).tb.master = s.tb.master := by
  unfold State.closeInterval
  split <;> simp -implicitDefEqProofs
@[simp] theorem State.setStatus_tb_now (s : State) (st) : (s.setStatus st).tb.now = s.tb.now := by simp -implicitDefEqProofs [State.setStatus, apply_ite State.tb, apply_ite TimeBase.now]
@[simp] theorem State.mirror_tb_now (s : State) (b) : (s.mirror b).tb.now = s.tb.now := by unfold State.mirror; split <;> rfl
@[simp] theorem State.mirror_tb_fault (s : State) (b) : (s.mirror b).tb.fault = s.tb.fault := by unfold State.mirror; split <;> rfl
@[simp] theorem State.mirror_tb_good (s : State) (b) : (s.mirror b).tb.good = s.tb.good := by unfold State.mirror; split <;> rfl
@[simp] theorem State.mirror_tb_master (s : State) (b) : (s.mirror b).tb.master = s.tb.master := by unfold State.mirror; split <;> rfl
@[simp] theorem State.becomeMaster_tb_now (s : State) : s.becomeMaster.tb.now = s.tb.now := (rfl)
@[simp] theorem State.becomeMaster_tb_fault (s : State) : s.becomeMaster.tb.fault = s.tb.fault := (rfl)
@[simp] theorem State.becomeMaster_tb_good (s : State) : s.becomeMaster.tb.good = s.tb.good := (rfl)
@[simp] theorem State.becomeMaster_tb_status (s : State) : s.becomeMaster.tb.status = s.tb.status := (rfl)
@[simp] theorem State.becomeMaster_clk (s : State) : s.becomeMaster.clk = s.clk := (rfl)
@[simp] theorem State.stepBoth_acc_sessions (s : State) (t) : (s.stepBoth t).acc.sessions = s.acc.sessions := by simp -implicitDefEqProofs [State.stepBoth]
@[simp] theorem State.stepBoth_mode (s : State) (t) : (s.stepBoth t).mode = s.mode := by simp -implicitDefEqProofs [State.stepBoth]
@[simp] theorem State.dropItems_tb_good (s : State) (p) : (s.dropItems p).tb.good = s.tb.good := by simp -implicitDefEqProofs [State.dropItems]
@[simp] theorem State.mapLaunch_tb_good (s : State) (part tag f) : (s.mapLaunch part tag f).tb.good = s.tb.good := (rfl)
@[simp] theorem State.endLaunch_tb_good (s : State) (l st) : (s.endLaunch l st).tb.good = s.tb.good := by simp -implicitDefEqProofs [State.endLaunch]
@[simp] theorem State.commitLaunch_tb_good (s : State) (l) : (s.commitLaunch l).tb.good = s.tb.good := by
  unfold State.commitLaunch
  split <;> simp -implicitDefEqProofs
@[simp] theorem State.emitPast_tb_good (s : State) (l) : (s.emitPast l).tb.good = s.tb.good := by simp -implicitDefEqProofs [State.emitPast, apply_ite State.tb, apply_ite TimeBase.good]
@[simp] theorem State.stepTime_tb_good (s : State) (t) : (s.stepTime t).tb.good = s.tb.good := by simp -implicitDefEqProofs [State.stepTime, apply_ite State.tb, apply_ite TimeBase.good]
@[simp] theorem State.stepBoth_tb_good (s : State) (t) : (s.stepBoth t).tb.good = s.tb.good := by simp -implicitDefEqProofs [State.stepBoth]
@[simp] theorem State.stepBoth_tb_status (s : State) (t) : (s.stepBoth t).tb.status = s.tb.status := by simp -implicitDefEqProofs [State.stepBoth]
@[simp] theorem State.stepBoth_clk (s : State) (t) : (s.stepBoth t).clk = s.clk := by simp -implicitDefEqProofs [State.stepBoth]
@[simp] theorem State.dropItems_tb_master (s : State) (p) : (s.dropItems p).tb.master = s.tb.master := by simp -implicitDefEqProofs [State.dropItems]
@[simp] theorem State.mapLaunch_tb_master (s : State) (part tag f) : (s.mapLaunch part tag f).tb.master = s.tb.master := (rfl)
@[simp] theorem State.endLaunch_tb_master (s : State) (l st) : (s.endLaunch l st).tb.master = s.tb.master := by simp -implicitDefEqProofs [State.endLaunch]
@[simp] theorem State.commitLaunch_tb_master (s : State) (l) : (s.commitLaunch l).tb.master = s.tb.master := by
  unfold State.commitLaunch
  split <;> simp -implicitDefEqProofs
@[simp] theorem State.emitPast_tb_master (s : State) (l) : (s.emitPast l).tb.master = s.tb.master := by simp -implicitDefEqProofs [State.emitPast, apply_ite State.tb, apply_ite TimeBase.master]
@[simp] theorem State.stepTime_tb_master (s : State) (t) : (s.stepTime t).tb.master = s.tb.master := by simp -implicitDefEqProofs [State.stepTime, apply_ite State.tb, apply_ite TimeBase.master]
@[simp] theorem State.stepBoth_tb_master (s : State) (t) : (s.stepBoth t).tb.master = s.tb.master := by simp -implicitDefEqProofs [State.stepBoth]
@[simp] theorem State.foldl_rcd_lastMark {α : Type} {g : State → α → State} (hg : ∀ s a, (g s a).rcd.lastMark = s.rcd.lastMark) (l : List α) (s : State) :
    (l.foldl g s).rcd.lastMark = s.rcd.lastMark := State.foldl_keeps (fun s => s.rcd.lastMark) hg l s
@[simp] theorem State.foldl_fst_rcd_lastMark {α β : Type} {g : State × β → α → State × β} (hg : ∀ r a, (g r a).1.rcd.lastMark = r.1.rcd.lastMark) (l : List α)
    (r : State × β) : (l.foldl g r).1.rcd.lastMark = r.1.rcd.lastMark := List.foldl_keeps (fun r => r.1.rcd.lastMark) hg l r
@[simp] theorem State.foldl_snd_rcd_lastMark {α β : Type} {g : β × State → α → β × State} (hg : ∀ r a, (g r a).2.rcd.lastMark = r.2.rcd.lastMark) (l : List α)
    (r : β × State) : (l.foldl g r).2.rcd.lastMark = r.2.rcd.lastMark := List.foldl_keeps (fun r => r.2.rcd.lastMark) hg l r
@[simp] theorem State.acceptAt_rcd_lastMark (s : State) (op code src p0 p1 p2 : Nat) (always : Bool) :
    (s.acceptAt op code src p0 p1 p2 always).rcd.lastMark = s.rcd.lastMark := by
  unfold State.acceptAt Recorder.advance
  dsimp only
  split <;> rfl
@[simp] theorem State.accept_rcd_lastMark (s : State) (code src p0 p1 p2 always) : (s.accept code src p0 p1 p2 always).rcd.lastMark = s.rcd.lastMark := by simp -implicitDefEqProofs [State.accept]
theorem Recorder.mergeLast_lastMark (r : Recorder) : r.mergeLast.lastMark = r.lastMark := by
  unfold Recorder.mergeLast
  split <;> rfl
@[simp] theorem State.offer_rcd_lastMark (s : State) (code src p0 p1 p2 : Nat) : (s.offer code src p0 p1 p2).rcd.lastMark = s.rcd.lastMark := by
  unfold State.offer
  split
  · exact s.rcd.mergeLast_lastMark
  · split
    · rfl
    · simp
@[simp] theorem State.event_rcd_lastMark (s : State) (code p0 p1 p2) : (s.event code p0 p1 p2).rcd.lastMark = s.rcd.lastMark := by simp -implicitDefEqProofs [State.event]
@[simp] theorem State.acceptLaunch_objs (s : State) (part b) : (s.acceptLaunch part b).objs = s.objs := by simp -implicitDefEqProofs [State.acceptLaunch, apply_ite State.objs]
@[simp] theorem State.get_acceptLaunch (s : State) (part b) (key : Key) : (s.acceptLaunch part b).get key = s.get key := State.get_congr (State.acceptLaunch_objs ..) key
@[simp] theorem State.nat_acceptLaunch (s : State) (part b) (key : Key) : (s.acceptLaunch part b).nat key = s.nat key := State.nat_congr (State.acceptLaunch_objs ..) key
@[simp] theorem State.flag_acceptLaunch (s : State) (part b) (key : Key) : (s.acceptLaunch part b).flag key = s.flag key := State.flag_congr (State.acceptLaunch_objs ..) key
@[simp] theorem State.addItem_blobs (s : State) (i) : (s.addItem i).blobs = s.blobs := by simp -implicitDefEqProofs [State.addItem]
@[simp] theorem State.acceptLaunch_blobs (s : State) (part b) : (s.acceptLaunch part b).blobs = s.blobs := by simp -implicitDefEqProofs [State.acceptLaunch, apply_ite State.blobs]
@[simp] theorem State.acceptLaunch_rcd (s : State) (part b) : (s.acceptLaunch part b).rcd = s.rcd := by simp -implicitDefEqProofs [State.acceptLaunch, apply_ite State.rcd]
@[simp] theorem State.addItem_acc_sessions (s : State) (i) : (s.addItem i).acc.sessions = s.acc.sessions := by simp -implicitDefEqProofs [State.addItem]
@[simp] theorem State.acceptLaunch_acc_sessions (s : State) (part b) : (s.acceptLaunch part b).acc.sessions = s.acc.sessions := by simp -implicitDefEqProofs [State.acceptLaunch, apply_ite State.acc, apply_ite Access.sessions]
@[simp] theorem State.addItem_emits (s : State) (i) : (s.addItem i).emits = s.emits := by simp -implicitDefEqProofs [State.addItem]
@[simp] theorem State.acceptLaunch_emits (s : State) (part b) : (s.acceptLaunch part b).emits = s.emits := by simp -implicitDefEqProofs [State.acceptLaunch, apply_ite State.emits]
@[simp] theorem State.acceptLaunch_mode (s : State) (part b) : (s.acceptLaunch part b).mode = s.mode := by simp -implicitDefEqProofs [State.acceptLaunch, apply_ite State.mode]
@[simp] theorem State.acceptLaunch_tb (s : State) (part b) : (s.acceptLaunch part b).tb = s.tb := by simp -implicitDefEqProofs [State.acceptLaunch, apply_ite State.tb]
@[simp] theorem State.acceptLaunch_clk (s : State) (part b) : (s.acceptLaunch part b).clk = s.clk := by simp -implicitDefEqProofs [State.acceptLaunch, apply_ite State.clk]
@[simp] theorem State.mapLaunch_objs (s : State) (part tag f) : (s.mapLaunch part tag f).objs = s.objs := (rfl)
@[simp] theorem State.get_mapLaunch (s : State) (part tag f) (key : Key) : (s.mapLaunch part tag f).get key = s.get key := State.get_congr (State.mapLaunch_objs ..) key
@[simp] theorem State.nat_mapLaunch (s : State) (part tag f) (key : Key) : (s.mapLaunch part tag f).nat key = s.nat key := State.nat_congr (State.mapLaunch_objs ..) key
@[simp] theorem State.flag_mapLaunch (s : State) (part tag f) (key : Key) : (s.mapLaunch part tag f).flag key = s.flag key := State.flag_congr (State.mapLaunch_objs ..) key
@[simp] theorem State.endLaunch_objs (s : State) (l st) : (s.endLaunch l st).objs = s.objs := by simp -implicitDefEqProofs [State.endLaunch]
@[simp] theorem State.get_endLaunch (s : State) (l st) (key : Key) : (s.endLaunch l st).get key = s.get key := State.get_congr (State.endLaunch_objs ..) key
@[simp] theorem State.nat_endLaunch (s : State) (l st) (key : Key) : (s.endLaunch l st).nat key = s.nat key := State.nat_congr (State.endLaunch_objs ..) key
@[simp] theorem State.flag_endLaunch (s : State) (l st) (key : Key) : (s.endLaunch l st).flag key = s.flag key := State.flag_congr (State.endLaunch_objs ..) key
@[simp] theorem State.cancelLaunch_objs (s : State) (part tag) : (s.cancelLaunch part tag).objs = s.objs := by
  simp -implicitDefEqProofs only [State.cancelLaunch]
  split <;> simp -implicitDefEqProofs [apply_ite State.objs]
@[simp] theorem State.get_cancelLaunch (s : State) (part tag) (key : Key) : (s.cancelLaunch part tag).get key = s.get key := State.get_congr (State.cancelLaunch_objs ..) key
@[simp] theorem State.nat_cancelLaunch (s : State) (part tag) (key : Key) : (s.cancelLaunch part tag).nat key = s.nat key := State.nat_congr (State.cancelLaunch_objs ..) key
@[simp] theorem State.flag_cancelLaunch (s : State) (part tag) (key : Key) : (s.cancelLaunch part tag).flag key = s.flag key := State.flag_congr (State.cancelLaunch_objs ..) key
@[simp] theorem State.dropItems_blobs (s : State) (p) : (s.dropItems p).blobs = s.blobs := by simp -implicitDefEqProofs [State.dropItems]
@[simp] theorem State.mapLaunch_blobs (s : State) (part tag f) : (s.mapLaunch part tag f).blobs = s.blobs := (rfl)
@[simp] theorem State.endLaunch_blobs (s : State) (l st) : (s.endLaunch l st).blobs = s.blobs := by simp -implicitDefEqProofs [State.endLaunch]
@[simp] theorem State.cancelLaunch_blobs (s : State) (part tag) : (s.cancelLaunch part tag).blobs = s.blobs := by
  simp -implicitDefEqProofs only [State.cancelLaunch]
  split <;> simp -implicitDefEqProofs [apply_ite State.blobs]
@[simp] theorem State.cancelLaunch_rcd (s : State) (part tag) : (s.cancelLaunch part tag).rcd = s.rcd := by
  simp -implicitDefEqProofs only [State.cancelLaunch]
  split <;> simp -implicitDefEqProofs [apply_ite State.rcd]
@[simp] theorem State.cancelLaunch_acc_sessions (s : State) (part tag) : (s.cancelLaunch part tag).acc.sessions = s.acc.sessions := by
  simp -implicitDefEqProofs only [State.cancelLaunch]
  split <;> simp -implicitDefEqProofs [apply_ite State.acc, apply_ite Access.sessions]
@[simp] theorem State.mapLaunch_emits (s : State) (part tag f) : (s.mapLaunch part tag f).emits = s.emits := (rfl)
@[simp] theorem State.endLaunch_emits (s : State) (l st) : (s.endLaunch l st).emits = s.emits := by simp -implicitDefEqProofs [State.endLaunch]
@[simp] theorem State.cancelLaunch_emits (s : State) (part tag) : (s.cancelLaunch part tag).emits = s.emits := by
  simp -implicitDefEqProofs only [State.cancelLaunch]
  split <;> simp -implicitDefEqProofs [apply_ite State.emits]
@[simp] theorem State.cancelLaunch_mode (s : State) (part tag) : (s.cancelLaunch part tag).mode = s.mode := by
  simp -implicitDefEqProofs only [State.cancelLaunch]
  split <;> simp -implicitDefEqProofs [apply_ite State.mode]
@[simp] theorem State.dropItems_tb (s : State) (p) : (s.dropItems p).tb = s.tb := by simp -implicitDefEqProofs [State.dropItems]
@[simp] theorem State.mapLaunch_tb (s : State) (part tag f) : (s.mapLaunch part tag f).tb = s.tb := (rfl)
@[simp] theorem State.endLaunch_tb (s : State) (l st) : (s.endLaunch l st).tb = s.tb := by simp -implicitDefEqProofs [State.endLaunch]
@[simp] theorem State.cancelLaunch_tb (s : State) (part tag) : (s.cancelLaunch part tag).tb = s.tb := by
  simp -implicitDefEqProofs only [State.cancelLaunch]
  split <;> simp -implicitDefEqProofs [apply_ite State.tb]
@[simp] theorem State.cancelLaunch_clk (s : State) (part tag) : (s.cancelLaunch part tag).clk = s.clk := by
  simp -implicitDefEqProofs only [State.cancelLaunch]
  split <;> simp -implicitDefEqProofs [apply_ite State.clk]
@[simp] theorem State.commitLaunch_blobs (s : State) (l) : (s.commitLaunch l).blobs = s.blobs := by
  unfold State.commitLaunch
  split <;> simp -implicitDefEqProofs
@[simp] theorem State.commitLaunch_emits (s : State) (l) : (s.commitLaunch l).emits = s.emits := by
  unfold State.commitLaunch
  split <;> simp -implicitDefEqProofs
@[simp] theorem State.commitLaunch_tb (s : State) (l) : (s.commitLaunch l).tb = s.tb := by
  unfold State.commitLaunch
  split <;> simp -implicitDefEqProofs
@[simp] theorem State.reachTime_launches (s : State) (t) : (s.reachTime t).launches = s.launches := (rfl)
@[simp] theorem State.addItem_launchSeq (s : State) (i) : (s.addItem i).launchSeq = s.launchSeq := by simp -implicitDefEqProofs [State.addItem]
@[simp] theorem State.addItem_launches (s : State) (i) : (s.addItem i).launches = s.launches := by simp -implicitDefEqProofs [State.addItem]
@[simp] theorem State.packField_rcd (s : State) (x b) : (s.packField x b).1.rcd = s.rcd := by
  simp -implicitDefEqProofs only [State.packField]
  repeat' split
  all_goals simp -implicitDefEqProofs [apply_ite State.rcd]
@[simp] theorem State.copyEntry_rcd (s : State) (c e) : (s.copyEntry c e).rcd = s.rcd := by simp -implicitDefEqProofs [State.copyEntry, apply_ite State.rcd]
@[simp] theorem State.packField_mode (s : State) (x b) : (s.packField x b).1.mode = s.mode := by
  simp -implicitDefEqProofs only [State.packField]
  repeat' split
  all_goals simp -implicitDefEqProofs [apply_ite State.mode]
@[simp] theorem State.copyEntry_mode (s : State) (c e) : (s.copyEntry c e).mode = s.mode := by simp -implicitDefEqProofs [State.copyEntry, apply_ite State.mode]
@[simp] theorem State.packField_clk (s : State) (x b) : (s.packField x b).1.clk = s.clk := by
  simp -implicitDefEqProofs only [State.packField]
  repeat' split
  all_goals simp -implicitDefEqProofs [apply_ite State.clk]
@[simp] theorem State.copyEntry_clk (s : State) (c e) : (s.copyEntry c e).clk = s.clk := by simp -implicitDefEqProofs [State.copyEntry, apply_ite State.clk]
@[simp] theorem State.packField_emits (s : State) (x b) : (s.packField x b).1.emits = s.emits := by
  simp -implicitDefEqProofs only [State.packField]
  repeat' split
  all_goals simp -implicitDefEqProofs [apply_ite State.emits]
@[simp] theorem State.copyEntry_emits (s : State) (c e) : (s.copyEntry c e).emits = s.emits := by simp -implicitDefEqProofs [State.copyEntry, apply_ite State.emits]
@[simp] theorem State.free_tb (s : State) : s.free.2.tb = s.tb := (rfl)
@[simp] theorem State.packField_tb (s : State) (x b) : (s.packField x b).1.tb = s.tb := by
  simp -implicitDefEqProofs only [State.packField]
  repeat' split
  all_goals simp -implicitDefEqProofs [apply_ite State.tb]
@[simp] theorem State.copyEntry_tb (s : State) (c e) : (s.copyEntry c e).tb = s.tb := by simp -implicitDefEqProofs [State.copyEntry, apply_ite State.tb]
@[simp] theorem State.dropItems_fio (s : State) (p) : (s.dropItems p).fio = s.fio := by simp -implicitDefEqProofs [State.dropItems]
@[simp] theorem State.mapLaunch_fio (s : State) (part tag f) : (s.mapLaunch part tag f).fio = s.fio := (rfl)
@[simp] theorem State.endLaunch_fio (s : State) (l st) : (s.endLaunch l st).fio = s.fio := by simp -implicitDefEqProofs [State.endLaunch]
@[simp] theorem State.noteLate_fio (s : State) (e) : (s.noteLate e).fio = s.fio := by
  simp -implicitDefEqProofs only [State.noteLate]
  split <;> simp -implicitDefEqProofs [apply_ite State.fio]
@[simp] theorem State.noteLate_blobs (s : State) (e) : (s.noteLate e).blobs = s.blobs := by
  simp -implicitDefEqProofs only [State.noteLate]
  split <;> simp -implicitDefEqProofs [apply_ite State.blobs]
@[simp] theorem State.noteLate_mode (s : State) (e) : (s.noteLate e).mode = s.mode := by
  simp -implicitDefEqProofs only [State.noteLate]
  split <;> simp -implicitDefEqProofs [apply_ite State.mode]
@[simp] theorem State.noteLate_emits (s : State) (e) : (s.noteLate e).emits = s.emits := by
  simp -implicitDefEqProofs only [State.noteLate]
  split <;> simp -implicitDefEqProofs [apply_ite State.emits]
@[simp] theorem State.noteLate_launches (s : State) (e) : (s.noteLate e).launches = s.launches := by
  simp -implicitDefEqProofs only [State.noteLate]
  split <;> simp -implicitDefEqProofs [apply_ite State.launches]
@[simp] theorem State.noteLate_clk (s : State) (e) : (s.noteLate e).clk = s.clk := by
  simp -implicitDefEqProofs only [State.noteLate]
  split <;> simp -implicitDefEqProofs [apply_ite State.clk]
@[simp] theorem State.logPut_out (s : State) (e) : (s.logPut e).out = s.out := by
  simp -implicitDefEqProofs only [State.logPut]
  repeat' split
  all_goals simp -implicitDefEqProofs [apply_ite State.out]
@[simp] theorem State.logAdd_out (s : State) (kind ses oid old new) : (s.logAdd kind ses oid old new).out = s.out := by
  unfold State.logAdd
  split <;> simp -implicitDefEqProofs
@[simp] theorem State.discardPending_out (s : State) (ses) : (s.discardPending ses).out = s.out := by
  unfold State.discardPending
  split <;> simp -implicitDefEqProofs
@[simp] theorem State.setSesState_out (s : State) (ses st) : (s.setSesState ses st).out = s.out := by unfold State.setSesState; split <;> rfl
@[simp] theorem State.safetyEnd_out (s : State) (ses) : (s.safetyEnd ses).out = s.out := by
  unfold State.safetyEnd
  split <;> simp -implicitDefEqProofs
@[simp] theorem State.logPut_emits (s : State) (e) : (s.logPut e).emits = s.emits := by
  simp -implicitDefEqProofs only [State.logPut]
  repeat' split
  all_goals simp -implicitDefEqProofs [apply_ite State.emits]
@[simp] theorem State.logAdd_emits (s : State) (kind ses oid old new) : (s.logAdd kind ses oid old new).emits = s.emits := by
  unfold State.logAdd
  split <;> simp -implicitDefEqProofs
@[simp] theorem State.discardPending_emits (s : State) (ses) : (s.discardPending ses).emits = s.emits := by
  unfold State.discardPending
  split <;> simp -implicitDefEqProofs
@[simp] theorem State.setSesState_emits (s : State) (ses st) : (s.setSesState ses st).emits = s.emits := by unfold State.setSesState; split <;> rfl
@[simp] theorem State.safetyEnd_emits (s : State) (ses) : (s.safetyEnd ses).emits = s.emits := by
  unfold State.safetyEnd
  split <;> simp -implicitDefEqProofs
@[simp] theorem State.logPut_clk (s : State) (e) : (s.logPut e).clk = s.clk := by
  simp -implicitDefEqProofs only [State.logPut]
  repeat' split
  all_goals simp -implicitDefEqProofs [apply_ite State.clk]
@[simp] theorem State.logAdd_clk (s : State) (kind ses oid old new) : (s.logAdd kind ses oid old new).clk = s.clk := by
  unfold State.logAdd
  split <;> simp -implicitDefEqProofs
@[simp] theorem State.discardPending_clk (s : State) (ses) : (s.discardPending ses).clk = s.clk := by
  unfold State.discardPending
  split <;> simp -implicitDefEqProofs
@[simp] theorem State.setSesState_clk (s : State) (ses st) : (s.setSesState ses st).clk = s.clk := by unfold State.setSesState; split <;> rfl
@[simp] theorem State.safetyEnd_clk (s : State) (ses) : (s.safetyEnd ses).clk = s.clk := by
  unfold State.safetyEnd
  split <;> simp -implicitDefEqProofs
@[simp] theorem State.logPut_mode (s : State) (e) : (s.logPut e).mode = s.mode := by
  simp -implicitDefEqProofs only [State.logPut]
  repeat' split
  all_goals simp -implicitDefEqProofs [apply_ite State.mode]
@[simp] theorem State.logAdd_mode (s : State) (kind ses oid old new) : (s.logAdd kind ses oid old new).mode = s.mode := by
  unfold State.logAdd
  split <;> simp -implicitDefEqProofs
@[simp] theorem State.discardPending_mode (s : State) (ses) : (s.discardPending ses).mode = s.mode := by
  unfold State.discardPending
  split <;> simp -implicitDefEqProofs
@[simp] theorem State.setSesState_mode (s : State) (ses st) : (s.setSesState ses st).mode = s.mode := by unfold State.setSesState; split <;> rfl
@[simp] theorem State.safetyEnd_mode (s : State) (ses) : (s.safetyEnd ses).mode = s.mode := by
  unfold State.safetyEnd
  split <;> simp -implicitDefEqProofs
@[simp] theorem State.logPut_tb (s : State) (e) : (s.logPut e).tb = s.tb := by
  simp -implicitDefEqProofs only [State.logPut]
  repeat' split
  all_goals simp -implicitDefEqProofs [apply_ite State.tb]
@[simp] theorem State.logAdd_tb (s : State) (kind ses oid old new) : (s.logAdd kind ses oid old new).tb = s.tb := by
  unfold State.logAdd
  split <;> simp -implicitDefEqProofs
@[simp] theorem State.discardPending_tb (s : State) (ses) : (s.discardPending ses).tb = s.tb := by
  unfold State.discardPending
  split <;> simp -implicitDefEqProofs
@[simp] theorem State.setSesState_tb (s : State) (ses st) : (s.setSesState ses st).tb = s.tb := by unfold State.setSesState; split <;> rfl
@[simp] theorem State.safetyEnd_tb (s : State) (ses) : (s.safetyEnd ses).tb = s.tb := by
  unfold State.safetyEnd
  split <;> simp -implicitDefEqProofs
theorem State.logPut_records (s : State) (e) : s.KeepsRecords (s.logPut e) := .ite (.after (State.event_records ..) (.after (.of_rcd (State.setN_rcd ..)) (.after (.of_rcd (State.setN_rcd ..)) (.set_rcd (State.mk_rcd ..) (.ite (by
    split
    · exact .of_rcd (State.setBlob_rcd ..)
    · exact .refl _) (.refl _)))))) (.after (.of_rcd (State.setN_rcd ..)) (.after (.of_rcd (State.setN_rcd ..)) (.set_rcd (State.mk_rcd ..) (.ite (by
    split
    · exact .of_rcd (State.setBlob_rcd ..)
    · exact .refl _) (.refl _)))))
theorem State.logAdd_records (s : State) (kind ses oid old new) : s.KeepsRecords (s.logAdd kind ses oid old new) := .ite (.refl _) (.after (.of_rcd (State.mirror_rcd ..)) (State.logPut_records ..))
theorem State.discardPending_records (s : State) (ses) : s.KeepsRecords (s.discardPending ses) := .ite (.refl _) (.after (State.logAdd_records ..) (.after (.of_rcd (State.setN_rcd ..)) (.of_rcd rfl)))
@[simp] theorem State.setSesState_rcd (s : State) (ses st) : (s.setSesState ses st).rcd = s.rcd := by unfold State.setSesState; split <;> rfl
theorem State.safetyEnd_records (s : State) (ses) : s.KeepsRecords (s.safetyEnd ses) := .ite (.after (.of_rcd (State.setSesState_rcd ..)) (.set_rcd (State.mk_rcd ..) (State.discardPending_records ..))) (.refl _)
theorem State.dropSes_records (s : State) (n) : s.KeepsRecords (s.dropSes n) := .after (.of_rcd (State.emit_rcd ..)) (.ite (.after (.of_rcd (State.setN_rcd ..)) (.set_rcd (State.mk_rcd ..) (.after (.of_rcd (State.dropItems_rcd ..)) (State.safetyEnd_records ..)))) (.set_rcd (State.mk_rcd ..) (.after (.of_rcd (State.dropItems_rcd ..)) (State.safetyEnd_records ..))))
theorem State.closeSes_records (s : State) (n cause) : s.KeepsRecords (s.closeSes n cause) := .ite (.refl _) (.ite (State.dropSes_records ..) (.after (State.event_records ..) (State.dropSes_records ..)))
@[simp] theorem State.dropSes_emits (s : State) (n) : (s.dropSes n).emits = s.emits := by
  unfold State.dropSes
  split <;> simp -implicitDefEqProofs
@[simp] theorem State.dropSes_clk (s : State) (n) : (s.dropSes n).clk = s.clk := by
  unfold State.dropSes
  split <;> simp -implicitDefEqProofs
@[simp] theorem State.dropSes_mode (s : State) (n) : (s.dropSes n).mode = s.mode := by
  unfold State.dropSes
  split <;> simp -implicitDefEqProofs
@[simp] theorem State.dropSes_tb (s : State) (n) : (s.dropSes n).tb = s.tb := by
  unfold State.dropSes
  split <;> simp -implicitDefEqProofs
@[simp] theorem State.closeSes_emits (s : State) (n cause) : (s.closeSes n cause).emits = s.emits := by simp -implicitDefEqProofs [State.closeSes, apply_ite State.emits]
@[simp] theorem State.closeSes_clk (s : State) (n cause) : (s.closeSes n cause).clk = s.clk := by simp -implicitDefEqProofs [State.closeSes, apply_ite State.clk]
@[simp] theorem State.closeSes_mode (s : State) (n cause) : (s.closeSes n cause).mode = s.mode := by simp -implicitDefEqProofs [State.closeSes, apply_ite State.mode]
@[simp] theorem State.closeSes_tb (s : State) (n cause) : (s.closeSes n cause).tb = s.tb := by simp -implicitDefEqProofs [State.closeSes, apply_ite State.tb]
@[simp] theorem State.readmit_emits (s : State) (i) : (s.readmit i).emits = s.emits := by
  simp -implicitDefEqProofs only [State.readmit]
  split <;> simp -implicitDefEqProofs [apply_ite State.emits]
@[simp] theorem State.takeOver_emits (n port) (s : State) (x) : (s.takeOver n port x).emits = s.emits := by simp -implicitDefEqProofs [State.takeOver]
@[simp] theorem State.addItem_acc (s : State) (i) : (s.addItem i).acc = s.acc := by simp -implicitDefEqProofs [State.addItem]
@[simp] theorem State.readmit_acc (s : State) (i) : (s.readmit i).acc = s.acc := by
  simp -implicitDefEqProofs only [State.readmit]
  split <;> simp -implicitDefEqProofs [apply_ite State.acc]
@[simp] theorem State.takeOver_acc (n port) (s : State) (x) : (s.takeOver n port x).acc = s.acc := by simp -implicitDefEqProofs [State.takeOver]
@[simp] theorem State.takeOver_mode (n port) (s : State) (x) : (s.takeOver n port x).mode = s.mode := by simp -implicitDefEqProofs [State.takeOver]
@[simp] theorem State.takeOver_clk (n port) (s : State) (x) : (s.takeOver n port x).clk = s.clk := by simp -implicitDefEqProofs [State.takeOver]
@[simp] theorem State.addItem_saf (s : State) (i) : (s.addItem i).saf = s.saf := by simp -implicitDefEqProofs [State.addItem]
@[simp] theorem State.swapItem_saf (s : State) (i) : (s.swapItem i).saf = s.saf := by simp -implicitDefEqProofs [State.swapItem]
@[simp] theorem State.ptStatusBit_saf (s : State) (p i b) : (s.ptStatusBit p i b).saf = s.saf := by unfold State.ptStatusBit; split <;> rfl
@[simp] theorem State.markDegraded_saf (s : State) (k) : (s.markDegraded k).saf = s.saf := by
  unfold State.markDegraded
  split <;> simp -implicitDefEqProofs
@[simp] theorem State.readmit_saf (s : State) (i) : (s.readmit i).saf = s.saf := by
  simp -implicitDefEqProofs only [State.readmit]
  split <;> simp -implicitDefEqProofs [apply_ite State.saf]
@[simp] theorem State.dropItems_saf (s : State) (p) : (s.dropItems p).saf = s.saf := by simp -implicitDefEqProofs [State.dropItems]
@[simp] theorem State.takeOver_saf (n port) (s : State) (x) : (s.takeOver n port x).saf = s.saf := by simp -implicitDefEqProofs [State.takeOver]
@[simp] theorem State.takeOver_tb (n port) (s : State) (x) : (s.takeOver n port x).tb = s.tb := by simp -implicitDefEqProofs [State.takeOver]
theorem State.readmit_records (s : State) (i) : s.KeepsRecords (s.readmit i) := by
  unfold State.readmit
  cases s.keptOff i
  · exact .of_rcd (State.addItem_rcd ..)
  · exact .ite (.after (State.swapItem_records ..) (.of_rcd (State.addItem_rcd ..))) (.after (State.event_records ..) (.after (.of_rcd (State.markDegraded_rcd ..)) (.of_rcd (State.addItem_rcd ..))))
theorem State.takeOver_records (n port) (s : State) (x) : s.KeepsRecords (s.takeOver n port x) := .after (State.readmit_records ..) (.after (.of_rcd (State.dropItems_rcd ..)) (.of_rcd rfl))
@[simp] theorem State.foldl_tw_inStep {α : Type} {g : State → α → State} (hg : ∀ s a, (g s a).tw.inStep = s.tw.inStep) (l : List α) (s : State) :
    (l.foldl g s).tw.inStep = s.tw.inStep := State.foldl_keeps (fun s => s.tw.inStep) hg l s
@[simp] theorem State.foldl_fst_tw_inStep {α β : Type} {g : State × β → α → State × β} (hg : ∀ r a, (g r a).1.tw.inStep = r.1.tw.inStep) (l : List α)
    (r : State × β) : (l.foldl g r).1.tw.inStep = r.1.tw.inStep := List.foldl_keeps (fun r => r.1.tw.inStep) hg l r
@[simp] theorem State.foldl_snd_tw_inStep {α β : Type} {g : β × State → α → β × State} (hg : ∀ r a, (g r a).2.tw.inStep = r.2.tw.inStep) (l : List α)
    (r : β × State) : (l.foldl g r).2.tw.inStep = r.2.tw.inStep := List.foldl_keeps (fun r => r.2.tw.inStep) hg l r
@[simp] theorem State.mirror_tw_inStep (s : State) (b) : (s.mirror b).tw.inStep = s.tw.inStep := by unfold State.mirror; split <;> rfl
@[simp] theorem State.addItem_tw_inStep (s : State) (i) : (s.addItem i).tw.inStep = s.tw.inStep := by simp -implicitDefEqProofs [State.addItem]
@[simp] theorem State.swapItem_tw_inStep (s : State) (i) : (s.swapItem i).tw.inStep = s.tw.inStep := by simp -implicitDefEqProofs [State.swapItem]
@[simp] theorem State.ptStatusBit_tw_inStep (s : State) (p i b) : (s.ptStatusBit p i b).tw.inStep = s.tw.inStep := by unfold State.ptStatusBit; split <;> rfl
@[simp] theorem State.markDegraded_tw_inStep (s : State) (k) : (s.markDegraded k).tw.inStep = s.tw.inStep := by
  unfold State.markDegraded
  split <;> simp -implicitDefEqProofs
@[simp] theorem State.readmit_tw_inStep (s : State) (i) : (s.readmit i).tw.inStep = s.tw.inStep := by
  simp -implicitDefEqProofs only [State.readmit]
  split <;> simp -implicitDefEqProofs [apply_ite State.tw, apply_ite Twin.inStep]
@[simp] theorem State.dropItems_tw_inStep (s : State) (p) : (s.dropItems p).tw.inStep = s.tw.inStep := by simp -implicitDefEqProofs [State.dropItems]
@[simp] theorem State.takeOver_tw_inStep (n port) (s : State) (x) : (s.takeOver n port x).tw.inStep = s.tw.inStep := by simp -implicitDefEqProofs [State.takeOver]
@[simp] theorem State.foldl_tw_plan {α : Type} {g : State → α → State} (hg : ∀ s a, (g s a).tw.plan = s.tw.plan) (l : List α) (s : State) :
    (l.foldl g s).tw.plan = s.tw.plan := State.foldl_keeps (fun s => s.tw.plan) hg l s
@[simp] theorem State.foldl_fst_tw_plan {α β : Type} {g : State × β → α → State × β} (hg : ∀ r a, (g r a).1.tw.plan = r.1.tw.plan) (l : List α)
    (r : State × β) : (l.foldl g r).1.tw.plan = r.1.tw.plan := List.foldl_keeps (fun r => r.1.tw.plan) hg l r
@[simp] theorem State.foldl_snd_tw_plan {α β : Type} {g : β × State → α → β × State} (hg : ∀ r a, (g r a).2.tw.plan = r.2.tw.plan) (l : List α)
    (r : β × State) : (l.foldl g r).2.tw.plan = r.2.tw.plan := List.foldl_keeps (fun r => r.2.tw.plan) hg l r
@[simp] theorem State.mirror_tw_plan (s : State) (b) : (s.mirror b).tw.plan = s.tw.plan := by unfold State.mirror; split <;> rfl
@[simp] theorem State.addItem_tw_plan (s : State) (i) : (s.addItem i).tw.plan = s.tw.plan := by simp -implicitDefEqProofs [State.addItem]
@[simp] theorem State.swapItem_tw_plan (s : State) (i) : (s.swapItem i).tw.plan = s.tw.plan := by simp -implicitDefEqProofs [State.swapItem]
@[simp] theorem State.ptStatusBit_tw_plan (s : State) (p i b) : (s.ptStatusBit p i b).tw.plan = s.tw.plan := by unfold State.ptStatusBit; split <;> rfl
@[simp] theorem State.markDegraded_tw_plan (s : State) (k) : (s.markDegraded k).tw.plan = s.tw.plan := by
  unfold State.markDegraded
  split <;> simp -implicitDefEqProofs
@[simp] theorem State.readmit_tw_plan (s : State) (i) : (s.readmit i).tw.plan = s.tw.plan := by
  simp -implicitDefEqProofs only [State.readmit]
  split <;> simp -implicitDefEqProofs [apply_ite State.tw, apply_ite Twin.plan]
@[simp] theorem State.dropItems_tw_plan (s : State) (p) : (s.dropItems p).tw.plan = s.tw.plan := by simp -implicitDefEqProofs [State.dropItems]
@[simp] theorem State.takeOver_tw_plan (n port) (s : State) (x) : (s.takeOver n port x).tw.plan = s.tw.plan := by simp -implicitDefEqProofs [State.takeOver]
@[simp] theorem State.foldl_tw_planReq {α : Type} {g : State → α → State} (hg : ∀ s a, (g s a).tw.planReq = s.tw.planReq) (l : List α) (s : State) :
    (l.foldl g s).tw.planReq = s.tw.planReq := State.foldl_keeps (fun s => s.tw.planReq) hg l s
@[simp] theorem State.foldl_fst_tw_planReq {α β : Type} {g : State × β → α → State × β} (hg : ∀ r a, (g r a).1.tw.planReq = r.1.tw.planReq) (l : List α)
    (r : State × β) : (l.foldl g r).1.tw.planReq = r.1.tw.planReq := List.foldl_keeps (fun r => r.1.tw.planReq) hg l r
@[simp] theorem State.foldl_snd_tw_planReq {α β : Type} {g : β × State → α → β × State} (hg : ∀ r a, (g r a).2.tw.planReq = r.2.tw.planReq) (l : List α)
    (r : β × State) : (l.foldl g r).2.tw.planReq = r.2.tw.planReq := List.foldl_keeps (fun r => r.2.tw.planReq) hg l r
@[simp] theorem State.mirror_tw_planReq (s : State) (b) : (s.mirror b).tw.planReq = s.tw.planReq := by unfold State.mirror; split <;> rfl
@[simp] theorem State.addItem_tw_planReq (s : State) (i) : (s.addItem i).tw.planReq = s.tw.planReq := by simp -implicitDefEqProofs [State.addItem]
@[simp] theorem State.swapItem_tw_planReq (s : State) (i) : (s.swapItem i).tw.planReq = s.tw.planReq := by simp -implicitDefEqProofs [State.swapItem]
@[simp] theorem State.ptStatusBit_tw_planReq (s : State) (p i b) : (s.ptStatusBit p i b).tw.planReq = s.tw.planReq := by unfold State.ptStatusBit; split <;> rfl
@[simp] theorem State.markDegraded_tw_planReq (s : State) (k) : (s.markDegraded k).tw.planReq = s.tw.planReq := by
  unfold State.markDegraded
  split <;> simp -implicitDefEqProofs
@[simp] theorem State.readmit_tw_planReq (s : State) (i) : (s.readmit i).tw.planReq = s.tw.planReq := by
  simp -implicitDefEqProofs only [State.readmit]
  split <;> simp -implicitDefEqProofs [apply_ite State.tw, apply_ite Twin.planReq]
@[simp] theorem State.dropItems_tw_planReq (s : State) (p) : (s.dropItems p).tw.planReq = s.tw.planReq := by simp -implicitDefEqProofs [State.dropItems]
@[simp] theorem State.takeOver_tw_planReq (n port) (s : State) (x) : (s.takeOver n port x).tw.planReq = s.tw.planReq := by simp -implicitDefEqProofs [State.takeOver]
@[simp] theorem State.swapItem_get_TW_TWIN_STATE (s : State) (i) : (s.swapItem i).get Oid.TW_TWIN_STATE = s.get Oid.TW_TWIN_STATE := by simp -implicitDefEqProofs (disch := solve | simp (disch := solve | simp | (simp; omega)) [State.get_ite] | (simp [State.get_ite]; omega)) [State.swapItem]
@[simp] theorem State.ptStatusBit_get_TW_TWIN_STATE (s : State) (p i b) : (s.ptStatusBit p i b).get Oid.TW_TWIN_STATE = s.get Oid.TW_TWIN_STATE := by
  unfold State.ptStatusBit
  split <;> simp -implicitDefEqProofs (disch := solve | simp (disch := solve | simp | (simp; omega)) [State.get_ite] | (simp [State.get_ite]; omega))
@[simp] theorem State.markDegraded_get_TW_TWIN_STATE (s : State) (k) : (s.markDegraded k).get Oid.TW_TWIN_STATE = s.get Oid.TW_TWIN_STATE := by
  unfold State.markDegraded
  split <;> simp -implicitDefEqProofs (disch := solve | simp (disch := solve | simp | (simp; omega)) [State.get_ite] | (simp [State.get_ite]; omega))
@[simp] theorem State.readmit_get_TW_TWIN_STATE (s : State) (i) : (s.readmit i).get Oid.TW_TWIN_STATE = s.get Oid.TW_TWIN_STATE := by
  simp -implicitDefEqProofs only [State.readmit]
  split <;> simp -implicitDefEqProofs (disch := solve | simp (disch := solve | simp | (simp; omega)) [State.get_ite] | (simp [State.get_ite]; omega)) [State.get_ite]
@[simp] theorem State.takeOver_get_TW_TWIN_STATE (n port) (s : State) (x) : (s.takeOver n port x).get Oid.TW_TWIN_STATE = s.get Oid.TW_TWIN_STATE := by
  simp -implicitDefEqProofs (disch := solve | simp (disch := solve | simp | (simp; omega)) [State.get_ite] | (simp [State.get_ite]; omega)) [State.takeOver, State.get_ite]
  all_goals rfl
@[simp] theorem State.swapItem_get_TW_TWIN_SUMMARY (s : State) (i) : (s.swapItem i).get Oid.TW_TWIN_SUMMARY = s.get Oid.TW_TWIN_SUMMARY := by simp -implicitDefEqProofs (disch := solve | simp (disch := solve | simp | (simp; omega)) [State.get_ite] | (simp [State.get_ite]; omega)) [State.swapItem]
@[simp] theorem State.ptStatusBit_get_TW_TWIN_SUMMARY (s : State) (p i b) : (s.ptStatusBit p i b).get Oid.TW_TWIN_SUMMARY = s.get Oid.TW_TWIN_SUMMARY := by
  unfold State.ptStatusBit
  split <;> simp -implicitDefEqProofs (disch := solve | simp (disch := solve | simp | (simp; omega)) [State.get_ite] | (simp [State.get_ite]; omega))
@[simp] theorem State.markDegraded_get_TW_TWIN_SUMMARY (s : State) (k) : (s.markDegraded k).get Oid.TW_TWIN_SUMMARY = s.get Oid.TW_TWIN_SUMMARY := by
  unfold State.markDegraded
  split <;> simp -implicitDefEqProofs (disch := solve | simp (disch := solve | simp | (simp; omega)) [State.get_ite] | (simp [State.get_ite]; omega))
@[simp] theorem State.readmit_get_TW_TWIN_SUMMARY (s : State) (i) : (s.readmit i).get Oid.TW_TWIN_SUMMARY = s.get Oid.TW_TWIN_SUMMARY := by
  simp -implicitDefEqProofs only [State.readmit]
  split <;> simp -implicitDefEqProofs (disch := solve | simp (disch := solve | simp | (simp; omega)) [State.get_ite] | (simp [State.get_ite]; omega)) [State.get_ite]
@[simp] theorem State.takeOver_get_TW_TWIN_SUMMARY (n port) (s : State) (x) : (s.takeOver n port x).get Oid.TW_TWIN_SUMMARY = s.get Oid.TW_TWIN_SUMMARY := by
  simp -implicitDefEqProofs (disch := solve | simp (disch := solve | simp | (simp; omega)) [State.get_ite] | (simp [State.get_ite]; omega)) [State.takeOver, State.get_ite]
  all_goals rfl
@[simp] theorem State.logPut_acc (s : State) (e) : (s.logPut e).acc = s.acc := by
  simp -implicitDefEqProofs only [State.logPut]
  repeat' split
  all_goals simp -implicitDefEqProofs [apply_ite State.acc]
@[simp] theorem State.logAdd_acc (s : State) (kind ses oid old new) : (s.logAdd kind ses oid old new).acc = s.acc := by
  unfold State.logAdd
  split <;> simp -implicitDefEqProofs
@[simp] theorem State.discardPending_acc (s : State) (ses) : (s.discardPending ses).acc = s.acc := by
  unfold State.discardPending
  split <;> simp -implicitDefEqProofs
@[simp] theorem State.addSub_objs (s : State) (x) : (s.addSub x).objs = s.objs := by simp -implicitDefEqProofs [State.addSub]
@[simp] theorem State.get_addSub (s : State) (x) (key : Key) : (s.addSub x).get key = s.get key := State.get_congr (State.addSub_objs ..) key
@[simp] theorem State.nat_addSub (s : State) (x) (key : Key) : (s.addSub x).nat key = s.nat key := State.nat_congr (State.addSub_objs ..) key
@[simp] theorem State.flag_addSub (s : State) (x) (key : Key) : (s.addSub x).flag key = s.flag key := State.flag_congr (State.addSub_objs ..) key
@[simp] theorem State.addSub_blobs (s : State) (x) : (s.addSub x).blobs = s.blobs := by simp -implicitDefEqProofs [State.addSub]
@[simp] theorem State.addSub_emits (s : State) (x) : (s.addSub x).emits = s.emits := by simp -implicitDefEqProofs [State.addSub]
@[simp] theorem State.addSub_acc (s : State) (x) : (s.addSub x).acc = s.acc := by simp -implicitDefEqProofs [State.addSub]
@[simp] theorem State.addSub_tw_plan (s : State) (x) : (s.addSub x).tw.plan = s.tw.plan := by simp -implicitDefEqProofs [State.addSub]
@[simp] theorem State.addSub_tw_inStep (s : State) (x) : (s.addSub x).tw.inStep = s.tw.inStep := by simp -implicitDefEqProofs [State.addSub]
@[simp] theorem State.addSub_rcd (s : State) (x) : (s.addSub x).rcd = s.rcd := by simp -implicitDefEqProofs [State.addSub]
@[simp] theorem State.addSub_clk (s : State) (x) : (s.addSub x).clk = s.clk := by simp -implicitDefEqProofs [State.addSub]
@[simp] theorem State.addSub_mode (s : State) (x) : (s.addSub x).mode = s.mode := by simp -implicitDefEqProofs [State.addSub]
@[simp] theorem State.addItem_out (s : State) (i) : (s.addItem i).out = s.out := by simp -implicitDefEqProofs [State.addItem]
@[simp] theorem State.addSub_out (s : State) (x) : (s.addSub x).out = s.out := by simp -implicitDefEqProofs [State.addSub]
@[simp] theorem State.removeSub_objs (s : State) (h) : (s.removeSub h).objs = s.objs := by simp -implicitDefEqProofs [State.removeSub]
@[simp] theorem State.get_removeSub (s : State) (h) (key : Key) : (s.removeSub h).get key = s.get key := State.get_congr (State.removeSub_objs ..) key
@[simp] theorem State.nat_removeSub (s : State) (h) (key : Key) : (s.removeSub h).nat key = s.nat key := State.nat_congr (State.removeSub_objs ..) key
@[simp] theorem State.flag_removeSub (s : State) (h) (key : Key) : (s.removeSub h).flag key = s.flag key := State.flag_congr (State.removeSub_objs ..) key
@[simp] theorem State.removeSub_blobs (s : State) (h) : (s.removeSub h).blobs = s.blobs := by simp -implicitDefEqProofs [State.removeSub]
@[simp] theorem State.removeSub_emits (s : State) (h) : (s.removeSub h).emits = s.emits := by simp -implicitDefEqProofs [State.removeSub]
@[simp] theorem State.removeSub_acc (s : State) (h) : (s.removeSub h).acc = s.acc := by simp -implicitDefEqProofs [State.removeSub]
@[simp] theorem State.removeSub_tw_plan (s : State) (h) : (s.removeSub h).tw.plan = s.tw.plan := by simp -implicitDefEqProofs [State.removeSub]
@[simp] theorem State.removeSub_tw_inStep (s : State) (h) : (s.removeSub h).tw.inStep = s.tw.inStep := by simp -implicitDefEqProofs [State.removeSub]
@[simp] theorem State.removeSub_rcd (s : State) (h) : (s.removeSub h).rcd = s.rcd := by simp -implicitDefEqProofs [State.removeSub]
@[simp] theorem State.removeSub_clk (s : State) (h) : (s.removeSub h).clk = s.clk := by simp -implicitDefEqProofs [State.removeSub]
@[simp] theorem State.removeSub_mode (s : State) (h) : (s.removeSub h).mode = s.mode := by simp -implicitDefEqProofs [State.removeSub]
@[simp] theorem State.removeSub_out (s : State) (h) : (s.removeSub h).out = s.out := by simp -implicitDefEqProofs [State.removeSub]

end Sys2Proof.Machine
end

section
/-! ### AUTUMN: the supply fails, and the saves end (R101 to R104, R503) -/

namespace Sys2Proof.Machine

/-! ### The supply fails (R101, R102) -/

/-- Both feeds are lost. -/
def State.losesFeeds (s : State) : State :=
  { s with pow := { s.pow with feedA := { s.pow.feedA with valid := false }, feedB := { s.pow.feedB with valid := false } } }

/-- The record of the supply's failure. -/
def State.tellsSupplyFail (s : State) : State := s.eventAon 0x0210 (s.nat Oid.BANK_MV)

/-- AUTUMN runs: nothing charges, no core is awake, ACTIVE_OUT is deasserted. -/
def State.runsAutumn (s : State) : State :=
  { s with
    pow := { s.pow with
      autumn := .running, autumnAt := s.clk, charging := false, springOn := false, lpddr := false, awake := 0, inService := 0, puOn := 0
      sampled := 0 }
    tw := { s.tw with activeOut := false } }

/-- Only PD-AON, PD-SLA, PD-MEM and PD-MET stay on. -/
def State.cutsDomains (s : State) : State :=
  ((((s.setN Oid.PD_STATE (s.nat Oid.PD_STATE &&& 0x423)).setN Oid.CK_GOOD (s.nat Oid.CK_GOOD &&& 0x423)).setN Oid.APP_CORES_ON 0).setN Oid.DL_ON 0).setAllSwitches

theorem State.release_ite (s : State) (cause : Nat) : (if s.tw.activeOut then s.release cause else s) = s.release cause := by
  split
  · rfl
  · next h => exact (State.release_of_deasserted (by simpa using h) cause).symm

theorem State.autumnStart_eq (s : State) : s.autumnStart = (s.losesFeeds.release 3).tellsSupplyFail.runsAutumn.cutsDomains := by
  have h : s.autumnStart = State.cutsDomains (State.runsAutumn (State.tellsSupplyFail
      (if s.losesFeeds.tw.activeOut then s.losesFeeds.release 3 else s.losesFeeds))) := by
    unfold State.autumnStart State.losesFeeds State.tellsSupplyFail State.runsAutumn State.cutsDomains
    with_reducible rfl
  rw [h, State.release_ite]

theorem State.setAllSwitches_get (s : State) (k : Key) (h : ∀ n, (Oid.SF_STATE n).oid ≠ k.oid) : s.setAllSwitches.get k = s.get k := by
  have hstep (u : State) (n : Nat) : (u.setSwitches n).get k = u.get k := (State.get_setN_other _ _ _ _ (h n)).trans (State.get_congr rfl k)
  exact State.foldl_get k hstep _ s

theorem State.setAllSwitches_nat (s : State) (k : Key) (h : ∀ n, (Oid.SF_STATE n).oid ≠ k.oid) : s.setAllSwitches.nat k = s.nat k :=
  congrArg Int.toNat (s.setAllSwitches_get k h)

section
variable (s : State)

theorem State.cutsDomains_get (k : Key) (h : k.oid ≠ Oid.PD_STATE.oid) (hck : k.oid ≠ Oid.CK_GOOD.oid) (happ : k.oid ≠ Oid.APP_CORES_ON.oid)
    (hdl : k.oid ≠ Oid.DL_ON.oid) (hsf : ∀ n, (Oid.SF_STATE n).oid ≠ k.oid) : s.cutsDomains.get k = s.get k := by
  rw [State.cutsDomains, State.setAllSwitches_get _ k hsf, State.get_setN_other _ _ _ _ hdl.symm, State.get_setN_other _ _ _ _ happ.symm,
    State.get_setN_other _ _ _ _ hck.symm, State.get_setN_other _ _ _ _ h.symm]

theorem State.cutsDomains_registers :
    s.cutsDomains.nat Oid.PD_STATE = s.nat Oid.PD_STATE &&& 0x423 ∧ s.cutsDomains.nat Oid.CK_GOOD = s.nat Oid.CK_GOOD &&& 0x423
      ∧ s.cutsDomains.nat Oid.APP_CORES_ON = 0 ∧ s.cutsDomains.nat Oid.DL_ON = 0 := by
  have hsf (k : Key) (h : k.oid < 0x70010000) (u : State) : u.setAllSwitches.nat k = u.nat k :=
    u.setAllSwitches_nat k (fun n => by simp; omega)
  refine ⟨?_, ?_, ?_, ?_⟩
  all_goals
    rw [State.cutsDomains, hsf _ (by decide)]
    simp

/-- The release at a supply failure tells the twin and leaves the mode as it is. -/
theorem State.release_supply (h : s.tw.activeOut = true) : s.release 3 = s.tellsRelease 3 :=
  (State.release_of_asserted h 3).trans (if_neg (by decide))

theorem State.release_supply_met : (s.release 3).met = if s.tw.activeOut then s.spoilTrips.met else s.met := by
  cases h : s.tw.activeOut
  · rw [State.release_of_deasserted h]
    rfl
  · rw [s.release_supply h, State.tellsRelease_met]
    rfl

theorem State.release_supply_get (k : Key) (h : k.oid ≠ Oid.REC_DROPPED.oid) : (s.release 3).get k = s.get k := by
  cases hout : s.tw.activeOut
  · rw [State.release_of_deasserted hout]
  · rw [s.release_supply hout, State.tellsRelease_get _ _ _ h]

end

theorem exec_supplyFail {s : State} {mvA mvB forUs : Nat} (haon : s.pd .aon = true) (hA : mvA < 17000) (hB : mvB < 17000) (hus : 20 ≤ forUs)
    (hau : s.pow.autumn = .none)
    (hon : s.pow.feedA.valid = true ∨ s.pow.feedB.valid = true ∨ s.pow.springOn = true ∨ s.nat Oid.PD_STATE ≠ 1) :
    exec (.supplyFail mvA mvB forUs) s = .next ((s.start.setN Oid.FEED_A_MV mvA).setN Oid.FEED_B_MV mvB).autumnStart := by
  refine congrArg Host.Outcome.next (if_pos ?_)
  have haon' : s.start.pd .aon = true := haon
  have hau' : s.start.pow.autumn = .none := hau
  have hon' : s.start.pow.feedA.valid = true ∨ s.start.pow.feedB.valid = true ∨ s.start.pow.springOn = true ∨ s.start.nat Oid.PD_STATE ≠ 1 := hon
  have hidle : (s.start.pow.autumn == .none) = true := by rw [hau']; rfl
  simp only [haon', hidle, hA, hB, hus, and_self, decide_true, Bool.and_true, Bool.true_and]
  simpa [or_assoc] using hon'

/-- AUTUMN has started: what a state `t` that came of `s` shows (R101, R102). -/
structure State.AutumnBegun (s t : State) : Prop where
  autumn : t.pow.autumn = .running
  feedA : t.pow.feedA.valid = false
  feedB : t.pow.feedB.valid = false
  active : t.tw.activeOut = false
  pd : t.nat Oid.PD_STATE = s.nat Oid.PD_STATE &&& 0x423
  ck : t.nat Oid.CK_GOOD = s.nat Oid.CK_GOOD &&& 0x423
  cores : t.nat Oid.APP_CORES_ON = 0
  doors : t.nat Oid.DL_ON = 0
  met : t.met = if s.tw.activeOut then s.spoilTrips.met else s.met
  mvA : t.nat Oid.FEED_A_MV = s.nat Oid.FEED_A_MV
  mvB : t.nat Oid.FEED_B_MV = s.nat Oid.FEED_B_MV
  recorded : t.Recorded 0x0210 0xFFFF (s.nat Oid.BANK_MV) 0 0
  released : s.tw.activeOut = true → t.Recorded 0x0601 0xFFFF 3 (s.nat Oid.TW_GEN) 0 ∧ t.tw.released = some (3, s.clk)

theorem State.autumnBegun_autumnStart (s : State) (hroom : s.Room) : s.AutumnBegun s.autumnStart := by
  have hpow : (s.losesFeeds.release 3).pow = s.losesFeeds.pow := State.release_pow ..
  have hmet : (s.losesFeeds.release 3).met = if s.tw.activeOut then s.spoilTrips.met else s.met := State.release_supply_met _
  have hget (k : Key) (h : k.oid ≠ Oid.REC_DROPPED.oid) : (s.losesFeeds.release 3).nat k = s.nat k :=
    congrArg Int.toNat ((State.release_supply_get _ k h).trans (State.get_congr rfl k))
  have hrel : s.tw.activeOut = true → (s.losesFeeds.release 3).Recorded 0x0601 0xFFFF 3 (s.nat Oid.TW_GEN) 0
      ∧ (s.losesFeeds.release 3).tw.released = some (3, s.clk) := fun h => by
    have h' : s.losesFeeds.tw.activeOut = true := h
    rw [State.release_supply _ h']
    refine ⟨?_, congrArg (·.released) (State.tellsRelease_tw ..)⟩
    have hr : s.losesFeeds.rcd.waitingCount < 32768 := by
      have : s.losesFeeds.rcd = s.rcd := rfl
      rw [this]
      omega
    exact State.tellsRelease_recorded _ 3 hr
  rw [s.autumnStart_eq]
  generalize s.losesFeeds.release 3 = u at *
  obtain ⟨hpd, hck, hcores, hdoors⟩ := u.tellsSupplyFail.runsAutumn.cutsDomains_registers
  have hu (k : Key) : u.tellsSupplyFail.runsAutumn.nat k = u.nat k := rfl
  have hkeep (k : Key) (h : k.oid ≠ Oid.PD_STATE.oid) (hck : k.oid ≠ Oid.CK_GOOD.oid) (happ : k.oid ≠ Oid.APP_CORES_ON.oid)
      (hdl : k.oid ≠ Oid.DL_ON.oid) (hsf : ∀ n, (Oid.SF_STATE n).oid ≠ k.oid) : u.tellsSupplyFail.runsAutumn.cutsDomains.nat k = u.nat k :=
    congrArg Int.toNat (State.cutsDomains_get _ k h hck happ hdl hsf)
  have hpow' : u.tellsSupplyFail.runsAutumn.cutsDomains.pow = u.tellsSupplyFail.runsAutumn.pow := by simp [State.cutsDomains]
  have htw' : u.tellsSupplyFail.runsAutumn.cutsDomains.tw = u.tellsSupplyFail.runsAutumn.tw := by simp [State.cutsDomains]
  have hmet' : u.tellsSupplyFail.runsAutumn.cutsDomains.met = u.met := by simp [State.cutsDomains, State.runsAutumn, State.tellsSupplyFail]
  have hrcd' : u.tellsSupplyFail.runsAutumn.cutsDomains.rcd = u.tellsSupplyFail.rcd := by simp [State.cutsDomains, State.runsAutumn]
  have hrec : u.tellsSupplyFail.Recorded 0x0210 0xFFFF (u.nat Oid.BANK_MV) 0 0 := State.eventAon_recorded ..
  exact
    { autumn := (congrArg (·.autumn) hpow' :)
      feedA := (congrArg (·.feedA.valid) hpow').trans (congrArg (·.feedA.valid) hpow :)
      feedB := (congrArg (·.feedB.valid) hpow').trans (congrArg (·.feedB.valid) hpow :)
      active := (congrArg (·.activeOut) htw' :)
      pd := by rw [hpd, hu, hget _ (by decide)]
      ck := by rw [hck, hu, hget _ (by decide)]
      cores := hcores
      doors := hdoors
      met := hmet'.trans hmet
      mvA := (hkeep _ (by decide) (by decide) (by decide) (by decide) (fun n => by simp; omega)).trans (hget _ (by decide))
      mvB := (hkeep _ (by decide) (by decide) (by decide) (by decide) (fun n => by simp; omega)).trans (hget _ (by decide))
      recorded := by
        rw [hget _ (by decide)] at hrec
        exact hrec.congr hrcd'
      released := fun h => ⟨State.Recorded.congr (State.eventAon_keeps _ _ _ _ _ (hrel h).1) hrcd', (congrArg (·.released) htw').trans (hrel h).2⟩ }

/-! ### The saves end (R103) -/

section
variable (s : State) (kind : Nat) (bad : List SaveWord)

theorem patchWord_head (old x : SaveSlot) (w : SaveWord) : (patchWord old x w).num = x.num ∧ (patchWord old x w).kind = x.kind := by
  cases w <;> exact ⟨rfl, rfl⟩

/-- Words that are not saved again leave a set's number and kind as they are. -/
theorem patchWords_head (old x : SaveSlot) :
    (bad.foldl (patchWord old) x).num = x.num ∧ (bad.foldl (patchWord old) x).kind = x.kind :=
  ⟨List.foldl_keeps SaveSlot.num (fun y w => (patchWord_head old y w).1) bad x,
    List.foldl_keeps SaveSlot.kind (fun y w => (patchWord_head old y w).2) bad x⟩

theorem State.snapshot_num : (s.snapshot kind bad).num = s.met.lastNum + 1 := (patchWords_head bad _ _).1

theorem State.snapshot_kind : (s.snapshot kind bad).kind = kind := (patchWords_head bad _ _).2

/-- A set that is begun and not closed is the last one, in its slot (R503). -/
theorem State.save_slot :
    ∃ x, (s.save kind bad false).met.slots.find ((s.save kind bad false).met.lastNum % 8) = some x
      ∧ x.num = (s.save kind bad false).met.lastNum ∧ x.kind = kind ∧ x.closed = false :=
  ⟨_, Tbl.find_ins_same .., rfl, s.snapshot_kind kind bad, rfl⟩

end

/-- The energy account stops for AUTUMN unless it has stopped already, once the first samples are done (R102, R503). -/
def State.stopsForAutumn (s : State) : State :=
  if (s.reach (s.pow.autumnAt + us 130)).met.stopped.isSome then s.reach (s.pow.autumnAt + us 130)
  else (s.reach (s.pow.autumnAt + us 130)).energyStop 3

/-- The set that AUTUMN saves is begun. -/
def State.beginsSet (s : State) : State := s.save 1 s.met.shadowBad false

/-- PD-MET goes off as its registers are saved. -/
def State.leavesMetering (s : State) : State :=
  ((s.setN Oid.PD_STATE (s.nat Oid.PD_STATE &&& 0x403)).setN Oid.CK_GOOD (s.nat Oid.CK_GOOD &&& 0x403)).setN Oid.MI_ON 0

theorem State.autumnSave_eq (s : State) : s.autumnSave = s.stopsForAutumn.beginsSet.leavesMetering := by
  unfold State.autumnSave State.stopsForAutumn State.beginsSet State.leavesMetering
  with_reducible rfl

theorem State.stopsForAutumn_clk (s : State) : s.stopsForAutumn.clk = (s.reach (s.pow.autumnAt + us 130)).clk := by
  unfold State.stopsForAutumn
  split <;> rfl

theorem State.stopsForAutumn_objs (s : State) : s.stopsForAutumn.objs = s.objs := by
  unfold State.stopsForAutumn
  split <;> rfl

/-- What the save of AUTUMN has done: a state `t` that came of `s`. -/
structure State.AutumnSaved (s t : State) : Prop where
  clk : s.pow.autumnAt + 130000 ≤ t.clk
  pow : t.pow = s.pow
  pd : t.nat Oid.PD_STATE = s.nat Oid.PD_STATE &&& 0x403
  ck : t.nat Oid.CK_GOOD = s.nat Oid.CK_GOOD &&& 0x403
  mi : t.nat Oid.MI_ON = 0
  slot : ∃ x, t.met.slots.find (t.met.lastNum % 8) = some x ∧ x.num = t.met.lastNum ∧ x.kind = 1 ∧ x.closed = false

theorem State.autumnSaved_autumnSave (s : State) : s.AutumnSaved s.autumnSave := by
  have hclk : s.pow.autumnAt + 130000 ≤ s.stopsForAutumn.beginsSet.clk := by
    rw [show s.stopsForAutumn.beginsSet.clk = s.stopsForAutumn.clk from rfl, s.stopsForAutumn_clk]
    exact s.le_reach_clk (s.pow.autumnAt + us 130)
  have hslot := s.stopsForAutumn.save_slot 1 s.stopsForAutumn.met.shadowBad
  have hnat (k : Key) : s.stopsForAutumn.beginsSet.nat k = s.nat k := State.nat_congr s.stopsForAutumn_objs k
  have hpow : s.stopsForAutumn.beginsSet.pow = s.pow := by
    rw [show s.stopsForAutumn.beginsSet.pow = s.stopsForAutumn.pow from rfl]
    unfold State.stopsForAutumn
    split <;> rfl
  rw [s.autumnSave_eq]
  change ∃ x, s.stopsForAutumn.beginsSet.met.slots.find (s.stopsForAutumn.beginsSet.met.lastNum % 8) = some x
    ∧ x.num = s.stopsForAutumn.beginsSet.met.lastNum ∧ x.kind = 1 ∧ x.closed = false at hslot
  generalize s.stopsForAutumn.beginsSet = u at *
  exact
    { clk := hclk
      pow := hpow
      pd := by simp [State.leavesMetering, hnat]
      ck := by simp [State.leavesMetering, hnat]
      mi := by simp [State.leavesMetering]
      slot := hslot }

/-- The set in the last slot is closed (R503). -/
def State.closesSet (s : State) : State :=
  match s.met.slots.find (s.met.lastNum % 8) with
  | some x => { s with met := { s.met with slots := s.met.slots.ins (s.met.lastNum % 8) { x with closed := true, crcGood := true } } }
  | none => s

theorem State.closesSet_of_find {s : State} {x : SaveSlot} (h : s.met.slots.find (s.met.lastNum % 8) = some x) :
    s.closesSet = { s with met := { s.met with slots := s.met.slots.ins (s.met.lastNum % 8) { x with closed := true, crcGood := true } } } := by
  unfold State.closesSet
  rw [h]

/-- The saves of AUTUMN are done, and the record says so. -/
def State.tellsSaved (s : State) (n durUs : Nat) : State := (s.setN Oid.SAVE_NUMBER n).flushRecords.eventAon 0x0211 durUs (n % 8)

/-- A module that AUTUMN found frozen is in BOOT (R651). -/
def State.thawsForBoot (s : State) : State :=
  if s.mode = .frozen then { s with mode := .boot, frz := { s.frz with selfRefresh := false, clocksStopped := false, waiting := false } } else s

/-- Only PD-AON stays on. -/
def State.keepsAon (s : State) : State :=
  ((s.setN Oid.PD_STATE (s.nat Oid.PD_STATE &&& 1)).setN Oid.CK_GOOD (s.nat Oid.CK_GOOD &&& 1)).setAllSwitches

/-- AUTUMN is done. -/
def State.autumnOver (s : State) : State := { s with pow := { s.pow with autumn := .done } }

theorem State.thawsForBoot_frame (s : State) :
    s.thawsForBoot.objs = s.objs ∧ s.thawsForBoot.pow = s.pow ∧ s.thawsForBoot.met = s.met ∧ s.thawsForBoot.rcd = s.rcd
      ∧ s.thawsForBoot.clk = s.clk := by
  unfold State.thawsForBoot
  split <;> exact ⟨rfl, rfl, rfl, rfl, rfl⟩

/-- AUTUMN ends with both feeds lost: only PD-AON stays on. -/
theorem State.autumnEnd_lost {s : State} (hA : s.pow.feedA.valid = false) (hB : s.pow.feedB.valid = false) :
    s.autumnEnd = s.thawsForBoot.keepsAon.autumnOver := by
  have hpow : s.thawsForBoot.keepsAon.pow = s.pow := by simp [State.keepsAon, s.thawsForBoot_frame]
  have heq : s.autumnEnd = if s.thawsForBoot.keepsAon.pow.feedA.valid || s.thawsForBoot.keepsAon.pow.feedB.valid then
      ({ s.thawsForBoot.keepsAon with pow := { s.thawsForBoot.keepsAon.pow with autumn := .none } } : State).assertSource 1
    else s.thawsForBoot.keepsAon.autumnOver := by
    unfold State.autumnEnd State.thawsForBoot State.keepsAon State.autumnOver
    with_reducible rfl
  rw [heq, hpow, hA, hB]
  rfl

/-- What the end of AUTUMN with both feeds lost leaves: a state `t` that came of `s` (R103). -/
structure State.AutumnOver (s t : State) : Prop where
  pow : t.pow = { s.pow with autumn := .done }
  pd : t.nat Oid.PD_STATE = s.nat Oid.PD_STATE &&& 1
  ck : t.nat Oid.CK_GOOD = s.nat Oid.CK_GOOD &&& 1
  other : ∀ k : Key, k.oid ≠ Oid.PD_STATE.oid → k.oid ≠ Oid.CK_GOOD.oid → (∀ n, (Oid.SF_STATE n).oid ≠ k.oid) → t.nat k = s.nat k
  met : t.met = s.met
  rcd : t.rcd = s.rcd
  clk : t.clk = s.clk

theorem State.autumnOver_autumnEnd {s : State} (hA : s.pow.feedA.valid = false) (hB : s.pow.feedB.valid = false) : s.AutumnOver s.autumnEnd := by
  obtain ⟨hobjs, hpow, hmet, hrcd, hclk⟩ := s.thawsForBoot_frame
  rw [State.autumnEnd_lost hA hB]
  have hnat (k : Key) : s.thawsForBoot.nat k = s.nat k := State.nat_congr hobjs k
  generalize s.thawsForBoot = u at *
  have hover (k : Key) : u.keepsAon.autumnOver.nat k = u.keepsAon.nat k := rfl
  have hsf (k : Key) (h : ∀ n, (Oid.SF_STATE n).oid ≠ k.oid) :
      u.keepsAon.nat k = ((u.setN Oid.PD_STATE (u.nat Oid.PD_STATE &&& 1)).setN Oid.CK_GOOD (u.nat Oid.CK_GOOD &&& 1)).nat k :=
    State.setAllSwitches_nat _ k h
  exact
    { pow := by simp [State.autumnOver, State.keepsAon, hpow]
      pd := by
        rw [hover, hsf _ (fun n => by simp; omega)]
        simp [hnat]
      ck := by
        rw [hover, hsf _ (fun n => by simp; omega)]
        simp [hnat]
      other := fun k hpd hck h => by
        rw [hover, hsf k h, State.nat_setN_ne _ _ _ _ hck.symm, State.nat_setN_ne _ _ _ _ hpd.symm, hnat]
      met := by simp [State.autumnOver, State.keepsAon, hmet]
      rcd := by simp [State.autumnOver, State.keepsAon, hrcd]
      clk := by simp [State.autumnOver, State.keepsAon, hclk] }

theorem exec_autumnDone {s : State} (durUs : Nat) (h : s.pow.autumn = .running) :
    exec (.autumnDone durUs) s = .next (s.start.autumnSave.closesSet.tellsSaved s.start.autumnSave.met.lastNum durUs).autumnEnd :=
  congrArg Host.Outcome.next (if_pos h)

/-- The set that AUTUMN saved stays open: the words not written in time are counted. -/
def State.leavesOpen (s : State) (words : Nat) : State := { s with pow := { s.pow with openSet := some (s.met.lastNum % 8, words) } }

theorem exec_autumnIncomplete {s : State} (words : Nat) (h : s.pow.autumn = .running) :
    exec (.autumnIncomplete words) s = .next (s.start.autumnSave.leavesOpen words).losePending.autumnEnd :=
  congrArg Host.Outcome.next (if_pos h)

theorem State.losePending_waitingCount (s : State) : s.losePending.rcd.waitingCount = 0 := by
  have hnone : ∀ r ∈ s.losePending.rcd.ring, ¬ r.waiting = true := fun r hr => by
    obtain ⟨x, hx, rfl⟩ := List.mem_map.1 hr
    simpa using (List.mem_filter.1 hx).2
  rw [Recorder.waitingCount, List.filter_eq_nil_iff.2 hnone]
  rfl

theorem State.tellsSaved_waitingCount (s : State) (n durUs : Nat) : (s.tellsSaved n durUs).rcd.waitingCount = 0 :=
  (s.setN Oid.SAVE_NUMBER n).flushRecords_waitingCount

theorem State.tellsSaved_recorded (s : State) (n durUs : Nat) : (s.tellsSaved n durUs).Recorded 0x0211 0xFFFF durUs (n % 8) 0 :=
  State.eventAon_recorded ..

theorem State.tellsSaved_nat (s : State) (n durUs : Nat) (k : Key) (h : k.oid ≠ Oid.SAVE_NUMBER.oid) : (s.tellsSaved n durUs).nat k = s.nat k :=
  State.nat_setN_ne s _ k n h.symm

theorem State.tellsSaved_number (s : State) (n durUs : Nat) : (s.tellsSaved n durUs).nat Oid.SAVE_NUMBER = n := State.nat_setN_same s _ n

theorem exec_pdAonOff {s : State} {mv : Nat} (hmv : mv < 10000) (h : s.pow.autumn = .done) :
    exec (.pdAonOff mv) s = .next ((s.start.setN Oid.PD_STATE 0).setN Oid.BANK_MV mv) :=
  congrArg Host.Outcome.next (if_pos ⟨hmv, h⟩)

theorem and_and_one (a m : Nat) (h : m &&& 1 = 1) : a &&& m &&& 1 = a &&& 1 := by rw [Nat.and_assoc, h]

/-- Settles O12: the supply's failure starts AUTUMN; its saves close their set or leave it open; below 10 V PD-AON stops. -/
theorem autumn : Obligations.Autumn := by
  unfold Obligations.Autumn
  intro s hroom
  refine ⟨fun mvA mvB forUs haon hA hB hus hau hon => ?_, fun durUs hrun hA hB => ?_, fun words hrun hA hB => ?_, fun mv hmv hdone => ?_⟩
  · have hexec := exec_supplyFail haon hA hB hus hau hon
    have hb := ((s.start.setN Oid.FEED_A_MV mvA).setN Oid.FEED_B_MV mvB).autumnBegun_autumnStart hroom
    exact ⟨_, hexec, hb.autumn, hb.feedA, hb.feedB, hb.mvA.trans (by simp), hb.mvB.trans (by simp), hb.active, hb.pd.trans (by simp), hb.ck.trans (by simp),
      hb.cores, hb.doors, hb.met, by simpa using hb.recorded, fun h => by simpa using hb.released h⟩
  · have hsaved := s.start.autumnSaved_autumnSave
    rw [exec_autumnDone durUs hrun]
    generalize s.start.autumnSave = u at *
    obtain ⟨x, hfind, hnum, hkind, -⟩ := hsaved.slot
    have hcloses := State.closesSet_of_find hfind
    have hpow : (u.closesSet.tellsSaved u.met.lastNum durUs).pow = s.pow := by
      rw [hcloses]
      exact hsaved.pow
    have hover := State.autumnOver_autumnEnd (s := u.closesSet.tellsSaved u.met.lastNum durUs) (by rw [hpow, hA]) (by rw [hpow, hB])
    have hnat (k : Key) (h : k.oid ≠ Oid.SAVE_NUMBER.oid) : (u.closesSet.tellsSaved u.met.lastNum durUs).nat k = u.nat k := by
      rw [State.tellsSaved_nat _ _ _ _ h, hcloses]
      rfl
    have hmet : (u.closesSet.tellsSaved u.met.lastNum durUs).met
        = { u.met with slots := u.met.slots.ins (u.met.lastNum % 8) { x with closed := true, crcGood := true } } := by
      rw [hcloses]
      rfl
    have hclk : (u.closesSet.tellsSaved u.met.lastNum durUs).clk = u.clk := by
      rw [hcloses]
      rfl
    have hwait := u.closesSet.tellsSaved_waitingCount u.met.lastNum durUs
    have hrec := u.closesSet.tellsSaved_recorded u.met.lastNum durUs
    have hnumber := u.closesSet.tellsSaved_number u.met.lastNum durUs
    generalize u.closesSet.tellsSaved u.met.lastNum durUs = v at *
    have hlast : v.autumnEnd.met.lastNum = u.met.lastNum := by rw [hover.met, hmet]
    refine ⟨_, rfl, congrArg (·.autumn) hover.pow, ?_, ?_, ?_, ?_, ?_, ?_, ?_, ?_⟩
    · rw [hover.pd, hnat _ (by decide), hsaved.pd]
      exact and_and_one _ _ (by decide)
    · rw [hover.ck, hnat _ (by decide), hsaved.ck]
      exact and_and_one _ _ (by decide)
    · rw [hover.other _ (by decide) (by decide) (fun n => by simp; omega), hnat _ (by decide), hsaved.mi]
    · rw [hover.clk, hclk]
      exact hsaved.clk
    · rw [hover.other _ (by decide) (by decide) (fun n => by simp; omega), hnumber, hlast]
    · rw [hover.rcd, hwait]
    · refine ⟨{ x with closed := true, crcGood := true }, ?_, hnum.trans hlast.symm, hkind, rfl⟩
      rw [hlast, hover.met, hmet]
      exact Tbl.find_ins_same ..
    · rw [hlast]
      exact hrec.congr hover.rcd
  · have hsaved := s.start.autumnSaved_autumnSave
    rw [exec_autumnIncomplete words hrun]
    generalize s.start.autumnSave = u at *
    have hpow : (u.leavesOpen words).losePending.pow = { s.pow with openSet := some (u.met.lastNum % 8, words) } :=
      congrArg (fun p : Power => { p with openSet := some (u.met.lastNum % 8, words) }) hsaved.pow
    have hover := State.autumnOver_autumnEnd (s := (u.leavesOpen words).losePending) (by rw [hpow]; exact hA) (by rw [hpow]; exact hB)
    have hmet : (u.leavesOpen words).losePending.autumnEnd.met = u.met := hover.met
    refine ⟨_, rfl, congrArg (·.autumn) hover.pow, ?_, ?_, ?_, ?_⟩
    · rw [hover.pow, hmet]
      rfl
    · rw [hover.pd]
      exact (congrArg (· &&& 1) hsaved.pd).trans (and_and_one _ _ (by decide))
    · rw [hover.rcd]
      exact State.losePending_waitingCount _
    · rw [hmet]
      exact hsaved.slot
  · refine ⟨_, exec_pdAonOff hmv hdone, by simp, by simp, rfl, rfl, fun k hpd hbank => ?_⟩
    rw [State.get_setN_other _ _ _ _ hbank.symm, State.get_setN_other _ _ _ _ hpd.symm]
    rfl

end Sys2Proof.Machine
end

section
/-! ### SPRING: the steps that switch the domains on (R97, R98, R105 to R107) -/

namespace Sys2Proof.Machine

/-! ### What a start-up step leaves as it is -/

/-- A loop starts with its manual output (R425). -/
def State.startsLoop (s : State) (l : Nat × Nat) : State := (s.setLoop l.1 l.2 {}).set (Oid.OUT l.2 l.1) (s.get (Oid.MANUAL l.2 l.1))

/-- A group starts with its members. -/
def State.startsGroup (s : State) (g : Nat) : State :=
  (s.members g).foldl (fun s m => s.setN (Oid.LOOP_GROUP m.2 m.1) g) { s with grps := s.grps.ins g {} }

theorem State.startsLoop_get (s : State) (l : Nat × Nat) (k : Key) (h : k.oid < 0x40000000) : (s.startsLoop l).get k = s.get k := by
  have hne : (Oid.OUT l.2 l.1).oid ≠ k.oid := by
    simp
    omega
  exact (State.get_set_other _ _ _ _ hne).trans (State.get_congr rfl k)

theorem State.startsGroup_get (s : State) (g : Nat) (k : Key) (h : k.oid < 0x40000000) : (s.startsGroup g).get k = s.get k := by
  have hne (m : Nat × Nat) : (Oid.LOOP_GROUP m.2 m.1).oid ≠ k.oid := by
    simp
    omega
  exact (State.foldl_get k (fun u m => State.get_setN_other _ _ _ _ (hne m)) _ _).trans (State.get_congr rfl k)

theorem State.loopsAtStart_get (s : State) (k : Key) (h : k.oid < 0x40000000) : s.loopsAtStart.get k = s.get k :=
  (State.foldl_get k (fun u g => u.startsGroup_get g k h) _ _).trans (State.foldl_get k (fun u l => u.startsLoop_get l k h) _ s)

/-- The domains, the step of SPRING and the mode are the same, and no time is lost. -/
structure State.SameDomains (s t : State) : Prop where
  pd : t.nat Oid.PD_STATE = s.nat Oid.PD_STATE
  ck : t.nat Oid.CK_GOOD = s.nat Oid.CK_GOOD
  step : t.nat Oid.SPRING_STEP = s.nat Oid.SPRING_STEP
  mode : t.mode = s.mode
  clk : s.clk ≤ t.clk

theorem State.clk_le_reach (s : State) (n : Nat) : s.clk ≤ (s.reach n).clk := Nat.le_add_right ..

theorem State.startUpAt_sameDomains (s : State) (n : Nat) (h4 : n ≠ 4) (h11 : n ≠ 11) : s.SameDomains (s.startUpAt n) := by
  have hreach (k : Nat) : s.SameDomains (s.reach k) := ⟨rfl, rfl, rfl, rfl, s.clk_le_reach k⟩
  have hself : s.SameDomains s := ⟨rfl, rfl, rfl, rfl, Nat.le_refl _⟩
  have hloops (u : State) : u.SameDomains u.loopsAtStart :=
    ⟨congrArg Int.toNat (u.loopsAtStart_get _ (by decide)), congrArg Int.toNat (u.loopsAtStart_get _ (by decide)),
      congrArg Int.toNat (u.loopsAtStart_get _ (by decide)), by simp, by simp⟩
  have hblock (u : State) (b : List Byte) : u.SameDomains (u.loadBlock b) :=
    ⟨by simp [State.nat], by simp [State.nat], by simp [State.nat], by simp, by simp⟩
  have hcan (u : State) : u.SameDomains u.canAtStart :=
    ⟨by simp [State.nat], by simp [State.nat], by simp [State.nat], by simp, by simp⟩
  have htrans {a b c : State} (h : a.SameDomains b) (g : b.SameDomains c) : a.SameDomains c :=
    ⟨g.pd.trans h.pd, g.ck.trans h.ck, g.step.trans h.step, g.mode.trans h.mode, Nat.le_trans h.clk g.clk⟩
  unfold State.startUpAt
  simp only
  split
  · contradiction
  · exact htrans (hreach _) (hloops _)
  · split
    · exact hreach _
    · exact htrans (hreach _) (hblock _ _)
  · exact htrans (hreach _) (hcan _)
  · contradiction
  · exact hself

/-! ### A domain's step -/

theorem domBit_inj {d d' : Domain} (h : domBit d = domBit d') : d = d' := by
  cases d <;> cases d' <;> simp [domBit] at h ⊢

theorem State.pd_setBit_pd (s : State) (d d' : Domain) (b : Bool) :
    (s.setBit Oid.PD_STATE (domBit d) b).pd d' = if d' = d then b else s.pd d' := by
  rw [State.pd, State.bit_setBit]
  by_cases h : d' = d
  · rw [if_pos h, if_pos (congrArg domBit h)]
  · rw [if_neg h, if_neg fun e => h (domBit_inj e)]
    rfl

/-- A domain is on with its clock, the other domains are as they were. -/
structure State.DomainOn (s t : State) (d : Domain) : Prop where
  on : t.pd d = true
  ck : t.ck d = true
  other : ∀ d' : Domain, d' ≠ d → t.pd d' = s.pd d'
  mode : t.mode = s.mode
  clk : s.clk ≤ t.clk

/-- The domain's bit of PD_STATE is set. -/
def State.powersOn (s : State) (d : Domain) : State := s.setBit Oid.PD_STATE (domBit d) true

/-- The domain's clock is good after 100 µs, and its blocks leave reset. -/
def State.clocksOn (s : State) (d : Domain) : State :=
  ((s.reach (s.clk + us 100)).setBit Oid.CK_GOOD (domBit d) true).blocksOn d

theorem State.domainOn_eq {s : State} {d : Domain} (hoff : s.pd d = false) (hclock : s.pow.tcxo = true ∨ d = .sla) :
    s.domainOn d = (s.powersOn d).clocksOn d := by
  have hno : ¬ ((!(s.powersOn d).pow.tcxo) = true ∧ d ≠ .sla) := by
    rw [State.powersOn, State.setBit_pow]
    rcases hclock with h | h <;> simp [h]
  unfold State.domainOn
  rw [if_neg (by simp [hoff])]
  exact if_neg hno

theorem State.domainOn_on {s : State} {d : Domain} (hoff : s.pd d = false) (hclock : s.pow.tcxo = true ∨ d = .sla) :
    s.DomainOn (s.domainOn d) d := by
  have hpd (d' : Domain) : ((s.powersOn d).clocksOn d).pd d' = if d' = d then true else s.pd d' := by
    refine Eq.trans ?_ (s.pd_setBit_pd d d' true)
    simp [State.pd, State.bit, State.nat, State.clocksOn, State.powersOn]
  rw [State.domainOn_eq hoff hclock]
  exact
    { on := (hpd d).trans (if_pos rfl)
      ck := by
        have h : ((s.powersOn d).clocksOn d).ck d
            = (((s.powersOn d).reach ((s.powersOn d).clk + us 100)).setBit Oid.CK_GOOD (domBit d) true).ck d := by
          simp [State.ck, State.bit, State.nat, State.clocksOn]
        rw [h, State.ck, State.bit_setBit, if_pos rfl]
      other := fun d' h => (hpd d').trans (if_neg h)
      mode := by simp [State.clocksOn, State.powersOn]
      clk := by simpa [State.clocksOn, State.powersOn] using (s.powersOn d).clk_le_reach (s.clk + us 100) }

/-- PD-SLA has stayed off for as long as it must. -/
def State.forgetsSlaOff (s : State) : State := { s with pow := { s.pow with slaOffAt := none } }

theorem State.forgetsSlaOff_frame (s : State) :
    s.forgetsSlaOff.objs = s.objs ∧ s.forgetsSlaOff.mode = s.mode ∧ s.forgetsSlaOff.clk = s.clk ∧ s.forgetsSlaOff.pow.tcxo = s.pow.tcxo :=
  ⟨rfl, rfl, rfl, rfl⟩

/-- PD-SLA stays off for 100 ms (R105). -/
def State.waitsSla (s : State) (d : Domain) : State :=
  match d, s.pow.slaOffAt with
  | .sla, some t => (s.reach (t + ms 100)).forgetsSlaOff
  | _, _ => s

/-- What a domain does as it comes on. -/
def State.domainStarts (s : State) (d : Domain) : State :=
  match d with
  | .sla => s.setN Oid.SLA_STATE 1
  | .mem => { s with pow := { s.pow with lpddr := true } }
  | .safe => s.bootBank
  | .pos => { s with pow := { s.pow with puOn := s.puWanted } }
  | _ => s

/-- A step finds its domain on: for PD-MEM LPDDR5 is on. -/
def State.passesDomain (s : State) (d : Domain) : State :=
  if d = .mem ∧ !s.pow.lpddr then { s with pow := { s.pow with lpddr := true } } else s

theorem State.springDomain_of_on {s : State} {d : Domain} (n : Nat) (hon : s.pd d = true) :
    s.springDomain n d = (s.passesDomain d).springDone n := if_pos hon

theorem State.springDomain_of_full {s : State} {d : Domain} (n : Nat) (hoff : s.pd d = false) (hfits : s.fitsUnits d 1 = false) :
    s.springDomain n d = s :=
  (if_neg (by simp [hoff])).trans (if_pos (by simp [hfits]))

theorem State.springDomain_of_off {s : State} {d : Domain} (n : Nat) (hoff : s.pd d = false) (hfits : s.fitsUnits d 1 = true) :
    s.springDomain n d = (((s.waitsSla d).domainOn d).domainStarts d).springDone n := by
  unfold State.springDomain
  rw [if_neg (by simp [hoff]), if_neg (by simp [hfits])]
  cases d <;> cases h : s.pow.slaOffAt <;> simp only [State.waitsSla, State.forgetsSlaOff, State.domainStarts, h]

theorem State.waitsSla_frame (s : State) (d : Domain) :
    (s.waitsSla d).objs = s.objs ∧ (s.waitsSla d).mode = s.mode ∧ s.clk ≤ (s.waitsSla d).clk ∧ (s.waitsSla d).pow.tcxo = s.pow.tcxo := by
  unfold State.waitsSla
  split
  · next t _ =>
    obtain ⟨hobjs, hmode, hclk, htcxo⟩ := (s.reach (t + ms 100)).forgetsSlaOff_frame
    exact ⟨hobjs.trans (s.reach_objs _), hmode.trans (s.reach_mode _), Nat.le_trans (s.clk_le_reach (t + ms 100)) (Nat.le_of_eq hclk.symm),
      htcxo.trans (congrArg (·.tcxo) (s.reach_pow _))⟩
  · exact ⟨rfl, rfl, Nat.le_refl _, rfl⟩

theorem State.domainStarts_frame (s : State) {d : Domain} (h : d ≠ .safe) (k : Key) (hk : k.oid ≠ Oid.SLA_STATE.oid) :
    (s.domainStarts d).get k = s.get k ∧ (s.domainStarts d).mode = s.mode ∧ (s.domainStarts d).clk = s.clk := by
  unfold State.domainStarts
  split
  · exact ⟨State.get_setN_other _ _ _ _ hk.symm, rfl, rfl⟩
  · exact ⟨rfl, rfl, rfl⟩
  · contradiction
  · exact ⟨rfl, rfl, rfl⟩
  · exact ⟨rfl, rfl, rfl⟩

theorem State.passesDomain_frame (s : State) (d : Domain) :
    (s.passesDomain d).objs = s.objs ∧ (s.passesDomain d).mode = s.mode ∧ (s.passesDomain d).clk = s.clk := by
  unfold State.passesDomain
  split <;> exact ⟨rfl, rfl, rfl⟩

theorem State.pd_congr {s t : State} (h : t.get Oid.PD_STATE = s.get Oid.PD_STATE) (d : Domain) : t.pd d = s.pd d := by
  simp [State.pd, State.bit, State.nat, h]

theorem State.ck_congr {s t : State} (h : t.get Oid.CK_GOOD = s.get Oid.CK_GOOD) (d : Domain) : t.ck d = s.ck d := by
  simp [State.ck, State.bit, State.nat, h]

theorem State.springDone_get (s : State) (n : Nat) (k : Key) (h : k.oid ≠ Oid.SPRING_STEP.oid) : (s.springDone n).get k = s.get k :=
  (State.get_setN_other _ _ _ _ h.symm).trans (State.get_congr rfl k)

theorem State.springDone_step (s : State) (n : Nat) : (s.springDone n).nat Oid.SPRING_STEP = n := State.nat_setN_same ..

theorem State.springDomain_on {s : State} {d : Domain} (n : Nat) (hsafe : d ≠ .safe) (hoff : s.pd d = false) (hfits : s.fitsUnits d 1 = true)
    (hclock : s.pow.tcxo = true ∨ d = .sla) : s.DomainOn (s.springDomain n d) d ∧ (s.springDomain n d).nat Oid.SPRING_STEP = n := by
  obtain ⟨hobjs, hmode, hclk, htcxo⟩ := s.waitsSla_frame d
  have hpd (d' : Domain) : (s.waitsSla d).pd d' = s.pd d' := State.pd_congr (State.get_congr hobjs _) d'
  have hon := State.domainOn_on (s := s.waitsSla d) ((hpd d).trans hoff) (by rwa [htcxo])
  rw [State.springDomain_of_off n hoff hfits]
  generalize (s.waitsSla d).domainOn d = u at *
  obtain ⟨hpd', hmode', hclk'⟩ := u.domainStarts_frame hsafe Oid.PD_STATE (by decide)
  obtain ⟨hck', -, -⟩ := u.domainStarts_frame hsafe Oid.CK_GOOD (by decide)
  have hpdAll (d' : Domain) : ((u.domainStarts d).springDone n).pd d' = u.pd d' :=
    State.pd_congr ((State.springDone_get _ _ _ (by decide)).trans hpd') d'
  exact ⟨{
    on := (hpdAll d).trans hon.on
    ck := (State.ck_congr ((State.springDone_get _ _ _ (by decide)).trans hck') d).trans hon.ck
    other := fun d' h => (hpdAll d').trans ((hon.other d' h).trans (hpd d'))
    mode := hmode'.trans (hon.mode.trans hmode)
    clk := Nat.le_trans hclk (Nat.le_trans hon.clk (Nat.le_of_eq hclk'.symm)) }, State.springDone_step ..⟩

/-- A step whose domain is on is passed. -/
theorem State.springDomain_passed {s : State} {d : Domain} (n : Nat) (hon : s.pd d = true) :
    (∀ d' : Domain, (s.springDomain n d).pd d' = s.pd d') ∧ (s.springDomain n d).nat Oid.SPRING_STEP = n
      ∧ (s.springDomain n d).mode = s.mode := by
  obtain ⟨hobjs, hmode, -⟩ := s.passesDomain_frame d
  rw [State.springDomain_of_on n hon]
  exact ⟨State.pd_congr ((State.springDone_get _ _ _ (by decide)).trans (State.get_congr hobjs _)), State.springDone_step .., hmode⟩

@[simp] theorem State.pd_reach (s : State) (t : Nat) (d : Domain) : (s.reach t).pd d = s.pd d := State.pd_congr (s.get_reach t _) d

theorem State.unitsOn_reach (s : State) (t : Nat) (d : Domain) : (s.reach t).unitsOn d = s.unitsOn d := by
  cases d <;> simp [State.unitsOn]

theorem State.springMw_reach (s : State) (t : Nat) : (s.reach t).springMw = s.springMw := by
  simp only [State.springMw, State.unitsOn_reach]
  rfl

/-- Whether a domain fits the power account does not hang on the clock. -/
theorem State.fitsUnits_reach (s : State) (t : Nat) (d : Domain) (k : Nat) : (s.reach t).fitsUnits d k = s.fitsUnits d k := by
  have hclassed : acctClassed 0x40 = false := by decide
  have hhead : (s.reach t).headroom 0x40 3 = s.headroom 0x40 3 := by
    simp [State.headroom, hclassed, State.acctCap, State.acctUsed, State.acctExtra, State.acctHealthy, State.acctSize, State.springMw_reach]
  simp only [State.fitsUnits, hhead, State.unitsOn_reach]

/-- The steps of SPRING that switch one domain on, and the domain. -/
def DomainStep (n : Nat) (d : Domain) : Prop :=
  (n = 2 ∧ d = .sla) ∨ (n = 3 ∧ d = .mem) ∨ (n = 7 ∧ d = .ce) ∨ (n = 8 ∧ d = .pos) ∨ (n = 9 ∧ d = .net) ∨ (n = 10 ∧ d = .bus)

theorem DomainStep.ne {n : Nat} {d : Domain} (h : DomainStep n d) : d ≠ .safe ∧ n ≠ 4 ∧ n ≠ 11 := by
  rcases h with ⟨rfl, rfl⟩ | ⟨rfl, rfl⟩ | ⟨rfl, rfl⟩ | ⟨rfl, rfl⟩ | ⟨rfl, rfl⟩ | ⟨rfl, rfl⟩ <;> decide

theorem State.springStep_domain {s : State} {n : Nat} {d : Domain} (h : DomainStep n d) (hon : s.pow.springOn = true) (hrst : s.rst.inReset = false)
    (hmode : s.mode ≠ .frozen) (hstrap : s.rst.strapFault = false) (hboot : s.rst.bootFail = false) (hn : s.nat Oid.SPRING_STEP + 1 = n) :
    s.springStep = (s.reach (s.pow.springT0 + ms (springMs n))).springDomain n d := by
  unfold State.springStep
  simp only
  rw [if_neg (by simp [hon, hrst, hmode, hstrap, hboot]), hn]
  rcases h with ⟨rfl, rfl⟩ | ⟨rfl, rfl⟩ | ⟨rfl, rfl⟩ | ⟨rfl, rfl⟩ | ⟨rfl, rfl⟩ | ⟨rfl, rfl⟩ <;> rfl

/-! ### The commands -/

theorem exec_springStep_stays {s : State} (h : s.start.springStep.nat Oid.SPRING_STEP = s.nat Oid.SPRING_STEP) :
    exec .springStep s = .next s.start.springStep :=
  congrArg Host.Outcome.next (if_pos h)

theorem exec_springStep_moves {s : State} {n : Nat} (hn : s.nat Oid.SPRING_STEP + 1 = n) (h : s.start.springStep.nat Oid.SPRING_STEP = n) :
    exec .springStep s = .next (s.start.springStep.startUpAt n) := by
  have hne : ¬ s.start.springStep.nat Oid.SPRING_STEP = s.start.nat Oid.SPRING_STEP := by
    rw [h, ← hn]
    exact Nat.succ_ne_self _
  refine congrArg Host.Outcome.next ((if_neg hne).trans ?_)
  rw [h]

theorem State.SameDomains.pdAll {s t : State} (h : s.SameDomains t) (d : Domain) : t.pd d = s.pd d := by
  simp [State.pd, State.bit, h.pd]

theorem State.SameDomains.ckAll {s t : State} (h : s.SameDomains t) (d : Domain) : t.ck d = s.ck d := by
  simp [State.ck, State.bit, h.ck]

/-- The bank is measured: its voltage, its capacity and BANK_OK. -/
def State.measuresBank (s : State) (mv capUf : Nat) : State :=
  ((s.setN Oid.BANK_MV mv).setN Oid.BANK_CAP capUf).setFlag Oid.BANK_OK (decide (36000 ≤ mv ∧ 1800 ≤ capUf))

/-- The bank charges below 40 V while a feed is valid. -/
def State.chargesBank (s : State) (mv : Nat) : State :=
  { s with pow := { s.pow with charging := (s.pow.feedA.valid || s.pow.feedB.valid) && decide (mv < 40000) } }

theorem exec_bankMeasure {s : State} (mv capUf : Nat) (h : s.pd .aon = true) :
    exec (.bankMeasure mv capUf) s =
      .next (if capUf < 1800 then ((s.start.measuresBank mv capUf).chargesBank mv).event 0x0220 mv capUf
        else (s.start.measuresBank mv capUf).chargesBank mv) :=
  congrArg Host.Outcome.next (if_pos h)

/-- What a measurement of the bank shows. -/
theorem State.measuredBank_shows (s : State) (mv capUf : Nat) :
    ((s.measuresBank mv capUf).chargesBank mv).nat Oid.BANK_MV = mv ∧ ((s.measuresBank mv capUf).chargesBank mv).nat Oid.BANK_CAP = capUf
      ∧ ((s.measuresBank mv capUf).chargesBank mv).flag Oid.BANK_OK = decide (36000 ≤ mv ∧ 1800 ≤ capUf)
      ∧ ((s.measuresBank mv capUf).chargesBank mv).pow.charging = ((s.pow.feedA.valid || s.pow.feedB.valid) && decide (mv < 40000)) := by
  have hnat (u : State) (k : Key) : (u.chargesBank mv).nat k = u.nat k := rfl
  have hflag (u : State) (k : Key) : (u.chargesBank mv).flag k = u.flag k := rfl
  refine ⟨?_, ?_, ?_, rfl⟩
  · simp [hnat, State.measuresBank]
  · simp [hnat, State.measuresBank]
  · simp [hflag, State.measuresBank]

/-- SPRING no longer waits for the bank. -/
def State.givesUpBank (s : State) : State := { s with pow := { s.pow with bankGiveUp := true } }

theorem exec_bankOkTimeout {s : State} (hon : s.pow.springOn = true) (hgive : s.pow.bankGiveUp = false) (hok : s.flag Oid.BANK_OK = false)
    (hstep : s.nat Oid.SPRING_STEP = 11) :
    exec .bankOkTimeout s = .next ((s.start.reach (s.pow.springT0 + sec 2)).givesUpBank.event 0x0220 (s.nat Oid.BANK_MV) (s.nat Oid.BANK_CAP)) := by
  have hcond : (s.start.pow.springOn && !s.start.pow.bankGiveUp && !s.start.flag Oid.BANK_OK && s.start.nat Oid.SPRING_STEP == 11) = true := by
    have hok' : s.start.flag Oid.BANK_OK = false := hok
    have hstep' : s.start.nat Oid.SPRING_STEP = 11 := hstep
    have hon' : s.start.pow.springOn = true := hon
    have hgive' : s.start.pow.bankGiveUp = false := hgive
    rw [hok', hstep', hon', hgive']
    rfl
  exact congrArg Host.Outcome.next (if_pos hcond)

/-- The group is no longer held. -/
def State.letsGroup (s : State) (g : Nat) : State :=
  { s with pow := { s.pow with heldGroups := s.pow.heldGroups &&& ~~~ BitVec.twoPow 4 g, retryAt := s.clk } }

theorem findHeld {v : BitVec 4} {g : Nat} (h1 : 1 ≤ g) (h3 : g ≤ 3) (hg : v.getLsbD g = true) (hlow : ∀ h : Nat, 1 ≤ h → h < g → v.getLsbD h = false) :
    [1, 2, 3].find? (fun g => v.getLsbD g) = some g := by
  obtain rfl | rfl | rfl : g = 1 ∨ g = 2 ∨ g = 3 := by omega
  · simp [hg]
  · simp [hg, show v[1] = false from hlow 1 (by decide) (by decide)]
  · simp [hg, show v[1] = false from hlow 1 (by decide) (by decide), show v[2] = false from hlow 2 (by decide) (by decide)]

/-- A held group is tried again (R98): the state once it is cool enough, or still too hot. -/
theorem exec_coreGroupRetry {s : State} {g : Nat} (hfind : [1, 2, 3].find? (fun g => s.pow.heldGroups.getLsbD g) = some g) (hup : s.up .app = true) :
    exec .coreGroupRetry s =
      .next (let u := s.start.reach (s.pow.retryAt + sec 1)
        if !u.coolEnough then u.heatWait g
        else if u.pow.springOn && !u.fitsUnits .app 4 then u
        else ((u.letsGroup g).coresOn g).grow 0x20) := by
  have hup' : ¬ (!s.start.up .app) = true := by
    rw [show s.start.up .app = true from hup]
    decide
  have hfind' : [1, 2, 3].find? (fun g => s.start.pow.heldGroups.getLsbD g) = some g := hfind
  change Host.Outcome.next (match [1, 2, 3].find? (fun g => s.start.pow.heldGroups.getLsbD g) with
    | none => s.start
    | some g => _) = _
  rw [hfind']
  exact congrArg Host.Outcome.next (if_neg hup')

/-- A group waits for the die to cool, and the record says so. -/
def State.holdsGroup (s : State) (g : Nat) : State :=
  { s with pow := { s.pow with heldGroups := s.pow.heldGroups ||| BitVec.twoPow 4 g, retryAt := s.clk } }

theorem State.heatWait_eq (s : State) (g : Nat) : s.heatWait g = (s.holdsGroup g).event 0x0230 g (par (s.get Oid.DIE_TEMP)) := rfl

/-- The four cores of a group. -/
def coresOf (g : Nat) : BitVec 16 := 0xF <<< (4 * g)

theorem coresOf_bit {g c : Nat} (hg : g ≤ 3) (hc : c < 4) : (coresOf g).getLsbD (4 * g + c) = true := by
  obtain rfl | rfl | rfl | rfl : g = 0 ∨ g = 1 ∨ g = 2 ∨ g = 3 := by omega
  all_goals
    obtain rfl | rfl | rfl | rfl : c = 0 ∨ c = 1 ∨ c = 2 ∨ c = 3 := by omega
    all_goals decide

/-- A core has work from now on. -/
def State.coreWorks (g : Nat) (s : State) (c : Nat) : State :=
  { s with pow := { s.pow with coreWork := s.pow.coreWork.put 0 (4 * g + c) s.clk } }

/-- The cores of a group have work from now on. -/
def State.coresWork (s : State) (g : Nat) : State := (List.range 4).foldl (State.coreWorks g) s

/-- The cores of a group are in service and awake. -/
def State.coresServe (s : State) (g : Nat) : State :=
  { s with pow := { s.pow with awake := s.pow.awake ||| coresOf g, inService := s.pow.inService ||| coresOf g } }

theorem State.coresOn_eq (s : State) (g : Nat) :
    s.coresOn g = (((s.coresWork g).coresServe g).setN Oid.APP_CORES_ON ((s.coresWork g).coresServe g).pow.awake.toNat).domainOn .app := by
  unfold State.coresOn State.coresWork State.coreWorks State.coresServe coresOf
  with_reducible rfl

theorem State.coresWork_frame (s : State) (g : Nat) :
    (s.coresWork g).objs = s.objs ∧ (s.coresWork g).clk = s.clk ∧ (s.coresWork g).pow.heldGroups = s.pow.heldGroups
      ∧ (s.coresWork g).pow.awake = s.pow.awake ∧ (s.coresWork g).pow.inService = s.pow.inService :=
  have keeps {β : Type} (F : State → β) (h : ∀ (u : State) c, F (u.coreWorks g c) = F u) : F (s.coresWork g) = F s := State.foldl_keeps F h _ s
  ⟨keeps _ fun _ _ => rfl, keeps _ fun _ _ => rfl, keeps (·.pow.heldGroups) fun _ _ => rfl, keeps (·.pow.awake) fun _ _ => rfl,
    keeps (·.pow.inService) fun _ _ => rfl⟩

theorem State.domainOn_of_on {s : State} {d : Domain} (h : s.pd d = true) : s.domainOn d = s := if_pos h

/-- The cores of a group come on in a domain that is on. -/
theorem State.coresOn_frame (s : State) (g : Nat) (hon : s.pd .app = true) :
    (s.coresOn g).pow.heldGroups = s.pow.heldGroups ∧ (s.coresOn g).pow.awake = s.pow.awake ||| coresOf g
      ∧ (s.coresOn g).pow.inService = s.pow.inService ||| coresOf g ∧ (s.coresOn g).clk = s.clk := by
  obtain ⟨hobjs, hclk, hheld, hawake, hserve⟩ := s.coresWork_frame g
  rw [s.coresOn_eq]
  generalize s.coresWork g = u at *
  have hpd : ((u.coresServe g).setN Oid.APP_CORES_ON (u.coresServe g).pow.awake.toNat).pd .app = true := by
    rw [State.pd_setN _ _ _ _ (by decide)]
    exact (State.pd_congr (State.get_congr hobjs _) _).trans hon
  rw [State.domainOn_of_on hpd]
  exact ⟨hheld, congrArg (· ||| coresOf g) hawake, congrArg (· ||| coresOf g) hserve, hclk⟩

theorem State.pd_of_up {s : State} {d : Domain} (h : s.up d = true) : s.pd d = true := by
  simp only [State.up, Bool.and_eq_true] at h
  exact h.1.1

/-- Settles O13: a domain's step switches it on, waits or passes; the bank, its timeout and the held core groups follow their rules. -/
theorem spring : Obligations.Spring := by
  unfold Obligations.Spring
  intro s hroom
  refine ⟨fun n d hd hon hrst hmode hstrap hboot hn => ?_, fun mv capUf haon => ?_, fun hon hgive hok hstep => ?_, fun g h1 h3 hg hlow hup => ?_⟩
  · obtain ⟨hsafe, h4, h11⟩ := DomainStep.ne hd
    have heq := State.springStep_domain (s := s.start) hd hon hrst hmode hstrap hboot hn
    refine ⟨fun hoff hfits hclock => ?_, fun hoff hfull => ?_, fun hdom => ?_⟩
    · obtain ⟨hon', hstep'⟩ := State.springDomain_on (s := s.start.reach (s.start.pow.springT0 + ms (springMs n))) n hsafe
        ((State.pd_reach ..).trans hoff) ((State.fitsUnits_reach ..).trans hfits) hclock
      rw [← heq] at hon' hstep'
      have hsame := s.start.springStep.startUpAt_sameDomains n h4 h11
      have hother (d' : Domain) (h : d' ≠ d) : s.start.springStep.pd d' = s.pd d' := (hon'.other d' h).trans (State.pd_reach ..)
      refine ⟨_, exec_springStep_moves hn hstep', (hsame.pdAll d).trans hon'.on, (hsame.ckAll d).trans hon'.ck, hsame.step.trans hstep', ?_,
        fun d' h => (hsame.pdAll d').trans (hother d' h), hsame.mode.trans hon'.mode⟩
      have hreach := s.start.le_reach_clk (s.start.pow.springT0 + ms (springMs n))
      have hclk := Nat.le_trans hreach (Nat.le_trans hon'.clk hsame.clk)
      rw [Nat.mul_comm]
      exact hclk
    · have hwait := State.springDomain_of_full (s := s.start.reach (s.start.pow.springT0 + ms (springMs n))) n
        ((State.pd_reach ..).trans hoff) ((State.fitsUnits_reach ..).trans hfull)
      rw [← heq] at hwait
      refine ⟨_, exec_springStep_stays ?_, ?_, ?_, ?_⟩
      all_goals rw [hwait]
      · exact State.nat_congr (State.reach_objs ..) _
      · exact State.reach_objs ..
      · exact State.reach_pow ..
      · exact State.reach_mode ..
    · obtain ⟨hpd, hstep', hmode'⟩ := State.springDomain_passed (s := s.start.reach (s.start.pow.springT0 + ms (springMs n))) (d := d) n
        ((State.pd_reach ..).trans hdom)
      rw [← heq] at hpd hstep' hmode'
      have hsame := s.start.springStep.startUpAt_sameDomains n h4 h11
      exact ⟨_, exec_springStep_moves hn hstep', hsame.step.trans hstep', fun d' => (hsame.pdAll d').trans ((hpd d').trans (State.pd_reach ..)),
        hsame.mode.trans hmode'⟩
  · have hwait : ((s.start.measuresBank mv capUf).chargesBank mv).rcd.waitingCount < 32768 := by
      have : ((s.start.measuresBank mv capUf).chargesBank mv).rcd = s.rcd := rfl
      rw [this]
      omega
    obtain ⟨hmv, hcap, hok, hcharge⟩ := s.start.measuredBank_shows mv capUf
    refine ⟨_, exec_bankMeasure mv capUf haon, ?_⟩
    generalize (s.start.measuresBank mv capUf).chargesBank mv = u at *
    split
    · refine ⟨(State.nat_event _ _ _ _ _ _ (by decide)).trans hmv, (State.nat_event _ _ _ _ _ _ (by decide)).trans hcap,
        (State.flag_event _ _ _ _ _ _ (by decide)).trans hok, ?_, fun _ => State.event_recorded _ _ _ _ _ hwait⟩
      rw [State.event_pow]
      exact hcharge
    · next hhigh => exact ⟨hmv, hcap, hok, hcharge, fun h => absurd h hhigh⟩
  · have hwait : (s.start.reach (s.pow.springT0 + sec 2)).givesUpBank.rcd.waitingCount < 32768 := by
      have : (s.start.reach (s.pow.springT0 + sec 2)).givesUpBank.rcd = s.rcd := rfl
      rw [this]
      omega
    refine ⟨_, exec_bankOkTimeout hon hgive hok hstep, ?_, ?_, State.event_recorded _ _ _ _ _ hwait⟩
    · exact (State.event_pow ..).trans rfl
    · rw [State.event_clk]
      exact s.start.le_reach_clk (s.pow.springT0 + sec 2)
  · have hfind := findHeld h1 h3 hg hlow
    have hexec := exec_coreGroupRetry hfind hup
    have hpd : (s.start.reach (s.pow.retryAt + sec 1)).pd .app = true := (State.pd_reach ..).trans (State.pd_of_up hup)
    rw [hexec]
    have hu : (s.start.reach (s.pow.retryAt + sec 1)).pow = s.pow := State.reach_pow ..
    have hrcd : (s.start.reach (s.pow.retryAt + sec 1)).rcd = s.rcd := State.reach_rcd ..
    have hdie : (s.start.reach (s.pow.retryAt + sec 1)).get Oid.DIE_TEMP = s.get Oid.DIE_TEMP := State.get_reach ..
    have hclk : s.pow.retryAt + 1000000000 ≤ (s.start.reach (s.pow.retryAt + sec 1)).clk := s.start.le_reach_clk (s.pow.retryAt + sec 1)
    generalize s.start.reach (s.pow.retryAt + sec 1) = u at *
    refine ⟨fun hcool hoff => ?_, fun hhot => ?_⟩
    · have hcool' : ¬ (!u.coolEnough) = true := by simp [State.coolEnough, hdie, hcool]
      have hspring : ¬ (u.pow.springOn && !u.fitsUnits .app 4) = true := by simp [hu, hoff]
      obtain ⟨hheld, hawake, hserve, hclk'⟩ := (u.letsGroup g).coresOn_frame g hpd
      refine ⟨_, congrArg Host.Outcome.next ((if_neg hcool').trans (if_neg hspring)), ?_, ?_, fun c hc => ⟨?_, ?_⟩⟩
      · rw [State.grow_pow, hheld]
        simp [State.letsGroup]
      · rw [State.grow_clk, hclk']
        exact hclk
      · rw [State.grow_pow, hawake, BitVec.getLsbD_or, coresOf_bit h3 hc, Bool.or_true]
      · rw [State.grow_pow, hserve, BitVec.getLsbD_or, coresOf_bit h3 hc, Bool.or_true]
    · have hhot' : (!u.coolEnough) = true := by simp [State.coolEnough, hdie, hhot]
      have hpow : (u.heatWait g).pow = (u.holdsGroup g).pow := State.event_pow ..
      refine ⟨_, congrArg Host.Outcome.next (if_pos hhot'), ?_, ?_, ?_, ?_⟩
      · rw [hpow]
        simp [State.holdsGroup]
        omega
      · rw [hpow, ← hu]
        rfl
      · rw [hpow, ← hu]
        rfl
      · rw [← hdie, u.heatWait_eq]
        refine State.event_recorded _ _ _ _ _ ?_
        have : (u.holdsGroup g).rcd = s.rcd := hrcd
        rw [this]
        omega

end Sys2Proof.Machine
end

section
/-! ### Application cores and clocks (R81, R82, R87 to R90, R126) -/

namespace Sys2Proof.Machine

theorem State.bit_congr {s t : State} {k : Key} (h : t.get k = s.get k) (i : Nat) : t.bit k i = s.bit k i := by
  simp [State.bit, State.nat, h]

/-! ### Blocks in reset (R126) -/

/-- The time at which a block goes into reset. -/
def State.notesBlock (s : State) (b : Nat) : State := { s with rst := { s.rst with blockAt := s.rst.blockAt.put 0 b s.clk } }

theorem State.notesBlock_get (s : State) (b : Nat) (k : Key) : (s.notesBlock b).get k = s.get k := rfl

/-- A block goes into reset: its bit, and the time. -/
def State.blockHeld (s : State) (b : Nat) : State := ((s.setBit Oid.BLOCK_IN_RST b true).setBit Oid.RST_PEND b false).notesBlock b

theorem State.blockAssert_eq (s : State) (b cause : Nat) :
    s.blockAssert b cause =
      if s.bit Oid.BLOCK_IN_RST b then s.setBit Oid.RST_PEND b false else ((s.blockHeld b).blockEnter b).event 0x0105 b cause := by
  unfold State.blockAssert State.blockHeld State.notesBlock
  with_reducible rfl

theorem State.blockHeld_get (s : State) (b : Nat) (k : Key) (h : k.oid ≠ Oid.RST_PEND.oid) :
    (s.blockHeld b).get k = (s.setBit Oid.BLOCK_IN_RST b true).get k :=
  (State.notesBlock_get ..).trans (State.get_setBit_other _ _ _ _ _ h.symm)

/-- A block put into reset changes no register that its own reset leaves. -/
theorem State.blockAssert_get (s : State) (b cause : Nat) (k : Key) (hin : k.oid ≠ Oid.BLOCK_IN_RST.oid) (hpend : k.oid ≠ Oid.RST_PEND.oid)
    (hdrop : k.oid ≠ Oid.REC_DROPPED.oid) (henter : ∀ u : State, (u.blockEnter b).get k = u.get k) : (s.blockAssert b cause).get k = s.get k := by
  rw [s.blockAssert_eq]
  split
  · exact State.get_setBit_other _ _ _ _ _ hpend.symm
  · rw [State.get_event _ _ _ _ _ _ hdrop.symm, henter, s.blockHeld_get _ _ hpend, State.get_setBit_other _ _ _ _ _ hin.symm]

theorem State.blockAssert_bit (s : State) (b cause j : Nat) :
    (s.blockAssert b cause).bit Oid.BLOCK_IN_RST j = (decide (j = b) || s.bit Oid.BLOCK_IN_RST j) := by
  have hbit : (s.setBit Oid.BLOCK_IN_RST b true).bit Oid.BLOCK_IN_RST j = (decide (j = b) || s.bit Oid.BLOCK_IN_RST j) := by
    rw [State.bit_setBit]
    by_cases h : j = b <;> simp [h]
  rw [s.blockAssert_eq]
  split
  · next hin =>
    rw [State.bit_setBit_ne _ _ _ _ _ _ (by decide)]
    by_cases h : j = b
    · subst h
      simp [hin]
    · simp [h]
  · refine Eq.trans (State.bit_congr ?_ j) hbit
    rw [State.get_event _ _ _ _ _ _ (by decide), State.blockEnter_get_BLOCK_IN_RST, s.blockHeld_get _ _ (by decide)]

/-- The blocks of a domain whose clock goes. -/
def State.blockFalls (d : Domain) (s : State) (b : Nat) : State := if blockDomain b = d ∧ d ≠ .aon then s.blockAssert b 1 else s

theorem State.blockFalls_bit (s : State) (d : Domain) (b j : Nat) (hd : d ≠ .aon) :
    (s.blockFalls d b).bit Oid.BLOCK_IN_RST j = (decide (j = b ∧ blockDomain b = d) || s.bit Oid.BLOCK_IN_RST j) := by
  unfold State.blockFalls
  by_cases h : blockDomain b = d
  · rw [if_pos ⟨h, hd⟩, s.blockAssert_bit]
    simp [h]
  · rw [if_neg fun hc => h hc.1]
    simp [h]

theorem State.blocksFall_bit (d : Domain) (hd : d ≠ .aon) (l : List Nat) (s : State) (j : Nat) :
    (l.foldl (State.blockFalls d) s).bit Oid.BLOCK_IN_RST j = (decide (j ∈ l ∧ blockDomain j = d) || s.bit Oid.BLOCK_IN_RST j) := by
  induction l generalizing s with
  | nil => simp
  | cons b l ih =>
    rw [List.foldl_cons, ih, s.blockFalls_bit d b j hd]
    by_cases h : j = b
    · subst h
      by_cases hj : blockDomain j = d <;> simp [hj]
    · simp [h]

/-! ### A clock is lost (R87, R88) -/

/-- The clock of a domain is no longer good, and the record says so. -/
def State.clockBad (s : State) (d : Domain) (cause : Bool) : State := (s.setBit Oid.CK_GOOD (domBit d) false).eventAon 0x0301 (domBit d) (boolNat cause)

/-- The faults that follow the loss of a clock. -/
def State.clockFaults (s : State) (d : Domain) : State :=
  let s := if d = .sla then s.slaFault 1 else s
  if d = .ce then s.loopsRestart else s

theorem State.clockGone_eq (s : State) (d : Domain) (cause : Bool) :
    s.clockGone d cause = ((List.range 64).foldl (State.blockFalls d) (s.clockBad d cause)).clockFaults d := by
  unfold State.clockGone State.clockBad State.clockFaults State.blockFalls
  with_reducible rfl

theorem State.clockFaults_get (s : State) (d : Domain) (k : Key) (hsla : ∀ u : State, (u.slaFault 1).get k = u.get k) (hloops : ∀ u : State, u.loopsRestart.get k = u.get k) :
    (s.clockFaults d).get k = s.get k := by
  unfold State.clockFaults
  simp only [State.get_ite, hloops, hsla, ite_self]

theorem State.blocksFall_get (d : Domain) (l : List Nat) (s : State) (k : Key) (h : ∀ (u : State) b, (u.blockAssert b 1).get k = u.get k) :
    (l.foldl (State.blockFalls d) s).get k = s.get k :=
  State.foldl_get k (fun u b => by
    unfold State.blockFalls
    rw [State.get_ite, h, ite_self]) l s

theorem State.clockGone_good (s : State) (d : Domain) (cause : Bool) :
    (s.clockGone d cause).get Oid.CK_GOOD = (s.setBit Oid.CK_GOOD (domBit d) false).get Oid.CK_GOOD := by
  rw [s.clockGone_eq, State.clockFaults_get _ _ _ (fun u => u.slaFault_get_CK_GOOD 1) State.loopsRestart_get_CK_GOOD, State.blocksFall_get]
  · exact State.get_eventAon ..
  · exact fun u b => u.blockAssert_get _ _ _ (by decide) (by decide) (by decide) (fun u => u.blockEnter_get_CK_GOOD b)

theorem State.clockGone_pd (s : State) (d : Domain) (cause : Bool) : (s.clockGone d cause).get Oid.PD_STATE = s.get Oid.PD_STATE := by
  rw [s.clockGone_eq, State.clockFaults_get _ _ _ (fun u => u.slaFault_get_PD_STATE 1) State.loopsRestart_get_PD_STATE, State.blocksFall_get]
  · exact (State.get_eventAon ..).trans (State.get_setBit_other _ _ _ _ _ (by decide))
  · exact fun u b => u.blockAssert_get _ _ _ (by decide) (by decide) (by decide) (fun u => u.blockEnter_get_PD_STATE b)

theorem State.clockGone_blocks (s : State) {d : Domain} (cause : Bool) (hd : d ≠ .aon) {b : Nat} (hb : b < 64) (h : blockDomain b = d) :
    (s.clockGone d cause).bit Oid.BLOCK_IN_RST b = true := by
  rw [s.clockGone_eq, State.bit_congr (State.clockFaults_get _ _ _ (fun u => u.slaFault_get_BLOCK_IN_RST 1) State.loopsRestart_get_BLOCK_IN_RST), State.blocksFall_bit d hd]
  simp [hb, h]

theorem State.clockGone_recorded (s : State) (d : Domain) (cause : Bool) : (s.clockGone d cause).Recorded 0x0301 0xFFFF (domBit d) (boolNat cause) 0 := by
  have hbad : (s.clockBad d cause).Recorded 0x0301 0xFFFF (domBit d) (boolNat cause) 0 := State.eventAon_recorded ..
  have hfalls : (s.clockBad d cause).KeepsRecords ((List.range 64).foldl (State.blockFalls d) (s.clockBad d cause)) :=
    .foldl (fun u b => .ite (u.blockAssert_records b 1) (.refl u)) _ _
  have hfaults (u : State) : u.KeepsRecords (u.clockFaults d) :=
    .ite (.after (State.loopsRestart_records ..) (.ite (u.slaFault_records 1) (.refl u))) (.ite (u.slaFault_records 1) (.refl u))
  rw [s.clockGone_eq]
  exact (hfalls.trans (hfaults _)).recorded hbad

theorem State.clockGone_ck (s : State) (d d' : Domain) (cause : Bool) : (s.clockGone d cause).ck d' = if d' = d then false else s.ck d' := by
  refine (State.bit_congr (s.clockGone_good d cause) _).trans ?_
  rw [State.bit_setBit]
  by_cases h : d' = d
  · rw [if_pos h, if_pos (congrArg domBit h)]
  · rw [if_neg h, if_neg fun e => h (domBit_inj e)]
    rfl

/-- The loss of a clock outside PD-AON, with the release that it asks for (R88, R126). -/
theorem State.clockLost_get (s : State) (d : Domain) (cause : Bool) (k : Key) (h : k.oid ≠ Oid.REC_DROPPED.oid) (hsf : ∀ n, (Oid.SF_STATE n).oid ≠ k.oid) :
    (s.clockLost d cause).get k = (s.clockGone d cause).get k := by
  unfold State.clockLost
  rw [State.setAllSwitches_get _ k hsf, State.releaseIfHealthy, State.get_ite, State.release_get _ _ k h, ite_self]

/-! ### The TCXO is lost (R87) -/

/-- A PLL domain loses its clock with the TCXO. -/
def State.pllFails (s : State) (d : Domain) : State := if s.pd d && s.ck d then s.clockGone d false else s

theorem State.pllFails_pd (s : State) (d d' : Domain) : (s.pllFails d).pd d' = s.pd d' := by
  unfold State.pllFails
  split
  · exact State.pd_congr (s.clockGone_pd d false) d'
  · rfl

theorem State.pllFails_ck (s : State) (d d' : Domain) : (s.pllFails d).ck d' = (s.ck d' && !(decide (d' = d) && s.pd d)) := by
  unfold State.pllFails
  split
  · next h =>
    simp only [Bool.and_eq_true] at h
    rw [s.clockGone_ck]
    by_cases hd : d' = d <;> simp [hd, h.1]
  · next h =>
    by_cases hd : d' = d
    · subst hd
      cases hp : s.pd d' <;> simp_all
    · simp [hd]

theorem State.pllFails_records (s : State) (d : Domain) : s.KeepsRecords (s.pllFails d) := .ite (s.clockGone_records d false) (.refl s)

theorem State.pllsFail_pd (l : List Domain) (s : State) (d : Domain) : (l.foldl State.pllFails s).pd d = s.pd d :=
  State.foldl_keeps (fun s => s.pd d) (fun u d' => u.pllFails_pd d' d) l s

theorem State.pllsFail_ck (l : List Domain) (s : State) (d : Domain) : (l.foldl State.pllFails s).ck d = (s.ck d && !(decide (d ∈ l) && s.pd d)) := by
  induction l generalizing s with
  | nil => simp
  | cons a l ih =>
    rw [List.foldl_cons, ih, s.pllFails_ck, s.pllFails_pd]
    by_cases h : d = a
    · subst h
      cases s.ck d <;> cases s.pd d <;> simp
    · simp [h]

theorem State.pllsFail_recorded (l : List Domain) (s : State) {d : Domain} (hmem : d ∈ l) (hpd : s.pd d = true) (hck : s.ck d = true) :
    (l.foldl State.pllFails s).Recorded 0x0301 0xFFFF (domBit d) 0 0 := by
  induction l generalizing s with
  | nil => exact absurd hmem List.not_mem_nil
  | cons a l ih =>
    have hkeep (u : State) : u.KeepsRecords (l.foldl State.pllFails u) := .foldl (fun u b => u.pllFails_records b) _ _
    rw [List.foldl_cons]
    by_cases h : d = a
    · subst h
      refine (hkeep _).recorded ?_
      unfold State.pllFails
      rw [if_pos (by simp [hpd, hck])]
      exact s.clockGone_recorded d false
    · refine ih _ ((List.mem_cons.1 hmem).resolve_left h) ((s.pllFails_pd a d).trans hpd) ?_
      rw [s.pllFails_ck, hck]
      simp [h]

/-- The TCXO does not run. -/
def State.stopsTcxo (s : State) : State := { s with pow := { s.pow with tcxo := false } }

theorem State.tcxoLost_eq (s : State) : s.tcxoLost = (pllDomains.foldl State.pllFails s.stopsTcxo).setAllSwitches := by
  unfold State.tcxoLost State.stopsTcxo State.pllFails
  with_reducible rfl

theorem sf_ne {k : Key} (h : k.oid < 0x70010000) (n : Nat) : (Oid.SF_STATE n).oid ≠ k.oid := by
  simp
  omega

theorem State.tcxoLost_pd (s : State) (d : Domain) : s.tcxoLost.pd d = s.pd d := by
  rw [s.tcxoLost_eq]
  exact (State.pd_congr (State.setAllSwitches_get _ _ (sf_ne (by decide))) d).trans (State.pllsFail_pd ..)

theorem State.tcxoLost_ck (s : State) (d : Domain) : s.tcxoLost.ck d = (s.ck d && !(decide (d ∈ pllDomains) && s.pd d)) := by
  rw [s.tcxoLost_eq]
  exact (State.ck_congr (State.setAllSwitches_get _ _ (sf_ne (by decide))) d).trans (State.pllsFail_ck ..)

theorem State.tcxoLost_recorded (s : State) {d : Domain} (hmem : d ∈ pllDomains) (hpd : s.pd d = true) (hck : s.ck d = true) :
    s.tcxoLost.Recorded 0x0301 0xFFFF (domBit d) 0 0 := by
  rw [s.tcxoLost_eq]
  exact State.Recorded.congr (State.pllsFail_recorded pllDomains s.stopsTcxo hmem hpd hck) (State.setAllSwitches_rcd ..)

theorem State.tcxoLost_tcxo (s : State) : s.tcxoLost.pow.tcxo = false := by
  have hstep (u : State) (d : Domain) : (u.pllFails d).pow = u.pow := by
    unfold State.pllFails
    split
    · exact State.clockGone_pow ..
    · rfl
  rw [s.tcxoLost_eq, State.setAllSwitches_pow, State.foldl_pow hstep]
  rfl

/-! ### A clock is good again (R89) -/

/-- The clock of a domain is good, and the record says so. -/
def State.clockFine (s : State) (d : Domain) : State := (s.setBit Oid.CK_GOOD (domBit d) true).eventAon 0x0302 (domBit d)

/-- A block of a domain whose clock is good leaves reset where it may. -/
def State.blockRises (d : Domain) (s : State) (b : Nat) : State := if blockDomain b = d then s.blockRelease b else s

theorem State.clockBack_eq (s : State) (d : Domain) : s.clockBack d = (List.range 64).foldl (State.blockRises d) (s.clockFine d) := by
  unfold State.clockBack State.clockFine State.blockRises
  with_reducible rfl

theorem State.clockBack_ck (s : State) (d : Domain) : (s.clockBack d).ck d = true := by
  have hstep (u : State) (b : Nat) : (u.blockRises d b).get Oid.CK_GOOD = u.get Oid.CK_GOOD := by
    rw [State.blockRises, State.get_ite, State.blockRelease_get_CK_GOOD, ite_self]
  rw [s.clockBack_eq, State.ck_congr (State.foldl_get _ hstep _ _), State.ck, State.clockFine, State.bit_eventAon, State.bit_setBit, if_pos rfl]

theorem State.clockBack_recorded (s : State) (d : Domain) : (s.clockBack d).Recorded 0x0302 0xFFFF (domBit d) 0 0 := by
  have hfine : (s.clockFine d).Recorded 0x0302 0xFFFF (domBit d) 0 0 := State.eventAon_recorded ..
  have hrise : (s.clockFine d).KeepsRecords ((List.range 64).foldl (State.blockRises d) (s.clockFine d)) :=
    .foldl (fun u b => .ite (u.blockRelease_records b) (.refl u)) _ _
  rw [s.clockBack_eq]
  exact hrise.recorded hfine

/-! ### The commands -/

/-- A core sleeps. -/
def State.coreSleeps (s : State) (core : Fin 16) : State := { s with pow := { s.pow with awake := s.pow.awake &&& ~~~ BitVec.twoPow 16 core } }

theorem exec_coreSleep {s : State} {core : Fin 16} (hup : s.up .app = true) (hawake : s.pow.awake.getLsbD core.val = true) :
    exec (.coreSleep core) s =
      .next (if s.nat Oid.APP_MIN_AWAKE < popCount s.pow.awake.toNat 16 then
        (((s.start.reach (Tbl.get 0 s.pow.coreWork core + us (s.nat Oid.APP_SLEEP_DELAY))).coreSleeps core).setN Oid.APP_CORES_ON
          (s.pow.awake &&& ~~~ BitVec.twoPow 16 core.val).toNat) else s.start) := by
  have hcond : (s.start.up .app && s.start.pow.awake.getLsbD core && decide (s.start.nat Oid.APP_MIN_AWAKE < popCount s.start.pow.awake.toNat 16))
      = decide (s.nat Oid.APP_MIN_AWAKE < popCount s.pow.awake.toNat 16) := by
    rw [show s.start.up .app = true from hup, show s.start.pow.awake.getLsbD core = true from hawake]
    rfl
  refine congrArg Host.Outcome.next ?_
  rw [hcond]
  by_cases h : s.nat Oid.APP_MIN_AWAKE < popCount s.pow.awake.toNat 16
  · simp only [h, decide_true, if_true]
    rfl
  · simp only [h, decide_false, if_false]
    rfl

/-- A core wakes with work to do. -/
def State.coreWakes (s : State) (core : Fin 16) : State :=
  { s with pow := { s.pow with awake := s.pow.awake ||| BitVec.twoPow 16 core, coreWork := s.pow.coreWork.put 0 core s.clk } }

theorem exec_coreWake {s : State} {core : Fin 16} (ev : WakeEvent) (hup : s.up .app = true) (hserve : s.pow.inService.getLsbD core.val = true) :
    exec (.coreWake core ev) s = .next ((s.start.coreWakes core).setN Oid.APP_CORES_ON (s.start.coreWakes core).pow.awake.toNat) := by
  have hcond : (s.start.up .app && s.start.pow.inService.getLsbD core) = true := by
    rw [show s.start.up .app = true from hup, show s.start.pow.inService.getLsbD core = true from hserve]
    rfl
  exact congrArg Host.Outcome.next (if_pos hcond)

theorem exec_clockLost {s : State} {dom : Domain} {cause : Bool} (haon : dom ≠ .aon) (hsla : dom ≠ .sla ∨ cause = true) (hpd : s.pd dom = true)
    (hck : s.ck dom = true) : exec (.clockLost dom cause) s = .next (s.start.clockLost dom cause) := by
  have hcond : (s.start.pd dom && s.start.ck dom && (dom != .sla || cause)) = true := by
    have hs : (dom != .sla || cause) = true := by rcases hsla with h | h <;> simp [h]
    rw [hs, show s.start.pd dom = true from hpd, show s.start.ck dom = true from hck]
    rfl
  exact congrArg Host.Outcome.next ((if_neg haon).trans (if_pos hcond))

theorem exec_clockLost_aon {s : State} (cause : Bool) (hpd : s.pd .aon = true) (htcxo : s.pow.tcxo = true) :
    exec (.clockLost .aon cause) s = .next s.start.tcxoLost := by
  have hcond : (s.start.pd .aon && s.start.pow.tcxo) = true := by
    rw [show s.start.pd .aon = true from hpd, show s.start.pow.tcxo = true from htcxo]
    rfl
  exact congrArg Host.Outcome.next ((if_pos rfl).trans (if_pos hcond))

theorem exec_clockRestored {s : State} {dom : Domain} (haon : dom ≠ .aon) (hpd : s.pd dom = true) (hck : s.ck dom = false)
    (hsrc : dom = .sla ∨ s.pow.tcxo = true) : exec (.clockRestored dom) s = .next (s.start.clockBack dom).setAllSwitches := by
  have hcond : (s.start.pd dom && !s.start.ck dom && (dom = .sla || s.start.pow.tcxo)) = true := by
    have hs : (decide (dom = .sla) || s.pow.tcxo) = true := by rcases hsrc with h | h <;> simp [h]
    rw [show s.start.pd dom = true from hpd, show s.start.ck dom = false from hck, show s.start.pow.tcxo = s.pow.tcxo from rfl, hs]
    rfl
  exact congrArg Host.Outcome.next ((if_neg haon).trans (if_pos hcond))

/-- CK-AON comes from the burst oscillator, or no longer. -/
def State.aonFalls (s : State) (good : Bool) : State := { s with pow := { s.pow with aonFallback := !good } }

theorem exec_aonFallback {s : State} {good : Bool} (hpd : s.pd .aon = true) (hnow : s.pow.aonFallback = good) :
    exec (.aonFallback good) s = .next (((s.start.aonFalls good).setBit Oid.CK_GOOD 0 good).event 0x0303 (boolNat (!good))) := by
  have hcond : (s.start.pd .aon && s.start.pow.aonFallback == good) = true := by
    rw [show s.start.pd .aon = true from hpd, show s.start.pow.aonFallback = good from hnow]
    simp
  exact congrArg Host.Outcome.next (if_pos hcond)

/-- Settles O14: cores sleep and wake, clocks are lost and come back, CK-AON falls back. -/
theorem coresAndClocks : Obligations.CoresAndClocks := by
  unfold Obligations.CoresAndClocks
  intro s hroom
  refine ⟨fun core hup hawake => ⟨fun hmore => ?_, fun hfew => ?_⟩, fun core ev hup hserve => ?_, fun dom cause haon hsla hpd hck => ?_,
    fun cause hpd htcxo => ?_, fun dom haon hpd hck hsrc => ?_, fun good hpd hnow => ?_⟩
  · have hclk := s.start.le_reach_clk (Tbl.get 0 s.pow.coreWork core + us (s.nat Oid.APP_SLEEP_DELAY))
    refine ⟨_, (exec_coreSleep hup hawake).trans (congrArg _ (if_pos hmore)), rfl, State.nat_setN_same .., ?_, fun k hk => ?_, rfl⟩
    · rw [Nat.mul_comm 1000]
      exact hclk
    · exact State.get_setN_other _ _ _ _ hk.symm
  · exact (exec_coreSleep hup hawake).trans (congrArg _ (if_neg (by omega)))
  · refine ⟨_, exec_coreWake ev hup hserve, ?_, State.nat_setN_same .., fun k hk => State.get_setN_other _ _ _ _ hk.symm, rfl⟩
    simp [State.coreWakes]
  · have hget (k : Key) (h : k.oid ≠ Oid.REC_DROPPED.oid) (hlow : k.oid < 0x70010000) :
        (s.start.clockLost dom cause).get k = (s.start.clockGone dom cause).get k := s.start.clockLost_get dom cause k h (sf_ne hlow)
    refine ⟨_, exec_clockLost haon hsla hpd hck, ?_, fun b hb hdom => ?_, ?_⟩
    · rw [State.ck_congr (hget _ (by decide) (by decide)), State.clockGone_ck, if_pos rfl]
    · rw [State.bit_congr (hget _ (by decide) (by decide))]
      exact s.start.clockGone_blocks cause haon hb hdom
    · have hkeep : (s.start.clockGone dom cause).KeepsRecords (s.start.clockLost dom cause) :=
        .after (.of_rcd (State.setAllSwitches_rcd _)) (State.releaseIfHealthy_records ..)
      exact hkeep.recorded (s.start.clockGone_recorded dom cause)
  · refine ⟨_, exec_clockLost_aon cause hpd htcxo, s.start.tcxoLost_tcxo, fun d hmem hd => ?_, s.start.tcxoLost_pd, ?_,
      fun d hmem hd hc => s.start.tcxoLost_recorded hmem hd hc⟩
    · rw [State.tcxoLost_ck, show s.start.pd d = true from hd]
      simp [hmem]
    · rw [State.tcxoLost_ck]
      simp [pllDomains]
      rfl
  · refine ⟨_, exec_clockRestored haon hpd hck hsrc, ?_, ?_⟩
    · exact (State.ck_congr (State.setAllSwitches_get _ _ (sf_ne (by decide))) dom).trans (s.start.clockBack_ck dom)
    · exact (s.start.clockBack_recorded dom).congr (State.setAllSwitches_rcd ..)
  · refine ⟨_, exec_aonFallback hpd hnow, ?_, ?_, State.event_recorded _ _ _ _ _ ?_⟩
    · exact (State.event_pow ..).trans rfl
    · rw [State.bit_event _ _ _ _ _ _ _ (by decide), State.bit_setBit, if_pos rfl]
    · have : ((s.start.aonFalls good).setBit Oid.CK_GOOD 0 good).rcd = s.rcd := rfl
      rw [this]
      omega

end Sys2Proof.Machine
end

section
/-! ### The die temperature (R114, R663, R675) -/

namespace Sys2Proof.Machine

/-! ### A source is asserted (R112, R113) -/

/-- A source asserted while nothing stands against it resets the module at once, unless the module drives. -/
theorem State.assertSource_resets {s : State} (b : Nat) (hautumn : s.pow.autumn ≠ .running) (hfrozen : s.mode ≠ .frozen) (hactive : s.mode ≠ .active)
    (hpend : s.rst.pendingRel = none) : s.assertSource b = s.doReset b := by
  have hgo : ¬ ((s.pow.autumn == .running || s.mode == .frozen) = true) := by simp [hautumn, hfrozen]
  have hdrive : ¬ ((s.mode == .active && s.tw.activeOut) = true) := by simp [hactive]
  unfold State.assertSource
  rw [if_neg hgo, hpend]
  exact if_neg hdrive

/-! ### The die temperature (R675) -/

theorem State.dieTemp_of_mild {s : State} {x : Int} (h : x < 1050) : s.dieTemp x = (s.heatFollows x).notHot := by
  rw [s.dieTemp_eq, if_pos h]

/-- A reading changes the mode in nothing, and of the reset control the time since when the die is cool. -/
theorem State.heatFollows_frame (s : State) (x : Int) :
    (s.heatFollows x).mode = s.mode ∧ (s.heatFollows x).rst.coolSince = if x < 1000 then some (s.rst.coolSince.getD s.clk) else none := by
  have hset : ((s.set Oid.DIE_TEMP x).notesCool x).mode = s.mode
      ∧ ((s.set Oid.DIE_TEMP x).notesCool x).rst.coolSince = if x < 1000 then some (s.rst.coolSince.getD s.clk) else none := ⟨rfl, rfl⟩
  unfold State.heatFollows
  generalize (s.set Oid.DIE_TEMP x).notesCool x = u at *
  simp only
  split
  · rw [State.shrink_mode, State.shrink_rst]
    exact hset
  · split
    · rw [State.grow_mode, State.grow_rst]
      exact hset
    · exact hset

theorem State.clearSource_rst (s : State) (b : Nat) :
    (s.clearSource b).rst = { s.rst with asserted := s.rst.asserted &&& ~~~ BitVec.twoPow 32 b } := rfl

theorem exec_dieTempReading {s : State} (x : Int) (h : s.pd .aon = true) : exec (.dieTempReading x) s = .next (s.start.dieTemp x) :=
  congrArg Host.Outcome.next (if_pos h)

/-- A reading as it resets the module: the die is not cool. -/
def State.readsHot (s : State) (x : Int) : State := { s.set Oid.DIE_TEMP x with rst := { (s.set Oid.DIE_TEMP x).rst with coolSince := none } }

theorem exec_thermalReset {s : State} {x : Int} (hpd : s.pd .aon = true) (hx : 1150 ≤ x) (hnot : s.rst.asserted.getLsbD 14 = false) :
    exec (.thermalReset x) s = .next ((s.start.readsHot x).assertSource 14) := by
  have hcond : (s.start.pd .aon && decide (1150 ≤ x) && !s.start.rst.asserted.getLsbD 14) = true := by
    rw [show s.start.pd .aon = true from hpd, show s.start.rst.asserted.getLsbD 14 = false from hnot]
    simp [hx]
  exact congrArg Host.Outcome.next (if_pos hcond)

theorem exec_thermalRelease {s : State} {x : Int} (hx : x < 1000) (hset : s.rst.asserted.getLsbD 14 = true) :
    exec (.thermalRelease x) s = .next (((s.start.reach (s.rst.coolSince.getD s.clk + sec 10)).set Oid.DIE_TEMP x).clearSource 14) := by
  have hcond : (s.start.rst.asserted.getLsbD 14 && decide (x < 1000)) = true := by
    rw [show s.start.rst.asserted.getLsbD 14 = true from hset]
    simp [hx]
  exact congrArg Host.Outcome.next (if_pos hcond)

/-- Settles O15: a mild reading is shown, a hot one resets the module, a cool one releases the source. -/
theorem dieTemperature : Obligations.DieTemperature := by
  unfold Obligations.DieTemperature
  intro s hroom
  refine ⟨fun x haon hx => ?_, fun x haon hx hnot hautumn hfrozen hactive hpend => ?_, fun x hx hset => ?_⟩
  · obtain ⟨hmode, hcool⟩ := s.start.heatFollows_frame x
    have hget := s.start.dieTemp_get x
    rw [State.dieTemp_of_mild hx] at hget
    refine ⟨_, (exec_dieTempReading x haon).trans (congrArg _ (State.dieTemp_of_mild hx)), hget, rfl, hmode, hcool⟩
  · have hres := (s.start.readsHot x).wasReset_doReset (b := 14) (by decide)
    have heq := State.assertSource_resets (s := s.start.readsHot x) 14 hautumn hfrozen hactive hpend
    exact ⟨_, (exec_thermalReset haon hx hnot).trans (congrArg _ heq), hres.assertedBit (by decide), hres.inReset, hres.mode, hres.cause, hres.recorded⟩
  · refine ⟨_, exec_thermalRelease hx hset, ?_, (State.get_congr rfl _).trans (State.get_set_same ..), ?_⟩
    · rw [State.clearSource_rst, State.set_rst, State.reach_rst]
      rfl
    · exact s.start.le_reach_clk (s.rst.coolSince.getD s.clk + sec 10)

end Sys2Proof.Machine
end

section
/-! ### A host write up to its commit point, and RESET_REQ (R29, R114, R121, R122) -/

namespace Sys2Proof.Machine

/-! ### A host write up to its commit point (R29, R181, R674) -/

section

variable {s : State} {n : Nat} (req : BitVec 32) {e : WEntry}

/-- A write that passes its checks is at its commit point at once without a healthy standby: what remains is its commit. -/
theorem State.hostRow_eq_commitReq (h : s.Ready n) (hoid : e.oid < 0xF0000000) (hp : e.oid ≠ 0x120)
    (hc : (s.seen n).checkWrite (hostRights n) e = none)
    (hd : ∀ o ix, lookup e.oid = some (o, ix) → o.base = 0x20000100 → leNat e.data ≠ 1) :
    s.hostRow n req e = ((s.placed n req e).commitReq (s.writeReq n req e)).drain := by
  obtain ⟨hserv, hstb, hopen, hpart, hnone, hhs, -, hj⟩ := h
  have ⟨hwaits, _, _, _, _, hplan, _⟩ := hnone
  have hreq := s.checkRequest_one n req e hpart hwaits hoid hj hc
  have hnote : (s.seen n).noteRequest { s.writeReq n req e with pos := 0 } none = s.seen n := by
    unfold State.noteRequest
    simp only [State.writeReq_entries, List.foldl_cons, List.foldl_nil]
    cases hlk : lookup e.oid with
    | none => rfl
    | some p =>
      obtain ⟨o, ix⟩ := p
      exact if_neg fun hh => hd o ix hlk hh.1 hh.2.1
  have hasks : (s.writeReq n req e).asksPlan = false := by simp [PendReq.asksPlan, State.writeReq, hp]
  have henter : (s.seen n).enterRequest { s.writeReq n req e with pos := 0 } = (s.placed n req e).commitReq (s.writeReq n req e) := by
    have hpos : ({ s.writeReq n req e with pos := (s.seen n).acc.pos } : PendReq) = s.writeReq n req e := rfl
    have hitems : (s.writeReq n req e).items.foldl State.mirror { s.seen n with acc := { (s.seen n).acc with pos := (s.seen n).acc.pos + 1 } }
        = s.placed n req e := by
      simp only [PendReq.items, List.map, List.foldl, State.placed, State.writeReq, PendReq.rights, if_true]
    unfold State.enterRequest
    simp only [hpos, hasks, Bool.false_eq_true, false_and, if_false]
    rw [hitems, State.healthyStandby_placed, hhs, State.placed_plan, hplan]
    simp
  have hsm : ¬ (s.seen n).mode = .standby := hstb
  rw [s.hostRow_eq_hostWrite n req e hserv hopen hnone]
  simp only [State.hostWrite, hsm, if_false, hreq, hnote, henter]

/-- The commit of a write whose effect ends its session: it is answered before it takes effect (R201). -/
theorem State.commitReq_parting (hw : (isTxbCtrl e.oid && leNat e.data == 2 && e.ph.isNone) = false) (hp : e.oid ≠ 0x120)
    (hpart : (s.ses n).part = 0) (hopen : 2 ≤ (s.ses n).state) (hl : (s.writeReq n req e).loopCmd = false)
    (hs : (s.placed n req e).commitStatus (s.writeReq n req e) = .ok)
    (hgone : ((s.placed n req e).applyEntries (hostRights n) [e]).listens (s.writeReq n req e) = false) :
    (s.placed n req e).commitReq (s.writeReq n req e)
      = (((s.placed n req e).emit (.resp n 0x11 req 0 [])).applyEntries (hostRights n) [e]).recordCommitted (s.ses n).fpr req 0 := by
  have hasks : (s.writeReq n req e).asksPlan = false := by simp [PendReq.asksPlan, State.writeReq, hp]
  have hrights : (s.writeReq n req e).rights = hostRights n := by simp [PendReq.rights, State.writeReq, hostRights, hpart]
  have hdraw : (s.writeReq n req e).entries.foldl State.drawPhase ([], s.placed n req e) = ([e], s.placed n req e) := by
    simp only [State.writeReq_entries, List.foldl_cons, List.foldl_nil, State.drawPhase, hw, Bool.false_eq_true, if_false, List.nil_append]
  have hentries : ({ s.writeReq n req e with entries := [e] } : PendReq) = s.writeReq n req e := rfl
  have hlisten : (s.placed n req e).listens (s.writeReq n req e) = true := by
    have hses : (s.placed n req e).ses n = { s.ses n with lastFrame := s.clk } := (s.ses_placed n req e n).trans (s.ses_seen n)
    simp [State.listens, State.writeReq, hses, hopen]
  have hgone' : ((s.placed n req e).applyEntries (s.writeReq n req e).rights [e]).listens (s.writeReq n req e) = false := by
    rw [hrights]
    exact hgone
  unfold State.commitReq
  simp only [hdraw, hentries, hs, hasks, hl, hgone', hlisten, Bool.false_eq_true, false_and, if_false, if_true]
  rw [hrights]
  rfl

end

/-! ### RESET_REQ as a host write (R122) -/

/-- The write of RESET_REQ. -/
def resetEntry (v : Byte) : WEntry := { oid := Oid.RESET_REQ.oid, data := [v] }

/-- The row of RESET_REQ (R108). -/
def resetRow : ObjRow := ⟨0x00000502, [], .u8, .rwp, .num 0, true, (.span 1 3), .request⟩

theorem lookup_reset : lookup Oid.RESET_REQ.oid = some (resetRow, []) :=
  show lookup 0x00000502 = some (resetRow, []) from rfl

theorem State.checkWrite_reset (s : State) (n : Nat) {v : Byte} (h : v = 1 ∨ v = 2 ∨ v = 3) :
    s.checkWrite (hostRights n) (resetEntry v) = need (!(s.mode == .active) || s.healthyStandby) .busy := by
  have hcode : s.codeCheck (hostRights n) resetRow [] = none := by simp [State.codeCheck, resetRow, hostRights, need]
  have hval : valueCheck resetRow resetRow.ty (resetRow.taken (resetEntry v).data) = none := by rcases h with rfl | rfl | rfl <;> rfl
  rw [s.checkWrite_plain (resetEntry v) (hostRights n) resetRow [] rfl lookup_reset rfl (by decide) hcode (by decide) rfl rfl rfl
    hval (by decide) (fun h => absurd h (by decide))]
  rcases h with rfl | rfl | rfl <;> rfl

theorem resetEntry_no_door (v : Byte) (o : ObjRow) (ix : List Nat) (h : lookup (resetEntry v).oid = some (o, ix)) (hbase : o.base = 0x20000100) :
    leNat (resetEntry v).data ≠ 1 := by
  obtain rfl : resetRow = o := congrArg Prod.fst (Option.some.inj (lookup_reset.symm.trans h))
  exact absurd hbase (by decide)

theorem isTxbCtrl_reset : isTxbCtrl Oid.RESET_REQ.oid = false := by
  rw [isTxbCtrl, lookup_reset]
  rfl

theorem isLoopCmd_reset : isLoopCmd Oid.RESET_REQ.oid = false := by
  rw [isLoopCmd, lookup_reset]
  rfl

/-- RESET_REQ asserts its source, in a module that shows no fault of memory there. -/
theorem State.applyObject_reset (s : State) (n : Nat) {v : Byte} (h : v = 1 ∨ v = 2 ∨ v = 3) :
    s.applyObject (hostRights n) (resetEntry v) = (s.mended Oid.RESET_REQ.oid).resetReq v.toNat := by
  have hf : findObject (resetEntry v).oid = some (resetRow, []) := by
    simp [findObject, show lookup (resetEntry v).oid = _ from lookup_reset]
    rfl
  have hwd : (s.mended (resetEntry v).oid).withDefault (resetEntry v) = resetEntry v := by
    simp only [State.withDefault, show lookup (resetEntry v).oid = _ from lookup_reset]
    rfl
  unfold State.applyObject
  simp only [hwd, hf]
  rcases h with rfl | rfl | rfl <;> rfl

/-- The source that a write of RESET_REQ asserts (R114). -/
def resetSource (v : Byte) : Nat := if v = 1 then 6 else if v = 2 then 4 else 5

/-- The write takes effect, and is journalled. -/
def State.resetJournalled (s : State) (v : Byte) : State :=
  { (s.mended Oid.RESET_REQ.oid).doReset (resetSource v) with
    acc := { ((s.mended Oid.RESET_REQ.oid).doReset (resetSource v)).acc with
      journal := ((s.mended Oid.RESET_REQ.oid).doReset (resetSource v)).acc.journal ++ s.journalOf (resetEntry v) } }

theorem State.applyEntries_reset (s : State) (n : Nat) {v : Byte} (h : v = 1 ∨ v = 2 ∨ v = 3) (hautumn : s.pow.autumn ≠ .running)
    (hmode : s.mode = .service) (hpend : s.rst.pendingRel = none) :
    s.applyEntries (hostRights n) [resetEntry v] = s.resetJournalled v := by
  have hoid : (resetEntry v).oid < 0xF0000000 := show Oid.RESET_REQ.oid < 0xF0000000 by decide
  have hb : s.broadcast (resetEntry v).oid = none := s.broadcast_none _ hoid
  have hsource : (s.mended Oid.RESET_REQ.oid).resetReq v.toNat = (s.mended Oid.RESET_REQ.oid).assertSource (resetSource v) := by
    rcases h with rfl | rfl | rfl <;> rfl
  have hresets := State.assertSource_resets (s := s.mended Oid.RESET_REQ.oid) (resetSource v) (by simpa using hautumn) (by simp [hmode])
    (by simp [hmode]) (by simpa using hpend)
  simp only [State.applyEntries, State.applyEntry, List.foldl_cons, List.foldl_nil, hb, s.applyObject_reset n h, hsource, hresets]
  rfl

theorem State.resetDomains_sessions (s : State) (r : Nat) : (s.resetDomains r).acc.sessions = [] := by
  unfold State.resetDomains
  rw [State.resetPoints_acc]
  rfl

theorem State.assertsReset_acc (s : State) (b : Nat) : (s.assertsReset b).acc = s.acc := rfl

theorem State.clearsModule_acc (s : State) : s.clearsModule.acc = s.acc := rfl

/-- A reset ends every session (R117). -/
theorem State.doReset_sessions (s : State) (b : Nat) : (s.doReset b).acc.sessions = [] := by
  have hreach (u : State) (r : Nat) : (u.applyReach r).acc.sessions = [] := by
    rw [u.applyReach_eq, State.clearsModule_acc, State.resetRest_acc]
    exact State.resetDomains_sessions ..
  have hacc : (s.doReset b).acc = ((s.release 2).applyReach (reachOf b)).acc := by
    rw [s.doReset_eq, State.setN_acc, State.assertsReset_acc, State.noteSource_acc]
  rw [hacc]
  exact hreach _ _

theorem State.journalled_sessions (s : State) (j : List WEntry) : ({ s with acc := { s.acc with journal := j } } : State).acc.sessions = s.acc.sessions := rfl

theorem State.resetJournalled_ses (s : State) (v : Byte) (n : Nat) : (s.resetJournalled v).ses n = {} := by
  rw [State.ses, State.resetJournalled, State.journalled_sessions, State.doReset_sessions]
  rfl

theorem State.journalled_like (s : State) (j : List WEntry) : ({ s with acc := { s.acc with journal := j } } : State).Like s :=
  ⟨rfl, rfl, rfl, rfl, rfl, rfl, rfl, rfl, rfl, rfl, rfl, rfl, rfl, rfl, rfl, rfl, rfl, rfl, rfl, rfl, rfl, rfl, rfl, rfl, rfl, rfl, rfl⟩

theorem State.journalled_tw (s : State) (j : List WEntry) : ({ s with acc := { s.acc with journal := j } } : State).tw = s.tw := rfl

theorem State.resetJournalled_like (s : State) (v : Byte) :
    (s.resetJournalled v).Like ((s.mended Oid.RESET_REQ.oid).doReset (resetSource v)) := State.journalled_like ..

theorem State.resetJournalled_tw (s : State) (v : Byte) :
    (s.resetJournalled v).tw.activeOut = ((s.mended Oid.RESET_REQ.oid).doReset (resetSource v)).tw.activeOut := by
  rw [State.resetJournalled, State.journalled_tw]

theorem exec_resetReq {s : State} (ses : Fin 64) (req : BitVec 32) {i : Instr} {b : Nat}
    (h : (i = .resetReqCold ses req ∧ b = 6) ∨ (i = .resetReqWarm ses req ∧ b = 4) ∨ (i = .resetReqCore ses req ∧ b = 5)) :
    ∃ v : Byte, (v = 1 ∨ v = 2 ∨ v = 3) ∧ resetSource v = b ∧ exec i s = .next (s.hostRow ses.val req (resetEntry v)) := by
  rcases h with ⟨rfl, rfl⟩ | ⟨rfl, rfl⟩ | ⟨rfl, rfl⟩
  · exact ⟨1, .inl rfl, rfl, rfl⟩
  · exact ⟨2, .inr (.inl rfl), rfl, rfl⟩
  · exact ⟨3, .inr (.inr rfl), rfl, rfl⟩

theorem State.WasReset.like {s t u : State} {b : Nat} (h : s.WasReset t b) (g : u.Like t) (htw : u.tw.activeOut = t.tw.activeOut) : s.WasReset u b where
  mode := g.mode.trans h.mode
  inReset := g.rst ▸ h.inReset
  complete := g.rst ▸ h.complete
  asserted := g.rst ▸ h.asserted
  cause := (g.bit _ _).trans h.cause
  step := (g.nat _).trans h.step
  launches := g.launches.trans h.launches
  emits := g.emits.trans h.emits
  active := htw.trans h.active
  frz := g.frz.trans h.frz
  clk := g.clk.trans h.clk
  resetN := g.rst ▸ h.resetN
  recorded := by
    rw [g.nat]
    exact h.recorded.congr g.rcd

/-- A write of RESET_REQ in SERVICE resets the module (R122). -/
theorem State.hostRow_reset {s : State} {n : Nat} (req : BitVec 32) {v : Byte} (hv : v = 1 ∨ v = 2 ∨ v = 3) (h : s.Ready n)
    (hautumn : s.pow.autumn ≠ .running) (hmode : s.mode = .service) (hpend : s.rst.pendingRel = none) :
    ∃ u t : State, s.hostRow n req (resetEntry v) = t ∧ u.WasReset t (resetSource v) := by
  have hoid : (resetEntry v).oid < 0xF0000000 := show Oid.RESET_REQ.oid < 0xF0000000 by decide
  have hc : (s.seen n).checkWrite (hostRights n) (resetEntry v) = none := by
    rw [State.checkWrite_reset _ n hv]
    simp [hmode, need]
  have hcommit := State.hostRow_eq_commitReq req h hoid (show Oid.RESET_REQ.oid ≠ 0x120 by decide) hc (resetEntry_no_door v)
  have hgone : ((s.placed n req (resetEntry v)).applyEntries (hostRights n) [resetEntry v]).listens (s.writeReq n req (resetEntry v)) = false := by
    rw [State.applyEntries_reset _ n hv (by simpa using hautumn) (by simp [hmode]) (by simpa using hpend)]
    have hnone : ({} : Session).state = 0 := rfl
    simp [State.listens, State.writeReq, State.resetJournalled_ses, hnone]
  have hloop : (s.writeReq n req (resetEntry v)).loopCmd = false := by
    have hisnt : isLoopCmd (resetEntry v).oid = false := isLoopCmd_reset
    simp [PendReq.loopCmd, State.writeReq, hisnt]
  have hstatus : (s.placed n req (resetEntry v)).commitStatus (s.writeReq n req (resetEntry v)) = .ok := by
    have htx : isTxbCtrl (resetEntry v).oid = false := isTxbCtrl_reset
    have h3 : ((resetEntry v).oid == 0x70000003) = false := show (Oid.RESET_REQ.oid == 0x70000003) = false by decide
    have h6 : ((resetEntry v).oid == 0x70000006) = false := show (Oid.RESET_REQ.oid == 0x70000006) = false by decide
    have h0 : ((resetEntry v).oid == 0x00000110) = false := show (Oid.RESET_REQ.oid == 0x00000110) = false by decide
    simp [State.commitStatus, cancelLate, htx, h3, h6, h0, State.writeReq]
  have hparting := State.commitReq_parting (s := s) (n := n) req (e := resetEntry v) (by rw [show (resetEntry v).oid = Oid.RESET_REQ.oid from rfl, isTxbCtrl_reset]; rfl)
    (show Oid.RESET_REQ.oid ≠ 0x120 by decide) h.2.2.2.1 h.2.2.1 hloop hstatus hgone
  have hreset := State.applyEntries_reset ((s.placed n req (resetEntry v)).emit (.resp n 0x11 req 0 [])) n hv (by simpa using hautumn) (by simp [hmode])
    (by simpa using hpend)
  have hres := (((s.placed n req (resetEntry v)).emit (.resp n 0x11 req 0 [])).mended Oid.RESET_REQ.oid).wasReset_doReset (b := resetSource v)
    (by rcases hv with rfl | rfl | rfl <;> decide)
  rw [hparting, hreset] at hcommit
  have hlike := ((s.placed n req (resetEntry v)).emit (.resp n 0x11 req 0 [])).resetJournalled_like v
  have hkeep := ((s.placed n req (resetEntry v)).emit (.resp n 0x11 req 0 [])).resetJournalled_tw v
  generalize ((s.placed n req (resetEntry v)).emit (.resp n 0x11 req 0 [])).resetJournalled v = t at *
  have hrec : (t.recordCommitted (s.ses n).fpr req 0).Like t := State.recordCommitted_like ..
  have htw : (t.recordCommitted (s.ses n).fpr req 0).tw.activeOut = t.tw.activeOut := congrArg (·.activeOut) (State.mirror_tw ..)
  have hfinal := hres.like (hrec.trans hlike) (htw.trans hkeep)
  rw [State.drain_of_quiet _ hfinal.emits] at hcommit
  exact ⟨_, _, hcommit, hfinal⟩

/-- Settles O16: RESET_REQ resets a module in SERVICE, and is refused by an ACTIVE one without a healthy standby. -/
theorem resetRequests : Obligations.ResetRequests := by
  unfold Obligations.ResetRequests
  intro s ses req hready i b hi
  obtain ⟨v, hv, hb, hexec⟩ := exec_resetReq ses req hi
  rw [hexec]
  refine ⟨fun hmode hautumn hpend => ?_, fun hmode => ?_⟩
  · obtain ⟨u, t, hrow, hres⟩ := State.hostRow_reset req hv hready hautumn hmode hpend
    rw [hb] at hres
    have hbit : b < 32 := by omega
    have hreach : reachOf b = if b = 6 then 1 else if b = 4 then 2 else 3 := by
      rcases hi with ⟨-, rfl⟩ | ⟨-, rfl⟩ | ⟨-, rfl⟩ <;> rfl
    exact ⟨t, congrArg _ hrow, hres.mode, hres.inReset, hres.complete, hres.assertedBit hbit, hres.cause, hres.step, hres.launches, hres.emits,
      hreach ▸ hres.recorded⟩
  · have hcheck : (s.seen ses.val).checkWrite (hostRights ses.val) (resetEntry v) = refuse .busy := by
      obtain ⟨-, -, -, -, -, hstandby, -⟩ := hready
      rw [State.checkWrite_reset _ _ hv]
      simp [hmode, hstandby, need]
    have hrow := s.hostRow_refused ses.val req (resetEntry v) _ hready (show Oid.RESET_REQ.oid < 0xF0000000 by decide) hcheck rfl (resetEntry_no_door v)
    have hlike := (s.seen ses.val).emit_like (.resp ses.val 0x11 req Status.busy.code [])
    refine ⟨_, congrArg _ hrow, ?_, ?_, ?_, ?_, ?_, ?_⟩
    · simp [State.Answers, State.emit]
      exact .inr rfl
    · exact hlike.mode.trans hmode
    · exact hlike.rst
    · exact hlike.objs
    · exact hlike.blobs
    · exact hlike.rcd

end Sys2Proof.Machine
end

section
/-! ### The reset sources of a module that is not ACTIVE (R114, R123, R549, R626) -/

namespace Sys2Proof.Machine

/-- A module in which a source asserted now resets at once: AUTUMN does not run, no release is waited for, and it neither drives nor is frozen. -/
structure State.Resettable (s : State) : Prop where
  autumn : s.pow.autumn ≠ .running
  pending : s.rst.pendingRel = none
  active : s.mode ≠ .active
  frozen : s.mode ≠ .frozen

theorem State.Resettable.congr {s t : State} (h : s.Resettable) (hpow : t.pow = s.pow) (hrst : t.rst.pendingRel = s.rst.pendingRel)
    (hmode : t.mode = s.mode) : t.Resettable :=
  ⟨by rw [hpow]; exact h.autumn, hrst.trans h.pending, by rw [hmode]; exact h.active, by rw [hmode]; exact h.frozen⟩

theorem State.Resettable.wasReset {s : State} (h : s.Resettable) {b : Nat} (hb : b < 32) : s.WasReset (s.assertSource b) b := by
  rw [State.assertSource_resets b h.autumn h.frozen h.active h.pending]
  exact s.wasReset_doReset b hb

theorem State.Resettable.critical {s : State} (h : s.Resettable) (kind place : Nat) {b : Nat} (hb : b < 32) :
    (s.eventAon 0x0403 kind place).WasReset (s.critical kind place b) b :=
  State.Resettable.wasReset (s := s.eventAon 0x0403 kind place) (h.congr rfl rfl rfl) hb

/-- The lockstep of the cores is lost. -/
def State.losesLockstep (s : State) : State := { s with tw := { s.tw with lockstep := false } }

/-- The instructions that assert a source of a module that is not ACTIVE, with the source (R114). -/
def AssertsSource (s : State) (i : Instr) (b : Nat) : Prop :=
  (∃ forMs : Nat, 20 ≤ forMs ∧ i = .resetNPress forMs ∧ b = 2 ∧ s.rst.resetN = .high) ∨ (i = .lockstepMismatch ∧ b = 8 ∧ s.up .safe = true)
    ∨ (i = .appWdog ∧ b = 9 ∧ s.up .app = true)
    ∨ (∃ (region : Byte) (addr : BitVec 32), criticalRegion region.toNat = true ∧ i = .critDse region addr ∧ b = 11 ∧ s.booted = true)
    ∨ (i = .critParityCheck true ∧ b = 10 ∧ s.up .safe = true)

theorem exec_source {s : State} {i : Instr} {b : Nat} (h : s.Resettable) (hi : AssertsSource s i b) :
    ∃ u t : State, exec i s = .next t ∧ u.WasReset t b := by
  have hstart : s.start.Resettable := h.congr rfl rfl rfl
  rcases hi with ⟨forMs, hms, rfl, rfl, hhigh⟩ | ⟨rfl, rfl, hup⟩ | ⟨rfl, rfl, hup⟩ | ⟨region, addr, hcrit, rfl, rfl, hboot⟩ | ⟨rfl, rfl, hup⟩
  · have hcond : (s.start.rst.resetN == .high && decide (20 ≤ forMs)) = true := by
      rw [show s.start.rst.resetN = .high from hhigh]
      simpa using hms
    exact ⟨_, _, congrArg Host.Outcome.next (if_pos hcond), State.Resettable.wasReset (s := s.start.setResetN .low) (hstart.congr rfl rfl rfl) (by decide)⟩
  · exact ⟨_, _, congrArg Host.Outcome.next (if_pos hup), State.Resettable.wasReset (s := s.start.losesLockstep) (hstart.congr rfl rfl rfl) (by decide)⟩
  · exact ⟨_, _, congrArg Host.Outcome.next (if_pos hup), hstart.wasReset (by decide)⟩
  · have hcond : (s.start.booted && (criticalRegion region.toNat || region.toNat == 0x06 || region.toNat == 0x22)) = true := by
      rw [show s.start.booted = true from hboot, hcrit]
      rfl
    exact ⟨_, _, congrArg Host.Outcome.next (if_pos hcond), hstart.critical 1 region.toNat (by decide)⟩
  · have hcond : (true && s.start.up .safe) = true := hup
    exact ⟨_, _, congrArg Host.Outcome.next (if_pos hcond),
      State.Resettable.critical (s := s.start.free.2) (hstart.congr rfl rfl rfl) 0 (s.start.free.1.toNat % 4294967296) (by decide)⟩

/-- The level that RESET_N_STATE shows. -/
def ResetN.code : ResetN → Nat
  | .high => 0
  | .low => 1
  | .stuck => 2

theorem State.setResetN_shows (s : State) (x : ResetN) : (s.setResetN x).nat Oid.RESET_N_STATE = x.code := by
  cases x <;> exact State.nat_setN_same ..

theorem State.setResetN_rst (s : State) (x : ResetN) : (s.setResetN x).rst = { s.rst with resetN := x } := rfl

/-- RESET_N held low counts as seen stuck. -/
def State.seesStuck (s : State) : State := { s with rst := { s.rst with seen := s.rst.seen ||| BitVec.twoPow 32 3 } }

theorem State.seesStuck_nat (s : State) (k : Key) : s.seesStuck.nat k = s.nat k := rfl

theorem exec_resetNStuck {s : State} {forMs : Nat} (hlow : s.rst.resetN = .low) (hms : 8000 ≤ forMs) :
    exec (.resetNStuck forMs) s =
      .next ((((s.start.clearSource 2).setResetN .stuck).seesStuck.setN Oid.RESET_CAUSE (s.rst.seen ||| BitVec.twoPow 32 3).toNat).eventAon 0x0102 forMs) := by
  have hcond : (s.start.rst.resetN == .low && decide (8000 ≤ forMs)) = true := by
    rw [show s.start.rst.resetN = .low from hlow]
    simpa using hms
  exact congrArg Host.Outcome.next (if_pos hcond)

/-- Settles O17: each of the other sources resets a module that is not ACTIVE; RESET_N is released, or counts as stuck. -/
theorem resetSources : Obligations.ResetSources := by
  unfold Obligations.ResetSources
  intro s hautumn hpend hactive hfrozen
  have hs : s.Resettable := ⟨hautumn, hpend, hactive, hfrozen⟩
  refine ⟨fun i b hi => ?_, rfl, fun forMs hlow hms => ?_, fun forMs hstuck hms => ?_, fun forMs hstuck => ?_, fun forMs hlow hms => ?_⟩
  · have hb : b < 32 := by
      rcases hi with ⟨_, -, -, rfl, -⟩ | ⟨-, rfl, -⟩ | ⟨-, rfl, -⟩ | ⟨_, _, -, -, rfl, -⟩ | ⟨-, rfl, -⟩ <;> decide
    obtain ⟨u, t, hexec, hres⟩ := exec_source hs hi
    exact ⟨t, hexec, hres.mode, hres.inReset, hres.complete, hres.assertedBit hb, hres.cause, hres.launches, hres.recorded, fun _ => hres.active⟩
  · have heq : exec (.resetNRelease forMs) s = .next ((s.start.clearSource 2).setResetN .high) := by
      have hlow' : s.start.rst.resetN = .low := hlow
      refine congrArg Host.Outcome.next ?_
      rw [hlow']
      exact if_pos hms
    exact ⟨_, heq, State.setResetN_shows .., rfl, rfl⟩
  · have heq : exec (.resetNRelease forMs) s = .next (s.start.setResetN .high) := by
      have hstuck' : s.start.rst.resetN = .stuck := hstuck
      refine congrArg Host.Outcome.next ?_
      rw [hstuck']
      exact if_pos hms
    exact ⟨_, heq, State.setResetN_shows .., rfl⟩
  · have hcond : ¬ (s.start.rst.resetN == .high && decide (20 ≤ forMs)) = true := by
      rw [show s.start.rst.resetN = .stuck from hstuck]
      simp
    exact congrArg Host.Outcome.next (if_neg hcond)
  · refine ⟨_, exec_resetNStuck hlow hms, ?_, rfl, rfl, ?_, State.eventAon_recorded ..⟩
    · rw [State.nat_eventAon, State.nat_setN_ne _ _ _ _ (by decide)]
      exact (State.seesStuck_nat ..).trans (State.setResetN_shows ..)
    · rw [State.bit_eventAon, State.bit_setN_same]
      simp [BitVec.testBit_toNat]
      exact .inr (by decide)

end Sys2Proof.Machine
end

section
/-! ### The end of a reset, and the strap (R117, R121, R131, R132, R646) -/

namespace Sys2Proof.Machine

/-! ### The strap (R131, R132) -/

/-- The strap's ratio is in band `k`. -/
def State.strapFound (s : State) (k : Nat) : State := { s with rst := { s.rst with strapFault := false } }.setN Oid.STRAP_VALUE k

/-- The strap's ratio is in no band. -/
def State.strapLost (s : State) : State := { s with rst := { s.rst with strapFault := true, strapAt := s.clk } }.setN Oid.STRAP_VALUE 0xFF

theorem State.measureStrap_some (s : State) {ratio k : Nat} (h : strapBand ratio = some k) :
    s.measureStrap ratio = (s.setN Oid.STRAP_RATIO ratio).strapFound k := by
  unfold State.measureStrap
  rw [h]
  rfl

theorem State.measureStrap_none (s : State) {ratio : Nat} (h : strapBand ratio = none) :
    s.measureStrap ratio = ((s.setN Oid.STRAP_RATIO ratio).strapLost.event 0x0103 ratio).reportHealth := by
  unfold State.measureStrap
  rw [h]
  rfl

theorem State.reportHealth_get (s : State) (k : Key) (h : k.oid ≠ Oid.TW_SUMMARY.oid) (hc : k.oid ≠ Oid.TW_CHECKS.oid) : s.reportHealth.get k = s.get k :=
  (State.get_setN_other _ _ _ _ hc.symm).trans (State.get_setN_other _ _ _ _ h.symm)

/-- What a measurement of the strap leaves: a state `t` that came of `s` (R131, R132). -/
structure State.StrapMeasured (s t : State) (ratio : Nat) : Prop where
  shown : t.nat Oid.STRAP_RATIO = ratio
  fault : t.rst.strapFault = (strapBand ratio).isNone
  value : t.nat Oid.STRAP_VALUE = (strapBand ratio).getD 0xFF
  inReset : t.rst.inReset = s.rst.inReset
  asserted : t.rst.asserted = s.rst.asserted
  pow : t.pow = s.pow
  clk : t.clk = s.clk
  other : ∀ k : Key, k.oid ≠ Oid.STRAP_RATIO.oid → k.oid ≠ Oid.STRAP_VALUE.oid → k.oid ≠ Oid.TW_SUMMARY.oid → k.oid ≠ Oid.TW_CHECKS.oid →
    k.oid ≠ Oid.REC_DROPPED.oid → t.nat k = s.nat k

theorem State.strapMeasured_measureStrap (s : State) (ratio : Nat) : s.StrapMeasured (s.measureStrap ratio) ratio := by
  cases h : strapBand ratio with
  | some k =>
    rw [s.measureStrap_some h]
    have hnat (x : Key) (hx : x.oid ≠ Oid.STRAP_VALUE.oid) : ((s.setN Oid.STRAP_RATIO ratio).strapFound k).nat x = (s.setN Oid.STRAP_RATIO ratio).nat x :=
      State.nat_setN_ne _ _ _ _ hx.symm
    exact
      { shown := (hnat _ (by decide)).trans (State.nat_setN_same ..)
        fault := by rw [h]; rfl
        value := by rw [h]; exact State.nat_setN_same ..
        inReset := rfl, asserted := rfl, pow := rfl, clk := rfl
        other := fun x hr hv _ _ _ => (hnat x hv).trans (State.nat_setN_ne _ _ _ _ hr.symm) }
  | none =>
    rw [s.measureStrap_none h]
    have hlost (x : Key) (hx : x.oid ≠ Oid.STRAP_VALUE.oid) : (s.setN Oid.STRAP_RATIO ratio).strapLost.nat x = (s.setN Oid.STRAP_RATIO ratio).nat x :=
      State.nat_setN_ne _ _ _ _ hx.symm
    have hvalue : (s.setN Oid.STRAP_RATIO ratio).strapLost.nat Oid.STRAP_VALUE = 0xFF := State.nat_setN_same ..
    have hrst : (((s.setN Oid.STRAP_RATIO ratio).strapLost.event 0x0103 ratio).reportHealth).rst = (s.setN Oid.STRAP_RATIO ratio).strapLost.rst := by
      rw [State.reportHealth_rst, State.event_rst]
    have hnat (x : Key) (h1 : x.oid ≠ Oid.TW_SUMMARY.oid) (h2 : x.oid ≠ Oid.TW_CHECKS.oid) (h3 : x.oid ≠ Oid.REC_DROPPED.oid) :
        (((s.setN Oid.STRAP_RATIO ratio).strapLost.event 0x0103 ratio).reportHealth).nat x = (s.setN Oid.STRAP_RATIO ratio).strapLost.nat x :=
      (congrArg Int.toNat (State.reportHealth_get _ x h1 h2)).trans (State.nat_event _ _ _ _ _ _ h3.symm)
    exact
      { shown := (hnat _ (by decide) (by decide) (by decide)).trans ((hlost _ (by decide)).trans (State.nat_setN_same ..))
        fault := by rw [hrst, h]; rfl
        value := by rw [hnat _ (by decide) (by decide) (by decide), hvalue, h]; rfl
        inReset := by rw [hrst]; rfl
        asserted := by rw [hrst]; rfl
        pow := by rw [State.reportHealth_pow, State.event_pow]; rfl
        clk := by rw [State.reportHealth_clk, State.event_clk]; rfl
        other := fun x hr hv h1 h2 h3 => (hnat x h1 h2 h3).trans ((hlost x hv).trans (State.nat_setN_ne _ _ _ _ hr.symm)) }

/-! ### The sources are released (R117) -/

/-- An asserted source that has not been seen is recorded before its release. -/
def State.notesUnseen (s : State) (b : Nat) : State :=
  if s.rst.asserted.getLsbD b && !s.rst.seen.getLsbD b then (if reachOf b = 1 then s.count Oid.POWER_CYCLES 32 else s).noteSource b else s

theorem State.noteUnseen_eq (s : State) : s.noteUnseen = (List.range 15).foldl State.notesUnseen s := by
  unfold State.noteUnseen State.notesUnseen
  with_reducible rfl

theorem List.foldl_fixed_of_mem {α β : Type} {g : β → α → β} {s : β} {l : List α} (h : ∀ a ∈ l, g s a = s) : l.foldl g s = s := by
  induction l with
  | nil => rfl
  | cons a l ih =>
    rw [List.foldl_cons, h a List.mem_cons_self]
    exact ih fun b hb => h b (List.mem_cons_of_mem a hb)

theorem State.noteUnseen_of_seen {s : State} (h : ∀ b : Nat, b < 15 → s.rst.asserted.getLsbD b = true → s.rst.seen.getLsbD b = true) :
    s.noteUnseen = s := by
  rw [s.noteUnseen_eq]
  refine List.foldl_fixed_of_mem fun b hb => if_neg ?_
  intro hc
  simp only [Bool.and_eq_true, Bool.not_eq_true'] at hc
  have hseen := h b (List.mem_range.1 hb) hc.1
  rw [hc.2] at hseen
  exact Bool.false_ne_true hseen

/-- A source whose condition holds is released. -/
def State.clearsReleasable (s : State) (b : Nat) : State := if s.rst.asserted.getLsbD b && s.releasable b then s.clearSource b else s

theorem State.clearSources_eq (s : State) : s.clearSources = (List.range 15).foldl State.clearsReleasable s := by
  unfold State.clearSources State.clearsReleasable
  with_reducible rfl

/-- The state with other sources asserted. -/
def State.withAsserted (s : State) (v : BitVec 32) : State := { s with rst := { s.rst with asserted := v } }

theorem State.releasable_withAsserted (s : State) (v : BitVec 32) (b : Nat) : (s.withAsserted v).releasable b = s.releasable b := rfl

theorem State.clearsReleasable_eq (s : State) (b : Nat) :
    ∃ v, s.clearsReleasable b = s.withAsserted v
      ∧ ∀ c, v.getLsbD c = (s.rst.asserted.getLsbD c && !(decide (c = b) && s.releasable b)) := by
  unfold State.clearsReleasable
  split
  · next h =>
    simp only [Bool.and_eq_true] at h
    refine ⟨s.rst.asserted &&& ~~~ BitVec.twoPow 32 b, rfl, fun c => ?_⟩
    by_cases hc : c = b
    · subst hc
      simp [h.2]
    · simp only [hc, decide_false, Bool.false_and, Bool.not_false, Bool.and_true]
      simp
      exact fun ha => ⟨BitVec.lt_of_getLsbD ha, .inr (Ne.symm hc)⟩
  · next h =>
    refine ⟨s.rst.asserted, rfl, fun c => ?_⟩
    by_cases hc : c = b
    · subst hc
      cases ha : s.rst.asserted.getLsbD c <;> cases hr : s.releasable c <;> simp_all
    · simp [hc]

/-- The release of sources changes which are asserted, and nothing else. -/
theorem State.clearsAll_eq (l : List Nat) (s : State) :
    ∃ v, l.foldl State.clearsReleasable s = s.withAsserted v
      ∧ ∀ c, v.getLsbD c = (s.rst.asserted.getLsbD c && !(decide (c ∈ l) && s.releasable c)) := by
  induction l generalizing s with
  | nil => exact ⟨s.rst.asserted, rfl, fun c => by simp⟩
  | cons b l ih =>
    obtain ⟨v, hv, hbits⟩ := s.clearsReleasable_eq b
    obtain ⟨w, hw, hbits'⟩ := ih (s.clearsReleasable b)
    refine ⟨w, ?_, fun c => ?_⟩
    · rw [List.foldl_cons, hw, hv]
      rfl
    · rw [hbits' c, hv, State.releasable_withAsserted]
      refine (congrArg (· && _) (hbits c)).trans ?_
      by_cases hc : c = b
      · subst hc
        cases s.rst.asserted.getLsbD c <;> cases s.releasable c <;> simp
      · simp [hc]

theorem State.clearSources_shape (s : State) :
    ∃ v, s.clearSources = s.withAsserted v ∧ ∀ c, v.getLsbD c = (s.rst.asserted.getLsbD c && !(decide (c < 15) && s.releasable c)) := by
  obtain ⟨v, hv, hbits⟩ := State.clearsAll_eq (List.range 15) s
  refine ⟨v, s.clearSources_eq.trans hv, fun c => ?_⟩
  rw [hbits c]
  simp

/-! ### Start-up begins (R117, R134) -/

/-- Start-up begins at its first step, in the reach seen. -/
def State.beginsStart (s : State) : State :=
  let u := (s.setN Oid.RESET_REACH s.rst.reach).setN Oid.SPRING_STEP 0
  { u with
    rst := { u.rst with inReset := false, t0 := u.clk }
    pow := { u.pow with springOn := true, springT0 := u.clk, springSub := 0, kept := BitVec.ofNat 16 (keptDomains s.rst.reach) } }

theorem State.startUp_eq (s : State) (ratio : Nat) :
    s.startUp ratio = if s.rst.reach = 3 then s.beginsStart else s.beginsStart.measureStrap ratio := by
  unfold State.startUp State.beginsStart
  with_reducible rfl

theorem State.beginsStart_nat (s : State) (k : Key) : s.beginsStart.nat k = ((s.setN Oid.RESET_REACH s.rst.reach).setN Oid.SPRING_STEP 0).nat k := rfl

/-- Start-up has begun: what a state `t` that came of `s` shows (R117, R131). -/
structure State.StartedUp (s t : State) (ratio : Nat) : Prop where
  inReset : t.rst.inReset = false
  asserted : t.rst.asserted = s.rst.asserted
  spring : t.pow.springOn = true
  step : t.nat Oid.SPRING_STEP = 0
  reach : t.nat Oid.RESET_REACH = s.rst.reach
  since : t.pow.springT0 = t.clk
  clk : t.clk = s.clk
  cause : t.nat Oid.RESET_CAUSE = s.nat Oid.RESET_CAUSE
  records : s.KeepsRecords t
  strap : s.rst.reach ≠ 3 → t.nat Oid.STRAP_RATIO = ratio ∧ t.rst.strapFault = (strapBand ratio).isNone
    ∧ t.nat Oid.STRAP_VALUE = (strapBand ratio).getD 0xFF

theorem State.startedUp_startUp (s : State) (ratio : Nat) : s.StartedUp (s.startUp ratio) ratio := by
  have hstep : s.beginsStart.nat Oid.SPRING_STEP = 0 := by simp [State.beginsStart_nat]
  have hreach : s.beginsStart.nat Oid.RESET_REACH = s.rst.reach := by simp [State.beginsStart_nat]
  have hcause : s.beginsStart.nat Oid.RESET_CAUSE = s.nat Oid.RESET_CAUSE := by simp [State.beginsStart_nat]
  rw [s.startUp_eq]
  split
  · next h =>
    exact { inReset := rfl, asserted := rfl, spring := rfl, step := hstep, reach := hreach, since := rfl, clk := rfl, cause := hcause
            records := .of_rcd rfl, strap := fun hne => absurd h hne }
  · have hm := s.beginsStart.strapMeasured_measureStrap ratio
    exact
      { inReset := hm.inReset.trans rfl
        asserted := hm.asserted.trans rfl
        spring := (congrArg (·.springOn) hm.pow).trans rfl
        step := (hm.other _ (by decide) (by decide) (by decide) (by decide) (by decide)).trans hstep
        reach := (hm.other _ (by decide) (by decide) (by decide) (by decide) (by decide)).trans hreach
        since := (congrArg (·.springT0) hm.pow).trans hm.clk.symm
        clk := hm.clk.trans rfl
        cause := (hm.other _ (by decide) (by decide) (by decide) (by decide) (by decide)).trans hcause
        records := .after (State.measureStrap_records ..) (.of_rcd rfl)
        strap := fun _ => ⟨hm.shown, hm.fault, hm.value⟩ }

/-! ### The release is tried (R117) -/

/-- The instant at which the sources may be released: 1 ms after the last was asserted. -/
def State.awaitsRelease (s : State) : State := s.reach ((s.rst.atNs.map (·.2)).foldl max 0 + ms 1)

theorem State.tryRelease_eq {s : State} (ratio : Nat) (hin : s.rst.inReset = true) (hfrozen : s.mode ≠ .frozen) :
    s.tryRelease ratio =
      if s.awaitsRelease.noteUnseen.clearSources.rst.asserted = 0 ∧ s.awaitsRelease.noteUnseen.clearSources.pow.autumn ≠ .running then
        s.awaitsRelease.noteUnseen.clearSources.startUp ratio
      else s.awaitsRelease.noteUnseen.clearSources :=
  if_neg (by simp [hin, hfrozen])

theorem le_foldl_max (l : List Nat) (a : Nat) : a ≤ l.foldl max a ∧ ∀ n ∈ l, n ≤ l.foldl max a := by
  induction l generalizing a with
  | nil => exact ⟨Nat.le_refl a, fun n h => absurd h List.not_mem_nil⟩
  | cons b l ih =>
    obtain ⟨hle, hall⟩ := ih (max a b)
    refine ⟨Nat.le_trans (Nat.le_max_left a b) hle, fun n hn => ?_⟩
    rcases List.mem_cons.1 hn with rfl | hn
    · exact Nat.le_trans (Nat.le_max_right a n) hle
    · exact hall n hn

theorem State.awaitsRelease_clk (s : State) {b n : Nat} (h : (b, n) ∈ s.rst.atNs) : n + 1000000 ≤ s.awaitsRelease.clk := by
  have hmax := (le_foldl_max (s.rst.atNs.map (·.2)) 0).2 n (List.mem_map.2 ⟨(b, n), h, rfl⟩)
  have hclk := s.le_reach_clk ((s.rst.atNs.map (·.2)).foldl max 0 + ms 1)
  exact Nat.le_trans (Nat.add_le_add_right hmax _) hclk

theorem State.awaitsRelease_frame (s : State) : s.awaitsRelease.rst = s.rst ∧ s.awaitsRelease.pow = s.pow ∧ s.awaitsRelease.objs = s.objs :=
  ⟨State.reach_rst .., State.reach_pow .., State.reach_objs ..⟩

theorem eq_zero_of_bits {v : BitVec 32} (h : ∀ c, v.getLsbD c = false) : v = 0 :=
  BitVec.eq_of_getLsbD_eq fun i _ => (h i).trans BitVec.getLsbD_zero.symm

theorem exec_resetRelease (s : State) (ratio : Nat) : exec (.resetRelease ratio) s = .next (s.start.tryRelease ratio) := rfl

/-- Start-up begins where every asserted source is seen and released (R117). -/
theorem State.tryRelease_starts {s : State} (ratio : Nat) (hin : s.rst.inReset = true) (hfrozen : s.mode ≠ .frozen) (hautumn : s.pow.autumn ≠ .running)
    {u : State} (hu : s.awaitsRelease.noteUnseen = u) (hpow : u.pow = s.pow)
    (hall : ∀ b : Nat, u.rst.asserted.getLsbD b = true → b < 15 ∧ s.releasable b = true) :
    s.tryRelease ratio = (u.withAsserted 0).startUp ratio := by
  obtain ⟨v, hv, hbits⟩ := u.clearSources_shape
  have hrel (c : Nat) : u.releasable c = s.releasable c := by simp only [State.releasable, hpow]
  have hzero : v = 0 := eq_zero_of_bits fun c => by
    rw [hbits c, hrel]
    cases ha : u.rst.asserted.getLsbD c
    · rfl
    · simp [hall c ha]
  rw [State.tryRelease_eq ratio hin hfrozen, hu, hv, hzero]
  refine if_pos ⟨rfl, ?_⟩
  rw [show (u.withAsserted 0).pow = u.pow from rfl, hpow]
  exact hautumn

/-- POWER_ON of a machine that starts has no record before its release: it gets one there (R119). -/
theorem State.noteUnseen_powerOn {s : State} (hone : s.rst.asserted = 1) (hseen : s.rst.seen = 0) :
    s.noteUnseen = (s.count Oid.POWER_CYCLES 32).noteSource 0 := by
  have hrange : List.range 15 = 0 :: (List.range 14).map Nat.succ := List.range_succ_eq_map
  have hfirst : s.notesUnseen 0 = (s.count Oid.POWER_CYCLES 32).noteSource 0 := by
    unfold State.notesUnseen
    rw [hone, hseen]
    rfl
  rw [s.noteUnseen_eq, hrange, List.foldl_cons, hfirst]
  refine List.foldl_fixed_of_mem fun b hb => if_neg ?_
  obtain ⟨c, -, rfl⟩ := List.mem_map.1 hb
  have hasserted : ((s.count Oid.POWER_CYCLES 32).noteSource 0).rst.asserted = 1 := hone
  rw [hasserted]
  simp [BitVec.getLsbD_one]

theorem exec_strapRetry {s : State} (ratio : Nat) (hfault : s.rst.strapFault = true) (hin : s.rst.inReset = false) :
    exec (.strapRetry ratio) s = .next ((s.start.reach (s.rst.strapAt + sec 1)).measureStrap ratio) := by
  have hcond : (s.start.rst.strapFault && !s.start.rst.inReset) = true := by
    rw [show s.start.rst.strapFault = true from hfault, show s.start.rst.inReset = false from hin]
    rfl
  exact congrArg Host.Outcome.next (if_pos hcond)

/-! ### The sources that waited for a release (R121) -/

/-- No release is waited for. -/
def State.endsWait (s : State) : State := { s with rst := { s.rst with pendingRel := none } }

theorem exec_releaseResetTimeout {s : State} {bs : List Nat} {at' : Nat} (h : s.rst.pendingRel = some (bs, at')) :
    exec .releaseResetTimeout s = .next (bs.foldl State.doReset (s.start.reach (at' + us 1200)).endsWait) := by
  have h' : s.start.rst.pendingRel = some (bs, at') := h
  have hr : (s.start.reach (at' + us 1200)).rst.pendingRel = some (bs, at') := h
  refine congrArg Host.Outcome.next ?_
  rw [h']
  simp only [State.endRelease, hr]
  rfl

/-- A module in reset, with no release waited for. -/
structure State.InReset (s : State) : Prop where
  mode : s.mode = .boot
  pending : s.rst.pendingRel = none
  inReset : s.rst.inReset = true

theorem State.doReset_inReset (s : State) {b : Nat} (h : b < 32) : (s.doReset b).InReset where
  mode := (s.wasReset_doReset b h).mode
  pending := by
    rw [s.doReset_eq]
    rfl
  inReset := (s.wasReset_doReset b h).inReset

theorem State.doResets_inReset (l : List Nat) (s : State) (hl : ∀ b ∈ l, b < 15) (h : l ≠ [] ∨ s.InReset) : (l.foldl State.doReset s).InReset := by
  induction l generalizing s with
  | nil => exact h.resolve_left (fun hne => hne rfl)
  | cons b l ih =>
    have hb := hl b List.mem_cons_self
    exact ih _ (fun c hc => hl c (List.mem_cons_of_mem b hc)) (.inr (s.doReset_inReset (by omega)))

theorem State.doResets_asserted (l : List Nat) (s : State) (hl : ∀ b ∈ l, b < 15) {c : Nat} (h : c ∈ l ∨ s.rst.asserted.getLsbD c = true) :
    (l.foldl State.doReset s).rst.asserted.getLsbD c = true := by
  induction l generalizing s with
  | nil => exact h.resolve_left List.not_mem_nil
  | cons b l ih =>
    have hb := hl b List.mem_cons_self
    have hres := s.wasReset_doReset b (by omega)
    refine ih _ (fun c hc => hl c (List.mem_cons_of_mem b hc)) ?_
    rcases h with h | h
    · rcases List.mem_cons.1 h with rfl | h
      · exact .inr (hres.assertedBit (by omega))
      · exact .inl h
    · refine .inr ?_
      rw [hres.asserted, BitVec.getLsbD_or, h, Bool.true_or]

theorem State.doResets_clk (l : List Nat) (s : State) : (l.foldl State.doReset s).clk = s.clk :=
  State.foldl_clk (fun u b => u.doReset_clk b) l s

/-! ### PD-AON starts (R109, R646) -/

/-- PD-AON starts anew: the records' number is rebuilt, and what PD-AON held is lost. -/
def State.aonFresh (s : State) : State :=
  { s with
    rcd := { s.rcd with next := s.rcd.rebuilt, droppedRun := 0 }
    tb := { s.tb with op := 0, opFrac := 0, wrapped := false }
    rst := {}
    pow := { s.pow with feedA := {}, feedB := {}, autumn := .none, charging := false, aonFallback := true, openSet := none, hot := false }
    frz := { s.frz with waiting := false, low := false, ignored := false, releasedDue := none }
    mode := .boot }

/-- The registers of PD-AON as it starts. -/
def State.aonRegisters (s : State) : State :=
  ((((((s.setN Oid.PD_STATE 1).setN Oid.CK_GOOD 0).setN Oid.BANK_MV 0).setFlag Oid.BANK_OK false).setN Oid.RESET_N_STATE 0).setN Oid.FIO_WD_STATE 1)

/-- The slot set that AUTUMN left open is told. -/
def State.tellsOpenSet (s : State) (lost : Option (Nat × Nat)) : State :=
  match lost with
  | some (slot, words) => s.eventAon 0x0212 slot words
  | none => s

theorem State.powerOn_eq (s : State) : s.powerOn = (s.losePending.aonFresh.aonRegisters.doReset 0).tellsOpenSet s.losePending.pow.openSet := by
  unfold State.powerOn State.aonFresh State.aonRegisters State.tellsOpenSet
  dsimp only <;> cases s.losePending.pow.openSet <;> with_reducible rfl

theorem State.tellsOpenSet_frame (s : State) (lost : Option (Nat × Nat)) :
    (s.tellsOpenSet lost).mode = s.mode ∧ (s.tellsOpenSet lost).rst = s.rst ∧ (s.tellsOpenSet lost).objs = s.objs ∧ (s.tellsOpenSet lost).tb = s.tb
      ∧ (s.tellsOpenSet lost).pow = s.pow ∧ (s.tellsOpenSet lost).launches = s.launches ∧ s.KeepsRecords (s.tellsOpenSet lost)
      ∧ s.NumbersOn (s.tellsOpenSet lost) := by
  cases lost with
  | none => exact ⟨rfl, rfl, rfl, rfl, rfl, rfl, .refl s, .refl s⟩
  | some p => exact ⟨rfl, rfl, rfl, rfl, rfl, rfl, s.eventAon_records .., s.eventAon_numbers ..⟩

theorem Recorder.le_rebuilt (r : Recorder) {h : Nat} (hmem : h ∈ r.heads) (hused : h ≠ 0xFFFFFFFFFFFFFFFF) : h + 4096 ≤ r.rebuilt := by
  have hin : h ∈ r.heads.filter (· != 0xFFFFFFFFFFFFFFFF) := List.mem_filter.2 ⟨hmem, by simpa using hused⟩
  have hne : r.heads.filter (· != 0xFFFFFFFFFFFFFFFF) ≠ [] := List.ne_nil_of_mem hin
  have hmax := (le_foldl_max (r.heads.filter (· != 0xFFFFFFFFFFFFFFFF)) 0).2 h hin
  unfold Recorder.rebuilt
  simp only [hne, if_false]
  exact Nat.add_le_add_right hmax _

/-- The sources seen once a reset of the machine at its start is noted. -/
theorem State.doReset_seen {s : State} (hcomplete : s.rst.complete = false) (b : Nat) :
    (s.doReset b).rst.seen = s.rst.seen ||| BitVec.twoPow 32 b ∧ (s.doReset b).nat Oid.RESET_CAUSE = (s.rst.seen ||| BitVec.twoPow 32 b).toNat := by
  have hseen : ((s.release 2).applyReach (reachOf b)).rst.seen = s.rst.seen := by simp
  have hcomp : ((s.release 2).applyReach (reachOf b)).rst.complete = false := by simp [hcomplete]
  have hwith : ((s.release 2).applyReach (reachOf b)).seenWith b = s.rst.seen ||| BitVec.twoPow 32 b := by
    rw [State.seenWith, hseen, hcomp]
    rfl
  have hrst := ((s.release 2).applyReach (reachOf b)).noteSource_rst b
  have hcause := ((s.release 2).applyReach (reachOf b)).noteSource_cause b
  rw [hwith] at hcause
  have hseen' : (((s.release 2).applyReach (reachOf b)).noteSource b).rst.seen = s.rst.seen ||| BitVec.twoPow 32 b := by
    rw [hrst]
    exact hwith
  rw [s.doReset_eq]
  generalize ((s.release 2).applyReach (reachOf b)).noteSource b = u at *
  exact ⟨hseen', (State.nat_setN_ne _ _ _ _ (by decide)).trans hcause⟩

/-- PD-AON's start, before what it lost is told. -/
theorem State.powerOn_facts (s : State) :
    let u := s.losePending.aonFresh.aonRegisters.doReset 0
    u.rst.seen = 1 ∧ u.nat Oid.RESET_CAUSE = 1 ∧ u.tb.op = 0 ∧ u.pow.autumn = .none
      ∧ (∀ h : Nat, h ∈ s.rcd.heads → h ≠ 0xFFFFFFFFFFFFFFFF → h + 4096 ≤ u.rcd.next)
      ∧ s.losePending.aonFresh.aonRegisters.WasReset u 0 := by
  obtain ⟨hseen, hcause⟩ := State.doReset_seen (s := s.losePending.aonFresh.aonRegisters) rfl 0
  rw [show s.losePending.aonFresh.aonRegisters.rst.seen = 0 from rfl] at hseen hcause
  refine ⟨hseen, hcause, (State.doReset_tb_op ..).trans rfl, (State.doReset_pow_autumn ..).trans rfl, fun h hmem hused => ?_,
    State.wasReset_doReset _ 0 (by decide)⟩
  exact Nat.le_trans (Recorder.le_rebuilt s.losePending.rcd hmem hused) (State.doReset_numbers s.losePending.aonFresh.aonRegisters 0).next_le

/-- Settles O18: start-up begins once the sources are released, the strap is measured again, waiting sources assert, PD-AON starts anew. -/
theorem resetEnds : Obligations.ResetEnds := by
  unfold Obligations.ResetEnds
  intro s ratio
  refine ⟨fun hin hfrozen hautumn hall => ?_, fun hin hfrozen hautumn hone hseen hreach hcomplete hrel => ?_, fun b hb hin hfrozen hset hnot hseen => ?_,
    fun hfault hin => ?_, fun bs at' hpend hne hbs => ?_, ?_⟩
  · obtain ⟨hrst, hpow, -⟩ := s.start.awaitsRelease_frame
    have hunseen : s.start.awaitsRelease.noteUnseen = s.start.awaitsRelease :=
      State.noteUnseen_of_seen fun b _ ha => by
        rw [hrst] at ha ⊢
        exact (hall b ha).2.2
    have heq := State.tryRelease_starts (s := s.start) ratio hin hfrozen hautumn hunseen hpow (fun b ha => by
      rw [hrst] at ha
      exact ⟨(hall b ha).1, (hall b ha).2.1⟩)
    have hup := (s.start.awaitsRelease.withAsserted 0).startedUp_startUp ratio
    have hreach : (s.start.awaitsRelease.withAsserted 0).rst.reach = s.rst.reach := congrArg (·.reach) hrst
    rw [exec_resetRelease, heq]
    refine ⟨_, rfl, hup.inReset, hup.asserted, hup.spring, hup.step, hup.reach.trans hreach, hup.since, fun b n h => ?_, fun h => hup.strap ?_⟩
    · rw [hup.clk]
      exact s.start.awaitsRelease_clk h
    · rwa [hreach]
  · obtain ⟨hrst, hpow, -⟩ := s.start.awaitsRelease_frame
    have hunseen : s.start.awaitsRelease.noteUnseen = (s.start.awaitsRelease.count Oid.POWER_CYCLES 32).noteSource 0 :=
      State.noteUnseen_powerOn (by rw [hrst]; exact hone) (by rw [hrst]; exact hseen)
    have hwith : (s.start.awaitsRelease.count Oid.POWER_CYCLES 32).seenWith 0 = 1 := by
      have h1 : (s.start.awaitsRelease.count Oid.POWER_CYCLES 32).rst = s.rst := hrst
      simp only [State.seenWith, h1, hcomplete, hseen]
      rfl
    have hasserted : ((s.start.awaitsRelease.count Oid.POWER_CYCLES 32).noteSource 0).rst.asserted = 1 := (congrArg (·.asserted) hrst).trans hone
    have hnoted := State.noteSource_rst (s.start.awaitsRelease.count Oid.POWER_CYCLES 32) 0
    have hcause := State.noteSource_cause (s.start.awaitsRelease.count Oid.POWER_CYCLES 32) 0
    have hrec := State.noteSource_recorded (s.start.awaitsRelease.count Oid.POWER_CYCLES 32) 0
    rw [hwith] at hcause
    rw [hcause] at hrec
    have hreach' : ((s.start.awaitsRelease.count Oid.POWER_CYCLES 32).noteSource 0).rst.reach = 1 := by
      have h1 : (s.start.awaitsRelease.count Oid.POWER_CYCLES 32).rst = s.rst := hrst
      rw [hnoted]
      simp only [State.countsSource, h1, hcomplete, hreach]
      rfl
    have hpow' : ((s.start.awaitsRelease.count Oid.POWER_CYCLES 32).noteSource 0).pow = s.pow := (State.noteSource_pow ..).trans hpow
    generalize (s.start.awaitsRelease.count Oid.POWER_CYCLES 32).noteSource 0 = u at *
    have heq := State.tryRelease_starts (s := s.start) ratio hin hfrozen hautumn hunseen hpow' (fun b ha => by
      have ha' : (1#32).getLsbD b = true := (congrArg (·.getLsbD b) hasserted).symm.trans ha
      obtain rfl : b = 0 := by simpa using ha'
      exact ⟨by decide, hrel⟩)
    have hup := (u.withAsserted 0).startedUp_startUp ratio
    rw [exec_resetRelease, heq]
    exact ⟨_, rfl, hup.inReset, hup.asserted, hup.spring, hup.reach.trans hreach', hup.cause.trans hcause,
      hup.records.recorded (hrec.congr rfl)⟩
  · obtain ⟨hrst, hpow, hobjs⟩ := s.start.awaitsRelease_frame
    have hunseen : s.start.awaitsRelease.noteUnseen = s.start.awaitsRelease :=
      State.noteUnseen_of_seen fun c hc ha => by
        rw [hrst] at ha ⊢
        exact hseen c hc ha
    obtain ⟨v, hv, hbits⟩ := s.start.awaitsRelease.clearSources_shape
    have hvb : v.getLsbD b = true := by
      have hnot' : s.start.awaitsRelease.releasable b = false := by
        simp only [State.releasable, hpow]
        exact hnot
      rw [hbits b, hrst, hnot']
      simpa using hset
    have hne : v ≠ 0 := fun h => by
      rw [h] at hvb
      exact Bool.false_ne_true (BitVec.getLsbD_zero.symm.trans hvb)
    have heq := State.tryRelease_eq (s := s.start) ratio hin hfrozen
    rw [hunseen, hv] at heq
    rw [exec_resetRelease, heq]
    refine ⟨_, congrArg _ (if_neg fun h => hne h.1), ?_, hvb, hpow, hobjs⟩
    exact (congrArg (·.inReset) hrst).trans hin
  · have hm := (s.start.reach (s.rst.strapAt + sec 1)).strapMeasured_measureStrap ratio
    refine ⟨_, exec_strapRetry ratio hfault hin, hm.shown, hm.fault, hm.value, ?_⟩
    rw [hm.clk]
    exact s.start.le_reach_clk (s.rst.strapAt + sec 1)
  · have hin := State.doResets_inReset bs (s.start.reach (at' + us 1200)).endsWait hbs (.inl hne)
    refine ⟨_, exec_releaseResetTimeout hpend, hin.mode, hin.pending, hin.inReset, ?_, fun b hb => State.doResets_asserted bs _ hbs (.inl hb)⟩
    rw [State.doResets_clk]
    exact s.start.le_reach_clk (at' + us 1200)
  · obtain ⟨hseen, hcause, hop, hautumn, hnext, hres⟩ := s.start.powerOn_facts
    have hlost := State.tellsOpenSet_frame (s.start.losePending.aonFresh.aonRegisters.doReset 0) s.start.losePending.pow.openSet
    have hrec := hres.recorded
    rw [hcause] at hrec
    have heq := s.start.powerOn_eq
    generalize s.start.losePending.aonFresh.aonRegisters.doReset 0 = u at *
    obtain ⟨hmode, hrst, hobjs, htb, hpow, hlaunches, hrecords, hnumbers⟩ := hlost
    have hexec : exec .powerOn s = .next s.start.powerOn := rfl
    rw [hexec, heq]
    refine ⟨_, rfl, hmode.trans hres.mode, ?_, ?_, ?_, ?_, ?_, ?_, hlaunches.trans hres.launches, hrecords.recorded hrec, fun h hmem hfree => ?_⟩
    · rw [hrst, hseen]
    · rw [hrst, hres.asserted, show s.start.losePending.aonFresh.aonRegisters.rst.asserted = 1 from rfl]
      rfl
    · rw [hrst, hres.inReset]
    · rw [State.nat_congr hobjs, hcause]
    · rw [htb, hop]
    · rw [hpow, hautumn]
    · exact Nat.le_trans (hnext h hmem hfree) hnumbers.next_le

end Sys2Proof.Machine
end

section
/-! ### Blocks in reset as the host asks (R125, R127, R128) -/

namespace Sys2Proof.Machine

/-! ### Unsigned numbers as host writes -/

/-- An unsigned number in its row's own bytes. -/
theorem ObjRow.Takes.of_unsigned {r : ObjRow} {v : Nat} (hs : r.ty.isSigned = false) (hb : r.ty.isBytes = false) (hbool : r.ty ≠ .bool)
    (hreal : r.ty ≠ .real32) (hlt : v < 256 ^ r.ty.size) (hr : r.plain = true) (hm : bitMask r.base = none) (hrng : r.rng.allows (.num v) = true)
    (harm : r.base ≠ 0x10011005) (hdoor : r.base ≠ 0x20000100) : r.Takes (leBytes r.ty.size v) v where
  plain := hr
  number := hb
  length := leBytes_length ..
  value := by
    have hdec : r.ty.dec (leBytes r.ty.size v) = v := by
      unfold Ty.dec
      rw [hs, if_neg (by simp), leNat_leBytes, Nat.mod_eq_of_lt hlt]
    simp [maskBits, hm, hdec]
  bool h := absurd h hbool
  notReal := hreal
  range := hrng
  notArm h := absurd h harm
  notDoor h := absurd h hdoor

/-! ### BLOCK_RST (R125, R127, R128) -/

/-- The row of BLOCK_RST. -/
def blockRstRow : ObjRow := ⟨0x00000520, [], .u64, .rwp, .num 0, true, .any, .request⟩

theorem lookup_BLOCK_RST : lookup 0x00000520 = some (blockRstRow, []) := rfl

theorem blockRstRow_takes (v : BitVec 64) : blockRstRow.Takes (leBytes 8 v.toNat) v.toNat :=
  .of_unsigned rfl rfl (by decide) (by decide) v.isLt (by decide) rfl rfl (by decide) (by decide)

/-- The register takes the value, and the twin is told. -/
def State.takesBlockRst (s : State) (v : Nat) : State := (s.setN Oid.BLOCK_RST v).mirror (.blockReset (BitVec.ofNat 64 v))

/-- Block `b` follows its bit, which was that of `old` and is that of `v`. -/
def State.blockFollows (v old : Nat) (s : State) (b : Nat) : State :=
  if v.testBit b && !old.testBit b then s.blockAssert b 0
  else if !v.testBit b && old.testBit b then s.blockRelease b
  else s

theorem State.blockRst_eq (s : State) (v : Nat) :
    s.blockRst v = (List.range 64).foldl (State.blockFollows v (s.nat Oid.BLOCK_RST)) (s.takesBlockRst v) := by
  unfold State.blockRst State.takesBlockRst State.blockFollows
  with_reducible rfl

/-- A block leaves reset. -/
def State.blockFree (s : State) (b : Nat) : State := (s.setBit Oid.BLOCK_IN_RST b false).setBit Oid.RST_PEND b false

theorem State.blockRelease_eq (s : State) (b : Nat) :
    s.blockRelease b =
      if !s.bit Oid.BLOCK_IN_RST b || s.bit Oid.BLOCK_RST b || !s.pd (blockDomain b) then s
      else if !s.blockClock b then s.setBit Oid.RST_PEND b true
      else ((s.blockFree b).blockLeave b).event 0x0106 b (((s.blockFree b).clk - Tbl.get 0 (s.blockFree b).rst.blockAt b) / 1000) := by
  unfold State.blockRelease State.blockFree
  with_reducible rfl

theorem State.blockFree_bit (s : State) (b j : Nat) :
    (s.blockFree b).bit Oid.BLOCK_IN_RST j = (!decide (j = b) && s.bit Oid.BLOCK_IN_RST j) := by
  rw [State.blockFree, State.bit_setBit_ne _ _ _ _ _ _ (by decide), State.bit_setBit]
  by_cases h : j = b <;> simp [h]

/-- What the release of a block leaves of the blocks in reset: only its own bit can change. -/
theorem State.blockRelease_bit_other (s : State) {b j : Nat} (h : j ≠ b) :
    (s.blockRelease b).bit Oid.BLOCK_IN_RST j = s.bit Oid.BLOCK_IN_RST j := by
  rw [s.blockRelease_eq]
  split
  · rfl
  · split
    · exact State.bit_setBit_ne _ _ _ _ _ _ (by decide)
    · rw [State.bit_congr (State.get_event _ _ _ _ _ _ (by decide)), State.bit_congr (State.blockLeave_get_BLOCK_IN_RST ..), s.blockFree_bit]
      simp [h]

/-- A released block whose domain is on leaves reset where its clock is good. -/
theorem State.blockRelease_bit_same {s : State} {b : Nat} (hreg : s.bit Oid.BLOCK_RST b = false) (hpd : s.pd (blockDomain b) = true)
    (hck : s.ck (blockDomain b) = true) : (s.blockRelease b).bit Oid.BLOCK_IN_RST b = false := by
  rw [s.blockRelease_eq]
  split
  · next h => simpa [hreg, hpd] using h
  · rw [if_neg (by simp [State.blockClock, hck]), State.bit_congr (State.get_event _ _ _ _ _ _ (by decide)),
      State.bit_congr (State.blockLeave_get_BLOCK_IN_RST ..), s.blockFree_bit]
    simp

theorem State.blockAssert_bit_other (s : State) (cause : Nat) {b j : Nat} (h : j ≠ b) :
    (s.blockAssert b cause).bit Oid.BLOCK_IN_RST j = s.bit Oid.BLOCK_IN_RST j := by
  rw [s.blockAssert_bit]
  simp [h]

theorem State.blockFollows_bit_other (v old : Nat) (s : State) {b j : Nat} (h : j ≠ b) :
    (s.blockFollows v old b).bit Oid.BLOCK_IN_RST j = s.bit Oid.BLOCK_IN_RST j := by
  unfold State.blockFollows
  split
  · exact s.blockAssert_bit_other 0 h
  · split
    · exact s.blockRelease_bit_other h
    · rfl

theorem State.blockFollows_get (v old : Nat) (s : State) (b : Nat) {k : Key} (ha : (s.blockAssert b 0).get k = s.get k)
    (hr : (s.blockRelease b).get k = s.get k) : (s.blockFollows v old b).get k = s.get k := by
  unfold State.blockFollows
  split
  · exact ha
  · split
    · exact hr
    · rfl

theorem State.blockAssert_get_BLOCK_RST (s : State) (b cause : Nat) : (s.blockAssert b cause).get Oid.BLOCK_RST = s.get Oid.BLOCK_RST :=
  s.blockAssert_get b cause _ (by decide) (by decide) (by decide) (fun u => u.blockEnter_get_BLOCK_RST b)

theorem State.blockAssert_get_CK_GOOD (s : State) (b cause : Nat) : (s.blockAssert b cause).get Oid.CK_GOOD = s.get Oid.CK_GOOD :=
  s.blockAssert_get b cause _ (by decide) (by decide) (by decide) (fun u => u.blockEnter_get_CK_GOOD b)

theorem State.blockAssert_get_PD_STATE (s : State) (b cause : Nat) : (s.blockAssert b cause).get Oid.PD_STATE = s.get Oid.PD_STATE :=
  s.blockAssert_get b cause _ (by decide) (by decide) (by decide) (fun u => u.blockEnter_get_PD_STATE b)

/-- The registers that say whether a block may leave reset are those of `s`. -/
structure State.SameGates (s t : State) : Prop where
  reg : t.get Oid.BLOCK_RST = s.get Oid.BLOCK_RST
  pd : t.get Oid.PD_STATE = s.get Oid.PD_STATE
  ck : t.get Oid.CK_GOOD = s.get Oid.CK_GOOD

theorem State.SameGates.refl (s : State) : s.SameGates s := ⟨rfl, rfl, rfl⟩

theorem State.SameGates.follows {s u : State} (h : s.SameGates u) (v old b : Nat) : s.SameGates (u.blockFollows v old b) where
  reg := (u.blockFollows_get v old b (u.blockAssert_get_BLOCK_RST b 0) (u.blockRelease_get_BLOCK_RST b)).trans h.reg
  pd := (u.blockFollows_get v old b (u.blockAssert_get_PD_STATE b 0) (u.blockRelease_get_PD_STATE b)).trans h.pd
  ck := (u.blockFollows_get v old b (u.blockAssert_get_CK_GOOD b 0) (u.blockRelease_get_CK_GOOD b)).trans h.ck

/-- A run over a list in which one element brings about `P`, and none ends it once it holds. -/
theorem List.foldl_reaches {α β : Type} {g : β → α → β} {I P : β → Prop} {j : α} (hI : ∀ u a, I u → I (g u a)) (hP : ∀ u a, I u → P u → P (g u a))
    (hj : ∀ u, I u → P (g u j)) {l : List α} (h : j ∈ l) (s : β) (hs : I s) : P (l.foldl g s) := by
  have hstays (l : List α) (s : β) (hs : I s) (hp : P s) : P (l.foldl g s) := by
    induction l generalizing s with
    | nil => exact hp
    | cons a l ih => exact ih _ (hI s a hs) (hP s a hs hp)
  induction l generalizing s with
  | nil => exact absurd h List.not_mem_nil
  | cons a l ih =>
    rcases List.mem_cons.1 h with rfl | h
    · exact hstays l _ (hI s j hs) (hj s hs)
    · exact ih h _ (hI s a hs)

section

variable (s : State) {v b : Nat} (hb : b < 64)

include hb

/-- A block whose bit is set anew is in reset. -/
theorem State.blockRst_holds (hnew : v.testBit b = true) (hold : s.bit Oid.BLOCK_RST b = false) : (s.blockRst v).bit Oid.BLOCK_IN_RST b = true := by
  have hfollows (u : State) : (u.blockFollows v (s.nat Oid.BLOCK_RST) b) = u.blockAssert b 0 :=
    if_pos (by rw [hnew, show (s.nat Oid.BLOCK_RST).testBit b = false from hold]; rfl)
  rw [s.blockRst_eq]
  refine List.foldl_reaches (I := fun _ => True) (P := fun u : State => u.bit Oid.BLOCK_IN_RST b = true) (j := b) (fun _ _ _ => trivial)
    (fun u c _ hu => ?_) (fun u _ => ?_) (List.mem_range.2 hb) _ trivial
  · by_cases hc : b = c
    · subst hc
      rw [hfollows, u.blockAssert_bit]
      simp
    · rw [u.blockFollows_bit_other v _ hc, hu]
  · rw [hfollows, u.blockAssert_bit]
    simp

/-- A block whose bit is cleared leaves reset, with its domain on and its clock good. -/
theorem State.blockRst_frees (hnew : v.testBit b = false) (hold : s.bit Oid.BLOCK_RST b = true) (hpd : s.pd (blockDomain b) = true)
    (hck : s.ck (blockDomain b) = true) : (s.blockRst v).bit Oid.BLOCK_IN_RST b = false := by
  have hfollows (u : State) : (u.blockFollows v (s.nat Oid.BLOCK_RST) b) = u.blockRelease b := by
    rw [State.blockFollows, hnew, show (s.nat Oid.BLOCK_RST).testBit b = true from hold]
    rfl
  have hfree (u : State) (hu : (s.takesBlockRst v).SameGates u) : (u.blockRelease b).bit Oid.BLOCK_IN_RST b = false := by
    have hget (k : Key) (hk : k.oid ≠ Oid.BLOCK_RST.oid) : (s.takesBlockRst v).get k = s.get k :=
      (State.get_mirror ..).trans (State.get_setN_other _ _ _ _ hk.symm)
    have hreg : (s.takesBlockRst v).bit Oid.BLOCK_RST b = false := by
      rw [State.takesBlockRst, State.bit_congr (State.get_mirror ..), State.bit, State.nat_setN_same, hnew]
    refine State.blockRelease_bit_same ((State.bit_congr hu.reg b).trans hreg) ((State.bit_congr hu.pd _).trans ?_) ((State.bit_congr hu.ck _).trans ?_)
    · exact (State.bit_congr (hget _ (by decide)) _).trans hpd
    · exact (State.bit_congr (hget _ (by decide)) _).trans hck
  rw [s.blockRst_eq]
  refine List.foldl_reaches (I := (s.takesBlockRst v).SameGates) (P := fun u => u.bit Oid.BLOCK_IN_RST b = false) (j := b)
    (fun u c hu => hu.follows v _ c) (fun u c hs hu => ?_) (fun u hs => ?_) (List.mem_range.2 hb) _ (.refl _)
  · by_cases hc : b = c
    · subst hc
      rw [hfollows, hfree u hs]
    · rw [u.blockFollows_bit_other v _ hc, hu]
  · rw [hfollows, hfree u hs]

omit hb in
/-- A block whose bit does not change stays as it is. -/
theorem State.blockRst_keeps (hsame : v.testBit b = s.bit Oid.BLOCK_RST b) : (s.blockRst v).bit Oid.BLOCK_IN_RST b = s.bit Oid.BLOCK_IN_RST b := by
  have hfollows (u : State) : (u.blockFollows v (s.nat Oid.BLOCK_RST) b) = u := by
    rw [State.blockFollows, hsame, State.bit]
    cases (s.nat Oid.BLOCK_RST).testBit b <;> rfl
  have hstart : (s.takesBlockRst v).bit Oid.BLOCK_IN_RST b = s.bit Oid.BLOCK_IN_RST b :=
    State.bit_congr ((State.get_mirror ..).trans (State.get_setN_other _ _ _ _ (by decide))) b
  rw [s.blockRst_eq]
  refine (State.foldl_keeps (fun u : State => u.bit Oid.BLOCK_IN_RST b) (fun u c => ?_) _ _).trans hstart
  by_cases hc : b = c
  · subst hc
    exact congrArg (·.bit Oid.BLOCK_IN_RST b) (hfollows u)
  · exact u.blockFollows_bit_other v _ hc

omit hb in
theorem State.blockRst_get_BLOCK_RST : (s.blockRst v).nat Oid.BLOCK_RST = v := by
  have hgates : (s.takesBlockRst v).SameGates (s.blockRst v) := by
    rw [s.blockRst_eq]
    generalize List.range 64 = l
    have hrun (u : State) (hu : (s.takesBlockRst v).SameGates u) :
        (s.takesBlockRst v).SameGates (l.foldl (State.blockFollows v (s.nat Oid.BLOCK_RST)) u) := by
      induction l generalizing u with
      | nil => exact hu
      | cons c l ih => exact ih _ (hu.follows v _ c)
    exact hrun _ (.refl _)
  have hset : (s.takesBlockRst v).nat Oid.BLOCK_RST = v := (congrArg Int.toNat (State.get_mirror ..)).trans (State.nat_setN_same ..)
  exact (congrArg Int.toNat hgates.reg).trans hset

end

/-- A lost PTP link changes which port is followed: no register but those of the time base. -/
theorem State.ptpLinkLost_get (s : State) (k : Key) (h : k.oid ≠ Oid.TIME_STATUS.oid) (hd : k.oid ≠ Oid.REC_DROPPED.oid)
    (hg : k.oid ≠ Oid.LAST_GAP_MS.oid) : s.ptpLinkLost.get k = s.get k := by
  unfold State.ptpLinkLost
  simp only
  split
  · exact s.changePort_get _ _ h hd hg
  · rfl

theorem State.blockBusy_seen (s : State) (n b : Nat) : (s.seen n).blockBusy b = s.blockBusy b := rfl

theorem State.blockRstCheck_passes {s : State} {v : Nat}
    (h : ∀ b : Nat, b < 64 → v.testBit b = true → s.bit Oid.BLOCK_RST b = true ∨ s.blockBusy b = false) : s.blockRstCheck v = none := by
  have hall : ((List.range 64).all fun b => !v.testBit b || s.bit Oid.BLOCK_RST b || !s.blockBusy b) = true := by
    rw [List.all_eq_true]
    intro b hb
    cases hv : v.testBit b
    · rfl
    · rcases h b (List.mem_range.1 hb) hv with h | h <;> simp [h]
  rw [State.blockRstCheck, hall]
  rfl

theorem State.blockRstCheck_busy {s : State} {v b : Nat} (hb : b < 64) (hv : v.testBit b = true) (hfree : s.bit Oid.BLOCK_RST b = false)
    (hbusy : s.blockBusy b = true) : s.blockRstCheck v = some ⟨.busy, [], none⟩ := by
  have hall : ((List.range 64).all fun b => !v.testBit b || s.bit Oid.BLOCK_RST b || !s.blockBusy b) = false := by
    rw [List.all_eq_false]
    exact ⟨b, List.mem_range.2 hb, by simp [hv, hfree, hbusy]⟩
  rw [State.blockRstCheck, hall]
  rfl

/-- Settles O19: BLOCK_RST passes its check unless a block in use would be reset, and each block follows its bit. -/
theorem blockResets : Obligations.BlockResets := by
  unfold Obligations.BlockResets
  intro s ses req v h
  refine ⟨fun hfree => ?_, fun b hb hv hnot hbusy => ?_⟩
  · have hpass : (s.seen ses.val).blockRstCheck v.toNat = none := State.blockRstCheck_passes hfree
    obtain ⟨t, ht, -, hlike⟩ := s.hostRow_number ses.val req h lookup_BLOCK_RST rfl (blockRstRow_takes v) (by simp [blockRstRow])
      (by simpa [State.ownerCheck, blockRstRow, State.check00] using hpass)
      ((s.landed ses.val req { oid := 0x00000520, data := leBytes 8 v.toNat }).blockRst v.toNat).ptpLinkLost rfl
      (by rw [State.ptpLinkLost_acc_sessions, State.blockRst_acc_sessions]) (by simp)
    have hbit (j : Nat) : t.bit Oid.BLOCK_IN_RST j
        = ((s.landed ses.val req { oid := 0x00000520, data := leBytes 8 v.toNat }).blockRst v.toNat).bit Oid.BLOCK_IN_RST j :=
      (hlike.bit ..).trans (State.bit_congr (State.ptpLinkLost_get _ _ (by decide) (by decide) (by decide)) j)
    refine ⟨t, congrArg _ ht, ?_, ?_, fun b hb hv hold => ?_, fun b hb hv hold hpd hck => ?_, fun b hb hsame => ?_⟩
    · rw [hlike.nat]
      exact (congrArg Int.toNat (State.ptpLinkLost_get _ _ (by decide) (by decide) (by decide))).trans (State.blockRst_get_BLOCK_RST _)
    · simp [hlike.mode]
    · rw [hbit]
      exact State.blockRst_holds _ hb hv (by simpa using hold)
    · rw [hbit]
      exact State.blockRst_frees _ hb hv (by simpa using hold) (by simpa [State.pd] using hpd) (by simpa [State.ck] using hck)
    · rw [hbit, State.blockRst_keeps _ ((BitVec.testBit_toNat v).trans (hsame.trans (State.bit_landed ..).symm))]
      simp
  · have hbusy' : (s.seen ses.val).blockRstCheck v.toNat = some ⟨.busy, [], none⟩ := State.blockRstCheck_busy hb hv hnot hbusy
    obtain ⟨t, ht, hans, hlike⟩ := s.hostRow_numberDenied ses.val req ⟨.busy, [], none⟩ h lookup_BLOCK_RST rfl (blockRstRow_takes v)
      (by simp [blockRstRow]) (by simpa [State.ownerCheck, blockRstRow, State.check00] using hbusy') rfl rfl
    exact ⟨t, congrArg _ ht, hans, hlike.objs, hlike.blobs, hlike.rcd⟩

end Sys2Proof.Machine
end

section
/-! ### PTP and the status of the time base (R143 to R150, R153) -/

namespace Sys2Proof.Machine

/-! ### The status of the time base -/

theorem State.timeMark_waiting (s : State) : s.timeMark.rcd.waitingCount ≤ s.rcd.waitingCount + 1 := State.event_waiting s.marksNow ..

theorem State.gapKnown_waiting (s : State) : s.gapKnown.rcd.waitingCount ≤ s.rcd.waitingCount + 1 := by
  unfold State.gapKnown
  split
  · exact Nat.le_succ _
  · exact State.event_waiting ..

theorem State.marksStatus_waiting (s : State) (st : Nat) : (s.marksStatus st).rcd.waitingCount ≤ s.rcd.waitingCount + 1 :=
  State.timeMark_waiting ..

theorem State.setStatus_waiting (s : State) (st : Nat) : (s.setStatus st).rcd.waitingCount ≤ s.rcd.waitingCount + 2 := by
  have hmark := s.marksStatus_waiting st
  have hgap := (((s.marksStatus st).flagIntervals 4)).learnsGap.rcd.waitingCount
  rw [s.setStatus_eq]
  split
  · omega
  · have hflag : (if st = 3 ∨ st = 4 then (s.marksStatus st).flagIntervals 4 else s.marksStatus st).rcd = (s.marksStatus st).rcd := by split <;> rfl
    simp only
    split
    · exact Nat.le_trans (State.gapKnown_waiting _) (Nat.succ_le_succ (Nat.le_trans (Nat.le_of_eq (congrArg (·.waitingCount) hflag)) hmark))
    · exact Nat.le_trans (Nat.le_of_eq (congrArg (·.waitingCount) hflag)) (Nat.le_trans hmark (Nat.le_succ _))

theorem State.marksStatus_status (s : State) (st : Nat) : (s.marksStatus st).tb.status = st := by
  rw [State.marksStatus, State.timeMark_eq, State.event_tb]
  rfl

theorem State.marksStatus_shows (s : State) (st : Nat) : (s.marksStatus st).nat Oid.TIME_STATUS = st :=
  (congrArg Int.toNat (State.timeMark_get _ _ (by decide))).trans (State.nat_setN_same ..)

/-- A changed status is TIME_STATUS. -/
theorem State.setStatus_shows (s : State) {st : Nat} (h : s.tb.status ≠ st) : (s.setStatus st).nat Oid.TIME_STATUS = st := by
  have hflag : (if st = 3 ∨ st = 4 then (s.marksStatus st).flagIntervals 4 else s.marksStatus st).nat Oid.TIME_STATUS = st := by
    split <;> exact s.marksStatus_shows st
  rw [s.setStatus_eq, if_neg h]
  simp only
  split
  · exact (congrArg Int.toNat (State.gapKnown_get _ _ (by decide) (by decide))).trans hflag
  · exact hflag

/-! ### A Sync of the grandmaster (R143, R145 to R148) -/

/-- A Sync of the port, with the measured offset. -/
def State.hearsSync (s : State) (p : Nat) (o : Int) : State :=
  { s with tb := { s.tb with heard := s.tb.heard.put 0 p (s.clk + 1), portOffset := s.tb.portOffset.put none p (some o) } }

/-- The offset is shown, and gives the grandmaster's present time. -/
def State.measures (s : State) (o : Int) : State :=
  let u := s.showOffset o
  { u with tb := { u.tb with gmTime := (u.time - o).toNat, gmAt := u.clk } }

/-- The count of good offsets in a row. -/
def State.goodRun (s : State) (o : Int) : Nat := if o.natAbs ≤ 1000 then s.tb.good + 1 else 0

/-- The clock is slewed by an offset that is no fault. -/
def State.slews (s : State) (o : Int) : State := { s with tb := { s.tb with good := min (s.goodRun o) 16 } }.slew

theorem State.followSync_eq (s : State) (p : Nat) (o : Int) :
    s.followSync p o =
      if (s.measures o).tb.status = 0 ∨ (s.measures o).faulted then s.measures o
      else if o.natAbs > 10000000 then (s.measures o).timeFault o
      else if (s.measures o).goodRun o ≥ 16 ∧ ((s.measures o).slews o).tb.status ≠ 2 then (((s.measures o).slews o).setStatus 2).event 0x1101 p (par o)
      else (s.measures o).slews o := by
  unfold State.followSync State.measures State.slews State.goodRun
  with_reducible rfl

theorem State.measures_get (s : State) (o : Int) : (s.measures o).get Oid.TIME_OFFSET_NS = clampInt (-2147483647) 2147483647 o :=
  State.get_set_same ..

theorem clampInt_of_mem {lo hi v : Int} (h : lo ≤ v) (g : v ≤ hi) : clampInt lo hi v = v := by
  rw [clampInt, if_neg (Int.not_lt.2 h), if_neg (Int.not_lt.2 g)]

theorem State.slews_get (s : State) (o : Int) : (s.slews o).get Oid.TIME_OFFSET_NS = s.get Oid.TIME_OFFSET_NS :=
  State.get_set_other _ _ _ _ (by decide)

theorem State.slews_tb (s : State) (o : Int) : (s.slews o).tb.status = s.tb.status ∧ (s.slews o).tb.good = min (s.goodRun o) 16 := ⟨rfl, rfl⟩

theorem State.slews_rcd (s : State) (o : Int) : (s.slews o).rcd = s.rcd := rfl

theorem State.measures_rcd (s : State) (o : Int) : (s.measures o).rcd = s.rcd := rfl

/-- A Sync that the module follows. -/
structure State.Follows (s : State) (p : Nat) : Prop where
  on : s.ptpOn p = true
  gm : s.tb.gm = true
  follower : s.tb.follower = p
  untimed : s.twinTimed = false

theorem State.sync_eq (s : State) (p : Nat) (o : Int) (valid : Bool) :
    s.sync p o valid =
      if !s.ptpOn p || !valid then s
      else if !(s.hearsSync p o).tb.gm || (s.hearsSync p o).tb.follower != p then s.hearsSync p o
      else if (s.hearsSync p o).twinTimed then
        { s.hearsSync p o with tb := { (s.hearsSync p o).tb with ptpDiffers := decide (o.natAbs > 1000) } }
      else (s.hearsSync p o).followSync p o := by
  unfold State.sync State.hearsSync
  with_reducible rfl

theorem exec_sync {s : State} {port : Fin 4} (o : Int) (h : s.Follows port.val) :
    exec (.sync port o true) s = .next ((s.start.hearsSync port.val o).followSync port.val o) := by
  have hon : s.start.ptpOn port.val = true := h.on
  have hgm : (s.start.hearsSync port.val o).tb.gm = true := h.gm
  have hf : (s.start.hearsSync port.val o).tb.follower = port.val := h.follower
  have htwin : (s.start.hearsSync port.val o).twinTimed = false := h.untimed
  have hexec : exec (.sync port o true) s = .next (s.start.sync port.val o true) := rfl
  rw [hexec, State.sync_eq, hon, hgm, hf, htwin]
  simp

/-- The base has a fault. -/
def State.losesTime (s : State) : State := { s with tb := { s.tb with fault := true, good := 0 } }

/-- The clock of a module that follows a Sync is set and without a fault. -/
theorem State.measures_timed {s : State} (p : Nat) (o : Int) (hset : s.tb.status ≠ 0) (hfault : s.tb.fault = false) :
    ¬ (((s.start.hearsSync p o).measures o).tb.status = 0 ∨ ((s.start.hearsSync p o).measures o).faulted = true) := by
  rintro (h | h)
  · exact hset h
  · exact Bool.false_ne_true (hfault.symm.trans h)

/-! ### Announce (R144, R149) -/

/-- What an Announce message of the port tells, where the module follows no grandmaster. -/
def State.hearsAnnounce (s : State) (p : Nat) (m : AnnounceMsg) : State :=
  let tb := s.tb
  let own := tb.gm && tb.follower == p
  { s with tb := { tb with
    ranks := tb.ranks.put [] p (announceRank p m)
    annHeard := tb.annHeard.put 0 p (s.clk + 1)
    gmTime := if own || !tb.gm then m.time.toNat else tb.gmTime
    gmAt := if own || !tb.gm then s.clk else tb.gmAt } }

theorem State.announce_eq {s : State} {p : Nat} (m : AnnounceMsg) (hon : s.ptpOn p = true) (hdom : m.domain.toNat = s.ptpDomain) :
    s.announce p m = (s.hearsAnnounce p m).reselect := by
  refine if_neg ?_
  rw [hon, hdom]
  simp

theorem State.hearsAnnounce_announced (s : State) (p q : Nat) (m : AnnounceMsg) :
    (s.hearsAnnounce p m).announced q = if q = p then true else s.announced q := by
  unfold State.announced
  by_cases h : q = p
  · subst h
    rw [if_pos rfl, show Tbl.get 0 (s.hearsAnnounce q m).tb.annHeard q = s.clk + 1 from Tbl.get_put_same 0 s.tb.annHeard q (s.clk + 1)]
    simp [State.passed, State.hearsAnnounce, sec]
  · rw [if_neg h, show Tbl.get 0 (s.hearsAnnounce p m).tb.annHeard q = Tbl.get 0 s.tb.annHeard q from Tbl.get_put_other 0 0 s.tb.annHeard p q (s.clk + 1) (Ne.symm h)]
    rfl

/-- The only port that is announced gives the best grandmaster. -/
theorem State.bestGm_of_only {s : State} {p : Nat} (m : AnnounceMsg) (hon : s.ptpOn p = true) (hlink : s.portLinked p = true)
    (hother : s.announced (1 - p) = false) : (s.hearsAnnounce p m).bestGm = some (p, announceRank p m) := by
  have hp : p < 2 := by
    simp only [State.ptpOn, Bool.and_eq_true, decide_eq_true_eq] at hon
    exact hon.1.2
  have hself : (s.hearsAnnounce p m).ptpOn p = true ∧ (s.hearsAnnounce p m).portLinked p = true ∧ (s.hearsAnnounce p m).announced p = true :=
    ⟨hon, hlink, (s.hearsAnnounce_announced p p m).trans (if_pos rfl)⟩
  have hne : 1 - p ≠ p := by omega
  have hquiet : (s.hearsAnnounce p m).announced (1 - p) = false := ((s.hearsAnnounce_announced p _ m).trans (if_neg hne)).trans hother
  have hrank : (s.hearsAnnounce p m).tb.ranks.find p = some (announceRank p m) := by
    have hput : Tbl.put [] s.tb.ranks p (announceRank p m) = s.tb.ranks.ins p (announceRank p m) := if_neg (by simp [announceRank])
    rw [show (s.hearsAnnounce p m).tb.ranks = _ from hput, Tbl.find_ins_same]
  obtain ⟨h1, h2, h3⟩ := hself
  have hpp : p = 0 ∨ p = 1 := by omega
  unfold State.bestGm
  rcases hpp with rfl | rfl
  · simp [h1, h2, h3, hrank, show (s.hearsAnnounce 0 m).announced 1 = false from hquiet]
  · simp [h1, h2, h3, hrank, show (s.hearsAnnounce 1 m).announced 0 = false from hquiet]

/-- A grandmaster is followed on a port, and its identity shown. -/
def State.followsGm (s : State) (p id : Nat) : State :=
  let u := { s with tb := { s.tb with gm := true, master := false, follower := p, good := 0 } }
  (u.setBlob Oid.PTP_GM_ID (leBytes 8 id)).event 0x1106 id (id / 4294967296)

theorem State.selectGm_eq (s : State) (p id : Nat) :
    s.selectGm p id =
      if (s.followsGm p id).twinTimed then s.followsGm p id
      else if (s.followsGm p id).tb.status = 0 then ((s.followsGm p id).stepTime (s.followsGm p id).gmNow).setStatus 1
      else if (s.followsGm p id).faulted then s.followsGm p id
      else (s.followsGm p id).setStatus 1 := by
  unfold State.selectGm State.followsGm
  with_reducible rfl

theorem State.followsGm_tb (s : State) (p id : Nat) :
    (s.followsGm p id).tb = { s.tb with gm := true, master := false, follower := p, good := 0 } := by
  rw [State.followsGm, State.event_tb]
  rfl

/-- A selected grandmaster of a timed module: the base acquires. -/
theorem State.selectGm_timed {s : State} (p id : Nat) (htwin : s.twinTimed = false) (hset : s.tb.status ≠ 0) (hfault : s.tb.fault = false) :
    s.selectGm p id = (s.followsGm p id).setStatus 1 := by
  have htb := s.followsGm_tb p id
  have hst : (s.followsGm p id).tb.status = s.tb.status := congrArg (·.status) htb
  have htwin' : (s.followsGm p id).twinTimed = false := by
    rw [State.twinTimed, hst, State.followsGm, State.event_mode]
    exact htwin
  have hf : (s.followsGm p id).faulted = false := (congrArg (·.fault) htb).trans hfault
  rw [s.selectGm_eq, htwin', hf, hst]
  simp [hset]

theorem State.followsGm_emits (s : State) (p id : Nat) : (s.followsGm p id).emits = s.emits := State.event_emits ..

theorem State.followsGm_waiting (s : State) (p id : Nat) : (s.followsGm p id).rcd.waitingCount ≤ s.rcd.waitingCount + 1 :=
  State.event_waiting ..

theorem State.followsGm_blob (s : State) (p id : Nat) : (s.followsGm p id).blob Oid.PTP_GM_ID = leBytes 8 id := by
  rw [State.followsGm, State.blob_event]
  exact State.blob_setBlob_same ..

theorem State.followsGm_recorded {s : State} (hroom : s.Room) (p id : Nat) : (s.followsGm p id).Recorded 0x1106 0xFFFF id (id / 4294967296) 0 :=
  State.event_recorded _ _ _ _ _ (show s.rcd.waitingCount < 32768 by omega)

/-! ### Announce is not received (R146, R149) -/

/-- The grandmaster is gone. -/
def State.losesGm (s : State) : State := { s with tb := { s.tb with gm := false } }

/-- The base goes into holdover at the present time. -/
def State.holdsOver (s : State) : State := { s with tb := { s.tb with holdoverAt := s.time, good := 0 } }

theorem State.holdover_eq (s : State) :
    s.holdover =
      if s.tb.status = 1 ∨ s.tb.status = 2 then (s.holdsOver.setStatus 3).event 0x1102 (par (s.get Oid.TIME_OFFSET_NS)) else s := rfl

theorem State.announceTimeout_eq {s : State} {p : Nat} (hon : s.ptpOn p = true) (hann0 : s.announced 0 = false) (hann1 : s.announced 1 = false)
    (hsync0 : s.synced 0 = false) (hsync1 : s.synced 1 = false) (htwin : s.twinTimed = false) :
    s.announceTimeout p =
      if s.losesGm.holdover.capable && !s.losesGm.holdover.tb.master then s.losesGm.holdover.becomeMaster else s.losesGm.holdover := by
  have hp : p < 2 := by
    simp only [State.ptpOn, Bool.and_eq_true, decide_eq_true_eq] at hon
    exact hon.1.2
  have hother : s.announced (1 - p) = false := by
    rcases (by omega : p = 0 ∨ p = 1) with rfl | rfl
    · exact hann1
    · exact hann0
  have htwin' : s.losesGm.twinTimed = false := htwin
  unfold State.announceTimeout State.losesGm at *
  simp only [hon, hother, hann0, hann1, hsync0, hsync1, htwin', Bool.not_true, Bool.and_false, Bool.or_false, Bool.not_false, Bool.and_self,
    Bool.false_eq_true, if_false, if_true, Bool.true_and]

/-- The base in holdover: what a state `t` that came of `s` shows (R146). -/
structure State.HeldOver (s t : State) : Prop where
  status : t.tb.status = 3
  gm : t.tb.gm = false
  since : t.tb.holdoverAt = s.time
  master : t.tb.master = s.tb.master
  recorded : t.Recorded 0x1102 0xFFFF (par (s.get Oid.TIME_OFFSET_NS)) 0 0
  mode : t.mode = s.mode
  get : ∀ k : Key, k.oid ≠ Oid.TIME_STATUS.oid → k.oid ≠ Oid.REC_DROPPED.oid → k.oid ≠ Oid.LAST_GAP_MS.oid → t.get k = s.get k

theorem State.heldOver_holdover {s : State} (hroom : s.Room) (hst : s.tb.status = 1 ∨ s.tb.status = 2) : s.HeldOver s.losesGm.holdover := by
  have heq : s.losesGm.holdover = (s.losesGm.holdsOver.setStatus 3).event 0x1102 (par (s.get Oid.TIME_OFFSET_NS)) := if_pos hst
  have hwait := s.losesGm.holdsOver.setStatus_waiting 3
  have hw : s.losesGm.holdsOver.rcd.waitingCount = s.rcd.waitingCount := rfl
  rw [heq]
  exact
    { status := by rw [State.event_tb, State.setStatus_status]
      gm := by rw [State.event_tb, State.setStatus_tb_gm]; rfl
      since := by rw [State.event_tb, State.setStatus_tb_holdoverAt]; rfl
      master := by rw [State.event_tb, State.setStatus_tb_master]; rfl
      recorded := State.event_recorded _ _ _ _ _ (by omega)
      mode := by rw [State.event_mode, State.setStatus_mode]; rfl
      get := fun k h1 h2 h3 => (State.get_event _ _ _ _ _ _ h2.symm).trans ((State.setStatus_get _ _ _ h1 h2 h3).trans rfl) }

theorem State.HeldOver.capable {s t : State} (h : s.HeldOver t) (htwin : s.twinTimed = false) : t.capable = s.capable := by
  have htwin' : t.twinTimed = false := by
    rw [State.twinTimed, h.mode, h.status]
    simp only [State.twinTimed, Bool.or_eq_false_iff] at htwin
    rw [htwin.1]
    rfl
  have hget0 : t.get (Oid.PTP_ROLE 0) = s.get (Oid.PTP_ROLE 0) := h.get _ (by decide) (by decide) (by decide)
  have hget1 : t.get (Oid.PTP_ROLE 1) = s.get (Oid.PTP_ROLE 1) := h.get _ (by decide) (by decide) (by decide)
  have hup : t.up .net = s.up .net := by
    simp only [State.up, State.pd, State.ck, State.bit, State.nat, h.get Oid.PD_STATE (by decide) (by decide) (by decide),
      h.get Oid.CK_GOOD (by decide) (by decide) (by decide), h.mode]
  simp only [State.capable, State.ptpOn, htwin, htwin', hget0, hget1, hup]

/-! ### The grandmaster sends, and delays are asked for (R143, R153) -/

theorem State.sendPtp_frame (s : State) (ports : Nat → Bool) (kind seq : Nat) (body : List Byte) :
    s.sendPtp ports kind seq body =
      { s with out := s.out ++ ((List.range 2).filter ports).map (fun p => .ptp p s.ptpTransport s.ptpDomain kind seq body) } := by
  have hrun (l : List Nat) (u : State) : l.foldl (fun s p => s.emit (.ptp p s.ptpTransport s.ptpDomain kind seq body)) u
      = { u with out := u.out ++ l.map (fun p => .ptp p u.ptpTransport u.ptpDomain kind seq body) } := by
    induction l generalizing u with
    | nil => simp
    | cons p l ih =>
      rw [List.foldl_cons, ih]
      simp [State.emit, State.ptpTransport, State.ptpDomain, State.get, State.nat]
  exact hrun _ s

theorem filter_port {p : Nat} (h : p < 2) : (List.range 2).filter (fun q => q == p) = [p] := by
  rcases (by omega : p = 0 ∨ p = 1) with rfl | rfl <;> rfl

theorem State.ptpOn_lt {s : State} {p : Nat} (h : s.ptpOn p = true) : p < 2 := by
  simp only [State.ptpOn, Bool.and_eq_true, decide_eq_true_eq] at h
  exact h.1.2

theorem exec_announceTimeout (s : State) (port : Fin 4) : exec (.announceTimeout port) s = .next (s.start.announceTimeout port.val) := rfl

theorem exec_announce (s : State) (port : Fin 4) (m : AnnounceMsg) : exec (.announce port m) s = .next (s.start.announce port.val m).drain := rfl

/-- Sync leaves from every port in use, at its interval. -/
def State.sendsSync (s : State) : State :=
  { s.sendPtp s.ptpOn 0 s.tb.seqSync.toNat (leBytes 8 s.time) with tb := { s.tb with seqSync := s.tb.seqSync + 1, syncAt := s.clk } }

theorem exec_syncInterval {s : State} (hmaster : s.tb.master = true) (htwin : s.twinTimed = false) :
    exec .syncInterval s = .next (s.start.reach (s.tb.syncAt + s.syncNs)).sendsSync := by
  have hcond : ¬ (!s.start.tb.master || s.start.twinTimed) = true := by
    rw [show s.start.tb.master = true from hmaster, show s.start.twinTimed = false from htwin]
    decide
  exact congrArg Host.Outcome.next (if_neg hcond)

/-- Announce leaves from every port in use, once a second. -/
def State.sendsAnnounce (s : State) : State :=
  { s.sendPtp s.ptpOn 1 s.tb.seqAnn.toNat s.announceBody with tb := { s.tb with seqAnn := s.tb.seqAnn + 1, annAt := s.clk } }

theorem exec_announceInterval {s : State} (hmaster : s.tb.master = true) (htwin : s.twinTimed = false) (hset : s.tb.status ≠ 0)
    (hfault : s.tb.fault = false) : exec .announceInterval s = .next (s.start.reach (s.tb.annAt + sec 1)).sendsAnnounce := by
  have hcond : ¬ (!s.start.tb.master || s.start.tb.status = 0 || s.start.faulted || s.start.twinTimed) = true := by
    have hset' : decide (s.start.tb.status = 0) = false := decide_eq_false hset
    rw [show s.start.tb.master = true from hmaster, show s.start.twinTimed = false from htwin, show s.start.faulted = false from hfault, hset']
    decide
  exact congrArg Host.Outcome.next (if_neg hcond)

theorem State.sendsSync_eq (s : State) :
    s.sendsSync =
      { s with
        out := s.out ++ ((List.range 2).filter s.ptpOn).map (fun p => .ptp p s.ptpTransport s.ptpDomain 0 s.tb.seqSync.toNat (leBytes 8 s.time))
        tb := { s.tb with seqSync := s.tb.seqSync + 1, syncAt := s.clk } } := by
  rw [State.sendsSync, State.sendPtp_frame]

theorem State.sendsAnnounce_eq (s : State) :
    s.sendsAnnounce =
      { s with
        out := s.out ++ ((List.range 2).filter s.ptpOn).map (fun p => .ptp p s.ptpTransport s.ptpDomain 1 s.tb.seqAnn.toNat s.announceBody)
        tb := { s.tb with seqAnn := s.tb.seqAnn + 1, annAt := s.clk } } := by
  rw [State.sendsAnnounce, State.sendPtp_frame]

/-- The registers and the ports that PTP reads are those of `s`. -/
structure State.SamePtp (s t : State) : Prop where
  objs : t.objs = s.objs
  blobs : t.blobs = s.blobs
  rcd : t.rcd = s.rcd
  out : t.out = s.out
  ptpOn : t.ptpOn = s.ptpOn
  transport : t.ptpTransport = s.ptpTransport
  domain : t.ptpDomain = s.ptpDomain

theorem State.reach_ptp (s : State) (n : Nat) : s.SamePtp (s.reach n) where
  objs := State.reach_objs ..
  blobs := rfl
  rcd := State.reach_rcd ..
  out := rfl
  ptpOn := by
    funext q
    simp only [State.ptpOn, State.up, State.pd, State.ck, State.bit, State.nat, get_reach, State.reach_mode]
  transport := by
    simp only [State.ptpTransport, State.nat, get_reach]
    rfl
  domain := by
    simp only [State.ptpDomain, State.nat, get_reach]
    rfl

/-- An offset beyond 10 ms is a fault: what it leaves (R147). -/
theorem State.timeFault_facts {s : State} (o : Int) (hroom : s.Room) :
    (s.timeFault o).tb.status = 4 ∧ (s.timeFault o).tb.fault = true ∧ (s.timeFault o).tb.good = 0 ∧ (s.timeFault o).Recorded 0x1103 0xFFFF 1 0 0
      ∧ (s.timeFault o).Recorded 0x1104 0xFFFF (par (clampInt (-2147483648) 2147483647 (o / 1000))) 0 0 := by
  have hrec := s.event_recorded 0x1104 (par (clampInt (-2147483648) 2147483647 (o / 1000))) 0 0 (by omega)
  have hw := s.event_waiting 0x1104 (par (clampInt (-2147483648) 2147483647 (o / 1000))) 0 0
  have heq : s.timeFault o = ((s.event 0x1104 (par (clampInt (-2147483648) 2147483647 (o / 1000)))).losesTime.setStatus 4).event 0x1103 1 := rfl
  rw [heq]
  generalize s.event 0x1104 (par (clampInt (-2147483648) 2147483647 (o / 1000))) = u at *
  have hw2 := u.losesTime.setStatus_waiting 4
  have hw3 : u.losesTime.rcd.waitingCount = u.rcd.waitingCount := rfl
  refine ⟨?_, ?_, ?_, State.event_recorded _ _ _ _ _ (by omega), ?_⟩
  · rw [State.event_tb, State.setStatus_status]
  · rw [State.event_tb, State.setStatus_tb_fault]
    rfl
  · rw [State.event_tb, State.setStatus_tb_good]
    rfl
  · exact (State.event_records _ _ _ _ _).recorded ((State.setStatus_records _ _).recorded hrec)

theorem exec_delayRequest_own {s : State} {port : Fin 4} (h : ¬ (!s.start.ptpOn port.val || s.start.tb.master || !s.start.tb.gm) = true) :
    exec (.delayRequest ⟨port, none⟩) s =
      .next { s.start.sendPtp (fun p => p == port.val) (if s.start.get Oid.PTP_PROFILE == 1 then 2 else 3) s.start.tb.seqDelay.toNat [] with
        tb := { s.start.tb with seqDelay := s.start.tb.seqDelay + 1 } } :=
  congrArg Host.Outcome.next (if_neg h)

theorem exec_delayRequest_answer {s : State} {port : Fin 4} {n : BitVec 16}
    (h : ¬ (!s.start.ptpOn port.val || (s.start.get Oid.PTP_PROFILE == 1 && !s.start.tb.master)) = true) :
    exec (.delayRequest ⟨port, some n⟩) s =
      .next (s.start.sendPtp (fun p => p == port.val) (if s.start.get Oid.PTP_PROFILE == 1 then 4 else 5) n.toNat (leBytes 8 s.start.time)) :=
  congrArg Host.Outcome.next (if_neg h)

/-- Settles O20: a Sync is measured, the grandmaster is chosen and lost, the time is sent and delays are answered. -/
theorem timeFollowing : Obligations.TimeFollowing := by
  unfold Obligations.TimeFollowing
  intro s port hroom
  refine ⟨fun o hon hgm hfollow htwin hset hfault => ?_, fun o => ?_,
    fun m hon hlink hdom hother hgm hcap htwin hset hfault hquiet => ?_, fun hon hann0 hann1 hsync0 hsync1 htwin hst => ?_, fun hst hlimit => ?_,
    fun hmaster htwin => ⟨?_, fun hset hfault => ?_⟩, fun hon => ⟨fun hmaster hgm => ?_, fun n hm => ?_⟩⟩
  · have htimed := s.measures_timed port.val o hset hfault
    have heq := ((s.start.hearsSync port.val o).followSync_eq port.val o).trans (if_neg htimed)
    have hrcd : ((s.start.hearsSync port.val o).measures o).rcd = s.rcd := rfl
    have hget := (s.start.hearsSync port.val o).measures_get o
    have hgood : ((s.start.hearsSync port.val o).measures o).goodRun o = if o.natAbs ≤ 1000 then s.tb.good + 1 else 0 := rfl
    have hstat : ((s.start.hearsSync port.val o).measures o).tb.status = s.tb.status := rfl
    rw [exec_sync o ⟨hon, hgm, hfollow, htwin⟩, heq]
    generalize (s.start.hearsSync port.val o).measures o = u at *
    have hwait : u.rcd.waitingCount + 1024 ≤ 32768 := by rw [hrcd]; exact hroom
    refine ⟨fun hsmall hrun hnot => ?_, fun hlo hhi => ?_, fun hbig => ?_⟩
    · rw [if_neg (by omega), if_pos (by rw [hgood, if_pos hsmall, (u.slews_tb o).1, hstat]; omega)]
      have hslew : ((u.slews o).tb.status : Nat) ≠ 2 := by rw [(u.slews_tb o).1, hstat]; exact hnot
      have hw := (u.slews o).setStatus_waiting 2
      rw [u.slews_rcd] at hw
      refine ⟨_, rfl, ?_, ?_, ?_, State.event_recorded _ _ _ _ _ (by omega)⟩
      · rw [State.event_tb, State.setStatus_status]
      · rw [State.nat_event _ _ _ _ _ _ (by decide), State.setStatus_shows _ hslew]
      · rw [State.get_event _ _ _ _ _ _ (by decide), State.setStatus_get _ _ _ (by decide) (by decide) (by decide), State.slews_get, hget]
        exact clampInt_of_mem (by omega) (by omega)
    · have hzero : u.goodRun o = 0 := by rw [hgood, if_neg (by omega)]
      rw [if_neg (by omega), if_neg (by rw [hzero]; omega)]
      refine ⟨_, rfl, (u.slews_tb o).1.trans hstat, ?_, ?_, (u.slews_rcd o).trans hrcd⟩
      · rw [(u.slews_tb o).2, hzero]
        rfl
      · rw [State.slews_get, hget]
        exact clampInt_of_mem (by omega) (by omega)
    · rw [if_pos hbig]
      obtain ⟨hstatus, hfault', hgood', hrec1, hrec2⟩ := State.timeFault_facts o hwait
      exact ⟨_, rfl, hstatus, hfault', hgood', hrec1, hrec2⟩
  · refine congrArg Host.Outcome.next (if_pos ?_)
    simp
  · have hann := s.start.announce_eq (p := port.val) m hon hdom
    have hbest := State.bestGm_of_only (s := s.start) m hon hlink hother
    have hsel : (s.start.hearsAnnounce port.val m).reselect = (s.start.hearsAnnounce port.val m).selectGm port.val m.gmId.toNat := by
      have hcap' : (s.start.hearsAnnounce port.val m).capable = false := hcap
      have hgm' : (s.start.hearsAnnounce port.val m).tb.gm = false := hgm
      unfold State.reselect
      rw [hbest]
      simp only [hcap', hgm', Bool.false_and, Bool.false_eq_true, if_false]
      rfl
    have htimed := State.selectGm_timed (s := s.start.hearsAnnounce port.val m) port.val m.gmId.toNat htwin hset hfault
    have htb := (s.start.hearsAnnounce port.val m).followsGm_tb port.val m.gmId.toNat
    have hblob := (s.start.hearsAnnounce port.val m).followsGm_blob port.val m.gmId.toNat
    have hrec := State.followsGm_recorded (s := s.start.hearsAnnounce port.val m) hroom port.val m.gmId.toNat
    have hemits : ((s.start.hearsAnnounce port.val m).followsGm port.val m.gmId.toNat).emits = [] := (State.followsGm_emits ..).trans hquiet
    rw [exec_announce, hann, hsel, htimed]
    generalize (s.start.hearsAnnounce port.val m).followsGm port.val m.gmId.toNat = u at *
    rw [State.drain_of_quiet _ ((State.setStatus_emits ..).trans hemits)]
    refine ⟨_, rfl, ?_, ?_, ?_, State.setStatus_status .., ?_, (u.setStatus_records 1).recorded hrec⟩
    · rw [State.setStatus_tb_gm, htb]
    · rw [State.setStatus_tb_master, htb]
    · rw [State.setStatus_tb_follower, htb]
    · rw [State.blob, State.setStatus_blobs]
      exact hblob
  · have heq := State.announceTimeout_eq (s := s.start) hon hann0 hann1 hsync0 hsync1 htwin
    have hheld := State.heldOver_holdover (s := s.start) hroom hst
    have hcap := hheld.capable htwin
    rw [exec_announceTimeout, heq]
    generalize s.start.losesGm.holdover = u at *
    split
    · exact ⟨_, rfl, hheld.status, rfl, hheld.since, hheld.recorded, fun _ => rfl⟩
    · next hno =>
      refine ⟨_, rfl, hheld.status, hheld.gm, hheld.since, hheld.recorded, fun hcapable => ?_⟩
      have hcap' : u.capable = true := hcap.trans hcapable
      simpa [hcap'] using hno
  · have hexec : exec .holdoverLimit s = .next ((s.start.setStatus 4).event 0x1103 0) := congrArg Host.Outcome.next (if_pos ⟨hst, by
      rw [Nat.mul_comm] at hlimit
      exact hlimit⟩)
    have hne : s.start.tb.status ≠ 4 := by
      rw [show s.start.tb.status = 3 from hst]
      decide
    have hw := s.start.setStatus_waiting 4
    have hw' : s.start.rcd.waitingCount = s.rcd.waitingCount := rfl
    rw [hexec]
    refine ⟨_, rfl, ?_, ?_, State.event_recorded _ _ _ _ _ (by omega)⟩
    · rw [State.event_tb, State.setStatus_status]
    · rw [State.nat_event _ _ _ _ _ _ (by decide), State.setStatus_shows _ hne]
  · have hclk := s.start.le_reach_clk (s.tb.syncAt + s.syncNs)
    have hseq : (s.start.reach (s.tb.syncAt + s.syncNs)).tb.seqSync = s.tb.seqSync := rfl
    have hptp := State.reach_ptp s.start (s.tb.syncAt + s.syncNs)
    rw [exec_syncInterval hmaster htwin, State.sendsSync_eq]
    generalize s.start.reach (s.tb.syncAt + s.syncNs) = u at *
    refine ⟨_, rfl, hclk, rfl, ?_, ?_, hptp.objs, hptp.blobs, hptp.rcd⟩
    · exact congrArg (· + 1) hseq
    · simp only [hptp.out, hptp.ptpOn, hptp.transport, hptp.domain, hseq, List.nil_append]
      rfl
  · have hclk := s.start.le_reach_clk (s.tb.annAt + sec 1)
    have hseq : (s.start.reach (s.tb.annAt + sec 1)).tb.seqAnn = s.tb.seqAnn := rfl
    have hptp := State.reach_ptp s.start (s.tb.annAt + sec 1)
    rw [exec_announceInterval hmaster htwin hset hfault, State.sendsAnnounce_eq]
    generalize s.start.reach (s.tb.annAt + sec 1) = u at *
    refine ⟨_, rfl, hclk, rfl, ?_, ?_, hptp.objs, hptp.blobs, hptp.rcd⟩
    · exact congrArg (· + 1) hseq
    · have hbody : u.announceBody = s.announceBody := by simp only [State.announceBody, State.nat_congr hptp.objs]; rfl
      simp only [hptp.out, hptp.ptpOn, hptp.transport, hptp.domain, hseq, hbody, List.nil_append]
      rfl
  · have hon' : s.start.ptpOn port.val = true := hon
    have hcond : ¬ (!s.start.ptpOn port.val || s.start.tb.master || !s.start.tb.gm) = true := by
      rw [hon', show s.start.tb.master = false from hmaster, show s.start.tb.gm = true from hgm]
      decide
    rw [exec_delayRequest_own hcond, State.sendPtp_frame, filter_port (State.ptpOn_lt hon)]
    simp only [beq_iff_eq, List.map_cons, List.map_nil]
    rfl
  · have hon' : s.start.ptpOn port.val = true := hon
    have hcond : ¬ (!s.start.ptpOn port.val || (s.start.get Oid.PTP_PROFILE == 1 && !s.start.tb.master)) = true := by
      rw [hon']
      simpa using hm
    rw [exec_delayRequest_answer hcond, State.sendPtp_frame, filter_port (State.ptpOn_lt hon)]
    simp only [beq_iff_eq, List.map_cons, List.map_nil]
    rfl

end Sys2Proof.Machine
end

section
/-! ### Setting the time, and the operating time (R150, R152, R168, R210, R647) -/

namespace Sys2Proof.Machine

theorem State.time_congr {s t : State} (h : t.tb.now = s.tb.now) : t.time = s.time := congrArg (·.toNat / 4294967296) h

/-! ### An interval is closed -/

theorem State.storeInterval_get (s : State) (c short : Nat) (k : Key) (hl : k.oid ≠ Oid.INT_LAST.oid) (hf : k.oid ≠ Oid.INT_FIRST.oid) :
    (s.storeInterval c short).get k = s.get k := by
  unfold State.storeInterval
  dsimp only
  rw [State.get_setN_other _ _ _ _ hf.symm, State.get_setN_other _ _ _ _ hl.symm]
  rfl

theorem State.openInterval_get (s : State) (c : Nat) (k : Key) : (s.openInterval c).get k = s.get k := rfl

/-- The start of the intervals that begin anew. -/
def State.marksOpened (s : State) (short : Bool) : State :=
  { s with met := { s.met with intStart := s.time, wasUnset := false, flagsAll := s.syncFlag + (if short then 128 else 0) } }

theorem State.marksOpened_get (s : State) (short : Bool) (k : Key) : (s.marksOpened short).get k = s.get k := rfl

/-- The intervals begin anew. -/
def State.opensAll (s : State) (short : Bool) : State := ((List.range 64).foldl State.openInterval s).marksOpened short

/-- The flags of the whole module are told to every channel's interval. -/
def State.flagsSync (s : State) : State := { s with met := { s.met with flagsAll := s.met.flagsAll ||| s.syncFlag } }

/-- The channels whose intervals are kept (R521). -/
def State.intervalChannels (s : State) : List Nat :=
  (List.range 64).filter (fun c => ((s.blob Oid.INT_CHANNELS).getD (c / 8) 0).getLsbD (c % 8))

theorem State.closeInterval_eq (s : State) (short : Bool) :
    s.closeInterval short =
      if s.tb.status = 0 then { s with met := { s.met with wasUnset := true } }
      else (s.intervalChannels.foldl (fun u c => u.storeInterval c (if s.met.wasUnset then 132 else if short then 128 else 0)) s.flagsSync).opensAll short := by
  unfold State.closeInterval State.opensAll State.marksOpened State.flagsSync State.intervalChannels
  with_reducible rfl

theorem State.opensAll_get (s : State) (short : Bool) (k : Key) : (s.opensAll short).get k = s.get k :=
  (State.marksOpened_get ..).trans (State.foldl_get k (fun u c => State.openInterval_get u c k) (List.range 64) s)

theorem State.closeInterval_get (s : State) (short : Bool) (k : Key) (hl : k.oid ≠ Oid.INT_LAST.oid) (hf : k.oid ≠ Oid.INT_FIRST.oid) :
    (s.closeInterval short).get k = s.get k := by
  have hflags : s.flagsSync.get k = s.get k := rfl
  rw [s.closeInterval_eq]
  split
  · rfl
  · rw [State.opensAll_get, State.foldl_get k (fun u c => State.storeInterval_get u c _ k hl hf), hflags]

/-! ### A step of the time (R150, R152) -/

/-- The running interval is closed by the step. -/
def State.closesAtStep (s : State) : State := (s.flagIntervals 1).closeInterval true

/-- What closing the interval leaves. -/
structure State.IntervalClosed (s t : State) : Prop where
  good : t.tb.good = s.tb.good
  status : t.tb.status = s.tb.status
  master : t.tb.master = s.tb.master
  mode : t.mode = s.mode
  emits : t.emits = s.emits
  sessions : t.acc.sessions = s.acc.sessions
  rcd : t.rcd = s.rcd
  get : ∀ k : Key, k.oid ≠ Oid.INT_LAST.oid → k.oid ≠ Oid.INT_FIRST.oid → t.get k = s.get k

theorem State.closesAtStep_frame (s : State) : s.IntervalClosed s.closesAtStep where
  good := State.closeInterval_tb_good ..
  status := State.closeInterval_tb_status ..
  master := State.closeInterval_tb_master ..
  mode := State.closeInterval_mode ..
  emits := State.closeInterval_emits ..
  sessions := State.closeInterval_acc_sessions ..
  rcd := State.closeInterval_rcd ..
  get k hl hf := State.closeInterval_get _ _ k hl hf

/-- The state with another clock and another start of the interval, and no fault. -/
def State.withClock (s : State) (now : BitVec 96) (start : Nat) : State :=
  { s with tb := { s.tb with now := now, fault := false }, met := { s.met with intStart := start } }

theorem State.withClock_get (s : State) (now : BitVec 96) (start : Nat) (k : Key) : (s.withClock now start).get k = s.get k := rfl

/-- The clock is set, and the base has no fault. -/
def State.setsClock (s : State) (t : Nat) : State :=
  (s.withClock (BitVec.ofNat 96 (t * 4294967296)) (if s.tb.status = 0 then s.met.intStart else t)).setN Oid.TIME_NOW t

theorem State.setsClock_get (s : State) (v : Nat) (k : Key) (h : k.oid ≠ Oid.TIME_NOW.oid) : (s.setsClock v).get k = s.get k := by
  rw [State.setsClock, State.get_setN_other _ _ _ _ h.symm, State.withClock_get]

/-- A step that passes no launch. -/
theorem State.stepTime_quiet {s : State} {t : Nat} (h : ∀ l ∈ s.launches, l.live = true → t ≤ l.time) :
    s.stepTime t = (s.closesAtStep.setsClock t).event 0x1105 (unsigned 64 ((t : Int) - s.time)) (unsigned 64 ((t : Int) - s.time) / 4294967296) 0 := by
  have hnone : s.launches.filter (fun l => l.live && decide (l.time < t)) = [] := by
    rw [List.filter_eq_nil_iff]
    intro l hl
    cases hlive : l.live
    · simp
    · simpa using h l hl hlive
  have hpast : launchOrder (s.launches.filter (fun l => l.live && decide (l.time < t))) = [] := by
    rw [hnone]
    simp [launchOrder]
  unfold State.stepTime State.closesAtStep State.setsClock State.withClock
  dsimp only
  rw [hpast]
  simp only [List.foldl_nil, ite_self, Nat.sub_self]

/-- The step is told to the twin. -/
def State.tellsStep (s : State) (t at' : Nat) : State := s.mirror (.values 0x0E [(Oid.TIME_NOW.oid, t), (Oid.TIME_SET.oid, at')] [])

theorem State.stepBoth_eq (s : State) (t : Nat) : s.stepBoth t = (s.stepTime t).tellsStep t s.time := rfl

/-- The time has been set to `v`: a state `t` that came of `s` without an emission (R150). -/
structure State.TimeStepped (s t : State) (v : Nat) : Prop where
  time : t.time = v % 2 ^ 64
  fault : t.tb.fault = false
  good : t.tb.good = s.tb.good
  status : t.tb.status = s.tb.status
  master : t.tb.master = s.tb.master
  mode : t.mode = s.mode
  emits : t.emits = s.emits
  sessions : t.acc.sessions = s.acc.sessions
  room : s.Room → t.rcd.waitingCount ≤ 31745
  get : ∀ k : Key, k.oid ≠ Oid.INT_LAST.oid → k.oid ≠ Oid.INT_FIRST.oid → k.oid ≠ Oid.TIME_NOW.oid → k.oid ≠ Oid.REC_DROPPED.oid → t.get k = s.get k

theorem time_of_set (v : Nat) : (BitVec.ofNat 96 (v * 4294967296)).toNat / 4294967296 = v % 2 ^ 64 := by
  rw [BitVec.toNat_ofNat, show (2 : Nat) ^ 96 = 4294967296 * 2 ^ 64 from rfl, Nat.mul_comm v, Nat.mul_mod_mul_left]
  exact Nat.mul_div_cancel_left _ (by decide)

/-- What setting the clock to `v` leaves. -/
structure State.ClockSet (s t : State) (v : Nat) : Prop where
  tb : t.tb = { s.tb with now := BitVec.ofNat 96 (v * 4294967296), fault := false }
  mode : t.mode = s.mode
  emits : t.emits = s.emits
  acc : t.acc = s.acc
  rcd : t.rcd = s.rcd
  get : ∀ k : Key, k.oid ≠ Oid.TIME_NOW.oid → t.get k = s.get k

theorem State.withClock_setN (s : State) (now : BitVec 96) (start : Nat) (k : Key) (n : Nat) :
    ((s.withClock now start).setN k n).tb = { s.tb with now := now, fault := false } ∧ ((s.withClock now start).setN k n).mode = s.mode
      ∧ ((s.withClock now start).setN k n).emits = s.emits ∧ ((s.withClock now start).setN k n).acc = s.acc
      ∧ ((s.withClock now start).setN k n).rcd = s.rcd :=
  ⟨rfl, rfl, rfl, rfl, rfl⟩

theorem State.clockSet_setsClock (s : State) (v : Nat) : s.ClockSet (s.setsClock v) v := by
  have hget := s.setsClock_get v
  rw [State.setsClock] at hget ⊢
  obtain ⟨htb, hmode, hemits, hacc, hrcd⟩ :=
    s.withClock_setN (BitVec.ofNat 96 (v * 4294967296)) (if s.tb.status = 0 then s.met.intStart else v) Oid.TIME_NOW v
  exact { tb := htb, mode := hmode, emits := hemits, acc := hacc, rcd := hrcd, get := hget }

/-- The clock is set and the step told, from a state in which the interval is closed. -/
theorem State.ClockSet.told {u w : State} {v : Nat} (h : u.ClockSet w v) (d e n at' : Nat) : u.TimeStepped ((w.event 0x1105 d e n).tellsStep v at') v := by
  have htb : ((w.event 0x1105 d e n).tellsStep v at').tb = { u.tb with now := BitVec.ofNat 96 (v * 4294967296), fault := false } := by
    rw [State.tellsStep, State.mirror_tb, State.event_tb, h.tb]
  exact
    { time := by rw [State.time, htb, time_of_set]
      fault := by rw [htb]
      good := by rw [htb]
      status := by rw [htb]
      master := by rw [htb]
      mode := by rw [State.tellsStep, State.mirror_mode, State.event_mode, h.mode]
      emits := by rw [State.tellsStep, State.mirror_emits, State.event_emits, h.emits]
      sessions := by rw [State.tellsStep, State.mirror_acc_sessions, State.event_acc, h.acc]
      room := fun hroom => by
        have hw := w.event_waiting 0x1105 d e n
        rw [h.rcd] at hw
        rw [State.tellsStep, State.mirror_rcd]
        omega
      get := fun k hl hf hn hd => by
        rw [State.tellsStep, State.get_mirror, State.get_event _ _ _ _ _ _ hd.symm, h.get k hn] }

theorem State.timeStepped_stepBoth {s : State} {v : Nat} (h : ∀ l ∈ s.launches, l.live = true → v ≤ l.time) : s.TimeStepped (s.stepBoth v) v := by
  have hclosed := s.closesAtStep_frame
  rw [s.stepBoth_eq, State.stepTime_quiet h]
  generalize s.closesAtStep = u at *
  have hset := (u.clockSet_setsClock v).told (unsigned 64 ((v : Int) - s.time)) (unsigned 64 ((v : Int) - s.time) / 4294967296) 0 s.time
  exact
    { time := hset.time
      fault := hset.fault
      good := hset.good.trans hclosed.good
      status := hset.status.trans hclosed.status
      master := hset.master.trans hclosed.master
      mode := hset.mode.trans hclosed.mode
      emits := hset.emits.trans hclosed.emits
      sessions := hset.sessions.trans hclosed.sessions
      room := fun hroom => hset.room (by rw [State.Room, hclosed.rcd]; exact hroom)
      get := fun k hl hf hn hd => (hset.get k hl hf hn hd).trans (hclosed.get k hl hf) }

/-! ### TIME_STEP_REQ and TIME_SET -/

/-- The rows of TIME_STEP_REQ and of TIME_SET. -/
def stepReqRow : ObjRow := ⟨0x08000111, [], .u8, .rwp, .num 0, true, (.oneOf [1]), .request⟩
@[inherit_doc stepReqRow] def timeSetRow : ObjRow := ⟨0x08000110, [], .time64, .rwp, .num 0, true, .any, .request⟩

theorem lookup_TIME_STEP_REQ : lookup Oid.TIME_STEP_REQ.oid = some (stepReqRow, []) := rfl

theorem lookup_TIME_SET : lookup Oid.TIME_SET.oid = some (timeSetRow, []) := rfl

theorem stepReqRow_takes : stepReqRow.Takes [1] 1 := .of_u8 rfl rfl rfl rfl (by decide) (by decide)

theorem timeSetRow_takes (v : BitVec 64) : timeSetRow.Takes (leBytes 8 v.toNat) v.toNat :=
  .of_unsigned rfl rfl (by decide) (by decide) v.isLt (by decide) rfl rfl (by decide) (by decide)

theorem State.areaEffect_stepReq (s : State) (q : Rights) (e : WEntry) (ix : List Nat) (v : Int) (d : List Byte) :
    s.areaEffect q stepReqRow e ix v d = s.stepReq := by
  simp [State.areaEffect, State.apply08, stepReqRow, safetyParam]

theorem State.areaEffect_timeSet (s : State) (q : Rights) (e : WEntry) (ix : List Nat) (v : Nat) (d : List Byte) :
    s.areaEffect q timeSetRow e ix v d = s.timeSet v := by
  simp [State.areaEffect, State.apply08, timeSetRow, safetyParam]

/-- The count of good offsets starts anew. -/
def State.countsAnew (s : State) : State := { s with tb := { s.tb with good := 0 } }

theorem State.stepReq_eq (s : State) : s.stepReq = (s.countsAnew.stepBoth s.gmNow).setStatus 1 := rfl

/-- The state of a TIME_SET, before a module that can becomes the grandmaster. -/
def State.timeIsSet (s : State) (v : Nat) : State := (((s.setN Oid.TIME_SET v).stepBoth v).setStatus 4).event 0x1103 2

theorem State.timeSet_eq (s : State) (v : Nat) :
    s.timeSet v = if (s.timeIsSet v).capable then (s.timeIsSet v).becomeMaster else s.timeIsSet v := rfl

/-- TIME_STEP_REQ: the state it leaves. -/
structure State.StepTaken (s t : State) : Prop where
  time : t.time = s.gmNow % 2 ^ 64
  status : t.tb.status = 1
  fault : t.tb.fault = false
  good : t.tb.good = 0
  mode : t.mode = s.mode
  emits : t.emits = s.emits
  sessions : t.acc.sessions = s.acc.sessions

theorem State.stepTaken_stepReq {s : State} (h : ∀ l ∈ s.launches, l.live = true → s.gmNow ≤ l.time) : s.StepTaken s.stepReq := by
  have hstep := State.timeStepped_stepBoth (s := s.countsAnew) (v := s.gmNow) h
  rw [s.stepReq_eq]
  generalize s.countsAnew.stepBoth s.gmNow = u at *
  exact
    { time := (congrArg (·.toNat / 4294967296) (u.setStatus_tb_now 1)).trans hstep.time
      status := u.setStatus_status 1
      fault := (u.setStatus_tb_fault 1).trans hstep.fault
      good := (u.setStatus_tb_good 1).trans hstep.good
      mode := (u.setStatus_mode 1).trans hstep.mode
      emits := (u.setStatus_emits 1).trans hstep.emits
      sessions := (u.setStatus_acc_sessions 1).trans hstep.sessions }

/-- TIME_SET: the state it leaves. -/
structure State.TimeTaken (s t : State) (v : Nat) : Prop where
  time : t.time = v % 2 ^ 64
  status : t.tb.status = 4
  shown : t.nat Oid.TIME_SET = v
  recorded : s.Room → t.Recorded 0x1103 0xFFFF 2 0 0
  master : s.capable = true → t.tb.master = true
  emits : t.emits = s.emits
  sessions : t.acc.sessions = s.acc.sessions

theorem State.capable_congr {s t : State} (hmode : t.mode = s.mode) (hst : (t.tb.status == 5) = (s.tb.status == 5))
    (hget : ∀ k : Key, k ∈ [Oid.PTP_ROLE 0, Oid.PTP_ROLE 1, Oid.PD_STATE, Oid.CK_GOOD] → t.get k = s.get k) : t.capable = s.capable := by
  simp only [State.capable, State.twinTimed, State.ptpOn, State.up, State.pd, State.ck, State.bit, State.nat, hmode, hst,
    hget (Oid.PTP_ROLE 0) (by simp), hget (Oid.PTP_ROLE 1) (by simp), hget Oid.PD_STATE (by simp), hget Oid.CK_GOOD (by simp)]

theorem State.timeTaken_timeSet {s : State} {v : Nat} (h : ∀ l ∈ s.launches, l.live = true → v ≤ l.time) (hst : s.tb.status ≠ 5) :
    s.TimeTaken (s.timeSet v) v := by
  have hstep := State.timeStepped_stepBoth (s := s.setN Oid.TIME_SET v) h
  have hget (k : Key) (hk : k ∈ [Oid.PTP_ROLE 0, Oid.PTP_ROLE 1, Oid.PD_STATE, Oid.CK_GOOD]) : (s.timeIsSet v).get k = s.get k := by
    simp only [List.mem_cons, List.not_mem_nil, or_false] at hk
    have hkeep (h1 : k.oid ≠ Oid.INT_LAST.oid) (h2 : k.oid ≠ Oid.INT_FIRST.oid) (h3 : k.oid ≠ Oid.TIME_NOW.oid) (h4 : k.oid ≠ Oid.REC_DROPPED.oid)
        (h5 : k.oid ≠ Oid.TIME_STATUS.oid) (h6 : k.oid ≠ Oid.LAST_GAP_MS.oid) (h7 : k.oid ≠ Oid.TIME_SET.oid) : (s.timeIsSet v).get k = s.get k := by
      rw [State.timeIsSet, State.get_event _ _ _ _ _ _ h4.symm, State.setStatus_get _ _ _ h5 h4 h6, hstep.get k h1 h2 h3 h4,
        State.get_setN_other _ _ _ _ h7.symm]
    rcases hk with rfl | rfl | rfl | rfl <;> exact hkeep (by decide) (by decide) (by decide) (by decide) (by decide) (by decide) (by decide)
  have hshown : ((s.setN Oid.TIME_SET v).stepBoth v).nat Oid.TIME_SET = v :=
    (congrArg Int.toNat (hstep.get _ (by decide) (by decide) (by decide) (by decide))).trans (State.nat_setN_same ..)
  have hroom (hr : s.Room) : ((s.setN Oid.TIME_SET v).stepBoth v).rcd.waitingCount ≤ 31745 := hstep.room hr
  have hmode : (s.timeIsSet v).mode = s.mode := by
    rw [State.timeIsSet, State.event_mode, State.setStatus_mode, hstep.mode]
    rfl
  have hstatus : (s.timeIsSet v).tb.status = 4 := by rw [State.timeIsSet, State.event_tb, State.setStatus_status]
  have hcap : (s.timeIsSet v).capable = s.capable := State.capable_congr hmode (by rw [hstatus]; simp [hst]) hget
  have hbase : s.TimeTaken (if s.capable then (s.timeIsSet v).becomeMaster else s.timeIsSet v) v := by
    rw [State.timeIsSet] at hstatus ⊢
    have hemits := hstep.emits
    have hses := hstep.sessions
    have htime := hstep.time
    generalize (s.setN Oid.TIME_SET v).stepBoth v = u at *
    have hu : ((u.setStatus 4).event 0x1103 2).time = v % 2 ^ 64 := by
      rw [State.time, State.event_tb, State.setStatus_tb_now]
      exact htime
    have hn : ((u.setStatus 4).event 0x1103 2).nat Oid.TIME_SET = v := by
      rw [State.nat_event _ _ _ _ _ _ (by decide), State.nat, State.setStatus_get _ _ _ (by decide) (by decide) (by decide)]
      exact hshown
    have hrec (hr : s.Room) : ((u.setStatus 4).event 0x1103 2).Recorded 0x1103 0xFFFF 2 0 0 := by
      have h1 := u.setStatus_waiting 4
      have h2 := hroom hr
      exact State.event_recorded _ _ _ _ _ (by omega)
    have he : ((u.setStatus 4).event 0x1103 2).emits = s.emits := by rw [State.event_emits, State.setStatus_emits, hemits]; rfl
    have hs : ((u.setStatus 4).event 0x1103 2).acc.sessions = s.acc.sessions := by rw [State.event_acc, State.setStatus_acc_sessions, hses]; rfl
    generalize (u.setStatus 4).event 0x1103 2 = w at *
    split
    · exact { time := hu, status := hstatus, shown := hn, recorded := hrec, master := fun _ => rfl, emits := he, sessions := hs }
    · next hno => exact { time := hu, status := hstatus, shown := hn, recorded := hrec, master := fun hc => absurd hc hno, emits := he, sessions := hs }
  rw [s.timeSet_eq, hcap]
  exact hbase

/-! ### The rows of the operating time (R168, R210, R647) -/

theorem exec_solstice {s : State} (hwrap : s.tb.wrapped = true) (hpd : s.pd .aon = true) :
    exec .solstice s =
      .next (let u := ({ s.start with tb := { s.tb with wrapped := false } } : State).count Oid.SOLSTICE_COUNT 16
        u.acceptAt 0 0x1108 0xFFFF (u.nat Oid.POWER_CYCLES) (u.nat Oid.SOLSTICE_COUNT) 0 true) := by
  have hcond : ¬ (!s.start.tb.wrapped || !s.start.pd .aon) = true := by
    rw [show s.start.tb.wrapped = true from hwrap, show s.start.pd .aon = true from hpd]
    decide
  exact congrArg Host.Outcome.next (if_neg hcond)

/-- LAST_KNOWN_TIME is kept at the present time. -/
def State.keepsTime (s : State) : State :=
  { s.setN Oid.LAST_KNOWN_TIME (max (s.nat Oid.LAST_KNOWN_TIME) s.time) with tb := { s.tb with knownAt := s.clk } }

theorem execLastKnownTimeSave_eq (s : State) :
    execLastKnownTimeSave s =
      .next (if s.start.booted && decide (2 ≤ s.start.tb.status ∧ s.start.tb.status ≤ 4) then (s.start.reach (s.start.tb.knownAt + sec 600)).keepsTime
        else s.start) := by
  unfold execLastKnownTimeSave State.keepsTime
  with_reducible rfl

theorem exec_lastKnownTimeSave {s : State} (hboot : s.booted = true) (hlo : 2 ≤ s.tb.status) (hhi : s.tb.status ≤ 4) :
    exec .lastKnownTimeSave s = .next (s.start.reach (s.start.tb.knownAt + sec 600)).keepsTime := by
  have hcond : (s.start.booted && decide (2 ≤ s.start.tb.status ∧ s.start.tb.status ≤ 4)) = true := by
    rw [show s.start.booted = true from hboot]
    exact decide_eq_true ⟨hlo, hhi⟩
  have hexec : exec .lastKnownTimeSave s = execLastKnownTimeSave s := rfl
  rw [hexec, execLastKnownTimeSave_eq, if_pos hcond]

theorem execTimeMark_eq (s : State) :
    execTimeMark s = .next (if s.start.booted then (s.start.reach (s.start.rcd.lastMark + sec (s.start.nat Oid.REC_MARK_INTERVAL))).timeMark else s.start) := by
  unfold execTimeMark
  with_reducible rfl

theorem exec_timeMark {s : State} (hboot : s.booted = true) :
    exec .timeMark s = .next (s.start.reach (s.start.rcd.lastMark + sec (s.start.nat Oid.REC_MARK_INTERVAL))).timeMark := by
  have hexec : exec .timeMark s = execTimeMark s := rfl
  rw [hexec, execTimeMark_eq, if_pos (show s.start.booted = true from hboot)]

theorem State.timeStepReq_taken {s : State} (ses : Fin 64) (req : BitVec 32) (hready : s.Ready ses.val) (hservice : s.mode = .service) (hstill : s.carsStill = true) (hstatus : s.tb.status = 4)
    (hfault : s.tb.fault = true) (hgm : s.tb.gm = true) (hpast : ∀ l ∈ s.launches, l.live = true → s.gmNow ≤ l.time) :
    ∃ t, exec (.timeStepReq ses req) s = .next t ∧ t.Answers ses.val req 0 ∧ t.time = s.gmNow % 2 ^ 64 ∧ t.tb.status = 1 ∧ t.tb.fault = false
      ∧ t.tb.good = 0 ∧ t.mode = .service := by
  have hcheck : (s.seen ses.val).stepReqCheck 1 = none := by
    have h1 : (s.mode == .service && s.carsStill && s.tb.status == 4 && s.tb.fault && s.tb.gm) = true := by
      rw [hservice, hstill, hstatus, hfault, hgm]
      rfl
    have h2 : (s.seen ses.val).stepReqCheck 1
        = need (s.mode == .service && s.carsStill && s.tb.status == 4 && s.tb.fault && s.tb.gm) .busy := rfl
    rw [h2, h1]
    rfl
  have htaken := State.stepTaken_stepReq (s := s.landed ses.val req { oid := Oid.TIME_STEP_REQ.oid, data := [1] }) (by
    rw [State.gmNow, State.landed_tb, State.landed_clk, State.landed_launches]
    exact hpast)
  obtain ⟨t, ht, hans, hlike⟩ := s.hostRow_number ses.val req hready lookup_TIME_STEP_REQ rfl stepReqRow_takes (by simp [stepReqRow])
    (by simpa [State.ownerCheck, stepReqRow] using hcheck) (State.stepReq _) (State.areaEffect_stepReq ..) htaken.sessions (htaken.emits.trans (State.landed_emits ..))
  refine ⟨t, congrArg _ ht, hans, ?_, ?_, ?_, ?_, ?_⟩
  · rw [State.time, hlike.tb]
    refine htaken.time.trans ?_
    rw [State.gmNow, State.landed_tb, State.landed_clk]
    rfl
  · rw [hlike.tb]; exact htaken.status
  · rw [hlike.tb]; exact htaken.fault
  · rw [hlike.tb]; exact htaken.good
  · rw [hlike.mode]; exact htaken.mode.trans ((State.landed_mode ..).trans hservice)

theorem State.timeStepReq_busy {s : State} (ses : Fin 64) (req : BitVec 32) (hready : s.Ready ses.val)
    (hno : (s.mode == .service && s.carsStill && s.tb.status == 4 && s.tb.fault && s.tb.gm) = false) :
    ∃ t, exec (.timeStepReq ses req) s = .next t ∧ t.Answers ses.val req 9 ∧ t.tb = s.tb ∧ t.objs = s.objs ∧ t.blobs = s.blobs := by
  have hcheck : (s.seen ses.val).stepReqCheck 1 = some ⟨.busy, [], none⟩ := by
    have h2 : (s.seen ses.val).stepReqCheck 1
        = need (s.mode == .service && s.carsStill && s.tb.status == 4 && s.tb.fault && s.tb.gm) .busy := rfl
    rw [h2, hno]
    rfl
  obtain ⟨t, ht, hans, hlike⟩ := s.hostRow_numberDenied ses.val req ⟨.busy, [], none⟩ hready lookup_TIME_STEP_REQ rfl stepReqRow_takes
    (by simp [stepReqRow]) (by simpa [State.ownerCheck, stepReqRow] using hcheck) rfl rfl
  exact ⟨t, congrArg _ ht, hans, hlike.tb, hlike.objs, hlike.blobs⟩

theorem State.timeSet_taken {s : State} (ses : Fin 64) (req : BitVec 32) (hready : s.Ready ses.val) (hroom : s.Room) (v : BitVec 64) (hservice : s.mode = .service)
    (hst : s.tb.status = 0 ∨ (s.tb.status = 4 ∧ s.tb.gm = false)) (hpast : ∀ l ∈ s.launches, l.live = true → v.toNat ≤ l.time) :
    ∃ t, exec (.timeSet ses req v) s = .next t ∧ t.Answers ses.val req 0 ∧ t.time = v.toNat ∧ t.tb.status = 4 ∧ t.nat Oid.TIME_SET = v.toNat
      ∧ t.Recorded 0x1103 0xFFFF 2 0 0 ∧ (s.capable = true → t.tb.master = true) := by
  have hcheck : (s.seen ses.val).timeSetCheck = none := by
    have h1 : (s.mode == .service && (s.tb.status == 0 || (s.tb.status == 4 && !s.tb.gm))) = true := by
      rcases hst with h | ⟨h, hg⟩
      · rw [hservice, h]
        rfl
      · rw [hservice, h, hg]
        rfl
    have h2 : (s.seen ses.val).timeSetCheck = need (s.mode == .service && (s.tb.status == 0 || (s.tb.status == 4 && !s.tb.gm))) .busy := rfl
    rw [h2, h1]
    rfl
  have hne : s.tb.status ≠ 5 := by rcases hst with h | ⟨h, -⟩ <;> omega
  have htaken := State.timeTaken_timeSet (s := s.landed ses.val req { oid := Oid.TIME_SET.oid, data := leBytes 8 v.toNat }) (v := v.toNat)
    (by rw [State.landed_launches]; exact hpast) (by rw [State.landed_tb]; exact hne)
  obtain ⟨t, ht, hans, hlike⟩ := s.hostRow_number ses.val req hready lookup_TIME_SET rfl (timeSetRow_takes v) (by simp [timeSetRow])
    (by simpa [State.ownerCheck, timeSetRow] using hcheck) (State.timeSet _ v.toNat) (State.areaEffect_timeSet ..) htaken.sessions (htaken.emits.trans (State.landed_emits ..))
  have hcap : (s.landed ses.val req { oid := Oid.TIME_SET.oid, data := leBytes 8 v.toNat }).capable = s.capable :=
    State.capable_congr (State.landed_mode ..) (by rw [State.landed_tb]) (fun k _ => State.get_landed ..)
  refine ⟨t, congrArg _ ht, hans, ?_, ?_, ?_, ?_, fun hc => ?_⟩
  · rw [State.time, hlike.tb]
    exact htaken.time.trans (Nat.mod_eq_of_lt v.isLt)
  · rw [hlike.tb]; exact htaken.status
  · rw [hlike.nat]; exact htaken.shown
  · exact (htaken.recorded (by rw [State.Room, State.landed_rcd]; exact hroom)).congr hlike.rcd
  · rw [hlike.tb]; exact htaken.master (hcap.trans hc)

theorem State.timeSet_busy {s : State} (ses : Fin 64) (req : BitVec 32) (hready : s.Ready ses.val) (v : BitVec 64) (hnot : s.mode ≠ .service) :
    ∃ t, exec (.timeSet ses req v) s = .next t ∧ t.Answers ses.val req 9 ∧ t.tb = s.tb ∧ t.objs = s.objs ∧ t.blobs = s.blobs := by
  have hcheck : (s.seen ses.val).timeSetCheck = some ⟨.busy, [], none⟩ := by
    have h1 : (s.mode == .service) = false := by simpa using hnot
    have h2 : (s.seen ses.val).timeSetCheck = need (s.mode == .service && (s.tb.status == 0 || (s.tb.status == 4 && !s.tb.gm))) .busy := rfl
    rw [h2, h1]
    rfl
  obtain ⟨t, ht, hans, hlike⟩ := s.hostRow_numberDenied ses.val req ⟨.busy, [], none⟩ hready lookup_TIME_SET rfl (timeSetRow_takes v)
    (by simp [timeSetRow]) (by simpa [State.ownerCheck, timeSetRow] using hcheck) rfl rfl
  exact ⟨t, congrArg _ ht, hans, hlike.tb, hlike.objs, hlike.blobs⟩

theorem State.solstice_counts {s : State} (hwrap : s.tb.wrapped = true) (hpd : s.pd .aon = true) :
    ∃ t, exec .solstice s = .next t ∧ t.tb = { s.tb with wrapped := false } ∧ t.nat Oid.SOLSTICE_COUNT = min (s.nat Oid.SOLSTICE_COUNT + 1) 65535
      ∧ (∃ r ∈ t.rcd.ring, r.code = 0x1108 ∧ r.optime = 0 ∧ r.p0 = s.nat Oid.POWER_CYCLES % 4294967296 ∧ r.p1 = t.nat Oid.SOLSTICE_COUNT)
      ∧ (∀ k : Key, k.oid ≠ Oid.SOLSTICE_COUNT.oid → t.get k = s.get k) := by
  rw [exec_solstice hwrap hpd]
  have hcount : (({ s.start with tb := { s.tb with wrapped := false } } : State).count Oid.SOLSTICE_COUNT 16).nat Oid.SOLSTICE_COUNT
      = min (s.nat Oid.SOLSTICE_COUNT + 1) 65535 := State.nat_setN_same ..
  have hother (k : Key) (hk : k.oid ≠ Oid.SOLSTICE_COUNT.oid) :
      (({ s.start with tb := { s.tb with wrapped := false } } : State).count Oid.SOLSTICE_COUNT 16).get k = s.get k :=
    State.get_setN_other _ _ _ _ hk.symm
  refine ⟨_, rfl, rfl, hcount, ⟨_, List.mem_cons_self, rfl, rfl, ?_, ?_⟩, hother⟩
  · exact congrArg (fun x : Int => x.toNat % 4294967296) (hother Oid.POWER_CYCLES (by decide))
  · refine Nat.mod_eq_of_lt ?_
    rw [hcount]
    omega

/-- What keeping the time leaves. -/
theorem State.keepsTime_frame (s : State) :
    s.keepsTime.nat Oid.LAST_KNOWN_TIME = max (s.nat Oid.LAST_KNOWN_TIME) s.time ∧ s.keepsTime.time = s.time ∧ s.keepsTime.clk = s.clk
      ∧ s.keepsTime.tb.knownAt = s.clk ∧ s.keepsTime.tb.status = s.tb.status ∧ s.keepsTime.rcd = s.rcd
      ∧ (∀ k : Key, k.oid ≠ Oid.LAST_KNOWN_TIME.oid → s.keepsTime.get k = s.get k) :=
  ⟨State.nat_setN_same .., State.time_congr rfl, rfl, rfl, rfl, rfl, fun _ hk => State.get_setN_other _ _ _ _ hk.symm⟩

theorem State.lastKnownTime_kept {s : State} (hboot : s.booted = true) (hlo : 2 ≤ s.tb.status) (hhi : s.tb.status ≤ 4) :
    ∃ t, exec .lastKnownTimeSave s = .next t ∧ t.nat Oid.LAST_KNOWN_TIME = max (s.nat Oid.LAST_KNOWN_TIME) t.time
      ∧ s.tb.knownAt + 600000000000 ≤ t.clk ∧ t.tb.knownAt = t.clk ∧ t.tb.status = s.tb.status ∧ t.rcd = s.rcd
      ∧ (∀ k : Key, k.oid ≠ Oid.LAST_KNOWN_TIME.oid → t.get k = s.get k) := by
  have hreach : s.start.tb.knownAt + sec 600 ≤ (s.start.reach (s.start.tb.knownAt + sec 600)).clk := s.start.le_reach_clk _
  have hptp := s.start.reach_ptp (s.start.tb.knownAt + sec 600)
  have hst : (s.start.reach (s.start.tb.knownAt + sec 600)).tb.status = s.start.tb.status := State.reach_tb_status ..
  rw [exec_lastKnownTimeSave hboot hlo hhi]
  generalize s.start.reach (s.start.tb.knownAt + sec 600) = u at *
  obtain ⟨hknown, htime, hclk, hat, hstatus, hrcd, hget⟩ := u.keepsTime_frame
  have hown : u.nat Oid.LAST_KNOWN_TIME = s.nat Oid.LAST_KNOWN_TIME := State.nat_congr hptp.objs _
  refine ⟨_, rfl, ?_, ?_, hat.trans hclk.symm, hstatus.trans hst, hrcd.trans hptp.rcd, fun k hk => (hget k hk).trans (State.get_congr hptp.objs k)⟩
  · rw [hknown, htime, hown]
  · rw [hclk]
    exact hreach

theorem State.marksNow_waitingCount (s : State) : s.marksNow.rcd.waitingCount = s.rcd.waitingCount := rfl

theorem State.timeMark_frame (s : State) :
    s.timeMark.rcd.lastMark = s.clk ∧ s.timeMark.clk = s.clk ∧ s.timeMark.time = s.time := by
  refine ⟨?_, ?_, State.time_congr ?_⟩
  · rw [s.timeMark_eq, State.event_rcd_lastMark]
    rfl
  · rw [s.timeMark_eq, State.event_clk]
    rfl
  · rw [s.timeMark_eq, State.event_tb]
    rfl

theorem State.timeMark_told {s : State} (hroom : s.Room) (hboot : s.booted = true) :
    ∃ t, exec .timeMark s = .next t ∧ t.rcd.lastMark = t.clk ∧ s.rcd.lastMark + 1000000000 * s.nat Oid.REC_MARK_INTERVAL ≤ t.clk
      ∧ t.Recorded 0x110C 0xFFFF t.time (t.time / 4294967296) s.tb.status := by
  have hfree : s.rcd.waitingCount < 32768 := by omega
  have hreach : s.start.rcd.lastMark + sec (s.start.nat Oid.REC_MARK_INTERVAL)
      ≤ (s.start.reach (s.start.rcd.lastMark + sec (s.start.nat Oid.REC_MARK_INTERVAL))).clk := s.start.le_reach_clk _
  have hst : (s.start.reach (s.start.rcd.lastMark + sec (s.start.nat Oid.REC_MARK_INTERVAL))).tb.status = s.start.tb.status :=
    State.reach_tb_status ..
  have hrcd : (s.start.reach (s.start.rcd.lastMark + sec (s.start.nat Oid.REC_MARK_INTERVAL))).rcd = s.start.rcd := State.reach_rcd ..
  rw [exec_timeMark hboot]
  generalize s.start.reach (s.start.rcd.lastMark + sec (s.start.nat Oid.REC_MARK_INTERVAL)) = u at *
  have hwait : u.marksNow.rcd.waitingCount < 32768 := by
    rw [u.marksNow_waitingCount, hrcd]
    exact hfree
  have hrec := u.marksNow.event_recorded 0x110C u.time (u.time / 4294967296) u.tb.status hwait
  obtain ⟨hlast, hclk, htime⟩ := u.timeMark_frame
  refine ⟨_, rfl, hlast.trans hclk.symm, ?_, ?_⟩
  · rw [hclk, Nat.mul_comm]
    exact hreach
  · rw [htime, show s.tb.status = u.tb.status from hst.symm, u.timeMark_eq]
    exact hrec

/-- Settles O21: the time is stepped and set in SERVICE alone, and the operating time's rows are kept. -/
theorem timeSetting : Obligations.TimeSetting := by
  unfold Obligations.TimeSetting
  intro s ses req hroom
  exact ⟨fun hready => ⟨State.timeStepReq_taken ses req hready, State.timeStepReq_busy ses req hready,
      fun v => State.timeSet_taken ses req hready hroom v, fun v => State.timeSet_busy ses req hready v⟩,
    State.solstice_counts, State.lastKnownTime_kept, State.timeMark_told hroom⟩

end Sys2Proof.Machine
end

section
/-! ### Host writes of a row with checks of its own -/

namespace Sys2Proof.Machine

/-! ### The effect of a write on any state -/

section

variable (s : State) (q : Rights) {e : WEntry} {r : ObjRow} {ix : List Nat}

/-- What a write of an object that exists does: the effect of its area on the value it carries. -/
theorem State.applyObject_row (t : Ty) (hlk : lookup e.oid = some (r, ix)) (hex : objectExists r.base ix = true)
    (ht : (s.mended e.oid).tyOf r ix = some t) (hdf : e.dflt = false) :
    s.applyObject q e =
      (s.mended e.oid).areaEffect q r e ix (maskBits r.base (t.dec (writeBytes r e.oid t e.dflt e.data)))
        (if t.isBytes then writeBytes r e.oid t e.dflt e.data else t.enc (maskBits r.base (t.dec (writeBytes r e.oid t e.dflt e.data)))) := by
  have hf : findObject e.oid = some (r, ix) := by simp [findObject, hlk, hex]
  have hwd : (s.mended e.oid).withDefault e = e := by simp only [State.withDefault, hlk, hdf, Bool.not_false, Bool.true_or, if_true]
  unfold State.applyObject
  simp only [hwd, hf, ht]
  rfl

/-- The checks of a plain write before those of the launches and the compares (R201). -/
theorem State.checkObject_plain (hq : q.part = 0) (hlk : lookup e.oid = some (r, ix)) (hex : objectExists r.base ix = true) (hty : r.ty ≠ .point)
    (hacc : s.codeCheck q r ix = none) (hpv : r.base ≠ 0x80000000) (hrel : e.relinq = false) (hdf : e.dflt = false) (hpr : e.prio = 0)
    (hval : valueCheck r r.ty (r.taken e.data) = none) :
    s.checkObject q e = s.ownerCheck q r ix e (maskBits r.base (r.ty.dec (r.taken e.data))) (r.taken e.data) := by
  have hf : findObject e.oid = some (r, ix) := by simp [findObject, hlk, hex]
  have ht : s.tyOf r ix = some r.ty := by simp [State.tyOf, hty]
  have hd : writeBytes r e.oid r.ty e.dflt e.data = r.taken e.data := by simp [writeBytes, hdf, ObjRow.taken]
  have hwd : s.withDefault e = e := by simp only [State.withDefault, hlk, hdf, Bool.not_false, Bool.true_or, if_true]
  have hpv' : (r.base == 0x80000000) = false := by simp [hpv]
  have hflag : flagCheck q r e = none := by
    simp only [flagCheck, hrel, hdf, hpr, hpv', Bool.false_eq_true, if_false]
    simp [firstOf, andThen, need]
  have hpart : (q.part != 0 && !s.ownObject q.part e.oid) = false := by simp [hq]
  unfold State.checkObject
  simp only [hwd, hpart, hf, ht, hrel, hd, Bool.false_eq_true, if_false, hpv, hval, hflag, hacc, firstOf]
  simp only [need, Bool.false_and, Bool.not_false, if_true, andThen]
  cases s.ownerCheck q r ix e (maskBits r.base (r.ty.dec (r.taken e.data))) (r.taken e.data) <;> rfl

end

/-! ### Host writes of a row with checks of its own -/

/-- No row lies beyond the areas of the dictionary. -/
theorem lookup_lt {oid : Nat} {p : ObjRow × List Nat} (h : lookup oid = some p) : oid < 0xF0000000 := by
  apply Nat.lt_of_not_le
  intro hge
  have harea : 0xF0 ≤ oid / 16777216 := by omega
  have hnone : dictArea (oid / 16777216) = [] := by
    unfold dictArea
    rw [if_neg (by omega), if_neg (by omega), if_neg (by omega), if_neg (by omega), if_neg (by omega), if_neg (by omega), if_neg (by omega),
      if_neg (by omega), if_neg (by omega), if_neg (by omega), if_neg (by omega), if_neg (by omega), if_neg (by omega)]
  rw [lookup, hnone] at h
  cases h

/-- A row whose write takes effect at its commit, with no part of its own in the commit. -/
def ObjRow.direct (r : ObjRow) : Bool :=
  r.ty != .point && !(([0x40000003, 0x120, 0x70000003, 0x70000006, 0x110, 0x01780003] : List Nat).contains r.base)

theorem lookup_base {oid o : Nat} {r x : ObjRow} {ix l : List Nat} (hlk : lookup oid = some (r, ix)) (hx : lookup o = some (x, l)) (h : oid = o) :
    r.base = x.base := by
  subst h
  rw [hlk] at hx
  obtain ⟨rfl, -⟩ := Prod.mk.inj (Option.some.inj hx)
  rfl

section

variable (s : State) (n : Nat) (req : BitVec 32) {oid : Nat} {d : List Byte} {r : ObjRow} {ix : List Nat}

theorem State.ses_landed (e : WEntry) (m : Nat) : (s.landed n req e).ses m = (s.seen n).ses m := by
  have hsessions : (s.landed n req e).acc.sessions = (s.placed n req e).acc.sessions := by simp [State.landed]
  rw [← s.ses_placed n req e m, State.ses, State.ses, hsessions]

theorem State.emit_mended (s : State) (o : Out) (x : Nat) : (s.emit o).mended x = (s.mended x).emit o := by
  have hmem : (s.emit o).mem = s.mem := rfl
  unfold State.mended
  rw [hmem]
  split <;> rfl

theorem ObjRow.direct_entry {r : ObjRow} (hr : r.direct = true) (hlk : lookup oid = some (r, ix)) :
    r.ty ≠ .point ∧ oid ≠ 0x120 ∧ oid ≠ 0x110 ∧ oid ≠ 0x70000003 ∧ oid ≠ 0x70000006 ∧ isTxbCtrl oid = false ∧ isLoopCmd oid = false := by
  simp only [ObjRow.direct, Bool.and_eq_true, bne_iff_ne, ne_eq, Bool.not_eq_true', List.contains_eq_mem,
    List.mem_cons, List.not_mem_nil, decide_eq_false_iff_not, not_or] at hr
  obtain ⟨hty, hloop, hplan, hpcommit, hcact, hstate, htxb, -⟩ := hr
  refine ⟨hty, fun ho => ?_, fun ho => ?_, fun ho => ?_, fun ho => ?_, by simp [isTxbCtrl, hlk, htxb], by simp [isLoopCmd, hlk, hloop]⟩
  · exact hplan (lookup_base hlk (show lookup 0x120 = some (⟨0x00000120, [], .u8, .rwp, .num 0, true, .oneOf [1], .request⟩, []) from rfl) ho)
  · exact hstate (lookup_base hlk (show lookup 0x110 = some (⟨0x00000110, [], .u8, .rwp, .num 0, true, .oneOf [1, 3], .request⟩, []) from rfl) ho)
  · have hbase : (lookup 0x70000003).map (·.1.base) = some 0x70000003 := by decide +kernel
    subst ho
    rw [hlk] at hbase
    exact hpcommit (Option.some.inj hbase)
  · have hbase : (lookup 0x70000006).map (·.1.base) = some 0x70000006 := by decide +kernel
    subst ho
    rw [hlk] at hbase
    exact hcact (Option.some.inj hbase)

/-- A host write that passes its checks: the state is that of its effect, and the answer is OK (R29, R674). -/
theorem State.hostRow_effect (h : s.Ready n) (hlk : lookup oid = some (r, ix)) (hex : objectExists r.base ix = true) (hr : r.direct = true)
    (hc : (s.seen n).checkWrite (hostRights n) { oid := oid, data := d } = none) (hdoor : r.base = 0x20000100 → leNat d ≠ 1) (a : State)
    (heff : (s.landed n req { oid := oid, data := d }).areaEffect (hostRights n) r { oid := oid, data := d } ix
      (maskBits r.base (r.ty.dec (r.taken d))) (if r.ty.isBytes then r.taken d else r.ty.enc (maskBits r.base (r.ty.dec (r.taken d)))) = a)
    (hx : a.acc.sessions = (s.landed n req { oid := oid, data := d }).acc.sessions) (hm : a.emits = s.emits) :
    ∃ t, s.hostRow n req { oid := oid, data := d } = t ∧ t.Answers n req 0 ∧ t.Like a := by
  obtain ⟨hty, h120, h110, h7003, h7006, htx, hloop⟩ := ObjRow.direct_entry hr hlk
  have hplaced := s.applyObject_placed n req { oid := oid, data := d } (hostRights n) r ix r.ty hlk hex (by simp [State.tyOf, hty]) rfl
  have heffect : (s.placed n req { oid := oid, data := d }).applyObject (hostRights n) { oid := oid, data := d } = a := by
    rw [hplaced, ← heff]
    simp only [writeBytes, Bool.not_false, if_true, ObjRow.taken]
  have hemp : s.emits = [] := h.2.2.2.2.2.2.1
  have hls : (s.landed n req { oid := oid, data := d }).acc.sessions = (s.placed n req { oid := oid, data := d }).acc.sessions := by
    simp [State.landed]
  obtain ⟨hans, hlike⟩ := s.hostRow_done n req { oid := oid, data := d } h (lookup_lt hlk) h120 hc (by simp [PendReq.loopCmd, hloop])
    (fun o jx hl hb => by
      have hbase := lookup_base hlk hl rfl
      exact hdoor (hbase.trans hb))
    ⟨h7003, h7006, h110⟩ htx (by rw [heffect, hx, hls]) (by rw [heffect, hm, hemp])
  exact ⟨_, rfl, hans, by rw [heffect] at hlike; exact hlike⟩

/-- A host write that passes its checks and whose effect may end its session: answered OK, before it takes effect where its session ends. -/
theorem State.hostRow_either (h : s.Ready n) (hlk : lookup oid = some (r, ix)) (hex : objectExists r.base ix = true) (hr : r.direct = true)
    (hc : (s.seen n).checkWrite (hostRights n) { oid := oid, data := d } = none) (hdoor : r.base = 0x20000100 → leNat d ≠ 1) (F : State → State)
    (heff : ∀ u : State, u.areaEffect (hostRights n) r { oid := oid, data := d } ix (maskBits r.base (r.ty.dec (r.taken d)))
      (if r.ty.isBytes then r.taken d else r.ty.enc (maskBits r.base (r.ty.dec (r.taken d)))) = F u)
    (hout : ∀ (u : State) (o : Out), o ∈ u.out → o ∈ (F u).out) (hquiet : ∀ u : State, u.emits = [] → (F u).emits = []) :
    ∃ u t : State, s.hostRow n req { oid := oid, data := d } = t ∧ u.Like (s.landed n req { oid := oid, data := d }) ∧ t.Answers n req 0
      ∧ t.Like (F u) ∧ ∀ o ∈ (F u).out, o ∈ t.out := by
  obtain ⟨hty, h120, h110, h7003, h7006, htx, hloop⟩ := ObjRow.direct_entry hr hlk
  have hoid := lookup_lt hlk
  have hemits : s.emits = [] := h.2.2.2.2.2.2.1
  have hdoor' : ∀ o jx, lookup oid = some (o, jx) → o.base = 0x20000100 → leNat d ≠ 1 := fun o jx hl hb => hdoor ((lookup_base hlk hl rfl).trans hb)
  have happly (u : State) : u.applyObject (hostRights n) { oid := oid, data := d } = F (u.mended oid) := by
    rw [u.applyObject_row (hostRights n) r.ty hlk hex (by simp [State.tyOf, hty]) rfl, ← heff]
    simp only [writeBytes, Bool.not_false, if_true, ObjRow.taken]
  have happlies (u : State) : (u.applyEntries (hostRights n) [{ oid := oid, data := d }]).Like (F (u.mended oid))
      ∧ (u.applyEntries (hostRights n) [{ oid := oid, data := d }]).out = (F (u.mended oid)).out := by
    refine ⟨?_, ?_⟩
    · rw [← happly]
      exact State.applyEntries_one _ _ _ hoid
    · rw [← happly]
      simp only [State.applyEntries, State.applyEntry, List.foldl_cons, List.foldl_nil, u.broadcast_none oid hoid]
  have hcommitted (u : State) (fpr : BitVec 256) : (u.recordCommitted fpr req 0).out = u.out := by
    unfold State.recordCommitted
    rw [State.mirror_out]
  have hstatus : (s.placed n req { oid := oid, data := d }).commitStatus (s.writeReq n req { oid := oid, data := d }) = .ok := by
    simp [State.commitStatus, cancelLate, htx, h7003, h7006, h110]
  have hloop' : (s.writeReq n req { oid := oid, data := d }).loopCmd = false := by simp [PendReq.loopCmd, hloop]
  have hdraw : (isTxbCtrl oid && leNat d == 2 && ({ oid := oid, data := d } : WEntry).ph.isNone) = false := by simp [htx]
  have hpquiet : (s.placed n req { oid := oid, data := d }).emits = [] := by rw [State.placed_emits, hemits]
  cases hk : (s.wrote n req { oid := oid, data := d }).listens (s.writeReq n req { oid := oid, data := d }) with
  | true =>
    obtain ⟨hlike, hwout⟩ := happlies (s.placed n req { oid := oid, data := d })
    have hrow := s.hostRow_commit n req { oid := oid, data := d } h hoid h120 hc hloop' hdoor' hdraw hstatus hk
    have hlike' := (State.recordCommitted_like (s.wrote n req { oid := oid, data := d }) req (s.ses n).fpr 0).trans hlike
    have hq : (((s.wrote n req { oid := oid, data := d }).recordCommitted (s.ses n).fpr req 0).emit (.resp n 0x11 req 0 [])).emits = [] := by
      rw [State.emit_emits, hlike'.emits]
      exact hquiet _ (by rw [State.mended_emits, hpquiet])
    rw [hrow, State.drain_of_quiet _ hq]
    refine ⟨_, _, rfl, .refl _, List.mem_append_right _ List.mem_cons_self, (State.emit_like ..).trans hlike', fun o ho => List.mem_append_left _ ?_⟩
    rw [hcommitted]
    exact hwout ▸ ho
  | false =>
    obtain ⟨hlike, hwout⟩ := happlies ((s.placed n req { oid := oid, data := d }).emit (.resp n 0x11 req 0 []))
    have hcommit := State.hostRow_eq_commitReq req h hoid h120 hc hdoor'
    rw [State.commitReq_parting req hdraw h120 h.2.2.2.1 h.2.2.1 hloop' hstatus hk] at hcommit
    generalize hw : ((s.placed n req { oid := oid, data := d }).emit (.resp n 0x11 req 0 [])).applyEntries (hostRights n) [{ oid := oid, data := d }]
      = w at *
    have hlike' := (State.recordCommitted_like w req (s.ses n).fpr 0).trans hlike
    have hq : (w.recordCommitted (s.ses n).fpr req 0).emits = [] := by
      rw [hlike'.emits]
      exact hquiet _ (by rw [State.mended_emits]; exact hpquiet)
    rw [hcommit, State.drain_of_quiet _ hq]
    refine ⟨_, _, rfl, ?_, ?_, hlike', fun o ho => ?_⟩
    · rw [State.emit_mended]
      exact State.emit_like ..
    · rw [State.Answers, hcommitted, hwout]
      exact hout _ _ (by rw [State.mended_out]; exact List.mem_append_right _ List.mem_cons_self)
    · rw [hcommitted, hwout]
      exact ho

/-- The state once a refusal for want of budget is noted (R232). -/
def State.notesExcess (s : State) (y : Refuse) : State :=
  match y.excess with
  | some o => s.noteRefusal o
  | none => s

/-- In a session that is ready, a write that a check refuses is answered with that refusal, and a want of budget is noted (R185, R201, R232). -/
theorem State.hostRow_refuses (y : Refuse) (h : s.Ready n) (hlk : lookup oid = some (r, ix))
    (hc : (s.seen n).checkWrite (hostRights n) { oid := oid, data := d } = some y) (hdoor : r.base = 0x20000100 → leNat d ≠ 1) :
    s.hostRow n req { oid := oid, data := d } = (((s.seen n).notesExcess y).emit (.resp n 0x11 req y.st.code y.payload)) := by
  obtain ⟨hserv, hstb, hopen, hpart, hnone, hhs, hem, hj⟩ := h
  have hwaits := hnone.1
  have hrights : ({ s.writeReq n req { oid := oid, data := d } with pos := 0 } : PendReq).rights = hostRights n := by
    simp [PendReq.rights, State.writeReq, hostRights, hpart]
  have hproj : (s.seen n).projected = s.seen n := by
    have hw : (s.seen n).acc.waits = [] := hwaits
    simp [State.projected, hw]
  have hcheck : (s.seen n).checkRequest { s.writeReq n req { oid := oid, data := d } with pos := 0 } false = some y := by
    unfold State.checkRequest
    rw [hproj, hrights]
    simp [State.checkEntries, State.checkEntry, State.broadcast_none _ _ (lookup_lt hlk), hc, andThen]
  have hfit (u : State) (hu : u.acc = (s.seen n).acc) : u.projected.journalFits [{ oid := oid, data := d }] = true := by
    have hw : u.acc.waits = [] := by rw [hu]; exact hwaits
    have hl := u.journalOf_length { oid := oid, data := d }
    have hj' : u.acc.journal = s.acc.journal := by rw [hu]; rfl
    simp [State.projected, hw, State.journalFits, hj']
    omega
  have hacc : ((s.seen n).notesExcess y).acc = (s.seen n).acc := by
    unfold State.notesExcess State.noteRefusal
    split
    · rw [State.event_acc]
      rfl
    · rfl
  have hnote : (s.seen n).noteRequest { s.writeReq n req { oid := oid, data := d } with pos := 0 } (some y) = (s.seen n).notesExcess y := by
    have hno : ¬ (r.base = 0x20000100 ∧ leNat d = 1 ∧ (y.st == .range || y.st == .noBudget || y.st == .busy) = true) := fun hh => hdoor hh.1 hh.2.1
    have hend : (if y.st = .busy ∧ (!((s.seen n).notesExcess y).projected.journalFits [{ oid := oid, data := d }]) = true then
        ((s.seen n).notesExcess y).event 0x1006 ((s.seen n).notesExcess y).acc.journal.length else (s.seen n).notesExcess y)
        = (s.seen n).notesExcess y := by
      rw [hfit _ hacc]
      simp
    unfold State.noteRequest
    simp only [State.writeReq_entries, List.foldl_cons, List.foldl_nil, hlk, hno, if_false]
    exact hend
  have hsm : ¬ (s.seen n).mode = .standby := hstb
  have hemits : (((s.seen n).notesExcess y).emit (.resp n 0x11 req y.st.code y.payload)).emits = [] := by
    have hu : ((s.seen n).notesExcess y).emits = (s.seen n).emits := by
      unfold State.notesExcess State.noteRefusal
      split
      · rw [State.event_emits]
        rfl
      · rfl
    rw [State.emit_emits, hu]
    exact hem
  rw [s.hostRow_eq_hostWrite n req { oid := oid, data := d } hserv hopen hnone]
  simp only [State.hostWrite, hsm, if_false, hcheck, hnote]
  exact State.drain_of_quiet _ hemits

/-- A host write whose bytes a plain row does not take is answered with the refusal of its length or range, and nothing else happens (R201). -/
theorem State.hostRow_misfit {st : Status} (h : s.Ready n) (hlk : lookup oid = some (r, ix)) (hex : objectExists r.base ix = true)
    (hr : r.plain = true) (hloop : r.acc = .rwl → (s.seen n).loopShut r ix = none) (hval : valueCheck r r.ty (r.taken d) = refuse st)
    (hdoor : r.base = 0x20000100 → leNat d ≠ 1) :
    s.hostRow n req { oid := oid, data := d } = (s.seen n).emit (.resp n 0x11 req st.code []) := by
  simp only [ObjRow.plain, Bool.and_eq_true, bne_iff_ne, ne_eq, Bool.or_eq_true, beq_iff_eq, Bool.not_eq_true', List.contains_eq_mem,
    List.mem_cons, List.not_mem_nil, decide_eq_false_iff_not, not_or] at hr
  obtain ⟨⟨hty, hacc⟩, hpv, -⟩ := hr
  have hcode : (s.seen n).codeCheck (hostRights n) r ix = none := by
    rcases hacc with ((h | h) | h) | h
    · simp [h, State.codeCheck]
    · simp [h, State.codeCheck]
    · simpa [h, State.codeCheck] using hloop h
    · simp [h, State.codeCheck, hostRights, need]
  have hfind : findObject oid = some (r, ix) := by simp [findObject, hlk, hex]
  have htyOf : (s.seen n).tyOf r ix = some r.ty := by simp [State.tyOf, hty]
  have hdefault : (s.seen n).withDefault { oid := oid, data := d } = { oid := oid, data := d } := by
    simp only [State.withDefault, hlk, Bool.not_false, Bool.true_or, if_true]
  have hpv' : (r.base == 0x80000000) = false := by simp [hpv]
  have hflag : flagCheck (hostRights n) r { oid := oid, data := d } = none := by
    simp only [flagCheck, hpv', Bool.false_eq_true, if_false]
    simp [firstOf, andThen, need]
  have hbytes : writeBytes r oid r.ty false d = r.taken d := by simp [writeBytes, ObjRow.taken]
  have hobject : (s.seen n).checkObject (hostRights n) { oid := oid, data := d } = refuse st := by
    unfold State.checkObject
    simp only [hdefault, hostRights, hfind, htyOf, hbytes, Bool.false_eq_true, if_false, hpv, bne_self_eq_false, Bool.false_and]
    rw [show (s.seen n).codeCheck { part := 0, ses := n } r ix = none from hcode,
      show flagCheck { part := 0, ses := n } r { oid := oid, data := d } = none from hflag, hval]
    rfl
  have hcheck : (s.seen n).checkWrite (hostRights n) { oid := oid, data := d } = some { st := st } := by
    unfold State.checkWrite
    rw [hobject]
    rfl
  exact s.hostRow_refuses n req { st := st } h hlk hcheck hdoor

/-- What the note of a refusal leaves. -/
theorem State.notesExcess_frame (y : Refuse) :
    (s.notesExcess y).launches = s.launches ∧ (s.notesExcess y).blobs = s.blobs ∧ (s.notesExcess y).mode = s.mode ∧ (s.notesExcess y).pts = s.pts
      ∧ (s.notesExcess y).clk = s.clk ∧ s.KeepsRecords (s.notesExcess y)
      ∧ (∀ k : Key, (∀ a, k.oid ≠ (Oid.ACC_REFUSALS a).oid) → k.oid ≠ Oid.REC_DROPPED.oid → (s.notesExcess y).get k = s.get k) := by
  unfold State.notesExcess State.noteRefusal
  split
  · exact ⟨State.event_launches .., State.event_blobs .., State.event_mode .., State.event_pts .., State.event_clk ..,
      (State.event_records ..).trans (.of_rcd rfl) |>.after (.of_rcd rfl),
      fun k ha hd => (State.get_event _ _ _ _ _ _ hd.symm).trans (State.get_setN_other _ _ _ _ (ha _).symm)⟩
  · exact ⟨rfl, rfl, rfl, rfl, rfl, .refl s, fun _ _ _ => rfl⟩

end

theorem valueCheck_u8_range {r : ObjRow} {v : Byte} (hty : r.ty = .u8) (hm : bitMask r.base = none)
    (hrng : r.rng.allows (.num v.toNat) = false) : valueCheck r r.ty (r.taken [v]) = refuse .range := by
  have htaken : r.taken [v] = [v] := by simp [ObjRow.taken, hty, Ty.isBytes]
  have hvalue : maskBits r.base (r.ty.dec [v]) = v.toNat := by simp [hty, maskBits, hm, Ty.dec, Ty.isSigned]
  unfold valueCheck
  rw [htaken, hvalue, hty]
  simp only [hrng]
  rfl

end Sys2Proof.Machine
end

section
/-! ### Launches (O22)
A launch is looked up by its tag among the launches, and every command on it changes the one launch found or takes it away. -/

namespace Sys2Proof.Machine

/-! ### Tags -/

theorem State.heldTag_mem {s : State} {part tag : Nat} {l : Launch} (h : s.heldTag part tag = some l) :
    l ∈ s.launches ∧ l.part = part ∧ l.tag = tag := by
  have hl := List.find?_some h
  simp only [Bool.and_eq_true, beq_iff_eq] at hl
  exact ⟨List.mem_of_find?_eq_some h, hl.1, hl.2⟩

theorem State.heldTag_congr {s t : State} (h : t.launches = s.launches) (part tag : Nat) : t.heldTag part tag = s.heldTag part tag := by
  rw [State.heldTag, h]
  rfl

theorem State.heldTag_none {s : State} {part tag : Nat} : s.heldTag part tag = none ↔ ∀ l ∈ s.launches, ¬ (l.part = part ∧ l.tag = tag) := by
  rw [State.heldTag, List.find?_eq_none]
  simp

/-- The launch with a tag, once its state has been changed. -/
theorem State.heldTag_mapLaunch {s : State} {part tag : Nat} {l : Launch} (h : s.heldTag part tag = some l) (st : LaunchState) :
    (s.mapLaunch part tag (fun x => { x with state := st })).heldTag part tag = some { l with state := st } := by
  have hmap (L : List Launch) (hL : L.find? (fun l => l.part == part && l.tag == tag) = some l) :
      (L.map (fun l => if l.part = part ∧ l.tag = tag then { l with state := st } else l)).find? (fun l => l.part == part && l.tag == tag)
        = some { l with state := st } := by
    induction L with
    | nil => exact absurd hL (by simp)
    | cons x L ih =>
      by_cases hx : x.part = part ∧ x.tag = tag
      · have hxl : x = l := by simpa [hx.1, hx.2] using hL
        subst hxl
        simp [hx.1, hx.2]
      · have hno : (x.part == part && x.tag == tag) = false := by simpa using hx
        rw [List.find?_cons, hno] at hL
        rw [List.map_cons, if_neg hx, List.find?_cons, hno]
        exact ih hL
  exact hmap s.launches h

theorem State.endLaunch_launches (s : State) (l : Launch) (st : LaunchState) :
    (s.endLaunch l st).launches = (s.mapLaunch l.part l.tag (fun x => { x with state := st })).launches := by
  unfold State.endLaunch State.dropItems
  exact State.foldl_launches (fun u i => u.mirror_launches _) _ _

theorem State.heldTag_endLaunch {s : State} {part tag : Nat} {l : Launch} (h : s.heldTag part tag = some l) (st : LaunchState) :
    (s.endLaunch l st).heldTag part tag = some { l with state := st } := by
  obtain ⟨-, hp, ht⟩ := State.heldTag_mem h
  have hmap := State.heldTag_mapLaunch h st
  rw [State.heldTag_congr (s.endLaunch_launches l st)]
  subst hp ht
  exact hmap

/-! ### LAUNCH_SUBMIT (R159 to R161) -/

/-- The row of LAUNCH_SUBMIT. -/
def launchSubmitRow : ObjRow := ⟨0x08001000, [], .octets, .wo, .oct [], false, (.len 32 2048), .request⟩

theorem lookup_LAUNCH_SUBMIT : lookup 0x08001000 = some (launchSubmitRow, []) := rfl

theorem State.checkWrite_submit (s : State) (n : Nat) {d : List Byte} (hmod : d.length % 32 = 0) (hlo : 32 ≤ d.length) (hhi : d.length ≤ 2048) :
    s.checkWrite (hostRights n) { oid := 0x08001000, data := d } = s.submitCheck (hostRights n) [] (launchDescs d) := by
  have hval : valueCheck launchSubmitRow launchSubmitRow.ty (launchSubmitRow.taken d) = none := by
    have hlen : launchSubmitRow.taken d = d := rfl
    rw [hlen]
    have hlen : decide (d.length ≤ 65535) = true := decide_eq_true (by omega)
    have hrange : launchSubmitRow.rng.allows (.oct d) = true := decide_eq_true ⟨hlo, hhi⟩
    unfold valueCheck
    rw [hlen, hrange]
    rfl
  have hobj : s.checkObject (hostRights n) { oid := 0x08001000, data := d } = none := by
    rw [s.checkObject_plain (hostRights n) (r := launchSubmitRow) (ix := []) rfl lookup_LAUNCH_SUBMIT rfl (by decide) rfl (by decide) rfl rfl rfl hval]
    simp [State.ownerCheck, launchSubmitRow]
  have hsize : need (d.length % 32 == 0 && decide (32 ≤ d.length ∧ d.length ≤ 2048)) .type = none := by simp [need, hmod, hlo, hhi]
  unfold State.checkWrite
  rw [hobj]
  simp only [andThen, lookup_LAUNCH_SUBMIT]
  rw [if_pos (show launchSubmitRow.base = 0x08001000 from rfl), hsize]

theorem State.areaEffect_submit (s : State) (q : Rights) (e : WEntry) (ix : List Nat) (v : Int) (d : List Byte) :
    s.areaEffect q launchSubmitRow e ix v d
      = (List.range (d.length / 32)).foldl (fun s i => s.acceptLaunch q.part ((d.drop (32 * i)).take 32)) s := by
  simp [State.areaEffect, State.apply08, launchSubmitRow, safetyParam]

/-- A state `t` that came of `s` by accepting launches. -/
structure State.Accepts (s t : State) : Prop where
  objs : t.objs = s.objs
  blobs : t.blobs = s.blobs
  rcd : t.rcd = s.rcd
  mode : t.mode = s.mode
  sessions : t.acc.sessions = s.acc.sessions
  emits : t.emits = s.emits
  sub : ∀ l ∈ s.launches, l ∈ t.launches

theorem State.Accepts.refl (s : State) : s.Accepts s := ⟨rfl, rfl, rfl, rfl, rfl, rfl, fun _ h => h⟩

theorem State.Accepts.trans {s t u : State} (h : s.Accepts t) (g : t.Accepts u) : s.Accepts u where
  objs := g.objs.trans h.objs
  blobs := g.blobs.trans h.blobs
  rcd := g.rcd.trans h.rcd
  mode := g.mode.trans h.mode
  sessions := g.sessions.trans h.sessions
  emits := g.emits.trans h.emits
  sub l hl := g.sub l (h.sub l hl)

/-- The launch of a descriptor whose tag is free is queued behind the others. -/
theorem State.acceptLaunch_launches {s : State} {part : Nat} {b : List Byte} (h : s.heldTag part (launchDesc b).tag = none) :
    (s.acceptLaunch part b).launches = s.launches ++ [s.launchOf part (launchDesc b)] := by
  unfold State.acceptLaunch
  simp only [h, Option.isSome_none, Bool.false_eq_true, if_false]
  rw [State.mirror_launches, State.addItem_launches]

theorem State.acceptLaunch_accepts (s : State) (part : Nat) (b : List Byte) : s.Accepts (s.acceptLaunch part b) where
  objs := State.acceptLaunch_objs ..
  blobs := State.acceptLaunch_blobs ..
  rcd := State.acceptLaunch_rcd ..
  mode := State.acceptLaunch_mode ..
  sessions := State.acceptLaunch_acc_sessions ..
  emits := State.acceptLaunch_emits ..
  sub l hl := by
    cases h : s.heldTag part (launchDesc b).tag with
    | none =>
      rw [State.acceptLaunch_launches h]
      exact List.mem_append_left _ hl
    | some x =>
      unfold State.acceptLaunch
      simp only [h, Option.isSome_some, if_true]
      exact hl

/-- Descriptors whose tags are free and differ are all queued. -/
theorem State.acceptLaunches_queued (part : Nat) (L : List (List Byte)) (s : State) (hfree : ∀ b ∈ L, s.heldTag part (launchDesc b).tag = none)
    (hdiff : L.Pairwise (fun a b => (launchDesc a).tag ≠ (launchDesc b).tag)) :
    s.Accepts (L.foldl (fun u b => u.acceptLaunch part b) s)
      ∧ ∀ b ∈ L, ∃ l ∈ (L.foldl (fun u b => u.acceptLaunch part b) s).launches, l.part = part ∧ l.tag = (launchDesc b).tag
        ∧ l.time = (launchDesc b).time ∧ l.target = (launchDesc b).target ∧ l.value = (launchDesc b).value ∧ l.state = .waiting := by
  induction L generalizing s with
  | nil => exact ⟨.refl s, fun b hb => absurd hb List.not_mem_nil⟩
  | cons b L ih =>
    rw [List.pairwise_cons] at hdiff
    have hnew := State.acceptLaunch_launches (hfree b List.mem_cons_self)
    have hfree' : ∀ c ∈ L, (s.acceptLaunch part b).heldTag part (launchDesc c).tag = none := fun c hc => by
      rw [State.heldTag_none, hnew]
      intro l hl hlt
      rcases List.mem_append.1 hl with hl | hl
      · exact State.heldTag_none.1 (hfree c (List.mem_cons_of_mem b hc)) l hl hlt
      · rw [List.mem_singleton.1 hl] at hlt
        exact hdiff.1 c hc hlt.2
    obtain ⟨hacc, hall⟩ := ih (s.acceptLaunch part b) hfree' hdiff.2
    rw [List.foldl_cons]
    refine ⟨(s.acceptLaunch_accepts part b).trans hacc, fun c hc => ?_⟩
    rcases List.mem_cons.1 hc with rfl | hc
    · refine ⟨_, hacc.sub (s.launchOf part (launchDesc c)) ?_, rfl, rfl, rfl, rfl, rfl, rfl⟩
      rw [hnew]
      exact List.mem_append_right _ List.mem_cons_self
    · exact hall c hc

theorem firstOf_none {l : List (Option Refuse)} (h : firstOf l = none) : ∀ x ∈ l, x = none := by
  induction l with
  | nil => exact fun x hx => absurd hx List.not_mem_nil
  | cons a l ih =>
    cases a with
    | none =>
      intro x hx
      rcases List.mem_cons.1 hx with rfl | hx
      · rfl
      · exact ih h x hx
    | some r => exact absurd h (by simp [firstOf, andThen])

theorem need_none {c : Bool} {st : Status} (h : need c st = none) : c = true := by
  cases c
  · exact absurd h (by simp [need, refuse])
  · rfl

/-- A descriptor that passes its checks has a tag that is free, and not that of one before it. -/
theorem State.descCheck_tag {s : State} {q : Rights} {done : List LaunchDesc} {x : LaunchDesc} (h : s.descCheck q done x = none) :
    s.heldTag q.part x.tag = none ∧ ∀ y ∈ done, y.tag ≠ x.tag := by
  have htag := need_none (firstOf_none h _ (List.mem_cons_of_mem _ (List.mem_cons_of_mem _ (List.mem_cons_of_mem _ (List.mem_cons_of_mem _
    List.mem_cons_self)))))
  simpa using htag

theorem State.submitCheck_tags {s : State} {q : Rights} (l : List LaunchDesc) (done : List LaunchDesc) (h : s.submitCheck q done l = none) :
    (∀ x ∈ l, s.heldTag q.part x.tag = none ∧ ∀ y ∈ done, y.tag ≠ x.tag) ∧ l.Pairwise (fun a b => a.tag ≠ b.tag) := by
  induction l generalizing done with
  | nil => exact ⟨fun x hx => absurd hx List.not_mem_nil, .nil⟩
  | cons x l ih =>
    rw [State.submitCheck] at h
    cases hx : s.descCheck q done x with
    | some r =>
      rw [hx] at h
      exact absurd h (by simp)
    | none =>
      rw [hx] at h
      obtain ⟨hall, hpair⟩ := ih (done ++ [x]) h
      refine ⟨fun y hy => ?_, ?_⟩
      · rcases List.mem_cons.1 hy with rfl | hy
        · exact State.descCheck_tag hx
        · exact ⟨(hall y hy).1, fun z hz => (hall y hy).2 z (List.mem_append_left _ hz)⟩
      · exact List.pairwise_cons.2 ⟨fun y hy => (hall y hy).2 x (List.mem_append_right _ List.mem_cons_self), hpair⟩

/-- The bytes of the descriptors of a submission. -/
def launchChunks (d : List Byte) : List (List Byte) := (List.range (d.length / 32)).map (fun i => (d.drop (32 * i)).take 32)

theorem launchDescs_eq (d : List Byte) : launchDescs d = (launchChunks d).map launchDesc := by
  simp [launchDescs, launchChunks]

theorem State.atRequest_eq_seen (s : State) (n : Nat) : s.atRequest n = s.seen n := rfl

theorem State.launchSubmit_queued {s : State} (ses : Fin 64) (req : BitVec 32) {data : List Byte} (h : s.Ready ses.val) (hmod : data.length % 32 = 0)
    (hlo : 32 ≤ data.length) (hhi : data.length ≤ 2048) (hc : (s.atRequest ses.val).submitCheck { ses := ses.val } [] (launchDescs data) = none) :
    ∃ t, exec (.launchSubmit ses req data) s = .next t ∧ t.Answers ses.val req 0 ∧ t.objs = s.objs ∧ t.blobs = s.blobs ∧ t.rcd = s.rcd
      ∧ (∀ x ∈ launchDescs data, ∃ l ∈ t.launches, l.part = 0 ∧ l.tag = x.tag ∧ l.time = x.time ∧ l.target = x.target ∧ l.value = x.value
          ∧ l.state = .waiting) := by
  have hcheck := ((s.seen ses.val).checkWrite_submit ses.val hmod hlo hhi).trans hc
  obtain ⟨htags, hpair⟩ := State.submitCheck_tags _ _ hc
  rw [launchDescs_eq] at htags hpair
  rw [List.pairwise_map] at hpair
  have hrun : (List.range (data.length / 32)).foldl (fun (u : State) i => u.acceptLaunch 0 ((data.drop (32 * i)).take 32))
      (s.landed ses.val req { oid := 0x08001000, data := data })
      = (launchChunks data).foldl (fun u b => u.acceptLaunch 0 b) (s.landed ses.val req { oid := 0x08001000, data := data }) := by
    rw [launchChunks, List.foldl_map]
  obtain ⟨hacc, hall⟩ := State.acceptLaunches_queued 0 (launchChunks data) (s.landed ses.val req { oid := 0x08001000, data := data })
    (fun b hb => (State.heldTag_congr (State.landed_launches ..) _ _).trans (htags _ (List.mem_map_of_mem hb)).1) hpair
  obtain ⟨t, ht, hans, hlike⟩ := s.hostRow_effect ses.val req h lookup_LAUNCH_SUBMIT rfl (by decide) hcheck (fun hb => absurd hb (by decide)) _
    ((State.areaEffect_submit ..).trans hrun) hacc.sessions (hacc.emits.trans (State.landed_emits ..))
  refine ⟨t, congrArg _ ht, hans, ?_, ?_, ?_, fun x hx => ?_⟩
  · rw [hlike.objs, hacc.objs, State.landed_objs]
  · rw [hlike.blobs, hacc.blobs, State.landed_blobs]
  · rw [hlike.rcd, hacc.rcd, State.landed_rcd]
  · rw [launchDescs_eq] at hx
    obtain ⟨b, hb, rfl⟩ := List.mem_map.1 hx
    rw [hlike.launches]
    exact hall b hb

/-! ### A write to a field channel as a launch (R17, R160, R161) -/

/-- The bytes of a descriptor that writes a truth value to a field channel. -/
def outLaunch (x : Fin 64) (b : Bool) (tag : BitVec 32) (time : BitVec 64) : List Byte :=
  [if b then 1 else 0] ++ List.replicate 13 0 ++ [1, 0] ++ leBytes 4 tag.toNat ++ leBytes 4 (Oid.FIO_OUT x).oid ++ leBytes 8 time.toNat

/-- The descriptor of that write. -/
def outDesc (x : Fin 64) (b : Bool) (tag : BitVec 32) (time : BitVec 64) : LaunchDesc :=
  { time := time.toNat, target := (Oid.FIO_OUT x).oid, tag := tag.toNat, prio := 0, len := 1, value := [if b then 1 else 0] }

theorem outLaunch_length (x : Fin 64) (b : Bool) (tag : BitVec 32) (time : BitVec 64) : (outLaunch x b tag time).length = 32 := by
  simp [outLaunch]

theorem leNat_append (a b : List Byte) : leNat (a ++ b) = leNat a + 256 ^ a.length * leNat b := by
  induction a with
  | nil => simp [leNat]
  | cons x a ih =>
    rw [List.cons_append, leNat, leNat, ih, List.length_cons, Nat.pow_succ, Nat.mul_add, ← Nat.mul_assoc, Nat.mul_comm 256 (256 ^ _), Nat.add_assoc]

theorem leNat_outLaunch (x : Fin 64) (b : Bool) (tag : BitVec 32) (time : BitVec 64) :
    leNat (outLaunch x b tag time) =
      (if b then 1 else 0) + 256 ^ 14 * (1 + 256 ^ 2 * (tag.toNat + 256 ^ 4 * ((Oid.FIO_OUT x).oid + 256 ^ 4 * time.toNat))) := by
  have hoid : (Oid.FIO_OUT x).oid < 256 ^ 4 := by simp; omega
  have hzero : leNat (List.replicate 13 (0 : Byte)) = 0 := rfl
  unfold outLaunch
  simp only [List.append_assoc]
  rw [leNat_append, leNat_append, leNat_append, leNat_append, leNat_append, hzero, leNat_leBytes, leNat_leBytes, leNat_leBytes,
    Nat.mod_eq_of_lt hoid, Nat.mod_eq_of_lt (show tag.toNat < 256 ^ 4 from tag.isLt), Nat.mod_eq_of_lt (show time.toNat < 256 ^ 8 from time.isLt)]
  cases b <;> simp [leNat] <;> omega

theorem launchDesc_outLaunch (x : Fin 64) (b : Bool) (tag : BitVec 32) (time : BitVec 64) :
    launchDesc (outLaunch x b tag time) = outDesc x b tag time := by
  have hv := leNat_outLaunch x b tag time
  have hoid : (Oid.FIO_OUT x).oid < 4294967296 := by simp; omega
  have htag := tag.isLt
  have htime := time.isLt
  have hbit : (if b then 1 else 0 : Nat) < 2 := by cases b <;> decide
  generalize (if b then 1 else 0 : Nat) = n at hv hbit
  have hlen : field (leNat (outLaunch x b tag time)) 119 112 = 1 := by rw [hv, field]; omega
  have hfields : field (leNat (outLaunch x b tag time)) 255 192 = time.toNat ∧ field (leNat (outLaunch x b tag time)) 191 160 = (Oid.FIO_OUT x).oid
      ∧ field (leNat (outLaunch x b tag time)) 159 128 = tag.toNat ∧ field (leNat (outLaunch x b tag time)) 127 120 = 0 := by
    rw [hv]
    refine ⟨?_, ?_, ?_, ?_⟩ <;> rw [field] <;> omega
  obtain ⟨h1, h2, h3, h4⟩ := hfields
  unfold launchDesc
  simp only [hlen, h1, h2, h3, h4]
  rfl

section

variable (s : State) (x : Fin 64) (b : Bool)

theorem pointOf_out : pointOf (Oid.FIO_OUT x).oid = none := by
  unfold pointOf
  rw [if_neg]
  simp
  omega

theorem State.broadcast_out : s.broadcast (Oid.FIO_OUT x).oid = none := s.broadcast_none _ (by simp; omega)

theorem State.launchTargets_out : s.launchTargets (Oid.FIO_OUT x).oid = [(Oid.FIO_OUT x).oid] := by
  rw [State.launchTargets, s.broadcast_out]

theorem State.emitterCharges_out : s.emitterCharges (Oid.FIO_OUT x).oid = [] := by
  have hcharges : s.targetCharges (Oid.FIO_OUT x).oid = [] := by
    unfold State.targetCharges
    rw [pointOf_out]
  rw [State.emitterCharges, s.launchTargets_out, List.flatMap_singleton, hcharges]

theorem State.launchClass_out : s.launchClass (Oid.FIO_OUT x).oid = 3 := by
  unfold State.launchClass
  rw [s.launchTargets_out]
  simp only [List.map_cons, List.map_nil, pointOf_out]
  rfl

variable {s x}

/-- A write of a truth value to a field channel that the host owns passes its checks. -/
theorem State.checkObject_out {q : Rights} (hq : q.part = 0) (hown : s.fioOwner x.val = 0) :
    s.checkObject q { oid := (Oid.FIO_OUT x).oid, data := [if b then 1 else 0] } = none := by
  have htakes : fioOutRow.Takes [if b then (1 : Byte) else 0] ((if b then (1 : Byte) else 0).toNat : Int) := fioOutRow_takes (by cases b <;> decide)
  rw [s.checkObject_plain q hq (lookup_FIO_OUT x.val x.isLt) rfl (by decide) rfl (by decide) rfl rfl rfl (by rw [htakes.taken]; exact htakes.check)]
  simp [State.ownerCheck, fioOutRow, State.check60, hown, need]

theorem State.targetCheck_out {q : Rights} (hq : q.part = 0) (hown : s.fioOwner x.val = 0) :
    s.targetCheck q (Oid.FIO_OUT x).oid 0 [if b then 1 else 0] = none := by
  have hfind : findObject (Oid.FIO_OUT x).oid = some (fioOutRow, [x.val]) := by
    simp only [findObject, lookup_FIO_OUT x.val x.isLt]
    rfl
  have hcode : s.codeCheck q fioOutRow [x.val] = none := rfl
  have hobj := State.checkObject_out b hq hown
  unfold State.targetCheck State.targetOne
  rw [s.broadcast_out, hfind]
  simp only [hcode, hobj, hq]
  rfl

end

/-- The launch account takes one launch more. -/
theorem State.admitCheck_out {s : State} (hserv : s.serving = true) (hused : s.acctUsed 0x38 < 16384) (part : Nat) (x : Fin 64) (b : Bool)
    (tag : BitVec 32) (time : BitVec 64) : s.admitCheck [s.launchItem part (outDesc x b tag time)] = none := by
  have hcls : (s.launchItem part (outDesc x b tag time)).cls = 3 := s.launchClass_out x
  have hbooted : s.booted = true := by
    simp only [State.serving, Bool.and_eq_true, Bool.or_eq_true, beq_iff_eq] at hserv
    obtain ⟨⟨⟨hsafe, -⟩, hmem⟩, hmode⟩ := hserv
    have hne : s.mode ≠ .frozen := by rcases hmode with (h | h) | h <;> rw [h] <;> decide
    simp [State.booted, hsafe, hmem, hne]
  have hcap : s.acctCap 0x38 = 16384 := by
    have hhealthy : s.acctHealthy 0x38 = true := hbooted
    rw [State.acctCap, hhealthy]
    rfl
  have hroom : s.headroom 0x38 3 = 16384 - s.acctUsed 0x38 := by
    have hclassed : ¬ acctClassed 0x38 = true := by decide
    rw [State.headroom, if_neg hclassed, hcap]
  have hok : s.loadOk 0x38 3 1 = true := by
    rw [State.loadOk, hroom]
    simp
    omega
  have hitem : sumItem 3 [s.launchItem part (outDesc x b tag time)] = { id := 0, kind := .batches, cls := 3, charges := [(0x38, 1)] } := by
    simp only [sumItem, List.filter_cons, List.filter_nil, hcls]
    rfl
  have hfits : s.refusedBy { id := 0, kind := .batches, cls := 3, charges := [(0x38, 1)] } = none := by
    have hload : ({ id := 0, kind := .batches, cls := 3, charges := [(0x38, 1)] } : Item).load 0x38 = 1 := rfl
    have hlat : ({ id := 0, kind := .batches, cls := 3, charges := [(0x38, 1)] } : Item).latencyUs ≤ boundUs 3 := by decide
    unfold State.refusedBy
    simp only [List.filter_cons, List.filter_nil, hload, hok, Bool.not_true, Bool.false_eq_true, if_false, List.map_nil]
    rw [if_pos hlat]
  have hclasses : ([0, 1, 2, 3] : List Nat).filter (fun c => [s.launchItem part (outDesc x b tag time)].any (·.cls == c)) = [3] := by
    simp only [List.any_cons, List.any_nil, hcls]
    rfl
  have hbefore : [s.launchItem part (outDesc x b tag time)].filter (fun i => decide (i.cls < 3)) = [] := by simp [hcls]
  have hsame : ({ s with pts := { s.pts with items := s.pts.items ++ [] } } : State) = s := by rw [List.append_nil]
  unfold State.admitCheck
  rw [hclasses, List.findSome?_cons]
  simp only [hbefore, hitem, hsame, hfits, List.findSome?_nil]

theorem foldl_max_le {l : List Nat} {a m : Nat} (ha : a ≤ m) (h : ∀ n ∈ l, n ≤ m) : l.foldl max a ≤ m := by
  induction l generalizing a with
  | nil => exact ha
  | cons b l ih => exact ih (Nat.max_le.2 ⟨ha, h b List.mem_cons_self⟩) (fun n hn => h n (List.mem_cons_of_mem b hn))

/-- No more launches can crowd one than there are. -/
theorem crowd_le (l : List Nat) (t : Nat) : crowd l t ≤ l.length + 1 := by
  refine foldl_max_le (Nat.zero_le _) fun n hn => ?_
  obtain ⟨x, -, rfl⟩ := List.mem_map.1 hn
  exact Nat.le_trans (List.length_filter_le _ _) (Nat.succ_le_succ (List.length_filter_le _ _))

theorem State.descCheck_out {s : State} {q : Rights} (hq : q.part = 0) (x : Fin 64) (b : Bool) (tag : BitVec 32) (time : BitVec 64)
    (hserv : s.serving = true) (hset : s.tb.status ≠ 0) (hown : s.fioOwner x.val = 0)
    (hlo : s.time + s.nat Oid.LAUNCH_MIN_LEAD * 1000 ≤ time.toNat) (hhi : time.toNat ≤ s.time + s.nat Oid.LAUNCH_MAX_LEAD * 1000000000)
    (hfree : s.heldTag 0 tag.toNat = none) (hlen : s.launches.length < 1024) (hused : s.acctUsed 0x38 < 16384) :
    s.descCheck q [] (outDesc x b tag time) = none := by
  have hwindow : decide (s.time + s.nat Oid.LAUNCH_MIN_LEAD * 1000 ≤ time.toNat ∧ time.toNat ≤ s.time + sec (s.nat Oid.LAUNCH_MAX_LEAD)) = true :=
    decide_eq_true ⟨hlo, hhi⟩
  have hslot : s.slotRefusal (outDesc x b tag time) = none := by
    unfold State.slotRefusal
    rw [show s.emitterCharges (outDesc x b tag time).target = [] from s.emitterCharges_out x]
    rfl
  have hcrowd : crowd (((s.launches.filter (·.live)).map (·.time)) ++ []) (outDesc x b tag time).time ≤ 1024 := by
    refine Nat.le_trans (crowd_le _ _) ?_
    rw [List.append_nil, List.length_map]
    exact Nat.succ_le_of_lt (Nat.lt_of_le_of_lt (List.length_filter_le _ _) hlen)
  have hadmit := State.admitCheck_out hserv hused q.part x b tag time
  have htarget := State.targetCheck_out (s := s) (x := x) b hq hown
  have hstatus : (s.tb.status != 0) = true := by simpa using hset
  have hsame : ({ s with pts := { s.pts with items := s.pts.items ++ [] }, launches := s.launches ++ [] } : State) = s := by
    rw [List.append_nil, List.append_nil]
  unfold State.descCheck
  simp only [List.map_nil]
  rw [hsame, hadmit, hslot, if_pos hcrowd, show s.targetCheck q (outDesc x b tag time).target (outDesc x b tag time).prio (outDesc x b tag time).value
    = none from htarget, hstatus, hq, show s.heldTag 0 (outDesc x b tag time).tag = none from hfree,
    show decide (s.time + s.nat Oid.LAUNCH_MIN_LEAD * 1000 ≤ (outDesc x b tag time).time
      ∧ (outDesc x b tag time).time ≤ s.time + sec (s.nat Oid.LAUNCH_MAX_LEAD)) = true from hwindow]
  rfl

theorem State.launchSubmit_refused {s : State} (ses : Fin 64) (req : BitVec 32) {data : List Byte} (h : s.Ready ses.val) (hmod : data.length % 32 = 0)
    (hlo : 32 ≤ data.length) (hhi : data.length ≤ 2048) {r : Refuse}
    (hc : (s.atRequest ses.val).submitCheck { ses := ses.val } [] (launchDescs data) = some r) :
    ∃ t, exec (.launchSubmit ses req data) s = .next t ∧ (∃ p, Out.resp ses.val 0x11 req r.st.code p ∈ t.out) ∧ t.launches = s.launches
      ∧ t.blobs = s.blobs := by
  have hcheck := ((s.seen ses.val).checkWrite_submit ses.val hmod hlo hhi).trans hc
  have hrow := s.hostRow_refuses ses.val req r h lookup_LAUNCH_SUBMIT hcheck (fun hb => absurd hb (by decide))
  obtain ⟨hlaunches, hblobs, -⟩ := (s.seen ses.val).notesExcess_frame r
  have hexec : exec (.launchSubmit ses req data) s = .next (s.hostRow ses.val req { oid := 0x08001000, data := data }) := rfl
  rw [hexec, hrow]
  exact ⟨_, rfl, ⟨r.payload, by simp [State.emit]⟩, hlaunches, hblobs⟩

/-- A launch of a field channel is queued behind the others. -/
theorem State.launchSubmit_out {s : State} (ses : Fin 64) (req tag : BitVec 32) (time : BitVec 64) (x : Fin 64) (b : Bool) (h : s.Ready ses.val)
    (hset : s.tb.status ≠ 0) (hown : s.fioOwner x.val = 0) (hlo : s.time + s.nat Oid.LAUNCH_MIN_LEAD * 1000 ≤ time.toNat)
    (hhi : time.toNat ≤ s.time + s.nat Oid.LAUNCH_MAX_LEAD * 1000000000) (hfree : s.heldTag 0 tag.toNat = none) (hlen : s.launches.length < 1024)
    (hused : s.acctUsed 0x38 < 16384) :
    ∃ t, exec (.launchSubmit ses req (outLaunch x b tag time)) s = .next t ∧ t.Answers ses.val req 0 ∧ t.objs = s.objs ∧ t.blobs = s.blobs
      ∧ t.rcd = s.rcd ∧ t.mode = s.mode
      ∧ t.launches = s.launches ++ [{ part := 0, tag := tag.toNat, time := time.toNat, target := (Oid.FIO_OUT x).oid, prio := 0
                                      value := [if b then 1 else 0], order := s.launchSeq, cls := 3, charges := [] }] := by
  have hlength := outLaunch_length x b tag time
  have hdesc := State.descCheck_out (s := s.seen ses.val) (q := hostRights ses.val) rfl x b tag time (by rw [State.serving_seen]; exact h.1) hset hown
    hlo hhi hfree hlen hused
  have hdescs : launchDescs (outLaunch x b tag time) = [outDesc x b tag time] := by
    rw [launchDescs_eq, launchChunks, hlength]
    simp only [show List.range (32 / 32) = [0] from rfl, List.map_cons, List.map_nil, Nat.mul_zero, List.drop_zero]
    rw [List.take_of_length_le (Nat.le_of_eq hlength), launchDesc_outLaunch]
  have hcheck : (s.seen ses.val).checkWrite (hostRights ses.val) { oid := 0x08001000, data := outLaunch x b tag time } = none := by
    rw [(s.seen ses.val).checkWrite_submit ses.val (by rw [hlength]) (Nat.le_of_eq hlength.symm) (by rw [hlength]; decide), hdescs, State.submitCheck, hdesc]
    rfl
  have heff (v : Int) : (s.landed ses.val req { oid := 0x08001000, data := outLaunch x b tag time }).areaEffect (hostRights ses.val) launchSubmitRow
      { oid := 0x08001000, data := outLaunch x b tag time } [] v (outLaunch x b tag time)
      = (s.landed ses.val req { oid := 0x08001000, data := outLaunch x b tag time }).acceptLaunch 0 (outLaunch x b tag time) := by
    rw [State.areaEffect_submit, hlength, show List.range (32 / 32) = [0] from rfl, List.foldl_cons, List.foldl_nil, Nat.mul_zero, List.drop_zero,
      List.take_of_length_le (Nat.le_of_eq hlength)]
    rfl
  have hacc := (s.landed ses.val req { oid := 0x08001000, data := outLaunch x b tag time }).acceptLaunch_accepts 0 (outLaunch x b tag time)
  have hqueue := State.acceptLaunch_launches (s := s.landed ses.val req { oid := 0x08001000, data := outLaunch x b tag time }) (part := 0)
    (b := outLaunch x b tag time) (by
      rw [State.heldTag_congr (State.landed_launches ..), launchDesc_outLaunch]
      exact hfree)
  obtain ⟨t, ht, hans, hlike⟩ := s.hostRow_effect ses.val req h lookup_LAUNCH_SUBMIT rfl (by decide) hcheck (fun hb => absurd hb (by decide)) _
    (heff _) hacc.sessions (hacc.emits.trans (State.landed_emits ..))
  refine ⟨t, congrArg _ ht, hans, ?_, ?_, ?_, ?_, ?_⟩
  · rw [hlike.objs, hacc.objs, State.landed_objs]
  · rw [hlike.blobs, hacc.blobs, State.landed_blobs]
  · rw [hlike.rcd, hacc.rcd, State.landed_rcd]
  · rw [hlike.mode, hacc.mode, State.landed_mode]
  · rw [hlike.launches, hqueue, State.landed_launches, launchDesc_outLaunch, State.launchOf,
      show (outDesc x b tag time).target = (Oid.FIO_OUT x).oid from rfl, State.launchClass_out, State.emitterCharges_out, State.landed_launchSeq]
    rfl

/-! ### LAUNCH_CANCEL (R162) -/

/-- The row of LAUNCH_CANCEL. -/
def launchCancelRow : ObjRow := ⟨0x08001001, [], .u32, .wo, .num 0, false, .any, .request⟩

theorem lookup_LAUNCH_CANCEL : lookup 0x08001001 = some (launchCancelRow, []) := rfl

theorem launchCancel_value (tag : BitVec 32) :
    maskBits launchCancelRow.base (launchCancelRow.ty.dec (launchCancelRow.taken (leBytes 4 tag.toNat))) = tag.toNat := by
  have hdec : Ty.dec .u32 (leBytes 4 tag.toNat) = tag.toNat := by
    unfold Ty.dec
    rw [show Ty.isSigned .u32 = false from rfl, if_neg (by decide), leNat_leBytes, Nat.mod_eq_of_lt (show tag.toNat < 256 ^ 4 from tag.isLt)]
  exact hdec

theorem State.checkWrite_cancel (s : State) (n : Nat) (tag : BitVec 32) :
    s.checkWrite (hostRights n) { oid := 0x08001001, data := leBytes 4 tag.toNat } = s.cancelCheck 0 tag.toNat := by
  have hval : valueCheck launchCancelRow launchCancelRow.ty (launchCancelRow.taken (leBytes 4 tag.toNat)) = none := by
    simp [valueCheck, launchCancelRow, ObjRow.taken, Ty.isBytes, Ty.size, Rng.allows, need, firstOf, andThen]
  rw [s.checkWrite_plain { oid := 0x08001001, data := leBytes 4 tag.toNat } (hostRights n) launchCancelRow [] rfl lookup_LAUNCH_CANCEL rfl (by decide)
    rfl (by decide) rfl rfl rfl hval (by decide) (fun hb => absurd hb (by decide)), launchCancel_value]
  simp [State.ownerCheck, launchCancelRow, hostRights]

theorem State.areaEffect_cancel (s : State) (q : Rights) (e : WEntry) (ix : List Nat) (v : Nat) (d : List Byte) :
    s.areaEffect q launchCancelRow e ix v d = s.cancelLaunch q.part v := by
  simp [State.areaEffect, State.apply08, launchCancelRow, safetyParam]

theorem State.launchCancel_refused {s : State} (ses : Fin 64) (req tag : BitVec 32) (h : s.Ready ses.val) {st : Status}
    (hc : s.cancelCheck 0 tag.toNat = refuse st) :
    ∃ t, exec (.launchCancel ses req tag) s = .next t ∧ t.Answers ses.val req st.code ∧ t.launches = s.launches ∧ t.objs = s.objs := by
  have hcheck := ((s.seen ses.val).checkWrite_cancel ses.val tag).trans hc
  have hrow := s.hostRow_refuses ses.val req { st := st } h lookup_LAUNCH_CANCEL hcheck (fun hb => absurd hb (by decide))
  have hexec : exec (.launchCancel ses req tag) s = .next (s.hostRow ses.val req { oid := 0x08001001, data := leBytes 4 tag.toNat }) := rfl
  rw [hexec, hrow]
  exact ⟨_, rfl, by simp [State.emit, State.Answers], rfl, rfl⟩

theorem State.launchCancel_done {s : State} (ses : Fin 64) (req tag : BitVec 32) (h : s.Ready ses.val) {l : Launch}
    (hl : s.heldTag 0 tag.toNat = some l) (hwait : l.state = .waiting) (hsoon : s.time + 100000 < l.time) :
    ∃ t, exec (.launchCancel ses req tag) s = .next t ∧ t.Answers ses.val req 0 ∧ t.objs = s.objs ∧ t.blobs = s.blobs ∧ t.rcd = s.rcd
      ∧ t.heldTag 0 tag.toNat = some { l with state := .cancelled } := by
  have hpass : (s.seen ses.val).cancelCheck 0 tag.toNat = none := by
    have hl' : (s.seen ses.val).heldTag 0 tag.toNat = some l := hl
    have hsoon' : decide ((s.seen ses.val).time + 100000 < l.time) = true := decide_eq_true hsoon
    unfold State.cancelCheck
    rw [hl']
    simp only [hwait, hsoon']
    rfl
  have hcheck := ((s.seen ses.val).checkWrite_cancel ses.val tag).trans hpass
  have hheld : (s.landed ses.val req { oid := 0x08001001, data := leBytes 4 tag.toNat }).heldTag 0 tag.toNat = some l :=
    (State.heldTag_congr (State.landed_launches ..) _ _).trans hl
  have heff : (s.landed ses.val req { oid := 0x08001001, data := leBytes 4 tag.toNat }).cancelLaunch 0 tag.toNat
      = ((s.landed ses.val req { oid := 0x08001001, data := leBytes 4 tag.toNat }).endLaunch l .cancelled).mirror
        (.launchCancel 0 (BitVec.ofNat 32 tag.toNat)) := by
    unfold State.cancelLaunch
    rw [hheld]
    exact if_pos hwait
  have hend := State.heldTag_endLaunch hheld .cancelled
  obtain ⟨t, ht, hans, hlike⟩ := s.hostRow_effect ses.val req h lookup_LAUNCH_CANCEL rfl (by decide) hcheck (fun hb => absurd hb (by decide)) _
    ((congrArg (fun v => State.areaEffect _ _ _ _ _ v _) (launchCancel_value tag)).trans ((State.areaEffect_cancel ..).trans heff))
    ((State.mirror_acc_sessions ..).trans (State.endLaunch_acc_sessions ..))
    ((State.mirror_emits ..).trans ((State.endLaunch_emits ..).trans (State.landed_emits ..)))
  refine ⟨t, congrArg _ ht, hans, ?_, ?_, ?_, ?_⟩
  · rw [hlike.objs, State.mirror_objs, State.endLaunch_objs, State.landed_objs]
  · rw [hlike.blobs, State.mirror_blobs, State.endLaunch_blobs, State.landed_blobs]
  · rw [hlike.rcd, State.mirror_rcd, State.endLaunch_rcd, State.landed_rcd]
  · rw [State.heldTag_congr hlike.launches, State.heldTag_congr (State.mirror_launches ..)]
    exact hend

/-! ### Commit, emission and release (R163 to R165) -/

theorem State.reachTime_clk (s : State) (t : Nat) : s.clk + (t - s.time) ≤ (s.reachTime t).clk := s.le_reach_clk _

theorem State.reachTime_frame (s : State) (t : Nat) :
    (s.reachTime t).objs = s.objs ∧ (s.reachTime t).blobs = s.blobs ∧ (s.reachTime t).rcd = s.rcd ∧ (s.reachTime t).mode = s.mode
      ∧ (s.reachTime t).launches = s.launches ∧ (s.reachTime t).emits = s.emits ∧ (s.reachTime t).pts = s.pts :=
  ⟨State.reach_objs .., rfl, State.reach_rcd .., State.reach_mode .., rfl, rfl, rfl⟩

theorem exec_launchCommit {s : State} {part : Fin 1024} {tag : BitVec 32} {l : Launch} (hl : s.heldTag part.val tag.toNat = some l)
    (hem : s.emitsLaunches = true) (hwait : l.state = .waiting) (hcancel : s.cancelWaits l = false) :
    exec (.launchCommit part tag) s = .next ((s.start.reachTime (l.time - 100000)).commitLaunch l) := by
  have hl' : s.start.heldTag part.val tag.toNat = some l := hl
  have hcond : (s.start.emitsLaunches && l.state == .waiting && !s.start.cancelWaits l) = true := by
    rw [show s.start.emitsLaunches = true from hem, hwait, show s.start.cancelWaits l = false from hcancel]
    rfl
  refine congrArg Host.Outcome.next ?_
  rw [hl']
  exact if_pos hcond

theorem State.launchCommit_passes {s : State} {part : Fin 1024} {tag : BitVec 32} {l : Launch} (hl : s.heldTag part.val tag.toNat = some l)
    (hem : s.emitsLaunches = true) (hcancel : s.cancelWaits l = false) (hwait : l.state = .waiting)
    (hpass : (s.start.reachTime (l.time - 100000)).targetCheck { part := l.part } l.target l.prio l.value = none) :
    ∃ t, exec (.launchCommit part tag) s = .next t ∧ t.objs = s.objs ∧ t.blobs = s.blobs ∧ t.rcd = s.rcd
      ∧ s.clk + (l.time - 100000 - s.time) ≤ t.clk ∧ t.heldTag part.val tag.toNat = some { l with state := .committed } := by
  have hclk := s.start.reachTime_clk (l.time - 100000)
  obtain ⟨hobjs, hblobs, hrcd, -, hlaunches, -⟩ := s.start.reachTime_frame (l.time - 100000)
  rw [exec_launchCommit hl hem hwait hcancel]
  generalize s.start.reachTime (l.time - 100000) = u at *
  have hheld : u.heldTag part.val tag.toNat = some l := (State.heldTag_congr hlaunches _ _).trans hl
  have heq : u.commitLaunch l = u.mapLaunch l.part l.tag (fun x => { x with state := .committed }) := by
    unfold State.commitLaunch
    rw [hpass]
  obtain ⟨-, hp, ht⟩ := State.heldTag_mem hl
  have hmap := State.heldTag_mapLaunch hheld .committed
  rw [heq]
  refine ⟨_, rfl, hobjs, hblobs, hrcd, hclk, ?_⟩
  rw [← hp, ← ht] at hmap ⊢
  exact hmap

theorem State.launchCommit_refused {s : State} {part : Fin 1024} {tag : BitVec 32} {l : Launch} (hl : s.heldTag part.val tag.toNat = some l)
    (hem : s.emitsLaunches = true) (hcancel : s.cancelWaits l = false) (hroom : s.Room) {r : Refuse} (hwait : l.state = .waiting)
    (hno : (s.start.reachTime (l.time - 100000)).targetCheck { part := l.part } l.target l.prio l.value = some r) :
    ∃ t, exec (.launchCommit part tag) s = .next t ∧ t.blobs = s.blobs ∧ s.clk + (l.time - 100000 - s.time) ≤ t.clk
      ∧ t.heldTag part.val tag.toNat = some { l with state := .refused } ∧ t.Recorded 0x110A 0xFFFF l.tag r.st.code l.target := by
  have hclk := s.start.reachTime_clk (l.time - 100000)
  obtain ⟨-, hblobs, hrcd, -, hlaunches, -⟩ := s.start.reachTime_frame (l.time - 100000)
  rw [exec_launchCommit hl hem hwait hcancel]
  generalize s.start.reachTime (l.time - 100000) = u at *
  have hheld : u.heldTag part.val tag.toNat = some l := (State.heldTag_congr hlaunches _ _).trans hl
  have hend := State.heldTag_endLaunch hheld .refused
  have heq : u.commitLaunch l
      = ((u.endLaunch l .refused).event 0x110A l.tag r.st.code l.target).mirror (.launchOutcome l.part (BitVec.ofNat 32 l.tag) true) := by
    unfold State.commitLaunch
    rw [hno]
  have hfree : s.start.rcd.waitingCount < 32768 := show s.rcd.waitingCount < 32768 by omega
  have hrec := (u.endLaunch l .refused).event_recorded 0x110A l.tag r.st.code l.target (by rw [State.endLaunch_rcd, hrcd]; exact hfree)
  rw [heq]
  refine ⟨_, rfl, ?_, ?_, ?_, hrec.congr (State.mirror_rcd ..)⟩
  · rw [State.mirror_blobs, State.event_blobs, State.endLaunch_blobs, hblobs]
    rfl
  · rw [State.mirror_clk, State.event_clk, State.endLaunch_clk]
    exact hclk
  · rw [State.heldTag_congr (State.mirror_launches ..), State.heldTag_congr (State.event_launches ..)]
    exact hend

theorem exec_launchEmit {s : State} {part : Fin 1024} {tag : BitVec 32} {l : Launch} (hl : s.heldTag part.val tag.toNat = some l)
    (hem : s.emitsLaunches = true) (hcom : l.state = .committed) (hfirst : ∀ y ∈ s.launches, y.live = true → y.time = l.time → l.order ≤ y.order) :
    exec (.launchEmit part tag) s = .next ((s.start.reachTime (s.start.launchDue l).1).emitLaunch l) := by
  have hl' : s.start.heldTag part.val tag.toNat = some l := hl
  have hcond : (s.start.emitsLaunches && l.state == .committed) = true := by
    rw [show s.start.emitsLaunches = true from hem, hcom]
    rfl
  have hexec : exec (.launchEmit part tag) s = .next (s.start.launchEmit l) := by
    refine congrArg Host.Outcome.next ?_
    rw [hl']
    exact if_pos hcond
  obtain ⟨-, -, -, -, hlaunches, -⟩ := s.start.reachTime_frame (s.start.launchDue l).1
  obtain ⟨-, hp, ht⟩ := State.heldTag_mem hl
  rw [hexec, State.launchEmit]
  generalize s.start.reachTime (s.start.launchDue l).1 = u at *
  have hnone : u.launches.filter (fun x => x.live && x.time == l.time && decide (x.order < l.order)) = [] := by
    rw [hlaunches, List.filter_eq_nil_iff]
    intro y hy hc
    simp only [Bool.and_eq_true, beq_iff_eq, decide_eq_true_eq] at hc
    exact absurd (hfirst y hy hc.1.1 hc.1.2) (by omega)
  have hearlier : u.earlierDue l = [] := by
    rw [State.earlierDue, hnone]
    simp [launchOrder]
  have hstood : u.stoodCommitted l = true := by
    rw [State.stoodCommitted, hp, ht, State.heldTag_congr hlaunches, hl']
    simp [hcom]
  have hnotwait : ¬ (l.state = .waiting ∧ (!u.cancelWaits l) = true) := by
    rw [hcom]
    exact fun h => absurd h.1 (by decide)
  rw [hearlier, List.foldl_nil, State.emitDue, if_neg hnotwait, if_pos hstood]

/-- The launch leaves the queue, and its action is to be carried out. -/
def State.leavesQueue (s : State) (l : Launch) : State :=
  let u := { s with emits := s.emits ++ [l.action (decide ((s.launchDue l).2 < s.time))] }
  (u.endLaunch l .emitted).mirror (.launchOutcome l.part (BitVec.ofNat 32 l.tag) false)

theorem State.emitLaunch_eq (s : State) (l : Launch) :
    s.emitLaunch l = ((s.launchTargets l.target).filterMap s.canSink).foldl (fun (t : State) x => t.copyEntry x.1 x.2) (s.leavesQueue l).drain := by
  unfold State.emitLaunch State.leavesQueue
  with_reducible rfl

theorem State.leavesQueue_frame (s : State) (l : Launch) :
    (s.leavesQueue l).objs = s.objs ∧ (s.leavesQueue l).blobs = s.blobs ∧ (s.leavesQueue l).mode = s.mode ∧ (s.leavesQueue l).rcd = s.rcd
      ∧ (s.leavesQueue l).clk = s.clk ∧ (s.leavesQueue l).emits = s.emits ++ [l.action (decide ((s.launchDue l).2 < s.time))] := by
  unfold State.leavesQueue
  simp

theorem State.leavesQueue_heldTag {s : State} {part tag : Nat} {l : Launch} (h : s.heldTag part tag = some l) :
    (s.leavesQueue l).heldTag part tag = some { l with state := .emitted } := by
  have hend := State.heldTag_endLaunch (s := { s with emits := s.emits ++ [l.action (decide ((s.launchDue l).2 < s.time))] }) h .emitted
  rw [State.leavesQueue, State.heldTag_congr (State.mirror_launches ..)]
  exact hend

theorem State.launchEmit_leaves {s : State} {part : Fin 1024} {tag : BitVec 32} {l : Launch} (hl : s.heldTag part.val tag.toNat = some l)
    (hem : s.emitsLaunches = true) (hcom : l.state = .committed) (hfirst : ∀ y ∈ s.launches, y.live = true → y.time = l.time → l.order ≤ y.order) :
    let q := s.start.reachTime (s.start.launchDue l).1
    ∃ u : State,
      exec (.launchEmit part tag) s
        = .next (((q.launchTargets l.target).filterMap q.canSink).foldl (fun (t : State) x => t.copyEntry x.1 x.2) u.drain)
      ∧ u.objs = s.objs ∧ u.blobs = s.blobs ∧ u.mode = s.mode ∧ u.rcd = s.rcd ∧ s.clk + ((s.launchDue l).1 - s.time) ≤ u.clk
      ∧ u.heldTag part.val tag.toNat = some { l with state := .emitted }
      ∧ u.emits = s.emits ++ [l.action (decide ((q.launchDue l).2 < q.time))] := by
  intro q
  obtain ⟨hobjs, hblobs, hrcd, hmode, hlaunches, hemits, -⟩ := s.start.reachTime_frame (s.start.launchDue l).1
  obtain ⟨hobjs', hblobs', hmode', hrcd', hclk', hemits'⟩ := q.leavesQueue_frame l
  refine ⟨q.leavesQueue l, ?_, hobjs'.trans hobjs, hblobs'.trans hblobs, hmode'.trans hmode, hrcd'.trans hrcd, ?_, ?_, ?_⟩
  · rw [exec_launchEmit hl hem hcom hfirst, State.emitLaunch_eq]
  · rw [hclk']
    exact s.start.reachTime_clk (s.start.launchDue l).1
  · exact State.leavesQueue_heldTag ((State.heldTag_congr hlaunches _ _).trans hl)
  · rw [hemits', hemits]
    rfl

/-! ### A launch to a field channel takes its level -/

theorem State.fioOwner_congr {s t : State} (x : Nat) (hblobs : t.blobs = s.blobs) (hpulse : ∀ k, t.nat (Oid.PO_FIELD k) = s.nat (Oid.PO_FIELD k)) :
    t.fioOwner x = s.fioOwner x := by
  have hbind : t.bindings = s.bindings := by rw [State.bindings, State.bindings, hblobs]
  have hsinks : t.fioSinks x = s.fioSinks x := by rw [State.fioSinks, State.fioSinks, hbind]
  have hpulses : t.fioPulse x = s.fioPulse x := by
    unfold State.fioPulse
    simp only [hpulse]
  rw [State.fioOwner, State.fioOwner, hsinks, hpulses]

theorem State.noteLate_frame (s : State) (e : Emit) :
    (s.noteLate e).blobs = s.blobs ∧ (s.noteLate e).mode = s.mode ∧ (s.noteLate e).launches = s.launches ∧ (s.noteLate e).clk = s.clk
      ∧ (s.noteLate e).emits = s.emits ∧ ∀ k, (s.noteLate e).nat (Oid.PO_FIELD k) = s.nat (Oid.PO_FIELD k) := by
  have hsame : s.blobs = s.blobs ∧ s.mode = s.mode ∧ s.launches = s.launches ∧ s.clk = s.clk ∧ s.emits = s.emits
      ∧ ∀ k, s.nat (Oid.PO_FIELD k) = s.nat (Oid.PO_FIELD k) := ⟨rfl, rfl, rfl, rfl, rfl, fun _ => rfl⟩
  unfold State.noteLate
  split
  · split
    · exact ⟨by simp, by simp, by simp, by simp, by simp, fun k => congrArg Int.toNat (State.get_event _ _ _ _ _ _ (by simp; omega))⟩
    · exact hsame
  · exact hsame

/-- The action of a launch to a field channel. -/
structure Emit.Switches (e : Emit) (x : Fin 64) (b : Bool) : Prop where
  oid : e.oid = (Oid.FIO_OUT x).oid
  prio : e.prio = 0
  relinq : e.relinq = false
  value : e.value = [if b then 1 else 0]
  launch : ∃ part tag, e.src = .launch part tag

theorem State.applyEntries_out (s : State) (q : Rights) (x : Fin 64) (b : Bool) :
    ∃ v : State, s.applyEntries q [{ oid := (Oid.FIO_OUT x).oid, data := [if b then 1 else 0] }] = v ∧ v.flag (Oid.FIO_OUT x) = b
      ∧ v.blobs = s.blobs ∧ v.mode = s.mode ∧ v.launches = s.launches ∧ v.clk = s.clk ∧ v.emits = s.emits := by
  have happly : s.applyObject q { oid := (Oid.FIO_OUT x).oid, data := [if b then 1 else 0] } = (s.mended (Oid.FIO_OUT x).oid).setOut x b := by
    rw [s.applyObject_row q .bool (lookup_FIO_OUT x.val x.isLt) rfl rfl rfl]
    cases b <;> rfl
  have hmended (u : State) (o : Nat) : (u.mended o).blobs = u.blobs ∧ (u.mended o).mode = u.mode ∧ (u.mended o).launches = u.launches
      ∧ (u.mended o).clk = u.clk ∧ (u.mended o).emits = u.emits := by
    unfold State.mended
    split <;> exact ⟨rfl, rfl, rfl, rfl, rfl⟩
  have hset (u : State) : (u.setOut x b).blobs = u.blobs ∧ (u.setOut x b).mode = u.mode ∧ (u.setOut x b).launches = u.launches
      ∧ (u.setOut x b).clk = u.clk ∧ (u.setOut x b).emits = u.emits := by
    unfold State.setOut
    split <;> exact ⟨rfl, rfl, rfl, rfl, rfl⟩
  refine ⟨_, rfl, ?_⟩
  simp only [State.applyEntries, List.foldl_cons, List.foldl_nil, State.applyEntry, s.broadcast_out x, happly]
  obtain ⟨hblobs, hmode, hlaunches, hclk, hemits⟩ := hmended s (Oid.FIO_OUT x).oid
  generalize s.mended (Oid.FIO_OUT x).oid = u at *
  obtain ⟨hblobs', hmode', hlaunches', hclk', hemits'⟩ := hset u
  exact ⟨u.flag_setOut x b, hblobs'.trans hblobs, hmode'.trans hmode, hlaunches'.trans hlaunches, hclk'.trans hclk, hemits'.trans hemits⟩

/-- The action of a launch passes the checks of a write again, and the channel takes its level. -/
theorem State.emitAction_out {s : State} {e : Emit} {x : Fin 64} {b : Bool} (he : e.Switches x b) (hown : s.fioOwner x.val = 0) :
    ∃ v : State, s.emitAction e = v ∧ v.flag (Oid.FIO_OUT x) = b ∧ v.blobs = s.blobs ∧ v.mode = s.mode ∧ v.launches = s.launches ∧ v.clk = s.clk
      ∧ v.emits = s.emits := by
  obtain ⟨hblobs, hmode, hlaunches, hclk, hemits, hpulse⟩ := s.noteLate_frame e
  have hown' := (State.fioOwner_congr x.val hblobs hpulse).trans hown
  generalize hu : s.noteLate e = u at *
  have hvalue : u.emitValue (Oid.FIO_OUT x).oid [if b then 1 else 0] = [if b then 1 else 0] := by
    unfold State.emitValue State.targetTy
    rw [pointOf_out, lookup_FIO_OUT x.val x.isLt]
    rfl
  obtain ⟨part, tag, hsrc⟩ := he.launch
  have hcheck := State.checkObject_out (s := u) (x := x) b (q := { internal := true, compare := e.src.isCompare }) rfl hown'
  have hfits : u.journalFits [{ oid := (Oid.FIO_OUT x).oid, data := [if b then 1 else 0] }] = true := by
    have hfind : findObject (Oid.FIO_OUT x).oid = some (fioOutRow, [x.val]) := by
      simp only [findObject, lookup_FIO_OUT x.val x.isLt]
      rfl
    have hkept : u.journalOf { oid := (Oid.FIO_OUT x).oid, data := [if b then 1 else 0] } = [] := by
      unfold State.journalOf
      simp only [u.broadcast_out x, hfind]
      rfl
    rw [State.journalFits, List.flatMap_singleton, hkept]
    exact Bool.or_true _
  obtain ⟨v, hv, hflag, hvblobs, hvmode, hvlaunches, hvclk, hvemits⟩ := u.applyEntries_out { internal := true, compare := e.src.isCompare } x b
  have hact : s.emitAction e = v := by
    unfold State.emitAction State.emitOne
    simp only [hu, he.oid, he.prio, he.relinq, he.value, u.broadcast_out x, hvalue, hcheck, hfits, hv]
    rw [hsrc]
    rfl
  exact ⟨v, hact, hflag, hvblobs.trans hblobs, hvmode.trans hmode, hvlaunches.trans hlaunches, hvclk.trans hclk, hvemits.trans hemits⟩

theorem State.drain_one {s : State} {e : Emit} (h : s.emits = [e]) (hquiet : (({ s with emits := [] } : State).emitAction e).emits = []) :
    s.drain = ({ s with emits := [] } : State).emitAction e := by
  have hempty : ¬ (s.emits.isEmpty = true) := by simp [h]
  rw [State.drain, if_neg hempty, h, List.length_singleton, Nat.add_comm 1 4096, State.drainN, h]
  simp only
  generalize ({ s with emits := [] } : State).emitAction e = u at *
  rw [State.drainN, hquiet]

theorem State.launchEmit_switches {s : State} {part : Fin 1024} {tag : BitVec 32} {l : Launch} (hl : s.heldTag part.val tag.toNat = some l)
    (hem : s.emitsLaunches = true) (hcom : l.state = .committed) (hfirst : ∀ y ∈ s.launches, y.live = true → y.time = l.time → l.order ≤ y.order)
    (x : Fin 64) (b : Bool) (htarget : l.target = (Oid.FIO_OUT x).oid) (hprio : l.prio = 0) (hvalue : l.value = [if b then 1 else 0])
    (hown : s.fioOwner x.val = 0) (hquiet : s.emits = []) :
    ∃ t, exec (.launchEmit part tag) s = .next t ∧ t.flag (Oid.FIO_OUT x) = b ∧ s.clk + (l.time - s.time) ≤ t.clk ∧ t.mode = s.mode
      ∧ t.blobs = s.blobs ∧ t.heldTag part.val tag.toNat = some { l with state := .emitted } := by
  have hdue (u : State) : u.launchDue l = (l.time, l.time + 2000) := by
    have hone : u.dueOne l.time (Oid.FIO_OUT x).oid = (l.time, l.time + 2000) := by
      unfold State.dueOne
      exact if_pos (by simp; omega)
    rw [State.launchDue, htarget, u.launchTargets_out, List.map_cons, List.map_nil, hone]
    rfl
  obtain ⟨u, hexec, hobjs, hblobs, hmode, -, hclk, hheld, hemits⟩ := State.launchEmit_leaves hl hem hcom hfirst
  generalize s.start.reachTime (s.start.launchDue l).1 = q at *
  have hcopies : (q.launchTargets l.target).filterMap q.canSink = [] := by
    have hsink : q.canSink (Oid.FIO_OUT x).oid = none := by
      unfold State.canSink
      rw [pointOf_out]
    rw [htarget, q.launchTargets_out, List.filterMap_cons, hsink]
    rfl
  rw [hquiet, List.nil_append] at hemits
  have hsw : (l.action (decide ((q.launchDue l).2 < q.time))).Switches x b := ⟨htarget, hprio, rfl, hvalue, _, _, rfl⟩
  have hown' : ({ u with emits := [] } : State).fioOwner x.val = 0 := by
    refine (State.fioOwner_congr (s := s) x.val hblobs fun k => ?_).trans hown
    exact congrArg Int.toNat (State.get_congr (s := s) hobjs _)
  obtain ⟨v, hv, hflag, hvblobs, hvmode, hvlaunches, hvclk, hvemits⟩ := State.emitAction_out hsw hown'
  have hdrain : u.drain = v := (State.drain_one hemits (by rw [hv]; exact hvemits)).trans hv
  rw [hcopies, List.foldl_nil, hdrain] at hexec
  rw [hdue] at hclk
  refine ⟨v, hexec, hflag, ?_, hvmode.trans hmode, hvblobs.trans hblobs, (State.heldTag_congr hvlaunches _ _).trans hheld⟩
  rw [hvclk]
  exact hclk

theorem State.tagRelease_clause {s : State} {part : Fin 1024} {tag : BitVec 32} {l : Launch} (hl : s.heldTag part.val tag.toNat = some l)
    (hdead : l.live = false) :
    ∃ t, exec (.tagRelease part tag) s = .next t ∧ s.clk + (l.time + 10000000000 - s.time) ≤ t.clk ∧ t.heldTag part.val tag.toNat = none
      ∧ t.objs = s.objs ∧ t.blobs = s.blobs ∧ t.pts = s.pts ∧ t.rcd = s.rcd := by
  have hl' : s.start.heldTag part.val tag.toNat = some l := hl
  have hexec : exec (.tagRelease part tag) s = .next (s.start.tagRelease l) := by
    refine congrArg Host.Outcome.next ?_
    rw [hl']
    exact if_neg (by simp [hdead])
  obtain ⟨hobjs, hblobs, hrcd, -, -, -, hpts⟩ := s.start.reachTime_frame (l.time + 10000000000)
  have hclk := s.start.reachTime_clk (l.time + 10000000000)
  obtain ⟨-, hp, ht⟩ := State.heldTag_mem hl
  refine ⟨_, hexec, hclk, ?_, hobjs, hblobs, hpts, hrcd⟩
  rw [State.heldTag_none]
  intro y hy
  have hother := (List.mem_filter.1 hy).2
  rw [hp, ht] at hother
  intro ⟨hpart, htag⟩
  simp [hpart, htag] at hother

/-! ### The obligation -/

theorem State.launchCancel_clause {s : State} (ses : Fin 64) (req tag : BitVec 32) (h : s.Ready ses.val) :
    (s.heldTag 0 tag.toNat = none →
      ∃ t, exec (.launchCancel ses req tag) s = .next t ∧ t.Answers ses.val req 1 ∧ t.launches = s.launches ∧ t.objs = s.objs) ∧
    (∀ l, s.heldTag 0 tag.toNat = some l → l.state = .waiting → s.time + 100000 < l.time →
      ∃ t, exec (.launchCancel ses req tag) s = .next t ∧ t.Answers ses.val req 0 ∧ t.objs = s.objs ∧ t.blobs = s.blobs ∧ t.rcd = s.rcd
        ∧ t.heldTag 0 tag.toNat = some { l with state := .cancelled }) ∧
    (∀ l, s.heldTag 0 tag.toNat = some l → (l.state = .committed ∨ l.state = .emitted ∨ (l.state = .waiting ∧ l.time ≤ s.time + 100000)) →
      ∃ t, exec (.launchCancel ses req tag) s = .next t ∧ t.Answers ses.val req 10 ∧ t.launches = s.launches ∧ t.objs = s.objs) := by
  refine ⟨fun hnone => ?_, fun l hl hwait hsoon => State.launchCancel_done ses req tag h hl hwait hsoon, fun l hl hlate => ?_⟩
  · refine State.launchCancel_refused ses req tag h (st := .noObject) ?_
    rw [State.cancelCheck, hnone]
  · refine State.launchCancel_refused ses req tag h (st := .tooLate) ?_
    have hcannot : (l.state == .cancelled || (l.state == .waiting && decide (s.time + 100000 < l.time))) = false := by
      rcases hlate with hst | hst | ⟨hst, htime⟩
      · rw [hst]
        rfl
      · rw [hst]
        rfl
      · rw [hst, decide_eq_false (show ¬ s.time + 100000 < l.time by omega)]
        rfl
    rw [State.cancelCheck, hl]
    simp only [hcannot]
    rfl

/-- Settles O22, command by command: a launch enters the queue, is cancelled, committed or refused, leaves it when it is due, and its tag is freed. -/
theorem launches : Obligations.Launches := by
  unfold Obligations.Launches
  intro s
  refine ⟨fun ses req data h hmod hlo hhi => ⟨State.launchSubmit_queued ses req h hmod hlo hhi,
    fun r => State.launchSubmit_refused ses req h hmod hlo hhi⟩, ?_, fun ses req tag h => State.launchCancel_clause ses req tag h, ?_, ?_, ?_⟩
  · exact fun ses req tag time x b h hset hown hlo hhi hfree hlen hused =>
      State.launchSubmit_out ses req tag time x b h hset hown hlo hhi hfree hlen hused
  · exact fun part tag l hl hem hcancel hroom => ⟨State.launchCommit_passes hl hem hcancel,
      fun r => State.launchCommit_refused hl hem hcancel hroom⟩
  · exact fun part tag l hl hem hcom hfirst => ⟨State.launchEmit_leaves hl hem hcom hfirst,
      fun x b htarget hprio hvalue hown hquiet => State.launchEmit_switches hl hem hcom hfirst x b htarget hprio hvalue hown hquiet⟩
  · exact fun part tag l hl hdead => State.tagRelease_clause hl hdead

end Sys2Proof.Machine
end

section
/-! ### Connections and PDP sessions (O23)
A session is a slot of the table of sessions. A frame reaches it by one lemma per state of its connection, and its end is one lemma whatever the cause. -/

namespace Sys2Proof.Machine

/-! ### Connections (R187 to R190) -/

/-- A connection that gets a slot: the slot holds the session given, and nothing else of the sessions changes. -/
structure State.Connects (s t : State) (n : Nat) (x : Session) : Prop where
  same : t.ses n = x
  other : ∀ m : Nat, m ≠ n → t.ses m = s.ses m
  shown : n < 64 → t.nat (Oid.SESS_STATE n) = 1
  out : t.out = s.out
  rcd : t.rcd = s.rcd
  blobs : t.blobs = s.blobs

/-- The session of a connection that is up. -/
def State.newSession (s : State) (port : Nat) (c : HostCert) (entry : Option Nat) (claim refused : Bool) : Session :=
  { state := 1, port := port, fpr := c.fpr, entry := entry, anchor := c.anchor.map (·.val), cn := c.commonName, claim := claim
    refuseOpen := refused, cert := s.serverCert, pairAddr := s.nat (Oid.TW_PAIR_IP port) != 0 && s.drives, lastFrame := s.clk }

theorem State.tlsUp_connects {s : State} {n : Nat} (h : s.freeSlot = some n) (port : Nat) (c : HostCert) (entry : Option Nat) (claim refused : Bool) :
    s.Connects (s.tlsUp port c entry claim refused) n (s.newSession port c entry claim refused) := by
  have hup : s.tlsUp port c entry claim refused
      = if n < 64 then (s.setSes n (s.newSession port c entry claim refused)).setN (Oid.SESS_STATE n) 1
        else s.setSes n (s.newSession port c entry claim refused) := by
    unfold State.tlsUp
    rw [h]
    rfl
  rw [hup]
  generalize s.newSession port c entry claim refused = x
  by_cases hn : n < 64
  · rw [if_pos hn]
    exact ⟨s.ses_setSes_same n x, fun m hm => s.ses_setSes_other n x m hm.symm, fun _ => State.nat_setN_same .., rfl, rfl, rfl⟩
  · rw [if_neg hn]
    exact ⟨s.ses_setSes_same n x, fun m hm => s.ses_setSes_other n x m hm.symm, fun hlt => absurd hlt hn, rfl, rfl, rfl⟩

section

variable {s : State} {port : Fin 4} {c : HostCert}

theorem State.tls_open (hserv : s.serving = true) (hruns : s.runs (.netPort port.val) = true) (hport : s.bit Oid.PDP_PORTS port.val = true)
    (htls : tlsSupported c = true) (hpair : s.pairEarly port.val = false) :
    (s.pairEarly port.val || !s.serving || !s.runs (.netPort port.val) || !s.bit Oid.PDP_PORTS port.val || !tlsSupported c) = false := by
  simp [hserv, hruns, hport, htls, hpair]

/-- A handshake whose certificate the host map names takes a slot (R188, R189). -/
theorem State.tls_named {a : Fin 8} {e : Nat}
    (hopen : (s.pairEarly port.val || !s.serving || !s.runs (.netPort port.val) || !s.bit Oid.PDP_PORTS port.val || !tlsSupported c) = false)
    (hmap : s.mapEmpty = false) (ha : c.anchor = some a) (hca : s.blob (Oid.HOST_CA a.val) ≠ []) (hvalid : s.certValid c = true)
    (he : s.mapEntry c.fpr (some a.val) c.commonName = some e) : s.tls port.val c = s.tlsUp port.val c (some e) false false := by
  unfold State.tls
  simp only [hopen, hmap, ha, hca, hvalid, he, if_false, Bool.false_eq_true, Bool.not_true]

/-- The alert of a handshake that the host map does not admit (R189). -/
def State.TlsRefused (s : State) (c : HostCert) (alert : Nat) : Prop :=
  (c.anchor = none ∧ alert = 48)
    ∨ (∃ a, c.anchor = some a ∧ s.blob (Oid.HOST_CA a.val) = [] ∧ alert = 48)
    ∨ (∃ a, c.anchor = some a ∧ s.blob (Oid.HOST_CA a.val) ≠ [] ∧ s.certValid c = false ∧ alert = 45)
    ∨ (∃ a, c.anchor = some a ∧ s.blob (Oid.HOST_CA a.val) ≠ [] ∧ s.certValid c = true ∧ s.mapEntry c.fpr (some a.val) c.commonName = none
        ∧ alert = 49)

theorem State.tls_refused {alert : Nat}
    (hopen : (s.pairEarly port.val || !s.serving || !s.runs (.netPort port.val) || !s.bit Oid.PDP_PORTS port.val || !tlsSupported c) = false)
    (hmap : s.mapEmpty = false) (h : s.TlsRefused c alert) : s.tls port.val c = s.tlsRefuse port.val c.fpr alert := by
  unfold State.tls
  rcases h with ⟨ha, rfl⟩ | ⟨a, ha, hca, rfl⟩ | ⟨a, ha, hca, hvalid, rfl⟩ | ⟨a, ha, hca, hvalid, he, rfl⟩
  · simp only [hopen, hmap, ha, if_false, Bool.false_eq_true]
  · simp only [hopen, hmap, ha, hca, if_false, if_true, Bool.false_eq_true]
  · simp only [hopen, hmap, ha, hca, hvalid, if_false, if_true, Bool.false_eq_true, Bool.not_false]
  · simp only [hopen, hmap, ha, hca, hvalid, he, if_false, Bool.false_eq_true, Bool.not_true]

/-- Without a host map the first host of port 0 claims a module in SERVICE (R190). -/
theorem State.tls_claims
    (hopen : (s.pairEarly port.val || !s.serving || !s.runs (.netPort port.val) || !s.bit Oid.PDP_PORTS port.val || !tlsSupported c) = false)
    (hmap : s.mapEmpty = true) (hport : port.val = 0) (hmode : s.mode = .service)
    (hfirst : ∀ e ∈ s.acc.sessions, e.2.claim = true → e.2.state = 0) :
    s.tls port.val c = (s.tlsUp port.val c none true false).event 0x1004 (c.fpr.toNat % 2 ^ 32) (c.fpr.toNat / 2 ^ 32 % 2 ^ 32)
      (c.fpr.toNat / 2 ^ 64 % 2 ^ 32) := by
  have hno : (s.acc.sessions.any fun (e : Nat × Session) => e.2.claim && e.2.state != 0) = false := by
    rw [List.any_eq_false]
    intro e he hc
    simp only [Bool.and_eq_true, bne_iff_ne, ne_eq] at hc
    exact hc.2 (hfirst e he hc.1)
  unfold State.tls
  rw [hopen, hmap, hno, if_neg (by decide), if_pos rfl, if_pos ⟨hport, hmode⟩, if_neg (by decide)]

end

theorem State.Recorded.mod {s : State} {code src p0 p1 p2 : Nat} (h : s.Recorded code src (p0 % 4294967296) (p1 % 4294967296) (p2 % 4294967296)) :
    s.Recorded code src p0 p1 p2 := by
  obtain ⟨r, hr, hcode, hsrc, h0, h1, h2⟩ := h
  exact ⟨r, hr, hcode, hsrc, h0.trans (Nat.mod_mod ..), h1.trans (Nat.mod_mod ..), h2.trans (Nat.mod_mod ..)⟩

theorem State.tlsHandshake_clause {s : State} (hroom : s.Room) (port : Fin 4) (c : HostCert) (hserv : s.serving = true)
    (hruns : s.runs (.netPort port.val) = true) (hport : s.bit Oid.PDP_PORTS port.val = true) (htls : tlsSupported c = true)
    (hpair : s.pairEarly port.val = false) :
    (∀ (a : Fin 8) (e n : Nat), s.mapEmpty = false → c.anchor = some a → s.blob (Oid.HOST_CA a.val) ≠ [] → s.certValid c = true →
      s.mapEntry c.fpr (some a.val) c.commonName = some e → s.freeSlot = some n →
      ∃ t, exec (.tlsHandshake port c) s = .next t ∧ (t.ses n).state = 1 ∧ (t.ses n).fpr = c.fpr ∧ (t.ses n).entry = some e
        ∧ (∀ m : Nat, m ≠ n → t.ses m = s.ses m) ∧ (n < 64 → t.nat (Oid.SESS_STATE n) = 1) ∧ t.out = [] ∧ t.rcd = s.rcd ∧ t.blobs = s.blobs) ∧
    (∀ alert : Nat, s.mapEmpty = false → s.TlsRefused c alert →
      ∃ t, exec (.tlsHandshake port c) s = .next t ∧ t.acc = s.acc ∧ t.out = [.alert port.val alert] ∧ t.blobs = s.blobs
        ∧ t.Recorded 0x1003 0xFFFF port.val 2 c.fpr.toNat) ∧
    (∀ n : Nat, s.mapEmpty = true → port.val = 0 → s.mode = .service → s.freeSlot = some n →
      (∀ e ∈ s.acc.sessions, e.2.claim = true → e.2.state = 0) →
      ∃ t, exec (.tlsHandshake port c) s = .next t ∧ (t.ses n).state = 1 ∧ (t.ses n).claim = true ∧ (t.ses n).fpr = c.fpr
        ∧ (∀ m : Nat, m ≠ n → t.ses m = s.ses m)
        ∧ t.Recorded 0x1004 0xFFFF c.fpr.toNat (c.fpr.toNat / 2 ^ 32) (c.fpr.toNat / 2 ^ 64)) := by
  have hopen := State.tls_open (s := s.start) hserv hruns hport htls hpair
  have hfree : s.start.rcd.waitingCount < 32768 := show s.rcd.waitingCount < 32768 by omega
  refine ⟨fun a e n hmap ha hca hvalid he hslot => ?_, fun alert hmap href => ?_, fun n hmap hp hmode hslot hfirst => ?_⟩
  · have hnamed := State.tls_named (s := s.start) hopen hmap ha hca hvalid he
    have hcon := State.tlsUp_connects (s := s.start) hslot port.val c (some e) false false
    exact ⟨_, congrArg Host.Outcome.next hnamed, by rw [hcon.same]; rfl, by rw [hcon.same]; rfl, by rw [hcon.same]; rfl, hcon.other, hcon.shown, hcon.out, hcon.rcd,
      hcon.blobs⟩
  · have hrefused := State.tls_refused (s := s.start) hopen hmap href
    have hrec := s.start.event_recorded 0x1003 port.val Status.access.code (c.fpr.toNat % 4294967296) hfree
    refine ⟨_, congrArg Host.Outcome.next hrefused, State.event_acc .., ?_, State.event_blobs .., ?_⟩
    · rw [State.tlsRefuse, State.emit, State.event_out]
      rfl
    · obtain ⟨r, hr, hcode, hsrc, h0, h1, h2⟩ := hrec
      exact ⟨r, hr, hcode, hsrc, h0, h1, h2.trans (Nat.mod_mod ..)⟩
  · have hclaims := State.tls_claims (s := s.start) hopen hmap hp hmode hfirst
    have hcon := State.tlsUp_connects (s := s.start) hslot port.val c none true false
    generalize hu : s.start.tlsUp port.val c none true false = u at *
    have hses (m : Nat) : (u.event 0x1004 (c.fpr.toNat % 2 ^ 32) (c.fpr.toNat / 2 ^ 32 % 2 ^ 32) (c.fpr.toNat / 2 ^ 64 % 2 ^ 32)).ses m = u.ses m := by
      unfold State.ses
      rw [State.event_acc]
    refine ⟨_, congrArg Host.Outcome.next hclaims, by rw [hses, hcon.same]; rfl, by rw [hses, hcon.same]; rfl, by rw [hses, hcon.same]; rfl,
      fun m hm => (hses m).trans (hcon.other m hm), State.Recorded.mod (u.event_recorded _ _ _ _ ?_)⟩
    rw [hcon.rcd]
    exact hfree

/-! ### The end of a session (R193, R194) -/

/-- A session in a table of sessions. -/
theorem State.ses_congr {s t : State} (h : t.acc.sessions = s.acc.sessions) (n : Nat) : t.ses n = s.ses n := by rw [State.ses, State.ses, h]

theorem State.ses_dropSes (s : State) (n : Nat) : (s.dropSes n).ses n = {} := by
  have hput (u : State) : (if n < 64 then u.setN (Oid.SESS_STATE n) 0 else u).acc = u.acc := by split <;> rfl
  unfold State.dropSes
  rw [State.ses, State.emit_acc, hput]
  exact Tbl.get_put_same ({} : Session) ((s.safetyEnd n).dropItems (isSesItem n)).acc.sessions n {}

theorem State.dropSes_out (s : State) (n : Nat) : (s.dropSes n).out = s.out ++ [.close n] := by
  have hput (u : State) : (if n < 64 then u.setN (Oid.SESS_STATE n) 0 else u).out = u.out := by split <;> rfl
  unfold State.dropSes State.emit
  simp only [hput, State.dropItems_out, State.safetyEnd_out]

theorem State.logPut_waiting (s : State) (e : LogEntry) : (s.logPut e).rcd.waitingCount ≤ s.rcd.waitingCount + 1 := by
  have hanchor : (match s.saf.log.getLast? with
        | some o => s.setBlob Oid.LOG_ANCHOR (o.bytes.drop 96)
        | none => s).rcd = s.rcd := by
    split <;> rfl
  unfold State.logPut
  simp only
  split
  · refine Nat.le_trans (State.event_waiting ..) (Nat.le_of_eq ?_)
    exact congrArg (fun r : Recorder => r.waitingCount + 1) hanchor
  · exact Nat.le_succ _

theorem State.logAdd_waiting (s : State) (kind ses oid : Nat) (old new : List Byte) :
    (s.logAdd kind ses oid old new).rcd.waitingCount ≤ s.rcd.waitingCount + 1 := by
  unfold State.logAdd
  split
  · exact Nat.le_succ _
  · simp only [State.mirror_rcd]
    exact State.logPut_waiting ..

theorem State.safetyEnd_waiting (s : State) (n : Nat) : (s.safetyEnd n).rcd.waitingCount ≤ s.rcd.waitingCount + 1 := by
  have hses (u : State) (st : Nat) : (u.setSesState n st).rcd = u.rcd := by
    unfold State.setSesState
    simp only
    split <;> rfl
  unfold State.safetyEnd
  split
  · simp only [hses]
    unfold State.discardPending
    split
    · exact Nat.le_succ _
    · exact Nat.le_trans (State.logAdd_waiting ..) (Nat.le_refl _)
  · exact Nat.le_succ _

theorem State.dropSes_waiting (s : State) (n : Nat) : (s.dropSes n).rcd.waitingCount ≤ s.rcd.waitingCount + 1 := by
  have hput (u : State) : (if n < 64 then u.setN (Oid.SESS_STATE n) 0 else u).rcd = u.rcd := by split <;> rfl
  have hdrop : (s.dropSes n).rcd = (s.safetyEnd n).rcd := by
    unfold State.dropSes
    rw [State.emit_rcd, hput]
    exact State.dropItems_rcd ..
  rw [hdrop]
  exact s.safetyEnd_waiting n

/-- What the end of an open session leaves (R193). -/
structure State.Ends (s t : State) (n cause : Nat) : Prop where
  state : (t.ses n).state = 0
  out : t.out = s.out ++ [.close n]
  emits : t.emits = s.emits
  clk : t.clk = s.clk
  keeps : s.KeepsRecords t
  recorded : s.rcd.waitingCount < 32767 → t.Recorded 0x1002 0xFFFF n cause 0

theorem State.closeSes_ends {s : State} {n : Nat} (h : 2 ≤ (s.ses n).state) (cause : Nat) : s.Ends (s.closeSes n cause) n cause := by
  have heq : s.closeSes n cause = (s.dropSes n).event 0x1002 n cause := by
    unfold State.closeSes
    simp only
    rw [if_neg (by omega), if_neg (by omega)]
  have hwait := s.dropSes_waiting n
  refine ⟨?_, ?_, s.closeSes_emits .., s.closeSes_clk .., s.closeSes_records .., fun hroom => ?_⟩
  · rw [heq, State.ses, State.event_acc]
    exact congrArg (·.state) (s.ses_dropSes n)
  · rw [heq, State.event_out, State.dropSes_out]
  · rw [heq]
    exact State.event_recorded _ _ _ _ _ (by omega)

theorem State.closeSes_out_mem (s : State) (n cause : Nat) {o : Out} (h : o ∈ s.out) : o ∈ (s.closeSes n cause).out := by
  have hdrop : o ∈ (s.dropSes n).out := by
    rw [s.dropSes_out]
    exact List.mem_append_left _ h
  unfold State.closeSes
  simp only
  split
  · exact h
  · split
    · exact hdrop
    · rw [State.event_out]
      exact hdrop

/-! ### Frames and requests (R191, R195 to R197) -/

theorem State.start_answers {s : State} {n : Nat} (hserv : s.serving = true) (hstate : (s.ses n).state ≠ 0) :
    ¬ ((!s.start.serving) = true ∨ (s.start.ses n).state = 0) := by
  rintro (h | h)
  · rw [show s.start.serving = true from hserv] at h
    exact absurd h (by decide)
  · exact hstate h

/-- A request on a connection whose session is open, with none that waits, is carried out (R197). -/
theorem State.request_serves {s : State} {n : Nat} (hserv : s.serving = true) (hopen : 2 ≤ (s.ses n).state) (hnone : s.NoneWaits) (op : Nat)
    (req : BitVec 32) (w : PdpReq) : s.start.request n op req w = (s.seen n).serve n op req w := by
  obtain ⟨hwaits, hheld, hslow, haborts, hlater, -, hreq⟩ := hnone
  have hout : (s.seen n).outstanding n = 0 := by
    simp [State.outstanding, State.seen, State.setSes, State.start, hwaits, hheld, hslow, haborts, hlater, hreq]
  have hbehind : (s.seen n).behind n w = false := by
    cases w <;> simp [State.behind, State.cmdWaits, State.writeWaits, State.seen, State.setSes, State.start, hwaits, hheld, hslow, hlater, hreq]
  have hseen : s.start.setSes n { s.start.ses n with lastFrame := s.start.clk } = s.seen n := rfl
  have hstate : (s.start.ses n).state = (s.ses n).state := rfl
  have hguard := State.start_answers (n := n) hserv (by omega)
  have hne : ¬ (s.start.ses n).state = 1 := by rw [hstate]; omega
  unfold State.request
  simp only
  rw [if_neg hguard, if_neg hne, hseen, hout, if_neg (by decide), hbehind, if_neg (by decide)]

/-- A connection whose session is not open answers nothing but OPEN (R191). -/
theorem State.request_closed {s : State} {n : Nat} (hserv : s.serving = true) (hstate : (s.ses n).state = 1) (op : Nat) (req : BitVec 32)
    {w : PdpReq} (hw : ∀ p : Nat, w ≠ .openSes p) : s.start.request n op req w = (s.seen n).resp n op req .access [] := by
  have hstate' : (s.start.ses n).state = 1 := hstate
  have hseen : s.start.setSes n { s.start.ses n with lastFrame := s.start.clk } = s.seen n := rfl
  have hguard := State.start_answers (n := n) hserv (by omega)
  cases w with
  | openSes p => exact absurd rfl (hw p)
  | _ =>
    unfold State.request
    simp only
    rw [if_neg hguard, if_pos hstate', hseen]

theorem State.request_opens {s : State} {n : Nat} (hserv : s.serving = true) (hstate : (s.ses n).state = 1) (op : Nat) (req : BitVec 32) (p : Nat) :
    s.start.request n op req (.openSes p) = (s.seen n).serveOpen n op req p := by
  have hstate' : (s.start.ses n).state = 1 := hstate
  have hseen : s.start.setSes n { s.start.ses n with lastFrame := s.start.clk } = s.seen n := rfl
  have hguard := State.start_answers (n := n) hserv (by omega)
  unfold State.request
  simp only
  rw [if_neg hguard, if_pos hstate', hseen]

section

variable {s : State} {n : Nat} {f : Frame} {salt : BitVec 128}

theorem State.frame_request {w : PdpReq} (hserv : s.serving = true) (hstate : (s.ses n).state ≠ 0) (hbroken : frameBroken f = false)
    (hw : frameReq f salt = some w) : s.start.frame n f salt = s.start.request n f.op.toNat f.reqId w := by
  have hguard := State.start_answers hserv hstate
  unfold State.frame
  simp only
  rw [if_neg hguard, hbroken, hw]
  rfl

theorem State.frame_broken (hserv : s.serving = true) (hstate : (s.ses n).state ≠ 0) (hbad : frameBroken f = true ∨ frameReq f salt = none) :
    s.start.frame n f salt = (s.start.event 0x1005 n f.op.toNat f.length.toNat).closeSes n 2 := by
  have hguard := State.start_answers hserv hstate
  have hnone : (if frameBroken f = true then none else frameReq f salt) = none := by
    rcases hbad with h | h
    · rw [if_pos h]
    · rw [h]
      split <;> rfl
  unfold State.frame
  simp only
  rw [if_neg hguard, hnone]

end

/-- The commands that are one frame of a session, with no salt. -/
def frameInstrs (ses : Fin 64) (f : Frame) : List Instr :=
  [.closeSession ses f, .ping ses f, .readObject ses f, .writeObject ses f, .readMany ses f, .writeMany ses f, .abortRequest ses f,
    .query ses f, .subscribe ses f, .unsubscribe ses f, .safetyClose ses f]

theorem exec_frameInstrs {s : State} {ses : Fin 64} {f : Frame} {i : Instr} (h : i ∈ frameInstrs ses f) :
    exec i s = .next (s.start.frame ses.val f 0).drain := by
  simp only [frameInstrs, List.mem_cons, List.not_mem_nil, or_false] at h
  rcases h with rfl | rfl | rfl | rfl | rfl | rfl | rfl | rfl | rfl | rfl | rfl <;> rfl

theorem State.frameInstrs_clause {s : State} (hroom : s.Room) (ses : Fin 64) (f : Frame) (i : Instr) (hserv : s.serving = true)
    (hquiet : s.emits = []) (hi : i ∈ frameInstrs ses f) :
    (2 ≤ (s.ses ses.val).state → (frameBroken f = true ∨ frameReq f 0 = none) →
      ∃ t, exec i s = .next t ∧ (t.ses ses.val).state = 0 ∧ t.out = [.close ses.val] ∧ t.Recorded 0x1005 0xFFFF ses.val f.op.toNat f.length.toNat) ∧
    (∀ w : PdpReq, (s.ses ses.val).state = 1 → frameBroken f = false → frameReq f 0 = some w → (∀ p : Nat, w ≠ .openSes p) →
      exec i s = .next { s.atRequest ses.val with out := [.resp ses.val f.op.toNat f.reqId 2 []] }) := by
  refine ⟨fun hopen hbad => ?_, fun w hstate hbroken hw hne => ?_⟩
  · have hfree : s.start.rcd.waitingCount < 32768 := show s.rcd.waitingCount < 32768 by omega
    have hrec := s.start.event_recorded 0x1005 ses.val f.op.toNat f.length.toNat hfree
    have hopen' : 2 ≤ ((s.start.event 0x1005 ses.val f.op.toNat f.length.toNat).ses ses.val).state := by
      rw [State.ses_congr (congrArg (·.sessions) (State.event_acc ..))]
      exact hopen
    have hends := State.closeSes_ends hopen' 2
    rw [exec_frameInstrs hi, State.frame_broken hserv (by omega) hbad, State.drain_of_quiet _ (hends.emits.trans ((State.event_emits ..).trans hquiet))]
    refine ⟨_, rfl, hends.state, ?_, hends.keeps.recorded hrec⟩
    rw [hends.out, State.event_out]
    rfl
  · rw [exec_frameInstrs hi, State.frame_request hserv (by omega) hbroken hw, State.request_closed hserv hstate _ _ hne]
    exact congrArg Host.Outcome.next (State.drain_of_quiet _ hquiet)

/-! ### OPEN (R191, R192, R243) -/

/-- An answer that carries no write is given at once without a healthy standby (R29). -/
theorem State.enterRequest_empty {s : State} {r : PendReq} (hplan : s.tw.plan = none) (hstandby : s.healthyStandby = false) (he : r.entries = [])
    (hroute : r.route = .pdp) (hopen : 2 ≤ (s.ses r.ses).state) (hfpr : (s.ses r.ses).fpr = r.fpr) :
    s.enterRequest r = ({ s with acc := { s.acc with pos := s.acc.pos + 1 } } : State).emit (.resp r.ses r.op r.req 0 r.payload) := by
  have hcommit (u : State) (x : PendReq) (hx : x.entries = []) (hroute : x.route = .pdp) (hopen : 2 ≤ (u.ses x.ses).state)
      (hfpr : (u.ses x.ses).fpr = x.fpr) : u.commitReq x = u.emit (.resp x.ses x.op x.req 0 x.payload) := by
    have hlisten : u.listens x = true := by simp [State.listens, hopen, hfpr]
    have hentries : ({ x with entries := [] } : PendReq) = x := by rw [← hx]
    have hasks : x.asksPlan = false := by simp [PendReq.asksPlan, hx]
    have hloop : x.loopCmd = false := by simp [PendReq.loopCmd, hx]
    have hok : u.commitStatus x = .ok := by simp [State.commitStatus, hx]
    have happly : u.applyEntries x.rights [] = u := rfl
    have hfinal : u.recordFinal x 0 = u := by simp [State.recordFinal, hx]
    have hcode : Status.ok.code = 0 := rfl
    have hanswer : u.answer x 0 x.payload = u.emit (.resp x.ses x.op x.req 0 x.payload) := by
      unfold State.answer
      rw [hroute]
    unfold State.commitReq
    rw [hx]
    simp only [List.foldl_nil, hentries, hok, happly, hasks, hloop, hlisten, hcode, hfinal, hanswer, Bool.false_eq_true, false_and, if_false, if_true]
  have hstand : ({ s with acc := { s.acc with pos := s.acc.pos + 1 } } : State).healthyStandby = false := hstandby
  have hitems : ({ r with pos := s.acc.pos } : PendReq).items = [] := by simp [PendReq.items, he]
  have hlen : ¬ (({ r with pos := s.acc.pos } : PendReq).asksPlan = true ∧ ({ r with pos := s.acc.pos } : PendReq).entries.length = 1) := by simp [he]
  unfold State.enterRequest
  simp only
  rw [if_neg hlen, hitems, List.foldl_nil, hplan, hstand, if_neg (by decide), if_neg (by decide)]
  exact hcommit _ { r with pos := s.acc.pos } he hroute hopen hfpr

theorem State.readmit_get (s : State) (i : Item) {k : Key} (hpt : ∀ p, k.oid ≠ (Oid.PT_STATUS p).oid) (hdrop : k.oid ≠ Oid.REC_DROPPED.oid) :
    (s.readmit i).get k = s.get k := by
  have hadd (u : State) (i : Item) : (u.addItem i).get k = u.get k := State.get_congr (State.addItem_objs ..) k
  have hevent (u : State) (c p0 p1 p2 : Nat) : (u.event c p0 p1 p2).get k = u.get k := State.get_event _ _ _ _ _ _ hdrop.symm
  have hmark (u : State) (x : ItemKind) : (u.markDegraded x).get k = u.get k := by
    have hbit (p i : Nat) (b : Bool) : (u.ptStatusBit p i b).get k = u.get k := by
      unfold State.ptStatusBit
      split
      · rfl
      · exact (State.get_congr (s := u.setBit (Oid.PT_STATUS p) i b) (by simp) k).trans (State.get_setBit_other _ _ _ _ _ (hpt p).symm)
    unfold State.markDegraded
    split
    · exact hbit _ _ _
    · exact hbit _ _ _
    · rfl
  have hswap (u : State) (i : Item) : (u.swapItem i).get k = u.get k := by
    unfold State.swapItem
    rw [State.get_congr (State.mirror_objs ..), hevent]
    exact State.get_congr rfl k
  unfold State.readmit
  split
  · exact hadd _ _
  · split
    · rw [hswap, hadd]
    · rw [hevent, hmark, hadd]

theorem State.takeOver_get (n port : Nat) (s : State) (x : Sub) {k : Key} (hpt : ∀ p, k.oid ≠ (Oid.PT_STATUS p).oid)
    (hdrop : k.oid ≠ Oid.REC_DROPPED.oid) : (State.takeOver n port s x).get k = s.get k := by
  unfold State.takeOver
  rw [State.readmit_get _ _ hpt hdrop, State.get_congr (State.dropItems_objs ..)]
  rfl

/-- What the opening of a session leaves (R191, R192). -/
structure State.Opens (s t : State) (n p : Nat) : Prop where
  state : (t.ses n).state = 2
  part : (t.ses n).part = p
  shown : t.nat (Oid.SESS_STATE n) = 2
  emits : t.emits = s.emits
  plan : t.tw.plan = s.tw.plan
  standby : t.healthyStandby = s.healthyStandby
  recorded : s.rcd.waitingCount < 32768 → t.Recorded 0x1001 0xFFFF n p (s.ses n).port

/-- What a session that opens leaves of what its first step left. -/
structure State.TakesOver (s t : State) : Prop where
  acc : t.acc = s.acc
  emits : t.emits = s.emits
  plan : t.tw.plan = s.tw.plan
  inStep : t.tw.inStep = s.tw.inStep
  get : ∀ k : Key, (∀ p, k.oid ≠ (Oid.PT_STATUS p).oid) → k.oid ≠ Oid.REC_DROPPED.oid → t.get k = s.get k
  keeps : s.KeepsRecords t

theorem State.takeOvers (n port : Nat) (l : List Sub) (s : State) : s.TakesOver (l.foldl (State.takeOver n port) s) where
  acc := State.foldl_acc (fun u x => State.takeOver_acc n port u x) l s
  emits := State.foldl_emits (fun u x => State.takeOver_emits n port u x) l s
  plan := State.foldl_tw_plan (fun u x => State.takeOver_tw_plan n port u x) l s
  inStep := State.foldl_tw_inStep (fun u x => State.takeOver_tw_inStep n port u x) l s
  get := fun k hpt hdrop => State.foldl_get k (fun u x => State.takeOver_get n port u x hpt hdrop) l s
  keeps := State.KeepsRecords.foldl (fun u x => State.takeOver_records n port u x) l s

theorem State.healthyStandby_congr {s t : State} (hstate : t.get Oid.TW_TWIN_STATE = s.get Oid.TW_TWIN_STATE)
    (hsummary : t.get Oid.TW_TWIN_SUMMARY = s.get Oid.TW_TWIN_SUMMARY) (hstep : t.tw.inStep = s.tw.inStep) : t.healthyStandby = s.healthyStandby := by
  have hstate' : t.nat Oid.TW_TWIN_STATE = s.nat Oid.TW_TWIN_STATE := congrArg Int.toNat hstate
  have hsummary' : t.nat Oid.TW_TWIN_SUMMARY = s.nat Oid.TW_TWIN_SUMMARY := congrArg Int.toNat hsummary
  rw [State.healthyStandby, State.healthyStandby, hstate', hsummary', hstep]

theorem State.sesOpen_opens (s : State) {n : Nat} (hn : n < 128) (part : Nat) : s.Opens (s.sesOpen n part) n part := by
  unfold State.sesOpen
  simp only
  generalize hx : ({ s.ses n with state := 2, part := part, opened := s.time } : Session) = x
  have hstate : x.state = 2 := by rw [← hx]
  have hpart : x.part = part := by rw [← hx]
  have hsame : ((s.setSes n x).setN (Oid.SESS_STATE n) 2).ses n = x := s.ses_setSes_same n x
  have hshown : ((s.setSes n x).setN (Oid.SESS_STATE n) 2).nat (Oid.SESS_STATE n) = 2 := State.nat_setN_same ..
  have hget {k : Key} (hk : k.oid ≠ (Oid.SESS_STATE n).oid) : ((s.setSes n x).setN (Oid.SESS_STATE n) 2).get k = s.get k :=
    (State.get_setN_other _ _ _ _ hk.symm).trans (State.get_congr rfl k)
  have htstate := hget (k := Oid.TW_TWIN_STATE) (by simp; omega)
  have htsummary := hget (k := Oid.TW_TWIN_SUMMARY) (by simp; omega)
  have hemits : ((s.setSes n x).setN (Oid.SESS_STATE n) 2).emits = s.emits := rfl
  have htw : ((s.setSes n x).setN (Oid.SESS_STATE n) 2).tw = s.tw := rfl
  have hrcd : ((s.setSes n x).setN (Oid.SESS_STATE n) 2).rcd = s.rcd := rfl
  generalize (s.setSes n x).setN (Oid.SESS_STATE n) 2 = u at *
  have hacc' : ((u.addItem (sesItem n (s.ses n).port)).event 0x1001 n part (s.ses n).port).acc.sessions = u.acc.sessions := by
    rw [State.event_acc]
    exact State.addItem_acc_sessions ..
  have hemits' : ((u.addItem (sesItem n (s.ses n).port)).event 0x1001 n part (s.ses n).port).emits = u.emits := by
    rw [State.event_emits]
    exact State.addItem_emits ..
  have hplan' : ((u.addItem (sesItem n (s.ses n).port)).event 0x1001 n part (s.ses n).port).tw.plan = u.tw.plan := by
    rw [State.event_tw]
    exact State.addItem_tw_plan ..
  have hstep' : ((u.addItem (sesItem n (s.ses n).port)).event 0x1001 n part (s.ses n).port).tw.inStep = u.tw.inStep := by
    rw [State.event_tw]
    exact State.addItem_tw_inStep ..
  have hget' {k : Key} (hk : k.oid ≠ Oid.REC_DROPPED.oid) :
      ((u.addItem (sesItem n (s.ses n).port)).event 0x1001 n part (s.ses n).port).get k = u.get k :=
    (State.get_event _ _ _ _ _ _ hk.symm).trans (State.get_congr (State.addItem_objs ..) k)
  have hrec : s.rcd.waitingCount < 32768 →
      ((u.addItem (sesItem n (s.ses n).port)).event 0x1001 n part (s.ses n).port).Recorded 0x1001 0xFFFF n part (s.ses n).port := fun hroom =>
    State.event_recorded _ _ _ _ _ (by rw [State.addItem_rcd, hrcd]; exact hroom)
  generalize (u.addItem (sesItem n (s.ses n).port)).event 0x1001 n part (s.ses n).port = v at *
  have htake := State.takeOvers n (s.ses n).port (v.waitingSubs (s.ses n).fpr part) v
  have hses : ((v.waitingSubs (s.ses n).fpr part).foldl (State.takeOver n (s.ses n).port) v).ses n = x :=
    ((State.ses_congr (congrArg (·.sessions) htake.acc) n).trans (State.ses_congr hacc' n)).trans hsame
  have hkey {k : Key} (hpt : ∀ p, k.oid ≠ (Oid.PT_STATUS p).oid) (hk : k.oid ≠ Oid.REC_DROPPED.oid) := (htake.get k hpt hk).trans (hget' hk)
  have hsess : ((v.waitingSubs (s.ses n).fpr part).foldl (State.takeOver n (s.ses n).port) v).nat (Oid.SESS_STATE n) = 2 :=
    (congrArg Int.toNat (hkey (fun p => by simp; omega) (by simp; omega))).trans hshown
  generalize (v.waitingSubs (s.ses n).fpr part).foldl (State.takeOver n (s.ses n).port) v = w at *
  exact {
    state := by rw [hses, hstate]
    part := by rw [hses, hpart]
    shown := hsess
    emits := htake.emits.trans (hemits'.trans hemits)
    plan := htake.plan.trans (hplan'.trans (congrArg (·.plan) htw))
    standby := State.healthyStandby_congr ((hkey (fun p => by simp; omega) (by decide)).trans htstate)
      ((hkey (fun p => by simp; omega) (by decide)).trans htsummary) (htake.inStep.trans (hstep'.trans (congrArg (·.inStep) htw)))
    recorded := fun hroom => htake.keeps.recorded (hrec hroom) }

theorem State.serveOpen_accepted {s : State} {n : Nat} (hn : n < 128) {part : Nat} (req : BitVec 32) (hc : s.openCheck n part = none)
    (hplan : s.tw.plan = none) (hstandby : s.healthyStandby = false) :
    ∃ b : List Byte, b.length = 12 ∧ ∃ u : State, u.Like (s.sesOpen n part) ∧ Out.resp n 1 req 0 b ∈ u.out ∧ s.serveOpen n 1 req part = u := by
  have hopens := s.sesOpen_opens hn part
  unfold State.serveOpen
  rw [hc]
  simp only
  generalize s.sesOpen n part = v at *
  generalize hb : leBytes 1 n ++ leBytes 1 v.mode.code ++ leBytes 1 v.position ++ [0] ++ leBytes 8 v.time = b
  have hlen : b.length = 12 := by
    rw [← hb]
    simp
  have hstand : v.tw.plan = none := hopens.plan.trans hplan
  refine ⟨b, hlen, _, ?_, ?_, State.enterRequest_empty hstand (hopens.standby.trans hstandby) rfl rfl ?_ rfl⟩
  · exact ⟨rfl, rfl, rfl, rfl, rfl, rfl, rfl, rfl, rfl, rfl, rfl, rfl, rfl, rfl, rfl, rfl, rfl, rfl, rfl, rfl, rfl, rfl, rfl, rfl, rfl, rfl, rfl⟩
  · exact List.mem_append_right _ List.mem_cons_self
  · exact Nat.le_of_eq hopens.state.symm

theorem State.serveOpen_refused {s : State} {n part : Nat} (req : BitVec 32) {r : Refuse} (hc : s.openCheck n part = some r)
    (hroom : s.rcd.waitingCount < 32767) :
    ((s.serveOpen n 1 req part).ses n).state = 0 ∧ Out.resp n 1 req r.st.code r.payload ∈ (s.serveOpen n 1 req part).out
      ∧ Out.close n ∈ (s.serveOpen n 1 req part).out ∧ (s.serveOpen n 1 req part).emits = s.emits
      ∧ (s.serveOpen n 1 req part).Recorded 0x1003 0xFFFF (s.ses n).port r.st.code (s.ses n).fpr.toNat := by
  have hwait : (s.notesExcess r).rcd.waitingCount ≤ s.rcd.waitingCount + 1 ∧ (s.notesExcess r).emits = s.emits := by
    unfold State.notesExcess State.noteRefusal
    split
    · exact ⟨State.event_waiting .., State.event_emits ..⟩
    · exact ⟨Nat.le_succ _, rfl⟩
  obtain ⟨hwait, hemits⟩ := hwait
  have hserve : s.serveOpen n 1 req part
      = (((s.notesExcess r).event 0x1003 (s.ses n).port r.st.code ((s.ses n).fpr.toNat % 4294967296)).resp n 1 req r.st r.payload).dropSes n := by
    unfold State.serveOpen
    rw [hc]
    rfl
  have hrec := (s.notesExcess r).event_recorded 0x1003 (s.ses n).port r.st.code ((s.ses n).fpr.toNat % 4294967296) (by omega)
  have hemits' := (State.event_emits (s.notesExcess r) 0x1003 (s.ses n).port r.st.code ((s.ses n).fpr.toNat % 4294967296)).trans hemits
  generalize (s.notesExcess r).event 0x1003 (s.ses n).port r.st.code ((s.ses n).fpr.toNat % 4294967296) = u at *
  rw [hserve]
  refine ⟨congrArg (·.state) (State.ses_dropSes _ n), ?_, ?_, (State.dropSes_emits ..).trans hemits', ?_⟩
  · rw [State.dropSes_out]
    exact List.mem_append_left _ (List.mem_append_right _ List.mem_cons_self)
  · rw [State.dropSes_out]
    exact List.mem_append_right _ List.mem_cons_self
  · obtain ⟨x, hx, hcode, hsrc, h0, h1, h2⟩ := hrec
    exact (State.dropSes_records _ n).recorded ⟨x, hx, hcode, hsrc, h0, h1, h2.trans (Nat.mod_mod ..)⟩

theorem State.openSession_clause {s : State} (hroom : s.Room) (ses : Fin 128) (f : Frame) (p : Nat) (hserv : s.serving = true)
    (hquiet : s.emits = []) (hbroken : frameBroken f = false) (hop : f.op = 0x01) (hlen : 4 ≤ f.payload.length) (hp : p = leNat (f.payload.take 2))
    (hstate : (s.ses ses.val).state = 1) :
    (s.NoneWaits → s.healthyStandby = false → (s.atRequest ses.val).openCheck ses.val p = none →
      ∃ t, exec (.openSession ses f) s = .next t ∧ (t.ses ses.val).state = 2 ∧ (t.ses ses.val).part = p ∧ t.nat (Oid.SESS_STATE ses.val) = 2
        ∧ (∃ b : List Byte, b.length = 12 ∧ Out.resp ses.val 1 f.reqId 0 b ∈ t.out)
        ∧ t.Recorded 0x1001 0xFFFF ses.val p (s.ses ses.val).port) ∧
    (∀ r : Refuse, (s.atRequest ses.val).openCheck ses.val p = some r →
      ∃ t, exec (.openSession ses f) s = .next t ∧ (t.ses ses.val).state = 0 ∧ Out.resp ses.val 1 f.reqId r.st.code r.payload ∈ t.out
        ∧ Out.close ses.val ∈ t.out ∧ t.Recorded 0x1003 0xFFFF (s.ses ses.val).port r.st.code (s.ses ses.val).fpr.toNat) := by
  have hw : frameReq f 0 = some (.openSes p) := by
    unfold frameReq
    simp only [hop]
    rw [if_pos (by decide), if_neg (by omega), hp]
  have hexec : exec (.openSession ses f) s = .next ((s.seen ses.val).serveOpen ses.val 1 f.reqId p).drain := by
    have hcode : f.op.toNat = 1 := by rw [hop]; rfl
    refine congrArg (fun u : State => Host.Outcome.next u.drain) ?_
    rw [State.frame_request hserv (by omega) hbroken hw, State.request_opens hserv hstate, hcode]
  have hses : (s.seen ses.val).ses ses.val = { s.ses ses.val with lastFrame := s.clk } := s.ses_seen ses.val
  have hport : ((s.seen ses.val).ses ses.val).port = (s.ses ses.val).port := congrArg (·.port) hses
  have hfpr : ((s.seen ses.val).ses ses.val).fpr = (s.ses ses.val).fpr := congrArg (·.fpr) hses
  have hfree : (s.seen ses.val).rcd.waitingCount < 32767 := show s.rcd.waitingCount < 32767 by omega
  rw [hexec]
  refine ⟨fun hnone hstandby hc => ?_, fun r hc => ?_⟩
  · have hopens := (s.seen ses.val).sesOpen_opens ses.isLt p
    obtain ⟨b, hb, u, hlike, hans, hserve⟩ := State.serveOpen_accepted (s := s.seen ses.val) ses.isLt f.reqId hc hnone.2.2.2.2.2.1
      (hstandby ▸ s.healthyStandby_seen ses.val)
    rw [hserve, State.drain_of_quiet _ (hlike.emits.trans (hopens.emits.trans hquiet))]
    refine ⟨u, rfl, ?_, ?_, ?_, ⟨b, hb, hans⟩, ?_⟩
    · rw [hlike.ses, hopens.state]
    · rw [hlike.ses, hopens.part]
    · rw [hlike.nat, hopens.shown]
    · have hrec := hopens.recorded (by omega)
      rw [hport] at hrec
      exact hrec.congr hlike.rcd
  · obtain ⟨hstate', hans, hclose, hemits, hrec⟩ := State.serveOpen_refused (s := s.seen ses.val) f.reqId hc hfree
    rw [State.drain_of_quiet _ (hemits.trans hquiet)]
    rw [hport, hfpr] at hrec
    exact ⟨_, rfl, hstate', hans, hclose, hrec⟩

/-! ### CLOSE, PING and SESSION_IDLE (R193) -/

theorem State.closePing_clause {s : State} (hroom : s.Room) (ses : Fin 64) (f : Frame) (hserv : s.serving = true) (hquiet : s.emits = [])
    (hopen : 2 ≤ (s.ses ses.val).state) (hnone : s.NoneWaits) (hbroken : frameBroken f = false) :
    (f.op = 0x02 →
      ∃ t, exec (.closeSession ses f) s = .next t ∧ (t.ses ses.val).state = 0 ∧ t.out = [.resp ses.val 2 f.reqId 0 [], .close ses.val]
        ∧ t.Recorded 0x1002 0xFFFF ses.val 0 0) ∧
    (f.op = 0x03 →
      exec (.ping ses f) s = .next { s.atRequest ses.val with out := [.resp ses.val 3 f.reqId 0 (leBytes 8 s.time)] }) := by
  have hserves {w : PdpReq} (hw : frameReq f 0 = some w) : s.start.frame ses.val f 0 = (s.seen ses.val).serve ses.val f.op.toNat f.reqId w := by
    rw [State.frame_request hserv (by omega) hbroken hw, State.request_serves hserv hopen hnone]
  refine ⟨fun hop => ?_, fun hop => ?_⟩
  · have hw : frameReq f 0 = some .closeSes := by
      unfold frameReq
      simp only [hop]
      rfl
    have hcode : f.op.toNat = 2 := by rw [hop]; rfl
    have hopen' : 2 ≤ (((s.seen ses.val).resp ses.val 2 f.reqId .ok []).ses ses.val).state := by
      rw [State.ses_congr (show ((s.seen ses.val).resp ses.val 2 f.reqId .ok []).acc.sessions = (s.seen ses.val).acc.sessions from rfl), s.ses_seen]
      exact hopen
    have hends := State.closeSes_ends hopen' 0
    have hexec : exec (.closeSession ses f) s = .next (((s.seen ses.val).resp ses.val 2 f.reqId .ok []).closeSes ses.val 0).drain := by
      refine congrArg (fun u : State => Host.Outcome.next u.drain) ?_
      rw [hserves hw, hcode]
      rfl
    rw [hexec, State.drain_of_quiet _ (hends.emits.trans hquiet)]
    refine ⟨_, rfl, hends.state, hends.out, hends.recorded ?_⟩
    exact show s.rcd.waitingCount < 32767 by omega
  · have hw : frameReq f 0 = some .ping := by
      unfold frameReq
      simp only [hop]
      rfl
    have hcode : f.op.toNat = 3 := by rw [hop]; rfl
    have hexec : exec (.ping ses f) s = .next ((s.seen ses.val).resp ses.val 3 f.reqId .ok (leBytes 8 s.time)).drain := by
      refine congrArg (fun u : State => Host.Outcome.next u.drain) ?_
      rw [hserves hw, hcode]
      rfl
    exact hexec.trans (congrArg Host.Outcome.next (State.drain_of_quiet _ hquiet))

theorem State.sessionIdle_clause {s : State} (hroom : s.Room) (ses : Fin 64) (hserv : s.serving = true) (hopen : 2 ≤ (s.ses ses.val).state) :
    ∃ t, exec (.sessionIdleTimeout ses) s = .next t ∧ (t.ses ses.val).state = 0 ∧ t.out = [.close ses.val]
      ∧ (s.ses ses.val).lastFrame + 1000000000 * s.nat Oid.SESSION_IDLE ≤ t.clk ∧ t.Recorded 0x1002 0xFFFF ses.val 1 0 := by
  have hexec : exec (.sessionIdleTimeout ses) s
      = .next ((s.start.reach ((s.start.ses ses.val).lastFrame + sec (s.start.nat Oid.SESSION_IDLE))).closeSes ses.val 1) :=
    congrArg Host.Outcome.next (if_neg (State.start_answers hserv (by omega)))
  have hclk := s.start.le_reach_clk ((s.start.ses ses.val).lastFrame + sec (s.start.nat Oid.SESSION_IDLE))
  have hses (n : Nat) : (s.start.reach n).ses ses.val = s.ses ses.val := rfl
  have hrcd (n : Nat) : (s.start.reach n).rcd = s.rcd := State.reach_rcd ..
  have hsec : (s.ses ses.val).lastFrame + 1000000000 * s.nat Oid.SESSION_IDLE
      = (s.start.ses ses.val).lastFrame + sec (s.start.nat Oid.SESSION_IDLE) := by
    rw [sec, Nat.mul_comm]
    rfl
  rw [hexec, hsec]
  generalize (s.start.ses ses.val).lastFrame + sec (s.start.nat Oid.SESSION_IDLE) = a at *
  have hends := State.closeSes_ends (s := s.start.reach a) (n := ses.val) (by rw [hses]; exact hopen) 1
  refine ⟨_, rfl, hends.state, hends.out, ?_, hends.recorded ?_⟩
  · rw [hends.clk]
    exact hclk
  · rw [hrcd]
    omega

/-! ### SESS_CLOSE (R193, R210) -/

/-- The row of SESS_CLOSE. -/
def sessCloseRow : ObjRow := ⟨0x01400005, [(0x100, 64)], .u8, .wo, .num 0, false, (.oneOf [1]), .request⟩

theorem lookup_SESS_CLOSE (m : Nat) (h : m < 64) : lookup (0x01400005 + m * 256) = some (sessCloseRow, [m]) := by
  simpa [ObjRow.at', idxOff, Nat.mul_comm, sessCloseRow] using lookup_01 sessCloseRow (by decide +kernel) [m] (by simp [sessCloseRow, idxOk, h])

theorem sessCloseRow_takes : sessCloseRow.Takes [1] 1 := ObjRow.Takes.of_u8 (v := 1) rfl rfl rfl rfl (by decide) (by decide)

theorem State.ownerCheck_sessClose (s : State) (q : Rights) (e : WEntry) (m : Nat) (hrel : e.relinq = false) (d : List Byte) :
    s.ownerCheck q sessCloseRow [m] e 1 d = need ((s.ses m).state != 0) .noObject := by
  simp [State.ownerCheck, sessCloseRow, State.check01, one, need, andThen]

theorem State.areaEffect_sessClose (s : State) (q : Rights) (e : WEntry) (m : Nat) (v : Int) (d : List Byte) :
    s.areaEffect q sessCloseRow e [m] v d = s.closeSes m 4 := by
  simp [State.areaEffect, State.apply01, sessCloseRow, safetyParam]

/-- SESS_CLOSE ends the session named; a session that closes itself is answered before (R193). -/
theorem State.sessClose_done {s : State} (hroom : s.Room) (ses target : Fin 64) (req : BitVec 32) (h : s.Ready ses.val)
    (hopen : 2 ≤ (s.ses target.val).state) :
    ∃ t, exec (.sessClose ses req target 1) s = .next t ∧ t.Answers ses.val req 0 ∧ (t.ses target.val).state = 0
      ∧ Out.close target.val ∈ t.out ∧ t.Recorded 0x1002 0xFFFF target.val 4 0 := by
  have hlk := lookup_SESS_CLOSE target.val target.isLt
  have hses : (s.seen ses.val).ses target.val = s.ses target.val ∨ ((s.seen ses.val).ses target.val).state = (s.ses target.val).state := by
    by_cases heq : ses.val = target.val
    · rw [← heq, s.ses_seen]
      exact .inr rfl
    · exact .inl (s.ses_seen_other ses.val target.val heq)
  have hstate : ((s.seen ses.val).ses target.val).state = (s.ses target.val).state := hses.elim (fun h => congrArg (·.state) h) id
  have hcheck : (s.seen ses.val).checkWrite (hostRights ses.val) { oid := 0x01400005 + target.val * 256, data := [1] } = none := by
    have hval : valueCheck sessCloseRow sessCloseRow.ty (sessCloseRow.taken [1]) = none := by
      rw [sessCloseRow_takes.taken]
      exact sessCloseRow_takes.check
    have hopen' : ((s.ses target.val).state != 0) = true := by simp; omega
    rw [(s.seen ses.val).checkWrite_plain { oid := 0x01400005 + target.val * 256, data := [1] } (hostRights ses.val) sessCloseRow [target.val] rfl hlk rfl
      (by decide) rfl (by decide) rfl rfl rfl hval (by decide) (fun hb => absurd hb (by decide)), sessCloseRow_takes.taken, sessCloseRow_takes.value,
      State.ownerCheck_sessClose _ _ _ _ rfl, hstate, hopen']
    rfl
  obtain ⟨u, t, ht, hu, hans, hlike, hout⟩ := s.hostRow_either ses.val req h hlk rfl rfl hcheck (fun hb => absurd hb (by decide))
    (fun u => u.closeSes target.val 4) (fun u => State.areaEffect_sessClose ..) (fun u o ho => State.closeSes_out_mem u target.val 4 ho)
    (fun u hq => (u.closeSes_emits ..).trans hq)
  have hstate' : (u.ses target.val).state = (s.ses target.val).state := by
    rw [hu.ses, State.ses_landed, hstate]
  have hends := State.closeSes_ends (s := u) (n := target.val) (by omega) 4
  refine ⟨t, congrArg Host.Outcome.next ht, hans, ?_, hout _ ?_, (hends.recorded ?_).congr hlike.rcd⟩
  · rw [hlike.ses, hends.state]
  · rw [hends.out]
    exact List.mem_append_right _ List.mem_cons_self
  · rw [hu.rcd, State.landed_rcd]
    omega

theorem State.sessClose_refused {s : State} (ses target : Fin 64) (req : BitVec 32) (h : s.Ready ses.val) :
    ((s.ses target.val).state = 0 →
      ∃ t, exec (.sessClose ses req target 1) s = .next t ∧ t.Answers ses.val req 1 ∧ t.objs = s.objs ∧ t.rcd = s.rcd) ∧
    (∀ v : Byte, v ≠ 1 →
      ∃ t, exec (.sessClose ses req target v) s = .next t ∧ t.Answers ses.val req 4 ∧ t.objs = s.objs ∧ t.rcd = s.rcd) := by
  have hlk := lookup_SESS_CLOSE target.val target.isLt
  refine ⟨fun hfree => ?_, fun v hv => ?_⟩
  · have hstate : ((s.seen ses.val).ses target.val).state = 0 := by
      by_cases heq : ses.val = target.val
      · have hready := h.2.2.1
        rw [heq, hfree] at hready
        exact absurd hready (by decide)
      · rw [s.ses_seen_other ses.val target.val heq, hfree]
    obtain ⟨t, ht, hans, hlike⟩ := s.hostRow_numberDenied ses.val req ⟨.noObject, [], none⟩ h hlk rfl sessCloseRow_takes (fun hacc => by cases hacc)
      (by rw [State.ownerCheck_sessClose _ _ _ _ rfl, hstate]; rfl) rfl rfl
    exact ⟨t, congrArg Host.Outcome.next ht, hans, hlike.objs, hlike.rcd⟩
  · have hrange : sessCloseRow.rng.allows (.num v.toNat) = false := by
      have hne : v.toNat ≠ 1 := fun he => hv (BitVec.eq_of_toNat_eq he)
      have hne' : ¬ ((v.toNat : Int) = 1) := by omega
      simp [Rng.allows, sessCloseRow, hne']
    have hrow := s.hostRow_misfit ses.val req h hlk rfl rfl (fun hacc => by cases hacc) (valueCheck_u8_range rfl rfl hrange)
      (fun hb => absurd hb (by decide))
    refine ⟨_, congrArg Host.Outcome.next hrow, ?_, rfl, rfl⟩
    exact List.mem_append_right _ List.mem_cons_self

/-- Settles O23, command by command. -/
theorem connections : Obligations.Connections := by
  unfold Obligations.Connections
  intro s hroom
  refine ⟨fun port c hserv hruns hport htls hpair => State.tlsHandshake_clause hroom port c hserv hruns hport htls hpair, ?_, ?_, ?_, ?_, ?_⟩
  · exact fun ses f p hserv hquiet hbroken hop hlen hp hstate => State.openSession_clause hroom ses f p hserv hquiet hbroken hop hlen hp hstate
  · exact fun ses f hserv hquiet hopen hnone hbroken => State.closePing_clause hroom ses f hserv hquiet hopen hnone hbroken
  · exact fun ses f i hserv hquiet hi => State.frameInstrs_clause hroom ses f i hserv hquiet hi
  · exact fun ses hserv hopen => State.sessionIdle_clause hroom ses hserv hopen
  · exact fun ses target req h => ⟨fun hopen => State.sessClose_done hroom ses target req h hopen, State.sessClose_refused ses target req h⟩

end Sys2Proof.Machine
end

section
/-! ### Reads, QUERY and ABORT (O24) -/

namespace Sys2Proof.Machine

/-! ### Rows of the dictionary -/

theorem dictArea_subset {a : Nat} {r : ObjRow} (h : r ∈ dictArea a) : r ∈ dictRows := by
  have happend {x : ObjRow} : x ∈ dictRows ↔ x ∈ dictRows00 ∨ x ∈ dictRows01 ∨ x ∈ dictRows08 ∨ x ∈ dictRows10 ∨ x ∈ dictRows20 ∨ x ∈ dictRows40
      ∨ x ∈ dictRows50 ∨ x ∈ dictRows60 ∨ x ∈ dictRows70 ∨ x ∈ dictRows78 ∨ x ∈ dictRows7C ∨ x ∈ dictRows7E ∨ x ∈ dictRows80 := by
    simp only [dictRows, List.mem_append, or_assoc]
  have hstep {c : Prop} [Decidable c] {l k : List ObjRow} (h : r ∈ if c then l else k) : r ∈ l ∨ r ∈ k := by
    split at h
    · exact .inl h
    · exact .inr h
  unfold dictArea at h
  rw [happend]
  refine (hstep h).imp_right fun h => (hstep h).imp_right fun h => (hstep h).imp_right fun h => (hstep h).imp_right fun h => (hstep h).imp_right
    fun h => (hstep h).imp_right fun h => (hstep h).imp_right fun h => (hstep h).imp_right fun h => (hstep h).imp_right fun h =>
    (hstep h).imp_right fun h => (hstep h).imp_right fun h => (hstep h).imp_right fun h => (hstep h).resolve_right List.not_mem_nil

theorem findRow_mem {l : List ObjRow} {oid : Nat} {r : ObjRow} {ix : List Nat} (h : findRow l oid = some (r, ix)) : r ∈ l := by
  induction l with
  | nil => cases h
  | cons x l ih =>
    rw [findRow] at h
    split at h
    · obtain ⟨rfl, -⟩ := Prod.mk.inj (Option.some.inj h)
      exact List.mem_cons_self
    · exact List.mem_cons_of_mem _ (ih h)

/-- An object found is one of a row of the dictionary. -/
theorem lookup_mem {oid : Nat} {r : ObjRow} {ix : List Nat} (h : lookup oid = some (r, ix)) : r ∈ dictRows := dictArea_subset (findRow_mem h)

theorem findObject_lookup {oid : Nat} {r : ObjRow} {ix : List Nat} (h : findObject oid = some (r, ix)) : lookup oid = some (r, ix) := by
  unfold findObject at h
  split at h
  · cases h
  · split at h
    · next hlk _ => rw [hlk, h]
    · cases h

/-- ACC_LOAD is read, and PT_VALUE has the type of its point (R4.x tables). -/
theorem dictRows_loadValue : ∀ r ∈ dictRows, (r.base = 0x7E000001 → r.acc ≠ .wo) ∧ (r.base = 0x80000000 → r.ty = .point) := by
  have h : dictRows.all (fun r => (r.base != 0x7E000001 || r.acc != .wo) && (r.base != 0x80000000 || r.ty == .point)) = true := by decide +kernel
  intro r hr
  have hrow := List.all_eq_true.1 h r hr
  simp only [Bool.and_eq_true, Bool.or_eq_true, bne_iff_ne, ne_eq, beq_iff_eq] at hrow
  exact ⟨fun hb => hrow.1.resolve_left (fun hne => hne hb), fun hb => hrow.2.resolve_left (fun hne => hne hb)⟩

/-! ### READ (R198, R199) -/

section

variable {s : State} {q : Rights} {oid : Nat} {r : ObjRow} {ix : List Nat}

theorem State.mayRead_host (hq : q.part = 0) (oid : Nat) : (!s.mayRead q.part oid) = false := by simp [State.mayRead, hq]

theorem State.read_unknown (hq : q.part = 0) (hfind : findObject oid = none) (hcast : s.broadcast oid = none) :
    s.read q oid = ((.noObject, []), s) := by
  unfold State.read
  rw [State.mayRead_host hq, hcast, hfind]
  rfl

theorem State.read_writeOnly (hq : q.part = 0) (hfind : findObject oid = some (r, ix)) (hty : s.tyOf r ix ≠ none) (hcast : s.broadcast oid = none)
    (hacc : r.acc = .wo) : s.read q oid = ((.access, []), s) := by
  have hload : accLoadUnused r.base ix = false := by
    have hne : r.base ≠ 0x7E000001 := fun hb => (dictRows_loadValue r (lookup_mem (findObject_lookup hfind))).1 hb hacc
    simp [accLoadUnused, hne]
  obtain ⟨t, ht⟩ := Option.ne_none_iff_exists'.1 hty
  unfold State.read
  simp only [State.mayRead_host hq, hcast, hfind, hload, ht, hacc, Option.isSome_none, Bool.false_eq_true, if_false, if_true]

/-- A register that the module holds is read as it is held. -/
theorem State.read_held (hq : q.part = 0) (hfind : findObject oid = some (r, ix)) (hty : r.ty ≠ .point) (hcast : s.broadcast oid = none)
    (hacc : r.acc ≠ .wo) (hbad : s.mem.badObjs.contains oid = false) (hload : accLoadUnused r.base ix = false) (hsel : s.readSel q.ses r.base = none)
    (hlow : s.readLow r ix = none) (hhigh : s.readHigh q.ses r = none) :
    s.read q oid = match s.liveNum r.base ix with
      | some v => ((.ok, r.ty.enc v), s)
      | none => ((.ok, s.bytesOf oid), s) := by
  have htyOf : s.tyOf r ix = some r.ty := by simp [State.tyOf, hty]
  have hpv : (r.base == 0x80000000) = false := by
    have hne : r.base ≠ 0x80000000 := fun hb => hty ((dictRows_loadValue r (lookup_mem (findObject_lookup hfind))).2 hb)
    simp [hne]
  unfold State.read
  simp only [State.mayRead_host hq, hcast, hfind, hload, htyOf, hacc, hbad, hpv, hsel, hlow, hhigh, hty, Option.isSome_none, Bool.false_eq_true,
    if_false, Bool.false_and, Bool.or_false] <;> cases s.liveNum r.base ix <;> rfl

/-- A read draws at most on the free-running counter. -/
def State.DrawsOnly (s t : State) : Prop := ∃ k, t = { s with freeCtr := k }

theorem State.DrawsOnly.refl (s : State) : s.DrawsOnly s := ⟨s.freeCtr, rfl⟩

theorem State.DrawsOnly.trans {s t u : State} (h : s.DrawsOnly t) (g : t.DrawsOnly u) : s.DrawsOnly u := by
  obtain ⟨j, rfl⟩ := h
  obtain ⟨k, rfl⟩ := g
  exact ⟨k, rfl⟩

theorem State.readLow_draws {s t : State} {r : ObjRow} {ix : List Nat} {b : List Byte} (h : s.readLow r ix = some (t, b)) : s.DrawsOnly t := by
  have hsame {c : List Byte} (h : some (s, c) = some (t, b)) : s.DrawsOnly t := by
    obtain ⟨rfl, -⟩ := Prod.mk.inj (Option.some.inj h)
    exact .refl s
  unfold State.readLow at h
  simp only at h
  split at h
  · obtain ⟨rfl, -⟩ := Prod.mk.inj (Option.some.inj h)
    exact ⟨_, rfl⟩
  · exact hsame h
  · exact hsame h
  · exact hsame h
  · exact hsame h
  · exact hsame h
  · exact hsame h
  · cases h

theorem State.readHigh_draws {s t : State} {n : Nat} {r : ObjRow} {b : List Byte} (h : s.readHigh n r = some (t, b)) : s.DrawsOnly t := by
  have hsame {c : List Byte} (h : some (s, c) = some (t, b)) : s.DrawsOnly t := by
    obtain ⟨rfl, -⟩ := Prod.mk.inj (Option.some.inj h)
    exact .refl s
  unfold State.readHigh at h
  split at h
  · exact hsame h
  · exact hsame h
  · exact hsame h
  · cases h

theorem State.read_draws (s : State) (q : Rights) (oid : Nat) : s.DrawsOnly (s.read q oid).2 := by
  have hite {c : Prop} [Decidable c] {x : Status × List Byte} {y : (Status × List Byte) × State} (h : s.DrawsOnly y.2) :
      s.DrawsOnly (if c then (x, s) else y).2 := by
    split
    · exact .refl s
    · exact h
  unfold State.read
  refine hite (hite ?_)
  split
  · exact .refl s
  · refine hite ?_
    split
    · exact .refl s
    · refine hite (hite ?_)
      split
      · exact .refl s
      · split
        · next h => exact State.readLow_draws h
        · split
          · next h => exact State.readHigh_draws h
          · split <;> exact .refl s

end

/-! ### Frames of a ready session -/

/-- A frame of a session that is ready carries out its request (R196, R197). -/
theorem exec_frame_serves {s : State} {ses : Fin 64} {f : Frame} {i : Instr} (hi : i ∈ frameInstrs ses f) (h : s.Ready ses.val)
    (hbroken : frameBroken f = false) {w : PdpReq} (hw : frameReq f 0 = some w) {op : Nat} (hop : f.op.toNat = op) :
    exec i s = .next ((s.seen ses.val).serve ses.val op f.reqId w).drain := by
  obtain ⟨hserv, -, hopen, -, hnone, -⟩ := h
  rw [exec_frameInstrs hi, State.frame_request hserv (by omega) hbroken hw, State.request_serves hserv hopen hnone, hop]

section

variable {s : State} {ses : Fin 64} {f : Frame}

/-- The rights of a session of the owner partition. -/
theorem State.sesRights_seen (h : s.Ready ses.val) : ((s.seen ses.val).sesRights ses.val) = hostRights ses.val := by
  have hpart : ((s.seen ses.val).ses ses.val).part = 0 := by
    rw [s.ses_seen]
    exact h.2.2.2.1
  rw [State.sesRights, hpart]
  rfl

/-- A state whose only output is one answer. -/
theorem State.resp_drain (h : s.Ready ses.val) (op : Nat) (req : BitVec 32) (st : Status) (p : List Byte) :
    ((s.seen ses.val).resp ses.val op req st p).drain = { s.atRequest ses.val with out := [.resp ses.val op req st.code p] } := by
  have hquiet : ((s.seen ses.val).resp ses.val op req st p).emits = [] := h.2.2.2.2.2.2.1
  rw [State.drain_of_quiet _ hquiet]
  rfl

theorem exec_readObject {oid : Nat} (h : s.Ready ses.val) (hbroken : frameBroken f = false) (hop : f.op = 0x10) (hlen : 4 ≤ f.payload.length)
    (hoid : oid = leNat (f.payload.take 4)) {st : Status} {b : List Byte}
    (hread : (s.seen ses.val).read (hostRights ses.val) oid = ((st, b), s.seen ses.val)) :
    exec (.readObject ses f) s = .next { s.atRequest ses.val with out := [.resp ses.val 0x10 f.reqId st.code b] } := by
  have hw : frameReq f 0 = some (.read oid) := by
    unfold frameReq
    simp only [hop, List.drop_zero]
    rw [if_neg (by decide), if_neg (by decide), if_neg (by decide), if_pos (by decide), if_neg (by omega), hoid]
  rw [exec_frame_serves (by simp [frameInstrs]) h hbroken hw (show f.op.toNat = 0x10 by rw [hop]; rfl), ← State.resp_drain h]
  unfold State.serve
  simp only
  rw [State.sesRights_seen h, hread]

theorem Ty.enc_natCast (t : Ty) (n : Nat) : t.enc (n : Int) = leBytes t.size n := by
  have hmod : unsigned (8 * t.size) n = leNat (leBytes t.size n) := by
    rw [leNat_leBytes, unsigned, show (256 : Nat) = 2 ^ 8 from rfl, ← Nat.pow_mul]
    exact congrArg Int.toNat (Int.natCast_emod n _).symm
  have hlen : (leBytes t.size n).length = t.size := leBytes_length ..
  have hback := leBytes_leNat (leBytes t.size n)
  rw [hlen] at hback
  rw [Ty.enc, hmod, hback]

theorem State.read_clause (h : s.Ready ses.val) (hbroken : frameBroken f = false) (hop : f.op = 0x10) (hlen : 4 ≤ f.payload.length) :
    let q : State := s.atRequest ses.val
    let oid := leNat (f.payload.take 4)
    (findObject oid = none → s.broadcast oid = none →
      exec (.readObject ses f) s = .next { q with out := [.resp ses.val 0x10 f.reqId 1 []] }) ∧
    (∀ (r : ObjRow) (ix : List Nat), findObject oid = some (r, ix) → s.tyOf r ix ≠ none → s.broadcast oid = none →
      (r.acc = .wo →
        exec (.readObject ses f) s = .next { q with out := [.resp ses.val 0x10 f.reqId 2 []] }) ∧
      (r.acc ≠ .wo → s.mem.badObjs.contains oid = false → accLoadUnused r.base ix = false → r.ty ≠ .point →
        q.readSel ses.val r.base = none → q.readLow r ix = none → q.readHigh ses.val r = none → q.liveNum r.base ix = none →
        exec (.readObject ses f) s = .next { q with out := [.resp ses.val 0x10 f.reqId 0 (s.bytesOf oid)] })) ∧
    (oid = 0x100 → s.mem.badObjs.contains oid = false →
      exec (.readObject ses f) s = .next { q with out := [.resp ses.val 0x10 f.reqId 0 (leBytes 1 s.mode.code)] }) ∧
    (oid = 0x08000100 → s.mem.badObjs.contains oid = false →
      exec (.readObject ses f) s = .next { q with out := [.resp ses.val 0x10 f.reqId 0 (leBytes 8 s.time)] }) ∧
    (oid ∈ [Oid.SESSION_IDLE.oid, Oid.HOLDOVER_LIMIT.oid, Oid.REC_MARK_INTERVAL.oid] → s.mem.badObjs.contains oid = false →
      exec (.readObject ses f) s = .next { q with out := [.resp ses.val 0x10 f.reqId 0 (s.bytesOf oid)] }) := by
  intro q oid
  have hexec {st : Status} {b : List Byte} (hread : (s.seen ses.val).read (hostRights ses.val) oid = ((st, b), s.seen ses.val)) :=
    exec_readObject (s := s) (ses := ses) (f := f) (oid := oid) h hbroken hop hlen rfl hread
  have hheld {r : ObjRow} {ix : List Nat} (hfind : findObject oid = some (r, ix)) (hty : r.ty ≠ .point) (hcast : s.broadcast oid = none)
      (hacc : r.acc ≠ .wo) (hbad : s.mem.badObjs.contains oid = false) (hload : accLoadUnused r.base ix = false)
      (hsel : q.readSel ses.val r.base = none) (hlow : q.readLow r ix = none) (hhigh : q.readHigh ses.val r = none) :=
    State.read_held (s := s.seen ses.val) (q := hostRights ses.val) rfl hfind hty hcast hacc hbad hload hsel hlow hhigh
  have hregister {r : ObjRow} {ix : List Nat} (hfind : findObject oid = some (r, ix)) (hty : r.ty ≠ .point) (hcast : s.broadcast oid = none)
      (hacc : r.acc ≠ .wo) (hbad : s.mem.badObjs.contains oid = false) (hload : accLoadUnused r.base ix = false)
      (hsel : q.readSel ses.val r.base = none) (hlow : q.readLow r ix = none) (hhigh : q.readHigh ses.val r = none)
      (hlive : q.liveNum r.base ix = none) :
      exec (.readObject ses f) s = .next { q with out := [.resp ses.val 0x10 f.reqId 0 (s.bytesOf oid)] } := by
    refine hexec (st := .ok) ?_
    rw [hheld hfind hty hcast hacc hbad hload hsel hlow hhigh, show (s.seen ses.val).liveNum r.base ix = none from hlive]
    rfl
  have hcast {o : Nat} (ho : oid = o) (hlt : o < 0xF0000000) : s.broadcast oid = none := s.broadcast_none oid (ho ▸ hlt)
  refine ⟨fun hfind hno => hexec (State.read_unknown rfl hfind hno), fun r ix hfind hty hno => ⟨fun hacc => ?_, ?_⟩, fun ho hbad => ?_,
    fun ho hbad => ?_, fun ho hbad => ?_⟩
  · exact hexec (State.read_writeOnly rfl hfind hty hno hacc)
  · exact fun hacc hbad hload hty' hsel hlow hhigh hlive => hregister hfind hty' hno hacc hbad hload hsel hlow hhigh hlive
  · have hfind : findObject oid = some (⟨0x00000100, [], .u8, .ro, .num 0, true, .any, .none⟩, []) := by rw [ho]; rfl
    rw [show leBytes 1 s.mode.code = Ty.enc .u8 (s.mode.code : Int) from (Ty.enc_natCast .u8 _).symm]
    exact hexec (st := .ok) (hheld hfind (by decide) (hcast ho (by decide)) (by decide) hbad rfl rfl rfl rfl)
  · have hfind : findObject oid = some (⟨0x08000100, [], .time64, .ro, .num 0, true, .any, .none⟩, []) := by rw [ho]; rfl
    rw [show leBytes 8 s.time = Ty.enc .time64 (s.time : Int) from (Ty.enc_natCast .time64 _).symm]
    exact hexec (st := .ok) (hheld hfind (by decide) (hcast ho (by decide)) (by decide) hbad rfl rfl rfl rfl)
  · simp only [List.mem_cons, List.not_mem_nil, or_false] at ho
    rcases ho with ho | ho | ho
    · exact hregister (by rw [ho]; rfl) (by decide) (hcast ho (by decide)) (by decide) hbad rfl rfl rfl rfl rfl
    · exact hregister (by rw [ho]; rfl) (by decide) (hcast ho (by decide)) (by decide) hbad rfl rfl rfl rfl rfl
    · exact hregister (by rw [ho]; rfl) (by decide) (hcast ho (by decide)) (by decide) hbad rfl rfl rfl rfl rfl

/-! ### READ_MANY (R198, R199) -/

theorem State.readSmall_draws (s : State) (q : Rights) (oid : Nat) : s.DrawsOnly (s.readSmall q oid).2 := by
  unfold State.readSmall
  split
  · exact .refl s
  · split
    · split
      · exact .refl s
      · exact s.read_draws q oid
    · exact s.read_draws q oid

/-- Each entry of READ_MANY takes eight bytes and its value. -/
theorem State.readMany_draws (q : Rights) (l : List Nat) (s : State) : s.DrawsOnly (s.readMany q l).2 ∧ 8 * l.length ≤ (s.readMany q l).1.length := by
  induction l generalizing s with
  | nil => exact ⟨.refl s, Nat.le_refl 0⟩
  | cons o l ih =>
    have hfirst := s.readSmall_draws q o
    rw [State.readMany]
    generalize s.readSmall q o = x at *
    obtain ⟨⟨st, v⟩, t⟩ := x
    obtain ⟨hdraws, hlen⟩ := ih t
    simp only
    generalize t.readMany q l = y at *
    obtain ⟨b, u⟩ := y
    refine ⟨hfirst.trans hdraws, ?_⟩
    simp only [List.length_append, leBytes_length, List.length_cons, List.length_nil]
    simp only at hlen
    omega

theorem State.readMany_unknown {s : State} {q : Rights} (hq : q.part = 0) {l : List Nat}
    (h : ∀ o ∈ l, findObject o = none ∧ s.broadcast o = none) :
    s.readMany q l = (l.flatMap (fun o => leBytes 4 o ++ [1, 0, 0, 0]), s) := by
  induction l with
  | nil => rfl
  | cons o l ih =>
    obtain ⟨hfind, hcast⟩ := h o List.mem_cons_self
    have hsmall : s.readSmall q o = ((.noObject, []), s) := by
      unfold State.readSmall
      rw [State.mayRead_host hq, hfind, if_neg (by decide)]
      exact State.read_unknown hq hfind hcast
    rw [State.readMany, hsmall]
    simp only
    rw [ih (fun x hx => h x (List.mem_cons_of_mem o hx)), List.flatMap_cons, List.append_assoc, List.append_assoc, List.append_assoc, List.append_assoc,
      List.append_assoc]
    rfl

theorem exec_readMany (h : s.Ready ses.val) (hbroken : frameBroken f = false) (hop : f.op = 0x12) (hlen : 4 ≤ f.payload.length)
    (hmod : f.payload.length % 4 = 0) :
    exec (.readMany ses f) s = .next ((s.seen ses.val).serve ses.val 0x12 f.reqId (.readMany ((pieces 4 f.payload).map leNat))).drain := by
  have hw : frameReq f 0 = some (.readMany ((pieces 4 f.payload).map leNat)) := by
    unfold frameReq
    simp only [hop]
    rw [if_neg (by decide), if_neg (by decide), if_neg (by decide), if_neg (by decide), if_neg (by decide), if_pos (by decide), if_neg (by omega)]
  exact exec_frame_serves (by simp [frameInstrs]) h hbroken hw (show f.op.toNat = 0x12 by rw [hop]; rfl)

theorem State.readMany_serves (h : s.Ready ses.val) {x : Answer} {l : List Nat}
    (hx : x = .next ((s.seen ses.val).serve ses.val 0x12 f.reqId (.readMany l)).drain) :
    (64 < l.length → x = .next { s.atRequest ses.val with out := [.resp ses.val 0x12 f.reqId 4 []] }) ∧
    (l.length ≤ 64 →
      ∃ (t : State) (p : List Byte), x = .next t ∧ t.out = [.resp ses.val 0x12 f.reqId 0 p] ∧ 8 * l.length ≤ p.length
        ∧ t.objs = s.objs ∧ t.blobs = s.blobs ∧ t.mode = s.mode) ∧
    (l.length ≤ 64 → (∀ o ∈ l, findObject o = none ∧ s.broadcast o = none) →
      x = .next { s.atRequest ses.val with out := [.resp ses.val 0x12 f.reqId 0 (l.flatMap (fun o => leBytes 4 o ++ [1, 0, 0, 0]))] }) := by
  rw [hx]
  refine ⟨fun hlong => ?_, fun hshort => ?_, fun hshort hunknown => ?_⟩
  · refine congrArg Host.Outcome.next (Eq.trans (congrArg State.drain ?_) (State.resp_drain h 0x12 f.reqId .range []))
    unfold State.serve
    exact if_pos hlong
  · obtain ⟨⟨k, hdraws⟩, hbytes⟩ := State.readMany_draws (hostRights ses.val) l (s.seen ses.val)
    have hserve : (s.seen ses.val).serve ses.val 0x12 f.reqId (.readMany l)
        = ((s.seen ses.val).readMany (hostRights ses.val) l).2.resp ses.val 0x12 f.reqId .ok ((s.seen ses.val).readMany (hostRights ses.val) l).1 := by
      unfold State.serve
      simp only
      rw [if_neg (by omega), State.sesRights_seen h]
    have hquiet : (((s.seen ses.val).readMany (hostRights ses.val) l).2.resp ses.val 0x12 f.reqId .ok
        ((s.seen ses.val).readMany (hostRights ses.val) l).1).emits = [] := by
      rw [hdraws]
      exact h.2.2.2.2.2.2.1
    rw [hserve, State.drain_of_quiet _ hquiet, hdraws]
    exact ⟨_, _, rfl, rfl, hbytes, rfl, rfl, rfl⟩
  · refine congrArg Host.Outcome.next (Eq.trans (congrArg State.drain ?_) (State.resp_drain h 0x12 f.reqId .ok _))
    unfold State.serve
    simp only
    rw [if_neg (by omega), State.sesRights_seen h, State.readMany_unknown (s := s.seen ses.val) (q := hostRights ses.val) rfl hunknown]

theorem State.readMany_clause (h : s.Ready ses.val) (hbroken : frameBroken f = false) (hop : f.op = 0x12) (hlen : 4 ≤ f.payload.length)
    (hmod : f.payload.length % 4 = 0) :
    let q : State := s.atRequest ses.val
    let l := (pieces 4 f.payload).map leNat
    (64 < l.length →
      exec (.readMany ses f) s = .next { q with out := [.resp ses.val 0x12 f.reqId 4 []] }) ∧
    (l.length ≤ 64 →
      ∃ (t : State) (p : List Byte), exec (.readMany ses f) s = .next t ∧ t.out = [.resp ses.val 0x12 f.reqId 0 p] ∧ 8 * l.length ≤ p.length
        ∧ t.objs = s.objs ∧ t.blobs = s.blobs ∧ t.mode = s.mode) ∧
    (l.length ≤ 64 → (∀ o ∈ l, findObject o = none ∧ s.broadcast o = none) →
      exec (.readMany ses f) s
        = .next { q with out := [.resp ses.val 0x12 f.reqId 0 (l.flatMap (fun o => leBytes 4 o ++ [1, 0, 0, 0]))] }) :=
  State.readMany_serves h (exec_readMany h hbroken hop hlen hmod)

/-! ### QUERY (R204) -/

theorem State.query_clause (h : s.Ready ses.val) (hbroken : frameBroken f = false) (hop : f.op = 0x15) (hlen : 4 ≤ f.payload.length) :
    let q : State := s.atRequest ses.val
    let v := BitVec.ofNat 32 (leNat (f.payload.take 4))
    (∀ (c : Committed) (rest : List Committed), s.acc.committed = c :: rest → c.fpr = (s.ses ses.val).fpr → c.req = v →
      s.clk < c.atNs + 600000000000 →
      exec (.query ses f) s = .next { q with out := [.resp ses.val 0x15 f.reqId 0 (leBytes 1 c.status ++ [0, 0, 0])] }) ∧
    ((∀ c ∈ s.acc.committed, c.fpr ≠ (s.ses ses.val).fpr ∨ c.req ≠ v ∨ c.atNs + 600000000000 ≤ s.clk) →
      exec (.query ses f) s = .next { q with out := [.resp ses.val 0x15 f.reqId 1 []] }) := by
  intro q v
  have hw : frameReq f 0 = some (.query v) := by
    unfold frameReq
    simp only [hop, List.drop_zero]
    rw [if_neg (by decide), if_neg (by decide), if_neg (by decide), if_neg (by decide), if_neg (by decide), if_neg (by decide), if_neg (by decide),
      if_neg (by decide), if_pos (by decide), if_neg (by omega)]
  have hfpr : ((s.seen ses.val).ses ses.val).fpr = (s.ses ses.val).fpr := congrArg (·.fpr) (s.ses_seen ses.val)
  have hexec {x : Option Nat} (hx : (s.seen ses.val).queryStatus (s.ses ses.val).fpr v = x) :
      exec (.query ses f) s = .next (match x with
        | some st => (s.seen ses.val).resp ses.val 0x15 f.reqId .ok (leBytes 1 st ++ [0, 0, 0])
        | none => (s.seen ses.val).resp ses.val 0x15 f.reqId .noObject []).drain := by
    rw [exec_frame_serves (by simp [frameInstrs]) h hbroken hw (show f.op.toNat = 0x15 by rw [hop]; rfl)]
    unfold State.serve
    simp only
    rw [hfpr, hx] <;> cases x <;> rfl
  refine ⟨fun c rest hc hcfpr hreq hclk => ?_, fun hnone => ?_⟩
  · have hkept : (s.seen ses.val).passed c.atNs (sec 600) = false := decide_eq_false (show ¬ c.atNs + sec 600 ≤ s.clk by simp [sec]; omega)
    have hfound : (s.seen ses.val).queryStatus (s.ses ses.val).fpr v = some c.status := by
      rw [State.queryStatus, show (s.seen ses.val).acc.committed = c :: rest from hc, List.find?_cons_of_pos (by simp [hcfpr, hreq, hkept])]
      rfl
    exact (hexec hfound).trans (congrArg Host.Outcome.next (State.resp_drain h 0x15 f.reqId .ok _))
  · have hmissing : (s.seen ses.val).queryStatus (s.ses ses.val).fpr v = none := by
      have hfind : (s.seen ses.val).acc.committed.find? (fun (c : Committed) => c.fpr == (s.ses ses.val).fpr && c.req == v
          && !(s.seen ses.val).passed c.atNs (sec 600)) = none := by
        rw [List.find?_eq_none]
        intro c hc hfound
        simp only [Bool.and_eq_true, beq_iff_eq, Bool.not_eq_true'] at hfound
        have hpassed : ¬ c.atNs + sec 600 ≤ s.clk := of_decide_eq_false hfound.2
        have hsec : sec 600 = 600000000000 := rfl
        rcases hnone c hc with hne | hne | hle
        · exact hne hfound.1.1
        · exact hne hfound.1.2
        · omega
      rw [State.queryStatus, hfind]
      rfl
    exact (hexec hmissing).trans (congrArg Host.Outcome.next (State.resp_drain h 0x15 f.reqId .noObject []))

/-! ### ABORT (R12, R200) -/

theorem State.abort_unknown (h : s.Ready ses.val) (hbroken : frameBroken f = false) (hop : f.op = 0x14) (hlen : 4 ≤ f.payload.length) :
    exec (.abortRequest ses f) s = .next { s.atRequest ses.val with out := [.resp ses.val 0x14 f.reqId 1 []] } := by
  have hw : frameReq f 0 = some (.abort (BitVec.ofNat 32 (leNat (f.payload.take 4)))) := by
    unfold frameReq
    simp only [hop, List.drop_zero]
    rw [if_neg (by decide), if_neg (by decide), if_neg (by decide), if_neg (by decide), if_neg (by decide), if_neg (by decide), if_neg (by decide),
      if_pos (by decide), if_neg (by omega)]
  obtain ⟨hwaits, hheld, hslow, haborts, hlater, hplan, hreq⟩ : (s.seen ses.val).NoneWaits := h.2.2.2.2.1
  rw [exec_frame_serves (by simp [frameInstrs]) h hbroken hw (show f.op.toNat = 0x14 by rw [hop]; rfl)]
  refine congrArg Host.Outcome.next (Eq.trans (congrArg State.drain ?_) (State.resp_drain h 0x14 f.reqId .noObject []))
  unfold State.serve State.abort
  simp only
  rw [hwaits, hheld, hslow, hlater, hreq]
  rfl

/-- A session with one write that waits for its commit point, and nothing else that does. -/
structure State.WaitsFor (s : State) (n : Nat) (r : PendReq) : Prop where
  serving : s.serving = true
  isOpen : 2 ≤ (s.ses n).state
  quiet : s.emits = []
  waits : s.acc.waits = [r]
  held : s.acc.held = []
  later : s.acc.later = []
  slow : s.acc.slow = []
  aborts : s.acc.aborts = []
  plan : s.tw.planReq = none

/-- ABORT of a write that waits takes it out of those that wait (R200). -/
theorem exec_abortRequest {r : PendReq} (h : s.WaitsFor ses.val r) (hbroken : frameBroken f = false) (hop : f.op = 0x14)
    (hlen : 4 ≤ f.payload.length) (hroute : r.route = .pdp) (hses : r.ses = ses.val)
    (hreq : r.req = BitVec.ofNat 32 (leNat (f.payload.take 4))) (hentries : r.entries ≠ []) :
    exec (.abortRequest ses f) s = .next ((s.seen ses.val).withdraw ses.val 0x14 f.reqId (BitVec.ofNat 32 (leNat (f.payload.take 4))) r).drain := by
  have hw : frameReq f 0 = some (.abort (BitVec.ofNat 32 (leNat (f.payload.take 4)))) := by
    unfold frameReq
    simp only [hop, List.drop_zero]
    rw [if_neg (by decide), if_neg (by decide), if_neg (by decide), if_neg (by decide), if_neg (by decide), if_neg (by decide), if_neg (by decide),
      if_pos (by decide), if_neg (by omega)]
  have hopen := h.isOpen
  have hrequest : s.start.request ses.val 0x14 f.reqId (.abort (BitVec.ofNat 32 (leNat (f.payload.take 4))))
      = (s.seen ses.val).serve ses.val 0x14 f.reqId (.abort (BitVec.ofNat 32 (leNat (f.payload.take 4)))) := by
    have hguard := State.start_answers (s := s) (n := ses.val) h.serving (by omega)
    have hne : ¬ (s.start.ses ses.val).state = 1 := fun he => absurd (he.symm.trans rfl) (show ¬ 1 = (s.ses ses.val).state by omega)
    have hout : (s.seen ses.val).outstanding ses.val ≤ 1 := by
      have hone : (s.seen ses.val).outstanding ses.val = (([r] ++ [] ++ [] ++ []).filter (fun (x : PendReq) => x.route == Route.pdp && x.ses == ses.val)).length + 0 + 0 := by
        rw [State.outstanding, show (s.seen ses.val).acc.waits = [r] from h.waits, show (s.seen ses.val).acc.held = [] from h.held,
          show (s.seen ses.val).acc.slow = [] from h.slow, show (s.seen ses.val).acc.later = [] from h.later,
          show (s.seen ses.val).acc.aborts = [] from h.aborts, show (s.seen ses.val).tw.planReq = none from h.plan]
        rfl
      rw [hone]
      exact Nat.le_trans (List.length_filter_le _ _) (Nat.le_refl 1)
    unfold State.request
    simp only
    rw [if_neg hguard, if_neg hne, show s.start.setSes ses.val { s.start.ses ses.val with lastFrame := s.start.clk } = s.seen ses.val from rfl,
      if_neg (by omega)]
    rfl
  have hmine : ((s.seen ses.val).acc.waits ++ (s.seen ses.val).acc.held).find? (fun (x : PendReq) => x.route == .pdp && x.ses == ses.val
      && x.req == BitVec.ofNat 32 (leNat (f.payload.take 4))) = some r := by
    rw [show (s.seen ses.val).acc.waits = [r] from h.waits, show (s.seen ses.val).acc.held = [] from h.held, List.append_nil,
      List.find?_cons_of_pos (by simp [hroute, hses, hreq])]
  rw [exec_frameInstrs (f := f) (ses := ses) (by simp [frameInstrs]), State.frame_request h.serving (by omega) hbroken hw,
    show f.op.toNat = 0x14 by rw [hop]; rfl, hrequest]
  refine congrArg (fun u : State => Host.Outcome.next u.drain) ?_
  unfold State.serve State.abort
  simp only
  rw [hmine]
  exact if_neg hentries

/-- The write no longer waits. -/
def State.forgetsWait (s : State) (r : PendReq) : State :=
  { s with acc := { s.acc with waits := s.acc.waits.filter (· != r), held := s.acc.held.filter (· != r) } }

/-- An ABORT waits for the answer of the twin. -/
def State.awaitsAbort (s : State) (n : Nat) (req : BitVec 32) (fpr : BitVec 256) (victim : BitVec 32) : State :=
  { s with acc := { s.acc with aborts := s.acc.aborts ++ [{ ses := n, req := req, fpr := fpr, victim := victim }] } }

theorem State.withdraw_unsent (s : State) (n op : Nat) (req victim : BitVec 32) {r : PendReq} (h : r.gen = none) :
    s.withdraw n op req victim r = ((s.forgetsWait r).unbatch r).resp n op req .ok [] := by
  unfold State.withdraw
  rw [h]
  rfl

theorem State.withdraw_sent (s : State) (n op : Nat) (req victim : BitVec 32) {r : PendReq} {g : Nat} (h : r.gen = some g) :
    s.withdraw n op req victim r = ((s.forgetsWait r).mirror (.withdraw r.fpr victim)).awaitsAbort n req r.fpr victim := by
  unfold State.withdraw
  rw [h]
  rfl

theorem State.abort_waiting {r : PendReq} (h : s.WaitsFor ses.val r) (hbroken : frameBroken f = false) (hop : f.op = 0x14)
    (hlen : 4 ≤ f.payload.length) (hroute : r.route = .pdp) (hses : r.ses = ses.val)
    (hreq : r.req = BitVec.ofNat 32 (leNat (f.payload.take 4))) (hentries : r.entries ≠ []) :
    (r.gen = none →
      ∃ t, exec (.abortRequest ses f) s = .next t ∧ t.acc.waits = [] ∧ t.out = [.resp ses.val 0x14 f.reqId 0 []] ∧ t.objs = s.objs
        ∧ t.blobs = s.blobs) ∧
    (r.gen ≠ none → s.drives = true →
      ∃ t, exec (.abortRequest ses f) s = .next t ∧ t.acc.waits = [] ∧ t.out = [] ∧ t.objs = s.objs ∧ t.blobs = s.blobs
        ∧ t.acc.aborts = [{ ses := ses.val, req := f.reqId, fpr := r.fpr, victim := BitVec.ofNat 32 (leNat (f.payload.take 4)) }]
        ∧ BatchItem.withdraw r.fpr (BitVec.ofNat 32 (leNat (f.payload.take 4))) ∈ t.tw.openBatch) := by
  have hgone : ((s.seen ses.val).forgetsWait r).acc.waits = [] := by
    have hwaits : (s.seen ses.val).acc.waits = [r] := h.waits
    rw [State.forgetsWait, hwaits]
    simp
  have haborts : ((s.seen ses.val).forgetsWait r).acc.aborts = [] := h.aborts
  have hquiet : ((s.seen ses.val).forgetsWait r).emits = [] := h.quiet
  have hout : ((s.seen ses.val).forgetsWait r).out = [] := rfl
  have hobjs : ((s.seen ses.val).forgetsWait r).objs = s.objs := rfl
  have hblobs : ((s.seen ses.val).forgetsWait r).blobs = s.blobs := rfl
  rw [exec_abortRequest h hbroken hop hlen hroute hses hreq hentries]
  generalize BitVec.ofNat 32 (leNat (f.payload.take 4)) = v
  refine ⟨fun hgen => ?_, fun hgen hdrives => ?_⟩
  · rw [State.withdraw_unsent _ _ _ _ _ hgen]
    generalize (s.seen ses.val).forgetsWait r = u at *
    have hdrain : ((u.unbatch r).resp ses.val 0x14 f.reqId .ok []).drain = (u.unbatch r).resp ses.val 0x14 f.reqId .ok [] :=
      State.drain_of_quiet _ hquiet
    rw [hdrain]
    refine ⟨_, rfl, hgone, ?_, hobjs, hblobs⟩
    exact congrArg (· ++ [Out.resp ses.val 0x14 f.reqId 0 []]) hout
  · obtain ⟨g, hg⟩ := Option.ne_none_iff_exists'.1 hgen
    have hdrives' : ((s.seen ses.val).forgetsWait r).drives = true := hdrives
    rw [State.withdraw_sent _ _ _ _ _ hg]
    generalize (s.seen ses.val).forgetsWait r = u at *
    have hmirror : u.mirror (.withdraw r.fpr v) = { u with tw := { u.tw with openBatch := .withdraw r.fpr v :: u.tw.openBatch } } := if_pos hdrives'
    rw [hmirror]
    have hdrain := State.drain_of_quiet
      (({ u with tw := { u.tw with openBatch := .withdraw r.fpr v :: u.tw.openBatch } } : State).awaitsAbort ses.val f.reqId r.fpr v) hquiet
    rw [hdrain]
    refine ⟨_, rfl, hgone, hout, hobjs, hblobs, ?_, List.mem_cons_self⟩
    exact congrArg (· ++ [({ ses := ses.val, req := f.reqId, fpr := r.fpr, victim := v } : PendAbort)]) haborts

end

/-- Settles O24, operation by operation. -/
theorem requests : Obligations.Requests := by
  unfold Obligations.Requests
  intro s ses f hbroken
  refine ⟨fun h hop hlen => State.read_clause h hbroken hop hlen, fun h hop hlen hmod => State.readMany_clause h hbroken hop hlen hmod,
    fun h hop hlen => State.query_clause h hbroken hop hlen, fun hop hlen => ⟨fun h => State.abort_unknown h hbroken hop hlen, ?_⟩⟩
  intro r hserv hopen hquiet hwaits hheld hlater hslow haborts hplan hroute hses hreq hentries
  exact State.abort_waiting ⟨hserv, hopen, hquiet, hwaits, hheld, hlater, hslow, haborts, hplan⟩ hbroken hop hlen hroute hses hreq hentries

end Sys2Proof.Machine
end

section
/-! Subscriptions (O26): SUBSCRIBE and UNSUBSCRIBE through the table of subscriptions, the notifications, and the ends by time. -/

namespace Sys2Proof.Machine

/-! ### Room in the pending area -/

/-- A record that finds room changes no register (R642). -/
theorem State.event_objs_of_room (s : State) (code p0 p1 p2 : Nat) (h : s.rcd.waitingCount < 32768) : (s.event code p0 p1 p2).objs = s.objs := by
  unfold State.event State.offer
  split
  · rfl
  · rw [if_neg (by omega)]
    exact State.accept_objs ..

/-! ### The table of subscriptions -/

theorem State.dropItems_pts (s : State) (p : Item → Bool) :
    (s.dropItems p).pts = { s.pts with items := s.pts.items.filter (fun i => !p i) } := by
  have hfold (l : List Item) (u : State) :
      (l.foldl (fun s i => s.mirror (.ledgerRemove (itemCode i.kind).1 (itemCode i.kind).2)) u).pts = u.pts := by
    induction l generalizing u with
    | nil => rfl
    | cons i l ih => rw [List.foldl_cons, ih, State.mirror_pts]
  unfold State.dropItems
  exact hfold _ _

theorem State.addItem_pts_subs (s : State) (i : Item) : (s.addItem i).pts.subs = s.pts.subs := by
  unfold State.addItem
  rw [State.mirror_pts]

theorem State.addSub_subs (s : State) (x : Sub) : (s.addSub x).pts.subs = s.pts.subs ++ [{ x with handle := s.pts.nextHandle }] := by
  unfold State.addSub
  simp only
  rw [State.mirror_pts, State.addItem_pts_subs]

/-- What a removed handle leaves. -/
theorem State.removeSub_pts (s : State) (h : Nat) :
    (s.removeSub h).pts.subs = s.pts.subs.filter (fun (x : Sub) => x.handle != h)
      ∧ (s.removeSub h).pts.items = s.pts.items.filter (fun i => !isSubItem h i) := by
  unfold State.removeSub
  rw [State.mirror_pts, State.dropItems_pts]
  exact ⟨rfl, rfl⟩

/-- What a step on the subscriptions leaves of the rest. -/
structure State.SubsOnly (s t : State) : Prop where
  objs : t.objs = s.objs
  blobs : t.blobs = s.blobs
  emits : t.emits = s.emits
  acc : t.acc = s.acc
  plan : t.tw.plan = s.tw.plan
  inStep : t.tw.inStep = s.tw.inStep
  rcd : t.rcd = s.rcd
  clk : t.clk = s.clk
  mode : t.mode = s.mode
  out : t.out = s.out

theorem State.SubsOnly.refl (s : State) : s.SubsOnly s := ⟨rfl, rfl, rfl, rfl, rfl, rfl, rfl, rfl, rfl, rfl⟩

theorem State.SubsOnly.trans {s t u : State} (h : s.SubsOnly t) (g : t.SubsOnly u) : s.SubsOnly u :=
  ⟨g.objs.trans h.objs, g.blobs.trans h.blobs, g.emits.trans h.emits, g.acc.trans h.acc, g.plan.trans h.plan, g.inStep.trans h.inStep,
    g.rcd.trans h.rcd, g.clk.trans h.clk, g.mode.trans h.mode, g.out.trans h.out⟩

theorem State.SubsOnly.foldl {α : Type} {g : State → α → State} (hg : ∀ (s : State) (a : α), s.SubsOnly (g s a)) (l : List α) (s : State) :
    s.SubsOnly (l.foldl g s) := by
  induction l generalizing s with
  | nil => exact .refl s
  | cons a l ih => exact (hg s a).trans (ih _)

theorem State.SubsOnly.standby {s t : State} (h : s.SubsOnly t) : t.healthyStandby = s.healthyStandby :=
  State.healthyStandby_congr (State.get_congr h.objs _) (State.get_congr h.objs _) h.inStep

theorem State.addSub_only (s : State) (x : Sub) : s.SubsOnly (s.addSub x) :=
  ⟨s.addSub_objs x, s.addSub_blobs x, s.addSub_emits x, s.addSub_acc x, s.addSub_tw_plan x, s.addSub_tw_inStep x, s.addSub_rcd x, s.addSub_clk x,
    s.addSub_mode x, s.addSub_out x⟩

theorem State.removeSub_only (s : State) (h : Nat) : s.SubsOnly (s.removeSub h) :=
  ⟨s.removeSub_objs h, s.removeSub_blobs h, s.removeSub_emits h, s.removeSub_acc h, s.removeSub_tw_plan h, s.removeSub_tw_inStep h,
    s.removeSub_rcd h, s.removeSub_clk h, s.removeSub_mode h, s.removeSub_out h⟩

/-- Subscriptions added one by one are appended in order. -/
theorem State.foldl_addSub_subs {α : Type} (g : State → α → Sub) (l : List α) (s : State) :
    ∃ new : List Sub, (l.foldl (fun (u : State) a => u.addSub (g u a)) s).pts.subs = s.pts.subs ++ new ∧ new.length = l.length
      ∧ ∀ a ∈ l, ∃ x ∈ new, ∃ (u : State) (k : Nat), x = { g u a with handle := k } := by
  induction l generalizing s with
  | nil => exact ⟨[], (List.append_nil _).symm, rfl, fun a ha => absurd ha List.not_mem_nil⟩
  | cons a l ih =>
    obtain ⟨new, hnew, hlen, hall⟩ := ih (s.addSub (g s a))
    refine ⟨{ g s a with handle := s.pts.nextHandle } :: new, ?_, congrArg (· + 1) hlen, fun b hb => ?_⟩
    · rw [List.foldl_cons, hnew, State.addSub_subs, List.append_assoc]
      rfl
    · rcases List.mem_cons.1 hb with rfl | hb
      · exact ⟨_, List.mem_cons_self, s, _, rfl⟩
      · obtain ⟨x, hx, hxa⟩ := hall b hb
        exact ⟨x, List.mem_cons_of_mem _ hx, hxa⟩

/-- Handles removed one by one. -/
theorem State.foldl_removeSub_pts (l : List Nat) (s : State) :
    (∀ x : Sub, x ∈ (l.foldl State.removeSub s).pts.subs ↔ x ∈ s.pts.subs ∧ x.handle ∉ l)
      ∧ (∀ i ∈ (l.foldl State.removeSub s).pts.items, ∀ h ∈ l, i.kind ≠ .subscription h)
      ∧ (∀ i ∈ (l.foldl State.removeSub s).pts.items, i ∈ s.pts.items) := by
  induction l generalizing s with
  | nil => exact ⟨fun x => by simp, fun i _ h hh => absurd hh List.not_mem_nil, fun i hi => hi⟩
  | cons h l ih =>
    obtain ⟨hsubs, hkinds, hitems⟩ := ih (s.removeSub h)
    obtain ⟨hsubs', hitems'⟩ := s.removeSub_pts h
    rw [List.foldl_cons]
    refine ⟨fun x => ?_, fun i hi k hk => ?_, fun i hi => ?_⟩
    · rw [hsubs, hsubs', List.mem_filter, List.mem_cons]
      simp only [bne_iff_ne, ne_eq, not_or]
      exact ⟨fun ⟨⟨hm, hne⟩, hn⟩ => ⟨hm, hne, hn⟩, fun ⟨hm, hne, hn⟩ => ⟨⟨hm, hne⟩, hn⟩⟩
    · rcases List.mem_cons.1 hk with rfl | hk
      · have hin := hitems i hi
        rw [hitems', List.mem_filter] at hin
        simpa [isSubItem] using hin.2
      · exact hkinds i hi k hk
    · have hin := hitems i hi
      rw [hitems', List.mem_filter] at hin
      exact hin.1

/-! ### SUBSCRIBE and UNSUBSCRIBE (R238 to R242) -/

/-- The subscription that an entry asks for. -/
def State.subOf (s : State) (n : Nat) (x : Session) (e : SubEntry) : Sub :=
  { handle := 0, part := x.part, fpr := x.fpr, point := e.point, sub := e.sub, cls := e.cls, minInt := e.minInt, inc := e.inc, life := e.life
    atNs := s.clk, ses := some n, port := x.port }

section

variable {s : State} {ses : Fin 64} {f : Frame}

/-- An operation that ends with an answer at once, in a session that is ready. -/
theorem State.enters (h : s.Ready ses.val) {u : State} (hu : (s.seen ses.val).SubsOnly u) (op : Nat) (req : BitVec 32) (p : List Byte) :
    ∃ t : State, (u.enterRequest { u.pdpReq ses.val op req [] with payload := p }).drain = t ∧ Out.resp ses.val op req 0 p ∈ t.out ∧ t.pts = u.pts
      ∧ t.objs = s.objs ∧ t.blobs = s.blobs := by
  obtain ⟨-, -, hopen, -, ⟨-, -, -, -, -, hplan, -⟩, hstandby, hquiet, -⟩ := h
  have hses : u.ses ses.val = (s.seen ses.val).ses ses.val := State.ses_congr (congrArg (·.sessions) hu.acc) _
  have hopen' : 2 ≤ (u.ses ses.val).state := by
    rw [hses, s.ses_seen]
    exact hopen
  have henter := State.enterRequest_empty (s := u) (r := { u.pdpReq ses.val op req [] with payload := p }) (hu.plan.trans hplan)
    (hu.standby.trans ((s.healthyStandby_seen ses.val).trans hstandby)) rfl rfl hopen' rfl
  have hdrain := State.drain_of_quiet (({ u with acc := { u.acc with pos := u.acc.pos + 1 } } : State).emit (.resp ses.val op req 0 p))
    (hu.emits.trans hquiet)
  refine ⟨_, (congrArg State.drain henter).trans hdrain, List.mem_append_right _ List.mem_cons_self, rfl, hu.objs, hu.blobs⟩

/-- The same with no payload, of a request formed before the operation. -/
theorem State.enters_plain (h : s.Ready ses.val) {u : State} (hu : (s.seen ses.val).SubsOnly u) (op : Nat) (req : BitVec 32) :
    ∃ t : State, (u.enterRequest ((s.seen ses.val).pdpReq ses.val op req [])).drain = t ∧ Out.resp ses.val op req 0 [] ∈ t.out ∧ t.pts = u.pts
      ∧ t.objs = s.objs ∧ t.blobs = s.blobs := by
  have hses : (s.seen ses.val).ses ses.val = u.ses ses.val := (State.ses_congr (congrArg (·.sessions) hu.acc) _).symm
  have hreq : (s.seen ses.val).pdpReq ses.val op req [] = u.pdpReq ses.val op req [] := by
    unfold State.pdpReq
    rw [hses]
  rw [hreq]
  exact State.enters h hu op req []

theorem length_flatMap_four {α β : Type} {l : List α} {g : α → List β} (hg : ∀ a, (g a).length = 4) : (l.flatMap g).length = 4 * l.length := by
  induction l with
  | nil => rfl
  | cons a l ih =>
    rw [List.flatMap_cons, List.length_append, List.length_cons, hg, ih]
    omega

theorem exec_subscribe (h : s.Ready ses.val) (hbroken : frameBroken f = false) (hop : f.op = 0x20) (hlen : 20 ≤ f.payload.length)
    (hmod : f.payload.length % 20 = 0) :
    exec (.subscribe ses f) s = .next ((s.seen ses.val).subscribe ses.val 0x20 f.reqId ((pieces 20 f.payload).map subEntry)).drain := by
  have hw : frameReq f 0 = some (.subscribe ((pieces 20 f.payload).map subEntry)) := by
    unfold frameReq
    simp only [hop]
    rw [if_neg (by decide), if_neg (by decide), if_neg (by decide), if_neg (by decide), if_neg (by decide), if_neg (by decide), if_neg (by decide),
      if_neg (by decide), if_neg (by decide), if_pos (by decide), if_neg (by omega)]
  exact exec_frame_serves (by simp [frameInstrs]) h hbroken hw (show f.op.toNat = 0x20 by rw [hop]; rfl)

theorem State.subscribe_clause (h : s.Ready ses.val) (hbroken : frameBroken f = false) (hop : f.op = 0x20) (hlen : 20 ≤ f.payload.length)
    (hmod : f.payload.length % 20 = 0) {l : List SubEntry} (hl : l = (pieces 20 f.payload).map subEntry) :
    ((s.atRequest ses.val).subscribeCheck ses.val l = none →
      ∃ (t : State) (p : List Byte), exec (.subscribe ses f) s = .next t ∧ Out.resp ses.val 0x20 f.reqId 0 p ∈ t.out ∧ p.length = 4 * l.length
        ∧ t.pts.subs.length = s.pts.subs.length + l.length ∧ (∀ x ∈ s.pts.subs, x ∈ t.pts.subs)
        ∧ (∀ e ∈ l, ∃ x ∈ t.pts.subs, x.point = e.point ∧ x.sub = e.sub ∧ x.cls = e.cls ∧ x.minInt = e.minInt ∧ x.ses = some ses.val)
        ∧ t.objs = s.objs ∧ t.blobs = s.blobs) ∧
    (∀ r : Refuse, (s.atRequest ses.val).subscribeCheck ses.val l = some r →
      ∃ t, exec (.subscribe ses f) s = .next t ∧ Out.resp ses.val 0x20 f.reqId r.st.code r.payload ∈ t.out ∧ t.pts = s.pts
        ∧ t.blobs = s.blobs) := by
  rw [exec_subscribe h hbroken hop hlen hmod, ← hl]
  refine ⟨fun hc => ?_, fun r hc => ?_⟩
  · have hc' : (s.seen ses.val).subscribeCheck ses.val l = none := hc
    obtain ⟨new, hnew, hcount, hall⟩ := State.foldl_addSub_subs (fun u e => u.subOf ses.val ((s.seen ses.val).ses ses.val) e) l (s.seen ses.val)
    have honly := State.SubsOnly.foldl (g := fun (u : State) e => u.addSub (u.subOf ses.val ((s.seen ses.val).ses ses.val) e))
      (fun u e => u.addSub_only _) l (s.seen ses.val)
    have hsub : (s.seen ses.val).subscribe ses.val 0x20 f.reqId l
        = (l.foldl (fun (u : State) e => u.addSub (u.subOf ses.val ((s.seen ses.val).ses ses.val) e)) (s.seen ses.val)).enterRequest
          { (l.foldl (fun (u : State) e => u.addSub (u.subOf ses.val ((s.seen ses.val).ses ses.val) e)) (s.seen ses.val)).pdpReq
              ses.val 0x20 f.reqId [] with
            payload := (List.range l.length).flatMap (fun i => leBytes 4 (((s.seen ses.val).pts.nextHandle + i - 1) % 4294967295 + 1)) } := by
      unfold State.subscribe
      simp only
      rw [hc']
      rfl
    rw [hsub]
    generalize hp : (List.range l.length).flatMap (fun i => leBytes 4 (((s.seen ses.val).pts.nextHandle + i - 1) % 4294967295 + 1)) = p
    have hplen : p.length = 4 * l.length := by
      rw [← hp, length_flatMap_four, List.length_range]
      exact fun _ => leBytes_length ..
    generalize l.foldl (fun (u : State) e => u.addSub (u.subOf ses.val ((s.seen ses.val).ses ses.val) e)) (s.seen ses.val) = u at *
    obtain ⟨t, ht, hans, hpts, hobjs, hblobs⟩ := State.enters h honly 0x20 f.reqId p
    have hsubs : t.pts.subs = s.pts.subs ++ new := (congrArg (·.subs) hpts).trans hnew
    refine ⟨t, p, congrArg Host.Outcome.next ht, hans, hplen, ?_, ?_, ?_, hobjs, hblobs⟩
    · rw [hsubs, List.length_append, hcount]
    · rw [hsubs]
      exact fun x hx => List.mem_append_left _ hx
    · intro e he
      obtain ⟨x, hx, v, k, rfl⟩ := hall e he
      rw [hsubs]
      exact ⟨_, List.mem_append_right _ hx, rfl, rfl, rfl, rfl, rfl⟩
  · have hc' : (s.seen ses.val).subscribeCheck ses.val l = some r := hc
    have hsub : (s.seen ses.val).subscribe ses.val 0x20 f.reqId l = ((s.seen ses.val).notesExcess r).resp ses.val 0x20 f.reqId r.st r.payload := by
      unfold State.subscribe
      simp only
      rw [hc']
      rfl
    obtain ⟨-, hblobs, -, hpts, -⟩ := (s.seen ses.val).notesExcess_frame r
    have hemits : ((s.seen ses.val).notesExcess r).emits = s.emits := by
      unfold State.notesExcess State.noteRefusal
      split
      · exact State.event_emits ..
      · rfl
    have hdrain := State.drain_of_quiet (((s.seen ses.val).notesExcess r).resp ses.val 0x20 f.reqId r.st r.payload)
      (hemits.trans h.2.2.2.2.2.2.1)
    rw [hsub, hdrain]
    exact ⟨_, rfl, List.mem_append_right _ List.mem_cons_self, hpts, hblobs⟩

theorem exec_unsubscribe (h : s.Ready ses.val) (hbroken : frameBroken f = false) (hop : f.op = 0x21) (hlen : 4 ≤ f.payload.length)
    (hmod : f.payload.length % 4 = 0) :
    exec (.unsubscribe ses f) s = .next ((s.seen ses.val).unsubscribe ses.val 0x21 f.reqId ((pieces 4 f.payload).map leNat)).drain := by
  have hw : frameReq f 0 = some (.unsubscribe ((pieces 4 f.payload).map leNat)) := by
    unfold frameReq
    simp only [hop]
    rw [if_neg (by decide), if_neg (by decide), if_neg (by decide), if_neg (by decide), if_neg (by decide), if_neg (by decide), if_neg (by decide),
      if_neg (by decide), if_neg (by decide), if_neg (by decide), if_pos (by decide), if_neg (by omega)]
  exact exec_frame_serves (by simp [frameInstrs]) h hbroken hw (show f.op.toNat = 0x21 by rw [hop]; rfl)

theorem State.unsubscribe_clause (h : s.Ready ses.val) (hbroken : frameBroken f = false) (hop : f.op = 0x21) (hlen : 4 ≤ f.payload.length)
    (hmod : f.payload.length % 4 = 0) {l : List Nat} (hl : l = (pieces 4 f.payload).map leNat) (hmany : l.length ≤ 2048) :
    ((∀ h ∈ l, ∃ x ∈ s.pts.subs, x.handle = h ∧ x.ses = some ses.val) →
      ∃ t, exec (.unsubscribe ses f) s = .next t ∧ Out.resp ses.val 0x21 f.reqId 0 [] ∈ t.out
        ∧ (∀ x : Sub, x ∈ t.pts.subs ↔ x ∈ s.pts.subs ∧ x.handle ∉ l) ∧ t.objs = s.objs ∧ t.blobs = s.blobs) ∧
    (∀ h ∈ l, (∀ x ∈ s.pts.subs, x.handle = h → x.ses ≠ some ses.val) →
      ∃ (t : State) (p : List Byte), exec (.unsubscribe ses f) s = .next t ∧ t.out = [.resp ses.val 0x21 f.reqId 1 p] ∧ t.pts = s.pts) := by
  have hstandby : ¬ (s.seen ses.val).mode = .standby := h.2.1
  have hquiet : s.emits = [] := h.2.2.2.2.2.2.1
  rw [exec_unsubscribe h hbroken hop hlen hmod, ← hl]
  unfold State.unsubscribe
  simp only
  rw [if_neg hstandby, if_neg (by omega)]
  refine ⟨fun hall => ?_, fun k hk hnone => ?_⟩
  · have hnone : (l.zipIdx).find? (fun e => !(s.seen ses.val).pts.subs.any (fun (x : Sub) => x.handle == e.1 && x.ses == some ses.val)) = none := by
      rw [List.find?_eq_none]
      intro e he
      obtain ⟨x, hx, hxh, hxs⟩ := hall e.1 (List.fst_mem_of_mem_zipIdx he)
      have hany : (s.seen ses.val).pts.subs.any (fun (x : Sub) => x.handle == e.1 && x.ses == some ses.val) = true :=
        List.any_eq_true.2 ⟨x, hx, by simp [hxh, hxs]⟩
      rw [hany]
      decide
    rw [hnone]
    simp only
    obtain ⟨hsubs, -, -⟩ := State.foldl_removeSub_pts l (s.seen ses.val)
    have honly := State.SubsOnly.foldl (fun u k => State.removeSub_only u k) l (s.seen ses.val)
    generalize l.foldl State.removeSub (s.seen ses.val) = u at *
    have henters := State.enters_plain h honly 0x21 f.reqId
    obtain ⟨t, ht, hans, hpts, hobjs, hblobs⟩ := henters
    refine ⟨t, congrArg Host.Outcome.next ht, hans, fun x => ?_, hobjs, hblobs⟩
    rw [hpts]
    exact hsubs x
  · have hsome : ((l.zipIdx).find? (fun e => !(s.seen ses.val).pts.subs.any (fun (x : Sub) => x.handle == e.1 && x.ses == some ses.val))).isSome = true := by
      obtain ⟨i, hi, hki⟩ := List.getElem_of_mem hk
      rw [List.find?_isSome]
      refine ⟨(k, i), ?_, ?_⟩
      · rw [List.mk_mem_zipIdx_iff_getElem?, List.getElem?_eq_getElem hi, hki]
      · have hany : (s.seen ses.val).pts.subs.any (fun (x : Sub) => x.handle == k && x.ses == some ses.val) = false := by
          rw [List.any_eq_false]
          intro x hx hxk
          simp only [Bool.and_eq_true, beq_iff_eq] at hxk
          exact hnone x hx hxk.1 hxk.2
        simp only
        rw [hany]
        rfl
    obtain ⟨e, he⟩ := Option.isSome_iff_exists.1 hsome
    rw [he]
    simp only
    have hdrain := State.drain_of_quiet ((s.seen ses.val).resp ses.val 0x21 f.reqId .noObject (leBytes 2 e.2)) hquiet
    rw [hdrain]
    exact ⟨_, _, rfl, rfl, rfl⟩

end

/-! ### Notifications (R241, R243) -/

/-- What a sent notification leaves of its subscription. -/
theorem State.notified_sent {s : State} {x : Sub} (hx : x ∈ s.pts.subs) :
    ∃ y ∈ (s.notified x true).pts.subs, y.handle = x.handle ∧ y.resync = false ∧ y.changes = 0 ∧ y.lastSent = s.clk :=
  ⟨_, List.mem_map.2 ⟨x, hx, if_pos rfl⟩, rfl, rfl, rfl, rfl⟩

theorem State.notify_clause {s : State} (h n : Nat) (x : Sub) (hfind : s.pts.subs.find? (fun y => y.handle == h) = some x) (hses : x.ses = some n)
    (hbac : x.bacnet = false) (hserv : s.serving = true) (hmode : s.mode ≠ .standby) :
    (x.resync = true →
      ∃ t, exec (.notify h) s = .next t ∧ t.out = [.notify n h (s.notifyPayload x)] ∧ t.clk = s.clk ∧ t.objs = s.objs
        ∧ (∃ y ∈ t.pts.subs, y.handle = h ∧ y.resync = false ∧ y.changes = 0 ∧ y.lastSent = s.clk)) ∧
    (x.resync = false → x.changes = 0 → s.nat (Oid.PT_STATUS x.point) = x.lastStatus → exec (.notify h) s = .next { s with out := [] }) ∧
    (x.resync = false → s.notable x = true →
      ∃ (t : State) (p : List Byte), exec (.notify h) s = .next t ∧ t.out = [.notify n h p] ∧ x.lastSent + 1000000 * x.minInt ≤ t.clk
        ∧ t.objs = s.objs ∧ (∃ y ∈ t.pts.subs, y.handle = h ∧ y.changes = 0 ∧ y.lastSent = t.clk)) := by
  have hmem := List.mem_of_find?_eq_some hfind
  have hhandle : x.handle = h := by simpa using List.find?_some hfind
  have hexec : exec (.notify h) s = .next (s.start.notify h) := rfl
  have hgo : s.start.notify h
      = if !x.resync && x.changes = 0 && s.nat (Oid.PT_STATUS x.point) == x.lastStatus then s.start
        else if x.resync || s.notable x then
          ((if x.resync then s.start else s.start.reach (x.lastSent + ms x.minInt)).notified x true).emit
            (.notify n h ((if x.resync then s.start else s.start.reach (x.lastSent + ms x.minInt)).notifyPayload x))
        else s.start.notified x false := by
    have hserv' : s.start.serving = true := hserv
    have hmode' : (s.start.mode == Mode.standby) = false := by simpa using hmode
    have hfind' : s.start.pts.subs.find? (fun y => y.handle == h) = some x := hfind
    have hblock : (!s.start.serving || s.start.mode == .standby || (false && (s.start.pts.dccDisabled || s.start.pts.dccNoInit) && !s.start.dccOver))
        = false := by
      rw [hserv', hmode']
      rfl
    unfold State.notify
    rw [hfind']
    simp only
    rw [hbac, if_neg (by decide), hses]
    simp only
    rw [hblock, if_neg (by decide)]
    rfl
  refine ⟨fun hr => ?_, fun hr hc hst => ?_, fun hr hn => ?_⟩
  · rw [hexec, hgo, hr]
    obtain ⟨y, hy, hyh, hyr, hyc, hyl⟩ := State.notified_sent (s := s.start) hmem
    exact ⟨_, rfl, rfl, rfl, rfl, y, hy, hyh.trans hhandle, hyr, hyc, hyl⟩
  · have hcond : (!x.resync && x.changes = 0 && s.nat (Oid.PT_STATUS x.point) == x.lastStatus) = true := by simp [hr, hc, hst]
    rw [hexec, hgo, if_pos hcond]
    rfl
  · have hcond : ¬ (!x.resync && x.changes = 0 && s.nat (Oid.PT_STATUS x.point) == x.lastStatus) = true := by
      intro hall
      simp only [Bool.and_eq_true, decide_eq_true_eq, beq_iff_eq] at hall
      obtain ⟨⟨-, hc⟩, hst⟩ := hall
      simp [State.notable, hc, hst] at hn
    rw [hexec, hgo, if_neg hcond, hr, hn, if_pos (by decide), if_neg (by decide)]
    obtain ⟨y, hy, hyh, -, hyc, hyl⟩ := State.notified_sent (s := s.start.reach (x.lastSent + ms x.minInt)) hmem
    refine ⟨_, _, rfl, rfl, ?_, rfl, y, hy, hyh.trans hhandle, hyc, hyl⟩
    have hreach := s.start.le_reach_clk (x.lastSent + ms x.minInt)
    have hms : ms x.minInt = 1000000 * x.minInt := Nat.mul_comm ..
    rw [hms] at hreach
    rw [hms]
    exact hreach

/-! ### The ends of subscriptions (R242, R243) -/

/-- Subscriptions that end are gone with their items, and their end is recorded. -/
theorem State.endSubs_spec {s : State} (hroom : s.Room) (fpr : BitVec 256) (l : List Nat) :
    (s.endSubs fpr l).clk = s.clk ∧ (s.endSubs fpr l).objs = s.objs
      ∧ (∀ y : Sub, y ∈ (s.endSubs fpr l).pts.subs ↔ y ∈ s.pts.subs ∧ y.handle ∉ l)
      ∧ (∀ i ∈ (s.endSubs fpr l).pts.items, ∀ k ∈ l, i.kind ≠ .subscription k)
      ∧ (s.endSubs fpr l).Recorded 0x0F07 0xFFFF l.length (fpr.toNat % 4294967296) 0 := by
  have honly := State.SubsOnly.foldl (fun u k => State.removeSub_only u k) l s
  obtain ⟨hsubs, hkinds, -⟩ := State.foldl_removeSub_pts l s
  have hwait : (l.foldl State.removeSub s).rcd.waitingCount < 32768 := by
    rw [honly.rcd]
    exact Nat.lt_of_lt_of_le (Nat.lt_add_of_pos_right (by decide)) hroom
  unfold State.endSubs
  generalize l.foldl State.removeSub s = u at *
  refine ⟨(State.event_clk ..).trans honly.clk, (u.event_objs_of_room _ _ _ _ hwait).trans honly.objs, ?_, ?_, u.event_recorded _ _ _ _ hwait⟩
  · rw [State.event_pts]
    exact hsubs
  · rw [State.event_pts]
    exact hkinds

theorem State.subscriptionEnds_clause {s : State} (h : Nat) (x : Sub) (hfind : s.pts.subs.find? (fun y => y.handle == h) = some x)
    (hserv : s.serving = true) (hroom : s.Room) :
    (x.ses = none → x.bacnet = false →
      ∃ t, exec (.subscriptionHoldExpiry h) s = .next t ∧ x.closedAt + 30000000000 ≤ t.clk ∧ t.objs = s.objs ∧ h ∈ s.heldWith x
        ∧ (∀ y : Sub, y ∈ t.pts.subs ↔ y ∈ s.pts.subs ∧ y.handle ∉ s.heldWith x)
        ∧ (∀ i ∈ t.pts.items, ∀ k ∈ s.heldWith x, i.kind ≠ .subscription k)
        ∧ t.Recorded 0x0F07 0xFFFF (s.heldWith x).length (x.fpr.toNat % 4294967296) 0) ∧
    (x.life ≠ 0 →
      ∃ t, exec (.subscriptionLifetimeExpiry h) s = .next t ∧ x.atNs + 1000000000 * x.life ≤ t.clk ∧ t.objs = s.objs
        ∧ (∀ y : Sub, y ∈ t.pts.subs ↔ y ∈ s.pts.subs ∧ y.handle ≠ h) ∧ (∀ i ∈ t.pts.items, i.kind ≠ .subscription h)
        ∧ t.Recorded 0x0F07 0xFFFF 1 (x.fpr.toNat % 4294967296) 0) := by
  have hmem := List.mem_of_find?_eq_some hfind
  have hhandle : x.handle = h := by simpa using List.find?_some hfind
  have hfind' : s.start.pts.subs.find? (fun (y : Sub) => y.handle == h) = some x := hfind
  have hserv' : s.start.serving = true := hserv
  refine ⟨fun hses hbac => ?_, fun hlife => ?_⟩
  · have hexec : exec (.subscriptionHoldExpiry h) s = .next ((s.start.reach (x.closedAt + sec 30)).endSubs x.fpr (s.heldWith x)) := by
      show execSubscriptionHoldExpiry h s = _
      unfold execSubscriptionHoldExpiry
      simp only
      rw [hfind']
      simp only
      rw [if_pos ⟨by rw [hses]; rfl, by rw [hbac]; rfl, hserv'⟩]
      rfl
    have hheld : h ∈ s.heldWith x := by
      refine List.mem_map.2 ⟨x, List.mem_filter.2 ⟨hmem, ?_⟩, hhandle⟩
      simp [hses, hbac]
    obtain ⟨hclk, hobjs, hsubs, hitems, hrec⟩ := State.endSubs_spec (s := s.start.reach (x.closedAt + sec 30)) hroom x.fpr (s.heldWith x)
    have hreach := s.start.le_reach_clk (x.closedAt + sec 30)
    have hsec : sec 30 = 30000000000 := by decide
    rw [← hsec]
    exact ⟨_, hexec, Nat.le_trans hreach (Nat.le_of_eq hclk.symm), hobjs, hheld, hsubs, hitems, hrec⟩
  · have hexec : exec (.subscriptionLifetimeExpiry h) s = .next ((s.start.reach (x.atNs + sec x.life)).endSubs x.fpr [h]) := by
      show execSubscriptionLifetimeExpiry h s = _
      unfold execSubscriptionLifetimeExpiry
      simp only
      rw [hfind']
      simp only
      rw [if_pos ⟨hlife, hserv'⟩]
    obtain ⟨hclk, hobjs, hsubs, hitems, hrec⟩ := State.endSubs_spec (s := s.start.reach (x.atNs + sec x.life)) hroom x.fpr [h]
    have hreach := s.start.le_reach_clk (x.atNs + sec x.life)
    have hsec : sec x.life = 1000000000 * x.life := Nat.mul_comm ..
    rw [← hsec]
    refine ⟨_, hexec, Nat.le_trans hreach (Nat.le_of_eq hclk.symm), hobjs, fun y => ?_, fun i hi => hitems i hi h List.mem_cons_self, hrec⟩
    rw [hsubs, List.mem_singleton]
    rfl

/-- Settles O26: a clause for SUBSCRIBE, one for UNSUBSCRIBE, one for NOTIFY, and one for the two ends by time. -/
theorem subscriptions : Obligations.Subscriptions := by
  unfold Obligations.Subscriptions
  intro s
  exact ⟨fun ses f l h hbroken hop hlen hmod hl => State.subscribe_clause h hbroken hop hlen hmod hl,
    fun ses f l h hbroken hop hlen hmod hl hmany => State.unsubscribe_clause h hbroken hop hlen hmod hl hmany,
    State.notify_clause, State.subscriptionEnds_clause⟩

end Sys2Proof.Machine
end
